-- ==== Sys2Proof/Word.lean ====
section
/-! DEFINITION. Words, the numbers of the module's units, and the operand types of its commands. -/

namespace Sys2Proof

/-- One byte as it stands in a message, in a DOMAIN value or in memory. -/
abbrev Byte := BitVec 8
/-- A string of bytes, first byte first (R352: least significant byte of a value first). -/
abbrev Bytes := List Byte
/-- A bay, 0 to 15 (R24). -/
abbrev Bay := Fin 16
/-- A channel, 0 to 255; channel c belongs to bay c / 16 (R24). -/
abbrev Chan := Fin 256
/-- A site, 0 to 63 (R25). -/
abbrev Site := Fin 64
/-- A pin die, 0 to 3; die n serves bays 4n to 4n + 3 (R6). -/
abbrev Die := Fin 4
/-- A serial lane, 0 to 31 (R311). -/
abbrev Lane := Fin 32
/-- A link of the Etrekai Link, 0 to 15 (R322). -/
abbrev Link := Fin 16
/-- A stream, 0 to 63 (R329). -/
abbrev Stream := Fin 64
/-- A kernel graph, 0 to 63 (R245). -/
abbrev Graph := Fin 64
/-- A result bench, 0 to 11 (R236). -/
abbrev Bench := Fin 12
/-- A pseudo-channel of the HBM stacks, 0 to 63 (R268). -/
abbrev Pc := Fin 64
/-- A DMA engine, 0 to 3 (R293). -/
abbrev Engine := Fin 4
/-- A timed pulse generator, 0 to 7 (R346). -/
abbrev Tpg := Fin 8

/-- The role a DOP session runs in, or a path into the dictionary carries (R353). -/
inductive Role where
  | observer | operator | officer
  deriving DecidableEq, Repr

/-- An object address: index and subindex (R350). -/
structure ObjAddr where
  index : BitVec 16
  sub   : BitVec 8
  deriving DecidableEq, Repr

/-- One write item (R361): address, type code, epoch, value bytes. -/
structure WItem where
  addr  : ObjAddr
  type  : BitVec 8
  epoch : BitVec 16
  value : Bytes
  deriving DecidableEq, Repr

/-- The classes of a memory request (R279): pattern and capture are reserved, the rest is best effort. -/
inductive MemClass where
  | pattern | capture | bestEffort
  deriving DecidableEq, Repr

/-- What a hold-up check measures: the store's voltage before the draw in mV, the step at the start of the draw in µV
and the droop during the draw in µV (R448).  They come from the analog supply, so they are operands. -/
structure Sample where
  v0    : Nat
  step  : Nat
  droop : Nat
  deriving DecidableEq, Repr, Inhabited

/-- The body of MASKED_WRITE (R367). -/
structure MaskedWrite where
  base   : BitVec 16
  sub    : BitVec 8
  type   : BitVec 8
  kind   : BitVec 2
  mask   : BitVec 256
  epochs : BitVec 256
  value  : BitVec 64
  deriving DecidableEq, Repr

/-- One BLOCK_WRITE fragment (R361, R368). -/
structure Fragment where
  addr   : ObjAddr
  epoch  : BitVec 16
  total  : BitVec 32
  offset : BitVec 32
  data   : Bytes
  deriving DecidableEq, Repr

/-- One entry of a commit's unit list (R361): unit ID and epoch. -/
structure UnitEntry where
  unit  : BitVec 12
  epoch : BitVec 16
  deriving DecidableEq, Repr

/-- What a client's certificate chain shows at the DTLS handshake (R376, R377): the role of the anchor it reaches,
or a self-signed certificate with its public key. -/
inductive Cert where
  | chain (role : Role)
  | selfSigned (key : Bytes)
  | unknown
  deriving DecidableEq, Repr

/-- The exclusive resources (R46), and the time-shared ones that can never be claimed (R47). -/
inductive Resource where
  | blankTimer (b : Bay)
  | probeRoute (b : Bay) (r : Fin 2)
  | trig (n : Fin 8)
  | ridge (n : Fin 32)
  | capturePartition (b : Bay) (p : Fin 8)
  | sparePath (b : Bay)
  | tpg (n : Tpg)
  | timeShared
  deriving DecidableEq, Repr

/-- What the SECDED check of a word or block that is read next finds (R87, R270, R282). -/
inductive Ecc where
  | clean | corrected | uncorrectable
  deriving DecidableEq, Repr

/-- The purlin's event kinds (R30). -/
inductive PurlinKind where
  | start | stop | siteFail (level : Bool) | siteMatch (level : Bool)
  deriving DecidableEq, Repr

/-- The two forms of a level-set write (R186): one level's code, or SET_BLOCK. -/
inductive LevelWrite where
  | one (level : Fin 8) (code : BitVec 32)
  | block (data : Bytes)
  deriving DecidableEq, Repr

/-- The guard threshold objects of a channel (R167). -/
inductive GuardReg where
  | hi | lo | hyst
  deriving DecidableEq, Repr

/-- Who drives a pin die's clear input (R164). -/
inductive ClearSrc where
  | keeper | external | supply
  deriving DecidableEq, Repr

/-- The capture modes (R191), numbered 1 to 5. -/
inductive CapMode where
  | failLog | failMap | history | scope | data
  deriving DecidableEq, Repr

/-- A token for a node port of a kernel graph (R239); `buf` says that its VALUE is a buffer reference. -/
structure Token where
  graph : Nat
  node  : Nat
  port  : Nat
  seq   : Nat
  value : Nat
  buf   : Bool
  deriving DecidableEq, Repr

/-- One output a kernel's firing produces: its port, its VALUE, whether that is a buffer reference, and the SEQ where the
kernel's row gives another than the firing's (R239). -/
structure WorkOut where
  port  : Fin 2
  value : BitVec 64
  buf   : Bool
  seq   : Option (BitVec 32)
  deriving DecidableEq, Repr

/-- A kernel's request on the internal object path (R257): a write, or a read whose value becomes a token. -/
inductive ObjReq where
  | write (item : WItem)
  | read (addr : ObjAddr) (node : BitVec 8) (port : Fin 4) (seq : BitVec 32)
  deriving DecidableEq, Repr

/-- Timed work a kernel requests (R251, R252): how many ns from now, and a token to post or an object to read, with the
gate the read may name. -/
structure TimedReq where
  ahead : Int
  node  : BitVec 8
  port  : Fin 4
  seq   : BitVec 32
  value : BitVec 64
  read  : Option ObjAddr
  gate  : Option (ObjAddr × BitVec 64)
  deriving DecidableEq, Repr

/-- The node errors (R266). -/
inductive NodeErr where
  | kernelError | workLimit | coreFault | objDenied | staleEpoch | listFull | gateTimeout | cryptoError
  deriving DecidableEq, Repr

/-- The code of a node error (R266). -/
def NodeErr.code : NodeErr → Nat
  | .kernelError => 1
  | .workLimit => 2
  | .coreFault => 3
  | .objDenied => 4
  | .staleEpoch => 5
  | .listFull => 6
  | .gateTimeout => 7
  | .cryptoError => 8

/-- How a kernel's work item ended on its core: its outputs, the requests it issued in order, the timed work it asked
for and its node's new instance state; or an error of R266 after the requests it had issued.  What a kernel computes comes
from its firmware, within its row of the catalogue (R244). -/
inductive WorkResult where
  | done (outs : List WorkOut) (reqs : List ObjReq) (timed : List TimedReq) (inst : Option Bytes)
  | error (code : NodeErr) (reqs : List ObjReq)
  deriving DecidableEq, Repr

/-- Whose request stands at the front of the internal object path (R257, R100): a bay's microcode's, or a bench's. -/
inductive ObjSource where
  | microword (b : Bay)
  | bench (bn : Bench)
  deriving DecidableEq, Repr

/-- Who writes memory (R277): `bench` is a result core in its graph's pool, `core` one in its own local SRAM (R273). -/
inductive Writer where
  | bay (b : Bay) | control | dma (e : Engine) (k : Fin 8) | bench (g : Graph) | link (s : Stream) | touchmark
  | core (k : Bench) (j : Fin 16)
  deriving DecidableEq, Repr

/-- How one recovery step on a pseudo-channel ended (R289): more steps follow, margin is restored, or recovery fails. -/
inductive StepOutcome where
  | more | restored | failed
  deriving DecidableEq, Repr

/-- How a DMA access was answered (R274, R305, R308): it was carried out, with the check of its source block and the
bytes a source port supplied; or its port held or refused it.  What memory answers for its map and its tags is the
model's. -/
inductive AccessAnswer where
  | carried (ecc : Ecc) (data : Bytes) | held | refused
  deriving DecidableEq, Repr

/-- An equaliser setting: CTLE and the twelve DFE taps (R315). -/
structure EqSet where
  ctle : BitVec 8
  dfe  : Bytes
  deriving DecidableEq, Repr

/-- A frame of the Etrekai Link as the receiver sees it (R323): SEQ, the receiver's stream, the payload, FTYPE MARK, EOM,
and whether its CRC is good. -/
structure Frame where
  seq     : BitVec 12
  stream  : Stream
  payload : Bytes
  mark    : Bool
  eom     : Bool
  crcOk   : Bool
  deriving DecidableEq, Repr

/-- What an Ethernet frame carries (R335): an ARP request, neighbour discovery or echo the port answers; a datagram of a UDP
port; a frame of an Ethertype; or a PTP event message on its port or Ethertype, with its messageType and, for a Sync, the
offset in 0.25 ns that the servo finds from it; or a PTP Announce with its currentUtcOffset (R336). -/
inductive EthKind where
  | answered
  | udp (port : BitVec 16)
  | ethertype (type : BitVec 16)
  | ptpEvent (type : BitVec 4) (offset : Int)
  | ptpAnnounce (utcOffset : BitVec 16)
  deriving DecidableEq, Repr

/-- An Ethernet frame as a control port receives it (R335): its VLAN, 0 untagged, its payload's length and what it
carries. -/
structure EthFrame where
  vlan : BitVec 12
  len  : Nat
  kind : EthKind
  deriving DecidableEq, Repr

/-- A PTP event message that a port sends (R344, R345). -/
structure PtpMsg where
  type   : BitVec 4
  seq    : BitVec 16
  domain : BitVec 8
  deriving DecidableEq, Repr

/-- What the measurement of one path finds for DRV, DEN, CMPH and CMPL (R403, R419): the correction each needs and the error
that remains after it, in 0.25 ps. -/
structure PathMeas where
  corr  : Vector Int 4
  resid : Vector Int 4
  deriving DecidableEq, Repr

/-- What a bay assay finds (R401, R412, R419): the 17 paths, for each channel the residuals of its eight levels, two guard
thresholds and two loads, and the paths with a quantity beyond its limit. -/
structure BayAssayResult where
  paths  : Vector PathMeas 17
  resids : Vector (Vector Int 12) 16
  faulty : BitVec 17
  deriving DecidableEq, Repr

/-- The path a SAFE_HOLD request took (R434). -/
inductive HoldPath where
  | dop | management | internal
  deriving DecidableEq, Repr

/-- A firmware image that verifies in a boot flash slot: its release, its ROLLBACK_INDEX and its bench catalogue's release
(R265, R385). -/
structure FwImage where
  release   : BitVec 32
  rollback  : BitVec 32
  catalogue : BitVec 32
  deriving DecidableEq, Repr

/-- What a start-up stage's completion carries from outside the model (R443): an MRAM word found bad in stage 1, the sample of
stage 3's check and of a commit, the images whose signature is good in stage 5, the tests that failed in stage 6, the control
cores that started in stage 7, the pseudo-channels that failed in stage 8, and in stage 9 whether one copy of a ledger record
was lost, the bays whose newest TIMING record was lost in both, and whether no record remains. -/
structure StageResult where
  mram     : Option (BitVec 32)
  smp      : Sample
  images   : Vector (Option FwImage) 2
  tests    : BitVec 32
  cores    : BitVec 2
  pcFailed : BitVec 64
  copyLost : Bool
  older    : BitVec 16
  noRecord : Bool
  deriving DecidableEq, Repr

/-- The TAP instructions (R465). -/
inductive JtagInstr where
  | bypass | idcode | sample | extest | landControl | debug
  deriving DecidableEq, Repr

end Sys2Proof
end

