-- ==== Sys2Proof/Syntax.lean ====
section
/-! DEFINITION. The commands of the module: one constructor for each row of the table of operations and events. -/

namespace Sys2Proof

/-- A command: an operation a host, a unit or a pin gives the module, or an event that comes about in it.  The operands
are those the rules give the operation, and what reaches the module from outside it (a comparator's level, a check's
verdict, a measured value). -/
inductive Instr where
  /-- SESSION_OPEN (R358): A DTLS 1.3 handshake with mutual certificate authentication opens a DOP session, or is refused beyond 16 sessions. -/
  | sessionOpen (port : Fin 2) (cert : Cert)
  /-- SESSION_CLOSE (R358): A session closes when its DTLS association closes. -/
  | sessionClose (sid : Fin 16)
  /-- SESSION_IDLE_TIMEOUT (R358): No request arrives for IDLE_TIMEOUT, so the session closes. -/
  | sessionIdleTimeout (sid : Fin 16)
  /-- HELLO (R359): Negotiates the protocol version and the dictionary view, and returns the session ID and role. -/
  | hello (sid : Fin 16) (req : Nat) (proto dict : BitVec 8) (smp : Sample)
  /-- READ (R364): Reads the listed items in order, truncating with MORE when the reply exceeds the MTU. -/
  | read (sid : Fin 16) (req : Nat) (room : Nat) (items : List ObjAddr)
  /-- WRITE (R365): Applies the write items in order and stops at the first item that fails. -/
  | write (sid : Fin 16) (req : Nat) (items : List WItem) (smp : Sample)
  /-- MASKED_WRITE (R367): Writes one value to many bays or channels, judging each unit alone. -/
  | maskedWrite (sid : Fin 16) (req : Nat) (m : MaskedWrite) (smp : Sample)
  /-- BLOCK_READ (R368): Returns a fragment of a DOMAIN value, reading the object afresh. -/
  | blockRead (sid : Fin 16) (req : Nat) (obj : ObjAddr) (off len : Nat)
  /-- BLOCK_WRITE (R368): Collects a fragment of a DOMAIN value, and writes the object when every byte has arrived. -/
  | blockWrite (sid : Fin 16) (req : Nat) (frag : Fragment) (smp : Sample)
  /-- BLOCK_WRITE_ABANDON (R368): A block write that receives no fragment for 5 s is abandoned, and nothing is written. -/
  | blockWriteAbandon (sid : Fin 16)
  /-- STAGE (R365): Writes the items into the shadows of their owner units. -/
  | stage (sid : Fin 16) (req : Nat) (items : List WItem)
  /-- STAGE_DISCARD (R365): A STAGE with DISCARD discards every staged shadow of the listed units. -/
  | stageDiscard (sid : Fin 16) (req : Nat) (units : List UnitEntry)
  /-- COMMIT (R40): Validates the unit list and sends commit tokens with the host's tag to the listed units. -/
  | commit (sid : Fin 16) (req : Nat) (tag : BitVec 16) (units : List UnitEntry)
  /-- COMMIT_APPLY (R41): A unit reaches its commit boundary and applies its shadows whole, or reports REFUSED. -/
  | commitApply (unit : BitVec 12) (smp : Sample)
  /-- COMMIT_WINDOW_EXPIRY (R42): The commit window expires, and cancel tokens go to every unit that has not reported. -/
  | commitWindowExpiry
  /-- EVENT_SEND (R369): Sends an EVENT message carrying merged occurrence records to a subscribing session. -/
  | eventSend (sid : Fin 16)
  /-- EVENT_HOLD_EXPIRY (R369): EVENT_HOLD ends after a source's first occurrence, closing its merged record. -/
  | eventHoldExpiry (sid : Fin 16) (src : BitVec 11)
  /-- DATA_SUBSCRIBE (R370): Claims a port's data events for the session, or returns RESOURCE_CLAIMED naming the first subscriber. -/
  | dataSubscribe (sid : Fin 16) (on : Bool)
  /-- DATA_ACK (R370): Acknowledges the data events received in order. -/
  | dataAck (sid : Fin 16) (seq : BitVec 32)
  /-- DATA_EVENT_RESEND (R370): Unacknowledged data events are resent every 20 ms. -/
  | dataEventResend (sid : Fin 16)
  /-- MGMT_READ (R374): Management SPI READ of an object of the reduced set, with status, data and CRC. -/
  | mgmtRead (obj : ObjAddr) (off len : Nat) (complete : Bool)
  /-- MGMT_WRITE (R374): Management SPI WRITE of an object of the reduced set, checked by CRC. -/
  | mgmtWrite (obj : ObjAddr) (off : Nat) (data : Bytes) (crc : BitVec 16) (smp : Sample)
  /-- MGMT_STATUS (R374): Returns the status of the last management WRITE and BUSY. -/
  | mgmtStatus
  /-- REGISTER_WRITE (R353): Write of an object that has no behaviour of its own, judged against its access code, role, range and state. -/
  | registerWrite (role : Role) (item : WItem)
  /-- STATE_REQUEST_OFF (R34): Host request moves the bay from SAFE to OFF. -/
  | stateRequestOff (b : Bay) (epoch : BitVec 16)
  /-- STATE_REQUEST_SAFE (R34): Host request moves the bay to SAFE and inhibits its drivers within 1 µs. -/
  | stateRequestSafe (b : Bay) (epoch : BitVec 16)
  /-- STATE_REQUEST_IDLE (R34): Host request moves the bay to IDLE from SAFE or MAINT. -/
  | stateRequestIdle (b : Bay) (epoch : BitVec 16)
  /-- STATE_REQUEST_MAINT (R34): Host request moves the bay from IDLE to MAINT, releasing its reservations. -/
  | stateRequestMaint (b : Bay) (epoch : BitVec 16)
  /-- STATE_REQUEST_PAUSE (R34): Host request moves the bay from RUN to PAUSE at the next granule boundary. -/
  | stateRequestPause (b : Bay) (epoch : BitVec 16)
  /-- STATE_REQUEST_RUN (R34): Host request resumes the bay from PAUSE at the next granule boundary. -/
  | stateRequestRun (b : Bay) (epoch : BitVec 16)
  /-- STATE_REQUEST_ARM (R35): Runs the arming checks in order, then begins the arming fill or refuses arming. -/
  | stateRequestArm (b : Bay) (epoch : BitVec 16)
  /-- STATE_REQUEST_DISARM (R34): Returns an ARMED or arming bay to IDLE and releases its pattern share and locks. -/
  | stateRequestDisarm (b : Bay) (epoch : BitVec 16)
  /-- STATE_REQUEST_STOP (R34): Ends the bay's pattern at the next granule boundary. -/
  | stateRequestStop (b : Bay) (epoch : BitVec 16)
  /-- ARM_FILL_COMPLETE (R70): The resident area is loaded and the ring is filled, so the bay enters ARMED. -/
  | armFillComplete (b : Bay) (bad : List Nat)
  /-- LANE_FED_ARM_READY (R76): The loft ring is full, or 1,024 lane-fed granules have arrived, so the bay enters ARMED. -/
  | laneFedArmReady (b : Bay) (bad : List Nat)
  /-- HOST_START (R31): A host start token starts an ARMED QUAD or BAY site, and is refused for lockstep sites. -/
  | hostStart (site : Site) (epoch : BitVec 16)
  /-- PATTERN_END (R66): The last period and the last edge of the final vector end, and the bay enters IDLE. -/
  | patternEnd (b : Bay)
  /-- BCLK_CHANGE (R12): Host changes a bay's BCLK in IDLE or MAINT, and the bay PLL relocks. -/
  | bclkChange (b : Bay) (epoch : BitVec 16) (mhz : Nat)
  /-- PLL_RELOCK (R117): A bay PLL relocks, and deskew values are converted to tu at the new frequency. -/
  | pllRelock (b : Bay)
  /-- CLOCK_UNLOCK (R13): A bay PLL or fine-clock multiplier loses lock: edges stop, drivers are inhibited and a fault is reported. -/
  | clockUnlock (b : Bay) (fine : Bool)
  /-- QUAD_RETIRE (R27): At the first granule boundary whose issue cycle is Y + 4 or later, a quad takes its retire state. -/
  | quadRetire (b : Bay) (host : BitVec 4)
  /-- RESOURCE_CLAIM (R46): A configuration write claims an exclusive resource, or fails with RESOURCE_CLAIMED naming the owner. -/
  | resourceClaim (r : Resource) (epoch : BitVec 16) (feature : BitVec 8) (owner : BitVec 12)
  /-- RESOURCE_RELEASE (R46): A write of the release object releases an exclusive resource. -/
  | resourceRelease (r : Resource) (epoch : BitVec 16)
  /-- SHINGLE_ENTRY_WRITE (R52): Writes a shingle table entry, refusing invalid fields and reporting the fault in ENTRY_ERROR. -/
  | shingleEntryWrite (b : Bay) (epoch : BitVec 16) (entry : BitVec 256)
  /-- TABLE_BLOCK_WRITE (R473): Writes 1 to 256 shingle entries, stopping at the first refused entry. -/
  | tableBlockWrite (b : Bay) (epoch : BitVec 16) (data : Bytes)
  /-- TSET_WRITE (R123): Writes one or more timing sets, refusing reserved bits or roles and ignoring record 16. -/
  | tsetWrite (b : Bay) (epoch : BitVec 16) (block : Bool) (data : Bytes)
  /-- JUMP_REQUEST (R63): Host jump request to a RESIDENT or HEAD_PINNED entry while the bay runs. -/
  | jumpRequest (b : Bay) (epoch : BitVec 16) (target : BitVec 16)
  /-- COND_JUMP (R62): The COND_JUMP condition becomes true and posts a jump request. -/
  | condJump (b : Bay)
  /-- GRANULE_BOUNDARY (R59): A granule is issued, latching the usable requests and checking the loft for the granule's rows. -/
  | granuleBoundary (b : Bay) (bad again : Bool)
  /-- DECISION_BOUNDARY (R60): At vector 8L − 32 of a pass, the bay fixes what follows the pass. -/
  | decisionBoundary (b : Bay)
  /-- SHINGLE_BOUNDARY (R58): The last vector of a pass ends, and the next pass or shingle starts seamlessly. -/
  | shingleBoundary (b : Bay)
  /-- LOFT_FILL (R72): A fetched pattern block arrives in the loft ring. -/
  | loftFill (b : Bay) (bad badAgain : Bool)
  /-- UNDERRUN_END (R79): The missing granule becomes usable: it issues at the next boundary and the log record is appended. -/
  | underrunEnd (b : Bay)
  /-- UNDERRUN_LOG_CLEAR (R83): Clears the underrun log. -/
  | underrunLogClear (b : Bay) (epoch : BitVec 16)
  /-- SEQ_JUMP (R88): Microword goes to NEXT. -/
  | seqJump (b : Bay) (ecc : Ecc)
  /-- SEQ_IF (R89): Microword goes to NEXT if COND is true, otherwise to address + 1. -/
  | seqIf (b : Bay) (ecc : Ecc)
  /-- SEQ_IFNOT (R89): Microword goes to NEXT if COND is false, otherwise to address + 1. -/
  | seqIfnot (b : Bay) (ecc : Ecc)
  /-- SEQ_CALL (R95): Microword pushes address + 1 and goes to NEXT. -/
  | seqCall (b : Bay) (ecc : Ecc)
  /-- SEQ_CALL_IF (R95): Microword calls NEXT if COND is true. -/
  | seqCallIf (b : Bay) (ecc : Ecc)
  /-- SEQ_RETURN (R95): Microword pops the micro return stack. -/
  | seqReturn (b : Bay) (ecc : Ecc)
  /-- SEQ_EXIT (R107): Microword returns control to vendor sequencing. -/
  | seqExit (b : Bay) (ecc : Ecc)
  /-- SEQ_DISPATCH (R106): Vendor microword enters the sequencing of the current entry, calling a customer type when it is attached. -/
  | seqDispatch (b : Bay) (ecc : Ecc)
  /-- WAIT_RELEASE (R105): The COND of a waiting microword becomes true and releases the wait to address + 1. -/
  | waitRelease (b : Bay) (ecc : Ecc)
  /-- WAIT_TIMEOUT (R105): The timeout counter of a waiting word reaches 0: TIMED_OUT is set and execution continues at NEXT. -/
  | waitTimeout (b : Bay) (ecc : Ecc)
  /-- VEC_EMIT (R88): Issues the next pattern rows of the pass as vectors. -/
  | vecEmit (b : Bay)
  /-- VEC_PAD (R96): Issues the bay pad vector. -/
  | vecPad (b : Bay)
  /-- VEC_HOLD (R97): Reissues the last pattern row with every action. -/
  | vecHold (b : Bay)
  /-- VEC_MUTE (R97): Reissues the last row with its compares and capture actions masked. -/
  | vecMute (b : Bay)
  /-- PRD_SEL (R97): The vectors of the word use period set PRD. -/
  | prdSel (b : Bay)
  /-- LVL_SEL (R159): Writes level set LVL to the shadow registers. -/
  | lvlSel (b : Bay)
  /-- MATCH_ENABLE (R99): Makes the word's compares match compares under a match mask set. -/
  | matchEnable (b : Bay)
  /-- SHG_JUMP_REQ (R98): Posts a jump request at microword rank, or drops it when the target is bad. -/
  | shgJumpReq (b : Bay)
  /-- SHG_PAUSE (R97): The bay enters PAUSE at the next granule boundary. -/
  | shgPause (b : Bay)
  /-- SHG_STOP (R97): The pattern ends at the next granule boundary. -/
  | shgStop (b : Bay)
  /-- SHG_REWIND (R109): EMIT issues rows from row 0 of the current pass again. -/
  | shgRewind (b : Bay)
  /-- CNT_DEC (R103): Decrements a counter by one, stopping at 0. -/
  | cntDec (b : Bay) (n : Fin 4)
  /-- CNT_INC (R103): Increments a counter by one, saturating. -/
  | cntInc (b : Bay) (n : Fin 4)
  /-- CNT_DEC_VEC (R104): Decrements a counter by the pattern rows issued in the cycle, limiting EMIT. -/
  | cntDecVec (b : Bay) (n : Fin 4)
  /-- CNT_INC_VEC (R103): Increments a counter by the pattern rows issued in the cycle. -/
  | cntIncVec (b : Bay) (n : Fin 4)
  /-- CNT_LOAD (R103): Loads the counter that CSEL names from IMM. -/
  | cntLoad (b : Bay) (n : Fin 4)
  /-- CNT_LOAD_PARAM (R103): Loads a counter from the entry's PARAM. -/
  | cntLoadParam (b : Bay) (n : Fin 4)
  /-- CNT_RELOAD (R103): Loads a counter from CNT_RELOAD. -/
  | cntReload (b : Bay) (n : Fin 4)
  /-- CNT_CLEAR (R103): Clears a counter to 0. -/
  | cntClear (b : Bay) (n : Fin 4)
  /-- CAPTURE_ON (R98): Starts capture from this word's vectors on. -/
  | captureOn (b : Bay)
  /-- CAPTURE_OFF (R98): Stops capture after the previous word's vectors. -/
  | captureOff (b : Bay)
  /-- CAP_MARK (R195): Writes a marker record into the open frame headers and into MARK_LOG. -/
  | capMark (b : Bay)
  /-- RETIRE (R27): Microword retires the selected quads. -/
  | retire (b : Bay)
  /-- RETIRE_FAILED (R27): Microword retires every quad that has failed. -/
  | retireFailed (b : Bay)
  /-- OBJ_WRITE (R100): Queues an object write through the internal object path, or drops it when the queue is full. -/
  | objWrite (b : Bay)
  /-- RAISE (R99): Raises a microword bay event. -/
  | raise (b : Bay)
  /-- LOAD_NOW (R160): Microword issues a LOAD strobe in its first cycle. -/
  | loadNow (b : Bay)
  /-- LOAD_TIMER (R176): Microword starts the bay timer, which issues a LOAD on expiry. -/
  | loadTimer (b : Bay)
  /-- BLANK_START (R175): Starts guard blanking for BLANK_TIME. -/
  | blankStart (b : Bay)
  /-- BLANK_END (R175): Ends guard blanking now. -/
  | blankEnd (b : Bay)
  /-- TMU_MW_ARM (R224): Microword arms the bay's TMU. -/
  | tmuMwArm (b : Bay)
  /-- TMU_MW_DISARM (R224): Microword disarms the TMU and discards the measurement. -/
  | tmuMwDisarm (b : Bay)
  /-- RIDGE_ASSERT (R93): Asserts a microcode ridge port's line. -/
  | ridgeAssert (b : Bay) (port : Fin 2)
  /-- RIDGE_RELEASE (R93): Releases a microcode ridge port's line. -/
  | ridgeRelease (b : Bay) (port : Fin 2)
  /-- RIDGE_PULSE (R93): Asserts a ridge line for one BCLK. -/
  | ridgePulse (b : Bay) (port : Fin 2)
  /-- SPH_PERMIT (R406): Vendor microword marks the next granule boundary as a hand-over point. -/
  | sphPermit (b : Bay)
  /-- SPH_INHIBIT (R406): Forbids spare-path hand-over while the word executes. -/
  | sphInhibit (b : Bay)
  /-- CUSTOM_WATCHDOG (R110): A customer microprogram issues no row for CUSTOM_WATCHDOG cycles and the pattern ends. -/
  | customWatchdog (b : Bay)
  /-- BANK_IMAGE (R113): Starts a customer bank load in MAINT. -/
  | bankImage (b : Bay) (epoch : BitVec 16) (image : Bytes)
  /-- BANK_LOAD_COMPLETE (R113): Verification, checking and writing end with DONE or a failure status. -/
  | bankLoadComplete (b : Bay) (sigOk readbackOk : Bool)
  /-- CUSTOM_ENTRY_WRITE (R115): Attaches or detaches a customer type, checking the address against the loaded ranges. -/
  | customEntryWrite (b : Bay) (epoch : BitVec 16) (type : Fin 15) (value : BitVec 32)
  /-- VENDOR_RELOAD (R86): The vendor words are reloaded from the active image on entry to MAINT, within 20 ms. -/
  | vendorReload (b : Bay)
  /-- STROBE_LATCH (R130): A strobe latches CMPH and CMPL at its land instant and records a fail bit. -/
  | strobeLatch (c : Chan) (cmph cmpl : Bool)
  /-- DRIVE_EDGE (R129): A drive edge changes DRV and DEN at its land instant, as its kind and its slot's action give. -/
  | driveEdge (c : Chan)
  /-- RIDGE_EVENT (R29): A ridge line change reaches a bay's condition inputs. -/
  | ridgeEvent (line : Fin 32) (level : Bool)
  /-- PURLIN_EVENT (R30): A purlin event is padded to act 24 BCLK after the source issued it. -/
  | purlinEvent (site : Site) (kind : PurlinKind)
  /-- TRIG_EDGE (R201): An edge on a TRIG land enters the module as an event. -/
  | trigEdge (n : Fin 8) (rising : Bool)
  /-- LVL_SELECT (R159): Host selects a level set into the shadows. -/
  | lvlSelect (b : Bay) (epoch : BitVec 16) (lvl : BitVec 8)
  /-- LOAD_REQUEST (R160): Host issues a LOAD strobe. -/
  | loadRequest (b : Bay) (epoch : BitVec 16)
  /-- LEVEL_SET_WRITE (R157): Writes level codes, checking the ordering conditions and updating the shadows of the selected set. -/
  | levelSetWrite (c : Chan) (epoch : BitVec 16) (set : Fin 16) (w : LevelWrite)
  /-- GUARD_THRESHOLD_WRITE (R172): A threshold or hysteresis write takes effect over the control link at the next BCLK. -/
  | guardThresholdWrite (c : Chan) (epoch : BitVec 16) (which : GuardReg) (value : BitVec 16)
  /-- CLEAR_CODE_WRITE (R166): Stores a clear code to the ledger, applying at the next clear. -/
  | clearCodeWrite (c : Chan) (epoch : BitVec 16) (level : Fin 8) (code : BitVec 32) (smp : Sample)
  /-- CLEAR_ASSERT (R164): The clear input is asserted: DACs go to clear codes, drivers are inhibited and units are disconnected. -/
  | clearAssert (die : Fin 4) (src : ClearSrc)
  /-- CLEAR_RELEASE (R165): The clear input is released, and outputs stay at the clear codes until the next LOAD. -/
  | clearRelease (die : Fin 4) (src : ClearSrc)
  /-- GUARD_TRIP (R170): A guard comparator enters tripped, latches, inhibits asynchronously and signals the keeper. -/
  | guardTrip (c : Chan) (under : Bool)
  /-- GUARD_TRIP_REPORT (R174): Trip status reaches the bay island: GUARD_TRIP is reported, sites are marked INVALID and events are raised. -/
  | guardTripReport (c : Chan) (under : Bool)
  /-- GUARD_UNTRIP (R167): The land returns past the threshold by the hysteresis and the comparator leaves tripped. -/
  | guardUntrip (c : Chan) (under : Bool)
  /-- GUARD_RESOLVE (R173): An UNRESOLVED comparator resolves after 1 µs inside its threshold. -/
  | guardResolve (c : Chan) (under : Bool)
  /-- TRIP_CLEAR (R171): Clears both trip latches of a channel if the conditions allow. -/
  | tripClear (c : Chan) (epoch : BitVec 16)
  /-- BLANK_EXPIRY (R175): The blanking window ends and the withheld events are raised once. -/
  | blankExpiry (b : Bay)
  /-- LOAD_TIMER_EXPIRY (R176): The bay timer claimed for LOAD_TIMER expires and issues a LOAD. -/
  | loadTimerExpiry (b : Bay)
  /-- CONTROL_LINK_LOST (R184): The pin die finds its control link lost for 1 µs, inhibits the bay and signals the keeper. -/
  | controlLinkLost (b : Bay)
  /-- CONVERTER_SLOT (R177): A main converter completes one 2 µs slot of its frame. -/
  | converterSlot (die : Fin 4) (conv : Fin 8) (slot : Fin 512) (measured : Int) (clamp : Bool)
  /-- PMU_MODE_WRITE (R182): Connects or disconnects the parametric unit, inhibiting the driver while it is connected. -/
  | pmuModeWrite (c : Chan) (epoch : BitVec 16) (mode : BitVec 8)
  /-- MEAS_START (R183): Begins a parametric measurement, or restarts one. -/
  | measStart (c : Chan) (epoch : BitVec 16)
  /-- MEAS_DONE (R183): The samples are taken and the mean is stored with DONE or CLAMPED. -/
  | measDone (c : Chan)
  /-- FRAME_CLOSE (R192): A capture frame is closed, its header written and a notification posted. -/
  | frameClose (b : Bay) (mode : CapMode) (written : Bool)
  /-- CONSUMED_FRAME_WRITE (R211): The consumer releases frames below the written value. -/
  | consumedFrameWrite (b : Bay) (epoch : BitVec 16) (mode : CapMode) (value : BitVec 64)
  /-- TRIGGER_ARMED (R203): PRE units are written and 256 BCLK have passed, so the trigger leaves PRE_FILL. -/
  | triggerArmed (b : Bay)
  /-- TRIGGER_RECOGNISED (R203): A recognised trigger instant fires the trigger, or is ignored. -/
  | triggerRecognised (b : Bay) (cycle : Nat) (offset : Nat)
  /-- CHANNEL_EDGE (R202): The edge detector completes an edge on the raw comparator. -/
  | channelEdge (c : Chan) (cmph : Bool) (cmpl : Bool) (cycle : Nat) (offset : Nat)
  /-- TRIG_FORCE (R201): Host trigger command. -/
  | trigForce (b : Bay) (epoch : BitVec 16)
  /-- TRIG_REARM (R206): Discards the window frames, restarts the streams and returns the trigger to PRE_FILL. -/
  | trigRearm (b : Bay) (epoch : BitVec 16)
  /-- WINDOW_DONE (R206): Unit POST − 1 is written and the window ends with SEG_END and OLDEST. -/
  | windowDone (b : Bay) (mode : CapMode) (written : Bool)
  /-- TMU_ARM_REQUEST (R224): Host arms the TMU, or the arming is refused. -/
  | tmuArmRequest (b : Bay) (epoch : BitVec 16)
  /-- TMU_DISARM_REQUEST (R224): Host disarms the TMU. -/
  | tmuDisarmRequest (b : Bay) (epoch : BitVec 16)
  /-- TMU_CALIBRATION_DONE (R222): The interpolator calibration completes and the TMU enters WAITING, or ends with CAL_FAIL. -/
  | tmuCalibrationDone (b : Bay) (w : Nat) (n0 : Nat)
  /-- TMU_HIT (R227): A hit on a probe route is timestamped and may complete a measurement. -/
  | tmuHit (b : Bay) (route : Fin 2) (rising : Bool) (ticks : Nat) (taps : Nat)
  /-- TMU_GATE_EXPIRY (R230): The frequency gate time passes, and the next edge closes the gate. -/
  | tmuGateExpiry (b : Bay)
  /-- TMU_TIMEOUT (R231): The measurement times out and writes a record with TIMEOUT. -/
  | tmuTimeout (b : Bay)
  /-- TMU_REPEAT (R226): The next repetition begins once the FIFO has room. -/
  | tmuRepeat (b : Bay)
  /-- TMU_REF_LOST (R220): The TCLK PLL loses lock and the measurement ends with REF_LOST. -/
  | tmuRefLost (b : Bay)
  /-- RESULT_READ (R233): Removes and returns the oldest TMU record. -/
  | resultRead (b : Bay)
  /-- RESULT_BLOCK_READ (R233): Removes and returns up to 64 TMU records. -/
  | resultBlockRead (b : Bay)
  /-- FIFO_CLEAR (R233): Empties the TMU result FIFO. -/
  | fifoClear (b : Bay) (epoch : BitVec 16)
  /-- TOKEN_ARRIVAL (R248): A token enters the matching store, completing a firing or colliding. -/
  | tokenArrival (t : Token)
  /-- BINDING_POST (R247): A source binding posts a token, or coalesces under back-pressure. -/
  | bindingPost (g : Graph) (i : Fin 64)
  /-- POST (R247): Host posts a token to a graph node port. -/
  | post (g : Graph) (epoch : BitVec 16) (node : BitVec 8) (port : Fin 4) (seq : BitVec 32) (value : BitVec 64)
  /-- HOST_POST_TIMEOUT (R254): A host post not accepted within 1 ms is refused. -/
  | hostPostTimeout
  /-- WORK_DISPATCH (R250): The ready-queue head is dispatched to a core by preference. -/
  | workDispatch (bn : Bench)
  /-- WORK_COMPLETE (R240): A work item completes and posts its outputs or an error token. -/
  | workComplete (bn : Bench) (core : Fin 16) (result : WorkResult)
  /-- WORK_LIMIT (R237): An item exceeds WORK_LIMIT and is stopped, and its core is reset. -/
  | workLimit (bn : Bench) (core : Fin 16)
  /-- CORE_FAULT (R238): A core is taken out of service and its queued items are returned. -/
  | coreFault (bn : Bench) (core : Fin 16) (benchLevel : Bool)
  /-- DELAY_ENTRY_EXPIRY (R252): A delay-list entry expires at a tick boundary and posts or reads. -/
  | delayEntryExpiry (list : Fin 4)
  /-- STORE_DEADLOCK (R256): The store is full with no firing complete for 1 ms, and the largest graph's incomplete firings are discarded. -/
  | storeDeadlock
  /-- INTERNAL_OBJECT_REQUEST (R257): A request from a kernel or microword reaches the control island and is applied or refused. -/
  | internalObjectRequest (src : ObjSource)
  /-- GRAPH_DRAIN_COMPLETE (R261): The graph's running items complete and the new definition is applied. -/
  | graphDrainComplete (g : Graph)
  /-- START_REQUEST (R263): Moves a graph to RUNNING. -/
  | startRequest (g : Graph) (epoch : BitVec 16)
  /-- STOP_REQUEST (R263): Drains a graph, discards its pending operands and leaves it STOPPED. -/
  | stopRequest (g : Graph) (epoch : BitVec 16)
  /-- BENCH_DRAIN (R264): Begins draining a bench. -/
  | benchDrain (bn : Bench)
  /-- BENCH_DRAINED (R264): The bench's cores are idle and it enters DRAINED. -/
  | benchDrained (bn : Bench)
  /-- BENCH_LOAD (R265): Loads bench firmware from a boot flash slot. -/
  | benchLoad (bn : Bench)
  /-- BENCH_LOAD_COMPLETE (R265): The load ends in DRAINED with the new catalogue, or with CRYPTO_ERROR. -/
  | benchLoadComplete (bn : Bench) (verified : Bool) (release : BitVec 32)
  /-- BENCH_RESUME (R265): Returns a DRAINED bench to RUNNING. -/
  | benchResume (bn : Bench)
  /-- PEAK_CLEAR (R267): Clears STORE_PEAK. -/
  | peakClear
  /-- MEM_READ (R270): A pseudo-channel serves a read with SECDED checking and tag checks. -/
  | memRead (cls : MemClass) (addr len : Nat) (expectSeq : Option (BitVec 8)) (eccs : List Ecc)
  /-- MEM_WRITE (R284): A pseudo-channel issues a write in acceptance order, merging narrow writes. -/
  | memWrite (who : Writer) (addr : Nat) (data : Bytes) (seq : BitVec 8)
  /-- REFRESH (R286): An all-bank refresh falls due. -/
  | refresh (pc : Pc) (issued : Bool)
  /-- TEMP_READING (R286): A stack temperature reading sets or clears HOT and starts a catch-up. -/
  | tempReading (stack : Fin 2) (temp : Int)
  /-- RECOVERY_STEP (R289): Runs one recovery step on a pseudo-channel. -/
  | recoveryStep (pc : Pc) (outcome : StepOutcome)
  /-- SCRUB_STEP (R291): The patrol scrub reads a group and conditionally writes back corrected blocks. -/
  | scrubStep (pc : Pc) (group : Nat) (overtaken : Bool) (ecc : Ecc)
  /-- HBM_RETRAIN_REQUEST (R290): Retrains and non-destructively tests one pseudo-channel. -/
  | hbmRetrainRequest (pc : Pc)
  /-- HBM_RETRAIN_COMPLETE (R290): A retraining ends with the pseudo-channel ACTIVE or OUT_OF_SERVICE. -/
  | hbmRetrainComplete (pc : Pc) (ok : Bool)
  /-- CHAN_START (R302): Starts a DMA channel at CHAIN_HEAD. -/
  | chanStart (e : Engine) (k : Fin 8)
  /-- CHAN_RETRY (R309): Re-runs the failed access of a halted channel. -/
  | chanRetry (e : Engine) (k : Fin 8)
  /-- CHAN_SKIP (R309): Continues with the next descriptor of a halted channel. -/
  | chanSkip (e : Engine) (k : Fin 8)
  /-- CHAN_ABORT (R309): Ends the chain and enters IDLE. -/
  | chanAbort (e : Engine) (k : Fin 8)
  /-- DMA_PAUSE_WRITE (R307): Sets or clears PAUSE on a DMA channel. -/
  | dmaPauseWrite (e : Engine) (k : Fin 8) (on : Bool)
  /-- DMA_PAUSED (R307): Every byte read has been written, and the channel is PAUSED and releases its engine. -/
  | dmaPaused (e : Engine) (k : Fin 8)
  /-- DESC_FETCH (R302): A descriptor fetch returns, and the descriptor is checked or the channel halts. -/
  | descFetch (e : Engine) (k : Fin 8) (ecc : Ecc)
  /-- DMA_ACCESS_RESPONSE (R308): A DMA read or write is answered, and the move advances or halts. -/
  | dmaAccessResponse (e : Engine) (k : Fin 8) (answer : AccessAnswer)
  /-- DESC_COMPLETE (R301): A descriptor completes, posting a completion word, and the engine picks the next channel. -/
  | descComplete (e : Engine) (k : Fin 8)
  /-- PROG_MOVE (R304): Program MOVE runs a descriptor. -/
  | progMove (e : Engine) (k : Fin 2) (ecc : Ecc)
  /-- PROG_SET (R304): Sets a program counter. -/
  | progSet (e : Engine) (k : Fin 2) (ecc : Ecc)
  /-- PROG_LOOP (R304): Decrements a counter and branches if it is non-zero. -/
  | progLoop (e : Engine) (k : Fin 2) (ecc : Ecc)
  /-- PROG_JUMP (R304): Continues at an instruction. -/
  | progJump (e : Engine) (k : Fin 2) (ecc : Ecc)
  /-- PROG_WAIT_EVENT (R304): Waits until an event source fires. -/
  | progWaitEvent (e : Engine) (k : Fin 2) (ecc : Ecc)
  /-- PROG_WAIT_WORD (R304): Waits until a memory word equals IMM. -/
  | progWaitWord (e : Engine) (k : Fin 2) (ecc : Ecc)
  /-- PROG_WAIT_POLL (R304): The word is polled every 1 µs during WAIT_WORD. -/
  | progWaitPoll (e : Engine) (k : Fin 2) (ecc : Ecc)
  /-- PROG_WAIT_RELEASE (R304): The awaited event or word arrives and the program continues. -/
  | progWaitRelease (e : Engine) (k : Fin 2) (ecc : Ecc)
  /-- PROG_WAIT_TIMEOUT (R304): A wait exceeds WAIT_LIMIT and the channel halts. -/
  | progWaitTimeout (e : Engine) (k : Fin 2)
  /-- PROG_WRITE (R304): Writes IMM to a memory word. -/
  | progWrite (e : Engine) (k : Fin 2) (ecc : Ecc)
  /-- PROG_SIGNAL (R304): Posts a completion word with USER = IMM. -/
  | progSignal (e : Engine) (k : Fin 2) (ecc : Ecc)
  /-- PROG_END (R304): The program channel enters IDLE. -/
  | progEnd (e : Engine) (k : Fin 2) (ecc : Ecc)
  /-- PORT_STALL (R305): A held port access exceeds PORT_WAIT and the channel halts. -/
  | portStall (e : Engine) (k : Fin 8)
  /-- NORESP (R306): A port access gets no answer within 10 µs. -/
  | noresp (e : Engine) (k : Fin 8)
  /-- LANE_ENABLE (R314): Setting ENABLE starts lane bring-up, and clearing it disables the lane. -/
  | laneEnable (l : Lane) (on : Bool)
  /-- RECEIVER_DETECT (R314): The receiver-detect test runs every 1 ms until a partner is found. -/
  | receiverDetect (l : Lane) (found : Bool)
  /-- GATHER_WINDOW_END (R315): A gathering window ends and new equalisation is applied. -/
  | gatherWindowEnd (l : Lane) (eh ew : BitVec 8) (eq : EqSet)
  /-- TRAIN_COMPLETE (R315): The lane leaves TRAIN 16 frames after both ends are READY. -/
  | trainComplete (l : Lane)
  /-- BIT_LOCK (R314): The CDR locks and the lane moves to BLOCK_LOCK. -/
  | bitLock (l : Lane)
  /-- BLOCK_LOCK (R314): 256 valid sync headers move the lane to CAPS. -/
  | blockLock (l : Lane)
  /-- CAPS_EXCHANGE (R320): Three identical CAPS blocks complete the exchange, or compatibility fails. -/
  | capsExchange (l : Lane) (caps : BitVec 64)
  /-- CAPS_SEND (R320): The lane sends a CAPS block every 1 µs in step 5. -/
  | capsSend (l : Lane)
  /-- LANE_STEP_TIMEOUT (R314): A bring-up step exceeds its limit and the lane goes FAILED. -/
  | laneStepTimeout (l : Lane)
  /-- AUTO_RETRAIN (R314): A FAILED lane restarts 1 s later. -/
  | autoRetrain (l : Lane)
  /-- HEADER_WINDOW (R316): A window of 1,024 headers ends, and 32 invalid headers lose block lock. -/
  | headerWindow (l : Lane) (invalid badBlocks : BitVec 11)
  /-- FOM_UPDATE (R313): The eye FOM is refreshed every 16 µs, with restore on FOM_FLOOR while frozen. -/
  | fomUpdate (l : Lane) (eh ew : BitVec 8)
  /-- ADAPT_FREEZE (R317): 65,536 consecutive IDLE blocks freeze adaptation. -/
  | adaptFreeze (l : Lane)
  /-- ADAPT_RESUME (R317): 4,096 consecutive data blocks resume adaptation. -/
  | adaptResume (l : Lane)
  /-- FOM_LOW (R318): FOM stays below FOM_FLOOR for 1 ms and the lane retrains. -/
  | fomLow (l : Lane)
  /-- LANE_RETRAIN_REQUEST (R314): Host retrains a lane with reason HOST. -/
  | laneRetrainRequest (l : Lane)
  /-- LINK_FORM (R322): Lanes active within 1 ms of the first form the initial link width. -/
  | linkForm (k : Link)
  /-- LINK_CTRL_UP (R333): Host brings a link up. -/
  | linkCtrlUp (k : Link)
  /-- LINK_CTRL_DOWN (R333): Host takes a link down. -/
  | linkCtrlDown (k : Link)
  /-- MARKER (R322): A MARKER block deskews the lanes and applies pending adds and re-forms. -/
  | marker (k : Link) (skew : Nat)
  /-- FRAME_SEND (R327): The sender transmits a frame when credit and replay-buffer space allow. -/
  | frameSend (k : Link) (st : Stream) (len : Nat) (mark : Option (BitVec 32)) (eom : Bool)
  /-- FRAME_RECEIVE (R327): A frame is delivered when its CRC and SEQ are good, or is discarded with a NAK. -/
  | frameReceive (k : Link) (f : Frame) (tagOk : Bool)
  /-- ACK (R327): An acknowledgement frees frames in the replay buffer. -/
  | ack (k : Link) (seq : BitVec 12)
  /-- NAK (R327): Replays from the oldest unacknowledged frame. -/
  | nak (k : Link) (seq : BitVec 12)
  /-- CREDIT (R330): Adds credit for a stream. -/
  | credit (k : Link) (st : Stream) (amount : BitVec 24)
  /-- LANE_DROP (R325): Both ends stripe over the remaining lanes. -/
  | laneDrop (k : Link) (l : Lane)
  /-- LANE_ADD (R325): Restores a retrained lane at the next MARKER. -/
  | laneAdd (k : Link) (l : Lane)
  /-- RATE_NOTICE (R319): The partner announces a lane rate change. -/
  | rateNotice (l : Lane)
  /-- REPLAY_TIMEOUT (R327): No acknowledgement progress in REPLAY_TIMEOUT, so the sender replays, and goes DOWN on the eighth replay. -/
  | replayTimeout (k : Link)
  /-- CREDIT_GRANT (R330): An RX stream sends CREDIT after 4 KiB freed, or every 10 µs. -/
  | creditGrant (st : Stream)
  /-- STREAM_OPEN (R329): Opens a stream, exchanging link keys when PROTECT is set. -/
  | streamOpen (st : Stream) (key : BitVec 256)
  /-- STREAM_RESET (R328): Resets a stream. -/
  | streamReset (st : Stream)
  /-- RING_CONSUMED_WRITE (R330): The consumer advances RING_CONSUMED, freeing ring credit. -/
  | ringConsumedWrite (st : Stream) (value : BitVec 64)
  /-- PORT_MODE_WRITE (R334): Takes a control port down and brings it up in the new mode. -/
  | portModeWrite (p : Fin 2) (mode : BitVec 8)
  /-- ETH_FRAME_RX (R335): A control port receives a frame and delivers or discards it. -/
  | ethFrameRx (p : Fin 2) (f : EthFrame)
  /-- PORT_LINK_DOWN (R335): A control port loses link and reports it. -/
  | portLinkDown (p : Fin 2)
  /-- PTP_EVENT_TX (R344): Timestamps a sent PTP event message, inserting one-step time or queueing the timestamp. -/
  | ptpEventTx (p : Fin 2) (m : PtpMsg)
  /-- TSQ_ENTRY_READ (R345): Removes and returns the oldest transmit timestamp. -/
  | tsqEntryRead (p : Fin 2)
  /-- SYNC_LOSS (R341): No Sync for three intervals puts the clock in HOLDOVER. -/
  | syncLoss
  /-- RATE_SET (R339): Changes RATE without a time step. -/
  | rateSet (rate : BitVec 64)
  /-- OFFSET_ADJUST (R339): Steps OFFSET by a signed amount. -/
  | offsetAdjust (amount : BitVec 64)
  /-- TIME_SET (R339): Sets network time to a value. -/
  | timeSet (time : BitVec 64)
  /-- TIME_COPY_REFRESH (R340): The unit copies of network time are refreshed every 1.024 µs. -/
  | timeCopyRefresh (unit : BitVec 12)
  /-- TPG_ENABLE (R346): Enables or disables a TPG after the start, width and claim checks. -/
  | tpgEnable (n : Tpg) (on : Bool)
  /-- TPG_FIRE (R346): Network time reaches a grid point and the TPG fires to its destinations. -/
  | tpgFire (n : Tpg)
  /-- TPG_PULSE_END (R346): WIDTH elapses and the pulse ends. -/
  | tpgPulseEnd (n : Tpg)
  /-- SELF_TEST_REQUEST (R381): Repeats the Touchmark self-tests on demand. -/
  | selfTestRequest
  /-- SELF_TEST_COMPLETE (R378): The known-answer and entropy tests end, with OPERATIONAL or ERROR. -/
  | selfTestComplete (result : BitVec 32) (smp : Sample)
  /-- ENTROPY_FAIL (R379): A conditional entropy test fails and the unit enters ERROR. -/
  | entropyFail
  /-- ZEROIZE (R397): Object zeroisation: erases keys, advances slot epochs, enters ENROLMENT and SAFE_HOLD. -/
  | zeroize (value : BitVec 16)
  /-- ZEROIZE_N (R397): The land held low 10 µs zeroises the unit in hardware. -/
  | zeroizeN (lowNs : Nat)
  /-- GROUP_KEY_IMPORT (R384): Unwraps and stores the group key. -/
  | groupKeyImport (rec : Bytes) (key : Option (BitVec 256)) (smp : Sample)
  /-- CODE_KEY_WRITE (R392): Stores a customer code key in MRAM. -/
  | codeKeyWrite (slot : Fin 8) (key : Bytes) (smp : Sample)
  /-- ROLE_ANCHOR_WRITE (R376): Enrols a role anchor in MRAM. -/
  | roleAnchorWrite (role : Role) (key : Bytes) (smp : Sample)
  /-- FW_IMAGE (R386): Verifies a firmware image and programs the inactive slot. -/
  | fwImage (len : Nat) (sigOk : Bool) (release rollback : BitVec 32)
  /-- FW_ACTIVE_SLOT_WRITE (R386): Commits the active firmware slot to MRAM. -/
  | fwActiveSlotWrite (slot : BitVec 8) (smp : Sample)
  /-- FW_ACCEPT (R386): Raises ROLLBACK to the value written. -/
  | fwAccept (value : BitVec 32) (smp : Sample)
  /-- TM_RESTART_REQUEST (R387): Restarts the Touchmark unit on the active image's part. -/
  | tmRestartRequest (verified : Bool)
  /-- DEBUG_UNLOCK (R398): A signed unlock erases the group and content keys and enters DEBUG. -/
  | debugUnlock (scope : BitVec 8) (sigOk : Bool)
  /-- SLOT_ZEROIZE (R390): Releases a content-key slot. -/
  | slotZeroize (slot : BitVec 8)
  /-- PKG_IMAGE (R389): Starts a package load from a written image. -/
  | pkgImage (b : Bay) (epoch : BitVec 16) (image : Bytes)
  /-- PKG_START (R389): Starts a package load from an RX stream ring. -/
  | pkgStart (b : Bay) (epoch : BitVec 16)
  /-- PKG_LOAD_COMPLETE (R389): The load verifies, unwraps the key and writes the tables, or fails. -/
  | pkgLoadComplete (b : Bay) (sigOk : Bool) (key : Option (BitVec 512 × BitVec 128)) (eccs : List Ecc)
  /-- SIGN_REQUEST (R395): Signs a touchmark batch with the next counter value. -/
  | signRequest (g : Graph) (node : BitVec 8) (records : BitVec 32) (payload : Bytes) (smp : Sample)
  /-- RESERVE_RETRY (R395): A refused reservation is retried every 100 ms. -/
  | reserveRetry (smp : Sample)
  /-- ROLL_STEP (R405): A rolling assay step begins shadowing the next path. -/
  | rollStep (b : Bay)
  /-- HANDOVER (R406): A hand-over point arrives and the selector switches paths. -/
  | handover (b : Bay) (codesEqual clear : Bool)
  /-- PATH_CALIBRATED (R407): The 1.5 ms measurement ends and new TRIM and TAPS are loaded. -/
  | pathCalibrated (b : Bay) (m : PathMeas)
  /-- HANDOVER_TIMEOUT (R408): No hand-over point within HANDOVER_WAIT ends the step. -/
  | handoverTimeout (b : Bay)
  /-- ROLL_PAUSE (R410): Holds rolling assay after the current step. -/
  | rollPause (b : Bay) (on : Bool)
  /-- ROLL_ENABLE (R410): Enables rolling assay, or stops it and releases the spare path. -/
  | rollEnable (b : Bay) (on : Bool)
  /-- MANUAL_TARGET (R411): Substitutes the spare path for a channel, or hands back. -/
  | manualTarget (b : Bay) (target : BitVec 8)
  /-- BAY_ASSAY_REQUEST (R412): Starts a bay assay in MAINT. -/
  | bayAssayRequest (b : Bay)
  /-- BAY_ASSAY_COMPLETE (R412): The bay assay applies new values and commits them to the ledger. -/
  | bayAssayComplete (b : Bay) (r : BayAssayResult) (smp : Sample)
  /-- TMU_ASSAY (R414): Runs a 12 ms code-density assay of an idle TMU. -/
  | tmuAssay (b : Bay)
  /-- PURLIN_ASSAY (R415): Measures purlin hops and sets the pads. -/
  | purlinAssay
  /-- ASSAY_WINDOW (R402): The pin die leaves its calibrated temperature window. -/
  | assayWindow (b : Bay) (temp : Int)
  /-- LEDGER_COMMIT (R417): Writes a ledger record to copy A, reads it back, then writes copy B. -/
  | ledgerCommit (smp : Sample)
  /-- LEDGER_INTERVAL_EXPIRY (R418): A rolling-assay TIMING commit falls due. -/
  | ledgerIntervalExpiry (b : Bay)
  /-- LEDGER_RETRY (R418): A refused assay commit is retried every 60 s. -/
  | ledgerRetry
  /-- FAULT_MESSAGE (R424): The collector accepts a fault message, records or merges it, and applies the policy. -/
  | faultMessage (unit : BitVec 12) (smp : Sample)
  /-- FAULT_OVERFLOW (R422): A unit reports messages discarded from its full port queue. -/
  | faultOverflow (unit : BitVec 12)
  /-- GRACE_EXPIRED (R427): A grace timer expires unhandled and the next step is applied. -/
  | graceExpired (unit : BitVec 12) (kind : BitVec 8) (inject : Bool)
  /-- STEP_CONFIRM (R429): A bay island confirms an escalation step. -/
  | stepConfirm (seq : BitVec 32)
  /-- STEP_UNCONFIRMED (R429): No confirmation within 100 µs sets UNCONFIRMED. -/
  | stepUnconfirmed (seq : BitVec 32)
  /-- FAULT_HANDLE (R428): Handles a fault key and stops its timer. -/
  | faultHandle (seq : BitVec 32)
  /-- POLICY_WRITE (R426): Writes a policy entry, refusing weakened fatal policies. -/
  | policyWrite (kind : BitVec 8) (entry : BitVec 32)
  /-- INJECT_GO (R430): Injects a fault message through a unit's fault port. -/
  | injectGo
  /-- FAULT_LOG_NEXT (R425): Returns up to 8 fault records and advances the read position. -/
  | faultLogNext
  /-- FAULT_LOG_RECORD (R425): Returns the record FAULT_LOG_INDEX names, or OUT_OF_RANGE. -/
  | faultLogRecord
  /-- KEEPER_TIME_REFRESH (R425): The control island refreshes the keeper's copy of network time. -/
  | keeperTimeRefresh
  /-- ARCHIVE_RETRY (R425): A refused archive write is retried every 10 s. -/
  | archiveRetry (smp : Sample)
  /-- EVENT_LOG_NEXT (R438): Returns up to 64 event-log records and advances the position. -/
  | eventLogNext
  /-- ALIVE_TOGGLE (R432): ALIVE changes level at ALIVE_FREQ while healthy. -/
  | aliveToggle
  /-- WATCHDOG_WRITE (R433): The active control core writes the keeper watchdog. -/
  | watchdogWrite
  /-- WATCHDOG_EXPIRY (R433): The watchdog expires, ALIVE stops and CONTROL_LOST is formed. -/
  | watchdogExpiry
  /-- HEARTBEAT_LOSS (R423): The core die's heartbeat is absent for 100 µs, and FAULT_NET_FAIL is formed. -/
  | heartbeatLoss
  /-- TEMPERATURE_ALARM (R423): A junction exceeds 106 °C or 112 °C, and TEMP_WARN or TEMP_CRIT is formed. -/
  | temperatureAlarm (die : Fin 8) (temp : Int)
  /-- KEEPER_CLOCK (R423): KCLK differs from REF_IN by more than 5 %. -/
  | keeperClock (ppm : Int)
  /-- SAFE_HOLD_REQUEST (R434): Host requests SAFE_HOLD. -/
  | safeHoldRequest (path : HoldPath) (value : BitVec 16)
  /-- SAFE_HOLD_EXIT_RESUME (R436): Leaves SAFE_HOLD with bays in SAFE if no cause is present. -/
  | safeHoldExitResume
  /-- SAFE_HOLD_EXIT_RESTART (R436): Resets the core die and resumes start-up at step 4. -/
  | safeHoldExitRestart
  /-- RESET_STEP_RESTART (R427): 100 ms after a RESET step, the keeper makes a RESTART exit. -/
  | resetStepRestart
  /-- SUPPLY_VALID (R441): A supply becomes valid, and the keeper checks the supply order. -/
  | supplyValid (n : Fin 8) (inOrder : Bool)
  /-- SUPPLY_TIMEOUT (R441): A supply not valid within 100 ms of group A keeps the module in KEEPER_ONLY. -/
  | supplyTimeout (n : Fin 8)
  /-- SUPPLY_FAULT (R442): A group B or C supply leaves its range and SAFE_HOLD follows. -/
  | supplyFault (n : Fin 8)
  /-- VAUX_LOSS (R442): VAUX below 3.0 V for 10 µs switches the keeper to the hold-up store. -/
  | vauxLoss
  /-- VAUX_RETURN (R442): VAUX returns above 3.1 V and the keeper goes back to it. -/
  | vauxReturn
  /-- HOLDUP_DEPLETED (R442): The store falls to 6.0 V, and the keeper completes MRAM writes and stops. -/
  | holdupDepleted
  /-- PORST_N (R451): Power-on reset of the whole module, then start-up from step 1. -/
  | porstN (lowNs : Nat)
  /-- SYS_RST_N (R451): Warm reset of the core die, keeping retained state, with start-up resumed at step 4. -/
  | sysRstN (lowNs : Nat)
  /-- START_STAGE_COMPLETE (R443): A start-up stage completes and the next begins. -/
  | startStageComplete (r : StageResult)
  /-- REF_IN_DETECT (R444): REF_IN is counted and selected, or checked again every 100 ms. -/
  | refInDetect (hz : Nat)
  /-- START_TIMEOUT (R445): READY is not reached within 10 s, and TIMEOUT is recorded. -/
  | startTimeout
  /-- HOLDUP_CHECK_REQUEST (R448): Host requests a hold-up check. -/
  | holdupCheckRequest
  /-- HOLDUP_INTERVAL_EXPIRY (R450): A periodic hold-up check falls due. -/
  | holdupIntervalExpiry
  /-- HOLDUP_CHECK_COMPLETE (R448): The 200 mA draw ends, and C, ESR and E_u are computed. -/
  | holdupCheckComplete (smp : Sample)
  /-- HOLDUP_RECHECK (R446): A failed start-up hold-up check is repeated every 10 s. -/
  | holdupRecheck
  /-- SWITCHOVER_REQUEST (R453): Requests a control-core switch-over, or refuses it. -/
  | switchoverRequest
  /-- STANDBY_LOADED (R453): The standby core has verified the image, and the gap begins. -/
  | standbyLoaded (verified : Bool)
  /-- CONTROL_CORE_FAULT (R453): The active core faults and the standby takes over at once. -/
  | controlCoreFault (core : Fin 2)
  /-- SWITCHOVER_TAKEOVER (R454): The standby becomes active and takes over the watchdog, servo and event log. -/
  | switchoverTakeover
  /-- STANDBY_RESTART (R453): The former active core restarts as standby. -/
  | standbyRestart
  /-- JTAG_INSTRUCTION (R465): A TAP instruction is executed, with land-controlling instructions acting only in SAFE_HOLD. -/
  | jtagInstruction (i : JtagInstr)
  /-- PARTNER_TRAINING (R316): A training pattern received from the partner while the lane is ACTIVE makes the lane leave ACTIVE and retrain with reason PARTNER. -/
  | partnerTraining (l : Lane)
  /-- PORT_LINK_UP (R335): A control port's Ethernet link comes up and PORT_LINK becomes 1. -/
  | portLinkUp (p : Fin 2)
  /-- REF_IN_FAULT (R423): The keeper finds REF_IN absent or off frequency while the module runs, and forms the FATAL REF_IN_FAULT. -/
  | refInFault (absent offFrequency : Bool)
  /-- TCLK_RELOCK (R220): A TMU's TCLK PLL relocks after losing lock, and ARM requests are accepted again. -/
  | tclkRelock (b : Bay)
  /-- REF_WARM_CHANGE (R221): The REF_WARM land changes level; going false clears WARM_STATE, and the module event REF_WARM_CHANGE is raised. -/
  | refWarmChange (level : Bool)
  /-- SCOPE_SAMPLE (R200): At each sample instant T0 + iΔ + SCOPE_PHASE, the SCOPE stream writes the comparator state of its routes. -/
  | scopeSample (b : Bay) (cmph cmpl : BitVec 2)
  /-- PMU_RANGE_WRITE (R182): A PMU_RANGE write while the unit is connected changes range make-before-break, and the new range is usable 5 µs later. -/
  | pmuRangeWrite (c : Chan) (epoch : BitVec 16) (range : BitVec 8)
  /-- TMU_ASSAY_COMPLETE (R414): The 12 ms code-density test ends and sets the per-tap corrections, INL_RESIDUAL, the delay-line bias and WARM_STATE. -/
  | tmuAssayComplete (b : Bay) (residual : BitVec 32)
  /-- PURLIN_ASSAY_COMPLETE (R415): The purlin hop round-trip measurements end, and the pads are set or the assay ends with HOP_LONG. -/
  | purlinAssayComplete (hopsPs : List Nat)
  /-- FW_PROGRAM_COMPLETE (R386): Programming of the inactive firmware slot ends, and FW_STATUS goes to DONE or INTERRUPTED. -/
  | fwProgramComplete (cut : Bool)
  deriving DecidableEq, Repr

end Sys2Proof
end

