-- ==== Sys2Proof/Config.lean ====
section
/-! DEFINITION. What an implementation of the module fixes, and the values the spec leaves open: constants without a
body, so that no proof can lean on a value of them. -/

namespace Sys2Proof.Config

/-- A fresh value where the spec states none; the step applies it to the state's counter of free values. (Log 3.) -/
opaque freeValue : Nat → BitVec 64
/-- Whether an event starts a site: class 0 a ridge line's assertion, 1 a TPG's firing, 2 an edge of a TRIG land; its
number; and the site (R31: no object of the dictionary names a site's start event). (Log 11.) -/
opaque startEvent : Nat → Nat → Nat → Bool
/-- The usable energy in mJ of a hold-up sample whose droop is zero, for which the quotient of R448 has no value. (Log 17.) -/
opaque energyOfNoDroop : Sample → Nat
/-- The capacitance in µF of a hold-up sample whose droop is zero, for which the quotient of R448 has no value. (Log 17.) -/
opaque capOfNoDroop : Sample → Nat
/-- A fresh truth value where the spec says that either may come about. (Log 3.) -/
opaque freeBit : Nat → Bool
/-- The per-tap correction in fs that the n-th TMU assay stored for a number of taps (R221, R414). (Log 22.) -/
opaque tapCorrection : Nat → Nat → Int
/-- The vendor microword of a release at an address (R86: the vendor words cannot be read). (Log 15.) -/
opaque vendorWord : BitVec 32 → BitVec 14 → BitVec 160
/-- The first 64 bits of SHA-384 over a string of bytes (R28, R116). (Log 22.) -/
opaque sha384First64 : Bytes → BitVec 64
/-- AES-256-XTS decryption of one 64-byte data unit with its number as tweak (R85). (Log 22.) -/
opaque xtsDecrypt : BitVec 512 → Nat → Bytes → Bytes
/-- The SECDED (39,32) check bits of a data word (R269: the code's matrix is not given). (Log 22.) -/
opaque secded : BitVec 32 → BitVec 7
/-- The training reference pattern of a pseudo-channel (R268: its bytes are not given). (Log 48.) -/
opaque trainingPattern : Nat → Bytes
/-- SERIAL, fixed at manufacture (R356). (Log 21.) -/
opaque serial : Bytes
/-- The size of the boot flash fitted, in bytes (R464: 256 Mbit to 2 Gbit). (Log 21.) -/
opaque flashBytes : Nat
/-- KEEPER_VERSION, the keeper ROM's release (R356). (Log 21.) -/
opaque keeperVersion : BitVec 32
/-- The release of the vendor microprograms in the firmware image of a release (R86). (Log 21.) -/
opaque vendorRelease : BitVec 32 → BitVec 32
/-- The dictionary version that introduced an object (R357, R360: the spec gives the field and no value of it). (Log 21.) -/
opaque since : Nat → BitVec 8
/-- UNITS strings (R356). (Log 21.) -/
opaque units : Nat → Bytes
/-- The kernels' catalogue of a release: how many kernels and their descriptors (R267). (Log 14.) -/
opaque kernelCount : BitVec 32 → BitVec 8
/-- A kernel's descriptor in a release (R267). (Log 14.) -/
opaque kernelDescriptor : BitVec 32 → Nat → Bytes
/-- The version of a kernel in a release, 0 where the release does not hold it; release 3 holds the ten of the catalogue (R244, R246).
(Log 14.) -/
opaque kernelVersion : BitVec 32 → Nat → Nat
/-- The verdict of a LIMIT kernel on a value under its parameter block, whose layout only the descriptor gives (R244). (Log 14.) -/
opaque limitVerdict : Bytes → Nat → Fin 4
/-- Whether a rule of a BIN kernel's parameter block matches its inputs (R244). (Log 14.) -/
opaque binRule : Bytes → Nat → List (Nat × Nat) → Bool
/-- The bin that a rule of a BIN kernel's parameter block gives (R244). (Log 14.) -/
opaque binNumber : Bytes → Nat → BitVec 64
/-- The device certificates of the Touchmark unit (R382). (Log 21.) -/
opaque certificate : Nat → Bytes
/-- DEBUG_NONCE (R398). (Log 21.) -/
opaque debugNonce : Nat → Bytes
/-- The ECDSA signature over a touchmark (R394). (Log 22.) -/
opaque signature : Bytes → Bytes
/-- Objects of the vendor diagnostics range F000 to FFFF: by key and moment, the type code and value (R351). (Log 20.) -/
opaque vendorObject : Nat → Nat → Option (BitVec 8 × Bytes)
/-- A fresh string of bytes where the spec states none. (Log 3.) -/
opaque freeBytes : Nat → Bytes
/-- What a hold-up check measures where a command carries no sample of its own (R448). (Log 18.) -/
opaque freeSample : Nat → Sample

end Sys2Proof.Config
end

