-- ==== Sys2Proof/Machine/Dictionary.lean ====
section
/-! DEFINITION. The object dictionary as a table: one row for each line of the object tables of the spec's chapters, with its
address range, type, access code, default, range, roles and descriptor flags (R350 to R357). -/

namespace Sys2Proof.Machine

/-- One line of an object table.  The indexes are base + i * stride + j with i < count and j < width; the subindexes
run from subLo to subHi.  `type` is the type code of R352, `access` the access code of R357, `dflt` the default in the
encoding of R352, `mn` and `mx` the range of a value, or of a DOMAIN's length.  The roles are those of R353 and the
flags those of R357. -/
structure Row where
  base      : Nat
  stride    : Nat
  count     : Nat
  width     : Nat
  subLo     : Nat
  subHi     : Nat
  type      : Nat
  access    : Nat
  dflt      : Nat
  mn        : Int
  mx        : Int
  readRole  : Nat
  writeRole : Nat
  stageable : Bool
  multi     : Bool
  internal  : Bool
  keeper    : Bool
  deriving DecidableEq, Repr

/-- Lines of the object tables of chapter 02. -/
def dict02_a : List Row := [
  ⟨0x2800, 0x1, 1, 1, 0x1, 0x1, 2, 0, 0x0, (0), (255), 0, 1, false, false, false, false⟩,  -- 2800:01 SITE_COUNT
  ⟨0x2810, 0x1, 64, 1, 0x1, 0x1, 4, 5, 0x0, (0), (4294967295), 0, 1, false, true, false, false⟩,  -- (2810+s):01 SYSTEM_TAG
  ⟨0x2810, 0x1, 64, 1, 0x2, 0x2, 2, 5, 0x0, (0), (4), 0, 1, false, true, false, false⟩,  -- (2810+s):02 KIND
  ⟨0x2810, 0x1, 64, 1, 0x3, 0x3, 3, 5, 0x0, (0), (65535), 0, 1, false, true, false, false⟩,  -- (2810+s):03 BAY_MASK
  ⟨0x2810, 0x1, 64, 1, 0x4, 0x4, 2, 5, 0x0, (0), (3), 0, 1, false, true, false, false⟩,  -- (2810+s):04 QUAD
  ⟨0x2810, 0x1, 64, 1, 0x5, 0x5, 3, 0, 0x0, (0), (65535), 0, 1, false, false, false, false⟩,  -- (2810+s):05 EPOCH
  ⟨0x2810, 0x1, 64, 1, 0x6, 0x6, 2, 5, 0xFF, (0), (255), 0, 1, false, true, false, false⟩,  -- (2810+s):06 RIDGE_FAIL
  ⟨0x2810, 0x1, 64, 1, 0x7, 0x7, 2, 5, 0xFF, (0), (255), 0, 1, false, true, false, false⟩,  -- (2810+s):07 RIDGE_MATCH
  ⟨0x2810, 0x1, 64, 1, 0x8, 0x8, 2, 5, 0x0, (0), (7), 0, 1, false, true, false, false⟩,  -- (2810+s):08 PURLIN_POSITION
  ⟨0x2810, 0x1, 64, 1, 0x9, 0x9, 4, 0, 0x0, (0), (4294967295), 0, 1, false, false, false, false⟩,  -- (2810+s):09 SITE_STATUS
  ⟨0x3000, 0x100, 16, 1, 0x1, 0x1, 2, 0, 0x0, (0), (255), 0, 1, false, false, false, false⟩,  -- 3b00:01 BAY_STATE
  ⟨0x3000, 0x100, 16, 1, 0x2, 0x2, 2, 2, 0x0, (0), (9), 0, 1, false, false, false, false⟩,  -- 3b00:02 STATE_REQUEST
  ⟨0x3000, 0x100, 16, 1, 0x3, 0x3, 2, 0, 0x0, (0), (255), 0, 1, false, false, false, false⟩,  -- 3b00:03 ARM_STATUS
  ⟨0x3000, 0x100, 16, 1, 0x4, 0x4, 3, 0, 0x0, (0), (65535), 0, 1, false, false, false, false⟩,  -- 3b00:04 SITE_EPOCH
  ⟨0x3000, 0x100, 16, 1, 0x5, 0x5, 4, 0, 0x0, (0), (4294967295), 0, 1, false, false, false, false⟩,  -- 3b00:05 STALE_COUNT
  ⟨0x3000, 0x100, 16, 1, 0x6, 0x6, 2, 0, 0xFF, (0), (255), 0, 1, false, false, false, false⟩,  -- 3b00:06 CURRENT_SITE
  ⟨0x3001, 0x100, 16, 1, 0x1, 0x4, 2, 5, 0x0, (0), (4), 0, 1, false, false, false, false⟩,  -- 3b01:01–04 QUAD_RETIRE_STATE
  ⟨0x3001, 0x100, 16, 1, 0x5, 0x5, 2, 0, 0x0, (0), (255), 0, 1, false, false, false, false⟩,  -- 3b01:05 QUADS_RETIRED
  ⟨0x3001, 0x100, 16, 1, 0x6, 0x6, 4, 0, 0xFFFFFFFF, (0), (4294967295), 0, 1, false, false, false, false⟩,  -- 3b01:06 QUAD_SITE
  ⟨0x3002, 0x100, 16, 1, 0x1, 0x1, 2, 0, 0x0, (0), (255), 0, 1, false, false, false, false⟩,  -- 3b02:01 COMMIT_STATUS
  ⟨0x3002, 0x100, 16, 1, 0x2, 0x2, 2, 0, 0x0, (0), (255), 0, 1, false, false, false, false⟩,  -- 3b02:02 COMMIT_REASON
  ⟨0x3002, 0x100, 16, 1, 0x3, 0x3, 3, 0, 0x0, (0), (65535), 0, 1, false, false, false, false⟩,  -- 3b02:03 COMMIT_TAG
  ⟨0x2801, 0x1, 1, 1, 0x1, 0x1, 3, 0, 0x0, (0), (65535), 0, 1, false, false, false, false⟩,  -- 2801:01 COMMIT_TAG
  ⟨0x2801, 0x1, 1, 1, 0x2, 0x2, 4, 1, 0x4E20, (1000), (1000000), 0, 1, false, false, false, false⟩,  -- 2801:02 COMMIT_WINDOW
  ⟨0x2801, 0x1, 1, 1, 0x3, 0x3, 2, 0, 0x0, (0), (255), 0, 1, false, false, false, false⟩,  -- 2801:03 COMMIT_RESULT
  ⟨0x2801, 0x1, 1, 1, 0x4, 0x4, 13, 0, 0x0, (0), (256), 0, 1, false, false, false, false⟩,  -- 2801:04 COMMIT_REPORT
  ⟨0x2801, 0x1, 1, 1, 0x5, 0x5, 5, 0, 0x0, (0), (18446744073709551615), 0, 1, false, false, false, false⟩,  -- 2801:05 APPLIED_MASK
  ⟨0x30E0, 0x100, 16, 1, 0x1, 0x1, 4, 1, 0x0, (0), (1048575), 0, 1, false, false, false, false⟩,  --  CLAIM_BLANK_TIMER
  ⟨0x30C0, 0x100, 16, 1, 0x1, 0x2, 4, 1, 0x0, (0), (1048575), 0, 1, false, false, false, false⟩,  --  CLAIM_PROBE_ROUTE
  ⟨0x30A0, 0x100, 16, 1, 0x1, 0x8, 4, 1, 0x0, (0), (1048575), 0, 1, false, false, false, false⟩,  --  CLAIM_CAPTURE_PARTITION
  ⟨0x30E0, 0x100, 16, 1, 0x2, 0x2, 4, 1, 0x0, (0), (1048575), 0, 1, false, false, false, false⟩,  --  CLAIM_SPARE_PATH
  ⟨0x2880, 0x1, 1, 1, 0x1, 0x8, 4, 1, 0x0, (0), (1048575), 0, 1, false, false, false, false⟩,  --  CLAIM_TRIG
  ⟨0x2890, 0x1, 1, 1, 0x1, 0x20, 4, 1, 0x0, (0), (1048575), 0, 1, false, false, false, false⟩,  --  CLAIM_RIDGE
  ⟨0xA310, 0x1, 1, 1, 0x1, 0x8, 4, 1, 0x0, (0), (1048575), 0, 1, false, false, false, false⟩  --  CLAIM_TPG
]

/-- Lines of the object tables of chapter 03. -/
def dict03_a : List Row := [
  ⟨0x3003, 0x100, 16, 1, 0x1, 0x1, 4, 0, 0x0, (0), (4294967295), 0, 1, false, false, false, false⟩,  -- 3b03:01 SEQ_FLAGS
  ⟨0x3003, 0x100, 16, 1, 0x2, 0x2, 3, 0, 0x0, (0), (65535), 0, 1, false, false, false, false⟩,  -- 3b03:02 CURRENT_ENTRY
  ⟨0x3003, 0x100, 16, 1, 0x3, 0x3, 4, 0, 0x0, (0), (4294967295), 0, 1, false, false, false, false⟩,  -- 3b03:03 CURRENT_PASS
  ⟨0x3003, 0x100, 16, 1, 0x4, 0x4, 4, 0, 0x0, (0), (4294967295), 0, 1, false, false, false, false⟩,  -- 3b03:04 CURRENT_GRANULE
  ⟨0x3003, 0x100, 16, 1, 0x5, 0x5, 3, 0, 0x0, (0), (65535), 0, 1, false, false, false, false⟩,  -- 3b03:05 CURRENT_TAG
  ⟨0x3003, 0x100, 16, 1, 0x6, 0x6, 5, 0, 0x0, (0), (18446744073709551615), 0, 1, false, false, false, false⟩,  -- 3b03:06 VECTORS_ISSUED
  ⟨0x3003, 0x100, 16, 1, 0x7, 0x7, 3, 2, 0x0, (0), (8191), 0, 1, false, false, false, false⟩,  -- 3b03:07 JUMP_REQUEST
  ⟨0x3003, 0x100, 16, 1, 0x8, 0x8, 3, 0, 0x0, (0), (65535), 0, 1, false, false, false, false⟩,  -- 3b03:08 DEFERRED_ENTRY
  ⟨0x3003, 0x100, 16, 1, 0x9, 0x9, 4, 0, 0x0, (0), (4294967295), 0, 1, false, false, false, false⟩,  -- 3b03:09 DEFERRED_PASS
  ⟨0x3003, 0x100, 16, 1, 0xA, 0xA, 4, 0, 0x0, (0), (4294967295), 0, 1, false, false, false, false⟩,  -- 3b03:0A JUMP_DROP_COUNT
  ⟨0x3003, 0x100, 16, 1, 0xB, 0xB, 4, 5, 0x0, (0), (4294967295), 0, 1, false, false, false, false⟩,  -- 3b03:0B COND_JUMP
  ⟨0x3003, 0x100, 16, 1, 0xC, 0xC, 4, 5, 0x0, (0), (4294967295), 0, 1, false, false, false, false⟩,  -- 3b03:0C RIDGE_JUMP
  ⟨0x3003, 0x100, 16, 1, 0xD, 0xD, 1, 5, 0x0, (0), (1), 0, 1, false, false, false, false⟩,  -- 3b03:0D ABORT_ON_UNDERRUN
  ⟨0x3003, 0x100, 16, 1, 0xE, 0xE, 3, 0, 0xFFFF, (0), (65535), 0, 1, false, false, false, false⟩,  -- 3b03:0E RETURN_ENTRY
  ⟨0x3004, 0x100, 16, 1, 0x1, 0x1, 4, 0, 0x0, (0), (4294967295), 0, 1, false, false, false, false⟩,  -- 3b04:01 UNDERRUN_COUNT
  ⟨0x3004, 0x100, 16, 1, 0x2, 0x2, 5, 0, 0x0, (0), (18446744073709551615), 0, 1, false, false, false, false⟩,  -- 3b04:02 PAD_GRANULES
  ⟨0x3004, 0x100, 16, 1, 0x3, 0x3, 13, 0, 0x0, (0), (768), 0, 1, false, false, false, false⟩,  -- 3b04:03 UNDERRUN_LOG
  ⟨0x3004, 0x100, 16, 1, 0x4, 0x4, 1, 2, 0x0, (0), (1), 0, 1, false, false, false, false⟩,  -- 3b04:04 UNDERRUN_LOG_CLEAR
  ⟨0x3020, 0x100, 16, 1, 0x1, 0x1, 3, 1, 0x0, (0), (8191), 0, 1, false, false, false, false⟩,  -- 3b20:01 TABLE_INDEX
  ⟨0x3020, 0x100, 16, 1, 0x2, 0x2, 13, 5, 0x0, (32), (32), 0, 1, false, false, false, false⟩,  -- 3b20:02 ENTRY
  ⟨0x3020, 0x100, 16, 1, 0x3, 0x3, 13, 5, 0x0, (32), (8192), 0, 1, false, false, false, false⟩,  -- 3b20:03 TABLE_BLOCK
  ⟨0x3020, 0x100, 16, 1, 0x4, 0x4, 3, 5, 0x0, (0), (8191), 0, 1, false, false, false, false⟩,  -- 3b20:04 START_ENTRY
  ⟨0x3020, 0x100, 16, 1, 0x5, 0x5, 5, 0, 0x0, (0), (18446744073709551615), 0, 1, false, false, false, false⟩,  -- 3b20:05 TABLE_DIGEST
  ⟨0x3020, 0x100, 16, 1, 0x6, 0x6, 4, 0, 0x0, (0), (4294967295), 0, 1, false, false, false, false⟩,  -- 3b20:06 ENTRY_ERROR
  ⟨0x3030, 0x100, 16, 1, 0x1, 0x1, 3, 5, 0xFFFF, (0), (65535), 0, 1, false, false, false, false⟩,  -- 3b30:01 ACTIVE_MASK
  ⟨0x3030, 0x100, 16, 1, 0x2, 0x2, 2, 5, 0x4, (2), (4), 0, 1, false, false, false, false⟩,  -- 3b30:02 SYMBOL_BITS
  ⟨0x3030, 0x100, 16, 1, 0x3, 0x3, 5, 5, 0x0, (0), (18446744073709551615), 0, 1, false, false, false, false⟩,  -- 3b30:03 INACTIVE_SYMBOL
  ⟨0x3030, 0x100, 16, 1, 0x4, 0x4, 4, 0, 0x0, (0), (4294967295), 0, 1, false, false, false, false⟩,  -- 3b30:04 RESIDENT_BYTES
  ⟨0x3030, 0x100, 16, 1, 0x5, 0x5, 4, 0, 0x0, (0), (4294967295), 0, 1, false, false, false, false⟩,  -- 3b30:05 RING_BYTES
  ⟨0x3030, 0x100, 16, 1, 0x6, 0x6, 4, 0, 0x0, (0), (4294967295), 0, 1, false, false, false, false⟩,  -- 3b30:06 CONSUMPTION
  ⟨0x3030, 0x100, 16, 1, 0x7, 0x7, 4, 0, 0x0, (0), (4294967295), 0, 1, false, false, false, false⟩,  -- 3b30:07 RING_COVER
  ⟨0x3030, 0x100, 16, 1, 0x8, 0x8, 4, 0, 0x0, (0), (4294967295), 0, 1, false, false, false, false⟩,  -- 3b30:08 LEAD_NOW
  ⟨0x3030, 0x100, 16, 1, 0x9, 0x9, 4, 0, 0x0, (0), (4294967295), 0, 1, false, false, false, false⟩,  -- 3b30:09 LEAD_MIN
  ⟨0x3030, 0x100, 16, 1, 0xA, 0xA, 4, 0, 0x0, (0), (4294967295), 0, 1, false, false, false, false⟩,  -- 3b30:0A ARM_DETAIL
  ⟨0x3031, 0x100, 16, 1, 0x1, 0x10, 2, 5, 0x0, (0), (136), 0, 1, true, false, false, false⟩,  -- 3b31:01–10 PAD_ACTION
  ⟨0x3032, 0x100, 16, 1, 0x1, 0x1, 5, 5, 0x0, (0), (18446744073709551615), 0, 1, false, false, false, false⟩,  -- 3b32:01 STAGE_BASE
  ⟨0x3032, 0x100, 16, 1, 0x2, 0x2, 4, 5, 0x0, (0), (4294901760), 0, 1, false, false, false, false⟩,  -- 3b32:02 STAGE_SIZE
  ⟨0x3032, 0x100, 16, 1, 0x3, 0x3, 5, 0, 0x0, (0), (18446744073709551615), 0, 1, false, false, false, false⟩,  -- 3b32:03 STAGE_WRITE
  ⟨0x3032, 0x100, 16, 1, 0x4, 0x4, 5, 0, 0x0, (0), (18446744073709551615), 0, 1, false, false, false, false⟩,  -- 3b32:04 STAGE_READ
  ⟨0x3032, 0x100, 16, 1, 0x5, 0x5, 3, 5, 0xFFFF, (0), (65535), 0, 1, false, false, false, false⟩  -- 3b32:05 STAGE_STREAM
]

/-- Lines of the object tables of chapter 04. -/
def dict04_a : List Row := [
  ⟨0x3040, 0x100, 16, 1, 0x1, 0x1, 3, 1, 0x3000, (0), (16383), 0, 1, false, false, false, false⟩,  -- 3b40:01 CS_INDEX
  ⟨0x3040, 0x100, 16, 1, 0x2, 0x2, 13, 0, 0x0, (20), (20), 0, 1, false, false, false, false⟩,  -- 3b40:02 CS_WORD
  ⟨0x3040, 0x100, 16, 1, 0x3, 0x3, 13, 2, 0x0, (0), (67108864), 0, 1, false, false, false, false⟩,  -- 3b40:03 BANK_IMAGE
  ⟨0x3040, 0x100, 16, 1, 0x4, 0x4, 2, 0, 0x0, (0), (255), 0, 1, false, false, false, false⟩,  -- 3b40:04 LOAD_STATUS
  ⟨0x3040, 0x100, 16, 1, 0x5, 0x5, 4, 0, 0x0, (0), (4294967295), 0, 1, false, false, false, false⟩,  -- 3b40:05 LOAD_DETAIL
  ⟨0x3040, 0x100, 16, 1, 0x6, 0x6, 4, 0, 0x0, (0), (4294967295), 0, 1, false, false, false, false⟩,  -- 3b40:06 BANK_VERSION
  ⟨0x3040, 0x100, 16, 1, 0x7, 0x7, 5, 0, 0x0, (0), (18446744073709551615), 0, 1, false, false, false, false⟩,  -- 3b40:07 BANK_DIGEST
  ⟨0x3040, 0x100, 16, 1, 0x8, 0x8, 4, 0, 0x0, (0), (4294967295), 0, 1, false, false, false, false⟩,  -- 3b40:08 VENDOR_VERSION
  ⟨0x3040, 0x100, 16, 1, 0x9, 0x9, 4, 0, 0x0, (0), (4294967295), 0, 1, false, false, false, false⟩,  -- 3b40:09 MICRO_FLAGS
  ⟨0x3040, 0x100, 16, 1, 0xA, 0xA, 4, 0, 0x0, (0), (4294967295), 0, 1, false, false, false, false⟩,  -- 3b40:0A CS_CORRECTED
  ⟨0x3040, 0x100, 16, 1, 0xB, 0xB, 3, 0, 0x0, (0), (65535), 0, 1, false, false, false, false⟩,  -- 3b40:0B CS_ERROR_ADDR
  ⟨0x3040, 0x100, 16, 1, 0xC, 0xC, 3, 0, 0x0, (0), (65535), 0, 1, false, false, false, false⟩,  -- 3b40:0C UPC
  ⟨0x3041, 0x100, 16, 1, 0x1, 0xF, 4, 5, 0x0, (0), (4294967295), 0, 1, false, false, false, false⟩,  -- 3b41:01–0F CUSTOM_ENTRY
  ⟨0x3041, 0x100, 16, 1, 0x10, 0x10, 4, 5, 0x1000000, (1024), (4294967295), 0, 1, false, false, false, false⟩,  -- 3b41:10 CUSTOM_WATCHDOG
  ⟨0x3042, 0x100, 16, 1, 0x1, 0x4, 4, 5, 0x0, (0), (4294967295), 0, 1, false, false, false, false⟩,  -- 3b42:01–04 CNT_RELOAD
  ⟨0x3042, 0x100, 16, 1, 0x5, 0x8, 4, 0, 0x0, (0), (4294967295), 0, 1, false, false, false, false⟩,  -- 3b42:05–08 CNT_VALUE
  ⟨0x3042, 0x100, 16, 1, 0x9, 0x9, 4, 1, 0x0, (0), (4294967295), 0, 1, false, false, true, false⟩,  -- 3b42:09 USER_FLAGS
  ⟨0x3043, 0x100, 16, 1, 0x1, 0x10, 5, 5, 0x0, (0), (18446744073709551615), 0, 1, false, false, false, false⟩,  -- 3b43:01–10 MATCH_MASK
  ⟨0x3044, 0x100, 16, 1, 0x1, 0x10, 4, 5, 0x0, (0), (4294967295), 0, 1, false, false, false, false⟩,  -- 3b44:01–10 OBJ_SLOT
  ⟨0x3044, 0x100, 16, 1, 0x11, 0x11, 4, 0, 0x0, (0), (4294967295), 0, 1, false, false, false, false⟩,  -- 3b44:11 OBJ_DROP_COUNT
  ⟨0x3045, 0x100, 16, 1, 0x1, 0x2, 2, 5, 0xFF, (0), (255), 0, 1, false, false, false, false⟩,  -- 3b45:01–02 MR_LINE
  ⟨0x3046, 0x100, 16, 1, 0x1, 0x20, 3, 5, 0xFFFF, (0), (65535), 0, 1, false, false, false, false⟩  -- 3b46:01–20 EVT_IN_MAP
]

/-- Lines of the object tables of chapter 05. -/
def dict05_a : List Row := [
  ⟨0x3060, 0x100, 16, 1, 0x1, 0x40, 4, 5, 0xFA0, (1000), (4294967295), 0, 1, true, false, false, false⟩,  -- 3b60:01–40 PERIOD
  ⟨0x3061, 0x100, 16, 1, 0x1, 0x1, 3, 1, 0x0, (0), (1023), 0, 1, false, false, false, false⟩,  -- 3b61:01 TSET_INDEX
  ⟨0x3061, 0x100, 16, 1, 0x2, 0x2, 13, 5, 0x0, (680), (680), 0, 1, true, false, false, false⟩,  -- 3b61:02 TSET_RECORD
  ⟨0x3061, 0x100, 16, 1, 0x3, 0x3, 13, 5, 0x0, (680), (43520), 0, 1, true, false, false, false⟩,  -- 3b61:03 TSET_BLOCK
  ⟨0x3061, 0x100, 16, 1, 0x4, 0x4, 4, 0, 0x0, (0), (4294967295), 0, 1, false, false, false, false⟩,  -- 3b61:04 TSET_ERROR
  ⟨0x3062, 0x100, 16, 1, 0x1, 0x1, 2, 0, 0x0, (0), (255), 0, 1, false, false, false, false⟩,  -- 3b62:01 CURRENT_PRD
  ⟨0x3062, 0x100, 16, 1, 0x2, 0x2, 3, 0, 0x0, (0), (65535), 0, 1, false, false, false, false⟩,  -- 3b62:02 CURRENT_TSET
  ⟨0x3062, 0x100, 16, 1, 0x3, 0x3, 4, 0, 0x0, (0), (4294967295), 0, 1, false, false, false, false⟩,  -- 3b62:03 PERIOD_RESETS
  ⟨0x3062, 0x100, 16, 1, 0x4, 0x4, 4, 0, 0x0, (0), (4294967295), 0, 1, false, false, false, false⟩,  -- 3b62:04 RESIDUE_DROPPED
  ⟨0x3062, 0x100, 16, 1, 0x5, 0x5, 4, 0, 0x0, (0), (4294967295), 0, 1, false, false, false, false⟩,  -- 3b62:05 TIMING_CHECK
  ⟨0x3062, 0x100, 16, 1, 0x6, 0x6, 4, 0, 0x0, (0), (4294967295), 0, 1, false, false, false, false⟩,  -- 3b62:06 TIMING_CHECK_COUNT
  ⟨0x3062, 0x100, 16, 1, 0x7, 0x7, 4, 0, 0x3D090, (0), (4294967295), 0, 1, false, false, false, false⟩,  -- 3b62:07 TIME_UNIT
  ⟨0x3063, 0x100, 16, 1, 0x1, 0x4, 8, 0, 0x0, (-2147483648), (2147483647), 0, 1, false, false, false, false⟩,  -- 3b63:01–04 SP_DESKEW
  ⟨0x4020, 0x40, 256, 1, 0x1, 0x10, 2, 5, 0x0, (0), (136), 0, 1, true, false, false, false⟩,  -- ch + 20:01–10 ALPHA_PAGE0
  ⟨0x4021, 0x40, 256, 1, 0x1, 0x10, 2, 5, 0x0, (0), (136), 0, 1, true, false, false, false⟩,  -- ch + 21:01–10 ALPHA_PAGE1
  ⟨0x4022, 0x40, 256, 1, 0x1, 0x10, 2, 5, 0x0, (0), (136), 0, 1, true, false, false, false⟩,  -- ch + 22:01–10 ALPHA_PAGE2
  ⟨0x4023, 0x40, 256, 1, 0x1, 0x10, 2, 5, 0x0, (0), (136), 0, 1, true, false, false, false⟩,  -- ch + 23:01–10 ALPHA_PAGE3
  ⟨0x4024, 0x40, 256, 1, 0x1, 0x1, 2, 0, 0x0, (0), (255), 0, 1, false, false, false, false⟩,  -- ch + 24:01 FORMAT_FLAGS
  ⟨0x4024, 0x40, 256, 1, 0x2, 0x2, 4, 0, 0x0, (0), (4294967295), 0, 1, false, false, false, false⟩,  -- ch + 24:02 DRV_SUPPRESS_COUNT
  ⟨0x4024, 0x40, 256, 1, 0x3, 0x3, 4, 0, 0x0, (0), (4294967295), 0, 1, false, false, false, false⟩,  -- ch + 24:03 DEN_SUPPRESS_COUNT
  ⟨0x4024, 0x40, 256, 1, 0x4, 0x4, 4, 0, 0x0, (0), (4294967295), 0, 1, false, false, false, false⟩,  -- ch + 24:04 LATE_COUNT
  ⟨0x4024, 0x40, 256, 1, 0x5, 0x5, 4, 0, 0x0, (0), (4294967295), 0, 1, false, false, false, false⟩,  -- ch + 24:05 STROBE_SUPPRESS_COUNT
  ⟨0x4024, 0x40, 256, 1, 0x6, 0x6, 3, 5, 0x190, (400), (40000), 0, 1, false, false, false, false⟩,  -- ch + 24:06 DRV_MIN_PULSE
  ⟨0x4024, 0x40, 256, 1, 0x7, 0x7, 8, 5, 0x0, (-8000), (8000), 0, 1, true, false, false, false⟩,  -- ch + 24:07 FIXTURE_OFFSET
  ⟨0x4025, 0x40, 256, 1, 0x1, 0x4, 8, 0, 0x0, (-2147483648), (2147483647), 0, 1, false, false, false, false⟩  -- ch + 25:01–04 DESKEW
]

/-- Lines of the object tables of chapter 06. -/
def dict06_a : List Row := [
  ⟨0x3080, 0x100, 16, 1, 0x1, 0x1, 2, 0, 0x0, (0), (255), 0, 1, false, false, false, false⟩,  -- 3b80:01 CURRENT_LVL
  ⟨0x3080, 0x100, 16, 1, 0x2, 0x2, 2, 2, 0x0, (0), (15), 0, 1, false, false, false, false⟩,  -- 3b80:02 LVL_SELECT
  ⟨0x3080, 0x100, 16, 1, 0x3, 0x3, 1, 2, 0x0, (0), (1), 0, 1, false, false, false, false⟩,  -- 3b80:03 LOAD_REQUEST
  ⟨0x3080, 0x100, 16, 1, 0x4, 0x4, 4, 0, 0x0, (0), (4294967295), 0, 1, false, false, false, false⟩,  -- 3b80:04 LOAD_COUNT
  ⟨0x3080, 0x100, 16, 1, 0x5, 0x5, 2, 5, 0x0, (0), (255), 0, 1, false, false, false, false⟩,  -- 3b80:05 LOAD_RIDGE
  ⟨0x3080, 0x100, 16, 1, 0x6, 0x6, 1, 1, 0x1, (0), (1), 0, 1, false, false, false, false⟩,  -- 3b80:06 COMMIT_LOAD
  ⟨0x3080, 0x100, 16, 1, 0x7, 0x7, 2, 0, 0x3, (0), (255), 0, 1, false, false, false, false⟩,  -- 3b80:07 CLEAR_STATE
  ⟨0x3081, 0x100, 16, 1, 0x1, 0x1, 4, 1, 0x2710, (1000), (100000), 0, 1, false, false, false, false⟩,  -- 3b81:01 RB_TOL_LEVEL
  ⟨0x3081, 0x100, 16, 1, 0x2, 0x2, 2, 1, 0x3, (2), (8), 0, 1, false, false, false, false⟩,  -- 3b81:02 RB_TOL_GUARD
  ⟨0x3081, 0x100, 16, 1, 0x3, 0x3, 4, 0, 0x0, (0), (4294967295), 0, 1, false, false, false, false⟩,  -- 3b81:03 RB_FRAMES
  ⟨0x30E1, 0x100, 16, 1, 0x1, 0x1, 3, 5, 0x0, (0), (1023), 0, 1, false, false, false, false⟩,  -- 3bE1:01 BLANK_TIME
  ⟨0x30E1, 0x100, 16, 1, 0x2, 0x2, 3, 5, 0x0, (0), (65535), 0, 1, false, false, false, false⟩,  -- 3bE1:02 BLANK_EDGE_MASK
  ⟨0x30E1, 0x100, 16, 1, 0x3, 0x3, 1, 0, 0x0, (0), (1), 0, 1, false, false, false, false⟩,  -- 3bE1:03 BLANK_ACTIVE
  ⟨0x30E1, 0x100, 16, 1, 0x4, 0x4, 3, 5, 0x0, (0), (65535), 0, 1, false, false, false, false⟩,  -- 3bE1:04 WAKE_MASK
  ⟨0x30E1, 0x100, 16, 1, 0x5, 0x5, 1, 0, 0x0, (0), (1), 0, 1, false, false, false, false⟩,  -- 3bE1:05 BAY_TRIP
  ⟨0x30E1, 0x100, 16, 1, 0x6, 0x6, 2, 0, 0xFF, (0), (255), 0, 1, false, false, false, false⟩,  -- 3bE1:06 BAY_TRIP_SOURCE
  ⟨0x4000, 0x40, 256, 1, 0x1, 0x1, 2, 5, 0x0, (0), (1), 0, 1, false, false, false, false⟩,  -- ch + 00:01 OFF_MODE
  ⟨0x4000, 0x40, 256, 1, 0x2, 0x2, 1, 5, 0x0, (0), (1), 0, 1, false, false, false, false⟩,  -- ch + 00:02 LOAD_EN
  ⟨0x4000, 0x40, 256, 1, 0x3, 0x3, 3, 5, 0x0, (0), (4095), 0, 1, false, false, false, false⟩,  -- ch + 00:03 IOL
  ⟨0x4000, 0x40, 256, 1, 0x4, 0x4, 3, 5, 0x0, (0), (4095), 0, 1, false, false, false, false⟩,  -- ch + 00:04 IOH
  ⟨0x4000, 0x40, 256, 1, 0x5, 0x5, 3, 0, 0x31, (0), (65535), 0, 1, false, false, false, false⟩,  -- ch + 00:05 INHIBIT_CAUSE
  ⟨0x4000, 0x40, 256, 1, 0x6, 0x6, 2, 0, 0x0, (0), (255), 0, 1, false, false, false, false⟩,  -- ch + 00:06 SELECTOR
  ⟨0x4001, 0x40, 256, 16, 0x1, 0x1, 4, 5, 0x10000, (0), (262143), 0, 1, true, false, false, false⟩,  -- ch + 01 to ch + 10:01–08 LEVEL_SET
  ⟨0x4001, 0x40, 256, 16, 0x2, 0x2, 4, 5, 0x10000, (0), (262143), 0, 1, true, false, false, false⟩,  -- ch + 01 to ch + 10:01–08 LEVEL_SET
  ⟨0x4001, 0x40, 256, 16, 0x3, 0x3, 4, 5, 0x10000, (0), (262143), 0, 1, true, false, false, false⟩,  -- ch + 01 to ch + 10:01–08 LEVEL_SET
  ⟨0x4001, 0x40, 256, 16, 0x4, 0x4, 4, 5, 0x10000, (0), (262143), 0, 1, true, false, false, false⟩,  -- ch + 01 to ch + 10:01–08 LEVEL_SET
  ⟨0x4001, 0x40, 256, 16, 0x5, 0x5, 4, 5, 0x10000, (0), (262143), 0, 1, true, false, false, false⟩,  -- ch + 01 to ch + 10:01–08 LEVEL_SET
  ⟨0x4001, 0x40, 256, 16, 0x6, 0x6, 4, 5, 0x36666, (0), (262143), 0, 1, true, false, false, false⟩,  -- ch + 01 to ch + 10:01–08 LEVEL_SET
  ⟨0x4001, 0x40, 256, 16, 0x7, 0x7, 4, 5, 0x999A, (0), (262143), 0, 1, true, false, false, false⟩,  -- ch + 01 to ch + 10:01–08 LEVEL_SET
  ⟨0x4001, 0x40, 256, 16, 0x8, 0x8, 4, 5, 0x10000, (0), (262143), 0, 1, true, false, false, false⟩,  -- ch + 01 to ch + 10:01–08 LEVEL_SET
  ⟨0x4001, 0x40, 256, 16, 0x9, 0x9, 13, 5, 0x0, (32), (32), 0, 1, true, false, false, false⟩,  -- ch + 01 to ch + 10:09 SET_BLOCK
  ⟨0x4011, 0x40, 256, 1, 0x1, 0x1, 4, 4, 0x10000, (0), (262143), 0, 1, false, false, false, false⟩,  -- ch + 11:01–08 CLEAR_CODE
  ⟨0x4011, 0x40, 256, 1, 0x2, 0x2, 4, 4, 0x10000, (0), (262143), 0, 1, false, false, false, false⟩,  -- ch + 11:01–08 CLEAR_CODE
  ⟨0x4011, 0x40, 256, 1, 0x3, 0x3, 4, 4, 0x10000, (0), (262143), 0, 1, false, false, false, false⟩,  -- ch + 11:01–08 CLEAR_CODE
  ⟨0x4011, 0x40, 256, 1, 0x4, 0x4, 4, 4, 0x10000, (0), (262143), 0, 1, false, false, false, false⟩,  -- ch + 11:01–08 CLEAR_CODE
  ⟨0x4011, 0x40, 256, 1, 0x5, 0x5, 4, 4, 0x10000, (0), (262143), 0, 1, false, false, false, false⟩,  -- ch + 11:01–08 CLEAR_CODE
  ⟨0x4011, 0x40, 256, 1, 0x6, 0x6, 4, 4, 0x36666, (0), (262143), 0, 1, false, false, false, false⟩,  -- ch + 11:01–08 CLEAR_CODE
  ⟨0x4011, 0x40, 256, 1, 0x7, 0x7, 4, 4, 0x999A, (0), (262143), 0, 1, false, false, false, false⟩,  -- ch + 11:01–08 CLEAR_CODE
  ⟨0x4011, 0x40, 256, 1, 0x8, 0x8, 4, 4, 0x10000, (0), (262143), 0, 1, false, false, false, false⟩,  -- ch + 11:01–08 CLEAR_CODE
  ⟨0x4011, 0x40, 256, 1, 0x9, 0x9, 4, 0, 0x10000, (0), (4294967295), 0, 1, false, false, false, false⟩  -- ch + 11:09–10 OUTPUT_CODE
]

/-- Lines of the object tables of chapter 06. -/
def dict06_b : List Row := [
  ⟨0x4011, 0x40, 256, 1, 0xA, 0xA, 4, 0, 0x10000, (0), (4294967295), 0, 1, false, false, false, false⟩,  -- ch + 11:09–10 OUTPUT_CODE
  ⟨0x4011, 0x40, 256, 1, 0xB, 0xB, 4, 0, 0x10000, (0), (4294967295), 0, 1, false, false, false, false⟩,  -- ch + 11:09–10 OUTPUT_CODE
  ⟨0x4011, 0x40, 256, 1, 0xC, 0xC, 4, 0, 0x10000, (0), (4294967295), 0, 1, false, false, false, false⟩,  -- ch + 11:09–10 OUTPUT_CODE
  ⟨0x4011, 0x40, 256, 1, 0xD, 0xD, 4, 0, 0x10000, (0), (4294967295), 0, 1, false, false, false, false⟩,  -- ch + 11:09–10 OUTPUT_CODE
  ⟨0x4011, 0x40, 256, 1, 0xE, 0xE, 4, 0, 0x36666, (0), (4294967295), 0, 1, false, false, false, false⟩,  -- ch + 11:09–10 OUTPUT_CODE
  ⟨0x4011, 0x40, 256, 1, 0xF, 0xF, 4, 0, 0x999A, (0), (4294967295), 0, 1, false, false, false, false⟩,  -- ch + 11:09–10 OUTPUT_CODE
  ⟨0x4011, 0x40, 256, 1, 0x10, 0x10, 4, 0, 0x10000, (0), (4294967295), 0, 1, false, false, false, false⟩,  -- ch + 11:09–10 OUTPUT_CODE
  ⟨0x4011, 0x40, 256, 1, 0x11, 0x11, 4, 0, 0x10000, (0), (4294967295), 0, 1, false, false, false, false⟩,  -- ch + 11:11–18 SHADOW_CODE
  ⟨0x4011, 0x40, 256, 1, 0x12, 0x12, 4, 0, 0x10000, (0), (4294967295), 0, 1, false, false, false, false⟩,  -- ch + 11:11–18 SHADOW_CODE
  ⟨0x4011, 0x40, 256, 1, 0x13, 0x13, 4, 0, 0x10000, (0), (4294967295), 0, 1, false, false, false, false⟩,  -- ch + 11:11–18 SHADOW_CODE
  ⟨0x4011, 0x40, 256, 1, 0x14, 0x14, 4, 0, 0x10000, (0), (4294967295), 0, 1, false, false, false, false⟩,  -- ch + 11:11–18 SHADOW_CODE
  ⟨0x4011, 0x40, 256, 1, 0x15, 0x15, 4, 0, 0x10000, (0), (4294967295), 0, 1, false, false, false, false⟩,  -- ch + 11:11–18 SHADOW_CODE
  ⟨0x4011, 0x40, 256, 1, 0x16, 0x16, 4, 0, 0x36666, (0), (4294967295), 0, 1, false, false, false, false⟩,  -- ch + 11:11–18 SHADOW_CODE
  ⟨0x4011, 0x40, 256, 1, 0x17, 0x17, 4, 0, 0x999A, (0), (4294967295), 0, 1, false, false, false, false⟩,  -- ch + 11:11–18 SHADOW_CODE
  ⟨0x4011, 0x40, 256, 1, 0x18, 0x18, 4, 0, 0x10000, (0), (4294967295), 0, 1, false, false, false, false⟩,  -- ch + 11:11–18 SHADOW_CODE
  ⟨0x4012, 0x40, 256, 1, 0x1, 0x1, 3, 1, 0x340, (0), (1023), 0, 1, true, false, false, false⟩,  -- ch + 12:01 VG_HI
  ⟨0x4012, 0x40, 256, 1, 0x2, 0x2, 3, 1, 0x80, (0), (1023), 0, 1, true, false, false, false⟩,  -- ch + 12:02 VG_LO
  ⟨0x4012, 0x40, 256, 1, 0x3, 0x3, 2, 1, 0x1, (0), (3), 0, 1, true, false, false, false⟩,  -- ch + 12:03 HYST
  ⟨0x4012, 0x40, 256, 1, 0x4, 0x4, 2, 5, 0x1, (0), (2), 0, 1, false, false, false, false⟩,  -- ch + 12:04 SCOPE_HI
  ⟨0x4012, 0x40, 256, 1, 0x5, 0x5, 2, 5, 0x1, (0), (2), 0, 1, false, false, false, false⟩,  -- ch + 12:05 SCOPE_LO
  ⟨0x4012, 0x40, 256, 1, 0x6, 0x6, 3, 0, 0x33, (0), (65535), 0, 1, false, false, false, false⟩,  -- ch + 12:06 GUARD_STATE
  ⟨0x4012, 0x40, 256, 1, 0x7, 0x7, 1, 2, 0x0, (0), (1), 0, 1, false, false, false, false⟩,  -- ch + 12:07 TRIP_CLEAR
  ⟨0x4012, 0x40, 256, 1, 0x8, 0x8, 4, 0, 0x0, (0), (4294967295), 0, 1, false, false, false, false⟩,  -- ch + 12:08 TRIP_COUNT
  ⟨0x4013, 0x40, 256, 1, 0x1, 0x1, 2, 1, 0x0, (0), (3), 0, 1, false, false, false, false⟩,  -- ch + 13:01 PMU_MODE
  ⟨0x4013, 0x40, 256, 1, 0x2, 0x2, 2, 1, 0x4, (0), (4), 0, 1, false, false, false, false⟩,  -- ch + 13:02 PMU_RANGE
  ⟨0x4013, 0x40, 256, 1, 0x3, 0x3, 4, 1, 0x10000, (0), (262143), 0, 1, false, false, true, false⟩,  -- ch + 13:03 PMU_FORCE
  ⟨0x4013, 0x40, 256, 1, 0x4, 0x4, 3, 1, 0x10, (1), (4096), 0, 1, false, false, false, false⟩,  -- ch + 13:04 MEAS_COUNT
  ⟨0x4013, 0x40, 256, 1, 0x5, 0x5, 4, 1, 0x0, (0), (1000000), 0, 1, false, false, false, false⟩,  -- ch + 13:05 MEAS_DELAY
  ⟨0x4013, 0x40, 256, 1, 0x6, 0x6, 1, 2, 0x0, (0), (1), 0, 1, false, false, true, false⟩,  -- ch + 13:06 MEAS_START
  ⟨0x4013, 0x40, 256, 1, 0x7, 0x7, 2, 0, 0x0, (0), (255), 0, 1, false, false, true, false⟩,  -- ch + 13:07 MEAS_STATUS
  ⟨0x4013, 0x40, 256, 1, 0x8, 0x8, 11, 0, 0x0, (0), (18446744073709551615), 0, 1, false, false, true, false⟩,  -- ch + 13:08 MEAS_RESULT
  ⟨0x4013, 0x40, 256, 1, 0x9, 0x9, 2, 0, 0x0, (0), (255), 0, 1, false, false, false, false⟩,  -- ch + 13:09 PMU_FLAGS
  ⟨0x4014, 0x40, 256, 1, 0x1, 0x1, 3, 0, 0x0, (0), (65535), 0, 1, false, false, false, false⟩,  -- ch + 14:01 RB_MISMATCH
  ⟨0x4014, 0x40, 256, 1, 0x2, 0x2, 8, 0, 0x0, (-2147483648), (2147483647), 0, 1, false, false, false, false⟩  -- ch + 14:02 RB_LAST_ERROR
]

/-- Lines of the object tables of chapter 07. -/
def dict07_a : List Row := [
  ⟨0x30A1, 0x100, 16, 1, 0x1, 0x1, 1, 5, 0x0, (0), (1), 0, 1, false, false, false, false⟩,  -- 3bA1:01 STOP_ON_FAIL
  ⟨0x30A1, 0x100, 16, 1, 0x2, 0x2, 3, 5, 0x0, (0), (65535), 0, 1, false, false, false, false⟩,  -- 3bA1:02 FAIL_MASK
  ⟨0x30A1, 0x100, 16, 1, 0x3, 0x3, 2, 5, 0x0, (0), (15), 0, 1, false, false, false, false⟩,  -- 3bA1:03 RETIRE_ON_FAIL
  ⟨0x30A1, 0x100, 16, 1, 0x4, 0x4, 5, 0, 0x0, (0), (18446744073709551615), 0, 1, false, false, false, false⟩,  -- 3bA1:04 BAY_FAIL_VECTORS
  ⟨0x30A1, 0x100, 16, 1, 0x5, 0x5, 13, 0, 0x0, (32), (32), 0, 1, false, false, false, false⟩,  -- 3bA1:05 BAY_FIRST_FAIL
  ⟨0x30A1, 0x100, 16, 1, 0x6, 0x6, 1, 0, 0x0, (0), (1), 0, 1, false, false, false, false⟩,  -- 3bA1:06 STOPPED_ON_FAIL
  ⟨0x30A2, 0x100, 16, 1, 0x1, 0x4, 5, 0, 0x0, (0), (18446744073709551615), 0, 1, false, false, false, false⟩,  -- 3bA2:01–04 QUAD_FAIL_VECTORS
  ⟨0x30A2, 0x100, 16, 1, 0x5, 0x8, 13, 0, 0x0, (32), (32), 0, 1, false, false, false, false⟩,  -- 3bA2:05–08 QUAD_FIRST_FAIL
  ⟨0x30A9, 0x100, 16, 1, 0x1, 0x1, 2, 5, 0x0, (0), (7), 0, 1, false, false, false, false⟩,  -- 3bA9:01 TRIG_SOURCE
  ⟨0x30A9, 0x100, 16, 1, 0x2, 0x2, 4, 5, 0x0, (0), (4294967295), 0, 1, false, false, false, false⟩,  -- 3bA9:02 TRIG_PARAM
  ⟨0x30A9, 0x100, 16, 1, 0x3, 0x3, 3, 5, 0x0, (0), (8191), 0, 1, false, false, false, false⟩,  -- 3bA9:03 TRIG_ENTRY
  ⟨0x30A9, 0x100, 16, 1, 0x4, 0x4, 4, 5, 0x0, (0), (16777216), 0, 1, false, false, false, false⟩,  -- 3bA9:04 TRIG_PASS
  ⟨0x30A9, 0x100, 16, 1, 0x5, 0x5, 4, 5, 0x0, (0), (2147483647), 0, 1, false, false, false, false⟩,  -- 3bA9:05 TRIG_ROW
  ⟨0x30A9, 0x100, 16, 1, 0x6, 0x6, 5, 5, 0x1, (1), (18446744073709551615), 0, 1, false, false, false, false⟩,  -- 3bA9:06 TRIG_FAIL_COUNT
  ⟨0x30A9, 0x100, 16, 1, 0x7, 0x7, 1, 2, 0x0, (0), (1), 0, 1, false, false, false, false⟩,  -- 3bA9:07 TRIG_FORCE
  ⟨0x30A9, 0x100, 16, 1, 0x8, 0x8, 1, 2, 0x0, (0), (1), 0, 1, false, false, false, false⟩,  -- 3bA9:08 TRIG_REARM
  ⟨0x30A9, 0x100, 16, 1, 0x9, 0x9, 2, 0, 0x0, (0), (255), 0, 1, false, false, false, false⟩,  -- 3bA9:09 TRIG_STATE
  ⟨0x30A9, 0x100, 16, 1, 0xA, 0xA, 5, 0, 0x0, (0), (18446744073709551615), 0, 1, false, false, false, false⟩,  -- 3bA9:0A TRIG_CYCLE
  ⟨0x30A9, 0x100, 16, 1, 0xB, 0xB, 4, 0, 0x0, (0), (4294967295), 0, 1, false, false, false, false⟩,  -- 3bA9:0B TRIG_OFFSET
  ⟨0x30A9, 0x100, 16, 1, 0xC, 0xC, 5, 0, 0x0, (0), (18446744073709551615), 0, 1, false, false, false, false⟩,  -- 3bA9:0C TRIG_TIME
  ⟨0x30A9, 0x100, 16, 1, 0xD, 0xD, 4, 0, 0x0, (0), (4294967295), 0, 1, false, false, false, false⟩,  -- 3bA9:0D TRIG_IGNORED
  ⟨0x30AA, 0x100, 16, 1, 0x1, 0x1, 4, 0, 0x0, (0), (4294967295), 0, 1, false, false, false, false⟩,  -- 3bAA:01 CAP_ARM_DETAIL
  ⟨0x30AA, 0x100, 16, 1, 0x2, 0x2, 4, 0, 0x0, (0), (4294967295), 0, 1, false, false, false, false⟩,  -- 3bAA:02 HBM_RATE
  ⟨0x30AA, 0x100, 16, 1, 0x3, 0x3, 4, 0, 0x0, (0), (4294967295), 0, 1, false, false, false, false⟩,  -- 3bAA:03 SRAM_RATE
  ⟨0x30AA, 0x100, 16, 1, 0x4, 0x4, 13, 0, 0x0, (0), (512), 0, 1, false, false, false, false⟩,  -- 3bAA:04 MARK_LOG
  ⟨0x30AA, 0x100, 16, 1, 0x5, 0x5, 5, 0, 0x0, (0), (18446744073709551615), 0, 1, false, false, false, false⟩,  -- 3bAA:05 CYCLE_COUNT
  ⟨0x30A4, 0x100, 16, 5, 0x1, 0x1, 1, 5, 0x0, (0), (1), 0, 1, false, false, false, false⟩,  -- (3bA3+m):01 ENABLE
  ⟨0x30A4, 0x100, 16, 5, 0x2, 0x2, 2, 5, 0x0, (0), (1), 0, 1, false, false, false, false⟩,  -- (3bA3+m):02 DEST
  ⟨0x30A4, 0x100, 16, 5, 0x3, 0x3, 2, 5, 0x0, (0), (255), 0, 1, false, false, false, false⟩,  -- (3bA3+m):03 PARTITIONS
  ⟨0x30A4, 0x100, 16, 5, 0x4, 0x4, 5, 5, 0x0, (0), (18446744073709551615), 0, 1, false, false, false, false⟩,  -- (3bA3+m):04 HBM_BASE
  ⟨0x30A4, 0x100, 16, 5, 0x5, 0x5, 4, 5, 0x0, (2), (131072), 0, 1, false, false, false, false⟩,  -- (3bA3+m):05 HBM_FRAMES
  ⟨0x30A4, 0x100, 16, 5, 0x6, 0x6, 3, 5, 0xFFFF, (0), (65535), 0, 1, false, false, false, false⟩,  -- (3bA3+m):06 CHANNEL_MASK
  ⟨0x30A4, 0x100, 16, 5, 0x7, 0x7, 2, 5, 0x0, (0), (2), 0, 1, false, false, false, false⟩,  -- (3bA3+m):07 START
  ⟨0x30A4, 0x100, 16, 5, 0x8, 0x8, 4, 5, 0x0, (0), (4294967295), 0, 1, false, false, false, false⟩,  -- (3bA3+m):08 PRE
  ⟨0x30A4, 0x100, 16, 5, 0x9, 0x9, 4, 5, 0x1, (1), (4294967295), 0, 1, false, false, false, false⟩,  -- (3bA3+m):09 POST
  ⟨0x30A4, 0x100, 16, 5, 0xA, 0xA, 5, 0, 0x0, (0), (18446744073709551615), 0, 1, false, false, false, false⟩,  -- (3bA3+m):0A WRITE_FRAME
  ⟨0x30A4, 0x100, 16, 5, 0xB, 0xB, 5, 1, 0x0, (0), (18446744073709551615), 0, 1, false, false, true, false⟩,  -- (3bA3+m):0B CONSUMED_FRAME
  ⟨0x30A4, 0x100, 16, 5, 0xC, 0xC, 2, 0, 0x0, (0), (255), 0, 1, false, false, false, false⟩,  -- (3bA3+m):0C STREAM_STATUS
  ⟨0x30A4, 0x100, 16, 5, 0xD, 0xD, 4, 0, 0x0, (0), (4294967295), 0, 1, false, false, false, false⟩,  -- (3bA3+m):0D OVERRUN_FRAMES
  ⟨0x30A4, 0x100, 16, 5, 0xE, 0xE, 4, 0, 0x0, (0), (4294967295), 0, 1, false, false, false, false⟩  -- (3bA3+m):0E LOST_FRAMES
]

/-- Lines of the object tables of chapter 07. -/
def dict07_b : List Row := [
  ⟨0x30A4, 0x100, 16, 5, 0xF, 0xF, 9, 0, 0x0, (-9223372036854775808), (9223372036854775807), 0, 1, false, false, false, false⟩,  -- (3bA3+m):0F OLDEST
  ⟨0x30A4, 0x100, 16, 5, 0x10, 0x10, 4, 0, 0x0, (0), (4294967295), 0, 1, false, false, false, false⟩,  -- (3bA3+m):10 RATE
  ⟨0x30A7, 0x100, 16, 1, 0x11, 0x12, 2, 5, 0xFF, (0), (255), 0, 1, false, false, false, false⟩,  -- 3bA7:11–12 ROUTE_CHANNEL
  ⟨0x30A7, 0x100, 16, 1, 0x13, 0x13, 2, 5, 0x0, (0), (3), 0, 1, false, false, false, false⟩,  -- 3bA7:13 SCOPE_INTERVAL
  ⟨0x30A7, 0x100, 16, 1, 0x14, 0x14, 3, 5, 0x0, (0), (499), 0, 1, false, false, false, false⟩,  -- 3bA7:14 SCOPE_PHASE
  ⟨0x4026, 0x40, 256, 1, 0x1, 0x1, 4, 0, 0x0, (0), (4294967295), 0, 1, false, false, false, false⟩  -- ch + 26:01 STROBE_FAIL_COUNT
]

/-- Lines of the object tables of chapter 08. -/
def dict08_a : List Row := [
  ⟨0x30C1, 0x100, 16, 1, 0x1, 0x1, 2, 5, 0x0, (0), (3), 0, 1, false, false, false, false⟩,  -- 3bC1:01 TMU_MODE
  ⟨0x30C1, 0x100, 16, 1, 0x2, 0x2, 1, 5, 0x1, (0), (1), 0, 1, false, false, false, false⟩,  -- 3bC1:02 SIGNED
  ⟨0x30C1, 0x100, 16, 1, 0x3, 0x3, 4, 5, 0x3E8, (1), (100000), 0, 1, false, false, false, false⟩,  -- 3bC1:03 TIMEOUT
  ⟨0x30C1, 0x100, 16, 1, 0x4, 0x4, 4, 5, 0x3E8, (1), (10000000), 0, 1, false, false, false, false⟩,  -- 3bC1:04 GATE
  ⟨0x30C1, 0x100, 16, 1, 0x5, 0x5, 3, 5, 0x1, (0), (65535), 0, 1, false, false, false, false⟩,  -- 3bC1:05 REPEAT
  ⟨0x30C1, 0x100, 16, 1, 0x6, 0x6, 3, 5, 0x100, (1), (65535), 0, 1, false, false, false, false⟩,  -- 3bC1:06 HITS
  ⟨0x30C1, 0x100, 16, 1, 0x7, 0x7, 1, 2, 0x0, (0), (1), 0, 1, false, false, false, false⟩,  -- 3bC1:07 ARM_REQUEST
  ⟨0x30C1, 0x100, 16, 1, 0x8, 0x8, 1, 2, 0x0, (0), (1), 0, 1, false, false, false, false⟩,  -- 3bC1:08 DISARM_REQUEST
  ⟨0x30C2, 0x100, 16, 1, 0x1, 0x2, 3, 5, 0xFFFF, (0), (65535), 0, 1, false, false, false, false⟩,  -- 3bC2:01–02 ROUTE_SOURCE
  ⟨0x30C2, 0x100, 16, 1, 0x3, 0x4, 2, 5, 0x0, (0), (2), 0, 1, false, false, false, false⟩,  -- 3bC2:03–04 ROUTE_EDGE
  ⟨0x30C3, 0x100, 16, 1, 0x1, 0x1, 2, 0, 0x0, (0), (3), 0, 1, false, false, false, false⟩,  -- 3bC3:01 TMU_STATE
  ⟨0x30C3, 0x100, 16, 1, 0x2, 0x2, 3, 0, 0x0, (0), (256), 0, 1, false, false, false, false⟩,  -- 3bC3:02 RESULT_COUNT
  ⟨0x30C3, 0x100, 16, 1, 0x3, 0x3, 13, 0, 0x0, (16), (16), 0, 1, false, false, true, false⟩,  -- 3bC3:03 RESULT
  ⟨0x30C3, 0x100, 16, 1, 0x4, 0x4, 13, 0, 0x0, (0), (1024), 0, 1, false, false, true, false⟩,  -- 3bC3:04 RESULT_BLOCK
  ⟨0x30C3, 0x100, 16, 1, 0x5, 0x5, 13, 0, 0x0, (16), (16), 0, 1, false, false, false, false⟩,  -- 3bC3:05 LAST_RESULT
  ⟨0x30C3, 0x100, 16, 1, 0x6, 0x6, 11, 0, 0x0, (0), (18446744073709551615), 0, 1, false, false, false, false⟩,  -- 3bC3:06 FREQ_HZ
  ⟨0x30C3, 0x100, 16, 1, 0x7, 0x7, 4, 0, 0x0, (0), (4294967295), 0, 1, false, false, false, false⟩,  -- 3bC3:07 LOST_HITS
  ⟨0x30C3, 0x100, 16, 1, 0x8, 0x8, 4, 0, 0x0, (0), (4294967295), 0, 1, false, false, false, false⟩,  -- 3bC3:08 DISCARDED_STOPS
  ⟨0x30C3, 0x100, 16, 1, 0x9, 0x9, 4, 0, 0x0, (0), (4294967295), 0, 1, false, false, false, false⟩,  -- 3bC3:09 EARLY_HITS
  ⟨0x30C3, 0x100, 16, 1, 0xA, 0xA, 4, 0, 0x0, (0), (4294967295), 0, 1, false, false, false, false⟩,  -- 3bC3:0A TIMEOUTS
  ⟨0x30C3, 0x100, 16, 1, 0xB, 0xB, 4, 0, 0xF55, (0), (4294967295), 0, 1, false, false, false, false⟩,  -- 3bC3:0B LSB_FS
  ⟨0x30C3, 0x100, 16, 1, 0xC, 0xC, 4, 0, 0x0, (0), (4294967295), 0, 1, false, false, false, false⟩,  -- 3bC3:0C CAL_FAILS
  ⟨0x30C3, 0x100, 16, 1, 0xD, 0xD, 4, 0, 0x0, (0), (4294967295), 0, 1, false, false, false, false⟩,  -- 3bC3:0D ARM_REFUSED
  ⟨0x30C3, 0x100, 16, 1, 0xE, 0xE, 1, 2, 0x0, (0), (1), 0, 1, false, false, false, false⟩,  -- 3bC3:0E FIFO_CLEAR
  ⟨0x30C4, 0x100, 16, 1, 0x1, 0x1, 1, 0, 0x0, (0), (1), 0, 1, false, false, false, false⟩,  -- 3bC4:01 WARM_STATE
  ⟨0x30C4, 0x100, 16, 1, 0x2, 0x2, 4, 0, 0x0, (0), (4294967295), 0, 1, false, false, false, false⟩  -- 3bC4:02 INL_RESIDUAL
]

/-- Lines of the object tables of chapter 09. -/
def dict09_a : List Row := [
  ⟨0x8000, 0x1, 1, 1, 0x1, 0x1, 4, 0, 0x0, (0), (4294967295), 0, 1, false, false, false, false⟩,  -- 8000:01 CATALOGUE_VERSION
  ⟨0x8000, 0x1, 1, 1, 0x2, 0x2, 2, 0, 0x0, (0), (255), 0, 1, false, false, false, false⟩,  -- 8000:02 KERNEL_COUNT
  ⟨0x8001, 0x1, 255, 1, 0x1, 0x1, 13, 0, 0x0, (0), (4294967295), 0, 1, false, false, false, false⟩,  -- (8000+k):01 KERNEL_DESCRIPTOR
  ⟨0x8100, 0x10, 64, 1, 0x1, 0x1, 2, 0, 0x0, (0), (255), 0, 1, false, false, false, false⟩,  -- 8gg0:01 GRAPH_STATE
  ⟨0x8100, 0x10, 64, 1, 0x2, 0x2, 3, 0, 0x0, (0), (65535), 0, 1, false, false, false, false⟩,  -- 8gg0:02 GRAPH_EPOCH
  ⟨0x8100, 0x10, 64, 1, 0x3, 0x3, 3, 5, 0x0, (0), (4095), 0, 1, false, true, false, false⟩,  -- 8gg0:03 BENCH_MASK
  ⟨0x8100, 0x10, 64, 1, 0x4, 0x4, 2, 5, 0x0, (0), (11), 0, 1, false, true, false, false⟩,  -- 8gg0:04 HOME_BENCH
  ⟨0x8100, 0x10, 64, 1, 0x5, 0x5, 2, 5, 0xFF, (0), (255), 0, 1, false, true, false, false⟩,  -- 8gg0:05 SITE
  ⟨0x8100, 0x10, 64, 1, 0x6, 0x6, 3, 0, 0x0, (0), (65535), 0, 1, false, true, false, false⟩,  -- 8gg0:06 SITE_EPOCH
  ⟨0x8100, 0x10, 64, 1, 0x7, 0x7, 13, 5, 0x0, (0), (4080), 0, 1, false, true, false, false⟩,  -- 8gg0:07 NODE_TABLE
  ⟨0x8100, 0x10, 64, 1, 0x8, 0x8, 13, 5, 0x0, (0), (8192), 0, 1, false, true, false, false⟩,  -- 8gg0:08 EDGE_TABLE
  ⟨0x8100, 0x10, 64, 1, 0x9, 0x9, 13, 5, 0x0, (0), (512), 0, 1, false, true, false, false⟩,  -- 8gg0:09 BINDINGS
  ⟨0x8100, 0x10, 64, 1, 0xA, 0xA, 13, 5, 0x0, (0), (65536), 0, 1, false, true, false, false⟩,  -- 8gg0:0A PARAMS
  ⟨0x8100, 0x10, 64, 1, 0xB, 0xB, 5, 5, 0x0, (0), (18446744073709551615), 0, 1, false, true, false, false⟩,  -- 8gg0:0B POOL_BASE
  ⟨0x8100, 0x10, 64, 1, 0xC, 0xC, 4, 5, 0x0, (0), (4294967232), 0, 1, false, true, false, false⟩,  -- 8gg0:0C POOL_SIZE
  ⟨0x8100, 0x10, 64, 1, 0xD, 0xD, 13, 2, 0x0, (16), (16), 0, 1, false, false, false, false⟩,  -- 8gg0:0D POST
  ⟨0x8100, 0x10, 64, 1, 0xE, 0xE, 3, 2, 0x0, (0), (65535), 0, 1, false, false, false, false⟩,  -- 8gg0:0E STOP_REQUEST
  ⟨0x8100, 0x10, 64, 1, 0xF, 0xF, 3, 2, 0x0, (0), (65535), 0, 1, false, false, false, false⟩,  -- 8gg0:0F START_REQUEST
  ⟨0x8100, 0x10, 64, 1, 0x10, 0x10, 5, 0, 0x0, (0), (18446744073709551615), 0, 1, false, false, false, false⟩,  -- 8gg0:10 FIRINGS
  ⟨0x8100, 0x10, 64, 1, 0x11, 0x11, 4, 0, 0x0, (0), (4294967295), 0, 1, false, false, false, false⟩,  -- 8gg0:11 ERRORS
  ⟨0x8100, 0x10, 64, 1, 0x12, 0x12, 4, 0, 0x0, (0), (4294967295), 0, 1, false, false, false, false⟩,  -- 8gg0:12 LAST_ERROR
  ⟨0x8100, 0x10, 64, 1, 0x13, 0x13, 4, 0, 0x0, (0), (4294967295), 0, 1, false, false, false, false⟩,  -- 8gg0:13 DISCARDED_OPERANDS
  ⟨0x8100, 0x10, 64, 1, 0x14, 0x14, 4, 0, 0x0, (0), (4294967295), 0, 1, false, false, false, false⟩,  -- 8gg0:14 STALE_COUNT
  ⟨0x8100, 0x10, 64, 1, 0x15, 0x15, 4, 0, 0x0, (0), (4294967295), 0, 1, false, false, false, false⟩,  -- 8gg0:15 POOL_FREE
  ⟨0x8100, 0x10, 64, 1, 0x16, 0x16, 4, 0, 0x0, (0), (4294967295), 0, 1, false, false, false, false⟩,  -- 8gg0:16 POOL_WAITS
  ⟨0x8100, 0x10, 64, 1, 0x17, 0x17, 4, 0, 0x0, (0), (4294967295), 0, 1, false, false, false, false⟩,  -- 8gg0:17 DEADLOCK_CLEARED
  ⟨0x8101, 0x10, 64, 1, 0x1, 0xFF, 4, 0, 0x0, (0), (4294967295), 0, 1, false, false, false, false⟩,  -- 8gg1:01–FF NODE_STATUS
  ⟨0x8600, 0x1, 12, 1, 0x1, 0x1, 2, 0, 0x0, (0), (255), 0, 1, false, false, false, false⟩,  -- (8600+n):01 BENCH_STATE
  ⟨0x8600, 0x1, 12, 1, 0x2, 0x2, 2, 2, 0x0, (0), (255), 0, 1, false, false, false, false⟩,  -- (8600+n):02 BENCH_REQUEST
  ⟨0x8600, 0x1, 12, 1, 0x3, 0x3, 2, 1, 0x0, (0), (1), 0, 2, false, false, false, false⟩,  -- (8600+n):03 BENCH_IMAGE
  ⟨0x8600, 0x1, 12, 1, 0x4, 0x4, 4, 0, 0x0, (0), (4294967295), 0, 1, false, false, false, false⟩,  -- (8600+n):04 BENCH_CATALOGUE
  ⟨0x8600, 0x1, 12, 1, 0x5, 0x5, 3, 0, 0xFFFF, (0), (65535), 0, 1, false, false, false, false⟩,  -- (8600+n):05 CORES_IN_SERVICE
  ⟨0x8600, 0x1, 12, 1, 0x6, 0x6, 3, 0, 0x0, (0), (65535), 0, 1, false, false, false, false⟩,  -- (8600+n):06 READY_DEPTH
  ⟨0x8600, 0x1, 12, 1, 0x7, 0x7, 4, 0, 0x0, (0), (4294967295), 0, 1, false, false, false, false⟩,  -- (8600+n):07 NODE_EXCLUDED
  ⟨0x8800, 0x1, 1, 1, 0x1, 0x1, 4, 0, 0x0, (0), (4294967295), 0, 1, false, false, false, false⟩,  -- 8800:01 STORE_USED
  ⟨0x8800, 0x1, 1, 1, 0x2, 0x2, 4, 0, 0x0, (0), (4294967295), 0, 1, false, false, false, false⟩,  -- 8800:02 STORE_PEAK
  ⟨0x8800, 0x1, 1, 1, 0x3, 0x3, 4, 1, 0xF800, (1024), (65024), 0, 1, false, false, false, false⟩,  -- 8800:03 SOURCE_LIMIT
  ⟨0x8800, 0x1, 1, 1, 0x4, 0x4, 4, 0, 0x0, (0), (4294967295), 0, 1, false, false, false, false⟩,  -- 8800:04 PENDING_ITEMS
  ⟨0x8800, 0x1, 1, 1, 0x5, 0x5, 4, 1, 0x2710, (10), (1000000), 0, 1, false, false, false, false⟩,  -- 8800:05 WORK_LIMIT
  ⟨0x8800, 0x1, 1, 1, 0x6, 0x6, 3, 1, 0xA, (1), (10000), 0, 1, false, false, false, false⟩  -- 8800:06 TICK
]

/-- Lines of the object tables of chapter 09. -/
def dict09_b : List Row := [
  ⟨0x8800, 0x1, 1, 1, 0x7, 0x7, 3, 1, 0x1, (1), (65535), 0, 1, false, false, false, false⟩,  -- 8800:07 RETRY_TICKS
  ⟨0x8800, 0x1, 1, 1, 0x8, 0xB, 3, 0, 0x0, (0), (65535), 0, 1, false, false, false, false⟩,  -- 8800:08–0B LIST_USED
  ⟨0x8800, 0x1, 1, 1, 0xC, 0xC, 4, 0, 0x0, (0), (4294967295), 0, 1, false, false, false, false⟩,  -- 8800:0C LIST_FULL_COUNT
  ⟨0x8800, 0x1, 1, 1, 0xD, 0xD, 5, 0, 0x0, (0), (18446744073709551615), 0, 1, false, false, false, false⟩,  -- 8800:0D TIMER_LATE_NS
  ⟨0x8800, 0x1, 1, 1, 0xE, 0x12, 4, 0, 0x0, (0), (4294967295), 0, 1, false, false, false, false⟩,  -- 8800:0E–12 BP_WAITS
  ⟨0x8800, 0x1, 1, 1, 0x13, 0x13, 5, 0, 0x0, (0), (18446744073709551615), 0, 1, false, false, false, false⟩,  -- 8800:13 AFFINITY_HITS
  ⟨0x8800, 0x1, 1, 1, 0x14, 0x14, 5, 0, 0x0, (0), (18446744073709551615), 0, 1, false, false, false, false⟩,  -- 8800:14 AFFINITY_MISSES
  ⟨0x8800, 0x1, 1, 1, 0x15, 0x15, 1, 2, 0x0, (0), (1), 0, 1, false, false, false, false⟩  -- 8800:15 PEAK_CLEAR
]

/-- Lines of the object tables of chapter 10. -/
def dict10_a : List Row := [
  ⟨0x9000, 0x1, 1, 1, 0x1, 0x1, 5, 3, 0x999998000, (0), (18446744073709551615), 0, 1, false, false, false, false⟩,  -- 9000:01 DATA_SPACE
  ⟨0x9000, 0x1, 1, 1, 0x2, 0x2, 4, 4, 0x7800, (0), (4294967295), 0, 1, false, true, false, false⟩,  -- 9000:02 PATTERN_SIZE
  ⟨0x9000, 0x1, 1, 1, 0x3, 0x3, 4, 4, 0x2000, (0), (4294967295), 0, 1, false, true, false, false⟩,  -- 9000:03 CAPTURE_SIZE
  ⟨0x9000, 0x1, 1, 1, 0x4, 0x4, 5, 0, 0x19998000, (0), (18446744073709551615), 0, 1, false, false, false, false⟩,  -- 9000:04 SYSTEM_SIZE
  ⟨0x9000, 0x1, 1, 1, 0x5, 0x5, 5, 0, 0x780000000, (0), (18446744073709551615), 0, 1, false, false, false, false⟩,  -- 9000:05 CAPTURE_BASE
  ⟨0x9000, 0x1, 1, 1, 0x6, 0x6, 5, 0, 0x980000000, (0), (18446744073709551615), 0, 1, false, false, false, false⟩,  -- 9000:06 SYSTEM_BASE
  ⟨0x9000, 0x1, 1, 1, 0x7, 0x7, 13, 0, 0x0, (0), (4294967295), 0, 1, false, false, false, false⟩,  -- 9000:07 SYS_RESERVED
  ⟨0x9000, 0x1, 1, 1, 0x8, 0x8, 4, 0, 0x0, (0), (4294967295), 0, 1, false, false, false, false⟩,  -- 9000:08 PARTITION_ERROR
  ⟨0x9001, 0x1, 1, 1, 0x1, 0x1, 4, 0, 0x0, (0), (4294967295), 0, 1, false, false, false, false⟩,  -- 9001:01 PATTERN_IN_USE
  ⟨0x9001, 0x1, 1, 1, 0x2, 0x2, 4, 0, 0x0, (0), (4294967295), 0, 1, false, false, false, false⟩,  -- 9001:02 CAPTURE_IN_USE
  ⟨0x9001, 0x1, 1, 1, 0x3, 0x3, 4, 0, 0x0, (0), (4294967295), 0, 1, false, false, false, false⟩,  -- 9001:03 PC_CAPTURE_PEAK
  ⟨0x9001, 0x1, 1, 1, 0x4, 0x4, 2, 0, 0x0, (0), (255), 0, 1, false, false, false, false⟩,  -- 9001:04 PC_CAPTURE_PEAK_PC
  ⟨0x9001, 0x1, 1, 1, 0x5, 0x5, 13, 0, 0x0, (512), (512), 0, 1, false, false, false, false⟩,  -- 9001:05 LOCKED_RANGES
  ⟨0x9002, 0x1, 1, 1, 0x1, 0x1, 3, 1, 0x18, (1), (168), 0, 1, false, false, false, false⟩,  -- 9002:01 SCRUB_PERIOD
  ⟨0x9002, 0x1, 1, 1, 0x2, 0x2, 4, 0, 0x0, (0), (4294967295), 0, 1, false, false, false, false⟩,  -- 9002:02 SCRUB_PASSES
  ⟨0x9002, 0x1, 1, 1, 0x3, 0x3, 3, 1, 0x40, (1), (65535), 0, 1, false, false, false, false⟩,  -- 9002:03 CE_THRESHOLD
  ⟨0x9008, 0x1, 2, 1, 0x1, 0x1, 7, 0, 0x0, (-32768), (32767), 0, 1, false, false, false, false⟩,  -- (9008+s):01 STACK_TEMP
  ⟨0x9008, 0x1, 2, 1, 0x2, 0x2, 1, 0, 0x0, (0), (1), 0, 1, false, false, false, false⟩,  -- (9008+s):02 HOT
  ⟨0x9008, 0x1, 2, 1, 0x3, 0x3, 4, 0, 0x0, (0), (4294967295), 0, 1, false, false, false, false⟩,  -- (9008+s):03 CATCHUPS
  ⟨0x9008, 0x1, 2, 1, 0x4, 0x4, 4, 0, 0x0, (0), (4294967295), 0, 1, false, false, false, false⟩,  -- (9008+s):04 CATCHUP_MAX_NS
  ⟨0x9010, 0x1, 64, 1, 0x1, 0x1, 2, 0, 0x0, (0), (255), 0, 1, false, false, false, false⟩,  -- (9010+pc):01 PC_STATE
  ⟨0x9010, 0x1, 64, 1, 0x2, 0x2, 2, 0, 0x1, (0), (255), 0, 1, false, false, false, false⟩,  -- (9010+pc):02 SCHED_MODE
  ⟨0x9010, 0x1, 64, 1, 0x3, 0x3, 4, 0, 0x0, (0), (4294967295), 0, 1, false, false, false, false⟩,  -- (9010+pc):03 CE_COUNT
  ⟨0x9010, 0x1, 64, 1, 0x4, 0x4, 4, 0, 0x0, (0), (4294967295), 0, 1, false, false, false, false⟩,  -- (9010+pc):04 UE_COUNT
  ⟨0x9010, 0x1, 64, 1, 0x5, 0x5, 5, 0, 0x0, (0), (18446744073709551615), 0, 1, false, false, false, false⟩,  -- (9010+pc):05 LAST_ERROR_ADDR
  ⟨0x9010, 0x1, 64, 1, 0x6, 0x6, 4, 0, 0x0, (0), (4294967295), 0, 1, false, false, false, false⟩,  -- (9010+pc):06 TAG_MISMATCH
  ⟨0x9010, 0x1, 64, 1, 0x7, 0x7, 2, 0, 0x0, (0), (255), 0, 1, false, false, false, false⟩,  -- (9010+pc):07 REFRESH_OWED
  ⟨0x9010, 0x1, 64, 1, 0x8, 0x8, 4, 0, 0x0, (0), (4294967295), 0, 1, false, false, false, false⟩,  -- (9010+pc):08 RECOVERY_STEPS
  ⟨0x9010, 0x1, 64, 1, 0x9, 0x9, 1, 2, 0x0, (0), (1), 0, 1, false, false, false, false⟩  -- (9010+pc):09 RETRAIN_REQUEST
]

/-- Lines of the object tables of chapter 11. -/
def dict11_a : List Row := [
  ⟨0x9100, 0x1, 4, 1, 0x1, 0x1, 2, 0, 0xFF, (0), (255), 0, 1, false, false, false, false⟩,  -- (9100+e):01 ACTIVE_CHANNEL
  ⟨0x9100, 0x1, 4, 1, 0x2, 0x2, 5, 0, 0x0, (0), (18446744073709551615), 0, 1, false, false, false, false⟩,  -- (9100+e):02 BYTES_MOVED
  ⟨0x9100, 0x1, 4, 1, 0x3, 0x3, 4, 0, 0x0, (0), (4294967295), 0, 1, false, false, false, false⟩,  -- (9100+e):03 HALTS
  ⟨0x9100, 0x1, 4, 1, 0x4, 0x4, 4, 1, 0x3E8, (10), (1000000), 0, 1, false, false, false, false⟩,  -- (9100+e):04 PORT_WAIT
  ⟨0x9100, 0x1, 4, 1, 0x11, 0x1F, 4, 1, 0x0, (0), (4294967295), 0, 1, false, false, false, false⟩,  -- (9100+e):11–1F PORT_MAP
  ⟨0x9110, 0x1, 32, 1, 0x1, 0x1, 2, 0, 0x0, (0), (255), 0, 1, false, false, false, false⟩,  -- (9110+8e+k):01 CHAN_STATE
  ⟨0x9110, 0x1, 32, 1, 0x2, 0x2, 2, 2, 0x0, (1), (4), 0, 1, false, false, false, false⟩,  -- (9110+8e+k):02 CHAN_CTRL
  ⟨0x9110, 0x1, 32, 1, 0x3, 0x3, 1, 1, 0x0, (0), (1), 0, 1, false, false, false, false⟩,  -- (9110+8e+k):03 PAUSE
  ⟨0x9110, 0x1, 32, 1, 0x4, 0x4, 5, 5, 0x0, (0), (18446744073709551615), 0, 1, false, false, false, false⟩,  -- (9110+8e+k):04 CHAIN_HEAD
  ⟨0x9110, 0x1, 32, 1, 0x5, 0x5, 4, 5, 0x10000, (1), (4294967295), 0, 1, false, false, false, false⟩,  -- (9110+8e+k):05 HOP_LIMIT
  ⟨0x9110, 0x1, 32, 1, 0x6, 0x6, 4, 5, 0x3E8, (1), (100000), 0, 1, false, false, false, false⟩,  -- (9110+8e+k):06 WAIT_LIMIT
  ⟨0x9110, 0x1, 32, 1, 0x7, 0x7, 2, 0, 0x0, (0), (255), 0, 1, false, false, false, false⟩,  -- (9110+8e+k):07 ERROR
  ⟨0x9110, 0x1, 32, 1, 0x8, 0x8, 5, 0, 0x0, (0), (18446744073709551615), 0, 1, false, false, false, false⟩,  -- (9110+8e+k):08 ERROR_ADDR
  ⟨0x9110, 0x1, 32, 1, 0x9, 0x9, 5, 0, 0x0, (0), (18446744073709551615), 0, 1, false, false, false, false⟩,  -- (9110+8e+k):09 CUR_DESC
  ⟨0x9110, 0x1, 32, 1, 0xA, 0xA, 5, 0, 0x0, (0), (18446744073709551615), 0, 1, false, false, false, false⟩,  -- (9110+8e+k):0A CUR_SRC
  ⟨0x9110, 0x1, 32, 1, 0xB, 0xB, 5, 0, 0x0, (0), (18446744073709551615), 0, 1, false, false, false, false⟩,  -- (9110+8e+k):0B CUR_DST
  ⟨0x9110, 0x1, 32, 1, 0xC, 0xC, 5, 0, 0x0, (0), (18446744073709551615), 0, 1, false, false, false, false⟩,  -- (9110+8e+k):0C CUR_INDEX
  ⟨0x9110, 0x1, 32, 1, 0xD, 0xD, 4, 0, 0x0, (0), (4294967295), 0, 1, false, false, false, false⟩,  -- (9110+8e+k):0D HOPS
  ⟨0x9110, 0x1, 32, 1, 0xE, 0xE, 5, 0, 0x0, (0), (18446744073709551615), 0, 1, false, false, false, false⟩,  -- (9110+8e+k):0E DESC_DONE
  ⟨0x9110, 0x1, 32, 1, 0xF, 0xF, 5, 0, 0x0, (0), (18446744073709551615), 0, 1, false, false, false, false⟩,  -- (9110+8e+k):0F BYTES_DONE
  ⟨0x9110, 0x1, 32, 1, 0x10, 0x10, 1, 0, 0x0, (0), (1), 0, 1, false, false, false, false⟩  -- (9110+8e+k):10 REVERSED
]

/-- Lines of the object tables of chapter 12. -/
def dict12_a : List Row := [
  ⟨0xA000, 0x1, 1, 1, 0x1, 0x1, 1, 0, 0x0, (0), (1), 0, 1, false, false, false, false⟩,  -- A000:01 LREFCLK_OK
  ⟨0xA000, 0x1, 1, 1, 0x2, 0x2, 3, 1, 0x7D0, (500), (4000), 0, 1, false, false, false, false⟩,  -- A000:02 GATHER_TIME
  ⟨0xA000, 0x1, 1, 1, 0x3, 0x3, 3, 1, 0x64, (10), (500), 0, 1, false, false, false, false⟩,  -- A000:03 TRAIN_TIMEOUT
  ⟨0xA000, 0x1, 1, 1, 0x4, 0x4, 1, 1, 0x1, (0), (1), 0, 1, false, false, false, false⟩,  -- A000:04 AUTO_RETRAIN
  ⟨0xA010, 0x1, 32, 1, 0x1, 0x1, 2, 0, 0x0, (0), (255), 0, 1, false, false, false, false⟩,  -- (A010+l):01 LANE_STATE
  ⟨0xA010, 0x1, 32, 1, 0x2, 0x2, 1, 1, 0x0, (0), (1), 0, 1, false, false, false, false⟩,  -- (A010+l):02 ENABLE
  ⟨0xA010, 0x1, 32, 1, 0x3, 0x3, 2, 1, 0x3, (0), (3), 0, 1, false, true, false, false⟩,  -- (A010+l):03 LANE_RATE
  ⟨0xA010, 0x1, 32, 1, 0x4, 0x4, 2, 1, 0x3, (0), (7), 0, 1, false, false, false, false⟩,  -- (A010+l):04 TX_PRESET
  ⟨0xA010, 0x1, 32, 1, 0x5, 0x5, 2, 0, 0x0, (0), (255), 0, 1, false, false, false, false⟩,  -- (A010+l):05 FOM
  ⟨0xA010, 0x1, 32, 1, 0x6, 0x6, 2, 1, 0x28, (1), (254), 0, 1, false, false, false, false⟩,  -- (A010+l):06 FOM_FLOOR
  ⟨0xA010, 0x1, 32, 1, 0x7, 0x7, 2, 1, 0x40, (2), (255), 0, 1, false, false, false, false⟩,  -- (A010+l):07 FOM_MIN
  ⟨0xA010, 0x1, 32, 1, 0x8, 0x8, 2, 0, 0x0, (0), (255), 0, 1, false, false, false, false⟩,  -- (A010+l):08 ADAPT_STATE
  ⟨0xA010, 0x1, 32, 1, 0x9, 0x9, 3, 0, 0x0, (0), (65535), 0, 1, false, false, false, false⟩,  -- (A010+l):09 LANE_FLAGS
  ⟨0xA010, 0x1, 32, 1, 0xA, 0xA, 2, 0, 0x0, (0), (255), 0, 1, false, false, false, false⟩,  -- (A010+l):0A RETRAIN_REASON
  ⟨0xA010, 0x1, 32, 1, 0xB, 0xB, 4, 0, 0x0, (0), (4294967295), 0, 1, false, false, false, false⟩,  -- (A010+l):0B RETRAIN_COUNT
  ⟨0xA010, 0x1, 32, 1, 0xC, 0xC, 1, 2, 0x0, (0), (1), 0, 1, false, false, false, false⟩,  -- (A010+l):0C RETRAIN_REQUEST
  ⟨0xA010, 0x1, 32, 1, 0xD, 0xD, 4, 0, 0x0, (0), (4294967295), 0, 1, false, false, false, false⟩,  -- (A010+l):0D INVALID_HEADERS
  ⟨0xA010, 0x1, 32, 1, 0xE, 0xE, 4, 0, 0x0, (0), (4294967295), 0, 1, false, false, false, false⟩,  -- (A010+l):0E BAD_BLOCKS
  ⟨0xA010, 0x1, 32, 1, 0xF, 0xF, 2, 0, 0x0, (0), (255), 0, 1, false, false, false, false⟩,  -- (A010+l):0F CTLE
  ⟨0xA010, 0x1, 32, 1, 0x10, 0x10, 13, 0, 0x0, (12), (12), 0, 1, false, false, false, false⟩,  -- (A010+l):10 DFE
  ⟨0xA010, 0x1, 32, 1, 0x11, 0x11, 13, 0, 0x0, (13), (13), 0, 1, false, false, false, false⟩,  -- (A010+l):11 TRAINED_SET
  ⟨0xA010, 0x1, 32, 1, 0x12, 0x12, 2, 0, 0xFF, (0), (255), 0, 1, false, false, false, false⟩,  -- (A010+l):12 LINK
  ⟨0xA010, 0x1, 32, 1, 0x13, 0x13, 2, 0, 0x0, (0), (255), 0, 1, false, false, false, false⟩,  -- (A010+l):13 LOGICAL_LANE
  ⟨0xA010, 0x1, 32, 1, 0x14, 0x14, 2, 0, 0x0, (0), (255), 0, 1, false, false, false, false⟩,  -- (A010+l):14 PARTNER_LOGICAL
  ⟨0xA110, 0x1, 16, 1, 0x1, 0x1, 2, 0, 0x0, (0), (255), 0, 1, false, false, false, false⟩,  -- (A110+k):01 LINK_STATE
  ⟨0xA110, 0x1, 16, 1, 0x2, 0x2, 4, 5, 0x0, (0), (4294967295), 0, 1, false, false, false, false⟩,  -- (A110+k):02 LINK_LANES
  ⟨0xA110, 0x1, 16, 1, 0x3, 0x3, 3, 5, 0x0, (0), (65535), 0, 1, false, false, false, false⟩,  -- (A110+k):03 LINK_ID
  ⟨0xA110, 0x1, 16, 1, 0x4, 0x4, 2, 5, 0x20, (16), (32), 0, 1, false, false, false, false⟩,  -- (A110+k):04 VERSION_MAX
  ⟨0xA110, 0x1, 16, 1, 0x5, 0x5, 2, 0, 0x0, (0), (255), 0, 1, false, false, false, false⟩,  -- (A110+k):05 VERSION
  ⟨0xA110, 0x1, 16, 1, 0x6, 0x6, 2, 0, 0x0, (0), (255), 0, 1, false, false, false, false⟩,  -- (A110+k):06 WIDTH
  ⟨0xA110, 0x1, 16, 1, 0x7, 0x7, 2, 1, 0x1, (1), (16), 0, 1, false, false, false, false⟩,  -- (A110+k):07 MIN_WIDTH
  ⟨0xA110, 0x1, 16, 1, 0x8, 0x8, 3, 0, 0x0, (0), (65535), 0, 1, false, false, false, false⟩,  -- (A110+k):08 PARTNER_ID
  ⟨0xA110, 0x1, 16, 1, 0x9, 0x9, 4, 0, 0x0, (0), (4294967295), 0, 1, false, false, false, false⟩,  -- (A110+k):09 PAYLOAD_RATE
  ⟨0xA110, 0x1, 16, 1, 0xA, 0xA, 2, 2, 0x0, (1), (2), 0, 1, false, false, false, false⟩,  -- (A110+k):0A LINK_CTRL
  ⟨0xA110, 0x1, 16, 1, 0xB, 0xB, 4, 0, 0x0, (0), (4294967295), 0, 1, false, false, false, false⟩,  -- (A110+k):0B CRC_ERRORS
  ⟨0xA110, 0x1, 16, 1, 0xC, 0xC, 4, 0, 0x0, (0), (4294967295), 0, 1, false, false, false, false⟩,  -- (A110+k):0C REPLAYS
  ⟨0xA110, 0x1, 16, 1, 0xD, 0xD, 3, 1, 0x14, (5), (1000), 0, 1, false, false, false, false⟩,  -- (A110+k):0D REPLAY_TIMEOUT
  ⟨0xA110, 0x1, 16, 1, 0xE, 0xE, 4, 0, 0x0, (0), (4294967295), 0, 1, false, false, false, false⟩,  -- (A110+k):0E WIDTH_CHANGES
  ⟨0xA140, 0x1, 64, 1, 0x1, 0x1, 2, 5, 0xFF, (0), (255), 0, 1, false, false, false, false⟩,  -- (A140+s):01 STREAM_LINK
  ⟨0xA140, 0x1, 64, 1, 0x2, 0x2, 3, 5, 0x0, (0), (63), 0, 1, false, false, false, false⟩  -- (A140+s):02 REMOTE_STREAM
]

/-- Lines of the object tables of chapter 12. -/
def dict12_b : List Row := [
  ⟨0xA140, 0x1, 64, 1, 0x3, 0x3, 2, 5, 0x0, (0), (1), 0, 1, false, false, false, false⟩,  -- (A140+s):03 DIRECTION
  ⟨0xA140, 0x1, 64, 1, 0x4, 0x4, 2, 5, 0x0, (0), (2), 0, 1, false, false, false, false⟩,  -- (A140+s):04 DEST
  ⟨0xA140, 0x1, 64, 1, 0x5, 0x5, 5, 5, 0x0, (0), (18446744073709551615), 0, 1, false, false, false, false⟩,  -- (A140+s):05 RING_BASE
  ⟨0xA140, 0x1, 64, 1, 0x6, 0x6, 4, 5, 0x0, (4096), (4294963200), 0, 1, false, false, false, false⟩,  -- (A140+s):06 RING_SIZE
  ⟨0xA140, 0x1, 64, 1, 0x7, 0x7, 1, 5, 0x0, (0), (1), 0, 1, false, false, false, false⟩,  -- (A140+s):07 PROTECT
  ⟨0xA140, 0x1, 64, 1, 0x8, 0x8, 2, 0, 0x0, (0), (255), 0, 1, false, false, false, false⟩,  -- (A140+s):08 STREAM_STATE
  ⟨0xA140, 0x1, 64, 1, 0x9, 0x9, 2, 2, 0x0, (1), (2), 0, 1, false, false, false, false⟩,  -- (A140+s):09 STREAM_CTRL
  ⟨0xA140, 0x1, 64, 1, 0xA, 0xA, 5, 0, 0x0, (0), (18446744073709551615), 0, 1, false, false, false, false⟩,  -- (A140+s):0A BYTES
  ⟨0xA140, 0x1, 64, 1, 0xB, 0xB, 5, 0, 0x0, (0), (18446744073709551615), 0, 1, false, false, false, false⟩,  -- (A140+s):0B CREDIT
  ⟨0xA140, 0x1, 64, 1, 0xC, 0xC, 5, 0, 0x0, (0), (18446744073709551615), 0, 1, false, false, false, false⟩,  -- (A140+s):0C RING_WRITE
  ⟨0xA140, 0x1, 64, 1, 0xD, 0xD, 5, 1, 0x0, (0), (18446744073709551615), 0, 1, false, false, false, false⟩  -- (A140+s):0D RING_CONSUMED
]

/-- Lines of the object tables of chapter 13. -/
def dict13_a : List Row := [
  ⟨0xA210, 0x1, 2, 1, 0x1, 0x1, 2, 1, 0x1, (0), (2), 0, 1, false, false, false, false⟩,  -- (A210+p):01 PORT_MODE
  ⟨0xA210, 0x1, 2, 1, 0x2, 0x2, 1, 0, 0x0, (0), (1), 0, 1, false, false, false, false⟩,  -- (A210+p):02 PORT_LINK
  ⟨0xA210, 0x1, 2, 1, 0x3, 0x3, 3, 1, 0x5DC, (576), (9000), 0, 1, false, false, false, false⟩,  -- (A210+p):03 MTU
  ⟨0xA210, 0x1, 2, 1, 0x4, 0x4, 3, 1, 0x0, (0), (4094), 0, 1, false, false, false, false⟩,  -- (A210+p):04 VLAN
  ⟨0xA210, 0x1, 2, 1, 0x5, 0x5, 4, 4, 0x0, (0), (4294967295), 0, 1, false, false, false, false⟩,  -- (A210+p):05 IPV4_ADDR
  ⟨0xA210, 0x1, 2, 1, 0x6, 0x6, 13, 4, 0x0, (16), (16), 0, 1, false, false, false, false⟩,  -- (A210+p):06 IPV6_ADDR
  ⟨0xA210, 0x1, 2, 1, 0x7, 0x7, 3, 4, 0x120C, (1024), (65535), 0, 1, false, false, false, false⟩,  -- (A210+p):07 DOP_UDP_PORT
  ⟨0xA210, 0x1, 2, 1, 0x8, 0x8, 4, 0, 0x0, (0), (4294967295), 0, 1, false, false, false, false⟩,  -- (A210+p):08 RX_DISCARDS
  ⟨0xA210, 0x1, 2, 1, 0x9, 0x9, 2, 1, 0x0, (0), (2), 0, 1, false, false, false, false⟩,  -- (A210+p):09 PTP_TRANSPORT
  ⟨0xA210, 0x1, 2, 1, 0xA, 0xA, 2, 1, 0x0, (0), (1), 0, 1, false, false, false, false⟩,  -- (A210+p):0A PTP_DELAY
  ⟨0xA210, 0x1, 2, 1, 0xB, 0xB, 1, 1, 0x0, (0), (1), 0, 1, false, false, false, false⟩,  -- (A210+p):0B ONE_STEP
  ⟨0xA210, 0x1, 2, 1, 0xC, 0xC, 7, 4, 0x0, (-1000), (1000), 0, 1, false, false, false, false⟩,  -- (A210+p):0C ING_ASYM
  ⟨0xA210, 0x1, 2, 1, 0xD, 0xD, 7, 4, 0x0, (-1000), (1000), 0, 1, false, false, false, false⟩,  -- (A210+p):0D EGR_ASYM
  ⟨0xA210, 0x1, 2, 1, 0xE, 0xE, 13, 0, 0x0, (16), (16), 0, 1, false, false, false, false⟩,  -- (A210+p):0E TSQ_ENTRY
  ⟨0xA210, 0x1, 2, 1, 0xF, 0xF, 2, 0, 0x0, (0), (255), 0, 1, false, false, false, false⟩,  -- (A210+p):0F TSQ_COUNT
  ⟨0xA210, 0x1, 2, 1, 0x10, 0x10, 4, 0, 0x0, (0), (4294967295), 0, 1, false, false, false, false⟩,  -- (A210+p):10 TSQ_OVERFLOW
  ⟨0xA300, 0x1, 1, 1, 0x1, 0x1, 5, 0, 0x0, (0), (18446744073709551615), 0, 1, false, false, false, false⟩,  -- A300:01 NETWORK_TIME
  ⟨0xA300, 0x1, 1, 1, 0x2, 0x2, 5, 0, 0x0, (0), (18446744073709551615), 0, 1, false, false, false, false⟩,  -- A300:02 COUNTER
  ⟨0xA300, 0x1, 1, 1, 0x3, 0x3, 5, 0, 0x0, (0), (18446744073709551615), 0, 1, false, false, false, false⟩,  -- A300:03 OFFSET
  ⟨0xA300, 0x1, 1, 1, 0x4, 0x4, 9, 1, 0x0, (-1099511627), (1099511627), 0, 1, false, false, false, false⟩,  -- A300:04 RATE_SET
  ⟨0xA300, 0x1, 1, 1, 0x5, 0x5, 9, 2, 0x0, (-4611686018427387904), (4611686018427387904), 0, 1, false, false, false, false⟩,  -- A300:05 OFFSET_ADJUST
  ⟨0xA300, 0x1, 1, 1, 0x6, 0x6, 5, 2, 0x0, (0), (18446744073709551615), 0, 1, false, false, false, false⟩,  -- A300:06 TIME_SET
  ⟨0xA300, 0x1, 1, 1, 0x7, 0x7, 4, 0, 0x0, (0), (4294967295), 0, 1, false, false, false, false⟩,  -- A300:07 TIME_STEPS
  ⟨0xA300, 0x1, 1, 1, 0x8, 0x8, 2, 0, 0x0, (0), (255), 0, 1, false, false, false, false⟩,  -- A300:08 CLOCK_STATE
  ⟨0xA300, 0x1, 1, 1, 0x9, 0x9, 2, 1, 0x0, (0), (1), 0, 1, false, false, false, false⟩,  -- A300:09 SERVO_MODE
  ⟨0xA300, 0x1, 1, 1, 0xA, 0xA, 4, 1, 0x28, (4), (400000), 0, 1, false, false, false, false⟩,  -- A300:0A LOCK_LIMIT
  ⟨0xA300, 0x1, 1, 1, 0xB, 0xB, 7, 0, 0x0, (-32768), (32767), 0, 1, false, false, false, false⟩,  -- A300:0B UTC_OFFSET
  ⟨0xA300, 0x1, 1, 1, 0xC, 0xC, 2, 1, 0x0, (0), (127), 0, 1, false, false, false, false⟩,  -- A300:0C DOMAIN
  ⟨0xA320, 0x1, 8, 1, 0x1, 0x1, 1, 1, 0x0, (0), (1), 0, 1, false, false, false, false⟩,  -- (A320+n):01 ENABLE
  ⟨0xA320, 0x1, 8, 1, 0x2, 0x2, 5, 5, 0x0, (0), (18446744073709551615), 0, 1, false, false, false, false⟩,  -- (A320+n):02 START
  ⟨0xA320, 0x1, 8, 1, 0x3, 0x3, 5, 5, 0x0, (0), (16000000000), 0, 1, false, false, false, false⟩,  -- (A320+n):03 PERIOD
  ⟨0xA320, 0x1, 8, 1, 0x4, 0x4, 5, 5, 0x190, (40), (15999999960), 0, 1, false, false, false, false⟩,  -- (A320+n):04 WIDTH
  ⟨0xA320, 0x1, 8, 1, 0x5, 0x5, 1, 5, 0x0, (0), (1), 0, 1, false, false, false, false⟩,  -- (A320+n):05 POLARITY
  ⟨0xA320, 0x1, 8, 1, 0x6, 0x6, 2, 5, 0x0, (0), (255), 0, 1, false, false, false, false⟩,  -- (A320+n):06 TRIG_OUT
  ⟨0xA320, 0x1, 8, 1, 0x7, 0x7, 4, 5, 0x0, (0), (4294967295), 0, 1, false, false, false, false⟩,  -- (A320+n):07 RIDGE_OUT
  ⟨0xA320, 0x1, 8, 1, 0x8, 0x8, 3, 5, 0x0, (0), (65535), 0, 1, false, false, false, false⟩,  -- (A320+n):08 BAY_OUT
  ⟨0xA320, 0x1, 8, 1, 0x9, 0x9, 5, 0, 0x0, (0), (18446744073709551615), 0, 1, false, false, false, false⟩,  -- (A320+n):09 FIRINGS
  ⟨0xA320, 0x1, 8, 1, 0xA, 0xA, 1, 0, 0x0, (0), (1), 0, 1, false, false, false, false⟩,  -- (A320+n):0A LATE
  ⟨0xA320, 0x1, 8, 1, 0xB, 0xB, 4, 0, 0x0, (0), (4294967295), 0, 1, false, false, false, false⟩  -- (A320+n):0B SKIPPED
]

/-- Lines of the object tables of chapter 14. -/
def dict14_a : List Row := [
  ⟨0x1000, 0x1, 1, 1, 0x1, 0x1, 12, 3, 0x0, (9), (9), 0, 1, false, false, false, true⟩,  -- 1000:01 ORDER_CODE
  ⟨0x1000, 0x1, 1, 1, 0x2, 0x2, 12, 3, 0x0, (2), (2), 0, 1, false, false, false, true⟩,  -- 1000:02 STEPPING
  ⟨0x1000, 0x1, 1, 1, 0x3, 0x3, 12, 3, 0x0, (16), (16), 0, 1, false, false, false, true⟩,  -- 1000:03 SERIAL
  ⟨0x1000, 0x1, 1, 1, 0x4, 0x4, 2, 3, 0x31, (0), (255), 0, 1, false, false, false, true⟩,  -- 1000:04 DICT_VERSION
  ⟨0x1000, 0x1, 1, 1, 0x5, 0x5, 2, 3, 0x20, (0), (255), 0, 1, false, false, false, true⟩,  -- 1000:05 PROTOCOL_VERSION
  ⟨0x1000, 0x1, 1, 1, 0x6, 0x6, 4, 0, 0x0, (0), (4294967295), 0, 1, false, false, false, true⟩,  -- 1000:06 FIRMWARE_VERSION
  ⟨0x1000, 0x1, 1, 1, 0x7, 0x7, 4, 3, 0x0, (0), (4294967295), 0, 1, false, false, false, true⟩,  -- 1000:07 KEEPER_VERSION
  ⟨0x1100, 0x1, 1, 1, 0x1, 0x1, 2, 0, 0x0, (0), (255), 0, 1, false, false, false, false⟩,  -- 1100:01 SESSION_ID
  ⟨0x1100, 0x1, 1, 1, 0x2, 0x2, 2, 0, 0x0, (0), (255), 0, 1, false, false, false, false⟩,  -- 1100:02 SESSION_ROLE
  ⟨0x1100, 0x1, 1, 1, 0x3, 0x3, 2, 0, 0x0, (0), (255), 0, 1, false, false, false, false⟩,  -- 1100:03 SESSION_VIEW
  ⟨0x1100, 0x1, 1, 1, 0x4, 0x4, 2, 0, 0x0, (0), (255), 0, 1, false, false, false, false⟩,  -- 1100:04 SESSION_COUNT
  ⟨0x1100, 0x1, 1, 1, 0x5, 0x5, 13, 1, 0x0, (256), (256), 0, 1, false, false, false, false⟩,  -- 1100:05 EVENT_MASK
  ⟨0x1100, 0x1, 1, 1, 0x6, 0x6, 4, 1, 0x3E8, (0), (100000), 0, 1, false, false, false, false⟩,  -- 1100:06 EVENT_HOLD
  ⟨0x1100, 0x1, 1, 1, 0x7, 0x7, 4, 0, 0x0, (0), (4294967295), 0, 1, false, false, false, false⟩,  -- 1100:07 EVENT_LOST
  ⟨0x1100, 0x1, 1, 1, 0x8, 0x8, 1, 1, 0x0, (0), (1), 0, 1, false, false, false, false⟩,  -- 1100:08 DATA_SUBSCRIBE
  ⟨0x1100, 0x1, 1, 1, 0x9, 0x9, 4, 2, 0x0, (0), (4294967295), 0, 1, false, false, false, false⟩,  -- 1100:09 DATA_ACK
  ⟨0x1100, 0x1, 1, 1, 0xA, 0xA, 3, 1, 0x3C, (5), (3600), 0, 1, false, false, false, false⟩,  -- 1100:0A IDLE_TIMEOUT
  ⟨0x1200, 0x1, 1, 1, 0x1, 0x1, 4, 1, 0x100000, (0), (4294967295), 0, 1, false, false, false, false⟩,  -- 1200:01 DESC_ADDRESS
  ⟨0x1200, 0x1, 1, 1, 0x2, 0x2, 13, 0, 0x0, (32), (32), 0, 1, false, false, false, false⟩,  -- 1200:02 DESCRIPTOR
  ⟨0x1200, 0x1, 1, 1, 0x3, 0x3, 12, 0, 0x0, (0), (255), 0, 1, false, false, false, false⟩  -- 1200:03 UNITS
]

/-- Lines of the object tables of chapter 15. -/
def dict15_a : List Row := [
  ⟨0xB000, 0x1, 1, 1, 0x1, 0x1, 1, 0, 0x0, (0), (1), 0, 2, false, false, false, false⟩,  -- B000:01 APPROVED
  ⟨0xB000, 0x1, 1, 1, 0x2, 0x2, 2, 0, 0x0, (0), (255), 0, 2, false, false, false, false⟩,  -- B000:02 TM_STATE
  ⟨0xB000, 0x1, 1, 1, 0x3, 0x3, 4, 0, 0x0, (0), (4294967295), 0, 2, false, false, false, false⟩,  -- B000:03 SELF_TEST_RESULT
  ⟨0xB000, 0x1, 1, 1, 0x4, 0x4, 1, 2, 0x0, (0), (1), 0, 2, false, false, false, false⟩,  -- B000:04 SELF_TEST_REQUEST
  ⟨0xB000, 0x1, 1, 1, 0x5, 0x5, 3, 2, 0x0, (0), (65535), 0, 2, false, false, false, false⟩,  -- B000:05 ZEROIZE
  ⟨0xB000, 0x1, 1, 1, 0x6, 0x6, 4, 0, 0x0, (0), (4294967295), 0, 2, false, false, false, false⟩,  -- B000:06 ZEROIZE_COUNT
  ⟨0xB001, 0x1, 1, 1, 0x1, 0x3, 13, 1, 0x0, (97), (97), 0, 2, false, false, false, false⟩,  -- B001:01–03 ROLE_ANCHOR
  ⟨0xB002, 0x1, 1, 1, 0x1, 0x1, 13, 0, 0x0, (0), (4294967295), 0, 2, false, false, false, false⟩,  -- B002:01 DEVICE_SIGN_CERT
  ⟨0xB002, 0x1, 1, 1, 0x2, 0x2, 13, 0, 0x0, (0), (4294967295), 0, 2, false, false, false, false⟩,  -- B002:02 DEVICE_KA_CERT
  ⟨0xB002, 0x1, 1, 1, 0x3, 0x3, 13, 0, 0x0, (0), (4294967295), 0, 2, false, false, false, false⟩,  -- B002:03 TOUCHMARK_CERT
  ⟨0xB002, 0x1, 1, 1, 0x4, 0x4, 4, 0, 0x0, (0), (4294967295), 0, 2, false, false, false, false⟩,  -- B002:04 TOUCHMARK_KEY_ID
  ⟨0xB003, 0x1, 1, 1, 0x1, 0x1, 13, 2, 0x0, (144), (144), 3, 2, false, false, false, false⟩,  -- B003:01 GROUP_KEY_IMPORT
  ⟨0xB003, 0x1, 1, 1, 0x2, 0x2, 4, 0, 0x0, (0), (4294967295), 0, 2, false, false, false, false⟩,  -- B003:02 GROUP_KEY_ID
  ⟨0xB004, 0x1, 1, 1, 0x1, 0x8, 13, 1, 0x0, (97), (97), 0, 2, false, false, false, false⟩,  -- B004:01–08 CODE_KEY
  ⟨0xB004, 0x1, 1, 1, 0x9, 0x10, 2, 1, 0x0, (0), (3), 0, 2, false, false, false, false⟩,  -- B004:09–10 CODE_KEY_USE
  ⟨0xB005, 0x1, 1, 1, 0x1, 0x40, 4, 0, 0x0, (0), (4294967295), 0, 2, false, false, false, false⟩,  -- B005:01–40 SLOT_STATE
  ⟨0xB005, 0x1, 1, 1, 0x41, 0x41, 2, 2, 0x0, (0), (63), 0, 2, false, false, false, false⟩,  -- B005:41 SLOT_ZEROIZE
  ⟨0xB006, 0x1, 1, 1, 0x1, 0x40, 5, 0, 0x0, (0), (18446744073709551615), 0, 2, false, false, false, false⟩,  -- B006:01–40 SLOT_BASE
  ⟨0xB007, 0x1, 1, 1, 0x1, 0x1, 5, 0, 0x0, (0), (18446744073709551615), 0, 2, false, false, false, false⟩,  -- B007:01 TM_COUNTER
  ⟨0xB007, 0x1, 1, 1, 0x2, 0x2, 5, 0, 0x0, (0), (18446744073709551615), 0, 2, false, false, false, false⟩,  -- B007:02 RESERVED_END
  ⟨0xB007, 0x1, 1, 1, 0x3, 0x3, 4, 0, 0x0, (0), (4294967295), 0, 2, false, false, false, false⟩,  -- B007:03 TM_GAPS
  ⟨0xB007, 0x1, 1, 1, 0x4, 0x4, 4, 1, 0x100000, (4096), (1048576), 0, 2, false, false, false, false⟩,  -- B007:04 TM_BATCH_MAX
  ⟨0xB008, 0x1, 1, 1, 0x1, 0x1, 2, 1, 0x0, (0), (1), 0, 2, false, false, false, false⟩,  -- B008:01 FW_ACTIVE_SLOT
  ⟨0xB008, 0x1, 1, 1, 0x2, 0x2, 13, 2, 0x0, (0), (33554432), 0, 2, false, false, false, false⟩,  -- B008:02 FW_IMAGE
  ⟨0xB008, 0x1, 1, 1, 0x3, 0x3, 2, 0, 0x0, (0), (255), 0, 2, false, false, false, false⟩,  -- B008:03 FW_STATUS
  ⟨0xB008, 0x1, 1, 1, 0x4, 0x4, 4, 0, 0x0, (0), (4294967295), 0, 2, false, false, false, false⟩,  -- B008:04 ROLLBACK
  ⟨0xB008, 0x1, 1, 1, 0x5, 0x5, 4, 2, 0x0, (0), (4294967295), 0, 2, false, false, false, false⟩,  -- B008:05 FW_ACCEPT
  ⟨0xB008, 0x1, 1, 1, 0x6, 0x7, 4, 0, 0x0, (0), (4294967295), 0, 2, false, false, false, false⟩,  -- B008:06–07 FW_SLOT_VERSION
  ⟨0xB008, 0x1, 1, 1, 0x8, 0x8, 1, 0, 0x0, (0), (1), 0, 2, false, false, false, false⟩,  -- B008:08 FW_FALLBACK
  ⟨0xB008, 0x1, 1, 1, 0x9, 0x9, 1, 2, 0x0, (0), (1), 0, 2, false, false, false, false⟩,  -- B008:09 TM_RESTART_REQUEST
  ⟨0xB008, 0x1, 1, 1, 0xA, 0xA, 4, 0, 0x0, (0), (4294967295), 0, 2, false, false, false, false⟩,  -- B008:0A TM_FW_VERSION
  ⟨0xB009, 0x1, 1, 1, 0x1, 0x1, 2, 0, 0x0, (0), (255), 0, 2, false, false, false, false⟩,  -- B009:01 DEBUG_STATE
  ⟨0xB009, 0x1, 1, 1, 0x2, 0x2, 13, 0, 0x0, (32), (32), 0, 2, false, false, false, false⟩,  -- B009:02 DEBUG_NONCE
  ⟨0xB009, 0x1, 1, 1, 0x3, 0x3, 13, 2, 0x0, (97), (97), 0, 2, false, false, false, false⟩,  -- B009:03 DEBUG_UNLOCK
  ⟨0xB00A, 0x1, 1, 1, 0x1, 0x1, 4, 0, 0x0, (0), (4294967295), 0, 2, false, false, false, false⟩,  -- B00A:01 ENTROPY_FAILS
  ⟨0x3033, 0x100, 16, 1, 0x1, 0x1, 13, 2, 0x0, (0), (67108864), 0, 1, false, false, false, false⟩,  -- 3b33:01 PKG_IMAGE
  ⟨0x3033, 0x100, 16, 1, 0x2, 0x2, 3, 5, 0xFFFF, (0), (65535), 0, 1, false, false, false, false⟩,  -- 3b33:02 PKG_STREAM
  ⟨0x3033, 0x100, 16, 1, 0x3, 0x3, 1, 2, 0x0, (0), (1), 0, 1, false, false, false, false⟩,  -- 3b33:03 PKG_START
  ⟨0x3033, 0x100, 16, 1, 0x4, 0x4, 5, 5, 0x0, (0), (18446744073709551615), 0, 1, false, false, false, false⟩,  -- 3b33:04 PKG_BASE
  ⟨0x3033, 0x100, 16, 1, 0x5, 0x5, 2, 0, 0x0, (0), (255), 0, 1, false, false, false, false⟩  -- 3b33:05 PKG_STATUS
]

/-- Lines of the object tables of chapter 15. -/
def dict15_b : List Row := [
  ⟨0x3033, 0x100, 16, 1, 0x6, 0x6, 4, 0, 0x0, (0), (4294967295), 0, 1, false, false, false, false⟩,  -- 3b33:06 PKG_DETAIL
  ⟨0x3033, 0x100, 16, 1, 0x7, 0x7, 13, 0, 0x0, (16), (16), 0, 1, false, false, false, false⟩,  -- 3b33:07 PKG_ID
  ⟨0x3033, 0x100, 16, 1, 0x8, 0x8, 4, 0, 0x0, (0), (4294967295), 0, 1, false, false, false, false⟩  -- 3b33:08 PKG_VERSION
]

/-- Lines of the object tables of chapter 16. -/
def dict16_a : List Row := [
  ⟨0xB800, 0x1, 1, 1, 0x1, 0x1, 4, 1, 0x3C, (10), (86400), 0, 1, false, false, false, false⟩,  -- B800:01 ROLL_INTERVAL
  ⟨0xB800, 0x1, 1, 1, 0x2, 0x2, 3, 1, 0xA, (1), (1000), 0, 1, false, false, false, false⟩,  -- B800:02 HANDOVER_WAIT
  ⟨0xB800, 0x1, 1, 1, 0x3, 0x3, 4, 1, 0xE10, (60), (604800), 0, 1, false, false, false, false⟩,  -- B800:03 LEDGER_INTERVAL
  ⟨0xB800, 0x1, 1, 1, 0x4, 0x4, 2, 1, 0xA, (2), (20), 0, 1, false, false, false, false⟩,  -- B800:04 TEMP_WINDOW
  ⟨0xB800, 0x1, 1, 1, 0x5, 0x5, 4, 1, 0x258, (60), (86400), 0, 1, false, false, false, false⟩,  -- B800:05 TMU_ASSAY_INTERVAL
  ⟨0xB800, 0x1, 1, 1, 0x6, 0x6, 2, 0, 0x0, (0), (255), 0, 1, false, false, false, false⟩,  -- B800:06 LEDGER_STATE
  ⟨0xB800, 0x1, 1, 1, 0x7, 0x7, 4, 0, 0x0, (0), (4294967295), 0, 1, false, false, false, false⟩,  -- B800:07 LEDGER_SEQ
  ⟨0xB800, 0x1, 1, 1, 0x8, 0x8, 4, 0, 0x100000, (0), (4294967295), 0, 1, false, false, false, false⟩,  -- B800:08 LEDGER_FREE
  ⟨0xB800, 0x1, 1, 1, 0x9, 0x9, 1, 2, 0x0, (0), (1), 0, 1, false, false, false, false⟩,  -- B800:09 PURLIN_ASSAY
  ⟨0xB800, 0x1, 1, 1, 0xA, 0xA, 2, 0, 0x0, (0), (255), 0, 1, false, false, false, false⟩,  -- B800:0A PURLIN_STATUS
  ⟨0xB800, 0x1, 1, 1, 0xB, 0xB, 8, 0, 0x0, (-2147483648), (2147483647), 0, 1, false, false, false, false⟩,  -- B800:0B PURLIN_PAD
  ⟨0xB810, 0x1, 16, 1, 0x1, 0x1, 1, 1, 0x1, (0), (1), 0, 1, false, false, false, false⟩,  -- (B810+b):01 ROLL_ENABLE
  ⟨0xB810, 0x1, 16, 1, 0x2, 0x2, 2, 0, 0x0, (0), (255), 0, 1, false, false, false, false⟩,  -- (B810+b):02 ROLL_STATE
  ⟨0xB810, 0x1, 16, 1, 0x3, 0x3, 1, 1, 0x0, (0), (1), 0, 1, false, false, false, false⟩,  -- (B810+b):03 ROLL_PAUSE
  ⟨0xB810, 0x1, 16, 1, 0x4, 0x4, 2, 0, 0x0, (0), (16), 0, 1, false, false, false, false⟩,  -- (B810+b):04 ROLL_PATH
  ⟨0xB810, 0x1, 16, 1, 0x5, 0x5, 4, 0, 0x0, (0), (4294967295), 0, 1, false, false, false, false⟩,  -- (B810+b):05 ROUNDS
  ⟨0xB810, 0x1, 16, 1, 0x6, 0x6, 4, 0, 0x0, (0), (4294967295), 0, 1, false, false, false, false⟩,  -- (B810+b):06 HANDOVER_TIMEOUTS
  ⟨0xB810, 0x1, 16, 1, 0x7, 0x7, 4, 0, 0x0, (0), (4294967295), 0, 1, false, false, false, false⟩,  -- (B810+b):07 STEP_ABORTS
  ⟨0xB810, 0x1, 16, 1, 0x8, 0x8, 1, 2, 0x0, (0), (1), 0, 1, false, false, false, false⟩,  -- (B810+b):08 BAY_ASSAY_REQUEST
  ⟨0xB810, 0x1, 16, 1, 0x9, 0x9, 2, 0, 0x0, (0), (255), 0, 1, false, false, false, false⟩,  -- (B810+b):09 BAY_ASSAY_STATUS
  ⟨0xB810, 0x1, 16, 1, 0xA, 0xA, 7, 0, 0x0, (-32768), (32767), 0, 1, false, false, false, false⟩,  -- (B810+b):0A ASSAY_TEMP
  ⟨0xB810, 0x1, 16, 1, 0xB, 0xB, 1, 0, 0x0, (0), (1), 0, 1, false, false, false, false⟩,  -- (B810+b):0B WINDOW_STATE
  ⟨0xB810, 0x1, 16, 1, 0xC, 0xC, 2, 1, 0xFF, (0), (255), 0, 1, false, false, false, false⟩,  -- (B810+b):0C MANUAL_TARGET
  ⟨0xB810, 0x1, 16, 1, 0xD, 0xD, 7, 0, 0x0, (-32768), (32767), 0, 1, false, false, false, false⟩,  -- (B810+b):0D WORST_RESIDUAL
  ⟨0xB810, 0x1, 16, 1, 0xE, 0xE, 5, 0, 0x0, (0), (18446744073709551615), 0, 1, false, false, false, false⟩,  -- (B810+b):0E LAST_ROUND
  ⟨0x4027, 0x40, 256, 1, 0x1, 0x4, 7, 0, 0x0, (-32768), (32767), 0, 1, false, false, false, false⟩,  -- ch + 27:01–04 RESID_TIMING
  ⟨0x4027, 0x40, 256, 1, 0x5, 0x8, 2, 0, 0x40, (0), (255), 0, 1, false, false, false, false⟩,  -- ch + 27:05–08 TRIM
  ⟨0x4027, 0x40, 256, 1, 0x9, 0xC, 7, 0, 0x0, (-32768), (32767), 0, 1, false, false, false, false⟩,  -- ch + 27:09–0C TAPS
  ⟨0x4027, 0x40, 256, 1, 0xD, 0xD, 2, 0, 0x4, (0), (255), 0, 1, false, false, false, false⟩,  -- ch + 27:0D PATH_STATUS
  ⟨0x4027, 0x40, 256, 1, 0xE, 0xE, 5, 0, 0x0, (0), (18446744073709551615), 0, 1, false, false, false, false⟩,  -- ch + 27:0E LAST_ASSAY
  ⟨0x4027, 0x40, 256, 1, 0xF, 0x16, 8, 0, 0x0, (-2147483648), (2147483647), 0, 1, false, false, false, false⟩,  -- ch + 27:0F–16 RESID_LEVEL
  ⟨0x4027, 0x40, 256, 1, 0x17, 0x18, 8, 0, 0x0, (-2147483648), (2147483647), 0, 1, false, false, false, false⟩,  -- ch + 27:17–18 RESID_GUARD
  ⟨0x4027, 0x40, 256, 1, 0x19, 0x1A, 8, 0, 0x0, (-2147483648), (2147483647), 0, 1, false, false, false, false⟩  -- ch + 27:19–1A RESID_LOAD
]

/-- Lines of the object tables of chapter 17. -/
def dict17_a : List Row := [
  ⟨0xC000, 0x1, 1, 1, 0x1, 0x1, 4, 0, 0x0, (0), (4294967295), 0, 1, false, false, false, true⟩,  -- C000:01 SAFE_HOLD_CAUSE
  ⟨0xC000, 0x1, 1, 1, 0x2, 0x2, 3, 2, 0x0, (0), (65535), 0, 1, false, false, true, true⟩,  -- C000:02 SAFE_HOLD_REQUEST
  ⟨0xC000, 0x1, 1, 1, 0x3, 0x3, 2, 2, 0x0, (1), (2), 0, 1, false, false, false, true⟩,  -- C000:03 SAFE_HOLD_EXIT
  ⟨0xC000, 0x1, 1, 1, 0x4, 0x4, 2, 0, 0x0, (0), (255), 0, 1, false, false, false, true⟩,  -- C000:04 EXIT_STATUS
  ⟨0xC000, 0x1, 1, 1, 0x5, 0x5, 4, 0, 0x0, (0), (4294967295), 0, 1, false, false, false, true⟩,  -- C000:05 LOG_SEQ_NEXT
  ⟨0xC000, 0x1, 1, 1, 0x6, 0x6, 4, 1, 0x0, (0), (4294967295), 0, 1, false, false, false, true⟩,  -- C000:06 LOG_READ_SEQ
  ⟨0xC000, 0x1, 1, 1, 0x7, 0x7, 13, 0, 0x0, (0), (256), 0, 1, false, false, false, true⟩,  -- C000:07 FAULT_LOG_NEXT
  ⟨0xC000, 0x1, 1, 1, 0x8, 0x8, 4, 1, 0x0, (0), (4294967295), 0, 1, false, false, false, true⟩,  -- C000:08 FAULT_LOG_INDEX
  ⟨0xC000, 0x1, 1, 1, 0x9, 0x9, 13, 0, 0x0, (32), (32), 0, 1, false, false, false, true⟩,  -- C000:09 FAULT_LOG_RECORD
  ⟨0xC000, 0x1, 1, 1, 0xA, 0xA, 4, 0, 0x0, (0), (4294967295), 0, 1, false, false, false, true⟩,  -- C000:0A LOG_OVERWRITTEN
  ⟨0xC000, 0x1, 1, 1, 0xB, 0xB, 4, 2, 0x0, (0), (4294967295), 0, 1, false, false, true, true⟩,  -- C000:0B FAULT_HANDLE
  ⟨0xC000, 0x1, 1, 1, 0xC, 0xC, 4, 1, 0x3E8, (0), (1000000), 0, 1, false, false, false, true⟩,  -- C000:0C MERGE_WINDOW
  ⟨0xC000, 0x1, 1, 1, 0xD, 0xD, 2, 0, 0x0, (0), (255), 0, 1, false, false, false, true⟩,  -- C000:0D TIMERS_BUSY
  ⟨0xC000, 0x1, 1, 1, 0xE, 0xE, 4, 0, 0x0, (0), (4294967295), 0, 1, false, false, false, true⟩,  -- C000:0E GRACE_EXHAUSTED
  ⟨0xC000, 0x1, 1, 1, 0xF, 0xF, 4, 0, 0x0, (0), (4294967295), 0, 1, false, false, false, true⟩,  -- C000:0F ESCALATIONS
  ⟨0xC000, 0x1, 1, 1, 0x10, 0x10, 5, 0, 0x0, (0), (18446744073709551615), 0, 1, false, false, false, true⟩,  -- C000:10 MESSAGES
  ⟨0xC001, 0x1, 1, 1, 0x1, 0x1, 3, 1, 0x0, (0), (480), 0, 2, false, false, false, false⟩,  -- C001:01 INJECT_UNIT
  ⟨0xC001, 0x1, 1, 1, 0x2, 0x2, 2, 1, 0x0, (1), (255), 0, 2, false, false, false, false⟩,  -- C001:02 INJECT_KIND
  ⟨0xC001, 0x1, 1, 1, 0x3, 0x3, 4, 1, 0x0, (0), (4294967295), 0, 2, false, false, false, false⟩,  -- C001:03 INJECT_ADDRESS
  ⟨0xC001, 0x1, 1, 1, 0x4, 0x4, 2, 1, 0x1, (0), (1), 0, 2, false, false, false, false⟩,  -- C001:04 INJECT_MODE
  ⟨0xC001, 0x1, 1, 1, 0x5, 0x5, 1, 2, 0x0, (0), (1), 0, 2, false, false, false, false⟩,  -- C001:05 INJECT_GO
  ⟨0xC001, 0x1, 1, 1, 0x6, 0x15, 13, 0, 0x0, (13), (13), 0, 2, false, false, false, false⟩,  -- C001:06–15 INJECT_SLOT
  ⟨0xC002, 0x1, 1, 1, 0x1, 0x1, 13, 0, 0x0, (0), (1024), 0, 1, false, false, false, false⟩,  -- C002:01 EVENT_LOG_NEXT
  ⟨0xC002, 0x1, 1, 1, 0x2, 0x2, 4, 0, 0x0, (0), (4294967295), 0, 1, false, false, false, false⟩,  -- C002:02 EVENT_LOG_COUNT
  ⟨0xC002, 0x1, 1, 1, 0x3, 0x3, 4, 0, 0x0, (0), (4294967295), 0, 1, false, false, false, false⟩,  -- C002:03 EVENT_LOG_LOST
  ⟨0xC010, 0x1, 1, 1, 0x1, 0x1, 4, 1, 0x1, (0), (4294967295), 0, 1, false, false, false, true⟩,  -- C010:01–FF POLICY
  ⟨0xC010, 0x1, 1, 1, 0x2, 0xF, 4, 1, 0x0, (0), (4294967295), 0, 1, false, false, false, true⟩,  -- C010:01–FF POLICY
  ⟨0xC010, 0x1, 1, 1, 0x10, 0x11, 4, 1, 0x1, (0), (4294967295), 0, 1, false, false, false, true⟩,  -- C010:01–FF POLICY
  ⟨0xC010, 0x1, 1, 1, 0x12, 0x12, 4, 1, 0x271007, (0), (4294967295), 0, 1, false, false, false, true⟩,  -- C010:01–FF POLICY
  ⟨0xC010, 0x1, 1, 1, 0x13, 0x1F, 4, 1, 0x0, (0), (4294967295), 0, 1, false, false, false, true⟩,  -- C010:01–FF POLICY
  ⟨0xC010, 0x1, 1, 1, 0x20, 0x24, 4, 1, 0x1, (0), (4294967295), 0, 1, false, false, false, true⟩,  -- C010:01–FF POLICY
  ⟨0xC010, 0x1, 1, 1, 0x25, 0x27, 4, 1, 0x0, (0), (4294967295), 0, 1, false, false, false, true⟩,  -- C010:01–FF POLICY
  ⟨0xC010, 0x1, 1, 1, 0x28, 0x28, 4, 1, 0x9, (0), (4294967295), 0, 1, false, false, false, true⟩,  -- C010:01–FF POLICY
  ⟨0xC010, 0x1, 1, 1, 0x29, 0x2A, 4, 1, 0x1, (0), (4294967295), 0, 1, false, false, false, true⟩,  -- C010:01–FF POLICY
  ⟨0xC010, 0x1, 1, 1, 0x2B, 0x2F, 4, 1, 0x0, (0), (4294967295), 0, 1, false, false, false, true⟩,  -- C010:01–FF POLICY
  ⟨0xC010, 0x1, 1, 1, 0x30, 0x30, 4, 1, 0x1, (0), (4294967295), 0, 1, false, false, false, true⟩,  -- C010:01–FF POLICY
  ⟨0xC010, 0x1, 1, 1, 0x31, 0x37, 4, 1, 0x0, (0), (4294967295), 0, 1, false, false, false, true⟩,  -- C010:01–FF POLICY
  ⟨0xC010, 0x1, 1, 1, 0x38, 0x39, 4, 1, 0x1, (0), (4294967295), 0, 1, false, false, false, true⟩,  -- C010:01–FF POLICY
  ⟨0xC010, 0x1, 1, 1, 0x3A, 0x3A, 4, 1, 0x0, (0), (4294967295), 0, 1, false, false, false, true⟩,  -- C010:01–FF POLICY
  ⟨0xC010, 0x1, 1, 1, 0x3B, 0x3B, 4, 1, 0x9, (0), (4294967295), 0, 1, false, false, false, true⟩  -- C010:01–FF POLICY
]

/-- Lines of the object tables of chapter 17. -/
def dict17_b : List Row := [
  ⟨0xC010, 0x1, 1, 1, 0x3C, 0x3F, 4, 1, 0x0, (0), (4294967295), 0, 1, false, false, false, true⟩,  -- C010:01–FF POLICY
  ⟨0xC010, 0x1, 1, 1, 0x40, 0x42, 4, 1, 0x1, (0), (4294967295), 0, 1, false, false, false, true⟩,  -- C010:01–FF POLICY
  ⟨0xC010, 0x1, 1, 1, 0x43, 0x47, 4, 1, 0x0, (0), (4294967295), 0, 1, false, false, false, true⟩,  -- C010:01–FF POLICY
  ⟨0xC010, 0x1, 1, 1, 0x48, 0x49, 4, 1, 0x1, (0), (4294967295), 0, 1, false, false, false, true⟩,  -- C010:01–FF POLICY
  ⟨0xC010, 0x1, 1, 1, 0x4A, 0x4F, 4, 1, 0x0, (0), (4294967295), 0, 1, false, false, false, true⟩,  -- C010:01–FF POLICY
  ⟨0xC010, 0x1, 1, 1, 0x50, 0x51, 4, 1, 0x1, (0), (4294967295), 0, 1, false, false, false, true⟩,  -- C010:01–FF POLICY
  ⟨0xC010, 0x1, 1, 1, 0x52, 0x58, 4, 1, 0x0, (0), (4294967295), 0, 1, false, false, false, true⟩,  -- C010:01–FF POLICY
  ⟨0xC010, 0x1, 1, 1, 0x59, 0x5A, 4, 1, 0x1, (0), (4294967295), 0, 1, false, false, false, true⟩,  -- C010:01–FF POLICY
  ⟨0xC010, 0x1, 1, 1, 0x5B, 0x67, 4, 1, 0x0, (0), (4294967295), 0, 1, false, false, false, true⟩,  -- C010:01–FF POLICY
  ⟨0xC010, 0x1, 1, 1, 0x68, 0x68, 4, 1, 0x1, (0), (4294967295), 0, 1, false, false, false, true⟩,  -- C010:01–FF POLICY
  ⟨0xC010, 0x1, 1, 1, 0x69, 0x6F, 4, 1, 0x0, (0), (4294967295), 0, 1, false, false, false, true⟩,  -- C010:01–FF POLICY
  ⟨0xC010, 0x1, 1, 1, 0x70, 0x70, 4, 1, 0x1, (0), (4294967295), 0, 1, false, false, false, true⟩,  -- C010:01–FF POLICY
  ⟨0xC010, 0x1, 1, 1, 0x71, 0x71, 4, 1, 0x0, (0), (4294967295), 0, 1, false, false, false, true⟩,  -- C010:01–FF POLICY
  ⟨0xC010, 0x1, 1, 1, 0x72, 0x72, 4, 1, 0x1, (0), (4294967295), 0, 1, false, false, false, true⟩,  -- C010:01–FF POLICY
  ⟨0xC010, 0x1, 1, 1, 0x73, 0x73, 4, 1, 0x11, (0), (4294967295), 0, 1, false, false, false, true⟩,  -- C010:01–FF POLICY
  ⟨0xC010, 0x1, 1, 1, 0x74, 0x77, 4, 1, 0x0, (0), (4294967295), 0, 1, false, false, false, true⟩,  -- C010:01–FF POLICY
  ⟨0xC010, 0x1, 1, 1, 0x78, 0x78, 4, 1, 0x11, (0), (4294967295), 0, 1, false, false, false, true⟩,  -- C010:01–FF POLICY
  ⟨0xC010, 0x1, 1, 1, 0x79, 0x7F, 4, 1, 0x0, (0), (4294967295), 0, 1, false, false, false, true⟩,  -- C010:01–FF POLICY
  ⟨0xC010, 0x1, 1, 1, 0x80, 0x80, 4, 1, 0x11, (0), (4294967295), 0, 1, false, false, false, true⟩,  -- C010:01–FF POLICY
  ⟨0xC010, 0x1, 1, 1, 0x81, 0x81, 4, 1, 0x1, (0), (4294967295), 0, 1, false, false, false, true⟩,  -- C010:01–FF POLICY
  ⟨0xC010, 0x1, 1, 1, 0x82, 0x82, 4, 1, 0x11, (0), (4294967295), 0, 1, false, false, false, true⟩,  -- C010:01–FF POLICY
  ⟨0xC010, 0x1, 1, 1, 0x83, 0x83, 4, 1, 0x1, (0), (4294967295), 0, 1, false, false, false, true⟩,  -- C010:01–FF POLICY
  ⟨0xC010, 0x1, 1, 1, 0x84, 0x84, 4, 1, 0x11, (0), (4294967295), 0, 1, false, false, false, true⟩,  -- C010:01–FF POLICY
  ⟨0xC010, 0x1, 1, 1, 0x85, 0x85, 4, 1, 0x0, (0), (4294967295), 0, 1, false, false, false, true⟩,  -- C010:01–FF POLICY
  ⟨0xC010, 0x1, 1, 1, 0x86, 0x86, 4, 1, 0x1, (0), (4294967295), 0, 1, false, false, false, true⟩,  -- C010:01–FF POLICY
  ⟨0xC010, 0x1, 1, 1, 0x87, 0x88, 4, 1, 0x11, (0), (4294967295), 0, 1, false, false, false, true⟩,  -- C010:01–FF POLICY
  ⟨0xC010, 0x1, 1, 1, 0x89, 0xFF, 4, 1, 0x0, (0), (4294967295), 0, 1, false, false, false, true⟩,  -- C010:01–FF POLICY
  ⟨0xC400, 0x1, 2048, 1, 0x1, 0x1, 5, 0, 0x0, (0), (18446744073709551615), 0, 1, false, false, false, false⟩,  -- (C400+n):01 COUNT
  ⟨0xC400, 0x1, 2048, 1, 0x2, 0x2, 5, 0, 0x0, (0), (18446744073709551615), 0, 1, false, false, false, false⟩,  -- (C400+n):02 LAST_TIME
  ⟨0xC400, 0x1, 2048, 1, 0x3, 0x3, 4, 0, 0x0, (0), (4294967295), 0, 1, false, false, false, false⟩,  -- (C400+n):03 LAST_DETAIL
  ⟨0xC400, 0x1, 2048, 1, 0x4, 0x4, 1, 1, 0x1, (0), (1), 0, 1, false, false, false, false⟩,  -- (C400+n):04 LOG
  ⟨0x2300, 0x1, 1, 1, 0x1, 0x1, 3, 1, 0x3E8, (100), (10000), 0, 2, false, false, false, true⟩,  -- 2300:01 ALIVE_FREQ
  ⟨0x2300, 0x1, 1, 1, 0x2, 0x2, 2, 0, 0x1, (0), (255), 0, 2, false, false, false, true⟩,  -- 2300:02 ALIVE_STATE
  ⟨0x2300, 0x1, 1, 1, 0x3, 0x3, 3, 1, 0xC8, (100), (10000), 0, 2, false, false, false, true⟩,  -- 2300:03 WATCHDOG_TIME
  ⟨0x2300, 0x1, 1, 1, 0x4, 0x4, 4, 0, 0x0, (0), (4294967295), 0, 2, false, false, false, true⟩,  -- 2300:04 WATCHDOG_EXPIRIES
  ⟨0x2300, 0x1, 1, 1, 0x5, 0x5, 5, 0, 0x0, (0), (18446744073709551615), 0, 2, false, false, false, true⟩,  -- 2300:05 KEEPER_TIME
  ⟨0x2300, 0x1, 1, 1, 0x6, 0x6, 8, 0, 0x0, (-2147483648), (2147483647), 0, 2, false, false, false, true⟩  -- 2300:06 KCLK_ERROR
]

/-- Lines of the object tables of chapter 18. -/
def dict18_a : List Row := [
  ⟨0x2000, 0x1, 1, 1, 0x1, 0x1, 2, 0, 0x0, (0), (255), 0, 1, false, false, false, true⟩,  -- 2000:01 MODULE_STATE
  ⟨0x2000, 0x1, 1, 1, 0x2, 0x2, 2, 0, 0x1, (0), (255), 0, 1, false, false, false, true⟩,  -- 2000:02 START_STAGE
  ⟨0x2000, 0x1, 1, 1, 0x3, 0x3, 3, 0, 0x0, (0), (65535), 0, 1, false, false, false, true⟩,  -- 2000:03 START_STATUS
  ⟨0x2000, 0x1, 1, 1, 0x4, 0x4, 4, 0, 0x0, (0), (4294967295), 0, 1, false, false, false, true⟩,  -- 2000:04 START_TIME
  ⟨0x2000, 0x1, 1, 1, 0x5, 0x5, 2, 0, 0x0, (0), (255), 0, 1, false, false, false, true⟩,  -- 2000:05 RESET_CAUSE
  ⟨0x2000, 0x1, 1, 1, 0x6, 0x6, 2, 0, 0x0, (0), (255), 0, 1, false, false, false, false⟩,  -- 2000:06 ACTIVE_CORE
  ⟨0x2000, 0x1, 1, 1, 0x7, 0x7, 2, 0, 0x0, (0), (255), 0, 1, false, false, false, false⟩,  -- 2000:07 STANDBY_STATE
  ⟨0x2000, 0x1, 1, 1, 0x8, 0x8, 1, 2, 0x0, (0), (1), 0, 1, false, false, false, false⟩,  -- 2000:08 SWITCHOVER_REQUEST
  ⟨0x2000, 0x1, 1, 1, 0x9, 0x9, 2, 0, 0x0, (0), (255), 0, 1, false, false, false, false⟩,  -- 2000:09 SWITCH_STATUS
  ⟨0x2000, 0x1, 1, 1, 0xA, 0xA, 4, 0, 0x0, (0), (4294967295), 0, 1, false, false, false, false⟩,  -- 2000:0A SWITCHOVERS
  ⟨0x2000, 0x1, 1, 1, 0xB, 0xB, 3, 0, 0x0, (0), (65535), 0, 1, false, false, false, true⟩,  -- 2000:0B SUPPLY_STATE
  ⟨0x2100, 0x1, 1, 1, 0x1, 0x1, 2, 0, 0x0, (0), (255), 0, 1, false, false, false, true⟩,  -- 2100:01 REF_STATE
  ⟨0x2100, 0x1, 1, 1, 0x2, 0x2, 1, 0, 0x0, (0), (1), 0, 1, false, false, false, true⟩,  -- 2100:02 REF_WARM
  ⟨0x2100, 0x1, 1, 1, 0x3, 0x3, 5, 0, 0x0, (0), (18446744073709551615), 0, 1, false, false, false, true⟩,  -- 2100:03 LOCK_MASK
  ⟨0x2200, 0x1, 1, 1, 0x1, 0x1, 3, 0, 0x0, (0), (65535), 0, 1, false, false, false, true⟩,  -- 2200:01 HOLDUP_VOLTAGE
  ⟨0x2200, 0x1, 1, 1, 0x2, 0x2, 4, 0, 0x0, (0), (4294967295), 0, 1, false, false, false, true⟩,  -- 2200:02 HOLDUP_CAP
  ⟨0x2200, 0x1, 1, 1, 0x3, 0x3, 3, 0, 0x0, (0), (65535), 0, 1, false, false, false, true⟩,  -- 2200:03 HOLDUP_ESR
  ⟨0x2200, 0x1, 1, 1, 0x4, 0x4, 4, 0, 0x0, (0), (4294967295), 0, 1, false, false, false, true⟩,  -- 2200:04 HOLDUP_ENERGY
  ⟨0x2200, 0x1, 1, 1, 0x5, 0x5, 5, 0, 0x0, (0), (18446744073709551615), 0, 1, false, false, false, true⟩,  -- 2200:05 HOLDUP_CHECK_TIME
  ⟨0x2200, 0x1, 1, 1, 0x6, 0x6, 1, 2, 0x0, (0), (1), 0, 1, false, false, false, true⟩,  -- 2200:06 HOLDUP_CHECK_REQUEST
  ⟨0x2200, 0x1, 1, 1, 0x7, 0x7, 2, 0, 0x0, (0), (255), 0, 1, false, false, false, true⟩,  -- 2200:07 HOLDUP_STATE
  ⟨0x2200, 0x1, 1, 1, 0x8, 0x8, 3, 1, 0x3C, (10), (3600), 0, 1, false, false, false, true⟩,  -- 2200:08 HOLDUP_INTERVAL
  ⟨0x2200, 0x1, 1, 1, 0x9, 0x9, 4, 0, 0x0, (0), (4294967295), 0, 1, false, false, false, true⟩,  -- 2200:09 HOLDUP_REFUSALS
  ⟨0x2200, 0x1, 1, 1, 0xA, 0xA, 2, 0, 0x0, (0), (255), 0, 1, false, false, false, true⟩  -- 2200:0A LAST_REFUSED
]

/-- The dictionary: every line of every object table (R351). -/
def dictionary : List Row :=
  dict02_a ++
  dict03_a ++
  dict04_a ++
  dict05_a ++
  dict06_a ++
  dict06_b ++
  dict07_a ++
  dict07_b ++
  dict08_a ++
  dict09_a ++
  dict09_b ++
  dict10_a ++
  dict11_a ++
  dict12_a ++
  dict12_b ++
  dict13_a ++
  dict14_a ++
  dict15_a ++
  dict15_b ++
  dict16_a ++
  dict17_a ++
  dict17_b ++
  dict18_a

/-- Whether a line of the dictionary holds the index. -/
def Row.hasIndex (r : Row) (index : Nat) : Bool :=
  decide (r.base ≤ index) && decide ((index - r.base) / r.stride < r.count) && decide ((index - r.base) % r.stride < r.width)

/-- Whether a line of the dictionary holds the address. -/
def Row.has (r : Row) (index sub : Nat) : Bool :=
  decide (r.subLo ≤ sub) && decide (sub ≤ r.subHi) && r.hasIndex index

/-- The line of the dictionary that holds an address, where one does (R350). -/
def findRow (index sub : Nat) : Option Row := dictionary.find? (fun r => r.has index sub)

/-- The default value of the object with a key (index times 256 plus subindex); 0 where the table gives none. -/
def Row.default (key : Nat) : Nat :=
  match findRow (key / 256) (key % 256) with
  | some r => r.dflt
  | none => 0

end Sys2Proof.Machine
end

