-- ==== Sys2Proof/Machine/Registers.lean ====
section
/-! DEFINITION. The names of the objects of the dictionary, as the chapters of the spec give them (R350, R351). -/

namespace Sys2Proof.Machine

namespace R
/-- 2800:01 (R32), U8 RO. -/
abbrev SITE_COUNT : Nat := 0x280001
/-- 2801:01 (R44), U16 RO. -/
abbrev COMMIT_TAG : Nat := 0x280101
/-- 2801:02 (R44), U32 RW. -/
abbrev COMMIT_WINDOW : Nat := 0x280102
/-- 2801:03 (R44), U8 RO. -/
abbrev COMMIT_RESULT : Nat := 0x280103
/-- 2801:04 (R44), DOMAIN RO. -/
abbrev COMMIT_REPORT : Nat := 0x280104
/-- 2801:05 (R44), U64 RO. -/
abbrev APPLIED_MASK : Nat := 0x280105
/-- 8000:01 (R267), U32 RO. -/
abbrev CATALOGUE_VERSION : Nat := 0x800001
/-- 8000:02 (R267), U8 RO. -/
abbrev KERNEL_COUNT : Nat := 0x800002
/-- 8800:01 (R267), U32 RO. -/
abbrev STORE_USED : Nat := 0x880001
/-- 8800:02 (R267), U32 RO. -/
abbrev STORE_PEAK : Nat := 0x880002
/-- 8800:03 (R267), U32 RW. -/
abbrev SOURCE_LIMIT : Nat := 0x880003
/-- 8800:04 (R267), U32 RO. -/
abbrev PENDING_ITEMS : Nat := 0x880004
/-- 8800:05 (R267), U32 RW. -/
abbrev WORK_LIMIT : Nat := 0x880005
/-- 8800:06 (R267), U16 RW. -/
abbrev TICK : Nat := 0x880006
/-- 8800:07 (R267), U16 RW. -/
abbrev RETRY_TICKS : Nat := 0x880007
/-- 8800:08–0B (R267), U16 RO. -/
abbrev LIST_USED : Nat := 0x880008
/-- 8800:0C (R267), U32 RO. -/
abbrev LIST_FULL_COUNT : Nat := 0x88000C
/-- 8800:0D (R267), U64 RO. -/
abbrev TIMER_LATE_NS : Nat := 0x88000D
/-- 8800:0E–12 (R267), U32 RO. -/
abbrev BP_WAITS : Nat := 0x88000E
/-- 8800:13 (R267), U64 RO. -/
abbrev AFFINITY_HITS : Nat := 0x880013
/-- 8800:14 (R267), U64 RO. -/
abbrev AFFINITY_MISSES : Nat := 0x880014
/-- 8800:15 (R267), BOOL WO. -/
abbrev PEAK_CLEAR : Nat := 0x880015
/-- 9000:01 (R292), U64 CONST. -/
abbrev DATA_SPACE : Nat := 0x900001
/-- 9000:02 (R292), U32 RWS. -/
abbrev PATTERN_SIZE : Nat := 0x900002
/-- 9000:03 (R292), U32 RWS. -/
abbrev CAPTURE_SIZE : Nat := 0x900003
/-- 9000:04 (R292), U64 RO. -/
abbrev SYSTEM_SIZE : Nat := 0x900004
/-- 9000:05 (R292), U64 RO. -/
abbrev CAPTURE_BASE : Nat := 0x900005
/-- 9000:06 (R292), U64 RO. -/
abbrev SYSTEM_BASE : Nat := 0x900006
/-- 9000:07 (R292), DOMAIN RO. -/
abbrev SYS_RESERVED : Nat := 0x900007
/-- 9000:08 (R292), U32 RO. -/
abbrev PARTITION_ERROR : Nat := 0x900008
/-- 9001:01 (R292), U32 RO. -/
abbrev PATTERN_IN_USE : Nat := 0x900101
/-- 9001:02 (R292), U32 RO. -/
abbrev CAPTURE_IN_USE : Nat := 0x900102
/-- 9001:03 (R292), U32 RO. -/
abbrev PC_CAPTURE_PEAK : Nat := 0x900103
/-- 9001:04 (R292), U8 RO. -/
abbrev PC_CAPTURE_PEAK_PC : Nat := 0x900104
/-- 9001:05 (R292), DOMAIN RO. -/
abbrev LOCKED_RANGES : Nat := 0x900105
/-- 9002:01 (R292), U16 RW. -/
abbrev SCRUB_PERIOD : Nat := 0x900201
/-- 9002:02 (R292), U32 RO. -/
abbrev SCRUB_PASSES : Nat := 0x900202
/-- 9002:03 (R292), U16 RW. -/
abbrev CE_THRESHOLD : Nat := 0x900203
/-- A000:01 (R333), BOOL RO. -/
abbrev LREFCLK_OK : Nat := 0xA00001
/-- A000:02 (R333), U16 RW. -/
abbrev GATHER_TIME : Nat := 0xA00002
/-- A000:03 (R333), U16 RW. -/
abbrev TRAIN_TIMEOUT : Nat := 0xA00003
/-- A000:04 (R333), BOOL RW. -/
abbrev AUTO_RETRAIN : Nat := 0xA00004
/-- A300:01 (R349), U64 RO. -/
abbrev NETWORK_TIME : Nat := 0xA30001
/-- A300:02 (R349), U64 RO. -/
abbrev COUNTER : Nat := 0xA30002
/-- A300:03 (R349), U64 RO. -/
abbrev OFFSET : Nat := 0xA30003
/-- A300:04 (R349), I64 RW. -/
abbrev RATE_SET : Nat := 0xA30004
/-- A300:05 (R349), I64 WO. -/
abbrev OFFSET_ADJUST : Nat := 0xA30005
/-- A300:06 (R349), U64 WO. -/
abbrev TIME_SET : Nat := 0xA30006
/-- A300:07 (R349), U32 RO. -/
abbrev TIME_STEPS : Nat := 0xA30007
/-- A300:08 (R349), U8 RO. -/
abbrev CLOCK_STATE : Nat := 0xA30008
/-- A300:09 (R349), U8 RW. -/
abbrev SERVO_MODE : Nat := 0xA30009
/-- A300:0A (R349), U32 RW. -/
abbrev LOCK_LIMIT : Nat := 0xA3000A
/-- A300:0B (R349), I16 RO. -/
abbrev UTC_OFFSET : Nat := 0xA3000B
/-- A300:0C (R349), U8 RW. -/
abbrev DOMAIN : Nat := 0xA3000C
/-- 1000:01 (R356), STR CONST. -/
abbrev ORDER_CODE : Nat := 0x100001
/-- 1000:02 (R356), STR CONST. -/
abbrev STEPPING : Nat := 0x100002
/-- 1000:03 (R356), STR CONST. -/
abbrev SERIAL : Nat := 0x100003
/-- 1000:04 (R356), U8 CONST. -/
abbrev DICT_VERSION : Nat := 0x100004
/-- 1000:05 (R356), U8 CONST. -/
abbrev PROTOCOL_VERSION : Nat := 0x100005
/-- 1000:06 (R356), U32 RO. -/
abbrev FIRMWARE_VERSION : Nat := 0x100006
/-- 1000:07 (R356), U32 CONST. -/
abbrev KEEPER_VERSION : Nat := 0x100007
/-- 1100:01 (R356), U8 RO. -/
abbrev SESSION_ID : Nat := 0x110001
/-- 1100:02 (R356), U8 RO. -/
abbrev SESSION_ROLE : Nat := 0x110002
/-- 1100:03 (R356), U8 RO. -/
abbrev SESSION_VIEW : Nat := 0x110003
/-- 1100:04 (R356), U8 RO. -/
abbrev SESSION_COUNT : Nat := 0x110004
/-- 1100:05 (R356), DOMAIN RW. -/
abbrev EVENT_MASK : Nat := 0x110005
/-- 1100:06 (R356), U32 RW. -/
abbrev EVENT_HOLD : Nat := 0x110006
/-- 1100:07 (R356), U32 RO. -/
abbrev EVENT_LOST : Nat := 0x110007
/-- 1100:08 (R356), BOOL RW. -/
abbrev DATA_SUBSCRIBE : Nat := 0x110008
/-- 1100:09 (R356), U32 WO. -/
abbrev DATA_ACK : Nat := 0x110009
/-- 1100:0A (R356), U16 RW. -/
abbrev IDLE_TIMEOUT : Nat := 0x11000A
/-- 1200:01 (R356), U32 RW. -/
abbrev DESC_ADDRESS : Nat := 0x120001
/-- 1200:02 (R356), DOMAIN RO. -/
abbrev DESCRIPTOR : Nat := 0x120002
/-- 1200:03 (R356), STR RO. -/
abbrev UNITS : Nat := 0x120003
/-- B000:01 (R399), BOOL RO. -/
abbrev APPROVED : Nat := 0xB00001
/-- B000:02 (R399), U8 RO. -/
abbrev TM_STATE : Nat := 0xB00002
/-- B000:03 (R399), U32 RO. -/
abbrev SELF_TEST_RESULT : Nat := 0xB00003
/-- B000:04 (R399), BOOL WO. -/
abbrev SELF_TEST_REQUEST : Nat := 0xB00004
/-- B000:05 (R399), U16 WO. -/
abbrev ZEROIZE : Nat := 0xB00005
/-- B000:06 (R399), U32 RO. -/
abbrev ZEROIZE_COUNT : Nat := 0xB00006
/-- B001:01–03 (R399), DOMAIN RW. -/
abbrev ROLE_ANCHOR : Nat := 0xB00101
/-- B002:01 (R399), DOMAIN RO. -/
abbrev DEVICE_SIGN_CERT : Nat := 0xB00201
/-- B002:02 (R399), DOMAIN RO. -/
abbrev DEVICE_KA_CERT : Nat := 0xB00202
/-- B002:03 (R399), DOMAIN RO. -/
abbrev TOUCHMARK_CERT : Nat := 0xB00203
/-- B002:04 (R399), U32 RO. -/
abbrev TOUCHMARK_KEY_ID : Nat := 0xB00204
/-- B003:01 (R399), DOMAIN WO. -/
abbrev GROUP_KEY_IMPORT : Nat := 0xB00301
/-- B003:02 (R399), U32 RO. -/
abbrev GROUP_KEY_ID : Nat := 0xB00302
/-- B004:01–08 (R399), DOMAIN RW. -/
abbrev CODE_KEY : Nat := 0xB00401
/-- B004:09–10 (R399), U8 RW. -/
abbrev CODE_KEY_USE : Nat := 0xB00409
/-- B005:01–40 (R399), U32 RO. -/
abbrev SLOT_STATE : Nat := 0xB00501
/-- B005:41 (R399), U8 WO. -/
abbrev SLOT_ZEROIZE : Nat := 0xB00541
/-- B006:01–40 (R399), U64 RO. -/
abbrev SLOT_BASE : Nat := 0xB00601
/-- B007:01 (R399), U64 RO. -/
abbrev TM_COUNTER : Nat := 0xB00701
/-- B007:02 (R399), U64 RO. -/
abbrev RESERVED_END : Nat := 0xB00702
/-- B007:03 (R399), U32 RO. -/
abbrev TM_GAPS : Nat := 0xB00703
/-- B007:04 (R399), U32 RW. -/
abbrev TM_BATCH_MAX : Nat := 0xB00704
/-- B008:01 (R399), U8 RW. -/
abbrev FW_ACTIVE_SLOT : Nat := 0xB00801
/-- B008:02 (R399), DOMAIN WO. -/
abbrev FW_IMAGE : Nat := 0xB00802
/-- B008:03 (R399), U8 RO. -/
abbrev FW_STATUS : Nat := 0xB00803
/-- B008:04 (R399), U32 RO. -/
abbrev ROLLBACK : Nat := 0xB00804
/-- B008:05 (R399), U32 WO. -/
abbrev FW_ACCEPT : Nat := 0xB00805
/-- B008:06–07 (R399), U32 RO. -/
abbrev FW_SLOT_VERSION : Nat := 0xB00806
/-- B008:08 (R399), BOOL RO. -/
abbrev FW_FALLBACK : Nat := 0xB00808
/-- B008:09 (R399), BOOL WO. -/
abbrev TM_RESTART_REQUEST : Nat := 0xB00809
/-- B008:0A (R399), U32 RO. -/
abbrev TM_FW_VERSION : Nat := 0xB0080A
/-- B009:01 (R399), U8 RO. -/
abbrev DEBUG_STATE : Nat := 0xB00901
/-- B009:02 (R399), DOMAIN RO. -/
abbrev DEBUG_NONCE : Nat := 0xB00902
/-- B009:03 (R399), DOMAIN WO. -/
abbrev DEBUG_UNLOCK : Nat := 0xB00903
/-- B00A:01 (R399), U32 RO. -/
abbrev ENTROPY_FAILS : Nat := 0xB00A01
/-- B800:01 (R419), U32 RW. -/
abbrev ROLL_INTERVAL : Nat := 0xB80001
/-- B800:02 (R419), U16 RW. -/
abbrev HANDOVER_WAIT : Nat := 0xB80002
/-- B800:03 (R419), U32 RW. -/
abbrev LEDGER_INTERVAL : Nat := 0xB80003
/-- B800:04 (R419), U8 RW. -/
abbrev TEMP_WINDOW : Nat := 0xB80004
/-- B800:05 (R419), U32 RW. -/
abbrev TMU_ASSAY_INTERVAL : Nat := 0xB80005
/-- B800:06 (R419), U8 RO. -/
abbrev LEDGER_STATE : Nat := 0xB80006
/-- B800:07 (R419), U32 RO. -/
abbrev LEDGER_SEQ : Nat := 0xB80007
/-- B800:08 (R419), U32 RO. -/
abbrev LEDGER_FREE : Nat := 0xB80008
/-- B800:09 (R419), BOOL WO. -/
abbrev PURLIN_ASSAY : Nat := 0xB80009
/-- B800:0A (R419), U8 RO. -/
abbrev PURLIN_STATUS : Nat := 0xB8000A
/-- B800:0B (R419), I32 RO. -/
abbrev PURLIN_PAD : Nat := 0xB8000B
/-- C000:01 (R439), U32 RO. -/
abbrev SAFE_HOLD_CAUSE : Nat := 0xC00001
/-- C000:02 (R439), U16 WO. -/
abbrev SAFE_HOLD_REQUEST : Nat := 0xC00002
/-- C000:03 (R439), U8 WO. -/
abbrev SAFE_HOLD_EXIT : Nat := 0xC00003
/-- C000:04 (R439), U8 RO. -/
abbrev EXIT_STATUS : Nat := 0xC00004
/-- C000:05 (R439), U32 RO. -/
abbrev LOG_SEQ_NEXT : Nat := 0xC00005
/-- C000:06 (R439), U32 RW. -/
abbrev LOG_READ_SEQ : Nat := 0xC00006
/-- C000:07 (R439), DOMAIN RO. -/
abbrev FAULT_LOG_NEXT : Nat := 0xC00007
/-- C000:08 (R439), U32 RW. -/
abbrev FAULT_LOG_INDEX : Nat := 0xC00008
/-- C000:09 (R439), DOMAIN RO. -/
abbrev FAULT_LOG_RECORD : Nat := 0xC00009
/-- C000:0A (R439), U32 RO. -/
abbrev LOG_OVERWRITTEN : Nat := 0xC0000A
/-- C000:0B (R439), U32 WO. -/
abbrev FAULT_HANDLE : Nat := 0xC0000B
/-- C000:0C (R439), U32 RW. -/
abbrev MERGE_WINDOW : Nat := 0xC0000C
/-- C000:0D (R439), U8 RO. -/
abbrev TIMERS_BUSY : Nat := 0xC0000D
/-- C000:0E (R439), U32 RO. -/
abbrev GRACE_EXHAUSTED : Nat := 0xC0000E
/-- C000:0F (R439), U32 RO. -/
abbrev ESCALATIONS : Nat := 0xC0000F
/-- C000:10 (R439), U64 RO. -/
abbrev MESSAGES : Nat := 0xC00010
/-- C001:01 (R439), U16 RW. -/
abbrev INJECT_UNIT : Nat := 0xC00101
/-- C001:02 (R439), U8 RW. -/
abbrev INJECT_KIND : Nat := 0xC00102
/-- C001:03 (R439), U32 RW. -/
abbrev INJECT_ADDRESS : Nat := 0xC00103
/-- C001:04 (R439), U8 RW. -/
abbrev INJECT_MODE : Nat := 0xC00104
/-- C001:05 (R439), BOOL WO. -/
abbrev INJECT_GO : Nat := 0xC00105
/-- C001:06–15 (R439), DOMAIN RO. -/
abbrev INJECT_SLOT : Nat := 0xC00106
/-- C002:01 (R439), DOMAIN RO. -/
abbrev EVENT_LOG_NEXT : Nat := 0xC00201
/-- C002:02 (R439), U32 RO. -/
abbrev EVENT_LOG_COUNT : Nat := 0xC00202
/-- C002:03 (R439), U32 RO. -/
abbrev EVENT_LOG_LOST : Nat := 0xC00203
/-- C010:01–FF (R439), U32 RW. -/
abbrev POLICY : Nat := 0xC01001
/-- 2300:01 (R439), U16 RW. -/
abbrev ALIVE_FREQ : Nat := 0x230001
/-- 2300:02 (R439), U8 RO. -/
abbrev ALIVE_STATE : Nat := 0x230002
/-- 2300:03 (R439), U16 RW. -/
abbrev WATCHDOG_TIME : Nat := 0x230003
/-- 2300:04 (R439), U32 RO. -/
abbrev WATCHDOG_EXPIRIES : Nat := 0x230004
/-- 2300:05 (R439), U64 RO. -/
abbrev KEEPER_TIME : Nat := 0x230005
/-- 2300:06 (R439), I32 RO. -/
abbrev KCLK_ERROR : Nat := 0x230006
/-- 2000:01 (R455), U8 RO. -/
abbrev MODULE_STATE : Nat := 0x200001
/-- 2000:02 (R455), U8 RO. -/
abbrev START_STAGE : Nat := 0x200002
/-- 2000:03 (R455), U16 RO. -/
abbrev START_STATUS : Nat := 0x200003
/-- 2000:04 (R455), U32 RO. -/
abbrev START_TIME : Nat := 0x200004
/-- 2000:05 (R455), U8 RO. -/
abbrev RESET_CAUSE : Nat := 0x200005
/-- 2000:06 (R455), U8 RO. -/
abbrev ACTIVE_CORE : Nat := 0x200006
/-- 2000:07 (R455), U8 RO. -/
abbrev STANDBY_STATE : Nat := 0x200007
/-- 2000:08 (R455), BOOL WO. -/
abbrev SWITCHOVER_REQUEST : Nat := 0x200008
/-- 2000:09 (R455), U8 RO. -/
abbrev SWITCH_STATUS : Nat := 0x200009
/-- 2000:0A (R455), U32 RO. -/
abbrev SWITCHOVERS : Nat := 0x20000A
/-- 2000:0B (R455), U16 RO. -/
abbrev SUPPLY_STATE : Nat := 0x20000B
/-- 2100:01 (R455), U8 RO. -/
abbrev REF_STATE : Nat := 0x210001
/-- 2100:02 (R455), BOOL RO. -/
abbrev REF_WARM : Nat := 0x210002
/-- 2100:03 (R455), U64 RO. -/
abbrev LOCK_MASK : Nat := 0x210003
/-- 2200:01 (R455), U16 RO. -/
abbrev HOLDUP_VOLTAGE : Nat := 0x220001
/-- 2200:02 (R455), U32 RO. -/
abbrev HOLDUP_CAP : Nat := 0x220002
/-- 2200:03 (R455), U16 RO. -/
abbrev HOLDUP_ESR : Nat := 0x220003
/-- 2200:04 (R455), U32 RO. -/
abbrev HOLDUP_ENERGY : Nat := 0x220004
/-- 2200:05 (R455), U64 RO. -/
abbrev HOLDUP_CHECK_TIME : Nat := 0x220005
/-- 2200:06 (R455), BOOL WO. -/
abbrev HOLDUP_CHECK_REQUEST : Nat := 0x220006
/-- 2200:07 (R455), U8 RO. -/
abbrev HOLDUP_STATE : Nat := 0x220007
/-- 2200:08 (R455), U16 RW. -/
abbrev HOLDUP_INTERVAL : Nat := 0x220008
/-- 2200:09 (R455), U32 RO. -/
abbrev HOLDUP_REFUSALS : Nat := 0x220009
/-- 2200:0A (R455), U8 RO. -/
abbrev LAST_REFUSED : Nat := 0x22000A
/-- 2880:01 (R46), U32 RW. -/
abbrev CLAIM_TRIG : Nat := 0x288001
/-- 2890:01 (R46), U32 RW. -/
abbrev CLAIM_RIDGE : Nat := 0x289001
/-- A310:01 (R46), U32 RW. -/
abbrev CLAIM_TPG : Nat := 0xA31001
end R

namespace RSite
/-- (2810+s):01 (R32), U32 RWL. -/
abbrev SYSTEM_TAG : Nat := 0x1
/-- (2810+s):02 (R32), U8 RWL. -/
abbrev KIND : Nat := 0x2
/-- (2810+s):03 (R32), U16 RWL. -/
abbrev BAY_MASK : Nat := 0x3
/-- (2810+s):04 (R32), U8 RWL. -/
abbrev QUAD : Nat := 0x4
/-- (2810+s):05 (R32), U16 RO. -/
abbrev EPOCH : Nat := 0x5
/-- (2810+s):06 (R32), U8 RWL. -/
abbrev RIDGE_FAIL : Nat := 0x6
/-- (2810+s):07 (R32), U8 RWL. -/
abbrev RIDGE_MATCH : Nat := 0x7
/-- (2810+s):08 (R32), U8 RWL. -/
abbrev PURLIN_POSITION : Nat := 0x8
/-- (2810+s):09 (R32), U32 RO. -/
abbrev SITE_STATUS : Nat := 0x9
end RSite

namespace RBay
/-- 3b00:01 (R36), U8 RO. -/
abbrev BAY_STATE : Nat := 0x1
/-- 3b00:02 (R36), U8 WO. -/
abbrev STATE_REQUEST : Nat := 0x2
/-- 3b00:03 (R36), U8 RO. -/
abbrev ARM_STATUS : Nat := 0x3
/-- 3b00:04 (R36), U16 RO. -/
abbrev SITE_EPOCH : Nat := 0x4
/-- 3b00:05 (R36), U32 RO. -/
abbrev STALE_COUNT : Nat := 0x5
/-- 3b00:06 (R36), U8 RO. -/
abbrev CURRENT_SITE : Nat := 0x6
/-- 3b01:01–04 (R36), U8 RWL. -/
abbrev QUAD_RETIRE_STATE : Nat := 0x101
/-- 3b01:05 (R36), U8 RO. -/
abbrev QUADS_RETIRED : Nat := 0x105
/-- 3b01:06 (R36), U32 RO. -/
abbrev QUAD_SITE : Nat := 0x106
/-- 3b02:01 (R36), U8 RO. -/
abbrev COMMIT_STATUS : Nat := 0x201
/-- 3b02:02 (R36), U8 RO. -/
abbrev COMMIT_REASON : Nat := 0x202
/-- 3b02:03 (R36), U16 RO. -/
abbrev COMMIT_TAG : Nat := 0x203
/-- 3b03:01 (R83), U32 RO. -/
abbrev SEQ_FLAGS : Nat := 0x301
/-- 3b03:02 (R83), U16 RO. -/
abbrev CURRENT_ENTRY : Nat := 0x302
/-- 3b03:03 (R83), U32 RO. -/
abbrev CURRENT_PASS : Nat := 0x303
/-- 3b03:04 (R83), U32 RO. -/
abbrev CURRENT_GRANULE : Nat := 0x304
/-- 3b03:05 (R83), U16 RO. -/
abbrev CURRENT_TAG : Nat := 0x305
/-- 3b03:06 (R83), U64 RO. -/
abbrev VECTORS_ISSUED : Nat := 0x306
/-- 3b03:07 (R83), U16 WO. -/
abbrev JUMP_REQUEST : Nat := 0x307
/-- 3b03:08 (R83), U16 RO. -/
abbrev DEFERRED_ENTRY : Nat := 0x308
/-- 3b03:09 (R83), U32 RO. -/
abbrev DEFERRED_PASS : Nat := 0x309
/-- 3b03:0A (R83), U32 RO. -/
abbrev JUMP_DROP_COUNT : Nat := 0x30A
/-- 3b03:0B (R83), U32 RWL. -/
abbrev COND_JUMP : Nat := 0x30B
/-- 3b03:0C (R83), U32 RWL. -/
abbrev RIDGE_JUMP : Nat := 0x30C
/-- 3b03:0D (R83), BOOL RWL. -/
abbrev ABORT_ON_UNDERRUN : Nat := 0x30D
/-- 3b03:0E (R83), U16 RO. -/
abbrev RETURN_ENTRY : Nat := 0x30E
/-- 3b04:01 (R83), U32 RO. -/
abbrev UNDERRUN_COUNT : Nat := 0x401
/-- 3b04:02 (R83), U64 RO. -/
abbrev PAD_GRANULES : Nat := 0x402
/-- 3b04:03 (R83), DOMAIN RO. -/
abbrev UNDERRUN_LOG : Nat := 0x403
/-- 3b04:04 (R83), BOOL WO. -/
abbrev UNDERRUN_LOG_CLEAR : Nat := 0x404
/-- 3b20:01 (R83), U16 RW. -/
abbrev TABLE_INDEX : Nat := 0x2001
/-- 3b20:02 (R83), DOMAIN RWL. -/
abbrev ENTRY : Nat := 0x2002
/-- 3b20:03 (R83), DOMAIN RWL. -/
abbrev TABLE_BLOCK : Nat := 0x2003
/-- 3b20:04 (R83), U16 RWL. -/
abbrev START_ENTRY : Nat := 0x2004
/-- 3b20:05 (R83), U64 RO. -/
abbrev TABLE_DIGEST : Nat := 0x2005
/-- 3b20:06 (R83), U32 RO. -/
abbrev ENTRY_ERROR : Nat := 0x2006
/-- 3b30:01 (R83), U16 RWL. -/
abbrev ACTIVE_MASK : Nat := 0x3001
/-- 3b30:02 (R83), U8 RWL. -/
abbrev SYMBOL_BITS : Nat := 0x3002
/-- 3b30:03 (R83), U64 RWL. -/
abbrev INACTIVE_SYMBOL : Nat := 0x3003
/-- 3b30:04 (R83), U32 RO. -/
abbrev RESIDENT_BYTES : Nat := 0x3004
/-- 3b30:05 (R83), U32 RO. -/
abbrev RING_BYTES : Nat := 0x3005
/-- 3b30:06 (R83), U32 RO. -/
abbrev CONSUMPTION : Nat := 0x3006
/-- 3b30:07 (R83), U32 RO. -/
abbrev RING_COVER : Nat := 0x3007
/-- 3b30:08 (R83), U32 RO. -/
abbrev LEAD_NOW : Nat := 0x3008
/-- 3b30:09 (R83), U32 RO. -/
abbrev LEAD_MIN : Nat := 0x3009
/-- 3b30:0A (R83), U32 RO. -/
abbrev ARM_DETAIL : Nat := 0x300A
/-- 3b31:01–10 (R83), U8 RWL. -/
abbrev PAD_ACTION : Nat := 0x3101
/-- 3b32:01 (R83), U64 RWL. -/
abbrev STAGE_BASE : Nat := 0x3201
/-- 3b32:02 (R83), U32 RWL. -/
abbrev STAGE_SIZE : Nat := 0x3202
/-- 3b32:03 (R83), U64 RO. -/
abbrev STAGE_WRITE : Nat := 0x3203
/-- 3b32:04 (R83), U64 RO. -/
abbrev STAGE_READ : Nat := 0x3204
/-- 3b32:05 (R83), U16 RWL. -/
abbrev STAGE_STREAM : Nat := 0x3205
/-- 3b40:01 (R116), U16 RW. -/
abbrev CS_INDEX : Nat := 0x4001
/-- 3b40:02 (R116), DOMAIN RO. -/
abbrev CS_WORD : Nat := 0x4002
/-- 3b40:03 (R116), DOMAIN WO. -/
abbrev BANK_IMAGE : Nat := 0x4003
/-- 3b40:04 (R116), U8 RO. -/
abbrev LOAD_STATUS : Nat := 0x4004
/-- 3b40:05 (R116), U32 RO. -/
abbrev LOAD_DETAIL : Nat := 0x4005
/-- 3b40:06 (R116), U32 RO. -/
abbrev BANK_VERSION : Nat := 0x4006
/-- 3b40:07 (R116), U64 RO. -/
abbrev BANK_DIGEST : Nat := 0x4007
/-- 3b40:08 (R116), U32 RO. -/
abbrev VENDOR_VERSION : Nat := 0x4008
/-- 3b40:09 (R116), U32 RO. -/
abbrev MICRO_FLAGS : Nat := 0x4009
/-- 3b40:0A (R116), U32 RO. -/
abbrev CS_CORRECTED : Nat := 0x400A
/-- 3b40:0B (R116), U16 RO. -/
abbrev CS_ERROR_ADDR : Nat := 0x400B
/-- 3b40:0C (R116), U16 RO. -/
abbrev UPC : Nat := 0x400C
/-- 3b41:01–0F (R116), U32 RWL. -/
abbrev CUSTOM_ENTRY : Nat := 0x4101
/-- 3b41:10 (R116), U32 RWL. -/
abbrev CUSTOM_WATCHDOG : Nat := 0x4110
/-- 3b42:01–04 (R116), U32 RWL. -/
abbrev CNT_RELOAD : Nat := 0x4201
/-- 3b42:05–08 (R116), U32 RO. -/
abbrev CNT_VALUE : Nat := 0x4205
/-- 3b42:09 (R116), U32 RW. -/
abbrev USER_FLAGS : Nat := 0x4209
/-- 3b43:01–10 (R116), U64 RWL. -/
abbrev MATCH_MASK : Nat := 0x4301
/-- 3b44:01–10 (R116), U32 RWL. -/
abbrev OBJ_SLOT : Nat := 0x4401
/-- 3b44:11 (R116), U32 RO. -/
abbrev OBJ_DROP_COUNT : Nat := 0x4411
/-- 3b45:01–02 (R116), U8 RWL. -/
abbrev MR_LINE : Nat := 0x4501
/-- 3b46:01–20 (R116), U16 RWL. -/
abbrev EVT_IN_MAP : Nat := 0x4601
/-- 3b60:01–40 (R145), U32 RWL. -/
abbrev PERIOD : Nat := 0x6001
/-- 3b61:01 (R145), U16 RW. -/
abbrev TSET_INDEX : Nat := 0x6101
/-- 3b61:02 (R145), DOMAIN RWL. -/
abbrev TSET_RECORD : Nat := 0x6102
/-- 3b61:03 (R145), DOMAIN RWL. -/
abbrev TSET_BLOCK : Nat := 0x6103
/-- 3b61:04 (R145), U32 RO. -/
abbrev TSET_ERROR : Nat := 0x6104
/-- 3b62:01 (R145), U8 RO. -/
abbrev CURRENT_PRD : Nat := 0x6201
/-- 3b62:02 (R145), U16 RO. -/
abbrev CURRENT_TSET : Nat := 0x6202
/-- 3b62:03 (R145), U32 RO. -/
abbrev PERIOD_RESETS : Nat := 0x6203
/-- 3b62:04 (R145), U32 RO. -/
abbrev RESIDUE_DROPPED : Nat := 0x6204
/-- 3b62:05 (R145), U32 RO. -/
abbrev TIMING_CHECK : Nat := 0x6205
/-- 3b62:06 (R145), U32 RO. -/
abbrev TIMING_CHECK_COUNT : Nat := 0x6206
/-- 3b62:07 (R145), U32 RO. -/
abbrev TIME_UNIT : Nat := 0x6207
/-- 3b63:01–04 (R145), I32 RO. -/
abbrev SP_DESKEW : Nat := 0x6301
/-- 3b80:01 (R185), U8 RO. -/
abbrev CURRENT_LVL : Nat := 0x8001
/-- 3b80:02 (R185), U8 WO. -/
abbrev LVL_SELECT : Nat := 0x8002
/-- 3b80:03 (R185), BOOL WO. -/
abbrev LOAD_REQUEST : Nat := 0x8003
/-- 3b80:04 (R185), U32 RO. -/
abbrev LOAD_COUNT : Nat := 0x8004
/-- 3b80:05 (R185), U8 RWL. -/
abbrev LOAD_RIDGE : Nat := 0x8005
/-- 3b80:06 (R185), BOOL RW. -/
abbrev COMMIT_LOAD : Nat := 0x8006
/-- 3b80:07 (R185), U8 RO. -/
abbrev CLEAR_STATE : Nat := 0x8007
/-- 3b81:01 (R185), U32 RW. -/
abbrev RB_TOL_LEVEL : Nat := 0x8101
/-- 3b81:02 (R185), U8 RW. -/
abbrev RB_TOL_GUARD : Nat := 0x8102
/-- 3b81:03 (R185), U32 RO. -/
abbrev RB_FRAMES : Nat := 0x8103
/-- 3bE1:01 (R185), U16 RWL. -/
abbrev BLANK_TIME : Nat := 0xE101
/-- 3bE1:02 (R185), U16 RWL. -/
abbrev BLANK_EDGE_MASK : Nat := 0xE102
/-- 3bE1:03 (R185), BOOL RO. -/
abbrev BLANK_ACTIVE : Nat := 0xE103
/-- 3bE1:04 (R185), U16 RWL. -/
abbrev WAKE_MASK : Nat := 0xE104
/-- 3bE1:05 (R185), BOOL RO. -/
abbrev BAY_TRIP : Nat := 0xE105
/-- 3bE1:06 (R185), U8 RO. -/
abbrev BAY_TRIP_SOURCE : Nat := 0xE106
/-- 3bA1:01 (R214), BOOL RWL. -/
abbrev STOP_ON_FAIL : Nat := 0xA101
/-- 3bA1:02 (R214), U16 RWL. -/
abbrev FAIL_MASK : Nat := 0xA102
/-- 3bA1:03 (R214), U8 RWL. -/
abbrev RETIRE_ON_FAIL : Nat := 0xA103
/-- 3bA1:04 (R214), U64 RO. -/
abbrev BAY_FAIL_VECTORS : Nat := 0xA104
/-- 3bA1:05 (R214), DOMAIN RO. -/
abbrev BAY_FIRST_FAIL : Nat := 0xA105
/-- 3bA1:06 (R214), BOOL RO. -/
abbrev STOPPED_ON_FAIL : Nat := 0xA106
/-- 3bA2:01–04 (R214), U64 RO. -/
abbrev QUAD_FAIL_VECTORS : Nat := 0xA201
/-- 3bA2:05–08 (R214), DOMAIN RO. -/
abbrev QUAD_FIRST_FAIL : Nat := 0xA205
/-- 3bA9:01 (R214), U8 RWL. -/
abbrev TRIG_SOURCE : Nat := 0xA901
/-- 3bA9:02 (R214), U32 RWL. -/
abbrev TRIG_PARAM : Nat := 0xA902
/-- 3bA9:03 (R214), U16 RWL. -/
abbrev TRIG_ENTRY : Nat := 0xA903
/-- 3bA9:04 (R214), U32 RWL. -/
abbrev TRIG_PASS : Nat := 0xA904
/-- 3bA9:05 (R214), U32 RWL. -/
abbrev TRIG_ROW : Nat := 0xA905
/-- 3bA9:06 (R214), U64 RWL. -/
abbrev TRIG_FAIL_COUNT : Nat := 0xA906
/-- 3bA9:07 (R214), BOOL WO. -/
abbrev TRIG_FORCE : Nat := 0xA907
/-- 3bA9:08 (R214), BOOL WO. -/
abbrev TRIG_REARM : Nat := 0xA908
/-- 3bA9:09 (R214), U8 RO. -/
abbrev TRIG_STATE : Nat := 0xA909
/-- 3bA9:0A (R214), U64 RO. -/
abbrev TRIG_CYCLE : Nat := 0xA90A
/-- 3bA9:0B (R214), U32 RO. -/
abbrev TRIG_OFFSET : Nat := 0xA90B
/-- 3bA9:0C (R214), U64 RO. -/
abbrev TRIG_TIME : Nat := 0xA90C
/-- 3bA9:0D (R214), U32 RO. -/
abbrev TRIG_IGNORED : Nat := 0xA90D
/-- 3bAA:01 (R214), U32 RO. -/
abbrev CAP_ARM_DETAIL : Nat := 0xAA01
/-- 3bAA:02 (R214), U32 RO. -/
abbrev HBM_RATE : Nat := 0xAA02
/-- 3bAA:03 (R214), U32 RO. -/
abbrev SRAM_RATE : Nat := 0xAA03
/-- 3bAA:04 (R214), DOMAIN RO. -/
abbrev MARK_LOG : Nat := 0xAA04
/-- 3bAA:05 (R214), U64 RO. -/
abbrev CYCLE_COUNT : Nat := 0xAA05
/-- 3bA7:11–12 (R215), U8 RWL. -/
abbrev ROUTE_CHANNEL : Nat := 0xA711
/-- 3bA7:13 (R215), U8 RWL. -/
abbrev SCOPE_INTERVAL : Nat := 0xA713
/-- 3bA7:14 (R215), U16 RWL. -/
abbrev SCOPE_PHASE : Nat := 0xA714
/-- 3bC1:01 (R235), U8 RWL. -/
abbrev TMU_MODE : Nat := 0xC101
/-- 3bC1:02 (R235), BOOL RWL. -/
abbrev SIGNED : Nat := 0xC102
/-- 3bC1:03 (R235), U32 RWL. -/
abbrev TIMEOUT : Nat := 0xC103
/-- 3bC1:04 (R235), U32 RWL. -/
abbrev GATE : Nat := 0xC104
/-- 3bC1:05 (R235), U16 RWL. -/
abbrev REPEAT : Nat := 0xC105
/-- 3bC1:06 (R235), U16 RWL. -/
abbrev HITS : Nat := 0xC106
/-- 3bC1:07 (R235), BOOL WO. -/
abbrev ARM_REQUEST : Nat := 0xC107
/-- 3bC1:08 (R235), BOOL WO. -/
abbrev DISARM_REQUEST : Nat := 0xC108
/-- 3bC2:01–02 (R235), U16 RWL. -/
abbrev ROUTE_SOURCE : Nat := 0xC201
/-- 3bC2:03–04 (R235), U8 RWL. -/
abbrev ROUTE_EDGE : Nat := 0xC203
/-- 3bC3:01 (R235), U8 RO. -/
abbrev TMU_STATE : Nat := 0xC301
/-- 3bC3:02 (R235), U16 RO. -/
abbrev RESULT_COUNT : Nat := 0xC302
/-- 3bC3:03 (R235), DOMAIN RO. -/
abbrev RESULT : Nat := 0xC303
/-- 3bC3:04 (R235), DOMAIN RO. -/
abbrev RESULT_BLOCK : Nat := 0xC304
/-- 3bC3:05 (R235), DOMAIN RO. -/
abbrev LAST_RESULT : Nat := 0xC305
/-- 3bC3:06 (R235), F64 RO. -/
abbrev FREQ_HZ : Nat := 0xC306
/-- 3bC3:07 (R235), U32 RO. -/
abbrev LOST_HITS : Nat := 0xC307
/-- 3bC3:08 (R235), U32 RO. -/
abbrev DISCARDED_STOPS : Nat := 0xC308
/-- 3bC3:09 (R235), U32 RO. -/
abbrev EARLY_HITS : Nat := 0xC309
/-- 3bC3:0A (R235), U32 RO. -/
abbrev TIMEOUTS : Nat := 0xC30A
/-- 3bC3:0B (R235), U32 RO. -/
abbrev LSB_FS : Nat := 0xC30B
/-- 3bC3:0C (R235), U32 RO. -/
abbrev CAL_FAILS : Nat := 0xC30C
/-- 3bC3:0D (R235), U32 RO. -/
abbrev ARM_REFUSED : Nat := 0xC30D
/-- 3bC3:0E (R235), BOOL WO. -/
abbrev FIFO_CLEAR : Nat := 0xC30E
/-- 3bC4:01 (R235), BOOL RO. -/
abbrev WARM_STATE : Nat := 0xC401
/-- 3bC4:02 (R235), U32 RO. -/
abbrev INL_RESIDUAL : Nat := 0xC402
/-- 3b33:01 (R400), DOMAIN WO. -/
abbrev PKG_IMAGE : Nat := 0x3301
/-- 3b33:02 (R400), U16 RWL. -/
abbrev PKG_STREAM : Nat := 0x3302
/-- 3b33:03 (R400), BOOL WO. -/
abbrev PKG_START : Nat := 0x3303
/-- 3b33:04 (R400), U64 RWL. -/
abbrev PKG_BASE : Nat := 0x3304
/-- 3b33:05 (R400), U8 RO. -/
abbrev PKG_STATUS : Nat := 0x3305
/-- 3b33:06 (R400), U32 RO. -/
abbrev PKG_DETAIL : Nat := 0x3306
/-- 3b33:07 (R400), DOMAIN RO. -/
abbrev PKG_ID : Nat := 0x3307
/-- 3b33:08 (R400), U32 RO. -/
abbrev PKG_VERSION : Nat := 0x3308
/-- 30E0:01 (R46), U32 RW. -/
abbrev CLAIM_BLANK_TIMER : Nat := 0xE001
/-- 30C0:01 (R46), U32 RW. -/
abbrev CLAIM_PROBE_ROUTE : Nat := 0xC001
/-- 30A0:01 (R46), U32 RW. -/
abbrev CLAIM_CAPTURE_PARTITION : Nat := 0xA001
/-- 30E0:02 (R46), U32 RW. -/
abbrev CLAIM_SPARE_PATH : Nat := 0xE002
end RBay

namespace RChan
/-- ch + 20:01–10 (R147), U8 RWL. -/
abbrev ALPHA_PAGE0 : Nat := 0x2001
/-- ch + 21:01–10 (R147), U8 RWL. -/
abbrev ALPHA_PAGE1 : Nat := 0x2101
/-- ch + 22:01–10 (R147), U8 RWL. -/
abbrev ALPHA_PAGE2 : Nat := 0x2201
/-- ch + 23:01–10 (R147), U8 RWL. -/
abbrev ALPHA_PAGE3 : Nat := 0x2301
/-- ch + 24:01 (R147), U8 RO. -/
abbrev FORMAT_FLAGS : Nat := 0x2401
/-- ch + 24:02 (R147), U32 RO. -/
abbrev DRV_SUPPRESS_COUNT : Nat := 0x2402
/-- ch + 24:03 (R147), U32 RO. -/
abbrev DEN_SUPPRESS_COUNT : Nat := 0x2403
/-- ch + 24:04 (R147), U32 RO. -/
abbrev LATE_COUNT : Nat := 0x2404
/-- ch + 24:05 (R147), U32 RO. -/
abbrev STROBE_SUPPRESS_COUNT : Nat := 0x2405
/-- ch + 24:06 (R147), U16 RWL. -/
abbrev DRV_MIN_PULSE : Nat := 0x2406
/-- ch + 24:07 (R147), I32 RWL. -/
abbrev FIXTURE_OFFSET : Nat := 0x2407
/-- ch + 25:01–04 (R147), I32 RO. -/
abbrev DESKEW : Nat := 0x2501
/-- ch + 00:01 (R186), U8 RWL. -/
abbrev OFF_MODE : Nat := 0x1
/-- ch + 00:02 (R186), BOOL RWL. -/
abbrev LOAD_EN : Nat := 0x2
/-- ch + 00:03 (R186), U16 RWL. -/
abbrev IOL : Nat := 0x3
/-- ch + 00:04 (R186), U16 RWL. -/
abbrev IOH : Nat := 0x4
/-- ch + 00:05 (R186), U16 RO. -/
abbrev INHIBIT_CAUSE : Nat := 0x5
/-- ch + 00:06 (R186), U8 RO. -/
abbrev SELECTOR : Nat := 0x6
/-- ch + 01 to ch + 10:01–08 (R186), U32 RWL. -/
abbrev LEVEL_SET : Nat := 0x101
/-- ch + 01 to ch + 10:09 (R186), DOMAIN RWL. -/
abbrev SET_BLOCK : Nat := 0x109
/-- ch + 11:01–08 (R186), U32 RWS. -/
abbrev CLEAR_CODE : Nat := 0x1101
/-- ch + 11:09–10 (R186), U32 RO. -/
abbrev OUTPUT_CODE : Nat := 0x1109
/-- ch + 11:11–18 (R186), U32 RO. -/
abbrev SHADOW_CODE : Nat := 0x1111
/-- ch + 12:01 (R186), U16 RW. -/
abbrev VG_HI : Nat := 0x1201
/-- ch + 12:02 (R186), U16 RW. -/
abbrev VG_LO : Nat := 0x1202
/-- ch + 12:03 (R186), U8 RW. -/
abbrev HYST : Nat := 0x1203
/-- ch + 12:04 (R186), U8 RWL. -/
abbrev SCOPE_HI : Nat := 0x1204
/-- ch + 12:05 (R186), U8 RWL. -/
abbrev SCOPE_LO : Nat := 0x1205
/-- ch + 12:06 (R186), U16 RO. -/
abbrev GUARD_STATE : Nat := 0x1206
/-- ch + 12:07 (R186), BOOL WO. -/
abbrev TRIP_CLEAR : Nat := 0x1207
/-- ch + 12:08 (R186), U32 RO. -/
abbrev TRIP_COUNT : Nat := 0x1208
/-- ch + 13:01 (R186), U8 RW. -/
abbrev PMU_MODE : Nat := 0x1301
/-- ch + 13:02 (R186), U8 RW. -/
abbrev PMU_RANGE : Nat := 0x1302
/-- ch + 13:03 (R186), U32 RW. -/
abbrev PMU_FORCE : Nat := 0x1303
/-- ch + 13:04 (R186), U16 RW. -/
abbrev MEAS_COUNT : Nat := 0x1304
/-- ch + 13:05 (R186), U32 RW. -/
abbrev MEAS_DELAY : Nat := 0x1305
/-- ch + 13:06 (R186), BOOL WO. -/
abbrev MEAS_START : Nat := 0x1306
/-- ch + 13:07 (R186), U8 RO. -/
abbrev MEAS_STATUS : Nat := 0x1307
/-- ch + 13:08 (R186), F64 RO. -/
abbrev MEAS_RESULT : Nat := 0x1308
/-- ch + 13:09 (R186), U8 RO. -/
abbrev PMU_FLAGS : Nat := 0x1309
/-- ch + 14:01 (R186), U16 RO. -/
abbrev RB_MISMATCH : Nat := 0x1401
/-- ch + 14:02 (R186), I32 RO. -/
abbrev RB_LAST_ERROR : Nat := 0x1402
/-- ch + 26:01 (R216), U32 RO. -/
abbrev STROBE_FAIL_COUNT : Nat := 0x2601
/-- ch + 27:01–04 (R419), I16 RO. -/
abbrev RESID_TIMING : Nat := 0x2701
/-- ch + 27:05–08 (R419), U8 RO. -/
abbrev TRIM : Nat := 0x2705
/-- ch + 27:09–0C (R419), I16 RO. -/
abbrev TAPS : Nat := 0x2709
/-- ch + 27:0D (R419), U8 RO. -/
abbrev PATH_STATUS : Nat := 0x270D
/-- ch + 27:0E (R419), U64 RO. -/
abbrev LAST_ASSAY : Nat := 0x270E
/-- ch + 27:0F–16 (R419), I32 RO. -/
abbrev RESID_LEVEL : Nat := 0x270F
/-- ch + 27:17–18 (R419), I32 RO. -/
abbrev RESID_GUARD : Nat := 0x2717
/-- ch + 27:19–1A (R419), I32 RO. -/
abbrev RESID_LOAD : Nat := 0x2719
end RChan

namespace RCap
/-- (3bA3+m):01 (R215), BOOL RWL. -/
abbrev ENABLE : Nat := 0x1
/-- (3bA3+m):02 (R215), U8 RWL. -/
abbrev DEST : Nat := 0x2
/-- (3bA3+m):03 (R215), U8 RWL. -/
abbrev PARTITIONS : Nat := 0x3
/-- (3bA3+m):04 (R215), U64 RWL. -/
abbrev HBM_BASE : Nat := 0x4
/-- (3bA3+m):05 (R215), U32 RWL. -/
abbrev HBM_FRAMES : Nat := 0x5
/-- (3bA3+m):06 (R215), U16 RWL. -/
abbrev CHANNEL_MASK : Nat := 0x6
/-- (3bA3+m):07 (R215), U8 RWL. -/
abbrev START : Nat := 0x7
/-- (3bA3+m):08 (R215), U32 RWL. -/
abbrev PRE : Nat := 0x8
/-- (3bA3+m):09 (R215), U32 RWL. -/
abbrev POST : Nat := 0x9
/-- (3bA3+m):0A (R215), U64 RO. -/
abbrev WRITE_FRAME : Nat := 0xA
/-- (3bA3+m):0B (R215), U64 RW. -/
abbrev CONSUMED_FRAME : Nat := 0xB
/-- (3bA3+m):0C (R215), U8 RO. -/
abbrev STREAM_STATUS : Nat := 0xC
/-- (3bA3+m):0D (R215), U32 RO. -/
abbrev OVERRUN_FRAMES : Nat := 0xD
/-- (3bA3+m):0E (R215), U32 RO. -/
abbrev LOST_FRAMES : Nat := 0xE
/-- (3bA3+m):0F (R215), I64 RO. -/
abbrev OLDEST : Nat := 0xF
/-- (3bA3+m):10 (R215), U32 RO. -/
abbrev RATE : Nat := 0x10
end RCap

namespace RKernel
/-- (8000+k):01 (R267), DOMAIN RO. -/
abbrev KERNEL_DESCRIPTOR : Nat := 0x1
end RKernel

namespace RGraph
/-- 8gg0:01 (R267), U8 RO. -/
abbrev GRAPH_STATE : Nat := 0x1
/-- 8gg0:02 (R267), U16 RO. -/
abbrev GRAPH_EPOCH : Nat := 0x2
/-- 8gg0:03 (R267), U16 RWL. -/
abbrev BENCH_MASK : Nat := 0x3
/-- 8gg0:04 (R267), U8 RWL. -/
abbrev HOME_BENCH : Nat := 0x4
/-- 8gg0:05 (R267), U8 RWL. -/
abbrev SITE : Nat := 0x5
/-- 8gg0:06 (R267), U16 RO. -/
abbrev SITE_EPOCH : Nat := 0x6
/-- 8gg0:07 (R267), DOMAIN RWL. -/
abbrev NODE_TABLE : Nat := 0x7
/-- 8gg0:08 (R267), DOMAIN RWL. -/
abbrev EDGE_TABLE : Nat := 0x8
/-- 8gg0:09 (R267), DOMAIN RWL. -/
abbrev BINDINGS : Nat := 0x9
/-- 8gg0:0A (R267), DOMAIN RWL. -/
abbrev PARAMS : Nat := 0xA
/-- 8gg0:0B (R267), U64 RWL. -/
abbrev POOL_BASE : Nat := 0xB
/-- 8gg0:0C (R267), U32 RWL. -/
abbrev POOL_SIZE : Nat := 0xC
/-- 8gg0:0D (R267), DOMAIN WO. -/
abbrev POST : Nat := 0xD
/-- 8gg0:0E (R267), U16 WO. -/
abbrev STOP_REQUEST : Nat := 0xE
/-- 8gg0:0F (R267), U16 WO. -/
abbrev START_REQUEST : Nat := 0xF
/-- 8gg0:10 (R267), U64 RO. -/
abbrev FIRINGS : Nat := 0x10
/-- 8gg0:11 (R267), U32 RO. -/
abbrev ERRORS : Nat := 0x11
/-- 8gg0:12 (R267), U32 RO. -/
abbrev LAST_ERROR : Nat := 0x12
/-- 8gg0:13 (R267), U32 RO. -/
abbrev DISCARDED_OPERANDS : Nat := 0x13
/-- 8gg0:14 (R267), U32 RO. -/
abbrev STALE_COUNT : Nat := 0x14
/-- 8gg0:15 (R267), U32 RO. -/
abbrev POOL_FREE : Nat := 0x15
/-- 8gg0:16 (R267), U32 RO. -/
abbrev POOL_WAITS : Nat := 0x16
/-- 8gg0:17 (R267), U32 RO. -/
abbrev DEADLOCK_CLEARED : Nat := 0x17
/-- 8gg1:01–FF (R267), U32 RO. -/
abbrev NODE_STATUS : Nat := 0x101
end RGraph

namespace RBench
/-- (8600+n):01 (R267), U8 RO. -/
abbrev BENCH_STATE : Nat := 0x1
/-- (8600+n):02 (R267), U8 WO. -/
abbrev BENCH_REQUEST : Nat := 0x2
/-- (8600+n):03 (R267), U8 RW. -/
abbrev BENCH_IMAGE : Nat := 0x3
/-- (8600+n):04 (R267), U32 RO. -/
abbrev BENCH_CATALOGUE : Nat := 0x4
/-- (8600+n):05 (R267), U16 RO. -/
abbrev CORES_IN_SERVICE : Nat := 0x5
/-- (8600+n):06 (R267), U16 RO. -/
abbrev READY_DEPTH : Nat := 0x6
/-- (8600+n):07 (R267), U32 RO. -/
abbrev NODE_EXCLUDED : Nat := 0x7
end RBench

namespace RStack
/-- (9008+s):01 (R292), I16 RO. -/
abbrev STACK_TEMP : Nat := 0x1
/-- (9008+s):02 (R292), BOOL RO. -/
abbrev HOT : Nat := 0x2
/-- (9008+s):03 (R292), U32 RO. -/
abbrev CATCHUPS : Nat := 0x3
/-- (9008+s):04 (R292), U32 RO. -/
abbrev CATCHUP_MAX_NS : Nat := 0x4
end RStack

namespace RPc
/-- (9010+pc):01 (R292), U8 RO. -/
abbrev PC_STATE : Nat := 0x1
/-- (9010+pc):02 (R292), U8 RO. -/
abbrev SCHED_MODE : Nat := 0x2
/-- (9010+pc):03 (R292), U32 RO. -/
abbrev CE_COUNT : Nat := 0x3
/-- (9010+pc):04 (R292), U32 RO. -/
abbrev UE_COUNT : Nat := 0x4
/-- (9010+pc):05 (R292), U64 RO. -/
abbrev LAST_ERROR_ADDR : Nat := 0x5
/-- (9010+pc):06 (R292), U32 RO. -/
abbrev TAG_MISMATCH : Nat := 0x6
/-- (9010+pc):07 (R292), U8 RO. -/
abbrev REFRESH_OWED : Nat := 0x7
/-- (9010+pc):08 (R292), U32 RO. -/
abbrev RECOVERY_STEPS : Nat := 0x8
/-- (9010+pc):09 (R292), BOOL WO. -/
abbrev RETRAIN_REQUEST : Nat := 0x9
end RPc

namespace REng
/-- (9100+e):01 (R310), U8 RO. -/
abbrev ACTIVE_CHANNEL : Nat := 0x1
/-- (9100+e):02 (R310), U64 RO. -/
abbrev BYTES_MOVED : Nat := 0x2
/-- (9100+e):03 (R310), U32 RO. -/
abbrev HALTS : Nat := 0x3
/-- (9100+e):04 (R310), U32 RW. -/
abbrev PORT_WAIT : Nat := 0x4
/-- (9100+e):11–1F (R310), U32 RW. -/
abbrev PORT_MAP : Nat := 0x11
end REng

namespace RDma
/-- (9110+8e+k):01 (R310), U8 RO. -/
abbrev CHAN_STATE : Nat := 0x1
/-- (9110+8e+k):02 (R310), U8 WO. -/
abbrev CHAN_CTRL : Nat := 0x2
/-- (9110+8e+k):03 (R310), BOOL RW. -/
abbrev PAUSE : Nat := 0x3
/-- (9110+8e+k):04 (R310), U64 RWL. -/
abbrev CHAIN_HEAD : Nat := 0x4
/-- (9110+8e+k):05 (R310), U32 RWL. -/
abbrev HOP_LIMIT : Nat := 0x5
/-- (9110+8e+k):06 (R310), U32 RWL. -/
abbrev WAIT_LIMIT : Nat := 0x6
/-- (9110+8e+k):07 (R310), U8 RO. -/
abbrev ERROR : Nat := 0x7
/-- (9110+8e+k):08 (R310), U64 RO. -/
abbrev ERROR_ADDR : Nat := 0x8
/-- (9110+8e+k):09 (R310), U64 RO. -/
abbrev CUR_DESC : Nat := 0x9
/-- (9110+8e+k):0A (R310), U64 RO. -/
abbrev CUR_SRC : Nat := 0xA
/-- (9110+8e+k):0B (R310), U64 RO. -/
abbrev CUR_DST : Nat := 0xB
/-- (9110+8e+k):0C (R310), U64 RO. -/
abbrev CUR_INDEX : Nat := 0xC
/-- (9110+8e+k):0D (R310), U32 RO. -/
abbrev HOPS : Nat := 0xD
/-- (9110+8e+k):0E (R310), U64 RO. -/
abbrev DESC_DONE : Nat := 0xE
/-- (9110+8e+k):0F (R310), U64 RO. -/
abbrev BYTES_DONE : Nat := 0xF
/-- (9110+8e+k):10 (R310), BOOL RO. -/
abbrev REVERSED : Nat := 0x10
end RDma

namespace RLane
/-- (A010+l):01 (R333), U8 RO. -/
abbrev LANE_STATE : Nat := 0x1
/-- (A010+l):02 (R333), BOOL RW. -/
abbrev ENABLE : Nat := 0x2
/-- (A010+l):03 (R333), U8 RW. -/
abbrev LANE_RATE : Nat := 0x3
/-- (A010+l):04 (R333), U8 RW. -/
abbrev TX_PRESET : Nat := 0x4
/-- (A010+l):05 (R333), U8 RO. -/
abbrev FOM : Nat := 0x5
/-- (A010+l):06 (R333), U8 RW. -/
abbrev FOM_FLOOR : Nat := 0x6
/-- (A010+l):07 (R333), U8 RW. -/
abbrev FOM_MIN : Nat := 0x7
/-- (A010+l):08 (R333), U8 RO. -/
abbrev ADAPT_STATE : Nat := 0x8
/-- (A010+l):09 (R333), U16 RO. -/
abbrev LANE_FLAGS : Nat := 0x9
/-- (A010+l):0A (R333), U8 RO. -/
abbrev RETRAIN_REASON : Nat := 0xA
/-- (A010+l):0B (R333), U32 RO. -/
abbrev RETRAIN_COUNT : Nat := 0xB
/-- (A010+l):0C (R333), BOOL WO. -/
abbrev RETRAIN_REQUEST : Nat := 0xC
/-- (A010+l):0D (R333), U32 RO. -/
abbrev INVALID_HEADERS : Nat := 0xD
/-- (A010+l):0E (R333), U32 RO. -/
abbrev BAD_BLOCKS : Nat := 0xE
/-- (A010+l):0F (R333), U8 RO. -/
abbrev CTLE : Nat := 0xF
/-- (A010+l):10 (R333), DOMAIN RO. -/
abbrev DFE : Nat := 0x10
/-- (A010+l):11 (R333), DOMAIN RO. -/
abbrev TRAINED_SET : Nat := 0x11
/-- (A010+l):12 (R333), U8 RO. -/
abbrev LINK : Nat := 0x12
/-- (A010+l):13 (R333), U8 RO. -/
abbrev LOGICAL_LANE : Nat := 0x13
/-- (A010+l):14 (R333), U8 RO. -/
abbrev PARTNER_LOGICAL : Nat := 0x14
end RLane

namespace RLink
/-- (A110+k):01 (R333), U8 RO. -/
abbrev LINK_STATE : Nat := 0x1
/-- (A110+k):02 (R333), U32 RWL. -/
abbrev LINK_LANES : Nat := 0x2
/-- (A110+k):03 (R333), U16 RWL. -/
abbrev LINK_ID : Nat := 0x3
/-- (A110+k):04 (R333), U8 RWL. -/
abbrev VERSION_MAX : Nat := 0x4
/-- (A110+k):05 (R333), U8 RO. -/
abbrev VERSION : Nat := 0x5
/-- (A110+k):06 (R333), U8 RO. -/
abbrev WIDTH : Nat := 0x6
/-- (A110+k):07 (R333), U8 RW. -/
abbrev MIN_WIDTH : Nat := 0x7
/-- (A110+k):08 (R333), U16 RO. -/
abbrev PARTNER_ID : Nat := 0x8
/-- (A110+k):09 (R333), U32 RO. -/
abbrev PAYLOAD_RATE : Nat := 0x9
/-- (A110+k):0A (R333), U8 WO. -/
abbrev LINK_CTRL : Nat := 0xA
/-- (A110+k):0B (R333), U32 RO. -/
abbrev CRC_ERRORS : Nat := 0xB
/-- (A110+k):0C (R333), U32 RO. -/
abbrev REPLAYS : Nat := 0xC
/-- (A110+k):0D (R333), U16 RW. -/
abbrev REPLAY_TIMEOUT : Nat := 0xD
/-- (A110+k):0E (R333), U32 RO. -/
abbrev WIDTH_CHANGES : Nat := 0xE
end RLink

namespace RStream
/-- (A140+s):01 (R333), U8 RWL. -/
abbrev STREAM_LINK : Nat := 0x1
/-- (A140+s):02 (R333), U16 RWL. -/
abbrev REMOTE_STREAM : Nat := 0x2
/-- (A140+s):03 (R333), U8 RWL. -/
abbrev DIRECTION : Nat := 0x3
/-- (A140+s):04 (R333), U8 RWL. -/
abbrev DEST : Nat := 0x4
/-- (A140+s):05 (R333), U64 RWL. -/
abbrev RING_BASE : Nat := 0x5
/-- (A140+s):06 (R333), U32 RWL. -/
abbrev RING_SIZE : Nat := 0x6
/-- (A140+s):07 (R333), BOOL RWL. -/
abbrev PROTECT : Nat := 0x7
/-- (A140+s):08 (R333), U8 RO. -/
abbrev STREAM_STATE : Nat := 0x8
/-- (A140+s):09 (R333), U8 WO. -/
abbrev STREAM_CTRL : Nat := 0x9
/-- (A140+s):0A (R333), U64 RO. -/
abbrev BYTES : Nat := 0xA
/-- (A140+s):0B (R333), U64 RO. -/
abbrev CREDIT : Nat := 0xB
/-- (A140+s):0C (R333), U64 RO. -/
abbrev RING_WRITE : Nat := 0xC
/-- (A140+s):0D (R333), U64 RW. -/
abbrev RING_CONSUMED : Nat := 0xD
end RStream

namespace RPort
/-- (A210+p):01 (R349), U8 RW. -/
abbrev PORT_MODE : Nat := 0x1
/-- (A210+p):02 (R349), BOOL RO. -/
abbrev PORT_LINK : Nat := 0x2
/-- (A210+p):03 (R349), U16 RW. -/
abbrev MTU : Nat := 0x3
/-- (A210+p):04 (R349), U16 RW. -/
abbrev VLAN : Nat := 0x4
/-- (A210+p):05 (R349), U32 RWS. -/
abbrev IPV4_ADDR : Nat := 0x5
/-- (A210+p):06 (R349), DOMAIN RWS. -/
abbrev IPV6_ADDR : Nat := 0x6
/-- (A210+p):07 (R349), U16 RWS. -/
abbrev DOP_UDP_PORT : Nat := 0x7
/-- (A210+p):08 (R349), U32 RO. -/
abbrev RX_DISCARDS : Nat := 0x8
/-- (A210+p):09 (R349), U8 RW. -/
abbrev PTP_TRANSPORT : Nat := 0x9
/-- (A210+p):0A (R349), U8 RW. -/
abbrev PTP_DELAY : Nat := 0xA
/-- (A210+p):0B (R349), BOOL RW. -/
abbrev ONE_STEP : Nat := 0xB
/-- (A210+p):0C (R349), I16 RWS. -/
abbrev ING_ASYM : Nat := 0xC
/-- (A210+p):0D (R349), I16 RWS. -/
abbrev EGR_ASYM : Nat := 0xD
/-- (A210+p):0E (R349), DOMAIN RO. -/
abbrev TSQ_ENTRY : Nat := 0xE
/-- (A210+p):0F (R349), U8 RO. -/
abbrev TSQ_COUNT : Nat := 0xF
/-- (A210+p):10 (R349), U32 RO. -/
abbrev TSQ_OVERFLOW : Nat := 0x10
end RPort

namespace RTpg
/-- (A320+n):01 (R349), BOOL RW. -/
abbrev ENABLE : Nat := 0x1
/-- (A320+n):02 (R349), U64 RWL. -/
abbrev START : Nat := 0x2
/-- (A320+n):03 (R349), U64 RWL. -/
abbrev PERIOD : Nat := 0x3
/-- (A320+n):04 (R349), U64 RWL. -/
abbrev WIDTH : Nat := 0x4
/-- (A320+n):05 (R349), BOOL RWL. -/
abbrev POLARITY : Nat := 0x5
/-- (A320+n):06 (R349), U8 RWL. -/
abbrev TRIG_OUT : Nat := 0x6
/-- (A320+n):07 (R349), U32 RWL. -/
abbrev RIDGE_OUT : Nat := 0x7
/-- (A320+n):08 (R349), U16 RWL. -/
abbrev BAY_OUT : Nat := 0x8
/-- (A320+n):09 (R349), U64 RO. -/
abbrev FIRINGS : Nat := 0x9
/-- (A320+n):0A (R349), BOOL RO. -/
abbrev LATE : Nat := 0xA
/-- (A320+n):0B (R349), U32 RO. -/
abbrev SKIPPED : Nat := 0xB
end RTpg

namespace RAssay
/-- (B810+b):01 (R419), BOOL RW. -/
abbrev ROLL_ENABLE : Nat := 0x1
/-- (B810+b):02 (R419), U8 RO. -/
abbrev ROLL_STATE : Nat := 0x2
/-- (B810+b):03 (R419), BOOL RW. -/
abbrev ROLL_PAUSE : Nat := 0x3
/-- (B810+b):04 (R419), U8 RO. -/
abbrev ROLL_PATH : Nat := 0x4
/-- (B810+b):05 (R419), U32 RO. -/
abbrev ROUNDS : Nat := 0x5
/-- (B810+b):06 (R419), U32 RO. -/
abbrev HANDOVER_TIMEOUTS : Nat := 0x6
/-- (B810+b):07 (R419), U32 RO. -/
abbrev STEP_ABORTS : Nat := 0x7
/-- (B810+b):08 (R419), BOOL WO. -/
abbrev BAY_ASSAY_REQUEST : Nat := 0x8
/-- (B810+b):09 (R419), U8 RO. -/
abbrev BAY_ASSAY_STATUS : Nat := 0x9
/-- (B810+b):0A (R419), I16 RO. -/
abbrev ASSAY_TEMP : Nat := 0xA
/-- (B810+b):0B (R419), BOOL RO. -/
abbrev WINDOW_STATE : Nat := 0xB
/-- (B810+b):0C (R419), U8 RW. -/
abbrev MANUAL_TARGET : Nat := 0xC
/-- (B810+b):0D (R419), I16 RO. -/
abbrev WORST_RESIDUAL : Nat := 0xD
/-- (B810+b):0E (R419), U64 RO. -/
abbrev LAST_ROUND : Nat := 0xE
end RAssay

namespace RSrc
/-- (C400+n):01 (R439), U64 RO. -/
abbrev COUNT : Nat := 0x1
/-- (C400+n):02 (R439), U64 RO. -/
abbrev LAST_TIME : Nat := 0x2
/-- (C400+n):03 (R439), U32 RO. -/
abbrev LAST_DETAIL : Nat := 0x3
/-- (C400+n):04 (R439), BOOL RW. -/
abbrev LOG : Nat := 0x4
end RSrc

end Sys2Proof.Machine
end

