-- ==== Sys2Proof/Machine/Bits.lean ====
section
/-! DEFINITION. Bit fields, sign, rounding and byte order: the helpers every chapter's layouts are read with (R352). -/

namespace Sys2Proof.Machine

/-- Field of `w` bits at bit `lo` of a value. -/
def fieldOf (v lo w : Nat) : Nat := (v >>> lo) % 2 ^ w

/-- A value with bit `i` set. -/
def orBit (v i : Nat) : Nat := v ||| (1 <<< i)

/-- A value with bit `i` clear. -/
def clrBit (v i : Nat) : Nat := if v.testBit i then v - 1 <<< i else v

/-- A value with bit `i` made `on`. -/
def putBit (v i : Nat) (on : Bool) : Nat := if on then orBit v i else clrBit v i

/-- The number of bits set among the lowest `n` bits. -/
def popCount (v : Nat) : Nat → Nat
  | 0 => 0
  | n + 1 => popCount v n + (if v.testBit n then 1 else 0)

/-- The lowest bit set among the lowest `n` bits. -/
def lowestBit (v n : Nat) : Option Nat := (List.range n).find? (fun i => v.testBit i)

/-- The signed value of a two's complement word of `w` bits (R352). -/
def toSigned (w v : Nat) : Int := if v.testBit (w - 1) then (v : Int) - 2 ^ w else (v : Int)

/-- The two's complement word of `w` bits of a signed value (R352). -/
def ofSigned (w : Nat) (i : Int) : Nat := (i % (2 ^ w : Int)).toNat

/-- The value of bytes sent least significant byte first (R352). -/
def ofBytes : Bytes → Nat
  | [] => 0
  | b :: bs => b.toNat + 256 * ofBytes bs

/-- A value as `n` bytes, least significant byte first (R352). -/
def toBytes : Nat → Nat → Bytes
  | 0, _ => []
  | n + 1, v => BitVec.ofNat 8 v :: toBytes n (v / 256)

/-- A saturating sum at a width in bits: a "saturating count" stops at its highest value. -/
def satAdd (w v d : Nat) : Nat := min (v + d) (2 ^ w - 1)

/-- Quotient rounded to the nearest integer, exact halves away from zero (R117). -/
def roundDiv (n : Int) (d : Nat) : Int :=
  if n < 0 then -(((-n).toNat * 2 + d) / (2 * d) : Nat) else ((n.toNat * 2 + d) / (2 * d) : Nat)

/-- Quotient rounded up. -/
def ceilDiv (n d : Nat) : Nat := (n + d - 1) / d

/-- Bytes `off` to `off + len - 1` of a string of bytes. -/
def slice (bs : Bytes) (off len : Nat) : Bytes := (bs.drop off).take len

/-- A string of bytes cut into chunks of `n` bytes; the fuel bounds the number of chunks. -/
def chunks (n : Nat) : Nat → Bytes → List Bytes
  | 0, _ => []
  | f + 1, bs => if bs.isEmpty then [] else bs.take n :: chunks n f (bs.drop n)

/-- The last `n` elements of a list: a log that keeps its most recent records. -/
def lastN {α : Type} (n : Nat) (l : List α) : List α := l.drop (l.length - n)

/-- The first element that satisfies the test, with the list that is left without it. -/
def takeFirst {α : Type} (p : α → Bool) : List α → Option (α × List α)
  | [] => none
  | x :: xs => if p x then some (x, xs) else (takeFirst p xs).map (fun r => (r.1, x :: r.2))

end Sys2Proof.Machine
end

