-- ==== Sys2Proof/Machine/Store.lean ====
section
/-! DEFINITION. Sparse stores: tables by number, and the byte memory in its one canonical form. -/

namespace Sys2Proof.Machine

/-- A table by number: the entries that differ from the store's default, by rising key. -/
abbrev Tab (α : Type) := List (Nat × α)

/-- The entry of a table at a key, or the default. -/
def Tab.get {α : Type} : Tab α → Nat → α → α
  | [], _, d => d
  | (k', v) :: t, k, d => if k = k' then v else Tab.get t k d

/-- A table with the entry at a key written. -/
def Tab.set {α : Type} : Tab α → Nat → α → Tab α
  | [], k, v => [(k, v)]
  | (k', v') :: t, k, v =>
    if k < k' then (k, v) :: (k', v') :: t
    else if k = k' then (k, v) :: t
    else (k', v') :: Tab.set t k v

/-- A table without the entries whose key satisfies the test. -/
def Tab.without {α : Type} (t : Tab α) (p : Nat → Bool) : Tab α := t.filter (fun e => !p e.1)

/-- The data space of the two HBM stacks, tags and check bits apart, in bytes (R268, 9000:01). -/
def dataSpace : Nat := 41231679488

/-- What a byte of memory that nothing has written reads as.
DESIGN CHOICE (log 4): the spec gives the HBM no contents after power-on. -/
def memDefault : Byte := 0

/-- The byte of memory at an address. -/
def memGet : List Host.Cell → Nat → Byte
  | [], _ => memDefault
  | (a', v) :: m, a => if a = a' then v else memGet m a

/-- Memory with the byte at an address written, in the canonical form: addresses rise, and no entry equals what an
unlisted address reads as. -/
def memSet : List Host.Cell → Nat → Byte → List Host.Cell
  | [], a, v => if v = memDefault then [] else [(a, v)]
  | (a', v') :: m, a, v =>
    if a < a' then (if v = memDefault then (a', v') :: m else (a, v) :: (a', v') :: m)
    else if a = a' then (if v = memDefault then m else (a, v) :: m)
    else (a', v') :: memSet m a v

/-- The bytes of memory from an address. -/
def memRead (m : List Host.Cell) (a : Nat) : Nat → Bytes
  | 0 => []
  | n + 1 => memGet m a :: memRead m (a + 1) n

/-- Memory with bytes written from an address. -/
def memWrite (m : List Host.Cell) (a : Nat) : Bytes → List Host.Cell
  | [] => m
  | b :: bs => memWrite (memSet m a b) (a + 1) bs

/-- Addresses rise strictly from a lower bound and no entry holds the default byte. -/
def Memory.wfFrom : Nat → List Host.Cell → Bool
  | _, [] => true
  | lo, (a, v) :: m => decide (lo ≤ a) && decide (v ≠ memDefault) && Memory.wfFrom (a + 1) m

/-- The canonical form of a memory. -/
def Memory.wf (m : List Host.Cell) : Bool := Memory.wfFrom 0 m

end Sys2Proof.Machine
end

