-- ==== Sys2Proof/Machine/State.lean ====
section
/-! DEFINITION. The state of the module, as plain data, its faults and refusals, and the state after reset.

Every scalar object of the dictionary lives in `objs`, under its address (index times 256 plus subindex), and reads
as its table's default until it is written; objects that are DOMAIN or STR values kept as bytes live in `doms`.  The
other fields hold what the spec gives the machine and no scalar object shows. -/

namespace Sys2Proof.Machine

/-- What the last answered command returned: its DOP status (R371), detail word (R365), body, and the MORE and
IN_PROGRESS flags (R361). -/
structure Reply where
  status : Nat := 0
  detail : Nat := 0
  body   : Bytes := []
  more   : Bool := false
  busy   : Bool := false
  deriving DecidableEq, Repr

/-- Why a command ends without a next state.  No command of the module stops it: the spec gives each one an effect
(an error is a status, a flag, a fault message or SAFE_HOLD). -/
inductive Fault where
  /-- Raised by no command; kept because the interface asks for a type of faults.  Safe. -/
  | none
  deriving DecidableEq, Repr

/-- Why a command has no meaning here. -/
inductive Refusal where
  /-- A command the model does not give a meaning yet; raised by its arm of `exec`.  Safe. -/
  | notModelled (mnemonic : String)
  deriving DecidableEq, Repr

/-! ### Bays -/

/-- What is known of one issued vector (R188, R193): its cycle count, the last pattern row issued at or before it, its
kind (0 pattern row, 1 HOLD or MUTE, 2 pad), its start in tu since RUN, its period, and the match mask set it is
compared under. -/
structure VInfo where
  cycle   : Nat := 0
  entry   : Nat := 0
  pass    : Nat := 0
  granule : Nat := 0
  row     : Nat := 0
  sofd    : Bool := false
  kind    : Nat := 0
  start   : Int := 0
  period  : Nat := 0
  matchOf : Option Nat := none
  deriving DecidableEq, Repr

/-- A drive edge that has been issued and has not reached the land: its land time in tu, its vector, its number D0 to
D5, its time relative to the vector in land-free terms, and what it does to DRV and DEN (R129, R132). -/
structure DriveEdge where
  at_   : Int
  base  : Int
  vec   : Nat
  num   : Nat
  drv   : Option Bool
  den   : Option Bool
  issue : Nat
  deriving DecidableEq, Repr

/-- A strobe that has been issued and has not reached the land: its land time, its time without the fixture offset, its
number S0 to S3, its slot (0 A, 1 B), its slot's action and its vector (R130). -/
structure Strobe where
  at_    : Int
  base   : Int
  num    : Nat
  slot   : Nat
  action : Nat
  v      : VInfo
  deriving DecidableEq, Repr

/-- The commitment of what follows a pass, fixed at its decision boundary (R60). -/
inductive Follow where
  | again
  | enter (entry : Nat)
  | jump (entry : Nat)
  | call (entry : Nat)
  | ret
  | endPattern
  deriving DecidableEq, Repr

/-- A jump request: its rank (3 microword, 2 COND_JUMP, 1 RIDGE_JUMP, 0 host) and its target (R62). -/
structure JumpReq where
  rank   : Nat
  target : Nat
  late   : Bool := false
  deriving DecidableEq, Repr

/-- A granule's place in execution order (R70): entry, pass from 1, granule of the pass, and which visit of the run to an entry
it belongs to, counted from 1. -/
structure GranPos where
  entry : Nat
  pass  : Nat
  gran  : Nat
  visit : Nat
  deriving DecidableEq, Repr

/-- A granule held in the loft's prefetch ring: its place, its rows, and whether an uncorrectable error replaced it. -/
structure RingGran where
  pos  : GranPos
  rows : List Nat
  bad  : Bool
  deriving DecidableEq, Repr

/-- An underrun in progress (R77, R82): the fields of its log record. -/
structure Underrun where
  pos    : GranPos
  cause  : Nat
  pad    : Nat
  cnt    : List Nat
  vector : Nat
  time   : Nat
  deriving DecidableEq, Repr

/-- What was compared and captured in one issued vector (R187, R197 to R199): fail bits at 4c + k, CMPH at each
channel's last strobe, the slots with CAPTURE at 2c + slot with the comparator state they recorded, CMPH and CMPL (R130),
the slots that have one, and those with a CAPTURE strobe that was late or suppressed (R134); `rows` counts the pattern rows
issued before it, and `retired` are the quads that were retired. -/
structure VRec where
  v       : VInfo := {}
  fails   : Nat := 0
  level   : Nat := 0
  capSlot : Nat := 0
  capData : Nat := 0
  capLow  : Nat := 0
  capGot  : Nat := 0
  capBad  : Nat := 0
  rows    : Nat := 0
  retired : Nat := 0
  deriving DecidableEq, Repr

/-- A match vector (R99): its cycle count, the strobes its mask set selects, those that did not pass and those still to
come. -/
structure MatchVec where
  cycle : Nat
  set   : Nat
  bad   : Nat
  pend  : Nat
  deriving DecidableEq, Repr

/-- What a strobe's result is to the conditions (R102): a compare's fail or pass, a match compare's, or what CAPTURE read. -/
inductive CmpWhat where
  | compare (fail : Bool)
  | match_ (fail : Bool)
  | data (high low : Bool)
  deriving DecidableEq, Repr

/-- A strobe's result on its way to the condition registers: the cycle at whose end it is registered (R17: the fourth from the
strobe's), its bay channel, its strobe, and its vector's cycle count. -/
structure CmpRes where
  due   : Nat
  chan  : Fin 16
  num   : Nat
  cycle : Nat
  what  : CmpWhat
  deriving DecidableEq, Repr

/-- A first-fail record in the making (R188). -/
structure FirstFail where
  v       : VInfo := {}
  quads   : Nat := 0
  chans   : Nat := 0
  strobes : Nat := 0
  time    : Nat := 0
  deriving DecidableEq, Repr

/-- A capture frame that is open or waits to be closed (R192, R193): its first vector's cycle count (of SCOPE its first sample's
number), where it ends once that is known, what its header says of segment, window, gap, overrun and marks, and whether the bay's
leaving RUN makes it its window's last. -/
structure CapFrame where
  firstC   : Nat := 0
  hi       : Option Nat := none
  segStart : Bool := false
  segEnd   : Bool := false
  last     : Bool := false
  trigIn   : Bool := false
  merged   : Bool := false
  overrun  : Bool := false
  seg      : Nat := 0
  marks    : Nat := 0
  markVal  : Nat := 0
  markCyc  : Nat := 0
  deriving DecidableEq, Repr

/-- A capture stream's state (R192 to R213): whether a segment and whether a window runs, its frames, oldest first, the numbers of
its next frame and segment, when its last segment and its window opened, the marks that wait for a frame, and what the last close
and the last open left.  Of a window: whether its trigger has fired and at which vector and offset, where unit 0 is to begin
in a segment to come, the units closed so far and those before unit 0, and each kept frame's number, first unit and whether it was written.  Of
SCOPE: its samples from the oldest frame on, and how many instants there have been. -/
structure CapStream where
  on       : Bool := false
  win      : Bool := false
  frames   : List CapFrame := []
  seq      : Nat := 0
  segs     : Nat := 0
  segAt    : Option Nat := none
  winAt    : Nat := 0
  lostPrev : Bool := false
  overSeq  : Bool := false
  closed   : Nat := 0
  waits    : Nat := 0
  waitVal  : Nat := 0
  waitCyc  : Nat := 0
  fired    : Bool := false
  fireNext : Option Nat := none
  trigC    : Nat := 0
  trigO    : Nat := 0
  units    : Nat := 0
  pre      : Option Nat := none
  firsts   : List (Nat × Nat × Bool) := []
  samples  : List Nat := []
  sampled  : Nat := 0
  deriving DecidableEq, Repr

/-- A trigger instant on its way to recognition (R201): the vector it fell in, the tu since that vector's start, and its time since
the bay entered ARMED, in ps times the BCLK in MHz. -/
structure TrigHit where
  cycle  : Nat
  offset : Nat
  x      : Int
  deriving DecidableEq, Repr

/-- A bay's reference channel (R160): its shadow and output codes, when and at which slot count each was last changed, and its
readback history (R177, R178). -/
structure RefChan where
  shadow : List Nat := [65536, 65536, 65536, 65536, 65536, 222822, 39322, 65536]
  out    : List Nat := [65536, 65536, 65536, 65536, 65536, 222822, 39322, 65536]
  cmdAt  : Vector (Option (Nat × Nat)) 8 := Vector.replicate 8 none
  bad    : Vector Nat 8 := Vector.replicate 8 0
  good   : Vector Nat 8 := Vector.replicate 8 0
  mis    : Nat := 0
  deriving DecidableEq, Repr

/-- The TMU's configuration as an arming latches it: a later change applies from the next arming (R235). -/
structure TmuCfg where
  mode   : Nat := 0
  timeout : Nat := 1000
  edge0  : Nat := 0
  edge1  : Nat := 0
  src0   : Nat := 0xFFFF
  src1   : Nat := 0xFFFF
  signed : Bool := true
  gate   : Nat := 1000
  repeat_ : Nat := 1
  hits   : Nat := 256
  deriving DecidableEq, Repr

/-- A bay's TMU (R217 to R234): the latched configuration, the calibration, the hits taken on each route as coarse count
and femtoseconds within it, the last hit registered on each route, the counts of the measurement and of its
repetitions, and the FIFO; when its PLL locked, from which its coarse counter runs, when its timeout or its gate ends, and the TCLK
cycles in which it was last armed and disarmed. -/
structure Tmu where
  cfg      : TmuCfg := {}
  w        : Nat := 3925
  n0       : Nat := 0
  corr     : Option Nat := none
  hit0     : Option (Nat × Int) := none
  hit1     : Option (Nat × Int) := none
  seen     : Vector (Option (Nat × Int)) 2 := Vector.replicate 2 none
  lost     : Nat := 0
  edges    : Nat := 0
  records  : Nat := 0
  gateOver : Bool := false
  repeats  : Nat := 0
  between  : Bool := false
  warm     : Bool := false
  fifo     : List Bytes := []
  last     : Bytes := []
  assay    : Bool := false
  assayWarm : Bool := false
  lockAt   : Nat := 0
  due      : Option Nat := none
  armCyc   : Option Nat := none
  disCyc   : Option Nat := none
  deriving DecidableEq, Repr

/-- Rolling assay of a bay (R405 to R411): the path whose step is next or running, the channel the spare path stands in
for, the granule boundaries since it began to shadow, whether the vendor microprogram has marked the next boundary and the
present one, whether a word forbids a hand-over, when the next step starts and when its round did, when HANDOVER_WAIT began,
a path's values before its measurement and the residuals found, a hand-back of MANUAL_TARGET with the channel that follows,
and the changes not committed with the time of the last TIMING commit. -/
structure Roll where
  path     : Nat := 0
  target   : Option (Fin 16) := none
  shadowed : Nat := 0
  permit   : Bool := false
  atPoint  : Bool := false
  inhibit  : Bool := false
  due      : Nat := 0
  roundAt  : Nat := 0
  since    : Nat := 0
  old      : List Nat := []
  resid    : List Int := []
  back     : Bool := false
  after    : Option (Fin 16) := none
  dirty    : Bool := false
  lastLed  : Nat := 0
  deriving DecidableEq, Repr

/-- A package load in progress (R389): the package's bytes so far, and the RX stream they come from. -/
structure PkgLoad where
  data   : Bytes := []
  stream : Option Nat := none
  blocks : List Nat := []
  deriving DecidableEq, Repr

/-- Everything a bay holds that no scalar object shows.  Of the word that executes, `wordCyc` counts the cycles that have ended,
`acted` its one-shot fields and `cycActed` its counter operations of the present cycle (R91); `conds` holds the conditions as
registered at the ends of the last cycles, newest first (R89), and `softWords` the words whose stored copy awaits its scrub
(R87). -/
structure BayU where
  -- clocks (R12, R13)
  mhz       : Nat := 1000
  fine      : Bool := false
  relock    : Option Nat := none
  -- state requests in progress (R34)
  arming    : Nat := 0
  holding   : Option Nat := none
  stopReq   : Bool := false
  pauseReq  : Bool := false
  resumeReq : Bool := false
  ending    : Bool := false
  retiring  : List (Nat × Nat) := []
  -- vector issue (R57, R120)
  cyc       : Nat := 0
  nextStart : Int := 0
  runTime   : Nat := 0
  lastPrd   : Option Nat := none
  lastEnd   : Int := 0
  lastRow   : Option Nat := none
  lastInfo  : VInfo := {}
  frozen    : Option Nat := none
  rows      : List Nat := []
  cycRows   : Nat := 0
  cycDone   : Bool := false
  matchOn   : Option Nat := none
  prdSel    : Option Nat := none
  dispatched : Bool := false
  -- the pass (R58 to R66)
  rowNext   : Nat := 0
  granRows  : Nat := 0
  granOpen  : Bool := false
  granBad   : Bool := false
  padGran   : Bool := false
  decided   : Option Follow := none
  rewound   : Bool := false
  jump      : Option JumpReq := none
  usable    : List JumpReq := []
  visit     : Nat := 0
  -- the loft (R70 to R77): the resident area as it was loaded, with the keys and placement bases it was decrypted under
  snapshot  : List Host.Cell := []
  loftKeys  : Tab (BitVec 512) := []
  loftBases : Tab Nat := []
  fetch     : Option GranPos := none
  fetchSeen : List Nat := []
  ring      : List RingGran := []
  under     : Option Underrun := none
  underLog  : List Bytes := []
  patShare  : Bool := false
  capShare  : Bool := false
  locks     : List (Nat × Nat) := []
  -- microcode (R88 to R110)
  cust      : Bool := false
  ustack    : List Nat := []
  acted     : Nat := 0
  wordCyc   : Nat := 0
  cycActed  : Nat := 0
  conds     : List Nat := []
  cmpQ      : List CmpRes := []
  softWords : List Nat := []
  extra     : Option (Nat × Ecc) := none
  badWords  : List Nat := []
  timedOut  : Bool := false
  latched   : Nat := 0
  matchVecs : List MatchVec := []
  runFailed : Bool := false
  objQueue  : List (Nat × Nat × Nat) := []
  noRow     : Nat := 0
  timer     : Option Nat := none
  -- customer bank and vendor words (R86, R112 to R115)
  bankLoad  : Option Bytes := none
  ranges    : List (Nat × Nat) := []
  reload    : Bool := false
  pkg       : Option PkgLoad := none
  badBlocks : List Nat := []
  -- fail tracking (R187 to R190)
  vrecs     : List VRec := []
  firstFail : Option FirstFail := none
  quadFirst : Vector (Option FirstFail) 4 := Vector.replicate 4 none
  bayVec    : Option Nat := none
  quadVec   : Vector (Option Nat) 4 := Vector.replicate 4 none
  bayCmp    : Option (Nat × Bool) := none
  quadCmp   : Vector (Option (Nat × Bool)) 4 := Vector.replicate 4 none
  quadFailed : Nat := 0
  -- capture (R191 to R213)
  caps      : Vector CapStream 5 := Vector.replicate 5 {}
  marks     : List (Nat × Nat) := []
  cycFirst  : Nat := 0
  armedAt   : Nat := 0
  trigAt    : Option Nat := none
  hits      : List TrigHit := []
  countHit  : Option TrigHit := none
  rowNextHit : Nat := 0
  -- the TMU (R217)
  tmu       : Tmu := {}
  -- rolling assay (R405)
  roll      : Roll := {}
  loadCyc   : Option (Bool × Nat) := none
  -- the reference channel on the pin die (R160)
  ref       : RefChan := {}
  arms      : Nat := 0
  evtSeen   : Tab Nat := []
  deriving DecidableEq, Repr

/-! ### Channels and pin dies -/

/-- Everything a channel holds that no scalar object shows: the timing path's lines and pending edges, the last
comparisons, the comparators as last seen, the side of the hysteresis band that its edge detector was last on (R202) and the
readback history.  Of a measurement it holds when and at which slot count its
delay began, the delay, the samples in all and those to come, their sum, and whether a clamp acted (R183). -/
structure ChanU where
  edges      : List DriveEdge := []
  strobes    : List Strobe := []
  drv        : Bool := false
  den        : Bool := false
  retireTo   : Option Nat := none
  lastDrv    : Option Int := none
  lastDen    : Option Int := none
  lastStrobe : Option Int := none
  cmpVec     : Option (Nat × Bool) := none
  data       : Bool := false
  dataLow    : Bool := false
  side       : Option Bool := none
  minPulse   : Nat := 400
  rbBad      : Vector Nat 10 := Vector.replicate 10 0
  rbGood     : Vector Nat 10 := Vector.replicate 10 0
  cmdAt      : Vector (Option (Nat × Nat)) 10 := Vector.replicate 10 none
  own        : Nat := 3
  forced     : Nat := 0
  unver      : Nat := 0
  latchBay   : Nat := 0
  report     : Nat := 0
  withheld   : Nat := 0
  measAt     : Nat × Nat := (0, 0)
  measWait   : Nat := 0
  measTotal  : Nat := 0
  measLeft   : Nat := 0
  measSum    : Int := 0
  clampHit   : Bool := false
  deriving DecidableEq, Repr

/-- What a pin die holds: who asserts its clear input (bit 0 keeper, 1 external, 2 supply; the keeper holds it from
power-up, R166), its temperature in 0.25 °C as last read, the slot and self-check history of its eight converters, and the
clear codes of its reference channels, which are the reset clear codes (R156). The temperature at reset is DESIGN CHOICE
(log 9). -/
structure DieU where
  clear    : Nat := 1
  slotsRun : Vector Nat 8 := Vector.replicate 8 0
  temp     : Int := 100
  convBad  : Vector Nat 8 := Vector.replicate 8 0
  convGood : Vector Nat 8 := Vector.replicate 8 0
  convFail : Nat := 0
  slotBad  : Nat := 0
  refCodes : List Nat := [65536, 65536, 65536, 65536, 65536, 222822, 39322, 65536]
  deriving DecidableEq, Repr

/-! ### Result benches and graphs (R236 to R265) -/

/-- A firing that is complete (R248): its operands as port, VALUE and whether that is a buffer reference; the pool bytes
reserved for it, and whether its wait for the pool has been counted. -/
structure Work where
  graph  : Nat
  node   : Nat
  seq    : Nat
  ops    : List (Nat × Nat × Bool)
  res    : Nat := 0
  limit  : Nat := 0
  waited : Bool := false
  no     : Nat := 0
  deriving DecidableEq, Repr

/-- A result core (R236): its running item and when that exceeds WORK_LIMIT, its local queue, and the requests of its item that
wait for the bench's object queue with the end they lead to (R257).  Its 128 KiB of local SRAM are
the bytes of `mem` in its window (R273). -/
structure Core where
  running : Option Work := none
  due     : Nat := 0
  queue   : List Work := []
  left    : Option (List ObjReq × WorkResult) := none
  deriving DecidableEq, Repr

/-- A request waiting in a bench's object queue, with the node and SEQ it came from and the site epoch its graph held then
(R257, R259). -/
structure BenchReq where
  graph : Nat
  node  : Nat
  seq   : Nat
  req   : ObjReq
  epoch : Nat
  deriving DecidableEq, Repr

/-- A bench (R236): its ready queue, its cores and its object queue. -/
structure BenchU where
  ready : List Work := []
  cores : Vector Core 16 := Vector.replicate 16 {}
  reqs  : List BenchReq := []
  deriving DecidableEq, Repr

/-- What a delay-list entry does when it expires (R252): a token, a read with the node that asked for it, or a TIMER
binding's expiry. -/
inductive DelayAct where
  | post (t : Token)
  | read (src : Nat) (t : Token) (k : Nat) (gate : Option (Nat × Nat)) (tries : Nat)
  | timer (graph binding period : Nat)
  deriving DecidableEq, Repr

/-- An entry of a delay list: the absolute time it expires, whether its post has been back-pressured, and its place in the order
the entries were entered (R251, R253). -/
structure DelayEntry where
  due  : Nat
  act  : DelayAct
  held : Bool := false
  no   : Nat := 0
  deriving DecidableEq, Repr

/-- A source binding's progress (R247): the source's count or frame at its last post, its posts, and the arming they
count from. -/
structure BindU where
  seen  : Nat := 0
  posts : Nat := 0
  arm   : Nat := 0
  deriving DecidableEq, Repr

/-- A host post that waits in the command path: its token, the graph epoch it carried, when it is refused, and the session whose
WRITE it stands in (R254, R260). -/
structure HostPost where
  tok   : Token
  epoch : Nat
  due   : Nat
  sid   : Option Nat
  deriving DecidableEq, Repr

/-- A buffer in a graph's pool (R240): its size in bytes and how many copies of its reference are not consumed. -/
structure PoolBuf where
  graph : Nat
  addr  : Nat
  size  : Nat
  refs  : Nat
  deriving DecidableEq, Repr

/-! ### Lanes, links and streams (R311 to R332) -/

/-- What a lane holds beside its objects: READY and the windows in a row at FOM_MIN (R315), since when FOM is below
FOM_FLOOR (R318), the CAPS block received three times and the blocks sent since (R320), the partner's rate notice, and a
committed rate held to the end of its window (R319). -/
structure LaneU where
  ready    : Bool := false
  windows  : Nat := 0
  inWindow : Bool := false
  lowSince : Option Nat := none
  caps     : Option Nat := none
  capsSent : Nat := 0
  notice   : Bool := false
  rateNew  : Option Nat := none
  deriving DecidableEq, Repr

/-- A frame in a link's replay buffer (R327). -/
structure SentFrame where
  seq     : Nat
  stream  : Nat
  payload : Bytes
  mark    : Bool
  eom     : Bool
  deriving DecidableEq, Repr

/-- What a link holds beside its objects: the lanes it stripes over, those to add at the next marker, when the first
became ACTIVE, its sequence numbers, its replay buffer with the replays of the oldest frame, the NAK last sent with its
time, and the partner's GCM (R320 to R328). -/
structure LinkU where
  lanes   : List Nat := []
  adds    : List Nat := []
  firstAt : Option Nat := none
  txSeq   : Nat := 0
  rxSeq   : Nat := 0
  replay  : List SentFrame := []
  tries   : Nat := 0
  nak     : Option (Nat × Nat) := none
  gcm     : Bool := false
  deriving DecidableEq, Repr

/-- What a stream holds beside its objects: its queue, its last marker and message end, its key, and the protected
frames it has sent (R329, R332, R393). -/
structure StreamU where
  queue  : Bytes := []
  marker : Option Nat := none
  eom    : Bool := false
  key    : Option (BitVec 256) := none
  sent   : Nat := 0
  deriving DecidableEq, Repr

/-! ### DMA channels (R293 to R310) -/

/-- What a program channel waits for (R304): an event source with its COUNT as the wait began, or a word of memory. -/
inductive DmaWait where
  | event (n seen : Nat)
  | word (addr value : Nat)
  deriving DecidableEq, Repr

/-- What a DMA channel holds beside its objects: the descriptor it runs, the bytes of it that have moved in move order, the
completions since START, since when a port holds it, and a program's place, counters and wait. -/
structure DmaU where
  desc    : Option Nat := none
  fetch   : Bool := false
  pos     : Nat := 0
  done    : Nat := 0
  since   : Option Nat := none
  pc      : Nat := 0
  counts  : Vector Nat 4 := Vector.replicate 4 0
  wait    : Option DmaWait := none
  waitDue : Nat := 0
  ended   : Bool := false
  deriving DecidableEq, Repr

/-- The DOP EVENT buffer of a control port (R370): the session that holds DATA_SUBSCRIBE, the next EVENT_SEQ, the bytes not
yet sent, and the data events not acknowledged. -/
structure DataPort where
  sub     : Option Nat := none
  seq     : Nat := 0
  buf     : Bytes := []
  unacked : List (Nat × Bytes) := []
  deriving DecidableEq, Repr

/-! ### The memory's queues (R268, R279) -/

/-- A transaction in a pseudo-channel's queues: its class, and when it was accepted. -/
structure MemTxn where
  cls : MemClass
  at_ : Nat
  deriving DecidableEq, Repr

/-- A pseudo-channel's queue set (R268, R279): its transactions, oldest first, when it last served one, from when the pattern
and the capture class have credit again, and whether its last 128 bytes carry the training reference pattern. -/
structure PcU where
  queue   : List MemTxn := []
  served  : Nat := 0
  patAt   : Nat := 0
  capAt   : Nat := 0
  trained : Bool := false
  deriving DecidableEq, Repr

/-- The queue sets of the 64 pseudo-channels, and the requests that wait for a slot, oldest first (R279). -/
structure HbmQ where
  pcs   : Vector PcU 64 := Vector.replicate 64 {}
  waits : List Instr := []
  deriving DecidableEq, Repr

/-! ### Control ports and time-pulse generators (R342 to R348) -/

/-- A control port: its transmit timestamp queue, the last ingress timestamp, and the last originTimestamp it wrote as
seconds, nanoseconds and correction in 2^-16 ns (R342 to R345). -/
structure NetPort where
  queue : List Bytes := []
  rx    : Option Nat := none
  sync  : Option (Nat × Nat × Nat) := none
  deriving DecidableEq, Repr

/-- A TPG: the grid point it fires at next, and its pulse: the network time it ends at, and the TRIG lands and ridge lines it
is on (R346). -/
structure TpgU where
  next  : Option Nat := none
  pulse : Option (Nat × Nat × Nat) := none
  deriving DecidableEq, Repr

/-! ### Faults, events and claims -/

/-- A fault message on its way to the collector (R420). -/
structure FaultMsg where
  unit     : Nat
  kind     : Nat
  severity : Nat
  inject   : Bool
  epoch    : Nat
  address  : Nat
  suppress : Bool := false
  slot     : Option Nat := none
  deriving DecidableEq, Repr

/-- A record of the fault log (R424). -/
structure FaultRec where
  msg         : FaultMsg
  time        : Nat
  seq         : Nat
  repeats     : Nat
  step        : Nat
  handled     : Bool
  expired     : Bool
  timeFree    : Bool
  unconfirmed : Bool
  skipped     : Bool
  lastTime    : Nat
  opened      : Nat
  deriving DecidableEq, Repr

/-- A running grace timer (R427): its record's message, which names the key, its record, when it expires, its policy entry and
the highest step it has come to. -/
structure GraceTimer where
  msg     : FaultMsg
  seq     : Nat
  due     : Nat
  policy  : Nat
  tried   : Nat := 0
  deriving DecidableEq, Repr

/-- A step token sent to a bay island and not yet confirmed (R429). -/
structure StepToken where
  seq : Nat
  due : Nat
  deriving DecidableEq, Repr

/-- An injection slot (R430). -/
structure InjSlot where
  seq  : Nat := 0
  time : Nat := 0
  step : Nat := 0
  deriving DecidableEq, Repr

/-- One occurrence in the event log (R438). -/
structure EventRec where
  source : Nat
  time   : Nat
  detail : Nat
  deriving DecidableEq, Repr

/-- A claim of an exclusive resource: the owner's unit ID and feature code (R46). -/
structure Claim where
  owner   : Nat
  feature : Nat
  deriving DecidableEq, Repr

/-! ### The commit engine -/

/-- One staged item: where it goes and its value; for timing sets the set it names (R119). -/
structure Staged where
  index : Nat
  sub   : Nat
  value : Bytes
  at_   : Nat := 0
  deriving DecidableEq, Repr

/-- The outstanding commit (R40 to R45): its tag, its units in list order with their epochs, the report of each unit
that has reported (status, reason), when its window ends, and who asked. -/
structure CommitRun where
  tag     : Nat
  units   : List (Nat × Nat)
  reports : List (Nat × Nat × Nat)
  due     : Nat
  session : Option Nat
  deriving DecidableEq, Repr

/-! ### Sessions (R358 to R369) -/

/-- A record of a session's event queue (R369): its source, its merged occurrences, the first one's time and detail, and
when EVENT_HOLD ends for it. -/
structure EventNote where
  source : Nat
  count  : Nat
  time   : Nat
  detail : Nat
  until_ : Nat
  deriving DecidableEq, Repr

/-- A block write in progress (R368): its object, its epoch, its length, the fragments so far, and when it is abandoned. -/
structure BlockBuf where
  addr  : ObjAddr
  epoch : Nat
  total : Nat
  frags : List (Nat × Bytes)
  due   : Nat
  deriving DecidableEq, Repr

/-- An open session (R358 to R369): its port and role, the public key of a self-signed certificate, the HELLO's protocol
and view, its notification objects, the event queue, the replies kept with their request IDs, the request that still runs,
the requests that wait for it, and when it goes idle; `held` is the item of a WRITE whose POST waits for the scheduler, with the
items after it (R254). -/
structure Session where
  port    : Nat
  role    : Nat
  ownKey  : Option Bytes := none
  hello   : Bool := false
  proto   : Nat := 0x20
  view    : Nat := 0x31
  mask    : Nat := 0
  hold    : Nat := 1000
  lost    : Nat := 0
  lostNew : Nat := 0
  seq     : Nat := 0
  queue   : List EventNote := []
  idle    : Nat := 60
  last    : Nat := 0
  replies : List (Nat × Reply) := []
  running : Option Nat := none
  waits   : List Instr := []
  block   : Option BlockBuf := none
  held    : Option (Nat × List WItem × Sample) := none
  deriving DecidableEq, Repr

/-! ### The Touchmark unit and the keeper -/

/-- A boot flash slot (R385): its image's release and ROLLBACK_INDEX, and whether a programming was cut short in it. -/
structure FwSlot where
  release  : Nat := 0
  rollback : Nat := 0
  cut      : Bool := false
  deriving DecidableEq, Repr

/-! ### The whole module -/

/-- The state of the module.

`now` is absolute time in ps: 250 ps pass while the module idles (log 2), and a time-out or expiry moves it to the time it
was due (log 6).  `fresh` counts the free values taken so far and is the model's own (log 3); `pending` holds the commands
that wait, first in, first out. -/
structure State where
  now       : Nat := 0
  fresh     : Nat := 0
  pending   : List Instr := []
  reply     : Reply := {}
  objs      : Tab Nat := []
  doms      : Tab Bytes := []
  shingles  : Tab (BitVec 256) := []
  bank      : Tab (BitVec 160) := []
  tsets     : Tab (BitVec 320) := []
  mem       : List Host.Cell := []
  tags      : Tab Nat := []
  claims    : Tab Claim := []
  ridge     : Nat := 0
  ridgeDrv  : Nat := 0
  ridgeWay  : List (Nat × Bool) := []
  purlin    : Tab Nat := []
  keys      : Tab (BitVec 512) := []
  dropped   : Tab Nat := []
  bays      : Vector BayU 16 := Vector.replicate 16 {}
  chans     : Vector ChanU 256 := Vector.replicate 256 {}
  dies      : Vector DieU 4 := Vector.replicate 4 {}
  ports     : Tab (List FaultMsg) := []
  portLost  : Tab Nat := []
  fatal     : List FaultMsg := []
  log       : List FaultRec := []
  timers    : List GraceTimer := []
  tokens    : List StepToken := []
  injSlots  : Vector InjSlot 16 := Vector.replicate 16 {}
  injNext   : Nat := 0
  events    : List EventRec := []
  shadows   : Tab (List Staged) := []
  commit    : Option CommitRun := none
  counterOn : Option Nat := none
  holdupOk  : Bool := false
  copies    : Tab (Nat × Nat) := []
  benches   : Vector BenchU 12 := Vector.replicate 12 {}
  store     : List Token := []
  waiting   : List Work := []
  blocked   : List (Nat × Token) := []
  delays    : Vector (List DelayEntry) 4 := Vector.replicate 4 []
  hostPosts : List HostPost := []
  postEnds  : List (Nat × Nat × Nat) := []
  binds     : Tab BindU := []
  bufs      : List PoolBuf := []
  inst      : Tab Bytes := []
  lastCore  : Tab Nat := []
  drains    : Tab Nat := []
  dmaPosts  : Tab Nat := []
  lastFired : Nat := 0
  fireNo    : Nat := 0
  delayNo   : Nat := 0
  oldTick   : Nat × Nat := (0, 0)
  ceSince   : Tab (Nat × Nat) := []
  recovery  : Tab (Nat × Nat) := []
  catchAt   : Tab Nat := []
  scrubbed  : Nat := 0
  hbmQ      : HbmQ := {}
  coreOut   : Bool := true
  lanes     : Vector LaneU 32 := Vector.replicate 32 {}
  links     : Vector LinkU 16 := Vector.replicate 16 {}
  streams   : Vector StreamU 64 := Vector.replicate 64 {}
  dmas      : Vector DmaU 32 := Vector.replicate 32 {}
  dmaLast   : Tab Nat := []
  dataPorts : Vector DataPort 2 := Vector.replicate 2 {}
  tmPort    : Bytes := []
  nets      : Vector NetPort 2 := Vector.replicate 2 {}
  syncOk    : Nat := 0
  tpgs      : Vector TpgU 8 := Vector.replicate 8 {}
  trigOut   : Nat := 0
  sessions  : Vector (Option Session) 16 := Vector.replicate 16 none
  mgmtLast  : Nat := 0
  tmTest    : Nat := 0
  nonces    : Nat := 0
  tmKey     : Bool := false
  tmFirst   : Bool := false
  tmRetry   : Option Nat := none
  groupKey  : Option (BitVec 256) := none
  fwSlots   : Vector FwSlot 2 := Vector.replicate 2 {}
  fwLoad    : Option (Nat × Nat × Nat) := none
  fwRollback : Nat := 0
  keeperAt  : Nat := 0
  keeperOff : Bool := false
  aliveHigh : Bool := false
  aliveFreq : Nat := 1000
  aliveAt   : Nat := 0
  watchdog  : Option Nat := none
  wdArmed   : Bool := false
  keeperRef : Option Nat := none
  ledger    : Tab Nat := []
  ledgerOld : Tab Nat := []
  ledgerDoms : Tab Bytes := []
  ledgerCorr : Tab Nat := []
  vauxAt    : Nat := 0
  tap       : JtagInstr := .idcode
  ledgerQ   : List (Nat × Nat) := []
  ledgerHeld : List (Nat × Nat) := []
  ledgerDue : Option Nat := none
  assayed   : Nat := 0
  temps     : Vector Int 8 := Vector.replicate 8 100
  beat      : Bool := false
  archived  : Nat := 0
  archRetry : Option Nat := none
  resetDue  : Option Nat := none
  startRef  : Nat := 0
  checking  : Bool := false
  checkDue  : Option Nat := none
  recheck   : Option Nat := none
  switchTo  : Nat := 0
  deriving DecidableEq, Repr

/-- The module right after its power-on reset: KEEPER_ONLY, start-up step 1, every object at its default, nothing
waiting, memory with nothing listed (R443, R451). Values the spec
does not give are DESIGN CHOICE (logs 4, 7, 8, 9 and 10). -/
def State.reset : State := {}

end Sys2Proof.Machine
end

