-- ==== Sys2Proof/Machine/Ops.lean ====
section
/-! DEFINITION. The named operations on the state that every family shares: objects, answers, gates of host commands,
network time, events, fault messages, inhibit causes, claims and sites. -/

namespace Sys2Proof.Machine

/-! ### Objects of the dictionary (R350) -/

/-- The key of an object: index times 256 plus subindex. -/
def key (index sub : Nat) : Nat := index * 256 + sub

/-- The value of the scalar object with a key; its table's default until it is written. -/
def State.getO (s : State) (k : Nat) : Nat := s.objs.get k (Row.default k)

/-- The state with a scalar object written. -/
def State.setO (s : State) (k v : Nat) : State := { s with objs := s.objs.set k v }

/-- The key of an object of bay `b`, at 3000 + b·100 (R351); `o` is 256 times the low index byte plus the subindex. -/
def keyB (b : Bay) (o : Nat) : Nat := (0x3000 + b.val * 0x100) * 256 + o

/-- The key of an object of channel `c`, at 4000 + c·40 (R351). -/
def keyC (c : Chan) (o : Nat) : Nat := (0x4000 + c.val * 0x40) * 256 + o

/-- An object of a bay. -/
def State.getB (s : State) (b : Bay) (o : Nat) : Nat := s.getO (keyB b o)
/-- The state with an object of a bay written. -/
def State.setB (s : State) (b : Bay) (o v : Nat) : State := s.setO (keyB b o) v
/-- An object of a channel. -/
def State.getC (s : State) (c : Chan) (o : Nat) : Nat := s.getO (keyC c o)
/-- The state with an object of a channel written. -/
def State.setC (s : State) (c : Chan) (o v : Nat) : State := s.setO (keyC c o) v

/-- The key of a site definition object, 2810 + s (R32). -/
def keySite (i : Site) (sub : Nat) : Nat := key (0x2810 + i.val) sub
/-- An object of a site. -/
def State.getS (s : State) (i : Site) (sub : Nat) : Nat := s.getO (keySite i sub)
/-- The state with an object of a site written. -/
def State.setS (s : State) (i : Site) (sub v : Nat) : State := s.setO (keySite i sub) v

/-- The key of an object of capture stream `m`, 3bA3 + m with m from 1 (R215). -/
def keyCap (b : Bay) (m : Fin 5) (sub : Nat) : Nat := keyB b ((0xA4 + m.val) * 256 + sub)

/-- One more on a saturating 32-bit count. -/
def State.incO (s : State) (k : Nat) : State := s.setO k (satAdd 32 (s.getO k) 1)
/-- One more on a saturating 32-bit count of a bay. -/
def State.incB (s : State) (b : Bay) (o : Nat) : State := s.setB b o (satAdd 32 (s.getB b o) 1)
/-- One more on a saturating 32-bit count of a channel. -/
def State.incC (s : State) (c : Chan) (o : Nat) : State := s.setC c o (satAdd 32 (s.getC c o) 1)
/-- A bay's flag word with a bit set. -/
def State.flagB (s : State) (b : Bay) (o bit : Nat) : State := s.setB b o (orBit (s.getB b o) bit)
/-- A channel's flag word with a bit set. -/
def State.flagC (s : State) (c : Chan) (o bit : Nat) : State := s.setC c o (orBit (s.getC c o) bit)

/-- A change of what a bay holds beside its objects. -/
def State.modBay (s : State) (b : Bay) (f : BayU → BayU) : State := { s with bays := s.bays.set b.val (f (s.bays.get b)) b.isLt }
/-- What a bay holds beside its objects. -/
def State.bay (s : State) (b : Bay) : BayU := s.bays.get b
/-- A change of what a channel holds beside its objects. -/
def State.modChan (s : State) (c : Chan) (f : ChanU → ChanU) : State := { s with chans := s.chans.set c.val (f (s.chans.get c)) c.isLt }
/-- What a channel holds beside its objects. -/
def State.chan (s : State) (c : Chan) : ChanU := s.chans.get c
/-- A change of what a pin die holds. -/
def State.modDie (s : State) (d : Die) (f : DieU → DieU) : State := { s with dies := s.dies.set d.val (f (s.dies.get d)) d.isLt }
/-- What a pin die holds. -/
def State.die (s : State) (d : Die) : DieU := s.dies.get d

/-- The bay of a channel (R24). -/
def bayOf (c : Chan) : Bay := ⟨c.val / 16, by omega⟩
/-- Bay channel `k` of a bay (R24). -/
def chanOf (b : Bay) (k : Fin 16) : Chan := ⟨b.val * 16 + k.val, by omega⟩
/-- The quad of a channel within its bay (R24). -/
def quadOf (c : Chan) : Nat := c.val % 16 / 4
/-- The bay channels of a bay, in order. -/
def chansOf (b : Bay) : List Chan := (List.finRange 16).map (chanOf b)
/-- The pin die of a bay (R6). -/
def dieOf (b : Bay) : Die := ⟨b.val / 4, by omega⟩
/-- The bays of a pin die (R6). -/
def baysOf (d : Die) : List Bay := (List.finRange 4).map (fun i => ⟨d.val * 4 + i.val, by omega⟩)

/-- A step taken for each element of a list in turn. -/
def State.each {α : Type} (s : State) (l : List α) (f : State → α → State) : State := l.foldl f s

/-! ### Answers (R365, R371) -/

/-- DOP status codes (R371). -/
abbrev ST.OK : Nat := 0
/-- NO_OBJECT -/
abbrev ST.NO_OBJECT : Nat := 1
/-- NO_SUBINDEX -/
abbrev ST.NO_SUBINDEX : Nat := 2
/-- ACCESS_DENIED -/
abbrev ST.ACCESS_DENIED : Nat := 3
/-- TYPE_MISMATCH -/
abbrev ST.TYPE_MISMATCH : Nat := 4
/-- OUT_OF_RANGE -/
abbrev ST.OUT_OF_RANGE : Nat := 5
/-- STATE_LOCKED -/
abbrev ST.STATE_LOCKED : Nat := 6
/-- RESOURCE_CLAIMED -/
abbrev ST.RESOURCE_CLAIMED : Nat := 7
/-- PARTIAL_COMMIT -/
abbrev ST.PARTIAL_COMMIT : Nat := 8
/-- STALE_EPOCH -/
abbrev ST.STALE_EPOCH : Nat := 9
/-- HOLDUP_LOW -/
abbrev ST.HOLDUP_LOW : Nat := 10
/-- AUTH_REQUIRED -/
abbrev ST.AUTH_REQUIRED : Nat := 11
/-- VERSION_UNSUPPORTED -/
abbrev ST.VERSION_UNSUPPORTED : Nat := 12
/-- BANDWIDTH_EXCEEDED -/
abbrev ST.BANDWIDTH_EXCEEDED : Nat := 13
/-- CRYPTO_ERROR -/
abbrev ST.CRYPTO_ERROR : Nat := 14
/-- INTERNAL_FAULT -/
abbrev ST.INTERNAL_FAULT : Nat := 15

/-- The state with a command's status as its answer. -/
def State.answer (s : State) (status : Nat) : State := { s with reply := { status := status } }
/-- The state with a status and a detail word as its answer (R365). -/
def State.answerD (s : State) (status detail : Nat) : State := { s with reply := { status := status, detail := detail } }
/-- The state with OK and a body as its answer. -/
def State.answerBody (s : State) (body : Bytes) : State := { s with reply := { status := ST.OK, body := body } }
/-- The state with OK as its answer. -/
def State.ok (s : State) : State := s.answer ST.OK

/-! ### Numbers (R352) -/

/-- A quotient of an integer by a positive number as IEEE 754 binary64, rounded to the nearest value, ties to even (R352).  The
quotient is scaled by a power of two to 53 significant bits, or to fewer where the exponent would fall below the smallest. -/
def f64OfRatio (n : Int) (d : Nat) : BitVec 64 :=
  let m := n.natAbs
  if m = 0 then 0
  else
    let scaled := fun (e : Int) => (m * 2 ^ (-e).toNat, d * 2 ^ e.toNat)
    let e0 : Int := (m.log2 : Int) - d.log2 - 52
    let e1 := if (scaled e0).1 < 2 ^ 52 * (scaled e0).2 then e0 - 1 else e0
    let e := max e1 (-1074)
    let x := scaled e
    let q := x.1 / x.2
    let r := x.1 % x.2
    let q := if x.2 < 2 * r ∨ (2 * r = x.2 ∧ q % 2 = 1) then q + 1 else q
    BitVec.ofNat 64 (min ((e + 1074).toNat * 2 ^ 52 + q) (2047 * 2 ^ 52) + if n < 0 then 2 ^ 63 else 0)

/-! ### Network time (R337 to R340) -/

/-- The extended count c of the network-time counter, in 0.25 ns (R338); 0 until the control island's PLL has locked. -/
def State.extCount (s : State) : Nat :=
  match s.counterOn with
  | none => 0
  | some t0 => (s.now - t0) / 250

/-- Network time from an offset and a rate (R338). -/
def timeFrom (offset rate c : Nat) : Nat :=
  ofSigned 64 ((offset : Int) + c + Int.fdiv ((c : Int) * toSigned 64 rate) (2 ^ 40))

/-- Network time as the control island reads it (R338). -/
def State.netTime (s : State) : Nat := timeFrom (s.getO R.OFFSET) (s.getO R.RATE_SET) s.extCount

/-- Network time as a unit outside the control island stamps it, from the copy it last refreshed (R340). -/
def State.stamp (s : State) (unit : Nat) : Nat :=
  let p := s.copies.get unit (0, 0)
  timeFrom p.1 p.2 s.extCount

/-- Network time at an instant in ps as a unit outside the control island stamps it (R338, R340); 0 before the counter runs. -/
def State.stampAt (s : State) (unit : Nat) (ps : Int) : Nat :=
  match s.counterOn with
  | none => 0
  | some t0 =>
    let p := s.copies.get unit (0, 0)
    timeFrom p.1 p.2 ((ps - t0) / 250).toNat

/-- Network time as the keeper keeps it: the copy that the control island last sent, advanced on KCLK (R425). -/
def State.keeperTime (s : State) : Nat :=
  match s.keeperRef with
  | some t => ((s.copies.get 0x1C2 (0, 0)).1 + (s.now - t) / 250) % 2 ^ 64
  | none => (s.now - s.keeperAt) / 250 % 2 ^ 64

/-! ### Events (R438) -/

/-- Whether an event source is the keeper's or the fault collector's: what is sent while the module is not OPERATIONAL
(R373). -/
def keeperSource (n : Nat) : Bool := (decide (2016 ≤ n) && decide (n ≤ 2023)) || (decide (2027 ≤ n) && decide (n ≤ 2029))

/-- A new record at the end of a sequence, before the records of the same time whose event numbers are higher: events that
become usable in one receiving cycle are recorded in the order of their numbers, the lowest first (R10).  Equal stamps of
network time stand for one receiving cycle. DEDUCED (log 36). -/
def putOrdered {α : Type} (time source : α → Nat) (l : List α) (r : α) : List α :=
  let n := (l.reverse.takeWhile (fun x => time x == time r && decide (source r < source x))).length
  l.take (l.length - n) ++ r :: l.drop (l.length - n)

/-- A session notes an occurrence of a source that its EVENT_MASK selects: merged into the record whose EVENT_HOLD still
runs, or a new record in its place, or dropped and counted where its queue of 256 is full (R10, R369). -/
def Session.note (x : Session) (n t detail now : Nat) : Session :=
  if !x.mask.testBit n then x
  else if x.queue.any (fun q => q.source == n && decide (now < q.until_)) then
    { x with queue := x.queue.map (fun q =>
        if q.source = n ∧ now < q.until_ then { q with count := satAdd 16 q.count 1 } else q) }
  else if x.queue.length < 256 then
    { x with queue := putOrdered EventNote.time EventNote.source x.queue ⟨n, 1, t, detail, now + 1000000 * x.hold⟩ }
  else { x with lost := satAdd 32 x.lost 1, lostNew := satAdd 16 x.lostNew 1 }

/-- An event source's COUNT, LAST_TIME and LAST_DETAIL after an occurrence (R438). -/
def State.eventCount (s : State) (n t detail : Nat) : State :=
  let k := key (0xC400 + n) 0
  ((s.setO (k + RSrc.COUNT) ((s.getO (k + RSrc.COUNT) + 1) % 2 ^ 64)).setO (k + RSrc.LAST_TIME) t).setO (k + RSrc.LAST_DETAIL) detail

/-- Each session that selects the source notes the occurrence (R369); until the module is OPERATIONAL only the keeper's and the
fault collector's are sent (R373). -/
def State.eventNotes (s : State) (n t detail : Nat) : State :=
  if s.getO R.MODULE_STATE = 3 ∨ keeperSource n = true then
    { s with sessions := s.sessions.map (fun (x : Option Session) => x.map (fun y => y.note n t detail s.now)) }
  else s

/-- The ring of 65,536 event records overwrites its oldest record, and counts that in EVENT_LOG_LOST (R438). -/
def State.eventRoom (s : State) : State := if s.events.length < 65536 then s else s.incO R.EVENT_LOG_LOST

/-- A record in its place at the end of the event log's ring (R10, R438). -/
def State.eventPut (s : State) (r : EventRec) : State :=
  { s with events := putOrdered EventRec.time EventRec.source (lastN 65535 s.events) r }.setO R.EVENT_LOG_COUNT (min (s.getO R.EVENT_LOG_COUNT + 1) 65536)

/-- A record of the event log, where the source's LOG is set; while no control core runs it records nothing (R438). -/
def State.eventLog (s : State) (n t detail : Nat) : State :=
  if s.getO (key (0xC400 + n) 0 + RSrc.LOG) = 1 ∧ s.coreOut = false then s.eventRoom.eventPut ⟨n, t, detail⟩ else s

/-- An occurrence of an event source: its objects, a note of each session that selects it, and a record where it is logged
(R369, R438). -/
def State.event (s : State) (n detail : Nat) : State :=
  ((s.eventCount n s.netTime (detail % 2 ^ 32)).eventNotes n s.netTime (detail % 2 ^ 32)).eventLog n s.netTime (detail % 2 ^ 32)

/-- A free value, and the state whose counter has moved past it. -/
def State.free (s : State) : BitVec 64 × State := (Config.freeValue s.fresh, { s with fresh := s.fresh + 1 })
/-- A free truth value, and the state whose counter has moved past it. -/
def State.freeBit (s : State) : Bool × State := (Config.freeBit s.fresh, { s with fresh := s.fresh + 1 })

/-- An occurrence of a source whose DETAIL the spec does not state: a free value (R438). DESIGN CHOICE (log 19). -/
def State.occur (s : State) (n : Nat) : State := s.free.2.event n s.free.1.toNat

/-- The number of bay event k (R437). -/
def evBay (b : Bay) (k : Nat) : Nat := 1024 + b.val * 32 + k
/-- The number of channel event k (R437). -/
def evChan (c : Chan) (k : Nat) : Nat := c.val * 4 + k

/-! ### Fault messages (R420 to R423) -/

/-- The severity of a kind: 1 MINOR, 2 MAJOR, 3 FATAL; 0 INFO for a kind that is not listed (R423). -/
def severityOf (kind : Nat) : Nat :=
  if [0x73, 0x78, 0x80, 0x82, 0x84, 0x87, 0x88].contains kind then 3
  else if [0x01, 0x20, 0x24, 0x29, 0x30, 0x31, 0x41, 0x48, 0x58, 0x60, 0x68, 0x72, 0x83, 0x85].contains kind then 1
  else if [0x10, 0x11, 0x12, 0x21, 0x22, 0x23, 0x28, 0x2A, 0x38, 0x39, 0x3A, 0x3B, 0x40, 0x42, 0x49, 0x50, 0x51, 0x59,
      0x5A, 0x70, 0x71, 0x81, 0x86].contains kind then 2
  else 0

/-- The bay whose site epoch a message of a unit carries (R420): channels, bay sequencers, bay timing and TMUs. -/
def faultBay (unit : Nat) : Option Bay :=
  if h : unit < 256 then some ⟨unit / 16, by omega⟩
  else if unit < 0x130 then some ⟨unit % 16, by omega⟩
  else none

/-- Puts a message at its unit's fault port: a FATAL kind passes the queue, and a queue of 16 discards (R422). -/
def State.send (s : State) (m : FaultMsg) : State :=
  if m.severity = 3 then { s with fatal := s.fatal ++ [m] }
  else
    let q := s.ports.get m.unit []
    if q.length < 16 then { s with ports := s.ports.set m.unit (q ++ [m]) }
    else { s with portLost := s.portLost.set m.unit (satAdd 32 (s.portLost.get m.unit 0) 1) }

/-- The message a unit forms for a kind (R420). -/
def State.faultMsg (s : State) (unit kind address : Nat) : FaultMsg :=
  { unit := unit, kind := kind, severity := severityOf kind, inject := false,
    epoch := match faultBay unit with
      | some b => s.getB b RBay.SITE_EPOCH % 512
      | none => 0,
    address := address % 2 ^ 32 }

/-- A unit reports a fault (R420, R422). -/
def State.fault (s : State) (unit kind address : Nat) : State := s.send (s.faultMsg unit kind address)

/-! ### Gates of host commands -/

/-- MODULE_STATE values (R455). -/
abbrev MS.OPERATIONAL : Nat := 3
/-- MODULE_STATE SAFE_HOLD. -/
abbrev MS.SAFE_HOLD : Nat := 2
/-- MODULE_STATE CRYPTO_ERROR, within SAFE_HOLD. -/
abbrev MS.CRYPTO : Nat := 4

/-- Whether the module is OPERATIONAL: until it is, only the reduced set and 1000 to 1FFF answer (R373). -/
def State.operational (s : State) : Bool := s.getO R.MODULE_STATE == MS.OPERATIONAL
/-- Whether the module is in SAFE_HOLD, CRYPTO_ERROR included (R455). -/
def State.inHold (s : State) : Bool := s.getO R.MODULE_STATE == MS.SAFE_HOLD || s.getO R.MODULE_STATE == MS.CRYPTO

/-- BAY_STATE values (R36). -/
abbrev BS.OFF : Nat := 0
/-- SAFE -/
abbrev BS.SAFE : Nat := 1
/-- IDLE -/
abbrev BS.IDLE : Nat := 2
/-- ARMED -/
abbrev BS.ARMED : Nat := 3
/-- RUN -/
abbrev BS.RUN : Nat := 4
/-- PAUSE -/
abbrev BS.PAUSE : Nat := 5
/-- MAINT -/
abbrev BS.MAINT : Nat := 6

/-- A bay's state (R33). -/
def State.bst (s : State) (b : Bay) : Nat := s.getB b RBay.BAY_STATE
/-- Whether an island's clock is locked: its bit of LOCK_MASK, in the order of R8. -/
def State.locked (s : State) (island : Nat) : Bool := (s.getO R.LOCK_MASK).testBit island
/-- Whether a bay island's clock is stopped or relocking, so that guard logic answers for it (R14). -/
def State.bayDown (s : State) (b : Bay) : Bool := s.bst b == BS.OFF || !s.locked b.val
/-- Whether a bay is in RUN or PAUSE. -/
def State.running (s : State) (b : Bay) : Bool := s.bst b == BS.RUN || s.bst b == BS.PAUSE
/-- A bay's quiescent state, in which its RWL objects are writable: IDLE or MAINT (R353). -/
def State.quiet (s : State) (b : Bay) : Bool := s.bst b == BS.IDLE || s.bst b == BS.MAINT

/-- A message whose epoch is not the bay's is dropped and counted, and STALE_EPOCH names the present one (R38). -/
def State.stale (s : State) (b : Bay) : State :=
  ((s.incB b RBay.STALE_COUNT).occur (evBay b 15)).answerD ST.STALE_EPOCH
    (s.getB b RBay.SITE_EPOCH * 2 ^ 16)

/-- A host command to an object of a bay: the module must be OPERATIONAL (R373), the bay's island clocked (R14), and the
epoch the bay's (R38). -/
def State.hostBay (s : State) (b : Bay) (epoch : BitVec 16) (k : State → State) : State :=
  if !s.operational then s.answer ST.STATE_LOCKED
  else if s.bayDown b then s.answer ST.STATE_LOCKED
  else if epoch.toNat ≠ s.getB b RBay.SITE_EPOCH then s.stale b
  else k s

/-- A host command to an object of a bay that brings new configuration over control-core firmware, a DOMAIN load among them:
while no control core is active it returns STATE_LOCKED (R22, R454). -/
def State.hostBayFirm (s : State) (b : Bay) (epoch : BitVec 16) (k : State → State) : State :=
  s.hostBay b epoch (fun s => if s.coreOut then s.answer ST.STATE_LOCKED else k s)

/-- A host command to an object of a channel, judged at its bay. -/
def State.hostChan (s : State) (c : Chan) (epoch : BitVec 16) (k : State → State) : State := s.hostBay (bayOf c) epoch k

/-- A host command to an object outside the bays: the module must be OPERATIONAL (R373). -/
def State.hostModule (s : State) (k : State → State) : State :=
  if !s.operational then s.answer ST.STATE_LOCKED else k s

/-- A host command that needs control-core firmware: during a switch-over's gap it returns STATE_LOCKED (R454). -/
def State.hostFirm (s : State) (k : State → State) : State :=
  s.hostModule (fun s => if s.coreOut then s.answer ST.STATE_LOCKED else k s)

/-! ### Sites (R25, R31, R79) -/

/-- A site's kind (R25): 0 NONE, 1 QUAD, 2 BAY, 3 MULTI_BAY, 4 MULTI_MODULE. -/
def State.siteKind (s : State) (i : Site) : Nat := s.getS i RSite.KIND
/-- Whether a bay is a member of a site. -/
def State.memberOf (s : State) (b : Bay) (i : Site) : Bool := s.siteKind i ≠ 0 && (s.getS i RSite.BAY_MASK).testBit b.val
/-- The sites a bay belongs to, whole or by its quads. -/
def State.sitesOf (s : State) (b : Bay) : List Site := (List.finRange 64).filter (s.memberOf b)
/-- The member bays of a site in this module. -/
def State.members (s : State) (i : Site) : List Bay := if s.siteKind i = 0 then [] else (List.finRange 16).filter (fun b => (s.getS i RSite.BAY_MASK).testBit b.val)
/-- The site a channel belongs to: its bay's, or its quad's. -/
def State.siteOfChan (s : State) (c : Chan) : Option Site :=
  (s.sitesOf (bayOf c)).find? (fun i => s.siteKind i ≠ 1 || s.getS i RSite.QUAD = quadOf c)
/-- Whether a bay runs in lockstep: a MULTI_BAY or MULTI_MODULE site (R80). -/
def State.lockstep (s : State) (b : Bay) : Bool := (s.sitesOf b).any (fun i => 3 ≤ s.siteKind i)
/-- SITE_STATUS bits (R32). -/
abbrev SS.FAIL : Nat := 0
/-- UNDERRUN -/
abbrev SS.UNDERRUN : Nat := 1
/-- INVALID -/
abbrev SS.INVALID : Nat := 2
/-- STOPPED -/
abbrev SS.STOPPED : Nat := 3
/-- RETIRED -/
abbrev SS.RETIRED : Nat := 4
/-- Sets a bit of a site's SITE_STATUS. -/
def State.markSite (s : State) (i : Site) (bit : Nat) : State := s.setS i RSite.SITE_STATUS (orBit (s.getS i RSite.SITE_STATUS) bit)
/-- Sets a bit of the SITE_STATUS of every site and quad-site of a bay. -/
def State.markSites (s : State) (b : Bay) (bit : Nat) : State := s.each (s.sitesOf b) (fun s i => s.markSite i bit)
/-- Marks the site or quad-site of a channel INVALID. -/
def State.invalidChan (s : State) (c : Chan) : State :=
  match s.siteOfChan c with
  | some i => s.markSite i SS.INVALID
  | none => s

/-! ### Driver inhibit causes (R151) -/

/-- Sets or releases an inhibit cause of a channel. -/
def State.inhibit (s : State) (c : Chan) (cause : Nat) (on : Bool) : State :=
  s.setC c RChan.INHIBIT_CAUSE (putBit (s.getC c RChan.INHIBIT_CAUSE) cause on)
/-- Sets or releases an inhibit cause of every channel of a bay. -/
def State.inhibitBay (s : State) (b : Bay) (cause : Nat) (on : Bool) : State :=
  s.each (chansOf b) (fun s c => s.inhibit c cause on)

/-! ### Exclusive resources (R46, R47) -/

/-- The key a resource's claim is held under: its claim object. (Log 41.) -/
def claimKey : Resource → Nat
  | .blankTimer b => keyB b RBay.CLAIM_BLANK_TIMER
  | .probeRoute b r => keyB b (RBay.CLAIM_PROBE_ROUTE + r.val)
  | .trig n => R.CLAIM_TRIG + n.val
  | .ridge n => R.CLAIM_RIDGE + n.val
  | .capturePartition b p => keyB b (RBay.CLAIM_CAPTURE_PARTITION + p.val)
  | .sparePath b => keyB b RBay.CLAIM_SPARE_PATH
  | .tpg n => R.CLAIM_TPG + n.val
  | .timeShared => 0

/-- The features that may claim a resource (R46). -/
def claimFeatures : Resource → List Nat
  | .blankTimer _ => [0x01, 0x02]
  | .probeRoute _ _ => [0x03, 0x04]
  | .trig _ => [0x05, 0x06, 0x07]
  | .ridge _ => [0x08, 0x0D]
  | .capturePartition _ _ => [0x09]
  | .sparePath _ => [0x0A, 0x0B]
  | .tpg _ => [0x0C]
  | .timeShared => []

/-- The bay a resource belongs to, where it is a bay's. -/
def claimBay : Resource → Option Bay
  | .blankTimer b => some b
  | .probeRoute b _ => some b
  | .capturePartition b _ => some b
  | .sparePath b => some b
  | _ => none

/-- The claim held on a resource, none while it is free. -/
def State.claim (s : State) (r : Resource) : Option Claim :=
  let c := s.claims.get (claimKey r) ⟨0, 0⟩
  if c.feature = 0 then none else some c
/-- Whether a resource is claimed for a feature. -/
def State.claimedFor (s : State) (r : Resource) (feature : Nat) : Bool :=
  match s.claim r with
  | some c => c.feature == feature
  | none => false
/-- The state with a claim held; the claim object reads owner and feature. DESIGN CHOICE (log 41): the layout. -/
def State.setClaim (s : State) (r : Resource) (owner feature : Nat) : State :=
  { s with claims := s.claims.set (claimKey r) ⟨owner, feature⟩ }.setO (claimKey r) (owner + feature * 2 ^ 12)
/-- The detail word that names a resource's owner: unit ID at [43:32], feature at [51:44] (R365). -/
def claimDetail (c : Claim) : Nat := c.owner * 2 ^ 32 + c.feature * 2 ^ 44
/-- The state with a resource released. -/
def State.freeClaim (s : State) (r : Resource) : State :=
  { s with claims := s.claims.set (claimKey r) ⟨0, 0⟩ }.setO (claimKey r) 0

/-- Every resource that can be claimed. -/
def allResources : List Resource :=
  (List.finRange 16).flatMap (fun b => [.blankTimer b, .probeRoute b 0, .probeRoute b 1, .sparePath b] ++
    (List.finRange 8).map (.capturePartition b)) ++
  (List.finRange 8).map .trig ++ (List.finRange 32).map .ridge ++ (List.finRange 8).map .tpg

/-- Releases every claim of an owner: the site or bay was dissolved or entered OFF (R46). -/
def State.releaseOwner (s : State) (owner : Nat) : State :=
  s.each allResources (fun s r => match s.claim r with
    | some c => if c.owner = owner then s.freeClaim r else s
    | none => s)

/-- Counts an event dropped at an island whose clock is stopped (R14). -/
def State.dropEvent (s : State) (island : Nat) : State :=
  { s with dropped := s.dropped.set island (s.dropped.get island 0 + 1) }

end Sys2Proof.Machine
end

