-- ==== Sys2Proof/Machine/Holdup.lean ====
section
/-! DEFINITION. The hold-up check and the gate of every non-volatile commit (R446 to R450). -/

namespace Sys2Proof.Machine

/-- ESR of a sample in mΩ: the step over 0.2 A (R448). -/
def sampleEsr (m : Sample) : Nat := m.step / 200
/-- Capacitance of a sample in µF: 20 µC over the droop (R448). -/
def sampleCap (m : Sample) : Nat := if m.droop = 0 then Config.capOfNoDroop m else 20000000 / m.droop
/-- Usable energy of a sample in mJ: half of C times (V0 − 1.5 A × ESR) squared less 6.0 V squared (R448).
Where the droop is 0: log 17. -/
def sampleEnergy (m : Sample) : Nat :=
  if m.droop = 0 then Config.energyOfNoDroop m
  else
    let v2 := 2000 * m.v0 - 15 * m.step
    (v2 * v2 - 144000000000000) / (4 * 100000000 * m.droop)

/-- HOLDUP_STATE values (R455). -/
abbrev HS.OK : Nat := 1
/-- LOW -/
abbrev HS.LOW : Nat := 2
/-- ON_STORE -/
abbrev HS.ON_STORE : Nat := 3

/-- A check's results are recorded; below 120 mJ it forms HOLDUP_WEAK and shows LOW, otherwise OK, and a check that
finds 120 mJ satisfies R446 (R446, R448 to R450).  A check in progress is this one. DEDUCED (log 26): ON_STORE stays. -/
def State.recordCheck (s : State) (m : Sample) : State :=
  let e := sampleEnergy m
  let s := { s with checking := false }
  let s := ((s.setO R.HOLDUP_VOLTAGE (min m.v0 65535)).setO R.HOLDUP_CAP (min (sampleCap m) (2 ^ 32 - 1))).setO
    R.HOLDUP_ESR (min (sampleEsr m) 65535)
  let s := (s.setO R.HOLDUP_ENERGY (min e (2 ^ 32 - 1))).setO R.HOLDUP_CHECK_TIME s.keeperTime
  if e < 120 then
    let s := if s.getO R.HOLDUP_STATE = HS.ON_STORE then s else s.setO R.HOLDUP_STATE HS.LOW
    s.fault 0x1C2 0x83 e
  else
    let s := if s.getO R.HOLDUP_STATE = HS.ON_STORE then s else s.setO R.HOLDUP_STATE HS.OK
    { s with holdupOk := true, recheck := none }.setO R.START_STATUS (clrBit (s.getO R.START_STATUS) 4)

/-- The energy in mJ a commit of a class needs: twice the class energy (R449). -/
def classNeeds (cls : Nat) : Nat :=
  if cls = 1 then 24 else if cls = 2 then 120 else if cls = 3 then 4 else 16

/-- A refused commit: HOLDUP_LOW, counted, its class recorded, and the module event raised (R449). -/
def State.refuseCommit (s : State) (cls unit : Nat) : State :=
  (((s.incO R.HOLDUP_REFUSALS).setO R.LAST_REFUSED cls).event 2027 unit).answer ST.HOLDUP_LOW

/-- A non-volatile commit: the check first, then the commit where the energy suffices (R449).  On the hold-up store
every new commit is refused (R442). -/
def State.commitGate (s : State) (m : Sample) (cls unit : Nat) (k : State → State) : State :=
  if s.getO R.HOLDUP_STATE = HS.ON_STORE then s.refuseCommit cls unit
  else
    let s := s.recordCheck m
    if classNeeds cls ≤ sampleEnergy m then k s else s.refuseCommit cls unit

/-- The class of a ledger commit: a compaction once LEDGER_FREE is below 256 KiB, else a record (R418, R449). -/
def State.ledgerClass (s : State) : Nat := if s.getO R.LEDGER_FREE < 262144 then 2 else 1

/-- One ledger commit that has passed its check: SEQ advances, both copies are written, and LEDGER_STATE returns to OK, or
stays STALE while another assay commit waits for its retry (R416 to R418).  What LEDGER_FREE becomes is open, since the spec
gives the payloads no layout: less by a header at least, or anything after a compaction. DESIGN CHOICE (log 24). -/
def State.ledgerWrite (s : State) : State :=
  let old := s.getO R.LEDGER_FREE
  let s := (s.setO R.LEDGER_SEQ ((s.getO R.LEDGER_SEQ + 1) % 2 ^ 32)).setO R.LEDGER_STATE (if s.ledgerHeld.isEmpty then 0 else 1)
  let f := s.free
  f.2.setO R.LEDGER_FREE (if old < 262144 then f.1.toNat % 1048577 else f.1.toNat % (old - 31))

/-- A committed record holds the present values of some objects; what it held before is what the record of the next lower SEQ
holds (R416, R417). -/
def State.ledgerPut (s : State) (keys : List Nat) : State :=
  { s with
    ledgerOld := keys.foldl (fun t k => t.set k (s.ledger.get k (Row.default k))) s.ledgerOld
    ledger := keys.foldl (fun t k => t.set k (s.getO k)) s.ledger }

end Sys2Proof.Machine
end

