-- ==== Sys2Proof/Machine/Hbm.lean ====
section
/-! DEFINITION. The HBM below its users: placement, check parts and tags, readiness, checks, and each pseudo-channel's queues
(R268 to R274, R277, R279, R284). -/

namespace Sys2Proof.Machine

/-! ### Placement, check parts and tags (R268, R269, R271, R272, R277) -/

/-- The pseudo-channel of a data address (R272). -/
def pcOf (addr : Nat) : Nat :=
  let g := addr / 256
  (g % 64) ^^^ (g / 64 % 64)

/-- The key of a pseudo-channel's object, 9010 + pc (R292). -/
def keyPc (pc sub : Nat) : Nat := key (0x9010 + pc) sub

/-- The stack of a pseudo-channel (R268). -/
def stackOf (pc : Nat) : Nat := pc / 32

/-- The key of a stack's object, 9008 + s. -/
def keyStack (i sub : Nat) : Nat := key (0x9008 + i) sub

/-- Whether a stack is HOT. -/
def State.hot (s : State) (i : Nat) : Bool := s.getO (keyStack i RStack.HOT) == 1

/-- KEY_EPOCH of a block's tag (R269): the tag is KEY_EPOCH times 256 plus WRITE_SEQ. -/
def State.tagEpoch (s : State) (addr : Nat) : Nat := s.tags.get (addr / 64) 0 / 256

/-- WRITE_SEQ of a block's tag (R269). -/
def State.tagSeq (s : State) (addr : Nat) : Nat := s.tags.get (addr / 64) 0 % 256

/-- Whether bytes of memory overlap a range that a bay has locked (R277). -/
def State.lockedRange (s : State) (addr len : Nat) : Bool :=
  (List.finRange 16).any (fun b => (s.bay b).locks.any (fun r => decide (addr < r.2) && decide (r.1 < addr + len)))

/-- The check part of a block (R269): the check bits of its sixteen data words as they were written, KEY_EPOCH and WRITE_SEQ.
The check bits follow from the data, so no second copy of them is held; an error in the DRAM is the reader's operand (R270).
Log 48. -/
def State.checkPart (s : State) (addr : Nat) : BitVec 128 :=
  let block := memRead s.mem (addr / 64 * 64) 64
  BitVec.ofNat 128 ((List.range 16).foldl (fun n i =>
    n + ((Config.secded (BitVec.ofNat 32 (ofBytes (slice block (4 * i) 4)))).toNat <<< (7 * i))) 0 +
    (s.tagEpoch addr <<< 112) + (s.tagSeq addr <<< 120))

/-- What the last 128 bytes of a pseudo-channel carry once it has been trained: the training reference pattern, of which the
spec gives no value (R268, R288). Log 48. -/
def State.trainingBytes (s : State) (pc : Fin 64) : Option Bytes :=
  if (s.hbmQ.pcs.get pc).trained then some (Config.trainingPattern pc.val) else none

/-! ### The memory map and readiness (R273, R274) -/

/-- Memory responses (R274). -/
abbrev MR.OK : Nat := 0
/-- DECODE -/
abbrev MR.DECODE : Nat := 1
/-- REGION -/
abbrev MR.REGION : Nat := 2
/-- LOCKED -/
abbrev MR.LOCKED : Nat := 3
/-- POISON -/
abbrev MR.POISON : Nat := 4
/-- NOT_READY -/
abbrev MR.NOT_READY : Nat := 5

/-- The window an address lies in (R273): 1 the data space, 2 the capture SRAM, 3 the cores' SRAM, 0 none. -/
def windowOf (a : Nat) : Nat :=
  if a < dataSpace then 1
  else if 0x001000000000 ≤ a ∧ a < 0x001000800000 then 2
  else if 0x001100000000 ≤ a ∧ a < 0x001101800000 then 3
  else 0

/-- The window that bytes lie in wholly, 0 where they do not (R274). -/
def windowSpan (a len : Nat) : Nat :=
  let w := windowOf a
  if len ≠ 0 ∧ windowOf (a + len - 1) = w ∧ w ≠ 0 then w else 0

/-- PC_STATE of a pseudo-channel (R292). -/
def State.pcState (s : State) (pc : Nat) : Nat := s.getO (keyPc pc RPc.PC_STATE)
/-- PC_STATE values: TRAINING. -/
abbrev PC.TRAINING : Nat := 0
/-- TEST -/
abbrev PC.TEST : Nat := 1
/-- ACTIVE -/
abbrev PC.ACTIVE : Nat := 2
/-- RECOVERY -/
abbrev PC.RECOVERY : Nat := 3
/-- OUT_OF_SERVICE -/
abbrev PC.OUT : Nat := 4

/-- Whether a pseudo-channel answers NOT_READY (R274). -/
def State.pcDown (s : State) (pc : Nat) : Bool := s.pcState pc ≠ PC.ACTIVE && s.pcState pc ≠ PC.RECOVERY

/-- The first addresses of the 64-byte blocks that bytes touch. -/
def blocksOf (a len : Nat) : List Nat := (List.range ((a + len - 1) / 64 + 1 - a / 64)).map (fun i => (a / 64 + i) * 64)

/-- Whether bytes of the data space touch a pseudo-channel that is not ready. -/
def State.spanDown (s : State) (a len : Nat) : Bool := (blocksOf a len).any (fun x => s.pcDown (pcOf x))

/-- The answer a read gets, its data's check and tag apart (R274). -/
def State.readAnswer (s : State) (a len : Nat) : Nat :=
  match windowSpan a len with
  | 0 => MR.DECODE
  | 1 => if s.spanDown a len then MR.NOT_READY else MR.OK
  | _ => MR.OK

/-- Bytes written, with their blocks' tag in the data space (R269, R271, R284). -/
def State.putMem (s : State) (a : Nat) (data : Bytes) (tag : Nat) : State :=
  let s := { s with mem := memWrite s.mem a data }
  if windowOf a = 1 then s.each (blocksOf a data.length) (fun s x => { s with tags := s.tags.set (x / 64) tag }) else s

/-- Blocks of memory written with a WRITE_SEQ stamp (R271). -/
def State.writeBlocks (s : State) (addr : Nat) (data : Bytes) (stamp : Nat) : State :=
  let s := { s with mem := memWrite s.mem addr data }
  s.each (List.range (ceilDiv data.length 64)) (fun s i => { s with tags := s.tags.set (addr / 64 + i) stamp })

/-! ### Checks (R270, R271) -/

/-- A pseudo-channel enters RECOVERY where it is ACTIVE and a control core runs (R270, R289). -/
def State.startRecovery (s : State) (pc : Nat) : State :=
  if s.pcState pc = PC.ACTIVE ∧ s.coreOut = false then
    { s.setO (keyPc pc RPc.PC_STATE) PC.RECOVERY with recovery := s.recovery.set pc (0, 0) }
  else s

/-- A single-bit error is corrected and counted; CE_THRESHOLD of them within a second raise the rate event, report it and
start recovery (R270, R289). -/
def State.countCe (s : State) (pc : Nat) : State :=
  let s := s.incO (keyPc pc RPc.CE_COUNT)
  let w := s.ceSince.get pc (0, 0)
  let w := if s.now - w.1 < 1000000000000 then (w.1, w.2 + 1) else (s.now, 1)
  let s := { s with ceSince := s.ceSince.set pc w }
  if w.2 = s.getO R.CE_THRESHOLD then ((s.occur (1728 + 2 * pc)).fault (0x140 + pc) 0x41 w.2).startRecovery pc else s

/-- An uncorrectable block is counted, its address recorded, its event raised and its read reported (R270). -/
def State.countUe (s : State) (a : Nat) : State :=
  let pc := pcOf a
  let s := (s.incO (keyPc pc RPc.UE_COUNT)).setO (keyPc pc RPc.LAST_ERROR_ADDR) (a / 64 * 64)
  (s.occur (1728 + 2 * pc + 1)).fault (0x140 + pc) 0x40 (a / 64 % 2 ^ 32)

/-- The check of a block that is read (R270). -/
def State.checkBlock (s : State) (a : Nat) : Ecc → State
  | .clean => s
  | .corrected => s.countCe (pcOf a)
  | .uncorrectable => s.countUe a

/-- A tag mismatch is counted at the block's pseudo-channel (R271). -/
def State.countTag (s : State) (addr n : Nat) : State :=
  let k := keyPc (pcOf addr) RPc.TAG_MISMATCH
  s.setO k (satAdd 32 (s.getO k) n)

/-- The checks of the blocks that bytes touch, one result a block in address order, the rest clean (R270). -/
def State.checkBlocks (s : State) (a len : Nat) (eccs : List Ecc) : State :=
  s.each ((blocksOf a len).zip eccs) (fun s p => s.checkBlock p.1 p.2)

/-! ### The queues of a pseudo-channel (R268, R279) -/

/-- The transactions of a class. -/
def PcU.count (u : PcU) (c : MemClass) : Nat := (u.queue.filter (fun x => x.cls == c)).length

/-- The transactions in the 112 shared slots: what the reserved classes hold beyond 96 and 48, and best effort. -/
def PcU.shared (u : PcU) : Nat := (u.count .pattern - 96) + (u.count .capture - 48) + u.count .bestEffort

/-- Whether a request of a class finds a slot (R279). -/
def PcU.room (u : PcU) (c : MemClass) : Bool :=
  decide (u.shared < 112) ||
    match c with
    | .pattern => decide (u.count .pattern < 96)
    | .capture => decide (u.count .capture < 48)
    | .bestEffort => false

/-- Whether a transaction is a reserved class's within its credit at a time. -/
def PcU.credited (u : PcU) (t : Nat) (x : MemTxn) : Bool :=
  match x.cls with
  | .pattern => decide (u.patAt ≤ t)
  | .capture => decide (u.capAt ≤ t)
  | .bestEffort => false

/-- The transaction served at a time: the oldest within a reserved class's credit, then the oldest best-effort one, then the
oldest beyond its credit (R279). -/
def PcU.pick (u : PcU) (t : Nat) : Option MemTxn :=
  (u.queue.find? (u.credited t)).orElse (fun _ => (u.queue.find? (fun x => x.cls == .bestEffort)).orElse (fun _ => u.queue.head?))

/-- A transaction is served: 64 bytes at 8 GB/s and at 4 GB/s take 8 ns and 16 ns of its class's credit. -/
def PcU.serve (u : PcU) (t : Nat) (x : MemTxn) : PcU :=
  { u with
    queue := u.queue.erase x, served := t
    patAt := if x.cls = .pattern then max t u.patAt + 8000 else u.patAt
    capAt := if x.cls = .capture then max t u.capAt + 16000 else u.capAt }

/-- The transactions served up to a time: one in 3.125 ns, which is 64 bytes at 20.48 GB/s (R278). DESIGN CHOICE (log 49): the
rate of service. -/
def PcU.drain (now : Nat) : Nat → PcU → PcU
  | 0, u => u
  | n + 1, u =>
    if u.served + 3125 ≤ now then
      match u.pick (u.served + 3125) with
      | some x => PcU.drain now n (u.serve (u.served + 3125) x)
      | none => { u with served := now }
    else u

/-- Whether a pseudo-channel serves refreshes owed in a catch-up, ahead of every request (R279, R286). -/
def State.catchingUp (s : State) (pc : Nat) : Bool :=
  s.getO (keyPc pc RPc.SCHED_MODE) == 1 && s.getO (keyPc pc RPc.REFRESH_OWED) != 0

/-- A pseudo-channel's queue set as it stands now. -/
def State.pcNow (s : State) (pc : Fin 64) : PcU :=
  let u := s.hbmQ.pcs.get pc
  if s.catchingUp pc.val then { u with served := s.now } else PcU.drain s.now (u.queue.length + 1) u

/-- The pseudo-channels that bytes of the data space touch: a request has its blocks on one of them served one after the other, so
it holds one slot there at a time. -/
def pcsTouched (a len : Nat) : List (Fin 64) :=
  if windowSpan a len = 1 then ((blocksOf a len).map (fun x => Fin.ofNat 64 (pcOf x))).eraseDups else []

/-- A change of the memory's queues. -/
def State.modHbm (s : State) (f : HbmQ → HbmQ) : State := { s with hbmQ := f s.hbmQ }

/-- Each pseudo-channel of a list has served what it could by now. -/
def State.servePcs (s : State) (l : List (Fin 64)) : State :=
  s.each l (fun s pc => s.modHbm (fun q => { q with pcs := q.pcs.set pc.val (s.pcNow pc) pc.isLt }))

/-- Whether a request of a class finds a slot on each pseudo-channel that it touches. -/
def State.slotFor (s : State) (c : MemClass) (a len : Nat) : Bool := (pcsTouched a len).all (fun pc => (s.pcNow pc).room c)

/-- A request takes its slots. -/
def State.takeSlots (s : State) (c : MemClass) (a len : Nat) : State :=
  (s.servePcs (pcsTouched a len)).each (pcsTouched a len) (fun s pc => s.modHbm (fun q =>
    let u := q.pcs.get pc
    { q with pcs := q.pcs.set pc.val { u with queue := u.queue ++ [⟨c, s.now⟩] } pc.isLt }))

end Sys2Proof.Machine
end

