-- ==== Sys2Proof/Machine/Spare.lean ====
section
/-! DEFINITION. The spare path of a bay: which channel it stands in for, record 16 of the timing sets, and what ends a
rolling step (R124, R154, R405 to R411). -/

namespace Sys2Proof.Machine

/-- The key of a bay's rolling-assay object, B810 + b (R419). -/
def keyA (b : Bay) (sub : Nat) : Nat := key (0xB810 + b.val) sub

/-- ROLL_STATE values (R419). -/
abbrev RS.SHADOWING : Nat := 1
/-- CALIBRATING -/
abbrev RS.CALIBRATING : Nat := 2
/-- RETURNING -/
abbrev RS.RETURNING : Nat := 3
/-- WAITING -/
abbrev RS.WAITING : Nat := 4
/-- PAUSED -/
abbrev RS.PAUSED : Nat := 5
/-- SUSPENDED_MANUAL -/
abbrev RS.SUSPENDED : Nat := 6

/-- ROLL_STATE of a bay. -/
def State.rollState (s : State) (b : Bay) : Nat := s.getO (keyA b RAssay.ROLL_STATE)

/-- A change of a bay's rolling-assay state. -/
def State.modRoll (s : State) (b : Bay) (f : Roll → Roll) : State := s.modBay b (fun u => { u with roll := f u.roll })

/-- The state a bay's rolling assay rests in between steps: OFF, PAUSED or WAITING (R405, R410). -/
def State.rollRest (s : State) (b : Bay) : Nat :=
  if s.getO (keyA b RAssay.ROLL_ENABLE) = 0 then 0
  else if s.getO (keyA b RAssay.ROLL_PAUSE) = 1 then RS.PAUSED else RS.WAITING

/-- Whether a step of rolling assay is in progress. -/
def State.rolling (s : State) (b : Bay) : Bool := decide (1 ≤ s.rollState b) && decide (s.rollState b ≤ 3)

/-- The substituted channel's selector returns to its own path, and the spare path stands in for none (R154). -/
def State.ownPath (s : State) (b : Bay) : State :=
  match (s.bay b).roll.target with
  | some k => (s.setC (chanOf b k) RChan.SELECTOR 0).modRoll b (fun r => { r with target := none, shadowed := 0 })
  | none => s

/-- The objects of a channel's path that a step changes: DESKEW, TRIM and TAPS of its four lines. -/
def pathObjs : List Nat :=
  (List.range 4).map (RChan.DESKEW + ·) ++ (List.range 4).map (RChan.TRIM + ·) ++ (List.range 4).map (RChan.TAPS + ·)

/-- The channel's path takes back the values it held before its measurement (R409). -/
def State.oldValues (s : State) (b : Bay) : State :=
  match (s.bay b).roll.target with
  | some k => (s.each (pathObjs.zip (s.bay b).roll.old) (fun s p => s.setC (chanOf b k) p.1 p.2)).modRoll b (fun r => { r with old := [] })
  | none => s

/-- The spare path's claim as a feature's, under the bay's own unit (R46, R405, R411). -/
def State.claimSpare (s : State) (b : Bay) (feature : Nat) : State := s.setClaim (.sparePath b) (0x100 + b.val) feature

/-- A step of rolling assay is over: the next path is due at its time of the round, or the round is complete, and with
ROLL_ENABLE clear the spare path is released (R405, R410). -/
def State.stepOver (s : State) (b : Bay) : State :=
  let u := (s.bay b).roll
  let span := s.getO R.ROLL_INTERVAL * 1000000000000
  let s := s.modRoll b (fun r => { r with
    path := (u.path + 1) % 17,
    roundAt := if u.path = 16 then u.roundAt + span else u.roundAt,
    due := if u.path = 16 then u.roundAt + span else u.roundAt + (u.path + 1) * span / 17 })
  let s := if u.path = 16 then (s.setO (keyA b RAssay.ROUNDS) ((s.getO (keyA b RAssay.ROUNDS) + 1) % 2 ^ 32)).setO
    (keyA b RAssay.LAST_ROUND) s.netTime else s
  let s := s.setO (keyA b RAssay.ROLL_STATE) (s.rollRest b)
  if s.getO (keyA b RAssay.ROLL_ENABLE) = 0 ∧ (s.bay b).roll.target = none then s.freeClaim (.sparePath b) else s

/-- A step in progress ends with ABORTED: the channel returns to its own path with its old values, and the ending is
counted (R409). -/
def State.rollAbort (s : State) (b : Bay) : State :=
  if s.rolling b then
    let s := ((s.oldValues b).ownPath b).incO (keyA b RAssay.STEP_ABORTS)
    s.stepOver b
  else s

/-- A granule boundary passes: it is marked as a hand-over point where the vendor microprogram asked for one, and the
granules that the spare path has shadowed are counted (R406). -/
def State.shadowGranule (s : State) (b : Bay) : State :=
  s.modRoll b (fun r => { r with permit := false, atPoint := r.permit, shadowed := if r.target.isSome then r.shadowed + 1 else 0 })

/-- Whether the spare path of a bay is claimed, for ASSAY or MANUAL_SUBST (R124). -/
def State.spareClaimed (s : State) (b : Bay) : Bool := (s.claim (.sparePath b)).isSome

/-- The key of path record `p` of timing set `n` of a bay. -/
def tsetKey (b : Bay) (n p : Nat) : Nat := (b.val * 1024 + n) * 17 + p

/-- A path record of a timing set: record 16 is the substituted channel's while the spare path is claimed, and zeros
otherwise (R122, R124). -/
def State.tset (s : State) (b : Bay) (n p : Nat) : BitVec 320 :=
  if p < 16 then s.tsets.get (tsetKey b n p) 0
  else match s.spareClaimed b, (s.bay b).roll.target with
    | true, some k => s.tsets.get (tsetKey b n k.val) 0
    | _, _ => 0

end Sys2Proof.Machine
end

