-- ==== Sys2Proof/Machine/Channel.lean ====
section
/-! DEFINITION. Channel electronics, levels and guard windows (R149 to R186): selections and LOAD, the clear input, trip
latches, blanking, converter readback and the parametric unit, and the commands of this family. -/

namespace Sys2Proof.Machine

/-! ### Level codes (R156, R157) -/

/-- The legal codes of the eight levels, in sub order (R156). -/
def levelRange : List (Nat × Nat) :=
  [(39322, 222822), (39322, 222822), (39322, 222822), (26215, 249036), (26215, 249036), (65536, 249036),
    (26215, 196608), (39322, 222822)]

/-- Whether eight codes, in sub order, are legal codes and meet the three conditions of R157. -/
def levelsOk (l : List Nat) : Bool :=
  match l with
  | [vih, vil, vtt, voh, vol, vch, vcl, _] =>
    (l.zip levelRange).all (fun p => decide (p.2.1 ≤ p.1) && decide (p.1 ≤ p.2.2)) &&
      decide (vol ≤ voh) && decide (vcl + 13108 ≤ vch) &&
      [vih, vil, vtt].all (fun v => decide (vcl ≤ v) && decide (v ≤ vch))
  | _ => false

/-- The object offset of level `i` of level set `n` of a channel. -/
def setCode (n i : Nat) : Nat := (1 + n) * 256 + 1 + i
/-- The eight codes of level set `n`. -/
def State.levelSet (s : State) (c : Chan) (n : Nat) : List Nat := (List.range 8).map (fun i => s.getC c (setCode n i))
/-- The eight clear codes of a channel. -/
def State.clearCodes (s : State) (c : Chan) : List Nat := (List.range 8).map (fun i => s.getC c (RChan.CLEAR_CODE + i))
/-- The eight shadow codes of a channel. -/
def State.shadowCodes (s : State) (c : Chan) : List Nat := (List.range 8).map (fun i => s.getC c (RChan.SHADOW_CODE + i))

/-- Eight consecutive objects of a channel written from a list. -/
def State.setCodes (s : State) (c : Chan) (o : Nat) (l : List Nat) : State :=
  s.each l.zipIdx (fun s p => s.setC c (o + p.2) p.1)

/-- Notes that a DAC's commanded code changed, for the readback skip of R178: the instant and the converter's slot
count. -/
def State.noteCode (s : State) (c : Chan) (m : Fin 10) : State :=
  let conv : Fin 8 := ⟨c.val % 64 / 8, by omega⟩
  let n := (s.die (dieOf (bayOf c))).slotsRun.get conv
  s.modChan c (fun u => { u with cmdAt := u.cmdAt.set m.val (some (s.now, n)) m.isLt })

/-- The output codes of a channel written, noting each DAC whose code changes. -/
def State.setOutputs (s : State) (c : Chan) (l : List Nat) : State :=
  s.each (List.finRange 8) (fun s i =>
    let v := l.getD i.val 0
    if s.getC c (RChan.OUTPUT_CODE + i.val) = v then s
    else (s.setC c (RChan.OUTPUT_CODE + i.val) v).noteCode c ⟨i.val, by omega⟩)

/-- A selection of level set `n`: its codes go into the shadows of every channel of the bay (R159). -/
def State.selectLevels (s : State) (b : Bay) (n : Nat) : State :=
  (s.each (chansOf b) (fun s c => s.setCodes c RChan.SHADOW_CODE (s.levelSet c n))).setB b RBay.CURRENT_LVL n

/-- Whether a pin die's clear input is asserted (R164). -/
def State.clearOn (s : State) (b : Bay) : Bool := (s.die (dieOf b)).clear != 0

/-! ### The reference channel (R160) -/

/-- The converter that reads back a bay's reference channel: the even one of the bay's two (R177). -/
def refConv (b : Bay) : Fin 8 := ⟨2 * (b.val % 4), by omega⟩

/-- A change of what a bay's reference channel holds. -/
def State.modRef (s : State) (b : Bay) (f : RefChan → RefChan) : State := s.modBay b (fun u => { u with ref := f u.ref })

/-- The output codes of a bay's reference channel, noting each DAC whose code changes (R178). -/
def State.setRef (s : State) (b : Bay) (l : List Nat) : State :=
  let n := (s.die (dieOf b)).slotsRun.get (refConv b)
  s.modRef b (fun r => { r with
    out := l, cmdAt := Vector.ofFn (fun i => if r.out[i.val]? = l[i.val]? then r.cmdAt.get i else some (s.now, n)) })

/-- A LOAD copies the reference channel's shadows into its outputs as well (R160). -/
def State.loadRef (s : State) (b : Bay) : State := s.setRef b (s.bay b).ref.shadow

/-- Clear moves the reference channel's DACs to its clear codes, the pin die's reset values (R156, R164). DEDUCED (log 45). -/
def State.clearRef (s : State) (b : Bay) : State := s.setRef b (s.die (dieOf b)).refCodes

/-- The BCLK cycle a bay is in: the run's while it runs, else the clock's own. -/
def State.bclk (s : State) (b : Bay) : Bool × Nat :=
  if s.running b then (true, (s.bay b).cyc) else (false, s.now * (s.bay b).mhz / 1000000)

/-- The BCLK cycles of a bay, through its runs and between them. -/
def State.bclkAbs (s : State) (b : Bay) : Nat :=
  let u := s.bay b
  if s.running b then u.runTime * u.mhz / 1000000 + u.cyc else s.now * u.mhz / 1000000

/-- A LOAD strobe: every shadow of the bay goes to its output register, or is only counted while clear is asserted
(R160, R164).  LOADs of one BCLK cycle count once. -/
def State.load (s : State) (b : Bay) : State :=
  let s := if (s.bay b).loadCyc = some (s.bclk b) then s else s.incB b RBay.LOAD_COUNT
  let s := s.modBay b (fun u => { u with loadCyc := some (s.bclk b) })
  if s.clearOn b then s
  else (s.each (chansOf b) (fun s c => s.setOutputs c (s.shadowCodes c))).loadRef b

/-- A level set written: into the set, and into the shadows when it is the one selected (R159, R163). -/
def State.writeLevels (s : State) (c : Chan) (n : Nat) (l : List Nat) : State :=
  let s := s.setCodes c (setCode n 0) l
  if s.getB (bayOf c) RBay.CURRENT_LVL = n then s.setCodes c RChan.SHADOW_CODE l else s

/-! ### The parametric unit (R181 to R183) -/

/-- A measurement in progress ends with a status (R183). -/
def State.endMeas (s : State) (c : Chan) (status : Nat) : State :=
  let m := s.getC c RChan.MEAS_STATUS
  if m = 1 ∨ m = 2 then s.setC c RChan.MEAS_STATUS status else s

/-- The parametric unit of a channel is disconnected: PMU_MODE reads DISCONNECTED, its inhibit is released and a
measurement ends with ABORTED (R182, R183). -/
def State.pmuOff (s : State) (c : Chan) : State :=
  if s.getC c RChan.PMU_MODE = 0 then s.endMeas c 5
  else (((s.endMeas c 5).setC c RChan.PMU_MODE 0).setC c RChan.PMU_FLAGS 0).inhibit c 7 false

/-- Every parametric unit of a bay is disconnected: the bay entered OFF, SAFE or MAINT (R182). -/
def State.pmuOffBay (s : State) (b : Bay) : State := s.each (chansOf b) State.pmuOff

/-! ### The clear input (R164, R165) -/

/-- The CLEAR_STATE word of a die's clear sources (R185). -/
def clearWord (clear : Nat) : Nat := if clear = 0 then 0 else 1 + clear * 2

/-- CLEAR_STATE of every bay of a die follows its clear input. -/
def State.showClear (s : State) (d : Die) : State :=
  s.each (baysOf d) (fun s b => s.setB b RBay.CLEAR_STATE (clearWord (s.die d).clear))

/-- What asserting clear does to one channel: outputs to the clear codes, driver inhibited, load and parametric unit
disconnected with LOAD_EN and PMU_MODE reset, selector on its own path (R154, R164). -/
def State.clearChan (s : State) (c : Chan) : State :=
  ((((s.setOutputs c (s.clearCodes c)).inhibit c 5 true).setC c RChan.LOAD_EN 0).pmuOff c).setC c RChan.SELECTOR 0

/-- GUARD_STATE follows the comparators, the forcing and the readback marks (R185): bit 0 over, bit 1 under. -/
def State.showGuard (s : State) (c : Chan) : State :=
  let u := s.chan c
  let g := s.getC c RChan.GUARD_STATE
  let raw := (u.own ||| u.forced) % 4
  s.setC c RChan.GUARD_STATE
    (raw + fieldOf g 2 4 * 4 + (if u.forced = 0 then 0 else 64) + (if u.unver = 0 then 0 else 128))

/-- Both comparators of a channel start tripped and UNRESOLVED: supply valid, or the end of a bay assay (R173, R413). -/
def State.unresolve (s : State) (c : Chan) : State :=
  let s := s.modChan c (fun u => { u with own := 3 })
  ((s.setC c RChan.GUARD_STATE (s.getC c RChan.GUARD_STATE ||| 48)).inhibit c 4 true).showGuard c

/-- A bay assay in progress ends with ABORTED, and the lands it isolated have both comparators UNRESOLVED (R412, R413). -/
def State.assayAbort (s : State) (b : Bay) : State :=
  if s.getO (keyA b RAssay.BAY_ASSAY_STATUS) = 1 then
    (s.each (chansOf b) (fun s c => s.unresolve c)).setO (keyA b RAssay.BAY_ASSAY_STATUS) 3
  else s

/-- A clear source is asserted on a pin die (R164); a rolling step of its bays ends with ABORTED (R409), and so does a
bay assay (R412). -/
def State.assertClear (s : State) (d : Die) (src : Nat) : State :=
  let was := (s.die d).clear
  let s := (s.modDie d (fun u => { u with clear := orBit u.clear src })).showClear d
  if was ≠ 0 then s
  else s.each (baysOf d) (fun s b =>
    (((s.rollAbort b).each (chansOf b) State.clearChan).clearRef b).assayAbort b)

/-- A clear source is released; when none is left the inhibit goes, and outputs stay until the next LOAD (R165). -/
def State.releaseClear (s : State) (d : Die) (src : Nat) : State :=
  let s := (s.modDie d (fun u => { u with clear := clrBit u.clear src })).showClear d
  if (s.die d).clear ≠ 0 then s else s.each (baysOf d) (fun s b => s.inhibitBay b 5 false)

/-- The number of a clear source among the die's bits. -/
def clearBit : ClearSrc → Nat
  | .keeper => 0
  | .external => 1
  | .supply => 2

/-! ### Guard windows (R167 to R174) -/

/-- The number of a comparator: 0 over, 1 under. -/
def cmpNo (under : Bool) : Nat := if under then 1 else 0

/-- The trip scope of a comparator (R169): 0 MONITOR, 1 CHANNEL, 2 BAY. -/
def State.scopeOf (s : State) (c : Chan) (under : Bool) : Nat :=
  s.getC c (if under then RChan.SCOPE_LO else RChan.SCOPE_HI)

/-- Whether a comparator's trip latch is set. -/
def State.latchedTrip (s : State) (c : Chan) (under : Bool) : Bool := (s.getC c RChan.GUARD_STATE).testBit (2 + cmpNo under)

/-- The bays of a pin die on which a channel holds a trip latch, as the keeper's signal names them (R423). -/
def State.tripBays (s : State) (d : Die) : Nat :=
  (baysOf d).zipIdx.foldl (fun n p =>
    if (chansOf p.1).any (fun c => fieldOf (s.getC c RChan.GUARD_STATE) 2 2 ≠ 0) then orBit n p.2 else n) 0

/-- A trip latch is set with its scope's inhibit; a latch newly set is counted, BAY_TRIP_SOURCE keeps the first channel
that inhibited the bay, and the keeper is signalled (R170). -/
def State.setLatch (s : State) (c : Chan) (under : Bool) (scope : Nat) : State :=
  let b := bayOf c
  let fresh := !s.latchedTrip c under
  let s := s.flagC c RChan.GUARD_STATE (2 + cmpNo under)
  let s := if fresh then s.incC c RChan.TRIP_COUNT else s
  let s := if scope = 2 then
      let s := s.modChan c (fun u => { u with latchBay := orBit u.latchBay (cmpNo under) })
      let s := (s.inhibitBay b 3 true).setB b RBay.BAY_TRIP 1
      if s.getB b RBay.BAY_TRIP_SOURCE = 0xFF then s.setB b RBay.BAY_TRIP_SOURCE (c.val % 16) else s
    else s.inhibit c 2 true
  if fresh then
    s.send { unit := 0x130 + (dieOf b).val, kind := 0x3A, severity := 2, inject := false, epoch := 0, address := s.tripBays (dieOf b) }
  else s

/-- Clears both trip latches of a channel; the BAY-scope inhibit ends when no channel of the bay holds one (R171). -/
def State.clearLatches (s : State) (c : Chan) : State :=
  let b := bayOf c
  let s := s.setC c RChan.GUARD_STATE (clrBit (clrBit (s.getC c RChan.GUARD_STATE) 2) 3)
  let s := (s.modChan c (fun u => { u with latchBay := 0 })).inhibit c 2 false
  if (chansOf b).any (fun c => (s.chan c).latchBay ≠ 0) then s
  else ((s.inhibitBay b 3 false).setB b RBay.BAY_TRIP 0).setB b RBay.BAY_TRIP_SOURCE 0xFF

/-- Whether the pin-die supplies VPE, VPE_POS and VPE_NEG are valid, so that guard windows act (R173, R184). -/
def State.pinPower (s : State) : Bool := fieldOf (s.getO R.SUPPLY_STATE) 5 3 == 7

/-- Whether blanking runs on a bay (R175). -/
def State.blanking (s : State) (b : Bay) : Bool := s.getB b RBay.BLANK_ACTIVE == 1

/-- The guard condition of a channel as the bay island sees it: tripped or latched, withheld while blanking runs
(R174, R175). -/
def State.chanGuard (s : State) (c : Chan) : Bool := !s.blanking (bayOf c) && fieldOf (s.getC c RChan.GUARD_STATE) 0 4 != 0

/-- A comparator's entry into tripped, as it reaches the bay island: its channel event and the bay's wake, or, while
blanking runs, neither (R174, R175). -/
def State.guardEvent (s : State) (c : Chan) (under : Bool) : State :=
  let b := bayOf c
  if s.blanking b then s.modChan c (fun u => { u with withheld := orBit u.withheld (cmpNo under) })
  else
    let s := s.occur (evChan c (cmpNo under))
    if (s.getB b RBay.WAKE_MASK).testBit (c.val % 16) then s.occur (evBay b 9) else s

/-- The setting of a trip latch raises the channel's event as well; blanking withholds it (R174, R175). -/
def State.latchEvent (s : State) (c : Chan) (under : Bool) : State :=
  if s.blanking (bayOf c) then s.modChan c (fun u => { u with withheld := orBit u.withheld (cmpNo under) })
  else s.occur (evChan c (cmpNo under))

/-- Starts or restarts guard blanking, where the timer is claimed for it and BLANK_TIME is not 0 (R175). -/
def State.startBlank (s : State) (b : Bay) : State :=
  let t := s.getB b RBay.BLANK_TIME
  if s.claimedFor (.blankTimer b) 0x01 && t != 0 then
    (s.setB b RBay.BLANK_ACTIVE 1).modBay b (fun u => { u with timer := some (s.now + t * 10000) })
  else s

/-- Ends blanking: each comparator then tripped or latched, whose entry was withheld, raises its event once (R175). -/
def State.endBlank (s : State) (b : Bay) : State :=
  let s := (s.setB b RBay.BLANK_ACTIVE 0).modBay b (fun u => { u with timer := none })
  s.each (chansOf b) (fun s c =>
    let w := (s.chan c).withheld
    let g := s.getC c RChan.GUARD_STATE
    let s := s.modChan c (fun u => { u with withheld := 0 })
    let s := if w.testBit 0 && (g.testBit 0 || g.testBit 2) then s.occur (evChan c 0) else s
    if w.testBit 1 && (g.testBit 1 || g.testBit 3) then s.occur (evChan c 1) else s)

/-- A comparator enters tripped: it is no longer UNRESOLVED, and in CHANNEL or BAY scope its latch is set (R170, R173).
While a bay assay has the land isolated a trip does nothing (R413). -/
def State.tripNow (s : State) (c : Chan) (under : Bool) : State :=
  let i := cmpNo under
  if s.getO (keyA (bayOf c) RAssay.BAY_ASSAY_STATUS) = 1 then s
  else
    let newLatch := s.scopeOf c under ≠ 0 ∧ s.latchedTrip c under = false
    let s := s.modChan c (fun u => { u with
      own := orBit u.own i
      report := orBit (putBit (if newLatch then orBit u.report (2 + i) else u.report) (4 + i) (decide (s.scopeOf c under ≠ 0))) i })
    let s := s.setC c RChan.GUARD_STATE (clrBit (s.getC c RChan.GUARD_STATE) (4 + i))
    let s := if fieldOf (s.getC c RChan.GUARD_STATE) 4 2 = 0 then s.inhibit c 4 false else s
    let s := if s.scopeOf c under = 0 then s else s.setLatch c under (s.scopeOf c under)
    s.showGuard c

/-- CHANNEL_INHIBIT sets both trip latches of a channel with the channel's inhibit: one newly set is counted and raises the
channel's event (R170, R174, R427). -/
def State.latchBoth (s : State) (c : Chan) : State :=
  (s.each [false, true] (fun s under =>
    if s.latchedTrip c under then s
    else ((s.flagC c RChan.GUARD_STATE (2 + cmpNo under)).incC c RChan.TRIP_COUNT).latchEvent c under)).inhibit c 2 true

/-! ### Pin-die power-up (R154, R166, R173, R186) -/

/-- The objects of a channel that its pin die holds, and no other copy: output and load settings, the selector, level sets,
clear, output and shadow codes, guard thresholds and scopes, and the parametric unit (R186). -/
def pinHeld (o : Nat) : Bool :=
  (decide (RChan.OFF_MODE ≤ o) && decide (o ≤ RChan.IOH)) || o == RChan.SELECTOR || (decide (0x101 ≤ o) && decide (o ≤ 0x1008)) ||
    (decide (RChan.CLEAR_CODE ≤ o) && decide (o < RChan.SHADOW_CODE + 8)) || (decide (RChan.VG_HI ≤ o) && decide (o ≤ RChan.SCOPE_LO)) ||
    (decide (RChan.PMU_MODE ≤ o) && decide (o ≤ RChan.PMU_FLAGS))

/-- A channel's electronics after pin-die power-up: no latch, no forcing and no readback history, the parametric unit off, and
both comparators UNRESOLVED (R173). -/
def State.chanPowerUp (s : State) (c : Chan) : State :=
  let s := (s.pmuOff c).clearLatches c
  let s := s.modChan c (fun u => { u with
    forced := 0, unver := 0, report := 0, rbBad := Vector.replicate 10 0, rbGood := Vector.replicate 10 0,
    cmdAt := Vector.replicate 10 (some (s.now, 0)) })
  ((s.inhibit c 6 false).setC c RChan.RB_MISMATCH 0).unresolve c

/-- The pin dies' supplies become valid: what a pin die holds takes its reset values, the clear codes with the outputs at them
among them, its converters' frames start, and the keeper holds clear (R154, R166, R173). -/
def State.pinPowerUp (s : State) : State :=
  let s := s.each (List.finRange 256) State.chanPowerUp
  let s : State := { s with objs := s.objs.without (fun k =>
    decide (0x4000 * 256 ≤ k) && decide (k < 0x8000 * 256) && pinHeld (k % (0x40 * 256))) }
  s.each (List.finRange 4) (fun s d =>
    let s := s.modDie d (fun u => ({ clear := u.clear, temp := u.temp } : DieU))
    (s.each (baysOf d) (fun s b => s.modRef b (fun _ => {}))).assertClear d 0)

/-! ### Readback (R177 to R180) -/

/-- The bay channel place a converter slot serves, and its DAC, for the readback slots 0 to 79 (R177). -/
def convChan (d : Die) (conv : Fin 8) (j : Fin 8) : Chan := ⟨d.val * 64 + conv.val * 8 + j.val, by omega⟩

/-- The commanded value of DAC m of a channel in nV: a level code or a guard threshold code (R156, R167). -/
def State.commanded (s : State) (c : Chan) (m : Nat) : Int :=
  if m < 8 then -2500000000 + ((s.getC c (RChan.OUTPUT_CODE + m) : Int) * 10000000000).fdiv 262144
  else -3000000000 + (s.getC c (if m = 8 then RChan.VG_HI else RChan.VG_LO) : Int) * 11718750

/-- The readback tolerance of DAC m in nV (R178). -/
def State.tolerance (s : State) (b : Bay) (m : Nat) : Int :=
  if m < 8 then (s.getB b RBay.RB_TOL_LEVEL : Int) * 1000 else (s.getB b RBay.RB_TOL_GUARD : Int) * 11718750

/-- A guard threshold that fails readback forces its comparator into tripped and sets its latch, whatever its scope
(R179). -/
def State.forceGuard (s : State) (c : Chan) (under : Bool) : State :=
  let newLatch := !s.latchedTrip c under
  let s := s.modChan c (fun u => { u with forced := orBit u.forced (cmpNo under) })
  let s := s.setLatch c under (max 1 (s.scopeOf c under))
  let s := ((s.showGuard c).fault c.val 0x11 (8 + cmpNo under)).guardEvent c under
  if newLatch then s.latchEvent c under else s

/-- One readback of DAC m of a channel: a second consecutive mismatch sets its bit and is reported, a second consecutive
match clears it (R178 to R180). -/
def State.readback (s : State) (c : Chan) (m : Fin 10) (measured : Int) : State :=
  let b := bayOf c
  let err := measured * 1000 - s.commanded c m.val
  if err.natAbs > (s.tolerance b m.val).natAbs then
    let n := min 2 ((s.chan c).rbBad.get m + 1)
    let s := s.modChan c (fun u => { u with rbBad := u.rbBad.set m.val n m.isLt, rbGood := u.rbGood.set m.val 0 m.isLt })
    let s := s.setC c RChan.RB_LAST_ERROR (ofSigned 32 (err.fdiv 1000))
    if n = 2 ∧ (s.getC c RChan.RB_MISMATCH).testBit m.val = false then
      let s := s.flagC c RChan.RB_MISMATCH m.val
      if m.val < 8 then s.fault c.val 0x12 m.val else s.forceGuard c (m.val == 9)
    else s
  else
    let n := min 2 ((s.chan c).rbGood.get m + 1)
    let s := s.modChan c (fun u => { u with rbGood := u.rbGood.set m.val n m.isLt, rbBad := u.rbBad.set m.val 0 m.isLt })
    let s := if 8 ≤ m.val then (s.modChan c (fun u => { u with unver := clrBit u.unver (m.val - 8) })).showGuard c else s
    if n = 2 then
      let s := s.setC c RChan.RB_MISMATCH (clrBit (s.getC c RChan.RB_MISMATCH) m.val)
      if 8 ≤ m.val then (s.modChan c (fun u => { u with forced := clrBit u.forced (m.val - 8) })).showGuard c else s
    else s

/-- Whether a DAC's commanded code changed within the last 10 µs, by the clock or by the converter's 2 µs slots. -/
def State.settling (s : State) (c : Chan) (m : Fin 10) : Bool :=
  match (s.chan c).cmdAt.get m with
  | none => false
  | some (t, n) =>
    let conv : Fin 8 := ⟨c.val % 64 / 8, by omega⟩
    decide (s.now - t < 10000000) && decide ((s.die (dieOf (bayOf c))).slotsRun.get conv - n < 5)

/-- Whether a reference channel's DAC was commanded to another code within the last 10 µs. -/
def State.refSettling (s : State) (b : Bay) (m : Fin 8) : Bool :=
  match (s.bay b).ref.cmdAt.get m with
  | none => false
  | some (t, n) => decide (s.now - t < 10000000) && decide ((s.die (dieOf b)).slotsRun.get (refConv b) - n < 5)

/-- One readback of a level DAC of the reference channel (R177, R178).  Two mismatches or matches in a row set or clear its bit;
no object shows it, and the channel has no fault unit to report it to. DESIGN CHOICE (log 45). -/
def State.refReadback (s : State) (b : Bay) (m : Fin 8) (measured : Int) : State :=
  let err := measured * 1000 - (-2500000000 + (((s.bay b).ref.out.getD m.val 0 : Nat) * 10000000000 : Int).fdiv 262144)
  let off := decide ((s.tolerance b m.val).natAbs < err.natAbs)
  s.modRef b (fun r =>
    let bad := if off then min 2 (r.bad.get m + 1) else 0
    let good := if off then 0 else min 2 (r.good.get m + 1)
    { r with
      bad := r.bad.set m.val bad m.isLt, good := r.good.set m.val good m.isLt
      mis := if bad = 2 then orBit r.mis m.val else if good = 2 then clrBit r.mis m.val else r.mis })

/-! ### Measurements (R181 to R183) -/

/-- What the parametric unit forces on a land (R181): a voltage in nV, a current in pA, or nothing. -/
inductive Forced where
  | volts (nv : Int)
  | amps (pa : Int)
  | nothing
  deriving DecidableEq, Repr

/-- The full scale of a range in pA (R181, R186). -/
def rangeFull (range : Nat) : Int :=
  if range = 0 then 2000000 else if range = 1 then 20000000 else if range = 2 then 200000000
  else if range = 3 then 2000000000 else 40000000000

/-- What a channel's parametric unit forces: in FVMI its code maps as a level code, in FIMV it is a share of the range's full
scale (R156, R181). -/
def State.pmuForces (s : State) (c : Chan) : Forced :=
  let code : Int := s.getC c RChan.PMU_FORCE
  let mode := s.getC c RChan.PMU_MODE
  if mode = 1 then .volts (-2500000000 + (code * 10000000000).fdiv 262144)
  else if mode = 2 then .amps (((code - 131072) * rangeFull (s.getC c RChan.PMU_RANGE)).fdiv 131072)
  else .nothing

/-- Whether a channel's unit measures a current (R181). -/
def State.measCurrent (s : State) (c : Chan) : Bool := s.getC c RChan.PMU_MODE == 1

/-- A sample as the unit can show it: in FVMI the current is clamped at 110 % of the range (R181). -/
def State.sampleOf (s : State) (c : Chan) (x : Int) : Int :=
  if s.measCurrent c then
    let top := rangeFull (s.getC c RChan.PMU_RANGE) * 11 / 10
    max (-top) (min top x)
  else x

/-- The settle time of a range in ps (R183). -/
def settleTime (range : Nat) : Nat :=
  if range = 0 then 1000000000 else if range = 1 then 200000000 else if range = 2 then 50000000
  else if range = 3 then 20000000 else 10000000

/-- Whether a measurement's delay is over, by the clock or by the converter's 2 µs slots (R183). -/
def State.measSettled (s : State) (c : Chan) : Bool :=
  let u := s.chan c
  let conv : Fin 8 := ⟨c.val % 64 / 8, by omega⟩
  decide (u.measWait ≤ s.now - u.measAt.1) ||
    decide (u.measWait ≤ 2000000 * ((s.die (dieOf (bayOf c))).slotsRun.get conv - u.measAt.2))

/-- One parametric slot of a channel: while the unit is connected CLAMPED follows its clamps, and a measurement whose delay is
over takes a sample (R177, R181, R183). DESIGN CHOICE (log 46): the slot carries the clamps' state. -/
def State.measSlot (s : State) (c : Chan) (x : Int) (clamp : Bool) : State :=
  let m := s.getC c RChan.MEAS_STATUS
  let s := if s.getC c RChan.PMU_MODE = 0 then s else s.setC c RChan.PMU_FLAGS (putBit (s.getC c RChan.PMU_FLAGS) 0 clamp)
  if (m = 2 ∨ (m = 1 ∧ s.measSettled c = true)) ∧ (s.chan c).measLeft ≠ 0 then
    let x := s.sampleOf c x
    (s.setC c RChan.MEAS_STATUS 2).modChan c (fun u => { u with
      measLeft := u.measLeft - 1, measSum := u.measSum + x, clampHit := u.clampHit || clamp })
  else s

/-- A converter fails its self-check: its channels' thresholds become UNVERIFIED, measurements end with CONVERTER_FAIL,
a bay assay ends with ABORTED, and CONVERTER_CHECK is reported (R180, R412). -/
def State.convFails (s : State) (d : Die) (conv : Fin 8) : State :=
  let s := s.modDie d (fun u => { u with convFail := orBit u.convFail conv.val })
  let s := s.each (List.finRange 8) (fun s j =>
    let c := convChan d conv j
    ((s.modChan c (fun u => { u with unver := 3 })).showGuard c).endMeas c 6)
  let b := bayOf (convChan d conv 0)
  let s := if s.getO (keyA b RAssay.BAY_ASSAY_STATUS) = 1 then s.setO (keyA b RAssay.BAY_ASSAY_STATUS) 3 else s
  s.fault (0x130 + d.val) 0x39 conv.val

/-- The self-check slots 88 and 89: off by more than 2 mV in two consecutive frames fails the converter, two good frames
return it to service (R180). -/
def State.selfCheck (s : State) (d : Die) (conv : Fin 8) (slot : Nat) (measured : Int) : State :=
  let off := if slot = 88 then (measured - 5000000).natAbs > 2000 else measured.natAbs > 2000
  if slot = 88 then s.modDie d (fun u => { u with slotBad := putBit u.slotBad conv.val off })
  else
    let bad := off || (s.die d).slotBad.testBit conv.val
    if bad then
      let n := min 2 ((s.die d).convBad.get conv + 1)
      let s := s.modDie d (fun u => { u with convBad := u.convBad.set conv.val n conv.isLt, convGood := u.convGood.set conv.val 0 conv.isLt })
      if n = 2 ∧ (s.die d).convFail.testBit conv.val = false then s.convFails d conv else s
    else
      let n := min 2 ((s.die d).convGood.get conv + 1)
      let s := s.modDie d (fun u => { u with convGood := u.convGood.set conv.val n conv.isLt, convBad := u.convBad.set conv.val 0 conv.isLt })
      if n = 2 then s.modDie d (fun u => { u with convFail := clrBit u.convFail conv.val }) else s

/-- One 2 µs slot of a converter's frame (R177).  The bay's frame count moves at its odd converter's last slot. -/
def State.convSlot (s : State) (d : Die) (conv : Fin 8) (slot : Fin 512) (measured : Int) (clamp : Bool) : State :=
  let fail := (s.die d).convFail.testBit conv.val
  let s := s.modDie d (fun u => { u with slotsRun := u.slotsRun.set conv.val (u.slotsRun.get conv + 1) conv.isLt })
  let s := if h : slot.val < 80 then
      let c := convChan d conv ⟨slot.val / 10, by omega⟩
      let m : Fin 10 := ⟨slot.val % 10, by omega⟩
      if fail || s.settling c m then s else s.readback c m measured
    else if h : slot.val < 88 then
      let b := bayOf (convChan d conv 0)
      let m : Fin 8 := ⟨slot.val - 80, by omega⟩
      if conv.val % 2 = 1 ∨ fail = true ∨ s.refSettling b m = true then s else s.refReadback b m measured
    else if slot.val = 88 ∨ slot.val = 89 then s.selfCheck d conv slot.val measured
    else if 96 ≤ slot.val then
      if fail then s else s.measSlot (convChan d conv ⟨(slot.val - 96) % 8, by omega⟩) measured clamp
    else s
  if slot.val = 511 ∧ conv.val % 2 = 1 then
    let b := bayOf (convChan d conv 0)
    s.setB b RBay.RB_FRAMES ((s.getB b RBay.RB_FRAMES + 1) % 2 ^ 32)
  else s

/-! ### The commands' behaviours -/

/-- LVL_SELECT (R159): accepted in IDLE, MAINT and ARMED. -/
def State.lvlSelect (s : State) (b : Bay) (lvl : Nat) : State :=
  if 15 < lvl then s.answer ST.OUT_OF_RANGE
  else if s.quiet b || s.bst b == BS.ARMED then (s.selectLevels b lvl).ok
  else s.answer ST.STATE_LOCKED

/-- LOAD_REQUEST (R160): accepted in every state except OFF. -/
def State.loadRequest (s : State) (b : Bay) : State := (s.load b).ok

/-- A direct write of a level set (R157, R159): one code judged against the other seven, or SET_BLOCK as a whole. -/
def State.levelWrite (s : State) (c : Chan) (n : Nat) (w : LevelWrite) : State :=
  let new := match w with
    | .one i code => (s.levelSet c n).set i.val code.toNat
    | .block data => if data.length = 32 then (chunks 4 8 data).map ofBytes else []
  if !s.quiet (bayOf c) then s.answer ST.STATE_LOCKED
  else if levelsOk new then (s.writeLevels c n new).ok
  else s.answer ST.OUT_OF_RANGE

/-- The guard object a threshold command writes. -/
def guardObj : GuardReg → Nat
  | .hi => RChan.VG_HI
  | .lo => RChan.VG_LO
  | .hyst => RChan.HYST

/-- Whether a threshold write keeps its range and VG_HI at least 18 codes above VG_LO (R167). -/
def State.guardOk (s : State) (c : Chan) (w : GuardReg) (v : Nat) : Bool :=
  match w with
  | .hi => decide (v ≤ 1023) && decide (s.getC c RChan.VG_LO + 18 ≤ v)
  | .lo => decide (v + 18 ≤ s.getC c RChan.VG_HI)
  | .hyst => decide (v ≤ 3)

/-- A threshold or hysteresis takes its new value on the pin die (R172); a threshold DAC whose code changes is noted (R178). -/
def State.setGuard (s : State) (c : Chan) (w : GuardReg) (v : Nat) : State :=
  if s.getC c (guardObj w) = v then s
  else
    let s := s.setC c (guardObj w) v
    match w with
    | .hi => s.noteCode c 8
    | .lo => s.noteCode c 9
    | .hyst => s

/-- A threshold write, in any state but OFF (R167, R172). -/
def State.guardWrite (s : State) (c : Chan) (w : GuardReg) (v : Nat) : State :=
  if s.guardOk c w v then (s.setGuard c w v).ok else s.answer ST.OUT_OF_RANGE

/-- A clear code takes effect: stored, and driven at once while clear is asserted (R166) and in OFF (R184). -/
def State.setClearCode (s : State) (c : Chan) (i : Fin 8) (code : Nat) : State :=
  let s := s.setC c (RChan.CLEAR_CODE + i.val) code
  if s.clearOn (bayOf c) || s.bst (bayOf c) == BS.OFF then s.setOutputs c (s.clearCodes c) else s

/-- A clear code write: judged with the channel's other clear codes, stored in one ledger commit, in any bay state
(R157, R166, R354). -/
def State.clearCodeWrite (s : State) (c : Chan) (i : Fin 8) (code : Nat) (m : Sample) : State :=
  if levelsOk ((s.clearCodes c).set i.val code) then
    s.commitGate m s.ledgerClass 0x1C0 (fun s => (((s.ledgerWrite).setClearCode c i code).ledgerPut [keyC c (RChan.CLEAR_CODE + i.val)]).ok)
  else s.answer ST.OUT_OF_RANGE

/-- TRIP_CLEAR (R171): four conditions, else STATE_LOCKED. -/
def State.tripClear (s : State) (c : Chan) : State :=
  let st := s.bst (bayOf c)
  let g := s.getC c RChan.GUARD_STATE
  if (st == BS.SAFE || st == BS.IDLE || st == BS.MAINT) && fieldOf g 0 2 == 0 && fieldOf g 4 4 == 0 then
    (s.clearLatches c).ok
  else s.answer ST.STATE_LOCKED

/-- PMU_MODE (R182). -/
def State.pmuMode (s : State) (c : Chan) (mode : Nat) : State :=
  let st := s.bst (bayOf c)
  if 3 < mode then s.answer ST.OUT_OF_RANGE
  else if mode = 0 then (s.pmuOff c).ok
  else if st = BS.OFF ∨ st = BS.SAFE ∨ st = BS.MAINT ∨ s.clearOn (bayOf c) = true then s.answer ST.STATE_LOCKED
  else
    let s := if s.getC c RChan.PMU_MODE = mode then s else s.endMeas c 5
    (((s.setC c RChan.PMU_MODE mode).flagC c RChan.PMU_FLAGS 1).inhibit c 7 true).ok

/-- PMU_RANGE (R182): make-before-break while connected. -/
def State.pmuRange (s : State) (c : Chan) (range : Nat) : State :=
  if 4 < range then s.answer ST.OUT_OF_RANGE else (s.setC c RChan.PMU_RANGE range).ok

/-- MEAS_START (R183): begins or restarts a measurement with its delay, MEAS_DELAY or the settle time of its range; a failed
converter makes none (R180). -/
def State.measStart (s : State) (c : Chan) : State :=
  let conv : Fin 8 := ⟨c.val % 64 / 8, by omega⟩
  let d := s.getC c RChan.MEAS_DELAY
  let n := s.getC c RChan.MEAS_COUNT
  if (s.die (dieOf (bayOf c))).convFail.testBit conv.val then (s.setC c RChan.MEAS_STATUS 6).ok
  else
    ((s.setC c RChan.MEAS_STATUS 1).modChan c (fun u => { u with
      measAt := (s.now, (s.die (dieOf (bayOf c))).slotsRun.get conv)
      measWait := if d = 0 then settleTime (s.getC c RChan.PMU_RANGE) else d * 1000000
      measTotal := n, measLeft := n, measSum := 0, clampHit := false })).ok

/-- The mean of a measurement's samples in volts or amperes, as binary64 (R183, R186); samples are in µV or pA. -/
def State.measMean (s : State) (c : Chan) : BitVec 64 :=
  let u := s.chan c
  f64OfRatio u.measSum (u.measTotal * if s.measCurrent c then 10 ^ 12 else 10 ^ 6)

/-! ### Meanings -/

/-- LVL_SELECT (R159). -/
def execLvlSelect (b : Bay) (epoch : BitVec 16) (lvl : BitVec 8) (s : State) : Host.Outcome State Fault Refusal :=
  .next (s.hostBay b epoch (fun s => s.lvlSelect b lvl.toNat))

/-- LOAD_REQUEST (R160). -/
def execLoadRequest (b : Bay) (epoch : BitVec 16) (s : State) : Host.Outcome State Fault Refusal :=
  .next (s.hostBay b epoch (fun s => s.loadRequest b))

/-- LEVEL_SET_WRITE (R159). -/
def execLevelSetWrite (c : Chan) (epoch : BitVec 16) (set : Fin 16) (w : LevelWrite) (s : State) :
    Host.Outcome State Fault Refusal :=
  .next (s.hostChan c epoch (fun s => s.levelWrite c set.val w))

/-- GUARD_THRESHOLD_WRITE (R172). -/
def execGuardThresholdWrite (c : Chan) (epoch : BitVec 16) (which : GuardReg) (value : BitVec 16) (s : State) :
    Host.Outcome State Fault Refusal :=
  .next (s.hostChan c epoch (fun s => s.guardWrite c which value.toNat))

/-- CLEAR_CODE_WRITE (R166): the object is the pin die's and is written in any bay state, so only the module's state and
the epoch gate it. -/
def execClearCodeWrite (c : Chan) (epoch : BitVec 16) (level : Fin 8) (code : BitVec 32) (smp : Sample) (s : State) :
    Host.Outcome State Fault Refusal :=
  .next (s.hostModule (fun s =>
    if epoch.toNat ≠ s.getB (bayOf c) RBay.SITE_EPOCH then s.stale (bayOf c)
    else s.clearCodeWrite c level code.toNat smp))

/-- CLEAR_ASSERT (R164, R165): a source other than the keeper is reported and marks the sites of running bays. -/
def execClearAssert (die : Die) (src : ClearSrc) (s : State) : Host.Outcome State Fault Refusal :=
  .next (
    if (s.die die).clear.testBit (clearBit src) then s
    else
      let s := s.assertClear die (clearBit src)
      if src = .keeper then s
      else
        let s := s.fault (0x130 + die.val) 0x38 (clearWord (s.die die).clear)
        s.each (baysOf die) (fun s b => if s.running b then s.markSites b SS.INVALID else s))

/-- CLEAR_RELEASE (R165). -/
def execClearRelease (die : Die) (src : ClearSrc) (s : State) : Host.Outcome State Fault Refusal :=
  .next (if (s.die die).clear.testBit (clearBit src) then s.releaseClear die (clearBit src) else s)

/-- GUARD_TRIP (R170): the comparator was not tripped, or was UNRESOLVED; guard windows act while the pin-die supplies
are valid (R184). -/
def execGuardTrip (c : Chan) (under : Bool) (s : State) : Host.Outcome State Fault Refusal :=
  let i := cmpNo under
  .next (
    if s.pinPower && (!(s.chan c).own.testBit i || (s.getC c RChan.GUARD_STATE).testBit (4 + i)) then s.tripNow c under
    else s)

/-- GUARD_TRIP_REPORT (R170, R174): the trip status reaches the bay island 4 BCLK later; a trip in CHANNEL or BAY scope is
reported and marks the site of a running bay. -/
def execGuardTripReport (c : Chan) (under : Bool) (s : State) : Host.Outcome State Fault Refusal :=
  let b := bayOf c
  let i := cmpNo under
  .next (
    if !(s.chan c).report.testBit i then s
    else if !s.locked b.val then (s.modChan c (fun u => { u with report := clrBit u.report i })).dropEvent b.val
    else
      let newLatch := (s.chan c).report.testBit (2 + i)
      let trips := (s.chan c).report.testBit (4 + i)
      let s := s.modChan c (fun u => { u with report := clrBit (clrBit (clrBit u.report i) (2 + i)) (4 + i) })
      let s := if trips then
          let s := s.fault c.val 0x10 ((1 <<< i) + if (s.chan c).latchBay.testBit i then 4 else 0)
          if s.running b then s.invalidChan c else s
        else s
      let s := s.guardEvent c under
      if newLatch then s.latchEvent c under else s)

/-- GUARD_UNTRIP (R167): a comparator that is UNRESOLVED stays so, and one that readback forces stays forced. -/
def execGuardUntrip (c : Chan) (under : Bool) (s : State) : Host.Outcome State Fault Refusal :=
  let i := cmpNo under
  .next (
    if (s.getC c RChan.GUARD_STATE).testBit (4 + i) then s
    else (s.modChan c (fun u => { u with own := clrBit u.own i })).showGuard c)

/-- GUARD_RESOLVE (R173). -/
def execGuardResolve (c : Chan) (under : Bool) (s : State) : Host.Outcome State Fault Refusal :=
  let i := cmpNo under
  .next (
    if s.pinPower && (s.getC c RChan.GUARD_STATE).testBit (4 + i) then
      let s := s.setC c RChan.GUARD_STATE (clrBit (s.getC c RChan.GUARD_STATE) (4 + i))
      let s := if fieldOf (s.getC c RChan.GUARD_STATE) 4 2 = 0 then s.inhibit c 4 false else s
      (s.modChan c (fun u => { u with own := clrBit u.own i })).showGuard c
    else s)

/-- TRIP_CLEAR (R171). -/
def execTripClear (c : Chan) (epoch : BitVec 16) (s : State) : Host.Outcome State Fault Refusal :=
  .next (s.hostChan c epoch (fun s => s.tripClear c))

/-- Time moves on to the instant an expiry stands for. -/
def State.advance (s : State) (t : Nat) : State := { s with now := max s.now t }

/-- BLANK_EXPIRY (R175): the window that runs ends. -/
def execBlankExpiry (b : Bay) (s : State) : Host.Outcome State Fault Refusal :=
  .next (match (s.bay b).timer with
    | some t => if s.blanking b then (s.advance t).endBlank b else s
    | none => s)

/-- LOAD_TIMER_EXPIRY (R176): the running timer claimed for LOAD_TIMER issues a LOAD. -/
def execLoadTimerExpiry (b : Bay) (s : State) : Host.Outcome State Fault Refusal :=
  .next (match (s.bay b).timer with
    | some t =>
      if s.claimedFor (.blankTimer b) 0x02 then ((s.advance t).modBay b (fun u => { u with timer := none })).load b else s
    | none => s)

/-- CONTROL_LINK_LOST (R151, R184): the pin die inhibits the bay, switches its loads and parametric units off, holds the
outputs and signals the keeper. -/
def execControlLinkLost (b : Bay) (s : State) : Host.Outcome State Fault Refusal :=
  .next (
    if s.pinPower then
      ((s.inhibitBay b 6 true).pmuOffBay b).send
        { unit := 0x130 + (dieOf b).val, kind := 0x3B, severity := 2, inject := false, epoch := 0, address := 1 <<< (b.val % 4) }
    else s)

/-- CONVERTER_SLOT (R177): `measured` is in µV, in a slot of a unit that measures current in pA (R181). -/
def execConverterSlot (die : Die) (conv : Fin 8) (slot : Fin 512) (measured : Int) (clamp : Bool) (s : State) :
    Host.Outcome State Fault Refusal :=
  .next (if s.pinPower then s.convSlot die conv slot measured clamp else s)

/-- PMU_MODE_WRITE (R182). -/
def execPmuModeWrite (c : Chan) (epoch : BitVec 16) (mode : BitVec 8) (s : State) : Host.Outcome State Fault Refusal :=
  .next (s.hostChan c epoch (fun s => s.pmuMode c mode.toNat))

/-- PMU_RANGE_WRITE (R182). -/
def execPmuRangeWrite (c : Chan) (epoch : BitVec 16) (range : BitVec 8) (s : State) : Host.Outcome State Fault Refusal :=
  .next (s.hostChan c epoch (fun s => s.pmuRange c range.toNat))

/-- MEAS_START (R183). -/
def execMeasStart (c : Chan) (epoch : BitVec 16) (s : State) : Host.Outcome State Fault Refusal :=
  .next (s.hostChan c epoch (fun s => s.measStart c))

/-- MEAS_DONE (R183): once every sample is taken the mean is stored with DONE, or with CLAMPED when a clamp acted during
sampling. -/
def execMeasDone (c : Chan) (s : State) : Host.Outcome State Fault Refusal :=
  .next (
    if s.getC c RChan.MEAS_STATUS = 2 ∧ (s.chan c).measLeft = 0 then
      (s.setC c RChan.MEAS_RESULT (s.measMean c).toNat).setC c RChan.MEAS_STATUS (if (s.chan c).clampHit then 4 else 3)
    else s)

end Sys2Proof.Machine
end

