-- ==== Sys2Proof/Machine/Capture.lean ====
section
/-! DEFINITION. Fail tracking, capture streams, frames, windows and the capture trigger (R187 to R216), and the commands
of this family that stand alone. -/

namespace Sys2Proof.Machine

/-! ### Fail tracking (R187 to R190) -/

/-- A bay's time in tu as network time, from the copies the bay last refreshed (R338, R340): its time at RUN in ps plus the tu,
4,000 of which at a BCLK of f MHz last 1,000,000/f ps (R117). -/
def State.tuTime (s : State) (b : Bay) (tu : Int) : Nat :=
  s.stampAt (0x100 + b.val) ((s.bay b).runTime + (tu * 250).fdiv (s.bay b).mhz)

/-- The first-fail record's 32 bytes (R188). -/
def firstFailBytes : Option FirstFail → Bytes
  | none => toBytes 32 0
  | some f =>
    toBytes 32 (f.v.cycle % 2 ^ 40 + (f.v.entry <<< 40) + (f.v.row <<< 53) + (f.v.granule <<< 56) + ((f.v.pass - 1) <<< 84) +
      (f.quads <<< 108) + (f.chans <<< 112) + (f.strobes <<< 128) + (f.time <<< 192))

/-- Whether a quad is retired (R27). -/
def State.retired (s : State) (b : Bay) (q : Nat) : Bool := (s.getB b RBay.QUADS_RETIRED).testBit q

/-- A vector's record changed, where the vector is still kept. -/
def State.modVec (s : State) (b : Bay) (cycle : Nat) (f : VRec → VRec) : State :=
  s.modBay b (fun u => { u with vrecs := u.vrecs.map (fun r => if r.v.cycle = cycle then f r else r) })

/-- A first-fail record for a vector: opened at the first failing vector, added to while the strobes of that vector
still arrive, and left alone afterwards (R188). -/
def addFail (o : Option FirstFail) (v : VInfo) (q c k time : Nat) : Option FirstFail :=
  match o with
  | none => some { v := v, quads := 1 <<< q, chans := 1 <<< c, strobes := 1 <<< (4 * c + k), time := time }
  | some f =>
    if f.v.cycle = v.cycle then
      some { f with quads := orBit f.quads q, chans := orBit f.chans c, strobes := orBit f.strobes (4 * c + k) }
    else some f

/-- A running bay is frozen from a cycle on (R187). -/
def State.freezeAt (s : State) (b : Bay) (f : Nat) : State :=
  if (s.bay b).frozen.isSome || !s.running b then s
  else
    let s := (s.modBay b (fun u => { u with frozen := some f })).setB b RBay.STOPPED_ON_FAIL 1
    (s.markSites b SS.STOPPED).occur (evBay b 3)

/-- The freeze of stop on first fail: after the fourth BCLK from the strobe cycle, the ninth in a MULTI_BAY site and the
twenty-eighth in a MULTI_MODULE site; every member bay freezes alike (R189). -/
def State.freeze (s : State) (b : Bay) (strobeCycle : Nat) : State :=
  let site := (s.sitesOf b).find? (fun i => 3 ≤ s.siteKind i)
  match site with
  | none => s.freezeAt b (strobeCycle + 3)
  | some i => s.each (s.members i) (fun s m => s.freezeAt m (strobeCycle + if s.siteKind i = 3 then 8 else 27))

/-- Whether a vector has failed before on one of some channels: a bay or quad counts each vector in which it failed once, however
the strobes of its vectors interleave (R187). -/
def failedBefore (rs : List VRec) (chans : Nat) (cycle : Nat) : Bool :=
  rs.any (fun r => r.v.cycle == cycle && (List.range 16).any (fun c => chans.testBit c && fieldOf r.fails (4 * c) 4 != 0))

/-- The channels of a bay that FAIL_MASK does not select, in a quad or in all (R187). -/
def State.countedChans (s : State) (b : Bay) (q : Option Nat) : Nat :=
  (List.range 16).foldl (fun n c =>
    if (s.getB b RBay.FAIL_MASK).testBit c = false ∧ q.all (fun x => c / 4 == x) = true then orBit n c else n) 0

/-- A time since the bay entered ARMED, in ps times its BCLK in MHz, of a time in tu since RUN (R117). -/
def State.sinceArmed (s : State) (b : Bay) (tu : Int) : Int :=
  let u := s.bay b
  ((u.runTime : Int) - u.armedAt) * u.mhz + tu * 250

/-- The instant of a failing strobe that lands at a time in tu. -/
def State.failHit (s : State) (b : Bay) (v : VInfo) (at_ : Int) : TrigHit := ⟨v.cycle, (at_ - v.start).toNat, s.sinceArmed b at_⟩

/-- BAY_FAIL_VECTORS has grown: where it reaches TRIG_FAIL_COUNT, the failing strobe is a FAIL_COUNT trigger's instant (R201). -/
def State.reachCount (s : State) (b : Bay) (v : VInfo) (at_ : Int) : State :=
  if s.getB b RBay.TRIG_SOURCE = 3 ∧ s.getB b RBay.BAY_FAIL_VECTORS = s.getB b RBay.TRIG_FAIL_COUNT then
    s.modBay b (fun u => { u with countHit := some (s.failHit b v at_) })
  else s

/-- Another failing strobe of the vector that reached the count: the earliest one is the instant (R201). -/
def State.sameCount (s : State) (b : Bay) (v : VInfo) (at_ : Int) : State :=
  s.modBay b (fun u => { u with countHit := u.countHit.map (fun h =>
    if h.cycle = v.cycle ∧ s.sinceArmed b at_ < h.x then s.failHit b v at_ else h) })

/-- A fail of strobe `k` of channel `c` in vector `v` is credited (R187 to R190): the channel's count always; unless
FAIL_MASK selects the channel, the quad's and the bay's vectors and first-fail records, the
site's FAIL, stop on first fail and retire on fail. -/
def State.creditFail (s : State) (c : Chan) (k : Nat) (v : VInfo) (strobeCycle : Nat) (at_ : Int) : State :=
  let b := bayOf c
  let cc := c.val % 16
  let q : Fin 4 := ⟨c.val % 16 / 4, by omega⟩
  let s := s.incC c RChan.STROBE_FAIL_COUNT
  let quadNew := !failedBefore (s.bay b).vrecs (s.countedChans b (some q.val)) v.cycle && (s.bay b).quadVec.get q != some v.cycle
  let bayNew := !failedBefore (s.bay b).vrecs (s.countedChans b none) v.cycle && (s.bay b).bayVec != some v.cycle
  let s := s.modVec b v.cycle (fun r => { r with fails := orBit r.fails (4 * cc + k) })
  if (s.getB b RBay.FAIL_MASK).testBit cc then s
  else
    let t := s.tuTime b v.start
    let first := (s.bay b).firstFail.isNone
    let quadFirst := ((s.bay b).quadFirst.get q).isNone
    let s := if quadNew then s.setB b (RBay.QUAD_FAIL_VECTORS + q.val) ((s.getB b (RBay.QUAD_FAIL_VECTORS + q.val) + 1) % 2 ^ 64) else s
    let s := if bayNew then (s.setB b RBay.BAY_FAIL_VECTORS ((s.getB b RBay.BAY_FAIL_VECTORS + 1) % 2 ^ 64)).reachCount b v at_
      else s.sameCount b v at_
    let s := s.modBay b (fun u => { u with
      quadVec := u.quadVec.set q.val (some v.cycle) q.isLt, bayVec := some v.cycle,
      firstFail := addFail u.firstFail v q.val cc k t,
      quadFirst := u.quadFirst.set q.val (addFail (u.quadFirst.get q) v q.val cc k t) q.isLt,
      quadFailed := orBit u.quadFailed q.val })
    let s := match s.siteOfChan c with
      | some i => s.markSite i SS.FAIL
      | none => s
    let s := if first then s.occur (evBay b 4) else s
    let quadSite := (s.siteOfChan c).any (fun i => s.siteKind i == 1)
    let retireOn := quadSite && (s.getB b RBay.RETIRE_ON_FAIL).testBit q.val
    let s := if quadFirst && retireOn then s.modBay b (fun u => { u with retiring := u.retiring ++ [(1 <<< q.val, strobeCycle + 2)] }) else s
    if s.getB b RBay.STOP_ON_FAIL == 1 && !retireOn && !v.sofd then s.freeze b strobeCycle else s

/-- The result of a compare strobe enters the last-compared state of its channel, quad and bay (R102): a later vector
starts it afresh, a strobe of the same vector adds to it. -/
def mergeCmp (o : Option (Nat × Bool)) (cycle : Nat) (fail : Bool) : Option (Nat × Bool) :=
  match o with
  | none => some (cycle, fail)
  | some (n, f) => if n < cycle then some (cycle, fail) else if n = cycle then some (n, f || fail) else some (n, f)

/-- Match vectors, newest first, without those older than one whose strobes have all come. -/
def pruneMatch : List MatchVec → List MatchVec
  | [] => []
  | m :: rest => if m.pend = 0 then [m] else m :: pruneMatch rest

/-- The place of a channel within its bay. -/
def placeOf (c : Chan) : Fin 16 := ⟨c.val % 16, Nat.mod_lt _ (by decide)⟩

/-- A strobe's result is on its way to the conditions: it is registered there at the end of the fourth cycle counted from the
strobe's (R17). -/
def State.queueCmp (s : State) (c : Chan) (k : Nat) (v : VInfo) (strobeCycle : Nat) (what : CmpWhat) : State :=
  s.modBay (bayOf c) (fun u => { u with cmpQ := u.cmpQ ++ [⟨strobeCycle + 3, placeOf c, k, v.cycle, what⟩] })

/-- A strobe's result is registered at the conditions (R99, R102): a match compare counts toward the match conditions only, a
compare toward the fail conditions, of its quad and bay where its channel is not masked and its quad not retired (R187). -/
def State.registerCmp (s : State) (b : Bay) (r : CmpRes) : State :=
  let c := chanOf b r.chan
  match r.what with
  | .data high low => s.modChan c (fun u => { u with data := high, dataLow := low })
  | .match_ fail =>
    let i := 4 * r.chan.val + r.num
    s.modBay b (fun u => { u with
      matchVecs := pruneMatch (u.matchVecs.map (fun m =>
        if m.cycle = r.cycle then { m with pend := clrBit m.pend i, bad := if fail then orBit m.bad i else m.bad } else m)) })
  | .compare fail =>
    let q : Fin 4 := ⟨r.chan.val / 4, by omega⟩
    let s := s.modChan c (fun u => { u with cmpVec := mergeCmp u.cmpVec r.cycle fail })
    if (s.getB b RBay.FAIL_MASK).testBit r.chan.val || s.retired b q.val then s
    else s.modBay b (fun u => { u with
      bayCmp := mergeCmp u.bayCmp r.cycle fail
      quadCmp := u.quadCmp.set q.val (mergeCmp (u.quadCmp.get q) r.cycle fail) q.isLt
      runFailed := u.runFailed || fail })

/-- The results due by the end of a cycle are registered, in the order they came. -/
def State.registerDue (s : State) (b : Bay) (cyc : Nat) : State :=
  let due := (s.bay b).cmpQ.filter (fun r => decide (r.due ≤ cyc))
  (s.modBay b (fun u => { u with cmpQ := u.cmpQ.filter (fun r => !decide (r.due ≤ cyc)) })).each due (fun s r => s.registerCmp b r)

/-- A compare of strobe `k` of channel `c` in vector `v` has its result.  A match compare counts only toward the match
conditions (R99); any other is compared and a fail credited (R187); a retired quad compares nothing (R27, R187). -/
def State.compared (s : State) (c : Chan) (k : Nat) (v : VInfo) (strobeCycle : Nat) (at_ : Int) (fail : Bool) : State :=
  let b := bayOf c
  let cc := c.val % 16
  match v.matchOf with
  | some set =>
    if (s.getB b (RBay.MATCH_MASK + set)).testBit (4 * cc + k) then s.queueCmp c k v strobeCycle (.match_ fail) else s
  | none =>
    if s.retired b (cc / 4) then s
    else
      let s := s.queueCmp c k v strobeCycle (.compare fail)
      if fail then s.creditFail c k v strobeCycle at_ else s

/-- The fail, match and capture state that entry to ARMED clears (R188, R214). -/
def State.clearFails (s : State) (b : Bay) : State :=
  let s := s.each [RBay.BAY_FAIL_VECTORS, RBay.STOPPED_ON_FAIL, RBay.QUAD_FAIL_VECTORS, RBay.QUAD_FAIL_VECTORS + 1,
    RBay.QUAD_FAIL_VECTORS + 2, RBay.QUAD_FAIL_VECTORS + 3, RBay.CYCLE_COUNT] (fun s o => s.setB b o 0)
  let s := s.each (chansOf b) (fun s c => (s.setC c RChan.STROBE_FAIL_COUNT 0).modChan c (fun u => { u with cmpVec := none, data := false, dataLow := false }))
  s.modBay b (fun u => { u with
    vrecs := [], firstFail := none, quadFirst := Vector.replicate 4 none, bayVec := none,
    quadVec := Vector.replicate 4 none, bayCmp := none, quadCmp := Vector.replicate 4 none, quadFailed := 0,
    matchVecs := [], runFailed := false, cmpQ := [] })

/-! ### Streams and frames (R191 to R200) -/

/-- The number of a capture mode, from 0 (R191: FAIL_LOG is mode 1). -/
def capNo : CapMode → Fin 5
  | .failLog => 0
  | .failMap => 1
  | .history => 2
  | .scope => 3
  | .data => 4

/-- A stream object of a bay. -/
def State.getCap (s : State) (b : Bay) (m : Fin 5) (o : Nat) : Nat := s.getO (keyCap b m o)
/-- A stream object of a bay written. -/
def State.setCap (s : State) (b : Bay) (m : Fin 5) (o v : Nat) : State := s.setO (keyCap b m o) v
/-- A change of a stream's state. -/
def State.modCap (s : State) (b : Bay) (m : Fin 5) (f : CapStream → CapStream) : State :=
  s.modBay b (fun u => { u with caps := u.caps.set m.val (f (u.caps.get m)) m.isLt })
/-- A stream's state. -/
def State.cap (s : State) (b : Bay) (m : Fin 5) : CapStream := (s.bay b).caps.get m

/-- Whether a stream writes a window: HISTORY and SCOPE always, FAIL_MAP and DATA when started by trigger (R191). -/
def State.windowed (s : State) (b : Bay) (m : Fin 5) : Bool :=
  m == 2 || m == 3 || (m != 0 && s.getCap b m RCap.START == 2)
/-- Whether the capture trigger starts a stream's window: SCOPE, and FAIL_MAP and DATA with START TRIGGER (R203). -/
def State.byTrigger (s : State) (b : Bay) (m : Fin 5) : Bool := m == 3 || ((m == 1 || m == 4) && s.getCap b m RCap.START == 2)

/-- The channels of a mask, in ascending order. -/
def maskChans (mask : Nat) : List Nat := (List.range 16).filter (fun c => mask.testBit c)

/-- The routes SCOPE uses: those whose ROUTE_CHANNEL names a bay channel (R200). -/
def State.scopeRoutes (s : State) (b : Bay) : List Nat :=
  (List.range 2).filter (fun r => s.getB b (RBay.ROUTE_CHANNEL + r) < 16)

/-- Units per payload block (R197 to R200). -/
def State.unitsPerBlock (s : State) (b : Bay) (m : Fin 5) : Nat :=
  let n := (maskChans (s.getCap b m RCap.CHANNEL_MASK)).length
  match m with
  | 1 => 128 / n
  | 3 => 256 / (s.scopeRoutes b).length
  | 4 => 256 / n
  | _ => 1

/-- The partitions of an SRAM stream, in ascending order. -/
def State.partsOf (s : State) (b : Bay) (m : Fin 5) : List Nat :=
  (List.range 8).filter (fun p => (s.getCap b m RCap.PARTITIONS).testBit p)
/-- The frames a stream's buffer holds (R192). -/
def State.frames (s : State) (b : Bay) (m : Fin 5) : Nat :=
  if s.getCap b m RCap.DEST = 1 then s.getCap b m RCap.HBM_FRAMES else 16 * (s.partsOf b m).length
/-- The address of frame slot `n` of a stream's buffer (R192, R273). -/
def State.frameAddr (s : State) (b : Bay) (m : Fin 5) (n : Nat) : Nat :=
  if s.getCap b m RCap.DEST = 1 then s.getCap b m RCap.HBM_BASE + n * 4096
  else 0x1000000000 + b.val * 0x80000 + (s.partsOf b m).getD (n / 16) 0 * 0x10000 + n % 16 * 4096

/-- Whether a vector's record holds a DATA row for a mask: a selected channel has CAPTURE in either slot (R198). -/
def hasData (mask : Nat) (r : VRec) : Bool := (maskChans mask).any (fun c => fieldOf r.capSlot (2 * c) 2 != 0)

/-- The row FAIL_MAP writes for a vector (R197). -/
def failRow (mask : Nat) (r : VRec) : Nat :=
  (maskChans mask).zipIdx.foldl (fun n p => n + (fieldOf r.fails (4 * p.1) 4 <<< (4 * p.2))) 0
/-- The row DATA writes for a vector: 0 for a slot with a CAPTURE strobe that was late, suppressed or absent (R198). -/
def dataRow (mask : Nat) (r : VRec) : Nat :=
  (maskChans mask).zipIdx.foldl (fun n p => n + (fieldOf (r.capData &&& r.capGot &&& r.capSlot &&& (2 ^ 32 - 1 - r.capBad % 2 ^ 32)) (2 * p.1) 2 <<< (2 * p.2))) 0

/-- Rows of `w` bits packed into 64-byte blocks (R54). -/
def packRows (w : Nat) (rows : List Nat) : Bytes :=
  let r := 512 / w
  let blocks := ceilDiv rows.length r
  (List.range blocks).flatMap (fun i =>
    toBytes 64 (((rows.drop (i * r)).take r).zipIdx.foldl (fun n p => n + (p.1 <<< (p.2 * w))) 0))

/-- The bay channels that failed in a vector. -/
def chanFails (r : VRec) : Nat := (List.range 16).foldl (fun n c => if fieldOf r.fails (4 * c) 4 = 0 then n else orBit n c) 0

/-- The records of a span of consecutive vectors. -/
def spanOf (rs : List VRec) (lo n : Nat) : List VRec := rs.filter (fun r => decide (lo ≤ r.v.cycle) && decide (r.v.cycle < lo + n))

/-- A FAIL_LOG record of a span (R196). -/
def failLogRecord (mask lo n : Nat) (rs : List VRec) : Bytes :=
  let sp := spanOf rs lo n
  let rowsIn := sp.filter (fun r => r.v.kind == 0)
  let first := (rowsIn.head?.orElse (fun _ => sp.head?)).getD {}
  let lastR := (rowsIn.getLast?).getD first
  let chans := maskChans mask
  let masks := sp.foldl (fun a r =>
    let f := chanFails r
    a + ((if n = 16 then f
      else chans.zipIdx.foldl (fun x p => if f.testBit p.1 then orBit x p.2 else x) 0) <<< ((if n = 16 then 16 else 8) * (r.v.cycle - lo)))) 0
  let kinds := sp.foldl (fun a r => a + (r.v.kind <<< (2 * (r.v.cycle - lo)))) 0
  toBytes 64 (first.v.entry + (if n = 32 then 1 <<< 13 else 0) + (if rowsIn.any (fun r => r.v.entry != first.v.entry) then 1 <<< 14 else 0) +
    ((first.v.pass - 1) <<< 16) + (first.v.granule <<< 40) + (first.v.row <<< 68) + (if rowsIn.isEmpty then 1 <<< 71 else 0) +
    ((lo % 2 ^ 40) <<< 72) + (lastR.v.entry <<< 112) + (masks <<< 128) + (kinds <<< 384) + ((first.rows % 2 ^ 64) <<< 448))

/-- A HISTORY block of 8 vectors (R199). -/
def historyBlock (lo : Nat) (rs : List VRec) : Bytes :=
  let sp := spanOf rs lo 8
  let rowsIn := sp.filter (fun r => r.v.kind == 0)
  let first := (rowsIn.head?.orElse (fun _ => sp.head?)).getD {}
  let fails := sp.foldl (fun a r => a + (chanFails r <<< (16 * (r.v.cycle - lo)))) 0
  let levels := sp.foldl (fun a r => a + (r.level <<< (16 * (r.v.cycle - lo)))) 0
  let kinds := sp.foldl (fun a r => a + (r.v.kind <<< (2 * (r.v.cycle - lo)))) 0
  toBytes 64 (lo % 2 ^ 40 + (first.v.entry <<< 40) + (first.v.row <<< 53) + ((first.v.pass - 1) <<< 56) + (first.v.granule <<< 80) +
    (if rowsIn.isEmpty then 1 <<< 108 else 0) + (fails <<< 128) + (levels <<< 256) + (kinds <<< 384))

/-- The first cycle counts of the spans of `n` vectors that a range of vectors touches. -/
def spanStarts (n lo hi : Nat) : List Nat := (List.range (ceilDiv hi n)).map (· * n) |>.filter (fun k => decide (lo < k + n))

/-- The payload of a stream for the vectors from one cycle count up to another, of SCOPE for the samples from one number up to
another, and its units (R196 to R200). -/
def State.payload (s : State) (b : Bay) (m : Fin 5) (lo hi : Nat) : Bytes × Nat :=
  let mask := s.getCap b m RCap.CHANNEL_MASK
  let n := (maskChans mask).length
  let rs := (s.bay b).vrecs.filter (fun r => decide (lo ≤ r.v.cycle) && decide (r.v.cycle < hi))
  match m with
  | 0 =>
    let w := if 8 < n then 16 else 32
    let spans := (spanStarts w lo hi).filter (fun k => (spanOf rs k w).any (fun r => (chanFails r &&& mask) != 0))
    (spans.flatMap (fun k => failLogRecord mask k w rs), spans.length)
  | 1 => (packRows (4 * n) (rs.map (failRow mask)), rs.length)
  | 2 =>
    let blocks := spanStarts 8 lo hi
    (blocks.flatMap (fun k => historyBlock k rs), blocks.length)
  | 3 =>
    let p := s.cap b m
    let smp := (p.samples.drop (lo - (p.sampled - p.samples.length))).take (hi - lo)
    (packRows (2 * (s.scopeRoutes b).length) smp, smp.length)
  | 4 =>
    let dr := rs.filter (hasData mask)
    (packRows (2 * n) (dr.map (dataRow mask)), dr.length)

/-- The pack field of a frame header (R193): log2 of the selected channels; for SCOPE the interval and routes. -/
def State.packField (s : State) (b : Bay) (m : Fin 5) : Nat :=
  if m = 3 then s.getB b RBay.SCOPE_INTERVAL + (((s.scopeRoutes b).length - 1) <<< 2)
  else Nat.log2 (maskChans (s.getCap b m RCap.CHANNEL_MASK)).length

/-- The site tags of the four quads (R193). -/
def State.quadTags (s : State) (b : Bay) : Nat :=
  (List.finRange 4).foldl (fun n q =>
    match s.siteOfChan (chanOf b ⟨4 * q.val, by omega⟩) with
    | some i => n + (s.getS i RSite.SYSTEM_TAG <<< (32 * q.val))
    | none => n) 0

/-! ### Times of a bay since ARMED (R200, R201, R204) -/

/-- Now, since the bay entered ARMED, in ps times its BCLK in MHz; while the bay runs, the BCLK edge it has come to. -/
def State.xNow (s : State) (b : Bay) : Int :=
  let u := s.bay b
  if s.running b then s.sinceArmed b (4000 * (u.cyc : Int)) else ((s.now : Int) - u.armedAt) * u.mhz

/-- SCOPE's sample interval in tu (R200). -/
def State.scopeStep (s : State) (b : Bay) : Nat := 500 * 2 ^ s.getB b RBay.SCOPE_INTERVAL

/-- The time of SCOPE's sample instant `i`, since ARMED (R200). -/
def State.sampleX (s : State) (b : Bay) (i : Nat) : Int := 250 * ((i * s.scopeStep b + s.getB b RBay.SCOPE_PHASE : Nat) : Int)

/-- SCOPE's first sample instant at or after a time (R204). -/
def State.scopeUnit (s : State) (b : Bay) (x : Int) : Nat :=
  (-((250 * (s.getB b RBay.SCOPE_PHASE : Int) - x).fdiv (250 * (s.scopeStep b : Int)))).toNat

/-- The first vector whose start is at or after a time: an issued one, else the next (R204). -/
def State.vectorUnit (s : State) (b : Bay) (x : Int) : Nat :=
  match (s.bay b).vrecs.find? (fun r => decide (x ≤ s.sinceArmed b r.v.start)) with
  | some r => r.v.cycle
  | none => s.getB b RBay.CYCLE_COUNT

/-! ### Frames (R192 to R195, R211, R212) -/

/-- The vectors issued since the bay entered RUN. -/
def State.cycles (s : State) (b : Bay) : Nat := s.getB b RBay.CYCLE_COUNT

/-- The first vector with a strobe still to come, else the next one: the vectors before it have all their results. -/
def State.firstPending (s : State) (b : Bay) : Nat :=
  (chansOf b).foldl (fun n c => (s.chan c).strobes.foldl (fun n e => min n e.v.cycle) n) (s.cycles b)

/-- Whether a window waits for its trigger, which is recognised within five BCLK of its instant (R201): what may be at or after
an instant not recognised yet is not put into a frame. -/
def State.awaits (s : State) (b : Bay) (m : Fin 5) : Bool := s.byTrigger b m && (s.cap b m).win && !(s.cap b m).fired && s.running b

/-- How far a stream's vectors, or SCOPE's samples, are ready to be written. -/
def State.capReady (s : State) (b : Bay) (m : Fin 5) : Nat :=
  let p := s.cap b m
  if m = 3 then
    if s.awaits b m then min p.sampled (s.scopeUnit b (s.xNow b - 5000000)) else p.sampled
  else
    let n := s.firstPending b
    if s.awaits b m then min n (s.vectorUnit b (s.xNow b - 5000000)) else n

/-- Where each complete unit ends among the vectors, or samples, from one number up to another. -/
def State.unitEnds (s : State) (b : Bay) (m : Fin 5) (lo hi : Nat) : List Nat :=
  let mask := s.getCap b m RCap.CHANNEL_MASK
  let rs := (s.bay b).vrecs.filter (fun r => decide (lo ≤ r.v.cycle) && decide (r.v.cycle < hi))
  match m with
  | 0 =>
    let w := if 8 < (maskChans mask).length then 16 else 32
    ((spanStarts w lo hi).filter (fun k => decide (k + w ≤ hi) && (spanOf rs k w).any (fun r => (chanFails r &&& mask) != 0))).map (· + w)
  | 2 => ((spanStarts 8 lo hi).filter (fun k => decide (k + 8 ≤ hi))).map (· + 8)
  | 4 => (rs.filter (hasData mask)).map (fun r => r.v.cycle + 1)
  | _ => (List.range (hi - lo)).map (fun i => lo + i + 1)

/-- Units of a full frame. -/
def State.fullUnits (s : State) (b : Bay) (m : Fin 5) : Nat := 63 * s.unitsPerBlock b m

/-- How a window ends: its OLDEST, and whether post-trigger units were overwritten and whether POST units were not reached (R206,
R207). -/
structure WinEnd where
  oldest : Int
  wrap   : Bool
  short  : Bool
  deriving DecidableEq, Repr

/-- Whether a DATA row has a CAPTURE slot of a selected channel, in a quad not retired, whose strobe was late, suppressed or
absent (R134, R198). -/
def dataInvalid (mask : Nat) (r : VRec) : Bool :=
  (maskChans mask).any (fun c => !r.retired.testBit (c / 4) && (List.range 2).any (fun k =>
    r.capSlot.testBit (2 * c + k) && (r.capBad.testBit (2 * c + k) || !r.capGot.testBit (2 * c + k))))

/-- Whether a vector is covered by a frame: by its cycle count, or in SCOPE by its time. -/
def State.covers (s : State) (b : Bay) (m : Fin 5) (lo hi : Nat) (r : VRec) : Bool :=
  if m = 3 then
    decide (s.sinceArmed b r.v.start < s.sampleX b hi) && decide (s.sampleX b lo < s.sinceArmed b (r.v.start + r.v.period))
  else decide (lo ≤ r.v.cycle) && decide (r.v.cycle < hi)

/-- A frame's header (R193). -/
def State.frameHeader (s : State) (b : Bay) (m : Fin 5) (f : CapFrame) (hi : Nat) (e : Option WinEnd) (blocks first : Nat) : Nat :=
  let p := s.cap b m
  let rs := (s.bay b).vrecs.filter (s.covers b m f.firstC hi)
  let bit := fun (x : Bool) (i : Nat) => if x then 1 <<< i else 0
  let win := s.windowed b m
  let inv := rs.any (dataInvalid (s.getCap b m RCap.CHANNEL_MASK))
  0xC7 + ((m.val + 1) <<< 8) + bit f.segStart 11 + bit (f.segEnd || e.isSome) 12 + bit f.trigIn 13 + bit (e.any (·.wrap)) 14 +
    bit f.overrun 15 + bit (m == 4 && inv) 16 + bit win 17 + bit (rs.any (fun r => r.v.kind != 0)) 18 + bit f.merged 19 +
    bit (e.any (·.short)) 20 + bit (decide (1 < f.marks)) 21 + bit p.lostPrev 22 + (blocks <<< 23) + ((p.seq % 2 ^ 32) <<< 32) +
    (first % 2 ^ 48 <<< 64) + ((e.map (fun x => ofSigned 48 x.oldest)).getD 0 <<< 112) +
    (((if win then p.trigC else s.getB b RBay.TRIG_CYCLE) % 2 ^ 40) <<< 160) +
    (((if win then p.trigO else s.getB b RBay.TRIG_OFFSET) % 2 ^ 32) <<< 200) + ((f.markVal % 2 ^ 16) <<< 232) +
    ((f.markCyc % 2 ^ 32) <<< 248) + ((min f.marks 255) <<< 280) +
    ((if m = 3 then (s.getB b RBay.ROUTE_CHANNEL % 16) + ((s.getB b (RBay.ROUTE_CHANNEL + 1) % 16) <<< 8)
      else s.getCap b m RCap.CHANNEL_MASK) <<< 288) +
    (s.packField b m <<< 304) + ((f.seg % 2 ^ 12) <<< 308) + (s.stamp (0x100 + b.val) <<< 320) + (s.quadTags b <<< 384)

/-- A frame opens: for a stream without a window, over a frame that is not yet released it is marked OVERRUN and counted, and
CAPTURE_OVERRUN is raised once for each run of overruns (R211). -/
def State.openFrame (s : State) (b : Bay) (m : Fin 5) (f : CapFrame) : State :=
  let p := s.cap b m
  let n := p.seq + p.frames.length
  let past := !s.windowed b m && decide (s.frames b m ≤ n) && decide (s.getCap b m RCap.CONSUMED_FRAME ≤ n - s.frames b m)
  let s := if past then s.setCap b m RCap.OVERRUN_FRAMES (satAdd 32 (s.getCap b m RCap.OVERRUN_FRAMES) 1) else s
  let s := if past && !p.overSeq then s.occur (evBay b 11) else s
  s.modCap b m (fun p => { p with
    frames := p.frames ++ [{ f with overrun := past }], overSeq := past })

/-- The frame with unit 0 closes: the units before it are counted, and the frames before it have their FIRST in the header, relative
to unit 0 (R193, R204). DEDUCED (log 52). -/
def State.fixFirsts (s : State) (b : Bay) (m : Fin 5) : State :=
  let p := s.cap b m
  let kept := p.firsts.filter (fun x => x.2.2 && decide (p.seq < x.1 + s.frames b m))
  let s := s.each kept (fun s x =>
    { s with mem := memWrite s.mem (s.frameAddr b m (x.1 % max 1 (s.frames b m)) + 8) (toBytes 6 (ofSigned 48 ((x.2.1 : Int) - p.units))) })
  s.modCap b m (fun p => { p with pre := some p.units })

/-- Whether a frame can be written: memory takes it, and its pseudo-channels are ready (R212, R274). -/
def State.frameTaken (s : State) (b : Bay) (m : Fin 5) (addr : Nat) (written : Bool) : Bool :=
  written && !(s.getCap b m RCap.DEST == 1 && s.spanDown addr 4096)

/-- The oldest frame of a stream is closed where it ends: its payload, then its header, are written where memory takes
them, WRITE_FRAME advances, and a frame that memory cannot write is dropped, counted and reported (R192, R211, R212).
The unit number that a header gives while unit 0 has not come is not stated, so it is a free value. (Log 35.) -/
def State.closeFrame (s : State) (b : Bay) (m : Fin 5) (f : CapFrame) (hi : Nat) (e : Option WinEnd) (written : Bool) : State :=
  let s := if f.trigIn then s.fixFirsts b m else s
  let p := s.cap b m
  let (data, units) := s.payload b m f.firstC hi
  let blocks := min 63 (ceilDiv data.length 64)
  let x := s.free
  let s := if s.windowed b m && p.pre.isNone then x.2 else s
  let first := if !s.windowed b m then f.firstC else match p.pre with
    | some n => ofSigned 48 ((p.units : Int) - n)
    | none => x.1.toNat
  let hdr := s.frameHeader b m f hi e blocks first
  let addr := s.frameAddr b m (p.seq % max 1 (s.frames b m))
  let ok := s.frameTaken b m addr written
  let s := if ok then (s.writeBlocks (addr + 64) (data.take (63 * 64)) (p.seq % 256)).writeBlocks addr (toBytes 64 hdr) (p.seq % 256)
    else (s.setCap b m RCap.LOST_FRAMES (satAdd 32 (s.getCap b m RCap.LOST_FRAMES) 1)).fault (0x100 + b.val) 0x24 (m.val + 1)
  let s := s.setCap b m RCap.WRITE_FRAME ((s.getCap b m RCap.WRITE_FRAME + 1) % 2 ^ 64)
  s.modCap b m (fun p => { p with
    frames := p.frames.drop 1, seq := p.seq + 1, closed := p.closed + 1, lostPrev := !ok, units := p.units + units,
    firsts := lastN (s.frames b m) (p.firsts ++ [(p.seq, p.units, ok)]),
    samples := if m = 3 then p.samples.drop (hi - (p.sampled - p.samples.length)) else p.samples })

/-- How the window ends whose last frame, with some units, is the oldest one held: the number of the oldest retained unit, the
first of the oldest frame that survives, whether the frames after the trigger are more than the buffer holds, and whether it is
short (R206, R207).  Without unit 0 no unit has a number. (Log 35.) -/
def State.winEnd (s : State) (b : Bay) (m : Fin 5) (f : CapFrame) (units : Nat) (short : Bool) : WinEnd :=
  let p := s.cap b m
  let n := s.frames b m
  let first := ((p.firsts ++ [(p.seq, p.units, true)]).find? (fun x => decide (p.seq < x.1 + n))).map (·.2.1) |>.getD p.units
  let post := fun (pre : Nat) => decide (n < ceilDiv (p.units + units - pre) (max 1 (s.fullUnits b m)))
  match (if f.trigIn then some p.units else p.pre) with
  | some pre => ⟨(first : Int) - pre, post pre, short⟩
  | none => ⟨s.free.1.toNat, false, short⟩

/-- A window ends with the oldest frame held: SEG_END and OLDEST are in its header, its status shows DONE, and WINDOW_DONE is raised
(R206). -/
def State.endWindow (s : State) (b : Bay) (m : Fin 5) (f : CapFrame) (hi : Nat) (short written : Bool) : State :=
  let e := s.winEnd b m f (s.payload b m f.firstC hi).2 short
  let s := if f.trigIn || (s.cap b m).pre.isSome then s else s.free.2
  let s := (s.closeFrame b m f hi (some e) written).modCap b m (fun p => { p with on := false, win := false, frames := [] })
  ((s.setCap b m RCap.OLDEST (ofSigned 64 e.oldest)).setCap b m RCap.STREAM_STATUS 5).occur (evBay b 10)

/-- The units left to write up to POST in the window whose oldest held frame is given, once unit 0 has begun (R206). -/
def State.postLeft (s : State) (b : Bay) (m : Fin 5) (f : CapFrame) : Option Nat :=
  let p := s.cap b m
  if !s.windowed b m then none
  else if f.trigIn then some (s.getCap b m RCap.POST)
  else p.pre.map (fun n => s.getCap b m RCap.POST - (p.units - n))

/-- How far the oldest frame of a stream can be written. -/
def State.frameLimit (s : State) (b : Bay) (m : Fin 5) (f : CapFrame) : Nat := min (f.hi.getD (s.capReady b m)) (s.capReady b m)

/-- Where the oldest frame of a stream is full: at its 63rd block, unless its window ends in it (R192). -/
def State.fullAt (s : State) (b : Bay) (m : Fin 5) (f : CapFrame) : Option Nat :=
  if (s.postLeft b m f).any (fun n => decide (n ≤ s.fullUnits b m)) then none
  else (s.unitEnds b m f.firstC (s.frameLimit b m f))[s.fullUnits b m - 1]?

/-- Where the window of the oldest frame of a stream ends: at unit POST − 1 (R206). -/
def State.windowAt (s : State) (b : Bay) (m : Fin 5) (f : CapFrame) : Option Nat :=
  match s.postLeft b m f with
  | some n => if n ≤ s.fullUnits b m then (s.unitEnds b m f.firstC (s.frameLimit b m f))[n - 1]? else none
  | none => none

/-- Where the oldest frame of a stream closes early: at its end, once all of it is ready.  In RUN and PAUSE a segment's end waits
until 256 BCLK have passed since the segment opened, because a start before then continues it in its frame (R192, R194). -/
def State.earlyAt (s : State) (b : Bay) (m : Fin 5) (f : CapFrame) : Option Nat :=
  let p := s.cap b m
  let held := f.segEnd && !f.last && p.frames.length == 1 && s.running b && p.segAt.any (fun a => decide (s.bclkAbs b < a + 256))
  f.hi.filter (fun h => decide (h ≤ s.capReady b m) && !held)

/-- The oldest frame of a stream closes where it is due: full, and the next opens, or at its end (R192). -/
def State.closeDue (s : State) (b : Bay) (m : Fin 5) (written : Bool) : State :=
  match (s.cap b m).frames with
  | [] => s
  | f :: rest =>
    match (s.fullAt b m f).filter (fun x => f.hi != some x), s.earlyAt b m f with
    | some x, _ =>
      let s := (s.closeFrame b m { f with segEnd := false } x none written).modCap b m (fun p => { p with frames := [] })
      let s := s.openFrame b m { firstC := x, hi := f.hi, segEnd := f.segEnd, last := f.last, merged := f.merged, seg := f.seg }
      s.modCap b m (fun p => { p with frames := p.frames ++ rest })
    | none, some h => if f.last then s.endWindow b m f h true written else s.closeFrame b m f h none written
    | none, none => s

/-! ### Segments (R191, R194) -/

/-- The frames of a window whose unit 0 begins at a vector or sample: the frame that it falls into ends before it, and unit 0 begins
a new frame (R204); none where the segment has ended before it. -/
def splitFrames (at_ : Nat) : List CapFrame → Option (List CapFrame)
  | [] => none
  | f :: rest =>
    if f.hi.all (fun h => decide (at_ < h)) then
      let c := max f.firstC at_
      some ({ f with hi := some c, segEnd := false, last := false } ::
        { firstC := c, hi := f.hi, segEnd := f.segEnd, last := f.last, trigIn := true, seg := f.seg } :: rest)
    else (splitFrames at_ rest).map (f :: ·)

/-- A segment of a stream starts at a vector: in a new frame, which takes the marks that wait for it and, where the trigger has
fired since the last segment, holds unit 0; or, less than 256 BCLK after the previous segment of the stream opened, that segment
goes on over the gap (R194, R195, R204). -/
def State.startSegment (s : State) (b : Bay) (m : Fin 5) (at_ : Nat) : State :=
  let p := s.cap b m
  let now := s.bclkAbs b
  let mark := fun (f : CapFrame) => if p.waits = 0 then f else { f with marks := f.marks + p.waits, markVal := p.waitVal, markCyc := p.waitCyc }
  if p.on then s
  else
    let s := s.modCap b m (fun p => { p with
      on := true, win := s.windowed b m, winAt := if p.win then p.winAt else now, waits := 0, waitVal := 0, waitCyc := 0, fireNext := none })
    match p.frames.getLast?, p.segAt.any (fun a => decide (now < a + 256)) with
    | some f, true =>
      let l := p.frames.dropLast ++ [mark { f with hi := none, segEnd := false, merged := true }]
      s.modCap b m (fun p => { p with frames := l }) |>.modCap b m (fun q => match p.fireNext with
        | some c => { q with frames := (splitFrames c l).getD l }
        | none => q)
    | _, _ =>
      (s.openFrame b m (mark { firstC := at_, segStart := true, seg := p.segs, trigIn := p.fireNext.isSome })).modCap b m (fun p =>
        { p with segAt := some now, segs := p.segs + 1 })

/-- The end of the frame that is open, if one is, becomes known. -/
def endFrame (at_ : Nat) (last : Bool) (l : List CapFrame) : List CapFrame :=
  match l.getLast? with
  | some f => l.dropLast ++ [{ f with hi := some (f.hi.getD (max f.firstC at_)), segEnd := true, last := last }]
  | none => l

/-- A segment of a stream ends before a vector: its frame is closed when that is due (R192, R194). -/
def State.endSegment (s : State) (b : Bay) (m : Fin 5) (at_ : Nat) : State :=
  if (s.cap b m).on then s.modCap b m (fun p => { p with on := false, frames := endFrame at_ false p.frames }) else s

/-- Whether a stream is enabled. -/
def State.capEnabled (s : State) (b : Bay) (m : Fin 5) : Bool := s.getCap b m RCap.ENABLE == 1

/-- Units a window must write before its trigger may fire have been written, and 256 BCLK have passed since it opened (R203). -/
def State.preDone (s : State) (b : Bay) (m : Fin 5) : Bool :=
  let p := s.cap b m
  let held := p.frames.foldl (fun n f => n + (s.unitEnds b m f.firstC (s.frameLimit b m f)).length) 0
  p.win && decide (s.getCap b m RCap.PRE ≤ p.units + held) && decide (p.winAt + 256 ≤ s.bclkAbs b)

/-- Every enabled stream starts as its START says when the bay enters RUN (R191). -/
def State.capRun (s : State) (b : Bay) : State :=
  s.each (List.finRange 5) (fun s m =>
    if !s.capEnabled b m || m == 3 then s
    else if s.windowed b m then (s.startSegment b m 0).setCap b m RCap.STREAM_STATUS 2
    else if s.getCap b m RCap.START = 0 then (s.startSegment b m 0).setCap b m RCap.STREAM_STATUS 1
    else s)

/-- The frames of a stream whose close is due are closed; the fuel bounds them. -/
def State.flushCap (s : State) (b : Bay) (m : Fin 5) : Nat → State
  | 0 => s
  | n + 1 => (s.closeDue b m true).flushCap b m n

/-- Capture as the bay enters ARMED: the frames of the last run that no FRAME_CLOSE has closed are closed (R213, log 55); counts,
records, trigger state and status are cleared; SCOPE starts sampling, and the trigger enters PRE_FILL where it has a source (R191,
R203, R214). -/
def State.capArm (s : State) (b : Bay) : State :=
  let s := s.each (List.finRange 5) (fun s m =>
    let p := s.cap b m
    let s := s.flushCap b m ((s.bay b).vrecs.length + p.samples.length + p.frames.length)
    let s := s.each [RCap.WRITE_FRAME, RCap.CONSUMED_FRAME, RCap.OVERRUN_FRAMES, RCap.LOST_FRAMES, RCap.OLDEST] (fun s o => s.setCap b m o 0)
    let s := (s.modCap b m (fun p => { closed := p.closed })).setCap b m RCap.STREAM_STATUS (if s.capEnabled b m then 3 else 0)
    if m == 3 && s.capEnabled b m then (s.startSegment b m 0).setCap b m RCap.STREAM_STATUS 2 else s)
  let s := s.each [RBay.TRIG_CYCLE, RBay.TRIG_OFFSET, RBay.TRIG_TIME, RBay.TRIG_IGNORED] (fun s o => s.setB b o 0)
  let s := s.setB b RBay.TRIG_STATE (if s.getB b RBay.TRIG_SOURCE = 0 then 0 else 1)
  s.modBay b (fun u => { u with marks := [], trigAt := none, hits := [], countHit := none, rowNextHit := 0 })

/-- Where what a stream captures ends now. -/
def State.capHere (s : State) (b : Bay) (m : Fin 5) : Nat := if m = 3 then (s.cap b m).sampled else s.cycles b

/-- A window that the bay's leaving RUN ends: its last frame, an empty one where it has none, is known (R206). -/
def State.cutWindow (s : State) (b : Bay) (m : Fin 5) : State :=
  let at_ := s.capHere b m
  let s := if (s.cap b m).frames.isEmpty then s.openFrame b m { firstC := at_, seg := (s.cap b m).segs - 1 } else s
  s.modCap b m (fun p => { p with on := false, frames := endFrame at_ true p.frames })

/-- Capture as the bay leaves RUN: every stream's open frame ends, to be closed (R213), and a window that had not ended ends SHORT
(R206). -/
def State.capStop (s : State) (b : Bay) : State :=
  s.each (List.finRange 5) (fun s m =>
    if !s.capEnabled b m then s
    else if s.windowed b m then
      if (s.cap b m).win then s.cutWindow b m else s
    else (s.endSegment b m (s.cycles b)).setCap b m RCap.STREAM_STATUS 0)

/-- Capture as the bay enters PAUSE: the dense modes' segments end (R191, R194). -/
def State.capPause (s : State) (b : Bay) : State :=
  s.each [(1 : Fin 5), 4] (fun s m => if s.capEnabled b m then s.endSegment b m (s.cycles b) else s)

/-- Capture as the bay resumes: the dense modes that wrote open a new segment (R191). -/
def State.capResume (s : State) (b : Bay) : State :=
  s.each [(1 : Fin 5), 4] (fun s m =>
    if s.capEnabled b m && (if s.windowed b m then (s.cap b m).win else s.getCap b m RCap.STREAM_STATUS == 1) then
      s.startSegment b m (s.cycles b)
    else s)

/-- The first vector of the word that executes, of which one cycle has been issued at most. -/
def State.wordVector (s : State) (b : Bay) : Nat := if (s.bay b).wordCyc = 0 then s.cycles b else (s.bay b).cycFirst

/-- CAPTURE_ON: capture from this word's vectors on, in the armed modes that start by it (R98, R191). -/
def State.captureOn (s : State) (b : Bay) : State :=
  s.each (List.finRange 5) (fun s m =>
    if s.capEnabled b m && !s.windowed b m && (s.getCap b m RCap.START == 1 || s.getCap b m RCap.STREAM_STATUS == 3) then
      (s.startSegment b m (s.wordVector b)).setCap b m RCap.STREAM_STATUS 1
    else s)

/-- CAPTURE_OFF: capture stops after the previous word's vectors (R98, R194). -/
def State.captureOff (s : State) (b : Bay) : State :=
  s.each (List.finRange 5) (fun s m =>
    if s.capEnabled b m && !s.windowed b m then (s.endSegment b m (s.wordVector b)).setCap b m RCap.STREAM_STATUS 3 else s)

/-- CAP MARK: the mark goes to the open frame of each writing stream, or to the next frame it opens, and to MARK_LOG,
which keeps 64 (R195). -/
def State.capMark (s : State) (b : Bay) (value : Nat) : State :=
  let c := s.wordVector b % 2 ^ 40
  let s := s.each (List.finRange 5) (fun s m =>
    if !s.capEnabled b m then s
    else if (s.cap b m).on then
      s.modCap b m (fun p => { p with frames := match p.frames.getLast? with
        | some f => p.frames.dropLast ++ [{ f with marks := f.marks + 1, markVal := value, markCyc := c }]
        | none => [] })
    else s.modCap b m (fun p => { p with waits := p.waits + 1, waitVal := value, waitCyc := c }))
  s.modBay b (fun u => { u with marks := lastN 63 u.marks ++ [(value, c)] })

/-- MARK_LOG's bytes (R195). -/
def markBytes (l : List (Nat × Nat)) : Bytes := l.flatMap (fun p => toBytes 2 p.1 ++ toBytes 5 p.2)

/-! ### The trigger (R201 to R207) -/

/-- A window's trigger fires: its instant is noted and unit 0 begins a new frame, where its segment has ended the next one's first
(R204). -/
def State.fireWindow (s : State) (b : Bay) (m : Fin 5) (at_ cycle offset : Nat) : State :=
  let s := s.modCap b m (fun p => match splitFrames at_ p.frames with
    | some l => { p with fired := true, trigC := cycle, trigO := offset, frames := l }
    | none => { p with fired := true, trigC := cycle, trigO := offset, fireNext := some at_ })
  s.setCap b m RCap.STREAM_STATUS 4

/-- A recognised trigger instant: while ARMED it fires once, its instant is recorded, TRIGGERED is latched, and every
window it starts begins unit 0; in PRE_FILL, in the cycle in which PRE_FILL ends, and in FIRED it is ignored and counted (R203,
R204). -/
def State.recognise (s : State) (b : Bay) (h : TrigHit) : State :=
  let st := s.getB b RBay.TRIG_STATE
  if st = 1 ∨ st = 3 ∨ (st = 2 ∧ (s.bay b).trigAt = some (s.bclkAbs b)) then s.incB b RBay.TRIG_IGNORED
  else if st = 2 then
    let s := ((s.setB b RBay.TRIG_STATE 3).setB b RBay.TRIG_CYCLE h.cycle).setB b RBay.TRIG_OFFSET h.offset
    let t := (((s.bay b).armedAt : Int) + h.x.fdiv (s.bay b).mhz).toNat
    let s := s.setB b RBay.TRIG_TIME (s.stampAt (0x100 + b.val) t)
    let s := (s.modBay b (fun u => { u with latched := orBit u.latched 0x1A })).occur (evBay b 12)
    s.each (List.finRange 5) (fun s m =>
      if s.capEnabled b m && s.byTrigger b m && (s.cap b m).win && !(s.cap b m).fired then
        s.fireWindow b m (if m = 3 then s.scopeUnit b h.x else s.vectorUnit b h.x) h.cycle h.offset
      else s)
  else s

/-- The bay's first fail is HISTORY's trigger: the block holding the failing vector is unit 0 (R204). -/
def State.historyFire (s : State) (b : Bay) (cycle offset : Nat) : State :=
  if s.capEnabled b 2 && (s.cap b 2).win && !(s.cap b 2).fired then s.fireWindow b 2 (cycle / 8 * 8) cycle offset else s

/-- The instant of an event that is usable in the bay now (R201): the vector that has begun last holds it; where none has begun
since RUN, which vector's cycle count and offset are recorded is not stated. (Log 35.) -/
def State.hitNow (s : State) (b : Bay) : State × TrigHit :=
  let x := s.xNow b
  match ((s.bay b).vrecs.filter (fun r => decide (s.sinceArmed b r.v.start ≤ x))).getLast? with
  | some r => (s, ⟨r.v.cycle, ((x - s.sinceArmed b r.v.start).fdiv 250).toNat, x⟩)
  | none => (s.free.2, ⟨s.free.1.toNat % 2 ^ 64, s.free.1.toNat / 2 ^ 64 % 2 ^ 32, x⟩)

/-- The trigger source of a bay recognises, on the same edge, an event of a kind with a parameter (R201): 4 ridge line,
5 TRIG land, 6 TPG, 7 host. -/
def State.edgeTrigger (s : State) (b : Bay) (source param mask : Nat) : State :=
  let hit := s.getB b RBay.TRIG_SOURCE == source && (source == 7 || s.getB b RBay.TRIG_PARAM % (mask + 1) == param)
  if !hit then s else (s.hitNow b).1.recognise b (s.hitNow b).2

/-- Whether the end of the fourth cycle, counted from the one that holds an instant, has come (R201). -/
def State.fourCycles (s : State) (b : Bay) (x : Int) : Bool :=
  let from_ := if s.running b then s.sinceArmed b 0 else 0
  decide ((x - from_).fdiv 1000000 + 4 ≤ (s.xNow b - from_).fdiv 1000000)

/-- The instant that a bay's trigger source has at a vector and an offset, where it has one that is to be recognised (R201): a
completed edge, the start of a row that matches, or the failing strobe at which the count is reached. -/
def State.hitAt (s : State) (b : Bay) (cycle offset : Nat) : Option TrigHit :=
  let u := s.bay b
  let is := fun (h : TrigHit) => h.cycle == cycle && h.offset == offset && s.fourCycles b h.x
  match s.getB b RBay.TRIG_SOURCE with
  | 1 => u.hits.head?.filter is
  | 2 =>
    let entry := s.getB b RBay.TRIG_ENTRY
    let pass := s.getB b RBay.TRIG_PASS
    let row := s.getB b RBay.TRIG_ROW
    ((u.vrecs.find? (fun r => decide (u.rowNextHit ≤ r.v.cycle) && r.v.kind == 0 && r.v.entry == entry &&
      (pass == 0 || r.v.pass == pass) && 8 * r.v.granule + r.v.row == row)).map
        (fun r => ⟨r.v.cycle, 0, s.sinceArmed b r.v.start⟩)).filter is
  | 3 => u.countHit.filter is
  | _ => none

/-- An instant has been recognised: the source waits for the next. -/
def State.dropHit (s : State) (b : Bay) (h : TrigHit) : State :=
  match s.getB b RBay.TRIG_SOURCE with
  | 1 => s.modBay b (fun u => { u with hits := u.hits.drop 1 })
  | 2 => s.modBay b (fun u => { u with rowNextHit := h.cycle + 1 })
  | _ => s.modBay b (fun u => { u with countHit := none })

/-- CONSUMED_FRAME (R211): not below its present value, nor above WRITE_FRAME. -/
def State.consume (s : State) (b : Bay) (m : Fin 5) (v : Nat) : State :=
  if v < s.getCap b m RCap.CONSUMED_FRAME ∨ s.getCap b m RCap.WRITE_FRAME < v then s.answer ST.OUT_OF_RANGE
  else (s.setCap b m RCap.CONSUMED_FRAME v).ok

/-- TRIG_FORCE (R201). -/
def State.trigForce (s : State) (b : Bay) : State := (s.edgeTrigger b 7 0 0).ok

/-- TRIG_REARM (R206): accepted in ARMED, RUN and PAUSE; the frames of every window but HISTORY's are discarded, those
streams restart, a dense one in PAUSE at the resume, and the trigger returns to PRE_FILL. -/
def State.trigRearm (s : State) (b : Bay) : State :=
  if !(s.running b || s.bst b == BS.ARMED) then s.answer ST.STATE_LOCKED
  else
    let s := s.each (List.finRange 5) (fun s m =>
      if s.capEnabled b m && s.byTrigger b m && (m == 3 || s.running b) then
        let s := s.modCap b m (fun p => { seq := p.seq, segs := p.segs, lostPrev := p.lostPrev, sampled := p.sampled, win := true, winAt := s.bclkAbs b })
        let s := if m == 3 || s.bst b == BS.RUN then s.startSegment b m (s.capHere b m) else s
        s.setCap b m RCap.STREAM_STATUS 2
      else s)
    (s.setB b RBay.TRIG_STATE (if s.getB b RBay.TRIG_SOURCE = 0 then 0 else 1)).ok

/-! ### Meanings -/

/-- FRAME_CLOSE (R192): the oldest frame of a stream that is full, or has ended, is closed. -/
def execFrameClose (b : Bay) (mode : CapMode) (written : Bool) (s : State) : Host.Outcome State Fault Refusal :=
  .next (s.closeDue b (capNo mode) written)

/-- CONSUMED_FRAME_WRITE (R211). -/
def execConsumedFrameWrite (b : Bay) (epoch : BitVec 16) (mode : CapMode) (value : BitVec 64) (s : State) :
    Host.Outcome State Fault Refusal :=
  .next (s.hostBay b epoch (fun s => s.consume b (capNo mode) value.toNat))

/-- TRIGGER_ARMED (R203): every window the trigger starts has written its PRE units, and 256 BCLK have passed since it opened. -/
def execTriggerArmed (b : Bay) (s : State) : Host.Outcome State Fault Refusal :=
  .next (
    if s.getB b RBay.TRIG_STATE = 1 ∧
        (List.finRange 5).all (fun m => !(s.capEnabled b m && s.byTrigger b m) || s.preDone b m) = true then
      let s := (s.setB b RBay.TRIG_STATE 2).modBay b (fun u => { u with trigAt := some (s.bclkAbs b) })
      s.each (List.finRange 5) (fun s m =>
        if s.capEnabled b m && s.byTrigger b m then s.setCap b m RCap.STREAM_STATUS 3 else s)
    else s)

/-- TRIGGER_RECOGNISED (R201, R203): an instant of a source that is recognised at the end of the fourth cycle: an edge, a vector, a
count. -/
def execTriggerRecognised (b : Bay) (cycle offset : Nat) (s : State) : Host.Outcome State Fault Refusal :=
  .next (match s.hitAt b cycle offset with
    | some h => (s.dropHit b h).recognise b h
    | none => s)

/-- What a change of the comparators completes: a rising edge where the land was below VOL last, a falling one where it was above
VOH (R202). -/
def edgeDone (side : Option Bool) (cmph cmpl : Bool) : Option Bool :=
  if cmph && side == some false then some true else if cmpl && side == some true then some false else none

/-- CHANNEL_EDGE (R202): the raw comparators of a channel change, in a vector and so many tu after its start.  Above VOH or below VOL
the detector is on a new side, which completes an edge; each edge of the trigger channel raises its event 3, and one in the
direction watched is a trigger instant. -/
def execChannelEdge (c : Chan) (cmph cmpl : Bool) (cycle offset : Nat) (s : State) : Host.Outcome State Fault Refusal :=
  let b := bayOf c
  let p := s.getB b RBay.TRIG_PARAM
  let dir := fieldOf p 4 2
  let done := edgeDone (s.chan c).side cmph cmpl
  let s := s.modChan c (fun u => { u with side := if cmph then some true else if cmpl then some false else u.side })
  let x := match (s.bay b).vrecs.find? (fun r => r.v.cycle == cycle) with
    | some r => s.sinceArmed b (r.v.start + offset)
    | none => s.xNow b
  .next (
    match done with
    | none => s
    | some rising =>
      if s.getB b RBay.TRIG_SOURCE ≠ 1 ∨ p % 16 ≠ c.val % 16 then s
      else if s.bayDown b then s.dropEvent b.val
      else
        let s := s.occur (evChan c 3)
        if s.getB b RBay.TRIG_STATE ≠ 0 ∧ (dir = 2 ∨ (dir = 0 ∧ rising = true) ∨ (dir = 1 ∧ rising = false)) then
          s.modBay b (fun u => { u with hits := u.hits ++ [⟨cycle, offset, x⟩] })
        else s)

/-- TRIG_FORCE (R201). -/
def execTrigForce (b : Bay) (epoch : BitVec 16) (s : State) : Host.Outcome State Fault Refusal :=
  .next (s.hostBay b epoch (fun s => s.trigForce b))

/-- TRIG_REARM (R206). -/
def execTrigRearm (b : Bay) (epoch : BitVec 16) (s : State) : Host.Outcome State Fault Refusal :=
  .next (s.hostBay b epoch (fun s => s.trigRearm b))

/-- WINDOW_DONE (R206): unit POST − 1 of the window is written, and its last frame is closed. -/
def execWindowDone (b : Bay) (mode : CapMode) (written : Bool) (s : State) : Host.Outcome State Fault Refusal :=
  let m := capNo mode
  .next (match (s.cap b m).frames with
    | [] => s
    | f :: _ => match s.windowAt b m f with
      | some h => s.endWindow b m f h false written
      | none => s)

/-- SCOPE_SAMPLE (R200): an instant's comparator state of each route used, while the SCOPE stream writes. -/
def execScopeSample (b : Bay) (cmph cmpl : BitVec 2) (s : State) : Host.Outcome State Fault Refusal :=
  .next (
    if s.capEnabled b 3 && (s.running b || s.bst b == BS.ARMED) then
      let v := (s.scopeRoutes b).zipIdx.foldl (fun n p =>
        n + ((if cmph.toNat.testBit p.1 then 1 else 0) + (if cmpl.toNat.testBit p.1 then 2 else 0)) * 4 ^ p.2) 0
      s.modCap b 3 (fun p => { p with sampled := p.sampled + 1, samples := if p.on then p.samples ++ [v] else [] })
    else s)

end Sys2Proof.Machine
end

