-- ==== Sys2Proof/Machine/Timing.lean ====
section
/-! DEFINITION. Vector timing (R117 to R148): the placement of a vector's edges and strobes, period resets, the arming
timing check, timing-set writes, and the bay clocks (R12, R13). -/

namespace Sys2Proof.Machine

/-! ### Timing units (R117) -/

/-- An absolute time in units of 0.25 ps, in tu of a bay's BCLK: rounded to the nearest, halves away from zero (R117). -/
def State.inTu (s : State) (b : Bay) (x : Int) : Int := roundDiv (x * (s.bay b).mhz) 1000

/-- FIXTURE_OFFSET of a channel in tu (R143). -/
def State.fixture (s : State) (c : Chan) : Int := s.inTu (bayOf c) (toSigned 32 (s.getC c RChan.FIXTURE_OFFSET))

/-- One more format violation on a channel: its flag, its count, and event 2 of the channel at the first flag since
ARMED (R135). -/
def State.violate (s : State) (c : Chan) (flag count : Nat) : State :=
  let was := s.getC c RChan.FORMAT_FLAGS
  let s := (s.flagC c RChan.FORMAT_FLAGS flag).incC c count
  if was = 0 then s.occur (evChan c 2) else s

/-! ### Path records (R122) -/

/-- Time of drive edge D`k` of a path record. -/
def driveTime (rec k : Nat) : Nat := fieldOf rec (32 * k) 24
/-- Role of drive edge D`k`. -/
def driveRole (rec k : Nat) : Nat := fieldOf rec (32 * k + 24) 4
/-- Time of strobe S`k`. -/
def strobeTime (rec k : Nat) : Nat := fieldOf rec (192 + 32 * k) 24
/-- Role of strobe S`k`. -/
def strobeRole (rec k : Nat) : Nat := fieldOf rec (192 + 32 * k + 24) 2

/-- What an edge of a kind does under a slot action, to DRV and to DEN; none where it is not placed (R129). -/
def driveEffect (kind action : Nat) : Option (Option Bool × Option Bool) :=
  if action = 0 then none
  else match kind with
    | 0 => if action = 1 then some (some false, some true) else if action = 2 then some (some true, some true) else some (none, some false)
    | 1 => if action ≤ 2 then some (some false, none) else none
    | 2 => if action ≤ 2 then some (some true, none) else none
    | _ => if action = 1 then some (some true, some true) else if action = 2 then some (some false, some true) else none

/-- Whether an action compares (R130). -/
def compares (action : Nat) : Bool := decide (4 ≤ action) && decide (action ≤ 6)
/-- Whether a strobe acts for an action: a compare or CAPTURE (R131). -/
def strobes (action : Nat) : Bool := compares action || action == 8

/-- Whether a time keeps the placement limits of R131. -/
def inLimits (t : Nat) (fo : Int) (period : Nat) : Bool := decide (t < 2 * period) && decide (-4000 ≤ (t : Int) + fo)

/-- A strobe's result, at a land time, is judged; the bay's first fail also fires HISTORY (R187, R204). -/
def State.judge (s : State) (c : Chan) (k : Nat) (v : VInfo) (strobeCycle : Nat) (at_ : Int) (fail : Bool) : State :=
  let b := bayOf c
  let was := (s.bay b).firstFail.isSome
  let s := s.compared c k v strobeCycle at_ fail
  if !was && (s.bay b).firstFail.isSome then s.historyFire b v.cycle (at_ - v.start).toNat else s

/-! ### Placement of a vector (R129 to R131) -/

/-- The drive edges of a vector on one channel (R129, R131). -/
def State.placeDrive (s : State) (c : Chan) (v : VInfo) (rec a0 a1 : Nat) : State :=
  let fo := s.fixture c
  s.each (List.range 6) (fun s k =>
    let role := driveRole rec k
    if role < 8 then s
    else
      match driveEffect (role % 4) (if 12 ≤ role then a1 else a0) with
      | none => s
      | some (drv, den) =>
        let t := driveTime rec k
        if inLimits t fo v.period then
          s.modChan c (fun u => { u with
            edges := u.edges ++ [{ at_ := v.start + t + fo, base := v.start + t, vec := v.cycle, num := k, drv := drv, den := den,
                                   issue := (s.bay (bayOf c)).cyc }] })
        else (s.violate c 2 RChan.LATE_COUNT).invalidChan c)

/-- A CAPTURE strobe that is late or suppressed: its slot's capture record is invalid (R134). -/
def State.badCapture (s : State) (c : Chan) (cycle slot : Nat) : State :=
  s.modVec (bayOf c) cycle (fun r => { r with capBad := orBit r.capBad (2 * (c.val % 16) + slot) })

/-- The strobes of a vector on one channel (R130, R131); a late compare strobe records a fail, a late CAPTURE an invalid
capture (R134). -/
def State.placeStrobes (s : State) (c : Chan) (v : VInfo) (rec a0 a1 : Nat) : State :=
  let fo := s.fixture c
  s.each (List.range 4) (fun s k =>
    let role := strobeRole rec k
    let slot := role - 2
    let a := if slot = 1 then a1 else a0
    if role < 2 || !strobes a then s
    else
      let t := strobeTime rec k
      if inLimits t fo v.period then
        s.modChan c (fun u => { u with
          strobes := u.strobes ++ [{ at_ := v.start + t + fo, base := v.start + t, num := k, slot := slot, action := a, v := v }] })
      else
        let s := s.violate c 2 RChan.LATE_COUNT
        if compares a then s.judge c k v (s.bay (bayOf c)).cyc (v.start + t + fo) true else s.badCapture c v.cycle slot)

/-! ### Transitions to come (R132, R133, R175) -/

/-- Of the edges of one instant, the one that sets a line: the later vector's, then the higher-numbered (R132). -/
def edgeOf (l : List DriveEdge) (f : DriveEdge → Option Bool) : Option DriveEdge :=
  (l.filter (fun e => (f e).isSome)).foldl (fun (o : Option DriveEdge) e =>
    match o with
    | none => some e
    | some x => if x.vec < e.vec ∨ (x.vec = e.vec ∧ x.num ≤ e.num) then some e else some x) none

/-- What the edges of one instant do to one line (R132). -/
def lineOf (l : List DriveEdge) (f : DriveEdge → Option Bool) : Option Bool := (edgeOf l f).bind f

/-- An instant in its place among rising ones, once. -/
def putInstant (t : Int) : List Int → List Int
  | [] => [t]
  | x :: rest => if t < x then t :: x :: rest else if t = x then x :: rest else x :: putInstant t rest

/-- Whether, among a channel's pending edges, one that was issued in a cycle makes a transition of a line that is placed: the
edges in land-time order, from the line's present level and its last transition (R132, R133). -/
def willMove (es : List DriveEdge) (f : DriveEdge → Option Bool) (gap : Int) (level : Bool) (last : Option Int) (cyc : Nat) : Bool :=
  ((es.foldl (fun l e => putInstant e.at_ l) []).foldl (fun (st : Bool × Option Int × Bool) t =>
    match edgeOf (es.filter (fun e => e.at_ == t)) f with
    | none => st
    | some e =>
      let x := (f e).getD st.1
      if x = st.1 ∨ st.2.1.any (fun l => decide (t - l < gap)) = true then st
      else (x, some t, st.2.2 || e.issue == cyc)) (level, last, false)).2.2

/-- The issue cycle of a DRV or DEN transition of a channel that BLANK_EDGE_MASK selects starts guard blanking (R175).  Which
edges will be transitions is judged by the edges issued so far. DEDUCED (log 47). -/
def State.blankIssued (s : State) (c : Chan) : State :=
  let b := bayOf c
  let u := s.chan c
  let cyc := (s.bay b).cyc
  if (s.getB b RBay.BLANK_EDGE_MASK).testBit (c.val % 16) &&
      (willMove u.edges (·.drv) (s.inTu b u.minPulse) u.drv u.lastDrv cyc || willMove u.edges (·.den) (s.inTu b 1000) u.den u.lastDen cyc) then
    s.startBlank b
  else s

/-! ### Symbols and actions (R53 to R55, R127) -/

/-- The key of a bay's shingle entry. -/
def entryKey (b : Bay) (n : Nat) : Nat := b.val * 8192 + n
/-- Entry `n` of a bay's shingle table, as a number. -/
def State.entry (s : State) (b : Bay) (n : Nat) : Nat := (s.shingles.get (entryKey b n) 0).toNat
/-- Row width in bits: active channels times symbol bits (R53). -/
def State.rowWidth (s : State) (b : Bay) : Nat := popCount (s.getB b RBay.ACTIVE_MASK) 16 * s.getB b RBay.SYMBOL_BITS

/-- The symbol a bay channel takes from a row (R53, R55). -/
def State.symbol (s : State) (b : Bay) (row k : Nat) : Nat :=
  let mask := s.getB b RBay.ACTIVE_MASK
  let bits := s.getB b RBay.SYMBOL_BITS
  if mask.testBit k then fieldOf row (popCount mask k * bits) bits else fieldOf (s.getB b RBay.INACTIVE_SYMBOL) (4 * k) 4

/-- The alphabet entry of a channel for a page and a symbol (R126). -/
def State.alphabet (s : State) (c : Chan) (page sym : Nat) : Nat := s.getC c (RChan.ALPHA_PAGE0 + page * 256 + sym)

/-- An action with compares and captures replaced by MASK (R97). -/
def muted (a : Nat) : Nat := if strobes a then 7 else a
/-- An action with compares replaced by MASK: pad vectors compare nothing (R187). -/
def unpadded (a : Nat) : Nat := if compares a then 7 else a

/-- Fields of a shingle table entry (R51). -/
abbrev entLen (e : Nat) : Nat := fieldOf e 42 28 + 1
/-- REP_M1 + 1. -/
abbrev entRep (e : Nat) : Nat := fieldOf e 70 24 + 1
/-- SUCC -/
abbrev entSucc (e : Nat) : Nat := fieldOf e 94 13
/-- JT0 -/
abbrev entJt0 (e : Nat) : Nat := fieldOf e 107 13
/-- JT1 -/
abbrev entJt1 (e : Nat) : Nat := fieldOf e 120 13
/-- JCOND -/
abbrev entCond (e : Nat) : Nat := fieldOf e 133 8
/-- JMODE -/
abbrev entMode (e : Nat) : Nat := fieldOf e 141 3
/-- PRD -/
abbrev entPrd (e : Nat) : Nat := fieldOf e 144 6
/-- TSET -/
abbrev entTset (e : Nat) : Nat := fieldOf e 150 10
/-- LVL -/
abbrev entLvl (e : Nat) : Nat := fieldOf e 160 4
/-- ALPH -/
abbrev entAlph (e : Nat) : Nat := fieldOf e 164 2
/-- TYPE -/
abbrev entType (e : Nat) : Nat := fieldOf e 166 4
/-- RESID -/
abbrev entResid (e : Nat) : Nat := fieldOf e 170 2
/-- VALID -/
abbrev entValid (e : Nat) : Bool := e.testBit 172
/-- SOFD -/
abbrev entSofd (e : Nat) : Bool := e.testBit 173
/-- ENC -/
abbrev entEnc (e : Nat) : Bool := e.testBit 174
/-- EVT -/
abbrev entEvt (e : Nat) : Bool := e.testBit 175
/-- KEYSLOT -/
abbrev entKey (e : Nat) : Nat := fieldOf e 176 6
/-- TAG -/
abbrev entTag (e : Nat) : Nat := fieldOf e 192 16
/-- PARAM -/
abbrev entParam (e : Nat) : Nat := fieldOf e 208 32

/-- Current entry of a bay. -/
def State.curEntry (s : State) (b : Bay) : Nat := s.entry b (s.getB b RBay.CURRENT_ENTRY)

/-- A microword of the customer bank (R86), as a number. -/
def State.bankWord (s : State) (b : Bay) (addr : Nat) : Nat := (s.bank.get (b.val * 4096 + (addr - 0x3000)) 0).toNat

/-- The word a bay executes: the customer bank's at UPC, or a vendor word, which cannot be read (R86). -/
def State.word (s : State) (b : Bay) : Nat :=
  let upc := s.getB b RBay.UPC
  if (s.bay b).cust then s.bankWord b upc else (Config.vendorWord (BitVec.ofNat 32 (s.getB b RBay.VENDOR_VERSION)) (BitVec.ofNat 14 upc)).toNat

/-! ### Period resets (R67, R121, R141) -/

/-- The accumulator is reset at the end of the last vector: every edge and strobe of the old period at or after it is
dropped and counted; a match strobe that is dropped does not pass. -/
def State.periodReset (s : State) (b : Bay) : State :=
  let tb := (s.bay b).lastEnd
  let dropped := (chansOf b).foldl (fun n c =>
    n + ((s.chan c).edges.filter (fun e => decide (tb ≤ e.base))).length + ((s.chan c).strobes.filter (fun e => decide (tb ≤ e.base))).length) 0
  let s := s.each (chansOf b) (fun s c =>
    let lost := (s.chan c).strobes.filter (fun e => decide (tb ≤ e.base) && e.v.matchOf.isSome)
    let s := s.modChan c (fun u => { u with
      edges := u.edges.filter (fun e => decide (e.base < tb)), strobes := u.strobes.filter (fun e => decide (e.base < tb)) })
    s.each lost (fun s e => s.compared c e.num e.v (e.at_.toNat / 4000) e.at_ true))
  (s.incB b RBay.PERIOD_RESETS).setB b RBay.RESIDUE_DROPPED (satAdd 32 (s.getB b RBay.RESIDUE_DROPPED) dropped)

/-! ### One vector (R57, R120, R138) -/

/-- What a vector is made of: a pattern row, HOLD or MUTE of a row, or the pad vector. -/
inductive VecKind where
  | row (r : Nat)
  | hold (r : Nat) (mute : Bool)
  | pad (mute : Bool)
  deriving DecidableEq, Repr

/-- The kind number capture records give a vector (R196). -/
def VecKind.no : VecKind → Nat
  | .row _ => 0
  | .hold _ _ => 1
  | .pad m => if m then 1 else 2

/-- The slot actions of a bay channel in a vector (R127, R78, R97). -/
def State.actionsOf (s : State) (b : Bay) (page : Nat) (kind : VecKind) (k : Fin 16) : Nat × Nat :=
  let split := fun (x : Nat) (f : Nat → Nat) => (f (x % 16), f (x / 16))
  match kind with
  | .row r => split (s.alphabet (chanOf b k) page (s.symbol b r k.val)) id
  | .hold r m => split (s.alphabet (chanOf b k) page (s.symbol b r k.val)) (if m then muted else id)
  | .pad m => split (s.getB b (RBay.PAD_ACTION + k.val)) (if m then muted else unpadded)

/-- The alphabet page of a vector: the microword's ALPH 4 to 7, else the entry's (R90, R127). -/
def State.pageNow (s : State) (b : Bay) : Nat :=
  let a := fieldOf (s.word b) 55 4
  if (s.bay b).cust && (s.bay b).extra.isNone && decide (4 ≤ a) && decide (a ≤ 7) then a - 4 else entAlph (s.curEntry b)

/-- The timing set of a vector: TSO where TSO_EN is set, else the entry's (R90, R138). -/
def State.tsetNow (s : State) (b : Bay) : Nat :=
  let w := s.word b
  if (s.bay b).cust && (s.bay b).extra.isNone && w.testBit 69 then fieldOf w 59 10 else entTset (s.curEntry b)

/-- The vector's own facts: its cycle count, the last pattern row issued at or before it, its start and its period. -/
def State.vectorInfo (s : State) (b : Bay) (kind : VecKind) (period : Nat) : VInfo :=
  let u := s.bay b
  let n := s.getB b RBay.CYCLE_COUNT
  match kind with
  | .row _ => { cycle := n, entry := s.getB b RBay.CURRENT_ENTRY, pass := s.getB b RBay.CURRENT_PASS,
                granule := s.getB b RBay.CURRENT_GRANULE, row := u.granRows, sofd := entSofd (s.curEntry b), kind := 0,
                start := u.nextStart, period := period, matchOf := u.matchOn }
  | k => { u.lastInfo with
      cycle := n, sofd := entSofd (s.curEntry b), kind := k.no, start := u.nextStart, period := period, matchOf := u.matchOn }

/-- The slots whose action is CAPTURE in a vector, at 2c + slot (R198). -/
def State.captureSlots (s : State) (b : Bay) (page : Nat) (kind : VecKind) : Nat :=
  (List.finRange 16).foldl (fun n k =>
    let a := s.actionsOf b page kind k
    n + (if a.1 = 8 then 1 <<< (2 * k.val) else 0) + (if a.2 = 8 then 2 <<< (2 * k.val) else 0)) 0

/-- The strobes a match vector selects for its channels, which must all pass (R99). -/
def State.matchStart (s : State) (b : Bay) (v : VInfo) : State :=
  match v.matchOf with
  | some set =>
    let m := s.getB b (RBay.MATCH_MASK + set)
    s.modBay b (fun u => { u with matchVecs := { cycle := v.cycle, set := m, bad := 0, pend := m } :: u.matchVecs })
  | none => s

/-- After a match vector's strobes are placed: a selected strobe that was not placed, or that does not compare, does not pass
(R99). -/
def State.matchPlaced (s : State) (b : Bay) (v : VInfo) : State :=
  if v.matchOf.isNone then s
  else
    let placed := (List.finRange 16).foldl (fun n k =>
      ((s.chan (chanOf b k)).strobes.filter (fun e => e.v.cycle == v.cycle && compares e.action)).foldl (fun n e => orBit n (4 * k.val + e.num)) n) 0
    s.modBay b (fun u => { u with
      matchVecs := pruneMatch (u.matchVecs.map (fun m =>
        if m.cycle = v.cycle then { m with bad := m.bad ||| (m.pend - (m.pend &&& placed)), pend := m.pend &&& placed } else m)) })

/-- The first vector of a run: the inhibit of SAFE and of IDLE after SAFE ends (R151). -/
def State.firstVector (s : State) (b : Bay) : State :=
  if s.getB b RBay.CYCLE_COUNT = 0 then s.inhibitBay b 0 false else s

/-- One vector is issued: its period set may reset the accumulator, its edges and strobes are placed on every channel of
a quad that is not retired, and the next start is its end (R57, R67, R120, R138). -/
def State.issueVec (s : State) (b : Bay) (kind : VecKind) : State :=
  let prd := ((s.bay b).prdSel).getD (entPrd (s.curEntry b))
  let tset := s.tsetNow b
  let page := s.pageNow b
  let period := s.getB b (RBay.PERIOD + prd)
  let s := s.firstVector b
  let s := if (s.bay b).lastPrd.any (· != prd) then s.periodReset b else s
  let v := s.vectorInfo b kind period
  let s := s.matchStart b v
  let s := s.modBay b (fun u => { u with
    vrecs := u.vrecs ++ [{ v := v, capSlot := s.captureSlots b page kind, rows := s.getB b RBay.VECTORS_ISSUED, retired := s.getB b RBay.QUADS_RETIRED }],
    nextStart := v.start + period, lastEnd := v.start + period, lastPrd := some prd, lastInfo := v })
  let s := ((s.setB b RBay.CURRENT_PRD prd).setB b RBay.CURRENT_TSET tset).setB b RBay.CYCLE_COUNT ((v.cycle + 1) % 2 ^ 64)
  let s := s.each (List.finRange 16) (fun s k =>
    let c := chanOf b k
    if s.retired b (k.val / 4) then s
    else
      let a := s.actionsOf b page kind k
      let rec_ := (s.tset b tset k.val).toNat
      ((s.placeDrive c v rec_ a.1 a.2).blankIssued c).placeStrobes c v rec_ a.1 a.2)
  s.matchPlaced b v

/-! ### Edges and strobes at the land (R129 to R134) -/

/-- The earliest land instant among pending edges. -/
def earliestEdge (l : List DriveEdge) : Option Int := (l.map (·.at_)).min?

/-- A change of the DRV line at an instant: no change is no transition; one too soon after the last placed is suppressed
and marks the site INVALID (R132, R133). -/
def State.drvLine (s : State) (c : Chan) (t : Int) (level : Bool) : State :=
  let u := s.chan c
  if u.drv = level then s
  else if u.lastDrv.any (fun l => decide (t - l < s.inTu (bayOf c) u.minPulse)) then
    (s.violate c 0 RChan.DRV_SUPPRESS_COUNT).invalidChan c
  else s.modChan c (fun u => { u with drv := level, lastDrv := some t })

/-- A change of the DEN line, whose minimum is 250 ps (R133). -/
def State.denLine (s : State) (c : Chan) (t : Int) (level : Bool) : State :=
  let u := s.chan c
  if u.den = level then s
  else if u.lastDen.any (fun l => decide (t - l < s.inTu (bayOf c) 1000)) then
    (s.violate c 1 RChan.DEN_SUPPRESS_COUNT).invalidChan c
  else s.modChan c (fun u => { u with den := level, lastDen := some t })

/-- The earliest pending land instant of a channel's drive edges comes. -/
def State.landEdges (s : State) (c : Chan) : State :=
  let es := (s.chan c).edges
  match earliestEdge es with
  | none => s
  | some t =>
    let here := es.filter (fun e => e.at_ == t)
    let s := s.modChan c (fun u => { u with edges := es.filter (fun e => e.at_ != t) })
    let s := match lineOf here (·.drv) with
      | some x => s.drvLine c t x
      | none => s
    match lineOf here (·.den) with
    | some x => s.denLine c t x
    | none => s

/-- The pending strobe that comes first. -/
def earliestStrobe (l : List Strobe) : Option Strobe :=
  l.foldl (fun (o : Option Strobe) e =>
    match o with
    | none => some e
    | some x => if e.at_ < x.at_ ∨ (e.at_ = x.at_ ∧ e.num < x.num) then some e else some x) none

/-- Whether a compare fails on what the comparators show (R127). -/
def compareFails (action : Nat) (cmph cmpl : Bool) : Bool :=
  if action = 4 then !cmpl else if action = 5 then !cmph else cmph || cmpl

/-- A strobe is placed: CAPTURE records the comparators, a compare is judged (R130). -/
def State.strobe (s : State) (c : Chan) (st : Strobe) (cmph cmpl : Bool) : State :=
  let b := bayOf c
  let cc := c.val % 16
  let cyc := (st.at_.toNat) / 4000
  let s := s.modChan c (fun u => { u with lastStrobe := some st.at_ })
  let s := s.modVec b st.v.cycle (fun r => { r with level := putBit r.level cc cmph })
  if st.action = 8 then
    let i := 2 * cc + st.slot
    let s := s.modVec b st.v.cycle (fun r => { r with
      capData := putBit r.capData i cmph, capLow := putBit r.capLow i cmpl, capGot := orBit r.capGot i })
    s.queueCmp c st.num st.v cyc (.data cmph cmpl)
  else s.judge c st.num st.v cyc st.at_ (compareFails st.action cmph cmpl)

/-- The earliest pending strobe of a channel comes; less than 50 ps after the last one placed it is suppressed, and
records a fail where it compares, an invalid capture where it is a CAPTURE (R134). -/
def State.landStrobe (s : State) (c : Chan) (cmph cmpl : Bool) : State :=
  match earliestStrobe (s.chan c).strobes with
  | none => s
  | some st =>
    let s := s.modChan c (fun u => { u with strobes := u.strobes.erase st })
    if (s.chan c).lastStrobe.any (fun l => decide (st.at_ - l < s.inTu (bayOf c) 200)) then
      let s := s.violate c 3 RChan.STROBE_SUPPRESS_COUNT
      if compares st.action then s.judge c st.num st.v (st.at_.toNat / 4000) st.at_ true else s.badCapture c st.v.cycle st.slot
    else s.strobe c st cmph cmpl

/-! ### The arming timing check (R136) -/

/-- A path's violations under a period: lowest reason and count. -/
def pathCheck (rec period : Nat) (fo minPulse minStrobe : Int) : Nat × Nat × Nat :=
  let ds := (List.range 6).filter (fun k => driveRole rec k ≠ 0)
  let ss := (List.range 4).filter (fun k => strobeRole rec k ≠ 0)
  let times := ds.map (driveTime rec) ++ ss.map (strobeTime rec)
  let late := (times.filter (fun t => !inLimits t fo period)).length
  let close := fun (l : List Nat) (lo hi : Int) =>
    ((List.range l.length).flatMap (fun i => (List.range i).filter (fun j =>
      let d : Int := ((l.getD i 0 : Int) - l.getD j 0).natAbs
      decide (lo < d) && decide (d < hi)))).length
  (late, close (ds.map (driveTime rec)) 0 minPulse, close (ss.map (strobeTime rec)) (-1) minStrobe)

/-- The VALID entries of a bay's table, with their numbers, in index order. -/
def State.validEntries (s : State) (b : Bay) : List (Nat × Nat) :=
  s.shingles.filterMap (fun p => if p.1 / 8192 = b.val ∧ entValid p.2.toNat = true then some (p.1 % 8192, p.2.toNat) else none)

/-- The distinct (PRD, TSET) pairs that VALID entries name, each with the first entry that names it. -/
def State.timingPairs (s : State) (b : Bay) : List (Nat × Nat × Nat) :=
  (s.validEntries b).foldl (fun l q =>
    if l.any (fun p => p.1 == entPrd q.2 && p.2.1 == entTset q.2) then l else l ++ [(entPrd q.2, entTset q.2, q.1)]) []

/-- The check of one pair: its count of violations, and the reason of the first, 0 for none. -/
def State.checkPair (s : State) (b : Bay) (prd tset : Nat) : Nat × Nat :=
  let period := s.getB b (RBay.PERIOD + prd)
  let paths := (List.range 17).map (fun p =>
    let c : Option Chan := if h : p < 16 then some (chanOf b ⟨p, h⟩) else ((s.bay b).roll.target).map (chanOf b)
    match c with
    | some c => pathCheck (s.tset b tset p).toNat period (s.fixture c) (s.inTu b (s.getC c RChan.DRV_MIN_PULSE)) (s.inTu b 200)
    | none => (0, 0, 0))
  let short := if period < 1000 then 1 else 0
  let count := paths.foldl (fun n r => n + r.1 + r.2.1 + r.2.2) short
  let bad := paths.find? (fun r => r != (0, 0, 0))
  (count, match bad with
    | some r => if r.1 ≠ 0 then 1 else if r.2.1 ≠ 0 then 2 else 3
    | none => if short = 1 then 4 else 0)

/-- The timing check at arming, which never refuses (R136). -/
def State.timingCheck (s : State) (b : Bay) : State :=
  let rs := (s.timingPairs b).map (fun p => (p.2.2, s.checkPair b p.1 p.2.1))
  let count := rs.foldl (fun n r => n + r.2.1) 0
  let word := match rs.find? (fun r => r.2.2 != 0) with
    | some r => r.1 + r.2.2 * 2 ^ 13 + 2 ^ 31
    | none => 0
  (s.setB b RBay.TIMING_CHECK word).setB b RBay.TIMING_CHECK_COUNT (min count (2 ^ 32 - 1))

/-! ### Writes of timing sets (R123, R124, R473) -/

/-- Whether bit `i` of a path record must be zero (R122). -/
def recordReserved (i : Nat) : Bool :=
  if i < 192 then decide (28 ≤ i % 32) else decide (26 ≤ i % 32)

/-- The lowest offending bit of a path record: a reserved bit that is set, or the lowest bit of a reserved role (R52,
R123). -/
def recordError (rec : Nat) : Option Nat :=
  (List.range 320).find? (fun i =>
    (recordReserved i && rec.testBit i) ||
    (decide (i < 192) && i % 32 == 24 && decide (1 ≤ fieldOf rec i 4) && decide (fieldOf rec i 4 ≤ 7)) ||
    (decide (192 ≤ i) && i % 32 == 24 && fieldOf rec i 2 == 1))

/-- The sixteen path records a set's bytes carry; record 16's bytes are ignored (R124). -/
def setRecords (data : Bytes) : List Nat := (chunks 40 16 (data.take 640)).map ofBytes

/-- The first refused record of a set: its path and bit. -/
def setError (data : Bytes) : Option (Nat × Nat) :=
  ((setRecords data).zipIdx.filterMap (fun p => (recordError p.1).map (fun i => (p.2, i)))).head?

/-- A whole set takes new records. -/
def State.storeSet (s : State) (b : Bay) (n : Nat) (data : Bytes) : State :=
  s.each (setRecords data).zipIdx (fun s p => { s with tsets := s.tsets.set (tsetKey b n p.2) (BitVec.ofNat 320 p.1) })

/-- Sets are written one after the other until one is refused, which TSET_ERROR names (R123). -/
def State.storeSets (s : State) (b : Bay) : List (Nat × Bytes) → State
  | [] => s.ok
  | (n, d) :: rest =>
    match setError d with
    | some (p, i) => (s.setB b RBay.TSET_ERROR (n + p * 2 ^ 10 + i * 2 ^ 16)).answer ST.OUT_OF_RANGE
    | none => (s.storeSet b n d).storeSets b rest

/-- A direct write of TSET_RECORD or TSET_BLOCK in IDLE or MAINT (R119, R473). -/
def State.tsetWrite (s : State) (b : Bay) (block : Bool) (data : Bytes) : State :=
  let n := data.length / 680
  let i := s.getB b RBay.TSET_INDEX
  if !s.quiet b then s.answer ST.STATE_LOCKED
  else if data.length % 680 ≠ 0 ∨ n = 0 ∨ (if block then 64 else 1) < n ∨ 1024 < i + n then s.answer ST.OUT_OF_RANGE
  else s.storeSets b ((List.range n).map (fun j => (i + j, slice data (680 * j) 680)))

/-! ### Bay clocks (R12, R13, R117, R146, R403) -/

/-- A line's taps at the present BCLK from its stored absolute correction, and whether they fit (R403). -/
def State.tapsOf (s : State) (c : Chan) (line : Nat) : Int × Bool :=
  let corr := toSigned 32 (s.getC c (RChan.DESKEW + line))
  let trim : Int := (s.getC c (RChan.TRIM + line) : Int) - 64
  let t := s.inTu (bayOf c) (corr - trim)
  (max (-4095) (min 4095 t), decide (-4095 ≤ t) && decide (t ≤ 4095))

/-- Every channel path's taps are recomputed after a relock; a path that does not fit is marked and reported (R403). -/
def State.retap (s : State) (b : Bay) : State :=
  s.each (chansOf b) (fun s c =>
    let ok := (List.range 4).all (fun l => (s.tapsOf c l).2)
    let s := s.each (List.range 4) (fun s l => s.setC c (RChan.TAPS + l) (ofSigned 16 (s.tapsOf c l).1))
    if ok then s
    else (s.flagC c RChan.PATH_STATUS 1).fault (0x110 + b.val) 0x2A (c.val % 16))

/-- What a land in OFF sees (R150, R155): 50 Ω to VTT, high impedance, or high impedance with the active load. -/
inductive OffForm where
  | termination | highZ | activeLoad
  deriving DecidableEq, Repr

/-- The output conditions of a land (R150), and none while the pin die is unpowered (R184). -/
inductive LandCond where
  | unpowered | driving | off (form : OffForm) | inhibited
  deriving DecidableEq, Repr

/-- What a channel's land sees in OFF (R150, R155). -/
def State.offForm (s : State) (c : Chan) : OffForm :=
  if s.getC c RChan.OFF_MODE = 0 then .termination else if s.getC c RChan.LOAD_EN = 1 then .activeLoad else .highZ

/-- The condition of a channel's land: unpowered without the pin die's supplies; INHIBITED with any cause of R151, and while
the bay's clocks are not locked (R13); else DRIVING or OFF as DEN gives (R150). -/
def State.landCond (s : State) (c : Chan) : LandCond :=
  let b := bayOf c
  if s.pinPower = false then .unpowered
  else if s.getC c RChan.INHIBIT_CAUSE ≠ 0 ∨ s.locked b.val = false ∨ (s.bay b).fine = false then .inhibited
  else if (s.chan c).den then .driving else .off (s.offForm c)

/-- A bay's BCLK or fine clock is no longer locked (R13): what was still to be placed is not. -/
def State.unlock (s : State) (b : Bay) (fine : Bool) : State :=
  let s := if fine then s.modBay b (fun u => { u with fine := false }) else s.setO R.LOCK_MASK (clrBit (s.getO R.LOCK_MASK) b.val)
  s.each (chansOf b) (fun s c => s.modChan c (fun u => { u with edges := [], strobes := [] }))

/-- The bay's PLL and its fine clock have locked at the frequency asked for: deskew and limits are in tu again (R117). -/
def State.relocked (s : State) (b : Bay) : State :=
  match (s.bay b).relock with
  | none => s
  | some mhz =>
    let s := s.modBay b (fun u => { u with mhz := mhz, fine := true, relock := none })
    let s := (s.setO R.LOCK_MASK (orBit (s.getO R.LOCK_MASK) b.val)).setB b RBay.TIME_UNIT (250000000 / mhz)
    s.retap b

/-! ### Meanings -/

/-- STROBE_LATCH (R130, R134). -/
def execStrobeLatch (c : Chan) (cmph cmpl : Bool) (s : State) : Host.Outcome State Fault Refusal :=
  .next (s.landStrobe c cmph cmpl)

/-- DRIVE_EDGE (R129, R132, R133). -/
def execDriveEdge (c : Chan) (s : State) : Host.Outcome State Fault Refusal := .next (s.landEdges c)

/-- TSET_WRITE (R123, R124). -/
def execTsetWrite (b : Bay) (epoch : BitVec 16) (block : Bool) (data : Bytes) (s : State) : Host.Outcome State Fault Refusal :=
  .next (s.hostBayFirm b epoch (fun s => s.tsetWrite b block data))

/-- PLL_RELOCK (R12, R117, R403). -/
def execPllRelock (b : Bay) (s : State) : Host.Outcome State Fault Refusal := .next (s.relocked b)

end Sys2Proof.Machine
end

