-- ==== Sys2Proof/Machine/Slots.lean ====
section
/-! DEFINITION. The content-key slots and the tags of encrypted blocks (R271, R390). -/

namespace Sys2Proof.Machine

/-! ### Content-key slots (R390) -/

/-- SLOT_STATE of a slot. -/
def State.slot (s : State) (k : Nat) : Nat := s.getO (R.SLOT_STATE + k)
/-- A slot's present KEY_EPOCH. -/
def State.slotEpoch (s : State) (k : Nat) : Nat := s.slot k % 256
/-- Whether a slot holds a key. -/
def State.slotLoaded (s : State) (k : Nat) : Bool := (s.slot k).testBit 12
/-- Whether a bay owns a slot. -/
def State.slotOf (s : State) (k : Nat) (b : Bay) : Bool := s.slotLoaded k && fieldOf (s.slot k) 8 4 == b.val

/-- The KEY_EPOCH that follows one: from 1 to 255, and 1 again (R390). -/
def nextKeyEpoch (e : Nat) : Nat := if e = 255 then 1 else e + 1

/-- A slot is zeroised: its key is erased and its epoch advances (R271, R390). -/
def State.zeroSlot (s : State) (k : Nat) : State :=
  let e := nextKeyEpoch (s.slotEpoch k)
  { s with keys := s.keys.set k 0 }.setO (R.SLOT_STATE + k) e |>.setO (R.SLOT_BASE + k) 0

/-- Every slot is zeroised (R380, R397). -/
def State.zeroSlots (s : State) : State := s.each (List.range 64) State.zeroSlot

/-- A slot takes a key, the reserved epoch, a placement base and its owner (R389). -/
def State.loadSlot (s : State) (k : Nat) (xts : BitVec 512) (base : Nat) (b : Bay) : State :=
  let e := nextKeyEpoch (s.slotEpoch k)
  ({ s with keys := s.keys.set k xts }.setO (R.SLOT_STATE + k) (e + b.val * 256 + 4096)).setO (R.SLOT_BASE + k) base

/-- Whether a bay is armed or runs, so that it uses the slots its ENC entries name. -/
def State.armed (s : State) (b : Bay) : Bool := s.bst b == BS.ARMED || s.running b

/-- Bit 13 of SLOT_STATE follows the bays that are armed (R399). -/
def State.showSlots (s : State) : State :=
  let used := (List.finRange 16).flatMap (fun b =>
    if s.armed b then ((s.validEntries b).filter (fun p => entEnc p.2)).map (fun p => entKey p.2) else [])
  s.each (List.range 64) (fun s k =>
    let v := putBit (s.slot k) 13 (used.contains k)
    if v = s.slot k then s else s.setO (R.SLOT_STATE + k) v)

/-- Whether a block of encrypted data at an address carries another epoch than the slot's: it is poisoned (R271). -/
def State.tagBad (s : State) (e addr : Nat) : Bool := entEnc e && s.tagEpoch addr != s.slotEpoch (entKey e)

end Sys2Proof.Machine
end

