-- ==== Sys2Proof/Machine/Tmu.lean ====
section
/-! DEFINITION. Time-interval and frequency measurement (R217 to R235), and the commands of this family. -/

namespace Sys2Proof.Machine

/-- TMU_STATE values (R235). -/
abbrev TS.IDLE : Nat := 0
/-- CALIBRATING -/
abbrev TS.CALIBRATING : Nat := 1
/-- WAITING -/
abbrev TS.WAITING : Nat := 2
/-- FULL -/
abbrev TS.FULL : Nat := 3

/-- The number of event k of a bay's TMU (R437). -/
def evTmu (b : Bay) (k : Nat) : Nat := 1664 + b.val * 4 + k
/-- The state of a bay's TMU. -/
def State.tmuState (s : State) (b : Bay) : Nat := s.getB b RBay.TMU_STATE
/-- A change of a bay's TMU. -/
def State.modTmu (s : State) (b : Bay) (f : Tmu → Tmu) : State := s.modBay b (fun u => { u with tmu := f u.tmu })
/-- A bay's TMU. -/
def State.tmu (s : State) (b : Bay) : Tmu := (s.bay b).tmu

/-! ### Hits as times (R220, R222) -/

/-- The 48-bit coarse counter of a bay's TMU: the TCLK periods of 500 ps since its PLL locked (R220). -/
def State.coarse (s : State) (b : Bay) : Nat := (s.now - (s.tmu b).lockAt) / 500 % 2 ^ 48

/-- The TCLK cycle that a bay's events come in; while the bay runs, its BCLK cycles tell the time. -/
def State.tclk (s : State) (b : Bay) : Nat :=
  let u := s.bay b
  (if s.running b then u.runTime + u.cyc * 1000000 / u.mhz else s.now) / 500

/-- The TMU waits for a time-out or for the end of its gate. -/
def State.tmuDue (s : State) (b : Bay) (ps : Nat) : State := s.modTmu b (fun u => { u with due := some (s.now + ps) })

/-- A hit's coarse count and the femtoseconds to add to it: t = 500,000 C − w (n − n0), with the tap's correction. -/
def State.hitTime (s : State) (b : Bay) (coarse taps : Nat) : Nat × Int :=
  let u := s.tmu b
  (coarse % 2 ^ 48, -((u.w : Int) * ((taps : Int) - u.n0)) + match u.corr with
    | some n => Config.tapCorrection n taps
    | none => 0)

/-- The time of one hit after another in fs, coarse counts taken modulo 2^48 (R220). -/
def hitDiff (a b : Nat × Int) : Int := 500000 * toSigned 48 (ofSigned 48 ((a.1 : Int) - b.1)) + a.2 - b.2

/-! ### Records and the FIFO (R232 to R234) -/

/-- What a result record says beside the TMU's own facts. -/
structure TmuRec where
  value   : Int := 0
  count   : Nat := 0
  valid   : Bool := false
  near    : Bool := false
  order   : Bool := false
  timeout : Bool := false
  calFail : Bool := false
  refLost : Bool := false
  route   : Nat := 0
  deriving DecidableEq, Repr

/-- The 16 bytes of a result record (R232). -/
def State.tmuBytes (s : State) (b : Bay) (r : TmuRec) : Bytes :=
  let u := s.tmu b
  let bit := fun (x : Bool) (i : Nat) => if x then 1 <<< i else 0
  toBytes 16 (ofSigned 64 r.value + ((r.count % 2 ^ 48) <<< 64) + bit r.valid 112 + bit u.warm 113 + bit r.near 114 + bit r.order 115 +
    bit r.timeout 116 + bit (decide (0 < u.lost)) 117 + bit r.calFail 118 + bit r.refLost 119 + (u.cfg.mode <<< 120) +
    (r.route <<< 122) + ((min u.lost 31) <<< 123))

/-- A record enters the FIFO, which raises event 3 as it becomes full; a record that finds no space is lost (R233). -/
def State.tmuPush (s : State) (b : Bay) (r : TmuRec) : State :=
  let bytes := s.tmuBytes b r
  if 256 ≤ (s.tmu b).fifo.length then s
  else
    let s := s.modTmu b (fun u => { u with fifo := u.fifo ++ [bytes], last := bytes, lost := 0, records := u.records + 1 })
    let n := (s.tmu b).fifo.length
    let s := s.setB b RBay.RESULT_COUNT n
    if n = 256 then s.occur (evTmu b 3) else s

/-- A measurement is over: the next repetition is due, or the TMU returns to IDLE (R226). -/
def State.tmuOver (s : State) (b : Bay) : State :=
  let u := s.tmu b
  let n := u.repeats + 1
  if u.cfg.repeat_ ≠ 0 ∧ u.cfg.repeat_ ≤ n then
    (s.modTmu b (fun u => { u with repeats := n, between := false, due := none })).setB b RBay.TMU_STATE TS.IDLE
  else
    let full := u.cfg.mode ≠ 2 ∧ 256 ≤ u.fifo.length
    (s.modTmu b (fun u => { u with repeats := n, between := true, due := none })).setB b RBay.TMU_STATE (if full then TS.FULL else TS.CALIBRATING)

/-- A measurement completes with VALID: its event and TMU_DONE (R234). -/
def State.tmuDone (s : State) (b : Bay) : State :=
  ((s.modBay b (fun u => { u with latched := orBit u.latched 0x19 })).occur (evTmu b 0)).tmuOver b

/-- The TMU begins a measurement with a fresh calibration, its hits and counts afresh (R222). -/
def State.tmuBegin (s : State) (b : Bay) : State :=
  (s.modTmu b (fun u => { u with
    hit0 := none, hit1 := none, seen := Vector.replicate 2 none, lost := 0, edges := 0, records := 0, gateOver := false,
    between := false, due := none })).setB b RBay.TMU_STATE TS.CALIBRATING

/-- A repetition that waits begins once its mode has space in the FIFO and TCLK is locked (R220, R226). -/
def State.tmuRepeat (s : State) (b : Bay) : State :=
  let u := s.tmu b
  if u.between && s.locked (24 + b.val) && (u.cfg.mode == 2 || decide (u.fifo.length < 256)) then s.tmuBegin b else s

/-! ### Arming (R224, R225) -/

/-- The routes a mode requires of a bay's TMU (R225). -/
def State.tmuRoutes (s : State) (b : Bay) : List (Fin 2) := if s.getB b RBay.TMU_MODE = 1 then [0, 1] else [0]

/-- Whether a route with a source serves the TMU: it is claimed for TMU, and a TRIG land that it names for EXT_INPUT (R217). -/
def State.routeServes (s : State) (b : Bay) (r : Fin 2) (src : Nat) : Bool :=
  src != 0xFFFF && s.claimedFor (.probeRoute b r) 0x03 &&
    !(decide (0x60 ≤ src) && decide (src ≤ 0x67) && !s.claimedFor (.trig ⟨src % 8, Nat.mod_lt _ (by decide)⟩) 0x07)

/-- Why a route does not serve the TMU: no source, or a claim that is missing (R217, R225); with SCOPE's claim, if that
is what stands in the way. -/
def State.routeRefusal (s : State) (b : Bay) (r : Fin 2) : Option (Option Claim) :=
  let src := s.getB b (RBay.ROUTE_SOURCE + r.val)
  if s.routeServes b r src then none
  else if src ≠ 0xFFFF ∧ s.claimedFor (.probeRoute b r) 0x04 = true then some (s.claim (.probeRoute b r))
  else some none

/-- Why an arming is refused, if it is (R225). -/
def State.tmuRefusal (s : State) (b : Bay) : Option (Option Claim) :=
  if s.bst b = BS.OFF ∨ s.bst b = BS.SAFE ∨ s.getB b RBay.TMU_MODE = 0 then some none
  else
    let rs := (s.tmuRoutes b).filterMap (s.routeRefusal b)
    match rs.find? (·.isSome) with
    | some c => some c
    | none => rs.head?

/-- A refused arming is counted and raises its event (R225). -/
def State.tmuRefused (s : State) (b : Bay) : State := (s.incB b RBay.ARM_REFUSED).occur (evTmu b 2)

/-- An arming that is accepted: it ends a TMU assay that runs (R414), discards what is in progress, latches the
configuration and calibrates; INTERVAL and FREQUENCY wait while the FIFO is full (R222, R224, R226). -/
def State.tmuArm (s : State) (b : Bay) : State :=
  let mode := s.getB b RBay.TMU_MODE
  let cfg : TmuCfg := {
    mode := mode, timeout := s.getB b RBay.TIMEOUT, signed := s.getB b RBay.SIGNED == 1, gate := s.getB b RBay.GATE
    repeat_ := s.getB b RBay.REPEAT, hits := s.getB b RBay.HITS
    edge0 := s.getB b RBay.ROUTE_EDGE, edge1 := s.getB b (RBay.ROUTE_EDGE + 1)
    src0 := s.getB b RBay.ROUTE_SOURCE, src1 := s.getB b (RBay.ROUTE_SOURCE + 1) }
  let s := s.modTmu b (fun u => { u with cfg := cfg, repeats := 0, warm := s.getB b RBay.WARM_STATE == 1, assay := false })
  if mode ≠ 2 ∧ 256 ≤ (s.tmu b).fifo.length then
    (s.modTmu b (fun u => { u with between := true })).setB b RBay.TMU_STATE TS.FULL
  else s.tmuBegin b

/-- A disarm discards the measurement in progress without a record (R224). -/
def State.tmuDisarm (s : State) (b : Bay) : State :=
  (s.modTmu b (fun u => { u with between := false, hit0 := none, hit1 := none, due := none })).setB b RBay.TMU_STATE TS.IDLE

/-- An ARM that is accepted becomes usable: with a DISARM of the same TCLK cycle it leaves the TMU disarmed and is counted (R224). -/
def State.tmuArmNow (s : State) (b : Bay) : State :=
  if (s.tmu b).disCyc = some (s.tclk b) then (s.tmuDisarm b).incB b RBay.ARM_REFUSED
  else (s.tmuArm b).modTmu b (fun u => { u with armCyc := some (s.tclk b) })

/-- A DISARM becomes usable: an ARM of the same TCLK cycle is counted as refused (R224). -/
def State.tmuDisarmNow (s : State) (b : Bay) : State :=
  let same := (s.tmu b).armCyc == some (s.tclk b)
  let s := (s.tmuDisarm b).modTmu b (fun u => { u with armCyc := none, disCyc := some (s.tclk b) })
  if same then s.incB b RBay.ARM_REFUSED else s

/-- A host command to the TMU island: judged by that island's clock, not by the bay's, and by the bay's epoch (R14, R38, R235). -/
def State.hostTmu (s : State) (b : Bay) (epoch : BitVec 16) (k : State → State) : State :=
  if !s.operational || !s.locked (24 + b.val) then s.answer ST.STATE_LOCKED
  else if epoch.toNat ≠ s.getB b RBay.SITE_EPOCH then s.stale b
  else k s

/-- The FIFO is emptied (R233). -/
def State.tmuClear (s : State) (b : Bay) : State := (s.modTmu b (fun u => { u with fifo := [] })).setB b RBay.RESULT_COUNT 0

/-- ARM_REQUEST (R224, R225). -/
def State.tmuArmRequest (s : State) (b : Bay) : State :=
  match s.tmuRefusal b with
  | some (some c) => (s.tmuRefused b).answerD ST.RESOURCE_CLAIMED (claimDetail c)
  | some none => (s.tmuRefused b).answer ST.STATE_LOCKED
  | none => (s.tmuArmNow b).ok

/-- DISARM_REQUEST (R224). -/
def State.tmuDisarmRequest (s : State) (b : Bay) : State := (s.tmuDisarmNow b).ok

/-- A microword's ARM reaches the TMU island as an event: dropped while TCLK is not locked, ignored where refused. -/
def State.tmuArmEvent (s : State) (b : Bay) : State :=
  if !s.locked (24 + b.val) then s.dropEvent (24 + b.val)
  else match s.tmuRefusal b with
    | some _ => s.tmuRefused b
    | none => s.tmuArmNow b

/-- A microword's DISARM. -/
def State.tmuDisarmEvent (s : State) (b : Bay) : State :=
  if !s.locked (24 + b.val) then s.dropEvent (24 + b.val) else s.tmuDisarmNow b

/-! ### Calibration, hits and ends of a measurement -/

/-- COUNT of a record that ends a measurement early: the repetition's number, the hit's, or the edges counted so far (R231,
R232). -/
def State.tmuCount (s : State) (b : Bay) : Nat :=
  let u := s.tmu b
  if u.cfg.mode = 3 then u.edges else if u.cfg.mode = 2 then u.records else u.repeats

/-- A calibration ends with a tap weight and an offset; outside 500,000 to 525,000 fs over 128 taps it fails (R222,
R223). -/
def State.tmuCalibrated (s : State) (b : Bay) (w n0 : Nat) : State :=
  let s := (s.setB b RBay.LSB_FS (w % 2 ^ 32)).modTmu b (fun u => { u with w := w, n0 := n0 })
  if 128 * w < 500000 ∨ 525000 < 128 * w then
    let s := (s.tmuPush b { calFail := true, count := s.tmuCount b }).incB b RBay.CAL_FAILS
    (s.fault (0x120 + b.val) 0x31 0).tmuOver b
  else (s.setB b RBay.TMU_STATE TS.WAITING).tmuDue b ((s.tmu b).cfg.timeout * 1000000000)

/-- A hit lost in dead time or to a full FIFO (R228, R229). -/
def State.tmuLost (s : State) (b : Bay) : State :=
  (s.incB b RBay.LOST_HITS).modTmu b (fun u => { u with lost := u.lost + 1 })

/-- An interval's record from its start and its stop (R227). -/
def State.tmuInterval (s : State) (b : Bay) (start stop : Nat × Int) : State :=
  let d := hitDiff stop start
  let near := decide (d.natAbs < (s.tmu b).w)
  let order := !near && decide (d < 0)
  let n := (s.tmu b).repeats
  (s.tmuPush b { value := if near then 0 else d, count := n, valid := true, near := near, order := order }).tmuDone b

/-- A hit in INTERVAL mode (R227). -/
def State.hitInterval (s : State) (b : Bay) (route : Fin 2) (t : Nat × Int) : State :=
  let u := s.tmu b
  if route = 0 then
    match u.hit0, u.hit1 with
    | none, none => s.modTmu b (fun u => { u with hit0 := some t })
    | none, some t1 => s.tmuInterval b t t1
    | some _, _ => s
  else if u.cfg.signed then
    match u.hit0, u.hit1 with
    | none, none => s.modTmu b (fun u => { u with hit1 := some t })
    | some t0, none => s.tmuInterval b t0 t
    | _, some _ => s
  else
    match u.hit0 with
    | some t0 => if hitDiff t t0 ≤ -(u.w : Int) then s.incB b RBay.DISCARDED_STOPS else s.tmuInterval b t0 t
    | none => s.incB b RBay.DISCARDED_STOPS

/-- A hit in TIMESTAMP mode (R229). -/
def State.hitStamp (s : State) (b : Bay) (route : Fin 2) (t : Nat × Int) : State :=
  let u := s.tmu b
  match u.hit0 with
  | none =>
    if route = 0 then
      let s := s.modTmu b (fun u => { u with hit0 := some t })
      if 256 ≤ u.fifo.length then s.tmuLost b
      else
        let s := s.tmuPush b { value := 0, count := 0, valid := true, route := 0 }
        if u.cfg.hits ≤ 1 then s.tmuDone b else s
    else s.incB b RBay.DISCARDED_STOPS
  | some t0 =>
    if 256 ≤ u.fifo.length then s.tmuLost b
    else
      let s := s.tmuPush b { value := hitDiff t t0, count := u.records, valid := true, route := route.val }
      if u.cfg.hits ≤ u.records + 1 then s.tmuDone b else s

/-- A hit in FREQUENCY mode: the gate opens, edges are counted, and the first edge at or after the gate's end closes it
(R230). -/
def State.hitFrequency (s : State) (b : Bay) (route : Fin 2) (t : Nat × Int) : State :=
  let u := s.tmu b
  if route = 1 then s
  else match u.hit0 with
    | none => (s.modTmu b (fun u => { u with hit0 := some t, edges := 0 })).tmuDue b (u.cfg.gate * 1000000)
    | some t0 =>
      let d := hitDiff t t0
      let n := u.edges + 1
      let s := s.modTmu b (fun u => { u with edges := n })
      if d < (u.cfg.gate : Int) * 1000000000 then s
      else
        let s := s.tmuPush b { value := d, count := n, valid := true }
        (s.setB b RBay.FREQ_HZ (f64OfRatio ((n : Int) * 10 ^ 15) d.toNat).toNat).tmuDone b

/-- An edge on a route's source: a hit where the route serves the TMU and has the edge's polarity (R217); early unless the TMU is
WAITING, lost within 1.2 ns of the last hit registered on its input, and otherwise the mode's (R225, R228).  The coarse counter
gives its period (R220). -/
def State.tmuHit (s : State) (b : Bay) (route : Fin 2) (rising : Bool) (taps : Nat) : State :=
  let u := s.tmu b
  let idle := s.tmuState b = TS.IDLE
  let src := if idle then s.getB b (RBay.ROUTE_SOURCE + route.val) else if route = 0 then u.cfg.src0 else u.cfg.src1
  let edge := if idle then s.getB b (RBay.ROUTE_EDGE + route.val) else if route = 0 then u.cfg.edge0 else u.cfg.edge1
  if !s.routeServes b route src || (edge == 0 && !rising) || (edge == 1 && rising) then s
  else if s.tmuState b ≠ TS.WAITING then s.incB b RBay.EARLY_HITS
  else
    let t := s.hitTime b (s.coarse b) taps
    let blind := u.cfg.mode ≠ 3 ∧ ((u.seen.get route).any (fun l => decide (hitDiff t l < 1200000))) = true
    if blind then s.tmuLost b
    else
      let s := s.modTmu b (fun u => { u with seen := u.seen.set route.val (some t) route.isLt })
      if u.cfg.mode = 1 then s.hitInterval b route t
      else if u.cfg.mode = 2 then s.hitStamp b route t
      else s.hitFrequency b route t

/-- A measurement times out: its record, its count and its event (R231). -/
def State.tmuTimeout (s : State) (b : Bay) : State :=
  let s := (s.tmuPush b { timeout := true, count := s.tmuCount b }).incB b RBay.TIMEOUTS
  (s.occur (evTmu b 1)).tmuOver b

/-- TCLK loses lock: a measurement in progress ends with REF_LOST and is reported, and the repetitions left wait for the relock
(R220, R226). -/
def State.tmuRefLost (s : State) (b : Bay) : State :=
  let st := s.tmuState b
  let s := s.setO R.LOCK_MASK (clrBit (s.getO R.LOCK_MASK) (24 + b.val))
  if (s.tmu b).between = false ∧ (st = TS.CALIBRATING ∨ st = TS.WAITING) then
    let s := s.tmuPush b { refLost := true, count := s.tmuCount b }
    (s.fault (0x120 + b.val) 0x30 0).tmuOver b
  else s

/-- The oldest records of the FIFO are removed and returned; an empty FIFO returns one record of zeros (R233). -/
def State.tmuRead (s : State) (b : Bay) (n : Nat) : Bytes × State :=
  let f := (s.tmu b).fifo
  let body := if f.isEmpty then toBytes 16 0 else (f.take n).flatten
  let s := s.modTmu b (fun u => { u with fifo := u.fifo.drop n })
  let s := s.setB b RBay.RESULT_COUNT (s.tmu b).fifo.length
  (body, s.tmuRepeat b)

/-- A change of the REF_WARM land: reported, and false clears WARM_STATE of every TMU (R221, R444). -/
def State.refWarm (s : State) (level : Bool) : State :=
  let v := if level then 1 else 0
  if s.getO R.REF_WARM = v then s
  else
    let s := (s.setO R.REF_WARM v).event 2026 v
    if level then s
    else s.each (List.finRange 16) (fun s b =>
      (s.setB b RBay.WARM_STATE 0).modTmu b (fun u => { u with warm := false, assayWarm := false }))

/-! ### Meanings -/

/-- TMU_ARM_REQUEST (R224, R225). -/
def execTmuArmRequest (b : Bay) (epoch : BitVec 16) (s : State) : Host.Outcome State Fault Refusal :=
  .next (s.hostTmu b epoch (fun s => s.tmuArmRequest b))

/-- TMU_DISARM_REQUEST (R224). -/
def execTmuDisarmRequest (b : Bay) (epoch : BitVec 16) (s : State) : Host.Outcome State Fault Refusal :=
  .next (s.hostTmu b epoch (fun s => s.tmuDisarmRequest b))

/-- TMU_CALIBRATION_DONE (R222, R223). -/
def execTmuCalibrationDone (b : Bay) (w n0 : Nat) (s : State) : Host.Outcome State Fault Refusal :=
  .next (if s.tmuState b = TS.CALIBRATING ∧ (s.tmu b).between = false then s.tmuCalibrated b w n0 else s)

/-- TMU_HIT (R217, R220, R225 to R230): an edge comes so many TCLK periods after the time that the module has come to. -/
def execTmuHit (b : Bay) (route : Fin 2) (rising : Bool) (ticks taps : Nat) (s : State) : Host.Outcome State Fault Refusal :=
  .next (if s.locked (24 + b.val) then (s.advance (s.now + 500 * ticks)).tmuHit b route rising taps else s)

/-- TMU_GATE_EXPIRY (R230): GATE has passed since the gate opened, and the wait for the closing edge begins. -/
def execTmuGateExpiry (b : Bay) (s : State) : Host.Outcome State Fault Refusal :=
  .next (
    if s.tmuState b = TS.WAITING ∧ (s.tmu b).cfg.mode = 3 ∧ (s.tmu b).hit0.isSome = true ∧ (s.tmu b).gateOver = false then
      let s := s.advance ((s.tmu b).due.getD 0)
      (s.modTmu b (fun u => { u with gateOver := true })).tmuDue b ((s.tmu b).cfg.timeout * 1000000000)
    else s)

/-- TMU_TIMEOUT (R231): TIMEOUT has passed since WAITING; in FREQUENCY mode it bounds the wait for the opening edge and, after the gate, for the closing
one. -/
def execTmuTimeout (b : Bay) (s : State) : Host.Outcome State Fault Refusal :=
  let u := s.tmu b
  .next (
    if s.tmuState b = TS.WAITING ∧ (u.cfg.mode ≠ 3 ∨ u.hit0.isNone = true ∨ u.gateOver = true) then
      (s.advance (u.due.getD 0)).tmuTimeout b
    else s)

/-- TMU_REPEAT (R226). -/
def execTmuRepeat (b : Bay) (s : State) : Host.Outcome State Fault Refusal := .next (s.tmuRepeat b)

/-- TMU_REF_LOST (R220). -/
def execTmuRefLost (b : Bay) (s : State) : Host.Outcome State Fault Refusal :=
  .next (if s.locked (24 + b.val) then s.tmuRefLost b else s)

/-- TCLK_RELOCK (R220): ARM requests are judged again, and the coarse counter runs from here. -/
def execTclkRelock (b : Bay) (s : State) : Host.Outcome State Fault Refusal :=
  .next ((s.setO R.LOCK_MASK (orBit (s.getO R.LOCK_MASK) (24 + b.val))).modTmu b (fun u => { u with lockAt := s.now }))

/-- RESULT_READ (R233). -/
def execResultRead (b : Bay) (s : State) : Host.Outcome State Fault Refusal :=
  .next (s.hostModule (fun s =>
    if s.locked (24 + b.val) then (s.tmuRead b 1).2.answerBody (s.tmuRead b 1).1 else s.answer ST.STATE_LOCKED))

/-- RESULT_BLOCK_READ (R233). -/
def execResultBlockRead (b : Bay) (s : State) : Host.Outcome State Fault Refusal :=
  .next (s.hostModule (fun s =>
    if s.locked (24 + b.val) then (s.tmuRead b 64).2.answerBody (s.tmuRead b 64).1 else s.answer ST.STATE_LOCKED))

/-- FIFO_CLEAR (R233). -/
def execFifoClear (b : Bay) (epoch : BitVec 16) (s : State) : Host.Outcome State Fault Refusal :=
  .next (s.hostTmu b epoch (fun s => ((s.tmuClear b).tmuRepeat b).ok))

/-- REF_WARM_CHANGE (R221). -/
def execRefWarmChange (level : Bool) (s : State) : Host.Outcome State Fault Refusal := .next (s.refWarm level)

end Sys2Proof.Machine
end

