-- ==== Sys2Proof/Machine/Sequencer.lean ====
section
/-! DEFINITION. Shingle sequencing (R49 to R85, R473): the table and its checks, conditions, jump requests, the loft and
its fetch, granule, decision and shingle boundaries, underrun and pad. -/

namespace Sys2Proof.Machine

/-! ### Table entries (R50 to R52) -/

/-- The pattern region in bytes (R275). -/
def State.patternBytes (s : State) : Nat := s.getO R.PATTERN_SIZE * 1048576

/-- The bytes of a shingle's data blocks with a row width (R54). -/
def entBytes (e width : Nat) : Nat := ceilDiv (8 * entLen e * width) 512 * 64

/-- The address of an entry's first block. -/
def entStart (e : Nat) : Nat := fieldOf e 0 42 * 64

/-- Whether an entry's blocks lie wholly inside the pattern region (R52). -/
def State.inPattern (s : State) (b : Bay) (e : Nat) : Bool :=
  entResid e == 3 || decide (entStart e + entBytes e (s.rowWidth b) ≤ s.patternBytes)

/-- The lowest offending bit of an entry, where a write of it is refused (R52). -/
def State.entryError (s : State) (b : Bay) (e : Nat) : Option Nat :=
  if !entValid e then none
  else (List.range 256).find? (fun i =>
    (i == 0 && !s.inPattern b e) || (i == 42 && decide (entLen e < 8)) ||
    ((decide (182 ≤ i) && decide (i ≤ 191) || decide (240 ≤ i)) && e.testBit i) ||
    (i == 208 && entType e == 0 && entParam e != 0))

/-- Entries are written one after the other until one is refused, which ENTRY_ERROR names (R52). -/
def State.storeEntries (s : State) (b : Bay) : List (Nat × Nat) → State
  | [] => s.ok
  | (n, e) :: rest =>
    match s.entryError b e with
    | some i => (s.setB b RBay.ENTRY_ERROR (n + i * 2 ^ 16)).answer ST.OUT_OF_RANGE
    | none => ({ s with shingles := s.shingles.set (entryKey b n) (BitVec.ofNat 256 e) } : State).storeEntries b rest

/-- A write of ENTRY at TABLE_INDEX, in IDLE or MAINT (R50). -/
def State.entryWrite (s : State) (b : Bay) (e : Nat) : State :=
  if !s.quiet b then s.answer ST.STATE_LOCKED else s.storeEntries b [(s.getB b RBay.TABLE_INDEX, e)]

/-- A write of TABLE_BLOCK: 1 to 256 whole entries from TABLE_INDEX (R473). -/
def State.tableWrite (s : State) (b : Bay) (data : Bytes) : State :=
  let n := data.length / 32
  let i := s.getB b RBay.TABLE_INDEX
  if !s.quiet b then s.answer ST.STATE_LOCKED
  else if data.length % 32 ≠ 0 ∨ n = 0 ∨ 256 < n ∨ 8192 < i + n then s.answer ST.OUT_OF_RANGE
  else s.storeEntries b ((List.range n).map (fun j => (i + j, ofBytes (slice data (32 * j) 32))))

/-! ### Conditions (R102) -/

/-- Whether the last compared vector of a quad, or of the bay, failed (R102, R187). -/
def cmpFailed (o : Option (Nat × Bool)) : Bool := o.any (·.2)

/-- The result of the newest match vector that is decided for the strobes a mask selects (R99). -/
def State.matched (s : State) (b : Bay) (mask : Nat) : Bool :=
  match (s.bay b).matchVecs.find? (fun m => (m.bad &&& mask) != 0 || (m.pend &&& mask) == 0) with
  | some m => (m.bad &&& mask) == 0
  | none => false

/-- QUAD_MATCH q (R99). -/
def State.quadMatch (s : State) (b : Bay) (q : Nat) : Bool := s.matched b (0xFFFF <<< (16 * q))
/-- QUAD_FAIL q (R102). -/
def State.quadFail (s : State) (b : Bay) (q : Fin 4) : Bool := cmpFailed ((s.bay b).quadCmp.get q)

/-- The bay's own site-fail condition (R26). -/
def State.ownFail (s : State) (b : Bay) : Bool := (List.finRange 4).any (fun q => !s.retired b q.val && s.quadFail b q)
/-- The bay's own site-match condition (R26). -/
def State.ownMatch (s : State) (b : Bay) : Bool := (List.finRange 4).all (fun q => s.retired b q.val || s.quadMatch b q.val)

/-- The lockstep site of a bay, if it has one. -/
def State.lockSite (s : State) (b : Bay) : Option Site := (s.sitesOf b).find? (fun i => 3 ≤ s.siteKind i)

/-- SITE_FAIL: a MULTI_BAY site's from its ridge line; a MULTI_MODULE site's OR of what the purlin brings and what this module
gives it (R29, R30). -/
def State.siteFail (s : State) (b : Bay) : Bool :=
  match s.lockSite b with
  | some i =>
    let p := s.purlin.get i.val 0
    if s.siteKind i = 3 then s.ridge.testBit (s.getS i RSite.RIDGE_FAIL) else p.testBit 0 || p.testBit 2
  | none => s.ownFail b
/-- SITE_MATCH: a MULTI_MODULE site's AND. -/
def State.siteMatch (s : State) (b : Bay) : Bool :=
  match s.lockSite b with
  | some i =>
    let p := s.purlin.get i.val 0
    if s.siteKind i = 3 then s.ridge.testBit (s.getS i RSite.RIDGE_MATCH) else p.testBit 1 && p.testBit 3
  | none => s.ownMatch b

/-! ### What a site's bays give its conditions (R29, R30, R48) -/

/-- The line of a ridge line's driver changes: the change is on its way to the bays (R17, R29). -/
def State.driveRidge (s : State) (line : Nat) (on : Bool) : State :=
  if s.ridgeDrv.testBit line = on then s
  else { s with ridgeDrv := putBit s.ridgeDrv line on, ridgeWay := s.ridgeWay ++ [(line, on)] }

/-- The fail conditions of a site's member bays, ORed; a bay in MAINT counts as not failing (R29, R48). -/
def State.membersFail (s : State) (i : Site) : Bool := (s.members i).any (fun m => s.bst m ≠ BS.MAINT && s.ownFail m)
/-- The match conditions of a site's member bays, ANDed; a bay in MAINT counts as matching (R29, R48). -/
def State.membersMatch (s : State) (i : Site) : Bool := (s.members i).all (fun m => s.bst m == BS.MAINT || s.ownMatch m)

/-- What the member bays of a lockstep site in this module give its conditions: the crossbar forms the OR and the AND on the site's
ridge lines, and a MULTI_MODULE site puts them on PURLIN_OUT, bits 2 and 3 of its purlin word (R29, R30). -/
def State.driveLines (s : State) (i : Site) : State :=
  let fail := s.membersFail i
  let match_ := s.membersMatch i
  let line := fun (s : State) (o : Nat) (v : Bool) => if s.getS i o < 32 then s.driveRidge (s.getS i o) v else s
  let s := if s.siteKind i = 3 ∨ 1 < (s.members i).length then line (line s RSite.RIDGE_FAIL fail) RSite.RIDGE_MATCH match_ else s
  if s.siteKind i = 4 then
    { s with purlin := s.purlin.set i.val (putBit (putBit (s.purlin.get i.val 0) 2 fail) 3 match_) }
  else s

/-- A bay's conditions have changed, or its state: its lockstep sites' lines follow (R29, R30). -/
def State.driveSite (s : State) (b : Bay) : State := s.each ((s.sitesOf b).filter (fun i => decide (3 ≤ s.siteKind i))) State.driveLines

/-- COUNT of the event source EVT_IN_MAP n names, none where it names none. -/
def State.evtCount (s : State) (b : Bay) (n : Nat) : Option Nat :=
  let src := s.getB b (RBay.EVT_IN_MAP + n)
  if src < 2048 then some (s.getO (key (0xC400 + src) RSrc.COUNT)) else none

/-- Whether EVT_IN n is latched: its source has fired since the latch was cleared. -/
def State.evtLatched (s : State) (b : Bay) (n : Nat) : Bool :=
  match s.evtCount b n with
  | some c => c != (s.bay b).evtSeen.get n 0
  | none => false

/-- The value of a condition (R102).  The vendor-only conditions 0xF0 to 0xFF, of which the spec gives no value, read false.
DESIGN CHOICE (log 50). -/
def State.cond (s : State) (b : Bay) (n : Nat) : Bool :=
  let u := s.bay b
  let c := chanOf b ⟨n % 16, Nat.mod_lt _ (by decide)⟩
  let q : Fin 4 := ⟨n % 4, Nat.mod_lt _ (by decide)⟩
  if n = 0 then true
  else if n = 1 then false
  else if n = 2 then s.siteFail b
  else if n = 3 then s.siteMatch b
  else if n = 4 then u.runFailed
  else if n = 5 then u.jump.isSome
  else if n = 6 then s.getB b RBay.CURRENT_PASS == entRep (s.curEntry b)
  else if n = 7 then s.getB b RBay.CURRENT_PASS == 1
  else if n < 0x0C then s.quadFail b q
  else if n < 0x10 then s.quadMatch b (n % 4)
  else if n < 0x14 then s.getB b (RBay.CNT_VALUE + n % 4) == 0
  else if n < 0x18 then s.getB b (RBay.CNT_VALUE + n % 4) != 0
  else if n = 0x18 then u.timedOut
  else if n < 0x1B then u.latched.testBit n
  else if n = 0x1B then (chansOf b).any (fun c => s.chanGuard c)
  else if n < 0x20 then false
  else if n < 0x40 then s.ridge.testBit (n - 0x20)
  else if n < 0x50 then u.latched.testBit n
  else if n < 0x60 then cmpFailed (s.chan c).cmpVec
  else if n < 0x70 then s.matched b (15 <<< (4 * (n % 16)))
  else if n < 0x80 then (s.chan c).data
  else if n < 0x90 then s.chanGuard c
  else if n < 0xB0 then (s.getB b RBay.USER_FLAGS).testBit (n - 0x90)
  else if n < 0xD0 then s.evtLatched b (n - 0xB0)
  else false

/-- The conditions as they stand, bit n for condition n. -/
def State.condNow (s : State) (b : Bay) : Nat := (List.range 256).foldl (fun m n => if s.cond b n then orBit m n else m) 0

/-- Whether a condition is of the counter and constant group (R102). -/
def inCounterGroup (n : Nat) : Bool := decide (n < 2) || (decide (0x10 ≤ n) && decide (n < 0x18))

/-- The value that a word executing in a cycle X that is over has of a condition: of the counter and constant group that of cycle
X, of any other the value registered at the end of cycle X − 2 (R89). -/
def State.condAt (s : State) (b : Bay) (n : Nat) : Bool :=
  if inCounterGroup n then s.cond b n else ((s.bay b).conds.getD 2 0).testBit n

/-- A latched condition is cleared when a wait is released on it or a branch is decided on it (R102), in what is registered as
well. -/
def State.clearLatch (s : State) (b : Bay) (n : Nat) : State :=
  let latched := decide (n = 0x19 ∨ n = 0x1A ∨ (0x40 ≤ n ∧ n < 0x50) ∨ (0xB0 ≤ n ∧ n < 0xD0))
  let s := if latched then s.modBay b (fun u => { u with conds := u.conds.map (fun m => clrBit m n) }) else s
  if n = 0x19 ∨ n = 0x1A ∨ (0x40 ≤ n ∧ n < 0x50) then s.modBay b (fun u => { u with latched := clrBit u.latched n })
  else if 0xB0 ≤ n ∧ n < 0xD0 then
    match s.evtCount b (n - 0xB0) with
    | some c => s.modBay b (fun u => { u with evtSeen := u.evtSeen.set (n - 0xB0) c })
    | none => s
  else s

/-- Every latched condition is cleared as the bay enters ARMED (R102). -/
def State.clearLatches_ (s : State) (b : Bay) : State :=
  let seen := (List.range 32).filterMap (fun n => (s.evtCount b n).map (fun c => (n, c)))
  s.modBay b (fun u => { u with latched := 0, evtSeen := seen })

/-! ### Issue and its places (R57, R60, R70) -/

/-- Whether a bay's vector issue goes on: in RUN or PAUSE, no end pending, and not frozen by stop on first fail. -/
def State.issuing (s : State) (b : Bay) : Bool :=
  s.running b && !(s.bay b).ending && !((s.bay b).frozen.any (fun f => decide (f < (s.bay b).cyc))) && s.locked b.val && (s.bay b).fine

/-- Whether the pass has reached its decision boundary, the issue of vector 8L − 32, and has not decided yet (R60). -/
def State.atDecision (s : State) (b : Bay) : Bool :=
  let u := s.bay b
  let at_ := 8 * entLen (s.curEntry b) - 32
  s.issuing b && u.decided.isNone &&
    (decide (at_ < u.rowNext) || (u.rowNext == at_ && u.granOpen && (!u.padGran || u.granBad)))

/-- Whether a bay stands at a granule boundary: no granule is open, or none of its rows has issued. -/
def State.atGranule (s : State) (b : Bay) : Bool := !(s.bay b).granOpen || (s.bay b).granRows == 0

/-- The current granule's place. -/
def State.granPos (s : State) (b : Bay) : GranPos :=
  ⟨s.getB b RBay.CURRENT_ENTRY, s.getB b RBay.CURRENT_PASS, (s.bay b).rowNext / 8, (s.bay b).visit⟩

/-! ### The end of a pattern and its errors (R64, R66) -/

/-- The pattern ends: no further vector is issued; IDLE follows the last edge (R66). -/
def State.endPattern (s : State) (b : Bay) : State :=
  s.modBay b (fun u => { u with ending := true, cust := false, granOpen := false, padGran := false })

/-- A sequencing error: its flag in SEQ_FLAGS or MICRO_FLAGS, every site INVALID, the report and the event, and the end
of the pattern (R64). -/
def State.seqError (s : State) (b : Bay) (micro : Bool) (flag : Nat) : State :=
  let s := s.flagB b (if micro then RBay.MICRO_FLAGS else RBay.SEQ_FLAGS) flag
  let s := (s.markSites b SS.INVALID).fault (0x100 + b.val) 0x21 (flag + if micro then 256 else 0)
  (s.occur (evBay b 7)).endPattern b

/-! ### Jump requests (R61 to R63) -/

/-- Whether an entry may be jumped to: VALID, and RESIDENT or HEAD_PINNED (R63). -/
def State.jumpable (s : State) (b : Bay) (n : Nat) : Bool :=
  decide (n < 8192) && entValid (s.entry b n) && (entResid (s.entry b n) == 1 || entResid (s.entry b n) == 2)

/-- A request becomes usable in the bay; at or after the decision boundary of the pass it is deferred (R59, R61). -/
def State.postJump (s : State) (b : Bay) (rank target : Nat) : State :=
  s.modBay b (fun u => { u with usable := u.usable ++ [{ rank := rank, target := target, late := u.decided.isSome || s.atDecision b }] })

/-- Dropped requests are flagged and counted (R62). -/
def State.dropJumps (s : State) (b : Bay) (n : Nat) : State :=
  if n = 0 then s
  else (s.flagB b RBay.SEQ_FLAGS 1).setB b RBay.JUMP_DROP_COUNT (satAdd 32 (s.getB b RBay.JUMP_DROP_COUNT) n)

/-- The highest-ranked of several requests, the earliest where ranks are equal. -/
def bestJump : List JumpReq → Option JumpReq
  | [] => none
  | r :: rs => match bestJump rs with
    | some x => if r.rank < x.rank then some x else some r
    | none => some r

/-- The usable requests are latched at a granule boundary: one is kept, the others are dropped (R59, R62). -/
def State.latchJumps (s : State) (b : Bay) : State :=
  let u := s.bay b
  let n := u.usable.length
  let s := s.modBay b (fun u => { u with usable := [] })
  match u.jump, bestJump u.usable with
  | some _, _ => s.dropJumps b n
  | none, some r => (s.modBay b (fun u => { u with jump := some r })).dropJumps b (n - 1)
  | none, none => s

/-- JUMP_REQUEST (R63). -/
def State.jumpRequest (s : State) (b : Bay) (target : Nat) : State :=
  if !s.running b then s.answer ST.STATE_LOCKED
  else if s.jumpable b target then (s.postJump b 0 target).ok
  else s.answer ST.OUT_OF_RANGE

/-! ### The loft (R70 to R76) -/

/-- The first granule of an entry that goes through the ring: none of a RESIDENT entry, granule 1,024 of a HEAD_PINNED
one. -/
def firstStreamed (e : Nat) : Option Nat :=
  match entResid e with
  | 1 => none
  | 2 => if 1024 < entLen e then some 1024 else none
  | _ => some 0

/-- Whether a granule of an entry is resident. -/
def isResident (e g : Nat) : Bool := entResid e == 1 || (entResid e == 2 && decide (g < 1024))

/-- The first streamed granule in predicted order from an entry, which is the visit of a number, and the entries visited on the
way (R70). -/
def State.chase (s : State) (b : Bay) : Nat → Nat → Nat → List Nat → Option GranPos × List Nat
  | 0, _, _, seen => (none, seen)
  | f + 1, n, v, seen =>
    let e := s.entry b n
    if !entValid e then (none, seen)
    else match firstStreamed e with
      | some g => (some ⟨n, 1, g, v⟩, seen ++ [n])
      | none =>
        if entMode e = 5 ∨ entMode e = 7 ∨ (seen ++ [n]).contains (entSucc e) = true then (none, seen ++ [n])
        else s.chase b f (entSucc e) (v + 1) (seen ++ [n])

/-- The first streamed granule in predicted order from an entry that a visit of a number enters. -/
def State.fetchFrom (s : State) (b : Bay) (n v : Nat) : Option GranPos × List Nat := s.chase b 8192 n v []

/-- What follows a granule in the fetch: the rest of its pass, further passes, then SUCC; the decision of the pass that
runs overrides the prediction (R70, R72). -/
def State.nextFetch (s : State) (b : Bay) (p : GranPos) : Option GranPos × List Nat :=
  let u := s.bay b
  let e := s.entry b p.entry
  if p.gran + 1 < entLen e then (some { p with gran := p.gran + 1 }, u.fetchSeen)
  else
    let here := s.running b && p.visit == u.visit && p.pass == s.getB b RBay.CURRENT_PASS
    let next := fun (n : Nat) => s.fetchFrom b n (u.visit + 1)
    let onward :=
      if p.pass < entRep e then (some { p with pass := p.pass + 1, gran := (firstStreamed e).getD 0 }, u.fetchSeen)
      else if entMode e = 5 ∨ entMode e = 7 ∨ u.fetchSeen.contains (entSucc e) = true then (none, u.fetchSeen)
      else s.chase b 8192 (entSucc e) (p.visit + 1) u.fetchSeen
    match here, u.decided with
    | true, some (.enter n) => next n
    | true, some (.jump n) => next n
    | true, some (.call n) => next n
    | true, some .ret => if s.getB b RBay.RETURN_ENTRY < 8192 then next (s.getB b RBay.RETURN_ENTRY) else (none, u.fetchSeen)
    | true, some .endPattern => (none, u.fetchSeen)
    | _, _ => onward

/-- The eight rows of a granule within a block, from a byte offset (R54). -/
def blockRows (width : Nat) (block : Bytes) (off : Nat) : List Nat :=
  let v := ofBytes block
  (List.range 8).map (fun j => fieldOf v (8 * off + j * width) width)

/-- A block of an entry's data, decrypted on its way into the loft where ENC is set, with a slot's key and placement base: the
tweak is the block's number from the start of its data image (R70, R85). -/
def dataBlock (m : List Host.Cell) (key : Nat → BitVec 512) (base : Nat → Nat) (e blk : Nat) : Bytes :=
  let addr := entStart e + blk * 64
  let raw := memRead m addr 64
  if entEnc e then Config.xtsDecrypt (key (entKey e)) ((addr - base (entKey e)) / 64) raw else raw

/-- A block of an entry's data as a fetch takes it now. -/
def State.fetchBlock (s : State) (e blk : Nat) : Bytes :=
  dataBlock s.mem (fun k => s.keys.get k 0) (fun k => s.getO (R.SLOT_BASE + k)) e blk

/-- The rows of a resident granule of an entry (R54), which are fixed as they were loaded at arming: the data, the keys and the
placement bases of that time (R70). -/
def State.residentRows (s : State) (b : Bay) (e g : Nat) : List Nat :=
  let u := s.bay b
  let w := s.rowWidth b
  blockRows w (dataBlock u.snapshot (fun k => u.loftKeys.get k 0) (fun k => u.loftBases.get k 0) e (g * w / 64)) (g * w % 64)

/-- The address of the staging ring's block at STAGE_READ (R75). -/
def State.stageAddr (s : State) (b : Bay) : Nat :=
  s.getB b RBay.STAGE_BASE + s.getB b RBay.STAGE_READ / 64 * 64 % max 1 (s.getB b RBay.STAGE_SIZE)

/-- A block of the staging ring at STAGE_READ, decrypted with the block's number from the start of the stream (R75). -/
def State.stageBlock (s : State) (b : Bay) (e : Nat) : Bytes :=
  let n := s.getB b RBay.STAGE_READ / 64
  let raw := memRead s.mem (s.stageAddr b) 64
  if entEnc e then Config.xtsDecrypt (s.keys.get (entKey e) 0) n raw else raw

/-- The lead: the time in ns the rows held in the ring would take to issue (R72). -/
def State.lead (s : State) (b : Bay) : Nat :=
  ((s.bay b).ring.foldl (fun n g => n + 8 * s.getB b (RBay.PERIOD + entPrd (s.entry b g.pos.entry))) 0) * s.getB b RBay.TIME_UNIT / 1000000000

/-- LEAD_NOW and LEAD_MIN follow the ring. -/
def State.showLead (s : State) (b : Bay) : State :=
  let n := min (s.lead b) (2 ^ 32 - 1)
  let s := s.setB b RBay.LEAD_NOW n
  if s.running b then s.setB b RBay.LEAD_MIN (min n (s.getB b RBay.LEAD_MIN)) else s

/-- `n` granules of one block enter the ring, and the fetch moves past them. -/
def State.ringIn (s : State) (b : Bay) (bad : Bool) (rows : Nat → List Nat) : Nat → Nat → State
  | 0, _ => s
  | n + 1, i =>
    match (s.bay b).fetch with
    | none => s
    | some p =>
      let nx := s.nextFetch b p
      let s := s.modBay b (fun u => { u with ring := u.ring ++ [⟨p, rows i, bad⟩], fetch := nx.1, fetchSeen := nx.2 })
      s.ringIn b bad rows n (i + 1)

/-- The address of the block that the loft fetches next. -/
def State.nextBlock (s : State) (b : Bay) : Nat :=
  match (s.bay b).fetch with
  | none => 0
  | some p =>
    let e := s.entry b p.entry
    if entResid e = 3 then s.stageAddr b else entStart e + p.gran * s.rowWidth b / 64 * 64

/-- The check of a block that the loft fetches: an uncorrectable one is counted and reported at its pseudo-channel, and so is
the second fetch of a block that is fetched once more (R81, R270). -/
def State.fetchCheck (s : State) (b : Bay) (bad again : Bool) : State :=
  let a := s.nextBlock b
  if !bad then s else if again then (s.countUe a).countUe a else s.countUe a

/-- A fetched block arrives in the ring (R72, R75): the granules of one block of the pattern region, or of the staging
ring up to STAGE_WRITE, as long as the ring has room.  A block that is uncorrectable is fetched once more, lane-fed data
is not (R81); an encrypted block under another epoch than its slot's is poisoned, and each fetch counts it (R271). -/
def State.loftFill (s : State) (b : Bay) (bad badAgain : Bool) : State :=
  let u := s.bay b
  let w := s.rowWidth b
  match u.fetch with
  | none => s
  | some p =>
    let e := s.entry b p.entry
    let left := entLen e - p.gran
    let room := s.getB b RBay.RING_BYTES / w - u.ring.length
    if entResid e = 3 then
      let r := s.getB b RBay.STAGE_READ
      let n := min (min left ((64 - r % 64) / w)) (min room ((s.getB b RBay.STAGE_WRITE - r) / w))
      let blk := s.stageBlock b e
      let stale := s.tagBad e (s.stageAddr b)
      if n = 0 then s
      else ((((if stale then s.countTag (s.stageAddr b) 1 else s).fetchCheck b bad false).setB b RBay.STAGE_READ (r + n * w)).ringIn b (bad || stale) (fun i => blockRows w blk (r % 64 + i * w)) n 0).showLead b
    else
      let off := p.gran * w
      let n := min (min left ((64 - off % 64) / w)) room
      let blk := s.fetchBlock e (off / 64)
      let addr := entStart e + off / 64 * 64
      let stale := s.tagBad e addr
      if n = 0 then s
      else (((if stale then s.countTag addr 2 else s).fetchCheck b bad badAgain).ringIn b ((bad && badAgain) || stale) (fun i => blockRows w blk (off % 64 + i * w)) n 0).showLead b

/-- After a decision: a target other than what the ring holds next discards the ring, but for what the pass that runs
still needs, and the fetch restarts from the target (R72). -/
def State.redirect (s : State) (b : Bay) (n : Nat) : State :=
  let u := s.bay b
  let inPass := fun (p : GranPos) => p.visit == u.visit && p.pass == s.getB b RBay.CURRENT_PASS
  let keep := u.ring.filter (fun g => inPass g.pos)
  let rest := u.ring.filter (fun g => !inPass g.pos)
  let want := s.fetchFrom b n (u.visit + 1)
  match rest with
  | g :: _ =>
    if some g.pos = want.1 then s
    else (s.modBay b (fun u => { u with ring := keep, fetch := want.1, fetchSeen := want.2 })).showLead b
  | [] =>
    if u.fetch = want.1 ∨ u.fetch.any inPass = true then s
    else s.modBay b (fun u => { u with fetch := want.1, fetchSeen := want.2 })

/-! ### Underrun and pad (R77 to R82) -/

/-- The 48 bytes of an underrun record (R82). -/
def underBytes (r : Underrun) : Bytes :=
  toBytes 48 (r.pos.entry + (r.cause <<< 16) + (r.pos.pass <<< 32) + (r.pos.gran <<< 64) + (min r.pad (2 ^ 32 - 1) <<< 96) +
    ((r.cnt.getD 0 0) <<< 128) + ((r.cnt.getD 1 0) <<< 160) + ((r.cnt.getD 2 0) <<< 192) + ((r.cnt.getD 3 0) <<< 224) +
    (r.vector <<< 256) + (r.time <<< 320))

/-- The pad ends: its record is appended to the log of 16 (R79). -/
def State.endUnderrun (s : State) (b : Bay) : State :=
  match (s.bay b).under with
  | none => s
  | some r => s.modBay b (fun u => { u with under := none, underLog := lastN 15 u.underLog ++ [underBytes r] })

/-- An underrun or a data error begins: flags, sites, count, event, report, and its record opened (R79, R81). -/
def State.beginUnderrun (s : State) (b : Bay) (cause : Nat) : State :=
  let pos := s.granPos b
  let s := s.flagB b RBay.SEQ_FLAGS 2
  let s := if cause = 2 then s.flagB b RBay.SEQ_FLAGS 4 else s
  let s := ((s.markSites b SS.UNDERRUN).markSites b SS.INVALID).incB b RBay.UNDERRUN_COUNT
  let s := s.occur (evBay b 5)
  let s := if cause = 2 then s.fault (0x100 + b.val) 0x22 pos.entry else s.fault (0x100 + b.val) 0x20 (pos.entry + cause * 2 ^ 16)
  let cnt := (List.range 4).map (fun n => s.getB b (RBay.CNT_VALUE + n))
  s.modBay b (fun u => { u with
    under := some { pos := pos, cause := cause, pad := 0, cnt := cnt, vector := s.getB b RBay.VECTORS_ISSUED, time := s.stamp (0x100 + b.val) } })

/-- A granule whose rows cannot issue: the underrun begins or goes on; the bay pads it, or aborts (R77, R80).  Bad blocks that
follow one another make one underrun, one count, one record and one report. DESIGN CHOICE (log 50). -/
def State.padGranule (s : State) (b : Bay) (cause : Nat) : State :=
  let same := (s.bay b).under.any (fun r => r.cause == cause)
  let s := if same then s else (s.endUnderrun b).beginUnderrun b cause
  if !same && (s.getB b RBay.ABORT_ON_UNDERRUN == 1 || s.lockstep b) then
    (((s.flagB b RBay.SEQ_FLAGS 3)).endUnderrun b).endPattern b
  else
    let s := s.setB b RBay.PAD_GRANULES (satAdd 64 (s.getB b RBay.PAD_GRANULES) 1)
    s.modBay b (fun u => { u with
      under := u.under.map (fun r => { r with pad := r.pad + 1 }), granOpen := true, padGran := true,
      granBad := cause == 2, granRows := 0 })

/-- What the loft answers for the current granule: its rows, or why it cannot issue (1 missing, 2 bad). -/
def State.loftTake (s : State) (b : Bay) : Except Nat (List Nat) :=
  let p := s.granPos b
  let e := s.entry b p.entry
  if isResident e p.gran then
    if (s.bay b).badBlocks.contains (entStart e + p.gran * s.rowWidth b / 64 * 64) then .error 2
    else .ok (s.residentRows b e p.gran)
  else match (s.bay b).ring with
    | g :: _ => if g.pos = p then (if g.bad then .error 2 else .ok g.rows) else .error (if entResid e = 3 then 1 else 0)
    | [] => .error (if entResid e = 3 then 1 else 0)

/-- The current granule's place in the ring is given up. -/
def State.ringPop (s : State) (b : Bay) : State :=
  let p := s.granPos b
  (s.modBay b (fun u => { u with
    ring := match u.ring with
      | g :: rest => if g.pos = p then rest else g :: rest
      | [] => [] })).showLead b

/-! ### Quads that retire (R26, R27) -/

/-- What a retire state makes of a channel's lines, its edges to come dropped; INHIBIT sets its cause (R27, R151). -/
def State.retireChan (s : State) (c : Chan) (how : Nat) : State :=
  let s := s.modChan c (fun u => { u with edges := [] })
  match how with
  | 1 => s.modChan c (fun u => { u with drv := false, den := true })
  | 2 => s.modChan c (fun u => { u with drv := true, den := true })
  | 3 => s.modChan c (fun u => { u with den := false })
  | 4 => s.inhibit c 1 true
  | _ => s

/-- Quad q of a bay retires (R27). -/
def State.retireQuad (s : State) (b : Bay) (q : Fin 4) : State :=
  if s.retired b q.val then s
  else
    let s := (s.setB b RBay.QUADS_RETIRED (orBit (s.getB b RBay.QUADS_RETIRED) q.val)).driveSite b
    let how := s.getB b (RBay.QUAD_RETIRE_STATE + q.val)
    let s := s.each (List.finRange 4) (fun s j => s.retireChan (chanOf b ⟨4 * q.val + j.val, by omega⟩) how)
    match s.siteOfChan (chanOf b ⟨4 * q.val, by omega⟩) with
    | some i => s.markSite i SS.RETIRED
    | none => s

/-- The retirements due at a granule boundary: those whose cause was registered four cycles ago or more (R27). -/
def State.retireDue (s : State) (b : Bay) : State :=
  let u := s.bay b
  let due := u.retiring.filter (fun r => decide (r.2 + 4 ≤ u.cyc))
  let s := s.modBay b (fun u => { u with retiring := u.retiring.filter (fun r => !decide (r.2 + 4 ≤ u.cyc)) })
  s.each due (fun s r => s.each (List.finRange 4) (fun s q => if r.1.testBit q.val then s.retireQuad b q else s))

/-! ### Boundaries (R57 to R69) -/

/-- A bay enters a state: BAY_STATE and its event (R34, R437). -/
def State.setState (s : State) (b : Bay) (st : Nat) : State :=
  if s.bst b = st then s else (s.setB b RBay.BAY_STATE st).event (evBay b 0) st

/-- A granule of pattern rows opens. -/
def State.openRows (s : State) (b : Bay) (rows : List Nat) : State :=
  let s := (s.endUnderrun b).setB b RBay.CURRENT_GRANULE ((s.bay b).rowNext / 8)
  (s.ringPop b).modBay b (fun u => { u with granOpen := true, padGran := false, granBad := false, granRows := 0, rows := rows })

/-- The granule that comes next opens: its rows, or pad in their place (R77, R81). -/
def State.openNext (s : State) (b : Bay) : State :=
  match s.loftTake b with
  | .ok rows => s.openRows b rows
  | .error cause => if cause = 2 then (s.setB b RBay.CURRENT_GRANULE ((s.bay b).rowNext / 8)).padGranule b 2 |>.ringPop b else s.padGranule b cause

/-- A pad granule of PAUSE opens (R33). -/
def State.openPause (s : State) (b : Bay) : State :=
  s.modBay b (fun u => { u with granOpen := true, padGran := true, granBad := false, granRows := 0 })

/-- The next granule's block is read from the loft with an uncorrectable SECDED error.  A resident block is bad from now on; a
lane-fed one too, which is not fetched again; any other is fetched once more from the pattern region, and is bad where the error
remains (R81). -/
def State.loftError (s : State) (b : Bay) (again : Bool) : State :=
  let p := s.granPos b
  let e := s.entry b p.entry
  let w := s.rowWidth b
  let blk := p.gran * w / 64
  if isResident e p.gran then s.modBay b (fun u => { u with badBlocks := (entStart e + blk * 64) :: u.badBlocks })
  else if entResid e = 3 ∨ again = true then
    s.modBay b (fun u => { u with ring := u.ring.map (fun g =>
      if g.pos.visit = p.visit ∧ g.pos.pass = p.pass ∧ g.pos.gran * w / 64 = blk then { g with bad := true } else g) })
  else s

/-- The issue of a granule's first vector: retirements, stop, pause and resume act, requests are latched, and the loft is
read for its rows, with an error or without (R27, R34, R59, R77, R81). -/
def State.granuleBoundary (s : State) (b : Bay) (bad again : Bool) : State :=
  let u := s.bay b
  if !s.issuing b || u.granOpen || decide (8 * entLen (s.curEntry b) ≤ u.rowNext) then s
  else
    let s := ((s.retireDue b).shadowGranule b).latchJumps b
    let open_ := fun (s : State) => (if bad then s.loftError b again else s).openNext b
    if u.stopReq || s.getB b RBay.QUADS_RETIRED == 15 then (s.endUnderrun b).endPattern b
    else if s.bst b = BS.PAUSE then
      if u.resumeReq then
        open_ (((s.modBay b (fun u => { u with resumeReq := false })).setState b BS.RUN).capResume b)
      else s.openPause b
    else if u.pauseReq then
      (((s.modBay b (fun u => { u with pauseReq := false })).setState b BS.PAUSE).capPause b).openPause b
    else open_ s

/-- What an entry's JMODE asks for at the end of its last pass (R60, R64). -/
def State.modeFollow (s : State) (b : Bay) (e : Nat) : Follow :=
  let c := s.cond b (entCond e)
  match entMode e with
  | 0 => .enter (entSucc e)
  | 1 => .enter (if c then entJt0 e else entSucc e)
  | 2 => .enter (if c then entJt0 e else entJt1 e)
  | 3 => .call (entJt0 e)
  | 4 => if c then .call (entJt0 e) else .enter (entSucc e)
  | 5 => .ret
  | _ => .endPattern

/-- What a pass decides: a latched jump, or what the entry's mode says (R59, R60, R62, R65). -/
def State.decision (s : State) (b : Bay) : State × Follow :=
  let u := s.bay b
  let e := s.curEntry b
  let last := decide (entRep e ≤ s.getB b RBay.CURRENT_PASS)
  match u.jump with
  | some r =>
    let s := s.modBay b (fun u => { u with jump := none })
    if r.late then
      let s := ((s.flagB b RBay.SEQ_FLAGS 0).setB b RBay.DEFERRED_ENTRY (s.getB b RBay.CURRENT_ENTRY)).setB b RBay.DEFERRED_PASS
        (s.getB b RBay.CURRENT_PASS)
      (s.occur (evBay b 6), .jump r.target)
    else (s, .jump r.target)
  | none =>
    if entMode e = 6 then
      if s.cond b (entCond e) then (s, .enter (entJt0 e))
      else if last then (s.flagB b RBay.SEQ_FLAGS 5, .enter (entJt1 e))
      else (s, .again)
    else if !last then (s, .again)
    else (s, s.modeFollow b e)

/-- The decision boundary: what follows the pass is fixed, in the order of R60; a target that is not predicted discards
the ring (R65, R72). -/
def State.decide_ (s : State) (b : Bay) : State :=
  let r := s.decision b
  let s := r.1.modBay b (fun u => { u with decided := some r.2 })
  match r.2 with
  | .enter n => s.redirect b n
  | .jump n => s.redirect b n
  | .call n => s.redirect b n
  | .ret => if s.getB b RBay.RETURN_ENTRY < 8192 then s.redirect b (s.getB b RBay.RETURN_ENTRY) else s
  | _ => s

/-- A pass begins at row 0. -/
def State.newPass (s : State) (b : Bay) (pass : Nat) : State :=
  ((s.setB b RBay.CURRENT_PASS pass).setB b RBay.CURRENT_GRANULE 0).modBay b (fun u => { u with
    rowNext := 0, granRows := 0, granOpen := false, padGran := false, decided := none, dispatched := false, rewound := false })

/-- Arrival at an entry: INVALID_ENTRY, UNATTACHED_TYPE (R106), or its first pass, with its level set selected and loaded where LVL differs from
what came before, and ahead of its pad vectors where its first granule underruns (R64, R69). DESIGN CHOICE (log 50). -/
def State.arrive (s : State) (b : Bay) (n lvlBefore : Nat) : State :=
  let e := s.entry b n
  if !entValid e then s.seqError b false 8
  else if entType e ≠ 0 ∧ (s.getB b (RBay.CUSTOM_ENTRY + (entType e - 1))).testBit 31 = false then s.seqError b true 8
  else
    let s := (s.setB b RBay.CURRENT_ENTRY n).setB b RBay.CURRENT_TAG (entTag e)
    let s := if entLvl e = lvlBefore then s else (s.selectLevels b (entLvl e)).load b
    (s.modBay b (fun u => { u with visit := u.visit + 1 })).newPass b 1

/-- The shingle boundary: the pass is over and what was decided begins (R58, R64). -/
def State.shingleBoundary (s : State) (b : Bay) : State :=
  let e := s.curEntry b
  match (s.bay b).decided with
  | none => s
  | some .again => s.newPass b (s.getB b RBay.CURRENT_PASS + 1)
  | some (.enter n) => s.arrive b n (entLvl e)
  | some (.jump n) => (s.setB b RBay.RETURN_ENTRY 0xFFFF).arrive b n (entLvl e)
  | some (.call n) =>
    if s.getB b RBay.RETURN_ENTRY ≠ 0xFFFF then s.seqError b false 6
    else (s.setB b RBay.RETURN_ENTRY (entSucc e)).arrive b n (entLvl e)
  | some .ret =>
    let r := s.getB b RBay.RETURN_ENTRY
    if r = 0xFFFF then s.seqError b false 7
    else (s.setB b RBay.RETURN_ENTRY 0xFFFF).arrive b r (entLvl e)
  | some .endPattern => s.endPattern b

/-- Whether the word of a bay is an EXIT word: every field but VEC acts, and vendor sequencing issues the vectors (R107). -/
def State.exiting (s : State) (b : Bay) : Bool := (s.bay b).cust && fieldOf (s.word b) 14 4 == 6

/-- Whether a customer word's VEC issues the rows: one that is no EXIT word (R107). -/
def State.custRows (s : State) (b : Bay) : Bool := (s.bay b).cust && !s.exiting b

/-- Whether a pass is over and vendor sequencing issues what comes next. -/
def State.passOver (s : State) (b : Bay) : Bool :=
  let u := s.bay b
  s.issuing b && !s.custRows b && !u.granOpen && u.rowNext == 8 * entLen (s.curEntry b)

/-! ### Meanings -/

/-- SHINGLE_ENTRY_WRITE (R50, R52). -/
def execShingleEntryWrite (b : Bay) (epoch : BitVec 16) (entry : BitVec 256) (s : State) : Host.Outcome State Fault Refusal :=
  .next (s.hostBayFirm b epoch (fun s => s.entryWrite b entry.toNat))

/-- TABLE_BLOCK_WRITE (R473). -/
def execTableBlockWrite (b : Bay) (epoch : BitVec 16) (data : Bytes) (s : State) : Host.Outcome State Fault Refusal :=
  .next (s.hostBayFirm b epoch (fun s => s.tableWrite b data))

/-- JUMP_REQUEST (R63). -/
def execJumpRequest (b : Bay) (epoch : BitVec 16) (target : BitVec 16) (s : State) : Host.Outcome State Fault Refusal :=
  .next (s.hostBay b epoch (fun s => s.jumpRequest b target.toNat))

/-- COND_JUMP (R62, R63): enabled, the bay running and its condition true, it posts its request. -/
def execCondJump (b : Bay) (s : State) : Host.Outcome State Fault Refusal :=
  let v := s.getB b RBay.COND_JUMP
  .next (if v.testBit 31 && s.running b && s.cond b (v % 256) then s.postJump b 2 (fieldOf v 8 13) else s)

/-- GRANULE_BOUNDARY (R59, R77, R81): `bad` is an uncorrectable error of the loft's read, `again` one that a second fetch shows. -/
def execGranuleBoundary (b : Bay) (bad again : Bool) (s : State) : Host.Outcome State Fault Refusal :=
  .next (s.granuleBoundary b bad again)

/-- DECISION_BOUNDARY (R60). -/
def execDecisionBoundary (b : Bay) (s : State) : Host.Outcome State Fault Refusal :=
  .next (if s.atDecision b then s.decide_ b else s)

/-- SHINGLE_BOUNDARY (R58). -/
def execShingleBoundary (b : Bay) (s : State) : Host.Outcome State Fault Refusal :=
  .next (if s.passOver b then s.shingleBoundary b else s)

/-- LOFT_FILL (R72, R75): while the bay arms, is armed or runs; the fetch is a request of the pattern class, and one that finds no
slot waits (R279). -/
def execLoftFill (b : Bay) (bad badAgain : Bool) (s : State) : Host.Outcome State Fault Refusal :=
  .next (
    if (s.running b || s.bst b == BS.ARMED || (s.bst b == BS.IDLE && (s.bay b).arming != 0)) && s.rowWidth b != 0 then
      if s.slotFor .pattern (s.nextBlock b) 64 then (s.takeSlots .pattern (s.nextBlock b) 64).loftFill b bad badAgain else s
    else s)

/-- UNDERRUN_END (R79): the missing granule is usable, so the pad ends and its record is appended. -/
def execUnderrunEnd (b : Bay) (s : State) : Host.Outcome State Fault Refusal :=
  .next (match s.loftTake b with
    | .ok _ => if s.running b && !(s.bay b).granOpen then s.endUnderrun b else s
    | .error _ => s)

/-- UNDERRUN_LOG_CLEAR (R83). -/
def execUnderrunLogClear (b : Bay) (epoch : BitVec 16) (s : State) : Host.Outcome State Fault Refusal :=
  .next (s.hostBay b epoch (fun s => (s.modBay b (fun u => { u with underLog := [] })).ok))

end Sys2Proof.Machine
end

