-- ==== Sys2Proof/Machine/Microcode.lean ====
section
/-! DEFINITION. Microcode of the bay sequencer (R86 to R116): the fields of the word that executes, its vectors, its
counters, what comes after it, and the customer bank.

A VEC command is one BCLK cycle of the word's vectors.  The other field commands act for the word in that cycle, and a
SEQ or WAIT command is what the word passes control with.  A field command acts only where the word's own field names it;
the fields of a vendor word cannot be read (R86), so any of them may be in one. -/

namespace Sys2Proof.Machine

/-! ### The word that executes (R88 to R93) -/

/-- The first address of the customer bank (R86). -/
abbrev BANK : Nat := 0x3000

/-- MICRO_FLAGS bits (R116). -/
abbrev MF.ECC_CORRECTED : Nat := 0
/-- ECC_UNCORRECTABLE -/
abbrev MF.ECC_UNCORRECTABLE : Nat := 1
/-- STACK -/
abbrev MF.STACK : Nat := 2
/-- PASS_OVERRUN -/
abbrev MF.PASS_OVERRUN : Nat := 3
/-- REWIND_ERROR -/
abbrev MF.REWIND_ERROR : Nat := 4
/-- WATCHDOG -/
abbrev MF.WATCHDOG : Nat := 5
/-- BAD_TARGET -/
abbrev MF.BAD_TARGET : Nat := 6
/-- OBJ_DROP -/
abbrev MF.OBJ_DROP : Nat := 7
/-- BANK_END -/
abbrev MF.BANK_END : Nat := 9

/-- Fields of a microword (R93). -/
abbrev uwNext (w : Nat) : Nat := fieldOf w 0 14
/-- SEQ -/
abbrev uwSeq (w : Nat) : Nat := fieldOf w 14 4
/-- COND -/
abbrev uwCond (w : Nat) : Nat := fieldOf w 18 8
/-- WAIT -/
abbrev uwWait (w : Nat) : Bool := w.testBit 26
/-- WTO -/
abbrev uwWto (w : Nat) : Nat := fieldOf w 27 2
/-- CNT0 to CNT3 -/
abbrev uwCnt (w n : Nat) : Nat := fieldOf w (29 + 4 * n) 4
/-- CSEL -/
abbrev uwCsel (w : Nat) : Nat := fieldOf w 45 2
/-- SHG -/
abbrev uwShg (w : Nat) : Nat := fieldOf w 47 4
/-- VEC -/
abbrev uwVec (w : Nat) : Nat := fieldOf w 51 2
/-- CAP -/
abbrev uwCap (w : Nat) : Nat := fieldOf w 80 6
/-- MATCH -/
abbrev uwMatch (w : Nat) : Nat := fieldOf w 86 5
/-- EVT -/
abbrev uwEvt (w : Nat) : Nat := fieldOf w 91 8
/-- LOAD -/
abbrev uwLoad (w : Nat) : Nat := fieldOf w 99 2
/-- BLANK -/
abbrev uwBlank (w : Nat) : Nat := fieldOf w 101 2
/-- TMU -/
abbrev uwTmu (w : Nat) : Nat := fieldOf w 103 3
/-- RIDGE, per port -/
abbrev uwRidge (w n : Nat) : Nat := fieldOf w (106 + 2 * n) 2
/-- SPH -/
abbrev uwSph (w : Nat) : Nat := fieldOf w 110 2
/-- IMM -/
abbrev uwImm (w : Nat) : Nat := fieldOf w 112 32

/-- Whether words execute in a bay: in RUN, no pad granule of an underrun issuing and the pattern not frozen (R92). -/
def State.executing (s : State) (b : Bay) : Bool :=
  s.issuing b && s.bst b == BS.RUN && !(s.bay b).padGran && (s.bay b).under.isNone

/-- Whether the word of a bay has a field as a command says.  A vendor word's fields cannot be read (R86); in the extra
cycle after a decision no field but VEC and MATCH acts (R90). DESIGN CHOICE (log 15). -/
def State.has (s : State) (b : Bay) (p : Nat → Bool) : Bool :=
  s.executing b && (s.bay b).extra.isNone && (!(s.bay b).cust || p (s.word b))

/-- Whether a customer word has a field: for the resources that vendor microprograms never use (R101, R103). -/
def State.hasCust (s : State) (b : Bay) (p : Nat → Bool) : Bool := s.has b p && (s.bay b).cust

/-- One-shot fields by number: they act once in an execution of the word (R91). -/
abbrev OS.LVL : Nat := 0
/-- SHG -/
abbrev OS.SHG : Nat := 1
/-- CAP -/
abbrev OS.CAP : Nat := 2
/-- EVT -/
abbrev OS.EVT : Nat := 3
/-- LOAD -/
abbrev OS.LOAD : Nat := 4
/-- BLANK -/
abbrev OS.BLANK : Nat := 5
/-- TMU -/
abbrev OS.TMU : Nat := 6
/-- RIDGE port 0; port 1 is the next. -/
abbrev OS.RIDGE : Nat := 7
/-- SPH -/
abbrev OS.SPH : Nat := 9
/-- CNT0; CNT1 to CNT3 follow. -/
abbrev OS.CNT : Nat := 10

/-- Whether the word of a bay is in its first cycle, which is over or not. -/
def State.firstCycle (s : State) (b : Bay) : Bool :=
  let u := s.bay b
  u.wordCyc == 0 || (u.wordCyc == 1 && u.cycDone)

/-- Whether a cycle of the word of a bay is over, so that it may pass control. -/
def State.wordCycle (s : State) (b : Bay) : Bool := (s.bay b).cycDone && (s.bay b).wordCyc != 0

/-- A one-shot field acts: in the first cycle of the word's execution only, and once (R91). -/
def State.once (s : State) (b : Bay) (bit : Nat) (k : State → State) : State :=
  if (s.bay b).acted.testBit bit || !s.firstCycle b then s else k (s.modBay b (fun u => { u with acted := orBit u.acted bit }))

/-- Control passes to an address: a new execution begins there, and MATCH and PRD_SEL of the word that ended no longer
hold (R88, R91). -/
def State.goTo (s : State) (b : Bay) (addr : Nat) : State :=
  (s.setB b RBay.UPC addr).modBay b (fun u => { u with
    acted := 0, wordCyc := 0, cycActed := 0, extra := none, matchOn := none, prdSel := none, roll := { u.roll with inhibit := false } })

/-- NEXT of the word, in the vendor words for a vendor word. -/
def State.nextAddr (s : State) (b : Bay) : Nat :=
  let n := uwNext (s.word b)
  if (s.bay b).cust then n else n % BANK

/-- The word at UPC was read with a result of the SECDED check: corrected, now or before and not scrubbed since, it is counted;
uncorrectable, now or before and not repaired since, it is not executed and the pattern ends (R87). -/
def State.fetched (s : State) (b : Bay) (ecc : Ecc) : State :=
  let a := s.getB b RBay.UPC
  if ecc = .uncorrectable ∨ (s.bay b).badWords.contains a = true then
    let s := s.modBay b (fun u => { u with badWords := a :: u.badWords.erase a })
    ((s.setB b RBay.CS_ERROR_ADDR a).fault (0x100 + b.val) 0x23 a).seqError b true MF.ECC_UNCORRECTABLE
  else if ecc = .corrected ∨ (s.bay b).softWords.contains a = true then
    ((s.flagB b RBay.MICRO_FLAGS MF.ECC_CORRECTED).incB b RBay.CS_CORRECTED).modBay b (fun u => { u with
      softWords := a :: u.softWords.erase a })
  else s

/-- Control passes to an address, and the word there is read (R88). -/
def State.passTo (s : State) (b : Bay) (ecc : Ecc) (addr : Nat) : State := (s.goTo b addr).fetched b ecc

/-- The address after the word's, or BANK_END past the bank's last word (R88). -/
def State.toNext (s : State) (b : Bay) (k : Nat → State) : State :=
  let a := s.getB b RBay.UPC
  if (s.bay b).cust then (if a = 0x3FFF then s.seqError b true MF.BANK_END else k (a + 1)) else k ((a + 1) % BANK)

/-- Control passes once a condition is decided: at once for a counter or constant condition, else after one extra cycle
of the word (R88, R90). -/
def State.decided (s : State) (b : Bay) (ecc : Ecc) (addr : Nat) : State :=
  if inCounterGroup (uwCond (s.word b)) then s.passTo b ecc addr
  else s.modBay b (fun u => { u with extra := some (addr, ecc) })

/-- The extra cycle of a decision is over: control passes (R90). -/
def State.afterExtra (s : State) (b : Bay) : State :=
  match (s.bay b).extra with
  | some (addr, ecc) => if (s.bay b).cycDone && !(s.bay b).ending then s.passTo b ecc addr else s
  | none => s

/-- Control passes at the end of the extra cycle, but in no cycle of a pad granule: no word executes there, and execution
resumes with the same word (R92). DEDUCED (log 32). -/
def State.passExtra (s : State) (b : Bay) (pad : Bool) : State := if pad then s else s.afterExtra b

/-- A return address is pushed: four at most (R88, R95). -/
def State.push (s : State) (b : Bay) (k : State → State) : State :=
  if 4 ≤ (s.bay b).ustack.length then s.seqError b true MF.STACK
  else s.toNext b (fun a => k (s.modBay b (fun u => { u with ustack := a :: u.ustack })))

/-- RETURN: the stack is popped (R95). -/
def State.popTo (s : State) (b : Bay) (ecc : Ecc) : State :=
  match (s.bay b).ustack with
  | [] => s.seqError b true MF.STACK
  | a :: rest => (s.modBay b (fun u => { u with ustack := rest })).passTo b ecc a

/-- A word decides a branch on its condition as of the cycle that is over, which clears the latch of a latched one (R89,
R102). -/
def State.branch (s : State) (b : Bay) (k : Bool → State → State) : State :=
  let n := uwCond (s.word b)
  k (s.condAt b n) (s.clearLatch b n)

/-- Whether a word of a SEQ mode can end here: it executes, its cycle is over, and it has the mode and is no wait (R88). -/
def State.seqIs (s : State) (b : Bay) (m : Nat) : Bool := s.wordCycle b && s.has b (fun w => uwSeq w == m && !uwWait w)

/-- Whether a wait can end here: at the end of a cycle of it (R105). -/
def State.waits (s : State) (b : Bay) : Bool := s.wordCycle b && s.has b (fun w => uwWait w)

/-- Whether the type of the entry is called for the pass and has not been yet (R106). -/
def State.called (s : State) (b : Bay) : Bool :=
  let t := entType (s.curEntry b)
  t != 0 && !(s.bay b).dispatched &&
    (!(s.getB b (RBay.CUSTOM_ENTRY + (t - 1))).testBit 16 || s.getB b RBay.CURRENT_PASS == 1)

/-- A customer type is called: its first word executes in the issue cycle of the pass's first vector (R106). -/
def State.dispatch (s : State) (b : Bay) (ecc : Ecc) : State :=
  let a := fieldOf (s.getB b (RBay.CUSTOM_ENTRY + (entType (s.curEntry b) - 1))) 0 14
  (s.modBay b (fun u => { u with dispatched := true, cust := true, noRow := 0 })).passTo b ecc a

/-- Control is with a vendor word, at an address the spec does not state. (Log 16.) -/
def State.toVendor (s : State) (b : Bay) : State := s.free.2.goTo b (s.free.1.toNat % BANK)

/-- EXIT: vendor sequencing goes on, from a word that is read; the return stack must be empty (R87, R107). -/
def State.exit (s : State) (b : Bay) (ecc : Ecc) : State :=
  if (s.bay b).ustack.isEmpty then ((s.modBay b (fun u => { u with cust := false })).toVendor b).fetched b ecc
  else s.seqError b true MF.STACK

/-! ### Vectors (R57, R88, R97, R104) -/

/-- Whether another vector starts in the present cycle: two BCLK after its issue (R57). -/
def State.slotLeft (s : State) (b : Bay) : Bool := decide ((s.bay b).nextStart < 4000 * (((s.bay b).cyc : Int) + 3))

/-- A new cycle begins where the last is over. -/
def State.beginCycle (s : State) (b : Bay) : State :=
  if (s.bay b).cycDone then
    s.modBay b (fun u => { u with cycRows := 0, cycDone := false, cycActed := 0, cycFirst := s.cycles b })
  else s

/-- In each cycle of a wait the timeout counter goes down by one, unless the word operates on it itself (R105). -/
def State.waitCount (s : State) (b : Bay) : State :=
  let w := s.word b
  let n := uwWto w
  if (s.bay b).cust && (s.bay b).extra.isNone && s.executing b && uwWait w && uwCnt w n == 0 then
    s.setB b (RBay.CNT_VALUE + n) (s.getB b (RBay.CNT_VALUE + n) - 1)
  else s

/-- The cycle ends where no further vector starts in it: the results due by its end are registered, and the site's lines and the
conditions with them (R17, R29, R89); cycles of a customer program without a pattern row are counted (R110). -/
def State.endCycle (s : State) (b : Bay) : State :=
  if s.slotLeft b then s
  else
    let hold := !s.executing b
    let s := ((s.waitCount b).registerDue b (s.bay b).cyc).driveSite b
    s.modBay b (fun u => { u with
      cyc := u.cyc + 1, cycDone := true, conds := (s.condNow b :: u.conds).take 3,
      wordCyc := if hold && u.wordCyc == 0 then 0 else u.wordCyc + 1,
      noRow := if !u.cust || u.cycRows != 0 then 0 else if hold then u.noRow else u.noRow + 1 })

/-- What HOLD, MUTE and PAD issue: the last pattern row, or the pad vector before the first one of the run (R97). -/
def State.held (s : State) (b : Bay) (mute : Bool) : VecKind :=
  match (s.bay b).lastRow with
  | some r => .hold r mute
  | none => .pad mute

/-- The next pattern row of the open granule issues (R57, R58).  SHINGLE_ENTERED stands for the first row of a pass that issues, so
a pass whose first granule is pad does not raise it. DESIGN CHOICE (log 50). -/
def State.issueRow (s : State) (b : Bay) : State :=
  let u := s.bay b
  let row := u.rows.getD u.granRows 0
  let s := if u.rowNext = 0 ∧ u.rewound = false ∧ entEvt (s.curEntry b) = true then s.occur (evBay b 8) else s
  let s := s.issueVec b (.row row)
  let s := s.setB b RBay.VECTORS_ISSUED ((s.getB b RBay.VECTORS_ISSUED + 1) % 2 ^ 64)
  s.modBay b (fun u => { u with
    lastRow := some row, rowNext := u.rowNext + 1, granRows := u.granRows + 1, cycRows := u.cycRows + 1,
    granOpen := decide (u.granRows + 1 < 8) })

/-- One vector of a pad granule issues: eight of them make the granule, and one that stands for bad rows takes their
place in the pass (R77, R81). -/
def State.issuePad (s : State) (b : Bay) : State :=
  let s := s.issueVec b (.pad false)
  s.modBay b (fun u =>
    let past := decide (8 ≤ u.granRows + 1)
    { u with
      granRows := u.granRows + 1, granOpen := !past, padGran := !past,
      rowNext := if past && u.granBad then u.rowNext + 8 else u.rowNext })

/-- The vector slots of the present cycle that are left; the fuel is the most vectors that start in one BCLK. -/
def State.issueSlots (b : Bay) (slot : State → Option State) : Nat → State → State
  | 0, s => s
  | n + 1, s =>
    if s.slotLeft b && s.issuing b then
      match slot s with
      | some t => State.issueSlots b slot n t
      | none => s
    else s

/-- Whether a bay's pad granule issues: in PAUSE, or for an underrun (R33, R77). -/
def State.padding (s : State) (b : Bay) : Bool := s.issuing b && (s.bay b).padGran

/-- A cycle of vectors: four at most, at a period of 1,000 tu (R88). -/
def State.cycle (s : State) (b : Bay) (slot : State → Option State) : State :=
  ((State.issueSlots b slot 4 (s.beginCycle b)).endCycle b).passExtra b (s.padding b)

/-- Whether a counter with DEC_VEC holds no more rows for this cycle (R104). -/
def State.rowsSpent (s : State) (b : Bay) : Bool :=
  s.custRows b && (s.bay b).extra.isNone && (List.range 4).any (fun n =>
    uwCnt (s.word b) n == 3 && decide (s.getB b (RBay.CNT_VALUE + n) ≤ (s.bay b).cycRows))

/-- One slot of EMIT: a HOLD vector where DEC_VEC allows no more rows, PASS_OVERRUN past the last row, or the next row;
none while the next granule has not been opened (R77, R104, R108). -/
def State.emitSlot (s : State) (b : Bay) : Option State :=
  let u := s.bay b
  if s.rowsSpent b then some (s.issueVec b (s.held b false))
  else if s.custRows b && u.rowNext == 8 * entLen (s.curEntry b) then some (s.seqError b true MF.PASS_OVERRUN)
  else if u.granOpen then some (s.issueRow b)
  else none

/-- One slot of a pad granule; none when it is over. -/
def State.padSlot (s : State) (b : Bay) : Option State := if (s.bay b).padGran then some (s.issuePad b) else none

/-- Whether a customer word has had its last cycle: the one of a word without WAIT (R88), or the one in which a wait's condition
was true or its counter 0 (R105). -/
def State.wordOver (s : State) (b : Bay) : Bool :=
  let w := s.word b
  (s.bay b).cust && (s.bay b).extra.isNone && s.wordCycle b &&
    (!uwWait w || s.condAt b (uwCond w) || s.getB b (RBay.CNT_VALUE + uwWto w) == 0)

/-- Whether the word emits vectors of a VEC kind in a cycle of its own; in an EXIT word VEC is ignored and vendor sequencing
emits (R107), and vendor sequencing calls a customer type before it issues a row of the pass (R106). -/
def State.emits (s : State) (b : Bay) (kind : Nat) : Bool :=
  s.executing b && !s.wordOver b &&
    (if s.custRows b then uwVec (s.word b) == kind else !s.called b && (!s.exiting b || kind == 0))

/-! ### Counters (R103) -/

/-- The value of a counter. -/
def State.cnt (s : State) (b : Bay) (n : Fin 4) : Nat := s.getB b (RBay.CNT_VALUE + n.val)
/-- A counter written: at least 0 and at most 0xFFFF_FFFF. -/
def State.setCnt (s : State) (b : Bay) (n : Fin 4) (v : Nat) : State := s.setB b (RBay.CNT_VALUE + n.val) (min v 0xFFFFFFFF)

/-- A per-cycle operation on a counter: once in each cycle of the word (R91). -/
def State.cntCycle (s : State) (b : Bay) (n : Fin 4) (op : Nat) (v : Nat) : State :=
  if s.hasCust b (fun w => uwCnt w n.val == op) && !(s.bay b).cycActed.testBit n.val then
    (s.modBay b (fun u => { u with cycActed := orBit u.cycActed n.val })).setCnt b n v
  else s
/-- A one-shot operation on a counter (R91). -/
def State.cntOnce (s : State) (b : Bay) (n : Fin 4) (op : Nat) (p : Nat → Bool) (v : Nat) : State :=
  if s.hasCust b (fun w => uwCnt w n.val == op && p w) then s.once b (OS.CNT + n.val) (fun s => s.setCnt b n v) else s

/-! ### The one-shot fields (R98 to R101) -/

/-- SHG JUMP_REQ: a request of microword rank, or BAD_TARGET (R98). -/
def State.shgJump (s : State) (b : Bay) : State :=
  let n := fieldOf (s.word b) 112 13
  if s.jumpable b n then s.postJump b 3 n
  else (s.flagB b RBay.MICRO_FLAGS MF.BAD_TARGET).dropJumps b 1

/-- SHG REWIND: rows issue from row 0 again, in a new granule; the pass's decision stands (R109). -/
def State.rewind (s : State) (b : Bay) : State :=
  if entResid (s.curEntry b) ≠ 1 then s.seqError b true MF.REWIND_ERROR
  else s.modBay b (fun u => { u with rowNext := 0, granRows := 0, granOpen := false, rewound := true })

/-- The quads of a mask retire at a granule boundary four cycles on or later: the cause is registered in the cycle that issues, or
that is over (R27). -/
def State.retireSoon (s : State) (b : Bay) (mask : Nat) : State :=
  s.modBay b (fun u => { u with retiring := u.retiring ++ [(mask, if u.cycDone then u.cyc - 1 else u.cyc)] })

/-- OBJ_WRITE: the write joins the queue of four, or is dropped and counted (R100). -/
def State.objWrite (s : State) (b : Bay) (n imm : Nat) : State :=
  let slot := s.getB b (RBay.OBJ_SLOT + n)
  if slot.testBit 31 = false ∨ 4 ≤ (s.bay b).objQueue.length then
    (s.flagB b RBay.MICRO_FLAGS MF.OBJ_DROP).incB b RBay.OBJ_DROP_COUNT
  else s.modBay b (fun u => { u with objQueue := u.objQueue ++ [(slot % 2 ^ 24, imm, s.getB b RBay.SITE_EPOCH)] })

/-- A microcode port's operation on its ridge line (R100). -/
def State.ridgePort (s : State) (b : Bay) (port : Fin 2) (op : Nat) (k : State → Nat → State) : State :=
  let line := s.getB b (RBay.MR_LINE + port.val)
  if s.hasCust b (fun w => uwRidge w port.val == op) then
    s.once b (OS.RIDGE + port.val) (fun s => if line < 32 then k s line else s)
  else s

/-- The level set that a word's LVL names is selected (R97, R159). -/
def State.pickLevels (s : State) (b : Bay) : State := s.selectLevels b (fieldOf (s.word b) 76 4)

/-- A customer word's own selection acts, where it has not yet: it comes before a LOAD of its cycle (R161). -/
def State.lvlSel (s : State) (b : Bay) : State :=
  if s.hasCust b (fun w => w.testBit 54 && uwSeq w != 6) then s.once b OS.LVL (fun s => s.pickLevels b) else s

/-- LOAD TIMER: the bay timer starts where it is claimed for LOAD_TIMER and its time is not 0 (R176). -/
def State.startLoadTimer (s : State) (b : Bay) : State :=
  let t := s.getB b RBay.BLANK_TIME
  if s.claimedFor (.blankTimer b) 0x02 && t != 0 then s.modBay b (fun u => { u with timer := some (s.now + t * 10000) }) else s

/-! ### The customer bank (R111 to R115) -/

/-- How many of the uses of IMM a word makes (R94). -/
def immUses (w : Nat) : Nat :=
  ((List.range 4).filter (fun n => uwCnt w n == 5)).length + (if uwShg w = 1 then 1 else 0) + (if uwCap w = 3 then 1 else 0) +
  (if 0x40 ≤ uwEvt w ∧ uwEvt w ≤ 0x4F then 1 else 0)

/-- Whether a bit of a word is offending under the customer word restrictions (R94, R96, R111): a refused field's lowest
bit, or a reserved bit that is set. -/
def wordBit (w i : Nat) : Bool :=
  match i with
  | 0 => decide (uwSeq w ≤ 4) && decide (uwNext w < BANK)
  | 14 => decide (6 < uwSeq w)
  | 18 => decide (0xCF < uwCond w) || (decide (0x1C ≤ uwCond w) && decide (uwCond w ≤ 0x1F))
  | 26 => uwWait w && uwSeq w != 0
  | 47 => decide (4 < uwShg w)
  | 55 => fieldOf w 55 4 != 0 && (decide (fieldOf w 55 4 < 4) || decide (7 < fieldOf w 55 4))
  | 80 => !(decide (uwCap w ≤ 3) || (decide (0x11 ≤ uwCap w) && decide (uwCap w ≤ 0x20)))
  | 91 => uwEvt w != 0 && !(decide (0x40 ≤ uwEvt w) && decide (uwEvt w ≤ 0x4F)) && !(decide (0x90 ≤ uwEvt w) && decide (uwEvt w ≤ 0x9F))
  | 99 => uwLoad w == 3
  | 101 => uwBlank w == 3
  | 103 => decide (2 < uwTmu w)
  | 110 => uwSph w == 1 || uwSph w == 3
  | 112 => decide (1 < immUses w)
  | i =>
    if 29 ≤ i ∧ i < 45 ∧ (i - 29) % 4 = 0 then
      let n := (i - 29) / 4
      decide (8 < uwCnt w n) || (uwCnt w n == 5 && uwCsel w != n)
    else decide (144 ≤ i) && w.testBit i

/-- The lowest offending bit of a customer word (R111). -/
def wordError (w : Nat) : Option Nat := (List.range 160).find? (wordBit w)

/-- Fields of a bank image's header (R112). -/
abbrev hdrCount (h : Nat) : Nat := fieldOf h 48 16
/-- FIRST_WORD -/
abbrev hdrFirst (h : Nat) : Nat := fieldOf h 64 12
/-- IMAGE_VERSION -/
abbrev hdrVersion (h : Nat) : Nat := fieldOf h 80 32
/-- KEY_SLOT -/
abbrev hdrSlot (h : Nat) : Nat := fieldOf h 112 8
/-- TYPE_TABLE entry j. -/
abbrev hdrType (h j : Nat) : Nat := fieldOf h (128 + 16 * j) 16

/-- The header of an image, as a number. -/
def imageHeader (image : Bytes) : Nat := ofBytes (image.take 64)
/-- Word `i` of an image. -/
def imageWord (image : Bytes) (i : Nat) : Nat := ofBytes (slice image (64 + 20 * i) 20)

/-- Whether a bank offset lies in one of a list of ranges. -/
def inRanges (rs : List (Nat × Nat)) (a : Nat) : Bool := rs.any (fun r => decide (r.1 ≤ a) && decide (a < r.1 + r.2))

/-- A list of ranges without one range. -/
def cutRange (rs : List (Nat × Nat)) (first count : Nat) : List (Nat × Nat) :=
  rs.flatMap (fun r =>
    let l := (r.1, min r.2 (first - r.1))
    let e := max r.1 (first + count)
    let h := (e, r.1 + r.2 - e)
    (if l.2 = 0 then [] else [l]) ++ (if h.2 = 0 ∨ r.1 + r.2 ≤ e then [] else [h]))

/-- Whether a bit of an image's header is offending (R112, R113).
DEDUCED (log 30): bits [14:13] of a TYPE_TABLE entry, to which the layout gives no meaning, are reserved and zero. -/
def headerBit (h len : Nat) (loaded : List (Nat × Nat)) (i : Nat) : Bool :=
  match i with
  | 0 => fieldOf h 0 32 != 0x46434D42
  | 32 => fieldOf h 32 16 != 1
  | 48 => hdrCount h == 0 || decide (4096 < hdrCount h) || len != 160 + 20 * hdrCount h
  | 64 => decide (4096 < hdrFirst h + hdrCount h)
  | i =>
    if 128 ≤ i ∧ i < 368 then
      let j := (i - 128) / 16
      let e := hdrType h j
      if (i - 128) % 16 = 0 then
        e.testBit 15 && !inRanges ((hdrFirst h, hdrCount h) :: loaded) (e % 4096)
      else ((i - 128) % 16 == 13 || (i - 128) % 16 == 14) && h.testBit i
    else ((decide (76 ≤ i) && decide (i < 80)) || (decide (120 ≤ i) && decide (i < 128)) || decide (368 ≤ i)) && h.testBit i

/-- What the check of a bank image finds: nothing, a header bit, or a word's place and bit (R113). -/
inductive ImageCheck where
  | good
  | header (bit : Nat)
  | word (place bit : Nat)
  deriving DecidableEq, Repr

/-- The check of a bank image: the header first, then its words in order (R113). -/
def checkImage (image : Bytes) (loaded : List (Nat × Nat)) : ImageCheck :=
  let h := imageHeader image
  match (List.range 512).find? (headerBit h image.length loaded) with
  | some i => .header i
  | none =>
    match ((List.range (hdrCount h)).filterMap (fun k => (wordError (imageWord image k)).map (fun i => (k, i)))).head? with
    | some (k, i) => .word k i
    | none => .good

/-- The first `n` words of an image are written to the bank; a word written holds no error (R87, R113). -/
def State.writeBank (s : State) (b : Bay) (image : Bytes) (n : Nat) : State :=
  let first := hdrFirst (imageHeader image)
  s.each (List.range n) (fun s k =>
    ({ s with bank := s.bank.set (b.val * 4096 + first + k) (BitVec.ofNat 160 (imageWord image k)) } : State).modBay b
      (fun u => { u with badWords := u.badWords.erase (BANK + first + k), softWords := u.softWords.erase (BANK + first + k) }))

/-- Every type is detached: the attached bit of each CUSTOM_ENTRY is cleared (R113). -/
def State.detachTypes (s : State) (b : Bay) : State :=
  s.each (List.range 15) (fun s j => s.setB b (RBay.CUSTOM_ENTRY + j) (clrBit (s.getB b (RBay.CUSTOM_ENTRY + j)) 31))

/-- The first 64 bits of SHA-384 over the 4,096 bank words (R116). -/
def State.bankDigest (s : State) (b : Bay) : Nat :=
  (Config.sha384First64 ((List.range 4096).flatMap (fun k => toBytes 20 (s.bankWord b (BANK + k))))).toNat

/-- A load is cut short while it writes: `n` words are in the bank, no type is attached and the range is no longer a
loaded one (R114, R115). -/
def State.cutLoad (s : State) (b : Bay) (image : Bytes) (n : Nat) : State :=
  let h := imageHeader image
  let s := ((s.detachTypes b).writeBank b image n).modBay b (fun u => { u with
    bankLoad := none, ranges := cutRange u.ranges (hdrFirst h) (hdrCount h) })
  s.setB b RBay.LOAD_STATUS 8

/-- A load is DONE: its words are in the bank, its types attached (R113). -/
def State.doneLoad (s : State) (b : Bay) (image : Bytes) : State :=
  let h := imageHeader image
  let s := ((s.detachTypes b).writeBank b image (hdrCount h)).modBay b (fun u => { u with
    bankLoad := none, ranges := u.ranges ++ [(hdrFirst h, hdrCount h)] })
  let s := s.each (List.range 15) (fun s j =>
    let e := hdrType h j
    if e.testBit 15 then
      s.setB b (RBay.CUSTOM_ENTRY + j) (BANK + e % 4096 + (if e.testBit 12 then 2 ^ 16 else 0) + 2 ^ 31)
    else s)
  ((s.setB b RBay.LOAD_STATUS 4).setB b RBay.BANK_VERSION (hdrVersion h)).setB b RBay.BANK_DIGEST (s.bankDigest b)

/-- A load ends with a failure before it writes: the bank and CUSTOM_ENTRY are unchanged (R113). -/
def State.failLoad (s : State) (b : Bay) (status detail dop : Nat) : State :=
  (((s.modBay b (fun u => { u with bankLoad := none })).setB b RBay.LOAD_STATUS status).setB b RBay.LOAD_DETAIL detail).answer dop

/-- Whether a customer code key slot is loaded with a use: bit 0 MICROCODE, 1 PACKAGE (R392). -/
def State.codeKeyFor (s : State) (slot use : Nat) : Bool :=
  decide (slot < 8) && !(s.doms.get (R.CODE_KEY + slot) []).isEmpty && (s.getO (R.CODE_KEY_USE + slot)).testBit use

/-- A write of BANK_IMAGE: in MAINT, no load in progress (R113). -/
def State.bankImage (s : State) (b : Bay) (image : Bytes) : State :=
  if s.bst b ≠ BS.MAINT ∨ (s.bay b).bankLoad.isSome = true ∨ s.coreOut = true then s.answer ST.STATE_LOCKED
  else ((s.modBay b (fun u => { u with bankLoad := some image })).setB b RBay.LOAD_STATUS 1).ok

/-- VERIFYING ends: with a good signature under a key slot for microcode CHECKING follows (R113). -/
def State.verifyEnds (s : State) (b : Bay) (image : Bytes) (sigOk : Bool) : State :=
  if sigOk && s.codeKeyFor (hdrSlot (imageHeader image)) 0 then s.setB b RBay.LOAD_STATUS 2 else s.failLoad b 5 0 ST.CRYPTO_ERROR

/-- CHECKING ends: with a good image WRITING begins, and clears the attached bit of every CUSTOM_ENTRY (R113). -/
def State.checkEnds (s : State) (b : Bay) (image : Bytes) : State :=
  match checkImage image (s.bay b).ranges with
  | .header i => s.failLoad b 6 (i * 2 ^ 16 + 2 ^ 31) ST.OUT_OF_RANGE
  | .word k i => s.failLoad b 7 (k + i * 2 ^ 16) ST.OUT_OF_RANGE
  | .good => (s.detachTypes b).setB b RBay.LOAD_STATUS 3

/-- WRITING ends: the words are in and read back, or a mismatch has cut the load short (R113, R114). -/
def State.writeEnds (s : State) (b : Bay) (image : Bytes) (readbackOk : Bool) : State :=
  if readbackOk then (s.doneLoad b image).ok
  else (s.free.2.cutLoad b image (s.free.1.toNat % (hdrCount (imageHeader image) + 1))).ok

/-- The present stage of the load in progress ends (R113, R114). -/
def State.bankLoaded (s : State) (b : Bay) (sigOk readbackOk : Bool) : State :=
  match (s.bay b).bankLoad with
  | none => s
  | some image =>
    if s.getB b RBay.LOAD_STATUS = 1 then s.verifyEnds b image sigOk
    else if s.getB b RBay.LOAD_STATUS = 2 then s.checkEnds b image
    else s.writeEnds b image readbackOk

/-- A bay that leaves MAINT for SAFE cuts the load that is in progress short (R114): while it writes, after a number of words
that the spec does not state (log 35); before, with the bank and CUSTOM_ENTRY unchanged and a LOAD_STATUS that the spec does not
state (log 44). -/
def State.cutByOff (s : State) (b : Bay) : State :=
  match (s.bay b).bankLoad with
  | none => s
  | some image =>
    if s.getB b RBay.LOAD_STATUS = 3 then s.free.2.cutLoad b image (s.free.1.toNat % (hdrCount (imageHeader image) + 1))
    else (s.free.2.modBay b (fun u => { u with bankLoad := none })).setB b RBay.LOAD_STATUS (s.free.1.toNat % 9)

/-- A write of CUSTOM_ENTRY: attached, its address must lie within the loaded ranges (R115). -/
def State.customEntry (s : State) (b : Bay) (type value : Nat) : State :=
  let a := fieldOf value 0 14
  if !s.quiet b then s.answer ST.STATE_LOCKED
  else if value.testBit 31 ∧ ¬(BANK ≤ a ∧ inRanges (s.bay b).ranges (a - BANK) = true) then s.answer ST.OUT_OF_RANGE
  else (s.setB b (RBay.CUSTOM_ENTRY + type) value).ok

/-- The vendor words of the running image are reloaded in MAINT (R86). -/
def State.vendorReload (s : State) (b : Bay) : State :=
  if s.bst b = BS.MAINT ∧ (s.bay b).reload = true then
    (s.setB b RBay.VENDOR_VERSION (Config.vendorRelease (BitVec.ofNat 32 (s.getO R.FIRMWARE_VERSION))).toNat).modBay b
      (fun u => { u with
        reload := false, badWords := u.badWords.filter (fun a => decide (BANK ≤ a)), softWords := u.softWords.filter (fun a => decide (BANK ≤ a)) })
  else s

/-! ### Meanings: what comes after a word -/

/-- SEQ_JUMP (R88). -/
def execSeqJump (b : Bay) (ecc : Ecc) (s : State) : Host.Outcome State Fault Refusal :=
  .next (if s.seqIs b 0 then s.passTo b ecc (s.nextAddr b) else s)

/-- SEQ_IF (R89, R90). -/
def execSeqIf (b : Bay) (ecc : Ecc) (s : State) : Host.Outcome State Fault Refusal :=
  .next (if s.seqIs b 1 then
      s.branch b (fun c s => if c then s.decided b ecc (s.nextAddr b) else s.toNext b (s.decided b ecc))
    else s)

/-- SEQ_IFNOT (R89, R90). -/
def execSeqIfnot (b : Bay) (ecc : Ecc) (s : State) : Host.Outcome State Fault Refusal :=
  .next (if s.seqIs b 2 then
      s.branch b (fun c s => if c then s.toNext b (s.decided b ecc) else s.decided b ecc (s.nextAddr b))
    else s)

/-- SEQ_CALL (R88, R95). -/
def execSeqCall (b : Bay) (ecc : Ecc) (s : State) : Host.Outcome State Fault Refusal :=
  .next (if s.seqIs b 3 then s.push b (fun s => s.passTo b ecc (s.nextAddr b)) else s)

/-- SEQ_CALL_IF (R88, R95). -/
def execSeqCallIf (b : Bay) (ecc : Ecc) (s : State) : Host.Outcome State Fault Refusal :=
  .next (if s.seqIs b 4 then
      s.branch b (fun c s =>
        if c then s.push b (fun s => s.decided b ecc (s.nextAddr b)) else s.toNext b (s.decided b ecc))
    else s)

/-- SEQ_RETURN (R95). -/
def execSeqReturn (b : Bay) (ecc : Ecc) (s : State) : Host.Outcome State Fault Refusal :=
  .next (if s.seqIs b 5 then s.popTo b ecc else s)

/-- SEQ_EXIT (R107): at the end of the word's cycle, or in it where vendor sequencing comes to call a customer type. -/
def execSeqExit (b : Bay) (ecc : Ecc) (s : State) : Host.Outcome State Fault Refusal :=
  .next (if (s.wordCycle b || s.called b) && s.hasCust b (fun w => uwSeq w == 6 && !uwWait w) then s.exit b ecc else s)

/-- SEQ_DISPATCH (R106): vendor sequencing of the current entry, or its customer type where the pass calls it. -/
def execSeqDispatch (b : Bay) (ecc : Ecc) (s : State) : Host.Outcome State Fault Refusal :=
  .next (
    if s.executing b && !(s.bay b).cust && (s.bay b).extra.isNone then
      if s.called b then s.dispatch b ecc
      else (s.modBay b (fun u => { u with dispatched := true })).toVendor b |>.fetched b ecc
    else s)

/-- WAIT_RELEASE (R96, R105): on a true condition to the next address, TIMED_OUT cleared. -/
def execWaitRelease (b : Bay) (ecc : Ecc) (s : State) : Host.Outcome State Fault Refusal :=
  .next (if s.waits b && s.condAt b (uwCond (s.word b)) then
      let t := (s.clearLatch b (uwCond (s.word b))).modBay b (fun u => { u with timedOut := false })
      t.toNext b (fun a => t.decided b ecc a)
    else s)

/-- WAIT_TIMEOUT (R96, R105): the timeout counter is 0 and the condition false, so the wait continues at NEXT. -/
def execWaitTimeout (b : Bay) (ecc : Ecc) (s : State) : Host.Outcome State Fault Refusal :=
  .next (if s.waits b && !s.condAt b (uwCond (s.word b)) && s.getB b (RBay.CNT_VALUE + uwWto (s.word b)) == 0 then
      (s.modBay b (fun u => { u with timedOut := true })).passTo b ecc (s.nextAddr b)
    else s)

/-! ### Meanings: vectors -/

/-- VEC_EMIT (R88, R104, R108). -/
def execVecEmit (b : Bay) (s : State) : Host.Outcome State Fault Refusal :=
  .next (if s.emits b 0 then s.cycle b (fun s => s.emitSlot b) else s)

/-- VEC_PAD (R78, R97): the pad vector of a word, or of the pad granule of an underrun or of PAUSE. -/
def execVecPad (b : Bay) (s : State) : Host.Outcome State Fault Refusal :=
  .next (
    if s.padding b then s.cycle b (fun s => s.padSlot b)
    else if s.emits b 1 then s.cycle b (fun s => some (s.issueVec b (.pad false))) else s)

/-- VEC_HOLD (R97). -/
def execVecHold (b : Bay) (s : State) : Host.Outcome State Fault Refusal :=
  .next (if s.emits b 2 then s.cycle b (fun s => some (s.issueVec b (s.held b false))) else s)

/-- VEC_MUTE (R97). -/
def execVecMute (b : Bay) (s : State) : Host.Outcome State Fault Refusal :=
  .next (if s.emits b 3 then s.cycle b (fun s => some (s.issueVec b (s.held b true))) else s)

/-- PRD_SEL (R97). -/
def execPrdSel (b : Bay) (s : State) : Host.Outcome State Fault Refusal :=
  .next (if s.has b (fun w => w.testBit 53 && uwSeq w != 6) then
      s.modBay b (fun u => { u with prdSel := some (fieldOf (s.word b) 70 6) }) else s)

/-- LVL_SEL (R97, R159). -/
def execLvlSel (b : Bay) (s : State) : Host.Outcome State Fault Refusal :=
  .next (if s.has b (fun w => w.testBit 54 && uwSeq w != 6) then s.once b OS.LVL (fun s => s.pickLevels b) else s)

/-- MATCH_ENABLE (R99). -/
def execMatchEnable (b : Bay) (s : State) : Host.Outcome State Fault Refusal :=
  .next (if s.has b (fun w => (uwMatch w).testBit 4) then
      s.modBay b (fun u => { u with matchOn := some (uwMatch (s.word b) % 16) }) else s)

/-! ### Meanings: SHG -/

/-- SHG_JUMP_REQ (R98). -/
def execShgJumpReq (b : Bay) (s : State) : Host.Outcome State Fault Refusal :=
  .next (if s.has b (fun w => uwShg w == 1) then s.once b OS.SHG (fun s => s.shgJump b) else s)

/-- SHG_PAUSE (R97). -/
def execShgPause (b : Bay) (s : State) : Host.Outcome State Fault Refusal :=
  .next (if s.has b (fun w => uwShg w == 2) then
      s.once b OS.SHG (fun s => s.modBay b (fun u => { u with pauseReq := true })) else s)

/-- SHG_STOP (R97). -/
def execShgStop (b : Bay) (s : State) : Host.Outcome State Fault Refusal :=
  .next (if s.has b (fun w => uwShg w == 3) then
      s.once b OS.SHG (fun s => s.modBay b (fun u => { u with stopReq := true })) else s)

/-- SHG_REWIND (R109). -/
def execShgRewind (b : Bay) (s : State) : Host.Outcome State Fault Refusal :=
  .next (if s.has b (fun w => uwShg w == 4) then s.once b OS.SHG (fun s => s.rewind b) else s)

/-! ### Meanings: counters -/

/-- CNT_DEC (R103). -/
def execCntDec (b : Bay) (n : Fin 4) (s : State) : Host.Outcome State Fault Refusal :=
  .next (s.cntCycle b n 1 (s.cnt b n - 1))

/-- CNT_INC (R103). -/
def execCntInc (b : Bay) (n : Fin 4) (s : State) : Host.Outcome State Fault Refusal :=
  .next (s.cntCycle b n 2 (s.cnt b n + 1))

/-- CNT_DEC_VEC (R103, R104). -/
def execCntDecVec (b : Bay) (n : Fin 4) (s : State) : Host.Outcome State Fault Refusal :=
  .next (s.cntCycle b n 3 (s.cnt b n - (s.bay b).cycRows))

/-- CNT_INC_VEC (R103). -/
def execCntIncVec (b : Bay) (n : Fin 4) (s : State) : Host.Outcome State Fault Refusal :=
  .next (s.cntCycle b n 4 (s.cnt b n + (s.bay b).cycRows))

/-- CNT_LOAD (R103). -/
def execCntLoad (b : Bay) (n : Fin 4) (s : State) : Host.Outcome State Fault Refusal :=
  .next (s.cntOnce b n 5 (fun w => uwCsel w == n.val) (uwImm (s.word b)))

/-- CNT_LOAD_PARAM (R103). -/
def execCntLoadParam (b : Bay) (n : Fin 4) (s : State) : Host.Outcome State Fault Refusal :=
  .next (s.cntOnce b n 6 (fun _ => true) (entParam (s.curEntry b)))

/-- CNT_RELOAD (R103). -/
def execCntReload (b : Bay) (n : Fin 4) (s : State) : Host.Outcome State Fault Refusal :=
  .next (s.cntOnce b n 7 (fun _ => true) (s.getB b (RBay.CNT_RELOAD + n.val)))

/-- CNT_CLEAR (R103). -/
def execCntClear (b : Bay) (n : Fin 4) (s : State) : Host.Outcome State Fault Refusal :=
  .next (s.cntOnce b n 8 (fun _ => true) 0)

/-! ### Meanings: the other fields -/

/-- CAPTURE_ON (R98, R194). -/
def execCaptureOn (b : Bay) (s : State) : Host.Outcome State Fault Refusal :=
  .next (if s.has b (fun w => uwCap w == 1) then s.once b OS.CAP (fun s => s.captureOn b) else s)

/-- CAPTURE_OFF (R98, R194). -/
def execCaptureOff (b : Bay) (s : State) : Host.Outcome State Fault Refusal :=
  .next (if s.has b (fun w => uwCap w == 2) then s.once b OS.CAP (fun s => s.captureOff b) else s)

/-- CAP_MARK (R195). -/
def execCapMark (b : Bay) (s : State) : Host.Outcome State Fault Refusal :=
  .next (if s.has b (fun w => uwCap w == 3) then s.once b OS.CAP (fun s => s.capMark b (fieldOf (s.word b) 112 16)) else s)

/-- RETIRE (R27). -/
def execRetire (b : Bay) (s : State) : Host.Outcome State Fault Refusal :=
  .next (if s.has b (fun w => decide (0x11 ≤ uwCap w) && decide (uwCap w ≤ 0x1F)) then
      s.once b OS.CAP (fun s => s.retireSoon b (uwCap (s.word b) % 16)) else s)

/-- RETIRE_FAILED (R27). -/
def execRetireFailed (b : Bay) (s : State) : Host.Outcome State Fault Refusal :=
  .next (if s.has b (fun w => uwCap w == 0x20) then s.once b OS.CAP (fun s => s.retireSoon b (s.bay b).quadFailed) else s)

/-- OBJ_WRITE (R100). -/
def execObjWrite (b : Bay) (s : State) : Host.Outcome State Fault Refusal :=
  .next (if s.has b (fun w => decide (0x40 ≤ uwEvt w) && decide (uwEvt w ≤ 0x4F)) then
      s.once b OS.EVT (fun s => s.objWrite b (uwEvt (s.word b) % 16) (uwImm (s.word b))) else s)

/-- RAISE (R99): bay event 16 to 31. -/
def execRaise (b : Bay) (s : State) : Host.Outcome State Fault Refusal :=
  .next (if s.has b (fun w => decide (0x90 ≤ uwEvt w) && decide (uwEvt w ≤ 0x9F)) then
      s.once b OS.EVT (fun s => s.occur (evBay b (16 + uwEvt (s.word b) % 16))) else s)

/-- LOAD_NOW (R160, R161): the pin die applies a selection of the word's own cycle first. -/
def execLoadNow (b : Bay) (s : State) : Host.Outcome State Fault Refusal :=
  .next (if s.has b (fun w => uwLoad w == 1) then s.once b OS.LOAD (fun s => (s.lvlSel b).load b) else s)

/-- LOAD_TIMER (R176). -/
def execLoadTimer (b : Bay) (s : State) : Host.Outcome State Fault Refusal :=
  .next (if s.hasCust b (fun w => uwLoad w == 2) then s.once b OS.LOAD (fun s => s.startLoadTimer b) else s)

/-- BLANK_START (R175). -/
def execBlankStart (b : Bay) (s : State) : Host.Outcome State Fault Refusal :=
  .next (if s.hasCust b (fun w => uwBlank w == 1) then s.once b OS.BLANK (fun s => s.startBlank b) else s)

/-- BLANK_END (R175). -/
def execBlankEnd (b : Bay) (s : State) : Host.Outcome State Fault Refusal :=
  .next (if s.hasCust b (fun w => uwBlank w == 2) then
      s.once b OS.BLANK (fun s => if s.blanking b then s.endBlank b else s) else s)

/-- TMU_MW_ARM (R224). -/
def execTmuMwArm (b : Bay) (s : State) : Host.Outcome State Fault Refusal :=
  .next (if s.hasCust b (fun w => uwTmu w == 1) then s.once b OS.TMU (fun s => s.tmuArmEvent b) else s)

/-- TMU_MW_DISARM (R224). -/
def execTmuMwDisarm (b : Bay) (s : State) : Host.Outcome State Fault Refusal :=
  .next (if s.hasCust b (fun w => uwTmu w == 2) then s.once b OS.TMU (fun s => s.tmuDisarmEvent b) else s)

/-- RIDGE_ASSERT (R93). -/
def execRidgeAssert (b : Bay) (port : Fin 2) (s : State) : Host.Outcome State Fault Refusal :=
  .next (s.ridgePort b port 1 (fun s line => s.driveRidge line true))

/-- RIDGE_RELEASE (R93). -/
def execRidgeRelease (b : Bay) (port : Fin 2) (s : State) : Host.Outcome State Fault Refusal :=
  .next (s.ridgePort b port 2 (fun s line => s.driveRidge line false))

/-- RIDGE_PULSE (R93): asserted for one BCLK. -/
def execRidgePulse (b : Bay) (port : Fin 2) (s : State) : Host.Outcome State Fault Refusal :=
  .next (s.ridgePort b port 3 (fun s line => (s.driveRidge line true).driveRidge line false))

/-- SPH_PERMIT (R406): a vendor word's. -/
def execSphPermit (b : Bay) (s : State) : Host.Outcome State Fault Refusal :=
  .next (if s.has b (fun _ => false) then s.once b OS.SPH (fun s => s.modRoll b (fun r => { r with permit := true })) else s)

/-- SPH_INHIBIT (R406): no hand-over while the word executes. -/
def execSphInhibit (b : Bay) (s : State) : Host.Outcome State Fault Refusal :=
  .next (if s.has b (fun w => uwSph w == 2) then
      s.once b OS.SPH (fun s => s.modRoll b (fun r => { r with inhibit := true })) else s)

/-- CUSTOM_WATCHDOG (R110). -/
def execCustomWatchdog (b : Bay) (s : State) : Host.Outcome State Fault Refusal :=
  .next (if s.executing b && (s.bay b).cust && decide (s.getB b RBay.CUSTOM_WATCHDOG ≤ (s.bay b).noRow) then
      s.seqError b true MF.WATCHDOG else s)

/-- BANK_IMAGE (R113). -/
def execBankImage (b : Bay) (epoch : BitVec 16) (image : Bytes) (s : State) : Host.Outcome State Fault Refusal :=
  .next (s.hostBay b epoch (fun s => s.bankImage b image))

/-- BANK_LOAD_COMPLETE (R113, R114): the stage of the load that LOAD_STATUS shows ends. -/
def execBankLoadComplete (b : Bay) (sigOk readbackOk : Bool) (s : State) : Host.Outcome State Fault Refusal :=
  .next (s.bankLoaded b sigOk readbackOk)

/-- CUSTOM_ENTRY_WRITE (R115). -/
def execCustomEntryWrite (b : Bay) (epoch : BitVec 16) (type : Fin 15) (value : BitVec 32) (s : State) :
    Host.Outcome State Fault Refusal :=
  .next (s.hostBay b epoch (fun s => s.customEntry b type.val value.toNat))

/-- VENDOR_RELOAD (R86). -/
def execVendorReload (b : Bay) (s : State) : Host.Outcome State Fault Refusal := .next (s.vendorReload b)

end Sys2Proof.Machine
end

