-- ==== Sys2Proof/Machine/Package.lean ====
section
/-! DEFINITION. Pattern packages: the header, the directory and the steps of a load (R84, R85, R388 to R392). -/

namespace Sys2Proof.Machine

/-! ### Pattern packages (R388, R389) -/

/-- PKG_STATUS values (R389). -/
abbrev PS.RECEIVING : Nat := 1
/-- DONE -/
abbrev PS.DONE : Nat := 4
/-- BAD_FORMAT -/
abbrev PS.BAD_FORMAT : Nat := 5
/-- BAD_SIGNATURE -/
abbrev PS.BAD_SIGNATURE : Nat := 6
/-- KEY_REFUSED -/
abbrev PS.KEY_REFUSED : Nat := 7
/-- INTERRUPTED -/
abbrev PS.INTERRUPTED : Nat := 8

/-- The header of a package, as a number. -/
def pkgHeader (p : Bytes) : Nat := ofBytes (p.take 64)
/-- IMAGE_COUNT -/
def pkgCount (p : Bytes) : Nat := fieldOf (pkgHeader p) 48 8
/-- Directory entry `i`, as a number. -/
def pkgDir (p : Bytes) (i : Nat) : Nat := ofBytes (slice p (64 + 64 * i) 64)
/-- TARGET_BAY of a directory entry. -/
abbrev dirBay (d : Nat) : Nat := fieldOf d 0 4
/-- KEYSLOT -/
abbrev dirSlot (d : Nat) : Nat := fieldOf d 8 8
/-- KEY_OFFSET -/
abbrev dirKey (d : Nat) : Nat := fieldOf d 32 32
/-- SETUP_OFFSET -/
abbrev dirSetup (d : Nat) : Nat := fieldOf d 64 32
/-- TABLE_OFFSET -/
abbrev dirTable (d : Nat) : Nat := fieldOf d 96 32
/-- TABLE_ENTRIES -/
abbrev dirEntries (d : Nat) : Nat := fieldOf d 128 16
/-- DATA_OFFSET -/
abbrev dirData (d : Nat) : Nat := fieldOf d 160 64
/-- DATA_LEN -/
abbrev dirLen (d : Nat) : Nat := fieldOf d 224 64

/-- The directory entry of a bay's image. -/
def pkgImageOf (p : Bytes) (b : Bay) : Option Nat := ((List.range (pkgCount p)).map (pkgDir p)).find? (fun d => dirBay d == b.val)

/-- Whether a section of `len` bytes lies within the package, ahead of its signature, on a 64-byte boundary (R388). -/
def sectionOk (p : Bytes) (off len : Nat) : Bool := off % 64 == 0 && decide (off + len + 96 ≤ p.length)

/-- The bytes of a BAY_SETUP section: the five kinds of objects in the order R84 names them. DESIGN CHOICE (log 34). -/
abbrev setupBytes : Nat := 29

/-- Whether the package's header is valid (R388). -/
def pkgHeaderOk (p : Bytes) : Bool :=
  let h := pkgHeader p
  decide (160 ≤ p.length) && fieldOf h 0 32 == 0x46504B47 && fieldOf h 32 16 == 1 && decide (1 ≤ pkgCount p) && decide (pkgCount p ≤ 16) &&
    fieldOf h 59 5 == 0 && fieldOf h 224 288 == 0 && decide (160 + 64 * pkgCount p ≤ p.length)

/-- Whether a directory entry is valid (R388). -/
def dirOk (p : Bytes) (d : Nat) : Bool :=
  fieldOf d 4 4 == 0 && fieldOf d 16 16 == 0 && fieldOf d 144 16 == 0 && fieldOf d 288 224 == 0 &&
    (decide (dirSlot d < 64) || dirSlot d == 0xFF) && (dirSlot d != 0xFF || dirKey d == 0) &&
    (dirSlot d == 0xFF || sectionOk p (dirKey d) 96) && sectionOk p (dirSetup d) setupBytes &&
    decide (1 ≤ dirEntries d) && decide (dirEntries d ≤ 8192) && sectionOk p (dirTable d) (32 * dirEntries d) &&
    dirLen d % 64 == 0 && sectionOk p (dirData d) (dirLen d)

/-- Whether the directory is valid: each entry, and each target bay once (R388). -/
def pkgDirOk (p : Bytes) : Bool :=
  let ds := (List.range (pkgCount p)).map (pkgDir p)
  ds.all (dirOk p) && decide (ds.map (fun d => dirBay d)).Nodup

/-- The values of a BAY_SETUP section: ACTIVE_MASK, SYMBOL_BITS, INACTIVE_SYMBOL, the PAD_ACTION values and START_ENTRY
(R84). -/
def setupValues (p : Bytes) : List (Nat × Nat) :=
  [(RBay.ACTIVE_MASK, ofBytes (p.take 2)), (RBay.SYMBOL_BITS, ofBytes (slice p 2 1)), (RBay.INACTIVE_SYMBOL, ofBytes (slice p 3 8))] ++
  (List.range 16).map (fun k => (RBay.PAD_ACTION + k, ofBytes (slice p (11 + k) 1))) ++
  [(RBay.START_ENTRY, ofBytes (slice p 27 2))]

/-- Whether a slot-A and slot-B action pair holds no reserved action code (R78, R126). -/
def actionsOk (v : Nat) : Bool := decide (v % 16 ≤ 8) && decide (v / 16 % 16 ≤ 8)

/-- Whether BAY_SETUP values keep the ranges of their objects (R83). -/
def setupOk (l : List (Nat × Nat)) : Bool :=
  l.all (fun p =>
    if p.1 = RBay.ACTIVE_MASK then [2, 4, 8, 16].contains (popCount p.2 16)
    else if p.1 = RBay.SYMBOL_BITS then p.2 == 2 || p.2 == 4
    else if p.1 = RBay.START_ENTRY then decide (p.2 < 8192)
    else if p.1 = RBay.INACTIVE_SYMBOL then true
    else actionsOk p.2)

/-- The entries of an image, relocated by the placement base in blocks but for LANE_FED ones (R85). -/
def imageEntries (p : Bytes) (d base : Nat) : List Nat :=
  (List.range (dirEntries d)).map (fun i =>
    let e := ofBytes (slice p (dirTable d + 32 * i) 32)
    if entResid e = 3 then e else e - fieldOf e 0 42 + (fieldOf e 0 42 + base / 64) % 2 ^ 42)

/-- The load ends with a failure: where the image names a slot, that slot is zeroised once more and its epoch passes the
reserved one (R390).  `slot` is none where another bay owns it or the package names none. -/
def State.pkgFail (s : State) (b : Bay) (status detail : Nat) (slot : Option Nat) : State :=
  let s := match slot with
    | some k => ((s.zeroSlot k).zeroSlot k)
    | none => s
  ((s.modBay b (fun u => { u with pkg := none })).setB b RBay.PKG_STATUS status).setB b RBay.PKG_DETAIL detail

/-- The slot a package names for a bay's image, where no other bay owns it. -/
def State.pkgSlot (s : State) (b : Bay) (p : Bytes) : Option Nat :=
  if !pkgHeaderOk p then none
  else match pkgImageOf p b with
    | some d => if dirSlot d < 64 ∧ (s.slotLoaded (dirSlot d) = false ∨ s.slotOf (dirSlot d) b = true) then some (dirSlot d) else none
    | none => none

/-- A load in progress ends with INTERRUPTED (R389, R397). -/
def State.pkgAbort (s : State) (b : Bay) : State :=
  match (s.bay b).pkg with
  | some l => s.pkgFail b PS.INTERRUPTED 0 (s.pkgSlot b l.data)
  | none => s

/-- BAD_FORMAT of a section, whose PKG_DETAIL number the spec does not state. (Log 35.) -/
def State.pkgBadSection (s : State) (b : Bay) (slot : Option Nat) : State :=
  s.free.2.pkgFail b PS.BAD_FORMAT (s.free.1.toNat % 2 ^ 16) slot

/-- The DATA section is written at the placement base, each block stamped with the reserved epoch (R389). -/
def State.pkgData (s : State) (b : Bay) (p : Bytes) (d : Nat) : State :=
  let stamp := if dirSlot d = 0xFF then 0 else nextKeyEpoch (s.slotEpoch (dirSlot d)) * 256
  s.writeBlocks (s.getB b RBay.PKG_BASE) (slice p (dirData d) (dirLen d)) stamp

/-- Whether an unwrapped key record is accepted: the group key's ID, an unwrap that holds, the two halves of the XTS key
different, and the package's own ID (R379, R389). -/
def State.keyOk (s : State) (p : Bytes) (d : Nat) (key : Option (BitVec 512 × BitVec 128)) : Bool :=
  match key with
  | none => false
  | some (x, id) =>
    ofBytes (slice p (dirKey d) 4) == s.getO R.GROUP_KEY_ID && s.getO R.GROUP_KEY_ID != 0 &&
      x.toNat % 2 ^ 256 != x.toNat / 2 ^ 256 && id.toNat == fieldOf (pkgHeader p) 64 128

/-- The held sections are written, BAY_SETUP and then the entries with the checks of R52; the load reports DONE, or names
the entry that was refused, with BAY_SETUP as it was (R85, R389). -/
def State.pkgTables (s : State) (b : Bay) (p : Bytes) (d : Nat) (slot : Option Nat) : State :=
  let setup := setupValues (slice p (dirSetup d) setupBytes)
  let old := setup.map (fun q => (q.1, s.getB b q.1))
  let es := imageEntries p d (s.getB b RBay.PKG_BASE)
  if !setupOk setup then s.pkgBadSection b slot
  else
    let reply := s.reply
    let s := s.each setup (fun s q => s.setB b q.1 q.2)
    let s := s.storeEntries b (es.zipIdx.map (fun q => (q.2, q.1)))
    if s.reply.status = ST.OK then
      let s := ({ s with reply := reply } : State).modBay b (fun u => { u with pkg := none })
      let s := { s with doms := s.doms.set (keyB b RBay.PKG_ID) (slice p 8 16) }
      ((s.setB b RBay.PKG_STATUS PS.DONE).setB b RBay.PKG_DETAIL 0).setB b RBay.PKG_VERSION (fieldOf (pkgHeader p) 192 32)
    else
      let n := s.getB b RBay.ENTRY_ERROR % 2 ^ 16
      (({ s with reply := reply } : State).each old (fun s q => s.setB b q.1 q.2)).pkgFail b PS.BAD_FORMAT n slot

/-- The load in progress of a bay runs through its steps, with the verdict of the signature and the unwrapped key record
(R389), and the checks of the memory blocks it was read from (R270): a poisoned block fails the signature, and a placement whose
pseudo-channels are not ready ends the load INTERRUPTED (R274; log 57). -/
def State.pkgLoaded (s : State) (b : Bay) (sigOk : Bool) (key : Option (BitVec 512 × BitVec 128)) (eccs : List Ecc) : State :=
  match (s.bay b).pkg with
  | none => s
  | some l =>
    let s := s.each (l.blocks.zip eccs) (fun s p => s.checkBlock p.1 p.2)
    let sigOk := sigOk && !(l.blocks.zip eccs).any (fun p => p.2 == .uncorrectable)
    let p := l.data
    if !(pkgHeaderOk p && pkgDirOk p) then s.pkgBadSection b (s.pkgSlot b p)
    else match pkgImageOf p b with
      | none => s.pkgBadSection b none
      | some d =>
        let k := dirSlot d
        let slot := s.pkgSlot b p
        let base := s.getB b RBay.PKG_BASE
        if k ≠ 0xFF ∧ slot = none then s.pkgFail b PS.KEY_REFUSED (fieldOf (s.slot k) 8 4 * 2 ^ 16) none
        else if s.patternBytes < base + dirLen d ∨ s.lockedRange base (dirLen d) = true then s.pkgBadSection b slot
        else if s.spanDown base (dirLen d) then s.pkgFail b PS.INTERRUPTED 0 slot
        else
          let s := s.pkgData b p d
          if (imageEntries p d base).any (fun e => entValid e && entEnc e && entKey e != k) then s.pkgBadSection b slot
          else if !(sigOk && s.codeKeyFor (fieldOf (pkgHeader p) 56 3) 1) then s.pkgFail b PS.BAD_SIGNATURE 0 slot
          else if k = 0xFF then s.pkgTables b p d none
          else if !s.keyOk p d key then s.pkgFail b PS.KEY_REFUSED (b.val * 2 ^ 16) slot
          else (s.loadSlot k ((key.map (·.1)).getD 0) base b).pkgTables b p d slot

/-- A load starts: every slot the bay owns is zeroised (R389). -/
def State.pkgBegin (s : State) (b : Bay) (l : PkgLoad) : State :=
  let s := s.each ((List.range 64).filter (fun k => s.slotOf k b)) State.zeroSlot
  ((s.modBay b (fun u => { u with pkg := some l })).setB b RBay.PKG_STATUS PS.RECEIVING).ok

/-- Whether a load may start: in IDLE or MAINT with none in progress, and the unit not in DEBUG (R389, R398). -/
def State.pkgReady (s : State) (b : Bay) : Bool :=
  s.quiet b && (s.bay b).pkg.isNone && (s.bay b).arming == 0 && s.getO R.TM_STATE != 3 && !s.coreOut

/-! ### Meanings -/

/-- PKG_IMAGE (R389). -/
def execPkgImage (b : Bay) (epoch : BitVec 16) (image : Bytes) (s : State) : Host.Outcome State Fault Refusal :=
  .next (s.hostBay b epoch (fun s =>
    if s.pkgReady b then s.pkgBegin b { data := image } else s.answer ST.STATE_LOCKED))

/-- PKG_LOAD_COMPLETE (R389, R390). -/
def execPkgLoadComplete (b : Bay) (sigOk : Bool) (key : Option (BitVec 512 × BitVec 128)) (eccs : List Ecc) (s : State) :
    Host.Outcome State Fault Refusal :=
  .next (s.pkgLoaded b sigOk key eccs)

end Sys2Proof.Machine
end

