-- ==== Sys2Proof/Machine/Arming.lean ====
section
/-! DEFINITION. The checks of arming (R35): clocks, site, claims and capture buffers, lockstep, region, bandwidth and
keys; and the arithmetic they report. -/

namespace Sys2Proof.Machine

/-- ARM_STATUS values (R36). -/
abbrev AS.CLOCK : Nat := 1
/-- SITE -/
abbrev AS.SITE : Nat := 2
/-- CLAIM -/
abbrev AS.CLAIM : Nat := 3
/-- LOCKSTEP_MISMATCH -/
abbrev AS.LOCKSTEP : Nat := 4
/-- BANDWIDTH -/
abbrev AS.BANDWIDTH : Nat := 5
/-- KEY -/
abbrev AS.KEY : Nat := 6
/-- REGION -/
abbrev AS.REGION : Nat := 7

/-- Why arming is refused: ARM_STATUS, the DOP status and its detail, and the detail objects' new values where the check
sets them (R35, R71, R209). -/
structure ArmFail where
  arm    : Nat
  dop    : Nat
  detail : Nat := 0
  loft   : Option Nat := none
  cap    : Option Nat := none
  deriving DecidableEq, Repr

/-! ### Clock, site and lockstep (R28, R29, R35) -/

/-- Whether the bay's clocks are locked and every path is in range (R13, R403). -/
def State.clockOk (s : State) (b : Bay) : Bool :=
  s.locked b.val && (s.bay b).fine && (chansOf b).all (fun c => !(s.getC c RChan.PATH_STATUS).testBit 1)

/-- The unit a bay owns claims as (R46, R421). -/
def bayUnit (b : Bay) : Nat := 0x100 + b.val

/-- Whether an owner is a member bay of a site. -/
def State.siteOwns (s : State) (i : Site) (owner : Nat) : Bool := (s.members i).any (fun m => bayUnit m == owner)

/-- Whether an owner is a bay or one of its sites (R35). -/
def State.owns (s : State) (b : Bay) (owner : Nat) : Bool := owner == bayUnit b || (s.sitesOf b).any (fun i => s.siteOwns i owner)

/-- Whether a site names a ridge line whose drive side it holds for SITE_CONDITION (R29). -/
def State.ridgeHeld (s : State) (i : Site) (line : Nat) : Bool :=
  if h : line < 32 then
    (match s.claim (.ridge ⟨line, h⟩) with
      | some c => c.feature == 0x0D && s.siteOwns i c.owner
      | none => false)
  else false

/-- Whether the site definition of a bay is complete (R35): a combined site names two ridge lines, one for each condition
(R29). -/
def State.siteOk (s : State) (b : Bay) : Bool :=
  let l := s.sitesOf b
  !l.isEmpty && l.all (fun i =>
    (s.members i).all (fun m => s.bst m != BS.MAINT && s.bst m != BS.OFF) &&
    (if s.siteKind i = 3 ∨ (s.siteKind i = 4 ∧ 1 < (s.members i).length) then
      s.ridgeHeld i (s.getS i RSite.RIDGE_FAIL) && s.ridgeHeld i (s.getS i RSite.RIDGE_MATCH) &&
        s.getS i RSite.RIDGE_FAIL != s.getS i RSite.RIDGE_MATCH
    else true))

/-- The fields of a VALID entry that the lockstep digest covers (R28). -/
def lockstepImage (e : Nat) : Nat :=
  if entValid e then
    (fieldOf e 42 28 <<< 42) + (fieldOf e 70 24 <<< 70) + (entSucc e <<< 94) + (entJt0 e <<< 107) + (entJt1 e <<< 120) +
    (entCond e <<< 133) + (entMode e <<< 141) + (entPrd e <<< 144) + (entType e <<< 166) + (entResid e <<< 170) + (1 <<< 172) +
    (if entSofd e then 1 <<< 173 else 0) + (entParam e <<< 208)
  else 0

/-- What TABLE_DIGEST is computed over (R28). -/
def State.digestBytes (s : State) (b : Bay) : Bytes :=
  (List.range 8192).flatMap (fun n => toBytes 32 (lockstepImage (s.entry b n))) ++ toBytes 2 (s.getB b RBay.START_ENTRY) ++
  (List.range 64).flatMap (fun p => toBytes 4 (s.getB b (RBay.PERIOD + p))) ++ toBytes 4 (s.getB b RBay.VENDOR_VERSION)

/-- The lockstep digest of a bay (R28). -/
def State.tableDigest (s : State) (b : Bay) : Nat := (Config.sha384First64 (s.digestBytes b)).toNat

/-- The other bays a bay runs in lockstep with, of this module. -/
def State.lockMates (s : State) (b : Bay) : List Bay :=
  match s.lockSite b with
  | some i => (s.members i).filter (fun m => m != b)
  | none => []

/-- Whether the lockstep structure of every member bay matches: the same BCLK and the same digest (R28). -/
def State.lockstepOk (s : State) (b : Bay) : Bool :=
  (s.lockMates b).all (fun m => (s.bay m).mhz == (s.bay b).mhz && s.tableDigest m == s.tableDigest b)

/-! ### Claims (R101, R205, R209) -/

/-- The refusal for a resource that is not held as it must be: it names another owner, and otherwise unit 0xFFF and
feature 0 (R35). -/
def State.claimFail (s : State) (b : Bay) (r : Option Resource) (cap : Option Nat) : ArmFail :=
  let none_ : ArmFail := { arm := AS.CLAIM, dop := ST.RESOURCE_CLAIMED, detail := 0xFFF * 2 ^ 32, cap := cap }
  match r.bind s.claim with
  | some c => if s.owns b c.owner then none_ else { none_ with detail := claimDetail c }
  | none => none_

/-- Whether a resource is claimed by a bay or its site for a feature. -/
def State.holds (s : State) (b : Bay) (r : Resource) (feature : Nat) : Bool :=
  match s.claim r with
  | some c => c.feature == feature && s.owns b c.owner
  | none => false

/-- The loaded words of a bay's customer bank, in address order (R101, R115). -/
def State.loadedWords (s : State) (b : Bay) : List Nat :=
  s.bank.filterMap (fun p =>
    if p.1 / 4096 = b.val ∧ inRanges (s.bay b).ranges (p.1 % 4096) = true then some p.2.toNat else none)

/-- The first resource a customer word needs and the bay does not hold (R101). -/
def State.wordClaim (s : State) (b : Bay) (w : Nat) : Option (Option Resource) :=
  let port := fun (n : Nat) => if h : s.getB b (RBay.MR_LINE + n) < 32 then some (Resource.ridge ⟨s.getB b (RBay.MR_LINE + n), h⟩) else none
  let ridgeOk := fun (n : Nat) => (port n).any (fun r =>
    (s.claim r).any (fun c => c.feature == 0x08 && c.owner == bayUnit b))
  let timerFor := fun (f : Nat) => (s.claim (.blankTimer b)).any (fun c => c.feature == f && s.owns b c.owner)
  if uwLoad w = 2 ∧ timerFor 0x02 = false then some (some (.blankTimer b))
  else if uwBlank w ≠ 0 ∧ timerFor 0x01 = false then some (some (.blankTimer b))
  else if uwTmu w ≠ 0 ∧ s.holds b (.probeRoute b 0) 0x03 = false ∧ s.holds b (.probeRoute b 1) 0x03 = false then
    some (some (.probeRoute b 0))
  else if uwRidge w 0 ≠ 0 ∧ ridgeOk 0 = false then some (port 0)
  else if uwRidge w 1 ≠ 0 ∧ ridgeOk 1 = false then some (port 1)
  else none

/-- Whether an HBM stream's ring lies wholly inside the capture region (R209, R275). -/
def State.inCapture (s : State) (b : Bay) (m : Fin 5) : Bool :=
  let base := s.getCap b m RCap.HBM_BASE
  decide (s.getO R.CAPTURE_BASE ≤ base) &&
    decide (base + s.getCap b m RCap.HBM_FRAMES * 4096 ≤ s.getO R.CAPTURE_BASE + s.getO R.CAPTURE_SIZE * 1048576)

/-- Whether a stream goes to HBM (R191). -/
def State.toHbm (s : State) (b : Bay) (m : Fin 5) : Bool := s.getCap b m RCap.DEST == 1

/-- CAP_ARM_DETAIL of a reason and a stream (R214). -/
def capDetail (reason : Nat) (m : Fin 5) : Nat := reason + (m.val + 1) * 256

/-- The partition a stream names and the bay does not hold, or that another SRAM stream names too. -/
def State.badPart (s : State) (b : Bay) (m : Fin 5) : Option Nat :=
  (s.partsOf b m).find? (fun p =>
    !s.holds b (.capturePartition b ⟨p % 8, Nat.mod_lt _ (by decide)⟩) 0x09 ||
    (List.finRange 5).any (fun n => n != m && s.capEnabled b n && !s.toHbm b n && (s.partsOf b n).contains p))

/-- What is wrong with an enabled stream's buffer and routes (R205, R209). -/
def State.streamFail (s : State) (b : Bay) (m : Fin 5) : Option ArmFail :=
  let part := some (capDetail 1 m)
  let routes := s.scopeRoutes b
  let badRoute := routes.find? (fun r => !s.holds b (.probeRoute b ⟨r % 2, Nat.mod_lt _ (by decide)⟩) 0x04)
  if !s.toHbm b m && (s.partsOf b m).isEmpty then some (s.claimFail b none part)
  else match (if s.toHbm b m then none else s.badPart b m) with
  | some p => some (s.claimFail b (some (.capturePartition b ⟨p % 8, Nat.mod_lt _ (by decide)⟩)) part)
  | none =>
    if s.toHbm b m && (decide (s.getCap b m RCap.HBM_FRAMES < 2) || !s.inCapture b m) then some (s.claimFail b none part)
    else if m == 3 && routes.isEmpty then some (s.claimFail b none (some (capDetail 2 m)))
    else if s.windowed b m && decide ((s.frames b m - 2) * 63 * s.unitsPerBlock b m < s.getCap b m RCap.PRE) then
      some (s.claimFail b none part)
    else if m == 3 then
      badRoute.map (fun r => s.claimFail b (some (.probeRoute b ⟨r % 2, Nat.mod_lt _ (by decide)⟩)) (some (capDetail 2 m)))
    else none

/-- What is wrong with the trigger: a TRIG_LAND source must hold its land (R209). -/
def State.trigFail (s : State) (b : Bay) : Option ArmFail :=
  let n : Fin 8 := ⟨s.getB b RBay.TRIG_PARAM % 8, Nat.mod_lt _ (by decide)⟩
  if s.getB b RBay.TRIG_SOURCE = 5 ∧ s.holds b (.trig n) 0x05 = false then some (s.claimFail b (some (.trig n)) (some 3)) else none

/-- The claims step: the customer bank's words, then the streams in mode order, then the trigger (R35, R209). -/
def State.claimsFail (s : State) (b : Bay) : Option ArmFail :=
  match ((s.loadedWords b).filterMap (s.wordClaim b)).head? with
  | some r => some (s.claimFail b r none)
  | none =>
    match (((List.finRange 5).filter (s.capEnabled b)).filterMap (s.streamFail b)).head? with
    | some f => some f
    | none => s.trigFail b

/-! ### The loft checks (R70, R71) -/

/-- The bytes an entry takes of the resident area, in whole blocks (R70). -/
def residentBytes (e width : Nat) : Nat :=
  match entResid e with
  | 1 => entBytes e width
  | 2 => ceilDiv (8 * min 1024 (entLen e) * width) 512 * 64
  | _ => 0

/-- The loft's size in bytes (R70). -/
abbrev loftBytes : Nat := 1048576

/-- The bytes of the resident area. -/
def State.residentArea (s : State) (b : Bay) : Nat := (s.validEntries b).foldl (fun n p => n + residentBytes p.2 (s.rowWidth b)) 0

/-- The first entry that does not fit when the resident area is placed in ascending index order (R71). -/
def firstUnfit (width : Nat) : Nat → List (Nat × Nat) → Option Nat
  | _, [] => none
  | used, (n, e) :: rest =>
    if loftBytes < used + residentBytes e width then some n else firstUnfit width (used + residentBytes e width) rest

/-- The shortest period of the period sets that streamed, head-pinned and lane-fed entries use (R71). -/
def State.streamPeriod (s : State) (b : Bay) : Option Nat :=
  (((s.validEntries b).filter (fun p => entResid p.2 != 1)).map (fun p => s.getB b (RBay.PERIOD + entPrd p.2))).min?

/-- The targets an entry names for a taken jump: JT0, JT1, and SUCC where a jump is the other way to it (R71). -/
def jumpTargets (e : Nat) : List Nat :=
  match entMode e with
  | 1 => [entJt0 e, entSucc e]
  | 2 => [entJt0 e, entJt1 e]
  | 3 => [entJt0 e, entSucc e]
  | 4 => [entJt0 e, entSucc e]
  | 6 => [entJt0 e, entJt1 e]
  | _ => []

/-- The targets an entry names as a jump, call or match target. -/
def namedTargets (e : Nat) : List Nat :=
  match entMode e with
  | 1 => [entJt0 e]
  | 2 => [entJt0 e, entJt1 e]
  | 3 => [entJt0 e]
  | 4 => [entJt0 e]
  | 6 => [entJt0 e, entJt1 e]
  | _ => []

/-- The targets that COND_JUMP and RIDGE_JUMP name, where they are enabled. -/
def State.jumpObjects (s : State) (b : Bay) : List Nat :=
  let c := s.getB b RBay.COND_JUMP
  let r := s.getB b RBay.RIDGE_JUMP
  (if c.testBit 31 then [fieldOf c 8 13] else []) ++ (if r.testBit 31 then [fieldOf r 5 13] else [])

/-- The entry to report for targets of a kind: the lowest that names one, and after the entries a target that COND_JUMP or
RIDGE_JUMP names (R71). -/
def State.badTarget (s : State) (b : Bay) (names : Nat → List Nat) (objects : List Nat) (bad : Nat → Bool) : Option Nat :=
  let is := fun n => entValid (s.entry b n) && bad (s.entry b n)
  match (s.validEntries b).find? (fun p => (names p.2).any is) with
  | some p => some p.1
  | none => objects.find? is

/-- The loft checks in reason order: the reason and the entry of the first that fails (R71).  DESIGN CHOICE (log 50): reason 2 is
checked for a table whose only entries outside the loft are HEAD_PINNED as well, as the rule's text lists them, though the row of the
table says streamed or lane-fed. -/
def State.loftFail (s : State) (b : Bay) : Option (Nat × Nat) :=
  let es := s.validEntries b
  let w := s.rowWidth b
  let mhz := (s.bay b).mhz
  let ring := loftBytes - s.residentArea b
  let streamed := es.find? (fun p => entResid p.2 != 1)
  let cover := match s.streamPeriod b with
    | some p => decide (ring * 8 * p < w * 96000 * mhz)
    | none => false
  let fast := match s.streamPeriod b with
    | some p => decide (32 * p < w * mhz)
    | none => false
  let checks : List (Nat × Option Nat) := [
    (1, firstUnfit w 0 es),
    (2, if cover then streamed.map (·.1) else none),
    (3, s.badTarget b jumpTargets (s.jumpObjects b) (fun e => entResid e == 0)),
    (4, s.badTarget b (fun e => if entMode e = 3 ∨ entMode e = 4 then [entJt0 e] else []) [] (fun e => entResid e != 1)),
    (5, (es.find? (fun p => entMode p.2 == 6 && entResid p.2 != 1)).map (·.1)),
    (6, s.badTarget b namedTargets (s.jumpObjects b) (fun e => entResid e == 3)),
    (7, if fast then (es.find? (fun p => entResid p.2 == 2)).map (·.1) else none),
    (8, if s.getB b RBay.STAGE_SIZE = 0 ∨ s.getB b RBay.STAGE_STREAM = 0xFFFF then
      (es.find? (fun p => entResid p.2 == 3)).map (·.1) else none)]
  (checks.filterMap (fun c => c.2.map (fun n => (c.1, n)))).head?

/-- RESIDENT_BYTES, RING_BYTES, CONSUMPTION and RING_COVER are set at arming (R83); the cover of a bay that streams nothing
is not stated. (Log 35.) -/
def State.showLoft (s : State) (b : Bay) : State :=
  let w := s.rowWidth b
  let area := min loftBytes (s.residentArea b)
  let ring := loftBytes - area
  let s := (s.setB b RBay.RESIDENT_BYTES area).setB b RBay.RING_BYTES ring
  match s.streamPeriod b with
  | some p =>
    (s.setB b RBay.CONSUMPTION (w * 500 * (s.bay b).mhz / p)).setB b RBay.RING_COVER (min (2 * ring * p / (w * (s.bay b).mhz)) (2 ^ 32 - 1))
  | none => (s.free.2.setB b RBay.CONSUMPTION 0).setB b RBay.RING_COVER (s.free.1.toNat % 2 ^ 32)

/-! ### Capture bandwidth (R208, R209, R281) -/

/-- A rational rate in MB/s: numerator and denominator. -/
abbrev Rate := Nat × Nat

/-- A sum of rates, exact. -/
def Rate.add (x y : Rate) : Rate := (x.1 * y.2 + y.1 * x.2, x.2 * y.2)
/-- Whether a rate exceeds a whole number of MB/s. -/
def Rate.over (x : Rate) (n : Nat) : Bool := decide (n * x.2 < x.1)
/-- A rate to the nearest MB/s. -/
def Rate.round (x : Rate) : Nat := (2 * x.1 + x.2) / (2 * x.2)

/-- P_min in tu (R208): the shortest period of any set that a VALID entry, or a loaded customer word with PRD_SEL, names. -/
def State.minPeriod (s : State) (b : Bay) : Option Nat :=
  (((s.validEntries b).map (fun p => s.getB b (RBay.PERIOD + entPrd p.2))) ++
   (((s.loadedWords b).filter (fun w => w.testBit 53)).map (fun w => s.getB b (RBay.PERIOD + fieldOf w 70 6)))).min?

/-- Quarter-bytes of payload per unit of time of a mode (R208): per P_min, and for SCOPE per Δ. -/
def State.quarters (s : State) (b : Bay) (m : Fin 5) : Nat :=
  let n := (maskChans (s.getCap b m RCap.CHANNEL_MASK)).length
  match m with
  | 0 => if 8 < n then 16 else 8
  | 1 => 2 * n
  | 2 => 32
  | 3 => (s.scopeRoutes b).length
  | _ => n

/-- The worst-case rate of a stream (R208). -/
def State.streamRate (s : State) (b : Bay) (m : Fin 5) : Rate :=
  let mhz := (s.bay b).mhz
  let p := if m = 3 then 500 * 2 ^ s.getB b RBay.SCOPE_INTERVAL else (s.minPeriod b).getD 0
  if p = 0 then (mhz, 4) else Rate.add (64000 * s.quarters b m * mhz, 63 * p) (mhz, 4)

/-- The enabled streams of a bay that go to HBM, or to SRAM, in mode order. -/
def State.streamsTo (s : State) (b : Bay) (hbm : Bool) : List (Fin 5) :=
  (List.finRange 5).filter (fun m => s.capEnabled b m && s.toHbm b m == hbm)

/-- The exact sum of streams' rates. -/
def State.sumRates (s : State) (b : Bay) (l : List (Fin 5)) : Rate := l.foldl (fun r m => Rate.add r (s.streamRate b m)) (0, 1)

/-- The first of a list of streams, in mode order, that brings a sum over a limit. -/
def State.firstOver (s : State) (b : Bay) (limit : Nat) (l : List (Fin 5)) : Option (Fin 5) :=
  ((List.range l.length).find? (fun i => (s.sumRates b (l.take (i + 1))).over limit)).bind (fun i => l[i]?)

/-- How many groups of a ring lie on a pseudo-channel (R272, R281): the ring's groups run from `g` on, and each whole run of
64 has one. -/
def groupsOn (g n pc : Nat) : Nat :=
  let first := g / 64
  let last := (g + n - 1) / 64
  let inRing := fun (k : Nat) => let x := 64 * k + (pc ^^^ (k % 64)); decide (g ≤ x) && decide (x < g + n)
  if n = 0 then 0
  else if first = last then (if inRing first then 1 else 0)
  else (last - first - 1) + (if inRing first then 1 else 0) + (if inRing last then 1 else 0)

/-- A stream's share on a pseudo-channel (R281). -/
def State.pcShare (s : State) (b : Bay) (m : Fin 5) (pc : Nat) : Rate :=
  let n := s.getCap b m RCap.HBM_FRAMES * 16
  ((s.streamRate b m).round * groupsOn (s.getCap b m RCap.HBM_BASE / 256) n pc, max 1 n)

/-- The sum of the shares of a list of streams on a pseudo-channel. -/
def State.pcSum (s : State) (l : List (Bay × Fin 5)) (pc : Nat) : Rate :=
  l.foldl (fun r p => Rate.add r (s.pcShare p.1 p.2 pc)) (0, 1)

/-- The streams that hold a capture share: of every bay that has taken it (R281). -/
def State.shareStreams (s : State) (b : Bay) : List (Bay × Fin 5) :=
  (List.finRange 16).flatMap (fun x => if x ≠ b ∧ (s.bay x).capShare = true then (s.streamsTo x true).map (fun m => (x, m)) else [])

/-- The pseudo-channel with the highest sum, and the sum (R281). -/
def State.pcPeak (s : State) (l : List (Bay × Fin 5)) : Nat × Rate :=
  (List.range 64).foldl (fun (best : Nat × Rate) pc =>
    let r := s.pcSum l pc
    if best.2.1 * r.2 < r.1 * best.2.2 then (pc, r) else best) (0, (0, 1))

/-- The first stream of the arming bay, in mode order, that brings a pseudo-channel's sum over 4,000 MB/s (R281). -/
def State.pcFail (s : State) (b : Bay) : Option (Fin 5) :=
  let l := s.streamsTo b true
  let base := s.shareStreams b
  ((List.range l.length).find? (fun i =>
    (s.pcPeak (base ++ (l.take (i + 1)).map (fun m => (b, m)))).2.over 4000)).bind (fun i => l[i]?)

/-- The capture checks of the bandwidth step: HBM, SRAM, then each pseudo-channel (R209, R281). -/
def State.captureFail (s : State) (b : Bay) : Option ArmFail :=
  let fail := fun (reason : Nat) (m : Fin 5) =>
    some ({ arm := AS.BANDWIDTH, dop := ST.BANDWIDTH_EXCEEDED, cap := some (capDetail reason m) } : ArmFail)
  match s.firstOver b 16000 (s.streamsTo b true) with
  | some m => fail 4 m
  | none => match s.firstOver b 64000 (s.streamsTo b false) with
    | some m => fail 5 m
    | none => match s.pcFail b with
      | some m => fail 4 m
      | none => none

/-- The rates and the peak that the capture checks report (R209, R281). -/
def State.showRates (s : State) (b : Bay) : State :=
  let hbm := s.streamsTo b true
  let peak := s.pcPeak (s.shareStreams b ++ hbm.map (fun m => (b, m)))
  let s := (s.setB b RBay.HBM_RATE (s.sumRates b hbm).round).setB b RBay.SRAM_RATE (s.sumRates b (s.streamsTo b false)).round
  let s := s.each (List.finRange 5) (fun s m =>
    s.setCap b m RCap.RATE (if (s.streamsTo b (s.toHbm b m)).contains m then (s.streamRate b m).round else 0))
  (s.setO R.PC_CAPTURE_PEAK (peak.2.1 / peak.2.2)).setO R.PC_CAPTURE_PEAK_PC peak.1

/-! ### Region and keys (R35, R391) -/

/-- The lowest VALID entry that is not LANE_FED and does not lie wholly inside the pattern region (R35). -/
def State.regionFail (s : State) (b : Bay) : Option Nat := ((s.validEntries b).find? (fun p => !s.inPattern b p.2)).map (·.1)

/-- Whether the Touchmark unit holds the content keys of every encrypted shingle, and the lane-fed entries name one slot
(R391). -/
def State.keysOk (s : State) (b : Bay) : Bool :=
  let es := s.validEntries b
  let fed := (es.filter (fun p => entResid p.2 == 3)).map (fun p => entKey p.2)
  es.all (fun p => !entEnc p.2 || s.slotLoaded (entKey p.2)) && fed.all (fun k => some k == fed.head?)

/-! ### All the checks in order (R35) -/

/-- The first arming check that fails. -/
def State.armFail (s : State) (b : Bay) : Option ArmFail :=
  if !s.clockOk b then some { arm := AS.CLOCK, dop := ST.STATE_LOCKED }
  else if !s.siteOk b then some { arm := AS.SITE, dop := ST.STATE_LOCKED }
  else match s.claimsFail b with
  | some f => some f
  | none =>
    if !s.lockstepOk b then some { arm := AS.LOCKSTEP, dop := ST.STATE_LOCKED }
    else match s.regionFail b with
    | some n => some { arm := AS.REGION, dop := ST.OUT_OF_RANGE, loft := some (n * 256) }
    | none => match s.loftFail b with
      | some (reason, n) => some { arm := AS.BANDWIDTH, dop := ST.BANDWIDTH_EXCEEDED, loft := some (reason + n * 256) }
      | none => match s.captureFail b with
        | some f => some f
        | none => if s.keysOk b then none else some { arm := AS.KEY, dop := ST.CRYPTO_ERROR }

end Sys2Proof.Machine
end

