-- ==== Sys2Proof/Machine/BayState.lean ====
section
/-! DEFINITION. Bay states (R33 to R36, R48): requests, arming and its fill, starts and the end of a run; exclusive
resources (R46, R47); and the events that reach the bays over the ridge, the purlin and the TRIG lands (R29 to R31). -/

namespace Sys2Proof.Machine

/-! ### Shares and locks (R210, R277, R280) -/

/-- PATTERN_IN_USE and CAPTURE_IN_USE follow the shares held, of 32,000 and 16,000 MB/s (R292). -/
def State.showShares (s : State) : State :=
  let n := fun (f : BayU → Bool) => ((List.finRange 16).filter (fun b => f (s.bay b))).length
  (s.setO R.PATTERN_IN_USE (32000 * n (·.patShare))).setO R.CAPTURE_IN_USE (16000 * n (·.capShare))

/-- The ranges a bay locks: the blocks of its STREAMED and HEAD_PINNED entries, and its staging ring (R277). -/
def State.lockRanges (s : State) (b : Bay) : List (Nat × Nat) :=
  let es := ((s.validEntries b).map (·.2)).filter (fun e => entResid e == 0 || entResid e == 2)
  let size := s.getB b RBay.STAGE_SIZE
  let base := s.getB b RBay.STAGE_BASE
  (match (es.map entStart).min?, (es.map (fun e => entStart e + entBytes e (s.rowWidth b))).max? with
    | some lo, some hi => [(lo, hi)]
    | _, _ => []) ++ (if size = 0 then [] else [(base, base + size)])

/-- A bay takes its pattern share and its locks (R280). -/
def State.takeShare (s : State) (b : Bay) : State :=
  (s.modBay b (fun u => { u with patShare := true, locks := s.lockRanges b })).showShares

/-- A bay releases its shares and its locks (R210, R280). -/
def State.dropShares (s : State) (b : Bay) : State :=
  (s.modBay b (fun u => { u with patShare := false, capShare := false, locks := [] })).showShares

/-! ### Entering states (R33, R34) -/

/-- What a run and its arming left to come is given up; an underrun's pad that ends here has its record appended (R79). -/
def State.clearRun (s : State) (b : Bay) : State :=
  (s.endUnderrun b).modBay b (fun u => { u with
    arming := 0, stopReq := false, pauseReq := false, resumeReq := false, ending := false, frozen := none, retiring := [],
    granOpen := false, padGran := false, decided := none, jump := none, usable := [], under := none, cust := false,
    extra := none, matchOn := none, prdSel := none, ring := [], fetch := none })

/-- A bay enters IDLE: the vendor words that were uncorrectable are restored, retired quads rejoin, and the shares and
locks are released (R27, R87, R151, R280). -/
def State.enterIdle (s : State) (b : Bay) : State :=
  let s := (s.clearRun b).modBay b (fun u => { u with badWords := u.badWords.filter (fun a => decide (BANK ≤ a)) })
  let s := ((s.setB b RBay.QUADS_RETIRED 0).inhibitBay b 1 false).dropShares b
  ((s.setState b BS.IDLE).showSlots).driveSite b

/-- What ends as a bay enters SAFE, MAINT or OFF: the drivers are inhibited, the loads and parametric units are off, a
rolling step ends, and the shares are released (R33, R151, R182, R409). -/
def State.quieten (s : State) (b : Bay) : State :=
  (((s.inhibitBay b 0 true).pmuOffBay b).rollAbort b).dropShares b

/-- A bay enters SAFE: its run ends where it is, the loads in progress are cut short (R33, R34, R114, R389, R412). -/
def State.enterSafe (s : State) (b : Bay) : State :=
  if s.bst b = BS.OFF then s
  else
    let s := if s.running b ∨ s.bst b = BS.ARMED then s.capStop b else s
    let s := s.each (chansOf b) (fun s c => s.modChan c (fun u => { u with edges := [], strobes := [] }))
    let s := (((s.clearRun b).quieten b).assayAbort b).tmuDisarm b
    let s := if s.bst b = BS.MAINT then s.cutByOff b else s
    ((s.pkgAbort b).setState b BS.SAFE).showSlots

/-- The contents that a transition from OFF to SAFE at host request clears: the shingle table, the customer bank, the
timing sets and the alphabets (R50, R86, R122, R126), and the TMU's FIFO (R233). -/
def State.clearStores (s : State) (b : Bay) : State :=
  let alpha := fun (k : Nat) =>
    let c := (k / 256 - 0x4000) / 0x40
    let o := k % (256 * 0x40)
    decide (0x4000 * 256 ≤ k) && decide (k < 0x8000 * 256) && c / 16 == b.val && decide (0x2000 ≤ o) && decide (o < 0x2400)
  let s := { s with
    shingles := s.shingles.without (fun k => k / 8192 == b.val)
    bank := s.bank.without (fun k => k / 4096 == b.val)
    tsets := s.tsets.without (fun k => k / 17408 == b.val)
    objs := s.objs.without alpha }
  (s.modBay b (fun u => { u with ranges := [], badWords := u.badWords.filter (fun a => decide (a < BANK)) })).tmuClear b

/-- Whether a bay drives a ridge line: it holds the line's drive side for RIDGE_DRIVE (R46). -/
def State.drivesRidge (s : State) (b : Bay) (line : Nat) : Bool :=
  decide (line < 32) && (s.claim (.ridge (Fin.ofNat 32 line))).any (fun c => c.feature == 0x08 && c.owner == bayUnit b)

/-- The ridge lines that a bay's ports drive go to their inactive level (R48). -/
def State.releaseRidge (s : State) (b : Bay) : State :=
  s.each [s.getB b RBay.MR_LINE, s.getB b (RBay.MR_LINE + 1)] (fun s l => if s.drivesRidge b l then s.driveRidge l false else s)

/-- A bay enters MAINT: another vendor release than its own in the running image is reloaded, and the words read with corrected
errors are scrubbed (R48, R86, R87). -/
def State.enterMaint (s : State) (b : Bay) : State :=
  let other := (Config.vendorRelease (BitVec.ofNat 32 (s.getO R.FIRMWARE_VERSION))).toNat ≠ s.getB b RBay.VENDOR_VERSION
  let s := (((s.clearRun b).quieten b).releaseRidge b).modBay b (fun u => { u with reload := decide other, softWords := [] })
  (s.setState b BS.MAINT).driveSite b

/-- A bay enters OFF: its clock stops, its claims are released and its spare path with them, and its level DACs go to the clear
codes (R8, R34, R46, R184). -/
def State.enterOff (s : State) (b : Bay) : State :=
  let s := ((s.quieten b).tmuDisarm b).releaseRidge b
  let s := (s.each (chansOf b) (fun s c => s.setOutputs c (s.clearCodes c))).clearRef b
  let s := s.releaseOwner (bayUnit b)
  let s := s.setO (keyA b RAssay.ROLL_STATE) 0
  let s := (s.setO R.LOCK_MASK (clrBit (s.getO R.LOCK_MASK) b.val)).modBay b (fun u => { u with fine := false })
  s.setState b BS.OFF

/-- Rolling assay of a bay begins a round now (R405). -/
def State.startRounds (s : State) (b : Bay) : State :=
  let s := s.modRoll b (fun r => { r with path := 0, roundAt := s.now, due := s.now })
  s.setO (keyA b RAssay.ROLL_STATE) (s.rollRest b)

/-- A bay leaves OFF for SAFE with its clocks locked; its TMU's FIFO is emptied, and at host request its stores are cleared (R12, R34,
R233). -/
def State.leaveOff (s : State) (b : Bay) (host : Bool) : State :=
  let s := if host then s.clearStores b else s.tmuClear b
  let s := (s.setO R.LOCK_MASK (orBit (s.getO R.LOCK_MASK) b.val)).modBay b (fun u => { u with fine := true, relock := none })
  let s := if s.getO (keyA b RAssay.ROLL_ENABLE) = 1 then (s.claimSpare b 0x0A).startRounds b else s
  (s.inhibitBay b 0 true).setState b BS.SAFE

/-! ### Arming (R35, R70, R76) -/

/-- Whether the ring has no room for another granule. -/
def State.ringFull (s : State) (b : Bay) : Bool :=
  decide (s.getB b RBay.RING_BYTES / s.rowWidth b ≤ (s.bay b).ring.length)

/-- The ring takes blocks until it is full, the prediction ends or no lane-fed rows are left; the fuel bounds the blocks.  A block
of `bad` is uncorrectable at every fetch (R81). -/
def State.fillRing (s : State) (b : Bay) (bad : List Nat) : Nat → State
  | 0 => s
  | n + 1 =>
    let x := bad.contains (s.nextBlock b)
    let t := s.loftFill b x x
    if (t.bay b).ring.length = (s.bay b).ring.length then s else t.fillRing b bad n

/-- The blocks of the resident area, each with its entry (R70). -/
def State.residentBlocks (s : State) (b : Bay) : List (Nat × Nat) :=
  (s.validEntries b).flatMap (fun p =>
    (List.range (residentBytes p.2 (s.rowWidth b) / 64)).map (fun i => (p.2, entStart p.2 + 64 * i)))

/-- The resident blocks of encrypted data under another epoch than their slot's: they are poisoned (R81, R271). -/
def State.badResident (s : State) (b : Bay) : List Nat :=
  ((s.residentBlocks b).filter (fun p => s.tagBad p.1 p.2)).map (·.2)

/-- The resident blocks among `bad` came with an uncorrectable check error: each is counted and reported, once, and is bad (R81,
R270).  DESIGN CHOICE (log 50): what the second fetch of a block that is bad in any case counts is not stated, and it counts
nothing. -/
def State.residentErrors (s : State) (b : Bay) (bad : List Nat) : State :=
  let l := (((s.residentBlocks b).map (·.2)).filter bad.contains).eraseDups
  (s.each l State.countUe).modBay b (fun u => { u with badBlocks := u.badBlocks ++ l })

/-- The placement bases of the content key slots. -/
def State.slotBases (s : State) : Tab Nat := (List.range 64).foldl (fun t k => t.set k (s.getO (R.SLOT_BASE + k))) []

/-- The checks have passed: the share and the locks are taken and the fill begins, resident data as it stands, under the keys of
this time (R70, R280).  `arming` is 2 where the first granule in execution order is lane-fed (R76). -/
def State.beginArming (s : State) (b : Bay) : State :=
  let s := (s.takeShare b).setB b RBay.ARM_STATUS 0
  let f := s.fetchFrom b (s.getB b RBay.START_ENTRY) 1
  let bad := s.badResident b
  let s := s.each bad (fun s a => s.countTag a 2)
  let fed := f.1.any (fun p => entResid (s.entry b p.entry) == 3)
  (s.modBay b (fun u => { u with
    arming := if fed then 2 else 1, snapshot := s.mem, loftKeys := s.keys, loftBases := s.slotBases, badBlocks := bad, ring := [], fetch := f.1, fetchSeen := f.2 })).ok

/-- An arming in progress ends in IDLE: the fill is given up, and the share and the locks are released (R34, R280). -/
def State.endArming (s : State) (b : Bay) : State := (s.clearRun b).dropShares b

/-- An arming in progress ends because the bay's clocks are not locked: ARM_STATUS CLOCK, and the event of a refusal (R13,
R35). -/
def State.armLost (s : State) (b : Bay) : State :=
  if s.bst b = BS.IDLE ∧ (s.bay b).arming ≠ 0 then
    ((s.endArming b).setB b RBay.ARM_STATUS AS.CLOCK).event (evBay b 13) AS.CLOCK
  else s

/-- Digests that differ: every other member bay refuses ARMED too, shows its own digest and LOCKSTEP_MISMATCH, and ends its
arming where one is in progress (R28). -/
def State.refuseMates (s : State) (b : Bay) : State :=
  s.each (s.lockMates b) (fun s m =>
    let s := (s.setB m RBay.TABLE_DIGEST (s.tableDigest m)).setB m RBay.ARM_STATUS AS.LOCKSTEP
    if s.bst m = BS.IDLE ∧ (s.bay m).arming ≠ 0 then (s.endArming m).event (evBay m 13) AS.LOCKSTEP else s)

/-- An arming attempt is refused (R35); on a lockstep mismatch by every member bay (R28). -/
def State.refuseArm (s : State) (b : Bay) (f : ArmFail) : State :=
  let s := if f.arm = AS.LOCKSTEP then s.refuseMates b else s
  let s := s.setB b RBay.ARM_STATUS f.arm
  let s := match f.loft with
    | some v => s.setB b RBay.ARM_DETAIL v
    | none => s
  let s := match f.cap with
    | some v => s.setB b RBay.CAP_ARM_DETAIL v
    | none => s
  (s.event (evBay b 13) f.arm).answerD f.dop f.detail

/-- What an arming attempt shows before its checks: the loft's and the rates' objects and TABLE_DIGEST (R28, R83, R209). -/
def State.armShow (s : State) (b : Bay) : State :=
  let s := (s.showLoft b).showRates b
  s.setB b RBay.TABLE_DIGEST (s.tableDigest b)

/-- STATE_REQUEST ARM: the checks in their order, and the fill (R35). -/
def State.arm (s : State) (b : Bay) : State :=
  if s.bst b ≠ BS.IDLE ∨ (s.bay b).arming ≠ 0 then s.answer ST.STATE_LOCKED
  else match (s.armShow b).armFail b with
    | some f => (s.armShow b).refuseArm b f
    | none => (s.armShow b).beginArming b

/-- A counter of a bay is loaded from CNT_RELOAD (R103). -/
def State.reloadCounters (s : State) (b : Bay) : State :=
  s.each (List.range 4) (fun s n => s.setB b (RBay.CNT_VALUE + n) (s.getB b (RBay.CNT_RELOAD + n)))

/-- The objects of a bay that its entry to ARMED clears (R83, R116, R145, R235). -/
def clearedAtArmed : List Nat :=
  [RBay.SEQ_FLAGS, RBay.VECTORS_ISSUED, RBay.UNDERRUN_COUNT, RBay.PAD_GRANULES, RBay.MICRO_FLAGS, RBay.OBJ_DROP_COUNT,
   RBay.PERIOD_RESETS, RBay.RESIDUE_DROPPED, RBay.LOST_HITS, RBay.DISCARDED_STOPS, RBay.EARLY_HITS, RBay.TIMEOUTS,
   RBay.CAL_FAILS, RBay.ARM_REFUSED, RBay.CAP_ARM_DETAIL]

/-- The format flags and counts of a channel are cleared, its minimum pulse applies, and its path holds no history (R133,
R135, R148). -/
def State.armChan (s : State) (c : Chan) : State :=
  let s := s.each [RChan.FORMAT_FLAGS, RChan.DRV_SUPPRESS_COUNT, RChan.DEN_SUPPRESS_COUNT, RChan.LATE_COUNT,
    RChan.STROBE_SUPPRESS_COUNT] (fun s o => s.setC c o 0)
  s.modChan c (fun u => { u with
    edges := [], strobes := [], lastDrv := none, lastDen := none, lastStrobe := none, minPulse := s.getC c RChan.DRV_MIN_PULSE })

/-- A bay enters ARMED: what ARMED clears is cleared, the counters are loaded, the timing check runs, capture is armed and
its share is taken, and the status of the bay's sites is cleared (R34, R102, R103, R136, R210).  LEAD_MIN, which ARMED clears and
which is the lowest lead since ARMED, starts at the present lead, not at 0 (R83). DESIGN CHOICE (log 50). -/
def State.enterArmed (s : State) (b : Bay) : State :=
  let s := s.each clearedAtArmed (fun s o => s.setB b o 0)
  let s := (((s.each (chansOf b) State.armChan).reloadCounters b).clearLatches_ b).clearFails b
  let s := s.each (s.sitesOf b) (fun s i => s.setS i RSite.SITE_STATUS 0)
  let hbm := !(s.streamsTo b true).isEmpty
  let s := (s.modBay b (fun u => { u with
    arming := 0, arms := u.arms + 1, armedAt := s.now, capShare := hbm, ustack := [], timedOut := false, noRow := 0, loadCyc := none })).showShares
  let s := ((s.timingCheck b).pkgAbort b).setState b BS.ARMED
  let s := ((s.capArm b).showSlots).driveSite b
  let n := min (s.lead b) (2 ^ 32 - 1)
  (s.setB b RBay.LEAD_NOW n).setB b RBay.LEAD_MIN n

/-- Whether an arming in progress of a kind may end now: no site change holds the bay's state (R472). -/
def State.armingNow (s : State) (b : Bay) (kind : Nat) : Bool :=
  s.bst b == BS.IDLE && (s.bay b).arming == kind && (s.bay b).holding.isNone

/-- ARM_FILL_COMPLETE: the resident area is loaded and the ring is filled (R70), the blocks of `bad` with check errors (R81); a bay
whose clocks are not locked does not enter ARMED (R13). -/
def State.armFilled (s : State) (b : Bay) (bad : List Nat) : State :=
  if !s.armingNow b 1 then s
  else if !s.clockOk b then s.armLost b
  else ((s.residentErrors b bad).fillRing b bad 16384).enterArmed b

/-- LANE_FED_ARM_READY: the ring is full or holds 1,024 granules (R76).  A prediction of fewer granules that leaves room in the ring
is never ready. DESIGN CHOICE (log 50). -/
def State.fedReady (s : State) (b : Bay) (bad : List Nat) : State :=
  let t := (s.residentErrors b bad).fillRing b bad 16384
  if !s.armingNow b 2 then s
  else if !s.clockOk b then s.armLost b
  else if t.ringFull b = true ∨ 1024 ≤ (t.bay b).ring.length then t.enterArmed b
  else s

/-! ### Starts and the end of a run (R31, R34, R66) -/

/-- A start event reaches an ARMED bay: it enters RUN, and its first vector starts two BCLK on (R34).  The vendor word that it
starts with is read; the conditions of the cycles before are those at the start. DESIGN CHOICE (log 50). -/
def State.startRun (s : State) (b : Bay) : State :=
  let s := (s.setState b BS.RUN).occur (evBay b 1)
  let s := s.modBay b (fun u => { u with
    cyc := 0, nextStart := 8000, runTime := s.now, lastPrd := none, lastEnd := 0, lastRow := none, lastInfo := {}, frozen := none,
    rows := [], cycRows := 0, cycDone := false, retiring := [], ending := false, stopReq := false, pauseReq := false,
    resumeReq := false, jump := none, usable := [], visit := 0, cmpQ := [], cycFirst := 0 })
  let s := (((s.setB b RBay.RETURN_ENTRY 0xFFFF).capRun b).toVendor b).fetched b .clean
  let s := if (s.bay b).ending then s else s.arrive b (s.getB b RBay.START_ENTRY) (s.getB b RBay.CURRENT_LVL)
  s.modBay b (fun u => { u with conds := List.replicate 3 (s.condNow b) })

/-- A start event reaches a bay: an ARMED bay starts, a bay in PAUSE resumes at the next granule boundary (R34).  An
island whose clock is stopped drops it (R14), and a bay that a site change holds keeps its state (R472). -/
def State.startBay (s : State) (b : Bay) : State :=
  if s.bayDown b then s.dropEvent b.val
  else if (s.bay b).holding.isSome then s
  else if s.bst b = BS.ARMED then s.startRun b
  else if s.bst b = BS.PAUSE then s.modBay b (fun u => { u with resumeReq := true })
  else s

/-- A start event of a site reaches its member bays (R31). -/
def State.startSite (s : State) (i : Site) : State := s.each (s.members i) State.startBay

/-- An event of a class and number starts the sites whose start event it is; which those are no object names (R31).  The
event has reached every bay already, so an island whose clock is stopped has dropped and counted it (R14). -/
def State.startBy (s : State) (cls n : Nat) : State :=
  s.each (List.finRange 64) (fun s i =>
    if s.siteKind i ≠ 0 ∧ Config.startEvent cls n i.val = true then
      s.each (s.members i) (fun s b => if s.bayDown b then s else s.startBay b)
    else s)

/-- Whether every edge and strobe of a bay's last vectors has been placed. -/
def State.landed (s : State) (b : Bay) : Bool := (chansOf b).all (fun c => (s.chan c).edges.isEmpty && (s.chan c).strobes.isEmpty)

/-- The last period and the last edge have ended: every result is registered by now, and the bay enters IDLE (R34, R66, R189). -/
def State.patternEnd (s : State) (b : Bay) : State :=
  let past := (s.bay b).ending || (s.bay b).frozen.any (fun f => decide (f < (s.bay b).cyc))
  if s.running b && past && s.landed b then
    let s := (s.registerDue b ((s.bay b).cyc + 4)).driveSite b
    ((s.endUnderrun b).capStop b).occur (evBay b 2) |>.enterIdle b
  else s

/-! ### State requests (R34) -/

/-- A state request: the module is OPERATIONAL, the bay has the request's epoch, and no site change holds its state (R38,
R472).  `off` lets a request through to a bay in OFF. -/
def State.stateRequest (s : State) (b : Bay) (epoch : BitVec 16) (off : Bool) (k : State → State) : State :=
  if !s.operational then s.answer ST.STATE_LOCKED
  else if s.bayDown b && !(off && s.bst b == BS.OFF) then s.answer ST.STATE_LOCKED
  else if epoch.toNat ≠ s.getB b RBay.SITE_EPOCH then s.stale b
  else if (s.bay b).holding.isSome then s.answer ST.STATE_LOCKED
  else k s

/-- A request allowed in some states, and refused with STATE_LOCKED in the others (R34). -/
def State.inStates (s : State) (b : Bay) (from_ : List Nat) (k : State → State) : State :=
  if from_.contains (s.bst b) then (k s).ok else s.answer ST.STATE_LOCKED

/-- Whether a bay may not leave MAINT: a customer bank load, a vendor reload or a ledger commit is in progress (R34, R86,
R418). -/
def State.maintBusy (s : State) (b : Bay) : Bool := (s.bay b).bankLoad.isSome || (s.bay b).reload || !s.ledgerQ.isEmpty

/-- STATE_REQUEST IDLE, from SAFE or MAINT (R34); not from SAFE before a hold-up check has passed (R446). -/
def State.toIdle (s : State) (b : Bay) : State :=
  if s.bst b = BS.SAFE ∧ s.holdupOk = false then s.answer ST.HOLDUP_LOW
  else if s.bst b = BS.SAFE then (if s.locked b.val ∧ (s.bay b).fine = true then ((s.inhibitBay b 6 false).enterIdle b).ok else s.answer ST.STATE_LOCKED)
  else if s.bst b = BS.MAINT then
    if s.maintBusy b then s.answer ST.STATE_LOCKED else ((s.assayAbort b).enterIdle b).ok
  else s.answer ST.STATE_LOCKED

/-- STATE_REQUEST DISARM: of an armed bay, or of an arming in progress (R34, R76). -/
def State.disarm (s : State) (b : Bay) : State :=
  if s.bst b = BS.ARMED then ((s.capStop b).enterIdle b).ok
  else if s.bst b = BS.IDLE ∧ (s.bay b).arming ≠ 0 then (s.endArming b).ok
  else s.answer ST.STATE_LOCKED

/-- A host start token: to a QUAD or BAY site only, whose bay is ARMED or in PAUSE (R31, R34). -/
def State.hostStart (s : State) (i : Site) (epoch : BitVec 16) : State :=
  if !s.operational then s.answer ST.STATE_LOCKED
  else if s.siteKind i = 0 ∨ 3 ≤ s.siteKind i then s.answer ST.STATE_LOCKED
  else match (s.members i).head? with
    | none => s.answer ST.STATE_LOCKED
    | some b => s.hostBay b epoch (fun s => s.inStates b [BS.ARMED, BS.PAUSE] (fun s => s.startBay b))

/-! ### Exclusive resources (R46, R47) -/

/-- A claim of a resource for a feature (R46, R47).  The owner itself may claim the resource again for another feature, which then
replaces the first: the rule refuses another owner only. DESIGN CHOICE (log 50). -/
def State.claimWrite (s : State) (r : Resource) (owner feature : Nat) : State :=
  if r = .timeShared then s.answer ST.ACCESS_DENIED
  else if (claimFeatures r).contains feature = false then s.answer ST.OUT_OF_RANGE
  else if (claimBay r).any (fun b => s.bayDown b) = true then s.answer ST.STATE_LOCKED
  else match s.claim r with
    | some c => if c.owner ≠ owner then s.answerD ST.RESOURCE_CLAIMED (claimDetail c) else (s.setClaim r owner feature).ok
    | none => (s.setClaim r owner feature).ok

/-- A release of the spare path hands the substituted channel back (R154, R408). -/
def State.releaseSpare (s : State) (r : Resource) : State :=
  match r with
  | .sparePath b => (s.rollAbort b).ownPath b
  | _ => s

/-- A write of a resource's release object (R46). -/
def State.releaseWrite (s : State) (r : Resource) : State :=
  if r = .timeShared then s.answer ST.ACCESS_DENIED
  else if (claimBay r).any (fun b => s.bayDown b) = true then s.answer ST.STATE_LOCKED
  else ((s.releaseSpare r).freeClaim r).ok

/-! ### Events that reach the bays (R14, R29 to R31, R62, R102, R160, R201) -/

/-- A latched condition of a bay becomes true (R102). -/
def State.latch (s : State) (b : Bay) (n : Nat) : State := s.modBay b (fun u => { u with latched := orBit u.latched n })

/-- A ridge line's change reaches a bay (R29): an assertion posts RIDGE_JUMP's request, issues the LOAD that LOAD_RIDGE
names, and may be the trigger. -/
def State.ridgeAt (s : State) (b : Bay) (line : Nat) (level : Bool) : State :=
  if s.bayDown b then s.dropEvent b.val
  else if !level then s
  else
    let j := s.getB b RBay.RIDGE_JUMP
    let s := if j.testBit 31 ∧ j % 32 = line ∧ s.running b = true then s.postJump b 1 (fieldOf j 5 13) else s
    let l := s.getB b RBay.LOAD_RIDGE
    let s := if l.testBit 7 ∧ l % 32 = line then s.load b else s
    s.edgeTrigger b 4 line 31

/-- Whether a change of a ridge line comes about: the first change on its way, driven by a bay's port or a TPG or formed by the
crossbar of the site conditions (R29). -/
def State.ridgeComes (s : State) (line : Fin 32) (level : Bool) : Bool :=
  (s.ridgeWay.find? (fun w => w.1 == line.val)).any (fun w => w.2 == level)

/-- A ridge line's change reaches every bay, and starts the sites it starts (R29, R31). -/
def State.ridgeEvent (s : State) (line : Fin 32) (level : Bool) : State :=
  if !s.ridgeComes line level then s
  else
    let s := { s with ridge := putBit s.ridge line.val level, ridgeWay := s.ridgeWay.erase (line.val, level) }
    let s := s.each (List.finRange 16) (fun s b => s.ridgeAt b line.val level)
    if level then s.startBy 0 line.val else s

/-- An edge of a TRIG land reaches the bays (R102, R201); a land as trigger source is held for CAPTURE_TRIGGER. -/
def State.trigEdge (s : State) (n : Fin 8) : State :=
  let s := s.each (List.finRange 16) (fun s b =>
    if s.bayDown b then s.dropEvent b.val
    else
      let s := s.latch b (0x40 + n.val)
      if s.claimedFor (.trig n) 0x05 then s.edgeTrigger b 5 n.val 7 else s)
  s.startBy 2 n.val

/-- An event at a member bay of a site: what it does there, or dropped and counted where the bay's clock is stopped (R14). -/
def State.atMembers (s : State) (i : Site) (k : State → Bay → State) : State :=
  s.each (s.members i) (fun s b => if s.bayDown b then s.dropEvent b.val else k s b)

/-- A fail of another module reaches a member bay: with STOP_ON_FAIL set, and in a vector whose entry has SOFD clear, it
freezes with the rest of the site, 28 BCLK after the strobe cycle, of which 24 lie on the purlin (R30, R189). -/
def State.purlinFreeze (s : State) (b : Bay) : State :=
  if s.getB b RBay.STOP_ON_FAIL = 1 ∧ (s.bay b).lastInfo.sofd = false then s.freezeAt b (s.bay b).cyc else s

/-- A purlin event acts on a MULTI_MODULE site's bays of this module (R30): start, stop, and the site conditions of the other
modules, which the chain combines with this module's own. -/
def State.purlinEvent (s : State) (i : Site) (k : PurlinKind) : State :=
  if s.siteKind i ≠ 4 then s
  else match k with
    | .start => s.startSite i
    | .stop => s.atMembers i (fun s b => if s.running b then s.modBay b (fun u => { u with stopReq := true }) else s)
    | .siteFail v =>
      let s := { s with purlin := s.purlin.set i.val (putBit (s.purlin.get i.val 0) 0 v) }
      s.atMembers i (fun s b => if v then s.purlinFreeze b else s)
    | .siteMatch v =>
      { s with purlin := s.purlin.set i.val (putBit (s.purlin.get i.val 0) 1 v) }.atMembers i (fun s _ => s)

/-! ### The bay clock (R12, R13) -/

/-- A BCLK change, in IDLE or MAINT (R12); a limit that would not fit is refused (R146), a rolling step ends
(R409), and so does an arming in progress (R13). -/
def State.changeBclk (s : State) (b : Bay) (mhz : Nat) : State :=
  let tooWide := (chansOf b).any (fun c => decide (16777215 < roundDiv ((s.getC c RChan.DRV_MIN_PULSE : Int) * mhz) 1000))
  if !s.quiet b then s.answer ST.STATE_LOCKED
  else if mhz < 500 ∨ 1000 < mhz ∨ tooWide = true then s.answer ST.OUT_OF_RANGE
  else
    let s := ((s.rollAbort b).armLost b).setO R.LOCK_MASK (clrBit (s.getO R.LOCK_MASK) b.val)
    let s := s.modRoll b (fun r => { r with path := 0, roundAt := s.now, due := s.now })
    (s.modBay b (fun u => { u with relock := some mhz })).ok

/-! ### Meanings -/

/-- STATE_REQUEST_OFF (R34). -/
def execStateRequestOff (b : Bay) (epoch : BitVec 16) (s : State) : Host.Outcome State Fault Refusal :=
  .next (s.stateRequest b epoch false (fun s => s.inStates b [BS.SAFE] (fun s => s.enterOff b)))

/-- STATE_REQUEST_SAFE (R34): from any state; from OFF with the stores cleared. -/
def execStateRequestSafe (b : Bay) (epoch : BitVec 16) (s : State) : Host.Outcome State Fault Refusal :=
  .next (s.stateRequest b epoch true (fun s => if s.bst b = BS.OFF then (s.leaveOff b true).ok else (s.enterSafe b).ok))

/-- STATE_REQUEST_IDLE (R34). -/
def execStateRequestIdle (b : Bay) (epoch : BitVec 16) (s : State) : Host.Outcome State Fault Refusal :=
  .next (s.stateRequest b epoch false (fun s => s.toIdle b))

/-- STATE_REQUEST_MAINT (R34, R48). -/
def execStateRequestMaint (b : Bay) (epoch : BitVec 16) (s : State) : Host.Outcome State Fault Refusal :=
  .next (s.stateRequest b epoch false (fun s => s.inStates b [BS.IDLE] (fun s => s.enterMaint b)))

/-- STATE_REQUEST_PAUSE (R34): at the next granule boundary. -/
def execStateRequestPause (b : Bay) (epoch : BitVec 16) (s : State) : Host.Outcome State Fault Refusal :=
  .next (s.stateRequest b epoch false (fun s =>
    s.inStates b [BS.RUN] (fun s => s.modBay b (fun u => { u with pauseReq := true }))))

/-- STATE_REQUEST_RUN (R34): a resume at the next granule boundary. -/
def execStateRequestRun (b : Bay) (epoch : BitVec 16) (s : State) : Host.Outcome State Fault Refusal :=
  .next (s.stateRequest b epoch false (fun s =>
    s.inStates b [BS.PAUSE] (fun s => s.modBay b (fun u => { u with resumeReq := true }))))

/-- STATE_REQUEST_ARM (R35). -/
def execStateRequestArm (b : Bay) (epoch : BitVec 16) (s : State) : Host.Outcome State Fault Refusal :=
  .next (s.stateRequest b epoch false (fun s => s.arm b))

/-- STATE_REQUEST_DISARM (R34). -/
def execStateRequestDisarm (b : Bay) (epoch : BitVec 16) (s : State) : Host.Outcome State Fault Refusal :=
  .next (s.stateRequest b epoch false (fun s => s.disarm b))

/-- STATE_REQUEST_STOP (R34): at the next granule boundary. -/
def execStateRequestStop (b : Bay) (epoch : BitVec 16) (s : State) : Host.Outcome State Fault Refusal :=
  .next (s.stateRequest b epoch false (fun s =>
    s.inStates b [BS.RUN, BS.PAUSE] (fun s => s.modBay b (fun u => { u with stopReq := true }))))

/-- ARM_FILL_COMPLETE (R70): `bad` names the blocks whose check fails in the fill. -/
def execArmFillComplete (b : Bay) (bad : List Nat) (s : State) : Host.Outcome State Fault Refusal := .next (s.armFilled b bad)

/-- LANE_FED_ARM_READY (R76). -/
def execLaneFedArmReady (b : Bay) (bad : List Nat) (s : State) : Host.Outcome State Fault Refusal := .next (s.fedReady b bad)

/-- HOST_START (R31). -/
def execHostStart (site : Site) (epoch : BitVec 16) (s : State) : Host.Outcome State Fault Refusal := .next (s.hostStart site epoch)

/-- PATTERN_END (R66). -/
def execPatternEnd (b : Bay) (s : State) : Host.Outcome State Fault Refusal := .next (s.patternEnd b)

/-- QUAD_RETIRE (R27): a host request for the quads of `host` that becomes usable in the present cycle is registered there;
at a granule boundary the quads retire whose cause was registered four cycles ago or more.  The request needs the bay's
clock (R14). DESIGN CHOICE (log 43): the spec names no object for it. -/
def execQuadRetire (b : Bay) (host : BitVec 4) (s : State) : Host.Outcome State Fault Refusal :=
  let s := if s.running b && !s.bayDown b && host != 0#4 then s.retireSoon b host.toNat else s
  .next (if s.running b && s.atGranule b then s.retireDue b else s)

/-- A configuration write that claims or releases a resource: refused while no control core is active (R22), and at a bay's
resource judged by the bay's clock and epoch (R14, R38). -/
def State.hostClaim (s : State) (r : Resource) (epoch : BitVec 16) (k : State → State) : State :=
  s.hostFirm (fun s => match claimBay r with
    | some b => s.hostBay b epoch k
    | none => k s)

/-- RESOURCE_CLAIM (R38, R46, R47). -/
def execResourceClaim (r : Resource) (epoch : BitVec 16) (feature : BitVec 8) (owner : BitVec 12) (s : State) :
    Host.Outcome State Fault Refusal :=
  .next (s.hostClaim r epoch (fun s => s.claimWrite r owner.toNat feature.toNat))

/-- RESOURCE_RELEASE (R38, R46). -/
def execResourceRelease (r : Resource) (epoch : BitVec 16) (s : State) : Host.Outcome State Fault Refusal :=
  .next (s.hostClaim r epoch (fun s => s.releaseWrite r))

/-- RIDGE_EVENT (R29, R62). -/
def execRidgeEvent (line : Fin 32) (level : Bool) (s : State) : Host.Outcome State Fault Refusal := .next (s.ridgeEvent line level)

/-- PURLIN_EVENT (R30). -/
def execPurlinEvent (site : Site) (kind : PurlinKind) (s : State) : Host.Outcome State Fault Refusal := .next (s.purlinEvent site kind)

/-- TRIG_EDGE (R102, R201): an edge of either polarity. DEDUCED (log 33). -/
def execTrigEdge (n : Fin 8) (_rising : Bool) (s : State) : Host.Outcome State Fault Refusal := .next (s.trigEdge n)

/-- BCLK_CHANGE (R12, R22, R146). -/
def execBclkChange (b : Bay) (epoch : BitVec 16) (mhz : Nat) (s : State) : Host.Outcome State Fault Refusal :=
  .next (s.hostBayFirm b epoch (fun s => s.changeBclk b mhz))

/-- CLOCK_UNLOCK (R13): the BCLK PLL or the fine clock of a bay whose clock runs loses lock; lost in RUN it is reported, and
an arming in progress ends.
The clock relocks at the frequency it had. -/
def execClockUnlock (b : Bay) (fine : Bool) (s : State) : Host.Outcome State Fault Refusal :=
  .next (
    if s.bayDown b || (fine && !(s.bay b).fine) then s
    else
      let inRun := s.bst b == BS.RUN
      let s := ((s.armLost b).unlock b fine).modBay b (fun u => { u with relock := some u.mhz })
      if inRun then s.fault (0x110 + b.val) 0x28 (if fine then 2 else 1) else s)

end Sys2Proof.Machine
end

