-- ==== Sys2Proof/Machine/Bench.lean ====
section
/-! DEFINITION. Kernel graphs, the work scheduler with its matching store, and the result benches (R236 to R267).  What a
kernel computes is its firmware's, so a firing's outputs are operands of WORK_COMPLETE, within the kernel's row (R244). -/

namespace Sys2Proof.Machine

/-! ### Definitions of a graph (R245, R246) -/

/-- The key of a graph's object at 8gg0, gg being the graph plus 10 (R245). -/
def keyG (g : Nat) (sub : Nat) : Nat := key (0x8100 + 16 * g) sub
/-- An object of a graph. -/
def State.getG (s : State) (g sub : Nat) : Nat := s.getO (keyG g sub)
/-- The state with an object of a graph written. -/
def State.setG (s : State) (g sub v : Nat) : State := s.setO (keyG g sub) v
/-- One more on a saturating count of a graph. -/
def State.addG (s : State) (g sub n : Nat) : State := s.setG g sub (satAdd 32 (s.getG g sub) n)
/-- The key of a bench's object, 8600 + n. -/
def keyBench (n : Nat) (sub : Nat) : Nat := key (0x8600 + n) sub

/-- GRAPH_STATE values (R267). -/
abbrev GS.LOADED : Nat := 1
/-- RUNNING -/
abbrev GS.RUNNING : Nat := 2
/-- DRAINING -/
abbrev GS.DRAINING : Nat := 3
/-- STOPPED -/
abbrev GS.STOPPED : Nat := 4
/-- SITE_STALE -/
abbrev GS.SITE_STALE : Nat := 5

/-- A node's descriptor, as a number (R246). -/
def State.node (s : State) (g n : Nat) : Nat := ofBytes (slice (s.doms.get (keyG g RGraph.NODE_TABLE) []) (16 * n) 16)
/-- KERNEL of a descriptor. -/
abbrev ndKernel (d : Nat) : Nat := fieldOf d 0 8
/-- MIN_VERSION -/
abbrev ndVersion (d : Nat) : Nat := fieldOf d 8 8
/-- The number of inputs. -/
abbrev ndInputs (d : Nat) : Nat := fieldOf d 16 2 + 1
/-- STATEFUL -/
abbrev ndStateful (d : Nat) : Bool := d.testBit 18
/-- PRIORITY -/
abbrev ndPriority (d : Nat) : Nat := fieldOf d 19 2
/-- OUT_BYTES -/
abbrev ndOut (d : Nat) : Nat := fieldOf d 32 32
/-- STATE_BYTES -/
abbrev ndState (d : Nat) : Nat := fieldOf d 96 32

/-- The nodes of a graph that are used, with their descriptors. -/
def State.nodes (s : State) (g : Nat) : List (Nat × Nat) :=
  let t := s.doms.get (keyG g RGraph.NODE_TABLE) []
  ((List.range (min (t.length / 16) 255)).map (fun n => (n, s.node g n))).filter (fun p => ndKernel p.2 ≠ 0)

/-- The edge entries of a graph in use (R245). -/
def State.edges (s : State) (g : Nat) : List Nat :=
  ((chunks 8 1024 (s.doms.get (keyG g RGraph.EDGE_TABLE) [])).map ofBytes).filter (fun e => e.testBit 31)
/-- The destinations of a node's output port (R240). -/
def State.dests (s : State) (g n port : Nat) : List (Nat × Nat) :=
  ((s.edges g).filter (fun e => fieldOf e 0 8 = n ∧ fieldOf e 8 2 = port)).map (fun e => (fieldOf e 16 8, fieldOf e 24 2))

/-- A source binding's entry (R245). -/
def State.binding (s : State) (g i : Nat) : Nat := ofBytes (slice (s.doms.get (keyG g RGraph.BINDINGS) []) (8 * i) 8)
/-- TYPE of a binding in use, 0 otherwise. -/
def bnType (e : Nat) : Nat := if e.testBit 31 then fieldOf e 0 4 else 0
/-- SOURCE -/
abbrev bnSource (e : Nat) : Nat := fieldOf e 4 16
/-- DST_NODE -/
abbrev bnNode (e : Nat) : Nat := fieldOf e 20 8
/-- DST_PORT -/
abbrev bnPort (e : Nat) : Nat := fieldOf e 28 2

/-- Whether a node port exists in a graph. -/
def State.hasPort (s : State) (g n port : Nat) : Bool :=
  let d := s.node g n
  decide (n < 255) && ndKernel d ≠ 0 && decide (port < ndInputs d)

/-! ### Benches (R236, R264) -/

/-- BENCH_STATE values (R264). -/
abbrev BN.RUNNING : Nat := 1
/-- DRAINING -/
abbrev BN.DRAINING : Nat := 2
/-- DRAINED -/
abbrev BN.DRAINED : Nat := 3
/-- LOADING -/
abbrev BN.LOADING : Nat := 4
/-- FAULTED -/
abbrev BN.FAULTED : Nat := 5

/-- What a bench holds beside its objects. -/
def State.bench (s : State) (n : Bench) : BenchU := s.benches.get n
/-- A change of what a bench holds. -/
def State.modBench (s : State) (n : Bench) (f : BenchU → BenchU) : State :=
  { s with benches := s.benches.set n.val (f (s.benches.get n)) n.isLt }
/-- A bench's state. -/
def State.benchState (s : State) (n : Bench) : Nat := s.getO (keyBench n.val RBench.BENCH_STATE)
/-- A core of a bench. -/
def State.core (s : State) (n : Bench) (c : Fin 16) : Core := (s.bench n).cores.get c
/-- A change of a core. -/
def State.modCore (s : State) (n : Bench) (c : Fin 16) (f : Core → Core) : State :=
  s.modBench n (fun u => { u with cores := u.cores.set c.val (f (u.cores.get c)) c.isLt })
/-- Every core of the module, in order. -/
def allCores : List (Bench × Fin 16) := (List.finRange 12).flatMap (fun n => (List.finRange 16).map (fun c => (n, c)))
/-- A core's number in the module. -/
def coreNo (n : Bench) (c : Fin 16) : Nat := n.val * 16 + c.val
/-- The work a core holds, running first. -/
def Core.works (c : Core) : List Work := c.running.toList ++ c.queue

/-- Whether a release of the bench firmware holds a kernel: release 3 the ten of the kernel catalogue (R244). -/
def releaseHolds (release k : Nat) : Bool :=
  if release = 3 then decide (1 ≤ k ∧ k ≤ 10) else Config.kernelVersion (BitVec.ofNat 32 release) k ≠ 0

/-- Whether a bench holds a node's kernel at MIN_VERSION or later (R246, R265). -/
def State.holdsKernel (s : State) (n : Bench) (d : Nat) : Bool :=
  let r := s.getO (keyBench n.val RBench.BENCH_CATALOGUE)
  releaseHolds r (ndKernel d) && (ndVersion d == 0 || decide (ndVersion d ≤ Config.kernelVersion (BitVec.ofNat 32 r) (ndKernel d)))

/-- Whether a bench of a graph's mask is RUNNING. -/
def State.serves (s : State) (g : Nat) (n : Bench) : Bool :=
  (s.getG g RGraph.BENCH_MASK).testBit n.val && s.benchState n == BN.RUNNING

/-- Whether a graph's items find a bench: its home bench runs, or another of its mask runs that carries each of its kernels
(R265). -/
def State.carried (s : State) (g : Nat) : Bool :=
  (List.finRange 12).any (fun n => s.serves g n &&
    (decide (n.val = s.getG g RGraph.HOME_BENCH) || (s.nodes g).all (fun p => s.holdsKernel n p.2)))

/-- The home bench of a graph. -/
def State.home (s : State) (g : Nat) : Bench := Fin.ofNat 12 (s.getG g RGraph.HOME_BENCH)

/-- CATALOGUE_VERSION and KERNEL_COUNT follow the RUNNING benches: the lowest release held (R267). -/
def State.showCatalogue (s : State) : State :=
  let held := ((List.finRange 12).filter (fun n => s.benchState n == BN.RUNNING)).map (fun n => s.getO (keyBench n.val RBench.BENCH_CATALOGUE))
  match held.min? with
  | some v => (s.setO R.CATALOGUE_VERSION v).setO R.KERNEL_COUNT (if v = 3 then 10 else (Config.kernelCount (BitVec.ofNat 32 v)).toNat)
  | none => s

/-- A bench's state, with the catalogue following it. -/
def State.setBench (s : State) (n : Bench) (st : Nat) : State := (s.setO (keyBench n.val RBench.BENCH_STATE) st).showCatalogue

/-! ### The kernel catalogue of release 3 (R244) -/

/-- A row of the catalogue: the most inputs, whether there is output 1, and Stateful. -/
structure KernelRow where
  ins      : Nat
  out1     : Bool
  stateful : Bool

/-- The rows of the catalogue of release 3 (R244). -/
def kernelRow : Nat → Option KernelRow
  | 1 => some ⟨1, false, true⟩
  | 2 => some ⟨1, true, false⟩
  | 3 => some ⟨4, false, false⟩
  | 4 => some ⟨1, true, true⟩
  | 5 => some ⟨1, false, true⟩
  | 6 => some ⟨1, false, false⟩
  | 7 => some ⟨4, false, true⟩
  | 8 => some ⟨1, false, false⟩
  | 9 => some ⟨1, false, true⟩
  | 10 => some ⟨1, false, false⟩
  | _ => none

/-- The row of a node's kernel in the catalogue a bench holds; of another release than 3 the spec gives none. -/
def State.rowOn (s : State) (n : Bench) (d : Nat) : Option KernelRow :=
  if s.getO (keyBench n.val RBench.BENCH_CATALOGUE) = 3 then kernelRow (ndKernel d) else none

/-- Whether a descriptor keeps the row of its kernel: no input the kernel lacks, and STATEFUL as the catalogue gives it (R246). -/
def State.rowKept (s : State) (n : Bench) (d : Nat) : Bool :=
  match s.rowOn n d with
  | some r => decide (ndInputs d ≤ r.ins) && r.stateful == ndStateful d
  | none => true

/-- A node's parameter block (R246). -/
def State.params (s : State) (g n : Nat) : Bytes :=
  slice (s.doms.get (keyG g RGraph.PARAMS) []) (fieldOf (s.node g n) 64 16) (fieldOf (s.node g n) 80 16)

/-- What an output of a kernel of release 3 may be: the ports of its row, a buffer where the row gives one, the verdict codes of
REDUNDANCY, and another SEQ than the firing's from SEARCH alone, which counts up to 65,536 steps (R239, R244). -/
def outFits (k : Nat) (o : WorkOut) : Bool :=
  ((kernelRow k).any (fun r => r.out1) || o.port == 0) &&
  (match o.seq with
  | some q => k == 4 && decide (q.toNat ≤ 65536)
  | none => true) &&
  (match k with
  | 1 | 7 | 8 | 9 => o.buf
  | 2 => if o.port = 0 then o.buf else !o.buf && decide (o.value.toNat ≤ 2)
  | 3 | 6 | 10 => !o.buf
  | _ => true)

/-- The bin of a BIN firing: the first of its up to 64 rules that matches gives it (R244). -/
def State.binOf (s : State) (w : Work) : Option Nat :=
  let p := s.params w.graph w.node
  ((List.range 64).find? (fun i => Config.binRule p i (w.ops.map (fun o => (o.1, o.2.1))))).map (fun i => (Config.binNumber p i).toNat)

/-- Whether a request writes a value, in the width of its object. -/
def writesValue (v : Nat) : ObjReq → Bool
  | .write i => i.value == toBytes i.value.length v
  | .read .. => false

/-- Whether a firing's result is one its kernel of release 3 can give: outputs of its row, one verdict of LIMIT on its input, and
of BIN the bin of its first matching rule, written to an object as well (R244; log 14). -/
def State.rowResult (s : State) (w : Work) (outs : List WorkOut) (reqs : List ObjReq) : Bool :=
  let k := ndKernel (s.node w.graph w.node)
  outs.all (outFits k) &&
  (match k with
  | 6 => outs.map (fun o => o.value.toNat) == (w.ops.take 1).map (fun o => (Config.limitVerdict (s.params w.graph w.node) o.2.1).val)
  | 3 => (match s.binOf w with
    | some v => outs.map (fun o => o.value.toNat) == [v] && reqs.any (writesValue v)
    | none => outs.isEmpty)
  | _ => true)

/-- Whether a firing's result fits its node: what its kernel can give, and instance state of STATE_BYTES (R242, R244). -/
def State.resultFits (s : State) (n : Bench) (w : Work) : WorkResult → Bool
  | .error .. => true
  | .done outs reqs _ inst =>
    let d := s.node w.graph w.node
    (!ndStateful d || inst.all (fun v => v.length == ndState d)) && ((s.rowOn n d).isNone || s.rowResult w outs reqs)

/-! ### The pool (R240, R242, R243) -/

/-- The bytes of a graph's pool in use: instance state, reservations and buffers. -/
def State.poolUsed (s : State) (g : Nat) : Nat :=
  let res := (allCores.flatMap (fun p => (s.core p.1 p.2).works)).filter (fun w => w.graph == g)
  (((s.nodes g).filter (fun p => ndStateful p.2)).map (fun p => ndState p.2)).sum + (res.map Work.res).sum +
    ((s.bufs.filter (fun b => b.graph == g)).map PoolBuf.size).sum
/-- The bytes of a graph's pool that are free. -/
def State.poolFree (s : State) (g : Nat) : Nat := s.getG g RGraph.POOL_SIZE - s.poolUsed g

/-- ADDR of a buffer reference, in 64-byte blocks (R239). -/
abbrev refAddr (v : Nat) : Nat := fieldOf v 0 42
/-- The size in bytes of a buffer reference's buffer. -/
abbrev refSize (v : Nat) : Nat := fieldOf v 42 22 * 64

/-- One copy of a buffer reference is consumed; the last returns the buffer to the pool (R240). -/
def State.dropRef (s : State) (g value : Nat) : State :=
  { s with bufs := (s.bufs.map (fun b =>
      if b.graph = g ∧ b.addr = refAddr value then { b with refs := b.refs - 1 } else b)).filter (fun b => b.refs ≠ 0) }

/-- Copies of a buffer reference pass on: a buffer that the pool holds already has its copies raised (R240). -/
def State.addRef (s : State) (g value copies : Nat) : State :=
  if s.bufs.any (fun b => b.graph == g && b.addr == refAddr value) then
    { s with bufs := s.bufs.map (fun b =>
        if b.graph = g ∧ b.addr = refAddr value then { b with refs := b.refs + copies } else b) }
  else if copies = 0 then s
  else { s with bufs := s.bufs ++ [(⟨g, refAddr value, refSize value, copies⟩ : PoolBuf)] }

/-- The buffers among a work item's operands are consumed. -/
def State.consumeOps (s : State) (w : Work) : State := s.each (w.ops.filter (fun o => o.2.2)) (fun s o => s.dropRef w.graph o.2.1)
/-- Operands are discarded: their buffers return, and DISCARDED_OPERANDS counts them. -/
def State.discard (s : State) (t : List Token) : State :=
  s.each t (fun s t => (if t.buf then s.dropRef t.graph t.value else s).addG t.graph RGraph.DISCARDED_OPERANDS 1)
/-- A work item's operands as tokens. -/
def Work.tokens (w : Work) : List Token := w.ops.map (fun o => ⟨w.graph, w.node, o.1, w.seq, o.2.1, o.2.2⟩)

/-! ### Node errors (R241, R266) -/

/-- The key of a node's status, 8gg1. -/
def keyNode (g n : Nat) : Nat := key (0x8101 + 16 * g) (n + 1)

/-- A node's error with no edge on port 3: its status counts it, and the graph raises GRAPH_ERROR (R241). -/
def State.countError (s : State) (g n code : Nat) : State :=
  let v := s.getO (keyNode g n)
  let s := s.setO (keyNode g n) (code + 256 * satAdd 24 (v / 256) 1)
  s.event (1856 + g) (n + code * 256)

/-! ### The matching store (R248, R249) -/

/-- The occupied operand slots: operands, and the complete firings that found their ready queue full. -/
def State.storeUsed (s : State) : Nat := s.store.length + (s.waiting.map (fun w => w.ops.length)).sum

/-- The work items that wait: in ready queues, in local queues and in the store (R249). -/
def State.pendingItems (s : State) : Nat :=
  ((List.finRange 12).map (fun b => (s.bench b).ready.length)).sum + (allCores.map (fun p => (s.core p.1 p.2).queue.length)).sum +
    s.waiting.length

/-- The firings that run or wait anywhere. -/
def State.firings (s : State) : List Work :=
  (List.finRange 12).flatMap (fun b => (s.bench b).ready) ++ allCores.flatMap (fun p => (s.core p.1 p.2).works) ++ s.waiting

/-- Whether a key of the store is filled. -/
def State.filled (s : State) (t : Token) : Bool :=
  s.store.any (fun o => o.graph == t.graph && o.node == t.node && o.port == t.port && o.seq == t.seq) ||
  s.waiting.any (fun w => w.graph == t.graph && w.node == t.node && w.seq == t.seq)

/-- The operands that would complete a token's firing, none while one is missing. -/
def State.completes (s : State) (t : Token) : Option (List Token) :=
  let others := s.store.filter (fun o => o.graph == t.graph && o.node == t.node && o.seq == t.seq && o.port ≠ t.port)
  if others.length + 1 = ndInputs (s.node t.graph t.node) then some others else none

/-- Whether a graph's home bench has room in its ready queue. -/
def State.readyRoom (s : State) (g : Nat) : Bool := decide ((s.bench (s.home g)).ready.length < 1024)

/-- A complete firing enters the ready queue of its graph's home bench, or waits in the store (R248, R249). -/
def State.fire (s : State) (w : Work) : State :=
  let w := { w with no := s.fireNo }
  let s := { s with lastFired := s.now, fireNo := s.fireNo + 1 }
  if s.readyRoom w.graph then s.modBench (s.home w.graph) (fun u => { u with ready := u.ready ++ [w] })
  else { s with waiting := s.waiting ++ [w] }

/-- A collision: the token is discarded, counted and reported (R248). -/
def State.collide (s : State) (t : Token) : State := (s.discard [t]).fault 0x1E0 0x58 t.graph

/-- A token enters the matching store (R248); none where the store has no slot for it, or its firing would be one more than the
65,536 work items that may be pending (R2, R249; log 57). -/
def State.takeToken (s : State) (t : Token) : Option State :=
  if s.filled t then some (s.collide t)
  else
    let full := decide (65536 ≤ s.storeUsed)
    match s.completes t with
    | some others =>
      let one := ndInputs (s.node t.graph t.node) == 1
      if (full && !(one && s.readyRoom t.graph)) || decide (65536 ≤ s.pendingItems) then none
      else
        let ops := (List.range 4).filterMap (fun p => ((t :: others).find? (fun o => o.port == p)).map (fun o => (p, o.value, o.buf)))
        some ({ s with store := s.store.filter (fun o => !others.contains o) }.fire
          { graph := t.graph, node := t.node, seq := t.seq, ops := ops })
    | none => if full then none else some { s with store := s.store ++ [t] }

/-- Whether the scheduler accepts a token from a source outside the graphs (R254, R259, R261, R265). -/
def State.accepts (s : State) (t : Token) : Bool :=
  s.getG t.graph RGraph.GRAPH_STATE == GS.RUNNING && decide (s.storeUsed < s.getO R.SOURCE_LIMIT) && s.carried t.graph &&
    ((s.completes t).isNone || s.readyRoom t.graph)

/-- A token from a source outside the graphs, where the scheduler accepts it. -/
def State.outside (s : State) (t : Token) : Option State := if s.accepts t then s.takeToken t else none

/-! ### What follows a change (R249, R254, R256) -/

/-- The complete firings that wait enter their ready queues as space frees, in the order they completed (R249). -/
def State.enterReady (s : State) : State :=
  let w := s.waiting
  { s with waiting := [] }.each w (fun s w =>
    if s.readyRoom w.graph && !s.waiting.any (fun v => s.home v.graph == s.home w.graph) then
      s.modBench (s.home w.graph) (fun u => { u with ready := u.ready ++ [w] })
    else { s with waiting := s.waiting ++ [w] })

/-- A core starts an item: WORK_LIMIT bounds it from here (R237). -/
def State.startWork (s : State) (n : Bench) (c : Fin 16) (w : Work) : State :=
  let s := s.modCore n c (fun u => { u with running := some w, due := s.now + w.limit * 1000000 })
  { s with lastCore := s.lastCore.set (w.graph * 256 + w.node) (coreNo n c + 1) }

/-- A free core takes the next item of its local queue, unless an output of the item before still waits in its output buffer
(R236, R256). -/
def State.nextWork (s : State) (n : Bench) (c : Fin 16) : State :=
  if (s.core n c).running.isSome || s.blocked.any (fun p => p.1 == coreNo n c) then s
  else match (s.core n c).queue with
    | [] => s
    | w :: ws => (s.modCore n c (fun u => { u with queue := ws })).startWork n c w

/-- The outputs that found no slot are posted as slots free, and a core whose outputs are posted goes on (R256). -/
def State.postBlocked (s : State) : State :=
  let o := s.blocked
  let s := { s with blocked := [] }.each o (fun s p => match s.takeToken p.2 with
    | some t => t
    | none => { s with blocked := s.blocked ++ [p] })
  s.each o (fun s p => if p.1 < 192 then s.nextWork (Fin.ofNat 12 (p.1 / 16)) (Fin.ofNat 16 p.1) else s)

/-- A post that has waited ends: the session whose WRITE holds it goes on, or the post's own command is answered (R254). -/
def State.postEnd (s : State) (sid : Option Nat) (status detail : Nat) : State :=
  match sid with
  | some i => { s with postEnds := s.postEnds ++ [(i, status, detail)] }
  | none => s.answerD status detail

/-- Host posts that wait in the command path are accepted as they can be; one whose graph has taken another epoch meanwhile is
dropped as stale (R254, R260). -/
def State.postHost (s : State) : State :=
  let p := s.hostPosts
  { s with hostPosts := [] }.each p (fun s p =>
    let e := s.getG p.tok.graph RGraph.GRAPH_EPOCH
    if p.epoch ≠ e then (s.addG p.tok.graph RGraph.STALE_COUNT 1).postEnd p.sid ST.STALE_EPOCH (e * 2 ^ 16)
    else match s.outside p.tok with
      | some t => t.postEnd p.sid ST.OK 0
      | none => { s with hostPosts := s.hostPosts ++ [p] })

/-- What a change of the store lets in, until nothing more comes in; the fuel bounds the rounds. -/
def State.settle (s : State) : Nat → State
  | 0 => s
  | n + 1 =>
    let t := s.enterReady.postBlocked.postHost
    if t.waiting.length = s.waiting.length ∧ t.blocked.length = s.blocked.length ∧ t.hostPosts.length = s.hostPosts.length then t
    else t.settle n

/-- The scheduler's objects follow its store, queues and lists (R267). -/
def State.showSched (s : State) : State :=
  let n := s.storeUsed
  let s := (s.setO R.STORE_USED n).setO R.STORE_PEAK (max n (s.getO R.STORE_PEAK))
  let s := s.setO R.PENDING_ITEMS s.pendingItems
  let s := s.each (List.finRange 12) (fun s b => s.setO (keyBench b.val RBench.READY_DEPTH) (s.bench b).ready.length)
  s.each (List.finRange 4) (fun s i => s.setO (R.LIST_USED + i.val) (s.delays.get i).length)

/-- POOL_FREE of a graph and of every graph that has a pool follows the pool (R267). -/
def State.showPools (s : State) (g : Nat) : State :=
  s.each ((List.range 64).filter (fun h => h == g || s.getG h RGraph.POOL_SIZE ≠ 0)) (fun s h => s.setG h RGraph.POOL_FREE (s.poolFree h))

/-- What follows a command of the scheduler: what can enter enters, and its objects and the graphs' pools follow. -/
def State.sched (s : State) (g : Nat) : State :=
  (s.settle (s.waiting.length + s.blocked.length + s.hostPosts.length + 1)).showSched.showPools g

/-- A token from within the graphs: it takes a slot, or stays in the output buffer of its core (R254, R256). -/
def State.inner (s : State) (core : Nat) (t : Token) : State :=
  match s.takeToken t with
  | some u => u
  | none => { s with blocked := s.blocked ++ [(core, t)] }

/-- An item's error: LAST_ERROR and ERRORS hold it, and an error token goes to the edges of port 3, or the node's status
counts it (R241, R266). -/
def State.nodeError (s : State) (g n seq code core : Nat) : State :=
  let s := (s.addG g RGraph.ERRORS 1).setG g RGraph.LAST_ERROR (n + code * 256)
  match s.dests g n 3 with
  | [] => s.countError g n code
  | ds => s.each ds (fun s d => s.inner core ⟨g, d.1, d.2, seq, code, false⟩)

/-! ### Dispatch (R243, R249, R250, R265) -/

/-- Whether an earlier firing of a STATEFUL node is running or queued, on whichever bench (R242, R249). -/
def State.nodeBusy (s : State) (w : Work) : Bool :=
  s.firings.any (fun v => v.graph == w.graph && v.node == w.node && decide (v.no < w.no))

/-- Whether a node's output space is short (R243). -/
def State.poolShort (s : State) (w : Work) : Bool :=
  let o := ndOut (s.node w.graph w.node)
  o ≠ 0 && decide (s.poolFree w.graph < o)

/-- The benches that may run an item: of its graph's mask, RUNNING, and holding the kernel. -/
def State.benchesFor (s : State) (w : Work) : List Bench :=
  (List.finRange 12).filter (fun n => s.serves w.graph n && s.holdsKernel n (s.node w.graph w.node))

/-- Whether an item is not the head of its queue: its graph dispatches nothing, its home bench is not RUNNING and no other carries
each of its graph's kernels (R265), no bench can run it, or R249 holds it. -/
def State.heldBack (s : State) (w : Work) : Bool :=
  s.getG w.graph RGraph.GRAPH_STATE ≠ GS.RUNNING || !s.carried w.graph || (s.benchesFor w).isEmpty ||
    (ndStateful (s.node w.graph w.node) && s.nodeBusy w) || s.poolShort w

/-- The items of a list that are not held, each with its place. -/
def State.dispatchable (s : State) : List Work → Nat → List (Nat × Work)
  | [], _ => []
  | w :: ws, i => (if s.heldBack w then [] else [(i, w)]) ++ s.dispatchable ws (i + 1)

/-- The head of a bench's ready queue: by PRIORITY, then in order of arrival (R249). -/
def State.head (s : State) (n : Bench) : Option (Nat × Work) :=
  let l := s.dispatchable (s.bench n).ready 0
  (List.range 4).findSome? (fun p => l.find? (fun x => ndPriority (s.node x.2.graph x.2.node) == p))

/-- Whether a core is in service, has room in its local queue and holds no output back (R250, R256). -/
def State.coreRoom (s : State) (n : Bench) (c : Fin 16) : Bool :=
  (s.getO (keyBench n.val RBench.CORES_IN_SERVICE)).testBit c.val && decide ((s.core n c).queue.length < 2) &&
    !s.blocked.any (fun p => p.1 == coreNo n c)

/-- Of a list of cores, the one with room and the fewest items; a tie goes to the first. -/
def State.leastCore (s : State) (l : List (Bench × Fin 16)) : Option (Bench × Fin 16) :=
  let l := l.filter (fun p => s.coreRoom p.1 p.2)
  (List.range 3).findSome? (fun k => l.find? (fun p => (s.core p.1 p.2).works.length == k))

/-- The cores of a bench. -/
def coresOf (n : Bench) : List (Bench × Fin 16) := (List.finRange 16).map (fun c => (n, c))

/-- The core an item goes to by the preference of R250, and whether it is the core that last ran its node. -/
def State.chooseCore (s : State) (n : Bench) (w : Work) : Option (Bench × Fin 16 × Bool) :=
  let can := s.benchesFor w
  let last := s.lastCore.get (w.graph * 256 + w.node) 0
  let same := allCores.find? (fun p => coreNo p.1 p.2 + 1 == last)
  match same.filter (fun p => can.contains p.1 && s.coreRoom p.1 p.2) with
  | some p => some (p.1, p.2, true)
  | none =>
    match (if can.contains n then s.leastCore (coresOf n) else none) with
    | some p => some (p.1, p.2, false)
    | none => (s.leastCore ((can.filter (fun m => m ≠ n)).flatMap coresOf)).map (fun p => (p.1, p.2, false))

/-- A core ends its item and takes the next of its local queue once its outputs are posted (R236, R256). -/
def State.endWork (s : State) (n : Bench) (c : Fin 16) : State :=
  (s.modCore n c (fun u => { u with running := none, left := none })).nextWork n c

/-- A core takes an item: it runs where the core is free, and queues otherwise; its output space is reserved (R243). -/
def State.giveWork (s : State) (n : Bench) (c : Fin 16) (w : Work) : State :=
  let w := { w with res := ndOut (s.node w.graph w.node), limit := s.getO R.WORK_LIMIT }
  match (s.core n c).running with
  | none => s.startWork n c w
  | some _ => s.modCore n c (fun u => { u with queue := u.queue ++ [w] })

/-- One more on a 64-bit count. -/
def State.inc64 (s : State) (k : Nat) : State := s.setO k ((s.getO k + 1) % 2 ^ 64)

/-- The firings of a bench that the pool holds back are counted, once each (R243). -/
def State.countPool (s : State) (n : Bench) : State :=
  let held := fun (w : Work) => s.getG w.graph RGraph.GRAPH_STATE == GS.RUNNING && s.poolShort w && !w.waited
  let s' := s.each ((s.bench n).ready.filter held) (fun s w => s.addG w.graph RGraph.POOL_WAITS 1)
  s'.modBench n (fun u => { u with ready := u.ready.map (fun w => if held w then { w with waited := true } else w) })

/-- WORK_DISPATCH (R250). -/
def State.dispatchWork (s : State) (n : Bench) : State :=
  let s := s.countPool n
  match s.head n with
  | none => s.showSched
  | some (i, w) =>
    match s.chooseCore n w with
    | none => s.showSched
    | some (m, c, hit) =>
      let s := s.modBench n (fun u => { u with ready := u.ready.eraseIdx i })
      let s := s.inc64 (if hit then R.AFFINITY_HITS else R.AFFINITY_MISSES)
      (s.giveWork m c w).sched w.graph

/-! ### Timed work (R251 to R253) -/

/-- The tick in force in ps: up to the first boundary after a change of TICK the one before it (R251). -/
def State.tick (s : State) : Nat := if s.now < s.oldTick.2 then s.oldTick.1 else s.getO R.TICK * 100000

/-- The tick boundary of a requested time: the first at or after it, or the next where it has passed; beyond the boundary at which
a change of TICK applies, one of the new tick (R251). -/
def State.boundary (s : State) (t : Int) : Nat :=
  let p := s.tick
  let q := s.getO R.TICK * 100000
  let d := if t < s.now then (s.now / p + 1) * p else ceilDiv t.toNat p * p
  if s.now < s.oldTick.2 ∧ s.oldTick.2 < d then ceilDiv t.toNat q * q else d

/-- An entry in a list sorted by expiry, those of one boundary in the order they were entered (R251). -/
def insertEntry (e : DelayEntry) : List DelayEntry → List DelayEntry
  | [] => [e]
  | x :: xs => if e.due < x.due ∨ (e.due = x.due ∧ e.no < x.no) then e :: x :: xs else x :: insertEntry e xs

/-- A list with an entry entered; none where it holds 4,096 (R251, R252). -/
def State.enterDelay (s : State) (i : Fin 4) (e : DelayEntry) : Option State :=
  if (s.delays.get i).length < 4096 then
    some { s with
      delays := s.delays.set i.val (insertEntry { e with no := s.delayNo } (s.delays.get i)) i.isLt
      delayNo := s.delayNo + 1 }
  else none

/-- A change of TICK applies at the next tick boundary: the entries beyond it keep their expiry as an absolute time, rounded up to
the new tick (R251). -/
def State.retick (s : State) (n : Nat) : State :=
  let p := s.tick
  let b := (s.now / p + 1) * p
  let q := n * 100000
  { s.setO R.TICK n with
    oldTick := (p, b)
    delays := s.delays.map (fun (l : List DelayEntry) =>
      (l.map (fun e => if b < e.due then { e with due := ceilDiv e.due q * q } else e)).foldl (fun l e => insertEntry e l) []) }

/-- The first element of a list is taken. -/
def State.popDelay (s : State) (i : Fin 4) : State := { s with delays := s.delays.set i.val (s.delays.get i).tail i.isLt }

/-- The head of a list stays, and is marked as held off (R253). -/
def State.holdDelay (s : State) (i : Fin 4) : State :=
  { s with delays := s.delays.set i.val (match s.delays.get i with
      | [] => []
      | e :: es => { e with held := true } :: es) i.isLt }

/-- The lateness of a post beyond its expiry is accumulated, in ns (R253). -/
def State.addLate (s : State) (due : Nat) : State :=
  s.setO R.TIMER_LATE_NS ((s.getO R.TIMER_LATE_NS + (s.now - due) / 1000) % 2 ^ 64)

/-- A timed request of a kernel (R251, R252): on the list of its node's PRIORITY; none where that list is full. -/
def State.requestTimed (s : State) (g n : Nat) (r : TimedReq) : Option State :=
  let i : Fin 4 := Fin.ofNat 4 (ndPriority (s.node g n))
  let t : Token := ⟨g, r.node.toNat, r.port.val, r.seq.toNat, r.value.toNat, false⟩
  let at_ : Int := s.now + r.ahead * 1000
  let act := match r.read with
    | none => DelayAct.post t
    | some a => DelayAct.read n t (key a.index.toNat a.sub.toNat) (r.gate.map (fun q => (key q.1.index.toNat q.1.sub.toNat, q.2.toNat))) 0
  s.enterDelay i { due := s.boundary at_, act := act }

/-! ### Source bindings (R247, R254) -/

/-- The key of a binding. -/
def bindKey (g i : Nat) : Nat := g * 64 + i
/-- A binding's progress. -/
def State.bindU (s : State) (g i : Nat) : BindU := s.binds.get (bindKey g i) {}
/-- The state with a binding's progress. -/
def State.setBind (s : State) (g i : Nat) (u : BindU) : State := { s with binds := s.binds.set (bindKey g i) u }

/-- The token a binding posts to its node port. -/
def bindToken (g e seq value : Nat) : Token := ⟨g, bnNode e, bnPort e, seq % 2 ^ 32, value % 2 ^ 64, false⟩

/-- WRITE_FRAME of the capture stream a binding names, its bay's arming, and how many frames the stream has ever closed. -/
def State.bindFrame (s : State) (e : Nat) : Nat × Nat × Nat :=
  let b : Bay := Fin.ofNat 16 (fieldOf (bnSource e) 4 4)
  let m : Fin 5 := Fin.ofNat 5 (fieldOf (bnSource e) 0 4 - 1)
  (s.getO (keyCap b m RCap.WRITE_FRAME), (s.bay b).arms, ((s.bay b).caps.get m).closed)

/-- COUNT of the event source a binding names. -/
def State.bindCount (s : State) (e : Nat) : Nat := s.getO (key (0xC400 + bnSource e % 2048) RSrc.COUNT)

/-- A binding's post that waits: the token it becomes on acceptance, and its progress then (R247).  A TIMER's stays on its
delay list. -/
def State.bindPending (s : State) (g i : Nat) : Option (Token × BindU) :=
  let e := s.binding g i
  let u := s.bindU g i
  match bnType e with
  | 1 =>
    let f := s.bindFrame e
    let posts := if u.arm = f.2.1 then u.posts else 0
    if f.2.2 = u.seen then none
    else some (bindToken g e posts f.1, { seen := f.2.2, posts := posts + 1, arm := f.2.1 })
  | 2 =>
    let n := s.bindCount e
    if n = u.seen then none
    else some (bindToken g e u.posts ((n + 2 ^ 64 - u.seen) % 2 ^ 64), { u with seen := n, posts := u.posts + 1 })
  | 3 =>
    let w := s.dmaPosts.get (bindKey g i) 0
    if w = 0 then none else some (bindToken g e u.posts (w - 1), { u with posts := u.posts + 1 })
  | _ => none

/-- A binding starts to post: from its source's present count or frame, and a TIMER with its first entry (R247, R263). -/
def State.startBind (s : State) (g i : Nat) : State :=
  let e := s.binding g i
  let f := s.bindFrame e
  let u : BindU := { seen := if bnType e = 1 then f.2.2 else if bnType e = 2 then s.bindCount e else 0, posts := 0, arm := f.2.1 }
  let s := s.setBind g i u
  if bnType e = 4 then
    let period : Nat := bnSource e % 2 ^ 14
    match s.enterDelay (Fin.ofNat 4 (bnSource e / 2 ^ 14)) { due := s.boundary ((s.now + s.tick * period : Nat) : Int), act := .timer g i period } with
    | some t => t
    | none => s.incO R.LIST_FULL_COUNT
  else s

/-- A TIMER binding's expiry at the head of its list (R247, R253): its token and its next entry where the scheduler accepts,
otherwise it stays at the head, counted.  The next entry is of the period and list that the binding gives then (R262). -/
def State.timerExpiry (s : State) (i : Fin 4) (e : DelayEntry) (g j period : Nat) : State :=
  let b := s.binding g j
  let u := s.bindU g j
  let step := s.tick * period
  let n := if step = 0 then 1 else 1 + (s.now - e.due) / step
  let at_ := e.due + (n - 1) * step
  let t := s.stamp 0x1E0 - (s.now - at_) / 250
  let value := if e.held then min n 255 * 2 ^ 56 + t % 2 ^ 56 else t
  match s.outside (bindToken g b (u.posts + n - 1) value) with
  | some v =>
    let v := ((v.popDelay i).addLate e.due).setBind g j { u with posts := u.posts + n }
    let period : Nat := bnSource b % 2 ^ 14
    let v := match v.enterDelay (Fin.ofNat 4 (bnSource b / 2 ^ 14)) { due := v.boundary ((at_ + s.tick * period : Nat) : Int), act := .timer g j period } with
      | some x => x
      | none => v
    v.sched g
  | none => (s.holdDelay i).incO (R.BP_WAITS + 3)

/-- BINDING_POST (R247, R254): a post that waits is accepted, or goes on waiting and is counted. -/
def State.bindPost (s : State) (g i : Nat) : State :=
  let ty := bnType (s.binding g i)
  if s.getG g RGraph.GRAPH_STATE ≠ GS.RUNNING ∧ s.getG g RGraph.GRAPH_STATE ≠ GS.DRAINING ∧
      s.getG g RGraph.GRAPH_STATE ≠ GS.SITE_STALE then s
  else if ty = 4 then
    let l : Fin 4 := Fin.ofNat 4 (bnSource (s.binding g i) / 2 ^ 14)
    match s.delays.get l with
    | e :: _ => match e.act with
      | .timer g' j period => if g' = g ∧ j = i ∧ e.due ≤ s.now then s.timerExpiry l e g i period else s
      | _ => s
    | [] => s
  else match s.bindPending g i with
    | none => s
    | some (t, u) => match s.outside t with
      | some v => ({ v.setBind g i u with dmaPosts := v.dmaPosts.set (bindKey g i) 0 }).sched g
      | none => s.incO (R.BP_WAITS + (ty - 1))

/-! ### Work (R237 to R241, R256) -/

/-- The outputs of a firing that ended well: a copy to each edge, and the buffers they reference (R239, R240). -/
def State.postOuts (s : State) (w : Work) (core : Nat) (outs : List WorkOut) : State :=
  s.each outs (fun s o =>
    let ds := s.dests w.graph w.node o.port.val
    let seq := (o.seq.map BitVec.toNat).getD w.seq
    let s := if o.buf then s.addRef w.graph o.value.toNat ds.length else s
    s.each ds (fun s d => s.inner core ⟨w.graph, d.1, d.2, seq, o.value.toNat, o.buf⟩))

/-- The timed requests of a firing, one after another; none once a list is full (R252). -/
def State.timedAll (s : State) (g n : Nat) : List TimedReq → State × Bool
  | [] => (s, true)
  | r :: rs => match s.requestTimed g n r with
    | some t => t.timedAll g n rs
    | none => (s.incO R.LIST_FULL_COUNT, false)

/-- A running item ends: its operands' buffers are consumed, and its core takes the next (R240). -/
def State.finishWork (s : State) (n : Bench) (c : Fin 16) (w : Work) : State :=
  ((s.endWork n c).consumeOps w).sched w.graph

/-- An item whose requests are all issued ends: with its timed work, its instance state and its outputs, or with its error (R240,
R241, R242, R252). -/
def State.endItem (s : State) (n : Bench) (c : Fin 16) (w : Work) (r : WorkResult) : State :=
  match r with
  | .error code _ => ((s.inc64 (keyG w.graph RGraph.FIRINGS)).nodeError w.graph w.node w.seq code.code (coreNo n c)).finishWork n c w
  | .done outs _ timed inst =>
    let t := s.timedAll w.graph w.node timed
    let s := match inst with
      | some v => if ndStateful (s.node w.graph w.node) then { t.1 with inst := t.1.inst.set (w.graph * 256 + w.node) v } else t.1
      | none => t.1
    let s := s.inc64 (keyG w.graph RGraph.FIRINGS)
    if t.2 then (s.postOuts w (coreNo n c) outs).finishWork n c w
    else (s.nodeError w.graph w.node w.seq 6 (coreNo n c)).finishWork n c w

/-- The requests of an item are issued as far as the bench's object queue has room, each with the site epoch its graph holds; with
the last the item ends, and until then its core waits within it (R257, R259). -/
def State.issueReqs (s : State) (n : Bench) (c : Fin 16) (w : Work) (reqs : List ObjReq) (r : WorkResult) : State :=
  let room := 64 - (s.bench n).reqs.length
  let e := s.getG w.graph RGraph.SITE_EPOCH
  let s := s.modBench n (fun u => { u with reqs := u.reqs ++ (reqs.take room).map (fun q => ⟨w.graph, w.node, w.seq, q, e⟩) })
  if reqs.length ≤ room then s.endItem n c w r
  else s.modCore n c (fun u => { u with left := some (reqs.drop room, r) })

/-- An address from its key. -/
def addrOf (k : Nat) : ObjAddr := ⟨BitVec.ofNat 16 (k / 256), BitVec.ofNat 8 (k % 256)⟩

/-- FAIL_BITMAP's own writes after a firing: CONSUMED_FRAME of each capture stream that feeds its node, to the frame its operand
named (R211, R244). -/
def State.consumedWrites (s : State) (n : Bench) (w : Work) : List ObjReq :=
  if s.getO (keyBench n.val RBench.BENCH_CATALOGUE) = 3 ∧ ndKernel (s.node w.graph w.node) = 1 then
    let streams := (List.range 64).filter (fun i => bnType (s.binding w.graph i) == 1 && bnNode (s.binding w.graph i) == w.node)
    streams.flatMap (fun i =>
      let q := bnSource (s.binding w.graph i)
      let k := keyCap (Fin.ofNat 16 (fieldOf q 4 4)) (Fin.ofNat 5 (fieldOf q 0 4 - 1)) RCap.CONSUMED_FRAME
      (w.ops.take 1).map (fun o => .write { addr := addrOf k, type := 5#8, epoch := 0#16, value := toBytes 8 o.2.1 }))
  else []

/-- The requests a result carries, with those its kernel makes by itself. -/
def State.reqsOf (s : State) (n : Bench) (w : Work) : WorkResult → List ObjReq
  | .done _ reqs _ _ => reqs ++ s.consumedWrites n w
  | .error _ reqs => reqs

/-- WORK_COMPLETE (R240, R241, R257): the item issues its requests and ends.  A result that its kernel cannot give (R244; log 14)
and the result of an item that has ended already change nothing. -/
def State.completeWork (s : State) (n : Bench) (c : Fin 16) (r : WorkResult) : State :=
  match (s.core n c).running, (s.core n c).left with
  | some w, none => if s.resultFits n w r then s.issueReqs n c w (s.reqsOf n w r) r else s
  | _, _ => s

/-- The cores of a bench that wait for its object queue issue what has room now, in the order of their numbers (R257; log 57). -/
def State.pumpReqs (s : State) (n : Bench) : State :=
  s.each (List.finRange 16) (fun s c => match (s.core n c).running, (s.core n c).left with
    | some w, some (reqs, r) => s.issueReqs n c w reqs r
    | _, _ => s)

/-- WORK_LIMIT (R237): the item is stopped, its core is reset and its outputs are not posted. -/
def State.limitWork (s : State) (n : Bench) (c : Fin 16) : State :=
  match (s.core n c).running with
  | none => s
  | some w => ((s.advance (s.core n c).due).nodeError w.graph w.node w.seq 2 (coreNo n c)).finishWork n c w

/-- A bench reports a fault with the graph epoch of the item it struck (R420). -/
def State.benchFault (s : State) (n : Bench) (kind address : Nat) (w : Option Work) : State :=
  s.send { s.faultMsg (0x1A0 + n.val) kind address with epoch := (w.map (fun w => s.getG w.graph RGraph.GRAPH_EPOCH % 512)).getD 0 }

/-- A core leaves its work: the item that ran ends with CORE_FAULT, and its local queue returns to the head of the bench's
ready queue (R238). -/
def State.dropCore (s : State) (n : Bench) (c : Fin 16) : State :=
  let u := s.core n c
  let s := s.modCore n c (fun _ => {})
  let s := s.modBench n (fun b => { b with ready := u.queue.map (fun w => { w with res := 0 }) ++ b.ready })
  match u.running with
  | some w => ((s.nodeError w.graph w.node w.seq 3 (coreNo n c)).consumeOps w).sched w.graph
  | none => s.showSched

/-- CORE_FAULT (R238). -/
def State.coreFault (s : State) (n : Bench) (c : Fin 16) (level : Bool) : State :=
  let s := s.benchFault n 0x50 c.val (s.core n c).running
  let k := keyBench n.val RBench.CORES_IN_SERVICE
  let s := (s.setO k (clrBit (s.getO k) c.val)).dropCore n c
  if level then
    let s := (s.benchFault n 0x51 0 none).setBench n BN.FAULTED
    s.each (List.finRange 16).reverse (fun s c => s.dropCore n c)
  else s

/-- STORE_DEADLOCK (R256): the incomplete firings of the graph that holds the most slots, those of complete firings that wait
among them, are discarded. -/
def State.deadlock (s : State) : State :=
  if s.storeUsed < 65536 then s
  else
    let s := s.advance (s.lastFired + 1000000000)
    let n := fun (g : Nat) => (s.store.filter (fun t => t.graph == g)).length +
      ((s.waiting.filter (fun w => w.graph == g)).map (fun w => w.ops.length)).sum
    let most := (List.range 64).foldl (fun a g => max a (n g)) 0
    match (List.range 64).find? (fun g => n g == most) with
    | none => s
    | some g =>
      let gone := s.store.filter (fun t => t.graph == g)
      let s := s.fault 0x1E0 0x59 g
      let s := { s with store := s.store.filter (fun t => t.graph ≠ g) }.discard gone
      (s.addG g RGraph.DEADLOCK_CLEARED 1).sched g

/-! ### Graph requests (R260 to R263) -/

/-- A host message to a graph: any epoch but its own is dropped, counted and answered (R260). -/
def State.hostGraph (s : State) (g : Graph) (epoch : BitVec 16) (k : State → State) : State :=
  s.hostModule (fun s =>
    let e := s.getG g.val RGraph.GRAPH_EPOCH
    if epoch.toNat ≠ e then (s.addG g.val RGraph.STALE_COUNT 1).answerD ST.STALE_EPOCH (e * 2 ^ 16) else k s)

/-- POST (R247, R254): accepted, or waiting in the command path for 1 ms. -/
def State.hostPost (s : State) (t : Token) (epoch : Nat) : State :=
  if !s.hasPort t.graph t.node t.port then s.answer ST.OUT_OF_RANGE
  else match s.outside t with
    | some u => (u.sched t.graph).ok
    | none => ({ s with hostPosts := s.hostPosts ++ [(⟨t, epoch, s.now + 1000000000, none⟩ : HostPost)] }).incO (R.BP_WAITS + 4)

/-- HOST_POST_TIMEOUT (R254): the post that has waited longest is refused and leaves no slot behind. -/
def State.postTimeout (s : State) : State :=
  match s.hostPosts with
  | [] => s
  | p :: rest => ({ s.advance p.due with hostPosts := rest }).postEnd p.sid ST.STATE_LOCKED 0

/-- START_REQUEST (R263, R267): the graph's counters are cleared and its bindings begin to post. -/
def State.startGraph (s : State) (g : Nat) : State :=
  if s.getG g RGraph.GRAPH_STATE ≠ GS.LOADED ∧ s.getG g RGraph.GRAPH_STATE ≠ GS.STOPPED then s.answer ST.STATE_LOCKED
  else
    let s := s.each [RGraph.FIRINGS, RGraph.ERRORS, RGraph.DISCARDED_OPERANDS, RGraph.STALE_COUNT, RGraph.POOL_WAITS,
      RGraph.DEADLOCK_CLEARED] (fun s o => s.setG g o 0)
    let s := s.each (List.range 255) (fun s n => s.setO (keyNode g n) (s.getO (keyNode g n) % 256))
    let s := s.setG g RGraph.GRAPH_STATE GS.RUNNING
    (s.each (List.range 64) (fun s i => if bnType (s.binding g i) = 0 then s else s.startBind g i)).showSched.ok

/-- STOP_REQUEST (R263): the graph drains. -/
def State.stopGraph (s : State) (g : Nat) : State :=
  if s.getG g RGraph.GRAPH_STATE ≠ GS.RUNNING then s.answer ST.STATE_LOCKED
  else ({ s.setG g RGraph.GRAPH_STATE GS.DRAINING with drains := s.drains.set g 1 }).ok

/-- Whether a graph's running and locally queued items have completed and posted (R261). -/
def State.drained (s : State) (g : Nat) : Bool :=
  !allCores.any (fun p => (s.core p.1 p.2).works.any (fun w => w.graph == g)) && !s.blocked.any (fun p => p.2.graph == g)

/-- The graph of a delay-list entry. -/
def DelayAct.graph : DelayAct → Nat
  | .post t => t.graph
  | .read _ t _ _ _ => t.graph
  | .timer g _ _ => g

/-- Whether a delay-list entry stays: by the node its token goes to, or by its binding. -/
def DelayAct.stays (node binding : Nat → Bool) : DelayAct → Bool
  | .post t => node t.node
  | .read _ t _ _ _ => node t.node
  | .timer _ i _ => binding i

/-- Discards what waits for the nodes of a graph that `keep` does not name: operands, queued items and delay-list entries,
those of TIMER bindings as `timer` says, each counted (R262, R263). -/
def State.purge (s : State) (g : Nat) (keep timer : Nat → Bool) : State :=
  let out := fun (t : Token) => t.graph == g && !keep t.node
  let outW := fun (w : Work) => w.graph == g && !keep w.node
  let outD := fun (e : DelayEntry) => e.act.graph == g && !e.act.stays keep timer
  let gone := s.store.filter out ++ (s.waiting.filter outW).flatMap Work.tokens ++
    ((List.finRange 12).flatMap (fun n => ((s.bench n).ready.filter outW).flatMap Work.tokens))
  let nd := (s.delays.toList.map (fun l => (l.filter outD).length)).sum
  let s := { s with
    store := s.store.filter (fun t => !out t)
    waiting := s.waiting.filter (fun w => !outW w)
    delays := s.delays.map (fun (l : List DelayEntry) => l.filter (fun e => !outD e)) }
  let s := s.each (List.finRange 12) (fun s n => s.modBench n (fun u => { u with ready := u.ready.filter (fun w => !outW w) }))
  (s.discard gone).addG g RGraph.DISCARDED_OPERANDS nd

/-- The drain of a STOP_REQUEST ends: every pending operand and delay-list entry is discarded, the instance state kept
(R263).  A graph that a stale write made SITE_STALE meanwhile is STOPPED too. (Log 57.) -/
def State.stopped (s : State) (g : Nat) : State :=
  let s := { s.purge g (fun _ => false) (fun _ => false) with drains := s.drains.set g 0 }
  (s.setG g RGraph.GRAPH_STATE GS.STOPPED).sched g

/-- Whether a graph's present definition is refused with STATE (R246): a node that does not keep the row of its kernel where a bench
of the mask runs release 3, and an edge from an output that the row lacks, count as naming a port that does not exist. (Log 14.) -/
def State.graphBad (s : State) (g : Nat) : Bool :=
  let mask := s.getG g RGraph.BENCH_MASK
  let benches := (List.finRange 12).filter (fun n => mask.testBit n.val)
  let base := s.getG g RGraph.POOL_BASE
  let top := base + s.getG g RGraph.POOL_SIZE
  let meets := fun (h : Nat) => h ≠ g && s.getG h RGraph.POOL_SIZE ≠ 0 && decide (base < s.getG h RGraph.POOL_BASE + s.getG h RGraph.POOL_SIZE) &&
    decide (s.getG h RGraph.POOL_BASE < top)
  (s.nodes g).any (fun p => !benches.any (fun n => s.holdsKernel n p.2)) ||
  (s.nodes g).any (fun p => benches.any (fun n => !s.rowKept n p.2)) ||
  (s.edges g).any (fun e => ndKernel (s.node g (fieldOf e 0 8)) == 0 || fieldOf e 8 2 == 2 || !s.hasPort g (fieldOf e 16 8) (fieldOf e 24 2) ||
    (fieldOf e 8 2 == 1 && benches.any (fun n => (s.rowOn n (s.node g (fieldOf e 0 8))).any (fun r => !r.out1)))) ||
  (List.range 64).any (fun i => bnType (s.binding g i) ≠ 0 && !s.hasPort g (bnNode (s.binding g i)) (bnPort (s.binding g i))) ||
  (s.getG g RGraph.POOL_SIZE ≠ 0 && (decide (base < s.getO R.SYSTEM_BASE) || decide (s.getO R.SYSTEM_BASE + s.getO R.SYSTEM_SIZE < top))) ||
  (s.getG g RGraph.POOL_SIZE ≠ 0 && (List.range 64).any meets)

/-- A committed change is applied at the drain (R259, R260, R262): `new` is the state with the new definition, `back` the
state the graph returns to.  A TIMER binding that stays one keeps its entry with the node it feeds; other entries of changed or
discarded TIMER bindings are counted, and those bindings start anew. (Log 57.) -/
def State.applyGraph (s new : State) (g back : Nat) : State :=
  let same := fun (n : Nat) =>
    let a := s.node g n
    let b := new.node g n
    ndKernel a ≠ 0 && ndKernel a == ndKernel b && ndInputs a == ndInputs b && ndStateful a == ndStateful b
  let kept := fun (n : Nat) =>
    let a := s.node g n
    let b := new.node g n
    ndStateful b && ndKernel a == ndKernel b && ndState a == ndState b
  let stays := fun (i : Nat) => bnType (s.binding g i) == 4 && bnType (new.binding g i) == 4 && same (bnNode (s.binding g i))
  let moved := (List.range 64).filter (fun i => !stays i && (bnType (new.binding g i) == 4 || s.binding g i ≠ new.binding g i))
  let p := s.purge g same stays
  let t := { p with objs := new.objs, doms := new.doms }.setG g RGraph.DISCARDED_OPERANDS (p.getG g RGraph.DISCARDED_OPERANDS)
  let t := { t with
    inst := t.inst.without (fun k => k / 256 == g && !kept (k % 256))
    drains := t.drains.set g 0 }
  let e := t.getG g RGraph.GRAPH_EPOCH
  let site := t.getG g RGraph.SITE
  let t := (t.setG g RGraph.GRAPH_EPOCH (if e = 0xFFFF then 1 else e + 1)).setG g RGraph.SITE_EPOCH
    (if site < 64 then t.getS (Fin.ofNat 64 site) RSite.EPOCH else 0)
  let back := if back = GS.SITE_STALE then GS.RUNNING else if back = 0 then GS.LOADED else back
  let t := t.setG g RGraph.GRAPH_STATE back
  let t := if back = GS.RUNNING then t.each moved (fun t i => if bnType (t.binding g i) = 0 then t else t.startBind g i) else t
  t.sched g

/-! ### Benches (R264, R265) -/

/-- A BENCH_REQUEST in its order, or STATE_LOCKED (R264). -/
def State.benchRequest (s : State) (n : Bench) (from_ : Nat) (k : State → State) : State :=
  s.hostModule (fun s => if s.benchState n = from_ then (k s).ok else s.answer ST.STATE_LOCKED)

/-- Whether an item of a bench's ready queue can still go to another bench (R265). -/
def State.forwards (s : State) (n : Bench) : Bool :=
  (s.bench n).ready.any (fun w => s.carried w.graph && (s.benchesFor w).any (fun m => m ≠ n))

/-- BENCH_DRAINED (R264): its cores idle, its ready queue forwarded. -/
def State.benchDrained (s : State) (n : Bench) : State :=
  let idle := (coresOf n).all (fun p => (s.core p.1 p.2).works.isEmpty && !s.blocked.any (fun q => q.1 == coreNo p.1 p.2))
  if s.benchState n = BN.DRAINING ∧ idle = true ∧ s.forwards n = false then s.setBench n BN.DRAINED else s

/-- The nodes of all graphs in a bench's masks that its catalogue excludes by MIN_VERSION (R265). -/
def State.excluded (s : State) (n : Bench) : Nat :=
  ((List.range 64).map (fun g =>
    if (s.getG g RGraph.BENCH_MASK).testBit n.val then ((s.nodes g).filter (fun p => !s.holdsKernel n p.2)).length else 0)).sum

/-- BENCH_LOAD_COMPLETE (R265). -/
def State.benchLoaded (s : State) (n : Bench) (verified : Bool) (release : Nat) : State :=
  if s.benchState n ≠ BN.LOADING then s
  else if verified && !(s.fwSlots.get (Fin.ofNat 2 (s.getO (keyBench n.val RBench.BENCH_IMAGE)))).cut then
    let s := s.setO (keyBench n.val RBench.BENCH_CATALOGUE) release
    (s.setBench n BN.DRAINED).setO (keyBench n.val RBench.NODE_EXCLUDED) (s.excluded n)
  else (s.setBench n BN.DRAINED).answer ST.CRYPTO_ERROR

/-- A bench resumes: affinity starts cold on it (R265). -/
def State.benchResumed (s : State) (n : Bench) : State :=
  let s := { s with lastCore := s.lastCore.filter (fun e => (e.2 - 1) / 16 ≠ n.val ∨ e.2 = 0) }
  let s := s.setO (keyBench n.val RBench.NODE_EXCLUDED) (s.excluded n)
  s.setBench n BN.RUNNING

/-! ### Meanings -/

/-- TOKEN_ARRIVAL (R248, R249): a token on an edge arrives; where the store has no slot it has not arrived. -/
def execTokenArrival (t : Token) (s : State) : Host.Outcome State Fault Refusal :=
  .next (if s.hasPort t.graph t.node t.port then match s.takeToken t with
    | some u => u.sched t.graph
    | none => s
  else s)

/-- POST (R247, R254, R260). -/
def execPost (g : Graph) (epoch : BitVec 16) (node : BitVec 8) (port : Fin 4) (seq : BitVec 32) (value : BitVec 64) (s : State) :
    Host.Outcome State Fault Refusal :=
  .next (s.hostGraph g epoch (fun s => s.hostPost ⟨g.val, node.toNat, port.val, seq.toNat, value.toNat, false⟩ epoch.toNat))

/-- HOST_POST_TIMEOUT (R254). -/
def execHostPostTimeout (s : State) : Host.Outcome State Fault Refusal := .next s.postTimeout

/-- WORK_DISPATCH (R249, R250). -/
def execWorkDispatch (bn : Bench) (s : State) : Host.Outcome State Fault Refusal := .next (s.dispatchWork bn)

/-- WORK_COMPLETE (R240, R241, R252, R257). -/
def execWorkComplete (bn : Bench) (core : Fin 16) (result : WorkResult) (s : State) : Host.Outcome State Fault Refusal :=
  .next (s.completeWork bn core result)

/-- WORK_LIMIT (R237). -/
def execWorkLimit (bn : Bench) (core : Fin 16) (s : State) : Host.Outcome State Fault Refusal := .next (s.limitWork bn core)

/-- CORE_FAULT (R238). -/
def execCoreFault (bn : Bench) (core : Fin 16) (benchLevel : Bool) (s : State) : Host.Outcome State Fault Refusal :=
  .next (s.coreFault bn core benchLevel)

/-- STORE_DEADLOCK (R256). -/
def execStoreDeadlock (s : State) : Host.Outcome State Fault Refusal := .next s.deadlock

/-- START_REQUEST (R260, R263). -/
def execStartRequest (g : Graph) (epoch : BitVec 16) (s : State) : Host.Outcome State Fault Refusal :=
  .next (s.hostGraph g epoch (fun s => s.startGraph g.val))

/-- STOP_REQUEST (R260, R263). -/
def execStopRequest (g : Graph) (epoch : BitVec 16) (s : State) : Host.Outcome State Fault Refusal :=
  .next (s.hostGraph g epoch (fun s => s.stopGraph g.val))

/-- BENCH_DRAIN (R264). -/
def execBenchDrain (bn : Bench) (s : State) : Host.Outcome State Fault Refusal :=
  .next (s.benchRequest bn BN.RUNNING (fun s => s.setBench bn BN.DRAINING))

/-- BENCH_DRAINED (R264). -/
def execBenchDrained (bn : Bench) (s : State) : Host.Outcome State Fault Refusal := .next (s.benchDrained bn)

/-- BENCH_LOAD (R264, R265). -/
def execBenchLoad (bn : Bench) (s : State) : Host.Outcome State Fault Refusal :=
  .next (s.benchRequest bn BN.DRAINED (fun s => s.setBench bn BN.LOADING))

/-- BENCH_LOAD_COMPLETE (R265). -/
def execBenchLoadComplete (bn : Bench) (verified : Bool) (release : BitVec 32) (s : State) : Host.Outcome State Fault Refusal :=
  .next (s.benchLoaded bn verified release.toNat)

/-- BENCH_RESUME (R265). -/
def execBenchResume (bn : Bench) (s : State) : Host.Outcome State Fault Refusal :=
  .next (s.benchRequest bn BN.DRAINED (fun s => s.benchResumed bn))

/-- PEAK_CLEAR (R267). -/
def execPeakClear (s : State) : Host.Outcome State Fault Refusal :=
  .next (s.hostModule (fun s => (s.setO R.STORE_PEAK 0).ok))

end Sys2Proof.Machine
end

