-- ==== Sys2Proof/Machine/Memory.lean ====
section
/-! DEFINITION. The HBM as its users see it: the memory map and its answers, regions, checks and tags, refresh,
temperature, recovery, scrub and retraining (R268 to R292). -/

namespace Sys2Proof.Machine

/-! ### The memory map (R273, R274) -/

/-- The region of a data address (R275): 0 pattern, 1 capture, 2 system. -/
def State.regionOf (s : State) (a : Nat) : Nat :=
  if a < s.getO R.CAPTURE_BASE then 0 else if a < s.getO R.SYSTEM_BASE then 1 else 2

/-- The bases of the regions and SYSTEM_SIZE follow PATTERN_SIZE and CAPTURE_SIZE (R275). -/
def State.showRegions (s : State) : State :=
  let p := s.getO R.PATTERN_SIZE * 1048576
  let q := p + s.getO R.CAPTURE_SIZE * 1048576
  ((s.setO R.CAPTURE_BASE p).setO R.SYSTEM_BASE q).setO R.SYSTEM_SIZE (dataSpace - q)

/-- Whether bytes lie in the staging ring of a bay whose STAGE_STREAM is a stream (R277). -/
def State.inStage (s : State) (a len : Nat) (st : Stream) : Bool :=
  (List.finRange 16).any (fun b =>
    let base := s.getB b RBay.STAGE_BASE
    s.getB b RBay.STAGE_STREAM == st.val && decide (base ≤ a) && decide (a + len ≤ base + s.getB b RBay.STAGE_SIZE))

/-- Whether bytes lie in a graph's pool. -/
def State.inPool (s : State) (a len g : Nat) : Bool :=
  decide (s.getG g RGraph.POOL_BASE ≤ a) && decide (a + len ≤ s.getG g RGraph.POOL_BASE + s.getG g RGraph.POOL_SIZE)

/-- Whether a region admits a writer (R277). -/
def State.admits (s : State) (who : Writer) (a len : Nat) : Bool :=
  s.regionOf a == s.regionOf (a + len - 1) &&
  match who, s.regionOf a with
  | .dma _ k, 0 => k.val ≠ 1
  | .link st, 0 => s.inStage a len st
  | .bay _, 1 => true
  | .control, 2 => true
  | .dma _ _, 2 => true
  | .touchmark, 2 => true
  | .bench g, 2 => s.inPool a len g.val
  | _, _ => false

/-- Whether a locked range refuses a writer: the stream of a staging ring writes it all the same (R277). -/
def State.locksOut (s : State) (who : Writer) (a len : Nat) : Bool :=
  s.lockedRange a len && (match who with
    | .link st => !s.inStage a len st
    | _ => true)

/-- The bench and the core whose local SRAM an address of its window lies in: 12 benches of 16 cores of 128 KiB (R236, R273). -/
def coreOf (a : Nat) : Option (Nat × Nat) :=
  if windowOf a = 3 then some ((a - 0x001100000000) / 0x200000, (a - 0x001100000000) / 0x20000 % 16) else none

/-- The answer a write gets (R274). -/
def State.writeAnswer (s : State) (who : Writer) (a len : Nat) : Nat :=
  match windowSpan a len with
  | 0 => MR.DECODE
  | 1 =>
    if !s.admits who a len then MR.REGION
    else if s.locksOut who a len then MR.LOCKED
    else if s.spanDown a len then MR.NOT_READY else MR.OK
  | 2 => (match who with
    | .bay b => if (a - 0x001000000000) / 0x80000 = b.val then MR.OK else MR.REGION
    | _ => MR.REGION)
  | _ => (match who with
    | .core k j => if coreOf a = some (k.val, j.val) then MR.OK else MR.REGION
    | _ => MR.REGION)

/-! ### Requests (R270, R271, R274, R279, R284) -/

/-- The state with a memory response and the bytes read as the answer. -/
def State.respond (s : State) (code : Nat) (body : Bytes) : State := { s with reply := { status := code, body := body } }

/-- A read of memory (R270, R271, R274): every block it touches is checked, and one that is uncorrectable, or carries another
WRITE_SEQ than the reader expects, poisons it. -/
def State.readMem (s : State) (a len : Nat) (seq : Option (BitVec 8)) (eccs : List Ecc) : State :=
  let c := s.readAnswer a len
  if c ≠ MR.OK then s.respond c []
  else if windowOf a ≠ 1 then s.respond MR.OK (memRead s.mem a len)
  else
    let s := s.checkBlocks a len eccs
    let wrong := seq.any (fun q => (blocksOf a len).any (fun x => s.tagSeq x ≠ q.toNat))
    if wrong || ((blocksOf a len).zip eccs).any (fun p => p.2 == .uncorrectable) then s.respond MR.POISON []
    else s.respond MR.OK (memRead s.mem a len)

/-- A write of memory: its stamp where the writer is a capture engine or a DMA channel, 0 otherwise (R271, R284). -/
def State.writeMem (s : State) (who : Writer) (a : Nat) (data : Bytes) (seq : Nat) : State :=
  let c := s.writeAnswer who a data.length
  if c ≠ MR.OK then s.respond c []
  else
    let tag := match who with
      | .bay _ => seq
      | .dma _ _ => seq
      | _ => 0
    (s.putMem a data tag).respond MR.OK []

/-- The class of a writer's request (R279): a bay's capture engine, the stream of a staging ring, or best effort. -/
def State.writerClass (s : State) (who : Writer) (a len : Nat) : MemClass :=
  match who with
  | .bay _ => .capture
  | .link st => if s.inStage a len st then .pattern else .bestEffort
  | _ => .bestEffort

/-- The class, the address and the length of a memory request. -/
def State.requestOf (s : State) : Instr → Option (MemClass × Nat × Nat)
  | .memRead cls addr len _ _ => some (cls, addr, len)
  | .memWrite who addr data _ => some (s.writerClass who addr data.length, addr, data.length)
  | _ => none

/-- Whether a memory request can be carried out: it is answered with no error (R274). -/
def State.carriesOut (s : State) : Instr → Bool
  | .memRead _ addr len _ _ => s.readAnswer addr len == MR.OK
  | .memWrite who addr data _ => s.writeAnswer who addr data.length == MR.OK
  | _ => true

/-- What a memory request does once it has its slots. -/
def State.serveRequest (s : State) : Instr → State
  | .memRead _ addr len seq eccs => s.readMem addr len seq eccs
  | .memWrite who addr data seq => s.writeMem who addr data seq.toNat
  | _ => s

/-- Whether a request must wait: a pseudo-channel that it touches has no slot for its class, or an older request waits there
(R279, R284). -/
def State.mustWait (s : State) (older : List Instr) (c : MemClass) (a len : Nat) : Bool :=
  !s.slotFor c a len || older.any (fun i => (s.requestOf i).any (fun r =>
    (pcsTouched r.2.1 r.2.2).any (fun pc => (pcsTouched a len).contains pc)))

/-- A memory request: it is carried out in its slots, or waits for them (R279).  One that cannot be carried out is answered at
once (R274). -/
def State.memRequest (s : State) (i : Instr) : State :=
  if s.carriesOut i = false then s.serveRequest i
  else match s.requestOf i with
  | none => s
  | some (c, a, len) =>
    if s.mustWait s.hbmQ.waits c a len then { s.modHbm (fun q => { q with waits := q.waits ++ [i] }) with reply := { busy := true } }
    else (s.takeSlots c a len).serveRequest i

/-- The requests that wait are carried out, oldest first, as far as their slots have come free. -/
def State.serveWaits (s : State) : List Instr → List Instr → State
  | [], still => s.modHbm (fun q => { q with waits := still })
  | i :: rest, still =>
    if s.carriesOut i = false then (s.serveRequest i).serveWaits rest still
    else match s.requestOf i with
    | none => s.serveWaits rest still
    | some (c, a, len) =>
      if s.mustWait still c a len then s.serveWaits rest (still ++ [i])
      else ((s.takeSlots c a len).serveRequest i).serveWaits rest still

/-- The memory goes on with the requests that wait. -/
def State.memTick (s : State) : State := if s.hbmQ.waits.isEmpty then s else s.serveWaits s.hbmQ.waits []

/-! ### Refresh and temperature (R286, R287) -/

/-- A catch-up ends on a pseudo-channel: it returns to NORMAL, and the longest catch-up is recorded (R283, R287). -/
def State.endCatchup (s : State) (pc : Nat) : State :=
  let i := stackOf pc
  let ns := (s.now - s.catchAt.get i 0) / 1000
  let s := s.setO (keyPc pc RPc.SCHED_MODE) 0
  if s.hot i then s.setO (keyStack i RStack.CATCHUP_MAX_NS) (max ns (s.getO (keyStack i RStack.CATCHUP_MAX_NS))) else s

/-- REFRESH (R286): a refresh that falls due is issued with those owed, or postponed, up to four times while the stack is not
HOT; while it is HOT a refresh waits only for the transactions already issued. -/
def State.refresh (s : State) (pc : Nat) (issued : Bool) : State :=
  let k := keyPc pc RPc.REFRESH_OWED
  let owed := s.getO k
  if issued then
    let s := s.setO k 0
    if s.getO (keyPc pc RPc.SCHED_MODE) = 1 ∧ s.pcDown pc = false then s.endCatchup pc else s
  else if s.hot (stackOf pc) then s.setO k (min (owed + 1) 16)
  else s.setO k (if owed < 4 then owed + 1 else owed)

/-- The pseudo-channels of a stack. -/
def pcsOf (i : Nat) : List Nat := (List.range 32).map (fun n => 32 * i + n)

/-- TEMP_READING (R286): above 85 °C sets HOT, at 83 °C or below clears it. -/
def State.tempReading (s : State) (i : Nat) (temp : Int) : State :=
  let s := s.setO (keyStack i RStack.STACK_TEMP) (ofSigned 16 temp)
  if 340 < temp ∧ s.hot i = false then
    let s := (s.setO (keyStack i RStack.HOT) 1).incO (keyStack i RStack.CATCHUPS)
    let s := { s with catchAt := s.catchAt.set i s.now }
    s.each (pcsOf i) (fun s pc =>
      let k := keyPc pc RPc.REFRESH_OWED
      (s.setO k (min (2 * s.getO k) 16)).setO (keyPc pc RPc.SCHED_MODE) 1)
  else if temp ≤ 332 ∧ s.hot i = true then
    let s := s.setO (keyStack i RStack.HOT) 0
    s.each (pcsOf i) (fun s pc => s.setO (keyPc pc RPc.REFRESH_OWED) (ceilDiv (s.getO (keyPc pc RPc.REFRESH_OWED)) 2))
  else s

/-! ### Recovery, scrub and retraining (R288 to R291) -/

/-- A pseudo-channel leaves service and is reported (R288, R289): 0 in training, 1 in recovery. -/
def State.pcFails (s : State) (pc cause : Nat) : State :=
  (s.setO (keyPc pc RPc.PC_STATE) PC.OUT).fault (0x140 + pc) 0x42 cause

/-- A pseudo-channel has been trained: it is ACTIVE, and its last 128 bytes carry the reference pattern (R268, R288). -/
def State.trained (s : State) (pc : Nat) : State :=
  (s.modHbm (fun q => { q with pcs := q.pcs.set (pc % 64) { q.pcs.get (Fin.ofNat 64 pc) with trained := true } (Nat.mod_lt _ (by decide)) })).setO
    (keyPc pc RPc.PC_STATE) PC.ACTIVE

/-- RECOVERY_STEP (R289): no step while refreshes are owed, or the stack is HOT or above 83 °C; 40 µs of service between
steps, and at most 32 steps. -/
def State.recoveryStep (s : State) (pc : Nat) (o : StepOutcome) : State :=
  let i := stackOf pc
  if s.pcState pc ≠ PC.RECOVERY ∨ s.getO (keyPc pc RPc.REFRESH_OWED) ≠ 0 ∨ s.hot i = true ∨
      332 < toSigned 16 (s.getO (keyStack i RStack.STACK_TEMP)) then s
  else
    let r := s.recovery.get pc (0, 0)
    let s := s.advance r.2
    let s := (s.incO (keyPc pc RPc.RECOVERY_STEPS)).setO (keyPc pc RPc.SCHED_MODE) 0
    let s := { s with recovery := s.recovery.set pc (r.1 + 1, s.now + 40000000) }
    match o with
    | .more => if 32 ≤ r.1 + 1 then s.pcFails pc 1 else s
    | .restored => s.setO (keyPc pc RPc.PC_STATE) PC.ACTIVE
    | .failed => s.pcFails pc 1

/-- The groups of a pseudo-channel (R268). -/
def groupsPerPc : Nat := 2516582

/-- The data address of a group of a pseudo-channel by its index (R272). -/
def groupAddr (pc index : Nat) : Nat := (index * 64 + (pc ^^^ (index % 64))) * 256

/-- SCRUB_STEP (R291): a group is read and its blocks checked; a pass ends when every group has been read once.  The
write-back of a corrected block restores what the block holds, and is dropped when a write has overtaken it. -/
def State.scrubStep (s : State) (pc index : Nat) (ecc : Ecc) : State :=
  if groupsPerPc ≤ index then s
  else
    let s := if s.pcDown pc then s else s.checkBlock (groupAddr pc index) ecc
    if s.scrubbed + 1 = 64 * groupsPerPc then ({ s with scrubbed := 0 }).incO R.SCRUB_PASSES
    else { s with scrubbed := s.scrubbed + 1 }

/-- Whether any bay is in ARMED, RUN or PAUSE. -/
def State.anyArmed (s : State) : Bool := (List.finRange 16).any s.armed

/-- HBM_RETRAIN_REQUEST (R290). -/
def State.retrain (s : State) (pc : Nat) : State :=
  s.hostModule (fun s => if s.anyArmed then s.answer ST.STATE_LOCKED
    else ((s.setO (keyPc pc RPc.PC_STATE) PC.TRAINING).setO (keyPc pc RPc.SCHED_MODE) 1).ok)

/-- A pseudo-channel's training and test end (R288, R290). -/
def State.retrained (s : State) (pc : Nat) (ok : Bool) : State :=
  if s.pcState pc = PC.TRAINING ∨ s.pcState pc = PC.TEST then
    if ok then (s.trained pc).setO (keyPc pc RPc.SCHED_MODE) 0 else s.pcFails pc 0
  else s

/-! ### Meanings -/

/-- MEM_READ (R270, R271, R274, R279). -/
def execMemRead (cls : MemClass) (addr len : Nat) (expectSeq : Option (BitVec 8)) (eccs : List Ecc) (s : State) :
    Host.Outcome State Fault Refusal :=
  .next (s.memRequest (.memRead cls addr len expectSeq eccs))

/-- MEM_WRITE (R271, R274, R277, R279, R284). -/
def execMemWrite (who : Writer) (addr : Nat) (data : Bytes) (seq : BitVec 8) (s : State) : Host.Outcome State Fault Refusal :=
  .next (s.memRequest (.memWrite who addr data seq))

/-- REFRESH (R286). -/
def execRefresh (pc : Pc) (issued : Bool) (s : State) : Host.Outcome State Fault Refusal := .next (s.refresh pc.val issued)

/-- TEMP_READING (R286). -/
def execTempReading (stack : Fin 2) (temp : Int) (s : State) : Host.Outcome State Fault Refusal := .next (s.tempReading stack.val temp)

/-- RECOVERY_STEP (R289). -/
def execRecoveryStep (pc : Pc) (outcome : StepOutcome) (s : State) : Host.Outcome State Fault Refusal :=
  .next (s.recoveryStep pc.val outcome)

/-- SCRUB_STEP (R291). -/
def execScrubStep (pc : Pc) (group : Nat) (_overtaken : Bool) (ecc : Ecc) (s : State) : Host.Outcome State Fault Refusal :=
  .next (s.scrubStep pc.val group ecc)

/-- HBM_RETRAIN_REQUEST (R290). -/
def execHbmRetrainRequest (pc : Pc) (s : State) : Host.Outcome State Fault Refusal := .next (s.retrain pc.val)

/-- HBM_RETRAIN_COMPLETE (R288, R290). -/
def execHbmRetrainComplete (pc : Pc) (ok : Bool) (s : State) : Host.Outcome State Fault Refusal := .next (s.retrained pc.val ok)

end Sys2Proof.Machine
end

