-- ==== Sys2Proof/Machine/Link.lean ====
section
/-! DEFINITION. The serial lanes, the Etrekai Link and its streams (R311 to R333). -/

namespace Sys2Proof.Machine

/-! ### Names -/

/-- The key of a lane's object, A010 + l (R333). -/
def keyLane (l : Lane) (sub : Nat) : Nat := key (0xA010 + l.val) sub
/-- The key of a link's object, A110 + k (R333). -/
def keyLink (k : Link) (sub : Nat) : Nat := key (0xA110 + k.val) sub
/-- The key of a stream's object, A140 + s (R333). -/
def keyStream (i : Stream) (sub : Nat) : Nat := key (0xA140 + i.val) sub
/-- An object of a lane. -/
def State.getL (s : State) (l : Lane) (sub : Nat) : Nat := s.getO (keyLane l sub)
/-- The state with an object of a lane written. -/
def State.setL (s : State) (l : Lane) (sub v : Nat) : State := s.setO (keyLane l sub) v
/-- An object of a link. -/
def State.getK (s : State) (k : Link) (sub : Nat) : Nat := s.getO (keyLink k sub)
/-- The state with an object of a link written. -/
def State.setK (s : State) (k : Link) (sub v : Nat) : State := s.setO (keyLink k sub) v
/-- An object of a stream. -/
def State.getT (s : State) (i : Stream) (sub : Nat) : Nat := s.getO (keyStream i sub)
/-- The state with an object of a stream written. -/
def State.setT (s : State) (i : Stream) (sub v : Nat) : State := s.setO (keyStream i sub) v
/-- What a lane holds beside its objects. -/
def State.lane (s : State) (l : Lane) : LaneU := s.lanes.get l
/-- A change of what a lane holds. -/
def State.modLane (s : State) (l : Lane) (f : LaneU → LaneU) : State := { s with lanes := s.lanes.set l.val (f (s.lanes.get l)) l.isLt }
/-- What a link holds beside its objects. -/
def State.link (s : State) (k : Link) : LinkU := s.links.get k
/-- A change of what a link holds. -/
def State.modLink (s : State) (k : Link) (f : LinkU → LinkU) : State := { s with links := s.links.set k.val (f (s.links.get k)) k.isLt }
/-- What a stream holds beside its objects. -/
def State.stream (s : State) (i : Stream) : StreamU := s.streams.get i
/-- A change of what a stream holds. -/
def State.modStream (s : State) (i : Stream) (f : StreamU → StreamU) : State :=
  { s with streams := s.streams.set i.val (f (s.streams.get i)) i.isLt }

/-- LANE_STATE values (R314). -/
abbrev LN.DISABLED : Nat := 0
/-- DETECT -/
abbrev LN.DETECT : Nat := 1
/-- TRAIN -/
abbrev LN.TRAIN : Nat := 2
/-- BIT_LOCK -/
abbrev LN.BIT_LOCK : Nat := 3
/-- BLOCK_LOCK -/
abbrev LN.BLOCK_LOCK : Nat := 4
/-- CAPS -/
abbrev LN.CAPS : Nat := 5
/-- ACTIVE -/
abbrev LN.ACTIVE : Nat := 6
/-- FAILED -/
abbrev LN.FAILED : Nat := 7
/-- LINK_STATE values (R333). -/
abbrev LK.DOWN : Nat := 0
/-- FORMING -/
abbrev LK.FORMING : Nat := 1
/-- UP -/
abbrev LK.UP : Nat := 2
/-- RE_FORMING -/
abbrev LK.RE_FORMING : Nat := 3
/-- STREAM_STATE values (R333). -/
abbrev SM.IDLE : Nat := 0
/-- OPEN -/
abbrev SM.OPEN : Nat := 1
/-- BROKEN -/
abbrev SM.BROKEN : Nat := 2

/-- A lane's state. -/
def State.laneState (s : State) (l : Lane) : Nat := s.getL l RLane.LANE_STATE
/-- A link's state. -/
def State.linkState (s : State) (k : Link) : Nat := s.getK k RLink.LINK_STATE
/-- A lane's flag set. -/
def State.flagLane (s : State) (l : Lane) (bit : Nat) : State := s.setL l RLane.LANE_FLAGS (orBit (s.getL l RLane.LANE_FLAGS) bit)
/-- A lane's event (R333): 0 LANE_UP, 1 LANE_DOWN, 2 FOM_RESTORE, 3 RETRAIN. -/
def State.laneEvent (s : State) (l : Lane) (k : Nat) : State := s.occur (1536 + 4 * l.val + k)

/-- The link a lane belongs to. -/
def State.linkOf (s : State) (l : Lane) : Option Link := (List.finRange 16).find? (fun k => k.val == s.getL l RLane.LINK)
/-- The lanes of a link that are ACTIVE, in ascending order. -/
def State.activeLanes (s : State) (k : Link) : List Nat :=
  ((List.finRange 32).filter (fun l => (s.getK k RLink.LINK_LANES).testBit l.val && s.laneState l == LN.ACTIVE)).map Fin.val

/-- LINK and LOGICAL_LANE of every lane follow LINK_LANES: logical numbers rise with the physical ones (R320). -/
def State.showLanes (s : State) : State :=
  s.each (List.finRange 32) (fun s l =>
    match (List.finRange 16).find? (fun k => (s.getK k RLink.LINK_LANES).testBit l.val) with
    | some k => (s.setL l RLane.LINK k.val).setL l RLane.LOGICAL_LANE (popCount (s.getK k RLink.LINK_LANES) l.val % 16)
    | none => (s.setL l RLane.LINK 0xFF).setL l RLane.LOGICAL_LANE 0)

/-! ### Streams (R328 to R332) -/

/-- The bay whose STAGE_STREAM names a stream (R329). -/
def State.stageBay (s : State) (i : Stream) : Option Bay := (List.finRange 16).find? (fun b => s.getB b RBay.STAGE_STREAM == i.val)
/-- A stream's destination (R329): 0 queue, 1 memory ring, 2 staging ring. -/
def State.dest (s : State) (i : Stream) : Nat := if (s.stageBay i).isSome then 2 else s.getT i RStream.DEST
/-- Whether a stream sends. -/
def State.sends (s : State) (i : Stream) : Bool := s.getT i RStream.DIRECTION == 1

/-- A stream's BROKEN state ends the package loads that read from it (R328, R389). -/
def State.breakStream (s : State) (i : Stream) : State :=
  if s.getT i RStream.STREAM_STATE = SM.OPEN then
    let s := (s.setT i RStream.STREAM_STATE SM.BROKEN).setT i RStream.CREDIT 0
    s.each ((List.finRange 16).filter (fun b => ((s.bay b).pkg.bind PkgLoad.stream) == some i.val)) State.pkgAbort
  else s

/-- The streams of a link. -/
def State.streamsOf (s : State) (k : Link) : List Stream := (List.finRange 64).filter (fun i => s.getT i RStream.STREAM_LINK == k.val)

/-- The free space behind an RX stream's consumer (R330). -/
def State.rxSpace (s : State) (i : Stream) : Nat :=
  match s.dest i, s.stageBay i with
  | 2, some b => s.getB b RBay.STAGE_SIZE - (s.getB b RBay.STAGE_WRITE - s.getB b RBay.STAGE_READ)
  | 1, _ => s.getT i RStream.RING_SIZE - (s.getT i RStream.RING_WRITE - s.getT i RStream.RING_CONSUMED)
  | _, _ => 65536 - (s.stream i).queue.length

/-- A length rounded up to credit's 64-byte units (R330). -/
def credits (n : Nat) : Nat := ceilDiv n 64 * 64

/-- Bytes written where the pseudo-channels take them: a block of the data space whose pseudo-channel is not ready answers NOT_READY
and is not written (R274; log 57). -/
def State.putReady (s : State) (a : Nat) (data : Bytes) (tag : Nat) : State :=
  if windowOf a = 1 ∧ s.spanDown a data.length = true then
    s.each ((blocksOf a data.length).filter (fun x => !s.pcDown (pcOf x))) (fun s x =>
      s.putMem (max a x) (slice data (max a x - a) (x + 64 - max a x)) tag)
  else s.putMem a data tag

/-- Bytes written into a ring from an offset, wrapping (R75, R329). -/
def State.ringPut (s : State) (base size off : Nat) (data : Bytes) (tag : Nat) : State :=
  if size = 0 then s
  else
    let o := off % size
    let n := min data.length (size - o)
    (s.putReady (base + o) (data.take n) tag).putReady base (data.drop n) tag

/-- The tag of a staging ring's blocks: the present epoch of the slot that the bay's LANE_FED entries name (R391). -/
def State.stageTag (s : State) (b : Bay) : Nat :=
  match ((s.validEntries b).map (·.2)).find? (fun e => entResid e == 3 && entEnc e) with
  | some e => s.slotEpoch (entKey e) * 256
  | none => 0

/-- A payload reaches its RX stream's destination (R329, R389): a package load on the ring's stream takes the bytes and
releases them. -/
def State.deliver (s : State) (i : Stream) (data : Bytes) : State :=
  let n := data.length
  let s := s.setT i RStream.BYTES ((s.getT i RStream.BYTES + n) % 2 ^ 64)
  match s.dest i, s.stageBay i with
  | 2, some b =>
    let w := s.getB b RBay.STAGE_WRITE
    (s.ringPut (s.getB b RBay.STAGE_BASE) (s.getB b RBay.STAGE_SIZE) w data (s.stageTag b)).setB b RBay.STAGE_WRITE (w + n)
  | 1, _ =>
    let w := s.getT i RStream.RING_WRITE
    let s := (s.ringPut (s.getT i RStream.RING_BASE) (s.getT i RStream.RING_SIZE) w data 0).setT i RStream.RING_WRITE (w + n)
    s.each ((List.finRange 16).filter (fun b => ((s.bay b).pkg.bind PkgLoad.stream) == some i.val)) (fun s b =>
      (s.modBay b (fun u => { u with pkg := u.pkg.map (fun l => { l with data := l.data ++ data }) })).setT i RStream.RING_CONSUMED (w + n))
  | _, _ => s.modStream i (fun u => { u with queue := u.queue ++ data })

/-! ### Width and state of a link (R320 to R322, R325, R326) -/

/-- The largest width a version allows for a number of lanes (R321). -/
def allowedWidth (version n : Nat) : Nat :=
  if 0x20 ≤ version then min n 16
  else if 16 ≤ n ∧ 0x11 ≤ version then 16
  else if 8 ≤ n then 8 else if 4 ≤ n then 4 else if 2 ≤ n then 2 else min n 1

/-- A lane rate in units of 10 kb/s (R311). -/
def rateUnits (v : Nat) : Nat :=
  match v with
  | 0 => 1031250
  | 1 => 1600000
  | 2 => 2578125
  | _ => 3200000

/-- WIDTH, PAYLOAD_RATE and SPARE follow the lanes a link stripes over (R321, R324). -/
def State.showWidth (s : State) (k : Link) : State :=
  let m := (s.link k).lanes
  let w := m.length
  let r := match m with
    | l :: _ => rateUnits (s.getL (Fin.ofNat 32 l) RLane.LANE_RATE)
    | [] => 0
  let s := (if s.getK k RLink.WIDTH = w then s else s.incO (keyLink k RLink.WIDTH_CHANGES)).setK k RLink.WIDTH w
  let s := s.setK k RLink.PAYLOAD_RATE (w * r * 119 / 100000)
  if s.getK k RLink.VERSION < 0x20 then
    s.each ((s.activeLanes k).filter (fun l => !m.contains l)) (fun s l => s.flagLane (Fin.ofNat 32 l) 5)
  else s

/-- A link goes DOWN: its replay buffer and credits are discarded and its streams become BROKEN (R328).
DEDUCED (log 31): OPEN streams. -/
def State.linkDown (s : State) (k : Link) : State :=
  let s := s.modLink k (fun u => { u with lanes := [], adds := [], firstAt := none, replay := [], tries := 0, nak := none })
  ((s.setK k RLink.LINK_STATE LK.DOWN).showWidth k).each (s.streamsOf k) State.breakStream

/-- A link enters RE_FORMING (R326). -/
def State.reform (s : State) (k : Link) : State :=
  if s.linkState k = LK.UP then s.setK k RLink.LINK_STATE LK.RE_FORMING else s

/-- The link stripes over given lanes, and goes DOWN below MIN_WIDTH (R322, R325). -/
def State.stripe (s : State) (k : Link) (lanes : List Nat) : State :=
  let s := (s.modLink k (fun u => { u with lanes := lanes })).showWidth k
  if lanes.length < max 1 (s.getK k RLink.MIN_WIDTH) then s.linkDown k else s

/-- A re-forming link restripes at the largest allowed width over its ACTIVE lanes (R326). -/
def State.restripe (s : State) (k : Link) : State :=
  let a := s.activeLanes k
  ((s.setK k RLink.LINK_STATE LK.UP).stripe k (a.take (allowedWidth (s.getK k RLink.VERSION) a.length))).modLink k (fun u => { u with adds := [] })

/-- A lane leaves its link under the version's width rule (R325, R326). -/
def State.leaveLink (s : State) (l : Lane) : State :=
  match s.linkOf l with
  | none => s
  | some k =>
    let s := s.modLink k (fun u => { u with adds := u.adds.filter (fun x => x ≠ l.val) })
    if (s.link k).lanes.contains l.val then
      if 0x20 ≤ s.getK k RLink.VERSION then s.stripe k ((s.link k).lanes.filter (fun x => x ≠ l.val))
      else (s.modLink k (fun u => { u with lanes := u.lanes.filter (fun x => x ≠ l.val) })).reform k
    else s

/-! ### Lane states (R314 to R319) -/

/-- A lane takes a state, and leaves ACTIVE with its event where it was there (R314, R316). -/
def State.setLane (s : State) (l : Lane) (st : Nat) : State :=
  let was := s.laneState l
  let s := s.setL l RLane.LANE_STATE st
  let s := s.modLane l (fun u => { u with windows := 0, ready := false, inWindow := decide (st = LN.TRAIN), caps := none, capsSent := 0, lowSince := none })
  if was = LN.ACTIVE ∧ st ≠ LN.ACTIVE then ((s.laneEvent l 1).leaveLink l) else s

/-- A lane retrains from step 2, with its reason, count and event (R314). -/
def State.retrainLane (s : State) (l : Lane) (reason : Nat) : State :=
  let s := (s.setLane l LN.TRAIN).modLane l (fun u => { u with notice := false })
  let s := (s.setL l RLane.RETRAIN_REASON reason).incO (keyLane l RLane.RETRAIN_COUNT)
  s.laneEvent l 3

/-- A lane fails: it waits for a retrain, and is reported (R314). -/
def State.failLane (s : State) (l : Lane) : State :=
  let s := s.setLane l LN.FAILED
  s.fault (0x180 + l.val) 0x48 (s.getL l RLane.LANE_FLAGS)

/-- A lane becomes ACTIVE: its flags are cleared but FOM_RESTORE, and its link takes it as its version allows (R321, R322,
R326, R333). -/
def State.laneUp (s : State) (l : Lane) : State :=
  let s := ((s.setLane l LN.ACTIVE).setL l RLane.LANE_FLAGS (s.getL l RLane.LANE_FLAGS % 2)).setL l RLane.ADAPT_STATE 0
  let s := s.laneEvent l 0
  match s.linkOf l with
  | none => s
  | some k =>
    let s := if (s.link k).firstAt = none then s.modLink k (fun u => { u with firstAt := some s.now }) else s
    if s.linkState k = LK.UP ∧ s.getK k RLink.VERSION < 0x20 then
      if s.getK k RLink.WIDTH < allowedWidth (s.getK k RLink.VERSION) (s.activeLanes k).length then s.reform k else s.flagLane l 5
    else s

/-- A committed rate reaches a lane (R319): whether it has been applied; inside a gathering window it waits for its end. -/
def State.applyRate (s : State) (l : Lane) (rate : Nat) : State × Bool :=
  let st := s.laneState l
  if st = LN.TRAIN ∧ (s.lane l).inWindow = true then (s.modLane l (fun u => { u with rateNew := some rate }), false)
  else if st = LN.DISABLED ∨ st = LN.DETECT ∨ st = LN.FAILED then (s.setL l RLane.LANE_RATE rate, true)
  else ((s.setL l RLane.LANE_RATE rate).retrainLane l 2, true)

/-- The largest integer up to 255 whose square is at most a number: FOM (R313). -/
def fomOf (eh ew : Nat) : Nat := ((List.range 256).filter (fun f => f * f ≤ eh * ew)).length - 1

/-- LANE_ENABLE (R314): a lane quad whose clock is stopped answers STATE_LOCKED (R14). -/
def State.hostLane (s : State) (l : Lane) (k : State → State) : State :=
  s.hostModule (fun s => if s.locked (19 + l.val / 8) then k s else s.answer ST.STATE_LOCKED)

/-- A lane's ENABLE is written (R314). -/
def State.enableLane (s : State) (l : Lane) (on : Bool) : State :=
  let s := s.setL l RLane.ENABLE (if on then 1 else 0)
  if on then (if s.laneState l = LN.DISABLED then s.setLane l LN.DETECT else s) else s.setLane l LN.DISABLED

/-- GATHER_WINDOW_END (R315, R319). -/
def State.windowEnd (s : State) (l : Lane) (eh ew : Nat) (eq : EqSet) : State :=
  if s.laneState l ≠ LN.TRAIN then s
  else match (s.lane l).rateNew with
    | some r =>
      let s := (s.modLane l (fun u => { u with rateNew := none })).setL l RLane.LANE_RATE r
      s.retrainLane l 2
    | none =>
      let f := fomOf eh ew
      let s := (s.setL l RLane.FOM f).setL l RLane.CTLE eq.ctle.toNat
      let s := { s with doms := s.doms.set (keyLane l RLane.DFE) (eq.dfe.take 12) }
      let n := if s.getL l RLane.FOM_MIN ≤ f then (s.lane l).windows + 1 else 0
      let s := s.modLane l (fun u => { u with windows := n })
      if 2 ≤ n ∧ (s.lane l).ready = false then
        let s := { s with doms := s.doms.set (keyLane l RLane.TRAINED_SET) (eq.ctle :: eq.dfe.take 12) }
        s.modLane l (fun u => { u with ready := true, inWindow := false })
      else s

/-! ### Capability exchange (R320, R321) -/

/-- The version a link runs at: the highest that both ends advertise (R321). -/
def agreedVersion (own major minor : Nat) : Nat :=
  let v := min own (major * 16 + minor)
  if 0x20 ≤ v then 0x20 else if 0x11 ≤ v then 0x11 else 0x10

/-- The rates a version admits (R321). -/
def versionRates (v : Nat) : Nat := if 0x20 ≤ v then 15 else if 0x11 ≤ v then 7 else 5

/-- Why a lane fails the capability exchange, as the bit of LANE_FLAGS (R321). -/
def State.capsFail (s : State) (l : Lane) (k : Link) (caps : Nat) : Option Nat :=
  let major := fieldOf caps 12 4
  let rate := s.getL l RLane.LANE_RATE
  let v := agreedVersion (s.getK k RLink.VERSION_MAX) major (fieldOf caps 8 4)
  let others := (s.activeLanes k).filter (fun x => x ≠ l.val)
  if major ≠ 1 ∧ major ≠ 2 then some 4
  else if !(versionRates v).testBit rate || !(fieldOf caps 16 4).testBit rate then some 1
  else if others.any (fun x => s.getL (Fin.ofNat 32 x) RLane.LANE_RATE ≠ rate) then some 1
  else if !others.isEmpty && s.getK k RLink.PARTNER_ID ≠ fieldOf caps 32 16 then some 6
  else none

/-- CAPS_EXCHANGE (R320, R321): three identical blocks have been received; the lane retrains where they do not agree. -/
def State.capsIn (s : State) (l : Lane) (caps : Nat) : State :=
  if s.laneState l ≠ LN.CAPS then s
  else match s.linkOf l with
    | none => s.modLane l (fun u => { u with caps := some caps, capsSent := 0 })
    | some k => match s.capsFail l k caps with
      | some bit => (s.flagLane l bit).retrainLane l 6
      | none =>
        let v := agreedVersion (s.getK k RLink.VERSION_MAX) (fieldOf caps 12 4) (fieldOf caps 8 4)
        let s := ((s.setK k RLink.VERSION v).setK k RLink.PARTNER_ID (fieldOf caps 32 16)).setL l RLane.PARTNER_LOGICAL (fieldOf caps 27 4)
        let s := s.modLink k (fun u => { u with gcm := caps.testBit 25 })
        s.modLane l (fun u => { u with caps := some caps, capsSent := 0 })

/-- CAPS_SEND (R320): the third block after the partner's three completes the exchange. -/
def State.capsOut (s : State) (l : Lane) : State :=
  if s.laneState l ≠ LN.CAPS then s
  else
    let n := (s.lane l).capsSent + 1
    if (s.lane l).caps.isSome ∧ 3 ≤ n then s.laneUp l else s.modLane l (fun u => { u with capsSent := n })

/-! ### Adaptation (R313, R317, R318) -/

/-- FOM_UPDATE (R313, R317): while adaptation is frozen, FOM below FOM_FLOOR loads the trained set, once per freeze. -/
def State.fomUpdate (s : State) (l : Lane) (eh ew : Nat) : State :=
  let st := s.laneState l
  if st = LN.DISABLED ∨ st = LN.DETECT ∨ st = LN.FAILED then s
  else
    let f := fomOf eh ew
    let s := s.setL l RLane.FOM f
    if st ≠ LN.ACTIVE then s
    else
      let low := decide (f < s.getL l RLane.FOM_FLOOR)
      if low ∧ s.getL l RLane.ADAPT_STATE = 1 then
        let set_ := s.doms.get (keyLane l RLane.TRAINED_SET) []
        let s := (s.setL l RLane.CTLE (ofBytes (set_.take 1))).flagLane l 0
        let s := { s with doms := s.doms.set (keyLane l RLane.DFE) (set_.drop 1) }
        ((s.setL l RLane.ADAPT_STATE 2).laneEvent l 2).modLane l (fun u => { u with lowSince := some s.now })
      else s.modLane l (fun u => { u with lowSince := if low then (match u.lowSince with
          | some t => some t
          | none => some s.now) else none })

/-- FOM_LOW (R317, R318): FOM below FOM_FLOOR for 1 ms while the lane adapts, or 1 ms after a restore. -/
def State.fomLow (s : State) (l : Lane) : State :=
  if s.laneState l ≠ LN.ACTIVE ∨ s.getL l RLane.ADAPT_STATE = 1 ∨ s.getL l RLane.FOM_FLOOR ≤ s.getL l RLane.FOM then s
  else match (s.lane l).lowSince with
    | some t => (s.advance (t + 1000000000)).retrainLane l 4
    | none => s

/-- ADAPT_RESUME (R317). -/
def State.adaptResume (s : State) (l : Lane) : State :=
  if s.laneState l ≠ LN.ACTIVE then s
  else
    let low := decide (s.getL l RLane.FOM < s.getL l RLane.FOM_FLOOR)
    let s := (s.setL l RLane.ADAPT_STATE 0).setL l RLane.LANE_FLAGS (clrBit (s.getL l RLane.LANE_FLAGS) 0)
    s.modLane l (fun u => { u with lowSince := if low then some s.now else none })

/-- HEADER_WINDOW (R316). -/
def State.headerWindow (s : State) (l : Lane) (invalid bad : Nat) : State :=
  let s := (s.setL l RLane.INVALID_HEADERS (satAdd 32 (s.getL l RLane.INVALID_HEADERS) invalid)).setL l RLane.BAD_BLOCKS
    (satAdd 32 (s.getL l RLane.BAD_BLOCKS) bad)
  if 32 ≤ invalid ∧ s.laneState l = LN.ACTIVE then s.retrainLane l 3 else s

/-- LANE_STEP_TIMEOUT (R314). -/
def State.stepTimeout (s : State) (l : Lane) : State :=
  let st := s.laneState l
  if st = LN.TRAIN ∨ st = LN.BIT_LOCK ∨ st = LN.BLOCK_LOCK then (s.flagLane l 3).failLane l
  else if st = LN.CAPS then (s.flagLane l 2).failLane l
  else s

/-! ### Frames and retry (R323, R327) -/

/-- The unacknowledged frames are sent again from the oldest; the eighth replay of one SEQ in a row takes the link DOWN and
reports it at its lowest lane (R327). -/
def State.replay (s : State) (k : Link) : State :=
  if (s.link k).replay.isEmpty ∨ s.linkState k = LK.DOWN then s
  else
    let s := (s.incO (keyLink k RLink.REPLAYS)).modLink k (fun u => { u with tries := u.tries + 1 })
    if 8 ≤ (s.link k).tries then
      let low := (lowestBit (s.getK k RLink.LINK_LANES) 32).getD 0
      (s.fault (0x180 + low) 0x49 k.val).linkDown k
    else s

/-- An acknowledgement frees the frames up to its SEQ (R327). -/
def State.ackFrames (s : State) (k : Link) (seq : Nat) : State :=
  let r := (s.link k).replay
  match r.findIdx? (fun f => f.seq == seq) with
  | some i => s.modLink k (fun u => { u with replay := r.drop (i + 1), tries := 0 })
  | none => s

/-- A protected frame is counted; the stream becomes BROKEN when the count reaches 2^40 (R393). -/
def State.countProtected (s : State) (i : Stream) : State :=
  if s.getT i RStream.PROTECT = 1 then
    let s := s.modStream i (fun u => { u with sent := u.sent + 1 })
    if 2 ^ 40 ≤ (s.stream i).sent then s.breakStream i else s
  else s

/-- FRAME_SEND (R327, R330): a frame goes out where the link is UP, the replay buffer has room and the stream has credit.
Data come from the stream's queue; a MARK frame carries its value. -/
def State.sendFrame (s : State) (k : Link) (i : Stream) (len : Nat) (mark : Option (BitVec 32)) (eom : Bool) : State :=
  let q := (s.stream i).queue
  let n := if mark.isSome then 4 else len
  let most := if s.getT i RStream.PROTECT = 1 then 1008 else 1024
  if s.linkState k ≠ LK.UP ∨ 1024 ≤ (s.link k).replay.length ∨ s.getT i RStream.STREAM_STATE ≠ SM.OPEN ∨ s.sends i = false ∨
      s.getT i RStream.STREAM_LINK ≠ k.val ∨ s.getT i RStream.CREDIT < credits n ∨ n = 0 ∨ most < n ∨
      (mark = none ∧ q.length < n) then s
  else
    let seq := (s.link k).txSeq
    let payload := match mark with
      | some v => toBytes 4 v.toNat
      | none => q.take n
    let f : SentFrame := ⟨seq, s.getT i RStream.REMOTE_STREAM, payload, mark.isSome, eom⟩
    let s := s.modLink k (fun u => { u with txSeq := (seq + 1) % 4096, replay := u.replay ++ [f] })
    let s := if mark.isSome then s else s.modStream i (fun u => { u with queue := q.drop n })
    let s := (s.setT i RStream.CREDIT (s.getT i RStream.CREDIT - credits n)).setT i RStream.BYTES ((s.getT i RStream.BYTES + n) % 2 ^ 64)
    s.countProtected i

/-- A frame that fails its CRC, its tag or its sequence is discarded; one NAK goes out per SEQ and REPLAY_TIMEOUT (R327,
R332). -/
def State.badFrame (s : State) (k : Link) : State :=
  let s := s.incO (keyLink k RLink.CRC_ERRORS)
  let seq := (s.link k).rxSeq
  let recent := match (s.link k).nak with
    | some (q, t) => q == seq && decide (s.now < t + s.getK k RLink.REPLAY_TIMEOUT * 1000000)
    | none => false
  if recent then s else s.modLink k (fun u => { u with nak := some (seq, s.now) })

/-- FRAME_RECEIVE (R327): in sequence and good, a frame reaches its stream; its credit is used. -/
def State.receiveFrame (s : State) (k : Link) (f : Frame) (tagOk : Bool) : State :=
  let i := f.stream
  let prot := s.getT i RStream.PROTECT == 1
  if s.linkState k ≠ LK.UP ∧ s.linkState k ≠ LK.RE_FORMING then s
  else if !f.crcOk || f.seq.toNat ≠ (s.link k).rxSeq || (prot && !tagOk) then s.badFrame k
  else
    let n := f.payload.length
    let open_ := s.getT i RStream.STREAM_STATE == SM.OPEN && s.getT i RStream.STREAM_LINK == k.val && !s.sends i
    let s := s.modLink k (fun u => { u with rxSeq := (u.rxSeq + 1) % 4096, nak := none })
    if !open_ || s.getT i RStream.CREDIT < credits n then s
    else
      let s := (s.setT i RStream.CREDIT (s.getT i RStream.CREDIT - credits n)).modStream i (fun u => { u with eom := f.eom })
      if f.mark then s.modStream i (fun u => { u with marker := some (ofBytes (f.payload.take 4)) })
      else s.deliver i f.payload

/-- CREDIT_GRANT (R330): what has been freed and not been granted yet. -/
def State.grantCredit (s : State) (i : Stream) : State :=
  if s.getT i RStream.STREAM_STATE ≠ SM.OPEN ∨ s.sends i = true then s
  else s.setT i RStream.CREDIT (max (s.getT i RStream.CREDIT) (s.rxSpace i / 64 * 64))

/-- STREAM_OPEN (R329, R332): its counts start, and a staging ring's stream starts with it. -/
def State.openStream (s : State) (i : Stream) (k_ : BitVec 256) : State :=
  let prot := s.getT i RStream.PROTECT == 1
  if s.getT i RStream.STREAM_STATE ≠ SM.IDLE then s.answer ST.STATE_LOCKED
  else match (List.finRange 16).find? (fun k => k.val == s.getT i RStream.STREAM_LINK) with
    | none => s.answer ST.STATE_LOCKED
    | some k =>
      if s.linkState k = LK.DOWN then s.answer ST.STATE_LOCKED
      else if prot && (decide (s.getK k RLink.VERSION < 0x11) || !(s.link k).gcm) then s.answer ST.VERSION_UNSUPPORTED
      else
        let s := s.each [RStream.BYTES, RStream.CREDIT, RStream.RING_WRITE, RStream.RING_CONSUMED] (fun s o => s.setT i o 0)
        let s := match s.stageBay i with
          | some b => (s.setB b RBay.STAGE_WRITE 0).setB b RBay.STAGE_READ 0
          | none => s
        let s := s.modStream i (fun _ => { key := if prot then some k_ else none })
        (s.setT i RStream.STREAM_STATE SM.OPEN).ok

/-- STREAM_RESET (R328): the stream is IDLE and holds nothing. -/
def State.resetStream (s : State) (i : Stream) : State :=
  let s := s.breakStream i
  (((s.modStream i (fun _ => {})).setT i RStream.CREDIT 0).setT i RStream.STREAM_STATE SM.IDLE).ok

/-- RING_CONSUMED_WRITE (R330, R333). -/
def State.consumeRing (s : State) (i : Stream) (v : Nat) : State :=
  let w := s.getT i RStream.RING_WRITE
  if v ≤ w ∧ w ≤ v + s.getT i RStream.RING_SIZE then (s.setT i RStream.RING_CONSUMED v).ok else s.answer ST.OUT_OF_RANGE

/-- MARKER (R322, R325, R326): the lanes deskew; pending adds and re-forms act. -/
def State.markerIn (s : State) (k : Link) (skew : Nat) : State :=
  if s.linkState k ≠ LK.UP ∧ s.linkState k ≠ LK.RE_FORMING then s
  else if 64 < skew then
    (s.each (s.link k).lanes (fun s l => s.flagLane (Fin.ofNat 32 l) 7)).reform k
  else if s.linkState k = LK.RE_FORMING then s.restripe k
  else match (s.link k).adds with
    | [] => s
    | a =>
      let s := s.modLink k (fun u => { u with adds := [] })
      let on := s.activeLanes k
      s.stripe k (on.filter (fun l => (s.link k).lanes.contains l || a.contains l))

/-- LINK_FORM (R322): the lanes ACTIVE within 1 ms of the first. -/
def State.formLink (s : State) (k : Link) : State :=
  match s.linkState k, (s.link k).firstAt with
  | 1, some t =>
    let s := s.advance (t + 1000000000)
    let a := s.activeLanes k
    let m := a.take (allowedWidth (s.getK k RLink.VERSION) a.length)
    if m.length < max 1 (s.getK k RLink.MIN_WIDTH) then s
    else (s.setK k RLink.LINK_STATE LK.UP).stripe k m
  | _, _ => s

/-- LINK_CTRL UP (R333): the link forms; its sequence numbers start. -/
def State.linkUp (s : State) (k : Link) : State :=
  if s.linkState k ≠ LK.DOWN then s.ok
  else
    let first := if (s.activeLanes k).isEmpty then none else some s.now
    ((s.modLink k (fun u => { u with txSeq := 0, rxSeq := 0, firstAt := first })).setK k RLink.LINK_STATE LK.FORMING).ok

/-- LANE_ADD (R325): a lane that is ACTIVE again joins at the next marker. -/
def State.laneAdd (s : State) (k : Link) (l : Lane) : State :=
  if s.linkOf l = some k ∧ s.laneState l = LN.ACTIVE ∧ 0x20 ≤ s.getK k RLink.VERSION ∧ s.linkState k = LK.UP ∧
      (s.link k).lanes.contains l.val = false ∧ (s.link k).adds.contains l.val = false then
    s.modLink k (fun u => { u with adds := u.adds ++ [l.val] })
  else s

/-- LANE_DROP (R325): both ends stripe over the remaining lanes; a drop cancels the add of the same lane. -/
def State.laneDrop (s : State) (k : Link) (l : Lane) : State :=
  let s := s.modLink k (fun u => { u with adds := u.adds.filter (fun x => x ≠ l.val) })
  if s.linkState k = LK.UP ∧ (s.link k).lanes.contains l.val = true then s.stripe k ((s.link k).lanes.filter (fun x => x ≠ l.val)) else s

/-- PKG_START (R389): the package is read from the ring as it arrives. -/
def State.pkgStart (s : State) (b : Bay) : State :=
  match (List.finRange 64).find? (fun i => i.val == s.getB b RBay.PKG_STREAM) with
  | none => s.answer ST.STATE_LOCKED
  | some i =>
    if s.dest i ≠ 1 ∨ s.sends i = true ∨ s.getT i RStream.STREAM_STATE ≠ SM.OPEN ∨ s.pkgReady b = false then s.answer ST.STATE_LOCKED
    else
      let w := s.getT i RStream.RING_WRITE
      let r := s.getT i RStream.RING_CONSUMED
      let size := s.getT i RStream.RING_SIZE
      let o := r % size
      let n := min (w - r) (size - o)
      let data := memRead s.mem (s.getT i RStream.RING_BASE + o) n ++ memRead s.mem (s.getT i RStream.RING_BASE) (w - r - n)
      let at_ := fun (a len : Nat) => if len = 0 ∨ windowOf a ≠ 1 then [] else blocksOf a len
      let blocks := at_ (s.getT i RStream.RING_BASE + o) n ++ at_ (s.getT i RStream.RING_BASE) (w - r - n)
      (s.setT i RStream.RING_CONSUMED w).pkgBegin b { data := data, stream := some i.val, blocks := blocks }

/-! ### Meanings -/

/-- LANE_ENABLE (R314). -/
def execLaneEnable (l : Lane) (on : Bool) (s : State) : Host.Outcome State Fault Refusal :=
  .next (s.hostLane l (fun s => (s.enableLane l on).ok))

/-- RECEIVER_DETECT (R314). -/
def execReceiverDetect (l : Lane) (found : Bool) (s : State) : Host.Outcome State Fault Refusal :=
  .next (if s.laneState l = LN.DETECT ∧ found = true then s.setLane l LN.TRAIN else s)

/-- TRAIN_COMPLETE (R315). -/
def execTrainComplete (l : Lane) (s : State) : Host.Outcome State Fault Refusal :=
  .next (if s.laneState l = LN.TRAIN ∧ (s.lane l).ready = true then s.setLane l LN.BIT_LOCK else s)

/-- BIT_LOCK (R314). -/
def execBitLock (l : Lane) (s : State) : Host.Outcome State Fault Refusal :=
  .next (if s.laneState l = LN.BIT_LOCK then s.setLane l LN.BLOCK_LOCK else s)

/-- BLOCK_LOCK (R314). -/
def execBlockLock (l : Lane) (s : State) : Host.Outcome State Fault Refusal :=
  .next (if s.laneState l = LN.BLOCK_LOCK then s.setLane l LN.CAPS else s)

/-- CAPS_EXCHANGE (R320, R321). -/
def execCapsExchange (l : Lane) (caps : BitVec 64) (s : State) : Host.Outcome State Fault Refusal := .next (s.capsIn l caps.toNat)

/-- CAPS_SEND (R320). -/
def execCapsSend (l : Lane) (s : State) : Host.Outcome State Fault Refusal := .next (s.capsOut l)

/-- LANE_STEP_TIMEOUT (R314). -/
def execLaneStepTimeout (l : Lane) (s : State) : Host.Outcome State Fault Refusal := .next (s.stepTimeout l)

/-- AUTO_RETRAIN (R314). -/
def execAutoRetrain (l : Lane) (s : State) : Host.Outcome State Fault Refusal :=
  .next (if s.laneState l = LN.FAILED ∧ s.getO R.AUTO_RETRAIN = 1 then s.setLane l LN.DETECT else s)

/-- HEADER_WINDOW (R312, R316). -/
def execHeaderWindow (l : Lane) (invalid badBlocks : BitVec 11) (s : State) : Host.Outcome State Fault Refusal :=
  .next (s.headerWindow l invalid.toNat badBlocks.toNat)

/-- FOM_UPDATE (R313, R317). -/
def execFomUpdate (l : Lane) (eh ew : BitVec 8) (s : State) : Host.Outcome State Fault Refusal := .next (s.fomUpdate l eh.toNat ew.toNat)

/-- ADAPT_FREEZE (R317). -/
def execAdaptFreeze (l : Lane) (s : State) : Host.Outcome State Fault Refusal :=
  .next (if s.laneState l = LN.ACTIVE ∧ s.getL l RLane.ADAPT_STATE = 0 then s.setL l RLane.ADAPT_STATE 1 else s)

/-- ADAPT_RESUME (R317). -/
def execAdaptResume (l : Lane) (s : State) : Host.Outcome State Fault Refusal := .next (s.adaptResume l)

/-- FOM_LOW (R317, R318). -/
def execFomLow (l : Lane) (s : State) : Host.Outcome State Fault Refusal := .next (s.fomLow l)

/-- LANE_RETRAIN_REQUEST (R314): of a lane whose partner is known. -/
def execLaneRetrainRequest (l : Lane) (s : State) : Host.Outcome State Fault Refusal :=
  .next (s.hostLane l (fun s =>
    if s.laneState l = LN.DISABLED ∨ s.laneState l = LN.DETECT then s.answer ST.STATE_LOCKED else (s.retrainLane l 1).ok))

/-- LINK_FORM (R322). -/
def execLinkForm (k : Link) (s : State) : Host.Outcome State Fault Refusal := .next (s.formLink k)

/-- LINK_CTRL_UP (R333). -/
def execLinkCtrlUp (k : Link) (s : State) : Host.Outcome State Fault Refusal := .next (s.hostModule (fun s => s.linkUp k))

/-- LINK_CTRL_DOWN (R328, R333). -/
def execLinkCtrlDown (k : Link) (s : State) : Host.Outcome State Fault Refusal := .next (s.hostModule (fun s => (s.linkDown k).ok))

/-- MARKER (R322, R325, R326). -/
def execMarker (k : Link) (skew : Nat) (s : State) : Host.Outcome State Fault Refusal := .next (s.markerIn k skew)

/-- FRAME_SEND (R323, R327, R330). -/
def execFrameSend (k : Link) (st : Stream) (len : Nat) (mark : Option (BitVec 32)) (eom : Bool) (s : State) :
    Host.Outcome State Fault Refusal :=
  .next (s.sendFrame k st len mark eom)

/-- FRAME_RECEIVE (R327, R329, R332). -/
def execFrameReceive (k : Link) (f : Frame) (tagOk : Bool) (s : State) : Host.Outcome State Fault Refusal := .next (s.receiveFrame k f tagOk)

/-- ACK (R327). -/
def execAck (k : Link) (seq : BitVec 12) (s : State) : Host.Outcome State Fault Refusal := .next (s.ackFrames k seq.toNat)

/-- NAK (R327): the replay starts from the oldest unacknowledged frame. -/
def execNak (k : Link) (_seq : BitVec 12) (s : State) : Host.Outcome State Fault Refusal := .next (s.replay k)

/-- CREDIT (R330): in 64-byte units. -/
def execCredit (k : Link) (st : Stream) (amount : BitVec 24) (s : State) : Host.Outcome State Fault Refusal :=
  .next (if s.getT st RStream.STREAM_LINK = k.val ∧ s.sends st = true ∧ s.getT st RStream.STREAM_STATE = SM.OPEN then
    s.setT st RStream.CREDIT ((s.getT st RStream.CREDIT + amount.toNat * 64) % 2 ^ 64) else s)

/-- LANE_DROP (R325). -/
def execLaneDrop (k : Link) (l : Lane) (s : State) : Host.Outcome State Fault Refusal := .next (s.laneDrop k l)

/-- LANE_ADD (R325). -/
def execLaneAdd (k : Link) (l : Lane) (s : State) : Host.Outcome State Fault Refusal := .next (s.laneAdd k l)

/-- RATE_NOTICE (R319): the partner's change of rate is announced; the lane's own change follows its training pattern. -/
def execRateNotice (l : Lane) (s : State) : Host.Outcome State Fault Refusal :=
  .next (if s.laneState l = LN.ACTIVE then s.modLane l (fun u => { u with notice := true }) else s)

/-- REPLAY_TIMEOUT (R327). -/
def execReplayTimeout (k : Link) (s : State) : Host.Outcome State Fault Refusal := .next (s.replay k)

/-- CREDIT_GRANT (R330). -/
def execCreditGrant (st : Stream) (s : State) : Host.Outcome State Fault Refusal := .next (s.grantCredit st)

/-- STREAM_OPEN (R329, R332). -/
def execStreamOpen (st : Stream) (key : BitVec 256) (s : State) : Host.Outcome State Fault Refusal :=
  .next (s.hostModule (fun s => s.openStream st key))

/-- STREAM_RESET (R328). -/
def execStreamReset (st : Stream) (s : State) : Host.Outcome State Fault Refusal := .next (s.hostModule (fun s => s.resetStream st))

/-- RING_CONSUMED_WRITE (R330). -/
def execRingConsumedWrite (st : Stream) (value : BitVec 64) (s : State) : Host.Outcome State Fault Refusal :=
  .next (s.hostModule (fun s => s.consumeRing st value.toNat))

/-- PARTNER_TRAINING (R316). -/
def execPartnerTraining (l : Lane) (s : State) : Host.Outcome State Fault Refusal :=
  .next (if s.laneState l = LN.ACTIVE then s.retrainLane l 5 else s)

/-- PKG_START (R389). -/
def execPkgStart (b : Bay) (epoch : BitVec 16) (s : State) : Host.Outcome State Fault Refusal :=
  .next (s.hostBay b epoch (fun s => s.pkgStart b))

end Sys2Proof.Machine
end

