-- ==== Sys2Proof/Machine/Dma.lean ====
section
/-! DEFINITION. The DMA engines: arbitration, descriptors, moves, completion, chains, programs and ports (R293 to R310). -/

namespace Sys2Proof.Machine

/-! ### Names -/

/-- A channel's number in the module. -/
def chanNo (e : Engine) (k : Fin 8) : Fin 32 := ⟨8 * e.val + k.val, by omega⟩
/-- The key of an engine's object, 9100 + e (R310). -/
def keyEng (e : Engine) (sub : Nat) : Nat := key (0x9100 + e.val) sub
/-- The key of a channel's object, 9110 + 8e + k (R310). -/
def keyDma (e : Engine) (k : Fin 8) (sub : Nat) : Nat := key (0x9110 + 8 * e.val + k.val) sub
/-- An object of a channel. -/
def State.getD (s : State) (e : Engine) (k : Fin 8) (sub : Nat) : Nat := s.getO (keyDma e k sub)
/-- The state with an object of a channel written. -/
def State.setD (s : State) (e : Engine) (k : Fin 8) (sub v : Nat) : State := s.setO (keyDma e k sub) v
/-- What a channel holds beside its objects. -/
def State.dma (s : State) (e : Engine) (k : Fin 8) : DmaU := s.dmas.get (chanNo e k)
/-- A change of what a channel holds. -/
def State.modDma (s : State) (e : Engine) (k : Fin 8) (f : DmaU → DmaU) : State :=
  { s with dmas := s.dmas.set (chanNo e k).val (f (s.dmas.get (chanNo e k))) (chanNo e k).isLt }

/-- CHAN_STATE values (R310). -/
abbrev CH.IDLE : Nat := 0
/-- RUNNING -/
abbrev CH.RUNNING : Nat := 1
/-- WAITING -/
abbrev CH.WAITING : Nat := 2
/-- HOLDING -/
abbrev CH.HOLDING : Nat := 3
/-- PAUSING -/
abbrev CH.PAUSING : Nat := 4
/-- PAUSED -/
abbrev CH.PAUSED : Nat := 5
/-- HALTED -/
abbrev CH.HALTED : Nat := 6

/-- A channel's state. -/
def State.chState (s : State) (e : Engine) (k : Fin 8) : Nat := s.getD e k RDma.CHAN_STATE
/-- Whether a channel runs programs (R295). -/
def isProg (k : Fin 8) : Bool := decide (k.val < 2)

/-! ### Arbitration (R293, R294) -/

/-- The channel an engine picks: a program channel first, channel 0 before channel 1, then the list channels in rotation
after the one it served last (R294). -/
def State.pickChan (s : State) (e : Engine) : Option (Fin 8) :=
  let last := s.dmaLast.get e.val 7
  let order : List (Fin 8) := [0, 1] ++ (List.range 6).map (fun i => Fin.ofNat 8 (2 + (last - 2 + 1 + i) % 6))
  order.find? (fun k => s.chState e k == CH.RUNNING)

/-- An engine that serves no channel picks the next that is ready (R293, R294). -/
def State.pick (s : State) (e : Engine) : State :=
  if s.getO (keyEng e REng.ACTIVE_CHANNEL) ≠ 0xFF then s
  else match s.pickChan e with
    | some k =>
      let s := s.setO (keyEng e REng.ACTIVE_CHANNEL) k.val
      if isProg k then s else { s with dmaLast := s.dmaLast.set e.val k.val }
    | none => s

/-- Whether an engine serves a channel. -/
def State.serves_ (s : State) (e : Engine) (k : Fin 8) : Bool := s.getO (keyEng e REng.ACTIVE_CHANNEL) == k.val

/-- A channel takes a state that is not RUNNING, or ends a descriptor: the engine is free and picks again (R293). -/
def State.leaves (s : State) (e : Engine) (k : Fin 8) (st : Nat) : State :=
  let s := s.setD e k RDma.CHAN_STATE st
  (if s.serves_ e k then s.setO (keyEng e REng.ACTIVE_CHANNEL) 0xFF else s).pick e

/-- A channel becomes ready, or PAUSED where PAUSE is set (R307). -/
def State.ready_ (s : State) (e : Engine) (k : Fin 8) : State :=
  if s.getD e k RDma.PAUSE = 1 then s.leaves e k CH.PAUSED else (s.setD e k RDma.CHAN_STATE CH.RUNNING).pick e

/-! ### Descriptors (R296 to R299) -/

/-- SRC or DST of a descriptor. -/
def dAddr (d : Nat) (dst : Bool) : Nat := fieldOf d (if dst then 64 else 0) 48
/-- SRC_PORT or DST_PORT. -/
def dPort (d : Nat) (dst : Bool) : Nat := fieldOf d (if dst then 112 else 48) 4
/-- STEP0 to STEP2 of a side. -/
def dStep (d : Nat) (dst : Bool) (j : Nat) : Int := toSigned 32 (fieldOf d ((if dst then 288 else 192) + 32 * j) 32)
/-- The counts of the loops. -/
def dCount (d j : Nat) : Nat := (if j = 0 then fieldOf d 128 24 else if j = 1 then fieldOf d 152 16 else fieldOf d 168 16) + 1
/-- The element size in bytes. -/
def dSize (d : Nat) : Nat := 2 ^ fieldOf d 184 3
/-- The bytes a descriptor moves (R297). -/
def dBytes (d : Nat) : Nat := dSize d * (dCount d 0 * dCount d 1 * dCount d 2)
/-- NEXT of a descriptor, as an address. -/
def dNext (d : Nat) : Nat := fieldOf d 384 42 * 64

/-- The reach of a memory side below and above its address (R298). -/
def dSpan (d : Nat) (dst : Bool) : Int × Int :=
  let r := fun (j : Nat) => dStep d dst j * (dCount d j - 1 : Nat)
  let a : Int := dAddr d dst
  (a + min 0 (r 0) + min 0 (r 1) + min 0 (r 2), a + max 0 (r 0) + max 0 (r 1) + max 0 (r 2) + dSize d - 1)

/-- Whether a move is one-dimensional (R299). -/
def oneDim (d : Nat) : Bool :=
  let z : Int := dSize d
  dCount d 1 == 1 && dCount d 2 == 1 && ((dStep d false 0 == z && dStep d true 0 == z) || (dStep d false 0 == -z && dStep d true 0 == -z))

/-- Whether the two spans of a descriptor between memory addresses share a byte (R298). -/
def dOverlap (d : Nat) : Bool :=
  let a := dSpan d false
  let b := dSpan d true
  dPort d false == 0 && dPort d true == 0 && decide (a.1 ≤ b.2) && decide (b.1 ≤ a.2)

/-- Whether the engine moves the bytes from the last to the first (R299). -/
def dReversed (d : Nat) : Bool :=
  dOverlap d && oneDim d &&
    (if dStep d true 0 < 0 then decide (dAddr d true < dAddr d false) else decide (dAddr d false < dAddr d true))

/-- A PORT_MAP entry of an engine, 0 for none. -/
def State.portMap (s : State) (e : Engine) (p : Nat) : Nat := s.getO (keyEng e (REng.PORT_MAP + p - 1))

/-- Whether a port entry is enabled and faces a side (R305). -/
def State.portFaces (s : State) (e : Engine) (k : Fin 8) (p : Nat) (dst : Bool) : Bool :=
  let v := s.portMap e p
  v.testBit 31 && match fieldOf v 0 4 with
    | 1 => dst
    | 2 => !dst
    | 3 => dst
    | 4 => k.val == 1
    | _ => false

/-- Whether a memory side's span stays in one window (R298). -/
def spanOk (d : Nat) (dst : Bool) : Bool :=
  let p := dSpan d dst
  decide (0 ≤ p.1) && windowSpan p.1.toNat (p.2 - p.1 + 1).toNat ≠ 0

/-- DMA errors (R309). -/
abbrev DE.FORMAT : Nat := 1
/-- DECODE -/
abbrev DE.DECODE : Nat := 2
/-- REGION -/
abbrev DE.REGION : Nat := 3
/-- OVERLAP -/
abbrev DE.OVERLAP : Nat := 4
/-- LOOP -/
abbrev DE.LOOP : Nat := 5
/-- DESC_FETCH -/
abbrev DE.DESC_FETCH : Nat := 6
/-- LOCKED -/
abbrev DE.LOCKED : Nat := 7
/-- POISON -/
abbrev DE.POISON : Nat := 8
/-- SEQ_MISMATCH -/
abbrev DE.SEQ_MISMATCH : Nat := 9
/-- NOT_READY -/
abbrev DE.NOT_READY : Nat := 10
/-- NORESP -/
abbrev DE.NORESP : Nat := 11
/-- PORT_REFUSED -/
abbrev DE.PORT_REFUSED : Nat := 12
/-- PORT_STALL -/
abbrev DE.PORT_STALL : Nat := 13
/-- WAIT_TIMEOUT -/
abbrev DE.WAIT_TIMEOUT : Nat := 14

/-- The error a memory response halts a channel with (R308). -/
def memError (code : Nat) : Nat :=
  match code with
  | 1 => DE.DECODE
  | 2 => DE.REGION
  | 3 => DE.LOCKED
  | 4 => DE.POISON
  | _ => DE.NOT_READY

/-- The check a descriptor fails, in the order of R298's table, 0 for none. -/
def State.descError (s : State) (e : Engine) (k : Fin 8) (d : Nat) : Nat :=
  let mem := fun (dst : Bool) => dPort d dst == 0
  let reserved := fieldOf d 52 4 ≠ 0 || fieldOf d 116 4 ≠ 0 || fieldOf d 187 5 ≠ 0 || fieldOf d 439 9 ≠ 0 || fieldOf d 480 32 ≠ 0
  let ports := [false, true].any (fun x => !mem x && !s.portFaces e k (dPort d x) x)
  let to_ := dSpan d true
  if reserved || fieldOf d 184 3 == 7 || (!isProg k && fieldOf d 432 7 ≠ 0) || ports || (!mem false && !mem true) then DE.FORMAT
  else if [false, true].any (fun x => mem x && !spanOk d x) then DE.DECODE
  else if mem true && (windowOf to_.1.toNat ≠ 1 || s.regionOf to_.1.toNat ≠ s.regionOf to_.2.toNat || s.regionOf to_.1.toNat == 1) then DE.REGION
  else if dOverlap d && !oneDim d then DE.OVERLAP
  else 0

/-- The element and the byte within it that the move's n-th byte belongs to. -/
def dIndex (d n : Nat) : Nat × Nat :=
  let j := if dReversed d then dBytes d - 1 - n else n
  (j / dSize d, j % dSize d)

/-- The address of an element's byte on a memory side (R297). -/
def dByte (d : Nat) (dst : Bool) (i : Nat × Nat) : Nat :=
  let i0 := i.1 % dCount d 0
  let i1 := i.1 / dCount d 0 % dCount d 1
  let i2 := i.1 / dCount d 0 / dCount d 1
  ((dAddr d dst : Int) + i0 * dStep d dst 0 + i1 * dStep d dst 1 + i2 * dStep d dst 2 + i.2).toNat

/-- The current position objects name the next byte of the move (R307). -/
def State.showPos (s : State) (e : Engine) (k : Fin 8) (d n : Nat) : State :=
  let i := dIndex d n
  let i0 := i.1 % dCount d 0
  let i1 := i.1 / dCount d 0 % dCount d 1
  let i2 := i.1 / dCount d 0 / dCount d 1
  let at_ := fun (dst : Bool) => if dPort d dst = 0 then dByte d dst i else 0
  ((s.setD e k RDma.CUR_SRC (at_ false)).setD e k RDma.CUR_DST (at_ true)).setD e k RDma.CUR_INDEX (i0 + i1 * 2 ^ 24 + i2 * 2 ^ 40)

/-! ### Halts (R308, R309) -/

/-- A channel halts: its error, the counts, the event and the report (R309). -/
def State.halt (s : State) (e : Engine) (k : Fin 8) (err addr : Nat) : State :=
  let s := ((s.setD e k RDma.ERROR err).setD e k RDma.ERROR_ADDR addr).incO (keyEng e REng.HALTS)
  let s := (s.modDma e k (fun u => { u with since := none })).event (1984 + 8 * e.val + k.val) err
  (s.fault (0x1B0 + e.val) 0x60 (k.val + err * 256)).leaves e k CH.HALTED

/-! ### Ports (R305, R370) -/

/-- What stands behind a port entry: 1 a stream to send, 2 a stream to receive, 3 a DOP EVENT buffer, 4 the Touchmark
unit; with its number. -/
def State.portOf (s : State) (e : Engine) (p : Nat) : Nat × Nat := (fieldOf (s.portMap e p) 0 4, fieldOf (s.portMap e p) 4 16)

/-- The most bytes of a data event on a port (R370). -/
def State.dataLen (s : State) (p : Fin 2) : Nat := s.getO (key (0xA210 + p.val) RPort.MTU) - 160

/-- A port's buffer sends its bytes as data events: whole ones, and at a descriptor's end what is left (R370). -/
def State.sendData (s : State) (p : Fin 2) (flush : Bool) : Nat → State
  | 0 => s
  | n + 1 =>
    let u := s.dataPorts.get p
    let m := max 1 (s.dataLen p)
    if 64 ≤ u.unacked.length ∨ u.buf = [] ∨ (u.buf.length < m ∧ flush = false) then s
    else
      let v := { u with seq := (u.seq + 1) % 2 ^ 32, buf := u.buf.drop m, unacked := u.unacked ++ [(u.seq, u.buf.take m)] }
      { s with dataPorts := s.dataPorts.set p.val v p.isLt }.sendData p flush n

/-- Whether a destination port takes bytes: 0 accepts, 1 holds, 2 refuses (R305, R370). -/
def State.portTakes (s : State) (q : Nat × Nat) : Nat :=
  match q.1 with
  | 3 =>
    let u := s.dataPorts.get (Fin.ofNat 2 q.2)
    if u.sub.isNone then 2 else if 64 ≤ u.unacked.length then 1 else 0
  | _ => 0

/-- Bytes accepted by a destination port. -/
def State.portPut (s : State) (q : Nat × Nat) (data : Bytes) : State :=
  match q.1 with
  | 1 => s.modStream (Fin.ofNat 64 q.2) (fun u => { u with queue := u.queue ++ data })
  | 3 =>
    let p : Fin 2 := Fin.ofNat 2 q.2
    let u := s.dataPorts.get p
    { s with dataPorts := s.dataPorts.set p.val { u with buf := u.buf ++ data } p.isLt }.sendData p false 64
  | _ => { s with tmPort := s.tmPort ++ data }

/-- The bytes a source port has to give, at most `n`. -/
def State.portGive (s : State) (q : Nat × Nat) (n : Nat) (data : Bytes) : Bytes :=
  match q.1 with
  | 2 => (s.stream (Fin.ofNat 64 q.2)).queue.take n
  | _ => data.take n

/-- The bytes a source port has given are gone from it. -/
def State.portDrop (s : State) (q : Nat × Nat) (n : Nat) : State :=
  match q.1 with
  | 2 => s.modStream (Fin.ofNat 64 q.2) (fun u => { u with queue := u.queue.drop n })
  | _ => s

/-! ### Moves (R297, R299, R300, R308) -/

/-- How many of the move's next bytes lie in one source block, at most 64. -/
def runLength (d : Nat) (n : Nat) : Nat → Nat
  | 0 => 0
  | f + 1 =>
    if dBytes d ≤ n then 0
    else if dByte d false (dIndex d n) / 64 = dByte d false (dIndex d (n + 1)) / 64 ∧ n + 1 < dBytes d then 1 + runLength d (n + 1) f
    else 1

/-- The tag a channel stamps (R271, R297). -/
def State.dmaTag (s : State) (d : Nat) : Nat := fieldOf d 120 8 + (if d.testBit 438 then s.slotEpoch (fieldOf d 432 6) * 256 else 0)

/-- Bytes of the move written to memory one after another; none left, or the first write that fails with its response and
address. -/
def State.moveBytes (s : State) (e : Engine) (k : Fin 8) (d : Nat) (n : Nat) : Bytes → State × Nat × Option (Nat × Nat)
  | [] => (s, n, none)
  | b :: bs =>
    let a := dByte d true (dIndex d n)
    let c := s.writeAnswer (.dma e k) a 1
    if c ≠ MR.OK then (s, n, some (c, a / 64 * 64)) else (s.putMem a [b] (s.dmaTag d)).moveBytes e k d (n + 1) bs

/-- The progress of a move: BYTES_DONE, the engine's BYTES_MOVED and the current position (R301, R307). -/
def State.moved (s : State) (e : Engine) (k : Fin 8) (d from_ to_ : Nat) : State :=
  let n := to_ - from_
  let s := s.setD e k RDma.BYTES_DONE ((s.getD e k RDma.BYTES_DONE + n) % 2 ^ 64)
  let s := s.setO (keyEng e REng.BYTES_MOVED) ((s.getO (keyEng e REng.BYTES_MOVED) + n) % 2 ^ 64)
  ((s.modDma e k (fun u => { u with pos := to_, since := none })).showPos e k d (min to_ (dBytes d - 1)))

/-- A port holds the access (R305). -/
def State.portHeld (s : State) (e : Engine) (k : Fin 8) : State :=
  s.modDma e k (fun u => { u with since := match u.since with
    | some t => some t
    | none => some s.now })

/-- Bytes from the source go to the destination: a memory side byte by byte, a port side as it takes them. -/
def State.moveOut (s : State) (e : Engine) (k : Fin 8) (d n : Nat) (data : Bytes) (q : Nat × Nat) : State :=
  if dPort d true = 0 then
    let r := s.moveBytes e k d n data
    let s := (r.1.portDrop q (r.2.1 - n)).moved e k d n r.2.1
    match r.2.2 with
    | some f => s.halt e k (memError f.1) f.2
    | none => s
  else
    let t := s.portOf e (dPort d true)
    match s.portTakes t with
    | 0 => (s.portPut t data).moved e k d n (n + data.length)
    | 1 => s.portHeld e k
    | _ => s.halt e k DE.PORT_REFUSED 0

/-- The next source block of a move is read and its bytes written (R300, R308). -/
def State.moveBlock (s : State) (e : Engine) (k : Fin 8) (d n : Nat) (ecc : Ecc) : State :=
  let a := dByte d false (dIndex d n) / 64 * 64
  let c := s.readAnswer a 64
  if c ≠ MR.OK then s.halt e k (memError c) a
  else
    let s := if windowOf a = 1 then s.checkBlock a ecc else s
    if windowOf a = 1 ∧ ecc = .uncorrectable then s.halt e k DE.POISON a
    else if windowOf a = 1 ∧ d.testBit 429 = true ∧ s.tagSeq a ≠ fieldOf d 56 8 then s.halt e k DE.SEQ_MISMATCH a
    else
      let data := (List.range (runLength d n 64)).map (fun i => memGet s.mem (dByte d false (dIndex d (n + i))))
      s.moveOut e k d n data (0, 0)

/-- DMA_ACCESS_RESPONSE (R305, R308): the next access of the move is answered.  Memory never holds or refuses one. -/
def State.accessResponse (s : State) (e : Engine) (k : Fin 8) (r : AccessAnswer) : State :=
  let u := s.dma e k
  if s.serves_ e k = false ∨ (s.chState e k ≠ CH.RUNNING ∧ s.chState e k ≠ CH.PAUSING) then s
  else match u.desc with
    | none => s
    | some d =>
      let port := dPort d false ≠ 0 ∨ dPort d true ≠ 0
      if dBytes d ≤ u.pos then s
      else match r with
        | .held => if port then s.portHeld e k else s
        | .refused => if port then s.halt e k DE.PORT_REFUSED 0 else s
        | .carried ecc data =>
          if dPort d false = 0 then s.moveBlock e k d u.pos ecc
          else
            let q := s.portOf e (dPort d false)
            let got := s.portGive q (min 64 (dBytes d - u.pos)) data
            if got.isEmpty then s.portHeld e k else s.moveOut e k d u.pos got q

/-! ### Completion and chains (R301 to R303) -/

/-- The bindings of running graphs that name a channel (R247). -/
def State.dmaBindings (s : State) (e : Engine) (k : Fin 8) : List Nat :=
  (List.range 64).flatMap (fun g =>
    if s.getG g RGraph.GRAPH_STATE = GS.RUNNING ∨ s.getG g RGraph.GRAPH_STATE = GS.DRAINING ∨ s.getG g RGraph.GRAPH_STATE = GS.SITE_STALE then
      ((List.range 64).filter (fun i =>
        let b := s.binding g i
        bnType b == 3 && fieldOf (bnSource b) 5 2 == e.val && fieldOf (bnSource b) 0 3 == k.val)).map (bindKey g)
    else [])

/-- The completion word (R301). -/
def compWord (e : Engine) (k : Fin 8) (user status done : Nat) : Nat :=
  user + status * 2 ^ 32 + k.val * 2 ^ 40 + e.val * 2 ^ 43 + done % 2 ^ 19 * 2 ^ 45

/-- A completion word is posted to the channel's bindings, which hold the channel until they accept it, or raised as
DMA_DESC_DONE where no binding names it (R301). -/
def State.postWord (s : State) (e : Engine) (k : Fin 8) (user status : Nat) : State × Bool :=
  match s.dmaBindings e k with
  | [] => (s.event (1920 + 8 * e.val + k.val) user, false)
  | bs => (s.each bs (fun s b => { s with dmaPosts := s.dmaPosts.set b (compWord e k user status (s.dma e k).done + 1) }), true)

/-- Whether a completion of a channel has not been accepted yet. -/
def State.wordHeld (s : State) (e : Engine) (k : Fin 8) : Bool := (s.dmaBindings e k).any (fun b => s.dmaPosts.get b 0 ≠ 0)

/-- What follows a completed descriptor: the end of the chain, LOOP, or the next fetch; a program goes on (R302 to R304). -/
def State.follow (s : State) (e : Engine) (k : Fin 8) : State :=
  let u := s.dma e k
  let s := s.modDma e k (fun u => { u with desc := none, pos := 0, ended := false })
  if isProg k then (s.modDma e k (fun u => { u with pc := u.pc + 1 })).ready_ e k
  else match u.desc with
    | none => s.ready_ e k
    | some d =>
      if d.testBit 426 then (s.event (1952 + 8 * e.val + k.val) (s.getD e k RDma.HOPS)).leaves e k CH.IDLE
      else
        let s := s.setD e k RDma.CUR_DESC (dNext d)
        let s := if d.testBit 427 then s.setD e k RDma.HOPS 0 else s
        if s.getD e k RDma.HOPS = s.getD e k RDma.HOP_LIMIT then s.halt e k DE.LOOP 0
        else
          let s := s.setD e k RDma.HOPS (satAdd 32 (s.getD e k RDma.HOPS) 1)
          (s.modDma e k (fun u => { u with fetch := true })).ready_ e k

/-- A descriptor ends with a status: it counts, its word is posted where NOTIFY is set, and the channel holds or goes on
(R301). -/
def State.descEnds (s : State) (e : Engine) (k : Fin 8) (d status : Nat) : State :=
  let s := s.setD e k RDma.DESC_DONE ((s.getD e k RDma.DESC_DONE + 1) % 2 ^ 64)
  let s := s.modDma e k (fun u => { u with done := u.done + 1, ended := true })
  let q := s.portOf e (dPort d true)
  let s := if dPort d true ≠ 0 ∧ q.1 = 3 then s.sendData (Fin.ofNat 2 q.2) true 64 else s
  let r := if d.testBit 428 then s.postWord e k (fieldOf d 448 32) status else (s, false)
  let s := r.1
  let s := if s.serves_ e k then s.setO (keyEng e REng.ACTIVE_CHANNEL) 0xFF else s
  if r.2 then s.leaves e k CH.HOLDING else (s.follow e k).pick e

/-- DESC_COMPLETE (R301). -/
def State.descComplete (s : State) (e : Engine) (k : Fin 8) : State :=
  let u := s.dma e k
  match u.desc with
  | some d =>
    if s.serves_ e k = true ∧ (s.chState e k = CH.RUNNING ∨ s.chState e k = CH.PAUSING) ∧ dBytes d ≤ u.pos ∧ u.ended = false then
      s.descEnds e k d 0
    else s
  | none => s

/-- The channels that hold a completion which has been accepted go on (R301). -/
def State.releaseHeld (s : State) : State :=
  s.each (List.finRange 4) (fun s e => s.each (List.finRange 8) (fun s k =>
    if s.chState e k = CH.HOLDING ∧ s.wordHeld e k = false then s.follow e k else s))

/-- DESC_FETCH (R298, R302): the descriptor is checked, or the channel halts. -/
def State.descFetch (s : State) (e : Engine) (k : Fin 8) (ecc : Ecc) : State :=
  let a := s.getD e k RDma.CUR_DESC
  if s.serves_ e k = false ∨ s.chState e k ≠ CH.RUNNING ∨ (s.dma e k).fetch = false then s
  else
    let c := s.readAnswer a 64
    let s := if c = MR.OK ∧ windowOf a = 1 then s.checkBlock a ecc else s
    if c ≠ MR.OK ∨ (windowOf a = 1 ∧ ecc = .uncorrectable) then s.halt e k DE.DESC_FETCH a
    else
      let d := ofBytes (memRead s.mem a 64)
      let s := s.modDma e k (fun u => { u with desc := some d, fetch := false, pos := 0, since := none, ended := false })
      let err := s.descError e k d
      if err ≠ 0 then s.halt e k err 0
      else (s.setD e k RDma.REVERSED (if dReversed d then 1 else 0)).showPos e k d 0

/-! ### Control (R302, R307, R309) -/

/-- CHAN_START (R302, R304, R310). -/
def State.chanStart (s : State) (e : Engine) (k : Fin 8) : State :=
  if s.chState e k ≠ CH.IDLE ∨ (k.val = 0 ∧ s.coreOut = true) then s.answer ST.STATE_LOCKED
  else
    let s := s.each [RDma.ERROR, RDma.ERROR_ADDR, RDma.DESC_DONE, RDma.BYTES_DONE, RDma.REVERSED] (fun s o => s.setD e k o 0)
    let s := (s.setD e k RDma.HOPS (if isProg k then 0 else 1)).setD e k RDma.CUR_DESC (s.getD e k RDma.CHAIN_HEAD)
    let s := s.modDma e k (fun _ => { fetch := !isProg k })
    (s.ready_ e k).ok

/-- CHAN_RETRY (R309): the failed access, fetch, instruction or wait runs again. -/
def State.chanRetry (s : State) (e : Engine) (k : Fin 8) : State :=
  if s.chState e k ≠ CH.HALTED then s.answer ST.STATE_LOCKED
  else
    let err := s.getD e k RDma.ERROR
    if err = DE.LOOP then (s.halt e k DE.LOOP 0).ok
    else
      let again := decide (err = DE.DESC_FETCH) || ((s.dma e k).desc.isSome && (s.dma e k).pos == 0)
      let s := s.modDma e k (fun u => { u with fetch := again, since := none, desc := if again then none else u.desc })
      (if err = DE.WAIT_TIMEOUT then
        (s.modDma e k (fun u => { u with waitDue := s.now + s.getD e k RDma.WAIT_LIMIT * 1000000000 })).setD e k RDma.CHAN_STATE CH.WAITING
      else s.ready_ e k).ok

/-- CHAN_SKIP (R309): the next descriptor, as if the halted one had completed with its error; without a descriptor there is
none to skip. -/
def State.chanSkip (s : State) (e : Engine) (k : Fin 8) : State :=
  if s.chState e k ≠ CH.HALTED then s.answer ST.STATE_LOCKED
  else match (s.dma e k).desc with
    | some d => (s.descEnds e k d (s.getD e k RDma.ERROR)).ok
    | none => if isProg k then (s.modDma e k (fun u => { u with wait := none, fetch := false })).follow e k |>.ok else s.answer ST.STATE_LOCKED

/-- CHAN_ABORT (R309): the chain ends and nothing further is written. -/
def State.chanAbort (s : State) (e : Engine) (k : Fin 8) : State :=
  ((s.modDma e k (fun u => { u with desc := none, fetch := false, wait := none, since := none })).leaves e k CH.IDLE).ok

/-- DMA_PAUSE_WRITE (R307). -/
def State.pauseWrite (s : State) (e : Engine) (k : Fin 8) (on : Bool) : State :=
  let s := s.setD e k RDma.PAUSE (if on then 1 else 0)
  let st := s.chState e k
  (if on then
    if st = CH.RUNNING then (if s.serves_ e k ∧ (s.dma e k).desc.isSome then s.setD e k RDma.CHAN_STATE CH.PAUSING else s.leaves e k CH.PAUSED)
    else s
  else if st = CH.PAUSED then s.ready_ e k
  else if st = CH.PAUSING then s.setD e k RDma.CHAN_STATE CH.RUNNING
  else s).ok

/-! ### Programs (R304) -/

/-- The address of a program's present instruction. -/
def State.progAddr (s : State) (e : Engine) (k : Fin 8) : Nat := s.getD e k RDma.CHAIN_HEAD + 16 * (s.dma e k).pc

/-- A program channel's engine runs its present instruction where its opcode is the one named; an instruction that cannot
be read, or is not one, halts it (R304). -/
def State.progRun (s : State) (e : Engine) (k2 : Fin 2) (op : Nat) (ecc : Ecc) (f : Nat → State → State) : State :=
  let k : Fin 8 := ⟨k2.val, by omega⟩
  let u := s.dma e k
  if s.serves_ e k = false ∨ s.chState e k ≠ CH.RUNNING ∨ u.desc.isSome = true ∨ u.fetch = true then s
  else
    let a := s.progAddr e k
    let s := s.setD e k RDma.CUR_DESC a
    if 4096 ≤ u.pc then s.halt e k DE.FORMAT 0
    else if s.readAnswer a 16 ≠ MR.OK then s.halt e k DE.DESC_FETCH a
    else
      let s := if windowOf a = 1 then s.checkBlock a ecc else s
      if windowOf a = 1 ∧ ecc = .uncorrectable then s.halt e k DE.DESC_FETCH a
      else
        let i := ofBytes (memRead s.mem a 16)
        let o := fieldOf i 0 8
        if o = 0 ∨ 9 < o ∨ fieldOf i 10 6 ≠ 0 ∨ fieldOf i 96 32 ≠ 0 then s.halt e k DE.FORMAT 0
        else if o = op then f i s else s

/-- K of an instruction. -/
def piK (i : Nat) : Fin 4 := Fin.ofNat 4 (fieldOf i 8 2)
/-- ADDR -/
abbrev piAddr (i : Nat) : Nat := fieldOf i 16 48
/-- IMM -/
abbrev piImm (i : Nat) : Nat := fieldOf i 64 32

/-- A program channel as a channel. -/
def progChan (k : Fin 2) : Fin 8 := ⟨k.val, by omega⟩

/-- A program continues at an instruction. -/
def State.progTo (s : State) (e : Engine) (k : Fin 2) (pc : Nat) : State := s.modDma e (progChan k) (fun u => { u with pc := pc })
/-- A program continues with its next instruction. -/
def State.progNext (s : State) (e : Engine) (k : Fin 2) : State := s.progTo e k ((s.dma e (progChan k)).pc + 1)

/-- A wait begins: the channel is not ready (R294, R304). -/
def State.progWait (s : State) (e : Engine) (k : Fin 2) (w : DmaWait) : State :=
  let due := s.now + s.getD e (progChan k) RDma.WAIT_LIMIT * 1000000000
  (s.modDma e (progChan k) (fun u => { u with wait := some w, waitDue := due })).leaves e (progChan k) CH.WAITING

/-- A wait ends and the program continues. -/
def State.progAwake (s : State) (e : Engine) (k : Fin 2) : State :=
  ((s.modDma e (progChan k) (fun u => { u with wait := none })).progNext e k).ready_ e (progChan k)

/-- Whether what a program waits for has come, or the error its poll of the word gets. -/
def State.waitOver (s : State) : DmaWait → Except (Nat × Nat) Bool
  | .event n seen => .ok (s.getO (key (0xC400 + n) RSrc.COUNT) ≠ seen)
  | .word a v => if s.readAnswer a 4 ≠ MR.OK then .error (memError (s.readAnswer a 4), a) else .ok (ofBytes (memRead s.mem a 4) == v)

/-- A program's wait is looked at: the word by a poll, the event or word by its arrival (R304), the word's block checked as it is
read (R270). -/
def State.progCheck (s : State) (e : Engine) (k : Fin 2) (pollOnly : Bool) (ecc : Ecc) : State :=
  if s.chState e (progChan k) ≠ CH.WAITING then s
  else match (s.dma e (progChan k)).wait with
    | none => s
    | some (.event n seen) => if pollOnly then s else match s.waitOver (.event n seen) with
      | .ok true => s.progAwake e k
      | _ => s
    | some (.word a v) =>
      let here := decide (s.readAnswer a 4 = MR.OK ∧ windowOf a = 1)
      let t := if here then s.checkBlock a ecc else s
      if here && ecc == .uncorrectable then t.halt e (progChan k) (memError MR.POISON) a
      else match s.waitOver (.word a v) with
      | .ok true => t.progAwake e k
      | .ok false => t
      | .error f => t.halt e (progChan k) f.1 f.2

/-- PROG_WRITE (R304): IMM to the 32-bit word at ADDR. -/
def State.progStore (s : State) (e : Engine) (k : Fin 2) (a v : Nat) : State :=
  let c := s.writeAnswer (.dma e (progChan k)) a 4
  if c ≠ MR.OK then s.halt e (progChan k) (memError c) a else (s.putMem a (toBytes 4 v) 0).progNext e k

/-- PROG_SIGNAL (R304): a completion word with USER = IMM. -/
def State.progSignal (s : State) (e : Engine) (k : Fin 2) (v : Nat) : State :=
  let r := s.postWord e (progChan k) v 0
  if r.2 then r.1.leaves e (progChan k) CH.HOLDING else r.1.progNext e k

/-! ### Meanings -/

/-- BINDING_POST (R247, R254): a DMA channel that held its completion for the post goes on (R301). -/
def execBindingPost (g : Graph) (i : Fin 64) (s : State) : Host.Outcome State Fault Refusal := .next (s.bindPost g.val i.val).releaseHeld

/-- CHAN_START (R302). -/
def execChanStart (e : Engine) (k : Fin 8) (s : State) : Host.Outcome State Fault Refusal := .next (s.hostModule (fun s => s.chanStart e k))

/-- CHAN_RETRY (R309). -/
def execChanRetry (e : Engine) (k : Fin 8) (s : State) : Host.Outcome State Fault Refusal := .next (s.hostModule (fun s => s.chanRetry e k))

/-- CHAN_SKIP (R309). -/
def execChanSkip (e : Engine) (k : Fin 8) (s : State) : Host.Outcome State Fault Refusal := .next (s.hostModule (fun s => s.chanSkip e k))

/-- CHAN_ABORT (R309). -/
def execChanAbort (e : Engine) (k : Fin 8) (s : State) : Host.Outcome State Fault Refusal := .next (s.hostModule (fun s => s.chanAbort e k))

/-- DMA_PAUSE_WRITE (R307). -/
def execDmaPauseWrite (e : Engine) (k : Fin 8) (on : Bool) (s : State) : Host.Outcome State Fault Refusal :=
  .next (s.hostModule (fun s => s.pauseWrite e k on))

/-- DMA_PAUSED (R307). -/
def execDmaPaused (e : Engine) (k : Fin 8) (s : State) : Host.Outcome State Fault Refusal :=
  .next (if s.chState e k = CH.PAUSING then s.leaves e k CH.PAUSED else s)

/-- DESC_FETCH (R298, R302). -/
def execDescFetch (e : Engine) (k : Fin 8) (ecc : Ecc) (s : State) : Host.Outcome State Fault Refusal := .next (s.descFetch e k ecc)

/-- DMA_ACCESS_RESPONSE (R305, R308). -/
def execDmaAccessResponse (e : Engine) (k : Fin 8) (answer : AccessAnswer) (s : State) : Host.Outcome State Fault Refusal :=
  .next (s.accessResponse e k answer)

/-- DESC_COMPLETE (R301 to R303). -/
def execDescComplete (e : Engine) (k : Fin 8) (s : State) : Host.Outcome State Fault Refusal := .next (s.descComplete e k)

/-- PROG_MOVE (R304): the descriptor at ADDR is fetched. -/
def execProgMove (e : Engine) (k : Fin 2) (ecc : Ecc) (s : State) : Host.Outcome State Fault Refusal :=
  .next (s.progRun e k 1 ecc (fun i s => (s.setD e (progChan k) RDma.CUR_DESC (piAddr i)).modDma e (progChan k) (fun u => { u with fetch := true })))

/-- PROG_SET (R304). -/
def execProgSet (e : Engine) (k : Fin 2) (ecc : Ecc) (s : State) : Host.Outcome State Fault Refusal :=
  .next (s.progRun e k 2 ecc (fun i s =>
    (s.modDma e (progChan k) (fun u => { u with counts := u.counts.set (piK i).val (piImm i) (piK i).isLt })).progNext e k))

/-- PROG_LOOP (R304). -/
def execProgLoop (e : Engine) (k : Fin 2) (ecc : Ecc) (s : State) : Host.Outcome State Fault Refusal :=
  .next (s.progRun e k 3 ecc (fun i s =>
    let n := ((s.dma e (progChan k)).counts.get (piK i) + 2 ^ 32 - 1) % 2 ^ 32
    let s := s.modDma e (progChan k) (fun u => { u with counts := u.counts.set (piK i).val n (piK i).isLt })
    if n ≠ 0 then s.progTo e k (piAddr i % 4096) else s.progNext e k))

/-- PROG_JUMP (R304). -/
def execProgJump (e : Engine) (k : Fin 2) (ecc : Ecc) (s : State) : Host.Outcome State Fault Refusal :=
  .next (s.progRun e k 4 ecc (fun i s => s.progTo e k (piAddr i % 4096)))

/-- PROG_WAIT_EVENT (R304). -/
def execProgWaitEvent (e : Engine) (k : Fin 2) (ecc : Ecc) (s : State) : Host.Outcome State Fault Refusal :=
  .next (s.progRun e k 5 ecc (fun i s => s.progWait e k (.event (piImm i % 2048) (s.getO (key (0xC400 + piImm i % 2048) RSrc.COUNT)))))

/-- PROG_WAIT_WORD (R304). -/
def execProgWaitWord (e : Engine) (k : Fin 2) (ecc : Ecc) (s : State) : Host.Outcome State Fault Refusal :=
  .next (s.progRun e k 6 ecc (fun i s => s.progWait e k (.word (piAddr i) (piImm i))))

/-- PROG_WAIT_POLL (R304). -/
def execProgWaitPoll (e : Engine) (k : Fin 2) (ecc : Ecc) (s : State) : Host.Outcome State Fault Refusal := .next (s.progCheck e k true ecc)

/-- PROG_WAIT_RELEASE (R304). -/
def execProgWaitRelease (e : Engine) (k : Fin 2) (ecc : Ecc) (s : State) : Host.Outcome State Fault Refusal := .next (s.progCheck e k false ecc)

/-- PROG_WAIT_TIMEOUT (R304). -/
def execProgWaitTimeout (e : Engine) (k : Fin 2) (s : State) : Host.Outcome State Fault Refusal :=
  .next (if s.chState e (progChan k) = CH.WAITING then
    (s.advance (s.dma e (progChan k)).waitDue).halt e (progChan k) DE.WAIT_TIMEOUT 0 else s)

/-- PROG_WRITE (R304). -/
def execProgWrite (e : Engine) (k : Fin 2) (ecc : Ecc) (s : State) : Host.Outcome State Fault Refusal :=
  .next (s.progRun e k 7 ecc (fun i s => s.progStore e k (piAddr i) (piImm i)))

/-- PROG_SIGNAL (R304). -/
def execProgSignal (e : Engine) (k : Fin 2) (ecc : Ecc) (s : State) : Host.Outcome State Fault Refusal :=
  .next (s.progRun e k 8 ecc (fun i s => s.progSignal e k (piImm i)))

/-- PROG_END (R304). -/
def execProgEnd (e : Engine) (k : Fin 2) (ecc : Ecc) (s : State) : Host.Outcome State Fault Refusal :=
  .next (s.progRun e k 9 ecc (fun _ s => s.leaves e (progChan k) CH.IDLE))

/-- PORT_STALL (R305): an access held for PORT_WAIT. -/
def execPortStall (e : Engine) (k : Fin 8) (s : State) : Host.Outcome State Fault Refusal :=
  .next (match (s.dma e k).since with
    | some t => if s.serves_ e k then (s.advance (t + s.getO (keyEng e REng.PORT_WAIT) * 1000000)).halt e k DE.PORT_STALL 0 else s
    | none => s)

/-- NORESP (R306): a port access without an answer; memory always answers. -/
def execNoresp (e : Engine) (k : Fin 8) (s : State) : Host.Outcome State Fault Refusal :=
  .next (match (s.dma e k).desc with
    | some d =>
      if s.serves_ e k = true ∧ (s.chState e k = CH.RUNNING ∨ s.chState e k = CH.PAUSING) ∧ (dPort d false ≠ 0 ∨ dPort d true ≠ 0) ∧
          (s.dma e k).pos < dBytes d then s.halt e k DE.NORESP 0
      else s
    | none => s)

end Sys2Proof.Machine
end

