-- ==== Sys2Proof/Machine/Net.lean ====
section
/-! DEFINITION. The control ports, PTP timestamps, the local clock and the time-pulse generators (R334 to R349). -/

namespace Sys2Proof.Machine

/-- The key of a port's object, A210 + p (R349). -/
def keyPort (p : Fin 2) (sub : Nat) : Nat := key (0xA210 + p.val) sub
/-- The key of a TPG's object, A320 + n (R349). -/
def keyTpg (n : Tpg) (sub : Nat) : Nat := key (0xA320 + n.val) sub
/-- A change of what a port holds. -/
def State.modNet (s : State) (p : Fin 2) (f : NetPort → NetPort) : State := { s with nets := s.nets.set p.val (f (s.nets.get p)) p.isLt }
/-- What a TPG holds beside its objects. -/
def State.tpg (s : State) (n : Tpg) : TpgU := s.tpgs.get n
/-- A change of what a TPG holds. -/
def State.modTpg (s : State) (n : Tpg) (f : TpgU → TpgU) : State := { s with tpgs := s.tpgs.set n.val (f (s.tpgs.get n)) n.isLt }
/-- An object of a TPG. -/
def State.getTpg (s : State) (n : Tpg) (sub : Nat) : Nat := s.getO (keyTpg n sub)

/-! ### Ports (R334, R335) -/

/-- A port's transmit timestamp queue is written, with its count. -/
def State.setTsq (s : State) (p : Fin 2) (q : List Bytes) : State :=
  (s.modNet p (fun u => { u with queue := q })).setO (keyPort p RPort.TSQ_COUNT) q.length

/-- PORT_MODE_WRITE (R334, R345): a change takes the port down and empties its queue. -/
def State.portMode (s : State) (p : Fin 2) (mode : Nat) : State :=
  if 2 < mode then s.answer ST.OUT_OF_RANGE
  else if s.getO (keyPort p RPort.PORT_MODE) = mode then s.ok
  else (((s.setO (keyPort p RPort.PORT_MODE) mode).setO (keyPort p RPort.PORT_LINK) 0).setTsq p []).ok

/-- Whether a port's link is up. -/
def State.portUp (s : State) (p : Fin 2) : Bool := s.getO (keyPort p RPort.PORT_LINK) == 1

/-- PORT_LINK_DOWN (R335): the lost link is reported. -/
def State.portDown (s : State) (p : Fin 2) : State :=
  if s.portUp p then (s.setO (keyPort p RPort.PORT_LINK) 0).fault (0x1D0 + p.val) 0x68 0 else s

/-! ### Timestamps (R342 to R345) -/

/-- An instant in 0.25 ns with a correction in 0.1 ns, rounded to the nearest 0.25 ns with halves up (R343). -/
def correctedTime (t : Nat) (tenths : Int) : Nat := ofSigned 64 (Int.fdiv (10 * (t : Int) + 4 * tenths + 5) 10)

/-- The ingress timestamp of an instant (R343). -/
def State.ingress (s : State) (p : Fin 2) : Nat := correctedTime s.netTime (-(toSigned 16 (s.getO (keyPort p RPort.ING_ASYM))))
/-- The egress timestamp of an instant (R343). -/
def State.egress (s : State) (p : Fin 2) : Nat := correctedTime s.netTime (toSigned 16 (s.getO (keyPort p RPort.EGR_ASYM)))

/-- CLOCK_STATE values (R341). -/
abbrev CK.FREE : Nat := 0
/-- ACQUIRING -/
abbrev CK.ACQUIRING : Nat := 1
/-- LOCKED -/
abbrev CK.LOCKED : Nat := 2
/-- HOLDOVER -/
abbrev CK.HOLDOVER : Nat := 3

/-- A Sync reaches the servo (R341): LOCKED after 16 in a row within LOCK_LIMIT.  With SERVO_MODE EXTERNAL it stays
passive, and while no control core runs there is none. -/
def State.servo (s : State) (offset : Int) : State :=
  if s.getO R.SERVO_MODE = 1 ∨ s.coreOut = true then s
  else if (s.getO R.LOCK_LIMIT : Int) < offset ∨ offset < -(s.getO R.LOCK_LIMIT : Int) then
    { s with syncOk := 0 }.setO R.CLOCK_STATE CK.ACQUIRING
  else
    let n := min (s.syncOk + 1) 16
    { s with syncOk := n }.setO R.CLOCK_STATE (if 16 ≤ n ∨ s.getO R.CLOCK_STATE = CK.LOCKED then CK.LOCKED else CK.ACQUIRING)

/-- ETH_FRAME_RX (R335, R342): a frame of the port's VLAN and MTU is delivered or answered; every other is discarded and
counted. -/
def State.frameIn (s : State) (p : Fin 2) (f : EthFrame) : State :=
  if s.getO (keyPort p RPort.PORT_MODE) = 0 ∨ s.portUp p = false then s
  else
    let fits := (f.vlan.toNat == 0 || f.vlan.toNat == s.getO (keyPort p RPort.VLAN)) && decide (f.len ≤ s.getO (keyPort p RPort.MTU))
    let known := match f.kind with
      | .answered => true
      | .udp q => q.toNat == s.getO (keyPort p RPort.DOP_UDP_PORT) || q.toNat == 319 || q.toNat == 320
      | .ethertype t => t.toNat == 0x88F7
      | .ptpEvent _ _ => true
      | .ptpAnnounce _ => true
    if !(fits && known) then s.incO (keyPort p RPort.RX_DISCARDS)
    else match f.kind with
      | .ptpEvent t o =>
        let s := s.modNet p (fun u => { u with rx := some (s.ingress p) })
        if t.toNat = 0 then s.servo o else s
      | .ptpAnnounce u => s.setO R.UTC_OFFSET u.toNat
      | _ => s

/-- A transmit timestamp entry (R345). -/
def State.tsqEntry (s : State) (p : Fin 2) (m : PtpMsg) (t : Nat) : Bytes :=
  let q := m.seq.toNat
  toBytes 16 (t + q % 16 * 2 ^ 64 + (q / 16 + m.type.toNat * 2 ^ 12) * 2 ^ 80 + m.domain.toNat * 2 ^ 96 +
    s.getO R.TIME_STEPS % 256 * 2 ^ 104 + s.getO (keyPort p RPort.PTP_TRANSPORT) * 2 ^ 112 + 2 ^ 114)

/-- PTP_EVENT_TX (R343 to R345): a one-step Sync carries its time; every other event message's timestamp is queued. -/
def State.ptpOut (s : State) (p : Fin 2) (m : PtpMsg) : State :=
  let t := s.egress p
  if s.portUp p = false then s
  else if m.type.toNat = 0 ∧ s.getO (keyPort p RPort.ONE_STEP) = 1 then
    s.modNet p (fun u => { u with sync := some (t / 4000000000 % 2 ^ 48, t % 4000000000 / 4, t % 4 * 16384) })
  else
    let q := (s.nets.get p).queue
    if 32 ≤ q.length then s.incO (keyPort p RPort.TSQ_OVERFLOW) else s.setTsq p (q ++ [s.tsqEntry p m t])

/-- TSQ_ENTRY_READ (R345): an empty queue gives an entry with VALID clear. -/
def State.tsqRead (s : State) (p : Fin 2) : State :=
  match (s.nets.get p).queue with
  | [] => s.answerBody (toBytes 16 0)
  | e :: q => (s.setTsq p q).answerBody e

/-! ### Firing (R346, R347) -/

/-- The ridge lines of a mask. -/
def linesOf (mask : Nat) : List Nat := (List.range 32).filter (fun l => mask.testBit l)

/-- A firing reaches its destinations (R347): TRIG lands and ridge lines for WIDTH, the TPG's condition in its bays, and the
starts of the sites whose start event it is. -/
def State.fireTpg (s : State) (n : Tpg) (late : Bool) (endsAt : Nat) : State :=
  let s := s.setO (keyTpg n RTpg.FIRINGS) ((s.getTpg n RTpg.FIRINGS + 1) % 2 ^ 64)
  let s := s.setO (keyTpg n RTpg.LATE) (if late then 1 else 0)
  let s := { s with trigOut := s.trigOut ||| s.getTpg n RTpg.TRIG_OUT }
  let s := s.each (linesOf (s.getTpg n RTpg.RIDGE_OUT)) (fun s l => s.driveRidge l true)
  let s := s.modTpg n (fun u => { u with pulse := some (endsAt, s.getTpg n RTpg.TRIG_OUT, s.getTpg n RTpg.RIDGE_OUT) })
  let out := s.getTpg n RTpg.BAY_OUT
  let bays := (List.finRange 16).filter (fun b => out.testBit b.val)
  let s := s.each bays (fun s b => if s.bayDown b then s.dropEvent b.val else (s.latch b (0x48 + n.val)).edgeTrigger b 6 n.val 7)
  s.each (List.finRange 64) (fun s i =>
    if s.siteKind i ≠ 0 ∧ Config.startEvent 1 n.val i.val = true then
      s.each ((s.members i).filter (fun b => out.testBit b.val && s.bst b == BS.ARMED)) State.startBay
    else s)

/-- The grid point after one, none for a one-shot TPG (R346). -/
def State.nextGrid (s : State) (n : Tpg) (at_ : Nat) : Option Nat :=
  let p := s.getTpg n RTpg.PERIOD
  if p = 0 then none else some (at_ + p)

/-- The first count of the counter, on an XCLK edge, at which network time reaches a value (R338, R346). -/
def State.countAt (s : State) (t : Nat) : Nat :=
  let d := toSigned 64 ((t + 2 ^ 64 - s.getO R.OFFSET) % 2 ^ 64)
  let r : Int := 2 ^ 40 + toSigned 64 (s.getO R.RATE_SET)
  if d ≤ 0 ∨ r ≤ 0 then 0 else ceilDiv (ceilDiv (d.toNat * 2 ^ 40) r.toNat) 5 * 5

/-- Time goes on until network time reaches a value, where it has not yet. -/
def State.untilTime (s : State) (t : Nat) : State :=
  match s.counterOn with
  | none => s
  | some t0 => s.advance (t0 + 250 * s.countAt t)

/-- TPG_FIRE (R346): network time reaches the grid point. -/
def State.tpgFire (s : State) (n : Tpg) : State :=
  match s.getTpg n RTpg.ENABLE, (s.tpg n).next, s.counterOn with
  | 1, some g, some _ =>
    let s := s.untilTime g
    (s.modTpg n (fun u => { u with next := s.nextGrid n g })).fireTpg n false (s.netTime + s.getTpg n RTpg.WIDTH)
  | _, _, _ => s

/-- TPG_PULSE_END (R346): WIDTH has elapsed. -/
def State.tpgPulseEnd (s : State) (n : Tpg) : State :=
  match (s.tpg n).pulse with
  | none => s
  | some (t, lands, lines) =>
    let s := (s.untilTime t).modTpg n (fun u => { u with pulse := none })
    let s := { s with trigOut := (List.range 8).foldl (fun v i => if lands.testBit i then clrBit v i else v) s.trigOut }
    s.each (linesOf lines) (fun s l => s.driveRidge l false)

/-! ### The local clock (R338, R339, R348) -/

/-- The counter at the edge a write is applied at: a whole XCLK count (R338, R339). -/
def State.edgeCount (s : State) : Nat := s.extCount / 5 * 5

/-- floor(c × RATE / 2^40) (R338). -/
def rateTerm (rate c : Nat) : Int := Int.fdiv ((c : Int) * toSigned 64 rate) (2 ^ 40)

/-- A TPG whose grid points a forward step has passed fires once, late (R348). -/
def State.lateFire (s : State) (n : Tpg) : State :=
  match s.getTpg n RTpg.ENABLE, (s.tpg n).next with
  | 1, some g =>
    let t := s.netTime
    if t < g then s
    else
      let p := s.getTpg n RTpg.PERIOD
      let passed := if p = 0 then 1 else (t - g) / p + 1
      let s := s.setO (keyTpg n RTpg.SKIPPED) (satAdd 32 (s.getTpg n RTpg.SKIPPED) (passed - 1))
      let s := s.modTpg n (fun u => { u with next := if p = 0 then none else some (g + passed * p) })
      s.fireTpg n true (t + s.getTpg n RTpg.WIDTH)
  | _, _ => s

/-- OFFSET changes: a change other than 0 is a time step, counted and raised, and the TPGs it passes fire late (R339,
R348). -/
def State.timeStep (s : State) (offset : Nat) : State :=
  if s.getO R.OFFSET = offset then s
  else
    let n := (s.getO R.TIME_STEPS + 1) % 2 ^ 32
    let s := ((s.setO R.OFFSET offset).setO R.TIME_STEPS n).event 2024 n
    s.each (List.finRange 8) State.lateFire

/-- A write of the local clock: the counter runs (R338). -/
def State.clockWrite (s : State) (k : State → State) : State := if s.counterOn.isNone then s.answer ST.STATE_LOCKED else k s

/-- RATE_SET (R339): time continues without a step. -/
def State.rateSet (s : State) (rate : Nat) : State :=
  let r := toSigned 64 rate
  if 1099511627 < r ∨ r < -1099511627 then s.answer ST.OUT_OF_RANGE
  else
    let c := s.edgeCount
    let off : Int := (s.getO R.OFFSET : Int) + rateTerm (s.getO R.RATE_SET) c - rateTerm rate c
    ((s.setO R.OFFSET (ofSigned 64 off)).setO R.RATE_SET rate).ok

/-- OFFSET_ADJUST (R339). -/
def State.offsetAdjust (s : State) (amount : Nat) : State :=
  let a := toSigned 64 amount
  if 2 ^ 62 < a ∨ a < -(2 ^ 62) then s.answer ST.OUT_OF_RANGE
  else (s.timeStep (ofSigned 64 ((s.getO R.OFFSET : Int) + a))).ok

/-- TIME_SET (R339). -/
def State.timeSet (s : State) (t : Nat) : State :=
  let c := s.edgeCount
  (s.timeStep (ofSigned 64 ((t : Int) - c - rateTerm (s.getO R.RATE_SET) c))).ok

/-! ### Enabling a TPG (R346, R347) -/

/-- The claim a resource lacks for a feature: its owner, or unit 0xFFF while nobody holds it. -/
def State.lacks (s : State) (r : Resource) (feature : Nat) : Option Nat :=
  if s.claimedFor r feature then none
  else some (claimDetail (match s.claim r with
    | some c => c
    | none => ⟨0xFFF, 0⟩))

/-- The claim that refuses a TPG's ENABLE (R346, R347). -/
def State.tpgLacks (s : State) (n : Tpg) : Option Nat :=
  (s.lacks (.tpg n) 0x0C).or
    (((List.finRange 8).findSome? (fun m => if (s.getTpg n RTpg.TRIG_OUT).testBit m.val then s.lacks (.trig m) 0x06 else none)).or
      ((List.finRange 32).findSome? (fun l => if (s.getTpg n RTpg.RIDGE_OUT).testBit l.val then s.lacks (.ridge l) 0x08 else none)))

/-- Whether WIDTH lies in the range for PERIOD (R346). -/
def widthOk (period width : Nat) : Bool :=
  decide (40 ≤ width) && (if period = 0 then decide (width ≤ 15999999960) else decide (width + 40 ≤ period))

/-- TPG_ENABLE (R346, R347). -/
def State.tpgEnable (s : State) (n : Tpg) (on : Bool) : State :=
  if !on then ((s.setO (keyTpg n RTpg.ENABLE) 0).modTpg n (fun u => { u with next := none })).ok
  else if s.getTpg n RTpg.ENABLE = 1 then s.ok
  else
    let t := s.netTime
    let start := s.getTpg n RTpg.START
    let p := s.getTpg n RTpg.PERIOD
    let first := if p = 0 ∨ t ≤ start then start else start + ceilDiv (t + 40000 - start) p * p
    match s.tpgLacks n with
    | some d => s.answerD ST.RESOURCE_CLAIMED d
    | none =>
      if widthOk p (s.getTpg n RTpg.WIDTH) = false ∨ (p = 0 ∧ start < t + 40000) then s.answer ST.OUT_OF_RANGE
      else
        let s := s.each [RTpg.FIRINGS, RTpg.LATE, RTpg.SKIPPED] (fun s o => s.setO (keyTpg n o) 0)
        ((s.setO (keyTpg n RTpg.ENABLE) 1).modTpg n (fun u => { u with next := some first })).ok

/-! ### Meanings -/

/-- PORT_MODE_WRITE (R334). -/
def execPortModeWrite (p : Fin 2) (mode : BitVec 8) (s : State) : Host.Outcome State Fault Refusal :=
  .next (s.hostModule (fun s => s.portMode p mode.toNat))

/-- ETH_FRAME_RX (R335, R342). -/
def execEthFrameRx (p : Fin 2) (f : EthFrame) (s : State) : Host.Outcome State Fault Refusal := .next (s.frameIn p f)

/-- PORT_LINK_DOWN (R335). -/
def execPortLinkDown (p : Fin 2) (s : State) : Host.Outcome State Fault Refusal := .next (s.portDown p)

/-- PORT_LINK_UP (R335): of a port whose transmitter is on. -/
def execPortLinkUp (p : Fin 2) (s : State) : Host.Outcome State Fault Refusal :=
  .next (if s.getO (keyPort p RPort.PORT_MODE) = 0 then s else s.setO (keyPort p RPort.PORT_LINK) 1)

/-- PTP_EVENT_TX (R343 to R345). -/
def execPtpEventTx (p : Fin 2) (m : PtpMsg) (s : State) : Host.Outcome State Fault Refusal := .next (s.ptpOut p m)

/-- TSQ_ENTRY_READ (R345). -/
def execTsqEntryRead (p : Fin 2) (s : State) : Host.Outcome State Fault Refusal := .next (s.hostModule (fun s => s.tsqRead p))

/-- SYNC_LOSS (R341). -/
def execSyncLoss (s : State) : Host.Outcome State Fault Refusal :=
  .next (if s.getO R.CLOCK_STATE = CK.FREE then s else { s with syncOk := 0 }.setO R.CLOCK_STATE CK.HOLDOVER)

/-- RATE_SET (R339). -/
def execRateSet (rate : BitVec 64) (s : State) : Host.Outcome State Fault Refusal := .next (s.clockWrite (fun s => s.rateSet rate.toNat))

/-- OFFSET_ADJUST (R339, R348). -/
def execOffsetAdjust (amount : BitVec 64) (s : State) : Host.Outcome State Fault Refusal :=
  .next (s.clockWrite (fun s => s.offsetAdjust amount.toNat))

/-- TIME_SET (R339, R348). -/
def execTimeSet (time : BitVec 64) (s : State) : Host.Outcome State Fault Refusal := .next (s.clockWrite (fun s => s.timeSet time.toNat))

/-- TIME_COPY_REFRESH (R340). -/
def execTimeCopyRefresh (unit : BitVec 12) (s : State) : Host.Outcome State Fault Refusal :=
  .next (if unit = 0x1C2 then s else { s with copies := s.copies.set unit.toNat (s.getO R.OFFSET, s.getO R.RATE_SET) })

/-- TPG_ENABLE (R346, R347). -/
def execTpgEnable (n : Tpg) (on : Bool) (s : State) : Host.Outcome State Fault Refusal := .next (s.hostModule (fun s => s.tpgEnable n on))

/-- TPG_FIRE (R346, R347). -/
def execTpgFire (n : Tpg) (s : State) : Host.Outcome State Fault Refusal := .next (s.tpgFire n)

/-- TPG_PULSE_END (R346). -/
def execTpgPulseEnd (n : Tpg) (s : State) : Host.Outcome State Fault Refusal := .next (s.tpgPulseEnd n)

end Sys2Proof.Machine
end

