-- ==== Sys2Proof/Machine/Hold.lean ====
section
/-! DEFINITION. Entering SAFE_HOLD (R434, R435), and a session's closing, which the Touchmark unit's ERROR brings about
(R358, R380). -/

namespace Sys2Proof.Machine

/-- SESSION_COUNT follows the sessions open (R356). -/
def State.showSessions (s : State) : State :=
  s.setO R.SESSION_COUNT ((s.sessions.toList.filter Option.isSome).length)

/-- A session closes: what it held goes with it, and its DATA_SUBSCRIBE is released; staged shadows stay (R358, R365,
R370). -/
def State.closeSession (s : State) (i : Fin 16) : State :=
  let ports := s.dataPorts.map (fun (p : DataPort) => if p.sub = some i.val then { p with sub := none, unacked := [] } else p)
  let run := s.commit.map (fun c => if c.session = some i.val then { c with session := none } else c)
  let s := { s with sessions := s.sessions.set i.val none i.isLt, dataPorts := ports, commit := run }
  s.showSessions

/-- Every session closes. -/
def State.closeSessions (s : State) : State := s.each (List.finRange 16) State.closeSession

/-- The module enters SAFE_HOLD for a cause of a kind and a unit: the state, clear on every pin die, ALIVE stopped, SAFE to
every bay, the TRIG lands high impedance (R466), and the event.  A later cause leaves SAFE_HOLD_CAUSE as it is; CRYPTO_ERROR is a sub-state that may join
(R434, R435). -/
def State.enterHold (s : State) (kind unit : Nat) (crypto : Bool) : State :=
  if s.inHold then (if crypto then s.setO R.MODULE_STATE MS.CRYPTO else s)
  else
    let s := s.setO R.MODULE_STATE (if crypto then MS.CRYPTO else MS.SAFE_HOLD)
    let s := s.setO R.SAFE_HOLD_CAUSE (kind + unit * 2 ^ 8 + (if crypto then 2 ^ 31 else 0))
    let s := (s.each (List.finRange 4) (fun s d => s.assertClear d 0)).setO R.ALIVE_STATE 1
    let s := { s.each (List.finRange 16) State.enterSafe with trigOut := 0 }
    s.event 2022 (kind + unit * 2 ^ 8)

end Sys2Proof.Machine
end

