-- ==== Sys2Proof/Machine/Touchmark.lean ====
section
/-! DEFINITION. The Touchmark unit (R375 to R399): its states and self-tests, the key store, firmware slots, touchmarks,
zeroisation and debug. -/

namespace Sys2Proof.Machine

/-- TM_STATE values (R399). -/
abbrev TM.SELF_TEST : Nat := 0
/-- ENROLMENT -/
abbrev TM.ENROLMENT : Nat := 1
/-- OPERATIONAL -/
abbrev TM.OPERATIONAL : Nat := 2
/-- DEBUG -/
abbrev TM.DEBUG : Nat := 3
/-- ERROR -/
abbrev TM.ERROR : Nat := 4
/-- The unit ID of the Touchmark unit (R421). -/
abbrev tmUnit : Nat := 0x1C1

/-- TM_STATE and APPROVED, which reads 1 while TM_STATE is OPERATIONAL (R375). -/
def State.setTm (s : State) (st : Nat) : State := (s.setO R.TM_STATE st).setO R.APPROVED (if st = TM.OPERATIONAL then 1 else 0)

/-- Whether the unit gives a cryptographic service: in no other state than ENROLMENT, OPERATIONAL and DEBUG (R375, R380,
R387). -/
def State.tmServes (s : State) : Bool := decide (1 ≤ s.getO R.TM_STATE) && decide (s.getO R.TM_STATE ≤ 3)

/-- A non-volatile commit that a unit makes on its own account: the check first, then what follows either way; the answer
to the host's last command stays (R383, R449). -/
def State.innerCommit (s : State) (m : Sample) (cls unit : Nat) (yes no : State → State) : State :=
  if s.getO R.HOLDUP_STATE = HS.ON_STORE then no { (s.refuseCommit cls unit) with reply := s.reply }
  else
    let t := s.recordCheck m
    if classNeeds cls ≤ sampleEnergy m then yes t else no { (t.refuseCommit cls unit) with reply := s.reply }

/-! ### The touchmark counter (R395) -/

/-- The next block of 4,096 counter values is committed; a refused commit is retried 100 ms later. -/
def State.reserve (s : State) (m : Sample) : State :=
  s.innerCommit m 3 tmUnit
    (fun s => { s.setO R.RESERVED_END (s.getO R.RESERVED_END + 4096) with tmRetry := none })
    (fun s => { s with tmRetry := some (s.now + 100000000000) })

/-- A start of the unit: the counter resumes at the committed RESERVED_END, the gap is counted, and a fresh block is
reserved before the first signature, which will carry RESUMED. -/
def State.resumeCounter (s : State) (m : Sample) : State :=
  let s := (s.setO R.TM_COUNTER (s.getO R.RESERVED_END)).incO R.TM_GAPS
  { s with tmFirst := true }.reserve m

/-! ### Entering states (R377 to R381) -/

/-- A touchmark key is generated, under a new TOUCHMARK_KEY_ID (R396). -/
def State.newTmKey (s : State) : State :=
  let f := s.free
  let id := f.1.toNat % 2 ^ 32
  let id := if id = s.getO R.TOUCHMARK_KEY_ID then (id + 1) % 2 ^ 32 else id
  { f.2.setO R.TOUCHMARK_KEY_ID id with tmKey := true }

/-- The unit enters OPERATIONAL: with no touchmark key held it generates one, which is a commit (R382, R383). -/
def State.tmOperational (s : State) (m : Sample) : State :=
  let s := s.setTm TM.OPERATIONAL
  if s.tmKey then s else s.innerCommit m 3 tmUnit State.newTmKey id

/-- The key of a role anchor (R376): Observer, Operator, Officer. -/
def anchorKey : Role → Nat
  | .observer => R.ROLE_ANCHOR
  | .operator => R.ROLE_ANCHOR + 1
  | .officer => R.ROLE_ANCHOR + 2

/-- Whether a role's anchor is enrolled. -/
def State.anchored (s : State) (r : Role) : Bool := !(s.doms.get (anchorKey r) []).isEmpty

/-- The unit's state once its tests have passed: ENROLMENT while no Officer anchor is enrolled, DEBUG until the next start
after an unlock, otherwise OPERATIONAL (R377, R398). -/
def State.tmReady (s : State) (m : Sample) : State :=
  if s.getO R.DEBUG_STATE = 1 then s.setTm TM.DEBUG
  else if s.anchored .officer then s.tmOperational m
  else s.setTm TM.ENROLMENT

/-- Link keys are discarded, and every PROTECT stream becomes BROKEN (R380). -/
def State.dropLinkKeys (s : State) : State :=
  s.each ((List.finRange 64).filter (fun i => s.getT i RStream.PROTECT == 1)) (fun s i =>
    (s.breakStream i).modStream i (fun u => { u with key := none }))

/-- The unit enters ERROR: the content keys are zeroised, the link keys discarded, the sessions close, the module enters
CRYPTO_ERROR and the fault is reported (R380). -/
def State.tmError (s : State) : State :=
  let s := (({ s with tmTest := 0 }.setTm TM.ERROR).zeroSlots.dropLinkKeys).closeSessions
  (s.enterHold 0x78 tmUnit true).fault tmUnit 0x78 (s.getO R.SELF_TEST_RESULT)

/-- What a start of the unit does before its tests: content keys and link keys are discarded, DEBUG_NONCE changes, debug is
locked again, and TM_STATE is SELF_TEST (R387, R398). -/
def State.tmStart (s : State) : State :=
  let s := s.zeroSlots.dropLinkKeys
  let s := { s with nonces := s.nonces + 1, tmTest := 2, tmRetry := none }
  (s.setO R.DEBUG_STATE 0).setTm TM.SELF_TEST

/-- Whether the conditions of R381 hold: no bay in ARMED, RUN or PAUSE and no graph RUNNING. -/
def State.tmIdle (s : State) : Bool :=
  !s.anyArmed && (List.range 64).all (fun g => s.getG g RGraph.GRAPH_STATE != GS.RUNNING)

/-- SELF_TEST_REQUEST (R381). -/
def State.selfTest (s : State) : State :=
  if s.tmIdle && s.tmServes then ({ s with tmTest := 1 }.setTm TM.SELF_TEST).ok else s.answer ST.STATE_LOCKED

/-- The tests in progress end: one bit for each that failed (R378, R380).  After a start the counter resumes (R395), and
TM_FW_VERSION reports the release that runs (R387); after a start from CRYPTO_ERROR the module is in SAFE_HOLD alone. -/
def State.selfTested (s : State) (result : Nat) (m : Sample) : State :=
  let began := s.tmTest
  if began = 0 then s
  else
    let s := s.setO R.SELF_TEST_RESULT result
    let s := if began = 2 then s.setO R.TM_FW_VERSION (s.getO R.FIRMWARE_VERSION) else s
    if result ≠ 0 then s.tmError
    else
      let s := { s with tmTest := 0 }
      let s := if began = 2 then s.resumeCounter m else s
      let s := if s.getO R.MODULE_STATE = MS.CRYPTO then s.setO R.MODULE_STATE MS.SAFE_HOLD else s
      s.tmReady m

/-- TM_RESTART_REQUEST: the unit verifies the part of the image that the active core runs, and restarts on it (R387). -/
def State.tmRestart (s : State) (verified : Bool) : State :=
  if !(s.tmIdle && s.tmServes) then s.answer ST.STATE_LOCKED
  else if !verified then s.answer ST.CRYPTO_ERROR
  else s.tmStart.ok

/-! ### Keys (R382 to R384, R392, R397) -/

/-- The group key is erased. -/
def State.dropGroupKey (s : State) : State := { s with groupKey := none }.setO R.GROUP_KEY_ID 0

/-- Zeroisation: every key whose "Cleared by" names it is erased, the slots' epochs advance, loads in progress end, the unit
enters ENROLMENT and the module SAFE_HOLD (R397).  `how` is 0 for the land and 1 for the object. -/
def State.zeroise (s : State) (how : Nat) : State :=
  let s := s.each (List.finRange 16) State.pkgAbort
  let s := { s with doms := s.doms.without (fun k => (decide (R.ROLE_ANCHOR ≤ k) && decide (k < R.ROLE_ANCHOR + 3)) ||
      (decide (R.CODE_KEY ≤ k) && decide (k < R.CODE_KEY + 8))) }
  let s := s.each (List.range 8) (fun s k => s.setO (R.CODE_KEY_USE + k) 0)
  let s := { s.dropGroupKey with tmKey := false, tmTest := 0 }
  let s := ((s.zeroSlots.dropLinkKeys).setTm TM.ENROLMENT).incO R.ZEROIZE_COUNT
  (s.enterHold 0x87 tmUnit false).fault tmUnit 0x87 how

/-- A role anchor is enrolled in one commit (R376, R383). -/
def State.writeAnchor (s : State) (r : Role) (k : Bytes) (m : Sample) : State :=
  if k.length ≠ 97 then s.answer ST.OUT_OF_RANGE
  else s.commitGate m 3 tmUnit (fun s =>
    let s := { s with doms := s.doms.set (anchorKey r) k }
    (if s.getO R.TM_STATE = TM.ENROLMENT then s.tmReady m else s).ok)

/-- Whether a bank or package load in progress uses a code key slot (R392). -/
def State.codeKeyBusy (s : State) (slot : Nat) : Bool :=
  (List.finRange 16).any (fun b =>
    (match (s.bay b).bankLoad with
      | some i => hdrSlot (imageHeader i) == slot
      | none => false) ||
    (match (s.bay b).pkg with
      | some l => fieldOf (pkgHeader l.data) 56 3 == slot
      | none => false))

/-- A code key is stored in one commit (R383, R392). -/
def State.writeCodeKey (s : State) (slot : Nat) (k : Bytes) (m : Sample) : State :=
  if s.codeKeyBusy slot then s.answer ST.STATE_LOCKED
  else if k.length ≠ 97 then s.answer ST.OUT_OF_RANGE
  else s.commitGate m 3 tmUnit (fun s => { s with doms := s.doms.set (R.CODE_KEY + slot) k }.ok)

/-- Whether a group-key record is well formed (R384). -/
def groupRecordOk (r : Bytes) : Bool :=
  ofBytes (r.take 4) != 0 && r[4]? == some 4 && ofBytes (slice r 101 3) == 0

/-- GROUP_KEY_IMPORT (R384): `k` is what the record unwraps to, none where the unwrap fails. -/
def State.importKey (s : State) (r : Bytes) (k : Option (BitVec 256)) (m : Sample) : State :=
  if r.length ≠ 144 then s.answer ST.OUT_OF_RANGE
  else if s.anyArmed || !s.tmServes || !groupRecordOk r then s.answer ST.CRYPTO_ERROR
  else match k with
    | none => s.answer ST.CRYPTO_ERROR
    | some v => s.commitGate m 3 tmUnit (fun s => ({ s with groupKey := some v }.setO R.GROUP_KEY_ID (ofBytes (r.take 4))).ok)

/-- SLOT_ZEROIZE releases a content-key slot while its owner is in IDLE, MAINT, SAFE or OFF (R390). -/
def State.slotZeroize (s : State) (slot : Nat) : State :=
  if 64 ≤ slot then s.answer ST.OUT_OF_RANGE
  else if (List.finRange 16).any (fun b => s.slotOf slot b && s.armed b) then s.answer ST.STATE_LOCKED
  else (s.zeroSlot slot).ok

/-! ### Firmware (R385, R386) -/

/-- The size of a firmware slot: half of what the flash leaves, at most 32 MiB (R464). -/
def slotSize : Nat := min 33554432 ((max 33554432 (min 268435456 Config.flashBytes) - 4194304) / 2)

/-- FW_IMAGE is verified, and then programmed into the slot that is not active (R385, R386). -/
def State.fwImage (s : State) (len : Nat) (sigOk : Bool) (release rollback : Nat) : State :=
  if s.fwLoad.isSome then s.answer ST.STATE_LOCKED
  else if slotSize < len then s.answer ST.OUT_OF_RANGE
  else if !sigOk then (s.setO R.FW_STATUS 4).answer ST.CRYPTO_ERROR
  else if rollback < s.getO R.ROLLBACK then (s.setO R.FW_STATUS 5).answer ST.CRYPTO_ERROR
  else
    let n : Fin 2 := if s.getO R.FW_ACTIVE_SLOT = 0 then 1 else 0
    let slots := s.fwSlots.set n.val { s.fwSlots.get n with cut := true } n.isLt
    ({ s with fwLoad := some (n.val, release, rollback), fwSlots := slots }.setO R.FW_STATUS 2).ok

/-- The programming ends: the slot holds the image, or fails verification (R386, R449). -/
def State.fwProgrammed (s : State) (cut : Bool) : State :=
  match s.fwLoad with
  | none => s
  | some (n, release, rollback) =>
    let s := { s with fwLoad := none }
    if cut then s.setO R.FW_STATUS 6
    else
      let i : Fin 2 := Fin.ofNat 2 n
      let s := { s with fwSlots := s.fwSlots.set i.val ⟨release, rollback, false⟩ i.isLt }
      (s.setO (R.FW_SLOT_VERSION + i.val) release).setO R.FW_STATUS 3

/-- FW_ACTIVE_SLOT is committed (R386). -/
def State.fwActive (s : State) (slot : Nat) (m : Sample) : State :=
  if 1 < slot then s.answer ST.OUT_OF_RANGE
  else s.commitGate m 3 tmUnit (fun s => (s.setO R.FW_ACTIVE_SLOT slot).ok)

/-- FW_ACCEPT raises ROLLBACK to a value from ROLLBACK to the running image's ROLLBACK_INDEX (R386). -/
def State.fwAccept (s : State) (v : Nat) (m : Sample) : State :=
  if v < s.getO R.ROLLBACK ∨ s.fwRollback < v then s.answer ST.OUT_OF_RANGE
  else s.commitGate m 3 tmUnit (fun s => (s.setO R.ROLLBACK v).ok)

/-! ### Debug (R398) -/

/-- DEBUG_UNLOCK: a good signature by the Officer anchor erases the group key and every content key and unlocks debug; the
nonce changes after every attempt. -/
def State.debugUnlock (s : State) (scope : Nat) (sigOk : Bool) : State :=
  if s.anyArmed then s.answer ST.STATE_LOCKED
  else if scope ≠ 1 ∧ scope ≠ 2 then s.answer ST.OUT_OF_RANGE
  else
    let good := sigOk && s.anchored .officer && s.tmServes
    let s := { s with nonces := s.nonces + 1 }
    if good then ((s.dropGroupKey.zeroSlots).setO R.DEBUG_STATE 1 |>.setTm TM.DEBUG).ok
    else s.answer ST.CRYPTO_ERROR

/-! ### Touchmarks (R394, R395) -/

/-- The header of a touchmark (R394). -/
def State.touchmarkHeader (s : State) (g node records len : Nat) : Bytes :=
  toBytes 4 0x46544D4B ++ toBytes 2 1 ++ toBytes 2 (if s.tmFirst then 1 else 0) ++ toBytes 8 (s.getO R.TM_COUNTER) ++
    toBytes 4 records ++ toBytes 4 len ++ toBytes 4 (s.getO R.TOUCHMARK_KEY_ID) ++ toBytes 2 (g + 256 * node) ++ toBytes 2 0 ++
    toBytes 8 (s.stamp tmUnit) ++ Config.serial.take 16 ++ List.replicate (16 - (Config.serial.take 16).length) 0 ++
    List.replicate 72 0

/-- A signing request: the next counter value, the touchmark as the answer's body; a request ends with CRYPTO_ERROR where no
value below RESERVED_END is left, where no touchmark key serves, and where the payload exceeds TM_BATCH_MAX.  With 1,024
values left the next block is committed (R394, R395). -/
def State.sign (s : State) (g node records : Nat) (payload : Bytes) (m : Sample) : State :=
  let c := s.getO R.TM_COUNTER
  if s.getO R.TM_STATE ≠ TM.OPERATIONAL ∨ s.tmKey = false ∨ s.getO R.RESERVED_END ≤ c ∨ s.getO R.TM_BATCH_MAX < payload.length then
    s.answer ST.CRYPTO_ERROR
  else
    let body := s.touchmarkHeader g node records payload.length ++ payload
    let low := decide (s.getO R.RESERVED_END - c = 1024)
    let s := { s.setO R.TM_COUNTER (c + 1) with tmFirst := false }
    let s := if low && s.tmRetry.isNone then s.reserve m else s
    s.answerBody (body ++ Config.signature body)

/-! ### Meanings -/

/-- SELF_TEST_REQUEST (R381). -/
def execSelfTestRequest (s : State) : Host.Outcome State Fault Refusal := .next (s.hostFirm State.selfTest)

/-- SELF_TEST_COMPLETE (R378). -/
def execSelfTestComplete (result : BitVec 32) (smp : Sample) (s : State) : Host.Outcome State Fault Refusal :=
  .next (s.selfTested result.toNat smp)

/-- ENTROPY_FAIL (R379): counted, and the unit enters ERROR. -/
def execEntropyFail (s : State) : Host.Outcome State Fault Refusal := .next (s.incO R.ENTROPY_FAILS).tmError

/-- ZEROIZE (R397). -/
def execZeroize (value : BitVec 16) (s : State) : Host.Outcome State Fault Refusal :=
  .next (s.hostFirm (fun s => if value = 0xA5C3 then (s.zeroise 1).ok else s.answer ST.OUT_OF_RANGE))

/-- ZEROIZE_N (R397, R463): at least 10 µs low zeroises the unit by hardware, below 1 µs it is ignored, and between the two it
may act or not. DESIGN CHOICE (log 23). -/
def execZeroizeN (lowNs : Nat) (s : State) : Host.Outcome State Fault Refusal :=
  .next (
    if 10000 ≤ lowNs then s.zeroise 0
    else if lowNs < 1000 then s
    else if s.freeBit.1 then s.freeBit.2.zeroise 0 else s.freeBit.2)

/-- GROUP_KEY_IMPORT (R384). -/
def execGroupKeyImport (rec : Bytes) (key : Option (BitVec 256)) (smp : Sample) (s : State) : Host.Outcome State Fault Refusal :=
  .next (s.hostFirm (fun s => s.importKey rec key smp))

/-- CODE_KEY_WRITE (R392). -/
def execCodeKeyWrite (slot : Fin 8) (key : Bytes) (smp : Sample) (s : State) : Host.Outcome State Fault Refusal :=
  .next (s.hostFirm (fun s => s.writeCodeKey slot.val key smp))

/-- ROLE_ANCHOR_WRITE (R376). -/
def execRoleAnchorWrite (role : Role) (key : Bytes) (smp : Sample) (s : State) : Host.Outcome State Fault Refusal :=
  .next (s.hostFirm (fun s => s.writeAnchor role key smp))

/-- FW_IMAGE (R386). -/
def execFwImage (len : Nat) (sigOk : Bool) (release rollback : BitVec 32) (s : State) : Host.Outcome State Fault Refusal :=
  .next (s.hostFirm (fun s => s.fwImage len sigOk release.toNat rollback.toNat))

/-- FW_PROGRAM_COMPLETE (R386). -/
def execFwProgramComplete (cut : Bool) (s : State) : Host.Outcome State Fault Refusal := .next (s.fwProgrammed cut)

/-- FW_ACTIVE_SLOT_WRITE (R386). -/
def execFwActiveSlotWrite (slot : BitVec 8) (smp : Sample) (s : State) : Host.Outcome State Fault Refusal :=
  .next (s.hostFirm (fun s => s.fwActive slot.toNat smp))

/-- FW_ACCEPT (R386). -/
def execFwAccept (value : BitVec 32) (smp : Sample) (s : State) : Host.Outcome State Fault Refusal :=
  .next (s.hostFirm (fun s => s.fwAccept value.toNat smp))

/-- TM_RESTART_REQUEST (R387). -/
def execTmRestartRequest (verified : Bool) (s : State) : Host.Outcome State Fault Refusal :=
  .next (s.hostFirm (fun s => s.tmRestart verified))

/-- DEBUG_UNLOCK (R398). -/
def execDebugUnlock (scope : BitVec 8) (sigOk : Bool) (s : State) : Host.Outcome State Fault Refusal :=
  .next (s.hostFirm (fun s => s.debugUnlock scope.toNat sigOk))

/-- SLOT_ZEROIZE (R390). -/
def execSlotZeroize (slot : BitVec 8) (s : State) : Host.Outcome State Fault Refusal :=
  .next (s.hostFirm (fun s => s.slotZeroize slot.toNat))

/-- SIGN_REQUEST (R395). -/
def execSignRequest (g : Graph) (node : BitVec 8) (records : BitVec 32) (payload : Bytes) (smp : Sample) (s : State) :
    Host.Outcome State Fault Refusal :=
  .next (s.sign g.val node.toNat records.toNat payload smp)

/-- RESERVE_RETRY (R395): the refused reservation is tried again when it is due. -/
def execReserveRetry (smp : Sample) (s : State) : Host.Outcome State Fault Refusal :=
  .next (match s.tmRetry with
    | some t => (s.advance t).reserve smp
    | none => s)

end Sys2Proof.Machine
end

