-- ==== Sys2Proof/Machine/Assay.lean ====
section
/-! DEFINITION. Assay (R401 to R419): corrections, rolling assay and its hand-overs, the bay, TMU and purlin assays, and the
commits to the calibration ledger. -/

namespace Sys2Proof.Machine

/-! ### Corrections (R403) -/

/-- TRIM and TAPS of a line for a correction in 0.25 ps, from the taps it has: the nearest code, moved by 32 codes into the
taps while it lies outside 16 to 111; the fuel bounds the moves. -/
def State.correct (s : State) (b : Bay) (corr : Int) (taps : Int) : Nat → Int × Int
  | 0 => (64 + roundDiv (corr * (s.bay b).mhz - taps * 1000) (s.bay b).mhz, taps)
  | n + 1 =>
    let code := 64 + roundDiv (corr * (s.bay b).mhz - taps * 1000) (s.bay b).mhz
    if code < 16 then s.correct b corr (taps - s.inTu b 32) n
    else if 111 < code then s.correct b corr (taps + s.inTu b 32) n
    else (code, taps)

/-- TRIM and TAPS for a correction, kept within their ranges, and whether the taps fit (R403). -/
def State.trimTaps (s : State) (b : Bay) (corr taps : Int) : Nat × Int × Bool :=
  let r := s.correct b corr taps 65536
  ((max 0 (min 127 r.1)).toNat, max (-4095) (min 4095 r.2), decide (-4095 ≤ r.2) && decide (r.2 ≤ 4095))

/-- New corrections are loaded into a channel's path; a path whose taps do not fit is marked and reported (R403, R407). -/
def State.loadPath (s : State) (c : Chan) (m : PathMeas) : State :=
  let b := bayOf c
  let vs := (List.finRange 4).map (fun l => (l, s.trimTaps b (m.corr.get l) (toSigned 16 (s.getC c (RChan.TAPS + l.val)))))
  let s := s.each vs (fun s p =>
    ((s.setC c (RChan.DESKEW + p.1.val) (ofSigned 32 (m.corr.get p.1))).setC c (RChan.TRIM + p.1.val) p.2.1).setC c
      (RChan.TAPS + p.1.val) (ofSigned 16 p.2.2.1))
  if vs.all (fun p => p.2.2.2) then s.setC c RChan.PATH_STATUS (clrBit (s.getC c RChan.PATH_STATUS) 1)
  else (s.flagC c RChan.PATH_STATUS 1).fault (0x110 + b.val) 0x2A (c.val % 16)

/-- The residuals of a path's lines (R419). -/
def State.setResid (s : State) (c : Chan) (r : List Int) : State :=
  s.each (r.take 4).zipIdx (fun s p => s.setC c (RChan.RESID_TIMING + p.2) (ofSigned 16 p.1))

/-- WORST_RESIDUAL follows the residuals of the bay's lines: the one of the largest magnitude (R419). -/
def State.showWorst (s : State) (b : Bay) : State :=
  let rs := (chansOf b).flatMap (fun c => (List.range 4).map (fun l => toSigned 16 (s.getC c (RChan.RESID_TIMING + l))))
  s.setO (keyA b RAssay.WORST_RESIDUAL) (ofSigned 16 (rs.foldl (fun m r => if m.natAbs < r.natAbs then r else m) 0))

/-- A path's step is complete: calibrated, not stale, at this time (R405, R419). -/
def State.calibrated (s : State) (c : Chan) : State :=
  let v := clrBit (orBit (s.getC c RChan.PATH_STATUS) 0) 2
  (s.setC c RChan.PATH_STATUS v).setC c RChan.LAST_ASSAY s.netTime

/-! ### Rolling assay (R405 to R411) -/

/-- Whether control-island firmware or the hold-up is lost, so that rolling assay holds (R22, R410). -/
def State.rollHeld (s : State) : Bool := s.coreOut || s.getO R.HOLDUP_STATE == HS.ON_STORE

/-- Whether a step may begin: the spare path is the bay's for ASSAY, the bay is not OFF and its pin die not in clear. -/
def State.rollMay (s : State) (b : Bay) : Bool :=
  s.claimedFor (.sparePath b) 0x0A && s.bst b != BS.OFF && !s.clearOn b

/-- The channel the spare path stands in for on its land, where its selector is switched. -/
def State.onSpare (s : State) (b : Bay) : Bool :=
  match (s.bay b).roll.target with
  | some k => s.getC (chanOf b k) RChan.SELECTOR == 1
  | none => false

/-- Step 1 for the path whose turn it is: channel k is shadowed, and SP b itself goes straight to the reference channel (R405,
R407).  A channel still on SP b is handed back first (R408). -/
def State.rollStart (s : State) (b : Bay) : State :=
  let r := (s.bay b).roll
  if s.onSpare b then
    (s.modRoll b (fun r => { r with shadowed := 0, since := s.now })).setO (keyA b RAssay.ROLL_STATE) RS.RETURNING
  else
    let s := s.setO (keyA b RAssay.ROLL_PATH) r.path
    if h : r.path < 16 then
      (s.modRoll b (fun r => { r with target := some ⟨_, h⟩, shadowed := 0, since := s.now })).setO (keyA b RAssay.ROLL_STATE)
        RS.SHADOWING
    else (s.modRoll b (fun r => { r with target := none })).setO (keyA b RAssay.ROLL_STATE) RS.CALIBRATING

/-- ROLL_STEP: the next path's time has come.  A step that cannot begin is skipped, and its path is STALE (R405). -/
def State.rollStep (s : State) (b : Bay) : State :=
  let st := s.rollState b
  if s.getO (keyA b RAssay.ROLL_ENABLE) = 0 ∨ s.getO (keyA b RAssay.ROLL_PAUSE) = 1 ∨ s.rollHeld = true ∨
      (st ≠ RS.WAITING ∧ st ≠ RS.PAUSED) then s
  else
    let s := s.advance (s.bay b).roll.due
    let s := if (s.claim (.sparePath b)).isNone && s.bst b != BS.OFF then s.claimSpare b 0x0A else s
    if s.rollMay b then s.rollStart b
    else
      let s := if h : (s.bay b).roll.path < 16 then s.flagC (chanOf b ⟨_, h⟩) RChan.PATH_STATUS 2 else s
      s.stepOver b

/-- Whether the next BCLK, or the present granule boundary, is a hand-over point, and whether the edge codes of the two paths
must be compared there (R406). -/
def State.handPoint (s : State) (b : Bay) : Bool × Bool :=
  let r := (s.bay b).roll
  let st := s.bst b
  if st = BS.IDLE ∨ st = BS.ARMED ∨ st = BS.SAFE then (true, false)
  else (st == BS.RUN && r.atPoint && !r.inhibit && decide (3 ≤ r.shadowed) && (s.bay b).granOpen && (s.bay b).granRows == 0, true)

/-- The selector of the substituted channel switches to SP b: its own path goes to the reference channel, or stays out of
service under MANUAL_TARGET (R407, R411). -/
def State.toSpare (s : State) (b : Bay) (k : Fin 16) : State :=
  let s := (s.setC (chanOf b k) RChan.SELECTOR 1).modRoll b (fun r => { r with shadowed := 0, atPoint := false })
  if s.rollState b = RS.SUSPENDED then s else s.setO (keyA b RAssay.ROLL_STATE) RS.CALIBRATING

/-- The selector returns to the channel's own path: the step completes, or MANUAL_TARGET's substitution ends (R407, R411). -/
def State.toOwn (s : State) (b : Bay) (k : Fin 16) : State :=
  let r := (s.bay b).roll
  let c := chanOf b k
  let s := s.ownPath b
  if s.rollState b = RS.SUSPENDED then
    let s := s.modRoll b (fun r => { r with back := false, after := none, target := r.after })
    if r.after.isSome then s
    else (s.freeClaim (.sparePath b)).setO (keyA b RAssay.ROLL_STATE) (s.rollRest b)
  else if r.old.isEmpty then s.stepOver b
  else
    let s := ((s.setResid c r.resid).calibrated c).showWorst b
    (s.modRoll b (fun r => { r with old := [], resid := [] })).stepOver b

/-- The step ends with MISMATCH; the channel stays on the path it is on (R408). -/
def State.mismatch (s : State) (b : Bay) (k : Fin 16) : State :=
  let s := (s.incO (keyA b RAssay.STEP_ABORTS)).fault (0x110 + b.val) 0x29 k.val
  if s.onSpare b then s.setO (keyA b RAssay.ROLL_STATE) (s.rollRest b) else (s.ownPath b).stepOver b

/-- HANDOVER: `codesEqual` says that the two paths' edge codes agreed in the granule before, `clear` that nothing of the
channel lands within 30 ps of the boundary (R406 to R408). -/
def State.handover (s : State) (b : Bay) (codesEqual clear : Bool) : State :=
  let r := (s.bay b).roll
  let st := s.rollState b
  match r.target with
  | none => s
  | some k =>
    let p := s.handPoint b
    let wants := st == RS.SHADOWING || st == RS.RETURNING || (st == RS.SUSPENDED && (!s.onSpare b || r.back))
    if !wants || !p.1 || s.clearOn b then s
    else if p.2 && !codesEqual && st != RS.SUSPENDED then s.mismatch b k
    else if p.2 && (!codesEqual || !clear) then s
    else if s.onSpare b then s.toOwn b k else s.toSpare b k

/-- PATH_CALIBRATED: the measurement ends, and the new values are loaded; a channel's path then shadows SP b, and SP b's own
step is complete (R405, R407). -/
def State.pathCalibrated (s : State) (b : Bay) (m : PathMeas) : State :=
  if s.rollState b ≠ RS.CALIBRATING then s
  else match (s.bay b).roll.target with
    | some k =>
      let c := chanOf b k
      let old := pathObjs.map (s.getC c)
      let s := s.loadPath c m
      let moved := pathObjs.map (s.getC c) ≠ old
      (s.modRoll b (fun r => { r with
        old := old, resid := m.resid.toList, dirty := r.dirty || decide moved, shadowed := 0, since := s.now })).setO
        (keyA b RAssay.ROLL_STATE) RS.RETURNING
    | none =>
      let s := s.each (List.finRange 4) (fun s l => s.setB b (RBay.SP_DESKEW + l.val) (ofSigned 32 (m.corr.get l)))
      (s.modRoll b (fun r => { r with dirty := true })).stepOver b

/-- HANDOVER_TIMEOUT: no hand-over point within HANDOVER_WAIT (R408). -/
def State.handTimeout (s : State) (b : Bay) : State :=
  let st := s.rollState b
  if st ≠ RS.SHADOWING ∧ st ≠ RS.RETURNING then s
  else
    let s := s.advance ((s.bay b).roll.since + s.getO R.HANDOVER_WAIT * 1000000000)
    let s := s.incO (keyA b RAssay.HANDOVER_TIMEOUTS)
    if st = RS.SHADOWING then (s.ownPath b).stepOver b
    else
      let span := s.getO R.ROLL_INTERVAL * 1000000000000
      (s.modRoll b (fun r => { r with due := r.due + span / 17 })).setO (keyA b RAssay.ROLL_STATE) (s.rollRest b)

/-- A step that has not passed its step 2 is given up (R410). -/
def State.rollHold (s : State) (b : Bay) : State :=
  if s.rollState b = RS.SHADOWING then (s.ownPath b).setO (keyA b RAssay.ROLL_STATE) (s.rollRest b)
  else if s.rollState b = RS.WAITING ∨ s.rollState b = RS.PAUSED ∨ s.rollState b = 0 then
    s.setO (keyA b RAssay.ROLL_STATE) (s.rollRest b)
  else s

/-- ROLL_PAUSE (R410). -/
def State.rollPause (s : State) (b : Bay) (on : Bool) : State :=
  let s := s.setO (keyA b RAssay.ROLL_PAUSE) (if on then 1 else 0)
  (if on ∨ s.rollState b = RS.PAUSED then s.rollHold b else s).ok

/-- ROLL_ENABLE: set, the bay claims its spare path for ASSAY; clear, a step past its step 2 completes first and the claim is
then released (R405, R410). -/
def State.rollEnable (s : State) (b : Bay) (on : Bool) : State :=
  if on then
    match s.claim (.sparePath b) with
    | some c =>
      if c.feature ≠ 0x0A then s.answerD ST.RESOURCE_CLAIMED (claimDetail c)
      else (s.setO (keyA b RAssay.ROLL_ENABLE) 1).ok
    | none =>
      let s := s.setO (keyA b RAssay.ROLL_ENABLE) 1
      if s.bst b = BS.OFF then s.ok else ((s.claimSpare b 0x0A).startRounds b).ok
  else
    let s := (s.setO (keyA b RAssay.ROLL_ENABLE) 0).rollHold b
    (if s.claimedFor (.sparePath b) 0x0A && !s.rolling b && !s.onSpare b then s.freeClaim (.sparePath b) else s).ok

/-- MANUAL_TARGET: the spare path stands in for a channel until it is written again, or hands back (R411). -/
def State.manualTarget (s : State) (b : Bay) (v : Nat) : State :=
  if 16 ≤ v ∧ v ≠ 0xFF then s.answer ST.OUT_OF_RANGE
  else match s.claim (.sparePath b) with
    | some c =>
      if c.feature ≠ 0x0B then
        if v = 0xFF then (s.setO (keyA b RAssay.MANUAL_TARGET) v).ok else s.answerD ST.RESOURCE_CLAIMED (claimDetail c)
      else
        let next : Option (Fin 16) := if h : v < 16 then some ⟨v, h⟩ else none
        let s := s.setO (keyA b RAssay.MANUAL_TARGET) v
        if s.onSpare b then
          (s.modRoll b (fun r => if r.target = next then { r with back := false, after := none } else
            { r with back := true, after := next, shadowed := 0 })).ok
        else if next.isSome then (s.modRoll b (fun r => { r with target := next, back := false, shadowed := 0 })).ok
        else
          let s := (s.modRoll b (fun r => { r with target := none })).freeClaim (.sparePath b)
          (s.setO (keyA b RAssay.ROLL_STATE) (s.rollRest b)).ok
    | none =>
      let s := s.setO (keyA b RAssay.MANUAL_TARGET) v
      if h : v < 16 then
        let s := (s.claimSpare b 0x0B).modRoll b (fun r => { r with target := some ⟨v, h⟩, shadowed := 0, back := false })
        (s.setO (keyA b RAssay.ROLL_STATE) RS.SUSPENDED).ok
      else s.ok

/-! ### The calibration ledger (R416 to R418) -/

/-- Ledger record kinds (R416). -/
abbrev LG.TIMING : Nat := 2
/-- ANALOGUE -/
abbrev LG.ANALOGUE : Nat := 3
/-- TMU -/
abbrev LG.TMU : Nat := 4

/-- The objects a TIMING, ANALOGUE or TMU record of a bay holds (R401, R416, R419). -/
def recordKeys (kind : Nat) (b : Bay) : List Nat :=
  let ch := fun (os : List Nat) => (chansOf b).flatMap (fun c => os.map (keyC c))
  if kind = LG.TIMING then
    ch (pathObjs ++ (List.range 4).map (RChan.RESID_TIMING + ·) ++ [RChan.PATH_STATUS, RChan.LAST_ASSAY]) ++
      (List.range 4).map (fun l => keyB b (RBay.SP_DESKEW + l)) ++ [keyA b RAssay.WORST_RESIDUAL]
  else if kind = LG.ANALOGUE then
    ch ((List.range 8).map (RChan.RESID_LEVEL + ·) ++ (List.range 2).map (RChan.RESID_GUARD + ·) ++
      (List.range 2).map (RChan.RESID_LOAD + ·)) ++ [keyA b RAssay.ASSAY_TEMP, keyA b RAssay.WINDOW_STATE]
  else [keyB b RBay.INL_RESIDUAL]

/-- The record of a kind and a bay is stored; a TMU record also holds the per-tap corrections. -/
def State.storeRecord (s : State) (kind : Nat) (b : Bay) : State :=
  let s := s.ledgerPut (recordKeys kind b)
  if kind = LG.TIMING then s.modRoll b (fun r => { r with dirty := false, lastLed := s.now })
  else if kind = LG.TMU then
    match (s.tmu b).corr with
    | some n => { s with ledgerCorr := s.ledgerCorr.set b.val (n + 1) }
    | none => s
  else s

/-- One assay commit: accepted, its record is written; refused, LEDGER_STATE shows STALE and the commit is retried 60 s later
(R418). -/
def State.assayCommit (s : State) (kind unit : Nat) (m : Sample) : State :=
  s.innerCommit m s.ledgerClass 0x1C0
    (fun s =>
      let s := s.ledgerWrite
      if h : unit < 16 then s.storeRecord kind ⟨unit, h⟩ else s)
    (fun s => { s.setO R.LEDGER_STATE 1 with
      ledgerHeld := s.ledgerHeld ++ [(kind, unit)],
      ledgerDue := some (s.ledgerDue.getD (s.now + 60000000000000)) })

/-- LEDGER_COMMIT: the assay commit that was requested first is made (R417, R418). -/
def State.ledgerCommit (s : State) (m : Sample) : State :=
  match s.ledgerQ with
  | [] => s
  | (kind, unit) :: rest => { s with ledgerQ := rest }.assayCommit kind unit m

/-- LEDGER_INTERVAL_EXPIRY: the bay's TIMING record is due where some TRIM or TAPS has changed since its last commit (R418). -/
def State.ledgerInterval (s : State) (b : Bay) : State :=
  let r := (s.bay b).roll
  if r.dirty && !s.ledgerQ.contains (LG.TIMING, b.val) && !s.ledgerHeld.contains (LG.TIMING, b.val) then
    let s := s.advance (r.lastLed + s.getO R.LEDGER_INTERVAL * 1000000000000)
    { s with ledgerQ := s.ledgerQ ++ [(LG.TIMING, b.val)] }
  else s

/-- LEDGER_RETRY: the refused assay commits are requested again (R418). -/
def State.ledgerRetried (s : State) : State :=
  match s.ledgerDue with
  | none => s
  | some t =>
    let s := s.advance t
    { s with ledgerQ := s.ledgerQ ++ s.ledgerHeld, ledgerHeld := [], ledgerDue := none }

/-! ### Bay assay (R402, R412, R413) -/

/-- A TMU assay begins where the TMU is IDLE and its clock locked (R220, R414). -/
def State.tmuAssay (s : State) (b : Bay) : State :=
  if s.tmuState b = TS.IDLE ∧ s.locked (24 + b.val) = true then
    s.modTmu b (fun u => { u with assay := true, assayWarm := s.getO R.REF_WARM == 1 })
  else s

/-- The TMU assay ends: new per-tap corrections, the residual, and WARM_STATE where REF_WARM was true throughout (R221,
R414). -/
def State.tmuAssayed (s : State) (b : Bay) (residual : Nat) : State :=
  if (s.tmu b).assay then
    let warm := (s.tmu b).assayWarm
    let n := s.fresh
    let s := { s with fresh := s.fresh + 1 }.modTmu b (fun u => { u with assay := false, assayWarm := false, corr := some n })
    let s := s.setB b RBay.INL_RESIDUAL residual
    if warm then s.setB b RBay.WARM_STATE 1 else s
  else s

/-- BAY_ASSAY_REQUEST: in MAINT, with no assay in progress (R412). -/
def State.bayAssay (s : State) (b : Bay) : State :=
  if s.bst b ≠ BS.MAINT ∨ s.getO (keyA b RAssay.BAY_ASSAY_STATUS) = 1 ∨ s.clearOn b = true then s.answer ST.STATE_LOCKED
  else ((s.setO (keyA b RAssay.BAY_ASSAY_STATUS) 1).tmuAssay b).ok

/-- The temperature of a die as 0.25 °C in an I16. -/
def State.dieTemp (s : State) (b : Bay) : Nat := ofSigned 16 (s.die (dieOf b)).temp

/-- Whether a bay's pin die is within TEMP_WINDOW of the last bay assay's temperature (R402). -/
def State.inWindow (s : State) (b : Bay) : Bool :=
  let d := (s.die (dieOf b)).temp - toSigned 16 (s.getO (keyA b RAssay.ASSAY_TEMP))
  s.assayed.testBit b.val && decide (d.natAbs ≤ 4 * s.getO R.TEMP_WINDOW)

/-- What a bay assay found for one channel is applied: its path's corrections and residuals, and a quantity beyond its limit
is marked FAULT (R403, R412, R419). -/
def State.assayChan (s : State) (b : Bay) (k : Fin 16) (r : BayAssayResult) : State :=
  let c := chanOf b k
  let m := r.paths.get (k.castLE (by omega))
  let s := (((s.loadPath c m).setResid c m.resid.toList).calibrated c).each ((r.resids.get k).toList.zipIdx) (fun s p =>
    s.setC c ((if p.2 < 8 then RChan.RESID_LEVEL + p.2 else if p.2 < 10 then RChan.RESID_GUARD + (p.2 - 8)
      else RChan.RESID_LOAD + (p.2 - 10))) (ofSigned 32 p.1))
  s.setC c RChan.PATH_STATUS (putBit (s.getC c RChan.PATH_STATUS) 3 (r.faulty.toNat.testBit k.val))

/-- Assay sets the shadows of a bay's reference channel, to levels the spec does not state (R160; log 45). -/
def State.refLevels (s : State) (b : Bay) : State :=
  { s with fresh := s.fresh + 8 }.modRef b (fun r => { r with
    shadow := (List.range 8).map (fun i => (Config.freeValue (s.fresh + i)).toNat % 2 ^ 18) })

/-- BAY_ASSAY_COMPLETE: the values apply, the lands are reconnected with their comparators UNRESOLVED, and the TIMING, ANALOGUE
and TMU records are committed (R412, R413, R418). -/
def State.bayAssayed (s : State) (b : Bay) (r : BayAssayResult) (m : Sample) : State :=
  if s.getO (keyA b RAssay.BAY_ASSAY_STATUS) ≠ 1 then s
  else
    let s := s.each (List.finRange 16) (fun s k => s.assayChan b k r)
    let sp := r.paths.get 16
    let s := s.each (List.finRange 4) (fun s l => s.setB b (RBay.SP_DESKEW + l.val) (ofSigned 32 (sp.corr.get l)))
    let s := ((s.showWorst b).refLevels b).each (chansOf b) State.unresolve
    let s := (s.setO (keyA b RAssay.ASSAY_TEMP) (s.dieTemp b)).setO (keyA b RAssay.WINDOW_STATE) 1
    let s := { s.setO (keyA b RAssay.BAY_ASSAY_STATUS) (if r.faulty = 0 then 2 else 4) with assayed := orBit s.assayed b.val }
    ((s.assayCommit LG.TIMING b.val m).assayCommit LG.ANALOGUE b.val m).assayCommit LG.TMU b.val m

/-- ASSAY_WINDOW: the pin die's temperature moves; leaving the window clears WINDOW_STATE and raises the bay's event (R402). -/
def State.windowTemp (s : State) (b : Bay) (temp : Int) : State :=
  let s := s.modDie (dieOf b) (fun d => { d with temp := temp })
  let k := keyA b RAssay.WINDOW_STATE
  if s.inWindow b then s.setO k 1
  else if s.getO k = 1 then (s.setO k 0).occur (evBay b 14) else s

/-! ### Purlin assay (R415) -/

/-- The member bays of the MULTI_MODULE sites of which this module is position 0. -/
def State.purlinBays (s : State) : List Bay :=
  ((List.finRange 64).filter (fun i => s.siteKind i == 4 && s.getS i RSite.PURLIN_POSITION == 0)).flatMap s.members

/-- PURLIN_ASSAY: only while every member bay of those sites is IDLE. -/
def State.purlinAssay (s : State) : State :=
  if s.getO R.PURLIN_STATUS = 1 then s.answer ST.STATE_LOCKED
  else if s.purlinBays.any (fun b => s.bst b != BS.IDLE) then (s.setO R.PURLIN_STATUS 4).answer ST.STATE_LOCKED
  else (s.setO R.PURLIN_STATUS 1).ok

/-- The hops are measured: one above 2.5 ns ends the assay with HOP_LONG; otherwise the pads are set, to a value the spec
gives no formula for (R415). (Log 35.) -/
def State.purlinDone (s : State) (hops : List Nat) : State :=
  if s.getO R.PURLIN_STATUS ≠ 1 then s
  else match hops.findIdx? (fun h => decide (2500 < h)) with
    | some i => (s.setO R.PURLIN_STATUS 3).fault 0x1C0 0x72 (i % 8)
    | none => (s.free.2.setO R.PURLIN_PAD (s.free.1.toNat % 2 ^ 32)).setO R.PURLIN_STATUS 2

/-! ### Meanings -/

/-- ROLL_STEP (R405). -/
def execRollStep (b : Bay) (s : State) : Host.Outcome State Fault Refusal := .next (s.rollStep b)

/-- HANDOVER (R406). -/
def execHandover (b : Bay) (codesEqual clear : Bool) (s : State) : Host.Outcome State Fault Refusal :=
  .next (s.handover b codesEqual clear)

/-- PATH_CALIBRATED (R407). -/
def execPathCalibrated (b : Bay) (m : PathMeas) (s : State) : Host.Outcome State Fault Refusal := .next (s.pathCalibrated b m)

/-- HANDOVER_TIMEOUT (R408). -/
def execHandoverTimeout (b : Bay) (s : State) : Host.Outcome State Fault Refusal := .next (s.handTimeout b)

/-- ROLL_PAUSE (R410). -/
def execRollPause (b : Bay) (on : Bool) (s : State) : Host.Outcome State Fault Refusal := .next (s.hostModule (fun s => s.rollPause b on))

/-- ROLL_ENABLE (R405, R410). -/
def execRollEnable (b : Bay) (on : Bool) (s : State) : Host.Outcome State Fault Refusal :=
  .next (s.hostModule (fun s => s.rollEnable b on))

/-- MANUAL_TARGET (R411). -/
def execManualTarget (b : Bay) (target : BitVec 8) (s : State) : Host.Outcome State Fault Refusal :=
  .next (s.hostModule (fun s => s.manualTarget b target.toNat))

/-- BAY_ASSAY_REQUEST (R412). -/
def execBayAssayRequest (b : Bay) (s : State) : Host.Outcome State Fault Refusal := .next (s.hostModule (fun s => s.bayAssay b))

/-- BAY_ASSAY_COMPLETE (R412). -/
def execBayAssayComplete (b : Bay) (r : BayAssayResult) (smp : Sample) (s : State) : Host.Outcome State Fault Refusal :=
  .next (s.bayAssayed b r smp)

/-- TMU_ASSAY (R414). -/
def execTmuAssay (b : Bay) (s : State) : Host.Outcome State Fault Refusal := .next (s.tmuAssay b)

/-- TMU_ASSAY_COMPLETE (R414). -/
def execTmuAssayComplete (b : Bay) (residual : BitVec 32) (s : State) : Host.Outcome State Fault Refusal :=
  .next (s.tmuAssayed b residual.toNat)

/-- PURLIN_ASSAY (R415). -/
def execPurlinAssay (s : State) : Host.Outcome State Fault Refusal := .next (s.hostModule State.purlinAssay)

/-- PURLIN_ASSAY_COMPLETE (R415). -/
def execPurlinAssayComplete (hopsPs : List Nat) (s : State) : Host.Outcome State Fault Refusal := .next (s.purlinDone hopsPs)

/-- ASSAY_WINDOW (R402). -/
def execAssayWindow (b : Bay) (temp : Int) (s : State) : Host.Outcome State Fault Refusal := .next (s.windowTemp b temp)

/-- LEDGER_COMMIT (R417). -/
def execLedgerCommit (smp : Sample) (s : State) : Host.Outcome State Fault Refusal := .next (s.ledgerCommit smp)

/-- LEDGER_INTERVAL_EXPIRY (R418). -/
def execLedgerIntervalExpiry (b : Bay) (s : State) : Host.Outcome State Fault Refusal := .next (s.ledgerInterval b)

/-- LEDGER_RETRY (R418). -/
def execLedgerRetry (s : State) : Host.Outcome State Fault Refusal := .next s.ledgerRetried

end Sys2Proof.Machine
end

