-- ==== Sys2Proof/Machine/Reset.lean ====
section
/-! DEFINITION. What the resets clear and keep (R451, R452). -/

namespace Sys2Proof.Machine

/-- The index of an object's key. -/
def indexOf (k : Nat) : Nat := k / 256

/-- The objects held in the keeper's MRAM or in the boot flash: they survive every reset (R382, R385, R395, R424, R451). -/
def keptAlways (k : Nat) : Bool :=
  [R.ZEROIZE_COUNT, R.TOUCHMARK_KEY_ID, R.GROUP_KEY_ID, R.TM_COUNTER, R.RESERVED_END, R.TM_GAPS, R.FW_ACTIVE_SLOT, R.ROLLBACK,
    R.LEDGER_SEQ, R.LEDGER_FREE, R.LOG_SEQ_NEXT, R.LOG_READ_SEQ, R.LOG_OVERWRITTEN, R.SUPPLY_STATE, R.REF_WARM].contains k ||
  (decide (R.CODE_KEY_USE ≤ k) && decide (k < R.CODE_KEY_USE + 8)) ||
  (decide (R.FW_SLOT_VERSION ≤ k) && decide (k < R.FW_SLOT_VERSION + 2))

/-- The objects the keeper serves for itself: module state, hold-up, reference, keeper, fault log, injection and policies
(R372, R439, R455); the core objects of 2000:06 to 2000:0A are the control island's. -/
def keptKeeper (k : Nat) : Bool :=
  (decide (0x2000 ≤ indexOf k) && decide (indexOf k < 0x2400) && !(decide (R.ACTIVE_CORE ≤ k) && decide (k ≤ R.SWITCHOVERS)) &&
    k != R.LOCK_MASK) ||
  [0xC000, 0xC001, 0xC010].contains (indexOf k)

/-- The objects of a bay kept in retention with its customer bank (R86, R451). -/
def keptBank (o : Nat) : Bool :=
  o == RBay.BANK_VERSION || o == RBay.BANK_DIGEST || (decide (RBay.CUSTOM_ENTRY ≤ o) && decide (o < RBay.CUSTOM_ENTRY + 15))

/-- The objects of a channel kept: its alphabets in retention (R126), and what its pin die holds, which no reset of the core
die reaches: its settings, guard states and inhibits (R164 to R171, R186). -/
def keptChan (o : Nat) : Bool :=
  (decide (RChan.ALPHA_PAGE0 ≤ o) && decide (o < RChan.FORMAT_FLAGS)) || (decide (RChan.VG_HI ≤ o) && decide (o ≤ RChan.TRIP_COUNT)) ||
    o == RChan.INHIBIT_CAUSE || pinHeld o

/-- The objects a warm reset keeps; the selected level set is that of the shadows, which the pin die holds (R159). -/
def keptWarm (k : Nat) : Bool :=
  let i := indexOf k
  keptAlways k || keptKeeper k || (decide (R.SLOT_STATE ≤ k) && decide (k < R.SLOT_STATE + 64)) ||
  (decide (0x3000 ≤ i) && decide (i < 0x4000) && (keptBank (k % 65536) || k % 65536 == RBay.CURRENT_LVL)) ||
  (decide (0x4000 ≤ i) && decide (i < 0x8000) && keptChan ((i - 0x4000) % 0x40 * 256 + k % 256))

/-- The keys of DOMAIN values held in MRAM: role anchors and code keys (R382). -/
def keptDoms (k : Nat) : Bool :=
  (decide (R.ROLE_ANCHOR ≤ k) && decide (k < R.ROLE_ANCHOR + 3)) || (decide (R.CODE_KEY ≤ k) && decide (k < R.CODE_KEY + 8))

/-- What a bay keeps through a warm reset beside its objects: the loaded ranges and the words in error of its customer
bank (R86, R451), and its reference channel on the pin die (R160). -/
def BayU.retained (u : BayU) : BayU :=
  { ranges := u.ranges, badWords := u.badWords.filter (fun a => decide (BANK ≤ a)), softWords := u.softWords.filter (fun a => decide (BANK ≤ a)), ref := u.ref }

/-- What a channel keeps through a warm reset beside its objects: what its pin die holds. -/
def ChanU.retained (u : ChanU) : ChanU :=
  { own := u.own, forced := u.forced, unver := u.unver, latchBay := u.latchBay, report := u.report, rbBad := u.rbBad, rbGood := u.rbGood,
    cmdAt := u.cmdAt }

/-- Whether a fault port is the keeper's or a pin die's, whose messages a reset of the core die leaves. -/
def portKept (unit : Nat) : Bool := unit == 0x1C2 || (decide (0x130 ≤ unit) && decide (unit ≤ 0x133))

/-- A firmware slot whose programming was cut short stays cut (R386). -/
def State.base (s : State) : State :=
  { now := s.now, fresh := s.fresh, pending := s.pending, reply := s.reply,
    objs := s.objs.filter (fun e => keptAlways e.1), doms := s.doms.filter (fun e => keptDoms e.1),
    tmKey := s.tmKey, groupKey := s.groupKey, nonces := s.nonces + 1, tmTest := 2, fwSlots := s.fwSlots,
    log := s.log, archived := s.archived, ledger := s.ledger, ledgerOld := s.ledgerOld, ledgerDoms := s.ledgerDoms,
    ledgerCorr := s.ledgerCorr, assayed := s.assayed, temps := s.temps, vauxAt := s.vauxAt }

/-- PORST_N: the whole module, with MRAM contents, ledger, firmware slots and fault archive kept; start-up begins at step 1
(R443, R451). DEDUCED (log 42). -/
def State.coldReset (s : State) : State :=
  let b := s.base
  let dies := s.dies.map (fun (d : DieU) => ({ clear := orBit (d.clear - d.clear % 2) 0, temp := d.temp } : DieU))
  let b := { b with startRef := s.now, keeperAt := s.now, dies := dies }.setO R.SUPPLY_STATE (s.getO R.SUPPLY_STATE % 256)
  b.each (List.finRange 4) State.showClear

/-- SYS_RST_N, or SAFE_HOLD_EXIT with RESTART: the core die is reset, clear asserted on the pin dies and the bays OFF; the
keeper runs on, the HBM keeps its contents, the retained stores stay, and start-up resumes at step 4 (R451).  Where step 4 had
not been reached, start-up goes on where it was (R443). DEDUCED (logs 25 and 42). -/
def State.warmReset (s : State) (cause : Nat) : State :=
  let stage := min 4 (s.getO R.START_STAGE)
  let b := s.base
  let b : State := { b with
    objs := s.objs.filter (fun e => keptWarm e.1)
    shingles := s.shingles, bank := s.bank, tsets := s.tsets, mem := s.mem, tags := s.tags, dies := s.dies
    hbmQ := { pcs := s.hbmQ.pcs.map (fun u => { trained := u.trained }) }
    bays := s.bays.map BayU.retained, chans := s.chans.map ChanU.retained
    ports := s.ports.filter (fun e => portKept e.1), portLost := s.portLost.filter (fun e => portKept e.1)
    fatal := s.fatal.filter (fun m => portKept m.unit)
    timers := s.timers, tokens := s.tokens, injSlots := s.injSlots, injNext := s.injNext
    mgmtLast := s.mgmtLast, keeperAt := s.keeperAt, keeperOff := s.keeperOff, aliveFreq := s.aliveFreq
    keeperRef := s.keeperRef, copies := s.copies.filter (fun e => e.1 == 0x1C2), checking := s.checking, checkDue := s.checkDue, startRef := s.now, tap := s.tap }
  let b := b.zeroSlots
  let b := b.each (List.finRange 4) (fun s d => (s.modDie d (fun u => { u with clear := clrBit u.clear 0 })).assertClear d 0)
  let b := b.each (List.finRange 16) (fun s b => s.inhibitBay b 0 true)
  let b := ((b.setO R.MODULE_STATE (if stage = 4 then 1 else 0)).setO R.START_STAGE stage).setO R.START_STATUS 0
  (b.setO R.RESET_CAUSE cause).setO R.ALIVE_STATE 1

end Sys2Proof.Machine
end

