-- ==== Sys2Proof/Machine/FaultCollector.lean ====
section
/-! DEFINITION. The fault collector (R420 to R431), the fault and event logs (R424, R425, R438), ALIVE and the watchdog (R432,
R433), what the keeper watches (R423), and leaving SAFE_HOLD (R434 to R436). -/

namespace Sys2Proof.Machine

/-! ### The fault log (R424, R425) -/

/-- The records the log holds. -/
def logSize : Nat := 1536

/-- Whether two messages have the same key: UNIT, KIND and INJECT (R424, R427). -/
def sameKey (a b : FaultMsg) : Bool := a.unit == b.unit && a.kind == b.kind && a.inject == b.inject

/-- A message as its 64 bits (R420). -/
def msgBits (m : FaultMsg) : Nat :=
  m.unit % 4096 + m.kind % 256 * 2 ^ 12 + m.severity % 4 * 2 ^ 20 + (if m.inject then 2 ^ 22 else 0) + m.epoch % 512 * 2 ^ 23 +
    m.address % 2 ^ 32 * 2 ^ 32

/-- A truth value as a bit. -/
def bit (b : Bool) : Nat := if b then 1 else 0

/-- A record's 32 bytes (R424). -/
def recBytes (r : FaultRec) : Bytes :=
  toBytes 8 (msgBits r.msg) ++ toBytes 8 r.time ++ toBytes 4 r.seq ++ toBytes 2 r.repeats ++
    toBytes 2 (r.step % 8 + 8 * bit r.handled + 16 * bit r.expired + 32 * bit r.timeFree + 64 * bit r.unconfirmed + 128 * bit r.skipped) ++
    toBytes 8 r.lastTime

/-- A change of the record with a LOG_SEQ. -/
def State.modRec (s : State) (seq : Nat) (f : FaultRec → FaultRec) : State :=
  { s with log := s.log.map (fun r => if r.seq = seq then f r else r) }

/-- The record with a LOG_SEQ, where the log still holds it. -/
def State.recOf (s : State) (seq : Nat) : Option FaultRec := s.log.find? (fun r => r.seq == seq)

/-- The read position, moved up to the oldest record held (R425). -/
def State.readPos (s : State) : Nat :=
  match s.log with
  | [] => s.getO R.LOG_SEQ_NEXT
  | r :: _ => max r.seq (min (s.getO R.LOG_READ_SEQ) (s.getO R.LOG_SEQ_NEXT))

/-- The records not read yet. -/
def State.unread (s : State) : Nat := s.getO R.LOG_SEQ_NEXT - s.readPos

/-- The control island archives the records that have become 256 more: one commit, retried 10 s after a refusal, or while no
control core runs (R425). -/
def State.archive (s : State) (m : Sample) : State :=
  let wait := { s with archRetry := some (s.now + 10000000000000) }
  if s.coreOut then wait
  else s.innerCommit m 4 0x1C0
    (fun s => { s with archived := s.archived + 256, archRetry := none })
    (fun s => { s with archRetry := some (s.now + 10000000000000) })

/-- A new record opens: the ring overwrites its oldest, FAULT_LOG_HALF is raised as the unread records pass 768, and every
256 records an archive write falls due (R424, R425). -/
def State.openRec (s : State) (r : FaultRec) (m : Sample) : State :=
  let s := s.setO R.LOG_SEQ_NEXT ((r.seq + 1) % 2 ^ 32)
  let s := if s.log.length < logSize then s else s.incO R.LOG_OVERWRITTEN
  let s := { s with log := lastN (logSize - 1) s.log ++ [r] }
  let s := if s.unread = 769 then s.event 2028 769 else s
  if (r.seq + 1) % 256 = 0 ∧ s.archRetry = none then s.archive m else s

/-! ### Escalation (R427, R429) -/

/-- The steps that can act on faults of a unit (R421): 1 CHANNEL_INHIBIT, 2 BAY_SAFE, 3 SITE_STOP, 4 SAFE_HOLD, 5 RESET. -/
def stepsOf (unit : Nat) : List Nat :=
  if unit < 0x100 then [1, 2, 3, 4, 5] else if unit < 0x134 then [2, 3, 4, 5] else [4, 5]

/-- The bays a unit's step acts on (R421, R429). -/
def stepBays (unit : Nat) : List Bay :=
  if h : 0x130 ≤ unit ∧ unit < 0x134 then baysOf ⟨unit - 0x130, by omega⟩ else (faultBay unit).toList

/-- CHANNEL_INHIBIT: both trip latches of the channel are set, with no GUARD_TRIP message (R427). -/
def State.inhibitChan (s : State) (unit : Nat) : State :=
  if h : unit < 256 then
    let c : Chan := ⟨unit, h⟩
    s.latchBoth c
  else s

/-- SITE_STOP at one site: a stop to every member bay at its next granule boundary, or the quad's retirement (R27,
R427); an island whose clock is stopped drops it (R14). -/
def State.stopSite (s : State) (i : Site) : State :=
  let s := s.markSite i SS.STOPPED
  if s.siteKind i = 1 then
    s.atMembers i (fun s b => if s.running b then s.retireSoon b (1 <<< s.getS i RSite.QUAD) else s)
  else s.atMembers i (fun s b => if s.running b then s.modBay b (fun u => { u with stopReq := true }) else s)

/-- The sites a unit's SITE_STOP acts on: a channel's own, else every site of its bays. -/
def State.stopSites (s : State) (unit : Nat) : List Site :=
  if h : unit < 256 then (s.siteOfChan ⟨unit, h⟩).toList
  else (List.finRange 64).filter (fun i => (stepBays unit).any (fun b => s.memberOf b i))

/-- Whether step 3 is skipped: the bay's present epoch is not the message's; a pin die's message is not compared (R429). -/
def State.epochPassed (s : State) (m : FaultMsg) : Bool :=
  match faultBay m.unit with
  | some b => s.getB b RBay.SITE_EPOCH % 512 != m.epoch
  | none => false

/-- A token goes to the bay island concerned, which must confirm it within 100 µs (R429). -/
def State.sendToken (s : State) (seq : Nat) : State := { s with tokens := s.tokens ++ [⟨seq, s.now + 100000000⟩] }

/-- An injection slot's contents. -/
def State.setInj (s : State) (k : Nat) (x : InjSlot) : State := { s with injSlots := s.injSlots.set (Fin.ofNat 16 k).val x (Fin.ofNat 16 k).isLt }

/-- One escalation step is applied (R427, R429).  A bay island whose clock is stopped takes no token. -/
def State.applyStep (s : State) (m : FaultMsg) (seq step : Nat) : State :=
  if step = 3 ∧ s.epochPassed m = true then s.modRec seq (fun r => { r with skipped := true })
  else
    let s := (s.incO R.ESCALATIONS).event 2021 (step + seq % 2 ^ 24 * 2 ^ 8)
    let s := s.modRec seq (fun r => { r with step := max r.step step })
    let s := match m.slot with
      | some k => s.setInj k { (s.injSlots.get (Fin.ofNat 16 k) : InjSlot) with
          step := step }
      | none => s
    let bays := (stepBays m.unit).filter (fun b => !s.bayDown b)
    if step = 1 then (if bays.isEmpty then s else s.inhibitChan m.unit).sendToken seq
    else if step = 2 then (s.each bays State.enterSafe).sendToken seq
    else if step = 3 then (s.each (s.stopSites m.unit) State.stopSite).sendToken seq
    else if step = 4 then s.enterHold m.kind m.unit false
    else { s.enterHold m.kind m.unit false with resetDue := some (s.now + 100000000000) }

/-- FINAL of a policy entry (R426). -/
def polFinal (p : Nat) : Nat := fieldOf p 2 3
/-- GRACE_TIME of a policy entry in ps. -/
def polTime (p : Nat) : Nat := fieldOf p 8 24 * 1000000

/-- The steps of a policy that apply to a unit and lie above one. -/
def stepsAbove (unit p tried : Nat) : List Nat := (stepsOf unit).filter (fun n => decide (n ≤ polFinal p) && decide (tried < n))

/-- Every step up to FINAL is applied at once, in order (R427). -/
def State.allSteps (s : State) (m : FaultMsg) (seq p : Nat) : State :=
  s.each (stepsAbove m.unit p 0) (fun s n => s.applyStep m seq n)

/-- TIMERS_BUSY follows the timers. -/
def State.setTimers (s : State) (l : List GraceTimer) : State := { s with timers := l }.setO R.TIMERS_BUSY l.length

/-- The policy entry of a kind. -/
def State.policy (s : State) (kind : Nat) : Nat := s.getO (key 0xC010 kind)

/-- The policy acts on a record that has been opened (R426, R427). -/
def State.react (s : State) (m : FaultMsg) (seq : Nat) : State :=
  let p := s.policy m.kind
  let s := if p.testBit 0 then s.event (2016 + m.severity) seq else s
  if polFinal p = 0 then s
  else if p.testBit 1 then
    if s.timers.any (fun t => sameKey t.msg m) then s
    else if s.timers.length < 64 then s.setTimers (s.timers ++ [{ msg := m, seq := seq, due := s.now + polTime p, policy := p }])
    else (s.incO R.GRACE_EXHAUSTED).allSteps m seq p
  else s.allSteps m seq p

/-- A record's injection slot shows where and when it was recorded, and INJECT_DONE is raised (R430). -/
def State.injected (s : State) (m : FaultMsg) (seq : Nat) : State :=
  match m.slot with
  | none => s
  | some k =>
    let s := s.setInj k { seq := seq, time := s.keeperTime, step := 0 }
    s.event 2029 (k % 16)

/-- The collector accepts a message: it is merged into a record of its key opened less than MERGE_WINDOW earlier, or a record
opens and the policy acts once (R424, R426, R427, R430). -/
def State.accept (s : State) (m : FaultMsg) (smp : Sample) : State :=
  let s := s.setO R.MESSAGES ((s.getO R.MESSAGES + 1) % 2 ^ 64)
  let t := s.keeperTime
  let window := s.getO R.MERGE_WINDOW * 1000000
  match s.log.reverse.find? (fun r => sameKey r.msg m && decide (s.now - r.opened < window)) with
  | some r => (s.modRec r.seq (fun r => { r with repeats := satAdd 16 r.repeats 1, lastTime := t })).injected m r.seq
  | none =>
    let seq := s.getO R.LOG_SEQ_NEXT
    let free := match s.keeperRef with
      | some at_ => decide (at_ + 10000000000 < s.now)
      | none => true
    let r : FaultRec :=
      { msg := m, time := t, seq := seq, repeats := 1, step := 0, handled := false, expired := false, timeFree := free,
        unconfirmed := false, skipped := false, lastTime := t, opened := s.now }
    let s := (s.openRec r smp).injected m seq
    if m.suppress then s else s.react m seq

/-- FAULT_MESSAGE: the collector takes a unit's message; FATAL kinds go before every queue (R422, R424). -/
def State.collect (s : State) (unit : Nat) (smp : Sample) : State :=
  if s.keeperOff then s
  else match takeFirst (fun m => m.unit == unit) s.fatal with
    | some (m, rest) => { s with fatal := rest }.accept m smp
    | none =>
      if !s.fatal.isEmpty then s
      else match s.ports.get unit [] with
        | [] => s
        | m :: q => { s with ports := s.ports.set unit q }.accept m smp

/-- FAULT_OVERFLOW: a unit that has discarded messages reports how many, once its queue has room (R422). -/
def State.overflow (s : State) (unit : Nat) : State :=
  let n := s.portLost.get unit 0
  if n = 0 ∨ 16 ≤ (s.ports.get unit []).length then s
  else { s with portLost := s.portLost.set unit 0 }.fault unit 0x01 n

/-- A grace timer expires with its key unhandled: EXPIRED is set and reported, the lowest step left is applied, and the next
follows after another GRACE_TIME (R427). -/
def State.graceOver (s : State) (unit kind : Nat) (inject : Bool) : State :=
  match takeFirst (fun t => t.msg.unit == unit && t.msg.kind == kind && t.msg.inject == inject) s.timers with
  | none => s
  | some (t, rest) =>
    let s := s.advance t.due
    let first := t.tried = 0
    let s := if first then (s.modRec t.seq (fun r => { r with expired := true })).event 2020 t.seq else s
    match stepsAbove unit t.policy t.tried with
    | [] => s.setTimers rest
    | n :: more =>
      let s := s.setTimers (if more.isEmpty then rest else rest ++ [{ t with due := t.due + polTime t.policy, tried := n }])
      s.applyStep t.msg t.seq n

/-- STEP_CONFIRM: the bay island confirms the step (R429). -/
def State.confirm (s : State) (seq : Nat) : State :=
  match takeFirst (fun (t : StepToken) => t.seq == seq) s.tokens with
  | some (_, rest) => { s with tokens := rest }
  | none => s

/-- STEP_UNCONFIRMED: 100 µs pass without a confirmation (R429). -/
def State.unconfirmed (s : State) (seq : Nat) : State :=
  match takeFirst (fun (t : StepToken) => t.seq == seq) s.tokens with
  | some (t, rest) => ({ s with tokens := rest }.advance t.due).modRec seq (fun r => { r with unconfirmed := true })
  | none => s

/-- FAULT_HANDLE: the named record is HANDLED and its key's timer stops (R428). -/
def State.handle (s : State) (seq : Nat) : State :=
  match s.recOf seq with
  | none => s.answer ST.OUT_OF_RANGE
  | some r =>
    let s := s.modRec seq (fun r => { r with handled := true })
    ((s.setTimers (s.timers.filter (fun t => !sameKey t.msg r.msg)))).ok

/-! ### Policies and injection (R426, R430) -/

/-- Whether RESET is allowed for a kind (R423). -/
def resetAllowed (kind : Nat) : Bool := [0x5A, 0x71, 0x84].contains kind

/-- Whether a policy entry may be written for a kind (R426). -/
def policyOk (kind e : Nat) : Bool :=
  let time := fieldOf e 8 24
  fieldOf e 5 3 == 0 && decide (polFinal e ≤ 5) && decide (time ≤ 10000000) && (!e.testBit 1 || decide (1 ≤ time)) &&
    (polFinal e != 5 || resetAllowed kind) &&
    (severityOf kind != 3 || (e.testBit 0 && !e.testBit 1 && decide (4 ≤ polFinal e)))

/-- POLICY_WRITE (R426). -/
def State.writePolicy (s : State) (kind e : Nat) : State :=
  if kind = 0 then s.answer ST.NO_SUBINDEX
  else if policyOk kind e then (s.setO (key 0xC010 kind) e).ok else s.answer ST.OUT_OF_RANGE

/-- INJECT_GO: the message goes to the named unit's fault port with INJECT set, and takes the next injection slot (R430). -/
def State.inject (s : State) : State :=
  let m := s.faultMsg (s.getO R.INJECT_UNIT) (s.getO R.INJECT_KIND) (s.getO R.INJECT_ADDRESS)
  let k := s.injNext
  let m := { m with inject := true, suppress := s.getO R.INJECT_MODE == 1, slot := some k }
  let s := { s with injNext := (k + 1) % 16 }.setInj k {}
  (s.send m).ok

/-- The bytes of an injection slot: LOG_SEQ, TIME and STEP (R439). -/
def slotBytes (x : InjSlot) : Bytes := toBytes 4 x.seq ++ toBytes 8 x.time ++ toBytes 1 x.step

/-! ### Reading the logs (R425, R438) -/

/-- FAULT_LOG_NEXT: up to eight records from the read position, which moves past them. -/
def State.logNext (s : State) : State :=
  let pos := s.readPos
  let rs := (s.log.filter (fun r => decide (pos ≤ r.seq))).take 8
  (s.setO R.LOG_READ_SEQ (pos + rs.length)).answerBody (rs.flatMap recBytes)

/-- FAULT_LOG_RECORD: the record that FAULT_LOG_INDEX names. -/
def State.logRecord (s : State) : State :=
  match s.recOf (s.getO R.FAULT_LOG_INDEX) with
  | some r => s.answerBody (recBytes r)
  | none => s.answer ST.OUT_OF_RANGE

/-- A record of the event log, as the per-record part of an EVENT body with OCCURRENCES 1. -/
def eventBytes (e : EventRec) : Bytes := toBytes 2 e.source ++ toBytes 2 1 ++ toBytes 8 e.time ++ toBytes 4 e.detail

/-- EVENT_LOG_NEXT: up to 64 records from the read position, which moves past them. -/
def State.eventNext (s : State) : State :=
  let n := s.getO R.EVENT_LOG_COUNT
  let es := (lastN n s.events).take 64
  (s.setO R.EVENT_LOG_COUNT (n - es.length)).answerBody (es.flatMap eventBytes)

/-! ### The keeper (R422, R423, R432, R433) -/

/-- The keeper's unit ID. -/
abbrev keeperUnit : Nat := 0x1C2

/-- A keeper command acts while the keeper runs. -/
def State.keeper (s : State) (k : State → State) : State := if s.keeperOff then s else k s

/-- ALIVE toggles again, at ALIVE_FREQ. -/
def State.startAlive (s : State) : State :=
  let f := s.getO R.ALIVE_FREQ
  { s.setO R.ALIVE_STATE 0 with aliveFreq := f, aliveAt := s.now + 1000000000000 / (2 * f) }

/-- ALIVE changes level; a change of ALIVE_FREQ applies from here (R432). -/
def State.toggle (s : State) : State :=
  if s.getO R.ALIVE_STATE = 1 then s
  else
    let s := s.advance s.aliveAt
    { s.startAlive with aliveHigh := !s.aliveHigh }

/-- The active control core writes the watchdog; ALIVE resumes, unless the module is in SAFE_HOLD (R433). -/
def State.feed (s : State) : State :=
  let s := { s with watchdog := some (s.now + s.getO R.WATCHDOG_TIME * 1000000000) }
  if s.operational && s.getO R.ALIVE_STATE == 1 then s.startAlive else s

/-- The watchdog expires (R433). -/
def State.starve (s : State) : State :=
  match s.watchdog, s.wdArmed with
  | some t, true =>
    let s := { s with watchdog := none }.advance t
    ((s.setO R.ALIVE_STATE 1).incO R.WATCHDOG_EXPIRIES).fault 0x1C0 0x71 0
  | _, _ => s

/-- A junction's temperature in 0.25 °C: above 106 °C TEMP_WARN is formed, above 112 °C TEMP_CRIT (R423). -/
def State.junction (s : State) (die : Fin 8) (temp : Int) : State :=
  let old := s.temps.get die
  let s := { s with temps := s.temps.set die.val temp die.isLt }
  let s := if old ≤ 424 ∧ 424 < temp then s.fault keeperUnit 0x81 die.val else s
  if old ≤ 448 ∧ 448 < temp then s.fault keeperUnit 0x82 die.val else s

/-- KCLK against REF_IN: more than 5 % apart is reported (R423). -/
def State.clockError (s : State) (ppm : Int) : State :=
  let v := ofSigned 32 ppm
  let s := s.setO R.KCLK_ERROR v
  if 50000 < ppm.natAbs then s.fault keeperUnit 0x85 v else s

/-! ### SAFE_HOLD at request, and its exits (R434, R436) -/

/-- The ADDRESS of HOST_SAFE_HOLD for a path (R434). -/
def pathNo : HoldPath → Nat
  | .dop => 0
  | .management => 1
  | .internal => 2

/-- SAFE_HOLD_REQUEST with 0x5A5A. -/
def State.requestHold (s : State) (p : HoldPath) (v : Nat) : State :=
  if v ≠ 0x5A5A then s.answer ST.OUT_OF_RANGE
  else ((s.fault keeperUnit 0x88 (pathNo p)).enterHold 0x88 keeperUnit false).ok

/-- Why a RESUME exit is refused, as EXIT_STATUS gives it; 0 where nothing stands against it (R436). -/
def State.exitBar (s : State) : Nat :=
  if s.watchdog.isNone then 1
  else if (s.getO R.REF_STATE ≠ 1 ∧ s.getO R.REF_STATE ≠ 2) ∨ s.locked 23 = false then 2
  else if s.getO R.SUPPLY_STATE % 256 ≠ 255 then 3
  else if s.temps.toList.any (fun t => decide (420 < t)) then 4
  else if s.beat then 0 else 5

/-- An exit is refused, and EXIT_STATUS gives the reason. -/
def State.refuseExit (s : State) (why : Nat) : State := (s.setO R.EXIT_STATUS why).answer ST.STATE_LOCKED

/-- In CRYPTO_ERROR either exit restarts the Touchmark unit alone, and the module stays in SAFE_HOLD (R380, R436). -/
def State.exitCrypto (s : State) : State := s.tmStart.refuseExit 6

/-- The module leaves SAFE_HOLD: clear is released, ALIVE toggles, and every bay stays in SAFE (R436). -/
def State.resume (s : State) : State :=
  let s := (s.each (List.finRange 4) (fun s d => s.releaseClear d 0)).startAlive
  (((s.setO R.MODULE_STATE MS.OPERATIONAL).setO R.EXIT_STATUS 0).event 2023 1).ok

/-- SAFE_HOLD_EXIT with RESUME. -/
def State.exitResume (s : State) : State :=
  if !s.inHold then s.answer ST.STATE_LOCKED
  else if s.getO R.MODULE_STATE = MS.CRYPTO then s.exitCrypto
  else if s.exitBar ≠ 0 then s.refuseExit s.exitBar
  else s.resume

/-- SAFE_HOLD_EXIT with RESTART: accepted but in CRYPTO_ERROR and with REF_IN absent. -/
def State.exitRestart (s : State) (cause : Nat) : State :=
  if !s.inHold then s.answer ST.STATE_LOCKED
  else if s.getO R.MODULE_STATE = MS.CRYPTO then s.exitCrypto
  else if s.getO R.REF_STATE = 0 then s.refuseExit 2
  else (((s.setO R.EXIT_STATUS 0).event 2023 2).warmReset cause).ok

/-! ### Meanings -/

/-- FAULT_MESSAGE (R424). -/
def execFaultMessage (unit : BitVec 12) (smp : Sample) (s : State) : Host.Outcome State Fault Refusal := .next (s.collect unit.toNat smp)

/-- FAULT_OVERFLOW (R422). -/
def execFaultOverflow (unit : BitVec 12) (s : State) : Host.Outcome State Fault Refusal := .next (s.overflow unit.toNat)

/-- GRACE_EXPIRED (R427). -/
def execGraceExpired (unit : BitVec 12) (kind : BitVec 8) (inject : Bool) (s : State) : Host.Outcome State Fault Refusal :=
  .next (s.keeper (fun s => s.graceOver unit.toNat kind.toNat inject))

/-- STEP_CONFIRM (R429). -/
def execStepConfirm (seq : BitVec 32) (s : State) : Host.Outcome State Fault Refusal := .next (s.confirm seq.toNat)

/-- STEP_UNCONFIRMED (R429). -/
def execStepUnconfirmed (seq : BitVec 32) (s : State) : Host.Outcome State Fault Refusal := .next (s.unconfirmed seq.toNat)

/-- FAULT_HANDLE (R428). -/
def execFaultHandle (seq : BitVec 32) (s : State) : Host.Outcome State Fault Refusal := .next (s.keeper (fun s => s.handle seq.toNat))

/-- POLICY_WRITE (R426): in any module state. -/
def execPolicyWrite (kind : BitVec 8) (entry : BitVec 32) (s : State) : Host.Outcome State Fault Refusal :=
  .next (s.keeper (fun s => s.writePolicy kind.toNat entry.toNat))

/-- INJECT_GO (R430). -/
def execInjectGo (s : State) : Host.Outcome State Fault Refusal := .next (s.keeper State.inject)

/-- FAULT_LOG_NEXT (R425). -/
def execFaultLogNext (s : State) : Host.Outcome State Fault Refusal := .next (s.keeper State.logNext)

/-- FAULT_LOG_RECORD (R425). -/
def execFaultLogRecord (s : State) : Host.Outcome State Fault Refusal := .next (s.keeper State.logRecord)

/-- KEEPER_TIME_REFRESH (R425): while the control island's counter runs. -/
def execKeeperTimeRefresh (s : State) : Host.Outcome State Fault Refusal :=
  .next (if s.counterOn.isSome then { s with copies := s.copies.set 0x1C2 (s.netTime, 0), keeperRef := some s.now } else s)

/-- ARCHIVE_RETRY (R425). -/
def execArchiveRetry (smp : Sample) (s : State) : Host.Outcome State Fault Refusal :=
  .next (match s.archRetry with
    | some t => (s.advance t).archive smp
    | none => s)

/-- EVENT_LOG_NEXT (R438). -/
def execEventLogNext (s : State) : Host.Outcome State Fault Refusal := .next (s.hostModule State.eventNext)

/-- ALIVE_TOGGLE (R432). -/
def execAliveToggle (s : State) : Host.Outcome State Fault Refusal := .next (s.keeper State.toggle)

/-- WATCHDOG_WRITE (R433): by the active control core, while one runs. -/
def execWatchdogWrite (s : State) : Host.Outcome State Fault Refusal := .next (s.keeper (fun s => if s.coreOut then s else s.feed))

/-- WATCHDOG_EXPIRY (R433). -/
def execWatchdogExpiry (s : State) : Host.Outcome State Fault Refusal := .next (s.keeper State.starve)

/-- HEARTBEAT_LOSS (R423): while the core die is released. -/
def execHeartbeatLoss (s : State) : Host.Outcome State Fault Refusal :=
  .next (s.keeper (fun s => if s.beat then { s with beat := false }.fault keeperUnit 0x84 0 else s))

/-- TEMPERATURE_ALARM (R423): a junction's temperature in 0.25 °C. -/
def execTemperatureAlarm (die : Fin 8) (temp : Int) (s : State) : Host.Outcome State Fault Refusal :=
  .next (s.keeper (fun s => s.junction die temp))

/-- KEEPER_CLOCK (R423). -/
def execKeeperClock (ppm : Int) (s : State) : Host.Outcome State Fault Refusal := .next (s.keeper (fun s => s.clockError ppm))

/-- SAFE_HOLD_REQUEST (R434). -/
def execSafeHoldRequest (path : HoldPath) (value : BitVec 16) (s : State) : Host.Outcome State Fault Refusal :=
  .next (s.keeper (fun s => s.requestHold path value.toNat))

/-- SAFE_HOLD_EXIT_RESUME (R436). -/
def execSafeHoldExitResume (s : State) : Host.Outcome State Fault Refusal := .next (s.keeper State.exitResume)

/-- SAFE_HOLD_EXIT_RESTART (R436). -/
def execSafeHoldExitRestart (s : State) : Host.Outcome State Fault Refusal := .next (s.keeper (fun s => s.exitRestart 2))

/-- RESET_STEP_RESTART (R427): 100 ms after a RESET step, by the keeper. -/
def execResetStepRestart (s : State) : Host.Outcome State Fault Refusal :=
  .next (s.keeper (fun s =>
    match s.resetDue with
    | some t => ({ s with resetDue := none }.advance t).exitRestart 3
    | none => s))

end Sys2Proof.Machine
end

