-- ==== Sys2Proof/Machine/Power.lean ====
section
/-! DEFINITION. Supplies, start-up, the hold-up checks, the reset inputs, control-core switch-over and the TAP (R440 to R455,
R465). -/

namespace Sys2Proof.Machine

/-! ### Supplies (R440 to R442) -/

/-- Whether a supply is valid: its bit of SUPPLY_STATE. -/
def State.supply (s : State) (n : Nat) : Bool := (s.getO R.SUPPLY_STATE).testBit n

/-- Whether every supply is valid and none was out of order, which ends KEEPER_ONLY (R441, R443). -/
def State.suppliesOk (s : State) : Bool := s.getO R.SUPPLY_STATE % 2 ^ 16 == 255

/-- Whether groups B and C are valid. -/
def State.groupsOk (s : State) : Bool := s.getO R.SUPPLY_STATE / 2 % 128 == 127

/-- Step 4 begins: the core die is released and the module is in BOOT (R443). -/
def State.releaseCore (s : State) : State :=
  if s.getO R.START_STAGE = 4 ∧ s.getO R.MODULE_STATE = 0 ∧ s.suppliesOk = true then s.setO R.MODULE_STATE 1 else s

/-- Whether a supply becomes valid out of R441's order: as the integrator's ramps show, before VAUX, or VPE_POS or VPE_NEG
before VPE. -/
def State.outOfOrder (s : State) (n : Nat) (inOrder : Bool) : Bool :=
  !inOrder || (decide (1 ≤ n) && !s.supply 0) || (decide (6 ≤ n) && !s.supply 5)

/-- A supply becomes valid: SUPPLY_STATE shows it and whether the order was violated; with their supplies valid the pin
dies power up (R166, R173, R441). -/
def State.supplyUp (s : State) (n : Nat) (inOrder : Bool) : State :=
  let before := s.supply 5 && s.supply 6 && s.supply 7
  let v := orBit (s.getO R.SUPPLY_STATE) n
  let s := s.setO R.SUPPLY_STATE (if s.outOfOrder n inOrder then orBit v 15 else v)
  let s := if n = 0 then { s with vauxAt := s.now } else s
  let s := if !before && (s.supply 5 && s.supply 6 && s.supply 7) then s.pinPowerUp else s
  s.releaseCore

/-- A supply of group B or C leaves its range (R442); past KEEPER_ONLY that is SUPPLY_FAULT. -/
def State.supplyDown (s : State) (n : Nat) : State :=
  if n = 0 then s
  else
    let s := s.setO R.SUPPLY_STATE (clrBit (s.getO R.SUPPLY_STATE) n)
    if s.getO R.MODULE_STATE = 0 then s else s.fault keeperUnit 0x80 n

/-- VAUX is lost: the keeper runs from the hold-up store (R442). -/
def State.vauxLost (s : State) : State :=
  if s.supply 0 then
    ((s.setO R.SUPPLY_STATE (clrBit (s.getO R.SUPPLY_STATE) 0)).setO R.HOLDUP_STATE HS.ON_STORE).fault keeperUnit 0x80 0
  else s

/-- VAUX is back while the keeper runs from the store; the last check says what HOLDUP_STATE shows. DEDUCED (log 26). -/
def State.vauxBack (s : State) : State :=
  if s.getO R.HOLDUP_STATE = HS.ON_STORE then
    let st := if s.getO R.HOLDUP_CHECK_TIME = 0 ∧ s.getO R.HOLDUP_ENERGY = 0 then 0
      else if 120 ≤ s.getO R.HOLDUP_ENERGY then HS.OK else HS.LOW
    { (s.setO R.SUPPLY_STATE (orBit (s.getO R.SUPPLY_STATE) 0)).setO R.HOLDUP_STATE st with vauxAt := s.now }
  else s

/-! ### Start-up (R443 to R446) -/

/-- The next stage is in progress. -/
def State.nextStage (s : State) : State := s.setO R.START_STAGE (s.getO R.START_STAGE + 1)

/-- A bit of START_STATUS is set. -/
def State.started (s : State) (bit : Nat) : State := s.setO R.START_STATUS (orBit (s.getO R.START_STATUS) bit)

/-- The start-up hold-up check: recorded, and start-up continues; below 120 mJ it is repeated every 10 s and HOLDUP_PENDING
shows (R446). -/
def State.startCheck (s : State) (m : Sample) : State :=
  let s := { s.recordCheck m with checkDue := some (s.now + s.getO R.HOLDUP_INTERVAL * 1000000000000) }
  if s.holdupOk then s else { s.started 4 with recheck := some (s.now + 10000000000000) }

/-- Stage 1 completes: the MRAM has been checked (R443). -/
def State.stage1 (s : State) (r : StageResult) : State :=
  if !s.supply 0 then s
  else (match r.mram with
    | some a => s.fault keeperUnit 0x86 a.toNat
    | none => s).nextStage

/-- Stage 2 completes once a reference has been selected (R444). -/
def State.stage2 (s : State) : State := if s.getO R.REF_STATE = 1 ∨ s.getO R.REF_STATE = 2 then s.nextStage else s

/-- Stage 3 completes: the check (R446), and the core die is released where the supplies allow. -/
def State.stage3 (s : State) (r : StageResult) : State := (s.startCheck r.smp).nextStage.releaseCore

/-- Stage 4 completes in BOOT: the PLLs are locked, the network-time counter runs from 0, and a resumption repeats the check
of step 3 (R8, R338, R446). -/
def State.stage4 (s : State) (r : StageResult) : State :=
  if s.getO R.MODULE_STATE ≠ 1 then s
  else
    let mask := [16, 17, 18, 23, 40] ++ (List.range 16).map (24 + ·)
    let s := s.setO R.LOCK_MASK (mask.foldl orBit (s.getO R.LOCK_MASK))
    let s := { s with counterOn := some s.now, beat := true }
    let s := s.each (List.finRange 16) (fun s b => s.modTmu b (fun u => { u with lockAt := s.now }))
    (if s.getO R.RESET_CAUSE = 0 then s else s.startCheck r.smp).nextStage

/-- Whether the image of a slot verifies: a good signature, not cut short, and ROLLBACK_INDEX at least ROLLBACK (R385, R386). -/
def State.verifies (s : State) (r : StageResult) (n : Fin 2) : Option FwImage :=
  match r.images.get n with
  | some i => if (s.fwSlots.get n).cut = false ∧ s.getO R.ROLLBACK ≤ i.rollback.toNat then some i else none
  | none => none

/-- The image of a slot runs: the control island's firmware, every bay's vendor microprograms and the benches' firmware
(R86, R265, R385). -/
def State.runImage (s : State) (n : Fin 2) (i : FwImage) : State :=
  let s := (s.setO R.FIRMWARE_VERSION i.release.toNat).setO (R.FW_SLOT_VERSION + n.val) i.release.toNat
  let s := { s with
    fwRollback := i.rollback.toNat
    fwSlots := s.fwSlots.set n.val ⟨i.release.toNat, i.rollback.toNat, false⟩ n.isLt }
  let s := s.each (List.finRange 16) (fun s b => s.setB b RBay.VENDOR_VERSION (Config.vendorRelease i.release).toNat)
  let s := s.each (List.finRange 12) (fun s k =>
    (s.setO (keyBench k.val RBench.BENCH_CATALOGUE) i.catalogue.toNat).setO (keyBench k.val RBench.BENCH_STATE) BN.RUNNING)
  s.showCatalogue

/-- Stage 5 completes: the active slot's image runs, else the other's with FW_FALLBACK, else SAFE_HOLD with the control ports
down (R385, R445). The cause is free (log 28). -/
def State.stage5 (s : State) (r : StageResult) : State :=
  let n : Fin 2 := Fin.ofNat 2 (s.getO R.FW_ACTIVE_SLOT)
  match s.verifies r n, s.verifies r (1 - n) with
  | some i, _ => (s.runImage n i).nextStage
  | none, some i => (((s.runImage (1 - n) i).setO R.FW_FALLBACK 1).started 2).nextStage
  | none, none =>
    let f := s.free
    f.2.enterHold (f.1.toNat % 256) (f.1.toNat / 256 % 4096) false

/-- Stage 6 completes: the Touchmark unit's self-tests; a failure leads to CRYPTO_ERROR (R378, R445). -/
def State.stage6 (s : State) (r : StageResult) : State :=
  let s := { s with tmTest := 2 }.selfTested r.tests.toNat r.smp
  if s.inHold then s else s.nextStage

/-- Stage 7 completes: both control cores have started, or one, with no standby (R443, R445). -/
def State.stage7 (s : State) (r : StageResult) : State :=
  let bad := (List.range 2).filter (fun c => !r.cores.toNat.testBit c)
  let s := s.each bad (fun s c => s.fault 0x1C0 0x70 c)
  if bad = [] then { (s.setO R.ACTIVE_CORE 0).setO R.STANDBY_STATE 2 with coreOut := false }.nextStage
  else if bad.length = 2 then s.setO R.STANDBY_STATE 0
  else { ((s.setO R.ACTIVE_CORE (if bad = [0] then 1 else 0)).setO R.STANDBY_STATE 0).started 6 with coreOut := false }.nextStage

/-- Stage 8 completes: each pseudo-channel is ACTIVE, or OUT_OF_SERVICE and reported (R288, R445). -/
def State.stage8 (s : State) (r : StageResult) : State :=
  let s := s.each (List.range 64) (fun s pc =>
    if r.pcFailed.toNat.testBit pc then s.pcFails pc 0 else s.trained pc)
  (if r.pcFailed = 0 then s else s.started 1).nextStage

/-- The calibration ledger is loaded: each record in use, and of a bay whose newest TIMING record is lost the one before, with
its paths STALE; with no record left, FACTORY values (R417). -/
def State.loadLedger (s : State) (r : StageResult) : State :=
  if r.noRecord then (s.setO R.LEDGER_STATE 0).started 3
  else
    let s : State := { s with
      objs := s.ledger.foldl (fun t (e : Nat × Nat) => t.set e.1 e.2) s.objs
      doms := s.ledgerDoms.foldl (fun t (e : Nat × Bytes) => t.set e.1 e.2) s.doms }
    let s := s.each ((List.finRange 16).filter (fun (b : Bay) => r.older.toNat.testBit b.val)) (fun s b =>
      let s := s.each (recordKeys LG.TIMING b) (fun s k => s.setO k (s.ledgerOld.get k (Row.default k)))
      s.each (chansOf b) (fun s c => s.flagC c RChan.PATH_STATUS 2))
    let s := s.each (List.finRange 16) (fun s b =>
      match s.ledgerCorr.get b.val 0 with
      | 0 => s
      | n + 1 => s.modTmu b (fun u => { u with corr := some n }))
    (s.showRegions).setO R.LEDGER_STATE (if r.copyLost then 2 else 0)

/-- Stage 9 completes: the ledger is loaded, and the clear codes are written, which the pin dies drive (R166, R417). -/
def State.stage9 (s : State) (r : StageResult) : State :=
  let s := s.loadLedger r
  (s.each ((List.finRange 256).filter (fun c => s.clearOn (bayOf c))) (fun s c => s.setOutputs c (s.clearCodes c))).nextStage

/-- Stage 10 completes: the keeper removes clear, and the bays go from OFF to SAFE (R34, R443). -/
def State.stage10 (s : State) : State :=
  let s := s.each (List.finRange 4) (fun s d => s.releaseClear d 0)
  (s.each (List.finRange 16) (fun s b => s.leaveOff b false)).nextStage

/-- Stage 11 completes: the lane quads are locked and the enabled lanes begin bring-up (R443). -/
def State.stage11 (s : State) : State :=
  let s := s.setO R.LOCK_MASK ([19, 20, 21, 22].foldl orBit (s.getO R.LOCK_MASK))
  let s := s.setO R.LREFCLK_OK 1
  (s.each ((List.finRange 32).filter (fun l => s.getL l RLane.ENABLE == 1)) (fun s l => s.enableLane l true)).nextStage

/-- Stage 12 completes: READY, OPERATIONAL, the watchdog armed and ALIVE toggling (R432, R433, R443). -/
def State.stage12 (s : State) : State :=
  let s := (s.setO R.MODULE_STATE MS.OPERATIONAL).started 0
  let s := s.setO R.START_TIME ((s.now - s.startRef) / 1000000000 % 2 ^ 32)
  { s with wdArmed := true, watchdog := some (s.now + s.getO R.WATCHDOG_TIME * 1000000000) }.startAlive

/-- The stage in progress completes (R443): in no stage of SAFE_HOLD, after a TIMEOUT or once READY. -/
def State.stageDone (s : State) (r : StageResult) : State :=
  if s.inHold || s.operational || (s.getO R.START_STATUS).testBit 5 then s
  else match s.getO R.START_STAGE with
    | 1 => s.stage1 r
    | 2 => s.stage2
    | 3 => s.stage3 r
    | 4 => s.stage4 r
    | 5 => s.stage5 r
    | 6 => s.stage6 r
    | 7 => s.stage7 r
    | 8 => s.stage8 r
    | 9 => s.stage9 r
    | 10 => s.stage10
    | 11 => s.stage11
    | 12 => s.stage12
    | _ => s

/-- REF_STATE for a frequency counted on KCLK: within 10 % of 10 MHz or of 100 MHz (R444). -/
def refState (hz : Nat) : Nat :=
  if hz = 0 then 0
  else if 9000000 ≤ hz ∧ hz ≤ 11000000 then 1
  else if 90000000 ≤ hz ∧ hz ≤ 110000000 then 2
  else 3

/-- Whether a reference is selected. -/
def State.refOk (s : State) : Bool := s.getO R.REF_STATE == 1 || s.getO R.REF_STATE == 2

/-- READY has not been reached within 10 s of the reference (R445). -/
def State.startLate (s : State) : State :=
  if s.getO R.MODULE_STATE = 1 then (s.advance (s.startRef + 10000000000000)).started 5 else s

/-! ### Hold-up checks (R446 to R450) -/

/-- A check ends; until one has passed since start-up it is repeated 10 s later (R446). -/
def State.checkDone (s : State) (m : Sample) : State :=
  if s.checking then
    let s := s.recordCheck m
    if s.holdupOk ∨ (s.getO R.START_STATUS).testBit 4 = false then s else { s with recheck := some (s.now + 10000000000000) }
  else s

/-! ### Control-core switch-over (R453, R454) -/

/-- Whether a switch-over must wait: a commit is outstanding, a ledger commit is in progress, or a firmware or package load
runs (R453). -/
def State.switchBusy (s : State) : Bool :=
  s.commit.isSome || !s.ledgerQ.isEmpty || s.fwLoad.isSome ||
  (List.finRange 16).any (fun b => (s.bay b).pkg.isSome || (s.bay b).bankLoad.isSome) ||
  (List.finRange 12).any (fun n => s.benchState n == BN.LOADING)

/-- A switch-over request is refused and SWITCH_STATUS records the reason. -/
def State.refuseSwitch (s : State) (why : Nat) : State := (s.setO R.SWITCH_STATUS why).answer ST.STATE_LOCKED

/-- SWITCHOVER_REQUEST. -/
def State.requestSwitch (s : State) : State :=
  if s.switchBusy then s.refuseSwitch 3
  else if s.getO R.STANDBY_STATE ≠ 2 then s.refuseSwitch 5
  else { (s.setO R.SWITCH_STATUS 1).setO R.STANDBY_STATE 1 with switchTo := 1 }.ok

/-- The gap begins: firmware-served requests are refused, the sessions close, and the keeper counts the notice as a watchdog
write (R454). -/
def State.gap (s : State) (how : Nat) : State := { s.closeSessions with coreOut := true, switchTo := how }.feed

/-- The standby core has loaded the image, and verified it or not (R453). -/
def State.standbyIn (s : State) (verified : Bool) : State :=
  if s.switchTo ≠ 1 then s
  else if verified then s.gap 2
  else { (s.setO R.SWITCH_STATUS 4).setO R.STANDBY_STATE 2 with switchTo := 0 }

/-- A control core faults: the active one's READY standby takes over at once, and with none no core runs; a standby is FAULTED
(R453). -/
def State.controlFault (s : State) (core : Nat) : State :=
  let s := s.fault 0x1C0 0x70 core
  if core = s.getO R.ACTIVE_CORE then
    if s.getO R.STANDBY_STATE = 2 then s.gap 3 else { s.closeSessions with coreOut := true, switchTo := 0 }
  else
    let s := s.setO R.STANDBY_STATE 3
    if s.switchTo = 1 then { s.setO R.SWITCH_STATUS 5 with switchTo := 0 } else { s with switchTo := 0 }

/-- The standby core becomes active: the event, the count, and on request the image of FW_ACTIVE_SLOT (R386, R453). -/
def State.takeover (s : State) : State :=
  if s.switchTo ≠ 2 ∧ s.switchTo ≠ 3 then s
  else
    let asked := decide (s.switchTo = 2)
    let core := 1 - s.getO R.ACTIVE_CORE
    let s := { (s.setO R.ACTIVE_CORE core).incO R.SWITCHOVERS with coreOut := false, switchTo := if asked then 4 else 0 }
    let s := s.setO R.STANDBY_STATE (if asked then 1 else 3)
    let s := if asked then
        let i := s.fwSlots.get (Fin.ofNat 2 (s.getO R.FW_ACTIVE_SLOT))
        { (s.setO R.SWITCH_STATUS 2).setO R.FIRMWARE_VERSION i.release with fwRollback := i.rollback }
      else s
    s.event 2025 core

/-! ### Meanings -/

/-- SUPPLY_VALID (R441). -/
def execSupplyValid (n : Fin 8) (inOrder : Bool) (s : State) : Host.Outcome State Fault Refusal :=
  .next (s.keeper (fun s => s.supplyUp n.val inOrder))

/-- SUPPLY_TIMEOUT (R441): 100 ms after group A a supply is still not valid, and SUPPLY_STATE shows which. -/
def execSupplyTimeout (n : Fin 8) (s : State) : Host.Outcome State Fault Refusal :=
  .next (s.keeper (fun s => if s.supply 0 ∧ s.supply n.val = false then s.advance (s.vauxAt + 100000000000) else s))

/-- SUPPLY_FAULT (R442). -/
def execSupplyFault (n : Fin 8) (s : State) : Host.Outcome State Fault Refusal := .next (s.keeper (fun s => s.supplyDown n.val))

/-- VAUX_LOSS (R442). -/
def execVauxLoss (s : State) : Host.Outcome State Fault Refusal := .next (s.keeper State.vauxLost)

/-- VAUX_RETURN (R442). -/
def execVauxReturn (s : State) : Host.Outcome State Fault Refusal := .next (s.keeper State.vauxBack)

/-- HOLDUP_DEPLETED (R442): the keeper stops. -/
def execHoldupDepleted (s : State) : Host.Outcome State Fault Refusal :=
  .next (if s.getO R.HOLDUP_STATE = HS.ON_STORE then { s with keeperOff := true } else s)

/-- PORST_N (R451): at least 10 µs low resets; a shorter pulse may act or not. DESIGN CHOICE (log 23). -/
def execPorstN (lowNs : Nat) (s : State) : Host.Outcome State Fault Refusal :=
  .next (
    if 10000 ≤ lowNs then (s.advance (s.now + 1000 * lowNs)).coldReset
    else if s.freeBit.1 then (s.freeBit.2.advance (s.now + 1000 * lowNs)).coldReset else s.freeBit.2)

/-- SYS_RST_N (R451): at least 1 µs low resets; a shorter pulse may act or not. DESIGN CHOICE (log 23). -/
def execSysRstN (lowNs : Nat) (s : State) : Host.Outcome State Fault Refusal :=
  .next (
    if 1000 ≤ lowNs then (s.advance (s.now + 1000 * lowNs)).warmReset 1
    else if s.freeBit.1 then (s.freeBit.2.advance (s.now + 1000 * lowNs)).warmReset 1 else s.freeBit.2)

/-- START_STAGE_COMPLETE (R443). -/
def execStartStageComplete (r : StageResult) (s : State) : Host.Outcome State Fault Refusal :=
  .next (s.keeper (fun s => s.stageDone r))

/-- REF_IN_DETECT (R444): in step 2, or once a selected reference has been lost. -/
def execRefInDetect (hz : Nat) (s : State) : Host.Outcome State Fault Refusal :=
  .next (s.keeper (fun s =>
    if s.getO R.START_STAGE = 2 ∨ (2 < s.getO R.START_STAGE ∧ s.refOk = false) then s.setO R.REF_STATE (refState hz) else s))

/-- REF_IN_FAULT (R423, R436): a reference that was selected is absent or off frequency. -/
def execRefInFault (absent offFrequency : Bool) (s : State) : Host.Outcome State Fault Refusal :=
  .next (s.keeper (fun s =>
    if 2 < s.getO R.START_STAGE ∧ s.refOk = true ∧ (absent || offFrequency) = true then
      (s.setO R.REF_STATE (if absent then 0 else 3)).fault keeperUnit 0x73 (bit absent + 2 * bit offFrequency)
    else s))

/-- START_TIMEOUT (R445). -/
def execStartTimeout (s : State) : Host.Outcome State Fault Refusal := .next (s.keeper State.startLate)

/-- HOLDUP_CHECK_REQUEST (R455): a check begins, in any module state. -/
def execHoldupCheckRequest (s : State) : Host.Outcome State Fault Refusal := .next (s.keeper (fun s => { s with checking := true }.ok))

/-- HOLDUP_INTERVAL_EXPIRY (R450). -/
def execHoldupIntervalExpiry (s : State) : Host.Outcome State Fault Refusal :=
  .next (s.keeper (fun s =>
    match s.checkDue with
    | some t =>
      let s := s.advance t
      { s with checking := true, checkDue := some (t + s.getO R.HOLDUP_INTERVAL * 1000000000000) }
    | none => s))

/-- HOLDUP_CHECK_COMPLETE (R448). -/
def execHoldupCheckComplete (smp : Sample) (s : State) : Host.Outcome State Fault Refusal := .next (s.keeper (fun s => s.checkDone smp))

/-- HOLDUP_RECHECK (R446). -/
def execHoldupRecheck (s : State) : Host.Outcome State Fault Refusal :=
  .next (s.keeper (fun s =>
    match s.recheck with
    | some t => { s.advance t with checking := true, recheck := none }
    | none => s))

/-- SWITCHOVER_REQUEST (R453). -/
def execSwitchoverRequest (s : State) : Host.Outcome State Fault Refusal := .next (s.hostFirm State.requestSwitch)

/-- STANDBY_LOADED (R453). -/
def execStandbyLoaded (verified : Bool) (s : State) : Host.Outcome State Fault Refusal := .next (s.standbyIn verified)

/-- CONTROL_CORE_FAULT (R453): of a core that runs, which it does from step 7 of start-up. -/
def execControlCoreFault (core : Fin 2) (s : State) : Host.Outcome State Fault Refusal :=
  .next (if s.getO R.START_STAGE < 8 ∨ (core.val = s.getO R.ACTIVE_CORE ∧ s.coreOut = true) ∨
      (core.val ≠ s.getO R.ACTIVE_CORE ∧ (s.getO R.STANDBY_STATE = 0 ∨ s.getO R.STANDBY_STATE = 3)) then s
    else s.controlFault core.val)

/-- SWITCHOVER_TAKEOVER (R453). -/
def execSwitchoverTakeover (s : State) : Host.Outcome State Fault Refusal := .next s.takeover

/-- STANDBY_RESTART (R453): after a switch-over on request. -/
def execStandbyRestart (s : State) : Host.Outcome State Fault Refusal :=
  .next (if s.switchTo = 4 then { s.setO R.STANDBY_STATE 2 with switchTo := 0 } else s)

/-- What the TAP executes for an instruction: one that takes control of lands only in SAFE_HOLD, a debug instruction only while
debug is unlocked, and BYPASS in their place (R398, R465). -/
def State.tapRuns (s : State) : JtagInstr → JtagInstr
  | .extest => if s.inHold then .extest else .bypass
  | .landControl => if s.inHold then .landControl else .bypass
  | .debug => if s.getO R.DEBUG_STATE = 1 then .debug else .bypass
  | i => i

/-- JTAG_INSTRUCTION (R465): the chain answers only while groups B and C are valid. -/
def execJtagInstruction (i : JtagInstr) (s : State) : Host.Outcome State Fault Refusal :=
  .next (if s.groupsOk then { s with tap := s.tapRuns i } else s)

end Sys2Proof.Machine
end

