-- ==== Sys2Proof/Machine/Commit.lean ====
section
/-! DEFINITION. Stage and commit (R37 to R45, R472): the shadows that units hold, the outstanding commit, and what each unit
does at its boundary. -/

namespace Sys2Proof.Machine

/-! ### Shadows (R40, R355, R365) -/

/-- The control island as a commit unit. -/
abbrev controlUnit : Nat := 0x1C0
/-- The fabric as a commit unit. -/
abbrev fabricUnit : Nat := 0x1E0

/-- The items staged to a unit, oldest first. -/
def State.shadow (s : State) (unit : Nat) : List Staged := s.shadows.get unit []

/-- The unit that owns a staged object (R355). -/
def ownerUnit (index : Nat) : Nat :=
  if index < 0x2900 then controlUnit
  else if index < 0x4000 then 0x100 + (index - 0x3000) / 256
  else if index < 0x8000 then 0x100 + (index - 0x4000) / 0x40 / 16
  else if index < 0xA000 then fabricUnit
  else 0x180 + (index - 0xA010)

/-- Whether two staged items have the same place. -/
def Staged.samePlace (a b : Staged) : Bool := a.index == b.index && a.sub == b.sub && a.at_ == b.at_

/-- An item goes into its owner's shadow, over an earlier one of the same place; a bay shows STAGED (R41). -/
def State.putShadow (s : State) (x : Staged) : State :=
  let u := ownerUnit x.index
  let s := { s with shadows := s.shadows.set u ((s.shadow u).filter (fun y => !x.samePlace y) ++ [x]) }
  if h : 0x100 ≤ u ∧ u < 0x110 then s.setB ⟨u - 0x100, by omega⟩ RBay.COMMIT_STATUS 1 else s

/-- A unit's shadows are gone: applied or discarded; a bay that showed STAGED shows NONE where they were discarded. -/
def State.dropShadow (s : State) (unit : Nat) : State := { s with shadows := s.shadows.set unit [] }

/-- The value an object has in its owner's shadow, or holds. -/
def State.stagedO (s : State) (index sub : Nat) : Nat :=
  match (s.shadow (ownerUnit index)).find? (fun x => x.index == index && x.sub == sub) with
  | some x => ofBytes x.value
  | none => s.getO (key index sub)

/-- Whether the outstanding commit addresses a unit (R44). -/
def State.committing (s : State) (unit : Nat) : Bool := s.commit.any (fun c => c.units.any (fun u => u.1 == unit))

/-- The graph whose definition is staged (R246). -/
def State.stagedGraph (s : State) : Option Graph :=
  ((s.shadow fabricUnit).find? (fun x => x.index ≠ 0x9000)).map (fun x => Fin.ofNat 64 ((x.index - 0x8100) / 16))

/-- Whether a change of the memory partition is staged (R276). -/
def State.stagedPartition (s : State) : Bool := (s.shadow fabricUnit).any (fun x => x.index == 0x9000)

/-! ### The site map (R25, R37, R472) -/

/-- An object of a site as the staged items would leave it. -/
def State.newS (s : State) (i : Site) (sub : Nat) : Nat := s.stagedO (0x2810 + i.val) sub

/-- The bays of a kind and a mask. -/
def siteBays (kind mask : Nat) : List Bay := if kind = 0 then [] else (List.finRange 16).filter (fun b => mask.testBit b.val)

/-- The new membership of a site. -/
def State.newMembers (s : State) (i : Site) : List Bay := siteBays (s.newS i RSite.KIND) (s.newS i RSite.BAY_MASK)

/-- The sites that staged items change. -/
def State.changedSites (s : State) : List Site :=
  (List.finRange 64).filter (fun i => (s.shadow controlUnit).any (fun x => x.index == 0x2810 + i.val))

/-- The bays of the old and the new membership of the sites that the items change. -/
def State.changeBays (s : State) : List Bay :=
  (List.finRange 16).filter (fun b => s.changedSites.any (fun i => (s.members i).contains b || (s.newMembers i).contains b))

/-- The quads of a bay that a site would hold. -/
def State.newQuads (s : State) (i : Site) (b : Bay) : List Nat :=
  if (s.newMembers i).contains b then (if s.newS i RSite.KIND = 1 then [s.newS i RSite.QUAD % 4] else [0, 1, 2, 3]) else []

/-- Whether the site map that the staged items would give is valid (R472). -/
def State.mapOk (s : State) : Bool :=
  (List.finRange 64).all (fun i =>
    let k := s.newS i RSite.KIND
    let n := (s.newMembers i).length
    (k ≠ 1 && k ≠ 2 || n == 1) && (k ≠ 3 || decide (2 ≤ n))) &&
  (List.finRange 16).all (fun b =>
    let qs := (List.finRange 64).flatMap (fun i => s.newQuads i b)
    (List.range 4).all (fun q => decide (qs.count q ≤ 1)))

/-- Whether a site's assignment changes: its kind, its bays or its quad (R37). -/
def State.assigns (s : State) (i : Site) : Bool :=
  [RSite.KIND, RSite.BAY_MASK, RSite.QUAD].any (fun o => s.newS i o != s.getS i o)

/-- The groups of bays whose assignment changes together: each changed site's old and new membership, joined where they share
a bay. -/
def State.changeGroups (s : State) : List (List Bay) :=
  (s.changedSites.filter s.assigns).foldl (fun gs i =>
    let m := (List.finRange 16).filter (fun b => (s.members i).contains b || (s.newMembers i).contains b)
    let hit := gs.filter (fun g => g.any m.contains)
    gs.filter (fun g => !g.any m.contains) ++ [(List.finRange 16).filter (fun b => m.contains b || hit.any (fun g => g.contains b))]) []

/-- The epoch after one (R37). -/
def nextEpoch (e : Nat) : Nat := if 0xFFFF ≤ e then 1 else e + 1

/-- The new epoch of a group: one greater than the largest that its bays hold (R37). -/
def State.groupEpoch (s : State) (g : List Bay) : Nat := nextEpoch ((g.map (fun b => s.getB b RBay.SITE_EPOCH)).foldl max 0)

/-- The site of a quad of a bay, 0xFF where it is in none. -/
def State.quadSite (s : State) (b : Bay) (q : Nat) : Nat :=
  match (List.finRange 64).find? (fun i => s.memberOf b i && (s.siteKind i ≠ 1 || s.getS i RSite.QUAD == q)) with
  | some i => i.val
  | none => 0xFF

/-- CURRENT_SITE and QUAD_SITE of a bay follow the site map (R36). -/
def State.showSite (s : State) (b : Bay) : State :=
  let qs := (List.range 4).map (s.quadSite b)
  let whole := (s.sitesOf b).find? (fun i => s.siteKind i ≠ 1)
  (s.setB b RBay.CURRENT_SITE (match whole with
    | some i => i.val
    | none => 0xFF)).setB b RBay.QUAD_SITE (ofBytes (qs.map (BitVec.ofNat 8)))

/-- The claims that member bays hold for SITE_CONDITION are released when their site is dissolved (R46).  DESIGN CHOICE (log 50): a
site has no unit ID, so its claims are the ones for SITE_CONDITION under a member bay's. -/
def State.dissolve (s : State) (bs : List Bay) : State :=
  s.each allResources (fun s r => match s.claim r with
    | some c => if c.feature = 0x0D ∧ bs.any (fun b => bayUnit b == c.owner) = true then s.freeClaim r else s
    | none => s)

/-- The control island's copy of the site map takes the staged items, and the epochs change with it (R37, R472). -/
def State.applyMap (s : State) : State :=
  let groups := s.changeGroups
  let epochs := groups.map (fun g => (g, s.groupEpoch g))
  let bays := s.changeBays
  let gone := s.changedSites.filter (fun i => s.siteKind i ≠ 0 && s.newS i RSite.KIND == 0)
  let s := s.each gone (fun s i => s.dissolve (s.members i))
  let s := s.each (s.shadow controlUnit) (fun s x => s.setO (key x.index x.sub) (ofBytes x.value))
  let s := s.dropShadow controlUnit
  let s := s.setO R.SITE_COUNT ((List.finRange 64).filter (fun i => s.siteKind i ≠ 0)).length
  let s := s.each epochs (fun s p => s.each p.1 (fun s b => s.setB b RBay.SITE_EPOCH (if (s.sitesOf b).isEmpty then 0 else p.2)))
  let s := s.each (List.finRange 64) (fun s i =>
    match (s.members i).head? with
    | some b => s.setS i RSite.EPOCH (s.getB b RBay.SITE_EPOCH)
    | none => s.setS i RSite.EPOCH 0)
  s.each bays State.showSite

/-! ### The outstanding commit (R40 to R44) -/

/-- COMMIT_STATUS APPLIED, and the status of a report. -/
abbrev CS.APPLIED : Nat := 2
/-- COMMIT_STATUS REFUSED. -/
abbrev CS.REFUSED : Nat := 3
/-- Commit refusal reasons (R41). -/
abbrev CR.NOT_STAGED : Nat := 1
/-- STATE -/
abbrev CR.STATE : Nat := 2
/-- EPOCH -/
abbrev CR.EPOCH : Nat := 3
/-- WINDOW -/
abbrev CR.WINDOW : Nat := 4
/-- ISLAND_DOWN -/
abbrev CR.ISLAND_DOWN : Nat := 5
/-- SITE_PEER -/
abbrev CR.SITE_PEER : Nat := 6

/-- Whether an ID is a commit unit (R40). -/
def commitUnit (u : Nat) : Bool :=
  (decide (0x100 ≤ u) && decide (u < 0x110)) || (decide (0x180 ≤ u) && decide (u < 0x1A0)) || u == controlUnit || u == fabricUnit

/-- Whether a list carries a site change: it names the control island, which holds staged items (R472). -/
def State.siteChange (s : State) (units : List (Nat × Nat)) : Bool :=
  units.any (fun u => u.1 == controlUnit) && !(s.shadow controlUnit).isEmpty

/-- Whether a COMMIT is refused as a whole (R40, R472). -/
def State.commitBad (s : State) (limit : Nat) (units : List (Nat × Nat)) : Bool :=
  let ids := units.map (·.1)
  ids.isEmpty || decide (limit < ids.length) || !ids.all commitUnit || decide ¬ids.Nodup ||
  (s.siteChange units && (!s.mapOk || !s.changeBays.all (fun b => ids.contains (bayUnit b))))

/-- A unit of the outstanding commit with its entry's epoch, where it has not reported. -/
def State.waiting1 (s : State) (unit : Nat) : Option Nat :=
  match s.commit with
  | some c => if c.reports.any (fun r => r.1 == unit) then none else (c.units.find? (fun u => u.1 == unit)).map (·.2)
  | none => none

/-- A unit reports; a bay shows it (R41). -/
def State.report (s : State) (unit status reason : Nat) : State :=
  if (s.waiting1 unit).isNone then s
  else
    let s := { s with commit := s.commit.map (fun c => { c with reports := c.reports ++ [(unit, status, reason)] }) }
    if h : 0x100 ≤ unit ∧ unit < 0x110 then
      let b : Bay := ⟨unit - 0x100, by omega⟩
      ((s.setB b RBay.COMMIT_STATUS status).setB b RBay.COMMIT_REASON reason).modBay b (fun u => { u with holding := none })
    else s

/-- A unit keeps its old values, and its shadows stay staged (R41). -/
def State.refuseUnit (s : State) (unit reason : Nat) : State := s.report unit CS.REFUSED reason

/-- The commit becomes outstanding: tokens go out with its tag, and a staged change of a RUNNING graph begins its drain (R40,
R261). -/
def State.startCommit (s : State) (session : Option Nat) (tag : Nat) (units : List (Nat × Nat)) : State :=
  let s := { s with commit := some ⟨tag, units, [], s.now + s.getO R.COMMIT_WINDOW * 1000000, session⟩ }
  let s := s.each (List.finRange 16) (fun s b =>
    if units.any (fun u => u.1 == bayUnit b) then s.setB b RBay.COMMIT_TAG tag else s)
  match s.stagedGraph, units.find? (fun u => u.1 == fabricUnit) with
  | some g, some u =>
    if s.getG g.val RGraph.GRAPH_STATE = GS.RUNNING ∧ u.2 = s.getG g.val RGraph.GRAPH_EPOCH ∧ s.locked 16 = true then
      { s.setG g.val RGraph.GRAPH_STATE GS.DRAINING with drains := s.drains.set g.val 2 }
    else s
  | _, _ => s

/-! ### A bay's boundary (R40, R41) -/

/-- One staged item of a bay takes effect. -/
def State.applyItem (s : State) (b : Bay) (x : Staged) : State :=
  if x.index < 0x4000 then
    if x.index % 256 = 0x61 then
      s.each (List.range (x.value.length / 680)) (fun s j => s.storeSet b (x.at_ + j) (slice x.value (680 * j) 680))
    else s.setO (key x.index x.sub) (ofBytes x.value)
  else
    let c : Chan := Fin.ofNat 256 ((x.index - 0x4000) / 0x40)
    let o := (x.index - 0x4000) % 0x40
    if 1 ≤ o ∧ o ≤ 0x10 then
      s.writeLevels c (o - 1) (if x.sub = 9 then (chunks 4 8 x.value).map ofBytes
        else (s.levelSet c (o - 1)).set (x.sub - 1) (ofBytes x.value))
    else if o = 0x12 then
      s.setGuard c (if x.sub = 1 then .hi else if x.sub = 2 then .lo else .hyst) (ofBytes x.value)
    else s.setO (key x.index x.sub) (ofBytes x.value)

/-- Whether an item holds level-set contents. -/
def Staged.isLevel (x : Staged) : Bool :=
  decide (0x4000 ≤ x.index) && decide (1 ≤ (x.index - 0x4000) % 0x40) && decide ((x.index - 0x4000) % 0x40 ≤ 0x10)

/-- Whether an item is a guard threshold or a hysteresis. -/
def Staged.isGuard (x : Staged) : Bool := decide (0x4000 ≤ x.index) && (x.index - 0x4000) % 0x40 == 0x12

/-- The period of the period set that the last vector used. -/
def State.periodInUse (s : State) (b : Bay) : Option Nat := (s.bay b).lastPrd.map (fun p => s.getB b (RBay.PERIOD + p))

/-- A bay applies its shadows whole.  In RUN and PAUSE, another value of the period set in use resets the accumulator (R121).  Level
codes bring a LOAD, but in RUN or PAUSE only with COMMIT_LOAD set, or where a LOAD of this BCLK cycle is to output them (R40, R161,
R163). -/
def State.applyBay (s : State) (b : Bay) : State :=
  let items := s.shadow (bayUnit b)
  let old := s.periodInUse b
  let s := (s.each items (fun s x => s.applyItem b x)).dropShadow (bayUnit b)
  let s := if s.running b && s.periodInUse b != old then s.periodReset b else s
  if items.any Staged.isLevel && (!s.running b || s.getB b RBay.COMMIT_LOAD == 1 || (s.bay b).loadCyc == some (s.bclk b)) then s.load b
  else s

/-- Whether a bay's boundary for the items it holds has come: in RUN and PAUSE a granule boundary, but for items of levels and
guards alone (R40, R140). -/
def State.atBoundary (s : State) (b : Bay) : Bool :=
  !s.running b || s.atGranule b || (s.shadow (bayUnit b)).all (fun x => x.isLevel || x.isGuard)

/-- Why a bay refuses a commit, 0 where it does not: its clock, its epoch, its state, and, outside a site change, nothing
staged (R14, R41, R472). -/
def State.bayBar (s : State) (b : Bay) (epoch : Nat) (site : Bool) : Nat :=
  if s.bst b = BS.OFF then CR.STATE
  else if !s.locked b.val then CR.ISLAND_DOWN
  else if epoch ≠ s.getB b RBay.SITE_EPOCH then CR.EPOCH
  else if site then (if s.bst b = BS.IDLE ∨ s.bst b = BS.ARMED ∨ s.bst b = BS.SAFE then 0 else CR.STATE)
  else if s.bst b = BS.MAINT then CR.STATE
  else if (s.shadow (bayUnit b)).isEmpty then CR.NOT_STAGED
  else 0

/-- A stale COMMIT is counted at its bay; no other command's answer changes (R38). -/
def State.staleCommit (s : State) (b : Bay) : State := { s.stale b with reply := s.reply }

/-- Whether a bay of a site change has been judged: it holds its state or has refused. -/
def State.judged (s : State) (b : Bay) : Bool := (s.bay b).holding.isSome || (s.waiting1 (bayUnit b)).isNone

/-- Whether a bay of a site change can still apply it: it is in the state it held (R472). -/
def State.ready (s : State) (b : Bay) : Bool := (s.bay b).holding == some (s.bst b)

/-- A bay in ARMED returns to IDLE, and an arming in progress ends (R40, R472). -/
def State.backToIdle (s : State) (b : Bay) : State :=
  if s.bst b = BS.ARMED ∨ (s.bst b = BS.IDLE ∧ (s.bay b).arming ≠ 0) then { s.disarm b with reply := s.reply } else s

/-- Once every bay of a site change has been judged, all apply it, or none does (R472). -/
def State.decideSites (s : State) : State :=
  let bays := s.changeBays
  if (s.waiting1 controlUnit).isNone || (s.shadow controlUnit).isEmpty || !bays.all s.judged then s
  else if bays.all s.ready then
    let s := s.applyMap
    let s := s.each bays (fun s b => ((s.backToIdle b).applyBay b).report (bayUnit b) CS.APPLIED 0)
    s.report controlUnit CS.APPLIED 0
  else
    let s := s.each bays (fun s b => if s.ready b then s.refuseUnit (bayUnit b) CR.SITE_PEER else s.refuseUnit (bayUnit b) CR.STATE)
    s.refuseUnit controlUnit CR.SITE_PEER

/-- A bay's boundary: of a site change it is part of, it holds its state until the outcome is known (R41, R472); a bay in RUN or
PAUSE applies nothing between granule boundaries (R40). -/
def State.bayBoundary (s : State) (b : Bay) (epoch : Nat) : State :=
  let site := !(s.waiting1 controlUnit).isNone && !(s.shadow controlUnit).isEmpty && s.changeBays.contains b
  let bar := s.bayBar b epoch site
  let s := if bar = CR.EPOCH then s.staleCommit b else s
  if bar ≠ 0 then (s.refuseUnit (bayUnit b) bar).decideSites
  else if site then (if (s.bay b).holding.isSome then s else s.modBay b (fun u => { u with holding := some (s.bst b) })).decideSites
  else if s.atBoundary b then (s.applyBay b).report (bayUnit b) CS.APPLIED 0
  else s

/-! ### A lane's and the fabric's boundary (R261, R276, R319) -/

/-- A lane's boundary: inside a gathering window the rate waits for its end. -/
def State.laneBoundary (s : State) (l : Lane) : State :=
  let u := 0x180 + l.val
  if !s.locked (19 + l.val / 8) then s.refuseUnit u CR.ISLAND_DOWN
  else match s.shadow u with
    | [] => s.refuseUnit u CR.NOT_STAGED
    | x :: _ =>
      let r := s.applyRate l (ofBytes x.value)
      if r.2 then (r.1.dropShadow u).report u CS.APPLIED 0 else r.1

/-- What stands against the staged partition, as PARTITION_ERROR gives it, on the state that has the new sizes (R276). -/
def State.partitionError (s : State) : Nat :=
  let bays := List.finRange 16
  match bays.find? s.armed, (List.range 64).find? (fun g => s.getG g RGraph.GRAPH_STATE == GS.RUNNING || s.getG g RGraph.GRAPH_STATE == GS.DRAINING),
      bays.find? (fun b => (s.regionFail b).isSome),
      bays.find? (fun b => s.getB b RBay.STAGE_SIZE ≠ 0 && decide (s.patternBytes < s.getB b RBay.STAGE_BASE + s.getB b RBay.STAGE_SIZE)),
      bays.find? (fun b => (List.finRange 5).any (fun m => s.getCap b m RCap.ENABLE == 1 && s.toHbm b m && !s.inCapture b m)),
      (List.range 64).find? (fun g => s.getG g RGraph.POOL_SIZE ≠ 0 && (decide (s.getG g RGraph.POOL_BASE < s.getO R.SYSTEM_BASE) ||
        decide (dataSpace < s.getG g RGraph.POOL_BASE + s.getG g RGraph.POOL_SIZE))) with
  | some b, _, _, _, _, _ => 1 + b.val * 256
  | none, some g, _, _, _, _ => 2 + g * 256
  | none, none, some b, _, _, _ => 3 + b.val * 256
  | none, none, none, some b, _, _ => 4 + b.val * 256
  | none, none, none, none, some b, _ => 5 + b.val * 256
  | none, none, none, none, none, some g => 6 + g * 256
  | none, none, none, none, none, none => 0

/-- The largest sum of PATTERN_SIZE and CAPTURE_SIZE in MiB (R275). -/
def partitionMax : Nat := 39040

/-- The state with the fabric's staged items written. -/
def State.withFabric (s : State) : State :=
  s.each (s.shadow fabricUnit) (fun s x =>
    if x.index ≠ 0x9000 ∧ 7 ≤ x.sub ∧ x.sub ≤ 0xA then { s with doms := s.doms.set (key x.index x.sub) x.value }
    else s.setO (key x.index x.sub) (ofBytes x.value))

/-- A graph whose drain a commit began resumes unchanged, one that became SITE_STALE meanwhile as such (R259, R261). -/
def State.resumeGraph (s : State) : State :=
  match s.stagedGraph with
  | some g =>
    if s.drains.get g.val 0 ≠ 2 then s
    else { (if s.getG g.val RGraph.GRAPH_STATE = GS.DRAINING then s.setG g.val RGraph.GRAPH_STATE GS.RUNNING else s) with
      drains := s.drains.set g.val 0 }
  | none => s

/-- The fabric refuses; a draining graph resumes. -/
def State.refuseFabric (s : State) (reason : Nat) : State := s.resumeGraph.refuseUnit fabricUnit reason

/-- The graph's part of the fabric's shadows is applied at its drain (R246, R262). -/
def State.fabricGraph (s : State) : State :=
  match s.stagedGraph with
  | none => s
  | some g =>
    let back := if s.drains.get g.val 0 = 2 then GS.RUNNING else s.getG g.val RGraph.GRAPH_STATE
    s.applyGraph s.withFabric g.val back

/-- The fabric has applied its part and reports it. -/
def State.fabricDone (s : State) : State := (s.fabricGraph.dropShadow fabricUnit).report fabricUnit CS.APPLIED 0

/-- The fabric's boundary, once the staged graph has drained: a stale graph epoch, a definition or a partition that R246 or
R276 refuses, a hold-up check that fails, or both parts applied whole. -/
def State.fabricBoundary (s : State) (epoch : Nat) (m : Sample) : State :=
  if !s.locked 16 then s.refuseFabric CR.ISLAND_DOWN
  else if (s.shadow fabricUnit).isEmpty then s.refuseFabric CR.NOT_STAGED
  else
    let stale := s.stagedGraph.any (fun g => s.getG g.val RGraph.GRAPH_EPOCH != epoch)
    let new := s.withFabric.showRegions
    let sum := new.getO R.PATTERN_SIZE + new.getO R.CAPTURE_SIZE
    if stale then (match s.stagedGraph with
      | some g => s.addG g.val RGraph.STALE_COUNT 1
      | none => s).refuseFabric CR.EPOCH
    else if s.stagedGraph.any (fun g => !s.drained g.val || s.drains.get g.val 0 == 1) then s
    else if s.stagedGraph.any (fun g => new.graphBad g.val) || (s.stagedPartition && decide (partitionMax < sum)) then s.refuseFabric CR.STATE
    else if s.stagedPartition && new.partitionError ≠ 0 then (s.setO R.PARTITION_ERROR new.partitionError).refuseFabric CR.STATE
    else if s.stagedPartition then
      s.innerCommit m s.ledgerClass controlUnit
        (fun s =>
          let t := s.ledgerWrite
          let t := (((t.setO R.PATTERN_SIZE (new.getO R.PATTERN_SIZE)).setO R.CAPTURE_SIZE (new.getO R.CAPTURE_SIZE)).setO
            R.PARTITION_ERROR 0).showRegions
          (t.ledgerPut [R.PATTERN_SIZE, R.CAPTURE_SIZE]).fabricDone)
        (fun s => s.refuseFabric CR.STATE)
    else s.fabricDone

/-- COMMIT_APPLY: a unit that the outstanding commit addresses reaches its boundary. -/
def State.boundaryOf (s : State) (unit : Nat) (m : Sample) : State :=
  match s.waiting1 unit with
  | none => s
  | some epoch =>
    if h : 0x100 ≤ unit ∧ unit < 0x110 then s.bayBoundary ⟨unit - 0x100, by omega⟩ epoch
    else if h : 0x180 ≤ unit ∧ unit < 0x1A0 then s.laneBoundary ⟨unit - 0x180, by omega⟩
    else if unit = controlUnit then
      if (s.shadow controlUnit).isEmpty then s.refuseUnit controlUnit CR.NOT_STAGED else s.decideSites
    else if unit = fabricUnit then s.fabricBoundary epoch m
    else s

/-- The commit window ends: the cancel token reaches every unit that has not reported; a draining graph resumes, and a lane
keeps its rate (R42, R261, R319).  A bay that was ready for a site change, and held its state, is refused for its peers (R472). -/
def State.cancelUnit (s : State) (unit : Nat) : State :=
  if unit = fabricUnit then s.refuseFabric CR.WINDOW
  else if (List.finRange 16).any (fun b => bayUnit b == unit && (s.bay b).holding.isSome) then s.refuseUnit unit CR.SITE_PEER
  else if unit = controlUnit then s.refuseUnit unit (if (s.shadow controlUnit).isEmpty then CR.WINDOW else CR.SITE_PEER)
  else if h : 0x180 ≤ unit ∧ unit < 0x1A0 then
    (s.modLane ⟨unit - 0x180, by omega⟩ (fun u => { u with rateNew := none })).refuseUnit unit CR.WINDOW
  else s.refuseUnit unit CR.WINDOW

/-- Cancel tokens to every unit of the commit. -/
def State.cancelAll (s : State) : State :=
  match s.commit with
  | some c => s.each (c.units.map (·.1)) State.cancelUnit
  | none => s

/-- A record of COMMIT_REPORT (R43). -/
def reportBits (unit : Nat) (r : Nat × Nat) : Nat := unit * 2 ^ 20 + r.1 * 2 ^ 16 + r.2 * 2 ^ 8

/-- The report of a unit of a commit. -/
def CommitRun.reportOf (c : CommitRun) (unit : Nat) : Nat × Nat :=
  match c.reports.find? (fun r => r.1 == unit) with
  | some r => r.2
  | none => (0, 0)

/-- The mask of the units that applied (R43). -/
def CommitRun.mask (c : CommitRun) : Nat :=
  c.units.zipIdx.foldl (fun m p => if (c.reportOf p.1.1).1 = CS.APPLIED then orBit m p.2 else m) 0

/-- COMMIT_REPORT's value. -/
def CommitRun.bytes (c : CommitRun) : Bytes := c.units.flatMap (fun u => toBytes 4 (reportBits u.1 (c.reportOf u.1)))

/-- Whether every unit has reported. -/
def CommitRun.over (c : CommitRun) : Bool := c.units.all (fun u => c.reports.any (fun r => r.1 == u.1))

/-- The DOP status of a commit: OK where every unit applied it (R43). -/
def CommitRun.status (c : CommitRun) : Nat :=
  if c.units.all (fun u => (c.reportOf u.1).1 == CS.APPLIED) then ST.OK else ST.PARTIAL_COMMIT

/-- The commit objects are written together and the lock is released (R45). -/
def State.closeCommit (s : State) (c : CommitRun) : State :=
  let s := ((s.setO R.COMMIT_TAG c.tag).setO R.COMMIT_RESULT c.status).setO R.APPLIED_MASK c.mask
  { s with commit := none, doms := s.doms.set R.COMMIT_REPORT c.bytes }

/-- The body of a COMMIT's reply: the mask, and a record of each unit (R366). -/
def CommitRun.body (c : CommitRun) : Bytes := toBytes 8 c.mask ++ c.bytes

end Sys2Proof.Machine
end

