-- ==== Sys2Proof/Machine/Objects.lean ====
section
/-! DEFINITION. The dictionary as a path sees it: the lookup of an address, the gates of R353 and R373, types and ranges, and
the value an object reads as (R350 to R357, R360, R364, R473). -/

namespace Sys2Proof.Machine

/-- How a request reaches the dictionary: the role it carries, the session's view, the session, and the path (R353, R360). -/
structure Via where
  role : Nat
  view : Nat := 0x31
  sid  : Option (Fin 16) := none
  path : HoldPath := .dop
  deriving DecidableEq, Repr

/-- Access codes (R357): RO. -/
abbrev AC.RO : Nat := 0
/-- RW -/
abbrev AC.RW : Nat := 1
/-- WO -/
abbrev AC.WO : Nat := 2
/-- CONST -/
abbrev AC.CONST : Nat := 3
/-- RWS -/
abbrev AC.RWS : Nat := 4
/-- RWL -/
abbrev AC.RWL : Nat := 5

/-! ### Lookup (R350, R351, R360) -/

/-- Whether a view holds the object with a key: DICT_VERSION's view holds every one (R360). -/
def inView (view k : Nat) : Bool := decide (0x31 ≤ view) || decide ((Config.since k).toNat ≤ view)

/-- The subindexes of an index that a view holds. -/
def subsOf (view index : Nat) : List Nat :=
  (dictionary.filter (fun r => r.hasIndex index)).flatMap (fun r =>
    ((List.range (r.subHi + 1 - r.subLo)).map (r.subLo + ·)).filter (fun n => inView view (key index n)))

/-- Subindex 00 of an index: the highest subindex in use, CONST; it is in the reduced set, or on the internal path, where an
object of its index is (R350). -/
def row0 (view index : Nat) : Row :=
  let rs := dictionary.filter (fun r => r.hasIndex index)
  { base := index, stride := 1, count := 1, width := 1, subLo := 0, subHi := 0, type := 2, access := AC.CONST,
    dflt := (subsOf view index).foldl max 0, mn := 0, mx := 255, readRole := 0, writeRole := 1,
    stageable := false, multi := false, internal := rs.any (·.internal), keeper := rs.any (·.keeper) }

/-- The subindexes of a capture stream that do not apply to its mode (R215): no HBM ring, channel mask and start for HISTORY and
SCOPE, and nothing of a window for FAIL_LOG, which has none (R191). DEDUCED (log 56). -/
def capNone (index sub : Nat) : Bool :=
  decide (0x3000 ≤ index) && decide (index < 0x4000) &&
    (((index % 256 == 0xA6 || index % 256 == 0xA7) && decide (4 ≤ sub) && decide (sub ≤ 7)) ||
      (index % 256 == 0xA4 && (sub == 8 || sub == 9 || sub == 0xF)))

/-- The object at an address in a view, or NO_OBJECT or NO_SUBINDEX (R215, R350, R360). -/
def findIn (view index sub : Nat) : Except Nat Row :=
  if (subsOf view index).isEmpty then .error ST.NO_OBJECT
  else if sub = 0 then .ok (row0 view index)
  else if capNone index sub then .error ST.NO_SUBINDEX
  else match findRow index sub with
    | some r => if inView view (key index sub) then .ok r else .error ST.NO_SUBINDEX
    | none => .error ST.NO_SUBINDEX

/-- Whether an object answers in the module's state (R373). -/
def State.answers (s : State) (index : Nat) (r : Row) : Bool :=
  s.operational || r.keeper || (!s.inHold && decide (0x1000 ≤ index) && decide (index < 0x2000))

/-! ### Owners of an object -/

/-- The bay that an object belongs to, itself or through its channel (R351). -/
def ownerBay (index : Nat) : Option Bay :=
  if 0x3000 ≤ index ∧ index < 0x4000 then some (Fin.ofNat 16 ((index - 0x3000) / 256))
  else if 0x4000 ≤ index ∧ index < 0x8000 then some (Fin.ofNat 16 ((index - 0x4000) / 1024))
  else none

/-- An object's place within its bay: 256 times the low index byte plus the subindex. -/
def bayPlace (index sub : Nat) : Nat := (index - 0x3000) % 256 * 256 + sub
/-- The channel of an index, and an object's place within its channel. -/
def chanNoOf (index : Nat) : Chan := Fin.ofNat 256 ((index - 0x4000) / 0x40)
/-- An object's place within its channel. -/
def chanPlace (index sub : Nat) : Nat := (index - 0x4000) % 0x40 * 256 + sub

/-- Whether an object of a bay is held in the control island, so that it answers while the bay's clock is stopped: the state,
commit and claim objects (R36, R46).  The spec does not say where they are held. DESIGN CHOICE (log 50): 3b00 to 3b02 and the claim
objects answer. -/
def controlHeld (index sub : Nat) : Bool :=
  decide (index < 0x4000) &&
    (let o := bayPlace index sub
     decide (o < 0x300) || o == RBay.CLAIM_BLANK_TIMER || o == RBay.CLAIM_SPARE_PATH ||
      (decide (RBay.CLAIM_PROBE_ROUTE ≤ o) && decide (o < RBay.CLAIM_PROBE_ROUTE + 2)) ||
      (decide (RBay.CLAIM_CAPTURE_PARTITION ≤ o) && decide (o < RBay.CLAIM_CAPTURE_PARTITION + 8)))

/-- Whether guard logic answers for the island that holds an object (R14, R220): a TMU's objects are in the TMU island (R235). -/
def State.islandDown (s : State) (index sub : Nat) : Bool :=
  match ownerBay index with
  | some b =>
    !controlHeld index sub &&
      (if index < 0x4000 ∧ 0xC0 ≤ index % 256 ∧ index % 256 < 0xE0 then !s.locked (24 + b.val) else s.bayDown b)
  | none => decide (0xA010 ≤ index) && decide (index < 0xA030) && !s.locked (19 + (index - 0xA010) / 8)

/-! ### Types and ranges (R352) -/

/-- The length in bytes of a type's value, none for STR and DOMAIN. -/
def typeLen (t : Nat) : Option Nat :=
  if t = 12 ∨ t = 13 then none
  else if t = 1 ∨ t = 2 ∨ t = 6 then some 1
  else if t = 3 ∨ t = 7 then some 2
  else if t = 4 ∨ t = 8 ∨ t = 10 then some 4
  else some 8

/-- Whether a type is signed. -/
def typeSigned (t : Nat) : Bool := decide (6 ≤ t) && decide (t ≤ 9)

/-- Whether a value or a DOMAIN's length lies in an object's range (R352). -/
def Row.inRange (r : Row) (data : Bytes) : Bool :=
  match typeLen r.type with
  | some n =>
    let v : Int := if typeSigned r.type then toSigned (8 * n) (ofBytes data) else ofBytes data
    data.length == n && decide (r.mn ≤ v) && decide (v ≤ r.mx)
  | none => decide (r.mn ≤ data.length) && decide ((data.length : Int) ≤ r.mx)

/-- The bytes of a scalar object's value. -/
def Row.bytes (r : Row) (v : Nat) : Bytes := toBytes ((typeLen r.type).getD 0) v

/-! ### Descriptors (R357) -/

/-- A value or a length limit in the encoding of R352, zero-extended to 64 bits. -/
def limitBits (t : Nat) (v : Int) : Nat :=
  match typeLen t with
  | some n => ofSigned (8 * n) v
  | none => if t = 13 then ofSigned 64 v else 0

/-- The descriptor of an object. -/
def Row.descriptor (r : Row) (index sub : Nat) : Bytes :=
  let flags := (if r.stageable || r.multi then 1 else 0) + (if r.multi then 2 else 0) + (if r.internal then 4 else 0) + (if r.keeper then 8 else 0)
  toBytes 32 (index + (sub <<< 16) + (r.type <<< 24) + (r.access <<< 32) + (r.readRole <<< 36) + (r.writeRole <<< 38) +
    (flags <<< 40) + ((Config.since (key index sub)).toNat <<< 48) +
    ((if typeLen r.type = none then 0 else r.dflt % 2 ^ 64) <<< 64) + (limitBits r.type r.mn <<< 128) + (limitBits r.type r.mx <<< 192))

/-- The descriptor of the object at DESC_ADDRESS in a view; zeros where there is none. -/
def State.descriptor (s : State) (view : Nat) : Bytes :=
  let a := s.getO R.DESC_ADDRESS
  match findIn view (fieldOf a 8 16) (fieldOf a 0 8) with
  | .ok r => r.descriptor (fieldOf a 8 16) (fieldOf a 0 8)
  | .error _ => toBytes 32 0

/-! ### Values (R356, R364, R473) -/

/-- A string of ASCII characters as bytes. -/
def asciiBytes (l : List Nat) : Bytes := l.map (BitVec.ofNat 8)

/-- What a read finds: a status, a type code, the value's bytes, and the state after it. -/
structure Got where
  status : Nat
  type   : Nat := 0
  data   : Bytes := []
  st     : State
  deriving DecidableEq, Repr

/-- What a destructive read's own command answers. -/
def gotReply (s : State) (o : Host.Outcome State Fault Refusal) : Got :=
  match o with
  | .next t => ⟨t.reply.status, 13, t.reply.body, t⟩
  | _ => ⟨ST.INTERNAL_FAULT, 0, [], s⟩

/-- The entries of the shingle table that TABLE_BLOCK shows (R473). -/
def State.tableBlock (s : State) (b : Bay) : Bytes :=
  let i := s.getB b RBay.TABLE_INDEX
  (List.range (min 256 (8192 - i))).flatMap (fun j => toBytes 32 (s.entry b (i + j)))

/-- A timing set's record: its 17 path records of 40 bytes (R122). -/
def State.tsetBytes (s : State) (b : Bay) (n : Nat) : Bytes := (List.range 17).flatMap (fun p => toBytes 40 (s.tset b n p).toNat)

/-- The sets that TSET_BLOCK shows (R473). -/
def State.tsetBlock (s : State) (b : Bay) : Bytes :=
  let i := s.getB b RBay.TSET_INDEX
  (List.range (min 64 (1024 - i))).flatMap (fun j => s.tsetBytes b (i + j))

/-- LOCKED_RANGES: for each bay the pattern range and the staging ring it has locked, zeros where it holds none (R277). -/
def State.lockedBytes (s : State) : Bytes :=
  (List.finRange 16).flatMap (fun b =>
    let l := (s.bay b).locks
    let ring := fun (p : Nat × Nat) => p.1 == s.getB b RBay.STAGE_BASE && s.getB b RBay.STAGE_SIZE ≠ 0 &&
      p.2 == p.1 + s.getB b RBay.STAGE_SIZE
    let r := (if l.length = 2 then l[1]? else l.find? ring).getD (0, 0)
    let d := (if l.length = 2 then l[0]? else l.find? (fun p => !ring p)).getD (0, 0)
    toBytes 8 d.1 ++ toBytes 8 d.2 ++ toBytes 8 r.1 ++ toBytes 8 r.2)

/-- The DOMAIN value of an object of a bay. -/
def State.bayDomain (s : State) (b : Bay) (o : Nat) : Except Nat Bytes :=
  if o = RBay.UNDERRUN_LOG then .ok (s.bay b).underLog.flatten
  else if o = RBay.ENTRY then .ok (toBytes 32 (s.entry b (s.getB b RBay.TABLE_INDEX)))
  else if o = RBay.TABLE_BLOCK then .ok (s.tableBlock b)
  else if o = RBay.CS_WORD then
    (if s.getB b RBay.CS_INDEX < 0x3000 then .error ST.ACCESS_DENIED else .ok (toBytes 20 (s.bankWord b (s.getB b RBay.CS_INDEX))))
  else if o = RBay.TSET_RECORD then .ok (s.tsetBytes b (s.getB b RBay.TSET_INDEX))
  else if o = RBay.TSET_BLOCK then .ok (s.tsetBlock b)
  else if o = RBay.BAY_FIRST_FAIL then .ok (firstFailBytes (s.bay b).firstFail)
  else if o = RBay.MARK_LOG then .ok (markBytes (s.bay b).marks)
  else if o = RBay.LAST_RESULT then .ok (((s.tmu b).last ++ toBytes 16 0).take 16)
  else if RBay.QUAD_FIRST_FAIL ≤ o ∧ o < RBay.QUAD_FIRST_FAIL + 4 then
    .ok (firstFailBytes ((s.bay b).quadFirst.get (Fin.ofNat 4 (o - RBay.QUAD_FIRST_FAIL))))
  else .ok (((s.doms.get (keyB b o) []) ++ toBytes 16 0).take 16)

/-- A DOMAIN value kept as bytes, of a fixed length or of its own. -/
def State.domain (s : State) (r : Row) (k : Nat) : Bytes :=
  let d := s.doms.get k []
  if r.mn = r.mx then (d ++ toBytes r.mn.toNat 0).take r.mn.toNat else d

/-- The STR or DOMAIN value of an object outside the bays and the channels. -/
def State.moduleDomain (s : State) (v : Via) (r : Row) (k : Nat) : Bytes :=
  if k = R.ORDER_CODE then asciiBytes [0x4F, 0x4C, 0x46, 0x32, 0x35, 0x36, 0x2D, 0x41, 0x32]
  else if k = R.STEPPING then asciiBytes [0x41, 0x32]
  else if k = R.SERIAL then Config.serial.take 16
  else if k = R.DESCRIPTOR then s.descriptor v.view
  else if k = R.UNITS then (Config.units (s.getO R.DESC_ADDRESS)).take 255
  else if k = R.SYS_RESERVED then Config.freeBytes s.fresh
  else if k = R.LOCKED_RANGES then s.lockedBytes
  else if k = R.DEVICE_SIGN_CERT then Config.certificate 0
  else if k = R.DEVICE_KA_CERT then Config.certificate 1
  else if k = R.TOUCHMARK_CERT then Config.certificate (2 + s.getO R.TOUCHMARK_KEY_ID)
  else if k = R.DEBUG_NONCE then (Config.debugNonce s.nonces ++ toBytes 32 0).take 32
  else if R.INJECT_SLOT ≤ k ∧ k < R.INJECT_SLOT + 16 then slotBytes (s.injSlots.get (Fin.ofNat 16 (k - R.INJECT_SLOT)))
  else if 0x8001 * 256 ≤ k ∧ k < 0x8100 * 256 then
    if releaseHolds (s.getO R.CATALOGUE_VERSION) (k / 256 - 0x8000) then
      Config.kernelDescriptor (BitVec.ofNat 32 (s.getO R.CATALOGUE_VERSION)) (k / 256 - 0x8000)
    else []
  else s.domain r k

/-- The scalar value of an object outside the bays that no write stores. -/
def State.moduleScalar (s : State) (v : Via) (k : Nat) : Nat :=
  let x := v.sid.bind (fun i => s.sessions.get i)
  if k = R.KEEPER_VERSION then Config.keeperVersion.toNat
  else if k = R.SESSION_ID then (v.sid.map (·.val)).getD 0
  else if k = R.SESSION_ROLE then v.role
  else if k = R.SESSION_VIEW then v.view
  else if k = R.EVENT_HOLD then (x.map (·.hold)).getD 1000
  else if k = R.EVENT_LOST then (x.map (·.lost)).getD 0
  else if k = R.DATA_SUBSCRIBE then (if s.dataPorts.toList.any (fun p => p.sub.isSome && p.sub == v.sid.map (·.val)) then 1 else 0)
  else if k = R.IDLE_TIMEOUT then (x.map (·.idle)).getD 60
  else if k = R.NETWORK_TIME then s.netTime
  else if k = R.COUNTER then s.extCount / 5
  else if k = R.KEEPER_TIME then (s.now - s.keeperAt) / 20000
  else s.getO k

/-- A refused read. -/
def Got.no (s : State) (st : Nat) : Got := ⟨st, 0, [], s⟩

/-- A read of an object of a bay. -/
def State.readBay (s : State) (b : Bay) (r : Row) (o k : Nat) : Got :=
  if o = RBay.RESULT then gotReply s (execResultRead b s)
  else if o = RBay.RESULT_BLOCK then gotReply s (execResultBlockRead b s)
  else if r.type = 13 then
    (match s.bayDomain b o with
    | .ok d => ⟨ST.OK, 13, d, s⟩
    | .error e => Got.no s e)
  else ⟨ST.OK, r.type, r.bytes (s.getO k), s⟩

/-- A read of an object of a channel. -/
def State.readChan (s : State) (r : Row) (index k : Nat) : Got :=
  if r.type = 13 then ⟨ST.OK, 13, (s.levelSet (chanNoOf index) ((index - 0x4000) % 0x40 - 1)).flatMap (toBytes 4), s⟩
  else ⟨ST.OK, r.type, r.bytes (s.getO k), s⟩

/-- A read of an object outside the bays and the channels. -/
def State.readModule (s : State) (v : Via) (r : Row) (k : Nat) : Got :=
  if k = R.FAULT_LOG_NEXT then gotReply s (execFaultLogNext s)
  else if k = R.FAULT_LOG_RECORD then gotReply s (execFaultLogRecord s)
  else if k = R.EVENT_LOG_NEXT then gotReply s (execEventLogNext s)
  else if k = keyPort 0 RPort.TSQ_ENTRY then gotReply s (execTsqEntryRead 0 s)
  else if k = keyPort 1 RPort.TSQ_ENTRY then gotReply s (execTsqEntryRead 1 s)
  else if k = R.EVENT_MASK then ⟨ST.OK, 13, toBytes 256 (((v.sid.bind (fun i => s.sessions.get i)).map (·.mask)).getD 0), s⟩
  else if k = R.SYS_RESERVED then ⟨ST.OK, 13, s.moduleDomain v r k, { s with fresh := s.fresh + 1 }⟩
  else if typeLen r.type = none then ⟨ST.OK, r.type, s.moduleDomain v r k, s⟩
  else ⟨ST.OK, r.type, r.bytes (s.moduleScalar v k), s⟩

/-- A read of an object that the gates let through: 00 of an index, or an object of its owner. -/
def State.readRow (s : State) (v : Via) (r : Row) (index sub : Nat) : Got :=
  if sub = 0 then ⟨ST.OK, 2, toBytes 1 r.dflt, s⟩
  else if s.islandDown index sub then Got.no s ST.STATE_LOCKED
  else
    match ownerBay index with
    | some b => if index < 0x4000 then s.readBay b r (bayPlace index sub) (key index sub) else s.readChan r index (key index sub)
    | none => s.readModule v r (key index sub)

/-- A read in the vendor range: what it holds is open, for the Officer role alone (R351). -/
def State.readVendor (s : State) (v : Via) (k : Nat) : Got :=
  if !s.operational then Got.no s ST.STATE_LOCKED
  else if v.role < 2 then Got.no s ST.ACCESS_DENIED
  else match Config.vendorObject k s.fresh with
    | some p => ⟨ST.OK, p.1.toNat, p.2, { s with fresh := s.fresh + 1 }⟩
    | none => Got.no s ST.NO_OBJECT

/-- A read of an object: READ, BLOCK_READ, a management READ and the internal path's (R353, R364). -/
def State.readObj (s : State) (v : Via) (a : ObjAddr) : Got :=
  let index := a.index.toNat
  let sub := a.sub.toNat
  if 0xF000 ≤ index then s.readVendor v (key index sub)
  else match findIn v.view index sub with
    | .error e => Got.no s e
    | .ok r =>
      if !s.answers index r then Got.no s ST.STATE_LOCKED
      else if v.role < r.readRole ∨ r.access = AC.WO then Got.no s ST.ACCESS_DENIED
      else s.readRow v r index sub

end Sys2Proof.Machine
end

