-- ==== Sys2Proof/Machine/Writes.lean ====
section
/-! DEFINITION. A write of one object: the checks it passes, and the command that an object's write is (R38, R46, R352 to R355,
R399, R419, R439, R455).  Writes of an object that brings more than a new value about run that command. -/

namespace Sys2Proof.Machine

/-! ### Ranges that depend on other values (R352) -/

/-- Whether a value names a ridge line or none. -/
def ridgeOrNone (v : Nat) : Bool := decide (v ≤ 31) || v == 0xFF

/-- The fault unit IDs (R421). -/
def faultUnitId (u : Nat) : Bool :=
  decide (u < 0x134) || (decide (0x140 ≤ u) && decide (u < 0x1AC)) || (decide (0x1B0 ≤ u) && decide (u < 0x1B4)) ||
    (decide (0x1C0 ≤ u) && decide (u < 0x1C3)) || u == 0x1D0 || u == 0x1D1 || u == 0x1E0

/-- Whether an object may be reached through the internal object path (R357). -/
def internalObj (index sub : Nat) : Bool := (findRow index sub).any (·.internal)

/-- Whether a value lies outside the range that a bay object's own rule gives it.  A staging ring that would pass the end of the
pattern region, by its base or by its size, is OUT_OF_RANGE (R83). DESIGN CHOICE (log 50). -/
def State.badBay (s : State) (b : Bay) (o v : Nat) : Bool :=
  let mode := (o - 0xA400) / 256
  if o = RBay.ACTIVE_MASK then !([2, 4, 8, 16] : List Nat).contains (popCount v 16)
  else if o = RBay.SYMBOL_BITS then v ≠ 2 && v ≠ 4
  else if RBay.PAD_ACTION ≤ o ∧ o < RBay.PAD_ACTION + 16 then !actionsOk v
  else if o = RBay.STAGE_BASE then v % 64 ≠ 0 || decide (s.patternBytes ≤ v) || decide (s.patternBytes < v + s.getB b RBay.STAGE_SIZE)
  else if o = RBay.STAGE_SIZE then v % 65536 ≠ 0 || decide (s.patternBytes < s.getB b RBay.STAGE_BASE + v)
  else if o = RBay.STAGE_STREAM ∨ o = RBay.PKG_STREAM then decide (63 < v) && v ≠ 0xFFFF
  else if o = RBay.PKG_BASE then v % 64 ≠ 0 || decide (s.patternBytes ≤ v)
  else if RBay.OBJ_SLOT ≤ o ∧ o < RBay.OBJ_SLOT + 16 then !internalObj (fieldOf v 8 16) (fieldOf v 0 8)
  else if RBay.MR_LINE ≤ o ∧ o < RBay.MR_LINE + 2 then !ridgeOrNone v
  else if RBay.EVT_IN_MAP ≤ o ∧ o < RBay.EVT_IN_MAP + 32 then decide (2047 < v) && v ≠ 0xFFFF
  else if RBay.ROUTE_CHANNEL ≤ o ∧ o < RBay.ROUTE_CHANNEL + 2 then decide (15 < v) && v ≠ 0xFF
  else if RBay.ROUTE_SOURCE ≤ o ∧ o < RBay.ROUTE_SOURCE + 2 then decide (0x67 < v) && v ≠ 0xFFFF
  else if 0xA400 ≤ o ∧ o < 0xA900 then
    (if o % 256 = RCap.DEST then v == 1 && (mode == 2 || mode == 3)
    else if o % 256 = RCap.CHANNEL_MASK then (mode == 1 || mode == 4) && !([1, 2, 4, 8, 16] : List Nat).contains (popCount v 16)
    else if o % 256 = RCap.START then mode == 0 && v == 2
    else if o % 256 = RCap.HBM_BASE then v % 4096 ≠ 0 || decide (v < s.getO R.CAPTURE_BASE) || decide (s.getO R.SYSTEM_BASE ≤ v)
    else false)
  else false

/-- Whether a value lies outside the range that a channel object's own rule gives it (R126, R155). -/
def State.badChan (s : State) (c : Chan) (o v : Nat) : Bool :=
  if 0x2001 ≤ o ∧ o ≤ 0x2310 then !actionsOk v
  else if o = RChan.OFF_MODE then v == 0 && s.getC c RChan.LOAD_EN == 1
  else if o = RChan.LOAD_EN then v == 1 && s.getC c RChan.OFF_MODE == 0
  else false

/-- Whether an address is 64-byte aligned in the system region (R274). -/
def State.inSystem (s : State) (v : Nat) : Bool := v % 64 == 0 && decide (s.getO R.SYSTEM_BASE ≤ v) && decide (v < dataSpace)

/-- Whether every node, edge or binding entry of a graph's table is whole, with its reserved bits zero (R246). -/
def tableOk (sub : Nat) (data : Bytes) : Bool :=
  if sub = RGraph.NODE_TABLE then
    data.length % 16 == 0 && (chunks 16 255 data).all (fun e => fieldOf (ofBytes e) 21 11 == 0)
  else if sub = RGraph.EDGE_TABLE then
    data.length % 8 == 0 && (chunks 8 1024 data).all (fun e =>
      fieldOf (ofBytes e) 10 6 == 0 && fieldOf (ofBytes e) 26 5 == 0 && fieldOf (ofBytes e) 32 32 == 0)
  else if sub = RGraph.BINDINGS then
    data.length % 8 == 0 && (chunks 8 64 data).all (fun e => !(ofBytes e).testBit 30)
  else true

/-- Whether a value lies outside the range that the rule of an object of no bay gives it. -/
def State.badModule (s : State) (index sub : Nat) (data : Bytes) : Bool :=
  let v := ofBytes data
  if 0x2810 ≤ index ∧ index < 0x2850 then (sub == RSite.RIDGE_FAIL || sub == RSite.RIDGE_MATCH) && !ridgeOrNone v
  else if 0x8100 ≤ index ∧ index < 0x8500 then
    let g := (index - 0x8100) / 16
    (if sub = RGraph.SITE then decide (63 < v) && v ≠ 0xFF
    else if sub = RGraph.HOME_BENCH then !(s.stagedO index RGraph.BENCH_MASK).testBit v
    else if sub = RGraph.POOL_BASE then !s.inSystem v && !(v == 0 && s.getG g RGraph.POOL_SIZE == 0)
    else if sub = RGraph.POOL_SIZE then v % 64 ≠ 0
    else !tableOk sub data)
  else if index = 0x9000 then v % 64 ≠ 0
  else if 0x9100 ≤ index ∧ index < 0x9104 then decide (0x11 ≤ sub) && decide (4 < v % 16)
  else if 0x9110 ≤ index ∧ index < 0x9130 then sub == RDma.CHAIN_HEAD && !s.inSystem v
  else if 0xA010 ≤ index ∧ index < 0xA030 then
    (if sub = RLane.FOM_FLOOR then decide (s.getO (key index RLane.FOM_MIN) ≤ v)
    else if sub = RLane.FOM_MIN then decide (v ≤ s.getO (key index RLane.FOM_FLOOR))
    else false)
  else if 0xA110 ≤ index ∧ index < 0xA120 then
    (if sub = RLink.LINK_LANES then decide (popCount v 32 = 0) || decide (16 < popCount v 32)
    else if sub = RLink.VERSION_MAX then v ≠ 0x10 && v ≠ 0x11 && v ≠ 0x20
    else false)
  else if 0xA140 ≤ index ∧ index < 0xA180 then
    (if sub = RStream.STREAM_LINK then decide (15 < v) && v ≠ 0xFF
    else if sub = RStream.DEST then v == 2
    else if sub = RStream.RING_BASE then !s.inSystem v
    else if sub = RStream.RING_SIZE then v % 4096 ≠ 0
    else false)
  else if 0xA320 ≤ index ∧ index < 0xA328 then sub == RTpg.PERIOD && v ≠ 0 && decide (v < 400)
  else if index = 0xC001 then sub == 1 && !faultUnitId v
  else false

/-- Whether a value lies outside the range of its object's own rule. -/
def State.badValue (s : State) (index sub : Nat) (data : Bytes) : Bool :=
  match ownerBay index with
  | some b =>
    if index < 0x4000 then s.badBay b (bayPlace index sub) (ofBytes data)
    else s.badChan (chanNoOf index) (chanPlace index sub) (ofBytes data)
  | none => s.badModule index sub data

/-! ### The verdict on a write (R353) -/

/-- Whether an object's unit is in the quiescent state that its table names (R353). -/
def State.unitQuiet (s : State) (index : Nat) : Bool :=
  if 0x9110 ≤ index ∧ index < 0x9130 then s.getO (key index RDma.CHAN_STATE) == CH.IDLE
  else if 0xA110 ≤ index ∧ index < 0xA120 then s.getO (key index RLink.LINK_STATE) == LK.DOWN
  else if 0xA140 ≤ index ∧ index < 0xA180 then s.getO (key index RStream.STREAM_STATE) != SM.OPEN
  else if 0xA320 ≤ index ∧ index < 0xA328 then s.getO (key index RTpg.ENABLE) == 0
  else true

/-- What the checks make of a write: it goes on, it is refused with a status, or its bay drops it as stale. -/
inductive Verdict where
  | go (r : Row)
  | refuse (status : Nat)
  | stale (b : Bay)
  deriving DecidableEq, Repr

/-- The channels of the DMA that belong to the control island and the Touchmark unit (R295). DEDUCED (log 29). -/
def ownedDma (index : Nat) : Bool := decide (0x9110 ≤ index) && decide (index < 0x9130) && decide ((index - 0x9110) % 8 < 2)

/-- The part of the checks that every write and every STAGE shares: the address, the module's state, the role, the type and the
range (R350, R352, R353, R373). -/
def State.common (s : State) (v : Via) (a : ObjAddr) (type : Option Nat) (data : Bytes) (may : Row → Bool) : Verdict :=
  let index := a.index.toNat
  let sub := a.sub.toNat
  if 0xF000 ≤ index then
    (if !s.operational then .refuse ST.STATE_LOCKED
    else if 2 ≤ v.role ∧ (Config.vendorObject (key index sub) s.fresh).isNone then .refuse ST.NO_OBJECT
    else .refuse ST.ACCESS_DENIED)
  else match findIn v.view index sub with
    | .error e => .refuse e
    | .ok r =>
      if !s.answers index r then .refuse ST.STATE_LOCKED
      else if r.access = AC.RO ∨ r.access = AC.CONST ∨ v.role < r.writeRole ∨ may r = false ∨ ownedDma index = true then
        .refuse ST.ACCESS_DENIED
      else if type.any (fun t => t ≠ r.type) then .refuse ST.TYPE_MISMATCH
      else if !r.inRange data then .refuse ST.OUT_OF_RANGE
      else .go r

/-- The verdict on a direct write: then the island, the epoch, the quiescent state and the object's own rule (R14, R21, R38,
R353).  A STATE_REQUEST is judged by its own command. -/
def State.verdict (s : State) (v : Via) (a : ObjAddr) (type : Option Nat) (epoch : Nat) (data : Bytes) : Verdict :=
  let index := a.index.toNat
  let sub := a.sub.toNat
  match s.common v a type data (fun r => !r.multi) with
  | .go r =>
    (match ownerBay index with
    | some b =>
      if index < 0x4000 ∧ bayPlace index sub = RBay.STATE_REQUEST then .go r
      else if s.islandDown index sub then .refuse ST.STATE_LOCKED
      else if epoch ≠ s.getB b RBay.SITE_EPOCH then .stale b
      else if r.access = AC.RWL ∧ s.quiet b = false then .refuse ST.STATE_LOCKED
      else if s.badValue index sub data then .refuse ST.OUT_OF_RANGE
      else .go r
    | none =>
      if s.islandDown index sub ∨ (r.access = AC.RWL ∧ s.unitQuiet index = false) then .refuse ST.STATE_LOCKED
      else if s.badValue index sub data then .refuse ST.OUT_OF_RANGE
      else .go r)
  | x => x

/-! ### What a write does -/

/-- The state a command leaves. -/
def after (s : State) (o : Host.Outcome State Fault Refusal) : State :=
  match o with
  | .next t => t
  | _ => s

/-- A command that a write of 1 to a BOOL object is; a write of 0 has no effect. -/
def onOne (s : State) (v : Nat) (o : Host.Outcome State Fault Refusal) : State := if v = 1 then after s o else s.ok

/-- A write of a claim object: the claim of an owner for a feature, or with feature 0 the release (R46). DESIGN CHOICE (log 41). -/
def claimEffect (s : State) (r : Resource) (e : BitVec 16) (v : Nat) : State :=
  if fieldOf v 12 8 = 0 then after s (execResourceRelease r e s)
  else after s (execResourceClaim r e (BitVec.ofNat 8 (fieldOf v 12 8)) (BitVec.ofNat 12 v) s)

/-- The capture modes in order. -/
def capMode (m : Nat) : CapMode :=
  if m = 0 then .failLog else if m = 1 then .failMap else if m = 2 then .history else if m = 3 then .scope else .data

/-- A write of STATE_REQUEST (R36).  Its value 3 names ARMED, to which only the request ARM, 7, leads: judged as any request, it is
refused with STATE_LOCKED. DESIGN CHOICE (log 50). -/
def stateEffect (s : State) (b : Bay) (e : BitVec 16) (v : Nat) : State :=
  if v = 0 then after s (execStateRequestOff b e s)
  else if v = 1 then after s (execStateRequestSafe b e s)
  else if v = 2 then after s (execStateRequestIdle b e s)
  else if v = 4 then after s (execStateRequestRun b e s)
  else if v = 5 then after s (execStateRequestPause b e s)
  else if v = 6 then after s (execStateRequestMaint b e s)
  else if v = 7 then after s (execStateRequestArm b e s)
  else if v = 8 then after s (execStateRequestDisarm b e s)
  else if v = 9 then after s (execStateRequestStop b e s)
  else s.stateRequest b e false (fun s => s.answer ST.STATE_LOCKED)

/-- A write of an object of a bay. -/
def bayEffect (s : State) (b : Bay) (o : Nat) (e : BitVec 16) (data : Bytes) : State :=
  let v := ofBytes data
  if o = RBay.STATE_REQUEST then stateEffect s b e v
  else if o = RBay.JUMP_REQUEST then after s (execJumpRequest b e (BitVec.ofNat 16 v) s)
  else if o = RBay.UNDERRUN_LOG_CLEAR then onOne s v (execUnderrunLogClear b e s)
  else if o = RBay.ENTRY then after s (execShingleEntryWrite b e (BitVec.ofNat 256 v) s)
  else if o = RBay.TABLE_BLOCK then after s (execTableBlockWrite b e data s)
  else if o = RBay.TSET_RECORD then after s (execTsetWrite b e false data s)
  else if o = RBay.TSET_BLOCK then after s (execTsetWrite b e true data s)
  else if o = RBay.BANK_IMAGE then after s (execBankImage b e data s)
  else if RBay.CUSTOM_ENTRY ≤ o ∧ o < RBay.CUSTOM_ENTRY + 15 then
    after s (execCustomEntryWrite b e (Fin.ofNat 15 (o - RBay.CUSTOM_ENTRY)) (BitVec.ofNat 32 v) s)
  else if o = RBay.LVL_SELECT then after s (execLvlSelect b e (BitVec.ofNat 8 v) s)
  else if o = RBay.LOAD_REQUEST then onOne s v (execLoadRequest b e s)
  else if o = RBay.TRIG_FORCE then onOne s v (execTrigForce b e s)
  else if o = RBay.TRIG_REARM then onOne s v (execTrigRearm b e s)
  else if 0xA400 ≤ o ∧ o < 0xA900 ∧ o % 256 = RCap.CONSUMED_FRAME then
    after s (execConsumedFrameWrite b e (capMode ((o - 0xA400) / 256)) (BitVec.ofNat 64 v) s)
  else if o = RBay.ARM_REQUEST then onOne s v (execTmuArmRequest b e s)
  else if o = RBay.DISARM_REQUEST then onOne s v (execTmuDisarmRequest b e s)
  else if o = RBay.FIFO_CLEAR then onOne s v (execFifoClear b e s)
  else if o = RBay.PKG_IMAGE then after s (execPkgImage b e data s)
  else if o = RBay.PKG_START then onOne s v (execPkgStart b e s)
  else if o = RBay.CLAIM_BLANK_TIMER then claimEffect s (.blankTimer b) e v
  else if o = RBay.CLAIM_PROBE_ROUTE then claimEffect s (.probeRoute b 0) e v
  else if o = RBay.CLAIM_PROBE_ROUTE + 1 then claimEffect s (.probeRoute b 1) e v
  else if RBay.CLAIM_CAPTURE_PARTITION ≤ o ∧ o < RBay.CLAIM_CAPTURE_PARTITION + 8 then
    claimEffect s (.capturePartition b (Fin.ofNat 8 (o - RBay.CLAIM_CAPTURE_PARTITION))) e v
  else if o = RBay.CLAIM_SPARE_PATH then claimEffect s (.sparePath b) e v
  else (s.setB b o v).ok

/-- A write of an object of a channel. -/
def chanEffect (s : State) (c : Chan) (o : Nat) (e : BitVec 16) (data : Bytes) : State :=
  let v := ofBytes data
  if 0x101 ≤ o ∧ o ≤ 0x1009 then
    after s (execLevelSetWrite c e (Fin.ofNat 16 (o / 256 - 1))
      (if o % 256 = 9 then .block data else .one (Fin.ofNat 8 (o % 256 - 1)) (BitVec.ofNat 32 v)) s)
  else if o = RChan.VG_HI then after s (execGuardThresholdWrite c e .hi (BitVec.ofNat 16 v) s)
  else if o = RChan.VG_LO then after s (execGuardThresholdWrite c e .lo (BitVec.ofNat 16 v) s)
  else if o = RChan.HYST then after s (execGuardThresholdWrite c e .hyst (BitVec.ofNat 16 v) s)
  else if o = RChan.TRIP_CLEAR then onOne s v (execTripClear c e s)
  else if o = RChan.PMU_MODE then after s (execPmuModeWrite c e (BitVec.ofNat 8 v) s)
  else if o = RChan.PMU_RANGE then after s (execPmuRangeWrite c e (BitVec.ofNat 8 v) s)
  else if o = RChan.MEAS_START then onOne s v (execMeasStart c e s)
  else (s.setC c o v).ok

/-- A write of an object of a graph, a bench or a DMA channel (R263, R264, R309). -/
def fabricEffect (s : State) (index sub : Nat) (data : Bytes) : State :=
  let v := ofBytes data
  if index < 0x8500 then
    let g : Graph := Fin.ofNat 64 ((index - 0x8100) / 16)
    if sub = RGraph.POST then
      after s (execPost g (BitVec.ofNat 16 (fieldOf v 16 16)) (BitVec.ofNat 8 v) (Fin.ofNat 4 (fieldOf v 8 2))
        (BitVec.ofNat 32 (fieldOf v 32 32)) (BitVec.ofNat 64 (fieldOf v 64 64)) s)
    else if sub = RGraph.STOP_REQUEST then after s (execStopRequest g (BitVec.ofNat 16 v) s)
    else after s (execStartRequest g (BitVec.ofNat 16 v) s)
  else if index < 0x8800 then
    let n : Bench := Fin.ofNat 12 (index - 0x8600)
    if sub = RBench.BENCH_REQUEST then
      (if v = 2 then after s (execBenchDrain n s)
      else if v = 4 then after s (execBenchLoad n s)
      else if v = 1 then after s (execBenchResume n s)
      else s.answer ST.OUT_OF_RANGE)
    else (s.setO (key index sub) v).ok
  else
    let e : Engine := Fin.ofNat 4 ((index - 0x9110) / 8)
    let k : Fin 8 := Fin.ofNat 8 ((index - 0x9110) % 8)
    if sub = RDma.CHAN_CTRL then
      (if v = 1 then after s (execChanStart e k s)
      else if v = 2 then after s (execChanRetry e k s)
      else if v = 3 then after s (execChanSkip e k s)
      else after s (execChanAbort e k s))
    else if sub = RDma.PAUSE then after s (execDmaPauseWrite e k (v == 1) s)
    else (s.setO (key index sub) v).ok

/-- A 256-bit key of free value. -/
def State.freeKey (s : State) : BitVec 256 × State :=
  (BitVec.ofNat 256 ((List.range 4).foldl (fun n i => n * 2 ^ 64 + (Config.freeValue (s.fresh + i)).toNat) 0), { s with fresh := s.fresh + 4 })

/-- A write of an object of a lane, a link, a stream, a port, the clock or a TPG. -/
def linkEffect (s : State) (index sub : Nat) (data : Bytes) : State :=
  let v := ofBytes data
  let plain := (s.setO (key index sub) v).ok
  if 0xA010 ≤ index ∧ index < 0xA030 then
    let l : Lane := Fin.ofNat 32 (index - 0xA010)
    if sub = RLane.ENABLE then after s (execLaneEnable l (v == 1) s)
    else if sub = RLane.RETRAIN_REQUEST then onOne s v (execLaneRetrainRequest l s)
    else plain
  else if 0xA110 ≤ index ∧ index < 0xA120 then
    let k : Link := Fin.ofNat 16 (index - 0xA110)
    if sub = RLink.LINK_CTRL then (if v = 1 then after s (execLinkCtrlUp k s) else after s (execLinkCtrlDown k s))
    else if sub = RLink.LINK_LANES then (s.setO (key index sub) v).showLanes.ok
    else plain
  else if 0xA140 ≤ index ∧ index < 0xA180 then
    let i : Stream := Fin.ofNat 64 (index - 0xA140)
    if sub = RStream.STREAM_CTRL then
      (if v = 1 then after s (execStreamOpen i s.freeKey.1 s.freeKey.2) else after s (execStreamReset i s))
    else if sub = RStream.RING_CONSUMED then after s (execRingConsumedWrite i (BitVec.ofNat 64 v) s)
    else plain
  else if index = 0xA210 ∨ index = 0xA211 then
    if sub = RPort.PORT_MODE then after s (execPortModeWrite (Fin.ofNat 2 (index - 0xA210)) (BitVec.ofNat 8 v) s) else plain
  else if index = 0xA300 then
    let k := key index sub
    if k = R.RATE_SET then after s (execRateSet (BitVec.ofNat 64 v) s)
    else if k = R.OFFSET_ADJUST then after s (execOffsetAdjust (BitVec.ofNat 64 v) s)
    else if k = R.TIME_SET then after s (execTimeSet (BitVec.ofNat 64 v) s)
    else if k = R.SERVO_MODE ∧ v = 1 ∧ (s.getO R.CLOCK_STATE = CK.LOCKED ∨ s.getO R.CLOCK_STATE = CK.ACQUIRING) then
      ((s.setO k v).setO R.CLOCK_STATE CK.HOLDOVER).ok
    else plain
  else if index = 0xA310 then claimEffect s (.tpg (Fin.ofNat 8 (sub - 1))) 0#16 v
  else if 0xA320 ≤ index ∧ index < 0xA328 ∧ sub = RTpg.ENABLE then after s (execTpgEnable (Fin.ofNat 8 (index - 0xA320)) (v == 1) s)
  else plain

/-- A write of an object of the Touchmark unit; what a signature, an unwrap or an image shows is open (R376 to R399).
DESIGN CHOICE (log 13). -/
def touchEffect (s : State) (k : Nat) (data : Bytes) (m : Sample) : State :=
  let v := ofBytes data
  if k = R.SELF_TEST_REQUEST then onOne s v (execSelfTestRequest s)
  else if k = R.ZEROIZE then after s (execZeroize (BitVec.ofNat 16 v) s)
  else if R.ROLE_ANCHOR ≤ k ∧ k < R.ROLE_ANCHOR + 3 then
    after s (execRoleAnchorWrite (if k = R.ROLE_ANCHOR then .observer else if k = R.ROLE_ANCHOR + 1 then .operator else .officer) data m s)
  else if k = R.GROUP_KEY_IMPORT then
    let ok := s.freeBit
    let f := ok.2.freeKey
    after s (execGroupKeyImport data (if ok.1 then some f.1 else none) m f.2)
  else if R.CODE_KEY ≤ k ∧ k < R.CODE_KEY + 8 then after s (execCodeKeyWrite (Fin.ofNat 8 (k - R.CODE_KEY)) data m s)
  else if R.CODE_KEY_USE ≤ k ∧ k < R.CODE_KEY_USE + 8 then s.hostFirm (fun s => s.commitGate m 3 tmUnit (fun s => (s.setO k v).ok))
  else if k = R.SLOT_ZEROIZE then after s (execSlotZeroize (BitVec.ofNat 8 v) s)
  else if k = R.FW_ACTIVE_SLOT then after s (execFwActiveSlotWrite (BitVec.ofNat 8 v) m s)
  else if k = R.FW_IMAGE then
    let ok := s.freeBit
    let f := ok.2.free
    after s (execFwImage data.length ok.1 (BitVec.ofNat 32 f.1.toNat) (BitVec.ofNat 32 (f.1.toNat / 2 ^ 32)) f.2)
  else if k = R.FW_ACCEPT then after s (execFwAccept (BitVec.ofNat 32 v) m s)
  else if k = R.TM_RESTART_REQUEST then onOne s v (execTmRestartRequest s.freeBit.1 s.freeBit.2)
  else if k = R.DEBUG_UNLOCK then after s (execDebugUnlock (data.headD 0) s.freeBit.1 s.freeBit.2)
  else (s.setO k v).ok

/-- A write of an assay, a keeper, a power or a fault object. -/
def keeperEffect (s : State) (path : HoldPath) (index sub : Nat) (data : Bytes) : State :=
  let v := ofBytes data
  let k := key index sub
  if k = R.PURLIN_ASSAY then onOne s v (execPurlinAssay s)
  else if 0xB810 ≤ index ∧ index < 0xB820 then
    let b : Bay := Fin.ofNat 16 (index - 0xB810)
    if sub = RAssay.ROLL_ENABLE then after s (execRollEnable b (v == 1) s)
    else if sub = RAssay.ROLL_PAUSE then after s (execRollPause b (v == 1) s)
    else if sub = RAssay.BAY_ASSAY_REQUEST then onOne s v (execBayAssayRequest b s)
    else after s (execManualTarget b (BitVec.ofNat 8 v) s)
  else if k = R.SAFE_HOLD_REQUEST then after s (execSafeHoldRequest path (BitVec.ofNat 16 v) s)
  else if k = R.SAFE_HOLD_EXIT then (if v = 1 then after s (execSafeHoldExitResume s) else after s (execSafeHoldExitRestart s))
  else if k = R.FAULT_HANDLE then after s (execFaultHandle (BitVec.ofNat 32 v) s)
  else if k = R.INJECT_GO then onOne s v (execInjectGo s)
  else if index = 0xC010 then after s (execPolicyWrite (BitVec.ofNat 8 sub) (BitVec.ofNat 32 v) s)
  else if k = R.SWITCHOVER_REQUEST then onOne s v (execSwitchoverRequest s)
  else if k = R.HOLDUP_CHECK_REQUEST then onOne s v (execHoldupCheckRequest s)
  else (s.setO k v).ok

/-- A session sets one of the objects that describe it (R356, R369, R370). -/
def sessionEffect (s : State) (i : Fin 16) (k : Nat) (data : Bytes) : State :=
  match s.sessions.get i with
  | none => s.answer ST.STATE_LOCKED
  | some x =>
    let v := ofBytes data
    let put := fun (x : Session) => { s with sessions := s.sessions.set i.val (some x) i.isLt }.ok
    if k = R.EVENT_MASK then put { x with mask := v }
    else if k = R.EVENT_HOLD then put { x with hold := v }
    else if k = R.IDLE_TIMEOUT then put { x with idle := v }
    else
      let p : Fin 2 := Fin.ofNat 2 x.port
      let u := s.dataPorts.get p
      let port := fun (u : DataPort) => { s with dataPorts := s.dataPorts.set p.val u p.isLt }.ok
      if k = R.DATA_SUBSCRIBE then
        (if v = 1 then
          (match u.sub with
          | some j => if j = i.val then s.ok else s.answerD ST.RESOURCE_CLAIMED (j * 2 ^ 32)
          | none => port { u with sub := some i.val })
        else if u.sub = some i.val then port { u with sub := none, unacked := [] } else s.ok)
      else if u.sub = some i.val then port { u with unacked := u.unacked.filter (fun e => decide (v < e.1)) }
      else s.ok

/-- The effect of a write that has passed its checks; the answer is the object's. -/
def writeEffect (s : State) (v : Via) (a : ObjAddr) (epoch : Nat) (data : Bytes) (m : Sample) : State :=
  let index := a.index.toNat
  let sub := a.sub.toNat
  let k := key index sub
  let n := ofBytes data
  let e := BitVec.ofNat 16 epoch
  match ownerBay index with
  | some b =>
    if index < 0x4000 then bayEffect s b (bayPlace index sub) e data else chanEffect s (chanNoOf index) (chanPlace index sub) e data
  | none =>
    if index = 0x1100 then
      (match v.sid with
      | some i => sessionEffect s i k data
      | none => s.answer ST.STATE_LOCKED)
    else if index = 0x2880 then claimEffect s (.trig (Fin.ofNat 8 (sub - 1))) 0#16 n
    else if index = 0x2890 then claimEffect s (.ridge (Fin.ofNat 32 (sub - 1))) 0#16 n
    else if (0x8100 ≤ index ∧ index < 0x8800) ∨ (0x9110 ≤ index ∧ index < 0x9130) then fabricEffect s index sub data
    else if k = R.PEAK_CLEAR then onOne s n (execPeakClear s)
    else if k = R.TICK then (s.retick n).ok
    else if 0x9010 ≤ index ∧ index < 0x9050 then onOne s n (execHbmRetrainRequest (Fin.ofNat 64 (index - 0x9010)) s)
    else if 0xA000 ≤ index ∧ index < 0xB000 then linkEffect s index sub data
    else if 0xB000 ≤ index ∧ index < 0xB800 then touchEffect s k data m
    else keeperEffect s v.path index sub data

/-! ### Values stored in the ledger (R354) -/

/-- The verdict on an RWS item: as on any write, and the codes that the item leaves are legal (R157, R354). -/
def State.rwsVerdict (s : State) (v : Via) (a : ObjAddr) (type : Option Nat) (epoch : Nat) (data : Bytes) : Verdict :=
  let index := a.index.toNat
  match s.verdict v a type epoch data with
  | .go r =>
    if r.access = AC.RWS ∧ 0x4000 ≤ index ∧ index < 0x8000 ∧
        levelsOk ((s.clearCodes (chanNoOf index)).set (a.sub.toNat - 1) (ofBytes data)) = false then .refuse ST.OUT_OF_RANGE
    else .go r
  | x => x

/-- An RWS item's value takes effect. -/
def State.rwsApply (s : State) (a : ObjAddr) (data : Bytes) : State :=
  let index := a.index.toNat
  let k := key index a.sub.toNat
  if 0x4000 ≤ index ∧ index < 0x8000 then s.setClearCode (chanNoOf index) (Fin.ofNat 8 (a.sub.toNat - 1)) (ofBytes data)
  else if k = keyPort 0 RPort.IPV6_ADDR ∨ k = keyPort 1 RPort.IPV6_ADDR then { s with doms := s.doms.set k data }
  else s.setO k (ofBytes data)

/-- The ledger's record holds the values of RWS items. -/
def State.rwsKeep (s : State) (l : List (ObjAddr × Bytes)) : State :=
  let ks := l.map (fun p => key p.1.index.toNat p.1.sub.toNat)
  let v6 := fun (k : Nat) => k == keyPort 0 RPort.IPV6_ADDR || k == keyPort 1 RPort.IPV6_ADDR
  let s := s.ledgerPut (ks.filter (fun k => !v6 k))
  { s with ledgerDoms := (ks.filter v6).foldl (fun t k => t.set k (s.doms.get k [])) s.ledgerDoms }

/-- RWS items that have passed their checks: one ledger commit, after which the values take effect together (R354). -/
def State.rwsCommit (s : State) (l : List (ObjAddr × Bytes)) (m : Sample) : State :=
  if s.coreOut then s.answer ST.STATE_LOCKED
  else s.commitGate m s.ledgerClass controlUnit (fun s =>
    ((s.ledgerWrite.each l (fun s p => s.rwsApply p.1 p.2)).rwsKeep l).ok)

/-! ### One write -/

/-- A write of one object, and its answer (R352 to R355). -/
def State.writeObj (s : State) (v : Via) (a : ObjAddr) (type : Option Nat) (epoch : Nat) (data : Bytes) (m : Sample) : State :=
  match s.rwsVerdict v a type epoch data with
  | .refuse st => s.answer st
  | .stale b => s.stale b
  | .go r => if r.access = AC.RWS then s.rwsCommit [(a, data)] m else writeEffect s v a epoch data m

end Sys2Proof.Machine
end

