-- ==== Sys2Proof/Machine/Dop.lean ====
section
/-! DEFINITION. The Daldal Object Protocol: sessions and their requests, STAGE and COMMIT, block writes, events, and the
management port (R354 to R374, R376, R377, R472).

A request's answer is `reply`; a message the module sends of itself is its body too. -/

namespace Sys2Proof.Machine

/-! ### Sessions (R358, R362, R363) -/

/-- The session with an ID. -/
def State.session (s : State) (i : Fin 16) : Option Session := s.sessions.get i
/-- A change of a session. -/
def State.modSession (s : State) (i : Fin 16) (f : Session → Session) : State :=
  { s with sessions := s.sessions.set i.val ((s.sessions.get i).map f) i.isLt }

/-- Whether a DTLS handshake can run: a control core, the control ports up, and cryptographic service (R358, R373, R443). -/
def State.sessionsServed (s : State) (p : Fin 2) : Bool :=
  !s.coreOut && decide (12 ≤ s.getO R.START_STAGE) && s.portUp p && s.tmServes && s.getO R.MODULE_STATE ≠ MS.CRYPTO

/-- A role as a number (R356). -/
def roleNo : Role → Nat
  | .observer => 0
  | .operator => 1
  | .officer => 2

/-- The role a certificate gives: its anchor's, or in ENROLMENT the Officer role, for one session at a time (R376, R377). -/
def State.certRole (s : State) (c : Cert) : Option (Nat × Option Bytes) :=
  if s.getO R.TM_STATE = TM.ENROLMENT then
    match c with
    | .selfSigned k => if s.sessions.toList.all Option.isNone then some (2, some k) else none
    | _ => none
  else match c with
    | .chain r => if s.anchored r then some (roleNo r, none) else none
    | _ => none

/-- SESSION_OPEN: the lowest free session, or the handshake is refused at the DTLS layer (R358, R376, R377). -/
def State.openSession (s : State) (p : Fin 2) (c : Cert) : State :=
  match s.sessionsServed p, s.certRole c, (List.finRange 16).find? (fun i => (s.session i).isNone) with
  | true, some r, some i =>
    let x : Session := { port := p.val, role := r.1, ownKey := r.2, last := s.now }
    { s with sessions := s.sessions.set i.val (some x) i.isLt }.showSessions
  | _, _, _ => s

/-- How a session reaches the dictionary. -/
def Session.via (x : Session) (i : Fin 16) : Via := { role := x.role, view := x.view, sid := some i }

/-- A request ends: its reply is kept among the last 64 (R363). -/
def State.keep (s : State) (i : Fin 16) (req : Nat) : State :=
  s.modSession i (fun x => { x with running := none, held := none, replies := lastN 64 (x.replies ++ [(req, s.reply)]) })

/-! ### HELLO (R359, R377) -/

/-- HELLO: the versions and the view are agreed; in ENROLMENT the certificate's key becomes the Officer anchor. -/
def State.doHello (s : State) (i : Fin 16) (x : Session) (proto dict : Nat) (m : Sample) : State :=
  if x.hello then s.answer ST.STATE_LOCKED
  else if proto / 16 = 0 ∨ dict / 16 = 0 then s.answer ST.VERSION_UNSUPPORTED
  else
    let pv := min proto 0x20
    let dv := min dict 0x31
    let s := match x.ownKey with
      | some k => if s.getO R.TM_STATE = TM.ENROLMENT then s.writeAnchor .officer k m else s.ok
      | none => s.ok
    if s.reply.status ≠ ST.OK then s
    else (s.modSession i (fun x => { x with hello := true, proto := pv, view := dv, seq := 0 })).answerBody
      (toBytes 1 pv ++ toBytes 1 dv ++ toBytes 1 i.val ++ toBytes 1 x.role)

/-! ### READ (R364) -/

/-- A value padded with zeros to a multiple of 4 bytes. -/
def pad4 (d : Bytes) : Bytes := d ++ toBytes ((4 - d.length % 4) % 4) 0

/-- An item of a READ reply. -/
def Got.item (g : Got) : Bytes := toBytes 1 g.status ++ toBytes 1 g.type ++ toBytes 2 g.data.length ++ pad4 g.data

/-- The items of a READ in order, as many as fit in what is left of the datagram. -/
def readItems (v : Via) : State → Nat → Nat → Bytes → List ObjAddr → State
  | s, _, st, acc, [] => { s with reply := { status := st, body := acc } }
  | s, room, st, acc, a :: rest =>
    let g := s.readObj v a
    if room < g.item.length then { s with reply := { status := st, body := acc, more := true } }
    else readItems v g.st (room - g.item.length) (if st = ST.OK then g.status else st) (acc ++ g.item) rest

/-! ### WRITE (R354, R365) -/

/-- Whether an item names an RWS object. -/
def isRws (view : Nat) (a : ObjAddr) : Bool :=
  match findIn view a.index.toNat a.sub.toNat with
  | .ok r => r.access == AC.RWS
  | .error _ => false

/-- The answer names the item that failed. -/
def State.failItem (s : State) (n : Nat) : State := { s with reply := { status := s.reply.status, detail := s.reply.detail + n } }

/-- The items of a WRITE in order, up to the first that fails or that waits for the scheduler (R254, R365). -/
def writeItems (i : Fin 16) (req : Nat) (v : Via) (m : Sample) : State → Nat → List WItem → State
  | s, _, [] => s.ok
  | s, n, w :: rest =>
    let t := s.writeObj v w.addr (some w.type.toNat) w.epoch.toNat w.value m
    if s.hostPosts.length < t.hostPosts.length then
      { t with hostPosts := t.hostPosts.map (fun p => if s.hostPosts.contains p then p else { p with sid := some i.val }) }.modSession i
        (fun x => { x with running := some req, held := some (n, rest, m) })
    else if t.reply.status ≠ ST.OK then t.failItem n
    else if (t.session i).isNone then t
    else writeItems i req v m t (n + 1) rest

/-- The first RWS item that fails its checks, on the values the items before it would leave. -/
def rwsFirst (v : Via) : State → Nat → List WItem → Option (Nat × Verdict)
  | _, _, [] => none
  | s, n, w :: rest =>
    match s.rwsVerdict v w.addr (some w.type.toNat) w.epoch.toNat w.value with
    | .go _ => rwsFirst v (s.rwsApply w.addr w.value) (n + 1) rest
    | x => some (n, x)

/-- WRITE: a message with an RWS item holds only such items and is one unit (R354). -/
def State.doWrite (s : State) (i : Fin 16) (req : Nat) (x : Session) (items : List WItem) (m : Sample) : State :=
  let v := x.via i
  if items.any (fun w => isRws x.view w.addr) then
    if !items.all (fun w => isRws x.view w.addr) then s.answer ST.OUT_OF_RANGE
    else match rwsFirst v s 0 items with
      | some (n, .refuse st) => (s.answer st).failItem n
      | some (n, .stale b) => (s.stale b).failItem n
      | _ => s.rwsCommit (items.map (fun w => (w.addr, w.value))) m
  else writeItems i req v m s 0 items

/-! ### MASKED_WRITE (R367) -/

/-- What a masked write has found so far: the mask applied, the first failing status, and the failing bays with their status. -/
structure MaskAcc where
  applied : Nat := 0
  first   : Nat := 0
  fails   : List (Nat × Nat) := []
  stale   : List Nat := []
  deriving DecidableEq, Repr

/-- The units of a masked write in ascending order, each judged alone; a bay counts a stale write once. -/
def maskUnits (v : Via) (w : MaskedWrite) (data : Bytes) (m : Sample) : State → MaskAcc → List Nat → State × MaskAcc
  | s, acc, [] => (s, acc)
  | s, acc, u :: rest =>
    let bay := if w.kind = 0 then u else u / 16
    let index := w.base.toNat + u * (if w.kind = 0 then 0x100 else 0x40)
    let a : ObjAddr := ⟨BitVec.ofNat 16 index, w.sub⟩
    let epoch := fieldOf w.epochs.toNat (16 * bay) 16
    let old := acc.stale.contains bay
    let t := match s.verdict v a (some w.type.toNat) epoch data with
      | .stale _ => if old then s.answer ST.STALE_EPOCH else s.stale (Fin.ofNat 16 bay)
      | _ => s.writeObj v a (some w.type.toNat) epoch data m
    let st := t.reply.status
    let acc : MaskAcc :=
      if st = ST.OK then { acc with applied := orBit acc.applied u }
      else {
        applied := acc.applied
        first := if acc.first = ST.OK then st else acc.first
        fails := if acc.fails.any (fun p => p.1 == bay) then acc.fails else acc.fails ++ [(bay, st)]
        stale := if st = ST.STALE_EPOCH then bay :: acc.stale else acc.stale }
    maskUnits v w data m t acc rest

/-- MASKED_WRITE. -/
def State.doMasked (s : State) (i : Fin 16) (x : Session) (w : MaskedWrite) (m : Sample) : State :=
  let base := w.base.toNat
  let formed := (w.kind == 0 && decide (0x3000 ≤ base) && decide (base ≤ 0x30FF)) ||
    (w.kind == 1 && decide (0x4000 ≤ base) && decide (base ≤ 0x403F))
  match typeLen w.type.toNat with
  | none => s.answer ST.OUT_OF_RANGE
  | some n =>
    if formed = false ∨ 256 ^ n ≤ w.value.toNat then s.answer ST.OUT_OF_RANGE
    else
      let units := (List.range (if w.kind = 0 then 16 else 256)).filter (fun u => w.mask.toNat.testBit u)
      let r := maskUnits (x.via i) w (toBytes n w.value.toNat) m s {} units
      let acc := r.2
      let recs := acc.fails.flatMap (fun p =>
        toBytes 1 p.1 ++ toBytes 1 p.2 ++ toBytes 2 (r.1.getB (Fin.ofNat 16 p.1) RBay.SITE_EPOCH))
      { r.1 with reply := { status := acc.first, body := toBytes 32 acc.applied ++ recs } }

/-! ### Block transfers (R368) -/

/-- BLOCK_READ. -/
def State.doBlockRead (s : State) (i : Fin 16) (x : Session) (a : ObjAddr) (off len : Nat) : State :=
  let g := s.readObj (x.via i) a
  if g.status ≠ ST.OK then s.answer g.status
  else if g.type ≠ 12 ∧ g.type ≠ 13 then s.answer ST.TYPE_MISMATCH
  else { g.st with reply := { status := ST.OK, body := slice g.data off len, more := decide (off + len < g.data.length) } }

/-- How many bytes from 0 the fragments cover; the fuel bounds the fragments looked at. -/
def covered (l : List (Nat × Bytes)) : Nat → Nat → Nat
  | 0, p => p
  | n + 1, p =>
    match l.find? (fun f => decide (f.1 ≤ p) && decide (p < f.1 + f.2.length)) with
    | some f => covered l n (f.1 + f.2.length)
    | none => p

/-- A block write's whole value. -/
def BlockBuf.value (b : BlockBuf) : Bytes :=
  b.frags.foldl (fun v f => v.take f.1 ++ f.2 ++ v.drop (f.1 + f.2.length)) (toBytes b.total 0)

/-- The bytes of fragments that the module holds. -/
def State.heldBytes (s : State) : Nat :=
  (s.sessions.toList.map (fun x => match x.bind (·.block) with
    | some b => (b.frags.map (fun f => f.2.length)).sum
    | none => 0)).sum

/-- BLOCK_WRITE: a fragment joins the session's buffer; the one that completes the value writes the object. -/
def State.doBlockWrite (s : State) (i : Fin 16) (req : Nat) (x : Session) (f : Fragment) (m : Sample) : State :=
  let old := x.block.filter (fun b => b.addr == f.addr && b.total == f.total.toNat)
  let s := s.modSession i (fun x => { x with block := old })
  if f.total.toNat < f.offset.toNat + f.data.length ∨ 67108864 < s.heldBytes + f.data.length then s.answer ST.OUT_OF_RANGE
  else
    let b : BlockBuf := { addr := f.addr, epoch := f.epoch.toNat, total := f.total.toNat,
                          frags := ((old.map (·.frags)).getD []) ++ [(f.offset.toNat, f.data)], due := s.now + 5000000000000 }
    if covered b.frags b.frags.length 0 < b.total then
      { s.modSession i (fun x => { x with block := some b }) with reply := { status := ST.OK, more := true } }
    else
      let s := s.modSession i (fun x => { x with block := none })
      writeItems i req (x.via i) m s 0 [⟨f.addr, 13#8, f.epoch, b.value⟩]

/-! ### STAGE (R355, R365, R472) -/

/-- The level set of a channel as its staged items leave it. -/
def State.stagedLevels (s : State) (c : Chan) (n : Nat) : List Nat :=
  ((s.shadow (bayUnit (bayOf c))).filter (fun x => x.index == 0x4000 + c.val * 0x40 + 1 + n)).foldl
    (fun l x => if x.sub = 9 then (chunks 4 8 x.value).map ofBytes else l.set (x.sub - 1) (ofBytes x.value)) (s.levelSet c n)

/-- Whether a staged channel value breaks the rule that joins it with other values (R157, R167). -/
def State.badStagedChan (s : State) (index sub : Nat) (data : Bytes) : Bool :=
  let c := chanNoOf index
  let o := (index - 0x4000) % 0x40
  let v := ofBytes data
  if 1 ≤ o ∧ o ≤ 0x10 then
    !levelsOk (if sub = 9 then (chunks 4 8 data).map ofBytes else (s.stagedLevels c (o - 1)).set (sub - 1) v)
  else if o = 0x12 ∧ sub = 1 then decide (v < s.stagedO index 2 + 18)
  else if o = 0x12 ∧ sub = 2 then decide (s.stagedO index 1 < v + 18)
  else s.badValue index sub data

/-- A staged item of a bay or of a channel: its clock, its epoch, and its own rule (R14, R38, R119). -/
def State.stageBayItem (s : State) (b : Bay) (index sub epoch : Nat) (data : Bytes) : State :=
  let i := s.getB b RBay.TSET_INDEX
  if s.bayDown b then s.answer ST.STATE_LOCKED
  else if epoch ≠ s.getB b RBay.SITE_EPOCH then s.stale b
  else if 0x4000 ≤ index then
    if s.badStagedChan index sub data then s.answer ST.OUT_OF_RANGE else (s.putShadow ⟨index, sub, data, 0⟩).ok
  else if bayPlace index sub = RBay.TSET_RECORD ∨ bayPlace index sub = RBay.TSET_BLOCK then
    let n := data.length / 680
    if data.length % 680 ≠ 0 ∨ 1024 < i + n then s.answer ST.OUT_OF_RANGE
    else match ((List.range n).filterMap (fun j => (setError (slice data (680 * j) 680)).map (fun e => (i + j, e)))).head? with
      | some (k, p, e) => (s.setB b RBay.TSET_ERROR (k + p * 2 ^ 10 + e * 2 ^ 16)).answer ST.OUT_OF_RANGE
      | none => (s.putShadow ⟨index, sub, data, i⟩).ok
  else if s.badValue index sub data then s.answer ST.OUT_OF_RANGE
  else (s.putShadow ⟨index, sub, data, 0⟩).ok

/-- A staged item of a site definition (R472). -/
def State.stageSiteItem (s : State) (index sub epoch : Nat) (data : Bytes) : State :=
  let i : Site := Fin.ofNat 64 (index - 0x2810)
  if s.commit.isSome ∨ !(s.members i).all (fun b => s.bst b == BS.IDLE || s.bst b == BS.SAFE || s.bst b == BS.MAINT) then
    s.answer ST.STATE_LOCKED
  else if epoch ≠ (if s.siteKind i = 0 then 0 else s.getS i RSite.EPOCH) then
    (s.each (s.members i) (fun s b => s.stale b)).answerD ST.STALE_EPOCH (s.getS i RSite.EPOCH * 2 ^ 16)
  else if s.badValue index sub data then s.answer ST.OUT_OF_RANGE
  else (s.putShadow ⟨index, sub, data, 0⟩).ok

/-- A staged item of a graph: only one graph is staged at a time (R246), under its graph epoch (R38, R361). -/
def State.stageGraphItem (s : State) (index sub epoch : Nat) (data : Bytes) : State :=
  let g := (index - 0x8100) / 16
  if s.stagedGraph.any (fun h => h.val ≠ g) then s.answer ST.STATE_LOCKED
  else if epoch ≠ s.getG g RGraph.GRAPH_EPOCH then
    (s.addG g RGraph.STALE_COUNT 1).answerD ST.STALE_EPOCH (s.getG g RGraph.GRAPH_EPOCH * 2 ^ 16)
  else if s.badValue index sub data then s.answer ST.OUT_OF_RANGE
  else (s.putShadow ⟨index, sub, data, 0⟩).ok

/-- One item of a STAGE (R44, R355). -/
def State.stageObj (s : State) (v : Via) (w : WItem) : State :=
  let index := w.addr.index.toNat
  let sub := w.addr.sub.toNat
  match s.common v w.addr (some w.type.toNat) w.value (fun r => r.stageable || r.multi) with
  | .refuse st => s.answer st
  | .stale b => s.stale b
  | .go _ =>
    if s.coreOut ∨ s.committing (ownerUnit index) = true then s.answer ST.STATE_LOCKED
    else match ownerBay index with
      | some b => s.stageBayItem b index sub w.epoch.toNat w.value
      | none =>
        if index < 0x2900 then s.stageSiteItem index sub w.epoch.toNat w.value
        else if 0x8100 ≤ index ∧ index < 0x8500 then s.stageGraphItem index sub w.epoch.toNat w.value
        else if s.islandDown index sub then s.answer ST.STATE_LOCKED
        else if s.badValue index sub w.value then s.answer ST.OUT_OF_RANGE
        else (s.putShadow ⟨index, sub, w.value, 0⟩).ok

/-- The items of a STAGE in order, up to the first that fails (R365). -/
def stageItems (v : Via) : State → Nat → List WItem → State
  | s, _, [] => s.ok
  | s, n, w :: rest =>
    let t := s.stageObj v w
    if t.reply.status ≠ ST.OK then t.failItem n else stageItems v t (n + 1) rest

/-- One unit of a STAGE with DISCARD (R44, R365). -/
def State.discardUnit (s : State) (unit epoch : Nat) : State :=
  if !commitUnit unit then s.answer ST.OUT_OF_RANGE
  else if s.committing unit then s.answer ST.STATE_LOCKED
  else if h : 0x100 ≤ unit ∧ unit < 0x110 then
    let b : Bay := ⟨unit - 0x100, by omega⟩
    if s.bayDown b then s.answer ST.STATE_LOCKED
    else if epoch ≠ s.getB b RBay.SITE_EPOCH then s.stale b
    else ((s.dropShadow unit).setB b RBay.COMMIT_STATUS (if s.getB b RBay.COMMIT_STATUS = 1 then 0 else s.getB b RBay.COMMIT_STATUS)).ok
  else (s.dropShadow unit).ok

/-- The units of a STAGE with DISCARD in order, up to the first that fails. -/
def discardUnits : State → Nat → List UnitEntry → State
  | s, _, [] => s.ok
  | s, n, u :: rest =>
    let t := s.discardUnit u.unit.toNat u.epoch.toNat
    if t.reply.status ≠ ST.OK then t.failItem n else discardUnits t (n + 1) rest

/-- Whether STAGE and COMMIT are served: OPERATIONAL, with a control core, to an Operator (R353, R365, R373, R454). -/
def State.stageGate (s : State) (x : Session) (k : State → State) : State :=
  if s.operational = false ∨ s.coreOut = true then s.answer ST.STATE_LOCKED
  else if x.role < 1 then s.answer ST.ACCESS_DENIED
  else k s

/-- COMMIT: refused as a whole, or outstanding until every unit has reported (R40, R44, R366). -/
def State.doCommit (s : State) (i : Fin 16) (req : Nat) (x : Session) (tag : Nat) (units : List UnitEntry) : State :=
  s.stageGate x (fun s =>
    let us := units.map (fun u => (u.unit.toNat, u.epoch.toNat))
    if s.commit.isSome then s.answer ST.STATE_LOCKED
    else if s.commitBad (if x.proto < 0x20 then 16 else 64) us then s.answer ST.OUT_OF_RANGE
    else (s.startCommit (some i.val) tag us).modSession i (fun x => { x with running := some req }))

/-! ### Requests (R359 to R363) -/

/-- The protocol version from which a request's message type is known (R361); 0 for HELLO. -/
def typeSince : Instr → Nat
  | .hello .. => 0
  | .maskedWrite .. => 0x20
  | .stage .. => 0x11
  | .stageDiscard .. => 0x11
  | .commit .. => 0x11
  | _ => 0x10

/-- A request's REQUEST_ID. -/
def requestId : Instr → Option Nat
  | .hello _ r .. => some r
  | .read _ r .. => some r
  | .write _ r .. => some r
  | .maskedWrite _ r .. => some r
  | .blockRead _ r .. => some r
  | .blockWrite _ r .. => some r
  | .stage _ r .. => some r
  | .stageDiscard _ r .. => some r
  | .commit _ r .. => some r
  | _ => none

/-- What a request does. -/
def State.serve (s : State) (i : Fin 16) (x : Session) (c : Instr) : State :=
  match c with
  | .hello _ _ proto dict m => s.doHello i x proto.toNat dict.toNat m
  | .read _ _ room items => readItems (x.via i) s room ST.OK [] items
  | .write _ r items m => s.doWrite i r x items m
  | .maskedWrite _ _ w m => s.doMasked i x w m
  | .blockRead _ _ a off len => s.doBlockRead i x a off len
  | .blockWrite _ r f m => s.doBlockWrite i r x f m
  | .stage _ _ items => s.stageGate x (fun s => stageItems (x.via i) s 0 items)
  | .stageDiscard _ _ units => s.stageGate x (fun s => discardUnits s 0 units)
  | .commit _ r tag units => s.doCommit i r x tag.toNat units
  | _ => s

/-- A request starts: before HELLO only HELLO is served, and only what the protocol version knows (R359, R360).  Its reply is
kept unless it still runs. -/
def State.start (s : State) (i : Fin 16) (c : Instr) : State :=
  match s.session i, requestId c with
  | some x, some req =>
    let t :=
      if x.hello = false ∧ typeSince c ≠ 0 then s.answer ST.AUTH_REQUIRED
      else if x.hello = true ∧ x.proto < typeSince c then s.answer ST.VERSION_UNSUPPORTED
      else s.serve i x c
    if (t.session i).any (fun y => y.running.isSome) then t else t.keep i req
  | _, _ => s

/-- The requests that wait in a session start one after the other, until one still runs (R362); the fuel is their number. -/
def State.runWaits (s : State) (i : Fin 16) : Nat → State
  | 0 => s
  | n + 1 =>
    match s.session i with
    | some x =>
      if x.running.isSome then s
      else match x.waits with
        | [] => s
        | c :: _ => (((s.modSession i (fun x => { x with waits := x.waits.tail })).start i c)).runWaits i n
    | none => s

/-- A request that ran has its reply, and what waited for it starts. -/
def State.finish (s : State) (i : Fin 16) : State :=
  match s.session i with
  | some x => (match x.running with
    | some req => (s.keep i req).runWaits i x.waits.length
    | none => s)
  | none => s

/-- The commit whose every unit has reported ends: the commit objects are written, the lock is released, and its session, where
it is still open, has its reply (R43, R45, R366). -/
def State.settleCommit (s : State) : State :=
  match s.commit with
  | some c =>
    if c.over then
      let t := s.closeCommit c
      (match c.session with
      | some i => { t with reply := { status := c.status, body := c.body } }.finish (Fin.ofNat 16 i)
      | none => t)
    else s
  | none => s

/-- A WRITE whose POST has waited goes on with its next item, or fails with the post's status (R254, R260, R365). -/
def State.postEnded (s : State) (i : Fin 16) (status detail : Nat) : State :=
  match s.session i with
  | some x => (match x.held, x.running with
    | some (n, rest, m), some req =>
      let s := s.modSession i (fun x => { x with held := none })
      let t := if status = ST.OK then writeItems i req (x.via i) m s (n + 1) rest else (s.answerD status detail).failItem n
      if (t.session i).any (fun y => y.held.isSome) then t else t.finish i
    | _, _ => s)
  | none => s

/-- The WRITEs whose posts have ended go on. -/
def State.settlePosts (s : State) : State :=
  { s with postEnds := [] }.each s.postEnds (fun s p => s.postEnded (Fin.ofNat 16 p.1) p.2.1 p.2.2)

/-- A request arrives at its session: a kept one is answered again, one that runs or waits is IN_PROGRESS, one that finds the
session busy waits, the ninth is refused, and any other starts (R358, R362, R363). -/
def State.request (s : State) (i : Fin 16) (c : Instr) : State :=
  let s := s.settlePosts
  match s.session i, requestId c with
  | some x, some req =>
    let s := s.modSession i (fun x => { x with last := s.now })
    (match x.replies.find? (fun p => p.1 == req) with
    | some p => { s with reply := p.2 }
    | none =>
      if x.running = some req ∨ x.waits.any (fun w => requestId w == some req) = true then
        { s with reply := { status := ST.OK, busy := true } }
      else if x.running.isSome then
        (if 8 ≤ x.waits.length then s.answer ST.STATE_LOCKED
        else s.modSession i (fun y => { y with waits := x.waits ++ [c] }))
      else s.start i c)
  | _, _ => s

/-! ### Events (R369, R370) -/

/-- A record of an EVENT message. -/
def EventNote.bytes (e : EventNote) : Bytes := toBytes 2 e.source ++ toBytes 2 e.count ++ toBytes 8 e.time ++ toBytes 4 e.detail

/-- EVENT_SEND: the closed records, oldest first, as many as fit beside the 160 bytes kept for the layers below; the message
carries the session's EVENT_SEQ and the records dropped since the last. -/
def State.sendEvents (s : State) (i : Fin 16) : State :=
  match s.session i with
  | some x =>
    let n := max 1 ((s.getO (keyPort (Fin.ofNat 2 x.port) RPort.MTU) - 160) / 16)
    let out := (x.queue.filter (fun q => decide (q.until_ ≤ s.now))).take n
    if out.isEmpty then s
    else
      let head := toBytes 4 x.seq ++ toBytes 2 x.lostNew ++ toBytes 2 0
      (s.modSession i (fun x => { x with
        queue := x.queue.filter (fun q => !out.contains q), seq := (x.seq + 1) % 2 ^ 32, lostNew := 0 })).answerBody
        (head ++ out.flatMap EventNote.bytes)
  | none => s

/-- EVENT_HOLD_EXPIRY: the hold of a source's open record ends (R369). -/
def State.holdEnds (s : State) (i : Fin 16) (src : Nat) : State :=
  match (s.session i).bind (fun x => x.queue.find? (fun q => q.source == src && decide (s.now < q.until_))) with
  | some q => s.advance q.until_
  | none => s

/-- The data events of a session's port that are not acknowledged, in order (R370). -/
def State.resend (s : State) (i : Fin 16) : State :=
  match s.session i with
  | some x =>
    let u := s.dataPorts.get (Fin.ofNat 2 x.port)
    if u.sub = some i.val ∧ u.unacked.isEmpty = false then
      s.answerBody (u.unacked.flatMap (fun e => toBytes 4 e.1 ++ toBytes 2 0 ++ toBytes 2 1 ++ e.2))
    else s
  | none => s

/-- A write of one of a session's own objects outside a WRITE message. -/
def State.ownWrite (s : State) (i : Fin 16) (sub : Nat) (type : Nat) (data : Bytes) : State :=
  match s.session i with
  | some x =>
    if x.hello then s.writeObj (x.via i) ⟨0x1100, BitVec.ofNat 8 sub⟩ (some type) 0 data default else s.answer ST.AUTH_REQUIRED
  | none => s

/-! ### The management port (R372, R374) -/

/-- One bit of CRC-16 with polynomial 0x1021. -/
def crcBit (c : BitVec 16) : BitVec 16 := if c.msb then (c <<< 1) ^^^ 0x1021#16 else c <<< 1
/-- CRC-16 over bytes: polynomial 0x1021, initial value 0xFFFF, no reflection and no final XOR (R374). -/
def crc16 (d : Bytes) : BitVec 16 :=
  d.foldl (fun c b => (List.range 8).foldl (fun c _ => crcBit c) (c ^^^ ((b.setWidth 16 : BitVec 16) <<< (8 : Nat)))) 0xFFFF#16

/-- Bytes of free value. -/
def State.freeData (s : State) (n : Nat) : Bytes × State :=
  ((List.range n).map (fun i => (Config.freeValue (s.fresh + i)).setWidth 8), { s with fresh := s.fresh + n })

/-- How the management port reaches the dictionary: it writes what an Operator may write (R372). -/
def mgmtVia : Via := { role := 1, path := .management }

/-- Whether an address lies in the reduced set. -/
def inReduced (a : ObjAddr) : Bool :=
  match findIn 0x31 a.index.toNat a.sub.toNat with
  | .ok r => decide (a.index.toNat < 0xF000) && r.keeper
  | .error _ => false

/-- MGMT_READ: status, the bytes asked for and the CRC; where the value gives no such byte the port sends what it will.  A
READ that ends before the CRC has no effect. DESIGN CHOICE (log 27). -/
def State.portRead (s : State) (a : ObjAddr) (off len : Nat) (complete : Bool) : State :=
  if !complete then s
  else
    let g : Got :=
      if len = 0 ∨ 256 < len then ⟨ST.OUT_OF_RANGE, 0, [], s⟩
      else if inReduced a then s.readObj mgmtVia a else ⟨ST.ACCESS_DENIED, 0, [], s⟩
    let d := slice g.data off len
    let f := g.st.freeData (len - d.length)
    let body := toBytes 1 g.status ++ d ++ f.1
    { f.2 with reply := { status := g.status, body := body ++ toBytes 2 (crc16 body).toNat } }

/-- MGMT_WRITE: checked by its CRC; its status waits for the next STATUS. DEDUCED (log 27): an offset
other than 0. -/
def State.portWrite (s : State) (a : ObjAddr) (off : Nat) (data : Bytes) (crc : BitVec 16) (m : Sample) : State :=
  let sent := toBytes 1 2 ++ toBytes 2 a.index.toNat ++ toBytes 1 a.sub.toNat ++ toBytes 4 off ++ toBytes 2 data.length ++ data
  let t :=
    if crc ≠ crc16 sent ∨ data.length = 0 ∨ 256 < data.length then s.answer ST.OUT_OF_RANGE
    else if !inReduced a then s.answer ST.ACCESS_DENIED
    else if off ≠ 0 then s.answer ST.OUT_OF_RANGE
    else s.writeObj mgmtVia a none 0 data m
  { t with mgmtLast := t.reply.status, reply := s.reply }

/-! ### The commands -/

/-- SESSION_OPEN (R358, R376, R377). -/
def execSessionOpen (port : Fin 2) (cert : Cert) (s : State) : Host.Outcome State Fault Refusal := .next (s.openSession port cert)

/-- SESSION_CLOSE (R358). -/
def execSessionClose (sid : Fin 16) (s : State) : Host.Outcome State Fault Refusal := .next (s.closeSession sid)

/-- SESSION_IDLE_TIMEOUT (R358). -/
def execSessionIdleTimeout (sid : Fin 16) (s : State) : Host.Outcome State Fault Refusal :=
  .next (match s.session sid with
    | some x => (s.advance (x.last + x.idle * 1000000000000)).closeSession sid
    | none => s)

/-- HELLO (R359, R377). -/
def execHello (sid : Fin 16) (req : Nat) (proto dict : BitVec 8) (smp : Sample) (s : State) : Host.Outcome State Fault Refusal :=
  .next (s.request sid (.hello sid req proto dict smp))

/-- READ (R364). -/
def execRead (sid : Fin 16) (req : Nat) (room : Nat) (items : List ObjAddr) (s : State) : Host.Outcome State Fault Refusal :=
  .next (s.request sid (.read sid req room items))

/-- WRITE (R354, R365). -/
def execWrite (sid : Fin 16) (req : Nat) (items : List WItem) (smp : Sample) (s : State) : Host.Outcome State Fault Refusal :=
  .next (s.request sid (.write sid req items smp))

/-- MASKED_WRITE (R367). -/
def execMaskedWrite (sid : Fin 16) (req : Nat) (m : MaskedWrite) (smp : Sample) (s : State) : Host.Outcome State Fault Refusal :=
  .next (s.request sid (.maskedWrite sid req m smp))

/-- BLOCK_READ (R368). -/
def execBlockRead (sid : Fin 16) (req : Nat) (obj : ObjAddr) (off len : Nat) (s : State) : Host.Outcome State Fault Refusal :=
  .next (s.request sid (.blockRead sid req obj off len))

/-- BLOCK_WRITE (R368). -/
def execBlockWrite (sid : Fin 16) (req : Nat) (frag : Fragment) (smp : Sample) (s : State) : Host.Outcome State Fault Refusal :=
  .next (s.request sid (.blockWrite sid req frag smp))

/-- BLOCK_WRITE_ABANDON (R368): 5 s after the last fragment. -/
def execBlockWriteAbandon (sid : Fin 16) (s : State) : Host.Outcome State Fault Refusal :=
  .next (match (s.session sid).bind (·.block) with
    | some b => (s.advance b.due).modSession sid (fun x => { x with block := none })
    | none => s)

/-- STAGE (R365). -/
def execStage (sid : Fin 16) (req : Nat) (items : List WItem) (s : State) : Host.Outcome State Fault Refusal :=
  .next (s.request sid (.stage sid req items))

/-- STAGE_DISCARD (R365). -/
def execStageDiscard (sid : Fin 16) (req : Nat) (units : List UnitEntry) (s : State) : Host.Outcome State Fault Refusal :=
  .next (s.request sid (.stageDiscard sid req units))

/-- COMMIT (R40, R366). -/
def execCommit (sid : Fin 16) (req : Nat) (tag : BitVec 16) (units : List UnitEntry) (s : State) :
    Host.Outcome State Fault Refusal :=
  .next (s.request sid (.commit sid req tag units))

/-- COMMIT_APPLY (R41). -/
def execCommitApply (unit : BitVec 12) (smp : Sample) (s : State) : Host.Outcome State Fault Refusal :=
  .next (s.boundaryOf unit.toNat smp).settleCommit

/-- COMMIT_WINDOW_EXPIRY (R42). -/
def execCommitWindowExpiry (s : State) : Host.Outcome State Fault Refusal :=
  .next (match s.commit with
    | some c => (s.advance c.due).cancelAll.settleCommit
    | none => s)

/-- GATHER_WINDOW_END (R315, R319, R471): where the window took up a staged rate, the commit of that lane has its report. -/
def execGatherWindowEnd (l : Lane) (eh ew : BitVec 8) (eq : EqSet) (s : State) : Host.Outcome State Fault Refusal :=
  .next (
    let t := s.windowEnd l eh.toNat ew.toNat eq
    if (s.lane l).rateNew.isSome ∧ (t.lane l).rateNew.isNone then
      ((t.dropShadow (0x180 + l.val)).report (0x180 + l.val) CS.APPLIED 0).settleCommit
    else t)

/-- EVENT_SEND (R369). -/
def execEventSend (sid : Fin 16) (s : State) : Host.Outcome State Fault Refusal := .next (s.sendEvents sid)

/-- EVENT_HOLD_EXPIRY (R369). -/
def execEventHoldExpiry (sid : Fin 16) (src : BitVec 11) (s : State) : Host.Outcome State Fault Refusal :=
  .next (s.holdEnds sid src.toNat)

/-- DATA_SUBSCRIBE (R370). -/
def execDataSubscribe (sid : Fin 16) (on : Bool) (s : State) : Host.Outcome State Fault Refusal :=
  .next (s.ownWrite sid 8 1 (toBytes 1 (bit on)))

/-- DATA_ACK (R370). -/
def execDataAck (sid : Fin 16) (seq : BitVec 32) (s : State) : Host.Outcome State Fault Refusal :=
  .next (s.ownWrite sid 9 4 (toBytes 4 seq.toNat))

/-- DATA_EVENT_RESEND (R370). -/
def execDataEventResend (sid : Fin 16) (s : State) : Host.Outcome State Fault Refusal := .next (s.resend sid)

/-- MGMT_READ (R372, R374). -/
def execMgmtRead (obj : ObjAddr) (off len : Nat) (complete : Bool) (s : State) : Host.Outcome State Fault Refusal :=
  .next (s.keeper (fun s => s.portRead obj off len complete))

/-- MGMT_WRITE (R372, R374). -/
def execMgmtWrite (obj : ObjAddr) (off : Nat) (data : Bytes) (crc : BitVec 16) (smp : Sample) (s : State) :
    Host.Outcome State Fault Refusal :=
  .next (s.keeper (fun s => s.portWrite obj off data crc smp))

/-- MGMT_STATUS (R374). DESIGN CHOICE (log 27): BUSY is 0. -/
def execMgmtStatus (s : State) : Host.Outcome State Fault Refusal :=
  .next (s.keeper (fun s => s.answerBody (toBytes 1 s.mgmtLast ++ toBytes 1 0)))

/-- REGISTER_WRITE (R353): a write of one object, of the role it carries. -/
def execRegisterWrite (role : Role) (item : WItem) (s : State) : Host.Outcome State Fault Refusal :=
  .next ({ s with fresh := s.fresh + 1 }.writeObj { role := roleNo role } item.addr (some item.type.toNat) item.epoch.toNat item.value
    (Config.freeSample s.fresh))

/-- GRAPH_DRAIN_COMPLETE (R261, R263): a stop ends, or the fabric's part of a commit is applied. -/
def execGraphDrainComplete (g : Graph) (s : State) : Host.Outcome State Fault Refusal :=
  .next (
    if !s.drained g.val then s
    else if s.drains.get g.val 0 = 1 then (s.stopped g.val).releaseHeld
    else if s.drains.get g.val 0 = 2 ∧ s.stagedPartition = false then
      (match s.waiting1 fabricUnit with
      | some e => (s.fabricBoundary e default).settleCommit
      | none => s)
    else s)

end Sys2Proof.Machine
end

