-- ==== Sys2Proof/Machine/Internal.lean ====
section
/-! DEFINITION. The internal object path and the delay lists' expiries (R100, R252, R253, R257 to R259).

A request carries the Operator role, reaches only objects that carry INTERNAL, and leaves the host's reply as it is. -/

namespace Sys2Proof.Machine

/-- How the internal object path reaches the dictionary (R258). -/
def pathVia : Via := { role := 1, path := .internal }

/-- Whether an address may be reached through the internal object path; 00 of an index where one of its objects may (R257). -/
def onPath (a : ObjAddr) : Bool :=
  match findIn 0x31 a.index.toNat a.sub.toNat with
  | .ok r => r.internal && decide (a.index.toNat < 0xF000)
  | .error _ => false

/-- A write through the path: an object without INTERNAL refuses it (R257, R258). -/
def State.pathWrite (s : State) (a : ObjAddr) (type : Option Nat) (epoch : Nat) (data : Bytes) : State :=
  if !onPath a then s.answer ST.ACCESS_DENIED
  else { s with fresh := s.fresh + 1 }.writeObj pathVia a type epoch data (Config.freeSample s.fresh)

/-- A read through the path (R257, R258). -/
def State.pathRead (s : State) (a : ObjAddr) : Got :=
  if onPath a then s.readObj pathVia a else ⟨ST.ACCESS_DENIED, 0, [], s⟩

/-- A read value as a token's VALUE: a scalar's bits; the bits above a negative value, and what stands for a DOMAIN, are free
(R239, R257). (Log 35.) -/
def Got.value (g : Got) : Nat × State :=
  match typeLen g.type with
  | none => (g.st.free.1.toNat, g.st.free.2)
  | some n =>
    let v := ofBytes g.data
    if typeSigned g.type ∧ v.testBit (8 * n - 1) ∧ n < 8 then
      let f := g.st.free
      (v + 2 ^ (8 * n) * (f.1.toNat % 2 ^ (64 - 8 * n)), f.2)
    else (v, g.st)

/-- Whether a read object holds a gate value: the value's bits in the object's width (R252). -/
def Got.holds (g : Got) (v : Nat) : Bool :=
  match typeLen g.type with
  | none => false
  | some n =>
    let w := ofBytes g.data
    w == v || (typeSigned g.type && ofSigned 64 (toSigned (8 * n) w) == v)

/-- A value token of a read: it takes a slot, or waits as a kernel's output does; a port that no node has takes none. -/
def State.deliverToken (s : State) (t : Token) : State :=
  if s.hasPort t.graph t.node t.port then s.inner 192 t else s.discard [t]

/-! ### INTERNAL_OBJECT_REQUEST (R100, R257 to R259) -/

/-- A write of a graph finds its site epoch stale: the graph enters SITE_STALE and raises GRAPH_ERROR (R259). -/
def State.siteStale (s : State) (g n seq : Nat) : State :=
  let quietEdge := !(s.dests g n 3).isEmpty
  let st := s.getG g RGraph.GRAPH_STATE
  let s := if st = GS.RUNNING ∨ st = GS.DRAINING then s.setG g RGraph.GRAPH_STATE GS.SITE_STALE else s
  let s := s.nodeError g n seq 5 192
  if quietEdge then s.event (1856 + g) (n + 5 * 256) else s

/-- The request at the front of a bench's object queue; the room it leaves is taken by what waits for it (R257 to R259). -/
def State.benchObj (s : State) (n : Bench) : State :=
  match (s.bench n).reqs with
  | [] => s
  | q :: rest =>
    let old := s.reply
    let s := s.modBench n (fun u => { u with reqs := rest })
    let t := match q.req with
      | .write w =>
        let t := s.pathWrite w.addr (some w.type.toNat) q.epoch w.value
        if t.reply.status = ST.OK then t
        else if t.reply.status = ST.STALE_EPOCH ∧ (ownerBay w.addr.index.toNat).isSome then t.siteStale q.graph q.node q.seq
        else t.nodeError q.graph q.node q.seq 4 192
      | .read a node port seq =>
        let g := s.pathRead a
        if g.status = ST.OK then
          let v := g.value
          v.2.deliverToken ⟨q.graph, node.toNat, port.val, seq.toNat, v.1, false⟩
        else g.st.nodeError q.graph q.node q.seq 4 192
    { (t.sched q.graph).pumpReqs n with reply := old }

/-- The write at the front of a bay's queue: IMM in the width of its target; its status does not return (R100). -/
def State.bayObj (s : State) (b : Bay) : State :=
  match (s.bay b).objQueue with
  | [] => s
  | (k, imm, epoch) :: rest =>
    let old := s.reply
    let s := s.modBay b (fun u => { u with objQueue := rest })
    let a := addrOf k
    let t := match findIn 0x31 a.index.toNat a.sub.toNat with
      | .ok r =>
        let n := (typeLen r.type).getD 4
        s.pathWrite a (some r.type) epoch (toBytes (if imm < 256 ^ n then n else 4) imm)
      | .error _ => s
    { t with reply := old }

/-! ### DELAY_ENTRY_EXPIRY (R252, R253) -/

/-- An expired entry's token: it may use every slot; where there is none the entry stays at the head of its list. -/
def State.delayPost (s : State) (i : Fin 4) (due : Nat) (t : Token) : State :=
  if !s.hasPort t.graph t.node t.port then ((s.popDelay i).discard [t]).sched t.graph
  else match s.takeToken t with
    | some u => ((u.popDelay i).addLate due).sched t.graph
    | none => s.holdDelay i

/-- The head of a list with another act, as an entry that is held off. -/
def State.swapDelay (s : State) (i : Fin 4) (e : DelayEntry) : State :=
  { s with delays := s.delays.set i.val (e :: (s.delays.get i).tail) i.isLt }

/-- A gate that does not hold its value: the entry is entered again after RETRY_TICKS, eight times failed it is an error
(R252). -/
def State.gateFailed (s : State) (i : Fin 4) (src : Nat) (t : Token) (k : Nat) (gate : Nat × Nat) (tries : Nat) : State :=
  let s := s.popDelay i
  if 7 ≤ tries then (s.nodeError t.graph src t.seq 7 192).sched t.graph
  else
    let e : DelayEntry := {
      due := s.boundary ((s.now + s.getO R.RETRY_TICKS * s.tick : Nat) : Int)
      act := .read src t k (some gate) (tries + 1) }
    match s.enterDelay i e with
    | some u => u.sched t.graph
    | none => s.sched t.graph

/-- A refused read of an entry ends it with OBJ_DENIED (R257). -/
def State.delayDenied (s : State) (i : Fin 4) (src : Nat) (t : Token) : State :=
  ((s.popDelay i).nodeError t.graph src t.seq 4 192).sched t.graph

/-- An entry's object is read, and its value is the entry's token from then on (R252, R253). -/
def State.delayValue (s : State) (i : Fin 4) (due src : Nat) (t : Token) (k : Nat) : State :=
  let g := s.pathRead (addrOf k)
  if g.status = ST.OK then
    let v := g.value
    let t := { t with value := v.1, buf := false }
    (v.2.swapDelay i { due := due, act := .post t, held := true }).delayPost i due t
  else g.st.delayDenied i src t

/-- A READ entry: its gate, its object, and the value as a token (R252). -/
def State.delayRead (s : State) (i : Fin 4) (due src : Nat) (t : Token) (k : Nat) (gate : Option (Nat × Nat)) (tries : Nat) : State :=
  match gate with
  | none => s.delayValue i due src t k
  | some q =>
    let g := s.pathRead (addrOf q.1)
    if g.status ≠ ST.OK then g.st.delayDenied i src t
    else if g.holds q.2 then g.st.delayValue i due src t k
    else g.st.gateFailed i src t k q tries

/-- The head of a delay list expires; while its graph drains it is held (R252, R253, R261). -/
def State.delayExpiry (s : State) (i : Fin 4) : State :=
  match s.delays.get i with
  | [] => s
  | e :: _ =>
    let s := s.advance e.due
    match e.act with
    | .timer g j period => s.timerExpiry i e g j period
    | .post t => if s.drains.get t.graph 0 ≠ 0 then s.holdDelay i else s.delayPost i e.due t
    | .read src t k gate tries =>
      if s.drains.get t.graph 0 ≠ 0 then s.holdDelay i else { s.delayRead i e.due src t k gate tries with reply := s.reply }

/-! ### Meanings -/

/-- DELAY_ENTRY_EXPIRY (R251 to R253). -/
def execDelayEntryExpiry (list : Fin 4) (s : State) : Host.Outcome State Fault Refusal := .next (s.delayExpiry list)

/-- INTERNAL_OBJECT_REQUEST (R100, R257 to R259). -/
def execInternalObjectRequest (src : ObjSource) (s : State) : Host.Outcome State Fault Refusal :=
  .next (match src with
    | .microword b => s.bayObj b
    | .bench n => s.benchObj n)

end Sys2Proof.Machine
end

