-- ==== Sys2Proof/Machine/Dispatch.lean ====
section
/-! DEFINITION. One arm per command: the meaning it has. -/

namespace Sys2Proof.Machine

/-- A command's effect on everything but the queue. -/
def exec (i : Instr) (s : State) : Host.Outcome State Fault Refusal :=
  match i with
  | .sessionOpen port cert => Sys2Proof.Machine.execSessionOpen port cert s
  | .sessionClose sid => Sys2Proof.Machine.execSessionClose sid s
  | .sessionIdleTimeout sid => Sys2Proof.Machine.execSessionIdleTimeout sid s
  | .hello sid req proto dict smp => Sys2Proof.Machine.execHello sid req proto dict smp s
  | .read sid req room items => Sys2Proof.Machine.execRead sid req room items s
  | .write sid req items smp => Sys2Proof.Machine.execWrite sid req items smp s
  | .maskedWrite sid req m smp => Sys2Proof.Machine.execMaskedWrite sid req m smp s
  | .blockRead sid req obj off len => Sys2Proof.Machine.execBlockRead sid req obj off len s
  | .blockWrite sid req frag smp => Sys2Proof.Machine.execBlockWrite sid req frag smp s
  | .blockWriteAbandon sid => Sys2Proof.Machine.execBlockWriteAbandon sid s
  | .stage sid req items => Sys2Proof.Machine.execStage sid req items s
  | .stageDiscard sid req units => Sys2Proof.Machine.execStageDiscard sid req units s
  | .commit sid req tag units => Sys2Proof.Machine.execCommit sid req tag units s
  | .commitApply unit smp => Sys2Proof.Machine.execCommitApply unit smp s
  | .commitWindowExpiry => Sys2Proof.Machine.execCommitWindowExpiry s
  | .eventSend sid => Sys2Proof.Machine.execEventSend sid s
  | .eventHoldExpiry sid src => Sys2Proof.Machine.execEventHoldExpiry sid src s
  | .dataSubscribe sid on => Sys2Proof.Machine.execDataSubscribe sid on s
  | .dataAck sid seq => Sys2Proof.Machine.execDataAck sid seq s
  | .dataEventResend sid => Sys2Proof.Machine.execDataEventResend sid s
  | .mgmtRead obj off len complete => Sys2Proof.Machine.execMgmtRead obj off len complete s
  | .mgmtWrite obj off data crc smp => Sys2Proof.Machine.execMgmtWrite obj off data crc smp s
  | .mgmtStatus => Sys2Proof.Machine.execMgmtStatus s
  | .registerWrite role item => Sys2Proof.Machine.execRegisterWrite role item s
  | .stateRequestOff b epoch => Sys2Proof.Machine.execStateRequestOff b epoch s
  | .stateRequestSafe b epoch => Sys2Proof.Machine.execStateRequestSafe b epoch s
  | .stateRequestIdle b epoch => Sys2Proof.Machine.execStateRequestIdle b epoch s
  | .stateRequestMaint b epoch => Sys2Proof.Machine.execStateRequestMaint b epoch s
  | .stateRequestPause b epoch => Sys2Proof.Machine.execStateRequestPause b epoch s
  | .stateRequestRun b epoch => Sys2Proof.Machine.execStateRequestRun b epoch s
  | .stateRequestArm b epoch => Sys2Proof.Machine.execStateRequestArm b epoch s
  | .stateRequestDisarm b epoch => Sys2Proof.Machine.execStateRequestDisarm b epoch s
  | .stateRequestStop b epoch => Sys2Proof.Machine.execStateRequestStop b epoch s
  | .armFillComplete b bad => Sys2Proof.Machine.execArmFillComplete b bad s
  | .laneFedArmReady b bad => Sys2Proof.Machine.execLaneFedArmReady b bad s
  | .hostStart site epoch => Sys2Proof.Machine.execHostStart site epoch s
  | .patternEnd b => Sys2Proof.Machine.execPatternEnd b s
  | .bclkChange b epoch mhz => Sys2Proof.Machine.execBclkChange b epoch mhz s
  | .pllRelock b => Sys2Proof.Machine.execPllRelock b s
  | .clockUnlock b fine => Sys2Proof.Machine.execClockUnlock b fine s
  | .quadRetire b host => Sys2Proof.Machine.execQuadRetire b host s
  | .resourceClaim r epoch feature owner => Sys2Proof.Machine.execResourceClaim r epoch feature owner s
  | .resourceRelease r epoch => Sys2Proof.Machine.execResourceRelease r epoch s
  | .shingleEntryWrite b epoch entry => Sys2Proof.Machine.execShingleEntryWrite b epoch entry s
  | .tableBlockWrite b epoch data => Sys2Proof.Machine.execTableBlockWrite b epoch data s
  | .tsetWrite b epoch block data => Sys2Proof.Machine.execTsetWrite b epoch block data s
  | .jumpRequest b epoch target => Sys2Proof.Machine.execJumpRequest b epoch target s
  | .condJump b => Sys2Proof.Machine.execCondJump b s
  | .granuleBoundary b bad again => Sys2Proof.Machine.execGranuleBoundary b bad again s
  | .decisionBoundary b => Sys2Proof.Machine.execDecisionBoundary b s
  | .shingleBoundary b => Sys2Proof.Machine.execShingleBoundary b s
  | .loftFill b bad badAgain => Sys2Proof.Machine.execLoftFill b bad badAgain s
  | .underrunEnd b => Sys2Proof.Machine.execUnderrunEnd b s
  | .underrunLogClear b epoch => Sys2Proof.Machine.execUnderrunLogClear b epoch s
  | .seqJump b ecc => Sys2Proof.Machine.execSeqJump b ecc s
  | .seqIf b ecc => Sys2Proof.Machine.execSeqIf b ecc s
  | .seqIfnot b ecc => Sys2Proof.Machine.execSeqIfnot b ecc s
  | .seqCall b ecc => Sys2Proof.Machine.execSeqCall b ecc s
  | .seqCallIf b ecc => Sys2Proof.Machine.execSeqCallIf b ecc s
  | .seqReturn b ecc => Sys2Proof.Machine.execSeqReturn b ecc s
  | .seqExit b ecc => Sys2Proof.Machine.execSeqExit b ecc s
  | .seqDispatch b ecc => Sys2Proof.Machine.execSeqDispatch b ecc s
  | .waitRelease b ecc => Sys2Proof.Machine.execWaitRelease b ecc s
  | .waitTimeout b ecc => Sys2Proof.Machine.execWaitTimeout b ecc s
  | .vecEmit b => Sys2Proof.Machine.execVecEmit b s
  | .vecPad b => Sys2Proof.Machine.execVecPad b s
  | .vecHold b => Sys2Proof.Machine.execVecHold b s
  | .vecMute b => Sys2Proof.Machine.execVecMute b s
  | .prdSel b => Sys2Proof.Machine.execPrdSel b s
  | .lvlSel b => Sys2Proof.Machine.execLvlSel b s
  | .matchEnable b => Sys2Proof.Machine.execMatchEnable b s
  | .shgJumpReq b => Sys2Proof.Machine.execShgJumpReq b s
  | .shgPause b => Sys2Proof.Machine.execShgPause b s
  | .shgStop b => Sys2Proof.Machine.execShgStop b s
  | .shgRewind b => Sys2Proof.Machine.execShgRewind b s
  | .cntDec b n => Sys2Proof.Machine.execCntDec b n s
  | .cntInc b n => Sys2Proof.Machine.execCntInc b n s
  | .cntDecVec b n => Sys2Proof.Machine.execCntDecVec b n s
  | .cntIncVec b n => Sys2Proof.Machine.execCntIncVec b n s
  | .cntLoad b n => Sys2Proof.Machine.execCntLoad b n s
  | .cntLoadParam b n => Sys2Proof.Machine.execCntLoadParam b n s
  | .cntReload b n => Sys2Proof.Machine.execCntReload b n s
  | .cntClear b n => Sys2Proof.Machine.execCntClear b n s
  | .captureOn b => Sys2Proof.Machine.execCaptureOn b s
  | .captureOff b => Sys2Proof.Machine.execCaptureOff b s
  | .capMark b => Sys2Proof.Machine.execCapMark b s
  | .retire b => Sys2Proof.Machine.execRetire b s
  | .retireFailed b => Sys2Proof.Machine.execRetireFailed b s
  | .objWrite b => Sys2Proof.Machine.execObjWrite b s
  | .raise b => Sys2Proof.Machine.execRaise b s
  | .loadNow b => Sys2Proof.Machine.execLoadNow b s
  | .loadTimer b => Sys2Proof.Machine.execLoadTimer b s
  | .blankStart b => Sys2Proof.Machine.execBlankStart b s
  | .blankEnd b => Sys2Proof.Machine.execBlankEnd b s
  | .tmuMwArm b => Sys2Proof.Machine.execTmuMwArm b s
  | .tmuMwDisarm b => Sys2Proof.Machine.execTmuMwDisarm b s
  | .ridgeAssert b port => Sys2Proof.Machine.execRidgeAssert b port s
  | .ridgeRelease b port => Sys2Proof.Machine.execRidgeRelease b port s
  | .ridgePulse b port => Sys2Proof.Machine.execRidgePulse b port s
  | .sphPermit b => Sys2Proof.Machine.execSphPermit b s
  | .sphInhibit b => Sys2Proof.Machine.execSphInhibit b s
  | .customWatchdog b => Sys2Proof.Machine.execCustomWatchdog b s
  | .bankImage b epoch image => Sys2Proof.Machine.execBankImage b epoch image s
  | .bankLoadComplete b sigOk readbackOk => Sys2Proof.Machine.execBankLoadComplete b sigOk readbackOk s
  | .customEntryWrite b epoch type value => Sys2Proof.Machine.execCustomEntryWrite b epoch type value s
  | .vendorReload b => Sys2Proof.Machine.execVendorReload b s
  | .strobeLatch c cmph cmpl => Sys2Proof.Machine.execStrobeLatch c cmph cmpl s
  | .driveEdge c => Sys2Proof.Machine.execDriveEdge c s
  | .ridgeEvent line level => Sys2Proof.Machine.execRidgeEvent line level s
  | .purlinEvent site kind => Sys2Proof.Machine.execPurlinEvent site kind s
  | .trigEdge n rising => Sys2Proof.Machine.execTrigEdge n rising s
  | .lvlSelect b epoch lvl => Sys2Proof.Machine.execLvlSelect b epoch lvl s
  | .loadRequest b epoch => Sys2Proof.Machine.execLoadRequest b epoch s
  | .levelSetWrite c epoch set w => Sys2Proof.Machine.execLevelSetWrite c epoch set w s
  | .guardThresholdWrite c epoch which value => Sys2Proof.Machine.execGuardThresholdWrite c epoch which value s
  | .clearCodeWrite c epoch level code smp => Sys2Proof.Machine.execClearCodeWrite c epoch level code smp s
  | .clearAssert die src => Sys2Proof.Machine.execClearAssert die src s
  | .clearRelease die src => Sys2Proof.Machine.execClearRelease die src s
  | .guardTrip c under => Sys2Proof.Machine.execGuardTrip c under s
  | .guardTripReport c under => Sys2Proof.Machine.execGuardTripReport c under s
  | .guardUntrip c under => Sys2Proof.Machine.execGuardUntrip c under s
  | .guardResolve c under => Sys2Proof.Machine.execGuardResolve c under s
  | .tripClear c epoch => Sys2Proof.Machine.execTripClear c epoch s
  | .blankExpiry b => Sys2Proof.Machine.execBlankExpiry b s
  | .loadTimerExpiry b => Sys2Proof.Machine.execLoadTimerExpiry b s
  | .controlLinkLost b => Sys2Proof.Machine.execControlLinkLost b s
  | .converterSlot die conv slot measured clamp => Sys2Proof.Machine.execConverterSlot die conv slot measured clamp s
  | .pmuModeWrite c epoch mode => Sys2Proof.Machine.execPmuModeWrite c epoch mode s
  | .measStart c epoch => Sys2Proof.Machine.execMeasStart c epoch s
  | .measDone c => Sys2Proof.Machine.execMeasDone c s
  | .frameClose b mode written => Sys2Proof.Machine.execFrameClose b mode written s
  | .consumedFrameWrite b epoch mode value => Sys2Proof.Machine.execConsumedFrameWrite b epoch mode value s
  | .triggerArmed b => Sys2Proof.Machine.execTriggerArmed b s
  | .triggerRecognised b cycle offset => Sys2Proof.Machine.execTriggerRecognised b cycle offset s
  | .channelEdge c cmph cmpl cycle offset => Sys2Proof.Machine.execChannelEdge c cmph cmpl cycle offset s
  | .trigForce b epoch => Sys2Proof.Machine.execTrigForce b epoch s
  | .trigRearm b epoch => Sys2Proof.Machine.execTrigRearm b epoch s
  | .windowDone b mode written => Sys2Proof.Machine.execWindowDone b mode written s
  | .tmuArmRequest b epoch => Sys2Proof.Machine.execTmuArmRequest b epoch s
  | .tmuDisarmRequest b epoch => Sys2Proof.Machine.execTmuDisarmRequest b epoch s
  | .tmuCalibrationDone b w n0 => Sys2Proof.Machine.execTmuCalibrationDone b w n0 s
  | .tmuHit b route rising ticks taps => Sys2Proof.Machine.execTmuHit b route rising ticks taps s
  | .tmuGateExpiry b => Sys2Proof.Machine.execTmuGateExpiry b s
  | .tmuTimeout b => Sys2Proof.Machine.execTmuTimeout b s
  | .tmuRepeat b => Sys2Proof.Machine.execTmuRepeat b s
  | .tmuRefLost b => Sys2Proof.Machine.execTmuRefLost b s
  | .resultRead b => Sys2Proof.Machine.execResultRead b s
  | .resultBlockRead b => Sys2Proof.Machine.execResultBlockRead b s
  | .fifoClear b epoch => Sys2Proof.Machine.execFifoClear b epoch s
  | .tokenArrival t => Sys2Proof.Machine.execTokenArrival t s
  | .bindingPost g idx => Sys2Proof.Machine.execBindingPost g idx s
  | .post g epoch node port seq value => Sys2Proof.Machine.execPost g epoch node port seq value s
  | .hostPostTimeout => Sys2Proof.Machine.execHostPostTimeout s
  | .workDispatch bn => Sys2Proof.Machine.execWorkDispatch bn s
  | .workComplete bn core result => Sys2Proof.Machine.execWorkComplete bn core result s
  | .workLimit bn core => Sys2Proof.Machine.execWorkLimit bn core s
  | .coreFault bn core benchLevel => Sys2Proof.Machine.execCoreFault bn core benchLevel s
  | .delayEntryExpiry list => Sys2Proof.Machine.execDelayEntryExpiry list s
  | .storeDeadlock => Sys2Proof.Machine.execStoreDeadlock s
  | .internalObjectRequest src => Sys2Proof.Machine.execInternalObjectRequest src s
  | .graphDrainComplete g => Sys2Proof.Machine.execGraphDrainComplete g s
  | .startRequest g epoch => Sys2Proof.Machine.execStartRequest g epoch s
  | .stopRequest g epoch => Sys2Proof.Machine.execStopRequest g epoch s
  | .benchDrain bn => Sys2Proof.Machine.execBenchDrain bn s
  | .benchDrained bn => Sys2Proof.Machine.execBenchDrained bn s
  | .benchLoad bn => Sys2Proof.Machine.execBenchLoad bn s
  | .benchLoadComplete bn verified release => Sys2Proof.Machine.execBenchLoadComplete bn verified release s
  | .benchResume bn => Sys2Proof.Machine.execBenchResume bn s
  | .peakClear => Sys2Proof.Machine.execPeakClear s
  | .memRead cls addr len expectSeq eccs => Sys2Proof.Machine.execMemRead cls addr len expectSeq eccs s
  | .memWrite who addr data seq => Sys2Proof.Machine.execMemWrite who addr data seq s
  | .refresh pc issued => Sys2Proof.Machine.execRefresh pc issued s
  | .tempReading stack temp => Sys2Proof.Machine.execTempReading stack temp s
  | .recoveryStep pc outcome => Sys2Proof.Machine.execRecoveryStep pc outcome s
  | .scrubStep pc group overtaken ecc => Sys2Proof.Machine.execScrubStep pc group overtaken ecc s
  | .hbmRetrainRequest pc => Sys2Proof.Machine.execHbmRetrainRequest pc s
  | .hbmRetrainComplete pc ok => Sys2Proof.Machine.execHbmRetrainComplete pc ok s
  | .chanStart e k => Sys2Proof.Machine.execChanStart e k s
  | .chanRetry e k => Sys2Proof.Machine.execChanRetry e k s
  | .chanSkip e k => Sys2Proof.Machine.execChanSkip e k s
  | .chanAbort e k => Sys2Proof.Machine.execChanAbort e k s
  | .dmaPauseWrite e k on => Sys2Proof.Machine.execDmaPauseWrite e k on s
  | .dmaPaused e k => Sys2Proof.Machine.execDmaPaused e k s
  | .descFetch e k ecc => Sys2Proof.Machine.execDescFetch e k ecc s
  | .dmaAccessResponse e k answer => Sys2Proof.Machine.execDmaAccessResponse e k answer s
  | .descComplete e k => Sys2Proof.Machine.execDescComplete e k s
  | .progMove e k ecc => Sys2Proof.Machine.execProgMove e k ecc s
  | .progSet e k ecc => Sys2Proof.Machine.execProgSet e k ecc s
  | .progLoop e k ecc => Sys2Proof.Machine.execProgLoop e k ecc s
  | .progJump e k ecc => Sys2Proof.Machine.execProgJump e k ecc s
  | .progWaitEvent e k ecc => Sys2Proof.Machine.execProgWaitEvent e k ecc s
  | .progWaitWord e k ecc => Sys2Proof.Machine.execProgWaitWord e k ecc s
  | .progWaitPoll e k ecc => Sys2Proof.Machine.execProgWaitPoll e k ecc s
  | .progWaitRelease e k ecc => Sys2Proof.Machine.execProgWaitRelease e k ecc s
  | .progWaitTimeout e k => Sys2Proof.Machine.execProgWaitTimeout e k s
  | .progWrite e k ecc => Sys2Proof.Machine.execProgWrite e k ecc s
  | .progSignal e k ecc => Sys2Proof.Machine.execProgSignal e k ecc s
  | .progEnd e k ecc => Sys2Proof.Machine.execProgEnd e k ecc s
  | .portStall e k => Sys2Proof.Machine.execPortStall e k s
  | .noresp e k => Sys2Proof.Machine.execNoresp e k s
  | .laneEnable l on => Sys2Proof.Machine.execLaneEnable l on s
  | .receiverDetect l found => Sys2Proof.Machine.execReceiverDetect l found s
  | .gatherWindowEnd l eh ew eq => Sys2Proof.Machine.execGatherWindowEnd l eh ew eq s
  | .trainComplete l => Sys2Proof.Machine.execTrainComplete l s
  | .bitLock l => Sys2Proof.Machine.execBitLock l s
  | .blockLock l => Sys2Proof.Machine.execBlockLock l s
  | .capsExchange l caps => Sys2Proof.Machine.execCapsExchange l caps s
  | .capsSend l => Sys2Proof.Machine.execCapsSend l s
  | .laneStepTimeout l => Sys2Proof.Machine.execLaneStepTimeout l s
  | .autoRetrain l => Sys2Proof.Machine.execAutoRetrain l s
  | .headerWindow l invalid badBlocks => Sys2Proof.Machine.execHeaderWindow l invalid badBlocks s
  | .fomUpdate l eh ew => Sys2Proof.Machine.execFomUpdate l eh ew s
  | .adaptFreeze l => Sys2Proof.Machine.execAdaptFreeze l s
  | .adaptResume l => Sys2Proof.Machine.execAdaptResume l s
  | .fomLow l => Sys2Proof.Machine.execFomLow l s
  | .laneRetrainRequest l => Sys2Proof.Machine.execLaneRetrainRequest l s
  | .linkForm k => Sys2Proof.Machine.execLinkForm k s
  | .linkCtrlUp k => Sys2Proof.Machine.execLinkCtrlUp k s
  | .linkCtrlDown k => Sys2Proof.Machine.execLinkCtrlDown k s
  | .marker k skew => Sys2Proof.Machine.execMarker k skew s
  | .frameSend k st len mark eom => Sys2Proof.Machine.execFrameSend k st len mark eom s
  | .frameReceive k f tagOk => Sys2Proof.Machine.execFrameReceive k f tagOk s
  | .ack k seq => Sys2Proof.Machine.execAck k seq s
  | .nak k seq => Sys2Proof.Machine.execNak k seq s
  | .credit k st amount => Sys2Proof.Machine.execCredit k st amount s
  | .laneDrop k l => Sys2Proof.Machine.execLaneDrop k l s
  | .laneAdd k l => Sys2Proof.Machine.execLaneAdd k l s
  | .rateNotice l => Sys2Proof.Machine.execRateNotice l s
  | .replayTimeout k => Sys2Proof.Machine.execReplayTimeout k s
  | .creditGrant st => Sys2Proof.Machine.execCreditGrant st s
  | .streamOpen st key => Sys2Proof.Machine.execStreamOpen st key s
  | .streamReset st => Sys2Proof.Machine.execStreamReset st s
  | .ringConsumedWrite st value => Sys2Proof.Machine.execRingConsumedWrite st value s
  | .portModeWrite p mode => Sys2Proof.Machine.execPortModeWrite p mode s
  | .ethFrameRx p f => Sys2Proof.Machine.execEthFrameRx p f s
  | .portLinkDown p => Sys2Proof.Machine.execPortLinkDown p s
  | .ptpEventTx p m => Sys2Proof.Machine.execPtpEventTx p m s
  | .tsqEntryRead p => Sys2Proof.Machine.execTsqEntryRead p s
  | .syncLoss => Sys2Proof.Machine.execSyncLoss s
  | .rateSet rate => Sys2Proof.Machine.execRateSet rate s
  | .offsetAdjust amount => Sys2Proof.Machine.execOffsetAdjust amount s
  | .timeSet time => Sys2Proof.Machine.execTimeSet time s
  | .timeCopyRefresh unit => Sys2Proof.Machine.execTimeCopyRefresh unit s
  | .tpgEnable n on => Sys2Proof.Machine.execTpgEnable n on s
  | .tpgFire n => Sys2Proof.Machine.execTpgFire n s
  | .tpgPulseEnd n => Sys2Proof.Machine.execTpgPulseEnd n s
  | .selfTestRequest => Sys2Proof.Machine.execSelfTestRequest s
  | .selfTestComplete result smp => Sys2Proof.Machine.execSelfTestComplete result smp s
  | .entropyFail => Sys2Proof.Machine.execEntropyFail s
  | .zeroize value => Sys2Proof.Machine.execZeroize value s
  | .zeroizeN lowNs => Sys2Proof.Machine.execZeroizeN lowNs s
  | .groupKeyImport rec key smp => Sys2Proof.Machine.execGroupKeyImport rec key smp s
  | .codeKeyWrite slot key smp => Sys2Proof.Machine.execCodeKeyWrite slot key smp s
  | .roleAnchorWrite role key smp => Sys2Proof.Machine.execRoleAnchorWrite role key smp s
  | .fwImage len sigOk release rollback => Sys2Proof.Machine.execFwImage len sigOk release rollback s
  | .fwActiveSlotWrite slot smp => Sys2Proof.Machine.execFwActiveSlotWrite slot smp s
  | .fwAccept value smp => Sys2Proof.Machine.execFwAccept value smp s
  | .tmRestartRequest verified => Sys2Proof.Machine.execTmRestartRequest verified s
  | .debugUnlock scope sigOk => Sys2Proof.Machine.execDebugUnlock scope sigOk s
  | .slotZeroize slot => Sys2Proof.Machine.execSlotZeroize slot s
  | .pkgImage b epoch image => Sys2Proof.Machine.execPkgImage b epoch image s
  | .pkgStart b epoch => Sys2Proof.Machine.execPkgStart b epoch s
  | .pkgLoadComplete b sigOk key eccs => Sys2Proof.Machine.execPkgLoadComplete b sigOk key eccs s
  | .signRequest g node records payload smp => Sys2Proof.Machine.execSignRequest g node records payload smp s
  | .reserveRetry smp => Sys2Proof.Machine.execReserveRetry smp s
  | .rollStep b => Sys2Proof.Machine.execRollStep b s
  | .handover b codesEqual clear => Sys2Proof.Machine.execHandover b codesEqual clear s
  | .pathCalibrated b m => Sys2Proof.Machine.execPathCalibrated b m s
  | .handoverTimeout b => Sys2Proof.Machine.execHandoverTimeout b s
  | .rollPause b on => Sys2Proof.Machine.execRollPause b on s
  | .rollEnable b on => Sys2Proof.Machine.execRollEnable b on s
  | .manualTarget b target => Sys2Proof.Machine.execManualTarget b target s
  | .bayAssayRequest b => Sys2Proof.Machine.execBayAssayRequest b s
  | .bayAssayComplete b r smp => Sys2Proof.Machine.execBayAssayComplete b r smp s
  | .tmuAssay b => Sys2Proof.Machine.execTmuAssay b s
  | .purlinAssay => Sys2Proof.Machine.execPurlinAssay s
  | .assayWindow b temp => Sys2Proof.Machine.execAssayWindow b temp s
  | .ledgerCommit smp => Sys2Proof.Machine.execLedgerCommit smp s
  | .ledgerIntervalExpiry b => Sys2Proof.Machine.execLedgerIntervalExpiry b s
  | .ledgerRetry => Sys2Proof.Machine.execLedgerRetry s
  | .faultMessage unit smp => Sys2Proof.Machine.execFaultMessage unit smp s
  | .faultOverflow unit => Sys2Proof.Machine.execFaultOverflow unit s
  | .graceExpired unit kind inject => Sys2Proof.Machine.execGraceExpired unit kind inject s
  | .stepConfirm seq => Sys2Proof.Machine.execStepConfirm seq s
  | .stepUnconfirmed seq => Sys2Proof.Machine.execStepUnconfirmed seq s
  | .faultHandle seq => Sys2Proof.Machine.execFaultHandle seq s
  | .policyWrite kind entry => Sys2Proof.Machine.execPolicyWrite kind entry s
  | .injectGo => Sys2Proof.Machine.execInjectGo s
  | .faultLogNext => Sys2Proof.Machine.execFaultLogNext s
  | .faultLogRecord => Sys2Proof.Machine.execFaultLogRecord s
  | .keeperTimeRefresh => Sys2Proof.Machine.execKeeperTimeRefresh s
  | .archiveRetry smp => Sys2Proof.Machine.execArchiveRetry smp s
  | .eventLogNext => Sys2Proof.Machine.execEventLogNext s
  | .aliveToggle => Sys2Proof.Machine.execAliveToggle s
  | .watchdogWrite => Sys2Proof.Machine.execWatchdogWrite s
  | .watchdogExpiry => Sys2Proof.Machine.execWatchdogExpiry s
  | .heartbeatLoss => Sys2Proof.Machine.execHeartbeatLoss s
  | .temperatureAlarm die temp => Sys2Proof.Machine.execTemperatureAlarm die temp s
  | .keeperClock ppm => Sys2Proof.Machine.execKeeperClock ppm s
  | .safeHoldRequest path value => Sys2Proof.Machine.execSafeHoldRequest path value s
  | .safeHoldExitResume => Sys2Proof.Machine.execSafeHoldExitResume s
  | .safeHoldExitRestart => Sys2Proof.Machine.execSafeHoldExitRestart s
  | .resetStepRestart => Sys2Proof.Machine.execResetStepRestart s
  | .supplyValid n inOrder => Sys2Proof.Machine.execSupplyValid n inOrder s
  | .supplyTimeout n => Sys2Proof.Machine.execSupplyTimeout n s
  | .supplyFault n => Sys2Proof.Machine.execSupplyFault n s
  | .vauxLoss => Sys2Proof.Machine.execVauxLoss s
  | .vauxReturn => Sys2Proof.Machine.execVauxReturn s
  | .holdupDepleted => Sys2Proof.Machine.execHoldupDepleted s
  | .porstN lowNs => Sys2Proof.Machine.execPorstN lowNs s
  | .sysRstN lowNs => Sys2Proof.Machine.execSysRstN lowNs s
  | .startStageComplete r => Sys2Proof.Machine.execStartStageComplete r s
  | .refInDetect hz => Sys2Proof.Machine.execRefInDetect hz s
  | .startTimeout => Sys2Proof.Machine.execStartTimeout s
  | .holdupCheckRequest => Sys2Proof.Machine.execHoldupCheckRequest s
  | .holdupIntervalExpiry => Sys2Proof.Machine.execHoldupIntervalExpiry s
  | .holdupCheckComplete smp => Sys2Proof.Machine.execHoldupCheckComplete smp s
  | .holdupRecheck => Sys2Proof.Machine.execHoldupRecheck s
  | .switchoverRequest => Sys2Proof.Machine.execSwitchoverRequest s
  | .standbyLoaded verified => Sys2Proof.Machine.execStandbyLoaded verified s
  | .controlCoreFault core => Sys2Proof.Machine.execControlCoreFault core s
  | .switchoverTakeover => Sys2Proof.Machine.execSwitchoverTakeover s
  | .standbyRestart => Sys2Proof.Machine.execStandbyRestart s
  | .jtagInstruction idx => Sys2Proof.Machine.execJtagInstruction idx s
  | .partnerTraining l => Sys2Proof.Machine.execPartnerTraining l s
  | .portLinkUp p => Sys2Proof.Machine.execPortLinkUp p s
  | .refInFault absent offFrequency => Sys2Proof.Machine.execRefInFault absent offFrequency s
  | .tclkRelock b => Sys2Proof.Machine.execTclkRelock b s
  | .refWarmChange level => Sys2Proof.Machine.execRefWarmChange level s
  | .scopeSample b cmph cmpl => Sys2Proof.Machine.execScopeSample b cmph cmpl s
  | .pmuRangeWrite c epoch range => Sys2Proof.Machine.execPmuRangeWrite c epoch range s
  | .tmuAssayComplete b residual => Sys2Proof.Machine.execTmuAssayComplete b residual s
  | .purlinAssayComplete hopsPs => Sys2Proof.Machine.execPurlinAssayComplete hopsPs s
  | .fwProgramComplete cut => Sys2Proof.Machine.execFwProgramComplete cut s

end Sys2Proof.Machine
end

