-- ==== Sys2Proof/Machine/Step.lean ====
section
/-! DEFINITION. One step of the module: the command at the front of its queue, or, on an empty queue, one unit of the
network-time counter (log 2). -/

namespace Sys2Proof.Machine

/-- The module with no command waiting: 0.25 ns pass (log 2), and the memory goes on with the requests that wait (R279). -/
def State.idle (s : State) : State := ({ s with now := s.now + 250 } : State).memTick

/-- One step: the front command on the state whose queue is the rest; on an empty queue the module idles. -/
def step (s : State) : Host.Outcome State Fault Refusal :=
  match s.pending with
  | [] => .next s.idle
  | c :: rest => exec c { s with pending := rest }

/-- A word's command in front of the queue; no row of the table has bits, so no word spells one. (Log 1.) -/
def State.withFetchWord (s : State) (nbits w : Nat) : State :=
  match decodeTableWord nbits w with
  | some c => { s with pending := c :: s.pending }
  | none => s

end Sys2Proof.Machine
end

