-- ==== Sys2Proof/Safety.lean ====
section
/-! DEFINITION. The terms the statements use: what a command's next state holds, what a run of the module keeps, and what a
command leaves unchanged. -/

namespace Sys2Proof.Machine

/-- The command answers a next state, and that state has the property. -/
def Gives (c : Instr) (s : State) (P : State → Prop) : Prop := ∃ t, exec c s = .next t ∧ P t

/-- Every outcome of a command that is a next state has the property. -/
def Always (c : Instr) (s : State) (P : State → Prop) : Prop := ∀ t, exec c s = .next t → P t

/-! ### What every step keeps -/

/-- A session within its limits: 256 records in its event queue (R369), 64 replies kept (R363) and 8 requests waiting
(R362). -/
def Session.bounded (x : Session) : Prop := x.queue.length ≤ 256 ∧ x.replies.length ≤ 64 ∧ x.waits.length ≤ 8

/-- The queues and logs stand within the sizes the spec gives them: the event log's 65,536 records (R438), the fault log's
1,536 (R424), a fault port's 16 messages (R422), and every session's limits. -/
structure Bounded (s : State) : Prop where
  events   : s.events.length ≤ 65536
  log      : s.log.length ≤ 1536
  ports    : ∀ e ∈ s.ports, e.2.length ≤ 16
  sessions : ∀ (i : Fin 16) (x : Session), s.sessions.get i = some x → x.bounded

/-- What every step keeps: the memory stands in its canonical form, and the queues and logs within their sizes. -/
def Inv (s : State) : Prop := Memory.wf s.mem = true ∧ Bounded s

/-! ### The parts of the state, and which a command may change -/

/-- The parts of the state beside the queue of commands. -/
inductive Part where
  | answer | clock | free | objects | domains | stores | memory | tags | claims | lines | keys | touchmark | flash |
  bays | pins | faultPorts | faultLog | eventLog | sessions | commits | time | holdup | graphs | dma | lanes | hbm |
  ledger | assay | keeper | cores | drops
  deriving DecidableEq, Repr

/-- A part is the same in two states. -/
def Part.same (p : Part) (s t : State) : Prop :=
  match p with
  | .answer => t.reply = s.reply
  | .clock => t.now = s.now
  | .free => t.fresh = s.fresh
  | .objects => t.objs = s.objs
  | .domains => t.doms = s.doms
  | .stores => (t.shingles, t.bank, t.tsets) = (s.shingles, s.bank, s.tsets)
  | .memory => t.mem = s.mem
  | .tags => t.tags = s.tags
  | .claims => t.claims = s.claims
  | .lines => (t.ridge, t.ridgeDrv, t.ridgeWay, t.purlin, t.trigOut) = (s.ridge, s.ridgeDrv, s.ridgeWay, s.purlin, s.trigOut)
  | .keys => (t.keys, t.groupKey, t.tmKey) = (s.keys, s.groupKey, s.tmKey)
  | .touchmark => (t.tmPort, t.tmTest, t.nonces, t.tmFirst, t.tmRetry) = (s.tmPort, s.tmTest, s.nonces, s.tmFirst, s.tmRetry)
  | .flash => (t.fwSlots, t.fwLoad, t.fwRollback) = (s.fwSlots, s.fwLoad, s.fwRollback)
  | .bays => t.bays = s.bays
  | .pins => (t.chans, t.dies) = (s.chans, s.dies)
  | .faultPorts => (t.ports, t.portLost, t.fatal) = (s.ports, s.portLost, s.fatal)
  | .faultLog => (t.log, t.timers, t.tokens, t.injSlots, t.injNext, t.archived, t.archRetry) = (s.log, s.timers, s.tokens, s.injSlots, s.injNext, s.archived, s.archRetry)
  | .eventLog => t.events = s.events
  | .sessions => (t.sessions, t.dataPorts, t.mgmtLast) = (s.sessions, s.dataPorts, s.mgmtLast)
  | .commits => (t.shadows, t.commit) = (s.shadows, s.commit)
  | .time => (t.counterOn, t.copies, t.nets, t.syncOk, t.tpgs, t.keeperRef) = (s.counterOn, s.copies, s.nets, s.syncOk, s.tpgs, s.keeperRef)
  | .holdup => (t.holdupOk, t.checking, t.checkDue, t.recheck) = (s.holdupOk, s.checking, s.checkDue, s.recheck)
  | .graphs => (t.benches, t.store, t.waiting, t.blocked, t.delays, t.hostPosts, t.postEnds, t.binds, t.bufs, t.inst, t.lastCore, t.drains, t.lastFired, t.fireNo, t.delayNo, t.oldTick) = (s.benches, s.store, s.waiting, s.blocked, s.delays, s.hostPosts, s.postEnds, s.binds, s.bufs, s.inst, s.lastCore, s.drains, s.lastFired, s.fireNo, s.delayNo, s.oldTick)
  | .dma => (t.dmas, t.dmaLast, t.dmaPosts) = (s.dmas, s.dmaLast, s.dmaPosts)
  | .lanes => (t.lanes, t.links, t.streams) = (s.lanes, s.links, s.streams)
  | .hbm => (t.ceSince, t.recovery, t.catchAt, t.scrubbed, t.hbmQ) = (s.ceSince, s.recovery, s.catchAt, s.scrubbed, s.hbmQ)
  | .ledger => (t.ledger, t.ledgerOld, t.ledgerDoms, t.ledgerCorr) = (s.ledger, s.ledgerOld, s.ledgerDoms, s.ledgerCorr)
  | .assay => (t.ledgerQ, t.ledgerHeld, t.ledgerDue, t.assayed) = (s.ledgerQ, s.ledgerHeld, s.ledgerDue, s.assayed)
  | .keeper => (t.keeperAt, t.keeperOff, t.aliveHigh, t.aliveFreq, t.aliveAt, t.watchdog, t.wdArmed, t.vauxAt, t.tap, t.temps, t.beat, t.resetDue, t.startRef) = (s.keeperAt, s.keeperOff, s.aliveHigh, s.aliveFreq, s.aliveAt, s.watchdog, s.wdArmed, s.vauxAt, s.tap, s.temps, s.beat, s.resetDue, s.startRef)
  | .cores => (t.coreOut, t.switchTo) = (s.coreOut, s.switchTo)
  | .drops => t.dropped = s.dropped

/-- Nothing has changed but the parts listed. -/
def OnlyParts (s t : State) (l : List Part) : Prop := ∀ p, p ∉ l → p.same s t

/-! ### When a host command is carried out (R14, R38, R373) -/

/-- The module is OPERATIONAL, the bay's island is clocked, and the message carries the bay's epoch (R14, R38, R373). -/
abbrev Ready (s : State) (b : Bay) (epoch : BitVec 16) : Prop :=
  s.operational = true ∧ s.bayDown b = false ∧ epoch.toNat = s.getB b RBay.SITE_EPOCH

/-- A state request reaches its bay: the bay is ready, and no site change holds its state (R38, R472). -/
abbrev Asked (s : State) (b : Bay) (epoch : BitVec 16) : Prop := Ready s b epoch ∧ (s.bay b).holding = none

/-- A claim or a release of a resource is carried out: the module is OPERATIONAL, a control core is active, and at a bay's
resource the bay's island is clocked and the message carries the bay's epoch (R14, R22, R38, R373). -/
abbrev ClaimReady (s : State) (r : Resource) (epoch : BitVec 16) : Prop :=
  s.operational = true ∧ s.coreOut = false ∧
  ∀ b, claimBay r = some b → s.bayDown b = false ∧ epoch.toNat = s.getB b RBay.SITE_EPOCH

/-- A host command reaches a bay's TMU island: the module is OPERATIONAL, TCLK is locked, and the message carries the bay's epoch
(R14, R38, R235). -/
abbrev TmuReady (s : State) (b : Bay) (epoch : BitVec 16) : Prop :=
  s.operational = true ∧ s.locked (24 + b.val) = true ∧ epoch.toNat = s.getB b RBay.SITE_EPOCH

/-- The source and the edge that a route of a TMU has: the objects' in IDLE, else those latched at arming (R217, R224). -/
def State.hitRoute (s : State) (b : Bay) (r : Fin 2) : Nat × Nat :=
  if s.tmuState b = TS.IDLE then (s.getB b (RBay.ROUTE_SOURCE + r.val), s.getB b (RBay.ROUTE_EDGE + r.val))
  else if r = 0 then ((s.tmu b).cfg.src0, (s.tmu b).cfg.edge0) else ((s.tmu b).cfg.src1, (s.tmu b).cfg.edge1)

/-- An edge on a route is a hit of its TMU: TCLK is locked, the route serves the TMU, and the edge has the route's polarity (R217,
R220). -/
abbrev Hits (s : State) (b : Bay) (r : Fin 2) (rising : Bool) : Prop :=
  s.locked (24 + b.val) = true ∧ s.routeServes b r (s.hitRoute b r).1 = true ∧
  ((s.hitRoute b r).2 = 0 → rising = true) ∧ ((s.hitRoute b r).2 = 1 → rising = false)

/-! ### Microcode (R88 to R93) -/

/-- A customer word executes in a bay, in a cycle of its own: vectors are issued in RUN, no pad granule runs, and no
decision's extra cycle is open (R90, R92). -/
abbrev Customer (s : State) (b : Bay) : Prop :=
  s.executing b = true ∧ (s.bay b).extra = none ∧ (s.bay b).cust = true

/-! ### Frames -/

/-- No scalar object but those listed has changed. -/
def OnlyObjs (s t : State) (ks : List Nat) : Prop := ∀ k, k ∉ ks → t.getO k = s.getO k

/-- The scalar objects that an occurrence of an event may change: its source's and the event log's counts (R438). -/
def eventObj (k : Nat) : Bool :=
  (decide (0xC40000 ≤ k) && decide (k < 0xCC0000)) || k == R.EVENT_LOG_LOST || k == R.EVENT_LOG_COUNT

/-- No scalar object has changed but those listed and those an event's occurrence changes. -/
def OnlyObjsEv (s t : State) (ks : List Nat) : Prop := ∀ k, k ∉ ks → eventObj k = false → t.getO k = s.getO k

/-- Nothing has changed but the answer. -/
def OnlyAnswer (s t : State) : Prop := t = { s with reply := t.reply }

/-- Nothing has changed but scalar objects and the answer. -/
def ObjFrame (s t : State) : Prop := t = { s with objs := t.objs, reply := t.reply }

/-- Nothing has changed but scalar objects, the answer, and what an event or a fault message touches: the sessions' event
queues, the event log, the fault ports and the count of free values. -/
def ReportFrame (s t : State) : Prop :=
  t = { s with objs := t.objs, reply := t.reply, fresh := t.fresh, sessions := t.sessions, events := t.events, ports := t.ports,
               portLost := t.portLost, fatal := t.fatal }

/-- Nothing has changed but one bay's own state, scalar objects, the answer, and what an event or a fault message touches. -/
def BayFrame (b : Bay) (s t : State) : Prop :=
  t = { s with objs := t.objs, reply := t.reply, fresh := t.fresh, sessions := t.sessions, events := t.events, ports := t.ports,
               portLost := t.portLost, fatal := t.fatal, bays := t.bays } ∧
  ∀ c : Bay, c ≠ b → t.bay c = s.bay c

/-- Nothing has changed but one channel's own state, scalar objects, the answer, and what an event or a fault message
touches. -/
def ChanFrame (c : Chan) (s t : State) : Prop :=
  t = { s with objs := t.objs, reply := t.reply, fresh := t.fresh, sessions := t.sessions, events := t.events, ports := t.ports,
               portLost := t.portLost, fatal := t.fatal, chans := t.chans } ∧
  ∀ d : Chan, d ≠ c → t.chan d = s.chan d

/-- Nothing has changed but one lane's own state, scalar objects, the answer, and what an event or a fault message touches. -/
def LaneFrame (l : Lane) (s t : State) : Prop :=
  t = { s with objs := t.objs, reply := t.reply, fresh := t.fresh, sessions := t.sessions, events := t.events, ports := t.ports,
               portLost := t.portLost, fatal := t.fatal, lanes := t.lanes } ∧
  ∀ m : Lane, m ≠ l → t.lane m = s.lane m

/-- No byte of memory has changed but those of a range. -/
def OnlyBytes (s t : State) (a n : Nat) : Prop := ∀ x, x < a ∨ a + n ≤ x → memGet t.mem x = memGet s.mem x

/-- An address outside every frame slot of a stream's buffer (R192). -/
def OffSlots (s : State) (b : Bay) (m : Fin 5) (x : Nat) : Prop :=
  ∀ k, k < max 1 (s.frames b m) → x < s.frameAddr b m k ∨ s.frameAddr b m k + 4096 ≤ x

/-- A frame of a stream has closed (R192, R211, R212): WRITE_FRAME and the frame's number have advanced; its slot holds it where
memory takes it, and it is counted in LOST_FRAMES otherwise.  The frame with unit 0 also sets FIRST in the slots before it (R204). -/
structure Closed (s t : State) (b : Bay) (m : Fin 5) (f : CapFrame) (written : Bool) : Prop where
  next  : t.getCap b m RCap.WRITE_FRAME = (s.getCap b m RCap.WRITE_FRAME + 1) % 2 ^ 64
  seq   : (t.cap b m).seq = (s.cap b m).seq + 1
  lost  : s.frameTaken b m (s.frameAddr b m ((s.cap b m).seq % max 1 (s.frames b m))) written = false →
    t.getCap b m RCap.LOST_FRAMES = satAdd 32 (s.getCap b m RCap.LOST_FRAMES) 1 ∧ (f.trigIn = false → t.mem = s.mem)
  taken : s.frameTaken b m (s.frameAddr b m ((s.cap b m).seq % max 1 (s.frames b m))) written = true →
    t.getCap b m RCap.LOST_FRAMES = s.getCap b m RCap.LOST_FRAMES ∧
    (f.trigIn = false → OnlyBytes s t (s.frameAddr b m ((s.cap b m).seq % max 1 (s.frames b m))) 4096)
  slots : ∀ x, OffSlots s b m x → memGet t.mem x = memGet s.mem x

/-- Nothing waits in the scheduler for a slot: no complete firing, no output and no host post (R249, R254, R256). -/
def Settled (s : State) : Prop := s.waiting = [] ∧ s.blocked = [] ∧ s.hostPosts = []

/-- The scalar objects that follow the scheduler's store, queues and lists, and the graphs' POOL_FREE (R267). -/
def schedObj (k : Nat) : Bool :=
  k == R.STORE_USED || k == R.STORE_PEAK || k == R.PENDING_ITEMS || (List.range 12).any (fun n => k == keyBench n RBench.READY_DEPTH) ||
  (List.range 4).any (fun i => k == R.LIST_USED + i) || (List.range 64).any (fun g => k == keyG g RGraph.POOL_FREE)

/-- What a program's instruction finds: CUR_DESC names it, and the check of its read is counted (R270, R304). -/
def State.fetchedBy (s : State) (e : Engine) (k : Fin 2) (ecc : Ecc) : State :=
  let a := s.progAddr e (progChan k)
  let s := s.setD e (progChan k) RDma.CUR_DESC a
  if windowOf a = 1 then s.checkBlock a ecc else s

/-- A read of a block of the data space has its check counted (R270). -/
def State.readChecked (s : State) (a : Nat) (ecc : Ecc) : State := if windowOf a = 1 then s.checkBlock a ecc else s

/-- An engine serves a program channel that runs, between two instructions, and the present one, which can be read with the check
result given, is `i`, a legal instruction with opcode `op` (R270, R304). -/
structure AtInstr (s : State) (e : Engine) (k : Fin 2) (ecc : Ecc) (op i : Nat) : Prop where
  serves : s.serves_ e (progChan k) = true
  runs   : s.chState e (progChan k) = CH.RUNNING
  free   : (s.dma e (progChan k)).desc = none ∧ (s.dma e (progChan k)).fetch = false
  pc     : (s.dma e (progChan k)).pc < 4096
  reads  : s.readAnswer (s.progAddr e (progChan k)) 16 = MR.OK
  good   : windowOf (s.progAddr e (progChan k)) = 1 → ecc ≠ .uncorrectable
  word   : ofBytes (memRead s.mem (s.progAddr e (progChan k)) 16) = i
  opcode : fieldOf i 0 8 = op
  legal  : 1 ≤ op ∧ op ≤ 9 ∧ fieldOf i 10 6 = 0 ∧ fieldOf i 96 32 = 0

/-- A channel has halted with an error and its address (R309). -/
def Halted (s t : State) (e : Engine) (k : Fin 8) (err addr : Nat) : Prop :=
  t.chState e k = CH.HALTED ∧ t.getD e k RDma.ERROR = err ∧ t.getD e k RDma.ERROR_ADDR = addr ∧
  t.getO (keyEng e REng.HALTS) = satAdd 32 (s.getO (keyEng e REng.HALTS)) 1

/-- Control has passed to a word of a bay: UPC names it, a new execution begins, and of the module's state beside the
bay's own and UPC nothing has changed (R88, R91). -/
def Enters (b : Bay) (a : Nat) (s t : State) : Prop :=
  t.getB b RBay.UPC = a ∧ (t.bay b).wordCyc = 0 ∧ (t.bay b).acted = 0 ∧ (t.bay b).extra = none ∧ (t.bay b).matchOn = none ∧ (t.bay b).prdSel = none ∧
  OnlyObjs s t [keyB b RBay.UPC] ∧ BayFrame b s t

/-! ### Requests of a session (R359 to R363) -/

/-- The session and the REQUEST_ID of a request message. -/
def requestOf : Instr → Option (Fin 16 × Nat)
  | .hello i r .. => some (i, r)
  | .read i r .. => some (i, r)
  | .write i r .. => some (i, r)
  | .maskedWrite i r .. => some (i, r)
  | .blockRead i r .. => some (i, r)
  | .blockWrite i r .. => some (i, r)
  | .stage i r .. => some (i, r)
  | .stageDiscard i r .. => some (i, r)
  | .commit i r .. => some (i, r)
  | _ => none

/-- A session is open, and a request with an ID that it has not kept, that does not wait and does not run arrives at it; no
WRITE waits to go on (R254, R363). -/
structure New (s : State) (i : Fin 16) (x : Session) (req : Nat) : Prop where
  posts : s.postEnds = []
  isOpen : s.session i = some x
  kept  : x.replies.find? (fun p => p.1 == req) = none
  idle  : x.running ≠ some req
  waits : x.waits.any (fun w => requestId w == some req) = false

/-- Such a request starts at once: nothing of its session runs, HELLO is done, and the protocol version knows its type (R359,
R360, R362). -/
structure Starts (s : State) (i : Fin 16) (x : Session) (c : Instr) (req : Nat) : Prop where
  fresh : New s i x req
  free  : x.running = none
  hello : x.hello = true
  knows : typeSince c ≤ x.proto

/-- The state as a request of a session has arrived: its idle time runs anew (R358). -/
def State.heard (s : State) (i : Fin 16) : State := s.modSession i (fun x => { x with last := s.now })

/-- A request has been answered, and its reply is kept among the session's last 64 (R363). -/
def Replied (s t : State) (i : Fin 16) (x : Session) (req : Nat) (r : Reply) : Prop :=
  t.reply = r ∧ t.session i = some { x with
    last := s.now, running := none, held := none, replies := lastN 64 (x.replies ++ [(req, r)]) }

/-- Nothing has changed but one session and the answer. -/
def SessionFrame (i : Fin 16) (s t : State) : Prop :=
  t = { s with reply := t.reply, sessions := t.sessions } ∧ ∀ j : Fin 16, j ≠ i → t.session j = s.session j

/-- The module is OPERATIONAL and a control core runs, so that firmware-served requests are served (R373, R454). -/
abbrev Served (s : State) : Prop := s.operational = true ∧ s.coreOut = false


/-! ### The collector (R422 to R431) -/

/-- A message whose kind and severity fit their fields (R420). -/
abbrev FaultMsg.legal (m : FaultMsg) : Prop := m.kind < 256 ∧ m.severity ≤ 3

/-- The keeper runs, no FATAL message waits, and a message waits first at a unit's fault port; it holds no injection slot
(R422, R430). -/
structure AtPort (s : State) (u : BitVec 12) (m : FaultMsg) (q : List FaultMsg) : Prop where
  runs  : s.keeperOff = false
  calm  : s.fatal = []
  first : s.ports.get u.toNat [] = m :: q
  slot  : m.slot = none

/-- The record that a message is merged into: of its key, and opened less than MERGE_WINDOW ago (R424). -/
def State.mergesInto (s : State) (m : FaultMsg) : Option FaultRec :=
  s.log.reverse.find? (fun r => sameKey r.msg m && decide (s.now - r.opened < s.getO R.MERGE_WINDOW * 1000000))

/-- The record that a message opens (R424, R425). -/
def State.newRec (s : State) (m : FaultMsg) : FaultRec :=
  { msg := m, time := s.keeperTime, seq := s.getO R.LOG_SEQ_NEXT, repeats := 1, step := 0, handled := false, expired := false,
    timeFree := (match s.keeperRef with
      | some t => decide (t + 10000000000 < s.now)
      | none => true),
    unconfirmed := false, skipped := false, lastTime := s.keeperTime, opened := s.now }

/-- Whether a unit's fault port has room for one more message (R422). -/
abbrev State.roomAt (s : State) (u : Nat) : Prop := (s.ports.get u []).length < 16

/-- A unit's fault port holds one message more, at its end, and nothing else has changed but the objects listed (R422). -/
def Queued (s t : State) (m : FaultMsg) (ks : List Nat) : Prop :=
  t.ports = s.ports.set m.unit (s.ports.get m.unit [] ++ [m]) ∧ OnlyObjs s t ks ∧ t = { s with objs := t.objs, ports := t.ports }

/-! ### What each command may touch -/

/-- Every part of the state. -/
def Part.all : List Part :=
  [.answer, .clock, .free, .objects, .domains, .stores, .memory, .tags, .claims, .lines, .keys, .touchmark, .flash, .bays,
  .pins, .faultPorts, .faultLog, .eventLog, .sessions, .commits, .time, .holdup, .graphs, .dma, .lanes, .hbm, .ledger,
  .assay, .keeper, .cores, .drops]
/-- The parts of the state that a command may change; a write by message, a reset, or a word of a graph's own may reach any. -/
def touched : Instr → List Part
  | .sessionOpen .. => [.objects, .sessions]
  | .sessionClose .. => [.objects, .sessions, .commits]
  | .sessionIdleTimeout .. => [.clock, .objects, .sessions, .commits]
  | .hello .. | .read .. | .write .. | .maskedWrite .. | .blockRead .. | .blockWrite .. | .stage ..
  | .stageDiscard .. | .commit .. | .commitApply .. | .commitWindowExpiry .. | .dataSubscribe .. | .dataAck ..
  | .mgmtWrite .. | .registerWrite .. | .internalObjectRequest .. | .graphDrainComplete .. | .gatherWindowEnd ..
  | .safeHoldExitRestart .. | .resetStepRestart .. | .porstN .. | .sysRstN .. => Part.all
  | .blockWriteAbandon .. => [.clock, .sessions]
  | .eventSend .. => [.answer, .sessions]
  | .eventHoldExpiry .. | .supplyTimeout .. => [.clock]
  | .dataEventResend .. | .mgmtStatus .. | .faultLogRecord .. => [.answer]
  | .mgmtRead .. => [.answer, .free, .objects, .bays, .time]
  | .stateRequestOff .. => [.answer, .free, .objects, .claims, .lines, .bays, .pins, .eventLog, .sessions]
  | .stateRequestSafe .. => [.answer, .free, .objects, .stores, .claims, .keys, .bays, .pins, .eventLog, .sessions]
  | .stateRequestIdle .. => [.answer, .free, .objects, .lines, .bays, .pins, .eventLog, .sessions]
  | .stateRequestMaint .. => [.answer, .free, .objects, .claims, .lines, .bays, .eventLog, .sessions]
  | .stateRequestPause .. | .stateRequestRun .. | .stateRequestArm .. | .stateRequestStop .. | .jumpRequest ..
  | .underrunLogClear .. | .bankImage .. | .trigForce .. | .trigRearm .. | .tmuArmRequest .. | .tmuDisarmRequest ..
  | .fifoClear .. => [.answer, .free, .objects, .bays, .eventLog, .sessions]
  | .stateRequestDisarm .. => [.answer, .free, .objects, .lines, .bays, .eventLog, .sessions]
  | .armFillComplete .. | .laneFedArmReady .. =>
    [.free, .objects, .memory, .tags, .lines, .keys, .bays, .pins, .faultPorts, .eventLog, .sessions]
  | .hostStart .. => [.answer, .free, .objects, .bays, .pins, .faultPorts, .eventLog, .sessions, .drops]
  | .patternEnd .. => [.free, .objects, .lines, .bays, .pins, .eventLog, .sessions]
  | .bclkChange .. | .resourceRelease .. => [.answer, .free, .objects, .claims, .bays, .eventLog, .sessions]
  | .pllRelock .. => [.objects, .bays, .faultPorts]
  | .clockUnlock .. => [.objects, .bays, .pins, .faultPorts, .eventLog, .sessions]
  | .quadRetire .. => [.objects, .lines, .bays, .pins]
  | .resourceClaim .. => [.answer, .free, .objects, .claims, .eventLog, .sessions]
  | .shingleEntryWrite .. | .tableBlockWrite .. | .tsetWrite .. => [.answer, .free, .objects, .stores, .eventLog, .sessions]
  | .condJump .. | .underrunEnd .. | .prdSel .. | .matchEnable .. | .shgPause .. | .shgStop .. | .capMark ..
  | .retire .. | .retireFailed .. | .loadTimer .. | .sphPermit .. | .sphInhibit .. | .tmuAssay .. | .scopeSample .. =>
    [.bays]
  | .granuleBoundary .. | .vecEmit .. | .vecPad .. | .vecHold .. | .vecMute .. =>
    [.free, .objects, .lines, .bays, .pins, .faultPorts, .eventLog, .sessions]
  | .decisionBoundary .. | .captureOn .. | .raise .. | .triggerRecognised .. =>
    [.free, .objects, .bays, .eventLog, .sessions]
  | .shingleBoundary .. | .converterSlot .. => [.free, .objects, .bays, .pins, .faultPorts, .eventLog, .sessions]
  | .loftFill .. => [.free, .objects, .bays, .faultPorts, .eventLog, .sessions, .hbm]
  | .seqJump .. | .seqIf .. | .seqIfnot .. | .seqCall .. | .seqCallIf .. | .seqReturn .. | .seqExit ..
  | .seqDispatch .. | .waitRelease .. | .waitTimeout .. | .shgRewind .. | .customWatchdog ..
  | .tmuCalibrationDone .. | .tmuRefLost .. => [.free, .objects, .bays, .faultPorts, .eventLog, .sessions]
  | .lvlSel .. | .shgJumpReq .. | .cntDec .. | .cntInc .. | .cntDecVec .. | .cntIncVec .. | .cntLoad ..
  | .cntLoadParam .. | .cntReload .. | .cntClear .. | .captureOff .. | .objWrite .. | .blankStart ..
  | .vendorReload .. | .triggerArmed .. | .tmuRepeat .. | .tclkRelock .. => [.objects, .bays]
  | .loadNow .. => [.objects, .bays, .pins]
  | .blankEnd .. | .strobeLatch .. => [.free, .objects, .bays, .pins, .eventLog, .sessions]
  | .tmuMwArm .. => [.free, .objects, .bays, .eventLog, .sessions, .drops]
  | .tmuMwDisarm .. => [.objects, .bays, .drops]
  | .ridgeAssert .. | .ridgeRelease .. | .ridgePulse .. => [.lines, .bays]
  | .bankLoadComplete .. => [.answer, .free, .objects, .stores, .bays]
  | .customEntryWrite .. | .lvlSelect .. | .levelSetWrite .. | .pmuModeWrite .. | .consumedFrameWrite ..
  | .pmuRangeWrite .. => [.answer, .free, .objects, .eventLog, .sessions]
  | .driveEdge .. | .assayWindow .. => [.free, .objects, .pins, .eventLog, .sessions]
  | .ridgeEvent .. | .purlinEvent .. => [.free, .objects, .lines, .bays, .pins, .faultPorts, .eventLog, .sessions, .drops]
  | .trigEdge .. => [.free, .objects, .bays, .pins, .faultPorts, .eventLog, .sessions, .drops]
  | .loadRequest .. => [.answer, .free, .objects, .bays, .pins, .eventLog, .sessions]
  | .guardThresholdWrite .. | .tripClear .. | .measStart .. => [.answer, .free, .objects, .pins, .eventLog, .sessions]
  | .clearCodeWrite .. => [.answer, .free, .objects, .pins, .faultPorts, .eventLog, .sessions, .holdup, .ledger]
  | .clearAssert .. => [.objects, .claims, .bays, .pins, .faultPorts]
  | .clearRelease .. | .guardUntrip .. | .guardResolve .. => [.objects, .pins]
  | .guardTrip .. => [.objects, .pins, .faultPorts]
  | .guardTripReport .. => [.free, .objects, .pins, .faultPorts, .eventLog, .sessions, .drops]
  | .blankExpiry .. => [.clock, .free, .objects, .bays, .pins, .eventLog, .sessions]
  | .loadTimerExpiry .. => [.clock, .objects, .bays, .pins]
  | .controlLinkLost .. | .portLinkDown .. | .keeperClock .. | .supplyFault .. | .vauxLoss .. | .refInFault .. =>
    [.objects, .faultPorts]
  | .measDone .. | .benchDrained .. | .refresh .. | .adaptFreeze .. | .credit .. | .creditGrant .. | .refInDetect ..
  | .portLinkUp .. => [.objects]
  | .frameClose .. | .windowDone .. => [.free, .objects, .memory, .tags, .bays, .faultPorts, .eventLog, .sessions]
  | .channelEdge .. => [.free, .objects, .bays, .pins, .eventLog, .sessions, .drops]
  | .tmuHit .. | .tmuTimeout .. => [.clock, .free, .objects, .bays, .eventLog, .sessions]
  | .tmuGateExpiry .. => [.clock, .bays]
  | .resultRead .. | .resultBlockRead .. | .rollPause .. | .bayAssayRequest .. => [.answer, .objects, .bays]
  | .tokenArrival .. | .post .. | .workDispatch .. => [.answer, .objects, .faultPorts, .graphs]
  | .bindingPost .. => [.answer, .objects, .faultPorts, .eventLog, .sessions, .graphs, .dma]
  | .hostPostTimeout .. => [.answer, .clock, .graphs]
  | .workComplete .. | .coreFault .. => [.answer, .objects, .faultPorts, .eventLog, .sessions, .graphs]
  | .workLimit .. => [.answer, .clock, .objects, .faultPorts, .eventLog, .sessions, .graphs]
  | .delayEntryExpiry .. => [.answer, .clock, .free, .objects, .bays, .faultPorts, .eventLog, .sessions, .time, .graphs]
  | .storeDeadlock .. => [.answer, .clock, .objects, .faultPorts, .graphs]
  | .startRequest .. | .stopRequest .. | .benchResume .. => [.answer, .objects, .graphs]
  | .benchDrain .. | .benchLoad .. | .benchLoadComplete .. | .peakClear .. | .hbmRetrainRequest ..
  | .ringConsumedWrite .. | .rateSet .. | .purlinAssay .. | .policyWrite .. | .faultLogNext .. | .eventLogNext .. =>
    [.answer, .objects]
  | .memRead .. | .memWrite .. => [.answer, .free, .objects, .memory, .tags, .faultPorts, .eventLog, .sessions, .hbm]
  | .tempReading .. => [.objects, .hbm]
  | .recoveryStep .. => [.clock, .objects, .faultPorts, .hbm]
  | .scrubStep .. => [.free, .objects, .faultPorts, .eventLog, .sessions, .hbm]
  | .hbmRetrainComplete .. => [.objects, .faultPorts, .hbm]
  | .chanStart .. | .chanAbort .. | .dmaPauseWrite .. => [.answer, .objects, .dma]
  | .chanRetry .. | .chanSkip .. => [.answer, .objects, .faultPorts, .eventLog, .sessions, .dma]
  | .dmaPaused .. => [.objects, .dma]
  | .descFetch .. | .progMove .. | .progSet .. | .progLoop .. | .progJump .. | .progWaitEvent .. | .progWaitWord ..
  | .progWaitPoll .. | .progWaitRelease .. | .progSignal .. | .progEnd .. =>
    [.free, .objects, .faultPorts, .eventLog, .sessions, .dma, .hbm]
  | .dmaAccessResponse .. =>
    [.free, .objects, .memory, .tags, .touchmark, .faultPorts, .eventLog, .sessions, .dma, .lanes, .hbm]
  | .descComplete .. | .noresp .. => [.objects, .faultPorts, .eventLog, .sessions, .dma]
  | .progWaitTimeout .. | .portStall .. => [.clock, .objects, .faultPorts, .eventLog, .sessions, .dma]
  | .progWrite .. => [.free, .objects, .memory, .tags, .faultPorts, .eventLog, .sessions, .dma, .hbm]
  | .laneEnable .. | .laneRetrainRequest .. => [.answer, .free, .objects, .keys, .bays, .eventLog, .sessions, .lanes]
  | .receiverDetect .. | .trainComplete .. | .bitLock .. | .blockLock .. | .capsExchange .. | .capsSend ..
  | .autoRetrain .. | .headerWindow .. | .partnerTraining .. => [.free, .objects, .keys, .bays, .eventLog, .sessions, .lanes]
  | .laneStepTimeout .. => [.free, .objects, .keys, .bays, .faultPorts, .eventLog, .sessions, .lanes]
  | .fomUpdate .. => [.free, .objects, .domains, .eventLog, .sessions, .lanes]
  | .adaptResume .. => [.objects, .lanes]
  | .fomLow .. => [.clock, .free, .objects, .keys, .bays, .eventLog, .sessions, .lanes]
  | .linkForm .. => [.clock, .objects, .keys, .bays, .lanes]
  | .linkCtrlUp .. | .streamOpen .. => [.answer, .objects, .lanes]
  | .linkCtrlDown .. | .streamReset .. => [.answer, .objects, .keys, .bays, .lanes]
  | .marker .. | .frameSend .. | .laneDrop .. => [.objects, .keys, .bays, .lanes]
  | .frameReceive .. => [.objects, .memory, .tags, .bays, .lanes]
  | .ack .. | .laneAdd .. | .rateNotice .. => [.lanes]
  | .nak .. | .replayTimeout .. => [.objects, .keys, .bays, .faultPorts, .lanes]
  | .portModeWrite .. | .tsqEntryRead .. | .tpgEnable .. => [.answer, .objects, .time]
  | .ethFrameRx .. | .ptpEventTx .. | .syncLoss .. => [.objects, .time]
  | .offsetAdjust .. | .timeSet .. =>
    [.answer, .free, .objects, .lines, .bays, .pins, .faultPorts, .eventLog, .sessions, .time, .drops]
  | .timeCopyRefresh .. | .keeperTimeRefresh .. => [.time]
  | .tpgFire .. => [.clock, .free, .objects, .lines, .bays, .pins, .faultPorts, .eventLog, .sessions, .time, .drops]
  | .tpgPulseEnd .. => [.clock, .lines, .time]
  | .selfTestRequest .. => [.answer, .objects, .touchmark]
  | .selfTestComplete .. =>
    [.answer, .free, .objects, .stores, .claims, .lines, .keys, .touchmark, .bays, .pins, .faultPorts, .eventLog,
    .sessions, .commits, .holdup, .lanes]
  | .entropyFail .. =>
    [.free, .objects, .stores, .claims, .lines, .keys, .touchmark, .bays, .pins, .faultPorts, .eventLog, .sessions,
    .commits, .lanes]
  | .zeroize .. =>
    [.answer, .free, .objects, .domains, .stores, .claims, .lines, .keys, .touchmark, .bays, .pins, .faultPorts,
    .eventLog, .sessions, .lanes]
  | .zeroizeN .. =>
    [.free, .objects, .domains, .stores, .claims, .lines, .keys, .touchmark, .bays, .pins, .faultPorts, .eventLog,
    .sessions, .lanes]
  | .groupKeyImport .. => [.answer, .objects, .keys, .faultPorts, .eventLog, .sessions, .holdup]
  | .codeKeyWrite .. => [.answer, .objects, .domains, .faultPorts, .eventLog, .sessions, .holdup]
  | .roleAnchorWrite .. => [.answer, .free, .objects, .domains, .keys, .faultPorts, .eventLog, .sessions, .holdup]
  | .fwImage .. => [.answer, .objects, .flash]
  | .fwActiveSlotWrite .. | .fwAccept .. => [.answer, .objects, .faultPorts, .eventLog, .sessions, .holdup]
  | .tmRestartRequest .. => [.answer, .objects, .keys, .touchmark, .bays, .lanes]
  | .debugUnlock .. => [.answer, .objects, .keys, .touchmark]
  | .slotZeroize .. => [.answer, .objects, .keys]
  | .pkgImage .. | .pkgStart .. => [.answer, .free, .objects, .keys, .bays, .eventLog, .sessions]
  | .pkgLoadComplete .. =>
    [.answer, .free, .objects, .domains, .stores, .memory, .tags, .keys, .bays, .faultPorts, .eventLog, .sessions, .hbm]
  | .signRequest .. => [.answer, .objects, .touchmark, .faultPorts, .eventLog, .sessions, .holdup]
  | .reserveRetry .. => [.answer, .clock, .objects, .touchmark, .faultPorts, .eventLog, .sessions, .holdup]
  | .rollStep .. | .handoverTimeout .. => [.clock, .objects, .claims, .bays]
  | .handover .. | .pathCalibrated .. => [.objects, .claims, .bays, .faultPorts]
  | .rollEnable .. | .manualTarget .. => [.answer, .objects, .claims, .bays]
  | .bayAssayComplete .. =>
    [.answer, .free, .objects, .bays, .pins, .faultPorts, .eventLog, .sessions, .holdup, .ledger, .assay]
  | .ledgerCommit .. => [.answer, .free, .objects, .bays, .faultPorts, .eventLog, .sessions, .holdup, .ledger, .assay]
  | .ledgerIntervalExpiry .. | .ledgerRetry .. => [.clock, .assay]
  | .faultMessage .. =>
    [.answer, .free, .objects, .stores, .claims, .lines, .keys, .bays, .pins, .faultPorts, .faultLog, .eventLog,
    .sessions, .holdup, .keeper, .drops]
  | .faultOverflow .. => [.faultPorts]
  | .graceExpired .. =>
    [.clock, .free, .objects, .stores, .claims, .lines, .keys, .bays, .pins, .faultLog, .eventLog, .sessions, .keeper,
    .drops]
  | .stepConfirm .. => [.faultLog]
  | .stepUnconfirmed .. => [.clock, .faultLog]
  | .faultHandle .. => [.answer, .objects, .faultLog]
  | .injectGo .. => [.answer, .faultPorts, .faultLog]
  | .archiveRetry .. => [.answer, .clock, .objects, .faultPorts, .faultLog, .eventLog, .sessions, .holdup]
  | .aliveToggle .. => [.clock, .objects, .keeper]
  | .watchdogWrite .. | .vauxReturn .. => [.objects, .keeper]
  | .watchdogExpiry .. => [.clock, .objects, .faultPorts, .keeper]
  | .heartbeatLoss .. | .temperatureAlarm .. => [.faultPorts, .keeper]
  | .safeHoldRequest .. =>
    [.answer, .free, .objects, .stores, .claims, .lines, .keys, .bays, .pins, .faultPorts, .eventLog, .sessions]
  | .safeHoldExitResume .. => [.answer, .objects, .keys, .touchmark, .bays, .pins, .eventLog, .sessions, .lanes, .keeper]
  | .supplyValid .. => [.objects, .claims, .bays, .pins, .keeper]
  | .holdupDepleted .. | .jtagInstruction .. => [.keeper]
  | .startStageComplete .. =>
    [.answer, .free, .objects, .domains, .stores, .claims, .lines, .keys, .touchmark, .flash, .bays, .pins, .faultPorts,
    .eventLog, .sessions, .commits, .time, .holdup, .lanes, .hbm, .keeper, .cores]
  | .startTimeout .. => [.clock, .objects]
  | .holdupCheckRequest .. => [.answer, .holdup]
  | .holdupIntervalExpiry .. | .holdupRecheck .. => [.clock, .holdup]
  | .holdupCheckComplete .. => [.objects, .faultPorts, .holdup]
  | .switchoverRequest .. => [.answer, .objects, .cores]
  | .standbyLoaded .. => [.objects, .sessions, .commits, .keeper, .cores]
  | .controlCoreFault .. => [.objects, .faultPorts, .sessions, .commits, .keeper, .cores]
  | .switchoverTakeover .. => [.objects, .flash, .eventLog, .sessions, .cores]
  | .standbyRestart .. => [.objects, .cores]
  | .refWarmChange .. => [.objects, .bays, .eventLog, .sessions]
  | .tmuAssayComplete .. => [.free, .objects, .bays]
  | .purlinAssayComplete .. => [.free, .objects, .faultPorts]
  | .fwProgramComplete .. => [.objects, .flash]

/-- The commands that may change a bay's state: state requests, arming and starts, boundaries and ends, line events that start a
site, resets, the reactions to faults, start-up, and whatever carries a write of STATE_REQUEST (R34). -/
def movesBays : Instr → Bool
  | .hello .. | .read .. | .write .. | .maskedWrite .. | .blockRead .. | .blockWrite .. | .stage .. | .stageDiscard ..
  | .commit .. | .commitApply .. | .commitWindowExpiry .. | .dataSubscribe .. | .dataAck .. | .mgmtWrite ..
  | .registerWrite .. | .stateRequestOff .. | .stateRequestSafe .. | .stateRequestIdle .. | .stateRequestMaint ..
  | .stateRequestDisarm .. | .armFillComplete .. | .laneFedArmReady .. | .hostStart .. | .patternEnd ..
  | .granuleBoundary .. | .ridgeEvent .. | .purlinEvent .. | .trigEdge .. | .internalObjectRequest ..
  | .graphDrainComplete .. | .gatherWindowEnd .. | .offsetAdjust .. | .timeSet .. | .tpgFire .. | .selfTestComplete ..
  | .entropyFail .. | .zeroize .. | .zeroizeN .. | .faultMessage .. | .graceExpired .. | .safeHoldRequest ..
  | .safeHoldExitRestart .. | .resetStepRestart .. | .porstN .. | .sysRstN .. | .startStageComplete .. => true
  | _ => false

/-- The bay whose microword a command is a field, a branch or a wait of (R88 to R110); the pad vector also fills granules that
no word issues, and is no such command. -/
def wordBay : Instr → Option Bay
  | .seqJump b _ | .seqIf b _ | .seqIfnot b _ | .seqCall b _ | .seqCallIf b _ | .seqReturn b _ | .seqExit b _
  | .seqDispatch b _ | .waitRelease b _ | .waitTimeout b _ | .vecEmit b | .vecHold b | .vecMute b | .prdSel b | .lvlSel b
  | .matchEnable b | .shgJumpReq b | .shgPause b | .shgStop b | .shgRewind b | .cntDec b _ | .cntInc b _ | .cntDecVec b _
  | .cntIncVec b _ | .cntLoad b _ | .cntLoadParam b _ | .cntReload b _ | .cntClear b _ | .captureOn b | .captureOff b
  | .capMark b | .retire b | .retireFailed b | .objWrite b | .raise b | .loadNow b | .loadTimer b | .blankStart b
  | .blankEnd b | .tmuMwArm b | .tmuMwDisarm b | .ridgeAssert b _ | .ridgeRelease b _ | .ridgePulse b _ | .sphPermit b
  | .sphInhibit b | .customWatchdog b => some b
  | _ => none

/-- A sequencing error of a bay's microword has happened: its bit of MICRO_FLAGS, every site of the bay INVALID, the report to the
bay's fault unit, and the end of the pattern (R64). -/
structure SeqError (b : Bay) (flag : Nat) (s t : State) : Prop where
  flags   : t.getB b RBay.MICRO_FLAGS = orBit (s.getB b RBay.MICRO_FLAGS) flag
  sites   : ∀ i, s.memberOf b i = true → (t.getS i RSite.SITE_STATUS).testBit SS.INVALID = true
  reports : (t.ports, t.portLost, t.fatal) =
    ((s.fault (0x100 + b.val) 0x21 (flag + 256)).ports, (s.fault (0x100 + b.val) 0x21 (flag + 256)).portLost, s.fatal)
  ends    : (t.bay b).ending = true

end Sys2Proof.Machine
end

