-- ==== Sys2Proof/Certificates/Slice0/Obligations.lean ====
section
/-! DEFINITION. The statements about the module: per family of commands what each one does and where it completes, what each
leaves unchanged, and what every step keeps. -/

open Sys2Proof Sys2Proof.Machine

/-- R34, R35, R36: what each state request does where it is allowed. -/
def Obligations.BayStateRequests : Prop :=
  (∀ s b e, Asked s b e → s.bst b = BS.SAFE →
    Gives (.stateRequestOff b e) s (fun t => t.reply = {} ∧ t.bst b = BS.OFF)) ∧
  (∀ s b e, Asked s b e →
    Gives (.stateRequestSafe b e) s (fun t => t.reply = {} ∧ t.bst b = BS.SAFE)) ∧
  (∀ s b e, Asked s b e → s.bst b = BS.SAFE → s.holdupOk = true → (s.bay b).fine = true →
    Gives (.stateRequestIdle b e) s (fun t => t.reply = {} ∧ t.bst b = BS.IDLE)) ∧
  (∀ s b e, Asked s b e → s.bst b = BS.IDLE →
    Gives (.stateRequestMaint b e) s (fun t => t.reply = {} ∧ t.bst b = BS.MAINT)) ∧
  (∀ s b e, Asked s b e → s.bst b = BS.RUN →
    Gives (.stateRequestPause b e) s (fun t => t.reply = {} ∧ t.bay b = { s.bay b with pauseReq := true } ∧
      OnlyObjs s t [] ∧ BayFrame b s t)) ∧
  (∀ s b e, Asked s b e → s.bst b = BS.PAUSE →
    Gives (.stateRequestRun b e) s (fun t => t.reply = {} ∧ t.bay b = { s.bay b with resumeReq := true } ∧
      OnlyObjs s t [] ∧ BayFrame b s t)) ∧
  (∀ s b e, Asked s b e → s.bst b = BS.RUN ∨ s.bst b = BS.PAUSE →
    Gives (.stateRequestStop b e) s (fun t => t.reply = {} ∧ t.bay b = { s.bay b with stopReq := true } ∧
      OnlyObjs s t [] ∧ BayFrame b s t)) ∧
  (∀ s b e, Asked s b e → s.bst b = BS.ARMED →
    Gives (.stateRequestDisarm b e) s (fun t => t.reply = {} ∧ t.bst b = BS.IDLE))

/-- R34, R35, R70, R76, R31, R66, R27: arming, its fill, starts, the end of a pattern and retiring quads. -/
def Obligations.ArmingFillsAndRuns : Prop :=
  (∀ s b e, Asked s b e → s.bst b = BS.IDLE → (s.bay b).arming = 0 → (s.armShow b).armFail b = none →
    Gives (.stateRequestArm b e) s (fun t => t.reply = {} ∧ t.getB b RBay.ARM_STATUS = 0 ∧ t.bst b = BS.IDLE ∧
      (t.bay b).arming ≠ 0 ∧ (t.bay b).snapshot = s.mem)) ∧
  (∀ s b e f, Asked s b e → s.bst b = BS.IDLE → (s.bay b).arming = 0 → (s.armShow b).armFail b = some f →
    Gives (.stateRequestArm b e) s (fun t => t.reply = { status := f.dop, detail := f.detail } ∧
      t.getB b RBay.ARM_STATUS = f.arm ∧ t.bst b = BS.IDLE)) ∧
  (∀ s b bad, s.bst b = BS.IDLE → (s.bay b).arming = 1 → (s.bay b).holding = none → s.clockOk b = true →
    Gives (.armFillComplete b bad) s (fun t => t.bst b = BS.ARMED)) ∧
  (∀ s b bad u, s.bst b = BS.IDLE → (s.bay b).arming = 2 → (s.bay b).holding = none → s.clockOk b = true →
    u = (s.residentErrors b bad).fillRing b bad 16384 → (u.ringFull b = true ∨ 1024 ≤ (u.bay b).ring.length) →
    Gives (.laneFedArmReady b bad) s (fun t => t.bst b = BS.ARMED)) ∧
  (∀ s b bad, s.bst b = BS.IDLE → (s.bay b).arming = 1 ∨ (s.bay b).arming = 2 → (s.bay b).holding = none → s.clockOk b = false →
    Gives (if (s.bay b).arming = 1 then .armFillComplete b bad else .laneFedArmReady b bad) s (fun t =>
      t.getB b RBay.ARM_STATUS = AS.CLOCK ∧ t.bst b = BS.IDLE ∧ (t.bay b).arming = 0)) ∧
  (∀ s b bad, (s.bay b).holding ≠ none →
    Gives (.armFillComplete b bad) s (fun t => t = s) ∧ Gives (.laneFedArmReady b bad) s (fun t => t = s)) ∧
  (∀ s i b l e, Ready s b e → (s.bay b).holding = none → s.siteKind i = 1 ∨ s.siteKind i = 2 → s.members i = b :: l → s.bst b = BS.ARMED →
    Gives (.hostStart i e) s (fun t => t.reply = {} ∧ t.bst b = BS.RUN)) ∧
  (∀ s i b l e, Ready s b e → (s.bay b).holding = none → s.siteKind i = 1 ∨ s.siteKind i = 2 → s.members i = b :: l → s.bst b = BS.PAUSE →
    Gives (.hostStart i e) s (fun t => t.reply = {} ∧ t.bay b = { s.bay b with resumeReq := true } ∧ OnlyObjs s t [] ∧ BayFrame b s t)) ∧
  (∀ s b, s.running b = true → (s.bay b).ending = true → s.landed b = true →
    Gives (.patternEnd b) s (fun t => t.bst b = BS.IDLE)) ∧
  (∀ s b (q : Fin 4) n, s.running b = true → (s.bay b).granOpen = false → (s.bay b).retiring = [(2 ^ q.val, n)] →
    n + 4 ≤ (s.bay b).cyc → s.retired b q.val = false →
    Gives (.quadRetire b 0) s (fun t => t.getB b RBay.QUADS_RETIRED = orBit (s.getB b RBay.QUADS_RETIRED) q.val ∧ (t.bay b).retiring = [])) ∧
  (∀ s b host, s.running b = true → s.bayDown b = false → s.atGranule b = false → host ≠ 0 →
    Gives (.quadRetire b host) s (fun t => OnlyObjs s t [] ∧ BayFrame b s t ∧ t.bay b = { s.bay b with
      retiring := (s.bay b).retiring ++ [(host.toNat, if (s.bay b).cycDone then (s.bay b).cyc - 1 else (s.bay b).cyc)] }))

/-- R46, R47: claims and releases of exclusive resources. -/
def Obligations.ClaimsAndReleases : Prop :=
  (∀ s r e (f : BitVec 8) (o : BitVec 12), ClaimReady s r e → (claimFeatures r).contains f.toNat = true →
    (s.claim r = none ∨ ∃ g, s.claim r = some ⟨o.toNat, g⟩) →
    Gives (.resourceClaim r e f o) s (fun t => t.reply = {} ∧ t.claim r = some ⟨o.toNat, f.toNat⟩ ∧
      t.getO (claimKey r) = o.toNat + f.toNat * 2 ^ 12 ∧ OnlyObjs s t [claimKey r] ∧
      t = { s with objs := t.objs, claims := t.claims, reply := t.reply })) ∧
  (∀ s r e (f : BitVec 8) (o : BitVec 12) p g, ClaimReady s r e → (claimFeatures r).contains f.toNat = true →
    s.claim r = some ⟨p, g⟩ → p ≠ o.toNat →
    Gives (.resourceClaim r e f o) s (fun t =>
      t.reply = { status := ST.RESOURCE_CLAIMED, detail := p * 2 ^ 32 + g * 2 ^ 44 } ∧ OnlyAnswer s t)) ∧
  (∀ s r e, ClaimReady s r e → r ≠ .timeShared → (∀ b, r ≠ .sparePath b) →
    Gives (.resourceRelease r e) s (fun t => t.reply = {} ∧ t.claim r = none ∧ t.getO (claimKey r) = 0 ∧
      OnlyObjs s t [claimKey r] ∧ t = { s with objs := t.objs, claims := t.claims, reply := t.reply })) ∧
  (∀ s r e f o, s.operational = true → s.coreOut = true →
    Gives (.resourceClaim r e f o) s (fun t => t.reply = { status := ST.STATE_LOCKED } ∧ OnlyAnswer s t) ∧
    Gives (.resourceRelease r e) s (fun t => t.reply = { status := ST.STATE_LOCKED } ∧ OnlyAnswer s t)) ∧
  (∀ s r b (e : BitVec 16) f o, s.operational = true → s.coreOut = false → claimBay r = some b → s.bayDown b = false →
    e.toNat ≠ s.getB b RBay.SITE_EPOCH →
    Gives (.resourceClaim r e f o) s (fun t => t.reply = { status := ST.STALE_EPOCH, detail := s.getB b RBay.SITE_EPOCH * 2 ^ 16 } ∧
      t.getB b RBay.STALE_COUNT = satAdd 32 (s.getB b RBay.STALE_COUNT) 1 ∧ OnlyObjsEv s t [keyB b RBay.STALE_COUNT] ∧ ReportFrame s t))

/-- R29, R30, R102: events of the ridge, the purlin and the TRIG lands. -/
def Obligations.LineEventsReachTheModule : Prop :=
  (∀ s (n : Fin 32) v, s.ridgeComes n v = true →
    Gives (.ridgeEvent n v) s (fun t => t.ridge = putBit s.ridge n.val v ∧ t.ridgeWay = s.ridgeWay.erase (n.val, v))) ∧
  (∀ s i, s.siteKind i = 4 → (∀ b, b ∈ s.members i → s.bayDown b = false) →
    Gives (.purlinEvent i (.siteFail false)) s (fun t =>
      t = { s with purlin := s.purlin.set i.val (putBit (s.purlin.get i.val 0) 0 false) })) ∧
  (∀ s i, s.siteKind i = 4 →
    Gives (.purlinEvent i (.siteFail true)) s (fun t =>
      t.purlin = s.purlin.set i.val (putBit (s.purlin.get i.val 0) 0 true) ∧
      (∀ b, b ∈ s.members i → s.bayDown b = false → s.running b = true → (s.bay b).frozen = none → s.getB b RBay.STOP_ON_FAIL = 1 →
        (s.bay b).lastInfo.sofd = false →
        (t.bay b).frozen = some (s.bay b).cyc ∧ t.getB b RBay.STOPPED_ON_FAIL = 1) ∧
      (∀ b, s.bayDown b = true ∨ b ∉ s.members i → t.bay b = s.bay b))) ∧
  (∀ s i v, s.siteKind i = 4 → (∀ b, b ∈ s.members i → s.bayDown b = false) →
    Gives (.purlinEvent i (.siteMatch v)) s (fun t =>
      t = { s with purlin := s.purlin.set i.val (putBit (s.purlin.get i.val 0) 1 v) })) ∧
  (∀ s i, s.siteKind i = 4 →
    Gives (.purlinEvent i .stop) s (fun t =>
      (∀ b, b ∈ s.members i → s.bayDown b = false → s.running b = true → (t.bay b).stopReq = true) ∧
      (∀ b, s.bayDown b = true → t.bay b = s.bay b) ∧ OnlyParts s t [.bays, .drops])) ∧
  (∀ s i b, s.siteKind i = 4 → s.members i = [b] → s.bayDown b = true →
    Gives (.purlinEvent i .stop) s (fun t => t = s.dropEvent b.val)) ∧
  (∀ s (n : Fin 8) r, (∀ i, s.siteKind i = 0) → s.claimedFor (.trig n) 0x05 = false →
    Gives (.trigEdge n r) s (fun t => (∀ b, s.bayDown b = false → (t.bay b).latched = orBit (s.bay b).latched (0x40 + n.val)) ∧
      OnlyParts s t [.bays, .drops]))

/-- R50, R52, R473, R62, R63, R83: writes of the shingle table, jump requests and the underrun log. -/
def Obligations.TableWritesAndJumpRequests : Prop :=
  (∀ s b e w, Ready s b e → s.coreOut = false → s.quiet b = true → s.entryError b w.toNat = none →
    Gives (.shingleEntryWrite b e w) s (fun t => t.reply = {} ∧ t.entry b (s.getB b RBay.TABLE_INDEX) = w.toNat ∧
      (∀ k, k ≠ entryKey b (s.getB b RBay.TABLE_INDEX) → t.shingles.get k 0 = s.shingles.get k 0) ∧
      t = { s with shingles := t.shingles, reply := t.reply })) ∧
  (∀ s b e w i, Ready s b e → s.coreOut = false → s.quiet b = true → s.entryError b w.toNat = some i →
    Gives (.shingleEntryWrite b e w) s (fun t => t.reply = { status := ST.OUT_OF_RANGE } ∧
      t.getB b RBay.ENTRY_ERROR = s.getB b RBay.TABLE_INDEX + i * 2 ^ 16 ∧ OnlyObjs s t [keyB b RBay.ENTRY_ERROR] ∧ ObjFrame s t)) ∧
  (∀ s b e w, Ready s b e → s.quiet b = false ∨ s.coreOut = true →
    Gives (.shingleEntryWrite b e w) s (fun t => t.reply = { status := ST.STATE_LOCKED } ∧ OnlyAnswer s t)) ∧
  (∀ s b e (d : Bytes), Ready s b e → s.coreOut = true →
    Gives (.tableBlockWrite b e d) s (fun t => t.reply = { status := ST.STATE_LOCKED } ∧ OnlyAnswer s t)) ∧
  (∀ s b e (d : Bytes) n, Ready s b e → s.coreOut = false → s.quiet b = true → d.length = 32 * n → 1 ≤ n → n ≤ 256 →
    s.getB b RBay.TABLE_INDEX + n ≤ 8192 → (∀ j, j < n → s.entryError b (ofBytes (slice d (32 * j) 32)) = none) →
    Gives (.tableBlockWrite b e d) s (fun t => t.reply = {} ∧
      (∀ j, j < n → t.shingles.get (entryKey b (s.getB b RBay.TABLE_INDEX + j)) 0 = BitVec.ofNat 256 (ofBytes (slice d (32 * j) 32))) ∧
      (∀ k, (k < entryKey b (s.getB b RBay.TABLE_INDEX) ∨ entryKey b (s.getB b RBay.TABLE_INDEX) + n ≤ k) →
        t.shingles.get k 0 = s.shingles.get k 0) ∧
      t = { s with shingles := t.shingles, reply := t.reply })) ∧
  (∀ s b e (w : BitVec 16), Ready s b e → s.running b = true → s.jumpable b w.toNat = true →
    Gives (.jumpRequest b e w) s (fun t => t.reply = {} ∧ BayFrame b s t ∧ OnlyObjs s t [] ∧ t.bay b = { s.bay b with
      usable := (s.bay b).usable ++ [{ rank := 0, target := w.toNat, late := (s.bay b).decided.isSome || s.atDecision b }] })) ∧
  (∀ s b e (w : BitVec 16), Ready s b e → s.running b = true → s.jumpable b w.toNat = false →
    Gives (.jumpRequest b e w) s (fun t => t.reply = { status := ST.OUT_OF_RANGE } ∧ OnlyAnswer s t)) ∧
  (∀ s b e w, Ready s b e → s.running b = false →
    Gives (.jumpRequest b e w) s (fun t => t.reply = { status := ST.STATE_LOCKED } ∧ OnlyAnswer s t)) ∧
  (∀ s b, (s.getB b RBay.COND_JUMP).testBit 31 = true → s.running b = true → s.cond b (s.getB b RBay.COND_JUMP % 256) = true →
    Gives (.condJump b) s (fun t => BayFrame b s t ∧ OnlyObjs s t [] ∧ t.bay b = { s.bay b with
      usable := (s.bay b).usable ++ [{ rank := 2, target := fieldOf (s.getB b RBay.COND_JUMP) 8 13, late := (s.bay b).decided.isSome || s.atDecision b }] })) ∧
  (∀ s b e, Ready s b e →
    Gives (.underrunLogClear b e) s (fun t => t.reply = {} ∧ BayFrame b s t ∧ OnlyObjs s t [] ∧ t.bay b = { s.bay b with underLog := [] }))

/-- R58 to R60, R64, R66, R70, R72, R77, R79, R81: granule, decision and shingle boundaries, the fetch, and the end of an underrun. -/
def Obligations.SequencingBoundaries : Prop :=
  (∀ s b bad again, s.issuing b = true → (s.bay b).granOpen = false → (s.bay b).rowNext < 8 * entLen (s.curEntry b) → (s.bay b).stopReq = true →
    (s.bay b).retiring = [] →
    Gives (.granuleBoundary b bad again) s (fun t => (t.bay b).ending = true ∧ (t.bay b).granOpen = false ∧ (t.bay b).under = none ∧
      (t.bay b).usable = [] ∧ BayFrame b s t ∧ OnlyObjs s t [keyB b RBay.SEQ_FLAGS, keyB b RBay.JUMP_DROP_COUNT])) ∧
  (∀ s b bad again, s.issuing b = true → (s.bay b).granOpen = false → (s.bay b).rowNext < 8 * entLen (s.curEntry b) → (s.bay b).stopReq = false →
    (s.bay b).retiring = [] → s.getB b RBay.QUADS_RETIRED ≠ 15 → s.bst b = BS.RUN → (s.bay b).pauseReq = true →
    Gives (.granuleBoundary b bad again) s (fun t => t.bst b = BS.PAUSE ∧ (t.bay b).granOpen = true ∧ (t.bay b).padGran = true)) ∧
  (∀ s b again, s.issuing b = true → (s.bay b).granOpen = false → (s.bay b).rowNext < 8 * entLen (s.curEntry b) → (s.bay b).stopReq = false →
    (s.bay b).retiring = [] → s.getB b RBay.QUADS_RETIRED ≠ 15 → s.bst b = BS.RUN → (s.bay b).pauseReq = false →
    isResident (s.curEntry b) ((s.bay b).rowNext / 8) = true → (s.bay b).badBlocks = [] →
    Gives (.granuleBoundary b false again) s (fun t => (t.bay b).granOpen = true ∧ (t.bay b).padGran = false ∧ (t.bay b).granRows = 0 ∧
      (t.bay b).rows = s.residentRows b (s.curEntry b) ((s.bay b).rowNext / 8) ∧ (t.bay b).usable = [] ∧ (t.bay b).under = none)) ∧
  (∀ s b again, s.issuing b = true → (s.bay b).granOpen = false → (s.bay b).rowNext < 8 * entLen (s.curEntry b) → (s.bay b).stopReq = false →
    (s.bay b).retiring = [] → s.getB b RBay.QUADS_RETIRED ≠ 15 → s.bst b = BS.RUN → (s.bay b).pauseReq = false →
    isResident (s.curEntry b) ((s.bay b).rowNext / 8) = true → s.getB b RBay.ABORT_ON_UNDERRUN = 0 → s.lockstep b = false →
    Gives (.granuleBoundary b true again) s (fun t => (t.bay b).granOpen = true ∧ (t.bay b).padGran = true ∧ (t.bay b).granBad = true ∧
      (t.bay b).badBlocks = (entStart (s.curEntry b) + (s.bay b).rowNext / 8 * s.rowWidth b / 64 * 64) :: (s.bay b).badBlocks)) ∧
  (∀ s b, s.atDecision b = true →
    Gives (.decisionBoundary b) s (fun t => (t.bay b).decided = some (s.decision b).2)) ∧
  (∀ s b, s.passOver b = true → (s.bay b).decided = some .again →
    Gives (.shingleBoundary b) s (fun t => t.getB b RBay.CURRENT_PASS = s.getB b RBay.CURRENT_PASS + 1 ∧
      t.getB b RBay.CURRENT_GRANULE = 0 ∧ (t.bay b).rowNext = 0 ∧ (t.bay b).decided = none ∧ BayFrame b s t ∧
      OnlyObjs s t [keyB b RBay.CURRENT_PASS, keyB b RBay.CURRENT_GRANULE])) ∧
  (∀ s b n, s.passOver b = true → (s.bay b).decided = some (.enter n) → entValid (s.entry b n) = true → entType (s.entry b n) = 0 →
    entLvl (s.entry b n) = entLvl (s.curEntry b) →
    Gives (.shingleBoundary b) s (fun t => t.getB b RBay.CURRENT_ENTRY = n ∧ t.getB b RBay.CURRENT_TAG = entTag (s.entry b n) ∧
      t.getB b RBay.CURRENT_PASS = 1 ∧ t.getB b RBay.CURRENT_GRANULE = 0 ∧ (t.bay b).rowNext = 0 ∧ (t.bay b).decided = none ∧
      (t.bay b).visit = (s.bay b).visit + 1 ∧ BayFrame b s t)) ∧
  (∀ s b n, s.passOver b = true → (s.bay b).decided = some (.enter n) → entValid (s.entry b n) = true → entType (s.entry b n) ≠ 0 →
    (s.getB b (RBay.CUSTOM_ENTRY + (entType (s.entry b n) - 1))).testBit 31 = false →
    Gives (.shingleBoundary b) s (fun t => t.getB b RBay.MICRO_FLAGS = orBit (s.getB b RBay.MICRO_FLAGS) 8 ∧ (t.bay b).ending = true)) ∧
  (∀ s b, s.passOver b = true → (s.bay b).decided = some .endPattern →
    Gives (.shingleBoundary b) s (fun t => (t.bay b).ending = true ∧ OnlyObjs s t [] ∧ BayFrame b s t)) ∧
  (∀ s b p bad again, s.running b = true → s.rowWidth b ≠ 0 → (s.bay b).fetch = some p → entResid (s.entry b p.entry) ≠ 3 →
    s.slotFor .pattern (s.nextBlock b) 64 = true →
    s.tagBad (s.entry b p.entry) (entStart (s.entry b p.entry) + p.gran * s.rowWidth b / 64 * 64) = false →
    min (min (entLen (s.entry b p.entry) - p.gran) ((64 - p.gran * s.rowWidth b % 64) / s.rowWidth b))
      (s.getB b RBay.RING_BYTES / s.rowWidth b - (s.bay b).ring.length) = 1 →
    Gives (.loftFill b bad again) s (fun t => (t.bay b).fetch = (s.nextFetch b p).1 ∧
      (t.bay b).ring = (s.bay b).ring ++ [⟨p, blockRows (s.rowWidth b) (s.fetchBlock (s.entry b p.entry) (p.gran * s.rowWidth b / 64))
        (p.gran * s.rowWidth b % 64), bad && again⟩])) ∧
  (∀ s b bad again, s.slotFor .pattern (s.nextBlock b) 64 = false → Gives (.loftFill b bad again) s (fun t => t = s)) ∧
  (∀ s b rows r, s.loftTake b = .ok rows → s.running b = true → (s.bay b).granOpen = false → (s.bay b).under = some r →
    Gives (.underrunEnd b) s (fun t => BayFrame b s t ∧ OnlyObjs s t [] ∧
      t.bay b = { s.bay b with under := none, underLog := lastN 15 (s.bay b).underLog ++ [underBytes r] }))

/-- R88 to R90, R95, R96, R102, R106, R107: what comes after a word. -/
def Obligations.WordSequence : Prop :=
  (∀ s b, Customer s b → s.wordCycle b = true → uwSeq (s.word b) = 0 → uwWait (s.word b) = false → (s.bay b).badWords.contains (uwNext (s.word b)) = false → (s.bay b).softWords.contains (uwNext (s.word b)) = false →
    Gives (.seqJump b .clean) s (fun t => Enters b (uwNext (s.word b)) s t ∧ (t.bay b).ustack = (s.bay b).ustack)) ∧
  (∀ s b a, Customer s b → s.wordCycle b = true → uwSeq (s.word b) = 1 → uwWait (s.word b) = false → inCounterGroup (uwCond (s.word b)) = true →
    s.getB b RBay.UPC ≠ 0x3FFF → a = (if s.cond b (uwCond (s.word b)) then uwNext (s.word b) else s.getB b RBay.UPC + 1) →
    (s.bay b).badWords.contains a = false → (s.bay b).softWords.contains a = false →
    Gives (.seqIf b .clean) s (fun t => Enters b a s t ∧ (t.bay b).ustack = (s.bay b).ustack)) ∧
  (∀ s b a, Customer s b → s.wordCycle b = true → uwSeq (s.word b) = 2 → uwWait (s.word b) = false → inCounterGroup (uwCond (s.word b)) = true →
    s.getB b RBay.UPC ≠ 0x3FFF → a = (if s.cond b (uwCond (s.word b)) then s.getB b RBay.UPC + 1 else uwNext (s.word b)) →
    (s.bay b).badWords.contains a = false → (s.bay b).softWords.contains a = false →
    Gives (.seqIfnot b .clean) s (fun t => Enters b a s t ∧ (t.bay b).ustack = (s.bay b).ustack)) ∧
  (∀ s b e, Customer s b → s.wordCycle b = true → uwSeq (s.word b) = 1 → uwWait (s.word b) = false → 2 ≤ uwCond (s.word b) → uwCond (s.word b) < 0x10 →
    ((s.bay b).conds.getD 2 0).testBit (uwCond (s.word b)) = true →
    Gives (.seqIf b e) s (fun t => t.bay b = { s.bay b with extra := some (uwNext (s.word b), e) } ∧ OnlyObjs s t [] ∧ BayFrame b s t)) ∧
  (∀ s b, Customer s b → s.wordCycle b = true → uwSeq (s.word b) = 3 → uwWait (s.word b) = false → (s.bay b).ustack.length < 4 → s.getB b RBay.UPC ≠ 0x3FFF →
    (s.bay b).badWords.contains (uwNext (s.word b)) = false → (s.bay b).softWords.contains (uwNext (s.word b)) = false →
    Gives (.seqCall b .clean) s (fun t => Enters b (uwNext (s.word b)) s t ∧
      (t.bay b).ustack = (s.getB b RBay.UPC + 1) :: (s.bay b).ustack)) ∧
  (∀ s b e, Customer s b → s.wordCycle b = true → uwSeq (s.word b) = 3 → uwWait (s.word b) = false → 4 ≤ (s.bay b).ustack.length →
    Gives (.seqCall b e) s (fun t => t.getB b RBay.MICRO_FLAGS = orBit (s.getB b RBay.MICRO_FLAGS) 2 ∧ (t.bay b).ending = true)) ∧
  (∀ s b, Customer s b → s.wordCycle b = true → uwSeq (s.word b) = 4 → uwWait (s.word b) = false → inCounterGroup (uwCond (s.word b)) = true →
    s.cond b (uwCond (s.word b)) = true → (s.bay b).ustack.length < 4 → s.getB b RBay.UPC ≠ 0x3FFF →
    (s.bay b).badWords.contains (uwNext (s.word b)) = false → (s.bay b).softWords.contains (uwNext (s.word b)) = false →
    Gives (.seqCallIf b .clean) s (fun t => Enters b (uwNext (s.word b)) s t ∧
      (t.bay b).ustack = (s.getB b RBay.UPC + 1) :: (s.bay b).ustack)) ∧
  (∀ s b a l, Customer s b → s.wordCycle b = true → uwSeq (s.word b) = 5 → uwWait (s.word b) = false → (s.bay b).ustack = a :: l →
    (s.bay b).badWords.contains a = false → (s.bay b).softWords.contains a = false →
    Gives (.seqReturn b .clean) s (fun t => Enters b a s t ∧ (t.bay b).ustack = l)) ∧
  (∀ s b, Customer s b → s.wordCycle b = true → uwSeq (s.word b) = 6 → uwWait (s.word b) = false → (s.bay b).ustack = [] →
    (s.bay b).badWords = [] → (s.bay b).softWords = [] →
    Gives (.seqExit b .clean) s (fun t => (t.bay b).cust = false ∧ t.getB b RBay.UPC < 0x3000 ∧ OnlyObjs s t [keyB b RBay.UPC] ∧ BayFrame b s t)) ∧
  (∀ s b a, s.executing b = true → (s.bay b).extra = none → (s.bay b).cust = false → s.called b = true →
    a = fieldOf (s.getB b (RBay.CUSTOM_ENTRY + (entType (s.curEntry b) - 1))) 0 14 → (s.bay b).badWords.contains a = false → (s.bay b).softWords.contains a = false →
    Gives (.seqDispatch b .clean) s (fun t => Enters b a s t ∧ (t.bay b).cust = true ∧ (t.bay b).dispatched = true)) ∧
  (∀ s b, s.executing b = true → (s.bay b).extra = none → (s.bay b).cust = false → s.called b = false → (s.bay b).badWords = [] → (s.bay b).softWords = [] →
    Gives (.seqDispatch b .clean) s (fun t => (t.bay b).cust = false ∧ (t.bay b).dispatched = true ∧ t.getB b RBay.UPC < 0x3000 ∧
      OnlyObjs s t [keyB b RBay.UPC] ∧ BayFrame b s t)) ∧
  (∀ s b, Customer s b → s.wordCycle b = true → uwWait (s.word b) = true → inCounterGroup (uwCond (s.word b)) = true → s.cond b (uwCond (s.word b)) = true →
    s.getB b RBay.UPC ≠ 0x3FFF → (s.bay b).badWords.contains (s.getB b RBay.UPC + 1) = false → (s.bay b).softWords.contains (s.getB b RBay.UPC + 1) = false →
    Gives (.waitRelease b .clean) s (fun t => Enters b (s.getB b RBay.UPC + 1) s t ∧ (t.bay b).timedOut = false)) ∧
  (∀ s b, Customer s b → s.wordCycle b = true → uwWait (s.word b) = true → s.condAt b (uwCond (s.word b)) = false →
    s.getB b (RBay.CNT_VALUE + uwWto (s.word b)) = 0 → (s.bay b).badWords.contains (uwNext (s.word b)) = false → (s.bay b).softWords.contains (uwNext (s.word b)) = false →
    Gives (.waitTimeout b .clean) s (fun t => Enters b (uwNext (s.word b)) s t ∧ (t.bay b).timedOut = true)) ∧
  (∀ s b e, Customer s b → s.wordCycle b = false →
    Gives (.seqJump b e) s (fun t => t = s) ∧ Gives (.waitRelease b e) s (fun t => t = s) ∧ Gives (.waitTimeout b e) s (fun t => t = s))

/-- R91, R97 to R100, R109, R110, R27, R406: the fields of a word that act on its own bay. -/
def Obligations.WordFields : Prop :=
  (∀ s b, Customer s b → uwShg (s.word b) = 1 → (s.bay b).acted.testBit OS.SHG = false → s.firstCycle b = true → s.jumpable b (fieldOf (s.word b) 112 13) = true →
    Gives (.shgJumpReq b) s (fun t => OnlyObjs s t [] ∧ BayFrame b s t ∧ t.bay b = { s.bay b with
      acted := orBit (s.bay b).acted OS.SHG,
      usable := (s.bay b).usable ++ [{ rank := 3, target := fieldOf (s.word b) 112 13, late := (s.bay b).decided.isSome || s.atDecision b }] })) ∧
  (∀ s b, Customer s b → uwShg (s.word b) = 1 → (s.bay b).acted.testBit OS.SHG = false → s.firstCycle b = true → s.jumpable b (fieldOf (s.word b) 112 13) = false →
    Gives (.shgJumpReq b) s (fun t => t.getB b RBay.MICRO_FLAGS = orBit (s.getB b RBay.MICRO_FLAGS) 6 ∧
      t.getB b RBay.SEQ_FLAGS = orBit (s.getB b RBay.SEQ_FLAGS) 1 ∧ t.getB b RBay.JUMP_DROP_COUNT = satAdd 32 (s.getB b RBay.JUMP_DROP_COUNT) 1 ∧
      BayFrame b s t)) ∧
  (∀ s b, Customer s b → uwShg (s.word b) = 2 → (s.bay b).acted.testBit OS.SHG = false → s.firstCycle b = true →
    Gives (.shgPause b) s (fun t => OnlyObjs s t [] ∧ BayFrame b s t ∧ t.bay b = { s.bay b with acted := orBit (s.bay b).acted OS.SHG, pauseReq := true })) ∧
  (∀ s b, Customer s b → uwShg (s.word b) = 3 → (s.bay b).acted.testBit OS.SHG = false → s.firstCycle b = true →
    Gives (.shgStop b) s (fun t => OnlyObjs s t [] ∧ BayFrame b s t ∧ t.bay b = { s.bay b with acted := orBit (s.bay b).acted OS.SHG, stopReq := true })) ∧
  (∀ s b, Customer s b → uwShg (s.word b) = 4 → (s.bay b).acted.testBit OS.SHG = false → s.firstCycle b = true → entResid (s.curEntry b) = 1 →
    Gives (.shgRewind b) s (fun t => OnlyObjs s t [] ∧ BayFrame b s t ∧ t.bay b = { s.bay b with
      acted := orBit (s.bay b).acted OS.SHG, rowNext := 0, granRows := 0, granOpen := false, rewound := true })) ∧
  (∀ s b, Customer s b → uwShg (s.word b) = 4 → (s.bay b).acted.testBit OS.SHG = false → s.firstCycle b = true → entResid (s.curEntry b) ≠ 1 →
    Gives (.shgRewind b) s (fun t => t.getB b RBay.MICRO_FLAGS = orBit (s.getB b RBay.MICRO_FLAGS) 4 ∧ (t.bay b).ending = true)) ∧
  (∀ s b, Customer s b → (s.bay b).acted.testBit OS.SHG = true ∨ s.firstCycle b = false → Gives (.shgStop b) s (fun t => t = s)) ∧
  (∀ s b, Customer s b → 0x11 ≤ uwCap (s.word b) → uwCap (s.word b) ≤ 0x1F → (s.bay b).acted.testBit OS.CAP = false → s.firstCycle b = true →
    Gives (.retire b) s (fun t => OnlyObjs s t [] ∧ BayFrame b s t ∧ t.bay b = { s.bay b with
      acted := orBit (s.bay b).acted OS.CAP, retiring := (s.bay b).retiring ++ [(uwCap (s.word b) % 16, if (s.bay b).cycDone then (s.bay b).cyc - 1 else (s.bay b).cyc)] })) ∧
  (∀ s b, Customer s b → uwCap (s.word b) = 0x20 → (s.bay b).acted.testBit OS.CAP = false → s.firstCycle b = true →
    Gives (.retireFailed b) s (fun t => OnlyObjs s t [] ∧ BayFrame b s t ∧ t.bay b = { s.bay b with
      acted := orBit (s.bay b).acted OS.CAP, retiring := (s.bay b).retiring ++ [((s.bay b).quadFailed, if (s.bay b).cycDone then (s.bay b).cyc - 1 else (s.bay b).cyc)] })) ∧
  (∀ s b v, Customer s b → 0x40 ≤ uwEvt (s.word b) → uwEvt (s.word b) ≤ 0x4F → (s.bay b).acted.testBit OS.EVT = false → s.firstCycle b = true →
    s.getB b (RBay.OBJ_SLOT + uwEvt (s.word b) % 16) = v → v.testBit 31 = true → (s.bay b).objQueue.length < 4 →
    Gives (.objWrite b) s (fun t => OnlyObjs s t [] ∧ BayFrame b s t ∧ t.bay b = { s.bay b with
      acted := orBit (s.bay b).acted OS.EVT,
      objQueue := (s.bay b).objQueue ++ [(v % 2 ^ 24, uwImm (s.word b), s.getB b RBay.SITE_EPOCH)] })) ∧
  (∀ s b, Customer s b → 0x40 ≤ uwEvt (s.word b) → uwEvt (s.word b) ≤ 0x4F → (s.bay b).acted.testBit OS.EVT = false → s.firstCycle b = true →
    4 ≤ (s.bay b).objQueue.length →
    Gives (.objWrite b) s (fun t => t.getB b RBay.MICRO_FLAGS = orBit (s.getB b RBay.MICRO_FLAGS) 7 ∧
      t.getB b RBay.OBJ_DROP_COUNT = satAdd 32 (s.getB b RBay.OBJ_DROP_COUNT) 1 ∧ (t.bay b).objQueue = (s.bay b).objQueue ∧ BayFrame b s t)) ∧
  (∀ s b, Customer s b → 0x90 ≤ uwEvt (s.word b) → uwEvt (s.word b) ≤ 0x9F → (s.bay b).acted.testBit OS.EVT = false → s.firstCycle b = true →
    Gives (.raise b) s (fun t => t.bay b = { s.bay b with acted := orBit (s.bay b).acted OS.EVT } ∧
      t.getO (key (0xC400 + evBay b (16 + uwEvt (s.word b) % 16)) 0 + RSrc.COUNT) =
        (s.getO (key (0xC400 + evBay b (16 + uwEvt (s.word b) % 16)) 0 + RSrc.COUNT) + 1) % 2 ^ 64 ∧ OnlyObjsEv s t [] ∧ BayFrame b s t)) ∧
  (∀ s b, Customer s b → uwSph (s.word b) = 2 → (s.bay b).acted.testBit OS.SPH = false → s.firstCycle b = true →
    Gives (.sphInhibit b) s (fun t => OnlyObjs s t [] ∧ BayFrame b s t ∧ t.bay b = { s.bay b with
      acted := orBit (s.bay b).acted OS.SPH, roll := { (s.bay b).roll with inhibit := true } })) ∧
  (∀ s b, s.executing b = true → (s.bay b).extra = none → (s.bay b).cust = false → (s.bay b).acted.testBit OS.SPH = false → s.firstCycle b = true →
    Gives (.sphPermit b) s (fun t => OnlyObjs s t [] ∧ BayFrame b s t ∧ t.bay b = { s.bay b with
      acted := orBit (s.bay b).acted OS.SPH, roll := { (s.bay b).roll with permit := true } })) ∧
  (∀ s b, s.executing b = true → (s.bay b).cust = true → s.getB b RBay.CUSTOM_WATCHDOG ≤ (s.bay b).noRow →
    Gives (.customWatchdog b) s (fun t => t.getB b RBay.MICRO_FLAGS = orBit (s.getB b RBay.MICRO_FLAGS) 5 ∧ (t.bay b).ending = true ∧
      (t.bay b).cust = false)) ∧
  (∀ s b, Customer s b → (s.word b).testBit 53 = true → uwSeq (s.word b) ≠ 6 →
    Gives (.prdSel b) s (fun t => OnlyObjs s t [] ∧ BayFrame b s t ∧ t.bay b = { s.bay b with prdSel := some (fieldOf (s.word b) 70 6) })) ∧
  (∀ s b, Customer s b → (uwMatch (s.word b)).testBit 4 = true →
    Gives (.matchEnable b) s (fun t => OnlyObjs s t [] ∧ BayFrame b s t ∧ t.bay b = { s.bay b with matchOn := some (uwMatch (s.word b) % 16) })) ∧
  (∀ s b, Customer s b → (s.word b).testBit 54 = true → uwSeq (s.word b) ≠ 6 → (s.bay b).acted.testBit OS.LVL = false → s.firstCycle b = true →
    Gives (.lvlSel b) s (fun t => t.getB b RBay.CURRENT_LVL = fieldOf (s.word b) 76 4 ∧
      t.bay b = { s.bay b with acted := orBit (s.bay b).acted OS.LVL } ∧ BayFrame b s t))

/-- R91, R103, R104: the counters. -/
def Obligations.WordCounters : Prop :=
  (∀ s b n, Customer s b → uwCnt (s.word b) n.val = 1 → (s.bay b).cycActed.testBit n.val = false →
    Gives (.cntDec b n) s (fun t => t.cnt b n = min (s.cnt b n - 1) 0xFFFFFFFF ∧ OnlyObjs s t [keyB b (RBay.CNT_VALUE + n.val)] ∧
      BayFrame b s t ∧ t.bay b = { s.bay b with cycActed := orBit (s.bay b).cycActed n.val })) ∧
  (∀ s b n, Customer s b → uwCnt (s.word b) n.val = 2 → (s.bay b).cycActed.testBit n.val = false →
    Gives (.cntInc b n) s (fun t => t.cnt b n = min (s.cnt b n + 1) 0xFFFFFFFF ∧ OnlyObjs s t [keyB b (RBay.CNT_VALUE + n.val)] ∧
      BayFrame b s t ∧ t.bay b = { s.bay b with cycActed := orBit (s.bay b).cycActed n.val })) ∧
  (∀ s b n, Customer s b → uwCnt (s.word b) n.val = 3 → (s.bay b).cycActed.testBit n.val = false →
    Gives (.cntDecVec b n) s (fun t => t.cnt b n = min (s.cnt b n - (s.bay b).cycRows) 0xFFFFFFFF ∧
      OnlyObjs s t [keyB b (RBay.CNT_VALUE + n.val)] ∧ BayFrame b s t ∧ t.bay b = { s.bay b with cycActed := orBit (s.bay b).cycActed n.val })) ∧
  (∀ s b n, Customer s b → uwCnt (s.word b) n.val = 4 → (s.bay b).cycActed.testBit n.val = false →
    Gives (.cntIncVec b n) s (fun t => t.cnt b n = min (s.cnt b n + (s.bay b).cycRows) 0xFFFFFFFF ∧
      OnlyObjs s t [keyB b (RBay.CNT_VALUE + n.val)] ∧ BayFrame b s t ∧ t.bay b = { s.bay b with cycActed := orBit (s.bay b).cycActed n.val })) ∧
  (∀ s b n, Customer s b → uwCnt (s.word b) n.val = 5 → uwCsel (s.word b) = n.val → (s.bay b).acted.testBit (OS.CNT + n.val) = false → s.firstCycle b = true →
    Gives (.cntLoad b n) s (fun t => t.cnt b n = min (uwImm (s.word b)) 0xFFFFFFFF ∧ OnlyObjs s t [keyB b (RBay.CNT_VALUE + n.val)] ∧
      BayFrame b s t ∧ t.bay b = { s.bay b with acted := orBit (s.bay b).acted (OS.CNT + n.val) })) ∧
  (∀ s b n, Customer s b → uwCnt (s.word b) n.val = 6 → (s.bay b).acted.testBit (OS.CNT + n.val) = false → s.firstCycle b = true →
    Gives (.cntLoadParam b n) s (fun t => t.cnt b n = min (entParam (s.curEntry b)) 0xFFFFFFFF ∧ OnlyObjs s t [keyB b (RBay.CNT_VALUE + n.val)] ∧
      BayFrame b s t ∧ t.bay b = { s.bay b with acted := orBit (s.bay b).acted (OS.CNT + n.val) })) ∧
  (∀ s b n, Customer s b → uwCnt (s.word b) n.val = 7 → (s.bay b).acted.testBit (OS.CNT + n.val) = false → s.firstCycle b = true →
    Gives (.cntReload b n) s (fun t => t.cnt b n = min (s.getB b (RBay.CNT_RELOAD + n.val)) 0xFFFFFFFF ∧
      OnlyObjs s t [keyB b (RBay.CNT_VALUE + n.val)] ∧ BayFrame b s t ∧
      t.bay b = { s.bay b with acted := orBit (s.bay b).acted (OS.CNT + n.val) })) ∧
  (∀ s b n, Customer s b → uwCnt (s.word b) n.val = 8 → (s.bay b).acted.testBit (OS.CNT + n.val) = false → s.firstCycle b = true →
    Gives (.cntClear b n) s (fun t => t.cnt b n = 0 ∧ OnlyObjs s t [keyB b (RBay.CNT_VALUE + n.val)] ∧ BayFrame b s t ∧
      t.bay b = { s.bay b with acted := orBit (s.bay b).acted (OS.CNT + n.val) })) ∧
  (∀ s b n, (s.bay b).cycActed.testBit n.val = true →
    Gives (.cntDec b n) s (fun t => t = s) ∧ Gives (.cntInc b n) s (fun t => t = s))

/-- R86, R112, R113, R115: the customer bank. -/
def Obligations.CustomerBank : Prop :=
  (∀ s b e img, Ready s b e → s.bst b = BS.MAINT → (s.bay b).bankLoad = none → s.coreOut = false →
    Gives (.bankImage b e img) s (fun t => t.reply = {} ∧ t.getB b RBay.LOAD_STATUS = 1 ∧ OnlyObjs s t [keyB b RBay.LOAD_STATUS] ∧
      BayFrame b s t ∧ t.bay b = { s.bay b with bankLoad := some img })) ∧
  (∀ s b e img, Ready s b e → s.bst b ≠ BS.MAINT ∨ (s.bay b).bankLoad.isSome = true ∨ s.coreOut = true →
    Gives (.bankImage b e img) s (fun t => t.reply = { status := ST.STATE_LOCKED } ∧ OnlyAnswer s t)) ∧
  (∀ s b img r, (s.bay b).bankLoad = some img → s.getB b RBay.LOAD_STATUS = 1 → s.codeKeyFor (hdrSlot (imageHeader img)) 0 = true →
    Gives (.bankLoadComplete b true r) s (fun t => t.getB b RBay.LOAD_STATUS = 2 ∧ OnlyObjs s t [keyB b RBay.LOAD_STATUS] ∧ ObjFrame s t)) ∧
  (∀ s b img v r, (s.bay b).bankLoad = some img → s.getB b RBay.LOAD_STATUS = 1 →
    v = false ∨ s.codeKeyFor (hdrSlot (imageHeader img)) 0 = false →
    Gives (.bankLoadComplete b v r) s (fun t => t.reply = { status := ST.CRYPTO_ERROR } ∧ t.getB b RBay.LOAD_STATUS = 5 ∧ t.getB b RBay.LOAD_DETAIL = 0 ∧
      OnlyObjs s t [keyB b RBay.LOAD_STATUS, keyB b RBay.LOAD_DETAIL] ∧ BayFrame b s t ∧ t.bay b = { s.bay b with bankLoad := none })) ∧
  (∀ s b img v r, (s.bay b).bankLoad = some img → s.getB b RBay.LOAD_STATUS = 2 → checkImage img (s.bay b).ranges = .good →
    Gives (.bankLoadComplete b v r) s (fun t => t.getB b RBay.LOAD_STATUS = 3 ∧
      (∀ j, j < 15 → (t.getB b (RBay.CUSTOM_ENTRY + j)).testBit 31 = false) ∧
      OnlyObjs s t (keyB b RBay.LOAD_STATUS :: (List.range 15).map (fun j => keyB b (RBay.CUSTOM_ENTRY + j))) ∧ ObjFrame s t)) ∧
  (∀ s b img v r i, (s.bay b).bankLoad = some img → s.getB b RBay.LOAD_STATUS = 2 →
    checkImage img (s.bay b).ranges = .header i →
    Gives (.bankLoadComplete b v r) s (fun t => t.reply = { status := ST.OUT_OF_RANGE } ∧ t.getB b RBay.LOAD_STATUS = 6 ∧
      t.getB b RBay.LOAD_DETAIL = i * 2 ^ 16 + 2 ^ 31 ∧ OnlyObjs s t [keyB b RBay.LOAD_STATUS, keyB b RBay.LOAD_DETAIL] ∧ BayFrame b s t ∧
      t.bay b = { s.bay b with bankLoad := none })) ∧
  (∀ s b img v r k i, (s.bay b).bankLoad = some img → s.getB b RBay.LOAD_STATUS = 2 →
    checkImage img (s.bay b).ranges = .word k i →
    Gives (.bankLoadComplete b v r) s (fun t => t.reply = { status := ST.OUT_OF_RANGE } ∧ t.getB b RBay.LOAD_STATUS = 7 ∧
      t.getB b RBay.LOAD_DETAIL = k + i * 2 ^ 16 ∧ OnlyObjs s t [keyB b RBay.LOAD_STATUS, keyB b RBay.LOAD_DETAIL] ∧ BayFrame b s t ∧
      t.bay b = { s.bay b with bankLoad := none })) ∧
  (∀ s b img v, (s.bay b).bankLoad = some img → s.getB b RBay.LOAD_STATUS = 3 →
    Gives (.bankLoadComplete b v false) s (fun t => t.reply = {} ∧ t.getB b RBay.LOAD_STATUS = 8 ∧ (t.bay b).bankLoad = none ∧
      (∀ j, j < 15 → (t.getB b (RBay.CUSTOM_ENTRY + j)).testBit 31 = false) ∧
      (t.bay b).ranges = cutRange (s.bay b).ranges (hdrFirst (imageHeader img)) (hdrCount (imageHeader img)) ∧
      (∀ a, (a < b.val * 4096 + hdrFirst (imageHeader img) ∨ b.val * 4096 + hdrFirst (imageHeader img) + hdrCount (imageHeader img) ≤ a) →
        t.bank.get a 0 = s.bank.get a 0))) ∧
  (∀ s b img v, (s.bay b).bankLoad = some img → s.getB b RBay.LOAD_STATUS = 3 → checkImage img (s.bay b).ranges = .good →
    Gives (.bankLoadComplete b v true) s (fun t => t.reply = {} ∧ t.getB b RBay.LOAD_STATUS = 4 ∧
      t.getB b RBay.BANK_VERSION = hdrVersion (imageHeader img) ∧ (t.bay b).bankLoad = none ∧
      (t.bay b).ranges = (s.bay b).ranges ++ [(hdrFirst (imageHeader img), hdrCount (imageHeader img))] ∧
      (∀ k, k < hdrCount (imageHeader img) →
        t.bank.get (b.val * 4096 + hdrFirst (imageHeader img) + k) 0 = BitVec.ofNat 160 (imageWord img k)) ∧
      (∀ a, (a < b.val * 4096 + hdrFirst (imageHeader img) ∨ b.val * 4096 + hdrFirst (imageHeader img) + hdrCount (imageHeader img) ≤ a) →
        t.bank.get a 0 = s.bank.get a 0))) ∧
  (∀ s b e (n : Fin 15) (v : BitVec 32), Ready s b e → s.quiet b = true →
    (v.toNat.testBit 31 = true → BANK ≤ fieldOf v.toNat 0 14 ∧ inRanges (s.bay b).ranges (fieldOf v.toNat 0 14 - BANK) = true) →
    Gives (.customEntryWrite b e n v) s (fun t => t.reply = {} ∧ t.getB b (RBay.CUSTOM_ENTRY + n.val) = v.toNat ∧
      OnlyObjs s t [keyB b (RBay.CUSTOM_ENTRY + n.val)] ∧ ObjFrame s t)) ∧
  (∀ s b e (n : Fin 15) (v : BitVec 32), Ready s b e → s.quiet b = true → v.toNat.testBit 31 = true →
    inRanges (s.bay b).ranges (fieldOf v.toNat 0 14 - BANK) = false →
    Gives (.customEntryWrite b e n v) s (fun t => t.reply = { status := ST.OUT_OF_RANGE } ∧ OnlyAnswer s t)) ∧
  (∀ s b, s.bst b = BS.MAINT → (s.bay b).reload = true →
    Gives (.vendorReload b) s (fun t =>
      t.getB b RBay.VENDOR_VERSION = (Config.vendorRelease (BitVec.ofNat 32 (s.getO R.FIRMWARE_VERSION))).toNat ∧
      OnlyObjs s t [keyB b RBay.VENDOR_VERSION] ∧ BayFrame b s t ∧ (t.bay b).reload = false))

/-- R93, R98, R100, R160, R175, R176, R191, R194, R195, R224, R225: the fields of a word that act beyond its sequencer. -/
def Obligations.WordModuleFields : Prop :=
  (∀ s b m, Customer s b → uwCap (s.word b) = 1 → (s.bay b).acted.testBit OS.CAP = false → s.firstCycle b = true → s.capEnabled b m = true → s.windowed b m = false →
    (s.getCap b m RCap.START = 1 ∨ s.getCap b m RCap.STREAM_STATUS = 3) →
    Gives (.captureOn b) s (fun t => t.getCap b m RCap.STREAM_STATUS = 1)) ∧
  (∀ s b m, Customer s b → uwCap (s.word b) = 2 → (s.bay b).acted.testBit OS.CAP = false → s.firstCycle b = true → s.capEnabled b m = true → s.windowed b m = false →
    Gives (.captureOff b) s (fun t => t.getCap b m RCap.STREAM_STATUS = 3)) ∧
  (∀ s b, Customer s b → uwCap (s.word b) = 3 → (s.bay b).acted.testBit OS.CAP = false → s.firstCycle b = true →
    Gives (.capMark b) s (fun t => OnlyObjs s t [] ∧ BayFrame b s t ∧
      (t.bay b).marks = lastN 63 (s.bay b).marks ++ [(fieldOf (s.word b) 112 16, s.wordVector b % 2 ^ 40)])) ∧
  (∀ s b, Customer s b → uwLoad (s.word b) = 1 → (s.bay b).acted.testBit OS.LOAD = false → s.firstCycle b = true → s.clearOn b = false →
    (s.bay b).loadCyc ≠ some (s.bclk b) → (s.word b).testBit 54 = false →
    Gives (.loadNow b) s (fun t => t.getB b RBay.LOAD_COUNT = satAdd 32 (s.getB b RBay.LOAD_COUNT) 1 ∧
      ∀ c ∈ chansOf b, ∀ i, i < 8 → t.getC c (RChan.OUTPUT_CODE + i) = s.getC c (RChan.SHADOW_CODE + i))) ∧
  (∀ s b n, Customer s b → uwLoad (s.word b) = 1 → (s.bay b).acted.testBit OS.LOAD = false → s.firstCycle b = true → s.clearOn b = false →
    (s.word b).testBit 54 = true → uwSeq (s.word b) ≠ 6 → (s.bay b).acted.testBit OS.LVL = false → n = fieldOf (s.word b) 76 4 →
    Gives (.loadNow b) s (fun t => t.getB b RBay.CURRENT_LVL = n ∧
      ∀ c ∈ chansOf b, ∀ i, i < 8 → t.getC c (RChan.OUTPUT_CODE + i) = s.getC c (setCode n i))) ∧
  (∀ s b, Customer s b → uwLoad (s.word b) = 2 → (s.bay b).acted.testBit OS.LOAD = false → s.firstCycle b = true → s.claimedFor (.blankTimer b) 0x02 = true →
    s.getB b RBay.BLANK_TIME ≠ 0 →
    Gives (.loadTimer b) s (fun t => OnlyObjs s t [] ∧ BayFrame b s t ∧ t.bay b = { s.bay b with
      acted := orBit (s.bay b).acted OS.LOAD, timer := some (s.now + s.getB b RBay.BLANK_TIME * 10000) })) ∧
  (∀ s b, Customer s b → uwBlank (s.word b) = 1 → (s.bay b).acted.testBit OS.BLANK = false → s.firstCycle b = true → s.claimedFor (.blankTimer b) 0x01 = true →
    s.getB b RBay.BLANK_TIME ≠ 0 →
    Gives (.blankStart b) s (fun t => t.blanking b = true ∧ OnlyObjs s t [keyB b RBay.BLANK_ACTIVE] ∧ BayFrame b s t ∧ t.bay b = { s.bay b with
      acted := orBit (s.bay b).acted OS.BLANK, timer := some (s.now + s.getB b RBay.BLANK_TIME * 10000) })) ∧
  (∀ s b, Customer s b → uwBlank (s.word b) = 2 → (s.bay b).acted.testBit OS.BLANK = false → s.firstCycle b = true → s.blanking b = true →
    Gives (.blankEnd b) s (fun t => t.blanking b = false ∧ (t.bay b).timer = none ∧ ∀ c ∈ chansOf b, (t.chan c).withheld = 0)) ∧
  (∀ s b, Customer s b → uwTmu (s.word b) = 1 → (s.bay b).acted.testBit OS.TMU = false → s.firstCycle b = true → s.locked (24 + b.val) = true →
    s.tmuRefusal b = none → (s.tmu b).disCyc ≠ some (s.tclk b) → (s.getB b RBay.TMU_MODE = 2 ∨ (s.tmu b).fifo.length < 256) →
    Gives (.tmuMwArm b) s (fun t => t.tmuState b = TS.CALIBRATING ∧ OnlyObjs s t [keyB b RBay.TMU_STATE] ∧ BayFrame b s t)) ∧
  (∀ s b r, Customer s b → uwTmu (s.word b) = 1 → (s.bay b).acted.testBit OS.TMU = false → s.firstCycle b = true → s.locked (24 + b.val) = true →
    s.tmuRefusal b = some r →
    Gives (.tmuMwArm b) s (fun t => t.getB b RBay.ARM_REFUSED = satAdd 32 (s.getB b RBay.ARM_REFUSED) 1 ∧
      OnlyObjsEv s t [keyB b RBay.ARM_REFUSED] ∧ BayFrame b s t)) ∧
  (∀ s b, Customer s b → uwTmu (s.word b) = 2 → (s.bay b).acted.testBit OS.TMU = false → s.firstCycle b = true → s.locked (24 + b.val) = true →
    (s.tmu b).armCyc ≠ some (s.tclk b) →
    Gives (.tmuMwDisarm b) s (fun t => t.tmuState b = TS.IDLE ∧ OnlyObjs s t [keyB b RBay.TMU_STATE] ∧ BayFrame b s t)) ∧
  (∀ s b p n, Customer s b → uwRidge (s.word b) p.val = 1 → (s.bay b).acted.testBit (OS.RIDGE + p.val) = false → s.firstCycle b = true →
    s.getB b (RBay.MR_LINE + p.val) = n → n < 32 → s.ridgeDrv.testBit n = false →
    Gives (.ridgeAssert b p) s (fun t => t.ridgeDrv = putBit s.ridgeDrv n true ∧ t.ridgeWay = s.ridgeWay ++ [(n, true)] ∧
      OnlyParts s t [.bays, .lines])) ∧
  (∀ s b p n, Customer s b → uwRidge (s.word b) p.val = 2 → (s.bay b).acted.testBit (OS.RIDGE + p.val) = false → s.firstCycle b = true →
    s.getB b (RBay.MR_LINE + p.val) = n → n < 32 → s.ridgeDrv.testBit n = true →
    Gives (.ridgeRelease b p) s (fun t => t.ridgeDrv = putBit s.ridgeDrv n false ∧ t.ridgeWay = s.ridgeWay ++ [(n, false)] ∧
      OnlyParts s t [.bays, .lines])) ∧
  (∀ s b p n, Customer s b → uwRidge (s.word b) p.val = 3 → (s.bay b).acted.testBit (OS.RIDGE + p.val) = false → s.firstCycle b = true →
    s.getB b (RBay.MR_LINE + p.val) = n → n < 32 → s.ridgeDrv.testBit n = false →
    Gives (.ridgePulse b p) s (fun t => t.ridgeWay = s.ridgeWay ++ [(n, true), (n, false)] ∧ OnlyParts s t [.bays, .lines]))

/-- R57, R58, R77, R78, R88, R97, R104, R120, R138: one vector of each kind. -/
def Obligations.WordVectors : Prop :=
  (∀ s b prd, s.emits b 0 = true → (s.bay b).extra = none → s.padding b = false → s.slotLeft b = true → (s.beginCycle b).rowsSpent b = false →
    (s.bay b).rowNext ≠ 8 * entLen (s.curEntry b) → (s.bay b).granOpen = true →
    prd = ((s.bay b).prdSel).getD (entPrd (s.curEntry b)) → prd < 64 →
    4000 * (((s.bay b).cyc : Int) + 3) ≤ (s.bay b).nextStart + s.getB b (RBay.PERIOD + prd) →
    Gives (.vecEmit b) s (fun t => t.getB b RBay.CYCLE_COUNT = (s.getB b RBay.CYCLE_COUNT + 1) % 2 ^ 64 ∧
      t.getB b RBay.VECTORS_ISSUED = (s.getB b RBay.VECTORS_ISSUED + 1) % 2 ^ 64 ∧ (t.bay b).rowNext = (s.bay b).rowNext + 1 ∧
      (t.bay b).granRows = (s.bay b).granRows + 1 ∧ (t.bay b).lastRow = some ((s.bay b).rows.getD (s.bay b).granRows 0) ∧
      (t.bay b).nextStart = (s.bay b).nextStart + s.getB b (RBay.PERIOD + prd) ∧ (t.bay b).cyc = (s.bay b).cyc + 1)) ∧
  (∀ s b prd, s.emits b 2 = true → (s.bay b).cust = true → (s.bay b).extra = none → s.slotLeft b = true →
    prd = ((s.bay b).prdSel).getD (entPrd (s.curEntry b)) →
    4000 * (((s.bay b).cyc : Int) + 3) ≤ (s.bay b).nextStart + s.getB b (RBay.PERIOD + prd) →
    Gives (.vecHold b) s (fun t => t.getB b RBay.CYCLE_COUNT = (s.getB b RBay.CYCLE_COUNT + 1) % 2 ^ 64 ∧
      t.getB b RBay.VECTORS_ISSUED = s.getB b RBay.VECTORS_ISSUED ∧ (t.bay b).rowNext = (s.bay b).rowNext ∧
      (t.bay b).lastRow = (s.bay b).lastRow ∧
      (t.bay b).nextStart = (s.bay b).nextStart + s.getB b (RBay.PERIOD + prd) ∧ (t.bay b).cyc = (s.bay b).cyc + 1)) ∧
  (∀ s b prd, s.emits b 3 = true → (s.bay b).cust = true → (s.bay b).extra = none → s.slotLeft b = true →
    prd = ((s.bay b).prdSel).getD (entPrd (s.curEntry b)) →
    4000 * (((s.bay b).cyc : Int) + 3) ≤ (s.bay b).nextStart + s.getB b (RBay.PERIOD + prd) →
    Gives (.vecMute b) s (fun t => t.getB b RBay.CYCLE_COUNT = (s.getB b RBay.CYCLE_COUNT + 1) % 2 ^ 64 ∧
      t.getB b RBay.VECTORS_ISSUED = s.getB b RBay.VECTORS_ISSUED ∧ (t.bay b).rowNext = (s.bay b).rowNext ∧
      (t.bay b).lastRow = (s.bay b).lastRow ∧
      (t.bay b).nextStart = (s.bay b).nextStart + s.getB b (RBay.PERIOD + prd) ∧ (t.bay b).cyc = (s.bay b).cyc + 1)) ∧
  (∀ s b prd, s.emits b 1 = true → (s.bay b).cust = true → (s.bay b).padGran = false → (s.bay b).extra = none → s.slotLeft b = true →
    prd = ((s.bay b).prdSel).getD (entPrd (s.curEntry b)) →
    4000 * (((s.bay b).cyc : Int) + 3) ≤ (s.bay b).nextStart + s.getB b (RBay.PERIOD + prd) →
    Gives (.vecPad b) s (fun t => t.getB b RBay.CYCLE_COUNT = (s.getB b RBay.CYCLE_COUNT + 1) % 2 ^ 64 ∧
      t.getB b RBay.VECTORS_ISSUED = s.getB b RBay.VECTORS_ISSUED ∧ (t.bay b).rowNext = (s.bay b).rowNext ∧
      (t.bay b).lastRow = (s.bay b).lastRow ∧
      (t.bay b).nextStart = (s.bay b).nextStart + s.getB b (RBay.PERIOD + prd) ∧ (t.bay b).cyc = (s.bay b).cyc + 1)) ∧
  (∀ s b prd, s.padding b = true → (s.bay b).extra = none → s.slotLeft b = true → (s.bay b).granBad = false →
    prd = ((s.bay b).prdSel).getD (entPrd (s.curEntry b)) →
    4000 * (((s.bay b).cyc : Int) + 3) ≤ (s.bay b).nextStart + s.getB b (RBay.PERIOD + prd) →
    Gives (.vecPad b) s (fun t => t.getB b RBay.CYCLE_COUNT = (s.getB b RBay.CYCLE_COUNT + 1) % 2 ^ 64 ∧
      t.getB b RBay.VECTORS_ISSUED = s.getB b RBay.VECTORS_ISSUED ∧ (t.bay b).rowNext = (s.bay b).rowNext ∧
      (t.bay b).granRows = (s.bay b).granRows + 1 ∧ (t.bay b).padGran = decide ((s.bay b).granRows + 1 < 8) ∧
      (t.bay b).nextStart = (s.bay b).nextStart + s.getB b (RBay.PERIOD + prd) ∧ (t.bay b).cyc = (s.bay b).cyc + 1))

/-- R12, R13, R117, R122 to R124, R146, R473: bay clocks and timing sets. -/
def Obligations.ClocksAndTimingSets : Prop :=
  (∀ s b e (mhz : Nat), Ready s b e → s.coreOut = false → s.quiet b = true → 500 ≤ mhz → mhz ≤ 1000 →
    (∀ c ∈ chansOf b, roundDiv ((s.getC c RChan.DRV_MIN_PULSE : Int) * (mhz : Int)) 1000 ≤ 16777215) →
    Gives (.bclkChange b e mhz) s (fun t => t.reply = {} ∧ t.getO R.LOCK_MASK = clrBit (s.getO R.LOCK_MASK) b.val ∧
      (t.bay b).relock = some mhz)) ∧
  (∀ s b e (mhz : Nat), Ready s b e → s.coreOut = false → s.quiet b = true → mhz < 500 ∨ 1000 < mhz →
    Gives (.bclkChange b e mhz) s (fun t => t.reply = { status := ST.OUT_OF_RANGE } ∧ OnlyAnswer s t)) ∧
  (∀ s b e (mhz : Nat), Ready s b e → s.quiet b = false ∨ s.coreOut = true →
    Gives (.bclkChange b e mhz) s (fun t => t.reply = { status := ST.STATE_LOCKED } ∧ OnlyAnswer s t)) ∧
  (∀ s b mhz, (s.bay b).relock = some mhz →
    Gives (.pllRelock b) s (fun t => t.bay b = { s.bay b with mhz := mhz, fine := true, relock := none } ∧
      t.getO R.LOCK_MASK = orBit (s.getO R.LOCK_MASK) b.val ∧ t.getB b RBay.TIME_UNIT = 250000000 / mhz)) ∧
  (∀ s b, s.bayDown b = false → s.bst b = BS.IDLE → (s.bay b).arming ≠ 0 →
    Gives (.clockUnlock b false) s (fun t => t.getO R.LOCK_MASK = clrBit (s.getO R.LOCK_MASK) b.val ∧ t.bst b = BS.IDLE ∧
      (t.bay b).arming = 0 ∧ t.getB b RBay.ARM_STATUS = AS.CLOCK)) ∧
  (∀ s b, s.bayDown b = false → s.bst b ≠ BS.RUN → (s.bst b = BS.IDLE → (s.bay b).arming = 0) →
    Gives (.clockUnlock b false) s (fun t => t.getO R.LOCK_MASK = clrBit (s.getO R.LOCK_MASK) b.val ∧
      (t.bay b).relock = some (s.bay b).mhz ∧ (∀ c ∈ chansOf b, (t.chan c).edges = [] ∧ (t.chan c).strobes = []) ∧
      OnlyObjs s t [R.LOCK_MASK] ∧ OnlyParts s t [.objects, .bays, .pins])) ∧
  (∀ s b, s.bayDown b = false → s.bst b = BS.RUN → (s.ports.get (0x110 + b.val) []).length < 16 →
    Gives (.clockUnlock b false) s (fun t => t.getO R.LOCK_MASK = clrBit (s.getO R.LOCK_MASK) b.val ∧
      t.ports.get (0x110 + b.val) [] = s.ports.get (0x110 + b.val) [] ++ [s.faultMsg (0x110 + b.val) 0x28 1])) ∧
  (∀ s b e (d : Bytes) n, Ready s b e → s.coreOut = false → s.quiet b = true → d.length = 680 * n → 1 ≤ n → n ≤ 64 → s.getB b RBay.TSET_INDEX + n ≤ 1024 →
    (∀ j, j < n → setError (slice d (680 * j) 680) = none) →
    Gives (.tsetWrite b e true d) s (fun t => t.reply = {} ∧ t = { s with tsets := t.tsets, reply := t.reply } ∧
      (∀ j p, j < n → p < (setRecords (slice d (680 * j) 680)).length →
        t.tsets.get (tsetKey b (s.getB b RBay.TSET_INDEX + j) p) 0 = BitVec.ofNat 320 ((setRecords (slice d (680 * j) 680)).getD p 0)))) ∧
  (∀ s b e bl (d : Bytes), Ready s b e → s.coreOut = true →
    Gives (.tsetWrite b e bl d) s (fun t => t.reply = { status := ST.STATE_LOCKED } ∧ OnlyAnswer s t)) ∧
  (∀ s b e (d : Bytes) p i, Ready s b e → s.coreOut = false → s.quiet b = true → d.length = 680 → s.getB b RBay.TSET_INDEX < 1024 → setError d = some (p, i) →
    Gives (.tsetWrite b e false d) s (fun t => t.reply = { status := ST.OUT_OF_RANGE } ∧
      t.getB b RBay.TSET_ERROR = s.getB b RBay.TSET_INDEX + p * 2 ^ 10 + i * 2 ^ 16 ∧ OnlyObjs s t [keyB b RBay.TSET_ERROR] ∧ ObjFrame s t))

/-- R129, R130, R132 to R134, R187: edges and strobes at the land. -/
def Obligations.EdgesAndStrobes : Prop :=
  (∀ s c e x, (s.chan c).edges = [e] → e.drv = some x → e.den = none → (s.chan c).drv ≠ x →
    (∀ l, (s.chan c).lastDrv = some l → s.inTu (bayOf c) (s.chan c).minPulse ≤ e.at_ - l) →
    Gives (.driveEdge c) s (fun t => t.chan c = { s.chan c with edges := [], drv := x, lastDrv := some e.at_ } ∧ ChanFrame c s t ∧
      OnlyObjs s t [])) ∧
  (∀ s c e x l, (s.chan c).edges = [e] → e.drv = some x → e.den = none → (s.chan c).drv ≠ x → (s.chan c).lastDrv = some l →
    e.at_ - l < s.inTu (bayOf c) (s.chan c).minPulse →
    Gives (.driveEdge c) s (fun t => t.chan c = { s.chan c with edges := [] } ∧
      t.getC c RChan.DRV_SUPPRESS_COUNT = satAdd 32 (s.getC c RChan.DRV_SUPPRESS_COUNT) 1 ∧ ChanFrame c s t)) ∧
  (∀ s c, (s.chan c).edges = [] → Gives (.driveEdge c) s (fun t => t = s)) ∧
  (∀ s c st h l, earliestStrobe (s.chan c).strobes = some st → st.action = 8 →
    (∀ p, (s.chan c).lastStrobe = some p → s.inTu (bayOf c) 200 ≤ st.at_ - p) →
    Gives (.strobeLatch c h l) s (fun t => OnlyObjs s t [] ∧ OnlyParts s t [.pins, .bays] ∧
      t.chan c = { s.chan c with strobes := (s.chan c).strobes.erase st, lastStrobe := some st.at_ } ∧
      (t.bay (bayOf c)).cmpQ = (s.bay (bayOf c)).cmpQ ++ [⟨st.at_.toNat / 4000 + 3, placeOf c, st.num, st.v.cycle, .data h l⟩])) ∧
  (∀ s c st h l, earliestStrobe (s.chan c).strobes = some st → compares st.action = true → st.v.matchOf = none →
    compareFails st.action h l = true → s.retired (bayOf c) (c.val % 16 / 4) = false → (s.getB (bayOf c) RBay.FAIL_MASK).testBit (c.val % 16) = true →
    (∀ p, (s.chan c).lastStrobe = some p → s.inTu (bayOf c) 200 ≤ st.at_ - p) →
    Gives (.strobeLatch c h l) s (fun t => t.getC c RChan.STROBE_FAIL_COUNT = satAdd 32 (s.getC c RChan.STROBE_FAIL_COUNT) 1 ∧
      (t.chan c).strobes = (s.chan c).strobes.erase st ∧ (t.chan c).lastStrobe = some st.at_ ∧
      (t.bay (bayOf c)).firstFail = (s.bay (bayOf c)).firstFail)) ∧
  (∀ s c st h l p, earliestStrobe (s.chan c).strobes = some st → (s.chan c).lastStrobe = some p → st.action = 8 →
    st.at_ - p < s.inTu (bayOf c) 200 →
    Gives (.strobeLatch c h l) s (fun t => t.chan c = { s.chan c with strobes := (s.chan c).strobes.erase st } ∧
      t.getC c RChan.STROBE_SUPPRESS_COUNT = satAdd 32 (s.getC c RChan.STROBE_SUPPRESS_COUNT) 1 ∧
      (∀ r ∈ (t.bay (bayOf c)).vrecs, r.v.cycle = st.v.cycle → r.capBad.testBit (2 * (c.val % 16) + st.slot) = true)))

/-- R157, R159, R160, R163 to R166: levels, LOAD and the clear input. -/
def Obligations.LevelsLoadAndClear : Prop :=
  (∀ s b e (l : BitVec 8), Ready s b e → s.quiet b = true ∨ s.bst b = BS.ARMED → l.toNat < 16 →
    Gives (.lvlSelect b e l) s (fun t => t.reply = {} ∧ t.getB b RBay.CURRENT_LVL = l.toNat ∧
      (∀ c ∈ chansOf b, ∀ i, i < 8 → t.getC c (RChan.SHADOW_CODE + i) = s.getC c (setCode l.toNat i)) ∧ ObjFrame s t)) ∧
  (∀ s b e, Ready s b e → s.clearOn b = false → (s.bay b).loadCyc ≠ some (s.bclk b) →
    Gives (.loadRequest b e) s (fun t => t.reply = {} ∧ t.getB b RBay.LOAD_COUNT = satAdd 32 (s.getB b RBay.LOAD_COUNT) 1 ∧
      (∀ c ∈ chansOf b, ∀ i, i < 8 → t.getC c (RChan.OUTPUT_CODE + i) = s.getC c (RChan.SHADOW_CODE + i)))) ∧
  (∀ s b e, Ready s b e → s.clearOn b = true → (s.bay b).loadCyc ≠ some (s.bclk b) →
    Gives (.loadRequest b e) s (fun t => t.reply = {} ∧ t.getB b RBay.LOAD_COUNT = satAdd 32 (s.getB b RBay.LOAD_COUNT) 1 ∧
      OnlyObjs s t [keyB b RBay.LOAD_COUNT] ∧ BayFrame b s t)) ∧
  (∀ s c e n (i : Fin 8) (v : BitVec 32), Ready s (bayOf c) e → s.quiet (bayOf c) = true →
    levelsOk ((s.levelSet c n.val).set i.val v.toNat) = true →
    Gives (.levelSetWrite c e n (.one i v)) s (fun t => t.reply = {} ∧ ObjFrame s t ∧
      (∀ j, j < 8 → t.getC c (setCode n.val j) = if j = i.val then v.toNat else s.getC c (setCode n.val j)) ∧
      (∀ j, j < 8 → s.getB (bayOf c) RBay.CURRENT_LVL = n.val → t.getC c (RChan.SHADOW_CODE + j) = t.getC c (setCode n.val j)) ∧
      (∀ j, j < 8 → s.getB (bayOf c) RBay.CURRENT_LVL ≠ n.val → t.getC c (RChan.SHADOW_CODE + j) = s.getC c (RChan.SHADOW_CODE + j)))) ∧
  (∀ s c e n (i : Fin 8) (v : BitVec 32), Ready s (bayOf c) e → s.quiet (bayOf c) = true →
    levelsOk ((s.levelSet c n.val).set i.val v.toNat) = false →
    Gives (.levelSetWrite c e n (.one i v)) s (fun t => t.reply = { status := ST.OUT_OF_RANGE } ∧ OnlyAnswer s t)) ∧
  (∀ s c e n (d : Bytes), Ready s (bayOf c) e → s.quiet (bayOf c) = true → d.length = 32 →
    levelsOk ((chunks 4 8 d).map ofBytes) = true →
    Gives (.levelSetWrite c e n (.block d)) s (fun t => t.reply = {} ∧ ObjFrame s t ∧
      (∀ j, j < 8 → t.getC c (setCode n.val j) = ((chunks 4 8 d).map ofBytes).getD j 0))) ∧
  (∀ s c (e : BitVec 16) (i : Fin 8) (v : BitVec 32) m, s.operational = true → e.toNat = s.getB (bayOf c) RBay.SITE_EPOCH →
    levelsOk ((s.clearCodes c).set i.val v.toNat) = true → s.getO R.HOLDUP_STATE ≠ HS.ON_STORE →
    classNeeds s.ledgerClass ≤ sampleEnergy m →
    Gives (.clearCodeWrite c e i v m) s (fun t => t.reply = {} ∧ t.getC c (RChan.CLEAR_CODE + i.val) = v.toNat ∧
      t.ledger.get (keyC c (RChan.CLEAR_CODE + i.val)) 0 = v.toNat ∧
      (s.clearOn (bayOf c) = true → t.getC c (RChan.OUTPUT_CODE + i.val) = v.toNat))) ∧
  (∀ s d src, (s.die d).clear = 0 →
    Gives (.clearAssert d src) s (fun t =>
      (∀ b ∈ baysOf d, t.getB b RBay.CLEAR_STATE = 1 + 2 * 2 ^ clearBit src) ∧
      (∀ b ∈ baysOf d, ∀ c ∈ chansOf b, t.getC c RChan.LOAD_EN = 0 ∧ t.getC c RChan.PMU_MODE = 0 ∧ t.getC c RChan.SELECTOR = 0 ∧
        ∀ i, i < 8 → t.getC c (RChan.OUTPUT_CODE + i) = s.getC c (RChan.CLEAR_CODE + i)))) ∧
  (∀ s d src, (s.die d).clear ≠ 0 → (s.die d).clear.testBit (clearBit src) = false → src = .keeper →
    Gives (.clearAssert d src) s (fun t => (t.die d).clear = orBit (s.die d).clear (clearBit src) ∧
      (∀ b ∈ baysOf d, t.getB b RBay.CLEAR_STATE = clearWord (orBit (s.die d).clear (clearBit src))) ∧
      OnlyObjs s t ((baysOf d).map (keyB · RBay.CLEAR_STATE)) ∧ OnlyParts s t [.objects, .pins])) ∧
  (∀ s d src, (s.die d).clear.testBit (clearBit src) = true → clrBit (s.die d).clear (clearBit src) = 0 →
    Gives (.clearRelease d src) s (fun t => (t.die d).clear = 0 ∧ OnlyParts s t [.objects, .pins] ∧
      (∀ b ∈ baysOf d, t.getB b RBay.CLEAR_STATE = 0 ∧ ∀ c ∈ chansOf b,
        t.getC c RChan.INHIBIT_CAUSE = clrBit (s.getC c RChan.INHIBIT_CAUSE) 5 ∧
        ∀ i, i < 8 → t.getC c (RChan.OUTPUT_CODE + i) = s.getC c (RChan.OUTPUT_CODE + i))))

/-- R167, R170 to R177, R182 to R184: guard windows, blanking, readback slots and the parametric unit. -/
def Obligations.GuardsAndMeasurements : Prop :=
  (∀ s c e w (v : BitVec 16), Ready s (bayOf c) e → s.guardOk c w v.toNat = true →
    Gives (.guardThresholdWrite c e w v) s (fun t => t.reply = {} ∧ t.getC c (guardObj w) = v.toNat ∧
      OnlyObjs s t [keyC c (guardObj w)] ∧ ChanFrame c s t)) ∧
  (∀ s c e w (v : BitVec 16), Ready s (bayOf c) e → s.guardOk c w v.toNat = false →
    Gives (.guardThresholdWrite c e w v) s (fun t => t.reply = { status := ST.OUT_OF_RANGE } ∧ OnlyAnswer s t)) ∧
  (∀ s c under, s.pinPower = true → (s.chan c).own.testBit (cmpNo under) = false →
    s.getO (keyA (bayOf c) RAssay.BAY_ASSAY_STATUS) ≠ 1 → s.scopeOf c under = 0 →
    Gives (.guardTrip c under) s (fun t => ChanFrame c s t ∧ (t.chan c).own = orBit (s.chan c).own (cmpNo under) ∧
      (t.chan c).report = orBit (putBit (s.chan c).report (4 + cmpNo under) false) (cmpNo under) ∧ OnlyObjs s t [keyC c RChan.GUARD_STATE, keyC c RChan.INHIBIT_CAUSE])) ∧
  (∀ s c under, s.pinPower = true → (s.chan c).own.testBit (cmpNo under) = false →
    s.getO (keyA (bayOf c) RAssay.BAY_ASSAY_STATUS) ≠ 1 → s.scopeOf c under = 1 → s.latchedTrip c under = false →
    fieldOf (clrBit (s.getC c RChan.GUARD_STATE) (4 + cmpNo under)) 4 2 ≠ 0 →
    Gives (.guardTrip c under) s (fun t => ChanFrame c s t ∧ (t.chan c).own = orBit (s.chan c).own (cmpNo under) ∧
      t.getC c RChan.INHIBIT_CAUSE = orBit (s.getC c RChan.INHIBIT_CAUSE) 2)) ∧
  (∀ s c under, (s.chan c).report.testBit (cmpNo under) = false → Gives (.guardTripReport c under) s (fun t => t = s)) ∧
  (∀ s c under, (s.chan c).report.testBit (cmpNo under) = true → s.locked (bayOf c).val = false →
    Gives (.guardTripReport c under) s (fun t => t.dropped.get (bayOf c).val 0 = s.dropped.get (bayOf c).val 0 + 1 ∧
      (t.chan c).report = clrBit (s.chan c).report (cmpNo under) ∧ OnlyParts s t [.pins, .drops])) ∧
  (∀ s c under, (s.chan c).report.testBit (cmpNo under) = true → (s.chan c).report.testBit (2 + cmpNo under) = false →
    s.locked (bayOf c).val = true → (s.chan c).report.testBit (4 + cmpNo under) = false → s.blanking (bayOf c) = false →
    (s.getB (bayOf c) RBay.WAKE_MASK).testBit (c.val % 16) = false →
    Gives (.guardTripReport c under) s (fun t => (t.chan c).report = clrBit (clrBit (clrBit (s.chan c).report (cmpNo under)) (2 + cmpNo under)) (4 + cmpNo under) ∧
      t.getO (key (0xC400 + evChan c (cmpNo under)) 0 + RSrc.COUNT) = (s.getO (key (0xC400 + evChan c (cmpNo under)) 0 + RSrc.COUNT) + 1) % 2 ^ 64 ∧
      OnlyObjsEv s t [] ∧ ChanFrame c s t)) ∧
  (∀ s c under, (s.chan c).report.testBit (cmpNo under) = true → (s.chan c).report.testBit (4 + cmpNo under) = true →
    s.locked (bayOf c).val = true → s.running (bayOf c) = false → (s.ports.get c.val []).length < 16 →
    Gives (.guardTripReport c under) s (fun t => t.ports.get c.val [] = s.ports.get c.val [] ++
      [s.faultMsg c.val 0x10 ((1 <<< cmpNo under) + if (s.chan c).latchBay.testBit (cmpNo under) then 4 else 0)])) ∧
  (∀ s c under, (s.getC c RChan.GUARD_STATE).testBit (4 + cmpNo under) = false →
    Gives (.guardUntrip c under) s (fun t => t.chan c = { s.chan c with own := clrBit (s.chan c).own (cmpNo under) } ∧
      OnlyObjs s t [keyC c RChan.GUARD_STATE] ∧ ChanFrame c s t)) ∧
  (∀ s c under, (s.getC c RChan.GUARD_STATE).testBit (4 + cmpNo under) = true →
    Gives (.guardUntrip c under) s (fun t => t = s)) ∧
  (∀ s c under, s.pinPower = true → (s.getC c RChan.GUARD_STATE).testBit (4 + cmpNo under) = true →
    Gives (.guardResolve c under) s (fun t => t.chan c = { s.chan c with own := clrBit (s.chan c).own (cmpNo under) } ∧
      (fieldOf (clrBit (s.getC c RChan.GUARD_STATE) (4 + cmpNo under)) 4 2 = 0 →
        t.getC c RChan.INHIBIT_CAUSE = clrBit (s.getC c RChan.INHIBIT_CAUSE) 4) ∧
      OnlyObjs s t [keyC c RChan.GUARD_STATE, keyC c RChan.INHIBIT_CAUSE] ∧ ChanFrame c s t)) ∧
  (∀ s c e, Ready s (bayOf c) e → s.bst (bayOf c) = BS.SAFE ∨ s.quiet (bayOf c) = true → fieldOf (s.getC c RChan.GUARD_STATE) 0 2 = 0 →
    fieldOf (s.getC c RChan.GUARD_STATE) 4 4 = 0 →
    Gives (.tripClear c e) s (fun t => t.reply = {} ∧ (t.chan c).latchBay = 0 ∧
      t.getC c RChan.GUARD_STATE = clrBit (clrBit (s.getC c RChan.GUARD_STATE) 2) 3)) ∧
  (∀ s c e, Ready s (bayOf c) e → s.bst (bayOf c) = BS.ARMED ∨ s.running (bayOf c) = true ∨ fieldOf (s.getC c RChan.GUARD_STATE) 0 2 ≠ 0 →
    Gives (.tripClear c e) s (fun t => t.reply = { status := ST.STATE_LOCKED } ∧ OnlyAnswer s t)) ∧
  (∀ s b t0, (s.bay b).timer = some t0 → s.blanking b = true →
    Gives (.blankExpiry b) s (fun t => t.blanking b = false ∧ (t.bay b).timer = none ∧ t.now = max s.now t0)) ∧
  (∀ s b t0, (s.bay b).timer = some t0 → s.claimedFor (.blankTimer b) 0x02 = true → s.clearOn b = false →
    (s.bay b).loadCyc ≠ some ((s.advance t0).bclk b) →
    Gives (.loadTimerExpiry b) s (fun t => t.getB b RBay.LOAD_COUNT = satAdd 32 (s.getB b RBay.LOAD_COUNT) 1 ∧
      (∀ c ∈ chansOf b, ∀ i, i < 8 → t.getC c (RChan.OUTPUT_CODE + i) = s.getC c (RChan.SHADOW_CODE + i)))) ∧
  (∀ s c e (m : BitVec 8), Ready s (bayOf c) e → 1 ≤ m.toNat → m.toNat ≤ 3 → s.bst (bayOf c) ≠ BS.OFF → s.bst (bayOf c) ≠ BS.SAFE →
    s.bst (bayOf c) ≠ BS.MAINT → s.clearOn (bayOf c) = false →
    Gives (.pmuModeWrite c e m) s (fun t => t.reply = {} ∧ t.getC c RChan.PMU_MODE = m.toNat ∧
      t.getC c RChan.INHIBIT_CAUSE = orBit (s.getC c RChan.INHIBIT_CAUSE) 7 ∧
      OnlyObjs s t [keyC c RChan.MEAS_STATUS, keyC c RChan.PMU_MODE, keyC c RChan.PMU_FLAGS, keyC c RChan.INHIBIT_CAUSE] ∧ ObjFrame s t)) ∧
  (∀ s c e (m : BitVec 8), Ready s (bayOf c) e → 1 ≤ m.toNat → m.toNat ≤ 3 → s.bst (bayOf c) = BS.SAFE ∨ s.bst (bayOf c) = BS.MAINT →
    Gives (.pmuModeWrite c e m) s (fun t => t.reply = { status := ST.STATE_LOCKED } ∧ OnlyAnswer s t)) ∧
  (∀ s c e (r : BitVec 8), Ready s (bayOf c) e → r.toNat ≤ 4 →
    Gives (.pmuRangeWrite c e r) s (fun t => t.reply = {} ∧ t.getC c RChan.PMU_RANGE = r.toNat ∧ OnlyObjs s t [keyC c RChan.PMU_RANGE] ∧ ObjFrame s t)) ∧
  (∀ s c e, Ready s (bayOf c) e → (s.die (dieOf (bayOf c))).convFail.testBit (c.val % 64 / 8) = false →
    Gives (.measStart c e) s (fun t => t.reply = {} ∧ t.getC c RChan.MEAS_STATUS = 1 ∧ OnlyObjs s t [keyC c RChan.MEAS_STATUS] ∧
      (t.chan c).measSum = 0 ∧ (t.chan c).measLeft = s.getC c RChan.MEAS_COUNT ∧ (t.chan c).measTotal = s.getC c RChan.MEAS_COUNT ∧
      (t.chan c).measWait = (if s.getC c RChan.MEAS_DELAY = 0 then settleTime (s.getC c RChan.PMU_RANGE) else s.getC c RChan.MEAS_DELAY * 1000000) ∧ ChanFrame c s t)) ∧
  (∀ s c, s.getC c RChan.MEAS_STATUS = 2 → (s.chan c).measLeft = 0 →
    Gives (.measDone c) s (fun t => t.getC c RChan.MEAS_RESULT = (s.measMean c).toNat ∧
      t.getC c RChan.MEAS_STATUS = (if (s.chan c).clampHit then 4 else 3) ∧
      OnlyObjs s t [keyC c RChan.MEAS_RESULT, keyC c RChan.MEAS_STATUS] ∧ ObjFrame s t)) ∧
  (∀ s c, s.getC c RChan.MEAS_STATUS ≠ 2 ∨ (s.chan c).measLeft ≠ 0 → Gives (.measDone c) s (fun t => t = s)) ∧
  (∀ s d cv (k : Fin 512) v clamp c, s.pinPower = true → 96 ≤ k.val → k.val ≠ 511 → (s.die d).convFail.testBit cv.val = false →
    c = convChan d cv ⟨(k.val - 96) % 8, by omega⟩ →
    s.getC c RChan.MEAS_STATUS = 2 ∨ (s.getC c RChan.MEAS_STATUS = 1 ∧ s.measSettled c = true) → (s.chan c).measLeft ≠ 0 →
    Gives (.converterSlot d cv k v clamp) s (fun t => t.getC c RChan.MEAS_STATUS = 2 ∧
      (t.chan c).measSum = (s.chan c).measSum + s.sampleOf c v ∧ (t.chan c).measLeft = (s.chan c).measLeft - 1 ∧
      (t.chan c).clampHit = ((s.chan c).clampHit || clamp) ∧
      (s.getC c RChan.PMU_MODE ≠ 0 → t.getC c RChan.PMU_FLAGS = putBit (s.getC c RChan.PMU_FLAGS) 0 clamp) ∧
      OnlyObjs s t [keyC c RChan.MEAS_STATUS, keyC c RChan.PMU_FLAGS])) ∧
  (∀ s b, s.pinPower = true → (s.ports.get (0x130 + (dieOf b).val) []).length < 16 →
    Gives (.controlLinkLost b) s (fun t => (∀ c ∈ chansOf b, t.getC c RChan.PMU_MODE = 0) ∧
      t.ports.get (0x130 + (dieOf b).val) [] = s.ports.get (0x130 + (dieOf b).val) [] ++
        [{ unit := 0x130 + (dieOf b).val, kind := 0x3B, severity := 2, inject := false, epoch := 0, address := 1 <<< (b.val % 4) }]))

/-- R192, R194, R200 to R204, R206, R211, R212: frames, the capture trigger and the scope. -/
def Obligations.CaptureAndTrigger : Prop :=
  (∀ s b mode w f rest x, (s.cap b (capNo mode)).frames = f :: rest → s.fullAt b (capNo mode) f = some x → f.hi ≠ some x →
    Gives (.frameClose b mode w) s (fun t => Closed s t b (capNo mode) f w ∧
      ∃ g, (t.cap b (capNo mode)).frames = g :: rest ∧ g.firstC = x ∧ g.hi = f.hi ∧ g.segEnd = f.segEnd ∧ g.last = f.last)) ∧
  (∀ s b mode w f rest x, (s.cap b (capNo mode)).frames = f :: rest → s.fullAt b (capNo mode) f = none ∨ s.fullAt b (capNo mode) f = f.hi →
    s.earlyAt b (capNo mode) f = some x → f.last = false →
    Gives (.frameClose b mode w) s (fun t => Closed s t b (capNo mode) f w ∧ (t.cap b (capNo mode)).frames = rest)) ∧
  (∀ s b mode w f rest x, (s.cap b (capNo mode)).frames = f :: rest → s.fullAt b (capNo mode) f = none ∨ s.fullAt b (capNo mode) f = f.hi →
    s.earlyAt b (capNo mode) f = some x → f.last = true →
    Gives (.frameClose b mode w) s (fun t => Closed s t b (capNo mode) f w ∧ (t.cap b (capNo mode)).frames = [] ∧
      t.getCap b (capNo mode) RCap.STREAM_STATUS = 5 ∧ (t.cap b (capNo mode)).win = false)) ∧
  (∀ s b mode w f rest, (s.cap b (capNo mode)).frames = f :: rest → s.fullAt b (capNo mode) f = none ∨ s.fullAt b (capNo mode) f = f.hi →
    s.earlyAt b (capNo mode) f = none →
    Gives (.frameClose b mode w) s (fun t => t = s)) ∧
  (∀ s b mode w, (s.cap b (capNo mode)).frames = [] → Gives (.frameClose b mode w) s (fun t => t = s)) ∧
  (∀ s b e mode (v : BitVec 64), Ready s b e → s.getCap b (capNo mode) RCap.CONSUMED_FRAME ≤ v.toNat → v.toNat ≤ s.getCap b (capNo mode) RCap.WRITE_FRAME →
    Gives (.consumedFrameWrite b e mode v) s (fun t => t.reply = {} ∧ t.getCap b (capNo mode) RCap.CONSUMED_FRAME = v.toNat ∧
      OnlyObjs s t [keyCap b (capNo mode) RCap.CONSUMED_FRAME] ∧ ObjFrame s t)) ∧
  (∀ s b e mode (v : BitVec 64), Ready s b e → v.toNat < s.getCap b (capNo mode) RCap.CONSUMED_FRAME ∨ s.getCap b (capNo mode) RCap.WRITE_FRAME < v.toNat →
    Gives (.consumedFrameWrite b e mode v) s (fun t => t.reply = { status := ST.OUT_OF_RANGE } ∧ OnlyAnswer s t)) ∧
  (∀ s b, s.getB b RBay.TRIG_STATE = 1 → (∀ m, s.capEnabled b m = true → s.byTrigger b m = true → s.preDone b m = true) →
    Gives (.triggerArmed b) s (fun t => t.getB b RBay.TRIG_STATE = 2 ∧ BayFrame b s t ∧ t.bay b = { s.bay b with trigAt := some (s.bclkAbs b) } ∧
      (∀ m, s.capEnabled b m = true → s.byTrigger b m = true → t.getCap b m RCap.STREAM_STATUS = 3) ∧
      ∀ k, k ≠ keyB b RBay.TRIG_STATE → (∀ m, k ≠ keyCap b m RCap.STREAM_STATUS) → t.getO k = s.getO k)) ∧
  (∀ s b m, s.getB b RBay.TRIG_STATE = 1 → s.capEnabled b m = true → s.byTrigger b m = true → s.preDone b m = false →
    Gives (.triggerArmed b) s (fun t => t = s)) ∧
  (∀ s b c o h, s.hitAt b c o = some h → s.getB b RBay.TRIG_STATE = 1 ∨ s.getB b RBay.TRIG_STATE = 3 ∨
      (s.getB b RBay.TRIG_STATE = 2 ∧ (s.bay b).trigAt = some (s.bclkAbs b)) →
    Gives (.triggerRecognised b c o) s (fun t => t.getB b RBay.TRIG_IGNORED = satAdd 32 (s.getB b RBay.TRIG_IGNORED) 1 ∧
      OnlyObjs s t [keyB b RBay.TRIG_IGNORED] ∧ BayFrame b s t)) ∧
  (∀ s b c o h, s.hitAt b c o = some h → s.getB b RBay.TRIG_STATE = 2 → (s.bay b).trigAt ≠ some (s.bclkAbs b) →
    Gives (.triggerRecognised b c o) s (fun t => t.getB b RBay.TRIG_STATE = 3 ∧ t.getB b RBay.TRIG_CYCLE = c ∧
      t.getB b RBay.TRIG_OFFSET = o)) ∧
  (∀ s b c o, s.hitAt b c o = none → Gives (.triggerRecognised b c o) s (fun t => t = s)) ∧
  (∀ s b e, Ready s b e → s.getB b RBay.TRIG_SOURCE = 7 → s.getB b RBay.TRIG_STATE = 2 → (s.bay b).trigAt ≠ some (s.bclkAbs b) →
    Gives (.trigForce b e) s (fun t => t.reply = {} ∧ t.getB b RBay.TRIG_STATE = 3 ∧
      ∀ r, ((s.bay b).vrecs.filter (fun r => decide (s.sinceArmed b r.v.start ≤ s.xNow b))).getLast? = some r →
        t.getB b RBay.TRIG_CYCLE = r.v.cycle ∧ t.getB b RBay.TRIG_OFFSET = ((s.xNow b - s.sinceArmed b r.v.start).fdiv 250).toNat)) ∧
  (∀ s b e, Ready s b e → s.getB b RBay.TRIG_SOURCE ≠ 7 →
    Gives (.trigForce b e) s (fun t => t.reply = {} ∧ OnlyAnswer s t)) ∧
  (∀ s b e, Ready s b e → s.running b = true ∨ s.bst b = BS.ARMED →
    Gives (.trigRearm b e) s (fun t => t.reply = {} ∧ t.getB b RBay.TRIG_STATE = if s.getB b RBay.TRIG_SOURCE = 0 then 0 else 1)) ∧
  (∀ s b e, Ready s b e → s.running b = false → s.bst b ≠ BS.ARMED →
    Gives (.trigRearm b e) s (fun t => t.reply = { status := ST.STATE_LOCKED } ∧ OnlyAnswer s t)) ∧
  (∀ s b mode w f rest x, (s.cap b (capNo mode)).frames = f :: rest → s.windowAt b (capNo mode) f = some x →
    Gives (.windowDone b mode w) s (fun t => Closed s t b (capNo mode) f w ∧ t.getCap b (capNo mode) RCap.STREAM_STATUS = 5 ∧
      (t.cap b (capNo mode)).on = false ∧ (t.cap b (capNo mode)).win = false ∧ (t.cap b (capNo mode)).frames = [])) ∧
  (∀ s b mode w f rest, (s.cap b (capNo mode)).frames = f :: rest → s.windowAt b (capNo mode) f = none →
    Gives (.windowDone b mode w) s (fun t => t = s)) ∧
  (∀ s c h l y o r d, edgeDone (s.chan c).side h l = some r → s.getB (bayOf c) RBay.TRIG_SOURCE = 1 →
    s.getB (bayOf c) RBay.TRIG_PARAM % 16 = c.val % 16 → d = fieldOf (s.getB (bayOf c) RBay.TRIG_PARAM) 4 2 → s.bayDown (bayOf c) = false →
    Gives (.channelEdge c h l y o) s (fun t => t.getO (key (0xC400 + evChan c 3) 0 + RSrc.COUNT) =
      (s.getO (key (0xC400 + evChan c 3) 0 + RSrc.COUNT) + 1) % 2 ^ 64 ∧ OnlyObjsEv s t [] ∧ (t.chan c).side = some r ∧
      (∀ e, e ≠ c → t.chan e = s.chan e) ∧ (∀ e, e ≠ bayOf c → t.bay e = s.bay e) ∧
      ((t.bay (bayOf c)).hits.length = (s.bay (bayOf c)).hits.length +
        if s.getB (bayOf c) RBay.TRIG_STATE ≠ 0 ∧ (d = 2 ∨ (d = 0 ∧ r = true) ∨ (d = 1 ∧ r = false)) then 1 else 0))) ∧
  (∀ s c h l y o, edgeDone (s.chan c).side h l = none →
    Gives (.channelEdge c h l y o) s (fun t => OnlyObjs s t [] ∧ ChanFrame c s t ∧ t.chan c = { s.chan c with
      side := if h then some true else if l then some false else (s.chan c).side })) ∧
  (∀ s b h l, s.capEnabled b 3 = true → s.running b = true ∨ s.bst b = BS.ARMED →
    Gives (.scopeSample b h l) s (fun t => (t.cap b 3).sampled = (s.cap b 3).sampled + 1 ∧
      ((s.cap b 3).on = true → (t.cap b 3).samples.length = (s.cap b 3).samples.length + 1) ∧
      ((s.cap b 3).on = false → (t.cap b 3).samples = []) ∧ BayFrame b s t ∧ OnlyObjs s t []))

/-- R220 to R227, R230, R231, R233: the time measurement units. -/
def Obligations.TimeMeasurement : Prop :=
  (∀ s b e, TmuReady s b e → s.tmuRefusal b = none → (s.tmu b).disCyc ≠ some (s.tclk b) →
    s.getB b RBay.TMU_MODE = 2 ∨ (s.tmu b).fifo.length < 256 →
    Gives (.tmuArmRequest b e) s (fun t => t.reply = {} ∧ t.tmuState b = TS.CALIBRATING ∧ (t.tmu b).cfg.mode = s.getB b RBay.TMU_MODE ∧
      (t.tmu b).cfg.gate = s.getB b RBay.GATE ∧ (t.tmu b).cfg.repeat_ = s.getB b RBay.REPEAT ∧ (t.tmu b).cfg.timeout = s.getB b RBay.TIMEOUT ∧
      (t.tmu b).hit0 = none ∧ (t.tmu b).fifo = (s.tmu b).fifo ∧ OnlyObjs s t [keyB b RBay.TMU_STATE] ∧ BayFrame b s t)) ∧
  (∀ s b e, TmuReady s b e → s.tmuRefusal b = none → (s.tmu b).disCyc ≠ some (s.tclk b) → s.getB b RBay.TMU_MODE ≠ 2 →
    256 ≤ (s.tmu b).fifo.length →
    Gives (.tmuArmRequest b e) s (fun t => t.reply = {} ∧ t.tmuState b = TS.FULL ∧ OnlyObjs s t [keyB b RBay.TMU_STATE] ∧ BayFrame b s t)) ∧
  (∀ s b e, TmuReady s b e → s.tmuRefusal b = none → (s.tmu b).disCyc = some (s.tclk b) →
    Gives (.tmuArmRequest b e) s (fun t => t.tmuState b = TS.IDLE ∧ t.getB b RBay.ARM_REFUSED = satAdd 32 (s.getB b RBay.ARM_REFUSED) 1 ∧
      OnlyObjs s t [keyB b RBay.TMU_STATE, keyB b RBay.ARM_REFUSED] ∧ BayFrame b s t)) ∧
  (∀ s b e, TmuReady s b e → s.tmuRefusal b = some none →
    Gives (.tmuArmRequest b e) s (fun t => t.reply = { status := ST.STATE_LOCKED } ∧ t.getB b RBay.ARM_REFUSED = satAdd 32 (s.getB b RBay.ARM_REFUSED) 1 ∧
      OnlyObjsEv s t [keyB b RBay.ARM_REFUSED] ∧ ReportFrame s t)) ∧
  (∀ s b e, s.operational = true → s.locked (24 + b.val) = false →
    Gives (.tmuArmRequest b e) s (fun t => t.reply = { status := ST.STATE_LOCKED } ∧ OnlyAnswer s t)) ∧
  (∀ s b e, TmuReady s b e → (s.tmu b).armCyc ≠ some (s.tclk b) →
    Gives (.tmuDisarmRequest b e) s (fun t => t.reply = {} ∧ t.tmuState b = TS.IDLE ∧
      t.tmu b = { s.tmu b with between := false, hit0 := none, hit1 := none, due := none, armCyc := none, disCyc := some (s.tclk b) } ∧
      OnlyObjs s t [keyB b RBay.TMU_STATE] ∧ BayFrame b s t)) ∧
  (∀ s b e, TmuReady s b e → (s.tmu b).armCyc = some (s.tclk b) →
    Gives (.tmuDisarmRequest b e) s (fun t => t.reply = {} ∧ t.tmuState b = TS.IDLE ∧
      t.getB b RBay.ARM_REFUSED = satAdd 32 (s.getB b RBay.ARM_REFUSED) 1)) ∧
  (∀ s b w n, s.tmuState b = TS.CALIBRATING → (s.tmu b).between = false → 500000 ≤ 128 * w → 128 * w ≤ 525000 →
    Gives (.tmuCalibrationDone b w n) s (fun t => t.tmuState b = TS.WAITING ∧
      t.tmu b = { s.tmu b with w := w, n0 := n, due := some (s.now + (s.tmu b).cfg.timeout * 1000000000) } ∧
      t.getB b RBay.LSB_FS = w ∧ OnlyObjs s t [keyB b RBay.TMU_STATE, keyB b RBay.LSB_FS] ∧ BayFrame b s t)) ∧
  (∀ s b r x k n, Hits s b r x → s.tmuState b ≠ TS.WAITING →
    Gives (.tmuHit b r x k n) s (fun t => t.getB b RBay.EARLY_HITS = satAdd 32 (s.getB b RBay.EARLY_HITS) 1 ∧
      OnlyObjs s t [keyB b RBay.EARLY_HITS] ∧ ObjFrame (s.advance (s.now + 500 * k)) t)) ∧
  (∀ s b r x k n, s.locked (24 + b.val) = true → s.routeServes b r (s.hitRoute b r).1 = false →
    Gives (.tmuHit b r x k n) s (fun t => t = s.advance (s.now + 500 * k))) ∧
  (∀ s b x k n u, Hits s b 0 x → s.tmuState b = TS.WAITING → (s.tmu b).cfg.mode = 1 → (s.tmu b).hit0 = none → (s.tmu b).hit1 = none →
    (s.tmu b).seen.get 0 = none → u = s.advance (s.now + 500 * k) →
    Gives (.tmuHit b 0 x k n) s (fun t => (t.tmu b).hit0 = some (s.hitTime b (u.coarse b) n) ∧ (t.tmu b).fifo = (s.tmu b).fifo ∧
      OnlyObjs u t [] ∧ BayFrame b u t)) ∧
  (∀ s b x k n y u, Hits s b 1 x → s.tmuState b = TS.WAITING → (s.tmu b).cfg.mode = 1 → (s.tmu b).cfg.signed = false →
    (s.tmu b).hit0 = some y → (s.tmu b).seen.get 1 = none → u = s.advance (s.now + 500 * k) →
    -((s.tmu b).w : Int) < hitDiff (s.hitTime b (u.coarse b) n) y → (s.tmu b).fifo.length < 255 →
    Gives (.tmuHit b 1 x k n) s (fun t => (t.tmu b).fifo.length = (s.tmu b).fifo.length + 1 ∧ t.getB b RBay.RESULT_COUNT = (s.tmu b).fifo.length + 1 ∧
      (t.tmu b).repeats = (s.tmu b).repeats + 1)) ∧
  (∀ s b u, s.tmuState b = TS.WAITING → (s.tmu b).cfg.mode = 3 → (s.tmu b).hit0.isSome = true → (s.tmu b).gateOver = false →
    u = s.advance ((s.tmu b).due.getD 0) →
    Gives (.tmuGateExpiry b) s (fun t => t.tmu b = { s.tmu b with gateOver := true, due := some (u.now + (s.tmu b).cfg.timeout * 1000000000) } ∧
      OnlyObjs u t [] ∧ BayFrame b u t)) ∧
  (∀ s b, s.tmuState b = TS.WAITING → (s.tmu b).cfg.mode ≠ 3 →
    Gives (.tmuTimeout b) s (fun t => t.getB b RBay.TIMEOUTS = satAdd 32 (s.getB b RBay.TIMEOUTS) 1 ∧ (t.tmu b).repeats = (s.tmu b).repeats + 1 ∧
      t.now = max s.now ((s.tmu b).due.getD 0))) ∧
  (∀ s b, (s.tmu b).between = true → s.locked (24 + b.val) = true → (s.tmu b).cfg.mode = 2 ∨ (s.tmu b).fifo.length < 256 →
    Gives (.tmuRepeat b) s (fun t => t.tmuState b = TS.CALIBRATING ∧ (t.tmu b).between = false ∧ (t.tmu b).hit0 = none ∧
      OnlyObjs s t [keyB b RBay.TMU_STATE] ∧ BayFrame b s t)) ∧
  (∀ s b, (s.tmu b).between = false ∨ s.locked (24 + b.val) = false → Gives (.tmuRepeat b) s (fun t => t = s)) ∧
  (∀ s b, s.locked (24 + b.val) = true → (s.tmu b).between = true ∨ (s.tmuState b ≠ TS.CALIBRATING ∧ s.tmuState b ≠ TS.WAITING) →
    Gives (.tmuRefLost b) s (fun t => t.getO R.LOCK_MASK = clrBit (s.getO R.LOCK_MASK) (24 + b.val) ∧ OnlyObjs s t [R.LOCK_MASK] ∧ ObjFrame s t)) ∧
  (∀ s b, s.locked (24 + b.val) = true → (s.tmu b).between = false → s.tmuState b = TS.CALIBRATING ∨ s.tmuState b = TS.WAITING →
    Gives (.tmuRefLost b) s (fun t => t.getO R.LOCK_MASK = clrBit (s.getO R.LOCK_MASK) (24 + b.val) ∧
      (t.tmu b).repeats = (s.tmu b).repeats + 1 ∧
      (if (s.tmu b).cfg.repeat_ ≠ 0 ∧ (s.tmu b).cfg.repeat_ ≤ (s.tmu b).repeats + 1 then t.tmuState b = TS.IDLE
        else (t.tmu b).between = true))) ∧
  (∀ s b, Gives (.tclkRelock b) s (fun t => t.getO R.LOCK_MASK = orBit (s.getO R.LOCK_MASK) (24 + b.val) ∧ OnlyObjs s t [R.LOCK_MASK] ∧
    BayFrame b s t ∧ t.tmu b = { s.tmu b with lockAt := s.now })) ∧
  (∀ s b r f, s.operational = true → s.locked (24 + b.val) = true → (s.tmu b).fifo = r :: f → (s.tmu b).between = false →
    Gives (.resultRead b) s (fun t => t.reply = { body := r } ∧ (t.tmu b).fifo = f ∧ t.getB b RBay.RESULT_COUNT = f.length ∧
      OnlyObjs s t [keyB b RBay.RESULT_COUNT] ∧ BayFrame b s t)) ∧
  (∀ s b, s.operational = true → s.locked (24 + b.val) = true → (s.tmu b).fifo = [] → (s.tmu b).between = false →
    Gives (.resultRead b) s (fun t => t.reply = { body := toBytes 16 0 } ∧ (t.tmu b).fifo = [])) ∧
  (∀ s b r f, s.operational = true → s.locked (24 + b.val) = true → (s.tmu b).fifo = r :: f → (s.tmu b).between = false →
    Gives (.resultBlockRead b) s (fun t => t.reply = { body := ((r :: f).take 64).flatten } ∧ (t.tmu b).fifo = (r :: f).drop 64 ∧
      t.getB b RBay.RESULT_COUNT = (r :: f).length - 64 ∧ OnlyObjs s t [keyB b RBay.RESULT_COUNT] ∧ BayFrame b s t)) ∧
  (∀ s b e, TmuReady s b e → (s.tmu b).between = false →
    Gives (.fifoClear b e) s (fun t => t.reply = {} ∧ t.tmu b = { s.tmu b with fifo := [] } ∧ t.getB b RBay.RESULT_COUNT = 0 ∧
      OnlyObjs s t [keyB b RBay.RESULT_COUNT] ∧ BayFrame b s t)) ∧
  (∀ s, s.getO R.REF_WARM = 1 → Gives (.refWarmChange false) s (fun t => t.getO R.REF_WARM = 0 ∧ ∀ b, t.getB b RBay.WARM_STATE = 0)) ∧
  (∀ s, s.getO R.REF_WARM = 0 → Gives (.refWarmChange true) s (fun t => t.getO R.REF_WARM = 1 ∧ OnlyObjsEv s t [R.REF_WARM] ∧ ReportFrame s t)) ∧
  (∀ s, s.getO R.REF_WARM = 1 → Gives (.refWarmChange true) s (fun t => t = s))

/-- R237, R238, R240, R241, R243, R248 to R250, R254, R256, R260, R266: the matching store, dispatch and the cores. -/
def Obligations.TokensAndFirings : Prop :=
  (∀ s k, s.hasPort k.graph k.node k.port = false → Gives (.tokenArrival k) s (fun t => t = s)) ∧
  (∀ s k, Settled s → k.graph < 64 → s.hasPort k.graph k.node k.port = true → s.filled k = false → s.completes k = none → s.storeUsed < 65536 →
    Gives (.tokenArrival k) s (fun t => t = { s with objs := t.objs, store := s.store ++ [k] } ∧
      ∀ j, schedObj j = false → t.getO j = s.getO j)) ∧
  (∀ s k o, Settled s → k.graph < 64 → s.hasPort k.graph k.node k.port = true → s.filled k = false → s.completes k = some o → s.storeUsed < 65536 →
    s.readyRoom k.graph = true →
    Gives (.tokenArrival k) s (fun t => t.store = s.store.filter (fun x => !o.contains x) ∧ t.lastFired = s.now ∧
      (∃ w : Work, w.graph = k.graph ∧ w.node = k.node ∧ w.seq = k.seq ∧ (t.bench (s.home k.graph)).ready = (s.bench (s.home k.graph)).ready ++ [w]) ∧
      ∀ j, schedObj j = false → t.getO j = s.getO j)) ∧
  (∀ s k, Settled s → k.graph < 64 → s.hasPort k.graph k.node k.port = true → s.filled k = true → k.buf = false →
    Gives (.tokenArrival k) s (fun t => t.store = s.store ∧ t.benches = s.benches ∧ t.bufs = s.bufs ∧
      t.getG k.graph RGraph.DISCARDED_OPERANDS = satAdd 32 (s.getG k.graph RGraph.DISCARDED_OPERANDS) 1 ∧
      ∀ j, j ≠ keyG k.graph RGraph.DISCARDED_OPERANDS → schedObj j = false → t.getO j = s.getO j)) ∧
  (∀ s (g : Graph) (e : BitVec 16) n p q v, s.operational = true → e.toNat ≠ s.getG g.val RGraph.GRAPH_EPOCH →
    Gives (.post g e n p q v) s (fun t => t.reply = { status := ST.STALE_EPOCH, detail := s.getG g.val RGraph.GRAPH_EPOCH * 2 ^ 16 } ∧
      t.getG g.val RGraph.STALE_COUNT = satAdd 32 (s.getG g.val RGraph.STALE_COUNT) 1 ∧
      OnlyObjs s t [keyG g.val RGraph.STALE_COUNT] ∧ ObjFrame s t)) ∧
  (∀ s (g : Graph) (e : BitVec 16) (n : BitVec 8) (p : Fin 4) q v, s.operational = true → e.toNat = s.getG g.val RGraph.GRAPH_EPOCH →
    s.hasPort g.val n.toNat p.val = false →
    Gives (.post g e n p q v) s (fun t => t.reply = { status := ST.OUT_OF_RANGE } ∧ OnlyAnswer s t)) ∧
  (∀ s (g : Graph) (e : BitVec 16) (n : BitVec 8) (p : Fin 4) (q : BitVec 32) (v : BitVec 64), Settled s → s.operational = true →
    e.toNat = s.getG g.val RGraph.GRAPH_EPOCH → s.hasPort g.val n.toNat p.val = true →
    let k : Token := ⟨g.val, n.toNat, p.val, q.toNat, v.toNat, false⟩
    s.accepts k = true → s.filled k = false → s.completes k = none → s.storeUsed < 65536 →
    Gives (.post g e n p q v) s (fun t => t.reply = {} ∧ t = { s with objs := t.objs, reply := t.reply, store := s.store ++ [k] } ∧
      ∀ j, schedObj j = false → t.getO j = s.getO j)) ∧
  (∀ s (g : Graph) (e : BitVec 16) (n : BitVec 8) (p : Fin 4) (q : BitVec 32) (v : BitVec 64), s.operational = true →
    e.toNat = s.getG g.val RGraph.GRAPH_EPOCH → s.hasPort g.val n.toNat p.val = true →
    let k : Token := ⟨g.val, n.toNat, p.val, q.toNat, v.toNat, false⟩
    s.accepts k = false →
    Gives (.post g e n p q v) s (fun t => t.hostPosts = s.hostPosts ++ [⟨k, e.toNat, s.now + 1000000000, none⟩] ∧ t.store = s.store ∧
      t.getO (R.BP_WAITS + 4) = satAdd 32 (s.getO (R.BP_WAITS + 4)) 1 ∧ OnlyObjs s t [R.BP_WAITS + 4])) ∧
  (∀ s, s.hostPosts = [] → Gives .hostPostTimeout s (fun t => t = s)) ∧
  (∀ s k e d r, s.hostPosts = ⟨k, e, d, none⟩ :: r → Gives .hostPostTimeout s (fun t => t.reply = { status := ST.STATE_LOCKED } ∧
    t = { s with hostPosts := r, now := max s.now d, reply := t.reply })) ∧
  (∀ s k e d i r, s.hostPosts = ⟨k, e, d, some i⟩ :: r → Gives .hostPostTimeout s (fun t =>
    t = { s with hostPosts := r, now := max s.now d, postEnds := s.postEnds ++ [(i, ST.STATE_LOCKED, 0)] })) ∧
  (∀ s n i w m c hit, Settled s → (s.countPool n).head n = some (i, w) → (s.countPool n).chooseCore n w = some (m, c, hit) →
    (s.core m c).running = none → w.graph < 64 →
    Gives (.workDispatch n) s (fun t => (t.core m c).running = some { w with res := ndOut (s.node w.graph w.node), limit := s.getO R.WORK_LIMIT } ∧
      (t.bench n).ready = ((s.countPool n).bench n).ready.eraseIdx i ∧ t.store = s.store ∧
      t.lastCore.get (w.graph * 256 + w.node) 0 = coreNo m c + 1)) ∧
  (∀ s n, (s.countPool n).head n = none → Gives (.workDispatch n) s (fun t => t.store = s.store ∧ t.benches = (s.countPool n).benches)) ∧
  (∀ s n c r, (s.core n c).running = none ∨ (s.core n c).left.isSome = true → Gives (.workComplete n c r) s (fun t => t = s)) ∧
  (∀ s n c w r, (s.core n c).running = some w → s.resultFits n w r = false → Gives (.workComplete n c r) s (fun t => t = s)) ∧
  (∀ s n c w reqs, Settled s → (s.core n c).running = some w → (s.core n c).left = none → (s.core n c).queue = [] → w.graph < 64 →
    (w.ops.filter (fun o => o.2.2)) = [] → s.resultFits n w (.done [] reqs [] none) = true →
    let all := s.reqsOf n w (.done [] reqs [] none)
    (s.bench n).reqs.length + all.length ≤ 64 →
    Gives (.workComplete n c (.done [] reqs [] none)) s (fun t => (t.core n c).running = none ∧
      (t.bench n).reqs = (s.bench n).reqs ++ all.map (fun q => ⟨w.graph, w.node, w.seq, q, s.getG w.graph RGraph.SITE_EPOCH⟩) ∧
      t.getG w.graph RGraph.FIRINGS = (s.getG w.graph RGraph.FIRINGS + 1) % 2 ^ 64 ∧ t.store = s.store ∧ t.inst = s.inst)) ∧
  (∀ s n c w (code : NodeErr) reqs, Settled s → (s.core n c).running = some w → (s.core n c).left = none → (s.core n c).queue = [] →
    w.graph < 64 → w.node < 255 → (w.ops.filter (fun o => o.2.2)) = [] → s.dests w.graph w.node 3 = [] →
    (s.bench n).reqs.length + reqs.length ≤ 64 →
    Gives (.workComplete n c (.error code reqs)) s (fun t => (t.core n c).running = none ∧
      (t.bench n).reqs = (s.bench n).reqs ++ reqs.map (fun q => ⟨w.graph, w.node, w.seq, q, s.getG w.graph RGraph.SITE_EPOCH⟩) ∧
      t.getG w.graph RGraph.ERRORS = satAdd 32 (s.getG w.graph RGraph.ERRORS) 1 ∧
      t.getG w.graph RGraph.LAST_ERROR = w.node + code.code * 256 ∧ t.getO (keyNode w.graph w.node) % 256 = code.code ∧ t.store = s.store)) ∧
  (∀ s n c w r, (s.core n c).running = some w → (s.core n c).left = none → s.resultFits n w r = true →
    let all := s.reqsOf n w r
    let room := 64 - (s.bench n).reqs.length
    room < all.length →
    Gives (.workComplete n c r) s (fun t => (t.core n c).running = some w ∧ (t.core n c).left = some (all.drop room, r) ∧
      (t.bench n).reqs = (s.bench n).reqs ++ (all.take room).map (fun q => ⟨w.graph, w.node, w.seq, q, s.getG w.graph RGraph.SITE_EPOCH⟩) ∧
      t = { s with benches := t.benches })) ∧
  (∀ s n c, (s.core n c).running = none → Gives (.workLimit n c) s (fun t => t = s)) ∧
  (∀ s n c w, Settled s → (s.core n c).running = some w → (s.core n c).queue = [] → w.graph < 64 → w.node < 255 →
    (w.ops.filter (fun o => o.2.2)) = [] → s.dests w.graph w.node 3 = [] →
    Gives (.workLimit n c) s (fun t => (t.core n c).running = none ∧ t.now = max s.now (s.core n c).due ∧
      t.getG w.graph RGraph.LAST_ERROR = w.node + 2 * 256 ∧ t.store = s.store)) ∧
  (∀ s n c, (s.core n c).running = none → (s.core n c).queue = [] →
    Gives (.coreFault n c false) s (fun t => (t.core n c).running = none ∧
      t.getO (keyBench n.val RBench.CORES_IN_SERVICE) = clrBit (s.getO (keyBench n.val RBench.CORES_IN_SERVICE)) c.val ∧ t.store = s.store)) ∧
  (∀ s, s.storeUsed < 65536 → Gives .storeDeadlock s (fun t => t = s)) ∧
  (∀ s (g : Graph), Settled s → 65536 ≤ s.storeUsed → (∀ x ∈ s.store, x.graph = g.val ∧ x.buf = false) →
    Gives .storeDeadlock s (fun t => t.store = [] ∧ t.now = max s.now (s.lastFired + 1000000000) ∧
      t.getG g.val RGraph.DEADLOCK_CLEARED = satAdd 32 (s.getG g.val RGraph.DEADLOCK_CLEARED) 1 ∧ t.benches = s.benches))

/-- R247, R251 to R254, R257, R258, R260, R261, R263 to R265: graphs, their sources and the benches. -/
def Obligations.GraphsAndBenches : Prop :=
  (∀ s (g : Graph) (e : BitVec 16), s.operational = true → e.toNat = s.getG g.val RGraph.GRAPH_EPOCH →
    s.getG g.val RGraph.GRAPH_STATE = GS.LOADED ∨ s.getG g.val RGraph.GRAPH_STATE = GS.STOPPED →
    Gives (.startRequest g e) s (fun t => t.reply = {} ∧ t.getG g.val RGraph.GRAPH_STATE = GS.RUNNING ∧ t.getG g.val RGraph.FIRINGS = 0 ∧
      t.getG g.val RGraph.ERRORS = 0 ∧ t.getG g.val RGraph.GRAPH_EPOCH = s.getG g.val RGraph.GRAPH_EPOCH)) ∧
  (∀ s (g : Graph) (e : BitVec 16), s.operational = true → e.toNat = s.getG g.val RGraph.GRAPH_EPOCH →
    s.getG g.val RGraph.GRAPH_STATE ≠ GS.LOADED → s.getG g.val RGraph.GRAPH_STATE ≠ GS.STOPPED →
    Gives (.startRequest g e) s (fun t => t.reply = { status := ST.STATE_LOCKED } ∧ OnlyAnswer s t)) ∧
  (∀ s (g : Graph) (e : BitVec 16), s.operational = true → e.toNat = s.getG g.val RGraph.GRAPH_EPOCH →
    s.getG g.val RGraph.GRAPH_STATE = GS.RUNNING →
    Gives (.stopRequest g e) s (fun t => t.reply = {} ∧ t.getG g.val RGraph.GRAPH_STATE = GS.DRAINING ∧ t.drains.get g.val 0 = 1 ∧
      t.store = s.store ∧ OnlyObjs s t [keyG g.val RGraph.GRAPH_STATE])) ∧
  (∀ s (g : Graph) (e : BitVec 16), s.operational = true → e.toNat = s.getG g.val RGraph.GRAPH_EPOCH →
    s.getG g.val RGraph.GRAPH_STATE ≠ GS.RUNNING →
    Gives (.stopRequest g e) s (fun t => t.reply = { status := ST.STATE_LOCKED } ∧ OnlyAnswer s t)) ∧
  (∀ s g, s.drained g.val = false → Gives (.graphDrainComplete g) s (fun t => t = s)) ∧
  (∀ s (g : Graph), Settled s → (∀ e k, s.chState e k ≠ CH.HOLDING) → s.drained g.val = true → s.drains.get g.val 0 = 1 →
    Gives (.graphDrainComplete g) s (fun t => t.getG g.val RGraph.GRAPH_STATE = GS.STOPPED ∧ t.drains.get g.val 0 = 0 ∧
      t.store = s.store.filter (fun k => !(k.graph == g.val)) ∧ t.inst = s.inst)) ∧
  (∀ s (g : Graph) i, (∀ e k, s.chState e k ≠ CH.HOLDING) → s.getG g.val RGraph.GRAPH_STATE ≠ GS.RUNNING →
    s.getG g.val RGraph.GRAPH_STATE ≠ GS.DRAINING → s.getG g.val RGraph.GRAPH_STATE ≠ GS.SITE_STALE →
    Gives (.bindingPost g i) s (fun t => t = s)) ∧
  (∀ s (g : Graph) (i : Fin 64), Settled s → (∀ e k, s.chState e k ≠ CH.HOLDING) → s.getG g.val RGraph.GRAPH_STATE = GS.RUNNING →
    bnType (s.binding g.val i.val) = 2 → s.bindCount (s.binding g.val i.val) ≠ (s.bindU g.val i.val).seen →
    let n := s.bindCount (s.binding g.val i.val)
    let k := bindToken g.val (s.binding g.val i.val) (s.bindU g.val i.val).posts ((n + 2 ^ 64 - (s.bindU g.val i.val).seen) % 2 ^ 64)
    s.accepts k = true → s.filled k = false → s.completes k = none → s.storeUsed < 65536 →
    Gives (.bindingPost g i) s (fun t => t.store = s.store ++ [k] ∧ (t.bindU g.val i.val).seen = n ∧
      (t.bindU g.val i.val).posts = (s.bindU g.val i.val).posts + 1)) ∧
  (∀ s (g : Graph) (i : Fin 64), (∀ e k, s.chState e k ≠ CH.HOLDING) → s.getG g.val RGraph.GRAPH_STATE = GS.DRAINING →
    bnType (s.binding g.val i.val) = 2 → s.bindCount (s.binding g.val i.val) ≠ (s.bindU g.val i.val).seen →
    Gives (.bindingPost g i) s (fun t => t.store = s.store ∧ t.binds = s.binds ∧
      t.getO (R.BP_WAITS + 1) = satAdd 32 (s.getO (R.BP_WAITS + 1)) 1 ∧ OnlyObjs s t [R.BP_WAITS + 1])) ∧
  (∀ s i, s.delays.get i = [] → Gives (.delayEntryExpiry i) s (fun t => t = s)) ∧
  (∀ s i d k h no r, Settled s → s.delays.get i = ⟨d, .post k, h, no⟩ :: r → k.graph < 64 → s.drains.get k.graph 0 = 0 →
    s.hasPort k.graph k.node k.port = true → s.filled k = false → s.completes k = none → s.storeUsed < 65536 →
    Gives (.delayEntryExpiry i) s (fun t => t.store = s.store ++ [k] ∧ t.delays.get i = r ∧ t.now = max s.now d)) ∧
  (∀ s i d k h no r, s.delays.get i = ⟨d, .post k, h, no⟩ :: r → s.drains.get k.graph 0 ≠ 0 →
    Gives (.delayEntryExpiry i) s (fun t => t.store = s.store ∧ t.delays.get i = ⟨d, .post k, true, no⟩ :: r)) ∧
  (∀ s b, (s.bay b).objQueue = [] → Gives (.internalObjectRequest (.microword b)) s (fun t => t = s)) ∧
  (∀ s n, (s.bench n).reqs = [] → Gives (.internalObjectRequest (.bench n)) s (fun t => t = s)) ∧
  (∀ s b imm r, s.operational = true → s.bayDown b = false → imm < 2 ^ 32 → (s.bay b).objQueue = (keyB b RBay.USER_FLAGS, imm, s.getB b RBay.SITE_EPOCH) :: r →
    Gives (.internalObjectRequest (.microword b)) s (fun t => t.getB b RBay.USER_FLAGS = imm ∧ (t.bay b).objQueue = r ∧ t.reply = s.reply ∧
      OnlyObjs s t [keyB b RBay.USER_FLAGS])) ∧
  (∀ s n q w r, Settled s → (s.bench n).reqs = q :: r → q.req = .write w → onPath w.addr = false → s.dests q.graph q.node 3 = [] →
    q.graph < 64 → q.node < 255 → (∀ c, (s.core n c).left = none) →
    Gives (.internalObjectRequest (.bench n)) s (fun t => (t.bench n).reqs = r ∧ t.reply = s.reply ∧
      t.getG q.graph RGraph.LAST_ERROR = q.node + 4 * 256 ∧ t.getG q.graph RGraph.ERRORS = satAdd 32 (s.getG q.graph RGraph.ERRORS) 1)) ∧
  (∀ s n, s.operational = true → s.benchState n = BN.RUNNING → Gives (.benchDrain n) s (fun t => t.reply = {} ∧ t.benchState n = BN.DRAINING ∧
    ObjFrame s t ∧ OnlyObjs s t [keyBench n.val RBench.BENCH_STATE, R.CATALOGUE_VERSION, R.KERNEL_COUNT])) ∧
  (∀ s n, s.operational = true → s.benchState n ≠ BN.RUNNING → Gives (.benchDrain n) s (fun t => t.reply = { status := ST.STATE_LOCKED } ∧ OnlyAnswer s t)) ∧
  (∀ s n, s.benchState n = BN.DRAINING → (∀ c, (s.core n c).works = []) → s.blocked = [] → (s.bench n).ready = [] →
    Gives (.benchDrained n) s (fun t => t.benchState n = BN.DRAINED ∧ ObjFrame s t ∧
      OnlyObjs s t [keyBench n.val RBench.BENCH_STATE, R.CATALOGUE_VERSION, R.KERNEL_COUNT])) ∧
  (∀ s n, s.benchState n ≠ BN.DRAINING → Gives (.benchDrained n) s (fun t => t = s)) ∧
  (∀ s n, s.operational = true → s.benchState n = BN.DRAINED → Gives (.benchLoad n) s (fun t => t.reply = {} ∧ t.benchState n = BN.LOADING ∧
    ObjFrame s t ∧ OnlyObjs s t [keyBench n.val RBench.BENCH_STATE, R.CATALOGUE_VERSION, R.KERNEL_COUNT])) ∧
  (∀ s n, s.operational = true → s.benchState n ≠ BN.DRAINED → Gives (.benchLoad n) s (fun t => t.reply = { status := ST.STATE_LOCKED } ∧ OnlyAnswer s t)) ∧
  (∀ s n v r, s.benchState n ≠ BN.LOADING → Gives (.benchLoadComplete n v r) s (fun t => t = s)) ∧
  (∀ s n r, s.benchState n = BN.LOADING → Gives (.benchLoadComplete n false r) s (fun t => t.reply = { status := ST.CRYPTO_ERROR } ∧
    t.benchState n = BN.DRAINED ∧ t.getO (keyBench n.val RBench.BENCH_CATALOGUE) = s.getO (keyBench n.val RBench.BENCH_CATALOGUE))) ∧
  (∀ s n (r : BitVec 32), s.benchState n = BN.LOADING → (s.fwSlots.get (Fin.ofNat 2 (s.getO (keyBench n.val RBench.BENCH_IMAGE)))).cut = false →
    Gives (.benchLoadComplete n true r) s (fun t => t.reply = s.reply ∧ t.benchState n = BN.DRAINED ∧
      t.getO (keyBench n.val RBench.BENCH_CATALOGUE) = r.toNat)) ∧
  (∀ s n, s.operational = true → s.benchState n = BN.DRAINED → Gives (.benchResume n) s (fun t => t.reply = {} ∧ t.benchState n = BN.RUNNING ∧
    ∀ e ∈ t.lastCore, (e.2 - 1) / 16 ≠ n.val ∨ e.2 = 0)) ∧
  (∀ s n, s.operational = true → s.benchState n ≠ BN.DRAINED → Gives (.benchResume n) s (fun t => t.reply = { status := ST.STATE_LOCKED } ∧ OnlyAnswer s t)) ∧
  (∀ s, s.operational = true → Gives .peakClear s (fun t => t.reply = {} ∧ t.getO R.STORE_PEAK = 0 ∧ OnlyObjs s t [R.STORE_PEAK] ∧ ObjFrame s t))

/-- R294, R297 to R299, R301 to R303, R305 to R309: the DMA channels. -/
def Obligations.DmaChannels : Prop :=
  (∀ s e k, s.operational = true → s.chState e k = CH.IDLE → (k.val = 0 → s.coreOut = false) → s.getD e k RDma.PAUSE ≠ 1 →
    Gives (.chanStart e k) s (fun t => t.reply = {} ∧ t.chState e k = CH.RUNNING ∧ t.getD e k RDma.CUR_DESC = s.getD e k RDma.CHAIN_HEAD ∧
      t.getD e k RDma.ERROR = 0 ∧ t.getD e k RDma.DESC_DONE = 0 ∧ t.getD e k RDma.BYTES_DONE = 0 ∧
      t.getD e k RDma.HOPS = (if isProg k then 0 else 1) ∧ (t.dma e k).fetch = !isProg k ∧ t.mem = s.mem)) ∧
  (∀ s e k, s.operational = true → s.chState e k = CH.IDLE → (k.val = 0 → s.coreOut = false) → s.getD e k RDma.PAUSE = 1 →
    Gives (.chanStart e k) s (fun t => t.reply = {} ∧ t.chState e k = CH.PAUSED)) ∧
  (∀ s e k, s.operational = true → s.chState e k ≠ CH.IDLE →
    Gives (.chanStart e k) s (fun t => t.reply = { status := ST.STATE_LOCKED } ∧ OnlyAnswer s t)) ∧
  (∀ s e k, s.operational = true → s.chState e k ≠ CH.HALTED →
    Gives (.chanRetry e k) s (fun t => t.reply = { status := ST.STATE_LOCKED } ∧ OnlyAnswer s t)) ∧
  (∀ s e k, s.operational = true → s.chState e k = CH.HALTED → s.getD e k RDma.ERROR = DE.LOOP →
    Gives (.chanRetry e k) s (fun t => t.reply = {} ∧ Halted s t e k DE.LOOP 0)) ∧
  (∀ s e k, s.operational = true → s.chState e k = CH.HALTED → s.getD e k RDma.ERROR ≠ DE.LOOP → s.getD e k RDma.ERROR ≠ DE.WAIT_TIMEOUT →
    s.getD e k RDma.PAUSE ≠ 1 →
    Gives (.chanRetry e k) s (fun t => t.reply = {} ∧ t.chState e k = CH.RUNNING ∧ t.mem = s.mem)) ∧
  (∀ s e k, s.operational = true → s.chState e k = CH.HALTED → s.getD e k RDma.ERROR = DE.WAIT_TIMEOUT →
    Gives (.chanRetry e k) s (fun t => t.reply = {} ∧ t.chState e k = CH.WAITING ∧
      (t.dma e k).waitDue = s.now + s.getD e k RDma.WAIT_LIMIT * 1000000000)) ∧
  (∀ s e k, s.operational = true → s.chState e k ≠ CH.HALTED →
    Gives (.chanSkip e k) s (fun t => t.reply = { status := ST.STATE_LOCKED } ∧ OnlyAnswer s t)) ∧
  (∀ s e k d, s.operational = true → s.chState e k = CH.HALTED → isProg k = false → (s.dma e k).desc = some d → d.testBit 428 = false →
    d.testBit 426 = true → dPort d true = 0 →
    Gives (.chanSkip e k) s (fun t => t.reply = {} ∧ t.chState e k = CH.IDLE ∧
      t.getD e k RDma.DESC_DONE = (s.getD e k RDma.DESC_DONE + 1) % 2 ^ 64 ∧ t.mem = s.mem)) ∧
  (∀ s e k, s.operational = true →
    Gives (.chanAbort e k) s (fun t => t.reply = {} ∧ t.chState e k = CH.IDLE ∧ (t.dma e k).desc = none ∧ t.mem = s.mem)) ∧
  (∀ s e k, s.operational = true → s.chState e k = CH.RUNNING → s.serves_ e k = false →
    Gives (.dmaPauseWrite e k true) s (fun t => t.reply = {} ∧ t.chState e k = CH.PAUSED ∧ t.getD e k RDma.PAUSE = 1)) ∧
  (∀ s e k, s.operational = true → s.chState e k = CH.RUNNING → s.serves_ e k = true → (s.dma e k).desc.isSome = true →
    Gives (.dmaPauseWrite e k true) s (fun t => t.reply = {} ∧ t.chState e k = CH.PAUSING ∧ t.getD e k RDma.PAUSE = 1)) ∧
  (∀ s e k, s.operational = true → s.chState e k = CH.PAUSED →
    Gives (.dmaPauseWrite e k false) s (fun t => t.reply = {} ∧ t.chState e k = CH.RUNNING ∧ t.getD e k RDma.PAUSE = 0)) ∧
  (∀ s e k, s.chState e k = CH.PAUSING → Gives (.dmaPaused e k) s (fun t => t.chState e k = CH.PAUSED)) ∧
  (∀ s e k, s.chState e k ≠ CH.PAUSING → Gives (.dmaPaused e k) s (fun t => t = s)) ∧
  (∀ s e k c, s.serves_ e k = false → Gives (.descFetch e k c) s (fun t => t = s)) ∧
  (∀ s e k c, s.serves_ e k = true → s.chState e k = CH.RUNNING → (s.dma e k).fetch = true → s.readAnswer (s.getD e k RDma.CUR_DESC) 64 ≠ MR.OK →
    Gives (.descFetch e k c) s (fun t => Halted s t e k DE.DESC_FETCH (s.getD e k RDma.CUR_DESC))) ∧
  (∀ s e k, s.serves_ e k = true → s.chState e k = CH.RUNNING → (s.dma e k).fetch = true → s.readAnswer (s.getD e k RDma.CUR_DESC) 64 = MR.OK →
    let d := ofBytes (memRead s.mem (s.getD e k RDma.CUR_DESC) 64)
    s.descError e k d ≠ 0 →
    Gives (.descFetch e k .clean) s (fun t => Halted s t e k (s.descError e k d) 0)) ∧
  (∀ s e k, s.serves_ e k = true → s.chState e k = CH.RUNNING → (s.dma e k).fetch = true → s.readAnswer (s.getD e k RDma.CUR_DESC) 64 = MR.OK →
    let d := ofBytes (memRead s.mem (s.getD e k RDma.CUR_DESC) 64)
    s.descError e k d = 0 →
    Gives (.descFetch e k .clean) s (fun t => (t.dma e k).desc = some d ∧ (t.dma e k).pos = 0 ∧ (t.dma e k).fetch = false ∧
      t.getD e k RDma.REVERSED = (if dReversed d then 1 else 0) ∧ t.chState e k = CH.RUNNING ∧ t.mem = s.mem)) ∧
  (∀ s e k, s.serves_ e k = true → s.chState e k = CH.RUNNING → (s.dma e k).fetch = true → s.readAnswer (s.getD e k RDma.CUR_DESC) 64 = MR.OK →
    windowOf (s.getD e k RDma.CUR_DESC) = 1 →
    Gives (.descFetch e k .uncorrectable) s (fun t =>
      Halted (s.readChecked (s.getD e k RDma.CUR_DESC) .uncorrectable) t e k DE.DESC_FETCH (s.getD e k RDma.CUR_DESC))) ∧
  (∀ s e k r, s.serves_ e k = false → Gives (.dmaAccessResponse e k r) s (fun t => t = s)) ∧
  (∀ s e k d, s.serves_ e k = true → s.chState e k = CH.RUNNING → (s.dma e k).desc = some d → dPort d true ≠ 0 → (s.dma e k).pos < dBytes d →
    Gives (.dmaAccessResponse e k .refused) s (fun t => Halted s t e k DE.PORT_REFUSED 0)) ∧
  (∀ s e k d data, s.serves_ e k = true → s.chState e k = CH.RUNNING → (s.dma e k).desc = some d → dPort d false = 0 → (s.dma e k).pos < dBytes d →
    let a := dByte d false (dIndex d (s.dma e k).pos) / 64 * 64
    s.readAnswer a 64 ≠ MR.OK →
    Gives (.dmaAccessResponse e k (.carried .clean data)) s (fun t => Halted s t e k (memError (s.readAnswer a 64)) a)) ∧
  (∀ s e k d data, s.serves_ e k = true → s.chState e k = CH.RUNNING → (s.dma e k).desc = some d → dPort d false = 0 → dPort d true = 0 →
    d.testBit 429 = false → (s.dma e k).pos < dBytes d →
    let n := (s.dma e k).pos
    s.readAnswer (dByte d false (dIndex d n) / 64 * 64) 64 = MR.OK →
    let r := s.moveBytes e k d n ((List.range (runLength d n 64)).map (fun i => memGet s.mem (dByte d false (dIndex d (n + i)))))
    r.2.2 = none →
    Gives (.dmaAccessResponse e k (.carried .clean data)) s (fun t => t.mem = r.1.mem ∧ t.tags = r.1.tags ∧ (t.dma e k).pos = r.2.1 ∧
      t.chState e k = CH.RUNNING ∧ t.getD e k RDma.BYTES_DONE = (s.getD e k RDma.BYTES_DONE + (r.2.1 - n)) % 2 ^ 64)) ∧
  (∀ s e k, (s.dma e k).desc = none → Gives (.descComplete e k) s (fun t => t = s)) ∧
  (∀ s e k d, s.serves_ e k = true → s.chState e k = CH.RUNNING → (s.dma e k).desc = some d → dBytes d ≤ (s.dma e k).pos → (s.dma e k).ended = false →
    isProg k = false → d.testBit 428 = false → d.testBit 426 = true → dPort d true = 0 →
    Gives (.descComplete e k) s (fun t => t.chState e k = CH.IDLE ∧ t.getD e k RDma.DESC_DONE = (s.getD e k RDma.DESC_DONE + 1) % 2 ^ 64 ∧ t.mem = s.mem)) ∧
  (∀ s e k, (s.dma e k).since = none → Gives (.portStall e k) s (fun t => t = s)) ∧
  (∀ s e k n, (s.dma e k).since = some n → s.serves_ e k = true →
    Gives (.portStall e k) s (fun t => Halted s t e k DE.PORT_STALL 0 ∧ t.now = max s.now (n + s.getO (keyEng e REng.PORT_WAIT) * 1000000))) ∧
  (∀ s e k, (s.dma e k).desc = none → Gives (.noresp e k) s (fun t => t = s)) ∧
  (∀ s e k d, (s.dma e k).desc = some d → s.serves_ e k = true → s.chState e k = CH.RUNNING → dPort d true ≠ 0 → (s.dma e k).pos < dBytes d →
    Gives (.noresp e k) s (fun t => Halted s t e k DE.NORESP 0))

/-- R303, R304, R309: the programs of a program channel. -/
def Obligations.DmaPrograms : Prop :=
  (∀ s e k c i, AtInstr s e k c 1 i → Gives (.progMove e k c) s (fun t => t.getD e (progChan k) RDma.CUR_DESC = piAddr i ∧
    (t.dma e (progChan k)).fetch = true ∧ t.mem = s.mem)) ∧
  (∀ s e k c i, AtInstr s e k c 2 i → Gives (.progSet e k c) s (fun t => (t.dma e (progChan k)).counts.get (piK i) = piImm i ∧
    (t.dma e (progChan k)).pc = (s.dma e (progChan k)).pc + 1 ∧ OnlyObjs (s.fetchedBy e k c) t [] ∧ (c = .clean → OnlyObjs s t [keyDma e (progChan k) RDma.CUR_DESC]) ∧ t.mem = s.mem)) ∧
  (∀ s e k c i, AtInstr s e k c 3 i → Gives (.progLoop e k c) s (fun t => 
    let n := ((s.dma e (progChan k)).counts.get (piK i) + 2 ^ 32 - 1) % 2 ^ 32
    (t.dma e (progChan k)).counts.get (piK i) = n ∧
    (t.dma e (progChan k)).pc = (if n ≠ 0 then piAddr i % 4096 else (s.dma e (progChan k)).pc + 1) ∧ OnlyObjs (s.fetchedBy e k c) t [] ∧ (c = .clean → OnlyObjs s t [keyDma e (progChan k) RDma.CUR_DESC]))) ∧
  (∀ s e k c i, AtInstr s e k c 4 i → Gives (.progJump e k c) s (fun t => (t.dma e (progChan k)).pc = piAddr i % 4096 ∧
    (t.dma e (progChan k)).counts = (s.dma e (progChan k)).counts ∧ OnlyObjs (s.fetchedBy e k c) t [] ∧ (c = .clean → OnlyObjs s t [keyDma e (progChan k) RDma.CUR_DESC]))) ∧
  (∀ s e k c i, AtInstr s e k c 5 i → Gives (.progWaitEvent e k c) s (fun t => t.chState e (progChan k) = CH.WAITING ∧
    (t.dma e (progChan k)).wait =
      some (.event (piImm i % 2048) ((s.fetchedBy e k c).getO (key (0xC400 + piImm i % 2048) RSrc.COUNT))) ∧
    (t.dma e (progChan k)).pc = (s.dma e (progChan k)).pc)) ∧
  (∀ s e k c i, AtInstr s e k c 6 i → Gives (.progWaitWord e k c) s (fun t => t.chState e (progChan k) = CH.WAITING ∧
    (t.dma e (progChan k)).wait = some (.word (piAddr i) (piImm i)) ∧
    (t.dma e (progChan k)).waitDue = s.now + (s.fetchedBy e k c).getD e (progChan k) RDma.WAIT_LIMIT * 1000000000)) ∧
  (∀ s e (k : Fin 2) c, s.chState e (progChan k) ≠ CH.WAITING → Gives (.progWaitPoll e k c) s (fun t => t = s)) ∧
  (∀ s e (k : Fin 2) c a v, s.chState e (progChan k) = CH.WAITING → (s.dma e (progChan k)).wait = some (.word a v) → s.readAnswer a 4 = MR.OK →
    (windowOf a = 1 → c ≠ .uncorrectable) → (s.readChecked a c).readAnswer a 4 = MR.OK →
    ofBytes (memRead s.mem a 4) ≠ v → Gives (.progWaitPoll e k c) s (fun t => t = s.readChecked a c)) ∧
  (∀ s e (k : Fin 2) c a v, s.chState e (progChan k) = CH.WAITING → (s.dma e (progChan k)).wait = some (.word a v) → s.readAnswer a 4 = MR.OK →
    (windowOf a = 1 → c ≠ .uncorrectable) → (s.readChecked a c).readAnswer a 4 = MR.OK →
    ofBytes (memRead s.mem a 4) = v → (s.readChecked a c).getD e (progChan k) RDma.PAUSE ≠ 1 →
    Gives (.progWaitPoll e k c) s (fun t => t.chState e (progChan k) = CH.RUNNING ∧ (t.dma e (progChan k)).wait = none ∧
      (t.dma e (progChan k)).pc = (s.dma e (progChan k)).pc + 1)) ∧
  (∀ s e (k : Fin 2) a v, s.chState e (progChan k) = CH.WAITING → (s.dma e (progChan k)).wait = some (.word a v) → s.readAnswer a 4 = MR.OK →
    windowOf a = 1 →
    Gives (.progWaitPoll e k .uncorrectable) s (fun t => Halted (s.readChecked a .uncorrectable) t e (progChan k) (memError MR.POISON) a)) ∧
  (∀ s e (k : Fin 2) c a v, s.chState e (progChan k) = CH.WAITING → (s.dma e (progChan k)).wait = some (.word a v) → s.readAnswer a 4 ≠ MR.OK →
    Gives (.progWaitPoll e k c) s (fun t => Halted s t e (progChan k) (memError (s.readAnswer a 4)) a)) ∧
  (∀ s e (k : Fin 2) p n c, s.chState e (progChan k) = CH.WAITING → (s.dma e (progChan k)).wait = some (.event n c) →
    s.getO (key (0xC400 + n) RSrc.COUNT) ≠ c → s.getD e (progChan k) RDma.PAUSE ≠ 1 →
    Gives (.progWaitRelease e k p) s (fun t => t.chState e (progChan k) = CH.RUNNING ∧ (t.dma e (progChan k)).wait = none ∧
      (t.dma e (progChan k)).pc = (s.dma e (progChan k)).pc + 1)) ∧
  (∀ s e (k : Fin 2) p n c, s.chState e (progChan k) = CH.WAITING → (s.dma e (progChan k)).wait = some (.event n c) →
    s.getO (key (0xC400 + n) RSrc.COUNT) = c → Gives (.progWaitRelease e k p) s (fun t => t = s)) ∧
  (∀ s e (k : Fin 2), s.chState e (progChan k) = CH.WAITING → Gives (.progWaitTimeout e k) s (fun t =>
    Halted s t e (progChan k) DE.WAIT_TIMEOUT 0 ∧ t.now = max s.now (s.dma e (progChan k)).waitDue)) ∧
  (∀ s e (k : Fin 2), s.chState e (progChan k) ≠ CH.WAITING → Gives (.progWaitTimeout e k) s (fun t => t = s)) ∧
  (∀ s e k c i, AtInstr s e k c 7 i → (s.fetchedBy e k c).writeAnswer (.dma e (progChan k)) (piAddr i) 4 = MR.OK → Memory.wf s.mem = true →
    Gives (.progWrite e k c) s (fun t => t.mem = memWrite s.mem (piAddr i) (toBytes 4 (piImm i)) ∧ OnlyBytes s t (piAddr i) 4 ∧
      (t.dma e (progChan k)).pc = (s.dma e (progChan k)).pc + 1 ∧ OnlyObjs (s.fetchedBy e k c) t [] ∧ (c = .clean → OnlyObjs s t [keyDma e (progChan k) RDma.CUR_DESC]))) ∧
  (∀ s e k c i, AtInstr s e k c 7 i → (s.fetchedBy e k c).writeAnswer (.dma e (progChan k)) (piAddr i) 4 ≠ MR.OK →
    Gives (.progWrite e k c) s (fun t => Halted (s.fetchedBy e k c) t e (progChan k)
      (memError ((s.fetchedBy e k c).writeAnswer (.dma e (progChan k)) (piAddr i) 4)) (piAddr i) ∧ t.mem = s.mem)) ∧
  (∀ s e k c i, AtInstr s e k c 8 i → (s.fetchedBy e k c).dmaBindings e (progChan k) = [] →
    Gives (.progSignal e k c) s (fun t => (t.dma e (progChan k)).pc = (s.dma e (progChan k)).pc + 1 ∧
      t.getO (key (0xC400 + (1920 + 8 * e.val + k.val)) RSrc.COUNT) =
        ((s.fetchedBy e k c).getO (key (0xC400 + (1920 + 8 * e.val + k.val)) RSrc.COUNT) + 1) % 2 ^ 64 ∧
      t.getO (key (0xC400 + (1920 + 8 * e.val + k.val)) RSrc.LAST_DETAIL) = piImm i)) ∧
  (∀ s e k c i, AtInstr s e k c 9 i → Gives (.progEnd e k c) s (fun t => t.chState e (progChan k) = CH.IDLE ∧ t.mem = s.mem)) ∧
  (∀ s e (k : Fin 2) c, s.serves_ e (progChan k) = true → s.chState e (progChan k) = CH.RUNNING → (s.dma e (progChan k)).desc = none →
    (s.dma e (progChan k)).fetch = false → (s.dma e (progChan k)).pc < 4096 → s.readAnswer (s.progAddr e (progChan k)) 16 = MR.OK →
    (windowOf (s.progAddr e (progChan k)) = 1 → c ≠ .uncorrectable) →
    fieldOf (ofBytes (memRead s.mem (s.progAddr e (progChan k)) 16)) 0 8 = 0 →
    Gives (.progEnd e k c) s (fun t => Halted (s.fetchedBy e k c) t e (progChan k) DE.FORMAT 0)) ∧
  (∀ s e (k : Fin 2), s.serves_ e (progChan k) = true → s.chState e (progChan k) = CH.RUNNING → (s.dma e (progChan k)).desc = none →
    (s.dma e (progChan k)).fetch = false → (s.dma e (progChan k)).pc < 4096 → s.readAnswer (s.progAddr e (progChan k)) 16 = MR.OK →
    windowOf (s.progAddr e (progChan k)) = 1 →
    Gives (.progEnd e k .uncorrectable) s (fun t =>
      Halted (s.fetchedBy e k .uncorrectable) t e (progChan k) DE.DESC_FETCH (s.progAddr e (progChan k)))) ∧
  (∀ s e (k : Fin 2) c, s.serves_ e (progChan k) = false → Gives (.progJump e k c) s (fun t => t = s))

/-- R270, R271, R274, R277, R284, R286 to R291: memory and its care. -/
def Obligations.MemoryAndItsCare : Prop :=
  (∀ s c a n q l, s.readAnswer a n ≠ MR.OK →
    Gives (.memRead c a n q l) s (fun t => t.reply = { status := s.readAnswer a n } ∧ OnlyAnswer s t)) ∧
  (∀ s c a n q l, s.readAnswer a n = MR.OK → s.mustWait s.hbmQ.waits c a n = true →
    Gives (.memRead c a n q l) s (fun t => t.reply = { busy := true } ∧ t.hbmQ.waits = s.hbmQ.waits ++ [.memRead c a n q l] ∧
      t.hbmQ.pcs = s.hbmQ.pcs ∧ t = { s with hbmQ := t.hbmQ, reply := t.reply })) ∧
  (∀ s c a n l, s.readAnswer a n = MR.OK → s.mustWait s.hbmQ.waits c a n = false → (∀ e ∈ l, e = .clean) →
    Gives (.memRead c a n none l) s (fun t => t.reply = { body := memRead s.mem a n } ∧ t.hbmQ = (s.takeSlots c a n).hbmQ ∧
      t = { s with hbmQ := t.hbmQ, reply := t.reply })) ∧
  (∀ s c a n q l, s.readAnswer a n = MR.OK → s.mustWait s.hbmQ.waits c a n = false → windowOf a = 1 →
    Gives (.memRead c a n q (.uncorrectable :: l)) s (fun t => t.reply = { status := MR.POISON } ∧ t.mem = s.mem ∧
      t.hbmQ = (s.takeSlots c a n).hbmQ ∧
      (l = [] → t.getO (keyPc (pcOf a) RPc.UE_COUNT) = satAdd 32 (s.getO (keyPc (pcOf a) RPc.UE_COUNT)) 1 ∧
        t.getO (keyPc (pcOf a) RPc.LAST_ERROR_ADDR) = a / 64 * 64))) ∧
  (∀ s c a n (q : BitVec 8) l, s.readAnswer a n = MR.OK → s.mustWait s.hbmQ.waits c a n = false → windowOf a = 1 →
    (∃ x ∈ blocksOf a n, s.tagSeq x ≠ q.toNat) → (∀ e ∈ l, e = .clean) →
    Gives (.memRead c a n (some q) l) s (fun t => t.reply = { status := MR.POISON } ∧ t.hbmQ = (s.takeSlots c a n).hbmQ ∧
      t = { s with hbmQ := t.hbmQ, reply := t.reply })) ∧
  (∀ s w a d q, s.writeAnswer w a d.length ≠ MR.OK →
    Gives (.memWrite w a d q) s (fun t => t.reply = { status := s.writeAnswer w a d.length } ∧ OnlyAnswer s t)) ∧
  (∀ s w a d q, s.writeAnswer w a d.length = MR.OK → s.mustWait s.hbmQ.waits (s.writerClass w a d.length) a d.length = true →
    Gives (.memWrite w a d q) s (fun t => t.reply = { busy := true } ∧ t.hbmQ.waits = s.hbmQ.waits ++ [.memWrite w a d q] ∧
      t.hbmQ.pcs = s.hbmQ.pcs ∧ t = { s with hbmQ := t.hbmQ, reply := t.reply })) ∧
  (∀ s w a d (q : BitVec 8), s.writeAnswer w a d.length = MR.OK → s.mustWait s.hbmQ.waits (s.writerClass w a d.length) a d.length = false →
    Gives (.memWrite w a d q) s (fun t => t.reply = {} ∧ t.mem = memWrite s.mem a d ∧ OnlyBytes s t a d.length ∧ OnlyObjs s t [] ∧
      (windowOf a ≠ 1 → t.tags = s.tags) ∧ (∀ b, w = .bay b → windowOf a = 1 → ∀ x ∈ blocksOf a d.length, t.tags.get (x / 64) 0 = q.toNat))) ∧
  (∀ s (p : Pc), s.getO (keyPc p.val RPc.SCHED_MODE) ≠ 1 → Gives (.refresh p true) s (fun t => t.getO (keyPc p.val RPc.REFRESH_OWED) = 0 ∧
    OnlyObjs s t [keyPc p.val RPc.REFRESH_OWED] ∧ ObjFrame s t)) ∧
  (∀ s (p : Pc), s.hot (stackOf p.val) = false → Gives (.refresh p false) s (fun t =>
    t.getO (keyPc p.val RPc.REFRESH_OWED) = (if s.getO (keyPc p.val RPc.REFRESH_OWED) < 4 then s.getO (keyPc p.val RPc.REFRESH_OWED) + 1 else s.getO (keyPc p.val RPc.REFRESH_OWED)) ∧
    OnlyObjs s t [keyPc p.val RPc.REFRESH_OWED] ∧ ObjFrame s t)) ∧
  (∀ s (i : Fin 2) (x : Int), 340 < x → s.hot i.val = false → Gives (.tempReading i x) s (fun t => t.getO (keyStack i.val RStack.HOT) = 1 ∧
    t.getO (keyStack i.val RStack.STACK_TEMP) = ofSigned 16 x ∧ t.getO (keyStack i.val RStack.CATCHUPS) = satAdd 32 (s.getO (keyStack i.val RStack.CATCHUPS)) 1)) ∧
  (∀ s (i : Fin 2) (x : Int), x ≤ 332 → s.hot i.val = true → Gives (.tempReading i x) s (fun t => t.getO (keyStack i.val RStack.HOT) = 0 ∧
    t.getO (keyStack i.val RStack.STACK_TEMP) = ofSigned 16 x)) ∧
  (∀ s (i : Fin 2) (x : Int), 332 < x → x ≤ 340 → Gives (.tempReading i x) s (fun t => t.getO (keyStack i.val RStack.STACK_TEMP) = ofSigned 16 x ∧
    OnlyObjs s t [keyStack i.val RStack.STACK_TEMP] ∧ ObjFrame s t)) ∧
  (∀ s (p : Pc) o, s.pcState p.val ≠ PC.RECOVERY → Gives (.recoveryStep p o) s (fun t => t = s)) ∧
  (∀ s (p : Pc), s.pcState p.val = PC.RECOVERY → s.getO (keyPc p.val RPc.REFRESH_OWED) = 0 → s.hot (stackOf p.val) = false →
    toSigned 16 (s.getO (keyStack (stackOf p.val) RStack.STACK_TEMP)) ≤ 332 →
    Gives (.recoveryStep p .restored) s (fun t => t.pcState p.val = PC.ACTIVE ∧
      t.getO (keyPc p.val RPc.RECOVERY_STEPS) = satAdd 32 (s.getO (keyPc p.val RPc.RECOVERY_STEPS)) 1 ∧ t.now = max s.now (s.recovery.get p.val (0, 0)).2)) ∧
  (∀ s (p : Pc), s.pcState p.val = PC.RECOVERY → s.getO (keyPc p.val RPc.REFRESH_OWED) = 0 → s.hot (stackOf p.val) = false →
    toSigned 16 (s.getO (keyStack (stackOf p.val) RStack.STACK_TEMP)) ≤ 332 →
    Gives (.recoveryStep p .failed) s (fun t => t.pcState p.val = PC.OUT)) ∧
  (∀ s p g o c, groupsPerPc ≤ g → Gives (.scrubStep p g o c) s (fun t => t = s)) ∧
  (∀ s p g o, g < groupsPerPc → s.scrubbed + 1 < 64 * groupsPerPc → Gives (.scrubStep p g o .clean) s (fun t => t = { s with scrubbed := s.scrubbed + 1 })) ∧
  (∀ s p g o, g < groupsPerPc → s.scrubbed + 1 = 64 * groupsPerPc → Gives (.scrubStep p g o .clean) s (fun t => t.scrubbed = 0 ∧
    t.getO R.SCRUB_PASSES = satAdd 32 (s.getO R.SCRUB_PASSES) 1 ∧ OnlyObjs s t [R.SCRUB_PASSES])) ∧
  (∀ s p, s.operational = true → s.anyArmed = true → Gives (.hbmRetrainRequest p) s (fun t => t.reply = { status := ST.STATE_LOCKED } ∧ OnlyAnswer s t)) ∧
  (∀ s (p : Pc), s.operational = true → s.anyArmed = false → Gives (.hbmRetrainRequest p) s (fun t => t.reply = {} ∧ t.pcState p.val = PC.TRAINING ∧
    OnlyObjs s t [keyPc p.val RPc.PC_STATE, keyPc p.val RPc.SCHED_MODE] ∧ ObjFrame s t)) ∧
  (∀ s (p : Pc), s.pcState p.val = PC.TRAINING → Gives (.hbmRetrainComplete p true) s (fun t => t.pcState p.val = PC.ACTIVE ∧
    t.getO (keyPc p.val RPc.SCHED_MODE) = 0 ∧ OnlyObjs s t [keyPc p.val RPc.PC_STATE, keyPc p.val RPc.SCHED_MODE])) ∧
  (∀ s (p : Pc), s.pcState p.val = PC.TRAINING → Gives (.hbmRetrainComplete p false) s (fun t => t.pcState p.val = PC.OUT ∧
    OnlyObjs s t [keyPc p.val RPc.PC_STATE] ∧ ReportFrame s t)) ∧
  (∀ s (p : Pc) o, s.pcState p.val = PC.ACTIVE → Gives (.hbmRetrainComplete p o) s (fun t => t = s))

/-- R313 to R321: lane states, training, capability exchange and adaptation. -/
def Obligations.LanesTrainAndAdapt : Prop :=
  (∀ s l on, s.operational = true → s.locked (19 + l.val / 8) = false →
    Gives (.laneEnable l on) s (fun t => t.reply = { status := ST.STATE_LOCKED } ∧ OnlyAnswer s t)) ∧
  (∀ s l, s.operational = true → s.locked (19 + l.val / 8) = true → s.laneState l = LN.DISABLED →
    Gives (.laneEnable l true) s (fun t => t.reply = {} ∧ t.laneState l = LN.DETECT ∧ t.getL l RLane.ENABLE = 1 ∧
      OnlyObjs s t [keyLane l RLane.ENABLE, keyLane l RLane.LANE_STATE] ∧ LaneFrame l s t)) ∧
  (∀ s l, s.operational = true → s.locked (19 + l.val / 8) = true → s.laneState l ≠ LN.DISABLED →
    Gives (.laneEnable l true) s (fun t => t.reply = {} ∧ t.getL l RLane.ENABLE = 1 ∧ OnlyObjs s t [keyLane l RLane.ENABLE] ∧ ObjFrame s t)) ∧
  (∀ s l, s.operational = true → s.locked (19 + l.val / 8) = true →
    Gives (.laneEnable l false) s (fun t => t.reply = {} ∧ t.laneState l = LN.DISABLED ∧ t.getL l RLane.ENABLE = 0)) ∧
  (∀ s l, s.laneState l = LN.DETECT → Gives (.receiverDetect l true) s (fun t => t.laneState l = LN.TRAIN ∧ (t.lane l).inWindow = true ∧
    OnlyObjs s t [keyLane l RLane.LANE_STATE] ∧ LaneFrame l s t)) ∧
  (∀ s l, Gives (.receiverDetect l false) s (fun t => t = s)) ∧
  (∀ s l eh ew eq, s.laneState l ≠ LN.TRAIN → Gives (.gatherWindowEnd l eh ew eq) s (fun t => t = s)) ∧
  (∀ s l (eh ew : BitVec 8) eq, s.laneState l = LN.TRAIN → (s.lane l).rateNew = none → (s.lane l).ready = false →
    Gives (.gatherWindowEnd l eh ew eq) s (fun t => t.getL l RLane.FOM = fomOf eh.toNat ew.toNat ∧ t.getL l RLane.CTLE = eq.ctle.toNat ∧
      t.doms.get (keyLane l RLane.DFE) [] = eq.dfe.take 12 ∧
      (t.lane l).windows = (if s.getL l RLane.FOM_MIN ≤ fomOf eh.toNat ew.toNat then (s.lane l).windows + 1 else 0) ∧
      ((t.lane l).ready = true ↔ 2 ≤ (t.lane l).windows) ∧
      ((t.lane l).ready = true → t.doms.get (keyLane l RLane.TRAINED_SET) [] = eq.ctle :: eq.dfe.take 12) ∧
      OnlyObjs s t [keyLane l RLane.FOM, keyLane l RLane.CTLE])) ∧
  (∀ s l eh ew eq r, s.laneState l = LN.TRAIN → (s.lane l).rateNew = some r → s.commit = none →
    Gives (.gatherWindowEnd l eh ew eq) s (fun t => t.getL l RLane.LANE_RATE = r ∧ t.laneState l = LN.TRAIN ∧ t.getL l RLane.RETRAIN_REASON = 2 ∧
      t.getL l RLane.RETRAIN_COUNT = satAdd 32 (s.getL l RLane.RETRAIN_COUNT) 1 ∧ (t.lane l).rateNew = none)) ∧
  (∀ s l, s.laneState l = LN.TRAIN → (s.lane l).ready = true → Gives (.trainComplete l) s (fun t => t.laneState l = LN.BIT_LOCK ∧
    OnlyObjs s t [keyLane l RLane.LANE_STATE] ∧ LaneFrame l s t)) ∧
  (∀ s l, s.laneState l = LN.BIT_LOCK → Gives (.bitLock l) s (fun t => t.laneState l = LN.BLOCK_LOCK ∧
    OnlyObjs s t [keyLane l RLane.LANE_STATE] ∧ LaneFrame l s t)) ∧
  (∀ s l, s.laneState l = LN.BLOCK_LOCK → Gives (.blockLock l) s (fun t => t.laneState l = LN.CAPS ∧
    OnlyObjs s t [keyLane l RLane.LANE_STATE] ∧ LaneFrame l s t)) ∧
  (∀ s l caps, s.laneState l ≠ LN.CAPS → Gives (.capsExchange l caps) s (fun t => t = s)) ∧
  (∀ s l k (caps : BitVec 64) bit, s.laneState l = LN.CAPS → s.linkOf l = some k → s.capsFail l k caps.toNat = some bit →
    Gives (.capsExchange l caps) s (fun t => t.laneState l = LN.TRAIN ∧ t.getL l RLane.RETRAIN_REASON = 6 ∧
      t.getL l RLane.RETRAIN_COUNT = satAdd 32 (s.getL l RLane.RETRAIN_COUNT) 1 ∧
      t.getL l RLane.LANE_FLAGS = orBit (s.getL l RLane.LANE_FLAGS) bit)) ∧
  (∀ s l k (caps : BitVec 64), s.laneState l = LN.CAPS → s.linkOf l = some k → s.capsFail l k caps.toNat = none →
    Gives (.capsExchange l caps) s (fun t => t.laneState l = LN.CAPS ∧
      t.getK k RLink.VERSION = agreedVersion (s.getK k RLink.VERSION_MAX) (fieldOf caps.toNat 12 4) (fieldOf caps.toNat 8 4) ∧
      t.getK k RLink.PARTNER_ID = fieldOf caps.toNat 32 16 ∧ t.getL l RLane.PARTNER_LOGICAL = fieldOf caps.toNat 27 4 ∧
      (t.lane l).caps = some caps.toNat ∧ (t.lane l).capsSent = 0 ∧
      OnlyObjs s t [keyLink k RLink.VERSION, keyLink k RLink.PARTNER_ID, keyLane l RLane.PARTNER_LOGICAL])) ∧
  (∀ s l, s.laneState l = LN.CAPS → ((s.lane l).caps = none ∨ (s.lane l).capsSent < 2) → Gives (.capsSend l) s (fun t =>
    (t.lane l).capsSent = (s.lane l).capsSent + 1 ∧ OnlyObjs s t [] ∧ LaneFrame l s t)) ∧
  (∀ s l c, s.laneState l = LN.CAPS → (s.lane l).caps = some c → 2 ≤ (s.lane l).capsSent → s.linkOf l = none →
    Gives (.capsSend l) s (fun t => t.laneState l = LN.ACTIVE ∧ t.getL l RLane.LANE_FLAGS = s.getL l RLane.LANE_FLAGS % 2 ∧
      t.getL l RLane.ADAPT_STATE = 0)) ∧
  (∀ s l, s.laneState l = LN.TRAIN ∨ s.laneState l = LN.BIT_LOCK ∨ s.laneState l = LN.BLOCK_LOCK → Gives (.laneStepTimeout l) s (fun t =>
    t.laneState l = LN.FAILED ∧ t.getL l RLane.LANE_FLAGS = orBit (s.getL l RLane.LANE_FLAGS) 3 ∧
    OnlyObjs s t [keyLane l RLane.LANE_STATE, keyLane l RLane.LANE_FLAGS])) ∧
  (∀ s l, s.laneState l = LN.CAPS → Gives (.laneStepTimeout l) s (fun t => t.laneState l = LN.FAILED ∧
    t.getL l RLane.LANE_FLAGS = orBit (s.getL l RLane.LANE_FLAGS) 2 ∧ OnlyObjs s t [keyLane l RLane.LANE_STATE, keyLane l RLane.LANE_FLAGS])) ∧
  (∀ s l, s.laneState l = LN.FAILED → s.getO R.AUTO_RETRAIN = 1 → Gives (.autoRetrain l) s (fun t => t.laneState l = LN.DETECT ∧
    OnlyObjs s t [keyLane l RLane.LANE_STATE] ∧ LaneFrame l s t)) ∧
  (∀ s l, s.getO R.AUTO_RETRAIN ≠ 1 → Gives (.autoRetrain l) s (fun t => t = s)) ∧
  (∀ s l (i b : BitVec 11), i.toNat < 32 ∨ s.laneState l ≠ LN.ACTIVE → Gives (.headerWindow l i b) s (fun t =>
    t.getL l RLane.INVALID_HEADERS = satAdd 32 (s.getL l RLane.INVALID_HEADERS) i.toNat ∧
    t.getL l RLane.BAD_BLOCKS = satAdd 32 (s.getL l RLane.BAD_BLOCKS) b.toNat ∧
    OnlyObjs s t [keyLane l RLane.INVALID_HEADERS, keyLane l RLane.BAD_BLOCKS] ∧ ObjFrame s t)) ∧
  (∀ s l (i b : BitVec 11), 32 ≤ i.toNat → s.laneState l = LN.ACTIVE → Gives (.headerWindow l i b) s (fun t => t.laneState l = LN.TRAIN ∧
    t.getL l RLane.RETRAIN_REASON = 3 ∧ t.getL l RLane.RETRAIN_COUNT = satAdd 32 (s.getL l RLane.RETRAIN_COUNT) 1 ∧
    t.getL l RLane.INVALID_HEADERS = satAdd 32 (s.getL l RLane.INVALID_HEADERS) i.toNat)) ∧
  (∀ s l (eh ew : BitVec 8), s.laneState l = LN.ACTIVE → s.getL l RLane.ADAPT_STATE = 1 → fomOf eh.toNat ew.toNat < s.getL l RLane.FOM_FLOOR →
    Gives (.fomUpdate l eh ew) s (fun t => t.getL l RLane.ADAPT_STATE = 2 ∧ t.getL l RLane.FOM = fomOf eh.toNat ew.toNat ∧
      t.getL l RLane.LANE_FLAGS = orBit (s.getL l RLane.LANE_FLAGS) 0 ∧
      t.getL l RLane.CTLE = ofBytes ((s.doms.get (keyLane l RLane.TRAINED_SET) []).take 1) ∧
      t.doms.get (keyLane l RLane.DFE) [] = (s.doms.get (keyLane l RLane.TRAINED_SET) []).drop 1)) ∧
  (∀ s l (eh ew : BitVec 8), s.laneState l = LN.ACTIVE → s.getL l RLane.ADAPT_STATE ≠ 1 ∨ s.getL l RLane.FOM_FLOOR ≤ fomOf eh.toNat ew.toNat →
    Gives (.fomUpdate l eh ew) s (fun t => t.getL l RLane.FOM = fomOf eh.toNat ew.toNat ∧ OnlyObjs s t [keyLane l RLane.FOM] ∧ LaneFrame l s t ∧
      ((t.lane l).lowSince = none ↔ s.getL l RLane.FOM_FLOOR ≤ fomOf eh.toNat ew.toNat))) ∧
  (∀ s l, s.laneState l = LN.ACTIVE → s.getL l RLane.ADAPT_STATE = 0 → Gives (.adaptFreeze l) s (fun t => t.getL l RLane.ADAPT_STATE = 1 ∧
    OnlyObjs s t [keyLane l RLane.ADAPT_STATE] ∧ ObjFrame s t)) ∧
  (∀ s l, s.laneState l = LN.ACTIVE → Gives (.adaptResume l) s (fun t => t.getL l RLane.ADAPT_STATE = 0 ∧
    t.getL l RLane.LANE_FLAGS = clrBit (s.getL l RLane.LANE_FLAGS) 0 ∧
    OnlyObjs s t [keyLane l RLane.ADAPT_STATE, keyLane l RLane.LANE_FLAGS] ∧ LaneFrame l s t)) ∧
  (∀ s l t0, s.laneState l = LN.ACTIVE → s.getL l RLane.ADAPT_STATE ≠ 1 → s.getL l RLane.FOM < s.getL l RLane.FOM_FLOOR → (s.lane l).lowSince = some t0 →
    Gives (.fomLow l) s (fun t => t.laneState l = LN.TRAIN ∧ t.getL l RLane.RETRAIN_REASON = 4 ∧
      t.getL l RLane.RETRAIN_COUNT = satAdd 32 (s.getL l RLane.RETRAIN_COUNT) 1)) ∧
  (∀ s l, s.getL l RLane.FOM_FLOOR ≤ s.getL l RLane.FOM → Gives (.fomLow l) s (fun t => t = s)) ∧
  (∀ s l, s.operational = true → s.locked (19 + l.val / 8) = true → s.laneState l ≠ LN.DISABLED → s.laneState l ≠ LN.DETECT →
    Gives (.laneRetrainRequest l) s (fun t => t.reply = {} ∧ t.laneState l = LN.TRAIN ∧ t.getL l RLane.RETRAIN_REASON = 1 ∧
      t.getL l RLane.RETRAIN_COUNT = satAdd 32 (s.getL l RLane.RETRAIN_COUNT) 1)) ∧
  (∀ s l, s.laneState l = LN.ACTIVE → Gives (.partnerTraining l) s (fun t => t.laneState l = LN.TRAIN ∧ t.getL l RLane.RETRAIN_REASON = 5 ∧
    t.getL l RLane.RETRAIN_COUNT = satAdd 32 (s.getL l RLane.RETRAIN_COUNT) 1)) ∧
  (∀ s l, s.laneState l ≠ LN.ACTIVE → Gives (.partnerTraining l) s (fun t => t = s)) ∧
  (∀ s l, s.laneState l = LN.ACTIVE → Gives (.rateNotice l) s (fun t => (t.lane l).notice = true ∧ OnlyObjs s t [] ∧ LaneFrame l s t))

/-- R322, R323, R325 to R330, R332, R333, R389: links and streams. -/
def Obligations.LinksAndTheirStreams : Prop :=
  (∀ s k t0 m, s.linkState k = LK.FORMING → (s.link k).firstAt = some t0 → m = (s.activeLanes k).take (allowedWidth (s.getK k RLink.VERSION) (s.activeLanes k).length) →
    max 1 (s.getK k RLink.MIN_WIDTH) ≤ m.length →
    Gives (.linkForm k) s (fun t => t.linkState k = LK.UP ∧ (t.link k).lanes = m ∧ t.getK k RLink.WIDTH = m.length ∧ t.now = max s.now (t0 + 1000000000))) ∧
  (∀ s k, s.linkState k ≠ LK.FORMING → Gives (.linkForm k) s (fun t => t = s)) ∧
  (∀ s k, s.operational = true → s.linkState k = LK.DOWN → Gives (.linkCtrlUp k) s (fun t => t.reply = {} ∧ t.linkState k = LK.FORMING ∧
    (t.link k).txSeq = 0 ∧ (t.link k).rxSeq = 0 ∧ OnlyObjs s t [keyLink k RLink.LINK_STATE])) ∧
  (∀ s k, s.operational = true → s.linkState k ≠ LK.DOWN → Gives (.linkCtrlUp k) s (fun t => t.reply = {} ∧ OnlyAnswer s t)) ∧
  (∀ s k, s.operational = true → Gives (.linkCtrlDown k) s (fun t => t.reply = {} ∧ t.linkState k = LK.DOWN ∧ t.getK k RLink.WIDTH = 0 ∧
    ∀ i, s.getT i RStream.STREAM_LINK = k.val → t.getT i RStream.STREAM_STATE ≠ SM.OPEN)) ∧
  (∀ s k n, s.linkState k ≠ LK.UP → s.linkState k ≠ LK.RE_FORMING → Gives (.marker k n) s (fun t => t = s)) ∧
  (∀ s k n, s.linkState k = LK.UP → 64 < n → Gives (.marker k n) s (fun t => t.linkState k = LK.RE_FORMING ∧
    ∀ l : Lane, l.val ∈ (s.link k).lanes → (t.getL l RLane.LANE_FLAGS).testBit 7 = true)) ∧
  (∀ s k n, s.linkState k = LK.UP → n ≤ 64 → (s.link k).adds = [] → Gives (.marker k n) s (fun t => t = s)) ∧
  (∀ s k n m, s.linkState k = LK.RE_FORMING → n ≤ 64 → m = (s.activeLanes k).take (allowedWidth (s.getK k RLink.VERSION) (s.activeLanes k).length) →
    max 1 (s.getK k RLink.MIN_WIDTH) ≤ m.length →
    Gives (.marker k n) s (fun t => t.linkState k = LK.UP ∧ (t.link k).lanes = m ∧ (t.link k).replay = (s.link k).replay ∧ (t.link k).txSeq = (s.link k).txSeq)) ∧
  (∀ s k i n mk eom, s.linkState k ≠ LK.UP ∨ 1024 ≤ (s.link k).replay.length ∨ s.getT i RStream.STREAM_STATE ≠ SM.OPEN ∨ s.sends i = false ∨
    s.getT i RStream.STREAM_LINK ≠ k.val → Gives (.frameSend k i n mk eom) s (fun t => t = s)) ∧
  (∀ s k i n eom, s.linkState k = LK.UP → (s.link k).replay.length < 1024 → s.getT i RStream.STREAM_STATE = SM.OPEN → s.sends i = true →
    s.getT i RStream.STREAM_LINK = k.val → credits n ≤ s.getT i RStream.CREDIT → 1 ≤ n → n ≤ 1024 → n ≤ (s.stream i).queue.length →
    s.getT i RStream.PROTECT ≠ 1 → Gives (.frameSend k i n none eom) s (fun t => t.getT i RStream.CREDIT = s.getT i RStream.CREDIT - credits n ∧
      t.getT i RStream.BYTES = (s.getT i RStream.BYTES + n) % 2 ^ 64 ∧ (t.stream i).queue = (s.stream i).queue.drop n ∧
      (t.link k).replay = (s.link k).replay ++ [⟨(s.link k).txSeq, s.getT i RStream.REMOTE_STREAM, (s.stream i).queue.take n, false, eom⟩] ∧
      (t.link k).txSeq = ((s.link k).txSeq + 1) % 4096 ∧ OnlyObjs s t [keyStream i RStream.CREDIT, keyStream i RStream.BYTES])) ∧
  (∀ s k (f : Frame) ok, s.linkState k = LK.UP → f.crcOk = false ∨ f.seq.toNat ≠ (s.link k).rxSeq ∨ (s.getT f.stream RStream.PROTECT = 1 ∧ ok = false) →
    Gives (.frameReceive k f ok) s (fun t => t.getK k RLink.CRC_ERRORS = satAdd 32 (s.getK k RLink.CRC_ERRORS) 1 ∧ t.streams = s.streams ∧ t.mem = s.mem ∧
      (t.link k).rxSeq = (s.link k).rxSeq ∧ OnlyObjs s t [keyLink k RLink.CRC_ERRORS])) ∧
  (∀ s k (f : Frame), s.linkState k = LK.UP → f.crcOk = true → f.seq.toNat = (s.link k).rxSeq → f.mark = false →
    s.getT f.stream RStream.STREAM_STATE = SM.OPEN → s.getT f.stream RStream.STREAM_LINK = k.val → s.sends f.stream = false →
    credits f.payload.length ≤ s.getT f.stream RStream.CREDIT → s.dest f.stream = 0 →
    Gives (.frameReceive k f true) s (fun t => (t.stream f.stream).queue = (s.stream f.stream).queue ++ f.payload ∧
      t.getT f.stream RStream.CREDIT = s.getT f.stream RStream.CREDIT - credits f.payload.length ∧
      t.getT f.stream RStream.BYTES = (s.getT f.stream RStream.BYTES + f.payload.length) % 2 ^ 64 ∧ (t.link k).rxSeq = ((s.link k).rxSeq + 1) % 4096 ∧
      t.mem = s.mem)) ∧
  (∀ s k (f : Frame), s.linkState k = LK.UP → f.crcOk = true → f.seq.toNat = (s.link k).rxSeq → f.mark = true →
    s.getT f.stream RStream.STREAM_STATE = SM.OPEN → s.getT f.stream RStream.STREAM_LINK = k.val → s.sends f.stream = false →
    credits f.payload.length ≤ s.getT f.stream RStream.CREDIT →
    Gives (.frameReceive k f true) s (fun t => (t.stream f.stream).marker = some (ofBytes (f.payload.take 4)) ∧ (t.stream f.stream).eom = f.eom ∧
      t.getT f.stream RStream.CREDIT = s.getT f.stream RStream.CREDIT - credits f.payload.length ∧ (t.link k).rxSeq = ((s.link k).rxSeq + 1) % 4096 ∧
      t.mem = s.mem)) ∧
  (∀ s k (q : BitVec 12) i, (s.link k).replay.findIdx? (fun f => f.seq == q.toNat) = some i → Gives (.ack k q) s (fun t =>
    (t.link k).replay = (s.link k).replay.drop (i + 1) ∧ (t.link k).tries = 0 ∧ OnlyObjs s t [])) ∧
  (∀ s k (q : BitVec 12), (s.link k).replay.findIdx? (fun f => f.seq == q.toNat) = none → Gives (.ack k q) s (fun t => t = s)) ∧
  (∀ s k q, (s.link k).replay = [] → Gives (.nak k q) s (fun t => t = s)) ∧
  (∀ s k q, (s.link k).replay ≠ [] → s.linkState k ≠ LK.DOWN → (s.link k).tries + 1 < 8 → Gives (.nak k q) s (fun t =>
    t.getK k RLink.REPLAYS = satAdd 32 (s.getK k RLink.REPLAYS) 1 ∧ (t.link k).tries = (s.link k).tries + 1 ∧ OnlyObjs s t [keyLink k RLink.REPLAYS])) ∧
  (∀ s k, (s.link k).replay ≠ [] → s.linkState k ≠ LK.DOWN → (s.link k).tries + 1 < 8 → Gives (.replayTimeout k) s (fun t =>
    t.getK k RLink.REPLAYS = satAdd 32 (s.getK k RLink.REPLAYS) 1 ∧ (t.link k).tries = (s.link k).tries + 1 ∧ OnlyObjs s t [keyLink k RLink.REPLAYS])) ∧
  (∀ s k, (s.link k).replay ≠ [] → s.linkState k ≠ LK.DOWN → 8 ≤ (s.link k).tries + 1 → Gives (.replayTimeout k) s (fun t => t.linkState k = LK.DOWN ∧
    ∀ i, s.getT i RStream.STREAM_LINK = k.val → t.getT i RStream.STREAM_STATE ≠ SM.OPEN)) ∧
  (∀ s (k : Link) i (n : BitVec 24), s.getT i RStream.STREAM_LINK = k.val → s.sends i = true → s.getT i RStream.STREAM_STATE = SM.OPEN →
    Gives (.credit k i n) s (fun t => t.getT i RStream.CREDIT = (s.getT i RStream.CREDIT + n.toNat * 64) % 2 ^ 64 ∧
      OnlyObjs s t [keyStream i RStream.CREDIT] ∧ ObjFrame s t)) ∧
  (∀ s i, s.getT i RStream.STREAM_STATE = SM.OPEN → s.sends i = false → Gives (.creditGrant i) s (fun t =>
    t.getT i RStream.CREDIT = max (s.getT i RStream.CREDIT) (s.rxSpace i / 64 * 64) ∧ OnlyObjs s t [keyStream i RStream.CREDIT] ∧ ObjFrame s t)) ∧
  (∀ s k l, (s.link k).lanes.contains l.val = false → Gives (.laneDrop k l) s (fun t =>
    (t.link k).adds = (s.link k).adds.filter (fun x => x ≠ l.val) ∧ (t.link k).lanes = (s.link k).lanes ∧ OnlyObjs s t [])) ∧
  (∀ s k l, s.linkState k = LK.UP → (s.link k).lanes.contains l.val = true →
    max 1 (s.getK k RLink.MIN_WIDTH) ≤ ((s.link k).lanes.filter (fun x => x ≠ l.val)).length →
    Gives (.laneDrop k l) s (fun t => (t.link k).lanes = (s.link k).lanes.filter (fun x => x ≠ l.val) ∧ t.linkState k = LK.UP ∧
      t.getK k RLink.WIDTH = ((s.link k).lanes.filter (fun x => x ≠ l.val)).length)) ∧
  (∀ s k l, s.linkOf l = some k → s.laneState l = LN.ACTIVE → 0x20 ≤ s.getK k RLink.VERSION → s.linkState k = LK.UP →
    (s.link k).lanes.contains l.val = false → (s.link k).adds.contains l.val = false →
    Gives (.laneAdd k l) s (fun t => (t.link k).adds = (s.link k).adds ++ [l.val] ∧ (t.link k).lanes = (s.link k).lanes ∧ OnlyObjs s t [])) ∧
  (∀ s i k, s.operational = true → s.getT i RStream.STREAM_STATE ≠ SM.IDLE → Gives (.streamOpen i k) s (fun t =>
    t.reply = { status := ST.STATE_LOCKED } ∧ OnlyAnswer s t)) ∧
  (∀ s i k (j : Link), s.operational = true → s.getT i RStream.STREAM_STATE = SM.IDLE → s.getT i RStream.STREAM_LINK = j.val → s.linkState j ≠ LK.DOWN →
    s.getT i RStream.PROTECT = 1 → (s.getK j RLink.VERSION < 0x11 ∨ (s.link j).gcm = false) → Gives (.streamOpen i k) s (fun t =>
      t.reply = { status := ST.VERSION_UNSUPPORTED } ∧ OnlyAnswer s t)) ∧
  (∀ s i k (j : Link), s.operational = true → s.getT i RStream.STREAM_STATE = SM.IDLE → s.getT i RStream.STREAM_LINK = j.val → s.linkState j ≠ LK.DOWN →
    s.getT i RStream.PROTECT ≠ 1 ∨ (0x11 ≤ s.getK j RLink.VERSION ∧ (s.link j).gcm = true) → Gives (.streamOpen i k) s (fun t => t.reply = {} ∧
      t.getT i RStream.STREAM_STATE = SM.OPEN ∧ t.getT i RStream.BYTES = 0 ∧ t.getT i RStream.CREDIT = 0 ∧
      (t.stream i).queue = [] ∧ (t.stream i).sent = 0)) ∧
  (∀ s i, s.operational = true → Gives (.streamReset i) s (fun t => t.reply = {} ∧ t.getT i RStream.STREAM_STATE = SM.IDLE ∧
    t.getT i RStream.CREDIT = 0 ∧ t.stream i = {})) ∧
  (∀ s i (v : BitVec 64), s.operational = true → v.toNat ≤ s.getT i RStream.RING_WRITE → s.getT i RStream.RING_WRITE ≤ v.toNat + s.getT i RStream.RING_SIZE →
    Gives (.ringConsumedWrite i v) s (fun t => t.reply = {} ∧ t.getT i RStream.RING_CONSUMED = v.toNat ∧
      OnlyObjs s t [keyStream i RStream.RING_CONSUMED] ∧ ObjFrame s t)) ∧
  (∀ s i (v : BitVec 64), s.operational = true → s.getT i RStream.RING_WRITE < v.toNat ∨ v.toNat + s.getT i RStream.RING_SIZE < s.getT i RStream.RING_WRITE →
    Gives (.ringConsumedWrite i v) s (fun t => t.reply = { status := ST.OUT_OF_RANGE } ∧ OnlyAnswer s t)) ∧
  (∀ s b e, Ready s b e → s.pkgReady b = false → Gives (.pkgStart b e) s (fun t => t.reply = { status := ST.STATE_LOCKED } ∧ OnlyAnswer s t)) ∧
  (∀ s b e (i : Stream), Ready s b e → s.pkgReady b = true → s.getB b RBay.PKG_STREAM = i.val → s.dest i = 1 → s.sends i = false →
    s.getT i RStream.STREAM_STATE = SM.OPEN → s.getT i RStream.RING_CONSUMED = s.getT i RStream.RING_WRITE →
    Gives (.pkgStart b e) s (fun t => t.reply = {} ∧ (t.bay b).pkg = some { data := [], stream := some i.val } ∧ t.getB b RBay.PKG_STATUS = PS.RECEIVING))

/-- R334, R335, R338 to R348: the control ports, network time and the time-pulse generators. -/
def Obligations.PortsAndNetworkTime : Prop :=
  (∀ s p (m : BitVec 8), s.operational = true → 2 < m.toNat → Gives (.portModeWrite p m) s (fun t => t.reply = { status := ST.OUT_OF_RANGE } ∧ OnlyAnswer s t)) ∧
  (∀ s p (m : BitVec 8), s.operational = true → m.toNat ≤ 2 → s.getO (keyPort p RPort.PORT_MODE) ≠ m.toNat → Gives (.portModeWrite p m) s (fun t => t.reply = {} ∧
    t.getO (keyPort p RPort.PORT_MODE) = m.toNat ∧ t.portUp p = false ∧ (t.nets.get p).queue = [] ∧ t.getO (keyPort p RPort.TSQ_COUNT) = 0 ∧
    OnlyObjs s t [keyPort p RPort.PORT_MODE, keyPort p RPort.PORT_LINK, keyPort p RPort.TSQ_COUNT])) ∧
  (∀ s p f, s.getO (keyPort p RPort.PORT_MODE) = 0 ∨ s.portUp p = false → Gives (.ethFrameRx p f) s (fun t => t = s)) ∧
  (∀ s p (f : EthFrame), s.getO (keyPort p RPort.PORT_MODE) ≠ 0 → s.portUp p = true → s.getO (keyPort p RPort.MTU) < f.len →
    Gives (.ethFrameRx p f) s (fun t => t.getO (keyPort p RPort.RX_DISCARDS) = satAdd 32 (s.getO (keyPort p RPort.RX_DISCARDS)) 1 ∧
      OnlyObjs s t [keyPort p RPort.RX_DISCARDS] ∧ ObjFrame s t)) ∧
  (∀ s p len (u : BitVec 16), s.getO (keyPort p RPort.PORT_MODE) ≠ 0 → s.portUp p = true → len ≤ s.getO (keyPort p RPort.MTU) →
    Gives (.ethFrameRx p { vlan := 0, len := len, kind := .ptpAnnounce u }) s (fun t => t.getO R.UTC_OFFSET = u.toNat ∧ OnlyObjs s t [R.UTC_OFFSET] ∧ ObjFrame s t)) ∧
  (∀ s p len (o : Int), s.getO (keyPort p RPort.PORT_MODE) ≠ 0 → s.portUp p = true → len ≤ s.getO (keyPort p RPort.MTU) → s.getO R.SERVO_MODE ≠ 1 → s.coreOut = false →
    -(s.getO R.LOCK_LIMIT : Int) ≤ o → o ≤ (s.getO R.LOCK_LIMIT : Int) → 15 ≤ s.syncOk →
    Gives (.ethFrameRx p { vlan := 0, len := len, kind := .ptpEvent 0 o }) s (fun t => t.getO R.CLOCK_STATE = CK.LOCKED ∧ (t.nets.get p).rx = some (s.ingress p))) ∧
  (∀ s p, s.portUp p = true → Gives (.portLinkDown p) s (fun t => t.portUp p = false ∧ OnlyObjs s t [keyPort p RPort.PORT_LINK] ∧ ReportFrame s t)) ∧
  (∀ s p, s.portUp p = false → Gives (.portLinkDown p) s (fun t => t = s)) ∧
  (∀ s p, s.getO (keyPort p RPort.PORT_MODE) ≠ 0 → Gives (.portLinkUp p) s (fun t => t.portUp p = true ∧ OnlyObjs s t [keyPort p RPort.PORT_LINK] ∧ ObjFrame s t)) ∧
  (∀ s p (m : PtpMsg), s.portUp p = true → m.type = 0 → s.getO (keyPort p RPort.ONE_STEP) = 1 → Gives (.ptpEventTx p m) s (fun t =>
    (t.nets.get p).sync = some (s.egress p / 4000000000 % 2 ^ 48, s.egress p % 4000000000 / 4, s.egress p % 4 * 16384) ∧
    (t.nets.get p).queue = (s.nets.get p).queue ∧ OnlyObjs s t [])) ∧
  (∀ s p (m : PtpMsg), s.portUp p = true → s.getO (keyPort p RPort.ONE_STEP) ≠ 1 → (s.nets.get p).queue.length < 32 → Gives (.ptpEventTx p m) s (fun t =>
    (t.nets.get p).queue = (s.nets.get p).queue ++ [s.tsqEntry p m (s.egress p)] ∧ t.getO (keyPort p RPort.TSQ_COUNT) = (s.nets.get p).queue.length + 1 ∧
    OnlyObjs s t [keyPort p RPort.TSQ_COUNT])) ∧
  (∀ s p (m : PtpMsg), s.portUp p = true → s.getO (keyPort p RPort.ONE_STEP) ≠ 1 → 32 ≤ (s.nets.get p).queue.length → Gives (.ptpEventTx p m) s (fun t =>
    t.getO (keyPort p RPort.TSQ_OVERFLOW) = satAdd 32 (s.getO (keyPort p RPort.TSQ_OVERFLOW)) 1 ∧ t.nets = s.nets ∧ OnlyObjs s t [keyPort p RPort.TSQ_OVERFLOW])) ∧
  (∀ s p, s.operational = true → (s.nets.get p).queue = [] → Gives (.tsqEntryRead p) s (fun t => t.reply = { body := toBytes 16 0 } ∧ OnlyAnswer s t)) ∧
  (∀ s p e q, s.operational = true → (s.nets.get p).queue = e :: q → Gives (.tsqEntryRead p) s (fun t => t.reply = { body := e } ∧ (t.nets.get p).queue = q ∧
    t.getO (keyPort p RPort.TSQ_COUNT) = q.length ∧ OnlyObjs s t [keyPort p RPort.TSQ_COUNT])) ∧
  (∀ s, s.getO R.CLOCK_STATE ≠ CK.FREE → Gives .syncLoss s (fun t => t.getO R.CLOCK_STATE = CK.HOLDOVER ∧ t.syncOk = 0 ∧ OnlyObjs s t [R.CLOCK_STATE])) ∧
  (∀ s, s.getO R.CLOCK_STATE = CK.FREE → Gives .syncLoss s (fun t => t = s)) ∧
  (∀ s (r : BitVec 64), s.counterOn ≠ none → -1099511627 ≤ toSigned 64 r.toNat → toSigned 64 r.toNat ≤ 1099511627 → Gives (.rateSet r) s (fun t => t.reply = {} ∧
    t.getO R.RATE_SET = r.toNat ∧ timeFrom (t.getO R.OFFSET) (t.getO R.RATE_SET) s.edgeCount = timeFrom (s.getO R.OFFSET) (s.getO R.RATE_SET) s.edgeCount ∧
    OnlyObjs s t [R.OFFSET, R.RATE_SET] ∧ ObjFrame s t)) ∧
  (∀ s (r : BitVec 64), s.counterOn ≠ none → 1099511627 < toSigned 64 r.toNat ∨ toSigned 64 r.toNat < -1099511627 → Gives (.rateSet r) s (fun t =>
    t.reply = { status := ST.OUT_OF_RANGE } ∧ OnlyAnswer s t)) ∧
  (∀ s (v : BitVec 64), s.counterOn ≠ none → (∀ n, s.getTpg n RTpg.ENABLE ≠ 1) → Gives (.timeSet v) s (fun t => t.reply = {} ∧
    timeFrom (t.getO R.OFFSET) (t.getO R.RATE_SET) s.edgeCount = v.toNat ∧ t.getO R.RATE_SET = s.getO R.RATE_SET ∧ OnlyObjsEv s t [R.OFFSET, R.TIME_STEPS])) ∧
  (∀ s, s.counterOn ≠ none → s.getO R.OFFSET < 2 ^ 64 → Gives (.offsetAdjust 0) s (fun t => t.reply = {} ∧ OnlyAnswer s t)) ∧
  (∀ s (a : BitVec 64), s.counterOn ≠ none → (∀ n, s.getTpg n RTpg.ENABLE ≠ 1) → -(2 ^ 62) ≤ toSigned 64 a.toNat → toSigned 64 a.toNat ≤ 2 ^ 62 →
    ofSigned 64 ((s.getO R.OFFSET : Int) + toSigned 64 a.toNat) ≠ s.getO R.OFFSET →
    Gives (.offsetAdjust a) s (fun t => t.reply = {} ∧ t.getO R.OFFSET = ofSigned 64 ((s.getO R.OFFSET : Int) + toSigned 64 a.toNat) ∧
      t.getO R.TIME_STEPS = (s.getO R.TIME_STEPS + 1) % 2 ^ 32 ∧ OnlyObjsEv s t [R.OFFSET, R.TIME_STEPS])) ∧
  (∀ s (u : BitVec 12), u ≠ 0x1C2 → Gives (.timeCopyRefresh u) s (fun t => t = { s with copies := s.copies.set u.toNat (s.getO R.OFFSET, s.getO R.RATE_SET) })) ∧
  (∀ s n, s.operational = true → Gives (.tpgEnable n false) s (fun t => t.reply = {} ∧ t.getTpg n RTpg.ENABLE = 0 ∧ (t.tpg n).next = none ∧ (t.tpg n).pulse = (s.tpg n).pulse ∧
    OnlyObjs s t [keyTpg n RTpg.ENABLE])) ∧
  (∀ s n d, s.operational = true → s.getTpg n RTpg.ENABLE ≠ 1 → s.tpgLacks n = some d → Gives (.tpgEnable n true) s (fun t =>
    t.reply = { status := ST.RESOURCE_CLAIMED, detail := d } ∧ OnlyAnswer s t)) ∧
  (∀ s n, s.operational = true → s.getTpg n RTpg.ENABLE ≠ 1 → s.tpgLacks n = none →
    widthOk (s.getTpg n RTpg.PERIOD) (s.getTpg n RTpg.WIDTH) = false ∨ (s.getTpg n RTpg.PERIOD = 0 ∧ s.getTpg n RTpg.START < s.netTime + 40000) →
    Gives (.tpgEnable n true) s (fun t => t.reply = { status := ST.OUT_OF_RANGE } ∧ OnlyAnswer s t)) ∧
  (∀ s n, s.operational = true → s.getTpg n RTpg.ENABLE ≠ 1 → s.tpgLacks n = none → widthOk (s.getTpg n RTpg.PERIOD) (s.getTpg n RTpg.WIDTH) = true →
    s.netTime + 40000 ≤ s.getTpg n RTpg.START →
    Gives (.tpgEnable n true) s (fun t => t.reply = {} ∧ t.getTpg n RTpg.ENABLE = 1 ∧ (t.tpg n).next = some (s.getTpg n RTpg.START) ∧
      t.getTpg n RTpg.FIRINGS = 0 ∧ t.getTpg n RTpg.LATE = 0 ∧ t.getTpg n RTpg.SKIPPED = 0)) ∧
  (∀ s n g c, s.getTpg n RTpg.ENABLE = 1 → (s.tpg n).next = some g → s.counterOn = some c → Gives (.tpgFire n) s (fun t =>
    (t.tpg n).next = s.nextGrid n g ∧ (t.tpg n).pulse = some ((s.untilTime g).netTime + s.getTpg n RTpg.WIDTH, s.getTpg n RTpg.TRIG_OUT, s.getTpg n RTpg.RIDGE_OUT) ∧
    t.trigOut = s.trigOut ||| s.getTpg n RTpg.TRIG_OUT)) ∧
  (∀ s n g c, s.getTpg n RTpg.ENABLE = 1 → (s.tpg n).next = some g → s.counterOn = some c → s.getTpg n RTpg.BAY_OUT = 0 → s.getTpg n RTpg.RIDGE_OUT = 0 →
    Gives (.tpgFire n) s (fun t => t.getTpg n RTpg.FIRINGS = (s.getTpg n RTpg.FIRINGS + 1) % 2 ^ 64 ∧ t.getTpg n RTpg.LATE = 0 ∧
      OnlyObjs s t [keyTpg n RTpg.FIRINGS, keyTpg n RTpg.LATE])) ∧
  (∀ s n, s.getTpg n RTpg.ENABLE ≠ 1 ∨ (s.tpg n).next = none → Gives (.tpgFire n) s (fun t => t = s)) ∧
  (∀ s n, (s.tpg n).pulse = none → Gives (.tpgPulseEnd n) s (fun t => t = s)) ∧
  (∀ s n e lands lines, (s.tpg n).pulse = some (e, lands, lines) → Gives (.tpgPulseEnd n) s (fun t => (t.tpg n).pulse = none ∧ (t.tpg n).next = (s.tpg n).next ∧
    (∀ i, i < 8 → lands.testBit i = true → t.trigOut.testBit i = false) ∧ OnlyObjs s t []))

/-- R375 to R381, R383, R384, R386, R387, R390, R392, R394, R395, R397, R398: the Touchmark unit. -/
def Obligations.TouchmarkAndItsKeys : Prop :=
  (∀ s, s.operational = true → s.coreOut = false → s.tmIdle = true → s.tmServes = true → Gives .selfTestRequest s (fun t => t.reply = {} ∧
    t.getO R.TM_STATE = TM.SELF_TEST ∧ t.getO R.APPROVED = 0 ∧ t.tmTest = 1 ∧ OnlyObjs s t [R.TM_STATE, R.APPROVED])) ∧
  (∀ s, s.operational = true → s.coreOut = false → s.tmIdle = false ∨ s.tmServes = false → Gives .selfTestRequest s (fun t =>
    t.reply = { status := ST.STATE_LOCKED } ∧ OnlyAnswer s t)) ∧
  (∀ s r m, s.tmTest = 0 → Gives (.selfTestComplete r m) s (fun t => t = s)) ∧
  (∀ s m, s.tmTest = 1 → s.getO R.DEBUG_STATE ≠ 1 → s.anchored .officer = true → s.tmKey = true → s.getO R.MODULE_STATE ≠ MS.CRYPTO →
    Gives (.selfTestComplete 0 m) s (fun t => t.getO R.TM_STATE = TM.OPERATIONAL ∧ t.getO R.APPROVED = 1 ∧ t.getO R.SELF_TEST_RESULT = 0 ∧ t.tmTest = 0 ∧
      OnlyObjs s t [R.TM_STATE, R.APPROVED, R.SELF_TEST_RESULT])) ∧
  (∀ s (r : BitVec 32) m, s.tmTest ≠ 0 → r ≠ 0 → Gives (.selfTestComplete r m) s (fun t => t.getO R.TM_STATE = TM.ERROR ∧ t.getO R.APPROVED = 0 ∧
    t.getO R.SELF_TEST_RESULT = r.toNat ∧ t.getO R.MODULE_STATE = MS.CRYPTO)) ∧
  (∀ s, Gives .entropyFail s (fun t => t.getO R.TM_STATE = TM.ERROR ∧ t.getO R.APPROVED = 0 ∧ t.getO R.MODULE_STATE = MS.CRYPTO ∧
    t.getO R.ENTROPY_FAILS = satAdd 32 (s.getO R.ENTROPY_FAILS) 1)) ∧
  (∀ s (v : BitVec 16), s.operational = true → s.coreOut = false → v ≠ 0xA5C3 → Gives (.zeroize v) s (fun t => t.reply = { status := ST.OUT_OF_RANGE } ∧ OnlyAnswer s t)) ∧
  (∀ s, s.operational = true → s.coreOut = false → Gives (.zeroize 0xA5C3) s (fun t => t.reply = {} ∧ t.getO R.TM_STATE = TM.ENROLMENT ∧ t.getO R.APPROVED = 0 ∧
    t.groupKey = none ∧ t.getO R.GROUP_KEY_ID = 0 ∧ t.tmKey = false ∧ (∀ r, t.anchored r = false) ∧ (∀ k : Fin 8, t.doms.get (R.CODE_KEY + k.val) [] = []) ∧
    t.getO R.ZEROIZE_COUNT = satAdd 32 (s.getO R.ZEROIZE_COUNT) 1 ∧ t.getO R.MODULE_STATE = MS.SAFE_HOLD ∧ t.getO R.SAFE_HOLD_CAUSE = 0x87 + tmUnit * 2 ^ 8)) ∧
  (∀ s n, 10000 ≤ n → Gives (.zeroizeN n) s (fun t => t.getO R.TM_STATE = TM.ENROLMENT ∧ t.groupKey = none ∧ t.tmKey = false ∧ t.inHold = true ∧
    t.getO R.ZEROIZE_COUNT = satAdd 32 (s.getO R.ZEROIZE_COUNT) 1)) ∧
  (∀ s n, n < 1000 → Gives (.zeroizeN n) s (fun t => t = s)) ∧
  (∀ s r k m, s.operational = true → s.coreOut = false → r.length = 144 → s.anyArmed = true ∨ s.tmServes = false ∨ groupRecordOk r = false ∨ k = none →
    Gives (.groupKeyImport r k m) s (fun t => t.reply = { status := ST.CRYPTO_ERROR } ∧ OnlyAnswer s t)) ∧
  (∀ s r k m, s.operational = true → s.coreOut = false → r.length = 144 → s.anyArmed = false → s.tmServes = true → groupRecordOk r = true →
    s.getO R.HOLDUP_STATE ≠ HS.ON_STORE → classNeeds 3 ≤ sampleEnergy m → Gives (.groupKeyImport r (some k) m) s (fun t => t.reply = {} ∧
      t.groupKey = some k ∧ t.getO R.GROUP_KEY_ID = ofBytes (r.take 4))) ∧
  (∀ s r k m, s.operational = true → s.coreOut = false → r.length = 144 → s.anyArmed = false → s.tmServes = true → groupRecordOk r = true →
    s.getO R.HOLDUP_STATE = HS.ON_STORE ∨ sampleEnergy m < classNeeds 3 → Gives (.groupKeyImport r (some k) m) s (fun t => t.reply = { status := ST.HOLDUP_LOW } ∧
      t.groupKey = s.groupKey ∧ t.getO R.GROUP_KEY_ID = s.getO R.GROUP_KEY_ID)) ∧
  (∀ s i k m, s.operational = true → s.coreOut = false → s.codeKeyBusy i.val = true → Gives (.codeKeyWrite i k m) s (fun t =>
    t.reply = { status := ST.STATE_LOCKED } ∧ OnlyAnswer s t)) ∧
  (∀ s (i : Fin 8) k m, s.operational = true → s.coreOut = false → s.codeKeyBusy i.val = false → k.length = 97 → s.getO R.HOLDUP_STATE ≠ HS.ON_STORE →
    classNeeds 3 ≤ sampleEnergy m → Gives (.codeKeyWrite i k m) s (fun t => t.reply = {} ∧ t.doms = s.doms.set (R.CODE_KEY + i.val) k)) ∧
  (∀ s r k m, s.operational = true → s.coreOut = false → k.length = 97 → s.getO R.HOLDUP_STATE ≠ HS.ON_STORE → classNeeds 3 ≤ sampleEnergy m →
    s.getO R.TM_STATE ≠ TM.ENROLMENT → Gives (.roleAnchorWrite r k m) s (fun t => t.reply = {} ∧ t.doms = s.doms.set (anchorKey r) k ∧ t.getO R.TM_STATE = s.getO R.TM_STATE)) ∧
  (∀ s k m, s.operational = true → s.coreOut = false → k.length = 97 → s.getO R.HOLDUP_STATE ≠ HS.ON_STORE → classNeeds 3 ≤ sampleEnergy m →
    s.getO R.TM_STATE = TM.ENROLMENT → s.getO R.DEBUG_STATE ≠ 1 → s.tmKey = true → Gives (.roleAnchorWrite .officer k m) s (fun t => t.reply = {} ∧
      t.doms = s.doms.set (anchorKey .officer) k ∧ t.getO R.TM_STATE = TM.OPERATIONAL ∧ t.getO R.APPROVED = 1)) ∧
  (∀ s len ok rel rb, s.operational = true → s.coreOut = false → s.fwLoad ≠ none → Gives (.fwImage len ok rel rb) s (fun t =>
    t.reply = { status := ST.STATE_LOCKED } ∧ OnlyAnswer s t)) ∧
  (∀ s len rel rb, s.operational = true → s.coreOut = false → s.fwLoad = none → len ≤ slotSize → Gives (.fwImage len false rel rb) s (fun t =>
    t.reply = { status := ST.CRYPTO_ERROR } ∧ t.getO R.FW_STATUS = 4 ∧ t.fwSlots = s.fwSlots ∧ OnlyObjs s t [R.FW_STATUS])) ∧
  (∀ s len (rel rb : BitVec 32), s.operational = true → s.coreOut = false → s.fwLoad = none → len ≤ slotSize → s.getO R.ROLLBACK ≤ rb.toNat →
    Gives (.fwImage len true rel rb) s (fun t => t.reply = {} ∧ t.getO R.FW_STATUS = 2 ∧
      t.fwLoad = some ((if s.getO R.FW_ACTIVE_SLOT = 0 then 1 else 0), rel.toNat, rb.toNat) ∧ OnlyObjs s t [R.FW_STATUS])) ∧
  (∀ s c, s.fwLoad = none → Gives (.fwProgramComplete c) s (fun t => t = s)) ∧
  (∀ s l, s.fwLoad = some l → Gives (.fwProgramComplete true) s (fun t => t.getO R.FW_STATUS = 6 ∧ t.fwLoad = none ∧ t.fwSlots = s.fwSlots ∧ OnlyObjs s t [R.FW_STATUS])) ∧
  (∀ s (n : Fin 2) rel rb, s.fwLoad = some (n.val, rel, rb) → Gives (.fwProgramComplete false) s (fun t => t.getO R.FW_STATUS = 3 ∧ t.fwLoad = none ∧
    t.getO (R.FW_SLOT_VERSION + n.val) = rel ∧ t.fwSlots.get n = ⟨rel, rb, false⟩ ∧ OnlyObjs s t [R.FW_STATUS, R.FW_SLOT_VERSION + n.val])) ∧
  (∀ s (v : BitVec 8) m, s.operational = true → s.coreOut = false → 1 < v.toNat → Gives (.fwActiveSlotWrite v m) s (fun t => t.reply = { status := ST.OUT_OF_RANGE } ∧ OnlyAnswer s t)) ∧
  (∀ s (v : BitVec 8) m, s.operational = true → s.coreOut = false → v.toNat ≤ 1 → s.getO R.HOLDUP_STATE ≠ HS.ON_STORE → classNeeds 3 ≤ sampleEnergy m →
    Gives (.fwActiveSlotWrite v m) s (fun t => t.reply = {} ∧ t.getO R.FW_ACTIVE_SLOT = v.toNat)) ∧
  (∀ s (v : BitVec 32) m, s.operational = true → s.coreOut = false → v.toNat < s.getO R.ROLLBACK ∨ s.fwRollback < v.toNat →
    Gives (.fwAccept v m) s (fun t => t.reply = { status := ST.OUT_OF_RANGE } ∧ OnlyAnswer s t)) ∧
  (∀ s (v : BitVec 32) m, s.operational = true → s.coreOut = false → s.getO R.ROLLBACK ≤ v.toNat → v.toNat ≤ s.fwRollback → s.getO R.HOLDUP_STATE ≠ HS.ON_STORE →
    classNeeds 3 ≤ sampleEnergy m → Gives (.fwAccept v m) s (fun t => t.reply = {} ∧ t.getO R.ROLLBACK = v.toNat)) ∧
  (∀ s, s.operational = true → s.coreOut = false → s.tmIdle = true → s.tmServes = true → Gives (.tmRestartRequest false) s (fun t =>
    t.reply = { status := ST.CRYPTO_ERROR } ∧ OnlyAnswer s t)) ∧
  (∀ s, s.operational = true → s.coreOut = false → s.tmIdle = true → s.tmServes = true → Gives (.tmRestartRequest true) s (fun t => t.reply = {} ∧
    t.getO R.TM_STATE = TM.SELF_TEST ∧ t.getO R.APPROVED = 0 ∧ t.getO R.DEBUG_STATE = 0 ∧ t.nonces = s.nonces + 1 ∧ t.tmTest = 2 ∧ t.groupKey = s.groupKey ∧
    t.getO R.MODULE_STATE = s.getO R.MODULE_STATE)) ∧
  (∀ s v ok, s.operational = true → s.coreOut = false → s.anyArmed = true → Gives (.debugUnlock v ok) s (fun t => t.reply = { status := ST.STATE_LOCKED } ∧ OnlyAnswer s t)) ∧
  (∀ s (v : BitVec 8), s.operational = true → s.coreOut = false → s.anyArmed = false → v = 1 ∨ v = 2 → Gives (.debugUnlock v false) s (fun t =>
    t.reply = { status := ST.CRYPTO_ERROR } ∧ t.nonces = s.nonces + 1 ∧ OnlyObjs s t [])) ∧
  (∀ s (v : BitVec 8), s.operational = true → s.coreOut = false → s.anyArmed = false → v = 1 ∨ v = 2 → s.anchored .officer = true → s.tmServes = true →
    Gives (.debugUnlock v true) s (fun t => t.reply = {} ∧ t.getO R.TM_STATE = TM.DEBUG ∧ t.getO R.APPROVED = 0 ∧ t.getO R.DEBUG_STATE = 1 ∧ t.groupKey = none ∧
      t.getO R.GROUP_KEY_ID = 0 ∧ t.nonces = s.nonces + 1)) ∧
  (∀ s (v : BitVec 8), s.operational = true → s.coreOut = false → v.toNat < 64 → (∃ b, s.slotOf v.toNat b = true ∧ s.armed b = true) → Gives (.slotZeroize v) s (fun t =>
    t.reply = { status := ST.STATE_LOCKED } ∧ OnlyAnswer s t)) ∧
  (∀ s (v : BitVec 8), s.operational = true → s.coreOut = false → v.toNat < 64 → (∀ b, s.slotOf v.toNat b = true → s.armed b = false) → Gives (.slotZeroize v) s (fun t =>
    t.reply = {} ∧ t.slotLoaded v.toNat = false ∧ t.slotEpoch v.toNat = nextKeyEpoch (s.slotEpoch v.toNat) ∧ t.keys.get v.toNat 0 = 0 ∧
    OnlyObjs s t [R.SLOT_STATE + v.toNat, R.SLOT_BASE + v.toNat])) ∧
  (∀ s g n rc p m, s.getO R.TM_STATE ≠ TM.OPERATIONAL ∨ s.tmKey = false ∨ s.getO R.RESERVED_END ≤ s.getO R.TM_COUNTER ∨ s.getO R.TM_BATCH_MAX < p.length →
    Gives (.signRequest g n rc p m) s (fun t => t.reply = { status := ST.CRYPTO_ERROR } ∧ OnlyAnswer s t)) ∧
  (∀ s (g : Graph) (n : BitVec 8) (rc : BitVec 32) p m, s.getO R.TM_STATE = TM.OPERATIONAL → s.tmKey = true → s.getO R.TM_COUNTER < s.getO R.RESERVED_END → p.length ≤ s.getO R.TM_BATCH_MAX →
    s.getO R.RESERVED_END - s.getO R.TM_COUNTER ≠ 1024 → Gives (.signRequest g n rc p m) s (fun t => t.getO R.TM_COUNTER = s.getO R.TM_COUNTER + 1 ∧
      t.reply.body = s.touchmarkHeader g.val n.toNat rc.toNat p.length ++ p ++ Config.signature (s.touchmarkHeader g.val n.toNat rc.toNat p.length ++ p) ∧
      t.tmFirst = false ∧ OnlyObjs s t [R.TM_COUNTER])) ∧
  (∀ s m, s.tmRetry = none → Gives (.reserveRetry m) s (fun t => t = s)) ∧
  (∀ s m t0, s.tmRetry = some t0 → s.getO R.HOLDUP_STATE ≠ HS.ON_STORE → classNeeds 3 ≤ sampleEnergy m → Gives (.reserveRetry m) s (fun t =>
    t.getO R.RESERVED_END = s.getO R.RESERVED_END + 4096 ∧ t.tmRetry = none)) ∧
  (∀ s m t0, s.tmRetry = some t0 → s.getO R.HOLDUP_STATE = HS.ON_STORE → Gives (.reserveRetry m) s (fun t =>
    t.getO R.RESERVED_END = s.getO R.RESERVED_END ∧ t.tmRetry = some (max s.now t0 + 100000000000) ∧ t.reply = s.reply))

/-- R52, R84, R389, R390, R402 to R418: packages, assay and the ledger. -/
def Obligations.PackagesAndAssay : Prop :=
  (∀ s b e image, Ready s b e → s.pkgReady b = true → Gives (.pkgImage b e image) s (fun t => t.reply = {} ∧ (t.bay b).pkg = some { data := image } ∧
    t.getB b RBay.PKG_STATUS = PS.RECEIVING ∧ ∀ k, k < 64 → s.slotOf k b = true → t.slotLoaded k = false ∧ t.slotEpoch k = nextKeyEpoch (s.slotEpoch k))) ∧
  (∀ s b e image, Ready s b e → s.pkgReady b = false → Gives (.pkgImage b e image) s (fun t => t.reply = { status := ST.STATE_LOCKED } ∧ OnlyAnswer s t)) ∧
  (∀ s b ok k c, (s.bay b).pkg = none → Gives (.pkgLoadComplete b ok k c) s (fun t => t = s)) ∧
  (∀ s b ok k c l, (s.bay b).pkg = some l → (pkgHeaderOk l.data && pkgDirOk l.data) = false → Gives (.pkgLoadComplete b ok k c) s (fun t =>
    (t.bay b).pkg = none ∧ t.getB b RBay.PKG_STATUS = PS.BAD_FORMAT)) ∧
  (∀ s u b ok k c l d, (s.bay b).pkg = some l → u = s.each (l.blocks.zip c) (fun s p => s.checkBlock p.1 p.2) →
    (∃ p ∈ l.blocks.zip c, p.2 = .uncorrectable) → (pkgHeaderOk l.data && pkgDirOk l.data) = true → pkgImageOf l.data b = some d →
    dirSlot d = 0xFF → u.getB b RBay.PKG_BASE + dirLen d ≤ u.patternBytes → u.lockedRange (u.getB b RBay.PKG_BASE) (dirLen d) = false →
    u.spanDown (u.getB b RBay.PKG_BASE) (dirLen d) = false →
    (∀ e, e ∈ imageEntries l.data d (u.getB b RBay.PKG_BASE) → (entValid e && entEnc e) = false) →
    Gives (.pkgLoadComplete b ok k c) s (fun t => (t.bay b).pkg = none ∧ t.getB b RBay.PKG_STATUS = PS.BAD_SIGNATURE ∧
      t.getB b RBay.PKG_DETAIL = 0)) ∧
  (∀ s b ok k c l d, (s.bay b).pkg = some l → (∀ p ∈ l.blocks.zip c, p.2 = .clean) → (pkgHeaderOk l.data && pkgDirOk l.data) = true →
    pkgImageOf l.data b = some d → dirSlot d = 0xFF → s.getB b RBay.PKG_BASE + dirLen d ≤ s.patternBytes →
    s.lockedRange (s.getB b RBay.PKG_BASE) (dirLen d) = false → s.spanDown (s.getB b RBay.PKG_BASE) (dirLen d) = true →
    Gives (.pkgLoadComplete b ok k c) s (fun t => (t.bay b).pkg = none ∧ t.getB b RBay.PKG_STATUS = PS.INTERRUPTED ∧
      t.getB b RBay.PKG_DETAIL = 0 ∧ t.shingles = s.shingles ∧ t.mem = s.mem)) ∧
  (∀ s b k c l d, (s.bay b).pkg = some l → (∀ p ∈ l.blocks.zip c, p.2 = .clean) →
    s.spanDown (s.getB b RBay.PKG_BASE) (dirLen d) = false → (pkgHeaderOk l.data && pkgDirOk l.data) = true → pkgImageOf l.data b = some d → dirSlot d = 0xFF →
    s.getB b RBay.PKG_BASE + dirLen d ≤ s.patternBytes → s.lockedRange (s.getB b RBay.PKG_BASE) (dirLen d) = false →
    (∀ e, e ∈ imageEntries l.data d (s.getB b RBay.PKG_BASE) → (entValid e && entEnc e) = false) → Gives (.pkgLoadComplete b false k c) s (fun t =>
      (t.bay b).pkg = none ∧ t.getB b RBay.PKG_STATUS = PS.BAD_SIGNATURE ∧ t.getB b RBay.PKG_DETAIL = 0 ∧ t.shingles = s.shingles)) ∧
  (∀ s b k c l d, (s.bay b).pkg = some l → (∀ p ∈ l.blocks.zip c, p.2 = .clean) →
    s.spanDown (s.getB b RBay.PKG_BASE) (dirLen d) = false → (pkgHeaderOk l.data && pkgDirOk l.data) = true → pkgImageOf l.data b = some d → dirSlot d = 0xFF →
    s.getB b RBay.PKG_BASE + dirLen d ≤ s.patternBytes → s.lockedRange (s.getB b RBay.PKG_BASE) (dirLen d) = false →
    (∀ e, e ∈ imageEntries l.data d (s.getB b RBay.PKG_BASE) → (entValid e && entEnc e) = false) → s.codeKeyFor (fieldOf (pkgHeader l.data) 56 3) 1 = true →
    setupOk (setupValues (slice l.data (dirSetup d) setupBytes)) = true →
    (∀ e, e ∈ imageEntries l.data d (s.getB b RBay.PKG_BASE) →
      (s.each (setupValues (slice l.data (dirSetup d) setupBytes)) (fun s q => s.setB b q.1 q.2)).entryError b e = none) →
    Gives (.pkgLoadComplete b true k c) s (fun t => (t.bay b).pkg = none ∧ t.getB b RBay.PKG_STATUS = PS.DONE ∧ t.getB b RBay.PKG_DETAIL = 0 ∧
      t.getB b RBay.PKG_VERSION = fieldOf (pkgHeader l.data) 192 32 ∧ t.doms = s.doms.set (keyB b RBay.PKG_ID) (slice l.data 8 16) ∧ t.reply = s.reply ∧
      t.mem = memWrite s.mem (s.getB b RBay.PKG_BASE) (slice l.data (dirData d) (dirLen d)) ∧
      ∀ j, j < dirEntries d → t.shingles.get (entryKey b j) 0 = BitVec.ofNat 256 ((imageEntries l.data d (s.getB b RBay.PKG_BASE)).getD j 0))) ∧
  (∀ s b, s.getO (keyA b RAssay.ROLL_ENABLE) = 0 → Gives (.rollStep b) s (fun t => t = s)) ∧
  (∀ s b, s.getO (keyA b RAssay.ROLL_ENABLE) ≠ 0 → s.getO (keyA b RAssay.ROLL_PAUSE) ≠ 1 → s.rollHeld = false → s.rollState b = RS.WAITING →
    s.rollMay b = true → s.onSpare b = false → Gives (.rollStep b) s (fun t => t.getO (keyA b RAssay.ROLL_PATH) = (s.bay b).roll.path ∧
      t.rollState b = (if (s.bay b).roll.path < 16 then RS.SHADOWING else RS.CALIBRATING) ∧ ((t.bay b).roll.target).map Fin.val = (if (s.bay b).roll.path < 16 then some (s.bay b).roll.path else none) ∧
      OnlyObjs s t [keyA b RAssay.ROLL_PATH, keyA b RAssay.ROLL_STATE])) ∧
  (∀ s b eq cl, (s.bay b).roll.target = none → Gives (.handover b eq cl) s (fun t => t = s)) ∧
  (∀ s b eq cl k, (s.bay b).roll.target = some k → (s.bst b = BS.IDLE ∨ s.bst b = BS.ARMED ∨ s.bst b = BS.SAFE) → s.clearOn b = false → s.rollState b = RS.SHADOWING →
    s.getC (chanOf b k) RChan.SELECTOR ≠ 1 → Gives (.handover b eq cl) s (fun t => t.getC (chanOf b k) RChan.SELECTOR = 1 ∧ t.rollState b = RS.CALIBRATING ∧
      OnlyObjs s t [keyC (chanOf b k) RChan.SELECTOR, keyA b RAssay.ROLL_STATE] ∧ BayFrame b s t)) ∧
  (∀ s b eq cl k, (s.bay b).roll.target = some k → (s.bst b = BS.IDLE ∨ s.bst b = BS.ARMED ∨ s.bst b = BS.SAFE) → s.clearOn b = false → s.rollState b = RS.RETURNING →
    s.getC (chanOf b k) RChan.SELECTOR = 1 → (s.bay b).roll.old ≠ [] → Gives (.handover b eq cl) s (fun t => t.getC (chanOf b k) RChan.SELECTOR = 0 ∧
      (t.bay b).roll.target = none ∧ (t.bay b).roll.path = ((s.bay b).roll.path + 1) % 17 ∧ (t.getC (chanOf b k) RChan.PATH_STATUS).testBit 0 = true ∧
      (t.getC (chanOf b k) RChan.PATH_STATUS).testBit 2 = false ∧ t.rollState b = s.rollRest b)) ∧
  (∀ s b cl k, (s.bay b).roll.target = some k → s.bst b = BS.RUN → (s.handPoint b).1 = true → s.clearOn b = false → s.rollState b = RS.SHADOWING →
    s.getC (chanOf b k) RChan.SELECTOR ≠ 1 → Gives (.handover b false cl) s (fun t => t.getO (keyA b RAssay.STEP_ABORTS) = satAdd 32 (s.getO (keyA b RAssay.STEP_ABORTS)) 1 ∧
      t.getC (chanOf b k) RChan.SELECTOR = 0 ∧ t.rollState b = s.rollRest b)) ∧
  (∀ s b m, s.rollState b ≠ RS.CALIBRATING → Gives (.pathCalibrated b m) s (fun t => t = s)) ∧
  (∀ s b (m : PathMeas) k l, s.rollState b = RS.CALIBRATING → (s.bay b).roll.target = some k → Gives (.pathCalibrated b m) s (fun t => t.rollState b = RS.RETURNING ∧
    t.getC (chanOf b k) (RChan.DESKEW + l.val) = ofSigned 32 (m.corr.get l) ∧ (t.bay b).roll.target = some k)) ∧
  (∀ s b (m : PathMeas) (l : Fin 4), s.rollState b = RS.CALIBRATING → (s.bay b).roll.target = none → Gives (.pathCalibrated b m) s (fun t =>
    t.getB b (RBay.SP_DESKEW + l.val) = ofSigned 32 (m.corr.get l) ∧ (t.bay b).roll.path = ((s.bay b).roll.path + 1) % 17 ∧ t.rollState b = s.rollRest b)) ∧
  (∀ s b, s.rollState b ≠ RS.SHADOWING → s.rollState b ≠ RS.RETURNING → Gives (.handoverTimeout b) s (fun t => t = s)) ∧
  (∀ s b, s.rollState b = RS.SHADOWING ∨ s.rollState b = RS.RETURNING → Gives (.handoverTimeout b) s (fun t =>
    t.getO (keyA b RAssay.HANDOVER_TIMEOUTS) = satAdd 32 (s.getO (keyA b RAssay.HANDOVER_TIMEOUTS)) 1 ∧ t.rollState b = s.rollRest b)) ∧
  (∀ s b, s.operational = true → s.rollState b = RS.WAITING → s.getO (keyA b RAssay.ROLL_ENABLE) ≠ 0 → Gives (.rollPause b true) s (fun t => t.reply = {} ∧
    t.getO (keyA b RAssay.ROLL_PAUSE) = 1 ∧ t.rollState b = RS.PAUSED ∧ OnlyObjs s t [keyA b RAssay.ROLL_PAUSE, keyA b RAssay.ROLL_STATE])) ∧
  (∀ s b, s.operational = true → s.rollState b = RS.PAUSED → s.getO (keyA b RAssay.ROLL_ENABLE) ≠ 0 → Gives (.rollPause b false) s (fun t => t.reply = {} ∧
    t.getO (keyA b RAssay.ROLL_PAUSE) = 0 ∧ t.rollState b = RS.WAITING)) ∧
  (∀ s b c, s.operational = true → s.claim (.sparePath b) = some c → c.feature ≠ 0x0A → Gives (.rollEnable b true) s (fun t =>
    t.reply = { status := ST.RESOURCE_CLAIMED, detail := claimDetail c } ∧ OnlyAnswer s t)) ∧
  (∀ s b, s.operational = true → s.claim (.sparePath b) = none → s.bst b ≠ BS.OFF → s.getO (keyA b RAssay.ROLL_PAUSE) ≠ 1 → Gives (.rollEnable b true) s (fun t => t.reply = {} ∧
    t.claimedFor (.sparePath b) 0x0A = true ∧ t.getO (keyA b RAssay.ROLL_ENABLE) = 1 ∧ (t.bay b).roll.path = 0 ∧ t.rollState b = RS.WAITING)) ∧
  (∀ s b, s.operational = true → s.rollState b = RS.WAITING → s.onSpare b = false → s.claimedFor (.sparePath b) 0x0A = true → Gives (.rollEnable b false) s (fun t => t.reply = {} ∧
    t.claim (.sparePath b) = none ∧ t.getO (keyA b RAssay.ROLL_ENABLE) = 0 ∧ t.rollState b = 0)) ∧
  (∀ s b (v : BitVec 8), s.operational = true → 16 ≤ v.toNat → v.toNat ≠ 0xFF → Gives (.manualTarget b v) s (fun t => t.reply = { status := ST.OUT_OF_RANGE } ∧ OnlyAnswer s t)) ∧
  (∀ s b (v : BitVec 8) c, s.operational = true → v.toNat < 16 → s.claim (.sparePath b) = some c → c.feature ≠ 0x0B → Gives (.manualTarget b v) s (fun t =>
    t.reply = { status := ST.RESOURCE_CLAIMED, detail := claimDetail c } ∧ OnlyAnswer s t)) ∧
  (∀ s b (v : BitVec 8), s.operational = true → v.toNat < 16 → s.claim (.sparePath b) = none → Gives (.manualTarget b v) s (fun t => t.reply = {} ∧
    t.getO (keyA b RAssay.MANUAL_TARGET) = v.toNat ∧ t.claimedFor (.sparePath b) 0x0B = true ∧ t.rollState b = RS.SUSPENDED ∧ ((t.bay b).roll.target).map Fin.val = some v.toNat)) ∧
  (∀ s b, s.operational = true → s.bst b ≠ BS.MAINT ∨ s.getO (keyA b RAssay.BAY_ASSAY_STATUS) = 1 ∨ s.clearOn b = true → Gives (.bayAssayRequest b) s (fun t =>
    t.reply = { status := ST.STATE_LOCKED } ∧ OnlyAnswer s t)) ∧
  (∀ s b, s.operational = true → s.bst b = BS.MAINT → s.getO (keyA b RAssay.BAY_ASSAY_STATUS) ≠ 1 → s.clearOn b = false → Gives (.bayAssayRequest b) s (fun t =>
    t.reply = {} ∧ t.getO (keyA b RAssay.BAY_ASSAY_STATUS) = 1 ∧ OnlyObjs s t [keyA b RAssay.BAY_ASSAY_STATUS])) ∧
  (∀ s b r m, s.getO (keyA b RAssay.BAY_ASSAY_STATUS) ≠ 1 → Gives (.bayAssayComplete b r m) s (fun t => t = s)) ∧
  (∀ s b (r : BayAssayResult) m, s.getO (keyA b RAssay.BAY_ASSAY_STATUS) = 1 → Gives (.bayAssayComplete b r m) s (fun t =>
    t.getO (keyA b RAssay.BAY_ASSAY_STATUS) = (if r.faulty = 0 then 2 else 4) ∧ t.getO (keyA b RAssay.WINDOW_STATE) = 1 ∧
    t.getO (keyA b RAssay.ASSAY_TEMP) = s.dieTemp b)) ∧
  (∀ s b, s.tmuState b = TS.IDLE → s.locked (24 + b.val) = true → Gives (.tmuAssay b) s (fun t => (s.modTmu b (fun u => { u with assay := true, assayWarm := s.getO R.REF_WARM == 1 })) = t)) ∧
  (∀ s b, s.tmuState b ≠ TS.IDLE ∨ s.locked (24 + b.val) = false → Gives (.tmuAssay b) s (fun t => t = s)) ∧
  (∀ s b r, (s.tmu b).assay = false → Gives (.tmuAssayComplete b r) s (fun t => t = s)) ∧
  (∀ s b (r : BitVec 32), (s.tmu b).assay = true → Gives (.tmuAssayComplete b r) s (fun t => t.getB b RBay.INL_RESIDUAL = r.toNat ∧ (t.tmu b).assay = false ∧
    t.getB b RBay.WARM_STATE = (if (s.tmu b).assayWarm = true then 1 else s.getB b RBay.WARM_STATE) ∧ (t.tmu b).corr = some s.fresh)) ∧
  (∀ s, s.operational = true → s.getO R.PURLIN_STATUS ≠ 1 → (∀ b, b ∈ s.purlinBays → s.bst b = BS.IDLE) → Gives .purlinAssay s (fun t => t.reply = {} ∧
    t.getO R.PURLIN_STATUS = 1 ∧ OnlyObjs s t [R.PURLIN_STATUS])) ∧
  (∀ s b, s.operational = true → s.getO R.PURLIN_STATUS ≠ 1 → b ∈ s.purlinBays → s.bst b ≠ BS.IDLE → Gives .purlinAssay s (fun t => t.reply = { status := ST.STATE_LOCKED } ∧
    t.getO R.PURLIN_STATUS = 4 ∧ OnlyObjs s t [R.PURLIN_STATUS])) ∧
  (∀ s h, s.getO R.PURLIN_STATUS ≠ 1 → Gives (.purlinAssayComplete h) s (fun t => t = s)) ∧
  (∀ s h, s.getO R.PURLIN_STATUS = 1 → (∀ x, x ∈ h → x ≤ 2500) → Gives (.purlinAssayComplete h) s (fun t => t.getO R.PURLIN_STATUS = 2 ∧
    OnlyObjs s t [R.PURLIN_STATUS, R.PURLIN_PAD])) ∧
  (∀ s h x, s.getO R.PURLIN_STATUS = 1 → x ∈ h → 2500 < x → Gives (.purlinAssayComplete h) s (fun t => t.getO R.PURLIN_STATUS = 3 ∧ OnlyObjs s t [R.PURLIN_STATUS])) ∧
  (∀ s b v, s.assayed.testBit b.val = true → (v - toSigned 16 (s.getO (keyA b RAssay.ASSAY_TEMP))).natAbs ≤ 4 * s.getO R.TEMP_WINDOW → Gives (.assayWindow b v) s (fun t =>
    t.getO (keyA b RAssay.WINDOW_STATE) = 1 ∧ (t.die (dieOf b)).temp = v ∧ OnlyObjs s t [keyA b RAssay.WINDOW_STATE])) ∧
  (∀ s b v, 4 * s.getO R.TEMP_WINDOW < (v - toSigned 16 (s.getO (keyA b RAssay.ASSAY_TEMP))).natAbs → s.getO (keyA b RAssay.WINDOW_STATE) = 1 → Gives (.assayWindow b v) s (fun t =>
    t.getO (keyA b RAssay.WINDOW_STATE) = 0 ∧ (t.die (dieOf b)).temp = v)) ∧
  (∀ s m, s.ledgerQ = [] → Gives (.ledgerCommit m) s (fun t => t = s)) ∧
  (∀ s m k u q, s.ledgerQ = (k, u) :: q → s.getO R.HOLDUP_STATE ≠ HS.ON_STORE → classNeeds s.ledgerClass ≤ sampleEnergy m → Gives (.ledgerCommit m) s (fun t =>
    t.ledgerQ = q ∧ t.getO R.LEDGER_SEQ = (s.getO R.LEDGER_SEQ + 1) % 2 ^ 32 ∧ t.ledgerHeld = s.ledgerHeld)) ∧
  (∀ s m k u q, s.ledgerQ = (k, u) :: q → s.getO R.HOLDUP_STATE = HS.ON_STORE ∨ sampleEnergy m < classNeeds s.ledgerClass → Gives (.ledgerCommit m) s (fun t =>
    t.ledgerQ = q ∧ t.getO R.LEDGER_SEQ = s.getO R.LEDGER_SEQ ∧ t.getO R.LEDGER_STATE = 1 ∧ t.ledgerHeld = s.ledgerHeld ++ [(k, u)] ∧ t.ledgerDue = some (s.ledgerDue.getD (s.now + 60000000000000)))) ∧
  (∀ s b, (s.bay b).roll.dirty = false → Gives (.ledgerIntervalExpiry b) s (fun t => t = s)) ∧
  (∀ s b, (s.bay b).roll.dirty = true → s.ledgerQ.contains (LG.TIMING, b.val) = false → s.ledgerHeld.contains (LG.TIMING, b.val) = false → Gives (.ledgerIntervalExpiry b) s (fun t =>
    t.ledgerQ = s.ledgerQ ++ [(LG.TIMING, b.val)])) ∧
  (∀ s, s.ledgerDue = none → Gives .ledgerRetry s (fun t => t = s)) ∧
  (∀ s d, s.ledgerDue = some d → Gives .ledgerRetry s (fun t => t.ledgerQ = s.ledgerQ ++ s.ledgerHeld ∧ t.ledgerHeld = [] ∧ t.ledgerDue = none ∧ t.objs = s.objs))

/-- R358, R359, R376, R377: sessions open, close and greet. -/
def Obligations.SessionsAndHello : Prop :=
  (∀ s p r i, s.sessionsServed p = true → s.getO R.TM_STATE ≠ TM.ENROLMENT → s.anchored r = true → s.session i = none →
    (∀ j, j < i → s.session j ≠ none) →
    Gives (.sessionOpen p (.chain r)) s (fun t => t.session i = some { port := p.val, role := roleNo r, last := s.now } ∧
      (∀ j, j ≠ i → t.session j = s.session j) ∧ OnlyObjs s t [R.SESSION_COUNT] ∧ t = { s with objs := t.objs, sessions := t.sessions })) ∧
  (∀ s p k, s.sessionsServed p = true → s.getO R.TM_STATE = TM.ENROLMENT → (∀ j, s.session j = none) →
    Gives (.sessionOpen p (.selfSigned k)) s (fun t => t.session 0 = some { port := p.val, role := 2, ownKey := some k, last := s.now } ∧
      t.getO R.SESSION_COUNT = 1)) ∧
  (∀ s p c, (∀ j, s.session j ≠ none) → Gives (.sessionOpen p c) s (fun t => t = s)) ∧
  (∀ s p c, s.sessionsServed p = false → Gives (.sessionOpen p c) s (fun t => t = s)) ∧
  (∀ s i, Gives (.sessionClose i) s (fun t => t.session i = none ∧ (∀ j, j ≠ i → t.session j = s.session j) ∧ t.shadows = s.shadows ∧
    (∀ p : Fin 2, (t.dataPorts.get p).sub ≠ some i.val) ∧ OnlyObjs s t [R.SESSION_COUNT] ∧ OnlyParts s t [.objects, .sessions, .commits])) ∧
  (∀ s i x, s.session i = some x → Gives (.sessionIdleTimeout i) s (fun t => t.session i = none ∧
    t.now = max s.now (x.last + x.idle * 1000000000000) ∧ (∀ j, j ≠ i → t.session j = s.session j) ∧ OnlyObjs s t [R.SESSION_COUNT])) ∧
  (∀ s i x req (proto dict : BitVec 8) m, New s i x req → x.running = none → x.hello = false → x.ownKey = none →
    16 ≤ proto.toNat → 16 ≤ dict.toNat →
    Gives (.hello i req proto dict m) s (fun t =>
      t.reply = { body := toBytes 1 (min proto.toNat 0x20) ++ toBytes 1 (min dict.toNat 0x31) ++ toBytes 1 i.val ++ toBytes 1 x.role } ∧
      (∃ y, t.session i = some y ∧ y.hello = true ∧ y.proto = min proto.toNat 0x20 ∧ y.view = min dict.toNat 0x31 ∧ y.role = x.role) ∧
      SessionFrame i s t)) ∧
  (∀ s i x req (proto dict : BitVec 8) m, New s i x req → x.running = none → x.hello = false → proto.toNat < 16 ∨ dict.toNat < 16 →
    Gives (.hello i req proto dict m) s (fun t => Replied s t i x req { status := ST.VERSION_UNSUPPORTED } ∧ SessionFrame i s t)) ∧
  (∀ s i x req proto dict m, New s i x req → x.running = none → x.hello = true →
    Gives (.hello i req proto dict m) s (fun t => Replied s t i x req { status := ST.STATE_LOCKED } ∧ SessionFrame i s t)) ∧
  (∀ s i x req c, requestOf c = some (i, req) → typeSince c ≠ 0 → New s i x req → x.running = none → x.hello = false →
    Gives c s (fun t => Replied s t i x req { status := ST.AUTH_REQUIRED } ∧ SessionFrame i s t)) ∧
  (∀ s i x req c, requestOf c = some (i, req) → New s i x req → x.running = none → x.hello = true → x.proto < typeSince c →
    Gives c s (fun t => Replied s t i x req { status := ST.VERSION_UNSUPPORTED } ∧ SessionFrame i s t))

/-- R362: a session's requests one at a time, in order of arrival, up to eight of them waiting. -/
def Obligations.OneRequestAtATime : Prop :=
  (∀ s i x c req r, requestOf c = some (i, req) → New s i x req → x.running = some r → x.waits.length < 8 →
    Gives c s (fun t => t.session i = some { x with last := s.now, waits := x.waits ++ [c] } ∧ t.reply = s.reply ∧ SessionFrame i s t)) ∧
  (∀ s i x c req r, requestOf c = some (i, req) → New s i x req → x.running = some r → 8 ≤ x.waits.length →
    Gives c s (fun t => t.session i = some { x with last := s.now } ∧ t.reply = { status := ST.STATE_LOCKED } ∧ SessionFrame i s t))

/-- R363: a request whose ID the session has kept is answered with the kept reply and is not carried out again; one that
still runs, or waits, is IN_PROGRESS with OK. -/
def Obligations.RepliesAreKept : Prop :=
  (∀ s i x c req p, requestOf c = some (i, req) → s.postEnds = [] → s.session i = some x → x.replies.find? (fun p => p.1 == req) = some p →
    Gives c s (fun t => t.reply = p.2 ∧ t.session i = some { x with last := s.now } ∧ SessionFrame i s t)) ∧
  (∀ s i x c req, requestOf c = some (i, req) → s.postEnds = [] → s.session i = some x → x.replies.find? (fun p => p.1 == req) = none →
    x.running = some req ∨ x.waits.any (fun w => requestId w == some req) = true →
    Gives c s (fun t => t.reply = { status := ST.OK, busy := true } ∧ t.session i = some { x with last := s.now } ∧ SessionFrame i s t))

/-- R353, R354, R364, R365, R367, R368: reads and writes of objects by message. -/
def Obligations.ReadsAndWrites : Prop :=
  (∀ s i x req room (items : List ObjAddr), Starts s i x (.read i req room items) req →
    (∀ a ∈ items, ((s.heard i).readObj (x.via i) a).st = s.heard i) →
    (items.map (fun a => ((s.heard i).readObj (x.via i) a).item.length)).sum ≤ room →
    Gives (.read i req room items) s (fun t => Replied s t i x req
      { status := ((items.map (fun a => ((s.heard i).readObj (x.via i) a).status)).find? (fun n => n != ST.OK)).getD ST.OK,
        body := items.flatMap (fun a => ((s.heard i).readObj (x.via i) a).item) } ∧ SessionFrame i s t)) ∧
  (∀ s i x req room a rest, Starts s i x (.read i req room (a :: rest)) req → room < ((s.heard i).readObj (x.via i) a).item.length →
    Gives (.read i req room (a :: rest)) s (fun t => Replied s t i x req { more := true } ∧ SessionFrame i s t)) ∧
  (∀ s i x req w m st, Starts s i x (.write i req [w] m) req → isRws x.view w.addr = false →
    (s.heard i).rwsVerdict (x.via i) w.addr (some w.type.toNat) w.epoch.toNat w.value = .refuse st → st ≠ ST.OK →
    Gives (.write i req [w] m) s (fun t => Replied s t i x req { status := st } ∧ SessionFrame i s t)) ∧
  (∀ s i x req w m r k, Starts s i x (.write i req [w] m) req → isRws x.view w.addr = false → r.access = AC.RW →
    (s.heard i).rwsVerdict (x.via i) w.addr (some w.type.toNat) w.epoch.toNat w.value = .go r →
    k = key w.addr.index.toNat w.addr.sub.toNat → k = R.COMMIT_WINDOW ∨ k = R.MERGE_WINDOW ∨ k = R.WATCHDOG_TIME ∨ k = R.HOLDUP_INTERVAL →
    Gives (.write i req [w] m) s (fun t => Replied s t i x req {} ∧ t.getO k = ofBytes w.value ∧ OnlyObjs s t [k])) ∧
  (∀ s i x req pre w rest m, Starts s i x (.write i req (pre ++ w :: rest) m) req → (∀ v ∈ pre ++ w :: rest, isRws x.view v.addr = false) →
    (writeItems i req (x.via i) m (s.heard i) 0 (pre ++ [w])).reply.status ≠ ST.OK →
    ((writeItems i req (x.via i) m (s.heard i) 0 (pre ++ [w])).session i).any (fun y => y.running.isSome) = false →
    exec (.write i req (pre ++ w :: rest) m) s = exec (.write i req (pre ++ [w]) m) s) ∧
  (∀ s i x req items m, Starts s i x (.write i req items m) req → items.any (fun w => isRws x.view w.addr) = true →
    items.all (fun w => isRws x.view w.addr) = false →
    Gives (.write i req items m) s (fun t => Replied s t i x req { status := ST.OUT_OF_RANGE } ∧ SessionFrame i s t)) ∧
  (∀ s i x req w m, Starts s i x (.maskedWrite i req w m) req → typeLen w.type.toNat = none ∨ 1 < w.kind.toNat →
    Gives (.maskedWrite i req w m) s (fun t => Replied s t i x req { status := ST.OUT_OF_RANGE } ∧ SessionFrame i s t)) ∧
  (∀ s i x req w m (b : Bay) n st, Starts s i x (.maskedWrite i req w m) req → typeLen w.type.toNat = some n → w.value.toNat < 256 ^ n →
    w.kind = 0 → 0x3000 ≤ w.base.toNat → w.base.toNat ≤ 0x30FF → w.mask = BitVec.ofNat 256 (2 ^ b.val) →
    (s.heard i).rwsVerdict (x.via i) ⟨BitVec.ofNat 16 (w.base.toNat + b.val * 0x100), w.sub⟩ (some w.type.toNat)
      (fieldOf w.epochs.toNat (16 * b.val) 16) (toBytes n w.value.toNat) = .refuse st → st ≠ ST.OK →
    Gives (.maskedWrite i req w m) s (fun t => Replied s t i x req
      { status := st, body := toBytes 32 0 ++ (toBytes 1 b.val ++ toBytes 1 st ++ toBytes 2 (s.getB b RBay.SITE_EPOCH)) } ∧
      SessionFrame i s t)) ∧
  (∀ s i x req a off len, Starts s i x (.blockRead i req a off len) req → ((s.heard i).readObj (x.via i) a).status = ST.OK →
    ((s.heard i).readObj (x.via i) a).type = 13 → ((s.heard i).readObj (x.via i) a).st = s.heard i →
    Gives (.blockRead i req a off len) s (fun t => Replied s t i x req
      { body := slice ((s.heard i).readObj (x.via i) a).data off len,
        more := decide (off + len < ((s.heard i).readObj (x.via i) a).data.length) } ∧ SessionFrame i s t)) ∧
  (∀ s i x req a off len, Starts s i x (.blockRead i req a off len) req → ((s.heard i).readObj (x.via i) a).status ≠ ST.OK →
    Gives (.blockRead i req a off len) s (fun t => Replied s t i x req { status := ((s.heard i).readObj (x.via i) a).status } ∧ SessionFrame i s t)) ∧
  (∀ s i x req f m, Starts s i x (.blockWrite i req f m) req → x.block = none → f.total.toNat < f.offset.toNat + f.data.length →
    Gives (.blockWrite i req f m) s (fun t => Replied s t i x req { status := ST.OUT_OF_RANGE } ∧ SessionFrame i s t)) ∧
  (∀ s i x req f m, Starts s i x (.blockWrite i req f m) req → x.block = none → f.offset.toNat + f.data.length < f.total.toNat →
    (s.heard i).heldBytes + f.data.length ≤ 67108864 → f.offset = 0 →
    Gives (.blockWrite i req f m) s (fun t => t.reply = { status := ST.OK, more := true } ∧ SessionFrame i s t ∧
      ∃ y, t.session i = some y ∧ y.block = some ⟨f.addr, f.epoch.toNat, f.total.toNat, [(0, f.data)], s.now + 5000000000000⟩)) ∧
  (∀ s i x b, s.session i = some x → x.block = some b →
    Gives (.blockWriteAbandon i) s (fun t => t.session i = some { x with block := none } ∧ t.now = max s.now b.due ∧
      OnlyParts s t [.clock, .sessions])) ∧
  (∀ s role w st, { s with fresh := s.fresh + 1 }.rwsVerdict { role := roleNo role } w.addr (some w.type.toNat) w.epoch.toNat w.value = .refuse st →
    Gives (.registerWrite role w) s (fun t => t = { s with fresh := s.fresh + 1, reply := { status := st } })) ∧
  (∀ s role w r k, { s with fresh := s.fresh + 1 }.rwsVerdict { role := roleNo role } w.addr (some w.type.toNat) w.epoch.toNat w.value = .go r →
    r.access = AC.RW → k = key w.addr.index.toNat w.addr.sub.toNat →
    k = R.COMMIT_WINDOW ∨ k = R.MERGE_WINDOW ∨ k = R.WATCHDOG_TIME ∨ k = R.HOLDUP_INTERVAL →
    Gives (.registerWrite role w) s (fun t => t.reply = {} ∧ t.getO k = ofBytes w.value ∧ OnlyObjs s t [k]))

/-- R40 to R45, R355, R365, R366: staging, discarding, and the outstanding commit. -/
def Obligations.StageAndCommit : Prop :=
  (∀ s i x req w r (b : Bay), Starts s i x (.stage i req [w]) req → Served s → 1 ≤ x.role →
    (s.heard i).common (x.via i) w.addr (some w.type.toNat) w.value (fun r => r.stageable || r.multi) = .go r →
    s.committing (0x100 + b.val) = false → s.bayDown b = false → w.epoch.toNat = s.getB b RBay.SITE_EPOCH →
    w.addr.index.toNat = 0x3000 + b.val * 0x100 + 0x60 → s.badValue w.addr.index.toNat w.addr.sub.toNat w.value = false →
    Gives (.stage i req [w]) s (fun t => Replied s t i x req {} ∧ t.getB b RBay.COMMIT_STATUS = 1 ∧
      (⟨w.addr.index.toNat, w.addr.sub.toNat, w.value, 0⟩ : Staged) ∈ t.shadow (0x100 + b.val) ∧
      (∀ u, u ≠ 0x100 + b.val → t.shadow u = s.shadow u) ∧ OnlyObjs s t [keyB b RBay.COMMIT_STATUS])) ∧
  (∀ s i x req w st, Starts s i x (.stage i req [w]) req → Served s → 1 ≤ x.role →
    (s.heard i).common (x.via i) w.addr (some w.type.toNat) w.value (fun r => r.stageable || r.multi) = .refuse st → st ≠ ST.OK →
    Gives (.stage i req [w]) s (fun t => Replied s t i x req { status := st } ∧ SessionFrame i s t)) ∧
  (∀ s i x req items, Starts s i x (.stage i req items) req → s.operational = false ∨ s.coreOut = true →
    Gives (.stage i req items) s (fun t => Replied s t i x req { status := ST.STATE_LOCKED } ∧ SessionFrame i s t)) ∧
  (∀ s i x req (b : Bay) e, Starts s i x (.stageDiscard i req [⟨BitVec.ofNat 12 (0x100 + b.val), e⟩]) req → Served s → 1 ≤ x.role →
    s.committing (0x100 + b.val) = false → s.bayDown b = false → e.toNat = s.getB b RBay.SITE_EPOCH →
    Gives (.stageDiscard i req [⟨BitVec.ofNat 12 (0x100 + b.val), e⟩]) s (fun t => Replied s t i x req {} ∧ t.shadow (0x100 + b.val) = [] ∧
      (∀ u, u ≠ 0x100 + b.val → t.shadow u = s.shadow u) ∧ OnlyObjs s t [keyB b RBay.COMMIT_STATUS] ∧
      (s.getB b RBay.COMMIT_STATUS = 1 → t.getB b RBay.COMMIT_STATUS = 0))) ∧
  (∀ s i x req (b : Bay) e, Starts s i x (.stageDiscard i req [⟨BitVec.ofNat 12 (0x100 + b.val), e⟩]) req → Served s → 1 ≤ x.role →
    s.committing (0x100 + b.val) = true →
    Gives (.stageDiscard i req [⟨BitVec.ofNat 12 (0x100 + b.val), e⟩]) s (fun t =>
      Replied s t i x req { status := ST.STATE_LOCKED } ∧ SessionFrame i s t)) ∧
  (∀ s i x req tag units, Starts s i x (.commit i req tag units) req → Served s → 1 ≤ x.role → s.commit.isSome = true →
    Gives (.commit i req tag units) s (fun t => Replied s t i x req { status := ST.STATE_LOCKED } ∧ SessionFrame i s t)) ∧
  (∀ s i x req tag units, Starts s i x (.commit i req tag units) req → Served s → 1 ≤ x.role → s.commit = none →
    units = [] ∨ ¬ (units.map (·.unit.toNat)).Nodup ∨ (if x.proto < 0x20 then 16 else 64) < units.length →
    Gives (.commit i req tag units) s (fun t => Replied s t i x req { status := ST.OUT_OF_RANGE } ∧ SessionFrame i s t)) ∧
  (∀ s i x req (tag : BitVec 16) (b : Bay) e, Starts s i x (.commit i req tag [⟨BitVec.ofNat 12 (0x100 + b.val), e⟩]) req → Served s → 1 ≤ x.role →
    s.commit = none →
    Gives (.commit i req tag [⟨BitVec.ofNat 12 (0x100 + b.val), e⟩]) s (fun t =>
      t.commit = some ⟨tag.toNat, [(0x100 + b.val, e.toNat)], [], s.now + s.getO R.COMMIT_WINDOW * 1000000, some i.val⟩ ∧
      t.session i = some { x with last := s.now, running := some req } ∧ t.reply = s.reply ∧
      t.getB b RBay.COMMIT_TAG = tag.toNat ∧ OnlyObjs s t [keyB b RBay.COMMIT_TAG])) ∧
  (∀ s u m, s.commit = none → Gives (.commitApply u m) s (fun t => t = s)) ∧
  (∀ s m tag (b : Bay) e (p v : Nat) due, s.commit = some ⟨tag, [(0x100 + b.val, e)], [], due, none⟩ →
    s.shadow (0x100 + b.val) = [⟨0x3000 + b.val * 0x100 + 0x60, p, toBytes 4 v, 0⟩] → s.shadow 0x1C0 = [] → 1 ≤ p → p ≤ 64 → v < 2 ^ 32 →
    s.bst b ≠ BS.OFF → s.bst b ≠ BS.MAINT → s.locked b.val = true → e = s.getB b RBay.SITE_EPOCH → s.running b = false ∨ s.atGranule b = true →
    Gives (.commitApply (BitVec.ofNat 12 (0x100 + b.val)) m) s (fun t => t.getB b (0x6000 + p) = v ∧ t.getB b RBay.COMMIT_STATUS = CS.APPLIED ∧
      t.getB b RBay.COMMIT_REASON = 0 ∧ t.shadow (0x100 + b.val) = [] ∧ t.commit = none ∧ t.getO R.COMMIT_RESULT = ST.OK ∧
      t.getO R.APPLIED_MASK = 1 ∧ t.getO R.COMMIT_TAG = tag ∧ t.doms.get R.COMMIT_REPORT [] = toBytes 4 ((0x100 + b.val) * 2 ^ 20 + 2 * 2 ^ 16))) ∧
  (∀ s m tag (b : Bay) e (x : Staged) l due, s.commit = some ⟨tag, [(0x100 + b.val, e)], [], due, none⟩ → s.shadow (0x100 + b.val) = x :: l →
    x.isLevel = false → x.isGuard = false → s.shadow 0x1C0 = [] → s.running b = true → s.atGranule b = false → s.locked b.val = true →
    e = s.getB b RBay.SITE_EPOCH → Gives (.commitApply (BitVec.ofNat 12 (0x100 + b.val)) m) s (fun t => t = s)) ∧
  (∀ s m tag (b : Bay) e due, s.commit = some ⟨tag, [(0x100 + b.val, e)], [], due, none⟩ → s.shadow 0x1C0 = [] → s.bst b = BS.MAINT →
    s.locked b.val = true → e = s.getB b RBay.SITE_EPOCH →
    Gives (.commitApply (BitVec.ofNat 12 (0x100 + b.val)) m) s (fun t => t.getB b RBay.COMMIT_STATUS = CS.REFUSED ∧
      t.getB b RBay.COMMIT_REASON = CR.STATE ∧ t.shadow (0x100 + b.val) = s.shadow (0x100 + b.val) ∧ t.commit = none ∧
      t.getO R.COMMIT_RESULT = ST.PARTIAL_COMMIT ∧ t.getO R.APPLIED_MASK = 0)) ∧
  (∀ s tag (b : Bay) e due, s.commit = some ⟨tag, [(0x100 + b.val, e)], [], due, none⟩ → (s.bay b).holding.isSome = true →
    Gives .commitWindowExpiry s (fun t => t.now = max s.now due ∧ t.commit = none ∧ t.shadows = s.shadows ∧
      t.getB b RBay.COMMIT_STATUS = CS.REFUSED ∧ t.getB b RBay.COMMIT_REASON = CR.SITE_PEER ∧ t.getO R.COMMIT_RESULT = ST.PARTIAL_COMMIT ∧
      t.getO R.APPLIED_MASK = 0)) ∧
  (∀ s tag (b : Bay) e due, s.commit = some ⟨tag, [(0x100 + b.val, e)], [], due, none⟩ → (s.bay b).holding = none →
    Gives .commitWindowExpiry s (fun t => t.now = max s.now due ∧ t.commit = none ∧ t.shadows = s.shadows ∧
      t.getB b RBay.COMMIT_STATUS = CS.REFUSED ∧ t.getB b RBay.COMMIT_REASON = CR.WINDOW ∧ t.getO R.COMMIT_RESULT = ST.PARTIAL_COMMIT ∧
      t.getO R.APPLIED_MASK = 0 ∧ t.doms.get R.COMMIT_REPORT [] = toBytes 4 ((0x100 + b.val) * 2 ^ 20 + 3 * 2 ^ 16 + 4 * 2 ^ 8))) ∧
  (∀ s, s.commit = none → Gives .commitWindowExpiry s (fun t => t = s))

/-- R369, R370: notifications and data events. -/
def Obligations.EventsAndDataEvents : Prop :=
  (∀ s i x q, s.session i = some x → x.queue = [q] → q.until_ ≤ s.now →
    Gives (.eventSend i) s (fun t => t.reply = { body := toBytes 4 x.seq ++ toBytes 2 x.lostNew ++ toBytes 2 0 ++
        (toBytes 2 q.source ++ toBytes 2 q.count ++ toBytes 8 q.time ++ toBytes 4 q.detail) } ∧
      t.session i = some { x with queue := [], seq := (x.seq + 1) % 2 ^ 32, lostNew := 0 } ∧ SessionFrame i s t)) ∧
  (∀ s i x, s.session i = some x → (∀ q ∈ x.queue, s.now < q.until_) → Gives (.eventSend i) s (fun t => t = s)) ∧
  (∀ s i x (n : BitVec 11) q, s.session i = some x → x.queue.find? (fun q => q.source == n.toNat && decide (s.now < q.until_)) = some q →
    Gives (.eventHoldExpiry i n) s (fun t => t = { s with now := q.until_ })) ∧
  (∀ s i x, s.session i = some x → x.hello = false → ∀ on, Gives (.dataSubscribe i on) s (fun t => t.reply = { status := ST.AUTH_REQUIRED } ∧ OnlyAnswer s t)) ∧
  (∀ s i x, s.session i = some x → x.hello = true → x.view = 0x31 → 1 ≤ x.role → s.operational = true →
    (s.dataPorts.get (Fin.ofNat 2 x.port)).sub = none →
    Gives (.dataSubscribe i true) s (fun t => t.reply = {} ∧ (t.dataPorts.get (Fin.ofNat 2 x.port)).sub = some i.val ∧
      t = { s with reply := {}, dataPorts := t.dataPorts })) ∧
  (∀ s i x (j : Fin 16), s.session i = some x → x.hello = true → x.view = 0x31 → 1 ≤ x.role → s.operational = true →
    (s.dataPorts.get (Fin.ofNat 2 x.port)).sub = some j.val → j ≠ i →
    Gives (.dataSubscribe i true) s (fun t => t.reply = { status := ST.RESOURCE_CLAIMED, detail := j.val * 2 ^ 32 } ∧ OnlyAnswer s t)) ∧
  (∀ s i x (n : BitVec 32), s.session i = some x → x.hello = true → x.view = 0x31 → 1 ≤ x.role → s.operational = true →
    (s.dataPorts.get (Fin.ofNat 2 x.port)).sub = some i.val →
    Gives (.dataAck i n) s (fun t => t.reply = {} ∧ t = { s with reply := {}, dataPorts := t.dataPorts } ∧
      (t.dataPorts.get (Fin.ofNat 2 x.port)).unacked =
        (s.dataPorts.get (Fin.ofNat 2 x.port)).unacked.filter (fun e => decide (n.toNat < e.1)))) ∧
  (∀ s i x, s.session i = some x → (s.dataPorts.get (Fin.ofNat 2 x.port)).sub = some i.val →
    (s.dataPorts.get (Fin.ofNat 2 x.port)).unacked ≠ [] →
    Gives (.dataEventResend i) s (fun t => OnlyAnswer s t ∧ t.reply =
      { body := (s.dataPorts.get (Fin.ofNat 2 x.port)).unacked.flatMap (fun e => toBytes 4 e.1 ++ toBytes 2 0 ++ toBytes 2 1 ++ e.2) }))

/-- R372, R374: the management port.  Its BUSY bit reads 0 at every STATUS, which is the model's own choice, and the bytes a read answers
past the end of a value are free (log 27). -/
def Obligations.ManagementPort : Prop :=
  (∀ s a off len, s.keeperOff = false → Gives (.mgmtRead a off len false) s (fun t => t = s)) ∧
  (∀ s a off len, s.keeperOff = false → 1 ≤ len → len ≤ 256 → inReduced a = true → (s.readObj mgmtVia a).status = ST.OK →
    off + len ≤ (s.readObj mgmtVia a).data.length →
    Gives (.mgmtRead a off len true) s (fun t => ∃ body, body = toBytes 1 0 ++ slice (s.readObj mgmtVia a).data off len ∧
      t.reply = { body := body ++ toBytes 2 (crc16 body).toNat } ∧ t = { (s.readObj mgmtVia a).st with reply := t.reply })) ∧
  (∀ s a off len, s.keeperOff = false → 1 ≤ len → len ≤ 256 → inReduced a = false →
    Gives (.mgmtRead a off len true) s (fun t => t.reply.status = ST.ACCESS_DENIED ∧ t.fresh = s.fresh + len ∧
      t = { s with reply := t.reply, fresh := t.fresh })) ∧
  (∀ s a off d c m, s.keeperOff = false →
    c ≠ crc16 (toBytes 1 2 ++ toBytes 2 a.index.toNat ++ toBytes 1 a.sub.toNat ++ toBytes 4 off ++ toBytes 2 d.length ++ d) ∨ d = [] ∨ 256 < d.length →
    Gives (.mgmtWrite a off d c m) s (fun t => t = { s with mgmtLast := ST.OUT_OF_RANGE })) ∧
  (∀ s a off d m, s.keeperOff = false → 1 ≤ d.length → d.length ≤ 256 → inReduced a = false →
    Gives (.mgmtWrite a off d (crc16 (toBytes 1 2 ++ toBytes 2 a.index.toNat ++ toBytes 1 a.sub.toNat ++ toBytes 4 off ++ toBytes 2 d.length ++ d)) m) s
      (fun t => t = { s with mgmtLast := ST.ACCESS_DENIED })) ∧
  (∀ s a d m r k, s.keeperOff = false → 1 ≤ d.length → d.length ≤ 256 → inReduced a = true →
    s.rwsVerdict mgmtVia a none 0 d = .go r → r.access = AC.RW → k = key a.index.toNat a.sub.toNat →
    k = R.MERGE_WINDOW ∨ k = R.HOLDUP_INTERVAL →
    Gives (.mgmtWrite a 0 d (crc16 (toBytes 1 2 ++ toBytes 2 a.index.toNat ++ toBytes 1 a.sub.toNat ++ toBytes 4 0 ++ toBytes 2 d.length ++ d)) m) s
      (fun t => t.mgmtLast = ST.OK ∧ t.reply = s.reply ∧ t.getO k = ofBytes d ∧ OnlyObjs s t [k])) ∧
  (∀ s, s.keeperOff = false → Gives .mgmtStatus s (fun t => t.reply = { body := toBytes 1 s.mgmtLast ++ toBytes 1 0 } ∧ OnlyAnswer s t))

/-- R422, R424, R427, R428, R429: what the collector does with messages, grace timers, step tokens and FAULT_HANDLE. -/
def Obligations.FaultsCollected : Prop :=
  (∀ s u m q r smp, AtPort s u m q → s.mergesInto m = some r →
    Gives (.faultMessage u smp) s (fun t => t.ports = s.ports.set u.toNat q ∧
      t.log = s.log.map (fun x => if x.seq = r.seq then { x with repeats := satAdd 16 x.repeats 1, lastTime := s.keeperTime } else x) ∧
      t.getO R.MESSAGES = (s.getO R.MESSAGES + 1) % 2 ^ 64 ∧ OnlyObjs s t [R.MESSAGES] ∧
      t = { s with objs := t.objs, ports := t.ports, log := t.log })) ∧
  (∀ s u m q smp, AtPort s u m q → m.legal → s.mergesInto m = none → (s.getO R.LOG_SEQ_NEXT + 1) % 256 ≠ 0 →
    m.suppress = true ∨ polFinal (s.policy m.kind) = 0 →
    Gives (.faultMessage u smp) s (fun t => t.ports = s.ports.set u.toNat q ∧ t.log = lastN 1535 s.log ++ [s.newRec m] ∧
      t.timers = s.timers ∧ t.getO R.MESSAGES = (s.getO R.MESSAGES + 1) % 2 ^ 64 ∧
      t.getO R.LOG_SEQ_NEXT = (s.getO R.LOG_SEQ_NEXT + 1) % 2 ^ 32 ∧
      t.getO R.LOG_OVERWRITTEN = (if s.log.length < 1536 then s.getO R.LOG_OVERWRITTEN else satAdd 32 (s.getO R.LOG_OVERWRITTEN) 1) ∧
      OnlyObjsEv s t [R.MESSAGES, R.LOG_SEQ_NEXT, R.LOG_OVERWRITTEN])) ∧
  (∀ s u m q smp, AtPort s u m q → m.legal → s.mergesInto m = none → (s.getO R.LOG_SEQ_NEXT + 1) % 256 ≠ 0 → m.suppress = false →
    polFinal (s.policy m.kind) ≠ 0 → (s.policy m.kind).testBit 1 = true → s.timers.length < 64 →
    (∀ x ∈ s.timers, sameKey x.msg m = false) →
    Gives (.faultMessage u smp) s (fun t => t.log = lastN 1535 s.log ++ [s.newRec m] ∧
      t.timers = s.timers ++ [{ msg := m, seq := s.getO R.LOG_SEQ_NEXT, due := s.now + polTime (s.policy m.kind), policy := s.policy m.kind }] ∧
      t.getO R.TIMERS_BUSY = s.timers.length + 1 ∧
      OnlyObjsEv s t [R.MESSAGES, R.LOG_SEQ_NEXT, R.LOG_OVERWRITTEN, R.TIMERS_BUSY])) ∧
  (∀ s (u : BitVec 12) m rest smp, s.keeperOff = false → s.fatal = m :: rest → m.unit = u.toNat → 0x134 ≤ u.toNat → m.legal → m.slot = none →
    m.suppress = false → (∀ x ∈ s.log, x.seq ≠ s.getO R.LOG_SEQ_NEXT) → s.mergesInto m = none → (s.getO R.LOG_SEQ_NEXT + 1) % 256 ≠ 0 → polFinal (s.policy m.kind) = 4 →
    (s.policy m.kind).testBit 1 = false → s.inHold = false →
    Gives (.faultMessage u smp) s (fun t => t.getO R.MODULE_STATE = MS.SAFE_HOLD ∧ t.getO R.SAFE_HOLD_CAUSE = m.kind + u.toNat * 2 ^ 8 ∧
      t.getO R.ALIVE_STATE = 1 ∧ t.getO R.ESCALATIONS = satAdd 32 (s.getO R.ESCALATIONS) 1 ∧
      t.log = lastN 1535 s.log ++ [{ s.newRec m with step := 4 }])) ∧
  (∀ s (u : BitVec 12) smp, s.keeperOff = false → s.fatal ≠ [] → (∀ m ∈ s.fatal, m.unit ≠ u.toNat) →
    Gives (.faultMessage u smp) s (fun t => t = s)) ∧
  (∀ s (u : BitVec 12) smp, s.keeperOff = false → s.fatal = [] → s.ports.get u.toNat [] = [] →
    Gives (.faultMessage u smp) s (fun t => t = s)) ∧
  (∀ s (u : BitVec 12), s.portLost.get u.toNat 0 ≠ 0 → s.roomAt u.toNat →
    Gives (.faultOverflow u) s (fun t => t.portLost.get u.toNat 0 = 0 ∧
      t.ports = s.ports.set u.toNat (s.ports.get u.toNat [] ++ [s.faultMsg u.toNat 0x01 (s.portLost.get u.toNat 0)]) ∧
      t = { s with ports := t.ports, portLost := t.portLost })) ∧
  (∀ s (u : BitVec 12), s.portLost.get u.toNat 0 = 0 ∨ ¬ s.roomAt u.toNat → Gives (.faultOverflow u) s (fun t => t = s)) ∧
  (∀ s u k i, s.keeperOff = false → s.timers = [] → Gives (.graceExpired u k i) s (fun t => t = s)) ∧
  (∀ s (b : Bay) (k : BitVec 8) i x, s.keeperOff = false → s.timers = [x] → x.msg.unit = 0x100 + b.val → x.msg.kind = k.toNat →
    x.msg.inject = i → x.msg.slot = none → x.tried = 0 → polFinal x.policy = 3 → s.bayDown b = false →
    Gives (.graceExpired (BitVec.ofNat 12 (0x100 + b.val)) k i) s (fun t => t.bst b = BS.SAFE ∧ t.now = max s.now x.due ∧
      t.getO R.ESCALATIONS = satAdd 32 (s.getO R.ESCALATIONS) 1 ∧
      t.timers = [{ x with due := x.due + polTime x.policy, tried := 2 }] ∧
      t.tokens = s.tokens ++ [⟨x.seq, max s.now x.due + 100000000⟩] ∧
      t.log = s.log.map (fun r => if r.seq = x.seq then { r with expired := true, step := max r.step 2 } else r))) ∧
  (∀ s (n : BitVec 32) d rest, s.tokens = ⟨n.toNat, d⟩ :: rest → Gives (.stepConfirm n) s (fun t => t = { s with tokens := rest })) ∧
  (∀ s (n : BitVec 32), (∀ x ∈ s.tokens, x.seq ≠ n.toNat) → Gives (.stepConfirm n) s (fun t => t = s)) ∧
  (∀ s (n : BitVec 32) d rest, s.tokens = ⟨n.toNat, d⟩ :: rest →
    Gives (.stepUnconfirmed n) s (fun t => t = { s with tokens := rest, now := max s.now d, log := s.log.map (fun r =>
      if r.seq = n.toNat then { r with unconfirmed := true } else r) })) ∧
  (∀ s (n : BitVec 32), (∀ x ∈ s.tokens, x.seq ≠ n.toNat) → Gives (.stepUnconfirmed n) s (fun t => t = s)) ∧
  (∀ s (n : BitVec 32) r, s.keeperOff = false → s.recOf n.toNat = some r →
    Gives (.faultHandle n) s (fun t => t.reply = {} ∧ t.log = s.log.map (fun x => if x.seq = n.toNat then { x with handled := true } else x) ∧
      t.timers = s.timers.filter (fun x => !sameKey x.msg r.msg) ∧ t.getO R.TIMERS_BUSY = t.timers.length ∧
      OnlyObjs s t [R.TIMERS_BUSY] ∧ t = { s with objs := t.objs, log := t.log, timers := t.timers, reply := t.reply })) ∧
  (∀ s (n : BitVec 32), s.keeperOff = false → (∀ x ∈ s.log, x.seq ≠ n.toNat) →
    Gives (.faultHandle n) s (fun t => t.reply = { status := ST.OUT_OF_RANGE } ∧ OnlyAnswer s t))

/-- R425, R426, R430, R438: policies, injection, the reading of both logs, the keeper's copy of network time and the archive. -/
def Obligations.LogsPoliciesInjection : Prop :=
  (∀ s (k : BitVec 8) (e : BitVec 32), s.keeperOff = false → k ≠ 0 → fieldOf e.toNat 5 3 = 0 → polFinal e.toNat ≤ 5 →
    fieldOf e.toNat 8 24 ≤ 10000000 → (e.toNat.testBit 1 = true → 1 ≤ fieldOf e.toNat 8 24) →
    (polFinal e.toNat = 5 → k = 0x5A ∨ k = 0x71 ∨ k = 0x84) →
    (severityOf k.toNat = 3 → e.toNat.testBit 0 = true ∧ e.toNat.testBit 1 = false ∧ 4 ≤ polFinal e.toNat) →
    Gives (.policyWrite k e) s (fun t => t.reply = {} ∧ t.policy k.toNat = e.toNat ∧ OnlyObjs s t [key 0xC010 k.toNat] ∧ ObjFrame s t)) ∧
  (∀ s (k : BitVec 8) (e : BitVec 32), s.keeperOff = false → k ≠ 0 → severityOf k.toNat = 3 →
    e.toNat.testBit 0 = false ∨ e.toNat.testBit 1 = true ∨ polFinal e.toNat < 4 →
    Gives (.policyWrite k e) s (fun t => t.reply = { status := ST.OUT_OF_RANGE } ∧ OnlyAnswer s t)) ∧
  (∀ s (k : BitVec 8) (e : BitVec 32), s.keeperOff = false → k ≠ 0 → polFinal e.toNat = 5 → k ≠ 0x5A → k ≠ 0x71 → k ≠ 0x84 →
    Gives (.policyWrite k e) s (fun t => t.reply = { status := ST.OUT_OF_RANGE } ∧ OnlyAnswer s t)) ∧
  (∀ s (k : BitVec 8) (e : BitVec 32), s.keeperOff = false → k ≠ 0 →
    5 < polFinal e.toNat ∨ 10000000 < fieldOf e.toNat 8 24 ∨ (e.toNat.testBit 1 = true ∧ fieldOf e.toNat 8 24 = 0) →
    Gives (.policyWrite k e) s (fun t => t.reply = { status := ST.OUT_OF_RANGE } ∧ OnlyAnswer s t)) ∧
  (∀ s m, s.keeperOff = false →
    m = { s.faultMsg (s.getO R.INJECT_UNIT) (s.getO R.INJECT_KIND) (s.getO R.INJECT_ADDRESS) with
          inject := true, suppress := s.getO R.INJECT_MODE == 1, slot := some s.injNext } →
    severityOf (s.getO R.INJECT_KIND) ≠ 3 → s.roomAt (s.getO R.INJECT_UNIT) →
    Gives .injectGo s (fun t => t.reply = {} ∧ t.ports = s.ports.set m.unit (s.ports.get m.unit [] ++ [m]) ∧
      t.injNext = (s.injNext + 1) % 16 ∧ t.injSlots.get (Fin.ofNat 16 s.injNext) = {} ∧
      t = { s with reply := {}, ports := t.ports, injNext := t.injNext, injSlots := t.injSlots })) ∧
  (∀ s m, s.keeperOff = false →
    m = { s.faultMsg (s.getO R.INJECT_UNIT) (s.getO R.INJECT_KIND) (s.getO R.INJECT_ADDRESS) with
          inject := true, suppress := s.getO R.INJECT_MODE == 1, slot := some s.injNext } →
    severityOf (s.getO R.INJECT_KIND) = 3 →
    Gives .injectGo s (fun t => t.reply = {} ∧ t.fatal = s.fatal ++ [m] ∧ t.ports = s.ports)) ∧
  (∀ s r l, s.keeperOff = false → s.log = r :: l → s.getO R.LOG_READ_SEQ ≤ r.seq →
    Gives .faultLogNext s (fun t => t.reply = { body := ((s.log.filter (fun x => decide (r.seq ≤ x.seq))).take 8).flatMap recBytes } ∧
      t.getO R.LOG_READ_SEQ = r.seq + ((s.log.filter (fun x => decide (r.seq ≤ x.seq))).take 8).length ∧
      OnlyObjs s t [R.LOG_READ_SEQ] ∧ ObjFrame s t)) ∧
  (∀ s, s.keeperOff = false → (∀ x ∈ s.log, x.seq < s.getO R.LOG_SEQ_NEXT) → s.getO R.LOG_READ_SEQ = s.getO R.LOG_SEQ_NEXT →
    Gives .faultLogNext s (fun t => t.reply = { body := [] } ∧ OnlyObjs s t [] ∧ ObjFrame s t)) ∧
  (∀ s r, s.keeperOff = false → s.recOf (s.getO R.FAULT_LOG_INDEX) = some r →
    Gives .faultLogRecord s (fun t => t.reply = { body := recBytes r } ∧ OnlyAnswer s t)) ∧
  (∀ s, s.keeperOff = false → (∀ x ∈ s.log, x.seq ≠ s.getO R.FAULT_LOG_INDEX) →
    Gives .faultLogRecord s (fun t => t.reply = { status := ST.OUT_OF_RANGE } ∧ OnlyAnswer s t)) ∧
  (∀ s, s.counterOn.isSome = true →
    Gives .keeperTimeRefresh s (fun t => t.keeperRef = some s.now ∧ t.copies = s.copies.set 0x1C2 (s.netTime, 0) ∧
      t = { s with copies := t.copies, keeperRef := t.keeperRef })) ∧
  (∀ s, s.counterOn = none → Gives .keeperTimeRefresh s (fun t => t = s)) ∧
  (∀ s m, s.archRetry = none → Gives (.archiveRetry m) s (fun t => t = s)) ∧
  (∀ s m d, s.archRetry = some d → s.coreOut = true →
    Gives (.archiveRetry m) s (fun t => t = { s with now := max s.now d, archRetry := some (max s.now d + 10000000000000) })) ∧
  (∀ s m d, s.archRetry = some d → s.coreOut = false → s.getO R.HOLDUP_STATE ≠ HS.ON_STORE → 16 ≤ sampleEnergy m →
    Gives (.archiveRetry m) s (fun t => t.archived = s.archived + 256 ∧ t.archRetry = none ∧ t.log = s.log ∧ t.reply = s.reply)) ∧
  (∀ s m d, s.archRetry = some d → s.coreOut = false → s.getO R.HOLDUP_STATE = HS.ON_STORE ∨ sampleEnergy m < 16 →
    Gives (.archiveRetry m) s (fun t => t.archived = s.archived ∧ t.archRetry = some (max s.now d + 10000000000000) ∧ t.log = s.log ∧
      t.reply = s.reply ∧ t.getO R.HOLDUP_REFUSALS = satAdd 32 (s.getO R.HOLDUP_REFUSALS) 1 ∧ t.getO R.LAST_REFUSED = 4)) ∧
  (∀ s, s.operational = true →
    Gives .eventLogNext s (fun t =>
      t.reply = { body := t.reply.body } ∧ t.reply.body = ((lastN (s.getO R.EVENT_LOG_COUNT) s.events).take 64).flatMap
        (fun e => toBytes 2 e.source ++ toBytes 2 1 ++ toBytes 8 e.time ++ toBytes 4 e.detail) ∧
      t.getO R.EVENT_LOG_COUNT = s.getO R.EVENT_LOG_COUNT - ((lastN (s.getO R.EVENT_LOG_COUNT) s.events).take 64).length ∧
      OnlyObjs s t [R.EVENT_LOG_COUNT] ∧ ObjFrame s t)) ∧
  (∀ s, s.operational = false → Gives .eventLogNext s (fun t => t.reply = { status := ST.STATE_LOCKED } ∧ OnlyAnswer s t))

/-- R423, R432 to R436: ALIVE, the watchdog, what the keeper watches, and SAFE_HOLD at request and its exits. -/
def Obligations.AliveAndSafeHold : Prop :=
  (∀ s, s.keeperOff = false → s.getO R.ALIVE_STATE = 1 → Gives .aliveToggle s (fun t => t = s)) ∧
  (∀ s, s.keeperOff = false → s.getO R.ALIVE_STATE ≠ 1 →
    Gives .aliveToggle s (fun t => t.aliveHigh = !s.aliveHigh ∧ t.now = max s.now s.aliveAt ∧ t.aliveFreq = s.getO R.ALIVE_FREQ ∧
      t.aliveAt = t.now + 1000000000000 / (2 * s.getO R.ALIVE_FREQ) ∧ t.getO R.ALIVE_STATE = 0 ∧ OnlyObjs s t [R.ALIVE_STATE] ∧
      t = { s with objs := t.objs, now := t.now, aliveHigh := t.aliveHigh, aliveFreq := t.aliveFreq, aliveAt := t.aliveAt })) ∧
  (∀ s, s.keeperOff = false → s.coreOut = false → s.operational = false ∨ s.getO R.ALIVE_STATE ≠ 1 →
    Gives .watchdogWrite s (fun t => t = { s with watchdog := some (s.now + s.getO R.WATCHDOG_TIME * 1000000000) })) ∧
  (∀ s, s.keeperOff = false → s.coreOut = false → s.operational = true → s.getO R.ALIVE_STATE = 1 →
    Gives .watchdogWrite s (fun t => t.watchdog = some (s.now + s.getO R.WATCHDOG_TIME * 1000000000) ∧ t.getO R.ALIVE_STATE = 0 ∧
      OnlyObjs s t [R.ALIVE_STATE])) ∧
  (∀ s, s.keeperOff = false → s.coreOut = true → Gives .watchdogWrite s (fun t => t = s)) ∧
  (∀ s d, s.keeperOff = false → s.watchdog = some d → s.wdArmed = true → s.roomAt 0x1C0 →
    Gives .watchdogExpiry s (fun t => t.getO R.ALIVE_STATE = 1 ∧ t.getO R.WATCHDOG_EXPIRIES = satAdd 32 (s.getO R.WATCHDOG_EXPIRIES) 1 ∧
      t.ports = s.ports.set 0x1C0 (s.ports.get 0x1C0 [] ++ [s.faultMsg 0x1C0 0x71 0]) ∧ t.watchdog = none ∧ t.now = max s.now d ∧
      OnlyObjs s t [R.ALIVE_STATE, R.WATCHDOG_EXPIRIES] ∧
      t = { s with objs := t.objs, ports := t.ports, watchdog := none, now := t.now })) ∧
  (∀ s, s.keeperOff = false → s.watchdog = none ∨ s.wdArmed = false → Gives .watchdogExpiry s (fun t => t = s)) ∧
  (∀ s, s.keeperOff = false → s.beat = true →
    Gives .heartbeatLoss s (fun t => t = { s with beat := false, fatal := s.fatal ++ [s.faultMsg 0x1C2 0x84 0] })) ∧
  (∀ s, s.keeperOff = false → s.beat = false → Gives .heartbeatLoss s (fun t => t = s)) ∧
  (∀ s d (v : Int), s.keeperOff = false → v ≤ 424 ∨ 448 < s.temps.get d →
    Gives (.temperatureAlarm d v) s (fun t => t = { s with temps := s.temps.set d.val v d.isLt })) ∧
  (∀ s (d : Fin 8) (v : Int), s.keeperOff = false → s.temps.get d ≤ 424 → 424 < v → v ≤ 448 → s.roomAt 0x1C2 →
    Gives (.temperatureAlarm d v) s (fun t =>
      t = { s with temps := s.temps.set d.val v d.isLt, ports := s.ports.set 0x1C2 (s.ports.get 0x1C2 [] ++ [s.faultMsg 0x1C2 0x81 d.val]) })) ∧
  (∀ s (d : Fin 8) (v : Int), s.keeperOff = false → 424 < s.temps.get d → s.temps.get d ≤ 448 → 448 < v →
    Gives (.temperatureAlarm d v) s (fun t =>
      t = { s with temps := s.temps.set d.val v d.isLt, fatal := s.fatal ++ [s.faultMsg 0x1C2 0x82 d.val] })) ∧
  (∀ s (p : Int), s.keeperOff = false → p.natAbs ≤ 50000 →
    Gives (.keeperClock p) s (fun t => t.getO R.KCLK_ERROR = ofSigned 32 p ∧ OnlyObjs s t [R.KCLK_ERROR] ∧ ObjFrame s t)) ∧
  (∀ s (p : Int), s.keeperOff = false → 50000 < p.natAbs → s.roomAt 0x1C2 →
    Gives (.keeperClock p) s (fun t => t.getO R.KCLK_ERROR = ofSigned 32 p ∧
      Queued s t (s.faultMsg 0x1C2 0x85 (ofSigned 32 p)) [R.KCLK_ERROR])) ∧
  (∀ s p (v : BitVec 16), s.keeperOff = false → v ≠ 0x5A5A →
    Gives (.safeHoldRequest p v) s (fun t => t.reply = { status := ST.OUT_OF_RANGE } ∧ OnlyAnswer s t)) ∧
  (∀ s p, s.keeperOff = false → s.inHold = false →
    Gives (.safeHoldRequest p 0x5A5A) s (fun t => t.reply = {} ∧ t.getO R.MODULE_STATE = MS.SAFE_HOLD ∧
      t.getO R.SAFE_HOLD_CAUSE = 0x88 + 0x1C2 * 2 ^ 8 ∧ t.getO R.ALIVE_STATE = 1 ∧ t.trigOut = 0 ∧
      (∀ b, s.bst b ≠ BS.OFF → t.bst b = BS.SAFE))) ∧
  (∀ s, s.keeperOff = false → s.inHold = false →
    Gives .safeHoldExitResume s (fun t => t.reply = { status := ST.STATE_LOCKED } ∧ OnlyAnswer s t)) ∧
  (∀ s, s.keeperOff = false → s.getO R.MODULE_STATE = MS.SAFE_HOLD → s.watchdog = none →
    Gives .safeHoldExitResume s (fun t => t.reply = { status := ST.STATE_LOCKED } ∧ t.getO R.EXIT_STATUS = 1 ∧
      OnlyObjs s t [R.EXIT_STATUS] ∧ ObjFrame s t)) ∧
  (∀ s, s.keeperOff = false → s.getO R.MODULE_STATE = MS.SAFE_HOLD → s.watchdog.isSome = true →
    (s.getO R.REF_STATE ≠ 1 ∧ s.getO R.REF_STATE ≠ 2) ∨ s.locked 23 = false →
    Gives .safeHoldExitResume s (fun t => t.reply = { status := ST.STATE_LOCKED } ∧ t.getO R.EXIT_STATUS = 2 ∧
      OnlyObjs s t [R.EXIT_STATUS] ∧ ObjFrame s t)) ∧
  (∀ s, s.keeperOff = false → s.getO R.MODULE_STATE = MS.SAFE_HOLD → s.watchdog.isSome = true →
    s.getO R.REF_STATE = 1 ∨ s.getO R.REF_STATE = 2 → s.locked 23 = true → s.getO R.SUPPLY_STATE % 256 = 255 →
    (∀ d, s.temps.get d ≤ 420) → s.beat = true →
    Gives .safeHoldExitResume s (fun t => t.reply = {} ∧ t.getO R.MODULE_STATE = MS.OPERATIONAL ∧ t.getO R.EXIT_STATUS = 0 ∧
      t.getO R.ALIVE_STATE = 0 ∧ (∀ b, t.bst b = s.bst b))) ∧
  (∀ s, s.keeperOff = false → s.inHold = false →
    Gives .safeHoldExitRestart s (fun t => t.reply = { status := ST.STATE_LOCKED } ∧ OnlyAnswer s t)) ∧
  (∀ s, s.keeperOff = false → s.getO R.MODULE_STATE = MS.SAFE_HOLD → s.getO R.REF_STATE = 0 →
    Gives .safeHoldExitRestart s (fun t => t.reply = { status := ST.STATE_LOCKED } ∧ t.getO R.EXIT_STATUS = 2 ∧
      OnlyObjs s t [R.EXIT_STATUS] ∧ ObjFrame s t)) ∧
  (∀ s, s.keeperOff = false → s.getO R.MODULE_STATE = MS.SAFE_HOLD → s.getO R.REF_STATE ≠ 0 → 4 ≤ s.getO R.START_STAGE →
    Gives .safeHoldExitRestart s (fun t => t.reply = {} ∧ t.getO R.MODULE_STATE = 1 ∧ t.getO R.START_STAGE = 4 ∧ t.getO R.RESET_CAUSE = 2 ∧
      t.getO R.EXIT_STATUS = 0 ∧ t.mem = s.mem ∧ t.log = s.log ∧ (∀ b, t.bst b = BS.OFF) ∧ t.pending = s.pending)) ∧
  (∀ s, s.keeperOff = false → s.resetDue = none → Gives .resetStepRestart s (fun t => t = s)) ∧
  (∀ s d, s.keeperOff = false → s.resetDue = some d → s.getO R.MODULE_STATE = MS.SAFE_HOLD → s.getO R.REF_STATE ≠ 0 → 4 ≤ s.getO R.START_STAGE →
    Gives .resetStepRestart s (fun t => t.getO R.MODULE_STATE = 1 ∧ t.getO R.START_STAGE = 4 ∧ t.getO R.RESET_CAUSE = 3 ∧
      t.mem = s.mem ∧ t.log = s.log ∧ (∀ b, t.bst b = BS.OFF) ∧ t.now = max s.now d ∧ t.resetDue = none))

/-- R441, R442, R444, R445, R465: supplies, VAUX, the reference, the time limit of start-up and the TAP. -/
def Obligations.SuppliesAndReference : Prop :=
  (∀ s (n : Fin 8) io, s.keeperOff = false →
    Gives (.supplyValid n io) s (fun t => t.getO R.SUPPLY_STATE =
        (if (!io || (decide (1 ≤ n.val) && !s.supply 0) || (decide (6 ≤ n.val) && !s.supply 5)) = true then
          orBit (orBit (s.getO R.SUPPLY_STATE) n.val) 15 else orBit (s.getO R.SUPPLY_STATE) n.val) ∧
      t.getO R.MODULE_STATE = (if s.getO R.START_STAGE = 4 ∧ s.getO R.MODULE_STATE = 0 ∧ t.getO R.SUPPLY_STATE % 2 ^ 16 = 255 then 1
        else s.getO R.MODULE_STATE) ∧
      t.vauxAt = (if n.val = 0 then s.now else s.vauxAt))) ∧
  (∀ s n, s.keeperOff = false → s.supply 0 = true → s.supply n.val = false →
    Gives (.supplyTimeout n) s (fun t => t = { s with now := max s.now (s.vauxAt + 100000000000) })) ∧
  (∀ s n, s.keeperOff = false → s.supply 0 = false ∨ s.supply n.val = true → Gives (.supplyTimeout n) s (fun t => t = s)) ∧
  (∀ s (n : Fin 8), s.keeperOff = false → n ≠ 0 → s.getO R.MODULE_STATE ≠ 0 →
    Gives (.supplyFault n) s (fun t => t.getO R.SUPPLY_STATE = clrBit (s.getO R.SUPPLY_STATE) n.val ∧ OnlyObjs s t [R.SUPPLY_STATE] ∧
      t = { s with objs := t.objs, fatal := s.fatal ++ [s.faultMsg 0x1C2 0x80 n.val] })) ∧
  (∀ s (n : Fin 8), s.keeperOff = false → n ≠ 0 → s.getO R.MODULE_STATE = 0 →
    Gives (.supplyFault n) s (fun t => t.getO R.SUPPLY_STATE = clrBit (s.getO R.SUPPLY_STATE) n.val ∧ OnlyObjs s t [R.SUPPLY_STATE] ∧ ObjFrame s t)) ∧
  (∀ s, s.keeperOff = false → s.supply 0 = true →
    Gives .vauxLoss s (fun t => t.supply 0 = false ∧ t.getO R.HOLDUP_STATE = HS.ON_STORE ∧ OnlyObjs s t [R.SUPPLY_STATE, R.HOLDUP_STATE] ∧
      t = { s with objs := t.objs, fatal := s.fatal ++ [s.faultMsg 0x1C2 0x80 0] })) ∧
  (∀ s, s.keeperOff = false → s.getO R.HOLDUP_STATE = HS.ON_STORE → s.getO R.HOLDUP_CHECK_TIME ≠ 0 ∨ s.getO R.HOLDUP_ENERGY ≠ 0 →
    Gives .vauxReturn s (fun t => t.supply 0 = true ∧ t.getO R.HOLDUP_STATE = (if 120 ≤ s.getO R.HOLDUP_ENERGY then HS.OK else HS.LOW) ∧
      t.vauxAt = s.now ∧ OnlyObjs s t [R.SUPPLY_STATE, R.HOLDUP_STATE] ∧ t = { s with objs := t.objs, vauxAt := t.vauxAt })) ∧
  (∀ s, s.getO R.HOLDUP_STATE = HS.ON_STORE → Gives .holdupDepleted s (fun t => t = { s with keeperOff := true })) ∧
  (∀ s, s.getO R.HOLDUP_STATE ≠ HS.ON_STORE → Gives .holdupDepleted s (fun t => t = s)) ∧
  (∀ s (hz : Nat), s.keeperOff = false → s.getO R.START_STAGE = 2 →
    Gives (.refInDetect hz) s (fun t => OnlyObjs s t [R.REF_STATE] ∧ ObjFrame s t ∧
      (hz = 0 → t.getO R.REF_STATE = 0) ∧ (9000000 ≤ hz → hz ≤ 11000000 → t.getO R.REF_STATE = 1) ∧
      (90000000 ≤ hz → hz ≤ 110000000 → t.getO R.REF_STATE = 2) ∧
      ((0 < hz ∧ hz < 9000000) ∨ (11000000 < hz ∧ hz < 90000000) ∨ 110000000 < hz → t.getO R.REF_STATE = 3))) ∧
  (∀ s a f, s.keeperOff = false → 2 < s.getO R.START_STAGE → s.refOk = true → (a || f) = true →
    Gives (.refInFault a f) s (fun t => t.getO R.REF_STATE = (if a then 0 else 3) ∧ OnlyObjs s t [R.REF_STATE] ∧
      t = { s with objs := t.objs, fatal := s.fatal ++ [s.faultMsg 0x1C2 0x73 ((if a then 1 else 0) + 2 * (if f then 1 else 0))] })) ∧
  (∀ s, s.keeperOff = false → s.getO R.MODULE_STATE = 1 →
    Gives .startTimeout s (fun t => t.getO R.START_STATUS = orBit (s.getO R.START_STATUS) 5 ∧ t.now = max s.now (s.startRef + 10000000000000) ∧
      OnlyObjs s t [R.START_STATUS] ∧ t = { s with objs := t.objs, now := t.now })) ∧
  (∀ s, s.keeperOff = false → s.getO R.MODULE_STATE ≠ 1 → Gives .startTimeout s (fun t => t = s)) ∧
  (∀ s i, s.groupsOk = true → i ≠ .extest → i ≠ .landControl → i ≠ .debug → Gives (.jtagInstruction i) s (fun t => t = { s with tap := i })) ∧
  (∀ s i, s.groupsOk = true → s.inHold = true → i = .extest ∨ i = .landControl → Gives (.jtagInstruction i) s (fun t => t = { s with tap := i })) ∧
  (∀ s i, s.groupsOk = true → s.inHold = false → i = .extest ∨ i = .landControl →
    Gives (.jtagInstruction i) s (fun t => t = { s with tap := .bypass })) ∧
  (∀ s, s.groupsOk = true → Gives (.jtagInstruction .debug) s (fun t =>
    t = { s with tap := if s.getO R.DEBUG_STATE = 1 then .debug else .bypass })) ∧
  (∀ s i, s.groupsOk = false → Gives (.jtagInstruction i) s (fun t => t = s))

/-- R443 to R446, R451, R452: the stages of start-up and the resets.  That SYS_RST_N before step 4 leaves start-up at its stage is the
model's reading (log 25). -/
def Obligations.StartUpAndResets : Prop :=
  (∀ s r, s.keeperOff = false → s.inHold = true ∨ s.operational = true ∨ (s.getO R.START_STATUS).testBit 5 = true →
    Gives (.startStageComplete r) s (fun t => t = s)) ∧
  (∀ s r, s.keeperOff = false → s.getO R.MODULE_STATE = 0 → (s.getO R.START_STATUS).testBit 5 = false → s.getO R.START_STAGE = 1 →
    s.supply 0 = true → r.mram = none →
    Gives (.startStageComplete r) s (fun t => t.getO R.START_STAGE = 2 ∧ OnlyObjs s t [R.START_STAGE] ∧ ObjFrame s t)) ∧
  (∀ s r a, s.keeperOff = false → s.getO R.MODULE_STATE = 0 → (s.getO R.START_STATUS).testBit 5 = false → s.getO R.START_STAGE = 1 →
    s.supply 0 = true → r.mram = some a → s.roomAt 0x1C2 →
    Gives (.startStageComplete r) s (fun t => t.getO R.START_STAGE = 2 ∧ Queued s t (s.faultMsg 0x1C2 0x86 a.toNat) [R.START_STAGE])) ∧
  (∀ s r, s.keeperOff = false → s.getO R.MODULE_STATE = 0 → (s.getO R.START_STATUS).testBit 5 = false → s.getO R.START_STAGE = 2 →
    Gives (.startStageComplete r) s (fun t => t.getO R.START_STAGE = (if s.getO R.REF_STATE = 1 ∨ s.getO R.REF_STATE = 2 then 3 else 2) ∧
      OnlyObjs s t [R.START_STAGE] ∧ ObjFrame s t)) ∧
  (∀ s r, s.keeperOff = false → s.getO R.MODULE_STATE = 0 → (s.getO R.START_STATUS).testBit 5 = false → s.getO R.START_STAGE = 3 →
    120 ≤ sampleEnergy r.smp → sampleEnergy r.smp < 2 ^ 32 →
    Gives (.startStageComplete r) s (fun t => t.getO R.START_STAGE = 4 ∧ t.holdupOk = true ∧ t.getO R.HOLDUP_ENERGY = sampleEnergy r.smp ∧
      t.getO R.MODULE_STATE = (if s.suppliesOk = true then 1 else 0) ∧
      t.checkDue = some (s.now + s.getO R.HOLDUP_INTERVAL * 1000000000000) ∧ t.recheck = none)) ∧
  (∀ s r, s.keeperOff = false → s.getO R.MODULE_STATE = 0 → (s.getO R.START_STATUS).testBit 5 = false → s.getO R.START_STAGE = 3 →
    sampleEnergy r.smp < 120 → s.holdupOk = false →
    Gives (.startStageComplete r) s (fun t => t.getO R.START_STAGE = 4 ∧ t.holdupOk = false ∧
      (t.getO R.START_STATUS).testBit 4 = true ∧ t.recheck = some (s.now + 10000000000000) ∧
      t.getO R.MODULE_STATE = (if s.suppliesOk = true then 1 else 0))) ∧
  (∀ s r, s.keeperOff = false → s.getO R.MODULE_STATE = 1 → (s.getO R.START_STATUS).testBit 5 = false → s.getO R.START_STAGE = 4 →
    s.getO R.RESET_CAUSE = 0 →
    Gives (.startStageComplete r) s (fun t => t.getO R.START_STAGE = 5 ∧ t.counterOn = some s.now ∧ t.beat = true ∧
      (∀ b : Bay, t.locked (24 + b.val) = true) ∧ t.locked 23 = true ∧ OnlyObjs s t [R.START_STAGE, R.LOCK_MASK] ∧
      (∀ b, t.bay b = { s.bay b with tmu := { (s.bay b).tmu with lockAt := s.now } }) ∧
      t = { s with objs := t.objs, counterOn := t.counterOn, beat := true, bays := t.bays })) ∧
  (∀ s r i, s.keeperOff = false → s.getO R.MODULE_STATE = 1 → (s.getO R.START_STATUS).testBit 5 = false → s.getO R.START_STAGE = 5 →
    s.verifies r (Fin.ofNat 2 (s.getO R.FW_ACTIVE_SLOT)) = some i →
    Gives (.startStageComplete r) s (fun t => t.getO R.START_STAGE = 6 ∧ t.getO R.FIRMWARE_VERSION = i.release.toNat ∧
      t.fwSlots.get (Fin.ofNat 2 (s.getO R.FW_ACTIVE_SLOT)) = ⟨i.release.toNat, i.rollback.toNat, false⟩ ∧
      t.getO R.FW_FALLBACK = s.getO R.FW_FALLBACK)) ∧
  (∀ s r i, s.keeperOff = false → s.getO R.MODULE_STATE = 1 → (s.getO R.START_STATUS).testBit 5 = false → s.getO R.START_STAGE = 5 →
    s.verifies r (Fin.ofNat 2 (s.getO R.FW_ACTIVE_SLOT)) = none → s.verifies r (1 - Fin.ofNat 2 (s.getO R.FW_ACTIVE_SLOT)) = some i →
    Gives (.startStageComplete r) s (fun t => t.getO R.START_STAGE = 6 ∧ t.getO R.FIRMWARE_VERSION = i.release.toNat ∧
      t.getO R.FW_FALLBACK = 1 ∧ (t.getO R.START_STATUS).testBit 2 = true)) ∧
  (∀ s r, s.keeperOff = false → s.getO R.MODULE_STATE = 1 → (s.getO R.START_STATUS).testBit 5 = false → s.getO R.START_STAGE = 5 →
    s.verifies r (Fin.ofNat 2 (s.getO R.FW_ACTIVE_SLOT)) = none → s.verifies r (1 - Fin.ofNat 2 (s.getO R.FW_ACTIVE_SLOT)) = none →
    Gives (.startStageComplete r) s (fun t => t.getO R.MODULE_STATE = MS.SAFE_HOLD ∧ t.getO R.START_STAGE = 5)) ∧
  (∀ s (r : StageResult), s.keeperOff = false → s.getO R.MODULE_STATE = 1 → (s.getO R.START_STATUS).testBit 5 = false → s.getO R.START_STAGE = 6 →
    r.tests ≠ 0 →
    Gives (.startStageComplete r) s (fun t => t.getO R.MODULE_STATE = MS.CRYPTO ∧ t.getO R.START_STAGE = 6)) ∧
  (∀ s (r : StageResult), s.keeperOff = false → s.getO R.MODULE_STATE = 1 → (s.getO R.START_STATUS).testBit 5 = false → s.getO R.START_STAGE = 7 →
    r.cores = 3 →
    Gives (.startStageComplete r) s (fun t => t.getO R.START_STAGE = 8 ∧ t.getO R.ACTIVE_CORE = 0 ∧ t.getO R.STANDBY_STATE = 2 ∧
      t.coreOut = false ∧ OnlyObjs s t [R.START_STAGE, R.ACTIVE_CORE, R.STANDBY_STATE] ∧ t = { s with objs := t.objs, coreOut := false })) ∧
  (∀ s (r : StageResult), s.keeperOff = false → s.getO R.MODULE_STATE = 1 → (s.getO R.START_STATUS).testBit 5 = false → s.getO R.START_STAGE = 7 →
    r.cores = 1 ∨ r.cores = 2 → s.roomAt 0x1C0 →
    Gives (.startStageComplete r) s (fun t => t.getO R.START_STAGE = 8 ∧ t.getO R.ACTIVE_CORE = (if r.cores = 1 then 0 else 1) ∧
      t.getO R.STANDBY_STATE = 0 ∧ (t.getO R.START_STATUS).testBit 6 = true ∧ t.coreOut = false ∧
      t.ports = s.ports.set 0x1C0 (s.ports.get 0x1C0 [] ++ [s.faultMsg 0x1C0 0x70 (if r.cores = 1 then 1 else 0)]))) ∧
  (∀ s (r : StageResult), s.keeperOff = false → s.getO R.MODULE_STATE = 1 → (s.getO R.START_STATUS).testBit 5 = false → s.getO R.START_STAGE = 8 →
    r.pcFailed = 0 →
    Gives (.startStageComplete r) s (fun t => t.getO R.START_STAGE = 9 ∧ t.getO R.START_STATUS = s.getO R.START_STATUS ∧
      (∀ pc : Fin 64, t.getO (keyPc pc.val RPc.PC_STATE) = PC.ACTIVE ∧ t.hbmQ.pcs.get pc = { s.hbmQ.pcs.get pc with trained := true }) ∧
      t = { s with objs := t.objs, hbmQ := t.hbmQ })) ∧
  (∀ s (r : StageResult), s.keeperOff = false → s.getO R.MODULE_STATE = 1 → (s.getO R.START_STATUS).testBit 5 = false → s.getO R.START_STAGE = 9 →
    r.noRecord = true →
    Gives (.startStageComplete r) s (fun t => t.getO R.START_STAGE = 10 ∧ (t.getO R.START_STATUS).testBit 3 = true)) ∧
  (∀ s r, s.keeperOff = false → s.getO R.MODULE_STATE = 1 → (s.getO R.START_STATUS).testBit 5 = false → s.getO R.START_STAGE = 10 →
    Gives (.startStageComplete r) s (fun t => t.getO R.START_STAGE = 11 ∧ (∀ b, t.bst b = BS.SAFE))) ∧
  (∀ s r, s.keeperOff = false → s.getO R.MODULE_STATE = 1 → (s.getO R.START_STATUS).testBit 5 = false → s.getO R.START_STAGE = 11 →
    Gives (.startStageComplete r) s (fun t => t.getO R.START_STAGE = 12 ∧ t.getO R.LREFCLK_OK = 1 ∧
      ∀ q : Fin 4, t.locked (19 + q.val) = true)) ∧
  (∀ s r, s.keeperOff = false → s.getO R.MODULE_STATE = 1 → (s.getO R.START_STATUS).testBit 5 = false → s.getO R.START_STAGE = 12 →
    Gives (.startStageComplete r) s (fun t => t.getO R.MODULE_STATE = MS.OPERATIONAL ∧ (t.getO R.START_STATUS).testBit 0 = true ∧
      t.getO R.START_TIME = (s.now - s.startRef) / 1000000000 % 2 ^ 32 ∧ t.wdArmed = true ∧
      t.watchdog = some (s.now + s.getO R.WATCHDOG_TIME * 1000000000) ∧ t.getO R.ALIVE_STATE = 0 ∧
      OnlyObjs s t [R.MODULE_STATE, R.START_STATUS, R.START_TIME, R.ALIVE_STATE])) ∧
  (∀ s n, 10000 ≤ n →
    Gives (.porstN n) s (fun t => t.getO R.MODULE_STATE = 0 ∧ t.getO R.START_STAGE = 1 ∧ t.getO R.RESET_CAUSE = 0 ∧ t.mem = [] ∧
      t.shingles = [] ∧ t.bank = [] ∧ t.tsets = [] ∧ (∀ b, t.bst b = BS.OFF) ∧ t.keys = [] ∧ t.counterOn = none ∧ t.log = s.log ∧
      t.ledger = s.ledger ∧ t.fwSlots = s.fwSlots ∧ t.now = max s.now (s.now + 1000 * n) ∧ t.pending = s.pending)) ∧
  (∀ s n, 1000 ≤ n → 4 ≤ s.getO R.START_STAGE →
    Gives (.sysRstN n) s (fun t => t.getO R.MODULE_STATE = 1 ∧ t.getO R.START_STAGE = 4 ∧ t.getO R.RESET_CAUSE = 1 ∧ t.mem = s.mem ∧
      t.shingles = s.shingles ∧ t.bank = s.bank ∧ t.tsets = s.tsets ∧ (∀ b, t.bst b = BS.OFF) ∧ t.counterOn = none ∧ t.log = s.log ∧
      t.ledger = s.ledger ∧ t.fwSlots = s.fwSlots ∧ (∀ k, k < 256 → t.policy k = s.policy k) ∧ t.now = max s.now (s.now + 1000 * n))) ∧
  (∀ s n, 1000 ≤ n → s.getO R.START_STAGE < 4 →
    Gives (.sysRstN n) s (fun t => t.getO R.MODULE_STATE = 0 ∧ t.getO R.START_STAGE = s.getO R.START_STAGE ∧ t.getO R.RESET_CAUSE = 1))

/-- R446, R448, R450, R455: hold-up checks on request, at their interval, and repeated after start-up. -/
def Obligations.HoldupChecks : Prop :=
  (∀ s, s.keeperOff = false → Gives .holdupCheckRequest s (fun t => t = { s with checking := true, reply := {} })) ∧
  (∀ s d, s.keeperOff = false → s.checkDue = some d →
    Gives .holdupIntervalExpiry s (fun t =>
      t = { s with checking := true, now := max s.now d, checkDue := some (d + s.getO R.HOLDUP_INTERVAL * 1000000000000) })) ∧
  (∀ s, s.keeperOff = false → s.checkDue = none → Gives .holdupIntervalExpiry s (fun t => t = s)) ∧
  (∀ s d, s.keeperOff = false → s.recheck = some d →
    Gives .holdupRecheck s (fun t => t = { s with checking := true, now := max s.now d, recheck := none })) ∧
  (∀ s, s.keeperOff = false → s.recheck = none → Gives .holdupRecheck s (fun t => t = s)) ∧
  (∀ s m, s.keeperOff = false → s.checking = false → Gives (.holdupCheckComplete m) s (fun t => t = s)) ∧
  (∀ s (m : Sample), s.keeperOff = false → s.checking = true → s.getO R.HOLDUP_STATE ≠ HS.ON_STORE → 120 ≤ sampleEnergy m →
    Gives (.holdupCheckComplete m) s (fun t => t.getO R.HOLDUP_STATE = HS.OK ∧ t.holdupOk = true ∧ t.checking = false ∧
      t.recheck = none ∧ (t.getO R.START_STATUS).testBit 4 = false ∧
      t.getO R.HOLDUP_VOLTAGE = min m.v0 65535 ∧ t.getO R.HOLDUP_ENERGY = min (sampleEnergy m) (2 ^ 32 - 1) ∧
      t.getO R.HOLDUP_ESR = min (m.step / 200) 65535 ∧ t.getO R.HOLDUP_CAP = min (20000000 / m.droop) (2 ^ 32 - 1) ∧
      t.getO R.HOLDUP_CHECK_TIME = s.keeperTime ∧
      OnlyObjs s t [R.HOLDUP_VOLTAGE, R.HOLDUP_CAP, R.HOLDUP_ESR, R.HOLDUP_ENERGY, R.HOLDUP_CHECK_TIME, R.HOLDUP_STATE, R.START_STATUS] ∧
      t = { s with objs := t.objs, holdupOk := true, recheck := none, checking := false })) ∧
  (∀ s (m : Sample), s.keeperOff = false → s.checking = true → s.getO R.HOLDUP_STATE ≠ HS.ON_STORE → sampleEnergy m < 120 → s.roomAt 0x1C2 →
    Gives (.holdupCheckComplete m) s (fun t => t.getO R.HOLDUP_STATE = HS.LOW ∧ t.holdupOk = s.holdupOk ∧ t.checking = false ∧
      t.getO R.HOLDUP_ENERGY = sampleEnergy m ∧
      t.ports = s.ports.set 0x1C2 (s.ports.get 0x1C2 [] ++ [s.faultMsg 0x1C2 0x83 (sampleEnergy m)]) ∧
      t.recheck = (if s.holdupOk = true ∨ (s.getO R.START_STATUS).testBit 4 = false then s.recheck else some (s.now + 10000000000000)) ∧
      OnlyObjs s t [R.HOLDUP_VOLTAGE, R.HOLDUP_CAP, R.HOLDUP_ESR, R.HOLDUP_ENERGY, R.HOLDUP_CHECK_TIME, R.HOLDUP_STATE])) ∧
  (∀ m : Sample, m.droop ≠ 0 → 15 * m.step ≤ 2000 * m.v0 → sampleEnergy m =
    ((2000 * m.v0 - 15 * m.step) ^ 2 - 144000000000000) / (400000000 * m.droop))

/-- R453, R454: a switch-over of the control cores. -/
def Obligations.SwitchOver : Prop :=
  (∀ s, s.operational = true → s.coreOut = false → s.switchBusy = true →
    Gives .switchoverRequest s (fun t => t.reply = { status := ST.STATE_LOCKED } ∧ t.getO R.SWITCH_STATUS = 3 ∧
      OnlyObjs s t [R.SWITCH_STATUS] ∧ ObjFrame s t)) ∧
  (∀ s, s.operational = true → s.coreOut = false → s.switchBusy = false → s.getO R.STANDBY_STATE ≠ 2 →
    Gives .switchoverRequest s (fun t => t.reply = { status := ST.STATE_LOCKED } ∧ t.getO R.SWITCH_STATUS = 5 ∧
      OnlyObjs s t [R.SWITCH_STATUS] ∧ ObjFrame s t)) ∧
  (∀ s, s.operational = true → s.coreOut = false → s.switchBusy = false → s.getO R.STANDBY_STATE = 2 →
    Gives .switchoverRequest s (fun t => t.reply = {} ∧ t.getO R.SWITCH_STATUS = 1 ∧ t.getO R.STANDBY_STATE = 1 ∧ t.switchTo = 1 ∧
      OnlyObjs s t [R.SWITCH_STATUS, R.STANDBY_STATE] ∧ t = { s with objs := t.objs, reply := {}, switchTo := 1 })) ∧
  (∀ s v, s.switchTo ≠ 1 → Gives (.standbyLoaded v) s (fun t => t = s)) ∧
  (∀ s, s.switchTo = 1 → Gives (.standbyLoaded false) s (fun t => t.getO R.SWITCH_STATUS = 4 ∧ t.getO R.STANDBY_STATE = 2 ∧ t.switchTo = 0 ∧
    OnlyObjs s t [R.SWITCH_STATUS, R.STANDBY_STATE] ∧ t = { s with objs := t.objs, switchTo := 0 })) ∧
  (∀ s, s.switchTo = 1 → s.getO R.ALIVE_STATE = 0 → Gives (.standbyLoaded true) s (fun t => t.coreOut = true ∧ t.switchTo = 2 ∧
    (∀ i, t.session i = none) ∧ t.shadows = s.shadows ∧ t.watchdog = some (s.now + s.getO R.WATCHDOG_TIME * 1000000000) ∧
    OnlyObjs s t [R.SESSION_COUNT])) ∧
  (∀ s (c : Fin 2), 8 ≤ s.getO R.START_STAGE → c.val = s.getO R.ACTIVE_CORE → s.coreOut = false → s.getO R.STANDBY_STATE = 2 →
    s.getO R.ALIVE_STATE = 0 → s.roomAt 0x1C0 →
    Gives (.controlCoreFault c) s (fun t => t.coreOut = true ∧ t.switchTo = 3 ∧ (∀ i, t.session i = none) ∧
      t.ports = s.ports.set 0x1C0 (s.ports.get 0x1C0 [] ++ [s.faultMsg 0x1C0 0x70 c.val]) ∧
      t.watchdog = some (s.now + s.getO R.WATCHDOG_TIME * 1000000000))) ∧
  (∀ s (c : Fin 2), 8 ≤ s.getO R.START_STAGE → c.val = s.getO R.ACTIVE_CORE → s.coreOut = false → s.getO R.STANDBY_STATE ≠ 2 →
    Gives (.controlCoreFault c) s (fun t => t.coreOut = true ∧ t.switchTo = 0 ∧ (∀ i, t.session i = none) ∧ t.watchdog = s.watchdog)) ∧
  (∀ s (c : Fin 2), 8 ≤ s.getO R.START_STAGE → c.val ≠ s.getO R.ACTIVE_CORE → s.getO R.STANDBY_STATE = 2 → s.switchTo ≠ 1 → s.roomAt 0x1C0 →
    Gives (.controlCoreFault c) s (fun t => t.getO R.STANDBY_STATE = 3 ∧ t.switchTo = 0 ∧ t.coreOut = s.coreOut ∧
      t.ports = s.ports.set 0x1C0 (s.ports.get 0x1C0 [] ++ [s.faultMsg 0x1C0 0x70 c.val]) ∧ OnlyObjs s t [R.STANDBY_STATE])) ∧
  (∀ s, s.switchTo = 2 →
    Gives .switchoverTakeover s (fun t => t.getO R.ACTIVE_CORE = 1 - s.getO R.ACTIVE_CORE ∧ t.coreOut = false ∧ t.switchTo = 4 ∧
      t.getO R.STANDBY_STATE = 1 ∧ t.getO R.SWITCH_STATUS = 2 ∧ t.getO R.SWITCHOVERS = satAdd 32 (s.getO R.SWITCHOVERS) 1 ∧
      t.getO R.FIRMWARE_VERSION = (s.fwSlots.get (Fin.ofNat 2 (s.getO R.FW_ACTIVE_SLOT))).release ∧ t.shadows = s.shadows ∧
      OnlyObjsEv s t [R.ACTIVE_CORE, R.STANDBY_STATE, R.SWITCH_STATUS, R.SWITCHOVERS, R.FIRMWARE_VERSION])) ∧
  (∀ s, s.switchTo = 3 →
    Gives .switchoverTakeover s (fun t => t.getO R.ACTIVE_CORE = 1 - s.getO R.ACTIVE_CORE ∧ t.coreOut = false ∧ t.switchTo = 0 ∧
      t.getO R.STANDBY_STATE = 3 ∧ t.getO R.SWITCHOVERS = satAdd 32 (s.getO R.SWITCHOVERS) 1 ∧
      OnlyObjsEv s t [R.ACTIVE_CORE, R.STANDBY_STATE, R.SWITCHOVERS])) ∧
  (∀ s, s.switchTo ≠ 2 → s.switchTo ≠ 3 → Gives .switchoverTakeover s (fun t => t = s)) ∧
  (∀ s, s.switchTo = 4 → Gives .standbyRestart s (fun t => t.getO R.STANDBY_STATE = 2 ∧ t.switchTo = 0 ∧ OnlyObjs s t [R.STANDBY_STATE] ∧
    t = { s with objs := t.objs, switchTo := 0 })) ∧
  (∀ s, s.switchTo ≠ 4 → Gives .standbyRestart s (fun t => t = s))

/-- The interface's rule: a step takes the command at the front of the queue and carries it out on the state whose queue is the rest;
on an empty queue the block idles, which is the model's own choice (log 2). -/
def Obligations.StepRunsTheFrontCommand : Prop :=
  (∀ (c : Instr) (rest : List Instr) (s : State), step { s with pending := c :: rest } = exec c { s with pending := rest }) ∧
  (∀ s, s.pending = [] → step s = .next { s with now := s.now + 250 })

/-- R443, R451, R455: the module right after power-on, which is what the spec gives it: KEEPER_ONLY at start-up's first step, every
bay OFF, no session, no commit, nothing in memory, the logs or the fault ports, and no command waiting.  What memory with nothing listed
reads as is the model's choice (log 4). -/
def Obligations.ResetState : Prop :=
  Machine.State.reset.getO R.MODULE_STATE = 0 ∧ Machine.State.reset.getO R.START_STAGE = 1 ∧ Machine.State.reset.getO R.RESET_CAUSE = 0 ∧
  (∀ b, Machine.State.reset.bst b = BS.OFF) ∧ (∀ b : Bay, Machine.State.reset.locked b.val = false) ∧ (∀ i, Machine.State.reset.session i = none) ∧
  Machine.State.reset.commit = none ∧ Machine.State.reset.mem = [] ∧ Machine.State.reset.log = [] ∧ Machine.State.reset.events = [] ∧ Machine.State.reset.ports = [] ∧
  Machine.State.reset.keys = [] ∧ Machine.State.reset.watchdog = none ∧ Machine.State.reset.counterOn = none ∧ Machine.State.reset.pending = []

/-- The state after reset has what every step keeps. -/
def Obligations.ResetMeetsInv : Prop := Machine.Inv Machine.State.reset

/-- R363, R362, R369, R422, R424, R438: whatever command runs, from whatever state, the memory keeps its canonical form and every
queue and log its size. -/
def Obligations.StepKeepsInv : Prop := ∀ s t, Machine.Inv s → step s = .next t → Machine.Inv t

/-- R34: the state of a bay is moved by the commands listed in `movesBays` alone; every other command, from every state, leaves the
state of every bay as it was. -/
def Obligations.BayStatesMoveByTheirCommands : Prop :=
  ∀ c s, movesBays c = false → Always c s (fun t => ∀ b, t.bst b = s.bst b)

/-- No command takes a command out of the queue or puts one in, no time runs back, and no free value is drawn twice (log 3). -/
def Obligations.QueueAndClock : Prop :=
  ∀ c s, Always c s (fun t => t.pending = s.pending ∧ s.now ≤ t.now ∧ s.fresh ≤ t.fresh)

/-- The frame of every command: nothing changes but the parts of the state that `touched` lists for it; a command that lists no
memory leaves every byte of memory as it was. -/
def Obligations.CommandsTouchTheirParts : Prop :=
  (∀ c s, Always c s (fun t => OnlyParts s t (touched c))) ∧
  (∀ c s, Part.memory ∉ touched c → Always c s (fun t => ∀ a, memGet t.mem a = memGet s.mem a))

/-- R353, R377: an Observer writes nothing: whatever it sends to be written, staged, discarded or committed, nothing changes but its
own session and the answer. -/
def Obligations.ObserversChangeNothing : Prop :=
  (∀ s i x req items m, Starts s i x (.write i req items m) req → x.role = 0 → Gives (.write i req items m) s (SessionFrame i s)) ∧
  (∀ s i x req w m, Starts s i x (.maskedWrite i req w m) req → x.role = 0 → Gives (.maskedWrite i req w m) s (SessionFrame i s)) ∧
  (∀ s i x req f m, Starts s i x (.blockWrite i req f m) req → x.role = 0 → Gives (.blockWrite i req f m) s (SessionFrame i s)) ∧
  (∀ s i x req items, Starts s i x (.stage i req items) req → x.role = 0 → Gives (.stage i req items) s (SessionFrame i s)) ∧
  (∀ s i x req units, Starts s i x (.stageDiscard i req units) req → x.role = 0 →
    Gives (.stageDiscard i req units) s (SessionFrame i s)) ∧
  (∀ s i x req tag units, Starts s i x (.commit i req tag units) req → x.role = 0 →
    Gives (.commit i req tag units) s (SessionFrame i s))

/-- R47: a claim write to the time-shared resources is refused, whatever its feature and owner, and so is a release. -/
def Obligations.TimeSharedIsNeverClaimed : Prop :=
  (∀ s e f o, s.operational = true → s.coreOut = false →
    Gives (.resourceClaim .timeShared e f o) s (fun t => t.reply = { status := ST.ACCESS_DENIED } ∧ OnlyAnswer s t)) ∧
  (∀ s e, s.operational = true → s.coreOut = false →
    Gives (.resourceRelease .timeShared e) s (fun t => t.reply = { status := ST.ACCESS_DENIED } ∧ OnlyAnswer s t))

/-- R92: while a bay issues pad granules for an underrun, is in PAUSE, or is frozen by stop on first fail, no word of it executes,
none of its waits times out, no counter changes, and the word it resumes with is the same. -/
def Obligations.NoWordExecutesWhileHeld : Prop :=
  (∀ c b s, wordBay c = some b →
    s.bst b = BS.PAUSE ∨ (s.bay b).under.isSome = true ∨ (∃ f, (s.bay b).frozen = some f ∧ f < (s.bay b).cyc) →
    Gives c s (fun t => t = s)) ∧
  (∀ b s, s.bst b = BS.PAUSE ∨ (s.bay b).under.isSome = true ∨ (∃ f, (s.bay b).frozen = some f ∧ f < (s.bay b).cyc) →
    Gives (.vecPad b) s (fun t => (∀ n < 4, t.getB b (RBay.CNT_VALUE + n) = s.getB b (RBay.CNT_VALUE + n)) ∧
      t.getB b RBay.UPC = s.getB b RBay.UPC ∧ (t.bay b).extra = (s.bay b).extra))

/-- R95: four addresses on the return stack, none as the bay enters ARMED; a CALL to a full stack and a RETURN from an empty one are
sequencing errors with STACK in MICRO_FLAGS. -/
def Obligations.MicroReturnStack : Prop :=
  (∀ s b, Customer s b → s.wordCycle b = true → uwSeq (s.word b) = 3 → uwWait (s.word b) = false → (s.bay b).ustack.length < 4 → s.getB b RBay.UPC ≠ 0x3FFF →
    (s.bay b).badWords.contains (uwNext (s.word b)) = false → (s.bay b).softWords.contains (uwNext (s.word b)) = false →
    Gives (.seqCall b .clean) s (fun t => (t.bay b).ustack = (s.getB b RBay.UPC + 1) :: (s.bay b).ustack ∧
      Enters b (uwNext (s.word b)) s t)) ∧
  (∀ s b e, Customer s b → s.wordCycle b = true → uwSeq (s.word b) = 3 → uwWait (s.word b) = false → 4 ≤ (s.bay b).ustack.length →
    Gives (.seqCall b e) s (fun t => SeqError b 2 s t ∧ (t.bay b).ustack = (s.bay b).ustack)) ∧
  (∀ s b e, Customer s b → s.wordCycle b = true → uwSeq (s.word b) = 4 → uwWait (s.word b) = false → s.condAt b (uwCond (s.word b)) = true →
    4 ≤ (s.bay b).ustack.length →
    Gives (.seqCallIf b e) s (fun t => SeqError b 2 s t ∧ (t.bay b).ustack = (s.bay b).ustack)) ∧
  (∀ s b e, Customer s b → s.wordCycle b = true → uwSeq (s.word b) = 5 → uwWait (s.word b) = false → (s.bay b).ustack = [] →
    Gives (.seqReturn b e) s (fun t => SeqError b 2 s t)) ∧
  (∀ s b a l, Customer s b → s.wordCycle b = true → uwSeq (s.word b) = 5 → uwWait (s.word b) = false → (s.bay b).ustack = a :: l →
    (s.bay b).badWords.contains a = false → (s.bay b).softWords.contains a = false →
    Gives (.seqReturn b .clean) s (fun t => (t.bay b).ustack = l ∧ Enters b a s t)) ∧
  (∀ s b bad, s.bst b = BS.IDLE → (s.bay b).arming = 1 → (s.bay b).holding = none → s.clockOk b = true →
    Gives (.armFillComplete b bad) s (fun t => t.bst b = BS.ARMED ∧ (t.bay b).ustack = [])) ∧
  (∀ s b bad u, s.bst b = BS.IDLE → (s.bay b).arming = 2 → (s.bay b).holding = none → s.clockOk b = true →
    u = (s.residentErrors b bad).fillRing b bad 16384 → (u.ringFull b = true ∨ 1024 ≤ (u.bay b).ring.length) →
    Gives (.laneFedArmReady b bad) s (fun t => t.bst b = BS.ARMED ∧ (t.bay b).ustack = []))

/-- R104: a cycle of a word with DEC_VEC issues no more pattern rows than the counter holds, of several counters than the smallest;
a vector slot past them is a HOLD vector. -/
def Obligations.DecVecLimitsRows : Prop :=
  (∀ s b n, n < 4 → Customer s b → uwVec (s.word b) = 0 → uwSeq (s.word b) ≠ 6 → s.wordOver b = false → uwCnt (s.word b) n = 3 →
    Gives (.vecEmit b) s (fun t => (t.bay b).cycRows ≤
      max (if (s.bay b).cycDone then 0 else (s.bay b).cycRows) (s.getB b (RBay.CNT_VALUE + n)))) ∧
  (∀ s b n prd, n < 4 → Customer s b → uwVec (s.word b) = 0 → uwCnt (s.word b) n = 3 → uwSeq (s.word b) ≠ 6 →
    s.wordOver b = false → s.getB b (RBay.CNT_VALUE + n) ≤ (if (s.bay b).cycDone then 0 else (s.bay b).cycRows) → s.slotLeft b = true →
    prd = ((s.bay b).prdSel).getD (entPrd (s.curEntry b)) →
    4000 * (((s.bay b).cyc : Int) + 3) ≤ (s.bay b).nextStart + s.getB b (RBay.PERIOD + prd) →
    Gives (.vecEmit b) s (fun t => t.getB b RBay.CYCLE_COUNT = (s.getB b RBay.CYCLE_COUNT + 1) % 2 ^ 64 ∧
      t.getB b RBay.VECTORS_ISSUED = s.getB b RBay.VECTORS_ISSUED ∧ (t.bay b).rowNext = (s.bay b).rowNext ∧
      (t.bay b).lastRow = (s.bay b).lastRow ∧ (t.bay b).cycRows = (if (s.bay b).cycDone then 0 else (s.bay b).cycRows) ∧
      (t.bay b).nextStart = (s.bay b).nextStart + s.getB b (RBay.PERIOD + prd)))

/-- R381: SELF_TEST_REQUEST starts the tests while no bay is in ARMED, RUN or PAUSE and no graph is RUNNING, and is refused with
STATE_LOCKED otherwise; TM_STATE is SELF_TEST until they end, and every session stays open.  The replies' delay is timing that the
model leaves out. -/
def Obligations.SelfTestOnRequest : Prop :=
  (∀ s, Served s → s.tmServes = true → (∀ b, s.bst b ≠ BS.ARMED ∧ s.bst b ≠ BS.RUN ∧ s.bst b ≠ BS.PAUSE) →
    (∀ g < 64, s.getG g RGraph.GRAPH_STATE ≠ GS.RUNNING) →
    Gives .selfTestRequest s (fun t => t.reply = {} ∧ t.getO R.TM_STATE = TM.SELF_TEST ∧ t.tmTest = 1 ∧ t.sessions = s.sessions ∧
      OnlyObjs s t [R.TM_STATE, R.APPROVED])) ∧
  (∀ s, Served s → (∃ b, s.bst b = BS.ARMED ∨ s.bst b = BS.RUN ∨ s.bst b = BS.PAUSE) ∨
    (∃ g < 64, s.getG g RGraph.GRAPH_STATE = GS.RUNNING) →
    Gives .selfTestRequest s (fun t => t.reply = { status := ST.STATE_LOCKED } ∧ OnlyAnswer s t)) ∧
  (∀ s (r : BitVec 32) m, s.tmTest ≠ 0 → r ≠ 0 →
    Gives (.selfTestComplete r m) s (fun t => t.getO R.SELF_TEST_RESULT = r.toNat ∧ t.getO R.TM_STATE = TM.ERROR ∧ t.tmTest = 0)) ∧
  (∀ s m, s.tmTest = 1 → s.getO R.MODULE_STATE ≠ MS.CRYPTO → s.getO R.DEBUG_STATE = 1 →
    Gives (.selfTestComplete 0 m) s (fun t => t.getO R.SELF_TEST_RESULT = 0 ∧ t.getO R.TM_STATE = TM.DEBUG ∧ t.tmTest = 0 ∧
      t.sessions = s.sessions)) ∧
  (∀ s m, s.tmTest = 1 → s.getO R.MODULE_STATE ≠ MS.CRYPTO → s.getO R.DEBUG_STATE ≠ 1 → s.anchored .officer = false →
    Gives (.selfTestComplete 0 m) s (fun t => t.getO R.SELF_TEST_RESULT = 0 ∧ t.getO R.TM_STATE = TM.ENROLMENT ∧ t.tmTest = 0 ∧
      t.sessions = s.sessions))

/-- R428: a key is handled by FAULT_HANDLE with the LOG_SEQ of any record of it, by every path: its timer stops, the record named is
HANDLED, and no further step is applied; with no timer only HANDLED is set, and a LOG_SEQ that is not in the log is refused. -/
def Obligations.FaultHandleHandlesItsKey : Prop :=
  (∀ s (v : Via) (n : BitVec 32) m, 1 ≤ v.role → v.view = 0x31 →
    .next (s.writeObj v ⟨0xC000, 0x0B⟩ (some 4) 0 (toBytes 4 n.toNat) m) = exec (.faultHandle n) s) ∧
  (∀ s (n : BitVec 32) r, s.keeperOff = false → s.recOf n.toNat = some r →
    Gives (.faultHandle n) s (fun t => t.reply = {} ∧ (∀ x ∈ t.timers, sameKey x.msg r.msg = false) ∧
      t.timers = s.timers.filter (fun x => !sameKey x.msg r.msg) ∧
      t.log = s.log.map (fun x => if x.seq = n.toNat then { x with handled := true } else x) ∧
      ObjFrame { s with log := t.log, timers := t.timers } t ∧ OnlyObjs s t [R.TIMERS_BUSY])) ∧
  (∀ s (u : BitVec 12) (k : BitVec 8) i, s.keeperOff = false →
    (∀ x ∈ s.timers, ¬ (x.msg.unit = u.toNat ∧ x.msg.kind = k.toNat ∧ x.msg.inject = i)) →
    Gives (.graceExpired u k i) s (fun t => t = s)) ∧
  (∀ s (n : BitVec 32) r, s.keeperOff = false → s.recOf n.toNat = some r → (∀ x ∈ s.timers, sameKey x.msg r.msg = false) →
    s.getO R.TIMERS_BUSY = s.timers.length →
    Gives (.faultHandle n) s (fun t => t.timers = s.timers ∧ OnlyObjs s t [] ∧
      t.log = s.log.map (fun x => if x.seq = n.toNat then { x with handled := true } else x) ∧
      ObjFrame { s with log := t.log } t)) ∧
  (∀ s (n : BitVec 32), s.keeperOff = false → (∀ x ∈ s.log, x.seq ≠ n.toNat) →
    Gives (.faultHandle n) s (fun t => t.reply = { status := ST.OUT_OF_RANGE } ∧ OnlyAnswer s t))

/-- R450: a check every HOLDUP_INTERVAL; one that finds less than 120 mJ forms HOLDUP_WEAK with the energy and shows LOW, and the next
that finds 120 mJ or more shows OK.  While VAUX is off the state shown is ON_STORE, which no check changes (R455); that
it stays through a check is the model's reading (log 26). -/
def Obligations.HoldupIntervalChecks : Prop :=
  (∀ s d, s.keeperOff = false → s.checkDue = some d →
    Gives .holdupIntervalExpiry s (fun t => t.checking = true ∧ t.now = max s.now d ∧
      t.checkDue = some (d + s.getO R.HOLDUP_INTERVAL * 1000000000000) ∧ OnlyObjs s t [])) ∧
  (∀ s (m : Sample), s.keeperOff = false → s.checking = true → s.getO R.HOLDUP_STATE ≠ HS.ON_STORE → sampleEnergy m < 120 →
    Gives (.holdupCheckComplete m) s (fun t => t.getO R.HOLDUP_STATE = HS.LOW ∧ t.checking = false ∧
      (t.ports, t.portLost) = ((s.fault 0x1C2 0x83 (sampleEnergy m)).ports, (s.fault 0x1C2 0x83 (sampleEnergy m)).portLost))) ∧
  (∀ s (m : Sample), s.keeperOff = false → s.checking = true → s.getO R.HOLDUP_STATE ≠ HS.ON_STORE → 120 ≤ sampleEnergy m →
    Gives (.holdupCheckComplete m) s (fun t => t.getO R.HOLDUP_STATE = HS.OK ∧ t.checking = false ∧ t.ports = s.ports))

/-- R446, R448, R455: a write of HOLDUP_CHECK_REQUEST begins a check, in any module state, and so does the end of the time after
which a check that found too little is repeated; both answer a next state in every state in which the keeper runs. -/
def Obligations.HoldupChecksBegin : Prop :=
  (∀ s, s.keeperOff = false → Gives .holdupCheckRequest s (fun t =>
    t.checking = true ∧ t.reply = {} ∧ OnlyObjs s t [] ∧ t = { s with checking := true, reply := {} })) ∧
  (∀ s d, s.keeperOff = false → s.recheck = some d → Gives .holdupRecheck s (fun t =>
    t.checking = true ∧ t.recheck = none ∧ t.now = max s.now d ∧ OnlyObjs s t [] ∧
    t = { s with checking := true, recheck := none, now := max s.now d }))

/-- R367: a masked write whose one unit, a bay or a channel, takes the value writes it there and answers OK with that unit in the
applied mask; and every masked write of a fitting value, of any units, is OK just where each unit that it names has applied. -/
def Obligations.MaskedWritesApply : Prop :=
  (∀ s i x req w m (b : Bay) n o r, Starts s i x (.maskedWrite i req w m) req → w.kind = 0 →
    o = RBay.WAKE_MASK ∨ o = RBay.FAIL_MASK ∨ o = RBay.USER_FLAGS ∨ o = RBay.TRIG_SOURCE ∨ o = RBay.TABLE_INDEX →
    w.base.toNat = 0x3000 + o / 256 → w.sub.toNat = o % 256 → w.mask = BitVec.ofNat 256 (2 ^ b.val) →
    typeLen w.type.toNat = some n → w.value.toNat < 256 ^ n →
    (s.heard i).rwsVerdict (x.via i) ⟨BitVec.ofNat 16 (w.base.toNat + b.val * 0x100), w.sub⟩ (some w.type.toNat)
      (fieldOf w.epochs.toNat (16 * b.val) 16) (toBytes n w.value.toNat) = .go r → r.access ≠ AC.RWS →
    Gives (.maskedWrite i req w m) s (fun t => Replied s t i x req { body := toBytes 32 (2 ^ b.val) } ∧
      t.getB b o = w.value.toNat ∧ OnlyObjs s t [keyB b o])) ∧
  (∀ s i x req w m (c : Chan) n o r, Starts s i x (.maskedWrite i req w m) req → w.kind = 1 →
    o = RChan.OFF_MODE ∨ o = RChan.MEAS_COUNT ∨ o = RChan.MEAS_DELAY ∨ o = RChan.DRV_MIN_PULSE →
    w.base.toNat = 0x4000 + o / 256 → w.sub.toNat = o % 256 → w.mask = BitVec.ofNat 256 (2 ^ c.val) →
    typeLen w.type.toNat = some n → w.value.toNat < 256 ^ n →
    (s.heard i).rwsVerdict (x.via i) ⟨BitVec.ofNat 16 (w.base.toNat + c.val * 0x40), w.sub⟩ (some w.type.toNat)
      (fieldOf w.epochs.toNat (16 * (bayOf c).val) 16) (toBytes n w.value.toNat) = .go r → r.access ≠ AC.RWS →
    Gives (.maskedWrite i req w m) s (fun t => Replied s t i x req { body := toBytes 32 (2 ^ c.val) } ∧
      t.getC c o = w.value.toNat ∧ OnlyObjs s t [keyC c o])) ∧
  (∀ s i x req w m n, Starts s i x (.maskedWrite i req w m) req → typeLen w.type.toNat = some n → w.value.toNat < 256 ^ n →
    (w.kind = 0 ∧ 0x3000 ≤ w.base.toNat ∧ w.base.toNat ≤ 0x30FF) ∨ (w.kind = 1 ∧ 0x4000 ≤ w.base.toNat ∧ w.base.toNat ≤ 0x403F) →
    Gives (.maskedWrite i req w m) s (fun t => ∃ a, t.reply.body.take 32 = toBytes 32 a ∧
      (∀ u, a.testBit u = true → w.mask.toNat.testBit u = true ∧ (w.kind = 0 → u < 16)) ∧
      (t.reply.status = ST.OK ↔ ∀ u, w.mask.toNat.testBit u = true → (w.kind = 0 → u < 16) → a.testBit u = true) ∧
      (t.reply.status = ST.OK → t.reply.body = toBytes 32 a)))
end

