-- ==== Sys2Proof/Laws/Store.lean ====
section
/-! SUPPORT. The laws of the sparse tables and of the byte memory: a read after a write, and the canonical form. -/

namespace Sys2Proof.Machine

/-- A table read where it was written gives the written entry. -/
@[simp] theorem Tab.get_set_same {α : Type} (t : Tab α) (k : Nat) (v d : α) : (Tab.set t k v).get k d = v := by
  induction t with
  | nil => simp [Tab.set, Tab.get]
  | cons e t ih =>
    obtain ⟨k', v'⟩ := e
    simp only [Tab.set]
    split
    · simp [Tab.get]
    · split
      · simp [Tab.get]
      · rename_i h; simp [Tab.get, h, ih]

/-- A table read elsewhere gives what it gave. -/
theorem Tab.get_set_ne {α : Type} (t : Tab α) {k j : Nat} (h : j ≠ k) (v d : α) : (Tab.set t k v).get j d = t.get j d := by
  induction t with
  | nil => simp [Tab.set, Tab.get, h]
  | cons e t ih =>
    obtain ⟨k', v'⟩ := e
    simp only [Tab.set]
    split
    · simp [Tab.get, h]
    · split
      · rename_i _ e; subst e; simp [Tab.get, h]
      · simp only [Tab.get, ih]

/-- A table read anywhere after a write. -/
theorem Tab.get_set {α : Type} (t : Tab α) (k j : Nat) (v d : α) :
    (Tab.set t k v).get j d = if j = k then v else t.get j d := by
  split
  · rename_i h; subst h; simp
  · rename_i h; exact Tab.get_set_ne t h v d

/-- Memory read elsewhere than it was written gives what it gave. -/
theorem memGet_memSet_ne (m : List Host.Cell) {a b : Nat} (h : b ≠ a) (v : Byte) : memGet (memSet m a v) b = memGet m b := by
  induction m with
  | nil =>
    simp only [memSet]
    split <;> simp [memGet, h]
  | cons e m ih =>
    obtain ⟨k, w⟩ := e
    simp only [memSet]
    split
    · split <;> simp [memGet, h]
    · split
      · rename_i _ e
        subst e
        split <;> simp [memGet, h]
      · simp only [memGet, ih]

/-- Below the bound of a canonical memory every byte is the default. -/
theorem memGet_below : ∀ (m : List Host.Cell) (lo a : Nat), Memory.wfFrom lo m = true → a < lo → memGet m a = memDefault
  | [], _, _, _, _ => rfl
  | (k, w) :: m, lo, a, h, ha => by
    simp only [Memory.wfFrom, Bool.and_eq_true, decide_eq_true_eq] at h
    have hk : a ≠ k := by omega
    simp only [memGet, hk, if_false]
    exact memGet_below m (k + 1) a h.2 (by omega)

/-- Memory in the canonical form, read where it was written, gives the written byte. -/
theorem memGet_memSet_same : ∀ (m : List Host.Cell) (lo a : Nat) (v : Byte), Memory.wfFrom lo m = true →
    memGet (memSet m a v) a = v
  | [], _, a, v, _ => by
    simp only [memSet]
    split
    · rename_i h; simp [memGet, h]
    · simp [memGet]
  | (k, w) :: m, lo, a, v, h => by
    simp only [Memory.wfFrom, Bool.and_eq_true, decide_eq_true_eq] at h
    simp only [memSet]
    split
    · split
      · rename_i hv
        rw [hv]
        have hk : a ≠ k := by omega
        simp only [memGet, hk, if_false]
        exact memGet_below m (k + 1) a h.2 (by omega)
      · simp [memGet]
    · split
      · rename_i _ e
        subst e
        split
        · rename_i hv
          rw [hv]
          exact memGet_below m (a + 1) a h.2 (by omega)
        · simp [memGet]
      · rename_i hk
        simp only [memGet, hk, if_false]
        exact memGet_memSet_same m (k + 1) a v h.2

/-- A canonical memory is canonical from any lower bound. -/
theorem Memory.wfFrom_mono : ∀ (m : List Host.Cell) {lo hi : Nat}, lo ≤ hi → Memory.wfFrom hi m = true → Memory.wfFrom lo m = true
  | [], _, _, _, _ => rfl
  | (k, w) :: m, lo, hi, h, hw => by
    simp only [Memory.wfFrom, Bool.and_eq_true, decide_eq_true_eq] at hw ⊢
    exact ⟨⟨by omega, hw.1.2⟩, hw.2⟩

/-- A write keeps the canonical form. -/
theorem memSet_wfFrom : ∀ (m : List Host.Cell) (lo a : Nat) (v : Byte), lo ≤ a → Memory.wfFrom lo m = true →
    Memory.wfFrom lo (memSet m a v) = true
  | [], lo, a, v, h, _ => by
    simp only [memSet]
    split
    · rfl
    · rename_i hv; simp [Memory.wfFrom, h, hv]
  | (k, w) :: m, lo, a, v, h, hw => by
    have hw0 := hw
    simp only [Memory.wfFrom, Bool.and_eq_true, decide_eq_true_eq] at hw
    simp only [memSet]
    split
    · split
      · exact hw0
      · rename_i hlt hv
        simp only [Memory.wfFrom, Bool.and_eq_true, decide_eq_true_eq]
        exact ⟨⟨h, hv⟩, ⟨⟨by omega, hw.1.2⟩, hw.2⟩⟩
    · split
      · rename_i e
        split
        · exact Memory.wfFrom_mono m (by omega) hw.2
        · rename_i hv
          simp only [Memory.wfFrom, Bool.and_eq_true, decide_eq_true_eq]
          exact ⟨⟨h, hv⟩, by rw [e]; exact hw.2⟩
      · simp only [Memory.wfFrom, Bool.and_eq_true, decide_eq_true_eq]
        exact ⟨hw.1, memSet_wfFrom m (k + 1) a v (by omega) hw.2⟩

/-- A write of one byte keeps the canonical form. -/
theorem memSet_wf (m : List Host.Cell) (a : Nat) (v : Byte) (h : Memory.wf m = true) : Memory.wf (memSet m a v) = true :=
  memSet_wfFrom m 0 a v (Nat.zero_le _) h

/-- A write of bytes keeps the canonical form. -/
theorem memWrite_wf : ∀ (d : Bytes) (m : List Host.Cell) (a : Nat), Memory.wf m = true → Memory.wf (memWrite m a d) = true
  | [], _, _, h => h
  | _ :: bs, _, _, h => memWrite_wf bs _ _ (memSet_wf _ _ _ h)

/-- A byte outside the bytes written reads as before. -/
theorem memGet_memWrite_ne : ∀ (d : Bytes) (m : List Host.Cell) (a b : Nat), b < a ∨ a + d.length ≤ b →
    memGet (memWrite m a d) b = memGet m b
  | [], _, _, _, _ => rfl
  | x :: bs, m, a, b, h => by
    simp only [memWrite]
    rw [memGet_memWrite_ne bs _ _ _ (by simp only [List.length_cons] at h; omega)]
    exact memGet_memSet_ne m (by simp only [List.length_cons] at h; omega) x

/-- A read of a table without some entries. -/
theorem Tab.get_without {α : Type} (p : Nat → Bool) (k : Nat) (d : α) : ∀ t : Tab α, (Tab.without t p).get k d = if p k = true then d else t.get k d
  | [] => by simp [Tab.without, Tab.get]
  | (j, v) :: t => by
    have ih := Tab.get_without p k d t
    unfold Tab.without at ih ⊢
    by_cases hj : p j = true
    · rw [List.filter_cons_of_neg (by simp [hj])]
      by_cases hk : p k = true
      · rw [ih, if_pos hk]; rw [if_pos hk]
      · have : k ≠ j := fun e => hk (e ▸ hj)
        rw [ih, if_neg hk, if_neg hk]; simp only [Tab.get, if_neg this]
    · rw [List.filter_cons_of_pos (by simp [hj])]
      simp only [Tab.get]
      by_cases hkj : k = j
      · subst hkj; rw [if_pos rfl, if_neg hj, if_pos rfl]
      · rw [if_neg hkj, ih, if_neg hkj]

end Sys2Proof.Machine
end

