-- ==== Sys2Proof/Laws/State.lean ====
section
/-! SUPPORT. What each update of the state leaves, field by field, and what a read after a write gives. -/

namespace Sys2Proof.Machine

/-! ### Objects -/

theorem State.getO_setO (s : State) (k v j : Nat) : (s.setO k v).getO j = if j = k then v else s.getO j := by
  simp only [State.getO, State.setO, Tab.get_set]

@[simp] theorem State.getO_setO_same (s : State) (k v : Nat) : (s.setO k v).getO k = v := by simp [State.getO_setO]

theorem State.getO_setO_ne (s : State) {k j : Nat} (h : j ≠ k) (v : Nat) : (s.setO k v).getO j = s.getO j := by
  simp [State.getO_setO, h]

theorem keyB_inj {b : Bay} {o p : Nat} : keyB b o = keyB b p ↔ o = p := by simp only [keyB]; omega

/-- The offsets of a bay's block end before the next block begins. -/
theorem keyB_ne_bay {b c : Bay} {o p : Nat} (ho : o < 0x10000) (hp : p < 0x10000) (h : b ≠ c) : keyB b o ≠ keyB c p := by
  have : b.val ≠ c.val := fun e => h (Fin.ext e)
  simp only [keyB]; omega

theorem keyC_inj {c : Chan} {o p : Nat} : keyC c o = keyC c p ↔ o = p := by simp only [keyC]; omega

theorem keyC_ne_chan {c d : Chan} {o p : Nat} (ho : o < 0x4000) (hp : p < 0x4000) (h : c ≠ d) : keyC c o ≠ keyC d p := by
  have : c.val ≠ d.val := fun e => h (Fin.ext e)
  simp only [keyC]; omega

theorem State.getB_setB (s : State) (b : Bay) (o v p : Nat) :
    (s.setB b o v).getB b p = if p = o then v else s.getB b p := by
  simp only [State.getB, State.setB, State.getO_setO, keyB_inj]

theorem State.getC_setC (s : State) (c : Chan) (o v p : Nat) :
    (s.setC c o v).getC c p = if p = o then v else s.getC c p := by
  simp only [State.getC, State.setC, State.getO_setO, keyC_inj]

/-! ### What a bay, a channel and a pin die hold -/

@[simp] theorem vget_set_same {α : Type} {n : Nat} (v : Vector α n) (i : Fin n) (x : α) : (v.set i.val x i.isLt).get i = x := by
  change (v.set i.val x i.isLt)[i.val] = x
  simp

theorem vget_set_ne {α : Type} {n : Nat} (v : Vector α n) {i j : Fin n} (h : j ≠ i) (x : α) :
    (v.set i.val x i.isLt).get j = v.get j := by
  have : i.val ≠ j.val := fun e => h (Fin.ext e.symm)
  change (v.set i.val x i.isLt)[j.val] = v[j.val]
  simp [this]

@[simp] theorem State.bay_modBay_same (s : State) (b : Bay) (f : BayU → BayU) : (s.modBay b f).bay b = f (s.bay b) :=
  vget_set_same _ _ _
theorem State.bay_modBay_ne (s : State) {b c : Bay} (h : c ≠ b) (f : BayU → BayU) : (s.modBay b f).bay c = s.bay c :=
  vget_set_ne _ h _
@[simp] theorem State.chan_modChan_same (s : State) (c : Chan) (f : ChanU → ChanU) : (s.modChan c f).chan c = f (s.chan c) :=
  vget_set_same _ _ _
theorem State.chan_modChan_ne (s : State) {c d : Chan} (h : d ≠ c) (f : ChanU → ChanU) : (s.modChan c f).chan d = s.chan d :=
  vget_set_ne _ h _
@[simp] theorem State.die_modDie_same (s : State) (d : Die) (f : DieU → DieU) : (s.modDie d f).die d = f (s.die d) :=
  vget_set_same _ _ _

@[simp] theorem State.answer_reply (s : State) (st : Nat) : (s.answer st).reply = { status := st } := rfl
@[simp] theorem State.answerD_reply (s : State) (st d : Nat) : (s.answerD st d).reply = { status := st, detail := d } := rfl
@[simp] theorem State.answerBody_reply (s : State) (l : Bytes) : (s.answerBody l).reply = { body := l } := rfl

/-! ### Reads through updates that leave the objects -/

@[simp] theorem State.getO_answer (s : State) (st k : Nat) : (s.answer st).getO k = s.getO k := rfl
@[simp] theorem State.getO_answerD (s : State) (st d k : Nat) : (s.answerD st d).getO k = s.getO k := rfl
@[simp] theorem State.getO_answerBody (s : State) (l : Bytes) (k : Nat) : (s.answerBody l).getO k = s.getO k := rfl
@[simp] theorem State.getO_modBay (s : State) (b : Bay) (f : BayU → BayU) (k : Nat) : (s.modBay b f).getO k = s.getO k := rfl
@[simp] theorem State.getO_modChan (s : State) (c : Chan) (f : ChanU → ChanU) (k : Nat) : (s.modChan c f).getO k = s.getO k := rfl
@[simp] theorem State.getO_modDie (s : State) (d : Die) (f : DieU → DieU) (k : Nat) : (s.modDie d f).getO k = s.getO k := rfl
@[simp] theorem State.bay_setO (s : State) (k v : Nat) (b : Bay) : (s.setO k v).bay b = s.bay b := rfl
@[simp] theorem State.chan_setO (s : State) (k v : Nat) (c : Chan) : (s.setO k v).chan c = s.chan c := rfl
@[simp] theorem State.die_setO (s : State) (k v : Nat) (d : Die) : (s.setO k v).die d = s.die d := rfl
@[simp] theorem State.bay_answer (s : State) (st : Nat) (b : Bay) : (s.answer st).bay b = s.bay b := rfl
@[simp] theorem State.chan_modBay (s : State) (b : Bay) (f : BayU → BayU) (c : Chan) : (s.modBay b f).chan c = s.chan c := rfl
@[simp] theorem State.bay_modChan (s : State) (c : Chan) (f : ChanU → ChanU) (b : Bay) : (s.modChan c f).bay b = s.bay b := rfl

/-! ### Events and fault messages -/

theorem State.getO_of_objs {s t : State} (h : t.objs = s.objs) (k : Nat) : t.getO k = s.getO k := by simp only [State.getO, h]

theorem State.objs_eventNotes (s : State) (n t d : Nat) : (s.eventNotes n t d).objs = s.objs := by
  simp only [State.eventNotes]; split <;> rfl

/-- An event leaves every other scalar object. -/
theorem State.getO_event (s : State) {n : Nat} (d : Nat) (hn : n < 2048) {k : Nat} (h : eventObj k = false) :
    (s.event n d).getO k = s.getO k := by
  simp only [eventObj, Bool.or_eq_false_iff, Bool.and_eq_false_iff, decide_eq_false_iff_not, beq_eq_false_iff_ne] at h
  obtain ⟨⟨h1, h2⟩, h3⟩ := h
  have a : ∀ o, o < 256 → k ≠ key (0xC400 + n) 0 + o := by intro o ho; simp only [key]; omega
  have room : ∀ u : State, u.eventRoom.getO k = u.getO k := by
    intro u; unfold State.eventRoom; split
    · rfl
    · exact State.getO_setO_ne u h2 _
  have put : ∀ (u : State) r, (u.eventPut r).getO k = u.getO k := by
    intro u r; unfold State.eventPut
    generalize min (u.getO R.EVENT_LOG_COUNT + 1) 65536 = m
    rw [State.getO_setO_ne _ h3]; simp only [State.getO]
  have log : ∀ (u : State) (t d : Nat), (u.eventLog n t d).getO k = u.getO k := by
    intro u t d; unfold State.eventLog; split
    · rw [put, room]
    · rfl
  simp only [State.event, log, State.getO_of_objs (State.objs_eventNotes _ _ _ _), State.eventCount]
  rw [State.getO_setO_ne _ (a _ (by decide)), State.getO_setO_ne _ (a _ (by decide)), State.getO_setO_ne _ (a _ (by decide))]

theorem State.getO_occur (s : State) {n : Nat} (hn : n < 2048) {k : Nat} (h : eventObj k = false) :
    (s.occur n).getO k = s.getO k := by
  simp only [State.occur]; rw [State.getO_event _ _ hn h]; rfl

/-- What an event changes besides scalar objects: the sessions' notes and the event log. -/
theorem State.event_frame (s : State) (n d : Nat) :
    s.event n d = { s with objs := (s.event n d).objs, sessions := (s.event n d).sessions, events := (s.event n d).events } := by
  have notes : ∀ (u : State) (t d : Nat), u.eventNotes n t d = { u with sessions := (u.eventNotes n t d).sessions } := by
    intro u t d; simp only [State.eventNotes]; split <;> rfl
  have room : ∀ u : State, u.eventRoom = { u with objs := u.eventRoom.objs } := by
    intro u; unfold State.eventRoom; split <;> rfl
  have log : ∀ (u : State) (t d : Nat), u.eventLog n t d = { u with objs := (u.eventLog n t d).objs, events := (u.eventLog n t d).events } := by
    intro u t d; unfold State.eventLog; split
    · rw [room]; rfl
    · rfl
  rw [State.event, log, notes]; rfl

/-- What a fault message changes: its unit's port, the port's count of lost messages, or the list of FATAL messages. -/
theorem State.fault_frame (s : State) (u k a : Nat) :
    s.fault u k a = { s with ports := (s.fault u k a).ports, portLost := (s.fault u k a).portLost, fatal := (s.fault u k a).fatal } := by
  simp only [State.fault, State.send]
  split
  · rfl
  · split <;> rfl

@[simp] theorem State.getO_fault (s : State) (u k a j : Nat) : (s.fault u k a).getO j = s.getO j := by
  rw [State.fault_frame]; rfl

/-! ### Fields, one by one -/

/-! #### Fields after setO -/

@[simp] theorem State.setO_now (s : State) (k v : Nat) : (s.setO k v).now = s.now := rfl
@[simp] theorem State.setO_fresh (s : State) (k v : Nat) : (s.setO k v).fresh = s.fresh := rfl
@[simp] theorem State.setO_pending (s : State) (k v : Nat) : (s.setO k v).pending = s.pending := rfl
@[simp] theorem State.setO_reply (s : State) (k v : Nat) : (s.setO k v).reply = s.reply := rfl
@[simp] theorem State.setO_doms (s : State) (k v : Nat) : (s.setO k v).doms = s.doms := rfl
@[simp] theorem State.setO_shingles (s : State) (k v : Nat) : (s.setO k v).shingles = s.shingles := rfl
@[simp] theorem State.setO_bank (s : State) (k v : Nat) : (s.setO k v).bank = s.bank := rfl
@[simp] theorem State.setO_tsets (s : State) (k v : Nat) : (s.setO k v).tsets = s.tsets := rfl
@[simp] theorem State.setO_mem (s : State) (k v : Nat) : (s.setO k v).mem = s.mem := rfl
@[simp] theorem State.setO_tags (s : State) (k v : Nat) : (s.setO k v).tags = s.tags := rfl
@[simp] theorem State.setO_claims (s : State) (k v : Nat) : (s.setO k v).claims = s.claims := rfl
@[simp] theorem State.setO_ridge (s : State) (k v : Nat) : (s.setO k v).ridge = s.ridge := rfl
@[simp] theorem State.setO_ridgeDrv (s : State) (k v : Nat) : (s.setO k v).ridgeDrv = s.ridgeDrv := rfl
@[simp] theorem State.setO_ridgeWay (s : State) (k v : Nat) : (s.setO k v).ridgeWay = s.ridgeWay := rfl
@[simp] theorem State.setO_purlin (s : State) (k v : Nat) : (s.setO k v).purlin = s.purlin := rfl
@[simp] theorem State.setO_keys (s : State) (k v : Nat) : (s.setO k v).keys = s.keys := rfl
@[simp] theorem State.setO_dropped (s : State) (k v : Nat) : (s.setO k v).dropped = s.dropped := rfl
@[simp] theorem State.setO_bays (s : State) (k v : Nat) : (s.setO k v).bays = s.bays := rfl
@[simp] theorem State.setO_chans (s : State) (k v : Nat) : (s.setO k v).chans = s.chans := rfl
@[simp] theorem State.setO_dies (s : State) (k v : Nat) : (s.setO k v).dies = s.dies := rfl
@[simp] theorem State.setO_ports (s : State) (k v : Nat) : (s.setO k v).ports = s.ports := rfl
@[simp] theorem State.setO_portLost (s : State) (k v : Nat) : (s.setO k v).portLost = s.portLost := rfl
@[simp] theorem State.setO_fatal (s : State) (k v : Nat) : (s.setO k v).fatal = s.fatal := rfl
@[simp] theorem State.setO_log (s : State) (k v : Nat) : (s.setO k v).log = s.log := rfl
@[simp] theorem State.setO_timers (s : State) (k v : Nat) : (s.setO k v).timers = s.timers := rfl
@[simp] theorem State.setO_tokens (s : State) (k v : Nat) : (s.setO k v).tokens = s.tokens := rfl
@[simp] theorem State.setO_injSlots (s : State) (k v : Nat) : (s.setO k v).injSlots = s.injSlots := rfl
@[simp] theorem State.setO_injNext (s : State) (k v : Nat) : (s.setO k v).injNext = s.injNext := rfl
@[simp] theorem State.setO_events (s : State) (k v : Nat) : (s.setO k v).events = s.events := rfl
@[simp] theorem State.setO_shadows (s : State) (k v : Nat) : (s.setO k v).shadows = s.shadows := rfl
@[simp] theorem State.setO_commit (s : State) (k v : Nat) : (s.setO k v).commit = s.commit := rfl
@[simp] theorem State.setO_counterOn (s : State) (k v : Nat) : (s.setO k v).counterOn = s.counterOn := rfl
@[simp] theorem State.setO_holdupOk (s : State) (k v : Nat) : (s.setO k v).holdupOk = s.holdupOk := rfl
@[simp] theorem State.setO_copies (s : State) (k v : Nat) : (s.setO k v).copies = s.copies := rfl
@[simp] theorem State.setO_benches (s : State) (k v : Nat) : (s.setO k v).benches = s.benches := rfl
@[simp] theorem State.setO_store (s : State) (k v : Nat) : (s.setO k v).store = s.store := rfl
@[simp] theorem State.setO_waiting (s : State) (k v : Nat) : (s.setO k v).waiting = s.waiting := rfl
@[simp] theorem State.setO_blocked (s : State) (k v : Nat) : (s.setO k v).blocked = s.blocked := rfl
@[simp] theorem State.setO_delays (s : State) (k v : Nat) : (s.setO k v).delays = s.delays := rfl
@[simp] theorem State.setO_hostPosts (s : State) (k v : Nat) : (s.setO k v).hostPosts = s.hostPosts := rfl
@[simp] theorem State.setO_postEnds (s : State) (k v : Nat) : (s.setO k v).postEnds = s.postEnds := rfl
@[simp] theorem State.setO_binds (s : State) (k v : Nat) : (s.setO k v).binds = s.binds := rfl
@[simp] theorem State.setO_bufs (s : State) (k v : Nat) : (s.setO k v).bufs = s.bufs := rfl
@[simp] theorem State.setO_inst (s : State) (k v : Nat) : (s.setO k v).inst = s.inst := rfl
@[simp] theorem State.setO_lastCore (s : State) (k v : Nat) : (s.setO k v).lastCore = s.lastCore := rfl
@[simp] theorem State.setO_drains (s : State) (k v : Nat) : (s.setO k v).drains = s.drains := rfl
@[simp] theorem State.setO_dmaPosts (s : State) (k v : Nat) : (s.setO k v).dmaPosts = s.dmaPosts := rfl
@[simp] theorem State.setO_lastFired (s : State) (k v : Nat) : (s.setO k v).lastFired = s.lastFired := rfl
@[simp] theorem State.setO_fireNo (s : State) (k v : Nat) : (s.setO k v).fireNo = s.fireNo := rfl
@[simp] theorem State.setO_delayNo (s : State) (k v : Nat) : (s.setO k v).delayNo = s.delayNo := rfl
@[simp] theorem State.setO_oldTick (s : State) (k v : Nat) : (s.setO k v).oldTick = s.oldTick := rfl
@[simp] theorem State.setO_ceSince (s : State) (k v : Nat) : (s.setO k v).ceSince = s.ceSince := rfl
@[simp] theorem State.setO_recovery (s : State) (k v : Nat) : (s.setO k v).recovery = s.recovery := rfl
@[simp] theorem State.setO_catchAt (s : State) (k v : Nat) : (s.setO k v).catchAt = s.catchAt := rfl
@[simp] theorem State.setO_scrubbed (s : State) (k v : Nat) : (s.setO k v).scrubbed = s.scrubbed := rfl
@[simp] theorem State.setO_hbmQ (s : State) (k v : Nat) : (s.setO k v).hbmQ = s.hbmQ := rfl
@[simp] theorem State.setO_coreOut (s : State) (k v : Nat) : (s.setO k v).coreOut = s.coreOut := rfl
@[simp] theorem State.setO_lanes (s : State) (k v : Nat) : (s.setO k v).lanes = s.lanes := rfl
@[simp] theorem State.setO_links (s : State) (k v : Nat) : (s.setO k v).links = s.links := rfl
@[simp] theorem State.setO_streams (s : State) (k v : Nat) : (s.setO k v).streams = s.streams := rfl
@[simp] theorem State.setO_dmas (s : State) (k v : Nat) : (s.setO k v).dmas = s.dmas := rfl
@[simp] theorem State.setO_dmaLast (s : State) (k v : Nat) : (s.setO k v).dmaLast = s.dmaLast := rfl
@[simp] theorem State.setO_dataPorts (s : State) (k v : Nat) : (s.setO k v).dataPorts = s.dataPorts := rfl
@[simp] theorem State.setO_tmPort (s : State) (k v : Nat) : (s.setO k v).tmPort = s.tmPort := rfl
@[simp] theorem State.setO_nets (s : State) (k v : Nat) : (s.setO k v).nets = s.nets := rfl
@[simp] theorem State.setO_syncOk (s : State) (k v : Nat) : (s.setO k v).syncOk = s.syncOk := rfl
@[simp] theorem State.setO_tpgs (s : State) (k v : Nat) : (s.setO k v).tpgs = s.tpgs := rfl
@[simp] theorem State.setO_trigOut (s : State) (k v : Nat) : (s.setO k v).trigOut = s.trigOut := rfl
@[simp] theorem State.setO_sessions (s : State) (k v : Nat) : (s.setO k v).sessions = s.sessions := rfl
@[simp] theorem State.setO_mgmtLast (s : State) (k v : Nat) : (s.setO k v).mgmtLast = s.mgmtLast := rfl
@[simp] theorem State.setO_tmTest (s : State) (k v : Nat) : (s.setO k v).tmTest = s.tmTest := rfl
@[simp] theorem State.setO_nonces (s : State) (k v : Nat) : (s.setO k v).nonces = s.nonces := rfl
@[simp] theorem State.setO_tmKey (s : State) (k v : Nat) : (s.setO k v).tmKey = s.tmKey := rfl
@[simp] theorem State.setO_tmFirst (s : State) (k v : Nat) : (s.setO k v).tmFirst = s.tmFirst := rfl
@[simp] theorem State.setO_tmRetry (s : State) (k v : Nat) : (s.setO k v).tmRetry = s.tmRetry := rfl
@[simp] theorem State.setO_groupKey (s : State) (k v : Nat) : (s.setO k v).groupKey = s.groupKey := rfl
@[simp] theorem State.setO_fwSlots (s : State) (k v : Nat) : (s.setO k v).fwSlots = s.fwSlots := rfl
@[simp] theorem State.setO_fwLoad (s : State) (k v : Nat) : (s.setO k v).fwLoad = s.fwLoad := rfl
@[simp] theorem State.setO_fwRollback (s : State) (k v : Nat) : (s.setO k v).fwRollback = s.fwRollback := rfl
@[simp] theorem State.setO_keeperAt (s : State) (k v : Nat) : (s.setO k v).keeperAt = s.keeperAt := rfl
@[simp] theorem State.setO_keeperOff (s : State) (k v : Nat) : (s.setO k v).keeperOff = s.keeperOff := rfl
@[simp] theorem State.setO_aliveHigh (s : State) (k v : Nat) : (s.setO k v).aliveHigh = s.aliveHigh := rfl
@[simp] theorem State.setO_aliveFreq (s : State) (k v : Nat) : (s.setO k v).aliveFreq = s.aliveFreq := rfl
@[simp] theorem State.setO_aliveAt (s : State) (k v : Nat) : (s.setO k v).aliveAt = s.aliveAt := rfl
@[simp] theorem State.setO_watchdog (s : State) (k v : Nat) : (s.setO k v).watchdog = s.watchdog := rfl
@[simp] theorem State.setO_wdArmed (s : State) (k v : Nat) : (s.setO k v).wdArmed = s.wdArmed := rfl
@[simp] theorem State.setO_keeperRef (s : State) (k v : Nat) : (s.setO k v).keeperRef = s.keeperRef := rfl
@[simp] theorem State.setO_ledger (s : State) (k v : Nat) : (s.setO k v).ledger = s.ledger := rfl
@[simp] theorem State.setO_ledgerOld (s : State) (k v : Nat) : (s.setO k v).ledgerOld = s.ledgerOld := rfl
@[simp] theorem State.setO_ledgerDoms (s : State) (k v : Nat) : (s.setO k v).ledgerDoms = s.ledgerDoms := rfl
@[simp] theorem State.setO_ledgerCorr (s : State) (k v : Nat) : (s.setO k v).ledgerCorr = s.ledgerCorr := rfl
@[simp] theorem State.setO_vauxAt (s : State) (k v : Nat) : (s.setO k v).vauxAt = s.vauxAt := rfl
@[simp] theorem State.setO_tap (s : State) (k v : Nat) : (s.setO k v).tap = s.tap := rfl
@[simp] theorem State.setO_ledgerQ (s : State) (k v : Nat) : (s.setO k v).ledgerQ = s.ledgerQ := rfl
@[simp] theorem State.setO_ledgerHeld (s : State) (k v : Nat) : (s.setO k v).ledgerHeld = s.ledgerHeld := rfl
@[simp] theorem State.setO_ledgerDue (s : State) (k v : Nat) : (s.setO k v).ledgerDue = s.ledgerDue := rfl
@[simp] theorem State.setO_assayed (s : State) (k v : Nat) : (s.setO k v).assayed = s.assayed := rfl
@[simp] theorem State.setO_temps (s : State) (k v : Nat) : (s.setO k v).temps = s.temps := rfl
@[simp] theorem State.setO_beat (s : State) (k v : Nat) : (s.setO k v).beat = s.beat := rfl
@[simp] theorem State.setO_archived (s : State) (k v : Nat) : (s.setO k v).archived = s.archived := rfl
@[simp] theorem State.setO_archRetry (s : State) (k v : Nat) : (s.setO k v).archRetry = s.archRetry := rfl
@[simp] theorem State.setO_resetDue (s : State) (k v : Nat) : (s.setO k v).resetDue = s.resetDue := rfl
@[simp] theorem State.setO_startRef (s : State) (k v : Nat) : (s.setO k v).startRef = s.startRef := rfl
@[simp] theorem State.setO_checking (s : State) (k v : Nat) : (s.setO k v).checking = s.checking := rfl
@[simp] theorem State.setO_checkDue (s : State) (k v : Nat) : (s.setO k v).checkDue = s.checkDue := rfl
@[simp] theorem State.setO_recheck (s : State) (k v : Nat) : (s.setO k v).recheck = s.recheck := rfl
@[simp] theorem State.setO_switchTo (s : State) (k v : Nat) : (s.setO k v).switchTo = s.switchTo := rfl

/-! #### Fields after answer -/

@[simp] theorem State.answer_now (s : State) (st : Nat) : (s.answer st).now = s.now := rfl
@[simp] theorem State.answer_fresh (s : State) (st : Nat) : (s.answer st).fresh = s.fresh := rfl
@[simp] theorem State.answer_pending (s : State) (st : Nat) : (s.answer st).pending = s.pending := rfl
@[simp] theorem State.answer_objs (s : State) (st : Nat) : (s.answer st).objs = s.objs := rfl
@[simp] theorem State.answer_doms (s : State) (st : Nat) : (s.answer st).doms = s.doms := rfl
@[simp] theorem State.answer_shingles (s : State) (st : Nat) : (s.answer st).shingles = s.shingles := rfl
@[simp] theorem State.answer_bank (s : State) (st : Nat) : (s.answer st).bank = s.bank := rfl
@[simp] theorem State.answer_tsets (s : State) (st : Nat) : (s.answer st).tsets = s.tsets := rfl
@[simp] theorem State.answer_mem (s : State) (st : Nat) : (s.answer st).mem = s.mem := rfl
@[simp] theorem State.answer_tags (s : State) (st : Nat) : (s.answer st).tags = s.tags := rfl
@[simp] theorem State.answer_claims (s : State) (st : Nat) : (s.answer st).claims = s.claims := rfl
@[simp] theorem State.answer_ridge (s : State) (st : Nat) : (s.answer st).ridge = s.ridge := rfl
@[simp] theorem State.answer_ridgeDrv (s : State) (st : Nat) : (s.answer st).ridgeDrv = s.ridgeDrv := rfl
@[simp] theorem State.answer_ridgeWay (s : State) (st : Nat) : (s.answer st).ridgeWay = s.ridgeWay := rfl
@[simp] theorem State.answer_purlin (s : State) (st : Nat) : (s.answer st).purlin = s.purlin := rfl
@[simp] theorem State.answer_keys (s : State) (st : Nat) : (s.answer st).keys = s.keys := rfl
@[simp] theorem State.answer_dropped (s : State) (st : Nat) : (s.answer st).dropped = s.dropped := rfl
@[simp] theorem State.answer_bays (s : State) (st : Nat) : (s.answer st).bays = s.bays := rfl
@[simp] theorem State.answer_chans (s : State) (st : Nat) : (s.answer st).chans = s.chans := rfl
@[simp] theorem State.answer_dies (s : State) (st : Nat) : (s.answer st).dies = s.dies := rfl
@[simp] theorem State.answer_ports (s : State) (st : Nat) : (s.answer st).ports = s.ports := rfl
@[simp] theorem State.answer_portLost (s : State) (st : Nat) : (s.answer st).portLost = s.portLost := rfl
@[simp] theorem State.answer_fatal (s : State) (st : Nat) : (s.answer st).fatal = s.fatal := rfl
@[simp] theorem State.answer_log (s : State) (st : Nat) : (s.answer st).log = s.log := rfl
@[simp] theorem State.answer_timers (s : State) (st : Nat) : (s.answer st).timers = s.timers := rfl
@[simp] theorem State.answer_tokens (s : State) (st : Nat) : (s.answer st).tokens = s.tokens := rfl
@[simp] theorem State.answer_injSlots (s : State) (st : Nat) : (s.answer st).injSlots = s.injSlots := rfl
@[simp] theorem State.answer_injNext (s : State) (st : Nat) : (s.answer st).injNext = s.injNext := rfl
@[simp] theorem State.answer_events (s : State) (st : Nat) : (s.answer st).events = s.events := rfl
@[simp] theorem State.answer_shadows (s : State) (st : Nat) : (s.answer st).shadows = s.shadows := rfl
@[simp] theorem State.answer_commit (s : State) (st : Nat) : (s.answer st).commit = s.commit := rfl
@[simp] theorem State.answer_counterOn (s : State) (st : Nat) : (s.answer st).counterOn = s.counterOn := rfl
@[simp] theorem State.answer_holdupOk (s : State) (st : Nat) : (s.answer st).holdupOk = s.holdupOk := rfl
@[simp] theorem State.answer_copies (s : State) (st : Nat) : (s.answer st).copies = s.copies := rfl
@[simp] theorem State.answer_benches (s : State) (st : Nat) : (s.answer st).benches = s.benches := rfl
@[simp] theorem State.answer_store (s : State) (st : Nat) : (s.answer st).store = s.store := rfl
@[simp] theorem State.answer_waiting (s : State) (st : Nat) : (s.answer st).waiting = s.waiting := rfl
@[simp] theorem State.answer_blocked (s : State) (st : Nat) : (s.answer st).blocked = s.blocked := rfl
@[simp] theorem State.answer_delays (s : State) (st : Nat) : (s.answer st).delays = s.delays := rfl
@[simp] theorem State.answer_hostPosts (s : State) (st : Nat) : (s.answer st).hostPosts = s.hostPosts := rfl
@[simp] theorem State.answer_postEnds (s : State) (st : Nat) : (s.answer st).postEnds = s.postEnds := rfl
@[simp] theorem State.answer_binds (s : State) (st : Nat) : (s.answer st).binds = s.binds := rfl
@[simp] theorem State.answer_bufs (s : State) (st : Nat) : (s.answer st).bufs = s.bufs := rfl
@[simp] theorem State.answer_inst (s : State) (st : Nat) : (s.answer st).inst = s.inst := rfl
@[simp] theorem State.answer_lastCore (s : State) (st : Nat) : (s.answer st).lastCore = s.lastCore := rfl
@[simp] theorem State.answer_drains (s : State) (st : Nat) : (s.answer st).drains = s.drains := rfl
@[simp] theorem State.answer_dmaPosts (s : State) (st : Nat) : (s.answer st).dmaPosts = s.dmaPosts := rfl
@[simp] theorem State.answer_lastFired (s : State) (st : Nat) : (s.answer st).lastFired = s.lastFired := rfl
@[simp] theorem State.answer_fireNo (s : State) (st : Nat) : (s.answer st).fireNo = s.fireNo := rfl
@[simp] theorem State.answer_delayNo (s : State) (st : Nat) : (s.answer st).delayNo = s.delayNo := rfl
@[simp] theorem State.answer_oldTick (s : State) (st : Nat) : (s.answer st).oldTick = s.oldTick := rfl
@[simp] theorem State.answer_ceSince (s : State) (st : Nat) : (s.answer st).ceSince = s.ceSince := rfl
@[simp] theorem State.answer_recovery (s : State) (st : Nat) : (s.answer st).recovery = s.recovery := rfl
@[simp] theorem State.answer_catchAt (s : State) (st : Nat) : (s.answer st).catchAt = s.catchAt := rfl
@[simp] theorem State.answer_scrubbed (s : State) (st : Nat) : (s.answer st).scrubbed = s.scrubbed := rfl
@[simp] theorem State.answer_hbmQ (s : State) (st : Nat) : (s.answer st).hbmQ = s.hbmQ := rfl
@[simp] theorem State.answer_coreOut (s : State) (st : Nat) : (s.answer st).coreOut = s.coreOut := rfl
@[simp] theorem State.answer_lanes (s : State) (st : Nat) : (s.answer st).lanes = s.lanes := rfl
@[simp] theorem State.answer_links (s : State) (st : Nat) : (s.answer st).links = s.links := rfl
@[simp] theorem State.answer_streams (s : State) (st : Nat) : (s.answer st).streams = s.streams := rfl
@[simp] theorem State.answer_dmas (s : State) (st : Nat) : (s.answer st).dmas = s.dmas := rfl
@[simp] theorem State.answer_dmaLast (s : State) (st : Nat) : (s.answer st).dmaLast = s.dmaLast := rfl
@[simp] theorem State.answer_dataPorts (s : State) (st : Nat) : (s.answer st).dataPorts = s.dataPorts := rfl
@[simp] theorem State.answer_tmPort (s : State) (st : Nat) : (s.answer st).tmPort = s.tmPort := rfl
@[simp] theorem State.answer_nets (s : State) (st : Nat) : (s.answer st).nets = s.nets := rfl
@[simp] theorem State.answer_syncOk (s : State) (st : Nat) : (s.answer st).syncOk = s.syncOk := rfl
@[simp] theorem State.answer_tpgs (s : State) (st : Nat) : (s.answer st).tpgs = s.tpgs := rfl
@[simp] theorem State.answer_trigOut (s : State) (st : Nat) : (s.answer st).trigOut = s.trigOut := rfl
@[simp] theorem State.answer_sessions (s : State) (st : Nat) : (s.answer st).sessions = s.sessions := rfl
@[simp] theorem State.answer_mgmtLast (s : State) (st : Nat) : (s.answer st).mgmtLast = s.mgmtLast := rfl
@[simp] theorem State.answer_tmTest (s : State) (st : Nat) : (s.answer st).tmTest = s.tmTest := rfl
@[simp] theorem State.answer_nonces (s : State) (st : Nat) : (s.answer st).nonces = s.nonces := rfl
@[simp] theorem State.answer_tmKey (s : State) (st : Nat) : (s.answer st).tmKey = s.tmKey := rfl
@[simp] theorem State.answer_tmFirst (s : State) (st : Nat) : (s.answer st).tmFirst = s.tmFirst := rfl
@[simp] theorem State.answer_tmRetry (s : State) (st : Nat) : (s.answer st).tmRetry = s.tmRetry := rfl
@[simp] theorem State.answer_groupKey (s : State) (st : Nat) : (s.answer st).groupKey = s.groupKey := rfl
@[simp] theorem State.answer_fwSlots (s : State) (st : Nat) : (s.answer st).fwSlots = s.fwSlots := rfl
@[simp] theorem State.answer_fwLoad (s : State) (st : Nat) : (s.answer st).fwLoad = s.fwLoad := rfl
@[simp] theorem State.answer_fwRollback (s : State) (st : Nat) : (s.answer st).fwRollback = s.fwRollback := rfl
@[simp] theorem State.answer_keeperAt (s : State) (st : Nat) : (s.answer st).keeperAt = s.keeperAt := rfl
@[simp] theorem State.answer_keeperOff (s : State) (st : Nat) : (s.answer st).keeperOff = s.keeperOff := rfl
@[simp] theorem State.answer_aliveHigh (s : State) (st : Nat) : (s.answer st).aliveHigh = s.aliveHigh := rfl
@[simp] theorem State.answer_aliveFreq (s : State) (st : Nat) : (s.answer st).aliveFreq = s.aliveFreq := rfl
@[simp] theorem State.answer_aliveAt (s : State) (st : Nat) : (s.answer st).aliveAt = s.aliveAt := rfl
@[simp] theorem State.answer_watchdog (s : State) (st : Nat) : (s.answer st).watchdog = s.watchdog := rfl
@[simp] theorem State.answer_wdArmed (s : State) (st : Nat) : (s.answer st).wdArmed = s.wdArmed := rfl
@[simp] theorem State.answer_keeperRef (s : State) (st : Nat) : (s.answer st).keeperRef = s.keeperRef := rfl
@[simp] theorem State.answer_ledger (s : State) (st : Nat) : (s.answer st).ledger = s.ledger := rfl
@[simp] theorem State.answer_ledgerOld (s : State) (st : Nat) : (s.answer st).ledgerOld = s.ledgerOld := rfl
@[simp] theorem State.answer_ledgerDoms (s : State) (st : Nat) : (s.answer st).ledgerDoms = s.ledgerDoms := rfl
@[simp] theorem State.answer_ledgerCorr (s : State) (st : Nat) : (s.answer st).ledgerCorr = s.ledgerCorr := rfl
@[simp] theorem State.answer_vauxAt (s : State) (st : Nat) : (s.answer st).vauxAt = s.vauxAt := rfl
@[simp] theorem State.answer_tap (s : State) (st : Nat) : (s.answer st).tap = s.tap := rfl
@[simp] theorem State.answer_ledgerQ (s : State) (st : Nat) : (s.answer st).ledgerQ = s.ledgerQ := rfl
@[simp] theorem State.answer_ledgerHeld (s : State) (st : Nat) : (s.answer st).ledgerHeld = s.ledgerHeld := rfl
@[simp] theorem State.answer_ledgerDue (s : State) (st : Nat) : (s.answer st).ledgerDue = s.ledgerDue := rfl
@[simp] theorem State.answer_assayed (s : State) (st : Nat) : (s.answer st).assayed = s.assayed := rfl
@[simp] theorem State.answer_temps (s : State) (st : Nat) : (s.answer st).temps = s.temps := rfl
@[simp] theorem State.answer_beat (s : State) (st : Nat) : (s.answer st).beat = s.beat := rfl
@[simp] theorem State.answer_archived (s : State) (st : Nat) : (s.answer st).archived = s.archived := rfl
@[simp] theorem State.answer_archRetry (s : State) (st : Nat) : (s.answer st).archRetry = s.archRetry := rfl
@[simp] theorem State.answer_resetDue (s : State) (st : Nat) : (s.answer st).resetDue = s.resetDue := rfl
@[simp] theorem State.answer_startRef (s : State) (st : Nat) : (s.answer st).startRef = s.startRef := rfl
@[simp] theorem State.answer_checking (s : State) (st : Nat) : (s.answer st).checking = s.checking := rfl
@[simp] theorem State.answer_checkDue (s : State) (st : Nat) : (s.answer st).checkDue = s.checkDue := rfl
@[simp] theorem State.answer_recheck (s : State) (st : Nat) : (s.answer st).recheck = s.recheck := rfl
@[simp] theorem State.answer_switchTo (s : State) (st : Nat) : (s.answer st).switchTo = s.switchTo := rfl

/-! #### Fields after answerD -/

@[simp] theorem State.answerD_now (s : State) (st d : Nat) : (s.answerD st d).now = s.now := rfl
@[simp] theorem State.answerD_fresh (s : State) (st d : Nat) : (s.answerD st d).fresh = s.fresh := rfl
@[simp] theorem State.answerD_pending (s : State) (st d : Nat) : (s.answerD st d).pending = s.pending := rfl
@[simp] theorem State.answerD_objs (s : State) (st d : Nat) : (s.answerD st d).objs = s.objs := rfl
@[simp] theorem State.answerD_doms (s : State) (st d : Nat) : (s.answerD st d).doms = s.doms := rfl
@[simp] theorem State.answerD_shingles (s : State) (st d : Nat) : (s.answerD st d).shingles = s.shingles := rfl
@[simp] theorem State.answerD_bank (s : State) (st d : Nat) : (s.answerD st d).bank = s.bank := rfl
@[simp] theorem State.answerD_tsets (s : State) (st d : Nat) : (s.answerD st d).tsets = s.tsets := rfl
@[simp] theorem State.answerD_mem (s : State) (st d : Nat) : (s.answerD st d).mem = s.mem := rfl
@[simp] theorem State.answerD_tags (s : State) (st d : Nat) : (s.answerD st d).tags = s.tags := rfl
@[simp] theorem State.answerD_claims (s : State) (st d : Nat) : (s.answerD st d).claims = s.claims := rfl
@[simp] theorem State.answerD_ridge (s : State) (st d : Nat) : (s.answerD st d).ridge = s.ridge := rfl
@[simp] theorem State.answerD_ridgeDrv (s : State) (st d : Nat) : (s.answerD st d).ridgeDrv = s.ridgeDrv := rfl
@[simp] theorem State.answerD_ridgeWay (s : State) (st d : Nat) : (s.answerD st d).ridgeWay = s.ridgeWay := rfl
@[simp] theorem State.answerD_purlin (s : State) (st d : Nat) : (s.answerD st d).purlin = s.purlin := rfl
@[simp] theorem State.answerD_keys (s : State) (st d : Nat) : (s.answerD st d).keys = s.keys := rfl
@[simp] theorem State.answerD_dropped (s : State) (st d : Nat) : (s.answerD st d).dropped = s.dropped := rfl
@[simp] theorem State.answerD_bays (s : State) (st d : Nat) : (s.answerD st d).bays = s.bays := rfl
@[simp] theorem State.answerD_chans (s : State) (st d : Nat) : (s.answerD st d).chans = s.chans := rfl
@[simp] theorem State.answerD_dies (s : State) (st d : Nat) : (s.answerD st d).dies = s.dies := rfl
@[simp] theorem State.answerD_ports (s : State) (st d : Nat) : (s.answerD st d).ports = s.ports := rfl
@[simp] theorem State.answerD_portLost (s : State) (st d : Nat) : (s.answerD st d).portLost = s.portLost := rfl
@[simp] theorem State.answerD_fatal (s : State) (st d : Nat) : (s.answerD st d).fatal = s.fatal := rfl
@[simp] theorem State.answerD_log (s : State) (st d : Nat) : (s.answerD st d).log = s.log := rfl
@[simp] theorem State.answerD_timers (s : State) (st d : Nat) : (s.answerD st d).timers = s.timers := rfl
@[simp] theorem State.answerD_tokens (s : State) (st d : Nat) : (s.answerD st d).tokens = s.tokens := rfl
@[simp] theorem State.answerD_injSlots (s : State) (st d : Nat) : (s.answerD st d).injSlots = s.injSlots := rfl
@[simp] theorem State.answerD_injNext (s : State) (st d : Nat) : (s.answerD st d).injNext = s.injNext := rfl
@[simp] theorem State.answerD_events (s : State) (st d : Nat) : (s.answerD st d).events = s.events := rfl
@[simp] theorem State.answerD_shadows (s : State) (st d : Nat) : (s.answerD st d).shadows = s.shadows := rfl
@[simp] theorem State.answerD_commit (s : State) (st d : Nat) : (s.answerD st d).commit = s.commit := rfl
@[simp] theorem State.answerD_counterOn (s : State) (st d : Nat) : (s.answerD st d).counterOn = s.counterOn := rfl
@[simp] theorem State.answerD_holdupOk (s : State) (st d : Nat) : (s.answerD st d).holdupOk = s.holdupOk := rfl
@[simp] theorem State.answerD_copies (s : State) (st d : Nat) : (s.answerD st d).copies = s.copies := rfl
@[simp] theorem State.answerD_benches (s : State) (st d : Nat) : (s.answerD st d).benches = s.benches := rfl
@[simp] theorem State.answerD_store (s : State) (st d : Nat) : (s.answerD st d).store = s.store := rfl
@[simp] theorem State.answerD_waiting (s : State) (st d : Nat) : (s.answerD st d).waiting = s.waiting := rfl
@[simp] theorem State.answerD_blocked (s : State) (st d : Nat) : (s.answerD st d).blocked = s.blocked := rfl
@[simp] theorem State.answerD_delays (s : State) (st d : Nat) : (s.answerD st d).delays = s.delays := rfl
@[simp] theorem State.answerD_hostPosts (s : State) (st d : Nat) : (s.answerD st d).hostPosts = s.hostPosts := rfl
@[simp] theorem State.answerD_postEnds (s : State) (st d : Nat) : (s.answerD st d).postEnds = s.postEnds := rfl
@[simp] theorem State.answerD_binds (s : State) (st d : Nat) : (s.answerD st d).binds = s.binds := rfl
@[simp] theorem State.answerD_bufs (s : State) (st d : Nat) : (s.answerD st d).bufs = s.bufs := rfl
@[simp] theorem State.answerD_inst (s : State) (st d : Nat) : (s.answerD st d).inst = s.inst := rfl
@[simp] theorem State.answerD_lastCore (s : State) (st d : Nat) : (s.answerD st d).lastCore = s.lastCore := rfl
@[simp] theorem State.answerD_drains (s : State) (st d : Nat) : (s.answerD st d).drains = s.drains := rfl
@[simp] theorem State.answerD_dmaPosts (s : State) (st d : Nat) : (s.answerD st d).dmaPosts = s.dmaPosts := rfl
@[simp] theorem State.answerD_lastFired (s : State) (st d : Nat) : (s.answerD st d).lastFired = s.lastFired := rfl
@[simp] theorem State.answerD_fireNo (s : State) (st d : Nat) : (s.answerD st d).fireNo = s.fireNo := rfl
@[simp] theorem State.answerD_delayNo (s : State) (st d : Nat) : (s.answerD st d).delayNo = s.delayNo := rfl
@[simp] theorem State.answerD_oldTick (s : State) (st d : Nat) : (s.answerD st d).oldTick = s.oldTick := rfl
@[simp] theorem State.answerD_ceSince (s : State) (st d : Nat) : (s.answerD st d).ceSince = s.ceSince := rfl
@[simp] theorem State.answerD_recovery (s : State) (st d : Nat) : (s.answerD st d).recovery = s.recovery := rfl
@[simp] theorem State.answerD_catchAt (s : State) (st d : Nat) : (s.answerD st d).catchAt = s.catchAt := rfl
@[simp] theorem State.answerD_scrubbed (s : State) (st d : Nat) : (s.answerD st d).scrubbed = s.scrubbed := rfl
@[simp] theorem State.answerD_hbmQ (s : State) (st d : Nat) : (s.answerD st d).hbmQ = s.hbmQ := rfl
@[simp] theorem State.answerD_coreOut (s : State) (st d : Nat) : (s.answerD st d).coreOut = s.coreOut := rfl
@[simp] theorem State.answerD_lanes (s : State) (st d : Nat) : (s.answerD st d).lanes = s.lanes := rfl
@[simp] theorem State.answerD_links (s : State) (st d : Nat) : (s.answerD st d).links = s.links := rfl
@[simp] theorem State.answerD_streams (s : State) (st d : Nat) : (s.answerD st d).streams = s.streams := rfl
@[simp] theorem State.answerD_dmas (s : State) (st d : Nat) : (s.answerD st d).dmas = s.dmas := rfl
@[simp] theorem State.answerD_dmaLast (s : State) (st d : Nat) : (s.answerD st d).dmaLast = s.dmaLast := rfl
@[simp] theorem State.answerD_dataPorts (s : State) (st d : Nat) : (s.answerD st d).dataPorts = s.dataPorts := rfl
@[simp] theorem State.answerD_tmPort (s : State) (st d : Nat) : (s.answerD st d).tmPort = s.tmPort := rfl
@[simp] theorem State.answerD_nets (s : State) (st d : Nat) : (s.answerD st d).nets = s.nets := rfl
@[simp] theorem State.answerD_syncOk (s : State) (st d : Nat) : (s.answerD st d).syncOk = s.syncOk := rfl
@[simp] theorem State.answerD_tpgs (s : State) (st d : Nat) : (s.answerD st d).tpgs = s.tpgs := rfl
@[simp] theorem State.answerD_trigOut (s : State) (st d : Nat) : (s.answerD st d).trigOut = s.trigOut := rfl
@[simp] theorem State.answerD_sessions (s : State) (st d : Nat) : (s.answerD st d).sessions = s.sessions := rfl
@[simp] theorem State.answerD_mgmtLast (s : State) (st d : Nat) : (s.answerD st d).mgmtLast = s.mgmtLast := rfl
@[simp] theorem State.answerD_tmTest (s : State) (st d : Nat) : (s.answerD st d).tmTest = s.tmTest := rfl
@[simp] theorem State.answerD_nonces (s : State) (st d : Nat) : (s.answerD st d).nonces = s.nonces := rfl
@[simp] theorem State.answerD_tmKey (s : State) (st d : Nat) : (s.answerD st d).tmKey = s.tmKey := rfl
@[simp] theorem State.answerD_tmFirst (s : State) (st d : Nat) : (s.answerD st d).tmFirst = s.tmFirst := rfl
@[simp] theorem State.answerD_tmRetry (s : State) (st d : Nat) : (s.answerD st d).tmRetry = s.tmRetry := rfl
@[simp] theorem State.answerD_groupKey (s : State) (st d : Nat) : (s.answerD st d).groupKey = s.groupKey := rfl
@[simp] theorem State.answerD_fwSlots (s : State) (st d : Nat) : (s.answerD st d).fwSlots = s.fwSlots := rfl
@[simp] theorem State.answerD_fwLoad (s : State) (st d : Nat) : (s.answerD st d).fwLoad = s.fwLoad := rfl
@[simp] theorem State.answerD_fwRollback (s : State) (st d : Nat) : (s.answerD st d).fwRollback = s.fwRollback := rfl
@[simp] theorem State.answerD_keeperAt (s : State) (st d : Nat) : (s.answerD st d).keeperAt = s.keeperAt := rfl
@[simp] theorem State.answerD_keeperOff (s : State) (st d : Nat) : (s.answerD st d).keeperOff = s.keeperOff := rfl
@[simp] theorem State.answerD_aliveHigh (s : State) (st d : Nat) : (s.answerD st d).aliveHigh = s.aliveHigh := rfl
@[simp] theorem State.answerD_aliveFreq (s : State) (st d : Nat) : (s.answerD st d).aliveFreq = s.aliveFreq := rfl
@[simp] theorem State.answerD_aliveAt (s : State) (st d : Nat) : (s.answerD st d).aliveAt = s.aliveAt := rfl
@[simp] theorem State.answerD_watchdog (s : State) (st d : Nat) : (s.answerD st d).watchdog = s.watchdog := rfl
@[simp] theorem State.answerD_wdArmed (s : State) (st d : Nat) : (s.answerD st d).wdArmed = s.wdArmed := rfl
@[simp] theorem State.answerD_keeperRef (s : State) (st d : Nat) : (s.answerD st d).keeperRef = s.keeperRef := rfl
@[simp] theorem State.answerD_ledger (s : State) (st d : Nat) : (s.answerD st d).ledger = s.ledger := rfl
@[simp] theorem State.answerD_ledgerOld (s : State) (st d : Nat) : (s.answerD st d).ledgerOld = s.ledgerOld := rfl
@[simp] theorem State.answerD_ledgerDoms (s : State) (st d : Nat) : (s.answerD st d).ledgerDoms = s.ledgerDoms := rfl
@[simp] theorem State.answerD_ledgerCorr (s : State) (st d : Nat) : (s.answerD st d).ledgerCorr = s.ledgerCorr := rfl
@[simp] theorem State.answerD_vauxAt (s : State) (st d : Nat) : (s.answerD st d).vauxAt = s.vauxAt := rfl
@[simp] theorem State.answerD_tap (s : State) (st d : Nat) : (s.answerD st d).tap = s.tap := rfl
@[simp] theorem State.answerD_ledgerQ (s : State) (st d : Nat) : (s.answerD st d).ledgerQ = s.ledgerQ := rfl
@[simp] theorem State.answerD_ledgerHeld (s : State) (st d : Nat) : (s.answerD st d).ledgerHeld = s.ledgerHeld := rfl
@[simp] theorem State.answerD_ledgerDue (s : State) (st d : Nat) : (s.answerD st d).ledgerDue = s.ledgerDue := rfl
@[simp] theorem State.answerD_assayed (s : State) (st d : Nat) : (s.answerD st d).assayed = s.assayed := rfl
@[simp] theorem State.answerD_temps (s : State) (st d : Nat) : (s.answerD st d).temps = s.temps := rfl
@[simp] theorem State.answerD_beat (s : State) (st d : Nat) : (s.answerD st d).beat = s.beat := rfl
@[simp] theorem State.answerD_archived (s : State) (st d : Nat) : (s.answerD st d).archived = s.archived := rfl
@[simp] theorem State.answerD_archRetry (s : State) (st d : Nat) : (s.answerD st d).archRetry = s.archRetry := rfl
@[simp] theorem State.answerD_resetDue (s : State) (st d : Nat) : (s.answerD st d).resetDue = s.resetDue := rfl
@[simp] theorem State.answerD_startRef (s : State) (st d : Nat) : (s.answerD st d).startRef = s.startRef := rfl
@[simp] theorem State.answerD_checking (s : State) (st d : Nat) : (s.answerD st d).checking = s.checking := rfl
@[simp] theorem State.answerD_checkDue (s : State) (st d : Nat) : (s.answerD st d).checkDue = s.checkDue := rfl
@[simp] theorem State.answerD_recheck (s : State) (st d : Nat) : (s.answerD st d).recheck = s.recheck := rfl
@[simp] theorem State.answerD_switchTo (s : State) (st d : Nat) : (s.answerD st d).switchTo = s.switchTo := rfl

/-! #### Fields after answerBody -/

@[simp] theorem State.answerBody_now (s : State) (l : Bytes) : (s.answerBody l).now = s.now := rfl
@[simp] theorem State.answerBody_fresh (s : State) (l : Bytes) : (s.answerBody l).fresh = s.fresh := rfl
@[simp] theorem State.answerBody_pending (s : State) (l : Bytes) : (s.answerBody l).pending = s.pending := rfl
@[simp] theorem State.answerBody_objs (s : State) (l : Bytes) : (s.answerBody l).objs = s.objs := rfl
@[simp] theorem State.answerBody_doms (s : State) (l : Bytes) : (s.answerBody l).doms = s.doms := rfl
@[simp] theorem State.answerBody_shingles (s : State) (l : Bytes) : (s.answerBody l).shingles = s.shingles := rfl
@[simp] theorem State.answerBody_bank (s : State) (l : Bytes) : (s.answerBody l).bank = s.bank := rfl
@[simp] theorem State.answerBody_tsets (s : State) (l : Bytes) : (s.answerBody l).tsets = s.tsets := rfl
@[simp] theorem State.answerBody_mem (s : State) (l : Bytes) : (s.answerBody l).mem = s.mem := rfl
@[simp] theorem State.answerBody_tags (s : State) (l : Bytes) : (s.answerBody l).tags = s.tags := rfl
@[simp] theorem State.answerBody_claims (s : State) (l : Bytes) : (s.answerBody l).claims = s.claims := rfl
@[simp] theorem State.answerBody_ridge (s : State) (l : Bytes) : (s.answerBody l).ridge = s.ridge := rfl
@[simp] theorem State.answerBody_ridgeDrv (s : State) (l : Bytes) : (s.answerBody l).ridgeDrv = s.ridgeDrv := rfl
@[simp] theorem State.answerBody_ridgeWay (s : State) (l : Bytes) : (s.answerBody l).ridgeWay = s.ridgeWay := rfl
@[simp] theorem State.answerBody_purlin (s : State) (l : Bytes) : (s.answerBody l).purlin = s.purlin := rfl
@[simp] theorem State.answerBody_keys (s : State) (l : Bytes) : (s.answerBody l).keys = s.keys := rfl
@[simp] theorem State.answerBody_dropped (s : State) (l : Bytes) : (s.answerBody l).dropped = s.dropped := rfl
@[simp] theorem State.answerBody_bays (s : State) (l : Bytes) : (s.answerBody l).bays = s.bays := rfl
@[simp] theorem State.answerBody_chans (s : State) (l : Bytes) : (s.answerBody l).chans = s.chans := rfl
@[simp] theorem State.answerBody_dies (s : State) (l : Bytes) : (s.answerBody l).dies = s.dies := rfl
@[simp] theorem State.answerBody_ports (s : State) (l : Bytes) : (s.answerBody l).ports = s.ports := rfl
@[simp] theorem State.answerBody_portLost (s : State) (l : Bytes) : (s.answerBody l).portLost = s.portLost := rfl
@[simp] theorem State.answerBody_fatal (s : State) (l : Bytes) : (s.answerBody l).fatal = s.fatal := rfl
@[simp] theorem State.answerBody_log (s : State) (l : Bytes) : (s.answerBody l).log = s.log := rfl
@[simp] theorem State.answerBody_timers (s : State) (l : Bytes) : (s.answerBody l).timers = s.timers := rfl
@[simp] theorem State.answerBody_tokens (s : State) (l : Bytes) : (s.answerBody l).tokens = s.tokens := rfl
@[simp] theorem State.answerBody_injSlots (s : State) (l : Bytes) : (s.answerBody l).injSlots = s.injSlots := rfl
@[simp] theorem State.answerBody_injNext (s : State) (l : Bytes) : (s.answerBody l).injNext = s.injNext := rfl
@[simp] theorem State.answerBody_events (s : State) (l : Bytes) : (s.answerBody l).events = s.events := rfl
@[simp] theorem State.answerBody_shadows (s : State) (l : Bytes) : (s.answerBody l).shadows = s.shadows := rfl
@[simp] theorem State.answerBody_commit (s : State) (l : Bytes) : (s.answerBody l).commit = s.commit := rfl
@[simp] theorem State.answerBody_counterOn (s : State) (l : Bytes) : (s.answerBody l).counterOn = s.counterOn := rfl
@[simp] theorem State.answerBody_holdupOk (s : State) (l : Bytes) : (s.answerBody l).holdupOk = s.holdupOk := rfl
@[simp] theorem State.answerBody_copies (s : State) (l : Bytes) : (s.answerBody l).copies = s.copies := rfl
@[simp] theorem State.answerBody_benches (s : State) (l : Bytes) : (s.answerBody l).benches = s.benches := rfl
@[simp] theorem State.answerBody_store (s : State) (l : Bytes) : (s.answerBody l).store = s.store := rfl
@[simp] theorem State.answerBody_waiting (s : State) (l : Bytes) : (s.answerBody l).waiting = s.waiting := rfl
@[simp] theorem State.answerBody_blocked (s : State) (l : Bytes) : (s.answerBody l).blocked = s.blocked := rfl
@[simp] theorem State.answerBody_delays (s : State) (l : Bytes) : (s.answerBody l).delays = s.delays := rfl
@[simp] theorem State.answerBody_hostPosts (s : State) (l : Bytes) : (s.answerBody l).hostPosts = s.hostPosts := rfl
@[simp] theorem State.answerBody_postEnds (s : State) (l : Bytes) : (s.answerBody l).postEnds = s.postEnds := rfl
@[simp] theorem State.answerBody_binds (s : State) (l : Bytes) : (s.answerBody l).binds = s.binds := rfl
@[simp] theorem State.answerBody_bufs (s : State) (l : Bytes) : (s.answerBody l).bufs = s.bufs := rfl
@[simp] theorem State.answerBody_inst (s : State) (l : Bytes) : (s.answerBody l).inst = s.inst := rfl
@[simp] theorem State.answerBody_lastCore (s : State) (l : Bytes) : (s.answerBody l).lastCore = s.lastCore := rfl
@[simp] theorem State.answerBody_drains (s : State) (l : Bytes) : (s.answerBody l).drains = s.drains := rfl
@[simp] theorem State.answerBody_dmaPosts (s : State) (l : Bytes) : (s.answerBody l).dmaPosts = s.dmaPosts := rfl
@[simp] theorem State.answerBody_lastFired (s : State) (l : Bytes) : (s.answerBody l).lastFired = s.lastFired := rfl
@[simp] theorem State.answerBody_fireNo (s : State) (l : Bytes) : (s.answerBody l).fireNo = s.fireNo := rfl
@[simp] theorem State.answerBody_delayNo (s : State) (l : Bytes) : (s.answerBody l).delayNo = s.delayNo := rfl
@[simp] theorem State.answerBody_oldTick (s : State) (l : Bytes) : (s.answerBody l).oldTick = s.oldTick := rfl
@[simp] theorem State.answerBody_ceSince (s : State) (l : Bytes) : (s.answerBody l).ceSince = s.ceSince := rfl
@[simp] theorem State.answerBody_recovery (s : State) (l : Bytes) : (s.answerBody l).recovery = s.recovery := rfl
@[simp] theorem State.answerBody_catchAt (s : State) (l : Bytes) : (s.answerBody l).catchAt = s.catchAt := rfl
@[simp] theorem State.answerBody_scrubbed (s : State) (l : Bytes) : (s.answerBody l).scrubbed = s.scrubbed := rfl
@[simp] theorem State.answerBody_hbmQ (s : State) (l : Bytes) : (s.answerBody l).hbmQ = s.hbmQ := rfl
@[simp] theorem State.answerBody_coreOut (s : State) (l : Bytes) : (s.answerBody l).coreOut = s.coreOut := rfl
@[simp] theorem State.answerBody_lanes (s : State) (l : Bytes) : (s.answerBody l).lanes = s.lanes := rfl
@[simp] theorem State.answerBody_links (s : State) (l : Bytes) : (s.answerBody l).links = s.links := rfl
@[simp] theorem State.answerBody_streams (s : State) (l : Bytes) : (s.answerBody l).streams = s.streams := rfl
@[simp] theorem State.answerBody_dmas (s : State) (l : Bytes) : (s.answerBody l).dmas = s.dmas := rfl
@[simp] theorem State.answerBody_dmaLast (s : State) (l : Bytes) : (s.answerBody l).dmaLast = s.dmaLast := rfl
@[simp] theorem State.answerBody_dataPorts (s : State) (l : Bytes) : (s.answerBody l).dataPorts = s.dataPorts := rfl
@[simp] theorem State.answerBody_tmPort (s : State) (l : Bytes) : (s.answerBody l).tmPort = s.tmPort := rfl
@[simp] theorem State.answerBody_nets (s : State) (l : Bytes) : (s.answerBody l).nets = s.nets := rfl
@[simp] theorem State.answerBody_syncOk (s : State) (l : Bytes) : (s.answerBody l).syncOk = s.syncOk := rfl
@[simp] theorem State.answerBody_tpgs (s : State) (l : Bytes) : (s.answerBody l).tpgs = s.tpgs := rfl
@[simp] theorem State.answerBody_trigOut (s : State) (l : Bytes) : (s.answerBody l).trigOut = s.trigOut := rfl
@[simp] theorem State.answerBody_sessions (s : State) (l : Bytes) : (s.answerBody l).sessions = s.sessions := rfl
@[simp] theorem State.answerBody_mgmtLast (s : State) (l : Bytes) : (s.answerBody l).mgmtLast = s.mgmtLast := rfl
@[simp] theorem State.answerBody_tmTest (s : State) (l : Bytes) : (s.answerBody l).tmTest = s.tmTest := rfl
@[simp] theorem State.answerBody_nonces (s : State) (l : Bytes) : (s.answerBody l).nonces = s.nonces := rfl
@[simp] theorem State.answerBody_tmKey (s : State) (l : Bytes) : (s.answerBody l).tmKey = s.tmKey := rfl
@[simp] theorem State.answerBody_tmFirst (s : State) (l : Bytes) : (s.answerBody l).tmFirst = s.tmFirst := rfl
@[simp] theorem State.answerBody_tmRetry (s : State) (l : Bytes) : (s.answerBody l).tmRetry = s.tmRetry := rfl
@[simp] theorem State.answerBody_groupKey (s : State) (l : Bytes) : (s.answerBody l).groupKey = s.groupKey := rfl
@[simp] theorem State.answerBody_fwSlots (s : State) (l : Bytes) : (s.answerBody l).fwSlots = s.fwSlots := rfl
@[simp] theorem State.answerBody_fwLoad (s : State) (l : Bytes) : (s.answerBody l).fwLoad = s.fwLoad := rfl
@[simp] theorem State.answerBody_fwRollback (s : State) (l : Bytes) : (s.answerBody l).fwRollback = s.fwRollback := rfl
@[simp] theorem State.answerBody_keeperAt (s : State) (l : Bytes) : (s.answerBody l).keeperAt = s.keeperAt := rfl
@[simp] theorem State.answerBody_keeperOff (s : State) (l : Bytes) : (s.answerBody l).keeperOff = s.keeperOff := rfl
@[simp] theorem State.answerBody_aliveHigh (s : State) (l : Bytes) : (s.answerBody l).aliveHigh = s.aliveHigh := rfl
@[simp] theorem State.answerBody_aliveFreq (s : State) (l : Bytes) : (s.answerBody l).aliveFreq = s.aliveFreq := rfl
@[simp] theorem State.answerBody_aliveAt (s : State) (l : Bytes) : (s.answerBody l).aliveAt = s.aliveAt := rfl
@[simp] theorem State.answerBody_watchdog (s : State) (l : Bytes) : (s.answerBody l).watchdog = s.watchdog := rfl
@[simp] theorem State.answerBody_wdArmed (s : State) (l : Bytes) : (s.answerBody l).wdArmed = s.wdArmed := rfl
@[simp] theorem State.answerBody_keeperRef (s : State) (l : Bytes) : (s.answerBody l).keeperRef = s.keeperRef := rfl
@[simp] theorem State.answerBody_ledger (s : State) (l : Bytes) : (s.answerBody l).ledger = s.ledger := rfl
@[simp] theorem State.answerBody_ledgerOld (s : State) (l : Bytes) : (s.answerBody l).ledgerOld = s.ledgerOld := rfl
@[simp] theorem State.answerBody_ledgerDoms (s : State) (l : Bytes) : (s.answerBody l).ledgerDoms = s.ledgerDoms := rfl
@[simp] theorem State.answerBody_ledgerCorr (s : State) (l : Bytes) : (s.answerBody l).ledgerCorr = s.ledgerCorr := rfl
@[simp] theorem State.answerBody_vauxAt (s : State) (l : Bytes) : (s.answerBody l).vauxAt = s.vauxAt := rfl
@[simp] theorem State.answerBody_tap (s : State) (l : Bytes) : (s.answerBody l).tap = s.tap := rfl
@[simp] theorem State.answerBody_ledgerQ (s : State) (l : Bytes) : (s.answerBody l).ledgerQ = s.ledgerQ := rfl
@[simp] theorem State.answerBody_ledgerHeld (s : State) (l : Bytes) : (s.answerBody l).ledgerHeld = s.ledgerHeld := rfl
@[simp] theorem State.answerBody_ledgerDue (s : State) (l : Bytes) : (s.answerBody l).ledgerDue = s.ledgerDue := rfl
@[simp] theorem State.answerBody_assayed (s : State) (l : Bytes) : (s.answerBody l).assayed = s.assayed := rfl
@[simp] theorem State.answerBody_temps (s : State) (l : Bytes) : (s.answerBody l).temps = s.temps := rfl
@[simp] theorem State.answerBody_beat (s : State) (l : Bytes) : (s.answerBody l).beat = s.beat := rfl
@[simp] theorem State.answerBody_archived (s : State) (l : Bytes) : (s.answerBody l).archived = s.archived := rfl
@[simp] theorem State.answerBody_archRetry (s : State) (l : Bytes) : (s.answerBody l).archRetry = s.archRetry := rfl
@[simp] theorem State.answerBody_resetDue (s : State) (l : Bytes) : (s.answerBody l).resetDue = s.resetDue := rfl
@[simp] theorem State.answerBody_startRef (s : State) (l : Bytes) : (s.answerBody l).startRef = s.startRef := rfl
@[simp] theorem State.answerBody_checking (s : State) (l : Bytes) : (s.answerBody l).checking = s.checking := rfl
@[simp] theorem State.answerBody_checkDue (s : State) (l : Bytes) : (s.answerBody l).checkDue = s.checkDue := rfl
@[simp] theorem State.answerBody_recheck (s : State) (l : Bytes) : (s.answerBody l).recheck = s.recheck := rfl
@[simp] theorem State.answerBody_switchTo (s : State) (l : Bytes) : (s.answerBody l).switchTo = s.switchTo := rfl

/-! #### Fields after modBay -/

@[simp] theorem State.modBay_now (s : State) (b : Bay) (f : BayU → BayU) : (s.modBay b f).now = s.now := rfl
@[simp] theorem State.modBay_fresh (s : State) (b : Bay) (f : BayU → BayU) : (s.modBay b f).fresh = s.fresh := rfl
@[simp] theorem State.modBay_pending (s : State) (b : Bay) (f : BayU → BayU) : (s.modBay b f).pending = s.pending := rfl
@[simp] theorem State.modBay_reply (s : State) (b : Bay) (f : BayU → BayU) : (s.modBay b f).reply = s.reply := rfl
@[simp] theorem State.modBay_objs (s : State) (b : Bay) (f : BayU → BayU) : (s.modBay b f).objs = s.objs := rfl
@[simp] theorem State.modBay_doms (s : State) (b : Bay) (f : BayU → BayU) : (s.modBay b f).doms = s.doms := rfl
@[simp] theorem State.modBay_shingles (s : State) (b : Bay) (f : BayU → BayU) : (s.modBay b f).shingles = s.shingles := rfl
@[simp] theorem State.modBay_bank (s : State) (b : Bay) (f : BayU → BayU) : (s.modBay b f).bank = s.bank := rfl
@[simp] theorem State.modBay_tsets (s : State) (b : Bay) (f : BayU → BayU) : (s.modBay b f).tsets = s.tsets := rfl
@[simp] theorem State.modBay_mem (s : State) (b : Bay) (f : BayU → BayU) : (s.modBay b f).mem = s.mem := rfl
@[simp] theorem State.modBay_tags (s : State) (b : Bay) (f : BayU → BayU) : (s.modBay b f).tags = s.tags := rfl
@[simp] theorem State.modBay_claims (s : State) (b : Bay) (f : BayU → BayU) : (s.modBay b f).claims = s.claims := rfl
@[simp] theorem State.modBay_ridge (s : State) (b : Bay) (f : BayU → BayU) : (s.modBay b f).ridge = s.ridge := rfl
@[simp] theorem State.modBay_ridgeDrv (s : State) (b : Bay) (f : BayU → BayU) : (s.modBay b f).ridgeDrv = s.ridgeDrv := rfl
@[simp] theorem State.modBay_ridgeWay (s : State) (b : Bay) (f : BayU → BayU) : (s.modBay b f).ridgeWay = s.ridgeWay := rfl
@[simp] theorem State.modBay_purlin (s : State) (b : Bay) (f : BayU → BayU) : (s.modBay b f).purlin = s.purlin := rfl
@[simp] theorem State.modBay_keys (s : State) (b : Bay) (f : BayU → BayU) : (s.modBay b f).keys = s.keys := rfl
@[simp] theorem State.modBay_dropped (s : State) (b : Bay) (f : BayU → BayU) : (s.modBay b f).dropped = s.dropped := rfl
@[simp] theorem State.modBay_chans (s : State) (b : Bay) (f : BayU → BayU) : (s.modBay b f).chans = s.chans := rfl
@[simp] theorem State.modBay_dies (s : State) (b : Bay) (f : BayU → BayU) : (s.modBay b f).dies = s.dies := rfl
@[simp] theorem State.modBay_ports (s : State) (b : Bay) (f : BayU → BayU) : (s.modBay b f).ports = s.ports := rfl
@[simp] theorem State.modBay_portLost (s : State) (b : Bay) (f : BayU → BayU) : (s.modBay b f).portLost = s.portLost := rfl
@[simp] theorem State.modBay_fatal (s : State) (b : Bay) (f : BayU → BayU) : (s.modBay b f).fatal = s.fatal := rfl
@[simp] theorem State.modBay_log (s : State) (b : Bay) (f : BayU → BayU) : (s.modBay b f).log = s.log := rfl
@[simp] theorem State.modBay_timers (s : State) (b : Bay) (f : BayU → BayU) : (s.modBay b f).timers = s.timers := rfl
@[simp] theorem State.modBay_tokens (s : State) (b : Bay) (f : BayU → BayU) : (s.modBay b f).tokens = s.tokens := rfl
@[simp] theorem State.modBay_injSlots (s : State) (b : Bay) (f : BayU → BayU) : (s.modBay b f).injSlots = s.injSlots := rfl
@[simp] theorem State.modBay_injNext (s : State) (b : Bay) (f : BayU → BayU) : (s.modBay b f).injNext = s.injNext := rfl
@[simp] theorem State.modBay_events (s : State) (b : Bay) (f : BayU → BayU) : (s.modBay b f).events = s.events := rfl
@[simp] theorem State.modBay_shadows (s : State) (b : Bay) (f : BayU → BayU) : (s.modBay b f).shadows = s.shadows := rfl
@[simp] theorem State.modBay_commit (s : State) (b : Bay) (f : BayU → BayU) : (s.modBay b f).commit = s.commit := rfl
@[simp] theorem State.modBay_counterOn (s : State) (b : Bay) (f : BayU → BayU) : (s.modBay b f).counterOn = s.counterOn := rfl
@[simp] theorem State.modBay_holdupOk (s : State) (b : Bay) (f : BayU → BayU) : (s.modBay b f).holdupOk = s.holdupOk := rfl
@[simp] theorem State.modBay_copies (s : State) (b : Bay) (f : BayU → BayU) : (s.modBay b f).copies = s.copies := rfl
@[simp] theorem State.modBay_benches (s : State) (b : Bay) (f : BayU → BayU) : (s.modBay b f).benches = s.benches := rfl
@[simp] theorem State.modBay_store (s : State) (b : Bay) (f : BayU → BayU) : (s.modBay b f).store = s.store := rfl
@[simp] theorem State.modBay_waiting (s : State) (b : Bay) (f : BayU → BayU) : (s.modBay b f).waiting = s.waiting := rfl
@[simp] theorem State.modBay_blocked (s : State) (b : Bay) (f : BayU → BayU) : (s.modBay b f).blocked = s.blocked := rfl
@[simp] theorem State.modBay_delays (s : State) (b : Bay) (f : BayU → BayU) : (s.modBay b f).delays = s.delays := rfl
@[simp] theorem State.modBay_hostPosts (s : State) (b : Bay) (f : BayU → BayU) : (s.modBay b f).hostPosts = s.hostPosts := rfl
@[simp] theorem State.modBay_postEnds (s : State) (b : Bay) (f : BayU → BayU) : (s.modBay b f).postEnds = s.postEnds := rfl
@[simp] theorem State.modBay_binds (s : State) (b : Bay) (f : BayU → BayU) : (s.modBay b f).binds = s.binds := rfl
@[simp] theorem State.modBay_bufs (s : State) (b : Bay) (f : BayU → BayU) : (s.modBay b f).bufs = s.bufs := rfl
@[simp] theorem State.modBay_inst (s : State) (b : Bay) (f : BayU → BayU) : (s.modBay b f).inst = s.inst := rfl
@[simp] theorem State.modBay_lastCore (s : State) (b : Bay) (f : BayU → BayU) : (s.modBay b f).lastCore = s.lastCore := rfl
@[simp] theorem State.modBay_drains (s : State) (b : Bay) (f : BayU → BayU) : (s.modBay b f).drains = s.drains := rfl
@[simp] theorem State.modBay_dmaPosts (s : State) (b : Bay) (f : BayU → BayU) : (s.modBay b f).dmaPosts = s.dmaPosts := rfl
@[simp] theorem State.modBay_lastFired (s : State) (b : Bay) (f : BayU → BayU) : (s.modBay b f).lastFired = s.lastFired := rfl
@[simp] theorem State.modBay_fireNo (s : State) (b : Bay) (f : BayU → BayU) : (s.modBay b f).fireNo = s.fireNo := rfl
@[simp] theorem State.modBay_delayNo (s : State) (b : Bay) (f : BayU → BayU) : (s.modBay b f).delayNo = s.delayNo := rfl
@[simp] theorem State.modBay_oldTick (s : State) (b : Bay) (f : BayU → BayU) : (s.modBay b f).oldTick = s.oldTick := rfl
@[simp] theorem State.modBay_ceSince (s : State) (b : Bay) (f : BayU → BayU) : (s.modBay b f).ceSince = s.ceSince := rfl
@[simp] theorem State.modBay_recovery (s : State) (b : Bay) (f : BayU → BayU) : (s.modBay b f).recovery = s.recovery := rfl
@[simp] theorem State.modBay_catchAt (s : State) (b : Bay) (f : BayU → BayU) : (s.modBay b f).catchAt = s.catchAt := rfl
@[simp] theorem State.modBay_scrubbed (s : State) (b : Bay) (f : BayU → BayU) : (s.modBay b f).scrubbed = s.scrubbed := rfl
@[simp] theorem State.modBay_hbmQ (s : State) (b : Bay) (f : BayU → BayU) : (s.modBay b f).hbmQ = s.hbmQ := rfl
@[simp] theorem State.modBay_coreOut (s : State) (b : Bay) (f : BayU → BayU) : (s.modBay b f).coreOut = s.coreOut := rfl
@[simp] theorem State.modBay_lanes (s : State) (b : Bay) (f : BayU → BayU) : (s.modBay b f).lanes = s.lanes := rfl
@[simp] theorem State.modBay_links (s : State) (b : Bay) (f : BayU → BayU) : (s.modBay b f).links = s.links := rfl
@[simp] theorem State.modBay_streams (s : State) (b : Bay) (f : BayU → BayU) : (s.modBay b f).streams = s.streams := rfl
@[simp] theorem State.modBay_dmas (s : State) (b : Bay) (f : BayU → BayU) : (s.modBay b f).dmas = s.dmas := rfl
@[simp] theorem State.modBay_dmaLast (s : State) (b : Bay) (f : BayU → BayU) : (s.modBay b f).dmaLast = s.dmaLast := rfl
@[simp] theorem State.modBay_dataPorts (s : State) (b : Bay) (f : BayU → BayU) : (s.modBay b f).dataPorts = s.dataPorts := rfl
@[simp] theorem State.modBay_tmPort (s : State) (b : Bay) (f : BayU → BayU) : (s.modBay b f).tmPort = s.tmPort := rfl
@[simp] theorem State.modBay_nets (s : State) (b : Bay) (f : BayU → BayU) : (s.modBay b f).nets = s.nets := rfl
@[simp] theorem State.modBay_syncOk (s : State) (b : Bay) (f : BayU → BayU) : (s.modBay b f).syncOk = s.syncOk := rfl
@[simp] theorem State.modBay_tpgs (s : State) (b : Bay) (f : BayU → BayU) : (s.modBay b f).tpgs = s.tpgs := rfl
@[simp] theorem State.modBay_trigOut (s : State) (b : Bay) (f : BayU → BayU) : (s.modBay b f).trigOut = s.trigOut := rfl
@[simp] theorem State.modBay_sessions (s : State) (b : Bay) (f : BayU → BayU) : (s.modBay b f).sessions = s.sessions := rfl
@[simp] theorem State.modBay_mgmtLast (s : State) (b : Bay) (f : BayU → BayU) : (s.modBay b f).mgmtLast = s.mgmtLast := rfl
@[simp] theorem State.modBay_tmTest (s : State) (b : Bay) (f : BayU → BayU) : (s.modBay b f).tmTest = s.tmTest := rfl
@[simp] theorem State.modBay_nonces (s : State) (b : Bay) (f : BayU → BayU) : (s.modBay b f).nonces = s.nonces := rfl
@[simp] theorem State.modBay_tmKey (s : State) (b : Bay) (f : BayU → BayU) : (s.modBay b f).tmKey = s.tmKey := rfl
@[simp] theorem State.modBay_tmFirst (s : State) (b : Bay) (f : BayU → BayU) : (s.modBay b f).tmFirst = s.tmFirst := rfl
@[simp] theorem State.modBay_tmRetry (s : State) (b : Bay) (f : BayU → BayU) : (s.modBay b f).tmRetry = s.tmRetry := rfl
@[simp] theorem State.modBay_groupKey (s : State) (b : Bay) (f : BayU → BayU) : (s.modBay b f).groupKey = s.groupKey := rfl
@[simp] theorem State.modBay_fwSlots (s : State) (b : Bay) (f : BayU → BayU) : (s.modBay b f).fwSlots = s.fwSlots := rfl
@[simp] theorem State.modBay_fwLoad (s : State) (b : Bay) (f : BayU → BayU) : (s.modBay b f).fwLoad = s.fwLoad := rfl
@[simp] theorem State.modBay_fwRollback (s : State) (b : Bay) (f : BayU → BayU) : (s.modBay b f).fwRollback = s.fwRollback := rfl
@[simp] theorem State.modBay_keeperAt (s : State) (b : Bay) (f : BayU → BayU) : (s.modBay b f).keeperAt = s.keeperAt := rfl
@[simp] theorem State.modBay_keeperOff (s : State) (b : Bay) (f : BayU → BayU) : (s.modBay b f).keeperOff = s.keeperOff := rfl
@[simp] theorem State.modBay_aliveHigh (s : State) (b : Bay) (f : BayU → BayU) : (s.modBay b f).aliveHigh = s.aliveHigh := rfl
@[simp] theorem State.modBay_aliveFreq (s : State) (b : Bay) (f : BayU → BayU) : (s.modBay b f).aliveFreq = s.aliveFreq := rfl
@[simp] theorem State.modBay_aliveAt (s : State) (b : Bay) (f : BayU → BayU) : (s.modBay b f).aliveAt = s.aliveAt := rfl
@[simp] theorem State.modBay_watchdog (s : State) (b : Bay) (f : BayU → BayU) : (s.modBay b f).watchdog = s.watchdog := rfl
@[simp] theorem State.modBay_wdArmed (s : State) (b : Bay) (f : BayU → BayU) : (s.modBay b f).wdArmed = s.wdArmed := rfl
@[simp] theorem State.modBay_keeperRef (s : State) (b : Bay) (f : BayU → BayU) : (s.modBay b f).keeperRef = s.keeperRef := rfl
@[simp] theorem State.modBay_ledger (s : State) (b : Bay) (f : BayU → BayU) : (s.modBay b f).ledger = s.ledger := rfl
@[simp] theorem State.modBay_ledgerOld (s : State) (b : Bay) (f : BayU → BayU) : (s.modBay b f).ledgerOld = s.ledgerOld := rfl
@[simp] theorem State.modBay_ledgerDoms (s : State) (b : Bay) (f : BayU → BayU) : (s.modBay b f).ledgerDoms = s.ledgerDoms := rfl
@[simp] theorem State.modBay_ledgerCorr (s : State) (b : Bay) (f : BayU → BayU) : (s.modBay b f).ledgerCorr = s.ledgerCorr := rfl
@[simp] theorem State.modBay_vauxAt (s : State) (b : Bay) (f : BayU → BayU) : (s.modBay b f).vauxAt = s.vauxAt := rfl
@[simp] theorem State.modBay_tap (s : State) (b : Bay) (f : BayU → BayU) : (s.modBay b f).tap = s.tap := rfl
@[simp] theorem State.modBay_ledgerQ (s : State) (b : Bay) (f : BayU → BayU) : (s.modBay b f).ledgerQ = s.ledgerQ := rfl
@[simp] theorem State.modBay_ledgerHeld (s : State) (b : Bay) (f : BayU → BayU) : (s.modBay b f).ledgerHeld = s.ledgerHeld := rfl
@[simp] theorem State.modBay_ledgerDue (s : State) (b : Bay) (f : BayU → BayU) : (s.modBay b f).ledgerDue = s.ledgerDue := rfl
@[simp] theorem State.modBay_assayed (s : State) (b : Bay) (f : BayU → BayU) : (s.modBay b f).assayed = s.assayed := rfl
@[simp] theorem State.modBay_temps (s : State) (b : Bay) (f : BayU → BayU) : (s.modBay b f).temps = s.temps := rfl
@[simp] theorem State.modBay_beat (s : State) (b : Bay) (f : BayU → BayU) : (s.modBay b f).beat = s.beat := rfl
@[simp] theorem State.modBay_archived (s : State) (b : Bay) (f : BayU → BayU) : (s.modBay b f).archived = s.archived := rfl
@[simp] theorem State.modBay_archRetry (s : State) (b : Bay) (f : BayU → BayU) : (s.modBay b f).archRetry = s.archRetry := rfl
@[simp] theorem State.modBay_resetDue (s : State) (b : Bay) (f : BayU → BayU) : (s.modBay b f).resetDue = s.resetDue := rfl
@[simp] theorem State.modBay_startRef (s : State) (b : Bay) (f : BayU → BayU) : (s.modBay b f).startRef = s.startRef := rfl
@[simp] theorem State.modBay_checking (s : State) (b : Bay) (f : BayU → BayU) : (s.modBay b f).checking = s.checking := rfl
@[simp] theorem State.modBay_checkDue (s : State) (b : Bay) (f : BayU → BayU) : (s.modBay b f).checkDue = s.checkDue := rfl
@[simp] theorem State.modBay_recheck (s : State) (b : Bay) (f : BayU → BayU) : (s.modBay b f).recheck = s.recheck := rfl
@[simp] theorem State.modBay_switchTo (s : State) (b : Bay) (f : BayU → BayU) : (s.modBay b f).switchTo = s.switchTo := rfl

/-! #### Fields after modChan -/

@[simp] theorem State.modChan_now (s : State) (c : Chan) (f : ChanU → ChanU) : (s.modChan c f).now = s.now := rfl
@[simp] theorem State.modChan_fresh (s : State) (c : Chan) (f : ChanU → ChanU) : (s.modChan c f).fresh = s.fresh := rfl
@[simp] theorem State.modChan_pending (s : State) (c : Chan) (f : ChanU → ChanU) : (s.modChan c f).pending = s.pending := rfl
@[simp] theorem State.modChan_reply (s : State) (c : Chan) (f : ChanU → ChanU) : (s.modChan c f).reply = s.reply := rfl
@[simp] theorem State.modChan_objs (s : State) (c : Chan) (f : ChanU → ChanU) : (s.modChan c f).objs = s.objs := rfl
@[simp] theorem State.modChan_doms (s : State) (c : Chan) (f : ChanU → ChanU) : (s.modChan c f).doms = s.doms := rfl
@[simp] theorem State.modChan_shingles (s : State) (c : Chan) (f : ChanU → ChanU) : (s.modChan c f).shingles = s.shingles := rfl
@[simp] theorem State.modChan_bank (s : State) (c : Chan) (f : ChanU → ChanU) : (s.modChan c f).bank = s.bank := rfl
@[simp] theorem State.modChan_tsets (s : State) (c : Chan) (f : ChanU → ChanU) : (s.modChan c f).tsets = s.tsets := rfl
@[simp] theorem State.modChan_mem (s : State) (c : Chan) (f : ChanU → ChanU) : (s.modChan c f).mem = s.mem := rfl
@[simp] theorem State.modChan_tags (s : State) (c : Chan) (f : ChanU → ChanU) : (s.modChan c f).tags = s.tags := rfl
@[simp] theorem State.modChan_claims (s : State) (c : Chan) (f : ChanU → ChanU) : (s.modChan c f).claims = s.claims := rfl
@[simp] theorem State.modChan_ridge (s : State) (c : Chan) (f : ChanU → ChanU) : (s.modChan c f).ridge = s.ridge := rfl
@[simp] theorem State.modChan_ridgeDrv (s : State) (c : Chan) (f : ChanU → ChanU) : (s.modChan c f).ridgeDrv = s.ridgeDrv := rfl
@[simp] theorem State.modChan_ridgeWay (s : State) (c : Chan) (f : ChanU → ChanU) : (s.modChan c f).ridgeWay = s.ridgeWay := rfl
@[simp] theorem State.modChan_purlin (s : State) (c : Chan) (f : ChanU → ChanU) : (s.modChan c f).purlin = s.purlin := rfl
@[simp] theorem State.modChan_keys (s : State) (c : Chan) (f : ChanU → ChanU) : (s.modChan c f).keys = s.keys := rfl
@[simp] theorem State.modChan_dropped (s : State) (c : Chan) (f : ChanU → ChanU) : (s.modChan c f).dropped = s.dropped := rfl
@[simp] theorem State.modChan_bays (s : State) (c : Chan) (f : ChanU → ChanU) : (s.modChan c f).bays = s.bays := rfl
@[simp] theorem State.modChan_dies (s : State) (c : Chan) (f : ChanU → ChanU) : (s.modChan c f).dies = s.dies := rfl
@[simp] theorem State.modChan_ports (s : State) (c : Chan) (f : ChanU → ChanU) : (s.modChan c f).ports = s.ports := rfl
@[simp] theorem State.modChan_portLost (s : State) (c : Chan) (f : ChanU → ChanU) : (s.modChan c f).portLost = s.portLost := rfl
@[simp] theorem State.modChan_fatal (s : State) (c : Chan) (f : ChanU → ChanU) : (s.modChan c f).fatal = s.fatal := rfl
@[simp] theorem State.modChan_log (s : State) (c : Chan) (f : ChanU → ChanU) : (s.modChan c f).log = s.log := rfl
@[simp] theorem State.modChan_timers (s : State) (c : Chan) (f : ChanU → ChanU) : (s.modChan c f).timers = s.timers := rfl
@[simp] theorem State.modChan_tokens (s : State) (c : Chan) (f : ChanU → ChanU) : (s.modChan c f).tokens = s.tokens := rfl
@[simp] theorem State.modChan_injSlots (s : State) (c : Chan) (f : ChanU → ChanU) : (s.modChan c f).injSlots = s.injSlots := rfl
@[simp] theorem State.modChan_injNext (s : State) (c : Chan) (f : ChanU → ChanU) : (s.modChan c f).injNext = s.injNext := rfl
@[simp] theorem State.modChan_events (s : State) (c : Chan) (f : ChanU → ChanU) : (s.modChan c f).events = s.events := rfl
@[simp] theorem State.modChan_shadows (s : State) (c : Chan) (f : ChanU → ChanU) : (s.modChan c f).shadows = s.shadows := rfl
@[simp] theorem State.modChan_commit (s : State) (c : Chan) (f : ChanU → ChanU) : (s.modChan c f).commit = s.commit := rfl
@[simp] theorem State.modChan_counterOn (s : State) (c : Chan) (f : ChanU → ChanU) : (s.modChan c f).counterOn = s.counterOn := rfl
@[simp] theorem State.modChan_holdupOk (s : State) (c : Chan) (f : ChanU → ChanU) : (s.modChan c f).holdupOk = s.holdupOk := rfl
@[simp] theorem State.modChan_copies (s : State) (c : Chan) (f : ChanU → ChanU) : (s.modChan c f).copies = s.copies := rfl
@[simp] theorem State.modChan_benches (s : State) (c : Chan) (f : ChanU → ChanU) : (s.modChan c f).benches = s.benches := rfl
@[simp] theorem State.modChan_store (s : State) (c : Chan) (f : ChanU → ChanU) : (s.modChan c f).store = s.store := rfl
@[simp] theorem State.modChan_waiting (s : State) (c : Chan) (f : ChanU → ChanU) : (s.modChan c f).waiting = s.waiting := rfl
@[simp] theorem State.modChan_blocked (s : State) (c : Chan) (f : ChanU → ChanU) : (s.modChan c f).blocked = s.blocked := rfl
@[simp] theorem State.modChan_delays (s : State) (c : Chan) (f : ChanU → ChanU) : (s.modChan c f).delays = s.delays := rfl
@[simp] theorem State.modChan_hostPosts (s : State) (c : Chan) (f : ChanU → ChanU) : (s.modChan c f).hostPosts = s.hostPosts := rfl
@[simp] theorem State.modChan_postEnds (s : State) (c : Chan) (f : ChanU → ChanU) : (s.modChan c f).postEnds = s.postEnds := rfl
@[simp] theorem State.modChan_binds (s : State) (c : Chan) (f : ChanU → ChanU) : (s.modChan c f).binds = s.binds := rfl
@[simp] theorem State.modChan_bufs (s : State) (c : Chan) (f : ChanU → ChanU) : (s.modChan c f).bufs = s.bufs := rfl
@[simp] theorem State.modChan_inst (s : State) (c : Chan) (f : ChanU → ChanU) : (s.modChan c f).inst = s.inst := rfl
@[simp] theorem State.modChan_lastCore (s : State) (c : Chan) (f : ChanU → ChanU) : (s.modChan c f).lastCore = s.lastCore := rfl
@[simp] theorem State.modChan_drains (s : State) (c : Chan) (f : ChanU → ChanU) : (s.modChan c f).drains = s.drains := rfl
@[simp] theorem State.modChan_dmaPosts (s : State) (c : Chan) (f : ChanU → ChanU) : (s.modChan c f).dmaPosts = s.dmaPosts := rfl
@[simp] theorem State.modChan_lastFired (s : State) (c : Chan) (f : ChanU → ChanU) : (s.modChan c f).lastFired = s.lastFired := rfl
@[simp] theorem State.modChan_fireNo (s : State) (c : Chan) (f : ChanU → ChanU) : (s.modChan c f).fireNo = s.fireNo := rfl
@[simp] theorem State.modChan_delayNo (s : State) (c : Chan) (f : ChanU → ChanU) : (s.modChan c f).delayNo = s.delayNo := rfl
@[simp] theorem State.modChan_oldTick (s : State) (c : Chan) (f : ChanU → ChanU) : (s.modChan c f).oldTick = s.oldTick := rfl
@[simp] theorem State.modChan_ceSince (s : State) (c : Chan) (f : ChanU → ChanU) : (s.modChan c f).ceSince = s.ceSince := rfl
@[simp] theorem State.modChan_recovery (s : State) (c : Chan) (f : ChanU → ChanU) : (s.modChan c f).recovery = s.recovery := rfl
@[simp] theorem State.modChan_catchAt (s : State) (c : Chan) (f : ChanU → ChanU) : (s.modChan c f).catchAt = s.catchAt := rfl
@[simp] theorem State.modChan_scrubbed (s : State) (c : Chan) (f : ChanU → ChanU) : (s.modChan c f).scrubbed = s.scrubbed := rfl
@[simp] theorem State.modChan_hbmQ (s : State) (c : Chan) (f : ChanU → ChanU) : (s.modChan c f).hbmQ = s.hbmQ := rfl
@[simp] theorem State.modChan_coreOut (s : State) (c : Chan) (f : ChanU → ChanU) : (s.modChan c f).coreOut = s.coreOut := rfl
@[simp] theorem State.modChan_lanes (s : State) (c : Chan) (f : ChanU → ChanU) : (s.modChan c f).lanes = s.lanes := rfl
@[simp] theorem State.modChan_links (s : State) (c : Chan) (f : ChanU → ChanU) : (s.modChan c f).links = s.links := rfl
@[simp] theorem State.modChan_streams (s : State) (c : Chan) (f : ChanU → ChanU) : (s.modChan c f).streams = s.streams := rfl
@[simp] theorem State.modChan_dmas (s : State) (c : Chan) (f : ChanU → ChanU) : (s.modChan c f).dmas = s.dmas := rfl
@[simp] theorem State.modChan_dmaLast (s : State) (c : Chan) (f : ChanU → ChanU) : (s.modChan c f).dmaLast = s.dmaLast := rfl
@[simp] theorem State.modChan_dataPorts (s : State) (c : Chan) (f : ChanU → ChanU) : (s.modChan c f).dataPorts = s.dataPorts := rfl
@[simp] theorem State.modChan_tmPort (s : State) (c : Chan) (f : ChanU → ChanU) : (s.modChan c f).tmPort = s.tmPort := rfl
@[simp] theorem State.modChan_nets (s : State) (c : Chan) (f : ChanU → ChanU) : (s.modChan c f).nets = s.nets := rfl
@[simp] theorem State.modChan_syncOk (s : State) (c : Chan) (f : ChanU → ChanU) : (s.modChan c f).syncOk = s.syncOk := rfl
@[simp] theorem State.modChan_tpgs (s : State) (c : Chan) (f : ChanU → ChanU) : (s.modChan c f).tpgs = s.tpgs := rfl
@[simp] theorem State.modChan_trigOut (s : State) (c : Chan) (f : ChanU → ChanU) : (s.modChan c f).trigOut = s.trigOut := rfl
@[simp] theorem State.modChan_sessions (s : State) (c : Chan) (f : ChanU → ChanU) : (s.modChan c f).sessions = s.sessions := rfl
@[simp] theorem State.modChan_mgmtLast (s : State) (c : Chan) (f : ChanU → ChanU) : (s.modChan c f).mgmtLast = s.mgmtLast := rfl
@[simp] theorem State.modChan_tmTest (s : State) (c : Chan) (f : ChanU → ChanU) : (s.modChan c f).tmTest = s.tmTest := rfl
@[simp] theorem State.modChan_nonces (s : State) (c : Chan) (f : ChanU → ChanU) : (s.modChan c f).nonces = s.nonces := rfl
@[simp] theorem State.modChan_tmKey (s : State) (c : Chan) (f : ChanU → ChanU) : (s.modChan c f).tmKey = s.tmKey := rfl
@[simp] theorem State.modChan_tmFirst (s : State) (c : Chan) (f : ChanU → ChanU) : (s.modChan c f).tmFirst = s.tmFirst := rfl
@[simp] theorem State.modChan_tmRetry (s : State) (c : Chan) (f : ChanU → ChanU) : (s.modChan c f).tmRetry = s.tmRetry := rfl
@[simp] theorem State.modChan_groupKey (s : State) (c : Chan) (f : ChanU → ChanU) : (s.modChan c f).groupKey = s.groupKey := rfl
@[simp] theorem State.modChan_fwSlots (s : State) (c : Chan) (f : ChanU → ChanU) : (s.modChan c f).fwSlots = s.fwSlots := rfl
@[simp] theorem State.modChan_fwLoad (s : State) (c : Chan) (f : ChanU → ChanU) : (s.modChan c f).fwLoad = s.fwLoad := rfl
@[simp] theorem State.modChan_fwRollback (s : State) (c : Chan) (f : ChanU → ChanU) : (s.modChan c f).fwRollback = s.fwRollback := rfl
@[simp] theorem State.modChan_keeperAt (s : State) (c : Chan) (f : ChanU → ChanU) : (s.modChan c f).keeperAt = s.keeperAt := rfl
@[simp] theorem State.modChan_keeperOff (s : State) (c : Chan) (f : ChanU → ChanU) : (s.modChan c f).keeperOff = s.keeperOff := rfl
@[simp] theorem State.modChan_aliveHigh (s : State) (c : Chan) (f : ChanU → ChanU) : (s.modChan c f).aliveHigh = s.aliveHigh := rfl
@[simp] theorem State.modChan_aliveFreq (s : State) (c : Chan) (f : ChanU → ChanU) : (s.modChan c f).aliveFreq = s.aliveFreq := rfl
@[simp] theorem State.modChan_aliveAt (s : State) (c : Chan) (f : ChanU → ChanU) : (s.modChan c f).aliveAt = s.aliveAt := rfl
@[simp] theorem State.modChan_watchdog (s : State) (c : Chan) (f : ChanU → ChanU) : (s.modChan c f).watchdog = s.watchdog := rfl
@[simp] theorem State.modChan_wdArmed (s : State) (c : Chan) (f : ChanU → ChanU) : (s.modChan c f).wdArmed = s.wdArmed := rfl
@[simp] theorem State.modChan_keeperRef (s : State) (c : Chan) (f : ChanU → ChanU) : (s.modChan c f).keeperRef = s.keeperRef := rfl
@[simp] theorem State.modChan_ledger (s : State) (c : Chan) (f : ChanU → ChanU) : (s.modChan c f).ledger = s.ledger := rfl
@[simp] theorem State.modChan_ledgerOld (s : State) (c : Chan) (f : ChanU → ChanU) : (s.modChan c f).ledgerOld = s.ledgerOld := rfl
@[simp] theorem State.modChan_ledgerDoms (s : State) (c : Chan) (f : ChanU → ChanU) : (s.modChan c f).ledgerDoms = s.ledgerDoms := rfl
@[simp] theorem State.modChan_ledgerCorr (s : State) (c : Chan) (f : ChanU → ChanU) : (s.modChan c f).ledgerCorr = s.ledgerCorr := rfl
@[simp] theorem State.modChan_vauxAt (s : State) (c : Chan) (f : ChanU → ChanU) : (s.modChan c f).vauxAt = s.vauxAt := rfl
@[simp] theorem State.modChan_tap (s : State) (c : Chan) (f : ChanU → ChanU) : (s.modChan c f).tap = s.tap := rfl
@[simp] theorem State.modChan_ledgerQ (s : State) (c : Chan) (f : ChanU → ChanU) : (s.modChan c f).ledgerQ = s.ledgerQ := rfl
@[simp] theorem State.modChan_ledgerHeld (s : State) (c : Chan) (f : ChanU → ChanU) : (s.modChan c f).ledgerHeld = s.ledgerHeld := rfl
@[simp] theorem State.modChan_ledgerDue (s : State) (c : Chan) (f : ChanU → ChanU) : (s.modChan c f).ledgerDue = s.ledgerDue := rfl
@[simp] theorem State.modChan_assayed (s : State) (c : Chan) (f : ChanU → ChanU) : (s.modChan c f).assayed = s.assayed := rfl
@[simp] theorem State.modChan_temps (s : State) (c : Chan) (f : ChanU → ChanU) : (s.modChan c f).temps = s.temps := rfl
@[simp] theorem State.modChan_beat (s : State) (c : Chan) (f : ChanU → ChanU) : (s.modChan c f).beat = s.beat := rfl
@[simp] theorem State.modChan_archived (s : State) (c : Chan) (f : ChanU → ChanU) : (s.modChan c f).archived = s.archived := rfl
@[simp] theorem State.modChan_archRetry (s : State) (c : Chan) (f : ChanU → ChanU) : (s.modChan c f).archRetry = s.archRetry := rfl
@[simp] theorem State.modChan_resetDue (s : State) (c : Chan) (f : ChanU → ChanU) : (s.modChan c f).resetDue = s.resetDue := rfl
@[simp] theorem State.modChan_startRef (s : State) (c : Chan) (f : ChanU → ChanU) : (s.modChan c f).startRef = s.startRef := rfl
@[simp] theorem State.modChan_checking (s : State) (c : Chan) (f : ChanU → ChanU) : (s.modChan c f).checking = s.checking := rfl
@[simp] theorem State.modChan_checkDue (s : State) (c : Chan) (f : ChanU → ChanU) : (s.modChan c f).checkDue = s.checkDue := rfl
@[simp] theorem State.modChan_recheck (s : State) (c : Chan) (f : ChanU → ChanU) : (s.modChan c f).recheck = s.recheck := rfl
@[simp] theorem State.modChan_switchTo (s : State) (c : Chan) (f : ChanU → ChanU) : (s.modChan c f).switchTo = s.switchTo := rfl

/-! #### Fields after modDie -/

@[simp] theorem State.modDie_now (s : State) (d : Die) (f : DieU → DieU) : (s.modDie d f).now = s.now := rfl
@[simp] theorem State.modDie_fresh (s : State) (d : Die) (f : DieU → DieU) : (s.modDie d f).fresh = s.fresh := rfl
@[simp] theorem State.modDie_pending (s : State) (d : Die) (f : DieU → DieU) : (s.modDie d f).pending = s.pending := rfl
@[simp] theorem State.modDie_reply (s : State) (d : Die) (f : DieU → DieU) : (s.modDie d f).reply = s.reply := rfl
@[simp] theorem State.modDie_objs (s : State) (d : Die) (f : DieU → DieU) : (s.modDie d f).objs = s.objs := rfl
@[simp] theorem State.modDie_doms (s : State) (d : Die) (f : DieU → DieU) : (s.modDie d f).doms = s.doms := rfl
@[simp] theorem State.modDie_shingles (s : State) (d : Die) (f : DieU → DieU) : (s.modDie d f).shingles = s.shingles := rfl
@[simp] theorem State.modDie_bank (s : State) (d : Die) (f : DieU → DieU) : (s.modDie d f).bank = s.bank := rfl
@[simp] theorem State.modDie_tsets (s : State) (d : Die) (f : DieU → DieU) : (s.modDie d f).tsets = s.tsets := rfl
@[simp] theorem State.modDie_mem (s : State) (d : Die) (f : DieU → DieU) : (s.modDie d f).mem = s.mem := rfl
@[simp] theorem State.modDie_tags (s : State) (d : Die) (f : DieU → DieU) : (s.modDie d f).tags = s.tags := rfl
@[simp] theorem State.modDie_claims (s : State) (d : Die) (f : DieU → DieU) : (s.modDie d f).claims = s.claims := rfl
@[simp] theorem State.modDie_ridge (s : State) (d : Die) (f : DieU → DieU) : (s.modDie d f).ridge = s.ridge := rfl
@[simp] theorem State.modDie_ridgeDrv (s : State) (d : Die) (f : DieU → DieU) : (s.modDie d f).ridgeDrv = s.ridgeDrv := rfl
@[simp] theorem State.modDie_ridgeWay (s : State) (d : Die) (f : DieU → DieU) : (s.modDie d f).ridgeWay = s.ridgeWay := rfl
@[simp] theorem State.modDie_purlin (s : State) (d : Die) (f : DieU → DieU) : (s.modDie d f).purlin = s.purlin := rfl
@[simp] theorem State.modDie_keys (s : State) (d : Die) (f : DieU → DieU) : (s.modDie d f).keys = s.keys := rfl
@[simp] theorem State.modDie_dropped (s : State) (d : Die) (f : DieU → DieU) : (s.modDie d f).dropped = s.dropped := rfl
@[simp] theorem State.modDie_bays (s : State) (d : Die) (f : DieU → DieU) : (s.modDie d f).bays = s.bays := rfl
@[simp] theorem State.modDie_chans (s : State) (d : Die) (f : DieU → DieU) : (s.modDie d f).chans = s.chans := rfl
@[simp] theorem State.modDie_ports (s : State) (d : Die) (f : DieU → DieU) : (s.modDie d f).ports = s.ports := rfl
@[simp] theorem State.modDie_portLost (s : State) (d : Die) (f : DieU → DieU) : (s.modDie d f).portLost = s.portLost := rfl
@[simp] theorem State.modDie_fatal (s : State) (d : Die) (f : DieU → DieU) : (s.modDie d f).fatal = s.fatal := rfl
@[simp] theorem State.modDie_log (s : State) (d : Die) (f : DieU → DieU) : (s.modDie d f).log = s.log := rfl
@[simp] theorem State.modDie_timers (s : State) (d : Die) (f : DieU → DieU) : (s.modDie d f).timers = s.timers := rfl
@[simp] theorem State.modDie_tokens (s : State) (d : Die) (f : DieU → DieU) : (s.modDie d f).tokens = s.tokens := rfl
@[simp] theorem State.modDie_injSlots (s : State) (d : Die) (f : DieU → DieU) : (s.modDie d f).injSlots = s.injSlots := rfl
@[simp] theorem State.modDie_injNext (s : State) (d : Die) (f : DieU → DieU) : (s.modDie d f).injNext = s.injNext := rfl
@[simp] theorem State.modDie_events (s : State) (d : Die) (f : DieU → DieU) : (s.modDie d f).events = s.events := rfl
@[simp] theorem State.modDie_shadows (s : State) (d : Die) (f : DieU → DieU) : (s.modDie d f).shadows = s.shadows := rfl
@[simp] theorem State.modDie_commit (s : State) (d : Die) (f : DieU → DieU) : (s.modDie d f).commit = s.commit := rfl
@[simp] theorem State.modDie_counterOn (s : State) (d : Die) (f : DieU → DieU) : (s.modDie d f).counterOn = s.counterOn := rfl
@[simp] theorem State.modDie_holdupOk (s : State) (d : Die) (f : DieU → DieU) : (s.modDie d f).holdupOk = s.holdupOk := rfl
@[simp] theorem State.modDie_copies (s : State) (d : Die) (f : DieU → DieU) : (s.modDie d f).copies = s.copies := rfl
@[simp] theorem State.modDie_benches (s : State) (d : Die) (f : DieU → DieU) : (s.modDie d f).benches = s.benches := rfl
@[simp] theorem State.modDie_store (s : State) (d : Die) (f : DieU → DieU) : (s.modDie d f).store = s.store := rfl
@[simp] theorem State.modDie_waiting (s : State) (d : Die) (f : DieU → DieU) : (s.modDie d f).waiting = s.waiting := rfl
@[simp] theorem State.modDie_blocked (s : State) (d : Die) (f : DieU → DieU) : (s.modDie d f).blocked = s.blocked := rfl
@[simp] theorem State.modDie_delays (s : State) (d : Die) (f : DieU → DieU) : (s.modDie d f).delays = s.delays := rfl
@[simp] theorem State.modDie_hostPosts (s : State) (d : Die) (f : DieU → DieU) : (s.modDie d f).hostPosts = s.hostPosts := rfl
@[simp] theorem State.modDie_postEnds (s : State) (d : Die) (f : DieU → DieU) : (s.modDie d f).postEnds = s.postEnds := rfl
@[simp] theorem State.modDie_binds (s : State) (d : Die) (f : DieU → DieU) : (s.modDie d f).binds = s.binds := rfl
@[simp] theorem State.modDie_bufs (s : State) (d : Die) (f : DieU → DieU) : (s.modDie d f).bufs = s.bufs := rfl
@[simp] theorem State.modDie_inst (s : State) (d : Die) (f : DieU → DieU) : (s.modDie d f).inst = s.inst := rfl
@[simp] theorem State.modDie_lastCore (s : State) (d : Die) (f : DieU → DieU) : (s.modDie d f).lastCore = s.lastCore := rfl
@[simp] theorem State.modDie_drains (s : State) (d : Die) (f : DieU → DieU) : (s.modDie d f).drains = s.drains := rfl
@[simp] theorem State.modDie_dmaPosts (s : State) (d : Die) (f : DieU → DieU) : (s.modDie d f).dmaPosts = s.dmaPosts := rfl
@[simp] theorem State.modDie_lastFired (s : State) (d : Die) (f : DieU → DieU) : (s.modDie d f).lastFired = s.lastFired := rfl
@[simp] theorem State.modDie_fireNo (s : State) (d : Die) (f : DieU → DieU) : (s.modDie d f).fireNo = s.fireNo := rfl
@[simp] theorem State.modDie_delayNo (s : State) (d : Die) (f : DieU → DieU) : (s.modDie d f).delayNo = s.delayNo := rfl
@[simp] theorem State.modDie_oldTick (s : State) (d : Die) (f : DieU → DieU) : (s.modDie d f).oldTick = s.oldTick := rfl
@[simp] theorem State.modDie_ceSince (s : State) (d : Die) (f : DieU → DieU) : (s.modDie d f).ceSince = s.ceSince := rfl
@[simp] theorem State.modDie_recovery (s : State) (d : Die) (f : DieU → DieU) : (s.modDie d f).recovery = s.recovery := rfl
@[simp] theorem State.modDie_catchAt (s : State) (d : Die) (f : DieU → DieU) : (s.modDie d f).catchAt = s.catchAt := rfl
@[simp] theorem State.modDie_scrubbed (s : State) (d : Die) (f : DieU → DieU) : (s.modDie d f).scrubbed = s.scrubbed := rfl
@[simp] theorem State.modDie_hbmQ (s : State) (d : Die) (f : DieU → DieU) : (s.modDie d f).hbmQ = s.hbmQ := rfl
@[simp] theorem State.modDie_coreOut (s : State) (d : Die) (f : DieU → DieU) : (s.modDie d f).coreOut = s.coreOut := rfl
@[simp] theorem State.modDie_lanes (s : State) (d : Die) (f : DieU → DieU) : (s.modDie d f).lanes = s.lanes := rfl
@[simp] theorem State.modDie_links (s : State) (d : Die) (f : DieU → DieU) : (s.modDie d f).links = s.links := rfl
@[simp] theorem State.modDie_streams (s : State) (d : Die) (f : DieU → DieU) : (s.modDie d f).streams = s.streams := rfl
@[simp] theorem State.modDie_dmas (s : State) (d : Die) (f : DieU → DieU) : (s.modDie d f).dmas = s.dmas := rfl
@[simp] theorem State.modDie_dmaLast (s : State) (d : Die) (f : DieU → DieU) : (s.modDie d f).dmaLast = s.dmaLast := rfl
@[simp] theorem State.modDie_dataPorts (s : State) (d : Die) (f : DieU → DieU) : (s.modDie d f).dataPorts = s.dataPorts := rfl
@[simp] theorem State.modDie_tmPort (s : State) (d : Die) (f : DieU → DieU) : (s.modDie d f).tmPort = s.tmPort := rfl
@[simp] theorem State.modDie_nets (s : State) (d : Die) (f : DieU → DieU) : (s.modDie d f).nets = s.nets := rfl
@[simp] theorem State.modDie_syncOk (s : State) (d : Die) (f : DieU → DieU) : (s.modDie d f).syncOk = s.syncOk := rfl
@[simp] theorem State.modDie_tpgs (s : State) (d : Die) (f : DieU → DieU) : (s.modDie d f).tpgs = s.tpgs := rfl
@[simp] theorem State.modDie_trigOut (s : State) (d : Die) (f : DieU → DieU) : (s.modDie d f).trigOut = s.trigOut := rfl
@[simp] theorem State.modDie_sessions (s : State) (d : Die) (f : DieU → DieU) : (s.modDie d f).sessions = s.sessions := rfl
@[simp] theorem State.modDie_mgmtLast (s : State) (d : Die) (f : DieU → DieU) : (s.modDie d f).mgmtLast = s.mgmtLast := rfl
@[simp] theorem State.modDie_tmTest (s : State) (d : Die) (f : DieU → DieU) : (s.modDie d f).tmTest = s.tmTest := rfl
@[simp] theorem State.modDie_nonces (s : State) (d : Die) (f : DieU → DieU) : (s.modDie d f).nonces = s.nonces := rfl
@[simp] theorem State.modDie_tmKey (s : State) (d : Die) (f : DieU → DieU) : (s.modDie d f).tmKey = s.tmKey := rfl
@[simp] theorem State.modDie_tmFirst (s : State) (d : Die) (f : DieU → DieU) : (s.modDie d f).tmFirst = s.tmFirst := rfl
@[simp] theorem State.modDie_tmRetry (s : State) (d : Die) (f : DieU → DieU) : (s.modDie d f).tmRetry = s.tmRetry := rfl
@[simp] theorem State.modDie_groupKey (s : State) (d : Die) (f : DieU → DieU) : (s.modDie d f).groupKey = s.groupKey := rfl
@[simp] theorem State.modDie_fwSlots (s : State) (d : Die) (f : DieU → DieU) : (s.modDie d f).fwSlots = s.fwSlots := rfl
@[simp] theorem State.modDie_fwLoad (s : State) (d : Die) (f : DieU → DieU) : (s.modDie d f).fwLoad = s.fwLoad := rfl
@[simp] theorem State.modDie_fwRollback (s : State) (d : Die) (f : DieU → DieU) : (s.modDie d f).fwRollback = s.fwRollback := rfl
@[simp] theorem State.modDie_keeperAt (s : State) (d : Die) (f : DieU → DieU) : (s.modDie d f).keeperAt = s.keeperAt := rfl
@[simp] theorem State.modDie_keeperOff (s : State) (d : Die) (f : DieU → DieU) : (s.modDie d f).keeperOff = s.keeperOff := rfl
@[simp] theorem State.modDie_aliveHigh (s : State) (d : Die) (f : DieU → DieU) : (s.modDie d f).aliveHigh = s.aliveHigh := rfl
@[simp] theorem State.modDie_aliveFreq (s : State) (d : Die) (f : DieU → DieU) : (s.modDie d f).aliveFreq = s.aliveFreq := rfl
@[simp] theorem State.modDie_aliveAt (s : State) (d : Die) (f : DieU → DieU) : (s.modDie d f).aliveAt = s.aliveAt := rfl
@[simp] theorem State.modDie_watchdog (s : State) (d : Die) (f : DieU → DieU) : (s.modDie d f).watchdog = s.watchdog := rfl
@[simp] theorem State.modDie_wdArmed (s : State) (d : Die) (f : DieU → DieU) : (s.modDie d f).wdArmed = s.wdArmed := rfl
@[simp] theorem State.modDie_keeperRef (s : State) (d : Die) (f : DieU → DieU) : (s.modDie d f).keeperRef = s.keeperRef := rfl
@[simp] theorem State.modDie_ledger (s : State) (d : Die) (f : DieU → DieU) : (s.modDie d f).ledger = s.ledger := rfl
@[simp] theorem State.modDie_ledgerOld (s : State) (d : Die) (f : DieU → DieU) : (s.modDie d f).ledgerOld = s.ledgerOld := rfl
@[simp] theorem State.modDie_ledgerDoms (s : State) (d : Die) (f : DieU → DieU) : (s.modDie d f).ledgerDoms = s.ledgerDoms := rfl
@[simp] theorem State.modDie_ledgerCorr (s : State) (d : Die) (f : DieU → DieU) : (s.modDie d f).ledgerCorr = s.ledgerCorr := rfl
@[simp] theorem State.modDie_vauxAt (s : State) (d : Die) (f : DieU → DieU) : (s.modDie d f).vauxAt = s.vauxAt := rfl
@[simp] theorem State.modDie_tap (s : State) (d : Die) (f : DieU → DieU) : (s.modDie d f).tap = s.tap := rfl
@[simp] theorem State.modDie_ledgerQ (s : State) (d : Die) (f : DieU → DieU) : (s.modDie d f).ledgerQ = s.ledgerQ := rfl
@[simp] theorem State.modDie_ledgerHeld (s : State) (d : Die) (f : DieU → DieU) : (s.modDie d f).ledgerHeld = s.ledgerHeld := rfl
@[simp] theorem State.modDie_ledgerDue (s : State) (d : Die) (f : DieU → DieU) : (s.modDie d f).ledgerDue = s.ledgerDue := rfl
@[simp] theorem State.modDie_assayed (s : State) (d : Die) (f : DieU → DieU) : (s.modDie d f).assayed = s.assayed := rfl
@[simp] theorem State.modDie_temps (s : State) (d : Die) (f : DieU → DieU) : (s.modDie d f).temps = s.temps := rfl
@[simp] theorem State.modDie_beat (s : State) (d : Die) (f : DieU → DieU) : (s.modDie d f).beat = s.beat := rfl
@[simp] theorem State.modDie_archived (s : State) (d : Die) (f : DieU → DieU) : (s.modDie d f).archived = s.archived := rfl
@[simp] theorem State.modDie_archRetry (s : State) (d : Die) (f : DieU → DieU) : (s.modDie d f).archRetry = s.archRetry := rfl
@[simp] theorem State.modDie_resetDue (s : State) (d : Die) (f : DieU → DieU) : (s.modDie d f).resetDue = s.resetDue := rfl
@[simp] theorem State.modDie_startRef (s : State) (d : Die) (f : DieU → DieU) : (s.modDie d f).startRef = s.startRef := rfl
@[simp] theorem State.modDie_checking (s : State) (d : Die) (f : DieU → DieU) : (s.modDie d f).checking = s.checking := rfl
@[simp] theorem State.modDie_checkDue (s : State) (d : Die) (f : DieU → DieU) : (s.modDie d f).checkDue = s.checkDue := rfl
@[simp] theorem State.modDie_recheck (s : State) (d : Die) (f : DieU → DieU) : (s.modDie d f).recheck = s.recheck := rfl
@[simp] theorem State.modDie_switchTo (s : State) (d : Die) (f : DieU → DieU) : (s.modDie d f).switchTo = s.switchTo := rfl

end Sys2Proof.Machine
end

