-- ==== Sys2Proof/Laws/Gates.lean ====
section
/-! SUPPORT. When the gates of host commands let a command through, what entering a bay state leaves, and reads through the
shared operations. -/

namespace Sys2Proof.Machine

/-! ### Gates -/

theorem State.hostBay_ready {s : State} {b : Bay} {e : BitVec 16} (h : Ready s b e) (k : State → State) :
    s.hostBay b e k = k s := by
  unfold State.hostBay; rw [h.1, h.2.1]; simp [h.2.2]

theorem State.hostModule_up {s : State} (h : s.operational = true) (k : State → State) : s.hostModule k = k s := by
  unfold State.hostModule; simp [h]

theorem State.hostFirm_up {s : State} (h : s.operational = true) (hc : s.coreOut = false) (k : State → State) :
    s.hostFirm k = k s := by
  unfold State.hostFirm; rw [State.hostModule_up h]; simp [hc]

/-! ### A step for each element of a list -/

theorem State.getO_each {α : Type} {l : List α} {f : State → α → State} {k : Nat}
    (h : ∀ s a, a ∈ l → (f s a).getO k = s.getO k) (s : State) : (s.each l f).getO k = s.getO k := by
  unfold State.each
  induction l generalizing s with
  | nil => rfl
  | cons a l ih =>
    rw [List.foldl_cons, ih (fun s x hx => h s x (List.mem_cons_of_mem _ hx)), h s a List.mem_cons_self]

theorem State.each_nil {α : Type} (s : State) (f : State → α → State) : s.each [] f = s := rfl
theorem State.each_cons {α : Type} (s : State) (a : α) (l : List α) (f : State → α → State) :
    s.each (a :: l) f = (f s a).each l f := rfl

/-- A fact that every step of a list keeps. -/
theorem State.each_keeps {α : Type} {l : List α} {f : State → α → State} {P : State → Prop}
    (h : ∀ s a, P s → P (f s a)) {s : State} (hs : P s) : P (s.each l f) := by
  unfold State.each
  induction l generalizing s with
  | nil => exact hs
  | cons a l ih => exact ih (h s a hs)

/-! ### Objects that an event leaves -/

theorem eventObj_low {k : Nat} (h : k < 0xC00000) : eventObj k = false := by
  simp only [eventObj, R.EVENT_LOG_LOST, R.EVENT_LOG_COUNT, Bool.or_eq_false_iff, Bool.and_eq_false_iff, decide_eq_false_iff_not,
    beq_eq_false_iff_ne]
  omega

theorem keyB_low {b : Bay} {o : Nat} (h : o < 0x10000) : keyB b o < 0x400000 := by simp only [keyB]; omega
theorem keyB_high (b : Bay) (o : Nat) : 0x300000 ≤ keyB b o := by simp only [keyB]; omega
theorem keyC_low {c : Chan} {o : Nat} (h : o < 0x4000) : keyC c o < 0x800000 := by simp only [keyC]; omega
theorem keyC_high (c : Chan) (o : Nat) : 0x400000 ≤ keyC c o := by simp only [keyC]; omega
theorem eventObj_keyB {b : Bay} {o : Nat} (h : o < 0x10000) : eventObj (keyB b o) = false :=
  eventObj_low (Nat.lt_trans (keyB_low h) (by decide))
theorem eventObj_keyC {c : Chan} {o : Nat} (h : o < 0x4000) : eventObj (keyC c o) = false :=
  eventObj_low (Nat.lt_trans (keyC_low h) (by decide))

theorem evBay_lt {b : Bay} {k : Nat} (h : k < 32) : evBay b k < 2048 := by simp only [evBay]; omega
theorem evChan_lt {c : Chan} {k : Nat} (h : k < 4) : evChan c k < 2048 := by simp only [evChan]; omega

/-! ### Entering a bay state (R34) -/

@[simp] theorem State.bst_setState (s : State) (b : Bay) (st : Nat) : (s.setState b st).bst b = st := by
  unfold State.setState
  split
  · assumption
  · unfold State.bst State.getB
    rw [State.getO_event _ _ (evBay_lt (by decide)) (eventObj_keyB (by decide))]
    exact State.getO_setO_same _ _ _

theorem State.getO_setState (s : State) {b : Bay} (st : Nat) {k : Nat} (h : k ≠ keyB b RBay.BAY_STATE) (he : eventObj k = false) :
    (s.setState b st).getO k = s.getO k := by
  unfold State.setState
  split
  · rfl
  · rw [State.getO_event _ _ (evBay_lt (by decide)) he]; exact State.getO_setO_ne s h _

/-- Bit 13 of the slots' states is all that follows the bays that are armed (R399). -/
theorem State.getO_showSlots (s : State) {k : Nat} (h : k < R.SLOT_STATE ∨ R.SLOT_STATE + 64 ≤ k) :
    s.showSlots.getO k = s.getO k := by
  unfold State.showSlots
  refine State.getO_each (fun u a ha => ?_) s
  have ha2 := List.mem_range.mp ha
  dsimp only
  split
  · rfl
  · exact State.getO_setO_ne u (by omega) _

theorem State.bst_showSlots (s : State) (b : Bay) : s.showSlots.bst b = s.bst b :=
  State.getO_showSlots s (Or.inl (Nat.lt_of_lt_of_le (keyB_low (by decide)) (by decide)))

@[simp] theorem State.bst_ok (s : State) (b : Bay) : s.ok.bst b = s.bst b := rfl
@[simp] theorem State.bst_answer (s : State) (st : Nat) (b : Bay) : (s.answer st).bst b = s.bst b := rfl
@[simp] theorem State.bst_modBay (s : State) (c : Bay) (f : BayU → BayU) (b : Bay) : (s.modBay c f).bst b = s.bst b := rfl
@[simp] theorem State.ok_reply (s : State) : s.ok.reply = {} := rfl
@[simp] theorem State.getO_ok (s : State) (k : Nat) : s.ok.getO k = s.getO k := rfl
@[simp] theorem State.bay_ok (s : State) (b : Bay) : s.ok.bay b = s.bay b := rfl

/-- A state request is let through to a bay that it reaches (R34). -/
theorem State.stateRequest_asked {s : State} {b : Bay} {e : BitVec 16} (h : Asked s b e) (off : Bool) (k : State → State) :
    s.stateRequest b e off k = k s := by
  unfold State.stateRequest; rw [h.1.1, h.1.2.1]; simp [h.1.2.2, h.2]

theorem State.inStates_of {s : State} {b : Bay} {l : List Nat} (h : l.contains (s.bst b) = true) (k : State → State) :
    s.inStates b l k = (k s).ok := by unfold State.inStates; rw [if_pos h]

/-! ### Reads through writes, for the objects of a bay and of a channel -/

@[simp] theorem State.getB_modBay (s : State) (c : Bay) (f : BayU → BayU) (b : Bay) (o : Nat) : (s.modBay c f).getB b o = s.getB b o := rfl
@[simp] theorem State.getB_modChan (s : State) (c : Chan) (f : ChanU → ChanU) (b : Bay) (o : Nat) : (s.modChan c f).getB b o = s.getB b o := rfl
@[simp] theorem State.getB_answer (s : State) (st : Nat) (b : Bay) (o : Nat) : (s.answer st).getB b o = s.getB b o := rfl
@[simp] theorem State.getB_answerD (s : State) (st d : Nat) (b : Bay) (o : Nat) : (s.answerD st d).getB b o = s.getB b o := rfl
@[simp] theorem State.getB_ok (s : State) (b : Bay) (o : Nat) : s.ok.getB b o = s.getB b o := rfl
@[simp] theorem State.getC_modBay (s : State) (c : Bay) (f : BayU → BayU) (d : Chan) (o : Nat) : (s.modBay c f).getC d o = s.getC d o := rfl
@[simp] theorem State.getC_modChan (s : State) (c : Chan) (f : ChanU → ChanU) (d : Chan) (o : Nat) : (s.modChan c f).getC d o = s.getC d o := rfl
@[simp] theorem State.getC_answer (s : State) (st : Nat) (d : Chan) (o : Nat) : (s.answer st).getC d o = s.getC d o := rfl
@[simp] theorem State.getC_ok (s : State) (d : Chan) (o : Nat) : s.ok.getC d o = s.getC d o := rfl
@[simp] theorem State.bay_setB (s : State) (b : Bay) (o v : Nat) (c : Bay) : (s.setB b o v).bay c = s.bay c := rfl
@[simp] theorem State.bay_setC (s : State) (d : Chan) (o v : Nat) (c : Bay) : (s.setC d o v).bay c = s.bay c := rfl
@[simp] theorem State.chan_setB (s : State) (b : Bay) (o v : Nat) (c : Chan) : (s.setB b o v).chan c = s.chan c := rfl
@[simp] theorem State.chan_setC (s : State) (d : Chan) (o v : Nat) (c : Chan) : (s.setC d o v).chan c = s.chan c := rfl
@[simp] theorem State.chan_ok (s : State) (c : Chan) : s.ok.chan c = s.chan c := rfl
@[simp] theorem State.getB_setB_same (s : State) (b : Bay) (o v : Nat) : (s.setB b o v).getB b o = v := State.getO_setO_same _ _ _
@[simp] theorem State.getC_setC_same (s : State) (c : Chan) (o v : Nat) : (s.setC c o v).getC c o = v := State.getO_setO_same _ _ _

/-! ### What an occurrence of an event leaves -/

theorem State.occur_frame (s : State) (n : Nat) : ReportFrame s (s.occur n) := by
  have f := State.event_frame s.free.2 n s.free.1.toNat
  unfold ReportFrame State.occur
  generalize s.free.2.event n s.free.1.toNat = t at *
  rw [f]; rfl

@[simp] theorem State.bay_occur (s : State) (n : Nat) (b : Bay) : (s.occur n).bay b = s.bay b := by
  have h := State.occur_frame s n
  generalize s.occur n = t at *
  unfold ReportFrame at h; rw [h]; rfl
@[simp] theorem State.chan_occur (s : State) (n : Nat) (c : Chan) : (s.occur n).chan c = s.chan c := by
  have h := State.occur_frame s n
  generalize s.occur n = t at *
  unfold ReportFrame at h; rw [h]; rfl

/-- A change of a bay followed by nothing but reports is a change of that bay alone. -/
theorem BayFrame.of_report {s t : State} {b : Bay} {f : BayU → BayU} (h : ReportFrame (s.modBay b f) t) : BayFrame b s t := by
  have hb : t.bays = (s.modBay b f).bays := by unfold ReportFrame at h; rw [h]
  refine ⟨?_, fun c hc => ?_⟩
  · rw [hb]; exact h
  · unfold State.bay; rw [hb]; exact State.bay_modBay_ne s hc f

/-- An occurrence of a source counts it (R438). -/
theorem State.count_occur (s : State) (n : Nat) :
    (s.occur n).getO (key (0xC400 + n) 0 + RSrc.COUNT) = (s.getO (key (0xC400 + n) 0 + RSrc.COUNT) + 1) % 2 ^ 64 := by
  unfold State.occur State.event
  generalize s.free.1.toNat % 2 ^ 32 = d
  generalize s.free.2.netTime = t
  have h1 : ∀ u : State, (u.eventLog n t d).getO (key (0xC400 + n) 0 + RSrc.COUNT) = u.getO (key (0xC400 + n) 0 + RSrc.COUNT) := by
    intro u
    have ne1 : key (0xC400 + n) 0 + RSrc.COUNT ≠ R.EVENT_LOG_COUNT := by simp only [key, RSrc.COUNT, R.EVENT_LOG_COUNT]; omega
    have ne2 : key (0xC400 + n) 0 + RSrc.COUNT ≠ R.EVENT_LOG_LOST := by simp only [key, RSrc.COUNT, R.EVENT_LOG_LOST]; omega
    unfold State.eventLog; split
    · unfold State.eventPut
      rw [State.getO_setO_ne _ ne1]
      have q : ∀ (x : State) (l : List EventRec),
          ({ x with events := l } : State).getO (key (0xC400 + n) 0 + RSrc.COUNT) = x.getO (key (0xC400 + n) 0 + RSrc.COUNT) :=
        fun x l => State.getO_of_objs rfl _
      rw [q]
      unfold State.eventRoom; split
      · rfl
      · exact State.getO_setO_ne _ ne2 _
    · rfl
  rw [h1, State.getO_of_objs (State.objs_eventNotes _ _ _ _)]
  unfold State.eventCount; dsimp only
  have n1 : key (0xC400 + n) 0 + RSrc.COUNT ≠ key (0xC400 + n) 0 + RSrc.LAST_DETAIL := by simp only [RSrc.COUNT, RSrc.LAST_DETAIL]; omega
  have n2 : key (0xC400 + n) 0 + RSrc.COUNT ≠ key (0xC400 + n) 0 + RSrc.LAST_TIME := by simp only [RSrc.COUNT, RSrc.LAST_TIME]; omega
  rw [State.getO_setO_ne _ n1, State.getO_setO_ne _ n2, State.getO_setO_same]
  simp only [State.free, State.getO]

/-! ### Frames put together -/

theorem ObjFrame.refl (s : State) : ObjFrame s s := rfl
theorem ObjFrame.trans {s t u : State} (h : ObjFrame s t) (k : ObjFrame t u) : ObjFrame s u := by
  unfold ObjFrame at *; rw [h] at k; exact k
theorem ObjFrame.setO (s : State) (k v : Nat) : ObjFrame s (s.setO k v) := rfl
theorem ObjFrame.answerD (s : State) (a d : Nat) : ObjFrame s (s.answerD a d) := rfl
theorem ObjFrame.answer (s : State) (a : Nat) : ObjFrame s (s.answer a) := rfl
theorem ObjFrame.each {α : Type} {l : List α} {f : State → α → State} (h : ∀ u a, ObjFrame u (f u a)) (s : State) : ObjFrame s (s.each l f) :=
  State.each_keeps (P := fun u => ObjFrame s u) (fun u a hu => hu.trans (h u a)) (ObjFrame.refl s)
theorem ObjFrame.report {s t : State} (h : ObjFrame s t) : ReportFrame s t := by
  unfold ObjFrame ReportFrame at *
  have e : ∀ u : State, u = { s with objs := t.objs, reply := t.reply } → u = { s with
    objs := t.objs, reply := t.reply, fresh := u.fresh, sessions := u.sessions, events := u.events, ports := u.ports,
    portLost := u.portLost, fatal := u.fatal } := fun u hu => by subst hu; rfl
  exact e t h

theorem ReportFrame.refl (s : State) : ReportFrame s s := rfl
theorem ReportFrame.trans {s t u : State} (h : ReportFrame s t) (k : ReportFrame t u) : ReportFrame s u := by
  unfold ReportFrame at *; rw [h] at k; exact k
theorem ReportFrame.fault (s : State) (u k a : Nat) : ReportFrame s (s.fault u k a) := by
  have f := State.fault_frame s u k a
  unfold ReportFrame
  generalize s.fault u k a = t at *
  rw [f]
theorem ReportFrame.event (s : State) (n d : Nat) : ReportFrame s (s.event n d) := by
  have f := State.event_frame s n d
  unfold ReportFrame
  generalize s.event n d = t at *
  rw [f]
theorem ReportFrame.send (s : State) (m : FaultMsg) : ReportFrame s (s.send m) := by
  unfold State.send; split
  · rfl
  · dsimp only; split <;> rfl
theorem ReportFrame.each {α : Type} {l : List α} {f : State → α → State} (h : ∀ u a, ReportFrame u (f u a)) (s : State) :
    ReportFrame s (s.each l f) :=
  State.each_keeps (P := fun u => ReportFrame s u) (fun u a hu => hu.trans (h u a)) (ReportFrame.refl s)
theorem ReportFrame.bays {s t : State} (h : ReportFrame s t) : t.bays = s.bays := by unfold ReportFrame at h; rw [h]
theorem ReportFrame.chans {s t : State} (h : ReportFrame s t) : t.chans = s.chans := by unfold ReportFrame at h; rw [h]

theorem BayFrame.refl (b : Bay) (s : State) : BayFrame b s s := ⟨rfl, fun _ _ => rfl⟩
theorem BayFrame.trans {b : Bay} {s t u : State} (h : BayFrame b s t) (k : BayFrame b t u) : BayFrame b s u := by
  refine ⟨?_, fun c hc => (k.2 c hc).trans (h.2 c hc)⟩
  have h1 := h.1; have k1 := k.1
  rw [h1] at k1; exact k1
theorem ReportFrame.bay {s t : State} (h : ReportFrame s t) (b : Bay) : BayFrame b s t := by
  have hb := h.bays
  refine ⟨?_, fun c _ => by unfold State.bay; rw [hb]⟩
  rw [hb]; exact h
theorem BayFrame.modBay (s : State) (b : Bay) (f : BayU → BayU) : BayFrame b s (s.modBay b f) := ⟨rfl, fun _ hc => State.bay_modBay_ne s hc f⟩
theorem BayFrame.setO (b : Bay) (s : State) (k v : Nat) : BayFrame b s (s.setO k v) := (ObjFrame.setO s k v).report.bay b
theorem BayFrame.answerD (b : Bay) (s : State) (a d : Nat) : BayFrame b s (s.answerD a d) := (ObjFrame.answerD s a d).report.bay b
theorem BayFrame.answer (b : Bay) (s : State) (a : Nat) : BayFrame b s (s.answer a) := (ObjFrame.answer s a).report.bay b

theorem ChanFrame.refl (c : Chan) (s : State) : ChanFrame c s s := ⟨rfl, fun _ _ => rfl⟩
theorem ChanFrame.trans {c : Chan} {s t u : State} (h : ChanFrame c s t) (k : ChanFrame c t u) : ChanFrame c s u := by
  refine ⟨?_, fun d hd => (k.2 d hd).trans (h.2 d hd)⟩
  have h1 := h.1; have k1 := k.1
  rw [h1] at k1; exact k1
theorem ReportFrame.chan {s t : State} (h : ReportFrame s t) (c : Chan) : ChanFrame c s t := by
  have hb := h.chans
  refine ⟨?_, fun d _ => by unfold State.chan; rw [hb]⟩
  rw [hb]; exact h
theorem ChanFrame.modChan (s : State) (c : Chan) (f : ChanU → ChanU) : ChanFrame c s (s.modChan c f) :=
  ⟨rfl, fun _ hd => State.chan_modChan_ne s hd f⟩
theorem ChanFrame.setO (c : Chan) (s : State) (k v : Nat) : ChanFrame c s (s.setO k v) := (ObjFrame.setO s k v).report.chan c
theorem ChanFrame.answerD (c : Chan) (s : State) (a d : Nat) : ChanFrame c s (s.answerD a d) := (ObjFrame.answerD s a d).report.chan c
theorem ChanFrame.answer (c : Chan) (s : State) (a : Nat) : ChanFrame c s (s.answer a) := (ObjFrame.answer s a).report.chan c

theorem OnlyObjs.refl (s : State) (l : List Nat) : OnlyObjs s s l := fun _ _ => rfl
theorem OnlyObjs.setO {s t : State} {l : List Nat} (h : OnlyObjs s t l) {k : Nat} (hk : k ∈ l) (v : Nat) : OnlyObjs s (t.setO k v) l :=
  fun j hj => (State.getO_setO_ne t (fun e : j = k => hj (by rw [e]; exact hk)) v).trans (h j hj)
theorem OnlyObjs.ev {s t : State} {l : List Nat} (h : OnlyObjs s t l) : OnlyObjsEv s t l := fun k hk _ => h k hk
theorem OnlyObjsEv.setO {s t : State} {l : List Nat} (h : OnlyObjsEv s t l) {k : Nat} (hk : k ∈ l) (v : Nat) : OnlyObjsEv s (t.setO k v) l :=
  fun j hj he => (State.getO_setO_ne t (fun e : j = k => hj (by rw [e]; exact hk)) v).trans (h j hj he)
theorem OnlyObjsEv.occur {s t : State} {l : List Nat} (h : OnlyObjsEv s t l) {n : Nat} (hn : n < 2048) : OnlyObjsEv s (t.occur n) l :=
  fun j hj he => (State.getO_occur t hn he).trans (h j hj he)
theorem OnlyObjsEv.event {s t : State} {l : List Nat} (h : OnlyObjsEv s t l) {n : Nat} (hn : n < 2048) (d : Nat) : OnlyObjsEv s (t.event n d) l :=
  fun j hj he => (State.getO_event t d hn he).trans (h j hj he)
theorem OnlyObjsEv.fault {s t : State} {l : List Nat} (h : OnlyObjsEv s t l) (u k a : Nat) : OnlyObjsEv s (t.fault u k a) l :=
  fun j hj he => (State.getO_fault t u k a j).trans (h j hj he)

/-! ### Objects that a change leaves, by a test of their keys -/

/-- The objects whose keys pass a test are unchanged. -/
def KeepsObjs (P : Nat → Prop) (s t : State) : Prop := ∀ k, P k → t.getO k = s.getO k

theorem KeepsObjs.refl {P : Nat → Prop} (s : State) : KeepsObjs P s s := fun _ _ => rfl
theorem KeepsObjs.trans {P : Nat → Prop} {s t u : State} (h : KeepsObjs P s t) (k : KeepsObjs P t u) : KeepsObjs P s u :=
  fun j hj => (k j hj).trans (h j hj)
theorem KeepsObjs.of_objs {P : Nat → Prop} {s t : State} (h : t.objs = s.objs) : KeepsObjs P s t := fun j _ => State.getO_of_objs h j
theorem KeepsObjs.setO {P : Nat → Prop} {s t : State} (h : KeepsObjs P s t) {k : Nat} (hk : ¬ P k) (v : Nat) : KeepsObjs P s (t.setO k v) :=
  fun j hj => (State.getO_setO_ne t (fun e : j = k => hk (e ▸ hj)) v).trans (h j hj)
theorem KeepsObjs.fault {P : Nat → Prop} {s t : State} (h : KeepsObjs P s t) (u k a : Nat) : KeepsObjs P s (t.fault u k a) :=
  fun j hj => (State.getO_fault t u k a j).trans (h j hj)
theorem KeepsObjs.occur {P : Nat → Prop} {s t : State} (h : KeepsObjs P s t) {n : Nat} (hn : n < 2048) (hP : ∀ j, P j → eventObj j = false) :
    KeepsObjs P s (t.occur n) := fun j hj => (State.getO_occur t hn (hP j hj)).trans (h j hj)
theorem KeepsObjs.each {P : Nat → Prop} {α : Type} {l : List α} {f : State → α → State} (h : ∀ u a, a ∈ l → KeepsObjs P u (f u a)) (s : State) :
    KeepsObjs P s (s.each l f) := fun j hj => State.getO_each (fun u a ha => h u a ha j hj) s
theorem KeepsObjs.ite {P : Nat → Prop} {s t u : State} {c : Prop} [Decidable c] (h : KeepsObjs P s t) (k : KeepsObjs P s u) :
    KeepsObjs P s (if c then t else u) := by split <;> assumption

/-- What one element's step establishes, and every step keeps, holds after the steps of a list with that element. -/
theorem State.each_sets {α : Type} {l : List α} {f : State → α → State} {P : State → Prop} (a : α) (ha : a ∈ l) (h1 : ∀ u, P (f u a))
    (h2 : ∀ u b, P u → P (f u b)) (s : State) : P (s.each l f) := by
  induction l generalizing s with
  | nil => cases ha
  | cons b l ih =>
    rw [State.each_cons]
    rcases List.mem_cons.mp ha with h | h
    · subst h; exact State.each_keeps h2 (h1 s)
    · exact ih h _

theorem State.hostChan_ready {s : State} {c : Chan} {e : BitVec 16} (h : Ready s (bayOf c) e) (k : State → State) : s.hostChan c e k = k s :=
  State.hostBay_ready h k

end Sys2Proof.Machine
end

