-- ==== Sys2Proof/Laws/Bst.lean ====
section
/-! SUPPORT. What the commands that move no bay to another state leave: BAY_STATE of every bay. -/

namespace Sys2Proof.Machine

/-- BAY_STATE of bay `q` is the same in two states. -/
def Bst (q : Bay) (s t : State) : Prop := t.bst q = s.bst q

theorem Bst.refl {q : Bay} (s : State) : Bst q s s := rfl
theorem Bst.trans {q : Bay} {s t u : State} (a : Bst q s t) (b : Bst q t u) : Bst q s u := Eq.trans b a

theorem Bst.ite {q : Bay} {s a b : State} {c : Prop} [Decidable c] (ha : Bst q s a) (hb : Bst q s b) : Bst q s (if c then a else b) := by
  split <;> assumption

theorem Bst.dite {q : Bay} {s : State} {c : Prop} [Decidable c] {a : c → State} {b : ¬c → State} (ha : ∀ h, Bst q s (a h))
    (hb : ∀ h, Bst q s (b h)) : Bst q s (if h : c then a h else b h) := by
  split
  · exact ha _
  · exact hb _

theorem Bst.ite1 {q : Bay} {s : State} {α : Type} {c : Prop} [Decidable c] {a b : State × α} (ha : Bst q s a.1) (hb : Bst q s b.1) :
    Bst q s (if c then a else b).1 := by split <;> assumption
theorem Bst.ite2 {q : Bay} {s : State} {α : Type} {c : Prop} [Decidable c] {a b : α × State} (ha : Bst q s a.2) (hb : Bst q s b.2) :
    Bst q s (if c then a else b).2 := by split <;> assumption

/-- The same for a state that may be absent. -/
structure BstO (q : Bay) (s : State) (o : Option State) : Prop where
  out : ∀ {u : State}, o = some u → Bst q s u

theorem BstO.none {q : Bay} {s : State} : BstO q s none := ⟨fun h => by cases h⟩
theorem BstO.some {q : Bay} {s t : State} (h : Bst q s t) : BstO q s (some t) := ⟨fun e => by cases e; exact h⟩
theorem BstO.ite {q : Bay} {s : State} {a b : Option State} {c : Prop} [Decidable c] (ha : BstO q s a) (hb : BstO q s b) :
    BstO q s (if c then a else b) := by split <;> assumption

/-- The same for a command's outcome, where that is a next state. -/
structure BstN (q : Bay) (s : State) (o : Host.Outcome State Fault Refusal) : Prop where
  out : ∀ {u : State}, o = .next u → Bst q s u

theorem BstN.next {q : Bay} {s t : State} (h : Bst q s t) : BstN q s (.next t) := ⟨fun e => by cases e; exact h⟩
theorem BstN.ite {q : Bay} {s : State} {a b : Host.Outcome State Fault Refusal} {c : Prop} [Decidable c] (ha : BstN q s a)
    (hb : BstN q s b) : BstN q s (if c then a else b) := by split <;> assumption

theorem Bst.foldl {q : Bay} {s : State} {α : Type} {f : State → α → State} {l : List α} : ∀ {t : State}, Bst q s t →
    (∀ u a, Bst q s u → Bst q s (f u a)) → Bst q s (l.foldl f t) := by
  induction l with
  | nil => intro t h _; exact h
  | cons a l ih => intro t h hf; exact ih (hf _ _ h) hf

theorem Bst.of {q : Bay} {s t u : State} (h : Bst q s t) (e : u.objs = t.objs) : Bst q s u :=
  Eq.trans (State.getO_of_objs e _) h

/-- A state that differs from one that keeps in other fields than the objects. -/
theorem Bst.upd {q : Bay} {s t : State} (h : Bst q s t)
    {reply now fresh doms shingles bank tsets mem tags claims ridge ridgeDrv ridgeWay purlin trigOut keys groupKey
    tmKey tmPort tmTest nonces tmFirst tmRetry fwSlots fwLoad fwRollback bays chans dies ports portLost fatal log
    timers tokens injSlots injNext archived archRetry events sessions dataPorts mgmtLast shadows commit counterOn
    copies nets syncOk tpgs keeperRef holdupOk checking checkDue recheck benches store waiting blocked delays
    hostPosts postEnds binds bufs inst lastCore drains lastFired fireNo delayNo oldTick dmas dmaLast dmaPosts lanes links streams ceSince
    recovery catchAt scrubbed hbmQ ledger ledgerOld ledgerDoms ledgerCorr ledgerQ ledgerHeld ledgerDue assayed keeperAt
    keeperOff aliveHigh aliveFreq aliveAt watchdog wdArmed vauxAt tap temps beat resetDue startRef coreOut switchTo
    dropped pending} :
    Bst q s { t with
      reply := reply, now := now, fresh := fresh, doms := doms, shingles := shingles, bank := bank, tsets := tsets,
      mem := mem, tags := tags, claims := claims, ridge := ridge, ridgeDrv := ridgeDrv, ridgeWay := ridgeWay, purlin
      := purlin, trigOut := trigOut, keys := keys, groupKey := groupKey, tmKey := tmKey, tmPort := tmPort, tmTest :=
      tmTest, nonces := nonces, tmFirst := tmFirst, tmRetry := tmRetry, fwSlots := fwSlots, fwLoad := fwLoad,
      fwRollback := fwRollback, bays := bays, chans := chans, dies := dies, ports := ports, portLost := portLost,
      fatal := fatal, log := log, timers := timers, tokens := tokens, injSlots := injSlots, injNext := injNext,
      archived := archived, archRetry := archRetry, events := events, sessions := sessions, dataPorts := dataPorts,
      mgmtLast := mgmtLast, shadows := shadows, commit := commit, counterOn := counterOn, copies := copies, nets :=
      nets, syncOk := syncOk, tpgs := tpgs, keeperRef := keeperRef, holdupOk := holdupOk, checking := checking,
      checkDue := checkDue, recheck := recheck, benches := benches, store := store, waiting := waiting, blocked :=
      blocked, delays := delays, hostPosts := hostPosts, postEnds := postEnds, binds := binds, bufs := bufs, inst :=
      inst, lastCore := lastCore, drains := drains, lastFired := lastFired, fireNo := fireNo, delayNo := delayNo, oldTick := oldTick, dmas := dmas, dmaLast := dmaLast, dmaPosts
      := dmaPosts, lanes := lanes, links := links, streams := streams, ceSince := ceSince, recovery := recovery,
      catchAt := catchAt, scrubbed := scrubbed, hbmQ := hbmQ, ledger := ledger, ledgerOld := ledgerOld, ledgerDoms := ledgerDoms,
      ledgerCorr := ledgerCorr, ledgerQ := ledgerQ, ledgerHeld := ledgerHeld, ledgerDue := ledgerDue, assayed :=
      assayed, keeperAt := keeperAt, keeperOff := keeperOff, aliveHigh := aliveHigh, aliveFreq := aliveFreq, aliveAt
      := aliveAt, watchdog := watchdog, wdArmed := wdArmed, vauxAt := vauxAt, tap := tap, temps := temps, beat :=
      beat, resetDue := resetDue, startRef := startRef, coreOut := coreOut, switchTo := switchTo, dropped := dropped,
      pending := pending } := Bst.of h rfl

end Sys2Proof.Machine
end

