-- ==== Sys2Proof/Laws/BstOps.lean ====
section
/-! SUPPORT. What the operations of Machine/Ops.lean keep. -/

set_option linter.all false

namespace Sys2Proof.Machine

theorem State.setO_bst {q : Bay} {s : State} {x_s : State} {x_k x_v : Nat} (h_x_s : Bst q s x_s)
    (hk : x_k ≠ keyB q RBay.BAY_STATE) : Bst q s (State.setO x_s x_k x_v) :=
  Eq.trans (State.getO_setO_ne x_s hk.symm x_v) h_x_s

theorem State.setB_bst {q : Bay} {s : State} {x_s : State} {x_b : Bay} {x_o x_v : Nat} (h_x_s : Bst q s x_s)
    (hk : x_o % 65536 ≠ 1) : Bst q s (State.setB x_s x_b x_o x_v) :=
  State.setO_bst h_x_s (by simp only [keyB, RBay.BAY_STATE]; omega)

theorem State.setC_bst {q : Bay} {s : State} {x_s : State} {x_c : Chan} {x_o : Nat} {x_v : Nat} (h_x_s : Bst q s x_s) : Bst q s (State.setC x_s x_c x_o x_v) := by
  unfold State.setC
  repeat' first
    | (with_reducible first | assumption | exact Bst.refl _)
    | (show _ ≠ _; first | decide | omega | (simp only [keyB, keyC, keyCap, keySite, keyPc, keyA, keyG, keyBench, keyNode, keyEng, keyDma, keyLane, keyLink, keyStream, keyStack, keyPort, keyTpg, key, RBay.BAY_STATE, ne_eq]; omega) | (simp only [keyB, keyC, keyCap, keySite, keyPc, keyA, keyG, keyBench, keyNode, keyEng, keyDma, keyLane, keyLink, keyStream, keyStack, keyPort, keyTpg, key, RBay.BAY_STATE, ne_eq, List.mem_range, List.mem_cons, List.not_mem_nil, or_false] at *; omega) | (split <;> first | decide | (simp only [keyB, keyC, keyCap, keySite, keyPc, keyA, keyG, keyBench, keyNode, keyEng, keyDma, keyLane, keyLink, keyStream, keyStack, keyPort, keyTpg, key, RBay.BAY_STATE, ne_eq]; omega)))
    | with_reducible apply State.setO_bst

theorem State.setS_bst {q : Bay} {s : State} {x_s : State} {x_i : Site} {x_sub x_v : Nat} (h_x_s : Bst q s x_s)
    (hk : x_sub < 256) : Bst q s (State.setS x_s x_i x_sub x_v) :=
  State.setO_bst h_x_s (by simp only [keyB, keySite, key, RBay.BAY_STATE]; omega)

theorem State.incO_bst {q : Bay} {s : State} {x_s : State} {x_k : Nat} (h_x_s : Bst q s x_s)
    (hk : x_k ≠ keyB q RBay.BAY_STATE) : Bst q s (State.incO x_s x_k) := State.setO_bst h_x_s hk

theorem State.incB_bst {q : Bay} {s : State} {x_s : State} {x_b : Bay} {x_o : Nat} (h_x_s : Bst q s x_s)
    (hk : x_o % 65536 ≠ 1) : Bst q s (State.incB x_s x_b x_o) := State.setB_bst h_x_s hk

theorem State.incC_bst {q : Bay} {s : State} {x_s : State} {x_c : Chan} {x_o : Nat} (h_x_s : Bst q s x_s) : Bst q s (State.incC x_s x_c x_o) := by
  unfold State.incC
  repeat' first
    | (with_reducible first | assumption | exact Bst.refl _ | apply State.setC_bst)

theorem State.flagB_bst {q : Bay} {s : State} {x_s : State} {x_b : Bay} {x_o x_bit : Nat} (h_x_s : Bst q s x_s)
    (hk : x_o % 65536 ≠ 1) : Bst q s (State.flagB x_s x_b x_o x_bit) := State.setB_bst h_x_s hk

theorem State.flagC_bst {q : Bay} {s : State} {x_s : State} {x_c : Chan} {x_o : Nat} {x_bit : Nat} (h_x_s : Bst q s x_s) : Bst q s (State.flagC x_s x_c x_o x_bit) := by
  unfold State.flagC
  repeat' first
    | (with_reducible first | assumption | exact Bst.refl _ | apply State.setC_bst)

theorem State.modBay_bst {q : Bay} {s : State} {x_s : State} {x_b : Bay} {x_f : BayU → BayU} (h_x_s : Bst q s x_s) : Bst q s (State.modBay x_s x_b x_f) := by
  unfold State.modBay
  repeat' first
    | (with_reducible first | assumption | exact Bst.refl _)
    | (refine Bst.upd ?_)

theorem State.modChan_bst {q : Bay} {s : State} {x_s : State} {x_c : Chan} {x_f : ChanU → ChanU} (h_x_s : Bst q s x_s) : Bst q s (State.modChan x_s x_c x_f) := by
  unfold State.modChan
  repeat' first
    | (with_reducible first | assumption | exact Bst.refl _)
    | (refine Bst.upd ?_)

theorem State.modDie_bst {q : Bay} {s : State} {x_s : State} {x_d : Die} {x_f : DieU → DieU} (h_x_s : Bst q s x_s) : Bst q s (State.modDie x_s x_d x_f) := by
  unfold State.modDie
  repeat' first
    | (with_reducible first | assumption | exact Bst.refl _)
    | (refine Bst.upd ?_)

theorem State.each_bst {q : Bay} {s t : State} {α : Type} {l : List α} {f : State → α → State} (h : Bst q s t)
    (hf : ∀ u a, a ∈ l → Bst q s u → Bst q s (f u a)) : Bst q s (t.each l f) := by
  unfold State.each
  induction l generalizing t with
  | nil => exact h
  | cons a l ih => exact ih (hf _ _ List.mem_cons_self h) (fun u x hx => hf u x (List.mem_cons_of_mem _ hx))

theorem State.answer_bst {q : Bay} {s : State} {x_s : State} {x_status : Nat} (h_x_s : Bst q s x_s) : Bst q s (State.answer x_s x_status) := by
  unfold State.answer
  repeat' first
    | (with_reducible first | assumption | exact Bst.refl _)
    | (refine Bst.upd ?_)

theorem State.answerD_bst {q : Bay} {s : State} {x_s : State} {x_status : Nat} {x_detail : Nat} (h_x_s : Bst q s x_s) : Bst q s (State.answerD x_s x_status x_detail) := by
  unfold State.answerD
  repeat' first
    | (with_reducible first | assumption | exact Bst.refl _)
    | (refine Bst.upd ?_)

theorem State.answerBody_bst {q : Bay} {s : State} {x_s : State} {x_body : Bytes} (h_x_s : Bst q s x_s) : Bst q s (State.answerBody x_s x_body) := by
  unfold State.answerBody
  repeat' first
    | (with_reducible first | assumption | exact Bst.refl _)
    | (refine Bst.upd ?_)

theorem State.ok_bst {q : Bay} {s : State} {x_s : State} (h_x_s : Bst q s x_s) : Bst q s (State.ok x_s) := by
  unfold State.ok
  repeat' first
    | (with_reducible first | assumption | exact Bst.refl _ | apply State.answer_bst)

theorem State.eventCount_bst {q : Bay} {s : State} {x_s : State} {x_n : Nat} {x_t : Nat} {x_detail : Nat} (h_x_s : Bst q s x_s) : Bst q s (State.eventCount x_s x_n x_t x_detail) := by
  unfold State.eventCount
  repeat' first
    | (with_reducible first | assumption | exact Bst.refl _)
    | (show _ ≠ _; first | decide | omega | (simp only [keyB, keyC, keyCap, keySite, keyPc, keyA, keyG, keyBench, keyNode, keyEng, keyDma, keyLane, keyLink, keyStream, keyStack, keyPort, keyTpg, key, RBay.BAY_STATE, ne_eq, RSrc.COUNT, RSrc.LAST_DETAIL, RSrc.LAST_TIME]; omega) | (simp only [keyB, keyC, keyCap, keySite, keyPc, keyA, keyG, keyBench, keyNode, keyEng, keyDma, keyLane, keyLink, keyStream, keyStack, keyPort, keyTpg, key, RBay.BAY_STATE, ne_eq, RSrc.COUNT, RSrc.LAST_DETAIL, RSrc.LAST_TIME, List.mem_range, List.mem_cons, List.not_mem_nil, or_false] at *; omega) | (split <;> first | decide | (simp only [keyB, keyC, keyCap, keySite, keyPc, keyA, keyG, keyBench, keyNode, keyEng, keyDma, keyLane, keyLink, keyStream, keyStack, keyPort, keyTpg, key, RBay.BAY_STATE, ne_eq, RSrc.COUNT, RSrc.LAST_DETAIL, RSrc.LAST_TIME]; omega)))
    | (intro x_1; refine (fun hx : Bst q s x_1 => ?_) ?_; (clear_value x_1); rotate_left; (unfold x_1))
    | (intro x_1; clear_value x_1)
    | intro _
    | with_reducible apply State.setO_bst
    | lift_lets -underBinder

theorem State.eventNotes_bst {q : Bay} {s : State} {x_s : State} {x_n : Nat} {x_t : Nat} {x_detail : Nat} (h_x_s : Bst q s x_s) : Bst q s (State.eventNotes x_s x_n x_t x_detail) := by
  unfold State.eventNotes
  repeat' first
    | (with_reducible first | assumption | exact Bst.refl _)
    | intro _
    | with_reducible apply Bst.ite
    | (refine Bst.upd ?_)

theorem State.eventRoom_bst {q : Bay} {s : State} {x_s : State} (h_x_s : Bst q s x_s) : Bst q s (State.eventRoom x_s) := by
  unfold State.eventRoom
  repeat' first
    | (with_reducible first | assumption | exact Bst.refl _)
    | (show _ ≠ _; first | decide | omega | (simp only [keyB, keyC, keyCap, keySite, keyPc, keyA, keyG, keyBench, keyNode, keyEng, keyDma, keyLane, keyLink, keyStream, keyStack, keyPort, keyTpg, key, RBay.BAY_STATE, ne_eq, R.EVENT_LOG_LOST]; omega) | (simp only [keyB, keyC, keyCap, keySite, keyPc, keyA, keyG, keyBench, keyNode, keyEng, keyDma, keyLane, keyLink, keyStream, keyStack, keyPort, keyTpg, key, RBay.BAY_STATE, ne_eq, R.EVENT_LOG_LOST, List.mem_range, List.mem_cons, List.not_mem_nil, or_false] at *; omega) | (split <;> first | decide | (simp only [keyB, keyC, keyCap, keySite, keyPc, keyA, keyG, keyBench, keyNode, keyEng, keyDma, keyLane, keyLink, keyStream, keyStack, keyPort, keyTpg, key, RBay.BAY_STATE, ne_eq, R.EVENT_LOG_LOST]; omega)))
    | (with_reducible first | apply State.incO_bst | apply Bst.ite)

theorem State.eventPut_bst {q : Bay} {s : State} {x_s : State} {x_r : EventRec} (h_x_s : Bst q s x_s) : Bst q s (State.eventPut x_s x_r) := by
  unfold State.eventPut
  repeat' first
    | (with_reducible first | assumption | exact Bst.refl _)
    | (show _ ≠ _; first | decide | omega | (simp only [keyB, keyC, keyCap, keySite, keyPc, keyA, keyG, keyBench, keyNode, keyEng, keyDma, keyLane, keyLink, keyStream, keyStack, keyPort, keyTpg, key, RBay.BAY_STATE, ne_eq, R.EVENT_LOG_COUNT]; omega) | (simp only [keyB, keyC, keyCap, keySite, keyPc, keyA, keyG, keyBench, keyNode, keyEng, keyDma, keyLane, keyLink, keyStream, keyStack, keyPort, keyTpg, key, RBay.BAY_STATE, ne_eq, R.EVENT_LOG_COUNT, List.mem_range, List.mem_cons, List.not_mem_nil, or_false] at *; omega) | (split <;> first | decide | (simp only [keyB, keyC, keyCap, keySite, keyPc, keyA, keyG, keyBench, keyNode, keyEng, keyDma, keyLane, keyLink, keyStream, keyStack, keyPort, keyTpg, key, RBay.BAY_STATE, ne_eq, R.EVENT_LOG_COUNT]; omega)))
    | intro _
    | (with_reducible first | apply State.setO_bst)
    | (refine Bst.upd ?_)

theorem State.eventLog_bst {q : Bay} {s : State} {x_s : State} {x_n : Nat} {x_t : Nat} {x_detail : Nat} (h_x_s : Bst q s x_s) : Bst q s (State.eventLog x_s x_n x_t x_detail) := by
  unfold State.eventLog
  repeat' first
    | (with_reducible first | assumption | exact Bst.refl _ | apply State.eventPut_bst | apply State.eventRoom_bst | apply Bst.ite)

theorem State.event_bst {q : Bay} {s : State} {x_s : State} {x_n : Nat} {x_detail : Nat} (h_x_s : Bst q s x_s) : Bst q s (State.event x_s x_n x_detail) := by
  unfold State.event
  repeat' first
    | (with_reducible first | assumption | exact Bst.refl _ | apply State.eventLog_bst | apply State.eventNotes_bst | apply State.eventCount_bst)

theorem State.free_bst {q : Bay} {s : State} {x_s : State} (h_x_s : Bst q s x_s) : Bst q s (State.free x_s).2 := by
  unfold State.free
  repeat' first
    | (with_reducible first | assumption | exact Bst.refl _ | apply Bst.ite2)
    | dsimp only
    | (refine Bst.upd ?_)
    | (refine Bst.upd ?_)

theorem State.freeBit_bst {q : Bay} {s : State} {x_s : State} (h_x_s : Bst q s x_s) : Bst q s (State.freeBit x_s).2 := by
  unfold State.freeBit
  repeat' first
    | (with_reducible first | assumption | exact Bst.refl _ | apply Bst.ite2)
    | dsimp only
    | (refine Bst.upd ?_)
    | (refine Bst.upd ?_)

theorem State.occur_bst {q : Bay} {s : State} {x_s : State} {x_n : Nat} (h_x_s : Bst q s x_s) : Bst q s (State.occur x_s x_n) := by
  unfold State.occur
  repeat' first
    | (with_reducible first | assumption | exact Bst.refl _ | apply State.event_bst | apply State.free_bst | apply Bst.ite2)
    | dsimp only

theorem State.send_bst {q : Bay} {s : State} {x_s : State} {x_m : FaultMsg} (h_x_s : Bst q s x_s) : Bst q s (State.send x_s x_m) := by
  unfold State.send
  repeat' first
    | (with_reducible first | assumption | exact Bst.refl _)
    | (intro x_1; refine (fun hx : Bst q s x_1 => ?_) ?_; (clear_value x_1); rotate_left; (unfold x_1))
    | (intro x_1; clear_value x_1)
    | intro _
    | with_reducible apply Bst.ite
    | lift_lets -underBinder
    | (refine Bst.upd ?_)

theorem State.fault_bst {q : Bay} {s : State} {x_s : State} {x_unit : Nat} {x_kind : Nat} {x_address : Nat} (h_x_s : Bst q s x_s) : Bst q s (State.fault x_s x_unit x_kind x_address) := by
  unfold State.fault
  repeat' first
    | (with_reducible first | assumption | exact Bst.refl _ | apply State.send_bst)

theorem State.stale_bst {q : Bay} {s : State} {x_s : State} {x_b : Bay} (h_x_s : Bst q s x_s) : Bst q s (State.stale x_s x_b) := by
  unfold State.stale
  repeat' first
    | (with_reducible first | assumption | exact Bst.refl _)
    | (show _ ≠ _; first | decide | omega | (simp only [keyB, keyC, keyCap, keySite, keyPc, keyA, keyG, keyBench, keyNode, keyEng, keyDma, keyLane, keyLink, keyStream, keyStack, keyPort, keyTpg, key, RBay.BAY_STATE, ne_eq, RBay.SITE_EPOCH, RBay.STALE_COUNT]; omega) | (simp only [keyB, keyC, keyCap, keySite, keyPc, keyA, keyG, keyBench, keyNode, keyEng, keyDma, keyLane, keyLink, keyStream, keyStack, keyPort, keyTpg, key, RBay.BAY_STATE, ne_eq, RBay.SITE_EPOCH, RBay.STALE_COUNT, List.mem_range, List.mem_cons, List.not_mem_nil, or_false] at *; omega) | (split <;> first | decide | (simp only [keyB, keyC, keyCap, keySite, keyPc, keyA, keyG, keyBench, keyNode, keyEng, keyDma, keyLane, keyLink, keyStream, keyStack, keyPort, keyTpg, key, RBay.BAY_STATE, ne_eq, RBay.SITE_EPOCH, RBay.STALE_COUNT]; omega)))
    | (with_reducible first | apply State.answerD_bst | apply State.occur_bst | apply State.incB_bst)

theorem State.hostBay_bst {q : Bay} {s : State} {x_s : State} {x_b : Bay} {x_epoch : BitVec 16} (x_k : State → State) (h_x_s : Bst q s x_s) (h_x_k : ∀ (v0 : State), Bst q s v0 → Bst q s (x_k v0)) : Bst q s (State.hostBay x_s x_b x_epoch x_k) := by
  unfold State.hostBay
  repeat' first
    | (with_reducible first | assumption | exact Bst.refl _ | apply h_x_k | apply State.answer_bst | apply State.stale_bst | apply Bst.ite)

theorem State.hostBayFirm_bst {q : Bay} {s : State} {x_s : State} {x_b : Bay} {x_epoch : BitVec 16} (x_k : State → State) (h_x_s : Bst q s x_s) (h_x_k : ∀ (v0 : State), Bst q s v0 → Bst q s (x_k v0)) : Bst q s (State.hostBayFirm x_s x_b x_epoch x_k) := by
  unfold State.hostBayFirm
  repeat' first
    | (with_reducible first | assumption | exact Bst.refl _)
    | intro _
    | (with_reducible first | apply h_x_k | apply State.hostBay_bst | apply State.answer_bst | apply Bst.ite)
    | split

theorem State.hostChan_bst {q : Bay} {s : State} {x_s : State} {x_c : Chan} {x_epoch : BitVec 16} (x_k : State → State) (h_x_s : Bst q s x_s) (h_x_k : ∀ (v0 : State), Bst q s v0 → Bst q s (x_k v0)) : Bst q s (State.hostChan x_s x_c x_epoch x_k) := by
  unfold State.hostChan
  repeat' first
    | (with_reducible first | assumption | exact Bst.refl _ | apply h_x_k | apply State.hostBay_bst)

theorem State.hostModule_bst {q : Bay} {s : State} {x_s : State} (x_k : State → State) (h_x_s : Bst q s x_s) (h_x_k : ∀ (v0 : State), Bst q s v0 → Bst q s (x_k v0)) : Bst q s (State.hostModule x_s x_k) := by
  unfold State.hostModule
  repeat' first
    | (with_reducible first | assumption | exact Bst.refl _ | apply h_x_k | apply State.answer_bst | apply Bst.ite)

theorem State.hostFirm_bst {q : Bay} {s : State} {x_s : State} (x_k : State → State) (h_x_s : Bst q s x_s) (h_x_k : ∀ (v0 : State), Bst q s v0 → Bst q s (x_k v0)) : Bst q s (State.hostFirm x_s x_k) := by
  unfold State.hostFirm
  repeat' first
    | (with_reducible first | assumption | exact Bst.refl _)
    | intro _
    | (with_reducible first | apply h_x_k | apply State.hostModule_bst | apply State.answer_bst | apply Bst.ite)

theorem State.markSite_bst {q : Bay} {s : State} {x_s : State} {x_i : Site} {x_bit : Nat} (h_x_s : Bst q s x_s) : Bst q s (State.markSite x_s x_i x_bit) := by
  unfold State.markSite
  repeat' first
    | (with_reducible first | assumption | exact Bst.refl _)
    | (show _ ≠ _; first | decide | omega | (simp only [keyB, keyC, keyCap, keySite, keyPc, keyA, keyG, keyBench, keyNode, keyEng, keyDma, keyLane, keyLink, keyStream, keyStack, keyPort, keyTpg, key, RBay.BAY_STATE, ne_eq, RSite.SITE_STATUS]; omega) | (simp only [keyB, keyC, keyCap, keySite, keyPc, keyA, keyG, keyBench, keyNode, keyEng, keyDma, keyLane, keyLink, keyStream, keyStack, keyPort, keyTpg, key, RBay.BAY_STATE, ne_eq, RSite.SITE_STATUS, List.mem_range, List.mem_cons, List.not_mem_nil, or_false] at *; omega) | (split <;> first | decide | (simp only [keyB, keyC, keyCap, keySite, keyPc, keyA, keyG, keyBench, keyNode, keyEng, keyDma, keyLane, keyLink, keyStream, keyStack, keyPort, keyTpg, key, RBay.BAY_STATE, ne_eq, RSite.SITE_STATUS]; omega)))
    | (show _ < _; first | decide | omega | (simp only [keyB, keyC, keyCap, keySite, keyPc, keyA, keyG, keyBench, keyNode, keyEng, keyDma, keyLane, keyLink, keyStream, keyStack, keyPort, keyTpg, key, RBay.BAY_STATE, ne_eq, RSite.SITE_STATUS]; omega) | (simp only [keyB, keyC, keyCap, keySite, keyPc, keyA, keyG, keyBench, keyNode, keyEng, keyDma, keyLane, keyLink, keyStream, keyStack, keyPort, keyTpg, key, RBay.BAY_STATE, ne_eq, RSite.SITE_STATUS, List.mem_range, List.mem_cons, List.not_mem_nil, or_false] at *; omega) | (split <;> first | decide | (simp only [keyB, keyC, keyCap, keySite, keyPc, keyA, keyG, keyBench, keyNode, keyEng, keyDma, keyLane, keyLink, keyStream, keyStack, keyPort, keyTpg, key, RBay.BAY_STATE, ne_eq, RSite.SITE_STATUS]; omega)))
    | with_reducible apply State.setS_bst

theorem State.markSites_bst {q : Bay} {s : State} {x_s : State} {x_b : Bay} {x_bit : Nat} (h_x_s : Bst q s x_s) : Bst q s (State.markSites x_s x_b x_bit) := by
  unfold State.markSites
  repeat' first
    | (with_reducible first | assumption | exact Bst.refl _)
    | intro _
    | (with_reducible first | apply State.each_bst | apply State.markSite_bst)

theorem State.invalidChan_bst {q : Bay} {s : State} {x_s : State} {x_c : Chan} (h_x_s : Bst q s x_s) : Bst q s (State.invalidChan x_s x_c) := by
  unfold State.invalidChan
  repeat' first
    | (with_reducible first | assumption | exact Bst.refl _ | apply State.markSite_bst | exact BstO.none | apply BstO.some | apply BstO.ite)
    | split
    | (refine Bst.upd ?_)

theorem State.inhibit_bst {q : Bay} {s : State} {x_s : State} {x_c : Chan} {x_cause : Nat} {x_on : Bool} (h_x_s : Bst q s x_s) : Bst q s (State.inhibit x_s x_c x_cause x_on) := by
  unfold State.inhibit
  repeat' first
    | (with_reducible first | assumption | exact Bst.refl _ | apply State.setC_bst)

theorem State.inhibitBay_bst {q : Bay} {s : State} {x_s : State} {x_b : Bay} {x_cause : Nat} {x_on : Bool} (h_x_s : Bst q s x_s) : Bst q s (State.inhibitBay x_s x_b x_cause x_on) := by
  unfold State.inhibitBay
  repeat' first
    | (with_reducible first | assumption | exact Bst.refl _)
    | intro _
    | (with_reducible first | apply State.each_bst | apply State.inhibit_bst)

theorem claimKey_ne (r : Resource) (q : Bay) : claimKey r ≠ keyB q RBay.BAY_STATE := by
  cases r <;> simp only [claimKey, keyB, RBay.BAY_STATE, RBay.CLAIM_BLANK_TIMER, RBay.CLAIM_PROBE_ROUTE, RBay.CLAIM_CAPTURE_PARTITION,
    RBay.CLAIM_SPARE_PATH, R.CLAIM_TRIG, R.CLAIM_RIDGE, R.CLAIM_TPG] <;> omega

theorem State.setClaim_bst {q : Bay} {s : State} {x_s : State} {x_r : Resource} {x_owner x_feature : Nat} (h_x_s : Bst q s x_s) :
    Bst q s (State.setClaim x_s x_r x_owner x_feature) := State.setO_bst (Bst.of h_x_s rfl) (claimKey_ne _ _)

theorem State.freeClaim_bst {q : Bay} {s : State} {x_s : State} {x_r : Resource} (h_x_s : Bst q s x_s) :
    Bst q s (State.freeClaim x_s x_r) := State.setO_bst (Bst.of h_x_s rfl) (claimKey_ne _ _)

theorem State.releaseOwner_bst {q : Bay} {s : State} {x_s : State} {x_owner : Nat} (h_x_s : Bst q s x_s) : Bst q s (State.releaseOwner x_s x_owner) := by
  unfold State.releaseOwner
  repeat' first
    | (with_reducible first | assumption | exact Bst.refl _)
    | intro _
    | (with_reducible first | apply State.each_bst | apply State.freeClaim_bst | exact BstO.none | apply BstO.some | apply BstO.ite | apply Bst.ite)
    | split
    | (refine Bst.upd ?_)

theorem State.dropEvent_bst {q : Bay} {s : State} {x_s : State} {x_island : Nat} (h_x_s : Bst q s x_s) : Bst q s (State.dropEvent x_s x_island) := by
  unfold State.dropEvent
  repeat' first
    | (with_reducible first | assumption | exact Bst.refl _)
    | (refine Bst.upd ?_)

end Sys2Proof.Machine
end

