-- ==== Sys2Proof/Laws/BstHoldup.lean ====
section
/-! SUPPORT. What the operations of Machine/Holdup.lean keep. -/

set_option linter.all false

namespace Sys2Proof.Machine

theorem State.recordCheck_bst {q : Bay} {s : State} {x_s : State} {x_m : Sample} (h_x_s : Bst q s x_s) : Bst q s (State.recordCheck x_s x_m) := by
  unfold State.recordCheck
  repeat' first
    | (with_reducible first | assumption | exact Bst.refl _)
    | (show _ ≠ _; first | decide | omega | (simp only [keyB, keyC, keyCap, keySite, keyPc, keyA, keyG, keyBench, keyNode, keyEng, keyDma, keyLane, keyLink, keyStream, keyStack, keyPort, keyTpg, key, RBay.BAY_STATE, ne_eq, R.HOLDUP_CAP, R.HOLDUP_CHECK_TIME, R.HOLDUP_ENERGY, R.HOLDUP_ESR, R.HOLDUP_STATE, R.HOLDUP_VOLTAGE, R.START_STATUS]; omega) | (simp only [keyB, keyC, keyCap, keySite, keyPc, keyA, keyG, keyBench, keyNode, keyEng, keyDma, keyLane, keyLink, keyStream, keyStack, keyPort, keyTpg, key, RBay.BAY_STATE, ne_eq, R.HOLDUP_CAP, R.HOLDUP_CHECK_TIME, R.HOLDUP_ENERGY, R.HOLDUP_ESR, R.HOLDUP_STATE, R.HOLDUP_VOLTAGE, R.START_STATUS, List.mem_range, List.mem_cons, List.not_mem_nil, or_false] at *; omega) | (split <;> first | decide | (simp only [keyB, keyC, keyCap, keySite, keyPc, keyA, keyG, keyBench, keyNode, keyEng, keyDma, keyLane, keyLink, keyStream, keyStack, keyPort, keyTpg, key, RBay.BAY_STATE, ne_eq, R.HOLDUP_CAP, R.HOLDUP_CHECK_TIME, R.HOLDUP_ENERGY, R.HOLDUP_ESR, R.HOLDUP_STATE, R.HOLDUP_VOLTAGE, R.START_STATUS]; omega)))
    | (intro x_1; refine (fun hx : Bst q s x_1 => ?_) ?_; (clear_value x_1); rotate_left; (unfold x_1))
    | (intro x_1; clear_value x_1)
    | intro _
    | (with_reducible first | apply State.setO_bst | apply State.fault_bst | apply Bst.ite)
    | lift_lets -underBinder
    | (refine Bst.upd ?_)

theorem State.refuseCommit_bst {q : Bay} {s : State} {x_s : State} {x_cls : Nat} {x_unit : Nat} (h_x_s : Bst q s x_s) : Bst q s (State.refuseCommit x_s x_cls x_unit) := by
  unfold State.refuseCommit
  repeat' first
    | (with_reducible first | assumption | exact Bst.refl _)
    | (show _ ≠ _; first | decide | omega | (simp only [keyB, keyC, keyCap, keySite, keyPc, keyA, keyG, keyBench, keyNode, keyEng, keyDma, keyLane, keyLink, keyStream, keyStack, keyPort, keyTpg, key, RBay.BAY_STATE, ne_eq, R.HOLDUP_REFUSALS, R.LAST_REFUSED]; omega) | (simp only [keyB, keyC, keyCap, keySite, keyPc, keyA, keyG, keyBench, keyNode, keyEng, keyDma, keyLane, keyLink, keyStream, keyStack, keyPort, keyTpg, key, RBay.BAY_STATE, ne_eq, R.HOLDUP_REFUSALS, R.LAST_REFUSED, List.mem_range, List.mem_cons, List.not_mem_nil, or_false] at *; omega) | (split <;> first | decide | (simp only [keyB, keyC, keyCap, keySite, keyPc, keyA, keyG, keyBench, keyNode, keyEng, keyDma, keyLane, keyLink, keyStream, keyStack, keyPort, keyTpg, key, RBay.BAY_STATE, ne_eq, R.HOLDUP_REFUSALS, R.LAST_REFUSED]; omega)))
    | (with_reducible first | apply State.answer_bst | apply State.event_bst | apply State.setO_bst | apply State.incO_bst)

theorem State.commitGate_bst {q : Bay} {s : State} {x_s : State} {x_m : Sample} {x_cls : Nat} {x_unit : Nat} (x_k : State → State) (h_x_s : Bst q s x_s) (h_x_k : ∀ (v0 : State), Bst q s v0 → Bst q s (x_k v0)) : Bst q s (State.commitGate x_s x_m x_cls x_unit x_k) := by
  unfold State.commitGate
  repeat' first
    | (with_reducible first | assumption | exact Bst.refl _)
    | (intro x_1; refine (fun hx : Bst q s x_1 => ?_) ?_; (clear_value x_1); rotate_left; (unfold x_1))
    | (intro x_1; clear_value x_1)
    | intro _
    | (with_reducible first | apply h_x_k | apply State.refuseCommit_bst | apply State.recordCheck_bst | apply Bst.ite)
    | lift_lets -underBinder

theorem State.ledgerWrite_bst {q : Bay} {s : State} {x_s : State} (h_x_s : Bst q s x_s) : Bst q s (State.ledgerWrite x_s) := by
  unfold State.ledgerWrite
  repeat' first
    | (with_reducible first | assumption | exact Bst.refl _)
    | (show _ ≠ _; first | decide | omega | (simp only [keyB, keyC, keyCap, keySite, keyPc, keyA, keyG, keyBench, keyNode, keyEng, keyDma, keyLane, keyLink, keyStream, keyStack, keyPort, keyTpg, key, RBay.BAY_STATE, ne_eq, R.LEDGER_FREE, R.LEDGER_SEQ, R.LEDGER_STATE]; omega) | (simp only [keyB, keyC, keyCap, keySite, keyPc, keyA, keyG, keyBench, keyNode, keyEng, keyDma, keyLane, keyLink, keyStream, keyStack, keyPort, keyTpg, key, RBay.BAY_STATE, ne_eq, R.LEDGER_FREE, R.LEDGER_SEQ, R.LEDGER_STATE, List.mem_range, List.mem_cons, List.not_mem_nil, or_false] at *; omega) | (split <;> first | decide | (simp only [keyB, keyC, keyCap, keySite, keyPc, keyA, keyG, keyBench, keyNode, keyEng, keyDma, keyLane, keyLink, keyStream, keyStack, keyPort, keyTpg, key, RBay.BAY_STATE, ne_eq, R.LEDGER_FREE, R.LEDGER_SEQ, R.LEDGER_STATE]; omega)))
    | (intro x_1; refine (fun hx : Bst q s x_1 => ?_) ?_; (clear_value x_1); rotate_left; (unfold x_1))
    | (intro x_1; refine (fun hx : Bst q s x_1.2 => ?_) ?_; (clear_value x_1); rotate_left; (unfold x_1))
    | (intro x_1; clear_value x_1)
    | intro _
    | (with_reducible first | apply State.setO_bst | apply State.free_bst | apply Bst.ite | apply Bst.ite2)
    | lift_lets -underBinder
    | dsimp only

theorem State.ledgerPut_bst {q : Bay} {s : State} {x_s : State} {x_keys : List Nat} (h_x_s : Bst q s x_s) : Bst q s (State.ledgerPut x_s x_keys) := by
  unfold State.ledgerPut
  repeat' first
    | (with_reducible first | assumption | exact Bst.refl _)
    | intro _
    | with_reducible apply Bst.foldl
    | (refine Bst.upd ?_)

end Sys2Proof.Machine
end

