-- ==== Sys2Proof/Laws/BstHbm.lean ====
section
/-! SUPPORT. What the operations of Machine/Hbm.lean keep. -/

set_option linter.all false

namespace Sys2Proof.Machine

theorem State.putMem_bst {q : Bay} {s : State} {x_s : State} {x_a : Nat} {x_data : Bytes} {x_tag : Nat} (h_x_s : Bst q s x_s) : Bst q s (State.putMem x_s x_a x_data x_tag) := by
  unfold State.putMem
  repeat' first
    | (with_reducible first | assumption | exact Bst.refl _)
    | (intro x_1; refine (fun hx : Bst q s x_1 => ?_) ?_; (clear_value x_1); rotate_left; (unfold x_1))
    | (intro x_1; clear_value x_1)
    | intro _
    | (with_reducible first | apply State.each_bst | apply Bst.ite)
    | lift_lets -underBinder
    | (refine Bst.upd ?_)
    | (refine Bst.upd ?_)

theorem State.writeBlocks_bst {q : Bay} {s : State} {x_s : State} {x_addr : Nat} {x_data : Bytes} {x_stamp : Nat} (h_x_s : Bst q s x_s) : Bst q s (State.writeBlocks x_s x_addr x_data x_stamp) := by
  unfold State.writeBlocks
  repeat' first
    | (with_reducible first | assumption | exact Bst.refl _)
    | (intro x_1; refine (fun hx : Bst q s x_1 => ?_) ?_; (clear_value x_1); rotate_left; (unfold x_1))
    | (intro x_1; clear_value x_1)
    | intro _
    | with_reducible apply State.each_bst
    | lift_lets -underBinder
    | (refine Bst.upd ?_)
    | (refine Bst.upd ?_)

theorem State.startRecovery_bst {q : Bay} {s : State} {x_s : State} {x_pc : Nat} (h_x_s : Bst q s x_s) : Bst q s (State.startRecovery x_s x_pc) := by
  unfold State.startRecovery
  repeat' first
    | (with_reducible first | assumption | exact Bst.refl _)
    | (show _ ≠ _; first | decide | omega | (simp only [keyB, keyC, keyCap, keySite, keyPc, keyA, keyG, keyBench, keyNode, keyEng, keyDma, keyLane, keyLink, keyStream, keyStack, keyPort, keyTpg, key, RBay.BAY_STATE, ne_eq, RPc.PC_STATE]; omega) | (simp only [keyB, keyC, keyCap, keySite, keyPc, keyA, keyG, keyBench, keyNode, keyEng, keyDma, keyLane, keyLink, keyStream, keyStack, keyPort, keyTpg, key, RBay.BAY_STATE, ne_eq, RPc.PC_STATE, List.mem_range, List.mem_cons, List.not_mem_nil, or_false] at *; omega) | (split <;> first | decide | (simp only [keyB, keyC, keyCap, keySite, keyPc, keyA, keyG, keyBench, keyNode, keyEng, keyDma, keyLane, keyLink, keyStream, keyStack, keyPort, keyTpg, key, RBay.BAY_STATE, ne_eq, RPc.PC_STATE]; omega)))
    | (with_reducible first | apply State.setO_bst | apply Bst.ite)
    | (refine Bst.upd ?_)

theorem State.countCe_bst {q : Bay} {s : State} {x_s : State} {x_pc : Nat} (h_x_s : Bst q s x_s) : Bst q s (State.countCe x_s x_pc) := by
  unfold State.countCe
  repeat' first
    | (with_reducible first | assumption | exact Bst.refl _)
    | (show _ ≠ _; first | decide | omega | (simp only [keyB, keyC, keyCap, keySite, keyPc, keyA, keyG, keyBench, keyNode, keyEng, keyDma, keyLane, keyLink, keyStream, keyStack, keyPort, keyTpg, key, RBay.BAY_STATE, ne_eq, R.CE_THRESHOLD, RPc.CE_COUNT]; omega) | (simp only [keyB, keyC, keyCap, keySite, keyPc, keyA, keyG, keyBench, keyNode, keyEng, keyDma, keyLane, keyLink, keyStream, keyStack, keyPort, keyTpg, key, RBay.BAY_STATE, ne_eq, R.CE_THRESHOLD, RPc.CE_COUNT, List.mem_range, List.mem_cons, List.not_mem_nil, or_false] at *; omega) | (split <;> first | decide | (simp only [keyB, keyC, keyCap, keySite, keyPc, keyA, keyG, keyBench, keyNode, keyEng, keyDma, keyLane, keyLink, keyStream, keyStack, keyPort, keyTpg, key, RBay.BAY_STATE, ne_eq, R.CE_THRESHOLD, RPc.CE_COUNT]; omega)))
    | (intro x_1; refine (fun hx : Bst q s x_1 => ?_) ?_; (clear_value x_1); rotate_left; (unfold x_1))
    | (intro x_1; clear_value x_1)
    | intro _
    | (with_reducible first | apply State.incO_bst | apply State.startRecovery_bst | apply State.fault_bst | apply State.occur_bst | apply Bst.ite)
    | lift_lets -underBinder
    | (refine Bst.upd ?_)

theorem State.countUe_bst {q : Bay} {s : State} {x_s : State} {x_a : Nat} (h_x_s : Bst q s x_s) : Bst q s (State.countUe x_s x_a) := by
  unfold State.countUe
  repeat' first
    | (with_reducible first | assumption | exact Bst.refl _)
    | (show _ ≠ _; first | decide | omega | (simp only [keyB, keyC, keyCap, keySite, keyPc, keyA, keyG, keyBench, keyNode, keyEng, keyDma, keyLane, keyLink, keyStream, keyStack, keyPort, keyTpg, key, RBay.BAY_STATE, ne_eq, RPc.LAST_ERROR_ADDR, RPc.UE_COUNT]; omega) | (simp only [keyB, keyC, keyCap, keySite, keyPc, keyA, keyG, keyBench, keyNode, keyEng, keyDma, keyLane, keyLink, keyStream, keyStack, keyPort, keyTpg, key, RBay.BAY_STATE, ne_eq, RPc.LAST_ERROR_ADDR, RPc.UE_COUNT, List.mem_range, List.mem_cons, List.not_mem_nil, or_false] at *; omega) | (split <;> first | decide | (simp only [keyB, keyC, keyCap, keySite, keyPc, keyA, keyG, keyBench, keyNode, keyEng, keyDma, keyLane, keyLink, keyStream, keyStack, keyPort, keyTpg, key, RBay.BAY_STATE, ne_eq, RPc.LAST_ERROR_ADDR, RPc.UE_COUNT]; omega)))
    | (intro x_1; refine (fun hx : Bst q s x_1 => ?_) ?_; (clear_value x_1); rotate_left; (unfold x_1))
    | (intro x_1; clear_value x_1)
    | intro _
    | (with_reducible first | apply State.setO_bst | apply State.incO_bst | apply State.fault_bst | apply State.occur_bst)
    | lift_lets -underBinder

theorem State.checkBlock_bst {q : Bay} {s : State} {x_s : State} {x_a : Nat} {x_a2 : Ecc} (h_x_s : Bst q s x_s) : Bst q s (State.checkBlock x_s x_a x_a2) := by
  unfold State.checkBlock
  repeat' first
    | (with_reducible first | assumption | exact Bst.refl _ | apply State.countCe_bst | apply State.countUe_bst)
    | split

theorem State.countTag_bst {q : Bay} {s : State} {x_s : State} {x_addr : Nat} {x_n : Nat} (h_x_s : Bst q s x_s) : Bst q s (State.countTag x_s x_addr x_n) := by
  unfold State.countTag
  repeat' first
    | (with_reducible first | assumption | exact Bst.refl _)
    | (show _ ≠ _; first | decide | omega | (simp only [keyB, keyC, keyCap, keySite, keyPc, keyA, keyG, keyBench, keyNode, keyEng, keyDma, keyLane, keyLink, keyStream, keyStack, keyPort, keyTpg, key, RBay.BAY_STATE, ne_eq, RPc.TAG_MISMATCH]; omega) | (simp only [keyB, keyC, keyCap, keySite, keyPc, keyA, keyG, keyBench, keyNode, keyEng, keyDma, keyLane, keyLink, keyStream, keyStack, keyPort, keyTpg, key, RBay.BAY_STATE, ne_eq, RPc.TAG_MISMATCH, List.mem_range, List.mem_cons, List.not_mem_nil, or_false] at *; omega) | (split <;> first | decide | (simp only [keyB, keyC, keyCap, keySite, keyPc, keyA, keyG, keyBench, keyNode, keyEng, keyDma, keyLane, keyLink, keyStream, keyStack, keyPort, keyTpg, key, RBay.BAY_STATE, ne_eq, RPc.TAG_MISMATCH]; omega)))
    | (intro x_1; refine (fun hx : Bst q s x_1 => ?_) ?_; (clear_value x_1); rotate_left; (unfold x_1))
    | (intro x_1; clear_value x_1)
    | intro _
    | with_reducible apply State.setO_bst
    | lift_lets -underBinder

theorem State.checkBlocks_bst {q : Bay} {s : State} {x_s : State} {x_a : Nat} {x_len : Nat} {x_eccs : List Ecc} (h_x_s : Bst q s x_s) : Bst q s (State.checkBlocks x_s x_a x_len x_eccs) := by
  unfold State.checkBlocks
  repeat' first
    | (with_reducible first | assumption | exact Bst.refl _)
    | (show _ ≠ _; first | decide | omega | (simp only [keyB, keyC, keyCap, keySite, keyPc, keyA, keyG, keyBench, keyNode, keyEng, keyDma, keyLane, keyLink, keyStream, keyStack, keyPort, keyTpg, key, RBay.BAY_STATE, ne_eq]; omega) | (simp only [keyB, keyC, keyCap, keySite, keyPc, keyA, keyG, keyBench, keyNode, keyEng, keyDma, keyLane, keyLink, keyStream, keyStack, keyPort, keyTpg, key, RBay.BAY_STATE, ne_eq, List.mem_range, List.mem_cons, List.not_mem_nil, or_false] at *; omega) | (split <;> first | decide | (simp only [keyB, keyC, keyCap, keySite, keyPc, keyA, keyG, keyBench, keyNode, keyEng, keyDma, keyLane, keyLink, keyStream, keyStack, keyPort, keyTpg, key, RBay.BAY_STATE, ne_eq]; omega)))
    | intro _
    | (with_reducible first | apply State.each_bst | apply State.checkBlock_bst)
    | dsimp only

theorem State.modHbm_bst {q : Bay} {s : State} {x_s : State} {x_f : HbmQ → HbmQ} (h_x_s : Bst q s x_s) : Bst q s (State.modHbm x_s x_f) := by
  unfold State.modHbm
  repeat' first
    | (with_reducible first | assumption | exact Bst.refl _)
    | intro _
    | (refine Bst.upd ?_)

theorem State.servePcs_bst {q : Bay} {s : State} {x_s : State} {x_l : List (Fin 64)} (h_x_s : Bst q s x_s) : Bst q s (State.servePcs x_s x_l) := by
  unfold State.servePcs
  repeat' first
    | (with_reducible first | assumption | exact Bst.refl _)
    | (show _ ≠ _; first | decide | omega | (simp only [keyB, keyC, keyCap, keySite, keyPc, keyA, keyG, keyBench, keyNode, keyEng, keyDma, keyLane, keyLink, keyStream, keyStack, keyPort, keyTpg, key, RBay.BAY_STATE, ne_eq]; omega) | (simp only [keyB, keyC, keyCap, keySite, keyPc, keyA, keyG, keyBench, keyNode, keyEng, keyDma, keyLane, keyLink, keyStream, keyStack, keyPort, keyTpg, key, RBay.BAY_STATE, ne_eq, List.mem_range, List.mem_cons, List.not_mem_nil, or_false] at *; omega) | (split <;> first | decide | (simp only [keyB, keyC, keyCap, keySite, keyPc, keyA, keyG, keyBench, keyNode, keyEng, keyDma, keyLane, keyLink, keyStream, keyStack, keyPort, keyTpg, key, RBay.BAY_STATE, ne_eq]; omega)))
    | intro _
    | (with_reducible first | apply State.each_bst | apply State.modHbm_bst)
    | (refine Bst.upd ?_)

theorem State.takeSlots_bst {q : Bay} {s : State} {x_s : State} {x_c : MemClass} {x_a : Nat} {x_len : Nat} (h_x_s : Bst q s x_s) : Bst q s (State.takeSlots x_s x_c x_a x_len) := by
  unfold State.takeSlots
  repeat' first
    | (with_reducible first | assumption | exact Bst.refl _)
    | (show _ ≠ _; first | decide | omega | (simp only [keyB, keyC, keyCap, keySite, keyPc, keyA, keyG, keyBench, keyNode, keyEng, keyDma, keyLane, keyLink, keyStream, keyStack, keyPort, keyTpg, key, RBay.BAY_STATE, ne_eq]; omega) | (simp only [keyB, keyC, keyCap, keySite, keyPc, keyA, keyG, keyBench, keyNode, keyEng, keyDma, keyLane, keyLink, keyStream, keyStack, keyPort, keyTpg, key, RBay.BAY_STATE, ne_eq, List.mem_range, List.mem_cons, List.not_mem_nil, or_false] at *; omega) | (split <;> first | decide | (simp only [keyB, keyC, keyCap, keySite, keyPc, keyA, keyG, keyBench, keyNode, keyEng, keyDma, keyLane, keyLink, keyStream, keyStack, keyPort, keyTpg, key, RBay.BAY_STATE, ne_eq]; omega)))
    | (intro x_1; refine (fun hx : Bst q s x_1 => ?_) ?_; (clear_value x_1); rotate_left; (unfold x_1))
    | (intro x_1; clear_value x_1)
    | intro _
    | (with_reducible first | apply State.each_bst | apply State.servePcs_bst | apply State.modHbm_bst)
    | lift_lets -underBinder
    | dsimp only
    | (refine Bst.upd ?_)

end Sys2Proof.Machine
end

