-- ==== Sys2Proof/Laws/BstSpare.lean ====
section
/-! SUPPORT. What the operations of Machine/Spare.lean keep. -/

set_option linter.all false

namespace Sys2Proof.Machine

theorem State.modRoll_bst {q : Bay} {s : State} {x_s : State} {x_b : Bay} {x_f : Roll → Roll} (h_x_s : Bst q s x_s) : Bst q s (State.modRoll x_s x_b x_f) := by
  unfold State.modRoll
  repeat' first
    | (with_reducible first | assumption | exact Bst.refl _)
    | intro _
    | with_reducible apply State.modBay_bst
    | (refine Bst.upd ?_)

theorem State.ownPath_bst {q : Bay} {s : State} {x_s : State} {x_b : Bay} (h_x_s : Bst q s x_s) : Bst q s (State.ownPath x_s x_b) := by
  unfold State.ownPath
  repeat' first
    | (with_reducible first | assumption | exact Bst.refl _)
    | intro _
    | (with_reducible first | apply State.modRoll_bst | apply State.setC_bst | exact BstO.none | apply BstO.some | apply BstO.ite)
    | split
    | (refine Bst.upd ?_)

theorem State.oldValues_bst {q : Bay} {s : State} {x_s : State} {x_b : Bay} (h_x_s : Bst q s x_s) : Bst q s (State.oldValues x_s x_b) := by
  unfold State.oldValues
  repeat' first
    | (with_reducible first | assumption | exact Bst.refl _)
    | intro _
    | (with_reducible first | apply State.modRoll_bst | apply State.each_bst | apply State.setC_bst | exact BstO.none | apply BstO.some | apply BstO.ite)
    | split
    | (refine Bst.upd ?_)

theorem State.claimSpare_bst {q : Bay} {s : State} {x_s : State} {x_b : Bay} {x_feature : Nat} (h_x_s : Bst q s x_s) : Bst q s (State.claimSpare x_s x_b x_feature) := by
  unfold State.claimSpare
  repeat' first
    | (with_reducible first | assumption | exact Bst.refl _ | apply State.setClaim_bst)

theorem State.stepOver_bst {q : Bay} {s : State} {x_s : State} {x_b : Bay} (h_x_s : Bst q s x_s) : Bst q s (State.stepOver x_s x_b) := by
  unfold State.stepOver
  repeat' first
    | (with_reducible first | assumption | exact Bst.refl _)
    | (show _ ≠ _; first | decide | omega | (simp only [keyB, keyC, keyCap, keySite, keyPc, keyA, keyG, keyBench, keyNode, keyEng, keyDma, keyLane, keyLink, keyStream, keyStack, keyPort, keyTpg, key, RBay.BAY_STATE, ne_eq, R.ROLL_INTERVAL, RAssay.LAST_ROUND, RAssay.ROLL_ENABLE, RAssay.ROLL_STATE, RAssay.ROUNDS]; omega) | (simp only [keyB, keyC, keyCap, keySite, keyPc, keyA, keyG, keyBench, keyNode, keyEng, keyDma, keyLane, keyLink, keyStream, keyStack, keyPort, keyTpg, key, RBay.BAY_STATE, ne_eq, R.ROLL_INTERVAL, RAssay.LAST_ROUND, RAssay.ROLL_ENABLE, RAssay.ROLL_STATE, RAssay.ROUNDS, List.mem_range, List.mem_cons, List.not_mem_nil, or_false] at *; omega) | (split <;> first | decide | (simp only [keyB, keyC, keyCap, keySite, keyPc, keyA, keyG, keyBench, keyNode, keyEng, keyDma, keyLane, keyLink, keyStream, keyStack, keyPort, keyTpg, key, RBay.BAY_STATE, ne_eq, R.ROLL_INTERVAL, RAssay.LAST_ROUND, RAssay.ROLL_ENABLE, RAssay.ROLL_STATE, RAssay.ROUNDS]; omega)))
    | (intro x_1; refine (fun hx : Bst q s x_1 => ?_) ?_; (clear_value x_1); rotate_left; (unfold x_1))
    | (intro x_1; clear_value x_1)
    | intro _
    | (with_reducible first | apply State.modRoll_bst | apply State.setO_bst | apply State.freeClaim_bst | apply Bst.ite)
    | lift_lets -underBinder
    | (refine Bst.upd ?_)

theorem State.rollAbort_bst {q : Bay} {s : State} {x_s : State} {x_b : Bay} (h_x_s : Bst q s x_s) : Bst q s (State.rollAbort x_s x_b) := by
  unfold State.rollAbort
  repeat' first
    | (with_reducible first | assumption | exact Bst.refl _)
    | (show _ ≠ _; first | decide | omega | (simp only [keyB, keyC, keyCap, keySite, keyPc, keyA, keyG, keyBench, keyNode, keyEng, keyDma, keyLane, keyLink, keyStream, keyStack, keyPort, keyTpg, key, RBay.BAY_STATE, ne_eq, RAssay.STEP_ABORTS]; omega) | (simp only [keyB, keyC, keyCap, keySite, keyPc, keyA, keyG, keyBench, keyNode, keyEng, keyDma, keyLane, keyLink, keyStream, keyStack, keyPort, keyTpg, key, RBay.BAY_STATE, ne_eq, RAssay.STEP_ABORTS, List.mem_range, List.mem_cons, List.not_mem_nil, or_false] at *; omega) | (split <;> first | decide | (simp only [keyB, keyC, keyCap, keySite, keyPc, keyA, keyG, keyBench, keyNode, keyEng, keyDma, keyLane, keyLink, keyStream, keyStack, keyPort, keyTpg, key, RBay.BAY_STATE, ne_eq, RAssay.STEP_ABORTS]; omega)))
    | (intro x_1; refine (fun hx : Bst q s x_1 => ?_) ?_; (clear_value x_1); rotate_left; (unfold x_1))
    | (intro x_1; clear_value x_1)
    | intro _
    | (with_reducible first | apply State.incO_bst | apply State.ownPath_bst | apply State.oldValues_bst | apply State.stepOver_bst | apply Bst.ite)
    | lift_lets -underBinder

theorem State.shadowGranule_bst {q : Bay} {s : State} {x_s : State} {x_b : Bay} (h_x_s : Bst q s x_s) : Bst q s (State.shadowGranule x_s x_b) := by
  unfold State.shadowGranule
  repeat' first
    | (with_reducible first | assumption | exact Bst.refl _)
    | intro _
    | (with_reducible first | apply State.modRoll_bst | apply Bst.ite)
    | (refine Bst.upd ?_)

end Sys2Proof.Machine
end

