-- ==== Sys2Proof/Laws/BstChannel.lean ====
section
/-! SUPPORT. What the operations of Machine/Channel.lean keep. -/

set_option linter.all false

namespace Sys2Proof.Machine

theorem State.setCodes_bst {q : Bay} {s : State} {x_s : State} {x_c : Chan} {x_o : Nat} {x_l : List Nat} (h_x_s : Bst q s x_s) : Bst q s (State.setCodes x_s x_c x_o x_l) := by
  unfold State.setCodes
  repeat' first
    | (with_reducible first | assumption | exact Bst.refl _)
    | intro _
    | (with_reducible first | apply State.each_bst | apply State.setC_bst)

theorem State.noteCode_bst {q : Bay} {s : State} {x_s : State} {x_c : Chan} {x_m : Fin 10} (h_x_s : Bst q s x_s) : Bst q s (State.noteCode x_s x_c x_m) := by
  unfold State.noteCode
  repeat' first
    | (with_reducible first | assumption | exact Bst.refl _)
    | (intro x_1; refine (fun hx : Bst q s x_1 => ?_) ?_; (clear_value x_1); rotate_left; (unfold x_1))
    | (intro x_1; clear_value x_1)
    | intro _
    | (with_reducible first | apply State.modChan_bst | exact BstO.none | apply BstO.some | apply BstO.ite)
    | lift_lets -underBinder
    | (refine Bst.upd ?_)

theorem State.setOutputs_bst {q : Bay} {s : State} {x_s : State} {x_c : Chan} {x_l : List Nat} (h_x_s : Bst q s x_s) : Bst q s (State.setOutputs x_s x_c x_l) := by
  unfold State.setOutputs
  repeat' first
    | (with_reducible first | assumption | exact Bst.refl _)
    | (intro x_1; refine (fun hx : Bst q s x_1 => ?_) ?_; (clear_value x_1); rotate_left; (unfold x_1))
    | (intro x_1; clear_value x_1)
    | intro _
    | (with_reducible first | apply State.each_bst | apply State.noteCode_bst | apply State.setC_bst | apply Bst.ite)
    | lift_lets -underBinder

theorem State.selectLevels_bst {q : Bay} {s : State} {x_s : State} {x_b : Bay} {x_n : Nat} (h_x_s : Bst q s x_s) : Bst q s (State.selectLevels x_s x_b x_n) := by
  unfold State.selectLevels
  repeat' first
    | (with_reducible first | assumption | exact Bst.refl _)
    | (show _ ≠ _; first | decide | omega | (simp only [keyB, keyC, keyCap, keySite, keyPc, keyA, keyG, keyBench, keyNode, keyEng, keyDma, keyLane, keyLink, keyStream, keyStack, keyPort, keyTpg, key, RBay.BAY_STATE, ne_eq, RBay.CURRENT_LVL, RChan.SHADOW_CODE]; omega) | (simp only [keyB, keyC, keyCap, keySite, keyPc, keyA, keyG, keyBench, keyNode, keyEng, keyDma, keyLane, keyLink, keyStream, keyStack, keyPort, keyTpg, key, RBay.BAY_STATE, ne_eq, RBay.CURRENT_LVL, RChan.SHADOW_CODE, List.mem_range, List.mem_cons, List.not_mem_nil, or_false] at *; omega) | (split <;> first | decide | (simp only [keyB, keyC, keyCap, keySite, keyPc, keyA, keyG, keyBench, keyNode, keyEng, keyDma, keyLane, keyLink, keyStream, keyStack, keyPort, keyTpg, key, RBay.BAY_STATE, ne_eq, RBay.CURRENT_LVL, RChan.SHADOW_CODE]; omega)))
    | intro _
    | (with_reducible first | apply State.setB_bst | apply State.each_bst | apply State.setCodes_bst)

theorem State.modRef_bst {q : Bay} {s : State} {x_s : State} {x_b : Bay} {x_f : RefChan → RefChan} (h_x_s : Bst q s x_s) : Bst q s (State.modRef x_s x_b x_f) := by
  unfold State.modRef
  repeat' first
    | (with_reducible first | assumption | exact Bst.refl _)
    | intro _
    | (with_reducible first | apply State.modBay_bst)
    | (refine Bst.upd ?_)

theorem State.setRef_bst {q : Bay} {s : State} {x_s : State} {x_b : Bay} {x_l : List Nat} (h_x_s : Bst q s x_s) : Bst q s (State.setRef x_s x_b x_l) := by
  unfold State.setRef
  repeat' first
    | (with_reducible first | assumption | exact Bst.refl _)
    | (intro x_1; refine (fun hx : Bst q s x_1 => ?_) ?_; (clear_value x_1); rotate_left; (unfold x_1))
    | (intro x_1; clear_value x_1)
    | intro _
    | (with_reducible first | apply State.modRef_bst | apply Bst.ite)
    | lift_lets -underBinder
    | split
    | dsimp only
    | (refine Bst.upd ?_)

theorem State.loadRef_bst {q : Bay} {s : State} {x_s : State} {x_b : Bay} (h_x_s : Bst q s x_s) : Bst q s (State.loadRef x_s x_b) := by
  unfold State.loadRef
  repeat' first
    | (with_reducible first | assumption | exact Bst.refl _)
    | (with_reducible first | apply State.setRef_bst)

theorem State.clearRef_bst {q : Bay} {s : State} {x_s : State} {x_b : Bay} (h_x_s : Bst q s x_s) : Bst q s (State.clearRef x_s x_b) := by
  unfold State.clearRef
  repeat' first
    | (with_reducible first | assumption | exact Bst.refl _)
    | (with_reducible first | apply State.setRef_bst)

theorem State.load_bst {q : Bay} {s : State} {x_s : State} {x_b : Bay} (h_x_s : Bst q s x_s) : Bst q s (State.load x_s x_b) := by
  unfold State.load
  repeat' first
    | (with_reducible first | assumption | exact Bst.refl _)
    | (show _ ≠ _; first | decide | omega | (simp only [keyB, keyC, keyCap, keySite, keyPc, keyA, keyG, keyBench, keyNode, keyEng, keyDma, keyLane, keyLink, keyStream, keyStack, keyPort, keyTpg, key, RBay.BAY_STATE, ne_eq, RBay.LOAD_COUNT]; omega) | (simp only [keyB, keyC, keyCap, keySite, keyPc, keyA, keyG, keyBench, keyNode, keyEng, keyDma, keyLane, keyLink, keyStream, keyStack, keyPort, keyTpg, key, RBay.BAY_STATE, ne_eq, RBay.LOAD_COUNT, List.mem_range, List.mem_cons, List.not_mem_nil, or_false] at *; omega) | (split <;> first | decide | (simp only [keyB, keyC, keyCap, keySite, keyPc, keyA, keyG, keyBench, keyNode, keyEng, keyDma, keyLane, keyLink, keyStream, keyStack, keyPort, keyTpg, key, RBay.BAY_STATE, ne_eq, RBay.LOAD_COUNT]; omega)))
    | (intro x_1; refine (fun hx : Bst q s x_1 => ?_) ?_; (clear_value x_1); rotate_left; (unfold x_1))
    | (intro x_1; clear_value x_1)
    | intro _
    | (with_reducible first | apply State.incB_bst | apply State.modBay_bst | apply State.loadRef_bst | apply State.each_bst | apply State.setOutputs_bst | apply Bst.ite)
    | lift_lets -underBinder
    | split
    | dsimp only
    | (refine Bst.upd ?_)

theorem State.writeLevels_bst {q : Bay} {s : State} {x_s : State} {x_c : Chan} {x_n : Nat} {x_l : List Nat} (h_x_s : Bst q s x_s) : Bst q s (State.writeLevels x_s x_c x_n x_l) := by
  unfold State.writeLevels
  repeat' first
    | (with_reducible first | assumption | exact Bst.refl _)
    | (intro x_1; refine (fun hx : Bst q s x_1 => ?_) ?_; (clear_value x_1); rotate_left; (unfold x_1))
    | (intro x_1; clear_value x_1)
    | intro _
    | (with_reducible first | apply State.setCodes_bst | apply Bst.ite)
    | lift_lets -underBinder

theorem State.endMeas_bst {q : Bay} {s : State} {x_s : State} {x_c : Chan} {x_status : Nat} (h_x_s : Bst q s x_s) : Bst q s (State.endMeas x_s x_c x_status) := by
  unfold State.endMeas
  repeat' first
    | (with_reducible first | assumption | exact Bst.refl _)
    | (intro x_1; refine (fun hx : Bst q s x_1 => ?_) ?_; (clear_value x_1); rotate_left; (unfold x_1))
    | (intro x_1; clear_value x_1)
    | intro _
    | (with_reducible first | apply State.setC_bst | apply Bst.ite)
    | lift_lets -underBinder

theorem State.pmuOff_bst {q : Bay} {s : State} {x_s : State} {x_c : Chan} (h_x_s : Bst q s x_s) : Bst q s (State.pmuOff x_s x_c) := by
  unfold State.pmuOff
  repeat' first
    | (with_reducible first | assumption | exact Bst.refl _ | apply State.endMeas_bst | apply State.inhibit_bst | apply State.setC_bst | apply Bst.ite)

theorem State.pmuOffBay_bst {q : Bay} {s : State} {x_s : State} {x_b : Bay} (h_x_s : Bst q s x_s) : Bst q s (State.pmuOffBay x_s x_b) := by
  unfold State.pmuOffBay
  repeat' first
    | (with_reducible first | assumption | exact Bst.refl _)
    | intro _
    | (with_reducible first | apply State.each_bst | apply State.pmuOff_bst)

theorem State.showClear_bst {q : Bay} {s : State} {x_s : State} {x_d : Die} (h_x_s : Bst q s x_s) : Bst q s (State.showClear x_s x_d) := by
  unfold State.showClear
  repeat' first
    | (with_reducible first | assumption | exact Bst.refl _)
    | (show _ ≠ _; first | decide | omega | (simp only [keyB, keyC, keyCap, keySite, keyPc, keyA, keyG, keyBench, keyNode, keyEng, keyDma, keyLane, keyLink, keyStream, keyStack, keyPort, keyTpg, key, RBay.BAY_STATE, ne_eq, RBay.CLEAR_STATE]; omega) | (simp only [keyB, keyC, keyCap, keySite, keyPc, keyA, keyG, keyBench, keyNode, keyEng, keyDma, keyLane, keyLink, keyStream, keyStack, keyPort, keyTpg, key, RBay.BAY_STATE, ne_eq, RBay.CLEAR_STATE, List.mem_range, List.mem_cons, List.not_mem_nil, or_false] at *; omega) | (split <;> first | decide | (simp only [keyB, keyC, keyCap, keySite, keyPc, keyA, keyG, keyBench, keyNode, keyEng, keyDma, keyLane, keyLink, keyStream, keyStack, keyPort, keyTpg, key, RBay.BAY_STATE, ne_eq, RBay.CLEAR_STATE]; omega)))
    | intro _
    | (with_reducible first | apply State.each_bst | apply State.setB_bst)

theorem State.clearChan_bst {q : Bay} {s : State} {x_s : State} {x_c : Chan} (h_x_s : Bst q s x_s) : Bst q s (State.clearChan x_s x_c) := by
  unfold State.clearChan
  repeat' first
    | (with_reducible first | assumption | exact Bst.refl _ | apply State.setC_bst | apply State.pmuOff_bst | apply State.inhibit_bst | apply State.setOutputs_bst)

theorem State.showGuard_bst {q : Bay} {s : State} {x_s : State} {x_c : Chan} (h_x_s : Bst q s x_s) : Bst q s (State.showGuard x_s x_c) := by
  unfold State.showGuard
  repeat' first
    | (with_reducible first | assumption | exact Bst.refl _)
    | (intro x_1; refine (fun hx : Bst q s x_1 => ?_) ?_; (clear_value x_1); rotate_left; (unfold x_1))
    | (intro x_1; clear_value x_1)
    | intro _
    | (with_reducible first | apply State.setC_bst | apply Bst.ite)
    | lift_lets -underBinder

theorem State.unresolve_bst {q : Bay} {s : State} {x_s : State} {x_c : Chan} (h_x_s : Bst q s x_s) : Bst q s (State.unresolve x_s x_c) := by
  unfold State.unresolve
  repeat' first
    | (with_reducible first | assumption | exact Bst.refl _)
    | (intro x_1; refine (fun hx : Bst q s x_1 => ?_) ?_; (clear_value x_1); rotate_left; (unfold x_1))
    | (intro x_1; clear_value x_1)
    | intro _
    | (with_reducible first | apply State.modChan_bst | apply State.showGuard_bst | apply State.inhibit_bst | apply State.setC_bst)
    | lift_lets -underBinder
    | (refine Bst.upd ?_)

theorem State.assayAbort_bst {q : Bay} {s : State} {x_s : State} {x_b : Bay} (h_x_s : Bst q s x_s) : Bst q s (State.assayAbort x_s x_b) := by
  unfold State.assayAbort
  repeat' first
    | (with_reducible first | assumption | exact Bst.refl _)
    | (show _ ≠ _; first | decide | omega | (simp only [keyB, keyC, keyCap, keySite, keyPc, keyA, keyG, keyBench, keyNode, keyEng, keyDma, keyLane, keyLink, keyStream, keyStack, keyPort, keyTpg, key, RBay.BAY_STATE, ne_eq, RAssay.BAY_ASSAY_STATUS]; omega) | (simp only [keyB, keyC, keyCap, keySite, keyPc, keyA, keyG, keyBench, keyNode, keyEng, keyDma, keyLane, keyLink, keyStream, keyStack, keyPort, keyTpg, key, RBay.BAY_STATE, ne_eq, RAssay.BAY_ASSAY_STATUS, List.mem_range, List.mem_cons, List.not_mem_nil, or_false] at *; omega) | (split <;> first | decide | (simp only [keyB, keyC, keyCap, keySite, keyPc, keyA, keyG, keyBench, keyNode, keyEng, keyDma, keyLane, keyLink, keyStream, keyStack, keyPort, keyTpg, key, RBay.BAY_STATE, ne_eq, RAssay.BAY_ASSAY_STATUS]; omega)))
    | intro _
    | (with_reducible first | apply State.setO_bst | apply State.each_bst | apply State.unresolve_bst | apply Bst.ite)

theorem State.assertClear_bst {q : Bay} {s : State} {x_s : State} {x_d : Die} {x_src : Nat} (h_x_s : Bst q s x_s) : Bst q s (State.assertClear x_s x_d x_src) := by
  unfold State.assertClear
  repeat' first
    | (with_reducible first | assumption | exact Bst.refl _)
    | (show _ ≠ _; first | decide | omega | (simp only [keyB, keyC, keyCap, keySite, keyPc, keyA, keyG, keyBench, keyNode, keyEng, keyDma, keyLane, keyLink, keyStream, keyStack, keyPort, keyTpg, key, RBay.BAY_STATE, ne_eq]; omega) | (simp only [keyB, keyC, keyCap, keySite, keyPc, keyA, keyG, keyBench, keyNode, keyEng, keyDma, keyLane, keyLink, keyStream, keyStack, keyPort, keyTpg, key, RBay.BAY_STATE, ne_eq, List.mem_range, List.mem_cons, List.not_mem_nil, or_false] at *; omega) | (split <;> first | decide | (simp only [keyB, keyC, keyCap, keySite, keyPc, keyA, keyG, keyBench, keyNode, keyEng, keyDma, keyLane, keyLink, keyStream, keyStack, keyPort, keyTpg, key, RBay.BAY_STATE, ne_eq]; omega)))
    | (intro x_1; refine (fun hx : Bst q s x_1 => ?_) ?_; (clear_value x_1); rotate_left; (unfold x_1))
    | (intro x_1; clear_value x_1)
    | intro _
    | (with_reducible first | apply State.showClear_bst | apply State.modDie_bst | apply State.each_bst | apply State.assayAbort_bst | apply State.clearRef_bst | apply State.rollAbort_bst | apply State.clearChan_bst | apply Bst.ite)
    | lift_lets -underBinder
    | split
    | dsimp only
    | (refine Bst.upd ?_)

theorem State.releaseClear_bst {q : Bay} {s : State} {x_s : State} {x_d : Die} {x_src : Nat} (h_x_s : Bst q s x_s) : Bst q s (State.releaseClear x_s x_d x_src) := by
  unfold State.releaseClear
  repeat' first
    | (with_reducible first | assumption | exact Bst.refl _)
    | (intro x_1; refine (fun hx : Bst q s x_1 => ?_) ?_; (clear_value x_1); rotate_left; (unfold x_1))
    | (intro x_1; clear_value x_1)
    | intro _
    | (with_reducible first | apply State.showClear_bst | apply State.modDie_bst | apply State.each_bst | apply State.inhibitBay_bst | apply Bst.ite)
    | lift_lets -underBinder
    | (refine Bst.upd ?_)

theorem State.setLatch_bst {q : Bay} {s : State} {x_s : State} {x_c : Chan} {x_under : Bool} {x_scope : Nat} (h_x_s : Bst q s x_s) : Bst q s (State.setLatch x_s x_c x_under x_scope) := by
  unfold State.setLatch
  repeat' first
    | (with_reducible first | assumption | exact Bst.refl _)
    | (show _ ≠ _; first | decide | omega | (simp only [keyB, keyC, keyCap, keySite, keyPc, keyA, keyG, keyBench, keyNode, keyEng, keyDma, keyLane, keyLink, keyStream, keyStack, keyPort, keyTpg, key, RBay.BAY_STATE, ne_eq, RBay.BAY_TRIP, RBay.BAY_TRIP_SOURCE, RChan.GUARD_STATE, RChan.TRIP_COUNT]; omega) | (simp only [keyB, keyC, keyCap, keySite, keyPc, keyA, keyG, keyBench, keyNode, keyEng, keyDma, keyLane, keyLink, keyStream, keyStack, keyPort, keyTpg, key, RBay.BAY_STATE, ne_eq, RBay.BAY_TRIP, RBay.BAY_TRIP_SOURCE, RChan.GUARD_STATE, RChan.TRIP_COUNT, List.mem_range, List.mem_cons, List.not_mem_nil, or_false] at *; omega) | (split <;> first | decide | (simp only [keyB, keyC, keyCap, keySite, keyPc, keyA, keyG, keyBench, keyNode, keyEng, keyDma, keyLane, keyLink, keyStream, keyStack, keyPort, keyTpg, key, RBay.BAY_STATE, ne_eq, RBay.BAY_TRIP, RBay.BAY_TRIP_SOURCE, RChan.GUARD_STATE, RChan.TRIP_COUNT]; omega)))
    | (intro x_1; refine (fun hx : Bst q s x_1 => ?_) ?_; (clear_value x_1); rotate_left; (unfold x_1))
    | (intro x_1; clear_value x_1)
    | intro _
    | (with_reducible first | apply State.flagC_bst | apply State.incC_bst | apply State.modChan_bst | apply State.setB_bst | apply State.inhibitBay_bst | apply State.inhibit_bst | apply State.send_bst | apply Bst.ite)
    | lift_lets -underBinder
    | (refine Bst.upd ?_)
    | (refine Bst.upd ?_)

theorem State.clearLatches_bst {q : Bay} {s : State} {x_s : State} {x_c : Chan} (h_x_s : Bst q s x_s) : Bst q s (State.clearLatches x_s x_c) := by
  unfold State.clearLatches
  repeat' first
    | (with_reducible first | assumption | exact Bst.refl _)
    | (show _ ≠ _; first | decide | omega | (simp only [keyB, keyC, keyCap, keySite, keyPc, keyA, keyG, keyBench, keyNode, keyEng, keyDma, keyLane, keyLink, keyStream, keyStack, keyPort, keyTpg, key, RBay.BAY_STATE, ne_eq, RBay.BAY_TRIP, RBay.BAY_TRIP_SOURCE, RChan.GUARD_STATE]; omega) | (simp only [keyB, keyC, keyCap, keySite, keyPc, keyA, keyG, keyBench, keyNode, keyEng, keyDma, keyLane, keyLink, keyStream, keyStack, keyPort, keyTpg, key, RBay.BAY_STATE, ne_eq, RBay.BAY_TRIP, RBay.BAY_TRIP_SOURCE, RChan.GUARD_STATE, List.mem_range, List.mem_cons, List.not_mem_nil, or_false] at *; omega) | (split <;> first | decide | (simp only [keyB, keyC, keyCap, keySite, keyPc, keyA, keyG, keyBench, keyNode, keyEng, keyDma, keyLane, keyLink, keyStream, keyStack, keyPort, keyTpg, key, RBay.BAY_STATE, ne_eq, RBay.BAY_TRIP, RBay.BAY_TRIP_SOURCE, RChan.GUARD_STATE]; omega)))
    | (intro x_1; refine (fun hx : Bst q s x_1 => ?_) ?_; (clear_value x_1); rotate_left; (unfold x_1))
    | (intro x_1; clear_value x_1)
    | intro _
    | (with_reducible first | apply State.setC_bst | apply State.inhibit_bst | apply State.modChan_bst | apply State.setB_bst | apply State.inhibitBay_bst | apply Bst.ite)
    | lift_lets -underBinder
    | (refine Bst.upd ?_)

theorem State.guardEvent_bst {q : Bay} {s : State} {x_s : State} {x_c : Chan} {x_under : Bool} (h_x_s : Bst q s x_s) : Bst q s (State.guardEvent x_s x_c x_under) := by
  unfold State.guardEvent
  repeat' first
    | (with_reducible first | assumption | exact Bst.refl _)
    | (intro x_1; refine (fun hx : Bst q s x_1 => ?_) ?_; (clear_value x_1); rotate_left; (unfold x_1))
    | (intro x_1; clear_value x_1)
    | intro _
    | (with_reducible first | apply State.modChan_bst | apply State.occur_bst | apply Bst.ite)
    | lift_lets -underBinder
    | (refine Bst.upd ?_)

theorem State.latchEvent_bst {q : Bay} {s : State} {x_s : State} {x_c : Chan} {x_under : Bool} (h_x_s : Bst q s x_s) : Bst q s (State.latchEvent x_s x_c x_under) := by
  unfold State.latchEvent
  repeat' first
    | (with_reducible first | assumption | exact Bst.refl _)
    | intro _
    | (with_reducible first | apply State.modChan_bst | apply State.occur_bst | apply Bst.ite)
    | (refine Bst.upd ?_)

theorem State.startBlank_bst {q : Bay} {s : State} {x_s : State} {x_b : Bay} (h_x_s : Bst q s x_s) : Bst q s (State.startBlank x_s x_b) := by
  unfold State.startBlank
  repeat' first
    | (with_reducible first | assumption | exact Bst.refl _)
    | (show _ ≠ _; first | decide | omega | (simp only [keyB, keyC, keyCap, keySite, keyPc, keyA, keyG, keyBench, keyNode, keyEng, keyDma, keyLane, keyLink, keyStream, keyStack, keyPort, keyTpg, key, RBay.BAY_STATE, ne_eq, RBay.BLANK_ACTIVE, RBay.BLANK_TIME]; omega) | (simp only [keyB, keyC, keyCap, keySite, keyPc, keyA, keyG, keyBench, keyNode, keyEng, keyDma, keyLane, keyLink, keyStream, keyStack, keyPort, keyTpg, key, RBay.BAY_STATE, ne_eq, RBay.BLANK_ACTIVE, RBay.BLANK_TIME, List.mem_range, List.mem_cons, List.not_mem_nil, or_false] at *; omega) | (split <;> first | decide | (simp only [keyB, keyC, keyCap, keySite, keyPc, keyA, keyG, keyBench, keyNode, keyEng, keyDma, keyLane, keyLink, keyStream, keyStack, keyPort, keyTpg, key, RBay.BAY_STATE, ne_eq, RBay.BLANK_ACTIVE, RBay.BLANK_TIME]; omega)))
    | (intro x_1; refine (fun hx : Bst q s x_1 => ?_) ?_; (clear_value x_1); rotate_left; (unfold x_1))
    | (intro x_1; clear_value x_1)
    | intro _
    | (with_reducible first | apply State.modBay_bst | apply State.setB_bst | exact BstO.none | apply BstO.some | apply BstO.ite | apply Bst.ite)
    | lift_lets -underBinder
    | (refine Bst.upd ?_)

theorem State.endBlank_bst {q : Bay} {s : State} {x_s : State} {x_b : Bay} (h_x_s : Bst q s x_s) : Bst q s (State.endBlank x_s x_b) := by
  unfold State.endBlank
  repeat' first
    | (with_reducible first | assumption | exact Bst.refl _)
    | (show _ ≠ _; first | decide | omega | (simp only [keyB, keyC, keyCap, keySite, keyPc, keyA, keyG, keyBench, keyNode, keyEng, keyDma, keyLane, keyLink, keyStream, keyStack, keyPort, keyTpg, key, RBay.BAY_STATE, ne_eq, RBay.BLANK_ACTIVE, RChan.GUARD_STATE]; omega) | (simp only [keyB, keyC, keyCap, keySite, keyPc, keyA, keyG, keyBench, keyNode, keyEng, keyDma, keyLane, keyLink, keyStream, keyStack, keyPort, keyTpg, key, RBay.BAY_STATE, ne_eq, RBay.BLANK_ACTIVE, RChan.GUARD_STATE, List.mem_range, List.mem_cons, List.not_mem_nil, or_false] at *; omega) | (split <;> first | decide | (simp only [keyB, keyC, keyCap, keySite, keyPc, keyA, keyG, keyBench, keyNode, keyEng, keyDma, keyLane, keyLink, keyStream, keyStack, keyPort, keyTpg, key, RBay.BAY_STATE, ne_eq, RBay.BLANK_ACTIVE, RChan.GUARD_STATE]; omega)))
    | (intro x_1; refine (fun hx : Bst q s x_1 => ?_) ?_; (clear_value x_1); rotate_left; (unfold x_1))
    | (intro x_1; clear_value x_1)
    | intro _
    | (with_reducible first | apply State.modBay_bst | apply State.setB_bst | apply State.each_bst | apply State.modChan_bst | apply State.occur_bst | apply Bst.ite)
    | lift_lets -underBinder
    | (refine Bst.upd ?_)

theorem State.tripNow_bst {q : Bay} {s : State} {x_s : State} {x_c : Chan} {x_under : Bool} (h_x_s : Bst q s x_s) : Bst q s (State.tripNow x_s x_c x_under) := by
  unfold State.tripNow
  repeat' first
    | (with_reducible first | assumption | exact Bst.refl _)
    | (intro x_1; refine (fun hx : Bst q s x_1 => ?_) ?_; (clear_value x_1); rotate_left; (unfold x_1))
    | (intro x_1; clear_value x_1)
    | intro _
    | (with_reducible first | apply State.modChan_bst | apply State.setC_bst | apply State.inhibit_bst | apply State.setLatch_bst | apply State.showGuard_bst | apply Bst.ite)
    | lift_lets -underBinder
    | split
    | dsimp only
    | (refine Bst.upd ?_)

theorem State.latchBoth_bst {q : Bay} {s : State} {x_s : State} {x_c : Chan} (h_x_s : Bst q s x_s) : Bst q s (State.latchBoth x_s x_c) := by
  unfold State.latchBoth
  repeat' first
    | (with_reducible first | assumption | exact Bst.refl _)
    | (show _ ≠ _; first | decide | omega | (simp only [keyB, keyC, keyCap, keySite, keyPc, keyA, keyG, keyBench, keyNode, keyEng, keyDma, keyLane, keyLink, keyStream, keyStack, keyPort, keyTpg, key, RBay.BAY_STATE, ne_eq, RChan.GUARD_STATE, RChan.TRIP_COUNT]; omega) | (simp only [keyB, keyC, keyCap, keySite, keyPc, keyA, keyG, keyBench, keyNode, keyEng, keyDma, keyLane, keyLink, keyStream, keyStack, keyPort, keyTpg, key, RBay.BAY_STATE, ne_eq, RChan.GUARD_STATE, RChan.TRIP_COUNT, List.mem_range, List.mem_cons, List.not_mem_nil, or_false] at *; omega) | (split <;> first | decide | (simp only [keyB, keyC, keyCap, keySite, keyPc, keyA, keyG, keyBench, keyNode, keyEng, keyDma, keyLane, keyLink, keyStream, keyStack, keyPort, keyTpg, key, RBay.BAY_STATE, ne_eq, RChan.GUARD_STATE, RChan.TRIP_COUNT]; omega)))
    | intro _
    | (with_reducible first | apply State.inhibit_bst | apply State.each_bst | apply State.latchEvent_bst | apply State.incC_bst | apply State.flagC_bst | apply Bst.ite)
    | split

theorem State.chanPowerUp_bst {q : Bay} {s : State} {x_s : State} {x_c : Chan} (h_x_s : Bst q s x_s) : Bst q s (State.chanPowerUp x_s x_c) := by
  unfold State.chanPowerUp
  repeat' first
    | (with_reducible first | assumption | exact Bst.refl _)
    | (intro x_1; refine (fun hx : Bst q s x_1 => ?_) ?_; (clear_value x_1); rotate_left; (unfold x_1))
    | (intro x_1; clear_value x_1)
    | intro _
    | (with_reducible first | apply State.clearLatches_bst | apply State.pmuOff_bst | apply State.modChan_bst | apply State.unresolve_bst | apply State.setC_bst | apply State.inhibit_bst)
    | lift_lets -underBinder
    | dsimp only
    | (refine Bst.upd ?_)

theorem State.pinObjs_bst {q : Bay} {s a : State} (h : Bst q s a) : Bst q s { a with objs := a.objs.without (fun k =>
    decide (0x4000 * 256 ≤ k) && decide (k < 0x8000 * 256) && pinHeld (k % (0x40 * 256))) } := by
  show Tab.get _ _ _ = _
  rw [Tab.get_without, if_neg]
  · exact h
  · have := keyB_low (b := q) (o := RBay.BAY_STATE) (by decide)
    simp only [Bool.and_eq_true, decide_eq_true_eq]; omega

theorem State.pinChans_bst {q : Bay} {s a : State} (h : Bst q s a) : Bst q s (a.each (List.finRange 256) State.chanPowerUp) :=
  State.each_bst h (fun _ _ _ h => State.chanPowerUp_bst h)

theorem State.pinDies_bst {q : Bay} {s a : State} (hb : Bst q s a) :
    Bst q s (a.each (List.finRange 4) (fun s d =>
      let s := s.modDie d (fun u => ({ clear := u.clear, temp := u.temp } : DieU))
      (s.each (baysOf d) (fun s b => s.modRef b (fun _ => {}))).assertClear d 0)) := by
  refine State.each_bst hb (fun _ _ _ h => ?_)
  refine State.assertClear_bst ?_
  refine State.each_bst ?_ (fun _ _ _ h => State.modRef_bst h)
  exact State.modDie_bst h

theorem State.pinPowerUp_bst {q : Bay} {s : State} {x_s : State} (h_x_s : Bst q s x_s) : Bst q s (State.pinPowerUp x_s) :=
  State.pinDies_bst (State.pinObjs_bst (State.pinChans_bst h_x_s))

theorem State.forceGuard_bst {q : Bay} {s : State} {x_s : State} {x_c : Chan} {x_under : Bool} (h_x_s : Bst q s x_s) : Bst q s (State.forceGuard x_s x_c x_under) := by
  unfold State.forceGuard
  repeat' first
    | (with_reducible first | assumption | exact Bst.refl _)
    | (intro x_1; refine (fun hx : Bst q s x_1 => ?_) ?_; (clear_value x_1); rotate_left; (unfold x_1))
    | (intro x_1; clear_value x_1)
    | intro _
    | (with_reducible first | apply State.modChan_bst | apply State.setLatch_bst | apply State.guardEvent_bst | apply State.fault_bst | apply State.showGuard_bst | apply State.latchEvent_bst | apply Bst.ite)
    | lift_lets -underBinder
    | (refine Bst.upd ?_)

theorem State.readback_bst {q : Bay} {s : State} {x_s : State} {x_c : Chan} {x_m : Fin 10} {x_measured : Int} (h_x_s : Bst q s x_s) : Bst q s (State.readback x_s x_c x_m x_measured) := by
  unfold State.readback
  repeat' first
    | (with_reducible first | assumption | exact Bst.refl _)
    | (intro x_1; refine (fun hx : Bst q s x_1 => ?_) ?_; (clear_value x_1); rotate_left; (unfold x_1))
    | (intro x_1; clear_value x_1)
    | intro _
    | (with_reducible first | apply State.modChan_bst | apply State.setC_bst | apply State.flagC_bst | apply State.fault_bst | apply State.forceGuard_bst | apply State.showGuard_bst | apply Bst.ite)
    | lift_lets -underBinder
    | (refine Bst.upd ?_)

theorem State.refReadback_bst {q : Bay} {s : State} {x_s : State} {x_b : Bay} {x_m : Fin 8} {x_measured : Int} (h_x_s : Bst q s x_s) : Bst q s (State.refReadback x_s x_b x_m x_measured) := by
  unfold State.refReadback
  repeat' first
    | (with_reducible first | assumption | exact Bst.refl _)
    | (intro x_1; refine (fun hx : Bst q s x_1 => ?_) ?_; (clear_value x_1); rotate_left; (unfold x_1))
    | (intro x_1; clear_value x_1)
    | intro _
    | (with_reducible first | apply State.modRef_bst | apply Bst.ite)
    | lift_lets -underBinder
    | split
    | dsimp only
    | (refine Bst.upd ?_)

theorem State.measSlot_bst {q : Bay} {s : State} {x_s : State} {x_c : Chan} {x_x : Int} {x_clamp : Bool} (h_x_s : Bst q s x_s) : Bst q s (State.measSlot x_s x_c x_x x_clamp) := by
  unfold State.measSlot
  repeat' first
    | (with_reducible first | assumption | exact Bst.refl _)
    | (intro x_1; refine (fun hx : Bst q s x_1 => ?_) ?_; (clear_value x_1); rotate_left; (unfold x_1))
    | (intro x_1; clear_value x_1)
    | intro _
    | (with_reducible first | apply State.setC_bst | apply State.modChan_bst | apply Bst.ite)
    | lift_lets -underBinder
    | split
    | dsimp only
    | (refine Bst.upd ?_)

theorem State.convFails_bst {q : Bay} {s : State} {x_s : State} {x_d : Die} {x_conv : Fin 8} (h_x_s : Bst q s x_s) : Bst q s (State.convFails x_s x_d x_conv) := by
  unfold State.convFails
  repeat' first
    | (with_reducible first | assumption | exact Bst.refl _)
    | (show _ ≠ _; first | decide | omega | (simp only [keyB, keyC, keyCap, keySite, keyPc, keyA, keyG, keyBench, keyNode, keyEng, keyDma, keyLane, keyLink, keyStream, keyStack, keyPort, keyTpg, key, RBay.BAY_STATE, ne_eq, RAssay.BAY_ASSAY_STATUS]; omega) | (simp only [keyB, keyC, keyCap, keySite, keyPc, keyA, keyG, keyBench, keyNode, keyEng, keyDma, keyLane, keyLink, keyStream, keyStack, keyPort, keyTpg, key, RBay.BAY_STATE, ne_eq, RAssay.BAY_ASSAY_STATUS, List.mem_range, List.mem_cons, List.not_mem_nil, or_false] at *; omega) | (split <;> first | decide | (simp only [keyB, keyC, keyCap, keySite, keyPc, keyA, keyG, keyBench, keyNode, keyEng, keyDma, keyLane, keyLink, keyStream, keyStack, keyPort, keyTpg, key, RBay.BAY_STATE, ne_eq, RAssay.BAY_ASSAY_STATUS]; omega)))
    | (intro x_1; refine (fun hx : Bst q s x_1 => ?_) ?_; (clear_value x_1); rotate_left; (unfold x_1))
    | (intro x_1; clear_value x_1)
    | intro _
    | (with_reducible first | apply State.modDie_bst | apply State.each_bst | apply State.endMeas_bst | apply State.showGuard_bst | apply State.modChan_bst | apply State.setO_bst | apply State.fault_bst | apply Bst.ite)
    | lift_lets -underBinder
    | (refine Bst.upd ?_)

theorem State.selfCheck_bst {q : Bay} {s : State} {x_s : State} {x_d : Die} {x_conv : Fin 8} {x_slot : Nat} {x_measured : Int} (h_x_s : Bst q s x_s) : Bst q s (State.selfCheck x_s x_d x_conv x_slot x_measured) := by
  unfold State.selfCheck
  repeat' first
    | (with_reducible first | assumption | exact Bst.refl _)
    | (intro x_1; refine (fun hx : Bst q s x_1 => ?_) ?_; (clear_value x_1); rotate_left; (unfold x_1))
    | (intro x_1; clear_value x_1)
    | intro _
    | (with_reducible first | apply State.modDie_bst | apply State.convFails_bst | apply Bst.ite)
    | lift_lets -underBinder
    | (refine Bst.upd ?_)

theorem State.convSlot_bst {q : Bay} {s : State} {x_s : State} {x_d : Die} {x_conv : Fin 8} {x_slot : Fin 512} {x_measured : Int} {x_clamp : Bool} (h_x_s : Bst q s x_s) : Bst q s (State.convSlot x_s x_d x_conv x_slot x_measured x_clamp) := by
  unfold State.convSlot
  repeat' first
    | (with_reducible first | assumption | exact Bst.refl _)
    | (show _ ≠ _; first | decide | omega | (simp only [keyB, keyC, keyCap, keySite, keyPc, keyA, keyG, keyBench, keyNode, keyEng, keyDma, keyLane, keyLink, keyStream, keyStack, keyPort, keyTpg, key, RBay.BAY_STATE, ne_eq, RBay.RB_FRAMES]; omega) | (simp only [keyB, keyC, keyCap, keySite, keyPc, keyA, keyG, keyBench, keyNode, keyEng, keyDma, keyLane, keyLink, keyStream, keyStack, keyPort, keyTpg, key, RBay.BAY_STATE, ne_eq, RBay.RB_FRAMES, List.mem_range, List.mem_cons, List.not_mem_nil, or_false] at *; omega) | (split <;> first | decide | (simp only [keyB, keyC, keyCap, keySite, keyPc, keyA, keyG, keyBench, keyNode, keyEng, keyDma, keyLane, keyLink, keyStream, keyStack, keyPort, keyTpg, key, RBay.BAY_STATE, ne_eq, RBay.RB_FRAMES]; omega)))
    | (intro x_1; refine (fun hx : Bst q s x_1 => ?_) ?_; (clear_value x_1); rotate_left; (unfold x_1))
    | (intro x_1; clear_value x_1)
    | intro _
    | (with_reducible first | apply State.modDie_bst | apply State.readback_bst | apply State.refReadback_bst | apply State.selfCheck_bst | apply State.measSlot_bst | apply State.setB_bst | apply Bst.dite | apply Bst.ite)
    | lift_lets -underBinder
    | split
    | dsimp only
    | (refine Bst.upd ?_)

theorem State.lvlSelect_bst {q : Bay} {s : State} {x_s : State} {x_b : Bay} {x_lvl : Nat} (h_x_s : Bst q s x_s) : Bst q s (State.lvlSelect x_s x_b x_lvl) := by
  unfold State.lvlSelect
  repeat' first
    | (with_reducible first | assumption | exact Bst.refl _ | apply State.answer_bst | apply State.ok_bst | apply State.selectLevels_bst | apply Bst.ite)

theorem State.loadRequest_bst {q : Bay} {s : State} {x_s : State} {x_b : Bay} (h_x_s : Bst q s x_s) : Bst q s (State.loadRequest x_s x_b) := by
  unfold State.loadRequest
  repeat' first
    | (with_reducible first | assumption | exact Bst.refl _ | apply State.ok_bst | apply State.load_bst)

theorem State.levelWrite_bst {q : Bay} {s : State} {x_s : State} {x_c : Chan} {x_n : Nat} {x_w : LevelWrite} (h_x_s : Bst q s x_s) : Bst q s (State.levelWrite x_s x_c x_n x_w) := by
  unfold State.levelWrite
  repeat' first
    | (with_reducible first | assumption | exact Bst.refl _)
    | (intro x_1; refine (fun hx : Bst q s x_1 => ?_) ?_; (clear_value x_1); rotate_left; (unfold x_1))
    | (intro x_1; clear_value x_1)
    | intro _
    | (with_reducible first | apply State.answer_bst | apply State.ok_bst | apply State.writeLevels_bst | apply Bst.ite)
    | lift_lets -underBinder
    | split
    | (refine Bst.upd ?_)

theorem State.setGuard_bst {q : Bay} {s : State} {x_s : State} {x_c : Chan} {x_w : GuardReg} {x_v : Nat} (h_x_s : Bst q s x_s) : Bst q s (State.setGuard x_s x_c x_w x_v) := by
  unfold State.setGuard
  repeat' first
    | (with_reducible first | assumption | exact Bst.refl _)
    | (intro x_1; refine (fun hx : Bst q s x_1 => ?_) ?_; (clear_value x_1); rotate_left; (unfold x_1))
    | (intro x_1; clear_value x_1)
    | intro _
    | (with_reducible first | apply State.setC_bst | apply State.noteCode_bst | apply Bst.ite)
    | lift_lets -underBinder
    | split
    | dsimp only
    | (refine Bst.upd ?_)

theorem State.guardWrite_bst {q : Bay} {s : State} {x_s : State} {x_c : Chan} {x_w : GuardReg} {x_v : Nat} (h_x_s : Bst q s x_s) : Bst q s (State.guardWrite x_s x_c x_w x_v) := by
  unfold State.guardWrite
  repeat' first
    | (with_reducible first | assumption | exact Bst.refl _ | apply State.ok_bst | apply State.setGuard_bst | apply State.answer_bst | apply Bst.ite)

theorem State.setClearCode_bst {q : Bay} {s : State} {x_s : State} {x_c : Chan} {x_i : Fin 8} {x_code : Nat} (h_x_s : Bst q s x_s) : Bst q s (State.setClearCode x_s x_c x_i x_code) := by
  unfold State.setClearCode
  repeat' first
    | (with_reducible first | assumption | exact Bst.refl _)
    | (intro x_1; refine (fun hx : Bst q s x_1 => ?_) ?_; (clear_value x_1); rotate_left; (unfold x_1))
    | (intro x_1; clear_value x_1)
    | intro _
    | (with_reducible first | apply State.setC_bst | apply State.setOutputs_bst | apply Bst.ite)
    | lift_lets -underBinder
    | split
    | dsimp only

theorem State.clearCodeWrite_bst {q : Bay} {s : State} {x_s : State} {x_c : Chan} {x_i : Fin 8} {x_code : Nat} {x_m : Sample} (h_x_s : Bst q s x_s) : Bst q s (State.clearCodeWrite x_s x_c x_i x_code x_m) := by
  unfold State.clearCodeWrite
  repeat' first
    | (with_reducible first | assumption | exact Bst.refl _)
    | intro _
    | (with_reducible first | apply State.commitGate_bst | apply State.ok_bst | apply State.ledgerPut_bst | apply State.setClearCode_bst | apply State.ledgerWrite_bst | apply State.answer_bst | apply Bst.ite)

theorem State.tripClear_bst {q : Bay} {s : State} {x_s : State} {x_c : Chan} (h_x_s : Bst q s x_s) : Bst q s (State.tripClear x_s x_c) := by
  unfold State.tripClear
  repeat' first
    | (with_reducible first | assumption | exact Bst.refl _)
    | (intro x_1; refine (fun hx : Bst q s x_1 => ?_) ?_; (clear_value x_1); rotate_left; (unfold x_1))
    | (intro x_1; clear_value x_1)
    | intro _
    | (with_reducible first | apply State.ok_bst | apply State.clearLatches_bst | apply State.answer_bst | apply Bst.ite)
    | lift_lets -underBinder

theorem State.pmuMode_bst {q : Bay} {s : State} {x_s : State} {x_c : Chan} {x_mode : Nat} (h_x_s : Bst q s x_s) : Bst q s (State.pmuMode x_s x_c x_mode) := by
  unfold State.pmuMode
  repeat' first
    | (with_reducible first | assumption | exact Bst.refl _)
    | (intro x_1; refine (fun hx : Bst q s x_1 => ?_) ?_; (clear_value x_1); rotate_left; (unfold x_1))
    | (intro x_1; clear_value x_1)
    | intro _
    | (with_reducible first | apply State.answer_bst | apply State.ok_bst | apply State.pmuOff_bst | apply State.endMeas_bst | apply State.inhibit_bst | apply State.flagC_bst | apply State.setC_bst | apply Bst.ite)
    | lift_lets -underBinder

theorem State.pmuRange_bst {q : Bay} {s : State} {x_s : State} {x_c : Chan} {x_range : Nat} (h_x_s : Bst q s x_s) : Bst q s (State.pmuRange x_s x_c x_range) := by
  unfold State.pmuRange
  repeat' first
    | (with_reducible first | assumption | exact Bst.refl _ | apply State.answer_bst | apply State.ok_bst | apply State.setC_bst | apply Bst.ite)

theorem State.measStart_bst {q : Bay} {s : State} {x_s : State} {x_c : Chan} (h_x_s : Bst q s x_s) : Bst q s (State.measStart x_s x_c) := by
  unfold State.measStart
  repeat' first
    | (with_reducible first | assumption | exact Bst.refl _)
    | (intro x_1; refine (fun hx : Bst q s x_1 => ?_) ?_; (clear_value x_1); rotate_left; (unfold x_1))
    | (intro x_1; clear_value x_1)
    | intro _
    | (with_reducible first | apply State.ok_bst | apply State.setC_bst | apply State.modChan_bst | apply Bst.ite)
    | lift_lets -underBinder
    | split
    | dsimp only
    | (refine Bst.upd ?_)

theorem execLvlSelect_bst {q : Bay} {s : State} {x_b : Bay} {x_epoch : BitVec 16} {x_lvl : BitVec 8} {x_s : State} (h_x_s : Bst q s x_s) : BstN q s (execLvlSelect x_b x_epoch x_lvl x_s) := by
  unfold execLvlSelect
  repeat' first
    | (with_reducible first | assumption | exact Bst.refl _)
    | intro _
    | (with_reducible first | apply State.hostBay_bst | apply State.lvlSelect_bst | apply BstN.next | apply BstN.ite)

theorem execLoadRequest_bst {q : Bay} {s : State} {x_b : Bay} {x_epoch : BitVec 16} {x_s : State} (h_x_s : Bst q s x_s) : BstN q s (execLoadRequest x_b x_epoch x_s) := by
  unfold execLoadRequest
  repeat' first
    | (with_reducible first | assumption | exact Bst.refl _)
    | intro _
    | (with_reducible first | apply State.hostBay_bst | apply State.loadRequest_bst | apply BstN.next | apply BstN.ite)

theorem execLevelSetWrite_bst {q : Bay} {s : State} {x_c : Chan} {x_epoch : BitVec 16} {x_set : Fin 16} {x_w : LevelWrite} {x_s : State} (h_x_s : Bst q s x_s) : BstN q s (execLevelSetWrite x_c x_epoch x_set x_w x_s) := by
  unfold execLevelSetWrite
  repeat' first
    | (with_reducible first | assumption | exact Bst.refl _)
    | intro _
    | (with_reducible first | apply State.hostChan_bst | apply State.levelWrite_bst | apply BstN.next | apply BstN.ite)

theorem execGuardThresholdWrite_bst {q : Bay} {s : State} {x_c : Chan} {x_epoch : BitVec 16} {x_which : GuardReg} {x_value : BitVec 16} {x_s : State} (h_x_s : Bst q s x_s) : BstN q s (execGuardThresholdWrite x_c x_epoch x_which x_value x_s) := by
  unfold execGuardThresholdWrite
  repeat' first
    | (with_reducible first | assumption | exact Bst.refl _)
    | intro _
    | (with_reducible first | apply State.hostChan_bst | apply State.guardWrite_bst | apply BstN.next | apply BstN.ite)

theorem execClearCodeWrite_bst {q : Bay} {s : State} {x_c : Chan} {x_epoch : BitVec 16} {x_level : Fin 8} {x_code : BitVec 32} {x_smp : Sample} {x_s : State} (h_x_s : Bst q s x_s) : BstN q s (execClearCodeWrite x_c x_epoch x_level x_code x_smp x_s) := by
  unfold execClearCodeWrite
  repeat' first
    | (with_reducible first | assumption | exact Bst.refl _)
    | intro _
    | (with_reducible first | apply State.hostModule_bst | apply State.stale_bst | apply State.clearCodeWrite_bst | apply BstN.next | apply BstN.ite | apply Bst.ite)

theorem execClearAssert_bst {q : Bay} {s : State} {x_die : Die} {x_src : ClearSrc} {x_s : State} (h_x_s : Bst q s x_s) : BstN q s (execClearAssert x_die x_src x_s) := by
  unfold execClearAssert
  repeat' first
    | (with_reducible first | assumption | exact Bst.refl _)
    | (intro x_1; refine (fun hx : Bst q s x_1 => ?_) ?_; (clear_value x_1); rotate_left; (unfold x_1))
    | (intro x_1; clear_value x_1)
    | intro _
    | (with_reducible first | apply State.assertClear_bst | apply State.fault_bst | apply State.each_bst | apply State.markSites_bst | apply BstN.next | apply BstN.ite | apply Bst.ite)
    | lift_lets -underBinder

theorem execClearRelease_bst {q : Bay} {s : State} {x_die : Die} {x_src : ClearSrc} {x_s : State} (h_x_s : Bst q s x_s) : BstN q s (execClearRelease x_die x_src x_s) := by
  unfold execClearRelease
  repeat' first
    | (with_reducible first | assumption | exact Bst.refl _ | apply State.releaseClear_bst | apply BstN.next | apply BstN.ite | apply Bst.ite)

theorem execGuardTrip_bst {q : Bay} {s : State} {x_c : Chan} {x_under : Bool} {x_s : State} (h_x_s : Bst q s x_s) : BstN q s (execGuardTrip x_c x_under x_s) := by
  unfold execGuardTrip
  repeat' first
    | (with_reducible first | assumption | exact Bst.refl _)
    | (intro x_1; refine (fun hx : Bst q s x_1 => ?_) ?_; (clear_value x_1); rotate_left; (unfold x_1))
    | (intro x_1; clear_value x_1)
    | intro _
    | (with_reducible first | apply State.tripNow_bst | apply BstN.next | apply BstN.ite | apply Bst.ite)
    | lift_lets -underBinder

theorem execGuardTripReport_bst {q : Bay} {s : State} {x_c : Chan} {x_under : Bool} {x_s : State} (h_x_s : Bst q s x_s) : BstN q s (execGuardTripReport x_c x_under x_s) := by
  unfold execGuardTripReport
  repeat' first
    | (with_reducible first | assumption | exact Bst.refl _)
    | (intro x_1; refine (fun hx : Bst q s x_1 => ?_) ?_; (clear_value x_1); rotate_left; (unfold x_1))
    | (intro x_1; clear_value x_1)
    | intro _
    | (with_reducible first | apply State.dropEvent_bst | apply State.modChan_bst | apply State.fault_bst | apply State.invalidChan_bst | apply State.guardEvent_bst | apply State.latchEvent_bst | apply BstN.next | apply BstN.ite | apply Bst.ite)
    | lift_lets -underBinder
    | split
    | dsimp only
    | (refine Bst.upd ?_)

theorem execGuardUntrip_bst {q : Bay} {s : State} {x_c : Chan} {x_under : Bool} {x_s : State} (h_x_s : Bst q s x_s) : BstN q s (execGuardUntrip x_c x_under x_s) := by
  unfold execGuardUntrip
  repeat' first
    | (with_reducible first | assumption | exact Bst.refl _)
    | (intro x_1; refine (fun hx : Bst q s x_1 => ?_) ?_; (clear_value x_1); rotate_left; (unfold x_1))
    | (intro x_1; clear_value x_1)
    | intro _
    | (with_reducible first | apply State.showGuard_bst | apply State.modChan_bst | apply BstN.next | apply BstN.ite | apply Bst.ite)
    | lift_lets -underBinder
    | (refine Bst.upd ?_)

theorem execGuardResolve_bst {q : Bay} {s : State} {x_c : Chan} {x_under : Bool} {x_s : State} (h_x_s : Bst q s x_s) : BstN q s (execGuardResolve x_c x_under x_s) := by
  unfold execGuardResolve
  repeat' first
    | (with_reducible first | assumption | exact Bst.refl _)
    | (intro x_1; refine (fun hx : Bst q s x_1 => ?_) ?_; (clear_value x_1); rotate_left; (unfold x_1))
    | (intro x_1; clear_value x_1)
    | intro _
    | (with_reducible first | apply State.setC_bst | apply State.inhibit_bst | apply State.showGuard_bst | apply State.modChan_bst | apply BstN.next | apply BstN.ite | apply Bst.ite)
    | lift_lets -underBinder
    | (refine Bst.upd ?_)

theorem execTripClear_bst {q : Bay} {s : State} {x_c : Chan} {x_epoch : BitVec 16} {x_s : State} (h_x_s : Bst q s x_s) : BstN q s (execTripClear x_c x_epoch x_s) := by
  unfold execTripClear
  repeat' first
    | (with_reducible first | assumption | exact Bst.refl _)
    | intro _
    | (with_reducible first | apply State.hostChan_bst | apply State.tripClear_bst | apply BstN.next | apply BstN.ite)

theorem State.advance_bst {q : Bay} {s : State} {x_s : State} {x_t : Nat} (h_x_s : Bst q s x_s) : Bst q s (State.advance x_s x_t) := by
  unfold State.advance
  repeat' first
    | (with_reducible first | assumption | exact Bst.refl _)
    | (refine Bst.upd ?_)
    | (refine Bst.upd ?_)

theorem execBlankExpiry_bst {q : Bay} {s : State} {x_b : Bay} {x_s : State} (h_x_s : Bst q s x_s) : BstN q s (execBlankExpiry x_b x_s) := by
  unfold execBlankExpiry
  repeat' first
    | (with_reducible first | assumption | exact Bst.refl _ | apply State.endBlank_bst | apply State.advance_bst | exact BstO.none | apply BstO.some | apply BstO.ite | apply BstN.next | apply BstN.ite | apply Bst.ite)
    | split
    | (refine Bst.upd ?_)

theorem execLoadTimerExpiry_bst {q : Bay} {s : State} {x_b : Bay} {x_s : State} (h_x_s : Bst q s x_s) : BstN q s (execLoadTimerExpiry x_b x_s) := by
  unfold execLoadTimerExpiry
  repeat' first
    | (with_reducible first | assumption | exact Bst.refl _)
    | intro _
    | (with_reducible first | apply State.load_bst | apply State.modBay_bst | apply State.advance_bst | exact BstO.none | apply BstO.some | apply BstO.ite | apply BstN.next | apply BstN.ite | apply Bst.ite)
    | split
    | (refine Bst.upd ?_)

theorem execControlLinkLost_bst {q : Bay} {s : State} {x_b : Bay} {x_s : State} (h_x_s : Bst q s x_s) : BstN q s (execControlLinkLost x_b x_s) := by
  unfold execControlLinkLost
  repeat' first
    | (with_reducible first | assumption | exact Bst.refl _ | apply State.send_bst | apply State.pmuOffBay_bst | apply State.inhibitBay_bst | apply BstN.next | apply BstN.ite | apply Bst.ite)

theorem execConverterSlot_bst {q : Bay} {s : State} {x_die : Die} {x_conv : Fin 8} {x_slot : Fin 512} {x_measured : Int} {x_clamp : Bool} {x_s : State} (h_x_s : Bst q s x_s) : BstN q s (execConverterSlot x_die x_conv x_slot x_measured x_clamp x_s) := by
  unfold execConverterSlot
  repeat' first
    | (with_reducible first | assumption | exact Bst.refl _)
    | (with_reducible first | apply State.convSlot_bst | apply BstN.next | apply BstN.ite | apply Bst.ite)
    | split

theorem execPmuModeWrite_bst {q : Bay} {s : State} {x_c : Chan} {x_epoch : BitVec 16} {x_mode : BitVec 8} {x_s : State} (h_x_s : Bst q s x_s) : BstN q s (execPmuModeWrite x_c x_epoch x_mode x_s) := by
  unfold execPmuModeWrite
  repeat' first
    | (with_reducible first | assumption | exact Bst.refl _)
    | intro _
    | (with_reducible first | apply State.hostChan_bst | apply State.pmuMode_bst | apply BstN.next | apply BstN.ite)

theorem execPmuRangeWrite_bst {q : Bay} {s : State} {x_c : Chan} {x_epoch : BitVec 16} {x_range : BitVec 8} {x_s : State} (h_x_s : Bst q s x_s) : BstN q s (execPmuRangeWrite x_c x_epoch x_range x_s) := by
  unfold execPmuRangeWrite
  repeat' first
    | (with_reducible first | assumption | exact Bst.refl _)
    | intro _
    | (with_reducible first | apply State.hostChan_bst | apply State.pmuRange_bst | apply BstN.next | apply BstN.ite)

theorem execMeasStart_bst {q : Bay} {s : State} {x_c : Chan} {x_epoch : BitVec 16} {x_s : State} (h_x_s : Bst q s x_s) : BstN q s (execMeasStart x_c x_epoch x_s) := by
  unfold execMeasStart
  repeat' first
    | (with_reducible first | assumption | exact Bst.refl _)
    | intro _
    | (with_reducible first | apply State.hostChan_bst | apply State.measStart_bst | apply BstN.next | apply BstN.ite)

theorem execMeasDone_bst {q : Bay} {s : State} {x_c : Chan} {x_s : State} (h_x_s : Bst q s x_s) : BstN q s (execMeasDone x_c x_s) := by
  unfold execMeasDone
  repeat' first
    | (with_reducible first | assumption | exact Bst.refl _)
    | (with_reducible first | apply State.setC_bst | apply BstN.next | apply BstN.ite | apply Bst.ite)
    | split

end Sys2Proof.Machine
end

