-- ==== Sys2Proof/Laws/BstCapture.lean ====
section
/-! SUPPORT. What the operations of Machine/Capture.lean keep. -/

set_option linter.all false

namespace Sys2Proof.Machine

theorem State.modVec_bst {q : Bay} {s : State} {x_s : State} {x_b : Bay} {x_cycle : Nat} {x_f : VRec → VRec} (h_x_s : Bst q s x_s) : Bst q s (State.modVec x_s x_b x_cycle x_f) := by
  unfold State.modVec
  repeat' first
    | (with_reducible first | assumption | exact Bst.refl _)
    | intro _
    | (with_reducible first | apply State.modBay_bst | apply Bst.ite)
    | (refine Bst.upd ?_)

theorem State.freezeAt_bst {q : Bay} {s : State} {x_s : State} {x_b : Bay} {x_f : Nat} (h_x_s : Bst q s x_s) : Bst q s (State.freezeAt x_s x_b x_f) := by
  unfold State.freezeAt
  repeat' first
    | (with_reducible first | assumption | exact Bst.refl _)
    | (show _ ≠ _; first | decide | omega | (simp only [keyB, keyC, keyCap, keySite, keyPc, keyA, keyG, keyBench, keyNode, keyEng, keyDma, keyLane, keyLink, keyStream, keyStack, keyPort, keyTpg, key, RBay.BAY_STATE, ne_eq, RBay.STOPPED_ON_FAIL]; omega) | (simp only [keyB, keyC, keyCap, keySite, keyPc, keyA, keyG, keyBench, keyNode, keyEng, keyDma, keyLane, keyLink, keyStream, keyStack, keyPort, keyTpg, key, RBay.BAY_STATE, ne_eq, RBay.STOPPED_ON_FAIL, List.mem_range, List.mem_cons, List.not_mem_nil, or_false] at *; omega) | (split <;> first | decide | (simp only [keyB, keyC, keyCap, keySite, keyPc, keyA, keyG, keyBench, keyNode, keyEng, keyDma, keyLane, keyLink, keyStream, keyStack, keyPort, keyTpg, key, RBay.BAY_STATE, ne_eq, RBay.STOPPED_ON_FAIL]; omega)))
    | (intro x_1; refine (fun hx : Bst q s x_1 => ?_) ?_; (clear_value x_1); rotate_left; (unfold x_1))
    | (intro x_1; clear_value x_1)
    | intro _
    | (with_reducible first | apply State.setB_bst | apply State.modBay_bst | apply State.occur_bst | apply State.markSites_bst | exact BstO.none | apply BstO.some | apply BstO.ite | apply Bst.ite)
    | lift_lets -underBinder
    | (refine Bst.upd ?_)

theorem State.freeze_bst {q : Bay} {s : State} {x_s : State} {x_b : Bay} {x_strobeCycle : Nat} (h_x_s : Bst q s x_s) : Bst q s (State.freeze x_s x_b x_strobeCycle) := by
  unfold State.freeze
  repeat' first
    | (with_reducible first | assumption | exact Bst.refl _)
    | (intro x_1; refine (fun hx : Bst q s x_1 => ?_) ?_; (clear_value x_1); rotate_left; (unfold x_1))
    | (intro x_1; clear_value x_1)
    | intro _
    | (with_reducible first | apply State.freezeAt_bst | apply State.each_bst | exact BstO.none | apply BstO.some | apply BstO.ite | apply Bst.ite)
    | lift_lets -underBinder
    | split
    | (refine Bst.upd ?_)

theorem State.reachCount_bst {q : Bay} {s : State} {x_s : State} {x_b : Bay} {x_v : VInfo} {x_at_ : Int} (h_x_s : Bst q s x_s) : Bst q s (State.reachCount x_s x_b x_v x_at_) := by
  unfold State.reachCount
  repeat' first
    | (with_reducible first | assumption | exact Bst.refl _)
    | intro _
    | (with_reducible first | apply State.modBay_bst | apply Bst.ite)
    | split
    | (refine Bst.upd ?_)

theorem State.sameCount_bst {q : Bay} {s : State} {x_s : State} {x_b : Bay} {x_v : VInfo} {x_at_ : Int} (h_x_s : Bst q s x_s) : Bst q s (State.sameCount x_s x_b x_v x_at_) := by
  unfold State.sameCount
  repeat' first
    | (with_reducible first | assumption | exact Bst.refl _)
    | intro _
    | (with_reducible first | apply State.modBay_bst | apply Bst.ite)
    | split
    | (refine Bst.upd ?_)

theorem State.creditFail_bst {q : Bay} {s : State} {x_s : State} {x_c : Chan} {x_k : Nat} {x_v : VInfo} {x_strobeCycle : Nat} {x_at_ : Int} (h_x_s : Bst q s x_s) : Bst q s (State.creditFail x_s x_c x_k x_v x_strobeCycle x_at_) := by
  unfold State.creditFail
  repeat' first
    | (with_reducible first | assumption | exact Bst.refl _)
    | (show _ ≠ _; first | decide | omega | (simp only [keyB, keyC, keyCap, keySite, keyPc, keyA, keyG, keyBench, keyNode, keyEng, keyDma, keyLane, keyLink, keyStream, keyStack, keyPort, keyTpg, key, RBay.BAY_STATE, ne_eq, RBay.BAY_FAIL_VECTORS, RBay.FAIL_MASK, RBay.QUAD_FAIL_VECTORS, RBay.RETIRE_ON_FAIL, RBay.STOP_ON_FAIL, RChan.STROBE_FAIL_COUNT]; omega) | (simp only [keyB, keyC, keyCap, keySite, keyPc, keyA, keyG, keyBench, keyNode, keyEng, keyDma, keyLane, keyLink, keyStream, keyStack, keyPort, keyTpg, key, RBay.BAY_STATE, ne_eq, RBay.BAY_FAIL_VECTORS, RBay.FAIL_MASK, RBay.QUAD_FAIL_VECTORS, RBay.RETIRE_ON_FAIL, RBay.STOP_ON_FAIL, RChan.STROBE_FAIL_COUNT, List.mem_range, List.mem_cons, List.not_mem_nil, or_false] at *; omega) | (split <;> first | decide | (simp only [keyB, keyC, keyCap, keySite, keyPc, keyA, keyG, keyBench, keyNode, keyEng, keyDma, keyLane, keyLink, keyStream, keyStack, keyPort, keyTpg, key, RBay.BAY_STATE, ne_eq, RBay.BAY_FAIL_VECTORS, RBay.FAIL_MASK, RBay.QUAD_FAIL_VECTORS, RBay.RETIRE_ON_FAIL, RBay.STOP_ON_FAIL, RChan.STROBE_FAIL_COUNT]; omega)))
    | (intro x_1; refine (fun hx : Bst q s x_1 => ?_) ?_; (clear_value x_1); rotate_left; (unfold x_1))
    | (intro x_1; clear_value x_1)
    | intro _
    | (with_reducible first | apply State.incC_bst | apply State.modVec_bst | apply State.setB_bst | apply State.reachCount_bst | apply State.sameCount_bst | apply State.modBay_bst | apply State.markSite_bst | apply State.occur_bst | apply State.freeze_bst | apply Bst.ite)
    | lift_lets -underBinder
    | split
    | dsimp only
    | (refine Bst.upd ?_)

theorem State.queueCmp_bst {q : Bay} {s : State} {x_s : State} {x_c : Chan} {x_k : Nat} {x_v : VInfo} {x_strobeCycle : Nat} {x_what : CmpWhat} (h_x_s : Bst q s x_s) : Bst q s (State.queueCmp x_s x_c x_k x_v x_strobeCycle x_what) := by
  unfold State.queueCmp
  repeat' first
    | (with_reducible first | assumption | exact Bst.refl _)
    | intro _
    | (with_reducible first | apply State.modBay_bst)
    | (refine Bst.upd ?_)

theorem State.registerCmp_bst {q : Bay} {s : State} {x_s : State} {x_b : Bay} {x_r : CmpRes} (h_x_s : Bst q s x_s) : Bst q s (State.registerCmp x_s x_b x_r) := by
  unfold State.registerCmp
  repeat' first
    | (with_reducible first | assumption | exact Bst.refl _)
    | (intro x_1; refine (fun hx : Bst q s x_1 => ?_) ?_; (clear_value x_1); rotate_left; (unfold x_1))
    | (intro x_1; clear_value x_1)
    | intro _
    | (with_reducible first | apply State.modChan_bst | apply State.modBay_bst | apply Bst.ite)
    | lift_lets -underBinder
    | split
    | dsimp only
    | (refine Bst.upd ?_)

theorem State.registerDue_bst {q : Bay} {s : State} {x_s : State} {x_b : Bay} {x_cyc : Nat} (h_x_s : Bst q s x_s) : Bst q s (State.registerDue x_s x_b x_cyc) := by
  unfold State.registerDue
  repeat' first
    | (with_reducible first | assumption | exact Bst.refl _)
    | (show _ ≠ _; first | decide | omega | (simp only [keyB, keyC, keyCap, keySite, keyPc, keyA, keyG, keyBench, keyNode, keyEng, keyDma, keyLane, keyLink, keyStream, keyStack, keyPort, keyTpg, key, RBay.BAY_STATE, ne_eq]; omega) | (simp only [keyB, keyC, keyCap, keySite, keyPc, keyA, keyG, keyBench, keyNode, keyEng, keyDma, keyLane, keyLink, keyStream, keyStack, keyPort, keyTpg, key, RBay.BAY_STATE, ne_eq, List.mem_range, List.mem_cons, List.not_mem_nil, or_false] at *; omega) | (split <;> first | decide | (simp only [keyB, keyC, keyCap, keySite, keyPc, keyA, keyG, keyBench, keyNode, keyEng, keyDma, keyLane, keyLink, keyStream, keyStack, keyPort, keyTpg, key, RBay.BAY_STATE, ne_eq]; omega)))
    | (intro x_1; refine (fun hx : Bst q s x_1 => ?_) ?_; (clear_value x_1); rotate_left; (unfold x_1))
    | (intro x_1; clear_value x_1)
    | intro _
    | (with_reducible first | apply State.each_bst | apply State.modBay_bst | apply State.registerCmp_bst)
    | lift_lets -underBinder
    | dsimp only
    | (refine Bst.upd ?_)

theorem State.compared_bst {q : Bay} {s : State} {x_s : State} {x_c : Chan} {x_k : Nat} {x_v : VInfo} {x_strobeCycle : Nat} {x_at_ : Int} {x_fail : Bool} (h_x_s : Bst q s x_s) : Bst q s (State.compared x_s x_c x_k x_v x_strobeCycle x_at_ x_fail) := by
  unfold State.compared
  repeat' first
    | (with_reducible first | assumption | exact Bst.refl _)
    | (intro x_1; refine (fun hx : Bst q s x_1 => ?_) ?_; (clear_value x_1); rotate_left; (unfold x_1))
    | (intro x_1; clear_value x_1)
    | intro _
    | (with_reducible first | apply State.queueCmp_bst | apply State.creditFail_bst | apply Bst.ite)
    | lift_lets -underBinder
    | split
    | dsimp only
    | (refine Bst.upd ?_)

theorem State.clearFails_bst {q : Bay} {s : State} {x_s : State} {x_b : Bay} (h_x_s : Bst q s x_s) : Bst q s (State.clearFails x_s x_b) := by
  unfold State.clearFails
  repeat' first
    | (with_reducible first | assumption | exact Bst.refl _)
    | (show _ ≠ _; first | decide | omega | (simp only [keyB, keyC, keyCap, keySite, keyPc, keyA, keyG, keyBench, keyNode, keyEng, keyDma, keyLane, keyLink, keyStream, keyStack, keyPort, keyTpg, key, RBay.BAY_STATE, ne_eq, RBay.BAY_FAIL_VECTORS, RBay.CYCLE_COUNT, RBay.QUAD_FAIL_VECTORS, RBay.STOPPED_ON_FAIL, RChan.STROBE_FAIL_COUNT]; omega) | (simp only [keyB, keyC, keyCap, keySite, keyPc, keyA, keyG, keyBench, keyNode, keyEng, keyDma, keyLane, keyLink, keyStream, keyStack, keyPort, keyTpg, key, RBay.BAY_STATE, ne_eq, RBay.BAY_FAIL_VECTORS, RBay.CYCLE_COUNT, RBay.QUAD_FAIL_VECTORS, RBay.STOPPED_ON_FAIL, RChan.STROBE_FAIL_COUNT, List.mem_range, List.mem_cons, List.not_mem_nil, or_false] at *; omega) | (split <;> first | decide | (simp only [keyB, keyC, keyCap, keySite, keyPc, keyA, keyG, keyBench, keyNode, keyEng, keyDma, keyLane, keyLink, keyStream, keyStack, keyPort, keyTpg, key, RBay.BAY_STATE, ne_eq, RBay.BAY_FAIL_VECTORS, RBay.CYCLE_COUNT, RBay.QUAD_FAIL_VECTORS, RBay.STOPPED_ON_FAIL, RChan.STROBE_FAIL_COUNT]; omega)))
    | (intro x_1; refine (fun hx : Bst q s x_1 => ?_) ?_; (clear_value x_1); rotate_left; (unfold x_1))
    | (intro x_1; clear_value x_1)
    | intro _
    | (with_reducible first | apply State.each_bst | apply State.setB_bst | apply State.modChan_bst | apply State.setC_bst | apply State.modBay_bst)
    | lift_lets -underBinder
    | dsimp only
    | (refine Bst.upd ?_)

theorem State.setCap_bst {q : Bay} {s : State} {x_s : State} {x_b : Bay} {x_m : Fin 5} {x_o x_v : Nat} (h_x_s : Bst q s x_s)
    (hk : x_o < 256) : Bst q s (State.setCap x_s x_b x_m x_o x_v) :=
  State.setO_bst h_x_s (by simp only [keyCap, keyB, RBay.BAY_STATE]; omega)

theorem State.modCap_bst {q : Bay} {s : State} {x_s : State} {x_b : Bay} {x_m : Fin 5} {x_f : CapStream → CapStream} (h_x_s : Bst q s x_s) : Bst q s (State.modCap x_s x_b x_m x_f) := by
  unfold State.modCap
  repeat' first
    | (with_reducible first | assumption | exact Bst.refl _)
    | intro _
    | with_reducible apply State.modBay_bst
    | (refine Bst.upd ?_)

theorem State.openFrame_bst {q : Bay} {s : State} {x_s : State} {x_b : Bay} {x_m : Fin 5} {x_f : CapFrame} (h_x_s : Bst q s x_s) : Bst q s (State.openFrame x_s x_b x_m x_f) := by
  unfold State.openFrame
  repeat' first
    | (with_reducible first | assumption | exact Bst.refl _)
    | (show _ < _; first | decide | (simp only [List.mem_cons, List.not_mem_nil, or_false, RCap.WRITE_FRAME, RCap.CONSUMED_FRAME, RCap.OVERRUN_FRAMES, RCap.LOST_FRAMES, RCap.OLDEST] at *; omega))
    | (show _ ≠ _; first | decide | omega | (simp only [keyB, keyC, keyCap, keySite, keyPc, keyA, keyG, keyBench, keyNode, keyEng, keyDma, keyLane, keyLink, keyStream, keyStack, keyPort, keyTpg, key, RBay.BAY_STATE, ne_eq, RCap.CONSUMED_FRAME, RCap.OVERRUN_FRAMES]; omega) | (simp only [keyB, keyC, keyCap, keySite, keyPc, keyA, keyG, keyBench, keyNode, keyEng, keyDma, keyLane, keyLink, keyStream, keyStack, keyPort, keyTpg, key, RBay.BAY_STATE, ne_eq, RCap.CONSUMED_FRAME, RCap.OVERRUN_FRAMES, List.mem_range, List.mem_cons, List.not_mem_nil, or_false] at *; omega) | (split <;> first | decide | (simp only [keyB, keyC, keyCap, keySite, keyPc, keyA, keyG, keyBench, keyNode, keyEng, keyDma, keyLane, keyLink, keyStream, keyStack, keyPort, keyTpg, key, RBay.BAY_STATE, ne_eq, RCap.CONSUMED_FRAME, RCap.OVERRUN_FRAMES]; omega)))
    | (intro x_1; refine (fun hx : Bst q s x_1 => ?_) ?_; (clear_value x_1); rotate_left; (unfold x_1))
    | (intro x_1; clear_value x_1)
    | intro _
    | (with_reducible first | apply State.setCap_bst | apply State.occur_bst | apply State.modCap_bst | apply Bst.ite)
    | lift_lets -underBinder
    | split
    | dsimp only
    | (refine Bst.upd ?_)

theorem State.fixFirsts_bst {q : Bay} {s : State} {x_s : State} {x_b : Bay} {x_m : Fin 5} (h_x_s : Bst q s x_s) : Bst q s (State.fixFirsts x_s x_b x_m) := by
  unfold State.fixFirsts
  repeat' first
    | (with_reducible first | assumption | exact Bst.refl _)
    | (show _ ≠ _; first | decide | omega | (simp only [keyB, keyC, keyCap, keySite, keyPc, keyA, keyG, keyBench, keyNode, keyEng, keyDma, keyLane, keyLink, keyStream, keyStack, keyPort, keyTpg, key, RBay.BAY_STATE, ne_eq]; omega) | (simp only [keyB, keyC, keyCap, keySite, keyPc, keyA, keyG, keyBench, keyNode, keyEng, keyDma, keyLane, keyLink, keyStream, keyStack, keyPort, keyTpg, key, RBay.BAY_STATE, ne_eq, List.mem_range, List.mem_cons, List.not_mem_nil, or_false] at *; omega) | (split <;> first | decide | (simp only [keyB, keyC, keyCap, keySite, keyPc, keyA, keyG, keyBench, keyNode, keyEng, keyDma, keyLane, keyLink, keyStream, keyStack, keyPort, keyTpg, key, RBay.BAY_STATE, ne_eq]; omega)))
    | (intro x_1; refine (fun hx : Bst q s x_1 => ?_) ?_; (clear_value x_1); rotate_left; (unfold x_1))
    | (intro x_1; clear_value x_1)
    | intro _
    | (with_reducible first | apply State.each_bst | apply State.modCap_bst)
    | lift_lets -underBinder
    | dsimp only
    | (refine Bst.upd ?_)

theorem State.closeFrame_bst {q : Bay} {s : State} {x_s : State} {x_b : Bay} {x_m : Fin 5} {x_f : CapFrame} {x_hi : Nat} {x_e : Option WinEnd} {x_written : Bool} (h_x_s : Bst q s x_s) : Bst q s (State.closeFrame x_s x_b x_m x_f x_hi x_e x_written) := by
  unfold State.closeFrame
  repeat' first
    | (with_reducible first | assumption | exact Bst.refl _)
    | (show _ < _; first | decide | (simp only [List.mem_cons, List.not_mem_nil, or_false, RCap.WRITE_FRAME, RCap.CONSUMED_FRAME, RCap.OVERRUN_FRAMES, RCap.LOST_FRAMES, RCap.OLDEST] at *; omega))
    | (show _ ≠ _; first | decide | omega | (simp only [keyB, keyC, keyCap, keySite, keyPc, keyA, keyG, keyBench, keyNode, keyEng, keyDma, keyLane, keyLink, keyStream, keyStack, keyPort, keyTpg, key, RBay.BAY_STATE, ne_eq, RCap.LOST_FRAMES, RCap.WRITE_FRAME]; omega) | (simp only [keyB, keyC, keyCap, keySite, keyPc, keyA, keyG, keyBench, keyNode, keyEng, keyDma, keyLane, keyLink, keyStream, keyStack, keyPort, keyTpg, key, RBay.BAY_STATE, ne_eq, RCap.LOST_FRAMES, RCap.WRITE_FRAME, List.mem_range, List.mem_cons, List.not_mem_nil, or_false] at *; omega) | (split <;> first | decide | (simp only [keyB, keyC, keyCap, keySite, keyPc, keyA, keyG, keyBench, keyNode, keyEng, keyDma, keyLane, keyLink, keyStream, keyStack, keyPort, keyTpg, key, RBay.BAY_STATE, ne_eq, RCap.LOST_FRAMES, RCap.WRITE_FRAME]; omega)))
    | (intro x_1; refine (fun hx : Bst q s x_1 => ?_) ?_; (clear_value x_1); rotate_left; (unfold x_1))
    | (intro x_1; refine (fun hx : Bst q s x_1.2 => ?_) ?_; (clear_value x_1); rotate_left; (unfold x_1))
    | (intro x_1; clear_value x_1)
    | intro _
    | (with_reducible first | apply State.fixFirsts_bst | apply State.free_bst | apply State.writeBlocks_bst | apply State.fault_bst | apply State.setCap_bst | apply State.modCap_bst | apply Bst.ite | apply Bst.ite1 | apply Bst.ite2)
    | lift_lets -underBinder
    | split
    | dsimp only
    | (refine Bst.upd ?_)

theorem State.endWindow_bst {q : Bay} {s : State} {x_s : State} {x_b : Bay} {x_m : Fin 5} {x_f : CapFrame} {x_hi : Nat} {x_short : Bool} {x_written : Bool} (h_x_s : Bst q s x_s) : Bst q s (State.endWindow x_s x_b x_m x_f x_hi x_short x_written) := by
  unfold State.endWindow
  repeat' first
    | (with_reducible first | assumption | exact Bst.refl _)
    | (show _ < _; first | decide | (simp only [List.mem_cons, List.not_mem_nil, or_false, RCap.WRITE_FRAME, RCap.CONSUMED_FRAME, RCap.OVERRUN_FRAMES, RCap.LOST_FRAMES, RCap.OLDEST] at *; omega))
    | (show _ ≠ _; first | decide | omega | (simp only [keyB, keyC, keyCap, keySite, keyPc, keyA, keyG, keyBench, keyNode, keyEng, keyDma, keyLane, keyLink, keyStream, keyStack, keyPort, keyTpg, key, RBay.BAY_STATE, ne_eq, RCap.OLDEST, RCap.STREAM_STATUS]; omega) | (simp only [keyB, keyC, keyCap, keySite, keyPc, keyA, keyG, keyBench, keyNode, keyEng, keyDma, keyLane, keyLink, keyStream, keyStack, keyPort, keyTpg, key, RBay.BAY_STATE, ne_eq, RCap.OLDEST, RCap.STREAM_STATUS, List.mem_range, List.mem_cons, List.not_mem_nil, or_false] at *; omega) | (split <;> first | decide | (simp only [keyB, keyC, keyCap, keySite, keyPc, keyA, keyG, keyBench, keyNode, keyEng, keyDma, keyLane, keyLink, keyStream, keyStack, keyPort, keyTpg, key, RBay.BAY_STATE, ne_eq, RCap.OLDEST, RCap.STREAM_STATUS]; omega)))
    | (intro x_1; refine (fun hx : Bst q s x_1 => ?_) ?_; (clear_value x_1); rotate_left; (unfold x_1))
    | (intro x_1; refine (fun hx : Bst q s x_1.2 => ?_) ?_; (clear_value x_1); rotate_left; (unfold x_1))
    | (intro x_1; clear_value x_1)
    | intro _
    | (with_reducible first | apply State.free_bst | apply State.modCap_bst | apply State.closeFrame_bst | apply State.occur_bst | apply State.setCap_bst | apply Bst.ite | apply Bst.ite1 | apply Bst.ite2)
    | lift_lets -underBinder
    | split
    | dsimp only
    | (refine Bst.upd ?_)

theorem State.closeDue_bst {q : Bay} {s : State} {x_s : State} {x_b : Bay} {x_m : Fin 5} {x_written : Bool} (h_x_s : Bst q s x_s) : Bst q s (State.closeDue x_s x_b x_m x_written) := by
  unfold State.closeDue
  repeat' first
    | (with_reducible first | assumption | exact Bst.refl _)
    | (intro x_1; refine (fun hx : Bst q s x_1 => ?_) ?_; (clear_value x_1); rotate_left; (unfold x_1))
    | (intro x_1; clear_value x_1)
    | intro _
    | (with_reducible first | apply State.modCap_bst | apply State.closeFrame_bst | apply State.openFrame_bst | apply State.endWindow_bst | apply Bst.ite)
    | lift_lets -underBinder
    | split
    | dsimp only
    | (refine Bst.upd ?_)

theorem State.startSegment_bst {q : Bay} {s : State} {x_s : State} {x_b : Bay} {x_m : Fin 5} {x_at_ : Nat} (h_x_s : Bst q s x_s) : Bst q s (State.startSegment x_s x_b x_m x_at_) := by
  unfold State.startSegment
  repeat' first
    | (with_reducible first | assumption | exact Bst.refl _)
    | (intro x_1; refine (fun hx : Bst q s x_1 => ?_) ?_; (clear_value x_1); rotate_left; (unfold x_1))
    | (intro x_1; clear_value x_1)
    | intro _
    | (with_reducible first | apply State.modCap_bst | apply State.openFrame_bst | apply Bst.ite)
    | lift_lets -underBinder
    | split
    | dsimp only
    | (refine Bst.upd ?_)

theorem State.endSegment_bst {q : Bay} {s : State} {x_s : State} {x_b : Bay} {x_m : Fin 5} {x_at_ : Nat} (h_x_s : Bst q s x_s) : Bst q s (State.endSegment x_s x_b x_m x_at_) := by
  unfold State.endSegment
  repeat' first
    | (with_reducible first | assumption | exact Bst.refl _)
    | intro _
    | (with_reducible first | apply State.modCap_bst | apply Bst.ite)
    | split
    | (refine Bst.upd ?_)

theorem State.capRun_bst {q : Bay} {s : State} {x_s : State} {x_b : Bay} (h_x_s : Bst q s x_s) : Bst q s (State.capRun x_s x_b) := by
  unfold State.capRun
  repeat' first
    | (with_reducible first | assumption | exact Bst.refl _)
    | (show _ < _; first | decide | (simp only [List.mem_cons, List.not_mem_nil, or_false, RCap.WRITE_FRAME, RCap.CONSUMED_FRAME, RCap.OVERRUN_FRAMES, RCap.LOST_FRAMES, RCap.OLDEST] at *; omega))
    | (show _ ≠ _; first | decide | omega | (simp only [keyB, keyC, keyCap, keySite, keyPc, keyA, keyG, keyBench, keyNode, keyEng, keyDma, keyLane, keyLink, keyStream, keyStack, keyPort, keyTpg, key, RBay.BAY_STATE, ne_eq, RCap.START, RCap.STREAM_STATUS]; omega) | (simp only [keyB, keyC, keyCap, keySite, keyPc, keyA, keyG, keyBench, keyNode, keyEng, keyDma, keyLane, keyLink, keyStream, keyStack, keyPort, keyTpg, key, RBay.BAY_STATE, ne_eq, RCap.START, RCap.STREAM_STATUS, List.mem_range, List.mem_cons, List.not_mem_nil, or_false] at *; omega) | (split <;> first | decide | (simp only [keyB, keyC, keyCap, keySite, keyPc, keyA, keyG, keyBench, keyNode, keyEng, keyDma, keyLane, keyLink, keyStream, keyStack, keyPort, keyTpg, key, RBay.BAY_STATE, ne_eq, RCap.START, RCap.STREAM_STATUS]; omega)))
    | intro _
    | (with_reducible first | apply State.each_bst | apply State.setCap_bst | apply State.startSegment_bst | apply Bst.ite)
    | split

theorem State.flushCap_bst {q : Bay} {s : State} {x_s : State} {x_b : Bay} {x_m : Fin 5} {x_a3 : Nat} (h_x_s : Bst q s x_s) : Bst q s (State.flushCap x_s x_b x_m x_a3) := by
  induction x_a3 generalizing x_s with
  | zero =>
    unfold State.flushCap
    repeat' first
      | (with_reducible first | assumption | exact Bst.refl _)
      | (with_reducible first | apply State.closeDue_bst)
      | split
      | dsimp only
  | succ k ih =>
    unfold State.flushCap
    repeat' first
      | with_reducible apply ih
      | (with_reducible first | assumption | exact Bst.refl _)
      | (with_reducible first | apply State.closeDue_bst)
      | split
      | dsimp only

theorem State.capArm_bst {q : Bay} {s : State} {x_s : State} {x_b : Bay} (h_x_s : Bst q s x_s) : Bst q s (State.capArm x_s x_b) := by
  unfold State.capArm
  repeat' first
    | (with_reducible first | assumption | exact Bst.refl _)
    | (show _ < _; first | decide | (simp only [List.mem_cons, List.not_mem_nil, or_false, RCap.WRITE_FRAME, RCap.CONSUMED_FRAME, RCap.OVERRUN_FRAMES, RCap.LOST_FRAMES, RCap.OLDEST] at *; omega))
    | (show _ ≠ _; first | decide | omega | (simp only [keyB, keyC, keyCap, keySite, keyPc, keyA, keyG, keyBench, keyNode, keyEng, keyDma, keyLane, keyLink, keyStream, keyStack, keyPort, keyTpg, key, RBay.BAY_STATE, ne_eq, RBay.TRIG_CYCLE, RBay.TRIG_IGNORED, RBay.TRIG_OFFSET, RBay.TRIG_SOURCE, RBay.TRIG_STATE, RBay.TRIG_TIME, RCap.CONSUMED_FRAME, RCap.LOST_FRAMES, RCap.OLDEST, RCap.OVERRUN_FRAMES, RCap.STREAM_STATUS, RCap.WRITE_FRAME]; omega) | (simp only [keyB, keyC, keyCap, keySite, keyPc, keyA, keyG, keyBench, keyNode, keyEng, keyDma, keyLane, keyLink, keyStream, keyStack, keyPort, keyTpg, key, RBay.BAY_STATE, ne_eq, RBay.TRIG_CYCLE, RBay.TRIG_IGNORED, RBay.TRIG_OFFSET, RBay.TRIG_SOURCE, RBay.TRIG_STATE, RBay.TRIG_TIME, RCap.CONSUMED_FRAME, RCap.LOST_FRAMES, RCap.OLDEST, RCap.OVERRUN_FRAMES, RCap.STREAM_STATUS, RCap.WRITE_FRAME, List.mem_range, List.mem_cons, List.not_mem_nil, or_false] at *; omega) | (split <;> first | decide | (simp only [keyB, keyC, keyCap, keySite, keyPc, keyA, keyG, keyBench, keyNode, keyEng, keyDma, keyLane, keyLink, keyStream, keyStack, keyPort, keyTpg, key, RBay.BAY_STATE, ne_eq, RBay.TRIG_CYCLE, RBay.TRIG_IGNORED, RBay.TRIG_OFFSET, RBay.TRIG_SOURCE, RBay.TRIG_STATE, RBay.TRIG_TIME, RCap.CONSUMED_FRAME, RCap.LOST_FRAMES, RCap.OLDEST, RCap.OVERRUN_FRAMES, RCap.STREAM_STATUS, RCap.WRITE_FRAME]; omega)))
    | (intro x_1; refine (fun hx : Bst q s x_1 => ?_) ?_; (clear_value x_1); rotate_left; (unfold x_1))
    | (intro x_1; clear_value x_1)
    | intro _
    | (with_reducible first | apply State.each_bst | apply State.flushCap_bst | apply State.setCap_bst | apply State.modCap_bst | apply State.startSegment_bst | apply State.setB_bst | apply State.modBay_bst | apply Bst.ite)
    | lift_lets -underBinder
    | split
    | dsimp only
    | (refine Bst.upd ?_)

theorem State.cutWindow_bst {q : Bay} {s : State} {x_s : State} {x_b : Bay} {x_m : Fin 5} (h_x_s : Bst q s x_s) : Bst q s (State.cutWindow x_s x_b x_m) := by
  unfold State.cutWindow
  repeat' first
    | (with_reducible first | assumption | exact Bst.refl _)
    | (intro x_1; refine (fun hx : Bst q s x_1 => ?_) ?_; (clear_value x_1); rotate_left; (unfold x_1))
    | (intro x_1; clear_value x_1)
    | intro _
    | (with_reducible first | apply State.openFrame_bst | apply State.modCap_bst | apply Bst.ite)
    | lift_lets -underBinder
    | split
    | dsimp only
    | (refine Bst.upd ?_)

theorem State.capStop_bst {q : Bay} {s : State} {x_s : State} {x_b : Bay} (h_x_s : Bst q s x_s) : Bst q s (State.capStop x_s x_b) := by
  unfold State.capStop
  repeat' first
    | (with_reducible first | assumption | exact Bst.refl _)
    | (show _ < _; first | decide | (simp only [List.mem_cons, List.not_mem_nil, or_false, RCap.WRITE_FRAME, RCap.CONSUMED_FRAME, RCap.OVERRUN_FRAMES, RCap.LOST_FRAMES, RCap.OLDEST] at *; omega))
    | (show _ ≠ _; first | decide | omega | (simp only [keyB, keyC, keyCap, keySite, keyPc, keyA, keyG, keyBench, keyNode, keyEng, keyDma, keyLane, keyLink, keyStream, keyStack, keyPort, keyTpg, key, RBay.BAY_STATE, ne_eq, RCap.STREAM_STATUS]; omega) | (simp only [keyB, keyC, keyCap, keySite, keyPc, keyA, keyG, keyBench, keyNode, keyEng, keyDma, keyLane, keyLink, keyStream, keyStack, keyPort, keyTpg, key, RBay.BAY_STATE, ne_eq, RCap.STREAM_STATUS, List.mem_range, List.mem_cons, List.not_mem_nil, or_false] at *; omega) | (split <;> first | decide | (simp only [keyB, keyC, keyCap, keySite, keyPc, keyA, keyG, keyBench, keyNode, keyEng, keyDma, keyLane, keyLink, keyStream, keyStack, keyPort, keyTpg, key, RBay.BAY_STATE, ne_eq, RCap.STREAM_STATUS]; omega)))
    | intro _
    | (with_reducible first | apply State.each_bst | apply State.cutWindow_bst | apply State.setCap_bst | apply State.endSegment_bst | apply Bst.ite)
    | split

theorem State.capPause_bst {q : Bay} {s : State} {x_s : State} {x_b : Bay} (h_x_s : Bst q s x_s) : Bst q s (State.capPause x_s x_b) := by
  unfold State.capPause
  repeat' first
    | (with_reducible first | assumption | exact Bst.refl _)
    | (show _ ≠ _; first | decide | omega | (simp only [keyB, keyC, keyCap, keySite, keyPc, keyA, keyG, keyBench, keyNode, keyEng, keyDma, keyLane, keyLink, keyStream, keyStack, keyPort, keyTpg, key, RBay.BAY_STATE, ne_eq]; omega) | (simp only [keyB, keyC, keyCap, keySite, keyPc, keyA, keyG, keyBench, keyNode, keyEng, keyDma, keyLane, keyLink, keyStream, keyStack, keyPort, keyTpg, key, RBay.BAY_STATE, ne_eq, List.mem_range, List.mem_cons, List.not_mem_nil, or_false] at *; omega) | (split <;> first | decide | (simp only [keyB, keyC, keyCap, keySite, keyPc, keyA, keyG, keyBench, keyNode, keyEng, keyDma, keyLane, keyLink, keyStream, keyStack, keyPort, keyTpg, key, RBay.BAY_STATE, ne_eq]; omega)))
    | intro _
    | (with_reducible first | apply State.each_bst | apply State.endSegment_bst | apply Bst.ite)
    | split

theorem State.capResume_bst {q : Bay} {s : State} {x_s : State} {x_b : Bay} (h_x_s : Bst q s x_s) : Bst q s (State.capResume x_s x_b) := by
  unfold State.capResume
  repeat' first
    | (with_reducible first | assumption | exact Bst.refl _)
    | (show _ < _; first | decide | (simp only [List.mem_cons, List.not_mem_nil, or_false, RCap.WRITE_FRAME, RCap.CONSUMED_FRAME, RCap.OVERRUN_FRAMES, RCap.LOST_FRAMES, RCap.OLDEST] at *; omega))
    | (show _ ≠ _; first | decide | omega | (simp only [keyB, keyC, keyCap, keySite, keyPc, keyA, keyG, keyBench, keyNode, keyEng, keyDma, keyLane, keyLink, keyStream, keyStack, keyPort, keyTpg, key, RBay.BAY_STATE, ne_eq, RCap.STREAM_STATUS]; omega) | (simp only [keyB, keyC, keyCap, keySite, keyPc, keyA, keyG, keyBench, keyNode, keyEng, keyDma, keyLane, keyLink, keyStream, keyStack, keyPort, keyTpg, key, RBay.BAY_STATE, ne_eq, RCap.STREAM_STATUS, List.mem_range, List.mem_cons, List.not_mem_nil, or_false] at *; omega) | (split <;> first | decide | (simp only [keyB, keyC, keyCap, keySite, keyPc, keyA, keyG, keyBench, keyNode, keyEng, keyDma, keyLane, keyLink, keyStream, keyStack, keyPort, keyTpg, key, RBay.BAY_STATE, ne_eq, RCap.STREAM_STATUS]; omega)))
    | intro _
    | (with_reducible first | apply State.each_bst | apply State.startSegment_bst | apply Bst.ite)
    | split

theorem State.captureOn_bst {q : Bay} {s : State} {x_s : State} {x_b : Bay} (h_x_s : Bst q s x_s) : Bst q s (State.captureOn x_s x_b) := by
  unfold State.captureOn
  repeat' first
    | (with_reducible first | assumption | exact Bst.refl _)
    | (show _ < _; first | decide | (simp only [List.mem_cons, List.not_mem_nil, or_false, RCap.WRITE_FRAME, RCap.CONSUMED_FRAME, RCap.OVERRUN_FRAMES, RCap.LOST_FRAMES, RCap.OLDEST] at *; omega))
    | (show _ ≠ _; first | decide | omega | (simp only [keyB, keyC, keyCap, keySite, keyPc, keyA, keyG, keyBench, keyNode, keyEng, keyDma, keyLane, keyLink, keyStream, keyStack, keyPort, keyTpg, key, RBay.BAY_STATE, ne_eq, RCap.START, RCap.STREAM_STATUS]; omega) | (simp only [keyB, keyC, keyCap, keySite, keyPc, keyA, keyG, keyBench, keyNode, keyEng, keyDma, keyLane, keyLink, keyStream, keyStack, keyPort, keyTpg, key, RBay.BAY_STATE, ne_eq, RCap.START, RCap.STREAM_STATUS, List.mem_range, List.mem_cons, List.not_mem_nil, or_false] at *; omega) | (split <;> first | decide | (simp only [keyB, keyC, keyCap, keySite, keyPc, keyA, keyG, keyBench, keyNode, keyEng, keyDma, keyLane, keyLink, keyStream, keyStack, keyPort, keyTpg, key, RBay.BAY_STATE, ne_eq, RCap.START, RCap.STREAM_STATUS]; omega)))
    | intro _
    | (with_reducible first | apply State.each_bst | apply State.setCap_bst | apply State.startSegment_bst | apply Bst.ite)
    | split

theorem State.captureOff_bst {q : Bay} {s : State} {x_s : State} {x_b : Bay} (h_x_s : Bst q s x_s) : Bst q s (State.captureOff x_s x_b) := by
  unfold State.captureOff
  repeat' first
    | (with_reducible first | assumption | exact Bst.refl _)
    | (show _ < _; first | decide | (simp only [List.mem_cons, List.not_mem_nil, or_false, RCap.WRITE_FRAME, RCap.CONSUMED_FRAME, RCap.OVERRUN_FRAMES, RCap.LOST_FRAMES, RCap.OLDEST] at *; omega))
    | (show _ ≠ _; first | decide | omega | (simp only [keyB, keyC, keyCap, keySite, keyPc, keyA, keyG, keyBench, keyNode, keyEng, keyDma, keyLane, keyLink, keyStream, keyStack, keyPort, keyTpg, key, RBay.BAY_STATE, ne_eq, RCap.STREAM_STATUS]; omega) | (simp only [keyB, keyC, keyCap, keySite, keyPc, keyA, keyG, keyBench, keyNode, keyEng, keyDma, keyLane, keyLink, keyStream, keyStack, keyPort, keyTpg, key, RBay.BAY_STATE, ne_eq, RCap.STREAM_STATUS, List.mem_range, List.mem_cons, List.not_mem_nil, or_false] at *; omega) | (split <;> first | decide | (simp only [keyB, keyC, keyCap, keySite, keyPc, keyA, keyG, keyBench, keyNode, keyEng, keyDma, keyLane, keyLink, keyStream, keyStack, keyPort, keyTpg, key, RBay.BAY_STATE, ne_eq, RCap.STREAM_STATUS]; omega)))
    | intro _
    | (with_reducible first | apply State.each_bst | apply State.setCap_bst | apply State.endSegment_bst | apply Bst.ite)
    | split

theorem State.capMark_bst {q : Bay} {s : State} {x_s : State} {x_b : Bay} {x_value : Nat} (h_x_s : Bst q s x_s) : Bst q s (State.capMark x_s x_b x_value) := by
  unfold State.capMark
  repeat' first
    | (with_reducible first | assumption | exact Bst.refl _)
    | (show _ ≠ _; first | decide | omega | (simp only [keyB, keyC, keyCap, keySite, keyPc, keyA, keyG, keyBench, keyNode, keyEng, keyDma, keyLane, keyLink, keyStream, keyStack, keyPort, keyTpg, key, RBay.BAY_STATE, ne_eq]; omega) | (simp only [keyB, keyC, keyCap, keySite, keyPc, keyA, keyG, keyBench, keyNode, keyEng, keyDma, keyLane, keyLink, keyStream, keyStack, keyPort, keyTpg, key, RBay.BAY_STATE, ne_eq, List.mem_range, List.mem_cons, List.not_mem_nil, or_false] at *; omega) | (split <;> first | decide | (simp only [keyB, keyC, keyCap, keySite, keyPc, keyA, keyG, keyBench, keyNode, keyEng, keyDma, keyLane, keyLink, keyStream, keyStack, keyPort, keyTpg, key, RBay.BAY_STATE, ne_eq]; omega)))
    | (intro x_1; refine (fun hx : Bst q s x_1 => ?_) ?_; (clear_value x_1); rotate_left; (unfold x_1))
    | (intro x_1; clear_value x_1)
    | intro _
    | (with_reducible first | apply State.each_bst | apply State.modCap_bst | apply State.modBay_bst | apply Bst.ite)
    | lift_lets -underBinder
    | split
    | dsimp only
    | (refine Bst.upd ?_)

theorem State.fireWindow_bst {q : Bay} {s : State} {x_s : State} {x_b : Bay} {x_m : Fin 5} {x_at_ : Nat} {x_cycle : Nat} {x_offset : Nat} (h_x_s : Bst q s x_s) : Bst q s (State.fireWindow x_s x_b x_m x_at_ x_cycle x_offset) := by
  unfold State.fireWindow
  repeat' first
    | (with_reducible first | assumption | exact Bst.refl _)
    | (show _ < _; first | decide | (simp only [List.mem_cons, List.not_mem_nil, or_false, RCap.WRITE_FRAME, RCap.CONSUMED_FRAME, RCap.OVERRUN_FRAMES, RCap.LOST_FRAMES, RCap.OLDEST] at *; omega))
    | (show _ ≠ _; first | decide | omega | (simp only [keyB, keyC, keyCap, keySite, keyPc, keyA, keyG, keyBench, keyNode, keyEng, keyDma, keyLane, keyLink, keyStream, keyStack, keyPort, keyTpg, key, RBay.BAY_STATE, ne_eq, RCap.STREAM_STATUS]; omega) | (simp only [keyB, keyC, keyCap, keySite, keyPc, keyA, keyG, keyBench, keyNode, keyEng, keyDma, keyLane, keyLink, keyStream, keyStack, keyPort, keyTpg, key, RBay.BAY_STATE, ne_eq, RCap.STREAM_STATUS, List.mem_range, List.mem_cons, List.not_mem_nil, or_false] at *; omega) | (split <;> first | decide | (simp only [keyB, keyC, keyCap, keySite, keyPc, keyA, keyG, keyBench, keyNode, keyEng, keyDma, keyLane, keyLink, keyStream, keyStack, keyPort, keyTpg, key, RBay.BAY_STATE, ne_eq, RCap.STREAM_STATUS]; omega)))
    | (intro x_1; refine (fun hx : Bst q s x_1 => ?_) ?_; (clear_value x_1); rotate_left; (unfold x_1))
    | (intro x_1; clear_value x_1)
    | intro _
    | (with_reducible first | apply State.modCap_bst | apply State.setCap_bst)
    | lift_lets -underBinder
    | split
    | dsimp only
    | (refine Bst.upd ?_)

theorem State.recognise_bst {q : Bay} {s : State} {x_s : State} {x_b : Bay} {x_h : TrigHit} (h_x_s : Bst q s x_s) : Bst q s (State.recognise x_s x_b x_h) := by
  unfold State.recognise
  repeat' first
    | (with_reducible first | assumption | exact Bst.refl _)
    | (show _ ≠ _; first | decide | omega | (simp only [keyB, keyC, keyCap, keySite, keyPc, keyA, keyG, keyBench, keyNode, keyEng, keyDma, keyLane, keyLink, keyStream, keyStack, keyPort, keyTpg, key, RBay.BAY_STATE, ne_eq, RBay.TRIG_CYCLE, RBay.TRIG_IGNORED, RBay.TRIG_OFFSET, RBay.TRIG_STATE, RBay.TRIG_TIME]; omega) | (simp only [keyB, keyC, keyCap, keySite, keyPc, keyA, keyG, keyBench, keyNode, keyEng, keyDma, keyLane, keyLink, keyStream, keyStack, keyPort, keyTpg, key, RBay.BAY_STATE, ne_eq, RBay.TRIG_CYCLE, RBay.TRIG_IGNORED, RBay.TRIG_OFFSET, RBay.TRIG_STATE, RBay.TRIG_TIME, List.mem_range, List.mem_cons, List.not_mem_nil, or_false] at *; omega) | (split <;> first | decide | (simp only [keyB, keyC, keyCap, keySite, keyPc, keyA, keyG, keyBench, keyNode, keyEng, keyDma, keyLane, keyLink, keyStream, keyStack, keyPort, keyTpg, key, RBay.BAY_STATE, ne_eq, RBay.TRIG_CYCLE, RBay.TRIG_IGNORED, RBay.TRIG_OFFSET, RBay.TRIG_STATE, RBay.TRIG_TIME]; omega)))
    | (intro x_1; refine (fun hx : Bst q s x_1 => ?_) ?_; (clear_value x_1); rotate_left; (unfold x_1))
    | (intro x_1; clear_value x_1)
    | intro _
    | (with_reducible first | apply State.incB_bst | apply State.setB_bst | apply State.occur_bst | apply State.modBay_bst | apply State.each_bst | apply State.fireWindow_bst | apply Bst.ite)
    | lift_lets -underBinder
    | split
    | dsimp only
    | (refine Bst.upd ?_)

theorem State.historyFire_bst {q : Bay} {s : State} {x_s : State} {x_b : Bay} {x_cycle : Nat} {x_offset : Nat} (h_x_s : Bst q s x_s) : Bst q s (State.historyFire x_s x_b x_cycle x_offset) := by
  unfold State.historyFire
  repeat' first
    | (with_reducible first | assumption | exact Bst.refl _)
    | (with_reducible first | apply State.fireWindow_bst | apply Bst.ite)
    | split

theorem State.hitNow_bst {q : Bay} {s : State} {x_s : State} {x_b : Bay} (h_x_s : Bst q s x_s) : Bst q s (State.hitNow x_s x_b).1 := by
  unfold State.hitNow
  repeat' first
    | (with_reducible first | assumption | exact Bst.refl _)
    | (intro x_1; refine (fun hx : Bst q s x_1 => ?_) ?_; (clear_value x_1); rotate_left; (unfold x_1))
    | (intro x_1; refine (fun hx : Bst q s x_1.2 => ?_) ?_; (clear_value x_1); rotate_left; (unfold x_1))
    | (intro x_1; clear_value x_1)
    | intro _
    | (with_reducible first | apply State.free_bst)
    | lift_lets -underBinder
    | split
    | dsimp only
    | (refine Bst.upd ?_)

theorem State.edgeTrigger_bst {q : Bay} {s : State} {x_s : State} {x_b : Bay} {x_source : Nat} {x_param : Nat} {x_mask : Nat} (h_x_s : Bst q s x_s) : Bst q s (State.edgeTrigger x_s x_b x_source x_param x_mask) := by
  unfold State.edgeTrigger
  repeat' first
    | (with_reducible first | assumption | exact Bst.refl _)
    | (intro x_1; refine (fun hx : Bst q s x_1 => ?_) ?_; (clear_value x_1); rotate_left; (unfold x_1))
    | (intro x_1; refine (fun hx : Bst q s x_1.1 => ?_) ?_; (clear_value x_1); rotate_left; (unfold x_1))
    | (intro x_1; clear_value x_1)
    | intro _
    | (with_reducible first | apply State.recognise_bst | apply State.hitNow_bst | apply Bst.ite | apply Bst.ite1 | apply Bst.ite2)
    | lift_lets -underBinder
    | split
    | dsimp only

theorem State.dropHit_bst {q : Bay} {s : State} {x_s : State} {x_b : Bay} {x_h : TrigHit} (h_x_s : Bst q s x_s) : Bst q s (State.dropHit x_s x_b x_h) := by
  unfold State.dropHit
  repeat' first
    | (with_reducible first | assumption | exact Bst.refl _)
    | intro _
    | (with_reducible first | apply State.modBay_bst)
    | split
    | (refine Bst.upd ?_)

theorem State.consume_bst {q : Bay} {s : State} {x_s : State} {x_b : Bay} {x_m : Fin 5} {x_v : Nat} (h_x_s : Bst q s x_s) : Bst q s (State.consume x_s x_b x_m x_v) := by
  unfold State.consume
  repeat' first
    | (with_reducible first | assumption | exact Bst.refl _)
    | (show _ ≠ _; first | decide | omega | (simp only [keyB, keyC, keyCap, keySite, keyPc, keyA, keyG, keyBench, keyNode, keyEng, keyDma, keyLane, keyLink, keyStream, keyStack, keyPort, keyTpg, key, RBay.BAY_STATE, ne_eq, RCap.CONSUMED_FRAME, RCap.WRITE_FRAME]; omega) | (simp only [keyB, keyC, keyCap, keySite, keyPc, keyA, keyG, keyBench, keyNode, keyEng, keyDma, keyLane, keyLink, keyStream, keyStack, keyPort, keyTpg, key, RBay.BAY_STATE, ne_eq, RCap.CONSUMED_FRAME, RCap.WRITE_FRAME, List.mem_range, List.mem_cons, List.not_mem_nil, or_false] at *; omega) | (split <;> first | decide | (simp only [keyB, keyC, keyCap, keySite, keyPc, keyA, keyG, keyBench, keyNode, keyEng, keyDma, keyLane, keyLink, keyStream, keyStack, keyPort, keyTpg, key, RBay.BAY_STATE, ne_eq, RCap.CONSUMED_FRAME, RCap.WRITE_FRAME]; omega)))
    | (show _ < _; first | decide | omega | (simp only [keyB, keyC, keyCap, keySite, keyPc, keyA, keyG, keyBench, keyNode, keyEng, keyDma, keyLane, keyLink, keyStream, keyStack, keyPort, keyTpg, key, RBay.BAY_STATE, ne_eq, RCap.CONSUMED_FRAME, RCap.WRITE_FRAME]; omega) | (simp only [keyB, keyC, keyCap, keySite, keyPc, keyA, keyG, keyBench, keyNode, keyEng, keyDma, keyLane, keyLink, keyStream, keyStack, keyPort, keyTpg, key, RBay.BAY_STATE, ne_eq, RCap.CONSUMED_FRAME, RCap.WRITE_FRAME, List.mem_range, List.mem_cons, List.not_mem_nil, or_false] at *; omega) | (split <;> first | decide | (simp only [keyB, keyC, keyCap, keySite, keyPc, keyA, keyG, keyBench, keyNode, keyEng, keyDma, keyLane, keyLink, keyStream, keyStack, keyPort, keyTpg, key, RBay.BAY_STATE, ne_eq, RCap.CONSUMED_FRAME, RCap.WRITE_FRAME]; omega)))
    | (with_reducible first | apply State.answer_bst | apply State.ok_bst | apply State.setCap_bst | apply Bst.ite)

theorem State.trigForce_bst {q : Bay} {s : State} {x_s : State} {x_b : Bay} (h_x_s : Bst q s x_s) : Bst q s (State.trigForce x_s x_b) := by
  unfold State.trigForce
  repeat' first
    | (with_reducible first | assumption | exact Bst.refl _ | apply State.ok_bst | apply State.edgeTrigger_bst)

theorem State.trigRearm_bst {q : Bay} {s : State} {x_s : State} {x_b : Bay} (h_x_s : Bst q s x_s) : Bst q s (State.trigRearm x_s x_b) := by
  unfold State.trigRearm
  repeat' first
    | (with_reducible first | assumption | exact Bst.refl _)
    | (show _ < _; first | decide | (simp only [List.mem_cons, List.not_mem_nil, or_false, RCap.WRITE_FRAME, RCap.CONSUMED_FRAME, RCap.OVERRUN_FRAMES, RCap.LOST_FRAMES, RCap.OLDEST] at *; omega))
    | (show _ ≠ _; first | decide | omega | (simp only [keyB, keyC, keyCap, keySite, keyPc, keyA, keyG, keyBench, keyNode, keyEng, keyDma, keyLane, keyLink, keyStream, keyStack, keyPort, keyTpg, key, RBay.BAY_STATE, ne_eq, RBay.TRIG_SOURCE, RBay.TRIG_STATE, RCap.STREAM_STATUS]; omega) | (simp only [keyB, keyC, keyCap, keySite, keyPc, keyA, keyG, keyBench, keyNode, keyEng, keyDma, keyLane, keyLink, keyStream, keyStack, keyPort, keyTpg, key, RBay.BAY_STATE, ne_eq, RBay.TRIG_SOURCE, RBay.TRIG_STATE, RCap.STREAM_STATUS, List.mem_range, List.mem_cons, List.not_mem_nil, or_false] at *; omega) | (split <;> first | decide | (simp only [keyB, keyC, keyCap, keySite, keyPc, keyA, keyG, keyBench, keyNode, keyEng, keyDma, keyLane, keyLink, keyStream, keyStack, keyPort, keyTpg, key, RBay.BAY_STATE, ne_eq, RBay.TRIG_SOURCE, RBay.TRIG_STATE, RCap.STREAM_STATUS]; omega)))
    | (intro x_1; refine (fun hx : Bst q s x_1 => ?_) ?_; (clear_value x_1); rotate_left; (unfold x_1))
    | (intro x_1; clear_value x_1)
    | intro _
    | (with_reducible first | apply State.answer_bst | apply State.each_bst | apply State.modCap_bst | apply State.startSegment_bst | apply State.setCap_bst | apply State.ok_bst | apply State.setB_bst | apply Bst.ite)
    | lift_lets -underBinder
    | split
    | dsimp only

theorem execFrameClose_bst {q : Bay} {s : State} {x_b : Bay} {x_mode : CapMode} {x_written : Bool} {x_s : State} (h_x_s : Bst q s x_s) : BstN q s (execFrameClose x_b x_mode x_written x_s) := by
  unfold execFrameClose
  repeat' first
    | (with_reducible first | assumption | exact Bst.refl _)
    | (with_reducible first | apply State.closeDue_bst | apply BstN.next | apply BstN.ite)

theorem execConsumedFrameWrite_bst {q : Bay} {s : State} {x_b : Bay} {x_epoch : BitVec 16} {x_mode : CapMode} {x_value : BitVec 64} {x_s : State} (h_x_s : Bst q s x_s) : BstN q s (execConsumedFrameWrite x_b x_epoch x_mode x_value x_s) := by
  unfold execConsumedFrameWrite
  repeat' first
    | (with_reducible first | assumption | exact Bst.refl _)
    | intro _
    | (with_reducible first | apply State.hostBay_bst | apply State.consume_bst | apply BstN.next | apply BstN.ite)

theorem execTriggerArmed_bst {q : Bay} {s : State} {x_b : Bay} {x_s : State} (h_x_s : Bst q s x_s) : BstN q s (execTriggerArmed x_b x_s) := by
  unfold execTriggerArmed
  repeat' first
    | (with_reducible first | assumption | exact Bst.refl _)
    | (show _ < _; first | decide | (simp only [List.mem_cons, List.not_mem_nil, or_false, RCap.WRITE_FRAME, RCap.CONSUMED_FRAME, RCap.OVERRUN_FRAMES, RCap.LOST_FRAMES, RCap.OLDEST] at *; omega))
    | (show _ ≠ _; first | decide | omega | (simp only [keyB, keyC, keyCap, keySite, keyPc, keyA, keyG, keyBench, keyNode, keyEng, keyDma, keyLane, keyLink, keyStream, keyStack, keyPort, keyTpg, key, RBay.BAY_STATE, ne_eq, RBay.TRIG_STATE, RCap.STREAM_STATUS]; omega) | (simp only [keyB, keyC, keyCap, keySite, keyPc, keyA, keyG, keyBench, keyNode, keyEng, keyDma, keyLane, keyLink, keyStream, keyStack, keyPort, keyTpg, key, RBay.BAY_STATE, ne_eq, RBay.TRIG_STATE, RCap.STREAM_STATUS, List.mem_range, List.mem_cons, List.not_mem_nil, or_false] at *; omega) | (split <;> first | decide | (simp only [keyB, keyC, keyCap, keySite, keyPc, keyA, keyG, keyBench, keyNode, keyEng, keyDma, keyLane, keyLink, keyStream, keyStack, keyPort, keyTpg, key, RBay.BAY_STATE, ne_eq, RBay.TRIG_STATE, RCap.STREAM_STATUS]; omega)))
    | (intro x_1; refine (fun hx : Bst q s x_1 => ?_) ?_; (clear_value x_1); rotate_left; (unfold x_1))
    | (intro x_1; clear_value x_1)
    | intro _
    | (with_reducible first | apply State.modBay_bst | apply State.setB_bst | apply State.each_bst | apply State.setCap_bst | apply BstN.next | apply BstN.ite | apply Bst.ite)
    | lift_lets -underBinder
    | split
    | dsimp only
    | (refine Bst.upd ?_)

theorem execTriggerRecognised_bst {q : Bay} {s : State} {x_b : Bay} {x_cycle : Nat} {x_offset : Nat} {x_s : State} (h_x_s : Bst q s x_s) : BstN q s (execTriggerRecognised x_b x_cycle x_offset x_s) := by
  unfold execTriggerRecognised
  repeat' first
    | (with_reducible first | assumption | exact Bst.refl _)
    | intro _
    | (with_reducible first | apply State.recognise_bst | apply State.dropHit_bst | apply BstN.next | apply BstN.ite)
    | split
    | (refine Bst.upd ?_)

theorem execChannelEdge_bst {q : Bay} {s : State} {x_c : Chan} {x_cmph : Bool} {x_cmpl : Bool} {x_cycle : Nat} {x_offset : Nat} {x_s : State} (h_x_s : Bst q s x_s) : BstN q s (execChannelEdge x_c x_cmph x_cmpl x_cycle x_offset x_s) := by
  unfold execChannelEdge
  repeat' first
    | (with_reducible first | assumption | exact Bst.refl _)
    | (intro x_1; refine (fun hx : Bst q s x_1 => ?_) ?_; (clear_value x_1); rotate_left; (unfold x_1))
    | (intro x_1; clear_value x_1)
    | intro _
    | (with_reducible first | apply State.modChan_bst | apply State.dropEvent_bst | apply State.occur_bst | apply State.modBay_bst | apply BstN.next | apply BstN.ite | apply Bst.ite)
    | lift_lets -underBinder
    | split
    | dsimp only
    | (refine Bst.upd ?_)

theorem execTrigForce_bst {q : Bay} {s : State} {x_b : Bay} {x_epoch : BitVec 16} {x_s : State} (h_x_s : Bst q s x_s) : BstN q s (execTrigForce x_b x_epoch x_s) := by
  unfold execTrigForce
  repeat' first
    | (with_reducible first | assumption | exact Bst.refl _)
    | intro _
    | (with_reducible first | apply State.hostBay_bst | apply State.trigForce_bst | apply BstN.next | apply BstN.ite)

theorem execTrigRearm_bst {q : Bay} {s : State} {x_b : Bay} {x_epoch : BitVec 16} {x_s : State} (h_x_s : Bst q s x_s) : BstN q s (execTrigRearm x_b x_epoch x_s) := by
  unfold execTrigRearm
  repeat' first
    | (with_reducible first | assumption | exact Bst.refl _)
    | intro _
    | (with_reducible first | apply State.hostBay_bst | apply State.trigRearm_bst | apply BstN.next | apply BstN.ite)

theorem execWindowDone_bst {q : Bay} {s : State} {x_b : Bay} {x_mode : CapMode} {x_written : Bool} {x_s : State} (h_x_s : Bst q s x_s) : BstN q s (execWindowDone x_b x_mode x_written x_s) := by
  unfold execWindowDone
  repeat' first
    | (with_reducible first | assumption | exact Bst.refl _)
    | (intro x_1; refine (fun hx : Bst q s x_1 => ?_) ?_; (clear_value x_1); rotate_left; (unfold x_1))
    | (intro x_1; clear_value x_1)
    | intro _
    | (with_reducible first | apply State.endWindow_bst | apply BstN.next | apply BstN.ite)
    | lift_lets -underBinder
    | split
    | dsimp only
    | (refine Bst.upd ?_)

theorem execScopeSample_bst {q : Bay} {s : State} {x_b : Bay} {x_cmph : BitVec 2} {x_cmpl : BitVec 2} {x_s : State} (h_x_s : Bst q s x_s) : BstN q s (execScopeSample x_b x_cmph x_cmpl x_s) := by
  unfold execScopeSample
  repeat' first
    | (with_reducible first | assumption | exact Bst.refl _)
    | (intro x_1; refine (fun hx : Bst q s x_1 => ?_) ?_; (clear_value x_1); rotate_left; (unfold x_1))
    | (intro x_1; clear_value x_1)
    | intro _
    | (with_reducible first | apply State.modCap_bst | apply BstN.next | apply BstN.ite | apply Bst.ite | apply Bst.ite1 | apply Bst.ite2 | apply Bst.foldl)
    | lift_lets -underBinder
    | split
    | dsimp only
    | (refine Bst.upd ?_)

end Sys2Proof.Machine
end

