-- ==== Sys2Proof/Laws/BstTiming.lean ====
section
/-! SUPPORT. What the operations of Machine/Timing.lean keep. -/

set_option linter.all false

namespace Sys2Proof.Machine

theorem State.violate_bst {q : Bay} {s : State} {x_s : State} {x_c : Chan} {x_flag : Nat} {x_count : Nat} (h_x_s : Bst q s x_s) : Bst q s (State.violate x_s x_c x_flag x_count) := by
  unfold State.violate
  repeat' first
    | (with_reducible first | assumption | exact Bst.refl _)
    | (intro x_1; refine (fun hx : Bst q s x_1 => ?_) ?_; (clear_value x_1); rotate_left; (unfold x_1))
    | (intro x_1; clear_value x_1)
    | intro _
    | (with_reducible first | apply State.incC_bst | apply State.flagC_bst | apply State.occur_bst | apply Bst.ite)
    | lift_lets -underBinder

theorem State.judge_bst {q : Bay} {s : State} {x_s : State} {x_c : Chan} {x_k : Nat} {x_v : VInfo} {x_strobeCycle : Nat} {x_at_ : Int} {x_fail : Bool} (h_x_s : Bst q s x_s) : Bst q s (State.judge x_s x_c x_k x_v x_strobeCycle x_at_ x_fail) := by
  unfold State.judge
  repeat' first
    | (with_reducible first | assumption | exact Bst.refl _)
    | (intro x_1; refine (fun hx : Bst q s x_1 => ?_) ?_; (clear_value x_1); rotate_left; (unfold x_1))
    | (intro x_1; clear_value x_1)
    | intro _
    | (with_reducible first | apply State.compared_bst | apply State.historyFire_bst | apply Bst.ite)
    | lift_lets -underBinder
    | split
    | dsimp only

theorem State.placeDrive_bst {q : Bay} {s : State} {x_s : State} {x_c : Chan} {x_v : VInfo} {x_rec : Nat} {x_a0 : Nat} {x_a1 : Nat} (h_x_s : Bst q s x_s) : Bst q s (State.placeDrive x_s x_c x_v x_rec x_a0 x_a1) := by
  unfold State.placeDrive
  repeat' first
    | (with_reducible first | assumption | exact Bst.refl _)
    | (intro x_1; refine (fun hx : Bst q s x_1 => ?_) ?_; (clear_value x_1); rotate_left; (unfold x_1))
    | (intro x_1; clear_value x_1)
    | intro _
    | (with_reducible first | apply State.each_bst | apply State.modChan_bst | apply State.invalidChan_bst | apply State.violate_bst | exact BstO.none | apply BstO.some | apply BstO.ite | apply Bst.ite)
    | lift_lets -underBinder
    | split
    | (refine Bst.upd ?_)

theorem State.badCapture_bst {q : Bay} {s : State} {x_s : State} {x_c : Chan} {x_cycle : Nat} {x_slot : Nat} (h_x_s : Bst q s x_s) : Bst q s (State.badCapture x_s x_c x_cycle x_slot) := by
  unfold State.badCapture
  repeat' first
    | (with_reducible first | assumption | exact Bst.refl _)
    | intro _
    | (with_reducible first | apply State.modVec_bst)
    | (refine Bst.upd ?_)

theorem State.placeStrobes_bst {q : Bay} {s : State} {x_s : State} {x_c : Chan} {x_v : VInfo} {x_rec : Nat} {x_a0 : Nat} {x_a1 : Nat} (h_x_s : Bst q s x_s) : Bst q s (State.placeStrobes x_s x_c x_v x_rec x_a0 x_a1) := by
  unfold State.placeStrobes
  repeat' first
    | (with_reducible first | assumption | exact Bst.refl _)
    | (show _ ≠ _; first | decide | omega | (simp only [keyB, keyC, keyCap, keySite, keyPc, keyA, keyG, keyBench, keyNode, keyEng, keyDma, keyLane, keyLink, keyStream, keyStack, keyPort, keyTpg, key, RBay.BAY_STATE, ne_eq, RChan.LATE_COUNT]; omega) | (simp only [keyB, keyC, keyCap, keySite, keyPc, keyA, keyG, keyBench, keyNode, keyEng, keyDma, keyLane, keyLink, keyStream, keyStack, keyPort, keyTpg, key, RBay.BAY_STATE, ne_eq, RChan.LATE_COUNT, List.mem_range, List.mem_cons, List.not_mem_nil, or_false] at *; omega) | (split <;> first | decide | (simp only [keyB, keyC, keyCap, keySite, keyPc, keyA, keyG, keyBench, keyNode, keyEng, keyDma, keyLane, keyLink, keyStream, keyStack, keyPort, keyTpg, key, RBay.BAY_STATE, ne_eq, RChan.LATE_COUNT]; omega)))
    | (intro x_1; refine (fun hx : Bst q s x_1 => ?_) ?_; (clear_value x_1); rotate_left; (unfold x_1))
    | (intro x_1; clear_value x_1)
    | intro _
    | (with_reducible first | apply State.each_bst | apply State.modChan_bst | apply State.violate_bst | apply State.judge_bst | apply State.badCapture_bst | apply Bst.ite)
    | lift_lets -underBinder
    | split
    | dsimp only
    | (refine Bst.upd ?_)

theorem State.blankIssued_bst {q : Bay} {s : State} {x_s : State} {x_c : Chan} (h_x_s : Bst q s x_s) : Bst q s (State.blankIssued x_s x_c) := by
  unfold State.blankIssued
  repeat' first
    | (with_reducible first | assumption | exact Bst.refl _)
    | (intro x_1; refine (fun hx : Bst q s x_1 => ?_) ?_; (clear_value x_1); rotate_left; (unfold x_1))
    | (intro x_1; clear_value x_1)
    | intro _
    | (with_reducible first | apply State.startBlank_bst | apply Bst.ite)
    | lift_lets -underBinder
    | split
    | dsimp only

theorem State.periodReset_bst {q : Bay} {s : State} {x_s : State} {x_b : Bay} (h_x_s : Bst q s x_s) : Bst q s (State.periodReset x_s x_b) := by
  unfold State.periodReset
  repeat' first
    | (with_reducible first | assumption | exact Bst.refl _)
    | (show _ ≠ _; first | decide | omega | (simp only [keyB, keyC, keyCap, keySite, keyPc, keyA, keyG, keyBench, keyNode, keyEng, keyDma, keyLane, keyLink, keyStream, keyStack, keyPort, keyTpg, key, RBay.BAY_STATE, ne_eq, RBay.PERIOD_RESETS, RBay.RESIDUE_DROPPED]; omega) | (simp only [keyB, keyC, keyCap, keySite, keyPc, keyA, keyG, keyBench, keyNode, keyEng, keyDma, keyLane, keyLink, keyStream, keyStack, keyPort, keyTpg, key, RBay.BAY_STATE, ne_eq, RBay.PERIOD_RESETS, RBay.RESIDUE_DROPPED, List.mem_range, List.mem_cons, List.not_mem_nil, or_false] at *; omega) | (split <;> first | decide | (simp only [keyB, keyC, keyCap, keySite, keyPc, keyA, keyG, keyBench, keyNode, keyEng, keyDma, keyLane, keyLink, keyStream, keyStack, keyPort, keyTpg, key, RBay.BAY_STATE, ne_eq, RBay.PERIOD_RESETS, RBay.RESIDUE_DROPPED]; omega)))
    | (intro x_1; refine (fun hx : Bst q s x_1 => ?_) ?_; (clear_value x_1); rotate_left; (unfold x_1))
    | (intro x_1; clear_value x_1)
    | intro _
    | (with_reducible first | apply State.each_bst | apply State.modChan_bst | apply State.compared_bst | apply State.setB_bst | apply State.incB_bst | apply Bst.foldl)
    | lift_lets -underBinder
    | dsimp only
    | (refine Bst.upd ?_)

theorem State.matchStart_bst {q : Bay} {s : State} {x_s : State} {x_b : Bay} {x_v : VInfo} (h_x_s : Bst q s x_s) : Bst q s (State.matchStart x_s x_b x_v) := by
  unfold State.matchStart
  repeat' first
    | (with_reducible first | assumption | exact Bst.refl _)
    | (intro x_1; refine (fun hx : Bst q s x_1 => ?_) ?_; (clear_value x_1); rotate_left; (unfold x_1))
    | (intro x_1; clear_value x_1)
    | intro _
    | (with_reducible first | apply State.modBay_bst | exact BstO.none | apply BstO.some | apply BstO.ite)
    | lift_lets -underBinder
    | split
    | (refine Bst.upd ?_)

theorem State.matchPlaced_bst {q : Bay} {s : State} {x_s : State} {x_b : Bay} {x_v : VInfo} (h_x_s : Bst q s x_s) : Bst q s (State.matchPlaced x_s x_b x_v) := by
  unfold State.matchPlaced
  repeat' first
    | (with_reducible first | assumption | exact Bst.refl _)
    | (intro x_1; refine (fun hx : Bst q s x_1 => ?_) ?_; (clear_value x_1); rotate_left; (unfold x_1))
    | (intro x_1; clear_value x_1)
    | intro _
    | (with_reducible first | apply State.modBay_bst | apply Bst.ite | apply Bst.foldl)
    | lift_lets -underBinder
    | split
    | dsimp only
    | (refine Bst.upd ?_)

theorem State.firstVector_bst {q : Bay} {s : State} {x_s : State} {x_b : Bay} (h_x_s : Bst q s x_s) : Bst q s (State.firstVector x_s x_b) := by
  unfold State.firstVector
  repeat' first
    | (with_reducible first | assumption | exact Bst.refl _ | apply State.inhibitBay_bst | apply Bst.ite)

theorem State.issueVec_bst {q : Bay} {s : State} {x_s : State} {x_b : Bay} {x_kind : VecKind} (h_x_s : Bst q s x_s) : Bst q s (State.issueVec x_s x_b x_kind) := by
  unfold State.issueVec
  repeat' first
    | (with_reducible first | assumption | exact Bst.refl _)
    | (show _ ≠ _; first | decide | omega | (simp only [keyB, keyC, keyCap, keySite, keyPc, keyA, keyG, keyBench, keyNode, keyEng, keyDma, keyLane, keyLink, keyStream, keyStack, keyPort, keyTpg, key, RBay.BAY_STATE, ne_eq, RBay.CURRENT_PRD, RBay.CURRENT_TSET, RBay.CYCLE_COUNT, RBay.PERIOD, RBay.QUADS_RETIRED, RBay.VECTORS_ISSUED]; omega) | (simp only [keyB, keyC, keyCap, keySite, keyPc, keyA, keyG, keyBench, keyNode, keyEng, keyDma, keyLane, keyLink, keyStream, keyStack, keyPort, keyTpg, key, RBay.BAY_STATE, ne_eq, RBay.CURRENT_PRD, RBay.CURRENT_TSET, RBay.CYCLE_COUNT, RBay.PERIOD, RBay.QUADS_RETIRED, RBay.VECTORS_ISSUED, List.mem_range, List.mem_cons, List.not_mem_nil, or_false] at *; omega) | (split <;> first | decide | (simp only [keyB, keyC, keyCap, keySite, keyPc, keyA, keyG, keyBench, keyNode, keyEng, keyDma, keyLane, keyLink, keyStream, keyStack, keyPort, keyTpg, key, RBay.BAY_STATE, ne_eq, RBay.CURRENT_PRD, RBay.CURRENT_TSET, RBay.CYCLE_COUNT, RBay.PERIOD, RBay.QUADS_RETIRED, RBay.VECTORS_ISSUED]; omega)))
    | (intro x_1; refine (fun hx : Bst q s x_1 => ?_) ?_; (clear_value x_1); rotate_left; (unfold x_1))
    | (intro x_1; clear_value x_1)
    | intro _
    | (with_reducible first | apply State.firstVector_bst | apply State.periodReset_bst | apply State.matchStart_bst | apply State.modBay_bst | apply State.setB_bst | apply State.each_bst | apply State.placeStrobes_bst | apply State.blankIssued_bst | apply State.placeDrive_bst | apply State.matchPlaced_bst | apply Bst.ite | apply Bst.ite1 | apply Bst.ite2)
    | lift_lets -underBinder
    | split
    | dsimp only
    | (refine Bst.upd ?_)

theorem State.drvLine_bst {q : Bay} {s : State} {x_s : State} {x_c : Chan} {x_t : Int} {x_level : Bool} (h_x_s : Bst q s x_s) : Bst q s (State.drvLine x_s x_c x_t x_level) := by
  unfold State.drvLine
  repeat' first
    | (with_reducible first | assumption | exact Bst.refl _)
    | (intro x_1; refine (fun hx : Bst q s x_1 => ?_) ?_; (clear_value x_1); rotate_left; (unfold x_1))
    | (intro x_1; clear_value x_1)
    | intro _
    | (with_reducible first | apply State.invalidChan_bst | apply State.violate_bst | apply State.modChan_bst | apply Bst.ite)
    | lift_lets -underBinder
    | split
    | dsimp only
    | (refine Bst.upd ?_)

theorem State.denLine_bst {q : Bay} {s : State} {x_s : State} {x_c : Chan} {x_t : Int} {x_level : Bool} (h_x_s : Bst q s x_s) : Bst q s (State.denLine x_s x_c x_t x_level) := by
  unfold State.denLine
  repeat' first
    | (with_reducible first | assumption | exact Bst.refl _)
    | (intro x_1; refine (fun hx : Bst q s x_1 => ?_) ?_; (clear_value x_1); rotate_left; (unfold x_1))
    | (intro x_1; clear_value x_1)
    | intro _
    | (with_reducible first | apply State.invalidChan_bst | apply State.violate_bst | apply State.modChan_bst | apply Bst.ite)
    | lift_lets -underBinder
    | split
    | dsimp only
    | (refine Bst.upd ?_)

theorem State.landEdges_bst {q : Bay} {s : State} {x_s : State} {x_c : Chan} (h_x_s : Bst q s x_s) : Bst q s (State.landEdges x_s x_c) := by
  unfold State.landEdges
  repeat' first
    | (with_reducible first | assumption | exact Bst.refl _)
    | (intro x_1; refine (fun hx : Bst q s x_1 => ?_) ?_; (clear_value x_1); rotate_left; (unfold x_1))
    | (intro x_1; clear_value x_1)
    | intro _
    | (with_reducible first | apply State.modChan_bst | apply State.drvLine_bst | apply State.denLine_bst | exact BstO.none | apply BstO.some | apply BstO.ite)
    | lift_lets -underBinder
    | split
    | (refine Bst.upd ?_)

theorem State.strobe_bst {q : Bay} {s : State} {x_s : State} {x_c : Chan} {x_st : Strobe} {x_cmph : Bool} {x_cmpl : Bool} (h_x_s : Bst q s x_s) : Bst q s (State.strobe x_s x_c x_st x_cmph x_cmpl) := by
  unfold State.strobe
  repeat' first
    | (with_reducible first | assumption | exact Bst.refl _)
    | (intro x_1; refine (fun hx : Bst q s x_1 => ?_) ?_; (clear_value x_1); rotate_left; (unfold x_1))
    | (intro x_1; clear_value x_1)
    | intro _
    | (with_reducible first | apply State.modChan_bst | apply State.modVec_bst | apply State.queueCmp_bst | apply State.judge_bst | apply Bst.ite)
    | lift_lets -underBinder
    | split
    | dsimp only
    | (refine Bst.upd ?_)

theorem State.landStrobe_bst {q : Bay} {s : State} {x_s : State} {x_c : Chan} {x_cmph : Bool} {x_cmpl : Bool} (h_x_s : Bst q s x_s) : Bst q s (State.landStrobe x_s x_c x_cmph x_cmpl) := by
  unfold State.landStrobe
  repeat' first
    | (with_reducible first | assumption | exact Bst.refl _)
    | (intro x_1; refine (fun hx : Bst q s x_1 => ?_) ?_; (clear_value x_1); rotate_left; (unfold x_1))
    | (intro x_1; clear_value x_1)
    | intro _
    | (with_reducible first | apply State.modChan_bst | apply State.violate_bst | apply State.judge_bst | apply State.badCapture_bst | apply State.strobe_bst | apply Bst.ite)
    | lift_lets -underBinder
    | split
    | dsimp only
    | (refine Bst.upd ?_)

theorem State.timingCheck_bst {q : Bay} {s : State} {x_s : State} {x_b : Bay} (h_x_s : Bst q s x_s) : Bst q s (State.timingCheck x_s x_b) := by
  unfold State.timingCheck
  repeat' first
    | (with_reducible first | assumption | exact Bst.refl _)
    | (show _ ≠ _; first | decide | omega | (simp only [keyB, keyC, keyCap, keySite, keyPc, keyA, keyG, keyBench, keyNode, keyEng, keyDma, keyLane, keyLink, keyStream, keyStack, keyPort, keyTpg, key, RBay.BAY_STATE, ne_eq, RBay.TIMING_CHECK, RBay.TIMING_CHECK_COUNT]; omega) | (simp only [keyB, keyC, keyCap, keySite, keyPc, keyA, keyG, keyBench, keyNode, keyEng, keyDma, keyLane, keyLink, keyStream, keyStack, keyPort, keyTpg, key, RBay.BAY_STATE, ne_eq, RBay.TIMING_CHECK, RBay.TIMING_CHECK_COUNT, List.mem_range, List.mem_cons, List.not_mem_nil, or_false] at *; omega) | (split <;> first | decide | (simp only [keyB, keyC, keyCap, keySite, keyPc, keyA, keyG, keyBench, keyNode, keyEng, keyDma, keyLane, keyLink, keyStream, keyStack, keyPort, keyTpg, key, RBay.BAY_STATE, ne_eq, RBay.TIMING_CHECK, RBay.TIMING_CHECK_COUNT]; omega)))
    | (intro x_1; refine (fun hx : Bst q s x_1 => ?_) ?_; (clear_value x_1); rotate_left; (unfold x_1))
    | (intro x_1; clear_value x_1)
    | intro _
    | (with_reducible first | apply State.setB_bst | exact BstO.none | apply BstO.some | apply BstO.ite | apply Bst.foldl)
    | lift_lets -underBinder
    | split
    | (refine Bst.upd ?_)

theorem State.storeSet_bst {q : Bay} {s : State} {x_s : State} {x_b : Bay} {x_n : Nat} {x_data : Bytes} (h_x_s : Bst q s x_s) : Bst q s (State.storeSet x_s x_b x_n x_data) := by
  unfold State.storeSet
  repeat' first
    | (with_reducible first | assumption | exact Bst.refl _)
    | intro _
    | with_reducible apply State.each_bst
    | (refine Bst.upd ?_)

theorem State.storeSets_bst {q : Bay} {s : State} {x_s : State} {x_b : Bay} {x_a2 : List (Nat × Bytes)} (h_x_s : Bst q s x_s) : Bst q s (State.storeSets x_s x_b x_a2) := by
  induction x_a2 generalizing x_s x_b with
  | nil =>
    unfold State.storeSets
    repeat' first
      | (with_reducible first | assumption | exact Bst.refl _)
      | (show _ ≠ _; first | decide | omega | (simp only [keyB, keyC, keyCap, keySite, keyPc, keyA, keyG, keyBench, keyNode, keyEng, keyDma, keyLane, keyLink, keyStream, keyStack, keyPort, keyTpg, key, RBay.BAY_STATE, ne_eq, RBay.TSET_ERROR]; omega) | (simp only [keyB, keyC, keyCap, keySite, keyPc, keyA, keyG, keyBench, keyNode, keyEng, keyDma, keyLane, keyLink, keyStream, keyStack, keyPort, keyTpg, key, RBay.BAY_STATE, ne_eq, RBay.TSET_ERROR, List.mem_range, List.mem_cons, List.not_mem_nil, or_false] at *; omega) | (split <;> first | decide | (simp only [keyB, keyC, keyCap, keySite, keyPc, keyA, keyG, keyBench, keyNode, keyEng, keyDma, keyLane, keyLink, keyStream, keyStack, keyPort, keyTpg, key, RBay.BAY_STATE, ne_eq, RBay.TSET_ERROR]; omega)))
      | (with_reducible first | apply State.storeSet_bst | apply State.answer_bst | apply State.setB_bst | apply State.ok_bst | exact BstO.none | apply BstO.some | apply BstO.ite)
      | split
      | (refine Bst.upd ?_)
      | (dsimp only)
  | cons hd tl ih =>
    unfold State.storeSets
    repeat' first
      | with_reducible apply ih
      | (with_reducible first | assumption | exact Bst.refl _)
      | (show _ ≠ _; first | decide | omega | (simp only [keyB, keyC, keyCap, keySite, keyPc, keyA, keyG, keyBench, keyNode, keyEng, keyDma, keyLane, keyLink, keyStream, keyStack, keyPort, keyTpg, key, RBay.BAY_STATE, ne_eq, RBay.TSET_ERROR]; omega) | (simp only [keyB, keyC, keyCap, keySite, keyPc, keyA, keyG, keyBench, keyNode, keyEng, keyDma, keyLane, keyLink, keyStream, keyStack, keyPort, keyTpg, key, RBay.BAY_STATE, ne_eq, RBay.TSET_ERROR, List.mem_range, List.mem_cons, List.not_mem_nil, or_false] at *; omega) | (split <;> first | decide | (simp only [keyB, keyC, keyCap, keySite, keyPc, keyA, keyG, keyBench, keyNode, keyEng, keyDma, keyLane, keyLink, keyStream, keyStack, keyPort, keyTpg, key, RBay.BAY_STATE, ne_eq, RBay.TSET_ERROR]; omega)))
      | (with_reducible first | apply State.storeSet_bst | apply State.answer_bst | apply State.setB_bst | apply State.ok_bst | exact BstO.none | apply BstO.some | apply BstO.ite)
      | split
      | (refine Bst.upd ?_)
      | (dsimp only)

theorem State.tsetWrite_bst {q : Bay} {s : State} {x_s : State} {x_b : Bay} {x_block : Bool} {x_data : Bytes} (h_x_s : Bst q s x_s) : Bst q s (State.tsetWrite x_s x_b x_block x_data) := by
  unfold State.tsetWrite
  repeat' first
    | (with_reducible first | assumption | exact Bst.refl _)
    | (intro x_1; refine (fun hx : Bst q s x_1 => ?_) ?_; (clear_value x_1); rotate_left; (unfold x_1))
    | (intro x_1; clear_value x_1)
    | intro _
    | (with_reducible first | apply State.answer_bst | apply State.storeSets_bst | apply Bst.ite)
    | lift_lets -underBinder

theorem State.retap_bst {q : Bay} {s : State} {x_s : State} {x_b : Bay} (h_x_s : Bst q s x_s) : Bst q s (State.retap x_s x_b) := by
  unfold State.retap
  repeat' first
    | (with_reducible first | assumption | exact Bst.refl _)
    | (intro x_1; refine (fun hx : Bst q s x_1 => ?_) ?_; (clear_value x_1); rotate_left; (unfold x_1))
    | (intro x_1; clear_value x_1)
    | intro _
    | (with_reducible first | apply State.each_bst | apply State.setC_bst | apply State.fault_bst | apply State.flagC_bst | apply Bst.ite)
    | lift_lets -underBinder

theorem State.unlock_bst {q : Bay} {s : State} {x_s : State} {x_b : Bay} {x_fine : Bool} (h_x_s : Bst q s x_s) : Bst q s (State.unlock x_s x_b x_fine) := by
  unfold State.unlock
  repeat' first
    | (with_reducible first | assumption | exact Bst.refl _)
    | (show _ ≠ _; first | decide | omega | (simp only [keyB, keyC, keyCap, keySite, keyPc, keyA, keyG, keyBench, keyNode, keyEng, keyDma, keyLane, keyLink, keyStream, keyStack, keyPort, keyTpg, key, RBay.BAY_STATE, ne_eq, R.LOCK_MASK]; omega) | (simp only [keyB, keyC, keyCap, keySite, keyPc, keyA, keyG, keyBench, keyNode, keyEng, keyDma, keyLane, keyLink, keyStream, keyStack, keyPort, keyTpg, key, RBay.BAY_STATE, ne_eq, R.LOCK_MASK, List.mem_range, List.mem_cons, List.not_mem_nil, or_false] at *; omega) | (split <;> first | decide | (simp only [keyB, keyC, keyCap, keySite, keyPc, keyA, keyG, keyBench, keyNode, keyEng, keyDma, keyLane, keyLink, keyStream, keyStack, keyPort, keyTpg, key, RBay.BAY_STATE, ne_eq, R.LOCK_MASK]; omega)))
    | (intro x_1; refine (fun hx : Bst q s x_1 => ?_) ?_; (clear_value x_1); rotate_left; (unfold x_1))
    | (intro x_1; clear_value x_1)
    | intro _
    | (with_reducible first | apply State.modBay_bst | apply State.setO_bst | apply State.each_bst | apply State.modChan_bst | apply Bst.ite)
    | lift_lets -underBinder
    | (refine Bst.upd ?_)

theorem State.relocked_bst {q : Bay} {s : State} {x_s : State} {x_b : Bay} (h_x_s : Bst q s x_s) : Bst q s (State.relocked x_s x_b) := by
  unfold State.relocked
  repeat' first
    | (with_reducible first | assumption | exact Bst.refl _)
    | (show _ ≠ _; first | decide | omega | (simp only [keyB, keyC, keyCap, keySite, keyPc, keyA, keyG, keyBench, keyNode, keyEng, keyDma, keyLane, keyLink, keyStream, keyStack, keyPort, keyTpg, key, RBay.BAY_STATE, ne_eq, R.LOCK_MASK, RBay.TIME_UNIT]; omega) | (simp only [keyB, keyC, keyCap, keySite, keyPc, keyA, keyG, keyBench, keyNode, keyEng, keyDma, keyLane, keyLink, keyStream, keyStack, keyPort, keyTpg, key, RBay.BAY_STATE, ne_eq, R.LOCK_MASK, RBay.TIME_UNIT, List.mem_range, List.mem_cons, List.not_mem_nil, or_false] at *; omega) | (split <;> first | decide | (simp only [keyB, keyC, keyCap, keySite, keyPc, keyA, keyG, keyBench, keyNode, keyEng, keyDma, keyLane, keyLink, keyStream, keyStack, keyPort, keyTpg, key, RBay.BAY_STATE, ne_eq, R.LOCK_MASK, RBay.TIME_UNIT]; omega)))
    | (intro x_1; refine (fun hx : Bst q s x_1 => ?_) ?_; (clear_value x_1); rotate_left; (unfold x_1))
    | (intro x_1; clear_value x_1)
    | intro _
    | (with_reducible first | apply State.modBay_bst | apply State.setB_bst | apply State.setO_bst | apply State.retap_bst | exact BstO.none | apply BstO.some | apply BstO.ite)
    | lift_lets -underBinder
    | split
    | (refine Bst.upd ?_)

theorem execStrobeLatch_bst {q : Bay} {s : State} {x_c : Chan} {x_cmph : Bool} {x_cmpl : Bool} {x_s : State} (h_x_s : Bst q s x_s) : BstN q s (execStrobeLatch x_c x_cmph x_cmpl x_s) := by
  unfold execStrobeLatch
  repeat' first
    | (with_reducible first | assumption | exact Bst.refl _ | apply State.landStrobe_bst | apply BstN.next | apply BstN.ite)

theorem execDriveEdge_bst {q : Bay} {s : State} {x_c : Chan} {x_s : State} (h_x_s : Bst q s x_s) : BstN q s (execDriveEdge x_c x_s) := by
  unfold execDriveEdge
  repeat' first
    | (with_reducible first | assumption | exact Bst.refl _ | apply State.landEdges_bst | apply BstN.next | apply BstN.ite)

theorem execTsetWrite_bst {q : Bay} {s : State} {x_b : Bay} {x_epoch : BitVec 16} {x_block : Bool} {x_data : Bytes} {x_s : State} (h_x_s : Bst q s x_s) : BstN q s (execTsetWrite x_b x_epoch x_block x_data x_s) := by
  unfold execTsetWrite
  repeat' first
    | (with_reducible first | assumption | exact Bst.refl _)
    | intro _
    | (with_reducible first | apply State.hostBayFirm_bst | apply State.tsetWrite_bst | apply BstN.next | apply BstN.ite)

theorem execPllRelock_bst {q : Bay} {s : State} {x_b : Bay} {x_s : State} (h_x_s : Bst q s x_s) : BstN q s (execPllRelock x_b x_s) := by
  unfold execPllRelock
  repeat' first
    | (with_reducible first | assumption | exact Bst.refl _ | apply State.relocked_bst | apply BstN.next | apply BstN.ite)

end Sys2Proof.Machine
end

