-- ==== Sys2Proof/Laws/BstTmu.lean ====
section
/-! SUPPORT. What the operations of Machine/Tmu.lean keep. -/

set_option linter.all false

namespace Sys2Proof.Machine

theorem State.modTmu_bst {q : Bay} {s : State} {x_s : State} {x_b : Bay} {x_f : Tmu → Tmu} (h_x_s : Bst q s x_s) : Bst q s (State.modTmu x_s x_b x_f) := by
  unfold State.modTmu
  repeat' first
    | (with_reducible first | assumption | exact Bst.refl _)
    | intro _
    | with_reducible apply State.modBay_bst
    | (refine Bst.upd ?_)

theorem State.tmuDue_bst {q : Bay} {s : State} {x_s : State} {x_b : Bay} {x_ps : Nat} (h_x_s : Bst q s x_s) : Bst q s (State.tmuDue x_s x_b x_ps) := by
  unfold State.tmuDue
  repeat' first
    | (with_reducible first | assumption | exact Bst.refl _)
    | intro _
    | (with_reducible first | apply State.modTmu_bst)
    | (refine Bst.upd ?_)

theorem State.tmuPush_bst {q : Bay} {s : State} {x_s : State} {x_b : Bay} {x_r : TmuRec} (h_x_s : Bst q s x_s) : Bst q s (State.tmuPush x_s x_b x_r) := by
  unfold State.tmuPush
  repeat' first
    | (with_reducible first | assumption | exact Bst.refl _)
    | (show _ ≠ _; first | decide | omega | (simp only [keyB, keyC, keyCap, keySite, keyPc, keyA, keyG, keyBench, keyNode, keyEng, keyDma, keyLane, keyLink, keyStream, keyStack, keyPort, keyTpg, key, RBay.BAY_STATE, ne_eq, RBay.RESULT_COUNT]; omega) | (simp only [keyB, keyC, keyCap, keySite, keyPc, keyA, keyG, keyBench, keyNode, keyEng, keyDma, keyLane, keyLink, keyStream, keyStack, keyPort, keyTpg, key, RBay.BAY_STATE, ne_eq, RBay.RESULT_COUNT, List.mem_range, List.mem_cons, List.not_mem_nil, or_false] at *; omega) | (split <;> first | decide | (simp only [keyB, keyC, keyCap, keySite, keyPc, keyA, keyG, keyBench, keyNode, keyEng, keyDma, keyLane, keyLink, keyStream, keyStack, keyPort, keyTpg, key, RBay.BAY_STATE, ne_eq, RBay.RESULT_COUNT]; omega)))
    | (intro x_1; refine (fun hx : Bst q s x_1 => ?_) ?_; (clear_value x_1); rotate_left; (unfold x_1))
    | (intro x_1; clear_value x_1)
    | intro _
    | (with_reducible first | apply State.modTmu_bst | apply State.setB_bst | apply State.occur_bst | apply Bst.ite)
    | lift_lets -underBinder
    | (refine Bst.upd ?_)

theorem State.tmuOver_bst {q : Bay} {s : State} {x_s : State} {x_b : Bay} (h_x_s : Bst q s x_s) : Bst q s (State.tmuOver x_s x_b) := by
  unfold State.tmuOver
  repeat' first
    | (with_reducible first | assumption | exact Bst.refl _)
    | (show _ ≠ _; first | decide | omega | (simp only [keyB, keyC, keyCap, keySite, keyPc, keyA, keyG, keyBench, keyNode, keyEng, keyDma, keyLane, keyLink, keyStream, keyStack, keyPort, keyTpg, key, RBay.BAY_STATE, ne_eq, RBay.TMU_STATE]; omega) | (simp only [keyB, keyC, keyCap, keySite, keyPc, keyA, keyG, keyBench, keyNode, keyEng, keyDma, keyLane, keyLink, keyStream, keyStack, keyPort, keyTpg, key, RBay.BAY_STATE, ne_eq, RBay.TMU_STATE, List.mem_range, List.mem_cons, List.not_mem_nil, or_false] at *; omega) | (split <;> first | decide | (simp only [keyB, keyC, keyCap, keySite, keyPc, keyA, keyG, keyBench, keyNode, keyEng, keyDma, keyLane, keyLink, keyStream, keyStack, keyPort, keyTpg, key, RBay.BAY_STATE, ne_eq, RBay.TMU_STATE]; omega)))
    | (intro x_1; refine (fun hx : Bst q s x_1 => ?_) ?_; (clear_value x_1); rotate_left; (unfold x_1))
    | (intro x_1; clear_value x_1)
    | intro _
    | (with_reducible first | apply State.setB_bst | apply State.modTmu_bst | apply Bst.ite)
    | lift_lets -underBinder
    | split
    | dsimp only
    | (refine Bst.upd ?_)

theorem State.tmuDone_bst {q : Bay} {s : State} {x_s : State} {x_b : Bay} (h_x_s : Bst q s x_s) : Bst q s (State.tmuDone x_s x_b) := by
  unfold State.tmuDone
  repeat' first
    | (with_reducible first | assumption | exact Bst.refl _)
    | intro _
    | (with_reducible first | apply State.tmuOver_bst | apply State.occur_bst | apply State.modBay_bst)
    | (refine Bst.upd ?_)

theorem State.tmuBegin_bst {q : Bay} {s : State} {x_s : State} {x_b : Bay} (h_x_s : Bst q s x_s) : Bst q s (State.tmuBegin x_s x_b) := by
  unfold State.tmuBegin
  repeat' first
    | (with_reducible first | assumption | exact Bst.refl _)
    | (show _ ≠ _; first | decide | omega | (simp only [keyB, keyC, keyCap, keySite, keyPc, keyA, keyG, keyBench, keyNode, keyEng, keyDma, keyLane, keyLink, keyStream, keyStack, keyPort, keyTpg, key, RBay.BAY_STATE, ne_eq, RBay.TMU_STATE]; omega) | (simp only [keyB, keyC, keyCap, keySite, keyPc, keyA, keyG, keyBench, keyNode, keyEng, keyDma, keyLane, keyLink, keyStream, keyStack, keyPort, keyTpg, key, RBay.BAY_STATE, ne_eq, RBay.TMU_STATE, List.mem_range, List.mem_cons, List.not_mem_nil, or_false] at *; omega) | (split <;> first | decide | (simp only [keyB, keyC, keyCap, keySite, keyPc, keyA, keyG, keyBench, keyNode, keyEng, keyDma, keyLane, keyLink, keyStream, keyStack, keyPort, keyTpg, key, RBay.BAY_STATE, ne_eq, RBay.TMU_STATE]; omega)))
    | intro _
    | (with_reducible first | apply State.setB_bst | apply State.modTmu_bst)
    | (refine Bst.upd ?_)

theorem State.tmuRepeat_bst {q : Bay} {s : State} {x_s : State} {x_b : Bay} (h_x_s : Bst q s x_s) : Bst q s (State.tmuRepeat x_s x_b) := by
  unfold State.tmuRepeat
  repeat' first
    | (with_reducible first | assumption | exact Bst.refl _)
    | (intro x_1; refine (fun hx : Bst q s x_1 => ?_) ?_; (clear_value x_1); rotate_left; (unfold x_1))
    | (intro x_1; clear_value x_1)
    | intro _
    | (with_reducible first | apply State.tmuBegin_bst | apply Bst.ite)
    | lift_lets -underBinder
    | split
    | dsimp only

theorem State.tmuRefused_bst {q : Bay} {s : State} {x_s : State} {x_b : Bay} (h_x_s : Bst q s x_s) : Bst q s (State.tmuRefused x_s x_b) := by
  unfold State.tmuRefused
  repeat' first
    | (with_reducible first | assumption | exact Bst.refl _)
    | (show _ ≠ _; first | decide | omega | (simp only [keyB, keyC, keyCap, keySite, keyPc, keyA, keyG, keyBench, keyNode, keyEng, keyDma, keyLane, keyLink, keyStream, keyStack, keyPort, keyTpg, key, RBay.BAY_STATE, ne_eq, RBay.ARM_REFUSED]; omega) | (simp only [keyB, keyC, keyCap, keySite, keyPc, keyA, keyG, keyBench, keyNode, keyEng, keyDma, keyLane, keyLink, keyStream, keyStack, keyPort, keyTpg, key, RBay.BAY_STATE, ne_eq, RBay.ARM_REFUSED, List.mem_range, List.mem_cons, List.not_mem_nil, or_false] at *; omega) | (split <;> first | decide | (simp only [keyB, keyC, keyCap, keySite, keyPc, keyA, keyG, keyBench, keyNode, keyEng, keyDma, keyLane, keyLink, keyStream, keyStack, keyPort, keyTpg, key, RBay.BAY_STATE, ne_eq, RBay.ARM_REFUSED]; omega)))
    | (with_reducible first | apply State.occur_bst | apply State.incB_bst)

theorem State.tmuArm_bst {q : Bay} {s : State} {x_s : State} {x_b : Bay} (h_x_s : Bst q s x_s) : Bst q s (State.tmuArm x_s x_b) := by
  unfold State.tmuArm
  repeat' first
    | (with_reducible first | assumption | exact Bst.refl _)
    | (show _ ≠ _; first | decide | omega | (simp only [keyB, keyC, keyCap, keySite, keyPc, keyA, keyG, keyBench, keyNode, keyEng, keyDma, keyLane, keyLink, keyStream, keyStack, keyPort, keyTpg, key, RBay.BAY_STATE, ne_eq, RBay.GATE, RBay.HITS, RBay.REPEAT, RBay.ROUTE_EDGE, RBay.ROUTE_SOURCE, RBay.SIGNED, RBay.TIMEOUT, RBay.TMU_MODE, RBay.TMU_STATE, RBay.WARM_STATE]; omega) | (simp only [keyB, keyC, keyCap, keySite, keyPc, keyA, keyG, keyBench, keyNode, keyEng, keyDma, keyLane, keyLink, keyStream, keyStack, keyPort, keyTpg, key, RBay.BAY_STATE, ne_eq, RBay.GATE, RBay.HITS, RBay.REPEAT, RBay.ROUTE_EDGE, RBay.ROUTE_SOURCE, RBay.SIGNED, RBay.TIMEOUT, RBay.TMU_MODE, RBay.TMU_STATE, RBay.WARM_STATE, List.mem_range, List.mem_cons, List.not_mem_nil, or_false] at *; omega) | (split <;> first | decide | (simp only [keyB, keyC, keyCap, keySite, keyPc, keyA, keyG, keyBench, keyNode, keyEng, keyDma, keyLane, keyLink, keyStream, keyStack, keyPort, keyTpg, key, RBay.BAY_STATE, ne_eq, RBay.GATE, RBay.HITS, RBay.REPEAT, RBay.ROUTE_EDGE, RBay.ROUTE_SOURCE, RBay.SIGNED, RBay.TIMEOUT, RBay.TMU_MODE, RBay.TMU_STATE, RBay.WARM_STATE]; omega)))
    | (intro x_1; refine (fun hx : Bst q s x_1 => ?_) ?_; (clear_value x_1); rotate_left; (unfold x_1))
    | (intro x_1; clear_value x_1)
    | intro _
    | (with_reducible first | apply State.modTmu_bst | apply State.setB_bst | apply State.tmuBegin_bst | apply Bst.ite)
    | lift_lets -underBinder
    | split
    | dsimp only
    | (refine Bst.upd ?_)

theorem State.tmuDisarm_bst {q : Bay} {s : State} {x_s : State} {x_b : Bay} (h_x_s : Bst q s x_s) : Bst q s (State.tmuDisarm x_s x_b) := by
  unfold State.tmuDisarm
  repeat' first
    | (with_reducible first | assumption | exact Bst.refl _)
    | (show _ ≠ _; first | decide | omega | (simp only [keyB, keyC, keyCap, keySite, keyPc, keyA, keyG, keyBench, keyNode, keyEng, keyDma, keyLane, keyLink, keyStream, keyStack, keyPort, keyTpg, key, RBay.BAY_STATE, ne_eq, RBay.TMU_STATE]; omega) | (simp only [keyB, keyC, keyCap, keySite, keyPc, keyA, keyG, keyBench, keyNode, keyEng, keyDma, keyLane, keyLink, keyStream, keyStack, keyPort, keyTpg, key, RBay.BAY_STATE, ne_eq, RBay.TMU_STATE, List.mem_range, List.mem_cons, List.not_mem_nil, or_false] at *; omega) | (split <;> first | decide | (simp only [keyB, keyC, keyCap, keySite, keyPc, keyA, keyG, keyBench, keyNode, keyEng, keyDma, keyLane, keyLink, keyStream, keyStack, keyPort, keyTpg, key, RBay.BAY_STATE, ne_eq, RBay.TMU_STATE]; omega)))
    | intro _
    | (with_reducible first | apply State.setB_bst | apply State.modTmu_bst)
    | (refine Bst.upd ?_)

theorem State.tmuArmNow_bst {q : Bay} {s : State} {x_s : State} {x_b : Bay} (h_x_s : Bst q s x_s) : Bst q s (State.tmuArmNow x_s x_b) := by
  unfold State.tmuArmNow
  repeat' first
    | (with_reducible first | assumption | exact Bst.refl _)
    | (show _ ≠ _; first | decide | omega | (simp only [keyB, keyC, keyCap, keySite, keyPc, keyA, keyG, keyBench, keyNode, keyEng, keyDma, keyLane, keyLink, keyStream, keyStack, keyPort, keyTpg, key, RBay.BAY_STATE, ne_eq, RBay.ARM_REFUSED]; omega) | (simp only [keyB, keyC, keyCap, keySite, keyPc, keyA, keyG, keyBench, keyNode, keyEng, keyDma, keyLane, keyLink, keyStream, keyStack, keyPort, keyTpg, key, RBay.BAY_STATE, ne_eq, RBay.ARM_REFUSED, List.mem_range, List.mem_cons, List.not_mem_nil, or_false] at *; omega) | (split <;> first | decide | (simp only [keyB, keyC, keyCap, keySite, keyPc, keyA, keyG, keyBench, keyNode, keyEng, keyDma, keyLane, keyLink, keyStream, keyStack, keyPort, keyTpg, key, RBay.BAY_STATE, ne_eq, RBay.ARM_REFUSED]; omega)))
    | intro _
    | (with_reducible first | apply State.incB_bst | apply State.tmuDisarm_bst | apply State.modTmu_bst | apply State.tmuArm_bst | apply Bst.ite)
    | split
    | (refine Bst.upd ?_)

theorem State.tmuDisarmNow_bst {q : Bay} {s : State} {x_s : State} {x_b : Bay} (h_x_s : Bst q s x_s) : Bst q s (State.tmuDisarmNow x_s x_b) := by
  unfold State.tmuDisarmNow
  repeat' first
    | (with_reducible first | assumption | exact Bst.refl _)
    | (show _ ≠ _; first | decide | omega | (simp only [keyB, keyC, keyCap, keySite, keyPc, keyA, keyG, keyBench, keyNode, keyEng, keyDma, keyLane, keyLink, keyStream, keyStack, keyPort, keyTpg, key, RBay.BAY_STATE, ne_eq, RBay.ARM_REFUSED]; omega) | (simp only [keyB, keyC, keyCap, keySite, keyPc, keyA, keyG, keyBench, keyNode, keyEng, keyDma, keyLane, keyLink, keyStream, keyStack, keyPort, keyTpg, key, RBay.BAY_STATE, ne_eq, RBay.ARM_REFUSED, List.mem_range, List.mem_cons, List.not_mem_nil, or_false] at *; omega) | (split <;> first | decide | (simp only [keyB, keyC, keyCap, keySite, keyPc, keyA, keyG, keyBench, keyNode, keyEng, keyDma, keyLane, keyLink, keyStream, keyStack, keyPort, keyTpg, key, RBay.BAY_STATE, ne_eq, RBay.ARM_REFUSED]; omega)))
    | (intro x_1; refine (fun hx : Bst q s x_1 => ?_) ?_; (clear_value x_1); rotate_left; (unfold x_1))
    | (intro x_1; clear_value x_1)
    | intro _
    | (with_reducible first | apply State.modTmu_bst | apply State.tmuDisarm_bst | apply State.incB_bst | apply Bst.ite)
    | lift_lets -underBinder
    | split
    | dsimp only
    | (refine Bst.upd ?_)

theorem State.hostTmu_bst {q : Bay} {s : State} {x_s : State} {x_b : Bay} {x_epoch : BitVec 16} (x_k : State → State) (h_x_s : Bst q s x_s) (h_x_k : ∀ (v0 : State), Bst q s v0 → Bst q s (x_k v0)) : Bst q s (State.hostTmu x_s x_b x_epoch x_k) := by
  unfold State.hostTmu
  repeat' first
    | (with_reducible first | assumption | exact Bst.refl _)
    | (with_reducible first | apply h_x_k | apply State.answer_bst | apply State.stale_bst | apply Bst.ite)
    | split

theorem State.tmuClear_bst {q : Bay} {s : State} {x_s : State} {x_b : Bay} (h_x_s : Bst q s x_s) : Bst q s (State.tmuClear x_s x_b) := by
  unfold State.tmuClear
  repeat' first
    | (with_reducible first | assumption | exact Bst.refl _)
    | (show _ ≠ _; first | decide | omega | (simp only [keyB, keyC, keyCap, keySite, keyPc, keyA, keyG, keyBench, keyNode, keyEng, keyDma, keyLane, keyLink, keyStream, keyStack, keyPort, keyTpg, key, RBay.BAY_STATE, ne_eq, RBay.RESULT_COUNT]; omega) | (simp only [keyB, keyC, keyCap, keySite, keyPc, keyA, keyG, keyBench, keyNode, keyEng, keyDma, keyLane, keyLink, keyStream, keyStack, keyPort, keyTpg, key, RBay.BAY_STATE, ne_eq, RBay.RESULT_COUNT, List.mem_range, List.mem_cons, List.not_mem_nil, or_false] at *; omega) | (split <;> first | decide | (simp only [keyB, keyC, keyCap, keySite, keyPc, keyA, keyG, keyBench, keyNode, keyEng, keyDma, keyLane, keyLink, keyStream, keyStack, keyPort, keyTpg, key, RBay.BAY_STATE, ne_eq, RBay.RESULT_COUNT]; omega)))
    | intro _
    | (with_reducible first | apply State.setB_bst | apply State.modTmu_bst)
    | (refine Bst.upd ?_)

theorem State.tmuArmRequest_bst {q : Bay} {s : State} {x_s : State} {x_b : Bay} (h_x_s : Bst q s x_s) : Bst q s (State.tmuArmRequest x_s x_b) := by
  unfold State.tmuArmRequest
  repeat' first
    | (with_reducible first | assumption | exact Bst.refl _)
    | intro _
    | (with_reducible first | apply State.answerD_bst | apply State.tmuRefused_bst | apply State.answer_bst | apply State.ok_bst | apply State.tmuArmNow_bst)
    | split
    | (refine Bst.upd ?_)

theorem State.tmuDisarmRequest_bst {q : Bay} {s : State} {x_s : State} {x_b : Bay} (h_x_s : Bst q s x_s) : Bst q s (State.tmuDisarmRequest x_s x_b) := by
  unfold State.tmuDisarmRequest
  repeat' first
    | (with_reducible first | assumption | exact Bst.refl _)
    | (with_reducible first | apply State.ok_bst | apply State.tmuDisarmNow_bst)

theorem State.tmuArmEvent_bst {q : Bay} {s : State} {x_s : State} {x_b : Bay} (h_x_s : Bst q s x_s) : Bst q s (State.tmuArmEvent x_s x_b) := by
  unfold State.tmuArmEvent
  repeat' first
    | (with_reducible first | assumption | exact Bst.refl _)
    | intro _
    | (with_reducible first | apply State.dropEvent_bst | apply State.tmuRefused_bst | apply State.tmuArmNow_bst | apply Bst.ite)
    | split
    | (refine Bst.upd ?_)

theorem State.tmuDisarmEvent_bst {q : Bay} {s : State} {x_s : State} {x_b : Bay} (h_x_s : Bst q s x_s) : Bst q s (State.tmuDisarmEvent x_s x_b) := by
  unfold State.tmuDisarmEvent
  repeat' first
    | (with_reducible first | assumption | exact Bst.refl _)
    | (with_reducible first | apply State.dropEvent_bst | apply State.tmuDisarmNow_bst | apply Bst.ite)
    | split

theorem State.tmuCalibrated_bst {q : Bay} {s : State} {x_s : State} {x_b : Bay} {x_w : Nat} {x_n0 : Nat} (h_x_s : Bst q s x_s) : Bst q s (State.tmuCalibrated x_s x_b x_w x_n0) := by
  unfold State.tmuCalibrated
  repeat' first
    | (with_reducible first | assumption | exact Bst.refl _)
    | (show _ ≠ _; first | decide | omega | (simp only [keyB, keyC, keyCap, keySite, keyPc, keyA, keyG, keyBench, keyNode, keyEng, keyDma, keyLane, keyLink, keyStream, keyStack, keyPort, keyTpg, key, RBay.BAY_STATE, ne_eq, RBay.CAL_FAILS, RBay.LSB_FS, RBay.TMU_STATE]; omega) | (simp only [keyB, keyC, keyCap, keySite, keyPc, keyA, keyG, keyBench, keyNode, keyEng, keyDma, keyLane, keyLink, keyStream, keyStack, keyPort, keyTpg, key, RBay.BAY_STATE, ne_eq, RBay.CAL_FAILS, RBay.LSB_FS, RBay.TMU_STATE, List.mem_range, List.mem_cons, List.not_mem_nil, or_false] at *; omega) | (split <;> first | decide | (simp only [keyB, keyC, keyCap, keySite, keyPc, keyA, keyG, keyBench, keyNode, keyEng, keyDma, keyLane, keyLink, keyStream, keyStack, keyPort, keyTpg, key, RBay.BAY_STATE, ne_eq, RBay.CAL_FAILS, RBay.LSB_FS, RBay.TMU_STATE]; omega)))
    | (intro x_1; refine (fun hx : Bst q s x_1 => ?_) ?_; (clear_value x_1); rotate_left; (unfold x_1))
    | (intro x_1; clear_value x_1)
    | intro _
    | (with_reducible first | apply State.modTmu_bst | apply State.setB_bst | apply State.incB_bst | apply State.tmuPush_bst | apply State.tmuOver_bst | apply State.fault_bst | apply State.tmuDue_bst | apply Bst.ite)
    | lift_lets -underBinder
    | split
    | dsimp only
    | (refine Bst.upd ?_)

theorem State.tmuLost_bst {q : Bay} {s : State} {x_s : State} {x_b : Bay} (h_x_s : Bst q s x_s) : Bst q s (State.tmuLost x_s x_b) := by
  unfold State.tmuLost
  repeat' first
    | (with_reducible first | assumption | exact Bst.refl _)
    | (show _ ≠ _; first | decide | omega | (simp only [keyB, keyC, keyCap, keySite, keyPc, keyA, keyG, keyBench, keyNode, keyEng, keyDma, keyLane, keyLink, keyStream, keyStack, keyPort, keyTpg, key, RBay.BAY_STATE, ne_eq, RBay.LOST_HITS]; omega) | (simp only [keyB, keyC, keyCap, keySite, keyPc, keyA, keyG, keyBench, keyNode, keyEng, keyDma, keyLane, keyLink, keyStream, keyStack, keyPort, keyTpg, key, RBay.BAY_STATE, ne_eq, RBay.LOST_HITS, List.mem_range, List.mem_cons, List.not_mem_nil, or_false] at *; omega) | (split <;> first | decide | (simp only [keyB, keyC, keyCap, keySite, keyPc, keyA, keyG, keyBench, keyNode, keyEng, keyDma, keyLane, keyLink, keyStream, keyStack, keyPort, keyTpg, key, RBay.BAY_STATE, ne_eq, RBay.LOST_HITS]; omega)))
    | intro _
    | (with_reducible first | apply State.modTmu_bst | apply State.incB_bst)
    | (refine Bst.upd ?_)

theorem State.tmuInterval_bst {q : Bay} {s : State} {x_s : State} {x_b : Bay} {x_start : Nat × Int} {x_stop : Nat × Int} (h_x_s : Bst q s x_s) : Bst q s (State.tmuInterval x_s x_b x_start x_stop) := by
  unfold State.tmuInterval
  repeat' first
    | (with_reducible first | assumption | exact Bst.refl _)
    | (intro x_1; refine (fun hx : Bst q s x_1 => ?_) ?_; (clear_value x_1); rotate_left; (unfold x_1))
    | (intro x_1; clear_value x_1)
    | intro _
    | (with_reducible first | apply State.tmuDone_bst | apply State.tmuPush_bst | apply Bst.ite)
    | lift_lets -underBinder

theorem State.hitInterval_bst {q : Bay} {s : State} {x_s : State} {x_b : Bay} {x_route : Fin 2} {x_t : Nat × Int} (h_x_s : Bst q s x_s) : Bst q s (State.hitInterval x_s x_b x_route x_t) := by
  unfold State.hitInterval
  repeat' first
    | (with_reducible first | assumption | exact Bst.refl _)
    | (show _ ≠ _; first | decide | omega | (simp only [keyB, keyC, keyCap, keySite, keyPc, keyA, keyG, keyBench, keyNode, keyEng, keyDma, keyLane, keyLink, keyStream, keyStack, keyPort, keyTpg, key, RBay.BAY_STATE, ne_eq, RBay.DISCARDED_STOPS]; omega) | (simp only [keyB, keyC, keyCap, keySite, keyPc, keyA, keyG, keyBench, keyNode, keyEng, keyDma, keyLane, keyLink, keyStream, keyStack, keyPort, keyTpg, key, RBay.BAY_STATE, ne_eq, RBay.DISCARDED_STOPS, List.mem_range, List.mem_cons, List.not_mem_nil, or_false] at *; omega) | (split <;> first | decide | (simp only [keyB, keyC, keyCap, keySite, keyPc, keyA, keyG, keyBench, keyNode, keyEng, keyDma, keyLane, keyLink, keyStream, keyStack, keyPort, keyTpg, key, RBay.BAY_STATE, ne_eq, RBay.DISCARDED_STOPS]; omega)))
    | (intro x_1; refine (fun hx : Bst q s x_1 => ?_) ?_; (clear_value x_1); rotate_left; (unfold x_1))
    | (intro x_1; clear_value x_1)
    | intro _
    | (with_reducible first | apply State.modTmu_bst | apply State.tmuInterval_bst | apply State.incB_bst | exact BstO.none | apply BstO.some | apply BstO.ite | apply Bst.ite)
    | lift_lets -underBinder
    | split
    | (refine Bst.upd ?_)

theorem State.hitStamp_bst {q : Bay} {s : State} {x_s : State} {x_b : Bay} {x_route : Fin 2} {x_t : Nat × Int} (h_x_s : Bst q s x_s) : Bst q s (State.hitStamp x_s x_b x_route x_t) := by
  unfold State.hitStamp
  repeat' first
    | (with_reducible first | assumption | exact Bst.refl _)
    | (show _ ≠ _; first | decide | omega | (simp only [keyB, keyC, keyCap, keySite, keyPc, keyA, keyG, keyBench, keyNode, keyEng, keyDma, keyLane, keyLink, keyStream, keyStack, keyPort, keyTpg, key, RBay.BAY_STATE, ne_eq, RBay.DISCARDED_STOPS]; omega) | (simp only [keyB, keyC, keyCap, keySite, keyPc, keyA, keyG, keyBench, keyNode, keyEng, keyDma, keyLane, keyLink, keyStream, keyStack, keyPort, keyTpg, key, RBay.BAY_STATE, ne_eq, RBay.DISCARDED_STOPS, List.mem_range, List.mem_cons, List.not_mem_nil, or_false] at *; omega) | (split <;> first | decide | (simp only [keyB, keyC, keyCap, keySite, keyPc, keyA, keyG, keyBench, keyNode, keyEng, keyDma, keyLane, keyLink, keyStream, keyStack, keyPort, keyTpg, key, RBay.BAY_STATE, ne_eq, RBay.DISCARDED_STOPS]; omega)))
    | (intro x_1; refine (fun hx : Bst q s x_1 => ?_) ?_; (clear_value x_1); rotate_left; (unfold x_1))
    | (intro x_1; clear_value x_1)
    | intro _
    | (with_reducible first | apply State.modTmu_bst | apply State.tmuLost_bst | apply State.tmuPush_bst | apply State.tmuDone_bst | apply State.incB_bst | apply Bst.ite)
    | lift_lets -underBinder
    | split
    | dsimp only
    | (refine Bst.upd ?_)

theorem State.hitFrequency_bst {q : Bay} {s : State} {x_s : State} {x_b : Bay} {x_route : Fin 2} {x_t : Nat × Int} (h_x_s : Bst q s x_s) : Bst q s (State.hitFrequency x_s x_b x_route x_t) := by
  unfold State.hitFrequency
  repeat' first
    | (with_reducible first | assumption | exact Bst.refl _)
    | (show _ ≠ _; first | decide | omega | (simp only [keyB, keyC, keyCap, keySite, keyPc, keyA, keyG, keyBench, keyNode, keyEng, keyDma, keyLane, keyLink, keyStream, keyStack, keyPort, keyTpg, key, RBay.BAY_STATE, ne_eq, RBay.FREQ_HZ]; omega) | (simp only [keyB, keyC, keyCap, keySite, keyPc, keyA, keyG, keyBench, keyNode, keyEng, keyDma, keyLane, keyLink, keyStream, keyStack, keyPort, keyTpg, key, RBay.BAY_STATE, ne_eq, RBay.FREQ_HZ, List.mem_range, List.mem_cons, List.not_mem_nil, or_false] at *; omega) | (split <;> first | decide | (simp only [keyB, keyC, keyCap, keySite, keyPc, keyA, keyG, keyBench, keyNode, keyEng, keyDma, keyLane, keyLink, keyStream, keyStack, keyPort, keyTpg, key, RBay.BAY_STATE, ne_eq, RBay.FREQ_HZ]; omega)))
    | (intro x_1; refine (fun hx : Bst q s x_1 => ?_) ?_; (clear_value x_1); rotate_left; (unfold x_1))
    | (intro x_1; clear_value x_1)
    | intro _
    | (with_reducible first | apply State.tmuDue_bst | apply State.modTmu_bst | apply State.tmuPush_bst | apply State.tmuDone_bst | apply State.setB_bst | apply Bst.ite)
    | lift_lets -underBinder
    | split
    | dsimp only
    | (refine Bst.upd ?_)

theorem State.tmuHit_bst {q : Bay} {s : State} {x_s : State} {x_b : Bay} {x_route : Fin 2} {x_rising : Bool} {x_taps : Nat} (h_x_s : Bst q s x_s) : Bst q s (State.tmuHit x_s x_b x_route x_rising x_taps) := by
  unfold State.tmuHit
  repeat' first
    | (with_reducible first | assumption | exact Bst.refl _)
    | (show _ ≠ _; first | decide | omega | (simp only [keyB, keyC, keyCap, keySite, keyPc, keyA, keyG, keyBench, keyNode, keyEng, keyDma, keyLane, keyLink, keyStream, keyStack, keyPort, keyTpg, key, RBay.BAY_STATE, ne_eq, RBay.EARLY_HITS, RBay.ROUTE_EDGE, RBay.ROUTE_SOURCE]; omega) | (simp only [keyB, keyC, keyCap, keySite, keyPc, keyA, keyG, keyBench, keyNode, keyEng, keyDma, keyLane, keyLink, keyStream, keyStack, keyPort, keyTpg, key, RBay.BAY_STATE, ne_eq, RBay.EARLY_HITS, RBay.ROUTE_EDGE, RBay.ROUTE_SOURCE, List.mem_range, List.mem_cons, List.not_mem_nil, or_false] at *; omega) | (split <;> first | decide | (simp only [keyB, keyC, keyCap, keySite, keyPc, keyA, keyG, keyBench, keyNode, keyEng, keyDma, keyLane, keyLink, keyStream, keyStack, keyPort, keyTpg, key, RBay.BAY_STATE, ne_eq, RBay.EARLY_HITS, RBay.ROUTE_EDGE, RBay.ROUTE_SOURCE]; omega)))
    | (intro x_1; refine (fun hx : Bst q s x_1 => ?_) ?_; (clear_value x_1); rotate_left; (unfold x_1))
    | (intro x_1; clear_value x_1)
    | intro _
    | (with_reducible first | apply State.incB_bst | apply State.tmuLost_bst | apply State.modTmu_bst | apply State.hitInterval_bst | apply State.hitStamp_bst | apply State.hitFrequency_bst | apply Bst.ite)
    | lift_lets -underBinder
    | split
    | dsimp only
    | (refine Bst.upd ?_)

theorem State.tmuTimeout_bst {q : Bay} {s : State} {x_s : State} {x_b : Bay} (h_x_s : Bst q s x_s) : Bst q s (State.tmuTimeout x_s x_b) := by
  unfold State.tmuTimeout
  repeat' first
    | (with_reducible first | assumption | exact Bst.refl _)
    | (show _ ≠ _; first | decide | omega | (simp only [keyB, keyC, keyCap, keySite, keyPc, keyA, keyG, keyBench, keyNode, keyEng, keyDma, keyLane, keyLink, keyStream, keyStack, keyPort, keyTpg, key, RBay.BAY_STATE, ne_eq, RBay.TIMEOUTS]; omega) | (simp only [keyB, keyC, keyCap, keySite, keyPc, keyA, keyG, keyBench, keyNode, keyEng, keyDma, keyLane, keyLink, keyStream, keyStack, keyPort, keyTpg, key, RBay.BAY_STATE, ne_eq, RBay.TIMEOUTS, List.mem_range, List.mem_cons, List.not_mem_nil, or_false] at *; omega) | (split <;> first | decide | (simp only [keyB, keyC, keyCap, keySite, keyPc, keyA, keyG, keyBench, keyNode, keyEng, keyDma, keyLane, keyLink, keyStream, keyStack, keyPort, keyTpg, key, RBay.BAY_STATE, ne_eq, RBay.TIMEOUTS]; omega)))
    | (intro x_1; refine (fun hx : Bst q s x_1 => ?_) ?_; (clear_value x_1); rotate_left; (unfold x_1))
    | (intro x_1; clear_value x_1)
    | intro _
    | (with_reducible first | apply State.incB_bst | apply State.tmuPush_bst | apply State.tmuOver_bst | apply State.occur_bst)
    | lift_lets -underBinder
    | dsimp only

theorem State.tmuRefLost_bst {q : Bay} {s : State} {x_s : State} {x_b : Bay} (h_x_s : Bst q s x_s) : Bst q s (State.tmuRefLost x_s x_b) := by
  unfold State.tmuRefLost
  repeat' first
    | (with_reducible first | assumption | exact Bst.refl _)
    | (show _ ≠ _; first | decide | omega | (simp only [keyB, keyC, keyCap, keySite, keyPc, keyA, keyG, keyBench, keyNode, keyEng, keyDma, keyLane, keyLink, keyStream, keyStack, keyPort, keyTpg, key, RBay.BAY_STATE, ne_eq, R.LOCK_MASK]; omega) | (simp only [keyB, keyC, keyCap, keySite, keyPc, keyA, keyG, keyBench, keyNode, keyEng, keyDma, keyLane, keyLink, keyStream, keyStack, keyPort, keyTpg, key, RBay.BAY_STATE, ne_eq, R.LOCK_MASK, List.mem_range, List.mem_cons, List.not_mem_nil, or_false] at *; omega) | (split <;> first | decide | (simp only [keyB, keyC, keyCap, keySite, keyPc, keyA, keyG, keyBench, keyNode, keyEng, keyDma, keyLane, keyLink, keyStream, keyStack, keyPort, keyTpg, key, RBay.BAY_STATE, ne_eq, R.LOCK_MASK]; omega)))
    | (intro x_1; refine (fun hx : Bst q s x_1 => ?_) ?_; (clear_value x_1); rotate_left; (unfold x_1))
    | (intro x_1; clear_value x_1)
    | intro _
    | (with_reducible first | apply State.setO_bst | apply State.tmuPush_bst | apply State.tmuOver_bst | apply State.fault_bst | apply Bst.ite)
    | lift_lets -underBinder
    | split
    | dsimp only

theorem State.tmuRead_bst {q : Bay} {s : State} {x_s : State} {x_b : Bay} {x_n : Nat} (h_x_s : Bst q s x_s) : Bst q s (State.tmuRead x_s x_b x_n).2 := by
  unfold State.tmuRead
  repeat' first
    | (with_reducible first | assumption | exact Bst.refl _)
    | (show _ ≠ _; first | decide | omega | (simp only [keyB, keyC, keyCap, keySite, keyPc, keyA, keyG, keyBench, keyNode, keyEng, keyDma, keyLane, keyLink, keyStream, keyStack, keyPort, keyTpg, key, RBay.BAY_STATE, ne_eq, RBay.RESULT_COUNT]; omega) | (simp only [keyB, keyC, keyCap, keySite, keyPc, keyA, keyG, keyBench, keyNode, keyEng, keyDma, keyLane, keyLink, keyStream, keyStack, keyPort, keyTpg, key, RBay.BAY_STATE, ne_eq, RBay.RESULT_COUNT, List.mem_range, List.mem_cons, List.not_mem_nil, or_false] at *; omega) | (split <;> first | decide | (simp only [keyB, keyC, keyCap, keySite, keyPc, keyA, keyG, keyBench, keyNode, keyEng, keyDma, keyLane, keyLink, keyStream, keyStack, keyPort, keyTpg, key, RBay.BAY_STATE, ne_eq, RBay.RESULT_COUNT]; omega)))
    | (intro x_1; refine (fun hx : Bst q s x_1 => ?_) ?_; (clear_value x_1); rotate_left; (unfold x_1))
    | (intro x_1; clear_value x_1)
    | intro _
    | (with_reducible first | apply State.modTmu_bst | apply State.setB_bst | apply State.tmuRepeat_bst | apply Bst.ite | apply Bst.ite2)
    | lift_lets -underBinder
    | dsimp only
    | (refine Bst.upd ?_)

theorem State.refWarm_bst {q : Bay} {s : State} {x_s : State} {x_level : Bool} (h_x_s : Bst q s x_s) : Bst q s (State.refWarm x_s x_level) := by
  unfold State.refWarm
  repeat' first
    | (with_reducible first | assumption | exact Bst.refl _)
    | (show _ ≠ _; first | decide | omega | (simp only [keyB, keyC, keyCap, keySite, keyPc, keyA, keyG, keyBench, keyNode, keyEng, keyDma, keyLane, keyLink, keyStream, keyStack, keyPort, keyTpg, key, RBay.BAY_STATE, ne_eq, R.REF_WARM, RBay.WARM_STATE]; omega) | (simp only [keyB, keyC, keyCap, keySite, keyPc, keyA, keyG, keyBench, keyNode, keyEng, keyDma, keyLane, keyLink, keyStream, keyStack, keyPort, keyTpg, key, RBay.BAY_STATE, ne_eq, R.REF_WARM, RBay.WARM_STATE, List.mem_range, List.mem_cons, List.not_mem_nil, or_false] at *; omega) | (split <;> first | decide | (simp only [keyB, keyC, keyCap, keySite, keyPc, keyA, keyG, keyBench, keyNode, keyEng, keyDma, keyLane, keyLink, keyStream, keyStack, keyPort, keyTpg, key, RBay.BAY_STATE, ne_eq, R.REF_WARM, RBay.WARM_STATE]; omega)))
    | (intro x_1; refine (fun hx : Bst q s x_1 => ?_) ?_; (clear_value x_1); rotate_left; (unfold x_1))
    | (intro x_1; clear_value x_1)
    | intro _
    | (with_reducible first | apply State.event_bst | apply State.setO_bst | apply State.each_bst | apply State.modTmu_bst | apply State.setB_bst | apply Bst.ite)
    | lift_lets -underBinder
    | (refine Bst.upd ?_)

theorem execTmuArmRequest_bst {q : Bay} {s : State} {x_b : Bay} {x_epoch : BitVec 16} {x_s : State} (h_x_s : Bst q s x_s) : BstN q s (execTmuArmRequest x_b x_epoch x_s) := by
  unfold execTmuArmRequest
  repeat' first
    | (with_reducible first | assumption | exact Bst.refl _)
    | intro _
    | (with_reducible first | apply State.hostTmu_bst | apply State.tmuArmRequest_bst | apply BstN.next | apply BstN.ite)

theorem execTmuDisarmRequest_bst {q : Bay} {s : State} {x_b : Bay} {x_epoch : BitVec 16} {x_s : State} (h_x_s : Bst q s x_s) : BstN q s (execTmuDisarmRequest x_b x_epoch x_s) := by
  unfold execTmuDisarmRequest
  repeat' first
    | (with_reducible first | assumption | exact Bst.refl _)
    | intro _
    | (with_reducible first | apply State.hostTmu_bst | apply State.tmuDisarmRequest_bst | apply BstN.next | apply BstN.ite)

theorem execTmuCalibrationDone_bst {q : Bay} {s : State} {x_b : Bay} {x_w : Nat} {x_n0 : Nat} {x_s : State} (h_x_s : Bst q s x_s) : BstN q s (execTmuCalibrationDone x_b x_w x_n0 x_s) := by
  unfold execTmuCalibrationDone
  repeat' first
    | (with_reducible first | assumption | exact Bst.refl _ | apply State.tmuCalibrated_bst | apply BstN.next | apply BstN.ite | apply Bst.ite)

theorem execTmuHit_bst {q : Bay} {s : State} {x_b : Bay} {x_route : Fin 2} {x_rising : Bool} {x_ticks : Nat} {x_taps : Nat} {x_s : State} (h_x_s : Bst q s x_s) : BstN q s (execTmuHit x_b x_route x_rising x_ticks x_taps x_s) := by
  unfold execTmuHit
  repeat' first
    | (with_reducible first | assumption | exact Bst.refl _)
    | (with_reducible first | apply State.tmuHit_bst | apply State.advance_bst | apply BstN.next | apply BstN.ite | apply Bst.ite)
    | split

theorem execTmuGateExpiry_bst {q : Bay} {s : State} {x_b : Bay} {x_s : State} (h_x_s : Bst q s x_s) : BstN q s (execTmuGateExpiry x_b x_s) := by
  unfold execTmuGateExpiry
  repeat' first
    | (with_reducible first | assumption | exact Bst.refl _)
    | (intro x_1; refine (fun hx : Bst q s x_1 => ?_) ?_; (clear_value x_1); rotate_left; (unfold x_1))
    | (intro x_1; clear_value x_1)
    | intro _
    | (with_reducible first | apply State.advance_bst | apply State.tmuDue_bst | apply State.modTmu_bst | apply BstN.next | apply BstN.ite | apply Bst.ite)
    | lift_lets -underBinder
    | split
    | dsimp only
    | (refine Bst.upd ?_)

theorem execTmuTimeout_bst {q : Bay} {s : State} {x_b : Bay} {x_s : State} (h_x_s : Bst q s x_s) : BstN q s (execTmuTimeout x_b x_s) := by
  unfold execTmuTimeout
  repeat' first
    | (with_reducible first | assumption | exact Bst.refl _)
    | (intro x_1; refine (fun hx : Bst q s x_1 => ?_) ?_; (clear_value x_1); rotate_left; (unfold x_1))
    | (intro x_1; clear_value x_1)
    | intro _
    | (with_reducible first | apply State.tmuTimeout_bst | apply State.advance_bst | apply BstN.next | apply BstN.ite | apply Bst.ite)
    | lift_lets -underBinder
    | split
    | dsimp only

theorem execTmuRepeat_bst {q : Bay} {s : State} {x_b : Bay} {x_s : State} (h_x_s : Bst q s x_s) : BstN q s (execTmuRepeat x_b x_s) := by
  unfold execTmuRepeat
  repeat' first
    | (with_reducible first | assumption | exact Bst.refl _ | apply State.tmuRepeat_bst | apply BstN.next | apply BstN.ite)

theorem execTmuRefLost_bst {q : Bay} {s : State} {x_b : Bay} {x_s : State} (h_x_s : Bst q s x_s) : BstN q s (execTmuRefLost x_b x_s) := by
  unfold execTmuRefLost
  repeat' first
    | (with_reducible first | assumption | exact Bst.refl _ | apply State.tmuRefLost_bst | apply BstN.next | apply BstN.ite | apply Bst.ite)

theorem execTclkRelock_bst {q : Bay} {s : State} {x_b : Bay} {x_s : State} (h_x_s : Bst q s x_s) : BstN q s (execTclkRelock x_b x_s) := by
  unfold execTclkRelock
  repeat' first
    | (with_reducible first | assumption | exact Bst.refl _)
    | (show _ ≠ _; first | decide | omega | (simp only [keyB, keyC, keyCap, keySite, keyPc, keyA, keyG, keyBench, keyNode, keyEng, keyDma, keyLane, keyLink, keyStream, keyStack, keyPort, keyTpg, key, RBay.BAY_STATE, ne_eq, R.LOCK_MASK]; omega) | (simp only [keyB, keyC, keyCap, keySite, keyPc, keyA, keyG, keyBench, keyNode, keyEng, keyDma, keyLane, keyLink, keyStream, keyStack, keyPort, keyTpg, key, RBay.BAY_STATE, ne_eq, R.LOCK_MASK, List.mem_range, List.mem_cons, List.not_mem_nil, or_false] at *; omega) | (split <;> first | decide | (simp only [keyB, keyC, keyCap, keySite, keyPc, keyA, keyG, keyBench, keyNode, keyEng, keyDma, keyLane, keyLink, keyStream, keyStack, keyPort, keyTpg, key, RBay.BAY_STATE, ne_eq, R.LOCK_MASK]; omega)))
    | intro _
    | (with_reducible first | apply State.modTmu_bst | apply State.setO_bst | apply BstN.next | apply BstN.ite)
    | (refine Bst.upd ?_)

theorem execResultRead_bst {q : Bay} {s : State} {x_b : Bay} {x_s : State} (h_x_s : Bst q s x_s) : BstN q s (execResultRead x_b x_s) := by
  unfold execResultRead
  repeat' first
    | (with_reducible first | assumption | exact Bst.refl _)
    | intro _
    | (with_reducible first | apply State.hostModule_bst | apply State.answerBody_bst | apply State.tmuRead_bst | apply State.answer_bst | apply BstN.next | apply BstN.ite | apply Bst.ite | apply Bst.ite2)
    | dsimp only

theorem execResultBlockRead_bst {q : Bay} {s : State} {x_b : Bay} {x_s : State} (h_x_s : Bst q s x_s) : BstN q s (execResultBlockRead x_b x_s) := by
  unfold execResultBlockRead
  repeat' first
    | (with_reducible first | assumption | exact Bst.refl _)
    | intro _
    | (with_reducible first | apply State.hostModule_bst | apply State.answerBody_bst | apply State.tmuRead_bst | apply State.answer_bst | apply BstN.next | apply BstN.ite | apply Bst.ite | apply Bst.ite2)
    | dsimp only

theorem execFifoClear_bst {q : Bay} {s : State} {x_b : Bay} {x_epoch : BitVec 16} {x_s : State} (h_x_s : Bst q s x_s) : BstN q s (execFifoClear x_b x_epoch x_s) := by
  unfold execFifoClear
  repeat' first
    | (with_reducible first | assumption | exact Bst.refl _)
    | intro _
    | (with_reducible first | apply State.hostTmu_bst | apply State.ok_bst | apply State.tmuRepeat_bst | apply State.tmuClear_bst | apply BstN.next | apply BstN.ite)

theorem execRefWarmChange_bst {q : Bay} {s : State} {x_level : Bool} {x_s : State} (h_x_s : Bst q s x_s) : BstN q s (execRefWarmChange x_level x_s) := by
  unfold execRefWarmChange
  repeat' first
    | (with_reducible first | assumption | exact Bst.refl _ | apply State.refWarm_bst | apply BstN.next | apply BstN.ite)

end Sys2Proof.Machine
end

