-- ==== Sys2Proof/Laws/BstSlots.lean ====
section
/-! SUPPORT. What the operations of Machine/Slots.lean keep. -/

set_option linter.all false

namespace Sys2Proof.Machine

theorem State.zeroSlot_bst {q : Bay} {s : State} {x_s : State} {x_k : Nat} (h_x_s : Bst q s x_s) : Bst q s (State.zeroSlot x_s x_k) := by
  unfold State.zeroSlot
  repeat' first
    | (with_reducible first | assumption | exact Bst.refl _)
    | (show _ ≠ _; first | decide | omega | (simp only [keyB, keyC, keyCap, keySite, keyPc, keyA, keyG, keyBench, keyNode, keyEng, keyDma, keyLane, keyLink, keyStream, keyStack, keyPort, keyTpg, key, RBay.BAY_STATE, ne_eq, R.SLOT_BASE, R.SLOT_STATE]; omega) | (simp only [keyB, keyC, keyCap, keySite, keyPc, keyA, keyG, keyBench, keyNode, keyEng, keyDma, keyLane, keyLink, keyStream, keyStack, keyPort, keyTpg, key, RBay.BAY_STATE, ne_eq, R.SLOT_BASE, R.SLOT_STATE, List.mem_range, List.mem_cons, List.not_mem_nil, or_false] at *; omega) | (split <;> first | decide | (simp only [keyB, keyC, keyCap, keySite, keyPc, keyA, keyG, keyBench, keyNode, keyEng, keyDma, keyLane, keyLink, keyStream, keyStack, keyPort, keyTpg, key, RBay.BAY_STATE, ne_eq, R.SLOT_BASE, R.SLOT_STATE]; omega)))
    | (intro x_1; refine (fun hx : Bst q s x_1 => ?_) ?_; (clear_value x_1); rotate_left; (unfold x_1))
    | (intro x_1; clear_value x_1)
    | intro _
    | with_reducible apply State.setO_bst
    | lift_lets -underBinder
    | (refine Bst.upd ?_)

theorem State.zeroSlots_bst {q : Bay} {s : State} {x_s : State} (h_x_s : Bst q s x_s) : Bst q s (State.zeroSlots x_s) := by
  unfold State.zeroSlots
  repeat' first
    | (with_reducible first | assumption | exact Bst.refl _)
    | intro _
    | (with_reducible first | apply State.each_bst | apply State.zeroSlot_bst)

theorem State.loadSlot_bst {q : Bay} {s : State} {x_s : State} {x_k : Nat} {x_xts : BitVec 512} {x_base : Nat} {x_b : Bay} (h_x_s : Bst q s x_s) : Bst q s (State.loadSlot x_s x_k x_xts x_base x_b) := by
  unfold State.loadSlot
  repeat' first
    | (with_reducible first | assumption | exact Bst.refl _)
    | (show _ ≠ _; first | decide | omega | (simp only [keyB, keyC, keyCap, keySite, keyPc, keyA, keyG, keyBench, keyNode, keyEng, keyDma, keyLane, keyLink, keyStream, keyStack, keyPort, keyTpg, key, RBay.BAY_STATE, ne_eq, R.SLOT_BASE, R.SLOT_STATE]; omega) | (simp only [keyB, keyC, keyCap, keySite, keyPc, keyA, keyG, keyBench, keyNode, keyEng, keyDma, keyLane, keyLink, keyStream, keyStack, keyPort, keyTpg, key, RBay.BAY_STATE, ne_eq, R.SLOT_BASE, R.SLOT_STATE, List.mem_range, List.mem_cons, List.not_mem_nil, or_false] at *; omega) | (split <;> first | decide | (simp only [keyB, keyC, keyCap, keySite, keyPc, keyA, keyG, keyBench, keyNode, keyEng, keyDma, keyLane, keyLink, keyStream, keyStack, keyPort, keyTpg, key, RBay.BAY_STATE, ne_eq, R.SLOT_BASE, R.SLOT_STATE]; omega)))
    | (intro x_1; refine (fun hx : Bst q s x_1 => ?_) ?_; (clear_value x_1); rotate_left; (unfold x_1))
    | (intro x_1; clear_value x_1)
    | intro _
    | with_reducible apply State.setO_bst
    | lift_lets -underBinder
    | (refine Bst.upd ?_)

theorem State.showSlots_bst {q : Bay} {s : State} {x_s : State} (h_x_s : Bst q s x_s) : Bst q s (State.showSlots x_s) := by
  unfold State.showSlots
  repeat' first
    | (with_reducible first | assumption | exact Bst.refl _)
    | (show _ ≠ _; first | decide | omega | (simp only [keyB, keyC, keyCap, keySite, keyPc, keyA, keyG, keyBench, keyNode, keyEng, keyDma, keyLane, keyLink, keyStream, keyStack, keyPort, keyTpg, key, RBay.BAY_STATE, ne_eq, R.SLOT_STATE]; omega) | (simp only [keyB, keyC, keyCap, keySite, keyPc, keyA, keyG, keyBench, keyNode, keyEng, keyDma, keyLane, keyLink, keyStream, keyStack, keyPort, keyTpg, key, RBay.BAY_STATE, ne_eq, R.SLOT_STATE, List.mem_range, List.mem_cons, List.not_mem_nil, or_false] at *; omega) | (split <;> first | decide | (simp only [keyB, keyC, keyCap, keySite, keyPc, keyA, keyG, keyBench, keyNode, keyEng, keyDma, keyLane, keyLink, keyStream, keyStack, keyPort, keyTpg, key, RBay.BAY_STATE, ne_eq, R.SLOT_STATE]; omega)))
    | (intro x_1; refine (fun hx : Bst q s x_1 => ?_) ?_; (clear_value x_1); rotate_left; (unfold x_1))
    | (intro x_1; clear_value x_1)
    | intro _
    | (with_reducible first | apply State.each_bst | apply State.setO_bst | apply Bst.ite)
    | lift_lets -underBinder

end Sys2Proof.Machine
end

