-- ==== Sys2Proof/Laws/BstSequencer.lean ====
section
/-! SUPPORT. What the operations of Machine/Sequencer.lean keep. -/

set_option linter.all false

namespace Sys2Proof.Machine

theorem State.storeEntries_bst {q : Bay} {s : State} {x_s : State} {x_b : Bay} {x_a2 : List (Nat × Nat)} (h_x_s : Bst q s x_s) : Bst q s (State.storeEntries x_s x_b x_a2) := by
  induction x_a2 generalizing x_s x_b with
  | nil =>
    unfold State.storeEntries
    repeat' first
      | (with_reducible first | assumption | exact Bst.refl _)
      | (show _ ≠ _; first | decide | omega | (simp only [keyB, keyC, keyCap, keySite, keyPc, keyA, keyG, keyBench, keyNode, keyEng, keyDma, keyLane, keyLink, keyStream, keyStack, keyPort, keyTpg, key, RBay.BAY_STATE, ne_eq, RBay.ENTRY_ERROR]; omega) | (simp only [keyB, keyC, keyCap, keySite, keyPc, keyA, keyG, keyBench, keyNode, keyEng, keyDma, keyLane, keyLink, keyStream, keyStack, keyPort, keyTpg, key, RBay.BAY_STATE, ne_eq, RBay.ENTRY_ERROR, List.mem_range, List.mem_cons, List.not_mem_nil, or_false] at *; omega) | (split <;> first | decide | (simp only [keyB, keyC, keyCap, keySite, keyPc, keyA, keyG, keyBench, keyNode, keyEng, keyDma, keyLane, keyLink, keyStream, keyStack, keyPort, keyTpg, key, RBay.BAY_STATE, ne_eq, RBay.ENTRY_ERROR]; omega)))
      | (with_reducible first | apply State.answer_bst | apply State.setB_bst | apply State.ok_bst | exact BstO.none | apply BstO.some | apply BstO.ite)
      | split
      | (refine Bst.upd ?_)
      | (dsimp only)
  | cons hd tl ih =>
    unfold State.storeEntries
    repeat' first
      | with_reducible apply ih
      | (with_reducible first | assumption | exact Bst.refl _)
      | (show _ ≠ _; first | decide | omega | (simp only [keyB, keyC, keyCap, keySite, keyPc, keyA, keyG, keyBench, keyNode, keyEng, keyDma, keyLane, keyLink, keyStream, keyStack, keyPort, keyTpg, key, RBay.BAY_STATE, ne_eq, RBay.ENTRY_ERROR]; omega) | (simp only [keyB, keyC, keyCap, keySite, keyPc, keyA, keyG, keyBench, keyNode, keyEng, keyDma, keyLane, keyLink, keyStream, keyStack, keyPort, keyTpg, key, RBay.BAY_STATE, ne_eq, RBay.ENTRY_ERROR, List.mem_range, List.mem_cons, List.not_mem_nil, or_false] at *; omega) | (split <;> first | decide | (simp only [keyB, keyC, keyCap, keySite, keyPc, keyA, keyG, keyBench, keyNode, keyEng, keyDma, keyLane, keyLink, keyStream, keyStack, keyPort, keyTpg, key, RBay.BAY_STATE, ne_eq, RBay.ENTRY_ERROR]; omega)))
      | (with_reducible first | apply State.answer_bst | apply State.setB_bst | apply State.ok_bst | exact BstO.none | apply BstO.some | apply BstO.ite)
      | split
      | (refine Bst.upd ?_)
      | (dsimp only)

theorem State.entryWrite_bst {q : Bay} {s : State} {x_s : State} {x_b : Bay} {x_e : Nat} (h_x_s : Bst q s x_s) : Bst q s (State.entryWrite x_s x_b x_e) := by
  unfold State.entryWrite
  repeat' first
    | (with_reducible first | assumption | exact Bst.refl _ | apply State.answer_bst | apply State.storeEntries_bst | apply Bst.ite)

theorem State.tableWrite_bst {q : Bay} {s : State} {x_s : State} {x_b : Bay} {x_data : Bytes} (h_x_s : Bst q s x_s) : Bst q s (State.tableWrite x_s x_b x_data) := by
  unfold State.tableWrite
  repeat' first
    | (with_reducible first | assumption | exact Bst.refl _)
    | (intro x_1; refine (fun hx : Bst q s x_1 => ?_) ?_; (clear_value x_1); rotate_left; (unfold x_1))
    | (intro x_1; clear_value x_1)
    | intro _
    | (with_reducible first | apply State.answer_bst | apply State.storeEntries_bst | apply Bst.ite)
    | lift_lets -underBinder

theorem State.driveRidge_bst {q : Bay} {s : State} {x_s : State} {x_line : Nat} {x_on : Bool} (h_x_s : Bst q s x_s) : Bst q s (State.driveRidge x_s x_line x_on) := by
  unfold State.driveRidge
  repeat' first
    | (with_reducible first | assumption | exact Bst.refl _ | apply Bst.ite)
    | (refine Bst.upd ?_)

theorem State.driveLines_bst {q : Bay} {s : State} {x_s : State} {x_i : Site} (h_x_s : Bst q s x_s) : Bst q s (State.driveLines x_s x_i) := by
  unfold State.driveLines
  repeat' first
    | (with_reducible first | assumption | exact Bst.refl _)
    | (intro x_1; refine (fun hx : Bst q s x_1 => ?_) ?_; (clear_value x_1); rotate_left; (unfold x_1))
    | (intro x_1; clear_value x_1)
    | intro _
    | (with_reducible first | apply State.driveRidge_bst | apply Bst.ite)
    | lift_lets -underBinder
    | split
    | dsimp only
    | (refine Bst.upd ?_)

theorem State.driveSite_bst {q : Bay} {s : State} {x_s : State} {x_b : Bay} (h_x_s : Bst q s x_s) : Bst q s (State.driveSite x_s x_b) := by
  unfold State.driveSite
  repeat' first
    | (with_reducible first | assumption | exact Bst.refl _)
    | (show _ ≠ _; first | decide | omega | (simp only [keyB, keyC, keyCap, keySite, keyPc, keyA, keyG, keyBench, keyNode, keyEng, keyDma, keyLane, keyLink, keyStream, keyStack, keyPort, keyTpg, key, RBay.BAY_STATE, ne_eq]; omega) | (simp only [keyB, keyC, keyCap, keySite, keyPc, keyA, keyG, keyBench, keyNode, keyEng, keyDma, keyLane, keyLink, keyStream, keyStack, keyPort, keyTpg, key, RBay.BAY_STATE, ne_eq, List.mem_range, List.mem_cons, List.not_mem_nil, or_false] at *; omega) | (split <;> first | decide | (simp only [keyB, keyC, keyCap, keySite, keyPc, keyA, keyG, keyBench, keyNode, keyEng, keyDma, keyLane, keyLink, keyStream, keyStack, keyPort, keyTpg, key, RBay.BAY_STATE, ne_eq]; omega)))
    | intro _
    | (with_reducible first | apply State.each_bst | apply State.driveLines_bst)

theorem State.clearLatch_bst {q : Bay} {s : State} {x_s : State} {x_b : Bay} {x_n : Nat} (h_x_s : Bst q s x_s) : Bst q s (State.clearLatch x_s x_b x_n) := by
  unfold State.clearLatch
  repeat' first
    | (with_reducible first | assumption | exact Bst.refl _)
    | (intro x_1; refine (fun hx : Bst q s x_1 => ?_) ?_; (clear_value x_1); rotate_left; (unfold x_1))
    | (intro x_1; clear_value x_1)
    | intro _
    | (with_reducible first | apply State.modBay_bst | apply Bst.ite)
    | lift_lets -underBinder
    | split
    | dsimp only
    | (refine Bst.upd ?_)

theorem State.clearLatches__bst {q : Bay} {s : State} {x_s : State} {x_b : Bay} (h_x_s : Bst q s x_s) : Bst q s (State.clearLatches_ x_s x_b) := by
  unfold State.clearLatches_
  repeat' first
    | (with_reducible first | assumption | exact Bst.refl _)
    | (intro x_1; refine (fun hx : Bst q s x_1 => ?_) ?_; (clear_value x_1); rotate_left; (unfold x_1))
    | (intro x_1; clear_value x_1)
    | intro _
    | with_reducible apply State.modBay_bst
    | lift_lets -underBinder
    | (refine Bst.upd ?_)

theorem State.endPattern_bst {q : Bay} {s : State} {x_s : State} {x_b : Bay} (h_x_s : Bst q s x_s) : Bst q s (State.endPattern x_s x_b) := by
  unfold State.endPattern
  repeat' first
    | (with_reducible first | assumption | exact Bst.refl _)
    | intro _
    | with_reducible apply State.modBay_bst
    | (refine Bst.upd ?_)

theorem State.seqError_bst {q : Bay} {s : State} {x_s : State} {x_b : Bay} {x_micro : Bool} {x_flag : Nat} (h_x_s : Bst q s x_s) : Bst q s (State.seqError x_s x_b x_micro x_flag) := by
  unfold State.seqError
  repeat' first
    | (with_reducible first | assumption | exact Bst.refl _)
    | (show _ ≠ _; first | decide | omega | (simp only [keyB, keyC, keyCap, keySite, keyPc, keyA, keyG, keyBench, keyNode, keyEng, keyDma, keyLane, keyLink, keyStream, keyStack, keyPort, keyTpg, key, RBay.BAY_STATE, ne_eq, RBay.MICRO_FLAGS, RBay.SEQ_FLAGS]; omega) | (simp only [keyB, keyC, keyCap, keySite, keyPc, keyA, keyG, keyBench, keyNode, keyEng, keyDma, keyLane, keyLink, keyStream, keyStack, keyPort, keyTpg, key, RBay.BAY_STATE, ne_eq, RBay.MICRO_FLAGS, RBay.SEQ_FLAGS, List.mem_range, List.mem_cons, List.not_mem_nil, or_false] at *; omega) | (split <;> first | decide | (simp only [keyB, keyC, keyCap, keySite, keyPc, keyA, keyG, keyBench, keyNode, keyEng, keyDma, keyLane, keyLink, keyStream, keyStack, keyPort, keyTpg, key, RBay.BAY_STATE, ne_eq, RBay.MICRO_FLAGS, RBay.SEQ_FLAGS]; omega)))
    | (intro x_1; refine (fun hx : Bst q s x_1 => ?_) ?_; (clear_value x_1); rotate_left; (unfold x_1))
    | (intro x_1; clear_value x_1)
    | intro _
    | (with_reducible first | apply State.flagB_bst | apply State.fault_bst | apply State.markSites_bst | apply State.endPattern_bst | apply State.occur_bst | apply Bst.ite)
    | lift_lets -underBinder

theorem State.postJump_bst {q : Bay} {s : State} {x_s : State} {x_b : Bay} {x_rank : Nat} {x_target : Nat} (h_x_s : Bst q s x_s) : Bst q s (State.postJump x_s x_b x_rank x_target) := by
  unfold State.postJump
  repeat' first
    | (with_reducible first | assumption | exact Bst.refl _)
    | intro _
    | (with_reducible first | apply State.modBay_bst)
    | (refine Bst.upd ?_)

theorem State.dropJumps_bst {q : Bay} {s : State} {x_s : State} {x_b : Bay} {x_n : Nat} (h_x_s : Bst q s x_s) : Bst q s (State.dropJumps x_s x_b x_n) := by
  unfold State.dropJumps
  repeat' first
    | (with_reducible first | assumption | exact Bst.refl _)
    | (show _ ≠ _; first | decide | omega | (simp only [keyB, keyC, keyCap, keySite, keyPc, keyA, keyG, keyBench, keyNode, keyEng, keyDma, keyLane, keyLink, keyStream, keyStack, keyPort, keyTpg, key, RBay.BAY_STATE, ne_eq, RBay.JUMP_DROP_COUNT, RBay.SEQ_FLAGS]; omega) | (simp only [keyB, keyC, keyCap, keySite, keyPc, keyA, keyG, keyBench, keyNode, keyEng, keyDma, keyLane, keyLink, keyStream, keyStack, keyPort, keyTpg, key, RBay.BAY_STATE, ne_eq, RBay.JUMP_DROP_COUNT, RBay.SEQ_FLAGS, List.mem_range, List.mem_cons, List.not_mem_nil, or_false] at *; omega) | (split <;> first | decide | (simp only [keyB, keyC, keyCap, keySite, keyPc, keyA, keyG, keyBench, keyNode, keyEng, keyDma, keyLane, keyLink, keyStream, keyStack, keyPort, keyTpg, key, RBay.BAY_STATE, ne_eq, RBay.JUMP_DROP_COUNT, RBay.SEQ_FLAGS]; omega)))
    | (with_reducible first | apply State.setB_bst | apply State.flagB_bst | apply Bst.ite)

theorem State.latchJumps_bst {q : Bay} {s : State} {x_s : State} {x_b : Bay} (h_x_s : Bst q s x_s) : Bst q s (State.latchJumps x_s x_b) := by
  unfold State.latchJumps
  repeat' first
    | (with_reducible first | assumption | exact Bst.refl _)
    | (intro x_1; refine (fun hx : Bst q s x_1 => ?_) ?_; (clear_value x_1); rotate_left; (unfold x_1))
    | (intro x_1; clear_value x_1)
    | intro _
    | (with_reducible first | apply State.modBay_bst | apply State.dropJumps_bst | exact BstO.none | apply BstO.some | apply BstO.ite)
    | lift_lets -underBinder
    | split
    | (refine Bst.upd ?_)

theorem State.jumpRequest_bst {q : Bay} {s : State} {x_s : State} {x_b : Bay} {x_target : Nat} (h_x_s : Bst q s x_s) : Bst q s (State.jumpRequest x_s x_b x_target) := by
  unfold State.jumpRequest
  repeat' first
    | (with_reducible first | assumption | exact Bst.refl _ | apply State.answer_bst | apply State.ok_bst | apply State.postJump_bst | apply Bst.ite)

theorem State.showLead_bst {q : Bay} {s : State} {x_s : State} {x_b : Bay} (h_x_s : Bst q s x_s) : Bst q s (State.showLead x_s x_b) := by
  unfold State.showLead
  repeat' first
    | (with_reducible first | assumption | exact Bst.refl _)
    | (show _ ≠ _; first | decide | omega | (simp only [keyB, keyC, keyCap, keySite, keyPc, keyA, keyG, keyBench, keyNode, keyEng, keyDma, keyLane, keyLink, keyStream, keyStack, keyPort, keyTpg, key, RBay.BAY_STATE, ne_eq, RBay.LEAD_MIN, RBay.LEAD_NOW]; omega) | (simp only [keyB, keyC, keyCap, keySite, keyPc, keyA, keyG, keyBench, keyNode, keyEng, keyDma, keyLane, keyLink, keyStream, keyStack, keyPort, keyTpg, key, RBay.BAY_STATE, ne_eq, RBay.LEAD_MIN, RBay.LEAD_NOW, List.mem_range, List.mem_cons, List.not_mem_nil, or_false] at *; omega) | (split <;> first | decide | (simp only [keyB, keyC, keyCap, keySite, keyPc, keyA, keyG, keyBench, keyNode, keyEng, keyDma, keyLane, keyLink, keyStream, keyStack, keyPort, keyTpg, key, RBay.BAY_STATE, ne_eq, RBay.LEAD_MIN, RBay.LEAD_NOW]; omega)))
    | (intro x_1; refine (fun hx : Bst q s x_1 => ?_) ?_; (clear_value x_1); rotate_left; (unfold x_1))
    | (intro x_1; clear_value x_1)
    | intro _
    | (with_reducible first | apply State.setB_bst | apply Bst.ite)
    | lift_lets -underBinder

theorem State.ringIn_bst {q : Bay} {s : State} {x_s : State} {x_b : Bay} {x_bad : Bool} {x_rows : Nat → List Nat} {x_a4 : Nat} {x_a5 : Nat} (h_x_s : Bst q s x_s) : Bst q s (State.ringIn x_s x_b x_bad x_rows x_a4 x_a5) := by
  induction x_a4 generalizing x_s x_b x_bad x_rows x_a5 with
  | zero =>
    unfold State.ringIn
    repeat' first
      | (with_reducible first | assumption | exact Bst.refl _)
      | (intro x_1; refine (fun hx : Bst q s x_1 => ?_) ?_; (clear_value x_1); rotate_left; (unfold x_1))
      | (intro x_1; clear_value x_1)
      | intro _
      | (with_reducible first | apply State.modBay_bst | exact BstO.none | apply BstO.some | apply BstO.ite)
      | lift_lets -underBinder
      | split
      | (refine Bst.upd ?_)
      | (dsimp only)
  | succ k ih =>
    unfold State.ringIn
    repeat' first
      | with_reducible apply ih
      | (with_reducible first | assumption | exact Bst.refl _)
      | (intro x_1; refine (fun hx : Bst q s x_1 => ?_) ?_; (clear_value x_1); rotate_left; (unfold x_1))
      | (intro x_1; clear_value x_1)
      | intro _
      | (with_reducible first | apply State.modBay_bst | exact BstO.none | apply BstO.some | apply BstO.ite)
      | lift_lets -underBinder
      | split
      | (refine Bst.upd ?_)
      | (dsimp only)

theorem State.fetchCheck_bst {q : Bay} {s : State} {x_s : State} {x_b : Bay} {x_bad : Bool} {x_again : Bool} (h_x_s : Bst q s x_s) : Bst q s (State.fetchCheck x_s x_b x_bad x_again) := by
  unfold State.fetchCheck
  repeat' first
    | (with_reducible first | assumption | exact Bst.refl _)
    | (intro x_1; refine (fun hx : Bst q s x_1 => ?_) ?_; (clear_value x_1); rotate_left; (unfold x_1))
    | (intro x_1; clear_value x_1)
    | intro _
    | (with_reducible first | apply State.countUe_bst | apply Bst.ite)
    | lift_lets -underBinder
    | split
    | dsimp only

theorem State.loftFill_bst {q : Bay} {s : State} {x_s : State} {x_b : Bay} {x_bad : Bool} {x_badAgain : Bool} (h_x_s : Bst q s x_s) : Bst q s (State.loftFill x_s x_b x_bad x_badAgain) := by
  unfold State.loftFill
  repeat' first
    | (with_reducible first | assumption | exact Bst.refl _)
    | (show _ ≠ _; first | decide | omega | (simp only [keyB, keyC, keyCap, keySite, keyPc, keyA, keyG, keyBench, keyNode, keyEng, keyDma, keyLane, keyLink, keyStream, keyStack, keyPort, keyTpg, key, RBay.BAY_STATE, ne_eq, RBay.RING_BYTES, RBay.STAGE_READ, RBay.STAGE_WRITE]; omega) | (simp only [keyB, keyC, keyCap, keySite, keyPc, keyA, keyG, keyBench, keyNode, keyEng, keyDma, keyLane, keyLink, keyStream, keyStack, keyPort, keyTpg, key, RBay.BAY_STATE, ne_eq, RBay.RING_BYTES, RBay.STAGE_READ, RBay.STAGE_WRITE, List.mem_range, List.mem_cons, List.not_mem_nil, or_false] at *; omega) | (split <;> first | decide | (simp only [keyB, keyC, keyCap, keySite, keyPc, keyA, keyG, keyBench, keyNode, keyEng, keyDma, keyLane, keyLink, keyStream, keyStack, keyPort, keyTpg, key, RBay.BAY_STATE, ne_eq, RBay.RING_BYTES, RBay.STAGE_READ, RBay.STAGE_WRITE]; omega)))
    | (intro x_1; refine (fun hx : Bst q s x_1 => ?_) ?_; (clear_value x_1); rotate_left; (unfold x_1))
    | (intro x_1; clear_value x_1)
    | intro _
    | (with_reducible first | apply State.showLead_bst | apply State.ringIn_bst | apply State.setB_bst | apply State.fetchCheck_bst | apply State.countTag_bst | apply Bst.ite)
    | lift_lets -underBinder
    | split
    | dsimp only
    | (refine Bst.upd ?_)

theorem State.redirect_bst {q : Bay} {s : State} {x_s : State} {x_b : Bay} {x_n : Nat} (h_x_s : Bst q s x_s) : Bst q s (State.redirect x_s x_b x_n) := by
  unfold State.redirect
  repeat' first
    | (with_reducible first | assumption | exact Bst.refl _)
    | (intro x_1; refine (fun hx : Bst q s x_1 => ?_) ?_; (clear_value x_1); rotate_left; (unfold x_1))
    | (intro x_1; clear_value x_1)
    | intro _
    | (with_reducible first | apply State.showLead_bst | apply State.modBay_bst | apply Bst.ite | apply Bst.ite1 | apply Bst.ite2)
    | lift_lets -underBinder
    | split
    | dsimp only
    | (refine Bst.upd ?_)

theorem State.endUnderrun_bst {q : Bay} {s : State} {x_s : State} {x_b : Bay} (h_x_s : Bst q s x_s) : Bst q s (State.endUnderrun x_s x_b) := by
  unfold State.endUnderrun
  repeat' first
    | (with_reducible first | assumption | exact Bst.refl _)
    | intro _
    | (with_reducible first | apply State.modBay_bst | exact BstO.none | apply BstO.some | apply BstO.ite)
    | split
    | (refine Bst.upd ?_)

theorem State.beginUnderrun_bst {q : Bay} {s : State} {x_s : State} {x_b : Bay} {x_cause : Nat} (h_x_s : Bst q s x_s) : Bst q s (State.beginUnderrun x_s x_b x_cause) := by
  unfold State.beginUnderrun
  repeat' first
    | (with_reducible first | assumption | exact Bst.refl _)
    | (show _ ≠ _; first | decide | omega | (simp only [keyB, keyC, keyCap, keySite, keyPc, keyA, keyG, keyBench, keyNode, keyEng, keyDma, keyLane, keyLink, keyStream, keyStack, keyPort, keyTpg, key, RBay.BAY_STATE, ne_eq, RBay.CNT_VALUE, RBay.SEQ_FLAGS, RBay.UNDERRUN_COUNT, RBay.VECTORS_ISSUED]; omega) | (simp only [keyB, keyC, keyCap, keySite, keyPc, keyA, keyG, keyBench, keyNode, keyEng, keyDma, keyLane, keyLink, keyStream, keyStack, keyPort, keyTpg, key, RBay.BAY_STATE, ne_eq, RBay.CNT_VALUE, RBay.SEQ_FLAGS, RBay.UNDERRUN_COUNT, RBay.VECTORS_ISSUED, List.mem_range, List.mem_cons, List.not_mem_nil, or_false] at *; omega) | (split <;> first | decide | (simp only [keyB, keyC, keyCap, keySite, keyPc, keyA, keyG, keyBench, keyNode, keyEng, keyDma, keyLane, keyLink, keyStream, keyStack, keyPort, keyTpg, key, RBay.BAY_STATE, ne_eq, RBay.CNT_VALUE, RBay.SEQ_FLAGS, RBay.UNDERRUN_COUNT, RBay.VECTORS_ISSUED]; omega)))
    | (intro x_1; refine (fun hx : Bst q s x_1 => ?_) ?_; (clear_value x_1); rotate_left; (unfold x_1))
    | (intro x_1; clear_value x_1)
    | intro _
    | (with_reducible first | apply State.flagB_bst | apply State.incB_bst | apply State.markSites_bst | apply State.occur_bst | apply State.fault_bst | apply State.modBay_bst | exact BstO.none | apply BstO.some | apply BstO.ite | apply Bst.ite)
    | lift_lets -underBinder
    | (refine Bst.upd ?_)

theorem State.padGranule_bst {q : Bay} {s : State} {x_s : State} {x_b : Bay} {x_cause : Nat} (h_x_s : Bst q s x_s) : Bst q s (State.padGranule x_s x_b x_cause) := by
  unfold State.padGranule
  repeat' first
    | (with_reducible first | assumption | exact Bst.refl _)
    | (show _ ≠ _; first | decide | omega | (simp only [keyB, keyC, keyCap, keySite, keyPc, keyA, keyG, keyBench, keyNode, keyEng, keyDma, keyLane, keyLink, keyStream, keyStack, keyPort, keyTpg, key, RBay.BAY_STATE, ne_eq, RBay.ABORT_ON_UNDERRUN, RBay.PAD_GRANULES, RBay.SEQ_FLAGS]; omega) | (simp only [keyB, keyC, keyCap, keySite, keyPc, keyA, keyG, keyBench, keyNode, keyEng, keyDma, keyLane, keyLink, keyStream, keyStack, keyPort, keyTpg, key, RBay.BAY_STATE, ne_eq, RBay.ABORT_ON_UNDERRUN, RBay.PAD_GRANULES, RBay.SEQ_FLAGS, List.mem_range, List.mem_cons, List.not_mem_nil, or_false] at *; omega) | (split <;> first | decide | (simp only [keyB, keyC, keyCap, keySite, keyPc, keyA, keyG, keyBench, keyNode, keyEng, keyDma, keyLane, keyLink, keyStream, keyStack, keyPort, keyTpg, key, RBay.BAY_STATE, ne_eq, RBay.ABORT_ON_UNDERRUN, RBay.PAD_GRANULES, RBay.SEQ_FLAGS]; omega)))
    | (intro x_1; refine (fun hx : Bst q s x_1 => ?_) ?_; (clear_value x_1); rotate_left; (unfold x_1))
    | (intro x_1; clear_value x_1)
    | intro _
    | (with_reducible first | apply State.beginUnderrun_bst | apply State.endUnderrun_bst | apply State.endPattern_bst | apply State.flagB_bst | apply State.setB_bst | apply State.modBay_bst | apply Bst.ite)
    | lift_lets -underBinder
    | (refine Bst.upd ?_)

theorem State.ringPop_bst {q : Bay} {s : State} {x_s : State} {x_b : Bay} (h_x_s : Bst q s x_s) : Bst q s (State.ringPop x_s x_b) := by
  unfold State.ringPop
  repeat' first
    | (with_reducible first | assumption | exact Bst.refl _)
    | (intro x_1; refine (fun hx : Bst q s x_1 => ?_) ?_; (clear_value x_1); rotate_left; (unfold x_1))
    | (intro x_1; clear_value x_1)
    | intro _
    | (with_reducible first | apply State.showLead_bst | apply State.modBay_bst | apply Bst.ite)
    | lift_lets -underBinder
    | split
    | (refine Bst.upd ?_)

theorem State.retireChan_bst {q : Bay} {s : State} {x_s : State} {x_c : Chan} {x_how : Nat} (h_x_s : Bst q s x_s) : Bst q s (State.retireChan x_s x_c x_how) := by
  unfold State.retireChan
  repeat' first
    | (with_reducible first | assumption | exact Bst.refl _)
    | (intro x_1; refine (fun hx : Bst q s x_1 => ?_) ?_; (clear_value x_1); rotate_left; (unfold x_1))
    | (intro x_1; clear_value x_1)
    | intro _
    | (with_reducible first | apply State.modChan_bst | apply State.inhibit_bst)
    | lift_lets -underBinder
    | split
    | (refine Bst.upd ?_)

theorem State.retireQuad_bst {q : Bay} {s : State} {x_s : State} {x_b : Bay} {x_q : Fin 4} (h_x_s : Bst q s x_s) : Bst q s (State.retireQuad x_s x_b x_q) := by
  unfold State.retireQuad
  repeat' first
    | (with_reducible first | assumption | exact Bst.refl _)
    | (show _ ≠ _; first | decide | omega | (simp only [keyB, keyC, keyCap, keySite, keyPc, keyA, keyG, keyBench, keyNode, keyEng, keyDma, keyLane, keyLink, keyStream, keyStack, keyPort, keyTpg, key, RBay.BAY_STATE, ne_eq, RBay.QUADS_RETIRED, RBay.QUAD_RETIRE_STATE]; omega) | (simp only [keyB, keyC, keyCap, keySite, keyPc, keyA, keyG, keyBench, keyNode, keyEng, keyDma, keyLane, keyLink, keyStream, keyStack, keyPort, keyTpg, key, RBay.BAY_STATE, ne_eq, RBay.QUADS_RETIRED, RBay.QUAD_RETIRE_STATE, List.mem_range, List.mem_cons, List.not_mem_nil, or_false] at *; omega) | (split <;> first | decide | (simp only [keyB, keyC, keyCap, keySite, keyPc, keyA, keyG, keyBench, keyNode, keyEng, keyDma, keyLane, keyLink, keyStream, keyStack, keyPort, keyTpg, key, RBay.BAY_STATE, ne_eq, RBay.QUADS_RETIRED, RBay.QUAD_RETIRE_STATE]; omega)))
    | (intro x_1; refine (fun hx : Bst q s x_1 => ?_) ?_; (clear_value x_1); rotate_left; (unfold x_1))
    | (intro x_1; clear_value x_1)
    | intro _
    | (with_reducible first | apply State.driveSite_bst | apply State.setB_bst | apply State.each_bst | apply State.retireChan_bst | apply State.markSite_bst | apply Bst.ite)
    | lift_lets -underBinder
    | split
    | dsimp only
    | (refine Bst.upd ?_)

theorem State.retireDue_bst {q : Bay} {s : State} {x_s : State} {x_b : Bay} (h_x_s : Bst q s x_s) : Bst q s (State.retireDue x_s x_b) := by
  unfold State.retireDue
  repeat' first
    | (with_reducible first | assumption | exact Bst.refl _)
    | (intro x_1; refine (fun hx : Bst q s x_1 => ?_) ?_; (clear_value x_1); rotate_left; (unfold x_1))
    | (intro x_1; clear_value x_1)
    | intro _
    | (with_reducible first | apply State.modBay_bst | apply State.each_bst | apply State.retireQuad_bst | apply Bst.ite)
    | lift_lets -underBinder
    | (refine Bst.upd ?_)

theorem State.openRows_bst {q : Bay} {s : State} {x_s : State} {x_b : Bay} {x_rows : List Nat} (h_x_s : Bst q s x_s) : Bst q s (State.openRows x_s x_b x_rows) := by
  unfold State.openRows
  repeat' first
    | (with_reducible first | assumption | exact Bst.refl _)
    | (show _ ≠ _; first | decide | omega | (simp only [keyB, keyC, keyCap, keySite, keyPc, keyA, keyG, keyBench, keyNode, keyEng, keyDma, keyLane, keyLink, keyStream, keyStack, keyPort, keyTpg, key, RBay.BAY_STATE, ne_eq, RBay.CURRENT_GRANULE]; omega) | (simp only [keyB, keyC, keyCap, keySite, keyPc, keyA, keyG, keyBench, keyNode, keyEng, keyDma, keyLane, keyLink, keyStream, keyStack, keyPort, keyTpg, key, RBay.BAY_STATE, ne_eq, RBay.CURRENT_GRANULE, List.mem_range, List.mem_cons, List.not_mem_nil, or_false] at *; omega) | (split <;> first | decide | (simp only [keyB, keyC, keyCap, keySite, keyPc, keyA, keyG, keyBench, keyNode, keyEng, keyDma, keyLane, keyLink, keyStream, keyStack, keyPort, keyTpg, key, RBay.BAY_STATE, ne_eq, RBay.CURRENT_GRANULE]; omega)))
    | (intro x_1; refine (fun hx : Bst q s x_1 => ?_) ?_; (clear_value x_1); rotate_left; (unfold x_1))
    | (intro x_1; clear_value x_1)
    | intro _
    | (with_reducible first | apply State.setB_bst | apply State.endUnderrun_bst | apply State.modBay_bst | apply State.ringPop_bst)
    | lift_lets -underBinder
    | (refine Bst.upd ?_)

theorem State.openNext_bst {q : Bay} {s : State} {x_s : State} {x_b : Bay} (h_x_s : Bst q s x_s) : Bst q s (State.openNext x_s x_b) := by
  unfold State.openNext
  repeat' first
    | (with_reducible first | assumption | exact Bst.refl _)
    | (show _ ≠ _; first | decide | omega | (simp only [keyB, keyC, keyCap, keySite, keyPc, keyA, keyG, keyBench, keyNode, keyEng, keyDma, keyLane, keyLink, keyStream, keyStack, keyPort, keyTpg, key, RBay.BAY_STATE, ne_eq, RBay.CURRENT_GRANULE]; omega) | (simp only [keyB, keyC, keyCap, keySite, keyPc, keyA, keyG, keyBench, keyNode, keyEng, keyDma, keyLane, keyLink, keyStream, keyStack, keyPort, keyTpg, key, RBay.BAY_STATE, ne_eq, RBay.CURRENT_GRANULE, List.mem_range, List.mem_cons, List.not_mem_nil, or_false] at *; omega) | (split <;> first | decide | (simp only [keyB, keyC, keyCap, keySite, keyPc, keyA, keyG, keyBench, keyNode, keyEng, keyDma, keyLane, keyLink, keyStream, keyStack, keyPort, keyTpg, key, RBay.BAY_STATE, ne_eq, RBay.CURRENT_GRANULE]; omega)))
    | (with_reducible first | apply State.openRows_bst | apply State.ringPop_bst | apply State.padGranule_bst | apply State.setB_bst | apply State.ok_bst | apply Bst.ite)
    | split
    | (refine Bst.upd ?_)

theorem State.openPause_bst {q : Bay} {s : State} {x_s : State} {x_b : Bay} (h_x_s : Bst q s x_s) : Bst q s (State.openPause x_s x_b) := by
  unfold State.openPause
  repeat' first
    | (with_reducible first | assumption | exact Bst.refl _)
    | intro _
    | with_reducible apply State.modBay_bst
    | (refine Bst.upd ?_)

theorem State.loftError_bst {q : Bay} {s : State} {x_s : State} {x_b : Bay} {x_again : Bool} (h_x_s : Bst q s x_s) : Bst q s (State.loftError x_s x_b x_again) := by
  unfold State.loftError
  repeat' first
    | (with_reducible first | assumption | exact Bst.refl _)
    | (intro x_1; refine (fun hx : Bst q s x_1 => ?_) ?_; (clear_value x_1); rotate_left; (unfold x_1))
    | (intro x_1; clear_value x_1)
    | intro _
    | (with_reducible first | apply State.modBay_bst | apply Bst.ite)
    | lift_lets -underBinder
    | split
    | dsimp only
    | (refine Bst.upd ?_)

theorem State.decision_bst {q : Bay} {s : State} {x_s : State} {x_b : Bay} (h_x_s : Bst q s x_s) : Bst q s (State.decision x_s x_b).1 := by
  unfold State.decision
  repeat' first
    | (with_reducible first | assumption | exact Bst.refl _)
    | (show _ ≠ _; first | decide | omega | (simp only [keyB, keyC, keyCap, keySite, keyPc, keyA, keyG, keyBench, keyNode, keyEng, keyDma, keyLane, keyLink, keyStream, keyStack, keyPort, keyTpg, key, RBay.BAY_STATE, ne_eq, RBay.CURRENT_ENTRY, RBay.CURRENT_PASS, RBay.DEFERRED_ENTRY, RBay.DEFERRED_PASS, RBay.SEQ_FLAGS]; omega) | (simp only [keyB, keyC, keyCap, keySite, keyPc, keyA, keyG, keyBench, keyNode, keyEng, keyDma, keyLane, keyLink, keyStream, keyStack, keyPort, keyTpg, key, RBay.BAY_STATE, ne_eq, RBay.CURRENT_ENTRY, RBay.CURRENT_PASS, RBay.DEFERRED_ENTRY, RBay.DEFERRED_PASS, RBay.SEQ_FLAGS, List.mem_range, List.mem_cons, List.not_mem_nil, or_false] at *; omega) | (split <;> first | decide | (simp only [keyB, keyC, keyCap, keySite, keyPc, keyA, keyG, keyBench, keyNode, keyEng, keyDma, keyLane, keyLink, keyStream, keyStack, keyPort, keyTpg, key, RBay.BAY_STATE, ne_eq, RBay.CURRENT_ENTRY, RBay.CURRENT_PASS, RBay.DEFERRED_ENTRY, RBay.DEFERRED_PASS, RBay.SEQ_FLAGS]; omega)))
    | (intro x_1; refine (fun hx : Bst q s x_1 => ?_) ?_; (clear_value x_1); rotate_left; (unfold x_1))
    | (intro x_1; clear_value x_1)
    | intro _
    | (with_reducible first | apply State.modBay_bst | apply State.setB_bst | apply State.flagB_bst | apply State.occur_bst | exact BstO.none | apply BstO.some | apply BstO.ite | apply Bst.ite | apply Bst.ite1)
    | lift_lets -underBinder
    | split
    | dsimp only
    | (refine Bst.upd ?_)

theorem State.decide__bst {q : Bay} {s : State} {x_s : State} {x_b : Bay} (h_x_s : Bst q s x_s) : Bst q s (State.decide_ x_s x_b) := by
  unfold State.decide_
  repeat' first
    | (with_reducible first | assumption | exact Bst.refl _)
    | (intro x_1; refine (fun hx : Bst q s x_1 => ?_) ?_; (clear_value x_1); rotate_left; (unfold x_1))
    | (intro x_1; refine (fun hx : Bst q s x_1.1 => ?_) ?_; (clear_value x_1); rotate_left; (unfold x_1))
    | (intro x_1; clear_value x_1)
    | intro _
    | (with_reducible first | apply State.decision_bst | refine State.decision_bst_eq ?_ (by assumption) | apply State.modBay_bst | apply State.redirect_bst | exact BstO.none | apply BstO.some | apply BstO.ite | apply Bst.ite | apply Bst.ite1)
    | lift_lets -underBinder
    | split
    | dsimp only
    | (refine Bst.upd ?_)

theorem State.newPass_bst {q : Bay} {s : State} {x_s : State} {x_b : Bay} {x_pass : Nat} (h_x_s : Bst q s x_s) : Bst q s (State.newPass x_s x_b x_pass) := by
  unfold State.newPass
  repeat' first
    | (with_reducible first | assumption | exact Bst.refl _)
    | (show _ ≠ _; first | decide | omega | (simp only [keyB, keyC, keyCap, keySite, keyPc, keyA, keyG, keyBench, keyNode, keyEng, keyDma, keyLane, keyLink, keyStream, keyStack, keyPort, keyTpg, key, RBay.BAY_STATE, ne_eq, RBay.CURRENT_GRANULE, RBay.CURRENT_PASS]; omega) | (simp only [keyB, keyC, keyCap, keySite, keyPc, keyA, keyG, keyBench, keyNode, keyEng, keyDma, keyLane, keyLink, keyStream, keyStack, keyPort, keyTpg, key, RBay.BAY_STATE, ne_eq, RBay.CURRENT_GRANULE, RBay.CURRENT_PASS, List.mem_range, List.mem_cons, List.not_mem_nil, or_false] at *; omega) | (split <;> first | decide | (simp only [keyB, keyC, keyCap, keySite, keyPc, keyA, keyG, keyBench, keyNode, keyEng, keyDma, keyLane, keyLink, keyStream, keyStack, keyPort, keyTpg, key, RBay.BAY_STATE, ne_eq, RBay.CURRENT_GRANULE, RBay.CURRENT_PASS]; omega)))
    | intro _
    | (with_reducible first | apply State.modBay_bst | apply State.setB_bst)
    | (refine Bst.upd ?_)

theorem State.arrive_bst {q : Bay} {s : State} {x_s : State} {x_b : Bay} {x_n : Nat} {x_lvlBefore : Nat} (h_x_s : Bst q s x_s) : Bst q s (State.arrive x_s x_b x_n x_lvlBefore) := by
  unfold State.arrive
  repeat' first
    | (with_reducible first | assumption | exact Bst.refl _)
    | (show _ ≠ _; first | decide | omega | (simp only [keyB, keyC, keyCap, keySite, keyPc, keyA, keyG, keyBench, keyNode, keyEng, keyDma, keyLane, keyLink, keyStream, keyStack, keyPort, keyTpg, key, RBay.BAY_STATE, ne_eq, RBay.CURRENT_ENTRY, RBay.CURRENT_TAG, RBay.CUSTOM_ENTRY]; omega) | (simp only [keyB, keyC, keyCap, keySite, keyPc, keyA, keyG, keyBench, keyNode, keyEng, keyDma, keyLane, keyLink, keyStream, keyStack, keyPort, keyTpg, key, RBay.BAY_STATE, ne_eq, RBay.CURRENT_ENTRY, RBay.CURRENT_TAG, RBay.CUSTOM_ENTRY, List.mem_range, List.mem_cons, List.not_mem_nil, or_false] at *; omega) | (split <;> first | decide | (simp only [keyB, keyC, keyCap, keySite, keyPc, keyA, keyG, keyBench, keyNode, keyEng, keyDma, keyLane, keyLink, keyStream, keyStack, keyPort, keyTpg, key, RBay.BAY_STATE, ne_eq, RBay.CURRENT_ENTRY, RBay.CURRENT_TAG, RBay.CUSTOM_ENTRY]; omega)))
    | (intro x_1; refine (fun hx : Bst q s x_1 => ?_) ?_; (clear_value x_1); rotate_left; (unfold x_1))
    | (intro x_1; clear_value x_1)
    | intro _
    | (with_reducible first | apply State.seqError_bst | apply State.setB_bst | apply State.load_bst | apply State.selectLevels_bst | apply State.newPass_bst | apply State.modBay_bst | apply Bst.ite)
    | lift_lets -underBinder
    | split
    | dsimp only
    | (refine Bst.upd ?_)

theorem State.shingleBoundary_bst {q : Bay} {s : State} {x_s : State} {x_b : Bay} (h_x_s : Bst q s x_s) : Bst q s (State.shingleBoundary x_s x_b) := by
  unfold State.shingleBoundary
  repeat' first
    | (with_reducible first | assumption | exact Bst.refl _)
    | (show _ ≠ _; first | decide | omega | (simp only [keyB, keyC, keyCap, keySite, keyPc, keyA, keyG, keyBench, keyNode, keyEng, keyDma, keyLane, keyLink, keyStream, keyStack, keyPort, keyTpg, key, RBay.BAY_STATE, ne_eq, RBay.CURRENT_PASS, RBay.RETURN_ENTRY]; omega) | (simp only [keyB, keyC, keyCap, keySite, keyPc, keyA, keyG, keyBench, keyNode, keyEng, keyDma, keyLane, keyLink, keyStream, keyStack, keyPort, keyTpg, key, RBay.BAY_STATE, ne_eq, RBay.CURRENT_PASS, RBay.RETURN_ENTRY, List.mem_range, List.mem_cons, List.not_mem_nil, or_false] at *; omega) | (split <;> first | decide | (simp only [keyB, keyC, keyCap, keySite, keyPc, keyA, keyG, keyBench, keyNode, keyEng, keyDma, keyLane, keyLink, keyStream, keyStack, keyPort, keyTpg, key, RBay.BAY_STATE, ne_eq, RBay.CURRENT_PASS, RBay.RETURN_ENTRY]; omega)))
    | (intro x_1; refine (fun hx : Bst q s x_1 => ?_) ?_; (clear_value x_1); rotate_left; (unfold x_1))
    | (intro x_1; clear_value x_1)
    | intro _
    | (with_reducible first | apply State.newPass_bst | apply State.arrive_bst | apply State.setB_bst | apply State.seqError_bst | apply State.endPattern_bst | exact BstO.none | apply BstO.some | apply BstO.ite | apply Bst.ite)
    | lift_lets -underBinder
    | split
    | (refine Bst.upd ?_)

theorem execShingleEntryWrite_bst {q : Bay} {s : State} {x_b : Bay} {x_epoch : BitVec 16} {x_entry : BitVec 256} {x_s : State} (h_x_s : Bst q s x_s) : BstN q s (execShingleEntryWrite x_b x_epoch x_entry x_s) := by
  unfold execShingleEntryWrite
  repeat' first
    | (with_reducible first | assumption | exact Bst.refl _)
    | intro _
    | (with_reducible first | apply State.hostBayFirm_bst | apply State.entryWrite_bst | apply BstN.next | apply BstN.ite)

theorem execTableBlockWrite_bst {q : Bay} {s : State} {x_b : Bay} {x_epoch : BitVec 16} {x_data : Bytes} {x_s : State} (h_x_s : Bst q s x_s) : BstN q s (execTableBlockWrite x_b x_epoch x_data x_s) := by
  unfold execTableBlockWrite
  repeat' first
    | (with_reducible first | assumption | exact Bst.refl _)
    | intro _
    | (with_reducible first | apply State.hostBayFirm_bst | apply State.tableWrite_bst | apply BstN.next | apply BstN.ite)

theorem execJumpRequest_bst {q : Bay} {s : State} {x_b : Bay} {x_epoch : BitVec 16} {x_target : BitVec 16} {x_s : State} (h_x_s : Bst q s x_s) : BstN q s (execJumpRequest x_b x_epoch x_target x_s) := by
  unfold execJumpRequest
  repeat' first
    | (with_reducible first | assumption | exact Bst.refl _)
    | intro _
    | (with_reducible first | apply State.hostBay_bst | apply State.jumpRequest_bst | apply BstN.next | apply BstN.ite)

theorem execCondJump_bst {q : Bay} {s : State} {x_b : Bay} {x_s : State} (h_x_s : Bst q s x_s) : BstN q s (execCondJump x_b x_s) := by
  unfold execCondJump
  repeat' first
    | (with_reducible first | assumption | exact Bst.refl _)
    | (intro x_1; refine (fun hx : Bst q s x_1 => ?_) ?_; (clear_value x_1); rotate_left; (unfold x_1))
    | (intro x_1; clear_value x_1)
    | intro _
    | (with_reducible first | apply State.postJump_bst | apply BstN.next | apply BstN.ite | apply Bst.ite)
    | lift_lets -underBinder

theorem execDecisionBoundary_bst {q : Bay} {s : State} {x_b : Bay} {x_s : State} (h_x_s : Bst q s x_s) : BstN q s (execDecisionBoundary x_b x_s) := by
  unfold execDecisionBoundary
  repeat' first
    | (with_reducible first | assumption | exact Bst.refl _ | apply State.decide__bst | apply BstN.next | apply BstN.ite | apply Bst.ite)

theorem execShingleBoundary_bst {q : Bay} {s : State} {x_b : Bay} {x_s : State} (h_x_s : Bst q s x_s) : BstN q s (execShingleBoundary x_b x_s) := by
  unfold execShingleBoundary
  repeat' first
    | (with_reducible first | assumption | exact Bst.refl _ | apply State.shingleBoundary_bst | apply BstN.next | apply BstN.ite | apply Bst.ite)

theorem execLoftFill_bst {q : Bay} {s : State} {x_b : Bay} {x_bad : Bool} {x_badAgain : Bool} {x_s : State} (h_x_s : Bst q s x_s) : BstN q s (execLoftFill x_b x_bad x_badAgain x_s) := by
  unfold execLoftFill
  repeat' first
    | (with_reducible first | assumption | exact Bst.refl _)
    | (with_reducible first | apply State.loftFill_bst | apply State.takeSlots_bst | apply BstN.next | apply BstN.ite | apply Bst.ite)
    | split

theorem execUnderrunEnd_bst {q : Bay} {s : State} {x_b : Bay} {x_s : State} (h_x_s : Bst q s x_s) : BstN q s (execUnderrunEnd x_b x_s) := by
  unfold execUnderrunEnd
  repeat' first
    | (with_reducible first | assumption | exact Bst.refl _ | apply State.endUnderrun_bst | apply BstN.next | apply BstN.ite | apply Bst.ite)
    | split
    | (refine Bst.upd ?_)

theorem execUnderrunLogClear_bst {q : Bay} {s : State} {x_b : Bay} {x_epoch : BitVec 16} {x_s : State} (h_x_s : Bst q s x_s) : BstN q s (execUnderrunLogClear x_b x_epoch x_s) := by
  unfold execUnderrunLogClear
  repeat' first
    | (with_reducible first | assumption | exact Bst.refl _)
    | intro _
    | (with_reducible first | apply State.hostBay_bst | apply State.ok_bst | apply State.modBay_bst | apply BstN.next | apply BstN.ite)
    | (refine Bst.upd ?_)

end Sys2Proof.Machine
end

