-- ==== Sys2Proof/Laws/BstMicrocode.lean ====
section
/-! SUPPORT. What the operations of Machine/Microcode.lean keep. -/

set_option linter.all false

namespace Sys2Proof.Machine

theorem State.once_bst {q : Bay} {s : State} {x_s : State} {x_b : Bay} {x_bit : Nat} (x_k : State → State) (h_x_s : Bst q s x_s) (h_x_k : ∀ (v0 : State), Bst q s v0 → Bst q s (x_k v0)) : Bst q s (State.once x_s x_b x_bit x_k) := by
  unfold State.once
  repeat' first
    | (with_reducible first | assumption | exact Bst.refl _)
    | intro _
    | (with_reducible first | apply h_x_k | apply State.modBay_bst | apply Bst.ite)
    | split
    | (refine Bst.upd ?_)

theorem State.goTo_bst {q : Bay} {s : State} {x_s : State} {x_b : Bay} {x_addr : Nat} (h_x_s : Bst q s x_s) : Bst q s (State.goTo x_s x_b x_addr) := by
  unfold State.goTo
  repeat' first
    | (with_reducible first | assumption | exact Bst.refl _)
    | (show _ ≠ _; first | decide | omega | (simp only [keyB, keyC, keyCap, keySite, keyPc, keyA, keyG, keyBench, keyNode, keyEng, keyDma, keyLane, keyLink, keyStream, keyStack, keyPort, keyTpg, key, RBay.BAY_STATE, ne_eq, RBay.UPC]; omega) | (simp only [keyB, keyC, keyCap, keySite, keyPc, keyA, keyG, keyBench, keyNode, keyEng, keyDma, keyLane, keyLink, keyStream, keyStack, keyPort, keyTpg, key, RBay.BAY_STATE, ne_eq, RBay.UPC, List.mem_range, List.mem_cons, List.not_mem_nil, or_false] at *; omega) | (split <;> first | decide | (simp only [keyB, keyC, keyCap, keySite, keyPc, keyA, keyG, keyBench, keyNode, keyEng, keyDma, keyLane, keyLink, keyStream, keyStack, keyPort, keyTpg, key, RBay.BAY_STATE, ne_eq, RBay.UPC]; omega)))
    | intro _
    | (with_reducible first | apply State.modBay_bst | apply State.setB_bst)
    | (refine Bst.upd ?_)

theorem State.fetched_bst {q : Bay} {s : State} {x_s : State} {x_b : Bay} {x_ecc : Ecc} (h_x_s : Bst q s x_s) : Bst q s (State.fetched x_s x_b x_ecc) := by
  unfold State.fetched
  repeat' first
    | (with_reducible first | assumption | exact Bst.refl _)
    | (show _ ≠ _; first | decide | omega | (simp only [keyB, keyC, keyCap, keySite, keyPc, keyA, keyG, keyBench, keyNode, keyEng, keyDma, keyLane, keyLink, keyStream, keyStack, keyPort, keyTpg, key, RBay.BAY_STATE, ne_eq, RBay.CS_CORRECTED, RBay.CS_ERROR_ADDR, RBay.MICRO_FLAGS, RBay.UPC]; omega) | (simp only [keyB, keyC, keyCap, keySite, keyPc, keyA, keyG, keyBench, keyNode, keyEng, keyDma, keyLane, keyLink, keyStream, keyStack, keyPort, keyTpg, key, RBay.BAY_STATE, ne_eq, RBay.CS_CORRECTED, RBay.CS_ERROR_ADDR, RBay.MICRO_FLAGS, RBay.UPC, List.mem_range, List.mem_cons, List.not_mem_nil, or_false] at *; omega) | (split <;> first | decide | (simp only [keyB, keyC, keyCap, keySite, keyPc, keyA, keyG, keyBench, keyNode, keyEng, keyDma, keyLane, keyLink, keyStream, keyStack, keyPort, keyTpg, key, RBay.BAY_STATE, ne_eq, RBay.CS_CORRECTED, RBay.CS_ERROR_ADDR, RBay.MICRO_FLAGS, RBay.UPC]; omega)))
    | (intro x_1; refine (fun hx : Bst q s x_1 => ?_) ?_; (clear_value x_1); rotate_left; (unfold x_1))
    | (intro x_1; clear_value x_1)
    | intro _
    | (with_reducible first | apply State.modBay_bst | apply State.seqError_bst | apply State.fault_bst | apply State.setB_bst | apply State.incB_bst | apply State.flagB_bst | apply Bst.ite)
    | lift_lets -underBinder
    | split
    | dsimp only
    | (refine Bst.upd ?_)

theorem State.passTo_bst {q : Bay} {s : State} {x_s : State} {x_b : Bay} {x_ecc : Ecc} {x_addr : Nat} (h_x_s : Bst q s x_s) : Bst q s (State.passTo x_s x_b x_ecc x_addr) := by
  unfold State.passTo
  repeat' first
    | (with_reducible first | assumption | exact Bst.refl _ | apply State.fetched_bst | apply State.goTo_bst)

theorem State.toNext_bst {q : Bay} {s : State} {x_s : State} {x_b : Bay} (x_k : Nat → State) (h_x_s : Bst q s x_s) (h_x_k : ∀ (v0 : Nat), Bst q s (x_k v0)) : Bst q s (State.toNext x_s x_b x_k) := by
  unfold State.toNext
  repeat' first
    | (with_reducible first | assumption | exact Bst.refl _)
    | (intro x_1; refine (fun hx : Bst q s x_1 => ?_) ?_; (clear_value x_1); rotate_left; (unfold x_1))
    | (intro x_1; clear_value x_1)
    | intro _
    | (with_reducible first | apply h_x_k | apply State.seqError_bst | apply Bst.ite)
    | lift_lets -underBinder

theorem State.decided_bst {q : Bay} {s : State} {x_s : State} {x_b : Bay} {x_ecc : Ecc} {x_addr : Nat} (h_x_s : Bst q s x_s) : Bst q s (State.decided x_s x_b x_ecc x_addr) := by
  unfold State.decided
  repeat' first
    | (with_reducible first | assumption | exact Bst.refl _)
    | intro _
    | (with_reducible first | apply State.passTo_bst | apply State.modBay_bst | exact BstO.none | apply BstO.some | apply BstO.ite | apply Bst.ite)
    | (refine Bst.upd ?_)

theorem State.afterExtra_bst {q : Bay} {s : State} {x_s : State} {x_b : Bay} (h_x_s : Bst q s x_s) : Bst q s (State.afterExtra x_s x_b) := by
  unfold State.afterExtra
  repeat' first
    | (with_reducible first | assumption | exact Bst.refl _ | apply State.passTo_bst | exact BstO.none | apply BstO.some | apply BstO.ite | apply Bst.ite)
    | split
    | (refine Bst.upd ?_)

theorem State.passExtra_bst {q : Bay} {s : State} {x_s : State} {x_b : Bay} {x_p : Bool} (h_x_s : Bst q s x_s) : Bst q s (State.passExtra x_s x_b x_p) := by
  unfold State.passExtra; split
  · exact h_x_s
  · exact State.afterExtra_bst h_x_s

theorem State.push_bst {q : Bay} {s : State} {x_s : State} {x_b : Bay} (x_k : State → State) (h_x_s : Bst q s x_s) (h_x_k : ∀ (v0 : State), Bst q s v0 → Bst q s (x_k v0)) : Bst q s (State.push x_s x_b x_k) := by
  unfold State.push
  repeat' first
    | (with_reducible first | assumption | exact Bst.refl _)
    | intro _
    | (with_reducible first | apply h_x_k | apply State.seqError_bst | apply State.toNext_bst | apply State.modBay_bst | apply Bst.ite)
    | (refine Bst.upd ?_)

theorem State.popTo_bst {q : Bay} {s : State} {x_s : State} {x_b : Bay} {x_ecc : Ecc} (h_x_s : Bst q s x_s) : Bst q s (State.popTo x_s x_b x_ecc) := by
  unfold State.popTo
  repeat' first
    | (with_reducible first | assumption | exact Bst.refl _)
    | intro _
    | (with_reducible first | apply State.seqError_bst | apply State.passTo_bst | apply State.modBay_bst)
    | split
    | (refine Bst.upd ?_)

theorem State.branch_bst {q : Bay} {s : State} {x_s : State} {x_b : Bay} (x_k : Bool → State → State) (h_x_s : Bst q s x_s) (h_x_k : ∀ (v0 : Bool) (v1 : State), Bst q s v1 → Bst q s (x_k v0 v1)) : Bst q s (State.branch x_s x_b x_k) := by
  unfold State.branch
  repeat' first
    | (with_reducible first | assumption | exact Bst.refl _)
    | (intro x_1; refine (fun hx : Bst q s x_1 => ?_) ?_; (clear_value x_1); rotate_left; (unfold x_1))
    | (intro x_1; clear_value x_1)
    | intro _
    | (with_reducible first | apply h_x_k | apply State.clearLatch_bst)
    | lift_lets -underBinder
    | dsimp only

theorem State.dispatch_bst {q : Bay} {s : State} {x_s : State} {x_b : Bay} {x_ecc : Ecc} (h_x_s : Bst q s x_s) : Bst q s (State.dispatch x_s x_b x_ecc) := by
  unfold State.dispatch
  repeat' first
    | (with_reducible first | assumption | exact Bst.refl _)
    | (intro x_1; refine (fun hx : Bst q s x_1 => ?_) ?_; (clear_value x_1); rotate_left; (unfold x_1))
    | (intro x_1; clear_value x_1)
    | intro _
    | (with_reducible first | apply State.passTo_bst | apply State.modBay_bst)
    | lift_lets -underBinder
    | (refine Bst.upd ?_)

theorem State.toVendor_bst {q : Bay} {s : State} {x_s : State} {x_b : Bay} (h_x_s : Bst q s x_s) : Bst q s (State.toVendor x_s x_b) := by
  unfold State.toVendor
  repeat' first
    | (with_reducible first | assumption | exact Bst.refl _ | apply State.goTo_bst | apply State.free_bst | apply Bst.ite2)
    | dsimp only

theorem State.exit_bst {q : Bay} {s : State} {x_s : State} {x_b : Bay} {x_ecc : Ecc} (h_x_s : Bst q s x_s) : Bst q s (State.exit x_s x_b x_ecc) := by
  unfold State.exit
  repeat' first
    | (with_reducible first | assumption | exact Bst.refl _)
    | intro _
    | (with_reducible first | apply State.fetched_bst | apply State.toVendor_bst | apply State.modBay_bst | apply State.seqError_bst | apply Bst.ite)
    | split
    | (refine Bst.upd ?_)

theorem State.beginCycle_bst {q : Bay} {s : State} {x_s : State} {x_b : Bay} (h_x_s : Bst q s x_s) : Bst q s (State.beginCycle x_s x_b) := by
  unfold State.beginCycle
  repeat' first
    | (with_reducible first | assumption | exact Bst.refl _)
    | intro _
    | (with_reducible first | apply State.modBay_bst | apply Bst.ite)
    | split
    | (refine Bst.upd ?_)

theorem State.waitCount_bst {q : Bay} {s : State} {x_s : State} {x_b : Bay} (h_x_s : Bst q s x_s) : Bst q s (State.waitCount x_s x_b) := by
  unfold State.waitCount
  dsimp only
  have h : uwWto (x_s.word x_b) < 4 := by unfold uwWto fieldOf; exact Nat.mod_lt _ (by decide)
  split
  · exact State.setB_bst h_x_s (by simp only [RBay.CNT_VALUE]; omega)
  · exact h_x_s

theorem State.endCycle_bst {q : Bay} {s : State} {x_s : State} {x_b : Bay} (h_x_s : Bst q s x_s) : Bst q s (State.endCycle x_s x_b) := by
  unfold State.endCycle
  repeat' first
    | (with_reducible first | assumption | exact Bst.refl _)
    | (intro x_1; refine (fun hx : Bst q s x_1 => ?_) ?_; (clear_value x_1); rotate_left; (unfold x_1))
    | (intro x_1; clear_value x_1)
    | intro _
    | (with_reducible first | apply State.driveSite_bst | apply State.registerDue_bst | apply State.waitCount_bst | apply State.modBay_bst | apply Bst.ite)
    | lift_lets -underBinder
    | split
    | dsimp only
    | (refine Bst.upd ?_)

theorem State.issueRow_bst {q : Bay} {s : State} {x_s : State} {x_b : Bay} (h_x_s : Bst q s x_s) : Bst q s (State.issueRow x_s x_b) := by
  unfold State.issueRow
  repeat' first
    | (with_reducible first | assumption | exact Bst.refl _)
    | (show _ ≠ _; first | decide | omega | (simp only [keyB, keyC, keyCap, keySite, keyPc, keyA, keyG, keyBench, keyNode, keyEng, keyDma, keyLane, keyLink, keyStream, keyStack, keyPort, keyTpg, key, RBay.BAY_STATE, ne_eq, RBay.VECTORS_ISSUED]; omega) | (simp only [keyB, keyC, keyCap, keySite, keyPc, keyA, keyG, keyBench, keyNode, keyEng, keyDma, keyLane, keyLink, keyStream, keyStack, keyPort, keyTpg, key, RBay.BAY_STATE, ne_eq, RBay.VECTORS_ISSUED, List.mem_range, List.mem_cons, List.not_mem_nil, or_false] at *; omega) | (split <;> first | decide | (simp only [keyB, keyC, keyCap, keySite, keyPc, keyA, keyG, keyBench, keyNode, keyEng, keyDma, keyLane, keyLink, keyStream, keyStack, keyPort, keyTpg, key, RBay.BAY_STATE, ne_eq, RBay.VECTORS_ISSUED]; omega)))
    | (intro x_1; refine (fun hx : Bst q s x_1 => ?_) ?_; (clear_value x_1); rotate_left; (unfold x_1))
    | (intro x_1; clear_value x_1)
    | intro _
    | (with_reducible first | apply State.occur_bst | apply State.issueVec_bst | apply State.setB_bst | apply State.modBay_bst | exact BstO.none | apply BstO.some | apply BstO.ite | apply Bst.ite)
    | lift_lets -underBinder
    | (refine Bst.upd ?_)

theorem State.issuePad_bst {q : Bay} {s : State} {x_s : State} {x_b : Bay} (h_x_s : Bst q s x_s) : Bst q s (State.issuePad x_s x_b) := by
  unfold State.issuePad
  repeat' first
    | (with_reducible first | assumption | exact Bst.refl _)
    | (intro x_1; refine (fun hx : Bst q s x_1 => ?_) ?_; (clear_value x_1); rotate_left; (unfold x_1))
    | (intro x_1; clear_value x_1)
    | intro _
    | (with_reducible first | apply State.issueVec_bst | apply State.modBay_bst | apply Bst.ite)
    | lift_lets -underBinder
    | (refine Bst.upd ?_)

theorem State.issueSlots_bst {q : Bay} {s : State} {x_b : Bay} (x_slot : State → Option State) {x_a2 : Nat} {x_a3 : State} (h_x_slot : ∀ (v0 : State), Bst q s v0 → BstO q s (x_slot v0)) (h_x_a3 : Bst q s x_a3) : Bst q s (State.issueSlots x_b x_slot x_a2 x_a3) := by
  induction x_a2 generalizing x_b x_slot x_a3 with
  | zero =>
    unfold State.issueSlots
    repeat' first
      | (with_reducible first | assumption | exact Bst.refl _ | apply h_x_slot | refine (h_x_slot _ ?_).out (by assumption) | exact BstO.none | apply BstO.some | apply BstO.ite | apply Bst.ite)
      | split
      | (refine Bst.upd ?_)
      | (dsimp only)
  | succ k ih =>
    unfold State.issueSlots
    repeat' first
      | with_reducible apply ih
      | (with_reducible first | assumption | exact Bst.refl _ | apply h_x_slot | refine (h_x_slot _ ?_).out (by assumption) | exact BstO.none | apply BstO.some | apply BstO.ite | apply Bst.ite)
      | split
      | (refine Bst.upd ?_)
      | (dsimp only)

theorem State.cycle_bst {q : Bay} {s : State} {x_s : State} {x_b : Bay} (x_slot : State → Option State) (h_x_s : Bst q s x_s) (h_x_slot : ∀ (v0 : State), Bst q s v0 → BstO q s (x_slot v0)) : Bst q s (State.cycle x_s x_b x_slot) := by
  unfold State.cycle
  repeat' first
    | (with_reducible first | assumption | exact Bst.refl _ | apply h_x_slot | refine (h_x_slot _ ?_).out (by assumption) | apply State.passExtra_bst | apply State.endCycle_bst | apply State.issueSlots_bst | apply State.beginCycle_bst)

theorem State.emitSlot_bst {q : Bay} {s : State} {x_s : State} {x_b : Bay} (h_x_s : Bst q s x_s) : BstO q s (State.emitSlot x_s x_b) := by
  unfold State.emitSlot
  repeat' first
    | (with_reducible first | assumption | exact Bst.refl _)
    | (intro x_1; refine (fun hx : Bst q s x_1 => ?_) ?_; (clear_value x_1); rotate_left; (unfold x_1))
    | (intro x_1; clear_value x_1)
    | intro _
    | (with_reducible first | apply State.issueVec_bst | apply State.seqError_bst | apply State.issueRow_bst | exact BstO.none | apply BstO.some | apply BstO.ite | apply Bst.ite)
    | lift_lets -underBinder
    | split
    | dsimp only

theorem State.padSlot_bst {q : Bay} {s : State} {x_s : State} {x_b : Bay} (h_x_s : Bst q s x_s) : BstO q s (State.padSlot x_s x_b) := by
  unfold State.padSlot
  repeat' first
    | (with_reducible first | assumption | exact Bst.refl _ | apply State.issuePad_bst | exact BstO.none | apply BstO.some | apply BstO.ite | apply Bst.ite)

theorem State.setCnt_bst {q : Bay} {s : State} {x_s : State} {x_b : Bay} {x_n : Fin 4} {x_v : Nat} (h_x_s : Bst q s x_s) : Bst q s (State.setCnt x_s x_b x_n x_v) := by
  unfold State.setCnt
  repeat' first
    | (with_reducible first | assumption | exact Bst.refl _)
    | (show _ ≠ _; first | decide | omega | (simp only [keyB, keyC, keyCap, keySite, keyPc, keyA, keyG, keyBench, keyNode, keyEng, keyDma, keyLane, keyLink, keyStream, keyStack, keyPort, keyTpg, key, RBay.BAY_STATE, ne_eq, RBay.CNT_VALUE]; omega) | (simp only [keyB, keyC, keyCap, keySite, keyPc, keyA, keyG, keyBench, keyNode, keyEng, keyDma, keyLane, keyLink, keyStream, keyStack, keyPort, keyTpg, key, RBay.BAY_STATE, ne_eq, RBay.CNT_VALUE, List.mem_range, List.mem_cons, List.not_mem_nil, or_false] at *; omega) | (split <;> first | decide | (simp only [keyB, keyC, keyCap, keySite, keyPc, keyA, keyG, keyBench, keyNode, keyEng, keyDma, keyLane, keyLink, keyStream, keyStack, keyPort, keyTpg, key, RBay.BAY_STATE, ne_eq, RBay.CNT_VALUE]; omega)))
    | with_reducible apply State.setB_bst

theorem State.cntCycle_bst {q : Bay} {s : State} {x_s : State} {x_b : Bay} {x_n : Fin 4} {x_op : Nat} {x_v : Nat} (h_x_s : Bst q s x_s) : Bst q s (State.cntCycle x_s x_b x_n x_op x_v) := by
  unfold State.cntCycle
  repeat' first
    | (with_reducible first | assumption | exact Bst.refl _)
    | intro _
    | (with_reducible first | apply State.setCnt_bst | apply State.modBay_bst | apply Bst.ite)
    | split
    | (refine Bst.upd ?_)

theorem State.cntOnce_bst {q : Bay} {s : State} {x_s : State} {x_b : Bay} {x_n : Fin 4} {x_op : Nat} {x_p : Nat → Bool} {x_v : Nat} (h_x_s : Bst q s x_s) : Bst q s (State.cntOnce x_s x_b x_n x_op x_p x_v) := by
  unfold State.cntOnce
  repeat' first
    | (with_reducible first | assumption | exact Bst.refl _)
    | intro _
    | (with_reducible first | apply State.once_bst | apply State.setCnt_bst | apply Bst.ite)

theorem State.shgJump_bst {q : Bay} {s : State} {x_s : State} {x_b : Bay} (h_x_s : Bst q s x_s) : Bst q s (State.shgJump x_s x_b) := by
  unfold State.shgJump
  repeat' first
    | (with_reducible first | assumption | exact Bst.refl _)
    | (show _ ≠ _; first | decide | omega | (simp only [keyB, keyC, keyCap, keySite, keyPc, keyA, keyG, keyBench, keyNode, keyEng, keyDma, keyLane, keyLink, keyStream, keyStack, keyPort, keyTpg, key, RBay.BAY_STATE, ne_eq, RBay.MICRO_FLAGS]; omega) | (simp only [keyB, keyC, keyCap, keySite, keyPc, keyA, keyG, keyBench, keyNode, keyEng, keyDma, keyLane, keyLink, keyStream, keyStack, keyPort, keyTpg, key, RBay.BAY_STATE, ne_eq, RBay.MICRO_FLAGS, List.mem_range, List.mem_cons, List.not_mem_nil, or_false] at *; omega) | (split <;> first | decide | (simp only [keyB, keyC, keyCap, keySite, keyPc, keyA, keyG, keyBench, keyNode, keyEng, keyDma, keyLane, keyLink, keyStream, keyStack, keyPort, keyTpg, key, RBay.BAY_STATE, ne_eq, RBay.MICRO_FLAGS]; omega)))
    | (intro x_1; refine (fun hx : Bst q s x_1 => ?_) ?_; (clear_value x_1); rotate_left; (unfold x_1))
    | (intro x_1; clear_value x_1)
    | intro _
    | (with_reducible first | apply State.postJump_bst | apply State.dropJumps_bst | apply State.flagB_bst | apply Bst.ite)
    | lift_lets -underBinder

theorem State.rewind_bst {q : Bay} {s : State} {x_s : State} {x_b : Bay} (h_x_s : Bst q s x_s) : Bst q s (State.rewind x_s x_b) := by
  unfold State.rewind
  repeat' first
    | (with_reducible first | assumption | exact Bst.refl _)
    | intro _
    | (with_reducible first | apply State.seqError_bst | apply State.modBay_bst | apply Bst.ite)
    | (refine Bst.upd ?_)

theorem State.retireSoon_bst {q : Bay} {s : State} {x_s : State} {x_b : Bay} {x_mask : Nat} (h_x_s : Bst q s x_s) : Bst q s (State.retireSoon x_s x_b x_mask) := by
  unfold State.retireSoon
  repeat' first
    | (with_reducible first | assumption | exact Bst.refl _)
    | intro _
    | (with_reducible first | apply State.modBay_bst | apply Bst.ite)
    | split
    | (refine Bst.upd ?_)

theorem State.objWrite_bst {q : Bay} {s : State} {x_s : State} {x_b : Bay} {x_n : Nat} {x_imm : Nat} (h_x_s : Bst q s x_s) : Bst q s (State.objWrite x_s x_b x_n x_imm) := by
  unfold State.objWrite
  repeat' first
    | (with_reducible first | assumption | exact Bst.refl _)
    | (show _ ≠ _; first | decide | omega | (simp only [keyB, keyC, keyCap, keySite, keyPc, keyA, keyG, keyBench, keyNode, keyEng, keyDma, keyLane, keyLink, keyStream, keyStack, keyPort, keyTpg, key, RBay.BAY_STATE, ne_eq, RBay.MICRO_FLAGS, RBay.OBJ_DROP_COUNT, RBay.OBJ_SLOT, RBay.SITE_EPOCH]; omega) | (simp only [keyB, keyC, keyCap, keySite, keyPc, keyA, keyG, keyBench, keyNode, keyEng, keyDma, keyLane, keyLink, keyStream, keyStack, keyPort, keyTpg, key, RBay.BAY_STATE, ne_eq, RBay.MICRO_FLAGS, RBay.OBJ_DROP_COUNT, RBay.OBJ_SLOT, RBay.SITE_EPOCH, List.mem_range, List.mem_cons, List.not_mem_nil, or_false] at *; omega) | (split <;> first | decide | (simp only [keyB, keyC, keyCap, keySite, keyPc, keyA, keyG, keyBench, keyNode, keyEng, keyDma, keyLane, keyLink, keyStream, keyStack, keyPort, keyTpg, key, RBay.BAY_STATE, ne_eq, RBay.MICRO_FLAGS, RBay.OBJ_DROP_COUNT, RBay.OBJ_SLOT, RBay.SITE_EPOCH]; omega)))
    | (intro x_1; refine (fun hx : Bst q s x_1 => ?_) ?_; (clear_value x_1); rotate_left; (unfold x_1))
    | (intro x_1; clear_value x_1)
    | intro _
    | (with_reducible first | apply State.incB_bst | apply State.flagB_bst | apply State.modBay_bst | apply Bst.ite)
    | lift_lets -underBinder
    | (refine Bst.upd ?_)

theorem State.ridgePort_bst {q : Bay} {s : State} {x_s : State} {x_b : Bay} {x_port : Fin 2} {x_op : Nat} (x_k : State → Nat → State) (h_x_s : Bst q s x_s) (h_x_k : ∀ (v0 : State) (v1 : Nat), Bst q s v0 → Bst q s (x_k v0 v1)) : Bst q s (State.ridgePort x_s x_b x_port x_op x_k) := by
  unfold State.ridgePort
  repeat' first
    | (with_reducible first | assumption | exact Bst.refl _)
    | (intro x_1; refine (fun hx : Bst q s x_1 => ?_) ?_; (clear_value x_1); rotate_left; (unfold x_1))
    | (intro x_1; clear_value x_1)
    | intro _
    | (with_reducible first | apply h_x_k | apply State.once_bst | apply Bst.ite)
    | lift_lets -underBinder

theorem State.pickLevels_bst {q : Bay} {s : State} {x_s : State} {x_b : Bay} (h_x_s : Bst q s x_s) : Bst q s (State.pickLevels x_s x_b) := by
  unfold State.pickLevels
  repeat' first
    | (with_reducible first | assumption | exact Bst.refl _)
    | (with_reducible first | apply State.selectLevels_bst)

theorem State.lvlSel_bst {q : Bay} {s : State} {x_s : State} {x_b : Bay} (h_x_s : Bst q s x_s) : Bst q s (State.lvlSel x_s x_b) := by
  unfold State.lvlSel
  repeat' first
    | (with_reducible first | assumption | exact Bst.refl _)
    | intro _
    | (with_reducible first | apply State.once_bst | apply State.pickLevels_bst | apply Bst.ite)
    | split

theorem State.startLoadTimer_bst {q : Bay} {s : State} {x_s : State} {x_b : Bay} (h_x_s : Bst q s x_s) : Bst q s (State.startLoadTimer x_s x_b) := by
  unfold State.startLoadTimer
  repeat' first
    | (with_reducible first | assumption | exact Bst.refl _)
    | (intro x_1; refine (fun hx : Bst q s x_1 => ?_) ?_; (clear_value x_1); rotate_left; (unfold x_1))
    | (intro x_1; clear_value x_1)
    | intro _
    | (with_reducible first | apply State.modBay_bst | exact BstO.none | apply BstO.some | apply BstO.ite | apply Bst.ite)
    | lift_lets -underBinder
    | (refine Bst.upd ?_)

theorem State.writeBank_bst {q : Bay} {s : State} {x_s : State} {x_b : Bay} {x_image : Bytes} {x_n : Nat} (h_x_s : Bst q s x_s) : Bst q s (State.writeBank x_s x_b x_image x_n) := by
  unfold State.writeBank
  repeat' first
    | (with_reducible first | assumption | exact Bst.refl _)
    | (show _ ≠ _; first | decide | omega | (simp only [keyB, keyC, keyCap, keySite, keyPc, keyA, keyG, keyBench, keyNode, keyEng, keyDma, keyLane, keyLink, keyStream, keyStack, keyPort, keyTpg, key, RBay.BAY_STATE, ne_eq]; omega) | (simp only [keyB, keyC, keyCap, keySite, keyPc, keyA, keyG, keyBench, keyNode, keyEng, keyDma, keyLane, keyLink, keyStream, keyStack, keyPort, keyTpg, key, RBay.BAY_STATE, ne_eq, List.mem_range, List.mem_cons, List.not_mem_nil, or_false] at *; omega) | (split <;> first | decide | (simp only [keyB, keyC, keyCap, keySite, keyPc, keyA, keyG, keyBench, keyNode, keyEng, keyDma, keyLane, keyLink, keyStream, keyStack, keyPort, keyTpg, key, RBay.BAY_STATE, ne_eq]; omega)))
    | (intro x_1; refine (fun hx : Bst q s x_1 => ?_) ?_; (clear_value x_1); rotate_left; (unfold x_1))
    | (intro x_1; clear_value x_1)
    | intro _
    | (with_reducible first | apply State.each_bst | apply State.modBay_bst)
    | lift_lets -underBinder
    | dsimp only
    | (refine Bst.upd ?_)

theorem State.detachTypes_bst {q : Bay} {s : State} {x_s : State} {x_b : Bay} (h_x_s : Bst q s x_s) : Bst q s (State.detachTypes x_s x_b) := by
  unfold State.detachTypes
  repeat' first
    | (with_reducible first | assumption | exact Bst.refl _)
    | (show _ ≠ _; first | decide | omega | (simp only [keyB, keyC, keyCap, keySite, keyPc, keyA, keyG, keyBench, keyNode, keyEng, keyDma, keyLane, keyLink, keyStream, keyStack, keyPort, keyTpg, key, RBay.BAY_STATE, ne_eq, RBay.CUSTOM_ENTRY]; omega) | (simp only [keyB, keyC, keyCap, keySite, keyPc, keyA, keyG, keyBench, keyNode, keyEng, keyDma, keyLane, keyLink, keyStream, keyStack, keyPort, keyTpg, key, RBay.BAY_STATE, ne_eq, RBay.CUSTOM_ENTRY, List.mem_range, List.mem_cons, List.not_mem_nil, or_false] at *; omega) | (split <;> first | decide | (simp only [keyB, keyC, keyCap, keySite, keyPc, keyA, keyG, keyBench, keyNode, keyEng, keyDma, keyLane, keyLink, keyStream, keyStack, keyPort, keyTpg, key, RBay.BAY_STATE, ne_eq, RBay.CUSTOM_ENTRY]; omega)))
    | intro _
    | (with_reducible first | apply State.each_bst | apply State.setB_bst)

theorem State.cutLoad_bst {q : Bay} {s : State} {x_s : State} {x_b : Bay} {x_image : Bytes} {x_n : Nat} (h_x_s : Bst q s x_s) : Bst q s (State.cutLoad x_s x_b x_image x_n) := by
  unfold State.cutLoad
  repeat' first
    | (with_reducible first | assumption | exact Bst.refl _)
    | (show _ ≠ _; first | decide | omega | (simp only [keyB, keyC, keyCap, keySite, keyPc, keyA, keyG, keyBench, keyNode, keyEng, keyDma, keyLane, keyLink, keyStream, keyStack, keyPort, keyTpg, key, RBay.BAY_STATE, ne_eq, RBay.LOAD_STATUS]; omega) | (simp only [keyB, keyC, keyCap, keySite, keyPc, keyA, keyG, keyBench, keyNode, keyEng, keyDma, keyLane, keyLink, keyStream, keyStack, keyPort, keyTpg, key, RBay.BAY_STATE, ne_eq, RBay.LOAD_STATUS, List.mem_range, List.mem_cons, List.not_mem_nil, or_false] at *; omega) | (split <;> first | decide | (simp only [keyB, keyC, keyCap, keySite, keyPc, keyA, keyG, keyBench, keyNode, keyEng, keyDma, keyLane, keyLink, keyStream, keyStack, keyPort, keyTpg, key, RBay.BAY_STATE, ne_eq, RBay.LOAD_STATUS]; omega)))
    | (intro x_1; refine (fun hx : Bst q s x_1 => ?_) ?_; (clear_value x_1); rotate_left; (unfold x_1))
    | (intro x_1; clear_value x_1)
    | intro _
    | (with_reducible first | apply State.modBay_bst | apply State.writeBank_bst | apply State.detachTypes_bst | apply State.setB_bst)
    | lift_lets -underBinder
    | (refine Bst.upd ?_)

theorem State.doneLoad_bst {q : Bay} {s : State} {x_s : State} {x_b : Bay} {x_image : Bytes} (h_x_s : Bst q s x_s) : Bst q s (State.doneLoad x_s x_b x_image) := by
  unfold State.doneLoad
  repeat' first
    | (with_reducible first | assumption | exact Bst.refl _)
    | (show _ ≠ _; first | decide | omega | (simp only [keyB, keyC, keyCap, keySite, keyPc, keyA, keyG, keyBench, keyNode, keyEng, keyDma, keyLane, keyLink, keyStream, keyStack, keyPort, keyTpg, key, RBay.BAY_STATE, ne_eq, RBay.BANK_DIGEST, RBay.BANK_VERSION, RBay.CUSTOM_ENTRY, RBay.LOAD_STATUS]; omega) | (simp only [keyB, keyC, keyCap, keySite, keyPc, keyA, keyG, keyBench, keyNode, keyEng, keyDma, keyLane, keyLink, keyStream, keyStack, keyPort, keyTpg, key, RBay.BAY_STATE, ne_eq, RBay.BANK_DIGEST, RBay.BANK_VERSION, RBay.CUSTOM_ENTRY, RBay.LOAD_STATUS, List.mem_range, List.mem_cons, List.not_mem_nil, or_false] at *; omega) | (split <;> first | decide | (simp only [keyB, keyC, keyCap, keySite, keyPc, keyA, keyG, keyBench, keyNode, keyEng, keyDma, keyLane, keyLink, keyStream, keyStack, keyPort, keyTpg, key, RBay.BAY_STATE, ne_eq, RBay.BANK_DIGEST, RBay.BANK_VERSION, RBay.CUSTOM_ENTRY, RBay.LOAD_STATUS]; omega)))
    | (intro x_1; refine (fun hx : Bst q s x_1 => ?_) ?_; (clear_value x_1); rotate_left; (unfold x_1))
    | (intro x_1; clear_value x_1)
    | intro _
    | (with_reducible first | apply State.modBay_bst | apply State.writeBank_bst | apply State.detachTypes_bst | apply State.each_bst | apply State.setB_bst | apply Bst.ite)
    | lift_lets -underBinder
    | (refine Bst.upd ?_)

theorem State.failLoad_bst {q : Bay} {s : State} {x_s : State} {x_b : Bay} {x_status : Nat} {x_detail : Nat} {x_dop : Nat} (h_x_s : Bst q s x_s) : Bst q s (State.failLoad x_s x_b x_status x_detail x_dop) := by
  unfold State.failLoad
  repeat' first
    | (with_reducible first | assumption | exact Bst.refl _)
    | (show _ ≠ _; first | decide | omega | (simp only [keyB, keyC, keyCap, keySite, keyPc, keyA, keyG, keyBench, keyNode, keyEng, keyDma, keyLane, keyLink, keyStream, keyStack, keyPort, keyTpg, key, RBay.BAY_STATE, ne_eq, RBay.LOAD_DETAIL, RBay.LOAD_STATUS]; omega) | (simp only [keyB, keyC, keyCap, keySite, keyPc, keyA, keyG, keyBench, keyNode, keyEng, keyDma, keyLane, keyLink, keyStream, keyStack, keyPort, keyTpg, key, RBay.BAY_STATE, ne_eq, RBay.LOAD_DETAIL, RBay.LOAD_STATUS, List.mem_range, List.mem_cons, List.not_mem_nil, or_false] at *; omega) | (split <;> first | decide | (simp only [keyB, keyC, keyCap, keySite, keyPc, keyA, keyG, keyBench, keyNode, keyEng, keyDma, keyLane, keyLink, keyStream, keyStack, keyPort, keyTpg, key, RBay.BAY_STATE, ne_eq, RBay.LOAD_DETAIL, RBay.LOAD_STATUS]; omega)))
    | intro _
    | (with_reducible first | apply State.answer_bst | apply State.setB_bst | apply State.modBay_bst)
    | (refine Bst.upd ?_)

theorem State.bankImage_bst {q : Bay} {s : State} {x_s : State} {x_b : Bay} {x_image : Bytes} (h_x_s : Bst q s x_s) : Bst q s (State.bankImage x_s x_b x_image) := by
  unfold State.bankImage
  repeat' first
    | (with_reducible first | assumption | exact Bst.refl _)
    | (show _ ≠ _; first | decide | omega | (simp only [keyB, keyC, keyCap, keySite, keyPc, keyA, keyG, keyBench, keyNode, keyEng, keyDma, keyLane, keyLink, keyStream, keyStack, keyPort, keyTpg, key, RBay.BAY_STATE, ne_eq, RBay.LOAD_STATUS]; omega) | (simp only [keyB, keyC, keyCap, keySite, keyPc, keyA, keyG, keyBench, keyNode, keyEng, keyDma, keyLane, keyLink, keyStream, keyStack, keyPort, keyTpg, key, RBay.BAY_STATE, ne_eq, RBay.LOAD_STATUS, List.mem_range, List.mem_cons, List.not_mem_nil, or_false] at *; omega) | (split <;> first | decide | (simp only [keyB, keyC, keyCap, keySite, keyPc, keyA, keyG, keyBench, keyNode, keyEng, keyDma, keyLane, keyLink, keyStream, keyStack, keyPort, keyTpg, key, RBay.BAY_STATE, ne_eq, RBay.LOAD_STATUS]; omega)))
    | intro _
    | (with_reducible first | apply State.answer_bst | apply State.ok_bst | apply State.setB_bst | apply State.modBay_bst | exact BstO.none | apply BstO.some | apply BstO.ite | apply Bst.ite)
    | (refine Bst.upd ?_)

theorem State.verifyEnds_bst {q : Bay} {s : State} {x_s : State} {x_b : Bay} {x_image : Bytes} {x_sigOk : Bool} (h_x_s : Bst q s x_s) : Bst q s (State.verifyEnds x_s x_b x_image x_sigOk) := by
  unfold State.verifyEnds
  repeat' first
    | (with_reducible first | assumption | exact Bst.refl _)
    | (show _ ≠ _; first | decide | omega | (simp only [keyB, keyC, keyCap, keySite, keyPc, keyA, keyG, keyBench, keyNode, keyEng, keyDma, keyLane, keyLink, keyStream, keyStack, keyPort, keyTpg, key, RBay.BAY_STATE, ne_eq, RBay.LOAD_STATUS]; omega) | (simp only [keyB, keyC, keyCap, keySite, keyPc, keyA, keyG, keyBench, keyNode, keyEng, keyDma, keyLane, keyLink, keyStream, keyStack, keyPort, keyTpg, key, RBay.BAY_STATE, ne_eq, RBay.LOAD_STATUS, List.mem_range, List.mem_cons, List.not_mem_nil, or_false] at *; omega) | (split <;> first | decide | (simp only [keyB, keyC, keyCap, keySite, keyPc, keyA, keyG, keyBench, keyNode, keyEng, keyDma, keyLane, keyLink, keyStream, keyStack, keyPort, keyTpg, key, RBay.BAY_STATE, ne_eq, RBay.LOAD_STATUS]; omega)))
    | (with_reducible first | apply State.setB_bst | apply State.failLoad_bst | apply Bst.ite)
    | split

theorem State.checkEnds_bst {q : Bay} {s : State} {x_s : State} {x_b : Bay} {x_image : Bytes} (h_x_s : Bst q s x_s) : Bst q s (State.checkEnds x_s x_b x_image) := by
  unfold State.checkEnds
  repeat' first
    | (with_reducible first | assumption | exact Bst.refl _)
    | (show _ ≠ _; first | decide | omega | (simp only [keyB, keyC, keyCap, keySite, keyPc, keyA, keyG, keyBench, keyNode, keyEng, keyDma, keyLane, keyLink, keyStream, keyStack, keyPort, keyTpg, key, RBay.BAY_STATE, ne_eq, RBay.LOAD_STATUS]; omega) | (simp only [keyB, keyC, keyCap, keySite, keyPc, keyA, keyG, keyBench, keyNode, keyEng, keyDma, keyLane, keyLink, keyStream, keyStack, keyPort, keyTpg, key, RBay.BAY_STATE, ne_eq, RBay.LOAD_STATUS, List.mem_range, List.mem_cons, List.not_mem_nil, or_false] at *; omega) | (split <;> first | decide | (simp only [keyB, keyC, keyCap, keySite, keyPc, keyA, keyG, keyBench, keyNode, keyEng, keyDma, keyLane, keyLink, keyStream, keyStack, keyPort, keyTpg, key, RBay.BAY_STATE, ne_eq, RBay.LOAD_STATUS]; omega)))
    | intro _
    | (with_reducible first | apply State.failLoad_bst | apply State.setB_bst | apply State.detachTypes_bst)
    | split
    | (refine Bst.upd ?_)

theorem State.writeEnds_bst {q : Bay} {s : State} {x_s : State} {x_b : Bay} {x_image : Bytes} {x_readbackOk : Bool} (h_x_s : Bst q s x_s) : Bst q s (State.writeEnds x_s x_b x_image x_readbackOk) := by
  unfold State.writeEnds
  repeat' first
    | (with_reducible first | assumption | exact Bst.refl _)
    | (with_reducible first | apply State.ok_bst | apply State.doneLoad_bst | apply State.cutLoad_bst | apply State.free_bst | apply Bst.ite | apply Bst.ite1 | apply Bst.ite2)
    | split
    | dsimp only

theorem State.bankLoaded_bst {q : Bay} {s : State} {x_s : State} {x_b : Bay} {x_sigOk : Bool} {x_readbackOk : Bool} (h_x_s : Bst q s x_s) : Bst q s (State.bankLoaded x_s x_b x_sigOk x_readbackOk) := by
  unfold State.bankLoaded
  repeat' first
    | (with_reducible first | assumption | exact Bst.refl _)
    | intro _
    | (with_reducible first | apply State.verifyEnds_bst | apply State.checkEnds_bst | apply State.writeEnds_bst | apply Bst.ite)
    | split
    | (refine Bst.upd ?_)

theorem State.cutByOff_bst {q : Bay} {s : State} {x_s : State} {x_b : Bay} (h_x_s : Bst q s x_s) : Bst q s (State.cutByOff x_s x_b) := by
  unfold State.cutByOff
  repeat' first
    | (with_reducible first | assumption | exact Bst.refl _)
    | (show _ ≠ _; first | decide | omega | (simp only [keyB, keyC, keyCap, keySite, keyPc, keyA, keyG, keyBench, keyNode, keyEng, keyDma, keyLane, keyLink, keyStream, keyStack, keyPort, keyTpg, key, RBay.BAY_STATE, ne_eq, RBay.LOAD_STATUS]; omega) | (simp only [keyB, keyC, keyCap, keySite, keyPc, keyA, keyG, keyBench, keyNode, keyEng, keyDma, keyLane, keyLink, keyStream, keyStack, keyPort, keyTpg, key, RBay.BAY_STATE, ne_eq, RBay.LOAD_STATUS, List.mem_range, List.mem_cons, List.not_mem_nil, or_false] at *; omega) | (split <;> first | decide | (simp only [keyB, keyC, keyCap, keySite, keyPc, keyA, keyG, keyBench, keyNode, keyEng, keyDma, keyLane, keyLink, keyStream, keyStack, keyPort, keyTpg, key, RBay.BAY_STATE, ne_eq, RBay.LOAD_STATUS]; omega)))
    | intro _
    | (with_reducible first | apply State.cutLoad_bst | apply State.free_bst | apply State.setB_bst | apply State.modBay_bst | apply Bst.ite | apply Bst.ite1 | apply Bst.ite2)
    | split
    | dsimp only
    | (refine Bst.upd ?_)

theorem State.customEntry_bst {q : Bay} {s : State} {x_s : State} {x_b : Bay} {x_type x_value : Nat} (h_x_s : Bst q s x_s)
    (hk : x_type < 15) : Bst q s (State.customEntry x_s x_b x_type x_value) := by
  unfold State.customEntry
  dsimp only
  split
  · exact State.answer_bst h_x_s
  · split
    · exact State.answer_bst h_x_s
    · exact State.ok_bst (State.setB_bst h_x_s (by simp only [RBay.CUSTOM_ENTRY]; omega))

theorem State.vendorReload_bst {q : Bay} {s : State} {x_s : State} {x_b : Bay} (h_x_s : Bst q s x_s) : Bst q s (State.vendorReload x_s x_b) := by
  unfold State.vendorReload
  repeat' first
    | (with_reducible first | assumption | exact Bst.refl _)
    | (show _ ≠ _; first | decide | omega | (simp only [keyB, keyC, keyCap, keySite, keyPc, keyA, keyG, keyBench, keyNode, keyEng, keyDma, keyLane, keyLink, keyStream, keyStack, keyPort, keyTpg, key, RBay.BAY_STATE, ne_eq, R.FIRMWARE_VERSION, RBay.VENDOR_VERSION]; omega) | (simp only [keyB, keyC, keyCap, keySite, keyPc, keyA, keyG, keyBench, keyNode, keyEng, keyDma, keyLane, keyLink, keyStream, keyStack, keyPort, keyTpg, key, RBay.BAY_STATE, ne_eq, R.FIRMWARE_VERSION, RBay.VENDOR_VERSION, List.mem_range, List.mem_cons, List.not_mem_nil, or_false] at *; omega) | (split <;> first | decide | (simp only [keyB, keyC, keyCap, keySite, keyPc, keyA, keyG, keyBench, keyNode, keyEng, keyDma, keyLane, keyLink, keyStream, keyStack, keyPort, keyTpg, key, RBay.BAY_STATE, ne_eq, R.FIRMWARE_VERSION, RBay.VENDOR_VERSION]; omega)))
    | intro _
    | (with_reducible first | apply State.modBay_bst | apply State.setB_bst | apply Bst.ite)
    | split
    | (refine Bst.upd ?_)

theorem execSeqJump_bst {q : Bay} {s : State} {x_b : Bay} {x_ecc : Ecc} {x_s : State} (h_x_s : Bst q s x_s) : BstN q s (execSeqJump x_b x_ecc x_s) := by
  unfold execSeqJump
  repeat' first
    | (with_reducible first | assumption | exact Bst.refl _ | apply State.passTo_bst | apply BstN.next | apply BstN.ite | apply Bst.ite)

theorem execSeqIf_bst {q : Bay} {s : State} {x_b : Bay} {x_ecc : Ecc} {x_s : State} (h_x_s : Bst q s x_s) : BstN q s (execSeqIf x_b x_ecc x_s) := by
  unfold execSeqIf
  repeat' first
    | (with_reducible first | assumption | exact Bst.refl _)
    | intro _
    | (with_reducible first | apply State.branch_bst | apply State.decided_bst | apply State.toNext_bst | apply BstN.next | apply BstN.ite | apply Bst.ite)

theorem execSeqIfnot_bst {q : Bay} {s : State} {x_b : Bay} {x_ecc : Ecc} {x_s : State} (h_x_s : Bst q s x_s) : BstN q s (execSeqIfnot x_b x_ecc x_s) := by
  unfold execSeqIfnot
  repeat' first
    | (with_reducible first | assumption | exact Bst.refl _)
    | intro _
    | (with_reducible first | apply State.branch_bst | apply State.toNext_bst | apply State.decided_bst | apply BstN.next | apply BstN.ite | apply Bst.ite)

theorem execSeqCall_bst {q : Bay} {s : State} {x_b : Bay} {x_ecc : Ecc} {x_s : State} (h_x_s : Bst q s x_s) : BstN q s (execSeqCall x_b x_ecc x_s) := by
  unfold execSeqCall
  repeat' first
    | (with_reducible first | assumption | exact Bst.refl _)
    | intro _
    | (with_reducible first | apply State.push_bst | apply State.passTo_bst | apply BstN.next | apply BstN.ite | apply Bst.ite)

theorem execSeqCallIf_bst {q : Bay} {s : State} {x_b : Bay} {x_ecc : Ecc} {x_s : State} (h_x_s : Bst q s x_s) : BstN q s (execSeqCallIf x_b x_ecc x_s) := by
  unfold execSeqCallIf
  repeat' first
    | (with_reducible first | assumption | exact Bst.refl _)
    | intro _
    | (with_reducible first | apply State.branch_bst | apply State.push_bst | apply State.decided_bst | apply State.toNext_bst | apply BstN.next | apply BstN.ite | apply Bst.ite)

theorem execSeqReturn_bst {q : Bay} {s : State} {x_b : Bay} {x_ecc : Ecc} {x_s : State} (h_x_s : Bst q s x_s) : BstN q s (execSeqReturn x_b x_ecc x_s) := by
  unfold execSeqReturn
  repeat' first
    | (with_reducible first | assumption | exact Bst.refl _ | apply State.popTo_bst | apply BstN.next | apply BstN.ite | apply Bst.ite)

theorem execSeqExit_bst {q : Bay} {s : State} {x_b : Bay} {x_ecc : Ecc} {x_s : State} (h_x_s : Bst q s x_s) : BstN q s (execSeqExit x_b x_ecc x_s) := by
  unfold execSeqExit
  repeat' first
    | (with_reducible first | assumption | exact Bst.refl _)
    | intro _
    | (with_reducible first | apply State.exit_bst | apply BstN.next | apply BstN.ite | apply Bst.ite)
    | split

theorem execSeqDispatch_bst {q : Bay} {s : State} {x_b : Bay} {x_ecc : Ecc} {x_s : State} (h_x_s : Bst q s x_s) : BstN q s (execSeqDispatch x_b x_ecc x_s) := by
  unfold execSeqDispatch
  repeat' first
    | (with_reducible first | assumption | exact Bst.refl _)
    | intro _
    | (with_reducible first | apply State.dispatch_bst | apply State.fetched_bst | apply State.toVendor_bst | apply State.modBay_bst | apply BstN.next | apply BstN.ite | apply Bst.ite)
    | (refine Bst.upd ?_)

theorem execWaitRelease_bst {q : Bay} {s : State} {x_b : Bay} {x_ecc : Ecc} {x_s : State} (h_x_s : Bst q s x_s) : BstN q s (execWaitRelease x_b x_ecc x_s) := by
  unfold execWaitRelease
  repeat' first
    | (with_reducible first | assumption | exact Bst.refl _)
    | (intro x_1; refine (fun hx : Bst q s x_1 => ?_) ?_; (clear_value x_1); rotate_left; (unfold x_1))
    | (intro x_1; clear_value x_1)
    | intro _
    | (with_reducible first | apply State.modBay_bst | apply State.clearLatch_bst | apply State.toNext_bst | apply State.decided_bst | apply BstN.next | apply BstN.ite | apply Bst.ite)
    | lift_lets -underBinder
    | split
    | dsimp only
    | (refine Bst.upd ?_)

theorem execWaitTimeout_bst {q : Bay} {s : State} {x_b : Bay} {x_ecc : Ecc} {x_s : State} (h_x_s : Bst q s x_s) : BstN q s (execWaitTimeout x_b x_ecc x_s) := by
  unfold execWaitTimeout
  repeat' first
    | (with_reducible first | assumption | exact Bst.refl _)
    | intro _
    | (with_reducible first | apply State.passTo_bst | apply State.modBay_bst | apply BstN.next | apply BstN.ite | apply Bst.ite)
    | split
    | (refine Bst.upd ?_)

theorem execVecEmit_bst {q : Bay} {s : State} {x_b : Bay} {x_s : State} (h_x_s : Bst q s x_s) : BstN q s (execVecEmit x_b x_s) := by
  unfold execVecEmit
  repeat' first
    | (with_reducible first | assumption | exact Bst.refl _)
    | intro _
    | (with_reducible first | apply State.cycle_bst | apply State.emitSlot_bst | refine (State.emitSlot_bst ?_).out (by assumption) | apply BstN.next | apply BstN.ite | apply Bst.ite)

theorem execVecPad_bst {q : Bay} {s : State} {x_b : Bay} {x_s : State} (h_x_s : Bst q s x_s) : BstN q s (execVecPad x_b x_s) := by
  unfold execVecPad
  repeat' first
    | (with_reducible first | assumption | exact Bst.refl _)
    | intro _
    | (with_reducible first | apply State.cycle_bst | apply State.padSlot_bst | refine (State.padSlot_bst ?_).out (by assumption) | apply State.issueVec_bst | exact BstO.none | apply BstO.some | apply BstO.ite | apply BstN.next | apply BstN.ite | apply Bst.ite)

theorem execVecHold_bst {q : Bay} {s : State} {x_b : Bay} {x_s : State} (h_x_s : Bst q s x_s) : BstN q s (execVecHold x_b x_s) := by
  unfold execVecHold
  repeat' first
    | (with_reducible first | assumption | exact Bst.refl _)
    | intro _
    | (with_reducible first | apply State.cycle_bst | apply State.issueVec_bst | exact BstO.none | apply BstO.some | apply BstO.ite | apply BstN.next | apply BstN.ite | apply Bst.ite)

theorem execVecMute_bst {q : Bay} {s : State} {x_b : Bay} {x_s : State} (h_x_s : Bst q s x_s) : BstN q s (execVecMute x_b x_s) := by
  unfold execVecMute
  repeat' first
    | (with_reducible first | assumption | exact Bst.refl _)
    | intro _
    | (with_reducible first | apply State.cycle_bst | apply State.issueVec_bst | exact BstO.none | apply BstO.some | apply BstO.ite | apply BstN.next | apply BstN.ite | apply Bst.ite)

theorem execPrdSel_bst {q : Bay} {s : State} {x_b : Bay} {x_s : State} (h_x_s : Bst q s x_s) : BstN q s (execPrdSel x_b x_s) := by
  unfold execPrdSel
  repeat' first
    | (with_reducible first | assumption | exact Bst.refl _)
    | intro _
    | (with_reducible first | apply State.modBay_bst | exact BstO.none | apply BstO.some | apply BstO.ite | apply BstN.next | apply BstN.ite | apply Bst.ite)
    | (refine Bst.upd ?_)

theorem execLvlSel_bst {q : Bay} {s : State} {x_b : Bay} {x_s : State} (h_x_s : Bst q s x_s) : BstN q s (execLvlSel x_b x_s) := by
  unfold execLvlSel
  repeat' first
    | (with_reducible first | assumption | exact Bst.refl _)
    | intro _
    | (with_reducible first | apply State.once_bst | apply State.pickLevels_bst | apply BstN.next | apply BstN.ite | apply Bst.ite)
    | split

theorem execMatchEnable_bst {q : Bay} {s : State} {x_b : Bay} {x_s : State} (h_x_s : Bst q s x_s) : BstN q s (execMatchEnable x_b x_s) := by
  unfold execMatchEnable
  repeat' first
    | (with_reducible first | assumption | exact Bst.refl _)
    | intro _
    | (with_reducible first | apply State.modBay_bst | exact BstO.none | apply BstO.some | apply BstO.ite | apply BstN.next | apply BstN.ite | apply Bst.ite)
    | (refine Bst.upd ?_)

theorem execShgJumpReq_bst {q : Bay} {s : State} {x_b : Bay} {x_s : State} (h_x_s : Bst q s x_s) : BstN q s (execShgJumpReq x_b x_s) := by
  unfold execShgJumpReq
  repeat' first
    | (with_reducible first | assumption | exact Bst.refl _)
    | intro _
    | (with_reducible first | apply State.once_bst | apply State.shgJump_bst | apply BstN.next | apply BstN.ite | apply Bst.ite)

theorem execShgPause_bst {q : Bay} {s : State} {x_b : Bay} {x_s : State} (h_x_s : Bst q s x_s) : BstN q s (execShgPause x_b x_s) := by
  unfold execShgPause
  repeat' first
    | (with_reducible first | assumption | exact Bst.refl _)
    | intro _
    | (with_reducible first | apply State.once_bst | apply State.modBay_bst | apply BstN.next | apply BstN.ite | apply Bst.ite)
    | (refine Bst.upd ?_)

theorem execShgStop_bst {q : Bay} {s : State} {x_b : Bay} {x_s : State} (h_x_s : Bst q s x_s) : BstN q s (execShgStop x_b x_s) := by
  unfold execShgStop
  repeat' first
    | (with_reducible first | assumption | exact Bst.refl _)
    | intro _
    | (with_reducible first | apply State.once_bst | apply State.modBay_bst | apply BstN.next | apply BstN.ite | apply Bst.ite)
    | (refine Bst.upd ?_)

theorem execShgRewind_bst {q : Bay} {s : State} {x_b : Bay} {x_s : State} (h_x_s : Bst q s x_s) : BstN q s (execShgRewind x_b x_s) := by
  unfold execShgRewind
  repeat' first
    | (with_reducible first | assumption | exact Bst.refl _)
    | intro _
    | (with_reducible first | apply State.once_bst | apply State.rewind_bst | apply BstN.next | apply BstN.ite | apply Bst.ite)

theorem execCntDec_bst {q : Bay} {s : State} {x_b : Bay} {x_n : Fin 4} {x_s : State} (h_x_s : Bst q s x_s) : BstN q s (execCntDec x_b x_n x_s) := by
  unfold execCntDec
  repeat' first
    | (with_reducible first | assumption | exact Bst.refl _ | apply State.cntCycle_bst | apply BstN.next | apply BstN.ite)

theorem execCntInc_bst {q : Bay} {s : State} {x_b : Bay} {x_n : Fin 4} {x_s : State} (h_x_s : Bst q s x_s) : BstN q s (execCntInc x_b x_n x_s) := by
  unfold execCntInc
  repeat' first
    | (with_reducible first | assumption | exact Bst.refl _ | apply State.cntCycle_bst | apply BstN.next | apply BstN.ite)

theorem execCntDecVec_bst {q : Bay} {s : State} {x_b : Bay} {x_n : Fin 4} {x_s : State} (h_x_s : Bst q s x_s) : BstN q s (execCntDecVec x_b x_n x_s) := by
  unfold execCntDecVec
  repeat' first
    | (with_reducible first | assumption | exact Bst.refl _ | apply State.cntCycle_bst | apply BstN.next | apply BstN.ite)

theorem execCntIncVec_bst {q : Bay} {s : State} {x_b : Bay} {x_n : Fin 4} {x_s : State} (h_x_s : Bst q s x_s) : BstN q s (execCntIncVec x_b x_n x_s) := by
  unfold execCntIncVec
  repeat' first
    | (with_reducible first | assumption | exact Bst.refl _ | apply State.cntCycle_bst | apply BstN.next | apply BstN.ite)

theorem execCntLoad_bst {q : Bay} {s : State} {x_b : Bay} {x_n : Fin 4} {x_s : State} (h_x_s : Bst q s x_s) : BstN q s (execCntLoad x_b x_n x_s) := by
  unfold execCntLoad
  repeat' first
    | (with_reducible first | assumption | exact Bst.refl _)
    | intro _
    | (with_reducible first | apply State.cntOnce_bst | apply BstN.next | apply BstN.ite)

theorem execCntLoadParam_bst {q : Bay} {s : State} {x_b : Bay} {x_n : Fin 4} {x_s : State} (h_x_s : Bst q s x_s) : BstN q s (execCntLoadParam x_b x_n x_s) := by
  unfold execCntLoadParam
  repeat' first
    | (with_reducible first | assumption | exact Bst.refl _)
    | intro _
    | (with_reducible first | apply State.cntOnce_bst | apply BstN.next | apply BstN.ite)

theorem execCntReload_bst {q : Bay} {s : State} {x_b : Bay} {x_n : Fin 4} {x_s : State} (h_x_s : Bst q s x_s) : BstN q s (execCntReload x_b x_n x_s) := by
  unfold execCntReload
  repeat' first
    | (with_reducible first | assumption | exact Bst.refl _)
    | intro _
    | (with_reducible first | apply State.cntOnce_bst | apply BstN.next | apply BstN.ite)

theorem execCntClear_bst {q : Bay} {s : State} {x_b : Bay} {x_n : Fin 4} {x_s : State} (h_x_s : Bst q s x_s) : BstN q s (execCntClear x_b x_n x_s) := by
  unfold execCntClear
  repeat' first
    | (with_reducible first | assumption | exact Bst.refl _)
    | intro _
    | (with_reducible first | apply State.cntOnce_bst | apply BstN.next | apply BstN.ite)

theorem execCaptureOn_bst {q : Bay} {s : State} {x_b : Bay} {x_s : State} (h_x_s : Bst q s x_s) : BstN q s (execCaptureOn x_b x_s) := by
  unfold execCaptureOn
  repeat' first
    | (with_reducible first | assumption | exact Bst.refl _)
    | intro _
    | (with_reducible first | apply State.once_bst | apply State.captureOn_bst | apply BstN.next | apply BstN.ite | apply Bst.ite)

theorem execCaptureOff_bst {q : Bay} {s : State} {x_b : Bay} {x_s : State} (h_x_s : Bst q s x_s) : BstN q s (execCaptureOff x_b x_s) := by
  unfold execCaptureOff
  repeat' first
    | (with_reducible first | assumption | exact Bst.refl _)
    | intro _
    | (with_reducible first | apply State.once_bst | apply State.captureOff_bst | apply BstN.next | apply BstN.ite | apply Bst.ite)

theorem execCapMark_bst {q : Bay} {s : State} {x_b : Bay} {x_s : State} (h_x_s : Bst q s x_s) : BstN q s (execCapMark x_b x_s) := by
  unfold execCapMark
  repeat' first
    | (with_reducible first | assumption | exact Bst.refl _)
    | intro _
    | (with_reducible first | apply State.once_bst | apply State.capMark_bst | apply BstN.next | apply BstN.ite | apply Bst.ite)

theorem execRetire_bst {q : Bay} {s : State} {x_b : Bay} {x_s : State} (h_x_s : Bst q s x_s) : BstN q s (execRetire x_b x_s) := by
  unfold execRetire
  repeat' first
    | (with_reducible first | assumption | exact Bst.refl _)
    | intro _
    | (with_reducible first | apply State.once_bst | apply State.retireSoon_bst | apply BstN.next | apply BstN.ite | apply Bst.ite)

theorem execRetireFailed_bst {q : Bay} {s : State} {x_b : Bay} {x_s : State} (h_x_s : Bst q s x_s) : BstN q s (execRetireFailed x_b x_s) := by
  unfold execRetireFailed
  repeat' first
    | (with_reducible first | assumption | exact Bst.refl _)
    | intro _
    | (with_reducible first | apply State.once_bst | apply State.retireSoon_bst | apply BstN.next | apply BstN.ite | apply Bst.ite)

theorem execObjWrite_bst {q : Bay} {s : State} {x_b : Bay} {x_s : State} (h_x_s : Bst q s x_s) : BstN q s (execObjWrite x_b x_s) := by
  unfold execObjWrite
  repeat' first
    | (with_reducible first | assumption | exact Bst.refl _)
    | intro _
    | (with_reducible first | apply State.once_bst | apply State.objWrite_bst | apply BstN.next | apply BstN.ite | apply Bst.ite)

theorem execRaise_bst {q : Bay} {s : State} {x_b : Bay} {x_s : State} (h_x_s : Bst q s x_s) : BstN q s (execRaise x_b x_s) := by
  unfold execRaise
  repeat' first
    | (with_reducible first | assumption | exact Bst.refl _)
    | intro _
    | (with_reducible first | apply State.once_bst | apply State.occur_bst | apply BstN.next | apply BstN.ite | apply Bst.ite)

theorem execLoadNow_bst {q : Bay} {s : State} {x_b : Bay} {x_s : State} (h_x_s : Bst q s x_s) : BstN q s (execLoadNow x_b x_s) := by
  unfold execLoadNow
  repeat' first
    | (with_reducible first | assumption | exact Bst.refl _)
    | intro _
    | (with_reducible first | apply State.once_bst | apply State.load_bst | apply State.lvlSel_bst | apply BstN.next | apply BstN.ite | apply Bst.ite)
    | split

theorem execLoadTimer_bst {q : Bay} {s : State} {x_b : Bay} {x_s : State} (h_x_s : Bst q s x_s) : BstN q s (execLoadTimer x_b x_s) := by
  unfold execLoadTimer
  repeat' first
    | (with_reducible first | assumption | exact Bst.refl _)
    | intro _
    | (with_reducible first | apply State.once_bst | apply State.startLoadTimer_bst | apply BstN.next | apply BstN.ite | apply Bst.ite)

theorem execBlankStart_bst {q : Bay} {s : State} {x_b : Bay} {x_s : State} (h_x_s : Bst q s x_s) : BstN q s (execBlankStart x_b x_s) := by
  unfold execBlankStart
  repeat' first
    | (with_reducible first | assumption | exact Bst.refl _)
    | intro _
    | (with_reducible first | apply State.once_bst | apply State.startBlank_bst | apply BstN.next | apply BstN.ite | apply Bst.ite)

theorem execBlankEnd_bst {q : Bay} {s : State} {x_b : Bay} {x_s : State} (h_x_s : Bst q s x_s) : BstN q s (execBlankEnd x_b x_s) := by
  unfold execBlankEnd
  repeat' first
    | (with_reducible first | assumption | exact Bst.refl _)
    | intro _
    | (with_reducible first | apply State.once_bst | apply State.endBlank_bst | apply BstN.next | apply BstN.ite | apply Bst.ite)

theorem execTmuMwArm_bst {q : Bay} {s : State} {x_b : Bay} {x_s : State} (h_x_s : Bst q s x_s) : BstN q s (execTmuMwArm x_b x_s) := by
  unfold execTmuMwArm
  repeat' first
    | (with_reducible first | assumption | exact Bst.refl _)
    | intro _
    | (with_reducible first | apply State.once_bst | apply State.tmuArmEvent_bst | apply BstN.next | apply BstN.ite | apply Bst.ite)

theorem execTmuMwDisarm_bst {q : Bay} {s : State} {x_b : Bay} {x_s : State} (h_x_s : Bst q s x_s) : BstN q s (execTmuMwDisarm x_b x_s) := by
  unfold execTmuMwDisarm
  repeat' first
    | (with_reducible first | assumption | exact Bst.refl _)
    | intro _
    | (with_reducible first | apply State.once_bst | apply State.tmuDisarmEvent_bst | apply BstN.next | apply BstN.ite | apply Bst.ite)

theorem execRidgeAssert_bst {q : Bay} {s : State} {x_b : Bay} {x_port : Fin 2} {x_s : State} (h_x_s : Bst q s x_s) : BstN q s (execRidgeAssert x_b x_port x_s) := by
  unfold execRidgeAssert
  repeat' first
    | (with_reducible first | assumption | exact Bst.refl _)
    | intro _
    | (with_reducible first | apply State.ridgePort_bst | apply State.driveRidge_bst | apply BstN.next | apply BstN.ite)

theorem execRidgeRelease_bst {q : Bay} {s : State} {x_b : Bay} {x_port : Fin 2} {x_s : State} (h_x_s : Bst q s x_s) : BstN q s (execRidgeRelease x_b x_port x_s) := by
  unfold execRidgeRelease
  repeat' first
    | (with_reducible first | assumption | exact Bst.refl _)
    | intro _
    | (with_reducible first | apply State.ridgePort_bst | apply State.driveRidge_bst | apply BstN.next | apply BstN.ite)

theorem execRidgePulse_bst {q : Bay} {s : State} {x_b : Bay} {x_port : Fin 2} {x_s : State} (h_x_s : Bst q s x_s) : BstN q s (execRidgePulse x_b x_port x_s) := by
  unfold execRidgePulse
  repeat' first
    | (with_reducible first | assumption | exact Bst.refl _)
    | intro _
    | (with_reducible first | apply State.ridgePort_bst | apply State.driveRidge_bst | apply BstN.next | apply BstN.ite)

theorem execSphPermit_bst {q : Bay} {s : State} {x_b : Bay} {x_s : State} (h_x_s : Bst q s x_s) : BstN q s (execSphPermit x_b x_s) := by
  unfold execSphPermit
  repeat' first
    | (with_reducible first | assumption | exact Bst.refl _)
    | intro _
    | (with_reducible first | apply State.once_bst | apply State.modRoll_bst | apply BstN.next | apply BstN.ite | apply Bst.ite)
    | (refine Bst.upd ?_)

theorem execSphInhibit_bst {q : Bay} {s : State} {x_b : Bay} {x_s : State} (h_x_s : Bst q s x_s) : BstN q s (execSphInhibit x_b x_s) := by
  unfold execSphInhibit
  repeat' first
    | (with_reducible first | assumption | exact Bst.refl _)
    | intro _
    | (with_reducible first | apply State.once_bst | apply State.modRoll_bst | apply BstN.next | apply BstN.ite | apply Bst.ite)
    | (refine Bst.upd ?_)

theorem execCustomWatchdog_bst {q : Bay} {s : State} {x_b : Bay} {x_s : State} (h_x_s : Bst q s x_s) : BstN q s (execCustomWatchdog x_b x_s) := by
  unfold execCustomWatchdog
  repeat' first
    | (with_reducible first | assumption | exact Bst.refl _ | apply State.seqError_bst | apply BstN.next | apply BstN.ite | apply Bst.ite)

theorem execBankImage_bst {q : Bay} {s : State} {x_b : Bay} {x_epoch : BitVec 16} {x_image : Bytes} {x_s : State} (h_x_s : Bst q s x_s) : BstN q s (execBankImage x_b x_epoch x_image x_s) := by
  unfold execBankImage
  repeat' first
    | (with_reducible first | assumption | exact Bst.refl _)
    | intro _
    | (with_reducible first | apply State.hostBay_bst | apply State.bankImage_bst | apply BstN.next | apply BstN.ite)

theorem execBankLoadComplete_bst {q : Bay} {s : State} {x_b : Bay} {x_sigOk : Bool} {x_readbackOk : Bool} {x_s : State} (h_x_s : Bst q s x_s) : BstN q s (execBankLoadComplete x_b x_sigOk x_readbackOk x_s) := by
  unfold execBankLoadComplete
  repeat' first
    | (with_reducible first | assumption | exact Bst.refl _ | apply State.bankLoaded_bst | apply BstN.next | apply BstN.ite)

theorem execCustomEntryWrite_bst {q : Bay} {s : State} {x_b : Bay} {x_epoch : BitVec 16} {x_type : Fin 15} {x_value : BitVec 32} {x_s : State} (h_x_s : Bst q s x_s) : BstN q s (execCustomEntryWrite x_b x_epoch x_type x_value x_s) := by
  unfold execCustomEntryWrite
  repeat' first
    | (with_reducible first | assumption | exact Bst.refl _)
    | (show _ ≠ _; first | decide | omega | (simp only [keyB, keyC, keyCap, keySite, keyPc, keyA, keyG, keyBench, keyNode, keyEng, keyDma, keyLane, keyLink, keyStream, keyStack, keyPort, keyTpg, key, RBay.BAY_STATE, ne_eq]; omega) | (simp only [keyB, keyC, keyCap, keySite, keyPc, keyA, keyG, keyBench, keyNode, keyEng, keyDma, keyLane, keyLink, keyStream, keyStack, keyPort, keyTpg, key, RBay.BAY_STATE, ne_eq, List.mem_range, List.mem_cons, List.not_mem_nil, or_false] at *; omega) | (split <;> first | decide | (simp only [keyB, keyC, keyCap, keySite, keyPc, keyA, keyG, keyBench, keyNode, keyEng, keyDma, keyLane, keyLink, keyStream, keyStack, keyPort, keyTpg, key, RBay.BAY_STATE, ne_eq]; omega)))
    | (show _ < _; first | decide | omega | (simp only [keyB, keyC, keyCap, keySite, keyPc, keyA, keyG, keyBench, keyNode, keyEng, keyDma, keyLane, keyLink, keyStream, keyStack, keyPort, keyTpg, key, RBay.BAY_STATE, ne_eq]; omega) | (simp only [keyB, keyC, keyCap, keySite, keyPc, keyA, keyG, keyBench, keyNode, keyEng, keyDma, keyLane, keyLink, keyStream, keyStack, keyPort, keyTpg, key, RBay.BAY_STATE, ne_eq, List.mem_range, List.mem_cons, List.not_mem_nil, or_false] at *; omega) | (split <;> first | decide | (simp only [keyB, keyC, keyCap, keySite, keyPc, keyA, keyG, keyBench, keyNode, keyEng, keyDma, keyLane, keyLink, keyStream, keyStack, keyPort, keyTpg, key, RBay.BAY_STATE, ne_eq]; omega)))
    | intro _
    | (with_reducible first | apply State.hostBay_bst | apply State.customEntry_bst | apply BstN.next | apply BstN.ite)

theorem execVendorReload_bst {q : Bay} {s : State} {x_b : Bay} {x_s : State} (h_x_s : Bst q s x_s) : BstN q s (execVendorReload x_b x_s) := by
  unfold execVendorReload
  repeat' first
    | (with_reducible first | assumption | exact Bst.refl _ | apply State.vendorReload_bst | apply BstN.next | apply BstN.ite)

end Sys2Proof.Machine
end

