-- ==== Sys2Proof/Laws/BstPackage.lean ====
section
/-! SUPPORT. What the operations of Machine/Package.lean keep. -/

set_option linter.all false

namespace Sys2Proof.Machine

theorem State.pkgFail_bst {q : Bay} {s : State} {x_s : State} {x_b : Bay} {x_status : Nat} {x_detail : Nat} {x_slot : Option Nat} (h_x_s : Bst q s x_s) : Bst q s (State.pkgFail x_s x_b x_status x_detail x_slot) := by
  unfold State.pkgFail
  repeat' first
    | (with_reducible first | assumption | exact Bst.refl _)
    | (show _ ≠ _; first | decide | omega | (simp only [keyB, keyC, keyCap, keySite, keyPc, keyA, keyG, keyBench, keyNode, keyEng, keyDma, keyLane, keyLink, keyStream, keyStack, keyPort, keyTpg, key, RBay.BAY_STATE, ne_eq, RBay.PKG_DETAIL, RBay.PKG_STATUS]; omega) | (simp only [keyB, keyC, keyCap, keySite, keyPc, keyA, keyG, keyBench, keyNode, keyEng, keyDma, keyLane, keyLink, keyStream, keyStack, keyPort, keyTpg, key, RBay.BAY_STATE, ne_eq, RBay.PKG_DETAIL, RBay.PKG_STATUS, List.mem_range, List.mem_cons, List.not_mem_nil, or_false] at *; omega) | (split <;> first | decide | (simp only [keyB, keyC, keyCap, keySite, keyPc, keyA, keyG, keyBench, keyNode, keyEng, keyDma, keyLane, keyLink, keyStream, keyStack, keyPort, keyTpg, key, RBay.BAY_STATE, ne_eq, RBay.PKG_DETAIL, RBay.PKG_STATUS]; omega)))
    | (intro x_1; refine (fun hx : Bst q s x_1 => ?_) ?_; (clear_value x_1); rotate_left; (unfold x_1))
    | (intro x_1; clear_value x_1)
    | intro _
    | (with_reducible first | apply State.zeroSlot_bst | apply State.setB_bst | apply State.modBay_bst | exact BstO.none | apply BstO.some | apply BstO.ite)
    | lift_lets -underBinder
    | split
    | (refine Bst.upd ?_)

theorem State.pkgAbort_bst {q : Bay} {s : State} {x_s : State} {x_b : Bay} (h_x_s : Bst q s x_s) : Bst q s (State.pkgAbort x_s x_b) := by
  unfold State.pkgAbort
  repeat' first
    | (with_reducible first | assumption | exact Bst.refl _ | apply State.pkgFail_bst | exact BstO.none | apply BstO.some | apply BstO.ite)
    | split
    | (refine Bst.upd ?_)

theorem State.pkgBadSection_bst {q : Bay} {s : State} {x_s : State} {x_b : Bay} {x_slot : Option Nat} (h_x_s : Bst q s x_s) : Bst q s (State.pkgBadSection x_s x_b x_slot) := by
  unfold State.pkgBadSection
  repeat' first
    | (with_reducible first | assumption | exact Bst.refl _ | apply State.pkgFail_bst | apply State.free_bst | apply Bst.ite2)
    | dsimp only

theorem State.pkgData_bst {q : Bay} {s : State} {x_s : State} {x_b : Bay} {x_p : Bytes} {x_d : Nat} (h_x_s : Bst q s x_s) : Bst q s (State.pkgData x_s x_b x_p x_d) := by
  unfold State.pkgData
  repeat' first
    | (with_reducible first | assumption | exact Bst.refl _)
    | (intro x_1; refine (fun hx : Bst q s x_1 => ?_) ?_; (clear_value x_1); rotate_left; (unfold x_1))
    | (intro x_1; clear_value x_1)
    | intro _
    | (with_reducible first | apply State.writeBlocks_bst | apply Bst.ite)
    | lift_lets -underBinder

theorem setupValues_offsets {p : Bytes} {q : Nat × Nat} (h : q ∈ setupValues p) : q.1 % 65536 ≠ 1 := by
  simp only [setupValues, List.mem_append, List.mem_cons, List.not_mem_nil, or_false, List.mem_map, List.mem_range] at h
  rcases h with (h | h) | h
  · rcases h with h | h | h <;> (rw [h]; dsimp only; decide)
  · obtain ⟨k, hk, rfl⟩ := h
    dsimp only [RBay.PAD_ACTION]; omega
  · rw [h]; dsimp only; decide

theorem State.pkgTables_bst {q : Bay} {s : State} {x_s : State} {x_b : Bay} {x_p : Bytes} {x_d : Nat} {x_slot : Option Nat}
    (h_x_s : Bst q s x_s) : Bst q s (State.pkgTables x_s x_b x_p x_d x_slot) := by
  unfold State.pkgTables
  extract_lets setup old es reply a b c
  have ha : Bst q s a := State.each_bst h_x_s (fun u x hx hu => State.setB_bst hu (setupValues_offsets hx))
  have hb : Bst q s b := State.storeEntries_bst ha
  split
  · exact State.pkgBadSection_bst h_x_s
  · split
    · refine State.setB_bst (State.setB_bst (State.setB_bst ?_ (by decide)) (by decide)) (by decide)
      exact Bst.upd (State.modBay_bst (Bst.upd hb))
    · refine State.pkgFail_bst (State.each_bst (Bst.upd hb) (fun u x hx hu => State.setB_bst hu ?_))
      obtain ⟨y, hy, rfl⟩ := List.mem_map.mp hx
      exact (setupValues_offsets hy : y.1 % 65536 ≠ 1)

theorem State.pkgLoaded_bst {q : Bay} {s : State} {x_s : State} {x_b : Bay} {x_sigOk : Bool} {x_key : Option (BitVec 512 × BitVec 128)} {x_eccs : List Ecc} (h_x_s : Bst q s x_s) : Bst q s (State.pkgLoaded x_s x_b x_sigOk x_key x_eccs) := by
  unfold State.pkgLoaded
  repeat' first
    | (with_reducible first | assumption | exact Bst.refl _)
    | (show _ ≠ _; first | decide | omega | (simp only [keyB, keyC, keyCap, keySite, keyPc, keyA, keyG, keyBench, keyNode, keyEng, keyDma, keyLane, keyLink, keyStream, keyStack, keyPort, keyTpg, key, RBay.BAY_STATE, ne_eq, RBay.PKG_BASE]; omega) | (simp only [keyB, keyC, keyCap, keySite, keyPc, keyA, keyG, keyBench, keyNode, keyEng, keyDma, keyLane, keyLink, keyStream, keyStack, keyPort, keyTpg, key, RBay.BAY_STATE, ne_eq, RBay.PKG_BASE, List.mem_range, List.mem_cons, List.not_mem_nil, or_false] at *; omega) | (split <;> first | decide | (simp only [keyB, keyC, keyCap, keySite, keyPc, keyA, keyG, keyBench, keyNode, keyEng, keyDma, keyLane, keyLink, keyStream, keyStack, keyPort, keyTpg, key, RBay.BAY_STATE, ne_eq, RBay.PKG_BASE]; omega)))
    | (intro x_1; refine (fun hx : Bst q s x_1 => ?_) ?_; (clear_value x_1); rotate_left; (unfold x_1))
    | (intro x_1; clear_value x_1)
    | intro _
    | (with_reducible first | apply State.each_bst | apply State.checkBlock_bst | apply State.pkgBadSection_bst | apply State.pkgFail_bst | apply State.pkgData_bst | apply State.pkgTables_bst | apply State.loadSlot_bst | apply Bst.ite | apply Bst.ite1 | apply Bst.ite2)
    | lift_lets -underBinder
    | split
    | dsimp only
    | (refine Bst.upd ?_)

theorem State.pkgBegin_bst {q : Bay} {s : State} {x_s : State} {x_b : Bay} {x_l : PkgLoad} (h_x_s : Bst q s x_s) : Bst q s (State.pkgBegin x_s x_b x_l) := by
  unfold State.pkgBegin
  repeat' first
    | (with_reducible first | assumption | exact Bst.refl _)
    | (show _ ≠ _; first | decide | omega | (simp only [keyB, keyC, keyCap, keySite, keyPc, keyA, keyG, keyBench, keyNode, keyEng, keyDma, keyLane, keyLink, keyStream, keyStack, keyPort, keyTpg, key, RBay.BAY_STATE, ne_eq, RBay.PKG_STATUS]; omega) | (simp only [keyB, keyC, keyCap, keySite, keyPc, keyA, keyG, keyBench, keyNode, keyEng, keyDma, keyLane, keyLink, keyStream, keyStack, keyPort, keyTpg, key, RBay.BAY_STATE, ne_eq, RBay.PKG_STATUS, List.mem_range, List.mem_cons, List.not_mem_nil, or_false] at *; omega) | (split <;> first | decide | (simp only [keyB, keyC, keyCap, keySite, keyPc, keyA, keyG, keyBench, keyNode, keyEng, keyDma, keyLane, keyLink, keyStream, keyStack, keyPort, keyTpg, key, RBay.BAY_STATE, ne_eq, RBay.PKG_STATUS]; omega)))
    | (intro x_1; refine (fun hx : Bst q s x_1 => ?_) ?_; (clear_value x_1); rotate_left; (unfold x_1))
    | (intro x_1; clear_value x_1)
    | intro _
    | (with_reducible first | apply State.each_bst | apply State.zeroSlot_bst | apply State.ok_bst | apply State.setB_bst | apply State.modBay_bst | exact BstO.none | apply BstO.some | apply BstO.ite)
    | lift_lets -underBinder
    | (refine Bst.upd ?_)

theorem execPkgImage_bst {q : Bay} {s : State} {x_b : Bay} {x_epoch : BitVec 16} {x_image : Bytes} {x_s : State} (h_x_s : Bst q s x_s) : BstN q s (execPkgImage x_b x_epoch x_image x_s) := by
  unfold execPkgImage
  repeat' first
    | (with_reducible first | assumption | exact Bst.refl _)
    | intro _
    | (with_reducible first | apply State.hostBay_bst | apply State.pkgBegin_bst | apply State.answer_bst | apply BstN.next | apply BstN.ite | apply Bst.ite)

theorem execPkgLoadComplete_bst {q : Bay} {s : State} {x_b : Bay} {x_sigOk : Bool} {x_key : Option (BitVec 512 × BitVec 128)} {x_eccs : List Ecc} {x_s : State} (h_x_s : Bst q s x_s) : BstN q s (execPkgLoadComplete x_b x_sigOk x_key x_eccs x_s) := by
  unfold execPkgLoadComplete
  repeat' first
    | (with_reducible first | assumption | exact Bst.refl _)
    | (with_reducible first | apply State.pkgLoaded_bst | apply BstN.next | apply BstN.ite)

end Sys2Proof.Machine
end

