-- ==== Sys2Proof/Laws/BstArming.lean ====
section
/-! SUPPORT. What the operations of Machine/Arming.lean keep. -/

set_option linter.all false

namespace Sys2Proof.Machine

theorem State.showLoft_bst {q : Bay} {s : State} {x_s : State} {x_b : Bay} (h_x_s : Bst q s x_s) : Bst q s (State.showLoft x_s x_b) := by
  unfold State.showLoft
  repeat' first
    | (with_reducible first | assumption | exact Bst.refl _)
    | (show _ ≠ _; first | decide | omega | (simp only [keyB, keyC, keyCap, keySite, keyPc, keyA, keyG, keyBench, keyNode, keyEng, keyDma, keyLane, keyLink, keyStream, keyStack, keyPort, keyTpg, key, RBay.BAY_STATE, ne_eq, RBay.CONSUMPTION, RBay.RESIDENT_BYTES, RBay.RING_BYTES, RBay.RING_COVER]; omega) | (simp only [keyB, keyC, keyCap, keySite, keyPc, keyA, keyG, keyBench, keyNode, keyEng, keyDma, keyLane, keyLink, keyStream, keyStack, keyPort, keyTpg, key, RBay.BAY_STATE, ne_eq, RBay.CONSUMPTION, RBay.RESIDENT_BYTES, RBay.RING_BYTES, RBay.RING_COVER, List.mem_range, List.mem_cons, List.not_mem_nil, or_false] at *; omega) | (split <;> first | decide | (simp only [keyB, keyC, keyCap, keySite, keyPc, keyA, keyG, keyBench, keyNode, keyEng, keyDma, keyLane, keyLink, keyStream, keyStack, keyPort, keyTpg, key, RBay.BAY_STATE, ne_eq, RBay.CONSUMPTION, RBay.RESIDENT_BYTES, RBay.RING_BYTES, RBay.RING_COVER]; omega)))
    | (intro x_1; refine (fun hx : Bst q s x_1 => ?_) ?_; (clear_value x_1); rotate_left; (unfold x_1))
    | (intro x_1; refine (fun hx : Bst q s x_1.2 => ?_) ?_; (clear_value x_1); rotate_left; (unfold x_1))
    | (intro x_1; clear_value x_1)
    | intro _
    | (with_reducible first | apply State.setB_bst | apply State.free_bst | refine State.free_bst_eq ?_ (by assumption) | exact BstO.none | apply BstO.some | apply BstO.ite | apply Bst.ite2)
    | lift_lets -underBinder
    | split
    | dsimp only
    | (refine Bst.upd ?_)

theorem State.showRates_bst {q : Bay} {s : State} {x_s : State} {x_b : Bay} (h_x_s : Bst q s x_s) : Bst q s (State.showRates x_s x_b) := by
  unfold State.showRates
  repeat' first
    | (with_reducible first | assumption | exact Bst.refl _)
    | (show _ ≠ _; first | decide | omega | (simp only [keyB, keyC, keyCap, keySite, keyPc, keyA, keyG, keyBench, keyNode, keyEng, keyDma, keyLane, keyLink, keyStream, keyStack, keyPort, keyTpg, key, RBay.BAY_STATE, ne_eq, R.PC_CAPTURE_PEAK, R.PC_CAPTURE_PEAK_PC, RBay.HBM_RATE, RBay.SRAM_RATE, RCap.RATE]; omega) | (simp only [keyB, keyC, keyCap, keySite, keyPc, keyA, keyG, keyBench, keyNode, keyEng, keyDma, keyLane, keyLink, keyStream, keyStack, keyPort, keyTpg, key, RBay.BAY_STATE, ne_eq, R.PC_CAPTURE_PEAK, R.PC_CAPTURE_PEAK_PC, RBay.HBM_RATE, RBay.SRAM_RATE, RCap.RATE, List.mem_range, List.mem_cons, List.not_mem_nil, or_false] at *; omega) | (split <;> first | decide | (simp only [keyB, keyC, keyCap, keySite, keyPc, keyA, keyG, keyBench, keyNode, keyEng, keyDma, keyLane, keyLink, keyStream, keyStack, keyPort, keyTpg, key, RBay.BAY_STATE, ne_eq, R.PC_CAPTURE_PEAK, R.PC_CAPTURE_PEAK_PC, RBay.HBM_RATE, RBay.SRAM_RATE, RCap.RATE]; omega)))
    | (show _ < _; first | decide | omega | (simp only [keyB, keyC, keyCap, keySite, keyPc, keyA, keyG, keyBench, keyNode, keyEng, keyDma, keyLane, keyLink, keyStream, keyStack, keyPort, keyTpg, key, RBay.BAY_STATE, ne_eq, R.PC_CAPTURE_PEAK, R.PC_CAPTURE_PEAK_PC, RBay.HBM_RATE, RBay.SRAM_RATE, RCap.RATE]; omega) | (simp only [keyB, keyC, keyCap, keySite, keyPc, keyA, keyG, keyBench, keyNode, keyEng, keyDma, keyLane, keyLink, keyStream, keyStack, keyPort, keyTpg, key, RBay.BAY_STATE, ne_eq, R.PC_CAPTURE_PEAK, R.PC_CAPTURE_PEAK_PC, RBay.HBM_RATE, RBay.SRAM_RATE, RCap.RATE, List.mem_range, List.mem_cons, List.not_mem_nil, or_false] at *; omega) | (split <;> first | decide | (simp only [keyB, keyC, keyCap, keySite, keyPc, keyA, keyG, keyBench, keyNode, keyEng, keyDma, keyLane, keyLink, keyStream, keyStack, keyPort, keyTpg, key, RBay.BAY_STATE, ne_eq, R.PC_CAPTURE_PEAK, R.PC_CAPTURE_PEAK_PC, RBay.HBM_RATE, RBay.SRAM_RATE, RCap.RATE]; omega)))
    | (intro x_1; refine (fun hx : Bst q s x_1 => ?_) ?_; (clear_value x_1); rotate_left; (unfold x_1))
    | (intro x_1; clear_value x_1)
    | intro _
    | (with_reducible first | apply State.setB_bst | apply State.each_bst | apply State.setCap_bst | apply State.setO_bst | apply Bst.ite)
    | lift_lets -underBinder

end Sys2Proof.Machine
end

