-- ==== Sys2Proof/Laws/BstBayState.lean ====
section
/-! SUPPORT. What the operations of Machine/BayState.lean keep. -/

set_option linter.all false

namespace Sys2Proof.Machine

theorem State.showShares_bst {q : Bay} {s : State} {x_s : State} (h_x_s : Bst q s x_s) : Bst q s (State.showShares x_s) := by
  unfold State.showShares
  repeat' first
    | (with_reducible first | assumption | exact Bst.refl _)
    | (show _ ≠ _; first | decide | omega | (simp only [keyB, keyC, keyCap, keySite, keyPc, keyA, keyG, keyBench, keyNode, keyEng, keyDma, keyLane, keyLink, keyStream, keyStack, keyPort, keyTpg, key, RBay.BAY_STATE, ne_eq, R.CAPTURE_IN_USE, R.PATTERN_IN_USE]; omega) | (simp only [keyB, keyC, keyCap, keySite, keyPc, keyA, keyG, keyBench, keyNode, keyEng, keyDma, keyLane, keyLink, keyStream, keyStack, keyPort, keyTpg, key, RBay.BAY_STATE, ne_eq, R.CAPTURE_IN_USE, R.PATTERN_IN_USE, List.mem_range, List.mem_cons, List.not_mem_nil, or_false] at *; omega) | (split <;> first | decide | (simp only [keyB, keyC, keyCap, keySite, keyPc, keyA, keyG, keyBench, keyNode, keyEng, keyDma, keyLane, keyLink, keyStream, keyStack, keyPort, keyTpg, key, RBay.BAY_STATE, ne_eq, R.CAPTURE_IN_USE, R.PATTERN_IN_USE]; omega)))
    | (intro x_1; refine (fun hx : Bst q s x_1 => ?_) ?_; (clear_value x_1); rotate_left; (unfold x_1))
    | (intro x_1; clear_value x_1)
    | intro _
    | with_reducible apply State.setO_bst
    | lift_lets -underBinder

theorem State.takeShare_bst {q : Bay} {s : State} {x_s : State} {x_b : Bay} (h_x_s : Bst q s x_s) : Bst q s (State.takeShare x_s x_b) := by
  unfold State.takeShare
  repeat' first
    | (with_reducible first | assumption | exact Bst.refl _)
    | intro _
    | (with_reducible first | apply State.showShares_bst | apply State.modBay_bst)
    | (refine Bst.upd ?_)

theorem State.dropShares_bst {q : Bay} {s : State} {x_s : State} {x_b : Bay} (h_x_s : Bst q s x_s) : Bst q s (State.dropShares x_s x_b) := by
  unfold State.dropShares
  repeat' first
    | (with_reducible first | assumption | exact Bst.refl _)
    | intro _
    | (with_reducible first | apply State.showShares_bst | apply State.modBay_bst)
    | (refine Bst.upd ?_)

theorem State.clearRun_bst {q : Bay} {s : State} {x_s : State} {x_b : Bay} (h_x_s : Bst q s x_s) : Bst q s (State.clearRun x_s x_b) := by
  unfold State.clearRun
  repeat' first
    | (with_reducible first | assumption | exact Bst.refl _)
    | intro _
    | (with_reducible first | apply State.modBay_bst | apply State.endUnderrun_bst)
    | (refine Bst.upd ?_)

theorem State.quieten_bst {q : Bay} {s : State} {x_s : State} {x_b : Bay} (h_x_s : Bst q s x_s) : Bst q s (State.quieten x_s x_b) := by
  unfold State.quieten
  repeat' first
    | (with_reducible first | assumption | exact Bst.refl _ | apply State.dropShares_bst | apply State.rollAbort_bst | apply State.pmuOffBay_bst | apply State.inhibitBay_bst)

theorem State.releaseRidge_bst {q : Bay} {s : State} {x_s : State} {x_b : Bay} (h_x_s : Bst q s x_s) : Bst q s (State.releaseRidge x_s x_b) := by
  unfold State.releaseRidge
  repeat' first
    | (with_reducible first | assumption | exact Bst.refl _)
    | (show _ ≠ _; first | decide | omega | (simp only [keyB, keyC, keyCap, keySite, keyPc, keyA, keyG, keyBench, keyNode, keyEng, keyDma, keyLane, keyLink, keyStream, keyStack, keyPort, keyTpg, key, RBay.BAY_STATE, ne_eq, RBay.MR_LINE]; omega) | (simp only [keyB, keyC, keyCap, keySite, keyPc, keyA, keyG, keyBench, keyNode, keyEng, keyDma, keyLane, keyLink, keyStream, keyStack, keyPort, keyTpg, key, RBay.BAY_STATE, ne_eq, RBay.MR_LINE, List.mem_range, List.mem_cons, List.not_mem_nil, or_false] at *; omega) | (split <;> first | decide | (simp only [keyB, keyC, keyCap, keySite, keyPc, keyA, keyG, keyBench, keyNode, keyEng, keyDma, keyLane, keyLink, keyStream, keyStack, keyPort, keyTpg, key, RBay.BAY_STATE, ne_eq, RBay.MR_LINE]; omega)))
    | intro _
    | (with_reducible first | apply State.each_bst | apply State.driveRidge_bst | apply Bst.ite)
    | split

theorem State.startRounds_bst {q : Bay} {s : State} {x_s : State} {x_b : Bay} (h_x_s : Bst q s x_s) : Bst q s (State.startRounds x_s x_b) := by
  unfold State.startRounds
  repeat' first
    | (with_reducible first | assumption | exact Bst.refl _)
    | (show _ ≠ _; first | decide | omega | (simp only [keyB, keyC, keyCap, keySite, keyPc, keyA, keyG, keyBench, keyNode, keyEng, keyDma, keyLane, keyLink, keyStream, keyStack, keyPort, keyTpg, key, RBay.BAY_STATE, ne_eq, RAssay.ROLL_STATE]; omega) | (simp only [keyB, keyC, keyCap, keySite, keyPc, keyA, keyG, keyBench, keyNode, keyEng, keyDma, keyLane, keyLink, keyStream, keyStack, keyPort, keyTpg, key, RBay.BAY_STATE, ne_eq, RAssay.ROLL_STATE, List.mem_range, List.mem_cons, List.not_mem_nil, or_false] at *; omega) | (split <;> first | decide | (simp only [keyB, keyC, keyCap, keySite, keyPc, keyA, keyG, keyBench, keyNode, keyEng, keyDma, keyLane, keyLink, keyStream, keyStack, keyPort, keyTpg, key, RBay.BAY_STATE, ne_eq, RAssay.ROLL_STATE]; omega)))
    | (intro x_1; refine (fun hx : Bst q s x_1 => ?_) ?_; (clear_value x_1); rotate_left; (unfold x_1))
    | (intro x_1; clear_value x_1)
    | intro _
    | (with_reducible first | apply State.modRoll_bst | apply State.setO_bst)
    | lift_lets -underBinder
    | (refine Bst.upd ?_)

theorem State.fillRing_bst {q : Bay} {s : State} {x_s : State} {x_b : Bay} {x_bad : List Nat} {x_a3 : Nat} (h_x_s : Bst q s x_s) : Bst q s (State.fillRing x_s x_b x_bad x_a3) := by
  induction x_a3 generalizing x_s with
  | zero =>
    unfold State.fillRing
    repeat' first
      | (with_reducible first | assumption | exact Bst.refl _)
      | (intro x_1; refine (fun hx : Bst q s x_1 => ?_) ?_; (clear_value x_1); rotate_left; (unfold x_1))
      | (intro x_1; clear_value x_1)
      | intro _
      | (with_reducible first | apply State.loftFill_bst | apply Bst.ite)
      | lift_lets -underBinder
      | split
      | dsimp only
  | succ k ih =>
    unfold State.fillRing
    repeat' first
      | with_reducible apply ih
      | (with_reducible first | assumption | exact Bst.refl _)
      | (intro x_1; refine (fun hx : Bst q s x_1 => ?_) ?_; (clear_value x_1); rotate_left; (unfold x_1))
      | (intro x_1; clear_value x_1)
      | intro _
      | (with_reducible first | apply State.loftFill_bst | apply Bst.ite)
      | lift_lets -underBinder
      | split
      | dsimp only

theorem State.residentErrors_bst {q : Bay} {s : State} {x_s : State} {x_b : Bay} {x_bad : List Nat} (h_x_s : Bst q s x_s) : Bst q s (State.residentErrors x_s x_b x_bad) := by
  unfold State.residentErrors
  repeat' first
    | (with_reducible first | assumption | exact Bst.refl _)
    | (show _ ≠ _; first | decide | omega | (simp only [keyB, keyC, keyCap, keySite, keyPc, keyA, keyG, keyBench, keyNode, keyEng, keyDma, keyLane, keyLink, keyStream, keyStack, keyPort, keyTpg, key, RBay.BAY_STATE, ne_eq]; omega) | (simp only [keyB, keyC, keyCap, keySite, keyPc, keyA, keyG, keyBench, keyNode, keyEng, keyDma, keyLane, keyLink, keyStream, keyStack, keyPort, keyTpg, key, RBay.BAY_STATE, ne_eq, List.mem_range, List.mem_cons, List.not_mem_nil, or_false] at *; omega) | (split <;> first | decide | (simp only [keyB, keyC, keyCap, keySite, keyPc, keyA, keyG, keyBench, keyNode, keyEng, keyDma, keyLane, keyLink, keyStream, keyStack, keyPort, keyTpg, key, RBay.BAY_STATE, ne_eq]; omega)))
    | (intro x_1; refine (fun hx : Bst q s x_1 => ?_) ?_; (clear_value x_1); rotate_left; (unfold x_1))
    | (intro x_1; clear_value x_1)
    | intro _
    | (with_reducible first | apply State.modBay_bst | apply State.each_bst | apply State.countUe_bst)
    | lift_lets -underBinder
    | dsimp only
    | (refine Bst.upd ?_)

theorem State.beginArming_bst {q : Bay} {s : State} {x_s : State} {x_b : Bay} (h_x_s : Bst q s x_s) : Bst q s (State.beginArming x_s x_b) := by
  unfold State.beginArming
  repeat' first
    | (with_reducible first | assumption | exact Bst.refl _)
    | (show _ ≠ _; first | decide | omega | (simp only [keyB, keyC, keyCap, keySite, keyPc, keyA, keyG, keyBench, keyNode, keyEng, keyDma, keyLane, keyLink, keyStream, keyStack, keyPort, keyTpg, key, RBay.BAY_STATE, ne_eq, RBay.ARM_STATUS, RBay.START_ENTRY]; omega) | (simp only [keyB, keyC, keyCap, keySite, keyPc, keyA, keyG, keyBench, keyNode, keyEng, keyDma, keyLane, keyLink, keyStream, keyStack, keyPort, keyTpg, key, RBay.BAY_STATE, ne_eq, RBay.ARM_STATUS, RBay.START_ENTRY, List.mem_range, List.mem_cons, List.not_mem_nil, or_false] at *; omega) | (split <;> first | decide | (simp only [keyB, keyC, keyCap, keySite, keyPc, keyA, keyG, keyBench, keyNode, keyEng, keyDma, keyLane, keyLink, keyStream, keyStack, keyPort, keyTpg, key, RBay.BAY_STATE, ne_eq, RBay.ARM_STATUS, RBay.START_ENTRY]; omega)))
    | (intro x_1; refine (fun hx : Bst q s x_1 => ?_) ?_; (clear_value x_1); rotate_left; (unfold x_1))
    | (intro x_1; clear_value x_1)
    | intro _
    | (with_reducible first | apply State.setB_bst | apply State.takeShare_bst | apply State.each_bst | apply State.countTag_bst | apply State.ok_bst | apply State.modBay_bst | apply Bst.ite | apply Bst.ite1 | apply Bst.ite2)
    | lift_lets -underBinder
    | split
    | dsimp only
    | (refine Bst.upd ?_)

theorem State.endArming_bst {q : Bay} {s : State} {x_s : State} {x_b : Bay} (h_x_s : Bst q s x_s) : Bst q s (State.endArming x_s x_b) := by
  unfold State.endArming
  repeat' first
    | (with_reducible first | assumption | exact Bst.refl _)
    | (with_reducible first | apply State.dropShares_bst | apply State.clearRun_bst)

theorem State.armLost_bst {q : Bay} {s : State} {x_s : State} {x_b : Bay} (h_x_s : Bst q s x_s) : Bst q s (State.armLost x_s x_b) := by
  unfold State.armLost
  repeat' first
    | (with_reducible first | assumption | exact Bst.refl _)
    | (show _ ≠ _; first | decide | omega | (simp only [keyB, keyC, keyCap, keySite, keyPc, keyA, keyG, keyBench, keyNode, keyEng, keyDma, keyLane, keyLink, keyStream, keyStack, keyPort, keyTpg, key, RBay.BAY_STATE, ne_eq, RBay.ARM_STATUS]; omega) | (simp only [keyB, keyC, keyCap, keySite, keyPc, keyA, keyG, keyBench, keyNode, keyEng, keyDma, keyLane, keyLink, keyStream, keyStack, keyPort, keyTpg, key, RBay.BAY_STATE, ne_eq, RBay.ARM_STATUS, List.mem_range, List.mem_cons, List.not_mem_nil, or_false] at *; omega) | (split <;> first | decide | (simp only [keyB, keyC, keyCap, keySite, keyPc, keyA, keyG, keyBench, keyNode, keyEng, keyDma, keyLane, keyLink, keyStream, keyStack, keyPort, keyTpg, key, RBay.BAY_STATE, ne_eq, RBay.ARM_STATUS]; omega)))
    | (with_reducible first | apply State.event_bst | apply State.setB_bst | apply State.endArming_bst | apply Bst.ite)
    | split

theorem State.refuseMates_bst {q : Bay} {s : State} {x_s : State} {x_b : Bay} (h_x_s : Bst q s x_s) : Bst q s (State.refuseMates x_s x_b) := by
  unfold State.refuseMates
  repeat' first
    | (with_reducible first | assumption | exact Bst.refl _)
    | (show _ ≠ _; first | decide | omega | (simp only [keyB, keyC, keyCap, keySite, keyPc, keyA, keyG, keyBench, keyNode, keyEng, keyDma, keyLane, keyLink, keyStream, keyStack, keyPort, keyTpg, key, RBay.BAY_STATE, ne_eq, RBay.ARM_STATUS, RBay.TABLE_DIGEST]; omega) | (simp only [keyB, keyC, keyCap, keySite, keyPc, keyA, keyG, keyBench, keyNode, keyEng, keyDma, keyLane, keyLink, keyStream, keyStack, keyPort, keyTpg, key, RBay.BAY_STATE, ne_eq, RBay.ARM_STATUS, RBay.TABLE_DIGEST, List.mem_range, List.mem_cons, List.not_mem_nil, or_false] at *; omega) | (split <;> first | decide | (simp only [keyB, keyC, keyCap, keySite, keyPc, keyA, keyG, keyBench, keyNode, keyEng, keyDma, keyLane, keyLink, keyStream, keyStack, keyPort, keyTpg, key, RBay.BAY_STATE, ne_eq, RBay.ARM_STATUS, RBay.TABLE_DIGEST]; omega)))
    | (intro x_1; refine (fun hx : Bst q s x_1 => ?_) ?_; (clear_value x_1); rotate_left; (unfold x_1))
    | (intro x_1; clear_value x_1)
    | intro _
    | (with_reducible first | apply State.each_bst | apply State.setB_bst | apply State.event_bst | apply State.endArming_bst | apply Bst.ite)
    | lift_lets -underBinder
    | split
    | dsimp only

theorem State.refuseArm_bst {q : Bay} {s : State} {x_s : State} {x_b : Bay} {x_f : ArmFail} (h_x_s : Bst q s x_s) : Bst q s (State.refuseArm x_s x_b x_f) := by
  unfold State.refuseArm
  repeat' first
    | (with_reducible first | assumption | exact Bst.refl _)
    | (show _ ≠ _; first | decide | omega | (simp only [keyB, keyC, keyCap, keySite, keyPc, keyA, keyG, keyBench, keyNode, keyEng, keyDma, keyLane, keyLink, keyStream, keyStack, keyPort, keyTpg, key, RBay.BAY_STATE, ne_eq, RBay.ARM_DETAIL, RBay.ARM_STATUS, RBay.CAP_ARM_DETAIL]; omega) | (simp only [keyB, keyC, keyCap, keySite, keyPc, keyA, keyG, keyBench, keyNode, keyEng, keyDma, keyLane, keyLink, keyStream, keyStack, keyPort, keyTpg, key, RBay.BAY_STATE, ne_eq, RBay.ARM_DETAIL, RBay.ARM_STATUS, RBay.CAP_ARM_DETAIL, List.mem_range, List.mem_cons, List.not_mem_nil, or_false] at *; omega) | (split <;> first | decide | (simp only [keyB, keyC, keyCap, keySite, keyPc, keyA, keyG, keyBench, keyNode, keyEng, keyDma, keyLane, keyLink, keyStream, keyStack, keyPort, keyTpg, key, RBay.BAY_STATE, ne_eq, RBay.ARM_DETAIL, RBay.ARM_STATUS, RBay.CAP_ARM_DETAIL]; omega)))
    | (intro x_1; refine (fun hx : Bst q s x_1 => ?_) ?_; (clear_value x_1); rotate_left; (unfold x_1))
    | (intro x_1; clear_value x_1)
    | intro _
    | (with_reducible first | apply State.refuseMates_bst | apply State.setB_bst | apply State.answerD_bst | apply State.event_bst | apply Bst.ite)
    | lift_lets -underBinder
    | split
    | dsimp only
    | (refine Bst.upd ?_)

theorem State.armShow_bst {q : Bay} {s : State} {x_s : State} {x_b : Bay} (h_x_s : Bst q s x_s) : Bst q s (State.armShow x_s x_b) := by
  unfold State.armShow
  repeat' first
    | (with_reducible first | assumption | exact Bst.refl _)
    | (show _ ≠ _; first | decide | omega | (simp only [keyB, keyC, keyCap, keySite, keyPc, keyA, keyG, keyBench, keyNode, keyEng, keyDma, keyLane, keyLink, keyStream, keyStack, keyPort, keyTpg, key, RBay.BAY_STATE, ne_eq, RBay.TABLE_DIGEST]; omega) | (simp only [keyB, keyC, keyCap, keySite, keyPc, keyA, keyG, keyBench, keyNode, keyEng, keyDma, keyLane, keyLink, keyStream, keyStack, keyPort, keyTpg, key, RBay.BAY_STATE, ne_eq, RBay.TABLE_DIGEST, List.mem_range, List.mem_cons, List.not_mem_nil, or_false] at *; omega) | (split <;> first | decide | (simp only [keyB, keyC, keyCap, keySite, keyPc, keyA, keyG, keyBench, keyNode, keyEng, keyDma, keyLane, keyLink, keyStream, keyStack, keyPort, keyTpg, key, RBay.BAY_STATE, ne_eq, RBay.TABLE_DIGEST]; omega)))
    | (intro x_1; refine (fun hx : Bst q s x_1 => ?_) ?_; (clear_value x_1); rotate_left; (unfold x_1))
    | (intro x_1; clear_value x_1)
    | intro _
    | (with_reducible first | apply State.showRates_bst | apply State.showLoft_bst | apply State.setB_bst)
    | lift_lets -underBinder

theorem State.arm_bst {q : Bay} {s : State} {x_s : State} {x_b : Bay} (h_x_s : Bst q s x_s) : Bst q s (State.arm x_s x_b) := by
  unfold State.arm
  repeat' first
    | (with_reducible first | assumption | exact Bst.refl _ | apply State.answer_bst | apply State.armShow_bst | apply State.refuseArm_bst | apply State.beginArming_bst | exact BstO.none | apply BstO.some | apply BstO.ite | apply Bst.ite)
    | split
    | (refine Bst.upd ?_)

theorem State.reloadCounters_bst {q : Bay} {s : State} {x_s : State} {x_b : Bay} (h_x_s : Bst q s x_s) : Bst q s (State.reloadCounters x_s x_b) := by
  unfold State.reloadCounters
  repeat' first
    | (with_reducible first | assumption | exact Bst.refl _)
    | (show _ ≠ _; first | decide | omega | (simp only [keyB, keyC, keyCap, keySite, keyPc, keyA, keyG, keyBench, keyNode, keyEng, keyDma, keyLane, keyLink, keyStream, keyStack, keyPort, keyTpg, key, RBay.BAY_STATE, ne_eq, RBay.CNT_RELOAD, RBay.CNT_VALUE]; omega) | (simp only [keyB, keyC, keyCap, keySite, keyPc, keyA, keyG, keyBench, keyNode, keyEng, keyDma, keyLane, keyLink, keyStream, keyStack, keyPort, keyTpg, key, RBay.BAY_STATE, ne_eq, RBay.CNT_RELOAD, RBay.CNT_VALUE, List.mem_range, List.mem_cons, List.not_mem_nil, or_false] at *; omega) | (split <;> first | decide | (simp only [keyB, keyC, keyCap, keySite, keyPc, keyA, keyG, keyBench, keyNode, keyEng, keyDma, keyLane, keyLink, keyStream, keyStack, keyPort, keyTpg, key, RBay.BAY_STATE, ne_eq, RBay.CNT_RELOAD, RBay.CNT_VALUE]; omega)))
    | intro _
    | (with_reducible first | apply State.each_bst | apply State.setB_bst)

theorem State.armChan_bst {q : Bay} {s : State} {x_s : State} {x_c : Chan} (h_x_s : Bst q s x_s) : Bst q s (State.armChan x_s x_c) := by
  unfold State.armChan
  repeat' first
    | (with_reducible first | assumption | exact Bst.refl _)
    | (intro x_1; refine (fun hx : Bst q s x_1 => ?_) ?_; (clear_value x_1); rotate_left; (unfold x_1))
    | (intro x_1; clear_value x_1)
    | intro _
    | (with_reducible first | apply State.each_bst | apply State.setC_bst | apply State.modChan_bst)
    | lift_lets -underBinder
    | (refine Bst.upd ?_)

theorem State.stateRequest_bst {q : Bay} {s : State} {x_s : State} {x_b : Bay} {x_epoch : BitVec 16} {x_off : Bool} (x_k : State → State) (h_x_s : Bst q s x_s) (h_x_k : ∀ (v0 : State), Bst q s v0 → Bst q s (x_k v0)) : Bst q s (State.stateRequest x_s x_b x_epoch x_off x_k) := by
  unfold State.stateRequest
  repeat' first
    | (with_reducible first | assumption | exact Bst.refl _ | apply h_x_k | apply State.answer_bst | apply State.stale_bst | apply Bst.ite)

theorem State.inStates_bst {q : Bay} {s : State} {x_s : State} {x_b : Bay} {x_from_ : List Nat} (x_k : State → State) (h_x_s : Bst q s x_s) (h_x_k : ∀ (v0 : State), Bst q s v0 → Bst q s (x_k v0)) : Bst q s (State.inStates x_s x_b x_from_ x_k) := by
  unfold State.inStates
  repeat' first
    | (with_reducible first | assumption | exact Bst.refl _ | apply h_x_k | apply State.ok_bst | apply State.answer_bst | apply Bst.ite)

theorem State.claimWrite_bst {q : Bay} {s : State} {x_s : State} {x_r : Resource} {x_owner : Nat} {x_feature : Nat} (h_x_s : Bst q s x_s) : Bst q s (State.claimWrite x_s x_r x_owner x_feature) := by
  unfold State.claimWrite
  repeat' first
    | (with_reducible first | assumption | exact Bst.refl _)
    | intro _
    | (with_reducible first | apply State.answer_bst | apply State.answerD_bst | apply State.ok_bst | apply State.setClaim_bst | exact BstO.none | apply BstO.some | apply BstO.ite | apply Bst.ite)
    | split
    | (refine Bst.upd ?_)

theorem State.releaseSpare_bst {q : Bay} {s : State} {x_s : State} {x_r : Resource} (h_x_s : Bst q s x_s) : Bst q s (State.releaseSpare x_s x_r) := by
  unfold State.releaseSpare
  repeat' first
    | (with_reducible first | assumption | exact Bst.refl _ | apply State.ownPath_bst | apply State.rollAbort_bst)
    | split
    | (refine Bst.upd ?_)

theorem State.releaseWrite_bst {q : Bay} {s : State} {x_s : State} {x_r : Resource} (h_x_s : Bst q s x_s) : Bst q s (State.releaseWrite x_s x_r) := by
  unfold State.releaseWrite
  repeat' first
    | (with_reducible first | assumption | exact Bst.refl _)
    | intro _
    | (with_reducible first | apply State.answer_bst | apply State.ok_bst | apply State.freeClaim_bst | apply State.releaseSpare_bst | apply Bst.ite)

theorem State.latch_bst {q : Bay} {s : State} {x_s : State} {x_b : Bay} {x_n : Nat} (h_x_s : Bst q s x_s) : Bst q s (State.latch x_s x_b x_n) := by
  unfold State.latch
  repeat' first
    | (with_reducible first | assumption | exact Bst.refl _)
    | intro _
    | with_reducible apply State.modBay_bst
    | (refine Bst.upd ?_)

theorem State.ridgeAt_bst {q : Bay} {s : State} {x_s : State} {x_b : Bay} {x_line : Nat} {x_level : Bool} (h_x_s : Bst q s x_s) : Bst q s (State.ridgeAt x_s x_b x_line x_level) := by
  unfold State.ridgeAt
  repeat' first
    | (with_reducible first | assumption | exact Bst.refl _)
    | (intro x_1; refine (fun hx : Bst q s x_1 => ?_) ?_; (clear_value x_1); rotate_left; (unfold x_1))
    | (intro x_1; clear_value x_1)
    | intro _
    | (with_reducible first | apply State.dropEvent_bst | apply State.postJump_bst | apply State.load_bst | apply State.edgeTrigger_bst | apply Bst.ite)
    | lift_lets -underBinder

theorem State.atMembers_bst {q : Bay} {s : State} {x_s : State} {x_i : Site} (x_k : State → Bay → State) (h_x_s : Bst q s x_s) (h_x_k : ∀ (v0 : State) (v1 : Bay), Bst q s v0 → Bst q s (x_k v0 v1)) : Bst q s (State.atMembers x_s x_i x_k) := by
  unfold State.atMembers
  repeat' first
    | (with_reducible first | assumption | exact Bst.refl _)
    | (show _ ≠ _; first | decide | omega | (simp only [keyB, keyC, keyCap, keySite, keyPc, keyA, keyG, keyBench, keyNode, keyEng, keyDma, keyLane, keyLink, keyStream, keyStack, keyPort, keyTpg, key, RBay.BAY_STATE, ne_eq]; omega) | (simp only [keyB, keyC, keyCap, keySite, keyPc, keyA, keyG, keyBench, keyNode, keyEng, keyDma, keyLane, keyLink, keyStream, keyStack, keyPort, keyTpg, key, RBay.BAY_STATE, ne_eq, List.mem_range, List.mem_cons, List.not_mem_nil, or_false] at *; omega) | (split <;> first | decide | (simp only [keyB, keyC, keyCap, keySite, keyPc, keyA, keyG, keyBench, keyNode, keyEng, keyDma, keyLane, keyLink, keyStream, keyStack, keyPort, keyTpg, key, RBay.BAY_STATE, ne_eq]; omega)))
    | intro _
    | (with_reducible first | apply h_x_k | apply State.each_bst | apply State.dropEvent_bst | apply Bst.ite)
    | split

theorem State.purlinFreeze_bst {q : Bay} {s : State} {x_s : State} {x_b : Bay} (h_x_s : Bst q s x_s) : Bst q s (State.purlinFreeze x_s x_b) := by
  unfold State.purlinFreeze
  repeat' first
    | (with_reducible first | assumption | exact Bst.refl _)
    | (with_reducible first | apply State.freezeAt_bst | apply Bst.ite)
    | split

theorem State.changeBclk_bst {q : Bay} {s : State} {x_s : State} {x_b : Bay} {x_mhz : Nat} (h_x_s : Bst q s x_s) : Bst q s (State.changeBclk x_s x_b x_mhz) := by
  unfold State.changeBclk
  repeat' first
    | (with_reducible first | assumption | exact Bst.refl _)
    | (show _ ≠ _; first | decide | omega | (simp only [keyB, keyC, keyCap, keySite, keyPc, keyA, keyG, keyBench, keyNode, keyEng, keyDma, keyLane, keyLink, keyStream, keyStack, keyPort, keyTpg, key, RBay.BAY_STATE, ne_eq, R.LOCK_MASK, RChan.DRV_MIN_PULSE]; omega) | (simp only [keyB, keyC, keyCap, keySite, keyPc, keyA, keyG, keyBench, keyNode, keyEng, keyDma, keyLane, keyLink, keyStream, keyStack, keyPort, keyTpg, key, RBay.BAY_STATE, ne_eq, R.LOCK_MASK, RChan.DRV_MIN_PULSE, List.mem_range, List.mem_cons, List.not_mem_nil, or_false] at *; omega) | (split <;> first | decide | (simp only [keyB, keyC, keyCap, keySite, keyPc, keyA, keyG, keyBench, keyNode, keyEng, keyDma, keyLane, keyLink, keyStream, keyStack, keyPort, keyTpg, key, RBay.BAY_STATE, ne_eq, R.LOCK_MASK, RChan.DRV_MIN_PULSE]; omega)))
    | (intro x_1; refine (fun hx : Bst q s x_1 => ?_) ?_; (clear_value x_1); rotate_left; (unfold x_1))
    | (intro x_1; clear_value x_1)
    | intro _
    | (with_reducible first | apply State.answer_bst | apply State.setO_bst | apply State.armLost_bst | apply State.rollAbort_bst | apply State.modRoll_bst | apply State.ok_bst | apply State.modBay_bst | apply Bst.ite)
    | lift_lets -underBinder
    | split
    | dsimp only
    | (refine Bst.upd ?_)

theorem execStateRequestPause_bst {q : Bay} {s : State} {x_b : Bay} {x_epoch : BitVec 16} {x_s : State} (h_x_s : Bst q s x_s) : BstN q s (execStateRequestPause x_b x_epoch x_s) := by
  unfold execStateRequestPause
  repeat' first
    | (with_reducible first | assumption | exact Bst.refl _)
    | intro _
    | (with_reducible first | apply State.stateRequest_bst | apply State.inStates_bst | apply State.modBay_bst | apply BstN.next | apply BstN.ite)
    | (refine Bst.upd ?_)

theorem execStateRequestRun_bst {q : Bay} {s : State} {x_b : Bay} {x_epoch : BitVec 16} {x_s : State} (h_x_s : Bst q s x_s) : BstN q s (execStateRequestRun x_b x_epoch x_s) := by
  unfold execStateRequestRun
  repeat' first
    | (with_reducible first | assumption | exact Bst.refl _)
    | intro _
    | (with_reducible first | apply State.stateRequest_bst | apply State.inStates_bst | apply State.modBay_bst | apply BstN.next | apply BstN.ite)
    | (refine Bst.upd ?_)

theorem execStateRequestArm_bst {q : Bay} {s : State} {x_b : Bay} {x_epoch : BitVec 16} {x_s : State} (h_x_s : Bst q s x_s) : BstN q s (execStateRequestArm x_b x_epoch x_s) := by
  unfold execStateRequestArm
  repeat' first
    | (with_reducible first | assumption | exact Bst.refl _)
    | intro _
    | (with_reducible first | apply State.stateRequest_bst | apply State.arm_bst | apply BstN.next | apply BstN.ite)

theorem execStateRequestStop_bst {q : Bay} {s : State} {x_b : Bay} {x_epoch : BitVec 16} {x_s : State} (h_x_s : Bst q s x_s) : BstN q s (execStateRequestStop x_b x_epoch x_s) := by
  unfold execStateRequestStop
  repeat' first
    | (with_reducible first | assumption | exact Bst.refl _)
    | intro _
    | (with_reducible first | apply State.stateRequest_bst | apply State.inStates_bst | apply State.modBay_bst | apply BstN.next | apply BstN.ite)
    | (refine Bst.upd ?_)

theorem execQuadRetire_bst {q : Bay} {s : State} {x_b : Bay} {x_host : BitVec 4} {x_s : State} (h_x_s : Bst q s x_s) : BstN q s (execQuadRetire x_b x_host x_s) := by
  unfold execQuadRetire
  repeat' first
    | (with_reducible first | assumption | exact Bst.refl _)
    | (intro x_1; refine (fun hx : Bst q s x_1 => ?_) ?_; (clear_value x_1); rotate_left; (unfold x_1))
    | (intro x_1; clear_value x_1)
    | intro _
    | (with_reducible first | apply State.retireSoon_bst | apply State.retireDue_bst | apply BstN.next | apply BstN.ite | apply Bst.ite)
    | lift_lets -underBinder
    | split
    | dsimp only

theorem State.hostClaim_bst {q : Bay} {s : State} {x_s : State} {x_r : Resource} {x_epoch : BitVec 16} (x_k : State → State) (h_x_s : Bst q s x_s) (h_x_k : ∀ (v0 : State), Bst q s v0 → Bst q s (x_k v0)) : Bst q s (State.hostClaim x_s x_r x_epoch x_k) := by
  unfold State.hostClaim
  repeat' first
    | (with_reducible first | assumption | exact Bst.refl _)
    | intro _
    | (with_reducible first | apply h_x_k | apply State.hostFirm_bst | apply State.hostBay_bst)
    | split
    | (refine Bst.upd ?_)

theorem execResourceClaim_bst {q : Bay} {s : State} {x_r : Resource} {x_epoch : BitVec 16} {x_feature : BitVec 8} {x_owner : BitVec 12} {x_s : State} (h_x_s : Bst q s x_s) : BstN q s (execResourceClaim x_r x_epoch x_feature x_owner x_s) := by
  unfold execResourceClaim
  repeat' first
    | (with_reducible first | assumption | exact Bst.refl _)
    | intro _
    | (with_reducible first | apply State.hostClaim_bst | apply State.claimWrite_bst | apply BstN.next | apply BstN.ite)

theorem execResourceRelease_bst {q : Bay} {s : State} {x_r : Resource} {x_epoch : BitVec 16} {x_s : State} (h_x_s : Bst q s x_s) : BstN q s (execResourceRelease x_r x_epoch x_s) := by
  unfold execResourceRelease
  repeat' first
    | (with_reducible first | assumption | exact Bst.refl _)
    | intro _
    | (with_reducible first | apply State.hostClaim_bst | apply State.releaseWrite_bst | apply BstN.next | apply BstN.ite)

theorem execBclkChange_bst {q : Bay} {s : State} {x_b : Bay} {x_epoch : BitVec 16} {x_mhz : Nat} {x_s : State} (h_x_s : Bst q s x_s) : BstN q s (execBclkChange x_b x_epoch x_mhz x_s) := by
  unfold execBclkChange
  repeat' first
    | (with_reducible first | assumption | exact Bst.refl _)
    | intro _
    | (with_reducible first | apply State.hostBayFirm_bst | apply State.changeBclk_bst | apply BstN.next | apply BstN.ite)

theorem execClockUnlock_bst {q : Bay} {s : State} {x_b : Bay} {x_fine : Bool} {x_s : State} (h_x_s : Bst q s x_s) : BstN q s (execClockUnlock x_b x_fine x_s) := by
  unfold execClockUnlock
  repeat' first
    | (with_reducible first | assumption | exact Bst.refl _)
    | (intro x_1; refine (fun hx : Bst q s x_1 => ?_) ?_; (clear_value x_1); rotate_left; (unfold x_1))
    | (intro x_1; clear_value x_1)
    | intro _
    | (with_reducible first | apply State.modBay_bst | apply State.unlock_bst | apply State.armLost_bst | apply State.fault_bst | apply BstN.next | apply BstN.ite | apply Bst.ite)
    | lift_lets -underBinder
    | split
    | dsimp only
    | (refine Bst.upd ?_)

end Sys2Proof.Machine
end

