-- ==== Sys2Proof/Laws/BstBench.lean ====
section
/-! SUPPORT. What the operations of Machine/Bench.lean keep. -/

set_option linter.all false

namespace Sys2Proof.Machine

theorem State.setG_bst {q : Bay} {s : State} {x_s : State} {x_g : Nat} {x_sub : Nat} {x_v : Nat} (h_x_s : Bst q s x_s) : Bst q s (State.setG x_s x_g x_sub x_v) := by
  unfold State.setG
  repeat' first
    | (with_reducible first | assumption | exact Bst.refl _)
    | (show _ ≠ _; first | decide | omega | (simp only [keyB, keyC, keyCap, keySite, keyPc, keyA, keyG, keyBench, keyNode, keyEng, keyDma, keyLane, keyLink, keyStream, keyStack, keyPort, keyTpg, key, RBay.BAY_STATE, ne_eq]; omega) | (simp only [keyB, keyC, keyCap, keySite, keyPc, keyA, keyG, keyBench, keyNode, keyEng, keyDma, keyLane, keyLink, keyStream, keyStack, keyPort, keyTpg, key, RBay.BAY_STATE, ne_eq, List.mem_range, List.mem_cons, List.not_mem_nil, or_false] at *; omega) | (split <;> first | decide | (simp only [keyB, keyC, keyCap, keySite, keyPc, keyA, keyG, keyBench, keyNode, keyEng, keyDma, keyLane, keyLink, keyStream, keyStack, keyPort, keyTpg, key, RBay.BAY_STATE, ne_eq]; omega)))
    | with_reducible apply State.setO_bst

theorem State.addG_bst {q : Bay} {s : State} {x_s : State} {x_g : Nat} {x_sub : Nat} {x_n : Nat} (h_x_s : Bst q s x_s) : Bst q s (State.addG x_s x_g x_sub x_n) := by
  unfold State.addG
  repeat' first
    | (with_reducible first | assumption | exact Bst.refl _ | apply State.setG_bst)

theorem State.modBench_bst {q : Bay} {s : State} {x_s : State} {x_n : Bench} {x_f : BenchU → BenchU} (h_x_s : Bst q s x_s) : Bst q s (State.modBench x_s x_n x_f) := by
  unfold State.modBench
  repeat' first
    | (with_reducible first | assumption | exact Bst.refl _)
    | (refine Bst.upd ?_)

theorem State.modCore_bst {q : Bay} {s : State} {x_s : State} {x_n : Bench} {x_c : Fin 16} {x_f : Core → Core} (h_x_s : Bst q s x_s) : Bst q s (State.modCore x_s x_n x_c x_f) := by
  unfold State.modCore
  repeat' first
    | (with_reducible first | assumption | exact Bst.refl _)
    | intro _
    | with_reducible apply State.modBench_bst
    | (refine Bst.upd ?_)

theorem State.showCatalogue_bst {q : Bay} {s : State} {x_s : State} (h_x_s : Bst q s x_s) : Bst q s (State.showCatalogue x_s) := by
  unfold State.showCatalogue
  repeat' first
    | (with_reducible first | assumption | exact Bst.refl _)
    | (show _ ≠ _; first | decide | omega | (simp only [keyB, keyC, keyCap, keySite, keyPc, keyA, keyG, keyBench, keyNode, keyEng, keyDma, keyLane, keyLink, keyStream, keyStack, keyPort, keyTpg, key, RBay.BAY_STATE, ne_eq, R.CATALOGUE_VERSION, R.KERNEL_COUNT, RBench.BENCH_CATALOGUE]; omega) | (simp only [keyB, keyC, keyCap, keySite, keyPc, keyA, keyG, keyBench, keyNode, keyEng, keyDma, keyLane, keyLink, keyStream, keyStack, keyPort, keyTpg, key, RBay.BAY_STATE, ne_eq, R.CATALOGUE_VERSION, R.KERNEL_COUNT, RBench.BENCH_CATALOGUE, List.mem_range, List.mem_cons, List.not_mem_nil, or_false] at *; omega) | (split <;> first | decide | (simp only [keyB, keyC, keyCap, keySite, keyPc, keyA, keyG, keyBench, keyNode, keyEng, keyDma, keyLane, keyLink, keyStream, keyStack, keyPort, keyTpg, key, RBay.BAY_STATE, ne_eq, R.CATALOGUE_VERSION, R.KERNEL_COUNT, RBench.BENCH_CATALOGUE]; omega)))
    | (intro x_1; refine (fun hx : Bst q s x_1 => ?_) ?_; (clear_value x_1); rotate_left; (unfold x_1))
    | (intro x_1; clear_value x_1)
    | intro _
    | (with_reducible first | apply State.setO_bst | exact BstO.none | apply BstO.some | apply BstO.ite | apply Bst.ite)
    | lift_lets -underBinder
    | split
    | (refine Bst.upd ?_)

theorem State.setBench_bst {q : Bay} {s : State} {x_s : State} {x_n : Bench} {x_st : Nat} (h_x_s : Bst q s x_s) : Bst q s (State.setBench x_s x_n x_st) := by
  unfold State.setBench
  repeat' first
    | (with_reducible first | assumption | exact Bst.refl _)
    | (show _ ≠ _; first | decide | omega | (simp only [keyB, keyC, keyCap, keySite, keyPc, keyA, keyG, keyBench, keyNode, keyEng, keyDma, keyLane, keyLink, keyStream, keyStack, keyPort, keyTpg, key, RBay.BAY_STATE, ne_eq, RBench.BENCH_STATE]; omega) | (simp only [keyB, keyC, keyCap, keySite, keyPc, keyA, keyG, keyBench, keyNode, keyEng, keyDma, keyLane, keyLink, keyStream, keyStack, keyPort, keyTpg, key, RBay.BAY_STATE, ne_eq, RBench.BENCH_STATE, List.mem_range, List.mem_cons, List.not_mem_nil, or_false] at *; omega) | (split <;> first | decide | (simp only [keyB, keyC, keyCap, keySite, keyPc, keyA, keyG, keyBench, keyNode, keyEng, keyDma, keyLane, keyLink, keyStream, keyStack, keyPort, keyTpg, key, RBay.BAY_STATE, ne_eq, RBench.BENCH_STATE]; omega)))
    | (with_reducible first | apply State.showCatalogue_bst | apply State.setO_bst)

theorem State.dropRef_bst {q : Bay} {s : State} {x_s : State} {x_g : Nat} {x_value : Nat} (h_x_s : Bst q s x_s) : Bst q s (State.dropRef x_s x_g x_value) := by
  unfold State.dropRef
  repeat' first
    | (with_reducible first | assumption | exact Bst.refl _)
    | intro _
    | with_reducible apply Bst.ite
    | (refine Bst.upd ?_)

theorem State.addRef_bst {q : Bay} {s : State} {x_s : State} {x_g : Nat} {x_value : Nat} {x_copies : Nat} (h_x_s : Bst q s x_s) : Bst q s (State.addRef x_s x_g x_value x_copies) := by
  unfold State.addRef
  repeat' first
    | (with_reducible first | assumption | exact Bst.refl _)
    | intro _
    | with_reducible apply Bst.ite
    | (refine Bst.upd ?_)

theorem State.consumeOps_bst {q : Bay} {s : State} {x_s : State} {x_w : Work} (h_x_s : Bst q s x_s) : Bst q s (State.consumeOps x_s x_w) := by
  unfold State.consumeOps
  repeat' first
    | (with_reducible first | assumption | exact Bst.refl _)
    | intro _
    | (with_reducible first | apply State.each_bst | apply State.dropRef_bst)

theorem State.discard_bst {q : Bay} {s : State} {x_s : State} {x_t : List Token} (h_x_s : Bst q s x_s) : Bst q s (State.discard x_s x_t) := by
  unfold State.discard
  repeat' first
    | (with_reducible first | assumption | exact Bst.refl _)
    | intro _
    | (with_reducible first | apply State.each_bst | apply State.addG_bst | apply State.dropRef_bst | apply Bst.ite)

theorem State.countError_bst {q : Bay} {s : State} {x_s : State} {x_g : Nat} {x_n : Nat} {x_code : Nat} (h_x_s : Bst q s x_s) : Bst q s (State.countError x_s x_g x_n x_code) := by
  unfold State.countError
  repeat' first
    | (with_reducible first | assumption | exact Bst.refl _)
    | (show _ ≠ _; first | decide | omega | (simp only [keyB, keyC, keyCap, keySite, keyPc, keyA, keyG, keyBench, keyNode, keyEng, keyDma, keyLane, keyLink, keyStream, keyStack, keyPort, keyTpg, key, RBay.BAY_STATE, ne_eq]; omega) | (simp only [keyB, keyC, keyCap, keySite, keyPc, keyA, keyG, keyBench, keyNode, keyEng, keyDma, keyLane, keyLink, keyStream, keyStack, keyPort, keyTpg, key, RBay.BAY_STATE, ne_eq, List.mem_range, List.mem_cons, List.not_mem_nil, or_false] at *; omega) | (split <;> first | decide | (simp only [keyB, keyC, keyCap, keySite, keyPc, keyA, keyG, keyBench, keyNode, keyEng, keyDma, keyLane, keyLink, keyStream, keyStack, keyPort, keyTpg, key, RBay.BAY_STATE, ne_eq]; omega)))
    | (intro x_1; refine (fun hx : Bst q s x_1 => ?_) ?_; (clear_value x_1); rotate_left; (unfold x_1))
    | (intro x_1; clear_value x_1)
    | intro _
    | (with_reducible first | apply State.setO_bst | apply State.event_bst)
    | lift_lets -underBinder

theorem State.fire_bst {q : Bay} {s : State} {x_s : State} {x_w : Work} (h_x_s : Bst q s x_s) : Bst q s (State.fire x_s x_w) := by
  unfold State.fire
  repeat' first
    | (with_reducible first | assumption | exact Bst.refl _)
    | (intro x_1; refine (fun hx : Bst q s x_1 => ?_) ?_; (clear_value x_1); rotate_left; (unfold x_1))
    | (intro x_1; clear_value x_1)
    | intro _
    | (with_reducible first | apply State.modBench_bst | apply Bst.ite)
    | lift_lets -underBinder
    | split
    | dsimp only
    | (refine Bst.upd ?_)

theorem State.collide_bst {q : Bay} {s : State} {x_s : State} {x_t : Token} (h_x_s : Bst q s x_s) : Bst q s (State.collide x_s x_t) := by
  unfold State.collide
  repeat' first
    | (with_reducible first | assumption | exact Bst.refl _ | apply State.fault_bst | apply State.discard_bst)

theorem State.takeToken_bst {q : Bay} {s : State} {x_s : State} {x_t : Token} (h_x_s : Bst q s x_s) : BstO q s (State.takeToken x_s x_t) := by
  unfold State.takeToken
  repeat' first
    | (with_reducible first | assumption | exact Bst.refl _)
    | (intro x_1; refine (fun hx : Bst q s x_1 => ?_) ?_; (clear_value x_1); rotate_left; (unfold x_1))
    | (intro x_1; clear_value x_1)
    | intro _
    | (with_reducible first | apply State.collide_bst | apply State.fire_bst | exact BstO.none | apply BstO.some | apply BstO.ite | apply Bst.ite)
    | lift_lets -underBinder
    | split
    | dsimp only
    | (refine Bst.upd ?_)

theorem State.outside_bst {q : Bay} {s : State} {x_s : State} {x_t : Token} (h_x_s : Bst q s x_s) : BstO q s (State.outside x_s x_t) := by
  unfold State.outside
  repeat' first
    | (with_reducible first | assumption | exact Bst.refl _ | apply State.takeToken_bst | refine (State.takeToken_bst ?_).out (by assumption) | exact BstO.none | apply BstO.some | apply BstO.ite | apply Bst.ite)

theorem State.enterReady_bst {q : Bay} {s : State} {x_s : State} (h_x_s : Bst q s x_s) : Bst q s (State.enterReady x_s) := by
  unfold State.enterReady
  repeat' first
    | (with_reducible first | assumption | exact Bst.refl _)
    | (intro x_1; refine (fun hx : Bst q s x_1 => ?_) ?_; (clear_value x_1); rotate_left; (unfold x_1))
    | (intro x_1; clear_value x_1)
    | intro _
    | (with_reducible first | apply State.each_bst | apply State.modBench_bst | apply Bst.ite)
    | lift_lets -underBinder
    | (refine Bst.upd ?_)

theorem State.startWork_bst {q : Bay} {s : State} {x_s : State} {x_n : Bench} {x_c : Fin 16} {x_w : Work} (h_x_s : Bst q s x_s) : Bst q s (State.startWork x_s x_n x_c x_w) := by
  unfold State.startWork
  repeat' first
    | (with_reducible first | assumption | exact Bst.refl _)
    | (intro x_1; refine (fun hx : Bst q s x_1 => ?_) ?_; (clear_value x_1); rotate_left; (unfold x_1))
    | (intro x_1; clear_value x_1)
    | intro _
    | (with_reducible first | apply State.modCore_bst | exact BstO.none | apply BstO.some | apply BstO.ite)
    | lift_lets -underBinder
    | (refine Bst.upd ?_)

theorem State.nextWork_bst {q : Bay} {s : State} {x_s : State} {x_n : Bench} {x_c : Fin 16} (h_x_s : Bst q s x_s) : Bst q s (State.nextWork x_s x_n x_c) := by
  unfold State.nextWork
  repeat' first
    | (with_reducible first | assumption | exact Bst.refl _)
    | intro _
    | (with_reducible first | apply State.startWork_bst | apply State.modCore_bst | apply Bst.ite | apply Bst.ite1 | apply Bst.ite2)
    | split
    | dsimp only
    | (refine Bst.upd ?_)

theorem State.postBlocked_bst {q : Bay} {s : State} {x_s : State} (h_x_s : Bst q s x_s) : Bst q s (State.postBlocked x_s) := by
  unfold State.postBlocked
  repeat' first
    | (with_reducible first | assumption | exact Bst.refl _)
    | (show _ ≠ _; first | decide | omega | (simp only [keyB, keyC, keyCap, keySite, keyPc, keyA, keyG, keyBench, keyNode, keyEng, keyDma, keyLane, keyLink, keyStream, keyStack, keyPort, keyTpg, key, RBay.BAY_STATE, ne_eq]; omega) | (simp only [keyB, keyC, keyCap, keySite, keyPc, keyA, keyG, keyBench, keyNode, keyEng, keyDma, keyLane, keyLink, keyStream, keyStack, keyPort, keyTpg, key, RBay.BAY_STATE, ne_eq, List.mem_range, List.mem_cons, List.not_mem_nil, or_false] at *; omega) | (split <;> first | decide | (simp only [keyB, keyC, keyCap, keySite, keyPc, keyA, keyG, keyBench, keyNode, keyEng, keyDma, keyLane, keyLink, keyStream, keyStack, keyPort, keyTpg, key, RBay.BAY_STATE, ne_eq]; omega)))
    | (intro x_1; refine (fun hx : Bst q s x_1 => ?_) ?_; (clear_value x_1); rotate_left; (unfold x_1))
    | (intro x_1; clear_value x_1)
    | intro _
    | (with_reducible first | apply State.each_bst | apply State.takeToken_bst | refine (State.takeToken_bst ?_).out (by assumption) | apply State.nextWork_bst | exact BstO.none | apply BstO.some | apply BstO.ite | apply Bst.ite | apply Bst.ite1 | apply Bst.ite2)
    | lift_lets -underBinder
    | split
    | dsimp only
    | (refine Bst.upd ?_)

theorem State.postEnd_bst {q : Bay} {s : State} {x_s : State} {x_sid : Option Nat} {x_status : Nat} {x_detail : Nat} (h_x_s : Bst q s x_s) : Bst q s (State.postEnd x_s x_sid x_status x_detail) := by
  unfold State.postEnd
  repeat' first
    | (with_reducible first | assumption | exact Bst.refl _)
    | intro _
    | (with_reducible first | apply State.answerD_bst)
    | split
    | (refine Bst.upd ?_)

theorem State.postHost_bst {q : Bay} {s : State} {x_s : State} (h_x_s : Bst q s x_s) : Bst q s (State.postHost x_s) := by
  unfold State.postHost
  repeat' first
    | (with_reducible first | assumption | exact Bst.refl _)
    | (show _ ≠ _; first | decide | omega | (simp only [keyB, keyC, keyCap, keySite, keyPc, keyA, keyG, keyBench, keyNode, keyEng, keyDma, keyLane, keyLink, keyStream, keyStack, keyPort, keyTpg, key, RBay.BAY_STATE, ne_eq, RGraph.GRAPH_EPOCH, RGraph.STALE_COUNT]; omega) | (simp only [keyB, keyC, keyCap, keySite, keyPc, keyA, keyG, keyBench, keyNode, keyEng, keyDma, keyLane, keyLink, keyStream, keyStack, keyPort, keyTpg, key, RBay.BAY_STATE, ne_eq, RGraph.GRAPH_EPOCH, RGraph.STALE_COUNT, List.mem_range, List.mem_cons, List.not_mem_nil, or_false] at *; omega) | (split <;> first | decide | (simp only [keyB, keyC, keyCap, keySite, keyPc, keyA, keyG, keyBench, keyNode, keyEng, keyDma, keyLane, keyLink, keyStream, keyStack, keyPort, keyTpg, key, RBay.BAY_STATE, ne_eq, RGraph.GRAPH_EPOCH, RGraph.STALE_COUNT]; omega)))
    | (intro x_1; refine (fun hx : Bst q s x_1 => ?_) ?_; (clear_value x_1); rotate_left; (unfold x_1))
    | (intro x_1; clear_value x_1)
    | intro _
    | (with_reducible first | apply State.each_bst | apply State.postEnd_bst | apply State.addG_bst | apply State.outside_bst | refine (State.outside_bst ?_).out (by assumption) | exact BstO.none | apply BstO.some | apply BstO.ite | apply Bst.ite)
    | lift_lets -underBinder
    | split
    | dsimp only
    | (refine Bst.upd ?_)

theorem State.settle_bst {q : Bay} {s : State} {x_s : State} {x_a1 : Nat} (h_x_s : Bst q s x_s) : Bst q s (State.settle x_s x_a1) := by
  induction x_a1 generalizing x_s with
  | zero =>
    unfold State.settle
    repeat' first
      | (with_reducible first | assumption | exact Bst.refl _)
      | (intro x_1; refine (fun hx : Bst q s x_1 => ?_) ?_; (clear_value x_1); rotate_left; (unfold x_1))
      | (intro x_1; clear_value x_1)
      | intro _
      | (with_reducible first | apply State.postHost_bst | apply State.postBlocked_bst | apply State.enterReady_bst | apply Bst.ite)
      | lift_lets -underBinder
      | split
      | (dsimp only)
  | succ k ih =>
    unfold State.settle
    repeat' first
      | with_reducible apply ih
      | (with_reducible first | assumption | exact Bst.refl _)
      | (intro x_1; refine (fun hx : Bst q s x_1 => ?_) ?_; (clear_value x_1); rotate_left; (unfold x_1))
      | (intro x_1; clear_value x_1)
      | intro _
      | (with_reducible first | apply State.postHost_bst | apply State.postBlocked_bst | apply State.enterReady_bst | apply Bst.ite)
      | lift_lets -underBinder
      | split
      | (dsimp only)

theorem State.showSched_bst {q : Bay} {s : State} {x_s : State} (h_x_s : Bst q s x_s) : Bst q s (State.showSched x_s) := by
  unfold State.showSched
  repeat' first
    | (with_reducible first | assumption | exact Bst.refl _)
    | (show _ ≠ _; first | decide | omega | (simp only [keyB, keyC, keyCap, keySite, keyPc, keyA, keyG, keyBench, keyNode, keyEng, keyDma, keyLane, keyLink, keyStream, keyStack, keyPort, keyTpg, key, RBay.BAY_STATE, ne_eq, R.LIST_USED, R.PENDING_ITEMS, R.STORE_PEAK, R.STORE_USED, RBench.READY_DEPTH]; omega) | (simp only [keyB, keyC, keyCap, keySite, keyPc, keyA, keyG, keyBench, keyNode, keyEng, keyDma, keyLane, keyLink, keyStream, keyStack, keyPort, keyTpg, key, RBay.BAY_STATE, ne_eq, R.LIST_USED, R.PENDING_ITEMS, R.STORE_PEAK, R.STORE_USED, RBench.READY_DEPTH, List.mem_range, List.mem_cons, List.not_mem_nil, or_false] at *; omega) | (split <;> first | decide | (simp only [keyB, keyC, keyCap, keySite, keyPc, keyA, keyG, keyBench, keyNode, keyEng, keyDma, keyLane, keyLink, keyStream, keyStack, keyPort, keyTpg, key, RBay.BAY_STATE, ne_eq, R.LIST_USED, R.PENDING_ITEMS, R.STORE_PEAK, R.STORE_USED, RBench.READY_DEPTH]; omega)))
    | (intro x_1; refine (fun hx : Bst q s x_1 => ?_) ?_; (clear_value x_1); rotate_left; (unfold x_1))
    | (intro x_1; clear_value x_1)
    | intro _
    | (with_reducible first | apply State.setO_bst | apply State.each_bst)
    | lift_lets -underBinder
    | dsimp only

theorem State.showPools_bst {q : Bay} {s : State} {x_s : State} {x_g : Nat} (h_x_s : Bst q s x_s) : Bst q s (State.showPools x_s x_g) := by
  unfold State.showPools
  repeat' first
    | (with_reducible first | assumption | exact Bst.refl _)
    | (show _ ≠ _; first | decide | omega | (simp only [keyB, keyC, keyCap, keySite, keyPc, keyA, keyG, keyBench, keyNode, keyEng, keyDma, keyLane, keyLink, keyStream, keyStack, keyPort, keyTpg, key, RBay.BAY_STATE, ne_eq, RGraph.POOL_FREE, RGraph.POOL_SIZE]; omega) | (simp only [keyB, keyC, keyCap, keySite, keyPc, keyA, keyG, keyBench, keyNode, keyEng, keyDma, keyLane, keyLink, keyStream, keyStack, keyPort, keyTpg, key, RBay.BAY_STATE, ne_eq, RGraph.POOL_FREE, RGraph.POOL_SIZE, List.mem_range, List.mem_cons, List.not_mem_nil, or_false] at *; omega) | (split <;> first | decide | (simp only [keyB, keyC, keyCap, keySite, keyPc, keyA, keyG, keyBench, keyNode, keyEng, keyDma, keyLane, keyLink, keyStream, keyStack, keyPort, keyTpg, key, RBay.BAY_STATE, ne_eq, RGraph.POOL_FREE, RGraph.POOL_SIZE]; omega)))
    | intro _
    | (with_reducible first | apply State.each_bst | apply State.setG_bst)

theorem State.sched_bst {q : Bay} {s : State} {x_s : State} {x_g : Nat} (h_x_s : Bst q s x_s) : Bst q s (State.sched x_s x_g) := by
  unfold State.sched
  repeat' first
    | (with_reducible first | assumption | exact Bst.refl _)
    | (with_reducible first | apply State.showPools_bst | apply State.showSched_bst | apply State.settle_bst)

theorem State.inner_bst {q : Bay} {s : State} {x_s : State} {x_core : Nat} {x_t : Token} (h_x_s : Bst q s x_s) : Bst q s (State.inner x_s x_core x_t) := by
  unfold State.inner
  repeat' first
    | (with_reducible first | assumption | exact Bst.refl _ | apply State.takeToken_bst | refine (State.takeToken_bst ?_).out (by assumption) | exact BstO.none | apply BstO.some | apply BstO.ite)
    | split
    | (refine Bst.upd ?_)

theorem State.nodeError_bst {q : Bay} {s : State} {x_s : State} {x_g : Nat} {x_n : Nat} {x_seq : Nat} {x_code : Nat} {x_core : Nat} (h_x_s : Bst q s x_s) : Bst q s (State.nodeError x_s x_g x_n x_seq x_code x_core) := by
  unfold State.nodeError
  repeat' first
    | (with_reducible first | assumption | exact Bst.refl _)
    | (intro x_1; refine (fun hx : Bst q s x_1 => ?_) ?_; (clear_value x_1); rotate_left; (unfold x_1))
    | (intro x_1; clear_value x_1)
    | intro _
    | (with_reducible first | apply State.setG_bst | apply State.addG_bst | apply State.countError_bst | apply State.each_bst | apply State.inner_bst)
    | lift_lets -underBinder
    | split
    | (refine Bst.upd ?_)

theorem State.endWork_bst {q : Bay} {s : State} {x_s : State} {x_n : Bench} {x_c : Fin 16} (h_x_s : Bst q s x_s) : Bst q s (State.endWork x_s x_n x_c) := by
  unfold State.endWork
  repeat' first
    | (with_reducible first | assumption | exact Bst.refl _)
    | intro _
    | (with_reducible first | apply State.nextWork_bst | apply State.modCore_bst)
    | (refine Bst.upd ?_)

theorem State.giveWork_bst {q : Bay} {s : State} {x_s : State} {x_n : Bench} {x_c : Fin 16} {x_w : Work} (h_x_s : Bst q s x_s) : Bst q s (State.giveWork x_s x_n x_c x_w) := by
  unfold State.giveWork
  repeat' first
    | (with_reducible first | assumption | exact Bst.refl _)
    | (intro x_1; refine (fun hx : Bst q s x_1 => ?_) ?_; (clear_value x_1); rotate_left; (unfold x_1))
    | (intro x_1; clear_value x_1)
    | intro _
    | (with_reducible first | apply State.startWork_bst | apply State.modCore_bst | exact BstO.none | apply BstO.some | apply BstO.ite)
    | lift_lets -underBinder
    | split
    | (refine Bst.upd ?_)

theorem State.inc64_bst {q : Bay} {s : State} {x_s : State} {x_k : Nat} (h_x_s : Bst q s x_s)
    (hk : x_k ≠ keyB q RBay.BAY_STATE) : Bst q s (State.inc64 x_s x_k) := State.setO_bst h_x_s hk

theorem State.countPool_bst {q : Bay} {s : State} {x_s : State} {x_n : Bench} (h_x_s : Bst q s x_s) : Bst q s (State.countPool x_s x_n) := by
  unfold State.countPool
  repeat' first
    | (with_reducible first | assumption | exact Bst.refl _)
    | (intro x_1; refine (fun hx : Bst q s x_1 => ?_) ?_; (clear_value x_1); rotate_left; (unfold x_1))
    | (intro x_1; clear_value x_1)
    | intro _
    | (with_reducible first | apply State.each_bst | apply State.addG_bst | apply State.modBench_bst | apply Bst.ite)
    | lift_lets -underBinder
    | (refine Bst.upd ?_)

theorem State.dispatchWork_bst {q : Bay} {s : State} {x_s : State} {x_n : Bench} (h_x_s : Bst q s x_s) : Bst q s (State.dispatchWork x_s x_n) := by
  unfold State.dispatchWork
  repeat' first
    | (with_reducible first | assumption | exact Bst.refl _)
    | (show _ ≠ _; first | decide | omega | (simp only [keyB, keyC, keyCap, keySite, keyPc, keyA, keyG, keyBench, keyNode, keyEng, keyDma, keyLane, keyLink, keyStream, keyStack, keyPort, keyTpg, key, RBay.BAY_STATE, ne_eq, R.AFFINITY_HITS, R.AFFINITY_MISSES]; omega) | (simp only [keyB, keyC, keyCap, keySite, keyPc, keyA, keyG, keyBench, keyNode, keyEng, keyDma, keyLane, keyLink, keyStream, keyStack, keyPort, keyTpg, key, RBay.BAY_STATE, ne_eq, R.AFFINITY_HITS, R.AFFINITY_MISSES, List.mem_range, List.mem_cons, List.not_mem_nil, or_false] at *; omega) | (split <;> first | decide | (simp only [keyB, keyC, keyCap, keySite, keyPc, keyA, keyG, keyBench, keyNode, keyEng, keyDma, keyLane, keyLink, keyStream, keyStack, keyPort, keyTpg, key, RBay.BAY_STATE, ne_eq, R.AFFINITY_HITS, R.AFFINITY_MISSES]; omega)))
    | (intro x_1; refine (fun hx : Bst q s x_1 => ?_) ?_; (clear_value x_1); rotate_left; (unfold x_1))
    | (intro x_1; clear_value x_1)
    | intro _
    | (with_reducible first | apply State.countPool_bst | apply State.showSched_bst | apply State.modBench_bst | apply State.inc64_bst | apply State.sched_bst | apply State.giveWork_bst | exact BstO.none | apply BstO.some | apply BstO.ite | apply Bst.ite)
    | lift_lets -underBinder
    | split
    | (refine Bst.upd ?_)

theorem State.enterDelay_bst {q : Bay} {s : State} {x_s : State} {x_i : Fin 4} {x_e : DelayEntry} (h_x_s : Bst q s x_s) : BstO q s (State.enterDelay x_s x_i x_e) := by
  unfold State.enterDelay
  repeat' first
    | (with_reducible first | assumption | exact Bst.refl _)
    | intro _
    | (with_reducible first | exact BstO.none | apply BstO.some | apply BstO.ite | apply Bst.ite)
    | split
    | (refine Bst.upd ?_)

theorem State.retick_bst {q : Bay} {s : State} {x_s : State} {x_n : Nat} (h_x_s : Bst q s x_s) : Bst q s (State.retick x_s x_n) := by
  unfold State.retick
  repeat' first
    | (with_reducible first | assumption | exact Bst.refl _)
    | (show _ ≠ _; first | decide | omega | (simp only [keyB, keyC, keyCap, keySite, keyPc, keyA, keyG, keyBench, keyNode, keyEng, keyDma, keyLane, keyLink, keyStream, keyStack, keyPort, keyTpg, key, RBay.BAY_STATE, ne_eq, R.TICK]; omega) | (simp only [keyB, keyC, keyCap, keySite, keyPc, keyA, keyG, keyBench, keyNode, keyEng, keyDma, keyLane, keyLink, keyStream, keyStack, keyPort, keyTpg, key, RBay.BAY_STATE, ne_eq, R.TICK, List.mem_range, List.mem_cons, List.not_mem_nil, or_false] at *; omega) | (split <;> first | decide | (simp only [keyB, keyC, keyCap, keySite, keyPc, keyA, keyG, keyBench, keyNode, keyEng, keyDma, keyLane, keyLink, keyStream, keyStack, keyPort, keyTpg, key, RBay.BAY_STATE, ne_eq, R.TICK]; omega)))
    | (intro x_1; refine (fun hx : Bst q s x_1 => ?_) ?_; (clear_value x_1); rotate_left; (unfold x_1))
    | (intro x_1; clear_value x_1)
    | intro _
    | (with_reducible first | apply State.setO_bst | apply Bst.ite | apply Bst.foldl)
    | lift_lets -underBinder
    | split
    | dsimp only
    | (refine Bst.upd ?_)

theorem State.popDelay_bst {q : Bay} {s : State} {x_s : State} {x_i : Fin 4} (h_x_s : Bst q s x_s) : Bst q s (State.popDelay x_s x_i) := by
  unfold State.popDelay
  repeat' first
    | (with_reducible first | assumption | exact Bst.refl _)
    | (refine Bst.upd ?_)

theorem State.holdDelay_bst {q : Bay} {s : State} {x_s : State} {x_i : Fin 4} (h_x_s : Bst q s x_s) : Bst q s (State.holdDelay x_s x_i) := by
  unfold State.holdDelay
  repeat' first
    | (with_reducible first | assumption | exact Bst.refl _)
    | split
    | (refine Bst.upd ?_)

theorem State.addLate_bst {q : Bay} {s : State} {x_s : State} {x_due : Nat} (h_x_s : Bst q s x_s) : Bst q s (State.addLate x_s x_due) := by
  unfold State.addLate
  repeat' first
    | (with_reducible first | assumption | exact Bst.refl _)
    | (show _ ≠ _; first | decide | omega | (simp only [keyB, keyC, keyCap, keySite, keyPc, keyA, keyG, keyBench, keyNode, keyEng, keyDma, keyLane, keyLink, keyStream, keyStack, keyPort, keyTpg, key, RBay.BAY_STATE, ne_eq, R.TIMER_LATE_NS]; omega) | (simp only [keyB, keyC, keyCap, keySite, keyPc, keyA, keyG, keyBench, keyNode, keyEng, keyDma, keyLane, keyLink, keyStream, keyStack, keyPort, keyTpg, key, RBay.BAY_STATE, ne_eq, R.TIMER_LATE_NS, List.mem_range, List.mem_cons, List.not_mem_nil, or_false] at *; omega) | (split <;> first | decide | (simp only [keyB, keyC, keyCap, keySite, keyPc, keyA, keyG, keyBench, keyNode, keyEng, keyDma, keyLane, keyLink, keyStream, keyStack, keyPort, keyTpg, key, RBay.BAY_STATE, ne_eq, R.TIMER_LATE_NS]; omega)))
    | with_reducible apply State.setO_bst

theorem State.requestTimed_bst {q : Bay} {s : State} {x_s : State} {x_g : Nat} {x_n : Nat} {x_r : TimedReq} (h_x_s : Bst q s x_s) : BstO q s (State.requestTimed x_s x_g x_n x_r) := by
  unfold State.requestTimed
  repeat' first
    | (with_reducible first | assumption | exact Bst.refl _)
    | (intro x_1; refine (fun hx : Bst q s x_1 => ?_) ?_; (clear_value x_1); rotate_left; (unfold x_1))
    | (intro x_1; clear_value x_1)
    | intro _
    | (with_reducible first | apply State.enterDelay_bst | refine (State.enterDelay_bst ?_).out (by assumption) | exact BstO.none | apply BstO.some | apply BstO.ite)
    | lift_lets -underBinder
    | split
    | (refine Bst.upd ?_)

theorem State.setBind_bst {q : Bay} {s : State} {x_s : State} {x_g : Nat} {x_i : Nat} {x_u : BindU} (h_x_s : Bst q s x_s) : Bst q s (State.setBind x_s x_g x_i x_u) := by
  unfold State.setBind
  repeat' first
    | (with_reducible first | assumption | exact Bst.refl _)
    | (refine Bst.upd ?_)

theorem State.startBind_bst {q : Bay} {s : State} {x_s : State} {x_g : Nat} {x_i : Nat} (h_x_s : Bst q s x_s) : Bst q s (State.startBind x_s x_g x_i) := by
  unfold State.startBind
  repeat' first
    | (with_reducible first | assumption | exact Bst.refl _)
    | (show _ ≠ _; first | decide | omega | (simp only [keyB, keyC, keyCap, keySite, keyPc, keyA, keyG, keyBench, keyNode, keyEng, keyDma, keyLane, keyLink, keyStream, keyStack, keyPort, keyTpg, key, RBay.BAY_STATE, ne_eq, R.LIST_FULL_COUNT]; omega) | (simp only [keyB, keyC, keyCap, keySite, keyPc, keyA, keyG, keyBench, keyNode, keyEng, keyDma, keyLane, keyLink, keyStream, keyStack, keyPort, keyTpg, key, RBay.BAY_STATE, ne_eq, R.LIST_FULL_COUNT, List.mem_range, List.mem_cons, List.not_mem_nil, or_false] at *; omega) | (split <;> first | decide | (simp only [keyB, keyC, keyCap, keySite, keyPc, keyA, keyG, keyBench, keyNode, keyEng, keyDma, keyLane, keyLink, keyStream, keyStack, keyPort, keyTpg, key, RBay.BAY_STATE, ne_eq, R.LIST_FULL_COUNT]; omega)))
    | (intro x_1; refine (fun hx : Bst q s x_1 => ?_) ?_; (clear_value x_1); rotate_left; (unfold x_1))
    | (intro x_1; clear_value x_1)
    | intro _
    | (with_reducible first | apply State.setBind_bst | apply State.enterDelay_bst | refine (State.enterDelay_bst ?_).out (by assumption) | apply State.incO_bst | exact BstO.none | apply BstO.some | apply BstO.ite | apply Bst.ite | apply Bst.ite1 | apply Bst.ite2)
    | lift_lets -underBinder
    | split
    | dsimp only
    | (refine Bst.upd ?_)

theorem State.timerExpiry_bst {q : Bay} {s : State} {x_s : State} {x_i : Fin 4} {x_e : DelayEntry} {x_g : Nat} {x_j : Nat} {x_period : Nat} (h_x_s : Bst q s x_s) : Bst q s (State.timerExpiry x_s x_i x_e x_g x_j x_period) := by
  unfold State.timerExpiry
  repeat' first
    | (with_reducible first | assumption | exact Bst.refl _)
    | (show _ ≠ _; first | decide | omega | (simp only [keyB, keyC, keyCap, keySite, keyPc, keyA, keyG, keyBench, keyNode, keyEng, keyDma, keyLane, keyLink, keyStream, keyStack, keyPort, keyTpg, key, RBay.BAY_STATE, ne_eq, R.BP_WAITS]; omega) | (simp only [keyB, keyC, keyCap, keySite, keyPc, keyA, keyG, keyBench, keyNode, keyEng, keyDma, keyLane, keyLink, keyStream, keyStack, keyPort, keyTpg, key, RBay.BAY_STATE, ne_eq, R.BP_WAITS, List.mem_range, List.mem_cons, List.not_mem_nil, or_false] at *; omega) | (split <;> first | decide | (simp only [keyB, keyC, keyCap, keySite, keyPc, keyA, keyG, keyBench, keyNode, keyEng, keyDma, keyLane, keyLink, keyStream, keyStack, keyPort, keyTpg, key, RBay.BAY_STATE, ne_eq, R.BP_WAITS]; omega)))
    | (intro x_1; refine (fun hx : Bst q s x_1 => ?_) ?_; (clear_value x_1); rotate_left; (unfold x_1))
    | (intro x_1; clear_value x_1)
    | intro _
    | (with_reducible first | apply State.outside_bst | refine (State.outside_bst ?_).out (by assumption) | apply State.setBind_bst | apply State.addLate_bst | apply State.popDelay_bst | apply State.enterDelay_bst | refine (State.enterDelay_bst ?_).out (by assumption) | apply State.sched_bst | apply State.incO_bst | apply State.holdDelay_bst | exact BstO.none | apply BstO.some | apply BstO.ite | apply Bst.ite)
    | lift_lets -underBinder
    | split
    | dsimp only
    | (refine Bst.upd ?_)

theorem State.bindPost_bst {q : Bay} {s : State} {x_s : State} {x_g : Nat} {x_i : Nat} (h_x_s : Bst q s x_s) : Bst q s (State.bindPost x_s x_g x_i) := by
  unfold State.bindPost
  repeat' first
    | (with_reducible first | assumption | exact Bst.refl _)
    | (show _ ≠ _; first | decide | omega | (simp only [keyB, keyC, keyCap, keySite, keyPc, keyA, keyG, keyBench, keyNode, keyEng, keyDma, keyLane, keyLink, keyStream, keyStack, keyPort, keyTpg, key, RBay.BAY_STATE, ne_eq, R.BP_WAITS, RGraph.GRAPH_STATE]; omega) | (simp only [keyB, keyC, keyCap, keySite, keyPc, keyA, keyG, keyBench, keyNode, keyEng, keyDma, keyLane, keyLink, keyStream, keyStack, keyPort, keyTpg, key, RBay.BAY_STATE, ne_eq, R.BP_WAITS, RGraph.GRAPH_STATE, List.mem_range, List.mem_cons, List.not_mem_nil, or_false] at *; omega) | (split <;> first | decide | (simp only [keyB, keyC, keyCap, keySite, keyPc, keyA, keyG, keyBench, keyNode, keyEng, keyDma, keyLane, keyLink, keyStream, keyStack, keyPort, keyTpg, key, RBay.BAY_STATE, ne_eq, R.BP_WAITS, RGraph.GRAPH_STATE]; omega)))
    | (intro x_1; refine (fun hx : Bst q s x_1 => ?_) ?_; (clear_value x_1); rotate_left; (unfold x_1))
    | (intro x_1; clear_value x_1)
    | intro _
    | (with_reducible first | apply State.timerExpiry_bst | apply State.outside_bst | refine (State.outside_bst ?_).out (by assumption) | apply State.sched_bst | apply State.setBind_bst | apply State.incO_bst | exact BstO.none | apply BstO.some | apply BstO.ite | apply Bst.ite)
    | lift_lets -underBinder
    | split
    | (refine Bst.upd ?_)

theorem State.postOuts_bst {q : Bay} {s : State} {x_s : State} {x_w : Work} {x_core : Nat} {x_outs : List WorkOut} (h_x_s : Bst q s x_s) : Bst q s (State.postOuts x_s x_w x_core x_outs) := by
  unfold State.postOuts
  repeat' first
    | (with_reducible first | assumption | exact Bst.refl _)
    | (intro x_1; refine (fun hx : Bst q s x_1 => ?_) ?_; (clear_value x_1); rotate_left; (unfold x_1))
    | (intro x_1; clear_value x_1)
    | intro _
    | (with_reducible first | apply State.each_bst | apply State.addRef_bst | apply State.inner_bst | apply Bst.ite)
    | lift_lets -underBinder

theorem State.timedAll_bst {q : Bay} {s : State} {x_s : State} {x_g : Nat} {x_n : Nat} {x_a3 : List TimedReq} (h_x_s : Bst q s x_s) : Bst q s (State.timedAll x_s x_g x_n x_a3).1 := by
  induction x_a3 generalizing x_s x_g x_n with
  | nil =>
    unfold State.timedAll
    repeat' first
      | (with_reducible first | assumption | exact Bst.refl _)
      | (show _ ≠ _; first | decide | omega | (simp only [keyB, keyC, keyCap, keySite, keyPc, keyA, keyG, keyBench, keyNode, keyEng, keyDma, keyLane, keyLink, keyStream, keyStack, keyPort, keyTpg, key, RBay.BAY_STATE, ne_eq, R.LIST_FULL_COUNT]; omega) | (simp only [keyB, keyC, keyCap, keySite, keyPc, keyA, keyG, keyBench, keyNode, keyEng, keyDma, keyLane, keyLink, keyStream, keyStack, keyPort, keyTpg, key, RBay.BAY_STATE, ne_eq, R.LIST_FULL_COUNT, List.mem_range, List.mem_cons, List.not_mem_nil, or_false] at *; omega) | (split <;> first | decide | (simp only [keyB, keyC, keyCap, keySite, keyPc, keyA, keyG, keyBench, keyNode, keyEng, keyDma, keyLane, keyLink, keyStream, keyStack, keyPort, keyTpg, key, RBay.BAY_STATE, ne_eq, R.LIST_FULL_COUNT]; omega)))
      | (with_reducible first | apply State.incO_bst | apply State.requestTimed_bst | refine (State.requestTimed_bst ?_).out (by assumption) | exact BstO.none | apply BstO.some | apply BstO.ite | apply Bst.ite1)
      | split
      | dsimp only
      | (refine Bst.upd ?_)
      | (dsimp only)
  | cons hd tl ih =>
    unfold State.timedAll
    repeat' first
      | with_reducible apply ih
      | (with_reducible first | assumption | exact Bst.refl _)
      | (show _ ≠ _; first | decide | omega | (simp only [keyB, keyC, keyCap, keySite, keyPc, keyA, keyG, keyBench, keyNode, keyEng, keyDma, keyLane, keyLink, keyStream, keyStack, keyPort, keyTpg, key, RBay.BAY_STATE, ne_eq, R.LIST_FULL_COUNT]; omega) | (simp only [keyB, keyC, keyCap, keySite, keyPc, keyA, keyG, keyBench, keyNode, keyEng, keyDma, keyLane, keyLink, keyStream, keyStack, keyPort, keyTpg, key, RBay.BAY_STATE, ne_eq, R.LIST_FULL_COUNT, List.mem_range, List.mem_cons, List.not_mem_nil, or_false] at *; omega) | (split <;> first | decide | (simp only [keyB, keyC, keyCap, keySite, keyPc, keyA, keyG, keyBench, keyNode, keyEng, keyDma, keyLane, keyLink, keyStream, keyStack, keyPort, keyTpg, key, RBay.BAY_STATE, ne_eq, R.LIST_FULL_COUNT]; omega)))
      | (with_reducible first | apply State.incO_bst | apply State.requestTimed_bst | refine (State.requestTimed_bst ?_).out (by assumption) | exact BstO.none | apply BstO.some | apply BstO.ite | apply Bst.ite1)
      | split
      | dsimp only
      | (refine Bst.upd ?_)
      | (dsimp only)

theorem State.finishWork_bst {q : Bay} {s : State} {x_s : State} {x_n : Bench} {x_c : Fin 16} {x_w : Work} (h_x_s : Bst q s x_s) : Bst q s (State.finishWork x_s x_n x_c x_w) := by
  unfold State.finishWork
  repeat' first
    | (with_reducible first | assumption | exact Bst.refl _ | apply State.sched_bst | apply State.consumeOps_bst | apply State.endWork_bst)

theorem State.endItem_bst {q : Bay} {s : State} {x_s : State} {x_n : Bench} {x_c : Fin 16} {x_w : Work} {x_r : WorkResult} (h_x_s : Bst q s x_s) : Bst q s (State.endItem x_s x_n x_c x_w x_r) := by
  unfold State.endItem
  repeat' first
    | (with_reducible first | assumption | exact Bst.refl _)
    | (show _ ≠ _; first | decide | omega | (simp only [keyB, keyC, keyCap, keySite, keyPc, keyA, keyG, keyBench, keyNode, keyEng, keyDma, keyLane, keyLink, keyStream, keyStack, keyPort, keyTpg, key, RBay.BAY_STATE, ne_eq, RGraph.FIRINGS]; omega) | (simp only [keyB, keyC, keyCap, keySite, keyPc, keyA, keyG, keyBench, keyNode, keyEng, keyDma, keyLane, keyLink, keyStream, keyStack, keyPort, keyTpg, key, RBay.BAY_STATE, ne_eq, RGraph.FIRINGS, List.mem_range, List.mem_cons, List.not_mem_nil, or_false] at *; omega) | (split <;> first | decide | (simp only [keyB, keyC, keyCap, keySite, keyPc, keyA, keyG, keyBench, keyNode, keyEng, keyDma, keyLane, keyLink, keyStream, keyStack, keyPort, keyTpg, key, RBay.BAY_STATE, ne_eq, RGraph.FIRINGS]; omega)))
    | (intro x_1; refine (fun hx : Bst q s x_1 => ?_) ?_; (clear_value x_1); rotate_left; (unfold x_1))
    | (intro x_1; refine (fun hx : Bst q s x_1.1 => ?_) ?_; (clear_value x_1); rotate_left; (unfold x_1))
    | (intro x_1; clear_value x_1)
    | intro _
    | (with_reducible first | apply State.finishWork_bst | apply State.nodeError_bst | apply State.inc64_bst | apply State.timedAll_bst | apply State.postOuts_bst | apply Bst.ite | apply Bst.ite1 | apply Bst.ite2)
    | lift_lets -underBinder
    | split
    | dsimp only
    | (refine Bst.upd ?_)

theorem State.issueReqs_bst {q : Bay} {s : State} {x_s : State} {x_n : Bench} {x_c : Fin 16} {x_w : Work} {x_reqs : List ObjReq} {x_r : WorkResult} (h_x_s : Bst q s x_s) : Bst q s (State.issueReqs x_s x_n x_c x_w x_reqs x_r) := by
  unfold State.issueReqs
  repeat' first
    | (with_reducible first | assumption | exact Bst.refl _)
    | (intro x_1; refine (fun hx : Bst q s x_1 => ?_) ?_; (clear_value x_1); rotate_left; (unfold x_1))
    | (intro x_1; clear_value x_1)
    | intro _
    | (with_reducible first | apply State.modBench_bst | apply State.endItem_bst | apply State.modCore_bst | apply Bst.ite)
    | lift_lets -underBinder
    | split
    | dsimp only
    | (refine Bst.upd ?_)

theorem State.completeWork_bst {q : Bay} {s : State} {x_s : State} {x_n : Bench} {x_c : Fin 16} {x_r : WorkResult} (h_x_s : Bst q s x_s) : Bst q s (State.completeWork x_s x_n x_c x_r) := by
  unfold State.completeWork
  repeat' first
    | (with_reducible first | assumption | exact Bst.refl _)
    | intro _
    | (with_reducible first | apply State.issueReqs_bst | apply Bst.ite)
    | split
    | (refine Bst.upd ?_)

theorem State.pumpReqs_bst {q : Bay} {s : State} {x_s : State} {x_n : Bench} (h_x_s : Bst q s x_s) : Bst q s (State.pumpReqs x_s x_n) := by
  unfold State.pumpReqs
  repeat' first
    | (with_reducible first | assumption | exact Bst.refl _)
    | (show _ ≠ _; first | decide | omega | (simp only [keyB, keyC, keyCap, keySite, keyPc, keyA, keyG, keyBench, keyNode, keyEng, keyDma, keyLane, keyLink, keyStream, keyStack, keyPort, keyTpg, key, RBay.BAY_STATE, ne_eq]; omega) | (simp only [keyB, keyC, keyCap, keySite, keyPc, keyA, keyG, keyBench, keyNode, keyEng, keyDma, keyLane, keyLink, keyStream, keyStack, keyPort, keyTpg, key, RBay.BAY_STATE, ne_eq, List.mem_range, List.mem_cons, List.not_mem_nil, or_false] at *; omega) | (split <;> first | decide | (simp only [keyB, keyC, keyCap, keySite, keyPc, keyA, keyG, keyBench, keyNode, keyEng, keyDma, keyLane, keyLink, keyStream, keyStack, keyPort, keyTpg, key, RBay.BAY_STATE, ne_eq]; omega)))
    | intro _
    | (with_reducible first | apply State.each_bst | apply State.issueReqs_bst)
    | split
    | (refine Bst.upd ?_)

theorem State.limitWork_bst {q : Bay} {s : State} {x_s : State} {x_n : Bench} {x_c : Fin 16} (h_x_s : Bst q s x_s) : Bst q s (State.limitWork x_s x_n x_c) := by
  unfold State.limitWork
  repeat' first
    | (with_reducible first | assumption | exact Bst.refl _ | apply State.finishWork_bst | apply State.nodeError_bst | apply State.advance_bst | exact BstO.none | apply BstO.some | apply BstO.ite)
    | split
    | (refine Bst.upd ?_)

theorem State.benchFault_bst {q : Bay} {s : State} {x_s : State} {x_n : Bench} {x_kind : Nat} {x_address : Nat} {x_w : Option Work} (h_x_s : Bst q s x_s) : Bst q s (State.benchFault x_s x_n x_kind x_address x_w) := by
  unfold State.benchFault
  repeat' first
    | (with_reducible first | assumption | exact Bst.refl _)
    | intro _
    | with_reducible apply State.send_bst
    | (refine Bst.upd ?_)

theorem State.dropCore_bst {q : Bay} {s : State} {x_s : State} {x_n : Bench} {x_c : Fin 16} (h_x_s : Bst q s x_s) : Bst q s (State.dropCore x_s x_n x_c) := by
  unfold State.dropCore
  repeat' first
    | (with_reducible first | assumption | exact Bst.refl _)
    | (intro x_1; refine (fun hx : Bst q s x_1 => ?_) ?_; (clear_value x_1); rotate_left; (unfold x_1))
    | (intro x_1; clear_value x_1)
    | intro _
    | (with_reducible first | apply State.modCore_bst | apply State.modBench_bst | apply State.sched_bst | apply State.consumeOps_bst | apply State.nodeError_bst | apply State.showSched_bst | exact BstO.none | apply BstO.some | apply BstO.ite)
    | lift_lets -underBinder
    | split
    | (refine Bst.upd ?_)

theorem State.coreFault_bst {q : Bay} {s : State} {x_s : State} {x_n : Bench} {x_c : Fin 16} {x_level : Bool} (h_x_s : Bst q s x_s) : Bst q s (State.coreFault x_s x_n x_c x_level) := by
  unfold State.coreFault
  repeat' first
    | (with_reducible first | assumption | exact Bst.refl _)
    | (show _ ≠ _; first | decide | omega | (simp only [keyB, keyC, keyCap, keySite, keyPc, keyA, keyG, keyBench, keyNode, keyEng, keyDma, keyLane, keyLink, keyStream, keyStack, keyPort, keyTpg, key, RBay.BAY_STATE, ne_eq, RBench.CORES_IN_SERVICE]; omega) | (simp only [keyB, keyC, keyCap, keySite, keyPc, keyA, keyG, keyBench, keyNode, keyEng, keyDma, keyLane, keyLink, keyStream, keyStack, keyPort, keyTpg, key, RBay.BAY_STATE, ne_eq, RBench.CORES_IN_SERVICE, List.mem_range, List.mem_cons, List.not_mem_nil, or_false] at *; omega) | (split <;> first | decide | (simp only [keyB, keyC, keyCap, keySite, keyPc, keyA, keyG, keyBench, keyNode, keyEng, keyDma, keyLane, keyLink, keyStream, keyStack, keyPort, keyTpg, key, RBay.BAY_STATE, ne_eq, RBench.CORES_IN_SERVICE]; omega)))
    | (intro x_1; refine (fun hx : Bst q s x_1 => ?_) ?_; (clear_value x_1); rotate_left; (unfold x_1))
    | (intro x_1; clear_value x_1)
    | intro _
    | (with_reducible first | apply State.benchFault_bst | apply State.dropCore_bst | apply State.setO_bst | apply State.setBench_bst | apply State.each_bst | apply Bst.ite)
    | lift_lets -underBinder
    | split
    | dsimp only

theorem State.deadlock_bst {q : Bay} {s : State} {x_s : State} (h_x_s : Bst q s x_s) : Bst q s (State.deadlock x_s) := by
  unfold State.deadlock
  repeat' first
    | (with_reducible first | assumption | exact Bst.refl _)
    | (intro x_1; refine (fun hx : Bst q s x_1 => ?_) ?_; (clear_value x_1); rotate_left; (unfold x_1))
    | (intro x_1; clear_value x_1)
    | intro _
    | (with_reducible first | apply State.advance_bst | apply State.fault_bst | apply State.discard_bst | apply State.sched_bst | apply State.addG_bst | apply Bst.ite | apply Bst.foldl)
    | lift_lets -underBinder
    | split
    | dsimp only
    | (refine Bst.upd ?_)

theorem State.hostGraph_bst {q : Bay} {s : State} {x_s : State} {x_g : Graph} {x_epoch : BitVec 16} (x_k : State → State) (h_x_s : Bst q s x_s) (h_x_k : ∀ (v0 : State), Bst q s v0 → Bst q s (x_k v0)) : Bst q s (State.hostGraph x_s x_g x_epoch x_k) := by
  unfold State.hostGraph
  repeat' first
    | (with_reducible first | assumption | exact Bst.refl _)
    | (intro x_1; refine (fun hx : Bst q s x_1 => ?_) ?_; (clear_value x_1); rotate_left; (unfold x_1))
    | (intro x_1; clear_value x_1)
    | intro _
    | (with_reducible first | apply h_x_k | apply State.hostModule_bst | apply State.answerD_bst | apply State.addG_bst | apply Bst.ite)
    | lift_lets -underBinder

theorem State.hostPost_bst {q : Bay} {s : State} {x_s : State} {x_t : Token} {x_epoch : Nat} (h_x_s : Bst q s x_s) : Bst q s (State.hostPost x_s x_t x_epoch) := by
  unfold State.hostPost
  repeat' first
    | (with_reducible first | assumption | exact Bst.refl _)
    | (show _ ≠ _; first | decide | omega | (simp only [keyB, keyC, keyCap, keySite, keyPc, keyA, keyG, keyBench, keyNode, keyEng, keyDma, keyLane, keyLink, keyStream, keyStack, keyPort, keyTpg, key, RBay.BAY_STATE, ne_eq, R.BP_WAITS]; omega) | (simp only [keyB, keyC, keyCap, keySite, keyPc, keyA, keyG, keyBench, keyNode, keyEng, keyDma, keyLane, keyLink, keyStream, keyStack, keyPort, keyTpg, key, RBay.BAY_STATE, ne_eq, R.BP_WAITS, List.mem_range, List.mem_cons, List.not_mem_nil, or_false] at *; omega) | (split <;> first | decide | (simp only [keyB, keyC, keyCap, keySite, keyPc, keyA, keyG, keyBench, keyNode, keyEng, keyDma, keyLane, keyLink, keyStream, keyStack, keyPort, keyTpg, key, RBay.BAY_STATE, ne_eq, R.BP_WAITS]; omega)))
    | intro _
    | (with_reducible first | apply State.answer_bst | apply State.outside_bst | refine (State.outside_bst ?_).out (by assumption) | apply State.ok_bst | apply State.sched_bst | apply State.incO_bst | exact BstO.none | apply BstO.some | apply BstO.ite | apply Bst.ite)
    | split
    | (refine Bst.upd ?_)

theorem State.postTimeout_bst {q : Bay} {s : State} {x_s : State} (h_x_s : Bst q s x_s) : Bst q s (State.postTimeout x_s) := by
  unfold State.postTimeout
  repeat' first
    | (with_reducible first | assumption | exact Bst.refl _)
    | intro _
    | (with_reducible first | apply State.postEnd_bst | apply State.advance_bst)
    | split
    | (refine Bst.upd ?_)

theorem State.startGraph_bst {q : Bay} {s : State} {x_s : State} {x_g : Nat} (h_x_s : Bst q s x_s) : Bst q s (State.startGraph x_s x_g) := by
  unfold State.startGraph
  repeat' first
    | (with_reducible first | assumption | exact Bst.refl _)
    | (show _ ≠ _; first | decide | omega | (simp only [keyB, keyC, keyCap, keySite, keyPc, keyA, keyG, keyBench, keyNode, keyEng, keyDma, keyLane, keyLink, keyStream, keyStack, keyPort, keyTpg, key, RBay.BAY_STATE, ne_eq, RGraph.DEADLOCK_CLEARED, RGraph.DISCARDED_OPERANDS, RGraph.ERRORS, RGraph.FIRINGS, RGraph.GRAPH_STATE, RGraph.POOL_WAITS, RGraph.STALE_COUNT]; omega) | (simp only [keyB, keyC, keyCap, keySite, keyPc, keyA, keyG, keyBench, keyNode, keyEng, keyDma, keyLane, keyLink, keyStream, keyStack, keyPort, keyTpg, key, RBay.BAY_STATE, ne_eq, RGraph.DEADLOCK_CLEARED, RGraph.DISCARDED_OPERANDS, RGraph.ERRORS, RGraph.FIRINGS, RGraph.GRAPH_STATE, RGraph.POOL_WAITS, RGraph.STALE_COUNT, List.mem_range, List.mem_cons, List.not_mem_nil, or_false] at *; omega) | (split <;> first | decide | (simp only [keyB, keyC, keyCap, keySite, keyPc, keyA, keyG, keyBench, keyNode, keyEng, keyDma, keyLane, keyLink, keyStream, keyStack, keyPort, keyTpg, key, RBay.BAY_STATE, ne_eq, RGraph.DEADLOCK_CLEARED, RGraph.DISCARDED_OPERANDS, RGraph.ERRORS, RGraph.FIRINGS, RGraph.GRAPH_STATE, RGraph.POOL_WAITS, RGraph.STALE_COUNT]; omega)))
    | (intro x_1; refine (fun hx : Bst q s x_1 => ?_) ?_; (clear_value x_1); rotate_left; (unfold x_1))
    | (intro x_1; clear_value x_1)
    | intro _
    | (with_reducible first | apply State.answer_bst | apply State.each_bst | apply State.setG_bst | apply State.setO_bst | apply State.ok_bst | apply State.showSched_bst | apply State.startBind_bst | apply Bst.ite)
    | lift_lets -underBinder
    | split
    | dsimp only

theorem State.stopGraph_bst {q : Bay} {s : State} {x_s : State} {x_g : Nat} (h_x_s : Bst q s x_s) : Bst q s (State.stopGraph x_s x_g) := by
  unfold State.stopGraph
  repeat' first
    | (with_reducible first | assumption | exact Bst.refl _ | apply State.answer_bst | apply State.ok_bst | apply State.setG_bst | apply Bst.ite)
    | (refine Bst.upd ?_)

theorem State.purge_bst {q : Bay} {s : State} {x_s : State} {x_g : Nat} {x_keep : Nat → Bool} {x_timer : Nat → Bool} (h_x_s : Bst q s x_s) : Bst q s (State.purge x_s x_g x_keep x_timer) := by
  unfold State.purge
  repeat' first
    | (with_reducible first | assumption | exact Bst.refl _)
    | (show _ ≠ _; first | decide | omega | (simp only [keyB, keyC, keyCap, keySite, keyPc, keyA, keyG, keyBench, keyNode, keyEng, keyDma, keyLane, keyLink, keyStream, keyStack, keyPort, keyTpg, key, RBay.BAY_STATE, ne_eq, RGraph.DISCARDED_OPERANDS]; omega) | (simp only [keyB, keyC, keyCap, keySite, keyPc, keyA, keyG, keyBench, keyNode, keyEng, keyDma, keyLane, keyLink, keyStream, keyStack, keyPort, keyTpg, key, RBay.BAY_STATE, ne_eq, RGraph.DISCARDED_OPERANDS, List.mem_range, List.mem_cons, List.not_mem_nil, or_false] at *; omega) | (split <;> first | decide | (simp only [keyB, keyC, keyCap, keySite, keyPc, keyA, keyG, keyBench, keyNode, keyEng, keyDma, keyLane, keyLink, keyStream, keyStack, keyPort, keyTpg, key, RBay.BAY_STATE, ne_eq, RGraph.DISCARDED_OPERANDS]; omega)))
    | (intro x_1; refine (fun hx : Bst q s x_1 => ?_) ?_; (clear_value x_1); rotate_left; (unfold x_1))
    | (intro x_1; clear_value x_1)
    | intro _
    | (with_reducible first | apply State.each_bst | apply State.modBench_bst | apply State.addG_bst | apply State.discard_bst)
    | lift_lets -underBinder
    | dsimp only
    | (refine Bst.upd ?_)

theorem State.stopped_bst {q : Bay} {s : State} {x_s : State} {x_g : Nat} (h_x_s : Bst q s x_s) : Bst q s (State.stopped x_s x_g) := by
  unfold State.stopped
  repeat' first
    | (with_reducible first | assumption | exact Bst.refl _)
    | (intro x_1; refine (fun hx : Bst q s x_1 => ?_) ?_; (clear_value x_1); rotate_left; (unfold x_1))
    | (intro x_1; clear_value x_1)
    | intro _
    | (with_reducible first | apply State.purge_bst | apply State.sched_bst | apply State.setG_bst)
    | lift_lets -underBinder
    | dsimp only
    | (refine Bst.upd ?_)

theorem State.applyGraph_bst {q : Bay} {s : State} {x_s : State} {x_new : State} {x_g : Nat} {x_back : Nat} (h_x_s : Bst q s x_s) (h_x_new : Bst q s x_new) : Bst q s (State.applyGraph x_s x_new x_g x_back) := by
  unfold State.applyGraph
  repeat' first
    | (with_reducible first | assumption | exact Bst.refl _)
    | (show _ ≠ _; first | decide | (simp only [keyG, keyB, key, RBay.BAY_STATE, ne_eq]; omega))
    | exact Bst.of h_x_new rfl
    | (intro x_1; refine (fun hx : Bst q s x_1 => ?_) ?_; (clear_value x_1); rotate_left; (unfold x_1))
    | (intro x_1; clear_value x_1)
    | intro _
    | (with_reducible first | apply State.purge_bst | apply State.setG_bst | apply State.each_bst | apply State.startBind_bst | apply State.sched_bst | apply Bst.ite)
    | lift_lets -underBinder
    | split
    | (refine Bst.upd ?_)

theorem State.benchRequest_bst {q : Bay} {s : State} {x_s : State} {x_n : Bench} {x_from_ : Nat} (x_k : State → State) (h_x_s : Bst q s x_s) (h_x_k : ∀ (v0 : State), Bst q s v0 → Bst q s (x_k v0)) : Bst q s (State.benchRequest x_s x_n x_from_ x_k) := by
  unfold State.benchRequest
  repeat' first
    | (with_reducible first | assumption | exact Bst.refl _)
    | intro _
    | (with_reducible first | apply h_x_k | apply State.hostModule_bst | apply State.ok_bst | apply State.answer_bst | apply Bst.ite)

theorem State.benchDrained_bst {q : Bay} {s : State} {x_s : State} {x_n : Bench} (h_x_s : Bst q s x_s) : Bst q s (State.benchDrained x_s x_n) := by
  unfold State.benchDrained
  repeat' first
    | (with_reducible first | assumption | exact Bst.refl _)
    | (intro x_1; refine (fun hx : Bst q s x_1 => ?_) ?_; (clear_value x_1); rotate_left; (unfold x_1))
    | (intro x_1; clear_value x_1)
    | intro _
    | (with_reducible first | apply State.setBench_bst | apply Bst.ite)
    | lift_lets -underBinder

theorem State.benchLoaded_bst {q : Bay} {s : State} {x_s : State} {x_n : Bench} {x_verified : Bool} {x_release : Nat} (h_x_s : Bst q s x_s) : Bst q s (State.benchLoaded x_s x_n x_verified x_release) := by
  unfold State.benchLoaded
  repeat' first
    | (with_reducible first | assumption | exact Bst.refl _)
    | (show _ ≠ _; first | decide | omega | (simp only [keyB, keyC, keyCap, keySite, keyPc, keyA, keyG, keyBench, keyNode, keyEng, keyDma, keyLane, keyLink, keyStream, keyStack, keyPort, keyTpg, key, RBay.BAY_STATE, ne_eq, RBench.BENCH_CATALOGUE, RBench.BENCH_IMAGE, RBench.NODE_EXCLUDED]; omega) | (simp only [keyB, keyC, keyCap, keySite, keyPc, keyA, keyG, keyBench, keyNode, keyEng, keyDma, keyLane, keyLink, keyStream, keyStack, keyPort, keyTpg, key, RBay.BAY_STATE, ne_eq, RBench.BENCH_CATALOGUE, RBench.BENCH_IMAGE, RBench.NODE_EXCLUDED, List.mem_range, List.mem_cons, List.not_mem_nil, or_false] at *; omega) | (split <;> first | decide | (simp only [keyB, keyC, keyCap, keySite, keyPc, keyA, keyG, keyBench, keyNode, keyEng, keyDma, keyLane, keyLink, keyStream, keyStack, keyPort, keyTpg, key, RBay.BAY_STATE, ne_eq, RBench.BENCH_CATALOGUE, RBench.BENCH_IMAGE, RBench.NODE_EXCLUDED]; omega)))
    | (intro x_1; refine (fun hx : Bst q s x_1 => ?_) ?_; (clear_value x_1); rotate_left; (unfold x_1))
    | (intro x_1; clear_value x_1)
    | intro _
    | (with_reducible first | apply State.setO_bst | apply State.setBench_bst | apply State.answer_bst | apply Bst.ite)
    | lift_lets -underBinder

theorem State.benchResumed_bst {q : Bay} {s : State} {x_s : State} {x_n : Bench} (h_x_s : Bst q s x_s) : Bst q s (State.benchResumed x_s x_n) := by
  unfold State.benchResumed
  repeat' first
    | (with_reducible first | assumption | exact Bst.refl _)
    | (show _ ≠ _; first | decide | omega | (simp only [keyB, keyC, keyCap, keySite, keyPc, keyA, keyG, keyBench, keyNode, keyEng, keyDma, keyLane, keyLink, keyStream, keyStack, keyPort, keyTpg, key, RBay.BAY_STATE, ne_eq, RBench.NODE_EXCLUDED]; omega) | (simp only [keyB, keyC, keyCap, keySite, keyPc, keyA, keyG, keyBench, keyNode, keyEng, keyDma, keyLane, keyLink, keyStream, keyStack, keyPort, keyTpg, key, RBay.BAY_STATE, ne_eq, RBench.NODE_EXCLUDED, List.mem_range, List.mem_cons, List.not_mem_nil, or_false] at *; omega) | (split <;> first | decide | (simp only [keyB, keyC, keyCap, keySite, keyPc, keyA, keyG, keyBench, keyNode, keyEng, keyDma, keyLane, keyLink, keyStream, keyStack, keyPort, keyTpg, key, RBay.BAY_STATE, ne_eq, RBench.NODE_EXCLUDED]; omega)))
    | (intro x_1; refine (fun hx : Bst q s x_1 => ?_) ?_; (clear_value x_1); rotate_left; (unfold x_1))
    | (intro x_1; clear_value x_1)
    | intro _
    | (with_reducible first | apply State.setO_bst | apply State.setBench_bst)
    | lift_lets -underBinder
    | (refine Bst.upd ?_)

theorem execTokenArrival_bst {q : Bay} {s : State} {x_t : Token} {x_s : State} (h_x_s : Bst q s x_s) : BstN q s (execTokenArrival x_t x_s) := by
  unfold execTokenArrival
  repeat' first
    | (with_reducible first | assumption | exact Bst.refl _ | apply State.takeToken_bst | refine (State.takeToken_bst ?_).out (by assumption) | apply State.sched_bst | exact BstO.none | apply BstO.some | apply BstO.ite | apply BstN.next | apply BstN.ite | apply Bst.ite)
    | split
    | (refine Bst.upd ?_)

theorem execPost_bst {q : Bay} {s : State} {x_g : Graph} {x_epoch : BitVec 16} {x_node : BitVec 8} {x_port : Fin 4} {x_seq : BitVec 32} {x_value : BitVec 64} {x_s : State} (h_x_s : Bst q s x_s) : BstN q s (execPost x_g x_epoch x_node x_port x_seq x_value x_s) := by
  unfold execPost
  repeat' first
    | (with_reducible first | assumption | exact Bst.refl _)
    | intro _
    | (with_reducible first | apply State.hostGraph_bst | apply State.hostPost_bst | apply BstN.next | apply BstN.ite)

theorem execHostPostTimeout_bst {q : Bay} {s : State} {x_s : State} (h_x_s : Bst q s x_s) : BstN q s (execHostPostTimeout x_s) := by
  unfold execHostPostTimeout
  repeat' first
    | (with_reducible first | assumption | exact Bst.refl _ | apply State.postTimeout_bst | apply BstN.next | apply BstN.ite)

theorem execWorkDispatch_bst {q : Bay} {s : State} {x_bn : Bench} {x_s : State} (h_x_s : Bst q s x_s) : BstN q s (execWorkDispatch x_bn x_s) := by
  unfold execWorkDispatch
  repeat' first
    | (with_reducible first | assumption | exact Bst.refl _ | apply State.dispatchWork_bst | apply BstN.next | apply BstN.ite)

theorem execWorkComplete_bst {q : Bay} {s : State} {x_bn : Bench} {x_core : Fin 16} {x_result : WorkResult} {x_s : State} (h_x_s : Bst q s x_s) : BstN q s (execWorkComplete x_bn x_core x_result x_s) := by
  unfold execWorkComplete
  repeat' first
    | (with_reducible first | assumption | exact Bst.refl _ | apply State.completeWork_bst | apply BstN.next | apply BstN.ite)

theorem execWorkLimit_bst {q : Bay} {s : State} {x_bn : Bench} {x_core : Fin 16} {x_s : State} (h_x_s : Bst q s x_s) : BstN q s (execWorkLimit x_bn x_core x_s) := by
  unfold execWorkLimit
  repeat' first
    | (with_reducible first | assumption | exact Bst.refl _ | apply State.limitWork_bst | apply BstN.next | apply BstN.ite)

theorem execCoreFault_bst {q : Bay} {s : State} {x_bn : Bench} {x_core : Fin 16} {x_benchLevel : Bool} {x_s : State} (h_x_s : Bst q s x_s) : BstN q s (execCoreFault x_bn x_core x_benchLevel x_s) := by
  unfold execCoreFault
  repeat' first
    | (with_reducible first | assumption | exact Bst.refl _ | apply State.coreFault_bst | apply BstN.next | apply BstN.ite)

theorem execStoreDeadlock_bst {q : Bay} {s : State} {x_s : State} (h_x_s : Bst q s x_s) : BstN q s (execStoreDeadlock x_s) := by
  unfold execStoreDeadlock
  repeat' first
    | (with_reducible first | assumption | exact Bst.refl _ | apply State.deadlock_bst | apply BstN.next | apply BstN.ite)

theorem execStartRequest_bst {q : Bay} {s : State} {x_g : Graph} {x_epoch : BitVec 16} {x_s : State} (h_x_s : Bst q s x_s) : BstN q s (execStartRequest x_g x_epoch x_s) := by
  unfold execStartRequest
  repeat' first
    | (with_reducible first | assumption | exact Bst.refl _)
    | intro _
    | (with_reducible first | apply State.hostGraph_bst | apply State.startGraph_bst | apply BstN.next | apply BstN.ite)

theorem execStopRequest_bst {q : Bay} {s : State} {x_g : Graph} {x_epoch : BitVec 16} {x_s : State} (h_x_s : Bst q s x_s) : BstN q s (execStopRequest x_g x_epoch x_s) := by
  unfold execStopRequest
  repeat' first
    | (with_reducible first | assumption | exact Bst.refl _)
    | intro _
    | (with_reducible first | apply State.hostGraph_bst | apply State.stopGraph_bst | apply BstN.next | apply BstN.ite)

theorem execBenchDrain_bst {q : Bay} {s : State} {x_bn : Bench} {x_s : State} (h_x_s : Bst q s x_s) : BstN q s (execBenchDrain x_bn x_s) := by
  unfold execBenchDrain
  repeat' first
    | (with_reducible first | assumption | exact Bst.refl _)
    | intro _
    | (with_reducible first | apply State.benchRequest_bst | apply State.setBench_bst | apply BstN.next | apply BstN.ite)

theorem execBenchDrained_bst {q : Bay} {s : State} {x_bn : Bench} {x_s : State} (h_x_s : Bst q s x_s) : BstN q s (execBenchDrained x_bn x_s) := by
  unfold execBenchDrained
  repeat' first
    | (with_reducible first | assumption | exact Bst.refl _ | apply State.benchDrained_bst | apply BstN.next | apply BstN.ite)

theorem execBenchLoad_bst {q : Bay} {s : State} {x_bn : Bench} {x_s : State} (h_x_s : Bst q s x_s) : BstN q s (execBenchLoad x_bn x_s) := by
  unfold execBenchLoad
  repeat' first
    | (with_reducible first | assumption | exact Bst.refl _)
    | intro _
    | (with_reducible first | apply State.benchRequest_bst | apply State.setBench_bst | apply BstN.next | apply BstN.ite)

theorem execBenchLoadComplete_bst {q : Bay} {s : State} {x_bn : Bench} {x_verified : Bool} {x_release : BitVec 32} {x_s : State} (h_x_s : Bst q s x_s) : BstN q s (execBenchLoadComplete x_bn x_verified x_release x_s) := by
  unfold execBenchLoadComplete
  repeat' first
    | (with_reducible first | assumption | exact Bst.refl _ | apply State.benchLoaded_bst | apply BstN.next | apply BstN.ite)

theorem execBenchResume_bst {q : Bay} {s : State} {x_bn : Bench} {x_s : State} (h_x_s : Bst q s x_s) : BstN q s (execBenchResume x_bn x_s) := by
  unfold execBenchResume
  repeat' first
    | (with_reducible first | assumption | exact Bst.refl _)
    | intro _
    | (with_reducible first | apply State.benchRequest_bst | apply State.benchResumed_bst | apply BstN.next | apply BstN.ite)

theorem execPeakClear_bst {q : Bay} {s : State} {x_s : State} (h_x_s : Bst q s x_s) : BstN q s (execPeakClear x_s) := by
  unfold execPeakClear
  repeat' first
    | (with_reducible first | assumption | exact Bst.refl _)
    | (show _ ≠ _; first | decide | omega | (simp only [keyB, keyC, keyCap, keySite, keyPc, keyA, keyG, keyBench, keyNode, keyEng, keyDma, keyLane, keyLink, keyStream, keyStack, keyPort, keyTpg, key, RBay.BAY_STATE, ne_eq, R.STORE_PEAK]; omega) | (simp only [keyB, keyC, keyCap, keySite, keyPc, keyA, keyG, keyBench, keyNode, keyEng, keyDma, keyLane, keyLink, keyStream, keyStack, keyPort, keyTpg, key, RBay.BAY_STATE, ne_eq, R.STORE_PEAK, List.mem_range, List.mem_cons, List.not_mem_nil, or_false] at *; omega) | (split <;> first | decide | (simp only [keyB, keyC, keyCap, keySite, keyPc, keyA, keyG, keyBench, keyNode, keyEng, keyDma, keyLane, keyLink, keyStream, keyStack, keyPort, keyTpg, key, RBay.BAY_STATE, ne_eq, R.STORE_PEAK]; omega)))
    | intro _
    | (with_reducible first | apply State.hostModule_bst | apply State.ok_bst | apply State.setO_bst | apply BstN.next | apply BstN.ite)

end Sys2Proof.Machine
end

