-- ==== Sys2Proof/Laws/BstMemory.lean ====
section
/-! SUPPORT. What the operations of Machine/Memory.lean keep. -/

set_option linter.all false

namespace Sys2Proof.Machine

theorem State.showRegions_bst {q : Bay} {s : State} {x_s : State} (h_x_s : Bst q s x_s) : Bst q s (State.showRegions x_s) := by
  unfold State.showRegions
  repeat' first
    | (with_reducible first | assumption | exact Bst.refl _)
    | (show _ ≠ _; first | decide | omega | (simp only [keyB, keyC, keyCap, keySite, keyPc, keyA, keyG, keyBench, keyNode, keyEng, keyDma, keyLane, keyLink, keyStream, keyStack, keyPort, keyTpg, key, RBay.BAY_STATE, ne_eq, R.CAPTURE_BASE, R.CAPTURE_SIZE, R.PATTERN_SIZE, R.SYSTEM_BASE, R.SYSTEM_SIZE]; omega) | (simp only [keyB, keyC, keyCap, keySite, keyPc, keyA, keyG, keyBench, keyNode, keyEng, keyDma, keyLane, keyLink, keyStream, keyStack, keyPort, keyTpg, key, RBay.BAY_STATE, ne_eq, R.CAPTURE_BASE, R.CAPTURE_SIZE, R.PATTERN_SIZE, R.SYSTEM_BASE, R.SYSTEM_SIZE, List.mem_range, List.mem_cons, List.not_mem_nil, or_false] at *; omega) | (split <;> first | decide | (simp only [keyB, keyC, keyCap, keySite, keyPc, keyA, keyG, keyBench, keyNode, keyEng, keyDma, keyLane, keyLink, keyStream, keyStack, keyPort, keyTpg, key, RBay.BAY_STATE, ne_eq, R.CAPTURE_BASE, R.CAPTURE_SIZE, R.PATTERN_SIZE, R.SYSTEM_BASE, R.SYSTEM_SIZE]; omega)))
    | (intro x_1; refine (fun hx : Bst q s x_1 => ?_) ?_; (clear_value x_1); rotate_left; (unfold x_1))
    | (intro x_1; clear_value x_1)
    | intro _
    | with_reducible apply State.setO_bst
    | lift_lets -underBinder

theorem State.respond_bst {q : Bay} {s : State} {x_s : State} {x_code : Nat} {x_body : Bytes} (h_x_s : Bst q s x_s) : Bst q s (State.respond x_s x_code x_body) := by
  unfold State.respond
  repeat' first
    | (with_reducible first | assumption | exact Bst.refl _)
    | (refine Bst.upd ?_)

theorem State.readMem_bst {q : Bay} {s : State} {x_s : State} {x_a : Nat} {x_len : Nat} {x_seq : Option (BitVec 8)} {x_eccs : List Ecc} (h_x_s : Bst q s x_s) : Bst q s (State.readMem x_s x_a x_len x_seq x_eccs) := by
  unfold State.readMem
  repeat' first
    | (with_reducible first | assumption | exact Bst.refl _)
    | (intro x_1; refine (fun hx : Bst q s x_1 => ?_) ?_; (clear_value x_1); rotate_left; (unfold x_1))
    | (intro x_1; clear_value x_1)
    | intro _
    | (with_reducible first | apply State.respond_bst | apply State.checkBlocks_bst | apply Bst.ite | apply Bst.ite1 | apply Bst.ite2)
    | lift_lets -underBinder
    | split
    | dsimp only

theorem State.writeMem_bst {q : Bay} {s : State} {x_s : State} {x_who : Writer} {x_a : Nat} {x_data : Bytes} {x_seq : Nat} (h_x_s : Bst q s x_s) : Bst q s (State.writeMem x_s x_who x_a x_data x_seq) := by
  unfold State.writeMem
  repeat' first
    | (with_reducible first | assumption | exact Bst.refl _)
    | (intro x_1; refine (fun hx : Bst q s x_1 => ?_) ?_; (clear_value x_1); rotate_left; (unfold x_1))
    | (intro x_1; clear_value x_1)
    | intro _
    | (with_reducible first | apply State.respond_bst | apply State.putMem_bst | apply Bst.ite)
    | lift_lets -underBinder
    | split
    | (refine Bst.upd ?_)

theorem State.serveRequest_bst {q : Bay} {s : State} {x_s : State} {x_a1 : Instr} (h_x_s : Bst q s x_s) : Bst q s (State.serveRequest x_s x_a1) := by
  unfold State.serveRequest
  repeat' first
    | (with_reducible first | assumption | exact Bst.refl _)
    | (with_reducible first | apply State.readMem_bst | apply State.writeMem_bst)
    | split

theorem State.memRequest_bst {q : Bay} {s : State} {x_s : State} {x_i : Instr} (h_x_s : Bst q s x_s) : Bst q s (State.memRequest x_s x_i) := by
  unfold State.memRequest
  repeat' first
    | (with_reducible first | assumption | exact Bst.refl _)
    | intro _
    | (with_reducible first | apply State.modHbm_bst | apply State.serveRequest_bst | apply State.takeSlots_bst | apply Bst.ite)
    | split
    | (refine Bst.upd ?_)

theorem State.serveWaits_bst {q : Bay} {s : State} {x_s : State} {x_a1 : List Instr} {x_a2 : List Instr} (h_x_s : Bst q s x_s) : Bst q s (State.serveWaits x_s x_a1 x_a2) := by
  induction x_a1 generalizing x_s x_a2 with
  | nil =>
    unfold State.serveWaits
    repeat' first
      | (with_reducible first | assumption | exact Bst.refl _)
      | intro _
      | (with_reducible first | apply State.modHbm_bst | apply State.serveRequest_bst | apply State.takeSlots_bst | apply Bst.ite)
      | split
      | dsimp only
      | (refine Bst.upd ?_)
  | cons hd tl ih =>
    unfold State.serveWaits
    repeat' first
      | with_reducible apply ih
      | (with_reducible first | assumption | exact Bst.refl _)
      | intro _
      | (with_reducible first | apply State.modHbm_bst | apply State.serveRequest_bst | apply State.takeSlots_bst | apply Bst.ite)
      | split
      | dsimp only
      | (refine Bst.upd ?_)

theorem State.memTick_bst {q : Bay} {s : State} {x_s : State} (h_x_s : Bst q s x_s) : Bst q s (State.memTick x_s) := by
  unfold State.memTick
  repeat' first
    | (with_reducible first | assumption | exact Bst.refl _)
    | (with_reducible first | apply State.serveWaits_bst | apply Bst.ite)
    | split

theorem State.endCatchup_bst {q : Bay} {s : State} {x_s : State} {x_pc : Nat} (h_x_s : Bst q s x_s) : Bst q s (State.endCatchup x_s x_pc) := by
  unfold State.endCatchup
  repeat' first
    | (with_reducible first | assumption | exact Bst.refl _)
    | (show _ ≠ _; first | decide | omega | (simp only [keyB, keyC, keyCap, keySite, keyPc, keyA, keyG, keyBench, keyNode, keyEng, keyDma, keyLane, keyLink, keyStream, keyStack, keyPort, keyTpg, key, RBay.BAY_STATE, ne_eq, RPc.SCHED_MODE, RStack.CATCHUP_MAX_NS]; omega) | (simp only [keyB, keyC, keyCap, keySite, keyPc, keyA, keyG, keyBench, keyNode, keyEng, keyDma, keyLane, keyLink, keyStream, keyStack, keyPort, keyTpg, key, RBay.BAY_STATE, ne_eq, RPc.SCHED_MODE, RStack.CATCHUP_MAX_NS, List.mem_range, List.mem_cons, List.not_mem_nil, or_false] at *; omega) | (split <;> first | decide | (simp only [keyB, keyC, keyCap, keySite, keyPc, keyA, keyG, keyBench, keyNode, keyEng, keyDma, keyLane, keyLink, keyStream, keyStack, keyPort, keyTpg, key, RBay.BAY_STATE, ne_eq, RPc.SCHED_MODE, RStack.CATCHUP_MAX_NS]; omega)))
    | (intro x_1; refine (fun hx : Bst q s x_1 => ?_) ?_; (clear_value x_1); rotate_left; (unfold x_1))
    | (intro x_1; clear_value x_1)
    | intro _
    | (with_reducible first | apply State.setO_bst | apply Bst.ite)
    | lift_lets -underBinder

theorem State.refresh_bst {q : Bay} {s : State} {x_s : State} {x_pc : Nat} {x_issued : Bool} (h_x_s : Bst q s x_s) : Bst q s (State.refresh x_s x_pc x_issued) := by
  unfold State.refresh
  repeat' first
    | (with_reducible first | assumption | exact Bst.refl _)
    | (show _ ≠ _; first | decide | omega | (simp only [keyB, keyC, keyCap, keySite, keyPc, keyA, keyG, keyBench, keyNode, keyEng, keyDma, keyLane, keyLink, keyStream, keyStack, keyPort, keyTpg, key, RBay.BAY_STATE, ne_eq, RPc.REFRESH_OWED, RPc.SCHED_MODE]; omega) | (simp only [keyB, keyC, keyCap, keySite, keyPc, keyA, keyG, keyBench, keyNode, keyEng, keyDma, keyLane, keyLink, keyStream, keyStack, keyPort, keyTpg, key, RBay.BAY_STATE, ne_eq, RPc.REFRESH_OWED, RPc.SCHED_MODE, List.mem_range, List.mem_cons, List.not_mem_nil, or_false] at *; omega) | (split <;> first | decide | (simp only [keyB, keyC, keyCap, keySite, keyPc, keyA, keyG, keyBench, keyNode, keyEng, keyDma, keyLane, keyLink, keyStream, keyStack, keyPort, keyTpg, key, RBay.BAY_STATE, ne_eq, RPc.REFRESH_OWED, RPc.SCHED_MODE]; omega)))
    | (intro x_1; refine (fun hx : Bst q s x_1 => ?_) ?_; (clear_value x_1); rotate_left; (unfold x_1))
    | (intro x_1; clear_value x_1)
    | intro _
    | (with_reducible first | apply State.setO_bst | apply State.endCatchup_bst | apply Bst.ite)
    | lift_lets -underBinder

theorem State.tempReading_bst {q : Bay} {s : State} {x_s : State} {x_i : Nat} {x_temp : Int} (h_x_s : Bst q s x_s) : Bst q s (State.tempReading x_s x_i x_temp) := by
  unfold State.tempReading
  repeat' first
    | (with_reducible first | assumption | exact Bst.refl _)
    | (show _ ≠ _; first | decide | omega | (simp only [keyB, keyC, keyCap, keySite, keyPc, keyA, keyG, keyBench, keyNode, keyEng, keyDma, keyLane, keyLink, keyStream, keyStack, keyPort, keyTpg, key, RBay.BAY_STATE, ne_eq, RPc.REFRESH_OWED, RPc.SCHED_MODE, RStack.CATCHUPS, RStack.HOT, RStack.STACK_TEMP]; omega) | (simp only [keyB, keyC, keyCap, keySite, keyPc, keyA, keyG, keyBench, keyNode, keyEng, keyDma, keyLane, keyLink, keyStream, keyStack, keyPort, keyTpg, key, RBay.BAY_STATE, ne_eq, RPc.REFRESH_OWED, RPc.SCHED_MODE, RStack.CATCHUPS, RStack.HOT, RStack.STACK_TEMP, List.mem_range, List.mem_cons, List.not_mem_nil, or_false] at *; omega) | (split <;> first | decide | (simp only [keyB, keyC, keyCap, keySite, keyPc, keyA, keyG, keyBench, keyNode, keyEng, keyDma, keyLane, keyLink, keyStream, keyStack, keyPort, keyTpg, key, RBay.BAY_STATE, ne_eq, RPc.REFRESH_OWED, RPc.SCHED_MODE, RStack.CATCHUPS, RStack.HOT, RStack.STACK_TEMP]; omega)))
    | (intro x_1; refine (fun hx : Bst q s x_1 => ?_) ?_; (clear_value x_1); rotate_left; (unfold x_1))
    | (intro x_1; clear_value x_1)
    | intro _
    | (with_reducible first | apply State.setO_bst | apply State.incO_bst | apply State.each_bst | apply Bst.ite)
    | lift_lets -underBinder
    | (refine Bst.upd ?_)

theorem State.pcFails_bst {q : Bay} {s : State} {x_s : State} {x_pc : Nat} {x_cause : Nat} (h_x_s : Bst q s x_s) : Bst q s (State.pcFails x_s x_pc x_cause) := by
  unfold State.pcFails
  repeat' first
    | (with_reducible first | assumption | exact Bst.refl _)
    | (show _ ≠ _; first | decide | omega | (simp only [keyB, keyC, keyCap, keySite, keyPc, keyA, keyG, keyBench, keyNode, keyEng, keyDma, keyLane, keyLink, keyStream, keyStack, keyPort, keyTpg, key, RBay.BAY_STATE, ne_eq, RPc.PC_STATE]; omega) | (simp only [keyB, keyC, keyCap, keySite, keyPc, keyA, keyG, keyBench, keyNode, keyEng, keyDma, keyLane, keyLink, keyStream, keyStack, keyPort, keyTpg, key, RBay.BAY_STATE, ne_eq, RPc.PC_STATE, List.mem_range, List.mem_cons, List.not_mem_nil, or_false] at *; omega) | (split <;> first | decide | (simp only [keyB, keyC, keyCap, keySite, keyPc, keyA, keyG, keyBench, keyNode, keyEng, keyDma, keyLane, keyLink, keyStream, keyStack, keyPort, keyTpg, key, RBay.BAY_STATE, ne_eq, RPc.PC_STATE]; omega)))
    | (with_reducible first | apply State.fault_bst | apply State.setO_bst)

theorem State.trained_bst {q : Bay} {s : State} {x_s : State} {x_pc : Nat} (h_x_s : Bst q s x_s) : Bst q s (State.trained x_s x_pc) := by
  unfold State.trained
  repeat' first
    | (with_reducible first | assumption | exact Bst.refl _)
    | (show _ ≠ _; first | decide | omega | (simp only [keyB, keyC, keyCap, keySite, keyPc, keyA, keyG, keyBench, keyNode, keyEng, keyDma, keyLane, keyLink, keyStream, keyStack, keyPort, keyTpg, key, RBay.BAY_STATE, ne_eq, RPc.PC_STATE]; omega) | (simp only [keyB, keyC, keyCap, keySite, keyPc, keyA, keyG, keyBench, keyNode, keyEng, keyDma, keyLane, keyLink, keyStream, keyStack, keyPort, keyTpg, key, RBay.BAY_STATE, ne_eq, RPc.PC_STATE, List.mem_range, List.mem_cons, List.not_mem_nil, or_false] at *; omega) | (split <;> first | decide | (simp only [keyB, keyC, keyCap, keySite, keyPc, keyA, keyG, keyBench, keyNode, keyEng, keyDma, keyLane, keyLink, keyStream, keyStack, keyPort, keyTpg, key, RBay.BAY_STATE, ne_eq, RPc.PC_STATE]; omega)))
    | intro _
    | (with_reducible first | apply State.setO_bst | apply State.modHbm_bst)
    | (refine Bst.upd ?_)

theorem State.recoveryStep_bst {q : Bay} {s : State} {x_s : State} {x_pc : Nat} {x_o : StepOutcome} (h_x_s : Bst q s x_s) : Bst q s (State.recoveryStep x_s x_pc x_o) := by
  unfold State.recoveryStep
  repeat' first
    | (with_reducible first | assumption | exact Bst.refl _)
    | (show _ ≠ _; first | decide | omega | (simp only [keyB, keyC, keyCap, keySite, keyPc, keyA, keyG, keyBench, keyNode, keyEng, keyDma, keyLane, keyLink, keyStream, keyStack, keyPort, keyTpg, key, RBay.BAY_STATE, ne_eq, RPc.PC_STATE, RPc.RECOVERY_STEPS, RPc.REFRESH_OWED, RPc.SCHED_MODE, RStack.STACK_TEMP]; omega) | (simp only [keyB, keyC, keyCap, keySite, keyPc, keyA, keyG, keyBench, keyNode, keyEng, keyDma, keyLane, keyLink, keyStream, keyStack, keyPort, keyTpg, key, RBay.BAY_STATE, ne_eq, RPc.PC_STATE, RPc.RECOVERY_STEPS, RPc.REFRESH_OWED, RPc.SCHED_MODE, RStack.STACK_TEMP, List.mem_range, List.mem_cons, List.not_mem_nil, or_false] at *; omega) | (split <;> first | decide | (simp only [keyB, keyC, keyCap, keySite, keyPc, keyA, keyG, keyBench, keyNode, keyEng, keyDma, keyLane, keyLink, keyStream, keyStack, keyPort, keyTpg, key, RBay.BAY_STATE, ne_eq, RPc.PC_STATE, RPc.RECOVERY_STEPS, RPc.REFRESH_OWED, RPc.SCHED_MODE, RStack.STACK_TEMP]; omega)))
    | (intro x_1; refine (fun hx : Bst q s x_1 => ?_) ?_; (clear_value x_1); rotate_left; (unfold x_1))
    | (intro x_1; clear_value x_1)
    | intro _
    | (with_reducible first | apply State.advance_bst | apply State.setO_bst | apply State.incO_bst | apply State.pcFails_bst | apply Bst.ite)
    | lift_lets -underBinder
    | split
    | (refine Bst.upd ?_)

theorem State.scrubStep_bst {q : Bay} {s : State} {x_s : State} {x_pc : Nat} {x_index : Nat} {x_ecc : Ecc} (h_x_s : Bst q s x_s) : Bst q s (State.scrubStep x_s x_pc x_index x_ecc) := by
  unfold State.scrubStep
  repeat' first
    | (with_reducible first | assumption | exact Bst.refl _)
    | (show _ ≠ _; first | decide | omega | (simp only [keyB, keyC, keyCap, keySite, keyPc, keyA, keyG, keyBench, keyNode, keyEng, keyDma, keyLane, keyLink, keyStream, keyStack, keyPort, keyTpg, key, RBay.BAY_STATE, ne_eq, R.SCRUB_PASSES]; omega) | (simp only [keyB, keyC, keyCap, keySite, keyPc, keyA, keyG, keyBench, keyNode, keyEng, keyDma, keyLane, keyLink, keyStream, keyStack, keyPort, keyTpg, key, RBay.BAY_STATE, ne_eq, R.SCRUB_PASSES, List.mem_range, List.mem_cons, List.not_mem_nil, or_false] at *; omega) | (split <;> first | decide | (simp only [keyB, keyC, keyCap, keySite, keyPc, keyA, keyG, keyBench, keyNode, keyEng, keyDma, keyLane, keyLink, keyStream, keyStack, keyPort, keyTpg, key, RBay.BAY_STATE, ne_eq, R.SCRUB_PASSES]; omega)))
    | (intro x_1; refine (fun hx : Bst q s x_1 => ?_) ?_; (clear_value x_1); rotate_left; (unfold x_1))
    | (intro x_1; clear_value x_1)
    | intro _
    | (with_reducible first | apply State.checkBlock_bst | apply State.incO_bst | apply Bst.ite)
    | lift_lets -underBinder
    | (refine Bst.upd ?_)

theorem State.retrain_bst {q : Bay} {s : State} {x_s : State} {x_pc : Nat} (h_x_s : Bst q s x_s) : Bst q s (State.retrain x_s x_pc) := by
  unfold State.retrain
  repeat' first
    | (with_reducible first | assumption | exact Bst.refl _)
    | (show _ ≠ _; first | decide | omega | (simp only [keyB, keyC, keyCap, keySite, keyPc, keyA, keyG, keyBench, keyNode, keyEng, keyDma, keyLane, keyLink, keyStream, keyStack, keyPort, keyTpg, key, RBay.BAY_STATE, ne_eq, RPc.PC_STATE, RPc.SCHED_MODE]; omega) | (simp only [keyB, keyC, keyCap, keySite, keyPc, keyA, keyG, keyBench, keyNode, keyEng, keyDma, keyLane, keyLink, keyStream, keyStack, keyPort, keyTpg, key, RBay.BAY_STATE, ne_eq, RPc.PC_STATE, RPc.SCHED_MODE, List.mem_range, List.mem_cons, List.not_mem_nil, or_false] at *; omega) | (split <;> first | decide | (simp only [keyB, keyC, keyCap, keySite, keyPc, keyA, keyG, keyBench, keyNode, keyEng, keyDma, keyLane, keyLink, keyStream, keyStack, keyPort, keyTpg, key, RBay.BAY_STATE, ne_eq, RPc.PC_STATE, RPc.SCHED_MODE]; omega)))
    | intro _
    | (with_reducible first | apply State.hostModule_bst | apply State.answer_bst | apply State.ok_bst | apply State.setO_bst | apply Bst.ite)

theorem State.retrained_bst {q : Bay} {s : State} {x_s : State} {x_pc : Nat} {x_ok : Bool} (h_x_s : Bst q s x_s) : Bst q s (State.retrained x_s x_pc x_ok) := by
  unfold State.retrained
  repeat' first
    | (with_reducible first | assumption | exact Bst.refl _)
    | (show _ ≠ _; first | decide | omega | (simp only [keyB, keyC, keyCap, keySite, keyPc, keyA, keyG, keyBench, keyNode, keyEng, keyDma, keyLane, keyLink, keyStream, keyStack, keyPort, keyTpg, key, RBay.BAY_STATE, ne_eq, RPc.SCHED_MODE]; omega) | (simp only [keyB, keyC, keyCap, keySite, keyPc, keyA, keyG, keyBench, keyNode, keyEng, keyDma, keyLane, keyLink, keyStream, keyStack, keyPort, keyTpg, key, RBay.BAY_STATE, ne_eq, RPc.SCHED_MODE, List.mem_range, List.mem_cons, List.not_mem_nil, or_false] at *; omega) | (split <;> first | decide | (simp only [keyB, keyC, keyCap, keySite, keyPc, keyA, keyG, keyBench, keyNode, keyEng, keyDma, keyLane, keyLink, keyStream, keyStack, keyPort, keyTpg, key, RBay.BAY_STATE, ne_eq, RPc.SCHED_MODE]; omega)))
    | (with_reducible first | apply State.setO_bst | apply State.trained_bst | apply State.pcFails_bst | apply Bst.ite)
    | split

theorem execMemRead_bst {q : Bay} {s : State} {x_cls : MemClass} {x_addr : Nat} {x_len : Nat} {x_expectSeq : Option (BitVec 8)} {x_eccs : List Ecc} {x_s : State} (h_x_s : Bst q s x_s) : BstN q s (execMemRead x_cls x_addr x_len x_expectSeq x_eccs x_s) := by
  unfold execMemRead
  repeat' first
    | (with_reducible first | assumption | exact Bst.refl _)
    | (with_reducible first | apply State.memRequest_bst | apply BstN.next | apply BstN.ite)

theorem execMemWrite_bst {q : Bay} {s : State} {x_who : Writer} {x_addr : Nat} {x_data : Bytes} {x_seq : BitVec 8} {x_s : State} (h_x_s : Bst q s x_s) : BstN q s (execMemWrite x_who x_addr x_data x_seq x_s) := by
  unfold execMemWrite
  repeat' first
    | (with_reducible first | assumption | exact Bst.refl _)
    | (with_reducible first | apply State.memRequest_bst | apply BstN.next | apply BstN.ite)

theorem execRefresh_bst {q : Bay} {s : State} {x_pc : Pc} {x_issued : Bool} {x_s : State} (h_x_s : Bst q s x_s) : BstN q s (execRefresh x_pc x_issued x_s) := by
  unfold execRefresh
  repeat' first
    | (with_reducible first | assumption | exact Bst.refl _ | apply State.refresh_bst | apply BstN.next | apply BstN.ite)

theorem execTempReading_bst {q : Bay} {s : State} {x_stack : Fin 2} {x_temp : Int} {x_s : State} (h_x_s : Bst q s x_s) : BstN q s (execTempReading x_stack x_temp x_s) := by
  unfold execTempReading
  repeat' first
    | (with_reducible first | assumption | exact Bst.refl _ | apply State.tempReading_bst | apply BstN.next | apply BstN.ite)

theorem execRecoveryStep_bst {q : Bay} {s : State} {x_pc : Pc} {x_outcome : StepOutcome} {x_s : State} (h_x_s : Bst q s x_s) : BstN q s (execRecoveryStep x_pc x_outcome x_s) := by
  unfold execRecoveryStep
  repeat' first
    | (with_reducible first | assumption | exact Bst.refl _ | apply State.recoveryStep_bst | apply BstN.next | apply BstN.ite)

theorem execScrubStep_bst {q : Bay} {s : State} {x_pc : Pc} {x_group : Nat} {x__overtaken : Bool} {x_ecc : Ecc} {x_s : State} (h_x_s : Bst q s x_s) : BstN q s (execScrubStep x_pc x_group x__overtaken x_ecc x_s) := by
  unfold execScrubStep
  repeat' first
    | (with_reducible first | assumption | exact Bst.refl _ | apply State.scrubStep_bst | apply BstN.next | apply BstN.ite)

theorem execHbmRetrainRequest_bst {q : Bay} {s : State} {x_pc : Pc} {x_s : State} (h_x_s : Bst q s x_s) : BstN q s (execHbmRetrainRequest x_pc x_s) := by
  unfold execHbmRetrainRequest
  repeat' first
    | (with_reducible first | assumption | exact Bst.refl _ | apply State.retrain_bst | apply BstN.next | apply BstN.ite)

theorem execHbmRetrainComplete_bst {q : Bay} {s : State} {x_pc : Pc} {x_ok : Bool} {x_s : State} (h_x_s : Bst q s x_s) : BstN q s (execHbmRetrainComplete x_pc x_ok x_s) := by
  unfold execHbmRetrainComplete
  repeat' first
    | (with_reducible first | assumption | exact Bst.refl _ | apply State.retrained_bst | apply BstN.next | apply BstN.ite)

end Sys2Proof.Machine
end

