-- ==== Sys2Proof/Laws/BstLink.lean ====
section
/-! SUPPORT. What the operations of Machine/Link.lean keep. -/

set_option linter.all false

namespace Sys2Proof.Machine

theorem State.setL_bst {q : Bay} {s : State} {x_s : State} {x_l : Lane} {x_sub : Nat} {x_v : Nat} (h_x_s : Bst q s x_s) : Bst q s (State.setL x_s x_l x_sub x_v) := by
  unfold State.setL
  repeat' first
    | (with_reducible first | assumption | exact Bst.refl _)
    | (show _ ≠ _; first | decide | omega | (simp only [keyB, keyC, keyCap, keySite, keyPc, keyA, keyG, keyBench, keyNode, keyEng, keyDma, keyLane, keyLink, keyStream, keyStack, keyPort, keyTpg, key, RBay.BAY_STATE, ne_eq]; omega) | (simp only [keyB, keyC, keyCap, keySite, keyPc, keyA, keyG, keyBench, keyNode, keyEng, keyDma, keyLane, keyLink, keyStream, keyStack, keyPort, keyTpg, key, RBay.BAY_STATE, ne_eq, List.mem_range, List.mem_cons, List.not_mem_nil, or_false] at *; omega) | (split <;> first | decide | (simp only [keyB, keyC, keyCap, keySite, keyPc, keyA, keyG, keyBench, keyNode, keyEng, keyDma, keyLane, keyLink, keyStream, keyStack, keyPort, keyTpg, key, RBay.BAY_STATE, ne_eq]; omega)))
    | with_reducible apply State.setO_bst

theorem State.setK_bst {q : Bay} {s : State} {x_s : State} {x_k : Link} {x_sub : Nat} {x_v : Nat} (h_x_s : Bst q s x_s) : Bst q s (State.setK x_s x_k x_sub x_v) := by
  unfold State.setK
  repeat' first
    | (with_reducible first | assumption | exact Bst.refl _)
    | (show _ ≠ _; first | decide | omega | (simp only [keyB, keyC, keyCap, keySite, keyPc, keyA, keyG, keyBench, keyNode, keyEng, keyDma, keyLane, keyLink, keyStream, keyStack, keyPort, keyTpg, key, RBay.BAY_STATE, ne_eq]; omega) | (simp only [keyB, keyC, keyCap, keySite, keyPc, keyA, keyG, keyBench, keyNode, keyEng, keyDma, keyLane, keyLink, keyStream, keyStack, keyPort, keyTpg, key, RBay.BAY_STATE, ne_eq, List.mem_range, List.mem_cons, List.not_mem_nil, or_false] at *; omega) | (split <;> first | decide | (simp only [keyB, keyC, keyCap, keySite, keyPc, keyA, keyG, keyBench, keyNode, keyEng, keyDma, keyLane, keyLink, keyStream, keyStack, keyPort, keyTpg, key, RBay.BAY_STATE, ne_eq]; omega)))
    | with_reducible apply State.setO_bst

theorem State.setT_bst {q : Bay} {s : State} {x_s : State} {x_i : Stream} {x_sub : Nat} {x_v : Nat} (h_x_s : Bst q s x_s) : Bst q s (State.setT x_s x_i x_sub x_v) := by
  unfold State.setT
  repeat' first
    | (with_reducible first | assumption | exact Bst.refl _)
    | (show _ ≠ _; first | decide | omega | (simp only [keyB, keyC, keyCap, keySite, keyPc, keyA, keyG, keyBench, keyNode, keyEng, keyDma, keyLane, keyLink, keyStream, keyStack, keyPort, keyTpg, key, RBay.BAY_STATE, ne_eq]; omega) | (simp only [keyB, keyC, keyCap, keySite, keyPc, keyA, keyG, keyBench, keyNode, keyEng, keyDma, keyLane, keyLink, keyStream, keyStack, keyPort, keyTpg, key, RBay.BAY_STATE, ne_eq, List.mem_range, List.mem_cons, List.not_mem_nil, or_false] at *; omega) | (split <;> first | decide | (simp only [keyB, keyC, keyCap, keySite, keyPc, keyA, keyG, keyBench, keyNode, keyEng, keyDma, keyLane, keyLink, keyStream, keyStack, keyPort, keyTpg, key, RBay.BAY_STATE, ne_eq]; omega)))
    | with_reducible apply State.setO_bst

theorem State.modLane_bst {q : Bay} {s : State} {x_s : State} {x_l : Lane} {x_f : LaneU → LaneU} (h_x_s : Bst q s x_s) : Bst q s (State.modLane x_s x_l x_f) := by
  unfold State.modLane
  repeat' first
    | (with_reducible first | assumption | exact Bst.refl _)
    | (refine Bst.upd ?_)

theorem State.modLink_bst {q : Bay} {s : State} {x_s : State} {x_k : Link} {x_f : LinkU → LinkU} (h_x_s : Bst q s x_s) : Bst q s (State.modLink x_s x_k x_f) := by
  unfold State.modLink
  repeat' first
    | (with_reducible first | assumption | exact Bst.refl _)
    | (refine Bst.upd ?_)

theorem State.modStream_bst {q : Bay} {s : State} {x_s : State} {x_i : Stream} {x_f : StreamU → StreamU} (h_x_s : Bst q s x_s) : Bst q s (State.modStream x_s x_i x_f) := by
  unfold State.modStream
  repeat' first
    | (with_reducible first | assumption | exact Bst.refl _)
    | (refine Bst.upd ?_)

theorem State.flagLane_bst {q : Bay} {s : State} {x_s : State} {x_l : Lane} {x_bit : Nat} (h_x_s : Bst q s x_s) : Bst q s (State.flagLane x_s x_l x_bit) := by
  unfold State.flagLane
  repeat' first
    | (with_reducible first | assumption | exact Bst.refl _ | apply State.setL_bst)

theorem State.laneEvent_bst {q : Bay} {s : State} {x_s : State} {x_l : Lane} {x_k : Nat} (h_x_s : Bst q s x_s) : Bst q s (State.laneEvent x_s x_l x_k) := by
  unfold State.laneEvent
  repeat' first
    | (with_reducible first | assumption | exact Bst.refl _ | apply State.occur_bst)

theorem State.showLanes_bst {q : Bay} {s : State} {x_s : State} (h_x_s : Bst q s x_s) : Bst q s (State.showLanes x_s) := by
  unfold State.showLanes
  repeat' first
    | (with_reducible first | assumption | exact Bst.refl _)
    | intro _
    | (with_reducible first | apply State.each_bst | apply State.setL_bst | exact BstO.none | apply BstO.some | apply BstO.ite)
    | split
    | (refine Bst.upd ?_)

theorem State.breakStream_bst {q : Bay} {s : State} {x_s : State} {x_i : Stream} (h_x_s : Bst q s x_s) : Bst q s (State.breakStream x_s x_i) := by
  unfold State.breakStream
  repeat' first
    | (with_reducible first | assumption | exact Bst.refl _)
    | (intro x_1; refine (fun hx : Bst q s x_1 => ?_) ?_; (clear_value x_1); rotate_left; (unfold x_1))
    | (intro x_1; clear_value x_1)
    | intro _
    | (with_reducible first | apply State.setT_bst | apply State.each_bst | apply State.pkgAbort_bst | exact BstO.none | apply BstO.some | apply BstO.ite | apply Bst.ite)
    | lift_lets -underBinder

theorem State.putReady_bst {q : Bay} {s : State} {x_s : State} {x_a : Nat} {x_data : Bytes} {x_tag : Nat} (h_x_s : Bst q s x_s) : Bst q s (State.putReady x_s x_a x_data x_tag) := by
  unfold State.putReady
  repeat' first
    | (with_reducible first | assumption | exact Bst.refl _)
    | (show _ ≠ _; first | decide | omega | (simp only [keyB, keyC, keyCap, keySite, keyPc, keyA, keyG, keyBench, keyNode, keyEng, keyDma, keyLane, keyLink, keyStream, keyStack, keyPort, keyTpg, key, RBay.BAY_STATE, ne_eq]; omega) | (simp only [keyB, keyC, keyCap, keySite, keyPc, keyA, keyG, keyBench, keyNode, keyEng, keyDma, keyLane, keyLink, keyStream, keyStack, keyPort, keyTpg, key, RBay.BAY_STATE, ne_eq, List.mem_range, List.mem_cons, List.not_mem_nil, or_false] at *; omega) | (split <;> first | decide | (simp only [keyB, keyC, keyCap, keySite, keyPc, keyA, keyG, keyBench, keyNode, keyEng, keyDma, keyLane, keyLink, keyStream, keyStack, keyPort, keyTpg, key, RBay.BAY_STATE, ne_eq]; omega)))
    | intro _
    | (with_reducible first | apply State.each_bst | apply State.putMem_bst | apply Bst.ite)
    | split

theorem State.ringPut_bst {q : Bay} {s : State} {x_s : State} {x_base : Nat} {x_size : Nat} {x_off : Nat} {x_data : Bytes} {x_tag : Nat} (h_x_s : Bst q s x_s) : Bst q s (State.ringPut x_s x_base x_size x_off x_data x_tag) := by
  unfold State.ringPut
  repeat' first
    | (with_reducible first | assumption | exact Bst.refl _)
    | (intro x_1; refine (fun hx : Bst q s x_1 => ?_) ?_; (clear_value x_1); rotate_left; (unfold x_1))
    | (intro x_1; clear_value x_1)
    | intro _
    | (with_reducible first | apply State.putReady_bst | apply Bst.ite)
    | lift_lets -underBinder
    | split
    | dsimp only

theorem State.deliver_bst {q : Bay} {s : State} {x_s : State} {x_i : Stream} {x_data : Bytes} (h_x_s : Bst q s x_s) : Bst q s (State.deliver x_s x_i x_data) := by
  unfold State.deliver
  repeat' first
    | (with_reducible first | assumption | exact Bst.refl _)
    | (show _ ≠ _; first | decide | omega | (simp only [keyB, keyC, keyCap, keySite, keyPc, keyA, keyG, keyBench, keyNode, keyEng, keyDma, keyLane, keyLink, keyStream, keyStack, keyPort, keyTpg, key, RBay.BAY_STATE, ne_eq, RBay.STAGE_BASE, RBay.STAGE_SIZE, RBay.STAGE_WRITE, RStream.BYTES, RStream.RING_BASE, RStream.RING_CONSUMED, RStream.RING_SIZE, RStream.RING_WRITE]; omega) | (simp only [keyB, keyC, keyCap, keySite, keyPc, keyA, keyG, keyBench, keyNode, keyEng, keyDma, keyLane, keyLink, keyStream, keyStack, keyPort, keyTpg, key, RBay.BAY_STATE, ne_eq, RBay.STAGE_BASE, RBay.STAGE_SIZE, RBay.STAGE_WRITE, RStream.BYTES, RStream.RING_BASE, RStream.RING_CONSUMED, RStream.RING_SIZE, RStream.RING_WRITE, List.mem_range, List.mem_cons, List.not_mem_nil, or_false] at *; omega) | (split <;> first | decide | (simp only [keyB, keyC, keyCap, keySite, keyPc, keyA, keyG, keyBench, keyNode, keyEng, keyDma, keyLane, keyLink, keyStream, keyStack, keyPort, keyTpg, key, RBay.BAY_STATE, ne_eq, RBay.STAGE_BASE, RBay.STAGE_SIZE, RBay.STAGE_WRITE, RStream.BYTES, RStream.RING_BASE, RStream.RING_CONSUMED, RStream.RING_SIZE, RStream.RING_WRITE]; omega)))
    | (intro x_1; refine (fun hx : Bst q s x_1 => ?_) ?_; (clear_value x_1); rotate_left; (unfold x_1))
    | (intro x_1; clear_value x_1)
    | intro _
    | (with_reducible first | apply State.setT_bst | apply State.setB_bst | apply State.ringPut_bst | apply State.each_bst | apply State.modBay_bst | apply State.modStream_bst | exact BstO.none | apply BstO.some | apply BstO.ite)
    | lift_lets -underBinder
    | split
    | (refine Bst.upd ?_)

theorem State.showWidth_bst {q : Bay} {s : State} {x_s : State} {x_k : Link} (h_x_s : Bst q s x_s) : Bst q s (State.showWidth x_s x_k) := by
  unfold State.showWidth
  repeat' first
    | (with_reducible first | assumption | exact Bst.refl _)
    | (show _ ≠ _; first | decide | omega | (simp only [keyB, keyC, keyCap, keySite, keyPc, keyA, keyG, keyBench, keyNode, keyEng, keyDma, keyLane, keyLink, keyStream, keyStack, keyPort, keyTpg, key, RBay.BAY_STATE, ne_eq, RLane.LANE_RATE, RLink.PAYLOAD_RATE, RLink.VERSION, RLink.WIDTH, RLink.WIDTH_CHANGES]; omega) | (simp only [keyB, keyC, keyCap, keySite, keyPc, keyA, keyG, keyBench, keyNode, keyEng, keyDma, keyLane, keyLink, keyStream, keyStack, keyPort, keyTpg, key, RBay.BAY_STATE, ne_eq, RLane.LANE_RATE, RLink.PAYLOAD_RATE, RLink.VERSION, RLink.WIDTH, RLink.WIDTH_CHANGES, List.mem_range, List.mem_cons, List.not_mem_nil, or_false] at *; omega) | (split <;> first | decide | (simp only [keyB, keyC, keyCap, keySite, keyPc, keyA, keyG, keyBench, keyNode, keyEng, keyDma, keyLane, keyLink, keyStream, keyStack, keyPort, keyTpg, key, RBay.BAY_STATE, ne_eq, RLane.LANE_RATE, RLink.PAYLOAD_RATE, RLink.VERSION, RLink.WIDTH, RLink.WIDTH_CHANGES]; omega)))
    | (intro x_1; refine (fun hx : Bst q s x_1 => ?_) ?_; (clear_value x_1); rotate_left; (unfold x_1))
    | (intro x_1; clear_value x_1)
    | intro _
    | (with_reducible first | apply State.setK_bst | apply State.incO_bst | apply State.each_bst | apply State.flagLane_bst | apply Bst.ite)
    | lift_lets -underBinder
    | split
    | (refine Bst.upd ?_)

theorem State.linkDown_bst {q : Bay} {s : State} {x_s : State} {x_k : Link} (h_x_s : Bst q s x_s) : Bst q s (State.linkDown x_s x_k) := by
  unfold State.linkDown
  repeat' first
    | (with_reducible first | assumption | exact Bst.refl _)
    | (intro x_1; refine (fun hx : Bst q s x_1 => ?_) ?_; (clear_value x_1); rotate_left; (unfold x_1))
    | (intro x_1; clear_value x_1)
    | intro _
    | (with_reducible first | apply State.modLink_bst | apply State.each_bst | apply State.showWidth_bst | apply State.setK_bst | apply State.breakStream_bst)
    | lift_lets -underBinder
    | (refine Bst.upd ?_)

theorem State.reform_bst {q : Bay} {s : State} {x_s : State} {x_k : Link} (h_x_s : Bst q s x_s) : Bst q s (State.reform x_s x_k) := by
  unfold State.reform
  repeat' first
    | (with_reducible first | assumption | exact Bst.refl _ | apply State.setK_bst | apply Bst.ite)

theorem State.stripe_bst {q : Bay} {s : State} {x_s : State} {x_k : Link} {x_lanes : List Nat} (h_x_s : Bst q s x_s) : Bst q s (State.stripe x_s x_k x_lanes) := by
  unfold State.stripe
  repeat' first
    | (with_reducible first | assumption | exact Bst.refl _)
    | (intro x_1; refine (fun hx : Bst q s x_1 => ?_) ?_; (clear_value x_1); rotate_left; (unfold x_1))
    | (intro x_1; clear_value x_1)
    | intro _
    | (with_reducible first | apply State.showWidth_bst | apply State.modLink_bst | apply State.linkDown_bst | apply Bst.ite)
    | lift_lets -underBinder
    | (refine Bst.upd ?_)

theorem State.restripe_bst {q : Bay} {s : State} {x_s : State} {x_k : Link} (h_x_s : Bst q s x_s) : Bst q s (State.restripe x_s x_k) := by
  unfold State.restripe
  repeat' first
    | (with_reducible first | assumption | exact Bst.refl _)
    | (intro x_1; refine (fun hx : Bst q s x_1 => ?_) ?_; (clear_value x_1); rotate_left; (unfold x_1))
    | (intro x_1; clear_value x_1)
    | intro _
    | (with_reducible first | apply State.modLink_bst | apply State.stripe_bst | apply State.setK_bst)
    | lift_lets -underBinder
    | (refine Bst.upd ?_)

theorem State.leaveLink_bst {q : Bay} {s : State} {x_s : State} {x_l : Lane} (h_x_s : Bst q s x_s) : Bst q s (State.leaveLink x_s x_l) := by
  unfold State.leaveLink
  repeat' first
    | (with_reducible first | assumption | exact Bst.refl _)
    | (intro x_1; refine (fun hx : Bst q s x_1 => ?_) ?_; (clear_value x_1); rotate_left; (unfold x_1))
    | (intro x_1; clear_value x_1)
    | intro _
    | (with_reducible first | apply State.modLink_bst | apply State.stripe_bst | apply State.reform_bst | exact BstO.none | apply BstO.some | apply BstO.ite | apply Bst.ite)
    | lift_lets -underBinder
    | split
    | (refine Bst.upd ?_)

theorem State.setLane_bst {q : Bay} {s : State} {x_s : State} {x_l : Lane} {x_st : Nat} (h_x_s : Bst q s x_s) : Bst q s (State.setLane x_s x_l x_st) := by
  unfold State.setLane
  repeat' first
    | (with_reducible first | assumption | exact Bst.refl _)
    | (intro x_1; refine (fun hx : Bst q s x_1 => ?_) ?_; (clear_value x_1); rotate_left; (unfold x_1))
    | (intro x_1; clear_value x_1)
    | intro _
    | (with_reducible first | apply State.setL_bst | apply State.modLane_bst | apply State.leaveLink_bst | apply State.laneEvent_bst | apply Bst.ite)
    | lift_lets -underBinder
    | (refine Bst.upd ?_)

theorem State.retrainLane_bst {q : Bay} {s : State} {x_s : State} {x_l : Lane} {x_reason : Nat} (h_x_s : Bst q s x_s) : Bst q s (State.retrainLane x_s x_l x_reason) := by
  unfold State.retrainLane
  repeat' first
    | (with_reducible first | assumption | exact Bst.refl _)
    | (show _ ≠ _; first | decide | omega | (simp only [keyB, keyC, keyCap, keySite, keyPc, keyA, keyG, keyBench, keyNode, keyEng, keyDma, keyLane, keyLink, keyStream, keyStack, keyPort, keyTpg, key, RBay.BAY_STATE, ne_eq, RLane.RETRAIN_COUNT, RLane.RETRAIN_REASON]; omega) | (simp only [keyB, keyC, keyCap, keySite, keyPc, keyA, keyG, keyBench, keyNode, keyEng, keyDma, keyLane, keyLink, keyStream, keyStack, keyPort, keyTpg, key, RBay.BAY_STATE, ne_eq, RLane.RETRAIN_COUNT, RLane.RETRAIN_REASON, List.mem_range, List.mem_cons, List.not_mem_nil, or_false] at *; omega) | (split <;> first | decide | (simp only [keyB, keyC, keyCap, keySite, keyPc, keyA, keyG, keyBench, keyNode, keyEng, keyDma, keyLane, keyLink, keyStream, keyStack, keyPort, keyTpg, key, RBay.BAY_STATE, ne_eq, RLane.RETRAIN_COUNT, RLane.RETRAIN_REASON]; omega)))
    | (intro x_1; refine (fun hx : Bst q s x_1 => ?_) ?_; (clear_value x_1); rotate_left; (unfold x_1))
    | (intro x_1; clear_value x_1)
    | intro _
    | (with_reducible first | apply State.modLane_bst | apply State.setLane_bst | apply State.incO_bst | apply State.setL_bst | apply State.laneEvent_bst)
    | lift_lets -underBinder
    | (refine Bst.upd ?_)

theorem State.failLane_bst {q : Bay} {s : State} {x_s : State} {x_l : Lane} (h_x_s : Bst q s x_s) : Bst q s (State.failLane x_s x_l) := by
  unfold State.failLane
  repeat' first
    | (with_reducible first | assumption | exact Bst.refl _)
    | (intro x_1; refine (fun hx : Bst q s x_1 => ?_) ?_; (clear_value x_1); rotate_left; (unfold x_1))
    | (intro x_1; clear_value x_1)
    | intro _
    | (with_reducible first | apply State.setLane_bst | apply State.fault_bst)
    | lift_lets -underBinder

theorem State.laneUp_bst {q : Bay} {s : State} {x_s : State} {x_l : Lane} (h_x_s : Bst q s x_s) : Bst q s (State.laneUp x_s x_l) := by
  unfold State.laneUp
  repeat' first
    | (with_reducible first | assumption | exact Bst.refl _)
    | (intro x_1; refine (fun hx : Bst q s x_1 => ?_) ?_; (clear_value x_1); rotate_left; (unfold x_1))
    | (intro x_1; clear_value x_1)
    | intro _
    | (with_reducible first | apply State.setL_bst | apply State.setLane_bst | apply State.laneEvent_bst | apply State.modLink_bst | apply State.reform_bst | apply State.flagLane_bst | exact BstO.none | apply BstO.some | apply BstO.ite | apply Bst.ite)
    | lift_lets -underBinder
    | split
    | (refine Bst.upd ?_)

theorem State.applyRate_bst {q : Bay} {s : State} {x_s : State} {x_l : Lane} {x_rate : Nat} (h_x_s : Bst q s x_s) : Bst q s (State.applyRate x_s x_l x_rate).1 := by
  unfold State.applyRate
  repeat' first
    | (with_reducible first | assumption | exact Bst.refl _)
    | (intro x_1; refine (fun hx : Bst q s x_1 => ?_) ?_; (clear_value x_1); rotate_left; (unfold x_1))
    | (intro x_1; clear_value x_1)
    | intro _
    | (with_reducible first | apply State.modLane_bst | apply State.setL_bst | apply State.retrainLane_bst | exact BstO.none | apply BstO.some | apply BstO.ite | apply Bst.ite | apply Bst.ite1)
    | lift_lets -underBinder
    | dsimp only
    | (refine Bst.upd ?_)

theorem State.hostLane_bst {q : Bay} {s : State} {x_s : State} {x_l : Lane} (x_k : State → State) (h_x_s : Bst q s x_s) (h_x_k : ∀ (v0 : State), Bst q s v0 → Bst q s (x_k v0)) : Bst q s (State.hostLane x_s x_l x_k) := by
  unfold State.hostLane
  repeat' first
    | (with_reducible first | assumption | exact Bst.refl _)
    | intro _
    | (with_reducible first | apply h_x_k | apply State.hostModule_bst | apply State.answer_bst | apply Bst.ite)

theorem State.enableLane_bst {q : Bay} {s : State} {x_s : State} {x_l : Lane} {x_on : Bool} (h_x_s : Bst q s x_s) : Bst q s (State.enableLane x_s x_l x_on) := by
  unfold State.enableLane
  repeat' first
    | (with_reducible first | assumption | exact Bst.refl _)
    | (intro x_1; refine (fun hx : Bst q s x_1 => ?_) ?_; (clear_value x_1); rotate_left; (unfold x_1))
    | (intro x_1; clear_value x_1)
    | intro _
    | (with_reducible first | apply State.setL_bst | apply State.setLane_bst | apply Bst.ite)
    | lift_lets -underBinder

theorem State.windowEnd_bst {q : Bay} {s : State} {x_s : State} {x_l : Lane} {x_eh : Nat} {x_ew : Nat} {x_eq : EqSet} (h_x_s : Bst q s x_s) : Bst q s (State.windowEnd x_s x_l x_eh x_ew x_eq) := by
  unfold State.windowEnd
  repeat' first
    | (with_reducible first | assumption | exact Bst.refl _)
    | (intro x_1; refine (fun hx : Bst q s x_1 => ?_) ?_; (clear_value x_1); rotate_left; (unfold x_1))
    | (intro x_1; clear_value x_1)
    | intro _
    | (with_reducible first | apply State.setL_bst | apply State.modLane_bst | apply State.retrainLane_bst | exact BstO.none | apply BstO.some | apply BstO.ite | apply Bst.ite)
    | lift_lets -underBinder
    | split
    | (refine Bst.upd ?_)

theorem State.capsIn_bst {q : Bay} {s : State} {x_s : State} {x_l : Lane} {x_caps : Nat} (h_x_s : Bst q s x_s) : Bst q s (State.capsIn x_s x_l x_caps) := by
  unfold State.capsIn
  repeat' first
    | (with_reducible first | assumption | exact Bst.refl _)
    | (intro x_1; refine (fun hx : Bst q s x_1 => ?_) ?_; (clear_value x_1); rotate_left; (unfold x_1))
    | (intro x_1; clear_value x_1)
    | intro _
    | (with_reducible first | apply State.modLane_bst | apply State.retrainLane_bst | apply State.flagLane_bst | apply State.setL_bst | apply State.setK_bst | apply State.modLink_bst | exact BstO.none | apply BstO.some | apply BstO.ite | apply Bst.ite)
    | lift_lets -underBinder
    | split
    | (refine Bst.upd ?_)

theorem State.capsOut_bst {q : Bay} {s : State} {x_s : State} {x_l : Lane} (h_x_s : Bst q s x_s) : Bst q s (State.capsOut x_s x_l) := by
  unfold State.capsOut
  repeat' first
    | (with_reducible first | assumption | exact Bst.refl _)
    | (intro x_1; refine (fun hx : Bst q s x_1 => ?_) ?_; (clear_value x_1); rotate_left; (unfold x_1))
    | (intro x_1; clear_value x_1)
    | intro _
    | (with_reducible first | apply State.laneUp_bst | apply State.modLane_bst | apply Bst.ite)
    | lift_lets -underBinder
    | (refine Bst.upd ?_)

theorem State.fomUpdate_bst {q : Bay} {s : State} {x_s : State} {x_l : Lane} {x_eh : Nat} {x_ew : Nat} (h_x_s : Bst q s x_s) : Bst q s (State.fomUpdate x_s x_l x_eh x_ew) := by
  unfold State.fomUpdate
  repeat' first
    | (with_reducible first | assumption | exact Bst.refl _)
    | (intro x_1; refine (fun hx : Bst q s x_1 => ?_) ?_; (clear_value x_1); rotate_left; (unfold x_1))
    | (intro x_1; clear_value x_1)
    | intro _
    | (with_reducible first | apply State.setL_bst | apply State.flagLane_bst | apply State.modLane_bst | apply State.laneEvent_bst | exact BstO.none | apply BstO.some | apply BstO.ite | apply Bst.ite)
    | lift_lets -underBinder
    | split
    | (refine Bst.upd ?_)

theorem State.fomLow_bst {q : Bay} {s : State} {x_s : State} {x_l : Lane} (h_x_s : Bst q s x_s) : Bst q s (State.fomLow x_s x_l) := by
  unfold State.fomLow
  repeat' first
    | (with_reducible first | assumption | exact Bst.refl _ | apply State.retrainLane_bst | apply State.advance_bst | exact BstO.none | apply BstO.some | apply BstO.ite | apply Bst.ite)
    | split
    | (refine Bst.upd ?_)

theorem State.adaptResume_bst {q : Bay} {s : State} {x_s : State} {x_l : Lane} (h_x_s : Bst q s x_s) : Bst q s (State.adaptResume x_s x_l) := by
  unfold State.adaptResume
  repeat' first
    | (with_reducible first | assumption | exact Bst.refl _)
    | (intro x_1; refine (fun hx : Bst q s x_1 => ?_) ?_; (clear_value x_1); rotate_left; (unfold x_1))
    | (intro x_1; clear_value x_1)
    | intro _
    | (with_reducible first | apply State.setL_bst | apply State.modLane_bst | exact BstO.none | apply BstO.some | apply BstO.ite | apply Bst.ite)
    | lift_lets -underBinder
    | (refine Bst.upd ?_)

theorem State.headerWindow_bst {q : Bay} {s : State} {x_s : State} {x_l : Lane} {x_invalid : Nat} {x_bad : Nat} (h_x_s : Bst q s x_s) : Bst q s (State.headerWindow x_s x_l x_invalid x_bad) := by
  unfold State.headerWindow
  repeat' first
    | (with_reducible first | assumption | exact Bst.refl _)
    | (intro x_1; refine (fun hx : Bst q s x_1 => ?_) ?_; (clear_value x_1); rotate_left; (unfold x_1))
    | (intro x_1; clear_value x_1)
    | intro _
    | (with_reducible first | apply State.setL_bst | apply State.retrainLane_bst | apply Bst.ite)
    | lift_lets -underBinder

theorem State.stepTimeout_bst {q : Bay} {s : State} {x_s : State} {x_l : Lane} (h_x_s : Bst q s x_s) : Bst q s (State.stepTimeout x_s x_l) := by
  unfold State.stepTimeout
  repeat' first
    | (with_reducible first | assumption | exact Bst.refl _)
    | (intro x_1; refine (fun hx : Bst q s x_1 => ?_) ?_; (clear_value x_1); rotate_left; (unfold x_1))
    | (intro x_1; clear_value x_1)
    | intro _
    | (with_reducible first | apply State.failLane_bst | apply State.flagLane_bst | apply Bst.ite)
    | lift_lets -underBinder

theorem State.replay_bst {q : Bay} {s : State} {x_s : State} {x_k : Link} (h_x_s : Bst q s x_s) : Bst q s (State.replay x_s x_k) := by
  unfold State.replay
  repeat' first
    | (with_reducible first | assumption | exact Bst.refl _)
    | (show _ ≠ _; first | decide | omega | (simp only [keyB, keyC, keyCap, keySite, keyPc, keyA, keyG, keyBench, keyNode, keyEng, keyDma, keyLane, keyLink, keyStream, keyStack, keyPort, keyTpg, key, RBay.BAY_STATE, ne_eq, RLink.LINK_LANES, RLink.REPLAYS]; omega) | (simp only [keyB, keyC, keyCap, keySite, keyPc, keyA, keyG, keyBench, keyNode, keyEng, keyDma, keyLane, keyLink, keyStream, keyStack, keyPort, keyTpg, key, RBay.BAY_STATE, ne_eq, RLink.LINK_LANES, RLink.REPLAYS, List.mem_range, List.mem_cons, List.not_mem_nil, or_false] at *; omega) | (split <;> first | decide | (simp only [keyB, keyC, keyCap, keySite, keyPc, keyA, keyG, keyBench, keyNode, keyEng, keyDma, keyLane, keyLink, keyStream, keyStack, keyPort, keyTpg, key, RBay.BAY_STATE, ne_eq, RLink.LINK_LANES, RLink.REPLAYS]; omega)))
    | (intro x_1; refine (fun hx : Bst q s x_1 => ?_) ?_; (clear_value x_1); rotate_left; (unfold x_1))
    | (intro x_1; clear_value x_1)
    | intro _
    | (with_reducible first | apply State.modLink_bst | apply State.incO_bst | apply State.linkDown_bst | apply State.fault_bst | apply Bst.ite)
    | lift_lets -underBinder
    | (refine Bst.upd ?_)

theorem State.ackFrames_bst {q : Bay} {s : State} {x_s : State} {x_k : Link} {x_seq : Nat} (h_x_s : Bst q s x_s) : Bst q s (State.ackFrames x_s x_k x_seq) := by
  unfold State.ackFrames
  repeat' first
    | (with_reducible first | assumption | exact Bst.refl _)
    | (intro x_1; refine (fun hx : Bst q s x_1 => ?_) ?_; (clear_value x_1); rotate_left; (unfold x_1))
    | (intro x_1; clear_value x_1)
    | intro _
    | (with_reducible first | apply State.modLink_bst | exact BstO.none | apply BstO.some | apply BstO.ite)
    | lift_lets -underBinder
    | split
    | (refine Bst.upd ?_)

theorem State.countProtected_bst {q : Bay} {s : State} {x_s : State} {x_i : Stream} (h_x_s : Bst q s x_s) : Bst q s (State.countProtected x_s x_i) := by
  unfold State.countProtected
  repeat' first
    | (with_reducible first | assumption | exact Bst.refl _)
    | (intro x_1; refine (fun hx : Bst q s x_1 => ?_) ?_; (clear_value x_1); rotate_left; (unfold x_1))
    | (intro x_1; clear_value x_1)
    | intro _
    | (with_reducible first | apply State.modStream_bst | apply State.breakStream_bst | apply Bst.ite)
    | lift_lets -underBinder
    | (refine Bst.upd ?_)

theorem State.sendFrame_bst {q : Bay} {s : State} {x_s : State} {x_k : Link} {x_i : Stream} {x_len : Nat} {x_mark : Option (BitVec 32)} {x_eom : Bool} (h_x_s : Bst q s x_s) : Bst q s (State.sendFrame x_s x_k x_i x_len x_mark x_eom) := by
  unfold State.sendFrame
  repeat' first
    | (with_reducible first | assumption | exact Bst.refl _)
    | (intro x_1; refine (fun hx : Bst q s x_1 => ?_) ?_; (clear_value x_1); rotate_left; (unfold x_1))
    | (intro x_1; clear_value x_1)
    | intro _
    | (with_reducible first | apply State.modLink_bst | apply State.modStream_bst | apply State.setT_bst | apply State.countProtected_bst | exact BstO.none | apply BstO.some | apply BstO.ite | apply Bst.ite)
    | lift_lets -underBinder
    | split
    | (refine Bst.upd ?_)

theorem State.badFrame_bst {q : Bay} {s : State} {x_s : State} {x_k : Link} (h_x_s : Bst q s x_s) : Bst q s (State.badFrame x_s x_k) := by
  unfold State.badFrame
  repeat' first
    | (with_reducible first | assumption | exact Bst.refl _)
    | (show _ ≠ _; first | decide | omega | (simp only [keyB, keyC, keyCap, keySite, keyPc, keyA, keyG, keyBench, keyNode, keyEng, keyDma, keyLane, keyLink, keyStream, keyStack, keyPort, keyTpg, key, RBay.BAY_STATE, ne_eq, RLink.CRC_ERRORS, RLink.REPLAY_TIMEOUT]; omega) | (simp only [keyB, keyC, keyCap, keySite, keyPc, keyA, keyG, keyBench, keyNode, keyEng, keyDma, keyLane, keyLink, keyStream, keyStack, keyPort, keyTpg, key, RBay.BAY_STATE, ne_eq, RLink.CRC_ERRORS, RLink.REPLAY_TIMEOUT, List.mem_range, List.mem_cons, List.not_mem_nil, or_false] at *; omega) | (split <;> first | decide | (simp only [keyB, keyC, keyCap, keySite, keyPc, keyA, keyG, keyBench, keyNode, keyEng, keyDma, keyLane, keyLink, keyStream, keyStack, keyPort, keyTpg, key, RBay.BAY_STATE, ne_eq, RLink.CRC_ERRORS, RLink.REPLAY_TIMEOUT]; omega)))
    | (intro x_1; refine (fun hx : Bst q s x_1 => ?_) ?_; (clear_value x_1); rotate_left; (unfold x_1))
    | (intro x_1; clear_value x_1)
    | intro _
    | (with_reducible first | apply State.incO_bst | apply State.modLink_bst | exact BstO.none | apply BstO.some | apply BstO.ite | apply Bst.ite)
    | lift_lets -underBinder
    | split
    | (refine Bst.upd ?_)

theorem State.receiveFrame_bst {q : Bay} {s : State} {x_s : State} {x_k : Link} {x_f : Frame} {x_tagOk : Bool} (h_x_s : Bst q s x_s) : Bst q s (State.receiveFrame x_s x_k x_f x_tagOk) := by
  unfold State.receiveFrame
  repeat' first
    | (with_reducible first | assumption | exact Bst.refl _)
    | (intro x_1; refine (fun hx : Bst q s x_1 => ?_) ?_; (clear_value x_1); rotate_left; (unfold x_1))
    | (intro x_1; clear_value x_1)
    | intro _
    | (with_reducible first | apply State.badFrame_bst | apply State.modLink_bst | apply State.modStream_bst | apply State.setT_bst | apply State.deliver_bst | exact BstO.none | apply BstO.some | apply BstO.ite | apply Bst.ite)
    | lift_lets -underBinder
    | (refine Bst.upd ?_)

theorem State.grantCredit_bst {q : Bay} {s : State} {x_s : State} {x_i : Stream} (h_x_s : Bst q s x_s) : Bst q s (State.grantCredit x_s x_i) := by
  unfold State.grantCredit
  repeat' first
    | (with_reducible first | assumption | exact Bst.refl _ | apply State.setT_bst | apply Bst.ite)

theorem State.openStream_bst {q : Bay} {s : State} {x_s : State} {x_i : Stream} {x_k_ : BitVec 256} (h_x_s : Bst q s x_s) : Bst q s (State.openStream x_s x_i x_k_) := by
  unfold State.openStream
  repeat' first
    | (with_reducible first | assumption | exact Bst.refl _)
    | (show _ ≠ _; first | decide | omega | (simp only [keyB, keyC, keyCap, keySite, keyPc, keyA, keyG, keyBench, keyNode, keyEng, keyDma, keyLane, keyLink, keyStream, keyStack, keyPort, keyTpg, key, RBay.BAY_STATE, ne_eq, RBay.STAGE_READ, RBay.STAGE_WRITE, RLink.VERSION, RStream.BYTES, RStream.CREDIT, RStream.PROTECT, RStream.RING_CONSUMED, RStream.RING_WRITE, RStream.STREAM_LINK, RStream.STREAM_STATE]; omega) | (simp only [keyB, keyC, keyCap, keySite, keyPc, keyA, keyG, keyBench, keyNode, keyEng, keyDma, keyLane, keyLink, keyStream, keyStack, keyPort, keyTpg, key, RBay.BAY_STATE, ne_eq, RBay.STAGE_READ, RBay.STAGE_WRITE, RLink.VERSION, RStream.BYTES, RStream.CREDIT, RStream.PROTECT, RStream.RING_CONSUMED, RStream.RING_WRITE, RStream.STREAM_LINK, RStream.STREAM_STATE, List.mem_range, List.mem_cons, List.not_mem_nil, or_false] at *; omega) | (split <;> first | decide | (simp only [keyB, keyC, keyCap, keySite, keyPc, keyA, keyG, keyBench, keyNode, keyEng, keyDma, keyLane, keyLink, keyStream, keyStack, keyPort, keyTpg, key, RBay.BAY_STATE, ne_eq, RBay.STAGE_READ, RBay.STAGE_WRITE, RLink.VERSION, RStream.BYTES, RStream.CREDIT, RStream.PROTECT, RStream.RING_CONSUMED, RStream.RING_WRITE, RStream.STREAM_LINK, RStream.STREAM_STATE]; omega)))
    | (intro x_1; refine (fun hx : Bst q s x_1 => ?_) ?_; (clear_value x_1); rotate_left; (unfold x_1))
    | (intro x_1; clear_value x_1)
    | intro _
    | (with_reducible first | apply State.answer_bst | apply State.each_bst | apply State.setT_bst | apply State.setB_bst | apply State.modStream_bst | apply State.ok_bst | exact BstO.none | apply BstO.some | apply BstO.ite | apply Bst.ite)
    | lift_lets -underBinder
    | split
    | (refine Bst.upd ?_)

theorem State.resetStream_bst {q : Bay} {s : State} {x_s : State} {x_i : Stream} (h_x_s : Bst q s x_s) : Bst q s (State.resetStream x_s x_i) := by
  unfold State.resetStream
  repeat' first
    | (with_reducible first | assumption | exact Bst.refl _)
    | (intro x_1; refine (fun hx : Bst q s x_1 => ?_) ?_; (clear_value x_1); rotate_left; (unfold x_1))
    | (intro x_1; clear_value x_1)
    | intro _
    | (with_reducible first | apply State.breakStream_bst | apply State.ok_bst | apply State.setT_bst | apply State.modStream_bst)
    | lift_lets -underBinder

theorem State.consumeRing_bst {q : Bay} {s : State} {x_s : State} {x_i : Stream} {x_v : Nat} (h_x_s : Bst q s x_s) : Bst q s (State.consumeRing x_s x_i x_v) := by
  unfold State.consumeRing
  repeat' first
    | (with_reducible first | assumption | exact Bst.refl _)
    | (intro x_1; refine (fun hx : Bst q s x_1 => ?_) ?_; (clear_value x_1); rotate_left; (unfold x_1))
    | (intro x_1; clear_value x_1)
    | intro _
    | (with_reducible first | apply State.ok_bst | apply State.setT_bst | apply State.answer_bst | apply Bst.ite)
    | lift_lets -underBinder

theorem State.markerIn_bst {q : Bay} {s : State} {x_s : State} {x_k : Link} {x_skew : Nat} (h_x_s : Bst q s x_s) : Bst q s (State.markerIn x_s x_k x_skew) := by
  unfold State.markerIn
  repeat' first
    | (with_reducible first | assumption | exact Bst.refl _)
    | (intro x_1; refine (fun hx : Bst q s x_1 => ?_) ?_; (clear_value x_1); rotate_left; (unfold x_1))
    | (intro x_1; clear_value x_1)
    | intro _
    | (with_reducible first | apply State.reform_bst | apply State.each_bst | apply State.flagLane_bst | apply State.restripe_bst | apply State.modLink_bst | apply State.stripe_bst | apply Bst.ite)
    | lift_lets -underBinder
    | split
    | (refine Bst.upd ?_)

theorem State.formLink_bst {q : Bay} {s : State} {x_s : State} {x_k : Link} (h_x_s : Bst q s x_s) : Bst q s (State.formLink x_s x_k) := by
  unfold State.formLink
  repeat' first
    | (with_reducible first | assumption | exact Bst.refl _)
    | (intro x_1; refine (fun hx : Bst q s x_1 => ?_) ?_; (clear_value x_1); rotate_left; (unfold x_1))
    | (intro x_1; clear_value x_1)
    | intro _
    | (with_reducible first | apply State.advance_bst | apply State.stripe_bst | apply State.setK_bst | exact BstO.none | apply BstO.some | apply BstO.ite | apply Bst.ite)
    | lift_lets -underBinder
    | split
    | (refine Bst.upd ?_)

theorem State.linkUp_bst {q : Bay} {s : State} {x_s : State} {x_k : Link} (h_x_s : Bst q s x_s) : Bst q s (State.linkUp x_s x_k) := by
  unfold State.linkUp
  repeat' first
    | (with_reducible first | assumption | exact Bst.refl _)
    | (intro x_1; refine (fun hx : Bst q s x_1 => ?_) ?_; (clear_value x_1); rotate_left; (unfold x_1))
    | (intro x_1; clear_value x_1)
    | intro _
    | (with_reducible first | apply State.ok_bst | apply State.setK_bst | apply State.modLink_bst | exact BstO.none | apply BstO.some | apply BstO.ite | apply Bst.ite)
    | lift_lets -underBinder
    | (refine Bst.upd ?_)

theorem State.laneAdd_bst {q : Bay} {s : State} {x_s : State} {x_k : Link} {x_l : Lane} (h_x_s : Bst q s x_s) : Bst q s (State.laneAdd x_s x_k x_l) := by
  unfold State.laneAdd
  repeat' first
    | (with_reducible first | assumption | exact Bst.refl _)
    | intro _
    | (with_reducible first | apply State.modLink_bst | exact BstO.none | apply BstO.some | apply BstO.ite | apply Bst.ite)
    | (refine Bst.upd ?_)

theorem State.laneDrop_bst {q : Bay} {s : State} {x_s : State} {x_k : Link} {x_l : Lane} (h_x_s : Bst q s x_s) : Bst q s (State.laneDrop x_s x_k x_l) := by
  unfold State.laneDrop
  repeat' first
    | (with_reducible first | assumption | exact Bst.refl _)
    | (intro x_1; refine (fun hx : Bst q s x_1 => ?_) ?_; (clear_value x_1); rotate_left; (unfold x_1))
    | (intro x_1; clear_value x_1)
    | intro _
    | (with_reducible first | apply State.modLink_bst | apply State.stripe_bst | apply Bst.ite)
    | lift_lets -underBinder
    | (refine Bst.upd ?_)

theorem State.pkgStart_bst {q : Bay} {s : State} {x_s : State} {x_b : Bay} (h_x_s : Bst q s x_s) : Bst q s (State.pkgStart x_s x_b) := by
  unfold State.pkgStart
  repeat' first
    | (with_reducible first | assumption | exact Bst.refl _)
    | (intro x_1; refine (fun hx : Bst q s x_1 => ?_) ?_; (clear_value x_1); rotate_left; (unfold x_1))
    | (intro x_1; clear_value x_1)
    | intro _
    | (with_reducible first | apply State.answer_bst | apply State.pkgBegin_bst | apply State.setT_bst | apply Bst.ite)
    | lift_lets -underBinder
    | split
    | dsimp only
    | (refine Bst.upd ?_)

theorem execLaneEnable_bst {q : Bay} {s : State} {x_l : Lane} {x_on : Bool} {x_s : State} (h_x_s : Bst q s x_s) : BstN q s (execLaneEnable x_l x_on x_s) := by
  unfold execLaneEnable
  repeat' first
    | (with_reducible first | assumption | exact Bst.refl _)
    | intro _
    | (with_reducible first | apply State.hostLane_bst | apply State.ok_bst | apply State.enableLane_bst | apply BstN.next | apply BstN.ite)

theorem execReceiverDetect_bst {q : Bay} {s : State} {x_l : Lane} {x_found : Bool} {x_s : State} (h_x_s : Bst q s x_s) : BstN q s (execReceiverDetect x_l x_found x_s) := by
  unfold execReceiverDetect
  repeat' first
    | (with_reducible first | assumption | exact Bst.refl _ | apply State.setLane_bst | apply BstN.next | apply BstN.ite | apply Bst.ite)

theorem execTrainComplete_bst {q : Bay} {s : State} {x_l : Lane} {x_s : State} (h_x_s : Bst q s x_s) : BstN q s (execTrainComplete x_l x_s) := by
  unfold execTrainComplete
  repeat' first
    | (with_reducible first | assumption | exact Bst.refl _ | apply State.setLane_bst | apply BstN.next | apply BstN.ite | apply Bst.ite)

theorem execBitLock_bst {q : Bay} {s : State} {x_l : Lane} {x_s : State} (h_x_s : Bst q s x_s) : BstN q s (execBitLock x_l x_s) := by
  unfold execBitLock
  repeat' first
    | (with_reducible first | assumption | exact Bst.refl _ | apply State.setLane_bst | apply BstN.next | apply BstN.ite | apply Bst.ite)

theorem execBlockLock_bst {q : Bay} {s : State} {x_l : Lane} {x_s : State} (h_x_s : Bst q s x_s) : BstN q s (execBlockLock x_l x_s) := by
  unfold execBlockLock
  repeat' first
    | (with_reducible first | assumption | exact Bst.refl _ | apply State.setLane_bst | apply BstN.next | apply BstN.ite | apply Bst.ite)

theorem execCapsExchange_bst {q : Bay} {s : State} {x_l : Lane} {x_caps : BitVec 64} {x_s : State} (h_x_s : Bst q s x_s) : BstN q s (execCapsExchange x_l x_caps x_s) := by
  unfold execCapsExchange
  repeat' first
    | (with_reducible first | assumption | exact Bst.refl _ | apply State.capsIn_bst | apply BstN.next | apply BstN.ite)

theorem execCapsSend_bst {q : Bay} {s : State} {x_l : Lane} {x_s : State} (h_x_s : Bst q s x_s) : BstN q s (execCapsSend x_l x_s) := by
  unfold execCapsSend
  repeat' first
    | (with_reducible first | assumption | exact Bst.refl _ | apply State.capsOut_bst | apply BstN.next | apply BstN.ite)

theorem execLaneStepTimeout_bst {q : Bay} {s : State} {x_l : Lane} {x_s : State} (h_x_s : Bst q s x_s) : BstN q s (execLaneStepTimeout x_l x_s) := by
  unfold execLaneStepTimeout
  repeat' first
    | (with_reducible first | assumption | exact Bst.refl _ | apply State.stepTimeout_bst | apply BstN.next | apply BstN.ite)

theorem execAutoRetrain_bst {q : Bay} {s : State} {x_l : Lane} {x_s : State} (h_x_s : Bst q s x_s) : BstN q s (execAutoRetrain x_l x_s) := by
  unfold execAutoRetrain
  repeat' first
    | (with_reducible first | assumption | exact Bst.refl _ | apply State.setLane_bst | apply BstN.next | apply BstN.ite | apply Bst.ite)

theorem execHeaderWindow_bst {q : Bay} {s : State} {x_l : Lane} {x_invalid : BitVec 11} {x_badBlocks : BitVec 11} {x_s : State} (h_x_s : Bst q s x_s) : BstN q s (execHeaderWindow x_l x_invalid x_badBlocks x_s) := by
  unfold execHeaderWindow
  repeat' first
    | (with_reducible first | assumption | exact Bst.refl _ | apply State.headerWindow_bst | apply BstN.next | apply BstN.ite)

theorem execFomUpdate_bst {q : Bay} {s : State} {x_l : Lane} {x_eh : BitVec 8} {x_ew : BitVec 8} {x_s : State} (h_x_s : Bst q s x_s) : BstN q s (execFomUpdate x_l x_eh x_ew x_s) := by
  unfold execFomUpdate
  repeat' first
    | (with_reducible first | assumption | exact Bst.refl _ | apply State.fomUpdate_bst | apply BstN.next | apply BstN.ite)

theorem execAdaptFreeze_bst {q : Bay} {s : State} {x_l : Lane} {x_s : State} (h_x_s : Bst q s x_s) : BstN q s (execAdaptFreeze x_l x_s) := by
  unfold execAdaptFreeze
  repeat' first
    | (with_reducible first | assumption | exact Bst.refl _ | apply State.setL_bst | apply BstN.next | apply BstN.ite | apply Bst.ite)

theorem execAdaptResume_bst {q : Bay} {s : State} {x_l : Lane} {x_s : State} (h_x_s : Bst q s x_s) : BstN q s (execAdaptResume x_l x_s) := by
  unfold execAdaptResume
  repeat' first
    | (with_reducible first | assumption | exact Bst.refl _ | apply State.adaptResume_bst | apply BstN.next | apply BstN.ite)

theorem execFomLow_bst {q : Bay} {s : State} {x_l : Lane} {x_s : State} (h_x_s : Bst q s x_s) : BstN q s (execFomLow x_l x_s) := by
  unfold execFomLow
  repeat' first
    | (with_reducible first | assumption | exact Bst.refl _ | apply State.fomLow_bst | apply BstN.next | apply BstN.ite)

theorem execLaneRetrainRequest_bst {q : Bay} {s : State} {x_l : Lane} {x_s : State} (h_x_s : Bst q s x_s) : BstN q s (execLaneRetrainRequest x_l x_s) := by
  unfold execLaneRetrainRequest
  repeat' first
    | (with_reducible first | assumption | exact Bst.refl _)
    | intro _
    | (with_reducible first | apply State.hostLane_bst | apply State.answer_bst | apply State.ok_bst | apply State.retrainLane_bst | apply BstN.next | apply BstN.ite | apply Bst.ite)

theorem execLinkForm_bst {q : Bay} {s : State} {x_k : Link} {x_s : State} (h_x_s : Bst q s x_s) : BstN q s (execLinkForm x_k x_s) := by
  unfold execLinkForm
  repeat' first
    | (with_reducible first | assumption | exact Bst.refl _ | apply State.formLink_bst | apply BstN.next | apply BstN.ite)

theorem execLinkCtrlUp_bst {q : Bay} {s : State} {x_k : Link} {x_s : State} (h_x_s : Bst q s x_s) : BstN q s (execLinkCtrlUp x_k x_s) := by
  unfold execLinkCtrlUp
  repeat' first
    | (with_reducible first | assumption | exact Bst.refl _)
    | intro _
    | (with_reducible first | apply State.hostModule_bst | apply State.linkUp_bst | apply BstN.next | apply BstN.ite)

theorem execLinkCtrlDown_bst {q : Bay} {s : State} {x_k : Link} {x_s : State} (h_x_s : Bst q s x_s) : BstN q s (execLinkCtrlDown x_k x_s) := by
  unfold execLinkCtrlDown
  repeat' first
    | (with_reducible first | assumption | exact Bst.refl _)
    | intro _
    | (with_reducible first | apply State.hostModule_bst | apply State.ok_bst | apply State.linkDown_bst | apply BstN.next | apply BstN.ite)

theorem execMarker_bst {q : Bay} {s : State} {x_k : Link} {x_skew : Nat} {x_s : State} (h_x_s : Bst q s x_s) : BstN q s (execMarker x_k x_skew x_s) := by
  unfold execMarker
  repeat' first
    | (with_reducible first | assumption | exact Bst.refl _ | apply State.markerIn_bst | apply BstN.next | apply BstN.ite)

theorem execFrameSend_bst {q : Bay} {s : State} {x_k : Link} {x_st : Stream} {x_len : Nat} {x_mark : Option (BitVec 32)} {x_eom : Bool} {x_s : State} (h_x_s : Bst q s x_s) : BstN q s (execFrameSend x_k x_st x_len x_mark x_eom x_s) := by
  unfold execFrameSend
  repeat' first
    | (with_reducible first | assumption | exact Bst.refl _ | apply State.sendFrame_bst | apply BstN.next | apply BstN.ite)

theorem execFrameReceive_bst {q : Bay} {s : State} {x_k : Link} {x_f : Frame} {x_tagOk : Bool} {x_s : State} (h_x_s : Bst q s x_s) : BstN q s (execFrameReceive x_k x_f x_tagOk x_s) := by
  unfold execFrameReceive
  repeat' first
    | (with_reducible first | assumption | exact Bst.refl _ | apply State.receiveFrame_bst | apply BstN.next | apply BstN.ite)

theorem execAck_bst {q : Bay} {s : State} {x_k : Link} {x_seq : BitVec 12} {x_s : State} (h_x_s : Bst q s x_s) : BstN q s (execAck x_k x_seq x_s) := by
  unfold execAck
  repeat' first
    | (with_reducible first | assumption | exact Bst.refl _ | apply State.ackFrames_bst | apply BstN.next | apply BstN.ite)

theorem execNak_bst {q : Bay} {s : State} {x_k : Link} {x__seq : BitVec 12} {x_s : State} (h_x_s : Bst q s x_s) : BstN q s (execNak x_k x__seq x_s) := by
  unfold execNak
  repeat' first
    | (with_reducible first | assumption | exact Bst.refl _ | apply State.replay_bst | apply BstN.next | apply BstN.ite)

theorem execCredit_bst {q : Bay} {s : State} {x_k : Link} {x_st : Stream} {x_amount : BitVec 24} {x_s : State} (h_x_s : Bst q s x_s) : BstN q s (execCredit x_k x_st x_amount x_s) := by
  unfold execCredit
  repeat' first
    | (with_reducible first | assumption | exact Bst.refl _ | apply State.setT_bst | apply BstN.next | apply BstN.ite | apply Bst.ite)

theorem execLaneDrop_bst {q : Bay} {s : State} {x_k : Link} {x_l : Lane} {x_s : State} (h_x_s : Bst q s x_s) : BstN q s (execLaneDrop x_k x_l x_s) := by
  unfold execLaneDrop
  repeat' first
    | (with_reducible first | assumption | exact Bst.refl _ | apply State.laneDrop_bst | apply BstN.next | apply BstN.ite)

theorem execLaneAdd_bst {q : Bay} {s : State} {x_k : Link} {x_l : Lane} {x_s : State} (h_x_s : Bst q s x_s) : BstN q s (execLaneAdd x_k x_l x_s) := by
  unfold execLaneAdd
  repeat' first
    | (with_reducible first | assumption | exact Bst.refl _ | apply State.laneAdd_bst | apply BstN.next | apply BstN.ite)

theorem execRateNotice_bst {q : Bay} {s : State} {x_l : Lane} {x_s : State} (h_x_s : Bst q s x_s) : BstN q s (execRateNotice x_l x_s) := by
  unfold execRateNotice
  repeat' first
    | (with_reducible first | assumption | exact Bst.refl _)
    | intro _
    | (with_reducible first | apply State.modLane_bst | apply BstN.next | apply BstN.ite | apply Bst.ite)
    | (refine Bst.upd ?_)

theorem execReplayTimeout_bst {q : Bay} {s : State} {x_k : Link} {x_s : State} (h_x_s : Bst q s x_s) : BstN q s (execReplayTimeout x_k x_s) := by
  unfold execReplayTimeout
  repeat' first
    | (with_reducible first | assumption | exact Bst.refl _ | apply State.replay_bst | apply BstN.next | apply BstN.ite)

theorem execCreditGrant_bst {q : Bay} {s : State} {x_st : Stream} {x_s : State} (h_x_s : Bst q s x_s) : BstN q s (execCreditGrant x_st x_s) := by
  unfold execCreditGrant
  repeat' first
    | (with_reducible first | assumption | exact Bst.refl _ | apply State.grantCredit_bst | apply BstN.next | apply BstN.ite)

theorem execStreamOpen_bst {q : Bay} {s : State} {x_st : Stream} {x_key : BitVec 256} {x_s : State} (h_x_s : Bst q s x_s) : BstN q s (execStreamOpen x_st x_key x_s) := by
  unfold execStreamOpen
  repeat' first
    | (with_reducible first | assumption | exact Bst.refl _)
    | intro _
    | (with_reducible first | apply State.hostModule_bst | apply State.openStream_bst | apply BstN.next | apply BstN.ite)

theorem execStreamReset_bst {q : Bay} {s : State} {x_st : Stream} {x_s : State} (h_x_s : Bst q s x_s) : BstN q s (execStreamReset x_st x_s) := by
  unfold execStreamReset
  repeat' first
    | (with_reducible first | assumption | exact Bst.refl _)
    | intro _
    | (with_reducible first | apply State.hostModule_bst | apply State.resetStream_bst | apply BstN.next | apply BstN.ite)

theorem execRingConsumedWrite_bst {q : Bay} {s : State} {x_st : Stream} {x_value : BitVec 64} {x_s : State} (h_x_s : Bst q s x_s) : BstN q s (execRingConsumedWrite x_st x_value x_s) := by
  unfold execRingConsumedWrite
  repeat' first
    | (with_reducible first | assumption | exact Bst.refl _)
    | intro _
    | (with_reducible first | apply State.hostModule_bst | apply State.consumeRing_bst | apply BstN.next | apply BstN.ite)

theorem execPartnerTraining_bst {q : Bay} {s : State} {x_l : Lane} {x_s : State} (h_x_s : Bst q s x_s) : BstN q s (execPartnerTraining x_l x_s) := by
  unfold execPartnerTraining
  repeat' first
    | (with_reducible first | assumption | exact Bst.refl _ | apply State.retrainLane_bst | apply BstN.next | apply BstN.ite | apply Bst.ite)

theorem execPkgStart_bst {q : Bay} {s : State} {x_b : Bay} {x_epoch : BitVec 16} {x_s : State} (h_x_s : Bst q s x_s) : BstN q s (execPkgStart x_b x_epoch x_s) := by
  unfold execPkgStart
  repeat' first
    | (with_reducible first | assumption | exact Bst.refl _)
    | intro _
    | (with_reducible first | apply State.hostBay_bst | apply State.pkgStart_bst | apply BstN.next | apply BstN.ite)

end Sys2Proof.Machine
end

