-- ==== Sys2Proof/Laws/BstDma.lean ====
section
/-! SUPPORT. What the operations of Machine/Dma.lean keep. -/

set_option linter.all false

namespace Sys2Proof.Machine

theorem State.setD_bst {q : Bay} {s : State} {x_s : State} {x_e : Engine} {x_k : Fin 8} {x_sub : Nat} {x_v : Nat} (h_x_s : Bst q s x_s) : Bst q s (State.setD x_s x_e x_k x_sub x_v) := by
  unfold State.setD
  repeat' first
    | (with_reducible first | assumption | exact Bst.refl _)
    | (show _ ≠ _; first | decide | omega | (simp only [keyB, keyC, keyCap, keySite, keyPc, keyA, keyG, keyBench, keyNode, keyEng, keyDma, keyLane, keyLink, keyStream, keyStack, keyPort, keyTpg, key, RBay.BAY_STATE, ne_eq]; omega) | (simp only [keyB, keyC, keyCap, keySite, keyPc, keyA, keyG, keyBench, keyNode, keyEng, keyDma, keyLane, keyLink, keyStream, keyStack, keyPort, keyTpg, key, RBay.BAY_STATE, ne_eq, List.mem_range, List.mem_cons, List.not_mem_nil, or_false] at *; omega) | (split <;> first | decide | (simp only [keyB, keyC, keyCap, keySite, keyPc, keyA, keyG, keyBench, keyNode, keyEng, keyDma, keyLane, keyLink, keyStream, keyStack, keyPort, keyTpg, key, RBay.BAY_STATE, ne_eq]; omega)))
    | with_reducible apply State.setO_bst

theorem State.modDma_bst {q : Bay} {s : State} {x_s : State} {x_e : Engine} {x_k : Fin 8} {x_f : DmaU → DmaU} (h_x_s : Bst q s x_s) : Bst q s (State.modDma x_s x_e x_k x_f) := by
  unfold State.modDma
  repeat' first
    | (with_reducible first | assumption | exact Bst.refl _)
    | (refine Bst.upd ?_)

theorem State.pick_bst {q : Bay} {s : State} {x_s : State} {x_e : Engine} (h_x_s : Bst q s x_s) : Bst q s (State.pick x_s x_e) := by
  unfold State.pick
  repeat' first
    | (with_reducible first | assumption | exact Bst.refl _)
    | (show _ ≠ _; first | decide | omega | (simp only [keyB, keyC, keyCap, keySite, keyPc, keyA, keyG, keyBench, keyNode, keyEng, keyDma, keyLane, keyLink, keyStream, keyStack, keyPort, keyTpg, key, RBay.BAY_STATE, ne_eq, REng.ACTIVE_CHANNEL]; omega) | (simp only [keyB, keyC, keyCap, keySite, keyPc, keyA, keyG, keyBench, keyNode, keyEng, keyDma, keyLane, keyLink, keyStream, keyStack, keyPort, keyTpg, key, RBay.BAY_STATE, ne_eq, REng.ACTIVE_CHANNEL, List.mem_range, List.mem_cons, List.not_mem_nil, or_false] at *; omega) | (split <;> first | decide | (simp only [keyB, keyC, keyCap, keySite, keyPc, keyA, keyG, keyBench, keyNode, keyEng, keyDma, keyLane, keyLink, keyStream, keyStack, keyPort, keyTpg, key, RBay.BAY_STATE, ne_eq, REng.ACTIVE_CHANNEL]; omega)))
    | (intro x_1; refine (fun hx : Bst q s x_1 => ?_) ?_; (clear_value x_1); rotate_left; (unfold x_1))
    | (intro x_1; clear_value x_1)
    | intro _
    | (with_reducible first | apply State.setO_bst | exact BstO.none | apply BstO.some | apply BstO.ite | apply Bst.ite)
    | lift_lets -underBinder
    | split
    | (refine Bst.upd ?_)

theorem State.leaves_bst {q : Bay} {s : State} {x_s : State} {x_e : Engine} {x_k : Fin 8} {x_st : Nat} (h_x_s : Bst q s x_s) : Bst q s (State.leaves x_s x_e x_k x_st) := by
  unfold State.leaves
  repeat' first
    | (with_reducible first | assumption | exact Bst.refl _)
    | (show _ ≠ _; first | decide | omega | (simp only [keyB, keyC, keyCap, keySite, keyPc, keyA, keyG, keyBench, keyNode, keyEng, keyDma, keyLane, keyLink, keyStream, keyStack, keyPort, keyTpg, key, RBay.BAY_STATE, ne_eq, RDma.CHAN_STATE, REng.ACTIVE_CHANNEL]; omega) | (simp only [keyB, keyC, keyCap, keySite, keyPc, keyA, keyG, keyBench, keyNode, keyEng, keyDma, keyLane, keyLink, keyStream, keyStack, keyPort, keyTpg, key, RBay.BAY_STATE, ne_eq, RDma.CHAN_STATE, REng.ACTIVE_CHANNEL, List.mem_range, List.mem_cons, List.not_mem_nil, or_false] at *; omega) | (split <;> first | decide | (simp only [keyB, keyC, keyCap, keySite, keyPc, keyA, keyG, keyBench, keyNode, keyEng, keyDma, keyLane, keyLink, keyStream, keyStack, keyPort, keyTpg, key, RBay.BAY_STATE, ne_eq, RDma.CHAN_STATE, REng.ACTIVE_CHANNEL]; omega)))
    | (intro x_1; refine (fun hx : Bst q s x_1 => ?_) ?_; (clear_value x_1); rotate_left; (unfold x_1))
    | (intro x_1; clear_value x_1)
    | intro _
    | (with_reducible first | apply State.setD_bst | apply State.pick_bst | apply State.setO_bst | apply Bst.ite)
    | lift_lets -underBinder

theorem State.ready__bst {q : Bay} {s : State} {x_s : State} {x_e : Engine} {x_k : Fin 8} (h_x_s : Bst q s x_s) : Bst q s (State.ready_ x_s x_e x_k) := by
  unfold State.ready_
  repeat' first
    | (with_reducible first | assumption | exact Bst.refl _ | apply State.leaves_bst | apply State.pick_bst | apply State.setD_bst | apply Bst.ite)

theorem State.showPos_bst {q : Bay} {s : State} {x_s : State} {x_e : Engine} {x_k : Fin 8} {x_d : Nat} {x_n : Nat} (h_x_s : Bst q s x_s) : Bst q s (State.showPos x_s x_e x_k x_d x_n) := by
  unfold State.showPos
  repeat' first
    | (with_reducible first | assumption | exact Bst.refl _)
    | (intro x_1; refine (fun hx : Bst q s x_1 => ?_) ?_; (clear_value x_1); rotate_left; (unfold x_1))
    | (intro x_1; clear_value x_1)
    | intro _
    | (with_reducible first | apply State.setD_bst | apply Bst.ite)
    | lift_lets -underBinder

theorem State.halt_bst {q : Bay} {s : State} {x_s : State} {x_e : Engine} {x_k : Fin 8} {x_err : Nat} {x_addr : Nat} (h_x_s : Bst q s x_s) : Bst q s (State.halt x_s x_e x_k x_err x_addr) := by
  unfold State.halt
  repeat' first
    | (with_reducible first | assumption | exact Bst.refl _)
    | (show _ ≠ _; first | decide | omega | (simp only [keyB, keyC, keyCap, keySite, keyPc, keyA, keyG, keyBench, keyNode, keyEng, keyDma, keyLane, keyLink, keyStream, keyStack, keyPort, keyTpg, key, RBay.BAY_STATE, ne_eq, RDma.ERROR, RDma.ERROR_ADDR, REng.HALTS]; omega) | (simp only [keyB, keyC, keyCap, keySite, keyPc, keyA, keyG, keyBench, keyNode, keyEng, keyDma, keyLane, keyLink, keyStream, keyStack, keyPort, keyTpg, key, RBay.BAY_STATE, ne_eq, RDma.ERROR, RDma.ERROR_ADDR, REng.HALTS, List.mem_range, List.mem_cons, List.not_mem_nil, or_false] at *; omega) | (split <;> first | decide | (simp only [keyB, keyC, keyCap, keySite, keyPc, keyA, keyG, keyBench, keyNode, keyEng, keyDma, keyLane, keyLink, keyStream, keyStack, keyPort, keyTpg, key, RBay.BAY_STATE, ne_eq, RDma.ERROR, RDma.ERROR_ADDR, REng.HALTS]; omega)))
    | (intro x_1; refine (fun hx : Bst q s x_1 => ?_) ?_; (clear_value x_1); rotate_left; (unfold x_1))
    | (intro x_1; clear_value x_1)
    | intro _
    | (with_reducible first | apply State.incO_bst | apply State.setD_bst | apply State.event_bst | apply State.modDma_bst | apply State.leaves_bst | apply State.fault_bst)
    | lift_lets -underBinder
    | (refine Bst.upd ?_)

theorem State.sendData_bst {q : Bay} {s : State} {x_s : State} {x_p : Fin 2} {x_flush : Bool} {x_a3 : Nat} (h_x_s : Bst q s x_s) : Bst q s (State.sendData x_s x_p x_flush x_a3) := by
  induction x_a3 generalizing x_s x_p x_flush with
  | zero =>
    unfold State.sendData
    repeat' first
      | (with_reducible first | assumption | exact Bst.refl _)
      | (intro x_1; refine (fun hx : Bst q s x_1 => ?_) ?_; (clear_value x_1); rotate_left; (unfold x_1))
      | (intro x_1; clear_value x_1)
      | intro _
      | with_reducible apply Bst.ite
      | lift_lets -underBinder
      | split
      | (refine Bst.upd ?_)
      | (dsimp only)
  | succ k ih =>
    unfold State.sendData
    repeat' first
      | with_reducible apply ih
      | (with_reducible first | assumption | exact Bst.refl _)
      | (intro x_1; refine (fun hx : Bst q s x_1 => ?_) ?_; (clear_value x_1); rotate_left; (unfold x_1))
      | (intro x_1; clear_value x_1)
      | intro _
      | with_reducible apply Bst.ite
      | lift_lets -underBinder
      | split
      | (refine Bst.upd ?_)
      | (dsimp only)

theorem State.portPut_bst {q : Bay} {s : State} {x_s : State} {x_q : Nat × Nat} {x_data : Bytes} (h_x_s : Bst q s x_s) : Bst q s (State.portPut x_s x_q x_data) := by
  unfold State.portPut
  repeat' first
    | (with_reducible first | assumption | exact Bst.refl _)
    | (intro x_1; refine (fun hx : Bst q s x_1 => ?_) ?_; (clear_value x_1); rotate_left; (unfold x_1))
    | (intro x_1; clear_value x_1)
    | intro _
    | (with_reducible first | apply State.modStream_bst | apply State.sendData_bst)
    | lift_lets -underBinder
    | split
    | (refine Bst.upd ?_)

theorem State.portDrop_bst {q : Bay} {s : State} {x_s : State} {x_q : Nat × Nat} {x_n : Nat} (h_x_s : Bst q s x_s) : Bst q s (State.portDrop x_s x_q x_n) := by
  unfold State.portDrop
  repeat' first
    | (with_reducible first | assumption | exact Bst.refl _)
    | intro _
    | with_reducible apply State.modStream_bst
    | split
    | (refine Bst.upd ?_)

theorem State.moveBytes_bst {q : Bay} {s : State} {x_s : State} {x_e : Engine} {x_k : Fin 8} {x_d : Nat} {x_n : Nat} {x_a5 : Bytes} (h_x_s : Bst q s x_s) : Bst q s (State.moveBytes x_s x_e x_k x_d x_n x_a5).1 := by
  induction x_a5 generalizing x_s x_e x_k x_d x_n with
  | nil =>
    unfold State.moveBytes
    repeat' first
      | (with_reducible first | assumption | exact Bst.refl _)
      | (intro x_1; refine (fun hx : Bst q s x_1 => ?_) ?_; (clear_value x_1); rotate_left; (unfold x_1))
      | (intro x_1; clear_value x_1)
      | intro _
      | (with_reducible first | apply State.putMem_bst | exact BstO.none | apply BstO.some | apply BstO.ite | apply Bst.ite | apply Bst.ite1)
      | lift_lets -underBinder
      | split
      | dsimp only
      | (dsimp only)
  | cons hd tl ih =>
    unfold State.moveBytes
    repeat' first
      | with_reducible apply ih
      | (with_reducible first | assumption | exact Bst.refl _)
      | (intro x_1; refine (fun hx : Bst q s x_1 => ?_) ?_; (clear_value x_1); rotate_left; (unfold x_1))
      | (intro x_1; clear_value x_1)
      | intro _
      | (with_reducible first | apply State.putMem_bst | exact BstO.none | apply BstO.some | apply BstO.ite | apply Bst.ite | apply Bst.ite1)
      | lift_lets -underBinder
      | split
      | dsimp only
      | (dsimp only)

theorem State.moved_bst {q : Bay} {s : State} {x_s : State} {x_e : Engine} {x_k : Fin 8} {x_d : Nat} {x_from_ : Nat} {x_to_ : Nat} (h_x_s : Bst q s x_s) : Bst q s (State.moved x_s x_e x_k x_d x_from_ x_to_) := by
  unfold State.moved
  repeat' first
    | (with_reducible first | assumption | exact Bst.refl _)
    | (show _ ≠ _; first | decide | omega | (simp only [keyB, keyC, keyCap, keySite, keyPc, keyA, keyG, keyBench, keyNode, keyEng, keyDma, keyLane, keyLink, keyStream, keyStack, keyPort, keyTpg, key, RBay.BAY_STATE, ne_eq, RDma.BYTES_DONE, REng.BYTES_MOVED]; omega) | (simp only [keyB, keyC, keyCap, keySite, keyPc, keyA, keyG, keyBench, keyNode, keyEng, keyDma, keyLane, keyLink, keyStream, keyStack, keyPort, keyTpg, key, RBay.BAY_STATE, ne_eq, RDma.BYTES_DONE, REng.BYTES_MOVED, List.mem_range, List.mem_cons, List.not_mem_nil, or_false] at *; omega) | (split <;> first | decide | (simp only [keyB, keyC, keyCap, keySite, keyPc, keyA, keyG, keyBench, keyNode, keyEng, keyDma, keyLane, keyLink, keyStream, keyStack, keyPort, keyTpg, key, RBay.BAY_STATE, ne_eq, RDma.BYTES_DONE, REng.BYTES_MOVED]; omega)))
    | (intro x_1; refine (fun hx : Bst q s x_1 => ?_) ?_; (clear_value x_1); rotate_left; (unfold x_1))
    | (intro x_1; clear_value x_1)
    | intro _
    | (with_reducible first | apply State.setD_bst | apply State.setO_bst | apply State.showPos_bst | apply State.modDma_bst)
    | lift_lets -underBinder
    | (refine Bst.upd ?_)

theorem State.portHeld_bst {q : Bay} {s : State} {x_s : State} {x_e : Engine} {x_k : Fin 8} (h_x_s : Bst q s x_s) : Bst q s (State.portHeld x_s x_e x_k) := by
  unfold State.portHeld
  repeat' first
    | (with_reducible first | assumption | exact Bst.refl _)
    | intro _
    | (with_reducible first | apply State.modDma_bst | exact BstO.none | apply BstO.some | apply BstO.ite)
    | split
    | (refine Bst.upd ?_)

theorem State.moveOut_bst {q : Bay} {s : State} {x_s : State} {x_e : Engine} {x_k : Fin 8} {x_d : Nat} {x_n : Nat} {x_data : Bytes} {x_q : Nat × Nat} (h_x_s : Bst q s x_s) : Bst q s (State.moveOut x_s x_e x_k x_d x_n x_data x_q) := by
  unfold State.moveOut
  repeat' first
    | (with_reducible first | assumption | exact Bst.refl _)
    | (intro x_1; refine (fun hx : Bst q s x_1 => ?_) ?_; (clear_value x_1); rotate_left; (unfold x_1))
    | (intro x_1; refine (fun hx : Bst q s x_1.1 => ?_) ?_; (clear_value x_1); rotate_left; (unfold x_1))
    | (intro x_1; clear_value x_1)
    | intro _
    | (with_reducible first | apply State.moveBytes_bst | refine State.moveBytes_bst_eq ?_ (by assumption) | apply State.moved_bst | apply State.portDrop_bst | apply State.halt_bst | apply State.portPut_bst | apply State.portHeld_bst | exact BstO.none | apply BstO.some | apply BstO.ite | apply Bst.ite | apply Bst.ite1)
    | lift_lets -underBinder
    | split
    | dsimp only
    | (refine Bst.upd ?_)

theorem State.moveBlock_bst {q : Bay} {s : State} {x_s : State} {x_e : Engine} {x_k : Fin 8} {x_d : Nat} {x_n : Nat} {x_ecc : Ecc} (h_x_s : Bst q s x_s) : Bst q s (State.moveBlock x_s x_e x_k x_d x_n x_ecc) := by
  unfold State.moveBlock
  repeat' first
    | (with_reducible first | assumption | exact Bst.refl _)
    | (intro x_1; refine (fun hx : Bst q s x_1 => ?_) ?_; (clear_value x_1); rotate_left; (unfold x_1))
    | (intro x_1; clear_value x_1)
    | intro _
    | (with_reducible first | apply State.halt_bst | apply State.checkBlock_bst | apply State.moveOut_bst | apply Bst.ite)
    | lift_lets -underBinder

theorem State.accessResponse_bst {q : Bay} {s : State} {x_s : State} {x_e : Engine} {x_k : Fin 8} {x_r : AccessAnswer} (h_x_s : Bst q s x_s) : Bst q s (State.accessResponse x_s x_e x_k x_r) := by
  unfold State.accessResponse
  repeat' first
    | (with_reducible first | assumption | exact Bst.refl _)
    | (intro x_1; refine (fun hx : Bst q s x_1 => ?_) ?_; (clear_value x_1); rotate_left; (unfold x_1))
    | (intro x_1; clear_value x_1)
    | intro _
    | (with_reducible first | apply State.portHeld_bst | apply State.halt_bst | apply State.moveBlock_bst | apply State.moveOut_bst | exact BstO.none | apply BstO.some | apply BstO.ite | apply Bst.ite)
    | lift_lets -underBinder
    | split
    | (refine Bst.upd ?_)

theorem State.postWord_bst {q : Bay} {s : State} {x_s : State} {x_e : Engine} {x_k : Fin 8} {x_user : Nat} {x_status : Nat} (h_x_s : Bst q s x_s) : Bst q s (State.postWord x_s x_e x_k x_user x_status).1 := by
  unfold State.postWord
  repeat' first
    | (with_reducible first | assumption | exact Bst.refl _)
    | intro _
    | (with_reducible first | apply State.event_bst | apply State.each_bst | apply Bst.ite1)
    | split
    | dsimp only
    | (refine Bst.upd ?_)

theorem State.follow_bst {q : Bay} {s : State} {x_s : State} {x_e : Engine} {x_k : Fin 8} (h_x_s : Bst q s x_s) : Bst q s (State.follow x_s x_e x_k) := by
  unfold State.follow
  repeat' first
    | (with_reducible first | assumption | exact Bst.refl _)
    | (intro x_1; refine (fun hx : Bst q s x_1 => ?_) ?_; (clear_value x_1); rotate_left; (unfold x_1))
    | (intro x_1; clear_value x_1)
    | intro _
    | (with_reducible first | apply State.modDma_bst | apply State.ready__bst | apply State.leaves_bst | apply State.event_bst | apply State.setD_bst | apply State.halt_bst | exact BstO.none | apply BstO.some | apply BstO.ite | apply Bst.ite)
    | lift_lets -underBinder
    | split
    | (refine Bst.upd ?_)

theorem State.descEnds_bst {q : Bay} {s : State} {x_s : State} {x_e : Engine} {x_k : Fin 8} {x_d : Nat} {x_status : Nat} (h_x_s : Bst q s x_s) : Bst q s (State.descEnds x_s x_e x_k x_d x_status) := by
  unfold State.descEnds
  repeat' first
    | (with_reducible first | assumption | exact Bst.refl _)
    | (show _ ≠ _; first | decide | omega | (simp only [keyB, keyC, keyCap, keySite, keyPc, keyA, keyG, keyBench, keyNode, keyEng, keyDma, keyLane, keyLink, keyStream, keyStack, keyPort, keyTpg, key, RBay.BAY_STATE, ne_eq, RDma.DESC_DONE, REng.ACTIVE_CHANNEL]; omega) | (simp only [keyB, keyC, keyCap, keySite, keyPc, keyA, keyG, keyBench, keyNode, keyEng, keyDma, keyLane, keyLink, keyStream, keyStack, keyPort, keyTpg, key, RBay.BAY_STATE, ne_eq, RDma.DESC_DONE, REng.ACTIVE_CHANNEL, List.mem_range, List.mem_cons, List.not_mem_nil, or_false] at *; omega) | (split <;> first | decide | (simp only [keyB, keyC, keyCap, keySite, keyPc, keyA, keyG, keyBench, keyNode, keyEng, keyDma, keyLane, keyLink, keyStream, keyStack, keyPort, keyTpg, key, RBay.BAY_STATE, ne_eq, RDma.DESC_DONE, REng.ACTIVE_CHANNEL]; omega)))
    | (intro x_1; refine (fun hx : Bst q s x_1 => ?_) ?_; (clear_value x_1); rotate_left; (unfold x_1))
    | (intro x_1; refine (fun hx : Bst q s x_1.1 => ?_) ?_; (clear_value x_1); rotate_left; (unfold x_1))
    | (intro x_1; clear_value x_1)
    | intro _
    | (with_reducible first | apply State.setD_bst | apply State.modDma_bst | apply State.sendData_bst | apply State.postWord_bst | apply State.setO_bst | apply State.leaves_bst | apply State.pick_bst | apply State.follow_bst | apply Bst.ite | apply Bst.ite1)
    | lift_lets -underBinder
    | dsimp only
    | (refine Bst.upd ?_)

theorem State.descComplete_bst {q : Bay} {s : State} {x_s : State} {x_e : Engine} {x_k : Fin 8} (h_x_s : Bst q s x_s) : Bst q s (State.descComplete x_s x_e x_k) := by
  unfold State.descComplete
  repeat' first
    | (with_reducible first | assumption | exact Bst.refl _)
    | (intro x_1; refine (fun hx : Bst q s x_1 => ?_) ?_; (clear_value x_1); rotate_left; (unfold x_1))
    | (intro x_1; clear_value x_1)
    | intro _
    | (with_reducible first | apply State.descEnds_bst | exact BstO.none | apply BstO.some | apply BstO.ite | apply Bst.ite)
    | lift_lets -underBinder
    | split
    | (refine Bst.upd ?_)

theorem State.releaseHeld_bst {q : Bay} {s : State} {x_s : State} (h_x_s : Bst q s x_s) : Bst q s (State.releaseHeld x_s) := by
  unfold State.releaseHeld
  repeat' first
    | (with_reducible first | assumption | exact Bst.refl _)
    | intro _
    | (with_reducible first | apply State.each_bst | apply State.follow_bst | apply Bst.ite)

theorem State.descFetch_bst {q : Bay} {s : State} {x_s : State} {x_e : Engine} {x_k : Fin 8} {x_ecc : Ecc} (h_x_s : Bst q s x_s) : Bst q s (State.descFetch x_s x_e x_k x_ecc) := by
  unfold State.descFetch
  repeat' first
    | (with_reducible first | assumption | exact Bst.refl _)
    | (intro x_1; refine (fun hx : Bst q s x_1 => ?_) ?_; (clear_value x_1); rotate_left; (unfold x_1))
    | (intro x_1; clear_value x_1)
    | intro _
    | (with_reducible first | apply State.checkBlock_bst | apply State.halt_bst | apply State.modDma_bst | apply State.showPos_bst | apply State.setD_bst | exact BstO.none | apply BstO.some | apply BstO.ite | apply Bst.ite)
    | lift_lets -underBinder
    | (refine Bst.upd ?_)

theorem State.chanStart_bst {q : Bay} {s : State} {x_s : State} {x_e : Engine} {x_k : Fin 8} (h_x_s : Bst q s x_s) : Bst q s (State.chanStart x_s x_e x_k) := by
  unfold State.chanStart
  repeat' first
    | (with_reducible first | assumption | exact Bst.refl _)
    | (intro x_1; refine (fun hx : Bst q s x_1 => ?_) ?_; (clear_value x_1); rotate_left; (unfold x_1))
    | (intro x_1; clear_value x_1)
    | intro _
    | (with_reducible first | apply State.answer_bst | apply State.each_bst | apply State.setD_bst | apply State.modDma_bst | apply State.ok_bst | apply State.ready__bst | apply Bst.ite)
    | lift_lets -underBinder

theorem State.chanRetry_bst {q : Bay} {s : State} {x_s : State} {x_e : Engine} {x_k : Fin 8} (h_x_s : Bst q s x_s) : Bst q s (State.chanRetry x_s x_e x_k) := by
  unfold State.chanRetry
  repeat' first
    | (with_reducible first | assumption | exact Bst.refl _)
    | (intro x_1; refine (fun hx : Bst q s x_1 => ?_) ?_; (clear_value x_1); rotate_left; (unfold x_1))
    | (intro x_1; clear_value x_1)
    | intro _
    | (with_reducible first | apply State.answer_bst | apply State.ok_bst | apply State.halt_bst | apply State.modDma_bst | apply State.setD_bst | apply State.ready__bst | apply Bst.ite)
    | lift_lets -underBinder
    | (refine Bst.upd ?_)

theorem State.chanSkip_bst {q : Bay} {s : State} {x_s : State} {x_e : Engine} {x_k : Fin 8} (h_x_s : Bst q s x_s) : Bst q s (State.chanSkip x_s x_e x_k) := by
  unfold State.chanSkip
  repeat' first
    | (with_reducible first | assumption | exact Bst.refl _)
    | intro _
    | (with_reducible first | apply State.answer_bst | apply State.ok_bst | apply State.descEnds_bst | apply State.follow_bst | apply State.modDma_bst | exact BstO.none | apply BstO.some | apply BstO.ite | apply Bst.ite)
    | split
    | (refine Bst.upd ?_)

theorem State.chanAbort_bst {q : Bay} {s : State} {x_s : State} {x_e : Engine} {x_k : Fin 8} (h_x_s : Bst q s x_s) : Bst q s (State.chanAbort x_s x_e x_k) := by
  unfold State.chanAbort
  repeat' first
    | (with_reducible first | assumption | exact Bst.refl _)
    | intro _
    | (with_reducible first | apply State.ok_bst | apply State.leaves_bst | apply State.modDma_bst)
    | (refine Bst.upd ?_)

theorem State.pauseWrite_bst {q : Bay} {s : State} {x_s : State} {x_e : Engine} {x_k : Fin 8} {x_on : Bool} (h_x_s : Bst q s x_s) : Bst q s (State.pauseWrite x_s x_e x_k x_on) := by
  unfold State.pauseWrite
  repeat' first
    | (with_reducible first | assumption | exact Bst.refl _)
    | (intro x_1; refine (fun hx : Bst q s x_1 => ?_) ?_; (clear_value x_1); rotate_left; (unfold x_1))
    | (intro x_1; clear_value x_1)
    | intro _
    | (with_reducible first | apply State.setD_bst | apply State.ok_bst | apply State.leaves_bst | apply State.ready__bst | apply Bst.ite)
    | lift_lets -underBinder

theorem State.progRun_bst {q : Bay} {s : State} {x_s : State} {x_e : Engine} {x_k2 : Fin 2} {x_op : Nat} {x_ecc : Ecc} (x_f : Nat → State → State) (h_x_s : Bst q s x_s) (h_x_f : ∀ (v0 : Nat) (v1 : State), Bst q s v1 → Bst q s (x_f v0 v1)) : Bst q s (State.progRun x_s x_e x_k2 x_op x_ecc x_f) := by
  unfold State.progRun
  repeat' first
    | (with_reducible first | assumption | exact Bst.refl _)
    | (intro x_1; refine (fun hx : Bst q s x_1 => ?_) ?_; (clear_value x_1); rotate_left; (unfold x_1))
    | (intro x_1; clear_value x_1)
    | intro _
    | (with_reducible first | apply h_x_f | apply State.setD_bst | apply State.halt_bst | apply State.checkBlock_bst | apply Bst.ite)
    | lift_lets -underBinder
    | split
    | dsimp only

theorem State.progTo_bst {q : Bay} {s : State} {x_s : State} {x_e : Engine} {x_k : Fin 2} {x_pc : Nat} (h_x_s : Bst q s x_s) : Bst q s (State.progTo x_s x_e x_k x_pc) := by
  unfold State.progTo
  repeat' first
    | (with_reducible first | assumption | exact Bst.refl _)
    | intro _
    | with_reducible apply State.modDma_bst
    | (refine Bst.upd ?_)

theorem State.progNext_bst {q : Bay} {s : State} {x_s : State} {x_e : Engine} {x_k : Fin 2} (h_x_s : Bst q s x_s) : Bst q s (State.progNext x_s x_e x_k) := by
  unfold State.progNext
  repeat' first
    | (with_reducible first | assumption | exact Bst.refl _ | apply State.progTo_bst)

theorem State.progWait_bst {q : Bay} {s : State} {x_s : State} {x_e : Engine} {x_k : Fin 2} {x_w : DmaWait} (h_x_s : Bst q s x_s) : Bst q s (State.progWait x_s x_e x_k x_w) := by
  unfold State.progWait
  repeat' first
    | (with_reducible first | assumption | exact Bst.refl _)
    | (intro x_1; refine (fun hx : Bst q s x_1 => ?_) ?_; (clear_value x_1); rotate_left; (unfold x_1))
    | (intro x_1; clear_value x_1)
    | intro _
    | (with_reducible first | apply State.leaves_bst | apply State.modDma_bst | exact BstO.none | apply BstO.some | apply BstO.ite)
    | lift_lets -underBinder
    | (refine Bst.upd ?_)

theorem State.progAwake_bst {q : Bay} {s : State} {x_s : State} {x_e : Engine} {x_k : Fin 2} (h_x_s : Bst q s x_s) : Bst q s (State.progAwake x_s x_e x_k) := by
  unfold State.progAwake
  repeat' first
    | (with_reducible first | assumption | exact Bst.refl _)
    | intro _
    | (with_reducible first | apply State.ready__bst | apply State.progNext_bst | apply State.modDma_bst)
    | (refine Bst.upd ?_)

theorem State.progCheck_bst {q : Bay} {s : State} {x_s : State} {x_e : Engine} {x_k : Fin 2} {x_pollOnly : Bool} {x_ecc : Ecc} (h_x_s : Bst q s x_s) : Bst q s (State.progCheck x_s x_e x_k x_pollOnly x_ecc) := by
  unfold State.progCheck
  repeat' first
    | (with_reducible first | assumption | exact Bst.refl _)
    | (intro x_1; refine (fun hx : Bst q s x_1 => ?_) ?_; (clear_value x_1); rotate_left; (unfold x_1))
    | (intro x_1; clear_value x_1)
    | intro _
    | (with_reducible first | apply State.progAwake_bst | apply State.checkBlock_bst | apply State.halt_bst | apply Bst.ite | apply Bst.ite1 | apply Bst.ite2)
    | lift_lets -underBinder
    | split
    | dsimp only
    | (refine Bst.upd ?_)

theorem State.progStore_bst {q : Bay} {s : State} {x_s : State} {x_e : Engine} {x_k : Fin 2} {x_a : Nat} {x_v : Nat} (h_x_s : Bst q s x_s) : Bst q s (State.progStore x_s x_e x_k x_a x_v) := by
  unfold State.progStore
  repeat' first
    | (with_reducible first | assumption | exact Bst.refl _)
    | (intro x_1; refine (fun hx : Bst q s x_1 => ?_) ?_; (clear_value x_1); rotate_left; (unfold x_1))
    | (intro x_1; clear_value x_1)
    | intro _
    | (with_reducible first | apply State.halt_bst | apply State.progNext_bst | apply State.putMem_bst | apply Bst.ite)
    | lift_lets -underBinder

theorem State.progSignal_bst {q : Bay} {s : State} {x_s : State} {x_e : Engine} {x_k : Fin 2} {x_v : Nat} (h_x_s : Bst q s x_s) : Bst q s (State.progSignal x_s x_e x_k x_v) := by
  unfold State.progSignal
  repeat' first
    | (with_reducible first | assumption | exact Bst.refl _)
    | (intro x_1; refine (fun hx : Bst q s x_1 => ?_) ?_; (clear_value x_1); rotate_left; (unfold x_1))
    | (intro x_1; refine (fun hx : Bst q s x_1.1 => ?_) ?_; (clear_value x_1); rotate_left; (unfold x_1))
    | (intro x_1; clear_value x_1)
    | intro _
    | (with_reducible first | apply State.postWord_bst | apply State.leaves_bst | apply State.progNext_bst | apply Bst.ite | apply Bst.ite1)
    | lift_lets -underBinder
    | dsimp only

theorem execBindingPost_bst {q : Bay} {s : State} {x_g : Graph} {x_i : Fin 64} {x_s : State} (h_x_s : Bst q s x_s) : BstN q s (execBindingPost x_g x_i x_s) := by
  unfold execBindingPost
  repeat' first
    | (with_reducible first | assumption | exact Bst.refl _ | apply State.releaseHeld_bst | apply State.bindPost_bst | apply BstN.next | apply BstN.ite)

theorem execChanStart_bst {q : Bay} {s : State} {x_e : Engine} {x_k : Fin 8} {x_s : State} (h_x_s : Bst q s x_s) : BstN q s (execChanStart x_e x_k x_s) := by
  unfold execChanStart
  repeat' first
    | (with_reducible first | assumption | exact Bst.refl _)
    | intro _
    | (with_reducible first | apply State.hostModule_bst | apply State.chanStart_bst | apply BstN.next | apply BstN.ite)

theorem execChanRetry_bst {q : Bay} {s : State} {x_e : Engine} {x_k : Fin 8} {x_s : State} (h_x_s : Bst q s x_s) : BstN q s (execChanRetry x_e x_k x_s) := by
  unfold execChanRetry
  repeat' first
    | (with_reducible first | assumption | exact Bst.refl _)
    | intro _
    | (with_reducible first | apply State.hostModule_bst | apply State.chanRetry_bst | apply BstN.next | apply BstN.ite)

theorem execChanSkip_bst {q : Bay} {s : State} {x_e : Engine} {x_k : Fin 8} {x_s : State} (h_x_s : Bst q s x_s) : BstN q s (execChanSkip x_e x_k x_s) := by
  unfold execChanSkip
  repeat' first
    | (with_reducible first | assumption | exact Bst.refl _)
    | intro _
    | (with_reducible first | apply State.hostModule_bst | apply State.chanSkip_bst | apply BstN.next | apply BstN.ite)

theorem execChanAbort_bst {q : Bay} {s : State} {x_e : Engine} {x_k : Fin 8} {x_s : State} (h_x_s : Bst q s x_s) : BstN q s (execChanAbort x_e x_k x_s) := by
  unfold execChanAbort
  repeat' first
    | (with_reducible first | assumption | exact Bst.refl _)
    | intro _
    | (with_reducible first | apply State.hostModule_bst | apply State.chanAbort_bst | apply BstN.next | apply BstN.ite)

theorem execDmaPauseWrite_bst {q : Bay} {s : State} {x_e : Engine} {x_k : Fin 8} {x_on : Bool} {x_s : State} (h_x_s : Bst q s x_s) : BstN q s (execDmaPauseWrite x_e x_k x_on x_s) := by
  unfold execDmaPauseWrite
  repeat' first
    | (with_reducible first | assumption | exact Bst.refl _)
    | intro _
    | (with_reducible first | apply State.hostModule_bst | apply State.pauseWrite_bst | apply BstN.next | apply BstN.ite)

theorem execDmaPaused_bst {q : Bay} {s : State} {x_e : Engine} {x_k : Fin 8} {x_s : State} (h_x_s : Bst q s x_s) : BstN q s (execDmaPaused x_e x_k x_s) := by
  unfold execDmaPaused
  repeat' first
    | (with_reducible first | assumption | exact Bst.refl _ | apply State.leaves_bst | apply BstN.next | apply BstN.ite | apply Bst.ite)

theorem execDescFetch_bst {q : Bay} {s : State} {x_e : Engine} {x_k : Fin 8} {x_ecc : Ecc} {x_s : State} (h_x_s : Bst q s x_s) : BstN q s (execDescFetch x_e x_k x_ecc x_s) := by
  unfold execDescFetch
  repeat' first
    | (with_reducible first | assumption | exact Bst.refl _ | apply State.descFetch_bst | apply BstN.next | apply BstN.ite)

theorem execDmaAccessResponse_bst {q : Bay} {s : State} {x_e : Engine} {x_k : Fin 8} {x_answer : AccessAnswer} {x_s : State} (h_x_s : Bst q s x_s) : BstN q s (execDmaAccessResponse x_e x_k x_answer x_s) := by
  unfold execDmaAccessResponse
  repeat' first
    | (with_reducible first | assumption | exact Bst.refl _ | apply State.accessResponse_bst | apply BstN.next | apply BstN.ite)

theorem execDescComplete_bst {q : Bay} {s : State} {x_e : Engine} {x_k : Fin 8} {x_s : State} (h_x_s : Bst q s x_s) : BstN q s (execDescComplete x_e x_k x_s) := by
  unfold execDescComplete
  repeat' first
    | (with_reducible first | assumption | exact Bst.refl _ | apply State.descComplete_bst | apply BstN.next | apply BstN.ite)

theorem execProgMove_bst {q : Bay} {s : State} {x_e : Engine} {x_k : Fin 2} {x_ecc : Ecc} {x_s : State} (h_x_s : Bst q s x_s) : BstN q s (execProgMove x_e x_k x_ecc x_s) := by
  unfold execProgMove
  repeat' first
    | (with_reducible first | assumption | exact Bst.refl _)
    | intro _
    | (with_reducible first | apply State.progRun_bst | apply State.modDma_bst | apply State.setD_bst | apply BstN.next | apply BstN.ite)
    | (refine Bst.upd ?_)

theorem execProgSet_bst {q : Bay} {s : State} {x_e : Engine} {x_k : Fin 2} {x_ecc : Ecc} {x_s : State} (h_x_s : Bst q s x_s) : BstN q s (execProgSet x_e x_k x_ecc x_s) := by
  unfold execProgSet
  repeat' first
    | (with_reducible first | assumption | exact Bst.refl _)
    | intro _
    | (with_reducible first | apply State.progRun_bst | apply State.progNext_bst | apply State.modDma_bst | apply BstN.next | apply BstN.ite)
    | (refine Bst.upd ?_)

theorem execProgLoop_bst {q : Bay} {s : State} {x_e : Engine} {x_k : Fin 2} {x_ecc : Ecc} {x_s : State} (h_x_s : Bst q s x_s) : BstN q s (execProgLoop x_e x_k x_ecc x_s) := by
  unfold execProgLoop
  repeat' first
    | (with_reducible first | assumption | exact Bst.refl _)
    | (intro x_1; refine (fun hx : Bst q s x_1 => ?_) ?_; (clear_value x_1); rotate_left; (unfold x_1))
    | (intro x_1; clear_value x_1)
    | intro _
    | (with_reducible first | apply State.progRun_bst | apply State.modDma_bst | apply State.progTo_bst | apply State.progNext_bst | apply BstN.next | apply BstN.ite | apply Bst.ite)
    | lift_lets -underBinder
    | split
    | dsimp only
    | (refine Bst.upd ?_)

theorem execProgJump_bst {q : Bay} {s : State} {x_e : Engine} {x_k : Fin 2} {x_ecc : Ecc} {x_s : State} (h_x_s : Bst q s x_s) : BstN q s (execProgJump x_e x_k x_ecc x_s) := by
  unfold execProgJump
  repeat' first
    | (with_reducible first | assumption | exact Bst.refl _)
    | intro _
    | (with_reducible first | apply State.progRun_bst | apply State.progTo_bst | apply BstN.next | apply BstN.ite)

theorem execProgWaitEvent_bst {q : Bay} {s : State} {x_e : Engine} {x_k : Fin 2} {x_ecc : Ecc} {x_s : State} (h_x_s : Bst q s x_s) : BstN q s (execProgWaitEvent x_e x_k x_ecc x_s) := by
  unfold execProgWaitEvent
  repeat' first
    | (with_reducible first | assumption | exact Bst.refl _)
    | intro _
    | (with_reducible first | apply State.progRun_bst | apply State.progWait_bst | apply BstN.next | apply BstN.ite)

theorem execProgWaitWord_bst {q : Bay} {s : State} {x_e : Engine} {x_k : Fin 2} {x_ecc : Ecc} {x_s : State} (h_x_s : Bst q s x_s) : BstN q s (execProgWaitWord x_e x_k x_ecc x_s) := by
  unfold execProgWaitWord
  repeat' first
    | (with_reducible first | assumption | exact Bst.refl _)
    | intro _
    | (with_reducible first | apply State.progRun_bst | apply State.progWait_bst | apply BstN.next | apply BstN.ite)

theorem execProgWaitPoll_bst {q : Bay} {s : State} {x_e : Engine} {x_k : Fin 2} {x_ecc : Ecc} {x_s : State} (h_x_s : Bst q s x_s) : BstN q s (execProgWaitPoll x_e x_k x_ecc x_s) := by
  unfold execProgWaitPoll
  repeat' first
    | (with_reducible first | assumption | exact Bst.refl _)
    | (with_reducible first | apply State.progCheck_bst | apply BstN.next | apply BstN.ite)

theorem execProgWaitRelease_bst {q : Bay} {s : State} {x_e : Engine} {x_k : Fin 2} {x_ecc : Ecc} {x_s : State} (h_x_s : Bst q s x_s) : BstN q s (execProgWaitRelease x_e x_k x_ecc x_s) := by
  unfold execProgWaitRelease
  repeat' first
    | (with_reducible first | assumption | exact Bst.refl _)
    | (with_reducible first | apply State.progCheck_bst | apply BstN.next | apply BstN.ite)

theorem execProgWaitTimeout_bst {q : Bay} {s : State} {x_e : Engine} {x_k : Fin 2} {x_s : State} (h_x_s : Bst q s x_s) : BstN q s (execProgWaitTimeout x_e x_k x_s) := by
  unfold execProgWaitTimeout
  repeat' first
    | (with_reducible first | assumption | exact Bst.refl _ | apply State.halt_bst | apply State.advance_bst | apply BstN.next | apply BstN.ite | apply Bst.ite)

theorem execProgWrite_bst {q : Bay} {s : State} {x_e : Engine} {x_k : Fin 2} {x_ecc : Ecc} {x_s : State} (h_x_s : Bst q s x_s) : BstN q s (execProgWrite x_e x_k x_ecc x_s) := by
  unfold execProgWrite
  repeat' first
    | (with_reducible first | assumption | exact Bst.refl _)
    | intro _
    | (with_reducible first | apply State.progRun_bst | apply State.progStore_bst | apply BstN.next | apply BstN.ite)

theorem execProgSignal_bst {q : Bay} {s : State} {x_e : Engine} {x_k : Fin 2} {x_ecc : Ecc} {x_s : State} (h_x_s : Bst q s x_s) : BstN q s (execProgSignal x_e x_k x_ecc x_s) := by
  unfold execProgSignal
  repeat' first
    | (with_reducible first | assumption | exact Bst.refl _)
    | intro _
    | (with_reducible first | apply State.progRun_bst | apply State.progSignal_bst | apply BstN.next | apply BstN.ite)

theorem execProgEnd_bst {q : Bay} {s : State} {x_e : Engine} {x_k : Fin 2} {x_ecc : Ecc} {x_s : State} (h_x_s : Bst q s x_s) : BstN q s (execProgEnd x_e x_k x_ecc x_s) := by
  unfold execProgEnd
  repeat' first
    | (with_reducible first | assumption | exact Bst.refl _)
    | intro _
    | (with_reducible first | apply State.progRun_bst | apply State.leaves_bst | apply BstN.next | apply BstN.ite)

theorem execPortStall_bst {q : Bay} {s : State} {x_e : Engine} {x_k : Fin 8} {x_s : State} (h_x_s : Bst q s x_s) : BstN q s (execPortStall x_e x_k x_s) := by
  unfold execPortStall
  repeat' first
    | (with_reducible first | assumption | exact Bst.refl _ | apply State.halt_bst | apply State.advance_bst | exact BstO.none | apply BstO.some | apply BstO.ite | apply BstN.next | apply BstN.ite | apply Bst.ite)
    | split
    | (refine Bst.upd ?_)

theorem execNoresp_bst {q : Bay} {s : State} {x_e : Engine} {x_k : Fin 8} {x_s : State} (h_x_s : Bst q s x_s) : BstN q s (execNoresp x_e x_k x_s) := by
  unfold execNoresp
  repeat' first
    | (with_reducible first | assumption | exact Bst.refl _ | apply State.halt_bst | exact BstO.none | apply BstO.some | apply BstO.ite | apply BstN.next | apply BstN.ite | apply Bst.ite)
    | split
    | (refine Bst.upd ?_)

end Sys2Proof.Machine
end

