-- ==== Sys2Proof/Laws/BstNet.lean ====
section
/-! SUPPORT. What the operations of Machine/Net.lean keep. -/

set_option linter.all false

namespace Sys2Proof.Machine

theorem State.modNet_bst {q : Bay} {s : State} {x_s : State} {x_p : Fin 2} {x_f : NetPort → NetPort} (h_x_s : Bst q s x_s) : Bst q s (State.modNet x_s x_p x_f) := by
  unfold State.modNet
  repeat' first
    | (with_reducible first | assumption | exact Bst.refl _)
    | (refine Bst.upd ?_)

theorem State.modTpg_bst {q : Bay} {s : State} {x_s : State} {x_n : Tpg} {x_f : TpgU → TpgU} (h_x_s : Bst q s x_s) : Bst q s (State.modTpg x_s x_n x_f) := by
  unfold State.modTpg
  repeat' first
    | (with_reducible first | assumption | exact Bst.refl _)
    | (refine Bst.upd ?_)

theorem State.setTsq_bst {q : Bay} {s : State} {x_s : State} {x_p : Fin 2} {x_q : List Bytes} (h_x_s : Bst q s x_s) : Bst q s (State.setTsq x_s x_p x_q) := by
  unfold State.setTsq
  repeat' first
    | (with_reducible first | assumption | exact Bst.refl _)
    | (show _ ≠ _; first | decide | omega | (simp only [keyB, keyC, keyCap, keySite, keyPc, keyA, keyG, keyBench, keyNode, keyEng, keyDma, keyLane, keyLink, keyStream, keyStack, keyPort, keyTpg, key, RBay.BAY_STATE, ne_eq, RPort.TSQ_COUNT]; omega) | (simp only [keyB, keyC, keyCap, keySite, keyPc, keyA, keyG, keyBench, keyNode, keyEng, keyDma, keyLane, keyLink, keyStream, keyStack, keyPort, keyTpg, key, RBay.BAY_STATE, ne_eq, RPort.TSQ_COUNT, List.mem_range, List.mem_cons, List.not_mem_nil, or_false] at *; omega) | (split <;> first | decide | (simp only [keyB, keyC, keyCap, keySite, keyPc, keyA, keyG, keyBench, keyNode, keyEng, keyDma, keyLane, keyLink, keyStream, keyStack, keyPort, keyTpg, key, RBay.BAY_STATE, ne_eq, RPort.TSQ_COUNT]; omega)))
    | intro _
    | (with_reducible first | apply State.setO_bst | apply State.modNet_bst)
    | (refine Bst.upd ?_)

theorem State.portMode_bst {q : Bay} {s : State} {x_s : State} {x_p : Fin 2} {x_mode : Nat} (h_x_s : Bst q s x_s) : Bst q s (State.portMode x_s x_p x_mode) := by
  unfold State.portMode
  repeat' first
    | (with_reducible first | assumption | exact Bst.refl _)
    | (show _ ≠ _; first | decide | omega | (simp only [keyB, keyC, keyCap, keySite, keyPc, keyA, keyG, keyBench, keyNode, keyEng, keyDma, keyLane, keyLink, keyStream, keyStack, keyPort, keyTpg, key, RBay.BAY_STATE, ne_eq, RPort.PORT_LINK, RPort.PORT_MODE]; omega) | (simp only [keyB, keyC, keyCap, keySite, keyPc, keyA, keyG, keyBench, keyNode, keyEng, keyDma, keyLane, keyLink, keyStream, keyStack, keyPort, keyTpg, key, RBay.BAY_STATE, ne_eq, RPort.PORT_LINK, RPort.PORT_MODE, List.mem_range, List.mem_cons, List.not_mem_nil, or_false] at *; omega) | (split <;> first | decide | (simp only [keyB, keyC, keyCap, keySite, keyPc, keyA, keyG, keyBench, keyNode, keyEng, keyDma, keyLane, keyLink, keyStream, keyStack, keyPort, keyTpg, key, RBay.BAY_STATE, ne_eq, RPort.PORT_LINK, RPort.PORT_MODE]; omega)))
    | (with_reducible first | apply State.answer_bst | apply State.ok_bst | apply State.setTsq_bst | apply State.setO_bst | apply Bst.ite)

theorem State.portDown_bst {q : Bay} {s : State} {x_s : State} {x_p : Fin 2} (h_x_s : Bst q s x_s) : Bst q s (State.portDown x_s x_p) := by
  unfold State.portDown
  repeat' first
    | (with_reducible first | assumption | exact Bst.refl _)
    | (show _ ≠ _; first | decide | omega | (simp only [keyB, keyC, keyCap, keySite, keyPc, keyA, keyG, keyBench, keyNode, keyEng, keyDma, keyLane, keyLink, keyStream, keyStack, keyPort, keyTpg, key, RBay.BAY_STATE, ne_eq, RPort.PORT_LINK]; omega) | (simp only [keyB, keyC, keyCap, keySite, keyPc, keyA, keyG, keyBench, keyNode, keyEng, keyDma, keyLane, keyLink, keyStream, keyStack, keyPort, keyTpg, key, RBay.BAY_STATE, ne_eq, RPort.PORT_LINK, List.mem_range, List.mem_cons, List.not_mem_nil, or_false] at *; omega) | (split <;> first | decide | (simp only [keyB, keyC, keyCap, keySite, keyPc, keyA, keyG, keyBench, keyNode, keyEng, keyDma, keyLane, keyLink, keyStream, keyStack, keyPort, keyTpg, key, RBay.BAY_STATE, ne_eq, RPort.PORT_LINK]; omega)))
    | (with_reducible first | apply State.fault_bst | apply State.setO_bst | apply Bst.ite)

theorem State.servo_bst {q : Bay} {s : State} {x_s : State} {x_offset : Int} (h_x_s : Bst q s x_s) : Bst q s (State.servo x_s x_offset) := by
  unfold State.servo
  repeat' first
    | (with_reducible first | assumption | exact Bst.refl _)
    | (show _ ≠ _; first | decide | omega | (simp only [keyB, keyC, keyCap, keySite, keyPc, keyA, keyG, keyBench, keyNode, keyEng, keyDma, keyLane, keyLink, keyStream, keyStack, keyPort, keyTpg, key, RBay.BAY_STATE, ne_eq, R.CLOCK_STATE, R.LOCK_LIMIT, R.SERVO_MODE]; omega) | (simp only [keyB, keyC, keyCap, keySite, keyPc, keyA, keyG, keyBench, keyNode, keyEng, keyDma, keyLane, keyLink, keyStream, keyStack, keyPort, keyTpg, key, RBay.BAY_STATE, ne_eq, R.CLOCK_STATE, R.LOCK_LIMIT, R.SERVO_MODE, List.mem_range, List.mem_cons, List.not_mem_nil, or_false] at *; omega) | (split <;> first | decide | (simp only [keyB, keyC, keyCap, keySite, keyPc, keyA, keyG, keyBench, keyNode, keyEng, keyDma, keyLane, keyLink, keyStream, keyStack, keyPort, keyTpg, key, RBay.BAY_STATE, ne_eq, R.CLOCK_STATE, R.LOCK_LIMIT, R.SERVO_MODE]; omega)))
    | (intro x_1; refine (fun hx : Bst q s x_1 => ?_) ?_; (clear_value x_1); rotate_left; (unfold x_1))
    | (intro x_1; clear_value x_1)
    | intro _
    | (with_reducible first | apply State.setO_bst | apply Bst.ite)
    | lift_lets -underBinder
    | (refine Bst.upd ?_)

theorem State.frameIn_bst {q : Bay} {s : State} {x_s : State} {x_p : Fin 2} {x_f : EthFrame} (h_x_s : Bst q s x_s) : Bst q s (State.frameIn x_s x_p x_f) := by
  unfold State.frameIn
  repeat' first
    | (with_reducible first | assumption | exact Bst.refl _)
    | (show _ ≠ _; first | decide | omega | (simp only [keyB, keyC, keyCap, keySite, keyPc, keyA, keyG, keyBench, keyNode, keyEng, keyDma, keyLane, keyLink, keyStream, keyStack, keyPort, keyTpg, key, RBay.BAY_STATE, ne_eq, R.UTC_OFFSET, RPort.DOP_UDP_PORT, RPort.MTU, RPort.PORT_MODE, RPort.RX_DISCARDS, RPort.VLAN]; omega) | (simp only [keyB, keyC, keyCap, keySite, keyPc, keyA, keyG, keyBench, keyNode, keyEng, keyDma, keyLane, keyLink, keyStream, keyStack, keyPort, keyTpg, key, RBay.BAY_STATE, ne_eq, R.UTC_OFFSET, RPort.DOP_UDP_PORT, RPort.MTU, RPort.PORT_MODE, RPort.RX_DISCARDS, RPort.VLAN, List.mem_range, List.mem_cons, List.not_mem_nil, or_false] at *; omega) | (split <;> first | decide | (simp only [keyB, keyC, keyCap, keySite, keyPc, keyA, keyG, keyBench, keyNode, keyEng, keyDma, keyLane, keyLink, keyStream, keyStack, keyPort, keyTpg, key, RBay.BAY_STATE, ne_eq, R.UTC_OFFSET, RPort.DOP_UDP_PORT, RPort.MTU, RPort.PORT_MODE, RPort.RX_DISCARDS, RPort.VLAN]; omega)))
    | (intro x_1; refine (fun hx : Bst q s x_1 => ?_) ?_; (clear_value x_1); rotate_left; (unfold x_1))
    | (intro x_1; clear_value x_1)
    | intro _
    | (with_reducible first | apply State.incO_bst | apply State.modNet_bst | apply State.servo_bst | apply State.setO_bst | exact BstO.none | apply BstO.some | apply BstO.ite | apply Bst.ite)
    | lift_lets -underBinder
    | split
    | (refine Bst.upd ?_)

theorem State.ptpOut_bst {q : Bay} {s : State} {x_s : State} {x_p : Fin 2} {x_m : PtpMsg} (h_x_s : Bst q s x_s) : Bst q s (State.ptpOut x_s x_p x_m) := by
  unfold State.ptpOut
  repeat' first
    | (with_reducible first | assumption | exact Bst.refl _)
    | (show _ ≠ _; first | decide | omega | (simp only [keyB, keyC, keyCap, keySite, keyPc, keyA, keyG, keyBench, keyNode, keyEng, keyDma, keyLane, keyLink, keyStream, keyStack, keyPort, keyTpg, key, RBay.BAY_STATE, ne_eq, RPort.ONE_STEP, RPort.TSQ_OVERFLOW]; omega) | (simp only [keyB, keyC, keyCap, keySite, keyPc, keyA, keyG, keyBench, keyNode, keyEng, keyDma, keyLane, keyLink, keyStream, keyStack, keyPort, keyTpg, key, RBay.BAY_STATE, ne_eq, RPort.ONE_STEP, RPort.TSQ_OVERFLOW, List.mem_range, List.mem_cons, List.not_mem_nil, or_false] at *; omega) | (split <;> first | decide | (simp only [keyB, keyC, keyCap, keySite, keyPc, keyA, keyG, keyBench, keyNode, keyEng, keyDma, keyLane, keyLink, keyStream, keyStack, keyPort, keyTpg, key, RBay.BAY_STATE, ne_eq, RPort.ONE_STEP, RPort.TSQ_OVERFLOW]; omega)))
    | (intro x_1; refine (fun hx : Bst q s x_1 => ?_) ?_; (clear_value x_1); rotate_left; (unfold x_1))
    | (intro x_1; clear_value x_1)
    | intro _
    | (with_reducible first | apply State.modNet_bst | apply State.incO_bst | apply State.setTsq_bst | exact BstO.none | apply BstO.some | apply BstO.ite | apply Bst.ite)
    | lift_lets -underBinder
    | (refine Bst.upd ?_)

theorem State.tsqRead_bst {q : Bay} {s : State} {x_s : State} {x_p : Fin 2} (h_x_s : Bst q s x_s) : Bst q s (State.tsqRead x_s x_p) := by
  unfold State.tsqRead
  repeat' first
    | (with_reducible first | assumption | exact Bst.refl _ | apply State.answerBody_bst | apply State.setTsq_bst)
    | split
    | (refine Bst.upd ?_)

theorem State.untilTime_bst {q : Bay} {s : State} {x_s : State} {x_t : Nat} (h_x_s : Bst q s x_s) : Bst q s (State.untilTime x_s x_t) := by
  unfold State.untilTime
  repeat' first
    | (with_reducible first | assumption | exact Bst.refl _ | apply State.advance_bst | exact BstO.none | apply BstO.some | apply BstO.ite)
    | split
    | (refine Bst.upd ?_)

theorem State.tpgPulseEnd_bst {q : Bay} {s : State} {x_s : State} {x_n : Tpg} (h_x_s : Bst q s x_s) : Bst q s (State.tpgPulseEnd x_s x_n) := by
  unfold State.tpgPulseEnd
  repeat' first
    | (with_reducible first | assumption | exact Bst.refl _)
    | (intro x_1; refine (fun hx : Bst q s x_1 => ?_) ?_; (clear_value x_1); rotate_left; (unfold x_1))
    | (intro x_1; clear_value x_1)
    | intro _
    | (with_reducible first | apply State.modTpg_bst | apply State.untilTime_bst | apply State.each_bst | apply State.driveRidge_bst | exact BstO.none | apply BstO.some | apply BstO.ite | apply Bst.ite | apply Bst.foldl)
    | lift_lets -underBinder
    | split
    | (refine Bst.upd ?_)

theorem State.clockWrite_bst {q : Bay} {s : State} {x_s : State} (x_k : State → State) (h_x_s : Bst q s x_s) (h_x_k : ∀ (v0 : State), Bst q s v0 → Bst q s (x_k v0)) : Bst q s (State.clockWrite x_s x_k) := by
  unfold State.clockWrite
  repeat' first
    | (with_reducible first | assumption | exact Bst.refl _ | apply h_x_k | apply State.answer_bst | apply Bst.ite)

theorem State.rateSet_bst {q : Bay} {s : State} {x_s : State} {x_rate : Nat} (h_x_s : Bst q s x_s) : Bst q s (State.rateSet x_s x_rate) := by
  unfold State.rateSet
  repeat' first
    | (with_reducible first | assumption | exact Bst.refl _)
    | (show _ ≠ _; first | decide | omega | (simp only [keyB, keyC, keyCap, keySite, keyPc, keyA, keyG, keyBench, keyNode, keyEng, keyDma, keyLane, keyLink, keyStream, keyStack, keyPort, keyTpg, key, RBay.BAY_STATE, ne_eq, R.OFFSET, R.RATE_SET]; omega) | (simp only [keyB, keyC, keyCap, keySite, keyPc, keyA, keyG, keyBench, keyNode, keyEng, keyDma, keyLane, keyLink, keyStream, keyStack, keyPort, keyTpg, key, RBay.BAY_STATE, ne_eq, R.OFFSET, R.RATE_SET, List.mem_range, List.mem_cons, List.not_mem_nil, or_false] at *; omega) | (split <;> first | decide | (simp only [keyB, keyC, keyCap, keySite, keyPc, keyA, keyG, keyBench, keyNode, keyEng, keyDma, keyLane, keyLink, keyStream, keyStack, keyPort, keyTpg, key, RBay.BAY_STATE, ne_eq, R.OFFSET, R.RATE_SET]; omega)))
    | (intro x_1; refine (fun hx : Bst q s x_1 => ?_) ?_; (clear_value x_1); rotate_left; (unfold x_1))
    | (intro x_1; clear_value x_1)
    | intro _
    | (with_reducible first | apply State.answer_bst | apply State.ok_bst | apply State.setO_bst | apply Bst.ite)
    | lift_lets -underBinder

theorem State.tpgEnable_bst {q : Bay} {s : State} {x_s : State} {x_n : Tpg} {x_on : Bool} (h_x_s : Bst q s x_s) : Bst q s (State.tpgEnable x_s x_n x_on) := by
  unfold State.tpgEnable
  repeat' first
    | (with_reducible first | assumption | exact Bst.refl _)
    | (show _ ≠ _; first | decide | omega | (simp only [keyB, keyC, keyCap, keySite, keyPc, keyA, keyG, keyBench, keyNode, keyEng, keyDma, keyLane, keyLink, keyStream, keyStack, keyPort, keyTpg, key, RBay.BAY_STATE, ne_eq, RTpg.ENABLE, RTpg.FIRINGS, RTpg.LATE, RTpg.PERIOD, RTpg.SKIPPED, RTpg.START, RTpg.WIDTH]; omega) | (simp only [keyB, keyC, keyCap, keySite, keyPc, keyA, keyG, keyBench, keyNode, keyEng, keyDma, keyLane, keyLink, keyStream, keyStack, keyPort, keyTpg, key, RBay.BAY_STATE, ne_eq, RTpg.ENABLE, RTpg.FIRINGS, RTpg.LATE, RTpg.PERIOD, RTpg.SKIPPED, RTpg.START, RTpg.WIDTH, List.mem_range, List.mem_cons, List.not_mem_nil, or_false] at *; omega) | (split <;> first | decide | (simp only [keyB, keyC, keyCap, keySite, keyPc, keyA, keyG, keyBench, keyNode, keyEng, keyDma, keyLane, keyLink, keyStream, keyStack, keyPort, keyTpg, key, RBay.BAY_STATE, ne_eq, RTpg.ENABLE, RTpg.FIRINGS, RTpg.LATE, RTpg.PERIOD, RTpg.SKIPPED, RTpg.START, RTpg.WIDTH]; omega)))
    | (intro x_1; refine (fun hx : Bst q s x_1 => ?_) ?_; (clear_value x_1); rotate_left; (unfold x_1))
    | (intro x_1; clear_value x_1)
    | intro _
    | (with_reducible first | apply State.ok_bst | apply State.modTpg_bst | apply State.setO_bst | apply State.answerD_bst | apply State.answer_bst | apply State.each_bst | exact BstO.none | apply BstO.some | apply BstO.ite | apply Bst.ite)
    | lift_lets -underBinder
    | split
    | (refine Bst.upd ?_)

theorem execPortModeWrite_bst {q : Bay} {s : State} {x_p : Fin 2} {x_mode : BitVec 8} {x_s : State} (h_x_s : Bst q s x_s) : BstN q s (execPortModeWrite x_p x_mode x_s) := by
  unfold execPortModeWrite
  repeat' first
    | (with_reducible first | assumption | exact Bst.refl _)
    | intro _
    | (with_reducible first | apply State.hostModule_bst | apply State.portMode_bst | apply BstN.next | apply BstN.ite)

theorem execEthFrameRx_bst {q : Bay} {s : State} {x_p : Fin 2} {x_f : EthFrame} {x_s : State} (h_x_s : Bst q s x_s) : BstN q s (execEthFrameRx x_p x_f x_s) := by
  unfold execEthFrameRx
  repeat' first
    | (with_reducible first | assumption | exact Bst.refl _ | apply State.frameIn_bst | apply BstN.next | apply BstN.ite)

theorem execPortLinkDown_bst {q : Bay} {s : State} {x_p : Fin 2} {x_s : State} (h_x_s : Bst q s x_s) : BstN q s (execPortLinkDown x_p x_s) := by
  unfold execPortLinkDown
  repeat' first
    | (with_reducible first | assumption | exact Bst.refl _ | apply State.portDown_bst | apply BstN.next | apply BstN.ite)

theorem execPortLinkUp_bst {q : Bay} {s : State} {x_p : Fin 2} {x_s : State} (h_x_s : Bst q s x_s) : BstN q s (execPortLinkUp x_p x_s) := by
  unfold execPortLinkUp
  repeat' first
    | (with_reducible first | assumption | exact Bst.refl _)
    | (show _ ≠ _; first | decide | omega | (simp only [keyB, keyC, keyCap, keySite, keyPc, keyA, keyG, keyBench, keyNode, keyEng, keyDma, keyLane, keyLink, keyStream, keyStack, keyPort, keyTpg, key, RBay.BAY_STATE, ne_eq, RPort.PORT_LINK, RPort.PORT_MODE]; omega) | (simp only [keyB, keyC, keyCap, keySite, keyPc, keyA, keyG, keyBench, keyNode, keyEng, keyDma, keyLane, keyLink, keyStream, keyStack, keyPort, keyTpg, key, RBay.BAY_STATE, ne_eq, RPort.PORT_LINK, RPort.PORT_MODE, List.mem_range, List.mem_cons, List.not_mem_nil, or_false] at *; omega) | (split <;> first | decide | (simp only [keyB, keyC, keyCap, keySite, keyPc, keyA, keyG, keyBench, keyNode, keyEng, keyDma, keyLane, keyLink, keyStream, keyStack, keyPort, keyTpg, key, RBay.BAY_STATE, ne_eq, RPort.PORT_LINK, RPort.PORT_MODE]; omega)))
    | (with_reducible first | apply State.setO_bst | apply BstN.next | apply BstN.ite | apply Bst.ite)

theorem execPtpEventTx_bst {q : Bay} {s : State} {x_p : Fin 2} {x_m : PtpMsg} {x_s : State} (h_x_s : Bst q s x_s) : BstN q s (execPtpEventTx x_p x_m x_s) := by
  unfold execPtpEventTx
  repeat' first
    | (with_reducible first | assumption | exact Bst.refl _ | apply State.ptpOut_bst | apply BstN.next | apply BstN.ite)

theorem execTsqEntryRead_bst {q : Bay} {s : State} {x_p : Fin 2} {x_s : State} (h_x_s : Bst q s x_s) : BstN q s (execTsqEntryRead x_p x_s) := by
  unfold execTsqEntryRead
  repeat' first
    | (with_reducible first | assumption | exact Bst.refl _)
    | intro _
    | (with_reducible first | apply State.hostModule_bst | apply State.tsqRead_bst | apply BstN.next | apply BstN.ite)

theorem execSyncLoss_bst {q : Bay} {s : State} {x_s : State} (h_x_s : Bst q s x_s) : BstN q s (execSyncLoss x_s) := by
  unfold execSyncLoss
  repeat' first
    | (with_reducible first | assumption | exact Bst.refl _)
    | (show _ ≠ _; first | decide | omega | (simp only [keyB, keyC, keyCap, keySite, keyPc, keyA, keyG, keyBench, keyNode, keyEng, keyDma, keyLane, keyLink, keyStream, keyStack, keyPort, keyTpg, key, RBay.BAY_STATE, ne_eq, R.CLOCK_STATE]; omega) | (simp only [keyB, keyC, keyCap, keySite, keyPc, keyA, keyG, keyBench, keyNode, keyEng, keyDma, keyLane, keyLink, keyStream, keyStack, keyPort, keyTpg, key, RBay.BAY_STATE, ne_eq, R.CLOCK_STATE, List.mem_range, List.mem_cons, List.not_mem_nil, or_false] at *; omega) | (split <;> first | decide | (simp only [keyB, keyC, keyCap, keySite, keyPc, keyA, keyG, keyBench, keyNode, keyEng, keyDma, keyLane, keyLink, keyStream, keyStack, keyPort, keyTpg, key, RBay.BAY_STATE, ne_eq, R.CLOCK_STATE]; omega)))
    | (with_reducible first | apply State.setO_bst | apply BstN.next | apply BstN.ite | apply Bst.ite)
    | (refine Bst.upd ?_)

theorem execRateSet_bst {q : Bay} {s : State} {x_rate : BitVec 64} {x_s : State} (h_x_s : Bst q s x_s) : BstN q s (execRateSet x_rate x_s) := by
  unfold execRateSet
  repeat' first
    | (with_reducible first | assumption | exact Bst.refl _)
    | intro _
    | (with_reducible first | apply State.clockWrite_bst | apply State.rateSet_bst | apply BstN.next | apply BstN.ite)

theorem execTimeCopyRefresh_bst {q : Bay} {s : State} {x_unit : BitVec 12} {x_s : State} (h_x_s : Bst q s x_s) : BstN q s (execTimeCopyRefresh x_unit x_s) := by
  unfold execTimeCopyRefresh
  repeat' first
    | (with_reducible first | assumption | exact Bst.refl _ | apply BstN.next | apply BstN.ite | apply Bst.ite)
    | (refine Bst.upd ?_)

theorem execTpgEnable_bst {q : Bay} {s : State} {x_n : Tpg} {x_on : Bool} {x_s : State} (h_x_s : Bst q s x_s) : BstN q s (execTpgEnable x_n x_on x_s) := by
  unfold execTpgEnable
  repeat' first
    | (with_reducible first | assumption | exact Bst.refl _)
    | intro _
    | (with_reducible first | apply State.hostModule_bst | apply State.tpgEnable_bst | apply BstN.next | apply BstN.ite)

theorem execTpgPulseEnd_bst {q : Bay} {s : State} {x_n : Tpg} {x_s : State} (h_x_s : Bst q s x_s) : BstN q s (execTpgPulseEnd x_n x_s) := by
  unfold execTpgPulseEnd
  repeat' first
    | (with_reducible first | assumption | exact Bst.refl _ | apply State.tpgPulseEnd_bst | apply BstN.next | apply BstN.ite)

end Sys2Proof.Machine
end

