-- ==== Sys2Proof/Laws/BstTouchmark.lean ====
section
/-! SUPPORT. What the operations of Machine/Touchmark.lean keep. -/

set_option linter.all false

namespace Sys2Proof.Machine

theorem State.setTm_bst {q : Bay} {s : State} {x_s : State} {x_st : Nat} (h_x_s : Bst q s x_s) : Bst q s (State.setTm x_s x_st) := by
  unfold State.setTm
  repeat' first
    | (with_reducible first | assumption | exact Bst.refl _)
    | (show _ ≠ _; first | decide | omega | (simp only [keyB, keyC, keyCap, keySite, keyPc, keyA, keyG, keyBench, keyNode, keyEng, keyDma, keyLane, keyLink, keyStream, keyStack, keyPort, keyTpg, key, RBay.BAY_STATE, ne_eq, R.APPROVED, R.TM_STATE]; omega) | (simp only [keyB, keyC, keyCap, keySite, keyPc, keyA, keyG, keyBench, keyNode, keyEng, keyDma, keyLane, keyLink, keyStream, keyStack, keyPort, keyTpg, key, RBay.BAY_STATE, ne_eq, R.APPROVED, R.TM_STATE, List.mem_range, List.mem_cons, List.not_mem_nil, or_false] at *; omega) | (split <;> first | decide | (simp only [keyB, keyC, keyCap, keySite, keyPc, keyA, keyG, keyBench, keyNode, keyEng, keyDma, keyLane, keyLink, keyStream, keyStack, keyPort, keyTpg, key, RBay.BAY_STATE, ne_eq, R.APPROVED, R.TM_STATE]; omega)))
    | (with_reducible first | apply State.setO_bst | apply Bst.ite)

theorem State.innerCommit_bst {q : Bay} {s : State} {x_s : State} {x_m : Sample} {x_cls : Nat} {x_unit : Nat} (x_yes : State → State) (x_no : State → State) (h_x_s : Bst q s x_s) (h_x_yes : ∀ (v0 : State), Bst q s v0 → Bst q s (x_yes v0)) (h_x_no : ∀ (v0 : State), Bst q s v0 → Bst q s (x_no v0)) : Bst q s (State.innerCommit x_s x_m x_cls x_unit x_yes x_no) := by
  unfold State.innerCommit
  repeat' first
    | (with_reducible first | assumption | exact Bst.refl _)
    | (intro x_1; refine (fun hx : Bst q s x_1 => ?_) ?_; (clear_value x_1); rotate_left; (unfold x_1))
    | (intro x_1; clear_value x_1)
    | intro _
    | (with_reducible first | apply h_x_yes | apply h_x_no | apply State.refuseCommit_bst | apply State.recordCheck_bst | apply Bst.ite)
    | lift_lets -underBinder
    | (refine Bst.upd ?_)

theorem State.reserve_bst {q : Bay} {s : State} {x_s : State} {x_m : Sample} (h_x_s : Bst q s x_s) : Bst q s (State.reserve x_s x_m) := by
  unfold State.reserve
  repeat' first
    | (with_reducible first | assumption | exact Bst.refl _)
    | (show _ ≠ _; first | decide | omega | (simp only [keyB, keyC, keyCap, keySite, keyPc, keyA, keyG, keyBench, keyNode, keyEng, keyDma, keyLane, keyLink, keyStream, keyStack, keyPort, keyTpg, key, RBay.BAY_STATE, ne_eq, R.RESERVED_END]; omega) | (simp only [keyB, keyC, keyCap, keySite, keyPc, keyA, keyG, keyBench, keyNode, keyEng, keyDma, keyLane, keyLink, keyStream, keyStack, keyPort, keyTpg, key, RBay.BAY_STATE, ne_eq, R.RESERVED_END, List.mem_range, List.mem_cons, List.not_mem_nil, or_false] at *; omega) | (split <;> first | decide | (simp only [keyB, keyC, keyCap, keySite, keyPc, keyA, keyG, keyBench, keyNode, keyEng, keyDma, keyLane, keyLink, keyStream, keyStack, keyPort, keyTpg, key, RBay.BAY_STATE, ne_eq, R.RESERVED_END]; omega)))
    | intro _
    | (with_reducible first | apply State.innerCommit_bst | apply State.setO_bst | exact BstO.none | apply BstO.some | apply BstO.ite)
    | (refine Bst.upd ?_)

theorem State.resumeCounter_bst {q : Bay} {s : State} {x_s : State} {x_m : Sample} (h_x_s : Bst q s x_s) : Bst q s (State.resumeCounter x_s x_m) := by
  unfold State.resumeCounter
  repeat' first
    | (with_reducible first | assumption | exact Bst.refl _)
    | (show _ ≠ _; first | decide | omega | (simp only [keyB, keyC, keyCap, keySite, keyPc, keyA, keyG, keyBench, keyNode, keyEng, keyDma, keyLane, keyLink, keyStream, keyStack, keyPort, keyTpg, key, RBay.BAY_STATE, ne_eq, R.RESERVED_END, R.TM_COUNTER, R.TM_GAPS]; omega) | (simp only [keyB, keyC, keyCap, keySite, keyPc, keyA, keyG, keyBench, keyNode, keyEng, keyDma, keyLane, keyLink, keyStream, keyStack, keyPort, keyTpg, key, RBay.BAY_STATE, ne_eq, R.RESERVED_END, R.TM_COUNTER, R.TM_GAPS, List.mem_range, List.mem_cons, List.not_mem_nil, or_false] at *; omega) | (split <;> first | decide | (simp only [keyB, keyC, keyCap, keySite, keyPc, keyA, keyG, keyBench, keyNode, keyEng, keyDma, keyLane, keyLink, keyStream, keyStack, keyPort, keyTpg, key, RBay.BAY_STATE, ne_eq, R.RESERVED_END, R.TM_COUNTER, R.TM_GAPS]; omega)))
    | (intro x_1; refine (fun hx : Bst q s x_1 => ?_) ?_; (clear_value x_1); rotate_left; (unfold x_1))
    | (intro x_1; clear_value x_1)
    | intro _
    | (with_reducible first | apply State.incO_bst | apply State.setO_bst | apply State.reserve_bst)
    | lift_lets -underBinder
    | (refine Bst.upd ?_)

theorem State.newTmKey_bst {q : Bay} {s : State} {x_s : State} (h_x_s : Bst q s x_s) : Bst q s (State.newTmKey x_s) := by
  unfold State.newTmKey
  repeat' first
    | (with_reducible first | assumption | exact Bst.refl _)
    | (show _ ≠ _; first | decide | omega | (simp only [keyB, keyC, keyCap, keySite, keyPc, keyA, keyG, keyBench, keyNode, keyEng, keyDma, keyLane, keyLink, keyStream, keyStack, keyPort, keyTpg, key, RBay.BAY_STATE, ne_eq, R.TOUCHMARK_KEY_ID]; omega) | (simp only [keyB, keyC, keyCap, keySite, keyPc, keyA, keyG, keyBench, keyNode, keyEng, keyDma, keyLane, keyLink, keyStream, keyStack, keyPort, keyTpg, key, RBay.BAY_STATE, ne_eq, R.TOUCHMARK_KEY_ID, List.mem_range, List.mem_cons, List.not_mem_nil, or_false] at *; omega) | (split <;> first | decide | (simp only [keyB, keyC, keyCap, keySite, keyPc, keyA, keyG, keyBench, keyNode, keyEng, keyDma, keyLane, keyLink, keyStream, keyStack, keyPort, keyTpg, key, RBay.BAY_STATE, ne_eq, R.TOUCHMARK_KEY_ID]; omega)))
    | (intro x_1; refine (fun hx : Bst q s x_1 => ?_) ?_; (clear_value x_1); rotate_left; (unfold x_1))
    | (intro x_1; refine (fun hx : Bst q s x_1.2 => ?_) ?_; (clear_value x_1); rotate_left; (unfold x_1))
    | (intro x_1; clear_value x_1)
    | intro _
    | (with_reducible first | apply State.free_bst | apply State.setO_bst | apply Bst.ite | apply Bst.ite2)
    | lift_lets -underBinder
    | dsimp only
    | dsimp only [id]
    | (refine Bst.upd ?_)

theorem State.tmOperational_bst {q : Bay} {s : State} {x_s : State} {x_m : Sample} (h_x_s : Bst q s x_s) : Bst q s (State.tmOperational x_s x_m) := by
  unfold State.tmOperational
  repeat' first
    | (with_reducible first | assumption | exact Bst.refl _)
    | (intro x_1; refine (fun hx : Bst q s x_1 => ?_) ?_; (clear_value x_1); rotate_left; (unfold x_1))
    | (intro x_1; clear_value x_1)
    | intro _
    | (with_reducible first | apply State.setTm_bst | apply State.innerCommit_bst | apply State.newTmKey_bst | apply Bst.ite)
    | lift_lets -underBinder
    | dsimp only [id]

theorem State.tmReady_bst {q : Bay} {s : State} {x_s : State} {x_m : Sample} (h_x_s : Bst q s x_s) : Bst q s (State.tmReady x_s x_m) := by
  unfold State.tmReady
  repeat' first
    | (with_reducible first | assumption | exact Bst.refl _ | apply State.setTm_bst | apply State.tmOperational_bst | apply Bst.ite)

theorem State.dropLinkKeys_bst {q : Bay} {s : State} {x_s : State} (h_x_s : Bst q s x_s) : Bst q s (State.dropLinkKeys x_s) := by
  unfold State.dropLinkKeys
  repeat' first
    | (with_reducible first | assumption | exact Bst.refl _)
    | intro _
    | (with_reducible first | apply State.each_bst | apply State.modStream_bst | apply State.breakStream_bst)
    | (refine Bst.upd ?_)

theorem State.tmStart_bst {q : Bay} {s : State} {x_s : State} (h_x_s : Bst q s x_s) : Bst q s (State.tmStart x_s) := by
  unfold State.tmStart
  repeat' first
    | (with_reducible first | assumption | exact Bst.refl _)
    | (show _ ≠ _; first | decide | omega | (simp only [keyB, keyC, keyCap, keySite, keyPc, keyA, keyG, keyBench, keyNode, keyEng, keyDma, keyLane, keyLink, keyStream, keyStack, keyPort, keyTpg, key, RBay.BAY_STATE, ne_eq, R.DEBUG_STATE]; omega) | (simp only [keyB, keyC, keyCap, keySite, keyPc, keyA, keyG, keyBench, keyNode, keyEng, keyDma, keyLane, keyLink, keyStream, keyStack, keyPort, keyTpg, key, RBay.BAY_STATE, ne_eq, R.DEBUG_STATE, List.mem_range, List.mem_cons, List.not_mem_nil, or_false] at *; omega) | (split <;> first | decide | (simp only [keyB, keyC, keyCap, keySite, keyPc, keyA, keyG, keyBench, keyNode, keyEng, keyDma, keyLane, keyLink, keyStream, keyStack, keyPort, keyTpg, key, RBay.BAY_STATE, ne_eq, R.DEBUG_STATE]; omega)))
    | (intro x_1; refine (fun hx : Bst q s x_1 => ?_) ?_; (clear_value x_1); rotate_left; (unfold x_1))
    | (intro x_1; clear_value x_1)
    | intro _
    | (with_reducible first | apply State.dropLinkKeys_bst | apply State.zeroSlots_bst | apply State.setTm_bst | apply State.setO_bst)
    | lift_lets -underBinder
    | (refine Bst.upd ?_)

theorem State.selfTest_bst {q : Bay} {s : State} {x_s : State} (h_x_s : Bst q s x_s) : Bst q s (State.selfTest x_s) := by
  unfold State.selfTest
  repeat' first
    | (with_reducible first | assumption | exact Bst.refl _ | apply State.ok_bst | apply State.setTm_bst | apply State.answer_bst | apply Bst.ite)
    | (refine Bst.upd ?_)

theorem State.tmRestart_bst {q : Bay} {s : State} {x_s : State} {x_verified : Bool} (h_x_s : Bst q s x_s) : Bst q s (State.tmRestart x_s x_verified) := by
  unfold State.tmRestart
  repeat' first
    | (with_reducible first | assumption | exact Bst.refl _ | apply State.answer_bst | apply State.ok_bst | apply State.tmStart_bst | apply Bst.ite)

theorem State.dropGroupKey_bst {q : Bay} {s : State} {x_s : State} (h_x_s : Bst q s x_s) : Bst q s (State.dropGroupKey x_s) := by
  unfold State.dropGroupKey
  repeat' first
    | (with_reducible first | assumption | exact Bst.refl _)
    | (show _ ≠ _; first | decide | omega | (simp only [keyB, keyC, keyCap, keySite, keyPc, keyA, keyG, keyBench, keyNode, keyEng, keyDma, keyLane, keyLink, keyStream, keyStack, keyPort, keyTpg, key, RBay.BAY_STATE, ne_eq, R.GROUP_KEY_ID]; omega) | (simp only [keyB, keyC, keyCap, keySite, keyPc, keyA, keyG, keyBench, keyNode, keyEng, keyDma, keyLane, keyLink, keyStream, keyStack, keyPort, keyTpg, key, RBay.BAY_STATE, ne_eq, R.GROUP_KEY_ID, List.mem_range, List.mem_cons, List.not_mem_nil, or_false] at *; omega) | (split <;> first | decide | (simp only [keyB, keyC, keyCap, keySite, keyPc, keyA, keyG, keyBench, keyNode, keyEng, keyDma, keyLane, keyLink, keyStream, keyStack, keyPort, keyTpg, key, RBay.BAY_STATE, ne_eq, R.GROUP_KEY_ID]; omega)))
    | with_reducible apply State.setO_bst
    | (refine Bst.upd ?_)

theorem State.writeAnchor_bst {q : Bay} {s : State} {x_s : State} {x_r : Role} {x_k : Bytes} {x_m : Sample} (h_x_s : Bst q s x_s) : Bst q s (State.writeAnchor x_s x_r x_k x_m) := by
  unfold State.writeAnchor
  repeat' first
    | (with_reducible first | assumption | exact Bst.refl _)
    | (intro x_1; refine (fun hx : Bst q s x_1 => ?_) ?_; (clear_value x_1); rotate_left; (unfold x_1))
    | (intro x_1; clear_value x_1)
    | intro _
    | (with_reducible first | apply State.answer_bst | apply State.commitGate_bst | apply State.ok_bst | apply State.tmReady_bst | apply Bst.ite)
    | lift_lets -underBinder
    | (refine Bst.upd ?_)

theorem State.writeCodeKey_bst {q : Bay} {s : State} {x_s : State} {x_slot : Nat} {x_k : Bytes} {x_m : Sample} (h_x_s : Bst q s x_s) : Bst q s (State.writeCodeKey x_s x_slot x_k x_m) := by
  unfold State.writeCodeKey
  repeat' first
    | (with_reducible first | assumption | exact Bst.refl _)
    | intro _
    | (with_reducible first | apply State.answer_bst | apply State.commitGate_bst | apply State.ok_bst | apply Bst.ite)
    | (refine Bst.upd ?_)

theorem State.importKey_bst {q : Bay} {s : State} {x_s : State} {x_r : Bytes} {x_k : Option (BitVec 256)} {x_m : Sample} (h_x_s : Bst q s x_s) : Bst q s (State.importKey x_s x_r x_k x_m) := by
  unfold State.importKey
  repeat' first
    | (with_reducible first | assumption | exact Bst.refl _)
    | (show _ ≠ _; first | decide | omega | (simp only [keyB, keyC, keyCap, keySite, keyPc, keyA, keyG, keyBench, keyNode, keyEng, keyDma, keyLane, keyLink, keyStream, keyStack, keyPort, keyTpg, key, RBay.BAY_STATE, ne_eq, R.GROUP_KEY_ID]; omega) | (simp only [keyB, keyC, keyCap, keySite, keyPc, keyA, keyG, keyBench, keyNode, keyEng, keyDma, keyLane, keyLink, keyStream, keyStack, keyPort, keyTpg, key, RBay.BAY_STATE, ne_eq, R.GROUP_KEY_ID, List.mem_range, List.mem_cons, List.not_mem_nil, or_false] at *; omega) | (split <;> first | decide | (simp only [keyB, keyC, keyCap, keySite, keyPc, keyA, keyG, keyBench, keyNode, keyEng, keyDma, keyLane, keyLink, keyStream, keyStack, keyPort, keyTpg, key, RBay.BAY_STATE, ne_eq, R.GROUP_KEY_ID]; omega)))
    | intro _
    | (with_reducible first | apply State.answer_bst | apply State.commitGate_bst | apply State.ok_bst | apply State.setO_bst | exact BstO.none | apply BstO.some | apply BstO.ite | apply Bst.ite)
    | split
    | (refine Bst.upd ?_)

theorem State.slotZeroize_bst {q : Bay} {s : State} {x_s : State} {x_slot : Nat} (h_x_s : Bst q s x_s) : Bst q s (State.slotZeroize x_s x_slot) := by
  unfold State.slotZeroize
  repeat' first
    | (with_reducible first | assumption | exact Bst.refl _)
    | intro _
    | (with_reducible first | apply State.answer_bst | apply State.ok_bst | apply State.zeroSlot_bst | apply Bst.ite)

theorem State.fwImage_bst {q : Bay} {s : State} {x_s : State} {x_len : Nat} {x_sigOk : Bool} {x_release : Nat} {x_rollback : Nat} (h_x_s : Bst q s x_s) : Bst q s (State.fwImage x_s x_len x_sigOk x_release x_rollback) := by
  unfold State.fwImage
  repeat' first
    | (with_reducible first | assumption | exact Bst.refl _)
    | (show _ ≠ _; first | decide | omega | (simp only [keyB, keyC, keyCap, keySite, keyPc, keyA, keyG, keyBench, keyNode, keyEng, keyDma, keyLane, keyLink, keyStream, keyStack, keyPort, keyTpg, key, RBay.BAY_STATE, ne_eq, R.FW_ACTIVE_SLOT, R.FW_STATUS, R.ROLLBACK]; omega) | (simp only [keyB, keyC, keyCap, keySite, keyPc, keyA, keyG, keyBench, keyNode, keyEng, keyDma, keyLane, keyLink, keyStream, keyStack, keyPort, keyTpg, key, RBay.BAY_STATE, ne_eq, R.FW_ACTIVE_SLOT, R.FW_STATUS, R.ROLLBACK, List.mem_range, List.mem_cons, List.not_mem_nil, or_false] at *; omega) | (split <;> first | decide | (simp only [keyB, keyC, keyCap, keySite, keyPc, keyA, keyG, keyBench, keyNode, keyEng, keyDma, keyLane, keyLink, keyStream, keyStack, keyPort, keyTpg, key, RBay.BAY_STATE, ne_eq, R.FW_ACTIVE_SLOT, R.FW_STATUS, R.ROLLBACK]; omega)))
    | (intro x_1; refine (fun hx : Bst q s x_1 => ?_) ?_; (clear_value x_1); rotate_left; (unfold x_1))
    | (intro x_1; clear_value x_1)
    | intro _
    | (with_reducible first | apply State.answer_bst | apply State.setO_bst | apply State.ok_bst | exact BstO.none | apply BstO.some | apply BstO.ite | apply Bst.ite)
    | lift_lets -underBinder
    | (refine Bst.upd ?_)

theorem State.fwProgrammed_bst {q : Bay} {s : State} {x_s : State} {x_cut : Bool} (h_x_s : Bst q s x_s) : Bst q s (State.fwProgrammed x_s x_cut) := by
  unfold State.fwProgrammed
  repeat' first
    | (with_reducible first | assumption | exact Bst.refl _)
    | (show _ ≠ _; first | decide | omega | (simp only [keyB, keyC, keyCap, keySite, keyPc, keyA, keyG, keyBench, keyNode, keyEng, keyDma, keyLane, keyLink, keyStream, keyStack, keyPort, keyTpg, key, RBay.BAY_STATE, ne_eq, R.FW_SLOT_VERSION, R.FW_STATUS]; omega) | (simp only [keyB, keyC, keyCap, keySite, keyPc, keyA, keyG, keyBench, keyNode, keyEng, keyDma, keyLane, keyLink, keyStream, keyStack, keyPort, keyTpg, key, RBay.BAY_STATE, ne_eq, R.FW_SLOT_VERSION, R.FW_STATUS, List.mem_range, List.mem_cons, List.not_mem_nil, or_false] at *; omega) | (split <;> first | decide | (simp only [keyB, keyC, keyCap, keySite, keyPc, keyA, keyG, keyBench, keyNode, keyEng, keyDma, keyLane, keyLink, keyStream, keyStack, keyPort, keyTpg, key, RBay.BAY_STATE, ne_eq, R.FW_SLOT_VERSION, R.FW_STATUS]; omega)))
    | (intro x_1; refine (fun hx : Bst q s x_1 => ?_) ?_; (clear_value x_1); rotate_left; (unfold x_1))
    | (intro x_1; clear_value x_1)
    | intro _
    | (with_reducible first | apply State.setO_bst | exact BstO.none | apply BstO.some | apply BstO.ite | apply Bst.ite)
    | lift_lets -underBinder
    | split
    | (refine Bst.upd ?_)

theorem State.fwActive_bst {q : Bay} {s : State} {x_s : State} {x_slot : Nat} {x_m : Sample} (h_x_s : Bst q s x_s) : Bst q s (State.fwActive x_s x_slot x_m) := by
  unfold State.fwActive
  repeat' first
    | (with_reducible first | assumption | exact Bst.refl _)
    | (show _ ≠ _; first | decide | omega | (simp only [keyB, keyC, keyCap, keySite, keyPc, keyA, keyG, keyBench, keyNode, keyEng, keyDma, keyLane, keyLink, keyStream, keyStack, keyPort, keyTpg, key, RBay.BAY_STATE, ne_eq, R.FW_ACTIVE_SLOT]; omega) | (simp only [keyB, keyC, keyCap, keySite, keyPc, keyA, keyG, keyBench, keyNode, keyEng, keyDma, keyLane, keyLink, keyStream, keyStack, keyPort, keyTpg, key, RBay.BAY_STATE, ne_eq, R.FW_ACTIVE_SLOT, List.mem_range, List.mem_cons, List.not_mem_nil, or_false] at *; omega) | (split <;> first | decide | (simp only [keyB, keyC, keyCap, keySite, keyPc, keyA, keyG, keyBench, keyNode, keyEng, keyDma, keyLane, keyLink, keyStream, keyStack, keyPort, keyTpg, key, RBay.BAY_STATE, ne_eq, R.FW_ACTIVE_SLOT]; omega)))
    | intro _
    | (with_reducible first | apply State.answer_bst | apply State.commitGate_bst | apply State.ok_bst | apply State.setO_bst | apply Bst.ite)

theorem State.fwAccept_bst {q : Bay} {s : State} {x_s : State} {x_v : Nat} {x_m : Sample} (h_x_s : Bst q s x_s) : Bst q s (State.fwAccept x_s x_v x_m) := by
  unfold State.fwAccept
  repeat' first
    | (with_reducible first | assumption | exact Bst.refl _)
    | (show _ ≠ _; first | decide | omega | (simp only [keyB, keyC, keyCap, keySite, keyPc, keyA, keyG, keyBench, keyNode, keyEng, keyDma, keyLane, keyLink, keyStream, keyStack, keyPort, keyTpg, key, RBay.BAY_STATE, ne_eq, R.ROLLBACK]; omega) | (simp only [keyB, keyC, keyCap, keySite, keyPc, keyA, keyG, keyBench, keyNode, keyEng, keyDma, keyLane, keyLink, keyStream, keyStack, keyPort, keyTpg, key, RBay.BAY_STATE, ne_eq, R.ROLLBACK, List.mem_range, List.mem_cons, List.not_mem_nil, or_false] at *; omega) | (split <;> first | decide | (simp only [keyB, keyC, keyCap, keySite, keyPc, keyA, keyG, keyBench, keyNode, keyEng, keyDma, keyLane, keyLink, keyStream, keyStack, keyPort, keyTpg, key, RBay.BAY_STATE, ne_eq, R.ROLLBACK]; omega)))
    | intro _
    | (with_reducible first | apply State.answer_bst | apply State.commitGate_bst | apply State.ok_bst | apply State.setO_bst | apply Bst.ite)

theorem State.debugUnlock_bst {q : Bay} {s : State} {x_s : State} {x_scope : Nat} {x_sigOk : Bool} (h_x_s : Bst q s x_s) : Bst q s (State.debugUnlock x_s x_scope x_sigOk) := by
  unfold State.debugUnlock
  repeat' first
    | (with_reducible first | assumption | exact Bst.refl _)
    | (show _ ≠ _; first | decide | omega | (simp only [keyB, keyC, keyCap, keySite, keyPc, keyA, keyG, keyBench, keyNode, keyEng, keyDma, keyLane, keyLink, keyStream, keyStack, keyPort, keyTpg, key, RBay.BAY_STATE, ne_eq, R.DEBUG_STATE]; omega) | (simp only [keyB, keyC, keyCap, keySite, keyPc, keyA, keyG, keyBench, keyNode, keyEng, keyDma, keyLane, keyLink, keyStream, keyStack, keyPort, keyTpg, key, RBay.BAY_STATE, ne_eq, R.DEBUG_STATE, List.mem_range, List.mem_cons, List.not_mem_nil, or_false] at *; omega) | (split <;> first | decide | (simp only [keyB, keyC, keyCap, keySite, keyPc, keyA, keyG, keyBench, keyNode, keyEng, keyDma, keyLane, keyLink, keyStream, keyStack, keyPort, keyTpg, key, RBay.BAY_STATE, ne_eq, R.DEBUG_STATE]; omega)))
    | (intro x_1; refine (fun hx : Bst q s x_1 => ?_) ?_; (clear_value x_1); rotate_left; (unfold x_1))
    | (intro x_1; clear_value x_1)
    | intro _
    | (with_reducible first | apply State.answer_bst | apply State.ok_bst | apply State.setTm_bst | apply State.setO_bst | apply State.zeroSlots_bst | apply State.dropGroupKey_bst | apply Bst.ite)
    | lift_lets -underBinder
    | (refine Bst.upd ?_)

theorem State.sign_bst {q : Bay} {s : State} {x_s : State} {x_g : Nat} {x_node : Nat} {x_records : Nat} {x_payload : Bytes} {x_m : Sample} (h_x_s : Bst q s x_s) : Bst q s (State.sign x_s x_g x_node x_records x_payload x_m) := by
  unfold State.sign
  repeat' first
    | (with_reducible first | assumption | exact Bst.refl _)
    | (show _ ≠ _; first | decide | omega | (simp only [keyB, keyC, keyCap, keySite, keyPc, keyA, keyG, keyBench, keyNode, keyEng, keyDma, keyLane, keyLink, keyStream, keyStack, keyPort, keyTpg, key, RBay.BAY_STATE, ne_eq, R.RESERVED_END, R.TM_BATCH_MAX, R.TM_COUNTER, R.TM_STATE]; omega) | (simp only [keyB, keyC, keyCap, keySite, keyPc, keyA, keyG, keyBench, keyNode, keyEng, keyDma, keyLane, keyLink, keyStream, keyStack, keyPort, keyTpg, key, RBay.BAY_STATE, ne_eq, R.RESERVED_END, R.TM_BATCH_MAX, R.TM_COUNTER, R.TM_STATE, List.mem_range, List.mem_cons, List.not_mem_nil, or_false] at *; omega) | (split <;> first | decide | (simp only [keyB, keyC, keyCap, keySite, keyPc, keyA, keyG, keyBench, keyNode, keyEng, keyDma, keyLane, keyLink, keyStream, keyStack, keyPort, keyTpg, key, RBay.BAY_STATE, ne_eq, R.RESERVED_END, R.TM_BATCH_MAX, R.TM_COUNTER, R.TM_STATE]; omega)))
    | (intro x_1; refine (fun hx : Bst q s x_1 => ?_) ?_; (clear_value x_1); rotate_left; (unfold x_1))
    | (intro x_1; clear_value x_1)
    | intro _
    | (with_reducible first | apply State.answer_bst | apply State.setO_bst | apply State.reserve_bst | apply State.answerBody_bst | apply Bst.ite)
    | lift_lets -underBinder
    | (refine Bst.upd ?_)

theorem execSelfTestRequest_bst {q : Bay} {s : State} {x_s : State} (h_x_s : Bst q s x_s) : BstN q s (execSelfTestRequest x_s) := by
  unfold execSelfTestRequest
  repeat' first
    | (with_reducible first | assumption | exact Bst.refl _ | apply State.hostFirm_bst | apply State.selfTest_bst | apply BstN.next | apply BstN.ite)

theorem execGroupKeyImport_bst {q : Bay} {s : State} {x_rec : Bytes} {x_key : Option (BitVec 256)} {x_smp : Sample} {x_s : State} (h_x_s : Bst q s x_s) : BstN q s (execGroupKeyImport x_rec x_key x_smp x_s) := by
  unfold execGroupKeyImport
  repeat' first
    | (with_reducible first | assumption | exact Bst.refl _)
    | intro _
    | (with_reducible first | apply State.hostFirm_bst | apply State.importKey_bst | apply BstN.next | apply BstN.ite)

theorem execCodeKeyWrite_bst {q : Bay} {s : State} {x_slot : Fin 8} {x_key : Bytes} {x_smp : Sample} {x_s : State} (h_x_s : Bst q s x_s) : BstN q s (execCodeKeyWrite x_slot x_key x_smp x_s) := by
  unfold execCodeKeyWrite
  repeat' first
    | (with_reducible first | assumption | exact Bst.refl _)
    | intro _
    | (with_reducible first | apply State.hostFirm_bst | apply State.writeCodeKey_bst | apply BstN.next | apply BstN.ite)

theorem execRoleAnchorWrite_bst {q : Bay} {s : State} {x_role : Role} {x_key : Bytes} {x_smp : Sample} {x_s : State} (h_x_s : Bst q s x_s) : BstN q s (execRoleAnchorWrite x_role x_key x_smp x_s) := by
  unfold execRoleAnchorWrite
  repeat' first
    | (with_reducible first | assumption | exact Bst.refl _)
    | intro _
    | (with_reducible first | apply State.hostFirm_bst | apply State.writeAnchor_bst | apply BstN.next | apply BstN.ite)

theorem execFwImage_bst {q : Bay} {s : State} {x_len : Nat} {x_sigOk : Bool} {x_release : BitVec 32} {x_rollback : BitVec 32} {x_s : State} (h_x_s : Bst q s x_s) : BstN q s (execFwImage x_len x_sigOk x_release x_rollback x_s) := by
  unfold execFwImage
  repeat' first
    | (with_reducible first | assumption | exact Bst.refl _)
    | intro _
    | (with_reducible first | apply State.hostFirm_bst | apply State.fwImage_bst | apply BstN.next | apply BstN.ite)

theorem execFwProgramComplete_bst {q : Bay} {s : State} {x_cut : Bool} {x_s : State} (h_x_s : Bst q s x_s) : BstN q s (execFwProgramComplete x_cut x_s) := by
  unfold execFwProgramComplete
  repeat' first
    | (with_reducible first | assumption | exact Bst.refl _ | apply State.fwProgrammed_bst | apply BstN.next | apply BstN.ite)

theorem execFwActiveSlotWrite_bst {q : Bay} {s : State} {x_slot : BitVec 8} {x_smp : Sample} {x_s : State} (h_x_s : Bst q s x_s) : BstN q s (execFwActiveSlotWrite x_slot x_smp x_s) := by
  unfold execFwActiveSlotWrite
  repeat' first
    | (with_reducible first | assumption | exact Bst.refl _)
    | intro _
    | (with_reducible first | apply State.hostFirm_bst | apply State.fwActive_bst | apply BstN.next | apply BstN.ite)

theorem execFwAccept_bst {q : Bay} {s : State} {x_value : BitVec 32} {x_smp : Sample} {x_s : State} (h_x_s : Bst q s x_s) : BstN q s (execFwAccept x_value x_smp x_s) := by
  unfold execFwAccept
  repeat' first
    | (with_reducible first | assumption | exact Bst.refl _)
    | intro _
    | (with_reducible first | apply State.hostFirm_bst | apply State.fwAccept_bst | apply BstN.next | apply BstN.ite)

theorem execTmRestartRequest_bst {q : Bay} {s : State} {x_verified : Bool} {x_s : State} (h_x_s : Bst q s x_s) : BstN q s (execTmRestartRequest x_verified x_s) := by
  unfold execTmRestartRequest
  repeat' first
    | (with_reducible first | assumption | exact Bst.refl _)
    | intro _
    | (with_reducible first | apply State.hostFirm_bst | apply State.tmRestart_bst | apply BstN.next | apply BstN.ite)

theorem execDebugUnlock_bst {q : Bay} {s : State} {x_scope : BitVec 8} {x_sigOk : Bool} {x_s : State} (h_x_s : Bst q s x_s) : BstN q s (execDebugUnlock x_scope x_sigOk x_s) := by
  unfold execDebugUnlock
  repeat' first
    | (with_reducible first | assumption | exact Bst.refl _)
    | intro _
    | (with_reducible first | apply State.hostFirm_bst | apply State.debugUnlock_bst | apply BstN.next | apply BstN.ite)

theorem execSlotZeroize_bst {q : Bay} {s : State} {x_slot : BitVec 8} {x_s : State} (h_x_s : Bst q s x_s) : BstN q s (execSlotZeroize x_slot x_s) := by
  unfold execSlotZeroize
  repeat' first
    | (with_reducible first | assumption | exact Bst.refl _)
    | intro _
    | (with_reducible first | apply State.hostFirm_bst | apply State.slotZeroize_bst | apply BstN.next | apply BstN.ite)

theorem execSignRequest_bst {q : Bay} {s : State} {x_g : Graph} {x_node : BitVec 8} {x_records : BitVec 32} {x_payload : Bytes} {x_smp : Sample} {x_s : State} (h_x_s : Bst q s x_s) : BstN q s (execSignRequest x_g x_node x_records x_payload x_smp x_s) := by
  unfold execSignRequest
  repeat' first
    | (with_reducible first | assumption | exact Bst.refl _ | apply State.sign_bst | apply BstN.next | apply BstN.ite)

theorem execReserveRetry_bst {q : Bay} {s : State} {x_smp : Sample} {x_s : State} (h_x_s : Bst q s x_s) : BstN q s (execReserveRetry x_smp x_s) := by
  unfold execReserveRetry
  repeat' first
    | (with_reducible first | assumption | exact Bst.refl _ | apply State.reserve_bst | apply State.advance_bst | exact BstO.none | apply BstO.some | apply BstO.ite | apply BstN.next | apply BstN.ite)
    | split
    | (refine Bst.upd ?_)

end Sys2Proof.Machine
end

