-- ==== Sys2Proof/Laws/BstAssay.lean ====
section
/-! SUPPORT. What the operations of Machine/Assay.lean keep. -/

set_option linter.all false

namespace Sys2Proof.Machine

theorem State.loadPath_bst {q : Bay} {s : State} {x_s : State} {x_c : Chan} {x_m : PathMeas} (h_x_s : Bst q s x_s) : Bst q s (State.loadPath x_s x_c x_m) := by
  unfold State.loadPath
  repeat' first
    | (with_reducible first | assumption | exact Bst.refl _)
    | (intro x_1; refine (fun hx : Bst q s x_1 => ?_) ?_; (clear_value x_1); rotate_left; (unfold x_1))
    | (intro x_1; clear_value x_1)
    | intro _
    | (with_reducible first | apply State.each_bst | apply State.setC_bst | apply State.fault_bst | apply State.flagC_bst | apply Bst.ite)
    | lift_lets -underBinder

theorem State.setResid_bst {q : Bay} {s : State} {x_s : State} {x_c : Chan} {x_r : List Int} (h_x_s : Bst q s x_s) : Bst q s (State.setResid x_s x_c x_r) := by
  unfold State.setResid
  repeat' first
    | (with_reducible first | assumption | exact Bst.refl _)
    | intro _
    | (with_reducible first | apply State.each_bst | apply State.setC_bst)

theorem State.showWorst_bst {q : Bay} {s : State} {x_s : State} {x_b : Bay} (h_x_s : Bst q s x_s) : Bst q s (State.showWorst x_s x_b) := by
  unfold State.showWorst
  repeat' first
    | (with_reducible first | assumption | exact Bst.refl _)
    | (show _ ≠ _; first | decide | omega | (simp only [keyB, keyC, keyCap, keySite, keyPc, keyA, keyG, keyBench, keyNode, keyEng, keyDma, keyLane, keyLink, keyStream, keyStack, keyPort, keyTpg, key, RBay.BAY_STATE, ne_eq, RAssay.WORST_RESIDUAL, RChan.RESID_TIMING]; omega) | (simp only [keyB, keyC, keyCap, keySite, keyPc, keyA, keyG, keyBench, keyNode, keyEng, keyDma, keyLane, keyLink, keyStream, keyStack, keyPort, keyTpg, key, RBay.BAY_STATE, ne_eq, RAssay.WORST_RESIDUAL, RChan.RESID_TIMING, List.mem_range, List.mem_cons, List.not_mem_nil, or_false] at *; omega) | (split <;> first | decide | (simp only [keyB, keyC, keyCap, keySite, keyPc, keyA, keyG, keyBench, keyNode, keyEng, keyDma, keyLane, keyLink, keyStream, keyStack, keyPort, keyTpg, key, RBay.BAY_STATE, ne_eq, RAssay.WORST_RESIDUAL, RChan.RESID_TIMING]; omega)))
    | (intro x_1; refine (fun hx : Bst q s x_1 => ?_) ?_; (clear_value x_1); rotate_left; (unfold x_1))
    | (intro x_1; clear_value x_1)
    | intro _
    | (with_reducible first | apply State.setO_bst | apply Bst.ite | apply Bst.foldl)
    | lift_lets -underBinder

theorem State.calibrated_bst {q : Bay} {s : State} {x_s : State} {x_c : Chan} (h_x_s : Bst q s x_s) : Bst q s (State.calibrated x_s x_c) := by
  unfold State.calibrated
  repeat' first
    | (with_reducible first | assumption | exact Bst.refl _)
    | (intro x_1; refine (fun hx : Bst q s x_1 => ?_) ?_; (clear_value x_1); rotate_left; (unfold x_1))
    | (intro x_1; clear_value x_1)
    | intro _
    | with_reducible apply State.setC_bst
    | lift_lets -underBinder

theorem State.rollStart_bst {q : Bay} {s : State} {x_s : State} {x_b : Bay} (h_x_s : Bst q s x_s) : Bst q s (State.rollStart x_s x_b) := by
  unfold State.rollStart
  repeat' first
    | (with_reducible first | assumption | exact Bst.refl _)
    | (show _ ≠ _; first | decide | omega | (simp only [keyB, keyC, keyCap, keySite, keyPc, keyA, keyG, keyBench, keyNode, keyEng, keyDma, keyLane, keyLink, keyStream, keyStack, keyPort, keyTpg, key, RBay.BAY_STATE, ne_eq, RAssay.ROLL_PATH, RAssay.ROLL_STATE, RS.CALIBRATING, RS.RETURNING, RS.SHADOWING]; omega) | (simp only [keyB, keyC, keyCap, keySite, keyPc, keyA, keyG, keyBench, keyNode, keyEng, keyDma, keyLane, keyLink, keyStream, keyStack, keyPort, keyTpg, key, RBay.BAY_STATE, ne_eq, RAssay.ROLL_PATH, RAssay.ROLL_STATE, RS.CALIBRATING, RS.RETURNING, RS.SHADOWING, List.mem_range, List.mem_cons, List.not_mem_nil, or_false] at *; omega) | (split <;> first | decide | (simp only [keyB, keyC, keyCap, keySite, keyPc, keyA, keyG, keyBench, keyNode, keyEng, keyDma, keyLane, keyLink, keyStream, keyStack, keyPort, keyTpg, key, RBay.BAY_STATE, ne_eq, RAssay.ROLL_PATH, RAssay.ROLL_STATE, RS.CALIBRATING, RS.RETURNING, RS.SHADOWING]; omega)))
    | (intro x_1; refine (fun hx : Bst q s x_1 => ?_) ?_; (clear_value x_1); rotate_left; (unfold x_1))
    | (intro x_1; clear_value x_1)
    | intro _
    | (with_reducible first | apply State.setO_bst | apply State.modRoll_bst | exact BstO.none | apply BstO.some | apply BstO.ite | apply Bst.ite | apply Bst.dite)
    | lift_lets -underBinder
    | (refine Bst.upd ?_)

theorem State.rollStep_bst {q : Bay} {s : State} {x_s : State} {x_b : Bay} (h_x_s : Bst q s x_s) : Bst q s (State.rollStep x_s x_b) := by
  unfold State.rollStep
  repeat' first
    | (with_reducible first | assumption | exact Bst.refl _)
    | (intro x_1; refine (fun hx : Bst q s x_1 => ?_) ?_; (clear_value x_1); rotate_left; (unfold x_1))
    | (intro x_1; clear_value x_1)
    | intro _
    | (with_reducible first | apply State.advance_bst | apply State.claimSpare_bst | apply State.rollStart_bst | apply State.flagC_bst | apply State.stepOver_bst | apply Bst.ite | apply Bst.dite)
    | lift_lets -underBinder

theorem State.toSpare_bst {q : Bay} {s : State} {x_s : State} {x_b : Bay} {x_k : Fin 16} (h_x_s : Bst q s x_s) : Bst q s (State.toSpare x_s x_b x_k) := by
  unfold State.toSpare
  repeat' first
    | (with_reducible first | assumption | exact Bst.refl _)
    | (show _ ≠ _; first | decide | omega | (simp only [keyB, keyC, keyCap, keySite, keyPc, keyA, keyG, keyBench, keyNode, keyEng, keyDma, keyLane, keyLink, keyStream, keyStack, keyPort, keyTpg, key, RBay.BAY_STATE, ne_eq, RAssay.ROLL_STATE, RChan.SELECTOR, RS.CALIBRATING, RS.SUSPENDED]; omega) | (simp only [keyB, keyC, keyCap, keySite, keyPc, keyA, keyG, keyBench, keyNode, keyEng, keyDma, keyLane, keyLink, keyStream, keyStack, keyPort, keyTpg, key, RBay.BAY_STATE, ne_eq, RAssay.ROLL_STATE, RChan.SELECTOR, RS.CALIBRATING, RS.SUSPENDED, List.mem_range, List.mem_cons, List.not_mem_nil, or_false] at *; omega) | (split <;> first | decide | (simp only [keyB, keyC, keyCap, keySite, keyPc, keyA, keyG, keyBench, keyNode, keyEng, keyDma, keyLane, keyLink, keyStream, keyStack, keyPort, keyTpg, key, RBay.BAY_STATE, ne_eq, RAssay.ROLL_STATE, RChan.SELECTOR, RS.CALIBRATING, RS.SUSPENDED]; omega)))
    | (intro x_1; refine (fun hx : Bst q s x_1 => ?_) ?_; (clear_value x_1); rotate_left; (unfold x_1))
    | (intro x_1; clear_value x_1)
    | intro _
    | (with_reducible first | apply State.modRoll_bst | apply State.setC_bst | apply State.setO_bst | apply Bst.ite)
    | lift_lets -underBinder
    | (refine Bst.upd ?_)

theorem State.toOwn_bst {q : Bay} {s : State} {x_s : State} {x_b : Bay} {x_k : Fin 16} (h_x_s : Bst q s x_s) : Bst q s (State.toOwn x_s x_b x_k) := by
  unfold State.toOwn
  repeat' first
    | (with_reducible first | assumption | exact Bst.refl _)
    | (show _ ≠ _; first | decide | omega | (simp only [keyB, keyC, keyCap, keySite, keyPc, keyA, keyG, keyBench, keyNode, keyEng, keyDma, keyLane, keyLink, keyStream, keyStack, keyPort, keyTpg, key, RBay.BAY_STATE, ne_eq, RAssay.ROLL_STATE, RS.SUSPENDED]; omega) | (simp only [keyB, keyC, keyCap, keySite, keyPc, keyA, keyG, keyBench, keyNode, keyEng, keyDma, keyLane, keyLink, keyStream, keyStack, keyPort, keyTpg, key, RBay.BAY_STATE, ne_eq, RAssay.ROLL_STATE, RS.SUSPENDED, List.mem_range, List.mem_cons, List.not_mem_nil, or_false] at *; omega) | (split <;> first | decide | (simp only [keyB, keyC, keyCap, keySite, keyPc, keyA, keyG, keyBench, keyNode, keyEng, keyDma, keyLane, keyLink, keyStream, keyStack, keyPort, keyTpg, key, RBay.BAY_STATE, ne_eq, RAssay.ROLL_STATE, RS.SUSPENDED]; omega)))
    | (intro x_1; refine (fun hx : Bst q s x_1 => ?_) ?_; (clear_value x_1); rotate_left; (unfold x_1))
    | (intro x_1; clear_value x_1)
    | intro _
    | (with_reducible first | apply State.ownPath_bst | apply State.modRoll_bst | apply State.setO_bst | apply State.freeClaim_bst | apply State.stepOver_bst | apply State.showWorst_bst | apply State.calibrated_bst | apply State.setResid_bst | apply Bst.ite)
    | lift_lets -underBinder
    | (refine Bst.upd ?_)

theorem State.mismatch_bst {q : Bay} {s : State} {x_s : State} {x_b : Bay} {x_k : Fin 16} (h_x_s : Bst q s x_s) : Bst q s (State.mismatch x_s x_b x_k) := by
  unfold State.mismatch
  repeat' first
    | (with_reducible first | assumption | exact Bst.refl _)
    | (show _ ≠ _; first | decide | omega | (simp only [keyB, keyC, keyCap, keySite, keyPc, keyA, keyG, keyBench, keyNode, keyEng, keyDma, keyLane, keyLink, keyStream, keyStack, keyPort, keyTpg, key, RBay.BAY_STATE, ne_eq, RAssay.ROLL_STATE, RAssay.STEP_ABORTS]; omega) | (simp only [keyB, keyC, keyCap, keySite, keyPc, keyA, keyG, keyBench, keyNode, keyEng, keyDma, keyLane, keyLink, keyStream, keyStack, keyPort, keyTpg, key, RBay.BAY_STATE, ne_eq, RAssay.ROLL_STATE, RAssay.STEP_ABORTS, List.mem_range, List.mem_cons, List.not_mem_nil, or_false] at *; omega) | (split <;> first | decide | (simp only [keyB, keyC, keyCap, keySite, keyPc, keyA, keyG, keyBench, keyNode, keyEng, keyDma, keyLane, keyLink, keyStream, keyStack, keyPort, keyTpg, key, RBay.BAY_STATE, ne_eq, RAssay.ROLL_STATE, RAssay.STEP_ABORTS]; omega)))
    | (intro x_1; refine (fun hx : Bst q s x_1 => ?_) ?_; (clear_value x_1); rotate_left; (unfold x_1))
    | (intro x_1; clear_value x_1)
    | intro _
    | (with_reducible first | apply State.fault_bst | apply State.incO_bst | apply State.setO_bst | apply State.stepOver_bst | apply State.ownPath_bst | apply Bst.ite)
    | lift_lets -underBinder
    | split

theorem State.handover_bst {q : Bay} {s : State} {x_s : State} {x_b : Bay} {x_codesEqual : Bool} {x_clear : Bool} (h_x_s : Bst q s x_s) : Bst q s (State.handover x_s x_b x_codesEqual x_clear) := by
  unfold State.handover
  repeat' first
    | (with_reducible first | assumption | exact Bst.refl _)
    | (intro x_1; refine (fun hx : Bst q s x_1 => ?_) ?_; (clear_value x_1); rotate_left; (unfold x_1))
    | (intro x_1; clear_value x_1)
    | intro _
    | (with_reducible first | apply State.mismatch_bst | apply State.toOwn_bst | apply State.toSpare_bst | exact BstO.none | apply BstO.some | apply BstO.ite | apply Bst.ite)
    | lift_lets -underBinder
    | split
    | (refine Bst.upd ?_)

theorem State.pathCalibrated_bst {q : Bay} {s : State} {x_s : State} {x_b : Bay} {x_m : PathMeas} (h_x_s : Bst q s x_s) : Bst q s (State.pathCalibrated x_s x_b x_m) := by
  unfold State.pathCalibrated
  repeat' first
    | (with_reducible first | assumption | exact Bst.refl _)
    | (show _ ≠ _; first | decide | omega | (simp only [keyB, keyC, keyCap, keySite, keyPc, keyA, keyG, keyBench, keyNode, keyEng, keyDma, keyLane, keyLink, keyStream, keyStack, keyPort, keyTpg, key, RBay.BAY_STATE, ne_eq, RAssay.ROLL_STATE, RBay.SP_DESKEW, RS.CALIBRATING, RS.RETURNING]; omega) | (simp only [keyB, keyC, keyCap, keySite, keyPc, keyA, keyG, keyBench, keyNode, keyEng, keyDma, keyLane, keyLink, keyStream, keyStack, keyPort, keyTpg, key, RBay.BAY_STATE, ne_eq, RAssay.ROLL_STATE, RBay.SP_DESKEW, RS.CALIBRATING, RS.RETURNING, List.mem_range, List.mem_cons, List.not_mem_nil, or_false] at *; omega) | (split <;> first | decide | (simp only [keyB, keyC, keyCap, keySite, keyPc, keyA, keyG, keyBench, keyNode, keyEng, keyDma, keyLane, keyLink, keyStream, keyStack, keyPort, keyTpg, key, RBay.BAY_STATE, ne_eq, RAssay.ROLL_STATE, RBay.SP_DESKEW, RS.CALIBRATING, RS.RETURNING]; omega)))
    | (intro x_1; refine (fun hx : Bst q s x_1 => ?_) ?_; (clear_value x_1); rotate_left; (unfold x_1))
    | (intro x_1; clear_value x_1)
    | intro _
    | (with_reducible first | apply State.loadPath_bst | apply State.setO_bst | apply State.modRoll_bst | apply State.each_bst | apply State.setB_bst | apply State.stepOver_bst | exact BstO.none | apply BstO.some | apply BstO.ite | apply Bst.ite)
    | lift_lets -underBinder
    | split
    | (refine Bst.upd ?_)

theorem State.handTimeout_bst {q : Bay} {s : State} {x_s : State} {x_b : Bay} (h_x_s : Bst q s x_s) : Bst q s (State.handTimeout x_s x_b) := by
  unfold State.handTimeout
  repeat' first
    | (with_reducible first | assumption | exact Bst.refl _)
    | (show _ ≠ _; first | decide | omega | (simp only [keyB, keyC, keyCap, keySite, keyPc, keyA, keyG, keyBench, keyNode, keyEng, keyDma, keyLane, keyLink, keyStream, keyStack, keyPort, keyTpg, key, RBay.BAY_STATE, ne_eq, R.HANDOVER_WAIT, R.ROLL_INTERVAL, RAssay.HANDOVER_TIMEOUTS, RAssay.ROLL_STATE, RS.RETURNING, RS.SHADOWING]; omega) | (simp only [keyB, keyC, keyCap, keySite, keyPc, keyA, keyG, keyBench, keyNode, keyEng, keyDma, keyLane, keyLink, keyStream, keyStack, keyPort, keyTpg, key, RBay.BAY_STATE, ne_eq, R.HANDOVER_WAIT, R.ROLL_INTERVAL, RAssay.HANDOVER_TIMEOUTS, RAssay.ROLL_STATE, RS.RETURNING, RS.SHADOWING, List.mem_range, List.mem_cons, List.not_mem_nil, or_false] at *; omega) | (split <;> first | decide | (simp only [keyB, keyC, keyCap, keySite, keyPc, keyA, keyG, keyBench, keyNode, keyEng, keyDma, keyLane, keyLink, keyStream, keyStack, keyPort, keyTpg, key, RBay.BAY_STATE, ne_eq, R.HANDOVER_WAIT, R.ROLL_INTERVAL, RAssay.HANDOVER_TIMEOUTS, RAssay.ROLL_STATE, RS.RETURNING, RS.SHADOWING]; omega)))
    | (intro x_1; refine (fun hx : Bst q s x_1 => ?_) ?_; (clear_value x_1); rotate_left; (unfold x_1))
    | (intro x_1; clear_value x_1)
    | intro _
    | (with_reducible first | apply State.advance_bst | apply State.incO_bst | apply State.stepOver_bst | apply State.ownPath_bst | apply State.setO_bst | apply State.modRoll_bst | apply Bst.ite)
    | lift_lets -underBinder
    | (refine Bst.upd ?_)

theorem State.rollHold_bst {q : Bay} {s : State} {x_s : State} {x_b : Bay} (h_x_s : Bst q s x_s) : Bst q s (State.rollHold x_s x_b) := by
  unfold State.rollHold
  repeat' first
    | (with_reducible first | assumption | exact Bst.refl _)
    | (show _ ≠ _; first | decide | omega | (simp only [keyB, keyC, keyCap, keySite, keyPc, keyA, keyG, keyBench, keyNode, keyEng, keyDma, keyLane, keyLink, keyStream, keyStack, keyPort, keyTpg, key, RBay.BAY_STATE, ne_eq, RAssay.ROLL_STATE, RS.PAUSED, RS.SHADOWING, RS.WAITING]; omega) | (simp only [keyB, keyC, keyCap, keySite, keyPc, keyA, keyG, keyBench, keyNode, keyEng, keyDma, keyLane, keyLink, keyStream, keyStack, keyPort, keyTpg, key, RBay.BAY_STATE, ne_eq, RAssay.ROLL_STATE, RS.PAUSED, RS.SHADOWING, RS.WAITING, List.mem_range, List.mem_cons, List.not_mem_nil, or_false] at *; omega) | (split <;> first | decide | (simp only [keyB, keyC, keyCap, keySite, keyPc, keyA, keyG, keyBench, keyNode, keyEng, keyDma, keyLane, keyLink, keyStream, keyStack, keyPort, keyTpg, key, RBay.BAY_STATE, ne_eq, RAssay.ROLL_STATE, RS.PAUSED, RS.SHADOWING, RS.WAITING]; omega)))
    | (with_reducible first | apply State.setO_bst | apply State.ownPath_bst | apply Bst.ite)

theorem State.rollPause_bst {q : Bay} {s : State} {x_s : State} {x_b : Bay} {x_on : Bool} (h_x_s : Bst q s x_s) : Bst q s (State.rollPause x_s x_b x_on) := by
  unfold State.rollPause
  repeat' first
    | (with_reducible first | assumption | exact Bst.refl _)
    | (show _ ≠ _; first | decide | omega | (simp only [keyB, keyC, keyCap, keySite, keyPc, keyA, keyG, keyBench, keyNode, keyEng, keyDma, keyLane, keyLink, keyStream, keyStack, keyPort, keyTpg, key, RBay.BAY_STATE, ne_eq, RAssay.ROLL_PAUSE, RS.PAUSED]; omega) | (simp only [keyB, keyC, keyCap, keySite, keyPc, keyA, keyG, keyBench, keyNode, keyEng, keyDma, keyLane, keyLink, keyStream, keyStack, keyPort, keyTpg, key, RBay.BAY_STATE, ne_eq, RAssay.ROLL_PAUSE, RS.PAUSED, List.mem_range, List.mem_cons, List.not_mem_nil, or_false] at *; omega) | (split <;> first | decide | (simp only [keyB, keyC, keyCap, keySite, keyPc, keyA, keyG, keyBench, keyNode, keyEng, keyDma, keyLane, keyLink, keyStream, keyStack, keyPort, keyTpg, key, RBay.BAY_STATE, ne_eq, RAssay.ROLL_PAUSE, RS.PAUSED]; omega)))
    | (intro x_1; refine (fun hx : Bst q s x_1 => ?_) ?_; (clear_value x_1); rotate_left; (unfold x_1))
    | (intro x_1; clear_value x_1)
    | intro _
    | (with_reducible first | apply State.setO_bst | apply State.ok_bst | apply State.rollHold_bst | apply Bst.ite)
    | lift_lets -underBinder

theorem State.rollEnable_bst {q : Bay} {s : State} {x_s : State} {x_b : Bay} {x_on : Bool} (h_x_s : Bst q s x_s) : Bst q s (State.rollEnable x_s x_b x_on) := by
  unfold State.rollEnable
  repeat' first
    | (with_reducible first | assumption | exact Bst.refl _)
    | (show _ ≠ _; first | decide | omega | (simp only [keyB, keyC, keyCap, keySite, keyPc, keyA, keyG, keyBench, keyNode, keyEng, keyDma, keyLane, keyLink, keyStream, keyStack, keyPort, keyTpg, key, RBay.BAY_STATE, ne_eq, RAssay.ROLL_ENABLE]; omega) | (simp only [keyB, keyC, keyCap, keySite, keyPc, keyA, keyG, keyBench, keyNode, keyEng, keyDma, keyLane, keyLink, keyStream, keyStack, keyPort, keyTpg, key, RBay.BAY_STATE, ne_eq, RAssay.ROLL_ENABLE, List.mem_range, List.mem_cons, List.not_mem_nil, or_false] at *; omega) | (split <;> first | decide | (simp only [keyB, keyC, keyCap, keySite, keyPc, keyA, keyG, keyBench, keyNode, keyEng, keyDma, keyLane, keyLink, keyStream, keyStack, keyPort, keyTpg, key, RBay.BAY_STATE, ne_eq, RAssay.ROLL_ENABLE]; omega)))
    | (intro x_1; refine (fun hx : Bst q s x_1 => ?_) ?_; (clear_value x_1); rotate_left; (unfold x_1))
    | (intro x_1; clear_value x_1)
    | intro _
    | (with_reducible first | apply State.answerD_bst | apply State.ok_bst | apply State.setO_bst | apply State.startRounds_bst | apply State.claimSpare_bst | apply State.rollHold_bst | apply State.freeClaim_bst | exact BstO.none | apply BstO.some | apply BstO.ite | apply Bst.ite)
    | lift_lets -underBinder
    | split
    | (refine Bst.upd ?_)

theorem State.manualTarget_bst {q : Bay} {s : State} {x_s : State} {x_b : Bay} {x_v : Nat} (h_x_s : Bst q s x_s) : Bst q s (State.manualTarget x_s x_b x_v) := by
  unfold State.manualTarget
  repeat' first
    | (with_reducible first | assumption | exact Bst.refl _)
    | (show _ ≠ _; first | decide | omega | (simp only [keyB, keyC, keyCap, keySite, keyPc, keyA, keyG, keyBench, keyNode, keyEng, keyDma, keyLane, keyLink, keyStream, keyStack, keyPort, keyTpg, key, RBay.BAY_STATE, ne_eq, RAssay.MANUAL_TARGET, RAssay.ROLL_STATE, RS.SUSPENDED]; omega) | (simp only [keyB, keyC, keyCap, keySite, keyPc, keyA, keyG, keyBench, keyNode, keyEng, keyDma, keyLane, keyLink, keyStream, keyStack, keyPort, keyTpg, key, RBay.BAY_STATE, ne_eq, RAssay.MANUAL_TARGET, RAssay.ROLL_STATE, RS.SUSPENDED, List.mem_range, List.mem_cons, List.not_mem_nil, or_false] at *; omega) | (split <;> first | decide | (simp only [keyB, keyC, keyCap, keySite, keyPc, keyA, keyG, keyBench, keyNode, keyEng, keyDma, keyLane, keyLink, keyStream, keyStack, keyPort, keyTpg, key, RBay.BAY_STATE, ne_eq, RAssay.MANUAL_TARGET, RAssay.ROLL_STATE, RS.SUSPENDED]; omega)))
    | (intro x_1; refine (fun hx : Bst q s x_1 => ?_) ?_; (clear_value x_1); rotate_left; (unfold x_1))
    | (intro x_1; clear_value x_1)
    | intro _
    | (with_reducible first | apply State.answer_bst | apply State.ok_bst | apply State.setO_bst | apply State.answerD_bst | apply State.modRoll_bst | apply State.freeClaim_bst | apply State.claimSpare_bst | exact BstO.none | apply BstO.some | apply BstO.ite | apply Bst.ite | apply Bst.dite)
    | lift_lets -underBinder
    | split
    | (refine Bst.upd ?_)

theorem State.storeRecord_bst {q : Bay} {s : State} {x_s : State} {x_kind : Nat} {x_b : Bay} (h_x_s : Bst q s x_s) : Bst q s (State.storeRecord x_s x_kind x_b) := by
  unfold State.storeRecord
  repeat' first
    | (with_reducible first | assumption | exact Bst.refl _)
    | (intro x_1; refine (fun hx : Bst q s x_1 => ?_) ?_; (clear_value x_1); rotate_left; (unfold x_1))
    | (intro x_1; clear_value x_1)
    | intro _
    | (with_reducible first | apply State.ledgerPut_bst | apply State.modRoll_bst | exact BstO.none | apply BstO.some | apply BstO.ite | apply Bst.ite)
    | lift_lets -underBinder
    | split
    | (refine Bst.upd ?_)

theorem State.assayCommit_bst {q : Bay} {s : State} {x_s : State} {x_kind : Nat} {x_unit : Nat} {x_m : Sample} (h_x_s : Bst q s x_s) : Bst q s (State.assayCommit x_s x_kind x_unit x_m) := by
  unfold State.assayCommit
  repeat' first
    | (with_reducible first | assumption | exact Bst.refl _)
    | (show _ ≠ _; first | decide | omega | (simp only [keyB, keyC, keyCap, keySite, keyPc, keyA, keyG, keyBench, keyNode, keyEng, keyDma, keyLane, keyLink, keyStream, keyStack, keyPort, keyTpg, key, RBay.BAY_STATE, ne_eq, R.LEDGER_STATE]; omega) | (simp only [keyB, keyC, keyCap, keySite, keyPc, keyA, keyG, keyBench, keyNode, keyEng, keyDma, keyLane, keyLink, keyStream, keyStack, keyPort, keyTpg, key, RBay.BAY_STATE, ne_eq, R.LEDGER_STATE, List.mem_range, List.mem_cons, List.not_mem_nil, or_false] at *; omega) | (split <;> first | decide | (simp only [keyB, keyC, keyCap, keySite, keyPc, keyA, keyG, keyBench, keyNode, keyEng, keyDma, keyLane, keyLink, keyStream, keyStack, keyPort, keyTpg, key, RBay.BAY_STATE, ne_eq, R.LEDGER_STATE]; omega)))
    | (intro x_1; refine (fun hx : Bst q s x_1 => ?_) ?_; (clear_value x_1); rotate_left; (unfold x_1))
    | (intro x_1; clear_value x_1)
    | intro _
    | (with_reducible first | apply State.innerCommit_bst | apply State.ledgerWrite_bst | apply State.storeRecord_bst | apply State.setO_bst | exact BstO.none | apply BstO.some | apply BstO.ite | apply Bst.ite | apply Bst.dite)
    | lift_lets -underBinder
    | (refine Bst.upd ?_)

theorem State.ledgerCommit_bst {q : Bay} {s : State} {x_s : State} {x_m : Sample} (h_x_s : Bst q s x_s) : Bst q s (State.ledgerCommit x_s x_m) := by
  unfold State.ledgerCommit
  repeat' first
    | (with_reducible first | assumption | exact Bst.refl _ | apply State.assayCommit_bst)
    | split
    | (refine Bst.upd ?_)

theorem State.ledgerInterval_bst {q : Bay} {s : State} {x_s : State} {x_b : Bay} (h_x_s : Bst q s x_s) : Bst q s (State.ledgerInterval x_s x_b) := by
  unfold State.ledgerInterval
  repeat' first
    | (with_reducible first | assumption | exact Bst.refl _)
    | (intro x_1; refine (fun hx : Bst q s x_1 => ?_) ?_; (clear_value x_1); rotate_left; (unfold x_1))
    | (intro x_1; clear_value x_1)
    | intro _
    | (with_reducible first | apply State.advance_bst | apply Bst.ite)
    | lift_lets -underBinder
    | (refine Bst.upd ?_)

theorem State.ledgerRetried_bst {q : Bay} {s : State} {x_s : State} (h_x_s : Bst q s x_s) : Bst q s (State.ledgerRetried x_s) := by
  unfold State.ledgerRetried
  repeat' first
    | (with_reducible first | assumption | exact Bst.refl _)
    | (intro x_1; refine (fun hx : Bst q s x_1 => ?_) ?_; (clear_value x_1); rotate_left; (unfold x_1))
    | (intro x_1; clear_value x_1)
    | intro _
    | (with_reducible first | apply State.advance_bst | exact BstO.none | apply BstO.some | apply BstO.ite)
    | lift_lets -underBinder
    | split
    | (refine Bst.upd ?_)

theorem State.tmuAssay_bst {q : Bay} {s : State} {x_s : State} {x_b : Bay} (h_x_s : Bst q s x_s) : Bst q s (State.tmuAssay x_s x_b) := by
  unfold State.tmuAssay
  repeat' first
    | (with_reducible first | assumption | exact Bst.refl _)
    | intro _
    | (with_reducible first | apply State.modTmu_bst | apply Bst.ite)
    | (refine Bst.upd ?_)

theorem State.tmuAssayed_bst {q : Bay} {s : State} {x_s : State} {x_b : Bay} {x_residual : Nat} (h_x_s : Bst q s x_s) : Bst q s (State.tmuAssayed x_s x_b x_residual) := by
  unfold State.tmuAssayed
  repeat' first
    | (with_reducible first | assumption | exact Bst.refl _)
    | (show _ ≠ _; first | decide | omega | (simp only [keyB, keyC, keyCap, keySite, keyPc, keyA, keyG, keyBench, keyNode, keyEng, keyDma, keyLane, keyLink, keyStream, keyStack, keyPort, keyTpg, key, RBay.BAY_STATE, ne_eq, RBay.INL_RESIDUAL, RBay.WARM_STATE]; omega) | (simp only [keyB, keyC, keyCap, keySite, keyPc, keyA, keyG, keyBench, keyNode, keyEng, keyDma, keyLane, keyLink, keyStream, keyStack, keyPort, keyTpg, key, RBay.BAY_STATE, ne_eq, RBay.INL_RESIDUAL, RBay.WARM_STATE, List.mem_range, List.mem_cons, List.not_mem_nil, or_false] at *; omega) | (split <;> first | decide | (simp only [keyB, keyC, keyCap, keySite, keyPc, keyA, keyG, keyBench, keyNode, keyEng, keyDma, keyLane, keyLink, keyStream, keyStack, keyPort, keyTpg, key, RBay.BAY_STATE, ne_eq, RBay.INL_RESIDUAL, RBay.WARM_STATE]; omega)))
    | (intro x_1; refine (fun hx : Bst q s x_1 => ?_) ?_; (clear_value x_1); rotate_left; (unfold x_1))
    | (intro x_1; clear_value x_1)
    | intro _
    | (with_reducible first | apply State.modTmu_bst | apply State.setB_bst | exact BstO.none | apply BstO.some | apply BstO.ite | apply Bst.ite)
    | lift_lets -underBinder
    | (refine Bst.upd ?_)
    | (refine Bst.upd ?_)

theorem State.bayAssay_bst {q : Bay} {s : State} {x_s : State} {x_b : Bay} (h_x_s : Bst q s x_s) : Bst q s (State.bayAssay x_s x_b) := by
  unfold State.bayAssay
  repeat' first
    | (with_reducible first | assumption | exact Bst.refl _)
    | (show _ ≠ _; first | decide | omega | (simp only [keyB, keyC, keyCap, keySite, keyPc, keyA, keyG, keyBench, keyNode, keyEng, keyDma, keyLane, keyLink, keyStream, keyStack, keyPort, keyTpg, key, RBay.BAY_STATE, ne_eq, RAssay.BAY_ASSAY_STATUS]; omega) | (simp only [keyB, keyC, keyCap, keySite, keyPc, keyA, keyG, keyBench, keyNode, keyEng, keyDma, keyLane, keyLink, keyStream, keyStack, keyPort, keyTpg, key, RBay.BAY_STATE, ne_eq, RAssay.BAY_ASSAY_STATUS, List.mem_range, List.mem_cons, List.not_mem_nil, or_false] at *; omega) | (split <;> first | decide | (simp only [keyB, keyC, keyCap, keySite, keyPc, keyA, keyG, keyBench, keyNode, keyEng, keyDma, keyLane, keyLink, keyStream, keyStack, keyPort, keyTpg, key, RBay.BAY_STATE, ne_eq, RAssay.BAY_ASSAY_STATUS]; omega)))
    | (with_reducible first | apply State.answer_bst | apply State.ok_bst | apply State.tmuAssay_bst | apply State.setO_bst | apply Bst.ite)

theorem State.assayChan_bst {q : Bay} {s : State} {x_s : State} {x_b : Bay} {x_k : Fin 16} {x_r : BayAssayResult} (h_x_s : Bst q s x_s) : Bst q s (State.assayChan x_s x_b x_k x_r) := by
  unfold State.assayChan
  repeat' first
    | (with_reducible first | assumption | exact Bst.refl _)
    | (intro x_1; refine (fun hx : Bst q s x_1 => ?_) ?_; (clear_value x_1); rotate_left; (unfold x_1))
    | (intro x_1; clear_value x_1)
    | intro _
    | (with_reducible first | apply State.each_bst | apply State.calibrated_bst | apply State.setResid_bst | apply State.loadPath_bst | apply State.setC_bst | apply Bst.ite)
    | lift_lets -underBinder

theorem State.refLevels_bst {q : Bay} {s : State} {x_s : State} {x_b : Bay} (h_x_s : Bst q s x_s) : Bst q s (State.refLevels x_s x_b) := by
  unfold State.refLevels
  repeat' first
    | (with_reducible first | assumption | exact Bst.refl _)
    | intro _
    | (with_reducible first | apply State.modRef_bst)
    | (refine Bst.upd ?_)

theorem State.bayAssayed_bst {q : Bay} {s : State} {x_s : State} {x_b : Bay} {x_r : BayAssayResult} {x_m : Sample} (h_x_s : Bst q s x_s) : Bst q s (State.bayAssayed x_s x_b x_r x_m) := by
  unfold State.bayAssayed
  repeat' first
    | (with_reducible first | assumption | exact Bst.refl _)
    | (show _ ≠ _; first | decide | omega | (simp only [keyB, keyC, keyCap, keySite, keyPc, keyA, keyG, keyBench, keyNode, keyEng, keyDma, keyLane, keyLink, keyStream, keyStack, keyPort, keyTpg, key, RBay.BAY_STATE, ne_eq, RAssay.ASSAY_TEMP, RAssay.BAY_ASSAY_STATUS, RAssay.WINDOW_STATE, RBay.SP_DESKEW]; omega) | (simp only [keyB, keyC, keyCap, keySite, keyPc, keyA, keyG, keyBench, keyNode, keyEng, keyDma, keyLane, keyLink, keyStream, keyStack, keyPort, keyTpg, key, RBay.BAY_STATE, ne_eq, RAssay.ASSAY_TEMP, RAssay.BAY_ASSAY_STATUS, RAssay.WINDOW_STATE, RBay.SP_DESKEW, List.mem_range, List.mem_cons, List.not_mem_nil, or_false] at *; omega) | (split <;> first | decide | (simp only [keyB, keyC, keyCap, keySite, keyPc, keyA, keyG, keyBench, keyNode, keyEng, keyDma, keyLane, keyLink, keyStream, keyStack, keyPort, keyTpg, key, RBay.BAY_STATE, ne_eq, RAssay.ASSAY_TEMP, RAssay.BAY_ASSAY_STATUS, RAssay.WINDOW_STATE, RBay.SP_DESKEW]; omega)))
    | (intro x_1; refine (fun hx : Bst q s x_1 => ?_) ?_; (clear_value x_1); rotate_left; (unfold x_1))
    | (intro x_1; clear_value x_1)
    | intro _
    | (with_reducible first | apply State.each_bst | apply State.assayChan_bst | apply State.setB_bst | apply State.refLevels_bst | apply State.showWorst_bst | apply State.unresolve_bst | apply State.setO_bst | apply State.assayCommit_bst | apply Bst.ite)
    | lift_lets -underBinder
    | split
    | dsimp only
    | (refine Bst.upd ?_)

theorem State.windowTemp_bst {q : Bay} {s : State} {x_s : State} {x_b : Bay} {x_temp : Int} (h_x_s : Bst q s x_s) : Bst q s (State.windowTemp x_s x_b x_temp) := by
  unfold State.windowTemp
  repeat' first
    | (with_reducible first | assumption | exact Bst.refl _)
    | (show _ ≠ _; first | decide | omega | (simp only [keyB, keyC, keyCap, keySite, keyPc, keyA, keyG, keyBench, keyNode, keyEng, keyDma, keyLane, keyLink, keyStream, keyStack, keyPort, keyTpg, key, RBay.BAY_STATE, ne_eq, RAssay.WINDOW_STATE]; omega) | (simp only [keyB, keyC, keyCap, keySite, keyPc, keyA, keyG, keyBench, keyNode, keyEng, keyDma, keyLane, keyLink, keyStream, keyStack, keyPort, keyTpg, key, RBay.BAY_STATE, ne_eq, RAssay.WINDOW_STATE, List.mem_range, List.mem_cons, List.not_mem_nil, or_false] at *; omega) | (split <;> first | decide | (simp only [keyB, keyC, keyCap, keySite, keyPc, keyA, keyG, keyBench, keyNode, keyEng, keyDma, keyLane, keyLink, keyStream, keyStack, keyPort, keyTpg, key, RBay.BAY_STATE, ne_eq, RAssay.WINDOW_STATE]; omega)))
    | (intro x_1; refine (fun hx : Bst q s x_1 => ?_) ?_; (clear_value x_1); rotate_left; (unfold x_1))
    | (intro x_1; clear_value x_1)
    | intro _
    | (with_reducible first | apply State.modDie_bst | apply State.setO_bst | apply State.occur_bst | apply Bst.ite)
    | lift_lets -underBinder
    | (refine Bst.upd ?_)

theorem State.purlinAssay_bst {q : Bay} {s : State} {x_s : State} (h_x_s : Bst q s x_s) : Bst q s (State.purlinAssay x_s) := by
  unfold State.purlinAssay
  repeat' first
    | (with_reducible first | assumption | exact Bst.refl _)
    | (show _ ≠ _; first | decide | omega | (simp only [keyB, keyC, keyCap, keySite, keyPc, keyA, keyG, keyBench, keyNode, keyEng, keyDma, keyLane, keyLink, keyStream, keyStack, keyPort, keyTpg, key, RBay.BAY_STATE, ne_eq, R.PURLIN_STATUS]; omega) | (simp only [keyB, keyC, keyCap, keySite, keyPc, keyA, keyG, keyBench, keyNode, keyEng, keyDma, keyLane, keyLink, keyStream, keyStack, keyPort, keyTpg, key, RBay.BAY_STATE, ne_eq, R.PURLIN_STATUS, List.mem_range, List.mem_cons, List.not_mem_nil, or_false] at *; omega) | (split <;> first | decide | (simp only [keyB, keyC, keyCap, keySite, keyPc, keyA, keyG, keyBench, keyNode, keyEng, keyDma, keyLane, keyLink, keyStream, keyStack, keyPort, keyTpg, key, RBay.BAY_STATE, ne_eq, R.PURLIN_STATUS]; omega)))
    | intro _
    | (with_reducible first | apply State.answer_bst | apply State.setO_bst | apply State.ok_bst | apply Bst.ite)

theorem State.purlinDone_bst {q : Bay} {s : State} {x_s : State} {x_hops : List Nat} (h_x_s : Bst q s x_s) : Bst q s (State.purlinDone x_s x_hops) := by
  unfold State.purlinDone
  repeat' first
    | (with_reducible first | assumption | exact Bst.refl _)
    | (show _ ≠ _; first | decide | omega | (simp only [keyB, keyC, keyCap, keySite, keyPc, keyA, keyG, keyBench, keyNode, keyEng, keyDma, keyLane, keyLink, keyStream, keyStack, keyPort, keyTpg, key, RBay.BAY_STATE, ne_eq, R.PURLIN_PAD, R.PURLIN_STATUS]; omega) | (simp only [keyB, keyC, keyCap, keySite, keyPc, keyA, keyG, keyBench, keyNode, keyEng, keyDma, keyLane, keyLink, keyStream, keyStack, keyPort, keyTpg, key, RBay.BAY_STATE, ne_eq, R.PURLIN_PAD, R.PURLIN_STATUS, List.mem_range, List.mem_cons, List.not_mem_nil, or_false] at *; omega) | (split <;> first | decide | (simp only [keyB, keyC, keyCap, keySite, keyPc, keyA, keyG, keyBench, keyNode, keyEng, keyDma, keyLane, keyLink, keyStream, keyStack, keyPort, keyTpg, key, RBay.BAY_STATE, ne_eq, R.PURLIN_PAD, R.PURLIN_STATUS]; omega)))
    | intro _
    | (with_reducible first | apply State.fault_bst | apply State.setO_bst | apply State.free_bst | refine State.free_bst_eq ?_ (by assumption) | exact BstO.none | apply BstO.some | apply BstO.ite | apply Bst.ite | apply Bst.ite2)
    | split
    | dsimp only
    | (refine Bst.upd ?_)

theorem execRollStep_bst {q : Bay} {s : State} {x_b : Bay} {x_s : State} (h_x_s : Bst q s x_s) : BstN q s (execRollStep x_b x_s) := by
  unfold execRollStep
  repeat' first
    | (with_reducible first | assumption | exact Bst.refl _ | apply State.rollStep_bst | apply BstN.next | apply BstN.ite)

theorem execHandover_bst {q : Bay} {s : State} {x_b : Bay} {x_codesEqual : Bool} {x_clear : Bool} {x_s : State} (h_x_s : Bst q s x_s) : BstN q s (execHandover x_b x_codesEqual x_clear x_s) := by
  unfold execHandover
  repeat' first
    | (with_reducible first | assumption | exact Bst.refl _ | apply State.handover_bst | apply BstN.next | apply BstN.ite)

theorem execPathCalibrated_bst {q : Bay} {s : State} {x_b : Bay} {x_m : PathMeas} {x_s : State} (h_x_s : Bst q s x_s) : BstN q s (execPathCalibrated x_b x_m x_s) := by
  unfold execPathCalibrated
  repeat' first
    | (with_reducible first | assumption | exact Bst.refl _ | apply State.pathCalibrated_bst | apply BstN.next | apply BstN.ite)

theorem execHandoverTimeout_bst {q : Bay} {s : State} {x_b : Bay} {x_s : State} (h_x_s : Bst q s x_s) : BstN q s (execHandoverTimeout x_b x_s) := by
  unfold execHandoverTimeout
  repeat' first
    | (with_reducible first | assumption | exact Bst.refl _ | apply State.handTimeout_bst | apply BstN.next | apply BstN.ite)

theorem execRollPause_bst {q : Bay} {s : State} {x_b : Bay} {x_on : Bool} {x_s : State} (h_x_s : Bst q s x_s) : BstN q s (execRollPause x_b x_on x_s) := by
  unfold execRollPause
  repeat' first
    | (with_reducible first | assumption | exact Bst.refl _)
    | intro _
    | (with_reducible first | apply State.hostModule_bst | apply State.rollPause_bst | apply BstN.next | apply BstN.ite)

theorem execRollEnable_bst {q : Bay} {s : State} {x_b : Bay} {x_on : Bool} {x_s : State} (h_x_s : Bst q s x_s) : BstN q s (execRollEnable x_b x_on x_s) := by
  unfold execRollEnable
  repeat' first
    | (with_reducible first | assumption | exact Bst.refl _)
    | intro _
    | (with_reducible first | apply State.hostModule_bst | apply State.rollEnable_bst | apply BstN.next | apply BstN.ite)

theorem execManualTarget_bst {q : Bay} {s : State} {x_b : Bay} {x_target : BitVec 8} {x_s : State} (h_x_s : Bst q s x_s) : BstN q s (execManualTarget x_b x_target x_s) := by
  unfold execManualTarget
  repeat' first
    | (with_reducible first | assumption | exact Bst.refl _)
    | intro _
    | (with_reducible first | apply State.hostModule_bst | apply State.manualTarget_bst | apply BstN.next | apply BstN.ite)

theorem execBayAssayRequest_bst {q : Bay} {s : State} {x_b : Bay} {x_s : State} (h_x_s : Bst q s x_s) : BstN q s (execBayAssayRequest x_b x_s) := by
  unfold execBayAssayRequest
  repeat' first
    | (with_reducible first | assumption | exact Bst.refl _)
    | intro _
    | (with_reducible first | apply State.hostModule_bst | apply State.bayAssay_bst | apply BstN.next | apply BstN.ite)

theorem execBayAssayComplete_bst {q : Bay} {s : State} {x_b : Bay} {x_r : BayAssayResult} {x_smp : Sample} {x_s : State} (h_x_s : Bst q s x_s) : BstN q s (execBayAssayComplete x_b x_r x_smp x_s) := by
  unfold execBayAssayComplete
  repeat' first
    | (with_reducible first | assumption | exact Bst.refl _ | apply State.bayAssayed_bst | apply BstN.next | apply BstN.ite)

theorem execTmuAssay_bst {q : Bay} {s : State} {x_b : Bay} {x_s : State} (h_x_s : Bst q s x_s) : BstN q s (execTmuAssay x_b x_s) := by
  unfold execTmuAssay
  repeat' first
    | (with_reducible first | assumption | exact Bst.refl _ | apply State.tmuAssay_bst | apply BstN.next | apply BstN.ite)

theorem execTmuAssayComplete_bst {q : Bay} {s : State} {x_b : Bay} {x_residual : BitVec 32} {x_s : State} (h_x_s : Bst q s x_s) : BstN q s (execTmuAssayComplete x_b x_residual x_s) := by
  unfold execTmuAssayComplete
  repeat' first
    | (with_reducible first | assumption | exact Bst.refl _ | apply State.tmuAssayed_bst | apply BstN.next | apply BstN.ite)

theorem execPurlinAssay_bst {q : Bay} {s : State} {x_s : State} (h_x_s : Bst q s x_s) : BstN q s (execPurlinAssay x_s) := by
  unfold execPurlinAssay
  repeat' first
    | (with_reducible first | assumption | exact Bst.refl _ | apply State.hostModule_bst | apply State.purlinAssay_bst | apply BstN.next | apply BstN.ite)

theorem execPurlinAssayComplete_bst {q : Bay} {s : State} {x_hopsPs : List Nat} {x_s : State} (h_x_s : Bst q s x_s) : BstN q s (execPurlinAssayComplete x_hopsPs x_s) := by
  unfold execPurlinAssayComplete
  repeat' first
    | (with_reducible first | assumption | exact Bst.refl _ | apply State.purlinDone_bst | apply BstN.next | apply BstN.ite)

theorem execAssayWindow_bst {q : Bay} {s : State} {x_b : Bay} {x_temp : Int} {x_s : State} (h_x_s : Bst q s x_s) : BstN q s (execAssayWindow x_b x_temp x_s) := by
  unfold execAssayWindow
  repeat' first
    | (with_reducible first | assumption | exact Bst.refl _ | apply State.windowTemp_bst | apply BstN.next | apply BstN.ite)

theorem execLedgerCommit_bst {q : Bay} {s : State} {x_smp : Sample} {x_s : State} (h_x_s : Bst q s x_s) : BstN q s (execLedgerCommit x_smp x_s) := by
  unfold execLedgerCommit
  repeat' first
    | (with_reducible first | assumption | exact Bst.refl _ | apply State.ledgerCommit_bst | apply BstN.next | apply BstN.ite)

theorem execLedgerIntervalExpiry_bst {q : Bay} {s : State} {x_b : Bay} {x_s : State} (h_x_s : Bst q s x_s) : BstN q s (execLedgerIntervalExpiry x_b x_s) := by
  unfold execLedgerIntervalExpiry
  repeat' first
    | (with_reducible first | assumption | exact Bst.refl _ | apply State.ledgerInterval_bst | apply BstN.next | apply BstN.ite)

theorem execLedgerRetry_bst {q : Bay} {s : State} {x_s : State} (h_x_s : Bst q s x_s) : BstN q s (execLedgerRetry x_s) := by
  unfold execLedgerRetry
  repeat' first
    | (with_reducible first | assumption | exact Bst.refl _ | apply State.ledgerRetried_bst | apply BstN.next | apply BstN.ite)

end Sys2Proof.Machine
end

