-- ==== Sys2Proof/Laws/BstFaultCollector.lean ====
section
/-! SUPPORT. What the operations of Machine/FaultCollector.lean keep. -/

set_option linter.all false

namespace Sys2Proof.Machine

theorem State.modRec_bst {q : Bay} {s : State} {x_s : State} {x_seq : Nat} {x_f : FaultRec → FaultRec} (h_x_s : Bst q s x_s) : Bst q s (State.modRec x_s x_seq x_f) := by
  unfold State.modRec
  repeat' first
    | (with_reducible first | assumption | exact Bst.refl _)
    | intro _
    | with_reducible apply Bst.ite
    | (refine Bst.upd ?_)

theorem State.archive_bst {q : Bay} {s : State} {x_s : State} {x_m : Sample} (h_x_s : Bst q s x_s) : Bst q s (State.archive x_s x_m) := by
  unfold State.archive
  repeat' first
    | (with_reducible first | assumption | exact Bst.refl _)
    | (intro x_1; refine (fun hx : Bst q s x_1 => ?_) ?_; (clear_value x_1); rotate_left; (unfold x_1))
    | (intro x_1; clear_value x_1)
    | intro _
    | (with_reducible first | apply State.innerCommit_bst | exact BstO.none | apply BstO.some | apply BstO.ite | apply Bst.ite)
    | lift_lets -underBinder
    | (refine Bst.upd ?_)

theorem State.openRec_bst {q : Bay} {s : State} {x_s : State} {x_r : FaultRec} {x_m : Sample} (h_x_s : Bst q s x_s) : Bst q s (State.openRec x_s x_r x_m) := by
  unfold State.openRec
  repeat' first
    | (with_reducible first | assumption | exact Bst.refl _)
    | (show _ ≠ _; first | decide | omega | (simp only [keyB, keyC, keyCap, keySite, keyPc, keyA, keyG, keyBench, keyNode, keyEng, keyDma, keyLane, keyLink, keyStream, keyStack, keyPort, keyTpg, key, RBay.BAY_STATE, ne_eq, R.LOG_OVERWRITTEN, R.LOG_SEQ_NEXT]; omega) | (simp only [keyB, keyC, keyCap, keySite, keyPc, keyA, keyG, keyBench, keyNode, keyEng, keyDma, keyLane, keyLink, keyStream, keyStack, keyPort, keyTpg, key, RBay.BAY_STATE, ne_eq, R.LOG_OVERWRITTEN, R.LOG_SEQ_NEXT, List.mem_range, List.mem_cons, List.not_mem_nil, or_false] at *; omega) | (split <;> first | decide | (simp only [keyB, keyC, keyCap, keySite, keyPc, keyA, keyG, keyBench, keyNode, keyEng, keyDma, keyLane, keyLink, keyStream, keyStack, keyPort, keyTpg, key, RBay.BAY_STATE, ne_eq, R.LOG_OVERWRITTEN, R.LOG_SEQ_NEXT]; omega)))
    | (intro x_1; refine (fun hx : Bst q s x_1 => ?_) ?_; (clear_value x_1); rotate_left; (unfold x_1))
    | (intro x_1; clear_value x_1)
    | intro _
    | (with_reducible first | apply State.setO_bst | apply State.incO_bst | apply State.event_bst | apply State.archive_bst | apply Bst.ite)
    | lift_lets -underBinder
    | (refine Bst.upd ?_)

theorem State.inhibitChan_bst {q : Bay} {s : State} {x_s : State} {x_unit : Nat} (h_x_s : Bst q s x_s) : Bst q s (State.inhibitChan x_s x_unit) := by
  unfold State.inhibitChan
  repeat' first
    | (with_reducible first | assumption | exact Bst.refl _)
    | (intro x_1; refine (fun hx : Bst q s x_1 => ?_) ?_; (clear_value x_1); rotate_left; (unfold x_1))
    | (intro x_1; clear_value x_1)
    | intro _
    | (with_reducible first | apply State.latchBoth_bst | apply Bst.dite | apply Bst.ite)
    | lift_lets -underBinder
    | split
    | dsimp only

theorem State.stopSite_bst {q : Bay} {s : State} {x_s : State} {x_i : Site} (h_x_s : Bst q s x_s) : Bst q s (State.stopSite x_s x_i) := by
  unfold State.stopSite
  repeat' first
    | (with_reducible first | assumption | exact Bst.refl _)
    | (intro x_1; refine (fun hx : Bst q s x_1 => ?_) ?_; (clear_value x_1); rotate_left; (unfold x_1))
    | (intro x_1; clear_value x_1)
    | intro _
    | (with_reducible first | apply State.markSite_bst | apply State.atMembers_bst | apply State.retireSoon_bst | apply State.modBay_bst | apply Bst.ite)
    | lift_lets -underBinder
    | split
    | dsimp only
    | (refine Bst.upd ?_)

theorem State.sendToken_bst {q : Bay} {s : State} {x_s : State} {x_seq : Nat} (h_x_s : Bst q s x_s) : Bst q s (State.sendToken x_s x_seq) := by
  unfold State.sendToken
  repeat' first
    | (with_reducible first | assumption | exact Bst.refl _)
    | (refine Bst.upd ?_)

theorem State.setInj_bst {q : Bay} {s : State} {x_s : State} {x_k : Nat} {x_x : InjSlot} (h_x_s : Bst q s x_s) : Bst q s (State.setInj x_s x_k x_x) := by
  unfold State.setInj
  repeat' first
    | (with_reducible first | assumption | exact Bst.refl _)
    | (refine Bst.upd ?_)

theorem State.setTimers_bst {q : Bay} {s : State} {x_s : State} {x_l : List GraceTimer} (h_x_s : Bst q s x_s) : Bst q s (State.setTimers x_s x_l) := by
  unfold State.setTimers
  repeat' first
    | (with_reducible first | assumption | exact Bst.refl _)
    | (show _ ≠ _; first | decide | omega | (simp only [keyB, keyC, keyCap, keySite, keyPc, keyA, keyG, keyBench, keyNode, keyEng, keyDma, keyLane, keyLink, keyStream, keyStack, keyPort, keyTpg, key, RBay.BAY_STATE, ne_eq, R.TIMERS_BUSY]; omega) | (simp only [keyB, keyC, keyCap, keySite, keyPc, keyA, keyG, keyBench, keyNode, keyEng, keyDma, keyLane, keyLink, keyStream, keyStack, keyPort, keyTpg, key, RBay.BAY_STATE, ne_eq, R.TIMERS_BUSY, List.mem_range, List.mem_cons, List.not_mem_nil, or_false] at *; omega) | (split <;> first | decide | (simp only [keyB, keyC, keyCap, keySite, keyPc, keyA, keyG, keyBench, keyNode, keyEng, keyDma, keyLane, keyLink, keyStream, keyStack, keyPort, keyTpg, key, RBay.BAY_STATE, ne_eq, R.TIMERS_BUSY]; omega)))
    | with_reducible apply State.setO_bst
    | (refine Bst.upd ?_)

theorem State.injected_bst {q : Bay} {s : State} {x_s : State} {x_m : FaultMsg} {x_seq : Nat} (h_x_s : Bst q s x_s) : Bst q s (State.injected x_s x_m x_seq) := by
  unfold State.injected
  repeat' first
    | (with_reducible first | assumption | exact Bst.refl _)
    | (intro x_1; refine (fun hx : Bst q s x_1 => ?_) ?_; (clear_value x_1); rotate_left; (unfold x_1))
    | (intro x_1; clear_value x_1)
    | intro _
    | (with_reducible first | apply State.setInj_bst | apply State.event_bst | exact BstO.none | apply BstO.some | apply BstO.ite)
    | lift_lets -underBinder
    | split
    | (refine Bst.upd ?_)

theorem State.overflow_bst {q : Bay} {s : State} {x_s : State} {x_unit : Nat} (h_x_s : Bst q s x_s) : Bst q s (State.overflow x_s x_unit) := by
  unfold State.overflow
  repeat' first
    | (with_reducible first | assumption | exact Bst.refl _)
    | (intro x_1; refine (fun hx : Bst q s x_1 => ?_) ?_; (clear_value x_1); rotate_left; (unfold x_1))
    | (intro x_1; clear_value x_1)
    | intro _
    | (with_reducible first | apply State.fault_bst | apply Bst.ite)
    | lift_lets -underBinder
    | (refine Bst.upd ?_)

theorem State.confirm_bst {q : Bay} {s : State} {x_s : State} {x_seq : Nat} (h_x_s : Bst q s x_s) : Bst q s (State.confirm x_s x_seq) := by
  unfold State.confirm
  repeat' first
    | (with_reducible first | assumption | exact Bst.refl _)
    | intro _
    | (with_reducible first | exact BstO.none | apply BstO.some | apply BstO.ite)
    | split
    | (refine Bst.upd ?_)

theorem State.unconfirmed_bst {q : Bay} {s : State} {x_s : State} {x_seq : Nat} (h_x_s : Bst q s x_s) : Bst q s (State.unconfirmed x_s x_seq) := by
  unfold State.unconfirmed
  repeat' first
    | (with_reducible first | assumption | exact Bst.refl _)
    | intro _
    | (with_reducible first | apply State.modRec_bst | apply State.advance_bst | exact BstO.none | apply BstO.some | apply BstO.ite)
    | split
    | (refine Bst.upd ?_)

theorem State.handle_bst {q : Bay} {s : State} {x_s : State} {x_seq : Nat} (h_x_s : Bst q s x_s) : Bst q s (State.handle x_s x_seq) := by
  unfold State.handle
  repeat' first
    | (with_reducible first | assumption | exact Bst.refl _)
    | (intro x_1; refine (fun hx : Bst q s x_1 => ?_) ?_; (clear_value x_1); rotate_left; (unfold x_1))
    | (intro x_1; clear_value x_1)
    | intro _
    | (with_reducible first | apply State.answer_bst | apply State.modRec_bst | apply State.ok_bst | apply State.setTimers_bst | exact BstO.none | apply BstO.some | apply BstO.ite)
    | lift_lets -underBinder
    | split
    | (refine Bst.upd ?_)

theorem State.writePolicy_bst {q : Bay} {s : State} {x_s : State} {x_kind : Nat} {x_e : Nat} (h_x_s : Bst q s x_s) : Bst q s (State.writePolicy x_s x_kind x_e) := by
  unfold State.writePolicy
  repeat' first
    | (with_reducible first | assumption | exact Bst.refl _)
    | (show _ ≠ _; first | decide | omega | (simp only [keyB, keyC, keyCap, keySite, keyPc, keyA, keyG, keyBench, keyNode, keyEng, keyDma, keyLane, keyLink, keyStream, keyStack, keyPort, keyTpg, key, RBay.BAY_STATE, ne_eq]; omega) | (simp only [keyB, keyC, keyCap, keySite, keyPc, keyA, keyG, keyBench, keyNode, keyEng, keyDma, keyLane, keyLink, keyStream, keyStack, keyPort, keyTpg, key, RBay.BAY_STATE, ne_eq, List.mem_range, List.mem_cons, List.not_mem_nil, or_false] at *; omega) | (split <;> first | decide | (simp only [keyB, keyC, keyCap, keySite, keyPc, keyA, keyG, keyBench, keyNode, keyEng, keyDma, keyLane, keyLink, keyStream, keyStack, keyPort, keyTpg, key, RBay.BAY_STATE, ne_eq]; omega)))
    | (with_reducible first | apply State.answer_bst | apply State.ok_bst | apply State.setO_bst | apply Bst.ite)

theorem State.inject_bst {q : Bay} {s : State} {x_s : State} (h_x_s : Bst q s x_s) : Bst q s (State.inject x_s) := by
  unfold State.inject
  repeat' first
    | (with_reducible first | assumption | exact Bst.refl _)
    | (intro x_1; refine (fun hx : Bst q s x_1 => ?_) ?_; (clear_value x_1); rotate_left; (unfold x_1))
    | (intro x_1; clear_value x_1)
    | intro _
    | (with_reducible first | apply State.setInj_bst | apply State.ok_bst | apply State.send_bst | exact BstO.none | apply BstO.some | apply BstO.ite)
    | lift_lets -underBinder
    | (refine Bst.upd ?_)

theorem State.logNext_bst {q : Bay} {s : State} {x_s : State} (h_x_s : Bst q s x_s) : Bst q s (State.logNext x_s) := by
  unfold State.logNext
  repeat' first
    | (with_reducible first | assumption | exact Bst.refl _)
    | (show _ ≠ _; first | decide | omega | (simp only [keyB, keyC, keyCap, keySite, keyPc, keyA, keyG, keyBench, keyNode, keyEng, keyDma, keyLane, keyLink, keyStream, keyStack, keyPort, keyTpg, key, RBay.BAY_STATE, ne_eq, R.LOG_READ_SEQ]; omega) | (simp only [keyB, keyC, keyCap, keySite, keyPc, keyA, keyG, keyBench, keyNode, keyEng, keyDma, keyLane, keyLink, keyStream, keyStack, keyPort, keyTpg, key, RBay.BAY_STATE, ne_eq, R.LOG_READ_SEQ, List.mem_range, List.mem_cons, List.not_mem_nil, or_false] at *; omega) | (split <;> first | decide | (simp only [keyB, keyC, keyCap, keySite, keyPc, keyA, keyG, keyBench, keyNode, keyEng, keyDma, keyLane, keyLink, keyStream, keyStack, keyPort, keyTpg, key, RBay.BAY_STATE, ne_eq, R.LOG_READ_SEQ]; omega)))
    | (intro x_1; refine (fun hx : Bst q s x_1 => ?_) ?_; (clear_value x_1); rotate_left; (unfold x_1))
    | (intro x_1; clear_value x_1)
    | intro _
    | (with_reducible first | apply State.answerBody_bst | apply State.setO_bst)
    | lift_lets -underBinder

theorem State.logRecord_bst {q : Bay} {s : State} {x_s : State} (h_x_s : Bst q s x_s) : Bst q s (State.logRecord x_s) := by
  unfold State.logRecord
  repeat' first
    | (with_reducible first | assumption | exact Bst.refl _ | apply State.answerBody_bst | apply State.answer_bst | exact BstO.none | apply BstO.some | apply BstO.ite)
    | split
    | (refine Bst.upd ?_)

theorem State.eventNext_bst {q : Bay} {s : State} {x_s : State} (h_x_s : Bst q s x_s) : Bst q s (State.eventNext x_s) := by
  unfold State.eventNext
  repeat' first
    | (with_reducible first | assumption | exact Bst.refl _)
    | (show _ ≠ _; first | decide | omega | (simp only [keyB, keyC, keyCap, keySite, keyPc, keyA, keyG, keyBench, keyNode, keyEng, keyDma, keyLane, keyLink, keyStream, keyStack, keyPort, keyTpg, key, RBay.BAY_STATE, ne_eq, R.EVENT_LOG_COUNT]; omega) | (simp only [keyB, keyC, keyCap, keySite, keyPc, keyA, keyG, keyBench, keyNode, keyEng, keyDma, keyLane, keyLink, keyStream, keyStack, keyPort, keyTpg, key, RBay.BAY_STATE, ne_eq, R.EVENT_LOG_COUNT, List.mem_range, List.mem_cons, List.not_mem_nil, or_false] at *; omega) | (split <;> first | decide | (simp only [keyB, keyC, keyCap, keySite, keyPc, keyA, keyG, keyBench, keyNode, keyEng, keyDma, keyLane, keyLink, keyStream, keyStack, keyPort, keyTpg, key, RBay.BAY_STATE, ne_eq, R.EVENT_LOG_COUNT]; omega)))
    | (intro x_1; refine (fun hx : Bst q s x_1 => ?_) ?_; (clear_value x_1); rotate_left; (unfold x_1))
    | (intro x_1; clear_value x_1)
    | intro _
    | (with_reducible first | apply State.answerBody_bst | apply State.setO_bst)
    | lift_lets -underBinder

theorem State.keeper_bst {q : Bay} {s : State} {x_s : State} (x_k : State → State) (h_x_s : Bst q s x_s) (h_x_k : ∀ (v0 : State), Bst q s v0 → Bst q s (x_k v0)) : Bst q s (State.keeper x_s x_k) := by
  unfold State.keeper
  repeat' first
    | (with_reducible first | assumption | exact Bst.refl _ | apply h_x_k | apply Bst.ite)

theorem State.startAlive_bst {q : Bay} {s : State} {x_s : State} (h_x_s : Bst q s x_s) : Bst q s (State.startAlive x_s) := by
  unfold State.startAlive
  repeat' first
    | (with_reducible first | assumption | exact Bst.refl _)
    | (show _ ≠ _; first | decide | omega | (simp only [keyB, keyC, keyCap, keySite, keyPc, keyA, keyG, keyBench, keyNode, keyEng, keyDma, keyLane, keyLink, keyStream, keyStack, keyPort, keyTpg, key, RBay.BAY_STATE, ne_eq, R.ALIVE_FREQ, R.ALIVE_STATE]; omega) | (simp only [keyB, keyC, keyCap, keySite, keyPc, keyA, keyG, keyBench, keyNode, keyEng, keyDma, keyLane, keyLink, keyStream, keyStack, keyPort, keyTpg, key, RBay.BAY_STATE, ne_eq, R.ALIVE_FREQ, R.ALIVE_STATE, List.mem_range, List.mem_cons, List.not_mem_nil, or_false] at *; omega) | (split <;> first | decide | (simp only [keyB, keyC, keyCap, keySite, keyPc, keyA, keyG, keyBench, keyNode, keyEng, keyDma, keyLane, keyLink, keyStream, keyStack, keyPort, keyTpg, key, RBay.BAY_STATE, ne_eq, R.ALIVE_FREQ, R.ALIVE_STATE]; omega)))
    | (intro x_1; refine (fun hx : Bst q s x_1 => ?_) ?_; (clear_value x_1); rotate_left; (unfold x_1))
    | (intro x_1; clear_value x_1)
    | intro _
    | with_reducible apply State.setO_bst
    | lift_lets -underBinder
    | (refine Bst.upd ?_)

theorem State.toggle_bst {q : Bay} {s : State} {x_s : State} (h_x_s : Bst q s x_s) : Bst q s (State.toggle x_s) := by
  unfold State.toggle
  repeat' first
    | (with_reducible first | assumption | exact Bst.refl _)
    | (intro x_1; refine (fun hx : Bst q s x_1 => ?_) ?_; (clear_value x_1); rotate_left; (unfold x_1))
    | (intro x_1; clear_value x_1)
    | intro _
    | (with_reducible first | apply State.advance_bst | apply State.startAlive_bst | apply Bst.ite)
    | lift_lets -underBinder
    | (refine Bst.upd ?_)

theorem State.feed_bst {q : Bay} {s : State} {x_s : State} (h_x_s : Bst q s x_s) : Bst q s (State.feed x_s) := by
  unfold State.feed
  repeat' first
    | (with_reducible first | assumption | exact Bst.refl _)
    | (intro x_1; refine (fun hx : Bst q s x_1 => ?_) ?_; (clear_value x_1); rotate_left; (unfold x_1))
    | (intro x_1; clear_value x_1)
    | intro _
    | (with_reducible first | apply State.startAlive_bst | exact BstO.none | apply BstO.some | apply BstO.ite | apply Bst.ite)
    | lift_lets -underBinder
    | (refine Bst.upd ?_)

theorem State.starve_bst {q : Bay} {s : State} {x_s : State} (h_x_s : Bst q s x_s) : Bst q s (State.starve x_s) := by
  unfold State.starve
  repeat' first
    | (with_reducible first | assumption | exact Bst.refl _)
    | (show _ ≠ _; first | decide | omega | (simp only [keyB, keyC, keyCap, keySite, keyPc, keyA, keyG, keyBench, keyNode, keyEng, keyDma, keyLane, keyLink, keyStream, keyStack, keyPort, keyTpg, key, RBay.BAY_STATE, ne_eq, R.ALIVE_STATE, R.WATCHDOG_EXPIRIES]; omega) | (simp only [keyB, keyC, keyCap, keySite, keyPc, keyA, keyG, keyBench, keyNode, keyEng, keyDma, keyLane, keyLink, keyStream, keyStack, keyPort, keyTpg, key, RBay.BAY_STATE, ne_eq, R.ALIVE_STATE, R.WATCHDOG_EXPIRIES, List.mem_range, List.mem_cons, List.not_mem_nil, or_false] at *; omega) | (split <;> first | decide | (simp only [keyB, keyC, keyCap, keySite, keyPc, keyA, keyG, keyBench, keyNode, keyEng, keyDma, keyLane, keyLink, keyStream, keyStack, keyPort, keyTpg, key, RBay.BAY_STATE, ne_eq, R.ALIVE_STATE, R.WATCHDOG_EXPIRIES]; omega)))
    | (intro x_1; refine (fun hx : Bst q s x_1 => ?_) ?_; (clear_value x_1); rotate_left; (unfold x_1))
    | (intro x_1; clear_value x_1)
    | intro _
    | (with_reducible first | apply State.advance_bst | apply State.fault_bst | apply State.incO_bst | apply State.setO_bst | exact BstO.none | apply BstO.some | apply BstO.ite)
    | lift_lets -underBinder
    | split
    | (refine Bst.upd ?_)

theorem State.junction_bst {q : Bay} {s : State} {x_s : State} {x_die : Fin 8} {x_temp : Int} (h_x_s : Bst q s x_s) : Bst q s (State.junction x_s x_die x_temp) := by
  unfold State.junction
  repeat' first
    | (with_reducible first | assumption | exact Bst.refl _)
    | (intro x_1; refine (fun hx : Bst q s x_1 => ?_) ?_; (clear_value x_1); rotate_left; (unfold x_1))
    | (intro x_1; clear_value x_1)
    | intro _
    | (with_reducible first | apply State.fault_bst | apply Bst.ite)
    | lift_lets -underBinder
    | (refine Bst.upd ?_)

theorem State.clockError_bst {q : Bay} {s : State} {x_s : State} {x_ppm : Int} (h_x_s : Bst q s x_s) : Bst q s (State.clockError x_s x_ppm) := by
  unfold State.clockError
  repeat' first
    | (with_reducible first | assumption | exact Bst.refl _)
    | (show _ ≠ _; first | decide | omega | (simp only [keyB, keyC, keyCap, keySite, keyPc, keyA, keyG, keyBench, keyNode, keyEng, keyDma, keyLane, keyLink, keyStream, keyStack, keyPort, keyTpg, key, RBay.BAY_STATE, ne_eq, R.KCLK_ERROR]; omega) | (simp only [keyB, keyC, keyCap, keySite, keyPc, keyA, keyG, keyBench, keyNode, keyEng, keyDma, keyLane, keyLink, keyStream, keyStack, keyPort, keyTpg, key, RBay.BAY_STATE, ne_eq, R.KCLK_ERROR, List.mem_range, List.mem_cons, List.not_mem_nil, or_false] at *; omega) | (split <;> first | decide | (simp only [keyB, keyC, keyCap, keySite, keyPc, keyA, keyG, keyBench, keyNode, keyEng, keyDma, keyLane, keyLink, keyStream, keyStack, keyPort, keyTpg, key, RBay.BAY_STATE, ne_eq, R.KCLK_ERROR]; omega)))
    | (intro x_1; refine (fun hx : Bst q s x_1 => ?_) ?_; (clear_value x_1); rotate_left; (unfold x_1))
    | (intro x_1; clear_value x_1)
    | intro _
    | (with_reducible first | apply State.setO_bst | apply State.fault_bst | apply Bst.ite)
    | lift_lets -underBinder

theorem State.refuseExit_bst {q : Bay} {s : State} {x_s : State} {x_why : Nat} (h_x_s : Bst q s x_s) : Bst q s (State.refuseExit x_s x_why) := by
  unfold State.refuseExit
  repeat' first
    | (with_reducible first | assumption | exact Bst.refl _)
    | (show _ ≠ _; first | decide | omega | (simp only [keyB, keyC, keyCap, keySite, keyPc, keyA, keyG, keyBench, keyNode, keyEng, keyDma, keyLane, keyLink, keyStream, keyStack, keyPort, keyTpg, key, RBay.BAY_STATE, ne_eq, R.EXIT_STATUS]; omega) | (simp only [keyB, keyC, keyCap, keySite, keyPc, keyA, keyG, keyBench, keyNode, keyEng, keyDma, keyLane, keyLink, keyStream, keyStack, keyPort, keyTpg, key, RBay.BAY_STATE, ne_eq, R.EXIT_STATUS, List.mem_range, List.mem_cons, List.not_mem_nil, or_false] at *; omega) | (split <;> first | decide | (simp only [keyB, keyC, keyCap, keySite, keyPc, keyA, keyG, keyBench, keyNode, keyEng, keyDma, keyLane, keyLink, keyStream, keyStack, keyPort, keyTpg, key, RBay.BAY_STATE, ne_eq, R.EXIT_STATUS]; omega)))
    | (with_reducible first | apply State.answer_bst | apply State.setO_bst)

theorem State.exitCrypto_bst {q : Bay} {s : State} {x_s : State} (h_x_s : Bst q s x_s) : Bst q s (State.exitCrypto x_s) := by
  unfold State.exitCrypto
  repeat' first
    | (with_reducible first | assumption | exact Bst.refl _ | apply State.refuseExit_bst | apply State.tmStart_bst)

theorem State.resume_bst {q : Bay} {s : State} {x_s : State} (h_x_s : Bst q s x_s) : Bst q s (State.resume x_s) := by
  unfold State.resume
  repeat' first
    | (with_reducible first | assumption | exact Bst.refl _)
    | (show _ ≠ _; first | decide | omega | (simp only [keyB, keyC, keyCap, keySite, keyPc, keyA, keyG, keyBench, keyNode, keyEng, keyDma, keyLane, keyLink, keyStream, keyStack, keyPort, keyTpg, key, RBay.BAY_STATE, ne_eq, R.EXIT_STATUS, R.MODULE_STATE]; omega) | (simp only [keyB, keyC, keyCap, keySite, keyPc, keyA, keyG, keyBench, keyNode, keyEng, keyDma, keyLane, keyLink, keyStream, keyStack, keyPort, keyTpg, key, RBay.BAY_STATE, ne_eq, R.EXIT_STATUS, R.MODULE_STATE, List.mem_range, List.mem_cons, List.not_mem_nil, or_false] at *; omega) | (split <;> first | decide | (simp only [keyB, keyC, keyCap, keySite, keyPc, keyA, keyG, keyBench, keyNode, keyEng, keyDma, keyLane, keyLink, keyStream, keyStack, keyPort, keyTpg, key, RBay.BAY_STATE, ne_eq, R.EXIT_STATUS, R.MODULE_STATE]; omega)))
    | (intro x_1; refine (fun hx : Bst q s x_1 => ?_) ?_; (clear_value x_1); rotate_left; (unfold x_1))
    | (intro x_1; clear_value x_1)
    | intro _
    | (with_reducible first | apply State.startAlive_bst | apply State.each_bst | apply State.releaseClear_bst | apply State.ok_bst | apply State.event_bst | apply State.setO_bst)
    | lift_lets -underBinder

theorem State.exitResume_bst {q : Bay} {s : State} {x_s : State} (h_x_s : Bst q s x_s) : Bst q s (State.exitResume x_s) := by
  unfold State.exitResume
  repeat' first
    | (with_reducible first | assumption | exact Bst.refl _ | apply State.answer_bst | apply State.exitCrypto_bst | apply State.refuseExit_bst | apply State.resume_bst | apply Bst.ite)

theorem execFaultOverflow_bst {q : Bay} {s : State} {x_unit : BitVec 12} {x_s : State} (h_x_s : Bst q s x_s) : BstN q s (execFaultOverflow x_unit x_s) := by
  unfold execFaultOverflow
  repeat' first
    | (with_reducible first | assumption | exact Bst.refl _ | apply State.overflow_bst | apply BstN.next | apply BstN.ite)

theorem execStepConfirm_bst {q : Bay} {s : State} {x_seq : BitVec 32} {x_s : State} (h_x_s : Bst q s x_s) : BstN q s (execStepConfirm x_seq x_s) := by
  unfold execStepConfirm
  repeat' first
    | (with_reducible first | assumption | exact Bst.refl _ | apply State.confirm_bst | apply BstN.next | apply BstN.ite)

theorem execStepUnconfirmed_bst {q : Bay} {s : State} {x_seq : BitVec 32} {x_s : State} (h_x_s : Bst q s x_s) : BstN q s (execStepUnconfirmed x_seq x_s) := by
  unfold execStepUnconfirmed
  repeat' first
    | (with_reducible first | assumption | exact Bst.refl _ | apply State.unconfirmed_bst | apply BstN.next | apply BstN.ite)

theorem execFaultHandle_bst {q : Bay} {s : State} {x_seq : BitVec 32} {x_s : State} (h_x_s : Bst q s x_s) : BstN q s (execFaultHandle x_seq x_s) := by
  unfold execFaultHandle
  repeat' first
    | (with_reducible first | assumption | exact Bst.refl _)
    | intro _
    | (with_reducible first | apply State.keeper_bst | apply State.handle_bst | apply BstN.next | apply BstN.ite)

theorem execPolicyWrite_bst {q : Bay} {s : State} {x_kind : BitVec 8} {x_entry : BitVec 32} {x_s : State} (h_x_s : Bst q s x_s) : BstN q s (execPolicyWrite x_kind x_entry x_s) := by
  unfold execPolicyWrite
  repeat' first
    | (with_reducible first | assumption | exact Bst.refl _)
    | intro _
    | (with_reducible first | apply State.keeper_bst | apply State.writePolicy_bst | apply BstN.next | apply BstN.ite)

theorem execInjectGo_bst {q : Bay} {s : State} {x_s : State} (h_x_s : Bst q s x_s) : BstN q s (execInjectGo x_s) := by
  unfold execInjectGo
  repeat' first
    | (with_reducible first | assumption | exact Bst.refl _ | apply State.keeper_bst | apply State.inject_bst | apply BstN.next | apply BstN.ite)

theorem execFaultLogNext_bst {q : Bay} {s : State} {x_s : State} (h_x_s : Bst q s x_s) : BstN q s (execFaultLogNext x_s) := by
  unfold execFaultLogNext
  repeat' first
    | (with_reducible first | assumption | exact Bst.refl _ | apply State.keeper_bst | apply State.logNext_bst | apply BstN.next | apply BstN.ite)

theorem execFaultLogRecord_bst {q : Bay} {s : State} {x_s : State} (h_x_s : Bst q s x_s) : BstN q s (execFaultLogRecord x_s) := by
  unfold execFaultLogRecord
  repeat' first
    | (with_reducible first | assumption | exact Bst.refl _ | apply State.keeper_bst | apply State.logRecord_bst | apply BstN.next | apply BstN.ite)

theorem execKeeperTimeRefresh_bst {q : Bay} {s : State} {x_s : State} (h_x_s : Bst q s x_s) : BstN q s (execKeeperTimeRefresh x_s) := by
  unfold execKeeperTimeRefresh
  repeat' first
    | (with_reducible first | assumption | exact Bst.refl _ | exact BstO.none | apply BstO.some | apply BstO.ite | apply BstN.next | apply BstN.ite | apply Bst.ite)
    | (refine Bst.upd ?_)

theorem execArchiveRetry_bst {q : Bay} {s : State} {x_smp : Sample} {x_s : State} (h_x_s : Bst q s x_s) : BstN q s (execArchiveRetry x_smp x_s) := by
  unfold execArchiveRetry
  repeat' first
    | (with_reducible first | assumption | exact Bst.refl _ | apply State.archive_bst | apply State.advance_bst | exact BstO.none | apply BstO.some | apply BstO.ite | apply BstN.next | apply BstN.ite)
    | split
    | (refine Bst.upd ?_)

theorem execEventLogNext_bst {q : Bay} {s : State} {x_s : State} (h_x_s : Bst q s x_s) : BstN q s (execEventLogNext x_s) := by
  unfold execEventLogNext
  repeat' first
    | (with_reducible first | assumption | exact Bst.refl _ | apply State.hostModule_bst | apply State.eventNext_bst | apply BstN.next | apply BstN.ite)

theorem execAliveToggle_bst {q : Bay} {s : State} {x_s : State} (h_x_s : Bst q s x_s) : BstN q s (execAliveToggle x_s) := by
  unfold execAliveToggle
  repeat' first
    | (with_reducible first | assumption | exact Bst.refl _ | apply State.keeper_bst | apply State.toggle_bst | apply BstN.next | apply BstN.ite)

theorem execWatchdogWrite_bst {q : Bay} {s : State} {x_s : State} (h_x_s : Bst q s x_s) : BstN q s (execWatchdogWrite x_s) := by
  unfold execWatchdogWrite
  repeat' first
    | (with_reducible first | assumption | exact Bst.refl _)
    | intro _
    | (with_reducible first | apply State.keeper_bst | apply State.feed_bst | apply BstN.next | apply BstN.ite | apply Bst.ite)

theorem execWatchdogExpiry_bst {q : Bay} {s : State} {x_s : State} (h_x_s : Bst q s x_s) : BstN q s (execWatchdogExpiry x_s) := by
  unfold execWatchdogExpiry
  repeat' first
    | (with_reducible first | assumption | exact Bst.refl _ | apply State.keeper_bst | apply State.starve_bst | apply BstN.next | apply BstN.ite)

theorem execHeartbeatLoss_bst {q : Bay} {s : State} {x_s : State} (h_x_s : Bst q s x_s) : BstN q s (execHeartbeatLoss x_s) := by
  unfold execHeartbeatLoss
  repeat' first
    | (with_reducible first | assumption | exact Bst.refl _)
    | intro _
    | (with_reducible first | apply State.keeper_bst | apply State.fault_bst | apply BstN.next | apply BstN.ite | apply Bst.ite)
    | (refine Bst.upd ?_)

theorem execTemperatureAlarm_bst {q : Bay} {s : State} {x_die : Fin 8} {x_temp : Int} {x_s : State} (h_x_s : Bst q s x_s) : BstN q s (execTemperatureAlarm x_die x_temp x_s) := by
  unfold execTemperatureAlarm
  repeat' first
    | (with_reducible first | assumption | exact Bst.refl _)
    | intro _
    | (with_reducible first | apply State.keeper_bst | apply State.junction_bst | apply BstN.next | apply BstN.ite)

theorem execKeeperClock_bst {q : Bay} {s : State} {x_ppm : Int} {x_s : State} (h_x_s : Bst q s x_s) : BstN q s (execKeeperClock x_ppm x_s) := by
  unfold execKeeperClock
  repeat' first
    | (with_reducible first | assumption | exact Bst.refl _)
    | intro _
    | (with_reducible first | apply State.keeper_bst | apply State.clockError_bst | apply BstN.next | apply BstN.ite)

theorem execSafeHoldExitResume_bst {q : Bay} {s : State} {x_s : State} (h_x_s : Bst q s x_s) : BstN q s (execSafeHoldExitResume x_s) := by
  unfold execSafeHoldExitResume
  repeat' first
    | (with_reducible first | assumption | exact Bst.refl _ | apply State.keeper_bst | apply State.exitResume_bst | apply BstN.next | apply BstN.ite)

end Sys2Proof.Machine
end

