-- ==== Sys2Proof/Laws/BstPower.lean ====
section
/-! SUPPORT. What the operations of Machine/Power.lean keep. -/

set_option linter.all false

namespace Sys2Proof.Machine

theorem State.releaseCore_bst {q : Bay} {s : State} {x_s : State} (h_x_s : Bst q s x_s) : Bst q s (State.releaseCore x_s) := by
  unfold State.releaseCore
  repeat' first
    | (with_reducible first | assumption | exact Bst.refl _)
    | (show _ ≠ _; first | decide | omega | (simp only [keyB, keyC, keyCap, keySite, keyPc, keyA, keyG, keyBench, keyNode, keyEng, keyDma, keyLane, keyLink, keyStream, keyStack, keyPort, keyTpg, key, RBay.BAY_STATE, ne_eq, R.MODULE_STATE, R.START_STAGE]; omega) | (simp only [keyB, keyC, keyCap, keySite, keyPc, keyA, keyG, keyBench, keyNode, keyEng, keyDma, keyLane, keyLink, keyStream, keyStack, keyPort, keyTpg, key, RBay.BAY_STATE, ne_eq, R.MODULE_STATE, R.START_STAGE, List.mem_range, List.mem_cons, List.not_mem_nil, or_false] at *; omega) | (split <;> first | decide | (simp only [keyB, keyC, keyCap, keySite, keyPc, keyA, keyG, keyBench, keyNode, keyEng, keyDma, keyLane, keyLink, keyStream, keyStack, keyPort, keyTpg, key, RBay.BAY_STATE, ne_eq, R.MODULE_STATE, R.START_STAGE]; omega)))
    | (with_reducible first | apply State.setO_bst | apply Bst.ite)

theorem State.supplyUp_bst {q : Bay} {s : State} {x_s : State} {x_n : Nat} {x_inOrder : Bool} (h_x_s : Bst q s x_s) : Bst q s (State.supplyUp x_s x_n x_inOrder) := by
  unfold State.supplyUp
  repeat' first
    | (with_reducible first | assumption | exact Bst.refl _)
    | (show _ ≠ _; first | decide | omega | (simp only [keyB, keyC, keyCap, keySite, keyPc, keyA, keyG, keyBench, keyNode, keyEng, keyDma, keyLane, keyLink, keyStream, keyStack, keyPort, keyTpg, key, RBay.BAY_STATE, ne_eq, R.SUPPLY_STATE]; omega) | (simp only [keyB, keyC, keyCap, keySite, keyPc, keyA, keyG, keyBench, keyNode, keyEng, keyDma, keyLane, keyLink, keyStream, keyStack, keyPort, keyTpg, key, RBay.BAY_STATE, ne_eq, R.SUPPLY_STATE, List.mem_range, List.mem_cons, List.not_mem_nil, or_false] at *; omega) | (split <;> first | decide | (simp only [keyB, keyC, keyCap, keySite, keyPc, keyA, keyG, keyBench, keyNode, keyEng, keyDma, keyLane, keyLink, keyStream, keyStack, keyPort, keyTpg, key, RBay.BAY_STATE, ne_eq, R.SUPPLY_STATE]; omega)))
    | (intro x_1; refine (fun hx : Bst q s x_1 => ?_) ?_; (clear_value x_1); rotate_left; (unfold x_1))
    | (intro x_1; clear_value x_1)
    | intro _
    | (with_reducible first | apply State.setO_bst | apply State.pinPowerUp_bst | apply State.releaseCore_bst | apply Bst.ite)
    | lift_lets -underBinder
    | split
    | dsimp only
    | (refine Bst.upd ?_)

theorem State.supplyDown_bst {q : Bay} {s : State} {x_s : State} {x_n : Nat} (h_x_s : Bst q s x_s) : Bst q s (State.supplyDown x_s x_n) := by
  unfold State.supplyDown
  repeat' first
    | (with_reducible first | assumption | exact Bst.refl _)
    | (show _ ≠ _; first | decide | omega | (simp only [keyB, keyC, keyCap, keySite, keyPc, keyA, keyG, keyBench, keyNode, keyEng, keyDma, keyLane, keyLink, keyStream, keyStack, keyPort, keyTpg, key, RBay.BAY_STATE, ne_eq, R.MODULE_STATE, R.SUPPLY_STATE]; omega) | (simp only [keyB, keyC, keyCap, keySite, keyPc, keyA, keyG, keyBench, keyNode, keyEng, keyDma, keyLane, keyLink, keyStream, keyStack, keyPort, keyTpg, key, RBay.BAY_STATE, ne_eq, R.MODULE_STATE, R.SUPPLY_STATE, List.mem_range, List.mem_cons, List.not_mem_nil, or_false] at *; omega) | (split <;> first | decide | (simp only [keyB, keyC, keyCap, keySite, keyPc, keyA, keyG, keyBench, keyNode, keyEng, keyDma, keyLane, keyLink, keyStream, keyStack, keyPort, keyTpg, key, RBay.BAY_STATE, ne_eq, R.MODULE_STATE, R.SUPPLY_STATE]; omega)))
    | (intro x_1; refine (fun hx : Bst q s x_1 => ?_) ?_; (clear_value x_1); rotate_left; (unfold x_1))
    | (intro x_1; clear_value x_1)
    | intro _
    | (with_reducible first | apply State.setO_bst | apply State.fault_bst | apply Bst.ite)
    | lift_lets -underBinder

theorem State.vauxLost_bst {q : Bay} {s : State} {x_s : State} (h_x_s : Bst q s x_s) : Bst q s (State.vauxLost x_s) := by
  unfold State.vauxLost
  repeat' first
    | (with_reducible first | assumption | exact Bst.refl _)
    | (show _ ≠ _; first | decide | omega | (simp only [keyB, keyC, keyCap, keySite, keyPc, keyA, keyG, keyBench, keyNode, keyEng, keyDma, keyLane, keyLink, keyStream, keyStack, keyPort, keyTpg, key, RBay.BAY_STATE, ne_eq, R.HOLDUP_STATE, R.SUPPLY_STATE]; omega) | (simp only [keyB, keyC, keyCap, keySite, keyPc, keyA, keyG, keyBench, keyNode, keyEng, keyDma, keyLane, keyLink, keyStream, keyStack, keyPort, keyTpg, key, RBay.BAY_STATE, ne_eq, R.HOLDUP_STATE, R.SUPPLY_STATE, List.mem_range, List.mem_cons, List.not_mem_nil, or_false] at *; omega) | (split <;> first | decide | (simp only [keyB, keyC, keyCap, keySite, keyPc, keyA, keyG, keyBench, keyNode, keyEng, keyDma, keyLane, keyLink, keyStream, keyStack, keyPort, keyTpg, key, RBay.BAY_STATE, ne_eq, R.HOLDUP_STATE, R.SUPPLY_STATE]; omega)))
    | (with_reducible first | apply State.fault_bst | apply State.setO_bst | apply Bst.ite)

theorem State.vauxBack_bst {q : Bay} {s : State} {x_s : State} (h_x_s : Bst q s x_s) : Bst q s (State.vauxBack x_s) := by
  unfold State.vauxBack
  repeat' first
    | (with_reducible first | assumption | exact Bst.refl _)
    | (show _ ≠ _; first | decide | omega | (simp only [keyB, keyC, keyCap, keySite, keyPc, keyA, keyG, keyBench, keyNode, keyEng, keyDma, keyLane, keyLink, keyStream, keyStack, keyPort, keyTpg, key, RBay.BAY_STATE, ne_eq, R.HOLDUP_CHECK_TIME, R.HOLDUP_ENERGY, R.HOLDUP_STATE, R.SUPPLY_STATE]; omega) | (simp only [keyB, keyC, keyCap, keySite, keyPc, keyA, keyG, keyBench, keyNode, keyEng, keyDma, keyLane, keyLink, keyStream, keyStack, keyPort, keyTpg, key, RBay.BAY_STATE, ne_eq, R.HOLDUP_CHECK_TIME, R.HOLDUP_ENERGY, R.HOLDUP_STATE, R.SUPPLY_STATE, List.mem_range, List.mem_cons, List.not_mem_nil, or_false] at *; omega) | (split <;> first | decide | (simp only [keyB, keyC, keyCap, keySite, keyPc, keyA, keyG, keyBench, keyNode, keyEng, keyDma, keyLane, keyLink, keyStream, keyStack, keyPort, keyTpg, key, RBay.BAY_STATE, ne_eq, R.HOLDUP_CHECK_TIME, R.HOLDUP_ENERGY, R.HOLDUP_STATE, R.SUPPLY_STATE]; omega)))
    | (intro x_1; refine (fun hx : Bst q s x_1 => ?_) ?_; (clear_value x_1); rotate_left; (unfold x_1))
    | (intro x_1; clear_value x_1)
    | intro _
    | (with_reducible first | apply State.setO_bst | apply Bst.ite)
    | lift_lets -underBinder
    | (refine Bst.upd ?_)

theorem State.nextStage_bst {q : Bay} {s : State} {x_s : State} (h_x_s : Bst q s x_s) : Bst q s (State.nextStage x_s) := by
  unfold State.nextStage
  repeat' first
    | (with_reducible first | assumption | exact Bst.refl _)
    | (show _ ≠ _; first | decide | omega | (simp only [keyB, keyC, keyCap, keySite, keyPc, keyA, keyG, keyBench, keyNode, keyEng, keyDma, keyLane, keyLink, keyStream, keyStack, keyPort, keyTpg, key, RBay.BAY_STATE, ne_eq, R.START_STAGE]; omega) | (simp only [keyB, keyC, keyCap, keySite, keyPc, keyA, keyG, keyBench, keyNode, keyEng, keyDma, keyLane, keyLink, keyStream, keyStack, keyPort, keyTpg, key, RBay.BAY_STATE, ne_eq, R.START_STAGE, List.mem_range, List.mem_cons, List.not_mem_nil, or_false] at *; omega) | (split <;> first | decide | (simp only [keyB, keyC, keyCap, keySite, keyPc, keyA, keyG, keyBench, keyNode, keyEng, keyDma, keyLane, keyLink, keyStream, keyStack, keyPort, keyTpg, key, RBay.BAY_STATE, ne_eq, R.START_STAGE]; omega)))
    | with_reducible apply State.setO_bst

theorem State.started_bst {q : Bay} {s : State} {x_s : State} {x_bit : Nat} (h_x_s : Bst q s x_s) : Bst q s (State.started x_s x_bit) := by
  unfold State.started
  repeat' first
    | (with_reducible first | assumption | exact Bst.refl _)
    | (show _ ≠ _; first | decide | omega | (simp only [keyB, keyC, keyCap, keySite, keyPc, keyA, keyG, keyBench, keyNode, keyEng, keyDma, keyLane, keyLink, keyStream, keyStack, keyPort, keyTpg, key, RBay.BAY_STATE, ne_eq, R.START_STATUS]; omega) | (simp only [keyB, keyC, keyCap, keySite, keyPc, keyA, keyG, keyBench, keyNode, keyEng, keyDma, keyLane, keyLink, keyStream, keyStack, keyPort, keyTpg, key, RBay.BAY_STATE, ne_eq, R.START_STATUS, List.mem_range, List.mem_cons, List.not_mem_nil, or_false] at *; omega) | (split <;> first | decide | (simp only [keyB, keyC, keyCap, keySite, keyPc, keyA, keyG, keyBench, keyNode, keyEng, keyDma, keyLane, keyLink, keyStream, keyStack, keyPort, keyTpg, key, RBay.BAY_STATE, ne_eq, R.START_STATUS]; omega)))
    | with_reducible apply State.setO_bst

theorem State.startCheck_bst {q : Bay} {s : State} {x_s : State} {x_m : Sample} (h_x_s : Bst q s x_s) : Bst q s (State.startCheck x_s x_m) := by
  unfold State.startCheck
  repeat' first
    | (with_reducible first | assumption | exact Bst.refl _)
    | (intro x_1; refine (fun hx : Bst q s x_1 => ?_) ?_; (clear_value x_1); rotate_left; (unfold x_1))
    | (intro x_1; clear_value x_1)
    | intro _
    | (with_reducible first | apply State.recordCheck_bst | apply State.started_bst | exact BstO.none | apply BstO.some | apply BstO.ite | apply Bst.ite)
    | lift_lets -underBinder
    | (refine Bst.upd ?_)

theorem State.stage1_bst {q : Bay} {s : State} {x_s : State} {x_r : StageResult} (h_x_s : Bst q s x_s) : Bst q s (State.stage1 x_s x_r) := by
  unfold State.stage1
  repeat' first
    | (with_reducible first | assumption | exact Bst.refl _ | apply State.nextStage_bst | apply State.fault_bst | exact BstO.none | apply BstO.some | apply BstO.ite | apply Bst.ite)
    | split
    | (refine Bst.upd ?_)

theorem State.stage2_bst {q : Bay} {s : State} {x_s : State} (h_x_s : Bst q s x_s) : Bst q s (State.stage2 x_s) := by
  unfold State.stage2
  repeat' first
    | (with_reducible first | assumption | exact Bst.refl _ | apply State.nextStage_bst | apply Bst.ite)

theorem State.stage3_bst {q : Bay} {s : State} {x_s : State} {x_r : StageResult} (h_x_s : Bst q s x_s) : Bst q s (State.stage3 x_s x_r) := by
  unfold State.stage3
  repeat' first
    | (with_reducible first | assumption | exact Bst.refl _ | apply State.releaseCore_bst | apply State.nextStage_bst | apply State.startCheck_bst)

theorem State.stage4_bst {q : Bay} {s : State} {x_s : State} {x_r : StageResult} (h_x_s : Bst q s x_s) : Bst q s (State.stage4 x_s x_r) := by
  unfold State.stage4
  repeat' first
    | (with_reducible first | assumption | exact Bst.refl _)
    | (show _ ≠ _; first | decide | omega | (simp only [keyB, keyC, keyCap, keySite, keyPc, keyA, keyG, keyBench, keyNode, keyEng, keyDma, keyLane, keyLink, keyStream, keyStack, keyPort, keyTpg, key, RBay.BAY_STATE, ne_eq, R.LOCK_MASK, R.MODULE_STATE, R.RESET_CAUSE]; omega) | (simp only [keyB, keyC, keyCap, keySite, keyPc, keyA, keyG, keyBench, keyNode, keyEng, keyDma, keyLane, keyLink, keyStream, keyStack, keyPort, keyTpg, key, RBay.BAY_STATE, ne_eq, R.LOCK_MASK, R.MODULE_STATE, R.RESET_CAUSE, List.mem_range, List.mem_cons, List.not_mem_nil, or_false] at *; omega) | (split <;> first | decide | (simp only [keyB, keyC, keyCap, keySite, keyPc, keyA, keyG, keyBench, keyNode, keyEng, keyDma, keyLane, keyLink, keyStream, keyStack, keyPort, keyTpg, key, RBay.BAY_STATE, ne_eq, R.LOCK_MASK, R.MODULE_STATE, R.RESET_CAUSE]; omega)))
    | (intro x_1; refine (fun hx : Bst q s x_1 => ?_) ?_; (clear_value x_1); rotate_left; (unfold x_1))
    | (intro x_1; clear_value x_1)
    | intro _
    | (with_reducible first | apply State.setO_bst | apply State.each_bst | apply State.modTmu_bst | apply State.nextStage_bst | apply State.startCheck_bst | apply Bst.ite | apply Bst.foldl)
    | lift_lets -underBinder
    | split
    | dsimp only
    | (refine Bst.upd ?_)

theorem State.runImage_bst {q : Bay} {s : State} {x_s : State} {x_n : Fin 2} {x_i : FwImage} (h_x_s : Bst q s x_s) : Bst q s (State.runImage x_s x_n x_i) := by
  unfold State.runImage
  repeat' first
    | (with_reducible first | assumption | exact Bst.refl _)
    | (show _ ≠ _; first | decide | omega | (simp only [keyB, keyC, keyCap, keySite, keyPc, keyA, keyG, keyBench, keyNode, keyEng, keyDma, keyLane, keyLink, keyStream, keyStack, keyPort, keyTpg, key, RBay.BAY_STATE, ne_eq, R.FIRMWARE_VERSION, R.FW_SLOT_VERSION, RBay.VENDOR_VERSION, RBench.BENCH_CATALOGUE, RBench.BENCH_STATE]; omega) | (simp only [keyB, keyC, keyCap, keySite, keyPc, keyA, keyG, keyBench, keyNode, keyEng, keyDma, keyLane, keyLink, keyStream, keyStack, keyPort, keyTpg, key, RBay.BAY_STATE, ne_eq, R.FIRMWARE_VERSION, R.FW_SLOT_VERSION, RBay.VENDOR_VERSION, RBench.BENCH_CATALOGUE, RBench.BENCH_STATE, List.mem_range, List.mem_cons, List.not_mem_nil, or_false] at *; omega) | (split <;> first | decide | (simp only [keyB, keyC, keyCap, keySite, keyPc, keyA, keyG, keyBench, keyNode, keyEng, keyDma, keyLane, keyLink, keyStream, keyStack, keyPort, keyTpg, key, RBay.BAY_STATE, ne_eq, R.FIRMWARE_VERSION, R.FW_SLOT_VERSION, RBay.VENDOR_VERSION, RBench.BENCH_CATALOGUE, RBench.BENCH_STATE]; omega)))
    | (intro x_1; refine (fun hx : Bst q s x_1 => ?_) ?_; (clear_value x_1); rotate_left; (unfold x_1))
    | (intro x_1; clear_value x_1)
    | intro _
    | (with_reducible first | apply State.setO_bst | apply State.each_bst | apply State.setB_bst | apply State.showCatalogue_bst)
    | lift_lets -underBinder
    | (refine Bst.upd ?_)

theorem State.stage7_bst {q : Bay} {s : State} {x_s : State} {x_r : StageResult} (h_x_s : Bst q s x_s) : Bst q s (State.stage7 x_s x_r) := by
  unfold State.stage7
  repeat' first
    | (with_reducible first | assumption | exact Bst.refl _)
    | (show _ ≠ _; first | decide | omega | (simp only [keyB, keyC, keyCap, keySite, keyPc, keyA, keyG, keyBench, keyNode, keyEng, keyDma, keyLane, keyLink, keyStream, keyStack, keyPort, keyTpg, key, RBay.BAY_STATE, ne_eq, R.ACTIVE_CORE, R.STANDBY_STATE]; omega) | (simp only [keyB, keyC, keyCap, keySite, keyPc, keyA, keyG, keyBench, keyNode, keyEng, keyDma, keyLane, keyLink, keyStream, keyStack, keyPort, keyTpg, key, RBay.BAY_STATE, ne_eq, R.ACTIVE_CORE, R.STANDBY_STATE, List.mem_range, List.mem_cons, List.not_mem_nil, or_false] at *; omega) | (split <;> first | decide | (simp only [keyB, keyC, keyCap, keySite, keyPc, keyA, keyG, keyBench, keyNode, keyEng, keyDma, keyLane, keyLink, keyStream, keyStack, keyPort, keyTpg, key, RBay.BAY_STATE, ne_eq, R.ACTIVE_CORE, R.STANDBY_STATE]; omega)))
    | (intro x_1; refine (fun hx : Bst q s x_1 => ?_) ?_; (clear_value x_1); rotate_left; (unfold x_1))
    | (intro x_1; clear_value x_1)
    | intro _
    | (with_reducible first | apply State.each_bst | apply State.fault_bst | apply State.nextStage_bst | apply State.setO_bst | apply State.started_bst | apply Bst.ite)
    | lift_lets -underBinder
    | (refine Bst.upd ?_)

theorem State.stage8_bst {q : Bay} {s : State} {x_s : State} {x_r : StageResult} (h_x_s : Bst q s x_s) : Bst q s (State.stage8 x_s x_r) := by
  unfold State.stage8
  repeat' first
    | (with_reducible first | assumption | exact Bst.refl _)
    | (show _ ≠ _; first | decide | omega | (simp only [keyB, keyC, keyCap, keySite, keyPc, keyA, keyG, keyBench, keyNode, keyEng, keyDma, keyLane, keyLink, keyStream, keyStack, keyPort, keyTpg, key, RBay.BAY_STATE, ne_eq]; omega) | (simp only [keyB, keyC, keyCap, keySite, keyPc, keyA, keyG, keyBench, keyNode, keyEng, keyDma, keyLane, keyLink, keyStream, keyStack, keyPort, keyTpg, key, RBay.BAY_STATE, ne_eq, List.mem_range, List.mem_cons, List.not_mem_nil, or_false] at *; omega) | (split <;> first | decide | (simp only [keyB, keyC, keyCap, keySite, keyPc, keyA, keyG, keyBench, keyNode, keyEng, keyDma, keyLane, keyLink, keyStream, keyStack, keyPort, keyTpg, key, RBay.BAY_STATE, ne_eq]; omega)))
    | (intro x_1; refine (fun hx : Bst q s x_1 => ?_) ?_; (clear_value x_1); rotate_left; (unfold x_1))
    | (intro x_1; clear_value x_1)
    | intro _
    | (with_reducible first | apply State.each_bst | apply State.pcFails_bst | apply State.trained_bst | apply State.nextStage_bst | apply State.started_bst | apply Bst.ite)
    | lift_lets -underBinder
    | split
    | dsimp only

theorem State.stage11_bst {q : Bay} {s : State} {x_s : State} (h_x_s : Bst q s x_s) : Bst q s (State.stage11 x_s) := by
  unfold State.stage11
  repeat' first
    | (with_reducible first | assumption | exact Bst.refl _)
    | (show _ ≠ _; first | decide | omega | (simp only [keyB, keyC, keyCap, keySite, keyPc, keyA, keyG, keyBench, keyNode, keyEng, keyDma, keyLane, keyLink, keyStream, keyStack, keyPort, keyTpg, key, RBay.BAY_STATE, ne_eq, R.LOCK_MASK, R.LREFCLK_OK, RLane.ENABLE]; omega) | (simp only [keyB, keyC, keyCap, keySite, keyPc, keyA, keyG, keyBench, keyNode, keyEng, keyDma, keyLane, keyLink, keyStream, keyStack, keyPort, keyTpg, key, RBay.BAY_STATE, ne_eq, R.LOCK_MASK, R.LREFCLK_OK, RLane.ENABLE, List.mem_range, List.mem_cons, List.not_mem_nil, or_false] at *; omega) | (split <;> first | decide | (simp only [keyB, keyC, keyCap, keySite, keyPc, keyA, keyG, keyBench, keyNode, keyEng, keyDma, keyLane, keyLink, keyStream, keyStack, keyPort, keyTpg, key, RBay.BAY_STATE, ne_eq, R.LOCK_MASK, R.LREFCLK_OK, RLane.ENABLE]; omega)))
    | (intro x_1; refine (fun hx : Bst q s x_1 => ?_) ?_; (clear_value x_1); rotate_left; (unfold x_1))
    | (intro x_1; clear_value x_1)
    | intro _
    | (with_reducible first | apply State.setO_bst | apply State.nextStage_bst | apply State.each_bst | apply State.enableLane_bst | apply Bst.foldl)
    | lift_lets -underBinder

theorem State.stage12_bst {q : Bay} {s : State} {x_s : State} (h_x_s : Bst q s x_s) : Bst q s (State.stage12 x_s) := by
  unfold State.stage12
  repeat' first
    | (with_reducible first | assumption | exact Bst.refl _)
    | (show _ ≠ _; first | decide | omega | (simp only [keyB, keyC, keyCap, keySite, keyPc, keyA, keyG, keyBench, keyNode, keyEng, keyDma, keyLane, keyLink, keyStream, keyStack, keyPort, keyTpg, key, RBay.BAY_STATE, ne_eq, R.MODULE_STATE, R.START_TIME, R.WATCHDOG_TIME]; omega) | (simp only [keyB, keyC, keyCap, keySite, keyPc, keyA, keyG, keyBench, keyNode, keyEng, keyDma, keyLane, keyLink, keyStream, keyStack, keyPort, keyTpg, key, RBay.BAY_STATE, ne_eq, R.MODULE_STATE, R.START_TIME, R.WATCHDOG_TIME, List.mem_range, List.mem_cons, List.not_mem_nil, or_false] at *; omega) | (split <;> first | decide | (simp only [keyB, keyC, keyCap, keySite, keyPc, keyA, keyG, keyBench, keyNode, keyEng, keyDma, keyLane, keyLink, keyStream, keyStack, keyPort, keyTpg, key, RBay.BAY_STATE, ne_eq, R.MODULE_STATE, R.START_TIME, R.WATCHDOG_TIME]; omega)))
    | (intro x_1; refine (fun hx : Bst q s x_1 => ?_) ?_; (clear_value x_1); rotate_left; (unfold x_1))
    | (intro x_1; clear_value x_1)
    | intro _
    | (with_reducible first | apply State.started_bst | apply State.setO_bst | apply State.startAlive_bst | exact BstO.none | apply BstO.some | apply BstO.ite)
    | lift_lets -underBinder
    | (refine Bst.upd ?_)

theorem State.startLate_bst {q : Bay} {s : State} {x_s : State} (h_x_s : Bst q s x_s) : Bst q s (State.startLate x_s) := by
  unfold State.startLate
  repeat' first
    | (with_reducible first | assumption | exact Bst.refl _ | apply State.started_bst | apply State.advance_bst | apply Bst.ite)

theorem State.checkDone_bst {q : Bay} {s : State} {x_s : State} {x_m : Sample} (h_x_s : Bst q s x_s) : Bst q s (State.checkDone x_s x_m) := by
  unfold State.checkDone
  repeat' first
    | (with_reducible first | assumption | exact Bst.refl _)
    | (intro x_1; refine (fun hx : Bst q s x_1 => ?_) ?_; (clear_value x_1); rotate_left; (unfold x_1))
    | (intro x_1; clear_value x_1)
    | intro _
    | (with_reducible first | apply State.recordCheck_bst | exact BstO.none | apply BstO.some | apply BstO.ite | apply Bst.ite)
    | lift_lets -underBinder
    | (refine Bst.upd ?_)

theorem State.refuseSwitch_bst {q : Bay} {s : State} {x_s : State} {x_why : Nat} (h_x_s : Bst q s x_s) : Bst q s (State.refuseSwitch x_s x_why) := by
  unfold State.refuseSwitch
  repeat' first
    | (with_reducible first | assumption | exact Bst.refl _)
    | (show _ ≠ _; first | decide | omega | (simp only [keyB, keyC, keyCap, keySite, keyPc, keyA, keyG, keyBench, keyNode, keyEng, keyDma, keyLane, keyLink, keyStream, keyStack, keyPort, keyTpg, key, RBay.BAY_STATE, ne_eq, R.SWITCH_STATUS]; omega) | (simp only [keyB, keyC, keyCap, keySite, keyPc, keyA, keyG, keyBench, keyNode, keyEng, keyDma, keyLane, keyLink, keyStream, keyStack, keyPort, keyTpg, key, RBay.BAY_STATE, ne_eq, R.SWITCH_STATUS, List.mem_range, List.mem_cons, List.not_mem_nil, or_false] at *; omega) | (split <;> first | decide | (simp only [keyB, keyC, keyCap, keySite, keyPc, keyA, keyG, keyBench, keyNode, keyEng, keyDma, keyLane, keyLink, keyStream, keyStack, keyPort, keyTpg, key, RBay.BAY_STATE, ne_eq, R.SWITCH_STATUS]; omega)))
    | (with_reducible first | apply State.answer_bst | apply State.setO_bst)

theorem State.requestSwitch_bst {q : Bay} {s : State} {x_s : State} (h_x_s : Bst q s x_s) : Bst q s (State.requestSwitch x_s) := by
  unfold State.requestSwitch
  repeat' first
    | (with_reducible first | assumption | exact Bst.refl _)
    | (show _ ≠ _; first | decide | omega | (simp only [keyB, keyC, keyCap, keySite, keyPc, keyA, keyG, keyBench, keyNode, keyEng, keyDma, keyLane, keyLink, keyStream, keyStack, keyPort, keyTpg, key, RBay.BAY_STATE, ne_eq, R.STANDBY_STATE, R.SWITCH_STATUS]; omega) | (simp only [keyB, keyC, keyCap, keySite, keyPc, keyA, keyG, keyBench, keyNode, keyEng, keyDma, keyLane, keyLink, keyStream, keyStack, keyPort, keyTpg, key, RBay.BAY_STATE, ne_eq, R.STANDBY_STATE, R.SWITCH_STATUS, List.mem_range, List.mem_cons, List.not_mem_nil, or_false] at *; omega) | (split <;> first | decide | (simp only [keyB, keyC, keyCap, keySite, keyPc, keyA, keyG, keyBench, keyNode, keyEng, keyDma, keyLane, keyLink, keyStream, keyStack, keyPort, keyTpg, key, RBay.BAY_STATE, ne_eq, R.STANDBY_STATE, R.SWITCH_STATUS]; omega)))
    | (with_reducible first | apply State.refuseSwitch_bst | apply State.ok_bst | apply State.setO_bst | apply Bst.ite)
    | (refine Bst.upd ?_)

theorem State.gap_bst {q : Bay} {s : State} {x_s : State} {x_how : Nat} (h_x_s : Bst q s x_s) : Bst q s (State.gap x_s x_how) := by
  unfold State.gap
  repeat' first
    | (with_reducible first | assumption | exact Bst.refl _ | apply State.feed_bst | apply State.closeSessions_bst)
    | (refine Bst.upd ?_)

theorem State.standbyIn_bst {q : Bay} {s : State} {x_s : State} {x_verified : Bool} (h_x_s : Bst q s x_s) : Bst q s (State.standbyIn x_s x_verified) := by
  unfold State.standbyIn
  repeat' first
    | (with_reducible first | assumption | exact Bst.refl _)
    | (show _ ≠ _; first | decide | omega | (simp only [keyB, keyC, keyCap, keySite, keyPc, keyA, keyG, keyBench, keyNode, keyEng, keyDma, keyLane, keyLink, keyStream, keyStack, keyPort, keyTpg, key, RBay.BAY_STATE, ne_eq, R.STANDBY_STATE, R.SWITCH_STATUS]; omega) | (simp only [keyB, keyC, keyCap, keySite, keyPc, keyA, keyG, keyBench, keyNode, keyEng, keyDma, keyLane, keyLink, keyStream, keyStack, keyPort, keyTpg, key, RBay.BAY_STATE, ne_eq, R.STANDBY_STATE, R.SWITCH_STATUS, List.mem_range, List.mem_cons, List.not_mem_nil, or_false] at *; omega) | (split <;> first | decide | (simp only [keyB, keyC, keyCap, keySite, keyPc, keyA, keyG, keyBench, keyNode, keyEng, keyDma, keyLane, keyLink, keyStream, keyStack, keyPort, keyTpg, key, RBay.BAY_STATE, ne_eq, R.STANDBY_STATE, R.SWITCH_STATUS]; omega)))
    | (with_reducible first | apply State.gap_bst | apply State.setO_bst | apply Bst.ite)
    | (refine Bst.upd ?_)

theorem State.controlFault_bst {q : Bay} {s : State} {x_s : State} {x_core : Nat} (h_x_s : Bst q s x_s) : Bst q s (State.controlFault x_s x_core) := by
  unfold State.controlFault
  repeat' first
    | (with_reducible first | assumption | exact Bst.refl _)
    | (show _ ≠ _; first | decide | omega | (simp only [keyB, keyC, keyCap, keySite, keyPc, keyA, keyG, keyBench, keyNode, keyEng, keyDma, keyLane, keyLink, keyStream, keyStack, keyPort, keyTpg, key, RBay.BAY_STATE, ne_eq, R.ACTIVE_CORE, R.STANDBY_STATE, R.SWITCH_STATUS]; omega) | (simp only [keyB, keyC, keyCap, keySite, keyPc, keyA, keyG, keyBench, keyNode, keyEng, keyDma, keyLane, keyLink, keyStream, keyStack, keyPort, keyTpg, key, RBay.BAY_STATE, ne_eq, R.ACTIVE_CORE, R.STANDBY_STATE, R.SWITCH_STATUS, List.mem_range, List.mem_cons, List.not_mem_nil, or_false] at *; omega) | (split <;> first | decide | (simp only [keyB, keyC, keyCap, keySite, keyPc, keyA, keyG, keyBench, keyNode, keyEng, keyDma, keyLane, keyLink, keyStream, keyStack, keyPort, keyTpg, key, RBay.BAY_STATE, ne_eq, R.ACTIVE_CORE, R.STANDBY_STATE, R.SWITCH_STATUS]; omega)))
    | (intro x_1; refine (fun hx : Bst q s x_1 => ?_) ?_; (clear_value x_1); rotate_left; (unfold x_1))
    | (intro x_1; clear_value x_1)
    | intro _
    | (with_reducible first | apply State.fault_bst | apply State.gap_bst | apply State.closeSessions_bst | apply State.setO_bst | apply Bst.ite)
    | lift_lets -underBinder
    | (refine Bst.upd ?_)

theorem State.takeover_bst {q : Bay} {s : State} {x_s : State} (h_x_s : Bst q s x_s) : Bst q s (State.takeover x_s) := by
  unfold State.takeover
  repeat' first
    | (with_reducible first | assumption | exact Bst.refl _)
    | (show _ ≠ _; first | decide | omega | (simp only [keyB, keyC, keyCap, keySite, keyPc, keyA, keyG, keyBench, keyNode, keyEng, keyDma, keyLane, keyLink, keyStream, keyStack, keyPort, keyTpg, key, RBay.BAY_STATE, ne_eq, R.ACTIVE_CORE, R.FIRMWARE_VERSION, R.FW_ACTIVE_SLOT, R.STANDBY_STATE, R.SWITCHOVERS, R.SWITCH_STATUS]; omega) | (simp only [keyB, keyC, keyCap, keySite, keyPc, keyA, keyG, keyBench, keyNode, keyEng, keyDma, keyLane, keyLink, keyStream, keyStack, keyPort, keyTpg, key, RBay.BAY_STATE, ne_eq, R.ACTIVE_CORE, R.FIRMWARE_VERSION, R.FW_ACTIVE_SLOT, R.STANDBY_STATE, R.SWITCHOVERS, R.SWITCH_STATUS, List.mem_range, List.mem_cons, List.not_mem_nil, or_false] at *; omega) | (split <;> first | decide | (simp only [keyB, keyC, keyCap, keySite, keyPc, keyA, keyG, keyBench, keyNode, keyEng, keyDma, keyLane, keyLink, keyStream, keyStack, keyPort, keyTpg, key, RBay.BAY_STATE, ne_eq, R.ACTIVE_CORE, R.FIRMWARE_VERSION, R.FW_ACTIVE_SLOT, R.STANDBY_STATE, R.SWITCHOVERS, R.SWITCH_STATUS]; omega)))
    | (intro x_1; refine (fun hx : Bst q s x_1 => ?_) ?_; (clear_value x_1); rotate_left; (unfold x_1))
    | (intro x_1; clear_value x_1)
    | intro _
    | (with_reducible first | apply State.incO_bst | apply State.setO_bst | apply State.event_bst | apply Bst.ite)
    | lift_lets -underBinder
    | (refine Bst.upd ?_)

theorem execSupplyValid_bst {q : Bay} {s : State} {x_n : Fin 8} {x_inOrder : Bool} {x_s : State} (h_x_s : Bst q s x_s) : BstN q s (execSupplyValid x_n x_inOrder x_s) := by
  unfold execSupplyValid
  repeat' first
    | (with_reducible first | assumption | exact Bst.refl _)
    | intro _
    | (with_reducible first | apply State.keeper_bst | apply State.supplyUp_bst | apply BstN.next | apply BstN.ite)

theorem execSupplyTimeout_bst {q : Bay} {s : State} {x_n : Fin 8} {x_s : State} (h_x_s : Bst q s x_s) : BstN q s (execSupplyTimeout x_n x_s) := by
  unfold execSupplyTimeout
  repeat' first
    | (with_reducible first | assumption | exact Bst.refl _)
    | intro _
    | (with_reducible first | apply State.keeper_bst | apply State.advance_bst | apply BstN.next | apply BstN.ite | apply Bst.ite)

theorem execSupplyFault_bst {q : Bay} {s : State} {x_n : Fin 8} {x_s : State} (h_x_s : Bst q s x_s) : BstN q s (execSupplyFault x_n x_s) := by
  unfold execSupplyFault
  repeat' first
    | (with_reducible first | assumption | exact Bst.refl _)
    | intro _
    | (with_reducible first | apply State.keeper_bst | apply State.supplyDown_bst | apply BstN.next | apply BstN.ite)

theorem execVauxLoss_bst {q : Bay} {s : State} {x_s : State} (h_x_s : Bst q s x_s) : BstN q s (execVauxLoss x_s) := by
  unfold execVauxLoss
  repeat' first
    | (with_reducible first | assumption | exact Bst.refl _ | apply State.keeper_bst | apply State.vauxLost_bst | apply BstN.next | apply BstN.ite)

theorem execVauxReturn_bst {q : Bay} {s : State} {x_s : State} (h_x_s : Bst q s x_s) : BstN q s (execVauxReturn x_s) := by
  unfold execVauxReturn
  repeat' first
    | (with_reducible first | assumption | exact Bst.refl _ | apply State.keeper_bst | apply State.vauxBack_bst | apply BstN.next | apply BstN.ite)

theorem execHoldupDepleted_bst {q : Bay} {s : State} {x_s : State} (h_x_s : Bst q s x_s) : BstN q s (execHoldupDepleted x_s) := by
  unfold execHoldupDepleted
  repeat' first
    | (with_reducible first | assumption | exact Bst.refl _ | apply BstN.next | apply BstN.ite | apply Bst.ite)
    | (refine Bst.upd ?_)

theorem execRefInDetect_bst {q : Bay} {s : State} {x_hz : Nat} {x_s : State} (h_x_s : Bst q s x_s) : BstN q s (execRefInDetect x_hz x_s) := by
  unfold execRefInDetect
  repeat' first
    | (with_reducible first | assumption | exact Bst.refl _)
    | (show _ ≠ _; first | decide | omega | (simp only [keyB, keyC, keyCap, keySite, keyPc, keyA, keyG, keyBench, keyNode, keyEng, keyDma, keyLane, keyLink, keyStream, keyStack, keyPort, keyTpg, key, RBay.BAY_STATE, ne_eq, R.REF_STATE, R.START_STAGE]; omega) | (simp only [keyB, keyC, keyCap, keySite, keyPc, keyA, keyG, keyBench, keyNode, keyEng, keyDma, keyLane, keyLink, keyStream, keyStack, keyPort, keyTpg, key, RBay.BAY_STATE, ne_eq, R.REF_STATE, R.START_STAGE, List.mem_range, List.mem_cons, List.not_mem_nil, or_false] at *; omega) | (split <;> first | decide | (simp only [keyB, keyC, keyCap, keySite, keyPc, keyA, keyG, keyBench, keyNode, keyEng, keyDma, keyLane, keyLink, keyStream, keyStack, keyPort, keyTpg, key, RBay.BAY_STATE, ne_eq, R.REF_STATE, R.START_STAGE]; omega)))
    | intro _
    | (with_reducible first | apply State.keeper_bst | apply State.setO_bst | apply BstN.next | apply BstN.ite | apply Bst.ite)

theorem execRefInFault_bst {q : Bay} {s : State} {x_absent : Bool} {x_offFrequency : Bool} {x_s : State} (h_x_s : Bst q s x_s) : BstN q s (execRefInFault x_absent x_offFrequency x_s) := by
  unfold execRefInFault
  repeat' first
    | (with_reducible first | assumption | exact Bst.refl _)
    | (show _ ≠ _; first | decide | omega | (simp only [keyB, keyC, keyCap, keySite, keyPc, keyA, keyG, keyBench, keyNode, keyEng, keyDma, keyLane, keyLink, keyStream, keyStack, keyPort, keyTpg, key, RBay.BAY_STATE, ne_eq, R.REF_STATE, R.START_STAGE]; omega) | (simp only [keyB, keyC, keyCap, keySite, keyPc, keyA, keyG, keyBench, keyNode, keyEng, keyDma, keyLane, keyLink, keyStream, keyStack, keyPort, keyTpg, key, RBay.BAY_STATE, ne_eq, R.REF_STATE, R.START_STAGE, List.mem_range, List.mem_cons, List.not_mem_nil, or_false] at *; omega) | (split <;> first | decide | (simp only [keyB, keyC, keyCap, keySite, keyPc, keyA, keyG, keyBench, keyNode, keyEng, keyDma, keyLane, keyLink, keyStream, keyStack, keyPort, keyTpg, key, RBay.BAY_STATE, ne_eq, R.REF_STATE, R.START_STAGE]; omega)))
    | intro _
    | (with_reducible first | apply State.keeper_bst | apply State.fault_bst | apply State.setO_bst | apply BstN.next | apply BstN.ite | apply Bst.ite)

theorem execStartTimeout_bst {q : Bay} {s : State} {x_s : State} (h_x_s : Bst q s x_s) : BstN q s (execStartTimeout x_s) := by
  unfold execStartTimeout
  repeat' first
    | (with_reducible first | assumption | exact Bst.refl _ | apply State.keeper_bst | apply State.startLate_bst | apply BstN.next | apply BstN.ite)

theorem execHoldupCheckRequest_bst {q : Bay} {s : State} {x_s : State} (h_x_s : Bst q s x_s) : BstN q s (execHoldupCheckRequest x_s) := by
  unfold execHoldupCheckRequest
  repeat' first
    | (with_reducible first | assumption | exact Bst.refl _)
    | intro _
    | (with_reducible first | apply State.keeper_bst | apply State.ok_bst | apply BstN.next | apply BstN.ite)
    | (refine Bst.upd ?_)

theorem execHoldupIntervalExpiry_bst {q : Bay} {s : State} {x_s : State} (h_x_s : Bst q s x_s) : BstN q s (execHoldupIntervalExpiry x_s) := by
  unfold execHoldupIntervalExpiry
  repeat' first
    | (with_reducible first | assumption | exact Bst.refl _)
    | (intro x_1; refine (fun hx : Bst q s x_1 => ?_) ?_; (clear_value x_1); rotate_left; (unfold x_1))
    | (intro x_1; clear_value x_1)
    | intro _
    | (with_reducible first | apply State.keeper_bst | apply State.advance_bst | exact BstO.none | apply BstO.some | apply BstO.ite | apply BstN.next | apply BstN.ite)
    | lift_lets -underBinder
    | split
    | (refine Bst.upd ?_)

theorem execHoldupCheckComplete_bst {q : Bay} {s : State} {x_smp : Sample} {x_s : State} (h_x_s : Bst q s x_s) : BstN q s (execHoldupCheckComplete x_smp x_s) := by
  unfold execHoldupCheckComplete
  repeat' first
    | (with_reducible first | assumption | exact Bst.refl _)
    | intro _
    | (with_reducible first | apply State.keeper_bst | apply State.checkDone_bst | apply BstN.next | apply BstN.ite)

theorem execHoldupRecheck_bst {q : Bay} {s : State} {x_s : State} (h_x_s : Bst q s x_s) : BstN q s (execHoldupRecheck x_s) := by
  unfold execHoldupRecheck
  repeat' first
    | (with_reducible first | assumption | exact Bst.refl _)
    | intro _
    | (with_reducible first | apply State.keeper_bst | apply State.advance_bst | exact BstO.none | apply BstO.some | apply BstO.ite | apply BstN.next | apply BstN.ite)
    | split
    | (refine Bst.upd ?_)

theorem execSwitchoverRequest_bst {q : Bay} {s : State} {x_s : State} (h_x_s : Bst q s x_s) : BstN q s (execSwitchoverRequest x_s) := by
  unfold execSwitchoverRequest
  repeat' first
    | (with_reducible first | assumption | exact Bst.refl _ | apply State.hostFirm_bst | apply State.requestSwitch_bst | apply BstN.next | apply BstN.ite)

theorem execStandbyLoaded_bst {q : Bay} {s : State} {x_verified : Bool} {x_s : State} (h_x_s : Bst q s x_s) : BstN q s (execStandbyLoaded x_verified x_s) := by
  unfold execStandbyLoaded
  repeat' first
    | (with_reducible first | assumption | exact Bst.refl _ | apply State.standbyIn_bst | apply BstN.next | apply BstN.ite)

theorem execControlCoreFault_bst {q : Bay} {s : State} {x_core : Fin 2} {x_s : State} (h_x_s : Bst q s x_s) : BstN q s (execControlCoreFault x_core x_s) := by
  unfold execControlCoreFault
  repeat' first
    | (with_reducible first | assumption | exact Bst.refl _ | apply State.controlFault_bst | apply BstN.next | apply BstN.ite | apply Bst.ite)

theorem execSwitchoverTakeover_bst {q : Bay} {s : State} {x_s : State} (h_x_s : Bst q s x_s) : BstN q s (execSwitchoverTakeover x_s) := by
  unfold execSwitchoverTakeover
  repeat' first
    | (with_reducible first | assumption | exact Bst.refl _ | apply State.takeover_bst | apply BstN.next | apply BstN.ite)

theorem execStandbyRestart_bst {q : Bay} {s : State} {x_s : State} (h_x_s : Bst q s x_s) : BstN q s (execStandbyRestart x_s) := by
  unfold execStandbyRestart
  repeat' first
    | (with_reducible first | assumption | exact Bst.refl _)
    | (show _ ≠ _; first | decide | omega | (simp only [keyB, keyC, keyCap, keySite, keyPc, keyA, keyG, keyBench, keyNode, keyEng, keyDma, keyLane, keyLink, keyStream, keyStack, keyPort, keyTpg, key, RBay.BAY_STATE, ne_eq, R.STANDBY_STATE]; omega) | (simp only [keyB, keyC, keyCap, keySite, keyPc, keyA, keyG, keyBench, keyNode, keyEng, keyDma, keyLane, keyLink, keyStream, keyStack, keyPort, keyTpg, key, RBay.BAY_STATE, ne_eq, R.STANDBY_STATE, List.mem_range, List.mem_cons, List.not_mem_nil, or_false] at *; omega) | (split <;> first | decide | (simp only [keyB, keyC, keyCap, keySite, keyPc, keyA, keyG, keyBench, keyNode, keyEng, keyDma, keyLane, keyLink, keyStream, keyStack, keyPort, keyTpg, key, RBay.BAY_STATE, ne_eq, R.STANDBY_STATE]; omega)))
    | (with_reducible first | apply State.setO_bst | apply BstN.next | apply BstN.ite | apply Bst.ite)
    | (refine Bst.upd ?_)

theorem execJtagInstruction_bst {q : Bay} {s : State} {x_i : JtagInstr} {x_s : State} (h_x_s : Bst q s x_s) : BstN q s (execJtagInstruction x_i x_s) := by
  unfold execJtagInstruction
  repeat' first
    | (with_reducible first | assumption | exact Bst.refl _ | apply BstN.next | apply BstN.ite | apply Bst.ite)
    | (refine Bst.upd ?_)

end Sys2Proof.Machine
end

