-- ==== Sys2Proof/Laws/BstCommit.lean ====
section
/-! SUPPORT. What the operations of Machine/Commit.lean keep. -/

set_option linter.all false

namespace Sys2Proof.Machine

theorem State.putShadow_bst {q : Bay} {s : State} {x_s : State} {x_x : Staged} (h_x_s : Bst q s x_s) : Bst q s (State.putShadow x_s x_x) := by
  unfold State.putShadow
  repeat' first
    | (with_reducible first | assumption | exact Bst.refl _)
    | (show _ ≠ _; first | decide | omega | (simp only [keyB, keyC, keyCap, keySite, keyPc, keyA, keyG, keyBench, keyNode, keyEng, keyDma, keyLane, keyLink, keyStream, keyStack, keyPort, keyTpg, key, RBay.BAY_STATE, ne_eq, RBay.COMMIT_STATUS]; omega) | (simp only [keyB, keyC, keyCap, keySite, keyPc, keyA, keyG, keyBench, keyNode, keyEng, keyDma, keyLane, keyLink, keyStream, keyStack, keyPort, keyTpg, key, RBay.BAY_STATE, ne_eq, RBay.COMMIT_STATUS, List.mem_range, List.mem_cons, List.not_mem_nil, or_false] at *; omega) | (split <;> first | decide | (simp only [keyB, keyC, keyCap, keySite, keyPc, keyA, keyG, keyBench, keyNode, keyEng, keyDma, keyLane, keyLink, keyStream, keyStack, keyPort, keyTpg, key, RBay.BAY_STATE, ne_eq, RBay.COMMIT_STATUS]; omega)))
    | (intro x_1; refine (fun hx : Bst q s x_1 => ?_) ?_; (clear_value x_1); rotate_left; (unfold x_1))
    | (intro x_1; clear_value x_1)
    | intro _
    | (with_reducible first | apply State.setB_bst | apply Bst.ite | apply Bst.dite)
    | lift_lets -underBinder
    | (refine Bst.upd ?_)

theorem State.dropShadow_bst {q : Bay} {s : State} {x_s : State} {x_unit : Nat} (h_x_s : Bst q s x_s) : Bst q s (State.dropShadow x_s x_unit) := by
  unfold State.dropShadow
  repeat' first
    | (with_reducible first | assumption | exact Bst.refl _)
    | (refine Bst.upd ?_)

theorem State.showSite_bst {q : Bay} {s : State} {x_s : State} {x_b : Bay} (h_x_s : Bst q s x_s) : Bst q s (State.showSite x_s x_b) := by
  unfold State.showSite
  repeat' first
    | (with_reducible first | assumption | exact Bst.refl _)
    | (show _ ≠ _; first | decide | omega | (simp only [keyB, keyC, keyCap, keySite, keyPc, keyA, keyG, keyBench, keyNode, keyEng, keyDma, keyLane, keyLink, keyStream, keyStack, keyPort, keyTpg, key, RBay.BAY_STATE, ne_eq, RBay.CURRENT_SITE, RBay.QUAD_SITE]; omega) | (simp only [keyB, keyC, keyCap, keySite, keyPc, keyA, keyG, keyBench, keyNode, keyEng, keyDma, keyLane, keyLink, keyStream, keyStack, keyPort, keyTpg, key, RBay.BAY_STATE, ne_eq, RBay.CURRENT_SITE, RBay.QUAD_SITE, List.mem_range, List.mem_cons, List.not_mem_nil, or_false] at *; omega) | (split <;> first | decide | (simp only [keyB, keyC, keyCap, keySite, keyPc, keyA, keyG, keyBench, keyNode, keyEng, keyDma, keyLane, keyLink, keyStream, keyStack, keyPort, keyTpg, key, RBay.BAY_STATE, ne_eq, RBay.CURRENT_SITE, RBay.QUAD_SITE]; omega)))
    | (intro x_1; refine (fun hx : Bst q s x_1 => ?_) ?_; (clear_value x_1); rotate_left; (unfold x_1))
    | (intro x_1; clear_value x_1)
    | intro _
    | (with_reducible first | apply State.setB_bst | exact BstO.none | apply BstO.some | apply BstO.ite)
    | lift_lets -underBinder
    | split
    | (refine Bst.upd ?_)

theorem State.dissolve_bst {q : Bay} {s : State} {x_s : State} {x_bs : List Bay} (h_x_s : Bst q s x_s) : Bst q s (State.dissolve x_s x_bs) := by
  unfold State.dissolve
  repeat' first
    | (with_reducible first | assumption | exact Bst.refl _)
    | intro _
    | (with_reducible first | apply State.each_bst | apply State.freeClaim_bst | exact BstO.none | apply BstO.some | apply BstO.ite | apply Bst.ite)
    | split
    | (refine Bst.upd ?_)

theorem State.report_bst {q : Bay} {s : State} {x_s : State} {x_unit : Nat} {x_status : Nat} {x_reason : Nat} (h_x_s : Bst q s x_s) : Bst q s (State.report x_s x_unit x_status x_reason) := by
  unfold State.report
  repeat' first
    | (with_reducible first | assumption | exact Bst.refl _)
    | (show _ ≠ _; first | decide | omega | (simp only [keyB, keyC, keyCap, keySite, keyPc, keyA, keyG, keyBench, keyNode, keyEng, keyDma, keyLane, keyLink, keyStream, keyStack, keyPort, keyTpg, key, RBay.BAY_STATE, ne_eq, RBay.COMMIT_REASON, RBay.COMMIT_STATUS]; omega) | (simp only [keyB, keyC, keyCap, keySite, keyPc, keyA, keyG, keyBench, keyNode, keyEng, keyDma, keyLane, keyLink, keyStream, keyStack, keyPort, keyTpg, key, RBay.BAY_STATE, ne_eq, RBay.COMMIT_REASON, RBay.COMMIT_STATUS, List.mem_range, List.mem_cons, List.not_mem_nil, or_false] at *; omega) | (split <;> first | decide | (simp only [keyB, keyC, keyCap, keySite, keyPc, keyA, keyG, keyBench, keyNode, keyEng, keyDma, keyLane, keyLink, keyStream, keyStack, keyPort, keyTpg, key, RBay.BAY_STATE, ne_eq, RBay.COMMIT_REASON, RBay.COMMIT_STATUS]; omega)))
    | (intro x_1; refine (fun hx : Bst q s x_1 => ?_) ?_; (clear_value x_1); rotate_left; (unfold x_1))
    | (intro x_1; clear_value x_1)
    | intro _
    | (with_reducible first | apply State.modBay_bst | apply State.setB_bst | apply Bst.ite | apply Bst.dite)
    | lift_lets -underBinder
    | (refine Bst.upd ?_)

theorem State.refuseUnit_bst {q : Bay} {s : State} {x_s : State} {x_unit : Nat} {x_reason : Nat} (h_x_s : Bst q s x_s) : Bst q s (State.refuseUnit x_s x_unit x_reason) := by
  unfold State.refuseUnit
  repeat' first
    | (with_reducible first | assumption | exact Bst.refl _ | apply State.report_bst)

theorem State.startCommit_bst {q : Bay} {s : State} {x_s : State} {x_session : Option Nat} {x_tag : Nat} {x_units : List (Nat × Nat)} (h_x_s : Bst q s x_s) : Bst q s (State.startCommit x_s x_session x_tag x_units) := by
  unfold State.startCommit
  repeat' first
    | (with_reducible first | assumption | exact Bst.refl _)
    | (show _ ≠ _; first | decide | omega | (simp only [keyB, keyC, keyCap, keySite, keyPc, keyA, keyG, keyBench, keyNode, keyEng, keyDma, keyLane, keyLink, keyStream, keyStack, keyPort, keyTpg, key, RBay.BAY_STATE, ne_eq, R.COMMIT_WINDOW, RBay.COMMIT_TAG, RGraph.GRAPH_EPOCH, RGraph.GRAPH_STATE]; omega) | (simp only [keyB, keyC, keyCap, keySite, keyPc, keyA, keyG, keyBench, keyNode, keyEng, keyDma, keyLane, keyLink, keyStream, keyStack, keyPort, keyTpg, key, RBay.BAY_STATE, ne_eq, R.COMMIT_WINDOW, RBay.COMMIT_TAG, RGraph.GRAPH_EPOCH, RGraph.GRAPH_STATE, List.mem_range, List.mem_cons, List.not_mem_nil, or_false] at *; omega) | (split <;> first | decide | (simp only [keyB, keyC, keyCap, keySite, keyPc, keyA, keyG, keyBench, keyNode, keyEng, keyDma, keyLane, keyLink, keyStream, keyStack, keyPort, keyTpg, key, RBay.BAY_STATE, ne_eq, R.COMMIT_WINDOW, RBay.COMMIT_TAG, RGraph.GRAPH_EPOCH, RGraph.GRAPH_STATE]; omega)))
    | (intro x_1; refine (fun hx : Bst q s x_1 => ?_) ?_; (clear_value x_1); rotate_left; (unfold x_1))
    | (intro x_1; clear_value x_1)
    | intro _
    | (with_reducible first | apply State.each_bst | apply State.setB_bst | apply State.setG_bst | exact BstO.none | apply BstO.some | apply BstO.ite | apply Bst.ite)
    | lift_lets -underBinder
    | split
    | (refine Bst.upd ?_)

theorem State.staleCommit_bst {q : Bay} {s : State} {x_s : State} {x_b : Bay} (h_x_s : Bst q s x_s) : Bst q s (State.staleCommit x_s x_b) := by
  unfold State.staleCommit
  repeat' first
    | (with_reducible first | assumption | exact Bst.refl _ | apply State.stale_bst)
    | (refine Bst.upd ?_)

theorem State.laneBoundary_bst {q : Bay} {s : State} {x_s : State} {x_l : Lane} (h_x_s : Bst q s x_s) : Bst q s (State.laneBoundary x_s x_l) := by
  unfold State.laneBoundary
  repeat' first
    | (with_reducible first | assumption | exact Bst.refl _)
    | (intro x_1; refine (fun hx : Bst q s x_1 => ?_) ?_; (clear_value x_1); rotate_left; (unfold x_1))
    | (intro x_1; refine (fun hx : Bst q s x_1.1 => ?_) ?_; (clear_value x_1); rotate_left; (unfold x_1))
    | (intro x_1; clear_value x_1)
    | intro _
    | (with_reducible first | apply State.refuseUnit_bst | apply State.applyRate_bst | refine State.applyRate_bst_eq ?_ (by assumption) | apply State.report_bst | apply State.dropShadow_bst | apply Bst.ite | apply Bst.ite1)
    | lift_lets -underBinder
    | split
    | dsimp only
    | (refine Bst.upd ?_)

theorem State.resumeGraph_bst {q : Bay} {s : State} {x_s : State} (h_x_s : Bst q s x_s) : Bst q s (State.resumeGraph x_s) := by
  unfold State.resumeGraph
  repeat' first
    | (with_reducible first | assumption | exact Bst.refl _)
    | intro _
    | (with_reducible first | apply State.setG_bst | apply Bst.ite)
    | split
    | (refine Bst.upd ?_)

theorem State.refuseFabric_bst {q : Bay} {s : State} {x_s : State} {x_reason : Nat} (h_x_s : Bst q s x_s) : Bst q s (State.refuseFabric x_s x_reason) := by
  unfold State.refuseFabric
  repeat' first
    | (with_reducible first | assumption | exact Bst.refl _ | apply State.refuseUnit_bst | apply State.resumeGraph_bst)

theorem State.cancelUnit_bst {q : Bay} {s : State} {x_s : State} {x_unit : Nat} (h_x_s : Bst q s x_s) : Bst q s (State.cancelUnit x_s x_unit) := by
  unfold State.cancelUnit
  repeat' first
    | (with_reducible first | assumption | exact Bst.refl _)
    | intro _
    | (with_reducible first | apply State.refuseFabric_bst | apply State.refuseUnit_bst | apply State.modLane_bst | apply Bst.dite | apply Bst.ite)
    | split
    | (refine Bst.upd ?_)

theorem State.cancelAll_bst {q : Bay} {s : State} {x_s : State} (h_x_s : Bst q s x_s) : Bst q s (State.cancelAll x_s) := by
  unfold State.cancelAll
  repeat' first
    | (with_reducible first | assumption | exact Bst.refl _)
    | intro _
    | (with_reducible first | apply State.each_bst | apply State.cancelUnit_bst | exact BstO.none | apply BstO.some | apply BstO.ite)
    | split
    | (refine Bst.upd ?_)

theorem State.closeCommit_bst {q : Bay} {s : State} {x_s : State} {x_c : CommitRun} (h_x_s : Bst q s x_s) : Bst q s (State.closeCommit x_s x_c) := by
  unfold State.closeCommit
  repeat' first
    | (with_reducible first | assumption | exact Bst.refl _)
    | (show _ ≠ _; first | decide | omega | (simp only [keyB, keyC, keyCap, keySite, keyPc, keyA, keyG, keyBench, keyNode, keyEng, keyDma, keyLane, keyLink, keyStream, keyStack, keyPort, keyTpg, key, RBay.BAY_STATE, ne_eq, R.APPLIED_MASK, R.COMMIT_REPORT, R.COMMIT_RESULT, R.COMMIT_TAG]; omega) | (simp only [keyB, keyC, keyCap, keySite, keyPc, keyA, keyG, keyBench, keyNode, keyEng, keyDma, keyLane, keyLink, keyStream, keyStack, keyPort, keyTpg, key, RBay.BAY_STATE, ne_eq, R.APPLIED_MASK, R.COMMIT_REPORT, R.COMMIT_RESULT, R.COMMIT_TAG, List.mem_range, List.mem_cons, List.not_mem_nil, or_false] at *; omega) | (split <;> first | decide | (simp only [keyB, keyC, keyCap, keySite, keyPc, keyA, keyG, keyBench, keyNode, keyEng, keyDma, keyLane, keyLink, keyStream, keyStack, keyPort, keyTpg, key, RBay.BAY_STATE, ne_eq, R.APPLIED_MASK, R.COMMIT_REPORT, R.COMMIT_RESULT, R.COMMIT_TAG]; omega)))
    | (intro x_1; refine (fun hx : Bst q s x_1 => ?_) ?_; (clear_value x_1); rotate_left; (unfold x_1))
    | (intro x_1; clear_value x_1)
    | intro _
    | with_reducible apply State.setO_bst
    | lift_lets -underBinder
    | (refine Bst.upd ?_)

end Sys2Proof.Machine
end

