-- ==== Sys2Proof/Laws/BstObjects.lean ====
section
/-! SUPPORT. What the operations of Machine/Objects.lean keep. -/

set_option linter.all false

namespace Sys2Proof.Machine

theorem Bst.iteG {q : Bay} {s : State} {c : Prop} [Decidable c] {a b : Got} (ha : Bst q s a.st) (hb : Bst q s b.st) :
    Bst q s (if c then a else b).st := by split <;> assumption

theorem gotReply_bst {q : Bay} {s : State} {x_s : State} {x_o : Host.Outcome State Fault Refusal} (h_x_s : Bst q s x_s)
    (h_x_o : BstN q s x_o) : Bst q s (gotReply x_s x_o).st := by
  unfold gotReply
  cases x_o with
  | next u => exact h_x_o.out rfl
  | fault _ => exact h_x_s
  | refused _ => exact h_x_s

theorem Got.no_bst {q : Bay} {s : State} {x_s : State} {x_st : Nat} (h_x_s : Bst q s x_s) : Bst q s (Got.no x_s x_st).st := by
  unfold Got.no
  repeat' first
    | (with_reducible first | assumption | exact Bst.refl _ | apply Bst.iteG)
    | dsimp only

theorem State.readBay_bst {q : Bay} {s : State} {x_s : State} {x_b : Bay} {x_r : Row} {x_o : Nat} {x_k : Nat} (h_x_s : Bst q s x_s) : Bst q s (State.readBay x_s x_b x_r x_o x_k).st := by
  unfold State.readBay
  repeat' first
    | (with_reducible first | assumption | exact Bst.refl _ | apply gotReply_bst | apply execResultRead_bst | refine (execResultRead_bst ?_).out (by assumption) | apply execResultBlockRead_bst | refine (execResultBlockRead_bst ?_).out (by assumption) | apply Got.no_bst | apply Bst.iteG | apply Bst.ite)
    | split
    | dsimp only
    | (refine Bst.upd ?_)

theorem State.readChan_bst {q : Bay} {s : State} {x_s : State} {x_r : Row} {x_index : Nat} {x_k : Nat} (h_x_s : Bst q s x_s) : Bst q s (State.readChan x_s x_r x_index x_k).st := by
  unfold State.readChan
  repeat' first
    | (with_reducible first | assumption | exact Bst.refl _ | apply Bst.iteG | apply Bst.ite)
    | dsimp only

theorem State.readModule_bst {q : Bay} {s : State} {x_s : State} {x_v : Via} {x_r : Row} {x_k : Nat} (h_x_s : Bst q s x_s) : Bst q s (State.readModule x_s x_v x_r x_k).st := by
  unfold State.readModule
  repeat' first
    | (with_reducible first | assumption | exact Bst.refl _)
    | intro _
    | (with_reducible first | apply gotReply_bst | apply execFaultLogNext_bst | refine (execFaultLogNext_bst ?_).out (by assumption) | apply execFaultLogRecord_bst | refine (execFaultLogRecord_bst ?_).out (by assumption) | apply execEventLogNext_bst | refine (execEventLogNext_bst ?_).out (by assumption) | apply execTsqEntryRead_bst | refine (execTsqEntryRead_bst ?_).out (by assumption) | apply Bst.iteG | apply Bst.ite)
    | dsimp only
    | (refine Bst.upd ?_)
    | (refine Bst.upd ?_)

theorem State.readRow_bst {q : Bay} {s : State} {x_s : State} {x_v : Via} {x_r : Row} {x_index : Nat} {x_sub : Nat} (h_x_s : Bst q s x_s) : Bst q s (State.readRow x_s x_v x_r x_index x_sub).st := by
  unfold State.readRow
  repeat' first
    | (with_reducible first | assumption | exact Bst.refl _ | apply Got.no_bst | apply State.readBay_bst | apply State.readChan_bst | apply State.readModule_bst | apply Bst.iteG | exact BstO.none | apply BstO.some | apply BstO.ite | apply Bst.ite)
    | split
    | dsimp only
    | (refine Bst.upd ?_)

theorem State.readVendor_bst {q : Bay} {s : State} {x_s : State} {x_v : Via} {x_k : Nat} (h_x_s : Bst q s x_s) : Bst q s (State.readVendor x_s x_v x_k).st := by
  unfold State.readVendor
  repeat' first
    | (with_reducible first | assumption | exact Bst.refl _ | apply Got.no_bst | apply Bst.iteG | exact BstO.none | apply BstO.some | apply BstO.ite | apply Bst.ite)
    | split
    | dsimp only
    | (refine Bst.upd ?_)
    | (refine Bst.upd ?_)

theorem State.readObj_bst {q : Bay} {s : State} {x_s : State} {x_v : Via} {x_a : ObjAddr} (h_x_s : Bst q s x_s) : Bst q s (State.readObj x_s x_v x_a).st := by
  unfold State.readObj
  repeat' first
    | (with_reducible first | assumption | exact Bst.refl _)
    | (intro x_1; refine (fun hx : Bst q s x_1 => ?_) ?_; (clear_value x_1); rotate_left; (unfold x_1))
    | (intro x_1; refine (fun hx : Bst q s x_1.st => ?_) ?_; (clear_value x_1); rotate_left; (unfold x_1))
    | (intro x_1; clear_value x_1)
    | intro _
    | (with_reducible first | apply State.readVendor_bst | apply Got.no_bst | apply State.readRow_bst | apply Bst.iteG | apply Bst.ite)
    | lift_lets -underBinder
    | split
    | dsimp only
    | (refine Bst.upd ?_)

end Sys2Proof.Machine
end

