-- ==== Sys2Proof/Laws/BstWrites.lean ====
section
/-! SUPPORT. What the operations of Machine/Writes.lean keep. -/

set_option linter.all false

namespace Sys2Proof.Machine

theorem after_bst {q : Bay} {s : State} {x_s : State} {x_o : Host.Outcome State Fault Refusal} (h_x_s : Bst q s x_s)
    (h_x_o : BstN q s x_o) : Bst q s (after x_s x_o) := by
  unfold after
  cases x_o with
  | next u => exact h_x_o.out rfl
  | fault _ => exact h_x_s
  | refused _ => exact h_x_s

theorem onOne_bst {q : Bay} {s : State} {x_s : State} {x_v : Nat} {x_o : Host.Outcome State Fault Refusal} (h_x_s : Bst q s x_s) (h_x_o : BstN q s x_o) : Bst q s (onOne x_s x_v x_o) := by
  unfold onOne
  repeat' first
    | (with_reducible first | assumption | exact Bst.refl _ | apply after_bst | apply State.ok_bst | apply Bst.ite)

theorem claimEffect_bst {q : Bay} {s : State} {x_s : State} {x_r : Resource} {x_e : BitVec 16} {x_v : Nat} (h_x_s : Bst q s x_s) : Bst q s (claimEffect x_s x_r x_e x_v) := by
  unfold claimEffect
  repeat' first
    | (with_reducible first | assumption | exact Bst.refl _)
    | (with_reducible first | apply after_bst | apply execResourceRelease_bst | apply execResourceClaim_bst | apply Bst.ite)
    | split

theorem chanEffect_bst {q : Bay} {s : State} {x_s : State} {x_c : Chan} {x_o : Nat} {x_e : BitVec 16} {x_data : Bytes} (h_x_s : Bst q s x_s) : Bst q s (chanEffect x_s x_c x_o x_e x_data) := by
  unfold chanEffect
  repeat' first
    | (with_reducible first | assumption | exact Bst.refl _)
    | (intro x_1; refine (fun hx : Bst q s x_1 => ?_) ?_; (clear_value x_1); rotate_left; (unfold x_1))
    | (intro x_1; clear_value x_1)
    | intro _
    | (with_reducible first | apply after_bst | apply execLevelSetWrite_bst | refine (execLevelSetWrite_bst ?_).out (by assumption) | apply execGuardThresholdWrite_bst | refine (execGuardThresholdWrite_bst ?_).out (by assumption) | apply onOne_bst | apply execTripClear_bst | refine (execTripClear_bst ?_).out (by assumption) | apply execPmuModeWrite_bst | refine (execPmuModeWrite_bst ?_).out (by assumption) | apply execPmuRangeWrite_bst | refine (execPmuRangeWrite_bst ?_).out (by assumption) | apply execMeasStart_bst | refine (execMeasStart_bst ?_).out (by assumption) | apply State.ok_bst | apply State.setC_bst | apply Bst.ite)
    | lift_lets -underBinder

theorem State.freeKey_bst {q : Bay} {s : State} {x_s : State} (h_x_s : Bst q s x_s) : Bst q s (State.freeKey x_s).2 := by
  unfold State.freeKey
  repeat' first
    | (with_reducible first | assumption | exact Bst.refl _)
    | intro _
    | (with_reducible first | apply Bst.ite2 | apply Bst.foldl)
    | dsimp only
    | (refine Bst.upd ?_)
    | (refine Bst.upd ?_)

theorem sessionEffect_bst {q : Bay} {s : State} {x_s : State} {x_i : Fin 16} {x_k : Nat} {x_data : Bytes} (h_x_s : Bst q s x_s) : Bst q s (sessionEffect x_s x_i x_k x_data) := by
  unfold sessionEffect
  repeat' first
    | (with_reducible first | assumption | exact Bst.refl _)
    | (intro x_1; refine (fun hx : Bst q s x_1 => ?_) ?_; (clear_value x_1); rotate_left; (unfold x_1))
    | (intro x_1; clear_value x_1)
    | intro _
    | (with_reducible first | apply State.answer_bst | apply State.ok_bst | apply State.answerD_bst | exact BstO.none | apply BstO.some | apply BstO.ite | apply Bst.ite)
    | lift_lets -underBinder
    | split
    | (refine Bst.upd ?_)

theorem State.rwsKeep_bst {q : Bay} {s : State} {x_s : State} {x_l : List (ObjAddr × Bytes)} (h_x_s : Bst q s x_s) : Bst q s (State.rwsKeep x_s x_l) := by
  unfold State.rwsKeep
  repeat' first
    | (with_reducible first | assumption | exact Bst.refl _)
    | (intro x_1; refine (fun hx : Bst q s x_1 => ?_) ?_; (clear_value x_1); rotate_left; (unfold x_1))
    | (intro x_1; clear_value x_1)
    | intro _
    | (with_reducible first | apply State.ledgerPut_bst | apply Bst.foldl)
    | lift_lets -underBinder
    | (refine Bst.upd ?_)

end Sys2Proof.Machine
end

