-- ==== Sys2Proof/Laws/BstDop.lean ====
section
/-! SUPPORT. What the operations of Machine/Dop.lean keep. -/

set_option linter.all false

namespace Sys2Proof.Machine

theorem State.modSession_bst {q : Bay} {s : State} {x_s : State} {x_i : Fin 16} {x_f : Session → Session} (h_x_s : Bst q s x_s) : Bst q s (State.modSession x_s x_i x_f) := by
  unfold State.modSession
  repeat' first
    | (with_reducible first | assumption | exact Bst.refl _)
    | (refine Bst.upd ?_)

theorem State.openSession_bst {q : Bay} {s : State} {x_s : State} {x_p : Fin 2} {x_c : Cert} (h_x_s : Bst q s x_s) : Bst q s (State.openSession x_s x_p x_c) := by
  unfold State.openSession
  repeat' first
    | (with_reducible first | assumption | exact Bst.refl _)
    | (intro x_1; refine (fun hx : Bst q s x_1 => ?_) ?_; (clear_value x_1); rotate_left; (unfold x_1))
    | (intro x_1; clear_value x_1)
    | intro _
    | (with_reducible first | apply State.showSessions_bst | exact BstO.none | apply BstO.some | apply BstO.ite)
    | lift_lets -underBinder
    | split
    | (refine Bst.upd ?_)

theorem State.keep_bst {q : Bay} {s : State} {x_s : State} {x_i : Fin 16} {x_req : Nat} (h_x_s : Bst q s x_s) : Bst q s (State.keep x_s x_i x_req) := by
  unfold State.keep
  repeat' first
    | (with_reducible first | assumption | exact Bst.refl _)
    | intro _
    | with_reducible apply State.modSession_bst
    | (refine Bst.upd ?_)

theorem State.doHello_bst {q : Bay} {s : State} {x_s : State} {x_i : Fin 16} {x_x : Session} {x_proto : Nat} {x_dict : Nat} {x_m : Sample} (h_x_s : Bst q s x_s) : Bst q s (State.doHello x_s x_i x_x x_proto x_dict x_m) := by
  unfold State.doHello
  repeat' first
    | (with_reducible first | assumption | exact Bst.refl _)
    | (intro x_1; refine (fun hx : Bst q s x_1 => ?_) ?_; (clear_value x_1); rotate_left; (unfold x_1))
    | (intro x_1; clear_value x_1)
    | intro _
    | (with_reducible first | apply State.answer_bst | apply State.writeAnchor_bst | apply State.ok_bst | apply State.answerBody_bst | apply State.modSession_bst | exact BstO.none | apply BstO.some | apply BstO.ite | apply Bst.ite)
    | lift_lets -underBinder
    | split
    | (refine Bst.upd ?_)

theorem readItems_bst {q : Bay} {s : State} {x_v : Via} {x_a1 : State} {x_a2 : Nat} {x_a3 : Nat} {x_a4 : Bytes} {x_a5 : List ObjAddr} (h_x_a1 : Bst q s x_a1) : Bst q s (readItems x_v x_a1 x_a2 x_a3 x_a4 x_a5) := by
  induction x_a5 generalizing x_v x_a1 x_a2 x_a3 x_a4 with
  | nil =>
    unfold readItems
    repeat' first
      | (with_reducible first | assumption | exact Bst.refl _)
      | (intro x_1; refine (fun hx : Bst q s x_1 => ?_) ?_; (clear_value x_1); rotate_left; (unfold x_1))
      | (intro x_1; refine (fun hx : Bst q s x_1.st => ?_) ?_; (clear_value x_1); rotate_left; (unfold x_1))
      | (intro x_1; clear_value x_1)
      | intro _
      | (with_reducible first | apply State.readObj_bst | apply Bst.iteG | apply Bst.ite)
      | lift_lets -underBinder
      | split
      | dsimp only
      | (refine Bst.upd ?_)
      | (dsimp only)
  | cons hd tl ih =>
    unfold readItems
    repeat' first
      | with_reducible apply ih
      | (with_reducible first | assumption | exact Bst.refl _)
      | (intro x_1; refine (fun hx : Bst q s x_1 => ?_) ?_; (clear_value x_1); rotate_left; (unfold x_1))
      | (intro x_1; refine (fun hx : Bst q s x_1.st => ?_) ?_; (clear_value x_1); rotate_left; (unfold x_1))
      | (intro x_1; clear_value x_1)
      | intro _
      | (with_reducible first | apply State.readObj_bst | apply Bst.iteG | apply Bst.ite)
      | lift_lets -underBinder
      | split
      | dsimp only
      | (refine Bst.upd ?_)
      | (dsimp only)

theorem State.failItem_bst {q : Bay} {s : State} {x_s : State} {x_n : Nat} (h_x_s : Bst q s x_s) : Bst q s (State.failItem x_s x_n) := by
  unfold State.failItem
  repeat' first
    | (with_reducible first | assumption | exact Bst.refl _)
    | (refine Bst.upd ?_)

theorem State.doBlockRead_bst {q : Bay} {s : State} {x_s : State} {x_i : Fin 16} {x_x : Session} {x_a : ObjAddr} {x_off : Nat} {x_len : Nat} (h_x_s : Bst q s x_s) : Bst q s (State.doBlockRead x_s x_i x_x x_a x_off x_len) := by
  unfold State.doBlockRead
  repeat' first
    | (with_reducible first | assumption | exact Bst.refl _)
    | (intro x_1; refine (fun hx : Bst q s x_1 => ?_) ?_; (clear_value x_1); rotate_left; (unfold x_1))
    | (intro x_1; refine (fun hx : Bst q s x_1.st => ?_) ?_; (clear_value x_1); rotate_left; (unfold x_1))
    | (intro x_1; clear_value x_1)
    | intro _
    | (with_reducible first | apply State.readObj_bst | apply State.answer_bst | apply Bst.iteG | apply Bst.ite)
    | lift_lets -underBinder
    | dsimp only
    | (refine Bst.upd ?_)

theorem State.stageBayItem_bst {q : Bay} {s : State} {x_s : State} {x_b : Bay} {x_index : Nat} {x_sub : Nat} {x_epoch : Nat} {x_data : Bytes} (h_x_s : Bst q s x_s) : Bst q s (State.stageBayItem x_s x_b x_index x_sub x_epoch x_data) := by
  unfold State.stageBayItem
  repeat' first
    | (with_reducible first | assumption | exact Bst.refl _)
    | (show _ ≠ _; first | decide | omega | (simp only [keyB, keyC, keyCap, keySite, keyPc, keyA, keyG, keyBench, keyNode, keyEng, keyDma, keyLane, keyLink, keyStream, keyStack, keyPort, keyTpg, key, RBay.BAY_STATE, ne_eq, RBay.SITE_EPOCH, RBay.TSET_BLOCK, RBay.TSET_ERROR, RBay.TSET_INDEX, RBay.TSET_RECORD]; omega) | (simp only [keyB, keyC, keyCap, keySite, keyPc, keyA, keyG, keyBench, keyNode, keyEng, keyDma, keyLane, keyLink, keyStream, keyStack, keyPort, keyTpg, key, RBay.BAY_STATE, ne_eq, RBay.SITE_EPOCH, RBay.TSET_BLOCK, RBay.TSET_ERROR, RBay.TSET_INDEX, RBay.TSET_RECORD, List.mem_range, List.mem_cons, List.not_mem_nil, or_false] at *; omega) | (split <;> first | decide | (simp only [keyB, keyC, keyCap, keySite, keyPc, keyA, keyG, keyBench, keyNode, keyEng, keyDma, keyLane, keyLink, keyStream, keyStack, keyPort, keyTpg, key, RBay.BAY_STATE, ne_eq, RBay.SITE_EPOCH, RBay.TSET_BLOCK, RBay.TSET_ERROR, RBay.TSET_INDEX, RBay.TSET_RECORD]; omega)))
    | (intro x_1; refine (fun hx : Bst q s x_1 => ?_) ?_; (clear_value x_1); rotate_left; (unfold x_1))
    | (intro x_1; clear_value x_1)
    | intro _
    | (with_reducible first | apply State.answer_bst | apply State.stale_bst | apply State.ok_bst | apply State.putShadow_bst | apply State.setB_bst | exact BstO.none | apply BstO.some | apply BstO.ite | apply Bst.ite)
    | lift_lets -underBinder
    | split
    | (refine Bst.upd ?_)

theorem State.stageSiteItem_bst {q : Bay} {s : State} {x_s : State} {x_index : Nat} {x_sub : Nat} {x_epoch : Nat} {x_data : Bytes} (h_x_s : Bst q s x_s) : Bst q s (State.stageSiteItem x_s x_index x_sub x_epoch x_data) := by
  unfold State.stageSiteItem
  repeat' first
    | (with_reducible first | assumption | exact Bst.refl _)
    | (intro x_1; refine (fun hx : Bst q s x_1 => ?_) ?_; (clear_value x_1); rotate_left; (unfold x_1))
    | (intro x_1; clear_value x_1)
    | intro _
    | (with_reducible first | apply State.answer_bst | apply State.answerD_bst | apply State.each_bst | apply State.stale_bst | apply State.ok_bst | apply State.putShadow_bst | apply Bst.ite)
    | lift_lets -underBinder

theorem State.stageGraphItem_bst {q : Bay} {s : State} {x_s : State} {x_index : Nat} {x_sub : Nat} {x_epoch : Nat} {x_data : Bytes} (h_x_s : Bst q s x_s) : Bst q s (State.stageGraphItem x_s x_index x_sub x_epoch x_data) := by
  unfold State.stageGraphItem
  repeat' first
    | (with_reducible first | assumption | exact Bst.refl _)
    | (intro x_1; refine (fun hx : Bst q s x_1 => ?_) ?_; (clear_value x_1); rotate_left; (unfold x_1))
    | (intro x_1; clear_value x_1)
    | intro _
    | (with_reducible first | apply State.answer_bst | apply State.answerD_bst | apply State.addG_bst | apply State.ok_bst | apply State.putShadow_bst | apply Bst.ite)
    | lift_lets -underBinder

theorem State.stageObj_bst {q : Bay} {s : State} {x_s : State} {x_v : Via} {x_w : WItem} (h_x_s : Bst q s x_s) : Bst q s (State.stageObj x_s x_v x_w) := by
  unfold State.stageObj
  repeat' first
    | (with_reducible first | assumption | exact Bst.refl _)
    | (intro x_1; refine (fun hx : Bst q s x_1 => ?_) ?_; (clear_value x_1); rotate_left; (unfold x_1))
    | (intro x_1; clear_value x_1)
    | intro _
    | (with_reducible first | apply State.answer_bst | apply State.stale_bst | apply State.stageBayItem_bst | apply State.stageSiteItem_bst | apply State.stageGraphItem_bst | apply State.ok_bst | apply State.putShadow_bst | exact BstO.none | apply BstO.some | apply BstO.ite | apply Bst.ite)
    | lift_lets -underBinder
    | split
    | (refine Bst.upd ?_)

theorem stageItems_bst {q : Bay} {s : State} {x_v : Via} {x_a1 : State} {x_a2 : Nat} {x_a3 : List WItem} (h_x_a1 : Bst q s x_a1) : Bst q s (stageItems x_v x_a1 x_a2 x_a3) := by
  induction x_a3 generalizing x_v x_a1 x_a2 with
  | nil =>
    unfold stageItems
    repeat' first
      | (with_reducible first | assumption | exact Bst.refl _)
      | (intro x_1; refine (fun hx : Bst q s x_1 => ?_) ?_; (clear_value x_1); rotate_left; (unfold x_1))
      | (intro x_1; clear_value x_1)
      | intro _
      | (with_reducible first | apply State.ok_bst | apply State.failItem_bst | apply State.stageObj_bst | apply Bst.ite)
      | lift_lets -underBinder
      | split
      | (dsimp only)
  | cons hd tl ih =>
    unfold stageItems
    repeat' first
      | with_reducible apply ih
      | (with_reducible first | assumption | exact Bst.refl _)
      | (intro x_1; refine (fun hx : Bst q s x_1 => ?_) ?_; (clear_value x_1); rotate_left; (unfold x_1))
      | (intro x_1; clear_value x_1)
      | intro _
      | (with_reducible first | apply State.ok_bst | apply State.failItem_bst | apply State.stageObj_bst | apply Bst.ite)
      | lift_lets -underBinder
      | split
      | (dsimp only)

theorem State.discardUnit_bst {q : Bay} {s : State} {x_s : State} {x_unit : Nat} {x_epoch : Nat} (h_x_s : Bst q s x_s) : Bst q s (State.discardUnit x_s x_unit x_epoch) := by
  unfold State.discardUnit
  repeat' first
    | (with_reducible first | assumption | exact Bst.refl _)
    | (show _ ≠ _; first | decide | omega | (simp only [keyB, keyC, keyCap, keySite, keyPc, keyA, keyG, keyBench, keyNode, keyEng, keyDma, keyLane, keyLink, keyStream, keyStack, keyPort, keyTpg, key, RBay.BAY_STATE, ne_eq, RBay.COMMIT_STATUS, RBay.SITE_EPOCH]; omega) | (simp only [keyB, keyC, keyCap, keySite, keyPc, keyA, keyG, keyBench, keyNode, keyEng, keyDma, keyLane, keyLink, keyStream, keyStack, keyPort, keyTpg, key, RBay.BAY_STATE, ne_eq, RBay.COMMIT_STATUS, RBay.SITE_EPOCH, List.mem_range, List.mem_cons, List.not_mem_nil, or_false] at *; omega) | (split <;> first | decide | (simp only [keyB, keyC, keyCap, keySite, keyPc, keyA, keyG, keyBench, keyNode, keyEng, keyDma, keyLane, keyLink, keyStream, keyStack, keyPort, keyTpg, key, RBay.BAY_STATE, ne_eq, RBay.COMMIT_STATUS, RBay.SITE_EPOCH]; omega)))
    | (intro x_1; refine (fun hx : Bst q s x_1 => ?_) ?_; (clear_value x_1); rotate_left; (unfold x_1))
    | (intro x_1; clear_value x_1)
    | intro _
    | (with_reducible first | apply State.answer_bst | apply State.stale_bst | apply State.ok_bst | apply State.setB_bst | apply State.dropShadow_bst | apply Bst.ite | apply Bst.dite)
    | lift_lets -underBinder

theorem discardUnits_bst {q : Bay} {s : State} {x_a0 : State} {x_a1 : Nat} {x_a2 : List UnitEntry} (h_x_a0 : Bst q s x_a0) : Bst q s (discardUnits x_a0 x_a1 x_a2) := by
  induction x_a2 generalizing x_a0 x_a1 with
  | nil =>
    unfold discardUnits
    repeat' first
      | (with_reducible first | assumption | exact Bst.refl _)
      | (intro x_1; refine (fun hx : Bst q s x_1 => ?_) ?_; (clear_value x_1); rotate_left; (unfold x_1))
      | (intro x_1; clear_value x_1)
      | intro _
      | (with_reducible first | apply State.discardUnit_bst | apply State.ok_bst | apply State.failItem_bst | apply Bst.ite)
      | lift_lets -underBinder
      | split
      | (dsimp only)
  | cons hd tl ih =>
    unfold discardUnits
    repeat' first
      | with_reducible apply ih
      | (with_reducible first | assumption | exact Bst.refl _)
      | (intro x_1; refine (fun hx : Bst q s x_1 => ?_) ?_; (clear_value x_1); rotate_left; (unfold x_1))
      | (intro x_1; clear_value x_1)
      | intro _
      | (with_reducible first | apply State.discardUnit_bst | apply State.ok_bst | apply State.failItem_bst | apply Bst.ite)
      | lift_lets -underBinder
      | split
      | (dsimp only)

theorem State.stageGate_bst {q : Bay} {s : State} {x_s : State} {x_x : Session} (x_k : State → State) (h_x_s : Bst q s x_s) (h_x_k : ∀ (v0 : State), Bst q s v0 → Bst q s (x_k v0)) : Bst q s (State.stageGate x_s x_x x_k) := by
  unfold State.stageGate
  repeat' first
    | (with_reducible first | assumption | exact Bst.refl _ | apply h_x_k | apply State.answer_bst | apply Bst.ite)

theorem State.doCommit_bst {q : Bay} {s : State} {x_s : State} {x_i : Fin 16} {x_req : Nat} {x_x : Session} {x_tag : Nat} {x_units : List UnitEntry} (h_x_s : Bst q s x_s) : Bst q s (State.doCommit x_s x_i x_req x_x x_tag x_units) := by
  unfold State.doCommit
  repeat' first
    | (with_reducible first | assumption | exact Bst.refl _)
    | (intro x_1; refine (fun hx : Bst q s x_1 => ?_) ?_; (clear_value x_1); rotate_left; (unfold x_1))
    | (intro x_1; clear_value x_1)
    | intro _
    | (with_reducible first | apply State.stageGate_bst | apply State.answer_bst | apply State.modSession_bst | apply State.startCommit_bst | exact BstO.none | apply BstO.some | apply BstO.ite | apply Bst.ite)
    | lift_lets -underBinder
    | (refine Bst.upd ?_)

theorem State.sendEvents_bst {q : Bay} {s : State} {x_s : State} {x_i : Fin 16} (h_x_s : Bst q s x_s) : Bst q s (State.sendEvents x_s x_i) := by
  unfold State.sendEvents
  repeat' first
    | (with_reducible first | assumption | exact Bst.refl _)
    | (intro x_1; refine (fun hx : Bst q s x_1 => ?_) ?_; (clear_value x_1); rotate_left; (unfold x_1))
    | (intro x_1; clear_value x_1)
    | intro _
    | (with_reducible first | apply State.answerBody_bst | apply State.modSession_bst | exact BstO.none | apply BstO.some | apply BstO.ite | apply Bst.ite)
    | lift_lets -underBinder
    | split
    | (refine Bst.upd ?_)

theorem State.holdEnds_bst {q : Bay} {s : State} {x_s : State} {x_i : Fin 16} {x_src : Nat} (h_x_s : Bst q s x_s) : Bst q s (State.holdEnds x_s x_i x_src) := by
  unfold State.holdEnds
  repeat' first
    | (with_reducible first | assumption | exact Bst.refl _)
    | intro _
    | (with_reducible first | apply State.advance_bst | exact BstO.none | apply BstO.some | apply BstO.ite)
    | split
    | (refine Bst.upd ?_)

theorem State.resend_bst {q : Bay} {s : State} {x_s : State} {x_i : Fin 16} (h_x_s : Bst q s x_s) : Bst q s (State.resend x_s x_i) := by
  unfold State.resend
  repeat' first
    | (with_reducible first | assumption | exact Bst.refl _)
    | (intro x_1; refine (fun hx : Bst q s x_1 => ?_) ?_; (clear_value x_1); rotate_left; (unfold x_1))
    | (intro x_1; clear_value x_1)
    | intro _
    | (with_reducible first | apply State.answerBody_bst | exact BstO.none | apply BstO.some | apply BstO.ite | apply Bst.ite)
    | lift_lets -underBinder
    | split
    | (refine Bst.upd ?_)

theorem State.freeData_bst {q : Bay} {s : State} {x_s : State} {x_n : Nat} (h_x_s : Bst q s x_s) : Bst q s (State.freeData x_s x_n).2 := by
  unfold State.freeData
  repeat' first
    | (with_reducible first | assumption | exact Bst.refl _)
    | intro _
    | with_reducible apply Bst.ite2
    | dsimp only
    | (refine Bst.upd ?_)
    | (refine Bst.upd ?_)

theorem State.portRead_bst {q : Bay} {s : State} {x_s : State} {x_a : ObjAddr} {x_off : Nat} {x_len : Nat} {x_complete : Bool} (h_x_s : Bst q s x_s) : Bst q s (State.portRead x_s x_a x_off x_len x_complete) := by
  unfold State.portRead
  repeat' first
    | (with_reducible first | assumption | exact Bst.refl _)
    | (intro x_1; refine (fun hx : Bst q s x_1 => ?_) ?_; (clear_value x_1); rotate_left; (unfold x_1))
    | (intro x_1; refine (fun hx : Bst q s x_1.2 => ?_) ?_; (clear_value x_1); rotate_left; (unfold x_1))
    | (intro x_1; refine (fun hx : Bst q s x_1.st => ?_) ?_; (clear_value x_1); rotate_left; (unfold x_1))
    | (intro x_1; clear_value x_1)
    | intro _
    | (with_reducible first | apply State.readObj_bst | apply State.freeData_bst | apply Bst.iteG | apply Bst.ite | apply Bst.ite2)
    | lift_lets -underBinder
    | dsimp only
    | (refine Bst.upd ?_)

theorem execSessionOpen_bst {q : Bay} {s : State} {x_port : Fin 2} {x_cert : Cert} {x_s : State} (h_x_s : Bst q s x_s) : BstN q s (execSessionOpen x_port x_cert x_s) := by
  unfold execSessionOpen
  repeat' first
    | (with_reducible first | assumption | exact Bst.refl _ | apply State.openSession_bst | apply BstN.next | apply BstN.ite)

theorem execSessionClose_bst {q : Bay} {s : State} {x_sid : Fin 16} {x_s : State} (h_x_s : Bst q s x_s) : BstN q s (execSessionClose x_sid x_s) := by
  unfold execSessionClose
  repeat' first
    | (with_reducible first | assumption | exact Bst.refl _ | apply State.closeSession_bst | apply BstN.next | apply BstN.ite)

theorem execSessionIdleTimeout_bst {q : Bay} {s : State} {x_sid : Fin 16} {x_s : State} (h_x_s : Bst q s x_s) : BstN q s (execSessionIdleTimeout x_sid x_s) := by
  unfold execSessionIdleTimeout
  repeat' first
    | (with_reducible first | assumption | exact Bst.refl _ | apply State.closeSession_bst | apply State.advance_bst | exact BstO.none | apply BstO.some | apply BstO.ite | apply BstN.next | apply BstN.ite)
    | split
    | (refine Bst.upd ?_)

theorem execBlockWriteAbandon_bst {q : Bay} {s : State} {x_sid : Fin 16} {x_s : State} (h_x_s : Bst q s x_s) : BstN q s (execBlockWriteAbandon x_sid x_s) := by
  unfold execBlockWriteAbandon
  repeat' first
    | (with_reducible first | assumption | exact Bst.refl _)
    | intro _
    | (with_reducible first | apply State.modSession_bst | apply State.advance_bst | exact BstO.none | apply BstO.some | apply BstO.ite | apply BstN.next | apply BstN.ite)
    | split
    | (refine Bst.upd ?_)

theorem execEventSend_bst {q : Bay} {s : State} {x_sid : Fin 16} {x_s : State} (h_x_s : Bst q s x_s) : BstN q s (execEventSend x_sid x_s) := by
  unfold execEventSend
  repeat' first
    | (with_reducible first | assumption | exact Bst.refl _ | apply State.sendEvents_bst | apply BstN.next | apply BstN.ite)

theorem execEventHoldExpiry_bst {q : Bay} {s : State} {x_sid : Fin 16} {x_src : BitVec 11} {x_s : State} (h_x_s : Bst q s x_s) : BstN q s (execEventHoldExpiry x_sid x_src x_s) := by
  unfold execEventHoldExpiry
  repeat' first
    | (with_reducible first | assumption | exact Bst.refl _ | apply State.holdEnds_bst | apply BstN.next | apply BstN.ite)

theorem execDataEventResend_bst {q : Bay} {s : State} {x_sid : Fin 16} {x_s : State} (h_x_s : Bst q s x_s) : BstN q s (execDataEventResend x_sid x_s) := by
  unfold execDataEventResend
  repeat' first
    | (with_reducible first | assumption | exact Bst.refl _ | apply State.resend_bst | apply BstN.next | apply BstN.ite)

theorem execMgmtRead_bst {q : Bay} {s : State} {x_obj : ObjAddr} {x_off : Nat} {x_len : Nat} {x_complete : Bool} {x_s : State} (h_x_s : Bst q s x_s) : BstN q s (execMgmtRead x_obj x_off x_len x_complete x_s) := by
  unfold execMgmtRead
  repeat' first
    | (with_reducible first | assumption | exact Bst.refl _)
    | intro _
    | (with_reducible first | apply State.keeper_bst | apply State.portRead_bst | apply BstN.next | apply BstN.ite)

theorem execMgmtStatus_bst {q : Bay} {s : State} {x_s : State} (h_x_s : Bst q s x_s) : BstN q s (execMgmtStatus x_s) := by
  unfold execMgmtStatus
  repeat' first
    | (with_reducible first | assumption | exact Bst.refl _)
    | intro _
    | (with_reducible first | apply State.keeper_bst | apply State.answerBody_bst | apply BstN.next | apply BstN.ite)

end Sys2Proof.Machine
end

