-- ==== Sys2Proof/Laws/BstInternal.lean ====
section
/-! SUPPORT. What the operations of Machine/Internal.lean keep. -/

set_option linter.all false

namespace Sys2Proof.Machine

theorem State.pathRead_bst {q : Bay} {s : State} {x_s : State} {x_a : ObjAddr} (h_x_s : Bst q s x_s) : Bst q s (State.pathRead x_s x_a).st := by
  unfold State.pathRead
  repeat' first
    | (with_reducible first | assumption | exact Bst.refl _ | apply State.readObj_bst | apply Bst.iteG | apply Bst.ite)
    | dsimp only

theorem Got.value_bst {q : Bay} {s : State} {x_g : Got} (h_x_g : Bst q s x_g.st) : Bst q s (Got.value x_g).2 := by
  unfold Got.value
  repeat' first
    | (with_reducible first | assumption | exact Bst.refl _)
    | (intro x_1; refine (fun hx : Bst q s x_1 => ?_) ?_; (clear_value x_1); rotate_left; (unfold x_1))
    | (intro x_1; refine (fun hx : Bst q s x_1.2 => ?_) ?_; (clear_value x_1); rotate_left; (unfold x_1))
    | (intro x_1; clear_value x_1)
    | intro _
    | (with_reducible first | apply State.free_bst | refine State.free_bst_eq ?_ (by assumption) | exact BstO.none | apply BstO.some | apply BstO.ite | apply Bst.ite | apply Bst.ite2)
    | lift_lets -underBinder
    | split
    | dsimp only
    | (refine Bst.upd ?_)

theorem State.deliverToken_bst {q : Bay} {s : State} {x_s : State} {x_t : Token} (h_x_s : Bst q s x_s) : Bst q s (State.deliverToken x_s x_t) := by
  unfold State.deliverToken
  repeat' first
    | (with_reducible first | assumption | exact Bst.refl _ | apply State.inner_bst | apply State.discard_bst | apply Bst.ite)

theorem State.siteStale_bst {q : Bay} {s : State} {x_s : State} {x_g : Nat} {x_n : Nat} {x_seq : Nat} (h_x_s : Bst q s x_s) : Bst q s (State.siteStale x_s x_g x_n x_seq) := by
  unfold State.siteStale
  repeat' first
    | (with_reducible first | assumption | exact Bst.refl _)
    | (intro x_1; refine (fun hx : Bst q s x_1 => ?_) ?_; (clear_value x_1); rotate_left; (unfold x_1))
    | (intro x_1; clear_value x_1)
    | intro _
    | (with_reducible first | apply State.setG_bst | apply State.nodeError_bst | apply State.event_bst | apply Bst.ite)
    | lift_lets -underBinder
    | split
    | dsimp only

theorem State.delayPost_bst {q : Bay} {s : State} {x_s : State} {x_i : Fin 4} {x_due : Nat} {x_t : Token} (h_x_s : Bst q s x_s) : Bst q s (State.delayPost x_s x_i x_due x_t) := by
  unfold State.delayPost
  repeat' first
    | (with_reducible first | assumption | exact Bst.refl _ | apply State.sched_bst | apply State.discard_bst | apply State.popDelay_bst | apply State.takeToken_bst | refine (State.takeToken_bst ?_).out (by assumption) | apply State.addLate_bst | apply State.holdDelay_bst | exact BstO.none | apply BstO.some | apply BstO.ite | apply Bst.ite)
    | split
    | (refine Bst.upd ?_)

theorem State.swapDelay_bst {q : Bay} {s : State} {x_s : State} {x_i : Fin 4} {x_e : DelayEntry} (h_x_s : Bst q s x_s) : Bst q s (State.swapDelay x_s x_i x_e) := by
  unfold State.swapDelay
  repeat' first
    | (with_reducible first | assumption | exact Bst.refl _)
    | (refine Bst.upd ?_)

theorem State.gateFailed_bst {q : Bay} {s : State} {x_s : State} {x_i : Fin 4} {x_src : Nat} {x_t : Token} {x_k : Nat} {x_gate : Nat × Nat} {x_tries : Nat} (h_x_s : Bst q s x_s) : Bst q s (State.gateFailed x_s x_i x_src x_t x_k x_gate x_tries) := by
  unfold State.gateFailed
  repeat' first
    | (with_reducible first | assumption | exact Bst.refl _)
    | (intro x_1; refine (fun hx : Bst q s x_1 => ?_) ?_; (clear_value x_1); rotate_left; (unfold x_1))
    | (intro x_1; clear_value x_1)
    | intro _
    | (with_reducible first | apply State.popDelay_bst | apply State.sched_bst | apply State.nodeError_bst | apply State.enterDelay_bst | refine (State.enterDelay_bst ?_).out (by assumption) | exact BstO.none | apply BstO.some | apply BstO.ite | apply Bst.ite)
    | lift_lets -underBinder
    | split
    | (refine Bst.upd ?_)

theorem State.delayDenied_bst {q : Bay} {s : State} {x_s : State} {x_i : Fin 4} {x_src : Nat} {x_t : Token} (h_x_s : Bst q s x_s) : Bst q s (State.delayDenied x_s x_i x_src x_t) := by
  unfold State.delayDenied
  repeat' first
    | (with_reducible first | assumption | exact Bst.refl _ | apply State.sched_bst | apply State.nodeError_bst | apply State.popDelay_bst)

theorem State.delayValue_bst {q : Bay} {s : State} {x_s : State} {x_i : Fin 4} {x_due : Nat} {x_src : Nat} {x_t : Token} {x_k : Nat} (h_x_s : Bst q s x_s) : Bst q s (State.delayValue x_s x_i x_due x_src x_t x_k) := by
  unfold State.delayValue
  repeat' first
    | (with_reducible first | assumption | exact Bst.refl _)
    | (intro x_1; refine (fun hx : Bst q s x_1 => ?_) ?_; (clear_value x_1); rotate_left; (unfold x_1))
    | (intro x_1; refine (fun hx : Bst q s x_1.2 => ?_) ?_; (clear_value x_1); rotate_left; (unfold x_1))
    | (intro x_1; refine (fun hx : Bst q s x_1.st => ?_) ?_; (clear_value x_1); rotate_left; (unfold x_1))
    | (intro x_1; clear_value x_1)
    | intro _
    | (with_reducible first | apply State.pathRead_bst | apply Got.value_bst | apply State.delayPost_bst | apply State.swapDelay_bst | apply State.delayDenied_bst | apply Bst.iteG | apply Bst.ite | apply Bst.ite2)
    | lift_lets -underBinder
    | dsimp only
    | (refine Bst.upd ?_)

theorem State.delayRead_bst {q : Bay} {s : State} {x_s : State} {x_i : Fin 4} {x_due : Nat} {x_src : Nat} {x_t : Token} {x_k : Nat} {x_gate : Option (Nat × Nat)} {x_tries : Nat} (h_x_s : Bst q s x_s) : Bst q s (State.delayRead x_s x_i x_due x_src x_t x_k x_gate x_tries) := by
  unfold State.delayRead
  repeat' first
    | (with_reducible first | assumption | exact Bst.refl _)
    | (intro x_1; refine (fun hx : Bst q s x_1 => ?_) ?_; (clear_value x_1); rotate_left; (unfold x_1))
    | (intro x_1; refine (fun hx : Bst q s x_1.st => ?_) ?_; (clear_value x_1); rotate_left; (unfold x_1))
    | (intro x_1; clear_value x_1)
    | intro _
    | (with_reducible first | apply State.delayValue_bst | apply State.pathRead_bst | apply State.delayDenied_bst | apply State.gateFailed_bst | apply Bst.iteG | exact BstO.none | apply BstO.some | apply BstO.ite | apply Bst.ite)
    | lift_lets -underBinder
    | split
    | dsimp only
    | (refine Bst.upd ?_)

theorem State.delayExpiry_bst {q : Bay} {s : State} {x_s : State} {x_i : Fin 4} (h_x_s : Bst q s x_s) : Bst q s (State.delayExpiry x_s x_i) := by
  unfold State.delayExpiry
  repeat' first
    | (with_reducible first | assumption | exact Bst.refl _)
    | (intro x_1; refine (fun hx : Bst q s x_1 => ?_) ?_; (clear_value x_1); rotate_left; (unfold x_1))
    | (intro x_1; clear_value x_1)
    | intro _
    | (with_reducible first | apply State.advance_bst | apply State.timerExpiry_bst | apply State.holdDelay_bst | apply State.delayPost_bst | apply State.delayRead_bst | apply Bst.ite)
    | lift_lets -underBinder
    | split
    | (refine Bst.upd ?_)

theorem execDelayEntryExpiry_bst {q : Bay} {s : State} {x_list : Fin 4} {x_s : State} (h_x_s : Bst q s x_s) : BstN q s (execDelayEntryExpiry x_list x_s) := by
  unfold execDelayEntryExpiry
  repeat' first
    | (with_reducible first | assumption | exact Bst.refl _ | apply State.delayExpiry_bst | apply BstN.next | apply BstN.ite)

end Sys2Proof.Machine
end

