-- ==== Sys2Proof/Laws/Kept.lean ====
section
/-! SUPPORT. What every command keeps: the queue as it stands, a clock and a count of free values that only rise, the canonical
form of the memory, the sizes of the queues and logs, and every part of the state that its mask does not name. -/

namespace Sys2Proof.Machine

/-- The bit of a part in a mask. -/
def Part.idx (p : Part) : Nat :=
  match p with
  | .answer => 0
  | .clock => 1
  | .free => 2
  | .objects => 3
  | .domains => 4
  | .stores => 5
  | .memory => 6
  | .tags => 7
  | .claims => 8
  | .lines => 9
  | .keys => 10
  | .touchmark => 11
  | .flash => 12
  | .bays => 13
  | .pins => 14
  | .faultPorts => 15
  | .faultLog => 16
  | .eventLog => 17
  | .sessions => 18
  | .commits => 19
  | .time => 20
  | .holdup => 21
  | .graphs => 22
  | .dma => 23
  | .lanes => 24
  | .hbm => 25
  | .ledger => 26
  | .assay => 27
  | .keeper => 28
  | .cores => 29
  | .drops => 30

/-- What holds between the state before a command and the state after it; bit `p.idx` of the mask says that part `p` may have
changed. -/
structure Kept (m : Nat) (s t : State) : Prop where
  pending : t.pending = s.pending
  now     : s.now ≤ t.now
  fresh   : s.fresh ≤ t.fresh
  mem     : Memory.wf s.mem = true → Memory.wf t.mem = true
  sizes   : Bounded s → Bounded t
  parts   : ∀ p : Part, m.testBit p.idx = false → p.same s t

theorem Part.refl (p : Part) (s : State) : p.same s s := by cases p <;> rfl
theorem Part.trans {p : Part} {s t u : State} (a : p.same s t) (b : p.same t u) : p.same s u := by
  cases p <;> exact Eq.trans (b := _) b a
theorem Part.step {p : Part} {m : Nat} {s t u : State} (a : p.same s t) (b : m.testBit p.idx = true ∨ p.same t u)
    (hf : m.testBit p.idx = false) : p.same s u := by
  cases b with
  | inl h => rw [hf] at h; cases h
  | inr h => exact Part.trans a h

/-- Masks: one lies within another. -/
theorem sub_trans {a b c : Nat} (h : a &&& b = a) (k : b &&& c = b) : a &&& c = a := by
  rw [← h, Nat.and_assoc, k]
theorem bit_of {a m i : Nat} (hm : a &&& m = a) (h : a.testBit i = true) : m.testBit i = true := by
  rw [← hm, Nat.testBit_and, Bool.and_eq_true] at h; exact h.2

theorem Kept.refl {m : Nat} (s : State) : Kept m s s :=
  ⟨rfl, Nat.le_refl _, Nat.le_refl _, id, id, fun p _ => p.refl s⟩

theorem Kept.trans {m : Nat} {s t u : State} (a : Kept m s t) (b : Kept m t u) : Kept m s u :=
  ⟨b.pending.trans a.pending, Nat.le_trans a.now b.now, Nat.le_trans a.fresh b.fresh, fun h => b.mem (a.mem h),
    fun h => b.sizes (a.sizes h), fun p h => Part.trans (a.parts p h) (b.parts p h)⟩

theorem Kept.ite {m : Nat} {s a b : State} {c : Prop} [Decidable c] (ha : Kept m s a) (hb : Kept m s b) : Kept m s (if c then a else b) := by
  split <;> assumption

theorem Kept.dite {m : Nat} {s : State} {c : Prop} [Decidable c] {a : c → State} {b : ¬c → State} (ha : ∀ h, Kept m s (a h))
    (hb : ∀ h, Kept m s (b h)) : Kept m s (if h : c then a h else b h) := by
  split
  · exact ha _
  · exact hb _

theorem Kept.ite1 {m : Nat} {s : State} {α : Type} {c : Prop} [Decidable c] {a b : State × α} (ha : Kept m s a.1) (hb : Kept m s b.1) :
    Kept m s (if c then a else b).1 := by split <;> assumption
theorem Kept.ite2 {m : Nat} {s : State} {α : Type} {c : Prop} [Decidable c] {a b : α × State} (ha : Kept m s a.2) (hb : Kept m s b.2) :
    Kept m s (if c then a else b).2 := by split <;> assumption

/-- The same for a state that may be absent. -/
structure KeptO (m : Nat) (s : State) (o : Option State) : Prop where
  out : ∀ {u : State}, o = some u → Kept m s u

theorem KeptO.none {m : Nat} {s : State} : KeptO m s none := ⟨fun h => by cases h⟩
theorem KeptO.some {m : Nat} {s t : State} (h : Kept m s t) : KeptO m s (some t) := ⟨fun e => by cases e; exact h⟩
theorem KeptO.ite {m : Nat} {s : State} {a b : Option State} {c : Prop} [Decidable c] (ha : KeptO m s a) (hb : KeptO m s b) :
    KeptO m s (if c then a else b) := by split <;> assumption

/-- The same for a command's outcome, where that is a next state. -/
structure KeptN (m : Nat) (s : State) (o : Host.Outcome State Fault Refusal) : Prop where
  out : ∀ {u : State}, o = .next u → Kept m s u

theorem KeptN.next {m : Nat} {s t : State} (h : Kept m s t) : KeptN m s (.next t) := ⟨fun e => by cases e; exact h⟩
theorem KeptN.ite {m : Nat} {s : State} {a b : Host.Outcome State Fault Refusal} {c : Prop} [Decidable c] (ha : KeptN m s a)
    (hb : KeptN m s b) : KeptN m s (if c then a else b) := by split <;> assumption

theorem Kept.foldl {m : Nat} {s : State} {α : Type} {f : State → α → State} {l : List α} : ∀ {t : State}, Kept m s t →
    (∀ u a, Kept m s u → Kept m s (f u a)) → Kept m s (l.foldl f t) := by
  induction l with
  | nil => intro t h _; exact h
  | cons a l ih => intro t h hf; exact ih (hf _ _ h) hf

/-- The sizes follow from the four fields they speak of. -/
theorem Bounded.of {s t : State} (h : Bounded s) (he : t.events = s.events) (hl : t.log = s.log) (hp : t.ports = s.ports)
    (hs : t.sessions = s.sessions) : Bounded t :=
  ⟨he ▸ h.events, hl ▸ h.log, hp ▸ h.ports, hs ▸ h.sessions⟩

/-- A state that differs from one that keeps only in fields of the parts the mask names. -/
theorem Kept.upd {m : Nat} {s t : State}  (h : Kept m s t)
    {reply objs doms shingles bank tsets tags claims ridge ridgeDrv ridgeWay purlin trigOut keys groupKey tmKey
    tmPort tmTest nonces tmFirst tmRetry fwSlots fwLoad fwRollback bays chans dies portLost fatal timers tokens
    injSlots injNext archived archRetry dataPorts mgmtLast shadows commit counterOn copies nets syncOk tpgs
    keeperRef holdupOk checking checkDue recheck benches store waiting blocked delays hostPosts postEnds binds bufs
    inst lastCore drains lastFired fireNo delayNo oldTick dmas dmaLast dmaPosts lanes links streams ceSince recovery catchAt scrubbed hbmQ
    ledger ledgerOld ledgerDoms ledgerCorr ledgerQ ledgerHeld ledgerDue assayed keeperAt keeperOff aliveHigh
    aliveFreq aliveAt watchdog wdArmed vauxAt tap temps beat resetDue startRef coreOut switchTo dropped}
    (hp : ∀ p : Part, m.testBit p.idx = true ∨ p.same t { t with
        reply := reply, objs := objs, doms := doms, shingles := shingles, bank := bank, tsets := tsets, tags :=
        tags, claims := claims, ridge := ridge, ridgeDrv := ridgeDrv, ridgeWay := ridgeWay, purlin := purlin,
        trigOut := trigOut, keys := keys, groupKey := groupKey, tmKey := tmKey, tmPort := tmPort, tmTest := tmTest,
        nonces := nonces, tmFirst := tmFirst, tmRetry := tmRetry, fwSlots := fwSlots, fwLoad := fwLoad, fwRollback
        := fwRollback, bays := bays, chans := chans, dies := dies, portLost := portLost, fatal := fatal, timers :=
        timers, tokens := tokens, injSlots := injSlots, injNext := injNext, archived := archived, archRetry :=
        archRetry, dataPorts := dataPorts, mgmtLast := mgmtLast, shadows := shadows, commit := commit, counterOn :=
        counterOn, copies := copies, nets := nets, syncOk := syncOk, tpgs := tpgs, keeperRef := keeperRef, holdupOk
        := holdupOk, checking := checking, checkDue := checkDue, recheck := recheck, benches := benches, store :=
        store, waiting := waiting, blocked := blocked, delays := delays, hostPosts := hostPosts, postEnds :=
        postEnds, binds := binds, bufs := bufs, inst := inst, lastCore := lastCore, drains := drains, lastFired := lastFired, fireNo := fireNo, delayNo := delayNo, oldTick := oldTick, dmas := dmas, dmaLast := dmaLast, dmaPosts := dmaPosts, lanes := lanes, links := links, streams
        := streams, ceSince := ceSince, recovery := recovery, catchAt := catchAt, scrubbed := scrubbed, hbmQ := hbmQ, ledger :=
        ledger, ledgerOld := ledgerOld, ledgerDoms := ledgerDoms, ledgerCorr := ledgerCorr, ledgerQ := ledgerQ,
        ledgerHeld := ledgerHeld, ledgerDue := ledgerDue, assayed := assayed, keeperAt := keeperAt, keeperOff :=
        keeperOff, aliveHigh := aliveHigh, aliveFreq := aliveFreq, aliveAt := aliveAt, watchdog := watchdog, wdArmed
        := wdArmed, vauxAt := vauxAt, tap := tap, temps := temps, beat := beat, resetDue := resetDue, startRef :=
        startRef, coreOut := coreOut, switchTo := switchTo, dropped := dropped }) :
    Kept m s { t with
        reply := reply, objs := objs, doms := doms, shingles := shingles, bank := bank, tsets := tsets, tags :=
        tags, claims := claims, ridge := ridge, ridgeDrv := ridgeDrv, ridgeWay := ridgeWay, purlin := purlin,
        trigOut := trigOut, keys := keys, groupKey := groupKey, tmKey := tmKey, tmPort := tmPort, tmTest := tmTest,
        nonces := nonces, tmFirst := tmFirst, tmRetry := tmRetry, fwSlots := fwSlots, fwLoad := fwLoad, fwRollback
        := fwRollback, bays := bays, chans := chans, dies := dies, portLost := portLost, fatal := fatal, timers :=
        timers, tokens := tokens, injSlots := injSlots, injNext := injNext, archived := archived, archRetry :=
        archRetry, dataPorts := dataPorts, mgmtLast := mgmtLast, shadows := shadows, commit := commit, counterOn :=
        counterOn, copies := copies, nets := nets, syncOk := syncOk, tpgs := tpgs, keeperRef := keeperRef, holdupOk
        := holdupOk, checking := checking, checkDue := checkDue, recheck := recheck, benches := benches, store :=
        store, waiting := waiting, blocked := blocked, delays := delays, hostPosts := hostPosts, postEnds :=
        postEnds, binds := binds, bufs := bufs, inst := inst, lastCore := lastCore, drains := drains, lastFired := lastFired, fireNo := fireNo, delayNo := delayNo, oldTick := oldTick, dmas := dmas, dmaLast := dmaLast, dmaPosts := dmaPosts, lanes := lanes, links := links, streams
        := streams, ceSince := ceSince, recovery := recovery, catchAt := catchAt, scrubbed := scrubbed, hbmQ := hbmQ, ledger :=
        ledger, ledgerOld := ledgerOld, ledgerDoms := ledgerDoms, ledgerCorr := ledgerCorr, ledgerQ := ledgerQ,
        ledgerHeld := ledgerHeld, ledgerDue := ledgerDue, assayed := assayed, keeperAt := keeperAt, keeperOff :=
        keeperOff, aliveHigh := aliveHigh, aliveFreq := aliveFreq, aliveAt := aliveAt, watchdog := watchdog, wdArmed
        := wdArmed, vauxAt := vauxAt, tap := tap, temps := temps, beat := beat, resetDue := resetDue, startRef :=
        startRef, coreOut := coreOut, switchTo := switchTo, dropped := dropped } :=
  ⟨h.pending, h.now, h.fresh, h.mem, fun w => (h.sizes w).of rfl rfl rfl rfl, fun p hf => Part.step (h.parts p hf) (hp p) hf⟩

/-- The same with the count of free values moved on. -/
theorem Kept.updFresh {m : Nat} {s t : State} {n : Nat} (h : Kept m s t)
    {reply objs doms shingles bank tsets tags claims ridge ridgeDrv ridgeWay purlin trigOut keys groupKey tmKey
    tmPort tmTest nonces tmFirst tmRetry fwSlots fwLoad fwRollback bays chans dies portLost fatal timers tokens
    injSlots injNext archived archRetry dataPorts mgmtLast shadows commit counterOn copies nets syncOk tpgs
    keeperRef holdupOk checking checkDue recheck benches store waiting blocked delays hostPosts postEnds binds bufs
    inst lastCore drains lastFired fireNo delayNo oldTick dmas dmaLast dmaPosts lanes links streams ceSince recovery catchAt scrubbed hbmQ
    ledger ledgerOld ledgerDoms ledgerCorr ledgerQ ledgerHeld ledgerDue assayed keeperAt keeperOff aliveHigh
    aliveFreq aliveAt watchdog wdArmed vauxAt tap temps beat resetDue startRef coreOut switchTo dropped}
    (hp : ∀ p : Part, m.testBit p.idx = true ∨ p.same t { t with
        fresh := t.fresh + n,
        reply := reply, objs := objs, doms := doms, shingles := shingles, bank := bank, tsets := tsets, tags :=
        tags, claims := claims, ridge := ridge, ridgeDrv := ridgeDrv, ridgeWay := ridgeWay, purlin := purlin,
        trigOut := trigOut, keys := keys, groupKey := groupKey, tmKey := tmKey, tmPort := tmPort, tmTest := tmTest,
        nonces := nonces, tmFirst := tmFirst, tmRetry := tmRetry, fwSlots := fwSlots, fwLoad := fwLoad, fwRollback
        := fwRollback, bays := bays, chans := chans, dies := dies, portLost := portLost, fatal := fatal, timers :=
        timers, tokens := tokens, injSlots := injSlots, injNext := injNext, archived := archived, archRetry :=
        archRetry, dataPorts := dataPorts, mgmtLast := mgmtLast, shadows := shadows, commit := commit, counterOn :=
        counterOn, copies := copies, nets := nets, syncOk := syncOk, tpgs := tpgs, keeperRef := keeperRef, holdupOk
        := holdupOk, checking := checking, checkDue := checkDue, recheck := recheck, benches := benches, store :=
        store, waiting := waiting, blocked := blocked, delays := delays, hostPosts := hostPosts, postEnds :=
        postEnds, binds := binds, bufs := bufs, inst := inst, lastCore := lastCore, drains := drains, lastFired := lastFired, fireNo := fireNo, delayNo := delayNo, oldTick := oldTick, dmas := dmas, dmaLast := dmaLast, dmaPosts := dmaPosts, lanes := lanes, links := links, streams
        := streams, ceSince := ceSince, recovery := recovery, catchAt := catchAt, scrubbed := scrubbed, hbmQ := hbmQ, ledger :=
        ledger, ledgerOld := ledgerOld, ledgerDoms := ledgerDoms, ledgerCorr := ledgerCorr, ledgerQ := ledgerQ,
        ledgerHeld := ledgerHeld, ledgerDue := ledgerDue, assayed := assayed, keeperAt := keeperAt, keeperOff :=
        keeperOff, aliveHigh := aliveHigh, aliveFreq := aliveFreq, aliveAt := aliveAt, watchdog := watchdog, wdArmed
        := wdArmed, vauxAt := vauxAt, tap := tap, temps := temps, beat := beat, resetDue := resetDue, startRef :=
        startRef, coreOut := coreOut, switchTo := switchTo, dropped := dropped }) :
    Kept m s { t with
        fresh := t.fresh + n,
        reply := reply, objs := objs, doms := doms, shingles := shingles, bank := bank, tsets := tsets, tags :=
        tags, claims := claims, ridge := ridge, ridgeDrv := ridgeDrv, ridgeWay := ridgeWay, purlin := purlin,
        trigOut := trigOut, keys := keys, groupKey := groupKey, tmKey := tmKey, tmPort := tmPort, tmTest := tmTest,
        nonces := nonces, tmFirst := tmFirst, tmRetry := tmRetry, fwSlots := fwSlots, fwLoad := fwLoad, fwRollback
        := fwRollback, bays := bays, chans := chans, dies := dies, portLost := portLost, fatal := fatal, timers :=
        timers, tokens := tokens, injSlots := injSlots, injNext := injNext, archived := archived, archRetry :=
        archRetry, dataPorts := dataPorts, mgmtLast := mgmtLast, shadows := shadows, commit := commit, counterOn :=
        counterOn, copies := copies, nets := nets, syncOk := syncOk, tpgs := tpgs, keeperRef := keeperRef, holdupOk
        := holdupOk, checking := checking, checkDue := checkDue, recheck := recheck, benches := benches, store :=
        store, waiting := waiting, blocked := blocked, delays := delays, hostPosts := hostPosts, postEnds :=
        postEnds, binds := binds, bufs := bufs, inst := inst, lastCore := lastCore, drains := drains, lastFired := lastFired, fireNo := fireNo, delayNo := delayNo, oldTick := oldTick, dmas := dmas, dmaLast := dmaLast, dmaPosts := dmaPosts, lanes := lanes, links := links, streams
        := streams, ceSince := ceSince, recovery := recovery, catchAt := catchAt, scrubbed := scrubbed, hbmQ := hbmQ, ledger :=
        ledger, ledgerOld := ledgerOld, ledgerDoms := ledgerDoms, ledgerCorr := ledgerCorr, ledgerQ := ledgerQ,
        ledgerHeld := ledgerHeld, ledgerDue := ledgerDue, assayed := assayed, keeperAt := keeperAt, keeperOff :=
        keeperOff, aliveHigh := aliveHigh, aliveFreq := aliveFreq, aliveAt := aliveAt, watchdog := watchdog, wdArmed
        := wdArmed, vauxAt := vauxAt, tap := tap, temps := temps, beat := beat, resetDue := resetDue, startRef :=
        startRef, coreOut := coreOut, switchTo := switchTo, dropped := dropped } :=
  ⟨h.pending, h.now, Nat.le_trans h.fresh (Nat.le_add_right _ _), h.mem, fun w => (h.sizes w).of rfl rfl rfl rfl, fun p hf => Part.step (h.parts p hf) (hp p) hf⟩

/-- The same with the clock moved on. -/
theorem Kept.updNow {m : Nat} {s t : State} {n : Nat} (h : Kept m s t)
    {reply objs doms shingles bank tsets tags claims ridge ridgeDrv ridgeWay purlin trigOut keys groupKey tmKey
    tmPort tmTest nonces tmFirst tmRetry fwSlots fwLoad fwRollback bays chans dies portLost fatal timers tokens
    injSlots injNext archived archRetry dataPorts mgmtLast shadows commit counterOn copies nets syncOk tpgs
    keeperRef holdupOk checking checkDue recheck benches store waiting blocked delays hostPosts postEnds binds bufs
    inst lastCore drains lastFired fireNo delayNo oldTick dmas dmaLast dmaPosts lanes links streams ceSince recovery catchAt scrubbed hbmQ
    ledger ledgerOld ledgerDoms ledgerCorr ledgerQ ledgerHeld ledgerDue assayed keeperAt keeperOff aliveHigh
    aliveFreq aliveAt watchdog wdArmed vauxAt tap temps beat resetDue startRef coreOut switchTo dropped}
    (hp : ∀ p : Part, m.testBit p.idx = true ∨ p.same t { t with
        now := max t.now n,
        reply := reply, objs := objs, doms := doms, shingles := shingles, bank := bank, tsets := tsets, tags :=
        tags, claims := claims, ridge := ridge, ridgeDrv := ridgeDrv, ridgeWay := ridgeWay, purlin := purlin,
        trigOut := trigOut, keys := keys, groupKey := groupKey, tmKey := tmKey, tmPort := tmPort, tmTest := tmTest,
        nonces := nonces, tmFirst := tmFirst, tmRetry := tmRetry, fwSlots := fwSlots, fwLoad := fwLoad, fwRollback
        := fwRollback, bays := bays, chans := chans, dies := dies, portLost := portLost, fatal := fatal, timers :=
        timers, tokens := tokens, injSlots := injSlots, injNext := injNext, archived := archived, archRetry :=
        archRetry, dataPorts := dataPorts, mgmtLast := mgmtLast, shadows := shadows, commit := commit, counterOn :=
        counterOn, copies := copies, nets := nets, syncOk := syncOk, tpgs := tpgs, keeperRef := keeperRef, holdupOk
        := holdupOk, checking := checking, checkDue := checkDue, recheck := recheck, benches := benches, store :=
        store, waiting := waiting, blocked := blocked, delays := delays, hostPosts := hostPosts, postEnds :=
        postEnds, binds := binds, bufs := bufs, inst := inst, lastCore := lastCore, drains := drains, lastFired := lastFired, fireNo := fireNo, delayNo := delayNo, oldTick := oldTick, dmas := dmas, dmaLast := dmaLast, dmaPosts := dmaPosts, lanes := lanes, links := links, streams
        := streams, ceSince := ceSince, recovery := recovery, catchAt := catchAt, scrubbed := scrubbed, hbmQ := hbmQ, ledger :=
        ledger, ledgerOld := ledgerOld, ledgerDoms := ledgerDoms, ledgerCorr := ledgerCorr, ledgerQ := ledgerQ,
        ledgerHeld := ledgerHeld, ledgerDue := ledgerDue, assayed := assayed, keeperAt := keeperAt, keeperOff :=
        keeperOff, aliveHigh := aliveHigh, aliveFreq := aliveFreq, aliveAt := aliveAt, watchdog := watchdog, wdArmed
        := wdArmed, vauxAt := vauxAt, tap := tap, temps := temps, beat := beat, resetDue := resetDue, startRef :=
        startRef, coreOut := coreOut, switchTo := switchTo, dropped := dropped }) :
    Kept m s { t with
        now := max t.now n,
        reply := reply, objs := objs, doms := doms, shingles := shingles, bank := bank, tsets := tsets, tags :=
        tags, claims := claims, ridge := ridge, ridgeDrv := ridgeDrv, ridgeWay := ridgeWay, purlin := purlin,
        trigOut := trigOut, keys := keys, groupKey := groupKey, tmKey := tmKey, tmPort := tmPort, tmTest := tmTest,
        nonces := nonces, tmFirst := tmFirst, tmRetry := tmRetry, fwSlots := fwSlots, fwLoad := fwLoad, fwRollback
        := fwRollback, bays := bays, chans := chans, dies := dies, portLost := portLost, fatal := fatal, timers :=
        timers, tokens := tokens, injSlots := injSlots, injNext := injNext, archived := archived, archRetry :=
        archRetry, dataPorts := dataPorts, mgmtLast := mgmtLast, shadows := shadows, commit := commit, counterOn :=
        counterOn, copies := copies, nets := nets, syncOk := syncOk, tpgs := tpgs, keeperRef := keeperRef, holdupOk
        := holdupOk, checking := checking, checkDue := checkDue, recheck := recheck, benches := benches, store :=
        store, waiting := waiting, blocked := blocked, delays := delays, hostPosts := hostPosts, postEnds :=
        postEnds, binds := binds, bufs := bufs, inst := inst, lastCore := lastCore, drains := drains, lastFired := lastFired, fireNo := fireNo, delayNo := delayNo, oldTick := oldTick, dmas := dmas, dmaLast := dmaLast, dmaPosts := dmaPosts, lanes := lanes, links := links, streams
        := streams, ceSince := ceSince, recovery := recovery, catchAt := catchAt, scrubbed := scrubbed, hbmQ := hbmQ, ledger :=
        ledger, ledgerOld := ledgerOld, ledgerDoms := ledgerDoms, ledgerCorr := ledgerCorr, ledgerQ := ledgerQ,
        ledgerHeld := ledgerHeld, ledgerDue := ledgerDue, assayed := assayed, keeperAt := keeperAt, keeperOff :=
        keeperOff, aliveHigh := aliveHigh, aliveFreq := aliveFreq, aliveAt := aliveAt, watchdog := watchdog, wdArmed
        := wdArmed, vauxAt := vauxAt, tap := tap, temps := temps, beat := beat, resetDue := resetDue, startRef :=
        startRef, coreOut := coreOut, switchTo := switchTo, dropped := dropped } :=
  ⟨h.pending, Nat.le_trans h.now (Nat.le_max_left _ _), h.fresh, h.mem, fun w => (h.sizes w).of rfl rfl rfl rfl, fun p hf => Part.step (h.parts p hf) (hp p) hf⟩

/-- The same with bytes of memory written. -/
theorem Kept.updMem {m : Nat} {s t : State} {a : Nat} {d : Bytes} (h : Kept m s t)
    {reply objs doms shingles bank tsets tags claims ridge ridgeDrv ridgeWay purlin trigOut keys groupKey tmKey
    tmPort tmTest nonces tmFirst tmRetry fwSlots fwLoad fwRollback bays chans dies portLost fatal timers tokens
    injSlots injNext archived archRetry dataPorts mgmtLast shadows commit counterOn copies nets syncOk tpgs
    keeperRef holdupOk checking checkDue recheck benches store waiting blocked delays hostPosts postEnds binds bufs
    inst lastCore drains lastFired fireNo delayNo oldTick dmas dmaLast dmaPosts lanes links streams ceSince recovery catchAt scrubbed hbmQ
    ledger ledgerOld ledgerDoms ledgerCorr ledgerQ ledgerHeld ledgerDue assayed keeperAt keeperOff aliveHigh
    aliveFreq aliveAt watchdog wdArmed vauxAt tap temps beat resetDue startRef coreOut switchTo dropped}
    (hp : ∀ p : Part, m.testBit p.idx = true ∨ p.same t { t with
        mem := memWrite t.mem a d,
        reply := reply, objs := objs, doms := doms, shingles := shingles, bank := bank, tsets := tsets, tags :=
        tags, claims := claims, ridge := ridge, ridgeDrv := ridgeDrv, ridgeWay := ridgeWay, purlin := purlin,
        trigOut := trigOut, keys := keys, groupKey := groupKey, tmKey := tmKey, tmPort := tmPort, tmTest := tmTest,
        nonces := nonces, tmFirst := tmFirst, tmRetry := tmRetry, fwSlots := fwSlots, fwLoad := fwLoad, fwRollback
        := fwRollback, bays := bays, chans := chans, dies := dies, portLost := portLost, fatal := fatal, timers :=
        timers, tokens := tokens, injSlots := injSlots, injNext := injNext, archived := archived, archRetry :=
        archRetry, dataPorts := dataPorts, mgmtLast := mgmtLast, shadows := shadows, commit := commit, counterOn :=
        counterOn, copies := copies, nets := nets, syncOk := syncOk, tpgs := tpgs, keeperRef := keeperRef, holdupOk
        := holdupOk, checking := checking, checkDue := checkDue, recheck := recheck, benches := benches, store :=
        store, waiting := waiting, blocked := blocked, delays := delays, hostPosts := hostPosts, postEnds :=
        postEnds, binds := binds, bufs := bufs, inst := inst, lastCore := lastCore, drains := drains, lastFired := lastFired, fireNo := fireNo, delayNo := delayNo, oldTick := oldTick, dmas := dmas, dmaLast := dmaLast, dmaPosts := dmaPosts, lanes := lanes, links := links, streams
        := streams, ceSince := ceSince, recovery := recovery, catchAt := catchAt, scrubbed := scrubbed, hbmQ := hbmQ, ledger :=
        ledger, ledgerOld := ledgerOld, ledgerDoms := ledgerDoms, ledgerCorr := ledgerCorr, ledgerQ := ledgerQ,
        ledgerHeld := ledgerHeld, ledgerDue := ledgerDue, assayed := assayed, keeperAt := keeperAt, keeperOff :=
        keeperOff, aliveHigh := aliveHigh, aliveFreq := aliveFreq, aliveAt := aliveAt, watchdog := watchdog, wdArmed
        := wdArmed, vauxAt := vauxAt, tap := tap, temps := temps, beat := beat, resetDue := resetDue, startRef :=
        startRef, coreOut := coreOut, switchTo := switchTo, dropped := dropped }) :
    Kept m s { t with
        mem := memWrite t.mem a d,
        reply := reply, objs := objs, doms := doms, shingles := shingles, bank := bank, tsets := tsets, tags :=
        tags, claims := claims, ridge := ridge, ridgeDrv := ridgeDrv, ridgeWay := ridgeWay, purlin := purlin,
        trigOut := trigOut, keys := keys, groupKey := groupKey, tmKey := tmKey, tmPort := tmPort, tmTest := tmTest,
        nonces := nonces, tmFirst := tmFirst, tmRetry := tmRetry, fwSlots := fwSlots, fwLoad := fwLoad, fwRollback
        := fwRollback, bays := bays, chans := chans, dies := dies, portLost := portLost, fatal := fatal, timers :=
        timers, tokens := tokens, injSlots := injSlots, injNext := injNext, archived := archived, archRetry :=
        archRetry, dataPorts := dataPorts, mgmtLast := mgmtLast, shadows := shadows, commit := commit, counterOn :=
        counterOn, copies := copies, nets := nets, syncOk := syncOk, tpgs := tpgs, keeperRef := keeperRef, holdupOk
        := holdupOk, checking := checking, checkDue := checkDue, recheck := recheck, benches := benches, store :=
        store, waiting := waiting, blocked := blocked, delays := delays, hostPosts := hostPosts, postEnds :=
        postEnds, binds := binds, bufs := bufs, inst := inst, lastCore := lastCore, drains := drains, lastFired := lastFired, fireNo := fireNo, delayNo := delayNo, oldTick := oldTick, dmas := dmas, dmaLast := dmaLast, dmaPosts := dmaPosts, lanes := lanes, links := links, streams
        := streams, ceSince := ceSince, recovery := recovery, catchAt := catchAt, scrubbed := scrubbed, hbmQ := hbmQ, ledger :=
        ledger, ledgerOld := ledgerOld, ledgerDoms := ledgerDoms, ledgerCorr := ledgerCorr, ledgerQ := ledgerQ,
        ledgerHeld := ledgerHeld, ledgerDue := ledgerDue, assayed := assayed, keeperAt := keeperAt, keeperOff :=
        keeperOff, aliveHigh := aliveHigh, aliveFreq := aliveFreq, aliveAt := aliveAt, watchdog := watchdog, wdArmed
        := wdArmed, vauxAt := vauxAt, tap := tap, temps := temps, beat := beat, resetDue := resetDue, startRef :=
        startRef, coreOut := coreOut, switchTo := switchTo, dropped := dropped } :=
  ⟨h.pending, h.now, h.fresh, fun w => memWrite_wf _ _ _ (h.mem w), fun w => (h.sizes w).of rfl rfl rfl rfl, fun p hf => Part.step (h.parts p hf) (hp p) hf⟩

/-- The same with the fault log changed. -/
theorem Kept.updLog {m : Nat} {s t : State} {log : List FaultRec} (h : Kept m s t)
    (hl : t.log.length ≤ 1536 → log.length ≤ 1536)
    {reply objs doms shingles bank tsets tags claims ridge ridgeDrv ridgeWay purlin trigOut keys groupKey tmKey
    tmPort tmTest nonces tmFirst tmRetry fwSlots fwLoad fwRollback bays chans dies portLost fatal timers tokens
    injSlots injNext archived archRetry dataPorts mgmtLast shadows commit counterOn copies nets syncOk tpgs
    keeperRef holdupOk checking checkDue recheck benches store waiting blocked delays hostPosts postEnds binds bufs
    inst lastCore drains lastFired fireNo delayNo oldTick dmas dmaLast dmaPosts lanes links streams ceSince recovery catchAt scrubbed hbmQ
    ledger ledgerOld ledgerDoms ledgerCorr ledgerQ ledgerHeld ledgerDue assayed keeperAt keeperOff aliveHigh
    aliveFreq aliveAt watchdog wdArmed vauxAt tap temps beat resetDue startRef coreOut switchTo dropped}
    (hp : ∀ p : Part, m.testBit p.idx = true ∨ p.same t { t with
        log := log,
        reply := reply, objs := objs, doms := doms, shingles := shingles, bank := bank, tsets := tsets, tags :=
        tags, claims := claims, ridge := ridge, ridgeDrv := ridgeDrv, ridgeWay := ridgeWay, purlin := purlin,
        trigOut := trigOut, keys := keys, groupKey := groupKey, tmKey := tmKey, tmPort := tmPort, tmTest := tmTest,
        nonces := nonces, tmFirst := tmFirst, tmRetry := tmRetry, fwSlots := fwSlots, fwLoad := fwLoad, fwRollback
        := fwRollback, bays := bays, chans := chans, dies := dies, portLost := portLost, fatal := fatal, timers :=
        timers, tokens := tokens, injSlots := injSlots, injNext := injNext, archived := archived, archRetry :=
        archRetry, dataPorts := dataPorts, mgmtLast := mgmtLast, shadows := shadows, commit := commit, counterOn :=
        counterOn, copies := copies, nets := nets, syncOk := syncOk, tpgs := tpgs, keeperRef := keeperRef, holdupOk
        := holdupOk, checking := checking, checkDue := checkDue, recheck := recheck, benches := benches, store :=
        store, waiting := waiting, blocked := blocked, delays := delays, hostPosts := hostPosts, postEnds :=
        postEnds, binds := binds, bufs := bufs, inst := inst, lastCore := lastCore, drains := drains, lastFired := lastFired, fireNo := fireNo, delayNo := delayNo, oldTick := oldTick, dmas := dmas, dmaLast := dmaLast, dmaPosts := dmaPosts, lanes := lanes, links := links, streams
        := streams, ceSince := ceSince, recovery := recovery, catchAt := catchAt, scrubbed := scrubbed, hbmQ := hbmQ, ledger :=
        ledger, ledgerOld := ledgerOld, ledgerDoms := ledgerDoms, ledgerCorr := ledgerCorr, ledgerQ := ledgerQ,
        ledgerHeld := ledgerHeld, ledgerDue := ledgerDue, assayed := assayed, keeperAt := keeperAt, keeperOff :=
        keeperOff, aliveHigh := aliveHigh, aliveFreq := aliveFreq, aliveAt := aliveAt, watchdog := watchdog, wdArmed
        := wdArmed, vauxAt := vauxAt, tap := tap, temps := temps, beat := beat, resetDue := resetDue, startRef :=
        startRef, coreOut := coreOut, switchTo := switchTo, dropped := dropped }) :
    Kept m s { t with
        log := log,
        reply := reply, objs := objs, doms := doms, shingles := shingles, bank := bank, tsets := tsets, tags :=
        tags, claims := claims, ridge := ridge, ridgeDrv := ridgeDrv, ridgeWay := ridgeWay, purlin := purlin,
        trigOut := trigOut, keys := keys, groupKey := groupKey, tmKey := tmKey, tmPort := tmPort, tmTest := tmTest,
        nonces := nonces, tmFirst := tmFirst, tmRetry := tmRetry, fwSlots := fwSlots, fwLoad := fwLoad, fwRollback
        := fwRollback, bays := bays, chans := chans, dies := dies, portLost := portLost, fatal := fatal, timers :=
        timers, tokens := tokens, injSlots := injSlots, injNext := injNext, archived := archived, archRetry :=
        archRetry, dataPorts := dataPorts, mgmtLast := mgmtLast, shadows := shadows, commit := commit, counterOn :=
        counterOn, copies := copies, nets := nets, syncOk := syncOk, tpgs := tpgs, keeperRef := keeperRef, holdupOk
        := holdupOk, checking := checking, checkDue := checkDue, recheck := recheck, benches := benches, store :=
        store, waiting := waiting, blocked := blocked, delays := delays, hostPosts := hostPosts, postEnds :=
        postEnds, binds := binds, bufs := bufs, inst := inst, lastCore := lastCore, drains := drains, lastFired := lastFired, fireNo := fireNo, delayNo := delayNo, oldTick := oldTick, dmas := dmas, dmaLast := dmaLast, dmaPosts := dmaPosts, lanes := lanes, links := links, streams
        := streams, ceSince := ceSince, recovery := recovery, catchAt := catchAt, scrubbed := scrubbed, hbmQ := hbmQ, ledger :=
        ledger, ledgerOld := ledgerOld, ledgerDoms := ledgerDoms, ledgerCorr := ledgerCorr, ledgerQ := ledgerQ,
        ledgerHeld := ledgerHeld, ledgerDue := ledgerDue, assayed := assayed, keeperAt := keeperAt, keeperOff :=
        keeperOff, aliveHigh := aliveHigh, aliveFreq := aliveFreq, aliveAt := aliveAt, watchdog := watchdog, wdArmed
        := wdArmed, vauxAt := vauxAt, tap := tap, temps := temps, beat := beat, resetDue := resetDue, startRef :=
        startRef, coreOut := coreOut, switchTo := switchTo, dropped := dropped } :=
  ⟨h.pending, h.now, h.fresh, h.mem, fun w => ⟨(h.sizes w).events, hl (h.sizes w).log, (h.sizes w).ports, (h.sizes w).sessions⟩, fun p hf => Part.step (h.parts p hf) (hp p) hf⟩

/-- The same with the event log changed. -/
theorem Kept.updEvents {m : Nat} {s t : State} {events : List EventRec} (h : Kept m s t)
    (he : t.events.length ≤ 65536 → events.length ≤ 65536)
    {reply objs doms shingles bank tsets tags claims ridge ridgeDrv ridgeWay purlin trigOut keys groupKey tmKey
    tmPort tmTest nonces tmFirst tmRetry fwSlots fwLoad fwRollback bays chans dies portLost fatal timers tokens
    injSlots injNext archived archRetry dataPorts mgmtLast shadows commit counterOn copies nets syncOk tpgs
    keeperRef holdupOk checking checkDue recheck benches store waiting blocked delays hostPosts postEnds binds bufs
    inst lastCore drains lastFired fireNo delayNo oldTick dmas dmaLast dmaPosts lanes links streams ceSince recovery catchAt scrubbed hbmQ
    ledger ledgerOld ledgerDoms ledgerCorr ledgerQ ledgerHeld ledgerDue assayed keeperAt keeperOff aliveHigh
    aliveFreq aliveAt watchdog wdArmed vauxAt tap temps beat resetDue startRef coreOut switchTo dropped}
    (hp : ∀ p : Part, m.testBit p.idx = true ∨ p.same t { t with
        events := events,
        reply := reply, objs := objs, doms := doms, shingles := shingles, bank := bank, tsets := tsets, tags :=
        tags, claims := claims, ridge := ridge, ridgeDrv := ridgeDrv, ridgeWay := ridgeWay, purlin := purlin,
        trigOut := trigOut, keys := keys, groupKey := groupKey, tmKey := tmKey, tmPort := tmPort, tmTest := tmTest,
        nonces := nonces, tmFirst := tmFirst, tmRetry := tmRetry, fwSlots := fwSlots, fwLoad := fwLoad, fwRollback
        := fwRollback, bays := bays, chans := chans, dies := dies, portLost := portLost, fatal := fatal, timers :=
        timers, tokens := tokens, injSlots := injSlots, injNext := injNext, archived := archived, archRetry :=
        archRetry, dataPorts := dataPorts, mgmtLast := mgmtLast, shadows := shadows, commit := commit, counterOn :=
        counterOn, copies := copies, nets := nets, syncOk := syncOk, tpgs := tpgs, keeperRef := keeperRef, holdupOk
        := holdupOk, checking := checking, checkDue := checkDue, recheck := recheck, benches := benches, store :=
        store, waiting := waiting, blocked := blocked, delays := delays, hostPosts := hostPosts, postEnds :=
        postEnds, binds := binds, bufs := bufs, inst := inst, lastCore := lastCore, drains := drains, lastFired := lastFired, fireNo := fireNo, delayNo := delayNo, oldTick := oldTick, dmas := dmas, dmaLast := dmaLast, dmaPosts := dmaPosts, lanes := lanes, links := links, streams
        := streams, ceSince := ceSince, recovery := recovery, catchAt := catchAt, scrubbed := scrubbed, hbmQ := hbmQ, ledger :=
        ledger, ledgerOld := ledgerOld, ledgerDoms := ledgerDoms, ledgerCorr := ledgerCorr, ledgerQ := ledgerQ,
        ledgerHeld := ledgerHeld, ledgerDue := ledgerDue, assayed := assayed, keeperAt := keeperAt, keeperOff :=
        keeperOff, aliveHigh := aliveHigh, aliveFreq := aliveFreq, aliveAt := aliveAt, watchdog := watchdog, wdArmed
        := wdArmed, vauxAt := vauxAt, tap := tap, temps := temps, beat := beat, resetDue := resetDue, startRef :=
        startRef, coreOut := coreOut, switchTo := switchTo, dropped := dropped }) :
    Kept m s { t with
        events := events,
        reply := reply, objs := objs, doms := doms, shingles := shingles, bank := bank, tsets := tsets, tags :=
        tags, claims := claims, ridge := ridge, ridgeDrv := ridgeDrv, ridgeWay := ridgeWay, purlin := purlin,
        trigOut := trigOut, keys := keys, groupKey := groupKey, tmKey := tmKey, tmPort := tmPort, tmTest := tmTest,
        nonces := nonces, tmFirst := tmFirst, tmRetry := tmRetry, fwSlots := fwSlots, fwLoad := fwLoad, fwRollback
        := fwRollback, bays := bays, chans := chans, dies := dies, portLost := portLost, fatal := fatal, timers :=
        timers, tokens := tokens, injSlots := injSlots, injNext := injNext, archived := archived, archRetry :=
        archRetry, dataPorts := dataPorts, mgmtLast := mgmtLast, shadows := shadows, commit := commit, counterOn :=
        counterOn, copies := copies, nets := nets, syncOk := syncOk, tpgs := tpgs, keeperRef := keeperRef, holdupOk
        := holdupOk, checking := checking, checkDue := checkDue, recheck := recheck, benches := benches, store :=
        store, waiting := waiting, blocked := blocked, delays := delays, hostPosts := hostPosts, postEnds :=
        postEnds, binds := binds, bufs := bufs, inst := inst, lastCore := lastCore, drains := drains, lastFired := lastFired, fireNo := fireNo, delayNo := delayNo, oldTick := oldTick, dmas := dmas, dmaLast := dmaLast, dmaPosts := dmaPosts, lanes := lanes, links := links, streams
        := streams, ceSince := ceSince, recovery := recovery, catchAt := catchAt, scrubbed := scrubbed, hbmQ := hbmQ, ledger :=
        ledger, ledgerOld := ledgerOld, ledgerDoms := ledgerDoms, ledgerCorr := ledgerCorr, ledgerQ := ledgerQ,
        ledgerHeld := ledgerHeld, ledgerDue := ledgerDue, assayed := assayed, keeperAt := keeperAt, keeperOff :=
        keeperOff, aliveHigh := aliveHigh, aliveFreq := aliveFreq, aliveAt := aliveAt, watchdog := watchdog, wdArmed
        := wdArmed, vauxAt := vauxAt, tap := tap, temps := temps, beat := beat, resetDue := resetDue, startRef :=
        startRef, coreOut := coreOut, switchTo := switchTo, dropped := dropped } :=
  ⟨h.pending, h.now, h.fresh, h.mem, fun w => ⟨he (h.sizes w).events, (h.sizes w).log, (h.sizes w).ports, (h.sizes w).sessions⟩, fun p hf => Part.step (h.parts p hf) (hp p) hf⟩

/-- The same with the fault ports changed. -/
theorem Kept.updPorts {m : Nat} {s t : State} {ports : Tab (List FaultMsg)} (h : Kept m s t)
    (hq : (∀ e ∈ t.ports, e.2.length ≤ 16) → ∀ e ∈ ports, e.2.length ≤ 16)
    {reply objs doms shingles bank tsets tags claims ridge ridgeDrv ridgeWay purlin trigOut keys groupKey tmKey
    tmPort tmTest nonces tmFirst tmRetry fwSlots fwLoad fwRollback bays chans dies portLost fatal timers tokens
    injSlots injNext archived archRetry dataPorts mgmtLast shadows commit counterOn copies nets syncOk tpgs
    keeperRef holdupOk checking checkDue recheck benches store waiting blocked delays hostPosts postEnds binds bufs
    inst lastCore drains lastFired fireNo delayNo oldTick dmas dmaLast dmaPosts lanes links streams ceSince recovery catchAt scrubbed hbmQ
    ledger ledgerOld ledgerDoms ledgerCorr ledgerQ ledgerHeld ledgerDue assayed keeperAt keeperOff aliveHigh
    aliveFreq aliveAt watchdog wdArmed vauxAt tap temps beat resetDue startRef coreOut switchTo dropped}
    (hp : ∀ p : Part, m.testBit p.idx = true ∨ p.same t { t with
        ports := ports,
        reply := reply, objs := objs, doms := doms, shingles := shingles, bank := bank, tsets := tsets, tags :=
        tags, claims := claims, ridge := ridge, ridgeDrv := ridgeDrv, ridgeWay := ridgeWay, purlin := purlin,
        trigOut := trigOut, keys := keys, groupKey := groupKey, tmKey := tmKey, tmPort := tmPort, tmTest := tmTest,
        nonces := nonces, tmFirst := tmFirst, tmRetry := tmRetry, fwSlots := fwSlots, fwLoad := fwLoad, fwRollback
        := fwRollback, bays := bays, chans := chans, dies := dies, portLost := portLost, fatal := fatal, timers :=
        timers, tokens := tokens, injSlots := injSlots, injNext := injNext, archived := archived, archRetry :=
        archRetry, dataPorts := dataPorts, mgmtLast := mgmtLast, shadows := shadows, commit := commit, counterOn :=
        counterOn, copies := copies, nets := nets, syncOk := syncOk, tpgs := tpgs, keeperRef := keeperRef, holdupOk
        := holdupOk, checking := checking, checkDue := checkDue, recheck := recheck, benches := benches, store :=
        store, waiting := waiting, blocked := blocked, delays := delays, hostPosts := hostPosts, postEnds :=
        postEnds, binds := binds, bufs := bufs, inst := inst, lastCore := lastCore, drains := drains, lastFired := lastFired, fireNo := fireNo, delayNo := delayNo, oldTick := oldTick, dmas := dmas, dmaLast := dmaLast, dmaPosts := dmaPosts, lanes := lanes, links := links, streams
        := streams, ceSince := ceSince, recovery := recovery, catchAt := catchAt, scrubbed := scrubbed, hbmQ := hbmQ, ledger :=
        ledger, ledgerOld := ledgerOld, ledgerDoms := ledgerDoms, ledgerCorr := ledgerCorr, ledgerQ := ledgerQ,
        ledgerHeld := ledgerHeld, ledgerDue := ledgerDue, assayed := assayed, keeperAt := keeperAt, keeperOff :=
        keeperOff, aliveHigh := aliveHigh, aliveFreq := aliveFreq, aliveAt := aliveAt, watchdog := watchdog, wdArmed
        := wdArmed, vauxAt := vauxAt, tap := tap, temps := temps, beat := beat, resetDue := resetDue, startRef :=
        startRef, coreOut := coreOut, switchTo := switchTo, dropped := dropped }) :
    Kept m s { t with
        ports := ports,
        reply := reply, objs := objs, doms := doms, shingles := shingles, bank := bank, tsets := tsets, tags :=
        tags, claims := claims, ridge := ridge, ridgeDrv := ridgeDrv, ridgeWay := ridgeWay, purlin := purlin,
        trigOut := trigOut, keys := keys, groupKey := groupKey, tmKey := tmKey, tmPort := tmPort, tmTest := tmTest,
        nonces := nonces, tmFirst := tmFirst, tmRetry := tmRetry, fwSlots := fwSlots, fwLoad := fwLoad, fwRollback
        := fwRollback, bays := bays, chans := chans, dies := dies, portLost := portLost, fatal := fatal, timers :=
        timers, tokens := tokens, injSlots := injSlots, injNext := injNext, archived := archived, archRetry :=
        archRetry, dataPorts := dataPorts, mgmtLast := mgmtLast, shadows := shadows, commit := commit, counterOn :=
        counterOn, copies := copies, nets := nets, syncOk := syncOk, tpgs := tpgs, keeperRef := keeperRef, holdupOk
        := holdupOk, checking := checking, checkDue := checkDue, recheck := recheck, benches := benches, store :=
        store, waiting := waiting, blocked := blocked, delays := delays, hostPosts := hostPosts, postEnds :=
        postEnds, binds := binds, bufs := bufs, inst := inst, lastCore := lastCore, drains := drains, lastFired := lastFired, fireNo := fireNo, delayNo := delayNo, oldTick := oldTick, dmas := dmas, dmaLast := dmaLast, dmaPosts := dmaPosts, lanes := lanes, links := links, streams
        := streams, ceSince := ceSince, recovery := recovery, catchAt := catchAt, scrubbed := scrubbed, hbmQ := hbmQ, ledger :=
        ledger, ledgerOld := ledgerOld, ledgerDoms := ledgerDoms, ledgerCorr := ledgerCorr, ledgerQ := ledgerQ,
        ledgerHeld := ledgerHeld, ledgerDue := ledgerDue, assayed := assayed, keeperAt := keeperAt, keeperOff :=
        keeperOff, aliveHigh := aliveHigh, aliveFreq := aliveFreq, aliveAt := aliveAt, watchdog := watchdog, wdArmed
        := wdArmed, vauxAt := vauxAt, tap := tap, temps := temps, beat := beat, resetDue := resetDue, startRef :=
        startRef, coreOut := coreOut, switchTo := switchTo, dropped := dropped } :=
  ⟨h.pending, h.now, h.fresh, h.mem, fun w => ⟨(h.sizes w).events, (h.sizes w).log, hq (h.sizes w).ports, (h.sizes w).sessions⟩, fun p hf => Part.step (h.parts p hf) (hp p) hf⟩

/-- The same with the sessions changed. -/
theorem Kept.updSessions {m : Nat} {s t : State} {sessions : Vector (Option Session) 16} (h : Kept m s t)
    (hq : (∀ (i : Fin 16) (x : Session), t.sessions.get i = some x → x.bounded) →
      ∀ (i : Fin 16) (x : Session), sessions.get i = some x → x.bounded)
    {reply objs doms shingles bank tsets tags claims ridge ridgeDrv ridgeWay purlin trigOut keys groupKey tmKey
    tmPort tmTest nonces tmFirst tmRetry fwSlots fwLoad fwRollback bays chans dies portLost fatal timers tokens
    injSlots injNext archived archRetry dataPorts mgmtLast shadows commit counterOn copies nets syncOk tpgs
    keeperRef holdupOk checking checkDue recheck benches store waiting blocked delays hostPosts postEnds binds bufs
    inst lastCore drains lastFired fireNo delayNo oldTick dmas dmaLast dmaPosts lanes links streams ceSince recovery catchAt scrubbed hbmQ
    ledger ledgerOld ledgerDoms ledgerCorr ledgerQ ledgerHeld ledgerDue assayed keeperAt keeperOff aliveHigh
    aliveFreq aliveAt watchdog wdArmed vauxAt tap temps beat resetDue startRef coreOut switchTo dropped}
    (hp : ∀ p : Part, m.testBit p.idx = true ∨ p.same t { t with
        sessions := sessions,
        reply := reply, objs := objs, doms := doms, shingles := shingles, bank := bank, tsets := tsets, tags :=
        tags, claims := claims, ridge := ridge, ridgeDrv := ridgeDrv, ridgeWay := ridgeWay, purlin := purlin,
        trigOut := trigOut, keys := keys, groupKey := groupKey, tmKey := tmKey, tmPort := tmPort, tmTest := tmTest,
        nonces := nonces, tmFirst := tmFirst, tmRetry := tmRetry, fwSlots := fwSlots, fwLoad := fwLoad, fwRollback
        := fwRollback, bays := bays, chans := chans, dies := dies, portLost := portLost, fatal := fatal, timers :=
        timers, tokens := tokens, injSlots := injSlots, injNext := injNext, archived := archived, archRetry :=
        archRetry, dataPorts := dataPorts, mgmtLast := mgmtLast, shadows := shadows, commit := commit, counterOn :=
        counterOn, copies := copies, nets := nets, syncOk := syncOk, tpgs := tpgs, keeperRef := keeperRef, holdupOk
        := holdupOk, checking := checking, checkDue := checkDue, recheck := recheck, benches := benches, store :=
        store, waiting := waiting, blocked := blocked, delays := delays, hostPosts := hostPosts, postEnds :=
        postEnds, binds := binds, bufs := bufs, inst := inst, lastCore := lastCore, drains := drains, lastFired := lastFired, fireNo := fireNo, delayNo := delayNo, oldTick := oldTick, dmas := dmas, dmaLast := dmaLast, dmaPosts := dmaPosts, lanes := lanes, links := links, streams
        := streams, ceSince := ceSince, recovery := recovery, catchAt := catchAt, scrubbed := scrubbed, hbmQ := hbmQ, ledger :=
        ledger, ledgerOld := ledgerOld, ledgerDoms := ledgerDoms, ledgerCorr := ledgerCorr, ledgerQ := ledgerQ,
        ledgerHeld := ledgerHeld, ledgerDue := ledgerDue, assayed := assayed, keeperAt := keeperAt, keeperOff :=
        keeperOff, aliveHigh := aliveHigh, aliveFreq := aliveFreq, aliveAt := aliveAt, watchdog := watchdog, wdArmed
        := wdArmed, vauxAt := vauxAt, tap := tap, temps := temps, beat := beat, resetDue := resetDue, startRef :=
        startRef, coreOut := coreOut, switchTo := switchTo, dropped := dropped }) :
    Kept m s { t with
        sessions := sessions,
        reply := reply, objs := objs, doms := doms, shingles := shingles, bank := bank, tsets := tsets, tags :=
        tags, claims := claims, ridge := ridge, ridgeDrv := ridgeDrv, ridgeWay := ridgeWay, purlin := purlin,
        trigOut := trigOut, keys := keys, groupKey := groupKey, tmKey := tmKey, tmPort := tmPort, tmTest := tmTest,
        nonces := nonces, tmFirst := tmFirst, tmRetry := tmRetry, fwSlots := fwSlots, fwLoad := fwLoad, fwRollback
        := fwRollback, bays := bays, chans := chans, dies := dies, portLost := portLost, fatal := fatal, timers :=
        timers, tokens := tokens, injSlots := injSlots, injNext := injNext, archived := archived, archRetry :=
        archRetry, dataPorts := dataPorts, mgmtLast := mgmtLast, shadows := shadows, commit := commit, counterOn :=
        counterOn, copies := copies, nets := nets, syncOk := syncOk, tpgs := tpgs, keeperRef := keeperRef, holdupOk
        := holdupOk, checking := checking, checkDue := checkDue, recheck := recheck, benches := benches, store :=
        store, waiting := waiting, blocked := blocked, delays := delays, hostPosts := hostPosts, postEnds :=
        postEnds, binds := binds, bufs := bufs, inst := inst, lastCore := lastCore, drains := drains, lastFired := lastFired, fireNo := fireNo, delayNo := delayNo, oldTick := oldTick, dmas := dmas, dmaLast := dmaLast, dmaPosts := dmaPosts, lanes := lanes, links := links, streams
        := streams, ceSince := ceSince, recovery := recovery, catchAt := catchAt, scrubbed := scrubbed, hbmQ := hbmQ, ledger :=
        ledger, ledgerOld := ledgerOld, ledgerDoms := ledgerDoms, ledgerCorr := ledgerCorr, ledgerQ := ledgerQ,
        ledgerHeld := ledgerHeld, ledgerDue := ledgerDue, assayed := assayed, keeperAt := keeperAt, keeperOff :=
        keeperOff, aliveHigh := aliveHigh, aliveFreq := aliveFreq, aliveAt := aliveAt, watchdog := watchdog, wdArmed
        := wdArmed, vauxAt := vauxAt, tap := tap, temps := temps, beat := beat, resetDue := resetDue, startRef :=
        startRef, coreOut := coreOut, switchTo := switchTo, dropped := dropped } :=
  ⟨h.pending, h.now, h.fresh, h.mem, fun w => ⟨(h.sizes w).events, (h.sizes w).log, (h.sizes w).ports, hq (h.sizes w).sessions⟩, fun p hf => Part.step (h.parts p hf) (hp p) hf⟩

/-- The parts a mask does not name are the same. -/
theorem Kept.only {m : Nat} {s t : State} (h : Kept m s t) {l : List Part} (hl : ∀ p : Part, m.testBit p.idx = true → p ∈ l) :
    OnlyParts s t l := by
  intro p hp
  refine h.parts p ?_
  cases e : m.testBit p.idx with
  | false => rfl
  | true => exact absurd (hl p e) hp

end Sys2Proof.Machine
end

