-- ==== Sys2Proof/Laws/KeptOps.lean ====
section
/-! SUPPORT. What the operations of Machine/Ops.lean keep. -/

set_option linter.all false

namespace Sys2Proof.Machine

theorem State.setO_kept {m : Nat} (hm : 8 &&& m = 8) {s : State} {x_s : State} {x_k : Nat} {x_v : Nat} (h_x_s : Kept m s x_s) : Kept m s (State.setO x_s x_k x_v) := by
  unfold State.setO
  repeat' first
    | (with_reducible first | assumption | exact Kept.refl _)
    | (intro p; cases p <;> first | exact Or.inl (bit_of (a := 8) hm rfl) | exact Or.inr rfl)
    | (refine Kept.upd ?_ ?_)

theorem State.setB_kept {m : Nat} (hm : 8 &&& m = 8) {s : State} {x_s : State} {x_b : Bay} {x_o : Nat} {x_v : Nat} (h_x_s : Kept m s x_s) : Kept m s (State.setB x_s x_b x_o x_v) := by
  unfold State.setB
  repeat' first
    | (with_reducible first | assumption | exact Kept.refl _)
    | exact sub_trans (b := 8) (by decide) hm
    | with_reducible apply State.setO_kept

theorem State.setC_kept {m : Nat} (hm : 8 &&& m = 8) {s : State} {x_s : State} {x_c : Chan} {x_o : Nat} {x_v : Nat} (h_x_s : Kept m s x_s) : Kept m s (State.setC x_s x_c x_o x_v) := by
  unfold State.setC
  repeat' first
    | (with_reducible first | assumption | exact Kept.refl _)
    | exact sub_trans (b := 8) (by decide) hm
    | with_reducible apply State.setO_kept

theorem State.setS_kept {m : Nat} (hm : 8 &&& m = 8) {s : State} {x_s : State} {x_i : Site} {x_sub : Nat} {x_v : Nat} (h_x_s : Kept m s x_s) : Kept m s (State.setS x_s x_i x_sub x_v) := by
  unfold State.setS
  repeat' first
    | (with_reducible first | assumption | exact Kept.refl _)
    | exact sub_trans (b := 8) (by decide) hm
    | with_reducible apply State.setO_kept

theorem State.incO_kept {m : Nat} (hm : 8 &&& m = 8) {s : State} {x_s : State} {x_k : Nat} (h_x_s : Kept m s x_s) : Kept m s (State.incO x_s x_k) := by
  unfold State.incO
  repeat' first
    | (with_reducible first | assumption | exact Kept.refl _)
    | exact sub_trans (b := 8) (by decide) hm
    | with_reducible apply State.setO_kept

theorem State.incB_kept {m : Nat} (hm : 8 &&& m = 8) {s : State} {x_s : State} {x_b : Bay} {x_o : Nat} (h_x_s : Kept m s x_s) : Kept m s (State.incB x_s x_b x_o) := by
  unfold State.incB
  repeat' first
    | (with_reducible first | assumption | exact Kept.refl _)
    | exact sub_trans (b := 8) (by decide) hm
    | with_reducible apply State.setB_kept

theorem State.incC_kept {m : Nat} (hm : 8 &&& m = 8) {s : State} {x_s : State} {x_c : Chan} {x_o : Nat} (h_x_s : Kept m s x_s) : Kept m s (State.incC x_s x_c x_o) := by
  unfold State.incC
  repeat' first
    | (with_reducible first | assumption | exact Kept.refl _)
    | exact sub_trans (b := 8) (by decide) hm
    | with_reducible apply State.setC_kept

theorem State.flagB_kept {m : Nat} (hm : 8 &&& m = 8) {s : State} {x_s : State} {x_b : Bay} {x_o : Nat} {x_bit : Nat} (h_x_s : Kept m s x_s) : Kept m s (State.flagB x_s x_b x_o x_bit) := by
  unfold State.flagB
  repeat' first
    | (with_reducible first | assumption | exact Kept.refl _)
    | exact sub_trans (b := 8) (by decide) hm
    | with_reducible apply State.setB_kept

theorem State.flagC_kept {m : Nat} (hm : 8 &&& m = 8) {s : State} {x_s : State} {x_c : Chan} {x_o : Nat} {x_bit : Nat} (h_x_s : Kept m s x_s) : Kept m s (State.flagC x_s x_c x_o x_bit) := by
  unfold State.flagC
  repeat' first
    | (with_reducible first | assumption | exact Kept.refl _)
    | exact sub_trans (b := 8) (by decide) hm
    | with_reducible apply State.setC_kept

theorem State.modBay_kept {m : Nat} (hm : 8192 &&& m = 8192) {s : State} {x_s : State} {x_b : Bay} {x_f : BayU → BayU} (h_x_s : Kept m s x_s) : Kept m s (State.modBay x_s x_b x_f) := by
  unfold State.modBay
  repeat' first
    | (with_reducible first | assumption | exact Kept.refl _)
    | (intro p; cases p <;> first | exact Or.inl (bit_of (a := 8192) hm rfl) | exact Or.inr rfl)
    | (refine Kept.upd ?_ ?_)

theorem State.modChan_kept {m : Nat} (hm : 16384 &&& m = 16384) {s : State} {x_s : State} {x_c : Chan} {x_f : ChanU → ChanU} (h_x_s : Kept m s x_s) : Kept m s (State.modChan x_s x_c x_f) := by
  unfold State.modChan
  repeat' first
    | (with_reducible first | assumption | exact Kept.refl _)
    | (intro p; cases p <;> first | exact Or.inl (bit_of (a := 16384) hm rfl) | exact Or.inr rfl)
    | (refine Kept.upd ?_ ?_)

theorem State.modDie_kept {m : Nat} (hm : 16384 &&& m = 16384) {s : State} {x_s : State} {x_d : Die} {x_f : DieU → DieU} (h_x_s : Kept m s x_s) : Kept m s (State.modDie x_s x_d x_f) := by
  unfold State.modDie
  repeat' first
    | (with_reducible first | assumption | exact Kept.refl _)
    | (intro p; cases p <;> first | exact Or.inl (bit_of (a := 16384) hm rfl) | exact Or.inr rfl)
    | (refine Kept.upd ?_ ?_)

theorem State.each_kept {m : Nat} {s t : State} {α : Type} {l : List α} {f : State → α → State} (h : Kept m s t)
    (hf : ∀ u a, Kept m s u → Kept m s (f u a)) : Kept m s (t.each l f) := by
  unfold State.each; exact Kept.foldl h hf

theorem State.answer_kept {m : Nat} (hm : 1 &&& m = 1) {s : State} {x_s : State} {x_status : Nat} (h_x_s : Kept m s x_s) : Kept m s (State.answer x_s x_status) := by
  unfold State.answer
  repeat' first
    | (with_reducible first | assumption | exact Kept.refl _)
    | (intro p; cases p <;> first | exact Or.inl (bit_of (a := 1) hm rfl) | exact Or.inr rfl)
    | (refine Kept.upd ?_ ?_)

theorem State.answerD_kept {m : Nat} (hm : 1 &&& m = 1) {s : State} {x_s : State} {x_status : Nat} {x_detail : Nat} (h_x_s : Kept m s x_s) : Kept m s (State.answerD x_s x_status x_detail) := by
  unfold State.answerD
  repeat' first
    | (with_reducible first | assumption | exact Kept.refl _)
    | (intro p; cases p <;> first | exact Or.inl (bit_of (a := 1) hm rfl) | exact Or.inr rfl)
    | (refine Kept.upd ?_ ?_)

theorem State.answerBody_kept {m : Nat} (hm : 1 &&& m = 1) {s : State} {x_s : State} {x_body : Bytes} (h_x_s : Kept m s x_s) : Kept m s (State.answerBody x_s x_body) := by
  unfold State.answerBody
  repeat' first
    | (with_reducible first | assumption | exact Kept.refl _)
    | (intro p; cases p <;> first | exact Or.inl (bit_of (a := 1) hm rfl) | exact Or.inr rfl)
    | (refine Kept.upd ?_ ?_)

theorem State.ok_kept {m : Nat} (hm : 1 &&& m = 1) {s : State} {x_s : State} (h_x_s : Kept m s x_s) : Kept m s (State.ok x_s) := by
  unfold State.ok
  repeat' first
    | (with_reducible first | assumption | exact Kept.refl _)
    | exact sub_trans (b := 1) (by decide) hm
    | with_reducible apply State.answer_kept

theorem State.eventCount_kept {m : Nat} (hm : 8 &&& m = 8) {s : State} {x_s : State} {x_n : Nat} {x_t : Nat} {x_detail : Nat} (h_x_s : Kept m s x_s) : Kept m s (State.eventCount x_s x_n x_t x_detail) := by
  unfold State.eventCount
  repeat' first
    | (with_reducible first | assumption | exact Kept.refl _)
    | exact sub_trans (b := 8) (by decide) hm
    | (intro x_1; refine (fun hx : Kept m s x_1 => ?_) ?_; (clear_value x_1); rotate_left; (unfold x_1))
    | (intro x_1; clear_value x_1)
    | intro _
    | with_reducible apply State.setO_kept
    | lift_lets -underBinder

/-- An ordered insertion adds one element. -/
theorem putOrdered_length {α : Type} (t s : α → Nat) (l : List α) (r : α) : (putOrdered t s l r).length = l.length + 1 := by
  unfold putOrdered
  simp only [List.length_append, List.length_cons, List.length_take, List.length_drop]
  omega

theorem Session.note_bounded {x : Session} {n t detail now : Nat} (h : x.bounded) : (x.note n t detail now).bounded := by
  unfold Session.note
  split
  · exact h
  · split
    · exact ⟨by rw [List.length_map]; exact h.1, h.2.1, h.2.2⟩
    · split
      · rename_i hq
        exact ⟨by rw [putOrdered_length]; exact hq, h.2.1, h.2.2⟩
      · exact ⟨h.1, h.2.1, h.2.2⟩

theorem State.eventNotes_kept {m : Nat} (hm : 262144 &&& m = 262144) {s : State} {x_s : State} {x_n : Nat} {x_t : Nat} {x_detail : Nat} (h_x_s : Kept m s x_s) :
    Kept m s (State.eventNotes x_s x_n x_t x_detail) := by
  unfold State.eventNotes
  split
  · refine Kept.updSessions h_x_s (fun hs i x e => ?_) ?_
    · change (Vector.map _ x_s.sessions)[i.val] = some x at e
      rw [Vector.getElem_map] at e
      cases q : x_s.sessions[i.val] with
      | none => rw [q] at e; cases e
      | some y => rw [q] at e; cases e; exact Session.note_bounded (hs i y q)
    · intro p; cases p <;> first | exact Or.inl (bit_of (a := 262144) hm rfl) | exact Or.inr rfl
  · exact h_x_s

theorem State.eventRoom_kept {m : Nat} (hm : 8 &&& m = 8) {s : State} {x_s : State} (h_x_s : Kept m s x_s) : Kept m s (State.eventRoom x_s) := by
  unfold State.eventRoom
  repeat' first
    | (with_reducible first | assumption | exact Kept.refl _)
    | exact sub_trans (b := 8) (by decide) hm
    | (with_reducible first | apply State.incO_kept | apply Kept.ite)

theorem lastN_length {α : Type} (n : Nat) (l : List α) : (lastN n l).length ≤ n := by
  unfold lastN; rw [List.length_drop]; omega

theorem State.eventPut_kept {m : Nat} (hm : 131080 &&& m = 131080) {s : State} {x_s : State} {x_r : EventRec} (h_x_s : Kept m s x_s) :
    Kept m s (State.eventPut x_s x_r) := by
  unfold State.eventPut
  refine State.setO_kept (sub_trans (b := 131080) (by decide) hm) ?_
  refine Kept.updEvents h_x_s (fun _ => ?_) ?_
  · rw [putOrdered_length]
    have := lastN_length 65535 x_s.events
    omega
  · intro p; cases p <;> first | exact Or.inl (bit_of (a := 131080) hm rfl) | exact Or.inr rfl

-- before State.pinPowerUp : State.pinObjs_kept
-- before State.pinPowerUp : State.pinChans_kept
-- before State.pinPowerUp : State.pinDies_kept

theorem State.eventLog_kept {m : Nat} (hm : 131080 &&& m = 131080) {s : State} {x_s : State} {x_n : Nat} {x_t : Nat} {x_detail : Nat} (h_x_s : Kept m s x_s) : Kept m s (State.eventLog x_s x_n x_t x_detail) := by
  unfold State.eventLog
  repeat' first
    | (with_reducible first | assumption | exact Kept.refl _)
    | exact sub_trans (b := 131080) (by decide) hm
    | (with_reducible first | apply State.eventPut_kept | apply State.eventRoom_kept | apply Kept.ite)

theorem State.event_kept {m : Nat} (hm : 393224 &&& m = 393224) {s : State} {x_s : State} {x_n : Nat} {x_detail : Nat} (h_x_s : Kept m s x_s) : Kept m s (State.event x_s x_n x_detail) := by
  unfold State.event
  repeat' first
    | (with_reducible first | assumption | exact Kept.refl _)
    | exact sub_trans (b := 393224) (by decide) hm
    | (with_reducible first | apply State.eventLog_kept | apply State.eventNotes_kept | apply State.eventCount_kept)

theorem State.free_kept {m : Nat} (hm : 4 &&& m = 4) {s : State} {x_s : State} (h_x_s : Kept m s x_s) : Kept m s (State.free x_s).2 := by
  unfold State.free
  repeat' first
    | (with_reducible first | assumption | exact Kept.refl _)
    | (intro p; cases p <;> first | exact Or.inl (bit_of (a := 4) hm rfl) | exact Or.inr rfl)
    | with_reducible apply Kept.ite2
    | dsimp only
    | (refine Kept.updFresh ?_ ?_)
    | (refine Kept.upd ?_ ?_)

theorem State.freeBit_kept {m : Nat} (hm : 4 &&& m = 4) {s : State} {x_s : State} (h_x_s : Kept m s x_s) : Kept m s (State.freeBit x_s).2 := by
  unfold State.freeBit
  repeat' first
    | (with_reducible first | assumption | exact Kept.refl _)
    | (intro p; cases p <;> first | exact Or.inl (bit_of (a := 4) hm rfl) | exact Or.inr rfl)
    | with_reducible apply Kept.ite2
    | dsimp only
    | (refine Kept.updFresh ?_ ?_)
    | (refine Kept.upd ?_ ?_)

theorem State.occur_kept {m : Nat} (hm : 393228 &&& m = 393228) {s : State} {x_s : State} {x_n : Nat} (h_x_s : Kept m s x_s) : Kept m s (State.occur x_s x_n) := by
  unfold State.occur
  repeat' first
    | (with_reducible first | assumption | exact Kept.refl _)
    | exact sub_trans (b := 393228) (by decide) hm
    | (with_reducible first | apply State.event_kept | apply State.free_kept | apply Kept.ite2)
    | dsimp only

theorem Tab.mem_set {α : Type} {t : Tab α} {k : Nat} {v : α} {e : Nat × α} (h : e ∈ Tab.set t k v) : e ∈ t ∨ e = (k, v) := by
  induction t with
  | nil => simp only [Tab.set, List.mem_singleton] at h; exact Or.inr h
  | cons a t ih =>
    obtain ⟨j, w⟩ := a
    simp only [Tab.set] at h
    split at h
    · rcases List.mem_cons.mp h with h | h
      · exact Or.inr h
      · exact Or.inl h
    · split at h
      · rcases List.mem_cons.mp h with h | h
        · exact Or.inr h
        · exact Or.inl (List.mem_cons_of_mem _ h)
      · rcases List.mem_cons.mp h with h | h
        · exact Or.inl (h ▸ List.mem_cons_self)
        · rcases ih h with h | h
          · exact Or.inl (List.mem_cons_of_mem _ h)
          · exact Or.inr h

theorem Tab.mem_of_get {α : Type} {t : Tab α} {k : Nat} {d : α} : t.get k d = d ∨ (k, t.get k d) ∈ t := by
  induction t with
  | nil => exact Or.inl rfl
  | cons a t ih =>
    obtain ⟨j, w⟩ := a
    simp only [Tab.get]
    split
    · rename_i e; subst e; exact Or.inr List.mem_cons_self
    · rcases ih with ih | ih
      · exact Or.inl ih
      · exact Or.inr (List.mem_cons_of_mem _ ih)

theorem State.send_kept {m : Nat} (hm : 32768 &&& m = 32768) {s : State} {x_s : State} {x_m : FaultMsg} (h_x_s : Kept m s x_s) :
    Kept m s (State.send x_s x_m) := by
  unfold State.send
  split
  · refine Kept.upd h_x_s ?_
    intro p; cases p <;> first | exact Or.inl (bit_of (a := 32768) hm rfl) | exact Or.inr rfl
  · dsimp only
    split
    · rename_i hq
      refine Kept.updPorts h_x_s (fun w e he => ?_) ?_
      · rcases Tab.mem_set he with he | he
        · exact w e he
        · subst he; rw [List.length_append]; exact hq
      · intro p; cases p <;> first | exact Or.inl (bit_of (a := 32768) hm rfl) | exact Or.inr rfl
    · refine Kept.upd h_x_s ?_
      intro p; cases p <;> first | exact Or.inl (bit_of (a := 32768) hm rfl) | exact Or.inr rfl

theorem State.fault_kept {m : Nat} (hm : 32768 &&& m = 32768) {s : State} {x_s : State} {x_unit : Nat} {x_kind : Nat} {x_address : Nat} (h_x_s : Kept m s x_s) : Kept m s (State.fault x_s x_unit x_kind x_address) := by
  unfold State.fault
  repeat' first
    | (with_reducible first | assumption | exact Kept.refl _)
    | exact sub_trans (b := 32768) (by decide) hm
    | with_reducible apply State.send_kept

theorem State.stale_kept {m : Nat} (hm : 393229 &&& m = 393229) {s : State} {x_s : State} {x_b : Bay} (h_x_s : Kept m s x_s) : Kept m s (State.stale x_s x_b) := by
  unfold State.stale
  repeat' first
    | (with_reducible first | assumption | exact Kept.refl _)
    | exact sub_trans (b := 393229) (by decide) hm
    | (with_reducible first | apply State.answerD_kept | apply State.occur_kept | apply State.incB_kept)

theorem State.hostBay_kept {m : Nat} (hm : 393229 &&& m = 393229) {s : State} {x_s : State} {x_b : Bay} {x_epoch : BitVec 16} (x_k : State → State) (h_x_s : Kept m s x_s) (h_x_k : ∀ (v0 : State), Kept m s v0 → Kept m s (x_k v0)) : Kept m s (State.hostBay x_s x_b x_epoch x_k) := by
  unfold State.hostBay
  repeat' first
    | (with_reducible first | assumption | exact Kept.refl _)
    | exact sub_trans (b := 393229) (by decide) hm
    | (with_reducible first | apply h_x_k | apply State.answer_kept | apply State.stale_kept | apply Kept.ite)

theorem State.hostBayFirm_kept {m : Nat} (hm : 393229 &&& m = 393229) {s : State} {x_s : State} {x_b : Bay} {x_epoch : BitVec 16} (x_k : State → State) (h_x_s : Kept m s x_s) (h_x_k : ∀ (v0 : State), Kept m s v0 → Kept m s (x_k v0)) : Kept m s (State.hostBayFirm x_s x_b x_epoch x_k) := by
  unfold State.hostBayFirm
  repeat' first
    | (with_reducible first | assumption | exact Kept.refl _)
    | exact sub_trans (b := 393229) (by decide) hm
    | intro _
    | (with_reducible first | apply h_x_k | apply State.hostBay_kept | apply State.answer_kept | apply Kept.ite)
    | split

theorem State.hostChan_kept {m : Nat} (hm : 393229 &&& m = 393229) {s : State} {x_s : State} {x_c : Chan} {x_epoch : BitVec 16} (x_k : State → State) (h_x_s : Kept m s x_s) (h_x_k : ∀ (v0 : State), Kept m s v0 → Kept m s (x_k v0)) : Kept m s (State.hostChan x_s x_c x_epoch x_k) := by
  unfold State.hostChan
  repeat' first
    | (with_reducible first | assumption | exact Kept.refl _)
    | exact sub_trans (b := 393229) (by decide) hm
    | (with_reducible first | apply h_x_k | apply State.hostBay_kept)

theorem State.hostModule_kept {m : Nat} (hm : 1 &&& m = 1) {s : State} {x_s : State} (x_k : State → State) (h_x_s : Kept m s x_s) (h_x_k : ∀ (v0 : State), Kept m s v0 → Kept m s (x_k v0)) : Kept m s (State.hostModule x_s x_k) := by
  unfold State.hostModule
  repeat' first
    | (with_reducible first | assumption | exact Kept.refl _)
    | exact sub_trans (b := 1) (by decide) hm
    | (with_reducible first | apply h_x_k | apply State.answer_kept | apply Kept.ite)

theorem State.hostFirm_kept {m : Nat} (hm : 1 &&& m = 1) {s : State} {x_s : State} (x_k : State → State) (h_x_s : Kept m s x_s) (h_x_k : ∀ (v0 : State), Kept m s v0 → Kept m s (x_k v0)) : Kept m s (State.hostFirm x_s x_k) := by
  unfold State.hostFirm
  repeat' first
    | (with_reducible first | assumption | exact Kept.refl _)
    | exact sub_trans (b := 1) (by decide) hm
    | intro _
    | (with_reducible first | apply h_x_k | apply State.hostModule_kept | apply State.answer_kept | apply Kept.ite)

theorem State.markSite_kept {m : Nat} (hm : 8 &&& m = 8) {s : State} {x_s : State} {x_i : Site} {x_bit : Nat} (h_x_s : Kept m s x_s) : Kept m s (State.markSite x_s x_i x_bit) := by
  unfold State.markSite
  repeat' first
    | (with_reducible first | assumption | exact Kept.refl _)
    | exact sub_trans (b := 8) (by decide) hm
    | with_reducible apply State.setS_kept

theorem State.markSites_kept {m : Nat} (hm : 8 &&& m = 8) {s : State} {x_s : State} {x_b : Bay} {x_bit : Nat} (h_x_s : Kept m s x_s) : Kept m s (State.markSites x_s x_b x_bit) := by
  unfold State.markSites
  repeat' first
    | (with_reducible first | assumption | exact Kept.refl _)
    | exact sub_trans (b := 8) (by decide) hm
    | intro _
    | (with_reducible first | apply State.each_kept | apply State.markSite_kept)

theorem State.invalidChan_kept {m : Nat} (hm : 8 &&& m = 8) {s : State} {x_s : State} {x_c : Chan} (h_x_s : Kept m s x_s) : Kept m s (State.invalidChan x_s x_c) := by
  unfold State.invalidChan
  repeat' first
    | (with_reducible first | assumption | exact Kept.refl _)
    | exact sub_trans (b := 8) (by decide) hm
    | (with_reducible first | apply State.markSite_kept | exact KeptO.none | apply KeptO.some | apply KeptO.ite)
    | split
    | (refine Kept.upd ?_ ?_)

theorem State.inhibit_kept {m : Nat} (hm : 8 &&& m = 8) {s : State} {x_s : State} {x_c : Chan} {x_cause : Nat} {x_on : Bool} (h_x_s : Kept m s x_s) : Kept m s (State.inhibit x_s x_c x_cause x_on) := by
  unfold State.inhibit
  repeat' first
    | (with_reducible first | assumption | exact Kept.refl _)
    | exact sub_trans (b := 8) (by decide) hm
    | with_reducible apply State.setC_kept

theorem State.inhibitBay_kept {m : Nat} (hm : 8 &&& m = 8) {s : State} {x_s : State} {x_b : Bay} {x_cause : Nat} {x_on : Bool} (h_x_s : Kept m s x_s) : Kept m s (State.inhibitBay x_s x_b x_cause x_on) := by
  unfold State.inhibitBay
  repeat' first
    | (with_reducible first | assumption | exact Kept.refl _)
    | exact sub_trans (b := 8) (by decide) hm
    | intro _
    | (with_reducible first | apply State.each_kept | apply State.inhibit_kept)

theorem State.setClaim_kept {m : Nat} (hm : 264 &&& m = 264) {s : State} {x_s : State} {x_r : Resource} {x_owner : Nat} {x_feature : Nat} (h_x_s : Kept m s x_s) : Kept m s (State.setClaim x_s x_r x_owner x_feature) := by
  unfold State.setClaim
  repeat' first
    | (with_reducible first | assumption | exact Kept.refl _)
    | exact sub_trans (b := 264) (by decide) hm
    | (intro p; cases p <;> first | exact Or.inl (bit_of (a := 264) hm rfl) | exact Or.inr rfl)
    | with_reducible apply State.setO_kept
    | (refine Kept.upd ?_ ?_)

theorem State.freeClaim_kept {m : Nat} (hm : 264 &&& m = 264) {s : State} {x_s : State} {x_r : Resource} (h_x_s : Kept m s x_s) : Kept m s (State.freeClaim x_s x_r) := by
  unfold State.freeClaim
  repeat' first
    | (with_reducible first | assumption | exact Kept.refl _)
    | exact sub_trans (b := 264) (by decide) hm
    | (intro p; cases p <;> first | exact Or.inl (bit_of (a := 264) hm rfl) | exact Or.inr rfl)
    | with_reducible apply State.setO_kept
    | (refine Kept.upd ?_ ?_)

theorem State.releaseOwner_kept {m : Nat} (hm : 264 &&& m = 264) {s : State} {x_s : State} {x_owner : Nat} (h_x_s : Kept m s x_s) : Kept m s (State.releaseOwner x_s x_owner) := by
  unfold State.releaseOwner
  repeat' first
    | (with_reducible first | assumption | exact Kept.refl _)
    | exact sub_trans (b := 264) (by decide) hm
    | intro _
    | (with_reducible first | apply State.each_kept | apply State.freeClaim_kept | exact KeptO.none | apply KeptO.some | apply KeptO.ite | apply Kept.ite)
    | split
    | (refine Kept.upd ?_ ?_)

theorem State.dropEvent_kept {m : Nat} (hm : 1073741824 &&& m = 1073741824) {s : State} {x_s : State} {x_island : Nat} (h_x_s : Kept m s x_s) : Kept m s (State.dropEvent x_s x_island) := by
  unfold State.dropEvent
  repeat' first
    | (with_reducible first | assumption | exact Kept.refl _)
    | (intro p; cases p <;> first | exact Or.inl (bit_of (a := 1073741824) hm rfl) | exact Or.inr rfl)
    | (refine Kept.upd ?_ ?_)

end Sys2Proof.Machine
end

