-- ==== Sys2Proof/Laws/KeptHoldup.lean ====
section
/-! SUPPORT. What the operations of Machine/Holdup.lean keep. -/

set_option linter.all false

namespace Sys2Proof.Machine

theorem State.recordCheck_kept {m : Nat} (hm : 2129928 &&& m = 2129928) {s : State} {x_s : State} {x_m : Sample} (h_x_s : Kept m s x_s) : Kept m s (State.recordCheck x_s x_m) := by
  unfold State.recordCheck
  repeat' first
    | (with_reducible first | assumption | exact Kept.refl _)
    | exact sub_trans (b := 2129928) (by decide) hm
    | (intro x_1; refine (fun hx : Kept m s x_1 => ?_) ?_; (clear_value x_1); rotate_left; (unfold x_1))
    | (intro x_1; clear_value x_1)
    | (intro p; cases p <;> first | exact Or.inl (bit_of (a := 2129928) hm rfl) | exact Or.inr rfl)
    | intro _
    | (with_reducible first | apply State.setO_kept | apply State.fault_kept | apply Kept.ite)
    | lift_lets -underBinder
    | (refine Kept.upd ?_ ?_)

theorem State.refuseCommit_kept {m : Nat} (hm : 393225 &&& m = 393225) {s : State} {x_s : State} {x_cls : Nat} {x_unit : Nat} (h_x_s : Kept m s x_s) : Kept m s (State.refuseCommit x_s x_cls x_unit) := by
  unfold State.refuseCommit
  repeat' first
    | (with_reducible first | assumption | exact Kept.refl _)
    | exact sub_trans (b := 393225) (by decide) hm
    | (with_reducible first | apply State.answer_kept | apply State.event_kept | apply State.setO_kept | apply State.incO_kept)

theorem State.commitGate_kept {m : Nat} (hm : 2523145 &&& m = 2523145) {s : State} {x_s : State} {x_m : Sample} {x_cls : Nat} {x_unit : Nat} (x_k : State → State) (h_x_s : Kept m s x_s) (h_x_k : ∀ (v0 : State), Kept m s v0 → Kept m s (x_k v0)) : Kept m s (State.commitGate x_s x_m x_cls x_unit x_k) := by
  unfold State.commitGate
  repeat' first
    | (with_reducible first | assumption | exact Kept.refl _)
    | exact sub_trans (b := 2523145) (by decide) hm
    | (intro x_1; refine (fun hx : Kept m s x_1 => ?_) ?_; (clear_value x_1); rotate_left; (unfold x_1))
    | (intro x_1; clear_value x_1)
    | intro _
    | (with_reducible first | apply h_x_k | apply State.refuseCommit_kept | apply State.recordCheck_kept | apply Kept.ite)
    | lift_lets -underBinder

theorem State.ledgerWrite_kept {m : Nat} (hm : 12 &&& m = 12) {s : State} {x_s : State} (h_x_s : Kept m s x_s) : Kept m s (State.ledgerWrite x_s) := by
  unfold State.ledgerWrite
  repeat' first
    | (with_reducible first | assumption | exact Kept.refl _)
    | exact sub_trans (b := 12) (by decide) hm
    | (intro x_1; refine (fun hx : Kept m s x_1 => ?_) ?_; (clear_value x_1); rotate_left; (unfold x_1))
    | (intro x_1; refine (fun hx : Kept m s x_1.2 => ?_) ?_; (clear_value x_1); rotate_left; (unfold x_1))
    | (intro x_1; clear_value x_1)
    | intro _
    | (with_reducible first | apply State.setO_kept | apply State.free_kept | apply Kept.ite | apply Kept.ite2)
    | lift_lets -underBinder
    | dsimp only

theorem State.ledgerPut_kept {m : Nat} (hm : 67108864 &&& m = 67108864) {s : State} {x_s : State} {x_keys : List Nat} (h_x_s : Kept m s x_s) : Kept m s (State.ledgerPut x_s x_keys) := by
  unfold State.ledgerPut
  repeat' first
    | (with_reducible first | assumption | exact Kept.refl _)
    | (intro p; cases p <;> first | exact Or.inl (bit_of (a := 67108864) hm rfl) | exact Or.inr rfl)
    | intro _
    | with_reducible apply Kept.foldl
    | (refine Kept.upd ?_ ?_)

end Sys2Proof.Machine
end

