-- ==== Sys2Proof/Laws/KeptHbm.lean ====
section
/-! SUPPORT. What the operations of Machine/Hbm.lean keep. -/

set_option linter.all false

namespace Sys2Proof.Machine

theorem State.putMem_kept {m : Nat} (hm : 192 &&& m = 192) {s : State} {x_s : State} {x_a : Nat} {x_data : Bytes} {x_tag : Nat} (h_x_s : Kept m s x_s) : Kept m s (State.putMem x_s x_a x_data x_tag) := by
  unfold State.putMem
  repeat' first
    | (with_reducible first | assumption | exact Kept.refl _)
    | (intro x_1; refine (fun hx : Kept m s x_1 => ?_) ?_; (clear_value x_1); rotate_left; (unfold x_1))
    | (intro x_1; clear_value x_1)
    | (intro p; cases p <;> first | exact Or.inl (bit_of (a := 192) hm rfl) | exact Or.inr rfl)
    | intro _
    | (with_reducible first | apply State.each_kept | apply Kept.ite)
    | lift_lets -underBinder
    | (refine Kept.updMem ?_ ?_)
    | (refine Kept.upd ?_ ?_)

theorem State.writeBlocks_kept {m : Nat} (hm : 192 &&& m = 192) {s : State} {x_s : State} {x_addr : Nat} {x_data : Bytes} {x_stamp : Nat} (h_x_s : Kept m s x_s) : Kept m s (State.writeBlocks x_s x_addr x_data x_stamp) := by
  unfold State.writeBlocks
  repeat' first
    | (with_reducible first | assumption | exact Kept.refl _)
    | (intro x_1; refine (fun hx : Kept m s x_1 => ?_) ?_; (clear_value x_1); rotate_left; (unfold x_1))
    | (intro x_1; clear_value x_1)
    | (intro p; cases p <;> first | exact Or.inl (bit_of (a := 192) hm rfl) | exact Or.inr rfl)
    | intro _
    | with_reducible apply State.each_kept
    | lift_lets -underBinder
    | (refine Kept.updMem ?_ ?_)
    | (refine Kept.upd ?_ ?_)

theorem State.startRecovery_kept {m : Nat} (hm : 33554440 &&& m = 33554440) {s : State} {x_s : State} {x_pc : Nat} (h_x_s : Kept m s x_s) : Kept m s (State.startRecovery x_s x_pc) := by
  unfold State.startRecovery
  repeat' first
    | (with_reducible first | assumption | exact Kept.refl _)
    | exact sub_trans (b := 33554440) (by decide) hm
    | (intro p; cases p <;> first | exact Or.inl (bit_of (a := 33554440) hm rfl) | exact Or.inr rfl)
    | (with_reducible first | apply State.setO_kept | apply Kept.ite)
    | (refine Kept.upd ?_ ?_)

theorem State.countCe_kept {m : Nat} (hm : 33980428 &&& m = 33980428) {s : State} {x_s : State} {x_pc : Nat} (h_x_s : Kept m s x_s) : Kept m s (State.countCe x_s x_pc) := by
  unfold State.countCe
  repeat' first
    | (with_reducible first | assumption | exact Kept.refl _)
    | exact sub_trans (b := 33980428) (by decide) hm
    | (intro x_1; refine (fun hx : Kept m s x_1 => ?_) ?_; (clear_value x_1); rotate_left; (unfold x_1))
    | (intro x_1; clear_value x_1)
    | (intro p; cases p <;> first | exact Or.inl (bit_of (a := 33980428) hm rfl) | exact Or.inr rfl)
    | intro _
    | (with_reducible first | apply State.incO_kept | apply State.startRecovery_kept | apply State.fault_kept | apply State.occur_kept | apply Kept.ite)
    | lift_lets -underBinder
    | (refine Kept.upd ?_ ?_)

theorem State.countUe_kept {m : Nat} (hm : 425996 &&& m = 425996) {s : State} {x_s : State} {x_a : Nat} (h_x_s : Kept m s x_s) : Kept m s (State.countUe x_s x_a) := by
  unfold State.countUe
  repeat' first
    | (with_reducible first | assumption | exact Kept.refl _)
    | exact sub_trans (b := 425996) (by decide) hm
    | (intro x_1; refine (fun hx : Kept m s x_1 => ?_) ?_; (clear_value x_1); rotate_left; (unfold x_1))
    | (intro x_1; clear_value x_1)
    | intro _
    | (with_reducible first | apply State.setO_kept | apply State.incO_kept | apply State.fault_kept | apply State.occur_kept)
    | lift_lets -underBinder

theorem State.checkBlock_kept {m : Nat} (hm : 33980428 &&& m = 33980428) {s : State} {x_s : State} {x_a : Nat} {x_a2 : Ecc} (h_x_s : Kept m s x_s) : Kept m s (State.checkBlock x_s x_a x_a2) := by
  unfold State.checkBlock
  repeat' first
    | (with_reducible first | assumption | exact Kept.refl _)
    | exact sub_trans (b := 33980428) (by decide) hm
    | (with_reducible first | apply State.countCe_kept | apply State.countUe_kept)
    | split

theorem State.countTag_kept {m : Nat} (hm : 8 &&& m = 8) {s : State} {x_s : State} {x_addr : Nat} {x_n : Nat} (h_x_s : Kept m s x_s) : Kept m s (State.countTag x_s x_addr x_n) := by
  unfold State.countTag
  repeat' first
    | (with_reducible first | assumption | exact Kept.refl _)
    | exact sub_trans (b := 8) (by decide) hm
    | (intro x_1; refine (fun hx : Kept m s x_1 => ?_) ?_; (clear_value x_1); rotate_left; (unfold x_1))
    | (intro x_1; clear_value x_1)
    | intro _
    | with_reducible apply State.setO_kept
    | lift_lets -underBinder

theorem State.checkBlocks_kept {m : Nat} (hm : 33980428 &&& m = 33980428) {s : State} {x_s : State} {x_a : Nat} {x_len : Nat} {x_eccs : List Ecc} (h_x_s : Kept m s x_s) : Kept m s (State.checkBlocks x_s x_a x_len x_eccs) := by
  unfold State.checkBlocks
  repeat' first
    | (with_reducible first | assumption | exact Kept.refl _)
    | exact sub_trans (b := 33980428) (by decide) hm
    | intro _
    | (with_reducible first | apply State.each_kept | apply State.checkBlock_kept)
    | dsimp only

theorem State.modHbm_kept {m : Nat} (hm : 33554432 &&& m = 33554432) {s : State} {x_s : State} {x_f : HbmQ → HbmQ} (h_x_s : Kept m s x_s) : Kept m s (State.modHbm x_s x_f) := by
  unfold State.modHbm
  repeat' first
    | (with_reducible first | assumption | exact Kept.refl _)
    | (intro p; cases p <;> first | exact Or.inl (bit_of (a := 33554432) hm rfl) | exact Or.inr rfl)
    | intro _
    | (refine Kept.upd ?_ ?_)

theorem State.servePcs_kept {m : Nat} (hm : 33554432 &&& m = 33554432) {s : State} {x_s : State} {x_l : List (Fin 64)} (h_x_s : Kept m s x_s) : Kept m s (State.servePcs x_s x_l) := by
  unfold State.servePcs
  repeat' first
    | (with_reducible first | assumption | exact Kept.refl _)
    | exact sub_trans (b := 33554432) (by decide) hm
    | intro _
    | (with_reducible first | apply State.each_kept | apply State.modHbm_kept)
    | (refine Kept.upd ?_ ?_)

theorem State.takeSlots_kept {m : Nat} (hm : 33554432 &&& m = 33554432) {s : State} {x_s : State} {x_c : MemClass} {x_a : Nat} {x_len : Nat} (h_x_s : Kept m s x_s) : Kept m s (State.takeSlots x_s x_c x_a x_len) := by
  unfold State.takeSlots
  repeat' first
    | (with_reducible first | assumption | exact Kept.refl _)
    | exact sub_trans (b := 33554432) (by decide) hm
    | (intro x_1; refine (fun hx : Kept m s x_1 => ?_) ?_; (clear_value x_1); rotate_left; (unfold x_1))
    | (intro x_1; clear_value x_1)
    | intro _
    | (with_reducible first | apply State.each_kept | apply State.servePcs_kept | apply State.modHbm_kept)
    | lift_lets -underBinder
    | dsimp only
    | (refine Kept.upd ?_ ?_)

end Sys2Proof.Machine
end

