-- ==== Sys2Proof/Laws/KeptSpare.lean ====
section
/-! SUPPORT. What the operations of Machine/Spare.lean keep. -/

set_option linter.all false

namespace Sys2Proof.Machine

theorem State.modRoll_kept {m : Nat} (hm : 8192 &&& m = 8192) {s : State} {x_s : State} {x_b : Bay} {x_f : Roll → Roll} (h_x_s : Kept m s x_s) : Kept m s (State.modRoll x_s x_b x_f) := by
  unfold State.modRoll
  repeat' first
    | (with_reducible first | assumption | exact Kept.refl _)
    | exact sub_trans (b := 8192) (by decide) hm
    | intro _
    | with_reducible apply State.modBay_kept
    | (refine Kept.upd ?_ ?_)

theorem State.ownPath_kept {m : Nat} (hm : 8200 &&& m = 8200) {s : State} {x_s : State} {x_b : Bay} (h_x_s : Kept m s x_s) : Kept m s (State.ownPath x_s x_b) := by
  unfold State.ownPath
  repeat' first
    | (with_reducible first | assumption | exact Kept.refl _)
    | exact sub_trans (b := 8200) (by decide) hm
    | intro _
    | (with_reducible first | apply State.modRoll_kept | apply State.setC_kept | exact KeptO.none | apply KeptO.some | apply KeptO.ite)
    | split
    | (refine Kept.upd ?_ ?_)

theorem State.oldValues_kept {m : Nat} (hm : 8200 &&& m = 8200) {s : State} {x_s : State} {x_b : Bay} (h_x_s : Kept m s x_s) : Kept m s (State.oldValues x_s x_b) := by
  unfold State.oldValues
  repeat' first
    | (with_reducible first | assumption | exact Kept.refl _)
    | exact sub_trans (b := 8200) (by decide) hm
    | intro _
    | (with_reducible first | apply State.modRoll_kept | apply State.each_kept | apply State.setC_kept | exact KeptO.none | apply KeptO.some | apply KeptO.ite)
    | split
    | (refine Kept.upd ?_ ?_)

theorem State.claimSpare_kept {m : Nat} (hm : 264 &&& m = 264) {s : State} {x_s : State} {x_b : Bay} {x_feature : Nat} (h_x_s : Kept m s x_s) : Kept m s (State.claimSpare x_s x_b x_feature) := by
  unfold State.claimSpare
  repeat' first
    | (with_reducible first | assumption | exact Kept.refl _)
    | exact sub_trans (b := 264) (by decide) hm
    | with_reducible apply State.setClaim_kept

theorem State.stepOver_kept {m : Nat} (hm : 8456 &&& m = 8456) {s : State} {x_s : State} {x_b : Bay} (h_x_s : Kept m s x_s) : Kept m s (State.stepOver x_s x_b) := by
  unfold State.stepOver
  repeat' first
    | (with_reducible first | assumption | exact Kept.refl _)
    | exact sub_trans (b := 8456) (by decide) hm
    | (intro x_1; refine (fun hx : Kept m s x_1 => ?_) ?_; (clear_value x_1); rotate_left; (unfold x_1))
    | (intro x_1; clear_value x_1)
    | intro _
    | (with_reducible first | apply State.modRoll_kept | apply State.setO_kept | apply State.freeClaim_kept | apply Kept.ite)
    | lift_lets -underBinder
    | (refine Kept.upd ?_ ?_)

theorem State.rollAbort_kept {m : Nat} (hm : 8456 &&& m = 8456) {s : State} {x_s : State} {x_b : Bay} (h_x_s : Kept m s x_s) : Kept m s (State.rollAbort x_s x_b) := by
  unfold State.rollAbort
  repeat' first
    | (with_reducible first | assumption | exact Kept.refl _)
    | exact sub_trans (b := 8456) (by decide) hm
    | (intro x_1; refine (fun hx : Kept m s x_1 => ?_) ?_; (clear_value x_1); rotate_left; (unfold x_1))
    | (intro x_1; clear_value x_1)
    | intro _
    | (with_reducible first | apply State.incO_kept | apply State.ownPath_kept | apply State.oldValues_kept | apply State.stepOver_kept | apply Kept.ite)
    | lift_lets -underBinder

theorem State.shadowGranule_kept {m : Nat} (hm : 8192 &&& m = 8192) {s : State} {x_s : State} {x_b : Bay} (h_x_s : Kept m s x_s) : Kept m s (State.shadowGranule x_s x_b) := by
  unfold State.shadowGranule
  repeat' first
    | (with_reducible first | assumption | exact Kept.refl _)
    | exact sub_trans (b := 8192) (by decide) hm
    | intro _
    | (with_reducible first | apply State.modRoll_kept | apply Kept.ite)
    | (refine Kept.upd ?_ ?_)

end Sys2Proof.Machine
end

