-- ==== Sys2Proof/Laws/KeptChannel.lean ====
section
/-! SUPPORT. What the operations of Machine/Channel.lean keep. -/

set_option linter.all false

namespace Sys2Proof.Machine

theorem State.setCodes_kept {m : Nat} (hm : 8 &&& m = 8) {s : State} {x_s : State} {x_c : Chan} {x_o : Nat} {x_l : List Nat} (h_x_s : Kept m s x_s) : Kept m s (State.setCodes x_s x_c x_o x_l) := by
  unfold State.setCodes
  repeat' first
    | (with_reducible first | assumption | exact Kept.refl _)
    | exact sub_trans (b := 8) (by decide) hm
    | intro _
    | (with_reducible first | apply State.each_kept | apply State.setC_kept)

theorem State.noteCode_kept {m : Nat} (hm : 16384 &&& m = 16384) {s : State} {x_s : State} {x_c : Chan} {x_m : Fin 10} (h_x_s : Kept m s x_s) : Kept m s (State.noteCode x_s x_c x_m) := by
  unfold State.noteCode
  repeat' first
    | (with_reducible first | assumption | exact Kept.refl _)
    | exact sub_trans (b := 16384) (by decide) hm
    | (intro x_1; refine (fun hx : Kept m s x_1 => ?_) ?_; (clear_value x_1); rotate_left; (unfold x_1))
    | (intro x_1; clear_value x_1)
    | intro _
    | (with_reducible first | apply State.modChan_kept | exact KeptO.none | apply KeptO.some | apply KeptO.ite)
    | lift_lets -underBinder
    | (refine Kept.upd ?_ ?_)

theorem State.setOutputs_kept {m : Nat} (hm : 16392 &&& m = 16392) {s : State} {x_s : State} {x_c : Chan} {x_l : List Nat} (h_x_s : Kept m s x_s) : Kept m s (State.setOutputs x_s x_c x_l) := by
  unfold State.setOutputs
  repeat' first
    | (with_reducible first | assumption | exact Kept.refl _)
    | exact sub_trans (b := 16392) (by decide) hm
    | (intro x_1; refine (fun hx : Kept m s x_1 => ?_) ?_; (clear_value x_1); rotate_left; (unfold x_1))
    | (intro x_1; clear_value x_1)
    | intro _
    | (with_reducible first | apply State.each_kept | apply State.noteCode_kept | apply State.setC_kept | apply Kept.ite)
    | lift_lets -underBinder

theorem State.selectLevels_kept {m : Nat} (hm : 8 &&& m = 8) {s : State} {x_s : State} {x_b : Bay} {x_n : Nat} (h_x_s : Kept m s x_s) : Kept m s (State.selectLevels x_s x_b x_n) := by
  unfold State.selectLevels
  repeat' first
    | (with_reducible first | assumption | exact Kept.refl _)
    | exact sub_trans (b := 8) (by decide) hm
    | intro _
    | (with_reducible first | apply State.setB_kept | apply State.each_kept | apply State.setCodes_kept)

theorem State.modRef_kept {m : Nat} (hm : 8192 &&& m = 8192) {s : State} {x_s : State} {x_b : Bay} {x_f : RefChan → RefChan} (h_x_s : Kept m s x_s) : Kept m s (State.modRef x_s x_b x_f) := by
  unfold State.modRef
  repeat' first
    | (with_reducible first | assumption | exact Kept.refl _)
    | exact sub_trans (b := 8192) (by decide) hm
    | intro _
    | (with_reducible first | apply State.modBay_kept)
    | (refine Kept.upd ?_ ?_)

theorem State.setRef_kept {m : Nat} (hm : 8192 &&& m = 8192) {s : State} {x_s : State} {x_b : Bay} {x_l : List Nat} (h_x_s : Kept m s x_s) : Kept m s (State.setRef x_s x_b x_l) := by
  unfold State.setRef
  repeat' first
    | (with_reducible first | assumption | exact Kept.refl _)
    | exact sub_trans (b := 8192) (by decide) hm
    | (intro x_1; refine (fun hx : Kept m s x_1 => ?_) ?_; (clear_value x_1); rotate_left; (unfold x_1))
    | (intro x_1; clear_value x_1)
    | intro _
    | (with_reducible first | apply State.modRef_kept | apply Kept.ite)
    | lift_lets -underBinder
    | split
    | dsimp only
    | (refine Kept.upd ?_ ?_)

theorem State.loadRef_kept {m : Nat} (hm : 8192 &&& m = 8192) {s : State} {x_s : State} {x_b : Bay} (h_x_s : Kept m s x_s) : Kept m s (State.loadRef x_s x_b) := by
  unfold State.loadRef
  repeat' first
    | (with_reducible first | assumption | exact Kept.refl _)
    | exact sub_trans (b := 8192) (by decide) hm
    | (with_reducible first | apply State.setRef_kept)

theorem State.clearRef_kept {m : Nat} (hm : 8192 &&& m = 8192) {s : State} {x_s : State} {x_b : Bay} (h_x_s : Kept m s x_s) : Kept m s (State.clearRef x_s x_b) := by
  unfold State.clearRef
  repeat' first
    | (with_reducible first | assumption | exact Kept.refl _)
    | exact sub_trans (b := 8192) (by decide) hm
    | (with_reducible first | apply State.setRef_kept)

theorem State.load_kept {m : Nat} (hm : 24584 &&& m = 24584) {s : State} {x_s : State} {x_b : Bay} (h_x_s : Kept m s x_s) : Kept m s (State.load x_s x_b) := by
  unfold State.load
  repeat' first
    | (with_reducible first | assumption | exact Kept.refl _)
    | exact sub_trans (b := 24584) (by decide) hm
    | (intro x_1; refine (fun hx : Kept m s x_1 => ?_) ?_; (clear_value x_1); rotate_left; (unfold x_1))
    | (intro x_1; clear_value x_1)
    | intro _
    | (with_reducible first | apply State.incB_kept | apply State.modBay_kept | apply State.loadRef_kept | apply State.each_kept | apply State.setOutputs_kept | apply Kept.ite)
    | lift_lets -underBinder
    | split
    | dsimp only
    | (refine Kept.upd ?_ ?_)

theorem State.writeLevels_kept {m : Nat} (hm : 8 &&& m = 8) {s : State} {x_s : State} {x_c : Chan} {x_n : Nat} {x_l : List Nat} (h_x_s : Kept m s x_s) : Kept m s (State.writeLevels x_s x_c x_n x_l) := by
  unfold State.writeLevels
  repeat' first
    | (with_reducible first | assumption | exact Kept.refl _)
    | exact sub_trans (b := 8) (by decide) hm
    | (intro x_1; refine (fun hx : Kept m s x_1 => ?_) ?_; (clear_value x_1); rotate_left; (unfold x_1))
    | (intro x_1; clear_value x_1)
    | intro _
    | (with_reducible first | apply State.setCodes_kept | apply Kept.ite)
    | lift_lets -underBinder

theorem State.endMeas_kept {m : Nat} (hm : 8 &&& m = 8) {s : State} {x_s : State} {x_c : Chan} {x_status : Nat} (h_x_s : Kept m s x_s) : Kept m s (State.endMeas x_s x_c x_status) := by
  unfold State.endMeas
  repeat' first
    | (with_reducible first | assumption | exact Kept.refl _)
    | exact sub_trans (b := 8) (by decide) hm
    | (intro x_1; refine (fun hx : Kept m s x_1 => ?_) ?_; (clear_value x_1); rotate_left; (unfold x_1))
    | (intro x_1; clear_value x_1)
    | intro _
    | (with_reducible first | apply State.setC_kept | apply Kept.ite)
    | lift_lets -underBinder

theorem State.pmuOff_kept {m : Nat} (hm : 8 &&& m = 8) {s : State} {x_s : State} {x_c : Chan} (h_x_s : Kept m s x_s) : Kept m s (State.pmuOff x_s x_c) := by
  unfold State.pmuOff
  repeat' first
    | (with_reducible first | assumption | exact Kept.refl _)
    | exact sub_trans (b := 8) (by decide) hm
    | (with_reducible first | apply State.endMeas_kept | apply State.inhibit_kept | apply State.setC_kept | apply Kept.ite)

theorem State.pmuOffBay_kept {m : Nat} (hm : 8 &&& m = 8) {s : State} {x_s : State} {x_b : Bay} (h_x_s : Kept m s x_s) : Kept m s (State.pmuOffBay x_s x_b) := by
  unfold State.pmuOffBay
  repeat' first
    | (with_reducible first | assumption | exact Kept.refl _)
    | exact sub_trans (b := 8) (by decide) hm
    | (with_reducible first | apply State.each_kept | apply State.pmuOff_kept)

theorem State.showClear_kept {m : Nat} (hm : 8 &&& m = 8) {s : State} {x_s : State} {x_d : Die} (h_x_s : Kept m s x_s) : Kept m s (State.showClear x_s x_d) := by
  unfold State.showClear
  repeat' first
    | (with_reducible first | assumption | exact Kept.refl _)
    | exact sub_trans (b := 8) (by decide) hm
    | intro _
    | (with_reducible first | apply State.each_kept | apply State.setB_kept)

theorem State.clearChan_kept {m : Nat} (hm : 16392 &&& m = 16392) {s : State} {x_s : State} {x_c : Chan} (h_x_s : Kept m s x_s) : Kept m s (State.clearChan x_s x_c) := by
  unfold State.clearChan
  repeat' first
    | (with_reducible first | assumption | exact Kept.refl _)
    | exact sub_trans (b := 16392) (by decide) hm
    | (with_reducible first | apply State.setC_kept | apply State.pmuOff_kept | apply State.inhibit_kept | apply State.setOutputs_kept)

theorem State.showGuard_kept {m : Nat} (hm : 8 &&& m = 8) {s : State} {x_s : State} {x_c : Chan} (h_x_s : Kept m s x_s) : Kept m s (State.showGuard x_s x_c) := by
  unfold State.showGuard
  repeat' first
    | (with_reducible first | assumption | exact Kept.refl _)
    | exact sub_trans (b := 8) (by decide) hm
    | (intro x_1; refine (fun hx : Kept m s x_1 => ?_) ?_; (clear_value x_1); rotate_left; (unfold x_1))
    | (intro x_1; clear_value x_1)
    | intro _
    | (with_reducible first | apply State.setC_kept | apply Kept.ite)
    | lift_lets -underBinder

theorem State.unresolve_kept {m : Nat} (hm : 16392 &&& m = 16392) {s : State} {x_s : State} {x_c : Chan} (h_x_s : Kept m s x_s) : Kept m s (State.unresolve x_s x_c) := by
  unfold State.unresolve
  repeat' first
    | (with_reducible first | assumption | exact Kept.refl _)
    | exact sub_trans (b := 16392) (by decide) hm
    | (intro x_1; refine (fun hx : Kept m s x_1 => ?_) ?_; (clear_value x_1); rotate_left; (unfold x_1))
    | (intro x_1; clear_value x_1)
    | intro _
    | (with_reducible first | apply State.modChan_kept | apply State.showGuard_kept | apply State.inhibit_kept | apply State.setC_kept)
    | lift_lets -underBinder
    | (refine Kept.upd ?_ ?_)

theorem State.assayAbort_kept {m : Nat} (hm : 16392 &&& m = 16392) {s : State} {x_s : State} {x_b : Bay} (h_x_s : Kept m s x_s) : Kept m s (State.assayAbort x_s x_b) := by
  unfold State.assayAbort
  repeat' first
    | (with_reducible first | assumption | exact Kept.refl _)
    | exact sub_trans (b := 16392) (by decide) hm
    | intro _
    | (with_reducible first | apply State.setO_kept | apply State.each_kept | apply State.unresolve_kept | apply Kept.ite)

theorem State.assertClear_kept {m : Nat} (hm : 24840 &&& m = 24840) {s : State} {x_s : State} {x_d : Die} {x_src : Nat} (h_x_s : Kept m s x_s) : Kept m s (State.assertClear x_s x_d x_src) := by
  unfold State.assertClear
  repeat' first
    | (with_reducible first | assumption | exact Kept.refl _)
    | exact sub_trans (b := 24840) (by decide) hm
    | (intro x_1; refine (fun hx : Kept m s x_1 => ?_) ?_; (clear_value x_1); rotate_left; (unfold x_1))
    | (intro x_1; clear_value x_1)
    | intro _
    | (with_reducible first | apply State.showClear_kept | apply State.modDie_kept | apply State.each_kept | apply State.assayAbort_kept | apply State.clearRef_kept | apply State.rollAbort_kept | apply State.clearChan_kept | apply Kept.ite)
    | lift_lets -underBinder
    | split
    | dsimp only
    | (refine Kept.upd ?_ ?_)

theorem State.releaseClear_kept {m : Nat} (hm : 16392 &&& m = 16392) {s : State} {x_s : State} {x_d : Die} {x_src : Nat} (h_x_s : Kept m s x_s) : Kept m s (State.releaseClear x_s x_d x_src) := by
  unfold State.releaseClear
  repeat' first
    | (with_reducible first | assumption | exact Kept.refl _)
    | exact sub_trans (b := 16392) (by decide) hm
    | (intro x_1; refine (fun hx : Kept m s x_1 => ?_) ?_; (clear_value x_1); rotate_left; (unfold x_1))
    | (intro x_1; clear_value x_1)
    | intro _
    | (with_reducible first | apply State.showClear_kept | apply State.modDie_kept | apply State.each_kept | apply State.inhibitBay_kept | apply Kept.ite)
    | lift_lets -underBinder
    | (refine Kept.upd ?_ ?_)

theorem State.setLatch_kept {m : Nat} (hm : 49160 &&& m = 49160) {s : State} {x_s : State} {x_c : Chan} {x_under : Bool} {x_scope : Nat} (h_x_s : Kept m s x_s) : Kept m s (State.setLatch x_s x_c x_under x_scope) := by
  unfold State.setLatch
  repeat' first
    | (with_reducible first | assumption | exact Kept.refl _)
    | exact sub_trans (b := 49160) (by decide) hm
    | (intro x_1; refine (fun hx : Kept m s x_1 => ?_) ?_; (clear_value x_1); rotate_left; (unfold x_1))
    | (intro x_1; clear_value x_1)
    | intro _
    | (with_reducible first | apply State.flagC_kept | apply State.incC_kept | apply State.modChan_kept | apply State.setB_kept | apply State.inhibitBay_kept | apply State.inhibit_kept | apply State.send_kept | apply Kept.ite)
    | lift_lets -underBinder
    | (refine Kept.updFresh ?_ ?_)
    | (refine Kept.upd ?_ ?_)

theorem State.clearLatches_kept {m : Nat} (hm : 16392 &&& m = 16392) {s : State} {x_s : State} {x_c : Chan} (h_x_s : Kept m s x_s) : Kept m s (State.clearLatches x_s x_c) := by
  unfold State.clearLatches
  repeat' first
    | (with_reducible first | assumption | exact Kept.refl _)
    | exact sub_trans (b := 16392) (by decide) hm
    | (intro x_1; refine (fun hx : Kept m s x_1 => ?_) ?_; (clear_value x_1); rotate_left; (unfold x_1))
    | (intro x_1; clear_value x_1)
    | intro _
    | (with_reducible first | apply State.setC_kept | apply State.inhibit_kept | apply State.modChan_kept | apply State.setB_kept | apply State.inhibitBay_kept | apply Kept.ite)
    | lift_lets -underBinder
    | (refine Kept.upd ?_ ?_)

theorem State.guardEvent_kept {m : Nat} (hm : 409612 &&& m = 409612) {s : State} {x_s : State} {x_c : Chan} {x_under : Bool} (h_x_s : Kept m s x_s) : Kept m s (State.guardEvent x_s x_c x_under) := by
  unfold State.guardEvent
  repeat' first
    | (with_reducible first | assumption | exact Kept.refl _)
    | exact sub_trans (b := 409612) (by decide) hm
    | (intro x_1; refine (fun hx : Kept m s x_1 => ?_) ?_; (clear_value x_1); rotate_left; (unfold x_1))
    | (intro x_1; clear_value x_1)
    | intro _
    | (with_reducible first | apply State.modChan_kept | apply State.occur_kept | apply Kept.ite)
    | lift_lets -underBinder
    | (refine Kept.upd ?_ ?_)

theorem State.latchEvent_kept {m : Nat} (hm : 409612 &&& m = 409612) {s : State} {x_s : State} {x_c : Chan} {x_under : Bool} (h_x_s : Kept m s x_s) : Kept m s (State.latchEvent x_s x_c x_under) := by
  unfold State.latchEvent
  repeat' first
    | (with_reducible first | assumption | exact Kept.refl _)
    | exact sub_trans (b := 409612) (by decide) hm
    | intro _
    | (with_reducible first | apply State.modChan_kept | apply State.occur_kept | apply Kept.ite)
    | (refine Kept.upd ?_ ?_)

theorem State.startBlank_kept {m : Nat} (hm : 8200 &&& m = 8200) {s : State} {x_s : State} {x_b : Bay} (h_x_s : Kept m s x_s) : Kept m s (State.startBlank x_s x_b) := by
  unfold State.startBlank
  repeat' first
    | (with_reducible first | assumption | exact Kept.refl _)
    | exact sub_trans (b := 8200) (by decide) hm
    | (intro x_1; refine (fun hx : Kept m s x_1 => ?_) ?_; (clear_value x_1); rotate_left; (unfold x_1))
    | (intro x_1; clear_value x_1)
    | intro _
    | (with_reducible first | apply State.modBay_kept | apply State.setB_kept | exact KeptO.none | apply KeptO.some | apply KeptO.ite | apply Kept.ite)
    | lift_lets -underBinder
    | (refine Kept.upd ?_ ?_)

theorem State.endBlank_kept {m : Nat} (hm : 417804 &&& m = 417804) {s : State} {x_s : State} {x_b : Bay} (h_x_s : Kept m s x_s) : Kept m s (State.endBlank x_s x_b) := by
  unfold State.endBlank
  repeat' first
    | (with_reducible first | assumption | exact Kept.refl _)
    | exact sub_trans (b := 417804) (by decide) hm
    | (intro x_1; refine (fun hx : Kept m s x_1 => ?_) ?_; (clear_value x_1); rotate_left; (unfold x_1))
    | (intro x_1; clear_value x_1)
    | intro _
    | (with_reducible first | apply State.modBay_kept | apply State.setB_kept | apply State.each_kept | apply State.modChan_kept | apply State.occur_kept | apply Kept.ite)
    | lift_lets -underBinder
    | (refine Kept.upd ?_ ?_)

theorem State.tripNow_kept {m : Nat} (hm : 49160 &&& m = 49160) {s : State} {x_s : State} {x_c : Chan} {x_under : Bool} (h_x_s : Kept m s x_s) : Kept m s (State.tripNow x_s x_c x_under) := by
  unfold State.tripNow
  repeat' first
    | (with_reducible first | assumption | exact Kept.refl _)
    | exact sub_trans (b := 49160) (by decide) hm
    | (intro x_1; refine (fun hx : Kept m s x_1 => ?_) ?_; (clear_value x_1); rotate_left; (unfold x_1))
    | (intro x_1; clear_value x_1)
    | intro _
    | (with_reducible first | apply State.modChan_kept | apply State.setC_kept | apply State.inhibit_kept | apply State.setLatch_kept | apply State.showGuard_kept | apply Kept.ite)
    | lift_lets -underBinder
    | split
    | dsimp only
    | (refine Kept.upd ?_ ?_)

theorem State.latchBoth_kept {m : Nat} (hm : 409612 &&& m = 409612) {s : State} {x_s : State} {x_c : Chan} (h_x_s : Kept m s x_s) : Kept m s (State.latchBoth x_s x_c) := by
  unfold State.latchBoth
  repeat' first
    | (with_reducible first | assumption | exact Kept.refl _)
    | exact sub_trans (b := 409612) (by decide) hm
    | intro _
    | (with_reducible first | apply State.inhibit_kept | apply State.each_kept | apply State.latchEvent_kept | apply State.incC_kept | apply State.flagC_kept | apply Kept.ite)
    | split

theorem State.chanPowerUp_kept {m : Nat} (hm : 16392 &&& m = 16392) {s : State} {x_s : State} {x_c : Chan} (h_x_s : Kept m s x_s) : Kept m s (State.chanPowerUp x_s x_c) := by
  unfold State.chanPowerUp
  repeat' first
    | (with_reducible first | assumption | exact Kept.refl _)
    | exact sub_trans (b := 16392) (by decide) hm
    | (intro x_1; refine (fun hx : Kept m s x_1 => ?_) ?_; (clear_value x_1); rotate_left; (unfold x_1))
    | (intro x_1; clear_value x_1)
    | intro _
    | (with_reducible first | apply State.clearLatches_kept | apply State.pmuOff_kept | apply State.modChan_kept | apply State.unresolve_kept | apply State.setC_kept | apply State.inhibit_kept)
    | lift_lets -underBinder
    | dsimp only
    | (refine Kept.upd ?_ ?_)

theorem State.pinObjs_kept {m : Nat} (hm : 24840 &&& m = 24840) {s a : State} {o : Tab Nat} (ha : Kept m s a) : Kept m s {a with objs := o} :=
  Kept.upd ha (fun p => by cases p <;> first | exact Or.inl (bit_of (a := 24840) hm rfl) | exact Or.inr rfl)

theorem State.pinChans_kept {m : Nat} (hm : 24840 &&& m = 24840) {s a : State} (h : Kept m s a) :
    Kept m s (a.each (List.finRange 256) State.chanPowerUp) :=
  State.each_kept h (fun _ _ h => State.chanPowerUp_kept (sub_trans (b := 24840) (by decide) hm) h)

theorem State.pinDies_kept {m : Nat} (hm : 24840 &&& m = 24840) {s a : State} (hb : Kept m s a) :
    Kept m s (a.each (List.finRange 4) (fun s d =>
      let s := s.modDie d (fun u => ({ clear := u.clear, temp := u.temp } : DieU))
      (s.each (baysOf d) (fun s b => s.modRef b (fun _ => {}))).assertClear d 0)) := by
  refine State.each_kept hb (fun _ _ h => ?_)
  refine State.assertClear_kept (sub_trans (b := 24840) (by decide) hm) ?_
  refine State.each_kept ?_ (fun _ _ h => State.modRef_kept (sub_trans (b := 24840) (by decide) hm) h)
  exact State.modDie_kept (sub_trans (b := 24840) (by decide) hm) h

theorem State.pinPowerUp_kept {m : Nat} (hm : 24840 &&& m = 24840) {s : State} {x_s : State} (h_x_s : Kept m s x_s) :
    Kept m s (State.pinPowerUp x_s) :=
  State.pinDies_kept hm (State.pinObjs_kept hm (State.pinChans_kept hm h_x_s))

theorem State.forceGuard_kept {m : Nat} (hm : 442380 &&& m = 442380) {s : State} {x_s : State} {x_c : Chan} {x_under : Bool} (h_x_s : Kept m s x_s) : Kept m s (State.forceGuard x_s x_c x_under) := by
  unfold State.forceGuard
  repeat' first
    | (with_reducible first | assumption | exact Kept.refl _)
    | exact sub_trans (b := 442380) (by decide) hm
    | (intro x_1; refine (fun hx : Kept m s x_1 => ?_) ?_; (clear_value x_1); rotate_left; (unfold x_1))
    | (intro x_1; clear_value x_1)
    | intro _
    | (with_reducible first | apply State.modChan_kept | apply State.setLatch_kept | apply State.guardEvent_kept | apply State.fault_kept | apply State.showGuard_kept | apply State.latchEvent_kept | apply Kept.ite)
    | lift_lets -underBinder
    | (refine Kept.upd ?_ ?_)

theorem State.readback_kept {m : Nat} (hm : 442380 &&& m = 442380) {s : State} {x_s : State} {x_c : Chan} {x_m : Fin 10} {x_measured : Int} (h_x_s : Kept m s x_s) : Kept m s (State.readback x_s x_c x_m x_measured) := by
  unfold State.readback
  repeat' first
    | (with_reducible first | assumption | exact Kept.refl _)
    | exact sub_trans (b := 442380) (by decide) hm
    | (intro x_1; refine (fun hx : Kept m s x_1 => ?_) ?_; (clear_value x_1); rotate_left; (unfold x_1))
    | (intro x_1; clear_value x_1)
    | intro _
    | (with_reducible first | apply State.modChan_kept | apply State.setC_kept | apply State.flagC_kept | apply State.fault_kept | apply State.forceGuard_kept | apply State.showGuard_kept | apply Kept.ite)
    | lift_lets -underBinder
    | (refine Kept.upd ?_ ?_)

theorem State.refReadback_kept {m : Nat} (hm : 8192 &&& m = 8192) {s : State} {x_s : State} {x_b : Bay} {x_m : Fin 8} {x_measured : Int} (h_x_s : Kept m s x_s) : Kept m s (State.refReadback x_s x_b x_m x_measured) := by
  unfold State.refReadback
  repeat' first
    | (with_reducible first | assumption | exact Kept.refl _)
    | exact sub_trans (b := 8192) (by decide) hm
    | (intro x_1; refine (fun hx : Kept m s x_1 => ?_) ?_; (clear_value x_1); rotate_left; (unfold x_1))
    | (intro x_1; clear_value x_1)
    | intro _
    | (with_reducible first | apply State.modRef_kept | apply Kept.ite)
    | lift_lets -underBinder
    | split
    | dsimp only
    | (refine Kept.upd ?_ ?_)

theorem State.measSlot_kept {m : Nat} (hm : 16392 &&& m = 16392) {s : State} {x_s : State} {x_c : Chan} {x_x : Int} {x_clamp : Bool} (h_x_s : Kept m s x_s) : Kept m s (State.measSlot x_s x_c x_x x_clamp) := by
  unfold State.measSlot
  repeat' first
    | (with_reducible first | assumption | exact Kept.refl _)
    | exact sub_trans (b := 16392) (by decide) hm
    | (intro x_1; refine (fun hx : Kept m s x_1 => ?_) ?_; (clear_value x_1); rotate_left; (unfold x_1))
    | (intro x_1; clear_value x_1)
    | intro _
    | (with_reducible first | apply State.setC_kept | apply State.modChan_kept | apply Kept.ite)
    | lift_lets -underBinder
    | split
    | dsimp only
    | (refine Kept.upd ?_ ?_)

theorem State.convFails_kept {m : Nat} (hm : 49160 &&& m = 49160) {s : State} {x_s : State} {x_d : Die} {x_conv : Fin 8} (h_x_s : Kept m s x_s) : Kept m s (State.convFails x_s x_d x_conv) := by
  unfold State.convFails
  repeat' first
    | (with_reducible first | assumption | exact Kept.refl _)
    | exact sub_trans (b := 49160) (by decide) hm
    | (intro x_1; refine (fun hx : Kept m s x_1 => ?_) ?_; (clear_value x_1); rotate_left; (unfold x_1))
    | (intro x_1; clear_value x_1)
    | intro _
    | (with_reducible first | apply State.modDie_kept | apply State.each_kept | apply State.endMeas_kept | apply State.showGuard_kept | apply State.modChan_kept | apply State.setO_kept | apply State.fault_kept | apply Kept.ite)
    | lift_lets -underBinder
    | (refine Kept.upd ?_ ?_)

theorem State.selfCheck_kept {m : Nat} (hm : 49160 &&& m = 49160) {s : State} {x_s : State} {x_d : Die} {x_conv : Fin 8} {x_slot : Nat} {x_measured : Int} (h_x_s : Kept m s x_s) : Kept m s (State.selfCheck x_s x_d x_conv x_slot x_measured) := by
  unfold State.selfCheck
  repeat' first
    | (with_reducible first | assumption | exact Kept.refl _)
    | exact sub_trans (b := 49160) (by decide) hm
    | (intro x_1; refine (fun hx : Kept m s x_1 => ?_) ?_; (clear_value x_1); rotate_left; (unfold x_1))
    | (intro x_1; clear_value x_1)
    | intro _
    | (with_reducible first | apply State.modDie_kept | apply State.convFails_kept | apply Kept.ite)
    | lift_lets -underBinder
    | (refine Kept.upd ?_ ?_)

theorem State.convSlot_kept {m : Nat} (hm : 450572 &&& m = 450572) {s : State} {x_s : State} {x_d : Die} {x_conv : Fin 8} {x_slot : Fin 512} {x_measured : Int} {x_clamp : Bool} (h_x_s : Kept m s x_s) : Kept m s (State.convSlot x_s x_d x_conv x_slot x_measured x_clamp) := by
  unfold State.convSlot
  repeat' first
    | (with_reducible first | assumption | exact Kept.refl _)
    | exact sub_trans (b := 450572) (by decide) hm
    | (intro x_1; refine (fun hx : Kept m s x_1 => ?_) ?_; (clear_value x_1); rotate_left; (unfold x_1))
    | (intro x_1; clear_value x_1)
    | intro _
    | (with_reducible first | apply State.modDie_kept | apply State.readback_kept | apply State.refReadback_kept | apply State.selfCheck_kept | apply State.measSlot_kept | apply State.setB_kept | apply Kept.dite | apply Kept.ite)
    | lift_lets -underBinder
    | split
    | dsimp only
    | (refine Kept.upd ?_ ?_)

theorem State.lvlSelect_kept {m : Nat} (hm : 9 &&& m = 9) {s : State} {x_s : State} {x_b : Bay} {x_lvl : Nat} (h_x_s : Kept m s x_s) : Kept m s (State.lvlSelect x_s x_b x_lvl) := by
  unfold State.lvlSelect
  repeat' first
    | (with_reducible first | assumption | exact Kept.refl _)
    | exact sub_trans (b := 9) (by decide) hm
    | (with_reducible first | apply State.answer_kept | apply State.ok_kept | apply State.selectLevels_kept | apply Kept.ite)

theorem State.loadRequest_kept {m : Nat} (hm : 24585 &&& m = 24585) {s : State} {x_s : State} {x_b : Bay} (h_x_s : Kept m s x_s) : Kept m s (State.loadRequest x_s x_b) := by
  unfold State.loadRequest
  repeat' first
    | (with_reducible first | assumption | exact Kept.refl _)
    | exact sub_trans (b := 24585) (by decide) hm
    | (with_reducible first | apply State.ok_kept | apply State.load_kept)

theorem State.levelWrite_kept {m : Nat} (hm : 9 &&& m = 9) {s : State} {x_s : State} {x_c : Chan} {x_n : Nat} {x_w : LevelWrite} (h_x_s : Kept m s x_s) : Kept m s (State.levelWrite x_s x_c x_n x_w) := by
  unfold State.levelWrite
  repeat' first
    | (with_reducible first | assumption | exact Kept.refl _)
    | exact sub_trans (b := 9) (by decide) hm
    | (intro x_1; refine (fun hx : Kept m s x_1 => ?_) ?_; (clear_value x_1); rotate_left; (unfold x_1))
    | (intro x_1; clear_value x_1)
    | intro _
    | (with_reducible first | apply State.answer_kept | apply State.ok_kept | apply State.writeLevels_kept | apply Kept.ite)
    | lift_lets -underBinder
    | split
    | (refine Kept.upd ?_ ?_)

theorem State.setGuard_kept {m : Nat} (hm : 16392 &&& m = 16392) {s : State} {x_s : State} {x_c : Chan} {x_w : GuardReg} {x_v : Nat} (h_x_s : Kept m s x_s) : Kept m s (State.setGuard x_s x_c x_w x_v) := by
  unfold State.setGuard
  repeat' first
    | (with_reducible first | assumption | exact Kept.refl _)
    | exact sub_trans (b := 16392) (by decide) hm
    | (intro x_1; refine (fun hx : Kept m s x_1 => ?_) ?_; (clear_value x_1); rotate_left; (unfold x_1))
    | (intro x_1; clear_value x_1)
    | intro _
    | (with_reducible first | apply State.setC_kept | apply State.noteCode_kept | apply Kept.ite)
    | lift_lets -underBinder
    | split
    | dsimp only
    | (refine Kept.upd ?_ ?_)

theorem State.guardWrite_kept {m : Nat} (hm : 16393 &&& m = 16393) {s : State} {x_s : State} {x_c : Chan} {x_w : GuardReg} {x_v : Nat} (h_x_s : Kept m s x_s) : Kept m s (State.guardWrite x_s x_c x_w x_v) := by
  unfold State.guardWrite
  repeat' first
    | (with_reducible first | assumption | exact Kept.refl _)
    | exact sub_trans (b := 16393) (by decide) hm
    | (with_reducible first | apply State.ok_kept | apply State.setGuard_kept | apply State.answer_kept | apply Kept.ite)

theorem State.setClearCode_kept {m : Nat} (hm : 16392 &&& m = 16392) {s : State} {x_s : State} {x_c : Chan} {x_i : Fin 8} {x_code : Nat} (h_x_s : Kept m s x_s) : Kept m s (State.setClearCode x_s x_c x_i x_code) := by
  unfold State.setClearCode
  repeat' first
    | (with_reducible first | assumption | exact Kept.refl _)
    | exact sub_trans (b := 16392) (by decide) hm
    | (intro x_1; refine (fun hx : Kept m s x_1 => ?_) ?_; (clear_value x_1); rotate_left; (unfold x_1))
    | (intro x_1; clear_value x_1)
    | intro _
    | (with_reducible first | apply State.setC_kept | apply State.setOutputs_kept | apply Kept.ite)
    | lift_lets -underBinder
    | split
    | dsimp only

theorem State.clearCodeWrite_kept {m : Nat} (hm : 69648397 &&& m = 69648397) {s : State} {x_s : State} {x_c : Chan} {x_i : Fin 8} {x_code : Nat} {x_m : Sample} (h_x_s : Kept m s x_s) : Kept m s (State.clearCodeWrite x_s x_c x_i x_code x_m) := by
  unfold State.clearCodeWrite
  repeat' first
    | (with_reducible first | assumption | exact Kept.refl _)
    | exact sub_trans (b := 69648397) (by decide) hm
    | intro _
    | (with_reducible first | apply State.commitGate_kept | apply State.ok_kept | apply State.ledgerPut_kept | apply State.setClearCode_kept | apply State.ledgerWrite_kept | apply State.answer_kept | apply Kept.ite)

theorem State.tripClear_kept {m : Nat} (hm : 16393 &&& m = 16393) {s : State} {x_s : State} {x_c : Chan} (h_x_s : Kept m s x_s) : Kept m s (State.tripClear x_s x_c) := by
  unfold State.tripClear
  repeat' first
    | (with_reducible first | assumption | exact Kept.refl _)
    | exact sub_trans (b := 16393) (by decide) hm
    | (intro x_1; refine (fun hx : Kept m s x_1 => ?_) ?_; (clear_value x_1); rotate_left; (unfold x_1))
    | (intro x_1; clear_value x_1)
    | intro _
    | (with_reducible first | apply State.ok_kept | apply State.clearLatches_kept | apply State.answer_kept | apply Kept.ite)
    | lift_lets -underBinder

theorem State.pmuMode_kept {m : Nat} (hm : 9 &&& m = 9) {s : State} {x_s : State} {x_c : Chan} {x_mode : Nat} (h_x_s : Kept m s x_s) : Kept m s (State.pmuMode x_s x_c x_mode) := by
  unfold State.pmuMode
  repeat' first
    | (with_reducible first | assumption | exact Kept.refl _)
    | exact sub_trans (b := 9) (by decide) hm
    | (intro x_1; refine (fun hx : Kept m s x_1 => ?_) ?_; (clear_value x_1); rotate_left; (unfold x_1))
    | (intro x_1; clear_value x_1)
    | intro _
    | (with_reducible first | apply State.answer_kept | apply State.ok_kept | apply State.pmuOff_kept | apply State.endMeas_kept | apply State.inhibit_kept | apply State.flagC_kept | apply State.setC_kept | apply Kept.ite)
    | lift_lets -underBinder

theorem State.pmuRange_kept {m : Nat} (hm : 9 &&& m = 9) {s : State} {x_s : State} {x_c : Chan} {x_range : Nat} (h_x_s : Kept m s x_s) : Kept m s (State.pmuRange x_s x_c x_range) := by
  unfold State.pmuRange
  repeat' first
    | (with_reducible first | assumption | exact Kept.refl _)
    | exact sub_trans (b := 9) (by decide) hm
    | (with_reducible first | apply State.answer_kept | apply State.ok_kept | apply State.setC_kept | apply Kept.ite)

theorem State.measStart_kept {m : Nat} (hm : 16393 &&& m = 16393) {s : State} {x_s : State} {x_c : Chan} (h_x_s : Kept m s x_s) : Kept m s (State.measStart x_s x_c) := by
  unfold State.measStart
  repeat' first
    | (with_reducible first | assumption | exact Kept.refl _)
    | exact sub_trans (b := 16393) (by decide) hm
    | (intro x_1; refine (fun hx : Kept m s x_1 => ?_) ?_; (clear_value x_1); rotate_left; (unfold x_1))
    | (intro x_1; clear_value x_1)
    | intro _
    | (with_reducible first | apply State.ok_kept | apply State.setC_kept | apply State.modChan_kept | apply Kept.ite)
    | lift_lets -underBinder
    | split
    | dsimp only
    | (refine Kept.upd ?_ ?_)

theorem execLvlSelect_kept {m : Nat} (hm : 393229 &&& m = 393229) {s : State} {x_b : Bay} {x_epoch : BitVec 16} {x_lvl : BitVec 8} {x_s : State} (h_x_s : Kept m s x_s) : KeptN m s (execLvlSelect x_b x_epoch x_lvl x_s) := by
  unfold execLvlSelect
  repeat' first
    | (with_reducible first | assumption | exact Kept.refl _)
    | exact sub_trans (b := 393229) (by decide) hm
    | intro _
    | (with_reducible first | apply State.hostBay_kept | apply State.lvlSelect_kept | apply KeptN.next | apply KeptN.ite)

theorem execLoadRequest_kept {m : Nat} (hm : 417805 &&& m = 417805) {s : State} {x_b : Bay} {x_epoch : BitVec 16} {x_s : State} (h_x_s : Kept m s x_s) : KeptN m s (execLoadRequest x_b x_epoch x_s) := by
  unfold execLoadRequest
  repeat' first
    | (with_reducible first | assumption | exact Kept.refl _)
    | exact sub_trans (b := 417805) (by decide) hm
    | intro _
    | (with_reducible first | apply State.hostBay_kept | apply State.loadRequest_kept | apply KeptN.next | apply KeptN.ite)

theorem execLevelSetWrite_kept {m : Nat} (hm : 393229 &&& m = 393229) {s : State} {x_c : Chan} {x_epoch : BitVec 16} {x_set : Fin 16} {x_w : LevelWrite} {x_s : State} (h_x_s : Kept m s x_s) : KeptN m s (execLevelSetWrite x_c x_epoch x_set x_w x_s) := by
  unfold execLevelSetWrite
  repeat' first
    | (with_reducible first | assumption | exact Kept.refl _)
    | exact sub_trans (b := 393229) (by decide) hm
    | intro _
    | (with_reducible first | apply State.hostChan_kept | apply State.levelWrite_kept | apply KeptN.next | apply KeptN.ite)

theorem execGuardThresholdWrite_kept {m : Nat} (hm : 409613 &&& m = 409613) {s : State} {x_c : Chan} {x_epoch : BitVec 16} {x_which : GuardReg} {x_value : BitVec 16} {x_s : State} (h_x_s : Kept m s x_s) : KeptN m s (execGuardThresholdWrite x_c x_epoch x_which x_value x_s) := by
  unfold execGuardThresholdWrite
  repeat' first
    | (with_reducible first | assumption | exact Kept.refl _)
    | exact sub_trans (b := 409613) (by decide) hm
    | intro _
    | (with_reducible first | apply State.hostChan_kept | apply State.guardWrite_kept | apply KeptN.next | apply KeptN.ite)

theorem execClearCodeWrite_kept {m : Nat} (hm : 69648397 &&& m = 69648397) {s : State} {x_c : Chan} {x_epoch : BitVec 16} {x_level : Fin 8} {x_code : BitVec 32} {x_smp : Sample} {x_s : State} (h_x_s : Kept m s x_s) : KeptN m s (execClearCodeWrite x_c x_epoch x_level x_code x_smp x_s) := by
  unfold execClearCodeWrite
  repeat' first
    | (with_reducible first | assumption | exact Kept.refl _)
    | exact sub_trans (b := 69648397) (by decide) hm
    | intro _
    | (with_reducible first | apply State.hostModule_kept | apply State.stale_kept | apply State.clearCodeWrite_kept | apply KeptN.next | apply KeptN.ite | apply Kept.ite)

theorem execClearAssert_kept {m : Nat} (hm : 57608 &&& m = 57608) {s : State} {x_die : Die} {x_src : ClearSrc} {x_s : State} (h_x_s : Kept m s x_s) : KeptN m s (execClearAssert x_die x_src x_s) := by
  unfold execClearAssert
  repeat' first
    | (with_reducible first | assumption | exact Kept.refl _)
    | exact sub_trans (b := 57608) (by decide) hm
    | (intro x_1; refine (fun hx : Kept m s x_1 => ?_) ?_; (clear_value x_1); rotate_left; (unfold x_1))
    | (intro x_1; clear_value x_1)
    | intro _
    | (with_reducible first | apply State.assertClear_kept | apply State.fault_kept | apply State.each_kept | apply State.markSites_kept | apply KeptN.next | apply KeptN.ite | apply Kept.ite)
    | lift_lets -underBinder

theorem execClearRelease_kept {m : Nat} (hm : 16392 &&& m = 16392) {s : State} {x_die : Die} {x_src : ClearSrc} {x_s : State} (h_x_s : Kept m s x_s) : KeptN m s (execClearRelease x_die x_src x_s) := by
  unfold execClearRelease
  repeat' first
    | (with_reducible first | assumption | exact Kept.refl _)
    | exact sub_trans (b := 16392) (by decide) hm
    | (with_reducible first | apply State.releaseClear_kept | apply KeptN.next | apply KeptN.ite | apply Kept.ite)

theorem execGuardTrip_kept {m : Nat} (hm : 49160 &&& m = 49160) {s : State} {x_c : Chan} {x_under : Bool} {x_s : State} (h_x_s : Kept m s x_s) : KeptN m s (execGuardTrip x_c x_under x_s) := by
  unfold execGuardTrip
  repeat' first
    | (with_reducible first | assumption | exact Kept.refl _)
    | exact sub_trans (b := 49160) (by decide) hm
    | (intro x_1; refine (fun hx : Kept m s x_1 => ?_) ?_; (clear_value x_1); rotate_left; (unfold x_1))
    | (intro x_1; clear_value x_1)
    | intro _
    | (with_reducible first | apply State.tripNow_kept | apply KeptN.next | apply KeptN.ite | apply Kept.ite)
    | lift_lets -underBinder

theorem execGuardTripReport_kept {m : Nat} (hm : 1074184204 &&& m = 1074184204) {s : State} {x_c : Chan} {x_under : Bool} {x_s : State} (h_x_s : Kept m s x_s) : KeptN m s (execGuardTripReport x_c x_under x_s) := by
  unfold execGuardTripReport
  repeat' first
    | (with_reducible first | assumption | exact Kept.refl _)
    | exact sub_trans (b := 1074184204) (by decide) hm
    | (intro x_1; refine (fun hx : Kept m s x_1 => ?_) ?_; (clear_value x_1); rotate_left; (unfold x_1))
    | (intro x_1; clear_value x_1)
    | intro _
    | (with_reducible first | apply State.dropEvent_kept | apply State.modChan_kept | apply State.fault_kept | apply State.invalidChan_kept | apply State.guardEvent_kept | apply State.latchEvent_kept | apply KeptN.next | apply KeptN.ite | apply Kept.ite)
    | lift_lets -underBinder
    | split
    | dsimp only
    | (refine Kept.upd ?_ ?_)

theorem execGuardUntrip_kept {m : Nat} (hm : 16392 &&& m = 16392) {s : State} {x_c : Chan} {x_under : Bool} {x_s : State} (h_x_s : Kept m s x_s) : KeptN m s (execGuardUntrip x_c x_under x_s) := by
  unfold execGuardUntrip
  repeat' first
    | (with_reducible first | assumption | exact Kept.refl _)
    | exact sub_trans (b := 16392) (by decide) hm
    | (intro x_1; refine (fun hx : Kept m s x_1 => ?_) ?_; (clear_value x_1); rotate_left; (unfold x_1))
    | (intro x_1; clear_value x_1)
    | intro _
    | (with_reducible first | apply State.showGuard_kept | apply State.modChan_kept | apply KeptN.next | apply KeptN.ite | apply Kept.ite)
    | lift_lets -underBinder
    | (refine Kept.upd ?_ ?_)

theorem execGuardResolve_kept {m : Nat} (hm : 16392 &&& m = 16392) {s : State} {x_c : Chan} {x_under : Bool} {x_s : State} (h_x_s : Kept m s x_s) : KeptN m s (execGuardResolve x_c x_under x_s) := by
  unfold execGuardResolve
  repeat' first
    | (with_reducible first | assumption | exact Kept.refl _)
    | exact sub_trans (b := 16392) (by decide) hm
    | (intro x_1; refine (fun hx : Kept m s x_1 => ?_) ?_; (clear_value x_1); rotate_left; (unfold x_1))
    | (intro x_1; clear_value x_1)
    | intro _
    | (with_reducible first | apply State.setC_kept | apply State.inhibit_kept | apply State.showGuard_kept | apply State.modChan_kept | apply KeptN.next | apply KeptN.ite | apply Kept.ite)
    | lift_lets -underBinder
    | (refine Kept.upd ?_ ?_)

theorem execTripClear_kept {m : Nat} (hm : 409613 &&& m = 409613) {s : State} {x_c : Chan} {x_epoch : BitVec 16} {x_s : State} (h_x_s : Kept m s x_s) : KeptN m s (execTripClear x_c x_epoch x_s) := by
  unfold execTripClear
  repeat' first
    | (with_reducible first | assumption | exact Kept.refl _)
    | exact sub_trans (b := 409613) (by decide) hm
    | intro _
    | (with_reducible first | apply State.hostChan_kept | apply State.tripClear_kept | apply KeptN.next | apply KeptN.ite)

theorem State.advance_kept {m : Nat} (hm : 2 &&& m = 2) {s : State} {x_s : State} {x_t : Nat} (h_x_s : Kept m s x_s) : Kept m s (State.advance x_s x_t) := by
  unfold State.advance
  repeat' first
    | (with_reducible first | assumption | exact Kept.refl _)
    | (intro p; cases p <;> first | exact Or.inl (bit_of (a := 2) hm rfl) | exact Or.inr rfl)
    | (refine Kept.updNow ?_ ?_)
    | (refine Kept.upd ?_ ?_)

theorem execBlankExpiry_kept {m : Nat} (hm : 417806 &&& m = 417806) {s : State} {x_b : Bay} {x_s : State} (h_x_s : Kept m s x_s) : KeptN m s (execBlankExpiry x_b x_s) := by
  unfold execBlankExpiry
  repeat' first
    | (with_reducible first | assumption | exact Kept.refl _)
    | exact sub_trans (b := 417806) (by decide) hm
    | (with_reducible first | apply State.endBlank_kept | apply State.advance_kept | exact KeptO.none | apply KeptO.some | apply KeptO.ite | apply KeptN.next | apply KeptN.ite | apply Kept.ite)
    | split
    | (refine Kept.upd ?_ ?_)

theorem execLoadTimerExpiry_kept {m : Nat} (hm : 24586 &&& m = 24586) {s : State} {x_b : Bay} {x_s : State} (h_x_s : Kept m s x_s) : KeptN m s (execLoadTimerExpiry x_b x_s) := by
  unfold execLoadTimerExpiry
  repeat' first
    | (with_reducible first | assumption | exact Kept.refl _)
    | exact sub_trans (b := 24586) (by decide) hm
    | intro _
    | (with_reducible first | apply State.load_kept | apply State.modBay_kept | apply State.advance_kept | exact KeptO.none | apply KeptO.some | apply KeptO.ite | apply KeptN.next | apply KeptN.ite | apply Kept.ite)
    | split
    | (refine Kept.upd ?_ ?_)

theorem execControlLinkLost_kept {m : Nat} (hm : 32776 &&& m = 32776) {s : State} {x_b : Bay} {x_s : State} (h_x_s : Kept m s x_s) : KeptN m s (execControlLinkLost x_b x_s) := by
  unfold execControlLinkLost
  repeat' first
    | (with_reducible first | assumption | exact Kept.refl _)
    | exact sub_trans (b := 32776) (by decide) hm
    | (with_reducible first | apply State.send_kept | apply State.pmuOffBay_kept | apply State.inhibitBay_kept | apply KeptN.next | apply KeptN.ite | apply Kept.ite)

theorem execConverterSlot_kept {m : Nat} (hm : 450572 &&& m = 450572) {s : State} {x_die : Die} {x_conv : Fin 8} {x_slot : Fin 512} {x_measured : Int} {x_clamp : Bool} {x_s : State} (h_x_s : Kept m s x_s) : KeptN m s (execConverterSlot x_die x_conv x_slot x_measured x_clamp x_s) := by
  unfold execConverterSlot
  repeat' first
    | (with_reducible first | assumption | exact Kept.refl _)
    | exact sub_trans (b := 450572) (by decide) hm
    | (with_reducible first | apply State.convSlot_kept | apply KeptN.next | apply KeptN.ite | apply Kept.ite)
    | split

theorem execPmuModeWrite_kept {m : Nat} (hm : 393229 &&& m = 393229) {s : State} {x_c : Chan} {x_epoch : BitVec 16} {x_mode : BitVec 8} {x_s : State} (h_x_s : Kept m s x_s) : KeptN m s (execPmuModeWrite x_c x_epoch x_mode x_s) := by
  unfold execPmuModeWrite
  repeat' first
    | (with_reducible first | assumption | exact Kept.refl _)
    | exact sub_trans (b := 393229) (by decide) hm
    | intro _
    | (with_reducible first | apply State.hostChan_kept | apply State.pmuMode_kept | apply KeptN.next | apply KeptN.ite)

theorem execPmuRangeWrite_kept {m : Nat} (hm : 393229 &&& m = 393229) {s : State} {x_c : Chan} {x_epoch : BitVec 16} {x_range : BitVec 8} {x_s : State} (h_x_s : Kept m s x_s) : KeptN m s (execPmuRangeWrite x_c x_epoch x_range x_s) := by
  unfold execPmuRangeWrite
  repeat' first
    | (with_reducible first | assumption | exact Kept.refl _)
    | exact sub_trans (b := 393229) (by decide) hm
    | intro _
    | (with_reducible first | apply State.hostChan_kept | apply State.pmuRange_kept | apply KeptN.next | apply KeptN.ite)

theorem execMeasStart_kept {m : Nat} (hm : 409613 &&& m = 409613) {s : State} {x_c : Chan} {x_epoch : BitVec 16} {x_s : State} (h_x_s : Kept m s x_s) : KeptN m s (execMeasStart x_c x_epoch x_s) := by
  unfold execMeasStart
  repeat' first
    | (with_reducible first | assumption | exact Kept.refl _)
    | exact sub_trans (b := 409613) (by decide) hm
    | intro _
    | (with_reducible first | apply State.hostChan_kept | apply State.measStart_kept | apply KeptN.next | apply KeptN.ite)

theorem execMeasDone_kept {m : Nat} (hm : 8 &&& m = 8) {s : State} {x_c : Chan} {x_s : State} (h_x_s : Kept m s x_s) : KeptN m s (execMeasDone x_c x_s) := by
  unfold execMeasDone
  repeat' first
    | (with_reducible first | assumption | exact Kept.refl _)
    | exact sub_trans (b := 8) (by decide) hm
    | (with_reducible first | apply State.setC_kept | apply KeptN.next | apply KeptN.ite | apply Kept.ite)
    | split

end Sys2Proof.Machine
end

