-- ==== Sys2Proof/Laws/KeptCapture.lean ====
section
/-! SUPPORT. What the operations of Machine/Capture.lean keep. -/

set_option linter.all false

namespace Sys2Proof.Machine

theorem State.modVec_kept {m : Nat} (hm : 8192 &&& m = 8192) {s : State} {x_s : State} {x_b : Bay} {x_cycle : Nat} {x_f : VRec → VRec} (h_x_s : Kept m s x_s) : Kept m s (State.modVec x_s x_b x_cycle x_f) := by
  unfold State.modVec
  repeat' first
    | (with_reducible first | assumption | exact Kept.refl _)
    | exact sub_trans (b := 8192) (by decide) hm
    | intro _
    | (with_reducible first | apply State.modBay_kept | apply Kept.ite)
    | (refine Kept.upd ?_ ?_)

theorem State.freezeAt_kept {m : Nat} (hm : 401420 &&& m = 401420) {s : State} {x_s : State} {x_b : Bay} {x_f : Nat} (h_x_s : Kept m s x_s) : Kept m s (State.freezeAt x_s x_b x_f) := by
  unfold State.freezeAt
  repeat' first
    | (with_reducible first | assumption | exact Kept.refl _)
    | exact sub_trans (b := 401420) (by decide) hm
    | (intro x_1; refine (fun hx : Kept m s x_1 => ?_) ?_; (clear_value x_1); rotate_left; (unfold x_1))
    | (intro x_1; clear_value x_1)
    | intro _
    | (with_reducible first | apply State.setB_kept | apply State.modBay_kept | apply State.occur_kept | apply State.markSites_kept | exact KeptO.none | apply KeptO.some | apply KeptO.ite | apply Kept.ite)
    | lift_lets -underBinder
    | (refine Kept.upd ?_ ?_)

theorem State.freeze_kept {m : Nat} (hm : 401420 &&& m = 401420) {s : State} {x_s : State} {x_b : Bay} {x_strobeCycle : Nat} (h_x_s : Kept m s x_s) : Kept m s (State.freeze x_s x_b x_strobeCycle) := by
  unfold State.freeze
  repeat' first
    | (with_reducible first | assumption | exact Kept.refl _)
    | exact sub_trans (b := 401420) (by decide) hm
    | (intro x_1; refine (fun hx : Kept m s x_1 => ?_) ?_; (clear_value x_1); rotate_left; (unfold x_1))
    | (intro x_1; clear_value x_1)
    | intro _
    | (with_reducible first | apply State.freezeAt_kept | apply State.each_kept | exact KeptO.none | apply KeptO.some | apply KeptO.ite | apply Kept.ite)
    | lift_lets -underBinder
    | split
    | (refine Kept.upd ?_ ?_)

theorem State.reachCount_kept {m : Nat} (hm : 8192 &&& m = 8192) {s : State} {x_s : State} {x_b : Bay} {x_v : VInfo} {x_at_ : Int} (h_x_s : Kept m s x_s) : Kept m s (State.reachCount x_s x_b x_v x_at_) := by
  unfold State.reachCount
  repeat' first
    | (with_reducible first | assumption | exact Kept.refl _)
    | exact sub_trans (b := 8192) (by decide) hm
    | intro _
    | (with_reducible first | apply State.modBay_kept | apply Kept.ite)
    | split
    | (refine Kept.upd ?_ ?_)

theorem State.sameCount_kept {m : Nat} (hm : 8192 &&& m = 8192) {s : State} {x_s : State} {x_b : Bay} {x_v : VInfo} {x_at_ : Int} (h_x_s : Kept m s x_s) : Kept m s (State.sameCount x_s x_b x_v x_at_) := by
  unfold State.sameCount
  repeat' first
    | (with_reducible first | assumption | exact Kept.refl _)
    | exact sub_trans (b := 8192) (by decide) hm
    | intro _
    | (with_reducible first | apply State.modBay_kept | apply Kept.ite)
    | split
    | (refine Kept.upd ?_ ?_)

theorem State.creditFail_kept {m : Nat} (hm : 401420 &&& m = 401420) {s : State} {x_s : State} {x_c : Chan} {x_k : Nat} {x_v : VInfo} {x_strobeCycle : Nat} {x_at_ : Int} (h_x_s : Kept m s x_s) : Kept m s (State.creditFail x_s x_c x_k x_v x_strobeCycle x_at_) := by
  unfold State.creditFail
  repeat' first
    | (with_reducible first | assumption | exact Kept.refl _)
    | exact sub_trans (b := 401420) (by decide) hm
    | (intro x_1; refine (fun hx : Kept m s x_1 => ?_) ?_; (clear_value x_1); rotate_left; (unfold x_1))
    | (intro x_1; clear_value x_1)
    | intro _
    | (with_reducible first | apply State.incC_kept | apply State.modVec_kept | apply State.setB_kept | apply State.reachCount_kept | apply State.sameCount_kept | apply State.modBay_kept | apply State.markSite_kept | apply State.occur_kept | apply State.freeze_kept | apply Kept.ite)
    | lift_lets -underBinder
    | split
    | dsimp only
    | (refine Kept.upd ?_ ?_)

theorem State.queueCmp_kept {m : Nat} (hm : 8192 &&& m = 8192) {s : State} {x_s : State} {x_c : Chan} {x_k : Nat} {x_v : VInfo} {x_strobeCycle : Nat} {x_what : CmpWhat} (h_x_s : Kept m s x_s) : Kept m s (State.queueCmp x_s x_c x_k x_v x_strobeCycle x_what) := by
  unfold State.queueCmp
  repeat' first
    | (with_reducible first | assumption | exact Kept.refl _)
    | exact sub_trans (b := 8192) (by decide) hm
    | intro _
    | (with_reducible first | apply State.modBay_kept)
    | (refine Kept.upd ?_ ?_)

theorem State.registerCmp_kept {m : Nat} (hm : 24576 &&& m = 24576) {s : State} {x_s : State} {x_b : Bay} {x_r : CmpRes} (h_x_s : Kept m s x_s) : Kept m s (State.registerCmp x_s x_b x_r) := by
  unfold State.registerCmp
  repeat' first
    | (with_reducible first | assumption | exact Kept.refl _)
    | exact sub_trans (b := 24576) (by decide) hm
    | (intro x_1; refine (fun hx : Kept m s x_1 => ?_) ?_; (clear_value x_1); rotate_left; (unfold x_1))
    | (intro x_1; clear_value x_1)
    | intro _
    | (with_reducible first | apply State.modChan_kept | apply State.modBay_kept | apply Kept.ite)
    | lift_lets -underBinder
    | split
    | dsimp only
    | (refine Kept.upd ?_ ?_)

theorem State.registerDue_kept {m : Nat} (hm : 24576 &&& m = 24576) {s : State} {x_s : State} {x_b : Bay} {x_cyc : Nat} (h_x_s : Kept m s x_s) : Kept m s (State.registerDue x_s x_b x_cyc) := by
  unfold State.registerDue
  repeat' first
    | (with_reducible first | assumption | exact Kept.refl _)
    | exact sub_trans (b := 24576) (by decide) hm
    | (intro x_1; refine (fun hx : Kept m s x_1 => ?_) ?_; (clear_value x_1); rotate_left; (unfold x_1))
    | (intro x_1; clear_value x_1)
    | intro _
    | (with_reducible first | apply State.each_kept | apply State.modBay_kept | apply State.registerCmp_kept)
    | lift_lets -underBinder
    | dsimp only
    | (refine Kept.upd ?_ ?_)

theorem State.compared_kept {m : Nat} (hm : 401420 &&& m = 401420) {s : State} {x_s : State} {x_c : Chan} {x_k : Nat} {x_v : VInfo} {x_strobeCycle : Nat} {x_at_ : Int} {x_fail : Bool} (h_x_s : Kept m s x_s) : Kept m s (State.compared x_s x_c x_k x_v x_strobeCycle x_at_ x_fail) := by
  unfold State.compared
  repeat' first
    | (with_reducible first | assumption | exact Kept.refl _)
    | exact sub_trans (b := 401420) (by decide) hm
    | (intro x_1; refine (fun hx : Kept m s x_1 => ?_) ?_; (clear_value x_1); rotate_left; (unfold x_1))
    | (intro x_1; clear_value x_1)
    | intro _
    | (with_reducible first | apply State.queueCmp_kept | apply State.creditFail_kept | apply Kept.ite)
    | lift_lets -underBinder
    | split
    | dsimp only
    | (refine Kept.upd ?_ ?_)

theorem State.clearFails_kept {m : Nat} (hm : 24584 &&& m = 24584) {s : State} {x_s : State} {x_b : Bay} (h_x_s : Kept m s x_s) : Kept m s (State.clearFails x_s x_b) := by
  unfold State.clearFails
  repeat' first
    | (with_reducible first | assumption | exact Kept.refl _)
    | exact sub_trans (b := 24584) (by decide) hm
    | (intro x_1; refine (fun hx : Kept m s x_1 => ?_) ?_; (clear_value x_1); rotate_left; (unfold x_1))
    | (intro x_1; clear_value x_1)
    | intro _
    | (with_reducible first | apply State.each_kept | apply State.setB_kept | apply State.modChan_kept | apply State.setC_kept | apply State.modBay_kept)
    | lift_lets -underBinder
    | dsimp only
    | (refine Kept.upd ?_ ?_)

theorem State.setCap_kept {m : Nat} (hm : 8 &&& m = 8) {s : State} {x_s : State} {x_b : Bay} {x_m : Fin 5} {x_o : Nat} {x_v : Nat} (h_x_s : Kept m s x_s) : Kept m s (State.setCap x_s x_b x_m x_o x_v) := by
  unfold State.setCap
  repeat' first
    | (with_reducible first | assumption | exact Kept.refl _)
    | exact sub_trans (b := 8) (by decide) hm
    | with_reducible apply State.setO_kept

theorem State.modCap_kept {m : Nat} (hm : 8192 &&& m = 8192) {s : State} {x_s : State} {x_b : Bay} {x_m : Fin 5} {x_f : CapStream → CapStream} (h_x_s : Kept m s x_s) : Kept m s (State.modCap x_s x_b x_m x_f) := by
  unfold State.modCap
  repeat' first
    | (with_reducible first | assumption | exact Kept.refl _)
    | exact sub_trans (b := 8192) (by decide) hm
    | intro _
    | with_reducible apply State.modBay_kept
    | (refine Kept.upd ?_ ?_)

theorem State.openFrame_kept {m : Nat} (hm : 401420 &&& m = 401420) {s : State} {x_s : State} {x_b : Bay} {x_m : Fin 5} {x_f : CapFrame} (h_x_s : Kept m s x_s) : Kept m s (State.openFrame x_s x_b x_m x_f) := by
  unfold State.openFrame
  repeat' first
    | (with_reducible first | assumption | exact Kept.refl _)
    | exact sub_trans (b := 401420) (by decide) hm
    | (intro x_1; refine (fun hx : Kept m s x_1 => ?_) ?_; (clear_value x_1); rotate_left; (unfold x_1))
    | (intro x_1; clear_value x_1)
    | intro _
    | (with_reducible first | apply State.setCap_kept | apply State.occur_kept | apply State.modCap_kept | apply Kept.ite)
    | lift_lets -underBinder
    | split
    | dsimp only
    | (refine Kept.upd ?_ ?_)

theorem State.fixFirsts_kept {m : Nat} (hm : 8256 &&& m = 8256) {s : State} {x_s : State} {x_b : Bay} {x_m : Fin 5} (h_x_s : Kept m s x_s) : Kept m s (State.fixFirsts x_s x_b x_m) := by
  unfold State.fixFirsts
  repeat' first
    | (with_reducible first | assumption | exact Kept.refl _)
    | exact sub_trans (b := 8256) (by decide) hm
    | (intro x_1; refine (fun hx : Kept m s x_1 => ?_) ?_; (clear_value x_1); rotate_left; (unfold x_1))
    | (intro x_1; clear_value x_1)
    | (intro p; cases p <;> first | exact Or.inl (bit_of (a := 8256) hm rfl) | exact Or.inr rfl)
    | intro _
    | (with_reducible first | apply State.each_kept | apply State.modCap_kept)
    | lift_lets -underBinder
    | dsimp only
    | (refine Kept.updMem ?_ ?_)
    | (refine Kept.upd ?_ ?_)

theorem State.closeFrame_kept {m : Nat} (hm : 41164 &&& m = 41164) {s : State} {x_s : State} {x_b : Bay} {x_m : Fin 5} {x_f : CapFrame} {x_hi : Nat} {x_e : Option WinEnd} {x_written : Bool} (h_x_s : Kept m s x_s) : Kept m s (State.closeFrame x_s x_b x_m x_f x_hi x_e x_written) := by
  unfold State.closeFrame
  repeat' first
    | (with_reducible first | assumption | exact Kept.refl _)
    | exact sub_trans (b := 41164) (by decide) hm
    | (intro x_1; refine (fun hx : Kept m s x_1 => ?_) ?_; (clear_value x_1); rotate_left; (unfold x_1))
    | (intro x_1; refine (fun hx : Kept m s x_1.2 => ?_) ?_; (clear_value x_1); rotate_left; (unfold x_1))
    | (intro x_1; clear_value x_1)
    | intro _
    | (with_reducible first | apply State.fixFirsts_kept | apply State.free_kept | apply State.writeBlocks_kept | apply State.fault_kept | apply State.setCap_kept | apply State.modCap_kept | apply Kept.ite | apply Kept.ite1 | apply Kept.ite2)
    | lift_lets -underBinder
    | split
    | dsimp only
    | (refine Kept.upd ?_ ?_)

theorem State.endWindow_kept {m : Nat} (hm : 434380 &&& m = 434380) {s : State} {x_s : State} {x_b : Bay} {x_m : Fin 5} {x_f : CapFrame} {x_hi : Nat} {x_short : Bool} {x_written : Bool} (h_x_s : Kept m s x_s) : Kept m s (State.endWindow x_s x_b x_m x_f x_hi x_short x_written) := by
  unfold State.endWindow
  repeat' first
    | (with_reducible first | assumption | exact Kept.refl _)
    | exact sub_trans (b := 434380) (by decide) hm
    | (intro x_1; refine (fun hx : Kept m s x_1 => ?_) ?_; (clear_value x_1); rotate_left; (unfold x_1))
    | (intro x_1; refine (fun hx : Kept m s x_1.2 => ?_) ?_; (clear_value x_1); rotate_left; (unfold x_1))
    | (intro x_1; clear_value x_1)
    | intro _
    | (with_reducible first | apply State.free_kept | apply State.modCap_kept | apply State.closeFrame_kept | apply State.occur_kept | apply State.setCap_kept | apply Kept.ite | apply Kept.ite1 | apply Kept.ite2)
    | lift_lets -underBinder
    | split
    | dsimp only
    | (refine Kept.upd ?_ ?_)

theorem State.closeDue_kept {m : Nat} (hm : 434380 &&& m = 434380) {s : State} {x_s : State} {x_b : Bay} {x_m : Fin 5} {x_written : Bool} (h_x_s : Kept m s x_s) : Kept m s (State.closeDue x_s x_b x_m x_written) := by
  unfold State.closeDue
  repeat' first
    | (with_reducible first | assumption | exact Kept.refl _)
    | exact sub_trans (b := 434380) (by decide) hm
    | (intro x_1; refine (fun hx : Kept m s x_1 => ?_) ?_; (clear_value x_1); rotate_left; (unfold x_1))
    | (intro x_1; clear_value x_1)
    | intro _
    | (with_reducible first | apply State.modCap_kept | apply State.closeFrame_kept | apply State.openFrame_kept | apply State.endWindow_kept | apply Kept.ite)
    | lift_lets -underBinder
    | split
    | dsimp only
    | (refine Kept.upd ?_ ?_)

theorem State.startSegment_kept {m : Nat} (hm : 401420 &&& m = 401420) {s : State} {x_s : State} {x_b : Bay} {x_m : Fin 5} {x_at_ : Nat} (h_x_s : Kept m s x_s) : Kept m s (State.startSegment x_s x_b x_m x_at_) := by
  unfold State.startSegment
  repeat' first
    | (with_reducible first | assumption | exact Kept.refl _)
    | exact sub_trans (b := 401420) (by decide) hm
    | (intro x_1; refine (fun hx : Kept m s x_1 => ?_) ?_; (clear_value x_1); rotate_left; (unfold x_1))
    | (intro x_1; clear_value x_1)
    | intro _
    | (with_reducible first | apply State.modCap_kept | apply State.openFrame_kept | apply Kept.ite)
    | lift_lets -underBinder
    | split
    | dsimp only
    | (refine Kept.upd ?_ ?_)

theorem State.endSegment_kept {m : Nat} (hm : 8192 &&& m = 8192) {s : State} {x_s : State} {x_b : Bay} {x_m : Fin 5} {x_at_ : Nat} (h_x_s : Kept m s x_s) : Kept m s (State.endSegment x_s x_b x_m x_at_) := by
  unfold State.endSegment
  repeat' first
    | (with_reducible first | assumption | exact Kept.refl _)
    | exact sub_trans (b := 8192) (by decide) hm
    | intro _
    | (with_reducible first | apply State.modCap_kept | apply Kept.ite)
    | split
    | (refine Kept.upd ?_ ?_)

theorem State.capRun_kept {m : Nat} (hm : 401420 &&& m = 401420) {s : State} {x_s : State} {x_b : Bay} (h_x_s : Kept m s x_s) : Kept m s (State.capRun x_s x_b) := by
  unfold State.capRun
  repeat' first
    | (with_reducible first | assumption | exact Kept.refl _)
    | exact sub_trans (b := 401420) (by decide) hm
    | intro _
    | (with_reducible first | apply State.each_kept | apply State.setCap_kept | apply State.startSegment_kept | apply Kept.ite)
    | split

theorem State.flushCap_kept {m : Nat} (hm : 434380 &&& m = 434380) {s : State} {x_s : State} {x_b : Bay} {x_m : Fin 5} {x_a3 : Nat} (h_x_s : Kept m s x_s) : Kept m s (State.flushCap x_s x_b x_m x_a3) := by
  induction x_a3 generalizing x_s with
  | zero =>
    unfold State.flushCap
    repeat' first
      | (with_reducible first | assumption | exact Kept.refl _)
      | exact sub_trans (b := 434380) (by decide) hm
      | (with_reducible first | apply State.closeDue_kept)
      | split
      | dsimp only
  | succ k ih =>
    unfold State.flushCap
    repeat' first
      | with_reducible apply ih
      | (with_reducible first | assumption | exact Kept.refl _)
      | exact sub_trans (b := 434380) (by decide) hm
      | (with_reducible first | apply State.closeDue_kept)
      | split
      | dsimp only

theorem State.capArm_kept {m : Nat} (hm : 434380 &&& m = 434380) {s : State} {x_s : State} {x_b : Bay} (h_x_s : Kept m s x_s) : Kept m s (State.capArm x_s x_b) := by
  unfold State.capArm
  repeat' first
    | (with_reducible first | assumption | exact Kept.refl _)
    | exact sub_trans (b := 434380) (by decide) hm
    | (intro x_1; refine (fun hx : Kept m s x_1 => ?_) ?_; (clear_value x_1); rotate_left; (unfold x_1))
    | (intro x_1; clear_value x_1)
    | intro _
    | (with_reducible first | apply State.each_kept | apply State.flushCap_kept | apply State.setCap_kept | apply State.modCap_kept | apply State.startSegment_kept | apply State.setB_kept | apply State.modBay_kept | apply Kept.ite)
    | lift_lets -underBinder
    | split
    | dsimp only
    | (refine Kept.upd ?_ ?_)

theorem State.cutWindow_kept {m : Nat} (hm : 401420 &&& m = 401420) {s : State} {x_s : State} {x_b : Bay} {x_m : Fin 5} (h_x_s : Kept m s x_s) : Kept m s (State.cutWindow x_s x_b x_m) := by
  unfold State.cutWindow
  repeat' first
    | (with_reducible first | assumption | exact Kept.refl _)
    | exact sub_trans (b := 401420) (by decide) hm
    | (intro x_1; refine (fun hx : Kept m s x_1 => ?_) ?_; (clear_value x_1); rotate_left; (unfold x_1))
    | (intro x_1; clear_value x_1)
    | intro _
    | (with_reducible first | apply State.openFrame_kept | apply State.modCap_kept | apply Kept.ite)
    | lift_lets -underBinder
    | split
    | dsimp only
    | (refine Kept.upd ?_ ?_)

theorem State.capStop_kept {m : Nat} (hm : 401420 &&& m = 401420) {s : State} {x_s : State} {x_b : Bay} (h_x_s : Kept m s x_s) : Kept m s (State.capStop x_s x_b) := by
  unfold State.capStop
  repeat' first
    | (with_reducible first | assumption | exact Kept.refl _)
    | exact sub_trans (b := 401420) (by decide) hm
    | intro _
    | (with_reducible first | apply State.each_kept | apply State.cutWindow_kept | apply State.setCap_kept | apply State.endSegment_kept | apply Kept.ite)
    | split

theorem State.capPause_kept {m : Nat} (hm : 8192 &&& m = 8192) {s : State} {x_s : State} {x_b : Bay} (h_x_s : Kept m s x_s) : Kept m s (State.capPause x_s x_b) := by
  unfold State.capPause
  repeat' first
    | (with_reducible first | assumption | exact Kept.refl _)
    | exact sub_trans (b := 8192) (by decide) hm
    | intro _
    | (with_reducible first | apply State.each_kept | apply State.endSegment_kept | apply Kept.ite)
    | split

theorem State.capResume_kept {m : Nat} (hm : 401420 &&& m = 401420) {s : State} {x_s : State} {x_b : Bay} (h_x_s : Kept m s x_s) : Kept m s (State.capResume x_s x_b) := by
  unfold State.capResume
  repeat' first
    | (with_reducible first | assumption | exact Kept.refl _)
    | exact sub_trans (b := 401420) (by decide) hm
    | intro _
    | (with_reducible first | apply State.each_kept | apply State.startSegment_kept | apply Kept.ite)
    | split

theorem State.captureOn_kept {m : Nat} (hm : 401420 &&& m = 401420) {s : State} {x_s : State} {x_b : Bay} (h_x_s : Kept m s x_s) : Kept m s (State.captureOn x_s x_b) := by
  unfold State.captureOn
  repeat' first
    | (with_reducible first | assumption | exact Kept.refl _)
    | exact sub_trans (b := 401420) (by decide) hm
    | intro _
    | (with_reducible first | apply State.each_kept | apply State.setCap_kept | apply State.startSegment_kept | apply Kept.ite)
    | split

theorem State.captureOff_kept {m : Nat} (hm : 8200 &&& m = 8200) {s : State} {x_s : State} {x_b : Bay} (h_x_s : Kept m s x_s) : Kept m s (State.captureOff x_s x_b) := by
  unfold State.captureOff
  repeat' first
    | (with_reducible first | assumption | exact Kept.refl _)
    | exact sub_trans (b := 8200) (by decide) hm
    | intro _
    | (with_reducible first | apply State.each_kept | apply State.setCap_kept | apply State.endSegment_kept | apply Kept.ite)
    | split

theorem State.capMark_kept {m : Nat} (hm : 8192 &&& m = 8192) {s : State} {x_s : State} {x_b : Bay} {x_value : Nat} (h_x_s : Kept m s x_s) : Kept m s (State.capMark x_s x_b x_value) := by
  unfold State.capMark
  repeat' first
    | (with_reducible first | assumption | exact Kept.refl _)
    | exact sub_trans (b := 8192) (by decide) hm
    | (intro x_1; refine (fun hx : Kept m s x_1 => ?_) ?_; (clear_value x_1); rotate_left; (unfold x_1))
    | (intro x_1; clear_value x_1)
    | intro _
    | (with_reducible first | apply State.each_kept | apply State.modCap_kept | apply State.modBay_kept | apply Kept.ite)
    | lift_lets -underBinder
    | split
    | dsimp only
    | (refine Kept.upd ?_ ?_)

theorem State.fireWindow_kept {m : Nat} (hm : 8200 &&& m = 8200) {s : State} {x_s : State} {x_b : Bay} {x_m : Fin 5} {x_at_ : Nat} {x_cycle : Nat} {x_offset : Nat} (h_x_s : Kept m s x_s) : Kept m s (State.fireWindow x_s x_b x_m x_at_ x_cycle x_offset) := by
  unfold State.fireWindow
  repeat' first
    | (with_reducible first | assumption | exact Kept.refl _)
    | exact sub_trans (b := 8200) (by decide) hm
    | (intro x_1; refine (fun hx : Kept m s x_1 => ?_) ?_; (clear_value x_1); rotate_left; (unfold x_1))
    | (intro x_1; clear_value x_1)
    | intro _
    | (with_reducible first | apply State.modCap_kept | apply State.setCap_kept)
    | lift_lets -underBinder
    | split
    | dsimp only
    | (refine Kept.upd ?_ ?_)

theorem State.recognise_kept {m : Nat} (hm : 401420 &&& m = 401420) {s : State} {x_s : State} {x_b : Bay} {x_h : TrigHit} (h_x_s : Kept m s x_s) : Kept m s (State.recognise x_s x_b x_h) := by
  unfold State.recognise
  repeat' first
    | (with_reducible first | assumption | exact Kept.refl _)
    | exact sub_trans (b := 401420) (by decide) hm
    | (intro x_1; refine (fun hx : Kept m s x_1 => ?_) ?_; (clear_value x_1); rotate_left; (unfold x_1))
    | (intro x_1; clear_value x_1)
    | intro _
    | (with_reducible first | apply State.incB_kept | apply State.setB_kept | apply State.occur_kept | apply State.modBay_kept | apply State.each_kept | apply State.fireWindow_kept | apply Kept.ite)
    | lift_lets -underBinder
    | split
    | dsimp only
    | (refine Kept.upd ?_ ?_)

theorem State.historyFire_kept {m : Nat} (hm : 8200 &&& m = 8200) {s : State} {x_s : State} {x_b : Bay} {x_cycle : Nat} {x_offset : Nat} (h_x_s : Kept m s x_s) : Kept m s (State.historyFire x_s x_b x_cycle x_offset) := by
  unfold State.historyFire
  repeat' first
    | (with_reducible first | assumption | exact Kept.refl _)
    | exact sub_trans (b := 8200) (by decide) hm
    | (with_reducible first | apply State.fireWindow_kept | apply Kept.ite)
    | split

theorem State.hitNow_kept {m : Nat} (hm : 4 &&& m = 4) {s : State} {x_s : State} {x_b : Bay} (h_x_s : Kept m s x_s) : Kept m s (State.hitNow x_s x_b).1 := by
  unfold State.hitNow
  repeat' first
    | (with_reducible first | assumption | exact Kept.refl _)
    | exact sub_trans (b := 4) (by decide) hm
    | (intro x_1; refine (fun hx : Kept m s x_1 => ?_) ?_; (clear_value x_1); rotate_left; (unfold x_1))
    | (intro x_1; refine (fun hx : Kept m s x_1.2 => ?_) ?_; (clear_value x_1); rotate_left; (unfold x_1))
    | (intro x_1; clear_value x_1)
    | intro _
    | (with_reducible first | apply State.free_kept)
    | lift_lets -underBinder
    | split
    | dsimp only
    | (refine Kept.upd ?_ ?_)

theorem State.edgeTrigger_kept {m : Nat} (hm : 401420 &&& m = 401420) {s : State} {x_s : State} {x_b : Bay} {x_source : Nat} {x_param : Nat} {x_mask : Nat} (h_x_s : Kept m s x_s) : Kept m s (State.edgeTrigger x_s x_b x_source x_param x_mask) := by
  unfold State.edgeTrigger
  repeat' first
    | (with_reducible first | assumption | exact Kept.refl _)
    | exact sub_trans (b := 401420) (by decide) hm
    | (intro x_1; refine (fun hx : Kept m s x_1 => ?_) ?_; (clear_value x_1); rotate_left; (unfold x_1))
    | (intro x_1; refine (fun hx : Kept m s x_1.1 => ?_) ?_; (clear_value x_1); rotate_left; (unfold x_1))
    | (intro x_1; clear_value x_1)
    | intro _
    | (with_reducible first | apply State.recognise_kept | apply State.hitNow_kept | apply Kept.ite | apply Kept.ite1 | apply Kept.ite2)
    | lift_lets -underBinder
    | split
    | dsimp only

theorem State.dropHit_kept {m : Nat} (hm : 8192 &&& m = 8192) {s : State} {x_s : State} {x_b : Bay} {x_h : TrigHit} (h_x_s : Kept m s x_s) : Kept m s (State.dropHit x_s x_b x_h) := by
  unfold State.dropHit
  repeat' first
    | (with_reducible first | assumption | exact Kept.refl _)
    | exact sub_trans (b := 8192) (by decide) hm
    | intro _
    | (with_reducible first | apply State.modBay_kept)
    | split
    | (refine Kept.upd ?_ ?_)

theorem State.consume_kept {m : Nat} (hm : 9 &&& m = 9) {s : State} {x_s : State} {x_b : Bay} {x_m : Fin 5} {x_v : Nat} (h_x_s : Kept m s x_s) : Kept m s (State.consume x_s x_b x_m x_v) := by
  unfold State.consume
  repeat' first
    | (with_reducible first | assumption | exact Kept.refl _)
    | exact sub_trans (b := 9) (by decide) hm
    | (with_reducible first | apply State.answer_kept | apply State.ok_kept | apply State.setCap_kept | apply Kept.ite)

theorem State.trigForce_kept {m : Nat} (hm : 401421 &&& m = 401421) {s : State} {x_s : State} {x_b : Bay} (h_x_s : Kept m s x_s) : Kept m s (State.trigForce x_s x_b) := by
  unfold State.trigForce
  repeat' first
    | (with_reducible first | assumption | exact Kept.refl _)
    | exact sub_trans (b := 401421) (by decide) hm
    | (with_reducible first | apply State.ok_kept | apply State.edgeTrigger_kept)

theorem State.trigRearm_kept {m : Nat} (hm : 401421 &&& m = 401421) {s : State} {x_s : State} {x_b : Bay} (h_x_s : Kept m s x_s) : Kept m s (State.trigRearm x_s x_b) := by
  unfold State.trigRearm
  repeat' first
    | (with_reducible first | assumption | exact Kept.refl _)
    | exact sub_trans (b := 401421) (by decide) hm
    | (intro x_1; refine (fun hx : Kept m s x_1 => ?_) ?_; (clear_value x_1); rotate_left; (unfold x_1))
    | (intro x_1; clear_value x_1)
    | intro _
    | (with_reducible first | apply State.answer_kept | apply State.each_kept | apply State.modCap_kept | apply State.startSegment_kept | apply State.setCap_kept | apply State.ok_kept | apply State.setB_kept | apply Kept.ite)
    | lift_lets -underBinder
    | split
    | dsimp only

theorem execFrameClose_kept {m : Nat} (hm : 434380 &&& m = 434380) {s : State} {x_b : Bay} {x_mode : CapMode} {x_written : Bool} {x_s : State} (h_x_s : Kept m s x_s) : KeptN m s (execFrameClose x_b x_mode x_written x_s) := by
  unfold execFrameClose
  repeat' first
    | (with_reducible first | assumption | exact Kept.refl _)
    | exact sub_trans (b := 434380) (by decide) hm
    | (with_reducible first | apply State.closeDue_kept | apply KeptN.next | apply KeptN.ite)

theorem execConsumedFrameWrite_kept {m : Nat} (hm : 393229 &&& m = 393229) {s : State} {x_b : Bay} {x_epoch : BitVec 16} {x_mode : CapMode} {x_value : BitVec 64} {x_s : State} (h_x_s : Kept m s x_s) : KeptN m s (execConsumedFrameWrite x_b x_epoch x_mode x_value x_s) := by
  unfold execConsumedFrameWrite
  repeat' first
    | (with_reducible first | assumption | exact Kept.refl _)
    | exact sub_trans (b := 393229) (by decide) hm
    | intro _
    | (with_reducible first | apply State.hostBay_kept | apply State.consume_kept | apply KeptN.next | apply KeptN.ite)

theorem execTriggerArmed_kept {m : Nat} (hm : 8200 &&& m = 8200) {s : State} {x_b : Bay} {x_s : State} (h_x_s : Kept m s x_s) : KeptN m s (execTriggerArmed x_b x_s) := by
  unfold execTriggerArmed
  repeat' first
    | (with_reducible first | assumption | exact Kept.refl _)
    | exact sub_trans (b := 8200) (by decide) hm
    | (intro x_1; refine (fun hx : Kept m s x_1 => ?_) ?_; (clear_value x_1); rotate_left; (unfold x_1))
    | (intro x_1; clear_value x_1)
    | intro _
    | (with_reducible first | apply State.modBay_kept | apply State.setB_kept | apply State.each_kept | apply State.setCap_kept | apply KeptN.next | apply KeptN.ite | apply Kept.ite)
    | lift_lets -underBinder
    | split
    | dsimp only
    | (refine Kept.upd ?_ ?_)

theorem execTriggerRecognised_kept {m : Nat} (hm : 401420 &&& m = 401420) {s : State} {x_b : Bay} {x_cycle : Nat} {x_offset : Nat} {x_s : State} (h_x_s : Kept m s x_s) : KeptN m s (execTriggerRecognised x_b x_cycle x_offset x_s) := by
  unfold execTriggerRecognised
  repeat' first
    | (with_reducible first | assumption | exact Kept.refl _)
    | exact sub_trans (b := 401420) (by decide) hm
    | intro _
    | (with_reducible first | apply State.recognise_kept | apply State.dropHit_kept | apply KeptN.next | apply KeptN.ite)
    | split
    | (refine Kept.upd ?_ ?_)

theorem execChannelEdge_kept {m : Nat} (hm : 1074159628 &&& m = 1074159628) {s : State} {x_c : Chan} {x_cmph : Bool} {x_cmpl : Bool} {x_cycle : Nat} {x_offset : Nat} {x_s : State} (h_x_s : Kept m s x_s) : KeptN m s (execChannelEdge x_c x_cmph x_cmpl x_cycle x_offset x_s) := by
  unfold execChannelEdge
  repeat' first
    | (with_reducible first | assumption | exact Kept.refl _)
    | exact sub_trans (b := 1074159628) (by decide) hm
    | (intro x_1; refine (fun hx : Kept m s x_1 => ?_) ?_; (clear_value x_1); rotate_left; (unfold x_1))
    | (intro x_1; clear_value x_1)
    | intro _
    | (with_reducible first | apply State.modChan_kept | apply State.dropEvent_kept | apply State.occur_kept | apply State.modBay_kept | apply KeptN.next | apply KeptN.ite | apply Kept.ite)
    | lift_lets -underBinder
    | split
    | dsimp only
    | (refine Kept.upd ?_ ?_)

theorem execTrigForce_kept {m : Nat} (hm : 401421 &&& m = 401421) {s : State} {x_b : Bay} {x_epoch : BitVec 16} {x_s : State} (h_x_s : Kept m s x_s) : KeptN m s (execTrigForce x_b x_epoch x_s) := by
  unfold execTrigForce
  repeat' first
    | (with_reducible first | assumption | exact Kept.refl _)
    | exact sub_trans (b := 401421) (by decide) hm
    | intro _
    | (with_reducible first | apply State.hostBay_kept | apply State.trigForce_kept | apply KeptN.next | apply KeptN.ite)

theorem execTrigRearm_kept {m : Nat} (hm : 401421 &&& m = 401421) {s : State} {x_b : Bay} {x_epoch : BitVec 16} {x_s : State} (h_x_s : Kept m s x_s) : KeptN m s (execTrigRearm x_b x_epoch x_s) := by
  unfold execTrigRearm
  repeat' first
    | (with_reducible first | assumption | exact Kept.refl _)
    | exact sub_trans (b := 401421) (by decide) hm
    | intro _
    | (with_reducible first | apply State.hostBay_kept | apply State.trigRearm_kept | apply KeptN.next | apply KeptN.ite)

theorem execWindowDone_kept {m : Nat} (hm : 434380 &&& m = 434380) {s : State} {x_b : Bay} {x_mode : CapMode} {x_written : Bool} {x_s : State} (h_x_s : Kept m s x_s) : KeptN m s (execWindowDone x_b x_mode x_written x_s) := by
  unfold execWindowDone
  repeat' first
    | (with_reducible first | assumption | exact Kept.refl _)
    | exact sub_trans (b := 434380) (by decide) hm
    | (intro x_1; refine (fun hx : Kept m s x_1 => ?_) ?_; (clear_value x_1); rotate_left; (unfold x_1))
    | (intro x_1; clear_value x_1)
    | intro _
    | (with_reducible first | apply State.endWindow_kept | apply KeptN.next | apply KeptN.ite)
    | lift_lets -underBinder
    | split
    | dsimp only
    | (refine Kept.upd ?_ ?_)

theorem execScopeSample_kept {m : Nat} (hm : 8192 &&& m = 8192) {s : State} {x_b : Bay} {x_cmph : BitVec 2} {x_cmpl : BitVec 2} {x_s : State} (h_x_s : Kept m s x_s) : KeptN m s (execScopeSample x_b x_cmph x_cmpl x_s) := by
  unfold execScopeSample
  repeat' first
    | (with_reducible first | assumption | exact Kept.refl _)
    | exact sub_trans (b := 8192) (by decide) hm
    | (intro x_1; refine (fun hx : Kept m s x_1 => ?_) ?_; (clear_value x_1); rotate_left; (unfold x_1))
    | (intro x_1; clear_value x_1)
    | intro _
    | (with_reducible first | apply State.modCap_kept | apply KeptN.next | apply KeptN.ite | apply Kept.ite | apply Kept.ite1 | apply Kept.ite2 | apply Kept.foldl)
    | lift_lets -underBinder
    | split
    | dsimp only
    | (refine Kept.upd ?_ ?_)

end Sys2Proof.Machine
end

