-- ==== Sys2Proof/Laws/KeptTiming.lean ====
section
/-! SUPPORT. What the operations of Machine/Timing.lean keep. -/

set_option linter.all false

namespace Sys2Proof.Machine

theorem State.violate_kept {m : Nat} (hm : 393228 &&& m = 393228) {s : State} {x_s : State} {x_c : Chan} {x_flag : Nat} {x_count : Nat} (h_x_s : Kept m s x_s) : Kept m s (State.violate x_s x_c x_flag x_count) := by
  unfold State.violate
  repeat' first
    | (with_reducible first | assumption | exact Kept.refl _)
    | exact sub_trans (b := 393228) (by decide) hm
    | (intro x_1; refine (fun hx : Kept m s x_1 => ?_) ?_; (clear_value x_1); rotate_left; (unfold x_1))
    | (intro x_1; clear_value x_1)
    | intro _
    | (with_reducible first | apply State.incC_kept | apply State.flagC_kept | apply State.occur_kept | apply Kept.ite)
    | lift_lets -underBinder

theorem State.judge_kept {m : Nat} (hm : 401420 &&& m = 401420) {s : State} {x_s : State} {x_c : Chan} {x_k : Nat} {x_v : VInfo} {x_strobeCycle : Nat} {x_at_ : Int} {x_fail : Bool} (h_x_s : Kept m s x_s) : Kept m s (State.judge x_s x_c x_k x_v x_strobeCycle x_at_ x_fail) := by
  unfold State.judge
  repeat' first
    | (with_reducible first | assumption | exact Kept.refl _)
    | exact sub_trans (b := 401420) (by decide) hm
    | (intro x_1; refine (fun hx : Kept m s x_1 => ?_) ?_; (clear_value x_1); rotate_left; (unfold x_1))
    | (intro x_1; clear_value x_1)
    | intro _
    | (with_reducible first | apply State.compared_kept | apply State.historyFire_kept | apply Kept.ite)
    | lift_lets -underBinder
    | split
    | dsimp only

theorem State.placeDrive_kept {m : Nat} (hm : 409612 &&& m = 409612) {s : State} {x_s : State} {x_c : Chan} {x_v : VInfo} {x_rec : Nat} {x_a0 : Nat} {x_a1 : Nat} (h_x_s : Kept m s x_s) : Kept m s (State.placeDrive x_s x_c x_v x_rec x_a0 x_a1) := by
  unfold State.placeDrive
  repeat' first
    | (with_reducible first | assumption | exact Kept.refl _)
    | exact sub_trans (b := 409612) (by decide) hm
    | (intro x_1; refine (fun hx : Kept m s x_1 => ?_) ?_; (clear_value x_1); rotate_left; (unfold x_1))
    | (intro x_1; clear_value x_1)
    | intro _
    | (with_reducible first | apply State.each_kept | apply State.modChan_kept | apply State.invalidChan_kept | apply State.violate_kept | exact KeptO.none | apply KeptO.some | apply KeptO.ite | apply Kept.ite)
    | lift_lets -underBinder
    | split
    | (refine Kept.upd ?_ ?_)

theorem State.badCapture_kept {m : Nat} (hm : 8192 &&& m = 8192) {s : State} {x_s : State} {x_c : Chan} {x_cycle : Nat} {x_slot : Nat} (h_x_s : Kept m s x_s) : Kept m s (State.badCapture x_s x_c x_cycle x_slot) := by
  unfold State.badCapture
  repeat' first
    | (with_reducible first | assumption | exact Kept.refl _)
    | exact sub_trans (b := 8192) (by decide) hm
    | intro _
    | (with_reducible first | apply State.modVec_kept)
    | (refine Kept.upd ?_ ?_)

theorem State.placeStrobes_kept {m : Nat} (hm : 417804 &&& m = 417804) {s : State} {x_s : State} {x_c : Chan} {x_v : VInfo} {x_rec : Nat} {x_a0 : Nat} {x_a1 : Nat} (h_x_s : Kept m s x_s) : Kept m s (State.placeStrobes x_s x_c x_v x_rec x_a0 x_a1) := by
  unfold State.placeStrobes
  repeat' first
    | (with_reducible first | assumption | exact Kept.refl _)
    | exact sub_trans (b := 417804) (by decide) hm
    | (intro x_1; refine (fun hx : Kept m s x_1 => ?_) ?_; (clear_value x_1); rotate_left; (unfold x_1))
    | (intro x_1; clear_value x_1)
    | intro _
    | (with_reducible first | apply State.each_kept | apply State.modChan_kept | apply State.violate_kept | apply State.judge_kept | apply State.badCapture_kept | apply Kept.ite)
    | lift_lets -underBinder
    | split
    | dsimp only
    | (refine Kept.upd ?_ ?_)

theorem State.blankIssued_kept {m : Nat} (hm : 8200 &&& m = 8200) {s : State} {x_s : State} {x_c : Chan} (h_x_s : Kept m s x_s) : Kept m s (State.blankIssued x_s x_c) := by
  unfold State.blankIssued
  repeat' first
    | (with_reducible first | assumption | exact Kept.refl _)
    | exact sub_trans (b := 8200) (by decide) hm
    | (intro x_1; refine (fun hx : Kept m s x_1 => ?_) ?_; (clear_value x_1); rotate_left; (unfold x_1))
    | (intro x_1; clear_value x_1)
    | intro _
    | (with_reducible first | apply State.startBlank_kept | apply Kept.ite)
    | lift_lets -underBinder
    | split
    | dsimp only

theorem State.periodReset_kept {m : Nat} (hm : 417804 &&& m = 417804) {s : State} {x_s : State} {x_b : Bay} (h_x_s : Kept m s x_s) : Kept m s (State.periodReset x_s x_b) := by
  unfold State.periodReset
  repeat' first
    | (with_reducible first | assumption | exact Kept.refl _)
    | exact sub_trans (b := 417804) (by decide) hm
    | (intro x_1; refine (fun hx : Kept m s x_1 => ?_) ?_; (clear_value x_1); rotate_left; (unfold x_1))
    | (intro x_1; clear_value x_1)
    | intro _
    | (with_reducible first | apply State.each_kept | apply State.modChan_kept | apply State.compared_kept | apply State.setB_kept | apply State.incB_kept | apply Kept.foldl)
    | lift_lets -underBinder
    | dsimp only
    | (refine Kept.upd ?_ ?_)

theorem State.matchStart_kept {m : Nat} (hm : 8192 &&& m = 8192) {s : State} {x_s : State} {x_b : Bay} {x_v : VInfo} (h_x_s : Kept m s x_s) : Kept m s (State.matchStart x_s x_b x_v) := by
  unfold State.matchStart
  repeat' first
    | (with_reducible first | assumption | exact Kept.refl _)
    | exact sub_trans (b := 8192) (by decide) hm
    | (intro x_1; refine (fun hx : Kept m s x_1 => ?_) ?_; (clear_value x_1); rotate_left; (unfold x_1))
    | (intro x_1; clear_value x_1)
    | intro _
    | (with_reducible first | apply State.modBay_kept | exact KeptO.none | apply KeptO.some | apply KeptO.ite)
    | lift_lets -underBinder
    | split
    | (refine Kept.upd ?_ ?_)

theorem State.matchPlaced_kept {m : Nat} (hm : 8192 &&& m = 8192) {s : State} {x_s : State} {x_b : Bay} {x_v : VInfo} (h_x_s : Kept m s x_s) : Kept m s (State.matchPlaced x_s x_b x_v) := by
  unfold State.matchPlaced
  repeat' first
    | (with_reducible first | assumption | exact Kept.refl _)
    | exact sub_trans (b := 8192) (by decide) hm
    | (intro x_1; refine (fun hx : Kept m s x_1 => ?_) ?_; (clear_value x_1); rotate_left; (unfold x_1))
    | (intro x_1; clear_value x_1)
    | intro _
    | (with_reducible first | apply State.modBay_kept | apply Kept.ite | apply Kept.foldl)
    | lift_lets -underBinder
    | split
    | dsimp only
    | (refine Kept.upd ?_ ?_)

theorem State.firstVector_kept {m : Nat} (hm : 8 &&& m = 8) {s : State} {x_s : State} {x_b : Bay} (h_x_s : Kept m s x_s) : Kept m s (State.firstVector x_s x_b) := by
  unfold State.firstVector
  repeat' first
    | (with_reducible first | assumption | exact Kept.refl _)
    | exact sub_trans (b := 8) (by decide) hm
    | (with_reducible first | apply State.inhibitBay_kept | apply Kept.ite)

theorem State.issueVec_kept {m : Nat} (hm : 417804 &&& m = 417804) {s : State} {x_s : State} {x_b : Bay} {x_kind : VecKind} (h_x_s : Kept m s x_s) : Kept m s (State.issueVec x_s x_b x_kind) := by
  unfold State.issueVec
  repeat' first
    | (with_reducible first | assumption | exact Kept.refl _)
    | exact sub_trans (b := 417804) (by decide) hm
    | (intro x_1; refine (fun hx : Kept m s x_1 => ?_) ?_; (clear_value x_1); rotate_left; (unfold x_1))
    | (intro x_1; clear_value x_1)
    | intro _
    | (with_reducible first | apply State.firstVector_kept | apply State.periodReset_kept | apply State.matchStart_kept | apply State.modBay_kept | apply State.setB_kept | apply State.each_kept | apply State.placeStrobes_kept | apply State.blankIssued_kept | apply State.placeDrive_kept | apply State.matchPlaced_kept | apply Kept.ite | apply Kept.ite1 | apply Kept.ite2)
    | lift_lets -underBinder
    | split
    | dsimp only
    | (refine Kept.upd ?_ ?_)

theorem State.drvLine_kept {m : Nat} (hm : 409612 &&& m = 409612) {s : State} {x_s : State} {x_c : Chan} {x_t : Int} {x_level : Bool} (h_x_s : Kept m s x_s) : Kept m s (State.drvLine x_s x_c x_t x_level) := by
  unfold State.drvLine
  repeat' first
    | (with_reducible first | assumption | exact Kept.refl _)
    | exact sub_trans (b := 409612) (by decide) hm
    | (intro x_1; refine (fun hx : Kept m s x_1 => ?_) ?_; (clear_value x_1); rotate_left; (unfold x_1))
    | (intro x_1; clear_value x_1)
    | intro _
    | (with_reducible first | apply State.invalidChan_kept | apply State.violate_kept | apply State.modChan_kept | apply Kept.ite)
    | lift_lets -underBinder
    | split
    | dsimp only
    | (refine Kept.upd ?_ ?_)

theorem State.denLine_kept {m : Nat} (hm : 409612 &&& m = 409612) {s : State} {x_s : State} {x_c : Chan} {x_t : Int} {x_level : Bool} (h_x_s : Kept m s x_s) : Kept m s (State.denLine x_s x_c x_t x_level) := by
  unfold State.denLine
  repeat' first
    | (with_reducible first | assumption | exact Kept.refl _)
    | exact sub_trans (b := 409612) (by decide) hm
    | (intro x_1; refine (fun hx : Kept m s x_1 => ?_) ?_; (clear_value x_1); rotate_left; (unfold x_1))
    | (intro x_1; clear_value x_1)
    | intro _
    | (with_reducible first | apply State.invalidChan_kept | apply State.violate_kept | apply State.modChan_kept | apply Kept.ite)
    | lift_lets -underBinder
    | split
    | dsimp only
    | (refine Kept.upd ?_ ?_)

theorem State.landEdges_kept {m : Nat} (hm : 409612 &&& m = 409612) {s : State} {x_s : State} {x_c : Chan} (h_x_s : Kept m s x_s) : Kept m s (State.landEdges x_s x_c) := by
  unfold State.landEdges
  repeat' first
    | (with_reducible first | assumption | exact Kept.refl _)
    | exact sub_trans (b := 409612) (by decide) hm
    | (intro x_1; refine (fun hx : Kept m s x_1 => ?_) ?_; (clear_value x_1); rotate_left; (unfold x_1))
    | (intro x_1; clear_value x_1)
    | intro _
    | (with_reducible first | apply State.modChan_kept | apply State.drvLine_kept | apply State.denLine_kept | exact KeptO.none | apply KeptO.some | apply KeptO.ite)
    | lift_lets -underBinder
    | split
    | (refine Kept.upd ?_ ?_)

theorem State.strobe_kept {m : Nat} (hm : 417804 &&& m = 417804) {s : State} {x_s : State} {x_c : Chan} {x_st : Strobe} {x_cmph : Bool} {x_cmpl : Bool} (h_x_s : Kept m s x_s) : Kept m s (State.strobe x_s x_c x_st x_cmph x_cmpl) := by
  unfold State.strobe
  repeat' first
    | (with_reducible first | assumption | exact Kept.refl _)
    | exact sub_trans (b := 417804) (by decide) hm
    | (intro x_1; refine (fun hx : Kept m s x_1 => ?_) ?_; (clear_value x_1); rotate_left; (unfold x_1))
    | (intro x_1; clear_value x_1)
    | intro _
    | (with_reducible first | apply State.modChan_kept | apply State.modVec_kept | apply State.queueCmp_kept | apply State.judge_kept | apply Kept.ite)
    | lift_lets -underBinder
    | split
    | dsimp only
    | (refine Kept.upd ?_ ?_)

theorem State.landStrobe_kept {m : Nat} (hm : 417804 &&& m = 417804) {s : State} {x_s : State} {x_c : Chan} {x_cmph : Bool} {x_cmpl : Bool} (h_x_s : Kept m s x_s) : Kept m s (State.landStrobe x_s x_c x_cmph x_cmpl) := by
  unfold State.landStrobe
  repeat' first
    | (with_reducible first | assumption | exact Kept.refl _)
    | exact sub_trans (b := 417804) (by decide) hm
    | (intro x_1; refine (fun hx : Kept m s x_1 => ?_) ?_; (clear_value x_1); rotate_left; (unfold x_1))
    | (intro x_1; clear_value x_1)
    | intro _
    | (with_reducible first | apply State.modChan_kept | apply State.violate_kept | apply State.judge_kept | apply State.badCapture_kept | apply State.strobe_kept | apply Kept.ite)
    | lift_lets -underBinder
    | split
    | dsimp only
    | (refine Kept.upd ?_ ?_)

theorem State.timingCheck_kept {m : Nat} (hm : 8 &&& m = 8) {s : State} {x_s : State} {x_b : Bay} (h_x_s : Kept m s x_s) : Kept m s (State.timingCheck x_s x_b) := by
  unfold State.timingCheck
  repeat' first
    | (with_reducible first | assumption | exact Kept.refl _)
    | exact sub_trans (b := 8) (by decide) hm
    | (intro x_1; refine (fun hx : Kept m s x_1 => ?_) ?_; (clear_value x_1); rotate_left; (unfold x_1))
    | (intro x_1; clear_value x_1)
    | intro _
    | (with_reducible first | apply State.setB_kept | exact KeptO.none | apply KeptO.some | apply KeptO.ite | apply Kept.foldl)
    | lift_lets -underBinder
    | split
    | (refine Kept.upd ?_ ?_)

theorem State.storeSet_kept {m : Nat} (hm : 32 &&& m = 32) {s : State} {x_s : State} {x_b : Bay} {x_n : Nat} {x_data : Bytes} (h_x_s : Kept m s x_s) : Kept m s (State.storeSet x_s x_b x_n x_data) := by
  unfold State.storeSet
  repeat' first
    | (with_reducible first | assumption | exact Kept.refl _)
    | (intro p; cases p <;> first | exact Or.inl (bit_of (a := 32) hm rfl) | exact Or.inr rfl)
    | intro _
    | with_reducible apply State.each_kept
    | (refine Kept.upd ?_ ?_)

theorem State.storeSets_kept {m : Nat} (hm : 41 &&& m = 41) {s : State} {x_s : State} {x_b : Bay} {x_a2 : List (Nat × Bytes)} (h_x_s : Kept m s x_s) : Kept m s (State.storeSets x_s x_b x_a2) := by
  induction x_a2 generalizing x_s x_b with
  | nil =>
    unfold State.storeSets
    repeat' first
      | (with_reducible first | assumption | exact Kept.refl _)
      | exact sub_trans (b := 41) (by decide) hm
      | (with_reducible first | apply State.storeSet_kept | apply State.answer_kept | apply State.setB_kept | apply State.ok_kept | exact KeptO.none | apply KeptO.some | apply KeptO.ite)
      | split
      | (refine Kept.upd ?_ ?_)
      | (dsimp only)
  | cons hd tl ih =>
    unfold State.storeSets
    repeat' first
      | with_reducible apply ih
      | (with_reducible first | assumption | exact Kept.refl _)
      | exact sub_trans (b := 41) (by decide) hm
      | (with_reducible first | apply State.storeSet_kept | apply State.answer_kept | apply State.setB_kept | apply State.ok_kept | exact KeptO.none | apply KeptO.some | apply KeptO.ite)
      | split
      | (refine Kept.upd ?_ ?_)
      | (dsimp only)

theorem State.tsetWrite_kept {m : Nat} (hm : 41 &&& m = 41) {s : State} {x_s : State} {x_b : Bay} {x_block : Bool} {x_data : Bytes} (h_x_s : Kept m s x_s) : Kept m s (State.tsetWrite x_s x_b x_block x_data) := by
  unfold State.tsetWrite
  repeat' first
    | (with_reducible first | assumption | exact Kept.refl _)
    | exact sub_trans (b := 41) (by decide) hm
    | (intro x_1; refine (fun hx : Kept m s x_1 => ?_) ?_; (clear_value x_1); rotate_left; (unfold x_1))
    | (intro x_1; clear_value x_1)
    | intro _
    | (with_reducible first | apply State.answer_kept | apply State.storeSets_kept | apply Kept.ite)
    | lift_lets -underBinder

theorem State.retap_kept {m : Nat} (hm : 32776 &&& m = 32776) {s : State} {x_s : State} {x_b : Bay} (h_x_s : Kept m s x_s) : Kept m s (State.retap x_s x_b) := by
  unfold State.retap
  repeat' first
    | (with_reducible first | assumption | exact Kept.refl _)
    | exact sub_trans (b := 32776) (by decide) hm
    | (intro x_1; refine (fun hx : Kept m s x_1 => ?_) ?_; (clear_value x_1); rotate_left; (unfold x_1))
    | (intro x_1; clear_value x_1)
    | intro _
    | (with_reducible first | apply State.each_kept | apply State.setC_kept | apply State.fault_kept | apply State.flagC_kept | apply Kept.ite)
    | lift_lets -underBinder

theorem State.unlock_kept {m : Nat} (hm : 24584 &&& m = 24584) {s : State} {x_s : State} {x_b : Bay} {x_fine : Bool} (h_x_s : Kept m s x_s) : Kept m s (State.unlock x_s x_b x_fine) := by
  unfold State.unlock
  repeat' first
    | (with_reducible first | assumption | exact Kept.refl _)
    | exact sub_trans (b := 24584) (by decide) hm
    | (intro x_1; refine (fun hx : Kept m s x_1 => ?_) ?_; (clear_value x_1); rotate_left; (unfold x_1))
    | (intro x_1; clear_value x_1)
    | intro _
    | (with_reducible first | apply State.modBay_kept | apply State.setO_kept | apply State.each_kept | apply State.modChan_kept | apply Kept.ite)
    | lift_lets -underBinder
    | (refine Kept.upd ?_ ?_)

theorem State.relocked_kept {m : Nat} (hm : 40968 &&& m = 40968) {s : State} {x_s : State} {x_b : Bay} (h_x_s : Kept m s x_s) : Kept m s (State.relocked x_s x_b) := by
  unfold State.relocked
  repeat' first
    | (with_reducible first | assumption | exact Kept.refl _)
    | exact sub_trans (b := 40968) (by decide) hm
    | (intro x_1; refine (fun hx : Kept m s x_1 => ?_) ?_; (clear_value x_1); rotate_left; (unfold x_1))
    | (intro x_1; clear_value x_1)
    | intro _
    | (with_reducible first | apply State.modBay_kept | apply State.setB_kept | apply State.setO_kept | apply State.retap_kept | exact KeptO.none | apply KeptO.some | apply KeptO.ite)
    | lift_lets -underBinder
    | split
    | (refine Kept.upd ?_ ?_)

theorem execStrobeLatch_kept {m : Nat} (hm : 417804 &&& m = 417804) {s : State} {x_c : Chan} {x_cmph : Bool} {x_cmpl : Bool} {x_s : State} (h_x_s : Kept m s x_s) : KeptN m s (execStrobeLatch x_c x_cmph x_cmpl x_s) := by
  unfold execStrobeLatch
  repeat' first
    | (with_reducible first | assumption | exact Kept.refl _)
    | exact sub_trans (b := 417804) (by decide) hm
    | (with_reducible first | apply State.landStrobe_kept | apply KeptN.next | apply KeptN.ite)

theorem execDriveEdge_kept {m : Nat} (hm : 409612 &&& m = 409612) {s : State} {x_c : Chan} {x_s : State} (h_x_s : Kept m s x_s) : KeptN m s (execDriveEdge x_c x_s) := by
  unfold execDriveEdge
  repeat' first
    | (with_reducible first | assumption | exact Kept.refl _)
    | exact sub_trans (b := 409612) (by decide) hm
    | (with_reducible first | apply State.landEdges_kept | apply KeptN.next | apply KeptN.ite)

theorem execTsetWrite_kept {m : Nat} (hm : 393261 &&& m = 393261) {s : State} {x_b : Bay} {x_epoch : BitVec 16} {x_block : Bool} {x_data : Bytes} {x_s : State} (h_x_s : Kept m s x_s) : KeptN m s (execTsetWrite x_b x_epoch x_block x_data x_s) := by
  unfold execTsetWrite
  repeat' first
    | (with_reducible first | assumption | exact Kept.refl _)
    | exact sub_trans (b := 393261) (by decide) hm
    | intro _
    | (with_reducible first | apply State.hostBayFirm_kept | apply State.tsetWrite_kept | apply KeptN.next | apply KeptN.ite)

theorem execPllRelock_kept {m : Nat} (hm : 40968 &&& m = 40968) {s : State} {x_b : Bay} {x_s : State} (h_x_s : Kept m s x_s) : KeptN m s (execPllRelock x_b x_s) := by
  unfold execPllRelock
  repeat' first
    | (with_reducible first | assumption | exact Kept.refl _)
    | exact sub_trans (b := 40968) (by decide) hm
    | (with_reducible first | apply State.relocked_kept | apply KeptN.next | apply KeptN.ite)

end Sys2Proof.Machine
end

