-- ==== Sys2Proof/Laws/KeptTmu.lean ====
section
/-! SUPPORT. What the operations of Machine/Tmu.lean keep. -/

set_option linter.all false

namespace Sys2Proof.Machine

theorem State.modTmu_kept {m : Nat} (hm : 8192 &&& m = 8192) {s : State} {x_s : State} {x_b : Bay} {x_f : Tmu → Tmu} (h_x_s : Kept m s x_s) : Kept m s (State.modTmu x_s x_b x_f) := by
  unfold State.modTmu
  repeat' first
    | (with_reducible first | assumption | exact Kept.refl _)
    | exact sub_trans (b := 8192) (by decide) hm
    | intro _
    | with_reducible apply State.modBay_kept
    | (refine Kept.upd ?_ ?_)

theorem State.tmuDue_kept {m : Nat} (hm : 8192 &&& m = 8192) {s : State} {x_s : State} {x_b : Bay} {x_ps : Nat} (h_x_s : Kept m s x_s) : Kept m s (State.tmuDue x_s x_b x_ps) := by
  unfold State.tmuDue
  repeat' first
    | (with_reducible first | assumption | exact Kept.refl _)
    | exact sub_trans (b := 8192) (by decide) hm
    | intro _
    | (with_reducible first | apply State.modTmu_kept)
    | (refine Kept.upd ?_ ?_)

theorem State.tmuPush_kept {m : Nat} (hm : 401420 &&& m = 401420) {s : State} {x_s : State} {x_b : Bay} {x_r : TmuRec} (h_x_s : Kept m s x_s) : Kept m s (State.tmuPush x_s x_b x_r) := by
  unfold State.tmuPush
  repeat' first
    | (with_reducible first | assumption | exact Kept.refl _)
    | exact sub_trans (b := 401420) (by decide) hm
    | (intro x_1; refine (fun hx : Kept m s x_1 => ?_) ?_; (clear_value x_1); rotate_left; (unfold x_1))
    | (intro x_1; clear_value x_1)
    | intro _
    | (with_reducible first | apply State.modTmu_kept | apply State.setB_kept | apply State.occur_kept | apply Kept.ite)
    | lift_lets -underBinder
    | (refine Kept.upd ?_ ?_)

theorem State.tmuOver_kept {m : Nat} (hm : 8200 &&& m = 8200) {s : State} {x_s : State} {x_b : Bay} (h_x_s : Kept m s x_s) : Kept m s (State.tmuOver x_s x_b) := by
  unfold State.tmuOver
  repeat' first
    | (with_reducible first | assumption | exact Kept.refl _)
    | exact sub_trans (b := 8200) (by decide) hm
    | (intro x_1; refine (fun hx : Kept m s x_1 => ?_) ?_; (clear_value x_1); rotate_left; (unfold x_1))
    | (intro x_1; clear_value x_1)
    | intro _
    | (with_reducible first | apply State.setB_kept | apply State.modTmu_kept | apply Kept.ite)
    | lift_lets -underBinder
    | split
    | dsimp only
    | (refine Kept.upd ?_ ?_)

theorem State.tmuDone_kept {m : Nat} (hm : 401420 &&& m = 401420) {s : State} {x_s : State} {x_b : Bay} (h_x_s : Kept m s x_s) : Kept m s (State.tmuDone x_s x_b) := by
  unfold State.tmuDone
  repeat' first
    | (with_reducible first | assumption | exact Kept.refl _)
    | exact sub_trans (b := 401420) (by decide) hm
    | intro _
    | (with_reducible first | apply State.tmuOver_kept | apply State.occur_kept | apply State.modBay_kept)
    | (refine Kept.upd ?_ ?_)

theorem State.tmuBegin_kept {m : Nat} (hm : 8200 &&& m = 8200) {s : State} {x_s : State} {x_b : Bay} (h_x_s : Kept m s x_s) : Kept m s (State.tmuBegin x_s x_b) := by
  unfold State.tmuBegin
  repeat' first
    | (with_reducible first | assumption | exact Kept.refl _)
    | exact sub_trans (b := 8200) (by decide) hm
    | intro _
    | (with_reducible first | apply State.setB_kept | apply State.modTmu_kept)
    | (refine Kept.upd ?_ ?_)

theorem State.tmuRepeat_kept {m : Nat} (hm : 8200 &&& m = 8200) {s : State} {x_s : State} {x_b : Bay} (h_x_s : Kept m s x_s) : Kept m s (State.tmuRepeat x_s x_b) := by
  unfold State.tmuRepeat
  repeat' first
    | (with_reducible first | assumption | exact Kept.refl _)
    | exact sub_trans (b := 8200) (by decide) hm
    | (intro x_1; refine (fun hx : Kept m s x_1 => ?_) ?_; (clear_value x_1); rotate_left; (unfold x_1))
    | (intro x_1; clear_value x_1)
    | intro _
    | (with_reducible first | apply State.tmuBegin_kept | apply Kept.ite)
    | lift_lets -underBinder
    | split
    | dsimp only

theorem State.tmuRefused_kept {m : Nat} (hm : 393228 &&& m = 393228) {s : State} {x_s : State} {x_b : Bay} (h_x_s : Kept m s x_s) : Kept m s (State.tmuRefused x_s x_b) := by
  unfold State.tmuRefused
  repeat' first
    | (with_reducible first | assumption | exact Kept.refl _)
    | exact sub_trans (b := 393228) (by decide) hm
    | (with_reducible first | apply State.occur_kept | apply State.incB_kept)

theorem State.tmuArm_kept {m : Nat} (hm : 8200 &&& m = 8200) {s : State} {x_s : State} {x_b : Bay} (h_x_s : Kept m s x_s) : Kept m s (State.tmuArm x_s x_b) := by
  unfold State.tmuArm
  repeat' first
    | (with_reducible first | assumption | exact Kept.refl _)
    | exact sub_trans (b := 8200) (by decide) hm
    | (intro x_1; refine (fun hx : Kept m s x_1 => ?_) ?_; (clear_value x_1); rotate_left; (unfold x_1))
    | (intro x_1; clear_value x_1)
    | intro _
    | (with_reducible first | apply State.modTmu_kept | apply State.setB_kept | apply State.tmuBegin_kept | apply Kept.ite)
    | lift_lets -underBinder
    | split
    | dsimp only
    | (refine Kept.upd ?_ ?_)

theorem State.tmuDisarm_kept {m : Nat} (hm : 8200 &&& m = 8200) {s : State} {x_s : State} {x_b : Bay} (h_x_s : Kept m s x_s) : Kept m s (State.tmuDisarm x_s x_b) := by
  unfold State.tmuDisarm
  repeat' first
    | (with_reducible first | assumption | exact Kept.refl _)
    | exact sub_trans (b := 8200) (by decide) hm
    | intro _
    | (with_reducible first | apply State.setB_kept | apply State.modTmu_kept)
    | (refine Kept.upd ?_ ?_)

theorem State.tmuArmNow_kept {m : Nat} (hm : 8200 &&& m = 8200) {s : State} {x_s : State} {x_b : Bay} (h_x_s : Kept m s x_s) : Kept m s (State.tmuArmNow x_s x_b) := by
  unfold State.tmuArmNow
  repeat' first
    | (with_reducible first | assumption | exact Kept.refl _)
    | exact sub_trans (b := 8200) (by decide) hm
    | intro _
    | (with_reducible first | apply State.incB_kept | apply State.tmuDisarm_kept | apply State.modTmu_kept | apply State.tmuArm_kept | apply Kept.ite)
    | split
    | (refine Kept.upd ?_ ?_)

theorem State.tmuDisarmNow_kept {m : Nat} (hm : 8200 &&& m = 8200) {s : State} {x_s : State} {x_b : Bay} (h_x_s : Kept m s x_s) : Kept m s (State.tmuDisarmNow x_s x_b) := by
  unfold State.tmuDisarmNow
  repeat' first
    | (with_reducible first | assumption | exact Kept.refl _)
    | exact sub_trans (b := 8200) (by decide) hm
    | (intro x_1; refine (fun hx : Kept m s x_1 => ?_) ?_; (clear_value x_1); rotate_left; (unfold x_1))
    | (intro x_1; clear_value x_1)
    | intro _
    | (with_reducible first | apply State.modTmu_kept | apply State.tmuDisarm_kept | apply State.incB_kept | apply Kept.ite)
    | lift_lets -underBinder
    | split
    | dsimp only
    | (refine Kept.upd ?_ ?_)

theorem State.hostTmu_kept {m : Nat} (hm : 393229 &&& m = 393229) {s : State} {x_s : State} {x_b : Bay} {x_epoch : BitVec 16} (x_k : State → State) (h_x_s : Kept m s x_s) (h_x_k : ∀ (v0 : State), Kept m s v0 → Kept m s (x_k v0)) : Kept m s (State.hostTmu x_s x_b x_epoch x_k) := by
  unfold State.hostTmu
  repeat' first
    | (with_reducible first | assumption | exact Kept.refl _)
    | exact sub_trans (b := 393229) (by decide) hm
    | (with_reducible first | apply h_x_k | apply State.answer_kept | apply State.stale_kept | apply Kept.ite)
    | split

theorem State.tmuClear_kept {m : Nat} (hm : 8200 &&& m = 8200) {s : State} {x_s : State} {x_b : Bay} (h_x_s : Kept m s x_s) : Kept m s (State.tmuClear x_s x_b) := by
  unfold State.tmuClear
  repeat' first
    | (with_reducible first | assumption | exact Kept.refl _)
    | exact sub_trans (b := 8200) (by decide) hm
    | intro _
    | (with_reducible first | apply State.setB_kept | apply State.modTmu_kept)
    | (refine Kept.upd ?_ ?_)

theorem State.tmuArmRequest_kept {m : Nat} (hm : 401421 &&& m = 401421) {s : State} {x_s : State} {x_b : Bay} (h_x_s : Kept m s x_s) : Kept m s (State.tmuArmRequest x_s x_b) := by
  unfold State.tmuArmRequest
  repeat' first
    | (with_reducible first | assumption | exact Kept.refl _)
    | exact sub_trans (b := 401421) (by decide) hm
    | intro _
    | (with_reducible first | apply State.answerD_kept | apply State.tmuRefused_kept | apply State.answer_kept | apply State.ok_kept | apply State.tmuArmNow_kept)
    | split
    | (refine Kept.upd ?_ ?_)

theorem State.tmuDisarmRequest_kept {m : Nat} (hm : 8201 &&& m = 8201) {s : State} {x_s : State} {x_b : Bay} (h_x_s : Kept m s x_s) : Kept m s (State.tmuDisarmRequest x_s x_b) := by
  unfold State.tmuDisarmRequest
  repeat' first
    | (with_reducible first | assumption | exact Kept.refl _)
    | exact sub_trans (b := 8201) (by decide) hm
    | (with_reducible first | apply State.ok_kept | apply State.tmuDisarmNow_kept)

theorem State.tmuArmEvent_kept {m : Nat} (hm : 1074143244 &&& m = 1074143244) {s : State} {x_s : State} {x_b : Bay} (h_x_s : Kept m s x_s) : Kept m s (State.tmuArmEvent x_s x_b) := by
  unfold State.tmuArmEvent
  repeat' first
    | (with_reducible first | assumption | exact Kept.refl _)
    | exact sub_trans (b := 1074143244) (by decide) hm
    | intro _
    | (with_reducible first | apply State.dropEvent_kept | apply State.tmuRefused_kept | apply State.tmuArmNow_kept | apply Kept.ite)
    | split
    | (refine Kept.upd ?_ ?_)

theorem State.tmuDisarmEvent_kept {m : Nat} (hm : 1073750024 &&& m = 1073750024) {s : State} {x_s : State} {x_b : Bay} (h_x_s : Kept m s x_s) : Kept m s (State.tmuDisarmEvent x_s x_b) := by
  unfold State.tmuDisarmEvent
  repeat' first
    | (with_reducible first | assumption | exact Kept.refl _)
    | exact sub_trans (b := 1073750024) (by decide) hm
    | (with_reducible first | apply State.dropEvent_kept | apply State.tmuDisarmNow_kept | apply Kept.ite)
    | split

theorem State.tmuCalibrated_kept {m : Nat} (hm : 434188 &&& m = 434188) {s : State} {x_s : State} {x_b : Bay} {x_w : Nat} {x_n0 : Nat} (h_x_s : Kept m s x_s) : Kept m s (State.tmuCalibrated x_s x_b x_w x_n0) := by
  unfold State.tmuCalibrated
  repeat' first
    | (with_reducible first | assumption | exact Kept.refl _)
    | exact sub_trans (b := 434188) (by decide) hm
    | (intro x_1; refine (fun hx : Kept m s x_1 => ?_) ?_; (clear_value x_1); rotate_left; (unfold x_1))
    | (intro x_1; clear_value x_1)
    | intro _
    | (with_reducible first | apply State.modTmu_kept | apply State.setB_kept | apply State.incB_kept | apply State.tmuPush_kept | apply State.tmuOver_kept | apply State.fault_kept | apply State.tmuDue_kept | apply Kept.ite)
    | lift_lets -underBinder
    | split
    | dsimp only
    | (refine Kept.upd ?_ ?_)

theorem State.tmuLost_kept {m : Nat} (hm : 8200 &&& m = 8200) {s : State} {x_s : State} {x_b : Bay} (h_x_s : Kept m s x_s) : Kept m s (State.tmuLost x_s x_b) := by
  unfold State.tmuLost
  repeat' first
    | (with_reducible first | assumption | exact Kept.refl _)
    | exact sub_trans (b := 8200) (by decide) hm
    | intro _
    | (with_reducible first | apply State.modTmu_kept | apply State.incB_kept)
    | (refine Kept.upd ?_ ?_)

theorem State.tmuInterval_kept {m : Nat} (hm : 401420 &&& m = 401420) {s : State} {x_s : State} {x_b : Bay} {x_start : Nat × Int} {x_stop : Nat × Int} (h_x_s : Kept m s x_s) : Kept m s (State.tmuInterval x_s x_b x_start x_stop) := by
  unfold State.tmuInterval
  repeat' first
    | (with_reducible first | assumption | exact Kept.refl _)
    | exact sub_trans (b := 401420) (by decide) hm
    | (intro x_1; refine (fun hx : Kept m s x_1 => ?_) ?_; (clear_value x_1); rotate_left; (unfold x_1))
    | (intro x_1; clear_value x_1)
    | intro _
    | (with_reducible first | apply State.tmuDone_kept | apply State.tmuPush_kept | apply Kept.ite)
    | lift_lets -underBinder

theorem State.hitInterval_kept {m : Nat} (hm : 401420 &&& m = 401420) {s : State} {x_s : State} {x_b : Bay} {x_route : Fin 2} {x_t : Nat × Int} (h_x_s : Kept m s x_s) : Kept m s (State.hitInterval x_s x_b x_route x_t) := by
  unfold State.hitInterval
  repeat' first
    | (with_reducible first | assumption | exact Kept.refl _)
    | exact sub_trans (b := 401420) (by decide) hm
    | (intro x_1; refine (fun hx : Kept m s x_1 => ?_) ?_; (clear_value x_1); rotate_left; (unfold x_1))
    | (intro x_1; clear_value x_1)
    | intro _
    | (with_reducible first | apply State.modTmu_kept | apply State.tmuInterval_kept | apply State.incB_kept | exact KeptO.none | apply KeptO.some | apply KeptO.ite | apply Kept.ite)
    | lift_lets -underBinder
    | split
    | (refine Kept.upd ?_ ?_)

theorem State.hitStamp_kept {m : Nat} (hm : 401420 &&& m = 401420) {s : State} {x_s : State} {x_b : Bay} {x_route : Fin 2} {x_t : Nat × Int} (h_x_s : Kept m s x_s) : Kept m s (State.hitStamp x_s x_b x_route x_t) := by
  unfold State.hitStamp
  repeat' first
    | (with_reducible first | assumption | exact Kept.refl _)
    | exact sub_trans (b := 401420) (by decide) hm
    | (intro x_1; refine (fun hx : Kept m s x_1 => ?_) ?_; (clear_value x_1); rotate_left; (unfold x_1))
    | (intro x_1; clear_value x_1)
    | intro _
    | (with_reducible first | apply State.modTmu_kept | apply State.tmuLost_kept | apply State.tmuPush_kept | apply State.tmuDone_kept | apply State.incB_kept | apply Kept.ite)
    | lift_lets -underBinder
    | split
    | dsimp only
    | (refine Kept.upd ?_ ?_)

theorem State.hitFrequency_kept {m : Nat} (hm : 401420 &&& m = 401420) {s : State} {x_s : State} {x_b : Bay} {x_route : Fin 2} {x_t : Nat × Int} (h_x_s : Kept m s x_s) : Kept m s (State.hitFrequency x_s x_b x_route x_t) := by
  unfold State.hitFrequency
  repeat' first
    | (with_reducible first | assumption | exact Kept.refl _)
    | exact sub_trans (b := 401420) (by decide) hm
    | (intro x_1; refine (fun hx : Kept m s x_1 => ?_) ?_; (clear_value x_1); rotate_left; (unfold x_1))
    | (intro x_1; clear_value x_1)
    | intro _
    | (with_reducible first | apply State.tmuDue_kept | apply State.modTmu_kept | apply State.tmuPush_kept | apply State.tmuDone_kept | apply State.setB_kept | apply Kept.ite)
    | lift_lets -underBinder
    | split
    | dsimp only
    | (refine Kept.upd ?_ ?_)

theorem State.tmuHit_kept {m : Nat} (hm : 401420 &&& m = 401420) {s : State} {x_s : State} {x_b : Bay} {x_route : Fin 2} {x_rising : Bool} {x_taps : Nat} (h_x_s : Kept m s x_s) : Kept m s (State.tmuHit x_s x_b x_route x_rising x_taps) := by
  unfold State.tmuHit
  repeat' first
    | (with_reducible first | assumption | exact Kept.refl _)
    | exact sub_trans (b := 401420) (by decide) hm
    | (intro x_1; refine (fun hx : Kept m s x_1 => ?_) ?_; (clear_value x_1); rotate_left; (unfold x_1))
    | (intro x_1; clear_value x_1)
    | intro _
    | (with_reducible first | apply State.incB_kept | apply State.tmuLost_kept | apply State.modTmu_kept | apply State.hitInterval_kept | apply State.hitStamp_kept | apply State.hitFrequency_kept | apply Kept.ite)
    | lift_lets -underBinder
    | split
    | dsimp only
    | (refine Kept.upd ?_ ?_)

theorem State.tmuTimeout_kept {m : Nat} (hm : 401420 &&& m = 401420) {s : State} {x_s : State} {x_b : Bay} (h_x_s : Kept m s x_s) : Kept m s (State.tmuTimeout x_s x_b) := by
  unfold State.tmuTimeout
  repeat' first
    | (with_reducible first | assumption | exact Kept.refl _)
    | exact sub_trans (b := 401420) (by decide) hm
    | (intro x_1; refine (fun hx : Kept m s x_1 => ?_) ?_; (clear_value x_1); rotate_left; (unfold x_1))
    | (intro x_1; clear_value x_1)
    | intro _
    | (with_reducible first | apply State.incB_kept | apply State.tmuPush_kept | apply State.tmuOver_kept | apply State.occur_kept)
    | lift_lets -underBinder
    | dsimp only

theorem State.tmuRefLost_kept {m : Nat} (hm : 434188 &&& m = 434188) {s : State} {x_s : State} {x_b : Bay} (h_x_s : Kept m s x_s) : Kept m s (State.tmuRefLost x_s x_b) := by
  unfold State.tmuRefLost
  repeat' first
    | (with_reducible first | assumption | exact Kept.refl _)
    | exact sub_trans (b := 434188) (by decide) hm
    | (intro x_1; refine (fun hx : Kept m s x_1 => ?_) ?_; (clear_value x_1); rotate_left; (unfold x_1))
    | (intro x_1; clear_value x_1)
    | intro _
    | (with_reducible first | apply State.setO_kept | apply State.tmuPush_kept | apply State.tmuOver_kept | apply State.fault_kept | apply Kept.ite)
    | lift_lets -underBinder
    | split
    | dsimp only

theorem State.tmuRead_kept {m : Nat} (hm : 8200 &&& m = 8200) {s : State} {x_s : State} {x_b : Bay} {x_n : Nat} (h_x_s : Kept m s x_s) : Kept m s (State.tmuRead x_s x_b x_n).2 := by
  unfold State.tmuRead
  repeat' first
    | (with_reducible first | assumption | exact Kept.refl _)
    | exact sub_trans (b := 8200) (by decide) hm
    | (intro x_1; refine (fun hx : Kept m s x_1 => ?_) ?_; (clear_value x_1); rotate_left; (unfold x_1))
    | (intro x_1; clear_value x_1)
    | intro _
    | (with_reducible first | apply State.modTmu_kept | apply State.setB_kept | apply State.tmuRepeat_kept | apply Kept.ite | apply Kept.ite2)
    | lift_lets -underBinder
    | dsimp only
    | (refine Kept.upd ?_ ?_)

theorem State.refWarm_kept {m : Nat} (hm : 401416 &&& m = 401416) {s : State} {x_s : State} {x_level : Bool} (h_x_s : Kept m s x_s) : Kept m s (State.refWarm x_s x_level) := by
  unfold State.refWarm
  repeat' first
    | (with_reducible first | assumption | exact Kept.refl _)
    | exact sub_trans (b := 401416) (by decide) hm
    | (intro x_1; refine (fun hx : Kept m s x_1 => ?_) ?_; (clear_value x_1); rotate_left; (unfold x_1))
    | (intro x_1; clear_value x_1)
    | intro _
    | (with_reducible first | apply State.event_kept | apply State.setO_kept | apply State.each_kept | apply State.modTmu_kept | apply State.setB_kept | apply Kept.ite)
    | lift_lets -underBinder
    | (refine Kept.upd ?_ ?_)

theorem execTmuArmRequest_kept {m : Nat} (hm : 401421 &&& m = 401421) {s : State} {x_b : Bay} {x_epoch : BitVec 16} {x_s : State} (h_x_s : Kept m s x_s) : KeptN m s (execTmuArmRequest x_b x_epoch x_s) := by
  unfold execTmuArmRequest
  repeat' first
    | (with_reducible first | assumption | exact Kept.refl _)
    | exact sub_trans (b := 401421) (by decide) hm
    | intro _
    | (with_reducible first | apply State.hostTmu_kept | apply State.tmuArmRequest_kept | apply KeptN.next | apply KeptN.ite)

theorem execTmuDisarmRequest_kept {m : Nat} (hm : 401421 &&& m = 401421) {s : State} {x_b : Bay} {x_epoch : BitVec 16} {x_s : State} (h_x_s : Kept m s x_s) : KeptN m s (execTmuDisarmRequest x_b x_epoch x_s) := by
  unfold execTmuDisarmRequest
  repeat' first
    | (with_reducible first | assumption | exact Kept.refl _)
    | exact sub_trans (b := 401421) (by decide) hm
    | intro _
    | (with_reducible first | apply State.hostTmu_kept | apply State.tmuDisarmRequest_kept | apply KeptN.next | apply KeptN.ite)

theorem execTmuCalibrationDone_kept {m : Nat} (hm : 434188 &&& m = 434188) {s : State} {x_b : Bay} {x_w : Nat} {x_n0 : Nat} {x_s : State} (h_x_s : Kept m s x_s) : KeptN m s (execTmuCalibrationDone x_b x_w x_n0 x_s) := by
  unfold execTmuCalibrationDone
  repeat' first
    | (with_reducible first | assumption | exact Kept.refl _)
    | exact sub_trans (b := 434188) (by decide) hm
    | (with_reducible first | apply State.tmuCalibrated_kept | apply KeptN.next | apply KeptN.ite | apply Kept.ite)

theorem execTmuHit_kept {m : Nat} (hm : 401422 &&& m = 401422) {s : State} {x_b : Bay} {x_route : Fin 2} {x_rising : Bool} {x_ticks : Nat} {x_taps : Nat} {x_s : State} (h_x_s : Kept m s x_s) : KeptN m s (execTmuHit x_b x_route x_rising x_ticks x_taps x_s) := by
  unfold execTmuHit
  repeat' first
    | (with_reducible first | assumption | exact Kept.refl _)
    | exact sub_trans (b := 401422) (by decide) hm
    | (with_reducible first | apply State.tmuHit_kept | apply State.advance_kept | apply KeptN.next | apply KeptN.ite | apply Kept.ite)
    | split

theorem execTmuGateExpiry_kept {m : Nat} (hm : 8194 &&& m = 8194) {s : State} {x_b : Bay} {x_s : State} (h_x_s : Kept m s x_s) : KeptN m s (execTmuGateExpiry x_b x_s) := by
  unfold execTmuGateExpiry
  repeat' first
    | (with_reducible first | assumption | exact Kept.refl _)
    | exact sub_trans (b := 8194) (by decide) hm
    | (intro x_1; refine (fun hx : Kept m s x_1 => ?_) ?_; (clear_value x_1); rotate_left; (unfold x_1))
    | (intro x_1; clear_value x_1)
    | intro _
    | (with_reducible first | apply State.advance_kept | apply State.tmuDue_kept | apply State.modTmu_kept | apply KeptN.next | apply KeptN.ite | apply Kept.ite)
    | lift_lets -underBinder
    | split
    | dsimp only
    | (refine Kept.upd ?_ ?_)

theorem execTmuTimeout_kept {m : Nat} (hm : 401422 &&& m = 401422) {s : State} {x_b : Bay} {x_s : State} (h_x_s : Kept m s x_s) : KeptN m s (execTmuTimeout x_b x_s) := by
  unfold execTmuTimeout
  repeat' first
    | (with_reducible first | assumption | exact Kept.refl _)
    | exact sub_trans (b := 401422) (by decide) hm
    | (intro x_1; refine (fun hx : Kept m s x_1 => ?_) ?_; (clear_value x_1); rotate_left; (unfold x_1))
    | (intro x_1; clear_value x_1)
    | intro _
    | (with_reducible first | apply State.tmuTimeout_kept | apply State.advance_kept | apply KeptN.next | apply KeptN.ite | apply Kept.ite)
    | lift_lets -underBinder
    | split
    | dsimp only

theorem execTmuRepeat_kept {m : Nat} (hm : 8200 &&& m = 8200) {s : State} {x_b : Bay} {x_s : State} (h_x_s : Kept m s x_s) : KeptN m s (execTmuRepeat x_b x_s) := by
  unfold execTmuRepeat
  repeat' first
    | (with_reducible first | assumption | exact Kept.refl _)
    | exact sub_trans (b := 8200) (by decide) hm
    | (with_reducible first | apply State.tmuRepeat_kept | apply KeptN.next | apply KeptN.ite)

theorem execTmuRefLost_kept {m : Nat} (hm : 434188 &&& m = 434188) {s : State} {x_b : Bay} {x_s : State} (h_x_s : Kept m s x_s) : KeptN m s (execTmuRefLost x_b x_s) := by
  unfold execTmuRefLost
  repeat' first
    | (with_reducible first | assumption | exact Kept.refl _)
    | exact sub_trans (b := 434188) (by decide) hm
    | (with_reducible first | apply State.tmuRefLost_kept | apply KeptN.next | apply KeptN.ite | apply Kept.ite)

theorem execTclkRelock_kept {m : Nat} (hm : 8200 &&& m = 8200) {s : State} {x_b : Bay} {x_s : State} (h_x_s : Kept m s x_s) : KeptN m s (execTclkRelock x_b x_s) := by
  unfold execTclkRelock
  repeat' first
    | (with_reducible first | assumption | exact Kept.refl _)
    | exact sub_trans (b := 8200) (by decide) hm
    | intro _
    | (with_reducible first | apply State.modTmu_kept | apply State.setO_kept | apply KeptN.next | apply KeptN.ite)
    | (refine Kept.upd ?_ ?_)

theorem execResultRead_kept {m : Nat} (hm : 8201 &&& m = 8201) {s : State} {x_b : Bay} {x_s : State} (h_x_s : Kept m s x_s) : KeptN m s (execResultRead x_b x_s) := by
  unfold execResultRead
  repeat' first
    | (with_reducible first | assumption | exact Kept.refl _)
    | exact sub_trans (b := 8201) (by decide) hm
    | intro _
    | (with_reducible first | apply State.hostModule_kept | apply State.answerBody_kept | apply State.tmuRead_kept | apply State.answer_kept | apply KeptN.next | apply KeptN.ite | apply Kept.ite | apply Kept.ite2)
    | dsimp only

theorem execResultBlockRead_kept {m : Nat} (hm : 8201 &&& m = 8201) {s : State} {x_b : Bay} {x_s : State} (h_x_s : Kept m s x_s) : KeptN m s (execResultBlockRead x_b x_s) := by
  unfold execResultBlockRead
  repeat' first
    | (with_reducible first | assumption | exact Kept.refl _)
    | exact sub_trans (b := 8201) (by decide) hm
    | intro _
    | (with_reducible first | apply State.hostModule_kept | apply State.answerBody_kept | apply State.tmuRead_kept | apply State.answer_kept | apply KeptN.next | apply KeptN.ite | apply Kept.ite | apply Kept.ite2)
    | dsimp only

theorem execFifoClear_kept {m : Nat} (hm : 401421 &&& m = 401421) {s : State} {x_b : Bay} {x_epoch : BitVec 16} {x_s : State} (h_x_s : Kept m s x_s) : KeptN m s (execFifoClear x_b x_epoch x_s) := by
  unfold execFifoClear
  repeat' first
    | (with_reducible first | assumption | exact Kept.refl _)
    | exact sub_trans (b := 401421) (by decide) hm
    | intro _
    | (with_reducible first | apply State.hostTmu_kept | apply State.ok_kept | apply State.tmuRepeat_kept | apply State.tmuClear_kept | apply KeptN.next | apply KeptN.ite)

theorem execRefWarmChange_kept {m : Nat} (hm : 401416 &&& m = 401416) {s : State} {x_level : Bool} {x_s : State} (h_x_s : Kept m s x_s) : KeptN m s (execRefWarmChange x_level x_s) := by
  unfold execRefWarmChange
  repeat' first
    | (with_reducible first | assumption | exact Kept.refl _)
    | exact sub_trans (b := 401416) (by decide) hm
    | (with_reducible first | apply State.refWarm_kept | apply KeptN.next | apply KeptN.ite)

end Sys2Proof.Machine
end

