-- ==== Sys2Proof/Laws/KeptSlots.lean ====
section
/-! SUPPORT. What the operations of Machine/Slots.lean keep. -/

set_option linter.all false

namespace Sys2Proof.Machine

theorem State.zeroSlot_kept {m : Nat} (hm : 1032 &&& m = 1032) {s : State} {x_s : State} {x_k : Nat} (h_x_s : Kept m s x_s) : Kept m s (State.zeroSlot x_s x_k) := by
  unfold State.zeroSlot
  repeat' first
    | (with_reducible first | assumption | exact Kept.refl _)
    | exact sub_trans (b := 1032) (by decide) hm
    | (intro x_1; refine (fun hx : Kept m s x_1 => ?_) ?_; (clear_value x_1); rotate_left; (unfold x_1))
    | (intro x_1; clear_value x_1)
    | (intro p; cases p <;> first | exact Or.inl (bit_of (a := 1032) hm rfl) | exact Or.inr rfl)
    | intro _
    | with_reducible apply State.setO_kept
    | lift_lets -underBinder
    | (refine Kept.upd ?_ ?_)

theorem State.zeroSlots_kept {m : Nat} (hm : 1032 &&& m = 1032) {s : State} {x_s : State} (h_x_s : Kept m s x_s) : Kept m s (State.zeroSlots x_s) := by
  unfold State.zeroSlots
  repeat' first
    | (with_reducible first | assumption | exact Kept.refl _)
    | exact sub_trans (b := 1032) (by decide) hm
    | (with_reducible first | apply State.each_kept | apply State.zeroSlot_kept)

theorem State.loadSlot_kept {m : Nat} (hm : 1032 &&& m = 1032) {s : State} {x_s : State} {x_k : Nat} {x_xts : BitVec 512} {x_base : Nat} {x_b : Bay} (h_x_s : Kept m s x_s) : Kept m s (State.loadSlot x_s x_k x_xts x_base x_b) := by
  unfold State.loadSlot
  repeat' first
    | (with_reducible first | assumption | exact Kept.refl _)
    | exact sub_trans (b := 1032) (by decide) hm
    | (intro x_1; refine (fun hx : Kept m s x_1 => ?_) ?_; (clear_value x_1); rotate_left; (unfold x_1))
    | (intro x_1; clear_value x_1)
    | (intro p; cases p <;> first | exact Or.inl (bit_of (a := 1032) hm rfl) | exact Or.inr rfl)
    | intro _
    | with_reducible apply State.setO_kept
    | lift_lets -underBinder
    | (refine Kept.upd ?_ ?_)

theorem State.showSlots_kept {m : Nat} (hm : 8 &&& m = 8) {s : State} {x_s : State} (h_x_s : Kept m s x_s) : Kept m s (State.showSlots x_s) := by
  unfold State.showSlots
  repeat' first
    | (with_reducible first | assumption | exact Kept.refl _)
    | exact sub_trans (b := 8) (by decide) hm
    | (intro x_1; refine (fun hx : Kept m s x_1 => ?_) ?_; (clear_value x_1); rotate_left; (unfold x_1))
    | (intro x_1; clear_value x_1)
    | intro _
    | (with_reducible first | apply State.each_kept | apply State.setO_kept | apply Kept.ite)
    | lift_lets -underBinder

end Sys2Proof.Machine
end

