-- ==== Sys2Proof/Laws/KeptSequencer.lean ====
section
/-! SUPPORT. What the operations of Machine/Sequencer.lean keep. -/

set_option linter.all false

namespace Sys2Proof.Machine

theorem State.storeEntries_kept {m : Nat} (hm : 41 &&& m = 41) {s : State} {x_s : State} {x_b : Bay} {x_a2 : List (Nat × Nat)} (h_x_s : Kept m s x_s) : Kept m s (State.storeEntries x_s x_b x_a2) := by
  induction x_a2 generalizing x_s x_b with
  | nil =>
    unfold State.storeEntries
    repeat' first
      | (with_reducible first | assumption | exact Kept.refl _)
      | exact sub_trans (b := 41) (by decide) hm
      | (intro p; cases p <;> first | exact Or.inl (bit_of (a := 41) hm rfl) | exact Or.inr rfl)
      | (with_reducible first | apply State.answer_kept | apply State.setB_kept | apply State.ok_kept | exact KeptO.none | apply KeptO.some | apply KeptO.ite)
      | split
      | (refine Kept.upd ?_ ?_)
      | (dsimp only)
  | cons hd tl ih =>
    unfold State.storeEntries
    repeat' first
      | with_reducible apply ih
      | (with_reducible first | assumption | exact Kept.refl _)
      | exact sub_trans (b := 41) (by decide) hm
      | (intro p; cases p <;> first | exact Or.inl (bit_of (a := 41) hm rfl) | exact Or.inr rfl)
      | (with_reducible first | apply State.answer_kept | apply State.setB_kept | apply State.ok_kept | exact KeptO.none | apply KeptO.some | apply KeptO.ite)
      | split
      | (refine Kept.upd ?_ ?_)
      | (dsimp only)

theorem State.entryWrite_kept {m : Nat} (hm : 41 &&& m = 41) {s : State} {x_s : State} {x_b : Bay} {x_e : Nat} (h_x_s : Kept m s x_s) : Kept m s (State.entryWrite x_s x_b x_e) := by
  unfold State.entryWrite
  repeat' first
    | (with_reducible first | assumption | exact Kept.refl _)
    | exact sub_trans (b := 41) (by decide) hm
    | (with_reducible first | apply State.answer_kept | apply State.storeEntries_kept | apply Kept.ite)

theorem State.tableWrite_kept {m : Nat} (hm : 41 &&& m = 41) {s : State} {x_s : State} {x_b : Bay} {x_data : Bytes} (h_x_s : Kept m s x_s) : Kept m s (State.tableWrite x_s x_b x_data) := by
  unfold State.tableWrite
  repeat' first
    | (with_reducible first | assumption | exact Kept.refl _)
    | exact sub_trans (b := 41) (by decide) hm
    | (intro x_1; refine (fun hx : Kept m s x_1 => ?_) ?_; (clear_value x_1); rotate_left; (unfold x_1))
    | (intro x_1; clear_value x_1)
    | intro _
    | (with_reducible first | apply State.answer_kept | apply State.storeEntries_kept | apply Kept.ite)
    | lift_lets -underBinder

theorem State.driveRidge_kept {m : Nat} (hm : 512 &&& m = 512) {s : State} {x_s : State} {x_line : Nat} {x_on : Bool} (h_x_s : Kept m s x_s) : Kept m s (State.driveRidge x_s x_line x_on) := by
  unfold State.driveRidge
  repeat' first
    | (with_reducible first | assumption | exact Kept.refl _)
    | (intro p; cases p <;> first | exact Or.inl (bit_of (a := 512) hm rfl) | exact Or.inr rfl)
    | with_reducible apply Kept.ite
    | (refine Kept.upd ?_ ?_)

theorem State.driveLines_kept {m : Nat} (hm : 512 &&& m = 512) {s : State} {x_s : State} {x_i : Site} (h_x_s : Kept m s x_s) : Kept m s (State.driveLines x_s x_i) := by
  unfold State.driveLines
  repeat' first
    | (with_reducible first | assumption | exact Kept.refl _)
    | exact sub_trans (b := 512) (by decide) hm
    | (intro x_1; refine (fun hx : Kept m s x_1 => ?_) ?_; (clear_value x_1); rotate_left; (unfold x_1))
    | (intro x_1; clear_value x_1)
    | (intro p; cases p <;> first | exact Or.inl (bit_of (a := 512) hm rfl) | exact Or.inr rfl)
    | intro _
    | (with_reducible first | apply State.driveRidge_kept | apply Kept.ite)
    | lift_lets -underBinder
    | split
    | dsimp only
    | (refine Kept.upd ?_ ?_)

theorem State.driveSite_kept {m : Nat} (hm : 512 &&& m = 512) {s : State} {x_s : State} {x_b : Bay} (h_x_s : Kept m s x_s) : Kept m s (State.driveSite x_s x_b) := by
  unfold State.driveSite
  repeat' first
    | (with_reducible first | assumption | exact Kept.refl _)
    | exact sub_trans (b := 512) (by decide) hm
    | intro _
    | (with_reducible first | apply State.each_kept | apply State.driveLines_kept)

theorem State.clearLatch_kept {m : Nat} (hm : 8192 &&& m = 8192) {s : State} {x_s : State} {x_b : Bay} {x_n : Nat} (h_x_s : Kept m s x_s) : Kept m s (State.clearLatch x_s x_b x_n) := by
  unfold State.clearLatch
  repeat' first
    | (with_reducible first | assumption | exact Kept.refl _)
    | exact sub_trans (b := 8192) (by decide) hm
    | (intro x_1; refine (fun hx : Kept m s x_1 => ?_) ?_; (clear_value x_1); rotate_left; (unfold x_1))
    | (intro x_1; clear_value x_1)
    | intro _
    | (with_reducible first | apply State.modBay_kept | apply Kept.ite)
    | lift_lets -underBinder
    | split
    | dsimp only
    | (refine Kept.upd ?_ ?_)

theorem State.clearLatches__kept {m : Nat} (hm : 8192 &&& m = 8192) {s : State} {x_s : State} {x_b : Bay} (h_x_s : Kept m s x_s) : Kept m s (State.clearLatches_ x_s x_b) := by
  unfold State.clearLatches_
  repeat' first
    | (with_reducible first | assumption | exact Kept.refl _)
    | exact sub_trans (b := 8192) (by decide) hm
    | (intro x_1; refine (fun hx : Kept m s x_1 => ?_) ?_; (clear_value x_1); rotate_left; (unfold x_1))
    | (intro x_1; clear_value x_1)
    | intro _
    | with_reducible apply State.modBay_kept
    | lift_lets -underBinder
    | (refine Kept.upd ?_ ?_)

theorem State.endPattern_kept {m : Nat} (hm : 8192 &&& m = 8192) {s : State} {x_s : State} {x_b : Bay} (h_x_s : Kept m s x_s) : Kept m s (State.endPattern x_s x_b) := by
  unfold State.endPattern
  repeat' first
    | (with_reducible first | assumption | exact Kept.refl _)
    | exact sub_trans (b := 8192) (by decide) hm
    | intro _
    | with_reducible apply State.modBay_kept
    | (refine Kept.upd ?_ ?_)

theorem State.seqError_kept {m : Nat} (hm : 434188 &&& m = 434188) {s : State} {x_s : State} {x_b : Bay} {x_micro : Bool} {x_flag : Nat} (h_x_s : Kept m s x_s) : Kept m s (State.seqError x_s x_b x_micro x_flag) := by
  unfold State.seqError
  repeat' first
    | (with_reducible first | assumption | exact Kept.refl _)
    | exact sub_trans (b := 434188) (by decide) hm
    | (intro x_1; refine (fun hx : Kept m s x_1 => ?_) ?_; (clear_value x_1); rotate_left; (unfold x_1))
    | (intro x_1; clear_value x_1)
    | intro _
    | (with_reducible first | apply State.flagB_kept | apply State.fault_kept | apply State.markSites_kept | apply State.endPattern_kept | apply State.occur_kept | apply Kept.ite)
    | lift_lets -underBinder

theorem State.postJump_kept {m : Nat} (hm : 8192 &&& m = 8192) {s : State} {x_s : State} {x_b : Bay} {x_rank : Nat} {x_target : Nat} (h_x_s : Kept m s x_s) : Kept m s (State.postJump x_s x_b x_rank x_target) := by
  unfold State.postJump
  repeat' first
    | (with_reducible first | assumption | exact Kept.refl _)
    | exact sub_trans (b := 8192) (by decide) hm
    | intro _
    | (with_reducible first | apply State.modBay_kept)
    | (refine Kept.upd ?_ ?_)

theorem State.dropJumps_kept {m : Nat} (hm : 8 &&& m = 8) {s : State} {x_s : State} {x_b : Bay} {x_n : Nat} (h_x_s : Kept m s x_s) : Kept m s (State.dropJumps x_s x_b x_n) := by
  unfold State.dropJumps
  repeat' first
    | (with_reducible first | assumption | exact Kept.refl _)
    | exact sub_trans (b := 8) (by decide) hm
    | (with_reducible first | apply State.setB_kept | apply State.flagB_kept | apply Kept.ite)

theorem State.latchJumps_kept {m : Nat} (hm : 8200 &&& m = 8200) {s : State} {x_s : State} {x_b : Bay} (h_x_s : Kept m s x_s) : Kept m s (State.latchJumps x_s x_b) := by
  unfold State.latchJumps
  repeat' first
    | (with_reducible first | assumption | exact Kept.refl _)
    | exact sub_trans (b := 8200) (by decide) hm
    | (intro x_1; refine (fun hx : Kept m s x_1 => ?_) ?_; (clear_value x_1); rotate_left; (unfold x_1))
    | (intro x_1; clear_value x_1)
    | intro _
    | (with_reducible first | apply State.modBay_kept | apply State.dropJumps_kept | exact KeptO.none | apply KeptO.some | apply KeptO.ite)
    | lift_lets -underBinder
    | split
    | (refine Kept.upd ?_ ?_)

theorem State.jumpRequest_kept {m : Nat} (hm : 8193 &&& m = 8193) {s : State} {x_s : State} {x_b : Bay} {x_target : Nat} (h_x_s : Kept m s x_s) : Kept m s (State.jumpRequest x_s x_b x_target) := by
  unfold State.jumpRequest
  repeat' first
    | (with_reducible first | assumption | exact Kept.refl _)
    | exact sub_trans (b := 8193) (by decide) hm
    | (with_reducible first | apply State.answer_kept | apply State.ok_kept | apply State.postJump_kept | apply Kept.ite)

theorem State.showLead_kept {m : Nat} (hm : 8 &&& m = 8) {s : State} {x_s : State} {x_b : Bay} (h_x_s : Kept m s x_s) : Kept m s (State.showLead x_s x_b) := by
  unfold State.showLead
  repeat' first
    | (with_reducible first | assumption | exact Kept.refl _)
    | exact sub_trans (b := 8) (by decide) hm
    | (intro x_1; refine (fun hx : Kept m s x_1 => ?_) ?_; (clear_value x_1); rotate_left; (unfold x_1))
    | (intro x_1; clear_value x_1)
    | intro _
    | (with_reducible first | apply State.setB_kept | apply Kept.ite)
    | lift_lets -underBinder

theorem State.ringIn_kept {m : Nat} (hm : 8192 &&& m = 8192) {s : State} {x_s : State} {x_b : Bay} {x_bad : Bool} {x_rows : Nat → List Nat} {x_a4 : Nat} {x_a5 : Nat} (h_x_s : Kept m s x_s) : Kept m s (State.ringIn x_s x_b x_bad x_rows x_a4 x_a5) := by
  induction x_a4 generalizing x_s x_b x_bad x_rows x_a5 with
  | zero =>
    unfold State.ringIn
    repeat' first
      | (with_reducible first | assumption | exact Kept.refl _)
      | exact sub_trans (b := 8192) (by decide) hm
      | (intro x_1; refine (fun hx : Kept m s x_1 => ?_) ?_; (clear_value x_1); rotate_left; (unfold x_1))
      | (intro x_1; clear_value x_1)
      | intro _
      | (with_reducible first | apply State.modBay_kept | exact KeptO.none | apply KeptO.some | apply KeptO.ite)
      | lift_lets -underBinder
      | split
      | (refine Kept.upd ?_ ?_)
      | (dsimp only)
  | succ k ih =>
    unfold State.ringIn
    repeat' first
      | with_reducible apply ih
      | (with_reducible first | assumption | exact Kept.refl _)
      | exact sub_trans (b := 8192) (by decide) hm
      | (intro x_1; refine (fun hx : Kept m s x_1 => ?_) ?_; (clear_value x_1); rotate_left; (unfold x_1))
      | (intro x_1; clear_value x_1)
      | intro _
      | (with_reducible first | apply State.modBay_kept | exact KeptO.none | apply KeptO.some | apply KeptO.ite)
      | lift_lets -underBinder
      | split
      | (refine Kept.upd ?_ ?_)
      | (dsimp only)

theorem State.fetchCheck_kept {m : Nat} (hm : 425996 &&& m = 425996) {s : State} {x_s : State} {x_b : Bay} {x_bad : Bool} {x_again : Bool} (h_x_s : Kept m s x_s) : Kept m s (State.fetchCheck x_s x_b x_bad x_again) := by
  unfold State.fetchCheck
  repeat' first
    | (with_reducible first | assumption | exact Kept.refl _)
    | exact sub_trans (b := 425996) (by decide) hm
    | (intro x_1; refine (fun hx : Kept m s x_1 => ?_) ?_; (clear_value x_1); rotate_left; (unfold x_1))
    | (intro x_1; clear_value x_1)
    | intro _
    | (with_reducible first | apply State.countUe_kept | apply Kept.ite)
    | lift_lets -underBinder
    | split
    | dsimp only

theorem State.loftFill_kept {m : Nat} (hm : 434188 &&& m = 434188) {s : State} {x_s : State} {x_b : Bay} {x_bad : Bool} {x_badAgain : Bool} (h_x_s : Kept m s x_s) : Kept m s (State.loftFill x_s x_b x_bad x_badAgain) := by
  unfold State.loftFill
  repeat' first
    | (with_reducible first | assumption | exact Kept.refl _)
    | exact sub_trans (b := 434188) (by decide) hm
    | (intro x_1; refine (fun hx : Kept m s x_1 => ?_) ?_; (clear_value x_1); rotate_left; (unfold x_1))
    | (intro x_1; clear_value x_1)
    | intro _
    | (with_reducible first | apply State.showLead_kept | apply State.ringIn_kept | apply State.setB_kept | apply State.fetchCheck_kept | apply State.countTag_kept | apply Kept.ite)
    | lift_lets -underBinder
    | split
    | dsimp only
    | (refine Kept.upd ?_ ?_)

theorem State.redirect_kept {m : Nat} (hm : 8200 &&& m = 8200) {s : State} {x_s : State} {x_b : Bay} {x_n : Nat} (h_x_s : Kept m s x_s) : Kept m s (State.redirect x_s x_b x_n) := by
  unfold State.redirect
  repeat' first
    | (with_reducible first | assumption | exact Kept.refl _)
    | exact sub_trans (b := 8200) (by decide) hm
    | (intro x_1; refine (fun hx : Kept m s x_1 => ?_) ?_; (clear_value x_1); rotate_left; (unfold x_1))
    | (intro x_1; clear_value x_1)
    | intro _
    | (with_reducible first | apply State.showLead_kept | apply State.modBay_kept | apply Kept.ite | apply Kept.ite1 | apply Kept.ite2)
    | lift_lets -underBinder
    | split
    | dsimp only
    | (refine Kept.upd ?_ ?_)

theorem State.endUnderrun_kept {m : Nat} (hm : 8192 &&& m = 8192) {s : State} {x_s : State} {x_b : Bay} (h_x_s : Kept m s x_s) : Kept m s (State.endUnderrun x_s x_b) := by
  unfold State.endUnderrun
  repeat' first
    | (with_reducible first | assumption | exact Kept.refl _)
    | exact sub_trans (b := 8192) (by decide) hm
    | intro _
    | (with_reducible first | apply State.modBay_kept | exact KeptO.none | apply KeptO.some | apply KeptO.ite)
    | split
    | (refine Kept.upd ?_ ?_)

theorem State.beginUnderrun_kept {m : Nat} (hm : 434188 &&& m = 434188) {s : State} {x_s : State} {x_b : Bay} {x_cause : Nat} (h_x_s : Kept m s x_s) : Kept m s (State.beginUnderrun x_s x_b x_cause) := by
  unfold State.beginUnderrun
  repeat' first
    | (with_reducible first | assumption | exact Kept.refl _)
    | exact sub_trans (b := 434188) (by decide) hm
    | (intro x_1; refine (fun hx : Kept m s x_1 => ?_) ?_; (clear_value x_1); rotate_left; (unfold x_1))
    | (intro x_1; clear_value x_1)
    | intro _
    | (with_reducible first | apply State.flagB_kept | apply State.incB_kept | apply State.markSites_kept | apply State.occur_kept | apply State.fault_kept | apply State.modBay_kept | exact KeptO.none | apply KeptO.some | apply KeptO.ite | apply Kept.ite)
    | lift_lets -underBinder
    | (refine Kept.upd ?_ ?_)

theorem State.padGranule_kept {m : Nat} (hm : 434188 &&& m = 434188) {s : State} {x_s : State} {x_b : Bay} {x_cause : Nat} (h_x_s : Kept m s x_s) : Kept m s (State.padGranule x_s x_b x_cause) := by
  unfold State.padGranule
  repeat' first
    | (with_reducible first | assumption | exact Kept.refl _)
    | exact sub_trans (b := 434188) (by decide) hm
    | (intro x_1; refine (fun hx : Kept m s x_1 => ?_) ?_; (clear_value x_1); rotate_left; (unfold x_1))
    | (intro x_1; clear_value x_1)
    | intro _
    | (with_reducible first | apply State.beginUnderrun_kept | apply State.endUnderrun_kept | apply State.endPattern_kept | apply State.flagB_kept | apply State.setB_kept | apply State.modBay_kept | apply Kept.ite)
    | lift_lets -underBinder
    | (refine Kept.upd ?_ ?_)

theorem State.ringPop_kept {m : Nat} (hm : 8200 &&& m = 8200) {s : State} {x_s : State} {x_b : Bay} (h_x_s : Kept m s x_s) : Kept m s (State.ringPop x_s x_b) := by
  unfold State.ringPop
  repeat' first
    | (with_reducible first | assumption | exact Kept.refl _)
    | exact sub_trans (b := 8200) (by decide) hm
    | (intro x_1; refine (fun hx : Kept m s x_1 => ?_) ?_; (clear_value x_1); rotate_left; (unfold x_1))
    | (intro x_1; clear_value x_1)
    | intro _
    | (with_reducible first | apply State.showLead_kept | apply State.modBay_kept | apply Kept.ite)
    | lift_lets -underBinder
    | split
    | (refine Kept.upd ?_ ?_)

theorem State.retireChan_kept {m : Nat} (hm : 16392 &&& m = 16392) {s : State} {x_s : State} {x_c : Chan} {x_how : Nat} (h_x_s : Kept m s x_s) : Kept m s (State.retireChan x_s x_c x_how) := by
  unfold State.retireChan
  repeat' first
    | (with_reducible first | assumption | exact Kept.refl _)
    | exact sub_trans (b := 16392) (by decide) hm
    | (intro x_1; refine (fun hx : Kept m s x_1 => ?_) ?_; (clear_value x_1); rotate_left; (unfold x_1))
    | (intro x_1; clear_value x_1)
    | intro _
    | (with_reducible first | apply State.modChan_kept | apply State.inhibit_kept)
    | lift_lets -underBinder
    | split
    | (refine Kept.upd ?_ ?_)

theorem State.retireQuad_kept {m : Nat} (hm : 16904 &&& m = 16904) {s : State} {x_s : State} {x_b : Bay} {x_q : Fin 4} (h_x_s : Kept m s x_s) : Kept m s (State.retireQuad x_s x_b x_q) := by
  unfold State.retireQuad
  repeat' first
    | (with_reducible first | assumption | exact Kept.refl _)
    | exact sub_trans (b := 16904) (by decide) hm
    | (intro x_1; refine (fun hx : Kept m s x_1 => ?_) ?_; (clear_value x_1); rotate_left; (unfold x_1))
    | (intro x_1; clear_value x_1)
    | intro _
    | (with_reducible first | apply State.driveSite_kept | apply State.setB_kept | apply State.each_kept | apply State.retireChan_kept | apply State.markSite_kept | apply Kept.ite)
    | lift_lets -underBinder
    | split
    | dsimp only
    | (refine Kept.upd ?_ ?_)

theorem State.retireDue_kept {m : Nat} (hm : 25096 &&& m = 25096) {s : State} {x_s : State} {x_b : Bay} (h_x_s : Kept m s x_s) : Kept m s (State.retireDue x_s x_b) := by
  unfold State.retireDue
  repeat' first
    | (with_reducible first | assumption | exact Kept.refl _)
    | exact sub_trans (b := 25096) (by decide) hm
    | (intro x_1; refine (fun hx : Kept m s x_1 => ?_) ?_; (clear_value x_1); rotate_left; (unfold x_1))
    | (intro x_1; clear_value x_1)
    | intro _
    | (with_reducible first | apply State.modBay_kept | apply State.each_kept | apply State.retireQuad_kept | apply Kept.ite)
    | lift_lets -underBinder
    | (refine Kept.upd ?_ ?_)

theorem State.setState_kept {m : Nat} (hm : 393224 &&& m = 393224) {s : State} {x_s : State} {x_b : Bay} {x_st : Nat} (h_x_s : Kept m s x_s) : Kept m s (State.setState x_s x_b x_st) := by
  unfold State.setState
  repeat' first
    | (with_reducible first | assumption | exact Kept.refl _)
    | exact sub_trans (b := 393224) (by decide) hm
    | (with_reducible first | apply State.event_kept | apply State.setB_kept | apply Kept.ite)

theorem State.openRows_kept {m : Nat} (hm : 8200 &&& m = 8200) {s : State} {x_s : State} {x_b : Bay} {x_rows : List Nat} (h_x_s : Kept m s x_s) : Kept m s (State.openRows x_s x_b x_rows) := by
  unfold State.openRows
  repeat' first
    | (with_reducible first | assumption | exact Kept.refl _)
    | exact sub_trans (b := 8200) (by decide) hm
    | (intro x_1; refine (fun hx : Kept m s x_1 => ?_) ?_; (clear_value x_1); rotate_left; (unfold x_1))
    | (intro x_1; clear_value x_1)
    | intro _
    | (with_reducible first | apply State.setB_kept | apply State.endUnderrun_kept | apply State.modBay_kept | apply State.ringPop_kept)
    | lift_lets -underBinder
    | (refine Kept.upd ?_ ?_)

theorem State.openNext_kept {m : Nat} (hm : 434188 &&& m = 434188) {s : State} {x_s : State} {x_b : Bay} (h_x_s : Kept m s x_s) : Kept m s (State.openNext x_s x_b) := by
  unfold State.openNext
  repeat' first
    | (with_reducible first | assumption | exact Kept.refl _)
    | exact sub_trans (b := 434188) (by decide) hm
    | (with_reducible first | apply State.openRows_kept | apply State.ringPop_kept | apply State.padGranule_kept | apply State.setB_kept | apply State.ok_kept | apply Kept.ite)
    | split
    | (refine Kept.upd ?_ ?_)

theorem State.openPause_kept {m : Nat} (hm : 8192 &&& m = 8192) {s : State} {x_s : State} {x_b : Bay} (h_x_s : Kept m s x_s) : Kept m s (State.openPause x_s x_b) := by
  unfold State.openPause
  repeat' first
    | (with_reducible first | assumption | exact Kept.refl _)
    | exact sub_trans (b := 8192) (by decide) hm
    | intro _
    | with_reducible apply State.modBay_kept
    | (refine Kept.upd ?_ ?_)

theorem State.loftError_kept {m : Nat} (hm : 8192 &&& m = 8192) {s : State} {x_s : State} {x_b : Bay} {x_again : Bool} (h_x_s : Kept m s x_s) : Kept m s (State.loftError x_s x_b x_again) := by
  unfold State.loftError
  repeat' first
    | (with_reducible first | assumption | exact Kept.refl _)
    | exact sub_trans (b := 8192) (by decide) hm
    | (intro x_1; refine (fun hx : Kept m s x_1 => ?_) ?_; (clear_value x_1); rotate_left; (unfold x_1))
    | (intro x_1; clear_value x_1)
    | intro _
    | (with_reducible first | apply State.modBay_kept | apply Kept.ite)
    | lift_lets -underBinder
    | split
    | dsimp only
    | (refine Kept.upd ?_ ?_)

theorem State.granuleBoundary_kept {m : Nat} (hm : 451084 &&& m = 451084) {s : State} {x_s : State} {x_b : Bay} {x_bad : Bool} {x_again : Bool} (h_x_s : Kept m s x_s) : Kept m s (State.granuleBoundary x_s x_b x_bad x_again) := by
  unfold State.granuleBoundary
  repeat' first
    | (with_reducible first | assumption | exact Kept.refl _)
    | exact sub_trans (b := 451084) (by decide) hm
    | (intro x_1; refine (fun hx : Kept m s x_1 => ?_) ?_; (clear_value x_1); rotate_left; (unfold x_1))
    | (intro x_1; clear_value x_1)
    | intro _
    | (with_reducible first | apply State.latchJumps_kept | apply State.shadowGranule_kept | apply State.retireDue_kept | apply State.openNext_kept | apply State.loftError_kept | apply State.endPattern_kept | apply State.endUnderrun_kept | apply State.capResume_kept | apply State.setState_kept | apply State.modBay_kept | apply State.openPause_kept | apply State.capPause_kept | apply Kept.ite)
    | lift_lets -underBinder
    | split
    | dsimp only
    | (refine Kept.upd ?_ ?_)

theorem State.decision_kept {m : Nat} (hm : 401420 &&& m = 401420) {s : State} {x_s : State} {x_b : Bay} (h_x_s : Kept m s x_s) : Kept m s (State.decision x_s x_b).1 := by
  unfold State.decision
  repeat' first
    | (with_reducible first | assumption | exact Kept.refl _)
    | exact sub_trans (b := 401420) (by decide) hm
    | (intro x_1; refine (fun hx : Kept m s x_1 => ?_) ?_; (clear_value x_1); rotate_left; (unfold x_1))
    | (intro x_1; clear_value x_1)
    | intro _
    | (with_reducible first | apply State.modBay_kept | apply State.setB_kept | apply State.flagB_kept | apply State.occur_kept | exact KeptO.none | apply KeptO.some | apply KeptO.ite | apply Kept.ite | apply Kept.ite1)
    | lift_lets -underBinder
    | split
    | dsimp only
    | (refine Kept.upd ?_ ?_)

theorem State.decide__kept {m : Nat} (hm : 401420 &&& m = 401420) {s : State} {x_s : State} {x_b : Bay} (h_x_s : Kept m s x_s) : Kept m s (State.decide_ x_s x_b) := by
  unfold State.decide_
  repeat' first
    | (with_reducible first | assumption | exact Kept.refl _)
    | exact sub_trans (b := 401420) (by decide) hm
    | (intro x_1; refine (fun hx : Kept m s x_1 => ?_) ?_; (clear_value x_1); rotate_left; (unfold x_1))
    | (intro x_1; refine (fun hx : Kept m s x_1.1 => ?_) ?_; (clear_value x_1); rotate_left; (unfold x_1))
    | (intro x_1; clear_value x_1)
    | intro _
    | (with_reducible first | apply State.decision_kept | refine State.decision_kept_eq ?_ ?_ (by assumption) | apply State.modBay_kept | apply State.redirect_kept | exact KeptO.none | apply KeptO.some | apply KeptO.ite | apply Kept.ite | apply Kept.ite1)
    | lift_lets -underBinder
    | split
    | dsimp only
    | (refine Kept.upd ?_ ?_)

theorem State.newPass_kept {m : Nat} (hm : 8200 &&& m = 8200) {s : State} {x_s : State} {x_b : Bay} {x_pass : Nat} (h_x_s : Kept m s x_s) : Kept m s (State.newPass x_s x_b x_pass) := by
  unfold State.newPass
  repeat' first
    | (with_reducible first | assumption | exact Kept.refl _)
    | exact sub_trans (b := 8200) (by decide) hm
    | intro _
    | (with_reducible first | apply State.modBay_kept | apply State.setB_kept)
    | (refine Kept.upd ?_ ?_)

theorem State.arrive_kept {m : Nat} (hm : 450572 &&& m = 450572) {s : State} {x_s : State} {x_b : Bay} {x_n : Nat} {x_lvlBefore : Nat} (h_x_s : Kept m s x_s) : Kept m s (State.arrive x_s x_b x_n x_lvlBefore) := by
  unfold State.arrive
  repeat' first
    | (with_reducible first | assumption | exact Kept.refl _)
    | exact sub_trans (b := 450572) (by decide) hm
    | (intro x_1; refine (fun hx : Kept m s x_1 => ?_) ?_; (clear_value x_1); rotate_left; (unfold x_1))
    | (intro x_1; clear_value x_1)
    | intro _
    | (with_reducible first | apply State.seqError_kept | apply State.setB_kept | apply State.load_kept | apply State.selectLevels_kept | apply State.newPass_kept | apply State.modBay_kept | apply Kept.ite)
    | lift_lets -underBinder
    | split
    | dsimp only
    | (refine Kept.upd ?_ ?_)

theorem State.shingleBoundary_kept {m : Nat} (hm : 450572 &&& m = 450572) {s : State} {x_s : State} {x_b : Bay} (h_x_s : Kept m s x_s) : Kept m s (State.shingleBoundary x_s x_b) := by
  unfold State.shingleBoundary
  repeat' first
    | (with_reducible first | assumption | exact Kept.refl _)
    | exact sub_trans (b := 450572) (by decide) hm
    | (intro x_1; refine (fun hx : Kept m s x_1 => ?_) ?_; (clear_value x_1); rotate_left; (unfold x_1))
    | (intro x_1; clear_value x_1)
    | intro _
    | (with_reducible first | apply State.newPass_kept | apply State.arrive_kept | apply State.setB_kept | apply State.seqError_kept | apply State.endPattern_kept | exact KeptO.none | apply KeptO.some | apply KeptO.ite | apply Kept.ite)
    | lift_lets -underBinder
    | split
    | (refine Kept.upd ?_ ?_)

theorem execShingleEntryWrite_kept {m : Nat} (hm : 393261 &&& m = 393261) {s : State} {x_b : Bay} {x_epoch : BitVec 16} {x_entry : BitVec 256} {x_s : State} (h_x_s : Kept m s x_s) : KeptN m s (execShingleEntryWrite x_b x_epoch x_entry x_s) := by
  unfold execShingleEntryWrite
  repeat' first
    | (with_reducible first | assumption | exact Kept.refl _)
    | exact sub_trans (b := 393261) (by decide) hm
    | intro _
    | (with_reducible first | apply State.hostBayFirm_kept | apply State.entryWrite_kept | apply KeptN.next | apply KeptN.ite)

theorem execTableBlockWrite_kept {m : Nat} (hm : 393261 &&& m = 393261) {s : State} {x_b : Bay} {x_epoch : BitVec 16} {x_data : Bytes} {x_s : State} (h_x_s : Kept m s x_s) : KeptN m s (execTableBlockWrite x_b x_epoch x_data x_s) := by
  unfold execTableBlockWrite
  repeat' first
    | (with_reducible first | assumption | exact Kept.refl _)
    | exact sub_trans (b := 393261) (by decide) hm
    | intro _
    | (with_reducible first | apply State.hostBayFirm_kept | apply State.tableWrite_kept | apply KeptN.next | apply KeptN.ite)

theorem execJumpRequest_kept {m : Nat} (hm : 401421 &&& m = 401421) {s : State} {x_b : Bay} {x_epoch : BitVec 16} {x_target : BitVec 16} {x_s : State} (h_x_s : Kept m s x_s) : KeptN m s (execJumpRequest x_b x_epoch x_target x_s) := by
  unfold execJumpRequest
  repeat' first
    | (with_reducible first | assumption | exact Kept.refl _)
    | exact sub_trans (b := 401421) (by decide) hm
    | intro _
    | (with_reducible first | apply State.hostBay_kept | apply State.jumpRequest_kept | apply KeptN.next | apply KeptN.ite)

theorem execCondJump_kept {m : Nat} (hm : 8192 &&& m = 8192) {s : State} {x_b : Bay} {x_s : State} (h_x_s : Kept m s x_s) : KeptN m s (execCondJump x_b x_s) := by
  unfold execCondJump
  repeat' first
    | (with_reducible first | assumption | exact Kept.refl _)
    | exact sub_trans (b := 8192) (by decide) hm
    | (intro x_1; refine (fun hx : Kept m s x_1 => ?_) ?_; (clear_value x_1); rotate_left; (unfold x_1))
    | (intro x_1; clear_value x_1)
    | intro _
    | (with_reducible first | apply State.postJump_kept | apply KeptN.next | apply KeptN.ite | apply Kept.ite)
    | lift_lets -underBinder

theorem execGranuleBoundary_kept {m : Nat} (hm : 451084 &&& m = 451084) {s : State} {x_b : Bay} {x_bad : Bool} {x_again : Bool} {x_s : State} (h_x_s : Kept m s x_s) : KeptN m s (execGranuleBoundary x_b x_bad x_again x_s) := by
  unfold execGranuleBoundary
  repeat' first
    | (with_reducible first | assumption | exact Kept.refl _)
    | exact sub_trans (b := 451084) (by decide) hm
    | (with_reducible first | apply State.granuleBoundary_kept | apply KeptN.next | apply KeptN.ite)

theorem execDecisionBoundary_kept {m : Nat} (hm : 401420 &&& m = 401420) {s : State} {x_b : Bay} {x_s : State} (h_x_s : Kept m s x_s) : KeptN m s (execDecisionBoundary x_b x_s) := by
  unfold execDecisionBoundary
  repeat' first
    | (with_reducible first | assumption | exact Kept.refl _)
    | exact sub_trans (b := 401420) (by decide) hm
    | (with_reducible first | apply State.decide__kept | apply KeptN.next | apply KeptN.ite | apply Kept.ite)

theorem execShingleBoundary_kept {m : Nat} (hm : 450572 &&& m = 450572) {s : State} {x_b : Bay} {x_s : State} (h_x_s : Kept m s x_s) : KeptN m s (execShingleBoundary x_b x_s) := by
  unfold execShingleBoundary
  repeat' first
    | (with_reducible first | assumption | exact Kept.refl _)
    | exact sub_trans (b := 450572) (by decide) hm
    | (with_reducible first | apply State.shingleBoundary_kept | apply KeptN.next | apply KeptN.ite | apply Kept.ite)

theorem execLoftFill_kept {m : Nat} (hm : 33988620 &&& m = 33988620) {s : State} {x_b : Bay} {x_bad : Bool} {x_badAgain : Bool} {x_s : State} (h_x_s : Kept m s x_s) : KeptN m s (execLoftFill x_b x_bad x_badAgain x_s) := by
  unfold execLoftFill
  repeat' first
    | (with_reducible first | assumption | exact Kept.refl _)
    | exact sub_trans (b := 33988620) (by decide) hm
    | (with_reducible first | apply State.loftFill_kept | apply State.takeSlots_kept | apply KeptN.next | apply KeptN.ite | apply Kept.ite)
    | split

theorem execUnderrunEnd_kept {m : Nat} (hm : 8192 &&& m = 8192) {s : State} {x_b : Bay} {x_s : State} (h_x_s : Kept m s x_s) : KeptN m s (execUnderrunEnd x_b x_s) := by
  unfold execUnderrunEnd
  repeat' first
    | (with_reducible first | assumption | exact Kept.refl _)
    | exact sub_trans (b := 8192) (by decide) hm
    | (with_reducible first | apply State.endUnderrun_kept | apply KeptN.next | apply KeptN.ite | apply Kept.ite)
    | split
    | (refine Kept.upd ?_ ?_)

theorem execUnderrunLogClear_kept {m : Nat} (hm : 401421 &&& m = 401421) {s : State} {x_b : Bay} {x_epoch : BitVec 16} {x_s : State} (h_x_s : Kept m s x_s) : KeptN m s (execUnderrunLogClear x_b x_epoch x_s) := by
  unfold execUnderrunLogClear
  repeat' first
    | (with_reducible first | assumption | exact Kept.refl _)
    | exact sub_trans (b := 401421) (by decide) hm
    | intro _
    | (with_reducible first | apply State.hostBay_kept | apply State.ok_kept | apply State.modBay_kept | apply KeptN.next | apply KeptN.ite)
    | (refine Kept.upd ?_ ?_)

end Sys2Proof.Machine
end

