-- ==== Sys2Proof/Laws/KeptMicrocode.lean ====
section
/-! SUPPORT. What the operations of Machine/Microcode.lean keep. -/

set_option linter.all false

namespace Sys2Proof.Machine

theorem State.once_kept {m : Nat} (hm : 8192 &&& m = 8192) {s : State} {x_s : State} {x_b : Bay} {x_bit : Nat} (x_k : State → State) (h_x_s : Kept m s x_s) (h_x_k : ∀ (v0 : State), Kept m s v0 → Kept m s (x_k v0)) : Kept m s (State.once x_s x_b x_bit x_k) := by
  unfold State.once
  repeat' first
    | (with_reducible first | assumption | exact Kept.refl _)
    | exact sub_trans (b := 8192) (by decide) hm
    | intro _
    | (with_reducible first | apply h_x_k | apply State.modBay_kept | apply Kept.ite)
    | split
    | (refine Kept.upd ?_ ?_)

theorem State.goTo_kept {m : Nat} (hm : 8200 &&& m = 8200) {s : State} {x_s : State} {x_b : Bay} {x_addr : Nat} (h_x_s : Kept m s x_s) : Kept m s (State.goTo x_s x_b x_addr) := by
  unfold State.goTo
  repeat' first
    | (with_reducible first | assumption | exact Kept.refl _)
    | exact sub_trans (b := 8200) (by decide) hm
    | intro _
    | (with_reducible first | apply State.modBay_kept | apply State.setB_kept)
    | (refine Kept.upd ?_ ?_)

theorem State.fetched_kept {m : Nat} (hm : 434188 &&& m = 434188) {s : State} {x_s : State} {x_b : Bay} {x_ecc : Ecc} (h_x_s : Kept m s x_s) : Kept m s (State.fetched x_s x_b x_ecc) := by
  unfold State.fetched
  repeat' first
    | (with_reducible first | assumption | exact Kept.refl _)
    | exact sub_trans (b := 434188) (by decide) hm
    | (intro x_1; refine (fun hx : Kept m s x_1 => ?_) ?_; (clear_value x_1); rotate_left; (unfold x_1))
    | (intro x_1; clear_value x_1)
    | intro _
    | (with_reducible first | apply State.modBay_kept | apply State.seqError_kept | apply State.fault_kept | apply State.setB_kept | apply State.incB_kept | apply State.flagB_kept | apply Kept.ite)
    | lift_lets -underBinder
    | split
    | dsimp only
    | (refine Kept.upd ?_ ?_)

theorem State.passTo_kept {m : Nat} (hm : 434188 &&& m = 434188) {s : State} {x_s : State} {x_b : Bay} {x_ecc : Ecc} {x_addr : Nat} (h_x_s : Kept m s x_s) : Kept m s (State.passTo x_s x_b x_ecc x_addr) := by
  unfold State.passTo
  repeat' first
    | (with_reducible first | assumption | exact Kept.refl _)
    | exact sub_trans (b := 434188) (by decide) hm
    | (with_reducible first | apply State.fetched_kept | apply State.goTo_kept)

theorem State.toNext_kept {m : Nat} (hm : 434188 &&& m = 434188) {s : State} {x_s : State} {x_b : Bay} (x_k : Nat → State) (h_x_s : Kept m s x_s) (h_x_k : ∀ (v0 : Nat), Kept m s (x_k v0)) : Kept m s (State.toNext x_s x_b x_k) := by
  unfold State.toNext
  repeat' first
    | (with_reducible first | assumption | exact Kept.refl _)
    | exact sub_trans (b := 434188) (by decide) hm
    | (intro x_1; refine (fun hx : Kept m s x_1 => ?_) ?_; (clear_value x_1); rotate_left; (unfold x_1))
    | (intro x_1; clear_value x_1)
    | intro _
    | (with_reducible first | apply h_x_k | apply State.seqError_kept | apply Kept.ite)
    | lift_lets -underBinder

theorem State.decided_kept {m : Nat} (hm : 434188 &&& m = 434188) {s : State} {x_s : State} {x_b : Bay} {x_ecc : Ecc} {x_addr : Nat} (h_x_s : Kept m s x_s) : Kept m s (State.decided x_s x_b x_ecc x_addr) := by
  unfold State.decided
  repeat' first
    | (with_reducible first | assumption | exact Kept.refl _)
    | exact sub_trans (b := 434188) (by decide) hm
    | intro _
    | (with_reducible first | apply State.passTo_kept | apply State.modBay_kept | exact KeptO.none | apply KeptO.some | apply KeptO.ite | apply Kept.ite)
    | (refine Kept.upd ?_ ?_)

theorem State.afterExtra_kept {m : Nat} (hm : 434188 &&& m = 434188) {s : State} {x_s : State} {x_b : Bay} (h_x_s : Kept m s x_s) : Kept m s (State.afterExtra x_s x_b) := by
  unfold State.afterExtra
  repeat' first
    | (with_reducible first | assumption | exact Kept.refl _)
    | exact sub_trans (b := 434188) (by decide) hm
    | (with_reducible first | apply State.passTo_kept | exact KeptO.none | apply KeptO.some | apply KeptO.ite | apply Kept.ite)
    | split
    | (refine Kept.upd ?_ ?_)

theorem State.passExtra_kept {m : Nat} (hm : 434188 &&& m = 434188) {s : State} {x_s : State} {x_b : Bay} {x_p : Bool} (h_x_s : Kept m s x_s) :
    Kept m s (State.passExtra x_s x_b x_p) := by
  unfold State.passExtra; split
  · exact h_x_s
  · exact State.afterExtra_kept hm h_x_s

theorem State.push_kept {m : Nat} (hm : 434188 &&& m = 434188) {s : State} {x_s : State} {x_b : Bay} (x_k : State → State) (h_x_s : Kept m s x_s) (h_x_k : ∀ (v0 : State), Kept m s v0 → Kept m s (x_k v0)) : Kept m s (State.push x_s x_b x_k) := by
  unfold State.push
  repeat' first
    | (with_reducible first | assumption | exact Kept.refl _)
    | exact sub_trans (b := 434188) (by decide) hm
    | intro _
    | (with_reducible first | apply h_x_k | apply State.seqError_kept | apply State.toNext_kept | apply State.modBay_kept | apply Kept.ite)
    | (refine Kept.upd ?_ ?_)

theorem State.popTo_kept {m : Nat} (hm : 434188 &&& m = 434188) {s : State} {x_s : State} {x_b : Bay} {x_ecc : Ecc} (h_x_s : Kept m s x_s) : Kept m s (State.popTo x_s x_b x_ecc) := by
  unfold State.popTo
  repeat' first
    | (with_reducible first | assumption | exact Kept.refl _)
    | exact sub_trans (b := 434188) (by decide) hm
    | intro _
    | (with_reducible first | apply State.seqError_kept | apply State.passTo_kept | apply State.modBay_kept)
    | split
    | (refine Kept.upd ?_ ?_)

theorem State.branch_kept {m : Nat} (hm : 8192 &&& m = 8192) {s : State} {x_s : State} {x_b : Bay} (x_k : Bool → State → State) (h_x_s : Kept m s x_s) (h_x_k : ∀ (v0 : Bool) (v1 : State), Kept m s v1 → Kept m s (x_k v0 v1)) : Kept m s (State.branch x_s x_b x_k) := by
  unfold State.branch
  repeat' first
    | (with_reducible first | assumption | exact Kept.refl _)
    | exact sub_trans (b := 8192) (by decide) hm
    | (intro x_1; refine (fun hx : Kept m s x_1 => ?_) ?_; (clear_value x_1); rotate_left; (unfold x_1))
    | (intro x_1; clear_value x_1)
    | intro _
    | (with_reducible first | apply h_x_k | apply State.clearLatch_kept)
    | lift_lets -underBinder
    | dsimp only

theorem State.dispatch_kept {m : Nat} (hm : 434188 &&& m = 434188) {s : State} {x_s : State} {x_b : Bay} {x_ecc : Ecc} (h_x_s : Kept m s x_s) : Kept m s (State.dispatch x_s x_b x_ecc) := by
  unfold State.dispatch
  repeat' first
    | (with_reducible first | assumption | exact Kept.refl _)
    | exact sub_trans (b := 434188) (by decide) hm
    | (intro x_1; refine (fun hx : Kept m s x_1 => ?_) ?_; (clear_value x_1); rotate_left; (unfold x_1))
    | (intro x_1; clear_value x_1)
    | intro _
    | (with_reducible first | apply State.passTo_kept | apply State.modBay_kept)
    | lift_lets -underBinder
    | (refine Kept.upd ?_ ?_)

theorem State.toVendor_kept {m : Nat} (hm : 8204 &&& m = 8204) {s : State} {x_s : State} {x_b : Bay} (h_x_s : Kept m s x_s) : Kept m s (State.toVendor x_s x_b) := by
  unfold State.toVendor
  repeat' first
    | (with_reducible first | assumption | exact Kept.refl _)
    | exact sub_trans (b := 8204) (by decide) hm
    | (with_reducible first | apply State.goTo_kept | apply State.free_kept | apply Kept.ite2)
    | dsimp only

theorem State.exit_kept {m : Nat} (hm : 434188 &&& m = 434188) {s : State} {x_s : State} {x_b : Bay} {x_ecc : Ecc} (h_x_s : Kept m s x_s) : Kept m s (State.exit x_s x_b x_ecc) := by
  unfold State.exit
  repeat' first
    | (with_reducible first | assumption | exact Kept.refl _)
    | exact sub_trans (b := 434188) (by decide) hm
    | intro _
    | (with_reducible first | apply State.fetched_kept | apply State.toVendor_kept | apply State.modBay_kept | apply State.seqError_kept | apply Kept.ite)
    | split
    | (refine Kept.upd ?_ ?_)

theorem State.beginCycle_kept {m : Nat} (hm : 8192 &&& m = 8192) {s : State} {x_s : State} {x_b : Bay} (h_x_s : Kept m s x_s) : Kept m s (State.beginCycle x_s x_b) := by
  unfold State.beginCycle
  repeat' first
    | (with_reducible first | assumption | exact Kept.refl _)
    | exact sub_trans (b := 8192) (by decide) hm
    | intro _
    | (with_reducible first | apply State.modBay_kept | apply Kept.ite)
    | split
    | (refine Kept.upd ?_ ?_)

theorem State.waitCount_kept {m : Nat} (hm : 8 &&& m = 8) {s : State} {x_s : State} {x_b : Bay} (h_x_s : Kept m s x_s) : Kept m s (State.waitCount x_s x_b) := by
  unfold State.waitCount
  repeat' first
    | (with_reducible first | assumption | exact Kept.refl _)
    | exact sub_trans (b := 8) (by decide) hm
    | (intro x_1; refine (fun hx : Kept m s x_1 => ?_) ?_; (clear_value x_1); rotate_left; (unfold x_1))
    | (intro x_1; clear_value x_1)
    | intro _
    | (with_reducible first | apply State.setB_kept | apply Kept.ite)
    | lift_lets -underBinder

theorem State.endCycle_kept {m : Nat} (hm : 25096 &&& m = 25096) {s : State} {x_s : State} {x_b : Bay} (h_x_s : Kept m s x_s) : Kept m s (State.endCycle x_s x_b) := by
  unfold State.endCycle
  repeat' first
    | (with_reducible first | assumption | exact Kept.refl _)
    | exact sub_trans (b := 25096) (by decide) hm
    | (intro x_1; refine (fun hx : Kept m s x_1 => ?_) ?_; (clear_value x_1); rotate_left; (unfold x_1))
    | (intro x_1; clear_value x_1)
    | intro _
    | (with_reducible first | apply State.driveSite_kept | apply State.registerDue_kept | apply State.waitCount_kept | apply State.modBay_kept | apply Kept.ite)
    | lift_lets -underBinder
    | split
    | dsimp only
    | (refine Kept.upd ?_ ?_)

theorem State.issueRow_kept {m : Nat} (hm : 417804 &&& m = 417804) {s : State} {x_s : State} {x_b : Bay} (h_x_s : Kept m s x_s) : Kept m s (State.issueRow x_s x_b) := by
  unfold State.issueRow
  repeat' first
    | (with_reducible first | assumption | exact Kept.refl _)
    | exact sub_trans (b := 417804) (by decide) hm
    | (intro x_1; refine (fun hx : Kept m s x_1 => ?_) ?_; (clear_value x_1); rotate_left; (unfold x_1))
    | (intro x_1; clear_value x_1)
    | intro _
    | (with_reducible first | apply State.occur_kept | apply State.issueVec_kept | apply State.setB_kept | apply State.modBay_kept | exact KeptO.none | apply KeptO.some | apply KeptO.ite | apply Kept.ite)
    | lift_lets -underBinder
    | (refine Kept.upd ?_ ?_)

theorem State.issuePad_kept {m : Nat} (hm : 417804 &&& m = 417804) {s : State} {x_s : State} {x_b : Bay} (h_x_s : Kept m s x_s) : Kept m s (State.issuePad x_s x_b) := by
  unfold State.issuePad
  repeat' first
    | (with_reducible first | assumption | exact Kept.refl _)
    | exact sub_trans (b := 417804) (by decide) hm
    | (intro x_1; refine (fun hx : Kept m s x_1 => ?_) ?_; (clear_value x_1); rotate_left; (unfold x_1))
    | (intro x_1; clear_value x_1)
    | intro _
    | (with_reducible first | apply State.issueVec_kept | apply State.modBay_kept | apply Kept.ite)
    | lift_lets -underBinder
    | (refine Kept.upd ?_ ?_)

theorem State.issueSlots_kept {m : Nat} {s : State} {x_b : Bay} (x_slot : State → Option State) {x_a2 : Nat} {x_a3 : State} (h_x_slot : ∀ (v0 : State), Kept m s v0 → KeptO m s (x_slot v0)) (h_x_a3 : Kept m s x_a3) : Kept m s (State.issueSlots x_b x_slot x_a2 x_a3) := by
  induction x_a2 generalizing x_b x_slot x_a3 with
  | zero =>
    unfold State.issueSlots
    repeat' first
      | (with_reducible first | assumption | exact Kept.refl _ | apply h_x_slot | refine (h_x_slot _ ?_).out (by assumption) | exact KeptO.none | apply KeptO.some | apply KeptO.ite | apply Kept.ite)
      | split
      | (refine Kept.upd ?_ ?_)
      | (dsimp only)
  | succ k ih =>
    unfold State.issueSlots
    repeat' first
      | with_reducible apply ih
      | (with_reducible first | assumption | exact Kept.refl _ | apply h_x_slot | refine (h_x_slot _ ?_).out (by assumption) | exact KeptO.none | apply KeptO.some | apply KeptO.ite | apply Kept.ite)
      | split
      | (refine Kept.upd ?_ ?_)
      | (dsimp only)

theorem State.cycle_kept {m : Nat} (hm : 451084 &&& m = 451084) {s : State} {x_s : State} {x_b : Bay} (x_slot : State → Option State) (h_x_s : Kept m s x_s) (h_x_slot : ∀ (v0 : State), Kept m s v0 → KeptO m s (x_slot v0)) : Kept m s (State.cycle x_s x_b x_slot) := by
  unfold State.cycle
  repeat' first
    | (with_reducible first | assumption | exact Kept.refl _)
    | exact sub_trans (b := 451084) (by decide) hm
    | (with_reducible first | apply h_x_slot | refine (h_x_slot _ ?_).out (by assumption) | apply State.passExtra_kept | apply State.endCycle_kept | apply State.issueSlots_kept | apply State.beginCycle_kept)

theorem State.emitSlot_kept {m : Nat} (hm : 450572 &&& m = 450572) {s : State} {x_s : State} {x_b : Bay} (h_x_s : Kept m s x_s) : KeptO m s (State.emitSlot x_s x_b) := by
  unfold State.emitSlot
  repeat' first
    | (with_reducible first | assumption | exact Kept.refl _)
    | exact sub_trans (b := 450572) (by decide) hm
    | (intro x_1; refine (fun hx : Kept m s x_1 => ?_) ?_; (clear_value x_1); rotate_left; (unfold x_1))
    | (intro x_1; clear_value x_1)
    | intro _
    | (with_reducible first | apply State.issueVec_kept | apply State.seqError_kept | apply State.issueRow_kept | exact KeptO.none | apply KeptO.some | apply KeptO.ite | apply Kept.ite)
    | lift_lets -underBinder
    | split
    | dsimp only

theorem State.padSlot_kept {m : Nat} (hm : 417804 &&& m = 417804) {s : State} {x_s : State} {x_b : Bay} (h_x_s : Kept m s x_s) : KeptO m s (State.padSlot x_s x_b) := by
  unfold State.padSlot
  repeat' first
    | (with_reducible first | assumption | exact Kept.refl _)
    | exact sub_trans (b := 417804) (by decide) hm
    | (with_reducible first | apply State.issuePad_kept | exact KeptO.none | apply KeptO.some | apply KeptO.ite | apply Kept.ite)

theorem State.setCnt_kept {m : Nat} (hm : 8 &&& m = 8) {s : State} {x_s : State} {x_b : Bay} {x_n : Fin 4} {x_v : Nat} (h_x_s : Kept m s x_s) : Kept m s (State.setCnt x_s x_b x_n x_v) := by
  unfold State.setCnt
  repeat' first
    | (with_reducible first | assumption | exact Kept.refl _)
    | exact sub_trans (b := 8) (by decide) hm
    | with_reducible apply State.setB_kept

theorem State.cntCycle_kept {m : Nat} (hm : 8200 &&& m = 8200) {s : State} {x_s : State} {x_b : Bay} {x_n : Fin 4} {x_op : Nat} {x_v : Nat} (h_x_s : Kept m s x_s) : Kept m s (State.cntCycle x_s x_b x_n x_op x_v) := by
  unfold State.cntCycle
  repeat' first
    | (with_reducible first | assumption | exact Kept.refl _)
    | exact sub_trans (b := 8200) (by decide) hm
    | intro _
    | (with_reducible first | apply State.setCnt_kept | apply State.modBay_kept | apply Kept.ite)
    | split
    | (refine Kept.upd ?_ ?_)

theorem State.cntOnce_kept {m : Nat} (hm : 8200 &&& m = 8200) {s : State} {x_s : State} {x_b : Bay} {x_n : Fin 4} {x_op : Nat} {x_p : Nat → Bool} {x_v : Nat} (h_x_s : Kept m s x_s) : Kept m s (State.cntOnce x_s x_b x_n x_op x_p x_v) := by
  unfold State.cntOnce
  repeat' first
    | (with_reducible first | assumption | exact Kept.refl _)
    | exact sub_trans (b := 8200) (by decide) hm
    | intro _
    | (with_reducible first | apply State.once_kept | apply State.setCnt_kept | apply Kept.ite)

theorem State.shgJump_kept {m : Nat} (hm : 8200 &&& m = 8200) {s : State} {x_s : State} {x_b : Bay} (h_x_s : Kept m s x_s) : Kept m s (State.shgJump x_s x_b) := by
  unfold State.shgJump
  repeat' first
    | (with_reducible first | assumption | exact Kept.refl _)
    | exact sub_trans (b := 8200) (by decide) hm
    | (intro x_1; refine (fun hx : Kept m s x_1 => ?_) ?_; (clear_value x_1); rotate_left; (unfold x_1))
    | (intro x_1; clear_value x_1)
    | intro _
    | (with_reducible first | apply State.postJump_kept | apply State.dropJumps_kept | apply State.flagB_kept | apply Kept.ite)
    | lift_lets -underBinder

theorem State.rewind_kept {m : Nat} (hm : 434188 &&& m = 434188) {s : State} {x_s : State} {x_b : Bay} (h_x_s : Kept m s x_s) : Kept m s (State.rewind x_s x_b) := by
  unfold State.rewind
  repeat' first
    | (with_reducible first | assumption | exact Kept.refl _)
    | exact sub_trans (b := 434188) (by decide) hm
    | intro _
    | (with_reducible first | apply State.seqError_kept | apply State.modBay_kept | apply Kept.ite)
    | (refine Kept.upd ?_ ?_)

theorem State.retireSoon_kept {m : Nat} (hm : 8192 &&& m = 8192) {s : State} {x_s : State} {x_b : Bay} {x_mask : Nat} (h_x_s : Kept m s x_s) : Kept m s (State.retireSoon x_s x_b x_mask) := by
  unfold State.retireSoon
  repeat' first
    | (with_reducible first | assumption | exact Kept.refl _)
    | exact sub_trans (b := 8192) (by decide) hm
    | intro _
    | (with_reducible first | apply State.modBay_kept | apply Kept.ite)
    | split
    | (refine Kept.upd ?_ ?_)

theorem State.objWrite_kept {m : Nat} (hm : 8200 &&& m = 8200) {s : State} {x_s : State} {x_b : Bay} {x_n : Nat} {x_imm : Nat} (h_x_s : Kept m s x_s) : Kept m s (State.objWrite x_s x_b x_n x_imm) := by
  unfold State.objWrite
  repeat' first
    | (with_reducible first | assumption | exact Kept.refl _)
    | exact sub_trans (b := 8200) (by decide) hm
    | (intro x_1; refine (fun hx : Kept m s x_1 => ?_) ?_; (clear_value x_1); rotate_left; (unfold x_1))
    | (intro x_1; clear_value x_1)
    | intro _
    | (with_reducible first | apply State.incB_kept | apply State.flagB_kept | apply State.modBay_kept | apply Kept.ite)
    | lift_lets -underBinder
    | (refine Kept.upd ?_ ?_)

theorem State.ridgePort_kept {m : Nat} (hm : 8192 &&& m = 8192) {s : State} {x_s : State} {x_b : Bay} {x_port : Fin 2} {x_op : Nat} (x_k : State → Nat → State) (h_x_s : Kept m s x_s) (h_x_k : ∀ (v0 : State) (v1 : Nat), Kept m s v0 → Kept m s (x_k v0 v1)) : Kept m s (State.ridgePort x_s x_b x_port x_op x_k) := by
  unfold State.ridgePort
  repeat' first
    | (with_reducible first | assumption | exact Kept.refl _)
    | exact sub_trans (b := 8192) (by decide) hm
    | (intro x_1; refine (fun hx : Kept m s x_1 => ?_) ?_; (clear_value x_1); rotate_left; (unfold x_1))
    | (intro x_1; clear_value x_1)
    | intro _
    | (with_reducible first | apply h_x_k | apply State.once_kept | apply Kept.ite)
    | lift_lets -underBinder

theorem State.pickLevels_kept {m : Nat} (hm : 8 &&& m = 8) {s : State} {x_s : State} {x_b : Bay} (h_x_s : Kept m s x_s) : Kept m s (State.pickLevels x_s x_b) := by
  unfold State.pickLevels
  repeat' first
    | (with_reducible first | assumption | exact Kept.refl _)
    | exact sub_trans (b := 8) (by decide) hm
    | (with_reducible first | apply State.selectLevels_kept)

theorem State.lvlSel_kept {m : Nat} (hm : 8200 &&& m = 8200) {s : State} {x_s : State} {x_b : Bay} (h_x_s : Kept m s x_s) : Kept m s (State.lvlSel x_s x_b) := by
  unfold State.lvlSel
  repeat' first
    | (with_reducible first | assumption | exact Kept.refl _)
    | exact sub_trans (b := 8200) (by decide) hm
    | intro _
    | (with_reducible first | apply State.once_kept | apply State.pickLevels_kept | apply Kept.ite)
    | split

theorem State.startLoadTimer_kept {m : Nat} (hm : 8192 &&& m = 8192) {s : State} {x_s : State} {x_b : Bay} (h_x_s : Kept m s x_s) : Kept m s (State.startLoadTimer x_s x_b) := by
  unfold State.startLoadTimer
  repeat' first
    | (with_reducible first | assumption | exact Kept.refl _)
    | exact sub_trans (b := 8192) (by decide) hm
    | (intro x_1; refine (fun hx : Kept m s x_1 => ?_) ?_; (clear_value x_1); rotate_left; (unfold x_1))
    | (intro x_1; clear_value x_1)
    | intro _
    | (with_reducible first | apply State.modBay_kept | exact KeptO.none | apply KeptO.some | apply KeptO.ite | apply Kept.ite)
    | lift_lets -underBinder
    | (refine Kept.upd ?_ ?_)

theorem State.writeBank_kept {m : Nat} (hm : 8224 &&& m = 8224) {s : State} {x_s : State} {x_b : Bay} {x_image : Bytes} {x_n : Nat} (h_x_s : Kept m s x_s) : Kept m s (State.writeBank x_s x_b x_image x_n) := by
  unfold State.writeBank
  repeat' first
    | (with_reducible first | assumption | exact Kept.refl _)
    | exact sub_trans (b := 8224) (by decide) hm
    | (intro x_1; refine (fun hx : Kept m s x_1 => ?_) ?_; (clear_value x_1); rotate_left; (unfold x_1))
    | (intro x_1; clear_value x_1)
    | (intro p; cases p <;> first | exact Or.inl (bit_of (a := 8224) hm rfl) | exact Or.inr rfl)
    | intro _
    | (with_reducible first | apply State.each_kept | apply State.modBay_kept)
    | lift_lets -underBinder
    | dsimp only
    | (refine Kept.upd ?_ ?_)

theorem State.detachTypes_kept {m : Nat} (hm : 8 &&& m = 8) {s : State} {x_s : State} {x_b : Bay} (h_x_s : Kept m s x_s) : Kept m s (State.detachTypes x_s x_b) := by
  unfold State.detachTypes
  repeat' first
    | (with_reducible first | assumption | exact Kept.refl _)
    | exact sub_trans (b := 8) (by decide) hm
    | intro _
    | (with_reducible first | apply State.each_kept | apply State.setB_kept)

theorem State.cutLoad_kept {m : Nat} (hm : 8232 &&& m = 8232) {s : State} {x_s : State} {x_b : Bay} {x_image : Bytes} {x_n : Nat} (h_x_s : Kept m s x_s) : Kept m s (State.cutLoad x_s x_b x_image x_n) := by
  unfold State.cutLoad
  repeat' first
    | (with_reducible first | assumption | exact Kept.refl _)
    | exact sub_trans (b := 8232) (by decide) hm
    | (intro x_1; refine (fun hx : Kept m s x_1 => ?_) ?_; (clear_value x_1); rotate_left; (unfold x_1))
    | (intro x_1; clear_value x_1)
    | intro _
    | (with_reducible first | apply State.modBay_kept | apply State.writeBank_kept | apply State.detachTypes_kept | apply State.setB_kept)
    | lift_lets -underBinder
    | (refine Kept.upd ?_ ?_)

theorem State.doneLoad_kept {m : Nat} (hm : 8232 &&& m = 8232) {s : State} {x_s : State} {x_b : Bay} {x_image : Bytes} (h_x_s : Kept m s x_s) : Kept m s (State.doneLoad x_s x_b x_image) := by
  unfold State.doneLoad
  repeat' first
    | (with_reducible first | assumption | exact Kept.refl _)
    | exact sub_trans (b := 8232) (by decide) hm
    | (intro x_1; refine (fun hx : Kept m s x_1 => ?_) ?_; (clear_value x_1); rotate_left; (unfold x_1))
    | (intro x_1; clear_value x_1)
    | intro _
    | (with_reducible first | apply State.modBay_kept | apply State.writeBank_kept | apply State.detachTypes_kept | apply State.each_kept | apply State.setB_kept | apply Kept.ite)
    | lift_lets -underBinder
    | (refine Kept.upd ?_ ?_)

theorem State.failLoad_kept {m : Nat} (hm : 8201 &&& m = 8201) {s : State} {x_s : State} {x_b : Bay} {x_status : Nat} {x_detail : Nat} {x_dop : Nat} (h_x_s : Kept m s x_s) : Kept m s (State.failLoad x_s x_b x_status x_detail x_dop) := by
  unfold State.failLoad
  repeat' first
    | (with_reducible first | assumption | exact Kept.refl _)
    | exact sub_trans (b := 8201) (by decide) hm
    | intro _
    | (with_reducible first | apply State.answer_kept | apply State.setB_kept | apply State.modBay_kept)
    | (refine Kept.upd ?_ ?_)

theorem State.bankImage_kept {m : Nat} (hm : 8201 &&& m = 8201) {s : State} {x_s : State} {x_b : Bay} {x_image : Bytes} (h_x_s : Kept m s x_s) : Kept m s (State.bankImage x_s x_b x_image) := by
  unfold State.bankImage
  repeat' first
    | (with_reducible first | assumption | exact Kept.refl _)
    | exact sub_trans (b := 8201) (by decide) hm
    | intro _
    | (with_reducible first | apply State.answer_kept | apply State.ok_kept | apply State.setB_kept | apply State.modBay_kept | exact KeptO.none | apply KeptO.some | apply KeptO.ite | apply Kept.ite)
    | (refine Kept.upd ?_ ?_)

theorem State.verifyEnds_kept {m : Nat} (hm : 8201 &&& m = 8201) {s : State} {x_s : State} {x_b : Bay} {x_image : Bytes} {x_sigOk : Bool} (h_x_s : Kept m s x_s) : Kept m s (State.verifyEnds x_s x_b x_image x_sigOk) := by
  unfold State.verifyEnds
  repeat' first
    | (with_reducible first | assumption | exact Kept.refl _)
    | exact sub_trans (b := 8201) (by decide) hm
    | (with_reducible first | apply State.setB_kept | apply State.failLoad_kept | apply Kept.ite)
    | split

theorem State.checkEnds_kept {m : Nat} (hm : 8201 &&& m = 8201) {s : State} {x_s : State} {x_b : Bay} {x_image : Bytes} (h_x_s : Kept m s x_s) : Kept m s (State.checkEnds x_s x_b x_image) := by
  unfold State.checkEnds
  repeat' first
    | (with_reducible first | assumption | exact Kept.refl _)
    | exact sub_trans (b := 8201) (by decide) hm
    | intro _
    | (with_reducible first | apply State.failLoad_kept | apply State.setB_kept | apply State.detachTypes_kept)
    | split
    | (refine Kept.upd ?_ ?_)

theorem State.writeEnds_kept {m : Nat} (hm : 8237 &&& m = 8237) {s : State} {x_s : State} {x_b : Bay} {x_image : Bytes} {x_readbackOk : Bool} (h_x_s : Kept m s x_s) : Kept m s (State.writeEnds x_s x_b x_image x_readbackOk) := by
  unfold State.writeEnds
  repeat' first
    | (with_reducible first | assumption | exact Kept.refl _)
    | exact sub_trans (b := 8237) (by decide) hm
    | (with_reducible first | apply State.ok_kept | apply State.doneLoad_kept | apply State.cutLoad_kept | apply State.free_kept | apply Kept.ite | apply Kept.ite1 | apply Kept.ite2)
    | split
    | dsimp only

theorem State.bankLoaded_kept {m : Nat} (hm : 8237 &&& m = 8237) {s : State} {x_s : State} {x_b : Bay} {x_sigOk : Bool} {x_readbackOk : Bool} (h_x_s : Kept m s x_s) : Kept m s (State.bankLoaded x_s x_b x_sigOk x_readbackOk) := by
  unfold State.bankLoaded
  repeat' first
    | (with_reducible first | assumption | exact Kept.refl _)
    | exact sub_trans (b := 8237) (by decide) hm
    | intro _
    | (with_reducible first | apply State.verifyEnds_kept | apply State.checkEnds_kept | apply State.writeEnds_kept | apply Kept.ite)
    | split
    | (refine Kept.upd ?_ ?_)

theorem State.cutByOff_kept {m : Nat} (hm : 8236 &&& m = 8236) {s : State} {x_s : State} {x_b : Bay} (h_x_s : Kept m s x_s) : Kept m s (State.cutByOff x_s x_b) := by
  unfold State.cutByOff
  repeat' first
    | (with_reducible first | assumption | exact Kept.refl _)
    | exact sub_trans (b := 8236) (by decide) hm
    | intro _
    | (with_reducible first | apply State.cutLoad_kept | apply State.free_kept | apply State.setB_kept | apply State.modBay_kept | apply Kept.ite | apply Kept.ite1 | apply Kept.ite2)
    | split
    | dsimp only
    | (refine Kept.upd ?_ ?_)

theorem State.customEntry_kept {m : Nat} (hm : 9 &&& m = 9) {s : State} {x_s : State} {x_b : Bay} {x_type : Nat} {x_value : Nat} (h_x_s : Kept m s x_s) : Kept m s (State.customEntry x_s x_b x_type x_value) := by
  unfold State.customEntry
  repeat' first
    | (with_reducible first | assumption | exact Kept.refl _)
    | exact sub_trans (b := 9) (by decide) hm
    | (intro x_1; refine (fun hx : Kept m s x_1 => ?_) ?_; (clear_value x_1); rotate_left; (unfold x_1))
    | (intro x_1; clear_value x_1)
    | intro _
    | (with_reducible first | apply State.answer_kept | apply State.ok_kept | apply State.setB_kept | apply Kept.ite)
    | lift_lets -underBinder

theorem State.vendorReload_kept {m : Nat} (hm : 8200 &&& m = 8200) {s : State} {x_s : State} {x_b : Bay} (h_x_s : Kept m s x_s) : Kept m s (State.vendorReload x_s x_b) := by
  unfold State.vendorReload
  repeat' first
    | (with_reducible first | assumption | exact Kept.refl _)
    | exact sub_trans (b := 8200) (by decide) hm
    | intro _
    | (with_reducible first | apply State.modBay_kept | apply State.setB_kept | apply Kept.ite)
    | split
    | (refine Kept.upd ?_ ?_)

theorem execSeqJump_kept {m : Nat} (hm : 434188 &&& m = 434188) {s : State} {x_b : Bay} {x_ecc : Ecc} {x_s : State} (h_x_s : Kept m s x_s) : KeptN m s (execSeqJump x_b x_ecc x_s) := by
  unfold execSeqJump
  repeat' first
    | (with_reducible first | assumption | exact Kept.refl _)
    | exact sub_trans (b := 434188) (by decide) hm
    | (with_reducible first | apply State.passTo_kept | apply KeptN.next | apply KeptN.ite | apply Kept.ite)

theorem execSeqIf_kept {m : Nat} (hm : 434188 &&& m = 434188) {s : State} {x_b : Bay} {x_ecc : Ecc} {x_s : State} (h_x_s : Kept m s x_s) : KeptN m s (execSeqIf x_b x_ecc x_s) := by
  unfold execSeqIf
  repeat' first
    | (with_reducible first | assumption | exact Kept.refl _)
    | exact sub_trans (b := 434188) (by decide) hm
    | intro _
    | (with_reducible first | apply State.branch_kept | apply State.decided_kept | apply State.toNext_kept | apply KeptN.next | apply KeptN.ite | apply Kept.ite)

theorem execSeqIfnot_kept {m : Nat} (hm : 434188 &&& m = 434188) {s : State} {x_b : Bay} {x_ecc : Ecc} {x_s : State} (h_x_s : Kept m s x_s) : KeptN m s (execSeqIfnot x_b x_ecc x_s) := by
  unfold execSeqIfnot
  repeat' first
    | (with_reducible first | assumption | exact Kept.refl _)
    | exact sub_trans (b := 434188) (by decide) hm
    | intro _
    | (with_reducible first | apply State.branch_kept | apply State.toNext_kept | apply State.decided_kept | apply KeptN.next | apply KeptN.ite | apply Kept.ite)

theorem execSeqCall_kept {m : Nat} (hm : 434188 &&& m = 434188) {s : State} {x_b : Bay} {x_ecc : Ecc} {x_s : State} (h_x_s : Kept m s x_s) : KeptN m s (execSeqCall x_b x_ecc x_s) := by
  unfold execSeqCall
  repeat' first
    | (with_reducible first | assumption | exact Kept.refl _)
    | exact sub_trans (b := 434188) (by decide) hm
    | intro _
    | (with_reducible first | apply State.push_kept | apply State.passTo_kept | apply KeptN.next | apply KeptN.ite | apply Kept.ite)

theorem execSeqCallIf_kept {m : Nat} (hm : 434188 &&& m = 434188) {s : State} {x_b : Bay} {x_ecc : Ecc} {x_s : State} (h_x_s : Kept m s x_s) : KeptN m s (execSeqCallIf x_b x_ecc x_s) := by
  unfold execSeqCallIf
  repeat' first
    | (with_reducible first | assumption | exact Kept.refl _)
    | exact sub_trans (b := 434188) (by decide) hm
    | intro _
    | (with_reducible first | apply State.branch_kept | apply State.push_kept | apply State.decided_kept | apply State.toNext_kept | apply KeptN.next | apply KeptN.ite | apply Kept.ite)

theorem execSeqReturn_kept {m : Nat} (hm : 434188 &&& m = 434188) {s : State} {x_b : Bay} {x_ecc : Ecc} {x_s : State} (h_x_s : Kept m s x_s) : KeptN m s (execSeqReturn x_b x_ecc x_s) := by
  unfold execSeqReturn
  repeat' first
    | (with_reducible first | assumption | exact Kept.refl _)
    | exact sub_trans (b := 434188) (by decide) hm
    | (with_reducible first | apply State.popTo_kept | apply KeptN.next | apply KeptN.ite | apply Kept.ite)

theorem execSeqExit_kept {m : Nat} (hm : 434188 &&& m = 434188) {s : State} {x_b : Bay} {x_ecc : Ecc} {x_s : State} (h_x_s : Kept m s x_s) : KeptN m s (execSeqExit x_b x_ecc x_s) := by
  unfold execSeqExit
  repeat' first
    | (with_reducible first | assumption | exact Kept.refl _)
    | exact sub_trans (b := 434188) (by decide) hm
    | intro _
    | (with_reducible first | apply State.exit_kept | apply KeptN.next | apply KeptN.ite | apply Kept.ite)
    | split

theorem execSeqDispatch_kept {m : Nat} (hm : 434188 &&& m = 434188) {s : State} {x_b : Bay} {x_ecc : Ecc} {x_s : State} (h_x_s : Kept m s x_s) : KeptN m s (execSeqDispatch x_b x_ecc x_s) := by
  unfold execSeqDispatch
  repeat' first
    | (with_reducible first | assumption | exact Kept.refl _)
    | exact sub_trans (b := 434188) (by decide) hm
    | intro _
    | (with_reducible first | apply State.dispatch_kept | apply State.fetched_kept | apply State.toVendor_kept | apply State.modBay_kept | apply KeptN.next | apply KeptN.ite | apply Kept.ite)
    | (refine Kept.upd ?_ ?_)

theorem execWaitRelease_kept {m : Nat} (hm : 434188 &&& m = 434188) {s : State} {x_b : Bay} {x_ecc : Ecc} {x_s : State} (h_x_s : Kept m s x_s) : KeptN m s (execWaitRelease x_b x_ecc x_s) := by
  unfold execWaitRelease
  repeat' first
    | (with_reducible first | assumption | exact Kept.refl _)
    | exact sub_trans (b := 434188) (by decide) hm
    | (intro x_1; refine (fun hx : Kept m s x_1 => ?_) ?_; (clear_value x_1); rotate_left; (unfold x_1))
    | (intro x_1; clear_value x_1)
    | intro _
    | (with_reducible first | apply State.modBay_kept | apply State.clearLatch_kept | apply State.toNext_kept | apply State.decided_kept | apply KeptN.next | apply KeptN.ite | apply Kept.ite)
    | lift_lets -underBinder
    | split
    | dsimp only
    | (refine Kept.upd ?_ ?_)

theorem execWaitTimeout_kept {m : Nat} (hm : 434188 &&& m = 434188) {s : State} {x_b : Bay} {x_ecc : Ecc} {x_s : State} (h_x_s : Kept m s x_s) : KeptN m s (execWaitTimeout x_b x_ecc x_s) := by
  unfold execWaitTimeout
  repeat' first
    | (with_reducible first | assumption | exact Kept.refl _)
    | exact sub_trans (b := 434188) (by decide) hm
    | intro _
    | (with_reducible first | apply State.passTo_kept | apply State.modBay_kept | apply KeptN.next | apply KeptN.ite | apply Kept.ite)
    | split
    | (refine Kept.upd ?_ ?_)

theorem execVecEmit_kept {m : Nat} (hm : 451084 &&& m = 451084) {s : State} {x_b : Bay} {x_s : State} (h_x_s : Kept m s x_s) : KeptN m s (execVecEmit x_b x_s) := by
  unfold execVecEmit
  repeat' first
    | (with_reducible first | assumption | exact Kept.refl _)
    | exact sub_trans (b := 451084) (by decide) hm
    | intro _
    | (with_reducible first | apply State.cycle_kept | apply State.emitSlot_kept | refine (State.emitSlot_kept ?_ ?_).out (by assumption) | apply KeptN.next | apply KeptN.ite | apply Kept.ite)

theorem execVecPad_kept {m : Nat} (hm : 451084 &&& m = 451084) {s : State} {x_b : Bay} {x_s : State} (h_x_s : Kept m s x_s) : KeptN m s (execVecPad x_b x_s) := by
  unfold execVecPad
  repeat' first
    | (with_reducible first | assumption | exact Kept.refl _)
    | exact sub_trans (b := 451084) (by decide) hm
    | intro _
    | (with_reducible first | apply State.cycle_kept | apply State.padSlot_kept | refine (State.padSlot_kept ?_ ?_).out (by assumption) | apply State.issueVec_kept | exact KeptO.none | apply KeptO.some | apply KeptO.ite | apply KeptN.next | apply KeptN.ite | apply Kept.ite)

theorem execVecHold_kept {m : Nat} (hm : 451084 &&& m = 451084) {s : State} {x_b : Bay} {x_s : State} (h_x_s : Kept m s x_s) : KeptN m s (execVecHold x_b x_s) := by
  unfold execVecHold
  repeat' first
    | (with_reducible first | assumption | exact Kept.refl _)
    | exact sub_trans (b := 451084) (by decide) hm
    | intro _
    | (with_reducible first | apply State.cycle_kept | apply State.issueVec_kept | exact KeptO.none | apply KeptO.some | apply KeptO.ite | apply KeptN.next | apply KeptN.ite | apply Kept.ite)

theorem execVecMute_kept {m : Nat} (hm : 451084 &&& m = 451084) {s : State} {x_b : Bay} {x_s : State} (h_x_s : Kept m s x_s) : KeptN m s (execVecMute x_b x_s) := by
  unfold execVecMute
  repeat' first
    | (with_reducible first | assumption | exact Kept.refl _)
    | exact sub_trans (b := 451084) (by decide) hm
    | intro _
    | (with_reducible first | apply State.cycle_kept | apply State.issueVec_kept | exact KeptO.none | apply KeptO.some | apply KeptO.ite | apply KeptN.next | apply KeptN.ite | apply Kept.ite)

theorem execPrdSel_kept {m : Nat} (hm : 8192 &&& m = 8192) {s : State} {x_b : Bay} {x_s : State} (h_x_s : Kept m s x_s) : KeptN m s (execPrdSel x_b x_s) := by
  unfold execPrdSel
  repeat' first
    | (with_reducible first | assumption | exact Kept.refl _)
    | exact sub_trans (b := 8192) (by decide) hm
    | intro _
    | (with_reducible first | apply State.modBay_kept | exact KeptO.none | apply KeptO.some | apply KeptO.ite | apply KeptN.next | apply KeptN.ite | apply Kept.ite)
    | (refine Kept.upd ?_ ?_)

theorem execLvlSel_kept {m : Nat} (hm : 8200 &&& m = 8200) {s : State} {x_b : Bay} {x_s : State} (h_x_s : Kept m s x_s) : KeptN m s (execLvlSel x_b x_s) := by
  unfold execLvlSel
  repeat' first
    | (with_reducible first | assumption | exact Kept.refl _)
    | exact sub_trans (b := 8200) (by decide) hm
    | intro _
    | (with_reducible first | apply State.once_kept | apply State.pickLevels_kept | apply KeptN.next | apply KeptN.ite | apply Kept.ite)
    | split

theorem execMatchEnable_kept {m : Nat} (hm : 8192 &&& m = 8192) {s : State} {x_b : Bay} {x_s : State} (h_x_s : Kept m s x_s) : KeptN m s (execMatchEnable x_b x_s) := by
  unfold execMatchEnable
  repeat' first
    | (with_reducible first | assumption | exact Kept.refl _)
    | exact sub_trans (b := 8192) (by decide) hm
    | intro _
    | (with_reducible first | apply State.modBay_kept | exact KeptO.none | apply KeptO.some | apply KeptO.ite | apply KeptN.next | apply KeptN.ite | apply Kept.ite)
    | (refine Kept.upd ?_ ?_)

theorem execShgJumpReq_kept {m : Nat} (hm : 8200 &&& m = 8200) {s : State} {x_b : Bay} {x_s : State} (h_x_s : Kept m s x_s) : KeptN m s (execShgJumpReq x_b x_s) := by
  unfold execShgJumpReq
  repeat' first
    | (with_reducible first | assumption | exact Kept.refl _)
    | exact sub_trans (b := 8200) (by decide) hm
    | intro _
    | (with_reducible first | apply State.once_kept | apply State.shgJump_kept | apply KeptN.next | apply KeptN.ite | apply Kept.ite)

theorem execShgPause_kept {m : Nat} (hm : 8192 &&& m = 8192) {s : State} {x_b : Bay} {x_s : State} (h_x_s : Kept m s x_s) : KeptN m s (execShgPause x_b x_s) := by
  unfold execShgPause
  repeat' first
    | (with_reducible first | assumption | exact Kept.refl _)
    | exact sub_trans (b := 8192) (by decide) hm
    | intro _
    | (with_reducible first | apply State.once_kept | apply State.modBay_kept | apply KeptN.next | apply KeptN.ite | apply Kept.ite)
    | (refine Kept.upd ?_ ?_)

theorem execShgStop_kept {m : Nat} (hm : 8192 &&& m = 8192) {s : State} {x_b : Bay} {x_s : State} (h_x_s : Kept m s x_s) : KeptN m s (execShgStop x_b x_s) := by
  unfold execShgStop
  repeat' first
    | (with_reducible first | assumption | exact Kept.refl _)
    | exact sub_trans (b := 8192) (by decide) hm
    | intro _
    | (with_reducible first | apply State.once_kept | apply State.modBay_kept | apply KeptN.next | apply KeptN.ite | apply Kept.ite)
    | (refine Kept.upd ?_ ?_)

theorem execShgRewind_kept {m : Nat} (hm : 434188 &&& m = 434188) {s : State} {x_b : Bay} {x_s : State} (h_x_s : Kept m s x_s) : KeptN m s (execShgRewind x_b x_s) := by
  unfold execShgRewind
  repeat' first
    | (with_reducible first | assumption | exact Kept.refl _)
    | exact sub_trans (b := 434188) (by decide) hm
    | intro _
    | (with_reducible first | apply State.once_kept | apply State.rewind_kept | apply KeptN.next | apply KeptN.ite | apply Kept.ite)

theorem execCntDec_kept {m : Nat} (hm : 8200 &&& m = 8200) {s : State} {x_b : Bay} {x_n : Fin 4} {x_s : State} (h_x_s : Kept m s x_s) : KeptN m s (execCntDec x_b x_n x_s) := by
  unfold execCntDec
  repeat' first
    | (with_reducible first | assumption | exact Kept.refl _)
    | exact sub_trans (b := 8200) (by decide) hm
    | (with_reducible first | apply State.cntCycle_kept | apply KeptN.next | apply KeptN.ite)

theorem execCntInc_kept {m : Nat} (hm : 8200 &&& m = 8200) {s : State} {x_b : Bay} {x_n : Fin 4} {x_s : State} (h_x_s : Kept m s x_s) : KeptN m s (execCntInc x_b x_n x_s) := by
  unfold execCntInc
  repeat' first
    | (with_reducible first | assumption | exact Kept.refl _)
    | exact sub_trans (b := 8200) (by decide) hm
    | (with_reducible first | apply State.cntCycle_kept | apply KeptN.next | apply KeptN.ite)

theorem execCntDecVec_kept {m : Nat} (hm : 8200 &&& m = 8200) {s : State} {x_b : Bay} {x_n : Fin 4} {x_s : State} (h_x_s : Kept m s x_s) : KeptN m s (execCntDecVec x_b x_n x_s) := by
  unfold execCntDecVec
  repeat' first
    | (with_reducible first | assumption | exact Kept.refl _)
    | exact sub_trans (b := 8200) (by decide) hm
    | (with_reducible first | apply State.cntCycle_kept | apply KeptN.next | apply KeptN.ite)

theorem execCntIncVec_kept {m : Nat} (hm : 8200 &&& m = 8200) {s : State} {x_b : Bay} {x_n : Fin 4} {x_s : State} (h_x_s : Kept m s x_s) : KeptN m s (execCntIncVec x_b x_n x_s) := by
  unfold execCntIncVec
  repeat' first
    | (with_reducible first | assumption | exact Kept.refl _)
    | exact sub_trans (b := 8200) (by decide) hm
    | (with_reducible first | apply State.cntCycle_kept | apply KeptN.next | apply KeptN.ite)

theorem execCntLoad_kept {m : Nat} (hm : 8200 &&& m = 8200) {s : State} {x_b : Bay} {x_n : Fin 4} {x_s : State} (h_x_s : Kept m s x_s) : KeptN m s (execCntLoad x_b x_n x_s) := by
  unfold execCntLoad
  repeat' first
    | (with_reducible first | assumption | exact Kept.refl _)
    | exact sub_trans (b := 8200) (by decide) hm
    | intro _
    | (with_reducible first | apply State.cntOnce_kept | apply KeptN.next | apply KeptN.ite)

theorem execCntLoadParam_kept {m : Nat} (hm : 8200 &&& m = 8200) {s : State} {x_b : Bay} {x_n : Fin 4} {x_s : State} (h_x_s : Kept m s x_s) : KeptN m s (execCntLoadParam x_b x_n x_s) := by
  unfold execCntLoadParam
  repeat' first
    | (with_reducible first | assumption | exact Kept.refl _)
    | exact sub_trans (b := 8200) (by decide) hm
    | intro _
    | (with_reducible first | apply State.cntOnce_kept | apply KeptN.next | apply KeptN.ite)

theorem execCntReload_kept {m : Nat} (hm : 8200 &&& m = 8200) {s : State} {x_b : Bay} {x_n : Fin 4} {x_s : State} (h_x_s : Kept m s x_s) : KeptN m s (execCntReload x_b x_n x_s) := by
  unfold execCntReload
  repeat' first
    | (with_reducible first | assumption | exact Kept.refl _)
    | exact sub_trans (b := 8200) (by decide) hm
    | intro _
    | (with_reducible first | apply State.cntOnce_kept | apply KeptN.next | apply KeptN.ite)

theorem execCntClear_kept {m : Nat} (hm : 8200 &&& m = 8200) {s : State} {x_b : Bay} {x_n : Fin 4} {x_s : State} (h_x_s : Kept m s x_s) : KeptN m s (execCntClear x_b x_n x_s) := by
  unfold execCntClear
  repeat' first
    | (with_reducible first | assumption | exact Kept.refl _)
    | exact sub_trans (b := 8200) (by decide) hm
    | intro _
    | (with_reducible first | apply State.cntOnce_kept | apply KeptN.next | apply KeptN.ite)

theorem execCaptureOn_kept {m : Nat} (hm : 401420 &&& m = 401420) {s : State} {x_b : Bay} {x_s : State} (h_x_s : Kept m s x_s) : KeptN m s (execCaptureOn x_b x_s) := by
  unfold execCaptureOn
  repeat' first
    | (with_reducible first | assumption | exact Kept.refl _)
    | exact sub_trans (b := 401420) (by decide) hm
    | intro _
    | (with_reducible first | apply State.once_kept | apply State.captureOn_kept | apply KeptN.next | apply KeptN.ite | apply Kept.ite)

theorem execCaptureOff_kept {m : Nat} (hm : 8200 &&& m = 8200) {s : State} {x_b : Bay} {x_s : State} (h_x_s : Kept m s x_s) : KeptN m s (execCaptureOff x_b x_s) := by
  unfold execCaptureOff
  repeat' first
    | (with_reducible first | assumption | exact Kept.refl _)
    | exact sub_trans (b := 8200) (by decide) hm
    | intro _
    | (with_reducible first | apply State.once_kept | apply State.captureOff_kept | apply KeptN.next | apply KeptN.ite | apply Kept.ite)

theorem execCapMark_kept {m : Nat} (hm : 8192 &&& m = 8192) {s : State} {x_b : Bay} {x_s : State} (h_x_s : Kept m s x_s) : KeptN m s (execCapMark x_b x_s) := by
  unfold execCapMark
  repeat' first
    | (with_reducible first | assumption | exact Kept.refl _)
    | exact sub_trans (b := 8192) (by decide) hm
    | intro _
    | (with_reducible first | apply State.once_kept | apply State.capMark_kept | apply KeptN.next | apply KeptN.ite | apply Kept.ite)

theorem execRetire_kept {m : Nat} (hm : 8192 &&& m = 8192) {s : State} {x_b : Bay} {x_s : State} (h_x_s : Kept m s x_s) : KeptN m s (execRetire x_b x_s) := by
  unfold execRetire
  repeat' first
    | (with_reducible first | assumption | exact Kept.refl _)
    | exact sub_trans (b := 8192) (by decide) hm
    | intro _
    | (with_reducible first | apply State.once_kept | apply State.retireSoon_kept | apply KeptN.next | apply KeptN.ite | apply Kept.ite)

theorem execRetireFailed_kept {m : Nat} (hm : 8192 &&& m = 8192) {s : State} {x_b : Bay} {x_s : State} (h_x_s : Kept m s x_s) : KeptN m s (execRetireFailed x_b x_s) := by
  unfold execRetireFailed
  repeat' first
    | (with_reducible first | assumption | exact Kept.refl _)
    | exact sub_trans (b := 8192) (by decide) hm
    | intro _
    | (with_reducible first | apply State.once_kept | apply State.retireSoon_kept | apply KeptN.next | apply KeptN.ite | apply Kept.ite)

theorem execObjWrite_kept {m : Nat} (hm : 8200 &&& m = 8200) {s : State} {x_b : Bay} {x_s : State} (h_x_s : Kept m s x_s) : KeptN m s (execObjWrite x_b x_s) := by
  unfold execObjWrite
  repeat' first
    | (with_reducible first | assumption | exact Kept.refl _)
    | exact sub_trans (b := 8200) (by decide) hm
    | intro _
    | (with_reducible first | apply State.once_kept | apply State.objWrite_kept | apply KeptN.next | apply KeptN.ite | apply Kept.ite)

theorem execRaise_kept {m : Nat} (hm : 401420 &&& m = 401420) {s : State} {x_b : Bay} {x_s : State} (h_x_s : Kept m s x_s) : KeptN m s (execRaise x_b x_s) := by
  unfold execRaise
  repeat' first
    | (with_reducible first | assumption | exact Kept.refl _)
    | exact sub_trans (b := 401420) (by decide) hm
    | intro _
    | (with_reducible first | apply State.once_kept | apply State.occur_kept | apply KeptN.next | apply KeptN.ite | apply Kept.ite)

theorem execLoadNow_kept {m : Nat} (hm : 24584 &&& m = 24584) {s : State} {x_b : Bay} {x_s : State} (h_x_s : Kept m s x_s) : KeptN m s (execLoadNow x_b x_s) := by
  unfold execLoadNow
  repeat' first
    | (with_reducible first | assumption | exact Kept.refl _)
    | exact sub_trans (b := 24584) (by decide) hm
    | intro _
    | (with_reducible first | apply State.once_kept | apply State.load_kept | apply State.lvlSel_kept | apply KeptN.next | apply KeptN.ite | apply Kept.ite)
    | split

theorem execLoadTimer_kept {m : Nat} (hm : 8192 &&& m = 8192) {s : State} {x_b : Bay} {x_s : State} (h_x_s : Kept m s x_s) : KeptN m s (execLoadTimer x_b x_s) := by
  unfold execLoadTimer
  repeat' first
    | (with_reducible first | assumption | exact Kept.refl _)
    | exact sub_trans (b := 8192) (by decide) hm
    | intro _
    | (with_reducible first | apply State.once_kept | apply State.startLoadTimer_kept | apply KeptN.next | apply KeptN.ite | apply Kept.ite)

theorem execBlankStart_kept {m : Nat} (hm : 8200 &&& m = 8200) {s : State} {x_b : Bay} {x_s : State} (h_x_s : Kept m s x_s) : KeptN m s (execBlankStart x_b x_s) := by
  unfold execBlankStart
  repeat' first
    | (with_reducible first | assumption | exact Kept.refl _)
    | exact sub_trans (b := 8200) (by decide) hm
    | intro _
    | (with_reducible first | apply State.once_kept | apply State.startBlank_kept | apply KeptN.next | apply KeptN.ite | apply Kept.ite)

theorem execBlankEnd_kept {m : Nat} (hm : 417804 &&& m = 417804) {s : State} {x_b : Bay} {x_s : State} (h_x_s : Kept m s x_s) : KeptN m s (execBlankEnd x_b x_s) := by
  unfold execBlankEnd
  repeat' first
    | (with_reducible first | assumption | exact Kept.refl _)
    | exact sub_trans (b := 417804) (by decide) hm
    | intro _
    | (with_reducible first | apply State.once_kept | apply State.endBlank_kept | apply KeptN.next | apply KeptN.ite | apply Kept.ite)

theorem execTmuMwArm_kept {m : Nat} (hm : 1074143244 &&& m = 1074143244) {s : State} {x_b : Bay} {x_s : State} (h_x_s : Kept m s x_s) : KeptN m s (execTmuMwArm x_b x_s) := by
  unfold execTmuMwArm
  repeat' first
    | (with_reducible first | assumption | exact Kept.refl _)
    | exact sub_trans (b := 1074143244) (by decide) hm
    | intro _
    | (with_reducible first | apply State.once_kept | apply State.tmuArmEvent_kept | apply KeptN.next | apply KeptN.ite | apply Kept.ite)

theorem execTmuMwDisarm_kept {m : Nat} (hm : 1073750024 &&& m = 1073750024) {s : State} {x_b : Bay} {x_s : State} (h_x_s : Kept m s x_s) : KeptN m s (execTmuMwDisarm x_b x_s) := by
  unfold execTmuMwDisarm
  repeat' first
    | (with_reducible first | assumption | exact Kept.refl _)
    | exact sub_trans (b := 1073750024) (by decide) hm
    | intro _
    | (with_reducible first | apply State.once_kept | apply State.tmuDisarmEvent_kept | apply KeptN.next | apply KeptN.ite | apply Kept.ite)

theorem execRidgeAssert_kept {m : Nat} (hm : 8704 &&& m = 8704) {s : State} {x_b : Bay} {x_port : Fin 2} {x_s : State} (h_x_s : Kept m s x_s) : KeptN m s (execRidgeAssert x_b x_port x_s) := by
  unfold execRidgeAssert
  repeat' first
    | (with_reducible first | assumption | exact Kept.refl _)
    | exact sub_trans (b := 8704) (by decide) hm
    | intro _
    | (with_reducible first | apply State.ridgePort_kept | apply State.driveRidge_kept | apply KeptN.next | apply KeptN.ite)

theorem execRidgeRelease_kept {m : Nat} (hm : 8704 &&& m = 8704) {s : State} {x_b : Bay} {x_port : Fin 2} {x_s : State} (h_x_s : Kept m s x_s) : KeptN m s (execRidgeRelease x_b x_port x_s) := by
  unfold execRidgeRelease
  repeat' first
    | (with_reducible first | assumption | exact Kept.refl _)
    | exact sub_trans (b := 8704) (by decide) hm
    | intro _
    | (with_reducible first | apply State.ridgePort_kept | apply State.driveRidge_kept | apply KeptN.next | apply KeptN.ite)

theorem execRidgePulse_kept {m : Nat} (hm : 8704 &&& m = 8704) {s : State} {x_b : Bay} {x_port : Fin 2} {x_s : State} (h_x_s : Kept m s x_s) : KeptN m s (execRidgePulse x_b x_port x_s) := by
  unfold execRidgePulse
  repeat' first
    | (with_reducible first | assumption | exact Kept.refl _)
    | exact sub_trans (b := 8704) (by decide) hm
    | intro _
    | (with_reducible first | apply State.ridgePort_kept | apply State.driveRidge_kept | apply KeptN.next | apply KeptN.ite)

theorem execSphPermit_kept {m : Nat} (hm : 8192 &&& m = 8192) {s : State} {x_b : Bay} {x_s : State} (h_x_s : Kept m s x_s) : KeptN m s (execSphPermit x_b x_s) := by
  unfold execSphPermit
  repeat' first
    | (with_reducible first | assumption | exact Kept.refl _)
    | exact sub_trans (b := 8192) (by decide) hm
    | intro _
    | (with_reducible first | apply State.once_kept | apply State.modRoll_kept | apply KeptN.next | apply KeptN.ite | apply Kept.ite)
    | (refine Kept.upd ?_ ?_)

theorem execSphInhibit_kept {m : Nat} (hm : 8192 &&& m = 8192) {s : State} {x_b : Bay} {x_s : State} (h_x_s : Kept m s x_s) : KeptN m s (execSphInhibit x_b x_s) := by
  unfold execSphInhibit
  repeat' first
    | (with_reducible first | assumption | exact Kept.refl _)
    | exact sub_trans (b := 8192) (by decide) hm
    | intro _
    | (with_reducible first | apply State.once_kept | apply State.modRoll_kept | apply KeptN.next | apply KeptN.ite | apply Kept.ite)
    | (refine Kept.upd ?_ ?_)

theorem execCustomWatchdog_kept {m : Nat} (hm : 434188 &&& m = 434188) {s : State} {x_b : Bay} {x_s : State} (h_x_s : Kept m s x_s) : KeptN m s (execCustomWatchdog x_b x_s) := by
  unfold execCustomWatchdog
  repeat' first
    | (with_reducible first | assumption | exact Kept.refl _)
    | exact sub_trans (b := 434188) (by decide) hm
    | (with_reducible first | apply State.seqError_kept | apply KeptN.next | apply KeptN.ite | apply Kept.ite)

theorem execBankImage_kept {m : Nat} (hm : 401421 &&& m = 401421) {s : State} {x_b : Bay} {x_epoch : BitVec 16} {x_image : Bytes} {x_s : State} (h_x_s : Kept m s x_s) : KeptN m s (execBankImage x_b x_epoch x_image x_s) := by
  unfold execBankImage
  repeat' first
    | (with_reducible first | assumption | exact Kept.refl _)
    | exact sub_trans (b := 401421) (by decide) hm
    | intro _
    | (with_reducible first | apply State.hostBay_kept | apply State.bankImage_kept | apply KeptN.next | apply KeptN.ite)

theorem execBankLoadComplete_kept {m : Nat} (hm : 8237 &&& m = 8237) {s : State} {x_b : Bay} {x_sigOk : Bool} {x_readbackOk : Bool} {x_s : State} (h_x_s : Kept m s x_s) : KeptN m s (execBankLoadComplete x_b x_sigOk x_readbackOk x_s) := by
  unfold execBankLoadComplete
  repeat' first
    | (with_reducible first | assumption | exact Kept.refl _)
    | exact sub_trans (b := 8237) (by decide) hm
    | (with_reducible first | apply State.bankLoaded_kept | apply KeptN.next | apply KeptN.ite)

theorem execCustomEntryWrite_kept {m : Nat} (hm : 393229 &&& m = 393229) {s : State} {x_b : Bay} {x_epoch : BitVec 16} {x_type : Fin 15} {x_value : BitVec 32} {x_s : State} (h_x_s : Kept m s x_s) : KeptN m s (execCustomEntryWrite x_b x_epoch x_type x_value x_s) := by
  unfold execCustomEntryWrite
  repeat' first
    | (with_reducible first | assumption | exact Kept.refl _)
    | exact sub_trans (b := 393229) (by decide) hm
    | intro _
    | (with_reducible first | apply State.hostBay_kept | apply State.customEntry_kept | apply KeptN.next | apply KeptN.ite)

theorem execVendorReload_kept {m : Nat} (hm : 8200 &&& m = 8200) {s : State} {x_b : Bay} {x_s : State} (h_x_s : Kept m s x_s) : KeptN m s (execVendorReload x_b x_s) := by
  unfold execVendorReload
  repeat' first
    | (with_reducible first | assumption | exact Kept.refl _)
    | exact sub_trans (b := 8200) (by decide) hm
    | (with_reducible first | apply State.vendorReload_kept | apply KeptN.next | apply KeptN.ite)

end Sys2Proof.Machine
end

