-- ==== Sys2Proof/Laws/KeptPackage.lean ====
section
/-! SUPPORT. What the operations of Machine/Package.lean keep. -/

set_option linter.all false

namespace Sys2Proof.Machine

theorem State.pkgFail_kept {m : Nat} (hm : 9224 &&& m = 9224) {s : State} {x_s : State} {x_b : Bay} {x_status : Nat} {x_detail : Nat} {x_slot : Option Nat} (h_x_s : Kept m s x_s) : Kept m s (State.pkgFail x_s x_b x_status x_detail x_slot) := by
  unfold State.pkgFail
  repeat' first
    | (with_reducible first | assumption | exact Kept.refl _)
    | exact sub_trans (b := 9224) (by decide) hm
    | (intro x_1; refine (fun hx : Kept m s x_1 => ?_) ?_; (clear_value x_1); rotate_left; (unfold x_1))
    | (intro x_1; clear_value x_1)
    | intro _
    | (with_reducible first | apply State.zeroSlot_kept | apply State.setB_kept | apply State.modBay_kept | exact KeptO.none | apply KeptO.some | apply KeptO.ite)
    | lift_lets -underBinder
    | split
    | (refine Kept.upd ?_ ?_)

theorem State.pkgAbort_kept {m : Nat} (hm : 9224 &&& m = 9224) {s : State} {x_s : State} {x_b : Bay} (h_x_s : Kept m s x_s) : Kept m s (State.pkgAbort x_s x_b) := by
  unfold State.pkgAbort
  repeat' first
    | (with_reducible first | assumption | exact Kept.refl _)
    | exact sub_trans (b := 9224) (by decide) hm
    | (with_reducible first | apply State.pkgFail_kept | exact KeptO.none | apply KeptO.some | apply KeptO.ite)
    | split
    | (refine Kept.upd ?_ ?_)

theorem State.pkgBadSection_kept {m : Nat} (hm : 9228 &&& m = 9228) {s : State} {x_s : State} {x_b : Bay} {x_slot : Option Nat} (h_x_s : Kept m s x_s) : Kept m s (State.pkgBadSection x_s x_b x_slot) := by
  unfold State.pkgBadSection
  repeat' first
    | (with_reducible first | assumption | exact Kept.refl _)
    | exact sub_trans (b := 9228) (by decide) hm
    | (with_reducible first | apply State.pkgFail_kept | apply State.free_kept | apply Kept.ite2)
    | dsimp only

theorem State.pkgData_kept {m : Nat} (hm : 192 &&& m = 192) {s : State} {x_s : State} {x_b : Bay} {x_p : Bytes} {x_d : Nat} (h_x_s : Kept m s x_s) : Kept m s (State.pkgData x_s x_b x_p x_d) := by
  unfold State.pkgData
  repeat' first
    | (with_reducible first | assumption | exact Kept.refl _)
    | exact sub_trans (b := 192) (by decide) hm
    | (intro x_1; refine (fun hx : Kept m s x_1 => ?_) ?_; (clear_value x_1); rotate_left; (unfold x_1))
    | (intro x_1; clear_value x_1)
    | intro _
    | (with_reducible first | apply State.writeBlocks_kept | apply Kept.ite)
    | lift_lets -underBinder

theorem State.pkgTables_kept {m : Nat} (hm : 9277 &&& m = 9277) {s : State} {x_s : State} {x_b : Bay} {x_p : Bytes} {x_d : Nat} {x_slot : Option Nat} (h_x_s : Kept m s x_s) : Kept m s (State.pkgTables x_s x_b x_p x_d x_slot) := by
  unfold State.pkgTables
  repeat' first
    | (with_reducible first | assumption | exact Kept.refl _)
    | exact sub_trans (b := 9277) (by decide) hm
    | (intro x_1; refine (fun hx : Kept m s x_1 => ?_) ?_; (clear_value x_1); rotate_left; (unfold x_1))
    | (intro x_1; clear_value x_1)
    | (intro p; cases p <;> first | exact Or.inl (bit_of (a := 9277) hm rfl) | exact Or.inr rfl)
    | intro _
    | (with_reducible first | apply State.pkgBadSection_kept | apply State.each_kept | apply State.setB_kept | apply State.storeEntries_kept | apply State.modBay_kept | apply State.pkgFail_kept | apply Kept.ite)
    | lift_lets -underBinder
    | (refine Kept.upd ?_ ?_)

theorem State.pkgLoaded_kept {m : Nat} (hm : 33989885 &&& m = 33989885) {s : State} {x_s : State} {x_b : Bay} {x_sigOk : Bool} {x_key : Option (BitVec 512 × BitVec 128)} {x_eccs : List Ecc} (h_x_s : Kept m s x_s) : Kept m s (State.pkgLoaded x_s x_b x_sigOk x_key x_eccs) := by
  unfold State.pkgLoaded
  repeat' first
    | (with_reducible first | assumption | exact Kept.refl _)
    | exact sub_trans (b := 33989885) (by decide) hm
    | (intro x_1; refine (fun hx : Kept m s x_1 => ?_) ?_; (clear_value x_1); rotate_left; (unfold x_1))
    | (intro x_1; clear_value x_1)
    | intro _
    | (with_reducible first | apply State.each_kept | apply State.checkBlock_kept | apply State.pkgBadSection_kept | apply State.pkgFail_kept | apply State.pkgData_kept | apply State.pkgTables_kept | apply State.loadSlot_kept | apply Kept.ite | apply Kept.ite1 | apply Kept.ite2)
    | lift_lets -underBinder
    | split
    | dsimp only
    | (refine Kept.upd ?_ ?_)

theorem State.pkgBegin_kept {m : Nat} (hm : 9225 &&& m = 9225) {s : State} {x_s : State} {x_b : Bay} {x_l : PkgLoad} (h_x_s : Kept m s x_s) : Kept m s (State.pkgBegin x_s x_b x_l) := by
  unfold State.pkgBegin
  repeat' first
    | (with_reducible first | assumption | exact Kept.refl _)
    | exact sub_trans (b := 9225) (by decide) hm
    | (intro x_1; refine (fun hx : Kept m s x_1 => ?_) ?_; (clear_value x_1); rotate_left; (unfold x_1))
    | (intro x_1; clear_value x_1)
    | intro _
    | (with_reducible first | apply State.each_kept | apply State.zeroSlot_kept | apply State.ok_kept | apply State.setB_kept | apply State.modBay_kept | exact KeptO.none | apply KeptO.some | apply KeptO.ite)
    | lift_lets -underBinder
    | (refine Kept.upd ?_ ?_)

theorem execPkgImage_kept {m : Nat} (hm : 402445 &&& m = 402445) {s : State} {x_b : Bay} {x_epoch : BitVec 16} {x_image : Bytes} {x_s : State} (h_x_s : Kept m s x_s) : KeptN m s (execPkgImage x_b x_epoch x_image x_s) := by
  unfold execPkgImage
  repeat' first
    | (with_reducible first | assumption | exact Kept.refl _)
    | exact sub_trans (b := 402445) (by decide) hm
    | intro _
    | (with_reducible first | apply State.hostBay_kept | apply State.pkgBegin_kept | apply State.answer_kept | apply KeptN.next | apply KeptN.ite | apply Kept.ite)

theorem execPkgLoadComplete_kept {m : Nat} (hm : 33989885 &&& m = 33989885) {s : State} {x_b : Bay} {x_sigOk : Bool} {x_key : Option (BitVec 512 × BitVec 128)} {x_eccs : List Ecc} {x_s : State} (h_x_s : Kept m s x_s) : KeptN m s (execPkgLoadComplete x_b x_sigOk x_key x_eccs x_s) := by
  unfold execPkgLoadComplete
  repeat' first
    | (with_reducible first | assumption | exact Kept.refl _)
    | exact sub_trans (b := 33989885) (by decide) hm
    | (with_reducible first | apply State.pkgLoaded_kept | apply KeptN.next | apply KeptN.ite)

end Sys2Proof.Machine
end

