-- ==== Sys2Proof/Laws/KeptArming.lean ====
section
/-! SUPPORT. What the operations of Machine/Arming.lean keep. -/

set_option linter.all false

namespace Sys2Proof.Machine

theorem State.showLoft_kept {m : Nat} (hm : 12 &&& m = 12) {s : State} {x_s : State} {x_b : Bay} (h_x_s : Kept m s x_s) : Kept m s (State.showLoft x_s x_b) := by
  unfold State.showLoft
  repeat' first
    | (with_reducible first | assumption | exact Kept.refl _)
    | exact sub_trans (b := 12) (by decide) hm
    | (intro x_1; refine (fun hx : Kept m s x_1 => ?_) ?_; (clear_value x_1); rotate_left; (unfold x_1))
    | (intro x_1; refine (fun hx : Kept m s x_1.2 => ?_) ?_; (clear_value x_1); rotate_left; (unfold x_1))
    | (intro x_1; clear_value x_1)
    | intro _
    | (with_reducible first | apply State.setB_kept | apply State.free_kept | refine State.free_kept_eq ?_ ?_ (by assumption) | exact KeptO.none | apply KeptO.some | apply KeptO.ite | apply Kept.ite2)
    | lift_lets -underBinder
    | split
    | dsimp only
    | (refine Kept.upd ?_ ?_)

theorem State.showRates_kept {m : Nat} (hm : 8 &&& m = 8) {s : State} {x_s : State} {x_b : Bay} (h_x_s : Kept m s x_s) : Kept m s (State.showRates x_s x_b) := by
  unfold State.showRates
  repeat' first
    | (with_reducible first | assumption | exact Kept.refl _)
    | exact sub_trans (b := 8) (by decide) hm
    | (intro x_1; refine (fun hx : Kept m s x_1 => ?_) ?_; (clear_value x_1); rotate_left; (unfold x_1))
    | (intro x_1; clear_value x_1)
    | intro _
    | (with_reducible first | apply State.setB_kept | apply State.each_kept | apply State.setCap_kept | apply State.setO_kept | apply Kept.ite)
    | lift_lets -underBinder

end Sys2Proof.Machine
end

