-- ==== Sys2Proof/Laws/KeptBayState.lean ====
section
/-! SUPPORT. What the operations of Machine/BayState.lean keep. -/

set_option linter.all false

namespace Sys2Proof.Machine

theorem State.showShares_kept {m : Nat} (hm : 8 &&& m = 8) {s : State} {x_s : State} (h_x_s : Kept m s x_s) : Kept m s (State.showShares x_s) := by
  unfold State.showShares
  repeat' first
    | (with_reducible first | assumption | exact Kept.refl _)
    | exact sub_trans (b := 8) (by decide) hm
    | (intro x_1; refine (fun hx : Kept m s x_1 => ?_) ?_; (clear_value x_1); rotate_left; (unfold x_1))
    | (intro x_1; clear_value x_1)
    | intro _
    | with_reducible apply State.setO_kept
    | lift_lets -underBinder

theorem State.takeShare_kept {m : Nat} (hm : 8200 &&& m = 8200) {s : State} {x_s : State} {x_b : Bay} (h_x_s : Kept m s x_s) : Kept m s (State.takeShare x_s x_b) := by
  unfold State.takeShare
  repeat' first
    | (with_reducible first | assumption | exact Kept.refl _)
    | exact sub_trans (b := 8200) (by decide) hm
    | intro _
    | (with_reducible first | apply State.showShares_kept | apply State.modBay_kept)
    | (refine Kept.upd ?_ ?_)

theorem State.dropShares_kept {m : Nat} (hm : 8200 &&& m = 8200) {s : State} {x_s : State} {x_b : Bay} (h_x_s : Kept m s x_s) : Kept m s (State.dropShares x_s x_b) := by
  unfold State.dropShares
  repeat' first
    | (with_reducible first | assumption | exact Kept.refl _)
    | exact sub_trans (b := 8200) (by decide) hm
    | intro _
    | (with_reducible first | apply State.showShares_kept | apply State.modBay_kept)
    | (refine Kept.upd ?_ ?_)

theorem State.clearRun_kept {m : Nat} (hm : 8192 &&& m = 8192) {s : State} {x_s : State} {x_b : Bay} (h_x_s : Kept m s x_s) : Kept m s (State.clearRun x_s x_b) := by
  unfold State.clearRun
  repeat' first
    | (with_reducible first | assumption | exact Kept.refl _)
    | exact sub_trans (b := 8192) (by decide) hm
    | intro _
    | (with_reducible first | apply State.modBay_kept | apply State.endUnderrun_kept)
    | (refine Kept.upd ?_ ?_)

theorem State.enterIdle_kept {m : Nat} (hm : 401928 &&& m = 401928) {s : State} {x_s : State} {x_b : Bay} (h_x_s : Kept m s x_s) : Kept m s (State.enterIdle x_s x_b) := by
  unfold State.enterIdle
  repeat' first
    | (with_reducible first | assumption | exact Kept.refl _)
    | exact sub_trans (b := 401928) (by decide) hm
    | (intro x_1; refine (fun hx : Kept m s x_1 => ?_) ?_; (clear_value x_1); rotate_left; (unfold x_1))
    | (intro x_1; clear_value x_1)
    | intro _
    | (with_reducible first | apply State.modBay_kept | apply State.clearRun_kept | apply State.dropShares_kept | apply State.inhibitBay_kept | apply State.setB_kept | apply State.driveSite_kept | apply State.showSlots_kept | apply State.setState_kept)
    | lift_lets -underBinder
    | dsimp only
    | (refine Kept.upd ?_ ?_)

theorem State.quieten_kept {m : Nat} (hm : 8456 &&& m = 8456) {s : State} {x_s : State} {x_b : Bay} (h_x_s : Kept m s x_s) : Kept m s (State.quieten x_s x_b) := by
  unfold State.quieten
  repeat' first
    | (with_reducible first | assumption | exact Kept.refl _)
    | exact sub_trans (b := 8456) (by decide) hm
    | (with_reducible first | apply State.dropShares_kept | apply State.rollAbort_kept | apply State.pmuOffBay_kept | apply State.inhibitBay_kept)

theorem State.enterSafe_kept {m : Nat} (hm : 419116 &&& m = 419116) {s : State} {x_s : State} {x_b : Bay} (h_x_s : Kept m s x_s) : Kept m s (State.enterSafe x_s x_b) := by
  unfold State.enterSafe
  repeat' first
    | (with_reducible first | assumption | exact Kept.refl _)
    | exact sub_trans (b := 419116) (by decide) hm
    | (intro x_1; refine (fun hx : Kept m s x_1 => ?_) ?_; (clear_value x_1); rotate_left; (unfold x_1))
    | (intro x_1; clear_value x_1)
    | intro _
    | (with_reducible first | apply State.capStop_kept | apply State.each_kept | apply State.modChan_kept | apply State.tmuDisarm_kept | apply State.assayAbort_kept | apply State.quieten_kept | apply State.clearRun_kept | apply State.cutByOff_kept | apply State.showSlots_kept | apply State.setState_kept | apply State.pkgAbort_kept | apply Kept.ite)
    | lift_lets -underBinder
    | split
    | dsimp only
    | (refine Kept.upd ?_ ?_)

theorem State.clearStores_kept {m : Nat} (hm : 8232 &&& m = 8232) {s : State} {x_s : State} {x_b : Bay} (h_x_s : Kept m s x_s) : Kept m s (State.clearStores x_s x_b) := by
  unfold State.clearStores
  repeat' first
    | (with_reducible first | assumption | exact Kept.refl _)
    | exact sub_trans (b := 8232) (by decide) hm
    | (intro x_1; refine (fun hx : Kept m s x_1 => ?_) ?_; (clear_value x_1); rotate_left; (unfold x_1))
    | (intro x_1; clear_value x_1)
    | (intro p; cases p <;> first | exact Or.inl (bit_of (a := 8232) hm rfl) | exact Or.inr rfl)
    | intro _
    | (with_reducible first | apply State.tmuClear_kept | apply State.modBay_kept)
    | lift_lets -underBinder
    | (refine Kept.upd ?_ ?_)

theorem State.releaseRidge_kept {m : Nat} (hm : 512 &&& m = 512) {s : State} {x_s : State} {x_b : Bay} (h_x_s : Kept m s x_s) : Kept m s (State.releaseRidge x_s x_b) := by
  unfold State.releaseRidge
  repeat' first
    | (with_reducible first | assumption | exact Kept.refl _)
    | exact sub_trans (b := 512) (by decide) hm
    | intro _
    | (with_reducible first | apply State.each_kept | apply State.driveRidge_kept | apply Kept.ite)
    | split

theorem State.enterMaint_kept {m : Nat} (hm : 402184 &&& m = 402184) {s : State} {x_s : State} {x_b : Bay} (h_x_s : Kept m s x_s) : Kept m s (State.enterMaint x_s x_b) := by
  unfold State.enterMaint
  repeat' first
    | (with_reducible first | assumption | exact Kept.refl _)
    | exact sub_trans (b := 402184) (by decide) hm
    | (intro x_1; refine (fun hx : Kept m s x_1 => ?_) ?_; (clear_value x_1); rotate_left; (unfold x_1))
    | (intro x_1; clear_value x_1)
    | intro _
    | (with_reducible first | apply State.modBay_kept | apply State.releaseRidge_kept | apply State.quieten_kept | apply State.clearRun_kept | apply State.driveSite_kept | apply State.setState_kept)
    | lift_lets -underBinder
    | dsimp only
    | (refine Kept.upd ?_ ?_)

theorem State.enterOff_kept {m : Nat} (hm : 418568 &&& m = 418568) {s : State} {x_s : State} {x_b : Bay} (h_x_s : Kept m s x_s) : Kept m s (State.enterOff x_s x_b) := by
  unfold State.enterOff
  repeat' first
    | (with_reducible first | assumption | exact Kept.refl _)
    | exact sub_trans (b := 418568) (by decide) hm
    | (intro x_1; refine (fun hx : Kept m s x_1 => ?_) ?_; (clear_value x_1); rotate_left; (unfold x_1))
    | (intro x_1; clear_value x_1)
    | intro _
    | (with_reducible first | apply State.releaseRidge_kept | apply State.tmuDisarm_kept | apply State.quieten_kept | apply State.clearRef_kept | apply State.each_kept | apply State.setOutputs_kept | apply State.releaseOwner_kept | apply State.setO_kept | apply State.modBay_kept | apply State.setState_kept)
    | lift_lets -underBinder
    | dsimp only
    | (refine Kept.upd ?_ ?_)

theorem State.startRounds_kept {m : Nat} (hm : 8200 &&& m = 8200) {s : State} {x_s : State} {x_b : Bay} (h_x_s : Kept m s x_s) : Kept m s (State.startRounds x_s x_b) := by
  unfold State.startRounds
  repeat' first
    | (with_reducible first | assumption | exact Kept.refl _)
    | exact sub_trans (b := 8200) (by decide) hm
    | (intro x_1; refine (fun hx : Kept m s x_1 => ?_) ?_; (clear_value x_1); rotate_left; (unfold x_1))
    | (intro x_1; clear_value x_1)
    | intro _
    | (with_reducible first | apply State.modRoll_kept | apply State.setO_kept)
    | lift_lets -underBinder
    | (refine Kept.upd ?_ ?_)

theorem State.leaveOff_kept {m : Nat} (hm : 401704 &&& m = 401704) {s : State} {x_s : State} {x_b : Bay} {x_host : Bool} (h_x_s : Kept m s x_s) : Kept m s (State.leaveOff x_s x_b x_host) := by
  unfold State.leaveOff
  repeat' first
    | (with_reducible first | assumption | exact Kept.refl _)
    | exact sub_trans (b := 401704) (by decide) hm
    | (intro x_1; refine (fun hx : Kept m s x_1 => ?_) ?_; (clear_value x_1); rotate_left; (unfold x_1))
    | (intro x_1; clear_value x_1)
    | intro _
    | (with_reducible first | apply State.clearStores_kept | apply State.tmuClear_kept | apply State.modBay_kept | apply State.setO_kept | apply State.startRounds_kept | apply State.claimSpare_kept | apply State.setState_kept | apply State.inhibitBay_kept | apply Kept.ite)
    | lift_lets -underBinder
    | split
    | dsimp only
    | (refine Kept.upd ?_ ?_)

theorem State.fillRing_kept {m : Nat} (hm : 434188 &&& m = 434188) {s : State} {x_s : State} {x_b : Bay} {x_bad : List Nat} {x_a3 : Nat} (h_x_s : Kept m s x_s) : Kept m s (State.fillRing x_s x_b x_bad x_a3) := by
  induction x_a3 generalizing x_s with
  | zero =>
    unfold State.fillRing
    repeat' first
      | (with_reducible first | assumption | exact Kept.refl _)
      | exact sub_trans (b := 434188) (by decide) hm
      | (intro x_1; refine (fun hx : Kept m s x_1 => ?_) ?_; (clear_value x_1); rotate_left; (unfold x_1))
      | (intro x_1; clear_value x_1)
      | intro _
      | (with_reducible first | apply State.loftFill_kept | apply Kept.ite)
      | lift_lets -underBinder
      | split
      | dsimp only
  | succ k ih =>
    unfold State.fillRing
    repeat' first
      | with_reducible apply ih
      | (with_reducible first | assumption | exact Kept.refl _)
      | exact sub_trans (b := 434188) (by decide) hm
      | (intro x_1; refine (fun hx : Kept m s x_1 => ?_) ?_; (clear_value x_1); rotate_left; (unfold x_1))
      | (intro x_1; clear_value x_1)
      | intro _
      | (with_reducible first | apply State.loftFill_kept | apply Kept.ite)
      | lift_lets -underBinder
      | split
      | dsimp only

theorem State.residentErrors_kept {m : Nat} (hm : 434188 &&& m = 434188) {s : State} {x_s : State} {x_b : Bay} {x_bad : List Nat} (h_x_s : Kept m s x_s) : Kept m s (State.residentErrors x_s x_b x_bad) := by
  unfold State.residentErrors
  repeat' first
    | (with_reducible first | assumption | exact Kept.refl _)
    | exact sub_trans (b := 434188) (by decide) hm
    | (intro x_1; refine (fun hx : Kept m s x_1 => ?_) ?_; (clear_value x_1); rotate_left; (unfold x_1))
    | (intro x_1; clear_value x_1)
    | intro _
    | (with_reducible first | apply State.modBay_kept | apply State.each_kept | apply State.countUe_kept)
    | lift_lets -underBinder
    | dsimp only
    | (refine Kept.upd ?_ ?_)

theorem State.beginArming_kept {m : Nat} (hm : 8201 &&& m = 8201) {s : State} {x_s : State} {x_b : Bay} (h_x_s : Kept m s x_s) : Kept m s (State.beginArming x_s x_b) := by
  unfold State.beginArming
  repeat' first
    | (with_reducible first | assumption | exact Kept.refl _)
    | exact sub_trans (b := 8201) (by decide) hm
    | (intro x_1; refine (fun hx : Kept m s x_1 => ?_) ?_; (clear_value x_1); rotate_left; (unfold x_1))
    | (intro x_1; clear_value x_1)
    | intro _
    | (with_reducible first | apply State.setB_kept | apply State.takeShare_kept | apply State.each_kept | apply State.countTag_kept | apply State.ok_kept | apply State.modBay_kept | apply Kept.ite | apply Kept.ite1 | apply Kept.ite2)
    | lift_lets -underBinder
    | split
    | dsimp only
    | (refine Kept.upd ?_ ?_)

theorem State.endArming_kept {m : Nat} (hm : 8200 &&& m = 8200) {s : State} {x_s : State} {x_b : Bay} (h_x_s : Kept m s x_s) : Kept m s (State.endArming x_s x_b) := by
  unfold State.endArming
  repeat' first
    | (with_reducible first | assumption | exact Kept.refl _)
    | exact sub_trans (b := 8200) (by decide) hm
    | (with_reducible first | apply State.dropShares_kept | apply State.clearRun_kept)

theorem State.armLost_kept {m : Nat} (hm : 401416 &&& m = 401416) {s : State} {x_s : State} {x_b : Bay} (h_x_s : Kept m s x_s) : Kept m s (State.armLost x_s x_b) := by
  unfold State.armLost
  repeat' first
    | (with_reducible first | assumption | exact Kept.refl _)
    | exact sub_trans (b := 401416) (by decide) hm
    | (with_reducible first | apply State.event_kept | apply State.setB_kept | apply State.endArming_kept | apply Kept.ite)
    | split

theorem State.refuseMates_kept {m : Nat} (hm : 401416 &&& m = 401416) {s : State} {x_s : State} {x_b : Bay} (h_x_s : Kept m s x_s) : Kept m s (State.refuseMates x_s x_b) := by
  unfold State.refuseMates
  repeat' first
    | (with_reducible first | assumption | exact Kept.refl _)
    | exact sub_trans (b := 401416) (by decide) hm
    | (intro x_1; refine (fun hx : Kept m s x_1 => ?_) ?_; (clear_value x_1); rotate_left; (unfold x_1))
    | (intro x_1; clear_value x_1)
    | intro _
    | (with_reducible first | apply State.each_kept | apply State.setB_kept | apply State.event_kept | apply State.endArming_kept | apply Kept.ite)
    | lift_lets -underBinder
    | split
    | dsimp only

theorem State.refuseArm_kept {m : Nat} (hm : 401417 &&& m = 401417) {s : State} {x_s : State} {x_b : Bay} {x_f : ArmFail} (h_x_s : Kept m s x_s) : Kept m s (State.refuseArm x_s x_b x_f) := by
  unfold State.refuseArm
  repeat' first
    | (with_reducible first | assumption | exact Kept.refl _)
    | exact sub_trans (b := 401417) (by decide) hm
    | (intro x_1; refine (fun hx : Kept m s x_1 => ?_) ?_; (clear_value x_1); rotate_left; (unfold x_1))
    | (intro x_1; clear_value x_1)
    | intro _
    | (with_reducible first | apply State.refuseMates_kept | apply State.setB_kept | apply State.answerD_kept | apply State.event_kept | apply Kept.ite)
    | lift_lets -underBinder
    | split
    | dsimp only
    | (refine Kept.upd ?_ ?_)

theorem State.armShow_kept {m : Nat} (hm : 12 &&& m = 12) {s : State} {x_s : State} {x_b : Bay} (h_x_s : Kept m s x_s) : Kept m s (State.armShow x_s x_b) := by
  unfold State.armShow
  repeat' first
    | (with_reducible first | assumption | exact Kept.refl _)
    | exact sub_trans (b := 12) (by decide) hm
    | (intro x_1; refine (fun hx : Kept m s x_1 => ?_) ?_; (clear_value x_1); rotate_left; (unfold x_1))
    | (intro x_1; clear_value x_1)
    | intro _
    | (with_reducible first | apply State.showRates_kept | apply State.showLoft_kept | apply State.setB_kept)
    | lift_lets -underBinder

theorem State.arm_kept {m : Nat} (hm : 401421 &&& m = 401421) {s : State} {x_s : State} {x_b : Bay} (h_x_s : Kept m s x_s) : Kept m s (State.arm x_s x_b) := by
  unfold State.arm
  repeat' first
    | (with_reducible first | assumption | exact Kept.refl _)
    | exact sub_trans (b := 401421) (by decide) hm
    | (with_reducible first | apply State.answer_kept | apply State.armShow_kept | apply State.refuseArm_kept | apply State.beginArming_kept | exact KeptO.none | apply KeptO.some | apply KeptO.ite | apply Kept.ite)
    | split
    | (refine Kept.upd ?_ ?_)

theorem State.reloadCounters_kept {m : Nat} (hm : 8 &&& m = 8) {s : State} {x_s : State} {x_b : Bay} (h_x_s : Kept m s x_s) : Kept m s (State.reloadCounters x_s x_b) := by
  unfold State.reloadCounters
  repeat' first
    | (with_reducible first | assumption | exact Kept.refl _)
    | exact sub_trans (b := 8) (by decide) hm
    | intro _
    | (with_reducible first | apply State.each_kept | apply State.setB_kept)

theorem State.armChan_kept {m : Nat} (hm : 16392 &&& m = 16392) {s : State} {x_s : State} {x_c : Chan} (h_x_s : Kept m s x_s) : Kept m s (State.armChan x_s x_c) := by
  unfold State.armChan
  repeat' first
    | (with_reducible first | assumption | exact Kept.refl _)
    | exact sub_trans (b := 16392) (by decide) hm
    | (intro x_1; refine (fun hx : Kept m s x_1 => ?_) ?_; (clear_value x_1); rotate_left; (unfold x_1))
    | (intro x_1; clear_value x_1)
    | intro _
    | (with_reducible first | apply State.each_kept | apply State.setC_kept | apply State.modChan_kept)
    | lift_lets -underBinder
    | (refine Kept.upd ?_ ?_)

theorem State.enterArmed_kept {m : Nat} (hm : 452300 &&& m = 452300) {s : State} {x_s : State} {x_b : Bay} (h_x_s : Kept m s x_s) : Kept m s (State.enterArmed x_s x_b) := by
  unfold State.enterArmed
  repeat' first
    | (with_reducible first | assumption | exact Kept.refl _)
    | exact sub_trans (b := 452300) (by decide) hm
    | (intro x_1; refine (fun hx : Kept m s x_1 => ?_) ?_; (clear_value x_1); rotate_left; (unfold x_1))
    | (intro x_1; clear_value x_1)
    | intro _
    | (with_reducible first | apply State.each_kept | apply State.setB_kept | apply State.clearFails_kept | apply State.clearLatches__kept | apply State.reloadCounters_kept | apply State.armChan_kept | apply State.setS_kept | apply State.showShares_kept | apply State.modBay_kept | apply State.setState_kept | apply State.pkgAbort_kept | apply State.timingCheck_kept | apply State.driveSite_kept | apply State.showSlots_kept | apply State.capArm_kept)
    | lift_lets -underBinder
    | dsimp only
    | (refine Kept.upd ?_ ?_)

theorem State.armFilled_kept {m : Nat} (hm : 452300 &&& m = 452300) {s : State} {x_s : State} {x_b : Bay} {x_bad : List Nat} (h_x_s : Kept m s x_s) : Kept m s (State.armFilled x_s x_b x_bad) := by
  unfold State.armFilled
  repeat' first
    | (with_reducible first | assumption | exact Kept.refl _)
    | exact sub_trans (b := 452300) (by decide) hm
    | (with_reducible first | apply State.armLost_kept | apply State.enterArmed_kept | apply State.fillRing_kept | apply State.residentErrors_kept | apply Kept.ite)
    | split

theorem State.fedReady_kept {m : Nat} (hm : 452300 &&& m = 452300) {s : State} {x_s : State} {x_b : Bay} {x_bad : List Nat} (h_x_s : Kept m s x_s) : Kept m s (State.fedReady x_s x_b x_bad) := by
  unfold State.fedReady
  repeat' first
    | (with_reducible first | assumption | exact Kept.refl _)
    | exact sub_trans (b := 452300) (by decide) hm
    | (intro x_1; refine (fun hx : Kept m s x_1 => ?_) ?_; (clear_value x_1); rotate_left; (unfold x_1))
    | (intro x_1; clear_value x_1)
    | intro _
    | (with_reducible first | apply State.fillRing_kept | apply State.residentErrors_kept | apply State.armLost_kept | apply State.enterArmed_kept | apply Kept.ite)
    | lift_lets -underBinder
    | split
    | dsimp only

theorem State.startRun_kept {m : Nat} (hm : 450572 &&& m = 450572) {s : State} {x_s : State} {x_b : Bay} (h_x_s : Kept m s x_s) : Kept m s (State.startRun x_s x_b) := by
  unfold State.startRun
  repeat' first
    | (with_reducible first | assumption | exact Kept.refl _)
    | exact sub_trans (b := 450572) (by decide) hm
    | (intro x_1; refine (fun hx : Kept m s x_1 => ?_) ?_; (clear_value x_1); rotate_left; (unfold x_1))
    | (intro x_1; clear_value x_1)
    | intro _
    | (with_reducible first | apply State.occur_kept | apply State.setState_kept | apply State.modBay_kept | apply State.fetched_kept | apply State.toVendor_kept | apply State.capRun_kept | apply State.setB_kept | apply State.arrive_kept | apply Kept.ite)
    | lift_lets -underBinder
    | split
    | dsimp only
    | (refine Kept.upd ?_ ?_)

theorem State.startBay_kept {m : Nat} (hm : 1074192396 &&& m = 1074192396) {s : State} {x_s : State} {x_b : Bay} (h_x_s : Kept m s x_s) : Kept m s (State.startBay x_s x_b) := by
  unfold State.startBay
  repeat' first
    | (with_reducible first | assumption | exact Kept.refl _)
    | exact sub_trans (b := 1074192396) (by decide) hm
    | intro _
    | (with_reducible first | apply State.dropEvent_kept | apply State.startRun_kept | apply State.modBay_kept | apply Kept.ite)
    | split
    | (refine Kept.upd ?_ ?_)

theorem State.startSite_kept {m : Nat} (hm : 1074192396 &&& m = 1074192396) {s : State} {x_s : State} {x_i : Site} (h_x_s : Kept m s x_s) : Kept m s (State.startSite x_s x_i) := by
  unfold State.startSite
  repeat' first
    | (with_reducible first | assumption | exact Kept.refl _)
    | exact sub_trans (b := 1074192396) (by decide) hm
    | (with_reducible first | apply State.each_kept | apply State.startBay_kept)

theorem State.startBy_kept {m : Nat} (hm : 1074192396 &&& m = 1074192396) {s : State} {x_s : State} {x_cls : Nat} {x_n : Nat} (h_x_s : Kept m s x_s) : Kept m s (State.startBy x_s x_cls x_n) := by
  unfold State.startBy
  repeat' first
    | (with_reducible first | assumption | exact Kept.refl _)
    | exact sub_trans (b := 1074192396) (by decide) hm
    | intro _
    | (with_reducible first | apply State.each_kept | apply State.startBay_kept | apply Kept.ite)
    | split

theorem State.patternEnd_kept {m : Nat} (hm : 418316 &&& m = 418316) {s : State} {x_s : State} {x_b : Bay} (h_x_s : Kept m s x_s) : Kept m s (State.patternEnd x_s x_b) := by
  unfold State.patternEnd
  repeat' first
    | (with_reducible first | assumption | exact Kept.refl _)
    | exact sub_trans (b := 418316) (by decide) hm
    | (intro x_1; refine (fun hx : Kept m s x_1 => ?_) ?_; (clear_value x_1); rotate_left; (unfold x_1))
    | (intro x_1; clear_value x_1)
    | intro _
    | (with_reducible first | apply State.driveSite_kept | apply State.registerDue_kept | apply State.enterIdle_kept | apply State.occur_kept | apply State.capStop_kept | apply State.endUnderrun_kept | apply Kept.ite)
    | lift_lets -underBinder
    | split
    | dsimp only

theorem State.stateRequest_kept {m : Nat} (hm : 393229 &&& m = 393229) {s : State} {x_s : State} {x_b : Bay} {x_epoch : BitVec 16} {x_off : Bool} (x_k : State → State) (h_x_s : Kept m s x_s) (h_x_k : ∀ (v0 : State), Kept m s v0 → Kept m s (x_k v0)) : Kept m s (State.stateRequest x_s x_b x_epoch x_off x_k) := by
  unfold State.stateRequest
  repeat' first
    | (with_reducible first | assumption | exact Kept.refl _)
    | exact sub_trans (b := 393229) (by decide) hm
    | (with_reducible first | apply h_x_k | apply State.answer_kept | apply State.stale_kept | apply Kept.ite)

theorem State.inStates_kept {m : Nat} (hm : 1 &&& m = 1) {s : State} {x_s : State} {x_b : Bay} {x_from_ : List Nat} (x_k : State → State) (h_x_s : Kept m s x_s) (h_x_k : ∀ (v0 : State), Kept m s v0 → Kept m s (x_k v0)) : Kept m s (State.inStates x_s x_b x_from_ x_k) := by
  unfold State.inStates
  repeat' first
    | (with_reducible first | assumption | exact Kept.refl _)
    | exact sub_trans (b := 1) (by decide) hm
    | (with_reducible first | apply h_x_k | apply State.ok_kept | apply State.answer_kept | apply Kept.ite)

theorem State.toIdle_kept {m : Nat} (hm : 418313 &&& m = 418313) {s : State} {x_s : State} {x_b : Bay} (h_x_s : Kept m s x_s) : Kept m s (State.toIdle x_s x_b) := by
  unfold State.toIdle
  repeat' first
    | (with_reducible first | assumption | exact Kept.refl _)
    | exact sub_trans (b := 418313) (by decide) hm
    | (with_reducible first | apply State.answer_kept | apply State.ok_kept | apply State.enterIdle_kept | apply State.inhibitBay_kept | apply State.assayAbort_kept | apply Kept.ite)

theorem State.disarm_kept {m : Nat} (hm : 401933 &&& m = 401933) {s : State} {x_s : State} {x_b : Bay} (h_x_s : Kept m s x_s) : Kept m s (State.disarm x_s x_b) := by
  unfold State.disarm
  repeat' first
    | (with_reducible first | assumption | exact Kept.refl _)
    | exact sub_trans (b := 401933) (by decide) hm
    | (with_reducible first | apply State.ok_kept | apply State.enterIdle_kept | apply State.capStop_kept | apply State.endArming_kept | apply State.answer_kept | apply Kept.ite)
    | split

theorem State.hostStart_kept {m : Nat} (hm : 1074192397 &&& m = 1074192397) {s : State} {x_s : State} {x_i : Site} {x_epoch : BitVec 16} (h_x_s : Kept m s x_s) : Kept m s (State.hostStart x_s x_i x_epoch) := by
  unfold State.hostStart
  repeat' first
    | (with_reducible first | assumption | exact Kept.refl _)
    | exact sub_trans (b := 1074192397) (by decide) hm
    | intro _
    | (with_reducible first | apply State.answer_kept | apply State.hostBay_kept | apply State.inStates_kept | apply State.startBay_kept | exact KeptO.none | apply KeptO.some | apply KeptO.ite | apply Kept.ite)
    | split
    | (refine Kept.upd ?_ ?_)

theorem State.claimWrite_kept {m : Nat} (hm : 265 &&& m = 265) {s : State} {x_s : State} {x_r : Resource} {x_owner : Nat} {x_feature : Nat} (h_x_s : Kept m s x_s) : Kept m s (State.claimWrite x_s x_r x_owner x_feature) := by
  unfold State.claimWrite
  repeat' first
    | (with_reducible first | assumption | exact Kept.refl _)
    | exact sub_trans (b := 265) (by decide) hm
    | intro _
    | (with_reducible first | apply State.answer_kept | apply State.answerD_kept | apply State.ok_kept | apply State.setClaim_kept | exact KeptO.none | apply KeptO.some | apply KeptO.ite | apply Kept.ite)
    | split
    | (refine Kept.upd ?_ ?_)

theorem State.releaseSpare_kept {m : Nat} (hm : 8456 &&& m = 8456) {s : State} {x_s : State} {x_r : Resource} (h_x_s : Kept m s x_s) : Kept m s (State.releaseSpare x_s x_r) := by
  unfold State.releaseSpare
  repeat' first
    | (with_reducible first | assumption | exact Kept.refl _)
    | exact sub_trans (b := 8456) (by decide) hm
    | (with_reducible first | apply State.ownPath_kept | apply State.rollAbort_kept)
    | split
    | (refine Kept.upd ?_ ?_)

theorem State.releaseWrite_kept {m : Nat} (hm : 8457 &&& m = 8457) {s : State} {x_s : State} {x_r : Resource} (h_x_s : Kept m s x_s) : Kept m s (State.releaseWrite x_s x_r) := by
  unfold State.releaseWrite
  repeat' first
    | (with_reducible first | assumption | exact Kept.refl _)
    | exact sub_trans (b := 8457) (by decide) hm
    | intro _
    | (with_reducible first | apply State.answer_kept | apply State.ok_kept | apply State.freeClaim_kept | apply State.releaseSpare_kept | apply Kept.ite)

theorem State.latch_kept {m : Nat} (hm : 8192 &&& m = 8192) {s : State} {x_s : State} {x_b : Bay} {x_n : Nat} (h_x_s : Kept m s x_s) : Kept m s (State.latch x_s x_b x_n) := by
  unfold State.latch
  repeat' first
    | (with_reducible first | assumption | exact Kept.refl _)
    | exact sub_trans (b := 8192) (by decide) hm
    | intro _
    | with_reducible apply State.modBay_kept
    | (refine Kept.upd ?_ ?_)

theorem State.ridgeAt_kept {m : Nat} (hm : 1074159628 &&& m = 1074159628) {s : State} {x_s : State} {x_b : Bay} {x_line : Nat} {x_level : Bool} (h_x_s : Kept m s x_s) : Kept m s (State.ridgeAt x_s x_b x_line x_level) := by
  unfold State.ridgeAt
  repeat' first
    | (with_reducible first | assumption | exact Kept.refl _)
    | exact sub_trans (b := 1074159628) (by decide) hm
    | (intro x_1; refine (fun hx : Kept m s x_1 => ?_) ?_; (clear_value x_1); rotate_left; (unfold x_1))
    | (intro x_1; clear_value x_1)
    | intro _
    | (with_reducible first | apply State.dropEvent_kept | apply State.postJump_kept | apply State.load_kept | apply State.edgeTrigger_kept | apply Kept.ite)
    | lift_lets -underBinder

theorem State.ridgeEvent_kept {m : Nat} (hm : 1074192908 &&& m = 1074192908) {s : State} {x_s : State} {x_line : Fin 32} {x_level : Bool} (h_x_s : Kept m s x_s) : Kept m s (State.ridgeEvent x_s x_line x_level) := by
  unfold State.ridgeEvent
  repeat' first
    | (with_reducible first | assumption | exact Kept.refl _)
    | exact sub_trans (b := 1074192908) (by decide) hm
    | (intro x_1; refine (fun hx : Kept m s x_1 => ?_) ?_; (clear_value x_1); rotate_left; (unfold x_1))
    | (intro x_1; clear_value x_1)
    | (intro p; cases p <;> first | exact Or.inl (bit_of (a := 1074192908) hm rfl) | exact Or.inr rfl)
    | intro _
    | (with_reducible first | apply State.each_kept | apply State.ridgeAt_kept | apply State.startBy_kept | apply Kept.ite)
    | lift_lets -underBinder
    | (refine Kept.upd ?_ ?_)

theorem State.trigEdge_kept {m : Nat} (hm : 1074192396 &&& m = 1074192396) {s : State} {x_s : State} {x_n : Fin 8} (h_x_s : Kept m s x_s) : Kept m s (State.trigEdge x_s x_n) := by
  unfold State.trigEdge
  repeat' first
    | (with_reducible first | assumption | exact Kept.refl _)
    | exact sub_trans (b := 1074192396) (by decide) hm
    | (intro x_1; refine (fun hx : Kept m s x_1 => ?_) ?_; (clear_value x_1); rotate_left; (unfold x_1))
    | (intro x_1; clear_value x_1)
    | intro _
    | (with_reducible first | apply State.each_kept | apply State.dropEvent_kept | apply State.latch_kept | apply State.edgeTrigger_kept | apply State.startBy_kept | apply Kept.ite)
    | lift_lets -underBinder

theorem State.atMembers_kept {m : Nat} (hm : 1073741824 &&& m = 1073741824) {s : State} {x_s : State} {x_i : Site} (x_k : State → Bay → State) (h_x_s : Kept m s x_s) (h_x_k : ∀ (v0 : State) (v1 : Bay), Kept m s v0 → Kept m s (x_k v0 v1)) : Kept m s (State.atMembers x_s x_i x_k) := by
  unfold State.atMembers
  repeat' first
    | (with_reducible first | assumption | exact Kept.refl _)
    | exact sub_trans (b := 1073741824) (by decide) hm
    | intro _
    | (with_reducible first | apply h_x_k | apply State.each_kept | apply State.dropEvent_kept | apply Kept.ite)
    | split

theorem State.purlinFreeze_kept {m : Nat} (hm : 401420 &&& m = 401420) {s : State} {x_s : State} {x_b : Bay} (h_x_s : Kept m s x_s) : Kept m s (State.purlinFreeze x_s x_b) := by
  unfold State.purlinFreeze
  repeat' first
    | (with_reducible first | assumption | exact Kept.refl _)
    | exact sub_trans (b := 401420) (by decide) hm
    | (with_reducible first | apply State.freezeAt_kept | apply Kept.ite)
    | split

theorem State.purlinEvent_kept {m : Nat} (hm : 1074192908 &&& m = 1074192908) {s : State} {x_s : State} {x_i : Site} {x_k : PurlinKind} (h_x_s : Kept m s x_s) : Kept m s (State.purlinEvent x_s x_i x_k) := by
  unfold State.purlinEvent
  repeat' first
    | (with_reducible first | assumption | exact Kept.refl _)
    | exact sub_trans (b := 1074192908) (by decide) hm
    | (intro x_1; refine (fun hx : Kept m s x_1 => ?_) ?_; (clear_value x_1); rotate_left; (unfold x_1))
    | (intro x_1; clear_value x_1)
    | (intro p; cases p <;> first | exact Or.inl (bit_of (a := 1074192908) hm rfl) | exact Or.inr rfl)
    | intro _
    | (with_reducible first | apply State.startSite_kept | apply State.atMembers_kept | apply State.modBay_kept | apply State.purlinFreeze_kept | apply Kept.ite)
    | lift_lets -underBinder
    | split
    | dsimp only
    | (refine Kept.upd ?_ ?_)

theorem State.changeBclk_kept {m : Nat} (hm : 401673 &&& m = 401673) {s : State} {x_s : State} {x_b : Bay} {x_mhz : Nat} (h_x_s : Kept m s x_s) : Kept m s (State.changeBclk x_s x_b x_mhz) := by
  unfold State.changeBclk
  repeat' first
    | (with_reducible first | assumption | exact Kept.refl _)
    | exact sub_trans (b := 401673) (by decide) hm
    | (intro x_1; refine (fun hx : Kept m s x_1 => ?_) ?_; (clear_value x_1); rotate_left; (unfold x_1))
    | (intro x_1; clear_value x_1)
    | intro _
    | (with_reducible first | apply State.answer_kept | apply State.setO_kept | apply State.armLost_kept | apply State.rollAbort_kept | apply State.modRoll_kept | apply State.ok_kept | apply State.modBay_kept | apply Kept.ite)
    | lift_lets -underBinder
    | split
    | dsimp only
    | (refine Kept.upd ?_ ?_)

theorem execStateRequestOff_kept {m : Nat} (hm : 418573 &&& m = 418573) {s : State} {x_b : Bay} {x_epoch : BitVec 16} {x_s : State} (h_x_s : Kept m s x_s) : KeptN m s (execStateRequestOff x_b x_epoch x_s) := by
  unfold execStateRequestOff
  repeat' first
    | (with_reducible first | assumption | exact Kept.refl _)
    | exact sub_trans (b := 418573) (by decide) hm
    | intro _
    | (with_reducible first | apply State.stateRequest_kept | apply State.inStates_kept | apply State.enterOff_kept | apply KeptN.next | apply KeptN.ite)

theorem execStateRequestSafe_kept {m : Nat} (hm : 419117 &&& m = 419117) {s : State} {x_b : Bay} {x_epoch : BitVec 16} {x_s : State} (h_x_s : Kept m s x_s) : KeptN m s (execStateRequestSafe x_b x_epoch x_s) := by
  unfold execStateRequestSafe
  repeat' first
    | (with_reducible first | assumption | exact Kept.refl _)
    | exact sub_trans (b := 419117) (by decide) hm
    | intro _
    | (with_reducible first | apply State.stateRequest_kept | apply State.ok_kept | apply State.leaveOff_kept | apply State.enterSafe_kept | apply KeptN.next | apply KeptN.ite | apply Kept.ite)

theorem execStateRequestIdle_kept {m : Nat} (hm : 418317 &&& m = 418317) {s : State} {x_b : Bay} {x_epoch : BitVec 16} {x_s : State} (h_x_s : Kept m s x_s) : KeptN m s (execStateRequestIdle x_b x_epoch x_s) := by
  unfold execStateRequestIdle
  repeat' first
    | (with_reducible first | assumption | exact Kept.refl _)
    | exact sub_trans (b := 418317) (by decide) hm
    | intro _
    | (with_reducible first | apply State.stateRequest_kept | apply State.toIdle_kept | apply KeptN.next | apply KeptN.ite)

theorem execStateRequestMaint_kept {m : Nat} (hm : 402189 &&& m = 402189) {s : State} {x_b : Bay} {x_epoch : BitVec 16} {x_s : State} (h_x_s : Kept m s x_s) : KeptN m s (execStateRequestMaint x_b x_epoch x_s) := by
  unfold execStateRequestMaint
  repeat' first
    | (with_reducible first | assumption | exact Kept.refl _)
    | exact sub_trans (b := 402189) (by decide) hm
    | intro _
    | (with_reducible first | apply State.stateRequest_kept | apply State.inStates_kept | apply State.enterMaint_kept | apply KeptN.next | apply KeptN.ite)

theorem execStateRequestPause_kept {m : Nat} (hm : 401421 &&& m = 401421) {s : State} {x_b : Bay} {x_epoch : BitVec 16} {x_s : State} (h_x_s : Kept m s x_s) : KeptN m s (execStateRequestPause x_b x_epoch x_s) := by
  unfold execStateRequestPause
  repeat' first
    | (with_reducible first | assumption | exact Kept.refl _)
    | exact sub_trans (b := 401421) (by decide) hm
    | intro _
    | (with_reducible first | apply State.stateRequest_kept | apply State.inStates_kept | apply State.modBay_kept | apply KeptN.next | apply KeptN.ite)
    | (refine Kept.upd ?_ ?_)

theorem execStateRequestRun_kept {m : Nat} (hm : 401421 &&& m = 401421) {s : State} {x_b : Bay} {x_epoch : BitVec 16} {x_s : State} (h_x_s : Kept m s x_s) : KeptN m s (execStateRequestRun x_b x_epoch x_s) := by
  unfold execStateRequestRun
  repeat' first
    | (with_reducible first | assumption | exact Kept.refl _)
    | exact sub_trans (b := 401421) (by decide) hm
    | intro _
    | (with_reducible first | apply State.stateRequest_kept | apply State.inStates_kept | apply State.modBay_kept | apply KeptN.next | apply KeptN.ite)
    | (refine Kept.upd ?_ ?_)

theorem execStateRequestArm_kept {m : Nat} (hm : 401421 &&& m = 401421) {s : State} {x_b : Bay} {x_epoch : BitVec 16} {x_s : State} (h_x_s : Kept m s x_s) : KeptN m s (execStateRequestArm x_b x_epoch x_s) := by
  unfold execStateRequestArm
  repeat' first
    | (with_reducible first | assumption | exact Kept.refl _)
    | exact sub_trans (b := 401421) (by decide) hm
    | intro _
    | (with_reducible first | apply State.stateRequest_kept | apply State.arm_kept | apply KeptN.next | apply KeptN.ite)

theorem execStateRequestDisarm_kept {m : Nat} (hm : 401933 &&& m = 401933) {s : State} {x_b : Bay} {x_epoch : BitVec 16} {x_s : State} (h_x_s : Kept m s x_s) : KeptN m s (execStateRequestDisarm x_b x_epoch x_s) := by
  unfold execStateRequestDisarm
  repeat' first
    | (with_reducible first | assumption | exact Kept.refl _)
    | exact sub_trans (b := 401933) (by decide) hm
    | intro _
    | (with_reducible first | apply State.stateRequest_kept | apply State.disarm_kept | apply KeptN.next | apply KeptN.ite)

theorem execStateRequestStop_kept {m : Nat} (hm : 401421 &&& m = 401421) {s : State} {x_b : Bay} {x_epoch : BitVec 16} {x_s : State} (h_x_s : Kept m s x_s) : KeptN m s (execStateRequestStop x_b x_epoch x_s) := by
  unfold execStateRequestStop
  repeat' first
    | (with_reducible first | assumption | exact Kept.refl _)
    | exact sub_trans (b := 401421) (by decide) hm
    | intro _
    | (with_reducible first | apply State.stateRequest_kept | apply State.inStates_kept | apply State.modBay_kept | apply KeptN.next | apply KeptN.ite)
    | (refine Kept.upd ?_ ?_)

theorem execArmFillComplete_kept {m : Nat} (hm : 452300 &&& m = 452300) {s : State} {x_b : Bay} {x_bad : List Nat} {x_s : State} (h_x_s : Kept m s x_s) : KeptN m s (execArmFillComplete x_b x_bad x_s) := by
  unfold execArmFillComplete
  repeat' first
    | (with_reducible first | assumption | exact Kept.refl _)
    | exact sub_trans (b := 452300) (by decide) hm
    | (with_reducible first | apply State.armFilled_kept | apply KeptN.next | apply KeptN.ite)

theorem execLaneFedArmReady_kept {m : Nat} (hm : 452300 &&& m = 452300) {s : State} {x_b : Bay} {x_bad : List Nat} {x_s : State} (h_x_s : Kept m s x_s) : KeptN m s (execLaneFedArmReady x_b x_bad x_s) := by
  unfold execLaneFedArmReady
  repeat' first
    | (with_reducible first | assumption | exact Kept.refl _)
    | exact sub_trans (b := 452300) (by decide) hm
    | (with_reducible first | apply State.fedReady_kept | apply KeptN.next | apply KeptN.ite)

theorem execHostStart_kept {m : Nat} (hm : 1074192397 &&& m = 1074192397) {s : State} {x_site : Site} {x_epoch : BitVec 16} {x_s : State} (h_x_s : Kept m s x_s) : KeptN m s (execHostStart x_site x_epoch x_s) := by
  unfold execHostStart
  repeat' first
    | (with_reducible first | assumption | exact Kept.refl _)
    | exact sub_trans (b := 1074192397) (by decide) hm
    | (with_reducible first | apply State.hostStart_kept | apply KeptN.next | apply KeptN.ite)

theorem execPatternEnd_kept {m : Nat} (hm : 418316 &&& m = 418316) {s : State} {x_b : Bay} {x_s : State} (h_x_s : Kept m s x_s) : KeptN m s (execPatternEnd x_b x_s) := by
  unfold execPatternEnd
  repeat' first
    | (with_reducible first | assumption | exact Kept.refl _)
    | exact sub_trans (b := 418316) (by decide) hm
    | (with_reducible first | apply State.patternEnd_kept | apply KeptN.next | apply KeptN.ite)

theorem execQuadRetire_kept {m : Nat} (hm : 25096 &&& m = 25096) {s : State} {x_b : Bay} {x_host : BitVec 4} {x_s : State} (h_x_s : Kept m s x_s) : KeptN m s (execQuadRetire x_b x_host x_s) := by
  unfold execQuadRetire
  repeat' first
    | (with_reducible first | assumption | exact Kept.refl _)
    | exact sub_trans (b := 25096) (by decide) hm
    | (intro x_1; refine (fun hx : Kept m s x_1 => ?_) ?_; (clear_value x_1); rotate_left; (unfold x_1))
    | (intro x_1; clear_value x_1)
    | intro _
    | (with_reducible first | apply State.retireSoon_kept | apply State.retireDue_kept | apply KeptN.next | apply KeptN.ite | apply Kept.ite)
    | lift_lets -underBinder
    | split
    | dsimp only

theorem State.hostClaim_kept {m : Nat} (hm : 393229 &&& m = 393229) {s : State} {x_s : State} {x_r : Resource} {x_epoch : BitVec 16} (x_k : State → State) (h_x_s : Kept m s x_s) (h_x_k : ∀ (v0 : State), Kept m s v0 → Kept m s (x_k v0)) : Kept m s (State.hostClaim x_s x_r x_epoch x_k) := by
  unfold State.hostClaim
  repeat' first
    | (with_reducible first | assumption | exact Kept.refl _)
    | exact sub_trans (b := 393229) (by decide) hm
    | intro _
    | (with_reducible first | apply h_x_k | apply State.hostFirm_kept | apply State.hostBay_kept)
    | split
    | (refine Kept.upd ?_ ?_)

theorem execResourceClaim_kept {m : Nat} (hm : 393485 &&& m = 393485) {s : State} {x_r : Resource} {x_epoch : BitVec 16} {x_feature : BitVec 8} {x_owner : BitVec 12} {x_s : State} (h_x_s : Kept m s x_s) : KeptN m s (execResourceClaim x_r x_epoch x_feature x_owner x_s) := by
  unfold execResourceClaim
  repeat' first
    | (with_reducible first | assumption | exact Kept.refl _)
    | exact sub_trans (b := 393485) (by decide) hm
    | intro _
    | (with_reducible first | apply State.hostClaim_kept | apply State.claimWrite_kept | apply KeptN.next | apply KeptN.ite)

theorem execResourceRelease_kept {m : Nat} (hm : 401677 &&& m = 401677) {s : State} {x_r : Resource} {x_epoch : BitVec 16} {x_s : State} (h_x_s : Kept m s x_s) : KeptN m s (execResourceRelease x_r x_epoch x_s) := by
  unfold execResourceRelease
  repeat' first
    | (with_reducible first | assumption | exact Kept.refl _)
    | exact sub_trans (b := 401677) (by decide) hm
    | intro _
    | (with_reducible first | apply State.hostClaim_kept | apply State.releaseWrite_kept | apply KeptN.next | apply KeptN.ite)

theorem execRidgeEvent_kept {m : Nat} (hm : 1074192908 &&& m = 1074192908) {s : State} {x_line : Fin 32} {x_level : Bool} {x_s : State} (h_x_s : Kept m s x_s) : KeptN m s (execRidgeEvent x_line x_level x_s) := by
  unfold execRidgeEvent
  repeat' first
    | (with_reducible first | assumption | exact Kept.refl _)
    | exact sub_trans (b := 1074192908) (by decide) hm
    | (with_reducible first | apply State.ridgeEvent_kept | apply KeptN.next | apply KeptN.ite)

theorem execPurlinEvent_kept {m : Nat} (hm : 1074192908 &&& m = 1074192908) {s : State} {x_site : Site} {x_kind : PurlinKind} {x_s : State} (h_x_s : Kept m s x_s) : KeptN m s (execPurlinEvent x_site x_kind x_s) := by
  unfold execPurlinEvent
  repeat' first
    | (with_reducible first | assumption | exact Kept.refl _)
    | exact sub_trans (b := 1074192908) (by decide) hm
    | (with_reducible first | apply State.purlinEvent_kept | apply KeptN.next | apply KeptN.ite)

theorem execTrigEdge_kept {m : Nat} (hm : 1074192396 &&& m = 1074192396) {s : State} {x_n : Fin 8} {x__rising : Bool} {x_s : State} (h_x_s : Kept m s x_s) : KeptN m s (execTrigEdge x_n x__rising x_s) := by
  unfold execTrigEdge
  repeat' first
    | (with_reducible first | assumption | exact Kept.refl _)
    | exact sub_trans (b := 1074192396) (by decide) hm
    | (with_reducible first | apply State.trigEdge_kept | apply KeptN.next | apply KeptN.ite)

theorem execBclkChange_kept {m : Nat} (hm : 401677 &&& m = 401677) {s : State} {x_b : Bay} {x_epoch : BitVec 16} {x_mhz : Nat} {x_s : State} (h_x_s : Kept m s x_s) : KeptN m s (execBclkChange x_b x_epoch x_mhz x_s) := by
  unfold execBclkChange
  repeat' first
    | (with_reducible first | assumption | exact Kept.refl _)
    | exact sub_trans (b := 401677) (by decide) hm
    | intro _
    | (with_reducible first | apply State.hostBayFirm_kept | apply State.changeBclk_kept | apply KeptN.next | apply KeptN.ite)

theorem execClockUnlock_kept {m : Nat} (hm : 450568 &&& m = 450568) {s : State} {x_b : Bay} {x_fine : Bool} {x_s : State} (h_x_s : Kept m s x_s) : KeptN m s (execClockUnlock x_b x_fine x_s) := by
  unfold execClockUnlock
  repeat' first
    | (with_reducible first | assumption | exact Kept.refl _)
    | exact sub_trans (b := 450568) (by decide) hm
    | (intro x_1; refine (fun hx : Kept m s x_1 => ?_) ?_; (clear_value x_1); rotate_left; (unfold x_1))
    | (intro x_1; clear_value x_1)
    | intro _
    | (with_reducible first | apply State.modBay_kept | apply State.unlock_kept | apply State.armLost_kept | apply State.fault_kept | apply KeptN.next | apply KeptN.ite | apply Kept.ite)
    | lift_lets -underBinder
    | split
    | dsimp only
    | (refine Kept.upd ?_ ?_)

end Sys2Proof.Machine
end

