-- ==== Sys2Proof/Laws/KeptBench.lean ====
section
/-! SUPPORT. What the operations of Machine/Bench.lean keep. -/

set_option linter.all false

namespace Sys2Proof.Machine

theorem State.setG_kept {m : Nat} (hm : 8 &&& m = 8) {s : State} {x_s : State} {x_g : Nat} {x_sub : Nat} {x_v : Nat} (h_x_s : Kept m s x_s) : Kept m s (State.setG x_s x_g x_sub x_v) := by
  unfold State.setG
  repeat' first
    | (with_reducible first | assumption | exact Kept.refl _)
    | exact sub_trans (b := 8) (by decide) hm
    | with_reducible apply State.setO_kept

theorem State.addG_kept {m : Nat} (hm : 8 &&& m = 8) {s : State} {x_s : State} {x_g : Nat} {x_sub : Nat} {x_n : Nat} (h_x_s : Kept m s x_s) : Kept m s (State.addG x_s x_g x_sub x_n) := by
  unfold State.addG
  repeat' first
    | (with_reducible first | assumption | exact Kept.refl _)
    | exact sub_trans (b := 8) (by decide) hm
    | with_reducible apply State.setG_kept

theorem State.modBench_kept {m : Nat} (hm : 4194304 &&& m = 4194304) {s : State} {x_s : State} {x_n : Bench} {x_f : BenchU → BenchU} (h_x_s : Kept m s x_s) : Kept m s (State.modBench x_s x_n x_f) := by
  unfold State.modBench
  repeat' first
    | (with_reducible first | assumption | exact Kept.refl _)
    | (intro p; cases p <;> first | exact Or.inl (bit_of (a := 4194304) hm rfl) | exact Or.inr rfl)
    | (refine Kept.upd ?_ ?_)

theorem State.modCore_kept {m : Nat} (hm : 4194304 &&& m = 4194304) {s : State} {x_s : State} {x_n : Bench} {x_c : Fin 16} {x_f : Core → Core} (h_x_s : Kept m s x_s) : Kept m s (State.modCore x_s x_n x_c x_f) := by
  unfold State.modCore
  repeat' first
    | (with_reducible first | assumption | exact Kept.refl _)
    | exact sub_trans (b := 4194304) (by decide) hm
    | intro _
    | with_reducible apply State.modBench_kept
    | (refine Kept.upd ?_ ?_)

theorem State.showCatalogue_kept {m : Nat} (hm : 8 &&& m = 8) {s : State} {x_s : State} (h_x_s : Kept m s x_s) : Kept m s (State.showCatalogue x_s) := by
  unfold State.showCatalogue
  repeat' first
    | (with_reducible first | assumption | exact Kept.refl _)
    | exact sub_trans (b := 8) (by decide) hm
    | (intro x_1; refine (fun hx : Kept m s x_1 => ?_) ?_; (clear_value x_1); rotate_left; (unfold x_1))
    | (intro x_1; clear_value x_1)
    | intro _
    | (with_reducible first | apply State.setO_kept | exact KeptO.none | apply KeptO.some | apply KeptO.ite | apply Kept.ite)
    | lift_lets -underBinder
    | split
    | (refine Kept.upd ?_ ?_)

theorem State.setBench_kept {m : Nat} (hm : 8 &&& m = 8) {s : State} {x_s : State} {x_n : Bench} {x_st : Nat} (h_x_s : Kept m s x_s) : Kept m s (State.setBench x_s x_n x_st) := by
  unfold State.setBench
  repeat' first
    | (with_reducible first | assumption | exact Kept.refl _)
    | exact sub_trans (b := 8) (by decide) hm
    | (with_reducible first | apply State.showCatalogue_kept | apply State.setO_kept)

theorem State.dropRef_kept {m : Nat} (hm : 4194304 &&& m = 4194304) {s : State} {x_s : State} {x_g : Nat} {x_value : Nat} (h_x_s : Kept m s x_s) : Kept m s (State.dropRef x_s x_g x_value) := by
  unfold State.dropRef
  repeat' first
    | (with_reducible first | assumption | exact Kept.refl _)
    | (intro p; cases p <;> first | exact Or.inl (bit_of (a := 4194304) hm rfl) | exact Or.inr rfl)
    | intro _
    | with_reducible apply Kept.ite
    | (refine Kept.upd ?_ ?_)

theorem State.addRef_kept {m : Nat} (hm : 4194304 &&& m = 4194304) {s : State} {x_s : State} {x_g : Nat} {x_value : Nat} {x_copies : Nat} (h_x_s : Kept m s x_s) : Kept m s (State.addRef x_s x_g x_value x_copies) := by
  unfold State.addRef
  repeat' first
    | (with_reducible first | assumption | exact Kept.refl _)
    | (intro p; cases p <;> first | exact Or.inl (bit_of (a := 4194304) hm rfl) | exact Or.inr rfl)
    | intro _
    | with_reducible apply Kept.ite
    | (refine Kept.upd ?_ ?_)

theorem State.consumeOps_kept {m : Nat} (hm : 4194304 &&& m = 4194304) {s : State} {x_s : State} {x_w : Work} (h_x_s : Kept m s x_s) : Kept m s (State.consumeOps x_s x_w) := by
  unfold State.consumeOps
  repeat' first
    | (with_reducible first | assumption | exact Kept.refl _)
    | exact sub_trans (b := 4194304) (by decide) hm
    | intro _
    | (with_reducible first | apply State.each_kept | apply State.dropRef_kept)

theorem State.discard_kept {m : Nat} (hm : 4194312 &&& m = 4194312) {s : State} {x_s : State} {x_t : List Token} (h_x_s : Kept m s x_s) : Kept m s (State.discard x_s x_t) := by
  unfold State.discard
  repeat' first
    | (with_reducible first | assumption | exact Kept.refl _)
    | exact sub_trans (b := 4194312) (by decide) hm
    | intro _
    | (with_reducible first | apply State.each_kept | apply State.addG_kept | apply State.dropRef_kept | apply Kept.ite)

theorem State.countError_kept {m : Nat} (hm : 393224 &&& m = 393224) {s : State} {x_s : State} {x_g : Nat} {x_n : Nat} {x_code : Nat} (h_x_s : Kept m s x_s) : Kept m s (State.countError x_s x_g x_n x_code) := by
  unfold State.countError
  repeat' first
    | (with_reducible first | assumption | exact Kept.refl _)
    | exact sub_trans (b := 393224) (by decide) hm
    | (intro x_1; refine (fun hx : Kept m s x_1 => ?_) ?_; (clear_value x_1); rotate_left; (unfold x_1))
    | (intro x_1; clear_value x_1)
    | intro _
    | (with_reducible first | apply State.setO_kept | apply State.event_kept)
    | lift_lets -underBinder

theorem State.fire_kept {m : Nat} (hm : 4194304 &&& m = 4194304) {s : State} {x_s : State} {x_w : Work} (h_x_s : Kept m s x_s) : Kept m s (State.fire x_s x_w) := by
  unfold State.fire
  repeat' first
    | (with_reducible first | assumption | exact Kept.refl _)
    | exact sub_trans (b := 4194304) (by decide) hm
    | (intro x_1; refine (fun hx : Kept m s x_1 => ?_) ?_; (clear_value x_1); rotate_left; (unfold x_1))
    | (intro x_1; clear_value x_1)
    | (intro p; cases p <;> first | exact Or.inl (bit_of (a := 4194304) hm rfl) | exact Or.inr rfl)
    | intro _
    | (with_reducible first | apply State.modBench_kept | apply Kept.ite)
    | lift_lets -underBinder
    | split
    | dsimp only
    | (refine Kept.upd ?_ ?_)

theorem State.collide_kept {m : Nat} (hm : 4227080 &&& m = 4227080) {s : State} {x_s : State} {x_t : Token} (h_x_s : Kept m s x_s) : Kept m s (State.collide x_s x_t) := by
  unfold State.collide
  repeat' first
    | (with_reducible first | assumption | exact Kept.refl _)
    | exact sub_trans (b := 4227080) (by decide) hm
    | (with_reducible first | apply State.fault_kept | apply State.discard_kept)

theorem State.takeToken_kept {m : Nat} (hm : 4227080 &&& m = 4227080) {s : State} {x_s : State} {x_t : Token} (h_x_s : Kept m s x_s) : KeptO m s (State.takeToken x_s x_t) := by
  unfold State.takeToken
  repeat' first
    | (with_reducible first | assumption | exact Kept.refl _)
    | exact sub_trans (b := 4227080) (by decide) hm
    | (intro x_1; refine (fun hx : Kept m s x_1 => ?_) ?_; (clear_value x_1); rotate_left; (unfold x_1))
    | (intro x_1; clear_value x_1)
    | (intro p; cases p <;> first | exact Or.inl (bit_of (a := 4227080) hm rfl) | exact Or.inr rfl)
    | intro _
    | (with_reducible first | apply State.collide_kept | apply State.fire_kept | exact KeptO.none | apply KeptO.some | apply KeptO.ite | apply Kept.ite)
    | lift_lets -underBinder
    | split
    | dsimp only
    | (refine Kept.upd ?_ ?_)

theorem State.outside_kept {m : Nat} (hm : 4227080 &&& m = 4227080) {s : State} {x_s : State} {x_t : Token} (h_x_s : Kept m s x_s) : KeptO m s (State.outside x_s x_t) := by
  unfold State.outside
  repeat' first
    | (with_reducible first | assumption | exact Kept.refl _)
    | exact sub_trans (b := 4227080) (by decide) hm
    | (with_reducible first | apply State.takeToken_kept | refine (State.takeToken_kept ?_ ?_).out (by assumption) | exact KeptO.none | apply KeptO.some | apply KeptO.ite | apply Kept.ite)

theorem State.enterReady_kept {m : Nat} (hm : 4194304 &&& m = 4194304) {s : State} {x_s : State} (h_x_s : Kept m s x_s) : Kept m s (State.enterReady x_s) := by
  unfold State.enterReady
  repeat' first
    | (with_reducible first | assumption | exact Kept.refl _)
    | exact sub_trans (b := 4194304) (by decide) hm
    | (intro x_1; refine (fun hx : Kept m s x_1 => ?_) ?_; (clear_value x_1); rotate_left; (unfold x_1))
    | (intro x_1; clear_value x_1)
    | (intro p; cases p <;> first | exact Or.inl (bit_of (a := 4194304) hm rfl) | exact Or.inr rfl)
    | intro _
    | (with_reducible first | apply State.each_kept | apply State.modBench_kept | apply Kept.ite)
    | lift_lets -underBinder
    | (refine Kept.upd ?_ ?_)

theorem State.startWork_kept {m : Nat} (hm : 4194304 &&& m = 4194304) {s : State} {x_s : State} {x_n : Bench} {x_c : Fin 16} {x_w : Work} (h_x_s : Kept m s x_s) : Kept m s (State.startWork x_s x_n x_c x_w) := by
  unfold State.startWork
  repeat' first
    | (with_reducible first | assumption | exact Kept.refl _)
    | exact sub_trans (b := 4194304) (by decide) hm
    | (intro x_1; refine (fun hx : Kept m s x_1 => ?_) ?_; (clear_value x_1); rotate_left; (unfold x_1))
    | (intro x_1; clear_value x_1)
    | (intro p; cases p <;> first | exact Or.inl (bit_of (a := 4194304) hm rfl) | exact Or.inr rfl)
    | intro _
    | (with_reducible first | apply State.modCore_kept | exact KeptO.none | apply KeptO.some | apply KeptO.ite)
    | lift_lets -underBinder
    | (refine Kept.upd ?_ ?_)

theorem State.nextWork_kept {m : Nat} (hm : 4194304 &&& m = 4194304) {s : State} {x_s : State} {x_n : Bench} {x_c : Fin 16} (h_x_s : Kept m s x_s) : Kept m s (State.nextWork x_s x_n x_c) := by
  unfold State.nextWork
  repeat' first
    | (with_reducible first | assumption | exact Kept.refl _)
    | exact sub_trans (b := 4194304) (by decide) hm
    | intro _
    | (with_reducible first | apply State.startWork_kept | apply State.modCore_kept | apply Kept.ite | apply Kept.ite1 | apply Kept.ite2)
    | split
    | dsimp only
    | (refine Kept.upd ?_ ?_)

theorem State.postBlocked_kept {m : Nat} (hm : 4227080 &&& m = 4227080) {s : State} {x_s : State} (h_x_s : Kept m s x_s) : Kept m s (State.postBlocked x_s) := by
  unfold State.postBlocked
  repeat' first
    | (with_reducible first | assumption | exact Kept.refl _)
    | exact sub_trans (b := 4227080) (by decide) hm
    | (intro x_1; refine (fun hx : Kept m s x_1 => ?_) ?_; (clear_value x_1); rotate_left; (unfold x_1))
    | (intro x_1; clear_value x_1)
    | (intro p; cases p <;> first | exact Or.inl (bit_of (a := 4227080) hm rfl) | exact Or.inr rfl)
    | intro _
    | (with_reducible first | apply State.each_kept | apply State.takeToken_kept | refine (State.takeToken_kept ?_ ?_).out (by assumption) | apply State.nextWork_kept | exact KeptO.none | apply KeptO.some | apply KeptO.ite | apply Kept.ite | apply Kept.ite1 | apply Kept.ite2)
    | lift_lets -underBinder
    | split
    | dsimp only
    | (refine Kept.upd ?_ ?_)

theorem State.postEnd_kept {m : Nat} (hm : 4194305 &&& m = 4194305) {s : State} {x_s : State} {x_sid : Option Nat} {x_status : Nat} {x_detail : Nat} (h_x_s : Kept m s x_s) : Kept m s (State.postEnd x_s x_sid x_status x_detail) := by
  unfold State.postEnd
  repeat' first
    | (with_reducible first | assumption | exact Kept.refl _)
    | exact sub_trans (b := 4194305) (by decide) hm
    | (intro p; cases p <;> first | exact Or.inl (bit_of (a := 4194305) hm rfl) | exact Or.inr rfl)
    | intro _
    | (with_reducible first | apply State.answerD_kept)
    | split
    | (refine Kept.upd ?_ ?_)

theorem State.postHost_kept {m : Nat} (hm : 4227081 &&& m = 4227081) {s : State} {x_s : State} (h_x_s : Kept m s x_s) : Kept m s (State.postHost x_s) := by
  unfold State.postHost
  repeat' first
    | (with_reducible first | assumption | exact Kept.refl _)
    | exact sub_trans (b := 4227081) (by decide) hm
    | (intro x_1; refine (fun hx : Kept m s x_1 => ?_) ?_; (clear_value x_1); rotate_left; (unfold x_1))
    | (intro x_1; clear_value x_1)
    | (intro p; cases p <;> first | exact Or.inl (bit_of (a := 4227081) hm rfl) | exact Or.inr rfl)
    | intro _
    | (with_reducible first | apply State.each_kept | apply State.postEnd_kept | apply State.addG_kept | apply State.outside_kept | refine (State.outside_kept ?_ ?_).out (by assumption) | exact KeptO.none | apply KeptO.some | apply KeptO.ite | apply Kept.ite)
    | lift_lets -underBinder
    | split
    | dsimp only
    | (refine Kept.upd ?_ ?_)

theorem State.settle_kept {m : Nat} (hm : 4227081 &&& m = 4227081) {s : State} {x_s : State} {x_a1 : Nat} (h_x_s : Kept m s x_s) : Kept m s (State.settle x_s x_a1) := by
  induction x_a1 generalizing x_s with
  | zero =>
    unfold State.settle
    repeat' first
      | (with_reducible first | assumption | exact Kept.refl _)
      | exact sub_trans (b := 4227081) (by decide) hm
      | (intro x_1; refine (fun hx : Kept m s x_1 => ?_) ?_; (clear_value x_1); rotate_left; (unfold x_1))
      | (intro x_1; clear_value x_1)
      | intro _
      | (with_reducible first | apply State.postHost_kept | apply State.postBlocked_kept | apply State.enterReady_kept | apply Kept.ite)
      | lift_lets -underBinder
      | split
      | (dsimp only)
  | succ k ih =>
    unfold State.settle
    repeat' first
      | with_reducible apply ih
      | (with_reducible first | assumption | exact Kept.refl _)
      | exact sub_trans (b := 4227081) (by decide) hm
      | (intro x_1; refine (fun hx : Kept m s x_1 => ?_) ?_; (clear_value x_1); rotate_left; (unfold x_1))
      | (intro x_1; clear_value x_1)
      | intro _
      | (with_reducible first | apply State.postHost_kept | apply State.postBlocked_kept | apply State.enterReady_kept | apply Kept.ite)
      | lift_lets -underBinder
      | split
      | (dsimp only)

theorem State.showSched_kept {m : Nat} (hm : 8 &&& m = 8) {s : State} {x_s : State} (h_x_s : Kept m s x_s) : Kept m s (State.showSched x_s) := by
  unfold State.showSched
  repeat' first
    | (with_reducible first | assumption | exact Kept.refl _)
    | exact sub_trans (b := 8) (by decide) hm
    | (intro x_1; refine (fun hx : Kept m s x_1 => ?_) ?_; (clear_value x_1); rotate_left; (unfold x_1))
    | (intro x_1; clear_value x_1)
    | intro _
    | (with_reducible first | apply State.setO_kept | apply State.each_kept)
    | lift_lets -underBinder
    | dsimp only

theorem State.showPools_kept {m : Nat} (hm : 8 &&& m = 8) {s : State} {x_s : State} {x_g : Nat} (h_x_s : Kept m s x_s) : Kept m s (State.showPools x_s x_g) := by
  unfold State.showPools
  repeat' first
    | (with_reducible first | assumption | exact Kept.refl _)
    | exact sub_trans (b := 8) (by decide) hm
    | intro _
    | (with_reducible first | apply State.each_kept | apply State.setG_kept)

theorem State.sched_kept {m : Nat} (hm : 4227081 &&& m = 4227081) {s : State} {x_s : State} {x_g : Nat} (h_x_s : Kept m s x_s) : Kept m s (State.sched x_s x_g) := by
  unfold State.sched
  repeat' first
    | (with_reducible first | assumption | exact Kept.refl _)
    | exact sub_trans (b := 4227081) (by decide) hm
    | (with_reducible first | apply State.showPools_kept | apply State.showSched_kept | apply State.settle_kept)

theorem State.inner_kept {m : Nat} (hm : 4227080 &&& m = 4227080) {s : State} {x_s : State} {x_core : Nat} {x_t : Token} (h_x_s : Kept m s x_s) : Kept m s (State.inner x_s x_core x_t) := by
  unfold State.inner
  repeat' first
    | (with_reducible first | assumption | exact Kept.refl _)
    | exact sub_trans (b := 4227080) (by decide) hm
    | (intro p; cases p <;> first | exact Or.inl (bit_of (a := 4227080) hm rfl) | exact Or.inr rfl)
    | (with_reducible first | apply State.takeToken_kept | refine (State.takeToken_kept ?_ ?_).out (by assumption) | exact KeptO.none | apply KeptO.some | apply KeptO.ite)
    | split
    | (refine Kept.upd ?_ ?_)

theorem State.nodeError_kept {m : Nat} (hm : 4620296 &&& m = 4620296) {s : State} {x_s : State} {x_g : Nat} {x_n : Nat} {x_seq : Nat} {x_code : Nat} {x_core : Nat} (h_x_s : Kept m s x_s) : Kept m s (State.nodeError x_s x_g x_n x_seq x_code x_core) := by
  unfold State.nodeError
  repeat' first
    | (with_reducible first | assumption | exact Kept.refl _)
    | exact sub_trans (b := 4620296) (by decide) hm
    | (intro x_1; refine (fun hx : Kept m s x_1 => ?_) ?_; (clear_value x_1); rotate_left; (unfold x_1))
    | (intro x_1; clear_value x_1)
    | intro _
    | (with_reducible first | apply State.setG_kept | apply State.addG_kept | apply State.countError_kept | apply State.each_kept | apply State.inner_kept)
    | lift_lets -underBinder
    | split
    | (refine Kept.upd ?_ ?_)

theorem State.endWork_kept {m : Nat} (hm : 4194304 &&& m = 4194304) {s : State} {x_s : State} {x_n : Bench} {x_c : Fin 16} (h_x_s : Kept m s x_s) : Kept m s (State.endWork x_s x_n x_c) := by
  unfold State.endWork
  repeat' first
    | (with_reducible first | assumption | exact Kept.refl _)
    | exact sub_trans (b := 4194304) (by decide) hm
    | intro _
    | (with_reducible first | apply State.nextWork_kept | apply State.modCore_kept)
    | (refine Kept.upd ?_ ?_)

theorem State.giveWork_kept {m : Nat} (hm : 4194304 &&& m = 4194304) {s : State} {x_s : State} {x_n : Bench} {x_c : Fin 16} {x_w : Work} (h_x_s : Kept m s x_s) : Kept m s (State.giveWork x_s x_n x_c x_w) := by
  unfold State.giveWork
  repeat' first
    | (with_reducible first | assumption | exact Kept.refl _)
    | exact sub_trans (b := 4194304) (by decide) hm
    | (intro x_1; refine (fun hx : Kept m s x_1 => ?_) ?_; (clear_value x_1); rotate_left; (unfold x_1))
    | (intro x_1; clear_value x_1)
    | intro _
    | (with_reducible first | apply State.startWork_kept | apply State.modCore_kept | exact KeptO.none | apply KeptO.some | apply KeptO.ite)
    | lift_lets -underBinder
    | split
    | (refine Kept.upd ?_ ?_)

theorem State.inc64_kept {m : Nat} (hm : 8 &&& m = 8) {s : State} {x_s : State} {x_k : Nat} (h_x_s : Kept m s x_s) : Kept m s (State.inc64 x_s x_k) := by
  unfold State.inc64
  repeat' first
    | (with_reducible first | assumption | exact Kept.refl _)
    | exact sub_trans (b := 8) (by decide) hm
    | with_reducible apply State.setO_kept

theorem State.countPool_kept {m : Nat} (hm : 4194312 &&& m = 4194312) {s : State} {x_s : State} {x_n : Bench} (h_x_s : Kept m s x_s) : Kept m s (State.countPool x_s x_n) := by
  unfold State.countPool
  repeat' first
    | (with_reducible first | assumption | exact Kept.refl _)
    | exact sub_trans (b := 4194312) (by decide) hm
    | (intro x_1; refine (fun hx : Kept m s x_1 => ?_) ?_; (clear_value x_1); rotate_left; (unfold x_1))
    | (intro x_1; clear_value x_1)
    | intro _
    | (with_reducible first | apply State.each_kept | apply State.addG_kept | apply State.modBench_kept | apply Kept.ite)
    | lift_lets -underBinder
    | (refine Kept.upd ?_ ?_)

theorem State.dispatchWork_kept {m : Nat} (hm : 4227081 &&& m = 4227081) {s : State} {x_s : State} {x_n : Bench} (h_x_s : Kept m s x_s) : Kept m s (State.dispatchWork x_s x_n) := by
  unfold State.dispatchWork
  repeat' first
    | (with_reducible first | assumption | exact Kept.refl _)
    | exact sub_trans (b := 4227081) (by decide) hm
    | (intro x_1; refine (fun hx : Kept m s x_1 => ?_) ?_; (clear_value x_1); rotate_left; (unfold x_1))
    | (intro x_1; clear_value x_1)
    | intro _
    | (with_reducible first | apply State.countPool_kept | apply State.showSched_kept | apply State.modBench_kept | apply State.inc64_kept | apply State.sched_kept | apply State.giveWork_kept | exact KeptO.none | apply KeptO.some | apply KeptO.ite | apply Kept.ite)
    | lift_lets -underBinder
    | split
    | (refine Kept.upd ?_ ?_)

theorem State.enterDelay_kept {m : Nat} (hm : 4194304 &&& m = 4194304) {s : State} {x_s : State} {x_i : Fin 4} {x_e : DelayEntry} (h_x_s : Kept m s x_s) : KeptO m s (State.enterDelay x_s x_i x_e) := by
  unfold State.enterDelay
  repeat' first
    | (with_reducible first | assumption | exact Kept.refl _)
    | (intro p; cases p <;> first | exact Or.inl (bit_of (a := 4194304) hm rfl) | exact Or.inr rfl)
    | intro _
    | (with_reducible first | exact KeptO.none | apply KeptO.some | apply KeptO.ite | apply Kept.ite)
    | split
    | (refine Kept.upd ?_ ?_)

theorem State.retick_kept {m : Nat} (hm : 4194312 &&& m = 4194312) {s : State} {x_s : State} {x_n : Nat} (h_x_s : Kept m s x_s) : Kept m s (State.retick x_s x_n) := by
  unfold State.retick
  repeat' first
    | (with_reducible first | assumption | exact Kept.refl _)
    | exact sub_trans (b := 4194312) (by decide) hm
    | (intro x_1; refine (fun hx : Kept m s x_1 => ?_) ?_; (clear_value x_1); rotate_left; (unfold x_1))
    | (intro x_1; clear_value x_1)
    | (intro p; cases p <;> first | exact Or.inl (bit_of (a := 4194312) hm rfl) | exact Or.inr rfl)
    | intro _
    | (with_reducible first | apply State.setO_kept | apply Kept.ite | apply Kept.foldl)
    | lift_lets -underBinder
    | split
    | dsimp only
    | (refine Kept.upd ?_ ?_)

theorem State.popDelay_kept {m : Nat} (hm : 4194304 &&& m = 4194304) {s : State} {x_s : State} {x_i : Fin 4} (h_x_s : Kept m s x_s) : Kept m s (State.popDelay x_s x_i) := by
  unfold State.popDelay
  repeat' first
    | (with_reducible first | assumption | exact Kept.refl _)
    | (intro p; cases p <;> first | exact Or.inl (bit_of (a := 4194304) hm rfl) | exact Or.inr rfl)
    | (refine Kept.upd ?_ ?_)

theorem State.holdDelay_kept {m : Nat} (hm : 4194304 &&& m = 4194304) {s : State} {x_s : State} {x_i : Fin 4} (h_x_s : Kept m s x_s) : Kept m s (State.holdDelay x_s x_i) := by
  unfold State.holdDelay
  repeat' first
    | (with_reducible first | assumption | exact Kept.refl _)
    | (intro p; cases p <;> first | exact Or.inl (bit_of (a := 4194304) hm rfl) | exact Or.inr rfl)
    | split
    | (refine Kept.upd ?_ ?_)

theorem State.addLate_kept {m : Nat} (hm : 8 &&& m = 8) {s : State} {x_s : State} {x_due : Nat} (h_x_s : Kept m s x_s) : Kept m s (State.addLate x_s x_due) := by
  unfold State.addLate
  repeat' first
    | (with_reducible first | assumption | exact Kept.refl _)
    | exact sub_trans (b := 8) (by decide) hm
    | with_reducible apply State.setO_kept

theorem State.requestTimed_kept {m : Nat} (hm : 4194304 &&& m = 4194304) {s : State} {x_s : State} {x_g : Nat} {x_n : Nat} {x_r : TimedReq} (h_x_s : Kept m s x_s) : KeptO m s (State.requestTimed x_s x_g x_n x_r) := by
  unfold State.requestTimed
  repeat' first
    | (with_reducible first | assumption | exact Kept.refl _)
    | exact sub_trans (b := 4194304) (by decide) hm
    | (intro x_1; refine (fun hx : Kept m s x_1 => ?_) ?_; (clear_value x_1); rotate_left; (unfold x_1))
    | (intro x_1; clear_value x_1)
    | intro _
    | (with_reducible first | apply State.enterDelay_kept | refine (State.enterDelay_kept ?_ ?_).out (by assumption) | exact KeptO.none | apply KeptO.some | apply KeptO.ite)
    | lift_lets -underBinder
    | split
    | (refine Kept.upd ?_ ?_)

theorem State.setBind_kept {m : Nat} (hm : 4194304 &&& m = 4194304) {s : State} {x_s : State} {x_g : Nat} {x_i : Nat} {x_u : BindU} (h_x_s : Kept m s x_s) : Kept m s (State.setBind x_s x_g x_i x_u) := by
  unfold State.setBind
  repeat' first
    | (with_reducible first | assumption | exact Kept.refl _)
    | (intro p; cases p <;> first | exact Or.inl (bit_of (a := 4194304) hm rfl) | exact Or.inr rfl)
    | (refine Kept.upd ?_ ?_)

theorem State.startBind_kept {m : Nat} (hm : 4194312 &&& m = 4194312) {s : State} {x_s : State} {x_g : Nat} {x_i : Nat} (h_x_s : Kept m s x_s) : Kept m s (State.startBind x_s x_g x_i) := by
  unfold State.startBind
  repeat' first
    | (with_reducible first | assumption | exact Kept.refl _)
    | exact sub_trans (b := 4194312) (by decide) hm
    | (intro x_1; refine (fun hx : Kept m s x_1 => ?_) ?_; (clear_value x_1); rotate_left; (unfold x_1))
    | (intro x_1; clear_value x_1)
    | intro _
    | (with_reducible first | apply State.setBind_kept | apply State.enterDelay_kept | refine (State.enterDelay_kept ?_ ?_).out (by assumption) | apply State.incO_kept | exact KeptO.none | apply KeptO.some | apply KeptO.ite | apply Kept.ite | apply Kept.ite1 | apply Kept.ite2)
    | lift_lets -underBinder
    | split
    | dsimp only
    | (refine Kept.upd ?_ ?_)

theorem State.timerExpiry_kept {m : Nat} (hm : 4227081 &&& m = 4227081) {s : State} {x_s : State} {x_i : Fin 4} {x_e : DelayEntry} {x_g : Nat} {x_j : Nat} {x_period : Nat} (h_x_s : Kept m s x_s) : Kept m s (State.timerExpiry x_s x_i x_e x_g x_j x_period) := by
  unfold State.timerExpiry
  repeat' first
    | (with_reducible first | assumption | exact Kept.refl _)
    | exact sub_trans (b := 4227081) (by decide) hm
    | (intro x_1; refine (fun hx : Kept m s x_1 => ?_) ?_; (clear_value x_1); rotate_left; (unfold x_1))
    | (intro x_1; clear_value x_1)
    | intro _
    | (with_reducible first | apply State.outside_kept | refine (State.outside_kept ?_ ?_).out (by assumption) | apply State.setBind_kept | apply State.addLate_kept | apply State.popDelay_kept | apply State.enterDelay_kept | refine (State.enterDelay_kept ?_ ?_).out (by assumption) | apply State.sched_kept | apply State.incO_kept | apply State.holdDelay_kept | exact KeptO.none | apply KeptO.some | apply KeptO.ite | apply Kept.ite)
    | lift_lets -underBinder
    | split
    | dsimp only
    | (refine Kept.upd ?_ ?_)

theorem State.bindPost_kept {m : Nat} (hm : 12615689 &&& m = 12615689) {s : State} {x_s : State} {x_g : Nat} {x_i : Nat} (h_x_s : Kept m s x_s) : Kept m s (State.bindPost x_s x_g x_i) := by
  unfold State.bindPost
  repeat' first
    | (with_reducible first | assumption | exact Kept.refl _)
    | exact sub_trans (b := 12615689) (by decide) hm
    | (intro x_1; refine (fun hx : Kept m s x_1 => ?_) ?_; (clear_value x_1); rotate_left; (unfold x_1))
    | (intro x_1; clear_value x_1)
    | (intro p; cases p <;> first | exact Or.inl (bit_of (a := 12615689) hm rfl) | exact Or.inr rfl)
    | intro _
    | (with_reducible first | apply State.timerExpiry_kept | apply State.outside_kept | refine (State.outside_kept ?_ ?_).out (by assumption) | apply State.sched_kept | apply State.setBind_kept | apply State.incO_kept | exact KeptO.none | apply KeptO.some | apply KeptO.ite | apply Kept.ite)
    | lift_lets -underBinder
    | split
    | (refine Kept.upd ?_ ?_)

theorem State.postOuts_kept {m : Nat} (hm : 4227080 &&& m = 4227080) {s : State} {x_s : State} {x_w : Work} {x_core : Nat} {x_outs : List WorkOut} (h_x_s : Kept m s x_s) : Kept m s (State.postOuts x_s x_w x_core x_outs) := by
  unfold State.postOuts
  repeat' first
    | (with_reducible first | assumption | exact Kept.refl _)
    | exact sub_trans (b := 4227080) (by decide) hm
    | (intro x_1; refine (fun hx : Kept m s x_1 => ?_) ?_; (clear_value x_1); rotate_left; (unfold x_1))
    | (intro x_1; clear_value x_1)
    | intro _
    | (with_reducible first | apply State.each_kept | apply State.addRef_kept | apply State.inner_kept | apply Kept.ite)
    | lift_lets -underBinder

theorem State.timedAll_kept {m : Nat} (hm : 4194312 &&& m = 4194312) {s : State} {x_s : State} {x_g : Nat} {x_n : Nat} {x_a3 : List TimedReq} (h_x_s : Kept m s x_s) : Kept m s (State.timedAll x_s x_g x_n x_a3).1 := by
  induction x_a3 generalizing x_s x_g x_n with
  | nil =>
    unfold State.timedAll
    repeat' first
      | (with_reducible first | assumption | exact Kept.refl _)
      | exact sub_trans (b := 4194312) (by decide) hm
      | (with_reducible first | apply State.incO_kept | apply State.requestTimed_kept | refine (State.requestTimed_kept ?_ ?_).out (by assumption) | exact KeptO.none | apply KeptO.some | apply KeptO.ite | apply Kept.ite1)
      | split
      | dsimp only
      | (refine Kept.upd ?_ ?_)
      | (dsimp only)
  | cons hd tl ih =>
    unfold State.timedAll
    repeat' first
      | with_reducible apply ih
      | (with_reducible first | assumption | exact Kept.refl _)
      | exact sub_trans (b := 4194312) (by decide) hm
      | (with_reducible first | apply State.incO_kept | apply State.requestTimed_kept | refine (State.requestTimed_kept ?_ ?_).out (by assumption) | exact KeptO.none | apply KeptO.some | apply KeptO.ite | apply Kept.ite1)
      | split
      | dsimp only
      | (refine Kept.upd ?_ ?_)
      | (dsimp only)

theorem State.finishWork_kept {m : Nat} (hm : 4227081 &&& m = 4227081) {s : State} {x_s : State} {x_n : Bench} {x_c : Fin 16} {x_w : Work} (h_x_s : Kept m s x_s) : Kept m s (State.finishWork x_s x_n x_c x_w) := by
  unfold State.finishWork
  repeat' first
    | (with_reducible first | assumption | exact Kept.refl _)
    | exact sub_trans (b := 4227081) (by decide) hm
    | (with_reducible first | apply State.sched_kept | apply State.consumeOps_kept | apply State.endWork_kept)

theorem State.endItem_kept {m : Nat} (hm : 4620297 &&& m = 4620297) {s : State} {x_s : State} {x_n : Bench} {x_c : Fin 16} {x_w : Work} {x_r : WorkResult} (h_x_s : Kept m s x_s) : Kept m s (State.endItem x_s x_n x_c x_w x_r) := by
  unfold State.endItem
  repeat' first
    | (with_reducible first | assumption | exact Kept.refl _)
    | exact sub_trans (b := 4620297) (by decide) hm
    | (intro x_1; refine (fun hx : Kept m s x_1 => ?_) ?_; (clear_value x_1); rotate_left; (unfold x_1))
    | (intro x_1; refine (fun hx : Kept m s x_1.1 => ?_) ?_; (clear_value x_1); rotate_left; (unfold x_1))
    | (intro x_1; clear_value x_1)
    | (intro p; cases p <;> first | exact Or.inl (bit_of (a := 4620297) hm rfl) | exact Or.inr rfl)
    | intro _
    | (with_reducible first | apply State.finishWork_kept | apply State.nodeError_kept | apply State.inc64_kept | apply State.timedAll_kept | apply State.postOuts_kept | apply Kept.ite | apply Kept.ite1 | apply Kept.ite2)
    | lift_lets -underBinder
    | split
    | dsimp only
    | (refine Kept.upd ?_ ?_)

theorem State.issueReqs_kept {m : Nat} (hm : 4620297 &&& m = 4620297) {s : State} {x_s : State} {x_n : Bench} {x_c : Fin 16} {x_w : Work} {x_reqs : List ObjReq} {x_r : WorkResult} (h_x_s : Kept m s x_s) : Kept m s (State.issueReqs x_s x_n x_c x_w x_reqs x_r) := by
  unfold State.issueReqs
  repeat' first
    | (with_reducible first | assumption | exact Kept.refl _)
    | exact sub_trans (b := 4620297) (by decide) hm
    | (intro x_1; refine (fun hx : Kept m s x_1 => ?_) ?_; (clear_value x_1); rotate_left; (unfold x_1))
    | (intro x_1; clear_value x_1)
    | intro _
    | (with_reducible first | apply State.modBench_kept | apply State.endItem_kept | apply State.modCore_kept | apply Kept.ite)
    | lift_lets -underBinder
    | split
    | dsimp only
    | (refine Kept.upd ?_ ?_)

theorem State.completeWork_kept {m : Nat} (hm : 4620297 &&& m = 4620297) {s : State} {x_s : State} {x_n : Bench} {x_c : Fin 16} {x_r : WorkResult} (h_x_s : Kept m s x_s) : Kept m s (State.completeWork x_s x_n x_c x_r) := by
  unfold State.completeWork
  repeat' first
    | (with_reducible first | assumption | exact Kept.refl _)
    | exact sub_trans (b := 4620297) (by decide) hm
    | intro _
    | (with_reducible first | apply State.issueReqs_kept | apply Kept.ite)
    | split
    | (refine Kept.upd ?_ ?_)

theorem State.pumpReqs_kept {m : Nat} (hm : 4620297 &&& m = 4620297) {s : State} {x_s : State} {x_n : Bench} (h_x_s : Kept m s x_s) : Kept m s (State.pumpReqs x_s x_n) := by
  unfold State.pumpReqs
  repeat' first
    | (with_reducible first | assumption | exact Kept.refl _)
    | exact sub_trans (b := 4620297) (by decide) hm
    | intro _
    | (with_reducible first | apply State.each_kept | apply State.issueReqs_kept)
    | split
    | (refine Kept.upd ?_ ?_)

theorem State.limitWork_kept {m : Nat} (hm : 4620299 &&& m = 4620299) {s : State} {x_s : State} {x_n : Bench} {x_c : Fin 16} (h_x_s : Kept m s x_s) : Kept m s (State.limitWork x_s x_n x_c) := by
  unfold State.limitWork
  repeat' first
    | (with_reducible first | assumption | exact Kept.refl _)
    | exact sub_trans (b := 4620299) (by decide) hm
    | (with_reducible first | apply State.finishWork_kept | apply State.nodeError_kept | apply State.advance_kept | exact KeptO.none | apply KeptO.some | apply KeptO.ite)
    | split
    | (refine Kept.upd ?_ ?_)

theorem State.benchFault_kept {m : Nat} (hm : 32768 &&& m = 32768) {s : State} {x_s : State} {x_n : Bench} {x_kind : Nat} {x_address : Nat} {x_w : Option Work} (h_x_s : Kept m s x_s) : Kept m s (State.benchFault x_s x_n x_kind x_address x_w) := by
  unfold State.benchFault
  repeat' first
    | (with_reducible first | assumption | exact Kept.refl _)
    | exact sub_trans (b := 32768) (by decide) hm
    | intro _
    | with_reducible apply State.send_kept
    | (refine Kept.upd ?_ ?_)

theorem State.dropCore_kept {m : Nat} (hm : 4620297 &&& m = 4620297) {s : State} {x_s : State} {x_n : Bench} {x_c : Fin 16} (h_x_s : Kept m s x_s) : Kept m s (State.dropCore x_s x_n x_c) := by
  unfold State.dropCore
  repeat' first
    | (with_reducible first | assumption | exact Kept.refl _)
    | exact sub_trans (b := 4620297) (by decide) hm
    | (intro x_1; refine (fun hx : Kept m s x_1 => ?_) ?_; (clear_value x_1); rotate_left; (unfold x_1))
    | (intro x_1; clear_value x_1)
    | intro _
    | (with_reducible first | apply State.modCore_kept | apply State.modBench_kept | apply State.sched_kept | apply State.consumeOps_kept | apply State.nodeError_kept | apply State.showSched_kept | exact KeptO.none | apply KeptO.some | apply KeptO.ite)
    | lift_lets -underBinder
    | split
    | (refine Kept.upd ?_ ?_)

theorem State.coreFault_kept {m : Nat} (hm : 4620297 &&& m = 4620297) {s : State} {x_s : State} {x_n : Bench} {x_c : Fin 16} {x_level : Bool} (h_x_s : Kept m s x_s) : Kept m s (State.coreFault x_s x_n x_c x_level) := by
  unfold State.coreFault
  repeat' first
    | (with_reducible first | assumption | exact Kept.refl _)
    | exact sub_trans (b := 4620297) (by decide) hm
    | (intro x_1; refine (fun hx : Kept m s x_1 => ?_) ?_; (clear_value x_1); rotate_left; (unfold x_1))
    | (intro x_1; clear_value x_1)
    | intro _
    | (with_reducible first | apply State.benchFault_kept | apply State.dropCore_kept | apply State.setO_kept | apply State.setBench_kept | apply State.each_kept | apply Kept.ite)
    | lift_lets -underBinder
    | split
    | dsimp only

theorem State.deadlock_kept {m : Nat} (hm : 4227083 &&& m = 4227083) {s : State} {x_s : State} (h_x_s : Kept m s x_s) : Kept m s (State.deadlock x_s) := by
  unfold State.deadlock
  repeat' first
    | (with_reducible first | assumption | exact Kept.refl _)
    | exact sub_trans (b := 4227083) (by decide) hm
    | (intro x_1; refine (fun hx : Kept m s x_1 => ?_) ?_; (clear_value x_1); rotate_left; (unfold x_1))
    | (intro x_1; clear_value x_1)
    | (intro p; cases p <;> first | exact Or.inl (bit_of (a := 4227083) hm rfl) | exact Or.inr rfl)
    | intro _
    | (with_reducible first | apply State.advance_kept | apply State.fault_kept | apply State.discard_kept | apply State.sched_kept | apply State.addG_kept | apply Kept.ite | apply Kept.foldl)
    | lift_lets -underBinder
    | split
    | dsimp only
    | (refine Kept.upd ?_ ?_)

theorem State.hostGraph_kept {m : Nat} (hm : 9 &&& m = 9) {s : State} {x_s : State} {x_g : Graph} {x_epoch : BitVec 16} (x_k : State → State) (h_x_s : Kept m s x_s) (h_x_k : ∀ (v0 : State), Kept m s v0 → Kept m s (x_k v0)) : Kept m s (State.hostGraph x_s x_g x_epoch x_k) := by
  unfold State.hostGraph
  repeat' first
    | (with_reducible first | assumption | exact Kept.refl _)
    | exact sub_trans (b := 9) (by decide) hm
    | (intro x_1; refine (fun hx : Kept m s x_1 => ?_) ?_; (clear_value x_1); rotate_left; (unfold x_1))
    | (intro x_1; clear_value x_1)
    | intro _
    | (with_reducible first | apply h_x_k | apply State.hostModule_kept | apply State.answerD_kept | apply State.addG_kept | apply Kept.ite)
    | lift_lets -underBinder

theorem State.hostPost_kept {m : Nat} (hm : 4227081 &&& m = 4227081) {s : State} {x_s : State} {x_t : Token} {x_epoch : Nat} (h_x_s : Kept m s x_s) : Kept m s (State.hostPost x_s x_t x_epoch) := by
  unfold State.hostPost
  repeat' first
    | (with_reducible first | assumption | exact Kept.refl _)
    | exact sub_trans (b := 4227081) (by decide) hm
    | (intro p; cases p <;> first | exact Or.inl (bit_of (a := 4227081) hm rfl) | exact Or.inr rfl)
    | intro _
    | (with_reducible first | apply State.answer_kept | apply State.outside_kept | refine (State.outside_kept ?_ ?_).out (by assumption) | apply State.ok_kept | apply State.sched_kept | apply State.incO_kept | exact KeptO.none | apply KeptO.some | apply KeptO.ite | apply Kept.ite)
    | split
    | (refine Kept.upd ?_ ?_)

theorem State.postTimeout_kept {m : Nat} (hm : 4194307 &&& m = 4194307) {s : State} {x_s : State} (h_x_s : Kept m s x_s) : Kept m s (State.postTimeout x_s) := by
  unfold State.postTimeout
  repeat' first
    | (with_reducible first | assumption | exact Kept.refl _)
    | exact sub_trans (b := 4194307) (by decide) hm
    | (intro p; cases p <;> first | exact Or.inl (bit_of (a := 4194307) hm rfl) | exact Or.inr rfl)
    | intro _
    | (with_reducible first | apply State.postEnd_kept | apply State.advance_kept)
    | split
    | (refine Kept.upd ?_ ?_)

theorem State.startGraph_kept {m : Nat} (hm : 4194313 &&& m = 4194313) {s : State} {x_s : State} {x_g : Nat} (h_x_s : Kept m s x_s) : Kept m s (State.startGraph x_s x_g) := by
  unfold State.startGraph
  repeat' first
    | (with_reducible first | assumption | exact Kept.refl _)
    | exact sub_trans (b := 4194313) (by decide) hm
    | (intro x_1; refine (fun hx : Kept m s x_1 => ?_) ?_; (clear_value x_1); rotate_left; (unfold x_1))
    | (intro x_1; clear_value x_1)
    | intro _
    | (with_reducible first | apply State.answer_kept | apply State.each_kept | apply State.setG_kept | apply State.setO_kept | apply State.ok_kept | apply State.showSched_kept | apply State.startBind_kept | apply Kept.ite)
    | lift_lets -underBinder
    | split
    | dsimp only

theorem State.stopGraph_kept {m : Nat} (hm : 4194313 &&& m = 4194313) {s : State} {x_s : State} {x_g : Nat} (h_x_s : Kept m s x_s) : Kept m s (State.stopGraph x_s x_g) := by
  unfold State.stopGraph
  repeat' first
    | (with_reducible first | assumption | exact Kept.refl _)
    | exact sub_trans (b := 4194313) (by decide) hm
    | (intro p; cases p <;> first | exact Or.inl (bit_of (a := 4194313) hm rfl) | exact Or.inr rfl)
    | (with_reducible first | apply State.answer_kept | apply State.ok_kept | apply State.setG_kept | apply Kept.ite)
    | (refine Kept.upd ?_ ?_)

theorem State.purge_kept {m : Nat} (hm : 4194312 &&& m = 4194312) {s : State} {x_s : State} {x_g : Nat} {x_keep : Nat → Bool} {x_timer : Nat → Bool} (h_x_s : Kept m s x_s) : Kept m s (State.purge x_s x_g x_keep x_timer) := by
  unfold State.purge
  repeat' first
    | (with_reducible first | assumption | exact Kept.refl _)
    | exact sub_trans (b := 4194312) (by decide) hm
    | (intro x_1; refine (fun hx : Kept m s x_1 => ?_) ?_; (clear_value x_1); rotate_left; (unfold x_1))
    | (intro x_1; clear_value x_1)
    | (intro p; cases p <;> first | exact Or.inl (bit_of (a := 4194312) hm rfl) | exact Or.inr rfl)
    | intro _
    | (with_reducible first | apply State.each_kept | apply State.modBench_kept | apply State.addG_kept | apply State.discard_kept)
    | lift_lets -underBinder
    | dsimp only
    | (refine Kept.upd ?_ ?_)

theorem State.stopped_kept {m : Nat} (hm : 4227081 &&& m = 4227081) {s : State} {x_s : State} {x_g : Nat} (h_x_s : Kept m s x_s) : Kept m s (State.stopped x_s x_g) := by
  unfold State.stopped
  repeat' first
    | (with_reducible first | assumption | exact Kept.refl _)
    | exact sub_trans (b := 4227081) (by decide) hm
    | (intro x_1; refine (fun hx : Kept m s x_1 => ?_) ?_; (clear_value x_1); rotate_left; (unfold x_1))
    | (intro x_1; clear_value x_1)
    | (intro p; cases p <;> first | exact Or.inl (bit_of (a := 4227081) hm rfl) | exact Or.inr rfl)
    | intro _
    | (with_reducible first | apply State.purge_kept | apply State.sched_kept | apply State.setG_kept)
    | lift_lets -underBinder
    | dsimp only
    | (refine Kept.upd ?_ ?_)

theorem State.applyGraph_kept {m : Nat} (hm : 4227097 &&& m = 4227097) {s : State} {x_s : State} {x_new : State} {x_g : Nat} {x_back : Nat} (h_x_s : Kept m s x_s) (h_x_new : Kept m s x_new) : Kept m s (State.applyGraph x_s x_new x_g x_back) := by
  unfold State.applyGraph
  repeat' first
    | (with_reducible first | assumption | exact Kept.refl _)
    | exact sub_trans (b := 4227097) (by decide) hm
    | (intro x_1; refine (fun hx : Kept m s x_1 => ?_) ?_; (clear_value x_1); rotate_left; (unfold x_1))
    | (intro x_1; clear_value x_1)
    | (intro p; cases p <;> first | exact Or.inl (bit_of (a := 4227097) hm rfl) | exact Or.inr rfl)
    | intro _
    | (with_reducible first | apply State.purge_kept | apply State.setG_kept | apply State.each_kept | apply State.startBind_kept | apply State.sched_kept | apply Kept.ite)
    | lift_lets -underBinder
    | split
    | dsimp only
    | (refine Kept.upd ?_ ?_)

theorem State.benchRequest_kept {m : Nat} (hm : 1 &&& m = 1) {s : State} {x_s : State} {x_n : Bench} {x_from_ : Nat} (x_k : State → State) (h_x_s : Kept m s x_s) (h_x_k : ∀ (v0 : State), Kept m s v0 → Kept m s (x_k v0)) : Kept m s (State.benchRequest x_s x_n x_from_ x_k) := by
  unfold State.benchRequest
  repeat' first
    | (with_reducible first | assumption | exact Kept.refl _)
    | exact sub_trans (b := 1) (by decide) hm
    | intro _
    | (with_reducible first | apply h_x_k | apply State.hostModule_kept | apply State.ok_kept | apply State.answer_kept | apply Kept.ite)

theorem State.benchDrained_kept {m : Nat} (hm : 8 &&& m = 8) {s : State} {x_s : State} {x_n : Bench} (h_x_s : Kept m s x_s) : Kept m s (State.benchDrained x_s x_n) := by
  unfold State.benchDrained
  repeat' first
    | (with_reducible first | assumption | exact Kept.refl _)
    | exact sub_trans (b := 8) (by decide) hm
    | (intro x_1; refine (fun hx : Kept m s x_1 => ?_) ?_; (clear_value x_1); rotate_left; (unfold x_1))
    | (intro x_1; clear_value x_1)
    | intro _
    | (with_reducible first | apply State.setBench_kept | apply Kept.ite)
    | lift_lets -underBinder

theorem State.benchLoaded_kept {m : Nat} (hm : 9 &&& m = 9) {s : State} {x_s : State} {x_n : Bench} {x_verified : Bool} {x_release : Nat} (h_x_s : Kept m s x_s) : Kept m s (State.benchLoaded x_s x_n x_verified x_release) := by
  unfold State.benchLoaded
  repeat' first
    | (with_reducible first | assumption | exact Kept.refl _)
    | exact sub_trans (b := 9) (by decide) hm
    | (intro x_1; refine (fun hx : Kept m s x_1 => ?_) ?_; (clear_value x_1); rotate_left; (unfold x_1))
    | (intro x_1; clear_value x_1)
    | intro _
    | (with_reducible first | apply State.setO_kept | apply State.setBench_kept | apply State.answer_kept | apply Kept.ite)
    | lift_lets -underBinder

theorem State.benchResumed_kept {m : Nat} (hm : 4194312 &&& m = 4194312) {s : State} {x_s : State} {x_n : Bench} (h_x_s : Kept m s x_s) : Kept m s (State.benchResumed x_s x_n) := by
  unfold State.benchResumed
  repeat' first
    | (with_reducible first | assumption | exact Kept.refl _)
    | exact sub_trans (b := 4194312) (by decide) hm
    | (intro x_1; refine (fun hx : Kept m s x_1 => ?_) ?_; (clear_value x_1); rotate_left; (unfold x_1))
    | (intro x_1; clear_value x_1)
    | (intro p; cases p <;> first | exact Or.inl (bit_of (a := 4194312) hm rfl) | exact Or.inr rfl)
    | intro _
    | (with_reducible first | apply State.setO_kept | apply State.setBench_kept)
    | lift_lets -underBinder
    | (refine Kept.upd ?_ ?_)

theorem execTokenArrival_kept {m : Nat} (hm : 4227081 &&& m = 4227081) {s : State} {x_t : Token} {x_s : State} (h_x_s : Kept m s x_s) : KeptN m s (execTokenArrival x_t x_s) := by
  unfold execTokenArrival
  repeat' first
    | (with_reducible first | assumption | exact Kept.refl _)
    | exact sub_trans (b := 4227081) (by decide) hm
    | (with_reducible first | apply State.takeToken_kept | refine (State.takeToken_kept ?_ ?_).out (by assumption) | apply State.sched_kept | exact KeptO.none | apply KeptO.some | apply KeptO.ite | apply KeptN.next | apply KeptN.ite | apply Kept.ite)
    | split
    | (refine Kept.upd ?_ ?_)

theorem execPost_kept {m : Nat} (hm : 4227081 &&& m = 4227081) {s : State} {x_g : Graph} {x_epoch : BitVec 16} {x_node : BitVec 8} {x_port : Fin 4} {x_seq : BitVec 32} {x_value : BitVec 64} {x_s : State} (h_x_s : Kept m s x_s) : KeptN m s (execPost x_g x_epoch x_node x_port x_seq x_value x_s) := by
  unfold execPost
  repeat' first
    | (with_reducible first | assumption | exact Kept.refl _)
    | exact sub_trans (b := 4227081) (by decide) hm
    | intro _
    | (with_reducible first | apply State.hostGraph_kept | apply State.hostPost_kept | apply KeptN.next | apply KeptN.ite)

theorem execHostPostTimeout_kept {m : Nat} (hm : 4194307 &&& m = 4194307) {s : State} {x_s : State} (h_x_s : Kept m s x_s) : KeptN m s (execHostPostTimeout x_s) := by
  unfold execHostPostTimeout
  repeat' first
    | (with_reducible first | assumption | exact Kept.refl _)
    | exact sub_trans (b := 4194307) (by decide) hm
    | (with_reducible first | apply State.postTimeout_kept | apply KeptN.next | apply KeptN.ite)

theorem execWorkDispatch_kept {m : Nat} (hm : 4227081 &&& m = 4227081) {s : State} {x_bn : Bench} {x_s : State} (h_x_s : Kept m s x_s) : KeptN m s (execWorkDispatch x_bn x_s) := by
  unfold execWorkDispatch
  repeat' first
    | (with_reducible first | assumption | exact Kept.refl _)
    | exact sub_trans (b := 4227081) (by decide) hm
    | (with_reducible first | apply State.dispatchWork_kept | apply KeptN.next | apply KeptN.ite)

theorem execWorkComplete_kept {m : Nat} (hm : 4620297 &&& m = 4620297) {s : State} {x_bn : Bench} {x_core : Fin 16} {x_result : WorkResult} {x_s : State} (h_x_s : Kept m s x_s) : KeptN m s (execWorkComplete x_bn x_core x_result x_s) := by
  unfold execWorkComplete
  repeat' first
    | (with_reducible first | assumption | exact Kept.refl _)
    | exact sub_trans (b := 4620297) (by decide) hm
    | (with_reducible first | apply State.completeWork_kept | apply KeptN.next | apply KeptN.ite)

theorem execWorkLimit_kept {m : Nat} (hm : 4620299 &&& m = 4620299) {s : State} {x_bn : Bench} {x_core : Fin 16} {x_s : State} (h_x_s : Kept m s x_s) : KeptN m s (execWorkLimit x_bn x_core x_s) := by
  unfold execWorkLimit
  repeat' first
    | (with_reducible first | assumption | exact Kept.refl _)
    | exact sub_trans (b := 4620299) (by decide) hm
    | (with_reducible first | apply State.limitWork_kept | apply KeptN.next | apply KeptN.ite)

theorem execCoreFault_kept {m : Nat} (hm : 4620297 &&& m = 4620297) {s : State} {x_bn : Bench} {x_core : Fin 16} {x_benchLevel : Bool} {x_s : State} (h_x_s : Kept m s x_s) : KeptN m s (execCoreFault x_bn x_core x_benchLevel x_s) := by
  unfold execCoreFault
  repeat' first
    | (with_reducible first | assumption | exact Kept.refl _)
    | exact sub_trans (b := 4620297) (by decide) hm
    | (with_reducible first | apply State.coreFault_kept | apply KeptN.next | apply KeptN.ite)

theorem execStoreDeadlock_kept {m : Nat} (hm : 4227083 &&& m = 4227083) {s : State} {x_s : State} (h_x_s : Kept m s x_s) : KeptN m s (execStoreDeadlock x_s) := by
  unfold execStoreDeadlock
  repeat' first
    | (with_reducible first | assumption | exact Kept.refl _)
    | exact sub_trans (b := 4227083) (by decide) hm
    | (with_reducible first | apply State.deadlock_kept | apply KeptN.next | apply KeptN.ite)

theorem execStartRequest_kept {m : Nat} (hm : 4194313 &&& m = 4194313) {s : State} {x_g : Graph} {x_epoch : BitVec 16} {x_s : State} (h_x_s : Kept m s x_s) : KeptN m s (execStartRequest x_g x_epoch x_s) := by
  unfold execStartRequest
  repeat' first
    | (with_reducible first | assumption | exact Kept.refl _)
    | exact sub_trans (b := 4194313) (by decide) hm
    | intro _
    | (with_reducible first | apply State.hostGraph_kept | apply State.startGraph_kept | apply KeptN.next | apply KeptN.ite)

theorem execStopRequest_kept {m : Nat} (hm : 4194313 &&& m = 4194313) {s : State} {x_g : Graph} {x_epoch : BitVec 16} {x_s : State} (h_x_s : Kept m s x_s) : KeptN m s (execStopRequest x_g x_epoch x_s) := by
  unfold execStopRequest
  repeat' first
    | (with_reducible first | assumption | exact Kept.refl _)
    | exact sub_trans (b := 4194313) (by decide) hm
    | intro _
    | (with_reducible first | apply State.hostGraph_kept | apply State.stopGraph_kept | apply KeptN.next | apply KeptN.ite)

theorem execBenchDrain_kept {m : Nat} (hm : 9 &&& m = 9) {s : State} {x_bn : Bench} {x_s : State} (h_x_s : Kept m s x_s) : KeptN m s (execBenchDrain x_bn x_s) := by
  unfold execBenchDrain
  repeat' first
    | (with_reducible first | assumption | exact Kept.refl _)
    | exact sub_trans (b := 9) (by decide) hm
    | intro _
    | (with_reducible first | apply State.benchRequest_kept | apply State.setBench_kept | apply KeptN.next | apply KeptN.ite)

theorem execBenchDrained_kept {m : Nat} (hm : 8 &&& m = 8) {s : State} {x_bn : Bench} {x_s : State} (h_x_s : Kept m s x_s) : KeptN m s (execBenchDrained x_bn x_s) := by
  unfold execBenchDrained
  repeat' first
    | (with_reducible first | assumption | exact Kept.refl _)
    | exact sub_trans (b := 8) (by decide) hm
    | (with_reducible first | apply State.benchDrained_kept | apply KeptN.next | apply KeptN.ite)

theorem execBenchLoad_kept {m : Nat} (hm : 9 &&& m = 9) {s : State} {x_bn : Bench} {x_s : State} (h_x_s : Kept m s x_s) : KeptN m s (execBenchLoad x_bn x_s) := by
  unfold execBenchLoad
  repeat' first
    | (with_reducible first | assumption | exact Kept.refl _)
    | exact sub_trans (b := 9) (by decide) hm
    | intro _
    | (with_reducible first | apply State.benchRequest_kept | apply State.setBench_kept | apply KeptN.next | apply KeptN.ite)

theorem execBenchLoadComplete_kept {m : Nat} (hm : 9 &&& m = 9) {s : State} {x_bn : Bench} {x_verified : Bool} {x_release : BitVec 32} {x_s : State} (h_x_s : Kept m s x_s) : KeptN m s (execBenchLoadComplete x_bn x_verified x_release x_s) := by
  unfold execBenchLoadComplete
  repeat' first
    | (with_reducible first | assumption | exact Kept.refl _)
    | exact sub_trans (b := 9) (by decide) hm
    | (with_reducible first | apply State.benchLoaded_kept | apply KeptN.next | apply KeptN.ite)

theorem execBenchResume_kept {m : Nat} (hm : 4194313 &&& m = 4194313) {s : State} {x_bn : Bench} {x_s : State} (h_x_s : Kept m s x_s) : KeptN m s (execBenchResume x_bn x_s) := by
  unfold execBenchResume
  repeat' first
    | (with_reducible first | assumption | exact Kept.refl _)
    | exact sub_trans (b := 4194313) (by decide) hm
    | intro _
    | (with_reducible first | apply State.benchRequest_kept | apply State.benchResumed_kept | apply KeptN.next | apply KeptN.ite)

theorem execPeakClear_kept {m : Nat} (hm : 9 &&& m = 9) {s : State} {x_s : State} (h_x_s : Kept m s x_s) : KeptN m s (execPeakClear x_s) := by
  unfold execPeakClear
  repeat' first
    | (with_reducible first | assumption | exact Kept.refl _)
    | exact sub_trans (b := 9) (by decide) hm
    | intro _
    | (with_reducible first | apply State.hostModule_kept | apply State.ok_kept | apply State.setO_kept | apply KeptN.next | apply KeptN.ite)

end Sys2Proof.Machine
end

