-- ==== Sys2Proof/Laws/KeptMemory.lean ====
section
/-! SUPPORT. What the operations of Machine/Memory.lean keep. -/

set_option linter.all false

namespace Sys2Proof.Machine

theorem State.showRegions_kept {m : Nat} (hm : 8 &&& m = 8) {s : State} {x_s : State} (h_x_s : Kept m s x_s) : Kept m s (State.showRegions x_s) := by
  unfold State.showRegions
  repeat' first
    | (with_reducible first | assumption | exact Kept.refl _)
    | exact sub_trans (b := 8) (by decide) hm
    | (intro x_1; refine (fun hx : Kept m s x_1 => ?_) ?_; (clear_value x_1); rotate_left; (unfold x_1))
    | (intro x_1; clear_value x_1)
    | intro _
    | with_reducible apply State.setO_kept
    | lift_lets -underBinder

theorem State.respond_kept {m : Nat} (hm : 1 &&& m = 1) {s : State} {x_s : State} {x_code : Nat} {x_body : Bytes} (h_x_s : Kept m s x_s) : Kept m s (State.respond x_s x_code x_body) := by
  unfold State.respond
  repeat' first
    | (with_reducible first | assumption | exact Kept.refl _)
    | (intro p; cases p <;> first | exact Or.inl (bit_of (a := 1) hm rfl) | exact Or.inr rfl)
    | (refine Kept.upd ?_ ?_)

theorem State.readMem_kept {m : Nat} (hm : 33980429 &&& m = 33980429) {s : State} {x_s : State} {x_a : Nat} {x_len : Nat} {x_seq : Option (BitVec 8)} {x_eccs : List Ecc} (h_x_s : Kept m s x_s) : Kept m s (State.readMem x_s x_a x_len x_seq x_eccs) := by
  unfold State.readMem
  repeat' first
    | (with_reducible first | assumption | exact Kept.refl _)
    | exact sub_trans (b := 33980429) (by decide) hm
    | (intro x_1; refine (fun hx : Kept m s x_1 => ?_) ?_; (clear_value x_1); rotate_left; (unfold x_1))
    | (intro x_1; clear_value x_1)
    | intro _
    | (with_reducible first | apply State.respond_kept | apply State.checkBlocks_kept | apply Kept.ite | apply Kept.ite1 | apply Kept.ite2)
    | lift_lets -underBinder
    | split
    | dsimp only

theorem State.writeMem_kept {m : Nat} (hm : 193 &&& m = 193) {s : State} {x_s : State} {x_who : Writer} {x_a : Nat} {x_data : Bytes} {x_seq : Nat} (h_x_s : Kept m s x_s) : Kept m s (State.writeMem x_s x_who x_a x_data x_seq) := by
  unfold State.writeMem
  repeat' first
    | (with_reducible first | assumption | exact Kept.refl _)
    | exact sub_trans (b := 193) (by decide) hm
    | (intro x_1; refine (fun hx : Kept m s x_1 => ?_) ?_; (clear_value x_1); rotate_left; (unfold x_1))
    | (intro x_1; clear_value x_1)
    | intro _
    | (with_reducible first | apply State.respond_kept | apply State.putMem_kept | apply Kept.ite)
    | lift_lets -underBinder
    | split
    | (refine Kept.upd ?_ ?_)

theorem State.serveRequest_kept {m : Nat} (hm : 33980621 &&& m = 33980621) {s : State} {x_s : State} {x_a1 : Instr} (h_x_s : Kept m s x_s) : Kept m s (State.serveRequest x_s x_a1) := by
  unfold State.serveRequest
  repeat' first
    | (with_reducible first | assumption | exact Kept.refl _)
    | exact sub_trans (b := 33980621) (by decide) hm
    | (with_reducible first | apply State.readMem_kept | apply State.writeMem_kept)
    | split

theorem State.memRequest_kept {m : Nat} (hm : 33980621 &&& m = 33980621) {s : State} {x_s : State} {x_i : Instr} (h_x_s : Kept m s x_s) : Kept m s (State.memRequest x_s x_i) := by
  unfold State.memRequest
  repeat' first
    | (with_reducible first | assumption | exact Kept.refl _)
    | exact sub_trans (b := 33980621) (by decide) hm
    | (intro p; cases p <;> first | exact Or.inl (bit_of (a := 33980621) hm rfl) | exact Or.inr rfl)
    | intro _
    | (with_reducible first | apply State.modHbm_kept | apply State.serveRequest_kept | apply State.takeSlots_kept | apply Kept.ite)
    | split
    | (refine Kept.upd ?_ ?_)

theorem State.serveWaits_kept {m : Nat} (hm : 33980621 &&& m = 33980621) {s : State} {x_s : State} {x_a1 : List Instr} {x_a2 : List Instr} (h_x_s : Kept m s x_s) : Kept m s (State.serveWaits x_s x_a1 x_a2) := by
  induction x_a1 generalizing x_s x_a2 with
  | nil =>
    unfold State.serveWaits
    repeat' first
      | (with_reducible first | assumption | exact Kept.refl _)
      | exact sub_trans (b := 33980621) (by decide) hm
      | intro _
      | (with_reducible first | apply State.modHbm_kept | apply State.serveRequest_kept | apply State.takeSlots_kept | apply Kept.ite)
      | split
      | dsimp only
      | (refine Kept.upd ?_ ?_)
  | cons hd tl ih =>
    unfold State.serveWaits
    repeat' first
      | with_reducible apply ih
      | (with_reducible first | assumption | exact Kept.refl _)
      | exact sub_trans (b := 33980621) (by decide) hm
      | intro _
      | (with_reducible first | apply State.modHbm_kept | apply State.serveRequest_kept | apply State.takeSlots_kept | apply Kept.ite)
      | split
      | dsimp only
      | (refine Kept.upd ?_ ?_)

theorem State.memTick_kept {m : Nat} (hm : 33980621 &&& m = 33980621) {s : State} {x_s : State} (h_x_s : Kept m s x_s) : Kept m s (State.memTick x_s) := by
  unfold State.memTick
  repeat' first
    | (with_reducible first | assumption | exact Kept.refl _)
    | exact sub_trans (b := 33980621) (by decide) hm
    | (with_reducible first | apply State.serveWaits_kept | apply Kept.ite)
    | split

theorem State.endCatchup_kept {m : Nat} (hm : 8 &&& m = 8) {s : State} {x_s : State} {x_pc : Nat} (h_x_s : Kept m s x_s) : Kept m s (State.endCatchup x_s x_pc) := by
  unfold State.endCatchup
  repeat' first
    | (with_reducible first | assumption | exact Kept.refl _)
    | exact sub_trans (b := 8) (by decide) hm
    | (intro x_1; refine (fun hx : Kept m s x_1 => ?_) ?_; (clear_value x_1); rotate_left; (unfold x_1))
    | (intro x_1; clear_value x_1)
    | intro _
    | (with_reducible first | apply State.setO_kept | apply Kept.ite)
    | lift_lets -underBinder

theorem State.refresh_kept {m : Nat} (hm : 8 &&& m = 8) {s : State} {x_s : State} {x_pc : Nat} {x_issued : Bool} (h_x_s : Kept m s x_s) : Kept m s (State.refresh x_s x_pc x_issued) := by
  unfold State.refresh
  repeat' first
    | (with_reducible first | assumption | exact Kept.refl _)
    | exact sub_trans (b := 8) (by decide) hm
    | (intro x_1; refine (fun hx : Kept m s x_1 => ?_) ?_; (clear_value x_1); rotate_left; (unfold x_1))
    | (intro x_1; clear_value x_1)
    | intro _
    | (with_reducible first | apply State.setO_kept | apply State.endCatchup_kept | apply Kept.ite)
    | lift_lets -underBinder

theorem State.tempReading_kept {m : Nat} (hm : 33554440 &&& m = 33554440) {s : State} {x_s : State} {x_i : Nat} {x_temp : Int} (h_x_s : Kept m s x_s) : Kept m s (State.tempReading x_s x_i x_temp) := by
  unfold State.tempReading
  repeat' first
    | (with_reducible first | assumption | exact Kept.refl _)
    | exact sub_trans (b := 33554440) (by decide) hm
    | (intro x_1; refine (fun hx : Kept m s x_1 => ?_) ?_; (clear_value x_1); rotate_left; (unfold x_1))
    | (intro x_1; clear_value x_1)
    | (intro p; cases p <;> first | exact Or.inl (bit_of (a := 33554440) hm rfl) | exact Or.inr rfl)
    | intro _
    | (with_reducible first | apply State.setO_kept | apply State.incO_kept | apply State.each_kept | apply Kept.ite)
    | lift_lets -underBinder
    | (refine Kept.upd ?_ ?_)

theorem State.pcFails_kept {m : Nat} (hm : 32776 &&& m = 32776) {s : State} {x_s : State} {x_pc : Nat} {x_cause : Nat} (h_x_s : Kept m s x_s) : Kept m s (State.pcFails x_s x_pc x_cause) := by
  unfold State.pcFails
  repeat' first
    | (with_reducible first | assumption | exact Kept.refl _)
    | exact sub_trans (b := 32776) (by decide) hm
    | (with_reducible first | apply State.fault_kept | apply State.setO_kept)

theorem State.trained_kept {m : Nat} (hm : 33554440 &&& m = 33554440) {s : State} {x_s : State} {x_pc : Nat} (h_x_s : Kept m s x_s) : Kept m s (State.trained x_s x_pc) := by
  unfold State.trained
  repeat' first
    | (with_reducible first | assumption | exact Kept.refl _)
    | exact sub_trans (b := 33554440) (by decide) hm
    | intro _
    | (with_reducible first | apply State.setO_kept | apply State.modHbm_kept)
    | (refine Kept.upd ?_ ?_)

theorem State.recoveryStep_kept {m : Nat} (hm : 33587210 &&& m = 33587210) {s : State} {x_s : State} {x_pc : Nat} {x_o : StepOutcome} (h_x_s : Kept m s x_s) : Kept m s (State.recoveryStep x_s x_pc x_o) := by
  unfold State.recoveryStep
  repeat' first
    | (with_reducible first | assumption | exact Kept.refl _)
    | exact sub_trans (b := 33587210) (by decide) hm
    | (intro x_1; refine (fun hx : Kept m s x_1 => ?_) ?_; (clear_value x_1); rotate_left; (unfold x_1))
    | (intro x_1; clear_value x_1)
    | (intro p; cases p <;> first | exact Or.inl (bit_of (a := 33587210) hm rfl) | exact Or.inr rfl)
    | intro _
    | (with_reducible first | apply State.advance_kept | apply State.setO_kept | apply State.incO_kept | apply State.pcFails_kept | apply Kept.ite)
    | lift_lets -underBinder
    | split
    | (refine Kept.upd ?_ ?_)

theorem State.scrubStep_kept {m : Nat} (hm : 33980428 &&& m = 33980428) {s : State} {x_s : State} {x_pc : Nat} {x_index : Nat} {x_ecc : Ecc} (h_x_s : Kept m s x_s) : Kept m s (State.scrubStep x_s x_pc x_index x_ecc) := by
  unfold State.scrubStep
  repeat' first
    | (with_reducible first | assumption | exact Kept.refl _)
    | exact sub_trans (b := 33980428) (by decide) hm
    | (intro x_1; refine (fun hx : Kept m s x_1 => ?_) ?_; (clear_value x_1); rotate_left; (unfold x_1))
    | (intro x_1; clear_value x_1)
    | (intro p; cases p <;> first | exact Or.inl (bit_of (a := 33980428) hm rfl) | exact Or.inr rfl)
    | intro _
    | (with_reducible first | apply State.checkBlock_kept | apply State.incO_kept | apply Kept.ite)
    | lift_lets -underBinder
    | (refine Kept.upd ?_ ?_)

theorem State.retrain_kept {m : Nat} (hm : 9 &&& m = 9) {s : State} {x_s : State} {x_pc : Nat} (h_x_s : Kept m s x_s) : Kept m s (State.retrain x_s x_pc) := by
  unfold State.retrain
  repeat' first
    | (with_reducible first | assumption | exact Kept.refl _)
    | exact sub_trans (b := 9) (by decide) hm
    | intro _
    | (with_reducible first | apply State.hostModule_kept | apply State.answer_kept | apply State.ok_kept | apply State.setO_kept | apply Kept.ite)

theorem State.retrained_kept {m : Nat} (hm : 33587208 &&& m = 33587208) {s : State} {x_s : State} {x_pc : Nat} {x_ok : Bool} (h_x_s : Kept m s x_s) : Kept m s (State.retrained x_s x_pc x_ok) := by
  unfold State.retrained
  repeat' first
    | (with_reducible first | assumption | exact Kept.refl _)
    | exact sub_trans (b := 33587208) (by decide) hm
    | (with_reducible first | apply State.setO_kept | apply State.trained_kept | apply State.pcFails_kept | apply Kept.ite)
    | split

theorem execMemRead_kept {m : Nat} (hm : 33980621 &&& m = 33980621) {s : State} {x_cls : MemClass} {x_addr : Nat} {x_len : Nat} {x_expectSeq : Option (BitVec 8)} {x_eccs : List Ecc} {x_s : State} (h_x_s : Kept m s x_s) : KeptN m s (execMemRead x_cls x_addr x_len x_expectSeq x_eccs x_s) := by
  unfold execMemRead
  repeat' first
    | (with_reducible first | assumption | exact Kept.refl _)
    | exact sub_trans (b := 33980621) (by decide) hm
    | (with_reducible first | apply State.memRequest_kept | apply KeptN.next | apply KeptN.ite)

theorem execMemWrite_kept {m : Nat} (hm : 33980621 &&& m = 33980621) {s : State} {x_who : Writer} {x_addr : Nat} {x_data : Bytes} {x_seq : BitVec 8} {x_s : State} (h_x_s : Kept m s x_s) : KeptN m s (execMemWrite x_who x_addr x_data x_seq x_s) := by
  unfold execMemWrite
  repeat' first
    | (with_reducible first | assumption | exact Kept.refl _)
    | exact sub_trans (b := 33980621) (by decide) hm
    | (with_reducible first | apply State.memRequest_kept | apply KeptN.next | apply KeptN.ite)

theorem execRefresh_kept {m : Nat} (hm : 8 &&& m = 8) {s : State} {x_pc : Pc} {x_issued : Bool} {x_s : State} (h_x_s : Kept m s x_s) : KeptN m s (execRefresh x_pc x_issued x_s) := by
  unfold execRefresh
  repeat' first
    | (with_reducible first | assumption | exact Kept.refl _)
    | exact sub_trans (b := 8) (by decide) hm
    | (with_reducible first | apply State.refresh_kept | apply KeptN.next | apply KeptN.ite)

theorem execTempReading_kept {m : Nat} (hm : 33554440 &&& m = 33554440) {s : State} {x_stack : Fin 2} {x_temp : Int} {x_s : State} (h_x_s : Kept m s x_s) : KeptN m s (execTempReading x_stack x_temp x_s) := by
  unfold execTempReading
  repeat' first
    | (with_reducible first | assumption | exact Kept.refl _)
    | exact sub_trans (b := 33554440) (by decide) hm
    | (with_reducible first | apply State.tempReading_kept | apply KeptN.next | apply KeptN.ite)

theorem execRecoveryStep_kept {m : Nat} (hm : 33587210 &&& m = 33587210) {s : State} {x_pc : Pc} {x_outcome : StepOutcome} {x_s : State} (h_x_s : Kept m s x_s) : KeptN m s (execRecoveryStep x_pc x_outcome x_s) := by
  unfold execRecoveryStep
  repeat' first
    | (with_reducible first | assumption | exact Kept.refl _)
    | exact sub_trans (b := 33587210) (by decide) hm
    | (with_reducible first | apply State.recoveryStep_kept | apply KeptN.next | apply KeptN.ite)

theorem execScrubStep_kept {m : Nat} (hm : 33980428 &&& m = 33980428) {s : State} {x_pc : Pc} {x_group : Nat} {x__overtaken : Bool} {x_ecc : Ecc} {x_s : State} (h_x_s : Kept m s x_s) : KeptN m s (execScrubStep x_pc x_group x__overtaken x_ecc x_s) := by
  unfold execScrubStep
  repeat' first
    | (with_reducible first | assumption | exact Kept.refl _)
    | exact sub_trans (b := 33980428) (by decide) hm
    | (with_reducible first | apply State.scrubStep_kept | apply KeptN.next | apply KeptN.ite)

theorem execHbmRetrainRequest_kept {m : Nat} (hm : 9 &&& m = 9) {s : State} {x_pc : Pc} {x_s : State} (h_x_s : Kept m s x_s) : KeptN m s (execHbmRetrainRequest x_pc x_s) := by
  unfold execHbmRetrainRequest
  repeat' first
    | (with_reducible first | assumption | exact Kept.refl _)
    | exact sub_trans (b := 9) (by decide) hm
    | (with_reducible first | apply State.retrain_kept | apply KeptN.next | apply KeptN.ite)

theorem execHbmRetrainComplete_kept {m : Nat} (hm : 33587208 &&& m = 33587208) {s : State} {x_pc : Pc} {x_ok : Bool} {x_s : State} (h_x_s : Kept m s x_s) : KeptN m s (execHbmRetrainComplete x_pc x_ok x_s) := by
  unfold execHbmRetrainComplete
  repeat' first
    | (with_reducible first | assumption | exact Kept.refl _)
    | exact sub_trans (b := 33587208) (by decide) hm
    | (with_reducible first | apply State.retrained_kept | apply KeptN.next | apply KeptN.ite)

end Sys2Proof.Machine
end

