-- ==== Sys2Proof/Laws/KeptLink.lean ====
section
/-! SUPPORT. What the operations of Machine/Link.lean keep. -/

set_option linter.all false

namespace Sys2Proof.Machine

theorem State.setL_kept {m : Nat} (hm : 8 &&& m = 8) {s : State} {x_s : State} {x_l : Lane} {x_sub : Nat} {x_v : Nat} (h_x_s : Kept m s x_s) : Kept m s (State.setL x_s x_l x_sub x_v) := by
  unfold State.setL
  repeat' first
    | (with_reducible first | assumption | exact Kept.refl _)
    | exact sub_trans (b := 8) (by decide) hm
    | with_reducible apply State.setO_kept

theorem State.setK_kept {m : Nat} (hm : 8 &&& m = 8) {s : State} {x_s : State} {x_k : Link} {x_sub : Nat} {x_v : Nat} (h_x_s : Kept m s x_s) : Kept m s (State.setK x_s x_k x_sub x_v) := by
  unfold State.setK
  repeat' first
    | (with_reducible first | assumption | exact Kept.refl _)
    | exact sub_trans (b := 8) (by decide) hm
    | with_reducible apply State.setO_kept

theorem State.setT_kept {m : Nat} (hm : 8 &&& m = 8) {s : State} {x_s : State} {x_i : Stream} {x_sub : Nat} {x_v : Nat} (h_x_s : Kept m s x_s) : Kept m s (State.setT x_s x_i x_sub x_v) := by
  unfold State.setT
  repeat' first
    | (with_reducible first | assumption | exact Kept.refl _)
    | exact sub_trans (b := 8) (by decide) hm
    | with_reducible apply State.setO_kept

theorem State.modLane_kept {m : Nat} (hm : 16777216 &&& m = 16777216) {s : State} {x_s : State} {x_l : Lane} {x_f : LaneU → LaneU} (h_x_s : Kept m s x_s) : Kept m s (State.modLane x_s x_l x_f) := by
  unfold State.modLane
  repeat' first
    | (with_reducible first | assumption | exact Kept.refl _)
    | (intro p; cases p <;> first | exact Or.inl (bit_of (a := 16777216) hm rfl) | exact Or.inr rfl)
    | (refine Kept.upd ?_ ?_)

theorem State.modLink_kept {m : Nat} (hm : 16777216 &&& m = 16777216) {s : State} {x_s : State} {x_k : Link} {x_f : LinkU → LinkU} (h_x_s : Kept m s x_s) : Kept m s (State.modLink x_s x_k x_f) := by
  unfold State.modLink
  repeat' first
    | (with_reducible first | assumption | exact Kept.refl _)
    | (intro p; cases p <;> first | exact Or.inl (bit_of (a := 16777216) hm rfl) | exact Or.inr rfl)
    | (refine Kept.upd ?_ ?_)

theorem State.modStream_kept {m : Nat} (hm : 16777216 &&& m = 16777216) {s : State} {x_s : State} {x_i : Stream} {x_f : StreamU → StreamU} (h_x_s : Kept m s x_s) : Kept m s (State.modStream x_s x_i x_f) := by
  unfold State.modStream
  repeat' first
    | (with_reducible first | assumption | exact Kept.refl _)
    | (intro p; cases p <;> first | exact Or.inl (bit_of (a := 16777216) hm rfl) | exact Or.inr rfl)
    | (refine Kept.upd ?_ ?_)

theorem State.flagLane_kept {m : Nat} (hm : 8 &&& m = 8) {s : State} {x_s : State} {x_l : Lane} {x_bit : Nat} (h_x_s : Kept m s x_s) : Kept m s (State.flagLane x_s x_l x_bit) := by
  unfold State.flagLane
  repeat' first
    | (with_reducible first | assumption | exact Kept.refl _)
    | exact sub_trans (b := 8) (by decide) hm
    | with_reducible apply State.setL_kept

theorem State.laneEvent_kept {m : Nat} (hm : 393228 &&& m = 393228) {s : State} {x_s : State} {x_l : Lane} {x_k : Nat} (h_x_s : Kept m s x_s) : Kept m s (State.laneEvent x_s x_l x_k) := by
  unfold State.laneEvent
  repeat' first
    | (with_reducible first | assumption | exact Kept.refl _)
    | exact sub_trans (b := 393228) (by decide) hm
    | with_reducible apply State.occur_kept

theorem State.showLanes_kept {m : Nat} (hm : 8 &&& m = 8) {s : State} {x_s : State} (h_x_s : Kept m s x_s) : Kept m s (State.showLanes x_s) := by
  unfold State.showLanes
  repeat' first
    | (with_reducible first | assumption | exact Kept.refl _)
    | exact sub_trans (b := 8) (by decide) hm
    | intro _
    | (with_reducible first | apply State.each_kept | apply State.setL_kept | exact KeptO.none | apply KeptO.some | apply KeptO.ite)
    | split
    | (refine Kept.upd ?_ ?_)

theorem State.breakStream_kept {m : Nat} (hm : 9224 &&& m = 9224) {s : State} {x_s : State} {x_i : Stream} (h_x_s : Kept m s x_s) : Kept m s (State.breakStream x_s x_i) := by
  unfold State.breakStream
  repeat' first
    | (with_reducible first | assumption | exact Kept.refl _)
    | exact sub_trans (b := 9224) (by decide) hm
    | (intro x_1; refine (fun hx : Kept m s x_1 => ?_) ?_; (clear_value x_1); rotate_left; (unfold x_1))
    | (intro x_1; clear_value x_1)
    | intro _
    | (with_reducible first | apply State.setT_kept | apply State.each_kept | apply State.pkgAbort_kept | exact KeptO.none | apply KeptO.some | apply KeptO.ite | apply Kept.ite)
    | lift_lets -underBinder

theorem State.putReady_kept {m : Nat} (hm : 192 &&& m = 192) {s : State} {x_s : State} {x_a : Nat} {x_data : Bytes} {x_tag : Nat} (h_x_s : Kept m s x_s) : Kept m s (State.putReady x_s x_a x_data x_tag) := by
  unfold State.putReady
  repeat' first
    | (with_reducible first | assumption | exact Kept.refl _)
    | exact sub_trans (b := 192) (by decide) hm
    | intro _
    | (with_reducible first | apply State.each_kept | apply State.putMem_kept | apply Kept.ite)
    | split

theorem State.ringPut_kept {m : Nat} (hm : 192 &&& m = 192) {s : State} {x_s : State} {x_base : Nat} {x_size : Nat} {x_off : Nat} {x_data : Bytes} {x_tag : Nat} (h_x_s : Kept m s x_s) : Kept m s (State.ringPut x_s x_base x_size x_off x_data x_tag) := by
  unfold State.ringPut
  repeat' first
    | (with_reducible first | assumption | exact Kept.refl _)
    | exact sub_trans (b := 192) (by decide) hm
    | (intro x_1; refine (fun hx : Kept m s x_1 => ?_) ?_; (clear_value x_1); rotate_left; (unfold x_1))
    | (intro x_1; clear_value x_1)
    | intro _
    | (with_reducible first | apply State.putReady_kept | apply Kept.ite)
    | lift_lets -underBinder
    | split
    | dsimp only

theorem State.deliver_kept {m : Nat} (hm : 16785608 &&& m = 16785608) {s : State} {x_s : State} {x_i : Stream} {x_data : Bytes} (h_x_s : Kept m s x_s) : Kept m s (State.deliver x_s x_i x_data) := by
  unfold State.deliver
  repeat' first
    | (with_reducible first | assumption | exact Kept.refl _)
    | exact sub_trans (b := 16785608) (by decide) hm
    | (intro x_1; refine (fun hx : Kept m s x_1 => ?_) ?_; (clear_value x_1); rotate_left; (unfold x_1))
    | (intro x_1; clear_value x_1)
    | intro _
    | (with_reducible first | apply State.setT_kept | apply State.setB_kept | apply State.ringPut_kept | apply State.each_kept | apply State.modBay_kept | apply State.modStream_kept | exact KeptO.none | apply KeptO.some | apply KeptO.ite)
    | lift_lets -underBinder
    | split
    | (refine Kept.upd ?_ ?_)

theorem State.showWidth_kept {m : Nat} (hm : 8 &&& m = 8) {s : State} {x_s : State} {x_k : Link} (h_x_s : Kept m s x_s) : Kept m s (State.showWidth x_s x_k) := by
  unfold State.showWidth
  repeat' first
    | (with_reducible first | assumption | exact Kept.refl _)
    | exact sub_trans (b := 8) (by decide) hm
    | (intro x_1; refine (fun hx : Kept m s x_1 => ?_) ?_; (clear_value x_1); rotate_left; (unfold x_1))
    | (intro x_1; clear_value x_1)
    | intro _
    | (with_reducible first | apply State.setK_kept | apply State.incO_kept | apply State.each_kept | apply State.flagLane_kept | apply Kept.ite)
    | lift_lets -underBinder
    | split
    | (refine Kept.upd ?_ ?_)

theorem State.linkDown_kept {m : Nat} (hm : 16786440 &&& m = 16786440) {s : State} {x_s : State} {x_k : Link} (h_x_s : Kept m s x_s) : Kept m s (State.linkDown x_s x_k) := by
  unfold State.linkDown
  repeat' first
    | (with_reducible first | assumption | exact Kept.refl _)
    | exact sub_trans (b := 16786440) (by decide) hm
    | (intro x_1; refine (fun hx : Kept m s x_1 => ?_) ?_; (clear_value x_1); rotate_left; (unfold x_1))
    | (intro x_1; clear_value x_1)
    | (intro p; cases p <;> first | exact Or.inl (bit_of (a := 16786440) hm rfl) | exact Or.inr rfl)
    | intro _
    | (with_reducible first | apply State.modLink_kept | apply State.each_kept | apply State.showWidth_kept | apply State.setK_kept | apply State.breakStream_kept)
    | lift_lets -underBinder
    | (refine Kept.upd ?_ ?_)

theorem State.reform_kept {m : Nat} (hm : 8 &&& m = 8) {s : State} {x_s : State} {x_k : Link} (h_x_s : Kept m s x_s) : Kept m s (State.reform x_s x_k) := by
  unfold State.reform
  repeat' first
    | (with_reducible first | assumption | exact Kept.refl _)
    | exact sub_trans (b := 8) (by decide) hm
    | (with_reducible first | apply State.setK_kept | apply Kept.ite)

theorem State.stripe_kept {m : Nat} (hm : 16786440 &&& m = 16786440) {s : State} {x_s : State} {x_k : Link} {x_lanes : List Nat} (h_x_s : Kept m s x_s) : Kept m s (State.stripe x_s x_k x_lanes) := by
  unfold State.stripe
  repeat' first
    | (with_reducible first | assumption | exact Kept.refl _)
    | exact sub_trans (b := 16786440) (by decide) hm
    | (intro x_1; refine (fun hx : Kept m s x_1 => ?_) ?_; (clear_value x_1); rotate_left; (unfold x_1))
    | (intro x_1; clear_value x_1)
    | (intro p; cases p <;> first | exact Or.inl (bit_of (a := 16786440) hm rfl) | exact Or.inr rfl)
    | intro _
    | (with_reducible first | apply State.showWidth_kept | apply State.modLink_kept | apply State.linkDown_kept | apply Kept.ite)
    | lift_lets -underBinder
    | (refine Kept.upd ?_ ?_)

theorem State.restripe_kept {m : Nat} (hm : 16786440 &&& m = 16786440) {s : State} {x_s : State} {x_k : Link} (h_x_s : Kept m s x_s) : Kept m s (State.restripe x_s x_k) := by
  unfold State.restripe
  repeat' first
    | (with_reducible first | assumption | exact Kept.refl _)
    | exact sub_trans (b := 16786440) (by decide) hm
    | (intro x_1; refine (fun hx : Kept m s x_1 => ?_) ?_; (clear_value x_1); rotate_left; (unfold x_1))
    | (intro x_1; clear_value x_1)
    | intro _
    | (with_reducible first | apply State.modLink_kept | apply State.stripe_kept | apply State.setK_kept)
    | lift_lets -underBinder
    | (refine Kept.upd ?_ ?_)

theorem State.leaveLink_kept {m : Nat} (hm : 16786440 &&& m = 16786440) {s : State} {x_s : State} {x_l : Lane} (h_x_s : Kept m s x_s) : Kept m s (State.leaveLink x_s x_l) := by
  unfold State.leaveLink
  repeat' first
    | (with_reducible first | assumption | exact Kept.refl _)
    | exact sub_trans (b := 16786440) (by decide) hm
    | (intro x_1; refine (fun hx : Kept m s x_1 => ?_) ?_; (clear_value x_1); rotate_left; (unfold x_1))
    | (intro x_1; clear_value x_1)
    | (intro p; cases p <;> first | exact Or.inl (bit_of (a := 16786440) hm rfl) | exact Or.inr rfl)
    | intro _
    | (with_reducible first | apply State.modLink_kept | apply State.stripe_kept | apply State.reform_kept | exact KeptO.none | apply KeptO.some | apply KeptO.ite | apply Kept.ite)
    | lift_lets -underBinder
    | split
    | (refine Kept.upd ?_ ?_)

theorem State.setLane_kept {m : Nat} (hm : 17179660 &&& m = 17179660) {s : State} {x_s : State} {x_l : Lane} {x_st : Nat} (h_x_s : Kept m s x_s) : Kept m s (State.setLane x_s x_l x_st) := by
  unfold State.setLane
  repeat' first
    | (with_reducible first | assumption | exact Kept.refl _)
    | exact sub_trans (b := 17179660) (by decide) hm
    | (intro x_1; refine (fun hx : Kept m s x_1 => ?_) ?_; (clear_value x_1); rotate_left; (unfold x_1))
    | (intro x_1; clear_value x_1)
    | intro _
    | (with_reducible first | apply State.setL_kept | apply State.modLane_kept | apply State.leaveLink_kept | apply State.laneEvent_kept | apply Kept.ite)
    | lift_lets -underBinder
    | (refine Kept.upd ?_ ?_)

theorem State.retrainLane_kept {m : Nat} (hm : 17179660 &&& m = 17179660) {s : State} {x_s : State} {x_l : Lane} {x_reason : Nat} (h_x_s : Kept m s x_s) : Kept m s (State.retrainLane x_s x_l x_reason) := by
  unfold State.retrainLane
  repeat' first
    | (with_reducible first | assumption | exact Kept.refl _)
    | exact sub_trans (b := 17179660) (by decide) hm
    | (intro x_1; refine (fun hx : Kept m s x_1 => ?_) ?_; (clear_value x_1); rotate_left; (unfold x_1))
    | (intro x_1; clear_value x_1)
    | intro _
    | (with_reducible first | apply State.modLane_kept | apply State.setLane_kept | apply State.incO_kept | apply State.setL_kept | apply State.laneEvent_kept)
    | lift_lets -underBinder
    | (refine Kept.upd ?_ ?_)

theorem State.failLane_kept {m : Nat} (hm : 17212428 &&& m = 17212428) {s : State} {x_s : State} {x_l : Lane} (h_x_s : Kept m s x_s) : Kept m s (State.failLane x_s x_l) := by
  unfold State.failLane
  repeat' first
    | (with_reducible first | assumption | exact Kept.refl _)
    | exact sub_trans (b := 17212428) (by decide) hm
    | (intro x_1; refine (fun hx : Kept m s x_1 => ?_) ?_; (clear_value x_1); rotate_left; (unfold x_1))
    | (intro x_1; clear_value x_1)
    | intro _
    | (with_reducible first | apply State.setLane_kept | apply State.fault_kept)
    | lift_lets -underBinder

theorem State.laneUp_kept {m : Nat} (hm : 17179660 &&& m = 17179660) {s : State} {x_s : State} {x_l : Lane} (h_x_s : Kept m s x_s) : Kept m s (State.laneUp x_s x_l) := by
  unfold State.laneUp
  repeat' first
    | (with_reducible first | assumption | exact Kept.refl _)
    | exact sub_trans (b := 17179660) (by decide) hm
    | (intro x_1; refine (fun hx : Kept m s x_1 => ?_) ?_; (clear_value x_1); rotate_left; (unfold x_1))
    | (intro x_1; clear_value x_1)
    | intro _
    | (with_reducible first | apply State.setL_kept | apply State.setLane_kept | apply State.laneEvent_kept | apply State.modLink_kept | apply State.reform_kept | apply State.flagLane_kept | exact KeptO.none | apply KeptO.some | apply KeptO.ite | apply Kept.ite)
    | lift_lets -underBinder
    | split
    | (refine Kept.upd ?_ ?_)

theorem State.applyRate_kept {m : Nat} (hm : 17179660 &&& m = 17179660) {s : State} {x_s : State} {x_l : Lane} {x_rate : Nat} (h_x_s : Kept m s x_s) : Kept m s (State.applyRate x_s x_l x_rate).1 := by
  unfold State.applyRate
  repeat' first
    | (with_reducible first | assumption | exact Kept.refl _)
    | exact sub_trans (b := 17179660) (by decide) hm
    | (intro x_1; refine (fun hx : Kept m s x_1 => ?_) ?_; (clear_value x_1); rotate_left; (unfold x_1))
    | (intro x_1; clear_value x_1)
    | intro _
    | (with_reducible first | apply State.modLane_kept | apply State.setL_kept | apply State.retrainLane_kept | exact KeptO.none | apply KeptO.some | apply KeptO.ite | apply Kept.ite | apply Kept.ite1)
    | lift_lets -underBinder
    | dsimp only
    | (refine Kept.upd ?_ ?_)

theorem State.hostLane_kept {m : Nat} (hm : 1 &&& m = 1) {s : State} {x_s : State} {x_l : Lane} (x_k : State → State) (h_x_s : Kept m s x_s) (h_x_k : ∀ (v0 : State), Kept m s v0 → Kept m s (x_k v0)) : Kept m s (State.hostLane x_s x_l x_k) := by
  unfold State.hostLane
  repeat' first
    | (with_reducible first | assumption | exact Kept.refl _)
    | exact sub_trans (b := 1) (by decide) hm
    | intro _
    | (with_reducible first | apply h_x_k | apply State.hostModule_kept | apply State.answer_kept | apply Kept.ite)

theorem State.enableLane_kept {m : Nat} (hm : 17179660 &&& m = 17179660) {s : State} {x_s : State} {x_l : Lane} {x_on : Bool} (h_x_s : Kept m s x_s) : Kept m s (State.enableLane x_s x_l x_on) := by
  unfold State.enableLane
  repeat' first
    | (with_reducible first | assumption | exact Kept.refl _)
    | exact sub_trans (b := 17179660) (by decide) hm
    | (intro x_1; refine (fun hx : Kept m s x_1 => ?_) ?_; (clear_value x_1); rotate_left; (unfold x_1))
    | (intro x_1; clear_value x_1)
    | intro _
    | (with_reducible first | apply State.setL_kept | apply State.setLane_kept | apply Kept.ite)
    | lift_lets -underBinder

theorem State.windowEnd_kept {m : Nat} (hm : 17179676 &&& m = 17179676) {s : State} {x_s : State} {x_l : Lane} {x_eh : Nat} {x_ew : Nat} {x_eq : EqSet} (h_x_s : Kept m s x_s) : Kept m s (State.windowEnd x_s x_l x_eh x_ew x_eq) := by
  unfold State.windowEnd
  repeat' first
    | (with_reducible first | assumption | exact Kept.refl _)
    | exact sub_trans (b := 17179676) (by decide) hm
    | (intro x_1; refine (fun hx : Kept m s x_1 => ?_) ?_; (clear_value x_1); rotate_left; (unfold x_1))
    | (intro x_1; clear_value x_1)
    | (intro p; cases p <;> first | exact Or.inl (bit_of (a := 17179676) hm rfl) | exact Or.inr rfl)
    | intro _
    | (with_reducible first | apply State.setL_kept | apply State.modLane_kept | apply State.retrainLane_kept | exact KeptO.none | apply KeptO.some | apply KeptO.ite | apply Kept.ite)
    | lift_lets -underBinder
    | split
    | (refine Kept.upd ?_ ?_)

theorem State.capsIn_kept {m : Nat} (hm : 17179660 &&& m = 17179660) {s : State} {x_s : State} {x_l : Lane} {x_caps : Nat} (h_x_s : Kept m s x_s) : Kept m s (State.capsIn x_s x_l x_caps) := by
  unfold State.capsIn
  repeat' first
    | (with_reducible first | assumption | exact Kept.refl _)
    | exact sub_trans (b := 17179660) (by decide) hm
    | (intro x_1; refine (fun hx : Kept m s x_1 => ?_) ?_; (clear_value x_1); rotate_left; (unfold x_1))
    | (intro x_1; clear_value x_1)
    | intro _
    | (with_reducible first | apply State.modLane_kept | apply State.retrainLane_kept | apply State.flagLane_kept | apply State.setL_kept | apply State.setK_kept | apply State.modLink_kept | exact KeptO.none | apply KeptO.some | apply KeptO.ite | apply Kept.ite)
    | lift_lets -underBinder
    | split
    | (refine Kept.upd ?_ ?_)

theorem State.capsOut_kept {m : Nat} (hm : 17179660 &&& m = 17179660) {s : State} {x_s : State} {x_l : Lane} (h_x_s : Kept m s x_s) : Kept m s (State.capsOut x_s x_l) := by
  unfold State.capsOut
  repeat' first
    | (with_reducible first | assumption | exact Kept.refl _)
    | exact sub_trans (b := 17179660) (by decide) hm
    | (intro x_1; refine (fun hx : Kept m s x_1 => ?_) ?_; (clear_value x_1); rotate_left; (unfold x_1))
    | (intro x_1; clear_value x_1)
    | intro _
    | (with_reducible first | apply State.laneUp_kept | apply State.modLane_kept | apply Kept.ite)
    | lift_lets -underBinder
    | (refine Kept.upd ?_ ?_)

theorem State.fomUpdate_kept {m : Nat} (hm : 17170460 &&& m = 17170460) {s : State} {x_s : State} {x_l : Lane} {x_eh : Nat} {x_ew : Nat} (h_x_s : Kept m s x_s) : Kept m s (State.fomUpdate x_s x_l x_eh x_ew) := by
  unfold State.fomUpdate
  repeat' first
    | (with_reducible first | assumption | exact Kept.refl _)
    | exact sub_trans (b := 17170460) (by decide) hm
    | (intro x_1; refine (fun hx : Kept m s x_1 => ?_) ?_; (clear_value x_1); rotate_left; (unfold x_1))
    | (intro x_1; clear_value x_1)
    | (intro p; cases p <;> first | exact Or.inl (bit_of (a := 17170460) hm rfl) | exact Or.inr rfl)
    | intro _
    | (with_reducible first | apply State.setL_kept | apply State.flagLane_kept | apply State.modLane_kept | apply State.laneEvent_kept | exact KeptO.none | apply KeptO.some | apply KeptO.ite | apply Kept.ite)
    | lift_lets -underBinder
    | split
    | (refine Kept.upd ?_ ?_)

theorem State.fomLow_kept {m : Nat} (hm : 17179662 &&& m = 17179662) {s : State} {x_s : State} {x_l : Lane} (h_x_s : Kept m s x_s) : Kept m s (State.fomLow x_s x_l) := by
  unfold State.fomLow
  repeat' first
    | (with_reducible first | assumption | exact Kept.refl _)
    | exact sub_trans (b := 17179662) (by decide) hm
    | (with_reducible first | apply State.retrainLane_kept | apply State.advance_kept | exact KeptO.none | apply KeptO.some | apply KeptO.ite | apply Kept.ite)
    | split
    | (refine Kept.upd ?_ ?_)

theorem State.adaptResume_kept {m : Nat} (hm : 16777224 &&& m = 16777224) {s : State} {x_s : State} {x_l : Lane} (h_x_s : Kept m s x_s) : Kept m s (State.adaptResume x_s x_l) := by
  unfold State.adaptResume
  repeat' first
    | (with_reducible first | assumption | exact Kept.refl _)
    | exact sub_trans (b := 16777224) (by decide) hm
    | (intro x_1; refine (fun hx : Kept m s x_1 => ?_) ?_; (clear_value x_1); rotate_left; (unfold x_1))
    | (intro x_1; clear_value x_1)
    | intro _
    | (with_reducible first | apply State.setL_kept | apply State.modLane_kept | exact KeptO.none | apply KeptO.some | apply KeptO.ite | apply Kept.ite)
    | lift_lets -underBinder
    | (refine Kept.upd ?_ ?_)

theorem State.headerWindow_kept {m : Nat} (hm : 17179660 &&& m = 17179660) {s : State} {x_s : State} {x_l : Lane} {x_invalid : Nat} {x_bad : Nat} (h_x_s : Kept m s x_s) : Kept m s (State.headerWindow x_s x_l x_invalid x_bad) := by
  unfold State.headerWindow
  repeat' first
    | (with_reducible first | assumption | exact Kept.refl _)
    | exact sub_trans (b := 17179660) (by decide) hm
    | (intro x_1; refine (fun hx : Kept m s x_1 => ?_) ?_; (clear_value x_1); rotate_left; (unfold x_1))
    | (intro x_1; clear_value x_1)
    | intro _
    | (with_reducible first | apply State.setL_kept | apply State.retrainLane_kept | apply Kept.ite)
    | lift_lets -underBinder

theorem State.stepTimeout_kept {m : Nat} (hm : 17212428 &&& m = 17212428) {s : State} {x_s : State} {x_l : Lane} (h_x_s : Kept m s x_s) : Kept m s (State.stepTimeout x_s x_l) := by
  unfold State.stepTimeout
  repeat' first
    | (with_reducible first | assumption | exact Kept.refl _)
    | exact sub_trans (b := 17212428) (by decide) hm
    | (intro x_1; refine (fun hx : Kept m s x_1 => ?_) ?_; (clear_value x_1); rotate_left; (unfold x_1))
    | (intro x_1; clear_value x_1)
    | intro _
    | (with_reducible first | apply State.failLane_kept | apply State.flagLane_kept | apply Kept.ite)
    | lift_lets -underBinder

theorem State.replay_kept {m : Nat} (hm : 16819208 &&& m = 16819208) {s : State} {x_s : State} {x_k : Link} (h_x_s : Kept m s x_s) : Kept m s (State.replay x_s x_k) := by
  unfold State.replay
  repeat' first
    | (with_reducible first | assumption | exact Kept.refl _)
    | exact sub_trans (b := 16819208) (by decide) hm
    | (intro x_1; refine (fun hx : Kept m s x_1 => ?_) ?_; (clear_value x_1); rotate_left; (unfold x_1))
    | (intro x_1; clear_value x_1)
    | intro _
    | (with_reducible first | apply State.modLink_kept | apply State.incO_kept | apply State.linkDown_kept | apply State.fault_kept | apply Kept.ite)
    | lift_lets -underBinder
    | (refine Kept.upd ?_ ?_)

theorem State.ackFrames_kept {m : Nat} (hm : 16777216 &&& m = 16777216) {s : State} {x_s : State} {x_k : Link} {x_seq : Nat} (h_x_s : Kept m s x_s) : Kept m s (State.ackFrames x_s x_k x_seq) := by
  unfold State.ackFrames
  repeat' first
    | (with_reducible first | assumption | exact Kept.refl _)
    | exact sub_trans (b := 16777216) (by decide) hm
    | (intro x_1; refine (fun hx : Kept m s x_1 => ?_) ?_; (clear_value x_1); rotate_left; (unfold x_1))
    | (intro x_1; clear_value x_1)
    | intro _
    | (with_reducible first | apply State.modLink_kept | exact KeptO.none | apply KeptO.some | apply KeptO.ite)
    | lift_lets -underBinder
    | split
    | (refine Kept.upd ?_ ?_)

theorem State.countProtected_kept {m : Nat} (hm : 16786440 &&& m = 16786440) {s : State} {x_s : State} {x_i : Stream} (h_x_s : Kept m s x_s) : Kept m s (State.countProtected x_s x_i) := by
  unfold State.countProtected
  repeat' first
    | (with_reducible first | assumption | exact Kept.refl _)
    | exact sub_trans (b := 16786440) (by decide) hm
    | (intro x_1; refine (fun hx : Kept m s x_1 => ?_) ?_; (clear_value x_1); rotate_left; (unfold x_1))
    | (intro x_1; clear_value x_1)
    | intro _
    | (with_reducible first | apply State.modStream_kept | apply State.breakStream_kept | apply Kept.ite)
    | lift_lets -underBinder
    | (refine Kept.upd ?_ ?_)

theorem State.sendFrame_kept {m : Nat} (hm : 16786440 &&& m = 16786440) {s : State} {x_s : State} {x_k : Link} {x_i : Stream} {x_len : Nat} {x_mark : Option (BitVec 32)} {x_eom : Bool} (h_x_s : Kept m s x_s) : Kept m s (State.sendFrame x_s x_k x_i x_len x_mark x_eom) := by
  unfold State.sendFrame
  repeat' first
    | (with_reducible first | assumption | exact Kept.refl _)
    | exact sub_trans (b := 16786440) (by decide) hm
    | (intro x_1; refine (fun hx : Kept m s x_1 => ?_) ?_; (clear_value x_1); rotate_left; (unfold x_1))
    | (intro x_1; clear_value x_1)
    | intro _
    | (with_reducible first | apply State.modLink_kept | apply State.modStream_kept | apply State.setT_kept | apply State.countProtected_kept | exact KeptO.none | apply KeptO.some | apply KeptO.ite | apply Kept.ite)
    | lift_lets -underBinder
    | split
    | (refine Kept.upd ?_ ?_)

theorem State.badFrame_kept {m : Nat} (hm : 16777224 &&& m = 16777224) {s : State} {x_s : State} {x_k : Link} (h_x_s : Kept m s x_s) : Kept m s (State.badFrame x_s x_k) := by
  unfold State.badFrame
  repeat' first
    | (with_reducible first | assumption | exact Kept.refl _)
    | exact sub_trans (b := 16777224) (by decide) hm
    | (intro x_1; refine (fun hx : Kept m s x_1 => ?_) ?_; (clear_value x_1); rotate_left; (unfold x_1))
    | (intro x_1; clear_value x_1)
    | intro _
    | (with_reducible first | apply State.incO_kept | apply State.modLink_kept | exact KeptO.none | apply KeptO.some | apply KeptO.ite | apply Kept.ite)
    | lift_lets -underBinder
    | split
    | (refine Kept.upd ?_ ?_)

theorem State.receiveFrame_kept {m : Nat} (hm : 16785608 &&& m = 16785608) {s : State} {x_s : State} {x_k : Link} {x_f : Frame} {x_tagOk : Bool} (h_x_s : Kept m s x_s) : Kept m s (State.receiveFrame x_s x_k x_f x_tagOk) := by
  unfold State.receiveFrame
  repeat' first
    | (with_reducible first | assumption | exact Kept.refl _)
    | exact sub_trans (b := 16785608) (by decide) hm
    | (intro x_1; refine (fun hx : Kept m s x_1 => ?_) ?_; (clear_value x_1); rotate_left; (unfold x_1))
    | (intro x_1; clear_value x_1)
    | intro _
    | (with_reducible first | apply State.badFrame_kept | apply State.modLink_kept | apply State.modStream_kept | apply State.setT_kept | apply State.deliver_kept | exact KeptO.none | apply KeptO.some | apply KeptO.ite | apply Kept.ite)
    | lift_lets -underBinder
    | (refine Kept.upd ?_ ?_)

theorem State.grantCredit_kept {m : Nat} (hm : 8 &&& m = 8) {s : State} {x_s : State} {x_i : Stream} (h_x_s : Kept m s x_s) : Kept m s (State.grantCredit x_s x_i) := by
  unfold State.grantCredit
  repeat' first
    | (with_reducible first | assumption | exact Kept.refl _)
    | exact sub_trans (b := 8) (by decide) hm
    | (with_reducible first | apply State.setT_kept | apply Kept.ite)

theorem State.openStream_kept {m : Nat} (hm : 16777225 &&& m = 16777225) {s : State} {x_s : State} {x_i : Stream} {x_k_ : BitVec 256} (h_x_s : Kept m s x_s) : Kept m s (State.openStream x_s x_i x_k_) := by
  unfold State.openStream
  repeat' first
    | (with_reducible first | assumption | exact Kept.refl _)
    | exact sub_trans (b := 16777225) (by decide) hm
    | (intro x_1; refine (fun hx : Kept m s x_1 => ?_) ?_; (clear_value x_1); rotate_left; (unfold x_1))
    | (intro x_1; clear_value x_1)
    | intro _
    | (with_reducible first | apply State.answer_kept | apply State.each_kept | apply State.setT_kept | apply State.setB_kept | apply State.modStream_kept | apply State.ok_kept | exact KeptO.none | apply KeptO.some | apply KeptO.ite | apply Kept.ite)
    | lift_lets -underBinder
    | split
    | (refine Kept.upd ?_ ?_)

theorem State.resetStream_kept {m : Nat} (hm : 16786441 &&& m = 16786441) {s : State} {x_s : State} {x_i : Stream} (h_x_s : Kept m s x_s) : Kept m s (State.resetStream x_s x_i) := by
  unfold State.resetStream
  repeat' first
    | (with_reducible first | assumption | exact Kept.refl _)
    | exact sub_trans (b := 16786441) (by decide) hm
    | (intro x_1; refine (fun hx : Kept m s x_1 => ?_) ?_; (clear_value x_1); rotate_left; (unfold x_1))
    | (intro x_1; clear_value x_1)
    | intro _
    | (with_reducible first | apply State.breakStream_kept | apply State.ok_kept | apply State.setT_kept | apply State.modStream_kept)
    | lift_lets -underBinder

theorem State.consumeRing_kept {m : Nat} (hm : 9 &&& m = 9) {s : State} {x_s : State} {x_i : Stream} {x_v : Nat} (h_x_s : Kept m s x_s) : Kept m s (State.consumeRing x_s x_i x_v) := by
  unfold State.consumeRing
  repeat' first
    | (with_reducible first | assumption | exact Kept.refl _)
    | exact sub_trans (b := 9) (by decide) hm
    | (intro x_1; refine (fun hx : Kept m s x_1 => ?_) ?_; (clear_value x_1); rotate_left; (unfold x_1))
    | (intro x_1; clear_value x_1)
    | intro _
    | (with_reducible first | apply State.ok_kept | apply State.setT_kept | apply State.answer_kept | apply Kept.ite)
    | lift_lets -underBinder

theorem State.markerIn_kept {m : Nat} (hm : 16786440 &&& m = 16786440) {s : State} {x_s : State} {x_k : Link} {x_skew : Nat} (h_x_s : Kept m s x_s) : Kept m s (State.markerIn x_s x_k x_skew) := by
  unfold State.markerIn
  repeat' first
    | (with_reducible first | assumption | exact Kept.refl _)
    | exact sub_trans (b := 16786440) (by decide) hm
    | (intro x_1; refine (fun hx : Kept m s x_1 => ?_) ?_; (clear_value x_1); rotate_left; (unfold x_1))
    | (intro x_1; clear_value x_1)
    | intro _
    | (with_reducible first | apply State.reform_kept | apply State.each_kept | apply State.flagLane_kept | apply State.restripe_kept | apply State.modLink_kept | apply State.stripe_kept | apply Kept.ite)
    | lift_lets -underBinder
    | split
    | (refine Kept.upd ?_ ?_)

theorem State.formLink_kept {m : Nat} (hm : 16786442 &&& m = 16786442) {s : State} {x_s : State} {x_k : Link} (h_x_s : Kept m s x_s) : Kept m s (State.formLink x_s x_k) := by
  unfold State.formLink
  repeat' first
    | (with_reducible first | assumption | exact Kept.refl _)
    | exact sub_trans (b := 16786442) (by decide) hm
    | (intro x_1; refine (fun hx : Kept m s x_1 => ?_) ?_; (clear_value x_1); rotate_left; (unfold x_1))
    | (intro x_1; clear_value x_1)
    | intro _
    | (with_reducible first | apply State.advance_kept | apply State.stripe_kept | apply State.setK_kept | exact KeptO.none | apply KeptO.some | apply KeptO.ite | apply Kept.ite)
    | lift_lets -underBinder
    | split
    | (refine Kept.upd ?_ ?_)

theorem State.linkUp_kept {m : Nat} (hm : 16777225 &&& m = 16777225) {s : State} {x_s : State} {x_k : Link} (h_x_s : Kept m s x_s) : Kept m s (State.linkUp x_s x_k) := by
  unfold State.linkUp
  repeat' first
    | (with_reducible first | assumption | exact Kept.refl _)
    | exact sub_trans (b := 16777225) (by decide) hm
    | (intro x_1; refine (fun hx : Kept m s x_1 => ?_) ?_; (clear_value x_1); rotate_left; (unfold x_1))
    | (intro x_1; clear_value x_1)
    | intro _
    | (with_reducible first | apply State.ok_kept | apply State.setK_kept | apply State.modLink_kept | exact KeptO.none | apply KeptO.some | apply KeptO.ite | apply Kept.ite)
    | lift_lets -underBinder
    | (refine Kept.upd ?_ ?_)

theorem State.laneAdd_kept {m : Nat} (hm : 16777216 &&& m = 16777216) {s : State} {x_s : State} {x_k : Link} {x_l : Lane} (h_x_s : Kept m s x_s) : Kept m s (State.laneAdd x_s x_k x_l) := by
  unfold State.laneAdd
  repeat' first
    | (with_reducible first | assumption | exact Kept.refl _)
    | exact sub_trans (b := 16777216) (by decide) hm
    | intro _
    | (with_reducible first | apply State.modLink_kept | exact KeptO.none | apply KeptO.some | apply KeptO.ite | apply Kept.ite)
    | (refine Kept.upd ?_ ?_)

theorem State.laneDrop_kept {m : Nat} (hm : 16786440 &&& m = 16786440) {s : State} {x_s : State} {x_k : Link} {x_l : Lane} (h_x_s : Kept m s x_s) : Kept m s (State.laneDrop x_s x_k x_l) := by
  unfold State.laneDrop
  repeat' first
    | (with_reducible first | assumption | exact Kept.refl _)
    | exact sub_trans (b := 16786440) (by decide) hm
    | (intro x_1; refine (fun hx : Kept m s x_1 => ?_) ?_; (clear_value x_1); rotate_left; (unfold x_1))
    | (intro x_1; clear_value x_1)
    | intro _
    | (with_reducible first | apply State.modLink_kept | apply State.stripe_kept | apply Kept.ite)
    | lift_lets -underBinder
    | (refine Kept.upd ?_ ?_)

theorem State.pkgStart_kept {m : Nat} (hm : 9225 &&& m = 9225) {s : State} {x_s : State} {x_b : Bay} (h_x_s : Kept m s x_s) : Kept m s (State.pkgStart x_s x_b) := by
  unfold State.pkgStart
  repeat' first
    | (with_reducible first | assumption | exact Kept.refl _)
    | exact sub_trans (b := 9225) (by decide) hm
    | (intro x_1; refine (fun hx : Kept m s x_1 => ?_) ?_; (clear_value x_1); rotate_left; (unfold x_1))
    | (intro x_1; clear_value x_1)
    | intro _
    | (with_reducible first | apply State.answer_kept | apply State.pkgBegin_kept | apply State.setT_kept | apply Kept.ite)
    | lift_lets -underBinder
    | split
    | dsimp only
    | (refine Kept.upd ?_ ?_)

theorem execLaneEnable_kept {m : Nat} (hm : 17179661 &&& m = 17179661) {s : State} {x_l : Lane} {x_on : Bool} {x_s : State} (h_x_s : Kept m s x_s) : KeptN m s (execLaneEnable x_l x_on x_s) := by
  unfold execLaneEnable
  repeat' first
    | (with_reducible first | assumption | exact Kept.refl _)
    | exact sub_trans (b := 17179661) (by decide) hm
    | intro _
    | (with_reducible first | apply State.hostLane_kept | apply State.ok_kept | apply State.enableLane_kept | apply KeptN.next | apply KeptN.ite)

theorem execReceiverDetect_kept {m : Nat} (hm : 17179660 &&& m = 17179660) {s : State} {x_l : Lane} {x_found : Bool} {x_s : State} (h_x_s : Kept m s x_s) : KeptN m s (execReceiverDetect x_l x_found x_s) := by
  unfold execReceiverDetect
  repeat' first
    | (with_reducible first | assumption | exact Kept.refl _)
    | exact sub_trans (b := 17179660) (by decide) hm
    | (with_reducible first | apply State.setLane_kept | apply KeptN.next | apply KeptN.ite | apply Kept.ite)

theorem execTrainComplete_kept {m : Nat} (hm : 17179660 &&& m = 17179660) {s : State} {x_l : Lane} {x_s : State} (h_x_s : Kept m s x_s) : KeptN m s (execTrainComplete x_l x_s) := by
  unfold execTrainComplete
  repeat' first
    | (with_reducible first | assumption | exact Kept.refl _)
    | exact sub_trans (b := 17179660) (by decide) hm
    | (with_reducible first | apply State.setLane_kept | apply KeptN.next | apply KeptN.ite | apply Kept.ite)

theorem execBitLock_kept {m : Nat} (hm : 17179660 &&& m = 17179660) {s : State} {x_l : Lane} {x_s : State} (h_x_s : Kept m s x_s) : KeptN m s (execBitLock x_l x_s) := by
  unfold execBitLock
  repeat' first
    | (with_reducible first | assumption | exact Kept.refl _)
    | exact sub_trans (b := 17179660) (by decide) hm
    | (with_reducible first | apply State.setLane_kept | apply KeptN.next | apply KeptN.ite | apply Kept.ite)

theorem execBlockLock_kept {m : Nat} (hm : 17179660 &&& m = 17179660) {s : State} {x_l : Lane} {x_s : State} (h_x_s : Kept m s x_s) : KeptN m s (execBlockLock x_l x_s) := by
  unfold execBlockLock
  repeat' first
    | (with_reducible first | assumption | exact Kept.refl _)
    | exact sub_trans (b := 17179660) (by decide) hm
    | (with_reducible first | apply State.setLane_kept | apply KeptN.next | apply KeptN.ite | apply Kept.ite)

theorem execCapsExchange_kept {m : Nat} (hm : 17179660 &&& m = 17179660) {s : State} {x_l : Lane} {x_caps : BitVec 64} {x_s : State} (h_x_s : Kept m s x_s) : KeptN m s (execCapsExchange x_l x_caps x_s) := by
  unfold execCapsExchange
  repeat' first
    | (with_reducible first | assumption | exact Kept.refl _)
    | exact sub_trans (b := 17179660) (by decide) hm
    | (with_reducible first | apply State.capsIn_kept | apply KeptN.next | apply KeptN.ite)

theorem execCapsSend_kept {m : Nat} (hm : 17179660 &&& m = 17179660) {s : State} {x_l : Lane} {x_s : State} (h_x_s : Kept m s x_s) : KeptN m s (execCapsSend x_l x_s) := by
  unfold execCapsSend
  repeat' first
    | (with_reducible first | assumption | exact Kept.refl _)
    | exact sub_trans (b := 17179660) (by decide) hm
    | (with_reducible first | apply State.capsOut_kept | apply KeptN.next | apply KeptN.ite)

theorem execLaneStepTimeout_kept {m : Nat} (hm : 17212428 &&& m = 17212428) {s : State} {x_l : Lane} {x_s : State} (h_x_s : Kept m s x_s) : KeptN m s (execLaneStepTimeout x_l x_s) := by
  unfold execLaneStepTimeout
  repeat' first
    | (with_reducible first | assumption | exact Kept.refl _)
    | exact sub_trans (b := 17212428) (by decide) hm
    | (with_reducible first | apply State.stepTimeout_kept | apply KeptN.next | apply KeptN.ite)

theorem execAutoRetrain_kept {m : Nat} (hm : 17179660 &&& m = 17179660) {s : State} {x_l : Lane} {x_s : State} (h_x_s : Kept m s x_s) : KeptN m s (execAutoRetrain x_l x_s) := by
  unfold execAutoRetrain
  repeat' first
    | (with_reducible first | assumption | exact Kept.refl _)
    | exact sub_trans (b := 17179660) (by decide) hm
    | (with_reducible first | apply State.setLane_kept | apply KeptN.next | apply KeptN.ite | apply Kept.ite)

theorem execHeaderWindow_kept {m : Nat} (hm : 17179660 &&& m = 17179660) {s : State} {x_l : Lane} {x_invalid : BitVec 11} {x_badBlocks : BitVec 11} {x_s : State} (h_x_s : Kept m s x_s) : KeptN m s (execHeaderWindow x_l x_invalid x_badBlocks x_s) := by
  unfold execHeaderWindow
  repeat' first
    | (with_reducible first | assumption | exact Kept.refl _)
    | exact sub_trans (b := 17179660) (by decide) hm
    | (with_reducible first | apply State.headerWindow_kept | apply KeptN.next | apply KeptN.ite)

theorem execFomUpdate_kept {m : Nat} (hm : 17170460 &&& m = 17170460) {s : State} {x_l : Lane} {x_eh : BitVec 8} {x_ew : BitVec 8} {x_s : State} (h_x_s : Kept m s x_s) : KeptN m s (execFomUpdate x_l x_eh x_ew x_s) := by
  unfold execFomUpdate
  repeat' first
    | (with_reducible first | assumption | exact Kept.refl _)
    | exact sub_trans (b := 17170460) (by decide) hm
    | (with_reducible first | apply State.fomUpdate_kept | apply KeptN.next | apply KeptN.ite)

theorem execAdaptFreeze_kept {m : Nat} (hm : 8 &&& m = 8) {s : State} {x_l : Lane} {x_s : State} (h_x_s : Kept m s x_s) : KeptN m s (execAdaptFreeze x_l x_s) := by
  unfold execAdaptFreeze
  repeat' first
    | (with_reducible first | assumption | exact Kept.refl _)
    | exact sub_trans (b := 8) (by decide) hm
    | (with_reducible first | apply State.setL_kept | apply KeptN.next | apply KeptN.ite | apply Kept.ite)

theorem execAdaptResume_kept {m : Nat} (hm : 16777224 &&& m = 16777224) {s : State} {x_l : Lane} {x_s : State} (h_x_s : Kept m s x_s) : KeptN m s (execAdaptResume x_l x_s) := by
  unfold execAdaptResume
  repeat' first
    | (with_reducible first | assumption | exact Kept.refl _)
    | exact sub_trans (b := 16777224) (by decide) hm
    | (with_reducible first | apply State.adaptResume_kept | apply KeptN.next | apply KeptN.ite)

theorem execFomLow_kept {m : Nat} (hm : 17179662 &&& m = 17179662) {s : State} {x_l : Lane} {x_s : State} (h_x_s : Kept m s x_s) : KeptN m s (execFomLow x_l x_s) := by
  unfold execFomLow
  repeat' first
    | (with_reducible first | assumption | exact Kept.refl _)
    | exact sub_trans (b := 17179662) (by decide) hm
    | (with_reducible first | apply State.fomLow_kept | apply KeptN.next | apply KeptN.ite)

theorem execLaneRetrainRequest_kept {m : Nat} (hm : 17179661 &&& m = 17179661) {s : State} {x_l : Lane} {x_s : State} (h_x_s : Kept m s x_s) : KeptN m s (execLaneRetrainRequest x_l x_s) := by
  unfold execLaneRetrainRequest
  repeat' first
    | (with_reducible first | assumption | exact Kept.refl _)
    | exact sub_trans (b := 17179661) (by decide) hm
    | intro _
    | (with_reducible first | apply State.hostLane_kept | apply State.answer_kept | apply State.ok_kept | apply State.retrainLane_kept | apply KeptN.next | apply KeptN.ite | apply Kept.ite)

theorem execLinkForm_kept {m : Nat} (hm : 16786442 &&& m = 16786442) {s : State} {x_k : Link} {x_s : State} (h_x_s : Kept m s x_s) : KeptN m s (execLinkForm x_k x_s) := by
  unfold execLinkForm
  repeat' first
    | (with_reducible first | assumption | exact Kept.refl _)
    | exact sub_trans (b := 16786442) (by decide) hm
    | (with_reducible first | apply State.formLink_kept | apply KeptN.next | apply KeptN.ite)

theorem execLinkCtrlUp_kept {m : Nat} (hm : 16777225 &&& m = 16777225) {s : State} {x_k : Link} {x_s : State} (h_x_s : Kept m s x_s) : KeptN m s (execLinkCtrlUp x_k x_s) := by
  unfold execLinkCtrlUp
  repeat' first
    | (with_reducible first | assumption | exact Kept.refl _)
    | exact sub_trans (b := 16777225) (by decide) hm
    | intro _
    | (with_reducible first | apply State.hostModule_kept | apply State.linkUp_kept | apply KeptN.next | apply KeptN.ite)

theorem execLinkCtrlDown_kept {m : Nat} (hm : 16786441 &&& m = 16786441) {s : State} {x_k : Link} {x_s : State} (h_x_s : Kept m s x_s) : KeptN m s (execLinkCtrlDown x_k x_s) := by
  unfold execLinkCtrlDown
  repeat' first
    | (with_reducible first | assumption | exact Kept.refl _)
    | exact sub_trans (b := 16786441) (by decide) hm
    | intro _
    | (with_reducible first | apply State.hostModule_kept | apply State.ok_kept | apply State.linkDown_kept | apply KeptN.next | apply KeptN.ite)

theorem execMarker_kept {m : Nat} (hm : 16786440 &&& m = 16786440) {s : State} {x_k : Link} {x_skew : Nat} {x_s : State} (h_x_s : Kept m s x_s) : KeptN m s (execMarker x_k x_skew x_s) := by
  unfold execMarker
  repeat' first
    | (with_reducible first | assumption | exact Kept.refl _)
    | exact sub_trans (b := 16786440) (by decide) hm
    | (with_reducible first | apply State.markerIn_kept | apply KeptN.next | apply KeptN.ite)

theorem execFrameSend_kept {m : Nat} (hm : 16786440 &&& m = 16786440) {s : State} {x_k : Link} {x_st : Stream} {x_len : Nat} {x_mark : Option (BitVec 32)} {x_eom : Bool} {x_s : State} (h_x_s : Kept m s x_s) : KeptN m s (execFrameSend x_k x_st x_len x_mark x_eom x_s) := by
  unfold execFrameSend
  repeat' first
    | (with_reducible first | assumption | exact Kept.refl _)
    | exact sub_trans (b := 16786440) (by decide) hm
    | (with_reducible first | apply State.sendFrame_kept | apply KeptN.next | apply KeptN.ite)

theorem execFrameReceive_kept {m : Nat} (hm : 16785608 &&& m = 16785608) {s : State} {x_k : Link} {x_f : Frame} {x_tagOk : Bool} {x_s : State} (h_x_s : Kept m s x_s) : KeptN m s (execFrameReceive x_k x_f x_tagOk x_s) := by
  unfold execFrameReceive
  repeat' first
    | (with_reducible first | assumption | exact Kept.refl _)
    | exact sub_trans (b := 16785608) (by decide) hm
    | (with_reducible first | apply State.receiveFrame_kept | apply KeptN.next | apply KeptN.ite)

theorem execAck_kept {m : Nat} (hm : 16777216 &&& m = 16777216) {s : State} {x_k : Link} {x_seq : BitVec 12} {x_s : State} (h_x_s : Kept m s x_s) : KeptN m s (execAck x_k x_seq x_s) := by
  unfold execAck
  repeat' first
    | (with_reducible first | assumption | exact Kept.refl _)
    | exact sub_trans (b := 16777216) (by decide) hm
    | (with_reducible first | apply State.ackFrames_kept | apply KeptN.next | apply KeptN.ite)

theorem execNak_kept {m : Nat} (hm : 16819208 &&& m = 16819208) {s : State} {x_k : Link} {x__seq : BitVec 12} {x_s : State} (h_x_s : Kept m s x_s) : KeptN m s (execNak x_k x__seq x_s) := by
  unfold execNak
  repeat' first
    | (with_reducible first | assumption | exact Kept.refl _)
    | exact sub_trans (b := 16819208) (by decide) hm
    | (with_reducible first | apply State.replay_kept | apply KeptN.next | apply KeptN.ite)

theorem execCredit_kept {m : Nat} (hm : 8 &&& m = 8) {s : State} {x_k : Link} {x_st : Stream} {x_amount : BitVec 24} {x_s : State} (h_x_s : Kept m s x_s) : KeptN m s (execCredit x_k x_st x_amount x_s) := by
  unfold execCredit
  repeat' first
    | (with_reducible first | assumption | exact Kept.refl _)
    | exact sub_trans (b := 8) (by decide) hm
    | (with_reducible first | apply State.setT_kept | apply KeptN.next | apply KeptN.ite | apply Kept.ite)

theorem execLaneDrop_kept {m : Nat} (hm : 16786440 &&& m = 16786440) {s : State} {x_k : Link} {x_l : Lane} {x_s : State} (h_x_s : Kept m s x_s) : KeptN m s (execLaneDrop x_k x_l x_s) := by
  unfold execLaneDrop
  repeat' first
    | (with_reducible first | assumption | exact Kept.refl _)
    | exact sub_trans (b := 16786440) (by decide) hm
    | (with_reducible first | apply State.laneDrop_kept | apply KeptN.next | apply KeptN.ite)

theorem execLaneAdd_kept {m : Nat} (hm : 16777216 &&& m = 16777216) {s : State} {x_k : Link} {x_l : Lane} {x_s : State} (h_x_s : Kept m s x_s) : KeptN m s (execLaneAdd x_k x_l x_s) := by
  unfold execLaneAdd
  repeat' first
    | (with_reducible first | assumption | exact Kept.refl _)
    | exact sub_trans (b := 16777216) (by decide) hm
    | (with_reducible first | apply State.laneAdd_kept | apply KeptN.next | apply KeptN.ite)

theorem execRateNotice_kept {m : Nat} (hm : 16777216 &&& m = 16777216) {s : State} {x_l : Lane} {x_s : State} (h_x_s : Kept m s x_s) : KeptN m s (execRateNotice x_l x_s) := by
  unfold execRateNotice
  repeat' first
    | (with_reducible first | assumption | exact Kept.refl _)
    | exact sub_trans (b := 16777216) (by decide) hm
    | intro _
    | (with_reducible first | apply State.modLane_kept | apply KeptN.next | apply KeptN.ite | apply Kept.ite)
    | (refine Kept.upd ?_ ?_)

theorem execReplayTimeout_kept {m : Nat} (hm : 16819208 &&& m = 16819208) {s : State} {x_k : Link} {x_s : State} (h_x_s : Kept m s x_s) : KeptN m s (execReplayTimeout x_k x_s) := by
  unfold execReplayTimeout
  repeat' first
    | (with_reducible first | assumption | exact Kept.refl _)
    | exact sub_trans (b := 16819208) (by decide) hm
    | (with_reducible first | apply State.replay_kept | apply KeptN.next | apply KeptN.ite)

theorem execCreditGrant_kept {m : Nat} (hm : 8 &&& m = 8) {s : State} {x_st : Stream} {x_s : State} (h_x_s : Kept m s x_s) : KeptN m s (execCreditGrant x_st x_s) := by
  unfold execCreditGrant
  repeat' first
    | (with_reducible first | assumption | exact Kept.refl _)
    | exact sub_trans (b := 8) (by decide) hm
    | (with_reducible first | apply State.grantCredit_kept | apply KeptN.next | apply KeptN.ite)

theorem execStreamOpen_kept {m : Nat} (hm : 16777225 &&& m = 16777225) {s : State} {x_st : Stream} {x_key : BitVec 256} {x_s : State} (h_x_s : Kept m s x_s) : KeptN m s (execStreamOpen x_st x_key x_s) := by
  unfold execStreamOpen
  repeat' first
    | (with_reducible first | assumption | exact Kept.refl _)
    | exact sub_trans (b := 16777225) (by decide) hm
    | intro _
    | (with_reducible first | apply State.hostModule_kept | apply State.openStream_kept | apply KeptN.next | apply KeptN.ite)

theorem execStreamReset_kept {m : Nat} (hm : 16786441 &&& m = 16786441) {s : State} {x_st : Stream} {x_s : State} (h_x_s : Kept m s x_s) : KeptN m s (execStreamReset x_st x_s) := by
  unfold execStreamReset
  repeat' first
    | (with_reducible first | assumption | exact Kept.refl _)
    | exact sub_trans (b := 16786441) (by decide) hm
    | intro _
    | (with_reducible first | apply State.hostModule_kept | apply State.resetStream_kept | apply KeptN.next | apply KeptN.ite)

theorem execRingConsumedWrite_kept {m : Nat} (hm : 9 &&& m = 9) {s : State} {x_st : Stream} {x_value : BitVec 64} {x_s : State} (h_x_s : Kept m s x_s) : KeptN m s (execRingConsumedWrite x_st x_value x_s) := by
  unfold execRingConsumedWrite
  repeat' first
    | (with_reducible first | assumption | exact Kept.refl _)
    | exact sub_trans (b := 9) (by decide) hm
    | intro _
    | (with_reducible first | apply State.hostModule_kept | apply State.consumeRing_kept | apply KeptN.next | apply KeptN.ite)

theorem execPartnerTraining_kept {m : Nat} (hm : 17179660 &&& m = 17179660) {s : State} {x_l : Lane} {x_s : State} (h_x_s : Kept m s x_s) : KeptN m s (execPartnerTraining x_l x_s) := by
  unfold execPartnerTraining
  repeat' first
    | (with_reducible first | assumption | exact Kept.refl _)
    | exact sub_trans (b := 17179660) (by decide) hm
    | (with_reducible first | apply State.retrainLane_kept | apply KeptN.next | apply KeptN.ite | apply Kept.ite)

theorem execPkgStart_kept {m : Nat} (hm : 402445 &&& m = 402445) {s : State} {x_b : Bay} {x_epoch : BitVec 16} {x_s : State} (h_x_s : Kept m s x_s) : KeptN m s (execPkgStart x_b x_epoch x_s) := by
  unfold execPkgStart
  repeat' first
    | (with_reducible first | assumption | exact Kept.refl _)
    | exact sub_trans (b := 402445) (by decide) hm
    | intro _
    | (with_reducible first | apply State.hostBay_kept | apply State.pkgStart_kept | apply KeptN.next | apply KeptN.ite)

end Sys2Proof.Machine
end

