-- ==== Sys2Proof/Laws/KeptDma.lean ====
section
/-! SUPPORT. What the operations of Machine/Dma.lean keep. -/

set_option linter.all false

namespace Sys2Proof.Machine

theorem State.setD_kept {m : Nat} (hm : 8 &&& m = 8) {s : State} {x_s : State} {x_e : Engine} {x_k : Fin 8} {x_sub : Nat} {x_v : Nat} (h_x_s : Kept m s x_s) : Kept m s (State.setD x_s x_e x_k x_sub x_v) := by
  unfold State.setD
  repeat' first
    | (with_reducible first | assumption | exact Kept.refl _)
    | exact sub_trans (b := 8) (by decide) hm
    | with_reducible apply State.setO_kept

theorem State.modDma_kept {m : Nat} (hm : 8388608 &&& m = 8388608) {s : State} {x_s : State} {x_e : Engine} {x_k : Fin 8} {x_f : DmaU → DmaU} (h_x_s : Kept m s x_s) : Kept m s (State.modDma x_s x_e x_k x_f) := by
  unfold State.modDma
  repeat' first
    | (with_reducible first | assumption | exact Kept.refl _)
    | (intro p; cases p <;> first | exact Or.inl (bit_of (a := 8388608) hm rfl) | exact Or.inr rfl)
    | (refine Kept.upd ?_ ?_)

theorem State.pick_kept {m : Nat} (hm : 8388616 &&& m = 8388616) {s : State} {x_s : State} {x_e : Engine} (h_x_s : Kept m s x_s) : Kept m s (State.pick x_s x_e) := by
  unfold State.pick
  repeat' first
    | (with_reducible first | assumption | exact Kept.refl _)
    | exact sub_trans (b := 8388616) (by decide) hm
    | (intro x_1; refine (fun hx : Kept m s x_1 => ?_) ?_; (clear_value x_1); rotate_left; (unfold x_1))
    | (intro x_1; clear_value x_1)
    | (intro p; cases p <;> first | exact Or.inl (bit_of (a := 8388616) hm rfl) | exact Or.inr rfl)
    | intro _
    | (with_reducible first | apply State.setO_kept | exact KeptO.none | apply KeptO.some | apply KeptO.ite | apply Kept.ite)
    | lift_lets -underBinder
    | split
    | (refine Kept.upd ?_ ?_)

theorem State.leaves_kept {m : Nat} (hm : 8388616 &&& m = 8388616) {s : State} {x_s : State} {x_e : Engine} {x_k : Fin 8} {x_st : Nat} (h_x_s : Kept m s x_s) : Kept m s (State.leaves x_s x_e x_k x_st) := by
  unfold State.leaves
  repeat' first
    | (with_reducible first | assumption | exact Kept.refl _)
    | exact sub_trans (b := 8388616) (by decide) hm
    | (intro x_1; refine (fun hx : Kept m s x_1 => ?_) ?_; (clear_value x_1); rotate_left; (unfold x_1))
    | (intro x_1; clear_value x_1)
    | intro _
    | (with_reducible first | apply State.setD_kept | apply State.pick_kept | apply State.setO_kept | apply Kept.ite)
    | lift_lets -underBinder

theorem State.ready__kept {m : Nat} (hm : 8388616 &&& m = 8388616) {s : State} {x_s : State} {x_e : Engine} {x_k : Fin 8} (h_x_s : Kept m s x_s) : Kept m s (State.ready_ x_s x_e x_k) := by
  unfold State.ready_
  repeat' first
    | (with_reducible first | assumption | exact Kept.refl _)
    | exact sub_trans (b := 8388616) (by decide) hm
    | (with_reducible first | apply State.leaves_kept | apply State.pick_kept | apply State.setD_kept | apply Kept.ite)

theorem State.showPos_kept {m : Nat} (hm : 8 &&& m = 8) {s : State} {x_s : State} {x_e : Engine} {x_k : Fin 8} {x_d : Nat} {x_n : Nat} (h_x_s : Kept m s x_s) : Kept m s (State.showPos x_s x_e x_k x_d x_n) := by
  unfold State.showPos
  repeat' first
    | (with_reducible first | assumption | exact Kept.refl _)
    | exact sub_trans (b := 8) (by decide) hm
    | (intro x_1; refine (fun hx : Kept m s x_1 => ?_) ?_; (clear_value x_1); rotate_left; (unfold x_1))
    | (intro x_1; clear_value x_1)
    | intro _
    | (with_reducible first | apply State.setD_kept | apply Kept.ite)
    | lift_lets -underBinder

theorem State.halt_kept {m : Nat} (hm : 8814600 &&& m = 8814600) {s : State} {x_s : State} {x_e : Engine} {x_k : Fin 8} {x_err : Nat} {x_addr : Nat} (h_x_s : Kept m s x_s) : Kept m s (State.halt x_s x_e x_k x_err x_addr) := by
  unfold State.halt
  repeat' first
    | (with_reducible first | assumption | exact Kept.refl _)
    | exact sub_trans (b := 8814600) (by decide) hm
    | (intro x_1; refine (fun hx : Kept m s x_1 => ?_) ?_; (clear_value x_1); rotate_left; (unfold x_1))
    | (intro x_1; clear_value x_1)
    | intro _
    | (with_reducible first | apply State.incO_kept | apply State.setD_kept | apply State.event_kept | apply State.modDma_kept | apply State.leaves_kept | apply State.fault_kept)
    | lift_lets -underBinder
    | (refine Kept.upd ?_ ?_)

theorem State.sendData_kept {m : Nat} (hm : 262144 &&& m = 262144) {s : State} {x_s : State} {x_p : Fin 2} {x_flush : Bool} {x_a3 : Nat} (h_x_s : Kept m s x_s) : Kept m s (State.sendData x_s x_p x_flush x_a3) := by
  induction x_a3 generalizing x_s x_p x_flush with
  | zero =>
    unfold State.sendData
    repeat' first
      | (with_reducible first | assumption | exact Kept.refl _)
      | (intro x_1; refine (fun hx : Kept m s x_1 => ?_) ?_; (clear_value x_1); rotate_left; (unfold x_1))
      | (intro x_1; clear_value x_1)
      | (intro p; cases p <;> first | exact Or.inl (bit_of (a := 262144) hm rfl) | exact Or.inr rfl)
      | intro _
      | with_reducible apply Kept.ite
      | lift_lets -underBinder
      | split
      | (refine Kept.upd ?_ ?_)
      | (dsimp only)
  | succ k ih =>
    unfold State.sendData
    repeat' first
      | with_reducible apply ih
      | (with_reducible first | assumption | exact Kept.refl _)
      | (intro x_1; refine (fun hx : Kept m s x_1 => ?_) ?_; (clear_value x_1); rotate_left; (unfold x_1))
      | (intro x_1; clear_value x_1)
      | (intro p; cases p <;> first | exact Or.inl (bit_of (a := 262144) hm rfl) | exact Or.inr rfl)
      | intro _
      | with_reducible apply Kept.ite
      | lift_lets -underBinder
      | split
      | (refine Kept.upd ?_ ?_)
      | (dsimp only)

theorem State.portPut_kept {m : Nat} (hm : 17041408 &&& m = 17041408) {s : State} {x_s : State} {x_q : Nat × Nat} {x_data : Bytes} (h_x_s : Kept m s x_s) : Kept m s (State.portPut x_s x_q x_data) := by
  unfold State.portPut
  repeat' first
    | (with_reducible first | assumption | exact Kept.refl _)
    | exact sub_trans (b := 17041408) (by decide) hm
    | (intro x_1; refine (fun hx : Kept m s x_1 => ?_) ?_; (clear_value x_1); rotate_left; (unfold x_1))
    | (intro x_1; clear_value x_1)
    | (intro p; cases p <;> first | exact Or.inl (bit_of (a := 17041408) hm rfl) | exact Or.inr rfl)
    | intro _
    | (with_reducible first | apply State.modStream_kept | apply State.sendData_kept)
    | lift_lets -underBinder
    | split
    | (refine Kept.upd ?_ ?_)

theorem State.portDrop_kept {m : Nat} (hm : 16777216 &&& m = 16777216) {s : State} {x_s : State} {x_q : Nat × Nat} {x_n : Nat} (h_x_s : Kept m s x_s) : Kept m s (State.portDrop x_s x_q x_n) := by
  unfold State.portDrop
  repeat' first
    | (with_reducible first | assumption | exact Kept.refl _)
    | exact sub_trans (b := 16777216) (by decide) hm
    | intro _
    | with_reducible apply State.modStream_kept
    | split
    | (refine Kept.upd ?_ ?_)

theorem State.moveBytes_kept {m : Nat} (hm : 192 &&& m = 192) {s : State} {x_s : State} {x_e : Engine} {x_k : Fin 8} {x_d : Nat} {x_n : Nat} {x_a5 : Bytes} (h_x_s : Kept m s x_s) : Kept m s (State.moveBytes x_s x_e x_k x_d x_n x_a5).1 := by
  induction x_a5 generalizing x_s x_e x_k x_d x_n with
  | nil =>
    unfold State.moveBytes
    repeat' first
      | (with_reducible first | assumption | exact Kept.refl _)
      | exact sub_trans (b := 192) (by decide) hm
      | (intro x_1; refine (fun hx : Kept m s x_1 => ?_) ?_; (clear_value x_1); rotate_left; (unfold x_1))
      | (intro x_1; clear_value x_1)
      | intro _
      | (with_reducible first | apply State.putMem_kept | exact KeptO.none | apply KeptO.some | apply KeptO.ite | apply Kept.ite | apply Kept.ite1)
      | lift_lets -underBinder
      | split
      | dsimp only
      | (dsimp only)
  | cons hd tl ih =>
    unfold State.moveBytes
    repeat' first
      | with_reducible apply ih
      | (with_reducible first | assumption | exact Kept.refl _)
      | exact sub_trans (b := 192) (by decide) hm
      | (intro x_1; refine (fun hx : Kept m s x_1 => ?_) ?_; (clear_value x_1); rotate_left; (unfold x_1))
      | (intro x_1; clear_value x_1)
      | intro _
      | (with_reducible first | apply State.putMem_kept | exact KeptO.none | apply KeptO.some | apply KeptO.ite | apply Kept.ite | apply Kept.ite1)
      | lift_lets -underBinder
      | split
      | dsimp only
      | (dsimp only)

theorem State.moved_kept {m : Nat} (hm : 8388616 &&& m = 8388616) {s : State} {x_s : State} {x_e : Engine} {x_k : Fin 8} {x_d : Nat} {x_from_ : Nat} {x_to_ : Nat} (h_x_s : Kept m s x_s) : Kept m s (State.moved x_s x_e x_k x_d x_from_ x_to_) := by
  unfold State.moved
  repeat' first
    | (with_reducible first | assumption | exact Kept.refl _)
    | exact sub_trans (b := 8388616) (by decide) hm
    | (intro x_1; refine (fun hx : Kept m s x_1 => ?_) ?_; (clear_value x_1); rotate_left; (unfold x_1))
    | (intro x_1; clear_value x_1)
    | intro _
    | (with_reducible first | apply State.setD_kept | apply State.setO_kept | apply State.showPos_kept | apply State.modDma_kept)
    | lift_lets -underBinder
    | (refine Kept.upd ?_ ?_)

theorem State.portHeld_kept {m : Nat} (hm : 8388608 &&& m = 8388608) {s : State} {x_s : State} {x_e : Engine} {x_k : Fin 8} (h_x_s : Kept m s x_s) : Kept m s (State.portHeld x_s x_e x_k) := by
  unfold State.portHeld
  repeat' first
    | (with_reducible first | assumption | exact Kept.refl _)
    | exact sub_trans (b := 8388608) (by decide) hm
    | intro _
    | (with_reducible first | apply State.modDma_kept | exact KeptO.none | apply KeptO.some | apply KeptO.ite)
    | split
    | (refine Kept.upd ?_ ?_)

theorem State.moveOut_kept {m : Nat} (hm : 25594056 &&& m = 25594056) {s : State} {x_s : State} {x_e : Engine} {x_k : Fin 8} {x_d : Nat} {x_n : Nat} {x_data : Bytes} {x_q : Nat × Nat} (h_x_s : Kept m s x_s) : Kept m s (State.moveOut x_s x_e x_k x_d x_n x_data x_q) := by
  unfold State.moveOut
  repeat' first
    | (with_reducible first | assumption | exact Kept.refl _)
    | exact sub_trans (b := 25594056) (by decide) hm
    | (intro x_1; refine (fun hx : Kept m s x_1 => ?_) ?_; (clear_value x_1); rotate_left; (unfold x_1))
    | (intro x_1; refine (fun hx : Kept m s x_1.1 => ?_) ?_; (clear_value x_1); rotate_left; (unfold x_1))
    | (intro x_1; clear_value x_1)
    | intro _
    | (with_reducible first | apply State.moveBytes_kept | refine State.moveBytes_kept_eq ?_ ?_ (by assumption) | apply State.moved_kept | apply State.portDrop_kept | apply State.halt_kept | apply State.portPut_kept | apply State.portHeld_kept | exact KeptO.none | apply KeptO.some | apply KeptO.ite | apply Kept.ite | apply Kept.ite1)
    | lift_lets -underBinder
    | split
    | dsimp only
    | (refine Kept.upd ?_ ?_)

theorem State.moveBlock_kept {m : Nat} (hm : 59148492 &&& m = 59148492) {s : State} {x_s : State} {x_e : Engine} {x_k : Fin 8} {x_d : Nat} {x_n : Nat} {x_ecc : Ecc} (h_x_s : Kept m s x_s) : Kept m s (State.moveBlock x_s x_e x_k x_d x_n x_ecc) := by
  unfold State.moveBlock
  repeat' first
    | (with_reducible first | assumption | exact Kept.refl _)
    | exact sub_trans (b := 59148492) (by decide) hm
    | (intro x_1; refine (fun hx : Kept m s x_1 => ?_) ?_; (clear_value x_1); rotate_left; (unfold x_1))
    | (intro x_1; clear_value x_1)
    | intro _
    | (with_reducible first | apply State.halt_kept | apply State.checkBlock_kept | apply State.moveOut_kept | apply Kept.ite)
    | lift_lets -underBinder

theorem State.accessResponse_kept {m : Nat} (hm : 59148492 &&& m = 59148492) {s : State} {x_s : State} {x_e : Engine} {x_k : Fin 8} {x_r : AccessAnswer} (h_x_s : Kept m s x_s) : Kept m s (State.accessResponse x_s x_e x_k x_r) := by
  unfold State.accessResponse
  repeat' first
    | (with_reducible first | assumption | exact Kept.refl _)
    | exact sub_trans (b := 59148492) (by decide) hm
    | (intro x_1; refine (fun hx : Kept m s x_1 => ?_) ?_; (clear_value x_1); rotate_left; (unfold x_1))
    | (intro x_1; clear_value x_1)
    | intro _
    | (with_reducible first | apply State.portHeld_kept | apply State.halt_kept | apply State.moveBlock_kept | apply State.moveOut_kept | exact KeptO.none | apply KeptO.some | apply KeptO.ite | apply Kept.ite)
    | lift_lets -underBinder
    | split
    | (refine Kept.upd ?_ ?_)

theorem State.postWord_kept {m : Nat} (hm : 8781832 &&& m = 8781832) {s : State} {x_s : State} {x_e : Engine} {x_k : Fin 8} {x_user : Nat} {x_status : Nat} (h_x_s : Kept m s x_s) : Kept m s (State.postWord x_s x_e x_k x_user x_status).1 := by
  unfold State.postWord
  repeat' first
    | (with_reducible first | assumption | exact Kept.refl _)
    | exact sub_trans (b := 8781832) (by decide) hm
    | (intro p; cases p <;> first | exact Or.inl (bit_of (a := 8781832) hm rfl) | exact Or.inr rfl)
    | intro _
    | (with_reducible first | apply State.event_kept | apply State.each_kept | apply Kept.ite1)
    | split
    | dsimp only
    | (refine Kept.upd ?_ ?_)

theorem State.follow_kept {m : Nat} (hm : 8814600 &&& m = 8814600) {s : State} {x_s : State} {x_e : Engine} {x_k : Fin 8} (h_x_s : Kept m s x_s) : Kept m s (State.follow x_s x_e x_k) := by
  unfold State.follow
  repeat' first
    | (with_reducible first | assumption | exact Kept.refl _)
    | exact sub_trans (b := 8814600) (by decide) hm
    | (intro x_1; refine (fun hx : Kept m s x_1 => ?_) ?_; (clear_value x_1); rotate_left; (unfold x_1))
    | (intro x_1; clear_value x_1)
    | intro _
    | (with_reducible first | apply State.modDma_kept | apply State.ready__kept | apply State.leaves_kept | apply State.event_kept | apply State.setD_kept | apply State.halt_kept | exact KeptO.none | apply KeptO.some | apply KeptO.ite | apply Kept.ite)
    | lift_lets -underBinder
    | split
    | (refine Kept.upd ?_ ?_)

theorem State.descEnds_kept {m : Nat} (hm : 8814600 &&& m = 8814600) {s : State} {x_s : State} {x_e : Engine} {x_k : Fin 8} {x_d : Nat} {x_status : Nat} (h_x_s : Kept m s x_s) : Kept m s (State.descEnds x_s x_e x_k x_d x_status) := by
  unfold State.descEnds
  repeat' first
    | (with_reducible first | assumption | exact Kept.refl _)
    | exact sub_trans (b := 8814600) (by decide) hm
    | (intro x_1; refine (fun hx : Kept m s x_1 => ?_) ?_; (clear_value x_1); rotate_left; (unfold x_1))
    | (intro x_1; refine (fun hx : Kept m s x_1.1 => ?_) ?_; (clear_value x_1); rotate_left; (unfold x_1))
    | (intro x_1; clear_value x_1)
    | intro _
    | (with_reducible first | apply State.setD_kept | apply State.modDma_kept | apply State.sendData_kept | apply State.postWord_kept | apply State.setO_kept | apply State.leaves_kept | apply State.pick_kept | apply State.follow_kept | apply Kept.ite | apply Kept.ite1)
    | lift_lets -underBinder
    | dsimp only
    | (refine Kept.upd ?_ ?_)

theorem State.descComplete_kept {m : Nat} (hm : 8814600 &&& m = 8814600) {s : State} {x_s : State} {x_e : Engine} {x_k : Fin 8} (h_x_s : Kept m s x_s) : Kept m s (State.descComplete x_s x_e x_k) := by
  unfold State.descComplete
  repeat' first
    | (with_reducible first | assumption | exact Kept.refl _)
    | exact sub_trans (b := 8814600) (by decide) hm
    | (intro x_1; refine (fun hx : Kept m s x_1 => ?_) ?_; (clear_value x_1); rotate_left; (unfold x_1))
    | (intro x_1; clear_value x_1)
    | intro _
    | (with_reducible first | apply State.descEnds_kept | exact KeptO.none | apply KeptO.some | apply KeptO.ite | apply Kept.ite)
    | lift_lets -underBinder
    | split
    | (refine Kept.upd ?_ ?_)

theorem State.releaseHeld_kept {m : Nat} (hm : 8814600 &&& m = 8814600) {s : State} {x_s : State} (h_x_s : Kept m s x_s) : Kept m s (State.releaseHeld x_s) := by
  unfold State.releaseHeld
  repeat' first
    | (with_reducible first | assumption | exact Kept.refl _)
    | exact sub_trans (b := 8814600) (by decide) hm
    | intro _
    | (with_reducible first | apply State.each_kept | apply State.follow_kept | apply Kept.ite)

theorem State.descFetch_kept {m : Nat} (hm : 42369036 &&& m = 42369036) {s : State} {x_s : State} {x_e : Engine} {x_k : Fin 8} {x_ecc : Ecc} (h_x_s : Kept m s x_s) : Kept m s (State.descFetch x_s x_e x_k x_ecc) := by
  unfold State.descFetch
  repeat' first
    | (with_reducible first | assumption | exact Kept.refl _)
    | exact sub_trans (b := 42369036) (by decide) hm
    | (intro x_1; refine (fun hx : Kept m s x_1 => ?_) ?_; (clear_value x_1); rotate_left; (unfold x_1))
    | (intro x_1; clear_value x_1)
    | intro _
    | (with_reducible first | apply State.checkBlock_kept | apply State.halt_kept | apply State.modDma_kept | apply State.showPos_kept | apply State.setD_kept | exact KeptO.none | apply KeptO.some | apply KeptO.ite | apply Kept.ite)
    | lift_lets -underBinder
    | (refine Kept.upd ?_ ?_)

theorem State.chanStart_kept {m : Nat} (hm : 8388617 &&& m = 8388617) {s : State} {x_s : State} {x_e : Engine} {x_k : Fin 8} (h_x_s : Kept m s x_s) : Kept m s (State.chanStart x_s x_e x_k) := by
  unfold State.chanStart
  repeat' first
    | (with_reducible first | assumption | exact Kept.refl _)
    | exact sub_trans (b := 8388617) (by decide) hm
    | (intro x_1; refine (fun hx : Kept m s x_1 => ?_) ?_; (clear_value x_1); rotate_left; (unfold x_1))
    | (intro x_1; clear_value x_1)
    | intro _
    | (with_reducible first | apply State.answer_kept | apply State.each_kept | apply State.setD_kept | apply State.modDma_kept | apply State.ok_kept | apply State.ready__kept | apply Kept.ite)
    | lift_lets -underBinder

theorem State.chanRetry_kept {m : Nat} (hm : 8814601 &&& m = 8814601) {s : State} {x_s : State} {x_e : Engine} {x_k : Fin 8} (h_x_s : Kept m s x_s) : Kept m s (State.chanRetry x_s x_e x_k) := by
  unfold State.chanRetry
  repeat' first
    | (with_reducible first | assumption | exact Kept.refl _)
    | exact sub_trans (b := 8814601) (by decide) hm
    | (intro x_1; refine (fun hx : Kept m s x_1 => ?_) ?_; (clear_value x_1); rotate_left; (unfold x_1))
    | (intro x_1; clear_value x_1)
    | intro _
    | (with_reducible first | apply State.answer_kept | apply State.ok_kept | apply State.halt_kept | apply State.modDma_kept | apply State.setD_kept | apply State.ready__kept | apply Kept.ite)
    | lift_lets -underBinder
    | (refine Kept.upd ?_ ?_)

theorem State.chanSkip_kept {m : Nat} (hm : 8814601 &&& m = 8814601) {s : State} {x_s : State} {x_e : Engine} {x_k : Fin 8} (h_x_s : Kept m s x_s) : Kept m s (State.chanSkip x_s x_e x_k) := by
  unfold State.chanSkip
  repeat' first
    | (with_reducible first | assumption | exact Kept.refl _)
    | exact sub_trans (b := 8814601) (by decide) hm
    | intro _
    | (with_reducible first | apply State.answer_kept | apply State.ok_kept | apply State.descEnds_kept | apply State.follow_kept | apply State.modDma_kept | exact KeptO.none | apply KeptO.some | apply KeptO.ite | apply Kept.ite)
    | split
    | (refine Kept.upd ?_ ?_)

theorem State.chanAbort_kept {m : Nat} (hm : 8388617 &&& m = 8388617) {s : State} {x_s : State} {x_e : Engine} {x_k : Fin 8} (h_x_s : Kept m s x_s) : Kept m s (State.chanAbort x_s x_e x_k) := by
  unfold State.chanAbort
  repeat' first
    | (with_reducible first | assumption | exact Kept.refl _)
    | exact sub_trans (b := 8388617) (by decide) hm
    | intro _
    | (with_reducible first | apply State.ok_kept | apply State.leaves_kept | apply State.modDma_kept)
    | (refine Kept.upd ?_ ?_)

theorem State.pauseWrite_kept {m : Nat} (hm : 8388617 &&& m = 8388617) {s : State} {x_s : State} {x_e : Engine} {x_k : Fin 8} {x_on : Bool} (h_x_s : Kept m s x_s) : Kept m s (State.pauseWrite x_s x_e x_k x_on) := by
  unfold State.pauseWrite
  repeat' first
    | (with_reducible first | assumption | exact Kept.refl _)
    | exact sub_trans (b := 8388617) (by decide) hm
    | (intro x_1; refine (fun hx : Kept m s x_1 => ?_) ?_; (clear_value x_1); rotate_left; (unfold x_1))
    | (intro x_1; clear_value x_1)
    | intro _
    | (with_reducible first | apply State.setD_kept | apply State.ok_kept | apply State.leaves_kept | apply State.ready__kept | apply Kept.ite)
    | lift_lets -underBinder

theorem State.progRun_kept {m : Nat} (hm : 42369036 &&& m = 42369036) {s : State} {x_s : State} {x_e : Engine} {x_k2 : Fin 2} {x_op : Nat} {x_ecc : Ecc} (x_f : Nat → State → State) (h_x_s : Kept m s x_s) (h_x_f : ∀ (v0 : Nat) (v1 : State), Kept m s v1 → Kept m s (x_f v0 v1)) : Kept m s (State.progRun x_s x_e x_k2 x_op x_ecc x_f) := by
  unfold State.progRun
  repeat' first
    | (with_reducible first | assumption | exact Kept.refl _)
    | exact sub_trans (b := 42369036) (by decide) hm
    | (intro x_1; refine (fun hx : Kept m s x_1 => ?_) ?_; (clear_value x_1); rotate_left; (unfold x_1))
    | (intro x_1; clear_value x_1)
    | intro _
    | (with_reducible first | apply h_x_f | apply State.setD_kept | apply State.halt_kept | apply State.checkBlock_kept | apply Kept.ite)
    | lift_lets -underBinder
    | split
    | dsimp only

theorem State.progTo_kept {m : Nat} (hm : 8388608 &&& m = 8388608) {s : State} {x_s : State} {x_e : Engine} {x_k : Fin 2} {x_pc : Nat} (h_x_s : Kept m s x_s) : Kept m s (State.progTo x_s x_e x_k x_pc) := by
  unfold State.progTo
  repeat' first
    | (with_reducible first | assumption | exact Kept.refl _)
    | exact sub_trans (b := 8388608) (by decide) hm
    | intro _
    | with_reducible apply State.modDma_kept
    | (refine Kept.upd ?_ ?_)

theorem State.progNext_kept {m : Nat} (hm : 8388608 &&& m = 8388608) {s : State} {x_s : State} {x_e : Engine} {x_k : Fin 2} (h_x_s : Kept m s x_s) : Kept m s (State.progNext x_s x_e x_k) := by
  unfold State.progNext
  repeat' first
    | (with_reducible first | assumption | exact Kept.refl _)
    | exact sub_trans (b := 8388608) (by decide) hm
    | with_reducible apply State.progTo_kept

theorem State.progWait_kept {m : Nat} (hm : 8388616 &&& m = 8388616) {s : State} {x_s : State} {x_e : Engine} {x_k : Fin 2} {x_w : DmaWait} (h_x_s : Kept m s x_s) : Kept m s (State.progWait x_s x_e x_k x_w) := by
  unfold State.progWait
  repeat' first
    | (with_reducible first | assumption | exact Kept.refl _)
    | exact sub_trans (b := 8388616) (by decide) hm
    | (intro x_1; refine (fun hx : Kept m s x_1 => ?_) ?_; (clear_value x_1); rotate_left; (unfold x_1))
    | (intro x_1; clear_value x_1)
    | intro _
    | (with_reducible first | apply State.leaves_kept | apply State.modDma_kept | exact KeptO.none | apply KeptO.some | apply KeptO.ite)
    | lift_lets -underBinder
    | (refine Kept.upd ?_ ?_)

theorem State.progAwake_kept {m : Nat} (hm : 8388616 &&& m = 8388616) {s : State} {x_s : State} {x_e : Engine} {x_k : Fin 2} (h_x_s : Kept m s x_s) : Kept m s (State.progAwake x_s x_e x_k) := by
  unfold State.progAwake
  repeat' first
    | (with_reducible first | assumption | exact Kept.refl _)
    | exact sub_trans (b := 8388616) (by decide) hm
    | intro _
    | (with_reducible first | apply State.ready__kept | apply State.progNext_kept | apply State.modDma_kept)
    | (refine Kept.upd ?_ ?_)

theorem State.progCheck_kept {m : Nat} (hm : 42369036 &&& m = 42369036) {s : State} {x_s : State} {x_e : Engine} {x_k : Fin 2} {x_pollOnly : Bool} {x_ecc : Ecc} (h_x_s : Kept m s x_s) : Kept m s (State.progCheck x_s x_e x_k x_pollOnly x_ecc) := by
  unfold State.progCheck
  repeat' first
    | (with_reducible first | assumption | exact Kept.refl _)
    | exact sub_trans (b := 42369036) (by decide) hm
    | (intro x_1; refine (fun hx : Kept m s x_1 => ?_) ?_; (clear_value x_1); rotate_left; (unfold x_1))
    | (intro x_1; clear_value x_1)
    | intro _
    | (with_reducible first | apply State.progAwake_kept | apply State.checkBlock_kept | apply State.halt_kept | apply Kept.ite | apply Kept.ite1 | apply Kept.ite2)
    | lift_lets -underBinder
    | split
    | dsimp only
    | (refine Kept.upd ?_ ?_)

theorem State.progStore_kept {m : Nat} (hm : 8814792 &&& m = 8814792) {s : State} {x_s : State} {x_e : Engine} {x_k : Fin 2} {x_a : Nat} {x_v : Nat} (h_x_s : Kept m s x_s) : Kept m s (State.progStore x_s x_e x_k x_a x_v) := by
  unfold State.progStore
  repeat' first
    | (with_reducible first | assumption | exact Kept.refl _)
    | exact sub_trans (b := 8814792) (by decide) hm
    | (intro x_1; refine (fun hx : Kept m s x_1 => ?_) ?_; (clear_value x_1); rotate_left; (unfold x_1))
    | (intro x_1; clear_value x_1)
    | intro _
    | (with_reducible first | apply State.halt_kept | apply State.progNext_kept | apply State.putMem_kept | apply Kept.ite)
    | lift_lets -underBinder

theorem State.progSignal_kept {m : Nat} (hm : 8781832 &&& m = 8781832) {s : State} {x_s : State} {x_e : Engine} {x_k : Fin 2} {x_v : Nat} (h_x_s : Kept m s x_s) : Kept m s (State.progSignal x_s x_e x_k x_v) := by
  unfold State.progSignal
  repeat' first
    | (with_reducible first | assumption | exact Kept.refl _)
    | exact sub_trans (b := 8781832) (by decide) hm
    | (intro x_1; refine (fun hx : Kept m s x_1 => ?_) ?_; (clear_value x_1); rotate_left; (unfold x_1))
    | (intro x_1; refine (fun hx : Kept m s x_1.1 => ?_) ?_; (clear_value x_1); rotate_left; (unfold x_1))
    | (intro x_1; clear_value x_1)
    | intro _
    | (with_reducible first | apply State.postWord_kept | apply State.leaves_kept | apply State.progNext_kept | apply Kept.ite | apply Kept.ite1)
    | lift_lets -underBinder
    | dsimp only

theorem execBindingPost_kept {m : Nat} (hm : 13008905 &&& m = 13008905) {s : State} {x_g : Graph} {x_i : Fin 64} {x_s : State} (h_x_s : Kept m s x_s) : KeptN m s (execBindingPost x_g x_i x_s) := by
  unfold execBindingPost
  repeat' first
    | (with_reducible first | assumption | exact Kept.refl _)
    | exact sub_trans (b := 13008905) (by decide) hm
    | (with_reducible first | apply State.releaseHeld_kept | apply State.bindPost_kept | apply KeptN.next | apply KeptN.ite)

theorem execChanStart_kept {m : Nat} (hm : 8388617 &&& m = 8388617) {s : State} {x_e : Engine} {x_k : Fin 8} {x_s : State} (h_x_s : Kept m s x_s) : KeptN m s (execChanStart x_e x_k x_s) := by
  unfold execChanStart
  repeat' first
    | (with_reducible first | assumption | exact Kept.refl _)
    | exact sub_trans (b := 8388617) (by decide) hm
    | intro _
    | (with_reducible first | apply State.hostModule_kept | apply State.chanStart_kept | apply KeptN.next | apply KeptN.ite)

theorem execChanRetry_kept {m : Nat} (hm : 8814601 &&& m = 8814601) {s : State} {x_e : Engine} {x_k : Fin 8} {x_s : State} (h_x_s : Kept m s x_s) : KeptN m s (execChanRetry x_e x_k x_s) := by
  unfold execChanRetry
  repeat' first
    | (with_reducible first | assumption | exact Kept.refl _)
    | exact sub_trans (b := 8814601) (by decide) hm
    | intro _
    | (with_reducible first | apply State.hostModule_kept | apply State.chanRetry_kept | apply KeptN.next | apply KeptN.ite)

theorem execChanSkip_kept {m : Nat} (hm : 8814601 &&& m = 8814601) {s : State} {x_e : Engine} {x_k : Fin 8} {x_s : State} (h_x_s : Kept m s x_s) : KeptN m s (execChanSkip x_e x_k x_s) := by
  unfold execChanSkip
  repeat' first
    | (with_reducible first | assumption | exact Kept.refl _)
    | exact sub_trans (b := 8814601) (by decide) hm
    | intro _
    | (with_reducible first | apply State.hostModule_kept | apply State.chanSkip_kept | apply KeptN.next | apply KeptN.ite)

theorem execChanAbort_kept {m : Nat} (hm : 8388617 &&& m = 8388617) {s : State} {x_e : Engine} {x_k : Fin 8} {x_s : State} (h_x_s : Kept m s x_s) : KeptN m s (execChanAbort x_e x_k x_s) := by
  unfold execChanAbort
  repeat' first
    | (with_reducible first | assumption | exact Kept.refl _)
    | exact sub_trans (b := 8388617) (by decide) hm
    | intro _
    | (with_reducible first | apply State.hostModule_kept | apply State.chanAbort_kept | apply KeptN.next | apply KeptN.ite)

theorem execDmaPauseWrite_kept {m : Nat} (hm : 8388617 &&& m = 8388617) {s : State} {x_e : Engine} {x_k : Fin 8} {x_on : Bool} {x_s : State} (h_x_s : Kept m s x_s) : KeptN m s (execDmaPauseWrite x_e x_k x_on x_s) := by
  unfold execDmaPauseWrite
  repeat' first
    | (with_reducible first | assumption | exact Kept.refl _)
    | exact sub_trans (b := 8388617) (by decide) hm
    | intro _
    | (with_reducible first | apply State.hostModule_kept | apply State.pauseWrite_kept | apply KeptN.next | apply KeptN.ite)

theorem execDmaPaused_kept {m : Nat} (hm : 8388616 &&& m = 8388616) {s : State} {x_e : Engine} {x_k : Fin 8} {x_s : State} (h_x_s : Kept m s x_s) : KeptN m s (execDmaPaused x_e x_k x_s) := by
  unfold execDmaPaused
  repeat' first
    | (with_reducible first | assumption | exact Kept.refl _)
    | exact sub_trans (b := 8388616) (by decide) hm
    | (with_reducible first | apply State.leaves_kept | apply KeptN.next | apply KeptN.ite | apply Kept.ite)

theorem execDescFetch_kept {m : Nat} (hm : 42369036 &&& m = 42369036) {s : State} {x_e : Engine} {x_k : Fin 8} {x_ecc : Ecc} {x_s : State} (h_x_s : Kept m s x_s) : KeptN m s (execDescFetch x_e x_k x_ecc x_s) := by
  unfold execDescFetch
  repeat' first
    | (with_reducible first | assumption | exact Kept.refl _)
    | exact sub_trans (b := 42369036) (by decide) hm
    | (with_reducible first | apply State.descFetch_kept | apply KeptN.next | apply KeptN.ite)

theorem execDmaAccessResponse_kept {m : Nat} (hm : 59148492 &&& m = 59148492) {s : State} {x_e : Engine} {x_k : Fin 8} {x_answer : AccessAnswer} {x_s : State} (h_x_s : Kept m s x_s) : KeptN m s (execDmaAccessResponse x_e x_k x_answer x_s) := by
  unfold execDmaAccessResponse
  repeat' first
    | (with_reducible first | assumption | exact Kept.refl _)
    | exact sub_trans (b := 59148492) (by decide) hm
    | (with_reducible first | apply State.accessResponse_kept | apply KeptN.next | apply KeptN.ite)

theorem execDescComplete_kept {m : Nat} (hm : 8814600 &&& m = 8814600) {s : State} {x_e : Engine} {x_k : Fin 8} {x_s : State} (h_x_s : Kept m s x_s) : KeptN m s (execDescComplete x_e x_k x_s) := by
  unfold execDescComplete
  repeat' first
    | (with_reducible first | assumption | exact Kept.refl _)
    | exact sub_trans (b := 8814600) (by decide) hm
    | (with_reducible first | apply State.descComplete_kept | apply KeptN.next | apply KeptN.ite)

theorem execProgMove_kept {m : Nat} (hm : 42369036 &&& m = 42369036) {s : State} {x_e : Engine} {x_k : Fin 2} {x_ecc : Ecc} {x_s : State} (h_x_s : Kept m s x_s) : KeptN m s (execProgMove x_e x_k x_ecc x_s) := by
  unfold execProgMove
  repeat' first
    | (with_reducible first | assumption | exact Kept.refl _)
    | exact sub_trans (b := 42369036) (by decide) hm
    | intro _
    | (with_reducible first | apply State.progRun_kept | apply State.modDma_kept | apply State.setD_kept | apply KeptN.next | apply KeptN.ite)
    | (refine Kept.upd ?_ ?_)

theorem execProgSet_kept {m : Nat} (hm : 42369036 &&& m = 42369036) {s : State} {x_e : Engine} {x_k : Fin 2} {x_ecc : Ecc} {x_s : State} (h_x_s : Kept m s x_s) : KeptN m s (execProgSet x_e x_k x_ecc x_s) := by
  unfold execProgSet
  repeat' first
    | (with_reducible first | assumption | exact Kept.refl _)
    | exact sub_trans (b := 42369036) (by decide) hm
    | intro _
    | (with_reducible first | apply State.progRun_kept | apply State.progNext_kept | apply State.modDma_kept | apply KeptN.next | apply KeptN.ite)
    | (refine Kept.upd ?_ ?_)

theorem execProgLoop_kept {m : Nat} (hm : 42369036 &&& m = 42369036) {s : State} {x_e : Engine} {x_k : Fin 2} {x_ecc : Ecc} {x_s : State} (h_x_s : Kept m s x_s) : KeptN m s (execProgLoop x_e x_k x_ecc x_s) := by
  unfold execProgLoop
  repeat' first
    | (with_reducible first | assumption | exact Kept.refl _)
    | exact sub_trans (b := 42369036) (by decide) hm
    | (intro x_1; refine (fun hx : Kept m s x_1 => ?_) ?_; (clear_value x_1); rotate_left; (unfold x_1))
    | (intro x_1; clear_value x_1)
    | intro _
    | (with_reducible first | apply State.progRun_kept | apply State.modDma_kept | apply State.progTo_kept | apply State.progNext_kept | apply KeptN.next | apply KeptN.ite | apply Kept.ite)
    | lift_lets -underBinder
    | split
    | dsimp only
    | (refine Kept.upd ?_ ?_)

theorem execProgJump_kept {m : Nat} (hm : 42369036 &&& m = 42369036) {s : State} {x_e : Engine} {x_k : Fin 2} {x_ecc : Ecc} {x_s : State} (h_x_s : Kept m s x_s) : KeptN m s (execProgJump x_e x_k x_ecc x_s) := by
  unfold execProgJump
  repeat' first
    | (with_reducible first | assumption | exact Kept.refl _)
    | exact sub_trans (b := 42369036) (by decide) hm
    | intro _
    | (with_reducible first | apply State.progRun_kept | apply State.progTo_kept | apply KeptN.next | apply KeptN.ite)

theorem execProgWaitEvent_kept {m : Nat} (hm : 42369036 &&& m = 42369036) {s : State} {x_e : Engine} {x_k : Fin 2} {x_ecc : Ecc} {x_s : State} (h_x_s : Kept m s x_s) : KeptN m s (execProgWaitEvent x_e x_k x_ecc x_s) := by
  unfold execProgWaitEvent
  repeat' first
    | (with_reducible first | assumption | exact Kept.refl _)
    | exact sub_trans (b := 42369036) (by decide) hm
    | intro _
    | (with_reducible first | apply State.progRun_kept | apply State.progWait_kept | apply KeptN.next | apply KeptN.ite)

theorem execProgWaitWord_kept {m : Nat} (hm : 42369036 &&& m = 42369036) {s : State} {x_e : Engine} {x_k : Fin 2} {x_ecc : Ecc} {x_s : State} (h_x_s : Kept m s x_s) : KeptN m s (execProgWaitWord x_e x_k x_ecc x_s) := by
  unfold execProgWaitWord
  repeat' first
    | (with_reducible first | assumption | exact Kept.refl _)
    | exact sub_trans (b := 42369036) (by decide) hm
    | intro _
    | (with_reducible first | apply State.progRun_kept | apply State.progWait_kept | apply KeptN.next | apply KeptN.ite)

theorem execProgWaitPoll_kept {m : Nat} (hm : 42369036 &&& m = 42369036) {s : State} {x_e : Engine} {x_k : Fin 2} {x_ecc : Ecc} {x_s : State} (h_x_s : Kept m s x_s) : KeptN m s (execProgWaitPoll x_e x_k x_ecc x_s) := by
  unfold execProgWaitPoll
  repeat' first
    | (with_reducible first | assumption | exact Kept.refl _)
    | exact sub_trans (b := 42369036) (by decide) hm
    | (with_reducible first | apply State.progCheck_kept | apply KeptN.next | apply KeptN.ite)

theorem execProgWaitRelease_kept {m : Nat} (hm : 42369036 &&& m = 42369036) {s : State} {x_e : Engine} {x_k : Fin 2} {x_ecc : Ecc} {x_s : State} (h_x_s : Kept m s x_s) : KeptN m s (execProgWaitRelease x_e x_k x_ecc x_s) := by
  unfold execProgWaitRelease
  repeat' first
    | (with_reducible first | assumption | exact Kept.refl _)
    | exact sub_trans (b := 42369036) (by decide) hm
    | (with_reducible first | apply State.progCheck_kept | apply KeptN.next | apply KeptN.ite)

theorem execProgWaitTimeout_kept {m : Nat} (hm : 8814602 &&& m = 8814602) {s : State} {x_e : Engine} {x_k : Fin 2} {x_s : State} (h_x_s : Kept m s x_s) : KeptN m s (execProgWaitTimeout x_e x_k x_s) := by
  unfold execProgWaitTimeout
  repeat' first
    | (with_reducible first | assumption | exact Kept.refl _)
    | exact sub_trans (b := 8814602) (by decide) hm
    | (with_reducible first | apply State.halt_kept | apply State.advance_kept | apply KeptN.next | apply KeptN.ite | apply Kept.ite)

theorem execProgWrite_kept {m : Nat} (hm : 42369228 &&& m = 42369228) {s : State} {x_e : Engine} {x_k : Fin 2} {x_ecc : Ecc} {x_s : State} (h_x_s : Kept m s x_s) : KeptN m s (execProgWrite x_e x_k x_ecc x_s) := by
  unfold execProgWrite
  repeat' first
    | (with_reducible first | assumption | exact Kept.refl _)
    | exact sub_trans (b := 42369228) (by decide) hm
    | intro _
    | (with_reducible first | apply State.progRun_kept | apply State.progStore_kept | apply KeptN.next | apply KeptN.ite)

theorem execProgSignal_kept {m : Nat} (hm : 42369036 &&& m = 42369036) {s : State} {x_e : Engine} {x_k : Fin 2} {x_ecc : Ecc} {x_s : State} (h_x_s : Kept m s x_s) : KeptN m s (execProgSignal x_e x_k x_ecc x_s) := by
  unfold execProgSignal
  repeat' first
    | (with_reducible first | assumption | exact Kept.refl _)
    | exact sub_trans (b := 42369036) (by decide) hm
    | intro _
    | (with_reducible first | apply State.progRun_kept | apply State.progSignal_kept | apply KeptN.next | apply KeptN.ite)

theorem execProgEnd_kept {m : Nat} (hm : 42369036 &&& m = 42369036) {s : State} {x_e : Engine} {x_k : Fin 2} {x_ecc : Ecc} {x_s : State} (h_x_s : Kept m s x_s) : KeptN m s (execProgEnd x_e x_k x_ecc x_s) := by
  unfold execProgEnd
  repeat' first
    | (with_reducible first | assumption | exact Kept.refl _)
    | exact sub_trans (b := 42369036) (by decide) hm
    | intro _
    | (with_reducible first | apply State.progRun_kept | apply State.leaves_kept | apply KeptN.next | apply KeptN.ite)

theorem execPortStall_kept {m : Nat} (hm : 8814602 &&& m = 8814602) {s : State} {x_e : Engine} {x_k : Fin 8} {x_s : State} (h_x_s : Kept m s x_s) : KeptN m s (execPortStall x_e x_k x_s) := by
  unfold execPortStall
  repeat' first
    | (with_reducible first | assumption | exact Kept.refl _)
    | exact sub_trans (b := 8814602) (by decide) hm
    | (with_reducible first | apply State.halt_kept | apply State.advance_kept | exact KeptO.none | apply KeptO.some | apply KeptO.ite | apply KeptN.next | apply KeptN.ite | apply Kept.ite)
    | split
    | (refine Kept.upd ?_ ?_)

theorem execNoresp_kept {m : Nat} (hm : 8814600 &&& m = 8814600) {s : State} {x_e : Engine} {x_k : Fin 8} {x_s : State} (h_x_s : Kept m s x_s) : KeptN m s (execNoresp x_e x_k x_s) := by
  unfold execNoresp
  repeat' first
    | (with_reducible first | assumption | exact Kept.refl _)
    | exact sub_trans (b := 8814600) (by decide) hm
    | (with_reducible first | apply State.halt_kept | exact KeptO.none | apply KeptO.some | apply KeptO.ite | apply KeptN.next | apply KeptN.ite | apply Kept.ite)
    | split
    | (refine Kept.upd ?_ ?_)

end Sys2Proof.Machine
end

