-- ==== Sys2Proof/Laws/KeptNet.lean ====
section
/-! SUPPORT. What the operations of Machine/Net.lean keep. -/

set_option linter.all false

namespace Sys2Proof.Machine

theorem State.modNet_kept {m : Nat} (hm : 1048576 &&& m = 1048576) {s : State} {x_s : State} {x_p : Fin 2} {x_f : NetPort → NetPort} (h_x_s : Kept m s x_s) : Kept m s (State.modNet x_s x_p x_f) := by
  unfold State.modNet
  repeat' first
    | (with_reducible first | assumption | exact Kept.refl _)
    | (intro p; cases p <;> first | exact Or.inl (bit_of (a := 1048576) hm rfl) | exact Or.inr rfl)
    | (refine Kept.upd ?_ ?_)

theorem State.modTpg_kept {m : Nat} (hm : 1048576 &&& m = 1048576) {s : State} {x_s : State} {x_n : Tpg} {x_f : TpgU → TpgU} (h_x_s : Kept m s x_s) : Kept m s (State.modTpg x_s x_n x_f) := by
  unfold State.modTpg
  repeat' first
    | (with_reducible first | assumption | exact Kept.refl _)
    | (intro p; cases p <;> first | exact Or.inl (bit_of (a := 1048576) hm rfl) | exact Or.inr rfl)
    | (refine Kept.upd ?_ ?_)

theorem State.setTsq_kept {m : Nat} (hm : 1048584 &&& m = 1048584) {s : State} {x_s : State} {x_p : Fin 2} {x_q : List Bytes} (h_x_s : Kept m s x_s) : Kept m s (State.setTsq x_s x_p x_q) := by
  unfold State.setTsq
  repeat' first
    | (with_reducible first | assumption | exact Kept.refl _)
    | exact sub_trans (b := 1048584) (by decide) hm
    | intro _
    | (with_reducible first | apply State.setO_kept | apply State.modNet_kept)
    | (refine Kept.upd ?_ ?_)

theorem State.portMode_kept {m : Nat} (hm : 1048585 &&& m = 1048585) {s : State} {x_s : State} {x_p : Fin 2} {x_mode : Nat} (h_x_s : Kept m s x_s) : Kept m s (State.portMode x_s x_p x_mode) := by
  unfold State.portMode
  repeat' first
    | (with_reducible first | assumption | exact Kept.refl _)
    | exact sub_trans (b := 1048585) (by decide) hm
    | (with_reducible first | apply State.answer_kept | apply State.ok_kept | apply State.setTsq_kept | apply State.setO_kept | apply Kept.ite)

theorem State.portDown_kept {m : Nat} (hm : 32776 &&& m = 32776) {s : State} {x_s : State} {x_p : Fin 2} (h_x_s : Kept m s x_s) : Kept m s (State.portDown x_s x_p) := by
  unfold State.portDown
  repeat' first
    | (with_reducible first | assumption | exact Kept.refl _)
    | exact sub_trans (b := 32776) (by decide) hm
    | (with_reducible first | apply State.fault_kept | apply State.setO_kept | apply Kept.ite)

theorem State.servo_kept {m : Nat} (hm : 1048584 &&& m = 1048584) {s : State} {x_s : State} {x_offset : Int} (h_x_s : Kept m s x_s) : Kept m s (State.servo x_s x_offset) := by
  unfold State.servo
  repeat' first
    | (with_reducible first | assumption | exact Kept.refl _)
    | exact sub_trans (b := 1048584) (by decide) hm
    | (intro x_1; refine (fun hx : Kept m s x_1 => ?_) ?_; (clear_value x_1); rotate_left; (unfold x_1))
    | (intro x_1; clear_value x_1)
    | (intro p; cases p <;> first | exact Or.inl (bit_of (a := 1048584) hm rfl) | exact Or.inr rfl)
    | intro _
    | (with_reducible first | apply State.setO_kept | apply Kept.ite)
    | lift_lets -underBinder
    | (refine Kept.upd ?_ ?_)

theorem State.frameIn_kept {m : Nat} (hm : 1048584 &&& m = 1048584) {s : State} {x_s : State} {x_p : Fin 2} {x_f : EthFrame} (h_x_s : Kept m s x_s) : Kept m s (State.frameIn x_s x_p x_f) := by
  unfold State.frameIn
  repeat' first
    | (with_reducible first | assumption | exact Kept.refl _)
    | exact sub_trans (b := 1048584) (by decide) hm
    | (intro x_1; refine (fun hx : Kept m s x_1 => ?_) ?_; (clear_value x_1); rotate_left; (unfold x_1))
    | (intro x_1; clear_value x_1)
    | intro _
    | (with_reducible first | apply State.incO_kept | apply State.modNet_kept | apply State.servo_kept | apply State.setO_kept | exact KeptO.none | apply KeptO.some | apply KeptO.ite | apply Kept.ite)
    | lift_lets -underBinder
    | split
    | (refine Kept.upd ?_ ?_)

theorem State.ptpOut_kept {m : Nat} (hm : 1048584 &&& m = 1048584) {s : State} {x_s : State} {x_p : Fin 2} {x_m : PtpMsg} (h_x_s : Kept m s x_s) : Kept m s (State.ptpOut x_s x_p x_m) := by
  unfold State.ptpOut
  repeat' first
    | (with_reducible first | assumption | exact Kept.refl _)
    | exact sub_trans (b := 1048584) (by decide) hm
    | (intro x_1; refine (fun hx : Kept m s x_1 => ?_) ?_; (clear_value x_1); rotate_left; (unfold x_1))
    | (intro x_1; clear_value x_1)
    | intro _
    | (with_reducible first | apply State.modNet_kept | apply State.incO_kept | apply State.setTsq_kept | exact KeptO.none | apply KeptO.some | apply KeptO.ite | apply Kept.ite)
    | lift_lets -underBinder
    | (refine Kept.upd ?_ ?_)

theorem State.tsqRead_kept {m : Nat} (hm : 1048585 &&& m = 1048585) {s : State} {x_s : State} {x_p : Fin 2} (h_x_s : Kept m s x_s) : Kept m s (State.tsqRead x_s x_p) := by
  unfold State.tsqRead
  repeat' first
    | (with_reducible first | assumption | exact Kept.refl _)
    | exact sub_trans (b := 1048585) (by decide) hm
    | (with_reducible first | apply State.answerBody_kept | apply State.setTsq_kept)
    | split
    | (refine Kept.upd ?_ ?_)

theorem State.fireTpg_kept {m : Nat} (hm : 1075241484 &&& m = 1075241484) {s : State} {x_s : State} {x_n : Tpg} {x_late : Bool} {x_endsAt : Nat} (h_x_s : Kept m s x_s) : Kept m s (State.fireTpg x_s x_n x_late x_endsAt) := by
  unfold State.fireTpg
  repeat' first
    | (with_reducible first | assumption | exact Kept.refl _)
    | exact sub_trans (b := 1075241484) (by decide) hm
    | (intro x_1; refine (fun hx : Kept m s x_1 => ?_) ?_; (clear_value x_1); rotate_left; (unfold x_1))
    | (intro x_1; clear_value x_1)
    | (intro p; cases p <;> first | exact Or.inl (bit_of (a := 1075241484) hm rfl) | exact Or.inr rfl)
    | intro _
    | (with_reducible first | apply State.setO_kept | apply State.each_kept | apply State.driveRidge_kept | apply State.modTpg_kept | apply State.dropEvent_kept | apply State.edgeTrigger_kept | apply State.latch_kept | apply State.startBay_kept | exact KeptO.none | apply KeptO.some | apply KeptO.ite | apply Kept.ite)
    | lift_lets -underBinder
    | (refine Kept.upd ?_ ?_)

theorem State.untilTime_kept {m : Nat} (hm : 2 &&& m = 2) {s : State} {x_s : State} {x_t : Nat} (h_x_s : Kept m s x_s) : Kept m s (State.untilTime x_s x_t) := by
  unfold State.untilTime
  repeat' first
    | (with_reducible first | assumption | exact Kept.refl _)
    | exact sub_trans (b := 2) (by decide) hm
    | (with_reducible first | apply State.advance_kept | exact KeptO.none | apply KeptO.some | apply KeptO.ite)
    | split
    | (refine Kept.upd ?_ ?_)

theorem State.tpgFire_kept {m : Nat} (hm : 1075241486 &&& m = 1075241486) {s : State} {x_s : State} {x_n : Tpg} (h_x_s : Kept m s x_s) : Kept m s (State.tpgFire x_s x_n) := by
  unfold State.tpgFire
  repeat' first
    | (with_reducible first | assumption | exact Kept.refl _)
    | exact sub_trans (b := 1075241486) (by decide) hm
    | (intro x_1; refine (fun hx : Kept m s x_1 => ?_) ?_; (clear_value x_1); rotate_left; (unfold x_1))
    | (intro x_1; clear_value x_1)
    | intro _
    | (with_reducible first | apply State.untilTime_kept | apply State.fireTpg_kept | apply State.modTpg_kept | exact KeptO.none | apply KeptO.some | apply KeptO.ite)
    | lift_lets -underBinder
    | split
    | (refine Kept.upd ?_ ?_)

theorem State.tpgPulseEnd_kept {m : Nat} (hm : 1049090 &&& m = 1049090) {s : State} {x_s : State} {x_n : Tpg} (h_x_s : Kept m s x_s) : Kept m s (State.tpgPulseEnd x_s x_n) := by
  unfold State.tpgPulseEnd
  repeat' first
    | (with_reducible first | assumption | exact Kept.refl _)
    | exact sub_trans (b := 1049090) (by decide) hm
    | (intro x_1; refine (fun hx : Kept m s x_1 => ?_) ?_; (clear_value x_1); rotate_left; (unfold x_1))
    | (intro x_1; clear_value x_1)
    | (intro p; cases p <;> first | exact Or.inl (bit_of (a := 1049090) hm rfl) | exact Or.inr rfl)
    | intro _
    | (with_reducible first | apply State.modTpg_kept | apply State.untilTime_kept | apply State.each_kept | apply State.driveRidge_kept | exact KeptO.none | apply KeptO.some | apply KeptO.ite | apply Kept.ite | apply Kept.foldl)
    | lift_lets -underBinder
    | split
    | (refine Kept.upd ?_ ?_)

theorem State.lateFire_kept {m : Nat} (hm : 1075241484 &&& m = 1075241484) {s : State} {x_s : State} {x_n : Tpg} (h_x_s : Kept m s x_s) : Kept m s (State.lateFire x_s x_n) := by
  unfold State.lateFire
  repeat' first
    | (with_reducible first | assumption | exact Kept.refl _)
    | exact sub_trans (b := 1075241484) (by decide) hm
    | (intro x_1; refine (fun hx : Kept m s x_1 => ?_) ?_; (clear_value x_1); rotate_left; (unfold x_1))
    | (intro x_1; clear_value x_1)
    | intro _
    | (with_reducible first | apply State.setO_kept | apply State.modTpg_kept | apply State.fireTpg_kept | exact KeptO.none | apply KeptO.some | apply KeptO.ite | apply Kept.ite)
    | lift_lets -underBinder
    | split
    | (refine Kept.upd ?_ ?_)

theorem State.timeStep_kept {m : Nat} (hm : 1075241484 &&& m = 1075241484) {s : State} {x_s : State} {x_offset : Nat} (h_x_s : Kept m s x_s) : Kept m s (State.timeStep x_s x_offset) := by
  unfold State.timeStep
  repeat' first
    | (with_reducible first | assumption | exact Kept.refl _)
    | exact sub_trans (b := 1075241484) (by decide) hm
    | (intro x_1; refine (fun hx : Kept m s x_1 => ?_) ?_; (clear_value x_1); rotate_left; (unfold x_1))
    | (intro x_1; clear_value x_1)
    | intro _
    | (with_reducible first | apply State.event_kept | apply State.setO_kept | apply State.each_kept | apply State.lateFire_kept | apply Kept.ite)
    | lift_lets -underBinder

theorem State.clockWrite_kept {m : Nat} (hm : 1 &&& m = 1) {s : State} {x_s : State} (x_k : State → State) (h_x_s : Kept m s x_s) (h_x_k : ∀ (v0 : State), Kept m s v0 → Kept m s (x_k v0)) : Kept m s (State.clockWrite x_s x_k) := by
  unfold State.clockWrite
  repeat' first
    | (with_reducible first | assumption | exact Kept.refl _)
    | exact sub_trans (b := 1) (by decide) hm
    | (with_reducible first | apply h_x_k | apply State.answer_kept | apply Kept.ite)

theorem State.rateSet_kept {m : Nat} (hm : 9 &&& m = 9) {s : State} {x_s : State} {x_rate : Nat} (h_x_s : Kept m s x_s) : Kept m s (State.rateSet x_s x_rate) := by
  unfold State.rateSet
  repeat' first
    | (with_reducible first | assumption | exact Kept.refl _)
    | exact sub_trans (b := 9) (by decide) hm
    | (intro x_1; refine (fun hx : Kept m s x_1 => ?_) ?_; (clear_value x_1); rotate_left; (unfold x_1))
    | (intro x_1; clear_value x_1)
    | intro _
    | (with_reducible first | apply State.answer_kept | apply State.ok_kept | apply State.setO_kept | apply Kept.ite)
    | lift_lets -underBinder

theorem State.offsetAdjust_kept {m : Nat} (hm : 1075241485 &&& m = 1075241485) {s : State} {x_s : State} {x_amount : Nat} (h_x_s : Kept m s x_s) : Kept m s (State.offsetAdjust x_s x_amount) := by
  unfold State.offsetAdjust
  repeat' first
    | (with_reducible first | assumption | exact Kept.refl _)
    | exact sub_trans (b := 1075241485) (by decide) hm
    | (intro x_1; refine (fun hx : Kept m s x_1 => ?_) ?_; (clear_value x_1); rotate_left; (unfold x_1))
    | (intro x_1; clear_value x_1)
    | intro _
    | (with_reducible first | apply State.answer_kept | apply State.ok_kept | apply State.timeStep_kept | apply Kept.ite)
    | lift_lets -underBinder

theorem State.timeSet_kept {m : Nat} (hm : 1075241485 &&& m = 1075241485) {s : State} {x_s : State} {x_t : Nat} (h_x_s : Kept m s x_s) : Kept m s (State.timeSet x_s x_t) := by
  unfold State.timeSet
  repeat' first
    | (with_reducible first | assumption | exact Kept.refl _)
    | exact sub_trans (b := 1075241485) (by decide) hm
    | (intro x_1; refine (fun hx : Kept m s x_1 => ?_) ?_; (clear_value x_1); rotate_left; (unfold x_1))
    | (intro x_1; clear_value x_1)
    | intro _
    | (with_reducible first | apply State.ok_kept | apply State.timeStep_kept)
    | lift_lets -underBinder

theorem State.tpgEnable_kept {m : Nat} (hm : 1048585 &&& m = 1048585) {s : State} {x_s : State} {x_n : Tpg} {x_on : Bool} (h_x_s : Kept m s x_s) : Kept m s (State.tpgEnable x_s x_n x_on) := by
  unfold State.tpgEnable
  repeat' first
    | (with_reducible first | assumption | exact Kept.refl _)
    | exact sub_trans (b := 1048585) (by decide) hm
    | (intro x_1; refine (fun hx : Kept m s x_1 => ?_) ?_; (clear_value x_1); rotate_left; (unfold x_1))
    | (intro x_1; clear_value x_1)
    | intro _
    | (with_reducible first | apply State.ok_kept | apply State.modTpg_kept | apply State.setO_kept | apply State.answerD_kept | apply State.answer_kept | apply State.each_kept | exact KeptO.none | apply KeptO.some | apply KeptO.ite | apply Kept.ite)
    | lift_lets -underBinder
    | split
    | (refine Kept.upd ?_ ?_)

theorem execPortModeWrite_kept {m : Nat} (hm : 1048585 &&& m = 1048585) {s : State} {x_p : Fin 2} {x_mode : BitVec 8} {x_s : State} (h_x_s : Kept m s x_s) : KeptN m s (execPortModeWrite x_p x_mode x_s) := by
  unfold execPortModeWrite
  repeat' first
    | (with_reducible first | assumption | exact Kept.refl _)
    | exact sub_trans (b := 1048585) (by decide) hm
    | intro _
    | (with_reducible first | apply State.hostModule_kept | apply State.portMode_kept | apply KeptN.next | apply KeptN.ite)

theorem execEthFrameRx_kept {m : Nat} (hm : 1048584 &&& m = 1048584) {s : State} {x_p : Fin 2} {x_f : EthFrame} {x_s : State} (h_x_s : Kept m s x_s) : KeptN m s (execEthFrameRx x_p x_f x_s) := by
  unfold execEthFrameRx
  repeat' first
    | (with_reducible first | assumption | exact Kept.refl _)
    | exact sub_trans (b := 1048584) (by decide) hm
    | (with_reducible first | apply State.frameIn_kept | apply KeptN.next | apply KeptN.ite)

theorem execPortLinkDown_kept {m : Nat} (hm : 32776 &&& m = 32776) {s : State} {x_p : Fin 2} {x_s : State} (h_x_s : Kept m s x_s) : KeptN m s (execPortLinkDown x_p x_s) := by
  unfold execPortLinkDown
  repeat' first
    | (with_reducible first | assumption | exact Kept.refl _)
    | exact sub_trans (b := 32776) (by decide) hm
    | (with_reducible first | apply State.portDown_kept | apply KeptN.next | apply KeptN.ite)

theorem execPortLinkUp_kept {m : Nat} (hm : 8 &&& m = 8) {s : State} {x_p : Fin 2} {x_s : State} (h_x_s : Kept m s x_s) : KeptN m s (execPortLinkUp x_p x_s) := by
  unfold execPortLinkUp
  repeat' first
    | (with_reducible first | assumption | exact Kept.refl _)
    | exact sub_trans (b := 8) (by decide) hm
    | (with_reducible first | apply State.setO_kept | apply KeptN.next | apply KeptN.ite | apply Kept.ite)

theorem execPtpEventTx_kept {m : Nat} (hm : 1048584 &&& m = 1048584) {s : State} {x_p : Fin 2} {x_m : PtpMsg} {x_s : State} (h_x_s : Kept m s x_s) : KeptN m s (execPtpEventTx x_p x_m x_s) := by
  unfold execPtpEventTx
  repeat' first
    | (with_reducible first | assumption | exact Kept.refl _)
    | exact sub_trans (b := 1048584) (by decide) hm
    | (with_reducible first | apply State.ptpOut_kept | apply KeptN.next | apply KeptN.ite)

theorem execTsqEntryRead_kept {m : Nat} (hm : 1048585 &&& m = 1048585) {s : State} {x_p : Fin 2} {x_s : State} (h_x_s : Kept m s x_s) : KeptN m s (execTsqEntryRead x_p x_s) := by
  unfold execTsqEntryRead
  repeat' first
    | (with_reducible first | assumption | exact Kept.refl _)
    | exact sub_trans (b := 1048585) (by decide) hm
    | intro _
    | (with_reducible first | apply State.hostModule_kept | apply State.tsqRead_kept | apply KeptN.next | apply KeptN.ite)

theorem execSyncLoss_kept {m : Nat} (hm : 1048584 &&& m = 1048584) {s : State} {x_s : State} (h_x_s : Kept m s x_s) : KeptN m s (execSyncLoss x_s) := by
  unfold execSyncLoss
  repeat' first
    | (with_reducible first | assumption | exact Kept.refl _)
    | exact sub_trans (b := 1048584) (by decide) hm
    | (intro p; cases p <;> first | exact Or.inl (bit_of (a := 1048584) hm rfl) | exact Or.inr rfl)
    | (with_reducible first | apply State.setO_kept | apply KeptN.next | apply KeptN.ite | apply Kept.ite)
    | (refine Kept.upd ?_ ?_)

theorem execRateSet_kept {m : Nat} (hm : 9 &&& m = 9) {s : State} {x_rate : BitVec 64} {x_s : State} (h_x_s : Kept m s x_s) : KeptN m s (execRateSet x_rate x_s) := by
  unfold execRateSet
  repeat' first
    | (with_reducible first | assumption | exact Kept.refl _)
    | exact sub_trans (b := 9) (by decide) hm
    | intro _
    | (with_reducible first | apply State.clockWrite_kept | apply State.rateSet_kept | apply KeptN.next | apply KeptN.ite)

theorem execOffsetAdjust_kept {m : Nat} (hm : 1075241485 &&& m = 1075241485) {s : State} {x_amount : BitVec 64} {x_s : State} (h_x_s : Kept m s x_s) : KeptN m s (execOffsetAdjust x_amount x_s) := by
  unfold execOffsetAdjust
  repeat' first
    | (with_reducible first | assumption | exact Kept.refl _)
    | exact sub_trans (b := 1075241485) (by decide) hm
    | intro _
    | (with_reducible first | apply State.clockWrite_kept | apply State.offsetAdjust_kept | apply KeptN.next | apply KeptN.ite)

theorem execTimeSet_kept {m : Nat} (hm : 1075241485 &&& m = 1075241485) {s : State} {x_time : BitVec 64} {x_s : State} (h_x_s : Kept m s x_s) : KeptN m s (execTimeSet x_time x_s) := by
  unfold execTimeSet
  repeat' first
    | (with_reducible first | assumption | exact Kept.refl _)
    | exact sub_trans (b := 1075241485) (by decide) hm
    | intro _
    | (with_reducible first | apply State.clockWrite_kept | apply State.timeSet_kept | apply KeptN.next | apply KeptN.ite)

theorem execTimeCopyRefresh_kept {m : Nat} (hm : 1048576 &&& m = 1048576) {s : State} {x_unit : BitVec 12} {x_s : State} (h_x_s : Kept m s x_s) : KeptN m s (execTimeCopyRefresh x_unit x_s) := by
  unfold execTimeCopyRefresh
  repeat' first
    | (with_reducible first | assumption | exact Kept.refl _)
    | (intro p; cases p <;> first | exact Or.inl (bit_of (a := 1048576) hm rfl) | exact Or.inr rfl)
    | (with_reducible first | apply KeptN.next | apply KeptN.ite | apply Kept.ite)
    | (refine Kept.upd ?_ ?_)

theorem execTpgEnable_kept {m : Nat} (hm : 1048585 &&& m = 1048585) {s : State} {x_n : Tpg} {x_on : Bool} {x_s : State} (h_x_s : Kept m s x_s) : KeptN m s (execTpgEnable x_n x_on x_s) := by
  unfold execTpgEnable
  repeat' first
    | (with_reducible first | assumption | exact Kept.refl _)
    | exact sub_trans (b := 1048585) (by decide) hm
    | intro _
    | (with_reducible first | apply State.hostModule_kept | apply State.tpgEnable_kept | apply KeptN.next | apply KeptN.ite)

theorem execTpgFire_kept {m : Nat} (hm : 1075241486 &&& m = 1075241486) {s : State} {x_n : Tpg} {x_s : State} (h_x_s : Kept m s x_s) : KeptN m s (execTpgFire x_n x_s) := by
  unfold execTpgFire
  repeat' first
    | (with_reducible first | assumption | exact Kept.refl _)
    | exact sub_trans (b := 1075241486) (by decide) hm
    | (with_reducible first | apply State.tpgFire_kept | apply KeptN.next | apply KeptN.ite)

theorem execTpgPulseEnd_kept {m : Nat} (hm : 1049090 &&& m = 1049090) {s : State} {x_n : Tpg} {x_s : State} (h_x_s : Kept m s x_s) : KeptN m s (execTpgPulseEnd x_n x_s) := by
  unfold execTpgPulseEnd
  repeat' first
    | (with_reducible first | assumption | exact Kept.refl _)
    | exact sub_trans (b := 1049090) (by decide) hm
    | (with_reducible first | apply State.tpgPulseEnd_kept | apply KeptN.next | apply KeptN.ite)

end Sys2Proof.Machine
end

