-- ==== Sys2Proof/Laws/KeptHold.lean ====
section
/-! SUPPORT. What the operations of Machine/Hold.lean keep. -/

set_option linter.all false

namespace Sys2Proof.Machine

theorem State.showSessions_kept {m : Nat} (hm : 8 &&& m = 8) {s : State} {x_s : State} (h_x_s : Kept m s x_s) : Kept m s (State.showSessions x_s) := by
  unfold State.showSessions
  repeat' first
    | (with_reducible first | assumption | exact Kept.refl _)
    | exact sub_trans (b := 8) (by decide) hm
    | with_reducible apply State.setO_kept

theorem State.closeSession_kept {m : Nat} (hm : 786440 &&& m = 786440) {s : State} {x_s : State} {x_i : Fin 16} (h_x_s : Kept m s x_s) :
    Kept m s (State.closeSession x_s x_i) := by
  unfold State.closeSession
  refine State.showSessions_kept (sub_trans (b := 786440) (by decide) hm) ?_
  refine Kept.updSessions h_x_s (fun hs i x e => ?_) ?_
  · by_cases c : i = x_i
    · subst c
      change (x_s.sessions.set i.val none i.isLt)[i.val] = some x at e
      rw [Vector.getElem_set_self] at e; cases e
    · have c2 : x_i.val ≠ i.val := fun h => c (Fin.ext h.symm)
      change (x_s.sessions.set x_i.val none x_i.isLt)[i.val] = some x at e
      rw [Vector.getElem_set_ne _ _ c2] at e
      exact hs i x e
  · intro p; cases p <;> first | exact Or.inl (bit_of (a := 786440) hm rfl) | exact Or.inr rfl

theorem State.closeSessions_kept {m : Nat} (hm : 786440 &&& m = 786440) {s : State} {x_s : State} (h_x_s : Kept m s x_s) : Kept m s (State.closeSessions x_s) := by
  unfold State.closeSessions
  repeat' first
    | (with_reducible first | assumption | exact Kept.refl _)
    | exact sub_trans (b := 786440) (by decide) hm
    | (with_reducible first | apply State.each_kept | apply State.closeSession_kept)

theorem State.enterHold_kept {m : Nat} (hm : 419628 &&& m = 419628) {s : State} {x_s : State} {x_kind : Nat} {x_unit : Nat} {x_crypto : Bool} (h_x_s : Kept m s x_s) : Kept m s (State.enterHold x_s x_kind x_unit x_crypto) := by
  unfold State.enterHold
  repeat' first
    | (with_reducible first | assumption | exact Kept.refl _)
    | exact sub_trans (b := 419628) (by decide) hm
    | (intro x_1; refine (fun hx : Kept m s x_1 => ?_) ?_; (clear_value x_1); rotate_left; (unfold x_1))
    | (intro x_1; clear_value x_1)
    | (intro p; cases p <;> first | exact Or.inl (bit_of (a := 419628) hm rfl) | exact Or.inr rfl)
    | intro _
    | (with_reducible first | apply State.setO_kept | apply State.each_kept | apply State.assertClear_kept | apply State.enterSafe_kept | apply State.event_kept | apply Kept.ite)
    | lift_lets -underBinder
    | (refine Kept.upd ?_ ?_)

end Sys2Proof.Machine
end

