-- ==== Sys2Proof/Laws/KeptTouchmark.lean ====
section
/-! SUPPORT. What the operations of Machine/Touchmark.lean keep. -/

set_option linter.all false

namespace Sys2Proof.Machine

theorem State.setTm_kept {m : Nat} (hm : 8 &&& m = 8) {s : State} {x_s : State} {x_st : Nat} (h_x_s : Kept m s x_s) : Kept m s (State.setTm x_s x_st) := by
  unfold State.setTm
  repeat' first
    | (with_reducible first | assumption | exact Kept.refl _)
    | exact sub_trans (b := 8) (by decide) hm
    | (with_reducible first | apply State.setO_kept | apply Kept.ite)

theorem State.innerCommit_kept {m : Nat} (hm : 2523145 &&& m = 2523145) {s : State} {x_s : State} {x_m : Sample} {x_cls : Nat} {x_unit : Nat} (x_yes : State → State) (x_no : State → State) (h_x_s : Kept m s x_s) (h_x_yes : ∀ (v0 : State), Kept m s v0 → Kept m s (x_yes v0)) (h_x_no : ∀ (v0 : State), Kept m s v0 → Kept m s (x_no v0)) : Kept m s (State.innerCommit x_s x_m x_cls x_unit x_yes x_no) := by
  unfold State.innerCommit
  repeat' first
    | (with_reducible first | assumption | exact Kept.refl _)
    | exact sub_trans (b := 2523145) (by decide) hm
    | (intro x_1; refine (fun hx : Kept m s x_1 => ?_) ?_; (clear_value x_1); rotate_left; (unfold x_1))
    | (intro x_1; clear_value x_1)
    | (intro p; cases p <;> first | exact Or.inl (bit_of (a := 2523145) hm rfl) | exact Or.inr rfl)
    | intro _
    | (with_reducible first | apply h_x_yes | apply h_x_no | apply State.refuseCommit_kept | apply State.recordCheck_kept | apply Kept.ite)
    | lift_lets -underBinder
    | (refine Kept.upd ?_ ?_)

theorem State.reserve_kept {m : Nat} (hm : 2525193 &&& m = 2525193) {s : State} {x_s : State} {x_m : Sample} (h_x_s : Kept m s x_s) : Kept m s (State.reserve x_s x_m) := by
  unfold State.reserve
  repeat' first
    | (with_reducible first | assumption | exact Kept.refl _)
    | exact sub_trans (b := 2525193) (by decide) hm
    | (intro p; cases p <;> first | exact Or.inl (bit_of (a := 2525193) hm rfl) | exact Or.inr rfl)
    | intro _
    | (with_reducible first | apply State.innerCommit_kept | apply State.setO_kept | exact KeptO.none | apply KeptO.some | apply KeptO.ite)
    | (refine Kept.upd ?_ ?_)

theorem State.resumeCounter_kept {m : Nat} (hm : 2525193 &&& m = 2525193) {s : State} {x_s : State} {x_m : Sample} (h_x_s : Kept m s x_s) : Kept m s (State.resumeCounter x_s x_m) := by
  unfold State.resumeCounter
  repeat' first
    | (with_reducible first | assumption | exact Kept.refl _)
    | exact sub_trans (b := 2525193) (by decide) hm
    | (intro x_1; refine (fun hx : Kept m s x_1 => ?_) ?_; (clear_value x_1); rotate_left; (unfold x_1))
    | (intro x_1; clear_value x_1)
    | (intro p; cases p <;> first | exact Or.inl (bit_of (a := 2525193) hm rfl) | exact Or.inr rfl)
    | intro _
    | (with_reducible first | apply State.incO_kept | apply State.setO_kept | apply State.reserve_kept)
    | lift_lets -underBinder
    | (refine Kept.upd ?_ ?_)

theorem State.newTmKey_kept {m : Nat} (hm : 1036 &&& m = 1036) {s : State} {x_s : State} (h_x_s : Kept m s x_s) : Kept m s (State.newTmKey x_s) := by
  unfold State.newTmKey
  repeat' first
    | (with_reducible first | assumption | exact Kept.refl _)
    | exact sub_trans (b := 1036) (by decide) hm
    | (intro x_1; refine (fun hx : Kept m s x_1 => ?_) ?_; (clear_value x_1); rotate_left; (unfold x_1))
    | (intro x_1; refine (fun hx : Kept m s x_1.2 => ?_) ?_; (clear_value x_1); rotate_left; (unfold x_1))
    | (intro x_1; clear_value x_1)
    | (intro p; cases p <;> first | exact Or.inl (bit_of (a := 1036) hm rfl) | exact Or.inr rfl)
    | intro _
    | (with_reducible first | apply State.free_kept | apply State.setO_kept | apply Kept.ite | apply Kept.ite2)
    | lift_lets -underBinder
    | dsimp only
    | dsimp only [id]
    | (refine Kept.upd ?_ ?_)

theorem State.tmOperational_kept {m : Nat} (hm : 2524173 &&& m = 2524173) {s : State} {x_s : State} {x_m : Sample} (h_x_s : Kept m s x_s) : Kept m s (State.tmOperational x_s x_m) := by
  unfold State.tmOperational
  repeat' first
    | (with_reducible first | assumption | exact Kept.refl _)
    | exact sub_trans (b := 2524173) (by decide) hm
    | (intro x_1; refine (fun hx : Kept m s x_1 => ?_) ?_; (clear_value x_1); rotate_left; (unfold x_1))
    | (intro x_1; clear_value x_1)
    | intro _
    | (with_reducible first | apply State.setTm_kept | apply State.innerCommit_kept | apply State.newTmKey_kept | apply Kept.ite)
    | lift_lets -underBinder
    | dsimp only [id]

theorem State.tmReady_kept {m : Nat} (hm : 2524173 &&& m = 2524173) {s : State} {x_s : State} {x_m : Sample} (h_x_s : Kept m s x_s) : Kept m s (State.tmReady x_s x_m) := by
  unfold State.tmReady
  repeat' first
    | (with_reducible first | assumption | exact Kept.refl _)
    | exact sub_trans (b := 2524173) (by decide) hm
    | (with_reducible first | apply State.setTm_kept | apply State.tmOperational_kept | apply Kept.ite)

theorem State.dropLinkKeys_kept {m : Nat} (hm : 16786440 &&& m = 16786440) {s : State} {x_s : State} (h_x_s : Kept m s x_s) : Kept m s (State.dropLinkKeys x_s) := by
  unfold State.dropLinkKeys
  repeat' first
    | (with_reducible first | assumption | exact Kept.refl _)
    | exact sub_trans (b := 16786440) (by decide) hm
    | intro _
    | (with_reducible first | apply State.each_kept | apply State.modStream_kept | apply State.breakStream_kept)
    | (refine Kept.upd ?_ ?_)

theorem State.tmError_kept {m : Nat} (hm : 17755948 &&& m = 17755948) {s : State} {x_s : State} (h_x_s : Kept m s x_s) : Kept m s (State.tmError x_s) := by
  unfold State.tmError
  repeat' first
    | (with_reducible first | assumption | exact Kept.refl _)
    | exact sub_trans (b := 17755948) (by decide) hm
    | (intro x_1; refine (fun hx : Kept m s x_1 => ?_) ?_; (clear_value x_1); rotate_left; (unfold x_1))
    | (intro x_1; clear_value x_1)
    | (intro p; cases p <;> first | exact Or.inl (bit_of (a := 17755948) hm rfl) | exact Or.inr rfl)
    | intro _
    | (with_reducible first | apply State.closeSessions_kept | apply State.dropLinkKeys_kept | apply State.zeroSlots_kept | apply State.setTm_kept | apply State.fault_kept | apply State.enterHold_kept)
    | lift_lets -underBinder
    | (refine Kept.upd ?_ ?_)

theorem State.tmStart_kept {m : Nat} (hm : 16788488 &&& m = 16788488) {s : State} {x_s : State} (h_x_s : Kept m s x_s) : Kept m s (State.tmStart x_s) := by
  unfold State.tmStart
  repeat' first
    | (with_reducible first | assumption | exact Kept.refl _)
    | exact sub_trans (b := 16788488) (by decide) hm
    | (intro x_1; refine (fun hx : Kept m s x_1 => ?_) ?_; (clear_value x_1); rotate_left; (unfold x_1))
    | (intro x_1; clear_value x_1)
    | (intro p; cases p <;> first | exact Or.inl (bit_of (a := 16788488) hm rfl) | exact Or.inr (by dsimp only [Part.same]))
    | intro _
    | (with_reducible first | apply State.dropLinkKeys_kept | apply State.zeroSlots_kept | apply State.setTm_kept | apply State.setO_kept)
    | lift_lets -underBinder
    | (refine Kept.upd ?_ ?_)

theorem State.selfTest_kept {m : Nat} (hm : 2057 &&& m = 2057) {s : State} {x_s : State} (h_x_s : Kept m s x_s) : Kept m s (State.selfTest x_s) := by
  unfold State.selfTest
  repeat' first
    | (with_reducible first | assumption | exact Kept.refl _)
    | exact sub_trans (b := 2057) (by decide) hm
    | (intro p; cases p <;> first | exact Or.inl (bit_of (a := 2057) hm rfl) | exact Or.inr rfl)
    | (with_reducible first | apply State.ok_kept | apply State.setTm_kept | apply State.answer_kept | apply Kept.ite)
    | (refine Kept.upd ?_ ?_)

theorem State.selfTested_kept {m : Nat} (hm : 19853101 &&& m = 19853101) {s : State} {x_s : State} {x_result : Nat} {x_m : Sample} (h_x_s : Kept m s x_s) : Kept m s (State.selfTested x_s x_result x_m) := by
  unfold State.selfTested
  repeat' first
    | (with_reducible first | assumption | exact Kept.refl _)
    | exact sub_trans (b := 19853101) (by decide) hm
    | (intro x_1; refine (fun hx : Kept m s x_1 => ?_) ?_; (clear_value x_1); rotate_left; (unfold x_1))
    | (intro x_1; clear_value x_1)
    | (intro p; cases p <;> first | exact Or.inl (bit_of (a := 19853101) hm rfl) | exact Or.inr rfl)
    | intro _
    | (with_reducible first | apply State.setO_kept | apply State.tmError_kept | apply State.resumeCounter_kept | apply State.tmReady_kept | apply Kept.ite)
    | lift_lets -underBinder
    | (refine Kept.upd ?_ ?_)

theorem State.tmRestart_kept {m : Nat} (hm : 16788489 &&& m = 16788489) {s : State} {x_s : State} {x_verified : Bool} (h_x_s : Kept m s x_s) : Kept m s (State.tmRestart x_s x_verified) := by
  unfold State.tmRestart
  repeat' first
    | (with_reducible first | assumption | exact Kept.refl _)
    | exact sub_trans (b := 16788489) (by decide) hm
    | (with_reducible first | apply State.answer_kept | apply State.ok_kept | apply State.tmStart_kept | apply Kept.ite)

theorem State.dropGroupKey_kept {m : Nat} (hm : 1032 &&& m = 1032) {s : State} {x_s : State} (h_x_s : Kept m s x_s) : Kept m s (State.dropGroupKey x_s) := by
  unfold State.dropGroupKey
  repeat' first
    | (with_reducible first | assumption | exact Kept.refl _)
    | exact sub_trans (b := 1032) (by decide) hm
    | (intro p; cases p <;> first | exact Or.inl (bit_of (a := 1032) hm rfl) | exact Or.inr rfl)
    | with_reducible apply State.setO_kept
    | (refine Kept.upd ?_ ?_)

theorem State.zeroise_kept {m : Nat} (hm : 17231676 &&& m = 17231676) {s : State} {x_s : State} {x_how : Nat} (h_x_s : Kept m s x_s) : Kept m s (State.zeroise x_s x_how) := by
  unfold State.zeroise
  repeat' first
    | (with_reducible first | assumption | exact Kept.refl _)
    | exact sub_trans (b := 17231676) (by decide) hm
    | (intro x_1; refine (fun hx : Kept m s x_1 => ?_) ?_; (clear_value x_1); rotate_left; (unfold x_1))
    | (intro x_1; clear_value x_1)
    | (intro p; cases p <;> first | exact Or.inl (bit_of (a := 17231676) hm rfl) | exact Or.inr (by dsimp only [Part.same]))
    | intro _
    | (with_reducible first | apply State.each_kept | apply State.pkgAbort_kept | apply State.setO_kept | apply State.dropGroupKey_kept | apply State.incO_kept | apply State.setTm_kept | apply State.dropLinkKeys_kept | apply State.zeroSlots_kept | apply State.fault_kept | apply State.enterHold_kept)
    | lift_lets -underBinder
    | (refine Kept.upd ?_ ?_)

theorem State.writeAnchor_kept {m : Nat} (hm : 2524189 &&& m = 2524189) {s : State} {x_s : State} {x_r : Role} {x_k : Bytes} {x_m : Sample} (h_x_s : Kept m s x_s) : Kept m s (State.writeAnchor x_s x_r x_k x_m) := by
  unfold State.writeAnchor
  repeat' first
    | (with_reducible first | assumption | exact Kept.refl _)
    | exact sub_trans (b := 2524189) (by decide) hm
    | (intro x_1; refine (fun hx : Kept m s x_1 => ?_) ?_; (clear_value x_1); rotate_left; (unfold x_1))
    | (intro x_1; clear_value x_1)
    | (intro p; cases p <;> first | exact Or.inl (bit_of (a := 2524189) hm rfl) | exact Or.inr rfl)
    | intro _
    | (with_reducible first | apply State.answer_kept | apply State.commitGate_kept | apply State.ok_kept | apply State.tmReady_kept | apply Kept.ite)
    | lift_lets -underBinder
    | (refine Kept.upd ?_ ?_)

theorem State.writeCodeKey_kept {m : Nat} (hm : 2523161 &&& m = 2523161) {s : State} {x_s : State} {x_slot : Nat} {x_k : Bytes} {x_m : Sample} (h_x_s : Kept m s x_s) : Kept m s (State.writeCodeKey x_s x_slot x_k x_m) := by
  unfold State.writeCodeKey
  repeat' first
    | (with_reducible first | assumption | exact Kept.refl _)
    | exact sub_trans (b := 2523161) (by decide) hm
    | (intro p; cases p <;> first | exact Or.inl (bit_of (a := 2523161) hm rfl) | exact Or.inr rfl)
    | intro _
    | (with_reducible first | apply State.answer_kept | apply State.commitGate_kept | apply State.ok_kept | apply Kept.ite)
    | (refine Kept.upd ?_ ?_)

theorem State.importKey_kept {m : Nat} (hm : 2524169 &&& m = 2524169) {s : State} {x_s : State} {x_r : Bytes} {x_k : Option (BitVec 256)} {x_m : Sample} (h_x_s : Kept m s x_s) : Kept m s (State.importKey x_s x_r x_k x_m) := by
  unfold State.importKey
  repeat' first
    | (with_reducible first | assumption | exact Kept.refl _)
    | exact sub_trans (b := 2524169) (by decide) hm
    | (intro p; cases p <;> first | exact Or.inl (bit_of (a := 2524169) hm rfl) | exact Or.inr rfl)
    | intro _
    | (with_reducible first | apply State.answer_kept | apply State.commitGate_kept | apply State.ok_kept | apply State.setO_kept | exact KeptO.none | apply KeptO.some | apply KeptO.ite | apply Kept.ite)
    | split
    | (refine Kept.upd ?_ ?_)

theorem State.slotZeroize_kept {m : Nat} (hm : 1033 &&& m = 1033) {s : State} {x_s : State} {x_slot : Nat} (h_x_s : Kept m s x_s) : Kept m s (State.slotZeroize x_s x_slot) := by
  unfold State.slotZeroize
  repeat' first
    | (with_reducible first | assumption | exact Kept.refl _)
    | exact sub_trans (b := 1033) (by decide) hm
    | intro _
    | (with_reducible first | apply State.answer_kept | apply State.ok_kept | apply State.zeroSlot_kept | apply Kept.ite)

theorem State.fwImage_kept {m : Nat} (hm : 4105 &&& m = 4105) {s : State} {x_s : State} {x_len : Nat} {x_sigOk : Bool} {x_release : Nat} {x_rollback : Nat} (h_x_s : Kept m s x_s) : Kept m s (State.fwImage x_s x_len x_sigOk x_release x_rollback) := by
  unfold State.fwImage
  repeat' first
    | (with_reducible first | assumption | exact Kept.refl _)
    | exact sub_trans (b := 4105) (by decide) hm
    | (intro x_1; refine (fun hx : Kept m s x_1 => ?_) ?_; (clear_value x_1); rotate_left; (unfold x_1))
    | (intro x_1; clear_value x_1)
    | (intro p; cases p <;> first | exact Or.inl (bit_of (a := 4105) hm rfl) | exact Or.inr rfl)
    | intro _
    | (with_reducible first | apply State.answer_kept | apply State.setO_kept | apply State.ok_kept | exact KeptO.none | apply KeptO.some | apply KeptO.ite | apply Kept.ite)
    | lift_lets -underBinder
    | (refine Kept.upd ?_ ?_)

theorem State.fwProgrammed_kept {m : Nat} (hm : 4104 &&& m = 4104) {s : State} {x_s : State} {x_cut : Bool} (h_x_s : Kept m s x_s) : Kept m s (State.fwProgrammed x_s x_cut) := by
  unfold State.fwProgrammed
  repeat' first
    | (with_reducible first | assumption | exact Kept.refl _)
    | exact sub_trans (b := 4104) (by decide) hm
    | (intro x_1; refine (fun hx : Kept m s x_1 => ?_) ?_; (clear_value x_1); rotate_left; (unfold x_1))
    | (intro x_1; clear_value x_1)
    | (intro p; cases p <;> first | exact Or.inl (bit_of (a := 4104) hm rfl) | exact Or.inr rfl)
    | intro _
    | (with_reducible first | apply State.setO_kept | exact KeptO.none | apply KeptO.some | apply KeptO.ite | apply Kept.ite)
    | lift_lets -underBinder
    | split
    | (refine Kept.upd ?_ ?_)

theorem State.fwActive_kept {m : Nat} (hm : 2523145 &&& m = 2523145) {s : State} {x_s : State} {x_slot : Nat} {x_m : Sample} (h_x_s : Kept m s x_s) : Kept m s (State.fwActive x_s x_slot x_m) := by
  unfold State.fwActive
  repeat' first
    | (with_reducible first | assumption | exact Kept.refl _)
    | exact sub_trans (b := 2523145) (by decide) hm
    | intro _
    | (with_reducible first | apply State.answer_kept | apply State.commitGate_kept | apply State.ok_kept | apply State.setO_kept | apply Kept.ite)

theorem State.fwAccept_kept {m : Nat} (hm : 2523145 &&& m = 2523145) {s : State} {x_s : State} {x_v : Nat} {x_m : Sample} (h_x_s : Kept m s x_s) : Kept m s (State.fwAccept x_s x_v x_m) := by
  unfold State.fwAccept
  repeat' first
    | (with_reducible first | assumption | exact Kept.refl _)
    | exact sub_trans (b := 2523145) (by decide) hm
    | intro _
    | (with_reducible first | apply State.answer_kept | apply State.commitGate_kept | apply State.ok_kept | apply State.setO_kept | apply Kept.ite)

theorem State.debugUnlock_kept {m : Nat} (hm : 3081 &&& m = 3081) {s : State} {x_s : State} {x_scope : Nat} {x_sigOk : Bool} (h_x_s : Kept m s x_s) : Kept m s (State.debugUnlock x_s x_scope x_sigOk) := by
  unfold State.debugUnlock
  repeat' first
    | (with_reducible first | assumption | exact Kept.refl _)
    | exact sub_trans (b := 3081) (by decide) hm
    | (intro x_1; refine (fun hx : Kept m s x_1 => ?_) ?_; (clear_value x_1); rotate_left; (unfold x_1))
    | (intro x_1; clear_value x_1)
    | (intro p; cases p <;> first | exact Or.inl (bit_of (a := 3081) hm rfl) | exact Or.inr rfl)
    | intro _
    | (with_reducible first | apply State.answer_kept | apply State.ok_kept | apply State.setTm_kept | apply State.setO_kept | apply State.zeroSlots_kept | apply State.dropGroupKey_kept | apply Kept.ite)
    | lift_lets -underBinder
    | (refine Kept.upd ?_ ?_)

theorem State.sign_kept {m : Nat} (hm : 2525193 &&& m = 2525193) {s : State} {x_s : State} {x_g : Nat} {x_node : Nat} {x_records : Nat} {x_payload : Bytes} {x_m : Sample} (h_x_s : Kept m s x_s) : Kept m s (State.sign x_s x_g x_node x_records x_payload x_m) := by
  unfold State.sign
  repeat' first
    | (with_reducible first | assumption | exact Kept.refl _)
    | exact sub_trans (b := 2525193) (by decide) hm
    | (intro x_1; refine (fun hx : Kept m s x_1 => ?_) ?_; (clear_value x_1); rotate_left; (unfold x_1))
    | (intro x_1; clear_value x_1)
    | (intro p; cases p <;> first | exact Or.inl (bit_of (a := 2525193) hm rfl) | exact Or.inr rfl)
    | intro _
    | (with_reducible first | apply State.answer_kept | apply State.setO_kept | apply State.reserve_kept | apply State.answerBody_kept | apply Kept.ite)
    | lift_lets -underBinder
    | (refine Kept.upd ?_ ?_)

theorem execSelfTestRequest_kept {m : Nat} (hm : 2057 &&& m = 2057) {s : State} {x_s : State} (h_x_s : Kept m s x_s) : KeptN m s (execSelfTestRequest x_s) := by
  unfold execSelfTestRequest
  repeat' first
    | (with_reducible first | assumption | exact Kept.refl _)
    | exact sub_trans (b := 2057) (by decide) hm
    | (with_reducible first | apply State.hostFirm_kept | apply State.selfTest_kept | apply KeptN.next | apply KeptN.ite)

theorem execSelfTestComplete_kept {m : Nat} (hm : 19853101 &&& m = 19853101) {s : State} {x_result : BitVec 32} {x_smp : Sample} {x_s : State} (h_x_s : Kept m s x_s) : KeptN m s (execSelfTestComplete x_result x_smp x_s) := by
  unfold execSelfTestComplete
  repeat' first
    | (with_reducible first | assumption | exact Kept.refl _)
    | exact sub_trans (b := 19853101) (by decide) hm
    | (with_reducible first | apply State.selfTested_kept | apply KeptN.next | apply KeptN.ite)

theorem execEntropyFail_kept {m : Nat} (hm : 17755948 &&& m = 17755948) {s : State} {x_s : State} (h_x_s : Kept m s x_s) : KeptN m s (execEntropyFail x_s) := by
  unfold execEntropyFail
  repeat' first
    | (with_reducible first | assumption | exact Kept.refl _)
    | exact sub_trans (b := 17755948) (by decide) hm
    | (with_reducible first | apply State.tmError_kept | apply State.incO_kept | apply KeptN.next | apply KeptN.ite)

theorem execZeroize_kept {m : Nat} (hm : 17231677 &&& m = 17231677) {s : State} {x_value : BitVec 16} {x_s : State} (h_x_s : Kept m s x_s) : KeptN m s (execZeroize x_value x_s) := by
  unfold execZeroize
  repeat' first
    | (with_reducible first | assumption | exact Kept.refl _)
    | exact sub_trans (b := 17231677) (by decide) hm
    | intro _
    | (with_reducible first | apply State.hostFirm_kept | apply State.ok_kept | apply State.zeroise_kept | apply State.answer_kept | apply KeptN.next | apply KeptN.ite | apply Kept.ite)

theorem execZeroizeN_kept {m : Nat} (hm : 17231676 &&& m = 17231676) {s : State} {x_lowNs : Nat} {x_s : State} (h_x_s : Kept m s x_s) : KeptN m s (execZeroizeN x_lowNs x_s) := by
  unfold execZeroizeN
  repeat' first
    | (with_reducible first | assumption | exact Kept.refl _)
    | exact sub_trans (b := 17231676) (by decide) hm
    | (with_reducible first | apply State.zeroise_kept | apply State.freeBit_kept | apply KeptN.next | apply KeptN.ite | apply Kept.ite | apply Kept.ite2)
    | dsimp only

theorem execGroupKeyImport_kept {m : Nat} (hm : 2524169 &&& m = 2524169) {s : State} {x_rec : Bytes} {x_key : Option (BitVec 256)} {x_smp : Sample} {x_s : State} (h_x_s : Kept m s x_s) : KeptN m s (execGroupKeyImport x_rec x_key x_smp x_s) := by
  unfold execGroupKeyImport
  repeat' first
    | (with_reducible first | assumption | exact Kept.refl _)
    | exact sub_trans (b := 2524169) (by decide) hm
    | intro _
    | (with_reducible first | apply State.hostFirm_kept | apply State.importKey_kept | apply KeptN.next | apply KeptN.ite)

theorem execCodeKeyWrite_kept {m : Nat} (hm : 2523161 &&& m = 2523161) {s : State} {x_slot : Fin 8} {x_key : Bytes} {x_smp : Sample} {x_s : State} (h_x_s : Kept m s x_s) : KeptN m s (execCodeKeyWrite x_slot x_key x_smp x_s) := by
  unfold execCodeKeyWrite
  repeat' first
    | (with_reducible first | assumption | exact Kept.refl _)
    | exact sub_trans (b := 2523161) (by decide) hm
    | intro _
    | (with_reducible first | apply State.hostFirm_kept | apply State.writeCodeKey_kept | apply KeptN.next | apply KeptN.ite)

theorem execRoleAnchorWrite_kept {m : Nat} (hm : 2524189 &&& m = 2524189) {s : State} {x_role : Role} {x_key : Bytes} {x_smp : Sample} {x_s : State} (h_x_s : Kept m s x_s) : KeptN m s (execRoleAnchorWrite x_role x_key x_smp x_s) := by
  unfold execRoleAnchorWrite
  repeat' first
    | (with_reducible first | assumption | exact Kept.refl _)
    | exact sub_trans (b := 2524189) (by decide) hm
    | intro _
    | (with_reducible first | apply State.hostFirm_kept | apply State.writeAnchor_kept | apply KeptN.next | apply KeptN.ite)

theorem execFwImage_kept {m : Nat} (hm : 4105 &&& m = 4105) {s : State} {x_len : Nat} {x_sigOk : Bool} {x_release : BitVec 32} {x_rollback : BitVec 32} {x_s : State} (h_x_s : Kept m s x_s) : KeptN m s (execFwImage x_len x_sigOk x_release x_rollback x_s) := by
  unfold execFwImage
  repeat' first
    | (with_reducible first | assumption | exact Kept.refl _)
    | exact sub_trans (b := 4105) (by decide) hm
    | intro _
    | (with_reducible first | apply State.hostFirm_kept | apply State.fwImage_kept | apply KeptN.next | apply KeptN.ite)

theorem execFwProgramComplete_kept {m : Nat} (hm : 4104 &&& m = 4104) {s : State} {x_cut : Bool} {x_s : State} (h_x_s : Kept m s x_s) : KeptN m s (execFwProgramComplete x_cut x_s) := by
  unfold execFwProgramComplete
  repeat' first
    | (with_reducible first | assumption | exact Kept.refl _)
    | exact sub_trans (b := 4104) (by decide) hm
    | (with_reducible first | apply State.fwProgrammed_kept | apply KeptN.next | apply KeptN.ite)

theorem execFwActiveSlotWrite_kept {m : Nat} (hm : 2523145 &&& m = 2523145) {s : State} {x_slot : BitVec 8} {x_smp : Sample} {x_s : State} (h_x_s : Kept m s x_s) : KeptN m s (execFwActiveSlotWrite x_slot x_smp x_s) := by
  unfold execFwActiveSlotWrite
  repeat' first
    | (with_reducible first | assumption | exact Kept.refl _)
    | exact sub_trans (b := 2523145) (by decide) hm
    | intro _
    | (with_reducible first | apply State.hostFirm_kept | apply State.fwActive_kept | apply KeptN.next | apply KeptN.ite)

theorem execFwAccept_kept {m : Nat} (hm : 2523145 &&& m = 2523145) {s : State} {x_value : BitVec 32} {x_smp : Sample} {x_s : State} (h_x_s : Kept m s x_s) : KeptN m s (execFwAccept x_value x_smp x_s) := by
  unfold execFwAccept
  repeat' first
    | (with_reducible first | assumption | exact Kept.refl _)
    | exact sub_trans (b := 2523145) (by decide) hm
    | intro _
    | (with_reducible first | apply State.hostFirm_kept | apply State.fwAccept_kept | apply KeptN.next | apply KeptN.ite)

theorem execTmRestartRequest_kept {m : Nat} (hm : 16788489 &&& m = 16788489) {s : State} {x_verified : Bool} {x_s : State} (h_x_s : Kept m s x_s) : KeptN m s (execTmRestartRequest x_verified x_s) := by
  unfold execTmRestartRequest
  repeat' first
    | (with_reducible first | assumption | exact Kept.refl _)
    | exact sub_trans (b := 16788489) (by decide) hm
    | intro _
    | (with_reducible first | apply State.hostFirm_kept | apply State.tmRestart_kept | apply KeptN.next | apply KeptN.ite)

theorem execDebugUnlock_kept {m : Nat} (hm : 3081 &&& m = 3081) {s : State} {x_scope : BitVec 8} {x_sigOk : Bool} {x_s : State} (h_x_s : Kept m s x_s) : KeptN m s (execDebugUnlock x_scope x_sigOk x_s) := by
  unfold execDebugUnlock
  repeat' first
    | (with_reducible first | assumption | exact Kept.refl _)
    | exact sub_trans (b := 3081) (by decide) hm
    | intro _
    | (with_reducible first | apply State.hostFirm_kept | apply State.debugUnlock_kept | apply KeptN.next | apply KeptN.ite)

theorem execSlotZeroize_kept {m : Nat} (hm : 1033 &&& m = 1033) {s : State} {x_slot : BitVec 8} {x_s : State} (h_x_s : Kept m s x_s) : KeptN m s (execSlotZeroize x_slot x_s) := by
  unfold execSlotZeroize
  repeat' first
    | (with_reducible first | assumption | exact Kept.refl _)
    | exact sub_trans (b := 1033) (by decide) hm
    | intro _
    | (with_reducible first | apply State.hostFirm_kept | apply State.slotZeroize_kept | apply KeptN.next | apply KeptN.ite)

theorem execSignRequest_kept {m : Nat} (hm : 2525193 &&& m = 2525193) {s : State} {x_g : Graph} {x_node : BitVec 8} {x_records : BitVec 32} {x_payload : Bytes} {x_smp : Sample} {x_s : State} (h_x_s : Kept m s x_s) : KeptN m s (execSignRequest x_g x_node x_records x_payload x_smp x_s) := by
  unfold execSignRequest
  repeat' first
    | (with_reducible first | assumption | exact Kept.refl _)
    | exact sub_trans (b := 2525193) (by decide) hm
    | (with_reducible first | apply State.sign_kept | apply KeptN.next | apply KeptN.ite)

theorem execReserveRetry_kept {m : Nat} (hm : 2525195 &&& m = 2525195) {s : State} {x_smp : Sample} {x_s : State} (h_x_s : Kept m s x_s) : KeptN m s (execReserveRetry x_smp x_s) := by
  unfold execReserveRetry
  repeat' first
    | (with_reducible first | assumption | exact Kept.refl _)
    | exact sub_trans (b := 2525195) (by decide) hm
    | (with_reducible first | apply State.reserve_kept | apply State.advance_kept | exact KeptO.none | apply KeptO.some | apply KeptO.ite | apply KeptN.next | apply KeptN.ite)
    | split
    | (refine Kept.upd ?_ ?_)

end Sys2Proof.Machine
end

