-- ==== Sys2Proof/Laws/KeptAssay.lean ====
section
/-! SUPPORT. What the operations of Machine/Assay.lean keep. -/

set_option linter.all false

namespace Sys2Proof.Machine

theorem State.loadPath_kept {m : Nat} (hm : 32776 &&& m = 32776) {s : State} {x_s : State} {x_c : Chan} {x_m : PathMeas} (h_x_s : Kept m s x_s) : Kept m s (State.loadPath x_s x_c x_m) := by
  unfold State.loadPath
  repeat' first
    | (with_reducible first | assumption | exact Kept.refl _)
    | exact sub_trans (b := 32776) (by decide) hm
    | (intro x_1; refine (fun hx : Kept m s x_1 => ?_) ?_; (clear_value x_1); rotate_left; (unfold x_1))
    | (intro x_1; clear_value x_1)
    | intro _
    | (with_reducible first | apply State.each_kept | apply State.setC_kept | apply State.fault_kept | apply State.flagC_kept | apply Kept.ite)
    | lift_lets -underBinder

theorem State.setResid_kept {m : Nat} (hm : 8 &&& m = 8) {s : State} {x_s : State} {x_c : Chan} {x_r : List Int} (h_x_s : Kept m s x_s) : Kept m s (State.setResid x_s x_c x_r) := by
  unfold State.setResid
  repeat' first
    | (with_reducible first | assumption | exact Kept.refl _)
    | exact sub_trans (b := 8) (by decide) hm
    | intro _
    | (with_reducible first | apply State.each_kept | apply State.setC_kept)

theorem State.showWorst_kept {m : Nat} (hm : 8 &&& m = 8) {s : State} {x_s : State} {x_b : Bay} (h_x_s : Kept m s x_s) : Kept m s (State.showWorst x_s x_b) := by
  unfold State.showWorst
  repeat' first
    | (with_reducible first | assumption | exact Kept.refl _)
    | exact sub_trans (b := 8) (by decide) hm
    | (intro x_1; refine (fun hx : Kept m s x_1 => ?_) ?_; (clear_value x_1); rotate_left; (unfold x_1))
    | (intro x_1; clear_value x_1)
    | intro _
    | (with_reducible first | apply State.setO_kept | apply Kept.ite | apply Kept.foldl)
    | lift_lets -underBinder

theorem State.calibrated_kept {m : Nat} (hm : 8 &&& m = 8) {s : State} {x_s : State} {x_c : Chan} (h_x_s : Kept m s x_s) : Kept m s (State.calibrated x_s x_c) := by
  unfold State.calibrated
  repeat' first
    | (with_reducible first | assumption | exact Kept.refl _)
    | exact sub_trans (b := 8) (by decide) hm
    | (intro x_1; refine (fun hx : Kept m s x_1 => ?_) ?_; (clear_value x_1); rotate_left; (unfold x_1))
    | (intro x_1; clear_value x_1)
    | intro _
    | with_reducible apply State.setC_kept
    | lift_lets -underBinder

theorem State.rollStart_kept {m : Nat} (hm : 8200 &&& m = 8200) {s : State} {x_s : State} {x_b : Bay} (h_x_s : Kept m s x_s) : Kept m s (State.rollStart x_s x_b) := by
  unfold State.rollStart
  repeat' first
    | (with_reducible first | assumption | exact Kept.refl _)
    | exact sub_trans (b := 8200) (by decide) hm
    | (intro x_1; refine (fun hx : Kept m s x_1 => ?_) ?_; (clear_value x_1); rotate_left; (unfold x_1))
    | (intro x_1; clear_value x_1)
    | intro _
    | (with_reducible first | apply State.setO_kept | apply State.modRoll_kept | exact KeptO.none | apply KeptO.some | apply KeptO.ite | apply Kept.ite | apply Kept.dite)
    | lift_lets -underBinder
    | (refine Kept.upd ?_ ?_)

theorem State.rollStep_kept {m : Nat} (hm : 8458 &&& m = 8458) {s : State} {x_s : State} {x_b : Bay} (h_x_s : Kept m s x_s) : Kept m s (State.rollStep x_s x_b) := by
  unfold State.rollStep
  repeat' first
    | (with_reducible first | assumption | exact Kept.refl _)
    | exact sub_trans (b := 8458) (by decide) hm
    | (intro x_1; refine (fun hx : Kept m s x_1 => ?_) ?_; (clear_value x_1); rotate_left; (unfold x_1))
    | (intro x_1; clear_value x_1)
    | intro _
    | (with_reducible first | apply State.advance_kept | apply State.claimSpare_kept | apply State.rollStart_kept | apply State.flagC_kept | apply State.stepOver_kept | apply Kept.ite | apply Kept.dite)
    | lift_lets -underBinder

theorem State.toSpare_kept {m : Nat} (hm : 8200 &&& m = 8200) {s : State} {x_s : State} {x_b : Bay} {x_k : Fin 16} (h_x_s : Kept m s x_s) : Kept m s (State.toSpare x_s x_b x_k) := by
  unfold State.toSpare
  repeat' first
    | (with_reducible first | assumption | exact Kept.refl _)
    | exact sub_trans (b := 8200) (by decide) hm
    | (intro x_1; refine (fun hx : Kept m s x_1 => ?_) ?_; (clear_value x_1); rotate_left; (unfold x_1))
    | (intro x_1; clear_value x_1)
    | intro _
    | (with_reducible first | apply State.modRoll_kept | apply State.setC_kept | apply State.setO_kept | apply Kept.ite)
    | lift_lets -underBinder
    | (refine Kept.upd ?_ ?_)

theorem State.toOwn_kept {m : Nat} (hm : 8456 &&& m = 8456) {s : State} {x_s : State} {x_b : Bay} {x_k : Fin 16} (h_x_s : Kept m s x_s) : Kept m s (State.toOwn x_s x_b x_k) := by
  unfold State.toOwn
  repeat' first
    | (with_reducible first | assumption | exact Kept.refl _)
    | exact sub_trans (b := 8456) (by decide) hm
    | (intro x_1; refine (fun hx : Kept m s x_1 => ?_) ?_; (clear_value x_1); rotate_left; (unfold x_1))
    | (intro x_1; clear_value x_1)
    | intro _
    | (with_reducible first | apply State.ownPath_kept | apply State.modRoll_kept | apply State.setO_kept | apply State.freeClaim_kept | apply State.stepOver_kept | apply State.showWorst_kept | apply State.calibrated_kept | apply State.setResid_kept | apply Kept.ite)
    | lift_lets -underBinder
    | (refine Kept.upd ?_ ?_)

theorem State.mismatch_kept {m : Nat} (hm : 41224 &&& m = 41224) {s : State} {x_s : State} {x_b : Bay} {x_k : Fin 16} (h_x_s : Kept m s x_s) : Kept m s (State.mismatch x_s x_b x_k) := by
  unfold State.mismatch
  repeat' first
    | (with_reducible first | assumption | exact Kept.refl _)
    | exact sub_trans (b := 41224) (by decide) hm
    | (intro x_1; refine (fun hx : Kept m s x_1 => ?_) ?_; (clear_value x_1); rotate_left; (unfold x_1))
    | (intro x_1; clear_value x_1)
    | intro _
    | (with_reducible first | apply State.fault_kept | apply State.incO_kept | apply State.setO_kept | apply State.stepOver_kept | apply State.ownPath_kept | apply Kept.ite)
    | lift_lets -underBinder
    | split

theorem State.handover_kept {m : Nat} (hm : 41224 &&& m = 41224) {s : State} {x_s : State} {x_b : Bay} {x_codesEqual : Bool} {x_clear : Bool} (h_x_s : Kept m s x_s) : Kept m s (State.handover x_s x_b x_codesEqual x_clear) := by
  unfold State.handover
  repeat' first
    | (with_reducible first | assumption | exact Kept.refl _)
    | exact sub_trans (b := 41224) (by decide) hm
    | (intro x_1; refine (fun hx : Kept m s x_1 => ?_) ?_; (clear_value x_1); rotate_left; (unfold x_1))
    | (intro x_1; clear_value x_1)
    | intro _
    | (with_reducible first | apply State.mismatch_kept | apply State.toOwn_kept | apply State.toSpare_kept | exact KeptO.none | apply KeptO.some | apply KeptO.ite | apply Kept.ite)
    | lift_lets -underBinder
    | split
    | (refine Kept.upd ?_ ?_)

theorem State.pathCalibrated_kept {m : Nat} (hm : 41224 &&& m = 41224) {s : State} {x_s : State} {x_b : Bay} {x_m : PathMeas} (h_x_s : Kept m s x_s) : Kept m s (State.pathCalibrated x_s x_b x_m) := by
  unfold State.pathCalibrated
  repeat' first
    | (with_reducible first | assumption | exact Kept.refl _)
    | exact sub_trans (b := 41224) (by decide) hm
    | (intro x_1; refine (fun hx : Kept m s x_1 => ?_) ?_; (clear_value x_1); rotate_left; (unfold x_1))
    | (intro x_1; clear_value x_1)
    | intro _
    | (with_reducible first | apply State.loadPath_kept | apply State.setO_kept | apply State.modRoll_kept | apply State.each_kept | apply State.setB_kept | apply State.stepOver_kept | exact KeptO.none | apply KeptO.some | apply KeptO.ite | apply Kept.ite)
    | lift_lets -underBinder
    | split
    | (refine Kept.upd ?_ ?_)

theorem State.handTimeout_kept {m : Nat} (hm : 8458 &&& m = 8458) {s : State} {x_s : State} {x_b : Bay} (h_x_s : Kept m s x_s) : Kept m s (State.handTimeout x_s x_b) := by
  unfold State.handTimeout
  repeat' first
    | (with_reducible first | assumption | exact Kept.refl _)
    | exact sub_trans (b := 8458) (by decide) hm
    | (intro x_1; refine (fun hx : Kept m s x_1 => ?_) ?_; (clear_value x_1); rotate_left; (unfold x_1))
    | (intro x_1; clear_value x_1)
    | intro _
    | (with_reducible first | apply State.advance_kept | apply State.incO_kept | apply State.stepOver_kept | apply State.ownPath_kept | apply State.setO_kept | apply State.modRoll_kept | apply Kept.ite)
    | lift_lets -underBinder
    | (refine Kept.upd ?_ ?_)

theorem State.rollHold_kept {m : Nat} (hm : 8200 &&& m = 8200) {s : State} {x_s : State} {x_b : Bay} (h_x_s : Kept m s x_s) : Kept m s (State.rollHold x_s x_b) := by
  unfold State.rollHold
  repeat' first
    | (with_reducible first | assumption | exact Kept.refl _)
    | exact sub_trans (b := 8200) (by decide) hm
    | (with_reducible first | apply State.setO_kept | apply State.ownPath_kept | apply Kept.ite)

theorem State.rollPause_kept {m : Nat} (hm : 8201 &&& m = 8201) {s : State} {x_s : State} {x_b : Bay} {x_on : Bool} (h_x_s : Kept m s x_s) : Kept m s (State.rollPause x_s x_b x_on) := by
  unfold State.rollPause
  repeat' first
    | (with_reducible first | assumption | exact Kept.refl _)
    | exact sub_trans (b := 8201) (by decide) hm
    | (intro x_1; refine (fun hx : Kept m s x_1 => ?_) ?_; (clear_value x_1); rotate_left; (unfold x_1))
    | (intro x_1; clear_value x_1)
    | intro _
    | (with_reducible first | apply State.setO_kept | apply State.ok_kept | apply State.rollHold_kept | apply Kept.ite)
    | lift_lets -underBinder

theorem State.rollEnable_kept {m : Nat} (hm : 8457 &&& m = 8457) {s : State} {x_s : State} {x_b : Bay} {x_on : Bool} (h_x_s : Kept m s x_s) : Kept m s (State.rollEnable x_s x_b x_on) := by
  unfold State.rollEnable
  repeat' first
    | (with_reducible first | assumption | exact Kept.refl _)
    | exact sub_trans (b := 8457) (by decide) hm
    | (intro x_1; refine (fun hx : Kept m s x_1 => ?_) ?_; (clear_value x_1); rotate_left; (unfold x_1))
    | (intro x_1; clear_value x_1)
    | intro _
    | (with_reducible first | apply State.answerD_kept | apply State.ok_kept | apply State.setO_kept | apply State.startRounds_kept | apply State.claimSpare_kept | apply State.rollHold_kept | apply State.freeClaim_kept | exact KeptO.none | apply KeptO.some | apply KeptO.ite | apply Kept.ite)
    | lift_lets -underBinder
    | split
    | (refine Kept.upd ?_ ?_)

theorem State.manualTarget_kept {m : Nat} (hm : 8457 &&& m = 8457) {s : State} {x_s : State} {x_b : Bay} {x_v : Nat} (h_x_s : Kept m s x_s) : Kept m s (State.manualTarget x_s x_b x_v) := by
  unfold State.manualTarget
  repeat' first
    | (with_reducible first | assumption | exact Kept.refl _)
    | exact sub_trans (b := 8457) (by decide) hm
    | (intro x_1; refine (fun hx : Kept m s x_1 => ?_) ?_; (clear_value x_1); rotate_left; (unfold x_1))
    | (intro x_1; clear_value x_1)
    | intro _
    | (with_reducible first | apply State.answer_kept | apply State.ok_kept | apply State.setO_kept | apply State.answerD_kept | apply State.modRoll_kept | apply State.freeClaim_kept | apply State.claimSpare_kept | exact KeptO.none | apply KeptO.some | apply KeptO.ite | apply Kept.ite | apply Kept.dite)
    | lift_lets -underBinder
    | split
    | (refine Kept.upd ?_ ?_)

theorem State.storeRecord_kept {m : Nat} (hm : 67117056 &&& m = 67117056) {s : State} {x_s : State} {x_kind : Nat} {x_b : Bay} (h_x_s : Kept m s x_s) : Kept m s (State.storeRecord x_s x_kind x_b) := by
  unfold State.storeRecord
  repeat' first
    | (with_reducible first | assumption | exact Kept.refl _)
    | exact sub_trans (b := 67117056) (by decide) hm
    | (intro x_1; refine (fun hx : Kept m s x_1 => ?_) ?_; (clear_value x_1); rotate_left; (unfold x_1))
    | (intro x_1; clear_value x_1)
    | (intro p; cases p <;> first | exact Or.inl (bit_of (a := 67117056) hm rfl) | exact Or.inr rfl)
    | intro _
    | (with_reducible first | apply State.ledgerPut_kept | apply State.modRoll_kept | exact KeptO.none | apply KeptO.some | apply KeptO.ite | apply Kept.ite)
    | lift_lets -underBinder
    | split
    | (refine Kept.upd ?_ ?_)

theorem State.assayCommit_kept {m : Nat} (hm : 203857933 &&& m = 203857933) {s : State} {x_s : State} {x_kind : Nat} {x_unit : Nat} {x_m : Sample} (h_x_s : Kept m s x_s) : Kept m s (State.assayCommit x_s x_kind x_unit x_m) := by
  unfold State.assayCommit
  repeat' first
    | (with_reducible first | assumption | exact Kept.refl _)
    | exact sub_trans (b := 203857933) (by decide) hm
    | (intro x_1; refine (fun hx : Kept m s x_1 => ?_) ?_; (clear_value x_1); rotate_left; (unfold x_1))
    | (intro x_1; clear_value x_1)
    | (intro p; cases p <;> first | exact Or.inl (bit_of (a := 203857933) hm rfl) | exact Or.inr rfl)
    | intro _
    | (with_reducible first | apply State.innerCommit_kept | apply State.ledgerWrite_kept | apply State.storeRecord_kept | apply State.setO_kept | exact KeptO.none | apply KeptO.some | apply KeptO.ite | apply Kept.ite | apply Kept.dite)
    | lift_lets -underBinder
    | (refine Kept.upd ?_ ?_)

theorem State.ledgerCommit_kept {m : Nat} (hm : 203857933 &&& m = 203857933) {s : State} {x_s : State} {x_m : Sample} (h_x_s : Kept m s x_s) : Kept m s (State.ledgerCommit x_s x_m) := by
  unfold State.ledgerCommit
  repeat' first
    | (with_reducible first | assumption | exact Kept.refl _)
    | exact sub_trans (b := 203857933) (by decide) hm
    | (intro p; cases p <;> first | exact Or.inl (bit_of (a := 203857933) hm rfl) | exact Or.inr rfl)
    | with_reducible apply State.assayCommit_kept
    | split
    | (refine Kept.upd ?_ ?_)

theorem State.ledgerInterval_kept {m : Nat} (hm : 134217730 &&& m = 134217730) {s : State} {x_s : State} {x_b : Bay} (h_x_s : Kept m s x_s) : Kept m s (State.ledgerInterval x_s x_b) := by
  unfold State.ledgerInterval
  repeat' first
    | (with_reducible first | assumption | exact Kept.refl _)
    | exact sub_trans (b := 134217730) (by decide) hm
    | (intro x_1; refine (fun hx : Kept m s x_1 => ?_) ?_; (clear_value x_1); rotate_left; (unfold x_1))
    | (intro x_1; clear_value x_1)
    | (intro p; cases p <;> first | exact Or.inl (bit_of (a := 134217730) hm rfl) | exact Or.inr rfl)
    | intro _
    | (with_reducible first | apply State.advance_kept | apply Kept.ite)
    | lift_lets -underBinder
    | (refine Kept.upd ?_ ?_)

theorem State.ledgerRetried_kept {m : Nat} (hm : 134217730 &&& m = 134217730) {s : State} {x_s : State} (h_x_s : Kept m s x_s) : Kept m s (State.ledgerRetried x_s) := by
  unfold State.ledgerRetried
  repeat' first
    | (with_reducible first | assumption | exact Kept.refl _)
    | exact sub_trans (b := 134217730) (by decide) hm
    | (intro x_1; refine (fun hx : Kept m s x_1 => ?_) ?_; (clear_value x_1); rotate_left; (unfold x_1))
    | (intro x_1; clear_value x_1)
    | (intro p; cases p <;> first | exact Or.inl (bit_of (a := 134217730) hm rfl) | exact Or.inr rfl)
    | intro _
    | (with_reducible first | apply State.advance_kept | exact KeptO.none | apply KeptO.some | apply KeptO.ite)
    | lift_lets -underBinder
    | split
    | (refine Kept.upd ?_ ?_)

theorem State.tmuAssay_kept {m : Nat} (hm : 8192 &&& m = 8192) {s : State} {x_s : State} {x_b : Bay} (h_x_s : Kept m s x_s) : Kept m s (State.tmuAssay x_s x_b) := by
  unfold State.tmuAssay
  repeat' first
    | (with_reducible first | assumption | exact Kept.refl _)
    | exact sub_trans (b := 8192) (by decide) hm
    | intro _
    | (with_reducible first | apply State.modTmu_kept | apply Kept.ite)
    | (refine Kept.upd ?_ ?_)

theorem State.tmuAssayed_kept {m : Nat} (hm : 8204 &&& m = 8204) {s : State} {x_s : State} {x_b : Bay} {x_residual : Nat} (h_x_s : Kept m s x_s) : Kept m s (State.tmuAssayed x_s x_b x_residual) := by
  unfold State.tmuAssayed
  repeat' first
    | (with_reducible first | assumption | exact Kept.refl _)
    | exact sub_trans (b := 8204) (by decide) hm
    | (intro x_1; refine (fun hx : Kept m s x_1 => ?_) ?_; (clear_value x_1); rotate_left; (unfold x_1))
    | (intro x_1; clear_value x_1)
    | (intro p; cases p <;> first | exact Or.inl (bit_of (a := 8204) hm rfl) | exact Or.inr rfl)
    | intro _
    | (with_reducible first | apply State.modTmu_kept | apply State.setB_kept | exact KeptO.none | apply KeptO.some | apply KeptO.ite | apply Kept.ite)
    | lift_lets -underBinder
    | (refine Kept.updFresh ?_ ?_)
    | (refine Kept.upd ?_ ?_)

theorem State.bayAssay_kept {m : Nat} (hm : 8201 &&& m = 8201) {s : State} {x_s : State} {x_b : Bay} (h_x_s : Kept m s x_s) : Kept m s (State.bayAssay x_s x_b) := by
  unfold State.bayAssay
  repeat' first
    | (with_reducible first | assumption | exact Kept.refl _)
    | exact sub_trans (b := 8201) (by decide) hm
    | (with_reducible first | apply State.answer_kept | apply State.ok_kept | apply State.tmuAssay_kept | apply State.setO_kept | apply Kept.ite)

theorem State.assayChan_kept {m : Nat} (hm : 32776 &&& m = 32776) {s : State} {x_s : State} {x_b : Bay} {x_k : Fin 16} {x_r : BayAssayResult} (h_x_s : Kept m s x_s) : Kept m s (State.assayChan x_s x_b x_k x_r) := by
  unfold State.assayChan
  repeat' first
    | (with_reducible first | assumption | exact Kept.refl _)
    | exact sub_trans (b := 32776) (by decide) hm
    | (intro x_1; refine (fun hx : Kept m s x_1 => ?_) ?_; (clear_value x_1); rotate_left; (unfold x_1))
    | (intro x_1; clear_value x_1)
    | intro _
    | (with_reducible first | apply State.each_kept | apply State.calibrated_kept | apply State.setResid_kept | apply State.loadPath_kept | apply State.setC_kept | apply Kept.ite)
    | lift_lets -underBinder

theorem State.refLevels_kept {m : Nat} (hm : 8196 &&& m = 8196) {s : State} {x_s : State} {x_b : Bay} (h_x_s : Kept m s x_s) : Kept m s (State.refLevels x_s x_b) := by
  unfold State.refLevels
  repeat' first
    | (with_reducible first | assumption | exact Kept.refl _)
    | exact sub_trans (b := 8196) (by decide) hm
    | (intro p; cases p <;> first | exact Or.inl (bit_of (a := 8196) hm rfl) | exact Or.inr rfl)
    | intro _
    | (with_reducible first | apply State.modRef_kept)
    | (refine Kept.updFresh ?_ ?_)
    | (refine Kept.upd ?_ ?_)

theorem State.bayAssayed_kept {m : Nat} (hm : 203874317 &&& m = 203874317) {s : State} {x_s : State} {x_b : Bay} {x_r : BayAssayResult} {x_m : Sample} (h_x_s : Kept m s x_s) : Kept m s (State.bayAssayed x_s x_b x_r x_m) := by
  unfold State.bayAssayed
  repeat' first
    | (with_reducible first | assumption | exact Kept.refl _)
    | exact sub_trans (b := 203874317) (by decide) hm
    | (intro x_1; refine (fun hx : Kept m s x_1 => ?_) ?_; (clear_value x_1); rotate_left; (unfold x_1))
    | (intro x_1; clear_value x_1)
    | (intro p; cases p <;> first | exact Or.inl (bit_of (a := 203874317) hm rfl) | exact Or.inr rfl)
    | intro _
    | (with_reducible first | apply State.each_kept | apply State.assayChan_kept | apply State.setB_kept | apply State.refLevels_kept | apply State.showWorst_kept | apply State.unresolve_kept | apply State.setO_kept | apply State.assayCommit_kept | apply Kept.ite)
    | lift_lets -underBinder
    | split
    | dsimp only
    | (refine Kept.upd ?_ ?_)

theorem State.windowTemp_kept {m : Nat} (hm : 409612 &&& m = 409612) {s : State} {x_s : State} {x_b : Bay} {x_temp : Int} (h_x_s : Kept m s x_s) : Kept m s (State.windowTemp x_s x_b x_temp) := by
  unfold State.windowTemp
  repeat' first
    | (with_reducible first | assumption | exact Kept.refl _)
    | exact sub_trans (b := 409612) (by decide) hm
    | (intro x_1; refine (fun hx : Kept m s x_1 => ?_) ?_; (clear_value x_1); rotate_left; (unfold x_1))
    | (intro x_1; clear_value x_1)
    | intro _
    | (with_reducible first | apply State.modDie_kept | apply State.setO_kept | apply State.occur_kept | apply Kept.ite)
    | lift_lets -underBinder
    | (refine Kept.upd ?_ ?_)

theorem State.purlinAssay_kept {m : Nat} (hm : 9 &&& m = 9) {s : State} {x_s : State} (h_x_s : Kept m s x_s) : Kept m s (State.purlinAssay x_s) := by
  unfold State.purlinAssay
  repeat' first
    | (with_reducible first | assumption | exact Kept.refl _)
    | exact sub_trans (b := 9) (by decide) hm
    | intro _
    | (with_reducible first | apply State.answer_kept | apply State.setO_kept | apply State.ok_kept | apply Kept.ite)

theorem State.purlinDone_kept {m : Nat} (hm : 32780 &&& m = 32780) {s : State} {x_s : State} {x_hops : List Nat} (h_x_s : Kept m s x_s) : Kept m s (State.purlinDone x_s x_hops) := by
  unfold State.purlinDone
  repeat' first
    | (with_reducible first | assumption | exact Kept.refl _)
    | exact sub_trans (b := 32780) (by decide) hm
    | intro _
    | (with_reducible first | apply State.fault_kept | apply State.setO_kept | apply State.free_kept | refine State.free_kept_eq ?_ ?_ (by assumption) | exact KeptO.none | apply KeptO.some | apply KeptO.ite | apply Kept.ite | apply Kept.ite2)
    | split
    | dsimp only
    | (refine Kept.upd ?_ ?_)

theorem execRollStep_kept {m : Nat} (hm : 8458 &&& m = 8458) {s : State} {x_b : Bay} {x_s : State} (h_x_s : Kept m s x_s) : KeptN m s (execRollStep x_b x_s) := by
  unfold execRollStep
  repeat' first
    | (with_reducible first | assumption | exact Kept.refl _)
    | exact sub_trans (b := 8458) (by decide) hm
    | (with_reducible first | apply State.rollStep_kept | apply KeptN.next | apply KeptN.ite)

theorem execHandover_kept {m : Nat} (hm : 41224 &&& m = 41224) {s : State} {x_b : Bay} {x_codesEqual : Bool} {x_clear : Bool} {x_s : State} (h_x_s : Kept m s x_s) : KeptN m s (execHandover x_b x_codesEqual x_clear x_s) := by
  unfold execHandover
  repeat' first
    | (with_reducible first | assumption | exact Kept.refl _)
    | exact sub_trans (b := 41224) (by decide) hm
    | (with_reducible first | apply State.handover_kept | apply KeptN.next | apply KeptN.ite)

theorem execPathCalibrated_kept {m : Nat} (hm : 41224 &&& m = 41224) {s : State} {x_b : Bay} {x_m : PathMeas} {x_s : State} (h_x_s : Kept m s x_s) : KeptN m s (execPathCalibrated x_b x_m x_s) := by
  unfold execPathCalibrated
  repeat' first
    | (with_reducible first | assumption | exact Kept.refl _)
    | exact sub_trans (b := 41224) (by decide) hm
    | (with_reducible first | apply State.pathCalibrated_kept | apply KeptN.next | apply KeptN.ite)

theorem execHandoverTimeout_kept {m : Nat} (hm : 8458 &&& m = 8458) {s : State} {x_b : Bay} {x_s : State} (h_x_s : Kept m s x_s) : KeptN m s (execHandoverTimeout x_b x_s) := by
  unfold execHandoverTimeout
  repeat' first
    | (with_reducible first | assumption | exact Kept.refl _)
    | exact sub_trans (b := 8458) (by decide) hm
    | (with_reducible first | apply State.handTimeout_kept | apply KeptN.next | apply KeptN.ite)

theorem execRollPause_kept {m : Nat} (hm : 8201 &&& m = 8201) {s : State} {x_b : Bay} {x_on : Bool} {x_s : State} (h_x_s : Kept m s x_s) : KeptN m s (execRollPause x_b x_on x_s) := by
  unfold execRollPause
  repeat' first
    | (with_reducible first | assumption | exact Kept.refl _)
    | exact sub_trans (b := 8201) (by decide) hm
    | intro _
    | (with_reducible first | apply State.hostModule_kept | apply State.rollPause_kept | apply KeptN.next | apply KeptN.ite)

theorem execRollEnable_kept {m : Nat} (hm : 8457 &&& m = 8457) {s : State} {x_b : Bay} {x_on : Bool} {x_s : State} (h_x_s : Kept m s x_s) : KeptN m s (execRollEnable x_b x_on x_s) := by
  unfold execRollEnable
  repeat' first
    | (with_reducible first | assumption | exact Kept.refl _)
    | exact sub_trans (b := 8457) (by decide) hm
    | intro _
    | (with_reducible first | apply State.hostModule_kept | apply State.rollEnable_kept | apply KeptN.next | apply KeptN.ite)

theorem execManualTarget_kept {m : Nat} (hm : 8457 &&& m = 8457) {s : State} {x_b : Bay} {x_target : BitVec 8} {x_s : State} (h_x_s : Kept m s x_s) : KeptN m s (execManualTarget x_b x_target x_s) := by
  unfold execManualTarget
  repeat' first
    | (with_reducible first | assumption | exact Kept.refl _)
    | exact sub_trans (b := 8457) (by decide) hm
    | intro _
    | (with_reducible first | apply State.hostModule_kept | apply State.manualTarget_kept | apply KeptN.next | apply KeptN.ite)

theorem execBayAssayRequest_kept {m : Nat} (hm : 8201 &&& m = 8201) {s : State} {x_b : Bay} {x_s : State} (h_x_s : Kept m s x_s) : KeptN m s (execBayAssayRequest x_b x_s) := by
  unfold execBayAssayRequest
  repeat' first
    | (with_reducible first | assumption | exact Kept.refl _)
    | exact sub_trans (b := 8201) (by decide) hm
    | intro _
    | (with_reducible first | apply State.hostModule_kept | apply State.bayAssay_kept | apply KeptN.next | apply KeptN.ite)

theorem execBayAssayComplete_kept {m : Nat} (hm : 203874317 &&& m = 203874317) {s : State} {x_b : Bay} {x_r : BayAssayResult} {x_smp : Sample} {x_s : State} (h_x_s : Kept m s x_s) : KeptN m s (execBayAssayComplete x_b x_r x_smp x_s) := by
  unfold execBayAssayComplete
  repeat' first
    | (with_reducible first | assumption | exact Kept.refl _)
    | exact sub_trans (b := 203874317) (by decide) hm
    | (with_reducible first | apply State.bayAssayed_kept | apply KeptN.next | apply KeptN.ite)

theorem execTmuAssay_kept {m : Nat} (hm : 8192 &&& m = 8192) {s : State} {x_b : Bay} {x_s : State} (h_x_s : Kept m s x_s) : KeptN m s (execTmuAssay x_b x_s) := by
  unfold execTmuAssay
  repeat' first
    | (with_reducible first | assumption | exact Kept.refl _)
    | exact sub_trans (b := 8192) (by decide) hm
    | (with_reducible first | apply State.tmuAssay_kept | apply KeptN.next | apply KeptN.ite)

theorem execTmuAssayComplete_kept {m : Nat} (hm : 8204 &&& m = 8204) {s : State} {x_b : Bay} {x_residual : BitVec 32} {x_s : State} (h_x_s : Kept m s x_s) : KeptN m s (execTmuAssayComplete x_b x_residual x_s) := by
  unfold execTmuAssayComplete
  repeat' first
    | (with_reducible first | assumption | exact Kept.refl _)
    | exact sub_trans (b := 8204) (by decide) hm
    | (with_reducible first | apply State.tmuAssayed_kept | apply KeptN.next | apply KeptN.ite)

theorem execPurlinAssay_kept {m : Nat} (hm : 9 &&& m = 9) {s : State} {x_s : State} (h_x_s : Kept m s x_s) : KeptN m s (execPurlinAssay x_s) := by
  unfold execPurlinAssay
  repeat' first
    | (with_reducible first | assumption | exact Kept.refl _)
    | exact sub_trans (b := 9) (by decide) hm
    | (with_reducible first | apply State.hostModule_kept | apply State.purlinAssay_kept | apply KeptN.next | apply KeptN.ite)

theorem execPurlinAssayComplete_kept {m : Nat} (hm : 32780 &&& m = 32780) {s : State} {x_hopsPs : List Nat} {x_s : State} (h_x_s : Kept m s x_s) : KeptN m s (execPurlinAssayComplete x_hopsPs x_s) := by
  unfold execPurlinAssayComplete
  repeat' first
    | (with_reducible first | assumption | exact Kept.refl _)
    | exact sub_trans (b := 32780) (by decide) hm
    | (with_reducible first | apply State.purlinDone_kept | apply KeptN.next | apply KeptN.ite)

theorem execAssayWindow_kept {m : Nat} (hm : 409612 &&& m = 409612) {s : State} {x_b : Bay} {x_temp : Int} {x_s : State} (h_x_s : Kept m s x_s) : KeptN m s (execAssayWindow x_b x_temp x_s) := by
  unfold execAssayWindow
  repeat' first
    | (with_reducible first | assumption | exact Kept.refl _)
    | exact sub_trans (b := 409612) (by decide) hm
    | (with_reducible first | apply State.windowTemp_kept | apply KeptN.next | apply KeptN.ite)

theorem execLedgerCommit_kept {m : Nat} (hm : 203857933 &&& m = 203857933) {s : State} {x_smp : Sample} {x_s : State} (h_x_s : Kept m s x_s) : KeptN m s (execLedgerCommit x_smp x_s) := by
  unfold execLedgerCommit
  repeat' first
    | (with_reducible first | assumption | exact Kept.refl _)
    | exact sub_trans (b := 203857933) (by decide) hm
    | (with_reducible first | apply State.ledgerCommit_kept | apply KeptN.next | apply KeptN.ite)

theorem execLedgerIntervalExpiry_kept {m : Nat} (hm : 134217730 &&& m = 134217730) {s : State} {x_b : Bay} {x_s : State} (h_x_s : Kept m s x_s) : KeptN m s (execLedgerIntervalExpiry x_b x_s) := by
  unfold execLedgerIntervalExpiry
  repeat' first
    | (with_reducible first | assumption | exact Kept.refl _)
    | exact sub_trans (b := 134217730) (by decide) hm
    | (with_reducible first | apply State.ledgerInterval_kept | apply KeptN.next | apply KeptN.ite)

theorem execLedgerRetry_kept {m : Nat} (hm : 134217730 &&& m = 134217730) {s : State} {x_s : State} (h_x_s : Kept m s x_s) : KeptN m s (execLedgerRetry x_s) := by
  unfold execLedgerRetry
  repeat' first
    | (with_reducible first | assumption | exact Kept.refl _)
    | exact sub_trans (b := 134217730) (by decide) hm
    | (with_reducible first | apply State.ledgerRetried_kept | apply KeptN.next | apply KeptN.ite)

end Sys2Proof.Machine
end

