-- ==== Sys2Proof/Laws/KeptReset.lean ====
section
/-! SUPPORT. What the operations of Machine/Reset.lean keep. -/

set_option linter.all false

namespace Sys2Proof.Machine

theorem State.base_kept {m : Nat} (hm : 2147483647 &&& m = 2147483647) {s : State} {x_s : State} (h_x_s : Kept m s x_s) : Kept m s (State.base x_s) :=
  ⟨h_x_s.pending, h_x_s.now, h_x_s.fresh, fun _ => rfl, fun w => ⟨Nat.zero_le _, (h_x_s.sizes w).log, (fun _ h => nomatch h), fun i x e => by
    change (Vector.replicate 16 (none : Option Session))[i.val] = some x at e
    rw [Vector.getElem_replicate] at e; cases e⟩,
    fun p hf => by
      have : m.testBit p.idx = true := by cases p <;> exact bit_of (a := 2147483647) hm rfl
      rw [hf] at this; cases this⟩

theorem State.coldReset_kept {m : Nat} (hm : 2147483647 &&& m = 2147483647) {s : State} {x_s : State} (h_x_s : Kept m s x_s) : Kept m s (State.coldReset x_s) := by
  unfold State.coldReset
  repeat' first
    | (with_reducible first | assumption | exact Kept.refl _)
    | exact sub_trans (b := 2147483647) (by decide) hm
    | (intro x_1; refine (fun hx : Kept m s x_1 => ?_) ?_; (clear_value x_1); rotate_left; (unfold x_1))
    | (intro x_1; clear_value x_1)
    | (intro p; cases p <;> first | exact Or.inl (bit_of (a := 2147483647) hm rfl) | exact Or.inr rfl)
    | intro _
    | (with_reducible first | apply State.base_kept | apply State.setO_kept | apply State.each_kept | apply State.showClear_kept)
    | lift_lets -underBinder
    | dsimp only
    | (refine Kept.upd ?_ ?_)

theorem State.warmReset_kept {m : Nat} (hm : 2147483647 &&& m = 2147483647) {s : State} {x_s : State} {x_cause : Nat} (h_x_s : Kept m s x_s) : Kept m s (State.warmReset x_s x_cause) := by
  unfold State.warmReset
  lift_lets -underBinder
  intro stage b b2
  have h0 : Kept m s b2 := ⟨h_x_s.pending, h_x_s.now, h_x_s.fresh, h_x_s.mem, fun w => ⟨Nat.zero_le _, (h_x_s.sizes w).log,
    fun e he => (h_x_s.sizes w).ports e (List.mem_filter.mp he).1, fun i x e => by
      change (Vector.replicate 16 (none : Option Session))[i.val] = some x at e
      rw [Vector.getElem_replicate] at e; cases e⟩,
    fun p hf => by
      have : m.testBit p.idx = true := by cases p <;> exact bit_of (a := 2147483647) hm rfl
      rw [hf] at this; cases this⟩
  clear_value b2
  repeat' first
    | with_reducible assumption
    | exact sub_trans (b := 2147483647) (by decide) hm
    | (intro x_1; refine (fun hx : Kept m s x_1 => ?_) ?_; (clear_value x_1); rotate_left; (unfold x_1))
    | intro _
    | with_reducible apply State.setO_kept
    | with_reducible apply State.each_kept
    | with_reducible apply State.assertClear_kept
    | with_reducible apply State.modDie_kept
    | with_reducible apply State.inhibitBay_kept
    | with_reducible apply State.zeroSlots_kept
    | lift_lets -underBinder

end Sys2Proof.Machine
end

