-- ==== Sys2Proof/Laws/KeptFaultCollector.lean ====
section
/-! SUPPORT. What the operations of Machine/FaultCollector.lean keep. -/

set_option linter.all false

namespace Sys2Proof.Machine

theorem State.modRec_kept {m : Nat} (hm : 65536 &&& m = 65536) {s : State} {x_s : State} {x_seq : Nat} {x_f : FaultRec → FaultRec} (h_x_s : Kept m s x_s) :
    Kept m s (State.modRec x_s x_seq x_f) := by
  unfold State.modRec
  refine Kept.updLog h_x_s (fun w => by rw [List.length_map]; exact w) ?_
  intro p; cases p <;> first | exact Or.inl (bit_of (a := 65536) hm rfl) | exact Or.inr rfl

theorem State.archive_kept {m : Nat} (hm : 2588681 &&& m = 2588681) {s : State} {x_s : State} {x_m : Sample} (h_x_s : Kept m s x_s) : Kept m s (State.archive x_s x_m) := by
  unfold State.archive
  repeat' first
    | (with_reducible first | assumption | exact Kept.refl _)
    | exact sub_trans (b := 2588681) (by decide) hm
    | (intro x_1; refine (fun hx : Kept m s x_1 => ?_) ?_; (clear_value x_1); rotate_left; (unfold x_1))
    | (intro x_1; clear_value x_1)
    | (intro p; cases p <;> first | exact Or.inl (bit_of (a := 2588681) hm rfl) | exact Or.inr rfl)
    | intro _
    | (with_reducible first | apply State.innerCommit_kept | exact KeptO.none | apply KeptO.some | apply KeptO.ite | apply Kept.ite)
    | lift_lets -underBinder
    | (refine Kept.upd ?_ ?_)

theorem State.openRec_kept {m : Nat} (hm : 2588681 &&& m = 2588681) {s : State} {x_s : State} {x_r : FaultRec} {x_m : Sample} (h_x_s : Kept m s x_s) :
    Kept m s (State.openRec x_s x_r x_m) := by
  unfold State.openRec
  extract_lets a b c d
  have ha : Kept m s a := State.setO_kept (sub_trans (b := 2588681) (by decide) hm) h_x_s
  have hb : Kept m s b := Kept.ite ha (State.incO_kept (sub_trans (b := 2588681) (by decide) hm) ha)
  have hc : Kept m s c := by
    refine Kept.updLog hb (fun _ => ?_) ?_
    · rw [List.length_append]
      have := lastN_length (logSize - 1) b.log
      have e : logSize - 1 = 1535 := rfl
      rw [e] at this
      simp only [List.length_cons, List.length_nil, e]; omega
    · intro p; cases p <;> first | exact Or.inl (bit_of (a := 2588681) hm rfl) | exact Or.inr rfl
  have hd : Kept m s d := Kept.ite (State.event_kept (sub_trans (b := 2588681) (by decide) hm) hc) hc
  exact Kept.ite (State.archive_kept (sub_trans (b := 2588681) (by decide) hm) hd) hd

theorem State.inhibitChan_kept {m : Nat} (hm : 409612 &&& m = 409612) {s : State} {x_s : State} {x_unit : Nat} (h_x_s : Kept m s x_s) : Kept m s (State.inhibitChan x_s x_unit) := by
  unfold State.inhibitChan
  repeat' first
    | (with_reducible first | assumption | exact Kept.refl _)
    | exact sub_trans (b := 409612) (by decide) hm
    | (intro x_1; refine (fun hx : Kept m s x_1 => ?_) ?_; (clear_value x_1); rotate_left; (unfold x_1))
    | (intro x_1; clear_value x_1)
    | intro _
    | (with_reducible first | apply State.latchBoth_kept | apply Kept.dite | apply Kept.ite)
    | lift_lets -underBinder
    | split
    | dsimp only

theorem State.stopSite_kept {m : Nat} (hm : 1073750024 &&& m = 1073750024) {s : State} {x_s : State} {x_i : Site} (h_x_s : Kept m s x_s) : Kept m s (State.stopSite x_s x_i) := by
  unfold State.stopSite
  repeat' first
    | (with_reducible first | assumption | exact Kept.refl _)
    | exact sub_trans (b := 1073750024) (by decide) hm
    | (intro x_1; refine (fun hx : Kept m s x_1 => ?_) ?_; (clear_value x_1); rotate_left; (unfold x_1))
    | (intro x_1; clear_value x_1)
    | intro _
    | (with_reducible first | apply State.markSite_kept | apply State.atMembers_kept | apply State.retireSoon_kept | apply State.modBay_kept | apply Kept.ite)
    | lift_lets -underBinder
    | split
    | dsimp only
    | (refine Kept.upd ?_ ?_)

theorem State.sendToken_kept {m : Nat} (hm : 65536 &&& m = 65536) {s : State} {x_s : State} {x_seq : Nat} (h_x_s : Kept m s x_s) : Kept m s (State.sendToken x_s x_seq) := by
  unfold State.sendToken
  repeat' first
    | (with_reducible first | assumption | exact Kept.refl _)
    | (intro p; cases p <;> first | exact Or.inl (bit_of (a := 65536) hm rfl) | exact Or.inr rfl)
    | (refine Kept.upd ?_ ?_)

theorem State.setInj_kept {m : Nat} (hm : 65536 &&& m = 65536) {s : State} {x_s : State} {x_k : Nat} {x_x : InjSlot} (h_x_s : Kept m s x_s) : Kept m s (State.setInj x_s x_k x_x) := by
  unfold State.setInj
  repeat' first
    | (with_reducible first | assumption | exact Kept.refl _)
    | (intro p; cases p <;> first | exact Or.inl (bit_of (a := 65536) hm rfl) | exact Or.inr rfl)
    | (refine Kept.upd ?_ ?_)

theorem State.applyStep_kept {m : Nat} (hm : 1342662444 &&& m = 1342662444) {s : State} {x_s : State} {x_m : FaultMsg} {x_seq : Nat} {x_step : Nat} (h_x_s : Kept m s x_s) : Kept m s (State.applyStep x_s x_m x_seq x_step) := by
  unfold State.applyStep
  repeat' first
    | (with_reducible first | assumption | exact Kept.refl _)
    | exact sub_trans (b := 1342662444) (by decide) hm
    | (intro x_1; refine (fun hx : Kept m s x_1 => ?_) ?_; (clear_value x_1); rotate_left; (unfold x_1))
    | (intro x_1; clear_value x_1)
    | (intro p; cases p <;> first | exact Or.inl (bit_of (a := 1342662444) hm rfl) | exact Or.inr rfl)
    | intro _
    | (with_reducible first | apply State.modRec_kept | apply State.event_kept | apply State.incO_kept | apply State.setInj_kept | apply State.sendToken_kept | apply State.inhibitChan_kept | apply State.each_kept | apply State.enterSafe_kept | apply State.stopSite_kept | apply State.enterHold_kept | exact KeptO.none | apply KeptO.some | apply KeptO.ite | apply Kept.ite)
    | lift_lets -underBinder
    | split
    | (refine Kept.upd ?_ ?_)

theorem State.allSteps_kept {m : Nat} (hm : 1342662444 &&& m = 1342662444) {s : State} {x_s : State} {x_m : FaultMsg} {x_seq : Nat} {x_p : Nat} (h_x_s : Kept m s x_s) : Kept m s (State.allSteps x_s x_m x_seq x_p) := by
  unfold State.allSteps
  repeat' first
    | (with_reducible first | assumption | exact Kept.refl _)
    | exact sub_trans (b := 1342662444) (by decide) hm
    | intro _
    | (with_reducible first | apply State.each_kept | apply State.applyStep_kept)

theorem State.setTimers_kept {m : Nat} (hm : 65544 &&& m = 65544) {s : State} {x_s : State} {x_l : List GraceTimer} (h_x_s : Kept m s x_s) : Kept m s (State.setTimers x_s x_l) := by
  unfold State.setTimers
  repeat' first
    | (with_reducible first | assumption | exact Kept.refl _)
    | exact sub_trans (b := 65544) (by decide) hm
    | (intro p; cases p <;> first | exact Or.inl (bit_of (a := 65544) hm rfl) | exact Or.inr rfl)
    | with_reducible apply State.setO_kept
    | (refine Kept.upd ?_ ?_)

theorem State.react_kept {m : Nat} (hm : 1342662444 &&& m = 1342662444) {s : State} {x_s : State} {x_m : FaultMsg} {x_seq : Nat} (h_x_s : Kept m s x_s) : Kept m s (State.react x_s x_m x_seq) := by
  unfold State.react
  repeat' first
    | (with_reducible first | assumption | exact Kept.refl _)
    | exact sub_trans (b := 1342662444) (by decide) hm
    | (intro x_1; refine (fun hx : Kept m s x_1 => ?_) ?_; (clear_value x_1); rotate_left; (unfold x_1))
    | (intro x_1; clear_value x_1)
    | intro _
    | (with_reducible first | apply State.event_kept | apply State.setTimers_kept | apply State.allSteps_kept | apply State.incO_kept | apply Kept.ite)
    | lift_lets -underBinder

theorem State.injected_kept {m : Nat} (hm : 458760 &&& m = 458760) {s : State} {x_s : State} {x_m : FaultMsg} {x_seq : Nat} (h_x_s : Kept m s x_s) : Kept m s (State.injected x_s x_m x_seq) := by
  unfold State.injected
  repeat' first
    | (with_reducible first | assumption | exact Kept.refl _)
    | exact sub_trans (b := 458760) (by decide) hm
    | (intro x_1; refine (fun hx : Kept m s x_1 => ?_) ?_; (clear_value x_1); rotate_left; (unfold x_1))
    | (intro x_1; clear_value x_1)
    | intro _
    | (with_reducible first | apply State.setInj_kept | apply State.event_kept | exact KeptO.none | apply KeptO.some | apply KeptO.ite)
    | lift_lets -underBinder
    | split
    | (refine Kept.upd ?_ ?_)

theorem State.accept_kept {m : Nat} (hm : 1344792365 &&& m = 1344792365) {s : State} {x_s : State} {x_m : FaultMsg} {x_smp : Sample} (h_x_s : Kept m s x_s) : Kept m s (State.accept x_s x_m x_smp) := by
  unfold State.accept
  repeat' first
    | (with_reducible first | assumption | exact Kept.refl _)
    | exact sub_trans (b := 1344792365) (by decide) hm
    | (intro x_1; refine (fun hx : Kept m s x_1 => ?_) ?_; (clear_value x_1); rotate_left; (unfold x_1))
    | (intro x_1; clear_value x_1)
    | intro _
    | (with_reducible first | apply State.setO_kept | apply State.injected_kept | apply State.modRec_kept | apply State.openRec_kept | apply State.react_kept | exact KeptO.none | apply KeptO.some | apply KeptO.ite | apply Kept.ite)
    | lift_lets -underBinder
    | split
    | (refine Kept.upd ?_ ?_)

theorem State.collect_kept {m : Nat} (hm : 1344792365 &&& m = 1344792365) {s : State} {x_s : State} {x_unit : Nat} {x_smp : Sample} (h_x_s : Kept m s x_s) :
    Kept m s (State.collect x_s x_unit x_smp) := by
  unfold State.collect
  refine Kept.ite h_x_s ?_
  split
  · refine State.accept_kept (sub_trans (b := 1344792365) (by decide) hm) (Kept.upd h_x_s ?_)
    intro p; cases p <;> first | exact Or.inl (bit_of (a := 1344792365) hm rfl) | exact Or.inr rfl
  · refine Kept.ite h_x_s ?_
    split
    · exact h_x_s
    · rename_i q eq
      refine State.accept_kept (sub_trans (b := 1344792365) (by decide) hm) (Kept.updPorts h_x_s (fun w e he => ?_) ?_)
      · rcases Tab.mem_set he with he | he
        · exact w e he
        · subst he
          rcases Tab.mem_of_get (t := x_s.ports) (k := x_unit) (d := ([] : List FaultMsg)) with g | g
          · rw [g] at eq; cases eq
          · rw [eq] at g; have := w _ g; simp only [List.length_cons] at this; dsimp only; omega
      · intro p; cases p <;> first | exact Or.inl (bit_of (a := 1344792365) hm rfl) | exact Or.inr rfl

theorem State.overflow_kept {m : Nat} (hm : 32768 &&& m = 32768) {s : State} {x_s : State} {x_unit : Nat} (h_x_s : Kept m s x_s) : Kept m s (State.overflow x_s x_unit) := by
  unfold State.overflow
  repeat' first
    | (with_reducible first | assumption | exact Kept.refl _)
    | exact sub_trans (b := 32768) (by decide) hm
    | (intro x_1; refine (fun hx : Kept m s x_1 => ?_) ?_; (clear_value x_1); rotate_left; (unfold x_1))
    | (intro x_1; clear_value x_1)
    | (intro p; cases p <;> first | exact Or.inl (bit_of (a := 32768) hm rfl) | exact Or.inr rfl)
    | intro _
    | (with_reducible first | apply State.fault_kept | apply Kept.ite)
    | lift_lets -underBinder
    | (refine Kept.upd ?_ ?_)

theorem State.graceOver_kept {m : Nat} (hm : 1342662446 &&& m = 1342662446) {s : State} {x_s : State} {x_unit : Nat} {x_kind : Nat} {x_inject : Bool} (h_x_s : Kept m s x_s) : Kept m s (State.graceOver x_s x_unit x_kind x_inject) := by
  unfold State.graceOver
  repeat' first
    | (with_reducible first | assumption | exact Kept.refl _)
    | exact sub_trans (b := 1342662446) (by decide) hm
    | (intro x_1; refine (fun hx : Kept m s x_1 => ?_) ?_; (clear_value x_1); rotate_left; (unfold x_1))
    | (intro x_1; clear_value x_1)
    | intro _
    | (with_reducible first | apply State.advance_kept | apply State.event_kept | apply State.modRec_kept | apply State.setTimers_kept | apply State.applyStep_kept | exact KeptO.none | apply KeptO.some | apply KeptO.ite | apply Kept.ite)
    | lift_lets -underBinder
    | split
    | (refine Kept.upd ?_ ?_)

theorem State.confirm_kept {m : Nat} (hm : 65536 &&& m = 65536) {s : State} {x_s : State} {x_seq : Nat} (h_x_s : Kept m s x_s) : Kept m s (State.confirm x_s x_seq) := by
  unfold State.confirm
  repeat' first
    | (with_reducible first | assumption | exact Kept.refl _)
    | (intro p; cases p <;> first | exact Or.inl (bit_of (a := 65536) hm rfl) | exact Or.inr rfl)
    | intro _
    | (with_reducible first | exact KeptO.none | apply KeptO.some | apply KeptO.ite)
    | split
    | (refine Kept.upd ?_ ?_)

theorem State.unconfirmed_kept {m : Nat} (hm : 65538 &&& m = 65538) {s : State} {x_s : State} {x_seq : Nat} (h_x_s : Kept m s x_s) : Kept m s (State.unconfirmed x_s x_seq) := by
  unfold State.unconfirmed
  repeat' first
    | (with_reducible first | assumption | exact Kept.refl _)
    | exact sub_trans (b := 65538) (by decide) hm
    | (intro p; cases p <;> first | exact Or.inl (bit_of (a := 65538) hm rfl) | exact Or.inr rfl)
    | intro _
    | (with_reducible first | apply State.modRec_kept | apply State.advance_kept | exact KeptO.none | apply KeptO.some | apply KeptO.ite)
    | split
    | (refine Kept.upd ?_ ?_)

theorem State.handle_kept {m : Nat} (hm : 65545 &&& m = 65545) {s : State} {x_s : State} {x_seq : Nat} (h_x_s : Kept m s x_s) : Kept m s (State.handle x_s x_seq) := by
  unfold State.handle
  repeat' first
    | (with_reducible first | assumption | exact Kept.refl _)
    | exact sub_trans (b := 65545) (by decide) hm
    | (intro x_1; refine (fun hx : Kept m s x_1 => ?_) ?_; (clear_value x_1); rotate_left; (unfold x_1))
    | (intro x_1; clear_value x_1)
    | intro _
    | (with_reducible first | apply State.answer_kept | apply State.modRec_kept | apply State.ok_kept | apply State.setTimers_kept | exact KeptO.none | apply KeptO.some | apply KeptO.ite)
    | lift_lets -underBinder
    | split
    | (refine Kept.upd ?_ ?_)

theorem State.writePolicy_kept {m : Nat} (hm : 9 &&& m = 9) {s : State} {x_s : State} {x_kind : Nat} {x_e : Nat} (h_x_s : Kept m s x_s) : Kept m s (State.writePolicy x_s x_kind x_e) := by
  unfold State.writePolicy
  repeat' first
    | (with_reducible first | assumption | exact Kept.refl _)
    | exact sub_trans (b := 9) (by decide) hm
    | (with_reducible first | apply State.answer_kept | apply State.ok_kept | apply State.setO_kept | apply Kept.ite)

theorem State.inject_kept {m : Nat} (hm : 98305 &&& m = 98305) {s : State} {x_s : State} (h_x_s : Kept m s x_s) : Kept m s (State.inject x_s) := by
  unfold State.inject
  repeat' first
    | (with_reducible first | assumption | exact Kept.refl _)
    | exact sub_trans (b := 98305) (by decide) hm
    | (intro x_1; refine (fun hx : Kept m s x_1 => ?_) ?_; (clear_value x_1); rotate_left; (unfold x_1))
    | (intro x_1; clear_value x_1)
    | (intro p; cases p <;> first | exact Or.inl (bit_of (a := 98305) hm rfl) | exact Or.inr rfl)
    | intro _
    | (with_reducible first | apply State.setInj_kept | apply State.ok_kept | apply State.send_kept | exact KeptO.none | apply KeptO.some | apply KeptO.ite)
    | lift_lets -underBinder
    | (refine Kept.upd ?_ ?_)

theorem State.logNext_kept {m : Nat} (hm : 9 &&& m = 9) {s : State} {x_s : State} (h_x_s : Kept m s x_s) : Kept m s (State.logNext x_s) := by
  unfold State.logNext
  repeat' first
    | (with_reducible first | assumption | exact Kept.refl _)
    | exact sub_trans (b := 9) (by decide) hm
    | (intro x_1; refine (fun hx : Kept m s x_1 => ?_) ?_; (clear_value x_1); rotate_left; (unfold x_1))
    | (intro x_1; clear_value x_1)
    | intro _
    | (with_reducible first | apply State.answerBody_kept | apply State.setO_kept)
    | lift_lets -underBinder

theorem State.logRecord_kept {m : Nat} (hm : 1 &&& m = 1) {s : State} {x_s : State} (h_x_s : Kept m s x_s) : Kept m s (State.logRecord x_s) := by
  unfold State.logRecord
  repeat' first
    | (with_reducible first | assumption | exact Kept.refl _)
    | exact sub_trans (b := 1) (by decide) hm
    | (with_reducible first | apply State.answerBody_kept | apply State.answer_kept | exact KeptO.none | apply KeptO.some | apply KeptO.ite)
    | split
    | (refine Kept.upd ?_ ?_)

theorem State.eventNext_kept {m : Nat} (hm : 9 &&& m = 9) {s : State} {x_s : State} (h_x_s : Kept m s x_s) : Kept m s (State.eventNext x_s) := by
  unfold State.eventNext
  repeat' first
    | (with_reducible first | assumption | exact Kept.refl _)
    | exact sub_trans (b := 9) (by decide) hm
    | (intro x_1; refine (fun hx : Kept m s x_1 => ?_) ?_; (clear_value x_1); rotate_left; (unfold x_1))
    | (intro x_1; clear_value x_1)
    | intro _
    | (with_reducible first | apply State.answerBody_kept | apply State.setO_kept)
    | lift_lets -underBinder

theorem State.keeper_kept {m : Nat} {s : State} {x_s : State} (x_k : State → State) (h_x_s : Kept m s x_s) (h_x_k : ∀ (v0 : State), Kept m s v0 → Kept m s (x_k v0)) : Kept m s (State.keeper x_s x_k) := by
  unfold State.keeper
  repeat' first
    | (with_reducible first | assumption | exact Kept.refl _ | apply h_x_k | apply Kept.ite)

theorem State.startAlive_kept {m : Nat} (hm : 268435464 &&& m = 268435464) {s : State} {x_s : State} (h_x_s : Kept m s x_s) : Kept m s (State.startAlive x_s) := by
  unfold State.startAlive
  repeat' first
    | (with_reducible first | assumption | exact Kept.refl _)
    | exact sub_trans (b := 268435464) (by decide) hm
    | (intro x_1; refine (fun hx : Kept m s x_1 => ?_) ?_; (clear_value x_1); rotate_left; (unfold x_1))
    | (intro x_1; clear_value x_1)
    | (intro p; cases p <;> first | exact Or.inl (bit_of (a := 268435464) hm rfl) | exact Or.inr rfl)
    | intro _
    | with_reducible apply State.setO_kept
    | lift_lets -underBinder
    | (refine Kept.upd ?_ ?_)

theorem State.toggle_kept {m : Nat} (hm : 268435466 &&& m = 268435466) {s : State} {x_s : State} (h_x_s : Kept m s x_s) : Kept m s (State.toggle x_s) := by
  unfold State.toggle
  repeat' first
    | (with_reducible first | assumption | exact Kept.refl _)
    | exact sub_trans (b := 268435466) (by decide) hm
    | (intro x_1; refine (fun hx : Kept m s x_1 => ?_) ?_; (clear_value x_1); rotate_left; (unfold x_1))
    | (intro x_1; clear_value x_1)
    | (intro p; cases p <;> first | exact Or.inl (bit_of (a := 268435466) hm rfl) | exact Or.inr rfl)
    | intro _
    | (with_reducible first | apply State.advance_kept | apply State.startAlive_kept | apply Kept.ite)
    | lift_lets -underBinder
    | (refine Kept.upd ?_ ?_)

theorem State.feed_kept {m : Nat} (hm : 268435464 &&& m = 268435464) {s : State} {x_s : State} (h_x_s : Kept m s x_s) : Kept m s (State.feed x_s) := by
  unfold State.feed
  repeat' first
    | (with_reducible first | assumption | exact Kept.refl _)
    | exact sub_trans (b := 268435464) (by decide) hm
    | (intro x_1; refine (fun hx : Kept m s x_1 => ?_) ?_; (clear_value x_1); rotate_left; (unfold x_1))
    | (intro x_1; clear_value x_1)
    | (intro p; cases p <;> first | exact Or.inl (bit_of (a := 268435464) hm rfl) | exact Or.inr rfl)
    | intro _
    | (with_reducible first | apply State.startAlive_kept | exact KeptO.none | apply KeptO.some | apply KeptO.ite | apply Kept.ite)
    | lift_lets -underBinder
    | (refine Kept.upd ?_ ?_)

theorem State.starve_kept {m : Nat} (hm : 268468234 &&& m = 268468234) {s : State} {x_s : State} (h_x_s : Kept m s x_s) : Kept m s (State.starve x_s) := by
  unfold State.starve
  repeat' first
    | (with_reducible first | assumption | exact Kept.refl _)
    | exact sub_trans (b := 268468234) (by decide) hm
    | (intro x_1; refine (fun hx : Kept m s x_1 => ?_) ?_; (clear_value x_1); rotate_left; (unfold x_1))
    | (intro x_1; clear_value x_1)
    | (intro p; cases p <;> first | exact Or.inl (bit_of (a := 268468234) hm rfl) | exact Or.inr rfl)
    | intro _
    | (with_reducible first | apply State.advance_kept | apply State.fault_kept | apply State.incO_kept | apply State.setO_kept | exact KeptO.none | apply KeptO.some | apply KeptO.ite)
    | lift_lets -underBinder
    | split
    | (refine Kept.upd ?_ ?_)

theorem State.junction_kept {m : Nat} (hm : 268468224 &&& m = 268468224) {s : State} {x_s : State} {x_die : Fin 8} {x_temp : Int} (h_x_s : Kept m s x_s) : Kept m s (State.junction x_s x_die x_temp) := by
  unfold State.junction
  repeat' first
    | (with_reducible first | assumption | exact Kept.refl _)
    | exact sub_trans (b := 268468224) (by decide) hm
    | (intro x_1; refine (fun hx : Kept m s x_1 => ?_) ?_; (clear_value x_1); rotate_left; (unfold x_1))
    | (intro x_1; clear_value x_1)
    | (intro p; cases p <;> first | exact Or.inl (bit_of (a := 268468224) hm rfl) | exact Or.inr rfl)
    | intro _
    | (with_reducible first | apply State.fault_kept | apply Kept.ite)
    | lift_lets -underBinder
    | (refine Kept.upd ?_ ?_)

theorem State.clockError_kept {m : Nat} (hm : 32776 &&& m = 32776) {s : State} {x_s : State} {x_ppm : Int} (h_x_s : Kept m s x_s) : Kept m s (State.clockError x_s x_ppm) := by
  unfold State.clockError
  repeat' first
    | (with_reducible first | assumption | exact Kept.refl _)
    | exact sub_trans (b := 32776) (by decide) hm
    | (intro x_1; refine (fun hx : Kept m s x_1 => ?_) ?_; (clear_value x_1); rotate_left; (unfold x_1))
    | (intro x_1; clear_value x_1)
    | intro _
    | (with_reducible first | apply State.setO_kept | apply State.fault_kept | apply Kept.ite)
    | lift_lets -underBinder

theorem State.requestHold_kept {m : Nat} (hm : 452397 &&& m = 452397) {s : State} {x_s : State} {x_p : HoldPath} {x_v : Nat} (h_x_s : Kept m s x_s) : Kept m s (State.requestHold x_s x_p x_v) := by
  unfold State.requestHold
  repeat' first
    | (with_reducible first | assumption | exact Kept.refl _)
    | exact sub_trans (b := 452397) (by decide) hm
    | (with_reducible first | apply State.answer_kept | apply State.ok_kept | apply State.enterHold_kept | apply State.fault_kept | apply Kept.ite)

theorem State.refuseExit_kept {m : Nat} (hm : 9 &&& m = 9) {s : State} {x_s : State} {x_why : Nat} (h_x_s : Kept m s x_s) : Kept m s (State.refuseExit x_s x_why) := by
  unfold State.refuseExit
  repeat' first
    | (with_reducible first | assumption | exact Kept.refl _)
    | exact sub_trans (b := 9) (by decide) hm
    | (with_reducible first | apply State.answer_kept | apply State.setO_kept)

theorem State.exitCrypto_kept {m : Nat} (hm : 16788489 &&& m = 16788489) {s : State} {x_s : State} (h_x_s : Kept m s x_s) : Kept m s (State.exitCrypto x_s) := by
  unfold State.exitCrypto
  repeat' first
    | (with_reducible first | assumption | exact Kept.refl _)
    | exact sub_trans (b := 16788489) (by decide) hm
    | (with_reducible first | apply State.refuseExit_kept | apply State.tmStart_kept)

theorem State.resume_kept {m : Nat} (hm : 268845065 &&& m = 268845065) {s : State} {x_s : State} (h_x_s : Kept m s x_s) : Kept m s (State.resume x_s) := by
  unfold State.resume
  repeat' first
    | (with_reducible first | assumption | exact Kept.refl _)
    | exact sub_trans (b := 268845065) (by decide) hm
    | (intro x_1; refine (fun hx : Kept m s x_1 => ?_) ?_; (clear_value x_1); rotate_left; (unfold x_1))
    | (intro x_1; clear_value x_1)
    | intro _
    | (with_reducible first | apply State.startAlive_kept | apply State.each_kept | apply State.releaseClear_kept | apply State.ok_kept | apply State.event_kept | apply State.setO_kept)
    | lift_lets -underBinder

theorem State.exitResume_kept {m : Nat} (hm : 285633545 &&& m = 285633545) {s : State} {x_s : State} (h_x_s : Kept m s x_s) : Kept m s (State.exitResume x_s) := by
  unfold State.exitResume
  repeat' first
    | (with_reducible first | assumption | exact Kept.refl _)
    | exact sub_trans (b := 285633545) (by decide) hm
    | (with_reducible first | apply State.answer_kept | apply State.exitCrypto_kept | apply State.refuseExit_kept | apply State.resume_kept | apply Kept.ite)

theorem State.exitRestart_kept {m : Nat} (hm : 2147483647 &&& m = 2147483647) {s : State} {x_s : State} {x_cause : Nat} (h_x_s : Kept m s x_s) : Kept m s (State.exitRestart x_s x_cause) := by
  unfold State.exitRestart
  repeat' first
    | (with_reducible first | assumption | exact Kept.refl _)
    | exact sub_trans (b := 2147483647) (by decide) hm
    | (with_reducible first | apply State.answer_kept | apply State.exitCrypto_kept | apply State.refuseExit_kept | apply State.ok_kept | apply State.warmReset_kept | apply State.event_kept | apply State.setO_kept | apply Kept.ite)

theorem execFaultMessage_kept {m : Nat} (hm : 1344792365 &&& m = 1344792365) {s : State} {x_unit : BitVec 12} {x_smp : Sample} {x_s : State} (h_x_s : Kept m s x_s) : KeptN m s (execFaultMessage x_unit x_smp x_s) := by
  unfold execFaultMessage
  repeat' first
    | (with_reducible first | assumption | exact Kept.refl _)
    | exact sub_trans (b := 1344792365) (by decide) hm
    | (with_reducible first | apply State.collect_kept | apply KeptN.next | apply KeptN.ite)

theorem execFaultOverflow_kept {m : Nat} (hm : 32768 &&& m = 32768) {s : State} {x_unit : BitVec 12} {x_s : State} (h_x_s : Kept m s x_s) : KeptN m s (execFaultOverflow x_unit x_s) := by
  unfold execFaultOverflow
  repeat' first
    | (with_reducible first | assumption | exact Kept.refl _)
    | exact sub_trans (b := 32768) (by decide) hm
    | (with_reducible first | apply State.overflow_kept | apply KeptN.next | apply KeptN.ite)

theorem execGraceExpired_kept {m : Nat} (hm : 1342662446 &&& m = 1342662446) {s : State} {x_unit : BitVec 12} {x_kind : BitVec 8} {x_inject : Bool} {x_s : State} (h_x_s : Kept m s x_s) : KeptN m s (execGraceExpired x_unit x_kind x_inject x_s) := by
  unfold execGraceExpired
  repeat' first
    | (with_reducible first | assumption | exact Kept.refl _)
    | exact sub_trans (b := 1342662446) (by decide) hm
    | intro _
    | (with_reducible first | apply State.keeper_kept | apply State.graceOver_kept | apply KeptN.next | apply KeptN.ite)

theorem execStepConfirm_kept {m : Nat} (hm : 65536 &&& m = 65536) {s : State} {x_seq : BitVec 32} {x_s : State} (h_x_s : Kept m s x_s) : KeptN m s (execStepConfirm x_seq x_s) := by
  unfold execStepConfirm
  repeat' first
    | (with_reducible first | assumption | exact Kept.refl _)
    | exact sub_trans (b := 65536) (by decide) hm
    | (with_reducible first | apply State.confirm_kept | apply KeptN.next | apply KeptN.ite)

theorem execStepUnconfirmed_kept {m : Nat} (hm : 65538 &&& m = 65538) {s : State} {x_seq : BitVec 32} {x_s : State} (h_x_s : Kept m s x_s) : KeptN m s (execStepUnconfirmed x_seq x_s) := by
  unfold execStepUnconfirmed
  repeat' first
    | (with_reducible first | assumption | exact Kept.refl _)
    | exact sub_trans (b := 65538) (by decide) hm
    | (with_reducible first | apply State.unconfirmed_kept | apply KeptN.next | apply KeptN.ite)

theorem execFaultHandle_kept {m : Nat} (hm : 65545 &&& m = 65545) {s : State} {x_seq : BitVec 32} {x_s : State} (h_x_s : Kept m s x_s) : KeptN m s (execFaultHandle x_seq x_s) := by
  unfold execFaultHandle
  repeat' first
    | (with_reducible first | assumption | exact Kept.refl _)
    | exact sub_trans (b := 65545) (by decide) hm
    | intro _
    | (with_reducible first | apply State.keeper_kept | apply State.handle_kept | apply KeptN.next | apply KeptN.ite)

theorem execPolicyWrite_kept {m : Nat} (hm : 9 &&& m = 9) {s : State} {x_kind : BitVec 8} {x_entry : BitVec 32} {x_s : State} (h_x_s : Kept m s x_s) : KeptN m s (execPolicyWrite x_kind x_entry x_s) := by
  unfold execPolicyWrite
  repeat' first
    | (with_reducible first | assumption | exact Kept.refl _)
    | exact sub_trans (b := 9) (by decide) hm
    | intro _
    | (with_reducible first | apply State.keeper_kept | apply State.writePolicy_kept | apply KeptN.next | apply KeptN.ite)

theorem execInjectGo_kept {m : Nat} (hm : 98305 &&& m = 98305) {s : State} {x_s : State} (h_x_s : Kept m s x_s) : KeptN m s (execInjectGo x_s) := by
  unfold execInjectGo
  repeat' first
    | (with_reducible first | assumption | exact Kept.refl _)
    | exact sub_trans (b := 98305) (by decide) hm
    | (with_reducible first | apply State.keeper_kept | apply State.inject_kept | apply KeptN.next | apply KeptN.ite)

theorem execFaultLogNext_kept {m : Nat} (hm : 9 &&& m = 9) {s : State} {x_s : State} (h_x_s : Kept m s x_s) : KeptN m s (execFaultLogNext x_s) := by
  unfold execFaultLogNext
  repeat' first
    | (with_reducible first | assumption | exact Kept.refl _)
    | exact sub_trans (b := 9) (by decide) hm
    | (with_reducible first | apply State.keeper_kept | apply State.logNext_kept | apply KeptN.next | apply KeptN.ite)

theorem execFaultLogRecord_kept {m : Nat} (hm : 1 &&& m = 1) {s : State} {x_s : State} (h_x_s : Kept m s x_s) : KeptN m s (execFaultLogRecord x_s) := by
  unfold execFaultLogRecord
  repeat' first
    | (with_reducible first | assumption | exact Kept.refl _)
    | exact sub_trans (b := 1) (by decide) hm
    | (with_reducible first | apply State.keeper_kept | apply State.logRecord_kept | apply KeptN.next | apply KeptN.ite)

theorem execKeeperTimeRefresh_kept {m : Nat} (hm : 1048576 &&& m = 1048576) {s : State} {x_s : State} (h_x_s : Kept m s x_s) : KeptN m s (execKeeperTimeRefresh x_s) := by
  unfold execKeeperTimeRefresh
  repeat' first
    | (with_reducible first | assumption | exact Kept.refl _)
    | (intro p; cases p <;> first | exact Or.inl (bit_of (a := 1048576) hm rfl) | exact Or.inr rfl)
    | (with_reducible first | exact KeptO.none | apply KeptO.some | apply KeptO.ite | apply KeptN.next | apply KeptN.ite | apply Kept.ite)
    | (refine Kept.upd ?_ ?_)

theorem execArchiveRetry_kept {m : Nat} (hm : 2588683 &&& m = 2588683) {s : State} {x_smp : Sample} {x_s : State} (h_x_s : Kept m s x_s) : KeptN m s (execArchiveRetry x_smp x_s) := by
  unfold execArchiveRetry
  repeat' first
    | (with_reducible first | assumption | exact Kept.refl _)
    | exact sub_trans (b := 2588683) (by decide) hm
    | (with_reducible first | apply State.archive_kept | apply State.advance_kept | exact KeptO.none | apply KeptO.some | apply KeptO.ite | apply KeptN.next | apply KeptN.ite)
    | split
    | (refine Kept.upd ?_ ?_)

theorem execEventLogNext_kept {m : Nat} (hm : 9 &&& m = 9) {s : State} {x_s : State} (h_x_s : Kept m s x_s) : KeptN m s (execEventLogNext x_s) := by
  unfold execEventLogNext
  repeat' first
    | (with_reducible first | assumption | exact Kept.refl _)
    | exact sub_trans (b := 9) (by decide) hm
    | (with_reducible first | apply State.hostModule_kept | apply State.eventNext_kept | apply KeptN.next | apply KeptN.ite)

theorem execAliveToggle_kept {m : Nat} (hm : 268435466 &&& m = 268435466) {s : State} {x_s : State} (h_x_s : Kept m s x_s) : KeptN m s (execAliveToggle x_s) := by
  unfold execAliveToggle
  repeat' first
    | (with_reducible first | assumption | exact Kept.refl _)
    | exact sub_trans (b := 268435466) (by decide) hm
    | (with_reducible first | apply State.keeper_kept | apply State.toggle_kept | apply KeptN.next | apply KeptN.ite)

theorem execWatchdogWrite_kept {m : Nat} (hm : 268435464 &&& m = 268435464) {s : State} {x_s : State} (h_x_s : Kept m s x_s) : KeptN m s (execWatchdogWrite x_s) := by
  unfold execWatchdogWrite
  repeat' first
    | (with_reducible first | assumption | exact Kept.refl _)
    | exact sub_trans (b := 268435464) (by decide) hm
    | intro _
    | (with_reducible first | apply State.keeper_kept | apply State.feed_kept | apply KeptN.next | apply KeptN.ite | apply Kept.ite)

theorem execWatchdogExpiry_kept {m : Nat} (hm : 268468234 &&& m = 268468234) {s : State} {x_s : State} (h_x_s : Kept m s x_s) : KeptN m s (execWatchdogExpiry x_s) := by
  unfold execWatchdogExpiry
  repeat' first
    | (with_reducible first | assumption | exact Kept.refl _)
    | exact sub_trans (b := 268468234) (by decide) hm
    | (with_reducible first | apply State.keeper_kept | apply State.starve_kept | apply KeptN.next | apply KeptN.ite)

theorem execHeartbeatLoss_kept {m : Nat} (hm : 268468224 &&& m = 268468224) {s : State} {x_s : State} (h_x_s : Kept m s x_s) : KeptN m s (execHeartbeatLoss x_s) := by
  unfold execHeartbeatLoss
  repeat' first
    | (with_reducible first | assumption | exact Kept.refl _)
    | exact sub_trans (b := 268468224) (by decide) hm
    | (intro p; cases p <;> first | exact Or.inl (bit_of (a := 268468224) hm rfl) | exact Or.inr rfl)
    | intro _
    | (with_reducible first | apply State.keeper_kept | apply State.fault_kept | apply KeptN.next | apply KeptN.ite | apply Kept.ite)
    | (refine Kept.upd ?_ ?_)

theorem execTemperatureAlarm_kept {m : Nat} (hm : 268468224 &&& m = 268468224) {s : State} {x_die : Fin 8} {x_temp : Int} {x_s : State} (h_x_s : Kept m s x_s) : KeptN m s (execTemperatureAlarm x_die x_temp x_s) := by
  unfold execTemperatureAlarm
  repeat' first
    | (with_reducible first | assumption | exact Kept.refl _)
    | exact sub_trans (b := 268468224) (by decide) hm
    | intro _
    | (with_reducible first | apply State.keeper_kept | apply State.junction_kept | apply KeptN.next | apply KeptN.ite)

theorem execKeeperClock_kept {m : Nat} (hm : 32776 &&& m = 32776) {s : State} {x_ppm : Int} {x_s : State} (h_x_s : Kept m s x_s) : KeptN m s (execKeeperClock x_ppm x_s) := by
  unfold execKeeperClock
  repeat' first
    | (with_reducible first | assumption | exact Kept.refl _)
    | exact sub_trans (b := 32776) (by decide) hm
    | intro _
    | (with_reducible first | apply State.keeper_kept | apply State.clockError_kept | apply KeptN.next | apply KeptN.ite)

theorem execSafeHoldRequest_kept {m : Nat} (hm : 452397 &&& m = 452397) {s : State} {x_path : HoldPath} {x_value : BitVec 16} {x_s : State} (h_x_s : Kept m s x_s) : KeptN m s (execSafeHoldRequest x_path x_value x_s) := by
  unfold execSafeHoldRequest
  repeat' first
    | (with_reducible first | assumption | exact Kept.refl _)
    | exact sub_trans (b := 452397) (by decide) hm
    | intro _
    | (with_reducible first | apply State.keeper_kept | apply State.requestHold_kept | apply KeptN.next | apply KeptN.ite)

theorem execSafeHoldExitResume_kept {m : Nat} (hm : 285633545 &&& m = 285633545) {s : State} {x_s : State} (h_x_s : Kept m s x_s) : KeptN m s (execSafeHoldExitResume x_s) := by
  unfold execSafeHoldExitResume
  repeat' first
    | (with_reducible first | assumption | exact Kept.refl _)
    | exact sub_trans (b := 285633545) (by decide) hm
    | (with_reducible first | apply State.keeper_kept | apply State.exitResume_kept | apply KeptN.next | apply KeptN.ite)

theorem execSafeHoldExitRestart_kept {m : Nat} (hm : 2147483647 &&& m = 2147483647) {s : State} {x_s : State} (h_x_s : Kept m s x_s) : KeptN m s (execSafeHoldExitRestart x_s) := by
  unfold execSafeHoldExitRestart
  repeat' first
    | (with_reducible first | assumption | exact Kept.refl _)
    | exact sub_trans (b := 2147483647) (by decide) hm
    | intro _
    | (with_reducible first | apply State.keeper_kept | apply State.exitRestart_kept | apply KeptN.next | apply KeptN.ite)

theorem execResetStepRestart_kept {m : Nat} (hm : 2147483647 &&& m = 2147483647) {s : State} {x_s : State} (h_x_s : Kept m s x_s) : KeptN m s (execResetStepRestart x_s) := by
  unfold execResetStepRestart
  repeat' first
    | (with_reducible first | assumption | exact Kept.refl _)
    | exact sub_trans (b := 2147483647) (by decide) hm
    | (intro p; cases p <;> first | exact Or.inl (bit_of (a := 2147483647) hm rfl) | exact Or.inr rfl)
    | intro _
    | (with_reducible first | apply State.keeper_kept | apply State.exitRestart_kept | apply State.advance_kept | exact KeptO.none | apply KeptO.some | apply KeptO.ite | apply KeptN.next | apply KeptN.ite)
    | split
    | (refine Kept.upd ?_ ?_)

end Sys2Proof.Machine
end

