-- ==== Sys2Proof/Laws/KeptPower.lean ====
section
/-! SUPPORT. What the operations of Machine/Power.lean keep. -/

set_option linter.all false

namespace Sys2Proof.Machine

theorem State.releaseCore_kept {m : Nat} (hm : 8 &&& m = 8) {s : State} {x_s : State} (h_x_s : Kept m s x_s) : Kept m s (State.releaseCore x_s) := by
  unfold State.releaseCore
  repeat' first
    | (with_reducible first | assumption | exact Kept.refl _)
    | exact sub_trans (b := 8) (by decide) hm
    | (with_reducible first | apply State.setO_kept | apply Kept.ite)

theorem State.supplyUp_kept {m : Nat} (hm : 268460296 &&& m = 268460296) {s : State} {x_s : State} {x_n : Nat} {x_inOrder : Bool} (h_x_s : Kept m s x_s) : Kept m s (State.supplyUp x_s x_n x_inOrder) := by
  unfold State.supplyUp
  repeat' first
    | (with_reducible first | assumption | exact Kept.refl _)
    | exact sub_trans (b := 268460296) (by decide) hm
    | (intro x_1; refine (fun hx : Kept m s x_1 => ?_) ?_; (clear_value x_1); rotate_left; (unfold x_1))
    | (intro x_1; clear_value x_1)
    | (intro p; cases p <;> first | exact Or.inl (bit_of (a := 268460296) hm rfl) | exact Or.inr rfl)
    | intro _
    | (with_reducible first | apply State.setO_kept | apply State.pinPowerUp_kept | apply State.releaseCore_kept | apply Kept.ite)
    | lift_lets -underBinder
    | split
    | dsimp only
    | (refine Kept.upd ?_ ?_)

theorem State.supplyDown_kept {m : Nat} (hm : 32776 &&& m = 32776) {s : State} {x_s : State} {x_n : Nat} (h_x_s : Kept m s x_s) : Kept m s (State.supplyDown x_s x_n) := by
  unfold State.supplyDown
  repeat' first
    | (with_reducible first | assumption | exact Kept.refl _)
    | exact sub_trans (b := 32776) (by decide) hm
    | (intro x_1; refine (fun hx : Kept m s x_1 => ?_) ?_; (clear_value x_1); rotate_left; (unfold x_1))
    | (intro x_1; clear_value x_1)
    | intro _
    | (with_reducible first | apply State.setO_kept | apply State.fault_kept | apply Kept.ite)
    | lift_lets -underBinder

theorem State.vauxLost_kept {m : Nat} (hm : 32776 &&& m = 32776) {s : State} {x_s : State} (h_x_s : Kept m s x_s) : Kept m s (State.vauxLost x_s) := by
  unfold State.vauxLost
  repeat' first
    | (with_reducible first | assumption | exact Kept.refl _)
    | exact sub_trans (b := 32776) (by decide) hm
    | (with_reducible first | apply State.fault_kept | apply State.setO_kept | apply Kept.ite)

theorem State.vauxBack_kept {m : Nat} (hm : 268435464 &&& m = 268435464) {s : State} {x_s : State} (h_x_s : Kept m s x_s) : Kept m s (State.vauxBack x_s) := by
  unfold State.vauxBack
  repeat' first
    | (with_reducible first | assumption | exact Kept.refl _)
    | exact sub_trans (b := 268435464) (by decide) hm
    | (intro x_1; refine (fun hx : Kept m s x_1 => ?_) ?_; (clear_value x_1); rotate_left; (unfold x_1))
    | (intro x_1; clear_value x_1)
    | (intro p; cases p <;> first | exact Or.inl (bit_of (a := 268435464) hm rfl) | exact Or.inr rfl)
    | intro _
    | (with_reducible first | apply State.setO_kept | apply Kept.ite)
    | lift_lets -underBinder
    | (refine Kept.upd ?_ ?_)

theorem State.nextStage_kept {m : Nat} (hm : 8 &&& m = 8) {s : State} {x_s : State} (h_x_s : Kept m s x_s) : Kept m s (State.nextStage x_s) := by
  unfold State.nextStage
  repeat' first
    | (with_reducible first | assumption | exact Kept.refl _)
    | exact sub_trans (b := 8) (by decide) hm
    | with_reducible apply State.setO_kept

theorem State.started_kept {m : Nat} (hm : 8 &&& m = 8) {s : State} {x_s : State} {x_bit : Nat} (h_x_s : Kept m s x_s) : Kept m s (State.started x_s x_bit) := by
  unfold State.started
  repeat' first
    | (with_reducible first | assumption | exact Kept.refl _)
    | exact sub_trans (b := 8) (by decide) hm
    | with_reducible apply State.setO_kept

theorem State.startCheck_kept {m : Nat} (hm : 2129928 &&& m = 2129928) {s : State} {x_s : State} {x_m : Sample} (h_x_s : Kept m s x_s) : Kept m s (State.startCheck x_s x_m) := by
  unfold State.startCheck
  repeat' first
    | (with_reducible first | assumption | exact Kept.refl _)
    | exact sub_trans (b := 2129928) (by decide) hm
    | (intro x_1; refine (fun hx : Kept m s x_1 => ?_) ?_; (clear_value x_1); rotate_left; (unfold x_1))
    | (intro x_1; clear_value x_1)
    | (intro p; cases p <;> first | exact Or.inl (bit_of (a := 2129928) hm rfl) | exact Or.inr rfl)
    | intro _
    | (with_reducible first | apply State.recordCheck_kept | apply State.started_kept | exact KeptO.none | apply KeptO.some | apply KeptO.ite | apply Kept.ite)
    | lift_lets -underBinder
    | (refine Kept.upd ?_ ?_)

theorem State.stage1_kept {m : Nat} (hm : 32776 &&& m = 32776) {s : State} {x_s : State} {x_r : StageResult} (h_x_s : Kept m s x_s) : Kept m s (State.stage1 x_s x_r) := by
  unfold State.stage1
  repeat' first
    | (with_reducible first | assumption | exact Kept.refl _)
    | exact sub_trans (b := 32776) (by decide) hm
    | (with_reducible first | apply State.nextStage_kept | apply State.fault_kept | exact KeptO.none | apply KeptO.some | apply KeptO.ite | apply Kept.ite)
    | split
    | (refine Kept.upd ?_ ?_)

theorem State.stage2_kept {m : Nat} (hm : 8 &&& m = 8) {s : State} {x_s : State} (h_x_s : Kept m s x_s) : Kept m s (State.stage2 x_s) := by
  unfold State.stage2
  repeat' first
    | (with_reducible first | assumption | exact Kept.refl _)
    | exact sub_trans (b := 8) (by decide) hm
    | (with_reducible first | apply State.nextStage_kept | apply Kept.ite)

theorem State.stage3_kept {m : Nat} (hm : 2129928 &&& m = 2129928) {s : State} {x_s : State} {x_r : StageResult} (h_x_s : Kept m s x_s) : Kept m s (State.stage3 x_s x_r) := by
  unfold State.stage3
  repeat' first
    | (with_reducible first | assumption | exact Kept.refl _)
    | exact sub_trans (b := 2129928) (by decide) hm
    | (with_reducible first | apply State.releaseCore_kept | apply State.nextStage_kept | apply State.startCheck_kept)

theorem State.stage4_kept {m : Nat} (hm : 271622152 &&& m = 271622152) {s : State} {x_s : State} {x_r : StageResult} (h_x_s : Kept m s x_s) : Kept m s (State.stage4 x_s x_r) := by
  unfold State.stage4
  repeat' first
    | (with_reducible first | assumption | exact Kept.refl _)
    | exact sub_trans (b := 271622152) (by decide) hm
    | (intro x_1; refine (fun hx : Kept m s x_1 => ?_) ?_; (clear_value x_1); rotate_left; (unfold x_1))
    | (intro x_1; clear_value x_1)
    | (intro p; cases p <;> first | exact Or.inl (bit_of (a := 271622152) hm rfl) | exact Or.inr rfl)
    | intro _
    | (with_reducible first | apply State.setO_kept | apply State.each_kept | apply State.modTmu_kept | apply State.nextStage_kept | apply State.startCheck_kept | apply Kept.ite | apply Kept.foldl)
    | lift_lets -underBinder
    | split
    | dsimp only
    | (refine Kept.upd ?_ ?_)

theorem State.runImage_kept {m : Nat} (hm : 4104 &&& m = 4104) {s : State} {x_s : State} {x_n : Fin 2} {x_i : FwImage} (h_x_s : Kept m s x_s) : Kept m s (State.runImage x_s x_n x_i) := by
  unfold State.runImage
  repeat' first
    | (with_reducible first | assumption | exact Kept.refl _)
    | exact sub_trans (b := 4104) (by decide) hm
    | (intro x_1; refine (fun hx : Kept m s x_1 => ?_) ?_; (clear_value x_1); rotate_left; (unfold x_1))
    | (intro x_1; clear_value x_1)
    | (intro p; cases p <;> first | exact Or.inl (bit_of (a := 4104) hm rfl) | exact Or.inr rfl)
    | intro _
    | (with_reducible first | apply State.setO_kept | apply State.each_kept | apply State.setB_kept | apply State.showCatalogue_kept)
    | lift_lets -underBinder
    | (refine Kept.upd ?_ ?_)

theorem State.stage5_kept {m : Nat} (hm : 423724 &&& m = 423724) {s : State} {x_s : State} {x_r : StageResult} (h_x_s : Kept m s x_s) : Kept m s (State.stage5 x_s x_r) := by
  unfold State.stage5
  repeat' first
    | (with_reducible first | assumption | exact Kept.refl _)
    | exact sub_trans (b := 423724) (by decide) hm
    | (intro x_1; refine (fun hx : Kept m s x_1 => ?_) ?_; (clear_value x_1); rotate_left; (unfold x_1))
    | (intro x_1; refine (fun hx : Kept m s x_1.2 => ?_) ?_; (clear_value x_1); rotate_left; (unfold x_1))
    | (intro x_1; clear_value x_1)
    | intro _
    | (with_reducible first | apply State.nextStage_kept | apply State.runImage_kept | apply State.started_kept | apply State.setO_kept | apply State.free_kept | refine State.free_kept_eq ?_ ?_ (by assumption) | apply State.enterHold_kept | exact KeptO.none | apply KeptO.some | apply KeptO.ite | apply Kept.ite2)
    | lift_lets -underBinder
    | split
    | dsimp only
    | (refine Kept.upd ?_ ?_)

theorem State.stage6_kept {m : Nat} (hm : 19853101 &&& m = 19853101) {s : State} {x_s : State} {x_r : StageResult} (h_x_s : Kept m s x_s) : Kept m s (State.stage6 x_s x_r) := by
  unfold State.stage6
  repeat' first
    | (with_reducible first | assumption | exact Kept.refl _)
    | exact sub_trans (b := 19853101) (by decide) hm
    | (intro x_1; refine (fun hx : Kept m s x_1 => ?_) ?_; (clear_value x_1); rotate_left; (unfold x_1))
    | (intro x_1; clear_value x_1)
    | (intro p; cases p <;> first | exact Or.inl (bit_of (a := 19853101) hm rfl) | exact Or.inr rfl)
    | intro _
    | (with_reducible first | apply State.selfTested_kept | apply State.nextStage_kept | apply Kept.ite)
    | lift_lets -underBinder
    | (refine Kept.upd ?_ ?_)

theorem State.stage7_kept {m : Nat} (hm : 536903688 &&& m = 536903688) {s : State} {x_s : State} {x_r : StageResult} (h_x_s : Kept m s x_s) : Kept m s (State.stage7 x_s x_r) := by
  unfold State.stage7
  repeat' first
    | (with_reducible first | assumption | exact Kept.refl _)
    | exact sub_trans (b := 536903688) (by decide) hm
    | (intro x_1; refine (fun hx : Kept m s x_1 => ?_) ?_; (clear_value x_1); rotate_left; (unfold x_1))
    | (intro x_1; clear_value x_1)
    | (intro p; cases p <;> first | exact Or.inl (bit_of (a := 536903688) hm rfl) | exact Or.inr rfl)
    | intro _
    | (with_reducible first | apply State.each_kept | apply State.fault_kept | apply State.nextStage_kept | apply State.setO_kept | apply State.started_kept | apply Kept.ite)
    | lift_lets -underBinder
    | (refine Kept.upd ?_ ?_)

theorem State.stage8_kept {m : Nat} (hm : 33587208 &&& m = 33587208) {s : State} {x_s : State} {x_r : StageResult} (h_x_s : Kept m s x_s) : Kept m s (State.stage8 x_s x_r) := by
  unfold State.stage8
  repeat' first
    | (with_reducible first | assumption | exact Kept.refl _)
    | exact sub_trans (b := 33587208) (by decide) hm
    | (intro x_1; refine (fun hx : Kept m s x_1 => ?_) ?_; (clear_value x_1); rotate_left; (unfold x_1))
    | (intro x_1; clear_value x_1)
    | intro _
    | (with_reducible first | apply State.each_kept | apply State.pcFails_kept | apply State.trained_kept | apply State.nextStage_kept | apply State.started_kept | apply Kept.ite)
    | lift_lets -underBinder
    | split
    | dsimp only

theorem State.loadLedger_kept {m : Nat} (hm : 8216 &&& m = 8216) {s : State} {x_s : State} {x_r : StageResult} (h_x_s : Kept m s x_s) : Kept m s (State.loadLedger x_s x_r) := by
  unfold State.loadLedger
  repeat' first
    | (with_reducible first | assumption | exact Kept.refl _)
    | exact sub_trans (b := 8216) (by decide) hm
    | (intro x_1; refine (fun hx : Kept m s x_1 => ?_) ?_; (clear_value x_1); rotate_left; (unfold x_1))
    | (intro x_1; clear_value x_1)
    | (intro p; cases p <;> first | exact Or.inl (bit_of (a := 8216) hm rfl) | exact Or.inr rfl)
    | intro _
    | (with_reducible first | apply State.started_kept | apply State.setO_kept | apply State.each_kept | apply State.flagC_kept | apply State.modTmu_kept | apply State.showRegions_kept | exact KeptO.none | apply KeptO.some | apply KeptO.ite | apply Kept.ite | apply Kept.foldl)
    | lift_lets -underBinder
    | split
    | (refine Kept.upd ?_ ?_)

theorem State.stage9_kept {m : Nat} (hm : 24600 &&& m = 24600) {s : State} {x_s : State} {x_r : StageResult} (h_x_s : Kept m s x_s) : Kept m s (State.stage9 x_s x_r) := by
  unfold State.stage9
  repeat' first
    | (with_reducible first | assumption | exact Kept.refl _)
    | exact sub_trans (b := 24600) (by decide) hm
    | (intro x_1; refine (fun hx : Kept m s x_1 => ?_) ?_; (clear_value x_1); rotate_left; (unfold x_1))
    | (intro x_1; clear_value x_1)
    | intro _
    | (with_reducible first | apply State.loadLedger_kept | apply State.nextStage_kept | apply State.each_kept | apply State.setOutputs_kept)
    | lift_lets -underBinder

theorem State.stage10_kept {m : Nat} (hm : 418088 &&& m = 418088) {s : State} {x_s : State} (h_x_s : Kept m s x_s) : Kept m s (State.stage10 x_s) := by
  unfold State.stage10
  repeat' first
    | (with_reducible first | assumption | exact Kept.refl _)
    | exact sub_trans (b := 418088) (by decide) hm
    | (intro x_1; refine (fun hx : Kept m s x_1 => ?_) ?_; (clear_value x_1); rotate_left; (unfold x_1))
    | (intro x_1; clear_value x_1)
    | intro _
    | (with_reducible first | apply State.each_kept | apply State.releaseClear_kept | apply State.nextStage_kept | apply State.leaveOff_kept)
    | lift_lets -underBinder

theorem State.stage11_kept {m : Nat} (hm : 17179660 &&& m = 17179660) {s : State} {x_s : State} (h_x_s : Kept m s x_s) : Kept m s (State.stage11 x_s) := by
  unfold State.stage11
  repeat' first
    | (with_reducible first | assumption | exact Kept.refl _)
    | exact sub_trans (b := 17179660) (by decide) hm
    | (intro x_1; refine (fun hx : Kept m s x_1 => ?_) ?_; (clear_value x_1); rotate_left; (unfold x_1))
    | (intro x_1; clear_value x_1)
    | intro _
    | (with_reducible first | apply State.setO_kept | apply State.nextStage_kept | apply State.each_kept | apply State.enableLane_kept | apply Kept.foldl)
    | lift_lets -underBinder

theorem State.stage12_kept {m : Nat} (hm : 268435464 &&& m = 268435464) {s : State} {x_s : State} (h_x_s : Kept m s x_s) : Kept m s (State.stage12 x_s) := by
  unfold State.stage12
  repeat' first
    | (with_reducible first | assumption | exact Kept.refl _)
    | exact sub_trans (b := 268435464) (by decide) hm
    | (intro x_1; refine (fun hx : Kept m s x_1 => ?_) ?_; (clear_value x_1); rotate_left; (unfold x_1))
    | (intro x_1; clear_value x_1)
    | (intro p; cases p <;> first | exact Or.inl (bit_of (a := 268435464) hm rfl) | exact Or.inr rfl)
    | intro _
    | (with_reducible first | apply State.started_kept | apply State.setO_kept | apply State.startAlive_kept | exact KeptO.none | apply KeptO.some | apply KeptO.ite)
    | lift_lets -underBinder
    | (refine Kept.upd ?_ ?_)

theorem State.stageDone_kept {m : Nat} (hm : 859766589 &&& m = 859766589) {s : State} {x_s : State} {x_r : StageResult} (h_x_s : Kept m s x_s) : Kept m s (State.stageDone x_s x_r) := by
  unfold State.stageDone
  repeat' first
    | (with_reducible first | assumption | exact Kept.refl _)
    | exact sub_trans (b := 859766589) (by decide) hm
    | (with_reducible first | apply State.stage1_kept | apply State.stage2_kept | apply State.stage3_kept | apply State.stage4_kept | apply State.stage5_kept | apply State.stage6_kept | apply State.stage7_kept | apply State.stage8_kept | apply State.stage9_kept | apply State.stage10_kept | apply State.stage11_kept | apply State.stage12_kept | apply Kept.ite)
    | split
    | (refine Kept.upd ?_ ?_)

theorem State.startLate_kept {m : Nat} (hm : 10 &&& m = 10) {s : State} {x_s : State} (h_x_s : Kept m s x_s) : Kept m s (State.startLate x_s) := by
  unfold State.startLate
  repeat' first
    | (with_reducible first | assumption | exact Kept.refl _)
    | exact sub_trans (b := 10) (by decide) hm
    | (with_reducible first | apply State.started_kept | apply State.advance_kept | apply Kept.ite)

theorem State.checkDone_kept {m : Nat} (hm : 2129928 &&& m = 2129928) {s : State} {x_s : State} {x_m : Sample} (h_x_s : Kept m s x_s) : Kept m s (State.checkDone x_s x_m) := by
  unfold State.checkDone
  repeat' first
    | (with_reducible first | assumption | exact Kept.refl _)
    | exact sub_trans (b := 2129928) (by decide) hm
    | (intro x_1; refine (fun hx : Kept m s x_1 => ?_) ?_; (clear_value x_1); rotate_left; (unfold x_1))
    | (intro x_1; clear_value x_1)
    | (intro p; cases p <;> first | exact Or.inl (bit_of (a := 2129928) hm rfl) | exact Or.inr rfl)
    | intro _
    | (with_reducible first | apply State.recordCheck_kept | exact KeptO.none | apply KeptO.some | apply KeptO.ite | apply Kept.ite)
    | lift_lets -underBinder
    | (refine Kept.upd ?_ ?_)

theorem State.refuseSwitch_kept {m : Nat} (hm : 9 &&& m = 9) {s : State} {x_s : State} {x_why : Nat} (h_x_s : Kept m s x_s) : Kept m s (State.refuseSwitch x_s x_why) := by
  unfold State.refuseSwitch
  repeat' first
    | (with_reducible first | assumption | exact Kept.refl _)
    | exact sub_trans (b := 9) (by decide) hm
    | (with_reducible first | apply State.answer_kept | apply State.setO_kept)

theorem State.requestSwitch_kept {m : Nat} (hm : 536870921 &&& m = 536870921) {s : State} {x_s : State} (h_x_s : Kept m s x_s) : Kept m s (State.requestSwitch x_s) := by
  unfold State.requestSwitch
  repeat' first
    | (with_reducible first | assumption | exact Kept.refl _)
    | exact sub_trans (b := 536870921) (by decide) hm
    | (intro p; cases p <;> first | exact Or.inl (bit_of (a := 536870921) hm rfl) | exact Or.inr rfl)
    | (with_reducible first | apply State.refuseSwitch_kept | apply State.ok_kept | apply State.setO_kept | apply Kept.ite)
    | (refine Kept.upd ?_ ?_)

theorem State.gap_kept {m : Nat} (hm : 806092808 &&& m = 806092808) {s : State} {x_s : State} {x_how : Nat} (h_x_s : Kept m s x_s) : Kept m s (State.gap x_s x_how) := by
  unfold State.gap
  repeat' first
    | (with_reducible first | assumption | exact Kept.refl _)
    | exact sub_trans (b := 806092808) (by decide) hm
    | (intro p; cases p <;> first | exact Or.inl (bit_of (a := 806092808) hm rfl) | exact Or.inr rfl)
    | (with_reducible first | apply State.feed_kept | apply State.closeSessions_kept)
    | (refine Kept.upd ?_ ?_)

theorem State.standbyIn_kept {m : Nat} (hm : 806092808 &&& m = 806092808) {s : State} {x_s : State} {x_verified : Bool} (h_x_s : Kept m s x_s) : Kept m s (State.standbyIn x_s x_verified) := by
  unfold State.standbyIn
  repeat' first
    | (with_reducible first | assumption | exact Kept.refl _)
    | exact sub_trans (b := 806092808) (by decide) hm
    | (intro p; cases p <;> first | exact Or.inl (bit_of (a := 806092808) hm rfl) | exact Or.inr rfl)
    | (with_reducible first | apply State.gap_kept | apply State.setO_kept | apply Kept.ite)
    | (refine Kept.upd ?_ ?_)

theorem State.controlFault_kept {m : Nat} (hm : 806125576 &&& m = 806125576) {s : State} {x_s : State} {x_core : Nat} (h_x_s : Kept m s x_s) : Kept m s (State.controlFault x_s x_core) := by
  unfold State.controlFault
  repeat' first
    | (with_reducible first | assumption | exact Kept.refl _)
    | exact sub_trans (b := 806125576) (by decide) hm
    | (intro x_1; refine (fun hx : Kept m s x_1 => ?_) ?_; (clear_value x_1); rotate_left; (unfold x_1))
    | (intro x_1; clear_value x_1)
    | (intro p; cases p <;> first | exact Or.inl (bit_of (a := 806125576) hm rfl) | exact Or.inr rfl)
    | intro _
    | (with_reducible first | apply State.fault_kept | apply State.gap_kept | apply State.closeSessions_kept | apply State.setO_kept | apply Kept.ite)
    | lift_lets -underBinder
    | (refine Kept.upd ?_ ?_)

theorem State.takeover_kept {m : Nat} (hm : 537268232 &&& m = 537268232) {s : State} {x_s : State} (h_x_s : Kept m s x_s) : Kept m s (State.takeover x_s) := by
  unfold State.takeover
  repeat' first
    | (with_reducible first | assumption | exact Kept.refl _)
    | exact sub_trans (b := 537268232) (by decide) hm
    | (intro x_1; refine (fun hx : Kept m s x_1 => ?_) ?_; (clear_value x_1); rotate_left; (unfold x_1))
    | (intro x_1; clear_value x_1)
    | (intro p; cases p <;> first | exact Or.inl (bit_of (a := 537268232) hm rfl) | exact Or.inr rfl)
    | intro _
    | (with_reducible first | apply State.incO_kept | apply State.setO_kept | apply State.event_kept | apply Kept.ite)
    | lift_lets -underBinder
    | (refine Kept.upd ?_ ?_)

theorem execSupplyValid_kept {m : Nat} (hm : 268460296 &&& m = 268460296) {s : State} {x_n : Fin 8} {x_inOrder : Bool} {x_s : State} (h_x_s : Kept m s x_s) : KeptN m s (execSupplyValid x_n x_inOrder x_s) := by
  unfold execSupplyValid
  repeat' first
    | (with_reducible first | assumption | exact Kept.refl _)
    | exact sub_trans (b := 268460296) (by decide) hm
    | intro _
    | (with_reducible first | apply State.keeper_kept | apply State.supplyUp_kept | apply KeptN.next | apply KeptN.ite)

theorem execSupplyTimeout_kept {m : Nat} (hm : 2 &&& m = 2) {s : State} {x_n : Fin 8} {x_s : State} (h_x_s : Kept m s x_s) : KeptN m s (execSupplyTimeout x_n x_s) := by
  unfold execSupplyTimeout
  repeat' first
    | (with_reducible first | assumption | exact Kept.refl _)
    | exact sub_trans (b := 2) (by decide) hm
    | intro _
    | (with_reducible first | apply State.keeper_kept | apply State.advance_kept | apply KeptN.next | apply KeptN.ite | apply Kept.ite)

theorem execSupplyFault_kept {m : Nat} (hm : 32776 &&& m = 32776) {s : State} {x_n : Fin 8} {x_s : State} (h_x_s : Kept m s x_s) : KeptN m s (execSupplyFault x_n x_s) := by
  unfold execSupplyFault
  repeat' first
    | (with_reducible first | assumption | exact Kept.refl _)
    | exact sub_trans (b := 32776) (by decide) hm
    | intro _
    | (with_reducible first | apply State.keeper_kept | apply State.supplyDown_kept | apply KeptN.next | apply KeptN.ite)

theorem execVauxLoss_kept {m : Nat} (hm : 32776 &&& m = 32776) {s : State} {x_s : State} (h_x_s : Kept m s x_s) : KeptN m s (execVauxLoss x_s) := by
  unfold execVauxLoss
  repeat' first
    | (with_reducible first | assumption | exact Kept.refl _)
    | exact sub_trans (b := 32776) (by decide) hm
    | (with_reducible first | apply State.keeper_kept | apply State.vauxLost_kept | apply KeptN.next | apply KeptN.ite)

theorem execVauxReturn_kept {m : Nat} (hm : 268435464 &&& m = 268435464) {s : State} {x_s : State} (h_x_s : Kept m s x_s) : KeptN m s (execVauxReturn x_s) := by
  unfold execVauxReturn
  repeat' first
    | (with_reducible first | assumption | exact Kept.refl _)
    | exact sub_trans (b := 268435464) (by decide) hm
    | (with_reducible first | apply State.keeper_kept | apply State.vauxBack_kept | apply KeptN.next | apply KeptN.ite)

theorem execHoldupDepleted_kept {m : Nat} (hm : 268435456 &&& m = 268435456) {s : State} {x_s : State} (h_x_s : Kept m s x_s) : KeptN m s (execHoldupDepleted x_s) := by
  unfold execHoldupDepleted
  repeat' first
    | (with_reducible first | assumption | exact Kept.refl _)
    | (intro p; cases p <;> first | exact Or.inl (bit_of (a := 268435456) hm rfl) | exact Or.inr rfl)
    | (with_reducible first | apply KeptN.next | apply KeptN.ite | apply Kept.ite)
    | (refine Kept.upd ?_ ?_)

theorem execPorstN_kept {m : Nat} (hm : 2147483647 &&& m = 2147483647) {s : State} {x_lowNs : Nat} {x_s : State} (h_x_s : Kept m s x_s) : KeptN m s (execPorstN x_lowNs x_s) := by
  unfold execPorstN
  repeat' first
    | (with_reducible first | assumption | exact Kept.refl _)
    | exact sub_trans (b := 2147483647) (by decide) hm
    | (with_reducible first | apply State.coldReset_kept | apply State.advance_kept | apply State.freeBit_kept | apply KeptN.next | apply KeptN.ite | apply Kept.ite | apply Kept.ite2)
    | dsimp only

theorem execSysRstN_kept {m : Nat} (hm : 2147483647 &&& m = 2147483647) {s : State} {x_lowNs : Nat} {x_s : State} (h_x_s : Kept m s x_s) : KeptN m s (execSysRstN x_lowNs x_s) := by
  unfold execSysRstN
  repeat' first
    | (with_reducible first | assumption | exact Kept.refl _)
    | exact sub_trans (b := 2147483647) (by decide) hm
    | (with_reducible first | apply State.warmReset_kept | apply State.advance_kept | apply State.freeBit_kept | apply KeptN.next | apply KeptN.ite | apply Kept.ite | apply Kept.ite2)
    | dsimp only

theorem execStartStageComplete_kept {m : Nat} (hm : 859766589 &&& m = 859766589) {s : State} {x_r : StageResult} {x_s : State} (h_x_s : Kept m s x_s) : KeptN m s (execStartStageComplete x_r x_s) := by
  unfold execStartStageComplete
  repeat' first
    | (with_reducible first | assumption | exact Kept.refl _)
    | exact sub_trans (b := 859766589) (by decide) hm
    | intro _
    | (with_reducible first | apply State.keeper_kept | apply State.stageDone_kept | apply KeptN.next | apply KeptN.ite)

theorem execRefInDetect_kept {m : Nat} (hm : 8 &&& m = 8) {s : State} {x_hz : Nat} {x_s : State} (h_x_s : Kept m s x_s) : KeptN m s (execRefInDetect x_hz x_s) := by
  unfold execRefInDetect
  repeat' first
    | (with_reducible first | assumption | exact Kept.refl _)
    | exact sub_trans (b := 8) (by decide) hm
    | intro _
    | (with_reducible first | apply State.keeper_kept | apply State.setO_kept | apply KeptN.next | apply KeptN.ite | apply Kept.ite)

theorem execRefInFault_kept {m : Nat} (hm : 32776 &&& m = 32776) {s : State} {x_absent : Bool} {x_offFrequency : Bool} {x_s : State} (h_x_s : Kept m s x_s) : KeptN m s (execRefInFault x_absent x_offFrequency x_s) := by
  unfold execRefInFault
  repeat' first
    | (with_reducible first | assumption | exact Kept.refl _)
    | exact sub_trans (b := 32776) (by decide) hm
    | intro _
    | (with_reducible first | apply State.keeper_kept | apply State.fault_kept | apply State.setO_kept | apply KeptN.next | apply KeptN.ite | apply Kept.ite)

theorem execStartTimeout_kept {m : Nat} (hm : 10 &&& m = 10) {s : State} {x_s : State} (h_x_s : Kept m s x_s) : KeptN m s (execStartTimeout x_s) := by
  unfold execStartTimeout
  repeat' first
    | (with_reducible first | assumption | exact Kept.refl _)
    | exact sub_trans (b := 10) (by decide) hm
    | (with_reducible first | apply State.keeper_kept | apply State.startLate_kept | apply KeptN.next | apply KeptN.ite)

theorem execHoldupCheckRequest_kept {m : Nat} (hm : 2097153 &&& m = 2097153) {s : State} {x_s : State} (h_x_s : Kept m s x_s) : KeptN m s (execHoldupCheckRequest x_s) := by
  unfold execHoldupCheckRequest
  repeat' first
    | (with_reducible first | assumption | exact Kept.refl _)
    | exact sub_trans (b := 2097153) (by decide) hm
    | (intro p; cases p <;> first | exact Or.inl (bit_of (a := 2097153) hm rfl) | exact Or.inr rfl)
    | intro _
    | (with_reducible first | apply State.keeper_kept | apply State.ok_kept | apply KeptN.next | apply KeptN.ite)
    | (refine Kept.upd ?_ ?_)

theorem execHoldupIntervalExpiry_kept {m : Nat} (hm : 2097154 &&& m = 2097154) {s : State} {x_s : State} (h_x_s : Kept m s x_s) : KeptN m s (execHoldupIntervalExpiry x_s) := by
  unfold execHoldupIntervalExpiry
  repeat' first
    | (with_reducible first | assumption | exact Kept.refl _)
    | exact sub_trans (b := 2097154) (by decide) hm
    | (intro x_1; refine (fun hx : Kept m s x_1 => ?_) ?_; (clear_value x_1); rotate_left; (unfold x_1))
    | (intro x_1; clear_value x_1)
    | (intro p; cases p <;> first | exact Or.inl (bit_of (a := 2097154) hm rfl) | exact Or.inr rfl)
    | intro _
    | (with_reducible first | apply State.keeper_kept | apply State.advance_kept | exact KeptO.none | apply KeptO.some | apply KeptO.ite | apply KeptN.next | apply KeptN.ite)
    | lift_lets -underBinder
    | split
    | (refine Kept.upd ?_ ?_)

theorem execHoldupCheckComplete_kept {m : Nat} (hm : 2129928 &&& m = 2129928) {s : State} {x_smp : Sample} {x_s : State} (h_x_s : Kept m s x_s) : KeptN m s (execHoldupCheckComplete x_smp x_s) := by
  unfold execHoldupCheckComplete
  repeat' first
    | (with_reducible first | assumption | exact Kept.refl _)
    | exact sub_trans (b := 2129928) (by decide) hm
    | intro _
    | (with_reducible first | apply State.keeper_kept | apply State.checkDone_kept | apply KeptN.next | apply KeptN.ite)

theorem execHoldupRecheck_kept {m : Nat} (hm : 2097154 &&& m = 2097154) {s : State} {x_s : State} (h_x_s : Kept m s x_s) : KeptN m s (execHoldupRecheck x_s) := by
  unfold execHoldupRecheck
  repeat' first
    | (with_reducible first | assumption | exact Kept.refl _)
    | exact sub_trans (b := 2097154) (by decide) hm
    | (intro p; cases p <;> first | exact Or.inl (bit_of (a := 2097154) hm rfl) | exact Or.inr rfl)
    | intro _
    | (with_reducible first | apply State.keeper_kept | apply State.advance_kept | exact KeptO.none | apply KeptO.some | apply KeptO.ite | apply KeptN.next | apply KeptN.ite)
    | split
    | (refine Kept.upd ?_ ?_)

theorem execSwitchoverRequest_kept {m : Nat} (hm : 536870921 &&& m = 536870921) {s : State} {x_s : State} (h_x_s : Kept m s x_s) : KeptN m s (execSwitchoverRequest x_s) := by
  unfold execSwitchoverRequest
  repeat' first
    | (with_reducible first | assumption | exact Kept.refl _)
    | exact sub_trans (b := 536870921) (by decide) hm
    | (with_reducible first | apply State.hostFirm_kept | apply State.requestSwitch_kept | apply KeptN.next | apply KeptN.ite)

theorem execStandbyLoaded_kept {m : Nat} (hm : 806092808 &&& m = 806092808) {s : State} {x_verified : Bool} {x_s : State} (h_x_s : Kept m s x_s) : KeptN m s (execStandbyLoaded x_verified x_s) := by
  unfold execStandbyLoaded
  repeat' first
    | (with_reducible first | assumption | exact Kept.refl _)
    | exact sub_trans (b := 806092808) (by decide) hm
    | (with_reducible first | apply State.standbyIn_kept | apply KeptN.next | apply KeptN.ite)

theorem execControlCoreFault_kept {m : Nat} (hm : 806125576 &&& m = 806125576) {s : State} {x_core : Fin 2} {x_s : State} (h_x_s : Kept m s x_s) : KeptN m s (execControlCoreFault x_core x_s) := by
  unfold execControlCoreFault
  repeat' first
    | (with_reducible first | assumption | exact Kept.refl _)
    | exact sub_trans (b := 806125576) (by decide) hm
    | (with_reducible first | apply State.controlFault_kept | apply KeptN.next | apply KeptN.ite | apply Kept.ite)

theorem execSwitchoverTakeover_kept {m : Nat} (hm : 537268232 &&& m = 537268232) {s : State} {x_s : State} (h_x_s : Kept m s x_s) : KeptN m s (execSwitchoverTakeover x_s) := by
  unfold execSwitchoverTakeover
  repeat' first
    | (with_reducible first | assumption | exact Kept.refl _)
    | exact sub_trans (b := 537268232) (by decide) hm
    | (with_reducible first | apply State.takeover_kept | apply KeptN.next | apply KeptN.ite)

theorem execStandbyRestart_kept {m : Nat} (hm : 536870920 &&& m = 536870920) {s : State} {x_s : State} (h_x_s : Kept m s x_s) : KeptN m s (execStandbyRestart x_s) := by
  unfold execStandbyRestart
  repeat' first
    | (with_reducible first | assumption | exact Kept.refl _)
    | exact sub_trans (b := 536870920) (by decide) hm
    | (intro p; cases p <;> first | exact Or.inl (bit_of (a := 536870920) hm rfl) | exact Or.inr rfl)
    | (with_reducible first | apply State.setO_kept | apply KeptN.next | apply KeptN.ite | apply Kept.ite)
    | (refine Kept.upd ?_ ?_)

theorem execJtagInstruction_kept {m : Nat} (hm : 268435456 &&& m = 268435456) {s : State} {x_i : JtagInstr} {x_s : State} (h_x_s : Kept m s x_s) : KeptN m s (execJtagInstruction x_i x_s) := by
  unfold execJtagInstruction
  repeat' first
    | (with_reducible first | assumption | exact Kept.refl _)
    | (intro p; cases p <;> first | exact Or.inl (bit_of (a := 268435456) hm rfl) | exact Or.inr rfl)
    | (with_reducible first | apply KeptN.next | apply KeptN.ite | apply Kept.ite)
    | (refine Kept.upd ?_ ?_)

end Sys2Proof.Machine
end

