-- ==== Sys2Proof/Laws/KeptCommit.lean ====
section
/-! SUPPORT. What the operations of Machine/Commit.lean keep. -/

set_option linter.all false

namespace Sys2Proof.Machine

theorem State.putShadow_kept {m : Nat} (hm : 524296 &&& m = 524296) {s : State} {x_s : State} {x_x : Staged} (h_x_s : Kept m s x_s) : Kept m s (State.putShadow x_s x_x) := by
  unfold State.putShadow
  repeat' first
    | (with_reducible first | assumption | exact Kept.refl _)
    | exact sub_trans (b := 524296) (by decide) hm
    | (intro x_1; refine (fun hx : Kept m s x_1 => ?_) ?_; (clear_value x_1); rotate_left; (unfold x_1))
    | (intro x_1; clear_value x_1)
    | (intro p; cases p <;> first | exact Or.inl (bit_of (a := 524296) hm rfl) | exact Or.inr rfl)
    | intro _
    | (with_reducible first | apply State.setB_kept | apply Kept.ite | apply Kept.dite)
    | lift_lets -underBinder
    | (refine Kept.upd ?_ ?_)

theorem State.dropShadow_kept {m : Nat} (hm : 524288 &&& m = 524288) {s : State} {x_s : State} {x_unit : Nat} (h_x_s : Kept m s x_s) : Kept m s (State.dropShadow x_s x_unit) := by
  unfold State.dropShadow
  repeat' first
    | (with_reducible first | assumption | exact Kept.refl _)
    | (intro p; cases p <;> first | exact Or.inl (bit_of (a := 524288) hm rfl) | exact Or.inr rfl)
    | (refine Kept.upd ?_ ?_)

theorem State.showSite_kept {m : Nat} (hm : 8 &&& m = 8) {s : State} {x_s : State} {x_b : Bay} (h_x_s : Kept m s x_s) : Kept m s (State.showSite x_s x_b) := by
  unfold State.showSite
  repeat' first
    | (with_reducible first | assumption | exact Kept.refl _)
    | exact sub_trans (b := 8) (by decide) hm
    | (intro x_1; refine (fun hx : Kept m s x_1 => ?_) ?_; (clear_value x_1); rotate_left; (unfold x_1))
    | (intro x_1; clear_value x_1)
    | intro _
    | (with_reducible first | apply State.setB_kept | exact KeptO.none | apply KeptO.some | apply KeptO.ite)
    | lift_lets -underBinder
    | split
    | (refine Kept.upd ?_ ?_)

theorem State.dissolve_kept {m : Nat} (hm : 264 &&& m = 264) {s : State} {x_s : State} {x_bs : List Bay} (h_x_s : Kept m s x_s) : Kept m s (State.dissolve x_s x_bs) := by
  unfold State.dissolve
  repeat' first
    | (with_reducible first | assumption | exact Kept.refl _)
    | exact sub_trans (b := 264) (by decide) hm
    | intro _
    | (with_reducible first | apply State.each_kept | apply State.freeClaim_kept | exact KeptO.none | apply KeptO.some | apply KeptO.ite | apply Kept.ite)
    | split
    | (refine Kept.upd ?_ ?_)

theorem State.applyMap_kept {m : Nat} (hm : 524552 &&& m = 524552) {s : State} {x_s : State} (h_x_s : Kept m s x_s) : Kept m s (State.applyMap x_s) := by
  unfold State.applyMap
  repeat' first
    | (with_reducible first | assumption | exact Kept.refl _)
    | exact sub_trans (b := 524552) (by decide) hm
    | (intro x_1; refine (fun hx : Kept m s x_1 => ?_) ?_; (clear_value x_1); rotate_left; (unfold x_1))
    | (intro x_1; clear_value x_1)
    | intro _
    | (with_reducible first | apply State.each_kept | apply State.dissolve_kept | apply State.setO_kept | apply State.dropShadow_kept | apply State.setB_kept | apply State.setS_kept | apply State.showSite_kept | exact KeptO.none | apply KeptO.some | apply KeptO.ite | apply Kept.ite)
    | lift_lets -underBinder
    | split
    | (refine Kept.upd ?_ ?_)

theorem State.report_kept {m : Nat} (hm : 532488 &&& m = 532488) {s : State} {x_s : State} {x_unit : Nat} {x_status : Nat} {x_reason : Nat} (h_x_s : Kept m s x_s) : Kept m s (State.report x_s x_unit x_status x_reason) := by
  unfold State.report
  repeat' first
    | (with_reducible first | assumption | exact Kept.refl _)
    | exact sub_trans (b := 532488) (by decide) hm
    | (intro x_1; refine (fun hx : Kept m s x_1 => ?_) ?_; (clear_value x_1); rotate_left; (unfold x_1))
    | (intro x_1; clear_value x_1)
    | (intro p; cases p <;> first | exact Or.inl (bit_of (a := 532488) hm rfl) | exact Or.inr rfl)
    | intro _
    | (with_reducible first | apply State.modBay_kept | apply State.setB_kept | apply Kept.ite | apply Kept.dite)
    | lift_lets -underBinder
    | (refine Kept.upd ?_ ?_)

theorem State.refuseUnit_kept {m : Nat} (hm : 532488 &&& m = 532488) {s : State} {x_s : State} {x_unit : Nat} {x_reason : Nat} (h_x_s : Kept m s x_s) : Kept m s (State.refuseUnit x_s x_unit x_reason) := by
  unfold State.refuseUnit
  repeat' first
    | (with_reducible first | assumption | exact Kept.refl _)
    | exact sub_trans (b := 532488) (by decide) hm
    | with_reducible apply State.report_kept

theorem State.startCommit_kept {m : Nat} (hm : 4718600 &&& m = 4718600) {s : State} {x_s : State} {x_session : Option Nat} {x_tag : Nat} {x_units : List (Nat × Nat)} (h_x_s : Kept m s x_s) : Kept m s (State.startCommit x_s x_session x_tag x_units) := by
  unfold State.startCommit
  repeat' first
    | (with_reducible first | assumption | exact Kept.refl _)
    | exact sub_trans (b := 4718600) (by decide) hm
    | (intro x_1; refine (fun hx : Kept m s x_1 => ?_) ?_; (clear_value x_1); rotate_left; (unfold x_1))
    | (intro x_1; clear_value x_1)
    | (intro p; cases p <;> first | exact Or.inl (bit_of (a := 4718600) hm rfl) | exact Or.inr rfl)
    | intro _
    | (with_reducible first | apply State.each_kept | apply State.setB_kept | apply State.setG_kept | exact KeptO.none | apply KeptO.some | apply KeptO.ite | apply Kept.ite)
    | lift_lets -underBinder
    | split
    | (refine Kept.upd ?_ ?_)

theorem State.applyItem_kept {m : Nat} (hm : 16424 &&& m = 16424) {s : State} {x_s : State} {x_b : Bay} {x_x : Staged} (h_x_s : Kept m s x_s) : Kept m s (State.applyItem x_s x_b x_x) := by
  unfold State.applyItem
  repeat' first
    | (with_reducible first | assumption | exact Kept.refl _)
    | exact sub_trans (b := 16424) (by decide) hm
    | (intro x_1; refine (fun hx : Kept m s x_1 => ?_) ?_; (clear_value x_1); rotate_left; (unfold x_1))
    | (intro x_1; clear_value x_1)
    | intro _
    | (with_reducible first | apply State.each_kept | apply State.storeSet_kept | apply State.setO_kept | apply State.writeLevels_kept | apply State.setGuard_kept | apply Kept.ite)
    | lift_lets -underBinder

theorem State.applyBay_kept {m : Nat} (hm : 942124 &&& m = 942124) {s : State} {x_s : State} {x_b : Bay} (h_x_s : Kept m s x_s) : Kept m s (State.applyBay x_s x_b) := by
  unfold State.applyBay
  repeat' first
    | (with_reducible first | assumption | exact Kept.refl _)
    | exact sub_trans (b := 942124) (by decide) hm
    | (intro x_1; refine (fun hx : Kept m s x_1 => ?_) ?_; (clear_value x_1); rotate_left; (unfold x_1))
    | (intro x_1; clear_value x_1)
    | intro _
    | (with_reducible first | apply State.dropShadow_kept | apply State.each_kept | apply State.applyItem_kept | apply State.periodReset_kept | apply State.load_kept | apply Kept.ite)
    | lift_lets -underBinder
    | split
    | dsimp only

theorem State.staleCommit_kept {m : Nat} (hm : 393229 &&& m = 393229) {s : State} {x_s : State} {x_b : Bay} (h_x_s : Kept m s x_s) : Kept m s (State.staleCommit x_s x_b) := by
  unfold State.staleCommit
  repeat' first
    | (with_reducible first | assumption | exact Kept.refl _)
    | exact sub_trans (b := 393229) (by decide) hm
    | (intro p; cases p <;> first | exact Or.inl (bit_of (a := 393229) hm rfl) | exact Or.inr (by dsimp only [Part.same]))
    | with_reducible apply State.stale_kept
    | (refine Kept.upd ?_ ?_)

theorem State.backToIdle_kept {m : Nat} (hm : 401933 &&& m = 401933) {s : State} {x_s : State} {x_b : Bay} (h_x_s : Kept m s x_s) : Kept m s (State.backToIdle x_s x_b) := by
  unfold State.backToIdle
  repeat' first
    | (with_reducible first | assumption | exact Kept.refl _)
    | exact sub_trans (b := 401933) (by decide) hm
    | (intro p; cases p <;> first | exact Or.inl (bit_of (a := 401933) hm rfl) | exact Or.inr rfl)
    | (with_reducible first | apply State.disarm_kept | apply Kept.ite)
    | (refine Kept.upd ?_ ?_)

theorem State.decideSites_kept {m : Nat} (hm : 942893 &&& m = 942893) {s : State} {x_s : State} (h_x_s : Kept m s x_s) : Kept m s (State.decideSites x_s) := by
  unfold State.decideSites
  repeat' first
    | (with_reducible first | assumption | exact Kept.refl _)
    | exact sub_trans (b := 942893) (by decide) hm
    | (intro x_1; refine (fun hx : Kept m s x_1 => ?_) ?_; (clear_value x_1); rotate_left; (unfold x_1))
    | (intro x_1; clear_value x_1)
    | intro _
    | (with_reducible first | apply State.applyMap_kept | apply State.each_kept | apply State.report_kept | apply State.applyBay_kept | apply State.backToIdle_kept | apply State.refuseUnit_kept | apply Kept.ite)
    | lift_lets -underBinder

theorem State.bayBoundary_kept {m : Nat} (hm : 942893 &&& m = 942893) {s : State} {x_s : State} {x_b : Bay} {x_epoch : Nat} (h_x_s : Kept m s x_s) : Kept m s (State.bayBoundary x_s x_b x_epoch) := by
  unfold State.bayBoundary
  repeat' first
    | (with_reducible first | assumption | exact Kept.refl _)
    | exact sub_trans (b := 942893) (by decide) hm
    | (intro x_1; refine (fun hx : Kept m s x_1 => ?_) ?_; (clear_value x_1); rotate_left; (unfold x_1))
    | (intro x_1; clear_value x_1)
    | intro _
    | (with_reducible first | apply State.staleCommit_kept | apply State.decideSites_kept | apply State.refuseUnit_kept | apply State.modBay_kept | apply State.report_kept | apply State.applyBay_kept | apply Kept.ite)
    | lift_lets -underBinder
    | split
    | dsimp only
    | (refine Kept.upd ?_ ?_)

theorem State.laneBoundary_kept {m : Nat} (hm : 17703948 &&& m = 17703948) {s : State} {x_s : State} {x_l : Lane} (h_x_s : Kept m s x_s) : Kept m s (State.laneBoundary x_s x_l) := by
  unfold State.laneBoundary
  repeat' first
    | (with_reducible first | assumption | exact Kept.refl _)
    | exact sub_trans (b := 17703948) (by decide) hm
    | (intro x_1; refine (fun hx : Kept m s x_1 => ?_) ?_; (clear_value x_1); rotate_left; (unfold x_1))
    | (intro x_1; refine (fun hx : Kept m s x_1.1 => ?_) ?_; (clear_value x_1); rotate_left; (unfold x_1))
    | (intro x_1; clear_value x_1)
    | intro _
    | (with_reducible first | apply State.refuseUnit_kept | apply State.applyRate_kept | refine State.applyRate_kept_eq ?_ ?_ (by assumption) | apply State.report_kept | apply State.dropShadow_kept | apply Kept.ite | apply Kept.ite1)
    | lift_lets -underBinder
    | split
    | dsimp only
    | (refine Kept.upd ?_ ?_)

theorem State.withFabric_kept {m : Nat} (hm : 24 &&& m = 24) {s : State} {x_s : State} (h_x_s : Kept m s x_s) : Kept m s (State.withFabric x_s) := by
  unfold State.withFabric
  repeat' first
    | (with_reducible first | assumption | exact Kept.refl _)
    | exact sub_trans (b := 24) (by decide) hm
    | (intro p; cases p <;> first | exact Or.inl (bit_of (a := 24) hm rfl) | exact Or.inr rfl)
    | intro _
    | (with_reducible first | apply State.each_kept | apply State.setO_kept | apply Kept.ite)
    | (refine Kept.upd ?_ ?_)

theorem State.resumeGraph_kept {m : Nat} (hm : 4194312 &&& m = 4194312) {s : State} {x_s : State} (h_x_s : Kept m s x_s) : Kept m s (State.resumeGraph x_s) := by
  unfold State.resumeGraph
  repeat' first
    | (with_reducible first | assumption | exact Kept.refl _)
    | exact sub_trans (b := 4194312) (by decide) hm
    | (intro p; cases p <;> first | exact Or.inl (bit_of (a := 4194312) hm rfl) | exact Or.inr rfl)
    | intro _
    | (with_reducible first | apply State.setG_kept | apply Kept.ite)
    | split
    | (refine Kept.upd ?_ ?_)

theorem State.refuseFabric_kept {m : Nat} (hm : 4726792 &&& m = 4726792) {s : State} {x_s : State} {x_reason : Nat} (h_x_s : Kept m s x_s) : Kept m s (State.refuseFabric x_s x_reason) := by
  unfold State.refuseFabric
  repeat' first
    | (with_reducible first | assumption | exact Kept.refl _)
    | exact sub_trans (b := 4726792) (by decide) hm
    | (with_reducible first | apply State.refuseUnit_kept | apply State.resumeGraph_kept)

theorem State.fabricGraph_kept {m : Nat} (hm : 4227097 &&& m = 4227097) {s : State} {x_s : State} (h_x_s : Kept m s x_s) : Kept m s (State.fabricGraph x_s) := by
  unfold State.fabricGraph
  repeat' first
    | (with_reducible first | assumption | exact Kept.refl _)
    | exact sub_trans (b := 4227097) (by decide) hm
    | (intro x_1; refine (fun hx : Kept m s x_1 => ?_) ?_; (clear_value x_1); rotate_left; (unfold x_1))
    | (intro x_1; clear_value x_1)
    | intro _
    | (with_reducible first | apply State.applyGraph_kept | apply State.withFabric_kept | exact KeptO.none | apply KeptO.some | apply KeptO.ite | apply Kept.ite)
    | lift_lets -underBinder
    | split
    | (refine Kept.upd ?_ ?_)

theorem State.fabricDone_kept {m : Nat} (hm : 4759577 &&& m = 4759577) {s : State} {x_s : State} (h_x_s : Kept m s x_s) : Kept m s (State.fabricDone x_s) := by
  unfold State.fabricDone
  repeat' first
    | (with_reducible first | assumption | exact Kept.refl _)
    | exact sub_trans (b := 4759577) (by decide) hm
    | (with_reducible first | apply State.report_kept | apply State.dropShadow_kept | apply State.fabricGraph_kept)

theorem State.fabricBoundary_kept {m : Nat} (hm : 74358813 &&& m = 74358813) {s : State} {x_s : State} {x_epoch : Nat} {x_m : Sample} (h_x_s : Kept m s x_s) : Kept m s (State.fabricBoundary x_s x_epoch x_m) := by
  unfold State.fabricBoundary
  repeat' first
    | (with_reducible first | assumption | exact Kept.refl _)
    | exact sub_trans (b := 74358813) (by decide) hm
    | (intro x_1; refine (fun hx : Kept m s x_1 => ?_) ?_; (clear_value x_1); rotate_left; (unfold x_1))
    | (intro x_1; clear_value x_1)
    | intro _
    | (with_reducible first | apply State.refuseFabric_kept | apply State.showRegions_kept | apply State.withFabric_kept | apply State.addG_kept | apply State.setO_kept | apply State.innerCommit_kept | apply State.ledgerWrite_kept | apply State.fabricDone_kept | apply State.ledgerPut_kept | exact KeptO.none | apply KeptO.some | apply KeptO.ite | apply Kept.ite)
    | lift_lets -underBinder
    | split
    | (refine Kept.upd ?_ ?_)

theorem State.boundaryOf_kept {m : Nat} (hm : 91154237 &&& m = 91154237) {s : State} {x_s : State} {x_unit : Nat} {x_m : Sample} (h_x_s : Kept m s x_s) : Kept m s (State.boundaryOf x_s x_unit x_m) := by
  unfold State.boundaryOf
  repeat' first
    | (with_reducible first | assumption | exact Kept.refl _)
    | exact sub_trans (b := 91154237) (by decide) hm
    | intro _
    | (with_reducible first | apply State.bayBoundary_kept | apply State.laneBoundary_kept | apply State.refuseUnit_kept | apply State.decideSites_kept | apply State.fabricBoundary_kept | exact KeptO.none | apply KeptO.some | apply KeptO.ite | apply Kept.ite | apply Kept.dite)
    | split
    | (refine Kept.upd ?_ ?_)

theorem State.cancelUnit_kept {m : Nat} (hm : 21504008 &&& m = 21504008) {s : State} {x_s : State} {x_unit : Nat} (h_x_s : Kept m s x_s) : Kept m s (State.cancelUnit x_s x_unit) := by
  unfold State.cancelUnit
  repeat' first
    | (with_reducible first | assumption | exact Kept.refl _)
    | exact sub_trans (b := 21504008) (by decide) hm
    | intro _
    | (with_reducible first | apply State.refuseFabric_kept | apply State.refuseUnit_kept | apply State.modLane_kept | apply Kept.dite | apply Kept.ite)
    | split
    | (refine Kept.upd ?_ ?_)

theorem State.cancelAll_kept {m : Nat} (hm : 21504008 &&& m = 21504008) {s : State} {x_s : State} (h_x_s : Kept m s x_s) : Kept m s (State.cancelAll x_s) := by
  unfold State.cancelAll
  repeat' first
    | (with_reducible first | assumption | exact Kept.refl _)
    | exact sub_trans (b := 21504008) (by decide) hm
    | (with_reducible first | apply State.each_kept | apply State.cancelUnit_kept | exact KeptO.none | apply KeptO.some | apply KeptO.ite)
    | split
    | (refine Kept.upd ?_ ?_)

theorem State.closeCommit_kept {m : Nat} (hm : 524312 &&& m = 524312) {s : State} {x_s : State} {x_c : CommitRun} (h_x_s : Kept m s x_s) : Kept m s (State.closeCommit x_s x_c) := by
  unfold State.closeCommit
  repeat' first
    | (with_reducible first | assumption | exact Kept.refl _)
    | exact sub_trans (b := 524312) (by decide) hm
    | (intro x_1; refine (fun hx : Kept m s x_1 => ?_) ?_; (clear_value x_1); rotate_left; (unfold x_1))
    | (intro x_1; clear_value x_1)
    | (intro p; cases p <;> first | exact Or.inl (bit_of (a := 524312) hm rfl) | exact Or.inr rfl)
    | intro _
    | with_reducible apply State.setO_kept
    | lift_lets -underBinder
    | (refine Kept.upd ?_ ?_)

end Sys2Proof.Machine
end

