-- ==== Sys2Proof/Laws/KeptObjects.lean ====
section
/-! SUPPORT. What the operations of Machine/Objects.lean keep. -/

set_option linter.all false

namespace Sys2Proof.Machine

theorem Kept.iteG {m : Nat} {s : State} {c : Prop} [Decidable c] {a b : Got} (ha : Kept m s a.st) (hb : Kept m s b.st) :
    Kept m s (if c then a else b).st := by split <;> assumption

theorem gotReply_kept {m : Nat} {s : State} {x_s : State} {x_o : Host.Outcome State Fault Refusal} (h_x_s : Kept m s x_s)
    (h_x_o : KeptN m s x_o) : Kept m s (gotReply x_s x_o).st := by
  unfold gotReply
  cases x_o with
  | next u => exact h_x_o.out rfl
  | fault _ => exact h_x_s
  | refused _ => exact h_x_s

theorem Got.no_kept {m : Nat} {s : State} {x_s : State} {x_st : Nat} (h_x_s : Kept m s x_s) : Kept m s (Got.no x_s x_st).st := by
  unfold Got.no
  repeat' first
    | (with_reducible first | assumption | exact Kept.refl _ | apply Kept.iteG)
    | dsimp only

theorem State.readBay_kept {m : Nat} (hm : 8201 &&& m = 8201) {s : State} {x_s : State} {x_b : Bay} {x_r : Row} {x_o : Nat} {x_k : Nat} (h_x_s : Kept m s x_s) : Kept m s (State.readBay x_s x_b x_r x_o x_k).st := by
  unfold State.readBay
  repeat' first
    | (with_reducible first | assumption | exact Kept.refl _)
    | exact sub_trans (b := 8201) (by decide) hm
    | (with_reducible first | apply gotReply_kept | apply execResultRead_kept | refine (execResultRead_kept ?_ ?_).out (by assumption) | apply execResultBlockRead_kept | refine (execResultBlockRead_kept ?_ ?_).out (by assumption) | apply Got.no_kept | apply Kept.iteG | apply Kept.ite)
    | split
    | dsimp only
    | (refine Kept.upd ?_ ?_)

theorem State.readChan_kept {m : Nat} {s : State} {x_s : State} {x_r : Row} {x_index : Nat} {x_k : Nat} (h_x_s : Kept m s x_s) : Kept m s (State.readChan x_s x_r x_index x_k).st := by
  unfold State.readChan
  repeat' first
    | (with_reducible first | assumption | exact Kept.refl _ | apply Kept.iteG | apply Kept.ite)
    | dsimp only

theorem State.readModule_kept {m : Nat} (hm : 1048589 &&& m = 1048589) {s : State} {x_s : State} {x_v : Via} {x_r : Row} {x_k : Nat} (h_x_s : Kept m s x_s) : Kept m s (State.readModule x_s x_v x_r x_k).st := by
  unfold State.readModule
  repeat' first
    | (with_reducible first | assumption | exact Kept.refl _)
    | exact sub_trans (b := 1048589) (by decide) hm
    | (intro p; cases p <;> first | exact Or.inl (bit_of (a := 1048589) hm rfl) | exact Or.inr rfl)
    | intro _
    | (with_reducible first | apply gotReply_kept | apply execFaultLogNext_kept | refine (execFaultLogNext_kept ?_ ?_).out (by assumption) | apply execFaultLogRecord_kept | refine (execFaultLogRecord_kept ?_ ?_).out (by assumption) | apply execEventLogNext_kept | refine (execEventLogNext_kept ?_ ?_).out (by assumption) | apply execTsqEntryRead_kept | refine (execTsqEntryRead_kept ?_ ?_).out (by assumption) | apply Kept.iteG | apply Kept.ite)
    | dsimp only
    | (refine Kept.updFresh ?_ ?_)
    | (refine Kept.upd ?_ ?_)

theorem State.readRow_kept {m : Nat} (hm : 1056781 &&& m = 1056781) {s : State} {x_s : State} {x_v : Via} {x_r : Row} {x_index : Nat} {x_sub : Nat} (h_x_s : Kept m s x_s) : Kept m s (State.readRow x_s x_v x_r x_index x_sub).st := by
  unfold State.readRow
  repeat' first
    | (with_reducible first | assumption | exact Kept.refl _)
    | exact sub_trans (b := 1056781) (by decide) hm
    | (with_reducible first | apply Got.no_kept | apply State.readBay_kept | apply State.readChan_kept | apply State.readModule_kept | apply Kept.iteG | exact KeptO.none | apply KeptO.some | apply KeptO.ite | apply Kept.ite)
    | split
    | dsimp only
    | (refine Kept.upd ?_ ?_)

theorem State.readVendor_kept {m : Nat} (hm : 4 &&& m = 4) {s : State} {x_s : State} {x_v : Via} {x_k : Nat} (h_x_s : Kept m s x_s) : Kept m s (State.readVendor x_s x_v x_k).st := by
  unfold State.readVendor
  repeat' first
    | (with_reducible first | assumption | exact Kept.refl _)
    | (intro p; cases p <;> first | exact Or.inl (bit_of (a := 4) hm rfl) | exact Or.inr rfl)
    | (with_reducible first | apply Got.no_kept | apply Kept.iteG | exact KeptO.none | apply KeptO.some | apply KeptO.ite | apply Kept.ite)
    | split
    | dsimp only
    | (refine Kept.updFresh ?_ ?_)
    | (refine Kept.upd ?_ ?_)

theorem State.readObj_kept {m : Nat} (hm : 1056781 &&& m = 1056781) {s : State} {x_s : State} {x_v : Via} {x_a : ObjAddr} (h_x_s : Kept m s x_s) : Kept m s (State.readObj x_s x_v x_a).st := by
  unfold State.readObj
  repeat' first
    | (with_reducible first | assumption | exact Kept.refl _)
    | exact sub_trans (b := 1056781) (by decide) hm
    | (intro x_1; refine (fun hx : Kept m s x_1 => ?_) ?_; (clear_value x_1); rotate_left; (unfold x_1))
    | (intro x_1; refine (fun hx : Kept m s x_1.st => ?_) ?_; (clear_value x_1); rotate_left; (unfold x_1))
    | (intro x_1; clear_value x_1)
    | intro _
    | (with_reducible first | apply State.readVendor_kept | apply Got.no_kept | apply State.readRow_kept | apply Kept.iteG | apply Kept.ite)
    | lift_lets -underBinder
    | split
    | dsimp only
    | (refine Kept.upd ?_ ?_)

end Sys2Proof.Machine
end

