-- ==== Sys2Proof/Laws/KeptWrites.lean ====
section
/-! SUPPORT. What the operations of Machine/Writes.lean keep. -/

set_option linter.all false

namespace Sys2Proof.Machine

theorem after_kept {m : Nat} {s : State} {x_s : State} {x_o : Host.Outcome State Fault Refusal} (h_x_s : Kept m s x_s)
    (h_x_o : KeptN m s x_o) : Kept m s (after x_s x_o) := by
  unfold after
  cases x_o with
  | next u => exact h_x_o.out rfl
  | fault _ => exact h_x_s
  | refused _ => exact h_x_s

theorem onOne_kept {m : Nat} (hm : 1 &&& m = 1) {s : State} {x_s : State} {x_v : Nat} {x_o : Host.Outcome State Fault Refusal} (h_x_s : Kept m s x_s) (h_x_o : KeptN m s x_o) : Kept m s (onOne x_s x_v x_o) := by
  unfold onOne
  repeat' first
    | (with_reducible first | assumption | exact Kept.refl _)
    | exact sub_trans (b := 1) (by decide) hm
    | (with_reducible first | apply after_kept | apply State.ok_kept | apply Kept.ite)

theorem claimEffect_kept {m : Nat} (hm : 401677 &&& m = 401677) {s : State} {x_s : State} {x_r : Resource} {x_e : BitVec 16} {x_v : Nat} (h_x_s : Kept m s x_s) : Kept m s (claimEffect x_s x_r x_e x_v) := by
  unfold claimEffect
  repeat' first
    | (with_reducible first | assumption | exact Kept.refl _)
    | exact sub_trans (b := 401677) (by decide) hm
    | (with_reducible first | apply after_kept | apply execResourceRelease_kept | apply execResourceClaim_kept | apply Kept.ite)
    | split

theorem stateEffect_kept {m : Nat} (hm : 419629 &&& m = 419629) {s : State} {x_s : State} {x_b : Bay} {x_e : BitVec 16} {x_v : Nat} (h_x_s : Kept m s x_s) : Kept m s (stateEffect x_s x_b x_e x_v) := by
  unfold stateEffect
  repeat' first
    | (with_reducible first | assumption | exact Kept.refl _)
    | exact sub_trans (b := 419629) (by decide) hm
    | intro _
    | (with_reducible first | apply after_kept | apply execStateRequestOff_kept | apply execStateRequestSafe_kept | apply execStateRequestIdle_kept | apply execStateRequestRun_kept | apply execStateRequestPause_kept | apply execStateRequestMaint_kept | apply execStateRequestArm_kept | apply execStateRequestDisarm_kept | apply execStateRequestStop_kept | apply State.stateRequest_kept | apply State.answer_kept | apply Kept.ite)
    | split

theorem bayEffect_kept {m : Nat} (hm : 419629 &&& m = 419629) {s : State} {x_s : State} {x_b : Bay} {x_o : Nat} {x_e : BitVec 16} {x_data : Bytes} (h_x_s : Kept m s x_s) : Kept m s (bayEffect x_s x_b x_o x_e x_data) := by
  unfold bayEffect
  repeat' first
    | (with_reducible first | assumption | exact Kept.refl _)
    | exact sub_trans (b := 419629) (by decide) hm
    | (intro x_1; refine (fun hx : Kept m s x_1 => ?_) ?_; (clear_value x_1); rotate_left; (unfold x_1))
    | (intro x_1; clear_value x_1)
    | intro _
    | (with_reducible first | apply stateEffect_kept | apply after_kept | apply execJumpRequest_kept | apply onOne_kept | apply execUnderrunLogClear_kept | apply execShingleEntryWrite_kept | apply execTableBlockWrite_kept | apply execTsetWrite_kept | apply execBankImage_kept | apply execCustomEntryWrite_kept | apply execLvlSelect_kept | apply execLoadRequest_kept | apply execTrigForce_kept | apply execTrigRearm_kept | apply execConsumedFrameWrite_kept | apply execTmuArmRequest_kept | apply execTmuDisarmRequest_kept | apply execFifoClear_kept | apply execPkgImage_kept | apply execPkgStart_kept | apply claimEffect_kept | apply State.ok_kept | apply State.setB_kept | apply Kept.ite)
    | lift_lets -underBinder
    | split
    | dsimp only

theorem chanEffect_kept {m : Nat} (hm : 409613 &&& m = 409613) {s : State} {x_s : State} {x_c : Chan} {x_o : Nat} {x_e : BitVec 16} {x_data : Bytes} (h_x_s : Kept m s x_s) : Kept m s (chanEffect x_s x_c x_o x_e x_data) := by
  unfold chanEffect
  repeat' first
    | (with_reducible first | assumption | exact Kept.refl _)
    | exact sub_trans (b := 409613) (by decide) hm
    | (intro x_1; refine (fun hx : Kept m s x_1 => ?_) ?_; (clear_value x_1); rotate_left; (unfold x_1))
    | (intro x_1; clear_value x_1)
    | intro _
    | (with_reducible first | apply after_kept | apply execLevelSetWrite_kept | refine (execLevelSetWrite_kept ?_ ?_).out (by assumption) | apply execGuardThresholdWrite_kept | refine (execGuardThresholdWrite_kept ?_ ?_).out (by assumption) | apply onOne_kept | apply execTripClear_kept | refine (execTripClear_kept ?_ ?_).out (by assumption) | apply execPmuModeWrite_kept | refine (execPmuModeWrite_kept ?_ ?_).out (by assumption) | apply execPmuRangeWrite_kept | refine (execPmuRangeWrite_kept ?_ ?_).out (by assumption) | apply execMeasStart_kept | refine (execMeasStart_kept ?_ ?_).out (by assumption) | apply State.ok_kept | apply State.setC_kept | apply Kept.ite)
    | lift_lets -underBinder

theorem fabricEffect_kept {m : Nat} (hm : 13008905 &&& m = 13008905) {s : State} {x_s : State} {x_index : Nat} {x_sub : Nat} {x_data : Bytes} (h_x_s : Kept m s x_s) : Kept m s (fabricEffect x_s x_index x_sub x_data) := by
  unfold fabricEffect
  repeat' first
    | (with_reducible first | assumption | exact Kept.refl _)
    | exact sub_trans (b := 13008905) (by decide) hm
    | (intro x_1; refine (fun hx : Kept m s x_1 => ?_) ?_; (clear_value x_1); rotate_left; (unfold x_1))
    | (intro x_1; clear_value x_1)
    | intro _
    | (with_reducible first | apply after_kept | apply execPost_kept | refine (execPost_kept ?_ ?_).out (by assumption) | apply execStopRequest_kept | refine (execStopRequest_kept ?_ ?_).out (by assumption) | apply execStartRequest_kept | refine (execStartRequest_kept ?_ ?_).out (by assumption) | apply execBenchDrain_kept | refine (execBenchDrain_kept ?_ ?_).out (by assumption) | apply execBenchLoad_kept | refine (execBenchLoad_kept ?_ ?_).out (by assumption) | apply execBenchResume_kept | refine (execBenchResume_kept ?_ ?_).out (by assumption) | apply State.answer_kept | apply State.ok_kept | apply State.setO_kept | apply execChanStart_kept | refine (execChanStart_kept ?_ ?_).out (by assumption) | apply execChanRetry_kept | refine (execChanRetry_kept ?_ ?_).out (by assumption) | apply execChanSkip_kept | refine (execChanSkip_kept ?_ ?_).out (by assumption) | apply execChanAbort_kept | refine (execChanAbort_kept ?_ ?_).out (by assumption) | apply execDmaPauseWrite_kept | refine (execDmaPauseWrite_kept ?_ ?_).out (by assumption) | apply Kept.ite)
    | lift_lets -underBinder

theorem State.freeKey_kept {m : Nat} (hm : 4 &&& m = 4) {s : State} {x_s : State} (h_x_s : Kept m s x_s) : Kept m s (State.freeKey x_s).2 := by
  unfold State.freeKey
  repeat' first
    | (with_reducible first | assumption | exact Kept.refl _)
    | (intro p; cases p <;> first | exact Or.inl (bit_of (a := 4) hm rfl) | exact Or.inr rfl)
    | intro _
    | (with_reducible first | apply Kept.ite2 | apply Kept.foldl)
    | dsimp only
    | (refine Kept.updFresh ?_ ?_)
    | (refine Kept.upd ?_ ?_)

theorem linkEffect_kept {m : Nat} (hm : 1092019981 &&& m = 1092019981) {s : State} {x_s : State} {x_index : Nat} {x_sub : Nat} {x_data : Bytes} (h_x_s : Kept m s x_s) : Kept m s (linkEffect x_s x_index x_sub x_data) := by
  unfold linkEffect
  repeat' first
    | (with_reducible first | assumption | exact Kept.refl _)
    | exact sub_trans (b := 1092019981) (by decide) hm
    | (intro x_1; refine (fun hx : Kept m s x_1 => ?_) ?_; (clear_value x_1); rotate_left; (unfold x_1))
    | (intro x_1; refine (fun hx : Kept m s x_1.2 => ?_) ?_; (clear_value x_1); rotate_left; (unfold x_1))
    | (intro x_1; clear_value x_1)
    | intro _
    | (with_reducible first | apply State.ok_kept | apply State.setO_kept | apply after_kept | apply execLaneEnable_kept | apply onOne_kept | apply execLaneRetrainRequest_kept | apply execLinkCtrlUp_kept | apply execLinkCtrlDown_kept | apply State.showLanes_kept | apply execStreamOpen_kept | apply State.freeKey_kept | apply execStreamReset_kept | apply execRingConsumedWrite_kept | apply execPortModeWrite_kept | apply execRateSet_kept | apply execOffsetAdjust_kept | apply execTimeSet_kept | apply claimEffect_kept | apply execTpgEnable_kept | apply Kept.ite | apply Kept.ite1 | apply Kept.ite2)
    | lift_lets -underBinder
    | split
    | dsimp only

theorem touchEffect_kept {m : Nat} (hm : 19332925 &&& m = 19332925) {s : State} {x_s : State} {x_k : Nat} {x_data : Bytes} {x_m : Sample} (h_x_s : Kept m s x_s) : Kept m s (touchEffect x_s x_k x_data x_m) := by
  unfold touchEffect
  repeat' first
    | (with_reducible first | assumption | exact Kept.refl _)
    | exact sub_trans (b := 19332925) (by decide) hm
    | (intro x_1; refine (fun hx : Kept m s x_1 => ?_) ?_; (clear_value x_1); rotate_left; (unfold x_1))
    | (intro x_1; refine (fun hx : Kept m s x_1.2 => ?_) ?_; (clear_value x_1); rotate_left; (unfold x_1))
    | (intro x_1; clear_value x_1)
    | intro _
    | (with_reducible first | apply onOne_kept | apply execSelfTestRequest_kept | refine (execSelfTestRequest_kept ?_ ?_).out (by assumption) | apply after_kept | apply execZeroize_kept | refine (execZeroize_kept ?_ ?_).out (by assumption) | apply execRoleAnchorWrite_kept | refine (execRoleAnchorWrite_kept ?_ ?_).out (by assumption) | apply State.freeBit_kept | apply State.freeKey_kept | apply execGroupKeyImport_kept | refine (execGroupKeyImport_kept ?_ ?_).out (by assumption) | apply execCodeKeyWrite_kept | refine (execCodeKeyWrite_kept ?_ ?_).out (by assumption) | apply State.hostFirm_kept | apply State.commitGate_kept | apply State.ok_kept | apply State.setO_kept | apply execSlotZeroize_kept | refine (execSlotZeroize_kept ?_ ?_).out (by assumption) | apply execFwActiveSlotWrite_kept | refine (execFwActiveSlotWrite_kept ?_ ?_).out (by assumption) | apply State.free_kept | apply execFwImage_kept | refine (execFwImage_kept ?_ ?_).out (by assumption) | apply execFwAccept_kept | refine (execFwAccept_kept ?_ ?_).out (by assumption) | apply execTmRestartRequest_kept | refine (execTmRestartRequest_kept ?_ ?_).out (by assumption) | apply execDebugUnlock_kept | refine (execDebugUnlock_kept ?_ ?_).out (by assumption) | exact KeptO.none | apply KeptO.some | apply KeptO.ite | apply Kept.ite | apply Kept.ite2)
    | lift_lets -underBinder
    | dsimp only

theorem keeperEffect_kept {m : Nat} (hm : 2147483647 &&& m = 2147483647) {s : State} {x_s : State} {x_path : HoldPath} {x_index : Nat} {x_sub : Nat} {x_data : Bytes} (h_x_s : Kept m s x_s) : Kept m s (keeperEffect x_s x_path x_index x_sub x_data) := by
  unfold keeperEffect
  repeat' first
    | (with_reducible first | assumption | exact Kept.refl _)
    | exact sub_trans (b := 2147483647) (by decide) hm
    | (intro x_1; refine (fun hx : Kept m s x_1 => ?_) ?_; (clear_value x_1); rotate_left; (unfold x_1))
    | (intro x_1; clear_value x_1)
    | intro _
    | (with_reducible first | apply onOne_kept | apply execPurlinAssay_kept | refine (execPurlinAssay_kept ?_ ?_).out (by assumption) | apply after_kept | apply execRollEnable_kept | refine (execRollEnable_kept ?_ ?_).out (by assumption) | apply execRollPause_kept | refine (execRollPause_kept ?_ ?_).out (by assumption) | apply execBayAssayRequest_kept | refine (execBayAssayRequest_kept ?_ ?_).out (by assumption) | apply execManualTarget_kept | refine (execManualTarget_kept ?_ ?_).out (by assumption) | apply execSafeHoldRequest_kept | refine (execSafeHoldRequest_kept ?_ ?_).out (by assumption) | apply execSafeHoldExitResume_kept | refine (execSafeHoldExitResume_kept ?_ ?_).out (by assumption) | apply execSafeHoldExitRestart_kept | refine (execSafeHoldExitRestart_kept ?_ ?_).out (by assumption) | apply execFaultHandle_kept | refine (execFaultHandle_kept ?_ ?_).out (by assumption) | apply execInjectGo_kept | refine (execInjectGo_kept ?_ ?_).out (by assumption) | apply execPolicyWrite_kept | refine (execPolicyWrite_kept ?_ ?_).out (by assumption) | apply execSwitchoverRequest_kept | refine (execSwitchoverRequest_kept ?_ ?_).out (by assumption) | apply execHoldupCheckRequest_kept | refine (execHoldupCheckRequest_kept ?_ ?_).out (by assumption) | apply State.ok_kept | apply State.setO_kept | apply Kept.ite)
    | lift_lets -underBinder

theorem sessionEffect_kept {m : Nat} (hm : 262145 &&& m = 262145) {s : State} {x_s : State} {x_i : Fin 16} {x_k : Nat} {x_data : Bytes} (h_x_s : Kept m s x_s) :
    Kept m s (sessionEffect x_s x_i x_k x_data) := by
  unfold sessionEffect
  cases q : x_s.sessions.get x_i with
  | none => exact State.answer_kept (sub_trans (b := 262145) (by decide) hm) h_x_s
  | some x =>
    dsimp only
    have put : ∀ y : Session, (x.bounded → y.bounded) →
        Kept m s { x_s with sessions := x_s.sessions.set x_i.val (some y) x_i.isLt } := by
      intro y hy
      refine Kept.updSessions h_x_s (fun hs i z e => ?_) ?_
      · by_cases c : i = x_i
        · subst c
          change (x_s.sessions.set i.val (some y) i.isLt)[i.val] = some z at e
          rw [Vector.getElem_set_self] at e; cases e; exact hy (hs i x q)
        · have c2 : x_i.val ≠ i.val := fun h => c (Fin.ext h.symm)
          change (x_s.sessions.set x_i.val (some y) x_i.isLt)[i.val] = some z at e
          rw [Vector.getElem_set_ne _ _ c2] at e
          exact hs i z e
      · intro p; cases p <;> first | exact Or.inl (bit_of (a := 262145) hm rfl) | exact Or.inr rfl
    have port : ∀ v, Kept m s { x_s with dataPorts := v } := by
      intro v; refine Kept.upd h_x_s ?_
      intro p; cases p <;> first | exact Or.inl (bit_of (a := 262145) hm rfl) | exact Or.inr rfl
    repeat' first
      | with_reducible assumption
      | exact sub_trans (b := 262145) (by decide) hm
      | exact put _ (fun h => ⟨h.1, h.2.1, h.2.2⟩)
      | exact port _
      | with_reducible apply State.ok_kept
      | with_reducible apply State.answerD_kept
      | split

theorem writeEffect_kept {m : Nat} (hm : 2147483647 &&& m = 2147483647) {s : State} {x_s : State} {x_v : Via} {x_a : ObjAddr} {x_epoch : Nat} {x_data : Bytes} {x_m : Sample} (h_x_s : Kept m s x_s) : Kept m s (writeEffect x_s x_v x_a x_epoch x_data x_m) := by
  unfold writeEffect
  repeat' first
    | (with_reducible first | assumption | exact Kept.refl _)
    | exact sub_trans (b := 2147483647) (by decide) hm
    | (intro x_1; refine (fun hx : Kept m s x_1 => ?_) ?_; (clear_value x_1); rotate_left; (unfold x_1))
    | (intro x_1; clear_value x_1)
    | intro _
    | (with_reducible first | apply bayEffect_kept | apply chanEffect_kept | apply sessionEffect_kept | apply State.answer_kept | apply claimEffect_kept | apply fabricEffect_kept | apply onOne_kept | apply execPeakClear_kept | apply State.ok_kept | apply State.retick_kept | apply execHbmRetrainRequest_kept | apply linkEffect_kept | apply touchEffect_kept | apply keeperEffect_kept | apply Kept.ite)
    | lift_lets -underBinder
    | split
    | dsimp only
    | (refine Kept.upd ?_ ?_)

theorem State.rwsApply_kept {m : Nat} (hm : 16408 &&& m = 16408) {s : State} {x_s : State} {x_a : ObjAddr} {x_data : Bytes} (h_x_s : Kept m s x_s) : Kept m s (State.rwsApply x_s x_a x_data) := by
  unfold State.rwsApply
  repeat' first
    | (with_reducible first | assumption | exact Kept.refl _)
    | exact sub_trans (b := 16408) (by decide) hm
    | (intro x_1; refine (fun hx : Kept m s x_1 => ?_) ?_; (clear_value x_1); rotate_left; (unfold x_1))
    | (intro x_1; clear_value x_1)
    | (intro p; cases p <;> first | exact Or.inl (bit_of (a := 16408) hm rfl) | exact Or.inr rfl)
    | intro _
    | (with_reducible first | apply State.setClearCode_kept | apply State.setO_kept | apply Kept.ite)
    | lift_lets -underBinder
    | (refine Kept.upd ?_ ?_)

theorem State.rwsKeep_kept {m : Nat} (hm : 67108864 &&& m = 67108864) {s : State} {x_s : State} {x_l : List (ObjAddr × Bytes)} (h_x_s : Kept m s x_s) : Kept m s (State.rwsKeep x_s x_l) := by
  unfold State.rwsKeep
  repeat' first
    | (with_reducible first | assumption | exact Kept.refl _)
    | exact sub_trans (b := 67108864) (by decide) hm
    | (intro x_1; refine (fun hx : Kept m s x_1 => ?_) ?_; (clear_value x_1); rotate_left; (unfold x_1))
    | (intro x_1; clear_value x_1)
    | (intro p; cases p <;> first | exact Or.inl (bit_of (a := 67108864) hm rfl) | exact Or.inr rfl)
    | intro _
    | (with_reducible first | apply State.ledgerPut_kept | apply Kept.foldl)
    | lift_lets -underBinder
    | (refine Kept.upd ?_ ?_)

theorem State.rwsCommit_kept {m : Nat} (hm : 69648413 &&& m = 69648413) {s : State} {x_s : State} {x_l : List (ObjAddr × Bytes)} {x_m : Sample} (h_x_s : Kept m s x_s) : Kept m s (State.rwsCommit x_s x_l x_m) := by
  unfold State.rwsCommit
  repeat' first
    | (with_reducible first | assumption | exact Kept.refl _)
    | exact sub_trans (b := 69648413) (by decide) hm
    | intro _
    | (with_reducible first | apply State.answer_kept | apply State.commitGate_kept | apply State.ok_kept | apply State.rwsKeep_kept | apply State.each_kept | apply State.ledgerWrite_kept | apply State.rwsApply_kept | apply Kept.ite)

theorem State.writeObj_kept {m : Nat} (hm : 2147483647 &&& m = 2147483647) {s : State} {x_s : State} {x_v : Via} {x_a : ObjAddr} {x_type : Option Nat} {x_epoch : Nat} {x_data : Bytes} {x_m : Sample} (h_x_s : Kept m s x_s) : Kept m s (State.writeObj x_s x_v x_a x_type x_epoch x_data x_m) := by
  unfold State.writeObj
  repeat' first
    | (with_reducible first | assumption | exact Kept.refl _)
    | exact sub_trans (b := 2147483647) (by decide) hm
    | (with_reducible first | apply State.answer_kept | apply State.stale_kept | apply State.rwsCommit_kept | apply writeEffect_kept | apply Kept.ite)
    | split
    | (refine Kept.upd ?_ ?_)

end Sys2Proof.Machine
end

