-- ==== Sys2Proof/Laws/KeptDop.lean ====
section
/-! SUPPORT. What the operations of Machine/Dop.lean keep. -/

set_option linter.all false

namespace Sys2Proof.Machine

theorem State.modSession_kept {m : Nat} (hm : 262144 &&& m = 262144) {s : State} {x_s : State} {x_i : Fin 16} {x_f : Session → Session} (h_x_s : Kept m s x_s)
    (h_f : ∀ y : Session, y.bounded → (x_f y).bounded) : Kept m s (State.modSession x_s x_i x_f) := by
  unfold State.modSession
  refine Kept.updSessions h_x_s (fun hs i z e => ?_) ?_
  · by_cases c : i = x_i
    · subst c
      change (x_s.sessions.set i.val ((x_s.sessions.get i).map x_f) i.isLt)[i.val] = some z at e
      rw [Vector.getElem_set_self] at e
      cases q : x_s.sessions.get i with
      | none => rw [q] at e; cases e
      | some y => rw [q] at e; cases e; exact h_f y (hs i y q)
    · have c2 : x_i.val ≠ i.val := fun h => c (Fin.ext h.symm)
      change (x_s.sessions.set x_i.val ((x_s.sessions.get x_i).map x_f) x_i.isLt)[i.val] = some z at e
      rw [Vector.getElem_set_ne _ _ c2] at e
      exact hs i z e
  · intro p; cases p <;> first | exact Or.inl (bit_of (a := 262144) hm rfl) | exact Or.inr rfl

theorem State.openSession_kept {m : Nat} (hm : 262152 &&& m = 262152) {s : State} {x_s : State} {x_p : Fin 2} {x_c : Cert} (h_x_s : Kept m s x_s) :
    Kept m s (State.openSession x_s x_p x_c) := by
  unfold State.openSession
  split
  · rename_i j _ _ _
    refine State.showSessions_kept (sub_trans (b := 262152) (by decide) hm) ?_
    refine Kept.updSessions h_x_s (fun hs i z e => ?_) ?_
    · by_cases c : i = j
      · subst c
        change (x_s.sessions.set i.val _ i.isLt)[i.val] = some z at e
        rw [Vector.getElem_set_self] at e; cases e
        exact ⟨Nat.zero_le _, Nat.zero_le _, Nat.zero_le _⟩
      · have c2 : j.val ≠ i.val := fun h => c (Fin.ext h.symm)
        change (x_s.sessions.set j.val _ j.isLt)[i.val] = some z at e
        rw [Vector.getElem_set_ne _ _ c2] at e
        exact hs i z e
    · intro p; cases p <;> first | exact Or.inl (bit_of (a := 262152) hm rfl) | exact Or.inr rfl
  · exact h_x_s

theorem State.keep_kept {m : Nat} (hm : 262144 &&& m = 262144) {s : State} {x_s : State} {x_i : Fin 16} {x_req : Nat} (h_x_s : Kept m s x_s) : Kept m s (State.keep x_s x_i x_req) := by
  unfold State.keep
  repeat' first
    | (with_reducible first | assumption | exact Kept.refl _)
    | exact sub_trans (b := 262144) (by decide) hm
    | (intro y hy; first | exact ⟨hy.1, hy.2.1, hy.2.2⟩ | exact ⟨hy.1, lastN_length _ _, hy.2.2⟩ | exact ⟨Nat.le_trans (List.length_filter_le _ _) hy.1, hy.2.1, hy.2.2⟩ | exact ⟨hy.1, hy.2.1, by have h3 := hy.2.2; simp only [List.length_tail]; omega⟩)
    | intro _
    | with_reducible apply State.modSession_kept
    | (refine Kept.upd ?_ ?_)

theorem State.doHello_kept {m : Nat} (hm : 2524189 &&& m = 2524189) {s : State} {x_s : State} {x_i : Fin 16} {x_x : Session} {x_proto : Nat} {x_dict : Nat} {x_m : Sample} (h_x_s : Kept m s x_s) : Kept m s (State.doHello x_s x_i x_x x_proto x_dict x_m) := by
  unfold State.doHello
  repeat' first
    | (with_reducible first | assumption | exact Kept.refl _)
    | exact sub_trans (b := 2524189) (by decide) hm
    | (intro y hy; first | exact ⟨hy.1, hy.2.1, hy.2.2⟩ | exact ⟨hy.1, lastN_length _ _, hy.2.2⟩ | exact ⟨Nat.le_trans (List.length_filter_le _ _) hy.1, hy.2.1, hy.2.2⟩ | exact ⟨hy.1, hy.2.1, by have h3 := hy.2.2; simp only [List.length_tail]; omega⟩)
    | (intro x_1; refine (fun hx : Kept m s x_1 => ?_) ?_; (clear_value x_1); rotate_left; (unfold x_1))
    | (intro x_1; clear_value x_1)
    | intro _
    | (with_reducible first | apply State.answer_kept | apply State.writeAnchor_kept | apply State.ok_kept | apply State.answerBody_kept | apply State.modSession_kept | exact KeptO.none | apply KeptO.some | apply KeptO.ite | apply Kept.ite)
    | lift_lets -underBinder
    | split
    | (refine Kept.upd ?_ ?_)

theorem readItems_kept {m : Nat} (hm : 1056781 &&& m = 1056781) {s : State} {x_v : Via} {x_a1 : State} {x_a2 : Nat} {x_a3 : Nat} {x_a4 : Bytes} {x_a5 : List ObjAddr} (h_x_a1 : Kept m s x_a1) : Kept m s (readItems x_v x_a1 x_a2 x_a3 x_a4 x_a5) := by
  induction x_a5 generalizing x_v x_a1 x_a2 x_a3 x_a4 with
  | nil =>
    unfold readItems
    repeat' first
      | (with_reducible first | assumption | exact Kept.refl _)
      | exact sub_trans (b := 1056781) (by decide) hm
      | (intro x_1; refine (fun hx : Kept m s x_1 => ?_) ?_; (clear_value x_1); rotate_left; (unfold x_1))
      | (intro x_1; refine (fun hx : Kept m s x_1.st => ?_) ?_; (clear_value x_1); rotate_left; (unfold x_1))
      | (intro x_1; clear_value x_1)
      | (intro p; cases p <;> first | exact Or.inl (bit_of (a := 1056781) hm rfl) | exact Or.inr rfl)
      | intro _
      | (with_reducible first | apply State.readObj_kept | apply Kept.iteG | apply Kept.ite)
      | lift_lets -underBinder
      | split
      | dsimp only
      | (refine Kept.upd ?_ ?_)
      | (dsimp only)
  | cons hd tl ih =>
    unfold readItems
    repeat' first
      | with_reducible apply ih
      | (with_reducible first | assumption | exact Kept.refl _)
      | exact sub_trans (b := 1056781) (by decide) hm
      | (intro x_1; refine (fun hx : Kept m s x_1 => ?_) ?_; (clear_value x_1); rotate_left; (unfold x_1))
      | (intro x_1; refine (fun hx : Kept m s x_1.st => ?_) ?_; (clear_value x_1); rotate_left; (unfold x_1))
      | (intro x_1; clear_value x_1)
      | (intro p; cases p <;> first | exact Or.inl (bit_of (a := 1056781) hm rfl) | exact Or.inr rfl)
      | intro _
      | (with_reducible first | apply State.readObj_kept | apply Kept.iteG | apply Kept.ite)
      | lift_lets -underBinder
      | split
      | dsimp only
      | (refine Kept.upd ?_ ?_)
      | (dsimp only)

theorem State.failItem_kept {m : Nat} (hm : 1 &&& m = 1) {s : State} {x_s : State} {x_n : Nat} (h_x_s : Kept m s x_s) : Kept m s (State.failItem x_s x_n) := by
  unfold State.failItem
  repeat' first
    | (with_reducible first | assumption | exact Kept.refl _)
    | (intro p; cases p <;> first | exact Or.inl (bit_of (a := 1) hm rfl) | exact Or.inr rfl)
    | (refine Kept.upd ?_ ?_)

theorem writeItems_kept {m : Nat} (hm : 2147483647 &&& m = 2147483647) {s : State} {x_i : Fin 16} {x_req : Nat} {x_v : Via} {x_m : Sample} {x_a4 : State} {x_a5 : Nat} {x_a6 : List WItem} (h_x_a4 : Kept m s x_a4) : Kept m s (writeItems x_i x_req x_v x_m x_a4 x_a5 x_a6) := by
  induction x_a6 generalizing x_a4 x_a5 with
  | nil =>
    unfold writeItems
    repeat' first
      | (with_reducible first | assumption | exact Kept.refl _)
      | exact sub_trans (b := 2147483647) (by decide) hm
      | (intro y hy; first | exact ⟨hy.1, hy.2.1, hy.2.2⟩ | exact ⟨hy.1, lastN_length _ _, hy.2.2⟩)
      | (intro x_1; refine (fun hx : Kept m s x_1 => ?_) ?_; (clear_value x_1); rotate_left; (unfold x_1))
      | (intro x_1; clear_value x_1)
      | (intro p; cases p <;> first | exact Or.inl (bit_of (a := 2147483647) hm rfl) | exact Or.inr rfl)
      | intro _
      | (with_reducible first | apply State.ok_kept | apply State.writeObj_kept | apply State.modSession_kept | apply State.failItem_kept | apply Kept.ite)
      | lift_lets -underBinder
      | split
      | dsimp only
      | (refine Kept.upd ?_ ?_)
  | cons hd tl ih =>
    unfold writeItems
    repeat' first
      | with_reducible apply ih
      | (with_reducible first | assumption | exact Kept.refl _)
      | exact sub_trans (b := 2147483647) (by decide) hm
      | (intro y hy; first | exact ⟨hy.1, hy.2.1, hy.2.2⟩ | exact ⟨hy.1, lastN_length _ _, hy.2.2⟩)
      | (intro x_1; refine (fun hx : Kept m s x_1 => ?_) ?_; (clear_value x_1); rotate_left; (unfold x_1))
      | (intro x_1; clear_value x_1)
      | (intro p; cases p <;> first | exact Or.inl (bit_of (a := 2147483647) hm rfl) | exact Or.inr rfl)
      | intro _
      | (with_reducible first | apply State.ok_kept | apply State.writeObj_kept | apply State.modSession_kept | apply State.failItem_kept | apply Kept.ite)
      | lift_lets -underBinder
      | split
      | dsimp only
      | (refine Kept.upd ?_ ?_)

theorem State.doWrite_kept {m : Nat} (hm : 2147483647 &&& m = 2147483647) {s : State} {x_s : State} {x_i : Fin 16} {x_req : Nat} {x_x : Session} {x_items : List WItem} {x_m : Sample} (h_x_s : Kept m s x_s) : Kept m s (State.doWrite x_s x_i x_req x_x x_items x_m) := by
  unfold State.doWrite
  repeat' first
    | (with_reducible first | assumption | exact Kept.refl _)
    | exact sub_trans (b := 2147483647) (by decide) hm
    | (intro x_1; refine (fun hx : Kept m s x_1 => ?_) ?_; (clear_value x_1); rotate_left; (unfold x_1))
    | (intro x_1; clear_value x_1)
    | intro _
    | (with_reducible first | apply State.answer_kept | apply State.failItem_kept | apply State.stale_kept | apply State.rwsCommit_kept | apply writeItems_kept | exact KeptO.none | apply KeptO.some | apply KeptO.ite | apply Kept.ite)
    | lift_lets -underBinder
    | split
    | (refine Kept.upd ?_ ?_)

theorem maskUnits_kept {m : Nat} (hm : 2147483647 &&& m = 2147483647) {s : State} {x_v : Via} {x_w : MaskedWrite} {x_data : Bytes} {x_m : Sample} {x_a4 : State} {x_a5 : MaskAcc} {x_a6 : List Nat} (h_x_a4 : Kept m s x_a4) : Kept m s (maskUnits x_v x_w x_data x_m x_a4 x_a5 x_a6).1 := by
  induction x_a6 generalizing x_v x_w x_data x_m x_a4 x_a5 with
  | nil =>
    unfold maskUnits
    repeat' first
      | (with_reducible first | assumption | exact Kept.refl _)
      | exact sub_trans (b := 2147483647) (by decide) hm
      | (intro x_1; refine (fun hx : Kept m s x_1 => ?_) ?_; (clear_value x_1); rotate_left; (unfold x_1))
      | (intro x_1; clear_value x_1)
      | intro _
      | (with_reducible first | apply State.stale_kept | apply State.base_kept | apply State.writeObj_kept | apply State.answer_kept | exact KeptO.none | apply KeptO.some | apply KeptO.ite | apply Kept.ite | apply Kept.ite1)
      | lift_lets -underBinder
      | split
      | dsimp only
      | (refine Kept.upd ?_ ?_)
      | (dsimp only)
  | cons hd tl ih =>
    unfold maskUnits
    repeat' first
      | with_reducible apply ih
      | (with_reducible first | assumption | exact Kept.refl _)
      | exact sub_trans (b := 2147483647) (by decide) hm
      | (intro x_1; refine (fun hx : Kept m s x_1 => ?_) ?_; (clear_value x_1); rotate_left; (unfold x_1))
      | (intro x_1; clear_value x_1)
      | intro _
      | (with_reducible first | apply State.stale_kept | apply State.base_kept | apply State.writeObj_kept | apply State.answer_kept | exact KeptO.none | apply KeptO.some | apply KeptO.ite | apply Kept.ite | apply Kept.ite1)
      | lift_lets -underBinder
      | split
      | dsimp only
      | (refine Kept.upd ?_ ?_)
      | (dsimp only)

theorem State.doMasked_kept {m : Nat} (hm : 2147483647 &&& m = 2147483647) {s : State} {x_s : State} {x_i : Fin 16} {x_x : Session} {x_w : MaskedWrite} {x_m : Sample} (h_x_s : Kept m s x_s) : Kept m s (State.doMasked x_s x_i x_x x_w x_m) := by
  unfold State.doMasked
  repeat' first
    | (with_reducible first | assumption | exact Kept.refl _)
    | exact sub_trans (b := 2147483647) (by decide) hm
    | (intro x_1; refine (fun hx : Kept m s x_1 => ?_) ?_; (clear_value x_1); rotate_left; (unfold x_1))
    | (intro x_1; refine (fun hx : Kept m s x_1.1 => ?_) ?_; (clear_value x_1); rotate_left; (unfold x_1))
    | (intro x_1; clear_value x_1)
    | (intro p; cases p <;> first | exact Or.inl (bit_of (a := 2147483647) hm rfl) | exact Or.inr rfl)
    | intro _
    | (with_reducible first | apply State.answer_kept | apply maskUnits_kept | refine maskUnits_kept_eq ?_ ?_ (by assumption) | exact KeptO.none | apply KeptO.some | apply KeptO.ite | apply Kept.ite | apply Kept.ite1)
    | lift_lets -underBinder
    | split
    | dsimp only
    | (refine Kept.upd ?_ ?_)

theorem State.doBlockRead_kept {m : Nat} (hm : 1056781 &&& m = 1056781) {s : State} {x_s : State} {x_i : Fin 16} {x_x : Session} {x_a : ObjAddr} {x_off : Nat} {x_len : Nat} (h_x_s : Kept m s x_s) : Kept m s (State.doBlockRead x_s x_i x_x x_a x_off x_len) := by
  unfold State.doBlockRead
  repeat' first
    | (with_reducible first | assumption | exact Kept.refl _)
    | exact sub_trans (b := 1056781) (by decide) hm
    | (intro x_1; refine (fun hx : Kept m s x_1 => ?_) ?_; (clear_value x_1); rotate_left; (unfold x_1))
    | (intro x_1; refine (fun hx : Kept m s x_1.st => ?_) ?_; (clear_value x_1); rotate_left; (unfold x_1))
    | (intro x_1; clear_value x_1)
    | (intro p; cases p <;> first | exact Or.inl (bit_of (a := 1056781) hm rfl) | exact Or.inr rfl)
    | intro _
    | (with_reducible first | apply State.readObj_kept | apply State.answer_kept | apply Kept.iteG | apply Kept.ite)
    | lift_lets -underBinder
    | dsimp only
    | (refine Kept.upd ?_ ?_)

theorem State.doBlockWrite_kept {m : Nat} (hm : 2147483647 &&& m = 2147483647) {s : State} {x_s : State} {x_i : Fin 16} {x_req : Nat} {x_x : Session} {x_f : Fragment} {x_m : Sample} (h_x_s : Kept m s x_s) : Kept m s (State.doBlockWrite x_s x_i x_req x_x x_f x_m) := by
  unfold State.doBlockWrite
  repeat' first
    | (with_reducible first | assumption | exact Kept.refl _)
    | exact sub_trans (b := 2147483647) (by decide) hm
    | (intro y hy; first | exact ⟨hy.1, hy.2.1, hy.2.2⟩ | exact ⟨hy.1, lastN_length _ _, hy.2.2⟩ | exact ⟨Nat.le_trans (List.length_filter_le _ _) hy.1, hy.2.1, hy.2.2⟩ | exact ⟨hy.1, hy.2.1, by have h3 := hy.2.2; simp only [List.length_tail]; omega⟩)
    | (intro x_1; refine (fun hx : Kept m s x_1 => ?_) ?_; (clear_value x_1); rotate_left; (unfold x_1))
    | (intro x_1; clear_value x_1)
    | (intro p; cases p <;> first | exact Or.inl (bit_of (a := 2147483647) hm rfl) | exact Or.inr rfl)
    | intro _
    | (with_reducible first | apply State.modSession_kept | apply State.answer_kept | apply writeItems_kept | exact KeptO.none | apply KeptO.some | apply KeptO.ite | apply Kept.ite)
    | lift_lets -underBinder
    | (refine Kept.upd ?_ ?_)

theorem State.stageBayItem_kept {m : Nat} (hm : 917517 &&& m = 917517) {s : State} {x_s : State} {x_b : Bay} {x_index : Nat} {x_sub : Nat} {x_epoch : Nat} {x_data : Bytes} (h_x_s : Kept m s x_s) : Kept m s (State.stageBayItem x_s x_b x_index x_sub x_epoch x_data) := by
  unfold State.stageBayItem
  repeat' first
    | (with_reducible first | assumption | exact Kept.refl _)
    | exact sub_trans (b := 917517) (by decide) hm
    | (intro x_1; refine (fun hx : Kept m s x_1 => ?_) ?_; (clear_value x_1); rotate_left; (unfold x_1))
    | (intro x_1; clear_value x_1)
    | intro _
    | (with_reducible first | apply State.answer_kept | apply State.stale_kept | apply State.ok_kept | apply State.putShadow_kept | apply State.setB_kept | exact KeptO.none | apply KeptO.some | apply KeptO.ite | apply Kept.ite)
    | lift_lets -underBinder
    | split
    | (refine Kept.upd ?_ ?_)

theorem State.stageSiteItem_kept {m : Nat} (hm : 917517 &&& m = 917517) {s : State} {x_s : State} {x_index : Nat} {x_sub : Nat} {x_epoch : Nat} {x_data : Bytes} (h_x_s : Kept m s x_s) : Kept m s (State.stageSiteItem x_s x_index x_sub x_epoch x_data) := by
  unfold State.stageSiteItem
  repeat' first
    | (with_reducible first | assumption | exact Kept.refl _)
    | exact sub_trans (b := 917517) (by decide) hm
    | (intro x_1; refine (fun hx : Kept m s x_1 => ?_) ?_; (clear_value x_1); rotate_left; (unfold x_1))
    | (intro x_1; clear_value x_1)
    | intro _
    | (with_reducible first | apply State.answer_kept | apply State.answerD_kept | apply State.each_kept | apply State.stale_kept | apply State.ok_kept | apply State.putShadow_kept | apply Kept.ite)
    | lift_lets -underBinder

theorem State.stageGraphItem_kept {m : Nat} (hm : 524297 &&& m = 524297) {s : State} {x_s : State} {x_index : Nat} {x_sub : Nat} {x_epoch : Nat} {x_data : Bytes} (h_x_s : Kept m s x_s) : Kept m s (State.stageGraphItem x_s x_index x_sub x_epoch x_data) := by
  unfold State.stageGraphItem
  repeat' first
    | (with_reducible first | assumption | exact Kept.refl _)
    | exact sub_trans (b := 524297) (by decide) hm
    | (intro x_1; refine (fun hx : Kept m s x_1 => ?_) ?_; (clear_value x_1); rotate_left; (unfold x_1))
    | (intro x_1; clear_value x_1)
    | intro _
    | (with_reducible first | apply State.answer_kept | apply State.answerD_kept | apply State.addG_kept | apply State.ok_kept | apply State.putShadow_kept | apply Kept.ite)
    | lift_lets -underBinder

theorem State.stageObj_kept {m : Nat} (hm : 917517 &&& m = 917517) {s : State} {x_s : State} {x_v : Via} {x_w : WItem} (h_x_s : Kept m s x_s) : Kept m s (State.stageObj x_s x_v x_w) := by
  unfold State.stageObj
  repeat' first
    | (with_reducible first | assumption | exact Kept.refl _)
    | exact sub_trans (b := 917517) (by decide) hm
    | (intro x_1; refine (fun hx : Kept m s x_1 => ?_) ?_; (clear_value x_1); rotate_left; (unfold x_1))
    | (intro x_1; clear_value x_1)
    | intro _
    | (with_reducible first | apply State.answer_kept | apply State.stale_kept | apply State.stageBayItem_kept | apply State.stageSiteItem_kept | apply State.stageGraphItem_kept | apply State.ok_kept | apply State.putShadow_kept | exact KeptO.none | apply KeptO.some | apply KeptO.ite | apply Kept.ite)
    | lift_lets -underBinder
    | split
    | (refine Kept.upd ?_ ?_)

theorem stageItems_kept {m : Nat} (hm : 917517 &&& m = 917517) {s : State} {x_v : Via} {x_a1 : State} {x_a2 : Nat} {x_a3 : List WItem} (h_x_a1 : Kept m s x_a1) : Kept m s (stageItems x_v x_a1 x_a2 x_a3) := by
  induction x_a3 generalizing x_v x_a1 x_a2 with
  | nil =>
    unfold stageItems
    repeat' first
      | (with_reducible first | assumption | exact Kept.refl _)
      | exact sub_trans (b := 917517) (by decide) hm
      | (intro x_1; refine (fun hx : Kept m s x_1 => ?_) ?_; (clear_value x_1); rotate_left; (unfold x_1))
      | (intro x_1; clear_value x_1)
      | intro _
      | (with_reducible first | apply State.ok_kept | apply State.failItem_kept | apply State.stageObj_kept | apply Kept.ite)
      | lift_lets -underBinder
      | split
      | (dsimp only)
  | cons hd tl ih =>
    unfold stageItems
    repeat' first
      | with_reducible apply ih
      | (with_reducible first | assumption | exact Kept.refl _)
      | exact sub_trans (b := 917517) (by decide) hm
      | (intro x_1; refine (fun hx : Kept m s x_1 => ?_) ?_; (clear_value x_1); rotate_left; (unfold x_1))
      | (intro x_1; clear_value x_1)
      | intro _
      | (with_reducible first | apply State.ok_kept | apply State.failItem_kept | apply State.stageObj_kept | apply Kept.ite)
      | lift_lets -underBinder
      | split
      | (dsimp only)

theorem State.discardUnit_kept {m : Nat} (hm : 917517 &&& m = 917517) {s : State} {x_s : State} {x_unit : Nat} {x_epoch : Nat} (h_x_s : Kept m s x_s) : Kept m s (State.discardUnit x_s x_unit x_epoch) := by
  unfold State.discardUnit
  repeat' first
    | (with_reducible first | assumption | exact Kept.refl _)
    | exact sub_trans (b := 917517) (by decide) hm
    | (intro x_1; refine (fun hx : Kept m s x_1 => ?_) ?_; (clear_value x_1); rotate_left; (unfold x_1))
    | (intro x_1; clear_value x_1)
    | intro _
    | (with_reducible first | apply State.answer_kept | apply State.stale_kept | apply State.ok_kept | apply State.setB_kept | apply State.dropShadow_kept | apply Kept.ite | apply Kept.dite)
    | lift_lets -underBinder

theorem discardUnits_kept {m : Nat} (hm : 917517 &&& m = 917517) {s : State} {x_a0 : State} {x_a1 : Nat} {x_a2 : List UnitEntry} (h_x_a0 : Kept m s x_a0) : Kept m s (discardUnits x_a0 x_a1 x_a2) := by
  induction x_a2 generalizing x_a0 x_a1 with
  | nil =>
    unfold discardUnits
    repeat' first
      | (with_reducible first | assumption | exact Kept.refl _)
      | exact sub_trans (b := 917517) (by decide) hm
      | (intro x_1; refine (fun hx : Kept m s x_1 => ?_) ?_; (clear_value x_1); rotate_left; (unfold x_1))
      | (intro x_1; clear_value x_1)
      | intro _
      | (with_reducible first | apply State.discardUnit_kept | apply State.ok_kept | apply State.failItem_kept | apply Kept.ite)
      | lift_lets -underBinder
      | split
      | (dsimp only)
  | cons hd tl ih =>
    unfold discardUnits
    repeat' first
      | with_reducible apply ih
      | (with_reducible first | assumption | exact Kept.refl _)
      | exact sub_trans (b := 917517) (by decide) hm
      | (intro x_1; refine (fun hx : Kept m s x_1 => ?_) ?_; (clear_value x_1); rotate_left; (unfold x_1))
      | (intro x_1; clear_value x_1)
      | intro _
      | (with_reducible first | apply State.discardUnit_kept | apply State.ok_kept | apply State.failItem_kept | apply Kept.ite)
      | lift_lets -underBinder
      | split
      | (dsimp only)

theorem State.stageGate_kept {m : Nat} (hm : 1 &&& m = 1) {s : State} {x_s : State} {x_x : Session} (x_k : State → State) (h_x_s : Kept m s x_s) (h_x_k : ∀ (v0 : State), Kept m s v0 → Kept m s (x_k v0)) : Kept m s (State.stageGate x_s x_x x_k) := by
  unfold State.stageGate
  repeat' first
    | (with_reducible first | assumption | exact Kept.refl _)
    | exact sub_trans (b := 1) (by decide) hm
    | (with_reducible first | apply h_x_k | apply State.answer_kept | apply Kept.ite)

theorem State.doCommit_kept {m : Nat} (hm : 4980745 &&& m = 4980745) {s : State} {x_s : State} {x_i : Fin 16} {x_req : Nat} {x_x : Session} {x_tag : Nat} {x_units : List UnitEntry} (h_x_s : Kept m s x_s) : Kept m s (State.doCommit x_s x_i x_req x_x x_tag x_units) := by
  unfold State.doCommit
  repeat' first
    | (with_reducible first | assumption | exact Kept.refl _)
    | exact sub_trans (b := 4980745) (by decide) hm
    | (intro y hy; first | exact ⟨hy.1, hy.2.1, hy.2.2⟩ | exact ⟨hy.1, lastN_length _ _, hy.2.2⟩ | exact ⟨Nat.le_trans (List.length_filter_le _ _) hy.1, hy.2.1, hy.2.2⟩ | exact ⟨hy.1, hy.2.1, by have h3 := hy.2.2; simp only [List.length_tail]; omega⟩)
    | (intro x_1; refine (fun hx : Kept m s x_1 => ?_) ?_; (clear_value x_1); rotate_left; (unfold x_1))
    | (intro x_1; clear_value x_1)
    | intro _
    | (with_reducible first | apply State.stageGate_kept | apply State.answer_kept | apply State.modSession_kept | apply State.startCommit_kept | exact KeptO.none | apply KeptO.some | apply KeptO.ite | apply Kept.ite)
    | lift_lets -underBinder
    | (refine Kept.upd ?_ ?_)

theorem State.serve_kept {m : Nat} (hm : 2147483647 &&& m = 2147483647) {s : State} {x_s : State} {x_i : Fin 16} {x_x : Session} {x_c : Instr} (h_x_s : Kept m s x_s) : Kept m s (State.serve x_s x_i x_x x_c) := by
  unfold State.serve
  repeat' first
    | (with_reducible first | assumption | exact Kept.refl _)
    | exact sub_trans (b := 2147483647) (by decide) hm
    | intro _
    | (with_reducible first | apply State.doHello_kept | apply readItems_kept | apply State.doWrite_kept | apply State.doMasked_kept | apply State.doBlockRead_kept | apply State.doBlockWrite_kept | apply State.stageGate_kept | apply stageItems_kept | apply discardUnits_kept | apply State.doCommit_kept)
    | split
    | (refine Kept.upd ?_ ?_)

theorem State.start_kept {m : Nat} (hm : 2147483647 &&& m = 2147483647) {s : State} {x_s : State} {x_i : Fin 16} {x_c : Instr} (h_x_s : Kept m s x_s) : Kept m s (State.start x_s x_i x_c) := by
  unfold State.start
  repeat' first
    | (with_reducible first | assumption | exact Kept.refl _)
    | exact sub_trans (b := 2147483647) (by decide) hm
    | (intro x_1; refine (fun hx : Kept m s x_1 => ?_) ?_; (clear_value x_1); rotate_left; (unfold x_1))
    | (intro x_1; clear_value x_1)
    | intro _
    | (with_reducible first | apply State.answer_kept | apply State.serve_kept | apply State.keep_kept | exact KeptO.none | apply KeptO.some | apply KeptO.ite | apply Kept.ite)
    | lift_lets -underBinder
    | split
    | (refine Kept.upd ?_ ?_)

theorem State.runWaits_kept {m : Nat} (hm : 2147483647 &&& m = 2147483647) {s : State} {x_s : State} {x_i : Fin 16} {x_a2 : Nat} (h_x_s : Kept m s x_s) : Kept m s (State.runWaits x_s x_i x_a2) := by
  induction x_a2 generalizing x_s x_i with
  | zero =>
    unfold State.runWaits
    repeat' first
      | (with_reducible first | assumption | exact Kept.refl _)
      | exact sub_trans (b := 2147483647) (by decide) hm
      | (intro y hy; first | exact ⟨hy.1, hy.2.1, hy.2.2⟩ | exact ⟨hy.1, lastN_length _ _, hy.2.2⟩ | exact ⟨Nat.le_trans (List.length_filter_le _ _) hy.1, hy.2.1, hy.2.2⟩ | exact ⟨hy.1, hy.2.1, by have h3 := hy.2.2; simp only [List.length_tail]; omega⟩)
      | intro _
      | (with_reducible first | apply State.start_kept | apply State.modSession_kept | exact KeptO.none | apply KeptO.some | apply KeptO.ite | apply Kept.ite)
      | split
      | (refine Kept.upd ?_ ?_)
      | (dsimp only)
  | succ k ih =>
    unfold State.runWaits
    repeat' first
      | with_reducible apply ih
      | (with_reducible first | assumption | exact Kept.refl _)
      | exact sub_trans (b := 2147483647) (by decide) hm
      | (intro y hy; first | exact ⟨hy.1, hy.2.1, hy.2.2⟩ | exact ⟨hy.1, lastN_length _ _, hy.2.2⟩ | exact ⟨Nat.le_trans (List.length_filter_le _ _) hy.1, hy.2.1, hy.2.2⟩ | exact ⟨hy.1, hy.2.1, by have h3 := hy.2.2; simp only [List.length_tail]; omega⟩)
      | intro _
      | (with_reducible first | apply State.start_kept | apply State.modSession_kept | exact KeptO.none | apply KeptO.some | apply KeptO.ite | apply Kept.ite)
      | split
      | (refine Kept.upd ?_ ?_)
      | (dsimp only)

theorem State.finish_kept {m : Nat} (hm : 2147483647 &&& m = 2147483647) {s : State} {x_s : State} {x_i : Fin 16} (h_x_s : Kept m s x_s) : Kept m s (State.finish x_s x_i) := by
  unfold State.finish
  repeat' first
    | (with_reducible first | assumption | exact Kept.refl _)
    | exact sub_trans (b := 2147483647) (by decide) hm
    | (with_reducible first | apply State.runWaits_kept | apply State.keep_kept | exact KeptO.none | apply KeptO.some | apply KeptO.ite)
    | split
    | (refine Kept.upd ?_ ?_)

theorem State.settleCommit_kept {m : Nat} (hm : 2147483647 &&& m = 2147483647) {s : State} {x_s : State} (h_x_s : Kept m s x_s) : Kept m s (State.settleCommit x_s) := by
  unfold State.settleCommit
  repeat' first
    | (with_reducible first | assumption | exact Kept.refl _)
    | exact sub_trans (b := 2147483647) (by decide) hm
    | (intro x_1; refine (fun hx : Kept m s x_1 => ?_) ?_; (clear_value x_1); rotate_left; (unfold x_1))
    | (intro x_1; clear_value x_1)
    | (intro p; cases p <;> first | exact Or.inl (bit_of (a := 2147483647) hm rfl) | exact Or.inr rfl)
    | intro _
    | (with_reducible first | apply State.closeCommit_kept | apply State.finish_kept | exact KeptO.none | apply KeptO.some | apply KeptO.ite | apply Kept.ite)
    | lift_lets -underBinder
    | split
    | (refine Kept.upd ?_ ?_)

theorem State.postEnded_kept {m : Nat} (hm : 2147483647 &&& m = 2147483647) {s : State} {x_s : State} {x_i : Fin 16} {x_status : Nat} {x_detail : Nat} (h_x_s : Kept m s x_s) : Kept m s (State.postEnded x_s x_i x_status x_detail) := by
  unfold State.postEnded
  repeat' first
    | (with_reducible first | assumption | exact Kept.refl _)
    | exact sub_trans (b := 2147483647) (by decide) hm
    | (intro y hy; first | exact ⟨hy.1, hy.2.1, hy.2.2⟩ | exact ⟨hy.1, lastN_length _ _, hy.2.2⟩)
    | (intro x_1; refine (fun hx : Kept m s x_1 => ?_) ?_; (clear_value x_1); rotate_left; (unfold x_1))
    | (intro x_1; clear_value x_1)
    | intro _
    | (with_reducible first | apply State.modSession_kept | apply writeItems_kept | apply State.failItem_kept | apply State.answerD_kept | apply State.finish_kept | apply Kept.ite)
    | lift_lets -underBinder
    | split
    | dsimp only
    | (refine Kept.upd ?_ ?_)

theorem State.settlePosts_kept {m : Nat} (hm : 2147483647 &&& m = 2147483647) {s : State} {x_s : State} (h_x_s : Kept m s x_s) : Kept m s (State.settlePosts x_s) := by
  unfold State.settlePosts
  repeat' first
    | (with_reducible first | assumption | exact Kept.refl _)
    | exact sub_trans (b := 2147483647) (by decide) hm
    | (intro p; cases p <;> first | exact Or.inl (bit_of (a := 2147483647) hm rfl) | exact Or.inr rfl)
    | intro _
    | (with_reducible first | apply State.each_kept | apply State.postEnded_kept)
    | dsimp only
    | (refine Kept.upd ?_ ?_)

theorem State.request_kept {m : Nat} (hm : 2147483647 &&& m = 2147483647) {s : State} {x_s : State} {x_i : Fin 16} {x_c : Instr} (h_x_s : Kept m s x_s) :
    Kept m s (State.request x_s x_i x_c) := by
  unfold State.request
  extract_lets a
  have ha : Kept m s a := State.settlePosts_kept (sub_trans (b := 2147483647) (by decide) hm) h_x_s
  clear_value a
  split
  · rename_i b _ _ x req _ _
    have hb : Kept m s b := State.modSession_kept (sub_trans (b := 2147483647) (by decide) hm) ha (fun y hy => ⟨hy.1, hy.2.1, hy.2.2⟩)
    clear_value b
    split
    · refine Kept.upd hb ?_
      intro p; cases p <;> first | exact Or.inl (bit_of (a := 2147483647) hm rfl) | exact Or.inr rfl
    · split
      · refine Kept.upd hb ?_
        intro p; cases p <;> first | exact Or.inl (bit_of (a := 2147483647) hm rfl) | exact Or.inr rfl
      · split
        · split
          · exact State.answer_kept (sub_trans (b := 2147483647) (by decide) hm) hb
          · rename_i hw
            refine State.modSession_kept (sub_trans (b := 2147483647) (by decide) hm) hb (fun y hy => ⟨hy.1, hy.2.1, ?_⟩)
            simp only [List.length_append, List.length_cons, List.length_nil]; omega
        · exact State.start_kept (sub_trans (b := 2147483647) (by decide) hm) hb
  · exact ha

theorem State.sendEvents_kept {m : Nat} (hm : 262145 &&& m = 262145) {s : State} {x_s : State} {x_i : Fin 16} (h_x_s : Kept m s x_s) : Kept m s (State.sendEvents x_s x_i) := by
  unfold State.sendEvents
  repeat' first
    | (with_reducible first | assumption | exact Kept.refl _)
    | exact sub_trans (b := 262145) (by decide) hm
    | (intro y hy; first | exact ⟨hy.1, hy.2.1, hy.2.2⟩ | exact ⟨hy.1, lastN_length _ _, hy.2.2⟩ | exact ⟨Nat.le_trans (List.length_filter_le _ _) hy.1, hy.2.1, hy.2.2⟩ | exact ⟨hy.1, hy.2.1, by have h3 := hy.2.2; simp only [List.length_tail]; omega⟩)
    | (intro x_1; refine (fun hx : Kept m s x_1 => ?_) ?_; (clear_value x_1); rotate_left; (unfold x_1))
    | (intro x_1; clear_value x_1)
    | intro _
    | (with_reducible first | apply State.answerBody_kept | apply State.modSession_kept | exact KeptO.none | apply KeptO.some | apply KeptO.ite | apply Kept.ite)
    | lift_lets -underBinder
    | split
    | (refine Kept.upd ?_ ?_)

theorem State.holdEnds_kept {m : Nat} (hm : 2 &&& m = 2) {s : State} {x_s : State} {x_i : Fin 16} {x_src : Nat} (h_x_s : Kept m s x_s) : Kept m s (State.holdEnds x_s x_i x_src) := by
  unfold State.holdEnds
  repeat' first
    | (with_reducible first | assumption | exact Kept.refl _)
    | exact sub_trans (b := 2) (by decide) hm
    | intro _
    | (with_reducible first | apply State.advance_kept | exact KeptO.none | apply KeptO.some | apply KeptO.ite)
    | split
    | (refine Kept.upd ?_ ?_)

theorem State.resend_kept {m : Nat} (hm : 1 &&& m = 1) {s : State} {x_s : State} {x_i : Fin 16} (h_x_s : Kept m s x_s) : Kept m s (State.resend x_s x_i) := by
  unfold State.resend
  repeat' first
    | (with_reducible first | assumption | exact Kept.refl _)
    | exact sub_trans (b := 1) (by decide) hm
    | (intro x_1; refine (fun hx : Kept m s x_1 => ?_) ?_; (clear_value x_1); rotate_left; (unfold x_1))
    | (intro x_1; clear_value x_1)
    | intro _
    | (with_reducible first | apply State.answerBody_kept | exact KeptO.none | apply KeptO.some | apply KeptO.ite | apply Kept.ite)
    | lift_lets -underBinder
    | split
    | (refine Kept.upd ?_ ?_)

theorem State.ownWrite_kept {m : Nat} (hm : 2147483647 &&& m = 2147483647) {s : State} {x_s : State} {x_i : Fin 16} {x_sub : Nat} {x_type : Nat} {x_data : Bytes} (h_x_s : Kept m s x_s) : Kept m s (State.ownWrite x_s x_i x_sub x_type x_data) := by
  unfold State.ownWrite
  repeat' first
    | (with_reducible first | assumption | exact Kept.refl _)
    | exact sub_trans (b := 2147483647) (by decide) hm
    | (with_reducible first | apply State.writeObj_kept | apply State.answer_kept | exact KeptO.none | apply KeptO.some | apply KeptO.ite | apply Kept.ite)
    | split
    | (refine Kept.upd ?_ ?_)

theorem State.freeData_kept {m : Nat} (hm : 4 &&& m = 4) {s : State} {x_s : State} {x_n : Nat} (h_x_s : Kept m s x_s) : Kept m s (State.freeData x_s x_n).2 := by
  unfold State.freeData
  repeat' first
    | (with_reducible first | assumption | exact Kept.refl _)
    | (intro p; cases p <;> first | exact Or.inl (bit_of (a := 4) hm rfl) | exact Or.inr rfl)
    | intro _
    | with_reducible apply Kept.ite2
    | dsimp only
    | (refine Kept.updFresh ?_ ?_)
    | (refine Kept.upd ?_ ?_)

theorem State.portRead_kept {m : Nat} (hm : 1056781 &&& m = 1056781) {s : State} {x_s : State} {x_a : ObjAddr} {x_off : Nat} {x_len : Nat} {x_complete : Bool} (h_x_s : Kept m s x_s) : Kept m s (State.portRead x_s x_a x_off x_len x_complete) := by
  unfold State.portRead
  repeat' first
    | (with_reducible first | assumption | exact Kept.refl _)
    | exact sub_trans (b := 1056781) (by decide) hm
    | (intro x_1; refine (fun hx : Kept m s x_1 => ?_) ?_; (clear_value x_1); rotate_left; (unfold x_1))
    | (intro x_1; refine (fun hx : Kept m s x_1.2 => ?_) ?_; (clear_value x_1); rotate_left; (unfold x_1))
    | (intro x_1; refine (fun hx : Kept m s x_1.st => ?_) ?_; (clear_value x_1); rotate_left; (unfold x_1))
    | (intro x_1; clear_value x_1)
    | (intro p; cases p <;> first | exact Or.inl (bit_of (a := 1056781) hm rfl) | exact Or.inr rfl)
    | intro _
    | (with_reducible first | apply State.readObj_kept | apply State.freeData_kept | apply Kept.iteG | apply Kept.ite | apply Kept.ite2)
    | lift_lets -underBinder
    | dsimp only
    | (refine Kept.upd ?_ ?_)

theorem State.portWrite_kept {m : Nat} (hm : 2147483647 &&& m = 2147483647) {s : State} {x_s : State} {x_a : ObjAddr} {x_off : Nat} {x_data : Bytes} {x_crc : BitVec 16} {x_m : Sample} (h_x_s : Kept m s x_s) : Kept m s (State.portWrite x_s x_a x_off x_data x_crc x_m) := by
  unfold State.portWrite
  repeat' first
    | (with_reducible first | assumption | exact Kept.refl _)
    | exact sub_trans (b := 2147483647) (by decide) hm
    | (intro x_1; refine (fun hx : Kept m s x_1 => ?_) ?_; (clear_value x_1); rotate_left; (unfold x_1))
    | (intro x_1; clear_value x_1)
    | (intro p; cases p <;> first | exact Or.inl (bit_of (a := 2147483647) hm rfl) | exact Or.inr rfl)
    | intro _
    | (with_reducible first | apply State.answer_kept | apply State.writeObj_kept | apply Kept.ite)
    | lift_lets -underBinder
    | (refine Kept.upd ?_ ?_)

theorem execSessionOpen_kept {m : Nat} (hm : 262152 &&& m = 262152) {s : State} {x_port : Fin 2} {x_cert : Cert} {x_s : State} (h_x_s : Kept m s x_s) : KeptN m s (execSessionOpen x_port x_cert x_s) := by
  unfold execSessionOpen
  repeat' first
    | (with_reducible first | assumption | exact Kept.refl _)
    | exact sub_trans (b := 262152) (by decide) hm
    | (with_reducible first | apply State.openSession_kept | apply KeptN.next | apply KeptN.ite)

theorem execSessionClose_kept {m : Nat} (hm : 786440 &&& m = 786440) {s : State} {x_sid : Fin 16} {x_s : State} (h_x_s : Kept m s x_s) : KeptN m s (execSessionClose x_sid x_s) := by
  unfold execSessionClose
  repeat' first
    | (with_reducible first | assumption | exact Kept.refl _)
    | exact sub_trans (b := 786440) (by decide) hm
    | (with_reducible first | apply State.closeSession_kept | apply KeptN.next | apply KeptN.ite)

theorem execSessionIdleTimeout_kept {m : Nat} (hm : 786442 &&& m = 786442) {s : State} {x_sid : Fin 16} {x_s : State} (h_x_s : Kept m s x_s) : KeptN m s (execSessionIdleTimeout x_sid x_s) := by
  unfold execSessionIdleTimeout
  repeat' first
    | (with_reducible first | assumption | exact Kept.refl _)
    | exact sub_trans (b := 786442) (by decide) hm
    | (with_reducible first | apply State.closeSession_kept | apply State.advance_kept | exact KeptO.none | apply KeptO.some | apply KeptO.ite | apply KeptN.next | apply KeptN.ite)
    | split
    | (refine Kept.upd ?_ ?_)

theorem execHello_kept {m : Nat} (hm : 2147483647 &&& m = 2147483647) {s : State} {x_sid : Fin 16} {x_req : Nat} {x_proto : BitVec 8} {x_dict : BitVec 8} {x_smp : Sample} {x_s : State} (h_x_s : Kept m s x_s) : KeptN m s (execHello x_sid x_req x_proto x_dict x_smp x_s) := by
  unfold execHello
  repeat' first
    | (with_reducible first | assumption | exact Kept.refl _)
    | exact sub_trans (b := 2147483647) (by decide) hm
    | (with_reducible first | apply State.request_kept | apply KeptN.next | apply KeptN.ite)

theorem execRead_kept {m : Nat} (hm : 2147483647 &&& m = 2147483647) {s : State} {x_sid : Fin 16} {x_req : Nat} {x_room : Nat} {x_items : List ObjAddr} {x_s : State} (h_x_s : Kept m s x_s) : KeptN m s (execRead x_sid x_req x_room x_items x_s) := by
  unfold execRead
  repeat' first
    | (with_reducible first | assumption | exact Kept.refl _)
    | exact sub_trans (b := 2147483647) (by decide) hm
    | (with_reducible first | apply State.request_kept | apply KeptN.next | apply KeptN.ite)

theorem execWrite_kept {m : Nat} (hm : 2147483647 &&& m = 2147483647) {s : State} {x_sid : Fin 16} {x_req : Nat} {x_items : List WItem} {x_smp : Sample} {x_s : State} (h_x_s : Kept m s x_s) : KeptN m s (execWrite x_sid x_req x_items x_smp x_s) := by
  unfold execWrite
  repeat' first
    | (with_reducible first | assumption | exact Kept.refl _)
    | exact sub_trans (b := 2147483647) (by decide) hm
    | (with_reducible first | apply State.request_kept | apply KeptN.next | apply KeptN.ite)

theorem execMaskedWrite_kept {m : Nat} (hm : 2147483647 &&& m = 2147483647) {s : State} {x_sid : Fin 16} {x_req : Nat} {x_m : MaskedWrite} {x_smp : Sample} {x_s : State} (h_x_s : Kept m s x_s) : KeptN m s (execMaskedWrite x_sid x_req x_m x_smp x_s) := by
  unfold execMaskedWrite
  repeat' first
    | (with_reducible first | assumption | exact Kept.refl _)
    | exact sub_trans (b := 2147483647) (by decide) hm
    | (with_reducible first | apply State.request_kept | apply KeptN.next | apply KeptN.ite)

theorem execBlockRead_kept {m : Nat} (hm : 2147483647 &&& m = 2147483647) {s : State} {x_sid : Fin 16} {x_req : Nat} {x_obj : ObjAddr} {x_off : Nat} {x_len : Nat} {x_s : State} (h_x_s : Kept m s x_s) : KeptN m s (execBlockRead x_sid x_req x_obj x_off x_len x_s) := by
  unfold execBlockRead
  repeat' first
    | (with_reducible first | assumption | exact Kept.refl _)
    | exact sub_trans (b := 2147483647) (by decide) hm
    | (with_reducible first | apply State.request_kept | apply KeptN.next | apply KeptN.ite)

theorem execBlockWrite_kept {m : Nat} (hm : 2147483647 &&& m = 2147483647) {s : State} {x_sid : Fin 16} {x_req : Nat} {x_frag : Fragment} {x_smp : Sample} {x_s : State} (h_x_s : Kept m s x_s) : KeptN m s (execBlockWrite x_sid x_req x_frag x_smp x_s) := by
  unfold execBlockWrite
  repeat' first
    | (with_reducible first | assumption | exact Kept.refl _)
    | exact sub_trans (b := 2147483647) (by decide) hm
    | (with_reducible first | apply State.request_kept | apply KeptN.next | apply KeptN.ite)

theorem execBlockWriteAbandon_kept {m : Nat} (hm : 262146 &&& m = 262146) {s : State} {x_sid : Fin 16} {x_s : State} (h_x_s : Kept m s x_s) : KeptN m s (execBlockWriteAbandon x_sid x_s) := by
  unfold execBlockWriteAbandon
  repeat' first
    | (with_reducible first | assumption | exact Kept.refl _)
    | exact sub_trans (b := 262146) (by decide) hm
    | (intro y hy; first | exact ⟨hy.1, hy.2.1, hy.2.2⟩ | exact ⟨hy.1, lastN_length _ _, hy.2.2⟩ | exact ⟨Nat.le_trans (List.length_filter_le _ _) hy.1, hy.2.1, hy.2.2⟩ | exact ⟨hy.1, hy.2.1, by have h3 := hy.2.2; simp only [List.length_tail]; omega⟩)
    | intro _
    | (with_reducible first | apply State.modSession_kept | apply State.advance_kept | exact KeptO.none | apply KeptO.some | apply KeptO.ite | apply KeptN.next | apply KeptN.ite)
    | split
    | (refine Kept.upd ?_ ?_)

theorem execStage_kept {m : Nat} (hm : 2147483647 &&& m = 2147483647) {s : State} {x_sid : Fin 16} {x_req : Nat} {x_items : List WItem} {x_s : State} (h_x_s : Kept m s x_s) : KeptN m s (execStage x_sid x_req x_items x_s) := by
  unfold execStage
  repeat' first
    | (with_reducible first | assumption | exact Kept.refl _)
    | exact sub_trans (b := 2147483647) (by decide) hm
    | (with_reducible first | apply State.request_kept | apply KeptN.next | apply KeptN.ite)

theorem execStageDiscard_kept {m : Nat} (hm : 2147483647 &&& m = 2147483647) {s : State} {x_sid : Fin 16} {x_req : Nat} {x_units : List UnitEntry} {x_s : State} (h_x_s : Kept m s x_s) : KeptN m s (execStageDiscard x_sid x_req x_units x_s) := by
  unfold execStageDiscard
  repeat' first
    | (with_reducible first | assumption | exact Kept.refl _)
    | exact sub_trans (b := 2147483647) (by decide) hm
    | (with_reducible first | apply State.request_kept | apply KeptN.next | apply KeptN.ite)

theorem execCommit_kept {m : Nat} (hm : 2147483647 &&& m = 2147483647) {s : State} {x_sid : Fin 16} {x_req : Nat} {x_tag : BitVec 16} {x_units : List UnitEntry} {x_s : State} (h_x_s : Kept m s x_s) : KeptN m s (execCommit x_sid x_req x_tag x_units x_s) := by
  unfold execCommit
  repeat' first
    | (with_reducible first | assumption | exact Kept.refl _)
    | exact sub_trans (b := 2147483647) (by decide) hm
    | (with_reducible first | apply State.request_kept | apply KeptN.next | apply KeptN.ite)

theorem execCommitApply_kept {m : Nat} (hm : 2147483647 &&& m = 2147483647) {s : State} {x_unit : BitVec 12} {x_smp : Sample} {x_s : State} (h_x_s : Kept m s x_s) : KeptN m s (execCommitApply x_unit x_smp x_s) := by
  unfold execCommitApply
  repeat' first
    | (with_reducible first | assumption | exact Kept.refl _)
    | exact sub_trans (b := 2147483647) (by decide) hm
    | (with_reducible first | apply State.settleCommit_kept | apply State.boundaryOf_kept | apply KeptN.next | apply KeptN.ite)

theorem execCommitWindowExpiry_kept {m : Nat} (hm : 2147483647 &&& m = 2147483647) {s : State} {x_s : State} (h_x_s : Kept m s x_s) : KeptN m s (execCommitWindowExpiry x_s) := by
  unfold execCommitWindowExpiry
  repeat' first
    | (with_reducible first | assumption | exact Kept.refl _)
    | exact sub_trans (b := 2147483647) (by decide) hm
    | (with_reducible first | apply State.settleCommit_kept | apply State.cancelAll_kept | apply State.advance_kept | exact KeptO.none | apply KeptO.some | apply KeptO.ite | apply KeptN.next | apply KeptN.ite)
    | split
    | (refine Kept.upd ?_ ?_)

theorem execGatherWindowEnd_kept {m : Nat} (hm : 2147483647 &&& m = 2147483647) {s : State} {x_l : Lane} {x_eh : BitVec 8} {x_ew : BitVec 8} {x_eq : EqSet} {x_s : State} (h_x_s : Kept m s x_s) : KeptN m s (execGatherWindowEnd x_l x_eh x_ew x_eq x_s) := by
  unfold execGatherWindowEnd
  repeat' first
    | (with_reducible first | assumption | exact Kept.refl _)
    | exact sub_trans (b := 2147483647) (by decide) hm
    | (intro x_1; refine (fun hx : Kept m s x_1 => ?_) ?_; (clear_value x_1); rotate_left; (unfold x_1))
    | (intro x_1; clear_value x_1)
    | intro _
    | (with_reducible first | apply State.windowEnd_kept | apply State.settleCommit_kept | apply State.report_kept | apply State.dropShadow_kept | apply KeptN.next | apply KeptN.ite | apply Kept.ite)
    | lift_lets -underBinder

theorem execEventSend_kept {m : Nat} (hm : 262145 &&& m = 262145) {s : State} {x_sid : Fin 16} {x_s : State} (h_x_s : Kept m s x_s) : KeptN m s (execEventSend x_sid x_s) := by
  unfold execEventSend
  repeat' first
    | (with_reducible first | assumption | exact Kept.refl _)
    | exact sub_trans (b := 262145) (by decide) hm
    | (with_reducible first | apply State.sendEvents_kept | apply KeptN.next | apply KeptN.ite)

theorem execEventHoldExpiry_kept {m : Nat} (hm : 2 &&& m = 2) {s : State} {x_sid : Fin 16} {x_src : BitVec 11} {x_s : State} (h_x_s : Kept m s x_s) : KeptN m s (execEventHoldExpiry x_sid x_src x_s) := by
  unfold execEventHoldExpiry
  repeat' first
    | (with_reducible first | assumption | exact Kept.refl _)
    | exact sub_trans (b := 2) (by decide) hm
    | (with_reducible first | apply State.holdEnds_kept | apply KeptN.next | apply KeptN.ite)

theorem execDataSubscribe_kept {m : Nat} (hm : 2147483647 &&& m = 2147483647) {s : State} {x_sid : Fin 16} {x_on : Bool} {x_s : State} (h_x_s : Kept m s x_s) : KeptN m s (execDataSubscribe x_sid x_on x_s) := by
  unfold execDataSubscribe
  repeat' first
    | (with_reducible first | assumption | exact Kept.refl _)
    | exact sub_trans (b := 2147483647) (by decide) hm
    | (with_reducible first | apply State.ownWrite_kept | apply KeptN.next | apply KeptN.ite)

theorem execDataAck_kept {m : Nat} (hm : 2147483647 &&& m = 2147483647) {s : State} {x_sid : Fin 16} {x_seq : BitVec 32} {x_s : State} (h_x_s : Kept m s x_s) : KeptN m s (execDataAck x_sid x_seq x_s) := by
  unfold execDataAck
  repeat' first
    | (with_reducible first | assumption | exact Kept.refl _)
    | exact sub_trans (b := 2147483647) (by decide) hm
    | (with_reducible first | apply State.ownWrite_kept | apply KeptN.next | apply KeptN.ite)

theorem execDataEventResend_kept {m : Nat} (hm : 1 &&& m = 1) {s : State} {x_sid : Fin 16} {x_s : State} (h_x_s : Kept m s x_s) : KeptN m s (execDataEventResend x_sid x_s) := by
  unfold execDataEventResend
  repeat' first
    | (with_reducible first | assumption | exact Kept.refl _)
    | exact sub_trans (b := 1) (by decide) hm
    | (with_reducible first | apply State.resend_kept | apply KeptN.next | apply KeptN.ite)

theorem execMgmtRead_kept {m : Nat} (hm : 1056781 &&& m = 1056781) {s : State} {x_obj : ObjAddr} {x_off : Nat} {x_len : Nat} {x_complete : Bool} {x_s : State} (h_x_s : Kept m s x_s) : KeptN m s (execMgmtRead x_obj x_off x_len x_complete x_s) := by
  unfold execMgmtRead
  repeat' first
    | (with_reducible first | assumption | exact Kept.refl _)
    | exact sub_trans (b := 1056781) (by decide) hm
    | intro _
    | (with_reducible first | apply State.keeper_kept | apply State.portRead_kept | apply KeptN.next | apply KeptN.ite)

theorem execMgmtWrite_kept {m : Nat} (hm : 2147483647 &&& m = 2147483647) {s : State} {x_obj : ObjAddr} {x_off : Nat} {x_data : Bytes} {x_crc : BitVec 16} {x_smp : Sample} {x_s : State} (h_x_s : Kept m s x_s) : KeptN m s (execMgmtWrite x_obj x_off x_data x_crc x_smp x_s) := by
  unfold execMgmtWrite
  repeat' first
    | (with_reducible first | assumption | exact Kept.refl _)
    | exact sub_trans (b := 2147483647) (by decide) hm
    | intro _
    | (with_reducible first | apply State.keeper_kept | apply State.portWrite_kept | apply KeptN.next | apply KeptN.ite)

theorem execMgmtStatus_kept {m : Nat} (hm : 1 &&& m = 1) {s : State} {x_s : State} (h_x_s : Kept m s x_s) : KeptN m s (execMgmtStatus x_s) := by
  unfold execMgmtStatus
  repeat' first
    | (with_reducible first | assumption | exact Kept.refl _)
    | exact sub_trans (b := 1) (by decide) hm
    | intro _
    | (with_reducible first | apply State.keeper_kept | apply State.answerBody_kept | apply KeptN.next | apply KeptN.ite)

theorem execRegisterWrite_kept {m : Nat} (hm : 2147483647 &&& m = 2147483647) {s : State} {x_role : Role} {x_item : WItem} {x_s : State} (h_x_s : Kept m s x_s) : KeptN m s (execRegisterWrite x_role x_item x_s) := by
  unfold execRegisterWrite
  repeat' first
    | (with_reducible first | assumption | exact Kept.refl _)
    | exact sub_trans (b := 2147483647) (by decide) hm
    | (intro p; cases p <;> first | exact Or.inl (bit_of (a := 2147483647) hm rfl) | exact Or.inr rfl)
    | (with_reducible first | apply State.writeObj_kept | exact KeptO.none | apply KeptO.some | apply KeptO.ite | apply KeptN.next | apply KeptN.ite)
    | (refine Kept.updFresh ?_ ?_)
    | (refine Kept.upd ?_ ?_)

theorem execGraphDrainComplete_kept {m : Nat} (hm : 2147483647 &&& m = 2147483647) {s : State} {x_g : Graph} {x_s : State} (h_x_s : Kept m s x_s) : KeptN m s (execGraphDrainComplete x_g x_s) := by
  unfold execGraphDrainComplete
  repeat' first
    | (with_reducible first | assumption | exact Kept.refl _)
    | exact sub_trans (b := 2147483647) (by decide) hm
    | (with_reducible first | apply State.releaseHeld_kept | apply State.stopped_kept | apply State.settleCommit_kept | apply State.fabricBoundary_kept | exact KeptO.none | apply KeptO.some | apply KeptO.ite | apply KeptN.next | apply KeptN.ite | apply Kept.ite)
    | split
    | (refine Kept.upd ?_ ?_)

end Sys2Proof.Machine
end

