-- ==== Sys2Proof/Laws/KeptInternal.lean ====
section
/-! SUPPORT. What the operations of Machine/Internal.lean keep. -/

set_option linter.all false

namespace Sys2Proof.Machine

theorem State.pathWrite_kept {m : Nat} (hm : 2147483647 &&& m = 2147483647) {s : State} {x_s : State} {x_a : ObjAddr} {x_type : Option Nat} {x_epoch : Nat} {x_data : Bytes} (h_x_s : Kept m s x_s) : Kept m s (State.pathWrite x_s x_a x_type x_epoch x_data) := by
  unfold State.pathWrite
  repeat' first
    | (with_reducible first | assumption | exact Kept.refl _)
    | exact sub_trans (b := 2147483647) (by decide) hm
    | (intro p; cases p <;> first | exact Or.inl (bit_of (a := 2147483647) hm rfl) | exact Or.inr rfl)
    | (with_reducible first | apply State.answer_kept | apply State.writeObj_kept | apply Kept.ite)
    | (refine Kept.updFresh ?_ ?_)
    | (refine Kept.upd ?_ ?_)

theorem State.pathRead_kept {m : Nat} (hm : 1056781 &&& m = 1056781) {s : State} {x_s : State} {x_a : ObjAddr} (h_x_s : Kept m s x_s) : Kept m s (State.pathRead x_s x_a).st := by
  unfold State.pathRead
  repeat' first
    | (with_reducible first | assumption | exact Kept.refl _)
    | exact sub_trans (b := 1056781) (by decide) hm
    | (with_reducible first | apply State.readObj_kept | apply Kept.iteG | apply Kept.ite)
    | dsimp only

theorem Got.value_kept {m : Nat} (hm : 4 &&& m = 4) {s : State} {x_g : Got} (h_x_g : Kept m s x_g.st) : Kept m s (Got.value x_g).2 := by
  unfold Got.value
  repeat' first
    | (with_reducible first | assumption | exact Kept.refl _)
    | exact sub_trans (b := 4) (by decide) hm
    | (intro x_1; refine (fun hx : Kept m s x_1 => ?_) ?_; (clear_value x_1); rotate_left; (unfold x_1))
    | (intro x_1; refine (fun hx : Kept m s x_1.2 => ?_) ?_; (clear_value x_1); rotate_left; (unfold x_1))
    | (intro x_1; clear_value x_1)
    | intro _
    | (with_reducible first | apply State.free_kept | refine State.free_kept_eq ?_ ?_ (by assumption) | exact KeptO.none | apply KeptO.some | apply KeptO.ite | apply Kept.ite | apply Kept.ite2)
    | lift_lets -underBinder
    | split
    | dsimp only
    | (refine Kept.upd ?_ ?_)

theorem State.deliverToken_kept {m : Nat} (hm : 4227080 &&& m = 4227080) {s : State} {x_s : State} {x_t : Token} (h_x_s : Kept m s x_s) : Kept m s (State.deliverToken x_s x_t) := by
  unfold State.deliverToken
  repeat' first
    | (with_reducible first | assumption | exact Kept.refl _)
    | exact sub_trans (b := 4227080) (by decide) hm
    | (with_reducible first | apply State.inner_kept | apply State.discard_kept | apply Kept.ite)

theorem State.siteStale_kept {m : Nat} (hm : 4620296 &&& m = 4620296) {s : State} {x_s : State} {x_g : Nat} {x_n : Nat} {x_seq : Nat} (h_x_s : Kept m s x_s) : Kept m s (State.siteStale x_s x_g x_n x_seq) := by
  unfold State.siteStale
  repeat' first
    | (with_reducible first | assumption | exact Kept.refl _)
    | exact sub_trans (b := 4620296) (by decide) hm
    | (intro x_1; refine (fun hx : Kept m s x_1 => ?_) ?_; (clear_value x_1); rotate_left; (unfold x_1))
    | (intro x_1; clear_value x_1)
    | intro _
    | (with_reducible first | apply State.setG_kept | apply State.nodeError_kept | apply State.event_kept | apply Kept.ite)
    | lift_lets -underBinder
    | split
    | dsimp only

theorem State.benchObj_kept {m : Nat} (hm : 2147483647 &&& m = 2147483647) {s : State} {x_s : State} {x_n : Bench} (h_x_s : Kept m s x_s) : Kept m s (State.benchObj x_s x_n) := by
  unfold State.benchObj
  repeat' first
    | (with_reducible first | assumption | exact Kept.refl _)
    | exact sub_trans (b := 2147483647) (by decide) hm
    | (intro x_1; refine (fun hx : Kept m s x_1 => ?_) ?_; (clear_value x_1); rotate_left; (unfold x_1))
    | (intro x_1; refine (fun hx : Kept m s x_1.2 => ?_) ?_; (clear_value x_1); rotate_left; (unfold x_1))
    | (intro x_1; refine (fun hx : Kept m s x_1.st => ?_) ?_; (clear_value x_1); rotate_left; (unfold x_1))
    | (intro x_1; clear_value x_1)
    | (intro p; cases p <;> first | exact Or.inl (bit_of (a := 2147483647) hm rfl) | exact Or.inr rfl)
    | intro _
    | (with_reducible first | apply State.modBench_kept | apply State.pathWrite_kept | apply State.siteStale_kept | apply State.nodeError_kept | apply State.pathRead_kept | apply Got.value_kept | apply State.deliverToken_kept | apply Got.st_kept | apply State.pumpReqs_kept | apply State.sched_kept | apply Kept.iteG | apply Kept.ite | apply Kept.ite1 | apply Kept.ite2)
    | lift_lets -underBinder
    | split
    | dsimp only
    | (refine Kept.upd ?_ ?_)

theorem State.bayObj_kept {m : Nat} (hm : 2147483647 &&& m = 2147483647) {s : State} {x_s : State} {x_b : Bay} (h_x_s : Kept m s x_s) : Kept m s (State.bayObj x_s x_b) := by
  unfold State.bayObj
  repeat' first
    | (with_reducible first | assumption | exact Kept.refl _)
    | exact sub_trans (b := 2147483647) (by decide) hm
    | (intro x_1; refine (fun hx : Kept m s x_1 => ?_) ?_; (clear_value x_1); rotate_left; (unfold x_1))
    | (intro x_1; clear_value x_1)
    | (intro p; cases p <;> first | exact Or.inl (bit_of (a := 2147483647) hm rfl) | exact Or.inr rfl)
    | intro _
    | (with_reducible first | apply State.modBay_kept | apply State.pathWrite_kept | apply State.ok_kept | exact KeptO.none | apply KeptO.some | apply KeptO.ite | apply Kept.ite)
    | lift_lets -underBinder
    | split
    | (refine Kept.upd ?_ ?_)

theorem State.delayPost_kept {m : Nat} (hm : 4227081 &&& m = 4227081) {s : State} {x_s : State} {x_i : Fin 4} {x_due : Nat} {x_t : Token} (h_x_s : Kept m s x_s) : Kept m s (State.delayPost x_s x_i x_due x_t) := by
  unfold State.delayPost
  repeat' first
    | (with_reducible first | assumption | exact Kept.refl _)
    | exact sub_trans (b := 4227081) (by decide) hm
    | (with_reducible first | apply State.sched_kept | apply State.discard_kept | apply State.popDelay_kept | apply State.takeToken_kept | refine (State.takeToken_kept ?_ ?_).out (by assumption) | apply State.addLate_kept | apply State.holdDelay_kept | exact KeptO.none | apply KeptO.some | apply KeptO.ite | apply Kept.ite)
    | split
    | (refine Kept.upd ?_ ?_)

theorem State.swapDelay_kept {m : Nat} (hm : 4194304 &&& m = 4194304) {s : State} {x_s : State} {x_i : Fin 4} {x_e : DelayEntry} (h_x_s : Kept m s x_s) : Kept m s (State.swapDelay x_s x_i x_e) := by
  unfold State.swapDelay
  repeat' first
    | (with_reducible first | assumption | exact Kept.refl _)
    | (intro p; cases p <;> first | exact Or.inl (bit_of (a := 4194304) hm rfl) | exact Or.inr rfl)
    | (refine Kept.upd ?_ ?_)

theorem State.gateFailed_kept {m : Nat} (hm : 4620297 &&& m = 4620297) {s : State} {x_s : State} {x_i : Fin 4} {x_src : Nat} {x_t : Token} {x_k : Nat} {x_gate : Nat × Nat} {x_tries : Nat} (h_x_s : Kept m s x_s) : Kept m s (State.gateFailed x_s x_i x_src x_t x_k x_gate x_tries) := by
  unfold State.gateFailed
  repeat' first
    | (with_reducible first | assumption | exact Kept.refl _)
    | exact sub_trans (b := 4620297) (by decide) hm
    | (intro x_1; refine (fun hx : Kept m s x_1 => ?_) ?_; (clear_value x_1); rotate_left; (unfold x_1))
    | (intro x_1; clear_value x_1)
    | intro _
    | (with_reducible first | apply State.popDelay_kept | apply State.sched_kept | apply State.nodeError_kept | apply State.enterDelay_kept | refine (State.enterDelay_kept ?_ ?_).out (by assumption) | exact KeptO.none | apply KeptO.some | apply KeptO.ite | apply Kept.ite)
    | lift_lets -underBinder
    | split
    | (refine Kept.upd ?_ ?_)

theorem State.delayDenied_kept {m : Nat} (hm : 4620297 &&& m = 4620297) {s : State} {x_s : State} {x_i : Fin 4} {x_src : Nat} {x_t : Token} (h_x_s : Kept m s x_s) : Kept m s (State.delayDenied x_s x_i x_src x_t) := by
  unfold State.delayDenied
  repeat' first
    | (with_reducible first | assumption | exact Kept.refl _)
    | exact sub_trans (b := 4620297) (by decide) hm
    | (with_reducible first | apply State.sched_kept | apply State.nodeError_kept | apply State.popDelay_kept)

theorem State.delayValue_kept {m : Nat} (hm : 5677069 &&& m = 5677069) {s : State} {x_s : State} {x_i : Fin 4} {x_due : Nat} {x_src : Nat} {x_t : Token} {x_k : Nat} (h_x_s : Kept m s x_s) : Kept m s (State.delayValue x_s x_i x_due x_src x_t x_k) := by
  unfold State.delayValue
  repeat' first
    | (with_reducible first | assumption | exact Kept.refl _)
    | exact sub_trans (b := 5677069) (by decide) hm
    | (intro x_1; refine (fun hx : Kept m s x_1 => ?_) ?_; (clear_value x_1); rotate_left; (unfold x_1))
    | (intro x_1; refine (fun hx : Kept m s x_1.2 => ?_) ?_; (clear_value x_1); rotate_left; (unfold x_1))
    | (intro x_1; refine (fun hx : Kept m s x_1.st => ?_) ?_; (clear_value x_1); rotate_left; (unfold x_1))
    | (intro x_1; clear_value x_1)
    | intro _
    | (with_reducible first | apply State.pathRead_kept | apply Got.value_kept | apply State.delayPost_kept | apply State.swapDelay_kept | apply State.delayDenied_kept | apply Kept.iteG | apply Kept.ite | apply Kept.ite2)
    | lift_lets -underBinder
    | dsimp only
    | (refine Kept.upd ?_ ?_)

theorem State.delayRead_kept {m : Nat} (hm : 5677069 &&& m = 5677069) {s : State} {x_s : State} {x_i : Fin 4} {x_due : Nat} {x_src : Nat} {x_t : Token} {x_k : Nat} {x_gate : Option (Nat × Nat)} {x_tries : Nat} (h_x_s : Kept m s x_s) : Kept m s (State.delayRead x_s x_i x_due x_src x_t x_k x_gate x_tries) := by
  unfold State.delayRead
  repeat' first
    | (with_reducible first | assumption | exact Kept.refl _)
    | exact sub_trans (b := 5677069) (by decide) hm
    | (intro x_1; refine (fun hx : Kept m s x_1 => ?_) ?_; (clear_value x_1); rotate_left; (unfold x_1))
    | (intro x_1; refine (fun hx : Kept m s x_1.st => ?_) ?_; (clear_value x_1); rotate_left; (unfold x_1))
    | (intro x_1; clear_value x_1)
    | intro _
    | (with_reducible first | apply State.delayValue_kept | apply State.pathRead_kept | apply State.delayDenied_kept | apply State.gateFailed_kept | apply Kept.iteG | exact KeptO.none | apply KeptO.some | apply KeptO.ite | apply Kept.ite)
    | lift_lets -underBinder
    | split
    | dsimp only
    | (refine Kept.upd ?_ ?_)

theorem State.delayExpiry_kept {m : Nat} (hm : 5677071 &&& m = 5677071) {s : State} {x_s : State} {x_i : Fin 4} (h_x_s : Kept m s x_s) : Kept m s (State.delayExpiry x_s x_i) := by
  unfold State.delayExpiry
  repeat' first
    | (with_reducible first | assumption | exact Kept.refl _)
    | exact sub_trans (b := 5677071) (by decide) hm
    | (intro x_1; refine (fun hx : Kept m s x_1 => ?_) ?_; (clear_value x_1); rotate_left; (unfold x_1))
    | (intro x_1; clear_value x_1)
    | (intro p; cases p <;> first | exact Or.inl (bit_of (a := 5677071) hm rfl) | exact Or.inr rfl)
    | intro _
    | (with_reducible first | apply State.advance_kept | apply State.timerExpiry_kept | apply State.holdDelay_kept | apply State.delayPost_kept | apply State.delayRead_kept | apply Kept.ite)
    | lift_lets -underBinder
    | split
    | (refine Kept.upd ?_ ?_)

theorem execDelayEntryExpiry_kept {m : Nat} (hm : 5677071 &&& m = 5677071) {s : State} {x_list : Fin 4} {x_s : State} (h_x_s : Kept m s x_s) : KeptN m s (execDelayEntryExpiry x_list x_s) := by
  unfold execDelayEntryExpiry
  repeat' first
    | (with_reducible first | assumption | exact Kept.refl _)
    | exact sub_trans (b := 5677071) (by decide) hm
    | (with_reducible first | apply State.delayExpiry_kept | apply KeptN.next | apply KeptN.ite)

theorem execInternalObjectRequest_kept {m : Nat} (hm : 2147483647 &&& m = 2147483647) {s : State} {x_src : ObjSource} {x_s : State} (h_x_s : Kept m s x_s) : KeptN m s (execInternalObjectRequest x_src x_s) := by
  unfold execInternalObjectRequest
  repeat' first
    | (with_reducible first | assumption | exact Kept.refl _)
    | exact sub_trans (b := 2147483647) (by decide) hm
    | (with_reducible first | apply State.bayObj_kept | apply State.benchObj_kept | apply KeptN.next | apply KeptN.ite)
    | split
    | (refine Kept.upd ?_ ?_)

end Sys2Proof.Machine
end

