-- ==== Sys2Proof/Laws/FactsBay.lean ====
section
/-! SUPPORT. Lemmas about the shared operations behind the commands of one family (bay). -/

namespace Sys2Proof.Machine

theorem BayFrame.modBay_ok (s : State) (b : Bay) (f : BayU → BayU) : BayFrame b s (s.modBay b f).ok :=
  ⟨rfl, fun _ h => State.bay_modBay_ne s h f⟩

/-- A bay that enters IDLE is in IDLE. -/
theorem State.bst_enterIdle (s : State) (b : Bay) : (s.enterIdle b).bst b = BS.IDLE := by
  unfold State.enterIdle
  extract_lets _ w
  exact Eq.trans (State.driveSite_bst (x_s := (w.setState b BS.IDLE).showSlots) (Bst.refl _)) (by rw [State.bst_showSlots, State.bst_setState])

end Sys2Proof.Machine
end

