-- ==== Sys2Proof/Laws/FactsArm.lean ====
section
/-! SUPPORT. Lemmas about the shared operations behind the commands of one family (arm). -/

namespace Sys2Proof.Machine

theorem getB_countTag (s : State) (a n : Nat) (b : Bay) (o : Nat) (h : o < 0x10000) : (s.countTag a n).getB b o = s.getB b o := by
  unfold State.countTag State.getB
  exact State.getO_setO_ne _ (by have := keyB_low (b := b) h; simp only [keyPc, key]; omega) _
theorem modBay_congr (s : State) (b : Bay) (f g : BayU → BayU) (h : f (s.bay b) = g (s.bay b)) : s.modBay b f = s.modBay b g := by
  have h' : f (s.bays.get b) = g (s.bays.get b) := h
  simp only [State.modBay, h']
theorem enterArmed_bst (s : State) (b : Bay) : (s.enterArmed b).bst b = BS.ARMED := by
  unfold State.enterArmed
  extract_lets a c d e f g h i
  clear_value f
  have hg : g.bst b = BS.ARMED := State.bst_setState _ _ _
  clear_value g
  have hh : Bst b g h := State.driveSite_bst (State.showSlots_bst (State.capArm_bst (Bst.refl _)))
  clear_value h i
  exact Eq.trans (State.setB_bst (State.setB_bst hh (by decide)) (by decide)) hg
theorem startRun_bst (s : State) (b : Bay) : (s.startRun b).bst b = BS.RUN := by
  unfold State.startRun
  extract_lets a c d e
  have ha : a.bst b = BS.RUN := Eq.trans (State.occur_bst (Bst.refl _)) (State.bst_setState _ _ _)
  clear_value a
  have hc : Bst b a c := State.modBay_bst (Bst.refl _)
  clear_value c
  have hd : Bst b a d := State.fetched_bst (State.toVendor_bst (State.capRun_bst (State.setB_bst hc (by decide))))
  clear_value d
  have he : Bst b a e := by
    show Bst b a (if _ then _ else _)
    exact Bst.ite hd (State.arrive_bst hd)
  clear_value e
  exact Eq.trans (State.modBay_bst he) ha

end Sys2Proof.Machine
end

