-- ==== Sys2Proof/Laws/FactsClaims.lean ====
section
/-! SUPPORT. Lemmas about the shared operations behind the commands of one family (claims). -/

namespace Sys2Proof.Machine

theorem feat_ne (r : Resource) (n : Nat) (h : (claimFeatures r).contains n = true) : r ≠ .timeShared ∧ n ≠ 0 := by
  refine ⟨?_, ?_⟩
  · rintro rfl; simp [claimFeatures] at h
  · rintro rfl; cases r <;> simp [claimFeatures] at h

end Sys2Proof.Machine
end

