-- ==== Sys2Proof/Laws/FactsSeq.lean ====
section
/-! SUPPORT. Lemmas about the shared operations behind the commands of one family (seq). -/

namespace Sys2Proof.Machine

theorem storeEntries_ok (b : Bay) (f : Nat → Nat) : ∀ (l : List Nat) (s : State) (i : Nat),
    (∀ j, j ∈ l → s.entryError b (f j) = none) →
    ∃ sh, s.storeEntries b (l.map (fun j => (i + j, f j))) = ({ s with shingles := sh } : State).ok ∧
      sh = l.foldl (fun t j => t.set (entryKey b (i + j)) (BitVec.ofNat 256 (f j))) s.shingles := by
  intro l
  induction l with
  | nil => intro s i _; exact ⟨s.shingles, rfl, rfl⟩
  | cons a l ih =>
    intro s i h
    rw [List.map_cons, State.storeEntries, h a List.mem_cons_self]
    dsimp only
    obtain ⟨sh, h1, h2⟩ := ih { s with shingles := s.shingles.set (entryKey b (i + a)) (BitVec.ofNat 256 (f a)) } i
      (fun j hj => h j (List.mem_cons_of_mem _ hj))
    exact ⟨sh, h1, h2⟩
theorem range_sets (b : Bay) (f : Nat → Nat) (i : Nat) (n : Nat) (t0 : Tab (BitVec 256)) :
    (∀ j, j < n → Tab.get ((List.range n).foldl (fun t j => t.set (entryKey b (i + j)) (BitVec.ofNat 256 (f j))) t0) (entryKey b (i + j)) 0 = BitVec.ofNat 256 (f j)) ∧
    (∀ k, (k < entryKey b i ∨ entryKey b i + n ≤ k) →
      Tab.get ((List.range n).foldl (fun t j => t.set (entryKey b (i + j)) (BitVec.ofNat 256 (f j))) t0) k 0 = t0.get k 0) := by
  induction n with
  | zero => exact ⟨fun _ h => absurd h (Nat.not_lt_zero _), fun _ _ => rfl⟩
  | succ n ih =>
    rw [List.range_succ, List.foldl_append]
    simp only [List.foldl_cons, List.foldl_nil]
    refine ⟨fun j hj => ?_, fun k hk => ?_⟩
    · by_cases e : j = n
      · subst e; rw [Tab.get_set_same]
      · rw [Tab.get_set_ne _ (by simp only [entryKey]; omega)]; exact ih.1 j (by omega)
    · rw [Tab.get_set_ne _ (by simp only [entryKey] at *; omega)]; exact ih.2 k (by omega)
theorem modBay_modBay (s : State) (b : Bay) (f g : BayU → BayU) : (s.modBay b f).modBay b g = s.modBay b (fun u => g (f u)) := by
  have : ∀ v : BayU, ((s.bays.set b.val v b.isLt).set b.val (g ((s.bays.set b.val v b.isLt).get b)) b.isLt) = s.bays.set b.val (g v) b.isLt := by
    intro v; rw [vget_set_same]; simp
  show ({ s with bays := _ } : State) = { s with bays := _ }
  congr 1
  exact this _
theorem ret_none (s : State) (b : Bay) (h : (s.bay b).retiring = []) : ∃ f : BayU → BayU, (s.retireDue b).shadowGranule b = s.modBay b f ∧
    ∃ r, f (s.bay b) = { s.bay b with roll := r } := by
  have e : s.retireDue b = s.modBay b (fun u => { u with retiring := [] }) := by
    unfold State.retireDue
    dsimp only
    rw [h]
    show (s.modBay b _).each (List.filter _ []) _ = _
    rw [List.filter_nil, State.each_nil]
    have hh : (s.bays.get b).retiring = [] := h
    simp only [State.modBay, hh, List.filter_nil]
  rw [e, State.shadowGranule, State.modRoll, modBay_modBay]
  exact ⟨_, rfl, _, congrArg (fun l => ({ s.bay b with retiring := l, roll := _ } : BayU)) h.symm⟩
theorem endU_bay (s : State) (b : Bay) : ∃ f : BayU → BayU, s.endUnderrun b = s.modBay b f ∧ ∃ l, f (s.bay b) = { s.bay b with under := none, underLog := l } := by
  unfold State.endUnderrun
  split
  · rename_i h
    refine ⟨fun u => u, ?_, (s.bay b).underLog, ?_⟩
    · show s = { s with bays := s.bays.set b.val (s.bays.get b) b.isLt }
      have : s.bays.set b.val (s.bays.get b) b.isLt = s.bays := by
        apply Vector.ext; intro i hi; rw [Vector.getElem_set]; split
        · rename_i e; subst e; rfl
        · rfl
      rw [this]
    · show s.bay b = _
      rw [← h]
  · exact ⟨_, rfl, _, rfl⟩
theorem modBay_frame (s : State) (b : Bay) (f : BayU → BayU) : BayFrame b s (s.modBay b f) := ⟨rfl, fun _ hc => State.bay_modBay_ne s hc f⟩
theorem showLead_bay (s : State) (b : Bay) : (s.showLead b).bays = s.bays := by
  unfold State.showLead; dsimp only; split <;> rfl
theorem showLead_bay' (s : State) (b c : Bay) : (s.showLead b).bay c = s.bay c := by unfold State.bay; rw [showLead_bay]
theorem ringPop_bay (s : State) (b : Bay) : ∃ l, (s.ringPop b).bay b = { s.bay b with ring := l } := by
  unfold State.ringPop; dsimp only; rw [showLead_bay', State.bay_modBay_same]; exact ⟨_, rfl⟩
theorem latchJumps_bay (s : State) (b : Bay) : ∃ j, (s.latchJumps b).bay b = { s.bay b with usable := [], jump := j } := by
  have d : ∀ (v : State) n, (v.dropJumps b n).bay b = v.bay b := by
    intro v n; unfold State.dropJumps; split <;> rfl
  unfold State.latchJumps
  dsimp only
  split
  · rw [d, State.bay_modBay_same]; exact ⟨(s.bay b).jump, rfl⟩
  · rw [d, State.bay_modBay_same, State.bay_modBay_same]; exact ⟨_, rfl⟩
  · rw [State.bay_modBay_same]; exact ⟨(s.bay b).jump, rfl⟩
theorem latchJumps_getB (s : State) (b : Bay) (o : Nat) (h : o ≠ RBay.SEQ_FLAGS ∧ o ≠ RBay.JUMP_DROP_COUNT) :
    (s.latchJumps b).getB b o = s.getB b o := by
  have d : ∀ (v : State) n, (v.dropJumps b n).getB b o = v.getB b o := by
    intro v n; unfold State.dropJumps; split
    · rfl
    · rw [State.getB_setB, if_neg h.2]; unfold State.flagB; rw [State.getB_setB, if_neg h.1]
  unfold State.latchJumps; dsimp only
  split
  · rw [d]; rfl
  · rw [d]; rfl
  · rfl
theorem setState_bays (s : State) (b : Bay) (n : Nat) : (s.setState b n).bays = s.bays := by
  have := (State.setState_kept (m := 2^31 - 1 - 8192) (by decide) (Kept.refl s) (x_b := b) (x_st := n)).parts .bays (by decide)
  exact this
theorem showLead_bays (s : State) (b c : Bay) : (s.showLead b).bay c = s.bay c := by
  unfold State.showLead; dsimp only; split <;> rfl
theorem redirect_decided (s : State) (b : Bay) (n : Nat) : ((s.redirect b n).bay b).decided = (s.bay b).decided := by
  unfold State.redirect; dsimp only
  split
  · split
    · rfl
    · rw [showLead_bays, State.bay_modBay_same]
  · split
    · rfl
    · rw [State.bay_modBay_same]

end Sys2Proof.Machine
end

