-- ==== Sys2Proof/Laws/FactsMicro.lean ====
section
/-! SUPPORT. Lemmas about the shared operations behind the commands of one family (micro). -/

namespace Sys2Proof.Machine

theorem has_cust {s : State} {b : Bay} (h : Customer s b) {p : Nat → Bool} (hp : p (s.word b) = true) : s.has b p = true := by
  unfold State.has; rw [h.1, h.2.1, h.2.2, hp]; rfl
theorem hasCust_cust {s : State} {b : Bay} (h : Customer s b) {p : Nat → Bool} (hp : p (s.word b) = true) : s.hasCust b p = true := by
  unfold State.hasCust; rw [has_cust h hp, h.2.2]; rfl
theorem passTo_good (s : State) (b : Bay) (a : Nat) (h : (s.bay b).badWords.contains a = false)
    (hs : (s.bay b).softWords.contains a = false) : s.passTo b .clean a = s.goTo b a := by
  unfold State.passTo State.fetched
  have e1 : (s.goTo b a).getB b RBay.UPC = a := State.getO_setO_same _ _ _
  have e2 : ((s.goTo b a).bay b).badWords = (s.bay b).badWords := by unfold State.goTo; rw [State.bay_modBay_same]; rfl
  have e3 : ((s.goTo b a).bay b).softWords = (s.bay b).softWords := by unfold State.goTo; rw [State.bay_modBay_same]; rfl
  dsimp only
  rw [e1, e2, h, e3, hs, if_neg (by decide), if_neg (by decide)]
theorem goTo_enters (s : State) (b : Bay) (a : Nat) : Enters b a s (s.goTo b a) := by
  unfold State.goTo Enters
  rw [State.bay_modBay_same]
  refine ⟨State.getO_setO_same _ _ _, rfl, rfl, rfl, rfl, rfl, fun k hk => State.getO_setO_ne _ (by simpa using hk) _, rfl, fun c hc => State.bay_modBay_ne _ hc _⟩
theorem goTo_bay (s : State) (b : Bay) (a : Nat) : (s.goTo b a).bay b = { s.bay b with
    acted := 0, wordCyc := 0, cycActed := 0, extra := none, matchOn := none, prdSel := none, roll := { (s.bay b).roll with inhibit := false } } := by
  unfold State.goTo; rw [State.bay_modBay_same]; rfl
theorem enters_mod {s : State} {b : Bay} {f : BayU → BayU} {a : Nat} {t : State} (h : Enters b a (s.modBay b f) t) : Enters b a s t := by
  obtain ⟨h1, h0, h2, h3, h4, h5, h6, h7, h8⟩ := h
  refine ⟨h1, h0, h2, h3, h4, h5, h6, ?_, fun c hc => (h8 c hc).trans (State.bay_modBay_ne s hc f)⟩
  exact h7
theorem clear_group {s : State} {b : Bay} {n : Nat} (h : inCounterGroup n = true) : s.clearLatch b n = s := by
  unfold State.clearLatch
  have : n < 2 ∨ (0x10 ≤ n ∧ n < 0x18) := by
    unfold inCounterGroup at h; simpa [Bool.or_eq_true, Bool.and_eq_true] using h
  have hd : decide (n = 0x19 ∨ n = 0x1A ∨ (0x40 ≤ n ∧ n < 0x50) ∨ (0xB0 ≤ n ∧ n < 0xD0)) = false := by simp; omega
  dsimp only
  rw [hd]; simp only [Bool.false_eq_true, if_false]; rw [if_neg (by omega), if_neg (by omega)]
theorem clear_low {s : State} {b : Bay} {n : Nat} (h : n < 0x10) : s.clearLatch b n = s := by
  unfold State.clearLatch
  have hd : decide (n = 0x19 ∨ n = 0x1A ∨ (0x40 ≤ n ∧ n < 0x50) ∨ (0xB0 ≤ n ∧ n < 0xD0)) = false := by simp; omega
  dsimp only
  rw [hd]; simp only [Bool.false_eq_true, if_false]; rw [if_neg (by omega), if_neg (by omega)]
theorem condAt_group {s : State} {b : Bay} {n : Nat} (h : inCounterGroup n = true) : s.condAt b n = s.cond b n := by
  unfold State.condAt; rw [if_pos h]
theorem condAt_late {s : State} {b : Bay} {n : Nat} (h : inCounterGroup n = false) :
    s.condAt b n = ((s.bay b).conds.getD 2 0).testBit n := by
  unfold State.condAt; rw [if_neg (by rw [h]; decide)]
theorem seqIs_cust {s : State} {b : Bay} {m : Nat} (h : Customer s b) (hc : s.wordCycle b = true) (hm : uwSeq (s.word b) = m)
    (hw : uwWait (s.word b) = false) : s.seqIs b m = true := by
  unfold State.seqIs; rw [hc, has_cust h (by rw [hm, hw]; simp)]; rfl
theorem waits_cust {s : State} {b : Bay} (h : Customer s b) (hc : s.wordCycle b = true) (hw : uwWait (s.word b) = true) :
    s.waits b = true := by
  unfold State.waits; rw [hc, has_cust h hw]; rfl
theorem decided_group {s : State} {b : Bay} {e : Ecc} {a : Nat} (h : inCounterGroup (uwCond (s.word b)) = true) :
    s.decided b e a = s.passTo b e a := by unfold State.decided; rw [if_pos h]
theorem toNext_cust {s : State} {b : Bay} (h : (s.bay b).cust = true) (hu : s.getB b RBay.UPC ≠ 0x3FFF) (k : Nat → State) :
    s.toNext b k = k (s.getB b RBay.UPC + 1) := by
  unfold State.toNext; rw [h]; dsimp only; rw [if_pos rfl, if_neg hu]
theorem nextAddr_cust {s : State} {b : Bay} (h : (s.bay b).cust = true) : s.nextAddr b = uwNext (s.word b) := by
  unfold State.nextAddr; rw [h]; rfl
theorem word_mod {s : State} {b : Bay} {f : BayU → BayU} (h : (f (s.bay b)).cust = (s.bay b).cust) : (s.modBay b f).word b = s.word b := by
  unfold State.word; rw [State.bay_modBay_same, h]; rfl
theorem cond_neg {s : State} {b : Bay} {f : BayU → BayU} (h : (f (s.bay b)).cust = (s.bay b).cust) : (s.modBay b f).nextAddr b = s.nextAddr b := by
  unfold State.nextAddr; rw [word_mod h, State.bay_modBay_same, h]
theorem markSites_getB (s : State) (b c : Bay) (bit o : Nat) : (s.markSites b bit).getB c o = s.getB c o := by
  unfold State.markSites State.getB
  refine State.getO_each (fun u a _ => ?_) s
  refine State.getO_setO_ne _ ?_ _
  have := keyB_high c o
  simp only [keySite, key, RSite.SITE_STATUS]; omega
theorem seqError_end (s : State) (b : Bay) (m : Bool) (f : Nat) : ((s.seqError b m f).bay b).ending = true ∧
    (s.seqError b m f).getB b (if m then RBay.MICRO_FLAGS else RBay.SEQ_FLAGS) = orBit (s.getB b (if m then RBay.MICRO_FLAGS else RBay.SEQ_FLAGS)) f := by
  unfold State.seqError State.endPattern
  refine ⟨by rw [State.bay_modBay_same], ?_⟩
  dsimp only
  have hlt : (if m then RBay.MICRO_FLAGS else RBay.SEQ_FLAGS) < 0x10000 := by cases m <;> decide
  generalize (if m then RBay.MICRO_FLAGS else RBay.SEQ_FLAGS) = o at *
  have hb : ∀ (u : State) (g : BayU → BayU), (u.modBay b g).getB b o = u.getB b o := fun _ _ => rfl
  rw [hb]
  have e1 : ∀ u : State, (u.occur (evBay b 7)).getB b o = u.getB b o := fun u => State.getO_occur _ (evBay_lt (by decide)) (eventObj_keyB hlt)
  rw [e1]
  have e2 : ∀ (u : State) x y z, (u.fault x y z).getB b o = u.getB b o := fun u x y z => State.getO_fault _ _ _ _ _
  rw [e2, markSites_getB]
  exact State.getO_setO_same _ _ _
theorem once_first {s : State} {b : Bay} {i : Nat} (h : (s.bay b).acted.testBit i = false) (hf : s.firstCycle b = true)
    (k : State → State) : s.once b i k = k (s.modBay b (fun u => { u with acted := orBit u.acted i })) := by
  unfold State.once; rw [h, hf, if_neg (by decide)]
theorem once_late {s : State} {b : Bay} {i : Nat} (h : (s.bay b).acted.testBit i = true ∨ s.firstCycle b = false)
    (k : State → State) : s.once b i k = s := by
  unfold State.once; rw [if_pos]; rcases h with h | h <;> simp [h]
theorem mm (s : State) (b : Bay) (f g : BayU → BayU) : ((s.modBay b f).modBay b g).bay b = g (f (s.bay b)) := by
  rw [State.bay_modBay_same, State.bay_modBay_same]
theorem mmf (s : State) (b : Bay) (f g : BayU → BayU) : BayFrame b s ((s.modBay b f).modBay b g) :=
  ⟨rfl, fun _ hc => (State.bay_modBay_ne _ hc _).trans (State.bay_modBay_ne s hc _)⟩
theorem jumpable_mod (s : State) (b : Bay) (f : BayU → BayU) (n : Nat) : (s.modBay b f).jumpable b n = s.jumpable b n := rfl
theorem seqError_cust (s : State) (b : Bay) (m : Bool) (f : Nat) : ((s.seqError b m f).bay b).cust = false := by
  unfold State.seqError State.endPattern; rw [State.bay_modBay_same]
theorem cntCycle_is {s : State} {b : Bay} {n : Fin 4} {op v : Nat} (h : Customer s b) (ho : uwCnt (s.word b) n.val = op)
    (ha : (s.bay b).cycActed.testBit n.val = false) :
    (s.cntCycle b n op v).cnt b n = min v 0xFFFFFFFF ∧ OnlyObjs s (s.cntCycle b n op v) [keyB b (RBay.CNT_VALUE + n.val)] ∧
    BayFrame b s (s.cntCycle b n op v) ∧ (s.cntCycle b n op v).bay b = { s.bay b with cycActed := orBit (s.bay b).cycActed n.val } := by
  unfold State.cntCycle
  rw [hasCust_cust h (by simp [ho]), ha, if_pos (by decide)]
  refine ⟨State.getO_setO_same _ _ _, fun k hk => State.getO_setO_ne _ (by simpa using hk) _, ⟨rfl, fun c hc => ?_⟩, ?_⟩
  · simp only [State.setCnt, State.setB, State.bay_setO]; exact State.bay_modBay_ne s hc _
  · simp only [State.setCnt, State.setB, State.bay_setO]; exact State.bay_modBay_same s b _
theorem cntOnce_is {s : State} {b : Bay} {n : Fin 4} {op v : Nat} {p : Nat → Bool} (h : Customer s b) (ho : uwCnt (s.word b) n.val = op)
    (hp : p (s.word b) = true) (ha : (s.bay b).acted.testBit (OS.CNT + n.val) = false) (hf : s.firstCycle b = true) :
    (s.cntOnce b n op p v).cnt b n = min v 0xFFFFFFFF ∧ OnlyObjs s (s.cntOnce b n op p v) [keyB b (RBay.CNT_VALUE + n.val)] ∧
    BayFrame b s (s.cntOnce b n op p v) ∧ (s.cntOnce b n op p v).bay b = { s.bay b with acted := orBit (s.bay b).acted (OS.CNT + n.val) } := by
  unfold State.cntOnce
  rw [hasCust_cust h (by simp [ho, hp]), if_pos rfl, once_first ha hf]
  refine ⟨State.getO_setO_same _ _ _, fun k hk => State.getO_setO_ne _ (by simpa using hk) _, ⟨rfl, fun c hc => ?_⟩, ?_⟩
  · simp only [State.setCnt, State.setB, State.bay_setO]; exact State.bay_modBay_ne s hc _
  · simp only [State.setCnt, State.setB, State.bay_setO]; exact State.bay_modBay_same s b _
theorem writeBank_is (s : State) (b : Bay) (img : Bytes) (n : Nat) :
    (∀ k, k < n → (s.writeBank b img n).bank.get (b.val * 4096 + hdrFirst (imageHeader img) + k) 0 = BitVec.ofNat 160 (imageWord img k)) ∧
    (∀ a, (a < b.val * 4096 + hdrFirst (imageHeader img) ∨ b.val * 4096 + hdrFirst (imageHeader img) + n ≤ a) →
      (s.writeBank b img n).bank.get a 0 = s.bank.get a 0) ∧
    (∃ l l', (s.writeBank b img n).bay b = { s.bay b with badWords := l, softWords := l' }) := by
  unfold State.writeBank; dsimp only
  induction n with
  | zero => exact ⟨fun _ h => absurd h (Nat.not_lt_zero _), fun _ _ => rfl, _, _, rfl⟩
  | succ n ih =>
    rw [List.range_succ]
    simp only [State.each, List.foldl_append, List.foldl_cons, List.foldl_nil]
    obtain ⟨i1, i2, l, l', i3⟩ := ih
    simp only [State.each] at i1 i2 i3
    refine ⟨fun k hk => ?_, fun a ha => ?_, ?_⟩
    · by_cases e : k = n
      · subst e; exact Tab.get_set_same _ _ _ _
      · exact (Tab.get_set_ne _ (by omega) _ _).trans (i1 k (by omega))
    · exact (Tab.get_set_ne _ (by omega) _ _).trans (i2 a (by omega))
    · have q : ∀ (x : State) bk, ({ x with bank := bk } : State).bay b = x.bay b := fun _ _ => rfl
      rw [State.bay_modBay_same]; simp only [q, i3]; exact ⟨_, _, rfl⟩
theorem detach_frame (s : State) (b : Bay) : (s.detachTypes b).bank = s.bank ∧ (s.detachTypes b).bays = s.bays := by
  unfold State.detachTypes
  exact State.each_keeps (P := fun u => u.bank = s.bank ∧ u.bays = s.bays) (fun u a h => by dsimp only [State.setB, State.setO]; exact h) ⟨rfl, rfl⟩

end Sys2Proof.Machine
end

