-- ==== Sys2Proof/Laws/FactsWordmod.lean ====
section
/-! SUPPORT. Lemmas about the shared operations behind the commands of one family (wordmod). -/

namespace Sys2Proof.Machine

theorem getCap_setCap (s : State) (b : Bay) (m n : Fin 5) (o p v : Nat) (ho : o < 256) (hp : p < 256) :
    (s.setCap b m o v).getCap b n p = if n = m ∧ p = o then v else s.getCap b n p := by
  unfold State.setCap State.getCap
  rw [State.getO_setO]
  have : keyCap b n p = keyCap b m o ↔ n = m ∧ p = o := by
    constructor
    · intro h; simp only [keyCap, keyB] at h; exact ⟨by apply Fin.ext; omega, by omega⟩
    · rintro ⟨rfl, rfl⟩; rfl
  simp only [this]
theorem cap_low (b : Bay) (m : Fin 5) (o : Nat) (h : o < 256) : eventObj (keyCap b m o) = false := by
  refine eventObj_low ?_
  simp only [keyCap, keyB]; omega
theorem openFrame_cap (s : State) (b : Bay) (m n : Fin 5) (x : CapFrame) (o : Nat) (h : o < 256) (ho : o ≠ RCap.OVERRUN_FRAMES) :
    (s.openFrame b m x).getCap b n o = s.getCap b n o := by
  unfold State.openFrame
  extract_lets p num past s1 s2
  have q : ∀ (u : State) f, (u.modCap b m f).getCap b n o = u.getCap b n o := fun _ _ => rfl
  have h1 : s1.getCap b n o = s.getCap b n o := by
    simp only [s1]; split
    · rw [getCap_setCap _ _ _ _ _ _ _ (by decide) h, if_neg (fun e => ho e.2)]
    · rfl
  rw [q]
  simp only [s2]
  split
  · exact (State.getO_occur _ (evBay_lt (by decide)) (cap_low _ _ _ h)).trans h1
  · exact h1
theorem startSegment_cap (s : State) (b : Bay) (m n : Fin 5) (x o : Nat) (h : o < 256) (ho : o ≠ RCap.OVERRUN_FRAMES) :
    (s.startSegment b m x).getCap b n o = s.getCap b n o := by
  unfold State.startSegment
  extract_lets p
  have q : ∀ (u : State) f, (u.modCap b m f).getCap b n o = u.getCap b n o := fun _ _ => rfl
  split
  · rfl
  · split
    · rfl
    · rw [q, openFrame_cap _ _ _ _ _ _ h ho]; rfl
theorem writeBlocks_objs (s : State) (a : Nat) (d : Bytes) (k : Nat) : (s.writeBlocks a d k).objs = s.objs := by
  unfold State.writeBlocks
  apply State.each_keeps (P := fun u => u.objs = s.objs)
  · intro u a hu; exact hu
  · rfl
theorem fixFirsts_objs (s : State) (b : Bay) (m : Fin 5) : (s.fixFirsts b m).objs = s.objs := by
  unfold State.fixFirsts
  extract_lets p kept s1
  have q : ∀ u f, (State.modCap u b m f).objs = u.objs := fun _ _ => rfl
  have e : ∀ (l : List (Nat × Nat × Bool)) (g : State → Nat × Nat × Bool → List Host.Cell) (u : State),
      (u.each l (fun s x => { s with mem := g s x })).objs = u.objs := fun l g u =>
    State.each_keeps (P := fun v => v.objs = u.objs) (l := l) (f := fun s x => { s with mem := g s x }) (fun _ _ hu => hu) rfl
  rw [q]; simp only [s1]
  exact e _ _ _
theorem endSegment_cap (s : State) (b : Bay) (m n : Fin 5) (x o : Nat) : (s.endSegment b m x).getCap b n o = s.getCap b n o := by
  unfold State.endSegment
  split <;> rfl
theorem captureOn_is (s : State) (b : Bay) (m : Fin 5) (h1 : s.capEnabled b m = true) (h2 : s.windowed b m = false)
    (h3 : s.getCap b m RCap.START = 1 ∨ s.getCap b m RCap.STREAM_STATUS = 3) : (s.captureOn b).getCap b m RCap.STREAM_STATUS = 1 := by
  unfold State.captureOn
  generalize hf : (fun (s : State) (m : Fin 5) =>
    if s.capEnabled b m && !s.windowed b m && (s.getCap b m RCap.START == 1 || s.getCap b m RCap.STREAM_STATUS == 3) then
      (s.startSegment b m (s.wordVector b)).setCap b m RCap.STREAM_STATUS 1
    else s) = f
  have other : ∀ (u : State) a, a ≠ m → ∀ o, o < 256 → o ≠ RCap.OVERRUN_FRAMES → (f u a).getCap b m o = u.getCap b m o := by
    intro u a ha o ho hn; rw [← hf]; dsimp only; split
    · rw [getCap_setCap _ _ _ _ _ _ _ (by decide) ho, if_neg (fun e => ha e.1.symm), startSegment_cap _ _ _ _ _ _ ho hn]
    · rfl
  have keep : ∀ (u : State) a, u.getCap b m RCap.STREAM_STATUS = 1 → (f u a).getCap b m RCap.STREAM_STATUS = 1 := by
    intro u a hu
    by_cases ha : a = m
    · subst ha; rw [← hf]; dsimp only; split
      · rw [getCap_setCap _ _ _ _ _ _ _ (by decide) (by decide), if_pos ⟨rfl, rfl⟩]
      · exact hu
    · rw [other u a ha _ (by decide) (by decide)]; exact hu
  have main : ∀ (l : List (Fin 5)) (u : State), m ∈ l → u.getCap b m RCap.ENABLE = s.getCap b m RCap.ENABLE →
      u.getCap b m RCap.START = s.getCap b m RCap.START → u.getCap b m RCap.STREAM_STATUS = s.getCap b m RCap.STREAM_STATUS →
      (u.each l f).getCap b m RCap.STREAM_STATUS = 1 := by
    intro l
    induction l with
    | nil => intro u hm; cases hm
    | cons a l ih =>
      intro u hm e1 e2 e3
      rw [State.each_cons]
      by_cases ha : a = m
      · subst ha
        refine State.each_keeps (P := fun u => u.getCap b a RCap.STREAM_STATUS = 1) (fun u x hu => keep u x hu) ?_
        rw [← hf]; dsimp only
        rw [if_pos ?_]
        · rw [getCap_setCap _ _ _ _ _ _ _ (by decide) (by decide), if_pos ⟨rfl, rfl⟩]
        · unfold State.capEnabled at h1 ⊢; unfold State.windowed at h2 ⊢
          rw [e1, e2, e3, h1, h2]
          rcases h3 with h3 | h3 <;> simp [h3]
      · refine ih _ (List.mem_of_ne_of_mem (fun e => ha e.symm) hm) ?_ ?_ ?_ <;> rw [other u a ha _ (by decide) (by decide)]
        · exact e1
        · exact e2
        · exact e3
  exact main _ _ (List.mem_finRange m) rfl rfl rfl
theorem captureOff_is (s : State) (b : Bay) (m : Fin 5) (h1 : s.capEnabled b m = true) (h2 : s.windowed b m = false) :
    (s.captureOff b).getCap b m RCap.STREAM_STATUS = 3 := by
  unfold State.captureOff
  generalize hf : (fun (s : State) (m : Fin 5) =>
    if s.capEnabled b m && !s.windowed b m then (s.endSegment b m (s.wordVector b)).setCap b m RCap.STREAM_STATUS 3 else s) = f
  have other : ∀ (u : State) a, a ≠ m → ∀ o, o < 256 → (f u a).getCap b m o = u.getCap b m o := by
    intro u a ha o ho; rw [← hf]; dsimp only; split
    · rw [getCap_setCap _ _ _ _ _ _ _ (by decide) ho, if_neg (fun e => ha e.1.symm), endSegment_cap]
    · rfl
  have keep : ∀ (u : State) a, u.getCap b m RCap.STREAM_STATUS = 3 → (f u a).getCap b m RCap.STREAM_STATUS = 3 := by
    intro u a hu
    by_cases ha : a = m
    · subst ha; rw [← hf]; dsimp only; split
      · rw [getCap_setCap _ _ _ _ _ _ _ (by decide) (by decide), if_pos ⟨rfl, rfl⟩]
      · exact hu
    · rw [other u a ha _ (by decide)]; exact hu
  have main : ∀ (l : List (Fin 5)) (u : State), m ∈ l → u.getCap b m RCap.ENABLE = s.getCap b m RCap.ENABLE →
      u.getCap b m RCap.START = s.getCap b m RCap.START →
      (u.each l f).getCap b m RCap.STREAM_STATUS = 3 := by
    intro l
    induction l with
    | nil => intro u hm; cases hm
    | cons a l ih =>
      intro u hm e1 e2
      rw [State.each_cons]
      by_cases ha : a = m
      · subst ha
        refine State.each_keeps (P := fun u => u.getCap b a RCap.STREAM_STATUS = 3) (fun u x hu => keep u x hu) ?_
        rw [← hf]; dsimp only
        rw [if_pos ?_]
        · rw [getCap_setCap _ _ _ _ _ _ _ (by decide) (by decide), if_pos ⟨rfl, rfl⟩]
        · unfold State.capEnabled at h1 ⊢; unfold State.windowed at h2 ⊢
          rw [e1, e2, h1, h2]; rfl
      · refine ih _ (List.mem_of_ne_of_mem (fun e => ha e.symm) hm) ?_ ?_ <;> rw [other u a ha _ (by decide)]
        · exact e1
        · exact e2
  exact main _ _ (List.mem_finRange m) rfl rfl
theorem each_getC {α : Type} (l : List α) (f : State → α → State) (c : Chan) (o : Nat)
    (h : ∀ u a, a ∈ l → (f u a).getC c o = u.getC c o) (s : State) : (s.each l f).getC c o = s.getC c o := State.getO_each h s
theorem setOutputs_other (s : State) (c d : Chan) (l : List Nat) (o : Nat) (ho : o < 0x4000) (h : d ≠ c ∨ ∀ i, i < 8 → o ≠ RChan.OUTPUT_CODE + i) :
    (s.setOutputs c l).getC d o = s.getC d o := by
  unfold State.setOutputs
  refine each_getC _ _ _ _ (fun u a _ => ?_) s
  dsimp only; split
  · rfl
  · show (u.setC c _ _).getC d o = _
    unfold State.getC State.setC
    refine State.getO_setO_ne _ ?_ _
    rcases h with h | h
    · exact keyC_ne_chan ho (by have := a.isLt; simp only [RChan.OUTPUT_CODE]; omega) h
    · intro e
      by_cases hd : d = c
      · subst hd; exact h _ a.isLt (keyC_inj.mp e)
      · exact keyC_ne_chan ho (by have := a.isLt; simp only [RChan.OUTPUT_CODE]; omega) hd e
theorem setOutputs_same (s : State) (c : Chan) (l : List Nat) (i : Nat) (hi : i < 8) :
    (s.setOutputs c l).getC c (RChan.OUTPUT_CODE + i) = l.getD i 0 := by
  unfold State.setOutputs
  generalize hf : (fun (s : State) (i : Fin 8) =>
    let v := l.getD i.val 0
    if s.getC c (RChan.OUTPUT_CODE + i.val) = v then s
    else (s.setC c (RChan.OUTPUT_CODE + i.val) v).noteCode c ⟨i.val, by omega⟩) = f
  have at_ : ∀ (u : State) (a : Fin 8), a.val = i → (f u a).getC c (RChan.OUTPUT_CODE + i) = l.getD i 0 := by
    intro u a ha; obtain rfl : a = ⟨i, hi⟩ := Fin.ext ha; rw [← hf]; dsimp only; split
    · assumption
    · show (u.setC c _ _).getC c _ = _; exact State.getC_setC_same _ _ _ _
  have keep : ∀ (u : State) (a : Fin 8), u.getC c (RChan.OUTPUT_CODE + i) = l.getD i 0 → (f u a).getC c (RChan.OUTPUT_CODE + i) = l.getD i 0 := by
    intro u a hu
    by_cases ha : a.val = i
    · exact at_ u a ha
    · rw [← hf]; dsimp only; split
      · exact hu
      · show (u.setC c _ _).getC c _ = _
        rw [State.getC_setC, if_neg (by omega)]; exact hu
  have main : ∀ (q : List (Fin 8)) (u : State), (⟨i, hi⟩ : Fin 8) ∈ q → (u.each q f).getC c (RChan.OUTPUT_CODE + i) = l.getD i 0 := by
    intro q
    induction q with
    | nil => intro u h; cases h
    | cons a q ih =>
      intro u h
      rw [State.each_cons]
      rcases List.mem_cons.mp h with h | h
      · exact State.each_keeps (P := fun u => u.getC c (RChan.OUTPUT_CODE + i) = l.getD i 0) (fun u x hu => keep u x hu) (at_ u a (by rw [← h]))
      · exact ih _ h
  exact main _ _ (List.mem_finRange _)
theorem load_out (s : State) (b : Bay) (h : s.clearOn b = false) (c : Chan) (hc : c ∈ chansOf b) (i : Nat) (hi : i < 8) :
    (s.load b).getC c (RChan.OUTPUT_CODE + i) = s.getC c (RChan.SHADOW_CODE + i) := by
  unfold State.load
  extract_lets s1 s2
  have e1 : ∀ d o, o < 0x4000 → s2.getC d o = s.getC d o := by
    intro d o ho
    show s1.getC d o = _
    simp only [s1]; split
    · rfl
    · refine State.getO_setO_ne _ ?_ _
      have := keyB_low (b := b) (o := RBay.LOAD_COUNT) (by decide)
      have := keyC_high d o
      omega
  have e2 : s2.clearOn b = false := by
    have : s2.dies = s.dies := by
      show s1.dies = _
      simp only [s1]; split <;> rfl
    unfold State.clearOn State.die at h ⊢; rw [this]; exact h
  rw [e2, if_neg (by decide), ← e1 c _ (by simp only [RChan.SHADOW_CODE]; omega)]
  have sh : ∀ (u : State) d (j : Nat), j < 8 → (u.shadowCodes d).getD j 0 = u.getC d (RChan.SHADOW_CODE + j) := by
    intro u d j hj; unfold State.shadowCodes; simp [hj]
  have no : ∀ j, j < 8 → ∀ k, k < 8 → RChan.SHADOW_CODE + j ≠ RChan.OUTPUT_CODE + k := by
    intro j hj k hk; simp only [RChan.SHADOW_CODE, RChan.OUTPUT_CODE]; omega
  have main : ∀ (l : List Chan) (u : State), c ∈ l → u.getC c (RChan.SHADOW_CODE + i) = s2.getC c (RChan.SHADOW_CODE + i) →
      (u.each l (fun s c => s.setOutputs c (s.shadowCodes c))).getC c (RChan.OUTPUT_CODE + i) = s2.getC c (RChan.SHADOW_CODE + i) := by
    intro l
    induction l with
    | nil => intro u h; cases h
    | cons a l ih =>
      intro u hm hu
      rw [State.each_cons]
      have step : (u.setOutputs a (u.shadowCodes a)).getC c (RChan.SHADOW_CODE + i) = s2.getC c (RChan.SHADOW_CODE + i) := by
        rw [setOutputs_other _ _ _ _ _ (by simp only [RChan.SHADOW_CODE]; omega) (Or.inr (no i hi))]; exact hu
      by_cases hl : c ∈ l
      · exact ih _ hl step
      · have ha : c = a := by rcases List.mem_cons.mp hm with h | h; exact h; exact absurd h hl
        subst ha
        refine (each_getC _ _ _ _ (fun v d hd => ?_) _).trans ?_
        · exact setOutputs_other _ _ _ _ _ (by simp only [RChan.OUTPUT_CODE]; omega) (Or.inl (fun e => hl (e ▸ hd)))
        · rw [setOutputs_same _ _ _ _ hi, sh _ _ _ hi]; exact hu
  have hr : ∀ u : State, (u.loadRef b).getC c (RChan.OUTPUT_CODE + i) = u.getC c (RChan.OUTPUT_CODE + i) := fun _ => rfl
  rw [hr]
  exact main _ _ hc rfl
theorem load_count (s : State) (b : Bay) (h : (s.bay b).loadCyc ≠ some (s.bclk b)) :
    (s.load b).getB b RBay.LOAD_COUNT = satAdd 32 (s.getB b RBay.LOAD_COUNT) 1 := by
  unfold State.load
  extract_lets s1 s2
  have e1 : s2.getB b RBay.LOAD_COUNT = satAdd 32 (s.getB b RBay.LOAD_COUNT) 1 := by
    simp only [s2, s1]; rw [State.getB_modBay, if_neg h]; unfold State.incB; rw [State.getB_setB_same]
  split
  · exact e1
  · have hr : ∀ u : State, (u.loadRef b).getB b RBay.LOAD_COUNT = u.getB b RBay.LOAD_COUNT := fun _ => rfl
    rw [hr]
    refine (State.getO_each (fun u c _ => ?_) s2).trans e1
    unfold State.setOutputs
    refine State.getO_each (fun u a _ => ?_) u
    dsimp only; split
    · rfl
    · show (u.setC c _ _).getO _ = _
      refine State.getO_setO_ne _ ?_ _
      have := keyB_low (b := b) (o := RBay.LOAD_COUNT) (by decide)
      have := keyC_high c (RChan.OUTPUT_CODE + a.val)
      omega
theorem endBlank_is (s : State) (b : Bay) : (s.endBlank b).blanking b = false ∧ ((s.endBlank b).bay b).timer = none ∧
    ∀ c ∈ chansOf b, ((s.endBlank b).chan c).withheld = 0 := by
  unfold State.endBlank
  generalize hv : (s.setB b RBay.BLANK_ACTIVE 0).modBay b (fun u => { u with timer := none }) = v
  generalize hf : (fun (s : State) (c : Chan) =>
    let w := (s.chan c).withheld
    let g := s.getC c RChan.GUARD_STATE
    let s := s.modChan c (fun u => { u with withheld := 0 })
    let s := if w.testBit 0 && (g.testBit 0 || g.testBit 2) then s.occur (evChan c 0) else s
    if w.testBit 1 && (g.testBit 1 || g.testBit 3) then s.occur (evChan c 1) else s) = f
  have one : ∀ (u : State) c, (f u c).getB b RBay.BLANK_ACTIVE = u.getB b RBay.BLANK_ACTIVE ∧ (f u c).bay b = u.bay b ∧ ((f u c).chan c).withheld = 0 ∧
      ∀ d, d ≠ c → (f u c).chan d = u.chan d := by
    intro u c
    rw [← hf]; dsimp only
    have oc : ∀ (x : State) k, k < 4 → (x.occur (evChan c k)).getB b RBay.BLANK_ACTIVE = x.getB b RBay.BLANK_ACTIVE :=
      fun x k hk => State.getO_occur _ (evChan_lt hk) (eventObj_keyB (by decide))
    have base : (u.modChan c (fun u => { u with withheld := 0 })).chan c = { u.chan c with withheld := 0 } := State.chan_modChan_same _ _ _
    refine ⟨?_, ?_, ?_, fun d hd => ?_⟩
    · split <;> split <;> simp only [oc _ _ (show 0 < 4 by decide), oc _ _ (show 1 < 4 by decide), State.getB_modChan]
    · split <;> split <;> simp
    · split <;> split <;> simp only [State.chan_occur, base]
    · split <;> split <;> (try simp only [State.chan_occur]) <;> exact State.chan_modChan_ne _ hd _
  have hv1 : v.getB b RBay.BLANK_ACTIVE = 0 := by rw [← hv]; simp
  have hv2 : (v.bay b).timer = none := by rw [← hv, State.bay_modBay_same]
  refine ⟨?_, ?_, fun c hc => ?_⟩
  · unfold State.blanking
    rw [State.each_keeps (P := fun u => u.getB b RBay.BLANK_ACTIVE = 0) (fun u c hu => (one u c).1.trans hu) hv1]; rfl
  · exact State.each_keeps (P := fun u => (u.bay b).timer = none) (fun u c hu => by rw [(one u c).2.1]; exact hu) hv2
  · have main : ∀ (l : List Chan) (u : State), c ∈ l → ((u.each l f).chan c).withheld = 0 := by
      intro l
      induction l with
      | nil => intro u h; cases h
      | cons a l ih =>
        intro u h
        rw [State.each_cons]
        by_cases ha : c = a
        · subst ha
          refine State.each_keeps (P := fun u => (u.chan c).withheld = 0) (fun u x hu => ?_) (one u c).2.2.1
          by_cases e : c = x
          · subst e; exact (one u c).2.2.1
          · rw [(one u x).2.2.2 c e]; exact hu
        · exact ih _ (List.mem_of_ne_of_mem ha h)
    exact main _ _ hc
theorem modTmu_setB (s : State) (b : Bay) (f : Tmu → Tmu) (v : Nat) : OnlyObjs s ((s.modTmu b f).setB b RBay.TMU_STATE v) [keyB b RBay.TMU_STATE] ∧
    BayFrame b s ((s.modTmu b f).setB b RBay.TMU_STATE v) :=
  ⟨fun k hk => State.getO_setO_ne _ (by simpa using hk) _, (BayFrame.modBay s b _).trans (BayFrame.setO _ _ _ _)⟩
theorem drive_parts {s : State} {b : Bay} {f : BayU → BayU} {r : Nat} {w : List (Nat × Bool)} :
    OnlyParts s { s.modBay b f with ridgeDrv := r, ridgeWay := w } [.bays, .lines] := by
  intro p hp
  cases p <;> first | rfl | exact absurd hp (by decide)

end Sys2Proof.Machine
end

