-- ==== Sys2Proof/Laws/FactsVec.lean ====
section
/-! SUPPORT. Lemmas about the shared operations behind the commands of one family (vec). -/

namespace Sys2Proof.Machine

/-- what placing edges and strobes keeps of a bay -/
structure KeepsVec (b : Bay) (s t : State) : Prop where
  cc : t.getB b RBay.CYCLE_COUNT = s.getB b RBay.CYCLE_COUNT
  vi : t.getB b RBay.VECTORS_ISSUED = s.getB b RBay.VECTORS_ISSUED
  u : (t.bay b).nextStart = (s.bay b).nextStart ∧ (t.bay b).cyc = (s.bay b).cyc ∧ (t.bay b).rowNext = (s.bay b).rowNext ∧
    (t.bay b).granRows = (s.bay b).granRows ∧ (t.bay b).rows = (s.bay b).rows ∧ (t.bay b).extra = (s.bay b).extra ∧
    (t.bay b).lastRow = (s.bay b).lastRow ∧ (t.bay b).padGran = (s.bay b).padGran ∧ (t.bay b).granBad = (s.bay b).granBad ∧
    (t.bay b).cust = (s.bay b).cust ∧ (t.bay b).matchOn = (s.bay b).matchOn ∧ (t.bay b).lastInfo = (s.bay b).lastInfo
theorem KeepsVec.refl (b : Bay) (s : State) : KeepsVec b s s := ⟨rfl, rfl, rfl, rfl, rfl, rfl, rfl, rfl, rfl, rfl, rfl, rfl, rfl, rfl⟩
theorem KeepsVec.trans {b : Bay} {s t u : State} (h : KeepsVec b s t) (k : KeepsVec b t u) : KeepsVec b s u := by
  obtain ⟨h1, h2, h3, h4, h5, h6, h7, h8, h9, h10, h11, h12, h13, h14⟩ := h
  obtain ⟨k1, k2, k3, k4, k5, k6, k7, k8, k9, k10, k11, k12, k13, k14⟩ := k
  exact ⟨k1.trans h1, k2.trans h2, k3.trans h3, k4.trans h4, k5.trans h5, k6.trans h6, k7.trans h7, k8.trans h8, k9.trans h9, k10.trans h10,
    k11.trans h11, k12.trans h12, k13.trans h13, k14.trans h14⟩
theorem KeepsVec.of_bay {b : Bay} {s t : State} (hb : t.bay b = s.bay b) (h1 : t.getB b RBay.CYCLE_COUNT = s.getB b RBay.CYCLE_COUNT)
    (h2 : t.getB b RBay.VECTORS_ISSUED = s.getB b RBay.VECTORS_ISSUED) : KeepsVec b s t :=
  ⟨h1, h2, by rw [hb]; exact ⟨rfl, rfl, rfl, rfl, rfl, rfl, rfl, rfl, rfl, rfl, rfl, rfl⟩⟩
theorem KeepsVec.each {α : Type} {b : Bay} {l : List α} {f : State → α → State} (h : ∀ u a, KeepsVec b u (f u a)) (s : State) : KeepsVec b s (s.each l f) :=
  State.each_keeps (P := fun u => KeepsVec b s u) (fun u a hu => hu.trans (h u a)) (KeepsVec.refl b s)
theorem KeepsVec.setO (b : Bay) (s : State) {k : Nat} (h : k < 0x300000 ∨ 0x400000 ≤ k) (v : Nat) : KeepsVec b s (s.setO k v) := by
  have e : ∀ o, o < 0x10000 → keyB b o ≠ k := by
    intro o ho hk; have := keyB_high b o; have := keyB_low (b := b) ho; omega
  exact KeepsVec.of_bay rfl (State.getO_setO_ne s (e _ (by decide)) v) (State.getO_setO_ne s (e _ (by decide)) v)
theorem KeepsVec.setC (b : Bay) (s : State) (c : Chan) (o v : Nat) : KeepsVec b s (s.setC c o v) := KeepsVec.setO b s (Or.inr (keyC_high c o)) v
theorem KeepsVec.setB (b c : Bay) (s : State) {o : Nat} (ho : o < 0x10000) (h1 : o ≠ RBay.CYCLE_COUNT) (h2 : o ≠ RBay.VECTORS_ISSUED) (v : Nat) : KeepsVec b s (s.setB c o v) := by
  have e : ∀ p, p < 0x10000 → p ≠ o → keyB b p ≠ keyB c o := by
    intro p hp hne
    by_cases hb : b = c
    · subst hb; exact fun e => hne (keyB_inj.mp e)
    · exact keyB_ne_bay hp ho hb
  exact KeepsVec.of_bay rfl (State.getO_setO_ne s (e _ (by decide) (Ne.symm h1)) v) (State.getO_setO_ne s (e _ (by decide) (Ne.symm h2)) v)
theorem KeepsVec.occur (b : Bay) (s : State) {n : Nat} (h : n < 2048) : KeepsVec b s (s.occur n) :=
  KeepsVec.of_bay (State.bay_occur s n b) (State.getO_occur s h (eventObj_keyB (by decide))) (State.getO_occur s h (eventObj_keyB (by decide)))
theorem KeepsVec.modChan (b : Bay) (s : State) (c : Chan) (f : ChanU → ChanU) : KeepsVec b s (s.modChan c f) := KeepsVec.of_bay rfl rfl rfl
theorem KeepsVec.modBay (b c : Bay) (s : State) (f : BayU → BayU) (h : ∀ v : BayU, (f v).nextStart = v.nextStart ∧ (f v).cyc = v.cyc ∧ (f v).rowNext = v.rowNext ∧
    (f v).granRows = v.granRows ∧ (f v).rows = v.rows ∧ (f v).extra = v.extra ∧ (f v).lastRow = v.lastRow ∧ (f v).padGran = v.padGran ∧
    (f v).granBad = v.granBad ∧ (f v).cust = v.cust ∧ (f v).matchOn = v.matchOn ∧ (f v).lastInfo = v.lastInfo) : KeepsVec b s (s.modBay c f) := by
  by_cases e : b = c
  · subst e; exact ⟨rfl, rfl, by rw [State.bay_modBay_same]; exact h _⟩
  · exact KeepsVec.of_bay (State.bay_modBay_ne s e f) rfl rfl
theorem keySite_low (i : Site) (o : Nat) (h : o < 256) : keySite i o < 0x300000 := by simp only [keySite, key]; omega
theorem KeepsVec.markSite (b : Bay) (s : State) (i : Site) (n : Nat) : KeepsVec b s (s.markSite i n) := KeepsVec.setO b s (Or.inl (keySite_low i _ (by decide))) _
theorem KeepsVec.markSites (b c : Bay) (s : State) (n : Nat) : KeepsVec b s (s.markSites c n) := KeepsVec.each (fun u i => KeepsVec.markSite b u i n) s
theorem KeepsVec.freezeAt (b c : Bay) (s : State) (f : Nat) : KeepsVec b s (s.freezeAt c f) := by
  unfold State.freezeAt; split
  · exact KeepsVec.refl _ _
  · exact (((KeepsVec.modBay b c _ _ (by exact fun _ => ⟨rfl, rfl, rfl, rfl, rfl, rfl, rfl, rfl, rfl, rfl, rfl, rfl⟩)).trans (KeepsVec.setB b c _ (by decide) (by decide) (by decide) _)).trans (KeepsVec.markSites b c _ _)).trans (KeepsVec.occur b _ (evBay_lt (by decide)))
theorem KeepsVec.freeze (b c : Bay) (s : State) (f : Nat) : KeepsVec b s (s.freeze c f) := by
  unfold State.freeze; dsimp only; split
  · exact KeepsVec.freezeAt _ _ _ _
  · exact KeepsVec.each (fun u m => KeepsVec.freezeAt b m u _) s
theorem KeepsVec.ite {b : Bay} {s t u : State} {p : Prop} [Decidable p] (h : KeepsVec b s t) (k : KeepsVec b s u) : KeepsVec b s (if p then t else u) := by split <;> assumption
theorem KeepsVec.reachCount (b c : Bay) (s : State) (v : VInfo) (n : Int) : KeepsVec b s (s.reachCount c v n) := by
  unfold State.reachCount
  exact KeepsVec.ite (KeepsVec.modBay _ _ _ _ (by exact fun _ => ⟨rfl, rfl, rfl, rfl, rfl, rfl, rfl, rfl, rfl, rfl, rfl, rfl⟩)) (KeepsVec.refl _ _)
theorem KeepsVec.sameCount (b c : Bay) (s : State) (v : VInfo) (n : Int) : KeepsVec b s (s.sameCount c v n) := by
  unfold State.sameCount
  exact KeepsVec.modBay _ _ _ _ (by exact fun _ => ⟨rfl, rfl, rfl, rfl, rfl, rfl, rfl, rfl, rfl, rfl, rfl, rfl⟩)
theorem KeepsVec.creditFail (b : Bay) (s : State) (c : Chan) (k : Nat) (v : VInfo) (n : Nat) (x : Int) : KeepsVec b s (s.creditFail c k v n x) := by
  unfold State.creditFail
  extract_lets bb cc q s1 qn bn s2 t first qf s3 s4 s5 s6 s7 qs ro s8
  have h1 : KeepsVec b s s1 := KeepsVec.setC _ _ _ _ _
  have h2 : KeepsVec b s s2 := h1.trans (KeepsVec.modBay _ _ _ _ (by exact fun _ => ⟨rfl, rfl, rfl, rfl, rfl, rfl, rfl, rfl, rfl, rfl, rfl, rfl⟩))
  split
  · exact h2
  · have h3 : KeepsVec b s s3 := KeepsVec.ite (h2.trans (KeepsVec.setB _ _ _ (by have := q.isLt; simp only [RBay.QUAD_FAIL_VECTORS]; omega) (by have := q.isLt; simp only [RBay.QUAD_FAIL_VECTORS, RBay.CYCLE_COUNT]; omega) (by have := q.isLt; simp only [RBay.QUAD_FAIL_VECTORS, RBay.VECTORS_ISSUED]; omega) _)) h2
    have h4 : KeepsVec b s s4 := KeepsVec.ite ((h3.trans (KeepsVec.setB _ _ _ (by decide) (by decide) (by decide) _)).trans (KeepsVec.reachCount _ _ _ _ _))
      (h3.trans (KeepsVec.sameCount _ _ _ _ _))
    have h5 : KeepsVec b s s5 := h4.trans (KeepsVec.modBay _ _ _ _ (by exact fun _ => ⟨rfl, rfl, rfl, rfl, rfl, rfl, rfl, rfl, rfl, rfl, rfl, rfl⟩))
    have h6 : KeepsVec b s s6 := by
      simp only [s6]; split
      · exact h5.trans (KeepsVec.markSite _ _ _ _)
      · exact h5
    have h7 : KeepsVec b s s7 := KeepsVec.ite (h6.trans (KeepsVec.occur _ _ (evBay_lt (by decide)))) h6
    have h8 : KeepsVec b s s8 := KeepsVec.ite (h7.trans (KeepsVec.modBay _ _ _ _ (by exact fun _ => ⟨rfl, rfl, rfl, rfl, rfl, rfl, rfl, rfl, rfl, rfl, rfl, rfl⟩))) h7
    exact KeepsVec.ite (h8.trans (KeepsVec.freeze _ _ _ _)) h8
theorem KeepsVec.queueCmp (b : Bay) (s : State) (c : Chan) (k : Nat) (v : VInfo) (n : Nat) (w : CmpWhat) : KeepsVec b s (s.queueCmp c k v n w) := by
  unfold State.queueCmp
  exact KeepsVec.modBay _ _ _ _ (by exact fun _ => ⟨rfl, rfl, rfl, rfl, rfl, rfl, rfl, rfl, rfl, rfl, rfl, rfl⟩)
theorem KeepsVec.compared (b : Bay) (s : State) (c : Chan) (k : Nat) (v : VInfo) (n : Nat) (y : Int) (x : Bool) : KeepsVec b s (s.compared c k v n y x) := by
  unfold State.compared; dsimp only
  split
  · exact KeepsVec.ite (KeepsVec.queueCmp _ _ _ _ _ _ _) (KeepsVec.refl _ _)
  · refine KeepsVec.ite (KeepsVec.refl _ _) ?_
    have h := KeepsVec.queueCmp b s c k v n (.compare x)
    exact KeepsVec.ite (h.trans (KeepsVec.creditFail _ _ _ _ _ _ _)) h
theorem keyCap_bay (b c : Bay) (m : Fin 5) (o p : Nat) (ho : o < 256) (hp : p = RBay.CYCLE_COUNT ∨ p = RBay.VECTORS_ISSUED) : keyB b p ≠ keyCap c m o := by
  rcases hp with rfl | rfl <;> simp only [keyCap, keyB, RBay.CYCLE_COUNT, RBay.VECTORS_ISSUED] <;> omega
theorem KeepsVec.setCap (b c : Bay) (s : State) (m : Fin 5) {o : Nat} (ho : o < 256) (v : Nat) : KeepsVec b s (s.setCap c m o v) :=
  KeepsVec.of_bay rfl (State.getO_setO_ne s (keyCap_bay b c m o _ ho (Or.inl rfl)) v) (State.getO_setO_ne s (keyCap_bay b c m o _ ho (Or.inr rfl)) v)
theorem KeepsVec.modCap (b c : Bay) (s : State) (m : Fin 5) (f : CapStream → CapStream) : KeepsVec b s (s.modCap c m f) := KeepsVec.modBay _ _ _ _ (by exact fun _ => ⟨rfl, rfl, rfl, rfl, rfl, rfl, rfl, rfl, rfl, rfl, rfl, rfl⟩)
theorem KeepsVec.fireWindow (b c : Bay) (s : State) (m : Fin 5) (x y z : Nat) : KeepsVec b s (s.fireWindow c m x y z) := by
  unfold State.fireWindow; dsimp only
  exact (KeepsVec.modCap _ _ _ _ _).trans (KeepsVec.setCap _ _ _ _ (by decide) _)
theorem KeepsVec.historyFire (b c : Bay) (s : State) (n y : Nat) : KeepsVec b s (s.historyFire c n y) := by
  unfold State.historyFire
  exact KeepsVec.ite (KeepsVec.fireWindow _ _ _ _ _ _ _) (KeepsVec.refl _ _)
theorem KeepsVec.judge (b : Bay) (s : State) (c : Chan) (k : Nat) (v : VInfo) (n : Nat) (y : Int) (x : Bool) : KeepsVec b s (s.judge c k v n y x) := by
  unfold State.judge; dsimp only
  exact KeepsVec.ite ((KeepsVec.compared _ _ _ _ _ _ _ _).trans (KeepsVec.historyFire _ _ _ _ _)) (KeepsVec.compared _ _ _ _ _ _ _ _)
theorem KeepsVec.violate (b : Bay) (s : State) (c : Chan) (f n : Nat) : KeepsVec b s (s.violate c f n) := by
  unfold State.violate; dsimp only
  have h : KeepsVec b s ((s.flagC c RChan.FORMAT_FLAGS f).incC c n) := (KeepsVec.setC _ _ _ _ _).trans (KeepsVec.setC _ _ _ _ _)
  exact KeepsVec.ite (h.trans (KeepsVec.occur _ _ (evChan_lt (by decide)))) h
theorem KeepsVec.invalidChan (b : Bay) (s : State) (c : Chan) : KeepsVec b s (s.invalidChan c) := by
  unfold State.invalidChan; split
  · exact KeepsVec.markSite _ _ _ _
  · exact KeepsVec.refl _ _
theorem KeepsVec.placeDrive (b : Bay) (s : State) (c : Chan) (v : VInfo) (r x y : Nat) : KeepsVec b s (s.placeDrive c v r x y) := by
  unfold State.placeDrive; dsimp only
  refine KeepsVec.each (fun u k => ?_) s
  split
  · exact KeepsVec.refl _ _
  · split
    · exact KeepsVec.refl _ _
    · exact KeepsVec.ite (KeepsVec.modChan _ _ _ _) ((KeepsVec.violate _ _ _ _ _).trans (KeepsVec.invalidChan _ _ _))
theorem KeepsVec.badCapture (b : Bay) (s : State) (c : Chan) (n k : Nat) : KeepsVec b s (s.badCapture c n k) := by
  unfold State.badCapture
  exact KeepsVec.modBay _ _ _ _ (by exact fun _ => ⟨rfl, rfl, rfl, rfl, rfl, rfl, rfl, rfl, rfl, rfl, rfl, rfl⟩)
theorem KeepsVec.startBlank (b c : Bay) (s : State) : KeepsVec b s (s.startBlank c) := by
  unfold State.startBlank; dsimp only
  exact KeepsVec.ite ((KeepsVec.setB _ _ _ (by decide) (by decide) (by decide) _).trans (KeepsVec.modBay _ _ _ _ (by exact fun _ => ⟨rfl, rfl, rfl, rfl, rfl, rfl, rfl, rfl, rfl, rfl, rfl, rfl⟩))) (KeepsVec.refl _ _)
theorem KeepsVec.blankIssued (b : Bay) (s : State) (c : Chan) : KeepsVec b s (s.blankIssued c) := by
  unfold State.blankIssued; dsimp only
  exact KeepsVec.ite (KeepsVec.startBlank _ _ _) (KeepsVec.refl _ _)
theorem KeepsVec.placeStrobes (b : Bay) (s : State) (c : Chan) (v : VInfo) (r x y : Nat) : KeepsVec b s (s.placeStrobes c v r x y) := by
  unfold State.placeStrobes; dsimp only
  refine KeepsVec.each (fun u k => ?_) s
  generalize (if strobeRole r k - 2 = 1 then y else x) = a
  split
  · exact KeepsVec.refl _ _
  · split
    · exact KeepsVec.modChan _ _ _ _
    · exact KeepsVec.ite ((KeepsVec.violate _ _ _ _ _).trans (KeepsVec.judge _ _ _ _ _ _ _ _)) ((KeepsVec.violate _ _ _ _ _).trans (KeepsVec.badCapture _ _ _ _ _))
theorem KeepsVec.registerCmp (b c : Bay) (s : State) (r : CmpRes) : KeepsVec b s (s.registerCmp c r) := by
  unfold State.registerCmp; dsimp only
  split
  · exact KeepsVec.modChan _ _ _ _
  · exact KeepsVec.modBay _ _ _ _ (by exact fun _ => ⟨rfl, rfl, rfl, rfl, rfl, rfl, rfl, rfl, rfl, rfl, rfl, rfl⟩)
  · split
    · exact KeepsVec.modChan _ _ _ _
    · exact (KeepsVec.modChan _ _ _ _).trans (KeepsVec.modBay _ _ _ _ (by exact fun _ => ⟨rfl, rfl, rfl, rfl, rfl, rfl, rfl, rfl, rfl, rfl, rfl, rfl⟩))
theorem KeepsVec.registerDue (b c : Bay) (s : State) (n : Nat) : KeepsVec b s (s.registerDue c n) := by
  unfold State.registerDue; dsimp only
  refine KeepsVec.trans ?_ (KeepsVec.each (fun u r => KeepsVec.registerCmp _ _ _ _) _)
  exact KeepsVec.modBay _ _ _ _ (by exact fun _ => ⟨rfl, rfl, rfl, rfl, rfl, rfl, rfl, rfl, rfl, rfl, rfl, rfl⟩)
theorem KeepsVec.driveRidge (b : Bay) (s : State) (l : Nat) (x : Bool) : KeepsVec b s (s.driveRidge l x) := by
  unfold State.driveRidge
  exact KeepsVec.ite (KeepsVec.refl _ _) (KeepsVec.of_bay rfl rfl rfl)
theorem KeepsVec.driveLines (b : Bay) (s : State) (i : Site) : KeepsVec b s (s.driveLines i) := by
  unfold State.driveLines
  extract_lets fail match_ line t
  have hl : ∀ u o v, KeepsVec b u (line u o v) := fun u o v => KeepsVec.ite (KeepsVec.driveRidge _ _ _ _) (KeepsVec.refl _ _)
  have ht : KeepsVec b s t := KeepsVec.ite ((hl _ _ _).trans (hl _ _ _)) (KeepsVec.refl _ _)
  exact KeepsVec.ite (ht.trans (KeepsVec.of_bay rfl rfl rfl)) ht
theorem KeepsVec.driveSite (b c : Bay) (s : State) : KeepsVec b s (s.driveSite c) := KeepsVec.each (fun u i => KeepsVec.driveLines _ _ _) s
theorem KeepsVec.inhibitBay (b c : Bay) (s : State) (k : Nat) (x : Bool) : KeepsVec b s (s.inhibitBay c k x) := KeepsVec.each (fun u d => KeepsVec.setC _ _ _ _ _) s
theorem KeepsVec.periodReset (b c : Bay) (s : State) : KeepsVec b s (s.periodReset c) := by
  unfold State.periodReset; dsimp only
  refine ((KeepsVec.each (fun u d => ?_) s).trans (KeepsVec.setB _ _ _ (by decide) (by decide) (by decide) _)).trans (KeepsVec.setB _ _ _ (by decide) (by decide) (by decide) _)
  exact (KeepsVec.modChan _ _ _ _).trans (KeepsVec.each (fun w e => KeepsVec.compared _ _ _ _ _ _ _ _) _)
theorem issueVec_is (s : State) (b : Bay) (kind : VecKind) :
    let p := s.getB b (RBay.PERIOD + ((s.bay b).prdSel).getD (entPrd (s.curEntry b)))
    let t := s.issueVec b kind
    t.getB b RBay.CYCLE_COUNT = (s.getB b RBay.CYCLE_COUNT + 1) % 2 ^ 64 ∧ t.getB b RBay.VECTORS_ISSUED = s.getB b RBay.VECTORS_ISSUED ∧
    (t.bay b).nextStart = (s.bay b).nextStart + p ∧ (t.bay b).cyc = (s.bay b).cyc ∧ (t.bay b).rowNext = (s.bay b).rowNext ∧
    (t.bay b).granRows = (s.bay b).granRows ∧ (t.bay b).extra = (s.bay b).extra ∧ (t.bay b).lastRow = (s.bay b).lastRow ∧
    (t.bay b).padGran = (s.bay b).padGran ∧ (t.bay b).granBad = (s.bay b).granBad ∧ (t.bay b).rows = (s.bay b).rows := by
  intro p t
  simp only [t]
  unfold State.issueVec
  extract_lets prd tset page period s1 s2 v s3 s4 s5 s6
  have h1 : KeepsVec b s s1 := by
    simp only [s1]; unfold State.firstVector; exact KeepsVec.ite (KeepsVec.inhibitBay _ _ _ _ _) (KeepsVec.refl _ _)
  have h2 : KeepsVec b s s2 := KeepsVec.ite (h1.trans (KeepsVec.periodReset _ _ _)) h1
  have h3 : KeepsVec b s s3 := by
    simp only [s3]; unfold State.matchStart; split
    · exact h2.trans (KeepsVec.modBay _ _ _ _ (by exact fun _ => ⟨rfl, rfl, rfl, rfl, rfl, rfl, rfl, rfl, rfl, rfl, rfl, rfl⟩))
    · exact h2
  have hv : v.cycle = s.getB b RBay.CYCLE_COUNT ∧ v.start = (s.bay b).nextStart := by
    simp only [v]; unfold State.vectorInfo; dsimp only
    split
    · exact ⟨h2.cc, h2.u.1⟩
    · exact ⟨h2.cc, h2.u.1⟩
  have h6 : KeepsVec b s5 s6 := by
    refine KeepsVec.each (fun u k => ?_) _
    dsimp only; split
    · exact KeepsVec.refl _ _
    · exact ((KeepsVec.placeDrive _ _ _ _ _ _ _).trans (KeepsVec.blankIssued _ _ _)).trans (KeepsVec.placeStrobes _ _ _ _ _ _ _)
  have h7 : KeepsVec b s5 (s6.matchPlaced b v) := by
    refine h6.trans ?_
    unfold State.matchPlaced; dsimp only; split
    · exact KeepsVec.refl _ _
    · exact KeepsVec.modBay _ _ _ _ (by exact fun _ => ⟨rfl, rfl, rfl, rfl, rfl, rfl, rfl, rfl, rfl, rfl, rfl, rfl⟩)
  have b4 : s4.bay b = { s3.bay b with
    vrecs := (s4.bay b).vrecs, nextStart := v.start + period, lastEnd := (s4.bay b).lastEnd, lastPrd := (s4.bay b).lastPrd, lastInfo := v } := by
    simp only [s4]; rw [State.bay_modBay_same]
  have b5 : s5.bay b = s4.bay b := rfl
  obtain ⟨u1, u2, u3, u4, u5, u6, u7, u8, u9, u10, u11, u12⟩ := h3.u
  obtain ⟨w1, w2, w3, w4, w5, w6, w7, w8, w9, w10, w11, w12⟩ := h7.u
  have g5 : s5.getB b RBay.CYCLE_COUNT = (v.cycle + 1) % 2 ^ 64 := State.getB_setB_same _ _ _ _
  have g6 : s5.getB b RBay.VECTORS_ISSUED = s.getB b RBay.VECTORS_ISSUED := by
    simp only [s5]
    rw [State.getB_setB, if_neg (by decide), State.getB_setB, if_neg (by decide), State.getB_setB, if_neg (by decide)]
    simp only [s4, State.getB_modBay]; exact h3.vi
  refine ⟨by rw [h7.cc, g5, hv.1], h7.vi.trans g6, ?_, ?_, ?_, ?_, ?_, ?_, ?_, ?_, ?_⟩
  · rw [w1, b5, b4]; show v.start + period = _; rw [hv.2]
  · rw [w2, b5, b4]; exact u2
  · rw [w3, b5, b4]; exact u3
  · rw [w4, b5, b4]; exact u4
  · rw [w6, b5, b4]; exact u6
  · rw [w7, b5, b4]; exact u7
  · rw [w8, b5, b4]; exact u8
  · rw [w9, b5, b4]; exact u9
  · rw [w5, b5, b4]; exact u5
/-- A new cycle changes only the cycle's own records. -/
theorem beginCycle_is (s : State) (b : Bay) : ∃ x r a f, s.beginCycle b = { s with bays := x } ∧
    (s.beginCycle b).bay b = { s.bay b with cycRows := r, cycDone := false, cycActed := a, cycFirst := f } ∧
    r = (if (s.bay b).cycDone then 0 else (s.bay b).cycRows) := by
  unfold State.beginCycle; split
  · exact ⟨_, 0, 0, _, rfl, State.bay_modBay_same .., rfl⟩
  · next h =>
    refine ⟨s.bays, (s.bay b).cycRows, (s.bay b).cycActed, (s.bay b).cycFirst, rfl, ?_, rfl⟩
    rw [← Bool.not_eq_true _ |>.mp h]
/-- the end of a cycle with one vector -/
theorem cycle_one (s : State) (b : Bay) (slot : State → Option State) (v : State) (h1 : (s.beginCycle b).slotLeft b = true)
    (h2 : (s.beginCycle b).issuing b = true) (h4 : slot (s.beginCycle b) = some v) (h5 : v.slotLeft b = false) (h6 : (v.bay b).extra = none) :
    ∃ w, KeepsVec b v w ∧ (s.cycle b slot).getB b RBay.CYCLE_COUNT = w.getB b RBay.CYCLE_COUNT ∧
      (s.cycle b slot).getB b RBay.VECTORS_ISSUED = w.getB b RBay.VECTORS_ISSUED ∧
      ∃ x y z p q, (s.cycle b slot).bay b = { w.bay b with cyc := (w.bay b).cyc + 1, cycDone := x, noRow := y, extra := z, conds := p, wordCyc := q } := by
  unfold State.cycle
  rw [State.issueSlots, h1, h2, if_pos (by decide), h4]; dsimp only
  rw [State.issueSlots, h5, if_neg (by simp)]
  unfold State.endCycle
  rw [h5, if_neg (by decide)]; dsimp only
  have hw : KeepsVec b v (v.waitCount b) := by
    unfold State.waitCount; dsimp only
    have : uwWto (v.word b) < 4 := Nat.mod_lt _ (by decide)
    refine KeepsVec.ite (KeepsVec.setB _ _ _ ?_ ?_ ?_ _) (KeepsVec.refl _ _) <;> simp only [RBay.CNT_VALUE, RBay.CYCLE_COUNT, RBay.VECTORS_ISSUED] <;> omega
  have hk := (hw.trans (KeepsVec.registerDue b b _ (v.bay b).cyc)).trans (KeepsVec.driveSite b b _)
  have e0 : ∀ (t : State) (p : Bool), (t.bay b).extra = none → t.passExtra b p = t := by
    intro t p h; unfold State.passExtra State.afterExtra; split
    · rfl
    · rw [h]
  refine ⟨_, hk, ?_⟩
  rw [e0 _ _ (by rw [State.bay_modBay_same]; exact hk.u.2.2.2.2.2.1.trans h6)]
  refine ⟨State.getB_modBay .., State.getB_modBay .., ?_⟩
  rw [State.bay_modBay_same]
  exact ⟨_, _, _, _, _, rfl⟩
theorem noSlot {v : State} {b : Bay} {n : Int} {k : Nat} (h1 : (v.bay b).nextStart = n) (h2 : (v.bay b).cyc = k) (h : 4000 * ((k : Int) + 3) ≤ n) : v.slotLeft b = false := by
  unfold State.slotLeft; rw [h1, h2]; simp; omega
theorem emits_issuing {s : State} {b : Bay} {k : Nat} (h : s.emits b k = true) : s.issuing b = true := by
  unfold State.emits State.executing at h; simp only [Bool.and_eq_true] at h; exact h.1.1.1.1.1
theorem one_held (s : State) (b : Bay) (kind : VecKind) (prd : Nat) (hi : s.issuing b = true) (he : (s.bay b).extra = none) (hs : s.slotLeft b = true)
    (hp : prd = ((s.bay b).prdSel).getD (entPrd (s.curEntry b)))
    (hn : 4000 * (((s.bay b).cyc : Int) + 3) ≤ (s.bay b).nextStart + s.getB b (RBay.PERIOD + prd)) (slot : State → Option State)
    (hk : slot (s.beginCycle b) = some ((s.beginCycle b).issueVec b kind)) :
    (s.cycle b slot).getB b RBay.CYCLE_COUNT = (s.getB b RBay.CYCLE_COUNT + 1) % 2 ^ 64 ∧
      (s.cycle b slot).getB b RBay.VECTORS_ISSUED = s.getB b RBay.VECTORS_ISSUED ∧ ((s.cycle b slot).bay b).rowNext = (s.bay b).rowNext ∧
      ((s.cycle b slot).bay b).lastRow = (s.bay b).lastRow ∧
      ((s.cycle b slot).bay b).nextStart = (s.bay b).nextStart + s.getB b (RBay.PERIOD + prd) ∧ ((s.cycle b slot).bay b).cyc = (s.bay b).cyc + 1 := by
  obtain ⟨x0, r, a, f, hu, ub, _⟩ := beginCycle_is s b
  generalize hg : s.beginCycle b = u at *
  have ug : ∀ o, u.getB b o = s.getB b o := fun o => by rw [hu]; rfl
  have ue : u.curEntry b = s.curEntry b := by rw [hu]; rfl
  have us : u.slotLeft b = s.slotLeft b := by unfold State.slotLeft; rw [ub]
  have ui : u.issuing b = s.issuing b := by unfold State.issuing; rw [ub, hu]; rfl
  obtain ⟨i1, i2, i3, i4, i5, i6, i7, i8, i9, i10, i11⟩ := issueVec_is u b kind
  rw [ue, ub] at i3; rw [ub] at i4 i5 i7 i8
  dsimp only at i3 i4 i5 i7 i8
  rw [← hp, ug] at i3; rw [ug] at i1 i2
  obtain ⟨w, hw, c1, c2, x, y, z, p, q, c3⟩ := cycle_one s b slot _ (by rw [hg, us]; exact hs) (by rw [hg, ui]; exact hi) (by rw [hg]; exact hk)
    (noSlot i3 i4 hn) (i7.trans he)
  obtain ⟨w1, w2, w3, w4, w5, w6, w7, w8, w9, w10, w11, w12⟩ := hw.u
  refine ⟨c1.trans (hw.cc.trans i1), c2.trans (hw.vi.trans i2), ?_, ?_, ?_, ?_⟩ <;> rw [c3] <;> dsimp only
  · exact w3.trans i5
  · exact w7.trans i8
  · exact w1.trans i3
  · rw [w2, i4]

end Sys2Proof.Machine
end

