-- ==== Sys2Proof/Laws/FactsTiming.lean ====
section
/-! SUPPORT. Lemmas about the shared operations behind the commands of one family (timing). -/

namespace Sys2Proof.Machine

theorem LM_low : R.LOCK_MASK < 0x300000 := by decide
theorem lm_keyB (b : Bay) (o : Nat) : R.LOCK_MASK ≠ keyB b o := by have := keyB_high b o; simp only [R.LOCK_MASK]; omega
theorem lm_keyC (c : Chan) (o : Nat) : R.LOCK_MASK ≠ keyC c o := by have := keyC_high c o; simp only [R.LOCK_MASK]; omega
theorem lm_keyA (b : Bay) (o : Nat) : R.LOCK_MASK ≠ keyA b o := by simp only [R.LOCK_MASK, keyA, key]; omega
theorem rollAbort_lm (s : State) (b : Bay) : (s.rollAbort b).getO R.LOCK_MASK = s.getO R.LOCK_MASK := by
  have own : ∀ u : State, (u.ownPath b).getO R.LOCK_MASK = u.getO R.LOCK_MASK := by
    intro u; unfold State.ownPath; split
    · exact State.getO_setO_ne _ (lm_keyC _ _) _
    · rfl
  have old : ∀ u : State, (u.oldValues b).getO R.LOCK_MASK = u.getO R.LOCK_MASK := by
    intro u; unfold State.oldValues; split
    · exact State.getO_each (f := fun (s : State) (p : Nat × Nat) => s.setC _ p.1 p.2) (fun v p _ => State.getO_setO_ne v (lm_keyC _ _) _) u
    · rfl
  have past : ∀ u : State, (u.stepOver b).getO R.LOCK_MASK = u.getO R.LOCK_MASK := by
    intro u; unfold State.stepOver
    extract_lets r span s1 s2 s3
    have e1 : s1.getO R.LOCK_MASK = u.getO R.LOCK_MASK := rfl
    have e2 : s2.getO R.LOCK_MASK = u.getO R.LOCK_MASK := by
      simp only [s2]; split
      · rw [State.getO_setO_ne _ (lm_keyA _ _), State.getO_setO_ne _ (lm_keyA _ _)]; exact e1
      · exact e1
    have e3 : s3.getO R.LOCK_MASK = u.getO R.LOCK_MASK := by
      simp only [s3]; rw [State.getO_setO_ne _ (lm_keyA _ _)]; exact e2
    split
    · exact (State.getO_setO_ne _ (lm_keyB _ _) _).trans e3
    · exact e3
  unfold State.rollAbort; dsimp only; split
  · rw [past]; exact (State.getO_setO_ne _ (lm_keyA _ _) _).trans ((own _).trans (old _))
  · rfl
theorem setC_low (x : State) (c : Chan) (o v k : Nat) (hk : k < 0x400000) : (x.setC c o v).getO k = x.getO k := by
  refine State.getO_setO_ne _ ?_ _
  have := keyC_high c o; omega
theorem flagC_low (x : State) (c : Chan) (o v k : Nat) (hk : k < 0x400000) : (x.flagC c o v).getO k = x.getO k := setC_low x c o _ k hk
theorem flagC_bays (x : State) (c : Chan) (o v : Nat) : (x.flagC c o v).bays = x.bays := rfl
def SameLow (s u : State) : Prop := u.bays = s.bays ∧ ∀ k, k < 0x400000 → u.getO k = s.getO k
theorem SameLow.taps {s u : State} (f : State → Nat → Nat) (c : Chan) (l : List Nat) (hu : SameLow s u) :
    SameLow s (u.each l (fun s l => s.setC c (RChan.TAPS + l) (f s l))) := by
  apply State.each_keeps (P := SameLow s) ?_ hu
  intro v l hv
  refine ⟨hv.1, ?_⟩
  intro k hk
  rw [setC_low _ _ _ _ k hk]; exact hv.2 k hk
theorem SameLow.flag {s w : State} (c : Chan) (n a d : Nat) (h : SameLow s w) : SameLow s ((w.flagC c n 1).fault a 0x2A d) := by
  refine ⟨?_, ?_⟩
  · rw [(ReportFrame.fault (w.flagC c n 1) a 0x2A d).bays, flagC_bays]; exact h.1
  · intro k hk; rw [State.getO_fault, flagC_low _ _ _ _ k hk]; exact h.2 k hk
theorem retap_is (s : State) (b : Bay) : SameLow s (s.retap b) := by
  unfold State.retap
  apply State.each_keeps (P := SameLow s) ?_ ⟨rfl, fun _ _ => rfl⟩
  intro u c hu
  have e := SameLow.taps (fun s l => ofSigned 16 (s.tapsOf c l).1) c (List.range 4) hu
  dsimp only
  generalize u.each (List.range 4) _ = w at *
  split
  · exact e
  · exact e.flag c _ _ _
theorem unlock_is (s : State) (b : Bay) : s.unlock b false = { s with objs := s.objs.set R.LOCK_MASK (clrBit (s.getO R.LOCK_MASK) b.val), chans := (s.unlock b false).chans } ∧
    ∀ c ∈ chansOf b, ((s.unlock b false).chan c).edges = [] ∧ ((s.unlock b false).chan c).strobes = [] := by
  unfold State.unlock; dsimp only
  rw [if_neg (by decide)]
  generalize hu : s.setO R.LOCK_MASK (clrBit (s.getO R.LOCK_MASK) b.val) = u
  generalize hf : (fun (s : State) c => s.modChan c (fun u => { u with edges := [], strobes := [] })) = f
  have one : ∀ (x : State) c, ((f x c).chan c).edges = [] ∧ ((f x c).chan c).strobes = [] := by
    intro x c; rw [← hf]; dsimp only; rw [State.chan_modChan_same]; exact ⟨rfl, rfl⟩
  refine ⟨?_, fun c hc => ?_⟩
  · have : ∀ (l : List Chan) (x : State), x.each l f = { x with chans := (x.each l f).chans } := by
      intro l
      induction l with
      | nil => intro x; rfl
      | cons a l ih => intro x; rw [State.each_cons, ih]; rw [← hf]; rfl
    rw [this]; rw [← hu]; rfl
  · have main : ∀ (l : List Chan) (x : State), c ∈ l → (((x.each l f)).chan c).edges = [] ∧ ((x.each l f).chan c).strobes = [] := by
      intro l
      induction l with
      | nil => intro x h; cases h
      | cons a l ih =>
        intro x h
        rw [State.each_cons]
        by_cases e : c = a
        · subst e
          refine State.each_keeps (P := fun x => (x.chan c).edges = [] ∧ (x.chan c).strobes = []) (fun y d hy => ?_) (one x c)
          by_cases e : c = d
          · subst e; exact one y c
          · rw [← hf]; dsimp only; rw [State.chan_modChan_ne _ e]; exact hy
        · exact ih _ (List.mem_of_ne_of_mem e h)
    exact main _ _ hc
theorem unlock_objs (s : State) (b : Bay) : (s.unlock b false).objs = s.objs.set R.LOCK_MASK (clrBit (s.getO R.LOCK_MASK) b.val) := by
  obtain ⟨u1, _⟩ := unlock_is s b; rw [u1]
theorem unlock_bays (s : State) (b : Bay) : (s.unlock b false).bays = s.bays := by obtain ⟨u1, _⟩ := unlock_is s b; rw [u1]
theorem unlock_ports (s : State) (b : Bay) : (s.unlock b false).ports = s.ports := by obtain ⟨u1, _⟩ := unlock_is s b; rw [u1]
theorem unlock_getO (s : State) (b : Bay) (k : Nat) : (s.unlock b false).getO k = (s.setO R.LOCK_MASK (clrBit (s.getO R.LOCK_MASK) b.val)).getO k := by
  apply State.getO_of_objs; rw [unlock_objs]; rfl
theorem unlock_bay (s : State) (b c : Bay) : (s.unlock b false).bay c = s.bay c := by unfold State.bay; rw [unlock_bays]
theorem storeSet_frame (s : State) (b : Bay) (n : Nat) (d : Bytes) : s.storeSet b n d = { s with tsets := (s.storeSet b n d).tsets } := by
  unfold State.storeSet
  generalize (setRecords d).zipIdx = l
  induction l generalizing s with
  | nil => rfl
  | cons a l ih => rw [State.each_cons, ih]
theorem zip_get (b : Bay) (n : Nat) : ∀ (l : List Nat) (k : Nat) (s : State), k + l.length ≤ 17 →
    (∀ p, p < l.length → ((s.each (l.zipIdx k) (fun s p => { s with tsets := s.tsets.set (tsetKey b n p.2) (BitVec.ofNat 320 p.1) })).tsets.get (tsetKey b n (k + p)) 0 = BitVec.ofNat 320 (l.getD p 0))) ∧
    (∀ q, (∀ p, k ≤ p → p < 17 → q ≠ tsetKey b n p) → (s.each (l.zipIdx k) (fun s p => { s with tsets := s.tsets.set (tsetKey b n p.2) (BitVec.ofNat 320 p.1) })).tsets.get q 0 = s.tsets.get q 0) := by
  intro l
  induction l with
  | nil => intro k s _; exact ⟨fun p h => absurd h (Nat.not_lt_zero _), fun _ _ => rfl⟩
  | cons a l ih =>
    intro k s hk
    rw [List.length_cons] at hk
    rw [List.zipIdx_cons, State.each_cons]
    obtain ⟨i1, i2⟩ := ih (k + 1) { s with tsets := s.tsets.set (tsetKey b n k) (BitVec.ofNat 320 a) } (by omega)
    refine ⟨fun p hp => ?_, fun q hq => ?_⟩
    · cases p with
      | zero =>
        refine (i2 _ (fun p h1 h2 => by simp only [tsetKey]; omega)).trans ?_
        exact Tab.get_set_same _ _ _ _
      | succ p =>
        have := i1 p (by simpa using hp)
        rw [show k + (p + 1) = k + 1 + p by omega]
        simpa using this
    · refine (i2 q (fun p h1 h2 => hq p (by omega) h2)).trans ?_
      exact Tab.get_set_ne _ (hq k (by omega) (by omega)) _ _
theorem chunks_len (n : Nat) : ∀ (f : Nat) (l : Bytes), (chunks n f l).length ≤ f := by
  intro f
  induction f with
  | zero => intro l; exact Nat.le_refl _
  | succ f ih => intro l; unfold chunks; split
                 · exact Nat.zero_le _
                 · simp only [List.length_cons]; exact Nat.succ_le_succ (ih _)
theorem setRecords_len (d : Bytes) : (setRecords d).length ≤ 16 := by unfold setRecords; rw [List.length_map]; exact chunks_len _ _ _
theorem storeSets_ok (b : Bay) (f : Nat → Bytes) (i : Nat) : ∀ (n k : Nat) (s : State), (∀ j, k ≤ j → j < k + n → setError (f j) = none) →
    ∃ ts, s.storeSets b ((List.range' k n).map (fun j => (i + j, f j))) = ({ s with tsets := ts } : State).ok ∧
      (∀ j p, k ≤ j → j < k + n → p < (setRecords (f j)).length → ts.get (tsetKey b (i + j) p) 0 = BitVec.ofNat 320 ((setRecords (f j)).getD p 0)) ∧
      (∀ q, (∀ j p, k ≤ j → j < k + n → p < 17 → q ≠ tsetKey b (i + j) p) → ts.get q 0 = s.tsets.get q 0) := by
  intro n
  induction n with
  | zero => intro k s _; exact ⟨s.tsets, rfl, fun j p h1 h2 => by omega, fun _ _ => rfl⟩
  | succ n ih =>
    intro k s h
    rw [List.range'_succ, List.map_cons, State.storeSets, h k (by omega) (by omega)]
    dsimp only
    obtain ⟨ts, e1, e2, e3⟩ := ih (k + 1) (s.storeSet b (i + k) (f k)) (fun j h1 h2 => h j (by omega) (by omega))
    refine ⟨ts, ?_, ?_, ?_⟩
    · rw [e1, storeSet_frame]
    · intro j p h1 h2 hp
      by_cases e : j = k
      · subst e
        have hl := setRecords_len (f j)
        rw [e3 _ (fun j' p' h1 h2 h3 => by simp only [tsetKey]; omega)]
        have := (zip_get b (i + j) (setRecords (f j)) 0 s (by omega)).1 p hp
        rw [Nat.zero_add] at this
        exact this
      · exact e2 j p (by omega) (by omega) hp
    · intro q hq
      rw [e3 q (fun j p h1 h2 h3 => hq j p (by omega) (by omega) h3)]
      have hl := setRecords_len (f k)
      exact (zip_get b (i + k) (setRecords (f k)) 0 s (by omega)).2 q (fun p _ h2 => hq k p (by omega) (by omega) h2)
theorem violate_frame (s : State) (c : Chan) (f n : Nat) : ReportFrame s (s.violate c f n) := by
  unfold State.violate; dsimp only
  have h : ReportFrame s ((s.flagC c RChan.FORMAT_FLAGS f).incC c n) := ((ObjFrame.setO _ _ _).trans (ObjFrame.setO _ _ _)).report
  split
  · exact h.trans (State.occur_frame _ _)
  · exact h
theorem violate_count (s : State) (c : Chan) (f n : Nat) (hn : n < 0x4000) (hne : n ≠ RChan.FORMAT_FLAGS) :
    (s.violate c f n).getC c n = satAdd 32 (s.getC c n) 1 := by
  unfold State.violate; dsimp only
  have h : ((s.flagC c RChan.FORMAT_FLAGS f).incC c n).getC c n = satAdd 32 (s.getC c n) 1 := by
    unfold State.incC State.flagC; rw [State.getC_setC_same, State.getC_setC, if_neg hne]
  split
  · exact (State.getO_occur _ (evChan_lt (by decide)) (eventObj_keyC hn)).trans h
  · exact h
theorem invalid_frame (s : State) (c : Chan) : ObjFrame s (s.invalidChan c) := by
  unfold State.invalidChan; split
  · exact ObjFrame.setO _ _ _
  · rfl
theorem invalid_getC (s : State) (c d : Chan) (o : Nat) : (s.invalidChan c).getC d o = s.getC d o := by
  unfold State.invalidChan; split
  · refine State.getO_setO_ne _ ?_ _
    have := keyC_high d o; simp only [keySite, key, RSite.SITE_STATUS]; omega
  · rfl
theorem ReportFrame.chan_eq {s t : State} (h : ReportFrame s t) (c : Chan) : t.chan c = s.chan c := by unfold State.chan; rw [h.chans]
theorem ReportFrame.bay_eq {s t : State} (h : ReportFrame s t) (b : Bay) : t.bay b = s.bay b := by unfold State.bay; rw [h.bays]
theorem one_edge (e : DriveEdge) : earliestEdge [e] = some e.at_ := rfl

end Sys2Proof.Machine
end

