-- ==== Sys2Proof/Laws/FactsLevels.lean ====
section
/-! SUPPORT. Lemmas about the shared operations behind the commands of one family (levels). -/

namespace Sys2Proof.Machine

theorem setCodes_frame (s : State) (c : Chan) (o : Nat) (l : List Nat) : ObjFrame s (s.setCodes c o l) :=
  ObjFrame.each (fun _ _ => ObjFrame.setO _ _ _) s
theorem setCodes_zip (c : Chan) (o : Nat) : ∀ (l : List Nat) (k : Nat) (s : State),
    (∀ j, j < l.length → (s.each (l.zipIdx k) (fun s p => s.setC c (o + p.2) p.1)).getC c (o + (k + j)) = l.getD j 0) ∧
    (∀ q, (∀ j, j < l.length → q ≠ keyC c (o + (k + j))) → (s.each (l.zipIdx k) (fun s p => s.setC c (o + p.2) p.1)).getO q = s.getO q) := by
  intro l
  induction l with
  | nil => intro k s; exact ⟨fun j h => absurd h (Nat.not_lt_zero _), fun _ _ => rfl⟩
  | cons a l ih =>
    intro k s
    rw [List.zipIdx_cons, State.each_cons]
    obtain ⟨i1, i2⟩ := ih (k + 1) (s.setC c (o + k) a)
    refine ⟨fun j hj => ?_, fun q hq => ?_⟩
    · cases j with
      | zero =>
        refine (i2 _ (fun p _ => by rw [Ne, keyC_inj]; omega)).trans ?_
        exact State.getC_setC_same _ _ _ _
      | succ j =>
        have := i1 j (by simpa using hj)
        rw [show k + (j + 1) = k + 1 + j by omega]
        simpa using this
    · refine (i2 q (fun j hj => ?_)).trans (State.getO_setO_ne _ ?_ _)
      · have := hq (j + 1) (by simpa using hj); rw [show k + 1 + j = k + (j + 1) by omega]; exact this
      · exact hq 0 (by simp)
theorem setCodes_same (s : State) (c : Chan) (o : Nat) (l : List Nat) (j : Nat) (h : j < l.length) : (s.setCodes c o l).getC c (o + j) = l.getD j 0 := by
  have := (setCodes_zip c o l 0 s).1 j h; rw [Nat.zero_add] at this; exact this
theorem setCodes_other (s : State) (c d : Chan) (o p : Nat) (l : List Nat) (ho : o + l.length < 0x4000) (hp : p < 0x4000)
    (h : d ≠ c ∨ p < o ∨ o + l.length ≤ p) : (s.setCodes c o l).getC d p = s.getC d p := by
  refine (setCodes_zip c o l 0 s).2 _ (fun j hj => ?_)
  by_cases e : d = c
  · subst e; rw [Ne, keyC_inj]; rcases h with h | h | h
    · exact absurd rfl h
    · omega
    · omega
  · exact keyC_ne_chan hp (by omega) e
theorem setCodes_low (s : State) (c : Chan) (o : Nat) (l : List Nat) (k : Nat) (hk : k < 0x400000) : (s.setCodes c o l).getO k = s.getO k :=
  (setCodes_zip c o l 0 s).2 _ (fun j _ => by have := keyC_high c (o + (0 + j)); omega)
theorem getB_low (b : Bay) (o : Nat) (h : o < 0x10000) : keyB b o < 0x400000 := keyB_low h
theorem levelSet_getD (s : State) (c : Chan) (n i : Nat) (h : i < 8) : (s.levelSet c n).getD i 0 = s.getC c (setCode n i) := by
  unfold State.levelSet; simp [h]
theorem levelSet_len (s : State) (c : Chan) (n : Nat) : (s.levelSet c n).length = 8 := by unfold State.levelSet; simp
theorem levelsOk_len (l : List Nat) (h : levelsOk l = true) : l.length = 8 := by
  unfold levelsOk at h; split at h
  · rfl
  · cases h
theorem selectLevels_is (s : State) (b : Bay) (n : Nat) (hn : n < 16) : (s.selectLevels b n).getB b RBay.CURRENT_LVL = n ∧ ObjFrame s (s.selectLevels b n) ∧
    ∀ c ∈ chansOf b, ∀ i, i < 8 → (s.selectLevels b n).getC c (RChan.SHADOW_CODE + i) = s.getC c (setCode n i) := by
  unfold State.selectLevels
  refine ⟨State.getB_setB_same _ _ _ _, (ObjFrame.each (fun _ _ => setCodes_frame _ _ _ _) s).trans (ObjFrame.setO _ _ _), fun c hc i hi => ?_⟩
  have e0 : ∀ x : State, (x.setB b RBay.CURRENT_LVL n).getC c (RChan.SHADOW_CODE + i) = x.getC c (RChan.SHADOW_CODE + i) := by
    intro x; refine State.getO_setO_ne _ ?_ _
    have := keyB_low (b := b) (o := RBay.CURRENT_LVL) (by decide)
    have := keyC_high c (RChan.SHADOW_CODE + i)
    omega
  rw [e0]
  have main : ∀ (l : List Chan) (u : State), c ∈ l → (∀ i, i < 8 → u.getC c (setCode n i) = s.getC c (setCode n i)) →
      (u.each l (fun s c => s.setCodes c RChan.SHADOW_CODE (s.levelSet c n))).getC c (RChan.SHADOW_CODE + i) = s.getC c (setCode n i) := by
    intro l
    induction l with
    | nil => intro u h; cases h
    | cons a l ih =>
      intro u hm hu
      rw [State.each_cons]
      have st : ∀ i, i < 8 → (u.setCodes a RChan.SHADOW_CODE (u.levelSet a n)).getC c (setCode n i) = s.getC c (setCode n i) := by
        intro i hi
        rw [setCodes_other _ _ _ _ _ _ (by rw [levelSet_len]; decide) (by simp only [setCode]; omega) ?_]
        · exact hu i hi
        · right; left; simp only [setCode, RChan.SHADOW_CODE]; omega
      by_cases hl : c ∈ l
      · exact ih _ hl st
      · have ha : c = a := by rcases List.mem_cons.mp hm with h | h; exact h; exact absurd h hl
        subst ha
        refine (each_getC _ _ _ _ (fun v d hd => ?_) _).trans ?_
        · exact setCodes_other _ _ _ _ _ _ (by rw [levelSet_len]; decide) (by simp only [RChan.SHADOW_CODE]; omega) (Or.inl (fun e => hl (e ▸ hd)))
        · rw [setCodes_same _ _ _ _ _ (by rw [levelSet_len]; exact hi), levelSet_getD _ _ _ _ hi]; exact hu i hi
  exact main _ _ hc (fun _ _ => rfl)
theorem writeLevels_is (s : State) (c : Chan) (n : Nat) (l : List Nat) (hn : n < 16) (hl : l.length = 8) :
    ObjFrame s (s.writeLevels c n l) ∧ (∀ j, j < 8 → (s.writeLevels c n l).getC c (setCode n j) = l.getD j 0) ∧
    (∀ j, j < 8 → s.getB (bayOf c) RBay.CURRENT_LVL = n → (s.writeLevels c n l).getC c (RChan.SHADOW_CODE + j) = l.getD j 0) ∧
    (∀ j, j < 8 → s.getB (bayOf c) RBay.CURRENT_LVL ≠ n → (s.writeLevels c n l).getC c (RChan.SHADOW_CODE + j) = s.getC c (RChan.SHADOW_CODE + j)) := by
  have b1 : (s.setCodes c (setCode n 0) l).getB (bayOf c) RBay.CURRENT_LVL = s.getB (bayOf c) RBay.CURRENT_LVL :=
    setCodes_low _ _ _ _ _ (keyB_low (by decide))
  have sc : ∀ j, setCode n j = setCode n 0 + j := fun j => by unfold setCode; omega
  have lo : setCode n 0 + l.length ≤ RChan.SHADOW_CODE := by rw [hl]; simp only [setCode, RChan.SHADOW_CODE]; omega
  unfold State.writeLevels; dsimp only; rw [b1]
  refine ⟨?_, ?_, ?_, ?_⟩
  · split
    · exact (setCodes_frame _ _ _ _).trans (setCodes_frame _ _ _ _)
    · exact setCodes_frame _ _ _ _
  · intro j hj
    rw [sc j]
    split
    · rw [setCodes_other _ _ _ _ _ _ (by rw [hl]; decide) (by simp only [RChan.SHADOW_CODE] at lo; omega) (Or.inr (Or.inl (by omega))),
        setCodes_same _ _ _ _ _ (by omega)]
    · rw [setCodes_same _ _ _ _ _ (by omega)]
  · intro j hj h; rw [if_pos h, setCodes_same _ _ _ _ _ (by omega)]
  · intro j hj h
    rw [if_neg h, setCodes_other _ _ _ _ _ _ (by simp only [RChan.SHADOW_CODE] at lo; omega) (by simp only [RChan.SHADOW_CODE]; omega) (Or.inr (Or.inr (by omega)))]
theorem commitGate_ok {s : State} {m : Sample} {cls : Nat} (h1 : s.getO R.HOLDUP_STATE ≠ HS.ON_STORE) (h2 : classNeeds cls ≤ sampleEnergy m)
    (unit : Nat) (k : State → State) : s.commitGate m cls unit k = k (s.recordCheck m) := by
  unfold State.commitGate; rw [if_neg h1]; dsimp only; rw [if_pos h2]
def chanKey (k : Nat) : Prop := 0x300000 ≤ k ∧ k < 0x800000
theorem chanKey_C (c : Chan) {o : Nat} (h : o < 0x4000) : chanKey (keyC c o) := ⟨Nat.le_trans (by decide) (keyC_high c o), keyC_low h⟩
theorem chanKey_B (b : Bay) {o : Nat} (h : o < 0x10000) : chanKey (keyB b o) := ⟨keyB_high b o, Nat.lt_trans (keyB_low h) (by decide)⟩
theorem chanKey_ev {k : Nat} (h : chanKey k) : eventObj k = false := eventObj_low (Nat.lt_trans h.2 (by decide))
theorem recordCheck_keeps (s : State) (m : Sample) : KeepsObjs chanKey s (s.recordCheck m) := by
  unfold State.recordCheck
  extract_lets e s0 s1 s2 s3 s4
  have h2 : KeepsObjs chanKey s s2 := by
    simp only [s2, s1]
    repeat apply KeepsObjs.setO _ (by simp only [chanKey, R.HOLDUP_VOLTAGE, R.HOLDUP_CAP, R.HOLDUP_ESR, R.HOLDUP_ENERGY, R.HOLDUP_CHECK_TIME]; omega)
    exact KeepsObjs.of_objs rfl
  have ne : ¬ chanKey R.HOLDUP_STATE := by simp only [chanKey, R.HOLDUP_STATE]; omega
  split
  · exact (KeepsObjs.ite h2 (h2.setO ne _)).fault _ _ _
  · refine KeepsObjs.setO ?_ (by simp only [chanKey, R.START_STATUS]; omega) _
    have h4 : KeepsObjs chanKey s s4 := KeepsObjs.ite h2 (h2.setO ne _)
    exact fun k hk => (State.getO_of_objs rfl k).trans (h4 k hk)
theorem recordCheck_dies (s : State) (m : Sample) : (s.recordCheck m).dies = s.dies := by
  have q := (State.recordCheck_kept (m := 2129928) (x_m := m) (by decide) (Kept.refl s)).parts .pins (by decide)
  simp only [Part.same, Prod.mk.injEq] at q; exact q.2
theorem ledgerWrite_keeps (s : State) : KeepsObjs chanKey s s.ledgerWrite := by
  unfold State.ledgerWrite
  extract_lets old s1 f
  refine KeepsObjs.setO ?_ (by simp only [chanKey, R.LEDGER_FREE]; omega) _
  have : KeepsObjs chanKey s s1 := by
    simp only [s1]
    repeat apply KeepsObjs.setO _ (by simp only [chanKey, R.LEDGER_SEQ, R.LEDGER_STATE]; omega)
    exact KeepsObjs.refl _
  exact fun k hk => (State.getO_of_objs (s := s1) rfl k).trans (this k hk)
theorem ledgerWrite_dies (s : State) : s.ledgerWrite.dies = s.dies := rfl
theorem noteCode_dies (s : State) (c : Chan) (m : Fin 10) : (s.noteCode c m).dies = s.dies := rfl
theorem setOutputs_objs_other (s : State) (c : Chan) (l : List Nat) (k : Nat) (h : ∀ i, i < 8 → k ≠ keyC c (RChan.OUTPUT_CODE + i)) :
    (s.setOutputs c l).getO k = s.getO k := by
  unfold State.setOutputs
  refine State.getO_each (fun u a _ => ?_) s
  dsimp only; split
  · rfl
  · show (u.setC c _ _).getO k = _
    exact State.getO_setO_ne _ (h _ a.isLt) _
theorem setOutputs_parts (s : State) (c : Chan) (l : List Nat) : (s.setOutputs c l).dies = s.dies ∧ (s.setOutputs c l).ledger = s.ledger := by
  unfold State.setOutputs
  apply State.each_keeps (P := fun u => u.dies = s.dies ∧ u.ledger = s.ledger) ?_ ⟨rfl, rfl⟩
  intro u a hu; dsimp only; split
  · exact hu
  · exact hu
theorem endMeas_keeps {P : Nat → Prop} (s : State) (c : Chan) (n : Nat) (h : ¬ P (keyC c RChan.MEAS_STATUS)) : KeepsObjs P s (s.endMeas c n) := by
  unfold State.endMeas; dsimp only; exact KeepsObjs.ite ((KeepsObjs.refl s).setO h _) (KeepsObjs.refl s)
theorem pmuOff_keeps {P : Nat → Prop} (s : State) (c : Chan) (h : ¬ P (keyC c RChan.MEAS_STATUS)) (h1 : ¬ P (keyC c RChan.PMU_MODE))
    (h2 : ¬ P (keyC c RChan.PMU_FLAGS)) (h3 : ¬ P (keyC c RChan.INHIBIT_CAUSE)) : KeepsObjs P s (s.pmuOff c) := by
  unfold State.pmuOff; split
  · exact endMeas_keeps s c _ h
  · exact (((endMeas_keeps s c _ h).setO h1 _).setO h2 _).setO h3 _
theorem pmuOff_mode (s : State) (c : Chan) : (s.pmuOff c).getC c RChan.PMU_MODE = 0 := by
  unfold State.pmuOff
  split
  · rename_i h
    unfold State.getC
    rw [endMeas_keeps (P := fun k => k = keyC c RChan.PMU_MODE) s c 5 (by rw [keyC_inj]; decide) _ rfl]; exact h
  · unfold State.inhibit State.setC
    show State.getO _ _ = _
    rw [State.getO_setO_ne _ (by rw [Ne, keyC_inj]; decide), State.getO_setO_ne _ (by rw [Ne, keyC_inj]; decide), State.getO_setO_same]
/-- The objects of a channel that clear sets, and its clear codes. -/
def clearKey (c : Chan) (k : Nat) : Prop := ∃ o, k = keyC c o ∧ (o = RChan.LOAD_EN ∨ o = RChan.PMU_MODE ∨ o = RChan.SELECTOR ∨
  (RChan.CLEAR_CODE ≤ o ∧ o < RChan.CLEAR_CODE + 16))
theorem clearKey_lt {c : Chan} {k : Nat} (h : clearKey c k) : chanKey k := by
  obtain ⟨o, rfl, h⟩ := h
  refine chanKey_C c ?_
  rcases h with h | h | h | h <;> (simp only [RChan.LOAD_EN, RChan.PMU_MODE, RChan.SELECTOR, RChan.CLEAR_CODE] at h; omega)
theorem clearKey_same {c : Chan} {o : Nat} (h : ¬ (o = RChan.LOAD_EN ∨ o = RChan.PMU_MODE ∨ o = RChan.SELECTOR ∨
  (RChan.CLEAR_CODE ≤ o ∧ o < RChan.CLEAR_CODE + 16))) : ¬ clearKey c (keyC c o) := by
  rintro ⟨p, hp, hq⟩; rw [keyC_inj] at hp; subst hp; exact h hq
theorem clearKey_other {c d : Chan} {o : Nat} (ho : o < 0x4000) (h : d ≠ c) : ¬ clearKey c (keyC d o) := by
  rintro ⟨p, hp, hq⟩
  refine keyC_ne_chan ho ?_ h hp
  rcases hq with h | h | h | h <;> (simp only [RChan.LOAD_EN, RChan.PMU_MODE, RChan.SELECTOR, RChan.CLEAR_CODE] at h; omega)
theorem clearKey_low {c : Chan} {k : Nat} (hk : k < 0x300000 ∨ 0x800000 ≤ k) : ¬ clearKey c k := fun h => by have := clearKey_lt h; unfold chanKey at this; omega
theorem clearKey_bay {c : Chan} {b : Bay} {o : Nat} (ho : o < 0x10000) : ¬ clearKey c (keyB b o) := by
  rintro ⟨p, hp, _⟩
  have := keyC_high c p; have := keyB_low (b := b) ho; omega
/-- A channel's load, parametric unit and selector are off, and its outputs at the clear codes of an earlier state. -/
def Cleared (s : State) (c : Chan) (u : State) : Prop := u.getC c RChan.LOAD_EN = 0 ∧ u.getC c RChan.PMU_MODE = 0 ∧ u.getC c RChan.SELECTOR = 0 ∧
  (∀ i, i < 8 → u.getC c (RChan.OUTPUT_CODE + i) = s.getC c (RChan.CLEAR_CODE + i))
theorem Cleared.of_keeps {s : State} {c : Chan} {u v : State} (h : Cleared s c u) (k : KeepsObjs (clearKey c) u v) : Cleared s c v :=
  ⟨(k _ ⟨_, rfl, Or.inl rfl⟩).trans h.1, (k _ ⟨_, rfl, Or.inr (Or.inl rfl)⟩).trans h.2.1, (k _ ⟨_, rfl, Or.inr (Or.inr (Or.inl rfl))⟩).trans h.2.2.1,
    fun i hi => (k _ ⟨_, rfl, Or.inr (Or.inr (Or.inr (by simp only [RChan.OUTPUT_CODE, RChan.CLEAR_CODE]; omega)))⟩).trans (h.2.2.2 i hi)⟩
theorem clearChan_other (s : State) (c d : Chan) (h : d ≠ c) : KeepsObjs (clearKey c) s (s.clearChan d) := by
  unfold State.clearChan State.inhibit State.setC
  refine KeepsObjs.setO ?_ (clearKey_other (by decide) h) _
  refine KeepsObjs.trans ?_ (pmuOff_keeps _ _ (clearKey_other (by decide) h) (clearKey_other (by decide) h) (clearKey_other (by decide) h) (clearKey_other (by decide) h))
  refine KeepsObjs.setO ?_ (clearKey_other (by decide) h) _
  refine KeepsObjs.setO ?_ (clearKey_other (by decide) h) _
  intro k hk
  refine setOutputs_objs_other _ _ _ _ (fun i hi e => ?_)
  exact clearKey_other (d := d) (by simp only [RChan.OUTPUT_CODE]; omega) h (e ▸ hk)
theorem clearCodes_getD (s : State) (c : Chan) (i : Nat) (h : i < 8) : (s.clearCodes c).getD i 0 = s.getC c (RChan.CLEAR_CODE + i) := by
  unfold State.clearCodes; simp [h]
theorem clearChan_same (s : State) (c : Chan) : Cleared s c (s.clearChan c) := by
  have no : ∀ (x : State) (o p v : Nat), p ≠ o → (x.setC c o v).getC c p = x.getC c p := fun x o p v h => by rw [State.getC_setC, if_neg h]
  have po : ∀ (x : State) p, p ≠ RChan.MEAS_STATUS → p ≠ RChan.PMU_MODE → p ≠ RChan.PMU_FLAGS → p ≠ RChan.INHIBIT_CAUSE →
      (x.pmuOff c).getC c p = x.getC c p := fun x p h1 h2 h3 h4 =>
    pmuOff_keeps (P := fun k => k = keyC c p) x c (by rw [keyC_inj]; exact Ne.symm h1) (by rw [keyC_inj]; exact Ne.symm h2)
      (by rw [keyC_inj]; exact Ne.symm h3) (by rw [keyC_inj]; exact Ne.symm h4) _ rfl
  unfold State.clearChan State.inhibit
  refine ⟨?_, ?_, State.getC_setC_same _ _ _ _, fun i hi => ?_⟩
  · rw [no _ _ _ _ (by decide), po _ _ (by decide) (by decide) (by decide) (by decide), State.getC_setC_same]
  · rw [no _ _ _ _ (by decide), pmuOff_mode]
  · have q : ∀ o, o < 0x1109 → RChan.OUTPUT_CODE + i ≠ o := fun o ho => by simp only [RChan.OUTPUT_CODE]; omega
    have q2 : ∀ o, 0x1111 ≤ o → RChan.OUTPUT_CODE + i ≠ o := fun o ho => by simp only [RChan.OUTPUT_CODE]; omega
    rw [no _ _ _ _ (q _ (by decide)), po _ _ (q2 _ (by decide)) (q2 _ (by decide)) (q2 _ (by decide)) (q _ (by decide)),
      no _ _ _ _ (q _ (by decide)), no _ _ _ _ (q _ (by decide)), setOutputs_same _ _ _ _ hi, clearCodes_getD _ _ _ hi]
theorem freeClaim_keeps {P : Nat → Prop} (s : State) (r : Resource) (h : ¬ P (claimKey r)) : KeepsObjs P s (s.freeClaim r) := by
  unfold State.freeClaim
  refine KeepsObjs.setO (KeepsObjs.of_objs rfl) h _
theorem rollAbort_keeps {P : Nat → Prop} (s : State) (b : Bay) (h1 : ∀ k o, o ∈ pathObjs → ¬ P (keyC (chanOf b k) o))
    (h2 : ∀ k, ¬ P (keyC (chanOf b k) RChan.SELECTOR)) (h3 : ∀ k, 0x800000 ≤ k → ¬ P k) (h4 : ¬ P (keyB b RBay.CLAIM_SPARE_PATH)) :
    KeepsObjs P s (s.rollAbort b) := by
  have hA : ∀ o, ¬ P (keyA b o) := fun o => h3 _ (by simp only [keyA, key]; omega)
  have old : ∀ u : State, KeepsObjs P u (u.oldValues b) := by
    intro u; unfold State.oldValues; split
    · refine KeepsObjs.trans (KeepsObjs.each (fun v p hp => ?_) u) (KeepsObjs.of_objs rfl)
      exact (KeepsObjs.refl v).setO (h1 _ _ (List.of_mem_zip hp).1) _
    · exact KeepsObjs.refl u
  have own : ∀ u : State, KeepsObjs P u (u.ownPath b) := by
    intro u; unfold State.ownPath; split
    · exact KeepsObjs.trans ((KeepsObjs.refl u).setO (h2 _) _) (KeepsObjs.of_objs rfl)
    · exact KeepsObjs.refl u
  have past : ∀ u : State, KeepsObjs P u (u.stepOver b) := by
    intro u; unfold State.stepOver
    extract_lets r span s1 s2 s3
    have e1 : KeepsObjs P u s1 := KeepsObjs.of_objs rfl
    have e2 : KeepsObjs P u s2 := KeepsObjs.ite ((e1.setO (hA _) _).setO (hA _) _) e1
    have e3 : KeepsObjs P u s3 := e2.setO (hA _) _
    exact KeepsObjs.ite (e3.trans (freeClaim_keeps _ _ h4)) e3
  unfold State.rollAbort; dsimp only
  refine KeepsObjs.ite ?_ (KeepsObjs.refl s)
  exact (((old s).trans (own _)).setO (hA _) _).trans (past _)
theorem showGuard_keeps {P : Nat → Prop} (s : State) (c : Chan) (h : ¬ P (keyC c RChan.GUARD_STATE)) : KeepsObjs P s (s.showGuard c) := (KeepsObjs.refl s).setO h _
theorem unresolve_keeps {P : Nat → Prop} (s : State) (c : Chan) (h : ¬ P (keyC c RChan.GUARD_STATE)) (h2 : ¬ P (keyC c RChan.INHIBIT_CAUSE)) :
    KeepsObjs P s (s.unresolve c) := by
  unfold State.unresolve; dsimp only
  refine KeepsObjs.trans ?_ (showGuard_keeps _ _ h)
  refine KeepsObjs.setO ?_ h2 _
  exact KeepsObjs.setO (KeepsObjs.of_objs rfl) h _
theorem assayAbort_keeps {P : Nat → Prop} (s : State) (b : Bay) (h : ∀ c, ¬ P (keyC c RChan.GUARD_STATE)) (h2 : ∀ c, ¬ P (keyC c RChan.INHIBIT_CAUSE))
    (h3 : ∀ k, 0x800000 ≤ k → ¬ P k) : KeepsObjs P s (s.assayAbort b) := by
  unfold State.assayAbort
  refine KeepsObjs.ite (KeepsObjs.setO (KeepsObjs.each (fun u c _ => unresolve_keeps u c (h c) (h2 c)) s) (h3 _ (by simp only [keyA, key]; omega)) _) (KeepsObjs.refl s)
theorem pathObjs_lt {o : Nat} (h : o ∈ pathObjs) : 0x2500 ≤ o ∧ o < 0x3000 := by revert o; decide
theorem clearKey_any {c d : Chan} {o : Nat} (ho : o < 0x4000) (h : ¬ (o = RChan.LOAD_EN ∨ o = RChan.PMU_MODE ∨ o = RChan.SELECTOR ∨
  (RChan.CLEAR_CODE ≤ o ∧ o < RChan.CLEAR_CODE + 16))) : ¬ clearKey c (keyC d o) := by
  by_cases e : d = c
  · subst e; exact clearKey_same h
  · exact clearKey_other ho e
theorem rollAbort_cleared {s : State} {c : Chan} {u : State} (b : Bay) (h : Cleared s c u) : Cleared s c (u.rollAbort b) := by
  have k : KeepsObjs (fun k => clearKey c k ∧ k ≠ keyC c RChan.SELECTOR) u (u.rollAbort b) := by
    refine rollAbort_keeps u b (fun k o ho => ?_) (fun k => ?_) (fun k hk => ?_) ?_
    · have := pathObjs_lt ho
      exact fun e => clearKey_any (by omega) (by simp only [RChan.LOAD_EN, RChan.PMU_MODE, RChan.SELECTOR, RChan.CLEAR_CODE]; omega) e.1
    · by_cases e : chanOf b k = c
      · intro h; exact h.2 (by rw [e])
      · exact fun h => clearKey_other (by decide) e h.1
    · exact fun h => clearKey_low (Or.inr hk) h.1
    · exact fun h => clearKey_bay (by decide) h.1
  have sel : ∀ v : State, v.getC c RChan.SELECTOR = 0 → (v.rollAbort b).getC c RChan.SELECTOR = 0 := by
    intro v hv
    unfold State.rollAbort; dsimp only; split
    · have hA : ∀ (x : State) o w, (x.setO (keyA b o) w).getC c RChan.SELECTOR = x.getC c RChan.SELECTOR := fun x o w =>
        State.getO_setO_ne _ (by have := keyC_low (c := c) (o := RChan.SELECTOR) (by decide); simp only [keyA, key]; omega) _
      have old : ∀ x : State, (x.oldValues b).getC c RChan.SELECTOR = x.getC c RChan.SELECTOR := by
        intro x; unfold State.oldValues; split
        · show State.getC (State.modRoll _ _ _) _ _ = _
          unfold State.modRoll; rw [State.getC_modBay]
          refine each_getC _ _ _ _ (fun w p hp => ?_) x
          have := pathObjs_lt (List.of_mem_zip hp).1
          rename_i k0 _
          by_cases e : c = chanOf b k0
          · rw [e, State.getC_setC, if_neg]; simp only [RChan.SELECTOR]; omega
          · exact State.getO_setO_ne _ (keyC_ne_chan (by decide) (by omega) e) _
        · rfl
      have own : ∀ x : State, x.getC c RChan.SELECTOR = 0 → (x.ownPath b).getC c RChan.SELECTOR = 0 := by
        intro x hx; unfold State.ownPath; split
        · rename_i k _
          show State.getC (State.modRoll _ _ _) _ _ = _
          unfold State.modRoll; rw [State.getC_modBay]
          by_cases e : c = chanOf b k
          · rw [← e, State.getC_setC_same]
          · exact (State.getO_setO_ne _ (keyC_ne_chan (by decide) (by decide) e) _).trans hx
        · exact hx
      unfold State.stepOver
      extract_lets r span s1 s2 s3
      have e1 : s1.getC c RChan.SELECTOR = 0 := by
        simp only [s1]; unfold State.modRoll; rw [State.getC_modBay]; unfold State.incO; rw [hA]; exact own _ ((old v).trans hv)
      have e2 : s2.getC c RChan.SELECTOR = 0 := by
        simp only [s2]; split
        · rw [hA, hA]; exact e1
        · exact e1
      have e3 : s3.getC c RChan.SELECTOR = 0 := by simp only [s3]; rw [hA]; exact e2
      split
      · refine (freeClaim_keeps (P := fun k => k = keyC c RChan.SELECTOR) s3 _ ?_ _ rfl).trans e3
        simp only [claimKey]
        have := keyB_low (b := b) (o := RBay.CLAIM_SPARE_PATH) (by decide)
        have := keyC_high c RChan.SELECTOR
        omega
      · exact e3
    · exact hv
  refine ⟨(k _ ⟨⟨_, rfl, Or.inl rfl⟩, ?_⟩).trans h.1, (k _ ⟨⟨_, rfl, Or.inr (Or.inl rfl)⟩, ?_⟩).trans h.2.1, sel u h.2.2.1,
    fun i hi => (k _ ⟨⟨_, rfl, Or.inr (Or.inr (Or.inr ⟨?_, ?_⟩))⟩, ?_⟩).trans (h.2.2.2 i hi)⟩
  · rw [Ne, keyC_inj]; decide
  · rw [Ne, keyC_inj]; decide
  · simp only [RChan.OUTPUT_CODE, RChan.CLEAR_CODE]; omega
  · simp only [RChan.OUTPUT_CODE, RChan.CLEAR_CODE]; omega
  · rw [Ne, keyC_inj]; simp only [RChan.OUTPUT_CODE, RChan.SELECTOR]; omega
theorem assayAbort_cleared {s : State} {c : Chan} {u : State} (b : Bay) (h : Cleared s c u) : Cleared s c (u.assayAbort b) :=
  h.of_keeps (assayAbort_keeps u b (fun _ => clearKey_any (by decide) (by decide)) (fun _ => clearKey_any (by decide) (by decide)) (fun _ hk => clearKey_low (Or.inr hk)))
/-- The clear codes of a channel are those of an earlier state. -/
def SameCodes (s : State) (c : Chan) (u : State) : Prop := ∀ i, i < 8 → u.getC c (RChan.CLEAR_CODE + i) = s.getC c (RChan.CLEAR_CODE + i)
theorem clearChan_codes (s : State) (c : Chan) (i : Nat) (hi : i < 8) : (s.clearChan c).getC c (RChan.CLEAR_CODE + i) = s.getC c (RChan.CLEAR_CODE + i) := by
  have q : ∀ o, o < 0x1101 → RChan.CLEAR_CODE + i ≠ o := fun o ho => by simp only [RChan.CLEAR_CODE]; omega
  have q2 : ∀ o, 0x1109 ≤ o → RChan.CLEAR_CODE + i ≠ o := fun o ho => by simp only [RChan.CLEAR_CODE]; omega
  have no : ∀ (x : State) (o p v : Nat), p ≠ o → (x.setC c o v).getC c p = x.getC c p := fun x o p v h => by rw [State.getC_setC, if_neg h]
  unfold State.clearChan State.inhibit
  rw [no _ _ _ _ (q _ (by decide))]
  rw [show ∀ x : State, (x.pmuOff c).getC c (RChan.CLEAR_CODE + i) = x.getC c (RChan.CLEAR_CODE + i) from fun x =>
    pmuOff_keeps (P := fun k => k = keyC c (RChan.CLEAR_CODE + i)) x c (by rw [keyC_inj]; exact Ne.symm (q2 _ (by decide))) (by rw [keyC_inj]; exact Ne.symm (q2 _ (by decide)))
      (by rw [keyC_inj]; exact Ne.symm (q2 _ (by decide))) (by rw [keyC_inj]; exact Ne.symm (q _ (by decide))) _ rfl]
  rw [no _ _ _ _ (q _ (by decide)), no _ _ _ _ (q _ (by decide))]
  exact setOutputs_other _ _ _ _ _ (by simp only [RChan.CLEAR_CODE]; omega) (Or.inr (fun j hj => by simp only [RChan.CLEAR_CODE, RChan.OUTPUT_CODE]; omega))
theorem codes_keeps {c : Chan} {u v : State} (k : KeepsObjs (fun k => ∃ i, i < 8 ∧ k = keyC c (RChan.CLEAR_CODE + i)) u v) {s : State} (h : SameCodes s c u) : SameCodes s c v :=
  fun i hi => (k _ ⟨i, hi, rfl⟩).trans (h i hi)
theorem codeKey_clear {c : Chan} {k : Nat} (h : ∃ i, i < 8 ∧ k = keyC c (RChan.CLEAR_CODE + i)) : clearKey c k ∧ k ≠ keyC c RChan.SELECTOR := by
  obtain ⟨i, hi, rfl⟩ := h
  refine ⟨⟨_, rfl, Or.inr (Or.inr (Or.inr ⟨by omega, by omega⟩))⟩, ?_⟩
  rw [Ne, keyC_inj]; simp only [RChan.CLEAR_CODE, RChan.SELECTOR]; omega
theorem clearBay_is (s : State) (c : Chan) (b : Bay) (u : State) :
    let v := (((u.rollAbort b).each (chansOf b) State.clearChan).clearRef b).assayAbort b
    (Cleared s c u → SameCodes s c u → Cleared s c v) ∧ (SameCodes s c u → SameCodes s c v) ∧ (c ∈ chansOf b → SameCodes s c u → Cleared s c v) := by
  intro v
  have r1 : SameCodes s c u → SameCodes s c (u.rollAbort b) := codes_keeps (fun k hk => by
    refine rollAbort_keeps (P := fun k => ∃ i, i < 8 ∧ k = keyC c (RChan.CLEAR_CODE + i)) u b (fun k o ho hh => ?_) (fun k hh => ?_) (fun k h8 hh => ?_) (fun hh => ?_) k hk
    · have := pathObjs_lt ho
      exact clearKey_any (by omega) (by simp only [RChan.LOAD_EN, RChan.PMU_MODE, RChan.SELECTOR, RChan.CLEAR_CODE]; omega) (codeKey_clear hh).1
    · by_cases e : chanOf b k = c
      · exact (codeKey_clear hh).2 (by rw [e])
      · exact clearKey_other (by decide) e (codeKey_clear hh).1
    · exact clearKey_low (Or.inr h8) (codeKey_clear hh).1
    · exact clearKey_bay (by decide) (codeKey_clear hh).1)
  have one : ∀ (x : State) d, SameCodes s c x → SameCodes s c (x.clearChan d) := by
    intro x d hx
    by_cases e : d = c
    · subst e; exact fun i hi => (clearChan_codes x d i hi).trans (hx i hi)
    · exact codes_keeps (fun k hk => clearChan_other x c d e k (codeKey_clear hk).1) hx
  have oneC : ∀ (x : State) d, Cleared s c x ∧ SameCodes s c x → Cleared s c (x.clearChan d) ∧ SameCodes s c (x.clearChan d) := by
    intro x d hx
    refine ⟨?_, one x d hx.2⟩
    by_cases e : d = c
    · subst e
      have := clearChan_same x d
      exact ⟨this.1, this.2.1, this.2.2.1, fun i hi => (this.2.2.2 i hi).trans (hx.2 i hi)⟩
    · exact hx.1.of_keeps (clearChan_other x c d e)
  have a1 : ∀ x : State, SameCodes s c x → SameCodes s c (x.assayAbort b) := fun x hx => codes_keeps (fun k hk =>
    assayAbort_keeps (P := fun k => ∃ i, i < 8 ∧ k = keyC c (RChan.CLEAR_CODE + i)) x b (fun _ h => clearKey_any (by decide) (by decide) (codeKey_clear h).1)
      (fun _ h => clearKey_any (by decide) (by decide) (codeKey_clear h).1) (fun _ h8 h => clearKey_low (Or.inr h8) (codeKey_clear h).1) k hk) hx
  have cr : ∀ x : State, KeepsObjs (clearKey c) x (x.clearRef b) := fun x => KeepsObjs.of_objs rfl
  have sr : ∀ x : State, SameCodes s c x → SameCodes s c (x.clearRef b) := fun x hx i hi => (State.getO_of_objs rfl _).trans (hx i hi)
  refine ⟨fun h1 h2 => ?_, fun h => ?_, fun hc h => ?_⟩
  · refine assayAbort_cleared b (Cleared.of_keeps ?_ (cr _))
    exact (State.each_keeps (P := fun x => Cleared s c x ∧ SameCodes s c x) oneC ⟨rollAbort_cleared b h1, r1 h2⟩).1
  · exact a1 _ (sr _ (State.each_keeps (P := SameCodes s c) one (r1 h)))
  · refine assayAbort_cleared b (Cleared.of_keeps ?_ (cr _))
    have main : ∀ (l : List Chan) (x : State), c ∈ l → SameCodes s c x → Cleared s c (x.each l State.clearChan) := by
      intro l
      induction l with
      | nil => intro x h; cases h
      | cons a l ih =>
        intro x hm hx
        rw [State.each_cons]
        by_cases e : c = a
        · subst e
          have q := clearChan_same x c
          exact (State.each_keeps (P := fun x => Cleared s c x ∧ SameCodes s c x) oneC
            ⟨⟨q.1, q.2.1, q.2.2.1, fun i hi => (q.2.2.2 i hi).trans (hx i hi)⟩, one x c hx⟩).1
        · exact ih _ (List.mem_of_ne_of_mem e hm) (one x a hx)
    exact main _ _ hc (r1 h)
theorem baysOf_mem {d : Die} {b : Bay} (h : b ∈ baysOf d) : dieOf b = d := by
  unfold baysOf at h
  rw [List.mem_map] at h
  obtain ⟨i, _, rfl⟩ := h
  apply Fin.ext; simp only [dieOf]; omega
theorem showClear_is (s : State) (d : Die) : OnlyObjs s (s.showClear d) ((baysOf d).map (keyB · RBay.CLEAR_STATE)) ∧ ObjFrame s (s.showClear d) ∧
    ∀ b ∈ baysOf d, (s.showClear d).getB b RBay.CLEAR_STATE = clearWord (s.die d).clear := by
  unfold State.showClear
  have fr : ObjFrame s (s.each (baysOf d) (fun s b => s.setB b RBay.CLEAR_STATE (clearWord (s.die d).clear))) := ObjFrame.each (fun _ _ => ObjFrame.setO _ _ _) s
  refine ⟨fun k hk => ?_, fr, fun b hb => ?_⟩
  · refine State.getO_each (fun u a ha => State.getO_setO_ne _ (fun e => hk ?_) _) s
    rw [e]; exact List.mem_map_of_mem ha
  · have main : ∀ (l : List Bay) (u : State), b ∈ l → u.die d = s.die d →
        (u.each l (fun s b => s.setB b RBay.CLEAR_STATE (clearWord (s.die d).clear))).getB b RBay.CLEAR_STATE = clearWord (s.die d).clear := by
      intro l
      induction l with
      | nil => intro u h; cases h
      | cons a l ih =>
        intro u hm hu
        rw [State.each_cons]
        by_cases e : b = a
        · subst e
          refine (State.each_keeps (P := fun x => x.getB b RBay.CLEAR_STATE = clearWord (s.die d).clear ∧ x.die d = s.die d) (fun x a hx => ?_)
            ⟨(State.getB_setB_same _ _ _ _).trans (by rw [hu]), hu⟩).1
          refine ⟨?_, hx.2⟩
          by_cases e : b = a
          · subst e; rw [State.getB_setB_same, hx.2]
          · exact (State.getO_setO_ne _ (keyB_ne_bay (by decide) (by decide) e) _).trans hx.1
        · exact ih _ (List.mem_of_ne_of_mem e hm) hu
    exact main _ _ hb rfl
theorem markSite_keeps {P : Nat → Prop} (s : State) (i : Site) (b : Nat) (h : ∀ k, k < 0x300000 → ¬ P k) : KeepsObjs P s (s.markSite i b) :=
  (KeepsObjs.refl s).setO (h _ (by simp only [keySite, key, RSite.SITE_STATUS]; omega)) _
theorem markSites_keeps {P : Nat → Prop} (s : State) (c : Bay) (b : Nat) (h : ∀ k, k < 0x300000 → ¬ P k) : KeepsObjs P s (s.markSites c b) :=
  KeepsObjs.each (fun u i _ => markSite_keeps u i b h) s
theorem inhibitBay_keeps {P : Nat → Prop} (s : State) (b : Bay) (n : Nat) (on : Bool) (h : ∀ c, ¬ P (keyC c RChan.INHIBIT_CAUSE)) : KeepsObjs P s (s.inhibitBay b n on) :=
  KeepsObjs.each (fun u c _ => (KeepsObjs.refl u).setO (h c) _) s
theorem inhibitBay_frame (s : State) (b : Bay) (n : Nat) (on : Bool) : ObjFrame s (s.inhibitBay b n on) := ObjFrame.each (fun _ _ => ObjFrame.setO _ _ _) s
theorem chanOf_inj {b : Bay} {i j : Fin 16} (h : chanOf b i = chanOf b j) : i = j := by
  have := congrArg Fin.val h; apply Fin.ext; simp only [chanOf] at this; omega
theorem chansOf_nodup (b : Bay) : (chansOf b).Nodup := List.Pairwise.map _ (fun _ _ h e => h (chanOf_inj e)) (List.nodup_finRange 16)
theorem mem_chansOf {b : Bay} {c : Chan} (h : c ∈ chansOf b) : bayOf c = b := by
  unfold chansOf at h; rw [List.mem_map] at h
  obtain ⟨i, _, rfl⟩ := h
  apply Fin.ext; simp only [bayOf, chanOf]; omega
/-- What each step of a list without repeats does to its own element's object. -/
theorem each_own {α : Type} (key : α → Nat) (g : Nat → Nat) (f : State → α → State) (hf : ∀ u a, (f u a).getO (key a) = g (u.getO (key a)))
    (ho : ∀ u a c, c ≠ a → (f u a).getO (key c) = u.getO (key c)) (c : α) : ∀ (l : List α) (s : State), l.Nodup → c ∈ l →
    (s.each l f).getO (key c) = g (s.getO (key c)) := by
  intro l
  induction l with
  | nil => intro s _ h; cases h
  | cons a l ih =>
    intro s hn hm
    rw [State.each_cons]
    obtain ⟨h1, h2⟩ := List.nodup_cons.mp hn
    by_cases e : c = a
    · subst e
      refine (State.getO_each (fun u b hb => ho u b c (fun e => h1 (e ▸ hb))) _).trans (hf s c)
    · rw [ih _ h2 (List.mem_of_ne_of_mem e hm), ho s a c e]
theorem inhibitBay_same (s : State) (b : Bay) (n : Nat) (on : Bool) (c : Chan) (h : c ∈ chansOf b) :
    (s.inhibitBay b n on).getC c RChan.INHIBIT_CAUSE = putBit (s.getC c RChan.INHIBIT_CAUSE) n on :=
  each_own (fun c => keyC c RChan.INHIBIT_CAUSE) (fun v => putBit v n on) _ (fun u a => State.getO_setO_same _ _ _)
    (fun u a c h => State.getO_setO_ne _ (keyC_ne_chan (by decide) (by decide) h) _) c _ s (chansOf_nodup b) h
theorem showClear_reply (s : State) (d : Die) : (s.showClear d).reply = s.reply := by
  unfold State.showClear
  apply State.each_keeps (P := fun u => u.reply = s.reply) ?_ rfl
  intro u a hu; exact hu
theorem inhibitBay_reply (s : State) (b : Bay) (n : Nat) (on : Bool) : (s.inhibitBay b n on).reply = s.reply := by
  unfold State.inhibitBay
  apply State.each_keeps (P := fun u => u.reply = s.reply) ?_ rfl
  intro u a hu; exact hu
theorem clearBay_state (u : State) (b c : Bay) : KeepsObjs (fun k => k = keyB c RBay.CLEAR_STATE) u ((((u.rollAbort b).each (chansOf b) State.clearChan).clearRef b).assayAbort b) := by
  have nc : ∀ d o, o < 0x4000 → ¬ keyC d o = keyB c RBay.CLEAR_STATE := fun d o ho e => by
    have := keyB_low (b := c) (o := RBay.CLEAR_STATE) (by decide); have := keyC_high d o; omega
  have nh : ∀ k, 0x800000 ≤ k → ¬ k = keyB c RBay.CLEAR_STATE := fun k hk e => by
    have := keyB_low (b := c) (o := RBay.CLEAR_STATE) (by decide); omega
  refine KeepsObjs.trans (KeepsObjs.trans (rollAbort_keeps (P := fun k => k = keyB c RBay.CLEAR_STATE) u b (fun k o ho => nc _ _ (by have := pathObjs_lt ho; omega)) (fun _ => nc _ _ (by decide)) nh ?_)
    ((KeepsObjs.each (fun v d _ => ?_) _).trans (KeepsObjs.of_objs (t := State.clearRef _ b) rfl))) (assayAbort_keeps (P := fun k => k = keyB c RBay.CLEAR_STATE) _ b (fun _ => nc _ _ (by decide)) (fun _ => nc _ _ (by decide)) nh)
  · by_cases e : b = c
    · subst e; rw [keyB_inj]; decide
    · exact keyB_ne_bay (by decide) (by decide) e
  · unfold State.clearChan State.inhibit State.setC
    refine KeepsObjs.setO (P := fun k => k = keyB c RBay.CLEAR_STATE) ?_ (nc d RChan.SELECTOR (by decide)) _
    refine KeepsObjs.trans ?_ (pmuOff_keeps (P := fun k => k = keyB c RBay.CLEAR_STATE) _ _ (nc d RChan.MEAS_STATUS (by decide)) (nc d RChan.PMU_MODE (by decide)) (nc d RChan.PMU_FLAGS (by decide)) (nc d RChan.INHIBIT_CAUSE (by decide)))
    refine KeepsObjs.setO (P := fun k => k = keyB c RBay.CLEAR_STATE) ?_ (nc d RChan.LOAD_EN (by decide)) _
    refine KeepsObjs.setO (P := fun k => k = keyB c RBay.CLEAR_STATE) ?_ (nc d RChan.INHIBIT_CAUSE (by decide)) _
    intro k hk
    refine setOutputs_objs_other _ _ _ _ (fun i hi e => ?_)
    exact nc d (RChan.OUTPUT_CODE + i) (by simp only [RChan.OUTPUT_CODE]; omega) (e ▸ hk)
theorem clearAssert_first (s : State) (d : Die) (n : Nat) (h : (s.die d).clear = 0) :
    (∀ b ∈ baysOf d, (s.assertClear d n).getB b RBay.CLEAR_STATE = clearWord (orBit 0 n)) ∧
    (∀ b ∈ baysOf d, ∀ c ∈ chansOf b, Cleared s c (s.assertClear d n)) := by
  unfold State.assertClear; dsimp only
  rw [if_neg (by simp [h])]
  generalize hu : (s.modDie d (fun u => { u with clear := orBit u.clear n })).showClear d = u
  have d1 : (s.modDie d (fun u => { u with clear := orBit u.clear n })).die d = { s.die d with clear := orBit 0 n } := by
    rw [State.die_modDie_same, h]
  obtain ⟨k1, k2, k3⟩ := showClear_is (s.modDie d (fun u => { u with clear := orBit u.clear n })) d
  rw [hu] at k1 k2 k3
  rw [d1] at k3
  refine ⟨fun b hb => ?_, fun b hb c hc => ?_⟩
  · exact (KeepsObjs.each (P := fun k => k = keyB b RBay.CLEAR_STATE) (fun v a _ => clearBay_state v a b) u _ rfl).trans (k3 b hb)
  · have sc : SameCodes s c u := by
      intro i hi
      refine (k1 _ ?_).trans (State.getO_modDie _ _ _ _)
      intro hm; rw [List.mem_map] at hm
      obtain ⟨a, _, ha⟩ := hm
      have := keyB_low (b := a) (o := RBay.CLEAR_STATE) (by decide)
      have := keyC_high c (RChan.CLEAR_CODE + i)
      omega
    have main : ∀ (l : List Bay) (x : State), b ∈ l → SameCodes s c x →
        Cleared s c (x.each l (fun s b => (((s.rollAbort b).each (chansOf b) State.clearChan).clearRef b).assayAbort b)) := by
      intro l
      induction l with
      | nil => intro x h; cases h
      | cons a l ih =>
        intro x hm hx
        rw [State.each_cons]
        obtain ⟨q1, q2, q3⟩ := clearBay_is s c a x
        by_cases e : b = a
        · subst e
          refine (State.each_keeps (P := fun x => Cleared s c x ∧ SameCodes s c x) (fun y a hy => ?_) ⟨q3 hc hx, q2 hx⟩).1
          obtain ⟨r1, r2, r3⟩ := clearBay_is s c a y
          exact ⟨r1 hy.1 hy.2, r2 hy.2⟩
        · exact ih _ (List.mem_of_ne_of_mem e hm) (q2 hx)
    exact main _ _ hb sc

end Sys2Proof.Machine
end

