-- ==== Sys2Proof/Laws/FactsGuards.lean ====
section
/-! SUPPORT. Lemmas about the shared operations behind the commands of one family (guards). -/

namespace Sys2Proof.Machine

theorem setGuard_is (s : State) (c : Chan) (w : GuardReg) (v : Nat) : (s.setGuard c w v).getC c (guardObj w) = v ∧
    OnlyObjs s (s.setGuard c w v) [keyC c (guardObj w)] ∧ ChanFrame c s (s.setGuard c w v) := by
  have h : ∀ m : Fin 10, ((s.setC c (guardObj w) v).noteCode c m).getC c (guardObj w) = v ∧
      OnlyObjs s ((s.setC c (guardObj w) v).noteCode c m) [keyC c (guardObj w)] ∧ ChanFrame c s ((s.setC c (guardObj w) v).noteCode c m) := by
    intro m
    unfold State.noteCode; dsimp only
    refine ⟨?_, fun k hk => ?_, (ChanFrame.setO _ _ _ _).trans (ChanFrame.modChan _ _ _)⟩
    · rw [State.getC_modChan, State.getC_setC_same]
    · rw [State.getO_modChan]; exact State.getO_setO_ne _ (by simpa using hk) _
  unfold State.setGuard; dsimp only
  split
  · exact ⟨‹_›, fun _ _ => rfl, ChanFrame.refl c s⟩
  cases w
  · exact h 8
  · exact h 9
  · exact ⟨State.getC_setC_same _ _ _ _, fun k hk => State.getO_setO_ne _ (by simpa using hk) _, ChanFrame.setO _ _ _ _⟩
theorem showGuard_is (s : State) (c : Chan) : ∃ v, s.showGuard c = s.setC c RChan.GUARD_STATE v := ⟨_, rfl⟩
theorem inhibitBay_C {s : State} (b : Bay) (n : Nat) (on : Bool) (c : Chan) (o : Nat) (ho : o < 0x4000) (h : o ≠ RChan.INHIBIT_CAUSE) :
    (s.inhibitBay b n on).getC c o = s.getC c o := by
  refine inhibitBay_keeps (P := fun k => k = keyC c o) s b n on (fun d e => ?_) _ rfl
  by_cases q : d = c
  · subst q; rw [keyC_inj] at e; exact h e.symm
  · exact keyC_ne_chan (by decide) ho q e
theorem setB_C (s : State) (b : Bay) (o v : Nat) (ho : o < 0x10000) (c : Chan) (p : Nat) : (s.setB b o v).getC c p = s.getC c p := by
  refine State.getO_setO_ne _ ?_ _
  have := keyB_low (b := b) ho; have := keyC_high c p; omega
theorem getC_ne (s : State) (c : Chan) {o p : Nat} (v : Nat) (h : p ≠ o) : (s.setC c o v).getC c p = s.getC c p := by rw [State.getC_setC, if_neg h]
theorem ChanFrame.send (c : Chan) (s : State) (m : FaultMsg) : ChanFrame c s (s.send m) := (ReportFrame.send s m).chan c
theorem send_ports (s : State) (m : FaultMsg) (h : m.severity ≠ 3) (hl : (s.ports.get m.unit []).length < 16) :
    (s.send m).ports.get m.unit [] = s.ports.get m.unit [] ++ [m] := by
  unfold State.send; rw [if_neg h]; dsimp only; rw [if_pos hl]; exact Tab.get_set_same _ _ _ _
theorem send_objs (s : State) (m : FaultMsg) : (s.send m).objs = s.objs := by
  unfold State.send; dsimp only; split
  · rfl
  · split <;> rfl
theorem send_chans (s : State) (m : FaultMsg) : (s.send m).chans = s.chans := by
  unfold State.send; dsimp only; split
  · rfl
  · split <;> rfl

end Sys2Proof.Machine
end

