-- ==== Sys2Proof/Laws/FactsCapture.lean ====
section
/-! SUPPORT. Lemmas about the shared operations behind the commands of one family (capture). -/

namespace Sys2Proof.Machine

theorem getB_modCap (s : State) (b : Bay) (m : Fin 5) (f : CapStream → CapStream) (k : Nat) : (s.modCap b m f).getO k = s.getO k := rfl
theorem cap_modCap (s : State) (b : Bay) (m : Fin 5) (f : CapStream → CapStream) : (s.modCap b m f).cap b m = f (s.cap b m) := by
  unfold State.modCap State.cap; rw [State.bay_modBay_same]; dsimp only; rw [vget_set_same]
theorem cap_of_bays {s t : State} (h : t.bays = s.bays) (b : Bay) (m : Fin 5) : t.cap b m = s.cap b m := by unfold State.cap State.bay; rw [h]
theorem openFrame_is (s : State) (b : Bay) (m : Fin 5) (f : CapFrame) :
    (∃ p, ((s.openFrame b m f).cap b m).frames = (s.cap b m).frames ++ [{ f with overrun := p }]) ∧
    ((s.openFrame b m f).cap b m).seq = (s.cap b m).seq ∧ ((s.openFrame b m f).cap b m).on = (s.cap b m).on ∧
    (∀ P : Nat → Prop, ¬ P (keyCap b m RCap.OVERRUN_FRAMES) → (∀ k, P k → eventObj k = false) → KeepsObjs P s (s.openFrame b m f)) ∧
    (s.openFrame b m f).mem = s.mem := by
  unfold State.openFrame
  extract_lets p n past s1 s2
  have c2 : s2.bays = s.bays ∧ s2.mem = s.mem ∧ (∀ P : Nat → Prop, ¬ P (keyCap b m RCap.OVERRUN_FRAMES) → (∀ k, P k → eventObj k = false) → KeepsObjs P s s2) := by
    have c1 : s1.bays = s.bays ∧ s1.mem = s.mem ∧ (∀ P : Nat → Prop, ¬ P (keyCap b m RCap.OVERRUN_FRAMES) → KeepsObjs P s s1) := by
      simp only [s1]; split
      · exact ⟨rfl, rfl, fun P h => (KeepsObjs.refl s).setO h _⟩
      · exact ⟨rfl, rfl, fun P _ => KeepsObjs.refl s⟩
    simp only [s2]; split
    · have f := State.occur_frame s1 (evBay b 11)
      refine ⟨f.bays.trans c1.1, ?_, fun P h h2 => (c1.2.2 P h).occur (evBay_lt (by decide)) h2⟩
      have : (s1.occur (evBay b 11)).mem = s1.mem := by unfold ReportFrame at f; rw [f]
      exact this.trans c1.2.1
    · exact ⟨c1.1, c1.2.1, fun P h _ => c1.2.2 P h⟩
  refine ⟨⟨past, ?_⟩, ?_, ?_, fun P h h2 k hk => (getB_modCap s2 b m _ k).trans (c2.2.2 P h h2 k hk), c2.2.1⟩ <;> rw [cap_modCap, cap_of_bays c2.1]
theorem writeBlocks_parts (s : State) (a : Nat) (d : Bytes) (k : Nat) : (s.writeBlocks a d k).objs = s.objs ∧ (s.writeBlocks a d k).bays = s.bays ∧
    (s.writeBlocks a d k).mem = memWrite s.mem a d := by
  unfold State.writeBlocks; dsimp only
  generalize hv : ({ s with mem := memWrite s.mem a d } : State) = v
  have hp : v.objs = s.objs ∧ v.bays = s.bays ∧ v.mem = memWrite s.mem a d := by rw [← hv]; exact ⟨rfl, rfl, rfl⟩
  apply State.each_keeps (P := fun u => u.objs = s.objs ∧ u.bays = s.bays ∧ u.mem = memWrite s.mem a d) ?_ hp
  intro u i hu; exact hu
theorem toBytes_len : ∀ (n v : Nat), (toBytes n v).length = n := by
  intro n; induction n with
  | zero => intro v; rfl
  | succ n ih => intro v; unfold toBytes; rw [List.length_cons, ih]
theorem memGet_frame (m : List Host.Cell) (a : Nat) (d : Bytes) {n : Nat} (hd : d.length ≤ n) {x : Nat} (h : x < a ∨ a + n ≤ x) :
    memGet (memWrite m a d) x = memGet m x := memGet_memWrite_ne _ _ _ _ (by omega)
theorem frameAddr_of {s t : State} (h : t.objs = s.objs) (b : Bay) (m : Fin 5) (k : Nat) : t.frameAddr b m k = s.frameAddr b m k := by
  unfold State.frameAddr State.partsOf State.getCap; simp only [State.getO_of_objs h]
theorem frames_of {s t : State} (h : t.objs = s.objs) (b : Bay) (m : Fin 5) : t.frames b m = s.frames b m := by
  unfold State.frames State.partsOf State.getCap; simp only [State.getO_of_objs h]
theorem frameTaken_of {s t : State} (h : t.objs = s.objs) (b : Bay) (m : Fin 5) (a : Nat) (w : Bool) : t.frameTaken b m a w = s.frameTaken b m a w := by
  unfold State.frameTaken State.spanDown State.pcDown State.pcState State.getCap; simp only [State.getO_of_objs h]
theorem fixFirsts_is (s : State) (b : Bay) (m : Fin 5) : (s.fixFirsts b m).objs = s.objs ∧
    (s.fixFirsts b m).cap b m = { s.cap b m with pre := some (s.cap b m).units } ∧
    (∀ x, OffSlots s b m x → memGet (s.fixFirsts b m).mem x = memGet s.mem x) := by
  unfold State.fixFirsts
  extract_lets p kept s1
  have h1 : s1.objs = s.objs ∧ s1.bays = s.bays ∧ ∀ x, OffSlots s b m x → memGet s1.mem x = memGet s.mem x := by
    simp only [s1]
    apply State.each_keeps (P := fun u => u.objs = s.objs ∧ u.bays = s.bays ∧ ∀ x, OffSlots s b m x → memGet u.mem x = memGet s.mem x)
    · intro u y hu
      refine ⟨hu.1, hu.2.1, fun x hx => ?_⟩
      refine (memGet_frame _ _ _ (n := 6) (Nat.le_of_eq (toBytes_len _ _)) ?_).trans (hu.2.2 x hx)
      rw [frameAddr_of hu.1, frames_of hu.1]
      have := hx (y.1 % max 1 (s.frames b m)) (Nat.mod_lt _ (by omega))
      omega
    · exact ⟨rfl, rfl, fun _ _ => rfl⟩
  refine ⟨h1.1, ?_, h1.2.2⟩
  rw [cap_modCap, cap_of_bays h1.2.1]
/-- What the close of a frame does: its slot, which the next number gives, is written where memory takes it, and counted lost otherwise. -/
theorem closeFrame_is (s : State) (b : Bay) (m : Fin 5) (f : CapFrame) (hi : Nat) (e : Option WinEnd) (w : Bool) :
    let a := s.frameAddr b m ((s.cap b m).seq % max 1 (s.frames b m))
    let t := s.closeFrame b m f hi e w
    (t.cap b m).frames = (s.cap b m).frames.drop 1 ∧ (t.cap b m).seq = (s.cap b m).seq + 1 ∧ (t.cap b m).on = (s.cap b m).on ∧
    t.getCap b m RCap.WRITE_FRAME = (s.getCap b m RCap.WRITE_FRAME + 1) % 2 ^ 64 ∧
    (∀ P : Nat → Prop, ¬ P (keyCap b m RCap.WRITE_FRAME) → ¬ P (keyCap b m RCap.LOST_FRAMES) → KeepsObjs P s t) ∧
    (∀ x, OffSlots s b m x → memGet t.mem x = memGet s.mem x) ∧
    (s.frameTaken b m a w = false → t.getCap b m RCap.LOST_FRAMES = satAdd 32 (s.getCap b m RCap.LOST_FRAMES) 1 ∧ (f.trigIn = false → t.mem = s.mem)) ∧
    (s.frameTaken b m a w = true → t.getCap b m RCap.LOST_FRAMES = s.getCap b m RCap.LOST_FRAMES ∧ (f.trigIn = false → OnlyBytes s t a 4096)) := by
  intro a t
  simp only [t]
  unfold State.closeFrame
  extract_lets s1 p x s2 first addr ok
  have c1 : s1.objs = s.objs ∧ (s1.cap b m).frames = (s.cap b m).frames ∧ (s1.cap b m).seq = (s.cap b m).seq ∧ (s1.cap b m).on = (s.cap b m).on ∧
      (∀ x, OffSlots s b m x → memGet s1.mem x = memGet s.mem x) ∧ (f.trigIn = false → s1.mem = s.mem) := by
    simp only [s1]; split
    · have q := fixFirsts_is s b m
      refine ⟨q.1, ?_, ?_, ?_, q.2.2, fun h => (by simp_all)⟩ <;> rw [q.2.1]
    · exact ⟨rfl, rfl, rfl, rfl, fun _ _ => rfl, fun _ => rfl⟩
  generalize s1.payload b m f.firstC hi = pl
  obtain ⟨data, units⟩ := pl
  dsimp only
  have c2 : s2.objs = s.objs ∧ s2.bays = s1.bays ∧ s2.mem = s1.mem := by
    simp only [s2]; split
    · exact ⟨c1.1, rfl, rfl⟩
    · exact ⟨c1.1, rfl, rfl⟩
  have ea : addr = a := by
    simp only [addr, a]; rw [frameAddr_of c2.1, frames_of c2.1]; simp only [p]; rw [c1.2.2.1]
  have eo : ok = s.frameTaken b m a w := by simp only [ok]; rw [frameTaken_of c2.1, ea]
  have nl : keyCap b m RCap.LOST_FRAMES ≠ keyCap b m RCap.WRITE_FRAME := by simp only [keyCap, keyB, RCap.LOST_FRAMES, RCap.WRITE_FRAME]; omega
  have inSlot : ∀ x, OffSlots s b m x → x < a ∨ a + 4096 ≤ x := fun x hx => hx _ (Nat.mod_lt _ (by omega))
  generalize hhb : toBytes 64 _ = hb
  have hl : hb.length = 64 := by rw [← hhb, toBytes_len]
  clear hhb
  generalize hv : (if ok = true then (s2.writeBlocks (addr + 64) (data.take (63 * 64)) (p.seq % 256)).writeBlocks addr hb (p.seq % 256)
      else (s2.setCap b m RCap.LOST_FRAMES (satAdd 32 (s2.getCap b m RCap.LOST_FRAMES) 1)).fault (0x100 + b.val) 0x24 (m.val + 1)) = v
  have cv : v.bays = s1.bays ∧ (∀ P : Nat → Prop, ¬ P (keyCap b m RCap.LOST_FRAMES) → KeepsObjs P s v) ∧
      (ok = false → v.getCap b m RCap.LOST_FRAMES = satAdd 32 (s.getCap b m RCap.LOST_FRAMES) 1 ∧ v.mem = s1.mem) ∧
      (ok = true → v.getCap b m RCap.LOST_FRAMES = s.getCap b m RCap.LOST_FRAMES ∧ ∀ x, x < a ∨ a + 4096 ≤ x → memGet v.mem x = memGet s1.mem x) := by
    rw [← hv]
    cases ok with
    | true =>
      rw [if_pos rfl]
      have q1 := writeBlocks_parts s2 (addr + 64) (data.take (63 * 64)) (p.seq % 256)
      have q2 := writeBlocks_parts (s2.writeBlocks (addr + 64) (data.take (63 * 64)) (p.seq % 256)) addr hb (p.seq % 256)
      have ho := q2.1.trans (q1.1.trans c2.1)
      refine ⟨q2.2.1.trans (q1.2.1.trans c2.2.1), fun P _ => KeepsObjs.of_objs ho, fun h => (by cases h), fun _ => ⟨State.getO_of_objs ho _, fun x hx => ?_⟩⟩
      have hd : (data.take (63 * 64)).length ≤ 63 * 64 := by rw [List.length_take]; exact Nat.min_le_left _ _
      rw [q2.2.2, q1.2.2, c2.2.2, memGet_frame _ _ _ (Nat.le_of_eq hl) (by omega), memGet_frame _ _ _ hd (by omega)]
    | false =>
      rw [if_neg (by decide)]
      have g := ReportFrame.fault (s2.setCap b m RCap.LOST_FRAMES (satAdd 32 (s2.getCap b m RCap.LOST_FRAMES) 1)) (0x100 + b.val) 0x24 (m.val + 1)
      have e1 : s2.getCap b m RCap.LOST_FRAMES = s.getCap b m RCap.LOST_FRAMES := State.getO_of_objs c2.1 _
      have fm : ((s2.setCap b m RCap.LOST_FRAMES (satAdd 32 (s2.getCap b m RCap.LOST_FRAMES) 1)).fault (0x100 + b.val) 0x24 (m.val + 1)).mem = s2.mem := by
        unfold ReportFrame at g; rw [g]; rfl
      refine ⟨g.bays.trans c2.2.1, fun P h => (KeepsObjs.setO (KeepsObjs.of_objs c2.1) h _).fault _ _ _, fun _ => ⟨?_, fm.trans c2.2.2⟩, fun h => (by cases h)⟩
      show State.getO _ _ = _
      rw [State.getO_fault]; unfold State.setCap; rw [State.getO_setO_same, e1]
  clear hv
  have wv : v.getCap b m RCap.WRITE_FRAME = s.getCap b m RCap.WRITE_FRAME := cv.2.1 (fun k => k = keyCap b m RCap.WRITE_FRAME) nl _ rfl
  have vc : ∀ x y, (v.setCap b m x y).cap b m = s1.cap b m := fun _ _ => cap_of_bays cv.1 b m
  clear_value ok
  subst eo
  have lost : ∀ y, State.getCap (State.setCap v b m RCap.WRITE_FRAME y) b m RCap.LOST_FRAMES = v.getCap b m RCap.LOST_FRAMES := fun y => State.getO_setO_ne _ nl _
  refine ⟨?_, ?_, ?_, ?_, fun P h1 h2 => ?_, fun x hx => ?_, fun h => ⟨(lost _).trans (cv.2.2.1 h).1, fun ht => ?_⟩, fun h => ⟨(lost _).trans (cv.2.2.2 h).1, fun ht x hx => ?_⟩⟩
  · rw [cap_modCap, vc]; exact congrArg _ c1.2.1
  · rw [cap_modCap, vc]; exact congrArg (· + 1) c1.2.2.1
  · rw [cap_modCap, vc]; exact c1.2.2.2.1
  · show State.getO (State.setCap _ _ _ _ _) _ = _
    unfold State.setCap; rw [State.getO_setO_same, wv]
  · exact fun k hk => (getB_modCap _ b m _ k).trans ((cv.2.1 P h2).setO h1 _ k hk)
  · refine Eq.trans ?_ (c1.2.2.2.2.1 x hx)
    cases h : s.frameTaken b m a w with
    | true => exact (cv.2.2.2 h).2 x (inSlot x hx)
    | false => exact congrArg (memGet · x) (cv.2.2.1 h).2
  · exact (cv.2.2.1 h).2.trans (c1.2.2.2.2.2 ht)
  · exact ((cv.2.2.2 h).2 x hx).trans (congrArg (memGet · x) (c1.2.2.2.2.2 ht))
theorem keyCap_low (b : Bay) (m : Fin 5) {o : Nat} (h : o < 256) : 0x300000 ≤ keyCap b m o ∧ keyCap b m o < 0x400000 := by simp only [keyCap, keyB]; omega
theorem keyCap_inj {b : Bay} {m n : Fin 5} {o p : Nat} (ho : o < 256) (hp : p < 256) : keyCap b m o = keyCap b n p ↔ m = n ∧ o = p := by
  constructor
  · intro h; simp only [keyCap, keyB] at h; exact ⟨by apply Fin.ext; omega, by omega⟩
  · rintro ⟨rfl, rfl⟩; rfl
theorem keyCap_keyB {b c : Bay} {m : Fin 5} {o p : Nat} (ho : o < 256) (hp : p < 0xA400 ∨ 0xA900 ≤ p) (hp2 : p < 0x10000) : keyCap b m o ≠ keyB c p := by
  simp only [keyCap, keyB]; omega
/-- An object of a bay outside the capture streams. -/
def bayKey (b : Bay) (k : Nat) : Prop := ∃ o, k = keyB b o ∧ (o < 0xA400 ∨ 0xA900 ≤ o) ∧ o < 0x10000
theorem bayKey_ev {b : Bay} {k : Nat} (h : bayKey b k) : eventObj k = false := by obtain ⟨o, rfl, _, h⟩ := h; exact eventObj_keyB h
theorem bayKey_cap {b c : Bay} {m : Fin 5} {o : Nat} (ho : o < 256) : ¬ bayKey b (keyCap c m o) := by
  rintro ⟨p, h, h1, h2⟩; exact keyCap_keyB ho h1 h2 h
theorem closeFrame_bay (s : State) (b : Bay) (m : Fin 5) (f : CapFrame) (hi : Nat) (e : Option WinEnd) (w : Bool) (c : Bay) : KeepsObjs (bayKey c) s (s.closeFrame b m f hi e w) :=
  (closeFrame_is s b m f hi e w).2.2.2.2.1 _ (bayKey_cap (by decide)) (bayKey_cap (by decide))
theorem openFrame_bay (s : State) (b : Bay) (m : Fin 5) (f : CapFrame) (c : Bay) : KeepsObjs (bayKey c) s (s.openFrame b m f) :=
  (openFrame_is s b m f).2.2.2.1 _ (bayKey_cap (by decide)) (fun _ h => bayKey_ev h)
theorem startSegment_bay (s : State) (b : Bay) (m : Fin 5) (x : Nat) (c : Bay) : KeepsObjs (bayKey c) s (s.startSegment b m x) := by
  unfold State.startSegment; dsimp only
  split
  · exact KeepsObjs.refl s
  · split
    · exact KeepsObjs.of_objs rfl
    · intro k hk
      rw [getB_modCap]
      exact KeepsObjs.trans (KeepsObjs.of_objs rfl) (openFrame_bay _ b m _ c) k hk
theorem fireWindow_bay (s : State) (b : Bay) (m : Fin 5) (x y z : Nat) (c : Bay) : KeepsObjs (bayKey c) s (s.fireWindow b m x y z) := by
  unfold State.fireWindow; dsimp only
  exact KeepsObjs.setO (KeepsObjs.of_objs rfl) (bayKey_cap (by decide)) _
theorem recognise_fires (s : State) (b : Bay) (h : TrigHit) (h1 : s.getB b RBay.TRIG_STATE = 2) (h2 : (s.bay b).trigAt ≠ some (s.bclkAbs b)) :
    (s.recognise b h).getB b RBay.TRIG_STATE = 3 ∧ (s.recognise b h).getB b RBay.TRIG_CYCLE = h.cycle ∧ (s.recognise b h).getB b RBay.TRIG_OFFSET = h.offset := by
  unfold State.recognise
  extract_lets st s1 tm s2 s3
  rw [if_neg (by simp only [st]; rw [h1]; simp [h2]), if_pos h1]
  have hk : ∀ x, (x < 0xA400 ∨ 0xA900 ≤ x) ∧ x < 0x10000 → bayKey b (keyB b x) := fun x hx => ⟨x, rfl, hx.1, hx.2⟩
  have e3 : ∀ x, x < 0x10000 → x ≠ RBay.TRIG_TIME → s3.getB b x = s1.getB b x := by
    intro x hx hn
    simp only [s3, s2]
    show State.getO _ _ = _
    rw [State.getO_occur _ (evBay_lt (by decide)) (eventObj_keyB (by omega)), State.getO_modBay]
    exact State.getO_setO_ne _ (by rw [Ne, keyB_inj]; exact hn) _
  refine (fun k => ⟨(k _ (hk _ (by decide))).trans ((e3 _ (by decide) (by decide)).trans ?_), (k _ (hk _ (by decide))).trans ((e3 _ (by decide) (by decide)).trans ?_),
    (k _ (hk _ (by decide))).trans ((e3 _ (by decide) (by decide)).trans ?_)⟩) (KeepsObjs.each (P := bayKey b) (fun u m _ => KeepsObjs.ite (fireWindow_bay _ _ _ _ _ _ b) (KeepsObjs.refl u)) s3)
  · simp only [s1]; rw [State.getB_setB, if_neg (by decide), State.getB_setB, if_neg (by decide), State.getB_setB_same]
  · simp only [s1]; rw [State.getB_setB, if_neg (by decide), State.getB_setB_same]
  · simp only [s1]; rw [State.getB_setB_same]
end Sys2Proof.Machine
end

