-- ==== Sys2Proof/Laws/FactsTmu.lean ====
section
/-! SUPPORT. Lemmas about the shared operations behind the commands of one family (tmu). -/

namespace Sys2Proof.Machine

theorem tmu_modTmu (s : State) (b : Bay) (f : Tmu → Tmu) : (s.modTmu b f).tmu b = f (s.tmu b) := by
  unfold State.modTmu State.tmu; rw [State.bay_modBay_same]
theorem tmu_setB (s : State) (b c : Bay) (o v : Nat) : (s.setB b o v).tmu c = s.tmu c := rfl
theorem tmu_setO (s : State) (c : Bay) (k v : Nat) : (s.setO k v).tmu c = s.tmu c := rfl
theorem tmu_ok (s : State) (b : Bay) : s.ok.tmu b = s.tmu b := rfl
theorem tmu_body (s : State) (b : Bay) (l : Bytes) : (s.answerBody l).tmu b = s.tmu b := rfl
theorem tmu_occur (s : State) (n : Nat) (b : Bay) : (s.occur n).tmu b = s.tmu b := by unfold State.tmu; rw [State.bay_occur]
theorem tmu_fault (s : State) (u k a : Nat) (b : Bay) : (s.fault u k a).tmu b = s.tmu b := by
  unfold State.tmu State.bay; rw [(ReportFrame.fault s u k a).bays]
theorem modTmu_frame (s : State) (b : Bay) (f : Tmu → Tmu) : BayFrame b s (s.modTmu b f) := BayFrame.modBay s b _
theorem evTmu_lt (b : Bay) {k : Nat} (h : k < 4) : evTmu b k < 2048 := by simp only [evTmu]; omega
theorem getB_occur (s : State) {n : Nat} (hn : n < 2048) (b : Bay) {o : Nat} (h : o < 0x10000) : (s.occur n).getB b o = s.getB b o :=
  State.getO_occur s hn (eventObj_keyB h)
theorem getB_modTmu (s : State) (b c : Bay) (f : Tmu → Tmu) (o : Nat) : (s.modTmu b f).getB c o = s.getB c o := rfl
theorem getO_modTmu (s : State) (b : Bay) (f : Tmu → Tmu) (k : Nat) : (s.modTmu b f).getO k = s.getO k := rfl
theorem getB_setB_ne (s : State) (b : Bay) {o p : Nat} (v : Nat) (h : p ≠ o) : (s.setB b o v).getB b p = s.getB b p := by rw [State.getB_setB, if_neg h]
theorem getB_fault (s : State) (u k a : Nat) (b : Bay) (o : Nat) : (s.fault u k a).getB b o = s.getB b o := State.getO_fault _ _ _ _ _
theorem tmuPush_is (s : State) (b : Bay) (r : TmuRec) (h : (s.tmu b).fifo.length < 255) :
    (s.tmuPush b r).tmu b = { s.tmu b with fifo := (s.tmu b).fifo ++ [s.tmuBytes b r], last := s.tmuBytes b r, lost := 0, records := (s.tmu b).records + 1 } ∧
    (s.tmuPush b r).getB b RBay.RESULT_COUNT = (s.tmu b).fifo.length + 1 := by
  unfold State.tmuPush
  extract_lets bytes s1 n s2
  rw [if_neg (by omega)]
  have t1 : s1.tmu b = { s.tmu b with fifo := (s.tmu b).fifo ++ [bytes], last := bytes, lost := 0, records := (s.tmu b).records + 1 } := tmu_modTmu _ _ _
  have hn : n = (s.tmu b).fifo.length + 1 := by simp only [n]; rw [t1]; simp
  rw [if_neg (by omega)]
  refine ⟨t1, ?_⟩
  simp only [s2]; rw [State.getB_setB_same, hn]
theorem tmuPush_keeps (s : State) (b : Bay) (r : TmuRec) : (∀ o, o < 0x10000 → o ≠ RBay.RESULT_COUNT → (s.tmuPush b r).getB b o = s.getB b o) ∧
    ((s.tmuPush b r).tmu b).repeats = (s.tmu b).repeats ∧ ((s.tmuPush b r).tmu b).cfg = (s.tmu b).cfg ∧ (s.tmuPush b r).getO R.LOCK_MASK = s.getO R.LOCK_MASK := by
  unfold State.tmuPush
  extract_lets bytes s1 n s2
  split
  · exact ⟨fun _ _ _ => rfl, rfl, rfl, rfl⟩
  · have t1 : s1.tmu b = { s.tmu b with fifo := (s.tmu b).fifo ++ [bytes], last := bytes, lost := 0, records := (s.tmu b).records + 1 } := tmu_modTmu _ _ _
    have k : (∀ o, o < 0x10000 → o ≠ RBay.RESULT_COUNT → s2.getB b o = s.getB b o) ∧ (s2.tmu b).repeats = (s.tmu b).repeats ∧ (s2.tmu b).cfg = (s.tmu b).cfg ∧
        s2.getO R.LOCK_MASK = s.getO R.LOCK_MASK := by
      refine ⟨fun o _ hn => ?_, ?_, ?_, ?_⟩
      · simp only [s2]; rw [getB_setB_ne _ _ _ hn]; rfl
      · simp only [s2]; rw [tmu_setB, t1]
      · simp only [s2]; rw [tmu_setB, t1]
      · simp only [s2]; exact (State.getO_setO_ne _ (lm_keyB _ _) _).trans rfl
    split
    · refine ⟨fun o ho hn => (getB_occur _ (evTmu_lt b (by decide)) b ho).trans (k.1 o ho hn), ?_, ?_, ?_⟩
      · rw [tmu_occur]; exact k.2.1
      · rw [tmu_occur]; exact k.2.2.1
      · rw [State.getO_occur _ (evTmu_lt b (by decide)) (eventObj_low (by decide))]; exact k.2.2.2
    · exact k
theorem tmuOver_is (s : State) (b : Bay) : ((s.tmuOver b).tmu b).repeats = (s.tmu b).repeats + 1 ∧ ((s.tmuOver b).tmu b).fifo = (s.tmu b).fifo ∧
    ∀ o, o < 0x10000 → o ≠ RBay.TMU_STATE → (s.tmuOver b).getB b o = s.getB b o := by
  unfold State.tmuOver; dsimp only
  split
  · refine ⟨?_, ?_, fun o _ hn => (getB_setB_ne _ _ _ hn).trans rfl⟩ <;> rw [tmu_setB, tmu_modTmu]
  · refine ⟨?_, ?_, fun o _ hn => (getB_setB_ne _ _ _ hn).trans rfl⟩ <;> rw [tmu_setB, tmu_modTmu]
theorem tmuBegin_is (s : State) (b : Bay) : (s.tmuBegin b).tmuState b = TS.CALIBRATING ∧ ((s.tmuBegin b).tmu b).between = false ∧ ((s.tmuBegin b).tmu b).hit0 = none ∧
    ((s.tmuBegin b).tmu b).cfg = (s.tmu b).cfg ∧ ((s.tmuBegin b).tmu b).fifo = (s.tmu b).fifo ∧ OnlyObjs s (s.tmuBegin b) [keyB b RBay.TMU_STATE] ∧ BayFrame b s (s.tmuBegin b) := by
  unfold State.tmuBegin
  refine ⟨State.getB_setB_same _ _ _ _, ?_, ?_, ?_, ?_, fun k hk => (State.getO_setO_ne _ (by simpa using hk) _).trans rfl, (modTmu_frame _ _ _).trans (BayFrame.setO _ _ _ _)⟩ <;>
    rw [tmu_setB, tmu_modTmu]
theorem tmuRead_is (s : State) (b : Bay) (n : Nat) (h : (s.tmu b).between = false) :
    (s.tmuRead b n).2 = (s.modTmu b (fun u => { u with fifo := u.fifo.drop n })).setB b RBay.RESULT_COUNT ((s.tmu b).fifo.drop n).length := by
  unfold State.tmuRead; dsimp only
  unfold State.tmuRepeat; dsimp only
  rw [tmu_setB, tmu_modTmu]; dsimp only
  rw [h]; rfl
theorem hitSeen_none {α : Type} (p : α → Bool) : (none : Option α).any p = false := rfl

end Sys2Proof.Machine
end

