-- ==== Sys2Proof/Laws/FactsBench.lean ====
section
/-! SUPPORT. Lemmas about the shared operations behind the commands of one family (bench). -/

namespace Sys2Proof.Machine

theorem Settled.of_eq {s t : State} (h : Settled s) (h1 : t.waiting = s.waiting) (h2 : t.blocked = s.blocked) (h3 : t.hostPosts = s.hostPosts) : Settled t :=
  ⟨h1.trans h.1, h2.trans h.2.1, h3.trans h.2.2⟩
theorem Settled.of_objs {s t : State} (hs : Settled s) (h : ObjFrame s t) : Settled t := by
  unfold ObjFrame at h; rw [h]; exact hs
theorem State.settle_id {s : State} (h : Settled s) : ∀ n, s.settle n = s := by
  have e1 : s.enterReady = s := by
    unfold State.enterReady; dsimp only; rw [h.1]
    show ({ s with waiting := [] } : State) = s
    rw [← h.1]
  have e2 : s.postBlocked = s := by
    unfold State.postBlocked; dsimp only; rw [h.2.1]
    show ({ s with blocked := [] } : State) = s
    rw [← h.2.1]
  have e3 : s.postHost = s := by
    unfold State.postHost; dsimp only; rw [h.2.2]
    show ({ s with hostPosts := [] } : State) = s
    rw [← h.2.2]
  intro n
  cases n with
  | zero => rfl
  | succ n => unfold State.settle; rw [e1, e2, e3]; dsimp only; rw [if_pos ⟨rfl, rfl, rfl⟩]
theorem ObjOnly.each {α : Type} {l : List α} {f : State → α → State} (h : ∀ u a, (f u a) = { u with objs := (f u a).objs }) (s : State) :
    (s.each l f) = { s with objs := (s.each l f).objs } := by
  induction l generalizing s with
  | nil => rfl
  | cons a l ih =>
    rw [State.each_cons, ih (f s a)]
    generalize hx : ((f s a).each l f).objs = x
    rw [h s a]
theorem schedObj_ne {k : Nat} (h : schedObj k = false) : k ≠ R.STORE_USED ∧ k ≠ R.STORE_PEAK ∧ k ≠ R.PENDING_ITEMS ∧
    (∀ n, n < 12 → k ≠ keyBench n RBench.READY_DEPTH) ∧ (∀ i, i < 4 → k ≠ R.LIST_USED + i) ∧ ∀ g, g < 64 → k ≠ keyG g RGraph.POOL_FREE := by
  simp only [schedObj, Bool.or_eq_false_iff, beq_eq_false_iff_ne, List.any_eq_false, List.mem_range, beq_iff_eq] at h
  obtain ⟨⟨⟨⟨⟨h1, h2⟩, h3⟩, h4⟩, h5⟩, h6⟩ := h
  exact ⟨h1, h2, h3, h4, h5, h6⟩
theorem State.showSched_is (s : State) : s.showSched = { s with objs := s.showSched.objs } ∧
    ∀ k, schedObj k = false → s.showSched.getO k = s.getO k := by
  unfold State.showSched
  extract_lets n s1 s2 s3
  have f3 : s3 = { s with objs := s3.objs } := ObjOnly.each (fun u a => rfl) s2
  refine ⟨?_, fun k hk => ?_⟩
  · have := ObjOnly.each (l := List.finRange 4) (f := fun (s : State) (i : Fin 4) => s.setO (R.LIST_USED + i.val) (s.delays.get i).length) (fun u a => rfl) s3
    rw [this]
    generalize (State.each s3 _ _).objs = x
    rw [f3]
  · obtain ⟨h1, h2, h3, h4, h5, _⟩ := schedObj_ne hk
    rw [State.getO_each (fun u a _ => State.getO_setO_ne _ (h5 a.val a.isLt) _)]
    simp only [s3]
    rw [State.getO_each (fun u a _ => State.getO_setO_ne _ (h4 a.val a.isLt) _)]
    simp only [s2, s1]
    rw [State.getO_setO_ne _ h3, State.getO_setO_ne _ h2, State.getO_setO_ne _ h1]
theorem State.showPools_is (s : State) (g : Nat) : s.showPools g = { s with objs := (s.showPools g).objs } ∧
    ∀ k, schedObj k = false → (s.showPools g).getO k = s.getO k := by
  refine ⟨ObjOnly.each (fun u a => rfl) s, fun k hk => ?_⟩
  refine State.getO_each (fun u a ha => State.getO_setO_ne _ ((schedObj_ne hk).2.2.2.2.2 a ?_) _) s
  exact List.mem_range.mp (List.mem_filter.mp ha).1
theorem State.sched_is {s : State} (h : Settled s) (g : Nat) : ∃ ob, s.sched g = { s with objs := ob } ∧
    ∀ k, schedObj k = false → (s.sched g).getO k = s.getO k := by
  unfold State.sched
  rw [State.settle_id h]
  have q := s.showSched_is
  have r := s.showSched.showPools_is g
  refine ⟨(s.showSched.showPools g).objs, ?_, fun k hk => (r.2 k hk).trans (q.2 k hk)⟩
  obtain ⟨ob, hob⟩ : ∃ ob, s.showSched = { s with objs := ob } := ⟨_, q.1⟩
  rw [r.1]
  generalize (s.showSched.showPools g).objs = x
  rw [hob]
theorem State.hostGraph_ready {s : State} {g : Graph} {e : BitVec 16} (h1 : s.operational = true) (h2 : e.toNat = s.getG g.val RGraph.GRAPH_EPOCH)
    (k : State → State) : s.hostGraph g e k = k s := by
  unfold State.hostGraph; rw [State.hostModule_up h1]; dsimp only; rw [if_neg (by simp [h2])]
theorem schedObj_G {g o : Nat} (hg : g < 64) (ho : o < 256) (h : o ≠ RGraph.POOL_FREE) : schedObj (keyG g o) = false := by
  simp only [schedObj, Bool.or_eq_false_iff, beq_eq_false_iff_ne, List.any_eq_false, List.mem_range, beq_iff_eq, keyG, keyBench, key, R.STORE_USED, R.STORE_PEAK, R.PENDING_ITEMS, R.LIST_USED, RBench.READY_DEPTH, RGraph.POOL_FREE] at *
  refine ⟨⟨⟨⟨⟨?_, ?_⟩, ?_⟩, ?_⟩, ?_⟩, ?_⟩ <;> intros <;> omega
theorem schedObj_node {g n : Nat} (hg : g < 64) (hn : n < 255) : schedObj (keyNode g n) = false := by
  simp only [schedObj, Bool.or_eq_false_iff, beq_eq_false_iff_ne, List.any_eq_false, List.mem_range, beq_iff_eq, keyG, keyNode, keyBench, key, R.STORE_USED, R.STORE_PEAK, R.PENDING_ITEMS, R.LIST_USED, RBench.READY_DEPTH, RGraph.POOL_FREE] at *
  refine ⟨⟨⟨⟨⟨?_, ?_⟩, ?_⟩, ?_⟩, ?_⟩, ?_⟩ <;> intros <;> omega
theorem keyG_inj {g o p : Nat} : keyG g o = keyG g p ↔ o = p := by simp only [keyG, key]; omega
theorem takeToken_stores {s : State} {k : Token} (h1 : s.filled k = false) (h2 : s.completes k = none) (h3 : s.storeUsed < 65536) :
    s.takeToken k = some { s with store := s.store ++ [k] } := by
  unfold State.takeToken
  rw [if_neg (by rw [h1]; decide)]
  dsimp only; rw [h2]; dsimp only; rw [if_neg (by simp; omega)]
theorem getG_discard1 (s : State) (k : Token) (hb : k.buf = false) : s.discard [k] = s.addG k.graph RGraph.DISCARDED_OPERANDS 1 := by
  show (if k.buf then _ else s).addG _ _ _ = _
  rw [hb]; rfl
theorem State.core_of_benches {s t : State} (h : t.benches = s.benches) (n : Bench) (c : Fin 16) : t.core n c = s.core n c := by unfold State.core State.bench; rw [h]
theorem State.bench_of_benches {s t : State} (h : t.benches = s.benches) (n : Bench) : t.bench n = s.bench n := by unfold State.bench; rw [h]
theorem State.bench_modBench_same (s : State) (n : Bench) (f : BenchU → BenchU) : (s.modBench n f).bench n = f (s.bench n) := vget_set_same _ _ _
theorem State.bench_modBench_ne (s : State) {n m : Bench} (h : m ≠ n) (f : BenchU → BenchU) : (s.modBench n f).bench m = s.bench m := vget_set_ne _ h _
theorem State.core_modCore (s : State) (n : Bench) (c : Fin 16) (f : Core → Core) : (s.modCore n c f).core n c = f (s.core n c) := by
  unfold State.core State.modCore; rw [State.bench_modBench_same]; exact vget_set_same _ _ _
theorem State.ready_modCore (s : State) (n m : Bench) (c : Fin 16) (f : Core → Core) : ((s.modCore n c f).bench m).ready = (s.bench m).ready := by
  unfold State.modCore
  by_cases h : m = n
  · subst h; rw [State.bench_modBench_same]
  · rw [State.bench_modBench_ne _ h]
theorem State.core_ready (s : State) (n m : Bench) (c : Fin 16) (l : List Work → List Work) :
    (s.modBench n (fun u => { u with ready := l u.ready })).core m c = s.core m c := by
  unfold State.core
  by_cases h : m = n
  · subst h; rw [State.bench_modBench_same]
  · rw [State.bench_modBench_ne _ h]
theorem modBench_form {s1 s : State} {x : Tab Nat} (h : s1 = { s with objs := x }) (n : Bench) (f : BenchU → BenchU) :
    ∃ ob be, s1.modBench n f = { s with objs := ob, benches := be } := by rw [h]; exact ⟨_, _, rfl⟩
theorem State.countPool_is (s : State) (n : Bench) : (∀ m c, (s.countPool n).core m c = s.core m c) ∧
    (∃ ob be, s.countPool n = { s with objs := ob, benches := be }) ∧ ∀ k, k % 256 ≠ 0x16 → (s.countPool n).getO k = s.getO k := by
  unfold State.countPool
  extract_lets held s1
  have h1 : s1 = { s with objs := s1.objs } := ObjOnly.each (fun u a => rfl) s
  have hb : s1.benches = s.benches := by rw [h1]
  refine ⟨fun m c => (State.core_ready s1 n m c (fun l => l.map (fun w => if held w then { w with waited := true } else w))).trans (State.core_of_benches hb m c),
    modBench_form h1 n _, fun k hk => ?_⟩
  · show s1.getO k = _
    simp only [s1]
    refine State.getO_each (fun u a _ => ?_) s
    show (u.setO (keyG a.graph RGraph.POOL_WAITS) _).getO k = _
    exact State.getO_setO_ne _ (by simp only [keyG, key, RGraph.POOL_WAITS]; omega) _
theorem State.startWork_is (s : State) (n : Bench) (c : Fin 16) (w : Work) : ((s.startWork n c w).core n c).running = some w ∧
    (∀ m, ((s.startWork n c w).bench m).ready = (s.bench m).ready) ∧ (s.startWork n c w).store = s.store ∧
    (s.startWork n c w).lastCore.get (w.graph * 256 + w.node) 0 = coreNo n c + 1 ∧ (Settled s → Settled (s.startWork n c w)) := by
  unfold State.startWork; dsimp only
  refine ⟨?_, fun m => ?_, rfl, Tab.get_set_same _ _ _ _, fun h => h⟩
  · show ((s.modCore n c (fun u => { u with running := some w, due := s.now + w.limit * 1000000 })).core n c).running = _
    rw [State.core_modCore]
  · exact State.ready_modCore s n m c (fun u => { u with running := some w, due := s.now + w.limit * 1000000 })
theorem State.consumeOps_none {s : State} {w : Work} (h : w.ops.filter (fun o => o.2.2) = []) : s.consumeOps w = s := by
  unfold State.consumeOps; rw [h]; rfl
theorem State.endWork_idle {s : State} {n : Bench} {c : Fin 16} (h : (s.core n c).queue = []) :
    s.endWork n c = s.modCore n c (fun u => { u with running := none, left := none }) := by
  unfold State.endWork State.nextWork
  split
  · rfl
  · rw [State.core_modCore]; dsimp only; rw [h]
theorem State.node_of {s t : State} (h : t.doms = s.doms) (g n : Nat) : t.node g n = s.node g n := by unfold State.node; rw [h]
theorem State.dests_of {s t : State} (h : t.doms = s.doms) (g n p : Nat) : t.dests g n p = s.dests g n p := by unfold State.dests State.edges; rw [h]
theorem State.nodeError_counts {s : State} {g n seq code core : Nat} (h : s.dests g n 3 = []) (hg : g < 64) (hn : n < 255) (hc : code < 256) :
    (s.nodeError g n seq code core).getG g RGraph.ERRORS = satAdd 32 (s.getG g RGraph.ERRORS) 1 ∧
    (s.nodeError g n seq code core).getG g RGraph.LAST_ERROR = n + code * 256 ∧
    (s.nodeError g n seq code core).getO (keyNode g n) % 256 = code ∧ ReportFrame s (s.nodeError g n seq code core) := by
  unfold State.nodeError
  extract_lets u
  have hu : u.dests g n 3 = [] := (State.dests_of (s := s) (t := u) rfl g n 3).trans h
  rw [hu]; dsimp only
  unfold State.countError
  have ev : ∀ k, k < 0xC00000 → ∀ x : State, (x.event (1856 + g) (n + code * 256)).getO k = x.getO k := fun k hk x => State.getO_event _ _ (by omega) (eventObj_low hk)
  have k1 : keyG g RGraph.ERRORS < 0xC00000 := by simp only [keyG, key, RGraph.ERRORS]; omega
  have k2 : keyG g RGraph.LAST_ERROR < 0xC00000 := by simp only [keyG, key, RGraph.LAST_ERROR]; omega
  have k3 : keyNode g n < 0xC00000 := by simp only [keyNode, key]; omega
  have n1 : keyG g RGraph.ERRORS ≠ keyNode g n := by simp only [keyG, keyNode, key, RGraph.ERRORS]; omega
  have n2 : keyG g RGraph.LAST_ERROR ≠ keyNode g n := by simp only [keyG, keyNode, key, RGraph.LAST_ERROR]; omega
  refine ⟨?_, ?_, ?_, ?_⟩
  · show State.getO _ _ = _
    rw [ev _ k1, State.getO_setO_ne _ n1]
    simp only [u]
    rw [show ∀ x : State, ∀ y, (x.setG g RGraph.LAST_ERROR y).getO (keyG g RGraph.ERRORS) = x.getO (keyG g RGraph.ERRORS) from fun x y => State.getO_setO_ne _ (by rw [Ne, keyG_inj]; decide) _]
    exact State.getO_setO_same _ _ _
  · show State.getO _ _ = _
    rw [ev _ k2, State.getO_setO_ne _ n2]
    exact State.getO_setO_same _ _ _
  · rw [ev _ k3, State.getO_setO_same]; omega
  · exact ((ObjFrame.setO _ _ _).trans ((ObjFrame.setO _ _ _).trans (ObjFrame.setO _ _ _))).report.trans (ReportFrame.event _ _ _)
theorem ReportFrame.settled {s t : State} (h : ReportFrame s t) (hs : Settled s) : Settled t := by
  unfold ReportFrame at h; exact hs.of_eq (by rw [h]) (by rw [h]) (by rw [h])
theorem ReportFrame.benches {s t : State} (h : ReportFrame s t) : t.benches = s.benches := by unfold ReportFrame at h; rw [h]
theorem ReportFrame.store {s t : State} (h : ReportFrame s t) : t.store = s.store := by unfold ReportFrame at h; rw [h]
theorem State.finish_is {s : State} {n : Bench} {c : Fin 16} {w : Work} (hs : Settled s) (hq : (s.core n c).queue = []) (ho : w.ops.filter (fun o => o.2.2) = []) :
    ((s.finishWork n c w).core n c).running = none ∧ (s.finishWork n c w).store = s.store ∧ (s.finishWork n c w).inst = s.inst ∧
    (s.finishWork n c w).now = s.now ∧ (∀ k, schedObj k = false → (s.finishWork n c w).getO k = s.getO k) := by
  unfold State.finishWork
  rw [State.endWork_idle hq, State.consumeOps_none ho]
  obtain ⟨ob, q⟩ := State.sched_is (s := s.modCore n c (fun u => { u with running := none, left := none })) (hs.of_eq rfl rfl rfl) w.graph
  refine ⟨?_, ?_, ?_, ?_, fun k hk => (q.2 k hk).trans rfl⟩
  · rw [State.core_of_benches (s := s.modCore n c (fun u => { u with running := none, left := none })) (by rw [q.1]), State.core_modCore]
  · rw [q.1]; rfl
  · rw [q.1]; rfl
  · rw [q.1]; rfl
theorem discard_plain (g : Nat) : ∀ (l : List Token) (s : State), (∀ x ∈ l, x.graph = g ∧ x.buf = false) →
    s.discard l = { s with objs := (s.discard l).objs } ∧ ∀ k, k ≠ keyG g RGraph.DISCARDED_OPERANDS → (s.discard l).getO k = s.getO k := by
  intro l
  induction l with
  | nil => intro s _; exact ⟨rfl, fun _ _ => rfl⟩
  | cons x l ih =>
    intro s h
    have e : s.discard (x :: l) = (s.addG g RGraph.DISCARDED_OPERANDS 1).discard l := by
      show ((if x.buf then _ else s).addG x.graph _ 1).discard l = _
      rw [(h x (List.mem_cons_self ..)).2, (h x (List.mem_cons_self ..)).1]; rfl
    have q := ih (s.addG g RGraph.DISCARDED_OPERANDS 1) (fun y hy => h y (List.mem_cons_of_mem _ hy))
    rw [e]
    exact ⟨q.1, fun k hk => (q.2 k hk).trans (State.getO_setO_ne _ hk _)⟩
theorem foldl_max_at (L : Nat) (g : Nat) : ∀ (l : List Nat) (a : Nat),
    l.foldl (fun a h => max a (if h = g then L else 0)) a = if g ∈ l then max a L else max a 0 := by
  intro l
  induction l with
  | nil => intro a; simp
  | cons x l ih =>
    intro a
    rw [List.foldl_cons, ih]
    by_cases hx : x = g
    · subst hx; simp
    · rw [if_neg hx]
      by_cases hm : g ∈ l
      · rw [if_pos hm, if_pos (List.mem_cons_of_mem _ hm)]; omega
      · rw [if_neg hm, if_neg (by simp [hm]; exact fun h => hx h.symm)]; omega
theorem find_at {P : Nat → Bool} {g : Nat} : ∀ (l : List Nat), (∀ h, P h = true ↔ h = g) → g ∈ l → l.find? P = some g := by
  intro l hP
  induction l with
  | nil => intro h; cases h
  | cons x l ih =>
    intro h
    by_cases hx : x = g
    · subst hx; rw [List.find?_cons, (hP x).2 rfl]
    · rw [List.find?_cons]
      have : P x = false := by cases hh : P x with
        | false => rfl
        | true => exact absurd ((hP x).1 hh) hx
      rw [this]; exact ih (by cases h with
        | head => exact absurd rfl hx
        | tail _ h => exact h)

end Sys2Proof.Machine
end

