-- ==== Sys2Proof/Laws/FactsGraphs.lean ====
section
/-! SUPPORT. Lemmas about the shared operations behind the commands of one family (graphs). -/

namespace Sys2Proof.Machine

theorem State.releaseHeld_id {s : State} (h : ∀ e k, s.chState e k ≠ CH.HOLDING) : s.releaseHeld = s := by
  unfold State.releaseHeld
  refine State.each_keeps (P := fun u => u = s) (fun u e hu => ?_) rfl
  refine State.each_keeps (P := fun u => u = s) (fun v k hv => ?_) hu
  rw [hv, if_neg (fun hh => h e k hh.1)]
theorem State.showCatalogue_is (s : State) : ObjFrame s s.showCatalogue ∧ s.showCatalogue.reply = s.reply ∧ OnlyObjs s s.showCatalogue [R.CATALOGUE_VERSION, R.KERNEL_COUNT] := by
  unfold State.showCatalogue; dsimp only
  split
  · exact ⟨(ObjFrame.setO _ _ _).trans (ObjFrame.setO _ _ _), rfl, ((OnlyObjs.refl s _).setO (by simp) _).setO (by simp) _⟩
  · exact ⟨rfl, rfl, OnlyObjs.refl s _⟩
theorem keyBench_cat (n : Bench) {o : Nat} (ho : o < 256) : keyBench n.val o ∉ [R.CATALOGUE_VERSION, R.KERNEL_COUNT] := by
  have := n.isLt
  simp only [List.mem_cons, List.not_mem_nil, or_false, not_or, keyBench, key, R.CATALOGUE_VERSION, R.KERNEL_COUNT]; omega
theorem State.setBench_is (s : State) (n : Bench) (st : Nat) : (s.setBench n st).benchState n = st ∧ ObjFrame s (s.setBench n st) ∧
    (s.setBench n st).reply = s.reply ∧
    OnlyObjs s (s.setBench n st) [keyBench n.val RBench.BENCH_STATE, R.CATALOGUE_VERSION, R.KERNEL_COUNT] := by
  unfold State.setBench
  obtain ⟨h1, h2, h3⟩ := (s.setO (keyBench n.val RBench.BENCH_STATE) st).showCatalogue_is
  refine ⟨?_, (ObjFrame.setO _ _ _).trans h1, h2, fun k hk => ?_⟩
  · unfold State.benchState; rw [h3 _ (keyBench_cat n (by decide)), State.getO_setO_same]
  · rw [h3 k (fun hh => hk (List.mem_cons_of_mem _ hh))]
    exact State.getO_setO_ne _ (fun e => hk (by rw [e]; exact List.mem_cons_self ..)) _
/-- The row of USER_FLAGS. -/
def flagsRow : Row := ⟨0x3042, 0x100, 16, 1, 0x9, 0x9, 4, 1, 0x0, 0, 4294967295, 0, 1, false, false, true, false⟩
theorem ok_of_toOption {ε α : Type} {x : Except ε α} {a : α} (h : x.toOption = some a) : x = .ok a := by
  cases x with
  | error e => cases h
  | ok v => cases h; rfl
set_option maxRecDepth 20000 in
theorem findIn_flags : ∀ b : Bay, findIn 0x31 (0x3042 + b.val * 256) 9 = .ok flagsRow := by
  have h : ∀ b : Bay, (findIn 0x31 (0x3042 + b.val * 256) 9).toOption = some flagsRow := by decide
  exact fun b => ok_of_toOption (h b)
theorem addrOf_flags : ∀ b : Bay, (addrOf (keyB b RBay.USER_FLAGS)).index.toNat = 0x3042 + b.val * 256 ∧ (addrOf (keyB b RBay.USER_FLAGS)).sub.toNat = 9 := by decide
theorem discard_gen : ∀ (l : List Token) (s : State), ∃ ob bf, s.discard l = { s with objs := ob, bufs := bf } ∧ ∀ k, k % 256 ≠ 0x13 → (s.discard l).getO k = s.getO k := by
  intro l
  induction l with
  | nil => intro s; exact ⟨s.objs, s.bufs, rfl, fun _ _ => rfl⟩
  | cons x l ih =>
    intro s
    obtain ⟨ob, bf, h1, h2⟩ : ∃ ob bf, ((if x.buf then s.dropRef x.graph x.value else s).addG x.graph RGraph.DISCARDED_OPERANDS 1) = { s with objs := ob, bufs := bf } ∧
        ∀ k, k % 256 ≠ 0x13 → ((if x.buf then s.dropRef x.graph x.value else s).addG x.graph RGraph.DISCARDED_OPERANDS 1).getO k = s.getO k := by
      have hk : ∀ k, k % 256 ≠ 0x13 → k ≠ keyG x.graph RGraph.DISCARDED_OPERANDS := fun k hk => by simp only [keyG, key, RGraph.DISCARDED_OPERANDS]; omega
      cases x.buf with
      | true => exact ⟨_, _, rfl, fun k h => (State.getO_setO_ne _ (hk k h) _).trans rfl⟩
      | false => exact ⟨_, _, rfl, fun k h => (State.getO_setO_ne _ (hk k h) _).trans rfl⟩
    have e : s.discard (x :: l) = ((if x.buf then s.dropRef x.graph x.value else s).addG x.graph RGraph.DISCARDED_OPERANDS 1).discard l := rfl
    rw [e]
    obtain ⟨ob2, bf2, h3, h4⟩ := ih ((if x.buf then s.dropRef x.graph x.value else s).addG x.graph RGraph.DISCARDED_OPERANDS 1)
    refine ⟨ob2, bf2, ?_, fun k hk => (h4 k hk).trans (h2 k hk)⟩
    rw [h3, h1]
theorem each_benches {α : Type} {f : State → α → State} (h : ∀ u a, ∃ be, f u a = { u with benches := be }) : ∀ (l : List α) (s : State), ∃ be, s.each l f = { s with benches := be } := by
  intro l
  induction l with
  | nil => intro s; exact ⟨s.benches, rfl⟩
  | cons a l ih =>
    intro s
    obtain ⟨b1, h1⟩ := h s a
    obtain ⟨b2, h2⟩ := ih (f s a)
    exact ⟨b2, by rw [State.each_cons, h2, h1]⟩
theorem State.purge_is (s : State) (g : Nat) (keep timer : Nat → Bool) : ∃ ob bf be de, s.purge g keep timer = { s with
      objs := ob, bufs := bf, benches := be, delays := de, store := s.store.filter (fun t => !(t.graph == g && !keep t.node)),
      waiting := s.waiting.filter (fun w => !(w.graph == g && !keep w.node)) } ∧ ∀ k, k % 256 ≠ 0x13 → (s.purge g keep timer).getO k = s.getO k := by
  unfold State.purge
  extract_lets out outW outD gone nd s1 s2
  obtain ⟨be, hb⟩ : ∃ be, s2 = { s1 with benches := be } := each_benches (fun u a => ⟨_, rfl⟩) _ s1
  obtain ⟨ob, bf, h1, h2⟩ := discard_gen gone s2
  generalize hx : s2.discard gone = x at *
  refine ⟨(x.addG g RGraph.DISCARDED_OPERANDS nd).objs, bf, be, s1.delays, ?_, fun k hk => ?_⟩
  · rw [h1, hb]; rfl
  · refine (State.getO_setO_ne _ ?_ _).trans ((h2 k hk).trans ?_)
    · simp only [keyG, key, RGraph.DISCARDED_OPERANDS]; omega
    · rw [hb]; rfl
theorem enterDelay_is {s t : State} {i : Fin 4} {e : DelayEntry} (h : s.enterDelay i e = some t) : ∃ de n, t = { s with delays := de, delayNo := n } := by
  unfold State.enterDelay at h
  split at h
  · exact ⟨_, _, (Option.some.inj h).symm⟩
  · cases h
theorem startBind_keeps (s : State) (g i : Nat) (k : Nat) (h : k ≠ R.LIST_FULL_COUNT) : (s.startBind g i).getO k = s.getO k := by
  unfold State.startBind; dsimp only
  split
  · split
    · rename_i t ht
      obtain ⟨de, n, hd⟩ := enterDelay_is ht
      rw [hd]; rfl
    · exact State.getO_setO_ne _ h _
  · rfl
theorem schedObj_dma (e : Engine) (k : Fin 8) : schedObj (keyDma e k RDma.CHAN_STATE) = false := by
  have := e.isLt; have := k.isLt
  simp only [schedObj, Bool.or_eq_false_iff, beq_eq_false_iff_ne, List.any_eq_false, List.mem_range, beq_iff_eq, keyG, keyDma, keyBench, key, R.STORE_USED, R.STORE_PEAK, R.PENDING_ITEMS, R.LIST_USED, RBench.READY_DEPTH, RGraph.POOL_FREE, RDma.CHAN_STATE] at *
  refine ⟨⟨⟨⟨⟨?_, ?_⟩, ?_⟩, ?_⟩, ?_⟩, ?_⟩ <;> intros <;> omega
theorem bindPending_event {s : State} {g i : Nat} (h1 : bnType (s.binding g i) = 2) (h2 : s.bindCount (s.binding g i) ≠ (s.bindU g i).seen) :
    s.bindPending g i = some (bindToken g (s.binding g i) (s.bindU g i).posts ((s.bindCount (s.binding g i) + 2 ^ 64 - (s.bindU g i).seen) % 2 ^ 64),
      { s.bindU g i with seen := s.bindCount (s.binding g i), posts := (s.bindU g i).posts + 1 }) := by
  unfold State.bindPending; dsimp only; rw [h1]
  show (if s.bindCount (s.binding g i) = (s.bindU g i).seen then none else _) = _
  rw [if_neg h2]
theorem ofBytes_toBytes : ∀ (n v : Nat), v < 256 ^ n → ofBytes (toBytes n v) = v := by
  intro n
  induction n with
  | zero => intro v h; have : v = 0 := by simpa using h
            rw [this]; rfl
  | succ n ih =>
    intro v h
    unfold toBytes ofBytes
    rw [ih _ (by rw [Nat.pow_succ] at h; omega), BitVec.toNat_ofNat]; omega
theorem flags_place : ∀ b : Bay, ownerBay (0x3042 + b.val * 256) = some b ∧ bayPlace (0x3042 + b.val * 256) 9 = RBay.USER_FLAGS ∧
    controlHeld (0x3042 + b.val * 256) 9 = false ∧ ¬ (0x3042 + b.val * 256 < 0x4000 ∧ 0xC0 ≤ (0x3042 + b.val * 256) % 256 ∧ (0x3042 + b.val * 256) % 256 < 0xE0) ∧
    ¬ 0xF000 ≤ 0x3042 + b.val * 256 ∧ 0x3042 + b.val * 256 < 0x4000 ∧ ownedDma (0x3042 + b.val * 256) = false := by decide
theorem toBytes4_len (v : Nat) : (toBytes 4 v).length = 4 := rfl
/-- A write of USER_FLAGS that passes its checks holds the value. -/
theorem State.writeObj_flags (s : State) (v : Via) (a : ObjAddr) (b : Bay) (imm : Nat) (m : Sample) (hv : v.view = 0x31) (hr : 1 ≤ v.role)
    (ha : a.index.toNat = 0x3042 + b.val * 256) (hs : a.sub.toNat = 9) (ho : s.operational = true) (hd : s.bayDown b = false) (hi : imm < 2 ^ 32) :
    s.writeObj v a (some 4) (s.getB b RBay.SITE_EPOCH) (toBytes 4 imm) m = (s.setB b RBay.USER_FLAGS imm).ok := by
  obtain ⟨p1, p2, p3, p4, p5, p6, p7⟩ := flags_place b
  have hof : ofBytes (toBytes 4 imm) = imm := ofBytes_toBytes 4 imm hi
  have c : s.common v a (some 4) (toBytes 4 imm) (fun r => !r.multi) = .go flagsRow := by
    unfold State.common; dsimp only
    rw [ha, hs, if_neg p5, hv, findIn_flags]; dsimp only
    have hans : s.answers (0x3042 + b.val * 256) flagsRow = true := by unfold State.answers; rw [ho]; rfl
    rw [if_neg (by rw [hans]; decide), if_neg, if_neg (by decide), if_neg]
    · have : flagsRow.inRange (toBytes 4 imm) = true := by
        unfold Row.inRange; rw [hof]
        show (((toBytes 4 imm).length == 4) && decide ((0 : Int) ≤ (imm : Int)) && decide ((imm : Int) ≤ 4294967295)) = true
        rw [toBytes4_len]; simp; omega
      rw [this]; decide
    · rintro (h | h | h | h | h)
      · revert h; decide
      · revert h; decide
      · have : flagsRow.writeRole = 1 := rfl
        omega
      · revert h; decide
      · rw [p7] at h; cases h
  have hq : s.islandDown (0x3042 + b.val * 256) 9 = false := by
    unfold State.islandDown; rw [p1]; dsimp only; rw [p3, if_neg p4, hd]; rfl
  have hv2 : s.verdict v a (some 4) (s.getB b RBay.SITE_EPOCH) (toBytes 4 imm) = .go flagsRow := by
    unfold State.verdict; dsimp only
    rw [c]; dsimp only; rw [ha, hs, p1]; dsimp only
    rw [p2, if_neg (fun h => absurd h.2 (by decide)), if_neg (by rw [hq]; decide), if_neg (by simp), if_neg (by rintro ⟨h, _⟩; revert h; decide), if_neg]
    unfold State.badValue; rw [p1]; dsimp only; rw [if_pos p6, p2]
    show ¬ (false = true); decide
  have hw : s.rwsVerdict v a (some 4) (s.getB b RBay.SITE_EPOCH) (toBytes 4 imm) = .go flagsRow := by
    unfold State.rwsVerdict; dsimp only; rw [hv2]; dsimp only
    rw [if_neg]; rintro ⟨h, _⟩; revert h; decide
  unfold State.writeObj; rw [hw]; dsimp only
  rw [if_neg (by decide)]
  unfold writeEffect; dsimp only; rw [ha, hs, p1]; dsimp only
  rw [if_pos p6, p2]
  unfold bayEffect; dsimp only
  rw [hof]; rfl
theorem pathWrite_flags (s : State) (b : Bay) (imm : Nat) (ho : s.operational = true) (hd : s.bayDown b = false) (hi : imm < 2 ^ 32) :
    ∃ f, s.pathWrite (addrOf (keyB b RBay.USER_FLAGS)) (some 4) (s.getB b RBay.SITE_EPOCH) (toBytes 4 imm) =
      (({ s with fresh := f } : State).setB b RBay.USER_FLAGS imm).ok := by
  refine ⟨s.fresh + 1, ?_⟩
  obtain ⟨e1, e2⟩ := addrOf_flags b
  have hp : onPath (addrOf (keyB b RBay.USER_FLAGS)) = true := by
    unfold onPath; rw [e1, e2, findIn_flags]; dsimp only
    have := b.isLt
    show (true && decide (0x3042 + b.val * 256 < 0xF000)) = true
    simp; omega
  unfold State.pathWrite
  rw [if_neg (by rw [hp]; decide)]
  exact State.writeObj_flags { s with fresh := s.fresh + 1 } pathVia _ b imm _ rfl (by decide) e1 e2 ho hd hi

end Sys2Proof.Machine
end

