-- ==== Sys2Proof/Laws/FactsDma.lean ====
section
/-! SUPPORT. Lemmas about the shared operations behind the commands of one family (dma). -/

namespace Sys2Proof.Machine

theorem State.pick_is (s : State) (e : Engine) : (∃ ob dl, s.pick e = { s with objs := ob, dmaLast := dl }) ∧
    ∀ j, j ≠ keyEng e REng.ACTIVE_CHANNEL → (s.pick e).getO j = s.getO j := by
  unfold State.pick
  split
  · exact ⟨⟨s.objs, s.dmaLast, rfl⟩, fun _ _ => rfl⟩
  · split
    · dsimp only
      split
      · exact ⟨⟨_, _, rfl⟩, fun j hj => State.getO_setO_ne _ hj _⟩
      · exact ⟨⟨_, _, rfl⟩, fun j hj => (State.getO_setO_ne _ hj _).trans rfl⟩
    · exact ⟨⟨s.objs, s.dmaLast, rfl⟩, fun _ _ => rfl⟩
theorem keyDma_inj {e : Engine} {k : Fin 8} {o p : Nat} : keyDma e k o = keyDma e k p ↔ o = p := by simp only [keyDma, key]; omega
theorem keyDma_eng {e f : Engine} {k : Fin 8} {o p : Nat} (ho : o < 256) (hp : p < 256) : keyDma e k o ≠ keyEng f p := by
  have := e.isLt; have := f.isLt; simp only [keyDma, keyEng, key]; omega
theorem State.leaves_is (s : State) (e : Engine) (k : Fin 8) (st : Nat) : (s.leaves e k st).chState e k = st ∧
    (∃ ob dl, s.leaves e k st = { s with objs := ob, dmaLast := dl }) ∧
    ∀ j, j ≠ keyEng e REng.ACTIVE_CHANNEL → j ≠ keyDma e k RDma.CHAN_STATE → (s.leaves e k st).getO j = s.getO j := by
  unfold State.leaves; dsimp only
  generalize hu : (if (s.setD e k RDma.CHAN_STATE st).serves_ e k then (s.setD e k RDma.CHAN_STATE st).setO (keyEng e REng.ACTIVE_CHANNEL) 0xFF else s.setD e k RDma.CHAN_STATE st) = u
  have h : (∃ ob, u = { s with objs := ob }) ∧ u.chState e k = st ∧ ∀ j, j ≠ keyEng e REng.ACTIVE_CHANNEL → j ≠ keyDma e k RDma.CHAN_STATE → u.getO j = s.getO j := by
    rw [← hu]; split
    · exact ⟨⟨_, rfl⟩, (State.getO_setO_ne _ (keyDma_eng (by decide) (by decide)) _).trans (State.getO_setO_same _ _ _),
        fun j h1 h2 => (State.getO_setO_ne _ h1 _).trans (State.getO_setO_ne _ h2 _)⟩
    · exact ⟨⟨_, rfl⟩, State.getO_setO_same _ _ _, fun j h1 h2 => State.getO_setO_ne _ h2 _⟩
  obtain ⟨⟨ob, h1⟩, h2, h3⟩ := h
  obtain ⟨⟨ob2, dl, q1⟩, q2⟩ := u.pick_is e
  refine ⟨(q2 _ (keyDma_eng (by decide) (by decide))).trans h2, ⟨ob2, dl, by rw [q1, h1]⟩, fun j h4 h5 => (q2 j h4).trans (h3 j h4 h5)⟩
theorem State.ready_is {s : State} {e : Engine} {k : Fin 8} (h : s.getD e k RDma.PAUSE ≠ 1) : (s.ready_ e k).chState e k = CH.RUNNING ∧
    (∃ ob dl, s.ready_ e k = { s with objs := ob, dmaLast := dl }) ∧
    ∀ j, j ≠ keyEng e REng.ACTIVE_CHANNEL → j ≠ keyDma e k RDma.CHAN_STATE → (s.ready_ e k).getO j = s.getO j := by
  unfold State.ready_; rw [if_neg h]
  obtain ⟨⟨ob2, dl, q1⟩, q2⟩ := (s.setD e k RDma.CHAN_STATE CH.RUNNING).pick_is e
  exact ⟨(q2 _ (keyDma_eng (by decide) (by decide))).trans (State.getO_setO_same _ _ _), ⟨ob2, dl, by rw [q1]; rfl⟩,
    fun j h4 h5 => (q2 j h4).trans (State.getO_setO_ne _ h5 _)⟩
theorem State.dma_modDma (s : State) (e : Engine) (k : Fin 8) (f : DmaU → DmaU) : (s.modDma e k f).dma e k = f (s.dma e k) := vget_set_same _ _ _
theorem State.dma_of {s t : State} (h : t.dmas = s.dmas) (e : Engine) (k : Fin 8) : t.dma e k = s.dma e k := by unfold State.dma; rw [h]
theorem State.halt_is (s : State) (e : Engine) (k : Fin 8) (err addr : Nat) : Halted s (s.halt e k err addr) e k err addr ∧
    (s.halt e k err addr).mem = s.mem ∧ (s.halt e k err addr).now = s.now := by
  unfold State.halt
  extract_lets s1 s2
  have f : ReportFrame (s1.modDma e k (fun u => { u with since := none })) (s2.fault (0x1B0 + e.val) 0x60 (k.val + err * 256)) :=
    (ReportFrame.event _ _ _).trans (ReportFrame.fault _ _ _ _)
  have hb := e.isLt
  have hk := k.isLt
  have g : ∀ j, j < 0xC00000 → (s2.fault (0x1B0 + e.val) 0x60 (k.val + err * 256)).getO j = s1.getO j := by
    intro j hj
    rw [State.getO_fault]
    exact State.getO_event _ _ (by omega) (eventObj_low hj)
  have kd : ∀ o, o < 256 → keyDma e k o < 0xC00000 := fun o ho => by simp only [keyDma, key]; omega
  have ke : ∀ o, o < 256 → keyEng e o < 0xC00000 := fun o ho => by simp only [keyEng, key]; omega
  have e1 : s1.getO (keyDma e k RDma.ERROR) = err := by
    simp only [s1]
    rw [show ∀ x : State, ∀ j, x.incO j = x.setO j (satAdd 32 (x.getO j) 1) from fun _ _ => rfl, State.getO_setO_ne _ (keyDma_eng (by decide) (by decide)),
      show ∀ x : State, ∀ y, (x.setD e k RDma.ERROR_ADDR y).getO (keyDma e k RDma.ERROR) = x.getO (keyDma e k RDma.ERROR) from fun x y => State.getO_setO_ne _ (by rw [Ne, keyDma_inj]; decide) _]
    exact State.getO_setO_same _ _ _
  have e2 : s1.getO (keyDma e k RDma.ERROR_ADDR) = addr := by
    simp only [s1]
    rw [show ∀ x : State, ∀ j, x.incO j = x.setO j (satAdd 32 (x.getO j) 1) from fun _ _ => rfl, State.getO_setO_ne _ (keyDma_eng (by decide) (by decide))]
    exact State.getO_setO_same _ _ _
  have e3 : s1.getO (keyEng e REng.HALTS) = satAdd 32 (s.getO (keyEng e REng.HALTS)) 1 := by
    simp only [s1]
    rw [show ∀ x : State, ∀ j, x.incO j = x.setO j (satAdd 32 (x.getO j) 1) from fun _ _ => rfl, State.getO_setO_same]
    congr 1
    exact (State.getO_setO_ne _ (Ne.symm (keyDma_eng (by decide) (by decide))) _).trans (State.getO_setO_ne _ (Ne.symm (keyDma_eng (by decide) (by decide))) _)
  have m1 : (s2.fault (0x1B0 + e.val) 0x60 (k.val + err * 256)).mem = s.mem := by unfold ReportFrame at f; rw [f]; rfl
  have n1 : (s2.fault (0x1B0 + e.val) 0x60 (k.val + err * 256)).now = s.now := by unfold ReportFrame at f; rw [f]; rfl
  clear f
  generalize s2.fault (0x1B0 + e.val) 0x60 (k.val + err * 256) = v at *
  obtain ⟨q1, ⟨ob, dl, q2⟩, q3⟩ := v.leaves_is e k CH.HALTED
  refine ⟨⟨q1, ?_, ?_, ?_⟩, by rw [q2]; exact m1, by rw [q2]; exact n1⟩
  · exact (q3 _ (keyDma_eng (by decide) (by decide)) (by rw [Ne, keyDma_inj]; decide)).trans ((g _ (kd _ (by decide))).trans e1)
  · exact (q3 _ (keyDma_eng (by decide) (by decide)) (by rw [Ne, keyDma_inj]; decide)).trans ((g _ (kd _ (by decide))).trans e2)
  · exact (q3 _ (by simp only [keyEng, key, REng.HALTS, REng.ACTIVE_CHANNEL]; omega) (Ne.symm (keyDma_eng (by decide) (by decide)))).trans ((g _ (ke _ (by decide))).trans e3)
theorem Halted.from {s u t : State} {e : Engine} {k : Fin 8} {err a : Nat} (h : Halted u t e k err a)
    (hu : u.getO (keyEng e REng.HALTS) = s.getO (keyEng e REng.HALTS)) : Halted s t e k err a := by
  obtain ⟨h1, h2, h3, h4⟩ := h; exact ⟨h1, h2, h3, by rw [h4, hu]⟩
/-- A descriptor of a list channel that ends its chain, posts no word and has a memory destination. -/
theorem State.descEnds_end {s : State} {e : Engine} {k : Fin 8} {d st : Nat} (hp : isProg k = false) (hd : (s.dma e k).desc = some d)
    (h1 : d.testBit 428 = false) (h2 : d.testBit 426 = true) (h3 : dPort d true = 0) :
    (s.descEnds e k d st).chState e k = CH.IDLE ∧ (s.descEnds e k d st).getD e k RDma.DESC_DONE = (s.getD e k RDma.DESC_DONE + 1) % 2 ^ 64 ∧
    (s.descEnds e k d st).mem = s.mem := by
  unfold State.descEnds
  extract_lets s1 v q s3 r s4 s5
  have r0 : r = (s3, false) := if_neg (by rw [h1]; decide)
  have r1 : s3 = v := if_neg (fun hh => hh.1 h3)
  rw [if_neg (by rw [r0]; simp)]
  have r2 : s5 = (if v.serves_ e k = true then v.setO (keyEng e REng.ACTIVE_CHANNEL) 0xFF else v) := by
    simp only [s5, s4]; rw [r0, r1]
  rw [r2]
  have hv : v = v := rfl
  clear_value r s3
  clear r0 r1 r2
  have v1 : (v.dma e k).desc = some d := by simp only [v]; rw [State.dma_modDma]; exact hd
  have v2 : v.getD e k RDma.DESC_DONE = (s.getD e k RDma.DESC_DONE + 1) % 2 ^ 64 := State.getO_setO_same _ _ _
  have v3 : v.mem = s.mem := rfl
  clear_value v
  clear hv
  generalize hw : (if v.serves_ e k = true then v.setO (keyEng e REng.ACTIVE_CHANNEL) 0xFF else v) = w
  have w1 : (w.dma e k).desc = some d ∧ w.getD e k RDma.DESC_DONE = (s.getD e k RDma.DESC_DONE + 1) % 2 ^ 64 ∧ w.mem = s.mem := by
    rw [← hw]; split
    · exact ⟨v1, (State.getO_setO_ne _ (keyDma_eng (by decide) (by decide)) _).trans v2, v3⟩
    · exact ⟨v1, v2, v3⟩
  clear hw
  have f1 : ∃ y, w.follow e k = State.leaves y e k CH.IDLE ∧ y.getD e k RDma.DESC_DONE = w.getD e k RDma.DESC_DONE ∧ y.mem = w.mem := by
    unfold State.follow; dsimp only
    rw [if_neg (by rw [hp]; decide), w1.1]; dsimp only
    rw [if_pos h2]
    refine ⟨_, rfl, ?_, ?_⟩
    · refine (State.getO_event _ _ ?_ (eventObj_low ?_)).trans rfl
      · have := e.isLt; have := k.isLt; omega
      · have := e.isLt; have := k.isLt; simp only [keyDma, key, RDma.DESC_DONE]; omega
    · have f := ReportFrame.event (w.modDma e k (fun u => { u with desc := none, pos := 0, ended := false })) (1952 + 8 * e.val + k.val) ((w.modDma e k (fun u => { u with desc := none, pos := 0, ended := false })).getD e k RDma.HOPS)
      unfold ReportFrame at f; rw [f]; rfl
  obtain ⟨y, y1, y2, y3⟩ := f1
  rw [y1]
  obtain ⟨q1, ⟨ob, dl, q2⟩, q3⟩ := y.leaves_is e k CH.IDLE
  generalize y.leaves e k CH.IDLE = x at *
  obtain ⟨⟨ob2, dl2, p1⟩, p2⟩ := x.pick_is e
  refine ⟨(p2 _ (keyDma_eng (by decide) (by decide))).trans q1, ?_, by rw [p1, q2]; exact y3.trans w1.2.2⟩
  exact (p2 _ (keyDma_eng (by decide) (by decide))).trans ((q3 _ (keyDma_eng (by decide) (by decide)) (by rw [Ne, keyDma_inj]; decide)).trans (y2.trans w1.2.1))
theorem keyPc_mod {pc o j : Nat} (h : j % 256 ≠ o % 256) : j ≠ keyPc pc o := by simp only [keyPc, key]; omega
theorem State.readAnswer_of {s t : State} (h : ∀ pc, t.getO (keyPc pc RPc.PC_STATE) = s.getO (keyPc pc RPc.PC_STATE)) (a n : Nat) :
    t.readAnswer a n = s.readAnswer a n := by
  have : t.spanDown a n = s.spanDown a n := by
    unfold State.spanDown State.pcDown State.pcState; simp only [h]
  unfold State.readAnswer; rw [this]
theorem showPos_is (s : State) (e : Engine) (k : Fin 8) (d n : Nat) : (∃ ob, s.showPos e k d n = { s with objs := ob }) ∧
    ∀ j, j ≠ keyDma e k RDma.CUR_SRC → j ≠ keyDma e k RDma.CUR_DST → j ≠ keyDma e k RDma.CUR_INDEX → (s.showPos e k d n).getO j = s.getO j :=
  ⟨⟨_, rfl⟩, fun j h1 h2 h3 => (State.getO_setO_ne _ h3 _).trans ((State.getO_setO_ne _ h2 _).trans (State.getO_setO_ne _ h1 _))⟩
theorem each_tags {α : Type} {f : State → α → State} (h : ∀ u a, ∃ tg, f u a = { u with tags := tg }) : ∀ (l : List α) (s : State), ∃ tg, s.each l f = { s with tags := tg } := by
  intro l
  induction l with
  | nil => intro s; exact ⟨s.tags, rfl⟩
  | cons a l ih =>
    intro s
    obtain ⟨b1, h1⟩ := h s a
    obtain ⟨b2, h2⟩ := ih (f s a)
    exact ⟨b2, by rw [State.each_cons, h2, h1]⟩
theorem putMem_is (s : State) (a : Nat) (data : Bytes) (tag : Nat) : ∃ tg, s.putMem a data tag = { s with mem := memWrite s.mem a data, tags := tg } := by
  unfold State.putMem; dsimp only
  split
  · generalize hv : ({ s with mem := memWrite s.mem a data } : State) = v
    obtain ⟨tg, h⟩ := each_tags (f := fun s x => { s with tags := s.tags.set (x / 64) tag }) (fun u a => ⟨_, rfl⟩) (blocksOf a data.length) v
    exact ⟨tg, by rw [h, ← hv]⟩
  · exact ⟨s.tags, rfl⟩
theorem moveBytes_is (e : Engine) (k : Fin 8) (d : Nat) : ∀ (l : Bytes) (s : State) (n : Nat),
    (∃ m tg, (s.moveBytes e k d n l).1 = { s with mem := m, tags := tg }) := by
  intro l
  induction l with
  | nil => intro s n; exact ⟨s.mem, s.tags, rfl⟩
  | cons b l ih =>
    intro s n
    unfold State.moveBytes; dsimp only
    split
    · exact ⟨s.mem, s.tags, rfl⟩
    · generalize dByte d true (dIndex d n) = a
      obtain ⟨tg, hp⟩ := putMem_is s a [b] (s.dmaTag d)
      obtain ⟨m2, tg2, h2⟩ := ih (s.putMem a [b] (s.dmaTag d)) (n + 1)
      exact ⟨m2, tg2, by rw [h2, hp]⟩
theorem getO_modDma (s : State) (e : Engine) (k : Fin 8) (f : DmaU → DmaU) (j : Nat) : (s.modDma e k f).getO j = s.getO j := rfl
theorem moved_form (s : State) (e : Engine) (k : Fin 8) (d n m : Nat) : s.moved e k d n m =
    (((s.setD e k RDma.BYTES_DONE ((s.getD e k RDma.BYTES_DONE + (m - n)) % 2 ^ 64)).setO (keyEng e REng.BYTES_MOVED)
      (((s.setD e k RDma.BYTES_DONE ((s.getD e k RDma.BYTES_DONE + (m - n)) % 2 ^ 64)).getO (keyEng e REng.BYTES_MOVED) + (m - n)) % 2 ^ 64)).modDma e k
        (fun u => { u with pos := m, since := none })).showPos e k d (min m (dBytes d - 1)) := rfl
theorem moved_is (s : State) (e : Engine) (k : Fin 8) (d n m : Nat) : ((s.moved e k d n m).mem = s.mem ∧ (s.moved e k d n m).tags = s.tags) ∧
    ((s.moved e k d n m).dma e k).pos = m ∧ (s.moved e k d n m).chState e k = s.chState e k ∧
    (s.moved e k d n m).getD e k RDma.BYTES_DONE = (s.getD e k RDma.BYTES_DONE + (m - n)) % 2 ^ 64 := by
  rw [moved_form]
  generalize (s.getD e k RDma.BYTES_DONE + (m - n)) % 2 ^ 64 = x
  generalize ((s.setD e k RDma.BYTES_DONE x).getO (keyEng e REng.BYTES_MOVED) + (m - n)) % 2 ^ 64 = y
  generalize min m (dBytes d - 1) = z
  generalize hv : ((s.setD e k RDma.BYTES_DONE x).setO (keyEng e REng.BYTES_MOVED) y).modDma e k (fun u => { u with pos := m, since := none }) = v
  have v1 : v.mem = s.mem ∧ v.tags = s.tags := by rw [← hv]; exact ⟨rfl, rfl⟩
  have v2 : (v.dma e k).pos = m := by rw [← hv, State.dma_modDma]
  have v3 : v.getO (keyDma e k RDma.CHAN_STATE) = s.getO (keyDma e k RDma.CHAN_STATE) := by
    rw [← hv, getO_modDma, State.getO_setO_ne _ (keyDma_eng (by decide) (by decide))]
    exact State.getO_setO_ne _ (by rw [Ne, keyDma_inj]; decide) _
  have v4 : v.getO (keyDma e k RDma.BYTES_DONE) = x := by
    rw [← hv, getO_modDma, State.getO_setO_ne _ (keyDma_eng (by decide) (by decide))]
    exact State.getO_setO_same _ _ _
  clear hv
  obtain ⟨⟨ob, q1⟩, q2⟩ := showPos_is v e k d z
  have q3 := q2 (keyDma e k RDma.CHAN_STATE) (by rw [Ne, keyDma_inj]; decide) (by rw [Ne, keyDma_inj]; decide) (by rw [Ne, keyDma_inj]; decide)
  have q4 := q2 (keyDma e k RDma.BYTES_DONE) (by rw [Ne, keyDma_inj]; decide) (by rw [Ne, keyDma_inj]; decide) (by rw [Ne, keyDma_inj]; decide)
  have q5 : (v.showPos e k d z).mem = v.mem ∧ (v.showPos e k d z).tags = v.tags ∧ (v.showPos e k d z).dmas = v.dmas := by rw [q1]; exact ⟨rfl, rfl, rfl⟩
  clear q1 q2
  generalize v.showPos e k d z = w at *
  exact ⟨⟨q5.1.trans v1.1, q5.2.1.trans v1.2⟩, by rw [State.dma_of q5.2.2]; exact v2, q3.trans v3, q4.trans v4⟩
theorem chanStart_sets (s : State) (e : Engine) (k : Fin 8) : ∃ v : State, (
    let s := s.each [RDma.ERROR, RDma.ERROR_ADDR, RDma.DESC_DONE, RDma.BYTES_DONE, RDma.REVERSED] (fun s o => s.setD e k o 0)
    let s := (s.setD e k RDma.HOPS (if isProg k then 0 else 1)).setD e k RDma.CUR_DESC (s.getD e k RDma.CHAIN_HEAD)
    let s := s.modDma e k (fun _ => { fetch := !isProg k })
    (s.ready_ e k).ok) = (v.ready_ e k).ok ∧
    (v.getD e k RDma.CUR_DESC = s.getD e k RDma.CHAIN_HEAD ∧ v.getD e k RDma.ERROR = 0 ∧ v.getD e k RDma.DESC_DONE = 0 ∧ v.getD e k RDma.BYTES_DONE = 0 ∧
      v.getD e k RDma.HOPS = (if isProg k then 0 else 1)) ∧ (v.dma e k).fetch = !isProg k ∧ v.mem = s.mem ∧
    ∀ o, o < 7 → o ≠ RDma.CHAN_STATE → o < 256 → v.getO (keyDma e k o) = s.getO (keyDma e k o) := by
  have n : ∀ o p : Nat, o ≠ p → keyDma e k o ≠ keyDma e k p := fun o p h => by rw [Ne, keyDma_inj]; exact h
  generalize hs1 : s.each [RDma.ERROR, RDma.ERROR_ADDR, RDma.DESC_DONE, RDma.BYTES_DONE, RDma.REVERSED] (fun s o => s.setD e k o 0) = s1
  have z : ∀ o, o ∈ [RDma.ERROR, RDma.ERROR_ADDR, RDma.DESC_DONE, RDma.BYTES_DONE, RDma.REVERSED] → s1.getO (keyDma e k o) = 0 := by
    intro o ho; rw [← hs1]
    refine State.each_sets (P := fun u => u.getO (keyDma e k o) = 0) o ho (fun u => State.getO_setO_same _ _ _) (fun u a hu => ?_) s
    by_cases h : a = o
    · rw [h]; exact State.getO_setO_same _ _ _
    · exact (State.getO_setO_ne _ (n _ _ (Ne.symm h)) _).trans hu
  have z2 : ∀ o, o ∉ [RDma.ERROR, RDma.ERROR_ADDR, RDma.DESC_DONE, RDma.BYTES_DONE, RDma.REVERSED] → s1.getO (keyDma e k o) = s.getO (keyDma e k o) := by
    intro o ho; rw [← hs1]
    exact State.getO_each (fun u a ha => State.getO_setO_ne _ (n _ _ (by intro e; subst e; exact ho ha)) _) s
  have z3 : s1.mem = s.mem := by rw [← hs1]; rfl
  clear hs1
  dsimp only
  refine ⟨((s1.setD e k RDma.HOPS (if isProg k then 0 else 1)).setD e k RDma.CUR_DESC (s1.getD e k RDma.CHAIN_HEAD)).modDma e k (fun _ => { fetch := !isProg k }), rfl, ⟨?_, ?_, ?_, ?_, ?_⟩, ?_, z3, ?_⟩
  · exact (State.getO_setO_same _ _ _).trans (z2 _ (by decide))
  · exact (State.getO_setO_ne _ (n _ _ (by decide)) _).trans ((State.getO_setO_ne _ (n _ _ (by decide)) _).trans (z _ (by decide)))
  · exact (State.getO_setO_ne _ (n _ _ (by decide)) _).trans ((State.getO_setO_ne _ (n _ _ (by decide)) _).trans (z _ (by decide)))
  · exact (State.getO_setO_ne _ (n _ _ (by decide)) _).trans ((State.getO_setO_ne _ (n _ _ (by decide)) _).trans (z _ (by decide)))
  · exact (State.getO_setO_ne _ (n _ _ (by decide)) _).trans (State.getO_setO_same _ _ _)
  · rw [State.dma_modDma]
  · intro o ho h1 h2
    refine (State.getO_setO_ne _ (n _ _ (by simp only [RDma.CUR_DESC]; omega)) _).trans ((State.getO_setO_ne _ (n _ _ (by simp only [RDma.HOPS]; omega)) _).trans (z2 _ ?_))
    simp only [List.mem_cons, List.not_mem_nil, or_false, RDma.ERROR, RDma.ERROR_ADDR, RDma.DESC_DONE, RDma.BYTES_DONE, RDma.REVERSED]; omega

end Sys2Proof.Machine
end

