-- ==== Sys2Proof/Laws/FactsProg.lean ====
section
/-! SUPPORT. Lemmas about the shared operations behind the commands of one family (prog). -/

namespace Sys2Proof.Machine

theorem readAnswer_curDesc (s : State) (e : Engine) (k : Fin 8) (v a n : Nat) : (s.setD e k RDma.CUR_DESC v).readAnswer a n = s.readAnswer a n :=
  State.readAnswer_of (fun pc => State.getO_setO_ne _ (by simp only [keyPc, keyDma, key, RPc.PC_STATE, RDma.CUR_DESC]; omega) _) a n
theorem checkBlock_is (s : State) (a : Nat) (ecc : Ecc) : (s.checkBlock a ecc).mem = s.mem ∧ (s.checkBlock a ecc).dmas = s.dmas ∧
    (s.checkBlock a ecc).now = s.now := by
  have q := (State.checkBlock_kept (m := 33980428) (x_a := a) (x_a2 := ecc) (by decide) (Kept.refl s)).parts
  exact ⟨q .memory (by decide), congrArg (fun x => x.1) (q .dma (by decide)), q .clock (by decide)⟩
theorem fetchedBy_is (s : State) (e : Engine) (k : Fin 2) (ecc : Ecc) : (s.fetchedBy e k ecc).mem = s.mem ∧ (s.fetchedBy e k ecc).dmas = s.dmas ∧
    (s.fetchedBy e k ecc).now = s.now := by
  unfold State.fetchedBy; dsimp only
  split
  · exact checkBlock_is _ _ _
  · exact ⟨rfl, rfl, rfl⟩
theorem progRun_at {s : State} {e : Engine} {k : Fin 2} {ecc : Ecc} {op i : Nat} (h : AtInstr s e k ecc op i) (f : Nat → State → State) :
    s.progRun e k op ecc f = f i (s.fetchedBy e k ecc) := by
  obtain ⟨h1, h2, h3, h4, h5, hg, h6, h7, h8⟩ := h
  have e1 := (fetchedBy_is s e k ecc).1
  unfold State.progRun
  extract_lets k8 u a s1 s2 w o
  have e2 : s2 = s.fetchedBy e k ecc := rfl
  rw [if_neg (by simp only [k8, u]; rw [show s.serves_ e ⟨k.val, by omega⟩ = true from h1, show s.chState e ⟨k.val, by omega⟩ = CH.RUNNING from h2,
    show (s.dma e ⟨k.val, by omega⟩).desc = none from h3.1, show (s.dma e ⟨k.val, by omega⟩).fetch = false from h3.2]; simp)]
  rw [if_neg (show ¬ 4096 ≤ u.pc from Nat.not_le.mpr h4)]
  rw [if_neg (show ¬ s1.readAnswer a 16 ≠ MR.OK from fun x => x ((readAnswer_curDesc _ _ _ _ _ _).trans h5))]
  rw [if_neg (show ¬ (windowOf a = 1 ∧ ecc = .uncorrectable) from fun x => hg x.1 x.2)]
  have e3 : w = i := by simp only [w]; rw [e2, e1]; exact h6
  have e4 : o = op := by simp only [o]; rw [e3]; exact h7
  clear_value s2 w
  subst e2 e3
  rw [if_neg (by rw [e4]; omega), if_pos e4]
/-- What a program step starts from: CUR_DESC names the instruction. -/
theorem atInstr_start (s : State) (e : Engine) (k : Fin 8) (a : Nat) : (s.setD e k RDma.CUR_DESC a).dmas = s.dmas ∧ (s.setD e k RDma.CUR_DESC a).mem = s.mem ∧
    (s.setD e k RDma.CUR_DESC a).now = s.now ∧ ∀ j, j ≠ keyDma e k RDma.CUR_DESC → (s.setD e k RDma.CUR_DESC a).getO j = s.getO j :=
  ⟨rfl, rfl, rfl, fun j hj => State.getO_setO_ne _ hj _⟩
theorem progAwake_is {s : State} {e : Engine} {k : Fin 2} (h : s.getD e (progChan k) RDma.PAUSE ≠ 1) : (s.progAwake e k).chState e (progChan k) = CH.RUNNING ∧
    ((s.progAwake e k).dma e (progChan k)).wait = none ∧ ((s.progAwake e k).dma e (progChan k)).pc = (s.dma e (progChan k)).pc + 1 := by
  unfold State.progAwake
  generalize hv : State.progNext _ e k = v
  have v1 : v.dma e (progChan k) = { s.dma e (progChan k) with wait := none, pc := (s.dma e (progChan k)).pc + 1 } := by
    rw [← hv]; unfold State.progNext State.progTo; rw [State.dma_modDma, State.dma_modDma]
  have v2 : v.getD e (progChan k) RDma.PAUSE ≠ 1 := by rw [← hv]; exact h
  clear hv
  obtain ⟨q1, ⟨ob, dl, q2⟩, _⟩ := State.ready_is v2
  have q3 : (v.ready_ e (progChan k)).dma e (progChan k) = v.dma e (progChan k) := State.dma_of (by rw [q2]) _ _
  clear q2
  generalize v.ready_ e (progChan k) = x at *
  rw [q3, v1]
  exact ⟨q1, rfl, rfl⟩
theorem progWait_is (s : State) (e : Engine) (k : Fin 2) (w : DmaWait) : (s.progWait e k w).chState e (progChan k) = CH.WAITING ∧
    ((s.progWait e k w).dma e (progChan k)).wait = some w ∧ ((s.progWait e k w).dma e (progChan k)).pc = (s.dma e (progChan k)).pc ∧
    ((s.progWait e k w).dma e (progChan k)).waitDue = s.now + s.getD e (progChan k) RDma.WAIT_LIMIT * 1000000000 := by
  unfold State.progWait; dsimp only
  generalize s.now + s.getD e (progChan k) RDma.WAIT_LIMIT * 1000000000 = d
  generalize hv : State.modDma s e (progChan k) _ = v
  have v1 : v.dma e (progChan k) = { s.dma e (progChan k) with wait := some w, waitDue := d } := by rw [← hv, State.dma_modDma]
  clear hv
  obtain ⟨q1, ⟨ob, dl, q2⟩, _⟩ := v.leaves_is e (progChan k) CH.WAITING
  have q3 : (v.leaves e (progChan k) CH.WAITING).dma e (progChan k) = v.dma e (progChan k) := State.dma_of (by rw [q2]) _ _
  clear q2
  generalize v.leaves e (progChan k) CH.WAITING = x at *
  rw [q3, v1]
  exact ⟨q1, rfl, rfl, rfl⟩
theorem writeAnswer_curDesc (s : State) (e : Engine) (k : Fin 8) (v : Nat) (w : Writer) (a n : Nat) (hw : ∀ st, w ≠ .link st) (hb : ∀ g, w ≠ .bench g) :
    (s.setD e k RDma.CUR_DESC v).writeAnswer w a n = s.writeAnswer w a n := by
  have h1 : ∀ j, j % 256 ≠ 9 → (s.setD e k RDma.CUR_DESC v).getO j = s.getO j := fun j hj => State.getO_setO_ne _ (by simp only [keyDma, key, RDma.CUR_DESC]; omega) _
  have h2 : (s.setD e k RDma.CUR_DESC v).spanDown a n = s.spanDown a n := by
    unfold State.spanDown State.pcDown State.pcState
    have : ∀ pc, (s.setD e k RDma.CUR_DESC v).getO (keyPc pc RPc.PC_STATE) = s.getO (keyPc pc RPc.PC_STATE) := fun pc => h1 _ (by simp only [keyPc, key, RPc.PC_STATE]; omega)
    simp only [this]
  have h3 : ∀ x, (s.setD e k RDma.CUR_DESC v).regionOf x = s.regionOf x := by
    intro x; unfold State.regionOf; rw [h1 _ (by decide), h1 _ (by decide)]
  have h4 : (s.setD e k RDma.CUR_DESC v).lockedRange a n = s.lockedRange a n := rfl
  have h5 : ∀ st, (s.setD e k RDma.CUR_DESC v).inStage a n st = s.inStage a n st := by
    intro st; unfold State.inStage
    have : ∀ b : Bay, ∀ o, (keyB b o) < 0x400000 → (s.setD e k RDma.CUR_DESC v).getB b o = s.getB b o := fun b o ho =>
      State.getO_setO_ne _ (by simp only [keyDma, key]; omega) _
    simp only [fun b => this b RBay.STAGE_BASE (keyB_low (by decide)), fun b => this b RBay.STAGE_SIZE (keyB_low (by decide)), fun b => this b RBay.STAGE_STREAM (keyB_low (by decide))]
  have h6 : ∀ g, (s.setD e k RDma.CUR_DESC v).inPool a n g = s.inPool a n g := by
    intro g; unfold State.inPool
    have : ∀ o, o % 256 ≠ 9 → (s.setD e k RDma.CUR_DESC v).getG g o = s.getG g o := fun o ho => h1 _ (by simp only [keyG, key]; omega)
    rw [this _ (by decide), this _ (by decide)]
  unfold State.writeAnswer
  rw [h2]
  cases w with
  | link st => exact absurd rfl (hw st)
  | bench g => exact absurd rfl (hb g)
  | _ => unfold State.admits State.locksOut; simp only [h3, h4, h5, h6]
theorem dmaBindings_curDesc (s : State) (e : Engine) (k : Fin 8) (f : Engine) (l : Fin 8) (v : Nat) :
    (s.setD e k RDma.CUR_DESC v).dmaBindings f l = s.dmaBindings f l := by
  unfold State.dmaBindings
  have h1 : ∀ g, (s.setD e k RDma.CUR_DESC v).getG g RGraph.GRAPH_STATE = s.getG g RGraph.GRAPH_STATE := fun g =>
    State.getO_setO_ne _ (by simp only [keyG, keyDma, key, RDma.CUR_DESC, RGraph.GRAPH_STATE]; omega) _
  simp only [h1]
  rfl
theorem State.count_event (s : State) (n d : Nat) :
    (s.event n d).getO (key (0xC400 + n) RSrc.COUNT) = (s.getO (key (0xC400 + n) RSrc.COUNT) + 1) % 2 ^ 64 ∧
    (s.event n d).getO (key (0xC400 + n) RSrc.LAST_DETAIL) = d % 2 ^ 32 := by
  unfold State.event
  generalize d % 2 ^ 32 = d
  generalize s.netTime = t
  have h1 : ∀ u : State, ∀ o, o = RSrc.COUNT ∨ o = RSrc.LAST_DETAIL → (u.eventLog n t d).getO (key (0xC400 + n) o) = u.getO (key (0xC400 + n) o) := by
    intro u o ho
    have ne1 : key (0xC400 + n) o ≠ R.EVENT_LOG_COUNT := by simp only [key, RSrc.COUNT, RSrc.LAST_DETAIL, R.EVENT_LOG_COUNT] at *; omega
    have ne2 : key (0xC400 + n) o ≠ R.EVENT_LOG_LOST := by simp only [key, RSrc.COUNT, RSrc.LAST_DETAIL, R.EVENT_LOG_LOST] at *; omega
    unfold State.eventLog; split
    · unfold State.eventPut
      rw [State.getO_setO_ne _ ne1]
      have q : ∀ (x : State) (l : List EventRec), ({ x with events := l } : State).getO (key (0xC400 + n) o) = x.getO (key (0xC400 + n) o) :=
        fun x l => State.getO_of_objs rfl _
      rw [q]
      unfold State.eventRoom; split
      · rfl
      · exact State.getO_setO_ne _ ne2 _
    · rfl
  have k1 : ∀ o, key (0xC400 + n) 0 + o = key (0xC400 + n) o := fun o => by simp only [key]; omega
  have inj : ∀ {o p : Nat}, o ≠ p → key (0xC400 + n) o ≠ key (0xC400 + n) p := fun h => by simp only [key]; omega
  constructor
  · rw [h1 _ _ (.inl rfl), State.getO_of_objs (State.objs_eventNotes _ _ _ _)]
    unfold State.eventCount; dsimp only
    simp only [k1]
    rw [State.getO_setO_ne _ (inj (by decide)), State.getO_setO_ne _ (inj (by decide)), State.getO_setO_same]
  · rw [h1 _ _ (.inr rfl), State.getO_of_objs (State.objs_eventNotes _ _ _ _)]
    unfold State.eventCount; dsimp only
    simp only [k1]
    rw [State.getO_setO_same]

end Sys2Proof.Machine
end

