-- ==== Sys2Proof/Laws/FactsMemory.lean ====
section
/-! SUPPORT. Lemmas about the shared operations behind the commands of one family (memory). -/

namespace Sys2Proof.Machine

theorem keyPc_inj {p o q : Nat} : keyPc p o = keyPc p q ↔ o = q := by simp only [keyPc, key]; omega
theorem keyStack_inj {p o q : Nat} : keyStack p o = keyStack p q ↔ o = q := by simp only [keyStack, key]; omega
theorem keyStack_pc {i : Fin 2} {p o q : Nat} (ho : o < 256) : keyStack i.val o ≠ keyPc p q := by
  have := i.isLt; simp only [keyStack, keyPc, key]; omega
theorem pcFails_is (s : State) (p c : Nat) : (s.pcFails p c).pcState p = PC.OUT ∧ OnlyObjs s (s.pcFails p c) [keyPc p RPc.PC_STATE] ∧ ReportFrame s (s.pcFails p c) := by
  unfold State.pcFails
  refine ⟨?_, fun k hk => ?_, (ObjFrame.setO _ _ _).report.trans (ReportFrame.fault _ _ _ _)⟩
  · unfold State.pcState; rw [State.getO_fault, State.getO_setO_same]
  · rw [State.getO_fault]; exact State.getO_setO_ne _ (by simpa using hk) _
theorem checkBlock_clean (s : State) (a : Nat) : s.checkBlock a .clean = s := rfl
theorem putMem_tags (s : State) (a : Nat) (d : Bytes) (tag : Nat) (h : windowOf a = 1) : ∀ x ∈ blocksOf a d.length, (s.putMem a d tag).tags.get (x / 64) 0 = tag := by
  intro x hx
  unfold State.putMem; dsimp only; rw [if_pos h]
  refine State.each_sets (P := fun u => u.tags.get (x / 64) 0 = tag) x hx (fun u => Tab.get_set_same _ _ _ _) (fun u y hu => ?_) _
  show (Tab.set u.tags (y / 64) tag).get (x / 64) 0 = tag
  rw [Tab.get_set]; split
  · rfl
  · exact hu
theorem putMem_tags_out (s : State) (a : Nat) (d : Bytes) (tag : Nat) (h : windowOf a ≠ 1) : (s.putMem a d tag).tags = s.tags := by
  unfold State.putMem; dsimp only; rw [if_neg h]
/-- The step that a recovery takes: its time, its count and its place. -/
theorem recoveryStep_at (s : State) (p : Pc) (o : StepOutcome) (h : s.pcState p.val = PC.RECOVERY) (h1 : s.getO (keyPc p.val RPc.REFRESH_OWED) = 0)
    (h2 : s.hot (stackOf p.val) = false) (h3 : toSigned 16 (s.getO (keyStack (stackOf p.val) RStack.STACK_TEMP)) ≤ 332) :
    ∃ v : State, v.now = max s.now (s.recovery.get p.val (0, 0)).2 ∧ v.getO (keyPc p.val RPc.RECOVERY_STEPS) = satAdd 32 (s.getO (keyPc p.val RPc.RECOVERY_STEPS)) 1 ∧
      s.recoveryStep p.val o = (match o with
        | .more => if 32 ≤ (s.recovery.get p.val (0, 0)).1 + 1 then v.pcFails p.val 1 else v
        | .restored => v.setO (keyPc p.val RPc.PC_STATE) PC.ACTIVE
        | .failed => v.pcFails p.val 1) := by
  unfold State.recoveryStep; dsimp only
  rw [if_neg (by rw [h, h1, h2]; simp; omega)]
  refine ⟨_, rfl, ?_, rfl⟩
  exact (State.getO_setO_ne _ (by rw [Ne, keyPc_inj]; decide) _).trans (State.getO_setO_same _ _ _)
theorem writeMem_is {s : State} {w : Writer} {a : Nat} {d : Bytes} {q : Nat} (h : s.writeAnswer w a d.length = MR.OK) :
    ∃ tag, s.writeMem w a d q = (s.putMem a d tag).respond MR.OK [] ∧ ∀ b, w = .bay b → tag = q := by
  unfold State.writeMem; dsimp only; rw [if_neg (fun x => x h)]
  exact ⟨_, rfl, by rintro b rfl; rfl⟩

end Sys2Proof.Machine
end

