-- ==== Sys2Proof/Laws/FactsLanes.lean ====
section
/-! SUPPORT. Lemmas about the shared operations behind the commands of one family (lanes). -/

namespace Sys2Proof.Machine

theorem keyLane_inj {l : Lane} {o q : Nat} : keyLane l o = keyLane l q ↔ o = q := by simp only [keyLane, key]; omega
theorem keyLane_low {l : Lane} {o : Nat} (h : o < 0x10000) : keyLane l o < 0xC00000 := by have := l.isLt; simp only [keyLane, key]; omega
theorem State.lane_modLane (s : State) (l : Lane) (f : LaneU → LaneU) : (s.modLane l f).lane l = f (s.lane l) := by
  unfold State.lane State.modLane; simp
theorem State.lane_modLane_ne (s : State) {l m : Lane} (h : m ≠ l) (f : LaneU → LaneU) : (s.modLane l f).lane m = s.lane m := by
  unfold State.lane State.modLane; dsimp only
  exact Vector.getElem_set_ne l.isLt m.isLt (fun e => h (Fin.ext e.symm))
theorem LaneFrame.refl (l : Lane) (s : State) : LaneFrame l s s := ⟨rfl, fun _ _ => rfl⟩
theorem LaneFrame.trans {l : Lane} {s t u : State} (h : LaneFrame l s t) (k : LaneFrame l t u) : LaneFrame l s u := by
  refine ⟨?_, fun c hc => (k.2 c hc).trans (h.2 c hc)⟩
  have h1 := h.1; have k1 := k.1
  rw [h1] at k1; exact k1
theorem LaneFrame.modLane (s : State) (l : Lane) (f : LaneU → LaneU) : LaneFrame l s (s.modLane l f) := ⟨rfl, fun _ h => State.lane_modLane_ne s h f⟩
theorem ReportFrame.lanes {s t : State} (h : ReportFrame s t) : t.lanes = s.lanes := by unfold ReportFrame at h; rw [h]
theorem ReportFrame.lane {s t : State} (h : ReportFrame s t) (l : Lane) : LaneFrame l s t := by
  have hb := h.lanes
  refine ⟨?_, fun c _ => by unfold State.lane; rw [hb]⟩
  rw [hb]; exact h
theorem LaneFrame.setO (l : Lane) (s : State) (k v : Nat) : LaneFrame l s (s.setO k v) := (ObjFrame.setO s k v).report.lane l
/-- The objects of the lanes but their flags. -/
def laneObj (k : Nat) : Prop := 0xA010 * 256 ≤ k ∧ k < 0xA030 * 256 ∧ k % 256 ≠ RLane.LANE_FLAGS
theorem laneObj_key (l : Lane) {o : Nat} (h : o < 256) (h2 : o ≠ RLane.LANE_FLAGS) : laneObj (keyLane l o) := by
  have := l.isLt; simp only [laneObj, keyLane, key]; omega
theorem laneObj_event {k : Nat} (h : laneObj k) : eventObj k = false := eventObj_low (by have := h.2.1; omega)
theorem pkgSlot_lt {s : State} {b : Bay} {p : Bytes} {k : Nat} (h : s.pkgSlot b p = some k) : k < 64 := by
  unfold State.pkgSlot at h
  split at h
  · cases h
  · split at h
    · split at h
      · cases h; rename_i h2; exact h2.1
      · cases h
    · cases h
theorem zeroSlot_keeps (s : State) {k : Nat} (h : k < 64) : KeepsObjs laneObj s (s.zeroSlot k) := by
  unfold State.zeroSlot; dsimp only
  have o : KeepsObjs laneObj s { s with keys := s.keys.set k 0 } := .of_objs rfl
  exact (o.setO (by simp only [laneObj, R.SLOT_STATE]; omega) _).setO (by simp only [laneObj, R.SLOT_BASE]; omega) _
theorem pkgAbort_keeps (s : State) (b : Bay) : KeepsObjs laneObj s (s.pkgAbort b) := by
  unfold State.pkgAbort; split
  · rename_i l _
    unfold State.pkgFail
    have hb : ∀ {o}, o < 0x10000 → ¬ laneObj (keyB b o) := by intro o ho h; have := h.1; have := keyB_low (b := b) ho; omega
    have h1 : KeepsObjs laneObj s (match s.pkgSlot b l.data with
      | some k => ((s.zeroSlot k).zeroSlot k)
      | none => s) := by
      split
      · rename_i k hk; exact (zeroSlot_keeps s (pkgSlot_lt hk)).trans (zeroSlot_keeps _ (pkgSlot_lt hk))
      · exact .refl _
    exact (h1.trans (.of_objs rfl) |>.setO (hb (by decide)) _).setO (hb (by decide)) _
  · exact .refl _
theorem keyStream_not {i : Stream} {o : Nat} (h : o < 256) : ¬ laneObj (keyStream i o) := by intro h'; have := h'.2.1; simp only [keyStream, key] at this; omega
theorem keyLink_not {k : Link} {o : Nat} : ¬ laneObj (keyLink k o) := by intro h'; have := h'.2.1; simp only [keyLink, key] at this; omega
theorem laneFlags_not {l : Lane} : ¬ laneObj (keyLane l RLane.LANE_FLAGS) := by intro h'; have := h'.2.2; simp only [keyLane, key, RLane.LANE_FLAGS] at this; omega
theorem breakStream_keeps (s : State) (i : Stream) : KeepsObjs laneObj s (s.breakStream i) := by
  unfold State.breakStream; split
  · exact (((KeepsObjs.refl s).setO (keyStream_not (by decide)) _).setO (keyStream_not (by decide)) _).trans (KeepsObjs.each (fun u a _ => pkgAbort_keeps u a) _)
  · exact .refl _
theorem showWidth_keeps (s : State) (k : Link) : KeepsObjs laneObj s (s.showWidth k) := by
  unfold State.showWidth; dsimp only
  have h1 : KeepsObjs laneObj s (if s.getK k RLink.WIDTH = (s.link k).lanes.length then s else s.incO (keyLink k RLink.WIDTH_CHANGES)) :=
    .ite (.refl s) ((KeepsObjs.refl s).setO keyLink_not _)
  have h2 := (h1.setO (keyLink_not (k := k) (o := RLink.WIDTH)) (s.link k).lanes.length).setO (keyLink_not (k := k) (o := RLink.PAYLOAD_RATE))
    ((s.link k).lanes.length * (match (s.link k).lanes with
    | l :: _ => rateUnits (s.getL (Fin.ofNat 32 l) RLane.LANE_RATE)
    | [] => 0) * 119 / 100000)
  exact .ite (h2.trans (KeepsObjs.each (fun u a _ => (KeepsObjs.refl u).setO laneFlags_not _) _)) h2
theorem linkDown_keeps (s : State) (k : Link) : KeepsObjs laneObj s (s.linkDown k) := by
  unfold State.linkDown; dsimp only
  refine KeepsObjs.trans ?_ (KeepsObjs.each (fun u a _ => breakStream_keeps u a) _)
  refine KeepsObjs.trans ?_ (showWidth_keeps _ k)
  exact KeepsObjs.setO (.of_objs rfl) keyLink_not _
theorem stripe_keeps (s : State) (k : Link) (l : List Nat) : KeepsObjs laneObj s (s.stripe k l) := by
  unfold State.stripe; dsimp only
  have h : KeepsObjs laneObj s ((s.modLink k (fun u => { u with lanes := l })).showWidth k) := KeepsObjs.trans (.of_objs rfl) (showWidth_keeps _ k)
  exact .ite (h.trans (linkDown_keeps _ k)) h
theorem reform_keeps (s : State) (k : Link) : KeepsObjs laneObj s (s.reform k) := by
  unfold State.reform; exact .ite ((KeepsObjs.refl s).setO keyLink_not _) (.refl s)
theorem leaveLink_keeps (s : State) (l : Lane) : KeepsObjs laneObj s (s.leaveLink l) := by
  unfold State.leaveLink; split
  · exact .refl s
  · rename_i k _
    dsimp only
    have o : ∀ f, KeepsObjs laneObj s (s.modLink k f) := fun f => .of_objs rfl
    refine .ite (.ite (KeepsObjs.trans (o _) (stripe_keeps _ k _)) ?_) (o _)
    exact KeepsObjs.trans (.of_objs rfl) (reform_keeps _ k)
theorem laneEvent_lt {l : Lane} {k : Nat} (h : k < 4) : 1536 + 4 * l.val + k < 2048 := by omega
theorem setLane_keeps (s : State) (l : Lane) (st : Nat) {k : Nat} (h : laneObj k) (hk : k ≠ keyLane l RLane.LANE_STATE) : (s.setLane l st).getO k = s.getO k := by
  unfold State.setLane; dsimp only
  split
  · refine (leaveLink_keeps _ l k h).trans ?_
    unfold State.laneEvent
    rw [State.getO_occur _ (laneEvent_lt (by decide)) (laneObj_event h)]
    exact State.getO_setO_ne _ hk _
  · exact State.getO_setO_ne _ hk _
theorem setLane_state (s : State) (l : Lane) (st : Nat) : (s.setLane l st).laneState l = st := by
  have h : laneObj (keyLane l RLane.LANE_STATE) := laneObj_key l (by decide) (by decide)
  unfold State.setLane State.laneState; dsimp only
  split
  · refine (leaveLink_keeps _ l _ h).trans ?_
    unfold State.laneEvent
    rw [State.getO_occur _ (laneEvent_lt (by decide)) (laneObj_event h)]
    exact State.getO_setO_same _ _ _
  · exact State.getO_setO_same _ _ _
/-- A lane that is not ACTIVE takes a state alone. -/
theorem setLane_is (s : State) (l : Lane) (st : Nat) (h : s.laneState l ≠ LN.ACTIVE) :
    OnlyObjs s (s.setLane l st) [keyLane l RLane.LANE_STATE] ∧ LaneFrame l s (s.setLane l st) ∧
    (s.setLane l st).lane l = { (s.lane l) with windows := 0, ready := false, inWindow := decide (st = LN.TRAIN), caps := none, capsSent := 0, lowSince := none } := by
  unfold State.setLane; dsimp only
  rw [if_neg (fun x => h x.1)]
  refine ⟨?_, (LaneFrame.setO l _ _ _).trans (.modLane _ _ _), State.lane_modLane _ _ _⟩
  exact fun k hk => State.getO_setO_ne _ (by simpa using hk) _
/-- A retrain names its reason and is counted. -/
theorem retrainLane_is (s : State) (l : Lane) (r : Nat) : (s.retrainLane l r).laneState l = LN.TRAIN ∧ (s.retrainLane l r).getL l RLane.RETRAIN_REASON = r ∧
    (s.retrainLane l r).getL l RLane.RETRAIN_COUNT = satAdd 32 (s.getL l RLane.RETRAIN_COUNT) 1 ∧
    (∀ o, o < 256 → o ≠ RLane.LANE_FLAGS → o ≠ RLane.LANE_STATE → o ≠ RLane.RETRAIN_REASON → o ≠ RLane.RETRAIN_COUNT →
      (s.retrainLane l r).getL l o = s.getL l o) := by
  have key_ : ∀ o, o < 256 → (s.retrainLane l r).getL l o =
      ((((s.setLane l LN.TRAIN).modLane l (fun u => { u with notice := false })).setL l RLane.RETRAIN_REASON r).incO (keyLane l RLane.RETRAIN_COUNT)).getO (keyLane l o) := by
    intro o ho
    unfold State.retrainLane State.laneEvent State.getL; dsimp only
    exact State.getO_occur _ (laneEvent_lt (by decide)) (eventObj_low (keyLane_low (by omega)))
  have e1 := setLane_state s l LN.TRAIN
  have e2 := fun o (ho : o < 256) (h1 : o ≠ RLane.LANE_FLAGS) (h2 : o ≠ RLane.LANE_STATE) =>
    setLane_keeps s l LN.TRAIN (laneObj_key l ho h1) (by rw [Ne, keyLane_inj]; exact h2)
  refine ⟨?_, ?_, ?_, fun o ho h1 h2 h3 h4 => ?_⟩
  · rw [State.laneState, key_ _ (by decide)]
    exact (State.getO_setO_ne _ (by rw [Ne, keyLane_inj]; decide) _).trans ((State.getO_setO_ne _ (by rw [Ne, keyLane_inj]; decide) _).trans e1)
  · rw [key_ _ (by decide)]
    exact (State.getO_setO_ne _ (by rw [Ne, keyLane_inj]; decide) _).trans (State.getO_setO_same _ _ _)
  · rw [key_ _ (by decide)]
    refine (State.getO_setO_same _ _ _).trans (congrArg (fun x => satAdd 32 x 1) ?_)
    exact (State.getO_setO_ne _ (by rw [Ne, keyLane_inj]; decide) _).trans (e2 _ (by decide) (by decide) (by decide))
  · rw [key_ _ ho]
    exact (State.getO_setO_ne _ (by rw [Ne, keyLane_inj]; exact h4) _).trans ((State.getO_setO_ne _ (by rw [Ne, keyLane_inj]; exact h3) _).trans (e2 _ ho h1 h2))
theorem retrainLane_flags (s : State) (l : Lane) (r : Nat) (h : s.laneState l ≠ LN.ACTIVE) :
    (s.retrainLane l r).getL l RLane.LANE_FLAGS = s.getL l RLane.LANE_FLAGS := by
  have e := (setLane_is s l LN.TRAIN h).1 (keyLane l RLane.LANE_FLAGS) (by simp only [List.mem_singleton, keyLane_inj]; decide)
  unfold State.retrainLane State.laneEvent State.getL; dsimp only
  rw [State.getO_occur _ (laneEvent_lt (by decide)) (eventObj_low (keyLane_low (by decide)))]
  exact (State.getO_setO_ne _ (by rw [Ne, keyLane_inj]; decide) _).trans ((State.getO_setO_ne _ (by rw [Ne, keyLane_inj]; decide) _).trans e)
theorem retrainLane_lane (s : State) (l : Lane) (r : Nat) (h : s.laneState l ≠ LN.ACTIVE) :
    ((s.retrainLane l r).lane l).rateNew = (s.lane l).rateNew ∧ (s.retrainLane l r).commit = s.commit := by
  have e := setLane_is s l LN.TRAIN h
  unfold State.retrainLane State.laneEvent
  have f := State.occur_frame ((((s.setLane l LN.TRAIN).modLane l (fun u => { u with notice := false })).setL l RLane.RETRAIN_REASON r).incO (keyLane l RLane.RETRAIN_COUNT)) (1536 + 4 * l.val + 3)
  have hc : (s.setLane l LN.TRAIN).commit = s.commit := by have := e.2.1.1; rw [this]
  constructor
  · show ((State.occur _ _).lanes.get l).rateNew = _
    rw [f.lanes]
    show (((s.setLane l LN.TRAIN).modLane l (fun u => { u with notice := false })).lane l).rateNew = _
    rw [State.lane_modLane, e.2.2]
  · have : ∀ {u v : State}, ReportFrame u v → v.commit = u.commit := by intro u v h; unfold ReportFrame at h; rw [h]
    exact (this f).trans hc
theorem State.hostLane_up {s : State} {l : Lane} (h : s.operational = true) (h1 : s.locked (19 + l.val / 8) = true) (k : State → State) :
    s.hostLane l k = k s := by
  unfold State.hostLane; rw [State.hostModule_up h, h1, if_pos rfl]
theorem failLane_is (s : State) (l : Lane) (h : s.laneState l ≠ LN.ACTIVE) : (s.failLane l).laneState l = LN.FAILED ∧
    OnlyObjs s (s.failLane l) [keyLane l RLane.LANE_STATE] := by
  have e := setLane_state s l LN.FAILED
  have o := (setLane_is s l LN.FAILED h).1
  unfold State.failLane; dsimp only
  constructor
  · unfold State.laneState State.getL; rw [State.getO_fault]; exact e
  · intro k hk; rw [State.getO_fault]; exact o k hk
/-- The end of a gathering window that trains on (R315). -/
theorem windowEnd_is (s : State) (l : Lane) (eh ew : Nat) (eq : EqSet) (h : s.laneState l = LN.TRAIN) (h1 : (s.lane l).rateNew = none) (h2 : (s.lane l).ready = false) :
    (s.windowEnd l eh ew eq).objs = ((s.setL l RLane.FOM (fomOf eh ew)).setL l RLane.CTLE eq.ctle.toNat).objs ∧
      (s.windowEnd l eh ew eq).doms.get (keyLane l RLane.DFE) [] = eq.dfe.take 12 ∧
      ((s.windowEnd l eh ew eq).lane l).windows = (if s.getL l RLane.FOM_MIN ≤ fomOf eh ew then (s.lane l).windows + 1 else 0) ∧
      (((s.windowEnd l eh ew eq).lane l).ready = true ↔ 2 ≤ ((s.windowEnd l eh ew eq).lane l).windows) ∧
      (((s.windowEnd l eh ew eq).lane l).ready = true → (s.windowEnd l eh ew eq).doms.get (keyLane l RLane.TRAINED_SET) [] = eq.ctle :: eq.dfe.take 12) := by
  unfold State.windowEnd
  rw [if_neg (fun x => x h), h1]; dsimp only
  have q : ∀ d, ({ (s.setL l RLane.FOM (fomOf eh ew)).setL l RLane.CTLE eq.ctle.toNat with doms := d } : State).getL l RLane.FOM_MIN = s.getL l RLane.FOM_MIN := fun d =>
    (State.getO_setO_ne _ (by rw [Ne, keyLane_inj]; decide) _).trans (State.getO_setO_ne _ (by rw [Ne, keyLane_inj]; decide) _)
  have r : ∀ d, (({ (s.setL l RLane.FOM (fomOf eh ew)).setL l RLane.CTLE eq.ctle.toNat with doms := d } : State).lane l) = s.lane l := fun _ => rfl
  rw [q, r, State.lane_modLane, r, h2]
  generalize (if s.getL l RLane.FOM_MIN ≤ fomOf eh ew then (s.lane l).windows + 1 else 0) = n
  have e : ∀ (u : State) d f g, (({ u.modLane l f with doms := d } : State).modLane l g).lane l = g (f (u.lane l)) := fun u d f g =>
    (State.lane_modLane _ _ _).trans (congrArg g (State.lane_modLane u l f))
  have e2 : ∀ (u : State) f, (u.modLane l f).lane l = f (u.lane l) := fun u f => State.lane_modLane u l f
  split
  · rename_i h3
    refine ⟨rfl, ?_, ?_, ?_, ?_⟩
    · show (Tab.set (Tab.set s.doms _ _) _ _).get _ _ = _
      rw [Tab.get_set, if_neg (by rw [keyLane_inj]; decide)]; exact Tab.get_set_same _ _ _ _
    · exact congrArg LaneU.windows (e _ _ _ _)
    · have a := e ({ (s.setL l RLane.FOM (fomOf eh ew)).setL l RLane.CTLE eq.ctle.toNat with doms := s.doms.set (keyLane l RLane.DFE) (eq.dfe.take 12) } : State)
        (Tab.set (Tab.set s.doms (keyLane l RLane.DFE) (eq.dfe.take 12)) (keyLane l RLane.TRAINED_SET) (eq.ctle :: eq.dfe.take 12)) (fun u => { u with windows := n }) (fun u => { u with ready := true, inWindow := false })
      have b := congrArg LaneU.ready a
      have c := congrArg LaneU.windows a
      constructor
      · intro _; exact Nat.le_trans h3.1 (Nat.le_of_eq c.symm)
      · intro _; exact b
    · intro _; exact Tab.get_set_same _ _ _ _
  · rename_i h3
    refine ⟨rfl, Tab.get_set_same _ _ _ _, congrArg LaneU.windows (e2 _ _), ?_, ?_⟩
    · rw [e2]
      show ((s.lane l).ready = true ↔ 2 ≤ n)
      rw [h2]; exact ⟨fun x => (by cases x), fun x => absurd ⟨x, rfl⟩ h3⟩
    · intro hr; exfalso; rw [e2] at hr; have : (s.lane l).ready = true := hr; rw [h2] at this; cases this

end Sys2Proof.Machine
end

