-- ==== Sys2Proof/Laws/FactsStreams.lean ====
section
/-! SUPPORT. Lemmas about the shared operations behind the commands of one family (streams). -/

namespace Sys2Proof.Machine

theorem keyLink_inj {k : Link} {o q : Nat} : keyLink k o = keyLink k q ↔ o = q := by simp only [keyLink, key]; omega
theorem keyStream_inj {i : Stream} {o q : Nat} : keyStream i o = keyStream i q ↔ o = q := by simp only [keyStream, key]; omega
theorem keyStream_ne {i j : Stream} (h : i ≠ j) {o q : Nat} (ho : o < 256) (hq : q < 256) : keyStream i o ≠ keyStream j q := by
  have : i.val ≠ j.val := fun e => h (Fin.ext e); simp only [keyStream, key]; omega
theorem keyLink_stream {k : Link} {i : Stream} {o q : Nat} (ho : o < 256) (hq : q < 256) : keyLink k o ≠ keyStream i q := by
  have := k.isLt; simp only [keyLink, keyStream, key]; omega
theorem keyLink_lane {k : Link} {l : Lane} {o q : Nat} (hq : q < 256) : keyLink k o ≠ keyLane l q := by
  have := l.isLt; simp only [keyLink, keyLane, key]; omega
theorem State.link_modLink (s : State) (k : Link) (f : LinkU → LinkU) : (s.modLink k f).link k = f (s.link k) := by
  unfold State.link State.modLink; simp
theorem State.stream_modStream (s : State) (i : Stream) (f : StreamU → StreamU) : (s.modStream i f).stream i = f (s.stream i) := by
  unfold State.stream State.modStream; simp
/-- The objects of the links and of the streams. -/
def linkObj (k : Nat) : Prop := 0xA110 * 256 ≤ k ∧ k < 0xA180 * 256
theorem linkObj_link (k : Link) {o : Nat} (h : o < 256) : linkObj (keyLink k o) := by simp only [linkObj, keyLink, key]; omega
theorem linkObj_stream (i : Stream) {o : Nat} (h : o < 256) : linkObj (keyStream i o) := by simp only [linkObj, keyStream, key]; omega
theorem zeroSlot_linkObj (s : State) {k : Nat} (h : k < 64) : KeepsObjs linkObj s (s.zeroSlot k) := by
  unfold State.zeroSlot; dsimp only
  have o : KeepsObjs linkObj s { s with keys := s.keys.set k 0 } := .of_objs rfl
  exact (o.setO (by simp only [linkObj, R.SLOT_STATE]; omega) _).setO (by simp only [linkObj, R.SLOT_BASE]; omega) _
theorem pkgAbort_linkObj (s : State) (b : Bay) : KeepsObjs linkObj s (s.pkgAbort b) := by
  unfold State.pkgAbort; split
  · rename_i l _
    unfold State.pkgFail
    have hb : ∀ {o}, o < 0x10000 → ¬ linkObj (keyB b o) := by intro o ho h; have := h.1; have := keyB_low (b := b) ho; omega
    have h1 : KeepsObjs linkObj s (match s.pkgSlot b l.data with
      | some k => ((s.zeroSlot k).zeroSlot k)
      | none => s) := by
      split
      · rename_i k hk; exact (zeroSlot_linkObj s (pkgSlot_lt hk)).trans (zeroSlot_linkObj _ (pkgSlot_lt hk))
      · exact .refl _
    exact (h1.trans (.of_objs rfl) |>.setO (hb (by decide)) _).setO (hb (by decide)) _
  · exact .refl _
/-- A stream that breaks is no longer open, and the objects of links and of other streams stay. -/
theorem breakStream_is (s : State) (i : Stream) : (s.breakStream i).getT i RStream.STREAM_STATE ≠ SM.OPEN ∧
    (∀ k, linkObj k → k ≠ keyStream i RStream.STREAM_STATE → k ≠ keyStream i RStream.CREDIT → (s.breakStream i).getO k = s.getO k) := by
  unfold State.breakStream; split
  · have e := fun k hk => KeepsObjs.each (P := linkObj) (f := State.pkgAbort) (fun u a _ => pkgAbort_linkObj u a) (l := ((List.finRange 16).filter (fun b => ((((s.setT i RStream.STREAM_STATE SM.BROKEN).setT i RStream.CREDIT 0).bay b).pkg.bind PkgLoad.stream) == some i.val)))
      ((s.setT i RStream.STREAM_STATE SM.BROKEN).setT i RStream.CREDIT 0) k hk
    refine ⟨fun h => ?_, fun k hk h1 h2 => (e k hk).trans ((State.getO_setO_ne _ h2 _).trans (State.getO_setO_ne _ h1 _))⟩
    have := ((e _ (linkObj_stream i (by decide))).trans ((State.getO_setO_ne _ (by rw [Ne, keyStream_inj]; decide) _).trans (State.getO_setO_same _ _ _))).symm.trans h
    exact absurd this (by decide)
  · rename_i h; exact ⟨h, fun _ _ _ _ => rfl⟩
/-- WIDTH follows the lanes of a link, and no object of a link but WIDTH, its count and PAYLOAD_RATE changes (R321). -/
theorem showWidth_is (s : State) (k : Link) : (s.showWidth k).getK k RLink.WIDTH = (s.link k).lanes.length ∧ ObjFrame s (s.showWidth k) ∧
    (∀ x, linkObj x → x ≠ keyLink k RLink.WIDTH → x ≠ keyLink k RLink.WIDTH_CHANGES → x ≠ keyLink k RLink.PAYLOAD_RATE → (s.showWidth k).getO x = s.getO x) := by
  unfold State.showWidth; dsimp only
  generalize ((s.link k).lanes.length * (match (s.link k).lanes with
    | l :: _ => rateUnits (s.getL (Fin.ofNat 32 l) RLane.LANE_RATE)
    | [] => 0) * 119 / 100000) = r
  have h0 : ∃ v : State, (if s.getK k RLink.WIDTH = (s.link k).lanes.length then s else s.incO (keyLink k RLink.WIDTH_CHANGES)) = v ∧ ObjFrame s v ∧
      ∀ x, x ≠ keyLink k RLink.WIDTH_CHANGES → v.getO x = s.getO x := by
    refine ⟨_, rfl, ?_, fun x hx => ?_⟩
    · split
      · exact .refl _
      · exact .setO _ _ _
    · split
      · rfl
      · exact State.getO_setO_ne _ hx _
  obtain ⟨v, e, f, g⟩ := h0
  rw [e]
  have ff : ObjFrame s ((v.setK k RLink.WIDTH (s.link k).lanes.length).setK k RLink.PAYLOAD_RATE r) := f.trans ((ObjFrame.setO _ _ _).trans (.setO _ _ _))
  have gg : ((v.setK k RLink.WIDTH (s.link k).lanes.length).setK k RLink.PAYLOAD_RATE r).getK k RLink.WIDTH = (s.link k).lanes.length :=
    (State.getO_setO_ne _ (by rw [Ne, keyLink_inj]; decide) _).trans (State.getO_setO_same _ _ _)
  have hh : ∀ x, linkObj x → x ≠ keyLink k RLink.WIDTH → x ≠ keyLink k RLink.WIDTH_CHANGES → x ≠ keyLink k RLink.PAYLOAD_RATE →
      ((v.setK k RLink.WIDTH (s.link k).lanes.length).setK k RLink.PAYLOAD_RATE r).getO x = s.getO x := fun x _ h1 h2 h3 =>
    (State.getO_setO_ne _ h3 _).trans ((State.getO_setO_ne _ h1 _).trans (g x h2))
  generalize (v.setK k RLink.WIDTH (s.link k).lanes.length).setK k RLink.PAYLOAD_RATE r = w at *
  split
  · have q : ∀ (l : List Nat) x, linkObj x → (w.each l (fun s l => s.flagLane (Fin.ofNat 32 l) 5)).getO x = w.getO x := fun l x hx =>
      State.getO_each (fun u a _ => State.getO_setO_ne _ (by rintro rfl; have := hx.1; have := keyLane_low (l := Fin.ofNat 32 a) (o := RLane.LANE_FLAGS) (by decide); simp only [keyLane, key, Fin.val_ofNat, RLane.LANE_FLAGS] at *; omega) _) w
    refine ⟨(q _ _ (linkObj_link k (by decide))).trans gg, ff.trans (ObjFrame.each (fun u a => .setO _ _ _) _), fun x h1 h2 h3 h4 => (q _ x h1).trans (hh x h1 h2 h3 h4)⟩
  · exact ⟨gg, ff, hh⟩
/-- A link that goes DOWN: its state and width, and no stream of it stays open (R328). -/
theorem linkDown_is (s : State) (k : Link) : (s.linkDown k).linkState k = LK.DOWN ∧ (s.linkDown k).getK k RLink.WIDTH = 0 ∧
    ∀ i, s.getT i RStream.STREAM_LINK = k.val → (s.linkDown k).getT i RStream.STREAM_STATE ≠ SM.OPEN := by
  unfold State.linkDown; dsimp only
  obtain ⟨w1, w2, w3⟩ := showWidth_is ((s.modLink k (fun u => { u with lanes := [], adds := [], firstAt := none, replay := [], tries := 0, nak := none })).setK k RLink.LINK_STATE LK.DOWN) k
  have w1' := w1.trans (congrArg (fun u : LinkU => u.lanes.length) (State.link_modLink s k (fun u => { u with lanes := [], adds := [], firstAt := none, replay := [], tries := 0, nak := none })))
  have w4 := (w3 (keyLink k RLink.LINK_STATE) (linkObj_link k (by decide)) (by rw [Ne, keyLink_inj]; decide) (by rw [Ne, keyLink_inj]; decide) (by rw [Ne, keyLink_inj]; decide)).trans (State.getO_setO_same _ _ _)
  have ke : ∀ l u x, (∀ i : Stream, x ≠ keyStream i RStream.STREAM_STATE ∧ x ≠ keyStream i RStream.CREDIT) → linkObj x → (State.each u l State.breakStream).getO x = u.getO x :=
    fun l u x hx hl => State.getO_each (fun v a _ => (breakStream_is v a).2 x hl (hx a).1 (hx a).2) u
  have hk : ∀ o, o < 256 → ∀ i : Stream, keyLink k o ≠ keyStream i RStream.STREAM_STATE ∧ keyLink k o ≠ keyStream i RStream.CREDIT :=
    fun o ho i => ⟨keyLink_stream ho (by decide), keyLink_stream ho (by decide)⟩
  refine ⟨(ke _ _ _ (hk _ (by decide)) (linkObj_link k (by decide))).trans w4, (ke _ _ _ (hk _ (by decide)) (linkObj_link k (by decide))).trans w1', fun i hi => ?_⟩
  refine State.each_sets (P := fun u => u.getT i RStream.STREAM_STATE ≠ SM.OPEN) i ?_ (fun u => (breakStream_is u i).1) (fun u j hu => ?_) _
  · unfold State.streamsOf; rw [List.mem_filter]
    refine ⟨List.mem_finRange i, ?_⟩
    rw [beq_iff_eq]; exact hi
  · by_cases hj : j = i
    · subst hj; exact (breakStream_is u j).1
    · intro h; apply hu; rw [← h]
      exact ((breakStream_is u j).2 _ (linkObj_stream i (by decide)) (keyStream_ne (Ne.symm hj) (by decide) (by decide)) (keyStream_ne (Ne.symm hj) (by decide) (by decide))).symm
/-- A link stripes over enough lanes (R322, R325). -/
theorem stripe_is (s : State) (k : Link) (m : List Nat) (h : max 1 (s.getK k RLink.MIN_WIDTH) ≤ m.length) :
    ObjFrame (s.modLink k (fun u => { u with lanes := m })) (s.stripe k m) ∧ (s.stripe k m).getK k RLink.WIDTH = m.length ∧
    (∀ x, linkObj x → x ≠ keyLink k RLink.WIDTH → x ≠ keyLink k RLink.WIDTH_CHANGES → x ≠ keyLink k RLink.PAYLOAD_RATE → (s.stripe k m).getO x = s.getO x) := by
  obtain ⟨w1, w2, w3⟩ := showWidth_is (s.modLink k (fun u => { u with lanes := m })) k
  have w1' := w1.trans (congrArg (fun u : LinkU => u.lanes.length) (State.link_modLink s k (fun u => { u with lanes := m })))
  have w4 := w3 (keyLink k RLink.MIN_WIDTH) (linkObj_link k (by decide)) (by rw [Ne, keyLink_inj]; decide) (by rw [Ne, keyLink_inj]; decide) (by rw [Ne, keyLink_inj]; decide)
  have e : s.stripe k m = (s.modLink k (fun u => { u with lanes := m })).showWidth k := by
    unfold State.stripe; dsimp only
    exact if_neg (by
      show ¬ m.length < max 1 (((s.modLink k (fun u => { u with lanes := m })).showWidth k).getO (keyLink k RLink.MIN_WIDTH))
      rw [w4]; exact Nat.not_lt.mpr h)
  rw [e]; exact ⟨w2, w1', w3⟩
theorem ObjFrame.links {s t : State} (h : ObjFrame s t) : t.links = s.links := by unfold ObjFrame at h; rw [h]
theorem ObjFrame.clock {s t : State} (h : ObjFrame s t) : t.now = s.now := by unfold ObjFrame at h; rw [h]
theorem stripe_link (s : State) (k : Link) (m : List Nat) (h : max 1 (s.getK k RLink.MIN_WIDTH) ≤ m.length) :
    (s.stripe k m).link k = { (s.link k) with lanes := m } := by
  have f := (stripe_is s k m h).1.links
  show (s.stripe k m).links.get k = _
  rw [f]; exact State.link_modLink s k _
theorem replay_is (s : State) (k : Link) (h : (s.link k).replay ≠ []) (h1 : s.linkState k ≠ LK.DOWN) (h2 : (s.link k).tries + 1 < 8) :
    (s.replay k).getK k RLink.REPLAYS = satAdd 32 (s.getK k RLink.REPLAYS) 1 ∧ ((s.replay k).link k).tries = (s.link k).tries + 1 ∧
    OnlyObjs s (s.replay k) [keyLink k RLink.REPLAYS] := by
  unfold State.replay
  rw [if_neg (by
    rintro (a | a)
    · exact h (List.isEmpty_iff.mp a)
    · exact h1 a)]; dsimp only
  have e := State.link_modLink (s.incO (keyLink k RLink.REPLAYS)) k (fun u => { u with tries := u.tries + 1 })
  rw [if_neg (by rw [e]; exact Nat.not_le.mpr h2)]
  exact ⟨State.getO_setO_same _ _ _, congrArg LinkU.tries e, fun x hx => State.getO_setO_ne _ (by simpa using hx) _⟩
theorem keyB_stream {b : Bay} {i : Stream} {o q : Nat} (h : o < 0x10000) : keyB b o ≠ keyStream i q := by
  have := keyB_low (b := b) h; simp only [keyStream, key]; omega
/-- A stream's destination rests on no count of its own. -/
theorem State.dest_of {s u : State} (i : Stream) (h : ∀ x, x ≠ keyStream i RStream.CREDIT → x ≠ keyStream i RStream.BYTES → u.getO x = s.getO x) :
    u.dest i = s.dest i ∧ u.stageBay i = s.stageBay i := by
  have e : u.stageBay i = s.stageBay i := by
    unfold State.stageBay State.getB
    refine congrArg (fun f => List.find? f (List.finRange 16)) (funext fun b => ?_)
    rw [h _ (keyB_stream (by decide)) (keyB_stream (by decide))]
  refine ⟨?_, e⟩
  unfold State.dest; rw [e]
  rw [show u.getT i RStream.DEST = s.getT i RStream.DEST from h _ (by rw [Ne, keyStream_inj]; decide) (by rw [Ne, keyStream_inj]; decide)]
/-- A payload reaches the queue of a stream whose destination it is (R329). -/
theorem deliver_queue (s : State) (i : Stream) (d : Bytes) (h : s.dest i = 0) :
    s.deliver i d = (s.setT i RStream.BYTES ((s.getT i RStream.BYTES + d.length) % 2 ^ 64)).modStream i (fun u => { u with queue := u.queue ++ d }) := by
  unfold State.deliver; dsimp only
  have e := State.dest_of (s := s) (u := s.setT i RStream.BYTES ((s.getT i RStream.BYTES + d.length) % 2 ^ 64)) i (fun x _ hx => State.getO_setO_ne _ hx _)
  rw [e.1, h]
  cases State.stageBay _ i <;> rfl
theorem getT_each_zero (s : State) (i : Stream) (l : List Nat) (o : Nat) (h : o ∈ l) : (s.each l (fun s o => s.setT i o 0)).getT i o = 0 := by
  refine State.each_sets (P := fun u => u.getT i o = 0) (f := fun s o => s.setT i o 0) o h (fun u => State.getO_setO_same _ _ _) (fun u q hu => ?_) s
  by_cases e : o = q
  · subst e; exact State.getO_setO_same _ _ _
  · exact (State.getO_setO_ne _ (by rw [Ne, keyStream_inj]; exact e) _).trans hu
theorem find_fin {n : Nat} (k : Fin n) : (List.finRange n).find? (fun j => j.val == k.val) = some k := by
  cases h : (List.finRange n).find? (fun j => j.val == k.val) with
  | none => exact absurd (List.find?_eq_none.mp h k (List.mem_finRange k)) (by simp)
  | some j => have := List.find?_some h; simp only [beq_iff_eq] at this; rw [Fin.ext this]
theorem formLink_at (s : State) (k : Link) (t0 : Nat) (h : s.linkState k = LK.FORMING) (h1 : (s.link k).firstAt = some t0) :
    s.formLink k = (if ((( s.advance (t0 + 1000000000)).activeLanes k).take (allowedWidth ((s.advance (t0 + 1000000000)).getK k RLink.VERSION) ((s.advance (t0 + 1000000000)).activeLanes k).length)).length <
      max 1 ((s.advance (t0 + 1000000000)).getK k RLink.MIN_WIDTH) then s.advance (t0 + 1000000000)
      else ((s.advance (t0 + 1000000000)).setK k RLink.LINK_STATE LK.UP).stripe k
        (((s.advance (t0 + 1000000000)).activeLanes k).take (allowedWidth ((s.advance (t0 + 1000000000)).getK k RLink.VERSION) ((s.advance (t0 + 1000000000)).activeLanes k).length))) := by
  unfold State.formLink
  split
  · rename_i t a b
    rw [h1] at b; cases b; rfl
  · rename_i q; exact absurd h1 (q t0 h)
/-- A frame that is discarded is counted and reaches nothing (R327). -/
theorem badFrame_is (s : State) (k : Link) : (s.badFrame k).getK k RLink.CRC_ERRORS = satAdd 32 (s.getK k RLink.CRC_ERRORS) 1 ∧ (s.badFrame k).streams = s.streams ∧
    (s.badFrame k).mem = s.mem ∧ ((s.badFrame k).link k).rxSeq = (s.link k).rxSeq ∧ OnlyObjs s (s.badFrame k) [keyLink k RLink.CRC_ERRORS] := by
  have a : ∀ (u : State) q, (u.modLink k (fun v => { v with nak := q })).streams = u.streams ∧ (u.modLink k (fun v => { v with nak := q })).mem = u.mem ∧
      (u.modLink k (fun v => { v with nak := q })).objs = u.objs ∧ ((u.modLink k (fun v => { v with nak := q })).link k).rxSeq = (u.link k).rxSeq := fun u q =>
    ⟨rfl, rfl, rfl, (congrArg LinkU.rxSeq (State.link_modLink u k (fun v => { v with nak := q }))).trans rfl⟩
  have h : ∃ q : Bool, s.badFrame k = (if q = true then s.incO (keyLink k RLink.CRC_ERRORS) else (s.incO (keyLink k RLink.CRC_ERRORS)).modLink k
      (fun v => { v with nak := some (((s.incO (keyLink k RLink.CRC_ERRORS)).link k).rxSeq, (s.incO (keyLink k RLink.CRC_ERRORS)).now) })) := ⟨_, rfl⟩
  obtain ⟨q, e⟩ := h
  rw [e]
  have b1 : (s.incO (keyLink k RLink.CRC_ERRORS)).getK k RLink.CRC_ERRORS = satAdd 32 (s.getK k RLink.CRC_ERRORS) 1 := State.getO_setO_same _ _ _
  have b2 : OnlyObjs s (s.incO (keyLink k RLink.CRC_ERRORS)) [keyLink k RLink.CRC_ERRORS] := fun x hx => State.getO_setO_ne _ (by simpa using hx) _
  cases q
  · rw [if_neg (by decide)]; exact ⟨b1, rfl, rfl, (a _ _).2.2.2, b2⟩
  · rw [if_pos rfl]; exact ⟨b1, rfl, rfl, rfl, b2⟩

end Sys2Proof.Machine
end

