-- ==== Sys2Proof/Laws/FactsNet.lean ====
section
/-! SUPPORT. Lemmas about the shared operations behind the commands of one family (net). -/

namespace Sys2Proof.Machine

theorem keyPort_inj {p : Fin 2} {o q : Nat} : keyPort p o = keyPort p q ↔ o = q := by simp only [keyPort, key]; omega
theorem keyTpg_inj {n : Tpg} {o q : Nat} : keyTpg n o = keyTpg n q ↔ o = q := by simp only [keyTpg, key]; omega
theorem State.nets_modNet (s : State) (p : Fin 2) (f : NetPort → NetPort) : (s.modNet p f).nets.get p = f (s.nets.get p) := by
  unfold State.modNet; simp
theorem State.tpg_modTpg (s : State) (n : Tpg) (f : TpgU → TpgU) : (s.modTpg n f).tpg n = f (s.tpg n) := by
  unfold State.tpg State.modTpg; simp
theorem setTsq_is (s : State) (p : Fin 2) (q : List Bytes) : ((s.setTsq p q).nets.get p).queue = q ∧ (s.setTsq p q).getO (keyPort p RPort.TSQ_COUNT) = q.length ∧
    OnlyObjs s (s.setTsq p q) [keyPort p RPort.TSQ_COUNT] :=
  ⟨congrArg NetPort.queue (State.nets_modNet s p (fun u => { u with queue := q })), State.getO_setO_same _ _ _, fun k hk => State.getO_setO_ne _ (by simpa using hk) _⟩
theorem lateFire_off (s : State) (n : Tpg) (h : s.getTpg n RTpg.ENABLE ≠ 1) : s.lateFire n = s := by
  unfold State.lateFire; split
  · rename_i a b; exact absurd a h
  · rfl
/-- A time step while no TPG is enabled (R339). -/
theorem timeStep_is (s : State) (v : Nat) (h : ∀ n, s.getTpg n RTpg.ENABLE ≠ 1) (hv : s.getO R.OFFSET ≠ v) :
    s.timeStep v = ((s.setO R.OFFSET v).setO R.TIME_STEPS ((s.getO R.TIME_STEPS + 1) % 2 ^ 32)).event 2024 ((s.getO R.TIME_STEPS + 1) % 2 ^ 32) := by
  unfold State.timeStep; rw [if_neg hv]; dsimp only
  have q : ∀ n, (((s.setO R.OFFSET v).setO R.TIME_STEPS ((s.getO R.TIME_STEPS + 1) % 2 ^ 32)).event 2024 ((s.getO R.TIME_STEPS + 1) % 2 ^ 32)).getTpg n RTpg.ENABLE ≠ 1 := by
    intro n e; apply h n; rw [← e]
    have := n.isLt
    unfold State.getTpg
    rw [State.getO_event _ _ (by decide) (eventObj_low (by simp only [keyTpg, key, RTpg.ENABLE]; omega)),
      State.getO_setO_ne _ (by simp only [keyTpg, key, RTpg.ENABLE, R.TIME_STEPS]; omega), State.getO_setO_ne _ (by simp only [keyTpg, key, RTpg.ENABLE, R.OFFSET]; omega)]
  generalize ((s.setO R.OFFSET v).setO R.TIME_STEPS ((s.getO R.TIME_STEPS + 1) % 2 ^ 32)).event 2024 ((s.getO R.TIME_STEPS + 1) % 2 ^ 32) = u at *
  exact State.each_keeps (P := fun w => w = u) (fun w n hw => by subst hw; exact lateFire_off _ n (q n)) rfl
theorem timeStep_objs (s : State) (v : Nat) (h : ∀ n, s.getTpg n RTpg.ENABLE ≠ 1) : (s.timeStep v).getO R.OFFSET = v ∧
    (s.getO R.OFFSET ≠ v → (s.timeStep v).getO R.TIME_STEPS = (s.getO R.TIME_STEPS + 1) % 2 ^ 32) ∧ OnlyObjsEv s (s.timeStep v) [R.OFFSET, R.TIME_STEPS] := by
  by_cases hv : s.getO R.OFFSET = v
  · have e : s.timeStep v = s := by unfold State.timeStep; rw [if_pos hv]
    rw [e]; exact ⟨hv, fun x => absurd hv x, fun _ _ _ => rfl⟩
  · rw [timeStep_is s v h hv]
    refine ⟨?_, fun _ => ?_, ?_⟩
    · rw [State.getO_event _ _ (by decide) (by decide)]; exact (State.getO_setO_ne _ (by decide) _).trans (State.getO_setO_same _ _ _)
    · rw [State.getO_event _ _ (by decide) (by decide)]; exact State.getO_setO_same _ _ _
    · exact ((((OnlyObjs.refl s _).setO (by simp) _).setO (by simp) _).ev).event (by decide) _
theorem ofSigned_mod (w : Nat) (i : Int) : (ofSigned w i : Int) = i % 2 ^ w := by
  unfold ofSigned; exact Int.toNat_of_nonneg (Int.emod_nonneg _ (Int.ne_of_gt (Int.pow_pos (by decide))))
/-- Network time rests on OFFSET modulo 2^64 alone. -/
theorem timeFrom_of (x : Int) (rate c : Nat) : timeFrom (ofSigned 64 x) rate c = ofSigned 64 (x + c + rateTerm rate c) := by
  unfold timeFrom rateTerm
  have a := ofSigned_mod 64 x
  unfold ofSigned at *
  rw [a]; congr 1; omega
/-- What a firing leaves in its TPG and on the TRIG lands (R346, R347). -/
theorem fireTpg_tpg (s : State) (n : Tpg) (late : Bool) (e : Nat) :
    ((s.fireTpg n late e).tpg n).pulse = some (e, s.getTpg n RTpg.TRIG_OUT, s.getTpg n RTpg.RIDGE_OUT) ∧ ((s.fireTpg n late e).tpg n).next = (s.tpg n).next ∧
    (s.fireTpg n late e).trigOut = s.trigOut ||| s.getTpg n RTpg.TRIG_OUT := by
  have ge : ∀ o v w, o ≠ RTpg.FIRINGS → o ≠ RTpg.LATE → ((s.setO (keyTpg n RTpg.FIRINGS) v).setO (keyTpg n RTpg.LATE) w).getTpg n o = s.getTpg n o := fun o v w h1 h2 =>
    (State.getO_setO_ne _ (by rw [Ne, keyTpg_inj]; exact h2) _).trans (State.getO_setO_ne _ (by rw [Ne, keyTpg_inj]; exact h1) _)
  unfold State.fireTpg
  extract_lets a b c d f out bays
  have b1 : b.getTpg n RTpg.TRIG_OUT = s.getTpg n RTpg.TRIG_OUT := ge _ _ _ (by decide) (by decide)
  have b2 : b.getTpg n RTpg.RIDGE_OUT = s.getTpg n RTpg.RIDGE_OUT := ge _ _ _ (by decide) (by decide)
  have d0 : d.objs = c.objs ∧ d.trigOut = c.trigOut ∧ d.tpgs = c.tpgs :=
    State.each_keeps (P := fun u => u.objs = c.objs ∧ u.trigOut = c.trigOut ∧ u.tpgs = c.tpgs) (fun u l hu => by
      unfold State.driveRidge; split
      · exact hu
      · exact hu) ⟨rfl, rfl, rfl⟩
  have f1 : f.tpg n = { (s.tpg n) with pulse := some (e, s.getTpg n RTpg.TRIG_OUT, s.getTpg n RTpg.RIDGE_OUT) } := by
    have h := State.tpg_modTpg d n (fun u => { u with pulse := some (e, d.getTpg n RTpg.TRIG_OUT, d.getTpg n RTpg.RIDGE_OUT) })
    have h1 : d.getTpg n RTpg.TRIG_OUT = s.getTpg n RTpg.TRIG_OUT := (State.getO_of_objs d0.1 _).trans b1
    have h2 : d.getTpg n RTpg.RIDGE_OUT = s.getTpg n RTpg.RIDGE_OUT := (State.getO_of_objs d0.1 _).trans b2
    have h3 : d.tpg n = s.tpg n := by show d.tpgs.get n = _; rw [d0.2.2]; rfl
    rw [h1, h2, h3] at h; rw [← h]; show (State.modTpg _ _ _).tpg n = _; rw [h1, h2]
  have f2 : f.trigOut = s.trigOut ||| s.getTpg n RTpg.TRIG_OUT := by
    show d.trigOut = _; rw [d0.2.1]; show b.trigOut ||| b.getTpg n RTpg.TRIG_OUT = _; rw [b1]; rfl
  clear_value f
  have k : Kept (434380 ||| 8192 ||| 1074192396) f ((f.each bays (fun s b => if s.bayDown b then s.dropEvent b.val else (s.latch b (0x48 + n.val)).edgeTrigger b 6 n.val 7)).each (List.finRange 64) (fun s i =>
    if s.siteKind i ≠ 0 ∧ Config.startEvent 1 n.val i.val = true then
      s.each ((s.members i).filter (fun b => out.testBit b.val && s.bst b == BS.ARMED)) State.startBay
    else s)) := by
    refine State.each_kept (State.each_kept (Kept.refl f) (fun u x hu => Kept.ite (State.dropEvent_kept (by decide) hu) (State.edgeTrigger_kept (by decide) (State.latch_kept (by decide) hu)))) (fun u x hu => ?_)
    exact Kept.ite (State.each_kept hu (fun v y hv => State.startBay_kept (by decide) hv)) hu
  have k1 := k.parts .time (by decide)
  have k2 := k.parts .lines (by decide)
  generalize State.each _ _ _ = w at *
  have w1 : w.tpgs = f.tpgs := congrArg (fun q => q.2.2.2.2.1) k1
  have w2 : w.trigOut = f.trigOut := congrArg (fun q => q.2.2.2.2) k2
  have w3 : w.tpg n = f.tpg n := by show w.tpgs.get n = _; rw [w1]; rfl
  rw [w3, f1, w2, f2]; exact ⟨rfl, rfl, rfl⟩
/-- A firing with no bay and no ridge line among its destinations changes its own counts alone (R347). -/
theorem fireTpg_alone (s : State) (n : Tpg) (late : Bool) (e : Nat) (h : s.getTpg n RTpg.BAY_OUT = 0) (h1 : s.getTpg n RTpg.RIDGE_OUT = 0) :
    (s.fireTpg n late e).objs = ((s.setO (keyTpg n RTpg.FIRINGS) ((s.getTpg n RTpg.FIRINGS + 1) % 2 ^ 64)).setO (keyTpg n RTpg.LATE) (if late then 1 else 0)).objs := by
  have ge : ∀ o v w, o ≠ RTpg.FIRINGS → o ≠ RTpg.LATE → ((s.setO (keyTpg n RTpg.FIRINGS) v).setO (keyTpg n RTpg.LATE) w).getTpg n o = s.getTpg n o := fun o v w h1 h2 =>
    (State.getO_setO_ne _ (by rw [Ne, keyTpg_inj]; exact h2) _).trans (State.getO_setO_ne _ (by rw [Ne, keyTpg_inj]; exact h1) _)
  unfold State.fireTpg
  extract_lets a b c d f out bays
  have c1 : c.getTpg n RTpg.RIDGE_OUT = 0 := (ge _ _ _ (by decide) (by decide)).trans h1
  have c2 : c.getTpg n RTpg.BAY_OUT = 0 := (ge _ _ _ (by decide) (by decide)).trans h
  have d0 : d = c := by
    show State.each _ _ _ = _
    rw [c1]
    have : linesOf 0 = [] := by decide
    rw [this]; rfl
  have o0 : out = 0 := by
    show f.getTpg n RTpg.BAY_OUT = 0
    have : f.getTpg n RTpg.BAY_OUT = d.getTpg n RTpg.BAY_OUT := rfl
    rw [this, d0]; exact c2
  have b0 : bays = [] := by
    show List.filter _ _ = []; rw [o0]; simp
  rw [o0]
  have fo : f.objs = b.objs := by show d.objs = _; rw [d0]
  refine State.each_keeps (P := fun u => u.objs = b.objs) (fun u i hu => ?_) (show (State.each _ bays _).objs = _ by rw [b0]; exact fo)
  split
  · have : List.filter (fun b => (0 : Nat).testBit b.val && u.bst b == BS.ARMED) (u.members i) = [] := by simp
    rw [this]; exact hu
  · exact hu
theorem tpgFire_at (s : State) (n : Tpg) (g c : Nat) (h : s.getTpg n RTpg.ENABLE = 1) (h1 : (s.tpg n).next = some g) (h2 : s.counterOn = some c) :
    s.tpgFire n = (((s.untilTime g).modTpg n (fun u => { u with next := (s.untilTime g).nextGrid n g })).fireTpg n false ((s.untilTime g).netTime + (s.untilTime g).getTpg n RTpg.WIDTH)) := by
  unfold State.tpgFire
  split
  · rename_i g' c' a b d
    rw [h1] at b; cases b; rfl
  · rename_i q; exact absurd h2 (q g c h h1)
theorem untilTime_is (s : State) (g c : Nat) (h : s.counterOn = some c) : ∃ t, s.untilTime g = { s with now := t } := by
  unfold State.untilTime; split
  · exact ⟨_, rfl⟩
  · exact ⟨_, rfl⟩
theorem each_zero_tpg (s : State) (n : Tpg) (l : List Nat) (o : Nat) (h : o ∈ l) : (s.each l (fun s o => s.setO (keyTpg n o) 0)).getTpg n o = 0 := by
  refine State.each_sets (P := fun u => u.getTpg n o = 0) (f := fun s o => s.setO (keyTpg n o) 0) o h (fun u => State.getO_setO_same _ _ _) (fun u q hu => ?_) s
  by_cases e : o = q
  · subst e; exact State.getO_setO_same _ _ _
  · exact (State.getO_setO_ne _ (by rw [Ne, keyTpg_inj]; exact e) _).trans hu
theorem testBit_clrBit (v i j : Nat) : (clrBit v i).testBit j = (v.testBit j && decide (j ≠ i)) := by
  unfold clrBit
  split
  · rename_i h
    rw [Nat.shiftLeft_eq, Nat.one_mul]
    have h1 : v / 2 ^ i % 2 = 1 := by rw [Nat.testBit_eq_decide_div_mod_eq] at h; simpa using h
    have e1 : v = 2 ^ i * (2 * (v / 2 ^ i / 2) + 1) + v % 2 ^ i := by
      have a := Nat.div_add_mod v (2 ^ i)
      have b := Nat.div_add_mod (v / 2 ^ i) 2
      rw [h1] at b; rw [b]; exact a.symm
    have hr : v % 2 ^ i < 2 ^ i := Nat.mod_lt _ (Nat.two_pow_pos i)
    generalize v / 2 ^ i / 2 = q at *
    generalize v % 2 ^ i = r at *
    have e2 : v - 2 ^ i = 2 ^ i * (2 * q) + r := by rw [e1, Nat.mul_add, Nat.mul_one]; omega
    rw [e2, Nat.testBit_two_pow_mul_add _ hr]
    conv => rhs; rw [e1, Nat.testBit_two_pow_mul_add _ hr]
    by_cases hj : j < i
    · rw [if_pos hj, if_pos hj]; simp; omega
    · rw [if_neg hj, if_neg hj]
      by_cases e : j = i
      · subst e; simp
      · obtain ⟨k, hk⟩ : ∃ k, j - i = k + 1 := ⟨j - i - 1, by omega⟩
        rw [hk, Nat.testBit_succ, Nat.testBit_succ]
        rw [show 2 * q / 2 = q by omega, show (2 * q + 1) / 2 = q by omega]; simp [e]
  · rename_i h
    by_cases e : j = i
    · subst e; simp at h; simp [h]
    · simp [e]
theorem clr_fold (lands i : Nat) (h : lands.testBit i = true) : ∀ (l : List Nat) (v : Nat), i ∈ l ∨ v.testBit i = false →
    (l.foldl (fun v j => if lands.testBit j then clrBit v j else v) v).testBit i = false := by
  intro l
  induction l with
  | nil => intro v hv; rcases hv with hv | hv
           · cases hv
           · exact hv
  | cons j l ih =>
    intro v hv
    refine ih _ ?_
    show i ∈ l ∨ (if lands.testBit j then clrBit v j else v).testBit i = false
    by_cases e : i = j
    · subst e; right; rw [if_pos h, testBit_clrBit]; simp
    · rcases hv with hv | hv
      · rcases List.mem_cons.mp hv with q | q
        · exact absurd q e
        · exact .inl q
      · right; split
        · rw [testBit_clrBit, hv]; rfl
        · exact hv

end Sys2Proof.Machine
end

