-- ==== Sys2Proof/Laws/Held.lean ====
section
/-! SUPPORT. What entering SAFE in every bay, zeroising slots and closing sessions leave: the module's own objects. -/

set_option linter.all false

namespace Sys2Proof.Machine

/-- The module's own objects (start-up, clocks, power and the keeper, the Touchmark unit but its slots, and the collector's
own), beside an event's counts. -/
def holdObj (k : Nat) : Prop := (0x200000 ≤ k ∧ k < 0x240000) ∨ (0xB00000 ≤ k ∧ k < 0xB00500) ∨ (0xB00700 ≤ k ∧ k < 0xB01000) ∨ (0xC00000 ≤ k ∧ k < 0xC00200)

/-- The module's own objects, its keys in MRAM and its DOMAIN objects are the same in two states. -/
structure Hld (s t : State) : Prop where
  get : ∀ k, holdObj k → t.getO k = s.getO k
  secrets : (t.groupKey, t.tmKey, t.doms) = (s.groupKey, s.tmKey, s.doms)

theorem Hld.refl (s : State) : Hld s s := ⟨fun _ _ => rfl, rfl⟩
theorem Hld.trans {s t u : State} (a : Hld s t) (b : Hld t u) : Hld s u := ⟨fun k hk => Eq.trans (b.get k hk) (a.get k hk), b.secrets.trans a.secrets⟩

theorem Hld.ite {s a b : State} {c : Prop} [Decidable c] (ha : Hld s a) (hb : Hld s b) : Hld s (if c then a else b) := by
  split <;> assumption

theorem Hld.dite {s : State} {c : Prop} [Decidable c] {a : c → State} {b : ¬c → State} (ha : ∀ h, Hld s (a h))
    (hb : ∀ h, Hld s (b h)) : Hld s (if h : c then a h else b h) := by
  split
  · exact ha _
  · exact hb _

theorem Hld.ite1 {s : State} {α : Type} {c : Prop} [Decidable c] {a b : State × α} (ha : Hld s a.1) (hb : Hld s b.1) :
    Hld s (if c then a else b).1 := by split <;> assumption
theorem Hld.ite2 {s : State} {α : Type} {c : Prop} [Decidable c] {a b : α × State} (ha : Hld s a.2) (hb : Hld s b.2) :
    Hld s (if c then a else b).2 := by split <;> assumption

/-- The same for a state that may be absent. -/
structure HldO (s : State) (o : Option State) : Prop where
  out : ∀ {u : State}, o = some u → Hld s u

theorem HldO.none {s : State} : HldO s none := ⟨fun h => by cases h⟩
theorem HldO.some {s t : State} (h : Hld s t) : HldO s (some t) := ⟨fun e => by cases e; exact h⟩
theorem HldO.ite {s : State} {a b : Option State} {c : Prop} [Decidable c] (ha : HldO s a) (hb : HldO s b) :
    HldO s (if c then a else b) := by split <;> assumption

/-- The same for a command's outcome, where that is a next state. -/
structure HldN (s : State) (o : Host.Outcome State Fault Refusal) : Prop where
  out : ∀ {u : State}, o = .next u → Hld s u

theorem HldN.next {s t : State} (h : Hld s t) : HldN s (.next t) := ⟨fun e => by cases e; exact h⟩
theorem HldN.ite {s : State} {a b : Host.Outcome State Fault Refusal} {c : Prop} [Decidable c] (ha : HldN s a)
    (hb : HldN s b) : HldN s (if c then a else b) := by split <;> assumption

theorem Hld.foldl {s : State} {α : Type} {f : State → α → State} {l : List α} : ∀ {t : State}, Hld s t →
    (∀ u a, Hld s u → Hld s (f u a)) → Hld s (l.foldl f t) := by
  induction l with
  | nil => intro t h _; exact h
  | cons a l ih => intro t h hf; exact ih (hf _ _ h) hf

theorem Hld.of {s t u : State} (h : Hld s t) (e : u.objs = t.objs) (e2 : (u.groupKey, u.tmKey, u.doms) = (t.groupKey, t.tmKey, t.doms)) : Hld s u :=
  ⟨fun k hk => Eq.trans (State.getO_of_objs e _) (h.get k hk), e2.trans h.secrets⟩

/-- A state that differs from one that keeps in other fields than the objects. -/
theorem Hld.upd {s t : State} (h : Hld s t)
    {reply now fresh shingles bank tsets mem tags claims ridge ridgeDrv ridgeWay purlin trigOut keys
    tmPort tmTest nonces tmFirst tmRetry fwSlots fwLoad fwRollback bays chans dies ports portLost fatal log
    timers tokens injSlots injNext archived archRetry events sessions dataPorts mgmtLast shadows commit counterOn
    copies nets syncOk tpgs keeperRef holdupOk checking checkDue recheck benches store waiting blocked delays
    hostPosts postEnds binds bufs inst lastCore drains lastFired fireNo delayNo oldTick dmas dmaLast dmaPosts lanes links streams ceSince
    recovery catchAt scrubbed hbmQ ledger ledgerOld ledgerDoms ledgerCorr ledgerQ ledgerHeld ledgerDue assayed keeperAt
    keeperOff aliveHigh aliveFreq aliveAt watchdog wdArmed vauxAt tap temps beat resetDue startRef coreOut switchTo
    dropped pending} :
    Hld s { t with
      reply := reply, now := now, fresh := fresh, shingles := shingles, bank := bank, tsets := tsets,
      mem := mem, tags := tags, claims := claims, ridge := ridge, ridgeDrv := ridgeDrv, ridgeWay := ridgeWay, purlin
      := purlin, trigOut := trigOut, keys := keys,  tmPort := tmPort, tmTest :=
      tmTest, nonces := nonces, tmFirst := tmFirst, tmRetry := tmRetry, fwSlots := fwSlots, fwLoad := fwLoad,
      fwRollback := fwRollback, bays := bays, chans := chans, dies := dies, ports := ports, portLost := portLost,
      fatal := fatal, log := log, timers := timers, tokens := tokens, injSlots := injSlots, injNext := injNext,
      archived := archived, archRetry := archRetry, events := events, sessions := sessions, dataPorts := dataPorts,
      mgmtLast := mgmtLast, shadows := shadows, commit := commit, counterOn := counterOn, copies := copies, nets :=
      nets, syncOk := syncOk, tpgs := tpgs, keeperRef := keeperRef, holdupOk := holdupOk, checking := checking,
      checkDue := checkDue, recheck := recheck, benches := benches, store := store, waiting := waiting, blocked :=
      blocked, delays := delays, hostPosts := hostPosts, postEnds := postEnds, binds := binds, bufs := bufs, inst :=
      inst, lastCore := lastCore, drains := drains, lastFired := lastFired, fireNo := fireNo, delayNo := delayNo, oldTick := oldTick, dmas := dmas, dmaLast := dmaLast, dmaPosts
      := dmaPosts, lanes := lanes, links := links, streams := streams, ceSince := ceSince, recovery := recovery,
      catchAt := catchAt, scrubbed := scrubbed, hbmQ := hbmQ, ledger := ledger, ledgerOld := ledgerOld, ledgerDoms := ledgerDoms,
      ledgerCorr := ledgerCorr, ledgerQ := ledgerQ, ledgerHeld := ledgerHeld, ledgerDue := ledgerDue, assayed :=
      assayed, keeperAt := keeperAt, keeperOff := keeperOff, aliveHigh := aliveHigh, aliveFreq := aliveFreq, aliveAt
      := aliveAt, watchdog := watchdog, wdArmed := wdArmed, vauxAt := vauxAt, tap := tap, temps := temps, beat :=
      beat, resetDue := resetDue, startRef := startRef, coreOut := coreOut, switchTo := switchTo, dropped := dropped,
      pending := pending } := Hld.of h rfl rfl

theorem State.setO_hld {s : State} {x_s : State} {x_k x_v : Nat} (h_x_s : Hld s x_s) (hk : ¬ holdObj x_k) : Hld s (State.setO x_s x_k x_v) :=
  ⟨fun j hj => Eq.trans (State.getO_setO_ne x_s (fun e : j = x_k => hk (e ▸ hj)) x_v) (h_x_s.get j hj), h_x_s.secrets⟩

theorem State.setB_hld {s : State} {x_s : State} {x_b : Bay} {x_o x_v : Nat} (h_x_s : Hld s x_s) (hk : x_o < 65536) :
    Hld s (State.setB x_s x_b x_o x_v) := State.setO_hld h_x_s (by simp only [holdObj, keyB]; omega)

theorem State.setC_hld {s : State} {x_s : State} {x_c : Chan} {x_o x_v : Nat} (h_x_s : Hld s x_s) (hk : x_o < 16384) :
    Hld s (State.setC x_s x_c x_o x_v) := State.setO_hld h_x_s (by simp only [holdObj, keyC]; omega)

theorem State.incO_hld {s : State} {x_s : State} {x_k : Nat} (h_x_s : Hld s x_s) (hk : ¬ holdObj x_k) : Hld s (State.incO x_s x_k) := State.setO_hld h_x_s hk

theorem State.modBay_hld {s : State} {x_s : State} {x_b : Bay} {x_f : BayU → BayU} (h_x_s : Hld s x_s) : Hld s (State.modBay x_s x_b x_f) := by
  unfold State.modBay
  repeat' first
    | (with_reducible first | assumption | exact Hld.refl _)
    | (refine Hld.upd ?_)

theorem State.modChan_hld {s : State} {x_s : State} {x_c : Chan} {x_f : ChanU → ChanU} (h_x_s : Hld s x_s) : Hld s (State.modChan x_s x_c x_f) := by
  unfold State.modChan
  repeat' first
    | (with_reducible first | assumption | exact Hld.refl _)
    | (refine Hld.upd ?_)

theorem State.modDie_hld {s : State} {x_s : State} {x_d : Die} {x_f : DieU → DieU} (h_x_s : Hld s x_s) : Hld s (State.modDie x_s x_d x_f) := by
  unfold State.modDie
  repeat' first
    | (with_reducible first | assumption | exact Hld.refl _)
    | (refine Hld.upd ?_)

theorem State.each_hld {s t : State} {α : Type} {l : List α} {f : State → α → State} (h : Hld s t)
    (hf : ∀ u a, a ∈ l → Hld s u → Hld s (f u a)) : Hld s (t.each l f) := by
  unfold State.each
  induction l generalizing t with
  | nil => exact h
  | cons a l ih => exact ih (hf _ _ List.mem_cons_self h) (fun u x hx => hf u x (List.mem_cons_of_mem _ hx))

theorem State.eventCount_hld {s : State} {x_s : State} {x_n : Nat} {x_t : Nat} {x_detail : Nat} (h_x_s : Hld s x_s) : Hld s (State.eventCount x_s x_n x_t x_detail) := by
  unfold State.eventCount
  repeat' first
    | (with_reducible first | assumption | exact Hld.refl _)
    | (show ¬ holdObj _; first | decide | omega | (simp only [holdObj, keyB, keyC, keyCap, keySite, keyPc, keyA, keyG, keyBench, keyNode, keyEng, keyDma, keyLane, keyLink, keyStream, keyStack, keyPort, keyTpg, key, RSrc.COUNT, RSrc.LAST_DETAIL, RSrc.LAST_TIME]; omega) | (simp only [holdObj, keyB, keyC, keyCap, keySite, keyPc, keyA, keyG, keyBench, keyNode, keyEng, keyDma, keyLane, keyLink, keyStream, keyStack, keyPort, keyTpg, key, RSrc.COUNT, RSrc.LAST_DETAIL, RSrc.LAST_TIME, List.mem_range, List.mem_cons, List.not_mem_nil, or_false] at *; omega) | (split <;> first | decide | (simp only [holdObj, keyB, keyC, keyCap, keySite, keyPc, keyA, keyG, keyBench, keyNode, keyEng, keyDma, keyLane, keyLink, keyStream, keyStack, keyPort, keyTpg, key, RSrc.COUNT, RSrc.LAST_DETAIL, RSrc.LAST_TIME]; omega)))
    | (show _ < _; first | decide | omega | (simp only [holdObj, keyB, keyC, keyCap, keySite, keyPc, keyA, keyG, keyBench, keyNode, keyEng, keyDma, keyLane, keyLink, keyStream, keyStack, keyPort, keyTpg, key, RSrc.COUNT, RSrc.LAST_DETAIL, RSrc.LAST_TIME]; omega) | (simp only [holdObj, keyB, keyC, keyCap, keySite, keyPc, keyA, keyG, keyBench, keyNode, keyEng, keyDma, keyLane, keyLink, keyStream, keyStack, keyPort, keyTpg, key, RSrc.COUNT, RSrc.LAST_DETAIL, RSrc.LAST_TIME, List.mem_range, List.mem_cons, List.not_mem_nil, or_false] at *; omega) | (split <;> first | decide | (simp only [holdObj, keyB, keyC, keyCap, keySite, keyPc, keyA, keyG, keyBench, keyNode, keyEng, keyDma, keyLane, keyLink, keyStream, keyStack, keyPort, keyTpg, key, RSrc.COUNT, RSrc.LAST_DETAIL, RSrc.LAST_TIME]; omega)))
    | (intro x_1; refine (fun hx : Hld s x_1 => ?_) ?_; (clear_value x_1); rotate_left; (unfold x_1))
    | (intro x_1; clear_value x_1)
    | intro _
    | with_reducible apply State.setO_hld
    | lift_lets -underBinder

theorem State.eventNotes_hld {s : State} {x_s : State} {x_n : Nat} {x_t : Nat} {x_detail : Nat} (h_x_s : Hld s x_s) : Hld s (State.eventNotes x_s x_n x_t x_detail) := by
  unfold State.eventNotes
  repeat' first
    | (with_reducible first | assumption | exact Hld.refl _)
    | intro _
    | with_reducible apply Hld.ite
    | (refine Hld.upd ?_)

theorem State.eventRoom_hld {s : State} {x_s : State} (h_x_s : Hld s x_s) : Hld s (State.eventRoom x_s) := by
  unfold State.eventRoom
  repeat' first
    | (with_reducible first | assumption | exact Hld.refl _)
    | (show ¬ holdObj _; first | decide | omega | (simp only [holdObj, keyB, keyC, keyCap, keySite, keyPc, keyA, keyG, keyBench, keyNode, keyEng, keyDma, keyLane, keyLink, keyStream, keyStack, keyPort, keyTpg, key, R.EVENT_LOG_LOST]; omega) | (simp only [holdObj, keyB, keyC, keyCap, keySite, keyPc, keyA, keyG, keyBench, keyNode, keyEng, keyDma, keyLane, keyLink, keyStream, keyStack, keyPort, keyTpg, key, R.EVENT_LOG_LOST, List.mem_range, List.mem_cons, List.not_mem_nil, or_false] at *; omega) | (split <;> first | decide | (simp only [holdObj, keyB, keyC, keyCap, keySite, keyPc, keyA, keyG, keyBench, keyNode, keyEng, keyDma, keyLane, keyLink, keyStream, keyStack, keyPort, keyTpg, key, R.EVENT_LOG_LOST]; omega)))
    | (show _ < _; first | decide | omega | (simp only [holdObj, keyB, keyC, keyCap, keySite, keyPc, keyA, keyG, keyBench, keyNode, keyEng, keyDma, keyLane, keyLink, keyStream, keyStack, keyPort, keyTpg, key, R.EVENT_LOG_LOST]; omega) | (simp only [holdObj, keyB, keyC, keyCap, keySite, keyPc, keyA, keyG, keyBench, keyNode, keyEng, keyDma, keyLane, keyLink, keyStream, keyStack, keyPort, keyTpg, key, R.EVENT_LOG_LOST, List.mem_range, List.mem_cons, List.not_mem_nil, or_false] at *; omega) | (split <;> first | decide | (simp only [holdObj, keyB, keyC, keyCap, keySite, keyPc, keyA, keyG, keyBench, keyNode, keyEng, keyDma, keyLane, keyLink, keyStream, keyStack, keyPort, keyTpg, key, R.EVENT_LOG_LOST]; omega)))
    | (with_reducible first | apply State.incO_hld | apply Hld.ite)

theorem State.eventPut_hld {s : State} {x_s : State} {x_r : EventRec} (h_x_s : Hld s x_s) : Hld s (State.eventPut x_s x_r) := by
  unfold State.eventPut
  repeat' first
    | (with_reducible first | assumption | exact Hld.refl _)
    | (show ¬ holdObj _; first | decide | omega | (simp only [holdObj, keyB, keyC, keyCap, keySite, keyPc, keyA, keyG, keyBench, keyNode, keyEng, keyDma, keyLane, keyLink, keyStream, keyStack, keyPort, keyTpg, key, R.EVENT_LOG_COUNT]; omega) | (simp only [holdObj, keyB, keyC, keyCap, keySite, keyPc, keyA, keyG, keyBench, keyNode, keyEng, keyDma, keyLane, keyLink, keyStream, keyStack, keyPort, keyTpg, key, R.EVENT_LOG_COUNT, List.mem_range, List.mem_cons, List.not_mem_nil, or_false] at *; omega) | (split <;> first | decide | (simp only [holdObj, keyB, keyC, keyCap, keySite, keyPc, keyA, keyG, keyBench, keyNode, keyEng, keyDma, keyLane, keyLink, keyStream, keyStack, keyPort, keyTpg, key, R.EVENT_LOG_COUNT]; omega)))
    | (show _ < _; first | decide | omega | (simp only [holdObj, keyB, keyC, keyCap, keySite, keyPc, keyA, keyG, keyBench, keyNode, keyEng, keyDma, keyLane, keyLink, keyStream, keyStack, keyPort, keyTpg, key, R.EVENT_LOG_COUNT]; omega) | (simp only [holdObj, keyB, keyC, keyCap, keySite, keyPc, keyA, keyG, keyBench, keyNode, keyEng, keyDma, keyLane, keyLink, keyStream, keyStack, keyPort, keyTpg, key, R.EVENT_LOG_COUNT, List.mem_range, List.mem_cons, List.not_mem_nil, or_false] at *; omega) | (split <;> first | decide | (simp only [holdObj, keyB, keyC, keyCap, keySite, keyPc, keyA, keyG, keyBench, keyNode, keyEng, keyDma, keyLane, keyLink, keyStream, keyStack, keyPort, keyTpg, key, R.EVENT_LOG_COUNT]; omega)))
    | intro _
    | (with_reducible first | apply State.setO_hld)
    | (refine Hld.upd ?_)

theorem State.eventLog_hld {s : State} {x_s : State} {x_n : Nat} {x_t : Nat} {x_detail : Nat} (h_x_s : Hld s x_s) : Hld s (State.eventLog x_s x_n x_t x_detail) := by
  unfold State.eventLog
  repeat' first
    | (with_reducible first | assumption | exact Hld.refl _ | apply State.eventPut_hld | apply State.eventRoom_hld | apply Hld.ite)

theorem State.event_hld {s : State} {x_s : State} {x_n : Nat} {x_detail : Nat} (h_x_s : Hld s x_s) : Hld s (State.event x_s x_n x_detail) := by
  unfold State.event
  repeat' first
    | (with_reducible first | assumption | exact Hld.refl _ | apply State.eventLog_hld | apply State.eventNotes_hld | apply State.eventCount_hld)

theorem State.free_hld {s : State} {x_s : State} (h_x_s : Hld s x_s) : Hld s (State.free x_s).2 := by
  unfold State.free
  repeat' first
    | (with_reducible first | assumption | exact Hld.refl _ | apply Hld.ite2)
    | dsimp only
    | (refine Hld.upd ?_)
    | (refine Hld.upd ?_)

theorem State.occur_hld {s : State} {x_s : State} {x_n : Nat} (h_x_s : Hld s x_s) : Hld s (State.occur x_s x_n) := by
  unfold State.occur
  repeat' first
    | (with_reducible first | assumption | exact Hld.refl _ | apply State.event_hld | apply State.free_hld | apply Hld.ite2)
    | dsimp only

theorem State.send_hld {s : State} {x_s : State} {x_m : FaultMsg} (h_x_s : Hld s x_s) : Hld s (State.send x_s x_m) := by
  unfold State.send
  repeat' first
    | (with_reducible first | assumption | exact Hld.refl _)
    | (intro x_1; refine (fun hx : Hld s x_1 => ?_) ?_; (clear_value x_1); rotate_left; (unfold x_1))
    | (intro x_1; clear_value x_1)
    | intro _
    | with_reducible apply Hld.ite
    | lift_lets -underBinder
    | (refine Hld.upd ?_)

theorem State.fault_hld {s : State} {x_s : State} {x_unit : Nat} {x_kind : Nat} {x_address : Nat} (h_x_s : Hld s x_s) : Hld s (State.fault x_s x_unit x_kind x_address) := by
  unfold State.fault
  repeat' first
    | (with_reducible first | assumption | exact Hld.refl _ | apply State.send_hld)

theorem State.inhibit_hld {s : State} {x_s : State} {x_c : Chan} {x_cause : Nat} {x_on : Bool} (h_x_s : Hld s x_s) : Hld s (State.inhibit x_s x_c x_cause x_on) := by
  unfold State.inhibit
  repeat' first
    | (with_reducible first | assumption | exact Hld.refl _)
    | (show ¬ holdObj _; first | decide | omega | (simp only [holdObj, keyB, keyC, keyCap, keySite, keyPc, keyA, keyG, keyBench, keyNode, keyEng, keyDma, keyLane, keyLink, keyStream, keyStack, keyPort, keyTpg, key, RChan.INHIBIT_CAUSE]; omega) | (simp only [holdObj, keyB, keyC, keyCap, keySite, keyPc, keyA, keyG, keyBench, keyNode, keyEng, keyDma, keyLane, keyLink, keyStream, keyStack, keyPort, keyTpg, key, RChan.INHIBIT_CAUSE, List.mem_range, List.mem_cons, List.not_mem_nil, or_false] at *; omega) | (split <;> first | decide | (simp only [holdObj, keyB, keyC, keyCap, keySite, keyPc, keyA, keyG, keyBench, keyNode, keyEng, keyDma, keyLane, keyLink, keyStream, keyStack, keyPort, keyTpg, key, RChan.INHIBIT_CAUSE]; omega)))
    | (show _ < _; first | decide | omega | (simp only [holdObj, keyB, keyC, keyCap, keySite, keyPc, keyA, keyG, keyBench, keyNode, keyEng, keyDma, keyLane, keyLink, keyStream, keyStack, keyPort, keyTpg, key, RChan.INHIBIT_CAUSE]; omega) | (simp only [holdObj, keyB, keyC, keyCap, keySite, keyPc, keyA, keyG, keyBench, keyNode, keyEng, keyDma, keyLane, keyLink, keyStream, keyStack, keyPort, keyTpg, key, RChan.INHIBIT_CAUSE, List.mem_range, List.mem_cons, List.not_mem_nil, or_false] at *; omega) | (split <;> first | decide | (simp only [holdObj, keyB, keyC, keyCap, keySite, keyPc, keyA, keyG, keyBench, keyNode, keyEng, keyDma, keyLane, keyLink, keyStream, keyStack, keyPort, keyTpg, key, RChan.INHIBIT_CAUSE]; omega)))
    | with_reducible apply State.setC_hld

theorem State.inhibitBay_hld {s : State} {x_s : State} {x_b : Bay} {x_cause : Nat} {x_on : Bool} (h_x_s : Hld s x_s) : Hld s (State.inhibitBay x_s x_b x_cause x_on) := by
  unfold State.inhibitBay
  repeat' first
    | (with_reducible first | assumption | exact Hld.refl _)
    | intro _
    | (with_reducible first | apply State.each_hld | apply State.inhibit_hld)

theorem claimKey_hld (r : Resource) (h : r ≠ .timeShared) : ¬ holdObj (claimKey r) := by
  cases r <;> simp only [claimKey, holdObj, keyB, RBay.CLAIM_BLANK_TIMER, RBay.CLAIM_PROBE_ROUTE, RBay.CLAIM_CAPTURE_PARTITION,
    RBay.CLAIM_SPARE_PATH, R.CLAIM_TRIG, R.CLAIM_RIDGE, R.CLAIM_TPG, Nat.not_lt] <;> omega

theorem State.freeClaim_hld {s : State} {x_s : State} {x_r : Resource} (h_x_s : Hld s x_s) : Hld s (State.freeClaim x_s x_r) :=
  State.setO_hld (Hld.of h_x_s rfl rfl) (by cases x_r <;> simp only [claimKey, holdObj, keyB, RBay.CLAIM_BLANK_TIMER, RBay.CLAIM_PROBE_ROUTE, RBay.CLAIM_CAPTURE_PARTITION,
    RBay.CLAIM_SPARE_PATH, R.CLAIM_TRIG, R.CLAIM_RIDGE, R.CLAIM_TPG] <;> omega)

theorem State.writeBlocks_hld {s : State} {x_s : State} {x_addr : Nat} {x_data : Bytes} {x_stamp : Nat} (h_x_s : Hld s x_s) : Hld s (State.writeBlocks x_s x_addr x_data x_stamp) := by
  unfold State.writeBlocks
  repeat' first
    | (with_reducible first | assumption | exact Hld.refl _)
    | (intro x_1; refine (fun hx : Hld s x_1 => ?_) ?_; (clear_value x_1); rotate_left; (unfold x_1))
    | (intro x_1; clear_value x_1)
    | intro _
    | with_reducible apply State.each_hld
    | lift_lets -underBinder
    | (refine Hld.upd ?_)
    | (refine Hld.upd ?_)

theorem State.modRoll_hld {s : State} {x_s : State} {x_b : Bay} {x_f : Roll → Roll} (h_x_s : Hld s x_s) : Hld s (State.modRoll x_s x_b x_f) := by
  unfold State.modRoll
  repeat' first
    | (with_reducible first | assumption | exact Hld.refl _)
    | intro _
    | with_reducible apply State.modBay_hld
    | (refine Hld.upd ?_)

theorem State.ownPath_hld {s : State} {x_s : State} {x_b : Bay} (h_x_s : Hld s x_s) : Hld s (State.ownPath x_s x_b) := by
  unfold State.ownPath
  repeat' first
    | (with_reducible first | assumption | exact Hld.refl _)
    | (show ¬ holdObj _; first | decide | omega | (simp only [holdObj, keyB, keyC, keyCap, keySite, keyPc, keyA, keyG, keyBench, keyNode, keyEng, keyDma, keyLane, keyLink, keyStream, keyStack, keyPort, keyTpg, key, RChan.SELECTOR]; omega) | (simp only [holdObj, keyB, keyC, keyCap, keySite, keyPc, keyA, keyG, keyBench, keyNode, keyEng, keyDma, keyLane, keyLink, keyStream, keyStack, keyPort, keyTpg, key, RChan.SELECTOR, List.mem_range, List.mem_cons, List.not_mem_nil, or_false] at *; omega) | (split <;> first | decide | (simp only [holdObj, keyB, keyC, keyCap, keySite, keyPc, keyA, keyG, keyBench, keyNode, keyEng, keyDma, keyLane, keyLink, keyStream, keyStack, keyPort, keyTpg, key, RChan.SELECTOR]; omega)))
    | (show _ < _; first | decide | omega | (simp only [holdObj, keyB, keyC, keyCap, keySite, keyPc, keyA, keyG, keyBench, keyNode, keyEng, keyDma, keyLane, keyLink, keyStream, keyStack, keyPort, keyTpg, key, RChan.SELECTOR]; omega) | (simp only [holdObj, keyB, keyC, keyCap, keySite, keyPc, keyA, keyG, keyBench, keyNode, keyEng, keyDma, keyLane, keyLink, keyStream, keyStack, keyPort, keyTpg, key, RChan.SELECTOR, List.mem_range, List.mem_cons, List.not_mem_nil, or_false] at *; omega) | (split <;> first | decide | (simp only [holdObj, keyB, keyC, keyCap, keySite, keyPc, keyA, keyG, keyBench, keyNode, keyEng, keyDma, keyLane, keyLink, keyStream, keyStack, keyPort, keyTpg, key, RChan.SELECTOR]; omega)))
    | intro _
    | (with_reducible first | apply State.modRoll_hld | apply State.setC_hld | exact HldO.none | apply HldO.some | apply HldO.ite)
    | split
    | (refine Hld.upd ?_)

theorem State.oldValues_hld {s : State} {x_s : State} {x_b : Bay} (h_x_s : Hld s x_s) : Hld s (State.oldValues x_s x_b) := by
  unfold State.oldValues; split
  · refine State.modRoll_hld (State.each_hld h_x_s (fun u a ha hu => State.setC_hld hu ?_))
    have h1 := (List.of_mem_zip (show (a.1, a.2) ∈ _ from ha)).1
    have h2 : ∀ x ∈ pathObjs, x < 16384 := by decide
    exact h2 _ h1
  · exact h_x_s

theorem State.stepOver_hld {s : State} {x_s : State} {x_b : Bay} (h_x_s : Hld s x_s) : Hld s (State.stepOver x_s x_b) := by
  unfold State.stepOver
  repeat' first
    | (with_reducible first | assumption | exact Hld.refl _)
    | (show ¬ holdObj _; first | decide | omega | (simp only [holdObj, keyB, keyC, keyCap, keySite, keyPc, keyA, keyG, keyBench, keyNode, keyEng, keyDma, keyLane, keyLink, keyStream, keyStack, keyPort, keyTpg, key, R.ROLL_INTERVAL, RAssay.LAST_ROUND, RAssay.ROLL_ENABLE, RAssay.ROLL_STATE, RAssay.ROUNDS]; omega) | (simp only [holdObj, keyB, keyC, keyCap, keySite, keyPc, keyA, keyG, keyBench, keyNode, keyEng, keyDma, keyLane, keyLink, keyStream, keyStack, keyPort, keyTpg, key, R.ROLL_INTERVAL, RAssay.LAST_ROUND, RAssay.ROLL_ENABLE, RAssay.ROLL_STATE, RAssay.ROUNDS, List.mem_range, List.mem_cons, List.not_mem_nil, or_false] at *; omega) | (split <;> first | decide | (simp only [holdObj, keyB, keyC, keyCap, keySite, keyPc, keyA, keyG, keyBench, keyNode, keyEng, keyDma, keyLane, keyLink, keyStream, keyStack, keyPort, keyTpg, key, R.ROLL_INTERVAL, RAssay.LAST_ROUND, RAssay.ROLL_ENABLE, RAssay.ROLL_STATE, RAssay.ROUNDS]; omega)))
    | (show _ < _; first | decide | omega | (simp only [holdObj, keyB, keyC, keyCap, keySite, keyPc, keyA, keyG, keyBench, keyNode, keyEng, keyDma, keyLane, keyLink, keyStream, keyStack, keyPort, keyTpg, key, R.ROLL_INTERVAL, RAssay.LAST_ROUND, RAssay.ROLL_ENABLE, RAssay.ROLL_STATE, RAssay.ROUNDS]; omega) | (simp only [holdObj, keyB, keyC, keyCap, keySite, keyPc, keyA, keyG, keyBench, keyNode, keyEng, keyDma, keyLane, keyLink, keyStream, keyStack, keyPort, keyTpg, key, R.ROLL_INTERVAL, RAssay.LAST_ROUND, RAssay.ROLL_ENABLE, RAssay.ROLL_STATE, RAssay.ROUNDS, List.mem_range, List.mem_cons, List.not_mem_nil, or_false] at *; omega) | (split <;> first | decide | (simp only [holdObj, keyB, keyC, keyCap, keySite, keyPc, keyA, keyG, keyBench, keyNode, keyEng, keyDma, keyLane, keyLink, keyStream, keyStack, keyPort, keyTpg, key, R.ROLL_INTERVAL, RAssay.LAST_ROUND, RAssay.ROLL_ENABLE, RAssay.ROLL_STATE, RAssay.ROUNDS]; omega)))
    | (intro x_1; refine (fun hx : Hld s x_1 => ?_) ?_; (clear_value x_1); rotate_left; (unfold x_1))
    | (intro x_1; clear_value x_1)
    | intro _
    | (with_reducible first | apply State.modRoll_hld | apply State.setO_hld | apply State.freeClaim_hld | apply Hld.ite)
    | lift_lets -underBinder
    | (refine Hld.upd ?_)

theorem State.rollAbort_hld {s : State} {x_s : State} {x_b : Bay} (h_x_s : Hld s x_s) : Hld s (State.rollAbort x_s x_b) := by
  unfold State.rollAbort
  repeat' first
    | (with_reducible first | assumption | exact Hld.refl _)
    | (show ¬ holdObj _; first | decide | omega | (simp only [holdObj, keyB, keyC, keyCap, keySite, keyPc, keyA, keyG, keyBench, keyNode, keyEng, keyDma, keyLane, keyLink, keyStream, keyStack, keyPort, keyTpg, key, RAssay.STEP_ABORTS]; omega) | (simp only [holdObj, keyB, keyC, keyCap, keySite, keyPc, keyA, keyG, keyBench, keyNode, keyEng, keyDma, keyLane, keyLink, keyStream, keyStack, keyPort, keyTpg, key, RAssay.STEP_ABORTS, List.mem_range, List.mem_cons, List.not_mem_nil, or_false] at *; omega) | (split <;> first | decide | (simp only [holdObj, keyB, keyC, keyCap, keySite, keyPc, keyA, keyG, keyBench, keyNode, keyEng, keyDma, keyLane, keyLink, keyStream, keyStack, keyPort, keyTpg, key, RAssay.STEP_ABORTS]; omega)))
    | (show _ < _; first | decide | omega | (simp only [holdObj, keyB, keyC, keyCap, keySite, keyPc, keyA, keyG, keyBench, keyNode, keyEng, keyDma, keyLane, keyLink, keyStream, keyStack, keyPort, keyTpg, key, RAssay.STEP_ABORTS]; omega) | (simp only [holdObj, keyB, keyC, keyCap, keySite, keyPc, keyA, keyG, keyBench, keyNode, keyEng, keyDma, keyLane, keyLink, keyStream, keyStack, keyPort, keyTpg, key, RAssay.STEP_ABORTS, List.mem_range, List.mem_cons, List.not_mem_nil, or_false] at *; omega) | (split <;> first | decide | (simp only [holdObj, keyB, keyC, keyCap, keySite, keyPc, keyA, keyG, keyBench, keyNode, keyEng, keyDma, keyLane, keyLink, keyStream, keyStack, keyPort, keyTpg, key, RAssay.STEP_ABORTS]; omega)))
    | (intro x_1; refine (fun hx : Hld s x_1 => ?_) ?_; (clear_value x_1); rotate_left; (unfold x_1))
    | (intro x_1; clear_value x_1)
    | intro _
    | (with_reducible first | apply State.incO_hld | apply State.ownPath_hld | apply State.oldValues_hld | apply State.stepOver_hld | apply Hld.ite)
    | lift_lets -underBinder

theorem State.noteCode_hld {s : State} {x_s : State} {x_c : Chan} {x_m : Fin 10} (h_x_s : Hld s x_s) : Hld s (State.noteCode x_s x_c x_m) := by
  unfold State.noteCode
  repeat' first
    | (with_reducible first | assumption | exact Hld.refl _)
    | (intro x_1; refine (fun hx : Hld s x_1 => ?_) ?_; (clear_value x_1); rotate_left; (unfold x_1))
    | (intro x_1; clear_value x_1)
    | intro _
    | (with_reducible first | apply State.modChan_hld | exact HldO.none | apply HldO.some | apply HldO.ite)
    | lift_lets -underBinder
    | (refine Hld.upd ?_)

theorem State.setOutputs_hld {s : State} {x_s : State} {x_c : Chan} {x_l : List Nat} (h_x_s : Hld s x_s) : Hld s (State.setOutputs x_s x_c x_l) := by
  unfold State.setOutputs
  repeat' first
    | (with_reducible first | assumption | exact Hld.refl _)
    | (show ¬ holdObj _; first | decide | omega | (simp only [holdObj, keyB, keyC, keyCap, keySite, keyPc, keyA, keyG, keyBench, keyNode, keyEng, keyDma, keyLane, keyLink, keyStream, keyStack, keyPort, keyTpg, key, RChan.OUTPUT_CODE]; omega) | (simp only [holdObj, keyB, keyC, keyCap, keySite, keyPc, keyA, keyG, keyBench, keyNode, keyEng, keyDma, keyLane, keyLink, keyStream, keyStack, keyPort, keyTpg, key, RChan.OUTPUT_CODE, List.mem_range, List.mem_cons, List.not_mem_nil, or_false] at *; omega) | (split <;> first | decide | (simp only [holdObj, keyB, keyC, keyCap, keySite, keyPc, keyA, keyG, keyBench, keyNode, keyEng, keyDma, keyLane, keyLink, keyStream, keyStack, keyPort, keyTpg, key, RChan.OUTPUT_CODE]; omega)))
    | (show _ < _; first | decide | omega | (simp only [holdObj, keyB, keyC, keyCap, keySite, keyPc, keyA, keyG, keyBench, keyNode, keyEng, keyDma, keyLane, keyLink, keyStream, keyStack, keyPort, keyTpg, key, RChan.OUTPUT_CODE]; omega) | (simp only [holdObj, keyB, keyC, keyCap, keySite, keyPc, keyA, keyG, keyBench, keyNode, keyEng, keyDma, keyLane, keyLink, keyStream, keyStack, keyPort, keyTpg, key, RChan.OUTPUT_CODE, List.mem_range, List.mem_cons, List.not_mem_nil, or_false] at *; omega) | (split <;> first | decide | (simp only [holdObj, keyB, keyC, keyCap, keySite, keyPc, keyA, keyG, keyBench, keyNode, keyEng, keyDma, keyLane, keyLink, keyStream, keyStack, keyPort, keyTpg, key, RChan.OUTPUT_CODE]; omega)))
    | (intro x_1; refine (fun hx : Hld s x_1 => ?_) ?_; (clear_value x_1); rotate_left; (unfold x_1))
    | (intro x_1; clear_value x_1)
    | intro _
    | (with_reducible first | apply State.each_hld | apply State.noteCode_hld | apply State.setC_hld | apply Hld.ite)
    | lift_lets -underBinder

theorem State.modRef_hld {s : State} {x_s : State} {x_b : Bay} {x_f : RefChan → RefChan} (h_x_s : Hld s x_s) : Hld s (State.modRef x_s x_b x_f) := by
  unfold State.modRef
  repeat' first
    | (with_reducible first | assumption | exact Hld.refl _)
    | intro _
    | (with_reducible first | apply State.modBay_hld)
    | (refine Hld.upd ?_)

theorem State.setRef_hld {s : State} {x_s : State} {x_b : Bay} {x_l : List Nat} (h_x_s : Hld s x_s) : Hld s (State.setRef x_s x_b x_l) := by
  unfold State.setRef
  repeat' first
    | (with_reducible first | assumption | exact Hld.refl _)
    | (intro x_1; refine (fun hx : Hld s x_1 => ?_) ?_; (clear_value x_1); rotate_left; (unfold x_1))
    | (intro x_1; clear_value x_1)
    | intro _
    | (with_reducible first | apply State.modRef_hld | apply Hld.ite)
    | lift_lets -underBinder
    | split
    | dsimp only
    | (refine Hld.upd ?_)

theorem State.clearRef_hld {s : State} {x_s : State} {x_b : Bay} (h_x_s : Hld s x_s) : Hld s (State.clearRef x_s x_b) := by
  unfold State.clearRef
  repeat' first
    | (with_reducible first | assumption | exact Hld.refl _)
    | (with_reducible first | apply State.setRef_hld)

theorem State.endMeas_hld {s : State} {x_s : State} {x_c : Chan} {x_status : Nat} (h_x_s : Hld s x_s) : Hld s (State.endMeas x_s x_c x_status) := by
  unfold State.endMeas
  repeat' first
    | (with_reducible first | assumption | exact Hld.refl _)
    | (show ¬ holdObj _; first | decide | omega | (simp only [holdObj, keyB, keyC, keyCap, keySite, keyPc, keyA, keyG, keyBench, keyNode, keyEng, keyDma, keyLane, keyLink, keyStream, keyStack, keyPort, keyTpg, key, RChan.MEAS_STATUS]; omega) | (simp only [holdObj, keyB, keyC, keyCap, keySite, keyPc, keyA, keyG, keyBench, keyNode, keyEng, keyDma, keyLane, keyLink, keyStream, keyStack, keyPort, keyTpg, key, RChan.MEAS_STATUS, List.mem_range, List.mem_cons, List.not_mem_nil, or_false] at *; omega) | (split <;> first | decide | (simp only [holdObj, keyB, keyC, keyCap, keySite, keyPc, keyA, keyG, keyBench, keyNode, keyEng, keyDma, keyLane, keyLink, keyStream, keyStack, keyPort, keyTpg, key, RChan.MEAS_STATUS]; omega)))
    | (show _ < _; first | decide | omega | (simp only [holdObj, keyB, keyC, keyCap, keySite, keyPc, keyA, keyG, keyBench, keyNode, keyEng, keyDma, keyLane, keyLink, keyStream, keyStack, keyPort, keyTpg, key, RChan.MEAS_STATUS]; omega) | (simp only [holdObj, keyB, keyC, keyCap, keySite, keyPc, keyA, keyG, keyBench, keyNode, keyEng, keyDma, keyLane, keyLink, keyStream, keyStack, keyPort, keyTpg, key, RChan.MEAS_STATUS, List.mem_range, List.mem_cons, List.not_mem_nil, or_false] at *; omega) | (split <;> first | decide | (simp only [holdObj, keyB, keyC, keyCap, keySite, keyPc, keyA, keyG, keyBench, keyNode, keyEng, keyDma, keyLane, keyLink, keyStream, keyStack, keyPort, keyTpg, key, RChan.MEAS_STATUS]; omega)))
    | (intro x_1; refine (fun hx : Hld s x_1 => ?_) ?_; (clear_value x_1); rotate_left; (unfold x_1))
    | (intro x_1; clear_value x_1)
    | intro _
    | (with_reducible first | apply State.setC_hld | apply Hld.ite)
    | lift_lets -underBinder

theorem State.pmuOff_hld {s : State} {x_s : State} {x_c : Chan} (h_x_s : Hld s x_s) : Hld s (State.pmuOff x_s x_c) := by
  unfold State.pmuOff
  repeat' first
    | (with_reducible first | assumption | exact Hld.refl _)
    | (show ¬ holdObj _; first | decide | omega | (simp only [holdObj, keyB, keyC, keyCap, keySite, keyPc, keyA, keyG, keyBench, keyNode, keyEng, keyDma, keyLane, keyLink, keyStream, keyStack, keyPort, keyTpg, key, RChan.PMU_FLAGS, RChan.PMU_MODE]; omega) | (simp only [holdObj, keyB, keyC, keyCap, keySite, keyPc, keyA, keyG, keyBench, keyNode, keyEng, keyDma, keyLane, keyLink, keyStream, keyStack, keyPort, keyTpg, key, RChan.PMU_FLAGS, RChan.PMU_MODE, List.mem_range, List.mem_cons, List.not_mem_nil, or_false] at *; omega) | (split <;> first | decide | (simp only [holdObj, keyB, keyC, keyCap, keySite, keyPc, keyA, keyG, keyBench, keyNode, keyEng, keyDma, keyLane, keyLink, keyStream, keyStack, keyPort, keyTpg, key, RChan.PMU_FLAGS, RChan.PMU_MODE]; omega)))
    | (show _ < _; first | decide | omega | (simp only [holdObj, keyB, keyC, keyCap, keySite, keyPc, keyA, keyG, keyBench, keyNode, keyEng, keyDma, keyLane, keyLink, keyStream, keyStack, keyPort, keyTpg, key, RChan.PMU_FLAGS, RChan.PMU_MODE]; omega) | (simp only [holdObj, keyB, keyC, keyCap, keySite, keyPc, keyA, keyG, keyBench, keyNode, keyEng, keyDma, keyLane, keyLink, keyStream, keyStack, keyPort, keyTpg, key, RChan.PMU_FLAGS, RChan.PMU_MODE, List.mem_range, List.mem_cons, List.not_mem_nil, or_false] at *; omega) | (split <;> first | decide | (simp only [holdObj, keyB, keyC, keyCap, keySite, keyPc, keyA, keyG, keyBench, keyNode, keyEng, keyDma, keyLane, keyLink, keyStream, keyStack, keyPort, keyTpg, key, RChan.PMU_FLAGS, RChan.PMU_MODE]; omega)))
    | (with_reducible first | apply State.endMeas_hld | apply State.inhibit_hld | apply State.setC_hld | apply Hld.ite)

theorem State.pmuOffBay_hld {s : State} {x_s : State} {x_b : Bay} (h_x_s : Hld s x_s) : Hld s (State.pmuOffBay x_s x_b) := by
  unfold State.pmuOffBay
  repeat' first
    | (with_reducible first | assumption | exact Hld.refl _)
    | intro _
    | (with_reducible first | apply State.each_hld | apply State.pmuOff_hld)

theorem State.showClear_hld {s : State} {x_s : State} {x_d : Die} (h_x_s : Hld s x_s) : Hld s (State.showClear x_s x_d) := by
  unfold State.showClear
  repeat' first
    | (with_reducible first | assumption | exact Hld.refl _)
    | (show ¬ holdObj _; first | decide | omega | (simp only [holdObj, keyB, keyC, keyCap, keySite, keyPc, keyA, keyG, keyBench, keyNode, keyEng, keyDma, keyLane, keyLink, keyStream, keyStack, keyPort, keyTpg, key, RBay.CLEAR_STATE]; omega) | (simp only [holdObj, keyB, keyC, keyCap, keySite, keyPc, keyA, keyG, keyBench, keyNode, keyEng, keyDma, keyLane, keyLink, keyStream, keyStack, keyPort, keyTpg, key, RBay.CLEAR_STATE, List.mem_range, List.mem_cons, List.not_mem_nil, or_false] at *; omega) | (split <;> first | decide | (simp only [holdObj, keyB, keyC, keyCap, keySite, keyPc, keyA, keyG, keyBench, keyNode, keyEng, keyDma, keyLane, keyLink, keyStream, keyStack, keyPort, keyTpg, key, RBay.CLEAR_STATE]; omega)))
    | (show _ < _; first | decide | omega | (simp only [holdObj, keyB, keyC, keyCap, keySite, keyPc, keyA, keyG, keyBench, keyNode, keyEng, keyDma, keyLane, keyLink, keyStream, keyStack, keyPort, keyTpg, key, RBay.CLEAR_STATE]; omega) | (simp only [holdObj, keyB, keyC, keyCap, keySite, keyPc, keyA, keyG, keyBench, keyNode, keyEng, keyDma, keyLane, keyLink, keyStream, keyStack, keyPort, keyTpg, key, RBay.CLEAR_STATE, List.mem_range, List.mem_cons, List.not_mem_nil, or_false] at *; omega) | (split <;> first | decide | (simp only [holdObj, keyB, keyC, keyCap, keySite, keyPc, keyA, keyG, keyBench, keyNode, keyEng, keyDma, keyLane, keyLink, keyStream, keyStack, keyPort, keyTpg, key, RBay.CLEAR_STATE]; omega)))
    | intro _
    | (with_reducible first | apply State.each_hld | apply State.setB_hld)

theorem State.clearChan_hld {s : State} {x_s : State} {x_c : Chan} (h_x_s : Hld s x_s) : Hld s (State.clearChan x_s x_c) := by
  unfold State.clearChan
  repeat' first
    | (with_reducible first | assumption | exact Hld.refl _)
    | (show ¬ holdObj _; first | decide | omega | (simp only [holdObj, keyB, keyC, keyCap, keySite, keyPc, keyA, keyG, keyBench, keyNode, keyEng, keyDma, keyLane, keyLink, keyStream, keyStack, keyPort, keyTpg, key, RChan.LOAD_EN, RChan.SELECTOR]; omega) | (simp only [holdObj, keyB, keyC, keyCap, keySite, keyPc, keyA, keyG, keyBench, keyNode, keyEng, keyDma, keyLane, keyLink, keyStream, keyStack, keyPort, keyTpg, key, RChan.LOAD_EN, RChan.SELECTOR, List.mem_range, List.mem_cons, List.not_mem_nil, or_false] at *; omega) | (split <;> first | decide | (simp only [holdObj, keyB, keyC, keyCap, keySite, keyPc, keyA, keyG, keyBench, keyNode, keyEng, keyDma, keyLane, keyLink, keyStream, keyStack, keyPort, keyTpg, key, RChan.LOAD_EN, RChan.SELECTOR]; omega)))
    | (show _ < _; first | decide | omega | (simp only [holdObj, keyB, keyC, keyCap, keySite, keyPc, keyA, keyG, keyBench, keyNode, keyEng, keyDma, keyLane, keyLink, keyStream, keyStack, keyPort, keyTpg, key, RChan.LOAD_EN, RChan.SELECTOR]; omega) | (simp only [holdObj, keyB, keyC, keyCap, keySite, keyPc, keyA, keyG, keyBench, keyNode, keyEng, keyDma, keyLane, keyLink, keyStream, keyStack, keyPort, keyTpg, key, RChan.LOAD_EN, RChan.SELECTOR, List.mem_range, List.mem_cons, List.not_mem_nil, or_false] at *; omega) | (split <;> first | decide | (simp only [holdObj, keyB, keyC, keyCap, keySite, keyPc, keyA, keyG, keyBench, keyNode, keyEng, keyDma, keyLane, keyLink, keyStream, keyStack, keyPort, keyTpg, key, RChan.LOAD_EN, RChan.SELECTOR]; omega)))
    | (with_reducible first | apply State.setC_hld | apply State.pmuOff_hld | apply State.inhibit_hld | apply State.setOutputs_hld)

theorem State.showGuard_hld {s : State} {x_s : State} {x_c : Chan} (h_x_s : Hld s x_s) : Hld s (State.showGuard x_s x_c) := by
  unfold State.showGuard
  repeat' first
    | (with_reducible first | assumption | exact Hld.refl _)
    | (show ¬ holdObj _; first | decide | omega | (simp only [holdObj, keyB, keyC, keyCap, keySite, keyPc, keyA, keyG, keyBench, keyNode, keyEng, keyDma, keyLane, keyLink, keyStream, keyStack, keyPort, keyTpg, key, RChan.GUARD_STATE]; omega) | (simp only [holdObj, keyB, keyC, keyCap, keySite, keyPc, keyA, keyG, keyBench, keyNode, keyEng, keyDma, keyLane, keyLink, keyStream, keyStack, keyPort, keyTpg, key, RChan.GUARD_STATE, List.mem_range, List.mem_cons, List.not_mem_nil, or_false] at *; omega) | (split <;> first | decide | (simp only [holdObj, keyB, keyC, keyCap, keySite, keyPc, keyA, keyG, keyBench, keyNode, keyEng, keyDma, keyLane, keyLink, keyStream, keyStack, keyPort, keyTpg, key, RChan.GUARD_STATE]; omega)))
    | (show _ < _; first | decide | omega | (simp only [holdObj, keyB, keyC, keyCap, keySite, keyPc, keyA, keyG, keyBench, keyNode, keyEng, keyDma, keyLane, keyLink, keyStream, keyStack, keyPort, keyTpg, key, RChan.GUARD_STATE]; omega) | (simp only [holdObj, keyB, keyC, keyCap, keySite, keyPc, keyA, keyG, keyBench, keyNode, keyEng, keyDma, keyLane, keyLink, keyStream, keyStack, keyPort, keyTpg, key, RChan.GUARD_STATE, List.mem_range, List.mem_cons, List.not_mem_nil, or_false] at *; omega) | (split <;> first | decide | (simp only [holdObj, keyB, keyC, keyCap, keySite, keyPc, keyA, keyG, keyBench, keyNode, keyEng, keyDma, keyLane, keyLink, keyStream, keyStack, keyPort, keyTpg, key, RChan.GUARD_STATE]; omega)))
    | (intro x_1; refine (fun hx : Hld s x_1 => ?_) ?_; (clear_value x_1); rotate_left; (unfold x_1))
    | (intro x_1; clear_value x_1)
    | intro _
    | (with_reducible first | apply State.setC_hld | apply Hld.ite)
    | lift_lets -underBinder

theorem State.unresolve_hld {s : State} {x_s : State} {x_c : Chan} (h_x_s : Hld s x_s) : Hld s (State.unresolve x_s x_c) := by
  unfold State.unresolve
  repeat' first
    | (with_reducible first | assumption | exact Hld.refl _)
    | (show ¬ holdObj _; first | decide | omega | (simp only [holdObj, keyB, keyC, keyCap, keySite, keyPc, keyA, keyG, keyBench, keyNode, keyEng, keyDma, keyLane, keyLink, keyStream, keyStack, keyPort, keyTpg, key, RChan.GUARD_STATE]; omega) | (simp only [holdObj, keyB, keyC, keyCap, keySite, keyPc, keyA, keyG, keyBench, keyNode, keyEng, keyDma, keyLane, keyLink, keyStream, keyStack, keyPort, keyTpg, key, RChan.GUARD_STATE, List.mem_range, List.mem_cons, List.not_mem_nil, or_false] at *; omega) | (split <;> first | decide | (simp only [holdObj, keyB, keyC, keyCap, keySite, keyPc, keyA, keyG, keyBench, keyNode, keyEng, keyDma, keyLane, keyLink, keyStream, keyStack, keyPort, keyTpg, key, RChan.GUARD_STATE]; omega)))
    | (show _ < _; first | decide | omega | (simp only [holdObj, keyB, keyC, keyCap, keySite, keyPc, keyA, keyG, keyBench, keyNode, keyEng, keyDma, keyLane, keyLink, keyStream, keyStack, keyPort, keyTpg, key, RChan.GUARD_STATE]; omega) | (simp only [holdObj, keyB, keyC, keyCap, keySite, keyPc, keyA, keyG, keyBench, keyNode, keyEng, keyDma, keyLane, keyLink, keyStream, keyStack, keyPort, keyTpg, key, RChan.GUARD_STATE, List.mem_range, List.mem_cons, List.not_mem_nil, or_false] at *; omega) | (split <;> first | decide | (simp only [holdObj, keyB, keyC, keyCap, keySite, keyPc, keyA, keyG, keyBench, keyNode, keyEng, keyDma, keyLane, keyLink, keyStream, keyStack, keyPort, keyTpg, key, RChan.GUARD_STATE]; omega)))
    | (intro x_1; refine (fun hx : Hld s x_1 => ?_) ?_; (clear_value x_1); rotate_left; (unfold x_1))
    | (intro x_1; clear_value x_1)
    | intro _
    | (with_reducible first | apply State.modChan_hld | apply State.showGuard_hld | apply State.inhibit_hld | apply State.setC_hld)
    | lift_lets -underBinder
    | (refine Hld.upd ?_)

theorem State.assayAbort_hld {s : State} {x_s : State} {x_b : Bay} (h_x_s : Hld s x_s) : Hld s (State.assayAbort x_s x_b) := by
  unfold State.assayAbort
  repeat' first
    | (with_reducible first | assumption | exact Hld.refl _)
    | (show ¬ holdObj _; first | decide | omega | (simp only [holdObj, keyB, keyC, keyCap, keySite, keyPc, keyA, keyG, keyBench, keyNode, keyEng, keyDma, keyLane, keyLink, keyStream, keyStack, keyPort, keyTpg, key, RAssay.BAY_ASSAY_STATUS]; omega) | (simp only [holdObj, keyB, keyC, keyCap, keySite, keyPc, keyA, keyG, keyBench, keyNode, keyEng, keyDma, keyLane, keyLink, keyStream, keyStack, keyPort, keyTpg, key, RAssay.BAY_ASSAY_STATUS, List.mem_range, List.mem_cons, List.not_mem_nil, or_false] at *; omega) | (split <;> first | decide | (simp only [holdObj, keyB, keyC, keyCap, keySite, keyPc, keyA, keyG, keyBench, keyNode, keyEng, keyDma, keyLane, keyLink, keyStream, keyStack, keyPort, keyTpg, key, RAssay.BAY_ASSAY_STATUS]; omega)))
    | (show _ < _; first | decide | omega | (simp only [holdObj, keyB, keyC, keyCap, keySite, keyPc, keyA, keyG, keyBench, keyNode, keyEng, keyDma, keyLane, keyLink, keyStream, keyStack, keyPort, keyTpg, key, RAssay.BAY_ASSAY_STATUS]; omega) | (simp only [holdObj, keyB, keyC, keyCap, keySite, keyPc, keyA, keyG, keyBench, keyNode, keyEng, keyDma, keyLane, keyLink, keyStream, keyStack, keyPort, keyTpg, key, RAssay.BAY_ASSAY_STATUS, List.mem_range, List.mem_cons, List.not_mem_nil, or_false] at *; omega) | (split <;> first | decide | (simp only [holdObj, keyB, keyC, keyCap, keySite, keyPc, keyA, keyG, keyBench, keyNode, keyEng, keyDma, keyLane, keyLink, keyStream, keyStack, keyPort, keyTpg, key, RAssay.BAY_ASSAY_STATUS]; omega)))
    | intro _
    | (with_reducible first | apply State.setO_hld | apply State.each_hld | apply State.unresolve_hld | apply Hld.ite)

theorem State.assertClear_hld {s : State} {x_s : State} {x_d : Die} {x_src : Nat} (h_x_s : Hld s x_s) : Hld s (State.assertClear x_s x_d x_src) := by
  unfold State.assertClear
  repeat' first
    | (with_reducible first | assumption | exact Hld.refl _)
    | (intro x_1; refine (fun hx : Hld s x_1 => ?_) ?_; (clear_value x_1); rotate_left; (unfold x_1))
    | (intro x_1; clear_value x_1)
    | intro _
    | (with_reducible first | apply State.showClear_hld | apply State.modDie_hld | apply State.each_hld | apply State.assayAbort_hld | apply State.clearRef_hld | apply State.rollAbort_hld | apply State.clearChan_hld | apply Hld.ite)
    | lift_lets -underBinder
    | split
    | dsimp only
    | (refine Hld.upd ?_)

theorem State.setCap_hld {s : State} {x_s : State} {x_b : Bay} {x_m : Fin 5} {x_o x_v : Nat} (h_x_s : Hld s x_s) (hk : x_o < 256) :
    Hld s (State.setCap x_s x_b x_m x_o x_v) := State.setO_hld h_x_s (by simp only [holdObj, keyCap, keyB]; omega)

theorem State.modCap_hld {s : State} {x_s : State} {x_b : Bay} {x_m : Fin 5} {x_f : CapStream → CapStream} (h_x_s : Hld s x_s) : Hld s (State.modCap x_s x_b x_m x_f) := by
  unfold State.modCap
  repeat' first
    | (with_reducible first | assumption | exact Hld.refl _)
    | intro _
    | with_reducible apply State.modBay_hld
    | (refine Hld.upd ?_)

theorem State.openFrame_hld {s : State} {x_s : State} {x_b : Bay} {x_m : Fin 5} {x_f : CapFrame} (h_x_s : Hld s x_s) : Hld s (State.openFrame x_s x_b x_m x_f) := by
  unfold State.openFrame
  repeat' first
    | (with_reducible first | assumption | exact Hld.refl _)
    | (show ¬ holdObj _; first | decide | omega | (simp only [holdObj, keyB, keyC, keyCap, keySite, keyPc, keyA, keyG, keyBench, keyNode, keyEng, keyDma, keyLane, keyLink, keyStream, keyStack, keyPort, keyTpg, key, RCap.CONSUMED_FRAME, RCap.OVERRUN_FRAMES]; omega) | (simp only [holdObj, keyB, keyC, keyCap, keySite, keyPc, keyA, keyG, keyBench, keyNode, keyEng, keyDma, keyLane, keyLink, keyStream, keyStack, keyPort, keyTpg, key, RCap.CONSUMED_FRAME, RCap.OVERRUN_FRAMES, List.mem_range, List.mem_cons, List.not_mem_nil, or_false] at *; omega) | (split <;> first | decide | (simp only [holdObj, keyB, keyC, keyCap, keySite, keyPc, keyA, keyG, keyBench, keyNode, keyEng, keyDma, keyLane, keyLink, keyStream, keyStack, keyPort, keyTpg, key, RCap.CONSUMED_FRAME, RCap.OVERRUN_FRAMES]; omega)))
    | (show _ < _; first | decide | omega | (simp only [holdObj, keyB, keyC, keyCap, keySite, keyPc, keyA, keyG, keyBench, keyNode, keyEng, keyDma, keyLane, keyLink, keyStream, keyStack, keyPort, keyTpg, key, RCap.CONSUMED_FRAME, RCap.OVERRUN_FRAMES]; omega) | (simp only [holdObj, keyB, keyC, keyCap, keySite, keyPc, keyA, keyG, keyBench, keyNode, keyEng, keyDma, keyLane, keyLink, keyStream, keyStack, keyPort, keyTpg, key, RCap.CONSUMED_FRAME, RCap.OVERRUN_FRAMES, List.mem_range, List.mem_cons, List.not_mem_nil, or_false] at *; omega) | (split <;> first | decide | (simp only [holdObj, keyB, keyC, keyCap, keySite, keyPc, keyA, keyG, keyBench, keyNode, keyEng, keyDma, keyLane, keyLink, keyStream, keyStack, keyPort, keyTpg, key, RCap.CONSUMED_FRAME, RCap.OVERRUN_FRAMES]; omega)))
    | (intro x_1; refine (fun hx : Hld s x_1 => ?_) ?_; (clear_value x_1); rotate_left; (unfold x_1))
    | (intro x_1; clear_value x_1)
    | intro _
    | (with_reducible first | apply State.setCap_hld | apply State.occur_hld | apply State.modCap_hld | apply Hld.ite)
    | lift_lets -underBinder
    | split
    | dsimp only
    | (refine Hld.upd ?_)

theorem State.fixFirsts_hld {s : State} {x_s : State} {x_b : Bay} {x_m : Fin 5} (h_x_s : Hld s x_s) : Hld s (State.fixFirsts x_s x_b x_m) := by
  unfold State.fixFirsts
  repeat' first
    | (with_reducible first | assumption | exact Hld.refl _)
    | (intro x_1; refine (fun hx : Hld s x_1 => ?_) ?_; (clear_value x_1); rotate_left; (unfold x_1))
    | (intro x_1; clear_value x_1)
    | intro _
    | (with_reducible first | apply State.each_hld | apply State.modCap_hld)
    | lift_lets -underBinder
    | dsimp only
    | (refine Hld.upd ?_)

theorem State.closeFrame_hld {s : State} {x_s : State} {x_b : Bay} {x_m : Fin 5} {x_f : CapFrame} {x_hi : Nat} {x_e : Option WinEnd} {x_written : Bool} (h_x_s : Hld s x_s) : Hld s (State.closeFrame x_s x_b x_m x_f x_hi x_e x_written) := by
  unfold State.closeFrame
  repeat' first
    | (with_reducible first | assumption | exact Hld.refl _)
    | (show ¬ holdObj _; first | decide | omega | (simp only [holdObj, keyB, keyC, keyCap, keySite, keyPc, keyA, keyG, keyBench, keyNode, keyEng, keyDma, keyLane, keyLink, keyStream, keyStack, keyPort, keyTpg, key, RCap.LOST_FRAMES, RCap.WRITE_FRAME]; omega) | (simp only [holdObj, keyB, keyC, keyCap, keySite, keyPc, keyA, keyG, keyBench, keyNode, keyEng, keyDma, keyLane, keyLink, keyStream, keyStack, keyPort, keyTpg, key, RCap.LOST_FRAMES, RCap.WRITE_FRAME, List.mem_range, List.mem_cons, List.not_mem_nil, or_false] at *; omega) | (split <;> first | decide | (simp only [holdObj, keyB, keyC, keyCap, keySite, keyPc, keyA, keyG, keyBench, keyNode, keyEng, keyDma, keyLane, keyLink, keyStream, keyStack, keyPort, keyTpg, key, RCap.LOST_FRAMES, RCap.WRITE_FRAME]; omega)))
    | (show _ < _; first | decide | omega | (simp only [holdObj, keyB, keyC, keyCap, keySite, keyPc, keyA, keyG, keyBench, keyNode, keyEng, keyDma, keyLane, keyLink, keyStream, keyStack, keyPort, keyTpg, key, RCap.LOST_FRAMES, RCap.WRITE_FRAME]; omega) | (simp only [holdObj, keyB, keyC, keyCap, keySite, keyPc, keyA, keyG, keyBench, keyNode, keyEng, keyDma, keyLane, keyLink, keyStream, keyStack, keyPort, keyTpg, key, RCap.LOST_FRAMES, RCap.WRITE_FRAME, List.mem_range, List.mem_cons, List.not_mem_nil, or_false] at *; omega) | (split <;> first | decide | (simp only [holdObj, keyB, keyC, keyCap, keySite, keyPc, keyA, keyG, keyBench, keyNode, keyEng, keyDma, keyLane, keyLink, keyStream, keyStack, keyPort, keyTpg, key, RCap.LOST_FRAMES, RCap.WRITE_FRAME]; omega)))
    | (intro x_1; refine (fun hx : Hld s x_1 => ?_) ?_; (clear_value x_1); rotate_left; (unfold x_1))
    | (intro x_1; refine (fun hx : Hld s x_1.2 => ?_) ?_; (clear_value x_1); rotate_left; (unfold x_1))
    | (intro x_1; clear_value x_1)
    | intro _
    | (with_reducible first | apply State.fixFirsts_hld | apply State.free_hld | apply State.writeBlocks_hld | apply State.fault_hld | apply State.setCap_hld | apply State.modCap_hld | apply Hld.ite | apply Hld.ite1 | apply Hld.ite2)
    | lift_lets -underBinder
    | split
    | dsimp only
    | (refine Hld.upd ?_)

theorem State.endWindow_hld {s : State} {x_s : State} {x_b : Bay} {x_m : Fin 5} {x_f : CapFrame} {x_hi : Nat} {x_short : Bool} {x_written : Bool} (h_x_s : Hld s x_s) : Hld s (State.endWindow x_s x_b x_m x_f x_hi x_short x_written) := by
  unfold State.endWindow
  repeat' first
    | (with_reducible first | assumption | exact Hld.refl _)
    | (show ¬ holdObj _; first | decide | omega | (simp only [holdObj, keyB, keyC, keyCap, keySite, keyPc, keyA, keyG, keyBench, keyNode, keyEng, keyDma, keyLane, keyLink, keyStream, keyStack, keyPort, keyTpg, key, RCap.OLDEST, RCap.STREAM_STATUS]; omega) | (simp only [holdObj, keyB, keyC, keyCap, keySite, keyPc, keyA, keyG, keyBench, keyNode, keyEng, keyDma, keyLane, keyLink, keyStream, keyStack, keyPort, keyTpg, key, RCap.OLDEST, RCap.STREAM_STATUS, List.mem_range, List.mem_cons, List.not_mem_nil, or_false] at *; omega) | (split <;> first | decide | (simp only [holdObj, keyB, keyC, keyCap, keySite, keyPc, keyA, keyG, keyBench, keyNode, keyEng, keyDma, keyLane, keyLink, keyStream, keyStack, keyPort, keyTpg, key, RCap.OLDEST, RCap.STREAM_STATUS]; omega)))
    | (show _ < _; first | decide | omega | (simp only [holdObj, keyB, keyC, keyCap, keySite, keyPc, keyA, keyG, keyBench, keyNode, keyEng, keyDma, keyLane, keyLink, keyStream, keyStack, keyPort, keyTpg, key, RCap.OLDEST, RCap.STREAM_STATUS]; omega) | (simp only [holdObj, keyB, keyC, keyCap, keySite, keyPc, keyA, keyG, keyBench, keyNode, keyEng, keyDma, keyLane, keyLink, keyStream, keyStack, keyPort, keyTpg, key, RCap.OLDEST, RCap.STREAM_STATUS, List.mem_range, List.mem_cons, List.not_mem_nil, or_false] at *; omega) | (split <;> first | decide | (simp only [holdObj, keyB, keyC, keyCap, keySite, keyPc, keyA, keyG, keyBench, keyNode, keyEng, keyDma, keyLane, keyLink, keyStream, keyStack, keyPort, keyTpg, key, RCap.OLDEST, RCap.STREAM_STATUS]; omega)))
    | (intro x_1; refine (fun hx : Hld s x_1 => ?_) ?_; (clear_value x_1); rotate_left; (unfold x_1))
    | (intro x_1; refine (fun hx : Hld s x_1.2 => ?_) ?_; (clear_value x_1); rotate_left; (unfold x_1))
    | (intro x_1; clear_value x_1)
    | intro _
    | (with_reducible first | apply State.free_hld | apply State.modCap_hld | apply State.closeFrame_hld | apply State.occur_hld | apply State.setCap_hld | apply Hld.ite | apply Hld.ite1 | apply Hld.ite2)
    | lift_lets -underBinder
    | split
    | dsimp only
    | (refine Hld.upd ?_)

theorem State.endSegment_hld {s : State} {x_s : State} {x_b : Bay} {x_m : Fin 5} {x_at_ : Nat} (h_x_s : Hld s x_s) : Hld s (State.endSegment x_s x_b x_m x_at_) := by
  unfold State.endSegment
  repeat' first
    | (with_reducible first | assumption | exact Hld.refl _)
    | intro _
    | (with_reducible first | apply State.modCap_hld | apply Hld.ite)
    | split
    | (refine Hld.upd ?_)

theorem State.cutWindow_hld {s : State} {x_s : State} {x_b : Bay} {x_m : Fin 5} (h_x_s : Hld s x_s) : Hld s (State.cutWindow x_s x_b x_m) := by
  unfold State.cutWindow
  repeat' first
    | (with_reducible first | assumption | exact Hld.refl _)
    | (intro x_1; refine (fun hx : Hld s x_1 => ?_) ?_; (clear_value x_1); rotate_left; (unfold x_1))
    | (intro x_1; clear_value x_1)
    | intro _
    | (with_reducible first | apply State.openFrame_hld | apply State.modCap_hld | apply Hld.ite)
    | lift_lets -underBinder
    | split
    | dsimp only
    | (refine Hld.upd ?_)

theorem State.capStop_hld {s : State} {x_s : State} {x_b : Bay} (h_x_s : Hld s x_s) : Hld s (State.capStop x_s x_b) := by
  unfold State.capStop
  repeat' first
    | (with_reducible first | assumption | exact Hld.refl _)
    | (show ¬ holdObj _; first | decide | omega | (simp only [holdObj, keyB, keyC, keyCap, keySite, keyPc, keyA, keyG, keyBench, keyNode, keyEng, keyDma, keyLane, keyLink, keyStream, keyStack, keyPort, keyTpg, key, RCap.STREAM_STATUS]; omega) | (simp only [holdObj, keyB, keyC, keyCap, keySite, keyPc, keyA, keyG, keyBench, keyNode, keyEng, keyDma, keyLane, keyLink, keyStream, keyStack, keyPort, keyTpg, key, RCap.STREAM_STATUS, List.mem_range, List.mem_cons, List.not_mem_nil, or_false] at *; omega) | (split <;> first | decide | (simp only [holdObj, keyB, keyC, keyCap, keySite, keyPc, keyA, keyG, keyBench, keyNode, keyEng, keyDma, keyLane, keyLink, keyStream, keyStack, keyPort, keyTpg, key, RCap.STREAM_STATUS]; omega)))
    | (show _ < _; first | decide | omega | (simp only [holdObj, keyB, keyC, keyCap, keySite, keyPc, keyA, keyG, keyBench, keyNode, keyEng, keyDma, keyLane, keyLink, keyStream, keyStack, keyPort, keyTpg, key, RCap.STREAM_STATUS]; omega) | (simp only [holdObj, keyB, keyC, keyCap, keySite, keyPc, keyA, keyG, keyBench, keyNode, keyEng, keyDma, keyLane, keyLink, keyStream, keyStack, keyPort, keyTpg, key, RCap.STREAM_STATUS, List.mem_range, List.mem_cons, List.not_mem_nil, or_false] at *; omega) | (split <;> first | decide | (simp only [holdObj, keyB, keyC, keyCap, keySite, keyPc, keyA, keyG, keyBench, keyNode, keyEng, keyDma, keyLane, keyLink, keyStream, keyStack, keyPort, keyTpg, key, RCap.STREAM_STATUS]; omega)))
    | intro _
    | (with_reducible first | apply State.each_hld | apply State.cutWindow_hld | apply State.setCap_hld | apply State.endSegment_hld | apply Hld.ite)
    | split

theorem State.modTmu_hld {s : State} {x_s : State} {x_b : Bay} {x_f : Tmu → Tmu} (h_x_s : Hld s x_s) : Hld s (State.modTmu x_s x_b x_f) := by
  unfold State.modTmu
  repeat' first
    | (with_reducible first | assumption | exact Hld.refl _)
    | intro _
    | with_reducible apply State.modBay_hld
    | (refine Hld.upd ?_)

theorem State.tmuDisarm_hld {s : State} {x_s : State} {x_b : Bay} (h_x_s : Hld s x_s) : Hld s (State.tmuDisarm x_s x_b) := by
  unfold State.tmuDisarm
  repeat' first
    | (with_reducible first | assumption | exact Hld.refl _)
    | (show ¬ holdObj _; first | decide | omega | (simp only [holdObj, keyB, keyC, keyCap, keySite, keyPc, keyA, keyG, keyBench, keyNode, keyEng, keyDma, keyLane, keyLink, keyStream, keyStack, keyPort, keyTpg, key, RBay.TMU_STATE]; omega) | (simp only [holdObj, keyB, keyC, keyCap, keySite, keyPc, keyA, keyG, keyBench, keyNode, keyEng, keyDma, keyLane, keyLink, keyStream, keyStack, keyPort, keyTpg, key, RBay.TMU_STATE, List.mem_range, List.mem_cons, List.not_mem_nil, or_false] at *; omega) | (split <;> first | decide | (simp only [holdObj, keyB, keyC, keyCap, keySite, keyPc, keyA, keyG, keyBench, keyNode, keyEng, keyDma, keyLane, keyLink, keyStream, keyStack, keyPort, keyTpg, key, RBay.TMU_STATE]; omega)))
    | (show _ < _; first | decide | omega | (simp only [holdObj, keyB, keyC, keyCap, keySite, keyPc, keyA, keyG, keyBench, keyNode, keyEng, keyDma, keyLane, keyLink, keyStream, keyStack, keyPort, keyTpg, key, RBay.TMU_STATE]; omega) | (simp only [holdObj, keyB, keyC, keyCap, keySite, keyPc, keyA, keyG, keyBench, keyNode, keyEng, keyDma, keyLane, keyLink, keyStream, keyStack, keyPort, keyTpg, key, RBay.TMU_STATE, List.mem_range, List.mem_cons, List.not_mem_nil, or_false] at *; omega) | (split <;> first | decide | (simp only [holdObj, keyB, keyC, keyCap, keySite, keyPc, keyA, keyG, keyBench, keyNode, keyEng, keyDma, keyLane, keyLink, keyStream, keyStack, keyPort, keyTpg, key, RBay.TMU_STATE]; omega)))
    | intro _
    | (with_reducible first | apply State.setB_hld | apply State.modTmu_hld)
    | (refine Hld.upd ?_)

theorem State.zeroSlot_hld {s : State} {x_s : State} {x_k : Nat} (h_x_s : Hld s x_s) (hk : x_k < 64) : Hld s (State.zeroSlot x_s x_k) := by
  unfold State.zeroSlot; dsimp only
  exact State.setO_hld (State.setO_hld (Hld.of h_x_s rfl rfl) (by simp only [holdObj, R.SLOT_STATE]; omega)) (by simp only [holdObj, R.SLOT_BASE]; omega)

theorem State.zeroSlots_hld {s : State} {x_s : State} (h_x_s : Hld s x_s) : Hld s (State.zeroSlots x_s) := by
  unfold State.zeroSlots
  exact State.each_hld h_x_s (fun u a ha hu => State.zeroSlot_hld hu (List.mem_range.mp ha))

theorem State.showSlots_hld {s : State} {x_s : State} (h_x_s : Hld s x_s) : Hld s (State.showSlots x_s) := by
  unfold State.showSlots
  repeat' first
    | (with_reducible first | assumption | exact Hld.refl _)
    | (show ¬ holdObj _; first | decide | omega | (simp only [holdObj, keyB, keyC, keyCap, keySite, keyPc, keyA, keyG, keyBench, keyNode, keyEng, keyDma, keyLane, keyLink, keyStream, keyStack, keyPort, keyTpg, key, R.SLOT_STATE]; omega) | (simp only [holdObj, keyB, keyC, keyCap, keySite, keyPc, keyA, keyG, keyBench, keyNode, keyEng, keyDma, keyLane, keyLink, keyStream, keyStack, keyPort, keyTpg, key, R.SLOT_STATE, List.mem_range, List.mem_cons, List.not_mem_nil, or_false] at *; omega) | (split <;> first | decide | (simp only [holdObj, keyB, keyC, keyCap, keySite, keyPc, keyA, keyG, keyBench, keyNode, keyEng, keyDma, keyLane, keyLink, keyStream, keyStack, keyPort, keyTpg, key, R.SLOT_STATE]; omega)))
    | (show _ < _; first | decide | omega | (simp only [holdObj, keyB, keyC, keyCap, keySite, keyPc, keyA, keyG, keyBench, keyNode, keyEng, keyDma, keyLane, keyLink, keyStream, keyStack, keyPort, keyTpg, key, R.SLOT_STATE]; omega) | (simp only [holdObj, keyB, keyC, keyCap, keySite, keyPc, keyA, keyG, keyBench, keyNode, keyEng, keyDma, keyLane, keyLink, keyStream, keyStack, keyPort, keyTpg, key, R.SLOT_STATE, List.mem_range, List.mem_cons, List.not_mem_nil, or_false] at *; omega) | (split <;> first | decide | (simp only [holdObj, keyB, keyC, keyCap, keySite, keyPc, keyA, keyG, keyBench, keyNode, keyEng, keyDma, keyLane, keyLink, keyStream, keyStack, keyPort, keyTpg, key, R.SLOT_STATE]; omega)))
    | (intro x_1; refine (fun hx : Hld s x_1 => ?_) ?_; (clear_value x_1); rotate_left; (unfold x_1))
    | (intro x_1; clear_value x_1)
    | intro _
    | (with_reducible first | apply State.each_hld | apply State.setO_hld | apply Hld.ite)
    | lift_lets -underBinder

theorem State.endUnderrun_hld {s : State} {x_s : State} {x_b : Bay} (h_x_s : Hld s x_s) : Hld s (State.endUnderrun x_s x_b) := by
  unfold State.endUnderrun
  repeat' first
    | (with_reducible first | assumption | exact Hld.refl _)
    | intro _
    | (with_reducible first | apply State.modBay_hld)
    | split
    | (refine Hld.upd ?_)

theorem State.setState_hld {s : State} {x_s : State} {x_b : Bay} {x_st : Nat} (h_x_s : Hld s x_s) : Hld s (State.setState x_s x_b x_st) := by
  unfold State.setState
  repeat' first
    | (with_reducible first | assumption | exact Hld.refl _)
    | (show ¬ holdObj _; first | decide | omega | (simp only [holdObj, keyB, keyC, keyCap, keySite, keyPc, keyA, keyG, keyBench, keyNode, keyEng, keyDma, keyLane, keyLink, keyStream, keyStack, keyPort, keyTpg, key]; omega) | (simp only [holdObj, keyB, keyC, keyCap, keySite, keyPc, keyA, keyG, keyBench, keyNode, keyEng, keyDma, keyLane, keyLink, keyStream, keyStack, keyPort, keyTpg, key, List.mem_range, List.mem_cons, List.not_mem_nil, or_false] at *; omega) | (split <;> first | decide | (simp only [holdObj, keyB, keyC, keyCap, keySite, keyPc, keyA, keyG, keyBench, keyNode, keyEng, keyDma, keyLane, keyLink, keyStream, keyStack, keyPort, keyTpg, key]; omega)))
    | (show _ < _; first | decide | omega | (simp only [holdObj, keyB, keyC, keyCap, keySite, keyPc, keyA, keyG, keyBench, keyNode, keyEng, keyDma, keyLane, keyLink, keyStream, keyStack, keyPort, keyTpg, key]; omega) | (simp only [holdObj, keyB, keyC, keyCap, keySite, keyPc, keyA, keyG, keyBench, keyNode, keyEng, keyDma, keyLane, keyLink, keyStream, keyStack, keyPort, keyTpg, key, List.mem_range, List.mem_cons, List.not_mem_nil, or_false] at *; omega) | (split <;> first | decide | (simp only [holdObj, keyB, keyC, keyCap, keySite, keyPc, keyA, keyG, keyBench, keyNode, keyEng, keyDma, keyLane, keyLink, keyStream, keyStack, keyPort, keyTpg, key]; omega)))
    | (with_reducible first | apply State.event_hld | apply State.setB_hld | apply Hld.ite)

theorem State.writeBank_hld {s : State} {x_s : State} {x_b : Bay} {x_image : Bytes} {x_n : Nat} (h_x_s : Hld s x_s) : Hld s (State.writeBank x_s x_b x_image x_n) := by
  unfold State.writeBank
  repeat' first
    | (with_reducible first | assumption | exact Hld.refl _)
    | (intro x_1; refine (fun hx : Hld s x_1 => ?_) ?_; (clear_value x_1); rotate_left; (unfold x_1))
    | (intro x_1; clear_value x_1)
    | intro _
    | (with_reducible first | apply State.each_hld | apply State.modBay_hld)
    | lift_lets -underBinder
    | dsimp only
    | (refine Hld.upd ?_)

theorem State.detachTypes_hld {s : State} {x_s : State} {x_b : Bay} (h_x_s : Hld s x_s) : Hld s (State.detachTypes x_s x_b) := by
  unfold State.detachTypes
  repeat' first
    | (with_reducible first | assumption | exact Hld.refl _)
    | (show ¬ holdObj _; first | decide | omega | (simp only [holdObj, keyB, keyC, keyCap, keySite, keyPc, keyA, keyG, keyBench, keyNode, keyEng, keyDma, keyLane, keyLink, keyStream, keyStack, keyPort, keyTpg, key, RBay.CUSTOM_ENTRY]; omega) | (simp only [holdObj, keyB, keyC, keyCap, keySite, keyPc, keyA, keyG, keyBench, keyNode, keyEng, keyDma, keyLane, keyLink, keyStream, keyStack, keyPort, keyTpg, key, RBay.CUSTOM_ENTRY, List.mem_range, List.mem_cons, List.not_mem_nil, or_false] at *; omega) | (split <;> first | decide | (simp only [holdObj, keyB, keyC, keyCap, keySite, keyPc, keyA, keyG, keyBench, keyNode, keyEng, keyDma, keyLane, keyLink, keyStream, keyStack, keyPort, keyTpg, key, RBay.CUSTOM_ENTRY]; omega)))
    | (show _ < _; first | decide | omega | (simp only [holdObj, keyB, keyC, keyCap, keySite, keyPc, keyA, keyG, keyBench, keyNode, keyEng, keyDma, keyLane, keyLink, keyStream, keyStack, keyPort, keyTpg, key, RBay.CUSTOM_ENTRY]; omega) | (simp only [holdObj, keyB, keyC, keyCap, keySite, keyPc, keyA, keyG, keyBench, keyNode, keyEng, keyDma, keyLane, keyLink, keyStream, keyStack, keyPort, keyTpg, key, RBay.CUSTOM_ENTRY, List.mem_range, List.mem_cons, List.not_mem_nil, or_false] at *; omega) | (split <;> first | decide | (simp only [holdObj, keyB, keyC, keyCap, keySite, keyPc, keyA, keyG, keyBench, keyNode, keyEng, keyDma, keyLane, keyLink, keyStream, keyStack, keyPort, keyTpg, key, RBay.CUSTOM_ENTRY]; omega)))
    | intro _
    | (with_reducible first | apply State.each_hld | apply State.setB_hld)

theorem State.cutLoad_hld {s : State} {x_s : State} {x_b : Bay} {x_image : Bytes} {x_n : Nat} (h_x_s : Hld s x_s) : Hld s (State.cutLoad x_s x_b x_image x_n) := by
  unfold State.cutLoad
  repeat' first
    | (with_reducible first | assumption | exact Hld.refl _)
    | (show ¬ holdObj _; first | decide | omega | (simp only [holdObj, keyB, keyC, keyCap, keySite, keyPc, keyA, keyG, keyBench, keyNode, keyEng, keyDma, keyLane, keyLink, keyStream, keyStack, keyPort, keyTpg, key, RBay.LOAD_STATUS]; omega) | (simp only [holdObj, keyB, keyC, keyCap, keySite, keyPc, keyA, keyG, keyBench, keyNode, keyEng, keyDma, keyLane, keyLink, keyStream, keyStack, keyPort, keyTpg, key, RBay.LOAD_STATUS, List.mem_range, List.mem_cons, List.not_mem_nil, or_false] at *; omega) | (split <;> first | decide | (simp only [holdObj, keyB, keyC, keyCap, keySite, keyPc, keyA, keyG, keyBench, keyNode, keyEng, keyDma, keyLane, keyLink, keyStream, keyStack, keyPort, keyTpg, key, RBay.LOAD_STATUS]; omega)))
    | (show _ < _; first | decide | omega | (simp only [holdObj, keyB, keyC, keyCap, keySite, keyPc, keyA, keyG, keyBench, keyNode, keyEng, keyDma, keyLane, keyLink, keyStream, keyStack, keyPort, keyTpg, key, RBay.LOAD_STATUS]; omega) | (simp only [holdObj, keyB, keyC, keyCap, keySite, keyPc, keyA, keyG, keyBench, keyNode, keyEng, keyDma, keyLane, keyLink, keyStream, keyStack, keyPort, keyTpg, key, RBay.LOAD_STATUS, List.mem_range, List.mem_cons, List.not_mem_nil, or_false] at *; omega) | (split <;> first | decide | (simp only [holdObj, keyB, keyC, keyCap, keySite, keyPc, keyA, keyG, keyBench, keyNode, keyEng, keyDma, keyLane, keyLink, keyStream, keyStack, keyPort, keyTpg, key, RBay.LOAD_STATUS]; omega)))
    | (intro x_1; refine (fun hx : Hld s x_1 => ?_) ?_; (clear_value x_1); rotate_left; (unfold x_1))
    | (intro x_1; clear_value x_1)
    | intro _
    | (with_reducible first | apply State.modBay_hld | apply State.writeBank_hld | apply State.detachTypes_hld | apply State.setB_hld)
    | lift_lets -underBinder
    | (refine Hld.upd ?_)

theorem State.cutByOff_hld {s : State} {x_s : State} {x_b : Bay} (h_x_s : Hld s x_s) : Hld s (State.cutByOff x_s x_b) := by
  unfold State.cutByOff
  repeat' first
    | (with_reducible first | assumption | exact Hld.refl _)
    | (show ¬ holdObj _; first | decide | omega | (simp only [holdObj, keyB, keyC, keyCap, keySite, keyPc, keyA, keyG, keyBench, keyNode, keyEng, keyDma, keyLane, keyLink, keyStream, keyStack, keyPort, keyTpg, key, RBay.LOAD_STATUS]; omega) | (simp only [holdObj, keyB, keyC, keyCap, keySite, keyPc, keyA, keyG, keyBench, keyNode, keyEng, keyDma, keyLane, keyLink, keyStream, keyStack, keyPort, keyTpg, key, RBay.LOAD_STATUS, List.mem_range, List.mem_cons, List.not_mem_nil, or_false] at *; omega) | (split <;> first | decide | (simp only [holdObj, keyB, keyC, keyCap, keySite, keyPc, keyA, keyG, keyBench, keyNode, keyEng, keyDma, keyLane, keyLink, keyStream, keyStack, keyPort, keyTpg, key, RBay.LOAD_STATUS]; omega)))
    | (show _ < _; first | decide | omega | (simp only [holdObj, keyB, keyC, keyCap, keySite, keyPc, keyA, keyG, keyBench, keyNode, keyEng, keyDma, keyLane, keyLink, keyStream, keyStack, keyPort, keyTpg, key, RBay.LOAD_STATUS]; omega) | (simp only [holdObj, keyB, keyC, keyCap, keySite, keyPc, keyA, keyG, keyBench, keyNode, keyEng, keyDma, keyLane, keyLink, keyStream, keyStack, keyPort, keyTpg, key, RBay.LOAD_STATUS, List.mem_range, List.mem_cons, List.not_mem_nil, or_false] at *; omega) | (split <;> first | decide | (simp only [holdObj, keyB, keyC, keyCap, keySite, keyPc, keyA, keyG, keyBench, keyNode, keyEng, keyDma, keyLane, keyLink, keyStream, keyStack, keyPort, keyTpg, key, RBay.LOAD_STATUS]; omega)))
    | intro _
    | (with_reducible first | apply State.cutLoad_hld | apply State.free_hld | apply State.setB_hld | apply State.modBay_hld | apply Hld.ite | apply Hld.ite1 | apply Hld.ite2)
    | split
    | dsimp only
    | (refine Hld.upd ?_)

theorem State.pkgFail_hld {s : State} {x_s : State} {x_b : Bay} {x_status x_detail : Nat} {x_slot : Option Nat} (h_x_s : Hld s x_s)
    (hk : ∀ k, x_slot = some k → k < 64) : Hld s (State.pkgFail x_s x_b x_status x_detail x_slot) := by
  unfold State.pkgFail; dsimp only
  refine State.setB_hld (State.setB_hld (State.modBay_hld ?_) (by decide)) (by decide)
  split
  · rename_i k; exact State.zeroSlot_hld (State.zeroSlot_hld h_x_s (hk k rfl)) (hk k rfl)
  · exact h_x_s

theorem State.pkgSlot_low {s : State} {b : Bay} {p : Bytes} {k : Nat} (h : s.pkgSlot b p = some k) : k < 64 := by
  unfold State.pkgSlot at h
  split at h
  · cases h
  · split at h
    · split at h
      · cases h; rename_i h2; exact h2.1
      · cases h
    · cases h

theorem State.pkgAbort_hld {s : State} {x_s : State} {x_b : Bay} (h_x_s : Hld s x_s) : Hld s (State.pkgAbort x_s x_b) := by
  unfold State.pkgAbort; split
  · exact State.pkgFail_hld h_x_s (fun k hk => State.pkgSlot_low hk)
  · exact h_x_s

theorem State.showShares_hld {s : State} {x_s : State} (h_x_s : Hld s x_s) : Hld s (State.showShares x_s) := by
  unfold State.showShares
  repeat' first
    | (with_reducible first | assumption | exact Hld.refl _)
    | (show ¬ holdObj _; first | decide | omega | (simp only [holdObj, keyB, keyC, keyCap, keySite, keyPc, keyA, keyG, keyBench, keyNode, keyEng, keyDma, keyLane, keyLink, keyStream, keyStack, keyPort, keyTpg, key, R.CAPTURE_IN_USE, R.PATTERN_IN_USE]; omega) | (simp only [holdObj, keyB, keyC, keyCap, keySite, keyPc, keyA, keyG, keyBench, keyNode, keyEng, keyDma, keyLane, keyLink, keyStream, keyStack, keyPort, keyTpg, key, R.CAPTURE_IN_USE, R.PATTERN_IN_USE, List.mem_range, List.mem_cons, List.not_mem_nil, or_false] at *; omega) | (split <;> first | decide | (simp only [holdObj, keyB, keyC, keyCap, keySite, keyPc, keyA, keyG, keyBench, keyNode, keyEng, keyDma, keyLane, keyLink, keyStream, keyStack, keyPort, keyTpg, key, R.CAPTURE_IN_USE, R.PATTERN_IN_USE]; omega)))
    | (show _ < _; first | decide | omega | (simp only [holdObj, keyB, keyC, keyCap, keySite, keyPc, keyA, keyG, keyBench, keyNode, keyEng, keyDma, keyLane, keyLink, keyStream, keyStack, keyPort, keyTpg, key, R.CAPTURE_IN_USE, R.PATTERN_IN_USE]; omega) | (simp only [holdObj, keyB, keyC, keyCap, keySite, keyPc, keyA, keyG, keyBench, keyNode, keyEng, keyDma, keyLane, keyLink, keyStream, keyStack, keyPort, keyTpg, key, R.CAPTURE_IN_USE, R.PATTERN_IN_USE, List.mem_range, List.mem_cons, List.not_mem_nil, or_false] at *; omega) | (split <;> first | decide | (simp only [holdObj, keyB, keyC, keyCap, keySite, keyPc, keyA, keyG, keyBench, keyNode, keyEng, keyDma, keyLane, keyLink, keyStream, keyStack, keyPort, keyTpg, key, R.CAPTURE_IN_USE, R.PATTERN_IN_USE]; omega)))
    | (intro x_1; refine (fun hx : Hld s x_1 => ?_) ?_; (clear_value x_1); rotate_left; (unfold x_1))
    | (intro x_1; clear_value x_1)
    | intro _
    | with_reducible apply State.setO_hld
    | lift_lets -underBinder

theorem State.dropShares_hld {s : State} {x_s : State} {x_b : Bay} (h_x_s : Hld s x_s) : Hld s (State.dropShares x_s x_b) := by
  unfold State.dropShares
  repeat' first
    | (with_reducible first | assumption | exact Hld.refl _)
    | intro _
    | (with_reducible first | apply State.showShares_hld | apply State.modBay_hld)
    | (refine Hld.upd ?_)

theorem State.clearRun_hld {s : State} {x_s : State} {x_b : Bay} (h_x_s : Hld s x_s) : Hld s (State.clearRun x_s x_b) := by
  unfold State.clearRun
  repeat' first
    | (with_reducible first | assumption | exact Hld.refl _)
    | intro _
    | (with_reducible first | apply State.modBay_hld | apply State.endUnderrun_hld)
    | (refine Hld.upd ?_)

theorem State.quieten_hld {s : State} {x_s : State} {x_b : Bay} (h_x_s : Hld s x_s) : Hld s (State.quieten x_s x_b) := by
  unfold State.quieten
  repeat' first
    | (with_reducible first | assumption | exact Hld.refl _ | apply State.dropShares_hld | apply State.rollAbort_hld | apply State.pmuOffBay_hld | apply State.inhibitBay_hld)

theorem State.enterSafe_hld {s : State} {x_s : State} {x_b : Bay} (h_x_s : Hld s x_s) : Hld s (State.enterSafe x_s x_b) := by
  unfold State.enterSafe
  repeat' first
    | (with_reducible first | assumption | exact Hld.refl _)
    | (intro x_1; refine (fun hx : Hld s x_1 => ?_) ?_; (clear_value x_1); rotate_left; (unfold x_1))
    | (intro x_1; clear_value x_1)
    | intro _
    | (with_reducible first | apply State.capStop_hld | apply State.each_hld | apply State.modChan_hld | apply State.tmuDisarm_hld | apply State.assayAbort_hld | apply State.quieten_hld | apply State.clearRun_hld | apply State.cutByOff_hld | apply State.showSlots_hld | apply State.setState_hld | apply State.pkgAbort_hld | apply Hld.ite)
    | lift_lets -underBinder
    | split
    | dsimp only
    | (refine Hld.upd ?_)

theorem State.setT_hld {s : State} {x_s : State} {x_i : Stream} {x_sub x_v : Nat} (h_x_s : Hld s x_s) (hk : x_sub < 256) :
    Hld s (State.setT x_s x_i x_sub x_v) := State.setO_hld h_x_s (by simp only [holdObj, keyStream, key]; omega)

theorem State.modStream_hld {s : State} {x_s : State} {x_i : Stream} {x_f : StreamU → StreamU} (h_x_s : Hld s x_s) : Hld s (State.modStream x_s x_i x_f) := by
  unfold State.modStream
  repeat' first
    | (with_reducible first | assumption | exact Hld.refl _)
    | (refine Hld.upd ?_)

theorem State.breakStream_hld {s : State} {x_s : State} {x_i : Stream} (h_x_s : Hld s x_s) : Hld s (State.breakStream x_s x_i) := by
  unfold State.breakStream
  repeat' first
    | (with_reducible first | assumption | exact Hld.refl _)
    | (show ¬ holdObj _; first | decide | omega | (simp only [holdObj, keyB, keyC, keyCap, keySite, keyPc, keyA, keyG, keyBench, keyNode, keyEng, keyDma, keyLane, keyLink, keyStream, keyStack, keyPort, keyTpg, key, RStream.CREDIT, RStream.STREAM_STATE]; omega) | (simp only [holdObj, keyB, keyC, keyCap, keySite, keyPc, keyA, keyG, keyBench, keyNode, keyEng, keyDma, keyLane, keyLink, keyStream, keyStack, keyPort, keyTpg, key, RStream.CREDIT, RStream.STREAM_STATE, List.mem_range, List.mem_cons, List.not_mem_nil, or_false] at *; omega) | (split <;> first | decide | (simp only [holdObj, keyB, keyC, keyCap, keySite, keyPc, keyA, keyG, keyBench, keyNode, keyEng, keyDma, keyLane, keyLink, keyStream, keyStack, keyPort, keyTpg, key, RStream.CREDIT, RStream.STREAM_STATE]; omega)))
    | (show _ < _; first | decide | omega | (simp only [holdObj, keyB, keyC, keyCap, keySite, keyPc, keyA, keyG, keyBench, keyNode, keyEng, keyDma, keyLane, keyLink, keyStream, keyStack, keyPort, keyTpg, key, RStream.CREDIT, RStream.STREAM_STATE]; omega) | (simp only [holdObj, keyB, keyC, keyCap, keySite, keyPc, keyA, keyG, keyBench, keyNode, keyEng, keyDma, keyLane, keyLink, keyStream, keyStack, keyPort, keyTpg, key, RStream.CREDIT, RStream.STREAM_STATE, List.mem_range, List.mem_cons, List.not_mem_nil, or_false] at *; omega) | (split <;> first | decide | (simp only [holdObj, keyB, keyC, keyCap, keySite, keyPc, keyA, keyG, keyBench, keyNode, keyEng, keyDma, keyLane, keyLink, keyStream, keyStack, keyPort, keyTpg, key, RStream.CREDIT, RStream.STREAM_STATE]; omega)))
    | (intro x_1; refine (fun hx : Hld s x_1 => ?_) ?_; (clear_value x_1); rotate_left; (unfold x_1))
    | (intro x_1; clear_value x_1)
    | intro _
    | (with_reducible first | apply State.setT_hld | apply State.each_hld | apply State.pkgAbort_hld | exact HldO.none | apply HldO.some | apply HldO.ite | apply Hld.ite)
    | lift_lets -underBinder

theorem State.showSessions_hld {s : State} {x_s : State} (h_x_s : Hld s x_s) : Hld s (State.showSessions x_s) := by
  unfold State.showSessions
  repeat' first
    | (with_reducible first | assumption | exact Hld.refl _)
    | (show ¬ holdObj _; first | decide | omega | (simp only [holdObj, keyB, keyC, keyCap, keySite, keyPc, keyA, keyG, keyBench, keyNode, keyEng, keyDma, keyLane, keyLink, keyStream, keyStack, keyPort, keyTpg, key, R.SESSION_COUNT]; omega) | (simp only [holdObj, keyB, keyC, keyCap, keySite, keyPc, keyA, keyG, keyBench, keyNode, keyEng, keyDma, keyLane, keyLink, keyStream, keyStack, keyPort, keyTpg, key, R.SESSION_COUNT, List.mem_range, List.mem_cons, List.not_mem_nil, or_false] at *; omega) | (split <;> first | decide | (simp only [holdObj, keyB, keyC, keyCap, keySite, keyPc, keyA, keyG, keyBench, keyNode, keyEng, keyDma, keyLane, keyLink, keyStream, keyStack, keyPort, keyTpg, key, R.SESSION_COUNT]; omega)))
    | (show _ < _; first | decide | omega | (simp only [holdObj, keyB, keyC, keyCap, keySite, keyPc, keyA, keyG, keyBench, keyNode, keyEng, keyDma, keyLane, keyLink, keyStream, keyStack, keyPort, keyTpg, key, R.SESSION_COUNT]; omega) | (simp only [holdObj, keyB, keyC, keyCap, keySite, keyPc, keyA, keyG, keyBench, keyNode, keyEng, keyDma, keyLane, keyLink, keyStream, keyStack, keyPort, keyTpg, key, R.SESSION_COUNT, List.mem_range, List.mem_cons, List.not_mem_nil, or_false] at *; omega) | (split <;> first | decide | (simp only [holdObj, keyB, keyC, keyCap, keySite, keyPc, keyA, keyG, keyBench, keyNode, keyEng, keyDma, keyLane, keyLink, keyStream, keyStack, keyPort, keyTpg, key, R.SESSION_COUNT]; omega)))
    | with_reducible apply State.setO_hld

theorem State.closeSession_hld {s : State} {x_s : State} {x_i : Fin 16} (h_x_s : Hld s x_s) : Hld s (State.closeSession x_s x_i) := by
  unfold State.closeSession
  repeat' first
    | (with_reducible first | assumption | exact Hld.refl _)
    | (intro x_1; refine (fun hx : Hld s x_1 => ?_) ?_; (clear_value x_1); rotate_left; (unfold x_1))
    | (intro x_1; clear_value x_1)
    | intro _
    | (with_reducible first | apply State.showSessions_hld | exact HldO.none | apply HldO.some | apply HldO.ite | apply Hld.ite)
    | lift_lets -underBinder
    | (refine Hld.upd ?_)

theorem State.closeSessions_hld {s : State} {x_s : State} (h_x_s : Hld s x_s) : Hld s (State.closeSessions x_s) := by
  unfold State.closeSessions
  repeat' first
    | (with_reducible first | assumption | exact Hld.refl _)
    | intro _
    | (with_reducible first | apply State.each_hld | apply State.closeSession_hld)

theorem State.dropLinkKeys_hld {s : State} {x_s : State} (h_x_s : Hld s x_s) : Hld s (State.dropLinkKeys x_s) := by
  unfold State.dropLinkKeys
  repeat' first
    | (with_reducible first | assumption | exact Hld.refl _)
    | intro _
    | (with_reducible first | apply State.each_hld | apply State.modStream_hld | apply State.breakStream_hld)
    | (refine Hld.upd ?_)

end Sys2Proof.Machine
end

