-- ==== Sys2Proof/Laws/FactsTm.lean ====
section
/-! SUPPORT. Lemmas about the shared operations behind the commands of one family (tm). -/

namespace Sys2Proof.Machine

/-- The objects that a hold-up check does not record. -/
def checkFree (k : Nat) : Prop := (k < 0x220000 ∨ 0x230000 ≤ k) ∧ k ≠ R.START_STATUS
theorem recordCheck_free (s : State) (m : Sample) : KeepsObjs checkFree s (s.recordCheck m) := by
  have n : ∀ {k}, 0x220000 ≤ k → k < 0x230000 → ¬ checkFree k := by intro k h1 h2 h; have := h.1; omega
  unfold State.recordCheck
  extract_lets e s0 s1 s2 s3 s4
  have h2 : KeepsObjs checkFree s s2 := by
    simp only [s2, s1]
    repeat apply KeepsObjs.setO _ (n (by decide) (by decide))
    exact KeepsObjs.of_objs rfl
  split
  · exact (KeepsObjs.ite h2 (h2.setO (n (by decide) (by decide)) _)).fault _ _ _
  · refine KeepsObjs.setO ?_ (fun h => h.2 rfl) _
    have h4 : KeepsObjs checkFree s s4 := KeepsObjs.ite h2 (h2.setO (n (by decide) (by decide)) _)
    exact fun k hk => (State.getO_of_objs rfl k).trans (h4 k hk)
theorem recordCheck_secrets (s : State) (m : Sample) : (s.recordCheck m).groupKey = s.groupKey ∧ (s.recordCheck m).tmKey = s.tmKey ∧ (s.recordCheck m).doms = s.doms ∧
    (s.recordCheck m).reply = s.reply ∧ (s.recordCheck m).tmRetry = s.tmRetry ∧ (s.recordCheck m).now = s.now := by
  have q := State.recordCheck_kept (m := 2129928) (x_m := m) (by decide) (Kept.refl s)
  have a := q.parts .keys (by decide)
  have b := q.parts .touchmark (by decide)
  have d := q.parts .clock (by decide)
  exact ⟨congrArg (fun x => x.2.1) a, congrArg (fun x => x.2.2) a, q.parts .domains (by decide), q.parts .answer (by decide), congrArg (fun x => x.2.2.2.2) b, d⟩
theorem checkFree_of {k : Nat} (h : k < 0x220000 ∨ 0x230000 ≤ k) (h2 : k ≠ R.START_STATUS) : checkFree k := ⟨h, h2⟩
/-- A refused commit is answered and counted, and changes no key (R449). -/
theorem refuseCommit_is (s : State) (cls unit : Nat) : (s.refuseCommit cls unit).reply = { status := ST.HOLDUP_LOW } ∧ (s.refuseCommit cls unit).groupKey = s.groupKey ∧
    (s.refuseCommit cls unit).tmKey = s.tmKey ∧ (s.refuseCommit cls unit).doms = s.doms ∧ (s.refuseCommit cls unit).now = s.now ∧
    KeepsObjs (fun k => checkFree k ∧ eventObj k = false) s (s.refuseCommit cls unit) := by
  have n : ∀ {k}, 0x220000 ≤ k → k < 0x230000 → ¬ (checkFree k ∧ eventObj k = false) := by intro k h1 h2 h; have := h.1.1; omega
  unfold State.refuseCommit
  have ha : KeepsObjs (fun k => checkFree k ∧ eventObj k = false) s ((s.incO R.HOLDUP_REFUSALS).setO R.LAST_REFUSED cls) :=
    ((KeepsObjs.refl s).setO (n (by decide) (by decide)) _).setO (n (by decide) (by decide)) _
  have hb : ((s.incO R.HOLDUP_REFUSALS).setO R.LAST_REFUSED cls).groupKey = s.groupKey ∧ ((s.incO R.HOLDUP_REFUSALS).setO R.LAST_REFUSED cls).tmKey = s.tmKey ∧
    ((s.incO R.HOLDUP_REFUSALS).setO R.LAST_REFUSED cls).doms = s.doms ∧ ((s.incO R.HOLDUP_REFUSALS).setO R.LAST_REFUSED cls).now = s.now := ⟨rfl, rfl, rfl, rfl⟩
  generalize (s.incO R.HOLDUP_REFUSALS).setO R.LAST_REFUSED cls = v at *
  have f := State.event_frame v 2027 unit
  have g : ∀ k, eventObj k = false → (v.event 2027 unit).getO k = v.getO k := fun k hk => State.getO_event _ _ (by decide) hk
  refine ⟨rfl, ?_, ?_, ?_, ?_, fun k hk => (g k hk.2).trans (ha k hk)⟩
  · show (State.event _ _ _).groupKey = _; rw [f]; exact hb.1
  · show (State.event _ _ _).tmKey = _; rw [f]; exact hb.2.1
  · show (State.event _ _ _).doms = _; rw [f]; exact hb.2.2.1
  · show (State.event _ _ _).now = _; rw [f]; exact hb.2.2.2
/-- Entering SAFE_HOLD (R434, R435): the module's state and cause, and what of the module's own objects stays. -/
theorem enterHold_is (s : State) (kind unit : Nat) (crypto : Bool) : (s.enterHold kind unit crypto).inHold = true ∧
    (crypto = true → (s.enterHold kind unit crypto).getO R.MODULE_STATE = MS.CRYPTO) ∧
    (s.inHold = false → (s.enterHold kind unit crypto).getO R.MODULE_STATE = (if crypto then MS.CRYPTO else MS.SAFE_HOLD) ∧
      (s.enterHold kind unit crypto).getO R.SAFE_HOLD_CAUSE = kind + unit * 2 ^ 8 + (if crypto then 2 ^ 31 else 0)) ∧
    (∀ k, holdObj k → k ≠ R.MODULE_STATE → k ≠ R.SAFE_HOLD_CAUSE → k ≠ R.ALIVE_STATE → (s.enterHold kind unit crypto).getO k = s.getO k) ∧
    (s.enterHold kind unit crypto).groupKey = s.groupKey ∧ (s.enterHold kind unit crypto).tmKey = s.tmKey ∧ (s.enterHold kind unit crypto).doms = s.doms := by
  unfold State.enterHold
  by_cases h : s.inHold = true
  · rw [if_pos h]
    cases crypto
    · rw [if_neg (by decide)]
      exact ⟨h, (by intro x; cases x), (by intro x; rw [h] at x; cases x), fun _ _ _ _ _ => rfl, rfl, rfl, rfl⟩
    · rw [if_pos rfl]
      refine ⟨?_, fun _ => State.getO_setO_same _ _ _, (by intro x; rw [h] at x; cases x), fun k _ h1 _ _ => State.getO_setO_ne _ h1 _, rfl, rfl, rfl⟩
      unfold State.inHold; rw [State.getO_setO_same]; rfl
  · rw [if_neg h]
    extract_lets a b c d w
    have hb : Hld b (State.each b (List.finRange 4) (fun s d => s.assertClear d 0)) := State.each_hld (Hld.refl b) (fun u x _ hu => State.assertClear_hld hu)
    have hd : Hld c d := State.each_hld (Hld.refl c) (fun u x _ hu => State.enterSafe_hld hu)
    have e1 : d.getO R.MODULE_STATE = (if crypto then MS.CRYPTO else MS.SAFE_HOLD) := by
      refine (hd.get _ (by unfold holdObj; decide)).trans ?_
      refine (State.getO_setO_ne _ (by decide) _).trans ((hb.get _ (by unfold holdObj; decide)).trans ?_)
      exact (State.getO_setO_ne _ (by decide) _).trans (State.getO_setO_same _ _ _)
    have e2 : d.getO R.SAFE_HOLD_CAUSE = kind + unit * 2 ^ 8 + (if crypto then 2 ^ 31 else 0) := by
      refine (hd.get _ (by unfold holdObj; decide)).trans ?_
      refine (State.getO_setO_ne _ (by decide) _).trans ((hb.get _ (by unfold holdObj; decide)).trans ?_)
      exact State.getO_setO_same _ _ _
    have e3 : ∀ k, holdObj k → k ≠ R.MODULE_STATE → k ≠ R.SAFE_HOLD_CAUSE → k ≠ R.ALIVE_STATE → d.getO k = s.getO k := fun k hk h1 h2 h3 =>
      (hd.get k hk).trans <| (State.getO_setO_ne _ h3 _).trans ((hb.get k hk).trans ((State.getO_setO_ne _ h2 _).trans (State.getO_setO_ne _ h1 _)))
    have e5 : (c.groupKey, c.tmKey, c.doms) = ((State.each b (List.finRange 4) (fun s d => s.assertClear d 0)).groupKey, (State.each b (List.finRange 4) (fun s d => s.assertClear d 0)).tmKey,
        (State.each b (List.finRange 4) (fun s d => s.assertClear d 0)).doms) := by simp only [c]; generalize State.each b _ _ = w; rfl
    have e6 : (b.groupKey, b.tmKey, b.doms) = (s.groupKey, s.tmKey, s.doms) := rfl
    have e4 : (d.groupKey, d.tmKey, d.doms) = (s.groupKey, s.tmKey, s.doms) := hd.secrets.trans (e5.trans (hb.secrets.trans e6))
    clear e5 e6 hd hb
    clear_value d
    have w1 : ∀ k, w.getO k = d.getO k := fun k => rfl
    have w2 : w.groupKey = s.groupKey ∧ w.tmKey = s.tmKey ∧ w.doms = s.doms :=
      ⟨congrArg (fun x => x.1) e4, congrArg (fun x => x.2.1) e4, congrArg (fun x => x.2.2) e4⟩
    clear_value w
    have f := State.event_frame w 2022 (kind + unit * 2 ^ 8)
    have g : ∀ k, holdObj k → (w.event 2022 (kind + unit * 2 ^ 8)).getO k = w.getO k := fun k hk =>
      (State.getO_event _ _ (by decide) (by unfold holdObj at hk; simp only [eventObj, R.EVENT_LOG_LOST, R.EVENT_LOG_COUNT, Bool.or_eq_false_iff, Bool.and_eq_false_iff, decide_eq_false_iff_not, beq_eq_false_iff_ne]; omega))
    have k1 := (g R.MODULE_STATE (by unfold holdObj; decide)).trans ((w1 _).trans e1)
    have k2 := (g R.SAFE_HOLD_CAUSE (by unfold holdObj; decide)).trans ((w1 _).trans e2)
    have k3 : (w.event 2022 (kind + unit * 2 ^ 8)).groupKey = s.groupKey ∧ (w.event 2022 (kind + unit * 2 ^ 8)).tmKey = s.tmKey ∧ (w.event 2022 (kind + unit * 2 ^ 8)).doms = s.doms := by
      rw [f]; exact w2
    have k4 : ∀ k, holdObj k → k ≠ R.MODULE_STATE → k ≠ R.SAFE_HOLD_CAUSE → k ≠ R.ALIVE_STATE → (w.event 2022 (kind + unit * 2 ^ 8)).getO k = s.getO k := fun k hk h1 h2 h3 => (g k hk).trans ((w1 k).trans (e3 k hk h1 h2 h3))
    clear f g e1 e2 e3 w1 w2 e4
    generalize w.event 2022 (kind + unit * 2 ^ 8) = v at *
    refine ⟨?_, ?_, fun _ => ⟨k1, k2⟩, k4, k3.1, k3.2.1, k3.2.2⟩
    · unfold State.inHold; rw [k1]; cases crypto <;> rfl
    · intro hc; rw [k1, hc]; rfl
theorem setTm_is (s : State) (v : Nat) : (s.setTm v).getO R.TM_STATE = v ∧ (s.setTm v).getO R.APPROVED = (if v = TM.OPERATIONAL then 1 else 0) ∧ OnlyObjs s (s.setTm v) [R.TM_STATE, R.APPROVED] := by
  unfold State.setTm
  refine ⟨(State.getO_setO_ne _ (by decide) _).trans (State.getO_setO_same _ _ _), State.getO_setO_same _ _ _, fun k hk => ?_⟩
  simp only [List.mem_cons, List.not_mem_nil, or_false, not_or] at hk
  exact (State.getO_setO_ne _ hk.2 _).trans (State.getO_setO_ne _ hk.1 _)
/-- The unit's entry into ERROR (R380). -/
theorem tmError_is (s : State) : s.tmError.getO R.TM_STATE = TM.ERROR ∧ s.tmError.getO R.APPROVED = 0 ∧ s.tmError.getO R.MODULE_STATE = MS.CRYPTO ∧
    (∀ k, holdObj k → k ≠ R.TM_STATE → k ≠ R.APPROVED → k ≠ R.MODULE_STATE → k ≠ R.SAFE_HOLD_CAUSE → k ≠ R.ALIVE_STATE → s.tmError.getO k = s.getO k) := by
  unfold State.tmError
  extract_lets a
  obtain ⟨t1, t2, t3⟩ := setTm_is { s with tmTest := 0 } TM.ERROR
  have ha : Hld (({ s with tmTest := 0 } : State).setTm TM.ERROR) a :=
    State.closeSessions_hld (State.dropLinkKeys_hld (State.zeroSlots_hld (Hld.refl _)))
  obtain ⟨-, c2, -, c4, -⟩ := enterHold_is a 0x78 tmUnit true
  refine ⟨?_, ?_, ?_, fun k hk h1 h2 h3 h4 h5 => ?_⟩
  · rw [State.getO_fault, c4 _ (by unfold holdObj; decide) (by decide) (by decide) (by decide), ha.get _ (by unfold holdObj; decide)]; exact t1
  · rw [State.getO_fault, c4 _ (by unfold holdObj; decide) (by decide) (by decide) (by decide), ha.get _ (by unfold holdObj; decide)]; exact t2
  · rw [State.getO_fault]; exact c2 rfl
  · rw [State.getO_fault, c4 k hk h3 h4 h5, ha.get k hk]
    exact t3 k (by simp only [List.mem_cons, List.not_mem_nil, or_false, not_or]; exact ⟨h1, h2⟩)
theorem zeroCount_is (w : State) : ((w.setTm TM.ENROLMENT).incO R.ZEROIZE_COUNT).getO R.TM_STATE = TM.ENROLMENT ∧ ((w.setTm TM.ENROLMENT).incO R.ZEROIZE_COUNT).getO R.APPROVED = 0 ∧
    ((w.setTm TM.ENROLMENT).incO R.ZEROIZE_COUNT).getO R.ZEROIZE_COUNT = satAdd 32 (w.getO R.ZEROIZE_COUNT) 1 ∧
    (∀ k, k ≠ R.ZEROIZE_COUNT → k ≠ R.TM_STATE → k ≠ R.APPROVED → ((w.setTm TM.ENROLMENT).incO R.ZEROIZE_COUNT).getO k = w.getO k) ∧
    (((w.setTm TM.ENROLMENT).incO R.ZEROIZE_COUNT).groupKey, ((w.setTm TM.ENROLMENT).incO R.ZEROIZE_COUNT).tmKey, ((w.setTm TM.ENROLMENT).incO R.ZEROIZE_COUNT).doms) = (w.groupKey, w.tmKey, w.doms) := by
  obtain ⟨t1, t2, t3⟩ := setTm_is w TM.ENROLMENT
  have t4 : ((w.setTm TM.ENROLMENT).groupKey, (w.setTm TM.ENROLMENT).tmKey, (w.setTm TM.ENROLMENT).doms) = (w.groupKey, w.tmKey, w.doms) := rfl
  have t5 := t3 R.ZEROIZE_COUNT (by decide)
  generalize w.setTm TM.ENROLMENT = v at *
  refine ⟨(State.getO_setO_ne _ (by decide) _).trans t1, (State.getO_setO_ne _ (by decide) _).trans t2, (State.getO_setO_same _ _ _).trans (congrArg (fun x => satAdd 32 x 1) t5), fun k h1 h2 h3 => ?_, t4⟩
  exact (State.getO_setO_ne _ h1 _).trans (t3 k (by simp only [List.mem_cons, List.not_mem_nil, or_false, not_or]; exact ⟨h2, h3⟩))
/-- Zeroisation (R397). -/
theorem zeroise_is (s : State) (how : Nat) : (s.zeroise how).getO R.TM_STATE = TM.ENROLMENT ∧ (s.zeroise how).getO R.APPROVED = 0 ∧ (s.zeroise how).groupKey = none ∧
    (s.zeroise how).getO R.GROUP_KEY_ID = 0 ∧ (s.zeroise how).tmKey = false ∧ (∀ r, (s.zeroise how).anchored r = false) ∧
    (∀ k : Fin 8, (s.zeroise how).doms.get (R.CODE_KEY + k.val) [] = []) ∧
    (s.zeroise how).getO R.ZEROIZE_COUNT = satAdd 32 (s.getO R.ZEROIZE_COUNT) 1 ∧ (s.zeroise how).inHold = true ∧
    (s.inHold = false → (s.zeroise how).getO R.MODULE_STATE = MS.SAFE_HOLD ∧ (s.zeroise how).getO R.SAFE_HOLD_CAUSE = 0x87 + tmUnit * 2 ^ 8) := by
  unfold State.zeroise
  extract_lets a b c d0 d e
  have ha : Hld s a := State.each_hld (Hld.refl s) (fun u x _ hu => State.pkgAbort_hld hu)
  clear_value a
  have hc : ∀ k, k < R.CODE_KEY_USE ∨ R.CODE_KEY_USE + 8 ≤ k → c.getO k = a.getO k := fun k hk =>
    (State.getO_each (fun u x hx => State.getO_setO_ne _ (by have := List.mem_range.mp hx; omega) _) b).trans (State.getO_of_objs (show b.objs = a.objs from rfl) k)
  have hcd : c.doms = b.doms := by simp only [c]; exact State.each_keeps (P := fun u => u.doms = b.doms) (f := fun s k => s.setO (R.CODE_KEY_USE + k) 0) (fun u x hu => hu) rfl
  have hbd : b.doms = a.doms.without (fun k => (decide (R.ROLE_ANCHOR ≤ k) && decide (k < R.ROLE_ANCHOR + 3)) || (decide (R.CODE_KEY ≤ k) && decide (k < R.CODE_KEY + 8))) := rfl
  have hd : ∀ k, k ≠ R.GROUP_KEY_ID → d.getO k = c.getO k := fun k hk => State.getO_setO_ne _ hk _
  have hd1 : d.getO R.GROUP_KEY_ID = 0 := State.getO_setO_same _ _ _
  have hds : (d.groupKey, d.tmKey, d.doms) = (none, false, b.doms) := by rw [← hcd]; rfl
  clear_value d
  have hs : Hld d (d.zeroSlots.dropLinkKeys) := State.dropLinkKeys_hld (State.zeroSlots_hld (Hld.refl d))
  obtain ⟨he1', he2', he3', he', hes'⟩ := zeroCount_is (d.zeroSlots.dropLinkKeys)
  have he1 : e.getO R.TM_STATE = TM.ENROLMENT := he1'
  have he2 : e.getO R.APPROVED = 0 := he2'
  have he : ∀ k, holdObj k → k ≠ R.ZEROIZE_COUNT → k ≠ R.TM_STATE → k ≠ R.APPROVED → e.getO k = d.getO k := fun k hk h1 h2 h3 =>
    (he' k h1 h2 h3).trans (hs.get k hk)
  have he3 : e.getO R.ZEROIZE_COUNT = satAdd 32 (s.getO R.ZEROIZE_COUNT) 1 := he3'.trans (congrArg (fun x => satAdd 32 x 1)
    ((hs.get _ (by unfold holdObj; decide)).trans ((hd _ (by decide)).trans ((hc _ (by decide)).trans (ha.get _ (by unfold holdObj; decide))))))
  have hsec : (e.groupKey, e.tmKey, e.doms) = (none, false, b.doms) := hes'.trans (hs.secrets.trans hds)
  clear he1' he2' he3' he' hes' hds
  clear_value e
  have he4 : e.getO R.MODULE_STATE = s.getO R.MODULE_STATE :=
    (he _ (by unfold holdObj; decide) (by decide) (by decide) (by decide)).trans ((hd _ (by decide)).trans ((hc _ (by decide)).trans (ha.get _ (by unfold holdObj; decide))))
  have hin : e.inHold = s.inHold := by unfold State.inHold; rw [he4]
  obtain ⟨c1, -, c3, c4, c5, c6, c7⟩ := enterHold_is e 0x87 tmUnit false
  have f := State.fault_frame (e.enterHold 0x87 tmUnit false) tmUnit 0x87 how
  have g : ∀ k, ((e.enterHold 0x87 tmUnit false).fault tmUnit 0x87 how).getO k = (e.enterHold 0x87 tmUnit false).getO k := fun k => State.getO_fault _ _ _ _ _
  have fs : ((e.enterHold 0x87 tmUnit false).fault tmUnit 0x87 how).groupKey = none ∧ ((e.enterHold 0x87 tmUnit false).fault tmUnit 0x87 how).tmKey = false ∧
      ((e.enterHold 0x87 tmUnit false).fault tmUnit 0x87 how).doms = b.doms := by
    rw [f]; exact ⟨c5.trans (congrArg (fun x => x.1) hsec), c6.trans (congrArg (fun x => x.2.1) hsec), c7.trans (congrArg (fun x => x.2.2) hsec)⟩
  clear f
  have bd : ∀ k, ((decide (R.ROLE_ANCHOR ≤ k) && decide (k < R.ROLE_ANCHOR + 3)) || (decide (R.CODE_KEY ≤ k) && decide (k < R.CODE_KEY + 8))) = true → b.doms.get k [] = [] := fun k hk => by
    rw [hbd, Tab.get_without]; exact if_pos hk
  refine ⟨?_, ?_, fs.1, ?_, fs.2.1, fun r => ?_, fun k => ?_, ?_, ?_, fun h => ?_⟩
  · rw [g, c4 _ (by unfold holdObj; decide) (by decide) (by decide) (by decide)]; exact he1
  · rw [g, c4 _ (by unfold holdObj; decide) (by decide) (by decide) (by decide)]; exact he2
  · rw [g, c4 _ (by unfold holdObj; decide) (by decide) (by decide) (by decide), he _ (by unfold holdObj; decide) (by decide) (by decide) (by decide)]; exact hd1
  · unfold State.anchored; rw [fs.2.2, bd _ (by cases r <;> decide)]; rfl
  · rw [fs.2.2]; exact bd _ (by have := k.isLt; simp)
  · rw [g, c4 _ (by unfold holdObj; decide) (by decide) (by decide) (by decide)]; exact he3
  · unfold State.inHold; rw [g]; exact c1
  · obtain ⟨m1, m2⟩ := c3 (hin.trans h)
    rw [g, g, m1, m2]; exact ⟨rfl, rfl⟩
theorem nextKeyEpoch_lt {e : Nat} (h : e < 256) : nextKeyEpoch e < 256 := by unfold nextKeyEpoch; split <;> omega
/-- A zeroised slot (R390). -/
theorem zeroSlot_is (s : State) (k : Nat) (h : k < 64) : (s.zeroSlot k).slotLoaded k = false ∧ (s.zeroSlot k).slotEpoch k = nextKeyEpoch (s.slotEpoch k) ∧
    (s.zeroSlot k).keys.get k 0 = 0 ∧ OnlyObjs s (s.zeroSlot k) [R.SLOT_STATE + k, R.SLOT_BASE + k] := by
  have e : (s.zeroSlot k).getO (R.SLOT_STATE + k) = nextKeyEpoch (s.slotEpoch k) :=
    (State.getO_setO_ne _ (by simp only [R.SLOT_STATE, R.SLOT_BASE]; omega) _).trans (State.getO_setO_same _ _ _)
  have l : nextKeyEpoch (s.slotEpoch k) < 256 := nextKeyEpoch_lt (Nat.mod_lt _ (by decide))
  refine ⟨?_, ?_, Tab.get_set_same _ _ _ _, fun j hj => ?_⟩
  · unfold State.slotLoaded State.slot; rw [e]; exact Nat.testBit_lt_two_pow (by omega)
  · unfold State.slotEpoch State.slot; rw [e]; exact Nat.mod_eq_of_lt l
  · simp only [List.mem_cons, List.not_mem_nil, or_false, not_or] at hj
    exact (State.getO_setO_ne _ hj.2 _).trans ((State.getO_setO_ne _ hj.1 _).trans (State.getO_of_objs rfl j))
theorem selfTested_one (s : State) (m : Sample) (h : s.tmTest = 1) (h2 : (s.setO R.SELF_TEST_RESULT (0 : BitVec 32).toNat).getO R.MODULE_STATE ≠ MS.CRYPTO) :
    s.selfTested (0 : BitVec 32).toNat m = ({ s.setO R.SELF_TEST_RESULT (0 : BitVec 32).toNat with tmTest := 0 } : State).tmReady m := by
  unfold State.selfTested; rw [h]
  show State.tmReady (if (s.setO R.SELF_TEST_RESULT (0 : BitVec 32).toNat).getO R.MODULE_STATE = MS.CRYPTO then _ else _) m = _
  rw [if_neg h2]; rfl

end Sys2Proof.Machine
end

