-- ==== Sys2Proof/Laws/FactsAssay.lean ====
section
/-! SUPPORT. Lemmas about the shared operations behind the commands of one family (assay). -/

namespace Sys2Proof.Machine

theorem keyA_inj {b : Bay} {o p : Nat} : keyA b o = keyA b p ↔ o = p := by simp only [keyA, key]; omega
theorem keyA_high (b : Bay) (o : Nat) : 0xB81000 ≤ keyA b o := by simp only [keyA, key]; omega
theorem keyA_top (b : Bay) {o : Nat} (h : o < 256) : keyA b o < 0xB82000 := by simp only [keyA, key]; omega
theorem keyA_ne_C (b : Bay) (o : Nat) (c : Chan) {p : Nat} (h : p < 0x4000) : keyA b o ≠ keyC c p := fun e => by
  have h1 := keyA_high b o; have h2 := keyC_low (c := c) h; omega
theorem keyA_ne_B (b : Bay) (o : Nat) (c : Bay) {p : Nat} (h : p < 0x10000) : keyA b o ≠ keyB c p := fun e => by
  have h1 := keyA_high b o; have h2 := keyB_low (b := c) h; omega
theorem rollRest_of {s t : State} {b : Bay} (h : t.getO (keyA b RAssay.ROLL_ENABLE) = s.getO (keyA b RAssay.ROLL_ENABLE))
    (h2 : t.getO (keyA b RAssay.ROLL_PAUSE) = s.getO (keyA b RAssay.ROLL_PAUSE)) : t.rollRest b = s.rollRest b := by unfold State.rollRest; rw [h, h2]
/-- A step's end (R405, R410): the objects it leaves. -/
theorem stepOver_keeps {P : Nat → Prop} (s : State) (b : Bay) (h1 : ¬ P (keyA b RAssay.ROUNDS)) (h2 : ¬ P (keyA b RAssay.LAST_ROUND)) (h3 : ¬ P (keyA b RAssay.ROLL_STATE))
    (h4 : ¬ P (claimKey (.sparePath b))) : KeepsObjs P s (s.stepOver b) := by
  unfold State.stepOver
  extract_lets r span s1 s2 s3
  have e1 : KeepsObjs P s s1 := KeepsObjs.of_objs rfl
  have e2 : KeepsObjs P s s2 := KeepsObjs.ite ((e1.setO h1 _).setO h2 _) e1
  have e3 : KeepsObjs P s s3 := e2.setO h3 _
  exact KeepsObjs.ite (e3.trans (freeClaim_keeps _ _ h4)) e3
/-- A step's end (R405, R410): the state it rests in, and the path whose turn is next. -/
theorem stepOver_is (s : State) (b : Bay) : (s.stepOver b).rollState b = s.rollRest b ∧ ((s.stepOver b).bay b).roll.path = ((s.bay b).roll.path + 1) % 17 ∧
    ((s.stepOver b).bay b).roll.target = (s.bay b).roll.target := by
  unfold State.stepOver
  extract_lets r span s1 s2 s3
  have b1 : (s1.bay b).roll.path = ((s.bay b).roll.path + 1) % 17 ∧ (s1.bay b).roll.target = (s.bay b).roll.target := by
    simp only [s1, State.modRoll]; rw [State.bay_modBay_same]; exact ⟨rfl, rfl⟩
  have g1 : ∀ k, s1.getO k = s.getO k := fun k => rfl
  clear_value s1
  have b2 : s2.bay b = s1.bay b := by simp only [s2]; split <;> rfl
  have g2 : ∀ k, k ≠ keyA b RAssay.ROUNDS → k ≠ keyA b RAssay.LAST_ROUND → s2.getO k = s1.getO k := by
    intro k h1 h2; simp only [s2]; split
    · exact (State.getO_setO_ne _ h2 _).trans (State.getO_setO_ne _ h1 _)
    · rfl
  clear_value s2
  have r3 : s3.rollState b = s.rollRest b := (State.getO_setO_same _ _ _).trans (rollRest_of ((g2 _ (by rw [Ne, keyA_inj]; decide) (by rw [Ne, keyA_inj]; decide)).trans (g1 _))
    ((g2 _ (by rw [Ne, keyA_inj]; decide) (by rw [Ne, keyA_inj]; decide)).trans (g1 _)))
  have b3 : s3.bay b = s2.bay b := rfl
  clear_value s3
  have b4 : (s3.freeClaim (.sparePath b)).bay b = s3.bay b := rfl
  have r4 : (s3.freeClaim (.sparePath b)).rollState b = s3.rollState b :=
    freeClaim_keeps (P := fun k => k = keyA b RAssay.ROLL_STATE) s3 (.sparePath b) (fun e => keyA_ne_B b _ b (by decide) e.symm) _ rfl
  split
  · rw [r4, b4, b3, b2]; exact ⟨r3, b1⟩
  · rw [b3, b2]; exact ⟨r3, b1⟩
theorem ownPath_is (s : State) (b : Bay) (k : Fin 16) (h : (s.bay b).roll.target = some k) : (s.ownPath b).getC (chanOf b k) RChan.SELECTOR = 0 ∧
    OnlyObjs s (s.ownPath b) [keyC (chanOf b k) RChan.SELECTOR] ∧ ((s.ownPath b).bay b).roll = { (s.bay b).roll with target := none, shadowed := 0 } := by
  unfold State.ownPath; rw [h]; dsimp only
  refine ⟨State.getO_setO_same _ _ _, fun j hj => State.getO_setO_ne _ (by simpa using hj) _, ?_⟩
  unfold State.modRoll; rw [State.bay_modBay_same]; rfl
theorem ownPath_keeps {P : Nat → Prop} (s : State) (b : Bay) (h : ∀ k, ¬ P (keyC (chanOf b k) RChan.SELECTOR)) : KeepsObjs P s (s.ownPath b) := by
  unfold State.ownPath; split
  · exact KeepsObjs.trans ((KeepsObjs.refl s).setO (h _) _) (KeepsObjs.of_objs rfl)
  · exact KeepsObjs.refl s
theorem loadPath_keeps {P : Nat → Prop} (s : State) (c : Chan) (m : PathMeas) (h : ∀ o, 0x2000 ≤ o → o < 0x4000 → ¬ P (keyC c o)) : KeepsObjs P s (s.loadPath c m) := by
  unfold State.loadPath
  extract_lets b vs s1
  have e1 : KeepsObjs P s s1 := KeepsObjs.each (fun u p _ => by
    have := p.1.isLt
    exact (((KeepsObjs.refl u).setO (h _ (by simp only [RChan.DESKEW]; omega) (by simp only [RChan.DESKEW]; omega)) _).setO (h _ (by simp only [RChan.TRIM]; omega) (by simp only [RChan.TRIM]; omega)) _).setO
      (h _ (by simp only [RChan.TAPS]; omega) (by simp only [RChan.TAPS]; omega)) _) s
  refine KeepsObjs.ite (e1.setO (h _ (by decide) (by decide)) _) (KeepsObjs.fault (e1.setO (h _ (by decide) (by decide)) _) _ _ _)
theorem loadPath_deskew (s : State) (c : Chan) (m : PathMeas) (l : Fin 4) : (s.loadPath c m).getC c (RChan.DESKEW + l.val) = ofSigned 32 (m.corr.get l) := by
  unfold State.loadPath
  extract_lets b vs s1
  have e1 : s1.getC c (RChan.DESKEW + l.val) = ofSigned 32 (m.corr.get l) := by
    refine State.each_sets (P := fun u : State => u.getC c (RChan.DESKEW + l.val) = ofSigned 32 (m.corr.get l))
      (l, s.trimTaps b (m.corr.get l) (toSigned 16 (s.getC c (RChan.TAPS + l.val)))) (List.mem_map.mpr ⟨l, List.mem_finRange l, rfl⟩) (fun u => ?_) (fun u p hu => ?_) s
    · refine (State.getO_setO_ne _ (by rw [Ne, keyC_inj]; simp only [RChan.DESKEW, RChan.TAPS]; have := l.isLt; omega) _).trans ((State.getO_setO_ne _ (by rw [Ne, keyC_inj]; simp only [RChan.DESKEW, RChan.TRIM]; have := l.isLt; omega) _).trans (State.getO_setO_same _ _ _))
    · refine (State.getO_setO_ne _ (by rw [Ne, keyC_inj]; simp only [RChan.DESKEW, RChan.TAPS]; have := l.isLt; have := p.1.isLt; omega) _).trans ((State.getO_setO_ne _ (by rw [Ne, keyC_inj]; simp only [RChan.DESKEW, RChan.TRIM]; have := l.isLt; have := p.1.isLt; omega) _).trans ?_)
      by_cases e : l = p.1
      · rw [← e]; exact State.getO_setO_same _ _ _
      · refine (State.getO_setO_ne _ (by rw [Ne, keyC_inj]; intro x; exact e (Fin.ext (by omega))) _).trans hu
  clear_value s1
  have n : keyC c (RChan.DESKEW + l.val) ≠ keyC c RChan.PATH_STATUS := by rw [Ne, keyC_inj]; simp only [RChan.DESKEW, RChan.PATH_STATUS]; have := l.isLt; omega
  split
  · exact (State.getO_setO_ne _ n _).trans e1
  · exact (State.getO_fault _ _ _ _ _).trans ((State.getO_setO_ne _ n _).trans e1)
/-- The objects of the bays' assay, 0xB810:00 to 0xB81F:FF (R419). -/
def aKey (k : Nat) : Prop := 0xB81000 ≤ k ∧ k < 0xB82000
theorem aKey_of (b : Bay) {o : Nat} (h : o < 256) : aKey (keyA b o) := ⟨keyA_high b o, keyA_top b h⟩
theorem aKey_ev {k : Nat} (h : aKey k) : eventObj k = false := eventObj_low (Nat.lt_trans h.2 (by decide))
theorem aKey_free {k : Nat} (h : aKey k) : checkFree k := ⟨.inr (Nat.le_trans (by decide) h.1), fun e => by rw [e] at h; exact absurd h.1 (by decide)⟩
theorem ledgerWrite_aKey (s : State) : KeepsObjs aKey s s.ledgerWrite := by
  have n : ∀ {k}, k < 0xB81000 → ¬ aKey k := fun h x => by have := x.1; omega
  unfold State.ledgerWrite
  extract_lets old s1 f
  refine KeepsObjs.setO ?_ (n (by decide)) _
  have : KeepsObjs aKey s s1 := ((KeepsObjs.refl s).setO (n (by decide)) _).setO (n (by decide)) _
  exact fun k hk => (State.getO_of_objs (s := s1) rfl k).trans (this k hk)
theorem storeRecord_is (s : State) (k : Nat) (b : Bay) : (s.storeRecord k b).objs = s.objs ∧ (s.storeRecord k b).ledgerQ = s.ledgerQ ∧ (s.storeRecord k b).ledgerHeld = s.ledgerHeld := by
  unfold State.storeRecord; dsimp only
  split
  · exact ⟨rfl, rfl, rfl⟩
  · split
    · split <;> exact ⟨rfl, rfl, rfl⟩
    · exact ⟨rfl, rfl, rfl⟩
theorem innerCommit_yes {s : State} {m : Sample} {cls : Nat} (h1 : s.getO R.HOLDUP_STATE ≠ HS.ON_STORE) (h2 : classNeeds cls ≤ sampleEnergy m) (u : Nat) (f g : State → State) :
    s.innerCommit m cls u f g = f (s.recordCheck m) := by unfold State.innerCommit; rw [if_neg h1]; dsimp only; rw [if_pos h2]
theorem innerCommit_no {s : State} {m : Sample} {cls : Nat} (h : s.getO R.HOLDUP_STATE = HS.ON_STORE ∨ sampleEnergy m < classNeeds cls) (u : Nat) (f g : State → State) :
    ∃ v : State, (v = s ∨ v = s.recordCheck m) ∧ s.innerCommit m cls u f g = g { (v.refuseCommit cls u) with reply := s.reply } := by
  unfold State.innerCommit
  by_cases h1 : s.getO R.HOLDUP_STATE = HS.ON_STORE
  · rw [if_pos h1]; exact ⟨s, .inl rfl, rfl⟩
  · rw [if_neg h1]; dsimp only; rw [if_neg (by rcases h with h | h; exact absurd h h1; omega)]; exact ⟨_, .inr rfl, rfl⟩
theorem assayCommit_aKey (s : State) (k u : Nat) (m : Sample) : KeepsObjs aKey s (s.assayCommit k u m) := by
  have n : ∀ {k}, k < 0xB81000 → ¬ aKey k := fun h x => by have := x.1; omega
  have hr : KeepsObjs aKey s (s.recordCheck m) := fun j hj => recordCheck_free s m j (aKey_free hj)
  unfold State.assayCommit
  by_cases h : s.getO R.HOLDUP_STATE ≠ HS.ON_STORE ∧ classNeeds s.ledgerClass ≤ sampleEnergy m
  · rw [innerCommit_yes h.1 h.2]
    have hw := hr.trans (ledgerWrite_aKey (s.recordCheck m))
    dsimp only
    generalize (s.recordCheck m).ledgerWrite = w at *
    split
    · exact hw.trans (KeepsObjs.of_objs (storeRecord_is w k _).1)
    · exact hw
  · obtain ⟨v, hv, e⟩ := innerCommit_no (s := s) (m := m) (cls := s.ledgerClass) (by
      by_cases h1 : s.getO R.HOLDUP_STATE = HS.ON_STORE
      · exact .inl h1
      · exact .inr (by have : ¬ classNeeds s.ledgerClass ≤ sampleEnergy m := fun x => h ⟨h1, x⟩
                       omega)) 0x1C0
        (fun s => let s := s.ledgerWrite; if h : u < 16 then s.storeRecord k ⟨u, h⟩ else s)
        (fun s => { s.setO R.LEDGER_STATE 1 with ledgerHeld := s.ledgerHeld ++ [(k, u)], ledgerDue := some (s.ledgerDue.getD (s.now + 60000000000000)) })
    rw [e]
    have hvs : KeepsObjs aKey s v := by rcases hv with hv | hv <;> subst hv; exact KeepsObjs.refl _; exact hr
    have q : KeepsObjs aKey v (v.refuseCommit s.ledgerClass 0x1C0) := fun j hj => (refuseCommit_is v s.ledgerClass 0x1C0).2.2.2.2.2 j ⟨aKey_free hj, aKey_ev hj⟩
    have q2 := hvs.trans q
    clear e q hvs
    generalize v.refuseCommit s.ledgerClass 0x1C0 = w at *
    exact fun j hj => (State.getO_setO_ne _ (fun e => absurd hj.1 (by rw [e]; decide)) _).trans (q2 j hj)
theorem assayChan_dies (s : State) (b : Bay) (k : Fin 16) (r : BayAssayResult) : (s.assayChan b k r).dies = s.dies :=
  congrArg (fun x => x.2) ((State.assayChan_kept (m := 32776) (x_b := b) (x_k := k) (x_r := r) (by decide) (Kept.refl s)).parts .pins (by decide))
theorem find_hop : ∀ (l : List Nat), (∀ x, x ∈ l → x ≤ 2500) → l.findIdx? (fun h => decide (2500 < h)) = none := by
  intro l h
  rw [List.findIdx?_eq_none_iff]
  intro x hx; have := h x hx; simpa using this
theorem keyS_ne {s : State} {k : Nat} (b : Bay) {o : Nat} (ho : o < 0x10000) (h : k < 64) (v : Nat) (u : State) : (u.setB b o v).getO (R.SLOT_STATE + k) = u.getO (R.SLOT_STATE + k) :=
  State.getO_setO_ne _ (fun e => by have := keyB_low (b := b) ho; simp only [R.SLOT_STATE] at e; omega) _
/-- Zeroising a list of slots (R389, R390): each slot listed once is released, and the others stay. -/
theorem zeroList_is : ∀ (l : List Nat) (s : State), l.Nodup → (∀ x, x ∈ l → x < 64) → (∀ k, k ∈ l → (s.each l State.zeroSlot).slotLoaded k = false ∧
    (s.each l State.zeroSlot).slotEpoch k = nextKeyEpoch (s.slotEpoch k)) ∧ (∀ k, k < 64 → k ∉ l → (s.each l State.zeroSlot).slot k = s.slot k)
  | [], s, _, _ => ⟨fun k hk => absurd hk List.not_mem_nil, fun _ _ _ => rfl⟩
  | a :: l, s, hn, h64 => by
    obtain ⟨ih1, ih2⟩ := zeroList_is l (s.zeroSlot a) (List.nodup_cons.mp hn).2 (fun x hx => h64 x (List.mem_cons_of_mem _ hx))
    have ha := h64 a List.mem_cons_self
    obtain ⟨z1, z2, -, z4⟩ := zeroSlot_is s a ha
    have keep : ∀ k, k < 64 → k ≠ a → (s.zeroSlot a).slot k = s.slot k := fun k hk hne => z4 _ (by
      simp only [List.mem_cons, List.not_mem_nil, or_false, not_or, R.SLOT_STATE, R.SLOT_BASE]; omega)
    rw [State.each_cons]
    refine ⟨fun k hk => ?_, fun k hk hnot => ?_⟩
    · rcases List.mem_cons.mp hk with e | hk
      · subst e
        have e := ih2 k ha (List.nodup_cons.mp hn).1
        simp only [State.slotLoaded, State.slotEpoch] at z1 z2 ⊢
        rw [e]; exact ⟨z1, z2⟩
      · obtain ⟨q1, q2⟩ := ih1 k hk
        refine ⟨q1, q2.trans (congrArg nextKeyEpoch ?_)⟩
        unfold State.slotEpoch; rw [keep k (h64 k (List.mem_cons_of_mem _ hk)) (fun e => (List.nodup_cons.mp hn).1 (e ▸ hk))]
    · exact (ih2 k hk (fun x => hnot (List.mem_cons_of_mem _ x))).trans (keep k hk (fun e => hnot (e ▸ List.mem_cons_self)))
theorem pkgFail_is (s : State) (b : Bay) (st d : Nat) (slot : Option Nat) : ((s.pkgFail b st d slot).bay b).pkg = none ∧ (s.pkgFail b st d slot).getB b RBay.PKG_STATUS = st ∧
    (s.pkgFail b st d slot).getB b RBay.PKG_DETAIL = d ∧ (s.pkgFail b st d slot).shingles = s.shingles := by
  unfold State.pkgFail
  extract_lets w
  have hw : w.shingles = s.shingles := by simp only [w]; split <;> rfl
  clear_value w
  refine ⟨?_, (State.getO_setO_ne _ (by rw [Ne, keyB_inj]; decide) _).trans (State.getO_setO_same _ _ _), State.getO_setO_same _ _ _, hw⟩
  exact congrArg BayU.pkg (State.bay_modBay_same w b (fun u => { u with pkg := none }))
theorem entryError_of {s t : State} (h : t.objs = s.objs) (b : Bay) (e : Nat) : t.entryError b e = s.entryError b e := by
  have g : ∀ k, t.getO k = s.getO k := fun k => State.getO_of_objs h k
  have r : t.rowWidth b = s.rowWidth b := by unfold State.rowWidth State.getB; simp only [g]
  unfold State.entryError State.inPattern State.patternBytes; rw [r]; simp only [g]
theorem eachB_objs (b : Bay) : ∀ (l : List (Nat × Nat)) {s t : State}, t.objs = s.objs → (t.each l (fun s q => s.setB b q.1 q.2)).objs = (s.each l (fun s q => s.setB b q.1 q.2)).objs
  | [], _, _, h => h
  | a :: l, s, t, h => by
    rw [State.each_cons, State.each_cons]
    exact eachB_objs b l (congrArg (fun x => Tab.set x (keyB b a.1) a.2) h)
theorem zipIdx_range (l : List Nat) : l.zipIdx.map (fun q => (q.2, q.1)) = (List.range l.length).map (fun j => (0 + j, l.getD j 0)) := by
  apply List.ext_getElem
  · simp
  · intro i h1 h2
    simp at h1
    simp [h1]
theorem eachTags (f : Nat → Nat) (v : Nat) : ∀ (l : List Nat) (s : State), ∃ tg, s.each l (fun s i => { s with tags := s.tags.set (f i) v }) = { s with tags := tg }
  | [], s => ⟨s.tags, rfl⟩
  | a :: l, s => by
    obtain ⟨tg, h⟩ := eachTags f v l { s with tags := s.tags.set (f a) v }
    exact ⟨tg, (State.each_cons _ _ _ _).trans h⟩
theorem pkgData_is (s : State) (b : Bay) (p : Bytes) (d : Nat) :
    ∃ tg, s.pkgData b p d = { s with mem := memWrite s.mem (s.getB b RBay.PKG_BASE) (slice p (dirData d) (dirLen d)), tags := tg } := by
  unfold State.pkgData State.writeBlocks
  exact eachTags _ _ _ _
theorem eachB_rest (b : Bay) : ∀ (l : List (Nat × Nat)) (s : State), (s.each l (fun s q => s.setB b q.1 q.2)).doms = s.doms ∧ (s.each l (fun s q => s.setB b q.1 q.2)).mem = s.mem
  | [], _ => ⟨rfl, rfl⟩
  | a :: l, s => by rw [State.each_cons]; exact eachB_rest b l (s.setB b a.1 a.2)
/-- The held sections of a package that passes its checks (R85, R389). -/
theorem pkgTables_is (s : State) (b : Bay) (p : Bytes) (d : Nat) (slot : Option Nat) (h : setupOk (setupValues (slice p (dirSetup d) setupBytes)) = true)
    (h2 : ∀ e, e ∈ imageEntries p d (s.getB b RBay.PKG_BASE) → (s.each (setupValues (slice p (dirSetup d) setupBytes)) (fun s q => s.setB b q.1 q.2)).entryError b e = none) :
    ((s.pkgTables b p d slot).bay b).pkg = none ∧ (s.pkgTables b p d slot).getB b RBay.PKG_STATUS = PS.DONE ∧ (s.pkgTables b p d slot).getB b RBay.PKG_DETAIL = 0 ∧
    (s.pkgTables b p d slot).getB b RBay.PKG_VERSION = fieldOf (pkgHeader p) 192 32 ∧ (s.pkgTables b p d slot).doms = s.doms.set (keyB b RBay.PKG_ID) (slice p 8 16) ∧
    (s.pkgTables b p d slot).reply = s.reply ∧ (s.pkgTables b p d slot).mem = s.mem ∧
    ∀ j, j < dirEntries d → (s.pkgTables b p d slot).shingles.get (entryKey b j) 0 = BitVec.ofNat 256 ((imageEntries p d (s.getB b RBay.PKG_BASE)).getD j 0) := by
  unfold State.pkgTables
  extract_lets setup old es reply v w s3 s4
  rw [if_neg (by rw [h]; decide)]
  have he : es.length = dirEntries d := by simp [es, imageEntries]
  have hes : es = imageEntries p d (s.getB b RBay.PKG_BASE) := rfl
  rw [← hes] at h2 ⊢
  have k : v.doms = s.doms ∧ v.mem = s.mem := eachB_rest b setup s
  obtain ⟨sh, w1, w2⟩ := storeEntries_ok b (fun j => es.getD j 0) (List.range es.length) v 0 (fun j hj => by
    have hj := List.mem_range.mp hj
    refine h2 _ ?_
    rw [List.getD_eq_getElem?_getD, List.getElem?_eq_getElem hj]; exact List.getElem_mem hj)
  have w3 : w = ({ v with shingles := sh } : State).ok := by simp only [w]; rw [zipIdx_range]; exact w1
  have sets := (range_sets b (fun j => es.getD j 0) 0 es.length v.shingles).1
  rw [← w2] at sets
  clear w1 w2 h2
  clear_value es
  clear_value w v
  have k1 : w.doms = s.doms := by rw [w3]; exact k.1
  have k2 : w.mem = s.mem := by rw [w3]; exact k.2
  have k3 : w.shingles = sh := by rw [w3]; rfl
  rw [if_pos (by rw [w3]; rfl)]
  clear w3 k
  have m3 : (s3.bay b).pkg = none := congrArg BayU.pkg (State.bay_modBay_same ({ w with reply := reply } : State) b (fun u => { u with pkg := none }))
  have m4 : s4.doms = w.doms.set (keyB b RBay.PKG_ID) (slice p 8 16) ∧ s4.mem = w.mem ∧ s4.shingles = w.shingles ∧ s4.reply = s.reply ∧ s4.bays = s3.bays := ⟨rfl, rfl, rfl, rfl, rfl⟩
  have m5 : (s4.bay b).pkg = none := (congrArg (fun x => (Vector.get x b).pkg) m4.2.2.2.2).trans m3
  clear_value s4
  refine ⟨m5, ?_, ?_, State.getO_setO_same _ _ _, m4.1.trans (congrArg (fun x => x.set (keyB b RBay.PKG_ID) (slice p 8 16)) k1), m4.2.2.2.1, m4.2.1.trans k2, fun j hj => ?_⟩
  · exact (State.getO_setO_ne _ (by rw [Ne, keyB_inj]; decide) _).trans ((State.getO_setO_ne _ (by rw [Ne, keyB_inj]; decide) _).trans (State.getO_setO_same _ _ _))
  · exact (State.getO_setO_ne _ (by rw [Ne, keyB_inj]; decide) _).trans (State.getO_setO_same _ _ _)
  · have q := sets j (by omega)
    have e : ((s4.setB b RBay.PKG_STATUS PS.DONE).setB b RBay.PKG_DETAIL 0 |>.setB b RBay.PKG_VERSION (fieldOf (pkgHeader p) 192 32)).shingles = sh := m4.2.2.1.trans k3
    rw [e]; simpa using q
theorem roll_modRoll (s : State) (b : Bay) (f : Roll → Roll) : ((s.modRoll b f).bay b).roll = f (s.bay b).roll :=
  congrArg BayU.roll (State.bay_modBay_same s b (fun u => { u with roll := f u.roll }))
theorem onSpare_of {s : State} {b : Bay} {k : Fin 16} (h : (s.bay b).roll.target = some k) : s.onSpare b = (s.getC (chanOf b k) RChan.SELECTOR == 1) := by unfold State.onSpare; rw [h]

end Sys2Proof.Machine
end

