-- ==== Sys2Proof/WellFormed.lean ====
section
/-! DEFINITION. Which commands are well formed: their operands fit the fields the messages give them (R361, R374, R239,
R323).  A register's operands fit by their types; what the module refuses by status is well formed. -/

namespace Sys2Proof

/-- A number fits a field of `w` bits. -/
def fits (w n : Nat) : Bool := decide (n < 2 ^ w)

/-- A list of write items fits its message: COUNT and each item's length are 16 bits (R361). -/
def itemsFit (items : List WItem) : Bool := fits 16 items.length && items.all (fun i => fits 16 i.value.length)

/-- Whether a command is well formed. -/
def Instr.wf : Instr → Bool
  | .hello _ req _ _ _ => fits 32 req
  | .read _ req room items => fits 32 req && fits 32 room && fits 16 items.length
  | .write _ req items _ => fits 32 req && itemsFit items
  | .maskedWrite _ req _ _ => fits 32 req
  | .blockRead _ req _ off len => fits 32 req && fits 32 off && fits 32 len
  | .blockWrite _ req frag _ => fits 32 req && fits 32 frag.data.length
  | .stage _ req items => fits 32 req && itemsFit items
  | .stageDiscard _ req units => fits 32 req && fits 16 units.length
  | .commit _ req _ units => fits 32 req && fits 16 units.length
  | .mgmtRead _ off len _ => fits 32 off && fits 16 len
  | .mgmtWrite _ off data _ _ => fits 32 off && fits 16 data.length
  | .registerWrite _ item => fits 16 item.value.length
  | .memRead _ addr len _ _ => fits 64 (addr + len)
  | .memWrite _ addr data _ => fits 64 (addr + data.length)
  | .tokenArrival t => fits 8 t.graph && fits 8 t.node && fits 2 t.port && fits 32 t.seq && fits 64 t.value
  | .frameSend _ _ len _ _ => fits 16 len
  | .frameReceive _ f _ => fits 16 f.payload.length
  | .sessionOpen .. | .sessionClose .. | .sessionIdleTimeout .. | .blockWriteAbandon .. | .commitApply ..
  | .commitWindowExpiry .. | .eventSend .. | .eventHoldExpiry .. | .dataSubscribe .. | .dataAck ..
  | .dataEventResend .. | .mgmtStatus .. | .stateRequestOff .. | .stateRequestSafe .. | .stateRequestIdle ..
  | .stateRequestMaint .. | .stateRequestPause .. | .stateRequestRun .. | .stateRequestArm ..
  | .stateRequestDisarm .. | .stateRequestStop .. | .armFillComplete .. | .laneFedArmReady .. | .hostStart ..
  | .patternEnd .. | .bclkChange .. | .pllRelock .. | .clockUnlock .. | .quadRetire .. | .resourceClaim ..
  | .resourceRelease .. | .shingleEntryWrite .. | .tableBlockWrite .. | .tsetWrite .. | .jumpRequest ..
  | .condJump .. | .granuleBoundary .. | .decisionBoundary .. | .shingleBoundary .. | .loftFill .. | .underrunEnd ..
  | .underrunLogClear .. | .seqJump .. | .seqIf .. | .seqIfnot .. | .seqCall .. | .seqCallIf .. | .seqReturn ..
  | .seqExit .. | .seqDispatch .. | .waitRelease .. | .waitTimeout .. | .vecEmit .. | .vecPad .. | .vecHold ..
  | .vecMute .. | .prdSel .. | .lvlSel .. | .matchEnable .. | .shgJumpReq .. | .shgPause .. | .shgStop ..
  | .shgRewind .. | .cntDec .. | .cntInc .. | .cntDecVec .. | .cntIncVec .. | .cntLoad .. | .cntLoadParam ..
  | .cntReload .. | .cntClear .. | .captureOn .. | .captureOff .. | .capMark .. | .retire .. | .retireFailed ..
  | .objWrite .. | .raise .. | .loadNow .. | .loadTimer .. | .blankStart .. | .blankEnd .. | .tmuMwArm ..
  | .tmuMwDisarm .. | .ridgeAssert .. | .ridgeRelease .. | .ridgePulse .. | .sphPermit .. | .sphInhibit ..
  | .customWatchdog .. | .bankImage .. | .bankLoadComplete .. | .customEntryWrite .. | .vendorReload ..
  | .strobeLatch .. | .driveEdge .. | .ridgeEvent .. | .purlinEvent .. | .trigEdge .. | .lvlSelect ..
  | .loadRequest .. | .levelSetWrite .. | .guardThresholdWrite .. | .clearCodeWrite .. | .clearAssert ..
  | .clearRelease .. | .guardTrip .. | .guardTripReport .. | .guardUntrip .. | .guardResolve .. | .tripClear ..
  | .blankExpiry .. | .loadTimerExpiry .. | .controlLinkLost .. | .converterSlot .. | .pmuModeWrite ..
  | .measStart .. | .measDone .. | .frameClose .. | .consumedFrameWrite .. | .triggerArmed .. | .triggerRecognised ..
  | .channelEdge .. | .trigForce .. | .trigRearm .. | .windowDone .. | .tmuArmRequest .. | .tmuDisarmRequest ..
  | .tmuCalibrationDone .. | .tmuHit .. | .tmuGateExpiry .. | .tmuTimeout .. | .tmuRepeat .. | .tmuRefLost ..
  | .resultRead .. | .resultBlockRead .. | .fifoClear .. | .bindingPost .. | .post .. | .hostPostTimeout ..
  | .workDispatch .. | .workComplete .. | .workLimit .. | .coreFault .. | .delayEntryExpiry .. | .storeDeadlock ..
  | .internalObjectRequest .. | .graphDrainComplete .. | .startRequest .. | .stopRequest .. | .benchDrain ..
  | .benchDrained .. | .benchLoad .. | .benchLoadComplete .. | .benchResume .. | .peakClear .. | .refresh ..
  | .tempReading .. | .recoveryStep .. | .scrubStep .. | .hbmRetrainRequest .. | .hbmRetrainComplete ..
  | .chanStart .. | .chanRetry .. | .chanSkip .. | .chanAbort .. | .dmaPauseWrite .. | .dmaPaused .. | .descFetch ..
  | .dmaAccessResponse .. | .descComplete .. | .progMove .. | .progSet .. | .progLoop .. | .progJump ..
  | .progWaitEvent .. | .progWaitWord .. | .progWaitPoll .. | .progWaitRelease .. | .progWaitTimeout ..
  | .progWrite .. | .progSignal .. | .progEnd .. | .portStall .. | .noresp .. | .laneEnable .. | .receiverDetect ..
  | .gatherWindowEnd .. | .trainComplete .. | .bitLock .. | .blockLock .. | .capsExchange .. | .capsSend ..
  | .laneStepTimeout .. | .autoRetrain .. | .headerWindow .. | .fomUpdate .. | .adaptFreeze .. | .adaptResume ..
  | .fomLow .. | .laneRetrainRequest .. | .linkForm .. | .linkCtrlUp .. | .linkCtrlDown .. | .marker .. | .ack ..
  | .nak .. | .credit .. | .laneDrop .. | .laneAdd .. | .rateNotice .. | .replayTimeout .. | .creditGrant ..
  | .streamOpen .. | .streamReset .. | .ringConsumedWrite .. | .portModeWrite .. | .ethFrameRx .. | .portLinkDown ..
  | .ptpEventTx .. | .tsqEntryRead .. | .syncLoss .. | .rateSet .. | .offsetAdjust .. | .timeSet ..
  | .timeCopyRefresh .. | .tpgEnable .. | .tpgFire .. | .tpgPulseEnd .. | .selfTestRequest .. | .selfTestComplete ..
  | .entropyFail .. | .zeroize .. | .zeroizeN .. | .groupKeyImport .. | .codeKeyWrite .. | .roleAnchorWrite ..
  | .fwImage .. | .fwActiveSlotWrite .. | .fwAccept .. | .tmRestartRequest .. | .debugUnlock .. | .slotZeroize ..
  | .pkgImage .. | .pkgStart .. | .pkgLoadComplete .. | .signRequest .. | .reserveRetry .. | .rollStep ..
  | .handover .. | .pathCalibrated .. | .handoverTimeout .. | .rollPause .. | .rollEnable .. | .manualTarget ..
  | .bayAssayRequest .. | .bayAssayComplete .. | .tmuAssay .. | .purlinAssay .. | .assayWindow .. | .ledgerCommit ..
  | .ledgerIntervalExpiry .. | .ledgerRetry .. | .faultMessage .. | .faultOverflow .. | .graceExpired ..
  | .stepConfirm .. | .stepUnconfirmed .. | .faultHandle .. | .policyWrite .. | .injectGo .. | .faultLogNext ..
  | .faultLogRecord .. | .keeperTimeRefresh .. | .archiveRetry .. | .eventLogNext .. | .aliveToggle ..
  | .watchdogWrite .. | .watchdogExpiry .. | .heartbeatLoss .. | .temperatureAlarm .. | .keeperClock ..
  | .safeHoldRequest .. | .safeHoldExitResume .. | .safeHoldExitRestart .. | .resetStepRestart .. | .supplyValid ..
  | .supplyTimeout .. | .supplyFault .. | .vauxLoss .. | .vauxReturn .. | .holdupDepleted .. | .porstN ..
  | .sysRstN .. | .startStageComplete .. | .refInDetect .. | .startTimeout .. | .holdupCheckRequest ..
  | .holdupIntervalExpiry .. | .holdupCheckComplete .. | .holdupRecheck .. | .switchoverRequest ..
  | .standbyLoaded .. | .controlCoreFault .. | .switchoverTakeover .. | .standbyRestart .. | .jtagInstruction ..
  | .partnerTraining .. | .portLinkUp .. | .refInFault .. | .tclkRelock .. | .refWarmChange .. | .scopeSample ..
  | .pmuRangeWrite .. | .tmuAssayComplete .. | .purlinAssayComplete .. | .fwProgramComplete .. => true

end Sys2Proof
end

