-- ==== Sys2Proof/Tests/Slice0.lean ====
section
/-! SUPPORT. Small tests of the model, the smoke test of WellFormed, and the witnesses of the statements' hypotheses. -/

namespace Sys2Proof.Tests

open Sys2Proof.Machine

/-- The state right after reset with some scalar objects written. -/
def mk (l : List (Nat × Nat)) : State := l.foldl (fun s p => s.setO p.1 p.2) {}

/-- OPERATIONAL, a control core active, every clock locked, bay 0 in a state. -/
def live (st : Nat) (l : List (Nat × Nat)) : State :=
  { mk ([(R.MODULE_STATE, 3), (R.START_STAGE, 12), (R.LOCK_MASK, 2 ^ 41 - 1), (keyB 0 RBay.BAY_STATE, st)] ++ l) with coreOut := false }

theorem witness_BayStateRequests :
    (Asked (live 1 []) 0 0 ∧ (live 1 []).bst 0 = BS.SAFE) ∧ (Asked (live 2 []) 0 0 ∧ (live 2 []).bst 0 = BS.IDLE) ∧
    (Asked (live 4 []) 0 0 ∧ (live 4 []).bst 0 = BS.RUN) ∧ (Asked (live 5 []) 0 0 ∧ (live 5 []).bst 0 = BS.PAUSE) ∧
    (Asked (live 3 []) 0 0 ∧ (live 3 []).bst 0 = BS.ARMED) ∧
    (let x := { (live 1 []).modBay 0 (fun u => { u with fine := true }) with holdupOk := true }
     Asked x 0 0 ∧ x.bst 0 = BS.SAFE ∧ x.holdupOk = true ∧ (x.bay 0).fine = true) := by decide

/-- IDLE bay 0 of a QUAD site, everything an arming needs at hand. -/
def armable (l : List (Nat × Nat)) : State :=
  (live 2 ([(keySite 0 RSite.KIND, 2), (keySite 0 RSite.BAY_MASK, 1)] ++ l)).modBay 0 (fun u => { u with fine := true })

set_option maxRecDepth 10000 in
theorem witness_ArmingFillsAndRuns :
    (Asked (armable []) 0 0 ∧ (armable []).bst 0 = BS.IDLE ∧ ((armable []).bay 0).arming = 0 ∧
      ((armable []).armShow 0).armFail 0 = none) ∧
    (Asked (live 2 []) 0 0 ∧ ((live 2 []).armShow 0).armFail 0 = some { arm := 1, dop := 6 }) ∧
    (let x := (armable []).modBay 0 (fun u => { u with arming := 1 })
     x.bst 0 = BS.IDLE ∧ (x.bay 0).arming = 1 ∧ (x.bay 0).holding = none ∧ x.clockOk 0 = true) ∧
    (let x := (armable []).modBay 0 (fun u => { u with arming := 2 })
     x.bst 0 = BS.IDLE ∧ (x.bay 0).arming = 2 ∧ (x.bay 0).holding = none ∧ x.clockOk 0 = true ∧
      ((x.residentErrors 0 []).fillRing 0 [] 16384).ringFull 0 = true) ∧
    (let x := (live 2 []).modBay 0 (fun u => { u with arming := 1 })
     x.bst 0 = BS.IDLE ∧ (x.bay 0).arming = 1 ∧ (x.bay 0).holding = none ∧ x.clockOk 0 = false) ∧
    (((live 2 []).modBay 0 (fun u => { u with holding := some 2 })).bay 0).holding ≠ none := by decide
set_option maxRecDepth 10000 in
theorem witness_ArmingFillsAndRuns_rest :
    (let x := live 3 [(keySite 0 RSite.KIND, 2), (keySite 0 RSite.BAY_MASK, 1)]
     Ready x 0 0 ∧ (x.bay 0).holding = none ∧ x.siteKind 0 = 2 ∧ x.members 0 = [0] ∧ x.bst 0 = BS.ARMED) ∧
    (let x := live 5 [(keySite 0 RSite.KIND, 1), (keySite 0 RSite.BAY_MASK, 1)]
     Ready x 0 0 ∧ (x.bay 0).holding = none ∧ x.siteKind 0 = 1 ∧ x.members 0 = [0] ∧ x.bst 0 = BS.PAUSE) ∧
    (let x := (live 4 []).modBay 0 (fun u => { u with ending := true })
     x.running 0 = true ∧ (x.bay 0).ending = true ∧ x.landed 0 = true) ∧
    (let x := (live 4 []).modBay 0 (fun u => { u with retiring := [(2 ^ 3, 0)], cyc := 4 })
     x.running 0 = true ∧ (x.bay 0).granOpen = false ∧ (x.bay 0).retiring = [(2 ^ 3, 0)] ∧ 0 + 4 ≤ (x.bay 0).cyc ∧ x.retired 0 3 = false) ∧
    (let x := (live 4 []).modBay 0 (fun u => { u with granOpen := true, granRows := 1 })
     x.running 0 = true ∧ x.bayDown 0 = false ∧ x.atGranule 0 = false) := by decide

theorem witness_ClaimsAndReleases :
    (ClaimReady (live 2 []) (.tpg 7) 0 ∧ (claimFeatures (.tpg 7)).contains 0x0C = true ∧ (live 2 []).claim (.tpg 7) = none) ∧
    (ClaimReady ((live 2 []).setClaim (.ridge 31) 0x101 0x08) (.ridge 31) 0 ∧ (claimFeatures (.ridge 31)).contains 0x08 = true ∧
      ((live 2 []).setClaim (.ridge 31) 0x101 0x08).claim (.ridge 31) = some ⟨0x101, 0x08⟩) ∧
    ClaimReady (live 2 []) (.blankTimer 0) 0 ∧
    (let x := { live 2 [] with coreOut := true }
     x.operational = true ∧ x.coreOut = true) ∧
    (let x := live 2 [(keyB 15 RBay.SITE_EPOCH, 7)]
     x.operational = true ∧ x.coreOut = false ∧ claimBay (.sparePath 15) = some 15 ∧ x.bayDown 15 = true ∧ (live 2 [(keyB 0 RBay.SITE_EPOCH, 7)]).bayDown 0 = false ∧
      claimBay (.sparePath 0) = some 0 ∧ (live 2 [(keyB 0 RBay.SITE_EPOCH, 7)]).getB 0 RBay.SITE_EPOCH ≠ 0) := by decide

theorem witness_LineEventsReachTheModule :
    ({ live 2 [] with ridgeWay := [(31, true)] }.ridgeComes 31 true = true) ∧
    (let x := live 4 [(keySite 63 RSite.KIND, 4), (keySite 63 RSite.BAY_MASK, 1), (keyB 0 RBay.STOP_ON_FAIL, 1)]
     x.siteKind 63 = 4 ∧ x.members 63 = [0] ∧ x.bayDown 0 = false ∧ x.running 0 = true ∧ (x.bay 0).frozen = none ∧
      x.getB 0 RBay.STOP_ON_FAIL = 1 ∧ (x.bay 0).lastInfo.sofd = false) ∧
    (let x := live 4 [(keySite 63 RSite.KIND, 4), (keySite 63 RSite.BAY_MASK, 1), (R.LOCK_MASK, 0)]
     x.siteKind 63 = 4 ∧ x.members 63 = [0] ∧ x.bayDown 0 = true) ∧
    ((∀ i, (live 2 []).siteKind i = 0) ∧ (live 2 []).claimedFor (.trig 7) 0x05 = false ∧ (live 2 []).bayDown 0 = false) := by
  decide

set_option maxRecDepth 10000 in
theorem witness_TableWritesAndJumpRequests :
    (Ready (live 2 []) 0 0 ∧ (live 2 []).coreOut = false ∧ (live 2 []).quiet 0 = true ∧ (live 2 []).entryError 0 0 = none ∧
      (live 2 []).entryError 0 (2 ^ 191) = none ∧ (live 2 []).entryError 0 (2 ^ 182 + 2 ^ 255) = none ∧
      ((live 2 []).entryError 0 (2 ^ 172 + 2 ^ 191 + 7 * 2 ^ 42)).isSome = true) ∧
    (Ready (live 2 [(keyB 0 RBay.TABLE_INDEX, 8191)]) 0 0 ∧
      (live 2 [(keyB 0 RBay.TABLE_INDEX, 8191)]).getB 0 RBay.TABLE_INDEX + 1 ≤ 8192) ∧
    (Ready (live 5 []) 0 0 ∧ (live 5 []).running 0 = true ∧ (live 5 []).jumpable 0 8192 = false) ∧
    (live 3 []).running 0 = false ∧ (Ready { live 2 [] with coreOut := true } 0 0 ∧ { live 2 [] with coreOut := true }.coreOut = true) ∧
    (({ live 4 [] with shingles := [(8191, 2 ^ 172 + 2 ^ 170 + 7 * 2 ^ 42)] }).jumpable 0 8191 = true) ∧
    ((live 4 [(keyB 0 RBay.COND_JUMP, 2 ^ 31)]).running 0 = true ∧ (live 4 [(keyB 0 RBay.COND_JUMP, 2 ^ 31)]).cond 0 0 = true) := by decide

/-- A bay in RUN on a resident entry of 8 granules. -/
def onEntry (w : BitVec 256) (f : BayU → BayU) : State :=
  ({ live 4 [(keyB 0 RBay.ACTIVE_MASK, 1), (keyB 0 RBay.SYMBOL_BITS, 1), (keyB 0 RBay.RING_BYTES, 1), (keyB 0 RBay.CURRENT_PASS, 1)] with
    shingles := [(0, w), (8191, w)] } : State).modBay 0 f
set_option maxRecDepth 10000 in
theorem witness_SequencingBoundaries :
    (let r : BitVec 256 := 2 ^ 172 + 2 ^ 170 + 7 * 2 ^ 42
     let x := onEntry r (fun u => { u with fine := true, rowNext := 63 })
     x.issuing 0 = true ∧ (x.bay 0).granOpen = false ∧ 63 < 8 * entLen (x.curEntry 0) ∧ (x.bay 0).stopReq = false ∧ (x.bay 0).retiring = [] ∧
      x.getB 0 RBay.QUADS_RETIRED ≠ 15 ∧ x.bst 0 = BS.RUN ∧ (x.bay 0).pauseReq = false ∧ x.getB 0 RBay.ABORT_ON_UNDERRUN = 0 ∧ x.lockstep 0 = false ∧
      isResident (x.curEntry 0) (63 / 8) = true ∧ (x.bay 0).badBlocks = [] ∧ x.atDecision 0 = true) ∧
    (let r : BitVec 256 := 2 ^ 172 + 2 ^ 170 + 7 * 2 ^ 42
     let x := onEntry r (fun u => { u with fine := true, stopReq := true })
     let y := onEntry r (fun u => { u with fine := true, pauseReq := true })
     x.issuing 0 = true ∧ (x.bay 0).stopReq = true ∧ (x.bay 0).retiring = [] ∧ y.issuing 0 = true ∧ (y.bay 0).pauseReq = true) ∧
    (let r : BitVec 256 := 2 ^ 172 + 2 ^ 170 + 7 * 2 ^ 42
     let x := onEntry r (fun u => { u with fine := true, rowNext := 64, decided := some (.enter 8191) })
     let y := onEntry r (fun u => { u with fine := true, rowNext := 64, decided := some .again })
     let z := onEntry r (fun u => { u with fine := true, rowNext := 64, decided := some .endPattern })
     x.passOver 0 = true ∧ (x.bay 0).decided = some (.enter 8191) ∧ entValid (x.entry 0 8191) = true ∧ entType (x.entry 0 8191) = 0 ∧
      entLvl (x.entry 0 8191) = entLvl (x.curEntry 0) ∧ y.passOver 0 = true ∧ (y.bay 0).decided = some .again ∧
      z.passOver 0 = true ∧ (z.bay 0).decided = some .endPattern) ∧
    (let r : BitVec 256 := 2 ^ 172 + 2 ^ 170 + 2 ^ 166 + 7 * 2 ^ 42
     let x := onEntry r (fun u => { u with fine := true, rowNext := 64, decided := some (.enter 8191) })
     x.passOver 0 = true ∧ entValid (x.entry 0 8191) = true ∧ entType (x.entry 0 8191) ≠ 0 ∧
      (x.getB 0 (RBay.CUSTOM_ENTRY + (entType (x.entry 0 8191) - 1))).testBit 31 = false) := by decide
set_option maxRecDepth 10000 in
theorem witness_SequencingBoundaries_loft :
    (let r : BitVec 256 := 2 ^ 172 + 7 * 2 ^ 42
     let x := onEntry r (fun u => { u with fetch := some ⟨0, 1, 7, 0⟩, under := some ⟨⟨0, 1, 0, 0⟩, 0, 1, [], 0, 0⟩ })
     x.running 0 = true ∧ x.rowWidth 0 = 1 ∧ (x.bay 0).fetch = some ⟨0, 1, 7, 0⟩ ∧ entResid (x.entry 0 0) = 0 ∧ x.slotFor .pattern (x.nextBlock 0) 64 = true ∧
      x.tagBad (x.entry 0 0) (entStart (x.entry 0 0) + 7 * x.rowWidth 0 / 64 * 64) = false ∧
      min (min (entLen (x.entry 0 0) - 7) ((64 - 7 * x.rowWidth 0 % 64) / x.rowWidth 0)) (x.getB 0 RBay.RING_BYTES / x.rowWidth 0 - (x.bay 0).ring.length) = 1) ∧
    (let r : BitVec 256 := 2 ^ 172 + 2 ^ 170 + 7 * 2 ^ 42
     let x := onEntry r (fun u => { u with under := some ⟨⟨0, 1, 0, 0⟩, 0, 1, [], 0, 0⟩ })
     (x.loftTake 0).isOk = true ∧ x.running 0 = true ∧ (x.bay 0).granOpen = false) := by decide
/-- Pseudo-channel 0 with no slot left for pattern reads, or for best effort. -/
def fullPc (c : MemClass) (n : Nat) (f : State → State) : State :=
  f { live 4 [(keyPc 0 RPc.PC_STATE, 2)] with hbmQ := { pcs := (Vector.replicate 64 {}).set 0 { queue := List.replicate n ⟨c, 0⟩ } } }
set_option maxRecDepth 20000 in
theorem witness_SequencingBoundaries_full : (fullPc .pattern 208 id).slotFor .pattern ((fullPc .pattern 208 id).nextBlock 0) 64 = false := by decide

/-- A bay in RUN at a customer word at an address. -/
def atWord (w : BitVec 160) (f : BayU → BayU) : State :=
  ({ live 4 [(keyB 0 RBay.UPC, 0x3000), (keyB 0 RBay.CURRENT_PASS, 1), (keyB 0 RBay.CUSTOM_WATCHDOG, 256), (keyB 0 RBay.OBJ_SLOT, 2 ^ 31 + 5)] with
    bank := [(0, w)], shingles := [(0, 2 ^ 172 + 2 ^ 170 + 2 ^ 166 + 7 * 2 ^ 42)] } : State).modBay 0
      (fun u => f { u with cust := true, fine := true })
/-- A bay in RUN at a customer word whose first cycle is over. -/
def atEnd (w : BitVec 160) (f : BayU → BayU) : State := atWord w (fun u => f { u with cycDone := true, wordCyc := 1 })
set_option maxRecDepth 10000 in
theorem witness_WordSequence :
    (let x := atEnd (0x3FFF : BitVec 160) id
     Customer x 0 ∧ x.wordCycle 0 = true ∧ uwSeq (x.word 0) = 0 ∧ uwWait (x.word 0) = false ∧ (x.bay 0).badWords.contains (uwNext (x.word 0)) = false ∧
      (x.bay 0).softWords.contains (uwNext (x.word 0)) = false ∧ uwNext (x.word 0) = 0x3FFF) ∧
    (let x := atEnd (0x3FFF + 1 * 2 ^ 14) id
     Customer x 0 ∧ x.wordCycle 0 = true ∧ uwSeq (x.word 0) = 1 ∧ inCounterGroup (uwCond (x.word 0)) = true ∧ x.getB 0 RBay.UPC ≠ 0x3FFF ∧ x.cond 0 0 = true) ∧
    (let x := atEnd (0x3FFF + 2 * 2 ^ 14 + 0x17 * 2 ^ 18) id
     Customer x 0 ∧ x.wordCycle 0 = true ∧ uwSeq (x.word 0) = 2 ∧ inCounterGroup (uwCond (x.word 0)) = true ∧ x.cond 0 0x17 = false) ∧
    (let x := atEnd (0x3FFF + 1 * 2 ^ 14 + 7 * 2 ^ 18) (fun u => { u with conds := [0, 0, 2 ^ 7] })
     Customer x 0 ∧ x.wordCycle 0 = true ∧ uwSeq (x.word 0) = 1 ∧ uwCond (x.word 0) = 7 ∧ ((x.bay 0).conds.getD 2 0).testBit (uwCond (x.word 0)) = true) ∧
    (let x := atEnd (0x3FFF + 3 * 2 ^ 14) (fun u => { u with ustack := [0x3001, 0x3002, 0x3003] })
     Customer x 0 ∧ x.wordCycle 0 = true ∧ uwSeq (x.word 0) = 3 ∧ (x.bay 0).ustack.length < 4) ∧
    (let x := atEnd (0x3FFF + 3 * 2 ^ 14) (fun u => { u with ustack := [0x3001, 0x3002, 0x3003, 0x3004] })
     Customer x 0 ∧ x.wordCycle 0 = true ∧ uwSeq (x.word 0) = 3 ∧ 4 ≤ (x.bay 0).ustack.length) := by decide
set_option maxRecDepth 10000 in
theorem witness_WordSequence_rest :
    (let x := atEnd (0x3FFF + 4 * 2 ^ 14) id
     Customer x 0 ∧ x.wordCycle 0 = true ∧ uwSeq (x.word 0) = 4 ∧ inCounterGroup (uwCond (x.word 0)) = true ∧ x.cond 0 (uwCond (x.word 0)) = true ∧
      (x.bay 0).ustack.length < 4) ∧
    (let x := atEnd (5 * 2 ^ 14) (fun u => { u with ustack := [0x3FFF] })
     Customer x 0 ∧ x.wordCycle 0 = true ∧ uwSeq (x.word 0) = 5 ∧ (x.bay 0).ustack = [0x3FFF]) ∧
    (let x := atEnd (6 * 2 ^ 14) id
     Customer x 0 ∧ x.wordCycle 0 = true ∧ uwSeq (x.word 0) = 6 ∧ (x.bay 0).ustack = [] ∧ (x.bay 0).badWords = [] ∧ (x.bay 0).softWords = []) ∧
    (let x := atWord 0 (fun u => { u with cust := false })
     x.executing 0 = true ∧ (x.bay 0).extra = none ∧ (x.bay 0).cust = false ∧ x.called 0 = true ∧ (x.bay 0).badWords = []) ∧
    (let x := atWord 0 (fun u => { u with cust := false, dispatched := true })
     x.executing 0 = true ∧ x.called 0 = false) ∧
    (let x := atEnd (0x3FFF + 2 ^ 26) id
     Customer x 0 ∧ x.wordCycle 0 = true ∧ uwWait (x.word 0) = true ∧ inCounterGroup (uwCond (x.word 0)) = true ∧ x.cond 0 (uwCond (x.word 0)) = true) ∧
    (let x := atEnd (0x3FFF + 2 ^ 26 + 1 * 2 ^ 18 + 3 * 2 ^ 27) id
     Customer x 0 ∧ x.wordCycle 0 = true ∧ uwWait (x.word 0) = true ∧ x.condAt 0 (uwCond (x.word 0)) = false ∧
      x.getB 0 (RBay.CNT_VALUE + uwWto (x.word 0)) = 0) ∧
    (let x := atWord (0x3FFF : BitVec 160) id
     Customer x 0 ∧ x.wordCycle 0 = false) := by decide

set_option maxRecDepth 10000 in
theorem witness_WordFields :
    (let x := atWord (1 * 2 ^ 47 : BitVec 160) id
     Customer x 0 ∧ uwShg (x.word 0) = 1 ∧ (x.bay 0).acted.testBit OS.SHG = false ∧ x.firstCycle 0 = true ∧ x.jumpable 0 (fieldOf (x.word 0) 112 13) = true) ∧
    (let x := atWord (1 * 2 ^ 47 + 8191 * 2 ^ 112 : BitVec 160) id
     Customer x 0 ∧ x.jumpable 0 (fieldOf (x.word 0) 112 13) = false) ∧
    (let x := atWord (4 * 2 ^ 47 : BitVec 160) id
     Customer x 0 ∧ uwShg (x.word 0) = 4 ∧ x.firstCycle 0 = true ∧ entResid (x.curEntry 0) = 1) ∧
    (let x := atWord (4 * 2 ^ 47 : BitVec 160) (fun u => { u with acted := 2 })
     Customer x 0 ∧ (x.bay 0).acted.testBit OS.SHG = true) ∧
    (let x := atWord (0x1F * 2 ^ 80 : BitVec 160) id
     Customer x 0 ∧ uwCap (x.word 0) = 0x1F ∧ (x.bay 0).acted.testBit OS.CAP = false ∧ x.firstCycle 0 = true) ∧
    (let x := atWord (0x40 * 2 ^ 91 : BitVec 160) (fun u => { u with objQueue := [(0, 0, 0), (0, 0, 0), (0, 0, 0)] })
     Customer x 0 ∧ uwEvt (x.word 0) = 0x40 ∧ (x.getB 0 (RBay.OBJ_SLOT + uwEvt (x.word 0) % 16)).testBit 31 = true ∧ x.firstCycle 0 = true ∧ (x.bay 0).objQueue.length < 4) := by decide
set_option maxRecDepth 10000 in
theorem witness_WordFields_rest :
    (let x := atWord (0x9F * 2 ^ 91 + 2 * 2 ^ 110 : BitVec 160) id
     Customer x 0 ∧ uwEvt (x.word 0) = 0x9F ∧ uwSph (x.word 0) = 2 ∧ (x.bay 0).acted.testBit OS.SPH = false ∧ x.firstCycle 0 = true) ∧
    (let x := atWord (2 ^ 53 + 2 ^ 54 + 2 ^ 90 : BitVec 160) (fun u => { u with noRow := 256 })
     Customer x 0 ∧ (x.word 0).testBit 53 = true ∧ (x.word 0).testBit 54 = true ∧ uwSeq (x.word 0) ≠ 6 ∧ (uwMatch (x.word 0)).testBit 4 = true ∧
      (x.bay 0).acted.testBit OS.LVL = false ∧ x.firstCycle 0 = true ∧ x.getB 0 RBay.CUSTOM_WATCHDOG ≤ (x.bay 0).noRow) ∧
    (let x := atWord (2 * 2 ^ 47 : BitVec 160) id
     Customer x 0 ∧ uwShg (x.word 0) = 2) ∧ (let x := atWord (3 * 2 ^ 47 : BitVec 160) id
     Customer x 0 ∧ uwShg (x.word 0) = 3) ∧ (let x := atWord (0x20 * 2 ^ 80 : BitVec 160) id
     Customer x 0 ∧ uwCap (x.word 0) = 0x20) ∧
    (let x := atWord (0x40 * 2 ^ 91 : BitVec 160) (fun u => { u with objQueue := [(0, 0, 0), (0, 0, 0), (0, 0, 0), (0, 0, 0)] })
     Customer x 0 ∧ uwEvt (x.word 0) = 0x40 ∧ 4 ≤ (x.bay 0).objQueue.length) ∧
    (let x := atWord (4 * 2 ^ 47 : BitVec 160) id
     Customer x 0 ∧ entResid (({ x with shingles := [] } : State).curEntry 0) ≠ 1) ∧
    (let x := atWord 0 (fun u => { u with cust := false })
     x.executing 0 = true ∧ (x.bay 0).extra = none ∧ (x.bay 0).cust = false ∧ (x.bay 0).acted.testBit OS.SPH = false ∧ x.firstCycle 0 = true) := by decide

set_option maxRecDepth 10000 in
theorem witness_WordCounters :
    (let x := atWord (1 * 2 ^ 29 + 2 * 2 ^ 33 + 3 * 2 ^ 37 + 4 * 2 ^ 41 : BitVec 160) id
     Customer x 0 ∧ uwCnt (x.word 0) 0 = 1 ∧ uwCnt (x.word 0) 1 = 2 ∧ uwCnt (x.word 0) 2 = 3 ∧ uwCnt (x.word 0) 3 = 4 ∧
      ∀ n : Fin 4, (x.bay 0).cycActed.testBit n.val = false) ∧
    (let x := atWord (6 * 2 ^ 29 + 7 * 2 ^ 33 + 8 * 2 ^ 37 + 5 * 2 ^ 41 + 3 * 2 ^ 45 : BitVec 160) id
     Customer x 0 ∧ uwCnt (x.word 0) 0 = 6 ∧ uwCnt (x.word 0) 1 = 7 ∧ uwCnt (x.word 0) 2 = 8 ∧ uwCnt (x.word 0) 3 = 5 ∧ uwCsel (x.word 0) = 3 ∧
      (∀ n : Fin 4, (x.bay 0).acted.testBit (OS.CNT + n.val) = false) ∧ x.firstCycle 0 = true) ∧
    ((atWord 0 (fun u => { u with cycActed := 8 })).bay 0).cycActed.testBit 3 = true := by decide

/-- A bank image of one word of zeros, whose NEXT is the bank's first address. -/
def oneWord (first : Nat) : Bytes := toBytes 64 (0x46434D42 + 2 ^ 32 + 2 ^ 48 + first * 2 ^ 64) ++ toBytes 20 0x3000 ++ List.replicate 96 0
set_option maxRecDepth 20000 in
theorem witness_CustomerBank :
    Ready (live 6 []) 0 0 ∧ (live 6 []).bst 0 = BS.MAINT ∧ ((live 6 []).bay 0).bankLoad = none ∧ (live 6 []).coreOut = false ∧ (live 2 []).bst 0 ≠ BS.MAINT ∧
    checkImage (oneWord 4095) [] = .good ∧ checkImage (oneWord 4096) [] = .header 76 ∧
    checkImage ((oneWord 4095).set 66 3) [] = .word 0 14 := by decide
set_option maxRecDepth 20000 in
theorem witness_CustomerBank_rest :
    (let x := ({ live 6 [(R.CODE_KEY_USE, 1), (keyB 0 RBay.LOAD_STATUS, 1)] with doms := [(R.CODE_KEY, [1])] } : State).modBay 0
       (fun u => { u with bankLoad := some (oneWord 4095) })
     (x.bay 0).bankLoad = some (oneWord 4095) ∧ x.getB 0 RBay.LOAD_STATUS = 1 ∧ x.codeKeyFor (hdrSlot (imageHeader (oneWord 4095))) 0 = true) ∧
    (let x := (live 6 [(keyB 0 RBay.LOAD_STATUS, 2)]).modBay 0 (fun u => { u with bankLoad := some (oneWord 4095) })
     (x.bay 0).bankLoad = some (oneWord 4095) ∧ x.getB 0 RBay.LOAD_STATUS = 2 ∧ (x.bay 0).ranges = []) ∧
    (let x := (live 6 [(keyB 0 RBay.LOAD_STATUS, 3)]).modBay 0 (fun u => { u with bankLoad := some (oneWord 4095) })
     (x.bay 0).bankLoad = some (oneWord 4095) ∧ x.getB 0 RBay.LOAD_STATUS = 3 ∧ (x.bay 0).ranges = []) ∧
    (let x := (live 6 []).modBay 0 (fun u => { u with ranges := [(4095, 1)], reload := true })
     (Ready x 0 0 ∧ x.quiet 0 = true ∧ inRanges (x.bay 0).ranges (fieldOf (2 ^ 31 + 0x3FFF) 0 14 - BANK) = true ∧
      inRanges (x.bay 0).ranges (fieldOf (2 ^ 31 + 0x3FFE) 0 14 - BANK) = false) ∧ x.bst 0 = BS.MAINT ∧ (x.bay 0).reload = true) := by decide

set_option maxRecDepth 10000 in
theorem witness_WordModuleFields :
    (let x := (atWord (1 * 2 ^ 80 : BitVec 160) id).setCap 0 4 RCap.ENABLE 1 |>.setCap 0 4 RCap.START 1
     Customer x 0 ∧ uwCap (x.word 0) = 1 ∧ (x.bay 0).acted.testBit OS.CAP = false ∧ x.firstCycle 0 = true ∧ x.capEnabled 0 4 = true ∧
      x.windowed 0 4 = false ∧ x.getCap 0 4 RCap.START = 1) ∧
    (let x := (atWord (2 * 2 ^ 80 : BitVec 160) id).setCap 0 0 RCap.ENABLE 1
     Customer x 0 ∧ uwCap (x.word 0) = 2 ∧ x.firstCycle 0 = true ∧ x.capEnabled 0 0 = true ∧ x.windowed 0 0 = false) ∧
    (let x := (atWord (3 * 2 ^ 80 + 1 * 2 ^ 99 : BitVec 160) id).modDie 0 (fun u => { u with clear := 0 })
     Customer x 0 ∧ uwCap (x.word 0) = 3 ∧ uwLoad (x.word 0) = 1 ∧ (x.bay 0).acted.testBit OS.LOAD = false ∧ x.firstCycle 0 = true ∧
      x.clearOn 0 = false ∧ (x.bay 0).loadCyc ≠ some (x.bclk 0) ∧ (x.word 0).testBit 54 = false) ∧
    (let x := (atWord (1 * 2 ^ 99 + 2 ^ 54 + 15 * 2 ^ 76 : BitVec 160) id).modDie 0 (fun u => { u with clear := 0 })
     Customer x 0 ∧ uwLoad (x.word 0) = 1 ∧ x.clearOn 0 = false ∧ (x.word 0).testBit 54 = true ∧ uwSeq (x.word 0) ≠ 6 ∧
      (x.bay 0).acted.testBit OS.LVL = false ∧ fieldOf (x.word 0) 76 4 = 15) ∧
    (let x := ((atWord (2 * 2 ^ 99 : BitVec 160) id).setClaim (.blankTimer 0) 0x100 2).setB 0 RBay.BLANK_TIME 1
     Customer x 0 ∧ uwLoad (x.word 0) = 2 ∧ x.claimedFor (.blankTimer 0) 0x02 = true ∧ x.getB 0 RBay.BLANK_TIME ≠ 0) ∧
    (let x := ((atWord (1 * 2 ^ 101 : BitVec 160) id).setClaim (.blankTimer 0) 0x100 1).setB 0 RBay.BLANK_TIME 1
     Customer x 0 ∧ uwBlank (x.word 0) = 1 ∧ x.claimedFor (.blankTimer 0) 0x01 = true) ∧
    (let x := (atWord (2 * 2 ^ 101 : BitVec 160) id).setB 0 RBay.BLANK_ACTIVE 1
     Customer x 0 ∧ uwBlank (x.word 0) = 2 ∧ x.blanking 0 = true) := by decide
set_option maxRecDepth 10000 in
theorem witness_WordModuleFields_rest :
    (let x := (((atWord (1 * 2 ^ 103 : BitVec 160) id).setClaim (.probeRoute 0 0) 0x100 3).setB 0 RBay.TMU_MODE 3).setB 0 RBay.ROUTE_SOURCE 0
     Customer x 0 ∧ uwTmu (x.word 0) = 1 ∧ (x.bay 0).acted.testBit OS.TMU = false ∧ x.firstCycle 0 = true ∧ x.locked (24 + 0) = true ∧
      x.tmuRefusal 0 = none ∧ (x.tmu 0).disCyc ≠ some (x.tclk 0) ∧ (x.tmu 0).fifo.length < 256) ∧
    (let x := atWord (1 * 2 ^ 103 : BitVec 160) id
     Customer x 0 ∧ x.locked (24 + 0) = true ∧ (x.tmuRefusal 0).isSome = true) ∧
    (let x := atWord (2 * 2 ^ 103 : BitVec 160) id
     Customer x 0 ∧ uwTmu (x.word 0) = 2 ∧ (x.bay 0).acted.testBit OS.TMU = false ∧ x.locked (24 + 0) = true ∧ (x.tmu 0).armCyc ≠ some (x.tclk 0)) ∧
    (let x := (atWord (1 * 2 ^ 106 + 3 * 2 ^ 108 : BitVec 160) id).setB 0 (RBay.MR_LINE + 1) 31 |>.setB 0 RBay.MR_LINE 0
     Customer x 0 ∧ uwRidge (x.word 0) 0 = 1 ∧ uwRidge (x.word 0) 1 = 3 ∧ (x.bay 0).acted.testBit (OS.RIDGE + 1) = false ∧ x.firstCycle 0 = true ∧
      x.getB 0 (RBay.MR_LINE + 1) = 31 ∧ x.ridgeDrv.testBit 31 = false) ∧
    (let x := { (atWord (2 * 2 ^ 106 : BitVec 160) id).setB 0 RBay.MR_LINE 31 with ridgeDrv := 2 ^ 31 }
     Customer x 0 ∧ uwRidge (x.word 0) 0 = 2 ∧ x.getB 0 RBay.MR_LINE = 31 ∧ x.ridgeDrv.testBit 31 = true) := by decide

set_option maxRecDepth 10000 in
theorem witness_WordVectors :
    (let x := (atWord 0 (fun u => { u with granOpen := true, rows := [0, 1, 2, 3, 4, 5, 6, 7], granRows := 7, rowNext := 63, nextStart := 8000 })).setB 0 RBay.PERIOD 4000
     x.emits 0 0 = true ∧ (x.bay 0).extra = none ∧ x.padding 0 = false ∧ x.slotLeft 0 = true ∧ (x.beginCycle 0).rowsSpent 0 = false ∧
      (x.bay 0).rowNext ≠ 8 * entLen (x.curEntry 0) ∧ (x.bay 0).granOpen = true ∧ ((x.bay 0).prdSel).getD (entPrd (x.curEntry 0)) = 0 ∧
      4000 * (((x.bay 0).cyc : Int) + 3) ≤ (x.bay 0).nextStart + x.getB 0 (RBay.PERIOD + 0)) ∧
    (let x := (atWord (2 * 2 ^ 51 : BitVec 160) (fun u => { u with nextStart := 8000 })).setB 0 RBay.PERIOD 4000
     x.emits 0 2 = true ∧ (x.bay 0).cust = true ∧ (x.bay 0).extra = none ∧ x.slotLeft 0 = true) ∧
    (let x := (atWord (3 * 2 ^ 51 : BitVec 160) (fun u => { u with nextStart := 8000 })).setB 0 RBay.PERIOD 4000
     x.emits 0 3 = true ∧ (x.bay 0).cust = true ∧ (x.bay 0).extra = none ∧ x.slotLeft 0 = true) ∧
    (let x := (atWord (1 * 2 ^ 51 : BitVec 160) (fun u => { u with nextStart := 8000 })).setB 0 RBay.PERIOD 4000
     x.emits 0 1 = true ∧ (x.bay 0).cust = true ∧ (x.bay 0).padGran = false ∧ (x.bay 0).extra = none ∧ x.slotLeft 0 = true) ∧
    (let x := (atWord 0 (fun u => { u with padGran := true, granOpen := true, granRows := 7, nextStart := 8000 })).setB 0 RBay.PERIOD 4000
     x.padding 0 = true ∧ (x.bay 0).extra = none ∧ x.slotLeft 0 = true ∧ (x.bay 0).granBad = false) := by decide

set_option maxRecDepth 20000 in
theorem witness_ClocksAndTimingSets :
    (Ready (live 2 []) 0 0 ∧ (live 2 []).coreOut = false ∧ (live 2 []).quiet 0 = true ∧ (live 4 []).quiet 0 = false ∧ Ready (live 4 []) 0 0 ∧
      (∀ c ∈ chansOf 0, roundDiv (((live 2 []).getC c RChan.DRV_MIN_PULSE : Int) * (1000 : Nat)) 1000 ≤ 16777215)) ∧
    ((live 2 []).bayDown 0 = false ∧ (live 2 []).bst 0 ≠ BS.RUN ∧ ((live 2 []).bst 0 = BS.IDLE → ((live 2 []).bay 0).arming = 0) ∧
      (live 4 []).bst 0 = BS.RUN ∧ ((live 4 []).ports.get 0x110 []).length < 16) ∧
    (let x := (live 2 []).modBay 0 (fun u => { u with arming := 2 })
     x.bayDown 0 = false ∧ x.bst 0 = BS.IDLE ∧ (x.bay 0).arming ≠ 0) ∧
    (Ready { live 2 [] with coreOut := true } 0 0 ∧ { live 2 [] with coreOut := true }.coreOut = true) ∧
    (((live 2 []).modBay 0 (fun u => { u with relock := some 500 })).bay 0).relock = some 500 ∧
    setError (List.replicate 680 0) = none ∧ setError (0 :: 0 :: 0 :: 0x80 :: List.replicate 676 0) = some (0, 31) := by decide

/-- A channel with one drive edge, or one strobe, pending. -/
def withEdge (e : DriveEdge) (last : Option Int) : State := (live 4 []).modChan 255 (fun u => { u with edges := [e], lastDrv := last })
/-- A channel with one strobe pending. -/
def withStrobe (t : Strobe) (last : Option Int) : State := ((live 4 []).modChan 255 (fun u => { u with strobes := [t], lastStrobe := last })).setB 15 RBay.FAIL_MASK 0x8000
set_option maxRecDepth 10000 in
theorem witness_EdgesAndStrobes :
    (let x := withEdge ⟨8000, 8000, 0, 5, some true, none, 0⟩ none
     (x.chan 255).edges = [⟨8000, 8000, 0, 5, some true, none, 0⟩] ∧ (x.chan 255).drv ≠ true ∧ (x.chan 255).lastDrv = none) ∧
    (let x := withEdge ⟨8000, 8000, 0, 5, some true, none, 0⟩ (some 7999)
     (x.chan 255).lastDrv = some 7999 ∧ (8000 : Int) - 7999 < x.inTu (bayOf 255) (x.chan 255).minPulse) ∧
    (let t : Strobe := ⟨8000, 8000, 3, 1, 8, {}⟩
     let x := withStrobe t (some 7800)
     earliestStrobe (x.chan 255).strobes = some t ∧ x.inTu (bayOf 255) 200 ≤ 8000 - 7800) ∧
    (let t : Strobe := ⟨8000, 8000, 3, 1, 6, {}⟩
     let x := withStrobe t none
     earliestStrobe (x.chan 255).strobes = some t ∧ compares 6 = true ∧ compareFails 6 true false = true ∧ t.v.matchOf = none ∧ x.retired (bayOf 255) (255 % 16 / 4) = false ∧
      (x.getB (bayOf 255) RBay.FAIL_MASK).testBit (255 % 16) = true) ∧
    (let t : Strobe := ⟨8000, 8000, 3, 1, 8, {}⟩
     let x := withStrobe t (some 7801)
     earliestStrobe (x.chan 255).strobes = some t ∧ 8000 - 7801 < x.inTu (bayOf 255) 200) := by decide

/-- A bay in IDLE with legal levels, its die's clear input open. -/
def levelled : State := ((live 2 []).setCodes 0 (setCode 3 0) [131072, 100000, 80000, 140000, 120000, 200000, 50000, 90000]).modDie 0 (fun u => { u with clear := 0 })
/-- The same bay with legal clear codes. -/
def codesSet : State := levelled.setCodes 0 RChan.CLEAR_CODE [131072, 100000, 80000, 140000, 120000, 200000, 50000, 90000]
set_option maxRecDepth 20000 in
theorem witness_LevelsLoadAndClear :
    Ready levelled 0 0 ∧ levelled.quiet 0 = true ∧ levelled.clearOn 0 = false ∧ (levelled.bay 0).loadCyc ≠ some (levelled.bclk 0) ∧
    (live 2 []).clearOn 0 = true ∧ ((live 2 []).bay 0).loadCyc ≠ some ((live 2 []).bclk 0) ∧ bayOf 0 = 0 ∧
    levelsOk ((levelled.levelSet 0 3).set 7 222822) = true ∧ levelsOk ((levelled.levelSet 0 3).set 7 222823) = false ∧
    (let d : Bytes := [131072, 100000, 80000, 140000, 120000, 200000, 50000, 90000].flatMap (toBytes 4)
     d.length = 32 ∧ levelsOk ((chunks 4 8 d).map ofBytes) = true) ∧
    (levelsOk ((codesSet.clearCodes 0).set 0 110000) = true ∧ codesSet.getO R.HOLDUP_STATE ≠ HS.ON_STORE ∧
      classNeeds codesSet.ledgerClass ≤ sampleEnergy ⟨12000, 100, 20000⟩) ∧
    (levelled.die 0).clear = 0 ∧ ((live 2 []).die 0).clear ≠ 0 ∧ ((live 2 []).die 0).clear.testBit (clearBit .keeper) = true ∧
    clrBit ((live 2 []).die 0).clear (clearBit .keeper) = 0 ∧
    (let x := levelled.modDie 1 (fun u => { u with clear := 2 })
     (x.die 1).clear ≠ 0 ∧ (x.die 1).clear.testBit (clearBit .keeper) = false) := by decide

/-- The pin supplies valid, and a channel of an IDLE bay with its guard window open. -/
def guarded (g : Nat) : State := (live 2 [(R.SUPPLY_STATE, 0xFFFF), (keyC 0 RChan.GUARD_STATE, g), (keyC 0 RChan.VG_HI, 800)]).modChan 0 (fun u => { u with own := 0 })
set_option maxRecDepth 20000 in
theorem witness_GuardsAndMeasurements :
    Ready (guarded 0) (bayOf 0) 0 ∧ (guarded 0).guardOk 0 .hi 1023 = true ∧ (guarded 0).guardOk 0 .hi 1024 = false ∧
    ((guarded 0).pinPower = true ∧ ((guarded 0).chan 0).own.testBit (cmpNo true) = false ∧
      (guarded 0).getO (keyA (bayOf 0) RAssay.BAY_ASSAY_STATUS) ≠ 1) ∧
    ((guarded 0).setC 0 RChan.SCOPE_LO 0).scopeOf 0 true = 0 ∧
    (let x := (guarded 48).setC 0 RChan.SCOPE_LO 1
     x.scopeOf 0 true = 1 ∧ x.latchedTrip 0 true = false ∧ fieldOf (clrBit (x.getC 0 RChan.GUARD_STATE) (4 + cmpNo true)) 4 2 ≠ 0) ∧
    ((guarded 0).chan 0).report.testBit 0 = false ∧
    (let x := (guarded 0).modChan 0 (fun u => { u with report := 1 })
     (x.chan 0).report.testBit (cmpNo false) = true ∧ (x.chan 0).report.testBit (2 + cmpNo false) = false ∧ x.locked 0 = true ∧
      (x.setO R.LOCK_MASK 0).locked 0 = false ∧ x.blanking 0 = false ∧ (x.getB 0 RBay.WAKE_MASK).testBit 0 = false ∧
      (x.chan 0).report.testBit (4 + cmpNo false) = false) ∧
    (let x := (guarded 0).modChan 0 (fun u => { u with report := 17 })
     (x.chan 0).report.testBit (cmpNo false) = true ∧ (x.chan 0).report.testBit (4 + cmpNo false) = true ∧ x.locked 0 = true ∧ x.running 0 = false ∧
      (x.ports.get 0 []).length < 16) := by decide
set_option maxRecDepth 20000 in
theorem witness_GuardsAndMeasurements_rest :
    ((guarded 0).getC 0 RChan.GUARD_STATE).testBit 4 = false ∧ ((guarded 16).getC 0 RChan.GUARD_STATE).testBit 4 = true ∧
    fieldOf (clrBit ((guarded 16).getC 0 RChan.GUARD_STATE) 4) 4 2 = 0 ∧
    (fieldOf ((guarded 12).getC 0 RChan.GUARD_STATE) 0 2 = 0 ∧ fieldOf ((guarded 12).getC 0 RChan.GUARD_STATE) 4 4 = 0 ∧ (guarded 12).quiet 0 = true) ∧
    fieldOf ((guarded 3).getC 0 RChan.GUARD_STATE) 0 2 ≠ 0 ∧
    (let x := ((guarded 0).modBay 0 (fun u => { u with timer := some 5 })).setB 0 RBay.BLANK_ACTIVE 1
     (x.bay 0).timer = some 5 ∧ x.blanking 0 = true) ∧
    (let x := (((guarded 0).modBay 0 (fun u => { u with timer := some 5 })).setClaim (.blankTimer 0) 0x100 2).modDie 0 (fun u => { u with clear := 0 })
     x.claimedFor (.blankTimer 0) 0x02 = true ∧ x.clearOn 0 = false ∧ (x.bay 0).timer = some 5 ∧ (x.bay 0).loadCyc ≠ some ((x.advance 5).bclk 0) ∧ x.bst 0 ≠ BS.OFF ∧ x.bst 0 ≠ BS.SAFE ∧ x.bst 0 ≠ BS.MAINT) ∧
    ((guarded 0).die (dieOf (bayOf 0))).convFail.testBit 0 = false ∧
    (let x := ((guarded 0).setC 0 RChan.MEAS_STATUS 1).modChan 0 (fun u => { u with measLeft := 16 })
     x.getC (convChan 0 0 ⟨(96 - 96) % 8, by decide⟩) RChan.MEAS_STATUS = 1 ∧ x.measSettled 0 = true ∧ (x.chan 0).measLeft ≠ 0 ∧ x.pinPower = true) ∧
    (let x := (guarded 0).setC 0 RChan.MEAS_STATUS 2
     x.getC 0 RChan.MEAS_STATUS = 2 ∧ (x.chan 0).measLeft = 0) ∧ (guarded 0).getC 0 RChan.MEAS_STATUS ≠ 2 ∧ (live 6 []).bst 0 = BS.MAINT ∧
    ((guarded 0).ports.get 0x130 []).length < 16 ∧ (live 1 []).bst 0 = BS.SAFE ∧ Ready (live 1 []) 0 0 := by decide

/-- A bay with a stream enabled that has frames. -/
def capturing (st : Nat) (m : Fin 5) (fs : List CapFrame) (l : List (Nat × Nat)) : State :=
  ((live st l).modCap 0 m (fun p => { p with on := true, win := true, frames := fs })).setCap 0 m RCap.ENABLE 1
set_option maxRecDepth 200000 in
theorem witness_CaptureAndTrigger :
    (let x := capturing 4 2 [{}] [(keyB 0 RBay.CYCLE_COUNT, 600)]
     (x.cap 0 (capNo .history)).frames = [{}] ∧ x.fullAt 0 (capNo .history) {} = some 504 ∧ (none : Option Nat) ≠ some 504) ∧
    (let x := capturing 4 2 [{ hi := some 0 }] []
     (x.cap 0 (capNo .history)).frames = [{ hi := some 0 }] ∧ x.fullAt 0 (capNo .history) { hi := some 0 } = none ∧
      x.earlyAt 0 (capNo .history) { hi := some 0 } = some 0) ∧
    (let x := capturing 4 2 [{ hi := some 0, last := true }] []
     (x.cap 0 (capNo .history)).frames = [{ hi := some 0, last := true }] ∧ x.fullAt 0 (capNo .history) { hi := some 0, last := true } = none ∧
      x.earlyAt 0 (capNo .history) { hi := some 0, last := true } = some 0) ∧
    (let x := capturing 4 2 [{}] []
     (x.cap 0 (capNo .history)).frames = [{}] ∧ x.fullAt 0 (capNo .history) {} = none ∧ x.earlyAt 0 (capNo .history) {} = none ∧
      x.windowAt 0 (capNo .history) {} = none) ∧
    ((live 4 []).cap 0 (capNo .history)).frames = [] ∧
    (let x := (capturing 4 2 [] []).setCap 0 2 RCap.WRITE_FRAME 5
     Ready x 0 0 ∧ x.getCap 0 2 RCap.CONSUMED_FRAME ≤ 5 ∧ 5 ≤ x.getCap 0 2 RCap.WRITE_FRAME ∧ x.getCap 0 2 RCap.WRITE_FRAME < 6) ∧
    (let x := (capturing 4 2 [{ trigIn := true }] [(keyB 0 RBay.CYCLE_COUNT, 8)]).setCap 0 2 RCap.POST 1
     (x.cap 0 (capNo .history)).frames = [{ trigIn := true }] ∧ x.windowAt 0 (capNo .history) { trigIn := true } = some 8) ∧
    ((capturing 4 3 [] []).capEnabled 0 3 = true ∧ (capturing 4 3 [] []).running 0 = true ∧ ((capturing 4 3 [] []).cap 0 3).on = true ∧
      ((capturing 4 3 [] []).modCap 0 3 (fun p => { p with on := false }) |>.cap 0 3).on = false) := by decide
set_option maxRecDepth 200000 in
theorem witness_CaptureAndTrigger_rest :
    (let x := (capturing 4 3 [] [(keyB 0 RBay.TRIG_STATE, 1)]).modBay 0 (fun u => { u with cyc := 256 })
     x.getB 0 RBay.TRIG_STATE = 1 ∧ x.byTrigger 0 3 = true ∧ ∀ m, x.capEnabled 0 m = true → x.preDone 0 m = true) ∧
    (let x := (capturing 4 3 [] [(keyB 0 RBay.TRIG_STATE, 1)]).modBay 0 (fun u => { u with cyc := 255 })
     x.getB 0 RBay.TRIG_STATE = 1 ∧ x.capEnabled 0 3 = true ∧ x.byTrigger 0 3 = true ∧ x.preDone 0 3 = false) ∧
    (let x := (live 4 [(keyB 0 RBay.TRIG_SOURCE, 1)]).modBay 0 (fun u => { u with cyc := 4, hits := [⟨5, 7, 0⟩] })
     x.hitAt 0 5 7 = some ⟨5, 7, 0⟩ ∧ (x.setB 0 RBay.TRIG_STATE 1).getB 0 RBay.TRIG_STATE = 1 ∧ (x.setB 0 RBay.TRIG_STATE 1).hitAt 0 5 7 = some ⟨5, 7, 0⟩ ∧
      (x.setB 0 RBay.TRIG_STATE 2).hitAt 0 5 7 = some ⟨5, 7, 0⟩ ∧ (x.setB 0 RBay.TRIG_STATE 2).getB 0 RBay.TRIG_STATE = 2 ∧
      ((x.setB 0 RBay.TRIG_STATE 2).bay 0).trigAt ≠ some ((x.setB 0 RBay.TRIG_STATE 2).bclkAbs 0)) ∧
    (let x := (live 4 [(keyB 0 RBay.TRIG_SOURCE, 1)]).modBay 0 (fun u => { u with cyc := 3, hits := [⟨5, 7, 0⟩] })
     x.hitAt 0 5 7 = none) ∧
    (let x := live 4 [(keyB 0 RBay.TRIG_STATE, 2), (keyB 0 RBay.TRIG_SOURCE, 7)]
     Ready x 0 0 ∧ x.getB 0 RBay.TRIG_STATE = 2 ∧ x.getB 0 RBay.TRIG_SOURCE = 7 ∧ (x.bay 0).trigAt ≠ some (x.bclkAbs 0) ∧ x.running 0 = true ∧
      Ready (live 4 []) 0 0 ∧ (live 4 []).getB 0 RBay.TRIG_SOURCE ≠ 7) ∧
    ((live 2 []).running 0 = false ∧ (live 2 []).bst 0 ≠ BS.ARMED) ∧
    (let x := (live 4 [(keyB 0 RBay.TRIG_SOURCE, 1), (keyB 0 RBay.TRIG_PARAM, 0x20)]).modChan 0 (fun u => { u with side := some false })
     edgeDone (x.chan 0).side true false = some true ∧ x.getB (bayOf 0) RBay.TRIG_SOURCE = 1 ∧ x.getB (bayOf 0) RBay.TRIG_PARAM % 16 = (0 : Chan).val % 16 ∧
      fieldOf (x.getB (bayOf 0) RBay.TRIG_PARAM) 4 2 = 2 ∧ x.bayDown (bayOf 0) = false ∧ edgeDone (x.chan 0).side false false = none) := by decide

/-- A bay's TMU in a mode and a state, with both routes claimed. -/
def timing (mode st : Nat) (f : Tmu → Tmu) : State :=
  (((live 2 [(keyB 0 RBay.TMU_MODE, mode), (keyB 0 RBay.TMU_STATE, st), (keyB 0 RBay.ROUTE_SOURCE, 0), (keyB 0 (RBay.ROUTE_SOURCE + 1), 1)]).setClaim
    (.probeRoute 0 0) 0x100 3).setClaim (.probeRoute 0 1) 0x100 3).modTmu 0 f
set_option maxRecDepth 20000 in
theorem witness_TimeMeasurement :
    (let x := timing 1 0 id
     TmuReady x 0 0 ∧ x.tmuRefusal 0 = none ∧ (x.tmu 0).disCyc ≠ some (x.tclk 0) ∧ (x.tmu 0).armCyc ≠ some (x.tclk 0) ∧ (x.tmu 0).fifo.length < 256 ∧
      TmuReady (timing 0 0 id) 0 0 ∧ (timing 0 0 id).tmuRefusal 0 = some none ∧ (x.setO R.LOCK_MASK 1).operational = true ∧
      (x.setO R.LOCK_MASK 1).locked (24 + (0 : Bay).val) = false) ∧
    (let x := timing 1 0 (fun u => { u with disCyc := some 0, armCyc := some 0 })
     TmuReady x 0 0 ∧ x.tmuRefusal 0 = none ∧ (x.tmu 0).disCyc = some (x.tclk 0) ∧ (x.tmu 0).armCyc = some (x.tclk 0)) ∧
    ((timing 1 TS.CALIBRATING id).tmuState 0 = TS.CALIBRATING ∧ ((timing 1 TS.CALIBRATING id).tmu 0).between = false ∧ 500000 ≤ 128 * 3925 ∧ 128 * 3925 ≤ 525000) := by decide
/-- Bay 0's TMU waits in a mode with a source on each route. -/
def waitingHit (mode : Nat) (f : Tmu → Tmu) : State :=
  timing mode TS.WAITING (fun u => f { u with cfg := { u.cfg with mode := mode, src0 := 0, src1 := 1 } })
set_option maxRecDepth 20000 in
theorem witness_TimeMeasurement_hits :
    (Hits (timing 1 0 id) 0 0 true ∧ (timing 1 0 id).tmuState 0 ≠ TS.WAITING ∧ (timing 1 TS.WAITING id).routeServes 0 0 ((timing 1 TS.WAITING id).hitRoute 0 0).1 = false ∧
      (timing 1 TS.WAITING id).locked (24 + (0 : Bay).val) = true) ∧
    (let x := waitingHit 1 (fun u => { u with cfg := { u.cfg with edge0 := 1 } })
     Hits x 0 0 false ∧ x.tmuState 0 = TS.WAITING ∧ (x.tmu 0).cfg.mode = 1 ∧ (x.tmu 0).hit0 = none ∧ (x.tmu 0).hit1 = none ∧ (x.tmu 0).seen.get 0 = none) ∧
    (let x := waitingHit 1 (fun u => { u with cfg := { u.cfg with signed := false }, hit0 := some (0, 0) })
     Hits x 0 1 true ∧ (x.tmu 0).cfg.signed = false ∧ (x.tmu 0).hit0 = some (0, 0) ∧ (x.tmu 0).seen.get 1 = none ∧ (x.tmu 0).fifo.length < 255 ∧
      -((x.tmu 0).w : Int) < hitDiff (x.hitTime 0 ((x.advance (x.now + 500 * 7)).coarse 0) 0) (0, 0)) ∧
    (let x := waitingHit 3 (fun u => { u with hit0 := some (5, 0) })
     x.tmuState 0 = TS.WAITING ∧ (x.tmu 0).cfg.mode = 3 ∧ (x.tmu 0).hit0.isSome = true ∧ (x.tmu 0).gateOver = false) := by decide
set_option maxRecDepth 20000 in
theorem witness_TimeMeasurement_rest :
    (let x := timing 1 0 (fun u => { u with between := true })
     (x.tmu 0).between = true ∧ x.locked (24 + (0 : Bay).val) = true ∧ (x.tmu 0).fifo.length < 256) ∧
    ((timing 1 0 id).tmuState 0 ≠ TS.CALIBRATING ∧ (timing 1 0 id).tmuState 0 ≠ TS.WAITING ∧ (timing 1 0 id).locked (24 + (0 : Bay).val) = true) ∧
    (let x := timing 1 TS.WAITING id
     x.locked (24 + (0 : Bay).val) = true ∧ (x.tmu 0).between = false ∧ x.tmuState 0 = TS.WAITING ∧ (x.tmu 0).cfg.mode ≠ 3 ∧
      (x.tmu 0).cfg.repeat_ ≠ 0 ∧ (x.tmu 0).cfg.repeat_ ≤ (x.tmu 0).repeats + 1) ∧
    (let x := timing 1 0 (fun u => { u with fifo := [toBytes 16 5] })
     x.operational = true ∧ x.locked (24 + (0 : Bay).val) = true ∧ (x.tmu 0).fifo = [toBytes 16 5] ∧ (x.tmu 0).between = false) ∧
    ((timing 1 0 id).tmu 0).fifo = [] ∧ (mk [(R.REF_WARM, 1)]).getO R.REF_WARM = 1 ∧ (mk [(R.REF_WARM, 0)]).getO R.REF_WARM = 0 := by decide
theorem witness_full : 256 ≤ ((timing 1 0 (fun u => { u with fifo := List.replicate 256 [] })).tmu 0).fifo.length := by
  have : ((timing 1 0 (fun u => { u with fifo := List.replicate 256 [] })).tmu 0).fifo = List.replicate 256 [] := rfl
  exact Nat.le_of_eq (by rw [this, List.length_replicate])

/-- Graph 0 RUNNING on bench 0, node 0 a firing of kernel 6 with one input and node 1 of kernel 3 with two. -/
def graphed (l : List (Nat × Nat)) (f : State → State) : State :=
  f { live 2 ([(keyG 0 RGraph.GRAPH_STATE, 2), (keyG 0 RGraph.BENCH_MASK, 1), (keyG 0 RGraph.HOME_BENCH, 0), (keyBench 0 RBench.BENCH_STATE, 1),
      (keyBench 0 RBench.BENCH_CATALOGUE, 3), (keyBench 0 RBench.CORES_IN_SERVICE, 65535), (R.SOURCE_LIMIT, 63488)] ++ l) with
    doms := Tab.set [] (keyG 0 RGraph.NODE_TABLE) (toBytes 32 (6 + (3 + 65536) * 2 ^ 128)) }
/-- A core of bench 0 with an item of node 0 running. -/
def busy (f : State → State) : State := graphed [] (fun s => f (s.modCore 0 0 (fun u => { u with running := some ⟨0, 0, 7, [], 0, 0, false, 0⟩ })))
set_option maxRecDepth 20000 in
theorem witness_TokensAndFirings_store :
    (graphed [] id).hasPort 0 5 0 = false ∧
    ((graphed [] id).hasPort 0 1 0 = true ∧ (graphed [] id).filled ⟨0, 1, 0, 7, 1, false⟩ = false ∧
      (graphed [] id).completes ⟨0, 1, 0, 7, 1, false⟩ = none ∧ (graphed [] id).storeUsed < 65536) ∧
    (let x := graphed [] (fun s => { s with store := [⟨0, 1, 0, 7, 1, false⟩] })
     x.filled ⟨0, 1, 1, 7, 1, false⟩ = false ∧ x.completes ⟨0, 1, 1, 7, 1, false⟩ = some [⟨0, 1, 0, 7, 1, false⟩] ∧ x.readyRoom 0 = true ∧
       x.hasPort 0 1 1 = true ∧ x.filled ⟨0, 1, 0, 7, 1, false⟩ = true) := by decide
theorem witness_settled : Settled (graphed [] id) := ⟨by decide, by decide, by decide⟩
theorem witness_settled_busy : Settled (busy id) := ⟨by decide, by decide, by decide⟩
set_option maxRecDepth 20000 in
theorem witness_TokensAndFirings_post :
    (let x := graphed [] id
     x.operational = true ∧ (5 : BitVec 16).toNat ≠ x.getG 0 RGraph.GRAPH_EPOCH ∧ (0 : BitVec 16).toNat = x.getG 0 RGraph.GRAPH_EPOCH ∧ x.hasPort 0 (5 : BitVec 8).toNat (0 : Fin 4).val = false ∧
       x.hasPort 0 (1 : BitVec 8).toNat (0 : Fin 4).val = true ∧ x.filled ⟨0, 1, 0, 7, 1, false⟩ = false ∧ x.completes ⟨0, 1, 0, 7, 1, false⟩ = none ∧ x.storeUsed < 65536 ∧
       x.accepts ⟨0, 1, 0, 7, 1, false⟩ = true ∧ (graphed [(keyG 0 RGraph.GRAPH_STATE, 3)] id).accepts ⟨0, 1, 0, 7, 1, false⟩ = false ∧
       (graphed [(keyG 0 RGraph.GRAPH_STATE, 3)] id).hasPort 0 1 0 = true) ∧
    (graphed [] id).hostPosts = [] ∧ (graphed [] (fun s => { s with hostPosts := [⟨⟨0, 1, 0, 7, 1, false⟩, 0, 5, none⟩] })).hostPosts = [⟨⟨0, 1, 0, 7, 1, false⟩, 0, 5, none⟩] := by decide
/-- Bench 0 with a firing of node 0 in its ready queue. -/
def queued : State := graphed [] (fun s => State.modBench { s with lastCore := Tab.set [] 0 1 } 0 (fun u => { u with ready := [⟨0, 0, 7, [], 0, 0, false, 0⟩] }))
set_option maxRecDepth 100000 in
theorem witness_TokensAndFirings_head : (queued.countPool 0).head 0 = some (0, ⟨0, 0, 7, [], 0, 0, false, 0⟩) ∧ (queued.core 0 0).running = none := by decide
set_option maxRecDepth 100000 in
theorem witness_TokensAndFirings_core : (queued.countPool 0).chooseCore 0 ⟨0, 0, 7, [], 0, 0, false, 0⟩ = some (0, 0, true) := by decide
set_option maxRecDepth 20000 in
theorem witness_TokensAndFirings_work :
    ((graphed [] id).countPool 0).head 0 = none ∧ ((graphed [] id).core 0 0).running = none ∧ ((graphed [] id).core 0 0).queue = [] ∧
    (((busy id).core 0 0).running = some ⟨0, 0, 7, [], 0, 0, false, 0⟩ ∧ ((busy id).core 0 0).left = none ∧ ((busy id).core 0 0).queue = [] ∧
      (busy id).dests 0 0 3 = [] ∧ (busy id).resultFits 0 ⟨0, 0, 7, [], 0, 0, false, 0⟩ (.done [] [] [] none) = true ∧
      ((busy id).bench 0).reqs.length + ((busy id).reqsOf 0 ⟨0, 0, 7, [], 0, 0, false, 0⟩ (.done [] [] [] none)).length ≤ 64 ∧
      (busy id).resultFits 0 ⟨0, 0, 7, [], 0, 0, false, 0⟩ (.done [⟨1, 0, false, none⟩] [] [] none) = false) ∧
    (let r := WorkResult.done [] (List.replicate 65 (.read ⟨0x1000, 1⟩ 0 0 0)) [] none
     (busy id).resultFits 0 ⟨0, 0, 7, [], 0, 0, false, 0⟩ r = true ∧
      64 - ((busy id).bench 0).reqs.length < ((busy id).reqsOf 0 ⟨0, 0, 7, [], 0, 0, false, 0⟩ r).length) := by decide
theorem storeUsed_replicate (n : Nat) (k : Token) : ({ store := List.replicate n k } : State).storeUsed = n := by
  unfold State.storeUsed; rw [List.length_replicate]; rfl
theorem witness_TokensAndFirings_full :
    Settled { store := List.replicate 65536 ⟨0, 1, 0, 7, 1, false⟩ } ∧ 65536 ≤ ({ store := List.replicate 65536 ⟨0, 1, 0, 7, 1, false⟩ } : State).storeUsed ∧
    (∀ k ∈ List.replicate 65536 (⟨0, 1, 0, 7, 1, false⟩ : Token), k.graph = (0 : Graph).val ∧ k.buf = false) := by
  refine ⟨⟨rfl, rfl, rfl⟩, ?_, fun k hk => ?_⟩
  · exact Nat.le_of_eq (by rw [storeUsed_replicate])
  · rw [(List.mem_replicate.1 hk).2]; exact ⟨rfl, rfl⟩

/-- Graph 0 with an event binding from source 5 to node 1, whose COUNT is 3. -/
def bound (st : Nat) : State := graphed [(keyG 0 RGraph.GRAPH_STATE, st), (key (0xC400 + 5) RSrc.COUNT, 3)] (fun s =>
  { s with doms := Tab.set (Tab.set [] (keyG 0 RGraph.NODE_TABLE) (toBytes 32 (6 + (3 + 65536) * 2 ^ 128))) (keyG 0 RGraph.BINDINGS) (toBytes 8 (2 + 5 * 16 + 2 ^ 20 + 2 ^ 31)) })
/-- A graph whose object and state are set, OPERATIONAL. -/
def inGraph (st : Nat) : State := graphed [(keyG 0 RGraph.GRAPH_STATE, st)] id
theorem witness_GraphsAndBenches_graphs :
    (inGraph 1).operational = true ∧ (0 : BitVec 16).toNat = (inGraph 1).getG 0 RGraph.GRAPH_EPOCH ∧ (inGraph 1).getG 0 RGraph.GRAPH_STATE = GS.LOADED ∧
    (inGraph 2).getG 0 RGraph.GRAPH_STATE = GS.RUNNING ∧ (inGraph 3).getG 0 RGraph.GRAPH_STATE ≠ GS.RUNNING ∧
    (inGraph 3).getG 0 RGraph.GRAPH_STATE ≠ GS.LOADED ∧ (inGraph 3).getG 0 RGraph.GRAPH_STATE ≠ GS.STOPPED ∧ (inGraph 1).getG 0 RGraph.GRAPH_STATE ≠ GS.DRAINING ∧
    (inGraph 1).getG 0 RGraph.GRAPH_STATE ≠ GS.SITE_STALE := by decide
set_option maxRecDepth 100000 in
theorem witness_GraphsAndBenches_drained : (inGraph 3).drained 0 = true ∧ { inGraph 3 with drains := Tab.set [] 0 1 }.drains.get 0 0 = 1 ∧
    (∀ e k, (inGraph 3).chState e k ≠ CH.HOLDING) ∧ Settled { inGraph 3 with drains := Tab.set [] 0 1 } :=
  ⟨by decide, by decide, by decide, by decide, by decide, by decide⟩
set_option maxRecDepth 100000 in
theorem witness_GraphsAndBenches_undrained : (busy id).drained 0 = false := by decide
set_option maxRecDepth 100000 in
theorem witness_GraphsAndBenches_binding :
    bnType ((bound 2).binding 0 0) = 2 ∧ (bound 2).bindCount ((bound 2).binding 0 0) = 3 ∧ ((bound 2).bindU 0 0).seen = 0 ∧
    (bound 2).accepts (bindToken 0 ((bound 2).binding 0 0) 0 3) = true ∧ (bound 2).filled (bindToken 0 ((bound 2).binding 0 0) 0 3) = false ∧
    (bound 2).completes (bindToken 0 ((bound 2).binding 0 0) 0 3) = none ∧ (bound 2).storeUsed < 65536 ∧
    bnType ((bound 3).binding 0 0) = 2 ∧ (bound 3).bindCount ((bound 3).binding 0 0) = 3 ∧ (bound 3).getG 0 RGraph.GRAPH_STATE = GS.DRAINING := by decide
theorem witness_GraphsAndBenches_holding : (∀ e k, (bound 2).chState e k ≠ CH.HOLDING) ∧ (∀ e k, (bound 3).chState e k ≠ CH.HOLDING) ∧ (∀ e k, (inGraph 1).chState e k ≠ CH.HOLDING) := by decide
/-- A delay list with one post. -/
def delayed (f : State → State) : State := f { inGraph 2 with delays := #v[[⟨5, .post ⟨0, 1, 0, 7, 1, false⟩, false, 0⟩], [], [], []] }
set_option maxRecDepth 20000 in
theorem witness_GraphsAndBenches_delays :
    (delayed id).delays.get 0 = [⟨5, .post ⟨0, 1, 0, 7, 1, false⟩, false, 0⟩] ∧ (delayed id).drains.get 0 0 = 0 ∧ (delayed id).delays.get 1 = [] ∧
    (delayed id).hasPort 0 1 0 = true ∧ (delayed id).filled ⟨0, 1, 0, 7, 1, false⟩ = false ∧ (delayed id).completes ⟨0, 1, 0, 7, 1, false⟩ = none ∧
    (delayed id).storeUsed < 65536 ∧ (delayed (fun s => { s with drains := Tab.set [] 0 1 })).drains.get 0 0 ≠ 0 := by decide
set_option maxRecDepth 20000 in
theorem witness_GraphsAndBenches_requests :
    ((live 4 []).bay 0).objQueue = [] ∧ ((live 4 []).bench 0).reqs = [] ∧
    (let x := (live 4 []).modBay 0 (fun u => { u with objQueue := [(keyB 0 RBay.USER_FLAGS, 9, 0)] })
     x.operational = true ∧ x.bayDown 0 = false ∧ (x.bay 0).objQueue = [(keyB 0 RBay.USER_FLAGS, 9, x.getB 0 RBay.SITE_EPOCH)]) ∧
    (let x := (inGraph 2).modBench 0 (fun u => { u with reqs := [⟨0, 0, 7, .write ⟨⟨0x1000, 1⟩, 4, 0, []⟩, 0⟩] })
     (x.bench 0).reqs = [⟨0, 0, 7, .write ⟨⟨0x1000, 1⟩, 4, 0, []⟩, 0⟩] ∧ onPath ⟨0x1000, 1⟩ = false ∧ x.dests 0 0 3 = [] ∧ ∀ c, (x.core 0 c).left = none) := by decide
/-- Bench 0 in a state. -/
def benched (st : Nat) : State := live 2 [(keyBench 0 RBench.BENCH_STATE, st)]
theorem witness_GraphsAndBenches_benches :
    (benched 1).operational = true ∧ (benched 1).benchState 0 = BN.RUNNING ∧ (benched 2).benchState 0 = BN.DRAINING ∧ (benched 3).benchState 0 = BN.DRAINED ∧
    (benched 4).benchState 0 = BN.LOADING ∧ (∀ c, ((benched 2).core 0 c).works = []) ∧ (benched 2).blocked = [] ∧ ((benched 2).bench 0).ready = [] ∧
    ((benched 4).fwSlots.get (Fin.ofNat 2 ((benched 4).getO (keyBench 0 RBench.BENCH_IMAGE)))).cut = false := by decide

/-- Engine 0 with a channel in a state, served or not, and a descriptor in the capture SRAM. -/
def moving (k : Fin 8) (st : Nat) (d : Nat) (l : List (Nat × Nat)) (f : DmaU → DmaU) : State :=
  State.modDma { live 2 ([(keyEng 0 REng.ACTIVE_CHANNEL, k.val), (keyDma 0 k RDma.CHAN_STATE, st), (keyDma 0 k RDma.CUR_DESC, 0x1000000040),
    (R.CAPTURE_BASE, 4096), (keyPc 0 RPc.PC_STATE, 2)] ++ l) with mem := memWrite [] 0x1000000040 (toBytes 64 d) } 0 k f
/-- One byte from the capture SRAM to address 0, and the chain ends. -/
def oneByte : Nat := 0x1000000000 + 2 ^ 213 * 2 ^ 213
theorem witness_DmaChannels_control :
    (let x := moving 3 0 0 [] id
     x.operational = true ∧ x.chState 0 3 = CH.IDLE ∧ x.getD 0 3 RDma.PAUSE ≠ 1 ∧ x.coreOut = false ∧ (moving 3 0 0 [(keyDma 0 3 RDma.PAUSE, 1)] id).getD 0 3 RDma.PAUSE = 1) ∧
    (let x := moving 3 6 0 [(keyDma 0 3 RDma.ERROR, 5)] id
     x.chState 0 3 = CH.HALTED ∧ x.chState 0 3 ≠ CH.IDLE ∧ x.getD 0 3 RDma.ERROR = DE.LOOP) ∧
    (moving 3 6 0 [(keyDma 0 3 RDma.ERROR, 14)] id).getD 0 3 RDma.ERROR = DE.WAIT_TIMEOUT ∧
    (let x := moving 3 6 0 [(keyDma 0 3 RDma.ERROR, 12)] (fun u => { u with desc := some oneByte })
     x.getD 0 3 RDma.ERROR ≠ DE.LOOP ∧ x.getD 0 3 RDma.ERROR ≠ DE.WAIT_TIMEOUT ∧ x.getD 0 3 RDma.PAUSE ≠ 1 ∧ (x.dma 0 3).desc = some oneByte ∧
     oneByte.testBit 428 = false ∧ oneByte.testBit 426 = true ∧ dPort oneByte true = 0 ∧ isProg 3 = false) ∧
    (let x := moving 3 1 0 [] (fun u => { u with desc := some oneByte })
     x.chState 0 3 = CH.RUNNING ∧ x.serves_ 0 3 = true ∧ (x.dma 0 3).desc.isSome = true ∧
     (moving 3 1 0 [(keyEng 0 REng.ACTIVE_CHANNEL, 0xFF)] id).serves_ 0 3 = false ∧ (moving 3 5 0 [] id).chState 0 3 = CH.PAUSED ∧
     (moving 3 4 0 [] id).chState 0 3 = CH.PAUSING) := by decide
set_option maxRecDepth 20000 in
theorem witness_DmaChannels_fetch :
    (let x := moving 3 1 oneByte [] (fun u => { u with fetch := true })
     x.serves_ 0 3 = true ∧ x.chState 0 3 = CH.RUNNING ∧ (x.dma 0 3).fetch = true ∧ x.readAnswer (x.getD 0 3 RDma.CUR_DESC) 64 = MR.OK ∧
     x.descError 0 3 (ofBytes (memRead x.mem (x.getD 0 3 RDma.CUR_DESC) 64)) = 0) ∧
    (let x := moving 3 1 0 [] (fun u => { u with fetch := true })
     x.readAnswer (x.getD 0 3 RDma.CUR_DESC) 64 = MR.OK ∧ x.descError 0 3 (ofBytes (memRead x.mem (x.getD 0 3 RDma.CUR_DESC) 64)) ≠ 0) ∧
    (moving 3 1 0 [(keyDma 0 3 RDma.CUR_DESC, 0x2000000000)] (fun u => { u with fetch := true })).readAnswer 0x2000000000 64 ≠ MR.OK ∧
    (let x := moving 3 1 0 [(keyDma 0 3 RDma.CUR_DESC, 0)] (fun u => { u with fetch := true })
     x.serves_ 0 3 = true ∧ x.chState 0 3 = CH.RUNNING ∧ (x.dma 0 3).fetch = true ∧ x.readAnswer (x.getD 0 3 RDma.CUR_DESC) 64 = MR.OK ∧
      windowOf (x.getD 0 3 RDma.CUR_DESC) = 1) := by decide
set_option maxRecDepth 20000 in
theorem witness_DmaChannels_moves :
    (let x := moving 3 1 0 [] (fun u => { u with desc := some (2 ^ 112), since := some 5 })
     (x.dma 0 3).desc = some (2 ^ 112) ∧ dPort (2 ^ 112) true ≠ 0 ∧ (x.dma 0 3).pos < dBytes (2 ^ 112) ∧ (x.dma 0 3).since = some 5 ∧ x.serves_ 0 3 = true) ∧
    (let x := moving 3 1 0 [] (fun u => { u with desc := some oneByte })
     (x.dma 0 3).pos < dBytes oneByte ∧ dPort oneByte false = 0 ∧ oneByte.testBit 429 = false ∧
     x.readAnswer (dByte oneByte false (dIndex oneByte 0) / 64 * 64) 64 = MR.OK ∧
     (x.moveBytes 0 3 oneByte 0 ((List.range (runLength oneByte 0 64)).map (fun i => memGet x.mem (dByte oneByte false (dIndex oneByte i))))).2.2 = none) ∧
    (let x := moving 3 1 0 [] (fun u => { u with desc := some (0x2000000000) })
     x.readAnswer (dByte 0x2000000000 false (dIndex 0x2000000000 0) / 64 * 64) 64 ≠ MR.OK) ∧
    (let x := moving 3 1 0 [] (fun u => { u with desc := some oneByte, pos := 1 })
     dBytes oneByte ≤ (x.dma 0 3).pos ∧ (x.dma 0 3).ended = false) ∧
    ((moving 3 1 0 [] id).dma 0 3).desc = none ∧ ((moving 3 1 0 [] id).dma 0 3).since = none := by decide

/-- Engine 0 serving program channel 0 at an instruction in the capture SRAM. -/
def programmed (i : Nat) (l : List (Nat × Nat)) : State :=
  { live 2 ([(keyEng 0 REng.ACTIVE_CHANNEL, 0), (keyDma 0 0 RDma.CHAN_STATE, 1), (keyDma 0 0 RDma.CHAIN_HEAD, 0x1000000000)] ++ l) with
    mem := memWrite [] 0x1000000000 (toBytes 16 i) }
set_option maxRecDepth 20000 in
theorem witness_DmaPrograms_at : ∀ op : Fin 10, 1 ≤ op.val → AtInstr (programmed op.val []) 0 0 .clean op.val op.val :=
  fun op h => ⟨by revert op; decide, by revert op; decide, by revert op; decide, by revert op; decide, by revert op; decide, by revert op; decide,
    by revert op; decide, by revert op; decide, by revert op; decide⟩
set_option maxRecDepth 20000 in
theorem witness_DmaPrograms_write :
    (((programmed 7 [(R.CAPTURE_BASE, 4096), (keyPc 0 RPc.PC_STATE, 2)]).fetchedBy 0 0 .clean).writeAnswer (.dma 0 (progChan 0)) (piAddr 7) 4 = MR.OK) ∧
    ((programmed 7 []).fetchedBy 0 0 .clean).writeAnswer (.dma 0 (progChan 0)) (piAddr 7) 4 ≠ MR.OK ∧ Memory.wf (programmed 7 []).mem = true ∧
    fieldOf (ofBytes (memRead (programmed 0 []).mem ((programmed 0 []).progAddr 0 (progChan 0)) 16)) 0 8 = 0 ∧
    (programmed 0 [(keyEng 0 REng.ACTIVE_CHANNEL, 0xFF)]).serves_ 0 (progChan 0) = false ∧
    (let x := programmed 0 [(keyDma 0 0 RDma.CHAIN_HEAD, 0), (keyPc 0 RPc.PC_STATE, 2)]
     x.readAnswer (x.progAddr 0 (progChan 0)) 16 = MR.OK ∧ windowOf (x.progAddr 0 (progChan 0)) = 1) := by decide
set_option maxRecDepth 100000 in
theorem witness_DmaPrograms_unbound : ((programmed 8 []).fetchedBy 0 0 .clean).dmaBindings 0 (progChan 0) = [] := by decide
/-- A program channel that waits. -/
def awaiting (w : DmaWait) : State := (programmed 0 [(keyDma 0 0 RDma.CHAN_STATE, 2), (key (0xC400 + 5) RSrc.COUNT, 3)]).modDma 0 0 (fun u => { u with wait := some w })
set_option maxRecDepth 20000 in
theorem witness_DmaPrograms_waits :
    (let x := awaiting (.word 0x1000000000 0)
     x.chState 0 (progChan 0) = CH.WAITING ∧ (x.dma 0 (progChan 0)).wait = some (.word 0x1000000000 0) ∧ x.readAnswer 0x1000000000 4 = MR.OK ∧ windowOf 0x1000000000 ≠ 1 ∧
      (x.readChecked 0x1000000000 .clean).readAnswer 0x1000000000 4 = MR.OK ∧ (x.readChecked 0x1000000000 .clean).getD 0 (progChan 0) RDma.PAUSE ≠ 1 ∧
     ofBytes (memRead x.mem 0x1000000000 4) = 0 ∧ x.getD 0 (progChan 0) RDma.PAUSE ≠ 1) ∧
    ofBytes (memRead (awaiting (.word 0x1000000000 1)).mem 0x1000000000 4) ≠ 1 ∧ (awaiting (.word 0 1)).readAnswer 0 4 ≠ MR.OK ∧
    ((awaiting (.word 0 1)).setO (keyPc 0 RPc.PC_STATE) 2).readAnswer 0 4 = MR.OK ∧ windowOf 0 = 1 ∧
    (awaiting (.event 5 2)).getO (key (0xC400 + 5) RSrc.COUNT) ≠ 2 ∧ (awaiting (.event 5 3)).getO (key (0xC400 + 5) RSrc.COUNT) = 3 ∧
    (programmed 1 []).chState 0 (progChan 0) ≠ CH.WAITING := by decide

/-- The data space open to a bay's capture, and pseudo-channel 0 in a state. -/
def memState (st : Nat) (l : List (Nat × Nat)) : State := live 2 ([(R.CAPTURE_BASE, 0), (R.SYSTEM_BASE, 65536), (keyPc 0 RPc.PC_STATE, st)] ++ l)
/-- The same with so many transactions of a class in pseudo-channel 0's queue. -/
def crowded (c : MemClass) (n : Nat) : State :=
  { memState 2 [] with hbmQ := { pcs := (Vector.replicate 64 {}).set 0 { queue := List.replicate n ⟨c, 0⟩ } } }
set_option maxRecDepth 20000 in
theorem witness_MemoryAndItsCare_queues :
    ((crowded .bestEffort 112).readAnswer 0 4 = MR.OK ∧ (crowded .bestEffort 112).mustWait (crowded .bestEffort 112).hbmQ.waits .bestEffort 0 4 = true) ∧
    ((crowded .bestEffort 111).mustWait (crowded .bestEffort 111).hbmQ.waits .bestEffort 0 4 = false) ∧
    ((crowded .capture 160).writeAnswer (.bay 0) 0 4 = MR.OK ∧
      (crowded .capture 160).mustWait (crowded .capture 160).hbmQ.waits ((crowded .capture 160).writerClass (.bay 0) 0 4) 0 4 = true) ∧
    ((memState 2 []).mustWait (memState 2 []).hbmQ.waits ((memState 2 []).writerClass (.bay 0) 0 4) 0 4 = false) := by decide
set_option maxRecDepth 20000 in
theorem witness_MemoryAndItsCare :
    ((memState 2 []).readAnswer 0 4 = MR.OK ∧ windowOf 0 = 1 ∧ (memState 0 []).readAnswer 0 4 ≠ MR.OK ∧
      (∃ x ∈ blocksOf 0 4, (memState 2 []).tagSeq x ≠ (7 : BitVec 8).toNat)) ∧
    ((memState 2 []).writeAnswer (.bay 0) 0 4 = MR.OK ∧ (memState 2 []).writeAnswer .control 0 4 ≠ MR.OK ∧ (memState 2 []).writeAnswer (.bay 0) 0x1000000000 4 = MR.OK ∧
      windowOf 0x1000000000 ≠ 1) ∧
    ((memState 2 [(keyPc 0 RPc.SCHED_MODE, 0)]).getO (keyPc 0 RPc.SCHED_MODE) ≠ 1 ∧ (memState 2 []).hot 0 = false ∧ (memState 2 [(keyStack 0 RStack.HOT, 1)]).hot 0 = true) ∧
    ((memState 3 []).pcState 0 = PC.RECOVERY ∧ (memState 3 []).getO (keyPc 0 RPc.REFRESH_OWED) = 0 ∧
      toSigned 16 ((memState 3 []).getO (keyStack 0 RStack.STACK_TEMP)) ≤ 332 ∧ (memState 2 []).pcState 0 ≠ PC.RECOVERY) ∧
    ({ memState 2 [] with scrubbed := 64 * groupsPerPc - 1 } : State).scrubbed + 1 = 64 * groupsPerPc ∧ (memState 2 []).scrubbed + 1 < 64 * groupsPerPc ∧
    (memState 2 []).anyArmed = false ∧ (live 3 []).anyArmed = true ∧ (memState 2 []).operational = true ∧
    (memState 0 []).pcState 0 = PC.TRAINING ∧ (memState 2 []).pcState 0 = PC.ACTIVE := by decide

/-- Lane 0 in a state, with more objects of it written and what it holds. -/
def laned (st : Nat) (o : List (Nat × Nat)) (f : LaneU → LaneU) : State :=
  (live 2 ((keyLane 0 RLane.LANE_STATE, st) :: o.map (fun p => (keyLane 0 p.1, p.2)))).modLane 0 f
set_option maxRecDepth 20000 in
theorem witness_LanesTrainAndAdapt :
    ((laned 0 [] id).operational = true ∧ (laned 0 [] id).locked 19 = true ∧ (laned 0 [] id).laneState 0 = LN.DISABLED ∧ (laned 6 [] id).laneState 0 ≠ LN.DISABLED ∧
      ((laned 0 [] id).setO R.LOCK_MASK 0).locked 19 = false) ∧
    ((laned 2 [] (fun u => { u with rateNew := some 1 })).lane 0).rateNew = some 1 ∧ (laned 2 [] id).commit = none ∧
    (((laned 2 [] id).lane 0).rateNew = none ∧ ((laned 2 [] id).lane 0).ready = false ∧ (laned 2 [] id).laneState 0 = LN.TRAIN) ∧
    ((laned 5 [(RLane.LINK, 0)] id).linkOf 0 = some 0 ∧ (laned 5 [(RLane.LINK, 0)] id).capsFail 0 0 0 = some 4 ∧
      (laned 5 [(RLane.LINK, 0), (RLane.LANE_RATE, 0)] id).capsFail 0 0 0x12066 = none ∧ (laned 5 [] id).linkOf 0 = none) ∧
    ((laned 6 [(RLane.ADAPT_STATE, 1)] id).getL 0 RLane.ADAPT_STATE = 1 ∧ fomOf 4 4 < (laned 6 [] id).getL 0 RLane.FOM_FLOOR ∧
      (laned 6 [] id).getL 0 RLane.FOM < (laned 6 [] id).getL 0 RLane.FOM_FLOOR ∧ (laned 6 [(RLane.FOM, 90)] id).getL 0 RLane.FOM_FLOOR ≤ (laned 6 [(RLane.FOM, 90)] id).getL 0 RLane.FOM) ∧
    ((laned 7 [] id).getO R.AUTO_RETRAIN = 1 ∧ ((laned 7 [] id).setO R.AUTO_RETRAIN 0).getO R.AUTO_RETRAIN ≠ 1) := by decide

/-- Link 0 in a state with lane 0 its own, and stream 1 bound to it. -/
def linked (st : Nat) (o : List (Nat × Nat)) (f : LinkU → LinkU) : State :=
  (live 2 ([(keyLink 0 RLink.LINK_STATE, st), (keyLink 0 RLink.VERSION, 0x20), (keyLink 0 RLink.LINK_LANES, 1), (keyLane 0 RLane.LANE_STATE, 6), (keyLane 0 RLane.LINK, 0),
    (keyStream 1 RStream.STREAM_LINK, 0)] ++ o)).modLink 0 f
set_option maxRecDepth 20000 in
theorem witness_LinksAndTheirStreams :
    ((linked 1 [] (fun u => { u with firstAt := some 0 })).linkState 0 = LK.FORMING ∧ ((linked 1 [] (fun u => { u with firstAt := some 0 })).link 0).firstAt = some 0 ∧
      max 1 ((linked 1 [] id).getK 0 RLink.MIN_WIDTH) ≤ (((linked 1 [] id).activeLanes 0).take (allowedWidth ((linked 1 [] id).getK 0 RLink.VERSION) ((linked 1 [] id).activeLanes 0).length)).length) ∧
    ((linked 0 [] id).operational = true ∧ (linked 0 [] id).linkState 0 = LK.DOWN ∧ (linked 3 [] id).linkState 0 = LK.RE_FORMING ∧ (linked 2 [] id).linkState 0 = LK.UP) ∧
    ((linked 2 [(keyStream 1 RStream.STREAM_STATE, 1), (keyStream 1 RStream.DIRECTION, 1), (keyStream 1 RStream.CREDIT, 64)] id).sends 1 = true ∧ credits 1 ≤ 64 ∧
      (((linked 2 [] id).modStream 1 (fun u => { u with queue := [7] })).stream 1).queue.length = 1) ∧
    ((linked 2 [] id).sends 1 = false ∧ (linked 2 [] id).dest 1 = 0 ∧ (linked 2 [(keyStream 1 RStream.DEST, 1)] id).dest 1 = 1) ∧
    (((linked 2 [] (fun u => { u with replay := [⟨5, 0, [], false, false⟩] })).link 0).replay.findIdx? (fun f => f.seq == (5 : BitVec 12).toNat) = some 0 ∧
      ((linked 2 [] (fun u => { u with replay := [⟨5, 0, [], false, false⟩] })).link 0).replay.findIdx? (fun f => f.seq == (6 : BitVec 12).toNat) = none) ∧
    (((linked 2 [] (fun u => { u with lanes := [0, 1] })).link 0).lanes.contains 1 = true ∧ ((linked 2 [] id).link 0).lanes.contains 0 = false ∧ (linked 2 [] id).linkOf 0 = some 0) ∧
    ({ live 2 [(keyB 0 RBay.PKG_STREAM, 1)] with coreOut := false } : State).pkgReady 0 = true ∧ ({ live 2 [] with coreOut := true } : State).pkgReady 0 = false := by decide

/-- The counter on, port 0 up in a mode, TPG 0 enabled for a grid point. -/
def timed (o : List (Nat × Nat)) (f : TpgU → TpgU) : State :=
  { (live 2 ([(keyPort 0 RPort.PORT_LINK, 1)] ++ o)).modTpg 0 f with counterOn := some 0 }
set_option maxRecDepth 20000 in
theorem witness_PortsAndNetworkTime :
    ((timed [] id).operational = true ∧ (timed [] id).portUp 0 = true ∧ (live 2 []).portUp 0 = false ∧ (timed [] id).getO (keyPort 0 RPort.PORT_MODE) = 1 ∧
      1500 ≤ (timed [] id).getO (keyPort 0 RPort.MTU)) ∧
    ((timed [] id).getO R.SERVO_MODE ≠ 1 ∧ ({ timed [] id with syncOk := 15, coreOut := false } : State).coreOut = false ∧ (timed [(R.CLOCK_STATE, 2)] id).getO R.CLOCK_STATE ≠ CK.FREE ∧
      (timed [] id).getO R.CLOCK_STATE = CK.FREE) ∧
    ((timed [(keyPort 0 RPort.ONE_STEP, 1)] id).getO (keyPort 0 RPort.ONE_STEP) = 1 ∧ (timed [] id).getO (keyPort 0 RPort.ONE_STEP) ≠ 1 ∧ ((timed [] id).nets.get 0).queue = []) ∧
    ((timed [] id).counterOn ≠ none ∧ (timed [] id).getO R.OFFSET < 2 ^ 64 ∧ toSigned 64 1099511627 ≤ 1099511627 ∧ 1099511627 < toSigned 64 1099511628) ∧
    ((timed [] id).tpgLacks 0 ≠ none ∧ ((timed [(keyTpg 0 RTpg.PERIOD, 400), (keyTpg 0 RTpg.START, 40000)] id).setClaim (.tpg 0) 1 0x0C).tpgLacks 0 = none ∧
      widthOk 0 400 = true ∧ widthOk 400 400 = false ∧ (timed [] id).netTime = 0) ∧
    ((timed [(keyTpg 0 RTpg.ENABLE, 1)] (fun u => { u with next := some 400 })).getTpg 0 RTpg.ENABLE = 1 ∧ (timed [] id).getTpg 0 RTpg.BAY_OUT = 0 ∧
      ((timed [] (fun u => { u with pulse := some (5, 1, 0) })).tpg 0).pulse = some (5, 1, 0)) ∧ (∀ n, (timed [] id).getTpg n RTpg.ENABLE ≠ 1) := by decide

/-- The module up, the Touchmark unit serving, no bay armed. -/
def sealed (o : List (Nat × Nat)) : State := { live 2 ([(R.TM_STATE, 2)] ++ o) with coreOut := false }
/-- A hold-up sample of 149 mJ. -/
def charged : Sample := ⟨9000, 10, 3000⟩
/-- A group-key record of an accepted form. -/
def keyRecord : Bytes := [1, 0, 0, 0, 4] ++ List.replicate 139 0
set_option maxRecDepth 40000 in
theorem witness_TouchmarkAndItsKeys :
    ((sealed []).operational = true ∧ (sealed []).coreOut = false ∧ (sealed []).tmIdle = true ∧ (sealed []).tmServes = true ∧ (sealed [(R.TM_STATE, 0)]).tmServes = false ∧
      (sealed []).tmTest = 0 ∧ ({ sealed [] with tmTest := 1 } : State).tmTest = 1 ∧ (sealed []).getO R.DEBUG_STATE ≠ 1 ∧
      ({ sealed [] with doms := [(R.ROLE_ANCHOR + 2, [4])], tmKey := true } : State).anchored .officer = true ∧ (sealed []).getO R.MODULE_STATE ≠ MS.CRYPTO) ∧
    (keyRecord.length = 144 ∧ (sealed []).anyArmed = false ∧ ({ live 4 [] with coreOut := false } : State).anyArmed = true ∧ groupRecordOk keyRecord = true ∧ groupRecordOk (List.replicate 144 0) = false ∧
      (sealed []).getO R.HOLDUP_STATE ≠ HS.ON_STORE ∧ (sealed [(R.HOLDUP_STATE, 3)]).getO R.HOLDUP_STATE = HS.ON_STORE ∧ classNeeds 3 ≤ sampleEnergy charged) ∧
    ((sealed []).codeKeyBusy 7 = false ∧ ((sealed []).modBay 0 (fun u => { u with bankLoad := some [] })).codeKeyBusy 0 = true ∧ (List.replicate 97 (4 : Byte)).length = 97 ∧
      (sealed []).getO R.TM_STATE ≠ TM.ENROLMENT ∧ (sealed [(R.TM_STATE, 1)]).getO R.TM_STATE = TM.ENROLMENT ∧ ({ sealed [] with tmKey := true } : State).tmKey = true) ∧
    ((sealed []).fwLoad = none ∧ ({ sealed [] with fwLoad := some (1, 4, 2) } : State).fwLoad = some ((1 : Fin 2).val, 4, 2) ∧ (sealed []).getO R.ROLLBACK ≤ (0 : BitVec 32).toNat ∧
      (0 : BitVec 32).toNat < (sealed [(R.ROLLBACK, 1)]).getO R.ROLLBACK ∧ (sealed [(R.ROLLBACK, 1)]).getO R.ROLLBACK ≤ (2 : BitVec 32).toNat ∧ (2 : BitVec 32).toNat ≤ ({ sealed [] with fwRollback := 2 } : State).fwRollback) ∧
    ((63 : BitVec 8).toNat < 64 ∧ (∃ b, ({ live 4 [(R.SLOT_STATE + 63, 4097)] with coreOut := false } : State).slotOf 63 b = true ∧
        ({ live 4 [(R.SLOT_STATE + 63, 4097)] with coreOut := false } : State).armed b = true) ∧ (∀ b, (sealed []).armed b = false)) ∧
    ({ sealed [(R.RESERVED_END, 4096), (R.TM_COUNTER, 4095)] with tmKey := true } : State).getO R.TM_COUNTER < 4096 ∧
    ([] : Bytes).length ≤ (sealed []).getO R.TM_BATCH_MAX ∧ (sealed []).tmRetry = none ∧ ({ sealed [] with tmRetry := some 5 } : State).tmRetry = some 5 := by decide
/-- An image of no bytes fits a slot, whatever the flash holds. -/
theorem witness_slot : 0 ≤ slotSize := Nat.zero_le _

/-! ### WellFormed refuses what does not fit -/

/-- A write item whose value has `n` bytes. -/
def itemOf (n : Nat) : WItem := ⟨⟨0x2000, 1⟩, 1, 0, List.replicate n 0⟩
/-- A frame with a payload of `n` bytes. -/
def frameOf (n : Nat) : Frame := ⟨0, 0, List.replicate n 0, false, false, true⟩

theorem long_value (n : Nat) (h : 65536 ≤ n) : fits 16 (List.replicate n (0 : Byte)).length = false := by
  rw [List.length_replicate]; simp only [fits, decide_eq_false_iff_not]; omega
theorem test_wf_requests :
    (Instr.hello 0 (2 ^ 32) 0x20 0x31 default).wf = false ∧ (Instr.read 0 0 (2 ^ 32) []).wf = false ∧
    (Instr.write 0 (2 ^ 32) [] default).wf = false ∧ (Instr.maskedWrite 0 (2 ^ 32) ⟨0, 0, 0, 0, 0, 0, 0⟩ default).wf = false ∧
    (Instr.blockRead 0 0 ⟨0, 0⟩ (2 ^ 32) 0).wf = false ∧ (Instr.blockWrite 0 (2 ^ 32) ⟨⟨0, 0⟩, 0, 0, 0, []⟩ default).wf = false ∧
    (Instr.stage 0 (2 ^ 32) []).wf = false ∧ (Instr.stageDiscard 0 (2 ^ 32) []).wf = false ∧ (Instr.commit 0 (2 ^ 32) 0 []).wf = false ∧
    (Instr.mgmtRead ⟨0, 0⟩ (2 ^ 32) 1 true).wf = false ∧ (Instr.mgmtWrite ⟨0, 0⟩ (2 ^ 32) [] 0 default).wf = false ∧
    (Instr.memRead .pattern (2 ^ 64) 1 none []).wf = false ∧ (Instr.memWrite .control (2 ^ 64) [] 0).wf = false ∧
    (Instr.tokenArrival ⟨256, 0, 0, 0, 0, false⟩).wf = false ∧ (Instr.frameSend 0 0 65536 none false).wf = false ∧
    (Instr.hello 0 (2 ^ 32 - 1) 0x20 0x31 default).wf = true ∧ (Instr.frameSend 0 0 65535 none false).wf = true := by decide
theorem test_wf_long (n : Nat) (h : 65536 ≤ n) : (Instr.registerWrite .officer (itemOf n)).wf = false ∧ (Instr.frameReceive 0 (frameOf n) true).wf = false :=
  ⟨long_value n h, long_value n h⟩

/-! ### Sessions and their requests -/

/-- A session that has greeted, of a role. -/
def greeted (role : Nat) : Session := { port := 0, role := role, hello := true }
/-- OPERATIONAL with a control core, port 0 up, the Touchmark unit serving with an Officer anchor, and session 3. -/
def open3 (x : Option Session) (o : List (Nat × Nat)) : State :=
  { live 2 ([(R.TM_STATE, 2), (keyPort 0 RPort.PORT_LINK, 1)] ++ o) with
    coreOut := false, doms := [(R.ROLE_ANCHOR + 2, [4])], tmKey := true, sessions := (Vector.replicate 16 none).set 3 x }
/-- What `New` asks, decided. -/
theorem new_of {s : State} {i : Fin 16} {x : Session} {req : Nat}
    (h : s.postEnds = [] ∧ s.session i = some x ∧ x.replies.find? (fun p => p.1 == req) = none ∧ x.running ≠ some req ∧
      x.waits.any (fun w => requestId w == some req) = false) : New s i x req := ⟨h.1, h.2.1, h.2.2.1, h.2.2.2.1, h.2.2.2.2⟩
/-- A greeted session of any role starts any request of the protocol it has agreed. -/
theorem starts_of {role : Nat} {c : Instr} (h : typeSince c ≤ 0x20) : Starts (open3 (some (greeted role)) []) 3 (greeted role) c 9 :=
  ⟨⟨rfl, rfl, rfl, by simp [greeted], rfl⟩, rfl, rfl, h⟩
set_option maxRecDepth 10000 in
theorem witness_SessionsAndHello :
    ((open3 none []).sessionsServed 0 = true ∧ (open3 none []).getO R.TM_STATE ≠ TM.ENROLMENT ∧ (open3 none []).anchored .officer = true ∧
      (open3 none []).session 0 = none ∧ (∀ j, j < (0 : Fin 16) → (open3 none []).session j ≠ none)) ∧
    ((open3 none [(R.TM_STATE, 1)]).sessionsServed 0 = true ∧ (open3 none [(R.TM_STATE, 1)]).getO R.TM_STATE = TM.ENROLMENT ∧
      (∀ j, (open3 none [(R.TM_STATE, 1)]).session j = none)) ∧
    (∀ j, ({ live 2 [] with sessions := Vector.replicate 16 (some (greeted 0)) } : State).session j ≠ none) ∧
    State.reset.sessionsServed 1 = false ∧ (open3 (some (greeted 0)) []).session 3 = some (greeted 0) ∧
    (16 ≤ (0x10 : BitVec 8).toNat ∧ (0x0F : BitVec 8).toNat < 16 ∧ typeSince (.maskedWrite 3 9 ⟨0, 0, 0, 0, 0, 0, 0⟩ default) = 0x20 ∧
      requestOf (.stage 3 9 []) = some (3, 9) ∧ typeSince (.stage 3 9 []) ≠ 0) := by decide
theorem witness_SessionsAndHello_new :
    New (open3 (some { port := 0, role := 1 }) []) 3 { port := 0, role := 1 } 9 ∧
    New (open3 (some { greeted 1 with proto := 0x10 }) []) 3 { greeted 1 with proto := 0x10 } 9 := ⟨new_of (by decide), new_of (by decide)⟩
/-- A session that runs request 5, with requests that wait. -/
def runs5 (w : List Instr) : Session := { greeted 1 with running := some 5, waits := w }
theorem witness_OneRequestAtATime :
    (requestOf (.read 3 9 100 []) = some (3, 9) ∧ New (open3 (some (runs5 (List.replicate 7 (.read 3 6 0 [])))) []) 3 (runs5 (List.replicate 7 (.read 3 6 0 []))) 9 ∧
      (runs5 (List.replicate 7 (.read 3 6 0 []))).waits.length < 8) ∧
    (New (open3 (some (runs5 (List.replicate 8 (.read 3 6 0 [])))) []) 3 (runs5 (List.replicate 8 (.read 3 6 0 []))) 9 ∧
      8 ≤ (runs5 (List.replicate 8 (.read 3 6 0 []))).waits.length) :=
  ⟨⟨by decide, new_of (by decide), by decide⟩, new_of (by decide), by decide⟩
theorem witness_RepliesAreKept :
    ((open3 (some { greeted 1 with replies := [(9, {})] }) []).postEnds = [] ∧
      (open3 (some { greeted 1 with replies := [(9, {})] }) []).session 3 = some { greeted 1 with replies := [(9, {})] } ∧
      ({ greeted 1 with replies := [(9, {})] } : Session).replies.find? (fun p => p.1 == 9) = some (9, {})) ∧
    ((runs5 []).running = some 5 ∧ (runs5 [.read 3 9 0 []]).replies.find? (fun p => p.1 == 9) = none ∧
      (runs5 [.read 3 9 0 []]).waits.any (fun w => requestId w == some 9) = true) := by decide

/-- A write of MERGE_WINDOW. -/
def mergeItem (n : Nat) : WItem := ⟨⟨0xC000, 0x0A⟩, 4, 0, toBytes 4 n⟩
def st1 : State := open3 (some (greeted 1)) []
def via1 : Via := (greeted 1).via 3
set_option maxRecDepth 20000 in
theorem witness_ReadsAndWrites_verdicts :
    (isRws 0x31 ⟨0xC000, 0x0C⟩ = false ∧ ((st1.heard 3).rwsVerdict via1 ⟨0xC000, 0x0C⟩ (some 4) 0 (toBytes 4 2000000) = .refuse ST.OUT_OF_RANGE) ∧
      (∃ r, (st1.heard 3).rwsVerdict via1 ⟨0xC000, 0x0C⟩ (some 4) 0 (toBytes 4 7) = .go r ∧ r.access = AC.RW)) := by
  refine ⟨by decide, by decide, ⟨0xC000, 0x1, 1, 1, 0xC, 0xC, 4, 1, 0x3E8, (0), (1000000), 0, 1, false, false, false, true⟩, by decide, by decide⟩
set_option maxRecDepth 20000 in
theorem witness_ReadsAndWrites_reads :
    (((st1.heard 3).readObj via1 ⟨0x2801, 2⟩).st = st1.heard 3 ∧ ((st1.heard 3).readObj via1 ⟨0x2801, 2⟩).item.length = 8 ∧
      7 < ((st1.heard 3).readObj via1 ⟨0x2801, 2⟩).item.length) ∧
    (((st1.heard 3).readObj via1 ⟨0x2801, 4⟩).status = ST.OK ∧ ((st1.heard 3).readObj via1 ⟨0x2801, 4⟩).type = 13 ∧
      ((st1.heard 3).readObj via1 ⟨0x2801, 4⟩).st = st1.heard 3) ∧ ((st1.heard 3).readObj via1 ⟨0x2801, 9⟩).status ≠ ST.OK := by decide +kernel
set_option maxRecDepth 20000 in
theorem witness_ReadsAndWrites_failing :
    (writeItems 3 9 via1 default (st1.heard 3) 0 ([] ++ [⟨⟨0xC000, 0x0C⟩, 4, 0, toBytes 4 2000000⟩])).reply.status ≠ ST.OK ∧
    ((writeItems 3 9 via1 default (st1.heard 3) 0 ([] ++ [⟨⟨0xC000, 0x0C⟩, 4, 0, toBytes 4 2000000⟩])).session 3).any (fun y => y.running.isSome) = false ∧
    isRws 0x31 ⟨0x3008, 1⟩ = false := by decide +kernel
theorem witness_ReadsAndWrites_rws :
    ∃ a : ObjAddr, isRws 0x31 a = true ∧ isRws 0x31 ⟨0xC000, 0x0C⟩ = false := ⟨⟨0x4011, 1⟩, by decide +kernel⟩
set_option maxRecDepth 20000 in
theorem witness_ReadsAndWrites_forms :
    (typeLen (13 : BitVec 8).toNat = none ∧ 1 < (2 : BitVec 2).toNat ∧ typeLen (4 : BitVec 8).toNat = some 4 ∧ (255 : BitVec 64).toNat < 256 ^ 4) ∧
    (0x3000 ≤ (0x3060 : BitVec 16).toNat ∧ (0x3060 : BitVec 16).toNat ≤ 0x30FF ∧
      (st1.heard 3).rwsVerdict via1 ⟨BitVec.ofNat 16 (0x3060 + 0 * 0x100), 1⟩ (some 4) (fieldOf 0 0 16) (toBytes 4 255) = .refuse ST.OUT_OF_RANGE) ∧
    ((3 : BitVec 32).toNat < (0 : BitVec 32).toNat + [(0 : Byte), 0, 0, 0].length ∧
      (0 : BitVec 32).toNat + [(0 : Byte), 0].length < (3 : BitVec 32).toNat ∧ (st1.heard 3).heldBytes + [(0 : Byte), 0].length ≤ 67108864) ∧
    (∃ b : BlockBuf, (open3 (some { greeted 1 with block := some b }) []).session 3 = some { greeted 1 with block := some b }) ∧
    ({ st1 with fresh := st1.fresh + 1 }.rwsVerdict { role := roleNo .operator } ⟨0xC000, 0x0C⟩ (some (4 : BitVec 8).toNat) 0 (toBytes 4 2000000) = .refuse ST.OUT_OF_RANGE) ∧
    ({ st1 with fresh := st1.fresh + 1 }.rwsVerdict { role := roleNo .operator } ⟨0xC000, 0x0C⟩ (some (4 : BitVec 8).toNat) 0 (toBytes 4 7) =
      .go ⟨0xC000, 0x1, 1, 1, 0xC, 0xC, 4, 1, 0x3E8, (0), (1000000), 0, 1, false, false, false, true⟩) :=
  ⟨by decide, ⟨by decide, by decide, by decide +kernel⟩, by decide, ⟨⟨⟨0, 0⟩, 0, 0, [], 0⟩, rfl⟩, by decide +kernel, by decide +kernel⟩

/-- PERIOD 5 of bay 0, staged with a value. -/
def staged5 (b : Bay) (st : Nat) (c : Option CommitRun) : State :=
  { open3 (some (greeted 1)) [(keyB b RBay.BAY_STATE, st)] with shadows := [(0x100 + b.val, [⟨0x3000 + b.val * 0x100 + 0x60, 5, toBytes 4 (2 ^ 32 - 1), 0⟩])], commit := c }
/-- The commit of bay 15 alone, with no session. -/
def commit15 : CommitRun := ⟨7, [(0x100 + (15 : Bay).val, 0)], [], 20000000000, none⟩
set_option maxRecDepth 20000 in
theorem witness_StageAndCommit :
    (Served st1 ∧ st1.committing (0x100 + 0) = false ∧ st1.bayDown 0 = false ∧ (0 : BitVec 16).toNat = st1.getB 0 RBay.SITE_EPOCH ∧
      st1.badValue 0x3060 5 (toBytes 4 4000) = false) ∧
    ((st1.heard 3).common via1 ⟨0x3060, 5⟩ (some 4) (toBytes 4 4000) (fun r => r.stageable || r.multi) =
      .go ⟨0x3060, 0x100, 16, 1, 0x1, 0x40, 4, 5, 0xFA0, (1000), (4294967295), 0, 1, true, false, false, false⟩) ∧
    ((st1.heard 3).common via1 ⟨0x3060, 5⟩ (some 4) (toBytes 4 999) (fun r => r.stageable || r.multi) = .refuse ST.OUT_OF_RANGE) ∧
    (State.reset.operational = false ∧ ({ st1 with coreOut := true } : State).coreOut = true) ∧
    ((staged5 15 2 (some commit15)).committing (0x100 + (15 : Bay).val) = true ∧ (staged5 15 2 (some commit15)).commit.isSome = true ∧ st1.commit = none ∧
      ¬ (([⟨0x100, 0⟩, ⟨0x100, 0⟩] : List UnitEntry).map (·.unit.toNat)).Nodup) ∧
    ((staged5 15 2 (some commit15)).shadow (0x100 + 15) = [⟨0x3000 + 15 * 0x100 + 0x60, 5, toBytes 4 (2 ^ 32 - 1), 0⟩] ∧
      (staged5 15 2 (some commit15)).shadow 0x1C0 = [] ∧ (staged5 15 2 (some commit15)).bst 15 ≠ BS.OFF ∧ (staged5 15 2 (some commit15)).bst 15 ≠ BS.MAINT ∧
      (staged5 15 2 (some commit15)).locked 15 = true ∧ 0 = (staged5 15 2 (some commit15)).getB 15 RBay.SITE_EPOCH ∧
      (staged5 15 6 (some commit15)).bst 15 = BS.MAINT ∧ (staged5 15 2 (some commit15)).running 15 = false ∧
      ((staged5 15 2 (some commit15)).bay 15).holding = none) ∧
    (let x := (staged5 15 4 (some commit15)).modBay 15 (fun u => { u with granOpen := true, granRows := 7 })
     let y : Staged := ⟨0x3000 + 15 * 0x100 + 0x60, 5, toBytes 4 (2 ^ 32 - 1), 0⟩
     x.shadow (0x100 + 15) = [y] ∧ y.isLevel = false ∧ y.isGuard = false ∧ x.running 15 = true ∧ x.atGranule 15 = false ∧ x.locked 15 = true ∧
      x.shadow 0x1C0 = [] ∧ (staged5 15 4 (some commit15)).atGranule 15 = true ∧
      (((staged5 15 2 (some commit15)).modBay 15 (fun u => { u with holding := some 2 })).bay 15).holding.isSome = true) :=
  ⟨by decide, by decide +kernel, by decide +kernel, by decide, by decide, by decide, by decide⟩

/-- A closed event record, and one still held. -/
def note (until_ : Nat) : EventNote := ⟨1033, 1, 0, 0, until_⟩
/-- Session 3 with a queue of events, and port 0 subscribed by a session. -/
def eventing (q : List EventNote) (sub : Option Nat) (u : List (Nat × Bytes)) : State :=
  { open3 (some { greeted 1 with queue := q }) [] with dataPorts := (Vector.replicate 2 {}).set 0 { sub := sub, unacked := u } }
theorem witness_EventsAndDataEvents :
    ((note 0).until_ ≤ (eventing [note 0] none []).now ∧ (∀ q ∈ [note 1], (eventing [note 1] none []).now < q.until_) ∧
      [note 1].find? (fun q => q.source == (1033 : BitVec 11).toNat && decide ((eventing [note 1] none []).now < q.until_)) = some (note 1)) ∧
    ((open3 (some { port := 0, role := 1 }) []).session 3 = some { port := 0, role := 1 } ∧
      (eventing [] none []).session 3 = some (greeted 1) ∧ (eventing [] none []).operational = true ∧
      ((eventing [] none []).dataPorts.get (Fin.ofNat 2 0)).sub = none ∧ ((eventing [] (some 4) []).dataPorts.get (Fin.ofNat 2 0)).sub = some (4 : Fin 16).val ∧
      ((eventing [] (some 3) [(1, [])]).dataPorts.get (Fin.ofNat 2 0)).sub = some (3 : Fin 16).val ∧
      ((eventing [] (some 3) [(1, [])]).dataPorts.get (Fin.ofNat 2 0)).unacked ≠ []) := by decide
set_option maxRecDepth 20000 in
theorem witness_ManagementPort :
    (st1.keeperOff = false ∧ inReduced ⟨0xC000, 0x0C⟩ = true ∧ inReduced ⟨0x3060, 1⟩ = false ∧
      (st1.readObj mgmtVia ⟨0xC000, 0x0C⟩).status = ST.OK ∧ (st1.readObj mgmtVia ⟨0xC000, 0x0C⟩).data.length = 4) ∧
    st1.rwsVerdict mgmtVia ⟨0xC000, 0x0C⟩ none 0 (toBytes 4 7) =
      .go ⟨0xC000, 0x1, 1, 1, 0xC, 0xC, 4, 1, 0x3E8, (0), (1000000), 0, 1, false, false, false, true⟩ ∧
    1 ≤ (toBytes 4 7).length ∧ (toBytes 4 7).length ≤ 256 := by decide +kernel

/-! ### The collector, the keeper and start-up -/

/-- A message of a bay's fault unit, and the keeper with it at its port, some scalar objects written. -/
def msg (kind sev : Nat) : FaultMsg := ⟨0x101, kind, sev, false, 0, 0, false, none⟩
def ported (m : FaultMsg) (o : List (Nat × Nat)) : State := { live 2 o with ports := [(m.unit, [m])] }
/-- A record of the fault log, and a grace timer of the same key. -/
def recd (m : FaultMsg) : FaultRec := ⟨m, 0, 0, 1, 0, false, false, false, false, false, 0, 0⟩
def grace (m : FaultMsg) (p : Nat) : GraceTimer := ⟨m, 0, 5, p, 0⟩
theorem mk_keeper (l : List (Nat × Nat)) : (mk l).keeperOff = false ∧ (mk l).fatal = [] := by
  have h : ∀ (l : List (Nat × Nat)) (s : State), (l.foldl (fun s p => s.setO p.1 p.2) s).keeperOff = s.keeperOff ∧
      (l.foldl (fun s p => s.setO p.1 p.2) s).fatal = s.fatal := by
    intro l; induction l with
    | nil => intro s; exact ⟨rfl, rfl⟩
    | cons a l ih => intro s; exact ih _
  exact h l {}
theorem witness_FaultsCollected_port (m : FaultMsg) (h : m.slot = none) (hu : m.unit = 0x101) (o : List (Nat × Nat)) : AtPort (ported m o) 0x101 m [] := by
  refine ⟨?_, ?_, ?_, h⟩
  · simp only [ported, live, mk_keeper]
  · simp only [ported, live, mk_keeper]
  · simp only [ported, Tab.get, hu]; rfl
set_option maxRecDepth 20000 in
theorem witness_FaultsCollected :
    (({ ported (msg 0x21 2) [] with log := [recd (msg 0x21 2)] } : State).mergesInto (msg 0x21 2) = some (recd (msg 0x21 2)) ∧
      (ported (msg 0x21 2) []).mergesInto (msg 0x21 2) = none ∧ (msg 0x21 2).legal ∧ ((ported (msg 0x21 2) []).getO R.LOG_SEQ_NEXT + 1) % 256 ≠ 0) ∧
    ({ msg 0x21 2 with suppress := true }.suppress = true ∧ (msg 0x21 2).suppress = false) ∧
    (polFinal ((ported (msg 0x21 2) [(key 0xC010 0x21, 2 + 3 * 4 + 256)]).policy 0x21) ≠ 0 ∧
      ((ported (msg 0x21 2) [(key 0xC010 0x21, 2 + 3 * 4 + 256)]).policy 0x21).testBit 1 = true ∧ (ported (msg 0x21 2) []).timers.length < 64) ∧
    (let x := { live 2 [(key 0xC010 0x80, 16)] with fatal := [⟨0x1C2, 0x80, 3, false, 0, 1, false, none⟩] }
     x.keeperOff = false ∧ 0x134 ≤ (0x1C2 : BitVec 12).toNat ∧ FaultMsg.legal ⟨0x1C2, 0x80, 3, false, 0, 1, false, none⟩ ∧ (∀ r ∈ x.log, r.seq ≠ x.getO R.LOG_SEQ_NEXT) ∧
     x.mergesInto ⟨0x1C2, 0x80, 3, false, 0, 1, false, none⟩ = none ∧ polFinal (x.policy 0x80) = 4 ∧ (x.policy 0x80).testBit 1 = false ∧ x.inHold = false ∧
     x.fatal ≠ [] ∧ (∀ m ∈ x.fatal, m.unit ≠ (0x101 : BitVec 12).toNat)) ∧
    ((live 2 []).fatal = [] ∧ (live 2 []).ports.get (0x101 : BitVec 12).toNat [] = []) ∧
    (({ live 2 [] with portLost := [(0x101, 1)] } : State).portLost.get (0x101 : BitVec 12).toNat 0 ≠ 0 ∧
      (({ live 2 [] with portLost := [(0x101, 1)] } : State).ports.get (0x101 : BitVec 12).toNat []).length < 16 ∧ (live 2 []).portLost.get (0x101 : BitVec 12).toNat 0 = 0) ∧
    (live 2 []).timers = [] ∧
    (let x := { live 2 [(keyB 1 RBay.BAY_STATE, 2)] with timers := [grace (msg 0x21 2) 14] }
     (grace (msg 0x21 2) 14).msg.unit = 0x100 + (1 : Bay).val ∧ (grace (msg 0x21 2) 14).msg.kind = (0x21 : BitVec 8).toNat ∧ polFinal (grace (msg 0x21 2) 14).policy = 3 ∧
     x.bayDown 1 = false) ∧
    (([⟨(7 : BitVec 32).toNat, 9⟩] : List StepToken) = ⟨(7 : BitVec 32).toNat, 9⟩ :: [] ∧ (∀ x ∈ (live 2 []).tokens, x.seq ≠ (7 : BitVec 32).toNat)) ∧
    ({ live 2 [] with log := [recd (msg 0x21 2)] } : State).recOf (0 : BitVec 32).toNat = some (recd (msg 0x21 2)) ∧
    (∀ x ∈ (live 2 []).log, x.seq ≠ (0 : BitVec 32).toNat) := by decide

set_option maxRecDepth 20000 in
theorem witness_LogsPoliciesInjection :
    (fieldOf 2560001294 5 3 = 0 ∧ polFinal (1294 : BitVec 32).toNat ≤ 5 ∧ fieldOf (2 + 3 * 4 + 10000000 * 256) 8 24 ≤ 10000000 ∧
      1 ≤ fieldOf (1294 : BitVec 32).toNat 8 24 ∧ severityOf 0x21 ≠ 3 ∧ severityOf 0x80 = 3 ∧
      (17 : BitVec 32).toNat.testBit 0 = true ∧ (17 : BitVec 32).toNat.testBit 1 = false ∧ 4 ≤ polFinal (17 : BitVec 32).toNat ∧
      (16 : BitVec 32).toNat.testBit 0 = false ∧ polFinal (20 : BitVec 32).toNat = 5 ∧ 5 < polFinal (24 : BitVec 32).toNat ∧
      10000000 < fieldOf (10000001 * 256) 8 24 ∧ fieldOf 2 8 24 = 0) ∧
    (let x := live 2 [(R.INJECT_UNIT, 0x101), (R.INJECT_KIND, 0x21)]
     x.keeperOff = false ∧ severityOf (x.getO R.INJECT_KIND) ≠ 3 ∧ x.roomAt (x.getO R.INJECT_UNIT) ∧
     severityOf ((live 2 [(R.INJECT_KIND, 0x80)]).getO R.INJECT_KIND) = 3) ∧
    (let x : State := { live 2 [] with log := [recd (msg 0x21 2)] }
     x.log = [recd (msg 0x21 2)] ∧ x.getO R.LOG_READ_SEQ ≤ (recd (msg 0x21 2)).seq ∧ x.recOf (x.getO R.FAULT_LOG_INDEX) = some (recd (msg 0x21 2))) ∧
    (let x : State := { live 2 [(R.LOG_SEQ_NEXT, 1), (R.LOG_READ_SEQ, 1), (R.FAULT_LOG_INDEX, 1)] with log := [recd (msg 0x21 2)] }
     (∀ r ∈ x.log, r.seq < x.getO R.LOG_SEQ_NEXT) ∧ x.getO R.LOG_READ_SEQ = x.getO R.LOG_SEQ_NEXT ∧ (∀ r ∈ x.log, r.seq ≠ x.getO R.FAULT_LOG_INDEX)) ∧
    ((timed [] id).counterOn.isSome = true ∧ (live 2 []).counterOn = none ∧ (live 2 []).archRetry = none) ∧
    (let x : State := { sealed [] with archRetry := some 5 }
     x.archRetry = some 5 ∧ x.coreOut = false ∧ x.getO R.HOLDUP_STATE ≠ HS.ON_STORE ∧ 16 ≤ sampleEnergy charged ∧ sampleEnergy ⟨0, 0, 1⟩ < 16 ∧
     ({ x with coreOut := true } : State).coreOut = true) ∧
    ((live 2 []).operational = true ∧ State.reset.operational = false) := by decide

/-- SAFE_HOLD with the watchdog running, every supply valid, the reference present and the heartbeat on. -/
def held (o : List (Nat × Nat)) (w : Option Nat) : State :=
  { live 1 ([(R.MODULE_STATE, MS.SAFE_HOLD), (R.SUPPLY_STATE, 255), (R.REF_STATE, 1)] ++ o) with watchdog := w, beat := true }
set_option maxRecDepth 20000 in
theorem witness_AliveAndSafeHold :
    ((live 2 [(R.ALIVE_STATE, 1)]).getO R.ALIVE_STATE = 1 ∧ (live 2 [(R.ALIVE_STATE, 0)]).getO R.ALIVE_STATE ≠ 1 ∧ (live 2 []).keeperOff = false) ∧
    ((sealed [(R.ALIVE_STATE, 1)]).coreOut = false ∧ (sealed [(R.ALIVE_STATE, 1)]).operational = true ∧ (sealed [(R.ALIVE_STATE, 1)]).getO R.ALIVE_STATE = 1 ∧
      (sealed [(R.ALIVE_STATE, 0)]).getO R.ALIVE_STATE ≠ 1 ∧ ({ sealed [] with coreOut := true } : State).coreOut = true) ∧
    (let x : State := { live 2 [] with watchdog := some 5, wdArmed := true }
     x.watchdog = some 5 ∧ x.wdArmed = true ∧ x.roomAt 0x1C0 ∧ (live 2 []).watchdog = none) ∧
    ((held [] none).beat = true ∧ (live 2 []).beat = false) ∧
    ((live 2 []).temps.get 7 ≤ 424 ∧ (448 : Int) ≤ 448 ∧ (424 : Int) < 425 ∧ (live 2 []).roomAt 0x1C2 ∧
      (let x : State := { live 2 [] with temps := Vector.replicate 8 448 }
       424 < x.temps.get 7 ∧ x.temps.get 7 ≤ 448 ∧ (448 : Int) < 449) ∧
      (let x : State := { live 2 [] with temps := Vector.replicate 8 449 }
       448 < x.temps.get 7)) ∧
    ((-50000 : Int).natAbs ≤ 50000 ∧ 50000 < (-50001 : Int).natAbs) ∧
    ((0x5A5B : BitVec 16) ≠ 0x5A5A ∧ (live 2 []).inHold = false) ∧
    ((held [] none).getO R.MODULE_STATE = MS.SAFE_HOLD ∧ (held [] none).watchdog = none ∧ (held [] (some 5)).watchdog.isSome = true ∧
      (held [(R.REF_STATE, 3)] (some 5)).getO R.REF_STATE ≠ 1 ∧ (held [(R.REF_STATE, 3)] (some 5)).getO R.REF_STATE ≠ 2 ∧
      (held [(R.LOCK_MASK, 0)] (some 5)).locked 23 = false) ∧
    ((held [] (some 5)).getO R.REF_STATE = 1 ∧ (held [] (some 5)).locked 23 = true ∧ (held [] (some 5)).getO R.SUPPLY_STATE % 256 = 255 ∧
      (∀ d, (held [] (some 5)).temps.get d ≤ 420) ∧ (held [] (some 5)).beat = true) ∧
    ((held [(R.REF_STATE, 0)] none).getO R.REF_STATE = 0 ∧ (held [] none).getO R.REF_STATE ≠ 0 ∧ 4 ≤ (held [] none).getO R.START_STAGE ∧ (held [] none).resetDue = none ∧
      ({ held [] none with resetDue := some 7 } : State).resetDue = some 7) := by decide

set_option maxRecDepth 20000 in
theorem witness_SuppliesAndReference :
    ((live 2 [(R.SUPPLY_STATE, 1)]).supply 0 = true ∧ (live 2 [(R.SUPPLY_STATE, 1)]).supply (7 : Fin 8).val = false ∧ (live 2 []).supply 0 = false) ∧
    ((live 2 []).getO R.MODULE_STATE ≠ 0 ∧ State.reset.getO R.MODULE_STATE = 0 ∧ State.reset.keeperOff = false ∧ (live 2 []).keeperOff = false ∧ (7 : Fin 8) ≠ 0) ∧
    ((live 2 [(R.HOLDUP_STATE, 3), (R.HOLDUP_ENERGY, 120)]).getO R.HOLDUP_STATE = HS.ON_STORE ∧ (live 2 [(R.HOLDUP_STATE, 3), (R.HOLDUP_ENERGY, 120)]).getO R.HOLDUP_ENERGY ≠ 0 ∧
      (live 2 []).getO R.HOLDUP_STATE ≠ HS.ON_STORE) ∧
    ((mk [(R.START_STAGE, 2)]).keeperOff = false ∧ (mk [(R.START_STAGE, 2)]).getO R.START_STAGE = 2) ∧
    (2 < (live 2 [(R.REF_STATE, 2)]).getO R.START_STAGE ∧ (live 2 [(R.REF_STATE, 2)]).refOk = true) ∧
    ((mk [(R.MODULE_STATE, 1)]).getO R.MODULE_STATE = 1 ∧ (live 2 []).getO R.MODULE_STATE ≠ 1) ∧
    ((live 2 [(R.SUPPLY_STATE, 255)]).groupsOk = true ∧ (live 2 [(R.SUPPLY_STATE, 255)]).inHold = false ∧ (held [] none).groupsOk = true ∧ (held [] none).inHold = true ∧
      (live 2 []).groupsOk = false) := by decide

/-- Start-up at a stage. -/
def stage (m n : Nat) (o : List (Nat × Nat)) : State := mk ([(R.MODULE_STATE, m), (R.START_STAGE, n)] ++ o)
/-- A stage's completion that finds everything good. -/
def good : StageResult := ⟨none, charged, Vector.replicate 2 (some ⟨1, 0, 1⟩), 0, 3, 0, false, 0, false⟩
set_option maxRecDepth 20000 in
theorem witness_StartUpAndResets :
    ((held [] none).inHold = true ∧ (live 2 []).operational = true ∧ ((stage 1 4 [(R.START_STATUS, 32)]).getO R.START_STATUS).testBit 5 = true) ∧
    ((stage 0 1 [(R.SUPPLY_STATE, 1)]).getO R.MODULE_STATE = 0 ∧ ((stage 0 1 []).getO R.START_STATUS).testBit 5 = false ∧ (stage 0 1 []).getO R.START_STAGE = 1 ∧
      (stage 0 1 [(R.SUPPLY_STATE, 1)]).supply 0 = true ∧ good.mram = none ∧ ({ good with mram := some 7 } : StageResult).mram = some 7 ∧ (stage 0 1 []).roomAt 0x1C2) ∧
    ((stage 0 2 []).getO R.MODULE_STATE = 0 ∧ (stage 0 2 []).getO R.START_STAGE = 2 ∧ (stage 0 3 []).getO R.START_STAGE = 3 ∧
      120 ≤ sampleEnergy good.smp ∧ sampleEnergy good.smp < 2 ^ 32 ∧ sampleEnergy ({ good with smp := ⟨0, 0, 1⟩ } : StageResult).smp < 120 ∧ (stage 0 3 []).holdupOk = false) ∧
    ((stage 1 4 []).getO R.MODULE_STATE = 1 ∧ (stage 1 4 []).getO R.START_STAGE = 4 ∧ (stage 1 4 []).getO R.RESET_CAUSE = 0 ∧
      (stage 1 5 []).verifies good (Fin.ofNat 2 ((stage 1 5 []).getO R.FW_ACTIVE_SLOT)) = some ⟨1, 0, 1⟩ ∧
      (let r := { good with images := Vector.ofFn (fun n => if n = 1 then some ⟨1, 0, 1⟩ else none) }
       (stage 1 5 []).verifies r (Fin.ofNat 2 ((stage 1 5 []).getO R.FW_ACTIVE_SLOT)) = none ∧
       (stage 1 5 []).verifies r (1 - Fin.ofNat 2 ((stage 1 5 []).getO R.FW_ACTIVE_SLOT)) = some ⟨1, 0, 1⟩) ∧
      (stage 1 5 [(R.ROLLBACK, 1)]).verifies good 0 = none ∧ (stage 1 5 [(R.ROLLBACK, 1)]).verifies good (1 - 0) = none) ∧
    (({ good with tests := 1 } : StageResult).tests ≠ 0 ∧ (stage 1 6 []).getO R.START_STAGE = 6 ∧ good.cores = 3 ∧ ({ good with cores := 2 } : StageResult).cores = 2 ∧
      (stage 1 7 []).roomAt 0x1C0 ∧ good.pcFailed = 0 ∧ ({ good with noRecord := true } : StageResult).noRecord = true) ∧
    (∀ n : Fin 9, (stage 1 (n.val + 4) []).keeperOff = false ∧ (stage 1 (n.val + 4) []).getO R.MODULE_STATE = 1 ∧
      ((stage 1 (n.val + 4) []).getO R.START_STATUS).testBit 5 = false ∧ (stage 1 (n.val + 4) []).getO R.START_STAGE = n.val + 4) ∧
    (10000 ≤ 10000 ∧ 1000 ≤ 1000 ∧ (stage 0 3 []).getO R.START_STAGE < 4) := by decide

set_option maxRecDepth 20000 in
theorem witness_HoldupChecks :
    ((live 2 []).keeperOff = false ∧ ({ live 2 [] with checkDue := some 5, recheck := some 6 } : State).checkDue = some 5 ∧
      ({ live 2 [] with checkDue := some 5, recheck := some 6 } : State).recheck = some 6 ∧ (live 2 []).checkDue = none ∧ (live 2 []).recheck = none ∧
      (live 2 []).checking = false) ∧
    (let x : State := { live 2 [] with checking := true }
     x.checking = true ∧ x.getO R.HOLDUP_STATE ≠ HS.ON_STORE ∧ 120 ≤ sampleEnergy charged ∧ sampleEnergy ⟨9000, 10, 8000⟩ < 120 ∧ x.roomAt 0x1C2) ∧
    (charged.droop ≠ 0 ∧ 15 * charged.step ≤ 2000 * charged.v0) := by decide

set_option maxRecDepth 20000 in
theorem witness_SwitchOver :
    (({ sealed [] with fwLoad := some (1, 4, 2) } : State).switchBusy = true ∧ (sealed []).switchBusy = false ∧ (sealed []).operational = true ∧ (sealed []).coreOut = false ∧
      (sealed []).getO R.STANDBY_STATE ≠ 2 ∧ (sealed [(R.STANDBY_STATE, 2)]).getO R.STANDBY_STATE = 2 ∧ (sealed [(R.STANDBY_STATE, 2)]).switchBusy = false) ∧
    ((sealed []).switchTo ≠ 1 ∧ ({ sealed [] with switchTo := 1 } : State).switchTo = 1 ∧ (sealed [(R.ALIVE_STATE, 0)]).getO R.ALIVE_STATE = 0) ∧
    (8 ≤ (sealed []).getO R.START_STAGE ∧ (0 : Fin 2).val = (sealed []).getO R.ACTIVE_CORE ∧ (1 : Fin 2).val ≠ (sealed []).getO R.ACTIVE_CORE ∧ (sealed []).roomAt 0x1C0) ∧
    (({ sealed [] with switchTo := 2 } : State).switchTo = 2 ∧ ({ sealed [] with switchTo := 3 } : State).switchTo = 3 ∧ ({ sealed [] with switchTo := 4 } : State).switchTo = 4) := by
  decide

/-- A package of one image for bay 0: one entry of zeros, 64 bytes of data, no key slot. -/
def package : Bytes :=
  toBytes 64 (0x46504B47 + 2 ^ 32 + 2 ^ 48) ++ toBytes 64 (0xFF * 2 ^ 8 + 128 * 2 ^ 64 + 192 * 2 ^ 96 + 2 ^ 128 + 256 * 2 ^ 160 + 64 * 2 ^ 224) ++
  toBytes 64 (3 + 2 * 2 ^ 16) ++ toBytes 32 0 ++ toBytes 128 0 ++ List.replicate 64 0
/-- Its image's directory entry. -/
def image : Nat := 0xFF * 2 ^ 8 + 128 * 2 ^ 64 + 192 * 2 ^ 96 + 2 ^ 128 + 256 * 2 ^ 160 + 64 * 2 ^ 224
/-- Bay 0 of a served module as a package has arrived. -/
def loading (p : Bytes) (o : List (Nat × Nat)) (l : List Nat) : State :=
  { (sealed ([(R.PATTERN_SIZE, 1), (R.CODE_KEY_USE, 2), (keyPc 0 RPc.PC_STATE, 2), (keyPc 1 RPc.PC_STATE, 2)] ++ o)).modBay 0
      (fun u => { u with pkg := some { data := p, blocks := l } }) with doms := [(R.CODE_KEY, [1])] }
set_option maxRecDepth 20000 in
theorem witness_PackagesAndAssay_packages :
    (Ready (sealed []) 0 0 ∧ (sealed []).pkgReady 0 = true ∧ (live 3 []).pkgReady 0 = false ∧ Ready (live 3 []) 0 0 ∧ ((sealed []).bay 0).pkg = none ∧
      (sealed []).slotOf 63 0 = false ∧ (sealed [(R.SLOT_STATE + 63, 4097)]).slotOf 63 0 = true) ∧
    ((((loading [] [] []).bay 0).pkg).isSome = true ∧ (pkgHeaderOk [] && pkgDirOk []) = false) ∧
    ((((loading package [] [0]).bay 0).pkg).map (·.data) = some package ∧ (pkgHeaderOk package && pkgDirOk package) = true ∧ pkgImageOf package 0 = some image ∧ dirSlot image = 0xFF ∧
      (loading package [] [0]).getB 0 RBay.PKG_BASE + dirLen image ≤ (loading package [] [0]).patternBytes ∧
      (loading package [] [0]).lockedRange ((loading package [] [0]).getB 0 RBay.PKG_BASE) (dirLen image) = false ∧
      (∀ p ∈ [0].zip [Ecc.clean], p.2 = .clean) ∧ (loading package [] [0]).spanDown ((loading package [] [0]).getB 0 RBay.PKG_BASE) (dirLen image) = false ∧
      (∀ e ∈ imageEntries package image ((loading package [] [0]).getB 0 RBay.PKG_BASE), (entValid e && entEnc e) = false) ∧
      (loading package [] [0]).codeKeyFor (fieldOf (pkgHeader package) 56 3) 1 = true ∧ setupOk (setupValues (slice package (dirSetup image) setupBytes)) = true ∧
      (∀ e ∈ imageEntries package image ((loading package [] [0]).getB 0 RBay.PKG_BASE),
        ((loading package [] [0]).each (setupValues (slice package (dirSetup image) setupBytes)) (fun s q => s.setB 0 q.1 q.2)).entryError 0 e = none)) ∧
    (let s := loading package [(keyPc 0 RPc.PC_STATE, 0)] []
     s.getB 0 RBay.PKG_BASE + dirLen image ≤ s.patternBytes ∧ s.lockedRange (s.getB 0 RBay.PKG_BASE) (dirLen image) = false ∧
      s.spanDown (s.getB 0 RBay.PKG_BASE) (dirLen image) = true) ∧
    (let s := loading package [] [0x100]
     let u := s.each ([0x100].zip [Ecc.uncorrectable]) (fun s p => s.checkBlock p.1 p.2)
     (∃ p ∈ [0x100].zip [Ecc.uncorrectable], p.2 = .uncorrectable) ∧ u.getB 0 RBay.PKG_BASE + dirLen image ≤ u.patternBytes ∧
      u.lockedRange (u.getB 0 RBay.PKG_BASE) (dirLen image) = false ∧ u.spanDown (u.getB 0 RBay.PKG_BASE) (dirLen image) = false ∧
      (∀ e ∈ imageEntries package image (u.getB 0 RBay.PKG_BASE), (entValid e && entEnc e) = false)) := by
  decide +kernel

/-- Bay 0 in a state, its spare path claimed for rolling assay in a state of its own. -/
def rolling (st rs : Nat) (o : List (Nat × Nat)) (f : Roll → Roll) : State :=
  State.modRoll (State.modDie { State.setClaim (live st ([(keyA 0 RAssay.ROLL_ENABLE, 1), (keyA 0 RAssay.ROLL_STATE, rs)] ++ o)) (.sparePath 0) 0 0x0A with coreOut := false } 0 (fun u => { u with clear := 0 })) 0 f
set_option maxRecDepth 20000 in
theorem witness_PackagesAndAssay_rolling :
    ((live 2 [(keyA 0 RAssay.ROLL_ENABLE, 0)]).getO (keyA 0 RAssay.ROLL_ENABLE) = 0 ∧
      (let x := rolling 2 4 [] id
       x.getO (keyA 0 RAssay.ROLL_ENABLE) ≠ 0 ∧ x.getO (keyA 0 RAssay.ROLL_PAUSE) ≠ 1 ∧ x.rollHeld = false ∧ x.rollState 0 = RS.WAITING ∧ x.rollMay 0 = true ∧
       x.onSpare 0 = false ∧ (x.bay 0).roll.target = none ∧ x.operational = true ∧ x.claimedFor (.sparePath 0) 0x0A = true)) ∧
    (let x := rolling 3 1 [] (fun r => { r with target := some 15 })
     (x.bay 0).roll.target = some 15 ∧ x.bst 0 = BS.ARMED ∧ x.clearOn 0 = false ∧ x.rollState 0 = RS.SHADOWING ∧ x.getC (chanOf 0 15) RChan.SELECTOR ≠ 1) ∧
    (let x := rolling 2 3 [(keyC (chanOf 0 15) RChan.SELECTOR, 1)] (fun r => { r with target := some 15, old := [1] })
     (x.bay 0).roll.target = some 15 ∧ x.bst 0 = BS.IDLE ∧ x.clearOn 0 = false ∧ x.rollState 0 = RS.RETURNING ∧ x.getC (chanOf 0 15) RChan.SELECTOR = 1 ∧
     (x.bay 0).roll.old ≠ []) ∧
    (let x := (rolling 4 1 [] (fun r => { r with target := some 15, shadowed := 3, atPoint := true })).modBay 0 (fun u => { u with granOpen := true })
     (x.bay 0).roll.target = some 15 ∧ x.bst 0 = BS.RUN ∧ (x.handPoint 0).1 = true ∧ x.clearOn 0 = false ∧ x.rollState 0 = RS.SHADOWING ∧
     x.getC (chanOf 0 15) RChan.SELECTOR ≠ 1) ∧
    (let x := rolling 2 2 [] (fun r => { r with target := some 15 })
     x.rollState 0 = RS.CALIBRATING ∧ (x.bay 0).roll.target = some 15 ∧ ((rolling 2 2 [] id).bay 0).roll.target = none ∧ (rolling 2 2 [] id).rollState 0 = RS.CALIBRATING ∧
     (rolling 2 4 [] id).rollState 0 ≠ RS.CALIBRATING ∧ x.rollState 0 ≠ RS.SHADOWING ∧ x.rollState 0 ≠ RS.RETURNING) ∧
    ((rolling 2 5 [] id).rollState 0 = RS.PAUSED ∧ (live 2 []).claim (.sparePath 0) = none ∧ (live 2 []).bst 0 ≠ BS.OFF ∧
      ((live 2 []).setClaim (.sparePath 0) 0 0x0B).claim (.sparePath 0) = some ⟨0, 0x0B⟩ ∧ (rolling 2 4 [] id).claim (.sparePath 0) = some ⟨0, 0x0A⟩ ∧
      16 ≤ (16 : BitVec 8).toNat ∧ (16 : BitVec 8).toNat ≠ 0xFF ∧ (15 : BitVec 8).toNat < 16) := by decide
set_option maxRecDepth 20000 in
theorem witness_PackagesAndAssay_assays :
    ((live 2 []).bst 0 ≠ BS.MAINT ∧ (live 6 []).bst 0 = BS.MAINT ∧ (live 6 []).getO (keyA 0 RAssay.BAY_ASSAY_STATUS) ≠ 1 ∧ ((live 6 []).modDie 0 (fun u => { u with clear := 0 })).clearOn 0 = false ∧
      (live 6 [(keyA 0 RAssay.BAY_ASSAY_STATUS, 1)]).getO (keyA 0 RAssay.BAY_ASSAY_STATUS) = 1) ∧
    ((live 2 []).tmuState 0 = TS.IDLE ∧ (live 2 []).locked (24 + (0 : Bay).val) = true ∧ State.reset.locked (24 + (0 : Bay).val) = false ∧ ((live 2 []).tmu 0).assay = false ∧
      (((live 2 []).modTmu 0 (fun u => { u with assay := true })).tmu 0).assay = true) ∧
    (let o := [(keySite 0 RSite.KIND, 4), (keySite 0 RSite.BAY_MASK, 1)]
     (live 2 o).operational = true ∧ (live 2 o).getO R.PURLIN_STATUS ≠ 1 ∧ (∀ b ∈ (live 2 o).purlinBays, (live 2 o).bst b = BS.IDLE) ∧ 0 ∈ (live 3 o).purlinBays ∧
     (live 3 o).bst 0 ≠ BS.IDLE ∧ (live 2 [(R.PURLIN_STATUS, 1)]).getO R.PURLIN_STATUS = 1 ∧ (∀ x ∈ [0, 2500], x ≤ 2500) ∧ 2501 ∈ [0, 2501] ∧ 2500 < 2501) ∧
    (let x : State := { live 2 [(keyA 0 RAssay.WINDOW_STATE, 1)] with assayed := 1 }
     x.assayed.testBit (0 : Bay).val = true ∧
     ((4 * x.getO R.TEMP_WINDOW : Int) - toSigned 16 (x.getO (keyA 0 RAssay.ASSAY_TEMP))).natAbs ≤ 4 * x.getO R.TEMP_WINDOW ∧
     4 * x.getO R.TEMP_WINDOW < ((4 * x.getO R.TEMP_WINDOW + 1 : Int) - toSigned 16 (x.getO (keyA 0 RAssay.ASSAY_TEMP))).natAbs ∧ x.getO (keyA 0 RAssay.WINDOW_STATE) = 1) ∧
    (let x : State := { live 2 [] with ledgerQ := [(LG.TIMING, 15)] }
     x.ledgerQ = [(LG.TIMING, 15)] ∧ x.getO R.HOLDUP_STATE ≠ HS.ON_STORE ∧ classNeeds x.ledgerClass ≤ sampleEnergy charged ∧ sampleEnergy ⟨0, 0, 1⟩ < classNeeds x.ledgerClass ∧
     (live 2 []).ledgerQ = []) ∧
    (((live 2 []).bay 0).roll.dirty = false ∧ ((rolling 2 4 [] (fun r => { r with dirty := true })).bay 0).roll.dirty = true ∧
      (rolling 2 4 [] (fun r => { r with dirty := true })).ledgerQ.contains (LG.TIMING, (0 : Bay).val) = false ∧
      (rolling 2 4 [] (fun r => { r with dirty := true })).ledgerHeld.contains (LG.TIMING, (0 : Bay).val) = false ∧
      (live 2 []).ledgerDue = none ∧ ({ live 2 [] with ledgerDue := some 5 } : State).ledgerDue = some 5) := by decide

/-! ### The rules of the whole module -/

theorem witness_ObserversChangeNothing :
    Starts (open3 (some (greeted 0)) []) 3 (greeted 0) (.write 3 9 [] default) 9 ∧ Starts (open3 (some (greeted 0)) []) 3 (greeted 0) (.maskedWrite 3 9 ⟨0, 0, 0, 0, 0, 0, 0⟩ default) 9 ∧
    Starts (open3 (some (greeted 0)) []) 3 (greeted 0) (.blockWrite 3 9 ⟨⟨0, 0⟩, 0, 0, 0, []⟩ default) 9 ∧ Starts (open3 (some (greeted 0)) []) 3 (greeted 0) (.stage 3 9 []) 9 ∧
    Starts (open3 (some (greeted 0)) []) 3 (greeted 0) (.stageDiscard 3 9 []) 9 ∧ Starts (open3 (some (greeted 0)) []) 3 (greeted 0) (.commit 3 9 0 []) 9 ∧ (greeted 0).role = 0 :=
  ⟨starts_of (by decide), starts_of (by decide), starts_of (by decide), starts_of (by decide), starts_of (by decide), starts_of (by decide), rfl⟩
theorem witness_TimeSharedIsNeverClaimed : (live 2 []).operational = true ∧ (live 2 []).coreOut = false := by decide
theorem witness_BayStatesMoveByTheirCommands :
    movesBays (.seqExit 0 .clean) = false ∧ (∃ t, exec (.seqExit 0 .clean) State.reset = .next t) ∧ Part.memory ∉ touched (.seqExit 0 .clean) := ⟨rfl, ⟨_, rfl⟩, by decide⟩
theorem witness_StepKeepsInv : ∃ t, step State.reset = .next t ∧ Memory.wf State.reset.mem = true := ⟨_, rfl, rfl⟩
theorem witness_NoWordExecutesWhileHeld :
    wordBay (.cntDec 15 3) = some 15 ∧ (live 5 []).bst 0 = BS.PAUSE ∧
    (((live 4 []).modBay 0 (fun u => { u with under := some ⟨⟨0, 1, 0, 0⟩, 0, 1, [], 0, 0⟩ })).bay 0).under.isSome = true ∧
    (((live 4 []).modBay 0 (fun u => { u with frozen := some 6, cyc := 7 })).bay 0).frozen = some 6 ∧
    6 < (((live 4 []).modBay 0 (fun u => { u with frozen := some 6, cyc := 7 })).bay 0).cyc := by decide
set_option maxRecDepth 10000 in
theorem witness_MicroReturnStack :
    (let x := atEnd (0x3FFF + 3 * 2 ^ 14) (fun u => { u with ustack := [0x3001, 0x3002, 0x3003] })
     Customer x 0 ∧ x.wordCycle 0 = true ∧ uwSeq (x.word 0) = 3 ∧ uwWait (x.word 0) = false ∧ (x.bay 0).ustack.length < 4 ∧ x.getB 0 RBay.UPC ≠ 0x3FFF ∧
     (x.bay 0).badWords.contains (uwNext (x.word 0)) = false ∧ (x.bay 0).softWords.contains (uwNext (x.word 0)) = false) ∧
    (let x := atEnd (0x3FFF + 4 * 2 ^ 14) (fun u => { u with ustack := [0x3001, 0x3002, 0x3003, 0x3004] })
     Customer x 0 ∧ x.wordCycle 0 = true ∧ uwSeq (x.word 0) = 4 ∧ uwWait (x.word 0) = false ∧ x.condAt 0 (uwCond (x.word 0)) = true ∧ 4 ≤ (x.bay 0).ustack.length) ∧
    (let x := atEnd (5 * 2 ^ 14) id
     Customer x 0 ∧ x.wordCycle 0 = true ∧ uwSeq (x.word 0) = 5 ∧ uwWait (x.word 0) = false ∧ (x.bay 0).ustack = []) ∧
    (let x := atEnd (5 * 2 ^ 14) (fun u => { u with ustack := [0x3FFF] })
     Customer x 0 ∧ x.wordCycle 0 = true ∧ uwSeq (x.word 0) = 5 ∧ (x.bay 0).ustack = [0x3FFF] ∧ uwWait (x.word 0) = false ∧ (x.bay 0).badWords.contains 0x3FFF = false ∧ (x.bay 0).softWords.contains 0x3FFF = false) ∧
    (let x := (armable []).modBay 0 (fun u => { u with arming := 1 })
     x.bst 0 = BS.IDLE ∧ (x.bay 0).arming = 1 ∧ (x.bay 0).holding = none ∧ x.clockOk 0 = true) ∧
    (let x := (armable []).modBay 0 (fun u => { u with arming := 2 })
     x.bst 0 = BS.IDLE ∧ (x.bay 0).arming = 2 ∧ (x.bay 0).holding = none ∧ x.clockOk 0 = true ∧
      ((x.residentErrors 0 []).fillRing 0 [] 16384).ringFull 0 = true) := by decide
set_option maxRecDepth 10000 in
theorem witness_DecVecLimitsRows :
    (let x := (atWord (3 * 2 ^ 41) (fun u => { u with cycRows := 4, nextStart := 8000 })).setB 0 RBay.PERIOD 4000 |>.setB 0 (RBay.CNT_VALUE + 3) 4
     Customer x 0 ∧ uwVec (x.word 0) = 0 ∧ uwSeq (x.word 0) ≠ 6 ∧ uwCnt (x.word 0) 3 = 3 ∧ x.wordOver 0 = false ∧ (x.bay 0).cycDone = false ∧
     x.getB 0 (RBay.CNT_VALUE + 3) ≤ (x.bay 0).cycRows ∧ x.slotLeft 0 = true ∧ ((x.bay 0).prdSel).getD (entPrd (x.curEntry 0)) = 0 ∧
     4000 * (((x.bay 0).cyc : Int) + 3) ≤ (x.bay 0).nextStart + x.getB 0 (RBay.PERIOD + 0)) ∧
    (let x := (atWord (3 * 2 ^ 41) (fun u => { u with cycDone := true, cycRows := 4 })).setB 0 (RBay.CNT_VALUE + 3) 0
     x.wordOver 0 = false ∧ (x.bay 0).cycDone = true ∧ x.getB 0 (RBay.CNT_VALUE + 3) ≤ 0) := by decide
set_option maxRecDepth 20000 in
theorem witness_SelfTestOnRequest :
    (Served (sealed []) ∧ (sealed []).tmServes = true ∧ (∀ b, (sealed []).bst b ≠ BS.ARMED ∧ (sealed []).bst b ≠ BS.RUN ∧ (sealed []).bst b ≠ BS.PAUSE) ∧
      (∀ g < 64, (sealed []).getG g RGraph.GRAPH_STATE ≠ GS.RUNNING)) ∧
    (Served { live 5 [] with coreOut := false } ∧ ({ live 5 [] with coreOut := false } : State).bst 0 = BS.PAUSE ∧
      (sealed [(keyG 63 RGraph.GRAPH_STATE, 2)]).getG 63 RGraph.GRAPH_STATE = GS.RUNNING) ∧
    (let x : State := { sealed [] with tmTest := 1 }
     x.tmTest = 1 ∧ x.getO R.MODULE_STATE ≠ MS.CRYPTO ∧ x.getO R.DEBUG_STATE ≠ 1 ∧ x.anchored .officer = false ∧
     ({ sealed [(R.DEBUG_STATE, 1)] with tmTest := 1 } : State).getO R.DEBUG_STATE = 1) := by decide
set_option maxRecDepth 10000 in
theorem witness_FaultHandleHandlesItsKey :
    (let x : State := { live 2 [] with log := [recd (msg 0x21 2)], timers := [grace (msg 0x21 2) 14] }
     x.recOf (0 : BitVec 32).toNat = some (recd (msg 0x21 2)) ∧ (∀ r ∈ x.log, r.seq ≠ (1 : BitVec 32).toNat) ∧
     (∀ y ∈ x.timers, ¬ (y.msg.unit = (0x100 : BitVec 12).toNat ∧ y.msg.kind = (0x21 : BitVec 8).toNat ∧ y.msg.inject = false))) ∧
    (let x : State := { live 2 [] with log := [recd (msg 0x21 2)] }
     (∀ y ∈ x.timers, sameKey y.msg (recd (msg 0x21 2)).msg = false) ∧ x.getO R.TIMERS_BUSY = x.timers.length) := by decide
set_option maxRecDepth 10000 in
theorem witness_HoldupIntervalChecks :
    (let x : State := { live 2 [] with checkDue := some 5, checking := true }
     x.keeperOff = false ∧ x.checkDue = some 5 ∧ x.checking = true ∧ x.getO R.HOLDUP_STATE ≠ HS.ON_STORE) ∧
    sampleEnergy ⟨9000, 10, 3700⟩ < 122 ∧ sampleEnergy ⟨9000, 10, 4000⟩ < 120 ∧ 120 ≤ sampleEnergy charged := by decide
theorem witness_HoldupChecksBegin : (live 2 []).keeperOff = false ∧ ({ live 2 [] with recheck := some 6 } : State).recheck = some 6 ∧
    ({ live 2 [] with recheck := some 6 } : State).keeperOff = false := by decide
/-- Whether a verdict lets a plain write go. -/
def goes : Verdict → Bool
  | .go r => r.access != AC.RWS
  | _ => false
theorem goes_of {v : Verdict} (h : goes v = true) : ∃ r, v = .go r ∧ r.access ≠ AC.RWS := by
  cases v with
  | go r => exact ⟨r, rfl, by simpa [goes] using h⟩
  | _ => cases h
set_option maxRecDepth 20000 in
theorem witness_MaskedWritesApply :
    (∀ p ∈ [(RBay.WAKE_MASK, 3), (RBay.FAIL_MASK, 3), (RBay.USER_FLAGS, 4), (RBay.TRIG_SOURCE, 2), (RBay.TABLE_INDEX, 3)],
      goes ((st1.heard 3).rwsVerdict via1 ⟨BitVec.ofNat 16 (0x3000 + p.1 / 256 + 0 * 0x100), BitVec.ofNat 8 (p.1 % 256)⟩ (some p.2) (fieldOf 0 (16 * 0) 16)
        (toBytes ((typeLen p.2).getD 0) 7)) = true) ∧
    (∀ p ∈ [(RChan.OFF_MODE, 2, 1), (RChan.MEAS_COUNT, 3, 4096), (RChan.MEAS_DELAY, 4, 1000000), (RChan.DRV_MIN_PULSE, 3, 400)],
      goes ((st1.heard 3).rwsVerdict via1 ⟨BitVec.ofNat 16 (0x4000 + p.1 / 256 + 15 * 0x40), BitVec.ofNat 8 (p.1 % 256)⟩ (some p.2.1) (fieldOf 0 (16 * 0) 16)
        (toBytes ((typeLen p.2.1).getD 0) p.2.2)) = true) ∧
    (typeLen 3 = some 2 ∧ typeLen 4 = some 4 ∧ typeLen 2 = some 1) := by decide +kernel

end Sys2Proof.Tests
end

section
/-! SUPPORT. What any one command keeps: the laws of the single meanings, put together over the commands. -/

namespace Sys2Proof.Machine

/-- The mask of a list of parts: the bits of its members. -/
def maskOf (l : List Part) : Nat := l.foldr (fun p m => 2 ^ p.idx ||| m) 0

/-- Each command keeps all but the parts that `touched` lists for it: its meaning's own law, at the mask of that list.
Where a meaning ignores an operand, its law names that operand and cannot infer it. -/
theorem exec_kept (c : Instr) (s : State) : KeptN (maskOf (touched c)) s (exec c s) := by
  cases c with dsimp only [touched]
  | sessionOpen => exact execSessionOpen_kept (by decide) (Kept.refl s)
  | sessionClose => exact execSessionClose_kept (by decide) (Kept.refl s)
  | sessionIdleTimeout => exact execSessionIdleTimeout_kept (by decide) (Kept.refl s)
  | hello => exact execHello_kept (by decide) (Kept.refl s)
  | read => exact execRead_kept (by decide) (Kept.refl s)
  | write => exact execWrite_kept (by decide) (Kept.refl s)
  | maskedWrite => exact execMaskedWrite_kept (by decide) (Kept.refl s)
  | blockRead => exact execBlockRead_kept (by decide) (Kept.refl s)
  | blockWrite => exact execBlockWrite_kept (by decide) (Kept.refl s)
  | blockWriteAbandon => exact execBlockWriteAbandon_kept (by decide) (Kept.refl s)
  | stage => exact execStage_kept (by decide) (Kept.refl s)
  | stageDiscard => exact execStageDiscard_kept (by decide) (Kept.refl s)
  | commit => exact execCommit_kept (by decide) (Kept.refl s)
  | commitApply => exact execCommitApply_kept (by decide) (Kept.refl s)
  | commitWindowExpiry => exact execCommitWindowExpiry_kept (by decide) (Kept.refl s)
  | eventSend => exact execEventSend_kept (by decide) (Kept.refl s)
  | eventHoldExpiry => exact execEventHoldExpiry_kept (by decide) (Kept.refl s)
  | dataSubscribe => exact execDataSubscribe_kept (by decide) (Kept.refl s)
  | dataAck => exact execDataAck_kept (by decide) (Kept.refl s)
  | dataEventResend => exact execDataEventResend_kept (by decide) (Kept.refl s)
  | mgmtRead => exact execMgmtRead_kept (by decide) (Kept.refl s)
  | mgmtWrite => exact execMgmtWrite_kept (by decide) (Kept.refl s)
  | mgmtStatus => exact execMgmtStatus_kept (by decide) (Kept.refl s)
  | registerWrite => exact execRegisterWrite_kept (by decide) (Kept.refl s)
  | stateRequestOff => exact execStateRequestOff_kept (by decide) (Kept.refl s)
  | stateRequestSafe => exact execStateRequestSafe_kept (by decide) (Kept.refl s)
  | stateRequestIdle => exact execStateRequestIdle_kept (by decide) (Kept.refl s)
  | stateRequestMaint => exact execStateRequestMaint_kept (by decide) (Kept.refl s)
  | stateRequestPause => exact execStateRequestPause_kept (by decide) (Kept.refl s)
  | stateRequestRun => exact execStateRequestRun_kept (by decide) (Kept.refl s)
  | stateRequestArm => exact execStateRequestArm_kept (by decide) (Kept.refl s)
  | stateRequestDisarm => exact execStateRequestDisarm_kept (by decide) (Kept.refl s)
  | stateRequestStop => exact execStateRequestStop_kept (by decide) (Kept.refl s)
  | armFillComplete => exact execArmFillComplete_kept (by decide) (Kept.refl s)
  | laneFedArmReady => exact execLaneFedArmReady_kept (by decide) (Kept.refl s)
  | hostStart => exact execHostStart_kept (by decide) (Kept.refl s)
  | patternEnd => exact execPatternEnd_kept (by decide) (Kept.refl s)
  | bclkChange => exact execBclkChange_kept (by decide) (Kept.refl s)
  | pllRelock => exact execPllRelock_kept (by decide) (Kept.refl s)
  | clockUnlock => exact execClockUnlock_kept (by decide) (Kept.refl s)
  | quadRetire => exact execQuadRetire_kept (by decide) (Kept.refl s)
  | resourceClaim => exact execResourceClaim_kept (by decide) (Kept.refl s)
  | resourceRelease => exact execResourceRelease_kept (by decide) (Kept.refl s)
  | shingleEntryWrite => exact execShingleEntryWrite_kept (by decide) (Kept.refl s)
  | tableBlockWrite => exact execTableBlockWrite_kept (by decide) (Kept.refl s)
  | tsetWrite => exact execTsetWrite_kept (by decide) (Kept.refl s)
  | jumpRequest => exact execJumpRequest_kept (by decide) (Kept.refl s)
  | condJump => exact execCondJump_kept (by decide) (Kept.refl s)
  | granuleBoundary => exact execGranuleBoundary_kept (by decide) (Kept.refl s)
  | decisionBoundary => exact execDecisionBoundary_kept (by decide) (Kept.refl s)
  | shingleBoundary => exact execShingleBoundary_kept (by decide) (Kept.refl s)
  | loftFill => exact execLoftFill_kept (by decide) (Kept.refl s)
  | underrunEnd => exact execUnderrunEnd_kept (by decide) (Kept.refl s)
  | underrunLogClear => exact execUnderrunLogClear_kept (by decide) (Kept.refl s)
  | seqJump => exact execSeqJump_kept (by decide) (Kept.refl s)
  | seqIf => exact execSeqIf_kept (by decide) (Kept.refl s)
  | seqIfnot => exact execSeqIfnot_kept (by decide) (Kept.refl s)
  | seqCall => exact execSeqCall_kept (by decide) (Kept.refl s)
  | seqCallIf => exact execSeqCallIf_kept (by decide) (Kept.refl s)
  | seqReturn => exact execSeqReturn_kept (by decide) (Kept.refl s)
  | seqExit => exact execSeqExit_kept (by decide) (Kept.refl s)
  | seqDispatch => exact execSeqDispatch_kept (by decide) (Kept.refl s)
  | waitRelease => exact execWaitRelease_kept (by decide) (Kept.refl s)
  | waitTimeout => exact execWaitTimeout_kept (by decide) (Kept.refl s)
  | vecEmit => exact execVecEmit_kept (by decide) (Kept.refl s)
  | vecPad => exact execVecPad_kept (by decide) (Kept.refl s)
  | vecHold => exact execVecHold_kept (by decide) (Kept.refl s)
  | vecMute => exact execVecMute_kept (by decide) (Kept.refl s)
  | prdSel => exact execPrdSel_kept (by decide) (Kept.refl s)
  | lvlSel => exact execLvlSel_kept (by decide) (Kept.refl s)
  | matchEnable => exact execMatchEnable_kept (by decide) (Kept.refl s)
  | shgJumpReq => exact execShgJumpReq_kept (by decide) (Kept.refl s)
  | shgPause => exact execShgPause_kept (by decide) (Kept.refl s)
  | shgStop => exact execShgStop_kept (by decide) (Kept.refl s)
  | shgRewind => exact execShgRewind_kept (by decide) (Kept.refl s)
  | cntDec => exact execCntDec_kept (by decide) (Kept.refl s)
  | cntInc => exact execCntInc_kept (by decide) (Kept.refl s)
  | cntDecVec => exact execCntDecVec_kept (by decide) (Kept.refl s)
  | cntIncVec => exact execCntIncVec_kept (by decide) (Kept.refl s)
  | cntLoad => exact execCntLoad_kept (by decide) (Kept.refl s)
  | cntLoadParam => exact execCntLoadParam_kept (by decide) (Kept.refl s)
  | cntReload => exact execCntReload_kept (by decide) (Kept.refl s)
  | cntClear => exact execCntClear_kept (by decide) (Kept.refl s)
  | captureOn => exact execCaptureOn_kept (by decide) (Kept.refl s)
  | captureOff => exact execCaptureOff_kept (by decide) (Kept.refl s)
  | capMark => exact execCapMark_kept (by decide) (Kept.refl s)
  | retire => exact execRetire_kept (by decide) (Kept.refl s)
  | retireFailed => exact execRetireFailed_kept (by decide) (Kept.refl s)
  | objWrite => exact execObjWrite_kept (by decide) (Kept.refl s)
  | raise => exact execRaise_kept (by decide) (Kept.refl s)
  | loadNow => exact execLoadNow_kept (by decide) (Kept.refl s)
  | loadTimer => exact execLoadTimer_kept (by decide) (Kept.refl s)
  | blankStart => exact execBlankStart_kept (by decide) (Kept.refl s)
  | blankEnd => exact execBlankEnd_kept (by decide) (Kept.refl s)
  | tmuMwArm => exact execTmuMwArm_kept (by decide) (Kept.refl s)
  | tmuMwDisarm => exact execTmuMwDisarm_kept (by decide) (Kept.refl s)
  | ridgeAssert => exact execRidgeAssert_kept (by decide) (Kept.refl s)
  | ridgeRelease => exact execRidgeRelease_kept (by decide) (Kept.refl s)
  | ridgePulse => exact execRidgePulse_kept (by decide) (Kept.refl s)
  | sphPermit => exact execSphPermit_kept (by decide) (Kept.refl s)
  | sphInhibit => exact execSphInhibit_kept (by decide) (Kept.refl s)
  | customWatchdog => exact execCustomWatchdog_kept (by decide) (Kept.refl s)
  | bankImage => exact execBankImage_kept (by decide) (Kept.refl s)
  | bankLoadComplete => exact execBankLoadComplete_kept (by decide) (Kept.refl s)
  | customEntryWrite => exact execCustomEntryWrite_kept (by decide) (Kept.refl s)
  | vendorReload => exact execVendorReload_kept (by decide) (Kept.refl s)
  | strobeLatch => exact execStrobeLatch_kept (by decide) (Kept.refl s)
  | driveEdge => exact execDriveEdge_kept (by decide) (Kept.refl s)
  | ridgeEvent => exact execRidgeEvent_kept (by decide) (Kept.refl s)
  | purlinEvent => exact execPurlinEvent_kept (by decide) (Kept.refl s)
  | trigEdge _ rising => exact execTrigEdge_kept (x__rising := rising) (by decide) (Kept.refl s)
  | lvlSelect => exact execLvlSelect_kept (by decide) (Kept.refl s)
  | loadRequest => exact execLoadRequest_kept (by decide) (Kept.refl s)
  | levelSetWrite => exact execLevelSetWrite_kept (by decide) (Kept.refl s)
  | guardThresholdWrite => exact execGuardThresholdWrite_kept (by decide) (Kept.refl s)
  | clearCodeWrite => exact execClearCodeWrite_kept (by decide) (Kept.refl s)
  | clearAssert => exact execClearAssert_kept (by decide) (Kept.refl s)
  | clearRelease => exact execClearRelease_kept (by decide) (Kept.refl s)
  | guardTrip => exact execGuardTrip_kept (by decide) (Kept.refl s)
  | guardTripReport => exact execGuardTripReport_kept (by decide) (Kept.refl s)
  | guardUntrip => exact execGuardUntrip_kept (by decide) (Kept.refl s)
  | guardResolve => exact execGuardResolve_kept (by decide) (Kept.refl s)
  | tripClear => exact execTripClear_kept (by decide) (Kept.refl s)
  | blankExpiry => exact execBlankExpiry_kept (by decide) (Kept.refl s)
  | loadTimerExpiry => exact execLoadTimerExpiry_kept (by decide) (Kept.refl s)
  | controlLinkLost => exact execControlLinkLost_kept (by decide) (Kept.refl s)
  | converterSlot => exact execConverterSlot_kept (by decide) (Kept.refl s)
  | pmuModeWrite => exact execPmuModeWrite_kept (by decide) (Kept.refl s)
  | measStart => exact execMeasStart_kept (by decide) (Kept.refl s)
  | measDone => exact execMeasDone_kept (by decide) (Kept.refl s)
  | frameClose => exact execFrameClose_kept (by decide) (Kept.refl s)
  | consumedFrameWrite => exact execConsumedFrameWrite_kept (by decide) (Kept.refl s)
  | triggerArmed => exact execTriggerArmed_kept (by decide) (Kept.refl s)
  | triggerRecognised => exact execTriggerRecognised_kept (by decide) (Kept.refl s)
  | channelEdge => exact execChannelEdge_kept (by decide) (Kept.refl s)
  | trigForce => exact execTrigForce_kept (by decide) (Kept.refl s)
  | trigRearm => exact execTrigRearm_kept (by decide) (Kept.refl s)
  | windowDone => exact execWindowDone_kept (by decide) (Kept.refl s)
  | tmuArmRequest => exact execTmuArmRequest_kept (by decide) (Kept.refl s)
  | tmuDisarmRequest => exact execTmuDisarmRequest_kept (by decide) (Kept.refl s)
  | tmuCalibrationDone => exact execTmuCalibrationDone_kept (by decide) (Kept.refl s)
  | tmuHit => exact execTmuHit_kept (by decide) (Kept.refl s)
  | tmuGateExpiry => exact execTmuGateExpiry_kept (by decide) (Kept.refl s)
  | tmuTimeout => exact execTmuTimeout_kept (by decide) (Kept.refl s)
  | tmuRepeat => exact execTmuRepeat_kept (by decide) (Kept.refl s)
  | tmuRefLost => exact execTmuRefLost_kept (by decide) (Kept.refl s)
  | resultRead => exact execResultRead_kept (by decide) (Kept.refl s)
  | resultBlockRead => exact execResultBlockRead_kept (by decide) (Kept.refl s)
  | fifoClear => exact execFifoClear_kept (by decide) (Kept.refl s)
  | tokenArrival => exact execTokenArrival_kept (by decide) (Kept.refl s)
  | bindingPost => exact execBindingPost_kept (by decide) (Kept.refl s)
  | post => exact execPost_kept (by decide) (Kept.refl s)
  | hostPostTimeout => exact execHostPostTimeout_kept (by decide) (Kept.refl s)
  | workDispatch => exact execWorkDispatch_kept (by decide) (Kept.refl s)
  | workComplete => exact execWorkComplete_kept (by decide) (Kept.refl s)
  | workLimit => exact execWorkLimit_kept (by decide) (Kept.refl s)
  | coreFault => exact execCoreFault_kept (by decide) (Kept.refl s)
  | delayEntryExpiry => exact execDelayEntryExpiry_kept (by decide) (Kept.refl s)
  | storeDeadlock => exact execStoreDeadlock_kept (by decide) (Kept.refl s)
  | internalObjectRequest => exact execInternalObjectRequest_kept (by decide) (Kept.refl s)
  | graphDrainComplete => exact execGraphDrainComplete_kept (by decide) (Kept.refl s)
  | startRequest => exact execStartRequest_kept (by decide) (Kept.refl s)
  | stopRequest => exact execStopRequest_kept (by decide) (Kept.refl s)
  | benchDrain => exact execBenchDrain_kept (by decide) (Kept.refl s)
  | benchDrained => exact execBenchDrained_kept (by decide) (Kept.refl s)
  | benchLoad => exact execBenchLoad_kept (by decide) (Kept.refl s)
  | benchLoadComplete => exact execBenchLoadComplete_kept (by decide) (Kept.refl s)
  | benchResume => exact execBenchResume_kept (by decide) (Kept.refl s)
  | peakClear => exact execPeakClear_kept (by decide) (Kept.refl s)
  | memRead => exact execMemRead_kept (by decide) (Kept.refl s)
  | memWrite => exact execMemWrite_kept (by decide) (Kept.refl s)
  | refresh => exact execRefresh_kept (by decide) (Kept.refl s)
  | tempReading => exact execTempReading_kept (by decide) (Kept.refl s)
  | recoveryStep => exact execRecoveryStep_kept (by decide) (Kept.refl s)
  | scrubStep _ _ overtaken => exact execScrubStep_kept (x__overtaken := overtaken) (by decide) (Kept.refl s)
  | hbmRetrainRequest => exact execHbmRetrainRequest_kept (by decide) (Kept.refl s)
  | hbmRetrainComplete => exact execHbmRetrainComplete_kept (by decide) (Kept.refl s)
  | chanStart => exact execChanStart_kept (by decide) (Kept.refl s)
  | chanRetry => exact execChanRetry_kept (by decide) (Kept.refl s)
  | chanSkip => exact execChanSkip_kept (by decide) (Kept.refl s)
  | chanAbort => exact execChanAbort_kept (by decide) (Kept.refl s)
  | dmaPauseWrite => exact execDmaPauseWrite_kept (by decide) (Kept.refl s)
  | dmaPaused => exact execDmaPaused_kept (by decide) (Kept.refl s)
  | descFetch => exact execDescFetch_kept (by decide) (Kept.refl s)
  | dmaAccessResponse => exact execDmaAccessResponse_kept (by decide) (Kept.refl s)
  | descComplete => exact execDescComplete_kept (by decide) (Kept.refl s)
  | progMove => exact execProgMove_kept (by decide) (Kept.refl s)
  | progSet => exact execProgSet_kept (by decide) (Kept.refl s)
  | progLoop => exact execProgLoop_kept (by decide) (Kept.refl s)
  | progJump => exact execProgJump_kept (by decide) (Kept.refl s)
  | progWaitEvent => exact execProgWaitEvent_kept (by decide) (Kept.refl s)
  | progWaitWord => exact execProgWaitWord_kept (by decide) (Kept.refl s)
  | progWaitPoll => exact execProgWaitPoll_kept (by decide) (Kept.refl s)
  | progWaitRelease => exact execProgWaitRelease_kept (by decide) (Kept.refl s)
  | progWaitTimeout => exact execProgWaitTimeout_kept (by decide) (Kept.refl s)
  | progWrite => exact execProgWrite_kept (by decide) (Kept.refl s)
  | progSignal => exact execProgSignal_kept (by decide) (Kept.refl s)
  | progEnd => exact execProgEnd_kept (by decide) (Kept.refl s)
  | portStall => exact execPortStall_kept (by decide) (Kept.refl s)
  | noresp => exact execNoresp_kept (by decide) (Kept.refl s)
  | laneEnable => exact execLaneEnable_kept (by decide) (Kept.refl s)
  | receiverDetect => exact execReceiverDetect_kept (by decide) (Kept.refl s)
  | gatherWindowEnd => exact execGatherWindowEnd_kept (by decide) (Kept.refl s)
  | trainComplete => exact execTrainComplete_kept (by decide) (Kept.refl s)
  | bitLock => exact execBitLock_kept (by decide) (Kept.refl s)
  | blockLock => exact execBlockLock_kept (by decide) (Kept.refl s)
  | capsExchange => exact execCapsExchange_kept (by decide) (Kept.refl s)
  | capsSend => exact execCapsSend_kept (by decide) (Kept.refl s)
  | laneStepTimeout => exact execLaneStepTimeout_kept (by decide) (Kept.refl s)
  | autoRetrain => exact execAutoRetrain_kept (by decide) (Kept.refl s)
  | headerWindow => exact execHeaderWindow_kept (by decide) (Kept.refl s)
  | fomUpdate => exact execFomUpdate_kept (by decide) (Kept.refl s)
  | adaptFreeze => exact execAdaptFreeze_kept (by decide) (Kept.refl s)
  | adaptResume => exact execAdaptResume_kept (by decide) (Kept.refl s)
  | fomLow => exact execFomLow_kept (by decide) (Kept.refl s)
  | laneRetrainRequest => exact execLaneRetrainRequest_kept (by decide) (Kept.refl s)
  | linkForm => exact execLinkForm_kept (by decide) (Kept.refl s)
  | linkCtrlUp => exact execLinkCtrlUp_kept (by decide) (Kept.refl s)
  | linkCtrlDown => exact execLinkCtrlDown_kept (by decide) (Kept.refl s)
  | marker => exact execMarker_kept (by decide) (Kept.refl s)
  | frameSend => exact execFrameSend_kept (by decide) (Kept.refl s)
  | frameReceive => exact execFrameReceive_kept (by decide) (Kept.refl s)
  | ack => exact execAck_kept (by decide) (Kept.refl s)
  | nak _ seq => exact execNak_kept (x__seq := seq) (by decide) (Kept.refl s)
  | credit => exact execCredit_kept (by decide) (Kept.refl s)
  | laneDrop => exact execLaneDrop_kept (by decide) (Kept.refl s)
  | laneAdd => exact execLaneAdd_kept (by decide) (Kept.refl s)
  | rateNotice => exact execRateNotice_kept (by decide) (Kept.refl s)
  | replayTimeout => exact execReplayTimeout_kept (by decide) (Kept.refl s)
  | creditGrant => exact execCreditGrant_kept (by decide) (Kept.refl s)
  | streamOpen => exact execStreamOpen_kept (by decide) (Kept.refl s)
  | streamReset => exact execStreamReset_kept (by decide) (Kept.refl s)
  | ringConsumedWrite => exact execRingConsumedWrite_kept (by decide) (Kept.refl s)
  | portModeWrite => exact execPortModeWrite_kept (by decide) (Kept.refl s)
  | ethFrameRx => exact execEthFrameRx_kept (by decide) (Kept.refl s)
  | portLinkDown => exact execPortLinkDown_kept (by decide) (Kept.refl s)
  | ptpEventTx => exact execPtpEventTx_kept (by decide) (Kept.refl s)
  | tsqEntryRead => exact execTsqEntryRead_kept (by decide) (Kept.refl s)
  | syncLoss => exact execSyncLoss_kept (by decide) (Kept.refl s)
  | rateSet => exact execRateSet_kept (by decide) (Kept.refl s)
  | offsetAdjust => exact execOffsetAdjust_kept (by decide) (Kept.refl s)
  | timeSet => exact execTimeSet_kept (by decide) (Kept.refl s)
  | timeCopyRefresh => exact execTimeCopyRefresh_kept (by decide) (Kept.refl s)
  | tpgEnable => exact execTpgEnable_kept (by decide) (Kept.refl s)
  | tpgFire => exact execTpgFire_kept (by decide) (Kept.refl s)
  | tpgPulseEnd => exact execTpgPulseEnd_kept (by decide) (Kept.refl s)
  | selfTestRequest => exact execSelfTestRequest_kept (by decide) (Kept.refl s)
  | selfTestComplete => exact execSelfTestComplete_kept (by decide) (Kept.refl s)
  | entropyFail => exact execEntropyFail_kept (by decide) (Kept.refl s)
  | zeroize => exact execZeroize_kept (by decide) (Kept.refl s)
  | zeroizeN => exact execZeroizeN_kept (by decide) (Kept.refl s)
  | groupKeyImport => exact execGroupKeyImport_kept (by decide) (Kept.refl s)
  | codeKeyWrite => exact execCodeKeyWrite_kept (by decide) (Kept.refl s)
  | roleAnchorWrite => exact execRoleAnchorWrite_kept (by decide) (Kept.refl s)
  | fwImage => exact execFwImage_kept (by decide) (Kept.refl s)
  | fwActiveSlotWrite => exact execFwActiveSlotWrite_kept (by decide) (Kept.refl s)
  | fwAccept => exact execFwAccept_kept (by decide) (Kept.refl s)
  | tmRestartRequest => exact execTmRestartRequest_kept (by decide) (Kept.refl s)
  | debugUnlock => exact execDebugUnlock_kept (by decide) (Kept.refl s)
  | slotZeroize => exact execSlotZeroize_kept (by decide) (Kept.refl s)
  | pkgImage => exact execPkgImage_kept (by decide) (Kept.refl s)
  | pkgStart => exact execPkgStart_kept (by decide) (Kept.refl s)
  | pkgLoadComplete => exact execPkgLoadComplete_kept (by decide) (Kept.refl s)
  | signRequest => exact execSignRequest_kept (by decide) (Kept.refl s)
  | reserveRetry => exact execReserveRetry_kept (by decide) (Kept.refl s)
  | rollStep => exact execRollStep_kept (by decide) (Kept.refl s)
  | handover => exact execHandover_kept (by decide) (Kept.refl s)
  | pathCalibrated => exact execPathCalibrated_kept (by decide) (Kept.refl s)
  | handoverTimeout => exact execHandoverTimeout_kept (by decide) (Kept.refl s)
  | rollPause => exact execRollPause_kept (by decide) (Kept.refl s)
  | rollEnable => exact execRollEnable_kept (by decide) (Kept.refl s)
  | manualTarget => exact execManualTarget_kept (by decide) (Kept.refl s)
  | bayAssayRequest => exact execBayAssayRequest_kept (by decide) (Kept.refl s)
  | bayAssayComplete => exact execBayAssayComplete_kept (by decide) (Kept.refl s)
  | tmuAssay => exact execTmuAssay_kept (by decide) (Kept.refl s)
  | purlinAssay => exact execPurlinAssay_kept (by decide) (Kept.refl s)
  | assayWindow => exact execAssayWindow_kept (by decide) (Kept.refl s)
  | ledgerCommit => exact execLedgerCommit_kept (by decide) (Kept.refl s)
  | ledgerIntervalExpiry => exact execLedgerIntervalExpiry_kept (by decide) (Kept.refl s)
  | ledgerRetry => exact execLedgerRetry_kept (by decide) (Kept.refl s)
  | faultMessage => exact execFaultMessage_kept (by decide) (Kept.refl s)
  | faultOverflow => exact execFaultOverflow_kept (by decide) (Kept.refl s)
  | graceExpired => exact execGraceExpired_kept (by decide) (Kept.refl s)
  | stepConfirm => exact execStepConfirm_kept (by decide) (Kept.refl s)
  | stepUnconfirmed => exact execStepUnconfirmed_kept (by decide) (Kept.refl s)
  | faultHandle => exact execFaultHandle_kept (by decide) (Kept.refl s)
  | policyWrite => exact execPolicyWrite_kept (by decide) (Kept.refl s)
  | injectGo => exact execInjectGo_kept (by decide) (Kept.refl s)
  | faultLogNext => exact execFaultLogNext_kept (by decide) (Kept.refl s)
  | faultLogRecord => exact execFaultLogRecord_kept (by decide) (Kept.refl s)
  | keeperTimeRefresh => exact execKeeperTimeRefresh_kept (by decide) (Kept.refl s)
  | archiveRetry => exact execArchiveRetry_kept (by decide) (Kept.refl s)
  | eventLogNext => exact execEventLogNext_kept (by decide) (Kept.refl s)
  | aliveToggle => exact execAliveToggle_kept (by decide) (Kept.refl s)
  | watchdogWrite => exact execWatchdogWrite_kept (by decide) (Kept.refl s)
  | watchdogExpiry => exact execWatchdogExpiry_kept (by decide) (Kept.refl s)
  | heartbeatLoss => exact execHeartbeatLoss_kept (by decide) (Kept.refl s)
  | temperatureAlarm => exact execTemperatureAlarm_kept (by decide) (Kept.refl s)
  | keeperClock => exact execKeeperClock_kept (by decide) (Kept.refl s)
  | safeHoldRequest => exact execSafeHoldRequest_kept (by decide) (Kept.refl s)
  | safeHoldExitResume => exact execSafeHoldExitResume_kept (by decide) (Kept.refl s)
  | safeHoldExitRestart => exact execSafeHoldExitRestart_kept (by decide) (Kept.refl s)
  | resetStepRestart => exact execResetStepRestart_kept (by decide) (Kept.refl s)
  | supplyValid => exact execSupplyValid_kept (by decide) (Kept.refl s)
  | supplyTimeout => exact execSupplyTimeout_kept (by decide) (Kept.refl s)
  | supplyFault => exact execSupplyFault_kept (by decide) (Kept.refl s)
  | vauxLoss => exact execVauxLoss_kept (by decide) (Kept.refl s)
  | vauxReturn => exact execVauxReturn_kept (by decide) (Kept.refl s)
  | holdupDepleted => exact execHoldupDepleted_kept (by decide) (Kept.refl s)
  | porstN => exact execPorstN_kept (by decide) (Kept.refl s)
  | sysRstN => exact execSysRstN_kept (by decide) (Kept.refl s)
  | startStageComplete => exact execStartStageComplete_kept (by decide) (Kept.refl s)
  | refInDetect => exact execRefInDetect_kept (by decide) (Kept.refl s)
  | startTimeout => exact execStartTimeout_kept (by decide) (Kept.refl s)
  | holdupCheckRequest => exact execHoldupCheckRequest_kept (by decide) (Kept.refl s)
  | holdupIntervalExpiry => exact execHoldupIntervalExpiry_kept (by decide) (Kept.refl s)
  | holdupCheckComplete => exact execHoldupCheckComplete_kept (by decide) (Kept.refl s)
  | holdupRecheck => exact execHoldupRecheck_kept (by decide) (Kept.refl s)
  | switchoverRequest => exact execSwitchoverRequest_kept (by decide) (Kept.refl s)
  | standbyLoaded => exact execStandbyLoaded_kept (by decide) (Kept.refl s)
  | controlCoreFault => exact execControlCoreFault_kept (by decide) (Kept.refl s)
  | switchoverTakeover => exact execSwitchoverTakeover_kept (by decide) (Kept.refl s)
  | standbyRestart => exact execStandbyRestart_kept (by decide) (Kept.refl s)
  | jtagInstruction => exact execJtagInstruction_kept (by decide) (Kept.refl s)
  | partnerTraining => exact execPartnerTraining_kept (by decide) (Kept.refl s)
  | portLinkUp => exact execPortLinkUp_kept (by decide) (Kept.refl s)
  | refInFault => exact execRefInFault_kept (by decide) (Kept.refl s)
  | tclkRelock => exact execTclkRelock_kept (by decide) (Kept.refl s)
  | refWarmChange => exact execRefWarmChange_kept (by decide) (Kept.refl s)
  | scopeSample => exact execScopeSample_kept (by decide) (Kept.refl s)
  | pmuRangeWrite => exact execPmuRangeWrite_kept (by decide) (Kept.refl s)
  | tmuAssayComplete => exact execTmuAssayComplete_kept (by decide) (Kept.refl s)
  | purlinAssayComplete => exact execPurlinAssayComplete_kept (by decide) (Kept.refl s)
  | fwProgramComplete => exact execFwProgramComplete_kept (by decide) (Kept.refl s)

/-- Settles O48: the clauses on the queue, the clock and the count of free values of what every command keeps. -/
theorem queueAndClock : Obligations.QueueAndClock := by
  intro c s t ht
  have h := (exec_kept c s).out ht
  exact ⟨h.pending, h.now, h.fresh⟩

end Sys2Proof.Machine
end

section
/-! SUPPORT. The frame of every command (O49): the mask of a list of parts has the bits of its members and no others. -/

namespace Sys2Proof.Machine

/-- A part stands in the list of all parts at the bit it has in a mask. -/
theorem Part.all_getElem_idx (p : Part) : Part.all[p.idx]? = some p := by cases p <;> rfl

theorem Part.idx_injective : Function.Injective Part.idx := fun p q h =>
  Option.some.inj (by rw [← Part.all_getElem_idx p, h, Part.all_getElem_idx q])

theorem mem_of_testBit_maskOf {p : Part} {l : List Part} (h : (maskOf l).testBit p.idx = true) : p ∈ l := by
  induction l with
  | nil => simp [maskOf] at h
  | cons q l ih =>
    have hbit : (2 ^ q.idx).testBit p.idx = true ∨ (maskOf l).testBit p.idx = true := by
      rw [← Bool.or_eq_true, ← Nat.testBit_or]; exact h
    cases hbit with
    | inl hq =>
      rw [Nat.testBit_two_pow, decide_eq_true_eq] at hq
      rw [Part.idx_injective hq]
      exact List.mem_cons_self
    | inr hl => exact List.mem_cons_of_mem q (ih hl)

/-- What keeps at the mask of a list changes only the parts of that list. -/
theorem Kept.onlyParts {l : List Part} {s t : State} (h : Kept (maskOf l) s t) : OnlyParts s t l :=
  h.only fun _ => mem_of_testBit_maskOf

/-- Settles O49: every command keeps at the mask of its list, and memory is one of the parts. -/
theorem commandsTouchTheirParts : Obligations.CommandsTouchTheirParts := by
  have frame : ∀ c s, Always c s (fun t => OnlyParts s t (touched c)) := fun c s t ht => ((exec_kept c s).out ht).onlyParts
  refine ⟨frame, fun c s hmem t ht a => ?_⟩
  have same : t.mem = s.mem := frame c s t ht .memory hmem
  rw [same]

end Sys2Proof.Machine
end

section
/-! SUPPORT. A bay's clocks and its timing sets (O13): the gate that needs a control core, what BCLK_CHANGE, CLOCK_UNLOCK and
PLL_RELOCK leave of the clocks, and what TSET_WRITE stores or refuses. -/

namespace Sys2Proof.Machine

/-! ### The gate that needs a control core (R22, R454) -/

theorem State.hostBayFirm_up {s : State} {b : Bay} {e : BitVec 16} (h : Ready s b e) (hc : s.coreOut = false) (k : State → State) :
    s.hostBayFirm b e k = k s := by
  unfold State.hostBayFirm
  rw [State.hostBay_ready h, hc]
  rfl

theorem State.hostBayFirm_out {s : State} {b : Bay} {e : BitVec 16} (h : Ready s b e) (hc : s.coreOut = true) (k : State → State) :
    s.hostBayFirm b e k = s.answer ST.STATE_LOCKED := by
  unfold State.hostBayFirm
  rw [State.hostBay_ready h, hc]
  rfl

theorem exec_bclkChange_up {s : State} {b : Bay} {e : BitVec 16} (h : Ready s b e) (hc : s.coreOut = false) (mhz : Nat) :
    exec (.bclkChange b e mhz) s = .next (s.changeBclk b mhz) :=
  congrArg Host.Outcome.next (State.hostBayFirm_up h hc _)

theorem exec_bclkChange_out {s : State} {b : Bay} {e : BitVec 16} (h : Ready s b e) (hc : s.coreOut = true) (mhz : Nat) :
    exec (.bclkChange b e mhz) s = .next (s.answer ST.STATE_LOCKED) :=
  congrArg Host.Outcome.next (State.hostBayFirm_out h hc _)

theorem exec_tsetWrite_up {s : State} {b : Bay} {e : BitVec 16} (h : Ready s b e) (hc : s.coreOut = false) (block : Bool) (d : Bytes) :
    exec (.tsetWrite b e block d) s = .next (s.tsetWrite b block d) :=
  congrArg Host.Outcome.next (State.hostBayFirm_up h hc _)

theorem exec_tsetWrite_out {s : State} {b : Bay} {e : BitVec 16} (h : Ready s b e) (hc : s.coreOut = true) (block : Bool) (d : Bytes) :
    exec (.tsetWrite b e block d) s = .next (s.answer ST.STATE_LOCKED) :=
  congrArg Host.Outcome.next (State.hostBayFirm_out h hc _)

/-- A command that only answers. -/
theorem Gives.onlyAnswer {c : Instr} {s : State} {st : Nat} (h : exec c s = .next (s.answer st)) :
    Gives c s (fun t => t.reply = { status := st } ∧ OnlyAnswer s t) :=
  ⟨_, h, rfl, rfl⟩

/-! ### An arming that loses its clock (R13, R35) -/

theorem State.armLost_of_not_arming {s : State} {b : Bay} (h : s.bst b = BS.IDLE → (s.bay b).arming = 0) : s.armLost b = s :=
  if_neg fun ⟨hidle, harm⟩ => harm (h hidle)

theorem State.armLost_of_arming {s : State} {b : Bay} (hidle : s.bst b = BS.IDLE) (harm : (s.bay b).arming ≠ 0) :
    s.armLost b = ((s.endArming b).setB b RBay.ARM_STATUS AS.CLOCK).event (evBay b 13) AS.CLOCK :=
  if_pos ⟨hidle, harm⟩

theorem State.endArming_lockMask (s : State) (b : Bay) : (s.endArming b).getO R.LOCK_MASK = s.getO R.LOCK_MASK :=
  (State.dropShares_hld (State.clearRun_hld (Hld.refl s))).get _ (by unfold holdObj; decide)

theorem State.armLost_lockMask (s : State) (b : Bay) : (s.armLost b).getO R.LOCK_MASK = s.getO R.LOCK_MASK := by
  unfold State.armLost
  split
  · rw [State.getO_event _ _ (evBay_lt (by decide)) (by decide)]
    exact (State.getO_setO_ne _ (lm_keyB b _) _).trans (State.endArming_lockMask s b)
  · rfl

theorem State.endArming_arming (s : State) (b : Bay) : ((s.endArming b).bay b).arming = 0 := by
  have h : (s.endArming b).bay b = ((s.clearRun b).modBay b (fun u => { u with patShare := false, capShare := false, locks := [] })).bay b := rfl
  rw [h, State.bay_modBay_same, State.clearRun, State.bay_modBay_same]

/-! ### BCLK_CHANGE (R12, R146) -/

theorem State.changeBclk_locked {s : State} {b : Bay} (hq : s.quiet b = false) (mhz : Nat) :
    s.changeBclk b mhz = s.answer ST.STATE_LOCKED := by
  unfold State.changeBclk
  simp only [hq, Bool.not_false, if_true]

theorem State.changeBclk_outOfRange {s : State} {b : Bay} {mhz : Nat} (hq : s.quiet b = true) (hr : mhz < 500 ∨ 1000 < mhz) :
    s.changeBclk b mhz = s.answer ST.OUT_OF_RANGE := by
  unfold State.changeBclk
  simp only [hq, Bool.not_true, Bool.false_eq_true, if_false]
  exact if_pos (hr.imp_right Or.inl)

/-- The lock of a bay whose BCLK changes is cleared, and the frequency is noted for the relock. -/
theorem State.changeBclk_taken {s : State} {b : Bay} {mhz : Nat} (hq : s.quiet b = true) (hlo : 500 ≤ mhz) (hhi : mhz ≤ 1000)
    (hfit : ∀ c ∈ chansOf b, roundDiv ((s.getC c RChan.DRV_MIN_PULSE : Int) * (mhz : Int)) 1000 ≤ 16777215) :
    (s.changeBclk b mhz).reply = {} ∧ (s.changeBclk b mhz).getO R.LOCK_MASK = clrBit (s.getO R.LOCK_MASK) b.val ∧
    ((s.changeBclk b mhz).bay b).relock = some mhz := by
  have fits : (chansOf b).any (fun c => decide (16777215 < roundDiv ((s.getC c RChan.DRV_MIN_PULSE : Int) * mhz) 1000)) = false := by
    rw [List.any_eq_false]
    intro c hc hwide
    exact absurd (hfit c hc) (Int.not_le.mpr (of_decide_eq_true hwide))
  have inRange : ¬(mhz < 500 ∨ 1000 < mhz ∨ False) := by simp only [or_false]; omega
  unfold State.changeBclk
  simp only [hq, fits, Bool.not_true, Bool.false_eq_true, if_false]
  rw [if_neg inRange]
  refine ⟨rfl, ?_, ?_⟩
  · rw [State.getO_ok, State.getO_modBay, State.modRoll, State.getO_modBay, State.getO_setO_same]
  · rw [State.bay_ok, State.bay_modBay_same]

/-! ### CLOCK_UNLOCK (R13) -/

/-- What the loss of a bay's BCLK leaves, before it is reported: an arming ended, the lock and what was still to be placed
gone, and the frequency the clock relocks at. -/
def State.clockLost (s : State) (b : Bay) : State :=
  ((s.armLost b).unlock b false).modBay b (fun u => { u with relock := some u.mhz })

theorem exec_clockUnlock_of_ne_run {s : State} {b : Bay} (hd : s.bayDown b = false) (hr : s.bst b ≠ BS.RUN) :
    exec (.clockUnlock b false) s = .next (s.clockLost b) := by
  show execClockUnlock b false s = _
  unfold execClockUnlock
  simp [hd, hr, State.clockLost]

theorem exec_clockUnlock_of_run {s : State} {b : Bay} (hd : s.bayDown b = false) (hr : s.bst b = BS.RUN) :
    exec (.clockUnlock b false) s = .next ((s.clockLost b).fault (0x110 + b.val) 0x28 1) := by
  show execClockUnlock b false s = _
  unfold execClockUnlock
  simp [hd, hr, State.clockLost]

theorem State.getO_clockLost (s : State) (b : Bay) {k : Nat} (h : k ≠ R.LOCK_MASK) : (s.clockLost b).getO k = (s.armLost b).getO k := by
  unfold State.clockLost
  rw [State.getO_modBay, unlock_getO, State.getO_setO_ne _ h]

theorem State.clockLost_lockMask (s : State) (b : Bay) : (s.clockLost b).getO R.LOCK_MASK = clrBit (s.getO R.LOCK_MASK) b.val := by
  unfold State.clockLost
  rw [State.getO_modBay, unlock_getO, State.getO_setO_same, State.armLost_lockMask]

theorem State.bay_clockLost (s : State) (b : Bay) :
    (s.clockLost b).bay b = { (s.armLost b).bay b with relock := some ((s.armLost b).bay b).mhz } := by
  unfold State.clockLost
  rw [State.bay_modBay_same, unlock_bay]

theorem State.clockLost_nothing_pending (s : State) (b : Bay) :
    ∀ c ∈ chansOf b, ((s.clockLost b).chan c).edges = [] ∧ ((s.clockLost b).chan c).strobes = [] :=
  fun c hc => by
    unfold State.clockLost
    rw [State.chan_modBay]
    exact (unlock_is (s.armLost b) b).2 c hc

theorem State.clockLost_ports {s : State} {b : Bay} (h : s.armLost b = s) : (s.clockLost b).ports = s.ports := by
  unfold State.clockLost
  rw [State.modBay_ports, unlock_ports, h]

theorem State.clockLost_onlyParts {s : State} {b : Bay} (h : s.armLost b = s) : OnlyParts s (s.clockLost b) [.objects, .bays, .pins] := by
  unfold State.clockLost
  rw [h]
  exact (State.modBay_kept (by decide) (State.unlock_kept (by decide) (Kept.refl s))).onlyParts

/-- An arming that the loss of the clock ends leaves the bay in IDLE, with CLOCK in ARM_STATUS (R13, R35). -/
theorem State.clockLost_of_arming {s : State} {b : Bay} (hidle : s.bst b = BS.IDLE) (harm : (s.bay b).arming ≠ 0) :
    (s.clockLost b).bst b = BS.IDLE ∧ ((s.clockLost b).bay b).arming = 0 ∧ (s.clockLost b).getB b RBay.ARM_STATUS = AS.CLOCK := by
  refine ⟨?_, ?_, ?_⟩
  · exact (State.getO_clockLost s b (lm_keyB b _).symm).trans (Eq.trans (State.armLost_bst (q := b) (Bst.refl s)) hidle)
  · rw [State.bay_clockLost, State.armLost_of_arming hidle harm, (ReportFrame.event _ _ _).bay_eq, State.bay_setB]
    exact State.endArming_arming s b
  · refine (State.getO_clockLost s b (lm_keyB b _).symm).trans ?_
    rw [State.armLost_of_arming hidle harm, State.getO_event _ _ (evBay_lt (by decide)) (eventObj_keyB (by decide))]
    exact State.getO_setO_same _ _ _

/-! ### Reports of the timing unit of a bay (R420, R422) -/

/-- A message that a timing unit forms rests on the epoch of its bay alone (R420). -/
theorem State.faultMsg_timing_congr {s t : State} {b : Bay} (h : t.getB b RBay.SITE_EPOCH = s.getB b RBay.SITE_EPOCH) (kind a : Nat) :
    t.faultMsg (0x110 + b.val) kind a = s.faultMsg (0x110 + b.val) kind a := by
  have hb : faultBay (0x110 + b.val) = some b := by
    unfold faultBay
    rw [dif_neg (by omega), if_pos (by omega)]
    exact congrArg some (Fin.ext (by dsimp only; omega))
  unfold State.faultMsg
  simp only [hb, h]

/-- A message that is not FATAL joins the end of a port's queue that has room (R422). -/
theorem State.ports_fault {s : State} {u kind : Nat} (a : Nat) (hk : severityOf kind ≠ 3) (hroom : (s.ports.get u []).length < 16) :
    (s.fault u kind a).ports.get u [] = s.ports.get u [] ++ [s.faultMsg u kind a] :=
  send_ports s (s.faultMsg u kind a) hk hroom

/-! ### PLL_RELOCK (R12, R117, R403) -/

/-- A bay's clock locks at the frequency noted, with its time unit; the taps of its paths leave both. -/
theorem State.relocked_clock {s : State} {b : Bay} {mhz : Nat} (h : (s.bay b).relock = some mhz) :
    (s.relocked b).bay b = { s.bay b with mhz := mhz, fine := true, relock := none } ∧
    (s.relocked b).getO R.LOCK_MASK = orBit (s.getO R.LOCK_MASK) b.val ∧ (s.relocked b).getB b RBay.TIME_UNIT = 250000000 / mhz := by
  unfold State.relocked
  rw [h]
  dsimp only
  generalize hu : s.modBay b (fun u => { u with mhz := mhz, fine := true, relock := none }) = u
  obtain ⟨hbays, hlow⟩ := retap_is ((u.setO R.LOCK_MASK (orBit (u.getO R.LOCK_MASK) b.val)).setB b RBay.TIME_UNIT (250000000 / mhz)) b
  refine ⟨?_, ?_, ?_⟩
  · unfold State.bay
    rw [hbays]
    show u.bay b = _
    rw [← hu, State.bay_modBay_same]
    rfl
  · rw [hlow _ (by decide)]
    refine (State.getO_setO_ne _ (lm_keyB b _) _).trans ?_
    rw [State.getO_setO_same, ← hu, State.getO_modBay]
  · exact (hlow _ (keyB_low (by decide))).trans (State.getO_setO_same _ _ _)

/-! ### TSET_WRITE (R119, R123, R124, R473) -/

/-- Whole sets, no more than the object takes and all within the store, are written one after the other. -/
theorem State.tsetWrite_sets {s : State} {b : Bay} {block : Bool} {d : Bytes} {n : Nat} (hq : s.quiet b = true) (hd : d.length = 680 * n)
    (h1 : 1 ≤ n) (hmax : n ≤ if block then 64 else 1) (hi : s.getB b RBay.TSET_INDEX + n ≤ 1024) :
    s.tsetWrite b block d =
      s.storeSets b ((List.range n).map (fun j => (s.getB b RBay.TSET_INDEX + j, slice d (680 * j) 680))) := by
  have hn : d.length / 680 = n := by omega
  unfold State.tsetWrite
  simp only [hq, hn, Bool.not_true, Bool.false_eq_true, if_false]
  exact if_neg (by omega)

/-- Sets without an offending bit are held, and nothing else changes but the answer. -/
theorem State.tsetWrite_holds {s : State} {b : Bay} {d : Bytes} {n : Nat} (hq : s.quiet b = true) (hd : d.length = 680 * n) (h1 : 1 ≤ n)
    (hn : n ≤ 64) (hi : s.getB b RBay.TSET_INDEX + n ≤ 1024) (hok : ∀ j, j < n → setError (slice d (680 * j) 680) = none) :
    ∃ ts, s.tsetWrite b true d = ({ s with tsets := ts } : State).ok ∧
      ∀ j p, j < n → p < (setRecords (slice d (680 * j) 680)).length →
        ts.get (tsetKey b (s.getB b RBay.TSET_INDEX + j) p) 0 = BitVec.ofNat 320 ((setRecords (slice d (680 * j) 680)).getD p 0) := by
  obtain ⟨ts, hts, hheld, _⟩ := storeSets_ok b (fun j => slice d (680 * j) 680) (s.getB b RBay.TSET_INDEX) n 0 s
    (fun j _ hj => hok j (by omega))
  refine ⟨ts, ?_, fun j p hj hp => hheld j p (Nat.zero_le j) (by omega) hp⟩
  rw [State.tsetWrite_sets (block := true) hq hd h1 hn hi, List.range_eq_range', hts]

/-- A set with an offending bit is refused, and TSET_ERROR names the set, the path and the bit. -/
theorem State.tsetWrite_refused {s : State} {b : Bay} {d : Bytes} {p i : Nat} (hq : s.quiet b = true) (hd : d.length = 680)
    (hi : s.getB b RBay.TSET_INDEX < 1024) (he : setError d = some (p, i)) :
    s.tsetWrite b false d =
      (s.setB b RBay.TSET_ERROR (s.getB b RBay.TSET_INDEX + p * 2 ^ 10 + i * 2 ^ 16)).answer ST.OUT_OF_RANGE := by
  have whole : slice d (680 * 0) 680 = d := by
    unfold slice
    rw [Nat.mul_zero, List.drop_zero, ← hd, List.take_length]
  rw [State.tsetWrite_sets (n := 1) (block := false) hq hd (Nat.le_refl 1) (Nat.le_refl 1) hi]
  simp only [List.range_one, List.map_cons, List.map_nil, State.storeSets, whole, he, Nat.add_zero]

/-- Settles O13: BCLK_CHANGE and TSET_WRITE by the gate that needs a control core and what they do behind it, PLL_RELOCK by
what the taps of a bay leave, and CLOCK_UNLOCK by whether it ends an arming. -/
theorem clocksAndTimingSets : Obligations.ClocksAndTimingSets := by
  refine ⟨?bclkTaken, ?bclkRange, ?bclkLocked, ?relock, ?armingLost, ?lostOutOfRun, ?lostInRun, ?setsHeld, ?setsLocked, ?setRefused⟩
  case bclkTaken =>
    intro s b e mhz hr hc hq hlo hhi hfit
    exact ⟨_, exec_bclkChange_up hr hc mhz, State.changeBclk_taken hq hlo hhi hfit⟩
  case bclkRange =>
    intro s b e mhz hr hc hq hout
    exact Gives.onlyAnswer ((exec_bclkChange_up hr hc mhz).trans (congrArg _ (State.changeBclk_outOfRange hq hout)))
  case bclkLocked =>
    intro s b e mhz hr hq
    refine Gives.onlyAnswer ?_
    cases hc : s.coreOut with
    | true => exact exec_bclkChange_out hr hc mhz
    | false =>
      have moving : s.quiet b = false := hq.resolve_right (by simp [hc])
      exact (exec_bclkChange_up hr hc mhz).trans (congrArg _ (State.changeBclk_locked moving mhz))
  case relock =>
    intro s b mhz h
    exact ⟨_, rfl, State.relocked_clock h⟩
  case armingLost =>
    intro s b hd hidle harm
    have hr : s.bst b ≠ BS.RUN := by rw [hidle]; decide
    exact ⟨_, exec_clockUnlock_of_ne_run hd hr, State.clockLost_lockMask s b, State.clockLost_of_arming hidle harm⟩
  case lostOutOfRun =>
    intro s b hd hr harm
    have stays : s.armLost b = s := State.armLost_of_not_arming harm
    refine ⟨_, exec_clockUnlock_of_ne_run hd hr, State.clockLost_lockMask s b, ?_, State.clockLost_nothing_pending s b, ?_,
      State.clockLost_onlyParts stays⟩
    · rw [State.bay_clockLost, stays]
    · intro k hk
      rw [State.getO_clockLost s b (List.ne_of_not_mem_cons hk), stays]
  case lostInRun =>
    intro s b hd hr hroom
    have stays : s.armLost b = s := State.armLost_of_not_arming fun hidle => absurd (hr.symm.trans hidle) (by decide)
    have ports := State.clockLost_ports stays
    have epoch : (s.clockLost b).getB b RBay.SITE_EPOCH = s.getB b RBay.SITE_EPOCH := by
      unfold State.getB
      rw [State.getO_clockLost s b (lm_keyB b _).symm, stays]
    refine ⟨_, exec_clockUnlock_of_run hd hr, ?_, ?_⟩
    · rw [State.getO_fault, State.clockLost_lockMask]
    · rw [State.ports_fault 1 (by decide) (by rw [ports]; exact hroom), ports, State.faultMsg_timing_congr epoch]
  case setsHeld =>
    intro s b e d n hr hc hq hd h1 hn hi hok
    obtain ⟨ts, hts, hheld⟩ := State.tsetWrite_holds hq hd h1 hn hi hok
    exact ⟨_, (exec_tsetWrite_up hr hc true d).trans (congrArg _ hts), rfl, rfl, hheld⟩
  case setsLocked =>
    intro s b e bl d hr hc
    exact Gives.onlyAnswer (exec_tsetWrite_out hr hc bl d)
  case setRefused =>
    intro s b e d p i hr hc hq hd hi he
    refine ⟨_, (exec_tsetWrite_up hr hc false d).trans (congrArg _ (State.tsetWrite_refused hq hd hi he)), rfl, ?_, ?_, rfl⟩
    · exact State.getB_setB_same s b _ _
    · exact (OnlyObjs.refl s _).setO (List.mem_singleton_self _) _

end Sys2Proof.Machine
end

section
/-! SUPPORT. Writes of the shingle table, jump requests and the underrun log (O5): the gate that needs a control core, entries held
or refused with their lowest offending bit, and what a request leaves in its bay. -/

namespace Sys2Proof.Machine

/-! ### Writes of the table (R50, R52, R473) -/

theorem exec_shingleEntryWrite_up {s : State} {b : Bay} {e : BitVec 16} (h : Ready s b e) (hc : s.coreOut = false) (w : BitVec 256) :
    exec (.shingleEntryWrite b e w) s = .next (s.entryWrite b w.toNat) :=
  congrArg Host.Outcome.next (State.hostBayFirm_up h hc _)

theorem exec_shingleEntryWrite_out {s : State} {b : Bay} {e : BitVec 16} (h : Ready s b e) (hc : s.coreOut = true) (w : BitVec 256) :
    exec (.shingleEntryWrite b e w) s = .next (s.answer ST.STATE_LOCKED) :=
  congrArg Host.Outcome.next (State.hostBayFirm_out h hc _)

theorem exec_tableBlockWrite_up {s : State} {b : Bay} {e : BitVec 16} (h : Ready s b e) (hc : s.coreOut = false) (d : Bytes) :
    exec (.tableBlockWrite b e d) s = .next (s.tableWrite b d) :=
  congrArg Host.Outcome.next (State.hostBayFirm_up h hc _)

theorem exec_tableBlockWrite_out {s : State} {b : Bay} {e : BitVec 16} (h : Ready s b e) (hc : s.coreOut = true) (d : Bytes) :
    exec (.tableBlockWrite b e d) s = .next (s.answer ST.STATE_LOCKED) :=
  congrArg Host.Outcome.next (State.hostBayFirm_out h hc _)

theorem State.entryWrite_locked {s : State} {b : Bay} (hq : s.quiet b = false) (e : Nat) :
    s.entryWrite b e = s.answer ST.STATE_LOCKED := by
  unfold State.entryWrite
  rw [hq]
  rfl

theorem State.entryWrite_quiet {s : State} {b : Bay} (hq : s.quiet b = true) (e : Nat) :
    s.entryWrite b e = s.storeEntries b [(s.getB b RBay.TABLE_INDEX, e)] := by
  unfold State.entryWrite
  rw [hq]
  rfl

/-- An acceptable entry is held at TABLE_INDEX. -/
theorem State.entryWrite_held {s : State} {b : Bay} {e : Nat} (hq : s.quiet b = true) (he : s.entryError b e = none) :
    s.entryWrite b e =
      ({ s with shingles := s.shingles.set (entryKey b (s.getB b RBay.TABLE_INDEX)) (BitVec.ofNat 256 e) } : State).ok := by
  simp only [State.entryWrite_quiet hq, State.storeEntries, he]

/-- An entry with an offending bit is refused, and ENTRY_ERROR names it and the bit. -/
theorem State.entryWrite_refused {s : State} {b : Bay} {e i : Nat} (hq : s.quiet b = true) (he : s.entryError b e = some i) :
    s.entryWrite b e = (s.setB b RBay.ENTRY_ERROR (s.getB b RBay.TABLE_INDEX + i * 2 ^ 16)).answer ST.OUT_OF_RANGE := by
  simp only [State.entryWrite_quiet hq, State.storeEntries, he]

/-- Whole entries, no more than the object takes and all within the table, are written one after the other. -/
theorem State.tableWrite_entries {s : State} {b : Bay} {d : Bytes} {n : Nat} (hq : s.quiet b = true) (hd : d.length = 32 * n) (h1 : 1 ≤ n)
    (hn : n ≤ 256) (hi : s.getB b RBay.TABLE_INDEX + n ≤ 8192) :
    s.tableWrite b d =
      s.storeEntries b ((List.range n).map (fun j => (s.getB b RBay.TABLE_INDEX + j, ofBytes (slice d (32 * j) 32)))) := by
  have count : d.length / 32 = n := by omega
  unfold State.tableWrite
  simp only [hq, count, Bool.not_true, Bool.false_eq_true, if_false]
  exact if_neg (by omega)

/-- Acceptable entries of a block are held from TABLE_INDEX on, and every other entry stays. -/
theorem State.tableWrite_held {s : State} {b : Bay} {d : Bytes} {n : Nat} (hq : s.quiet b = true) (hd : d.length = 32 * n) (h1 : 1 ≤ n)
    (hn : n ≤ 256) (hi : s.getB b RBay.TABLE_INDEX + n ≤ 8192)
    (hok : ∀ j, j < n → s.entryError b (ofBytes (slice d (32 * j) 32)) = none) :
    ∃ sh, s.tableWrite b d = ({ s with shingles := sh } : State).ok ∧
      (∀ j, j < n → sh.get (entryKey b (s.getB b RBay.TABLE_INDEX + j)) 0 = BitVec.ofNat 256 (ofBytes (slice d (32 * j) 32))) ∧
      (∀ k, (k < entryKey b (s.getB b RBay.TABLE_INDEX) ∨ entryKey b (s.getB b RBay.TABLE_INDEX) + n ≤ k) →
        sh.get k 0 = s.shingles.get k 0) := by
  obtain ⟨sh, stored, rfl⟩ := storeEntries_ok b (fun j => ofBytes (slice d (32 * j) 32)) (List.range n) s (s.getB b RBay.TABLE_INDEX)
    (fun j hj => hok j (List.mem_range.mp hj))
  exact ⟨_, (State.tableWrite_entries hq hd h1 hn hi).trans stored,
    range_sets b (fun j => ofBytes (slice d (32 * j) 32)) _ n s.shingles⟩

/-! ### Jump requests (R62, R63) -/

theorem exec_jumpRequest {s : State} {b : Bay} {e : BitVec 16} (h : Ready s b e) (w : BitVec 16) :
    exec (.jumpRequest b e w) s = .next (s.jumpRequest b w.toNat) :=
  congrArg Host.Outcome.next (State.hostBay_ready h _)

theorem State.jumpRequest_locked {s : State} {b : Bay} (hr : s.running b = false) (n : Nat) :
    s.jumpRequest b n = s.answer ST.STATE_LOCKED := by
  unfold State.jumpRequest
  rw [hr]
  rfl

theorem State.jumpRequest_posted {s : State} {b : Bay} {n : Nat} (hr : s.running b = true) (hj : s.jumpable b n = true) :
    s.jumpRequest b n = (s.postJump b 0 n).ok := by
  unfold State.jumpRequest
  rw [hr, hj]
  rfl

theorem State.jumpRequest_refused {s : State} {b : Bay} {n : Nat} (hr : s.running b = true) (hj : s.jumpable b n = false) :
    s.jumpRequest b n = s.answer ST.OUT_OF_RANGE := by
  unfold State.jumpRequest
  rw [hr, hj]
  rfl

theorem exec_condJump {s : State} {b : Bay} (hen : (s.getB b RBay.COND_JUMP).testBit 31 = true) (hr : s.running b = true)
    (hc : s.cond b (s.getB b RBay.COND_JUMP % 256) = true) :
    exec (.condJump b) s = .next (s.postJump b 2 (fieldOf (s.getB b RBay.COND_JUMP) 8 13)) := by
  have posts : ((s.getB b RBay.COND_JUMP).testBit 31 && s.running b && s.cond b (s.getB b RBay.COND_JUMP % 256)) = true := by
    rw [hen, hr, hc]
    rfl
  exact congrArg Host.Outcome.next (if_pos posts)

/-- A change of one bay's own state leaves every other bay and every scalar object. -/
theorem State.modBay_only (s : State) (b : Bay) (f : BayU → BayU) :
    BayFrame b s (s.modBay b f) ∧ OnlyObjs s (s.modBay b f) [] ∧ (s.modBay b f).bay b = f (s.bay b) :=
  ⟨BayFrame.modBay s b f, OnlyObjs.refl s [], State.bay_modBay_same s b f⟩

/-- The same under an answer of OK. -/
theorem State.modBay_ok_only (s : State) (b : Bay) (f : BayU → BayU) :
    (s.modBay b f).ok.reply = {} ∧ BayFrame b s (s.modBay b f).ok ∧ OnlyObjs s (s.modBay b f).ok [] ∧
    (s.modBay b f).ok.bay b = f (s.bay b) :=
  ⟨rfl, BayFrame.modBay_ok s b f, OnlyObjs.refl s [], State.bay_modBay_same s b f⟩

/-- Settles O5: table writes by the gate that needs a control core and by what storing entries gives, jump requests by whether the
bay runs and may jump to the target, COND_JUMP by its three conditions. -/
theorem tableWritesAndJumpRequests : Obligations.TableWritesAndJumpRequests := by
  refine ⟨?held, ?refused, ?locked, ?blockLocked, ?blockHeld, ?posted, ?notJumpable, ?notRunning, ?condJump, ?logClear⟩
  case held =>
    intro s b e w hr hc hq he
    refine ⟨_, (exec_shingleEntryWrite_up hr hc w).trans (congrArg _ (State.entryWrite_held hq he)), rfl, ?_, ?_, rfl⟩
    · exact (congrArg BitVec.toNat (Tab.get_set_same s.shingles _ _ _)).trans (by rw [BitVec.ofNat_toNat, BitVec.setWidth_eq])
    · exact fun k hk => Tab.get_set_ne s.shingles hk _ _
  case refused =>
    intro s b e w i hr hc hq he
    refine ⟨_, (exec_shingleEntryWrite_up hr hc w).trans (congrArg _ (State.entryWrite_refused hq he)), rfl, ?_, ?_, rfl⟩
    · exact State.getB_setB_same s b _ _
    · exact (OnlyObjs.refl s _).setO (List.mem_singleton_self _) _
  case locked =>
    intro s b e w hr hq
    refine Gives.onlyAnswer ?_
    cases hc : s.coreOut with
    | true => exact exec_shingleEntryWrite_out hr hc w
    | false =>
      have moving : s.quiet b = false := hq.resolve_right (by rw [hc]; decide)
      exact (exec_shingleEntryWrite_up hr hc w).trans (congrArg _ (State.entryWrite_locked moving _))
  case blockLocked =>
    intro s b e d hr hc
    exact Gives.onlyAnswer (exec_tableBlockWrite_out hr hc d)
  case blockHeld =>
    intro s b e d n hr hc hq hd h1 hn hi hok
    obtain ⟨sh, stored, held, others⟩ := State.tableWrite_held hq hd h1 hn hi hok
    exact ⟨_, (exec_tableBlockWrite_up hr hc d).trans (congrArg _ stored), rfl, held, others, rfl⟩
  case posted =>
    intro s b e w hr hrun hj
    exact ⟨_, (exec_jumpRequest hr w).trans (congrArg _ (State.jumpRequest_posted hrun hj)), State.modBay_ok_only s b _⟩
  case notJumpable =>
    intro s b e w hr hrun hj
    exact Gives.onlyAnswer ((exec_jumpRequest hr w).trans (congrArg _ (State.jumpRequest_refused hrun hj)))
  case notRunning =>
    intro s b e w hr hrun
    exact Gives.onlyAnswer ((exec_jumpRequest hr w).trans (congrArg _ (State.jumpRequest_locked hrun _)))
  case condJump =>
    intro s b hen hrun hcond
    exact ⟨_, exec_condJump hen hrun hcond, State.modBay_only s b _⟩
  case logClear =>
    intro s b e hr
    exact ⟨_, congrArg Host.Outcome.next (State.hostBay_ready hr _), State.modBay_ok_only s b _⟩

end Sys2Proof.Machine
end

section
/-! SUPPORT. Boundaries of the shingle sequencer (O6): what a granule boundary finds once its requests are latched, which branch it
takes, how a granule of rows or of pad opens, where a pass goes on, and what a fetch brings into the ring. -/

namespace Sys2Proof.Machine

/-! ### Keys of one bay -/

theorem keyB_ne {b : Bay} {o p : Nat} (h : o ≠ p) : keyB b o ≠ keyB b p := fun e => h (keyB_inj.mp e)

theorem keyB_not_mem_pair {b : Bay} {o p q : Nat} (hp : o ≠ p) (hq : o ≠ q) : keyB b o ∉ [keyB b p, keyB b q] :=
  List.not_mem_cons_of_ne_of_not_mem (keyB_ne hp) fun e => keyB_ne hq (List.mem_singleton.mp e)

/-! ### Lockstep (R80) -/

/-- Whether a bay runs in lockstep rests on its sites' kinds and masks, not on their states. -/
theorem State.lockstep_congr {s t : State} (h : ∀ i o, o < 256 → o ≠ RSite.SITE_STATUS → t.getS i o = s.getS i o) (b : Bay) :
    t.lockstep b = s.lockstep b := by
  unfold State.lockstep State.sitesOf State.memberOf State.siteKind
  simp only [h _ RSite.KIND (by decide) (by decide), h _ RSite.BAY_MASK (by decide) (by decide)]

theorem State.lockstep_setB (s : State) (b c : Bay) (o v : Nat) : (s.setB c o v).lockstep b = s.lockstep b :=
  State.lockstep_congr (fun i p hp _ => State.getO_setO_ne s
    (Nat.ne_of_lt (Nat.lt_of_lt_of_le (keySite_low i p hp) (keyB_high c o))) v) b

/-! ### A granule boundary before it branches (R27, R59) -/

/-- The state in which a granule boundary finds its bay, once retirements are due, the spare path has been shadowed and the jump
requests are latched. -/
def State.boundaryLatched (s : State) (b : Bay) : State := ((s.retireDue b).shadowGranule b).latchJumps b

theorem State.dropJumps_frame (s : State) (b : Bay) (n : Nat) : BayFrame b s (s.dropJumps b n) := by
  unfold State.dropJumps
  split
  · exact BayFrame.refl b s
  · exact (BayFrame.setO b s _ _).trans (BayFrame.setO b _ _ _)

theorem State.dropJumps_objs (s : State) (b : Bay) (n : Nat) :
    OnlyObjs s (s.dropJumps b n) [keyB b RBay.SEQ_FLAGS, keyB b RBay.JUMP_DROP_COUNT] := by
  unfold State.dropJumps
  split
  · exact OnlyObjs.refl s _
  · exact ((OnlyObjs.refl s _).setO List.mem_cons_self _).setO (List.mem_cons_of_mem _ List.mem_cons_self) _

theorem State.latchJumps_frame (s : State) (b : Bay) : BayFrame b s (s.latchJumps b) := by
  unfold State.latchJumps
  dsimp only
  split
  · exact (BayFrame.modBay s b _).trans (State.dropJumps_frame _ b _)
  · exact ((BayFrame.modBay s b _).trans (BayFrame.modBay _ b _)).trans (State.dropJumps_frame _ b _)
  · exact BayFrame.modBay s b _

theorem State.latchJumps_objs (s : State) (b : Bay) : OnlyObjs s (s.latchJumps b) [keyB b RBay.SEQ_FLAGS, keyB b RBay.JUMP_DROP_COUNT] := by
  unfold State.latchJumps
  dsimp only
  split
  · exact State.dropJumps_objs _ b _
  · exact State.dropJumps_objs _ b _
  · exact OnlyObjs.refl s _

section Boundary
variable {s : State} {b : Bay} (hret : (s.bay b).retiring = [])
include hret

/-- Where no quad is to retire, a boundary changes only the roll's counts and the requests of its bay. -/
theorem State.bay_boundaryLatched : ∃ r j, (s.boundaryLatched b).bay b = { s.bay b with roll := r, usable := [], jump := j } := by
  obtain ⟨f, hf, r, hr⟩ := ret_none s b hret
  obtain ⟨j, hj⟩ := latchJumps_bay (s.modBay b f) b
  refine ⟨r, j, ?_⟩
  unfold State.boundaryLatched
  rw [hf, hj, State.bay_modBay_same, hr]

theorem State.boundaryLatched_frame : BayFrame b s (s.boundaryLatched b) := by
  obtain ⟨f, hf, _⟩ := ret_none s b hret
  unfold State.boundaryLatched
  rw [hf]
  exact (BayFrame.modBay s b f).trans (State.latchJumps_frame _ b)

theorem State.boundaryLatched_objs : OnlyObjs s (s.boundaryLatched b) [keyB b RBay.SEQ_FLAGS, keyB b RBay.JUMP_DROP_COUNT] := by
  obtain ⟨f, hf, _⟩ := ret_none s b hret
  unfold State.boundaryLatched
  rw [hf]
  exact State.latchJumps_objs (s.modBay b f) b

theorem State.boundaryLatched_getB {o : Nat} (h : o ≠ RBay.SEQ_FLAGS ∧ o ≠ RBay.JUMP_DROP_COUNT) :
    (s.boundaryLatched b).getB b o = s.getB b o :=
  State.boundaryLatched_objs hret _ (keyB_not_mem_pair h.1 h.2)

theorem State.boundaryLatched_shingles : (s.boundaryLatched b).shingles = s.shingles := by
  rw [(State.boundaryLatched_frame hret).1]

theorem State.boundaryLatched_curEntry : (s.boundaryLatched b).curEntry b = s.curEntry b := by
  unfold State.curEntry State.entry
  rw [State.boundaryLatched_getB hret (by decide), State.boundaryLatched_shingles hret]

theorem State.boundaryLatched_rowWidth : (s.boundaryLatched b).rowWidth b = s.rowWidth b := by
  unfold State.rowWidth
  rw [State.boundaryLatched_getB hret (by decide), State.boundaryLatched_getB hret (by decide)]

theorem State.boundaryLatched_residentRows (e g : Nat) : (s.boundaryLatched b).residentRows b e g = s.residentRows b e g := by
  obtain ⟨r, j, h⟩ := State.bay_boundaryLatched hret
  unfold State.residentRows
  rw [h, State.boundaryLatched_rowWidth hret]

theorem State.boundaryLatched_lockstep : (s.boundaryLatched b).lockstep b = s.lockstep b := by
  refine State.lockstep_congr (fun i o ho _ => State.boundaryLatched_objs hret _ ?_) b
  have site := keySite_low i o ho
  have flags := keyB_high b RBay.SEQ_FLAGS
  have drops := keyB_high b RBay.JUMP_DROP_COUNT
  simp only [List.mem_cons, List.not_mem_nil, or_false]
  omega

end Boundary

/-! ### Which branch a granule boundary takes (R27, R34, R59) -/

section Branches
variable {s : State} {b : Bay} (hissue : s.issuing b = true) (hopen : (s.bay b).granOpen = false)
  (hrow : (s.bay b).rowNext < 8 * entLen (s.curEntry b))
include hissue hopen hrow

theorem State.granuleBoundary_stop (hstop : (s.bay b).stopReq = true) (bad again : Bool) :
    s.granuleBoundary b bad again = ((s.boundaryLatched b).endUnderrun b).endPattern b := by
  have within : decide (8 * entLen (s.curEntry b) ≤ (s.bay b).rowNext) = false := decide_eq_false (Nat.not_le.mpr hrow)
  unfold State.granuleBoundary
  simp only [hissue, hopen, within, hstop, Bool.not_true, Bool.or_self, Bool.true_or, Bool.false_eq_true, if_false, if_true]
  rfl

variable (hstop : (s.bay b).stopReq = false) (hret : (s.bay b).retiring = []) (hquads : s.getB b RBay.QUADS_RETIRED ≠ 15)
  (hrun : s.bst b = BS.RUN)
include hstop hret hquads hrun

/-- In RUN a pause request that waits is taken, with a pad granule open; without one the next granule opens. -/
theorem State.granuleBoundary_run (bad again : Bool) : s.granuleBoundary b bad again =
    if (s.bay b).pauseReq then
      ((((s.boundaryLatched b).modBay b (fun u => { u with pauseReq := false })).setState b BS.PAUSE).capPause b).openPause b
    else (if bad then (s.boundaryLatched b).loftError b again else s.boundaryLatched b).openNext b := by
  have within : decide (8 * entLen (s.curEntry b) ≤ (s.bay b).rowNext) = false := decide_eq_false (Nat.not_le.mpr hrow)
  have quads : (s.boundaryLatched b).getB b RBay.QUADS_RETIRED ≠ 15 := by rwa [State.boundaryLatched_getB hret (by decide)]
  have run : (s.boundaryLatched b).bst b ≠ BS.PAUSE := by
    unfold State.bst at hrun ⊢
    rw [State.boundaryLatched_getB hret (by decide), hrun]
    decide
  unfold State.granuleBoundary
  simp only [hissue, hopen, within, hstop, Bool.not_true, Bool.or_self, Bool.false_or, Bool.false_eq_true, if_false]
  exact (if_neg fun h => quads (beq_iff_eq.mp h)).trans (if_neg run)

end Branches

/-! ### A granule opens (R33, R77, R81) -/

theorem State.endUnderrun_is (s : State) (b : Bay) : ∃ l, BayFrame b s (s.endUnderrun b) ∧ OnlyObjs s (s.endUnderrun b) [] ∧
    (s.endUnderrun b).bay b = { s.bay b with under := none, underLog := l } := by
  obtain ⟨f, hf, l, hl⟩ := endU_bay s b
  rw [hf]
  exact ⟨l, BayFrame.modBay s b f, OnlyObjs.refl s [], (State.bay_modBay_same s b f).trans hl⟩

/-- A resident granule whose block is good has its rows, and one whose block is bad has none. -/
theorem State.loftTake_resident {s : State} {b : Bay} (hres : isResident (s.curEntry b) ((s.bay b).rowNext / 8) = true) :
    s.loftTake b =
      if (s.bay b).badBlocks.contains (entStart (s.curEntry b) + (s.bay b).rowNext / 8 * s.rowWidth b / 64 * 64) then .error 2
      else .ok (s.residentRows b (s.curEntry b) ((s.bay b).rowNext / 8)) :=
  if_pos hres

theorem State.openNext_rows {s : State} {b : Bay} {rows : List Nat} (h : s.loftTake b = .ok rows) : s.openNext b = s.openRows b rows := by
  unfold State.openNext
  rw [h]

theorem State.openNext_bad {s : State} {b : Bay} (h : s.loftTake b = .error 2) :
    s.openNext b = ((s.setB b RBay.CURRENT_GRANULE ((s.bay b).rowNext / 8)).padGranule b 2).ringPop b := by
  unfold State.openNext
  rw [h]
  exact if_pos rfl

/-- A granule of rows that opens ends an underrun. -/
theorem State.bay_openRows (s : State) (b : Bay) (rows : List Nat) : ∃ l r, (s.openRows b rows).bay b = { s.bay b with
    under := none, underLog := l, ring := r, granOpen := true, padGran := false, granBad := false, granRows := 0, rows := rows } := by
  obtain ⟨l, _, _, ended⟩ := State.endUnderrun_is s b
  unfold State.openRows
  extract_lets v
  have hv : v.bay b = { s.bay b with under := none, underLog := l } := ended
  obtain ⟨r, popped⟩ := ringPop_bay v b
  refine ⟨l, r, ?_⟩
  rw [State.bay_modBay_same, popped, hv]

/-- The objects that the start of an underrun leaves: all but its bay's flags and count, the sites' states, and those of events. -/
def underrunKeeps (b : Bay) (k : Nat) : Prop :=
  eventObj k = false ∧ k ≠ keyB b RBay.SEQ_FLAGS ∧ k ≠ keyB b RBay.UNDERRUN_COUNT ∧ ∀ i, k ≠ keySite i RSite.SITE_STATUS

theorem KeepsObjs.markSites {b : Bay} {s t : State} (h : KeepsObjs (underrunKeeps b) s t) (c : Bay) (bit : Nat) :
    KeepsObjs (underrunKeeps b) s (t.markSites c bit) :=
  h.trans (KeepsObjs.each (fun u i _ => (KeepsObjs.refl u).setO (fun hk => hk.2.2.2 i rfl) _) t)

theorem ReportFrame.markSites (s : State) (b : Bay) (bit : Nat) : ReportFrame s (s.markSites b bit) :=
  ReportFrame.each (fun u _ => (ObjFrame.setO u _ _).report) s

theorem State.beginUnderrun_keeps (s : State) (b : Bay) (cause : Nat) : KeepsObjs (underrunKeeps b) s (s.beginUnderrun b cause) := by
  unfold State.beginUnderrun
  extract_lets pos s1 s2 s3 s4 s5 cnt
  have noFlags : ¬ underrunKeeps b (keyB b RBay.SEQ_FLAGS) := fun h => h.2.1 rfl
  have noCount : ¬ underrunKeeps b (keyB b RBay.UNDERRUN_COUNT) := fun h => h.2.2.1 rfl
  have k1 : KeepsObjs (underrunKeeps b) s s1 := (KeepsObjs.refl s).setO noFlags _
  have k2 : KeepsObjs (underrunKeeps b) s s2 := KeepsObjs.ite (k1.setO noFlags _) k1
  have k3 : KeepsObjs (underrunKeeps b) s s3 := ((k2.markSites b SS.UNDERRUN).markSites b SS.INVALID).setO noCount _
  have k4 : KeepsObjs (underrunKeeps b) s s4 := k3.occur (evBay_lt (by decide)) fun _ h => h.1
  have k5 : KeepsObjs (underrunKeeps b) s s5 := KeepsObjs.ite (k4.fault _ _ _) (k4.fault _ _ _)
  exact k5

/-- An underrun that begins changes its bay by the record it opens. -/
theorem State.bay_beginUnderrun (s : State) (b : Bay) (cause : Nat) :
    ∃ r, (s.beginUnderrun b cause).bay b = { s.bay b with under := some r } := by
  unfold State.beginUnderrun
  extract_lets pos s1 s2 s3 s4 s5 cnt
  have f1 : ReportFrame s s1 := (ObjFrame.setO s _ _).report
  have f2 : ReportFrame s s2 := by
    simp only [s2]
    split
    · exact f1.trans (ObjFrame.setO s1 _ _).report
    · exact f1
  have f3 : ReportFrame s s3 :=
    ((f2.trans (ReportFrame.markSites s2 b _)).trans (ReportFrame.markSites _ b _)).trans (ObjFrame.setO _ _ _).report
  have f4 : ReportFrame s s4 := f3.trans (State.occur_frame s3 _)
  have f5 : ReportFrame s s5 := by
    simp only [s5]
    split
    · exact f4.trans (ReportFrame.fault s4 _ _ _)
    · exact f4.trans (ReportFrame.fault s4 _ _ _)
  rw [State.bay_modBay_same, f5.bay_eq]
  exact ⟨_, rfl⟩

theorem KeepsObjs.lockstep {b : Bay} {s t : State} (h : KeepsObjs (underrunKeeps b) s t) : t.lockstep b = s.lockstep b := by
  refine State.lockstep_congr (fun i o ho hne => h _ ⟨eventObj_low ?_, ?_, ?_, fun j => ?_⟩) b
  · exact Nat.lt_trans (keySite_low i o ho) (by decide)
  · exact Nat.ne_of_lt (Nat.lt_of_lt_of_le (keySite_low i o ho) (keyB_high b _))
  · exact Nat.ne_of_lt (Nat.lt_of_lt_of_le (keySite_low i o ho) (keyB_high b _))
  · simp only [keySite, key, RSite.SITE_STATUS] at hne ⊢
    omega

/-- A bay that neither aborts on an underrun nor runs in lockstep pads the granule (R77, R80). -/
theorem State.bay_padGranule {s : State} {b : Bay} (habort : s.getB b RBay.ABORT_ON_UNDERRUN = 0) (hlock : s.lockstep b = false)
    (cause : Nat) : ∃ w l, (s.padGranule b cause).bay b = { s.bay b with
      under := w, underLog := l, granOpen := true, padGran := true, granBad := cause == 2, granRows := 0 } := by
  unfold State.padGranule
  extract_lets same t p
  have begun : ∃ w l, t.bay b = { s.bay b with under := w, underLog := l } := by
    simp only [t]
    split
    · exact ⟨(s.bay b).under, (s.bay b).underLog, rfl⟩
    · obtain ⟨l, _, _, ended⟩ := State.endUnderrun_is s b
      obtain ⟨r, hr⟩ := State.bay_beginUnderrun (s.endUnderrun b) b cause
      exact ⟨some r, l, by rw [hr, ended]⟩
  have kept : KeepsObjs (underrunKeeps b) s t := by
    simp only [t]
    split
    · exact KeepsObjs.refl s
    · obtain ⟨l, _, objs, _⟩ := State.endUnderrun_is s b
      exact KeepsObjs.trans (fun k _ => objs k List.not_mem_nil) (State.beginUnderrun_keeps _ b cause)
  have abort : t.getB b RBay.ABORT_ON_UNDERRUN = 0 := by
    refine (kept _ ⟨eventObj_keyB (by decide), keyB_ne (by decide), keyB_ne (by decide), fun i => ?_⟩).trans habort
    have := keyB_high b RBay.ABORT_ON_UNDERRUN
    have := keySite_low i RSite.SITE_STATUS (by decide)
    omega
  have goesOn : (!same && (t.getB b RBay.ABORT_ON_UNDERRUN == 1 || t.lockstep b)) = false := by
    rw [abort, kept.lockstep, hlock]
    exact Bool.and_false _
  obtain ⟨w, l, ht⟩ := begun
  have hp : p.bay b = { s.bay b with under := w, underLog := l } := ht
  rw [if_neg (Bool.eq_false_iff.mp goesOn), State.bay_modBay_same, hp]
  exact ⟨_, _, rfl⟩

/-- A resident granule whose block is read with an error is replaced by pad, its block kept as bad (R81). -/
theorem State.bay_openNext_loftError {s : State} {b : Bay} (hres : isResident (s.curEntry b) ((s.bay b).rowNext / 8) = true)
    (habort : s.getB b RBay.ABORT_ON_UNDERRUN = 0) (hlock : s.lockstep b = false) (again : Bool) :
    ∃ w l r, ((s.loftError b again).openNext b).bay b = { s.bay b with
      badBlocks := (entStart (s.curEntry b) + (s.bay b).rowNext / 8 * s.rowWidth b / 64 * 64) :: (s.bay b).badBlocks,
      under := w, underLog := l, ring := r, granOpen := true, padGran := true, granBad := true, granRows := 0 } := by
  generalize haddr : entStart (s.curEntry b) + (s.bay b).rowNext / 8 * s.rowWidth b / 64 * 64 = addr
  have errs : s.loftError b again = s.modBay b (fun u => { u with badBlocks := addr :: u.badBlocks }) := by
    rw [← haddr]
    exact if_pos hres
  generalize s.loftError b again = v at errs
  have vbay : v.bay b = { s.bay b with badBlocks := addr :: (s.bay b).badBlocks } := by rw [errs, State.bay_modBay_same]
  have vcur : v.curEntry b = s.curEntry b := by rw [errs]; rfl
  have vwidth : v.rowWidth b = s.rowWidth b := by rw [errs]; rfl
  have took : v.loftTake b = .error 2 := by
    rw [State.loftTake_resident (by rw [vcur, vbay]; exact hres), vcur, vwidth, vbay]
    simp only [haddr, List.contains_cons, beq_self_eq_true, Bool.true_or, if_true]
  have vabort : v.getB b RBay.ABORT_ON_UNDERRUN = 0 := by rw [errs]; exact habort
  have vlock : v.lockstep b = false := by rw [errs]; exact hlock
  generalize hx : v.setB b RBay.CURRENT_GRANULE ((v.bay b).rowNext / 8) = x
  have xbay : x.bay b = v.bay b := by rw [← hx]; rfl
  have xabort : x.getB b RBay.ABORT_ON_UNDERRUN = 0 := by rw [← hx, State.getB_setB, if_neg (by decide), vabort]
  have xlock : x.lockstep b = false := by rw [← hx, State.lockstep_setB, vlock]
  obtain ⟨w, l, padded⟩ := State.bay_padGranule xabort xlock 2
  obtain ⟨r, popped⟩ := ringPop_bay (x.padGranule b 2) b
  refine ⟨w, l, r, ?_⟩
  rw [State.openNext_bad took, hx, popped, padded, xbay, vbay]
  rfl

/-! ### Decisions and shingle boundaries (R58, R60, R64) -/

theorem State.decide_decided (s : State) (b : Bay) : ((s.decide_ b).bay b).decided = some (s.decision b).2 := by
  unfold State.decide_
  extract_lets r t
  have ht : (t.bay b).decided = some r.2 := by
    simp only [t]
    rw [State.bay_modBay_same]
  clear_value t
  split
  · exact (redirect_decided t b _).trans ht
  · exact (redirect_decided t b _).trans ht
  · exact (redirect_decided t b _).trans ht
  · split
    · exact (redirect_decided t b _).trans ht
    · exact ht
  · exact ht

theorem exec_shingleBoundary {s t : State} {b : Bay} (h : s.passOver b = true) (ht : s.shingleBoundary b = t) :
    exec (.shingleBoundary b) s = .next t :=
  congrArg Host.Outcome.next ((if_pos h).trans ht)

theorem State.shingleBoundary_again {s : State} {b : Bay} (h : (s.bay b).decided = some .again) :
    s.shingleBoundary b = s.newPass b (s.getB b RBay.CURRENT_PASS + 1) := by
  unfold State.shingleBoundary
  rw [h]

theorem State.shingleBoundary_enter {s : State} {b : Bay} {n : Nat} (h : (s.bay b).decided = some (.enter n)) :
    s.shingleBoundary b = s.arrive b n (entLvl (s.curEntry b)) := by
  unfold State.shingleBoundary
  rw [h]

theorem State.shingleBoundary_endPattern {s : State} {b : Bay} (h : (s.bay b).decided = some .endPattern) :
    s.shingleBoundary b = s.endPattern b := by
  unfold State.shingleBoundary
  rw [h]

theorem State.newPass_is (s : State) (b : Bay) (n : Nat) : (s.newPass b n).getB b RBay.CURRENT_PASS = n ∧
    (s.newPass b n).getB b RBay.CURRENT_GRANULE = 0 ∧ ((s.newPass b n).bay b).rowNext = 0 ∧ ((s.newPass b n).bay b).decided = none ∧
    BayFrame b s (s.newPass b n) ∧ OnlyObjs s (s.newPass b n) [keyB b RBay.CURRENT_PASS, keyB b RBay.CURRENT_GRANULE] ∧
    ((s.newPass b n).bay b).visit = (s.bay b).visit := by
  unfold State.newPass
  have frame := ((BayFrame.setO b s (keyB b RBay.CURRENT_PASS) n).trans (BayFrame.setO b _ (keyB b RBay.CURRENT_GRANULE) 0))
  have objs : OnlyObjs s ((s.setB b RBay.CURRENT_PASS n).setB b RBay.CURRENT_GRANULE 0)
      [keyB b RBay.CURRENT_PASS, keyB b RBay.CURRENT_GRANULE] :=
    ((OnlyObjs.refl s _).setO List.mem_cons_self _).setO (List.mem_cons_of_mem _ List.mem_cons_self) _
  refine ⟨?_, State.getB_setB_same _ b _ _, ?_, ?_, frame.trans (BayFrame.modBay _ b _), objs, ?_⟩
  · exact (State.getB_setB _ b _ _ _).trans ((if_neg (by decide)).trans (State.getB_setB_same s b _ _))
  · rw [State.bay_modBay_same]
  · rw [State.bay_modBay_same]
  · rw [State.bay_modBay_same]
    rfl

/-- A valid entry of the standard type that keeps the level set is entered at its first pass, on a visit of its own. -/
theorem State.arrive_standard {s : State} {b : Bay} {n lvl : Nat} (hv : entValid (s.entry b n) = true) (ht : entType (s.entry b n) = 0)
    (hl : entLvl (s.entry b n) = lvl) : let t := s.arrive b n lvl
    t.getB b RBay.CURRENT_ENTRY = n ∧ t.getB b RBay.CURRENT_TAG = entTag (s.entry b n) ∧ t.getB b RBay.CURRENT_PASS = 1 ∧
    t.getB b RBay.CURRENT_GRANULE = 0 ∧ (t.bay b).rowNext = 0 ∧ (t.bay b).decided = none ∧ (t.bay b).visit = (s.bay b).visit + 1 ∧
    BayFrame b s t := by
  intro t
  generalize hu : ((s.setB b RBay.CURRENT_ENTRY n).setB b RBay.CURRENT_TAG (entTag (s.entry b n))).modBay b
    (fun u => { u with visit := u.visit + 1 }) = u
  have arrived : t = u.newPass b 1 := by
    rw [← hu]
    simp only [t, State.arrive, hv, ht, hl, Bool.not_true, Bool.false_eq_true, ne_eq, not_true_eq_false, false_and, if_false, if_true]
  have before : BayFrame b s u := by
    rw [← hu]
    exact ((BayFrame.setO b s _ _).trans (BayFrame.setO b _ _ _)).trans (BayFrame.modBay _ b _)
  have entry : u.getB b RBay.CURRENT_ENTRY = n := by
    rw [← hu, State.getB_modBay, State.getB_setB, if_neg (by decide), State.getB_setB_same]
  have tag : u.getB b RBay.CURRENT_TAG = entTag (s.entry b n) := by rw [← hu, State.getB_modBay, State.getB_setB_same]
  have visits : (u.bay b).visit = (s.bay b).visit + 1 := by
    rw [← hu, State.bay_modBay_same]
    rfl
  obtain ⟨pass, granule, row, decided, frame, objs, visit⟩ := State.newPass_is u b 1
  rw [arrived]
  exact ⟨(objs _ (keyB_not_mem_pair (by decide) (by decide))).trans entry,
    (objs _ (keyB_not_mem_pair (by decide) (by decide))).trans tag, pass, granule, row, decided, visit.trans visits, before.trans frame⟩

/-- An entry whose custom type is detached ends the pattern with UNATTACHED_TYPE (R64, R106). -/
theorem State.arrive_detached {s : State} {b : Bay} {n : Nat} (hv : entValid (s.entry b n) = true) (ht : entType (s.entry b n) ≠ 0)
    (hd : (s.getB b (RBay.CUSTOM_ENTRY + (entType (s.entry b n) - 1))).testBit 31 = false) (lvl : Nat) :
    s.arrive b n lvl = s.seqError b true 8 := by
  unfold State.arrive
  simp only [hv, Bool.not_true, Bool.false_eq_true, if_false]
  exact if_pos ⟨ht, hd⟩

/-! ### The fetch of the loft (R70, R72, R81) -/

theorem State.chase_congr {s t : State} {b : Bay} (h : ∀ n, t.entry b n = s.entry b n) :
    ∀ f n v seen, t.chase b f n v seen = s.chase b f n v seen := by
  intro f
  induction f with
  | zero => exact fun _ _ _ => rfl
  | succ f ih =>
    intro n v seen
    unfold State.chase
    simp only [h, ih]

/-- What follows a granule in the fetch rests on the bay, its table and its objects. -/
theorem State.nextFetch_congr {s t : State} {b : Bay} (hbay : t.bay b = s.bay b) (htab : t.shingles = s.shingles)
    (hobj : ∀ o, o < 0x10000 → t.getB b o = s.getB b o) (p : GranPos) : t.nextFetch b p = s.nextFetch b p := by
  have entry : ∀ n, t.entry b n = s.entry b n := fun n => by unfold State.entry; rw [htab]
  have running : t.running b = s.running b := by
    unfold State.running State.bst
    rw [hobj _ (by decide)]
  unfold State.nextFetch State.fetchFrom
  simp only [hbay, entry, running, State.chase_congr entry, hobj RBay.CURRENT_PASS (by decide), hobj RBay.RETURN_ENTRY (by decide)]

theorem State.takeSlots_frame (s : State) (c : MemClass) (a len : Nat) : ∃ q, s.takeSlots c a len = { s with hbmQ := q } := by
  have put : ∀ (l : List (Fin 64)) (g : State → Fin 64 → HbmQ → HbmQ) (u : State),
      ∃ q, u.each l (fun s pc => s.modHbm (g s pc)) = { u with hbmQ := q } := by
    intro l g
    induction l with
    | nil => exact fun u => ⟨u.hbmQ, rfl⟩
    | cons pc l ih =>
      intro u
      obtain ⟨q, hq⟩ := ih (u.modHbm (g u pc))
      exact ⟨q, hq⟩
  obtain ⟨q, hq⟩ := put (pcsTouched a len) (fun s pc q => { q with pcs := q.pcs.set pc.val (s.pcNow pc) pc.isLt }) s
  unfold State.takeSlots
  rw [show s.servePcs (pcsTouched a len) = _ from hq]
  obtain ⟨r, hr⟩ := put (pcsTouched a len) (fun s pc q =>
    { q with pcs := q.pcs.set pc.val { q.pcs.get pc with queue := (q.pcs.get pc).queue ++ [⟨c, s.now⟩] } pc.isLt }) { s with hbmQ := q }
  exact ⟨r, hr⟩

/-- An uncorrectable block changes objects of its pseudo-channel and what its event and its report touch. -/
theorem State.countUe_is (s : State) (a : Nat) : ReportFrame s (s.countUe a) ∧
    ∀ b o, o < 0x10000 → (s.countUe a).getB b o = s.getB b o := by
  unfold State.countUe
  extract_lets pc t
  have pseudo : pc < 64 := by
    simp only [pc, pcOf]
    exact Nat.xor_lt_two_pow (n := 6) (Nat.mod_lt _ (by decide)) (Nat.mod_lt _ (by decide))
  have event : 1728 + 2 * pc + 1 < 2048 := by omega
  refine ⟨(((ObjFrame.setO s _ _).report.trans (ObjFrame.setO _ _ _).report).trans (State.occur_frame t _)).trans
    (ReportFrame.fault _ _ _ _), fun b o ho => ?_⟩
  have low := keyB_low (b := b) ho
  unfold State.getB
  rw [State.getO_fault, State.getO_occur t event (eventObj_keyB ho)]
  have away : ∀ p, keyB b o ≠ keyPc pc p := fun p => by simp only [keyPc, key]; omega
  exact (State.getO_setO_ne _ (away _) _).trans (State.getO_setO_ne s (away _) _)

theorem State.fetchCheck_is (s : State) (b : Bay) (bad again : Bool) : ReportFrame s (s.fetchCheck b bad again) ∧
    ∀ o, o < 0x10000 → (s.fetchCheck b bad again).getB b o = s.getB b o := by
  unfold State.fetchCheck
  extract_lets a
  obtain ⟨f1, k1⟩ := State.countUe_is s a
  obtain ⟨f2, k2⟩ := State.countUe_is (s.countUe a) a
  split
  · exact ⟨ReportFrame.refl s, fun _ _ => rfl⟩
  · split
    · exact ⟨f1.trans f2, fun o ho => (k2 b o ho).trans (k1 b o ho)⟩
    · exact ⟨f1, k1 b⟩

/-- One granule that enters the ring moves the fetch to what follows it. -/
theorem State.bay_ringIn_one {s : State} {b : Bay} {p : GranPos} (hf : (s.bay b).fetch = some p) (bad : Bool) (rows : Nat → List Nat) :
    (s.ringIn b bad rows 1 0).bay b = { s.bay b with
      ring := (s.bay b).ring ++ [⟨p, rows 0, bad⟩], fetch := (s.nextFetch b p).1, fetchSeen := (s.nextFetch b p).2 } := by
  unfold State.ringIn
  rw [hf]
  exact State.bay_modBay_same s b _

/-- A block of the pattern region with one granule to come appends that granule, bad where both fetches of it failed (R72, R81). -/
theorem State.bay_loftFill_one {s : State} {b : Bay} {p : GranPos} (hf : (s.bay b).fetch = some p) (hr : entResid (s.entry b p.entry) ≠ 3)
    (htag : s.tagBad (s.entry b p.entry) (entStart (s.entry b p.entry) + p.gran * s.rowWidth b / 64 * 64) = false)
    (hone : min (min (entLen (s.entry b p.entry) - p.gran) ((64 - p.gran * s.rowWidth b % 64) / s.rowWidth b))
      (s.getB b RBay.RING_BYTES / s.rowWidth b - (s.bay b).ring.length) = 1) (bad again : Bool) :
    (s.loftFill b bad again).bay b = { s.bay b with
      ring := (s.bay b).ring ++ [⟨p, blockRows (s.rowWidth b) (s.fetchBlock (s.entry b p.entry) (p.gran * s.rowWidth b / 64))
        (p.gran * s.rowWidth b % 64), bad && again⟩], fetch := (s.nextFetch b p).1, fetchSeen := (s.nextFetch b p).2 } := by
  obtain ⟨frame, objs⟩ := State.fetchCheck_is s b bad again
  have checked : (s.fetchCheck b bad again).bay b = s.bay b := frame.bay_eq b
  have table : (s.fetchCheck b bad again).shingles = s.shingles := by
    unfold ReportFrame at frame
    rw [frame]
  unfold State.loftFill
  simp only [hf, hr, htag, hone, if_false, Nat.one_ne_zero, Bool.false_eq_true, Bool.or_false]
  rw [showLead_bay', State.bay_ringIn_one (by rw [checked]; exact hf), checked, State.nextFetch_congr checked table objs,
    Nat.zero_mul, Nat.add_zero]

theorem exec_loftFill_running {s : State} {b : Bay} (hrun : s.running b = true) (hw : s.rowWidth b ≠ 0)
    (hslot : s.slotFor .pattern (s.nextBlock b) 64 = true) (bad again : Bool) :
    exec (.loftFill b bad again) s = .next ((s.takeSlots .pattern (s.nextBlock b) 64).loftFill b bad again) := by
  have fetches : ((s.running b || s.bst b == BS.ARMED || (s.bst b == BS.IDLE && (s.bay b).arming != 0)) && s.rowWidth b != 0) = true := by
    rw [hrun, bne_iff_ne.mpr hw]
    rfl
  exact congrArg Host.Outcome.next ((if_pos fetches).trans (if_pos hslot))

theorem exec_loftFill_noSlot {s : State} {b : Bay} (hslot : s.slotFor .pattern (s.nextBlock b) 64 = false) (bad again : Bool) :
    exec (.loftFill b bad again) s = .next s := by
  show execLoftFill b bad again s = _
  unfold execLoftFill
  simp only [hslot, Bool.false_eq_true, if_false, ite_self]

theorem exec_underrunEnd {s : State} {b : Bay} {rows : List Nat} (htake : s.loftTake b = .ok rows) (hrun : s.running b = true)
    (hopen : (s.bay b).granOpen = false) : exec (.underrunEnd b) s = .next (s.endUnderrun b) := by
  show execUnderrunEnd b s = _
  unfold execUnderrunEnd
  simp only [htake, hrun, hopen, Bool.not_false, Bool.and_self, if_true]

/-- The pad of an underrun ends, and its record joins the log of 16 (R79). -/
theorem State.endUnderrun_logs {s : State} {b : Bay} {r : Underrun} (h : (s.bay b).under = some r) :
    s.endUnderrun b = s.modBay b (fun u => { u with under := none, underLog := lastN 15 u.underLog ++ [underBytes r] }) := by
  unfold State.endUnderrun
  rw [h]

/-! ### What a granule boundary gives (R33, R34, R77, R81) -/

theorem State.endPattern_is (s : State) (b : Bay) : BayFrame b s (s.endPattern b) ∧ OnlyObjs s (s.endPattern b) [] ∧
    (s.endPattern b).bay b = { s.bay b with ending := true, cust := false, granOpen := false, padGran := false } :=
  ⟨BayFrame.modBay s b _, OnlyObjs.refl s [], State.bay_modBay_same s b _⟩

/-- A stop at a granule boundary ends an underrun and the pattern. -/
theorem State.stopped_is {s : State} {b : Bay} (hret : (s.bay b).retiring = []) : ∃ r j l,
    (((s.boundaryLatched b).endUnderrun b).endPattern b).bay b = { s.bay b with
      roll := r, usable := [], jump := j, under := none, underLog := l, ending := true, cust := false, granOpen := false,
      padGran := false } ∧
    BayFrame b s (((s.boundaryLatched b).endUnderrun b).endPattern b) ∧
    OnlyObjs s (((s.boundaryLatched b).endUnderrun b).endPattern b) [keyB b RBay.SEQ_FLAGS, keyB b RBay.JUMP_DROP_COUNT] := by
  obtain ⟨r, j, latched⟩ := State.bay_boundaryLatched hret
  obtain ⟨l, frame, objs, ended⟩ := State.endUnderrun_is (s.boundaryLatched b) b
  obtain ⟨frame', objs', left⟩ := State.endPattern_is ((s.boundaryLatched b).endUnderrun b) b
  refine ⟨r, j, l, ?_, ((State.boundaryLatched_frame hret).trans frame).trans frame', fun k hk => ?_⟩
  · rw [left, ended, latched]
  · exact ((objs' k List.not_mem_nil).trans (objs k List.not_mem_nil)).trans (State.boundaryLatched_objs hret k hk)

/-- A pause taken at a granule boundary brings the bay to PAUSE with a pad granule open. -/
theorem State.paused_is (s : State) (b : Bay) : let t := ((s.setState b BS.PAUSE).capPause b).openPause b
    t.bst b = BS.PAUSE ∧ (t.bay b).granOpen = true ∧ (t.bay b).padGran = true := by
  refine ⟨?_, ?_, ?_⟩
  · exact Eq.trans (State.capPause_bst (Bst.refl (s.setState b BS.PAUSE))) (State.bst_setState s b _)
  · exact congrArg BayU.granOpen (State.bay_modBay_same _ b _)
  · exact congrArg BayU.padGran (State.bay_modBay_same _ b _)

/-- The next granule is resident and its block is good: it opens with its rows. -/
theorem State.opened_resident {s : State} {b : Bay} (hret : (s.bay b).retiring = [])
    (hres : isResident (s.curEntry b) ((s.bay b).rowNext / 8) = true) (hgood : (s.bay b).badBlocks = []) : ∃ q j l r,
    ((s.boundaryLatched b).openNext b).bay b = { s.bay b with
      roll := q, usable := [], jump := j, under := none, underLog := l, ring := r, granOpen := true, padGran := false, granBad := false,
      granRows := 0, rows := s.residentRows b (s.curEntry b) ((s.bay b).rowNext / 8) } := by
  obtain ⟨q, j, latched⟩ := State.bay_boundaryLatched hret
  have took : (s.boundaryLatched b).loftTake b = .ok (s.residentRows b (s.curEntry b) ((s.bay b).rowNext / 8)) := by
    rw [State.loftTake_resident (by rw [State.boundaryLatched_curEntry hret, latched]; exact hres), latched, hgood]
    simp only [List.contains_nil, Bool.false_eq_true, if_false, State.boundaryLatched_curEntry hret,
      State.boundaryLatched_residentRows hret]
  obtain ⟨l, r, opened⟩ := State.bay_openRows (s.boundaryLatched b) b (s.residentRows b (s.curEntry b) ((s.bay b).rowNext / 8))
  refine ⟨q, j, l, r, ?_⟩
  rw [State.openNext_rows took, opened, latched]

/-- The next granule is resident and its block is read with an error: a pad granule opens in its place. -/
theorem State.opened_bad {s : State} {b : Bay} (hret : (s.bay b).retiring = [])
    (hres : isResident (s.curEntry b) ((s.bay b).rowNext / 8) = true) (habort : s.getB b RBay.ABORT_ON_UNDERRUN = 0)
    (hlock : s.lockstep b = false) (again : Bool) : ∃ q j w l r,
    (((s.boundaryLatched b).loftError b again).openNext b).bay b = { s.bay b with
      roll := q, usable := [], jump := j,
      badBlocks := (entStart (s.curEntry b) + (s.bay b).rowNext / 8 * s.rowWidth b / 64 * 64) :: (s.bay b).badBlocks,
      under := w, underLog := l, ring := r, granOpen := true, padGran := true, granBad := true, granRows := 0 } := by
  obtain ⟨q, j, latched⟩ := State.bay_boundaryLatched hret
  obtain ⟨w, l, r, padded⟩ := State.bay_openNext_loftError (s := s.boundaryLatched b) (b := b)
    (by rw [State.boundaryLatched_curEntry hret, latched]; exact hres)
    ((State.boundaryLatched_getB hret (by decide)).trans habort) ((State.boundaryLatched_lockstep hret).trans hlock) again
  refine ⟨q, j, w, l, r, ?_⟩
  rw [padded, State.boundaryLatched_curEntry hret, State.boundaryLatched_rowWidth hret, latched]

/-- Settles O6: a granule boundary by the branch it takes and what opens there, decisions and shingle boundaries by what they leave of
the pass, the fetch by the one granule it appends, and the end of an underrun by its record. -/
theorem sequencingBoundaries : Obligations.SequencingBoundaries := by
  refine ⟨?stop, ?pause, ?rows, ?bad, ?decision, ?again, ?enter, ?detached, ?ends, ?fill, ?noSlot, ?underrunEnd⟩
  case stop =>
    intro s b bad again hissue hopen hrow hstop hret
    obtain ⟨_, _, _, stopped, frame, objs⟩ := State.stopped_is hret
    exact ⟨_, congrArg Host.Outcome.next (State.granuleBoundary_stop hissue hopen hrow hstop bad again),
      congrArg BayU.ending stopped, congrArg BayU.granOpen stopped, congrArg BayU.under stopped,
      congrArg BayU.usable stopped, frame, objs⟩
  case pause =>
    intro s b bad again hissue hopen hrow hstop hret hquads hrun hpause
    have opens := (State.granuleBoundary_run hissue hopen hrow hstop hret hquads hrun bad again).trans (if_pos hpause)
    exact ⟨_, congrArg Host.Outcome.next opens, State.paused_is _ b⟩
  case rows =>
    intro s b again hissue hopen hrow hstop hret hquads hrun hpause hres hgood
    have opens := (State.granuleBoundary_run hissue hopen hrow hstop hret hquads hrun false again).trans (if_neg (Bool.eq_false_iff.mp hpause))
    obtain ⟨_, _, _, _, opened⟩ := State.opened_resident hret hres hgood
    exact ⟨_, congrArg Host.Outcome.next opens, congrArg BayU.granOpen opened, congrArg BayU.padGran opened,
      congrArg BayU.granRows opened, congrArg BayU.rows opened, congrArg BayU.usable opened, congrArg BayU.under opened⟩
  case bad =>
    intro s b again hissue hopen hrow hstop hret hquads hrun hpause hres habort hlock
    have opens := (State.granuleBoundary_run hissue hopen hrow hstop hret hquads hrun true again).trans (if_neg (Bool.eq_false_iff.mp hpause))
    obtain ⟨_, _, _, _, _, padded⟩ := State.opened_bad hret hres habort hlock again
    exact ⟨_, congrArg Host.Outcome.next opens, congrArg BayU.granOpen padded, congrArg BayU.padGran padded,
      congrArg BayU.granBad padded, congrArg BayU.badBlocks padded⟩
  case decision =>
    intro s b h
    exact ⟨_, congrArg Host.Outcome.next (if_pos h), State.decide_decided s b⟩
  case again =>
    intro s b h hd
    obtain ⟨pass, granule, row, decided, frame, objs, _⟩ := State.newPass_is s b (s.getB b RBay.CURRENT_PASS + 1)
    exact ⟨_, exec_shingleBoundary h (State.shingleBoundary_again hd), pass, granule, row, decided, frame, objs⟩
  case enter =>
    intro s b n h hd hvalid htype hlvl
    exact ⟨_, exec_shingleBoundary h (State.shingleBoundary_enter hd), State.arrive_standard hvalid htype hlvl⟩
  case detached =>
    intro s b n h hd hvalid htype hdetached
    obtain ⟨ending, flag⟩ := seqError_end s b true 8
    exact ⟨_, exec_shingleBoundary h ((State.shingleBoundary_enter hd).trans (State.arrive_detached hvalid htype hdetached _)),
      flag, ending⟩
  case ends =>
    intro s b h hd
    obtain ⟨frame, objs, ended⟩ := State.endPattern_is s b
    exact ⟨_, exec_shingleBoundary h (State.shingleBoundary_endPattern hd), congrArg BayU.ending ended, objs, frame⟩
  case fill =>
    intro s b p bad again hrun hw hfetch hresid hslot htag hone
    obtain ⟨q, slots⟩ := State.takeSlots_frame s .pattern (s.nextBlock b) 64
    have filled := State.bay_loftFill_one (s := { s with hbmQ := q }) hfetch hresid htag hone bad again
    have runs := exec_loftFill_running hrun hw hslot bad again
    rw [slots] at runs
    have follows := State.nextFetch_congr (s := s) (t := { s with hbmQ := q }) (b := b) rfl rfl (fun _ _ => rfl) p
    exact ⟨_, runs, (congrArg BayU.fetch filled).trans (congrArg Prod.fst follows), congrArg BayU.ring filled⟩
  case noSlot =>
    intro s b bad again hslot
    exact ⟨s, exec_loftFill_noSlot hslot bad again, rfl⟩
  case underrunEnd =>
    intro s b rows r htake hrun hopen hunder
    refine ⟨_, (exec_underrunEnd htake hrun hopen).trans (congrArg _ (State.endUnderrun_logs hunder)), BayFrame.modBay s b _,
      OnlyObjs.refl s [], State.bay_modBay_same s b _⟩

end Sys2Proof.Machine
end

section
/-! SUPPORT. Vectors of a word and of pad granules (O12): what issuing a pattern row or a pad vector leaves of its bay, and a
BCLK cycle in which one vector starts. -/

namespace Sys2Proof.Machine

/-! ### The start of a cycle -/

theorem State.beginCycle_getB (s : State) (b : Bay) (o : Nat) : (s.beginCycle b).getB b o = s.getB b o := by
  obtain ⟨x, _, _, _, h, _⟩ := beginCycle_is s b
  rw [h]
  rfl

theorem State.beginCycle_curEntry (s : State) (b : Bay) : (s.beginCycle b).curEntry b = s.curEntry b := by
  obtain ⟨x, _, _, _, h, _⟩ := beginCycle_is s b
  rw [h]
  rfl

/-- A new cycle resets only what a bay records of the cycle itself. -/
theorem State.bay_beginCycle (s : State) (b : Bay) : ∃ r d a f,
    (s.beginCycle b).bay b = { s.bay b with cycRows := r, cycDone := d, cycActed := a, cycFirst := f } := by
  obtain ⟨_, r, a, f, _, h, _⟩ := beginCycle_is s b
  exact ⟨r, false, a, f, h⟩

theorem State.beginCycle_slotLeft (s : State) (b : Bay) : (s.beginCycle b).slotLeft b = s.slotLeft b := by
  obtain ⟨_, _, _, _, h⟩ := State.bay_beginCycle s b
  unfold State.slotLeft
  rw [h]

theorem State.beginCycle_issuing (s : State) (b : Bay) : (s.beginCycle b).issuing b = s.issuing b := by
  obtain ⟨_, _, _, _, hs, hb, _⟩ := beginCycle_is s b
  unfold State.issuing
  rw [hb, hs]
  rfl

/-! ### One vector -/

/-- The period set of the next vector: PRD_SEL of the word, else the entry's (R90, R120). -/
def State.vecPrd (s : State) (b : Bay) : Nat := ((s.bay b).prdSel).getD (entPrd (s.curEntry b))

theorem State.beginCycle_vecPrd (s : State) (b : Bay) : (s.beginCycle b).vecPrd b = s.vecPrd b := by
  obtain ⟨_, _, _, _, hb⟩ := State.bay_beginCycle s b
  unfold State.vecPrd
  rw [hb, s.beginCycle_curEntry]

/-- What one vector of a bay advances: the cycle count, and the next start by its period (R57, R120). -/
structure VecIssued (b : Bay) (s t : State) : Prop where
  count : t.getB b RBay.CYCLE_COUNT = (s.getB b RBay.CYCLE_COUNT + 1) % 2 ^ 64
  start : (t.bay b).nextStart = (s.bay b).nextStart + s.getB b (RBay.PERIOD + s.vecPrd b)
  cycle : (t.bay b).cyc = (s.bay b).cyc
  extra : (t.bay b).extra = (s.bay b).extra

/-- An event before the vector leaves what a vector of the bay rests on. -/
theorem VecIssued.of_occur {b : Bay} {s t : State} {n : Nat} (hn : n < 2048) (hp : s.vecPrd b < 64) (h : VecIssued b (s.occur n) t) :
    VecIssued b s t := by
  have objs : ∀ o, o < 0x10000 → (s.occur n).getB b o = s.getB b o := fun o ho => State.getO_occur s hn (eventObj_keyB ho)
  have shingles : (s.occur n).shingles = s.shingles := by rw [State.occur_frame s n]
  have prd : (s.occur n).vecPrd b = s.vecPrd b := by
    unfold State.vecPrd State.curEntry State.entry
    rw [State.bay_occur, shingles, objs _ (by decide)]
  obtain ⟨count, start, cycle, extra⟩ := h
  rw [State.bay_occur] at start cycle extra
  rw [prd, objs _ (by simp only [RBay.PERIOD]; omega)] at start
  rw [objs _ (by decide)] at count
  exact ⟨count, start, cycle, extra⟩

theorem State.issueVec_issued (s : State) (b : Bay) (kind : VecKind) : VecIssued b s (s.issueVec b kind) := by
  obtain ⟨count, _, start, cycle, _, _, extra, _⟩ := issueVec_is s b kind
  exact ⟨count, start, cycle, extra⟩

/-- The next pattern row of a granule issues: it is counted, it is the last row, and the row place moves past it (R57, R58). -/
theorem State.issueRow_is {s : State} {b : Bay} (hp : s.vecPrd b < 64) :
    VecIssued b s (s.issueRow b) ∧ (s.issueRow b).getB b RBay.VECTORS_ISSUED = (s.getB b RBay.VECTORS_ISSUED + 1) % 2 ^ 64 ∧
    ((s.issueRow b).bay b).rowNext = (s.bay b).rowNext + 1 ∧ ((s.issueRow b).bay b).granRows = (s.bay b).granRows + 1 ∧
    ((s.issueRow b).bay b).lastRow = some ((s.bay b).rows.getD (s.bay b).granRows 0) := by
  unfold State.issueRow
  extract_lets u row s1 s2 s3
  have entered : s1 = s ∨ s1 = s.occur (evBay b 8) := by
    simp only [s1]
    split
    · exact Or.inr rfl
    · exact Or.inl rfl
  have bay1 : s1.bay b = s.bay b := by
    rcases entered with h | h <;> rw [h]
    exact State.bay_occur s (evBay b 8) b
  have issued1 : s1.getB b RBay.VECTORS_ISSUED = s.getB b RBay.VECTORS_ISSUED := by
    rcases entered with h | h <;> rw [h]
    exact State.getO_occur s (evBay_lt (by decide)) (eventObj_keyB (by decide))
  have vec : VecIssued b s s2 := by
    have h : VecIssued b s1 s2 := State.issueVec_issued s1 b (.row row)
    rcases entered with e | e <;> rw [e] at h
    · exact h
    · exact h.of_occur (evBay_lt (by decide)) hp
  clear_value s1
  obtain ⟨_, issued, _, _, place, rows, _⟩ := issueVec_is s1 b (.row row)
  rw [bay1] at place rows
  obtain ⟨count, start, cycle, extra⟩ := vec
  have issued3 : s3.getB b RBay.VECTORS_ISSUED = (s.getB b RBay.VECTORS_ISSUED + 1) % 2 ^ 64 := by
    rw [← issued1, ← issued]
    exact State.getB_setB_same s2 b _ _
  have count3 : s3.getB b RBay.CYCLE_COUNT = s2.getB b RBay.CYCLE_COUNT :=
    (State.getB_setB s2 b _ _ _).trans (if_neg (by decide))
  refine ⟨⟨count3.trans count, ?_, ?_, ?_⟩, issued3, ?_, ?_, ?_⟩ <;> rw [State.bay_modBay_same]
  · exact start
  · exact cycle
  · exact extra
  · exact congrArg (· + 1) place
  · exact congrArg (· + 1) rows

/-- One vector of a pad granule issues, in place of no pattern row (R77). -/
theorem State.issuePad_is {s : State} {b : Bay} (hbad : (s.bay b).granBad = false) :
    VecIssued b s (s.issuePad b) ∧ (s.issuePad b).getB b RBay.VECTORS_ISSUED = s.getB b RBay.VECTORS_ISSUED ∧
    ((s.issuePad b).bay b).rowNext = (s.bay b).rowNext ∧ ((s.issuePad b).bay b).granRows = (s.bay b).granRows + 1 ∧
    ((s.issuePad b).bay b).padGran = decide ((s.bay b).granRows + 1 < 8) := by
  obtain ⟨count, issued, start, cycle, place, rows, extra, _, _, bad, _⟩ := issueVec_is s b (.pad false)
  unfold State.issuePad
  refine ⟨⟨count, ?_, ?_, ?_⟩, issued, ?_, ?_, ?_⟩ <;> rw [State.bay_modBay_same]
  · exact start
  · exact cycle
  · exact extra
  · simp only [bad, hbad, Bool.and_false, Bool.false_eq_true, if_false]
    exact place
  · exact congrArg (· + 1) rows
  · simp only [rows, ← decide_not, Nat.not_le]

/-! ### A cycle of one vector -/

/-- A vector issued in a cycle that begins advances what one issued before it does. -/
theorem VecIssued.of_beginCycle {b : Bay} {s v : State} (h : VecIssued b (s.beginCycle b) v) : VecIssued b s v := by
  obtain ⟨count, start, cycle, extra⟩ := h
  rw [s.beginCycle_getB] at count start
  rw [s.beginCycle_vecPrd] at start
  obtain ⟨_, _, _, _, hb⟩ := State.bay_beginCycle s b
  rw [hb] at start cycle extra
  exact ⟨count, start, cycle, extra⟩

/-- A cycle in which one vector starts has issued it from `s`, to `v`, and ended at `t`: the vector has advanced the counts, the end
of the cycle keeps what it left of the rows, and the cycle is over. -/
structure OneVector (b : Bay) (s v t : State) : Prop where
  count   : t.getB b RBay.CYCLE_COUNT = (s.getB b RBay.CYCLE_COUNT + 1) % 2 ^ 64
  start   : (t.bay b).nextStart = (s.bay b).nextStart + s.getB b (RBay.PERIOD + s.vecPrd b)
  cycle   : (t.bay b).cyc = (s.bay b).cyc + 1
  issued  : t.getB b RBay.VECTORS_ISSUED = v.getB b RBay.VECTORS_ISSUED
  rowNext : (t.bay b).rowNext = (v.bay b).rowNext
  rows    : (t.bay b).granRows = (v.bay b).granRows
  lastRow : (t.bay b).lastRow = (v.bay b).lastRow
  pad     : (t.bay b).padGran = (v.bay b).padGran

/-- A cycle whose first slot issues a vector that ends past the cycle issues no other, and ends (R57, R88). -/
theorem State.cycle_oneVector {s v : State} {b : Bay} {slot : State → Option State} (hi : s.issuing b = true)
    (he : (s.bay b).extra = none) (hs : s.slotLeft b = true) (hv : slot (s.beginCycle b) = some v)
    (hvec : VecIssued b (s.beginCycle b) v)
    (hn : 4000 * (((s.bay b).cyc : Int) + 3) ≤ (s.bay b).nextStart + s.getB b (RBay.PERIOD + s.vecPrd b)) :
    OneVector b s v (s.cycle b slot) := by
  obtain ⟨count, start, cycle, extra⟩ := hvec.of_beginCycle
  obtain ⟨w, kept, wcount, wissued, _, _, _, _, _, bay⟩ := cycle_one s b slot v ((s.beginCycle_slotLeft b).trans hs)
    ((s.beginCycle_issuing b).trans hi) hv (noSlot start cycle hn) (extra.trans he)
  obtain ⟨wstart, wcycle, rowNext, rows, _, _, lastRow, pad, _⟩ := kept.u
  refine ⟨(wcount.trans kept.cc).trans count, ?_, ?_, wissued.trans kept.vi, ?_, ?_, ?_, ?_⟩ <;> rw [bay]
  · exact wstart.trans start
  · exact congrArg (· + 1) (wcycle.trans cycle)
  · exact rowNext
  · exact rows
  · exact lastRow
  · exact pad

theorem State.emitSlot_row {s : State} {b : Bay} (hspent : s.rowsSpent b = false) (hrow : (s.bay b).rowNext ≠ 8 * entLen (s.curEntry b))
    (hopen : (s.bay b).granOpen = true) : s.emitSlot b = some (s.issueRow b) := by
  have inPass : ((s.bay b).rowNext == 8 * entLen (s.curEntry b)) = false := beq_false_of_ne hrow
  unfold State.emitSlot
  simp only [hspent, inPass, hopen, Bool.and_false, Bool.false_eq_true, if_false, if_true]

/-- Settles O12: HOLD, MUTE and PAD of a word by the cycle of one vector that issues no row; EMIT and the vector of a pad granule by
what issuing a row or a pad vector leaves, kept to the end of the cycle. -/
theorem wordVectors : Obligations.WordVectors := by
  refine ⟨?emit, ?hold, ?mute, ?pad, ?padGranule⟩
  case emit =>
    rintro s b prd hemits hextra - hslot hspent hrow hopen rfl hprd hend
    obtain ⟨_, _, _, _, hb⟩ := State.bay_beginCycle s b
    have slot : (s.beginCycle b).emitSlot b = some ((s.beginCycle b).issueRow b) :=
      State.emitSlot_row hspent (by rw [hb, s.beginCycle_curEntry]; exact hrow) (by rw [hb]; exact hopen)
    obtain ⟨vec, issued, place, rows, last⟩ :=
      State.issueRow_is (s := s.beginCycle b) (b := b) (by rw [s.beginCycle_vecPrd]; exact hprd)
    rw [s.beginCycle_getB] at issued
    rw [hb] at place rows last
    have one := State.cycle_oneVector (slot := fun s => s.emitSlot b) (emits_issuing hemits) hextra hslot slot vec hend
    exact ⟨_, congrArg Host.Outcome.next (if_pos hemits), one.count, one.issued.trans issued, one.rowNext.trans place,
      one.rows.trans rows, one.lastRow.trans last, one.start, one.cycle⟩
  case hold =>
    intro s b prd hemits _ hextra hslot hprd hend
    exact ⟨_, congrArg Host.Outcome.next (if_pos hemits),
      one_held s b _ prd (emits_issuing hemits) hextra hslot hprd hend (fun s => some (s.issueVec b (s.held b false))) rfl⟩
  case mute =>
    intro s b prd hemits _ hextra hslot hprd hend
    exact ⟨_, congrArg Host.Outcome.next (if_pos hemits),
      one_held s b _ prd (emits_issuing hemits) hextra hslot hprd hend (fun s => some (s.issueVec b (s.held b true))) rfl⟩
  case pad =>
    intro s b prd hemits _ hgran hextra hslot hprd hend
    have noPad : ¬ s.padding b = true := by
      unfold State.padding
      rw [hgran, Bool.and_false]
      decide
    exact ⟨_, congrArg Host.Outcome.next ((if_neg noPad).trans (if_pos hemits)),
      one_held s b _ prd (emits_issuing hemits) hextra hslot hprd hend (fun s => some (s.issueVec b (.pad false))) rfl⟩
  case padGranule =>
    rintro s b prd hpad hextra hslot hbad rfl hend
    obtain ⟨issuing, gran⟩ := Bool.and_eq_true_iff.mp hpad
    obtain ⟨_, _, _, _, hb⟩ := State.bay_beginCycle s b
    have slot : (s.beginCycle b).padSlot b = some ((s.beginCycle b).issuePad b) := if_pos (by rw [hb]; exact gran)
    obtain ⟨vec, issued, place, rows, pad⟩ := State.issuePad_is (s := s.beginCycle b) (b := b) (by rw [hb]; exact hbad)
    rw [s.beginCycle_getB] at issued
    rw [hb] at place rows pad
    have one := State.cycle_oneVector (slot := fun s => s.padSlot b) issuing hextra hslot slot vec hend
    exact ⟨_, congrArg Host.Outcome.next (if_pos hpad), one.count, one.issued.trans issued, one.rowNext.trans place,
      one.rows.trans rows, one.pad.trans pad, one.start, one.cycle⟩

end Sys2Proof.Machine
end

section
/-! SUPPORT. Drive edges and strobes at the land (O14): which branch a lone edge and the earliest strobe take by their distance from
the last one placed, and what a placed or a suppressed one leaves. -/

namespace Sys2Proof.Machine

/-! ### Distance from the last one placed (R133, R134) -/

theorem any_nearer_of_le {last : Option Int} {t gap : Int} (h : ∀ l, last = some l → gap ≤ t - l) :
    last.any (fun l => decide (t - l < gap)) = false := by
  cases last with
  | none => rfl
  | some l => exact decide_eq_false (Int.not_lt.mpr (h l rfl))

theorem any_nearer_of_lt {last : Option Int} {l t gap : Int} (hl : last = some l) (h : t - l < gap) :
    last.any (fun l => decide (t - l < gap)) = true := by
  rw [hl]
  exact decide_eq_true h

/-! ### A drive edge (R129, R132, R133) -/

section
variable {s : State} {c : Chan}

/-- With no edge pending no land instant comes (log 5). -/
theorem State.landEdges_nil (h : (s.chan c).edges = []) : s.landEdges c = s := by
  unfold State.landEdges
  rw [h]
  rfl

/-- A lone edge that acts on DRV alone leaves the queue and sets that line. -/
theorem State.landEdges_single {e : DriveEdge} {x : Bool} (h : (s.chan c).edges = [e]) (hdrv : e.drv = some x) (hden : e.den = none) :
    s.landEdges c = (s.modChan c (fun u => { u with edges := [] })).drvLine c e.at_ x := by
  have drv : lineOf [e] (·.drv) = some x := by simp [lineOf, edgeOf, hdrv]
  have den : lineOf [e] (·.den) = none := by simp [lineOf, edgeOf, hden]
  have here : [e].filter (fun d => d.at_ == e.at_) = [e] := by simp
  have later : [e].filter (fun d => d.at_ != e.at_) = [] := by simp
  unfold State.landEdges
  simp only [h, one_edge, here, later, drv, den]

variable {t : Int} {x : Bool} (hx : (s.chan c).drv ≠ x)
include hx

theorem State.drvLine_placed (hl : ∀ l, (s.chan c).lastDrv = some l → s.inTu (bayOf c) (s.chan c).minPulse ≤ t - l) :
    s.drvLine c t x = s.modChan c (fun u => { u with drv := x, lastDrv := some t }) := by
  unfold State.drvLine
  simp only [if_neg hx, any_nearer_of_le hl, Bool.false_eq_true, if_false]

theorem State.drvLine_suppressed {l : Int} (hl : (s.chan c).lastDrv = some l) (hsoon : t - l < s.inTu (bayOf c) (s.chan c).minPulse) :
    s.drvLine c t x = (s.violate c 0 RChan.DRV_SUPPRESS_COUNT).invalidChan c := by
  unfold State.drvLine
  simp only [if_neg hx, any_nearer_of_lt hl hsoon, if_true]

end

/-- A suppressed transition is counted, and beside objects only the report of the violation is left of it. -/
theorem State.suppressed_is (s : State) (c : Chan) : let t := (s.violate c 0 RChan.DRV_SUPPRESS_COUNT).invalidChan c
    ReportFrame s t ∧ t.getC c RChan.DRV_SUPPRESS_COUNT = satAdd 32 (s.getC c RChan.DRV_SUPPRESS_COUNT) 1 :=
  ⟨(violate_frame _ _ _ _).trans (invalid_frame _ _).report,
    (invalid_getC _ _ _ _).trans (violate_count s c 0 _ (by decide) (by decide))⟩

/-! ### A strobe comes (R134) -/

section
variable {s : State} {c : Chan} {st : Strobe} (first : earliestStrobe (s.chan c).strobes = some st)
include first

/-- The earliest strobe, 50 ps or more after the last one placed, leaves the queue and is placed. -/
theorem State.landStrobe_placed (hl : ∀ p, (s.chan c).lastStrobe = some p → s.inTu (bayOf c) 200 ≤ st.at_ - p) (high low : Bool) :
    s.landStrobe c high low = (s.modChan c (fun u => { u with strobes := u.strobes.erase st })).strobe c st high low := by
  have spaced : ((s.modChan c (fun u => { u with strobes := u.strobes.erase st })).chan c).lastStrobe.any
      (fun l => decide (st.at_ - l < s.inTu (bayOf c) 200)) = false := by
    rw [State.chan_modChan_same]
    exact any_nearer_of_le hl
  unfold State.landStrobe
  rw [first]
  exact if_neg (Bool.eq_false_iff.mp spaced)

/-- A CAPTURE strobe nearer than 50 ps to the last one placed leaves the queue as a violation and an invalid capture. -/
theorem State.landStrobe_tooSoon {p : Int} (hp : (s.chan c).lastStrobe = some p) (hact : st.action = 8)
    (hsoon : st.at_ - p < s.inTu (bayOf c) 200) (high low : Bool) :
    s.landStrobe c high low = ((s.modChan c (fun u => { u with strobes := u.strobes.erase st })).violate c 3
      RChan.STROBE_SUPPRESS_COUNT).badCapture c st.v.cycle st.slot := by
  have near : ((s.modChan c (fun u => { u with strobes := u.strobes.erase st })).chan c).lastStrobe.any
      (fun l => decide (st.at_ - l < s.inTu (bayOf c) 200)) = true := by
    rw [State.chan_modChan_same]
    exact any_nearer_of_lt hp hsoon
  have takes : ¬ compares st.action = true := by
    rw [hact]
    decide
  unfold State.landStrobe
  rw [first]
  exact (if_pos near).trans (if_neg takes)

end

/-! ### What strobes record in their bay -/

@[simp] theorem State.chan_modVec (s : State) (b : Bay) (n : Nat) (f : VRec → VRec) (c : Chan) : (s.modVec b n f).chan c = s.chan c := rfl
@[simp] theorem State.getC_modVec (s : State) (b : Bay) (n : Nat) (f : VRec → VRec) (c : Chan) (o : Nat) :
    (s.modVec b n f).getC c o = s.getC c o := rfl
@[simp] theorem State.chan_queueCmp (s : State) (c : Chan) (k : Nat) (v : VInfo) (n : Nat) (w : CmpWhat) (d : Chan) :
    (s.queueCmp c k v n w).chan d = s.chan d := rfl
@[simp] theorem State.getC_queueCmp (s : State) (c : Chan) (k : Nat) (v : VInfo) (n : Nat) (w : CmpWhat) (d : Chan) (o : Nat) :
    (s.queueCmp c k v n w).getC d o = s.getC d o := rfl

theorem State.bay_modVec_same (s : State) (b : Bay) (n : Nat) (f : VRec → VRec) : (s.modVec b n f).bay b =
    { s.bay b with vrecs := (s.bay b).vrecs.map (fun r => if r.v.cycle = n then f r else r) } :=
  State.bay_modBay_same _ _ _

theorem State.bay_queueCmp_same (s : State) (c : Chan) (k : Nat) (v : VInfo) (n : Nat) (w : CmpWhat) :
    (s.queueCmp c k v n w).bay (bayOf c) =
      { s.bay (bayOf c) with cmpQ := (s.bay (bayOf c)).cmpQ ++ [⟨n + 3, placeOf c, k, v.cycle, w⟩] } :=
  State.bay_modBay_same _ _ _

theorem testBit_orBit_same (v i : Nat) : (orBit v i).testBit i = true := by
  unfold orBit
  rw [Nat.one_shiftLeft, Nat.testBit_or, Nat.testBit_two_pow_self, Bool.or_true]

/-- Every record kept of a vector shows a capture that is marked invalid in its slot (R134). -/
theorem State.badCapture_marks {s : State} {c : Chan} {n slot : Nat} {r : VRec}
    (hr : r ∈ ((s.badCapture c n slot).bay (bayOf c)).vrecs) (hn : r.v.cycle = n) :
    r.capBad.testBit (2 * (c.val % 16) + slot) = true := by
  unfold State.badCapture at hr
  rw [State.bay_modVec_same] at hr
  obtain ⟨r, -, rfl⟩ := List.mem_map.mp hr
  by_cases h : r.v.cycle = n
  · rw [if_pos h]
    exact testBit_orBit_same _ _
  · exact absurd (by rwa [if_neg h] at hn) h

/-! ### A strobe placed (R130) -/

theorem OnlyParts.trans {s t u : State} {l : List Part} (h : OnlyParts s t l) (k : OnlyParts t u l) : OnlyParts s u l :=
  fun p hp => Part.trans (h p hp) (k p hp)

/-- A CAPTURE strobe becomes the channel's last one and sends what it read to the bay's conditions, for the end of the fourth cycle
counted from its own (R17); no object changes. -/
theorem State.strobe_capture {s : State} {c : Chan} {st : Strobe} (hact : st.action = 8) (high low : Bool) :
    let t := s.strobe c st high low
    OnlyObjs s t [] ∧ OnlyParts s t [.pins, .bays] ∧ t.chan c = { s.chan c with lastStrobe := some st.at_ } ∧
    (t.bay (bayOf c)).cmpQ =
      (s.bay (bayOf c)).cmpQ ++ [⟨st.at_.toNat / 4000 + 3, placeOf c, st.num, st.v.cycle, .data high low⟩] := by
  unfold State.strobe
  simp only [if_pos hact]
  refine ⟨OnlyObjs.refl s [], ?_, ?_, ?_⟩
  · exact (State.queueCmp_kept (by decide) (State.modVec_kept (by decide) (State.modVec_kept (by decide)
      (State.modChan_kept (by decide) (Kept.refl s))))).onlyParts
  · rw [State.chan_queueCmp, State.chan_modVec, State.chan_modVec, State.chan_modChan_same]
  · rw [State.bay_queueCmp_same, State.bay_modVec_same, State.bay_modVec_same, State.bay_modChan]

/-- A judgement that leaves the bay's first-fail record fires no HISTORY (R204). -/
theorem State.judge_of_firstFail {s : State} {c : Chan} {k n : Nat} {v : VInfo} {at_ : Int} {fail : Bool}
    (h : ((s.compared c k v n at_ fail).bay (bayOf c)).firstFail = (s.bay (bayOf c)).firstFail) :
    s.judge c k v n at_ fail = s.compared c k v n at_ fail := by
  unfold State.judge
  simp only [h, Bool.not_and_self, Bool.false_eq_true, if_false]

@[simp] theorem State.bay_incC (s : State) (c : Chan) (o : Nat) (b : Bay) : (s.incC c o).bay b = s.bay b := rfl
@[simp] theorem State.chan_incC (s : State) (c : Chan) (o : Nat) (d : Chan) : (s.incC c o).chan d = s.chan d := rfl
@[simp] theorem State.getC_incC (s : State) (c : Chan) (o : Nat) : (s.incC c o).getC c o = satAdd 32 (s.getC c o) 1 :=
  State.getC_setC_same _ _ _ _
theorem State.getB_incC (s : State) (c : Chan) (o : Nat) {b : Bay} {p : Nat} (hp : p < 0x10000) :
    (s.incC c o).getB b p = s.getB b p :=
  setC_low s c o _ _ (keyB_low hp)

/-- The fail of a channel that FAIL_MASK selects is credited to the channel and its vector's record only (R187). -/
theorem State.creditFail_masked {s : State} {c : Chan} (hm : (s.getB (bayOf c) RBay.FAIL_MASK).testBit (c.val % 16) = true)
    (k n : Nat) (v : VInfo) (at_ : Int) : s.creditFail c k v n at_ =
      (s.incC c RChan.STROBE_FAIL_COUNT).modVec (bayOf c) v.cycle
        (fun r => { r with fails := orBit r.fails (4 * (c.val % 16) + k) }) := by
  rw [← State.getB_incC s c RChan.STROBE_FAIL_COUNT (by decide)] at hm
  unfold State.creditFail
  exact if_pos hm

/-- A failing compare, not of a match vector, in a quad in use and on a channel that FAIL_MASK selects: its result goes to the
conditions and it is counted on its channel (R187). -/
theorem State.judge_masked {s : State} {c : Chan} {v : VInfo} (hmatch : v.matchOf = none)
    (hret : s.retired (bayOf c) (c.val % 16 / 4) = false)
    (hm : (s.getB (bayOf c) RBay.FAIL_MASK).testBit (c.val % 16) = true) (k n : Nat) (at_ : Int) :
    let t := s.judge c k v n at_ true
    t.getC c RChan.STROBE_FAIL_COUNT = satAdd 32 (s.getC c RChan.STROBE_FAIL_COUNT) 1 ∧ t.chan c = s.chan c ∧
    (t.bay (bayOf c)).firstFail = (s.bay (bayOf c)).firstFail := by
  have compared : s.compared c k v n at_ true = ((s.queueCmp c k v n (.compare true)).incC c RChan.STROBE_FAIL_COUNT).modVec (bayOf c)
      v.cycle (fun r => { r with fails := orBit r.fails (4 * (c.val % 16) + k) }) := by
    rw [← State.creditFail_masked (s := s.queueCmp c k v n (.compare true)) hm k n v at_]
    unfold State.compared
    simp only [hmatch, hret, Bool.false_eq_true, if_false, if_true]
  have record : ((s.compared c k v n at_ true).bay (bayOf c)).firstFail = (s.bay (bayOf c)).firstFail := by
    rw [compared, State.bay_modVec_same, State.bay_incC, State.bay_queueCmp_same]
  rw [State.judge_of_firstFail record]
  refine ⟨?_, ?_, record⟩ <;> rw [compared]
  · rw [State.getC_modVec, State.getC_incC, State.getC_queueCmp]
  · rw [State.chan_modVec, State.chan_incC, State.chan_queueCmp]

/-- A failing compare strobe of such a channel becomes the channel's last strobe and is judged. -/
theorem State.strobe_masked {s : State} {c : Chan} {st : Strobe} {high low : Bool} (hcmp : compares st.action = true)
    (hmatch : st.v.matchOf = none) (hfail : compareFails st.action high low = true)
    (hret : s.retired (bayOf c) (c.val % 16 / 4) = false)
    (hm : (s.getB (bayOf c) RBay.FAIL_MASK).testBit (c.val % 16) = true) : let t := s.strobe c st high low
    t.getC c RChan.STROBE_FAIL_COUNT = satAdd 32 (s.getC c RChan.STROBE_FAIL_COUNT) 1 ∧
    t.chan c = { s.chan c with lastStrobe := some st.at_ } ∧ (t.bay (bayOf c)).firstFail = (s.bay (bayOf c)).firstFail := by
  have notCapture : st.action ≠ 8 := by
    intro h
    rw [h] at hcmp
    exact absurd hcmp (by decide)
  unfold State.strobe
  simp only [if_neg notCapture, hfail]
  obtain ⟨count, chan, record⟩ := State.judge_masked (s := (s.modChan c (fun u => { u with lastStrobe := some st.at_ })).modVec
    (bayOf c) st.v.cycle (fun r => { r with level := putBit r.level (c.val % 16) high })) hmatch hret hm st.num
    (st.at_.toNat / 4000) st.at_
  refine ⟨count, ?_, record.trans ?_⟩
  · rw [chan, State.chan_modVec, State.chan_modChan_same]
  · rw [State.bay_modVec_same, State.bay_modChan]

/-- Settles O14: a lone edge by whether the DRV line takes it, the earliest strobe by whether it is placed, and a placed one by its
action. -/
theorem edgesAndStrobes : Obligations.EdgesAndStrobes := by
  refine ⟨?placed, ?suppressed, ?nonePending, ?capture, ?fails, ?tooSoon⟩
  case placed =>
    intro s c e x hedges hdrv hden hx hl
    have lands := State.landEdges_single hedges hdrv hden
    rw [State.drvLine_placed (by rw [State.chan_modChan_same]; exact hx) (by rw [State.chan_modChan_same]; exact hl)] at lands
    refine ⟨_, congrArg Host.Outcome.next lands, ?_, (ChanFrame.modChan _ _ _).trans (ChanFrame.modChan _ _ _), OnlyObjs.refl s []⟩
    rw [State.chan_modChan_same, State.chan_modChan_same]
  case suppressed =>
    intro s c e x l hedges hdrv hden hx hl hsoon
    have lands := State.landEdges_single hedges hdrv hden
    rw [State.drvLine_suppressed (by rw [State.chan_modChan_same]; exact hx) (by rw [State.chan_modChan_same]; exact hl)
      (by rw [State.chan_modChan_same]; exact hsoon)] at lands
    obtain ⟨frame, count⟩ := State.suppressed_is (s.modChan c (fun u => { u with edges := [] })) c
    exact ⟨_, congrArg Host.Outcome.next lands, (frame.chan_eq c).trans (State.chan_modChan_same _ _ _), count,
      (ChanFrame.modChan _ _ _).trans (frame.chan c)⟩
  case nonePending =>
    intro s c h
    exact ⟨s, congrArg Host.Outcome.next (State.landEdges_nil h), rfl⟩
  case capture =>
    intro s c st high low first hact hl
    have taken : OnlyParts s (s.modChan c (fun u => { u with strobes := u.strobes.erase st })) [.pins, .bays] :=
      (State.modChan_kept (by decide) (Kept.refl s)).onlyParts
    obtain ⟨objs, parts, chan, queued⟩ :=
      State.strobe_capture (s := s.modChan c (fun u => { u with strobes := u.strobes.erase st })) (c := c) hact high low
    rw [State.chan_modChan_same] at chan
    refine ⟨_, congrArg Host.Outcome.next (State.landStrobe_placed first hl high low), objs, taken.trans parts, chan, queued⟩
  case fails =>
    intro s c st high low first hcmp hmatch hfail hret hm hl
    obtain ⟨count, chan, record⟩ :=
      State.strobe_masked (s := s.modChan c (fun u => { u with strobes := u.strobes.erase st })) hcmp hmatch hfail hret hm
    rw [State.chan_modChan_same] at chan
    exact ⟨_, congrArg Host.Outcome.next (State.landStrobe_placed first hl high low), count, congrArg ChanU.strobes chan,
      congrArg ChanU.lastStrobe chan, record⟩
  case tooSoon =>
    intro s c st high low p first hp hact hsoon
    have frame := violate_frame (s.modChan c (fun u => { u with strobes := u.strobes.erase st })) c 3 RChan.STROBE_SUPPRESS_COUNT
    refine ⟨_, congrArg Host.Outcome.next (State.landStrobe_tooSoon first hp hact hsoon high low), ?_, ?_, ?_⟩
    · exact (frame.chan_eq c).trans (State.chan_modChan_same _ _ _)
    · exact violate_count _ c 3 _ (by decide) (by decide)
    · exact fun r hr hn => State.badCapture_marks hr hn

end Sys2Proof.Machine
end

section
/-! SUPPORT. Levels, LOAD and the clear input (O15): level sets written one code at a time or as a block, a LOAD while clear is
asserted, a clear code through its ledger commit, and the clear sources of a pin die as they come and go. -/

namespace Sys2Proof.Machine

/-! ### Objects of a channel and of a bay -/

theorem keyC_ne_keyB (c : Chan) (o : Nat) {b : Bay} {p : Nat} (hp : p < 0x10000) : keyC c o ≠ keyB b p :=
  (Nat.ne_of_lt (Nat.lt_of_lt_of_le (keyB_low hp) (keyC_high c o))).symm

theorem keyC_notMem {c : Chan} {o : Nat} {l : List Nat} (h : o ∉ l) : keyC c o ∉ l.map (keyC c) := fun hm =>
  have ⟨_, hp, e⟩ := List.mem_map.mp hm
  h (keyC_inj.mp e ▸ hp)

/-- A change of some objects of bays leaves every object of a channel. -/
theorem OnlyObjs.getC {s t : State} {l : List Bay} {p : Nat} (h : OnlyObjs s t (l.map (keyB · p))) (hp : p < 0x10000) (c : Chan) (o : Nat) :
    t.getC c o = s.getC c o := by
  refine h _ fun hm => ?_
  obtain ⟨b, -, hb⟩ := List.mem_map.mp hm
  exact keyC_ne_keyB c o hp hb.symm

theorem ObjFrame.die {s t : State} (h : ObjFrame s t) (d : Die) : t.die d = s.die d := by
  unfold ObjFrame at h
  rw [h]
  rfl

theorem baysOf_nodup (d : Die) : (baysOf d).Nodup := by
  refine List.Pairwise.map _ (fun i j hne e => hne (Fin.ext ?_)) (List.nodup_finRange 4)
  have same := congrArg Fin.val e
  dsimp only at same
  omega

/-! ### Selections and level sets (R157, R159, R163) -/

theorem State.lvlSelect_taken {s : State} {b : Bay} {l : Nat} (hst : s.quiet b = true ∨ s.bst b = BS.ARMED) (hl : l < 16) :
    s.lvlSelect b l = (s.selectLevels b l).ok := by
  have allowed : (s.quiet b || s.bst b == BS.ARMED) = true := by rwa [Bool.or_eq_true, beq_iff_eq]
  unfold State.lvlSelect
  rw [if_neg (by omega), if_pos allowed]

section
variable {s : State} {c : Chan} (hq : s.quiet (bayOf c) = true)
include hq

/-- In a quiescent bay one code is judged with the set's other seven. -/
theorem State.levelWrite_one (n : Nat) (i : Fin 8) (v : BitVec 32) : s.levelWrite c n (.one i v) =
    if levelsOk ((s.levelSet c n).set i.val v.toNat) then (s.writeLevels c n ((s.levelSet c n).set i.val v.toNat)).ok
    else s.answer ST.OUT_OF_RANGE := by
  unfold State.levelWrite
  simp only [hq, Bool.not_true, Bool.false_eq_true, if_false]

/-- In a quiescent bay a block of eight legal codes is the new set. -/
theorem State.levelWrite_block (n : Nat) {d : Bytes} (hd : d.length = 32) (hok : levelsOk ((chunks 4 8 d).map ofBytes) = true) :
    s.levelWrite c n (.block d) = (s.writeLevels c n ((chunks 4 8 d).map ofBytes)).ok := by
  unfold State.levelWrite
  simp only [hq, hd, hok, Bool.not_true, Bool.false_eq_true, if_false, if_true]

end

/-- A set with one code replaced, code by code. -/
theorem levelSet_set_getD (s : State) (c : Chan) (n : Nat) (i : Fin 8) (v : Nat) {j : Nat} (hj : j < 8) :
    ((s.levelSet c n).set i.val v).getD j 0 = if j = i.val then v else s.getC c (setCode n j) := by
  rw [← levelSet_getD s c n j hj]
  by_cases h : j = i.val
  · subst h
    simp [levelSet_len]
  · simp [h, Ne.symm h]

/-! ### LOAD (R160) -/

/-- While clear is asserted a LOAD counts its strobe, and its bay notes the cycle. -/
theorem State.load_cleared {s : State} {b : Bay} (hc : s.clearOn b = true) (hfirst : (s.bay b).loadCyc ≠ some (s.bclk b)) :
    s.load b = (s.incB b RBay.LOAD_COUNT).modBay b (fun u => { u with loadCyc := some ((s.incB b RBay.LOAD_COUNT).bclk b) }) := by
  unfold State.load
  simp only [if_neg hfirst]
  exact if_pos hc

/-! ### Clear codes (R157, R166) -/

theorem exec_clearCodeWrite {s : State} {c : Chan} {e : BitVec 16} (hop : s.operational = true)
    (he : e.toNat = s.getB (bayOf c) RBay.SITE_EPOCH) (i : Fin 8) (v : BitVec 32) (m : Sample) :
    exec (.clearCodeWrite c e i v m) s = .next (s.clearCodeWrite c i v.toNat m) :=
  congrArg Host.Outcome.next ((State.hostModule_up hop _).trans (if_neg (not_not_intro he)))

/-- A legal clear code, with the energy for its ledger commit, takes effect behind the check and goes into the record. -/
theorem State.clearCodeWrite_taken {s : State} {c : Chan} {i : Fin 8} {v : Nat} {m : Sample}
    (hok : levelsOk ((s.clearCodes c).set i.val v) = true) (hstore : s.getO R.HOLDUP_STATE ≠ HS.ON_STORE)
    (henergy : classNeeds s.ledgerClass ≤ sampleEnergy m) : s.clearCodeWrite c i v m =
      (((s.recordCheck m).ledgerWrite.setClearCode c i v).ledgerPut [keyC c (RChan.CLEAR_CODE + i.val)]).ok := by
  unfold State.clearCodeWrite
  rw [if_pos hok, commitGate_ok hstore henergy]

theorem State.getC_ledgerPut (s : State) (l : List Nat) (c : Chan) (o : Nat) : (s.ledgerPut l).getC c o = s.getC c o := rfl
theorem State.ledgerPut_get (s : State) (k d : Nat) : (s.ledgerPut [k]).ledger.get k d = s.getO k := Tab.get_set_same _ _ _ _

/-- A clear code is stored, whether or not it is driven at once. -/
theorem State.getC_setClearCode (s : State) (c : Chan) (i : Fin 8) (v : Nat) :
    (s.setClearCode c i v).getC c (RChan.CLEAR_CODE + i.val) = v := by
  unfold State.setClearCode
  dsimp only
  split
  · rw [setOutputs_other _ _ _ _ _ (by simp only [RChan.CLEAR_CODE]; omega)
      (Or.inr fun j _ => by simp only [RChan.CLEAR_CODE, RChan.OUTPUT_CODE]; omega), State.getC_setC_same]
  · exact State.getC_setC_same _ _ _ _

/-- While clear is asserted the new clear code is driven. -/
theorem State.setClearCode_driven {s : State} {c : Chan} (hc : s.clearOn (bayOf c) = true) (i : Fin 8) (v : Nat) :
    (s.setClearCode c i v).getC c (RChan.OUTPUT_CODE + i.val) = v := by
  have drives : ((s.setC c (RChan.CLEAR_CODE + i.val) v).clearOn (bayOf c) ||
      (s.setC c (RChan.CLEAR_CODE + i.val) v).bst (bayOf c) == BS.OFF) = true := by
    rw [show (s.setC c (RChan.CLEAR_CODE + i.val) v).clearOn (bayOf c) = true from hc, Bool.true_or]
  unfold State.setClearCode
  dsimp only
  rw [if_pos drives, setOutputs_same _ _ _ _ i.isLt, clearCodes_getD _ _ _ i.isLt, State.getC_setC_same]

/-- The check and the ledger's write before a clear code leave the clear input. -/
theorem State.clearOn_ledgerWrite_recordCheck (s : State) (m : Sample) (b : Bay) :
    (s.recordCheck m).ledgerWrite.clearOn b = s.clearOn b := by
  unfold State.clearOn State.die
  rw [ledgerWrite_dies, recordCheck_dies]

/-! ### A clear source comes (R164) -/

theorem clearWord_first (src : ClearSrc) : clearWord (orBit 0 (clearBit src)) = 1 + 2 * 2 ^ clearBit src := by
  cases src <;> rfl

/-- What a clear source newly asserted leaves: what asserting clear does, and for a source other than the keeper a report and the
marks of the running bays' sites, which leave the objects of bays and channels. -/
theorem exec_clearAssert_new {s : State} {d : Die} {src : ClearSrc} (h : (s.die d).clear.testBit (clearBit src) = false) :
    ∃ t, exec (.clearAssert d src) s = .next t ∧ KeepsObjs (0x300000 ≤ ·) (s.assertClear d (clearBit src)) t := by
  refine ⟨_, congrArg Host.Outcome.next (if_neg (Bool.eq_false_iff.mp h)), ?_⟩
  refine KeepsObjs.ite (KeepsObjs.refl _) ?_
  refine ((KeepsObjs.refl _).fault _ _ _).trans (KeepsObjs.each (fun u b _ => ?_) _)
  exact KeepsObjs.ite (markSites_keeps u b _ fun k hk => Nat.not_le.mpr hk) (KeepsObjs.refl u)

/-- A source that joins one already there changes the die's sources and CLEAR_STATE alone. -/
theorem State.assertClear_joined {s : State} {d : Die} (h : (s.die d).clear ≠ 0) (n : Nat) :
    s.assertClear d n = (s.modDie d (fun u => { u with clear := orBit u.clear n })).showClear d := by
  unfold State.assertClear
  exact if_pos h

theorem exec_clearAssert_keeper {s : State} {d : Die} (h : (s.die d).clear.testBit (clearBit .keeper) = false) :
    exec (.clearAssert d .keeper) s = .next (s.assertClear d (clearBit .keeper)) :=
  congrArg Host.Outcome.next ((if_neg (Bool.eq_false_iff.mp h)).trans (if_pos rfl))

/-- A change of a die's clear sources, shown in its bays. -/
theorem State.showClear_modDie_is (s : State) (d : Die) (f : DieU → DieU) : let t := (s.modDie d f).showClear d
    t.die d = f (s.die d) ∧ (∀ b ∈ baysOf d, t.getB b RBay.CLEAR_STATE = clearWord (f (s.die d)).clear) ∧
    OnlyObjs s t ((baysOf d).map (keyB · RBay.CLEAR_STATE)) ∧ OnlyParts s t [.objects, .pins] := by
  obtain ⟨objs, frame, shown⟩ := showClear_is (s.modDie d f) d
  rw [State.die_modDie_same] at shown
  exact ⟨(frame.die d).trans (State.die_modDie_same s d f), shown, objs,
    (State.showClear_kept (by decide) (State.modDie_kept (by decide) (Kept.refl s))).onlyParts⟩

/-! ### A clear source goes (R165) -/

theorem exec_clearRelease_held {s : State} {d : Die} {src : ClearSrc} (h : (s.die d).clear.testBit (clearBit src) = true) :
    exec (.clearRelease d src) s = .next (s.releaseClear d (clearBit src)) :=
  congrArg Host.Outcome.next (if_pos h)

/-- Every driver inhibit of a die that a clear input gave. -/
def State.uninhibitDie (s : State) (d : Die) : State := s.each (baysOf d) (fun s b => s.inhibitBay b 5 false)

/-- The last source that goes lifts the inhibit. -/
theorem State.releaseClear_last {s : State} {d : Die} {n : Nat} (h : clrBit (s.die d).clear n = 0) :
    s.releaseClear d n = ((s.modDie d (fun u => { u with clear := clrBit u.clear n })).showClear d).uninhibitDie d := by
  obtain ⟨die, -⟩ := State.showClear_modDie_is s d (fun u => { u with clear := clrBit u.clear n })
  unfold State.releaseClear
  refine if_neg (not_not_intro ?_)
  rw [die]
  exact h

theorem State.uninhibitDie_frame (s : State) (d : Die) : ObjFrame s (s.uninhibitDie d) :=
  ObjFrame.each (fun _ _ => inhibitBay_frame _ _ _ _) s

theorem State.getB_uninhibitDie (s : State) (d : Die) (b : Bay) {o : Nat} (ho : o < 0x10000) :
    (s.uninhibitDie d).getB b o = s.getB b o :=
  KeepsObjs.each (P := (· = keyB b o)) (fun u a _ => inhibitBay_keeps u a 5 false fun c => keyC_ne_keyB c _ ho) s _ rfl

theorem State.getC_uninhibitDie (s : State) (d : Die) (c : Chan) {o : Nat} (ho : o < 0x4000) (h : o ≠ RChan.INHIBIT_CAUSE) :
    (s.uninhibitDie d).getC c o = s.getC c o :=
  each_getC _ _ c o (fun _ a _ => inhibitBay_C a 5 false c o ho h) s

/-- An inhibit of another bay leaves a channel's causes. -/
theorem inhibitBay_other {s : State} {b : Bay} {c : Chan} (h : bayOf c ≠ b) (n : Nat) (on : Bool) :
    (s.inhibitBay b n on).getC c RChan.INHIBIT_CAUSE = s.getC c RChan.INHIBIT_CAUSE :=
  each_getC _ _ c _ (fun _ a ha => State.getO_setO_ne _
    (keyC_ne_chan (by decide) (by decide) fun e => h (by rw [e]; exact mem_chansOf ha)) _) s

/-- Each channel of a die loses the cause of the clear input once, by its own bay's step. -/
theorem State.uninhibitDie_cause (s : State) {d : Die} {b : Bay} (hb : b ∈ baysOf d) {c : Chan} (hc : c ∈ chansOf b) :
    (s.uninhibitDie d).getC c RChan.INHIBIT_CAUSE = clrBit (s.getC c RChan.INHIBIT_CAUSE) 5 := by
  obtain ⟨k, -, rfl⟩ := List.mem_map.mp hc
  have place : ∀ a : Bay, chanOf a k ∈ chansOf a := fun a => List.mem_map_of_mem (List.mem_finRange k)
  refine each_own (fun a => keyC (chanOf a k) RChan.INHIBIT_CAUSE) (fun v => clrBit v 5) _ ?own ?other b _ s (baysOf_nodup d) hb
  case own => exact fun u a => inhibitBay_same u a 5 false _ (place a)
  case other => exact fun u a a' hne => inhibitBay_other (by rw [mem_chansOf (place a')]; exact hne) 5 false

/-- Settles O15: selections and level sets by what they store, a LOAD by whether clear is asserted, a clear code by its commit, a
clear source by whether it is the first to come or the last to go. -/
theorem levelsLoadAndClear : Obligations.LevelsLoadAndClear := by
  refine ⟨?select, ?load, ?loadCleared, ?oneHeld, ?oneRefused, ?blockHeld, ?clearCode, ?firstClear, ?secondClear, ?lastRelease⟩
  case select =>
    intro s b e l hr hst hl
    obtain ⟨current, frame, shadows⟩ := selectLevels_is s b l.toNat hl
    exact ⟨_, congrArg Host.Outcome.next ((State.hostBay_ready hr _).trans (State.lvlSelect_taken hst hl)), State.ok_reply _,
      (State.getB_ok _ _ _).trans current, fun c hc i hi => (State.getC_ok _ _ _).trans (shadows c hc i hi),
      frame.trans (ObjFrame.answer _ _)⟩
  case load =>
    intro s b e hr hc hfirst
    exact ⟨_, congrArg Host.Outcome.next (State.hostBay_ready hr _), rfl, load_count s b hfirst, load_out s b hc⟩
  case loadCleared =>
    intro s b e hr hc hfirst
    refine ⟨_, congrArg Host.Outcome.next ((State.hostBay_ready hr _).trans (congrArg State.ok (State.load_cleared hc hfirst))), rfl,
      State.getB_setB_same _ _ _ _, ?_, ?_⟩
    · exact (OnlyObjs.refl s _).setO (List.mem_singleton_self _) _
    · exact ((BayFrame.setO b s _ _).trans (BayFrame.modBay _ b _)).trans (BayFrame.answer b _ _)
  case oneHeld =>
    intro s c e n i v hr hq hok
    obtain ⟨frame, held, selected, others⟩ := writeLevels_is s c n.val _ n.isLt (levelsOk_len _ hok)
    refine ⟨_, congrArg Host.Outcome.next ((State.hostChan_ready hr _).trans ((State.levelWrite_one hq _ i v).trans (if_pos hok))), rfl,
      frame.trans (ObjFrame.answer _ _), ?_, ?_, others⟩
    · exact fun j hj => (held j hj).trans (levelSet_set_getD s c n.val i v.toNat hj)
    · exact fun j hj hcur => (selected j hj hcur).trans (held j hj).symm
  case oneRefused =>
    intro s c e n i v hr hq hbad
    exact Gives.onlyAnswer (congrArg Host.Outcome.next ((State.hostChan_ready hr _).trans
      ((State.levelWrite_one hq _ i v).trans (if_neg (Bool.eq_false_iff.mp hbad)))))
  case blockHeld =>
    intro s c e n d hr hq hd hok
    obtain ⟨frame, held, -⟩ := writeLevels_is s c n.val _ n.isLt (levelsOk_len _ hok)
    exact ⟨_, congrArg Host.Outcome.next ((State.hostChan_ready hr _).trans (State.levelWrite_block hq _ hd hok)), rfl,
      frame.trans (ObjFrame.answer _ _), held⟩
  case clearCode =>
    intro s c e i v m hop he hok hstore henergy
    have code := State.getC_setClearCode (s.recordCheck m).ledgerWrite c i v.toNat
    refine ⟨_, (exec_clearCodeWrite hop he i v m).trans (congrArg _ (State.clearCodeWrite_taken hok hstore henergy)), State.ok_reply _,
      ?_, ?_, fun hc => ?_⟩
    · rw [State.getC_ok, State.getC_ledgerPut, code]
    · exact (State.ledgerPut_get _ _ _).trans code
    · rw [State.getC_ok, State.getC_ledgerPut]
      exact State.setClearCode_driven ((State.clearOn_ledgerWrite_recordCheck s m _).trans hc) i v.toNat
  case firstClear =>
    intro s d src h0
    obtain ⟨t, gives, keeps⟩ := exec_clearAssert_new (d := d) (src := src) (by rw [h0, Nat.zero_testBit])
    obtain ⟨shown, cleared⟩ := clearAssert_first s d (clearBit src) h0
    refine ⟨t, gives, ?_, ?_⟩
    · exact fun b hb => ((keeps _ (keyB_high b _)).trans (shown b hb)).trans (clearWord_first src)
    · exact fun b hb c hc => (cleared b hb c hc).of_keeps fun k hk => keeps k (clearKey_lt hk).1
  case secondClear =>
    rintro s d - h0 hnew rfl
    obtain ⟨die, shown, objs, parts⟩ :=
      State.showClear_modDie_is s d (fun u => { u with clear := orBit u.clear (clearBit .keeper) })
    exact ⟨_, (exec_clearAssert_keeper hnew).trans (congrArg _ (State.assertClear_joined h0 _)), congrArg DieU.clear die, shown, objs, parts⟩
  case lastRelease =>
    intro s d src hheld hlast
    obtain ⟨die, shown, objs, parts⟩ :=
      State.showClear_modDie_is s d (fun u => { u with clear := clrBit u.clear (clearBit src) })
    refine ⟨_, (exec_clearRelease_held hheld).trans (congrArg _ (State.releaseClear_last hlast)), ?_, ?_, ?_⟩
    · exact (congrArg DieU.clear (((State.uninhibitDie_frame _ d).die d).trans die)).trans hlast
    · rw [← State.releaseClear_last hlast]
      exact (State.releaseClear_kept (by decide) (Kept.refl s)).onlyParts
    · intro b hb
      refine ⟨?_, fun c hc => ⟨?_, fun i hi => ?_⟩⟩
      · rw [State.getB_uninhibitDie _ d b (by decide), shown b hb]
        exact congrArg clearWord hlast
      · rw [State.uninhibitDie_cause _ hb hc, objs.getC (by decide)]
      · rw [State.getC_uninhibitDie _ d c (by simp only [RChan.OUTPUT_CODE]; omega) (by simp only [RChan.OUTPUT_CODE, RChan.INHIBIT_CAUSE]; omega),
          objs.getC (by decide)]

end Sys2Proof.Machine
end

section
/-! SUPPORT. Guard windows (O16): thresholds, a comparator's entry into tripped and its report, how it untrips, resolves and clears,
and what ends guard blanking and the LOAD timer. -/

namespace Sys2Proof.Machine

/-! ### Changes of one channel's objects -/

section
variable {s t : State} {l : List Nat} {c : Chan}

theorem OnlyObjs.mono (h : OnlyObjs s t l) {l' : List Nat} (hl : l ⊆ l') : OnlyObjs s t l' := fun k hk => h k fun hm => hk (hl hm)
theorem OnlyObjs.setC (h : OnlyObjs s t l) {o : Nat} (ho : keyC c o ∈ l) (v : Nat) : OnlyObjs s (t.setC c o v) l := h.setO ho v
theorem OnlyObjs.ok (h : OnlyObjs s t l) : OnlyObjs s t.ok l := fun k hk => (State.getO_ok t k).trans (h k hk)
theorem OnlyObjs.inhibit (h : OnlyObjs s t l) (hl : keyC c RChan.INHIBIT_CAUSE ∈ l) (n : Nat) (on : Bool) :
    OnlyObjs s (t.inhibit c n on) l := h.setO hl _
theorem OnlyObjs.showGuard (h : OnlyObjs s t l) (hl : keyC c RChan.GUARD_STATE ∈ l) : OnlyObjs s (t.showGuard c) l := h.setO hl _

end

theorem ObjFrame.setC (s : State) (c : Chan) (o v : Nat) : ObjFrame s (s.setC c o v) := ObjFrame.setO s _ _
theorem ObjFrame.inhibit (s : State) (c : Chan) (n : Nat) (on : Bool) : ObjFrame s (s.inhibit c n on) := ObjFrame.setO s _ _
theorem ObjFrame.showGuard (s : State) (c : Chan) : ObjFrame s (s.showGuard c) := ObjFrame.setO s _ _
theorem ObjFrame.chan {s t : State} (h : ObjFrame s t) (c : Chan) : ChanFrame c s t := h.report.chan c
theorem ObjFrame.chan_eq {s t : State} (h : ObjFrame s t) (c : Chan) : t.chan c = s.chan c := h.report.chan_eq c

theorem State.getC_inhibit_same (s : State) (c : Chan) (n : Nat) (on : Bool) :
    (s.inhibit c n on).getC c RChan.INHIBIT_CAUSE = putBit (s.getC c RChan.INHIBIT_CAUSE) n on := State.getC_setC_same _ _ _ _
theorem State.getC_inhibit_ne (s : State) (c : Chan) (n : Nat) (on : Bool) {o : Nat} (h : o ≠ RChan.INHIBIT_CAUSE) :
    (s.inhibit c n on).getC c o = s.getC c o := getC_ne s c _ h
theorem State.getC_showGuard_ne (s : State) (c : Chan) {o : Nat} (h : o ≠ RChan.GUARD_STATE) : (s.showGuard c).getC c o = s.getC c o :=
  getC_ne s c _ h
theorem State.chan_inhibit (s : State) (c : Chan) (n : Nat) (on : Bool) (d : Chan) : (s.inhibit c n on).chan d = s.chan d := rfl
theorem State.chan_showGuard (s : State) (c d : Chan) : (s.showGuard c).chan d = s.chan d := rfl

/-! ### Thresholds (R167, R172) -/

theorem State.guardWrite_taken {s : State} {c : Chan} {w : GuardReg} {v : Nat} (h : s.guardOk c w v = true) :
    s.guardWrite c w v = (s.setGuard c w v).ok := if_pos h

theorem State.guardWrite_refused {s : State} {c : Chan} {w : GuardReg} {v : Nat} (h : s.guardOk c w v = false) :
    s.guardWrite c w v = s.answer ST.OUT_OF_RANGE := if_neg (Bool.eq_false_iff.mp h)

/-! ### A trip (R169, R170, R173) -/

theorem exec_guardTrip_enters {s : State} {c : Chan} {under : Bool} (hp : s.pinPower = true)
    (hown : (s.chan c).own.testBit (cmpNo under) = false) : exec (.guardTrip c under) s = .next (s.tripNow c under) := by
  refine congrArg Host.Outcome.next (if_pos ?_)
  rw [hp, hown]
  rfl

/-- A channel after a comparator's entry into tripped, beside its latch: tripped, and its report due with the scope the comparator
had. -/
def ChanU.entered (u : ChanU) (i scope : Nat) (newLatch : Bool) : ChanU :=
  { u with own := orBit u.own i
           report := orBit (putBit (if newLatch then orBit u.report (2 + i) else u.report) (4 + i) (decide (scope ≠ 0))) i }

/-- A trip outside an assay: its entry changes the channel's own part, GUARD_STATE and INHIBIT_CAUSE, the last only where no
comparator stays UNRESOLVED; a scope other than MONITOR then sets the latch. -/
theorem State.tripNow_is {s : State} {c : Chan} (under : Bool) (h : s.getO (keyA (bayOf c) RAssay.BAY_ASSAY_STATUS) ≠ 1) :
    ∃ u, s.tripNow c under =
        (if s.scopeOf c under = 0 then u else u.setLatch c under (s.scopeOf c under)).showGuard c ∧
      u.chan c = (s.chan c).entered (cmpNo under) (s.scopeOf c under)
        (decide (s.scopeOf c under ≠ 0 ∧ s.latchedTrip c under = false)) ∧
      ChanFrame c s u ∧ OnlyObjs s u [keyC c RChan.GUARD_STATE, keyC c RChan.INHIBIT_CAUSE] ∧
      (fieldOf (clrBit (s.getC c RChan.GUARD_STATE) (4 + cmpNo under)) 4 2 ≠ 0 →
        u.getC c RChan.INHIBIT_CAUSE = s.getC c RChan.INHIBIT_CAUSE) := by
  generalize ht : s.tripNow c under = t
  unfold State.tripNow at ht
  extract_lets i newLatch s1 s2 s3 s4 at ht
  rw [if_neg h] at ht
  have objs2 : OnlyObjs s s2 [keyC c RChan.GUARD_STATE, keyC c RChan.INHIBIT_CAUSE] :=
    OnlyObjs.setC (t := s1) (OnlyObjs.refl s _) List.mem_cons_self _
  have objs3 : OnlyObjs s s3 [keyC c RChan.GUARD_STATE, keyC c RChan.INHIBIT_CAUSE] := by
    unfold s3
    split
    · exact objs2.inhibit (List.mem_cons_of_mem _ List.mem_cons_self) 4 false
    · exact objs2
  have frame3 : ObjFrame s1 s3 := by
    unfold s3
    split
    · exact (ObjFrame.setC s1 c _ _).trans (ObjFrame.inhibit s2 c 4 false)
    · exact ObjFrame.setC s1 c _ _
  have scope : s3.scopeOf c under = s.scopeOf c under := by
    refine objs3 _ ?_
    cases under <;> exact keyC_notMem (l := [RChan.GUARD_STATE, RChan.INHIBIT_CAUSE]) (by decide)
  refine ⟨s3, ?_, ?_, (ChanFrame.modChan s c _).trans (frame3.chan c), objs3, fun unresolved => ?_⟩
  · rw [← ht, ← scope]
  · rw [frame3.chan_eq]
    refine (State.chan_modChan_same s c _).trans ?_
    simp only [ChanU.entered, newLatch, decide_eq_true_eq]
    rfl
  · have guard : s2.getC c RChan.GUARD_STATE = clrBit (s.getC c RChan.GUARD_STATE) (4 + i) := State.getC_setC_same _ _ _ _
    unfold s3
    rw [guard, if_neg unresolved]
    exact getC_ne s1 c _ (by decide)

/-- A latch in CHANNEL scope inhibits its channel's driver, and leaves the channel's own part. -/
theorem State.setLatch_channel (s : State) (c : Chan) (under : Bool) : let t := s.setLatch c under 1
    ChanFrame c s t ∧ t.chan c = s.chan c ∧ t.getC c RChan.INHIBIT_CAUSE = orBit (s.getC c RChan.INHIBIT_CAUSE) 2 := by
  unfold State.setLatch
  extract_lets b fresh s1 s2 _ _ s3 t
  have frame2 : ObjFrame s s2 := by
    unfold s2
    split
    · exact (ObjFrame.setC s c _ _).trans (ObjFrame.setC s1 c _ _)
    · exact ObjFrame.setC s c _ _
  have cause2 : s2.getC c RChan.INHIBIT_CAUSE = s.getC c RChan.INHIBIT_CAUSE := by
    unfold s2
    split
    · exact (getC_ne s1 c _ (by decide)).trans (getC_ne s c _ (by decide))
    · exact getC_ne s c _ (by decide)
  have inhibited : s3 = s2.inhibit c 2 true := if_neg (by decide)
  have frame3 : ReportFrame s s3 := inhibited ▸ (frame2.trans (ObjFrame.inhibit s2 c 2 true)).report
  have cause3 : s3.getC c RChan.INHIBIT_CAUSE = orBit (s.getC c RChan.INHIBIT_CAUSE) 2 :=
    inhibited ▸ (State.getC_inhibit_same s2 c 2 true).trans (congrArg (orBit · 2) cause2)
  have frame : ReportFrame s t := by
    unfold t
    split
    · exact frame3.trans (ReportFrame.send s3 _)
    · exact frame3
  have objs : t.objs = s3.objs := by
    unfold t
    split
    · exact send_objs s3 _
    · rfl
  exact ⟨frame.chan c, frame.chan_eq c, (State.getO_of_objs objs _).trans cause3⟩

/-! ### The report of a trip (R170, R174) -/

theorem exec_guardTripReport_none {s : State} {c : Chan} {under : Bool} (h : (s.chan c).report.testBit (cmpNo under) = false) :
    exec (.guardTripReport c under) s = .next s := by
  refine congrArg Host.Outcome.next (if_pos ?_)
  rw [h]
  rfl

/-- At an island whose clock is stopped the report is taken away and counted (R14). -/
theorem exec_guardTripReport_stopped {s : State} {c : Chan} {under : Bool} (h : (s.chan c).report.testBit (cmpNo under) = true)
    (hl : s.locked (bayOf c).val = false) : exec (.guardTripReport c under) s =
      .next ((s.modChan c (fun u => { u with report := clrBit u.report (cmpNo under) })).dropEvent (bayOf c).val) := by
  refine congrArg Host.Outcome.next ((if_neg ?_).trans (if_pos ?_))
  · rw [h]
    decide
  · rw [hl]
    rfl

theorem State.chan_dropEvent (s : State) (n : Nat) (c : Chan) : (s.dropEvent n).chan c = s.chan c := rfl

theorem State.running_fault (s : State) (u k a : Nat) (b : Bay) : (s.fault u k a).running b = s.running b := by
  simp only [State.running, State.bst, State.getB, State.getO_fault]
theorem State.running_modChan (s : State) (c : Chan) (f : ChanU → ChanU) (b : Bay) : (s.modChan c f).running b = s.running b := rfl

theorem State.guardEvent_ports (s : State) (c : Chan) (under : Bool) : (s.guardEvent c under).ports = s.ports := by
  have same := (State.guardEvent_kept (m := maskOf [.free, .objects, .pins, .eventLog, .sessions]) (x_c := c) (x_under := under)
    (by decide) (Kept.refl s)).onlyParts .faultPorts (by decide)
  exact congrArg Prod.fst same

theorem State.latchEvent_ports (s : State) (c : Chan) (under : Bool) : (s.latchEvent c under).ports = s.ports := by
  have same := (State.latchEvent_kept (m := maskOf [.free, .objects, .pins, .eventLog, .sessions]) (x_c := c) (x_under := under)
    (by decide) (Kept.refl s)).onlyParts .faultPorts (by decide)
  exact congrArg Prod.fst same

/-- A channel's report is taken: none of its three marks stays. -/
def State.reportTaken (s : State) (c : Chan) (under : Bool) : State :=
  s.modChan c (fun u => { u with report := clrBit (clrBit (clrBit u.report (cmpNo under)) (2 + cmpNo under)) (4 + cmpNo under) })

theorem State.chan_reportTaken (s : State) (c : Chan) (under : Bool) : (s.reportTaken c under).chan c = { s.chan c with
    report := clrBit (clrBit (clrBit (s.chan c).report (cmpNo under)) (2 + cmpNo under)) (4 + cmpNo under) } :=
  State.chan_modChan_same _ _ _

section
variable {s : State} {c : Chan} {under : Bool} (hrep : (s.chan c).report.testBit (cmpNo under) = true)
  (hl : s.locked (bayOf c).val = true)
include hrep hl

/-- A trip in MONITOR scope is the comparator's event alone. -/
theorem exec_guardTripReport_monitor (hnew : (s.chan c).report.testBit (2 + cmpNo under) = false)
    (htrip : (s.chan c).report.testBit (4 + cmpNo under) = false) :
    exec (.guardTripReport c under) s = .next ((s.reportTaken c under).guardEvent c under) := by
  show execGuardTripReport c under s = _
  unfold execGuardTripReport
  simp only [hrep, hl, hnew, htrip, Bool.not_true, Bool.false_eq_true, if_false]
  rfl

/-- A trip in another scope, in a bay that does not run, is reported by its channel before its events, which leave the ports. -/
theorem exec_guardTripReport_latched (htrip : (s.chan c).report.testBit (4 + cmpNo under) = true)
    (hrun : s.running (bayOf c) = false) : ∃ t, exec (.guardTripReport c under) s = .next t ∧
      t.ports = ((s.reportTaken c under).fault c.val 0x10
        ((1 <<< cmpNo under) + if (s.chan c).latchBay.testBit (cmpNo under) then 4 else 0)).ports := by
  generalize hu : (s.reportTaken c under).fault c.val 0x10
    ((1 <<< cmpNo under) + if (s.chan c).latchBay.testBit (cmpNo under) then 4 else 0) = u
  refine ⟨if (s.chan c).report.testBit (2 + cmpNo under) then (u.guardEvent c under).latchEvent c under else u.guardEvent c under,
    ?_, ?_⟩
  · show execGuardTripReport c under s = _
    unfold execGuardTripReport
    simp only [hrep, hl, htrip, Bool.not_true, Bool.false_eq_true, if_false, if_true, State.chan_modChan_same, State.running_fault,
      State.running_modChan, hrun]
    rw [← hu]
    rfl
  · split
    · exact (State.latchEvent_ports _ c under).trans (State.guardEvent_ports u c under)
    · exact State.guardEvent_ports u c under

end

/-- Where a bay neither blanks nor wakes on the channel, the entry is the channel's event (R174, R175). -/
theorem State.guardEvent_only {s : State} {c : Chan} (hb : s.blanking (bayOf c) = false)
    (hw : (s.getB (bayOf c) RBay.WAKE_MASK).testBit (c.val % 16) = false) (under : Bool) :
    s.guardEvent c under = s.occur (evChan c (cmpNo under)) := by
  have wakes : ¬((s.occur (evChan c (cmpNo under))).getB (bayOf c) RBay.WAKE_MASK).testBit (c.val % 16) = true := by
    rw [getB_occur s (evChan_lt (by cases under <;> decide)) _ (by decide), hw]
    decide
  unfold State.guardEvent
  simp only [hb, Bool.false_eq_true, if_false]
  exact if_neg wakes

/-! ### A comparator untrips, resolves or is cleared (R167, R171, R173) -/

theorem exec_guardUntrip_resolved {s : State} {c : Chan} {under : Bool}
    (h : (s.getC c RChan.GUARD_STATE).testBit (4 + cmpNo under) = false) : exec (.guardUntrip c under) s =
      .next ((s.modChan c (fun u => { u with own := clrBit u.own (cmpNo under) })).showGuard c) :=
  congrArg Host.Outcome.next (if_neg (Bool.eq_false_iff.mp h))

theorem exec_guardUntrip_unresolved {s : State} {c : Chan} {under : Bool}
    (h : (s.getC c RChan.GUARD_STATE).testBit (4 + cmpNo under) = true) : exec (.guardUntrip c under) s = .next s :=
  congrArg Host.Outcome.next (if_pos h)

/-- A comparator is no longer UNRESOLVED; the driver inhibit goes with the channel's last. -/
def State.resolved (s : State) (c : Chan) (i : Nat) : State :=
  let s := s.setC c RChan.GUARD_STATE (clrBit (s.getC c RChan.GUARD_STATE) (4 + i))
  if fieldOf (s.getC c RChan.GUARD_STATE) 4 2 = 0 then s.inhibit c 4 false else s

theorem exec_guardResolve_acts {s : State} {c : Chan} {under : Bool} (hp : s.pinPower = true)
    (h : (s.getC c RChan.GUARD_STATE).testBit (4 + cmpNo under) = true) : exec (.guardResolve c under) s =
      .next (((s.resolved c (cmpNo under)).modChan c (fun u => { u with own := clrBit u.own (cmpNo under) })).showGuard c) := by
  refine congrArg Host.Outcome.next (if_pos ?_)
  rw [hp, h]
  rfl

theorem State.resolved_is (s : State) (c : Chan) (i : Nat) : let t := s.resolved c i
    ObjFrame s t ∧ OnlyObjs s t [keyC c RChan.GUARD_STATE, keyC c RChan.INHIBIT_CAUSE] ∧
    t.getC c RChan.INHIBIT_CAUSE = (if fieldOf (clrBit (s.getC c RChan.GUARD_STATE) (4 + i)) 4 2 = 0 then
      clrBit (s.getC c RChan.INHIBIT_CAUSE) 4 else s.getC c RChan.INHIBIT_CAUSE) := by
  have objs : OnlyObjs s (s.setC c RChan.GUARD_STATE (clrBit (s.getC c RChan.GUARD_STATE) (4 + i)))
    [keyC c RChan.GUARD_STATE, keyC c RChan.INHIBIT_CAUSE] := (OnlyObjs.refl s _).setC List.mem_cons_self _
  have frame := ObjFrame.setC s c RChan.GUARD_STATE (clrBit (s.getC c RChan.GUARD_STATE) (4 + i))
  have cause := getC_ne s c (o := RChan.GUARD_STATE) (p := RChan.INHIBIT_CAUSE) (clrBit (s.getC c RChan.GUARD_STATE) (4 + i)) (by decide)
  unfold State.resolved
  simp only [State.getC_setC_same]
  split
  · refine ⟨frame.trans (ObjFrame.inhibit _ c 4 false), objs.inhibit (List.mem_cons_of_mem _ List.mem_cons_self) 4 false, ?_⟩
    rw [State.getC_inhibit_same, cause]
    rfl
  · exact ⟨frame, objs, cause⟩

theorem State.tripClear_accepted {s : State} {c : Chan} (hst : s.bst (bayOf c) = BS.SAFE ∨ s.quiet (bayOf c) = true)
    (hraw : fieldOf (s.getC c RChan.GUARD_STATE) 0 2 = 0) (hmarks : fieldOf (s.getC c RChan.GUARD_STATE) 4 4 = 0) :
    s.tripClear c = (s.clearLatches c).ok := by
  refine if_pos ?_
  unfold State.quiet at hst
  simp only [Bool.or_eq_true, beq_iff_eq] at hst
  simp only [hraw, hmarks, Bool.and_eq_true, Bool.or_eq_true, beq_iff_eq, and_true, or_assoc]
  exact hst

theorem State.tripClear_refused {s : State} {c : Chan}
    (h : s.bst (bayOf c) = BS.ARMED ∨ s.running (bayOf c) = true ∨ fieldOf (s.getC c RChan.GUARD_STATE) 0 2 ≠ 0) :
    s.tripClear c = s.answer ST.STATE_LOCKED := by
  refine if_neg fun accepted => ?_
  unfold State.running at h
  simp only [Bool.and_eq_true, Bool.or_eq_true, beq_iff_eq] at h accepted
  obtain ⟨⟨st, raw⟩, -⟩ := accepted
  simp only [BS.SAFE, BS.IDLE, BS.ARMED, BS.RUN, BS.PAUSE, BS.MAINT] at h st
  omega

/-- TRIP_CLEAR takes both latches of the channel away, with its part in the bay's trip. -/
theorem State.clearLatches_is (s : State) (c : Chan) : ((s.clearLatches c).chan c).latchBay = 0 ∧
    (s.clearLatches c).getC c RChan.GUARD_STATE = clrBit (clrBit (s.getC c RChan.GUARD_STATE) 2) 3 := by
  unfold State.clearLatches
  extract_lets b s1 s2
  have chan2 : (s2.chan c).latchBay = 0 := by
    unfold s2
    rw [State.chan_inhibit, State.chan_modChan_same]
  have guard2 : s2.getC c RChan.GUARD_STATE = clrBit (clrBit (s.getC c RChan.GUARD_STATE) 2) 3 :=
    (State.getC_inhibit_ne (s1.modChan c _) c 2 false (by decide)).trans (State.getC_setC_same s c _ _)
  split
  · exact ⟨chan2, guard2⟩
  · refine ⟨?_, ?_⟩
    · rw [State.chan_setB, State.chan_setB, (inhibitBay_frame s2 b 3 false).chan_eq, chan2]
    · rw [setB_C _ _ _ _ (by decide), setB_C _ _ _ _ (by decide), inhibitBay_C b 3 false c _ (by decide) (by decide), guard2]

/-! ### Blanking and the LOAD timer (R175, R176) -/

theorem exec_blankExpiry_running {s : State} {b : Bay} {t0 : Nat} (ht : (s.bay b).timer = some t0) (hb : s.blanking b = true) :
    exec (.blankExpiry b) s = .next ((s.advance t0).endBlank b) := by
  show execBlankExpiry b s = _
  unfold execBlankExpiry
  rw [ht]
  exact congrArg Host.Outcome.next (if_pos hb)

theorem exec_loadTimerExpiry_claimed {s : State} {b : Bay} {t0 : Nat} (ht : (s.bay b).timer = some t0)
    (hc : s.claimedFor (.blankTimer b) 0x02 = true) :
    exec (.loadTimerExpiry b) s = .next (((s.advance t0).modBay b (fun u => { u with timer := none })).load b) := by
  show execLoadTimerExpiry b s = _
  unfold execLoadTimerExpiry
  rw [ht]
  exact congrArg Host.Outcome.next (if_pos hc)

theorem State.endBlank_now (s : State) (b : Bay) : (s.endBlank b).now = s.now :=
  (State.endBlank_kept (m := maskOf [.free, .objects, .bays, .pins, .eventLog, .sessions]) (by decide) (Kept.refl s)).onlyParts
    .clock (by decide)

/-- The cycle a bay is in, and the cycle of its last LOAD, do not rest on its timer. -/
theorem State.bclk_modBay_timer (s : State) (b : Bay) (x : Option Nat) :
    (s.modBay b (fun u => { u with timer := x })).bclk b = s.bclk b := by
  unfold State.bclk
  rw [State.bay_modBay_same]
  rfl

end Sys2Proof.Machine
end

section
/-! SUPPORT. The parametric unit and lost control links (O16): a unit connected and its ranges, a measurement from its start over its
samples to its mean, and the bay made safe when its control link is lost. -/

namespace Sys2Proof.Machine

/-! ### The parametric unit (R181, R182) -/

theorem State.endMeas_is (s : State) (c : Chan) (n : Nat) : ObjFrame s (s.endMeas c n) ∧ OnlyObjs s (s.endMeas c n) [keyC c RChan.MEAS_STATUS] := by
  unfold State.endMeas
  dsimp only
  split
  · exact ⟨ObjFrame.setC s c _ _, (OnlyObjs.refl s _).setC List.mem_cons_self _⟩
  · exact ⟨ObjFrame.refl s, OnlyObjs.refl s _⟩

/-- Where the bay allows it a mode other than DISCONNECTED connects the unit; a measurement of another mode ends first. -/
theorem State.pmuMode_connects {s : State} {c : Chan} {m : Nat} (hlo : 1 ≤ m) (hhi : m ≤ 3) (hoff : s.bst (bayOf c) ≠ BS.OFF)
    (hsafe : s.bst (bayOf c) ≠ BS.SAFE) (hmaint : s.bst (bayOf c) ≠ BS.MAINT) (hclear : s.clearOn (bayOf c) = false) :
    ∃ u, ObjFrame s u ∧ OnlyObjs s u [keyC c RChan.MEAS_STATUS] ∧
      s.pmuMode c m = (((u.setC c RChan.PMU_MODE m).flagC c RChan.PMU_FLAGS 1).inhibit c 7 true).ok := by
  have allowed : ¬(s.bst (bayOf c) = BS.OFF ∨ s.bst (bayOf c) = BS.SAFE ∨ s.bst (bayOf c) = BS.MAINT ∨ s.clearOn (bayOf c) = true) := by
    simp [hoff, hsafe, hmaint, hclear]
  have mode : s.pmuMode c m = ((((if s.getC c RChan.PMU_MODE = m then s else s.endMeas c 5).setC c RChan.PMU_MODE m).flagC c
      RChan.PMU_FLAGS 1).inhibit c 7 true).ok := by
    unfold State.pmuMode
    simp only [if_neg (show ¬3 < m by omega), if_neg (show m ≠ 0 by omega), if_neg allowed]
  by_cases same : s.getC c RChan.PMU_MODE = m
  · exact ⟨s, ObjFrame.refl s, OnlyObjs.refl s _, by rw [mode, if_pos same]⟩
  · obtain ⟨frame, objs⟩ := s.endMeas_is c 5
    exact ⟨_, frame, objs, by rw [mode, if_neg same]⟩

/-- A unit that has been connected: its mode, with the driver inhibited. -/
theorem State.connected_is {s u : State} {c : Chan} (frame : ObjFrame s u) (objs : OnlyObjs s u [keyC c RChan.MEAS_STATUS]) (m : Nat) :
    let t := ((u.setC c RChan.PMU_MODE m).flagC c RChan.PMU_FLAGS 1).inhibit c 7 true
    t.getC c RChan.PMU_MODE = m ∧ t.getC c RChan.INHIBIT_CAUSE = orBit (s.getC c RChan.INHIBIT_CAUSE) 7 ∧
    OnlyObjs s t [keyC c RChan.MEAS_STATUS, keyC c RChan.PMU_MODE, keyC c RChan.PMU_FLAGS, keyC c RChan.INHIBIT_CAUSE] ∧ ObjFrame s t := by
  have cause : u.getC c RChan.INHIBIT_CAUSE = s.getC c RChan.INHIBIT_CAUSE :=
    objs _ (keyC_notMem (l := [RChan.MEAS_STATUS]) (by decide))
  have started : OnlyObjs s u [keyC c RChan.MEAS_STATUS, keyC c RChan.PMU_MODE, keyC c RChan.PMU_FLAGS, keyC c RChan.INHIBIT_CAUSE] :=
    objs.mono (List.cons_subset_cons _ (List.nil_subset _))
  unfold State.flagC
  refine ⟨?_, ?_, ((started.setC (by simp) _).setC (by simp) _).inhibit (by simp) 7 true, ?_⟩
  · rw [State.getC_inhibit_ne _ c 7 true (by decide), getC_ne _ c _ (by decide), State.getC_setC_same]
  · rw [State.getC_inhibit_same, getC_ne _ c _ (by decide), getC_ne _ c _ (by decide), cause]
    rfl
  · exact ((frame.trans (ObjFrame.setC u c _ _)).trans (ObjFrame.setC _ c _ _)).trans (ObjFrame.inhibit _ c 7 true)

/-- In SAFE and MAINT no unit is connected. -/
theorem State.pmuMode_locked {s : State} {c : Chan} {m : Nat} (hlo : 1 ≤ m) (hhi : m ≤ 3)
    (hst : s.bst (bayOf c) = BS.SAFE ∨ s.bst (bayOf c) = BS.MAINT) : s.pmuMode c m = s.answer ST.STATE_LOCKED := by
  unfold State.pmuMode
  rw [if_neg (by omega), if_neg (by omega)]
  exact if_pos (.inr (hst.imp_right .inl))

theorem State.pmuRange_held {s : State} {c : Chan} {r : Nat} (h : r ≤ 4) : s.pmuRange c r = (s.setC c RChan.PMU_RANGE r).ok :=
  if_neg (by omega)

/-! ### Measurements (R177, R181, R183) -/

/-- A channel's own part as MEAS_START leaves it, at an instant and a slot count, for a number of samples after a delay. -/
def ChanU.measuring (u : ChanU) (at_ : Nat × Nat) (wait n : Nat) : ChanU :=
  { u with measAt := at_, measWait := wait, measTotal := n, measLeft := n, measSum := 0, clampHit := false }

/-- With its converter in service a measurement begins with the delay set, or the settle time of its range for none. -/
theorem State.measStart_begins {s : State} {c : Chan} (h : (s.die (dieOf (bayOf c))).convFail.testBit (c.val % 64 / 8) = false) :
    ∃ at_, s.measStart c = ((s.setC c RChan.MEAS_STATUS 1).modChan c (fun u => u.measuring at_
      (if s.getC c RChan.MEAS_DELAY = 0 then settleTime (s.getC c RChan.PMU_RANGE) else s.getC c RChan.MEAS_DELAY * 1000000)
      (s.getC c RChan.MEAS_COUNT))).ok :=
  ⟨_, if_neg (Bool.eq_false_iff.mp h)⟩

theorem exec_measDone_all {s : State} {c : Chan} (h : s.getC c RChan.MEAS_STATUS = 2 ∧ (s.chan c).measLeft = 0) : exec (.measDone c) s =
    .next ((s.setC c RChan.MEAS_RESULT (s.measMean c).toNat).setC c RChan.MEAS_STATUS (if (s.chan c).clampHit then 4 else 3)) :=
  congrArg Host.Outcome.next (if_pos h)

theorem exec_measDone_before {s : State} {c : Chan} (h : s.getC c RChan.MEAS_STATUS ≠ 2 ∨ (s.chan c).measLeft ≠ 0) :
    exec (.measDone c) s = .next s :=
  congrArg Host.Outcome.next (if_neg fun all => h.elim (· all.1) (· all.2))

/-- One more slot of a converter has run. -/
def DieU.slotRun (u : DieU) (cv : Fin 8) : DieU :=
  { u with slotsRun := u.slotsRun.set cv.val (u.slotsRun.get cv + 1) cv.isLt }

/-- A parametric slot of a converter in service, but the last of the frame, is its channel's (R177). -/
theorem exec_converterSlot_parametric {s : State} {d : Die} {cv : Fin 8} {k : Fin 512} (hp : s.pinPower = true) (hk : 96 ≤ k.val)
    (hlast : k.val ≠ 511) (hgood : (s.die d).convFail.testBit cv.val = false) (x : Int) (clamp : Bool) :
    exec (.converterSlot d cv k x clamp) s =
      .next ((s.modDie d (·.slotRun cv)).measSlot (convChan d cv ⟨(k.val - 96) % 8, by omega⟩) x clamp) := by
  refine congrArg Host.Outcome.next ((if_pos hp).trans ?_)
  unfold State.convSlot
  simp only [dif_neg (show ¬k.val < 80 by omega), dif_neg (show ¬k.val < 88 by omega), if_neg (show ¬(k.val = 88 ∨ k.val = 89) by omega),
    if_pos hk, hgood, Bool.false_eq_true, if_false, if_neg (show ¬(k.val = 511 ∧ cv.val % 2 = 1) by omega)]
  rfl

/-- While the unit is connected, CLAMPED follows its clamps. -/
def State.showClamp (s : State) (c : Chan) (clamp : Bool) : State :=
  if s.getC c RChan.PMU_MODE = 0 then s else s.setC c RChan.PMU_FLAGS (putBit (s.getC c RChan.PMU_FLAGS) 0 clamp)

theorem State.showClamp_is (s : State) (c : Chan) (clamp : Bool) : ObjFrame s (s.showClamp c clamp) ∧
    OnlyObjs s (s.showClamp c clamp) [keyC c RChan.PMU_FLAGS] ∧
    (s.getC c RChan.PMU_MODE ≠ 0 → (s.showClamp c clamp).getC c RChan.PMU_FLAGS = putBit (s.getC c RChan.PMU_FLAGS) 0 clamp) := by
  unfold State.showClamp
  split
  · exact ⟨ObjFrame.refl s, OnlyObjs.refl s _, fun h => absurd ‹_› h⟩
  · exact ⟨ObjFrame.setC s c _ _, (OnlyObjs.refl s _).setC List.mem_cons_self _, fun _ => State.getC_setC_same _ _ _ _⟩

/-- A channel's own part with one more sample. -/
def ChanU.sampled (u : ChanU) (x : Int) (clamp : Bool) : ChanU :=
  { u with measLeft := u.measLeft - 1, measSum := u.measSum + x, clampHit := u.clampHit || clamp }

/-- A slot of a measurement whose delay is over takes a sample, as the unit can show it. -/
theorem State.measSlot_samples {s : State} {c : Chan} (hst : s.getC c RChan.MEAS_STATUS = 2 ∨
      (s.getC c RChan.MEAS_STATUS = 1 ∧ s.measSettled c = true)) (hleft : (s.chan c).measLeft ≠ 0) (x : Int) (clamp : Bool) :
    s.measSlot c x clamp =
      ((s.showClamp c clamp).setC c RChan.MEAS_STATUS 2).modChan c (·.sampled (s.sampleOf c x) clamp) := by
  obtain ⟨frame, objs, -⟩ := s.showClamp_is c clamp
  have sample : (s.showClamp c clamp).sampleOf c x = s.sampleOf c x := by
    unfold State.sampleOf State.measCurrent State.getC
    rw [objs _ (keyC_notMem (o := RChan.PMU_MODE) (l := [RChan.PMU_FLAGS]) (by decide)),
      objs _ (keyC_notMem (o := RChan.PMU_RANGE) (l := [RChan.PMU_FLAGS]) (by decide))]
  have settled : (s.showClamp c clamp).measSettled c = s.measSettled c := by
    unfold State.measSettled
    rw [frame.chan_eq, frame.die, frame.clock]
  have chan : (s.showClamp c clamp).chan c = s.chan c := frame.chan_eq c
  rw [← sample]
  exact if_pos (by
    show (_ ∨ _ ∧ (s.showClamp c clamp).measSettled c = true) ∧ ((s.showClamp c clamp).chan c).measLeft ≠ 0
    rw [settled, chan]
    exact ⟨hst, hleft⟩)

/-- What such a slot leaves: the measurement SAMPLING, one sample more, and CLAMPED where the unit is connected. -/
theorem State.measSlot_is {s : State} {c : Chan} (hst : s.getC c RChan.MEAS_STATUS = 2 ∨
      (s.getC c RChan.MEAS_STATUS = 1 ∧ s.measSettled c = true)) (hleft : (s.chan c).measLeft ≠ 0) (x : Int) (clamp : Bool) :
    let t := s.measSlot c x clamp
    t.getC c RChan.MEAS_STATUS = 2 ∧ t.chan c = (s.chan c).sampled (s.sampleOf c x) clamp ∧
    (s.getC c RChan.PMU_MODE ≠ 0 → t.getC c RChan.PMU_FLAGS = putBit (s.getC c RChan.PMU_FLAGS) 0 clamp) ∧
    OnlyObjs s t [keyC c RChan.MEAS_STATUS, keyC c RChan.PMU_FLAGS] := by
  obtain ⟨frame, objs, flags⟩ := s.showClamp_is c clamp
  have shown : OnlyObjs s (s.showClamp c clamp) [keyC c RChan.MEAS_STATUS, keyC c RChan.PMU_FLAGS] :=
    objs.mono (List.subset_cons_self _ _)
  rw [State.measSlot_samples hst hleft]
  refine ⟨State.getC_setC_same _ _ _ _, ?_, fun hmode => ?_, shown.setC List.mem_cons_self _⟩
  · rw [State.chan_modChan_same, State.chan_setC, frame.chan_eq]
  · rw [State.getC_modChan, getC_ne _ c _ (by decide), flags hmode]

/-- A delay that is over stays over with the next slot of the channel's converter. -/
theorem State.measSettled_slotRun {s : State} {d : Die} {cv j : Fin 8} (h : s.measSettled (convChan d cv j) = true) :
    (s.modDie d (·.slotRun cv)).measSettled (convChan d cv j) = true := by
  have die : dieOf (bayOf (convChan d cv j)) = d := Fin.ext (by simp only [dieOf, bayOf, convChan]; omega)
  have conv : (⟨(convChan d cv j).val % 64 / 8, by omega⟩ : Fin 8) = cv := Fin.ext (by simp only [convChan]; omega)
  have more : ((s.modDie d (·.slotRun cv)).die d).slotsRun.get cv = (s.die d).slotsRun.get cv + 1 := by
    rw [State.die_modDie_same]
    exact vget_set_same _ _ _
  unfold State.measSettled at h ⊢
  simp only [die, conv, Bool.or_eq_true, decide_eq_true_eq, more] at h ⊢
  refine h.imp id fun elapsed => ?_
  show ((s.chan (convChan d cv j)).measWait) ≤ 2000000 * ((s.die d).slotsRun.get cv + 1 - (s.chan (convChan d cv j)).measAt.2)
  omega

/-! ### A control link is lost (R151, R184) -/

theorem exec_controlLinkLost_powered {s : State} {b : Bay} (hp : s.pinPower = true) : exec (.controlLinkLost b) s =
    .next (((s.inhibitBay b 6 true).pmuOffBay b).send
      { unit := 0x130 + (dieOf b).val, kind := 0x3B, severity := 2, inject := false, epoch := 0, address := 1 <<< (b.val % 4) }) :=
  congrArg Host.Outcome.next (if_pos hp)

/-- A channel whose unit is disconnected stays so while the units of others are. -/
theorem State.pmuOff_other {s : State} {c d : Chan} (h : d ≠ c) : (s.pmuOff d).getC c RChan.PMU_MODE = s.getC c RChan.PMU_MODE :=
  pmuOff_keeps (P := (· = keyC c RChan.PMU_MODE)) s d (keyC_ne_chan (by decide) (by decide) h) (keyC_ne_chan (by decide) (by decide) h)
    (keyC_ne_chan (by decide) (by decide) h) (keyC_ne_chan (by decide) (by decide) h) _ rfl

theorem State.pmuOffBay_mode (s : State) {b : Bay} {c : Chan} (hc : c ∈ chansOf b) : (s.pmuOffBay b).getC c RChan.PMU_MODE = 0 := by
  unfold State.pmuOffBay
  refine State.each_sets (f := State.pmuOff) (P := fun u => u.getC c RChan.PMU_MODE = 0) c hc (fun u => pmuOff_mode u c)
    (fun u d hu => ?_) s
  by_cases h : d = c
  · rw [h]
    exact pmuOff_mode u c
  · exact (State.pmuOff_other h).trans hu

theorem State.pmuOff_frame (s : State) (c : Chan) : ObjFrame s (s.pmuOff c) := by
  obtain ⟨frame, -⟩ := s.endMeas_is c 5
  unfold State.pmuOff
  split
  · exact frame
  · exact ((frame.trans (ObjFrame.setC _ c _ _)).trans (ObjFrame.setC _ c _ _)).trans (ObjFrame.inhibit _ c 7 false)

theorem ObjFrame.ports {s t : State} (h : ObjFrame s t) : t.ports = s.ports := by
  unfold ObjFrame at h
  rw [h]

theorem State.pmuOffBay_frame (s : State) (b : Bay) : ObjFrame s (s.pmuOffBay b) := ObjFrame.each State.pmuOff_frame s

/-- Settles O16: thresholds by the window they keep, a trip and its report by the comparator's scope and what the bay does, the ends
of a trip and of the two timers by their conditions, the parametric unit by its bay's state, a measurement by what is left of it. -/
theorem guardsAndMeasurements : Obligations.GuardsAndMeasurements := by
  refine ⟨?threshold, ?thresholdRefused, ?tripMonitor, ?tripChannel, ?reportNone, ?reportStopped, ?reportMonitor, ?reportLatched,
    ?untrip, ?untripUnresolved, ?resolve, ?clear, ?clearRefused, ?blankEnds, ?loadTimer, ?connect, ?connectLocked, ?range, ?measStart,
    ?measDone, ?measNotDone, ?sample, ?linkLost⟩
  case threshold =>
    intro s c e w v hr hok
    obtain ⟨held, objs, frame⟩ := setGuard_is s c w v.toNat
    exact ⟨_, congrArg Host.Outcome.next ((State.hostChan_ready hr _).trans (State.guardWrite_taken hok)), State.ok_reply _,
      (State.getC_ok _ _ _).trans held, objs, frame.trans (ChanFrame.answer _ _ _)⟩
  case thresholdRefused =>
    intro s c e w v hr hbad
    exact Gives.onlyAnswer (congrArg Host.Outcome.next ((State.hostChan_ready hr _).trans (State.guardWrite_refused hbad)))
  case tripMonitor =>
    intro s c under hp hown hassay hscope
    obtain ⟨u, trips, chan, frame, objs, -⟩ := State.tripNow_is under hassay
    rw [if_pos hscope] at trips
    rw [hscope] at chan
    refine ⟨_, (exec_guardTrip_enters hp hown).trans (congrArg _ trips), frame.trans ((ObjFrame.showGuard u c).chan c), ?_, ?_,
      objs.showGuard List.mem_cons_self⟩
    · rw [State.chan_showGuard, chan]
      rfl
    · rw [State.chan_showGuard, chan]
      rfl
  case tripChannel =>
    intro s c under hp hown hassay hscope hfresh hleft
    obtain ⟨u, trips, chan, frame, -, cause⟩ := State.tripNow_is under hassay
    rw [if_neg (by rw [hscope]; decide), hscope] at trips
    obtain ⟨latchFrame, latchChan, latchCause⟩ := State.setLatch_channel u c under
    refine ⟨_, (exec_guardTrip_enters hp hown).trans (congrArg _ trips),
      (frame.trans latchFrame).trans ((ObjFrame.showGuard _ c).chan c), ?_, ?_⟩
    · rw [State.chan_showGuard, latchChan, chan]
      rfl
    · rw [State.getC_showGuard_ne _ c (by decide), latchCause, cause hleft]
  case reportNone =>
    intro s c under hrep
    exact ⟨s, exec_guardTripReport_none hrep, rfl⟩
  case reportStopped =>
    intro s c under hrep hl
    refine ⟨_, exec_guardTripReport_stopped hrep hl, Tab.get_set_same _ _ _ _, ?_, ?_⟩
    · rw [State.chan_dropEvent, State.chan_modChan_same]
    · exact (State.dropEvent_kept (by decide) (State.modChan_kept (by decide) (Kept.refl s))).onlyParts
  case reportMonitor =>
    intro s c under hrep hnew hl htrip hb hw
    have only : (s.reportTaken c under).guardEvent c under = (s.reportTaken c under).occur (evChan c (cmpNo under)) :=
      State.guardEvent_only (s := s.reportTaken c under) hb hw under
    have num : evChan c (cmpNo under) < 2048 := evChan_lt (by cases under <;> decide)
    refine ⟨_, (exec_guardTripReport_monitor hrep hl hnew htrip).trans (congrArg _ only), ?_, State.count_occur _ _,
      OnlyObjsEv.occur (t := s.reportTaken c under) (OnlyObjs.refl s []).ev num,
      (ChanFrame.modChan s c _).trans ((State.occur_frame _ _).chan c)⟩
    rw [State.chan_occur, State.chan_reportTaken]
  case reportLatched =>
    intro s c under hrep htrip hl hrun hroom
    obtain ⟨t, gives, ports⟩ := exec_guardTripReport_latched hrep hl htrip hrun
    exact ⟨t, gives, (congrArg (Tab.get · c.val []) ports).trans
      (State.ports_fault (s := s.reportTaken c under) _ (by decide) hroom)⟩
  case untrip =>
    intro s c under h
    refine ⟨_, exec_guardUntrip_resolved h, ?_, ?_, ?_⟩
    · rw [State.chan_showGuard, State.chan_modChan_same]
    · exact OnlyObjs.showGuard (t := s.modChan c _) (OnlyObjs.refl s _) (List.mem_singleton_self _)
    · exact (ChanFrame.modChan s c _).trans ((ObjFrame.showGuard _ c).chan c)
  case untripUnresolved =>
    intro s c under h
    exact ⟨s, exec_guardUntrip_unresolved h, rfl⟩
  case resolve =>
    intro s c under hp h
    obtain ⟨frame, objs, cause⟩ := State.resolved_is s c (cmpNo under)
    refine ⟨_, exec_guardResolve_acts hp h, ?_, fun hlast => ?_, ?_, ?_⟩
    · rw [State.chan_showGuard, State.chan_modChan_same, frame.chan_eq]
    · rw [State.getC_showGuard_ne _ c (by decide), State.getC_modChan, cause, if_pos hlast]
    · exact OnlyObjs.showGuard (t := (s.resolved c _).modChan c _) objs List.mem_cons_self
    · exact ((frame.chan c).trans (ChanFrame.modChan _ c _)).trans ((ObjFrame.showGuard _ c).chan c)
  case clear =>
    intro s c e hr hst hraw hmarks
    obtain ⟨latch, guard⟩ := State.clearLatches_is s c
    refine ⟨_, congrArg Host.Outcome.next ((State.hostChan_ready hr _).trans (State.tripClear_accepted hst hraw hmarks)),
      State.ok_reply _, ?_, (State.getC_ok _ _ _).trans guard⟩
    rw [State.chan_ok, latch]
  case clearRefused =>
    intro s c e hr h
    exact Gives.onlyAnswer (congrArg Host.Outcome.next ((State.hostChan_ready hr _).trans (State.tripClear_refused h)))
  case blankEnds =>
    intro s b t0 ht hb
    obtain ⟨ended, timer, -⟩ := endBlank_is (s.advance t0) b
    exact ⟨_, exec_blankExpiry_running ht hb, ended, timer, State.endBlank_now _ b⟩
  case loadTimer =>
    intro s b t0 ht hclaim hclear hfirst
    refine ⟨_, exec_loadTimerExpiry_claimed ht hclaim, load_count _ b ?_, load_out _ b hclear⟩
    rw [State.bclk_modBay_timer, State.bay_modBay_same]
    exact hfirst
  case connect =>
    intro s c e m hr hlo hhi hoff hsafe hmaint hclear
    obtain ⟨u, frame, objs, connects⟩ := State.pmuMode_connects hlo hhi hoff hsafe hmaint hclear
    obtain ⟨mode, cause, others, only⟩ := State.connected_is frame objs m.toNat
    exact ⟨_, congrArg Host.Outcome.next ((State.hostChan_ready hr _).trans connects), State.ok_reply _,
      (State.getC_ok _ _ _).trans mode, (State.getC_ok _ _ _).trans cause, others.ok, only.trans (ObjFrame.answer _ _)⟩
  case connectLocked =>
    intro s c e m hr hlo hhi hst
    exact Gives.onlyAnswer (congrArg Host.Outcome.next ((State.hostChan_ready hr _).trans (State.pmuMode_locked hlo hhi hst)))
  case range =>
    intro s c e r hr h
    exact ⟨_, congrArg Host.Outcome.next ((State.hostChan_ready hr _).trans (State.pmuRange_held h)), State.ok_reply _,
      (State.getC_ok _ _ _).trans (State.getC_setC_same _ _ _ _), ((OnlyObjs.refl s _).setC (List.mem_singleton_self _) _).ok,
      (ObjFrame.setC s c _ _).trans (ObjFrame.answer _ _)⟩
  case measStart =>
    intro s c e hr h
    obtain ⟨at_, begins⟩ := State.measStart_begins h
    have chan := (State.chan_ok _ c).trans (State.chan_modChan_same (s.setC c RChan.MEAS_STATUS 1) c (·.measuring at_
      (if s.getC c RChan.MEAS_DELAY = 0 then settleTime (s.getC c RChan.PMU_RANGE) else s.getC c RChan.MEAS_DELAY * 1000000)
      (s.getC c RChan.MEAS_COUNT)))
    exact ⟨_, congrArg Host.Outcome.next ((State.hostChan_ready hr _).trans begins), State.ok_reply _,
      (State.getC_ok _ _ _).trans (State.getC_setC_same s c _ _), (OnlyObjs.refl s _).setC (List.mem_singleton_self _) _,
      congrArg ChanU.measSum chan, congrArg ChanU.measLeft chan, congrArg ChanU.measTotal chan, congrArg ChanU.measWait chan,
      ((ChanFrame.setO c s _ _).trans (ChanFrame.modChan _ c _)).trans (ChanFrame.answer c _ _)⟩
  case measDone =>
    intro s c hst hleft
    refine ⟨_, exec_measDone_all ⟨hst, hleft⟩, ?_, State.getC_setC_same _ _ _ _, ?_, ?_⟩
    · rw [getC_ne _ c _ (by decide), State.getC_setC_same]
    · exact ((OnlyObjs.refl s _).setC List.mem_cons_self _).setC (List.mem_cons_of_mem _ List.mem_cons_self) _
    · exact (ObjFrame.setC s c _ _).trans (ObjFrame.setC _ c _ _)
  case measNotDone =>
    intro s c h
    exact ⟨s, exec_measDone_before h, rfl⟩
  case sample =>
    rintro s d cv k v clamp c hp hk hlast hgood rfl hst hleft
    obtain ⟨status, chan, flags, objs⟩ := State.measSlot_is (s := s.modDie d (·.slotRun cv))
      (hst.imp id fun h => ⟨h.1, State.measSettled_slotRun h.2⟩) hleft v clamp
    exact ⟨_, exec_converterSlot_parametric hp hk hlast hgood v clamp, status, congrArg ChanU.measSum chan, congrArg ChanU.measLeft chan,
      congrArg ChanU.clampHit chan, flags, objs⟩
  case linkLost =>
    intro s b hp hroom
    have frame : ObjFrame s ((s.inhibitBay b 6 true).pmuOffBay b) :=
      (inhibitBay_frame s b 6 true).trans (State.pmuOffBay_frame _ b)
    refine ⟨_, exec_controlLinkLost_powered hp, fun c hc => ?_, ?_⟩
    · exact (State.getO_of_objs (send_objs _ _) _).trans (State.pmuOffBay_mode _ hc)
    · rw [send_ports _ _ (show 2 ≠ 3 by decide) (by rw [frame.ports]; exact hroom), frame.ports]

end Sys2Proof.Machine
end

section
/-! SUPPORT. The detector of a channel's edges (O17): the side of its band that CHANNEL_EDGE leaves it on, and a change that sets both
comparators. -/

namespace Sys2Proof.Machine

theorem State.side_ite {p : Prop} [Decidable p] {a b : State} {c : Chan} {x : Option Bool} (ha : (a.chan c).side = x)
    (hb : (b.chan c).side = x) : ((if p then a else b).chan c).side = x :=
  iteInduction (motive := fun u : State => (u.chan c).side = x) (fun _ => ha) (fun _ => hb)

/-- CMPH puts a channel's detector above the band, CMPL alone below, and neither leaves it, whatever an edge does at the bay (R202). -/
theorem channelEdge_side {s t : State} {c : Chan} {h l : Bool} {y o : Nat} (ht : exec (.channelEdge c h l y o) s = .next t) :
    (t.chan c).side = if h then some true else if l then some false else (s.chan c).side := by
  rw [← Host.Outcome.next.inj ht]
  dsimp only
  have moved := congrArg ChanU.side (State.chan_modChan_same s c (fun u => { u with
    side := if h then some true else if l then some false else u.side }))
  cases edgeDone (s.chan c).side h l with
  | none => exact moved
  | some rising =>
    have raised := (congrArg ChanU.side (State.chan_occur _ (evChan c 3) c)).trans moved
    exact State.side_ite moved (State.side_ite moved (State.side_ite raised raised))

/-- A bay in RUN on a locked clock whose trigger source is the rising edges of its channel 0, which was above VOH last: with both
comparators set, a falling edge is complete. -/
theorem exists_falling_edge_with_both_set : ∃ s : State, edgeDone (s.chan 0).side true true = some false ∧
    s.getB (bayOf 0) RBay.TRIG_SOURCE = 1 ∧ s.getB (bayOf 0) RBay.TRIG_PARAM % 16 = (0 : Chan).val % 16 ∧
    0 = fieldOf (s.getB (bayOf 0) RBay.TRIG_PARAM) 4 2 ∧ s.bayDown (bayOf 0) = false :=
  ⟨(((State.reset.setB 0 RBay.BAY_STATE BS.RUN).setB 0 RBay.TRIG_SOURCE 1).setO R.LOCK_MASK 1).modChan 0 (fun u => { u with side := some true }),
    by decide⟩

/-- Refutes O17: in its clause on a completed edge the detector ends on the side the edge goes to, for every pair of comparators.  From
above VOH with CMPH and CMPL both set the edge completed is a falling one, but CMPH keeps the detector above.  As VOL does not exceed
VOH (R153) no land sets both; the clause lacks the premise that they are not. -/
theorem not_captureAndTrigger : ¬ Obligations.CaptureAndTrigger := by
  intro claim
  obtain ⟨-, -, -, -, -, -, -, -, -, -, -, -, -, -, -, -, -, -, edge, -, -⟩ := claim
  obtain ⟨s, falling, source, place, direction, up⟩ := exists_falling_edge_with_both_set
  obtain ⟨t, ht, -, -, below, -⟩ := edge s 0 true true 0 0 false 0 falling source place direction up
  have above : (t.chan 0).side = some true := channelEdge_side ht
  exact absurd (above.symm.trans below) (by decide)

end Sys2Proof.Machine
end
